-- ==== Sys2Proof/Word.lean ====
section
/-!
DEFINITION. The machine's word and byte.
-/
namespace Sys2Proof

/-- A register word: every register access is a single 32-bit access (R700). -/
abbrev Word := BitVec 32

/-- One byte of a payload, a slot or a memory. -/
abbrev Byte := BitVec 8

end Sys2Proof
end

