-- ==== Sys2Proof/Syntax.lean ====
section
/-!
DEFINITION. The commands of the device: one constructor for each row of the opcode table, with the operands the row's
sender supplies. A row that the spec calls "Command 0x...." carries the channel it came through and the request payload
of R583; a register access carries the instance and the word; an event carries what the outside world shows the device.
-/
namespace Sys2Proof


/-! ### What a comparison of a candidate measures (R35, R36, R54) -/

/-- A measurement of a candidate, in 1/16 ns. -/
inductive Measure where
  /-- Kinds 1, 3 and 6: the time that the edge stands for less device time at the edge. -/
  | edge (ofs : Int)
  /-- Kind 2: no phase. -/
  | frequency
  /-- Kind 4, the end-to-end delay mechanism: the PTP domain of the messages, the origin time in the Sync message, that of the Follow_Up after a
  two-step Sync, the arrival of the Sync, the departure of the Delay_Req and its arrival at the grandmaster, and the corrections that the Sync with its
  Follow_Up and the Delay_Resp carry. -/
  | ptp (domain : Nat) (sync : Int) (followUp : Option Int) (t2 t3 t4 syncCorr respCorr : Int)
  /-- Kind 5: the `TIMING` messages of the fabric port. -/
  | fabric
deriving DecidableEq, Repr


/-! ### What a serial input shows (R194, R202) -/

/-- A payload identifier as ST 352 reads it: its four bytes and what they declare (R194). -/
structure PidInfo where
  word : Nat
  psf : Bool
  levelB : Bool
  /-- 4:2:2 YCbCr at 10 bits (R188). -/
  sampleOk : Bool
  /-- Quad link number minus 1. -/
  link : Nat
  /-- On a quad: two-sample interleave, not square division (R190). -/
  div2si : Bool
deriving DecidableEq, Repr

/-- A received frame as the receiver measures it: frame rate code, total and active lines, the active samples between a line's timing reference
signals, field structure, payload identifier; on a quad the skews of links 2 to 4 against link 1 in ns and whether the link numbers run 1 to 4 in port
order (R190 to R194). -/
structure RxFrame where
  rate : Nat
  lines : Nat
  active : Nat
  width : Nat
  interlaced : Bool
  pid : Option PidInfo
  skews : List Int
  linksOk : Bool
  stamp : Bool
deriving DecidableEq, Repr

/-- A ST 291-1 ancillary packet: its identifiers, its line, and its user data words (R200). -/
structure AncPkt where
  /-- [0] in the horizontal ancillary space; [1] in the chroma stream (R355). -/
  loc : Nat
  did : Nat
  sdid : Nat
  line : Nat
  data : List Nat
deriving DecidableEq, Repr, Inhabited

/-- A received ancillary packet, sorted as R199 sorts it. -/
inductive AncKind where
  | pid
  /-- Audio data of a group, or its audio control packet, declaring 48 kHz synchronous audio or not (R204). -/
  | audio (group : Nat) (control : Option Bool)
  /-- ST 12-2 time code: frames, flag of the pair, seconds, minutes, hours, drop frame, VITC kind (R202), and the packet itself. -/
  | atc (frames : Nat) (second : Bool) (sec min hour : Nat) (df vitc : Bool) (pkt : AncPkt)
  /-- A Tirard origin stamp: its 16 user data bytes (R278). -/
  | stamp (data : List Byte)
  /-- An RP 165 error detection packet, whose check words agree with the field received or not (R197). -/
  | edh (ok : Bool)
  | other (pkt : AncPkt)
deriving DecidableEq, Repr


/-! ### Ethernet frames and packets (R225 to R250) -/

/-- The pixels that a sample row data header announces (R240): row within its frame or field, second field, first pixel, and the pixel groups of 5 bytes:
Cb, Y, Cr, Y at 10 bits. -/
structure RowPart where
  row : Nat
  field2 : Bool
  offset : Nat
  data : List Byte
deriving DecidableEq, Repr

/-- The RTP part of a datagram (R240): payload type, sequence number (extended to 32 bits by its payload header for kind 0), timestamp, marker; of
kind 0 its sample rows; of kinds 1 and 2 whether its payload header shows it the first of its frame, of kind 2 also the header's frame count; the
bytes of other kinds; the ancillary packets of kinds 2 and 5, sorted, each with whether its checksum or parity fails. -/
structure RtpPkt where
  pt : Nat
  seq : Nat
  ts : Nat
  marker : Bool
  rows : List RowPart
  first : Bool
  count : Nat
  payload : List Byte
  anc : List (AncKind × Bool)
deriving DecidableEq, Repr

/-- What a frame carries: a UDP datagram with its addresses and destination port, an IPv4 fragment or a datagram with
options, or something else by its Ethertype. -/
inductive EthBody where
  | udp (dst src : List Byte) (port : Nat) (multicast : Bool) (rtp : RtpPkt)
  | fragment
  | other (etherType : Nat)
deriving DecidableEq, Repr

/-- A received frame: its length, whether its FCS is wrong, its destination address, its 802.1Q tags and VID, its body,
whether it is a membership query, the bytes waiting in the receive buffer when it arrives, and the codewords that forward error
correction corrected and could not correct since the last frame. -/
structure EthFrame where
  len : Nat
  fcsBad : Bool
  dest : List Byte
  tags : Nat
  vid : Nat
  body : EthBody
  query : Bool
  waiting : Nat
  fecCorr : Nat
  fecUncorr : Nat
deriving DecidableEq, Repr

/-! ### Frames for the stalls (R268 to R286) -/

/-- The 64-byte record that every frame in a stall carries (R276). Times count ns from the epoch. -/
structure FrameRec where
  fseq : Nat
  format : Nat
  /-- 0 ingress, 1 PTP-referenced, 2 time code. -/
  okind : Nat
  fromStamp : Bool
  complete : Bool
  srcLos : Bool
  stampStale : Bool
  ahead : Bool
  untrusted : Bool
  ingress : Nat
  origin : Nat
  hops : Nat
  /-- `FROZEN` in bits [3:0], region enabled in [7:4]. -/
  watch : Nat
  sig : Nat
  emitter : Nat
  rtpTs : Nat
  atc : Nat
deriving DecidableEq, Repr, Inhabited

/-- A frame as its writer hands it to a stall: format code; PsF or interlaced order; complete; the samples of its active
lines in transmission order, two bytes a sample (R277), or its codestream; device time in ns of its first line or packet;
the first origin stamp with whether parity and checksum are right, and its 16 user data bytes; RTP timestamp; time code
word; on a line-locked stall its phase in 1/16 line; for a mirror stall the record that travels with it. What the source's own
receiver has gathered of it (`Given`) takes the place of what stands here. -/
structure FrameIn where
  fmt : Nat
  psf : Bool
  complete : Bool
  coded : Bool
  pic : List Byte
  ingress : Nat
  stamp : Option (Bool × List Byte)
  rtp : Option Nat
  atc : Option Nat
  phase : Int
  mirror : Option FrameRec
deriving DecidableEq, Repr


/-! ### Packets on a fabric port (R344 to R351) -/

/-- A packet as the lanes of a fabric port bring it: the blocks from its first on, each its start bit and its 32 data bytes as on the line, the markers
among them; the place of the first in the port frame; the last 58 scrambled bits before it, the oldest in bit 0; the codewords that were uncorrectable, by
lane within the port and codeword of the lane frame. -/
structure Packet where
  blocks : List (Bool × List Byte)
  place : Nat
  before : Nat
  lost : List (Nat × Nat)
deriving DecidableEq, Repr



/-! ### Audio samples (R475 to R488) -/

/-- Samples that reach an input group: the group, the house sample count or RTP timestamp of a timeline-indexed one, a 24-bit sample for each
channel; on an AES3 port also a parity error, and at the end of a block whether its CRC is right with its channel status bytes 0 to 3. -/
structure AudioIn where
  group : Nat
  tag : Nat
  samples : List Int
  parity : Bool
  block : Option (Bool × Nat)
deriving DecidableEq, Repr

/-- A request of a matrix master: for `HOSTP` the BAR0 region it came through, 0 the host area, 1 the mirror, 2 BAR2; a size in bytes; data to
write; cycles it has waited; whether its target answers (R563, R568, R574). -/
structure MatReq where
  master : Nat
  tid : Nat
  region : Nat
  addr : Nat
  size : Nat
  data : Option (List Byte)
  waited : Nat
  answered : Bool
deriving DecidableEq, Repr


/-- The commands, one constructor for each row of the opcode table. -/
inductive Instr where
  /-- POWER_ON_RESET (R103). Power-on reset: device time is set to 0 s unsynchronised, TIME_RAW restarts from 0 and every register takes its reset value. -/
  | powerOnReset
  /-- RESET_N_ASSERT (R721). RESET_N goes low: the device is held in reset, and every flash, drive or fuse write in flight is treated as power loss. -/
  | resetNAssert
  /-- POWER_ON_RELEASE (R628). RESET_N rises: MC[0] runs the boot ROM, samples the straps, senses the fuses, completes a cut-short transition and checks retention. -/
  | powerOnRelease (slotId : Nat)
  /-- SELFTEST_PHASE_DONE (R629). A self-test phase completes and its result is classed as pass, isolatable or fatal. -/
  | selftestPhaseDone (phase : Nat) (buffer : Bool) (bad : List Nat) (yard : List (Nat × Nat))
  /-- RELEASE (R627). The firmware applies the saved settings, enables the blocks they name and lets the data path run. -/
  | releaseDevice
  /-- SLOT_COPY_DONE (R641). A save, install or rollback copy of a flash slot completes and is verified, and the update state advances. -/
  | slotCopyDone (good : Bool)
  /-- TIME_TICK (R102). At each counter tick, device time advances by 1 + r ns. -/
  | timeTick
  /-- SET_GO (R109). A write of SET_GO makes a first set of device time, or is discarded with SET_REJECTED. -/
  | setGo (v : Word) (tie : Bool)
  /-- UNSYNC (R111). A write of UNSYNC returns device time to the unsynchronised state and clears TIME_ADJ. -/
  | unsync (v : Word)
  /-- TIME_ADJ_DONE (R105). The slewed phase correction TIME_ADJ reaches zero and ADJ_DONE is set. -/
  | timeAdjDone
  /-- TIME_NS_READ (R127). A read of TIME_NS latches the seconds and fraction from the same tick. -/
  | timeNsRead
  /-- TIME_RAW_LO_READ (R127). A read of TIME_RAW_LO latches TIME_RAW_HI. -/
  | timeRawLoRead
  /-- TIME_RATE_LO_READ (R127). A read of TIME_RATE_LO latches TIME_RATE_HI. -/
  | timeRateLoRead
  /-- TMR_ARM (R119). A write of ARM arms or re-arms a timer, fires a late one-shot at once, or is rejected with CFG_REJECTED. -/
  | tmrArm (n : Nat) (v : Word)
  /-- TIMER_FIRE (R117). Device time reaches a timer's programmed time: the timer pulses, sets FIRED and reschedules if periodic. -/
  | timerFire (n : Nat)
  /-- CAPTURE_EDGE (R123). A selected edge of a capture source is stamped into the unit's queue, or is dropped on overflow. -/
  | captureEdge (n : Nat) (rising : Bool) (quarters : Nat)
  /-- CAP_NS_READ (R126). A management-core read of CAP_NS latches and removes the oldest capture entry. -/
  | capNsRead (n : Nat)
  /-- TIME_UNSYNC (R112). Command 0x0207 returns device time to the unsynchronised state, unless a take is armed. -/
  | timeUnsync (ch : Nat) (p : List Byte)
  /-- TIME_GET (R134). Command 0x0208 returns device time, its state, rate and adjustment. -/
  | timeGet (ch : Nat) (p : List Byte)
  /-- TMR_SET (R135). Command 0x0209 sets a timer's fields in one step. -/
  | tmrSet (ch : Nat) (p : List Byte)
  /-- CAP_SET (R134). Command 0x020A configures a capture unit. -/
  | capSet (ch : Nat) (p : List Byte)
  /-- CAP_READ (R131). Command 0x020B returns and removes up to four capture entries. -/
  | capRead (ch : Nat) (p : List Byte)
  /-- PLL_TRACK_UPDATE (R88). Every 1 µs, a tracking synthesizer scales its divider word by 1 + r and moves a ramp by STEP. -/
  | pllTrackUpdate (m : Nat)
  /-- PLL_COUNT_CORRECT (R88). Every 1 ms of device time, a tracking synthesizer feeds its cycle-count error back through the modulator. -/
  | pllCountCorrect (m count : Nat)
  /-- PLL_LOCK_WINDOW (R89). A lock window ends and its count is compared, declaring or losing lock. -/
  | pllLockWindow (m count : Nat)
  /-- OSC_IN_LOST (R90). OSC_IN shows no edge for 1 µs, so lock is lost and the synthesizer coasts. -/
  | oscInLost
  /-- PLL_DIVIDER_WRITE (R96). A write to N_INT or N_FRAC of a locked media synthesizer is applied without reacquisition, or is rejected. -/
  | pllDividerWrite (m which : Nat) (v : Word)
  /-- PLL_SMALL_WRITE (R99). Any configuration write to a small synthesizer restarts its acquisition. -/
  | pllSmallWrite (m which : Nat) (v : Word)
  /-- RAMP_GO (R97). A write of GO to PLL_RAMP_GO starts the ramp profile at segment 0. -/
  | rampGo (m : Nat) (v : Word)
  /-- RAMP_ABORT (R98). A write of ABORT stops the ramp at the current word. -/
  | rampAbort (m : Nat) (v : Word)
  /-- RAMP_HOLD_END (R97). A ramp segment's HOLD time expires and the next segment starts, or the ramp ends with RAMP_DONE. -/
  | rampHoldEnd (m : Nat)
  /-- REF_CANDIDATE_WRITE (R42). A write to REF_CFG, REF_QUAL or REF_COMP makes the candidate invalid and restarts its checks. -/
  | refCandidateWrite (n which : Nat) (v : Word)
  /-- CANDIDATE_LOST (R40). A loss condition of a candidate is met, so it turns invalid and CAND_LOST is set. -/
  | candidateLost (n : Nat)
  /-- CANDIDATE_QUALIFIED (R41). A candidate's wait-to-restore time expires and it becomes qualified. -/
  | candidateQualified (n : Nat)
  /-- SELECTION_EVAL (R47). Once per millisecond, the reference selection is evaluated and the loop state changes. -/
  | selectionEval
  /-- DPLL_COMPARISON (R55). At the comparison rate, the loop measures and filters the phase of the selected candidate. -/
  | dpllComparison (n : Nat) (m : Measure) (freq : Int)
  /-- LOCK_DECLARED (R54). The phase error stays within LOCK_PH for LOCK_DWELL, so lock is declared. -/
  | lockDeclared
  /-- BW_STEP_DOWN (R52). After lock, the loop bandwidth steps down one code every LOCK_DWELL seconds. -/
  | bwStepDown
  /-- FREQ_HISTORY_STORE (R59). Once per second in LOCKED, the averaged frequency is stored in the history. -/
  | freqHistoryStore
  /-- HOLDOVER_CHECK (R62). Once per second in holdover, the predicted phase error is computed and HO_EXPIRED may be set. -/
  | holdoverCheck
  /-- FORCE_HOLDOVER (R64). SEL_MODE written 2 forces holdover. -/
  | forceHoldover (v : Word)
  /-- FORCE_FREERUN (R64). SEL_MODE written 3 forces free run. -/
  | forceFreerun (v : Word)
  /-- TL_CFG_WRITE (R70). A write to TL_CFG is stored, or is discarded with TL_CFG_REJECTED while the timeline is enabled. -/
  | tlCfgWrite (k : Nat) (v : Word)
  /-- TL_POS_FRAME_LO_READ (R71). A read of TL_POS_FRAME_LO latches the rest of the timeline position. -/
  | tlPosFrameLoRead (k : Nat)
  /-- FP_PULSE (R72). A frame-pulse output emits its pulse and records its misalignment. -/
  | fpPulse (j frame : Nat)
  /-- FP_ALIGN_GO (R75). A write of GO to FP_ALIGN starts a step or slew realignment. -/
  | fpAlignGo (j : Nat) (v : Word)
  /-- REF_SET_CANDIDATE (R83). Command 0x0201 configures a reference candidate. -/
  | refSetCandidate (ch : Nat) (p : List Byte)
  /-- REF_SET_LOOP (R82). Command 0x0202 sets the loop and holdover settings. -/
  | refSetLoop (ch : Nat) (p : List Byte)
  /-- REF_GET_STATUS (R82). Command 0x0203 returns the reference status and clears the history bits it names. -/
  | refGetStatus (ch : Nat) (p : List Byte)
  /-- TL_SET (R84). Command 0x0204 configures a house timeline. -/
  | tlSet (ch : Nat) (p : List Byte)
  /-- FP_SET (R72). Command 0x0205 configures a frame-pulse output. -/
  | fpSet (ch : Nat) (p : List Byte)
  /-- FP_REALIGN (R75). Command 0x0206 starts a realignment and returns the misalignments. -/
  | fpRealign (ch : Nat) (p : List Byte)
  /-- LANE_CONDITION (R155). A lane detects LOS, LOL or SNR_LOW and, if in service, starts its retrain. -/
  | laneCondition (l kind : Nat)
  /-- RETRAIN_END (R156). A lane retrain completes or times out, and the fault is classed transient or lasting. -/
  | retrainEnd (l : Nat) (ok : Bool)
  /-- LASTING_RETRY (R157). After a lasting fault, the lane retries every RETRY_INT seconds. -/
  | lastingRetry (l : Nat) (ok : Bool)
  /-- RETRAIN (R156). A write of RETRAIN retrains the lane now. -/
  | retrain (l : Nat) (v : Word)
  /-- HUNT_DWELL_END (R141). A hunting media lane's 100 µs dwell ends without lock and the lane moves to the next rate. -/
  | huntDwellEnd (l : Nat)
  /-- LANE_LOCK_GAINED (R141). A lane's clock-recovery loop locks, stopping the hunt or advancing bring-up. -/
  | laneLockGained (l : Nat)
  /-- FREEZE_WRITE (R152). A write of FREEZE holds or releases the receive equaliser. -/
  | freezeWrite (l : Nat) (v : Word)
  /-- RX_EQ_LOAD (R153). A write of LOAD applies the written receive equaliser values. -/
  | rxEqLoad (l : Nat) (v : Word)
  /-- INJ_ERR (R170). A write of INJ_ERR inverts one transmitted bit in the TEST state. -/
  | injErr (l : Nat) (v : Word)
  /-- EYE_GO (R172). A write of GO to EYE_CFG starts an eye measurement. -/
  | eyeGo (l : Nat) (v : Word)
  /-- EYE_MEASUREMENT_END (R172). An eye measurement completes or is ended, writing EYE_RESULT and setting EYE_DONE. -/
  | eyeMeasurementEnd (l width height errs : Nat) (full : Bool)
  /-- CHECKER_SYNC (R167). The pattern checker gains sync after 64 error-free bits. -/
  | checkerSync (l : Nat) (bits : List Bool)
  /-- CHECKER_LOST (R167). The pattern checker loses sync on its error window and seeds itself again. -/
  | checkerLost (l errs units window : Nat)
  /-- CHK_ERR_LO_READ (R169). A management-core read of CHK_ERR_LO latches the checker counters. -/
  | chkErrLoRead (l errs units : Nat)
  /-- LOOPBACK_SET (R164). A write of LB changes the loopback within 10 µs, and clearing it starts a retrain. -/
  | loopbackSet (l : Nat) (v : Word)
  /-- LANE_POWER_SET (R178). A write of POWER changes the lane power state and ends any test under way. -/
  | lanePowerSet (l : Nat) (v : Word)
  /-- LANE_TEST (R181). Command 0x0340 sets loopback and pattern tests on a lane. -/
  | laneTest (ch : Nat) (p : List Byte)
  /-- LANE_GET_STATS (R183). Command 0x0341 returns a coherent snapshot of the lane's status and counters. -/
  | laneGetStats (ch : Nat) (p : List Byte) (errs units : Nat)
  /-- LANE_SET_EQ (R184). Command 0x0342 writes, freezes or loads the lane's equalisers. -/
  | laneSetEq (ch : Nat) (p : List Byte)
  /-- LANE_EYE (R181). Command 0x0343 starts an eye measurement. -/
  | laneEye (ch : Nat) (p : List Byte)
  /-- FAB_PORT_ENABLE (R145). A fabric port is enabled and lane 0 starts acquiring at code 0. -/
  | fabPortEnable (q : Nat)
  /-- ACQUIRE_TIMEOUT (R145). Lane 0 has no lock within 100 ms and is restarted. -/
  | acquireTimeout (q : Nat)
  /-- RATE_SWITCH (R366). The agreed switch frame passes and all four lanes start training at the chosen rate. -/
  | rateSwitch (q : Nat)
  /-- LANE_TRAINED (R373). Both RX_READY bits hold for four lane frames, so the lane is trained. -/
  | laneTrained (l : Nat)
  /-- TRAIN_TIMEOUT (R145). A lane is not trained within TRAIN_TMO, so it retrains or the port steps down a rate. -/
  | trainTimeout (q : Nat)
  /-- VERIFY_END (R145). The 10 ms pattern verification ends and the port goes in service or counts a failure. -/
  | verifyEnd (q bad : Nat)
  /-- SINGLE_RETRY (R146). A port in SINGLE retries four-lane bring-up every RETRY_INT seconds. -/
  | singleRetry (q : Nat)
  /-- SDI_RX_ENABLE (R195). EN written 1 starts a receiver hunting. -/
  | sdiRxEnable (n : Nat) (v : Word)
  /-- SDI_RX_DISABLE (R195). EN written 0 stops a receiver at once, or at the end of the frame being received. -/
  | sdiRxDisable (n : Nat) (v : Word)
  /-- SDI_RX_RESTART (R195). A change of FORMAT or QUAD restarts the receiver. -/
  | sdiRxRestart (n : Nat) (v : Word)
  /-- SDI_RX_FRAME (R195). A received frame is judged for lock, format and payload identifier. -/
  | sdiRxFrame (n : Nat) (m : RxFrame)
  /-- SDI_RX_LINE (R197). A received line is checked for CRC, TRS and line number and is delivered. -/
  | sdiRxLine (n : Nat) (crcBad trsBad numBad : Bool)
  /-- ANC_PACKET_RX (R199). A received ancillary packet is sorted to the receiver, de-embedder, stall engine or ancillary store. -/
  | ancPacketRx (n : Nat) (kind : AncKind) (bad : Bool)
  /-- SDI_TX_ENABLE (R206). EN written 1 starts a transmitter at its next frame start. -/
  | sdiTxEnable (n : Nat) (v : Word)
  /-- SDI_TX_DISABLE (R206). EN written 0 ends the output after the frame being sent. -/
  | sdiTxDisable (n : Nat) (v : Word)
  /-- SDI_TX_LINE (R205). A transmitter sends a line at its timeline position, substituting if it is missing. -/
  | sdiTxLine (n frame line off : Nat) (live : Option (List (List Byte)))
  /-- CREW_CFG_WRITE (R213). A write to CREW_CFG is stored, or is discarded while a transmitter of the crew is enabled. -/
  | crewCfgWrite (c : Nat) (v : Word)
  /-- SDI_RX_SET (R195). Command 0x0301 configures a receiver. -/
  | sdiRxSet (ch : Nat) (p : List Byte)
  /-- SDI_TX_SET (R218). Command 0x0302 configures a transmitter. -/
  | sdiTxSet (ch : Nat) (p : List Byte)
  /-- SDI_GET_STATUS (R217). Command 0x0303 returns a port's status and counters. -/
  | sdiGetStatus (ch : Nat) (p : List Byte)
  /-- CREW_SET (R213). Command 0x0304 assigns a crew's synthesizer and timeline. -/
  | crewSet (ch : Nat) (p : List Byte)
  /-- ETH_FRAME_RX (R225). A received Ethernet frame passes the receive steps and is dropped, captured or passed to IPM. -/
  | ethFrameRx (e : Nat) (f : EthFrame)
  /-- ETH_LINK_CHANGE (R224). A port's link comes up or goes down. -/
  | ethLinkChange (e : Nat) (up : Bool)
  /-- LEG_TIMEOUT (R239). A leg delivers no packet for LEG_TMO, so it is lost. -/
  | legTimeout (i : Nat) (blue : Bool)
  /-- MERGE_WIN_EXPIRY (R241). MERGE_WIN passes after the next frame begins, and the frame closes incomplete. -/
  | mergeWinExpiry (i : Nat)
  /-- MEDIA_PACKET_TX (R246). A flow packet is sent at its scheduled time, or is dropped when more than 2 µs late. -/
  | mediaPacketTx (k frame j late : Nat) (live : Option (List (List Byte)))
  /-- FW_FRAME_TX (R230). A firmware frame is sent in a gap between media packets. -/
  | fwFrameTx (e len : Nat) (y : EthBody) (msg : Option (Nat × Nat))
  /-- ETH_CNT_LO_READ (R233). A management-core read of ETH_CNT_LO latches the high half and clears the counter. -/
  | ethCntLoRead (e c late : Nat)
  /-- PTP_TX_ID_READ (R255). A management-core read of PTP_TX_ID latches and removes the oldest transmit stamp. -/
  | ptpTxIdRead (e : Nat)
  /-- ETH_SET_PORT (R257). Command 0x0310 configures an Ethernet port. -/
  | ethSetPort (ch : Nat) (p : List Byte)
  /-- ETH_GET_STATS (R233). Command 0x0311 returns and clears a port's counters. -/
  | ethGetStats (ch : Nat) (p : List Byte)
  /-- FLOW_RX_SET (R254). Command 0x0320 configures a receive flow and joins or leaves its groups. -/
  | flowRxSet (ch : Nat) (p : List Byte)
  /-- FLOW_TX_SET (R238). Command 0x0321 configures a transmit flow. -/
  | flowTxSet (ch : Nat) (p : List Byte)
  /-- FLOW_GET_STATUS (R256). Command 0x0322 returns a flow's status and counters. -/
  | flowGetStatus (ch : Nat) (p : List Byte)
  /-- STALL_FRAME_COMPLETE (R264). A frame completes in a stall, replacing any waiting frame and computing its record and watch regions. -/
  | stallFrameComplete (j : Nat) (f : FrameIn)
  /-- STALL_LATCH (R263). At a latch, the newest complete frame is latched or the previous one is repeated. -/
  | stallLatch (j n : Nat)
  /-- STALL_ENABLE_WRITE (R268). A write of EN starts a stall in EMPTY, or takes it to OFF at the next latch. -/
  | stallEnableWrite (j : Nat) (v : Word)
  /-- STALL_FSEQ_LO_READ (R300). A management-core read of STALL_FSEQ_LO latches FSEQ high and the signature. -/
  | stallFseqLoRead (j : Nat)
  /-- FRESH_DECISION (R288). At line D, a checkpoint judges its frame and may enter or leave the stale state. -/
  | freshDecision (c n : Nat)
  /-- FRESH_CFG_WRITE (R291). A write to a checkpoint's configuration takes effect at the next decision. -/
  | freshCfgWrite (c which : Nat) (v : Word)
  /-- STALL_SET (R298). Command 0x0330 configures a stall. -/
  | stallSet (ch : Nat) (p : List Byte)
  /-- WATCH_SET (R294). Command 0x0331 configures a watch region. -/
  | watchSet (ch : Nat) (p : List Byte)
  /-- FRESH_SET (R291). Command 0x0332 configures a checkpoint. -/
  | freshSet (ch : Nat) (p : List Byte)
  /-- FRESH_GET_STATUS (R298). Command 0x0333 returns a checkpoint's status. -/
  | freshGetStatus (ch : Nat) (p : List Byte)
  /-- STALL_GET_STATUS (R298). Command 0x0334 returns a stall's status and latched record. -/
  | stallGetStatus (ch : Nat) (p : List Byte)
  /-- YARD_CARVE (R295). Command 0x0335 sets the sizes of the yard regions. -/
  | yardCarve (ch : Nat) (p : List Byte)
  /-- FABRIC_SET (R302). Command 0x0401 sets the fabric size and fabric parameters. -/
  | fabricSet (ch : Nat) (p : List Byte)
  /-- FAB_ALLOW (R306). Command 0x0402 sets an entry of the identity allow list. -/
  | fabAllow (ch : Nat) (p : List Byte)
  /-- FAB_SUBSCRIBE (R342). Command 0x0410 subscribes to both copies of a remote stream. -/
  | fabSubscribe (ch : Nat) (p : List Byte)
  /-- FAB_RELEASE (R321). Command 0x0411 releases both copies of a stream. -/
  | fabRelease (ch : Nat) (p : List Byte)
  /-- FAB_GET_PORT (R341). Command 0x0420 returns a fabric port's status and counters. -/
  | fabGetPort (ch : Nat) (p : List Byte)
  /-- FAB_GET_SOURCE (R341). Command 0x0421 returns a source's subscribers and seats. -/
  | fabGetSource (ch : Nat) (p : List Byte)
  /-- MARKER_BLOCK_RX (R348). A marker block is received and block lock and deskew are updated. -/
  | markerBlockRx (l : Nat) (m : List Byte)
  /-- TRAINING_BLOCK_RX (R372). A training block is received and its coefficient request is applied. -/
  | trainingBlockRx (l : Nat) (m : List Byte) (ready : Bool)
  /-- HELLO_RX (R304). A HELLO is received and the peer is accepted, rejected or found incompatible. -/
  | helloRx (q : Nat) (p : Packet)
  /-- AUTH_RX (R306). An AUTH part is received and, on the final part, the peer's signature is verified. -/
  | authRx (q : Nat) (p : Packet)
  /-- TIMING_RX (R367). A TIMING message is stamped and the peer's time and delay are computed. -/
  | timingRx (q : Nat) (p : Packet)
  /-- ADVERT_RX (R312). An ADVERT updates the known free seats and peer states of the sender. -/
  | advertRx (q : Nat) (p : Packet)
  /-- CREDIT_RX (R362). A CREDIT updates freed buffers and fills SEQ gaps. -/
  | creditRx (q : Nat) (p : Packet)
  /-- KEEPALIVE_RX (R374). A KEEPALIVE message is received. -/
  | keepaliveRx (q : Nat) (p : Packet)
  /-- WAKE_RX (R369). A WAKE with a matching tag brings the port to four lanes or wakes the device. -/
  | wakeRx (q : Nat) (p : Packet)
  /-- SUBSCRIBE_RX (R330). A SUBSCRIBE is admitted at the source or relay, or is answered from stored responses. -/
  | subscribeRx (q : Nat) (p : Packet)
  /-- RELEASE_RX (R321). A RELEASE stops sending on the path at the next frame start. -/
  | releaseRx (q : Nat) (p : Packet)
  /-- GRANT_RX (R342). A GRANT answers a subscription and may arm a pending take. -/
  | grantRx (q : Nat) (p : Packet)
  /-- ARM_RX (R406). The leader receives a member's ARM and answers with ACK. -/
  | armRx (q : Nat) (p : Packet)
  /-- VOTE_RX (R408). The leader receives a vote and decides once every member has voted. -/
  | voteRx (q : Nat) (p : Packet)
  /-- GO_RX (R409). A member receives GO, commits or abandons its takes, and answers with ACK. -/
  | goRx (q : Nat) (p : Packet)
  /-- ACK_RX (R406). The cox receives an ACK for a regatta message. -/
  | ackRx (q : Nat) (p : Packet)
  /-- JOURNAL_RX (R540). The other member applies received journal entries and compares signatures. -/
  | journalRx (q : Nat) (p : Packet)
  /-- STROKE_RX (R331). A received stroke is checked and merged into its ring, or relayed once. -/
  | strokeRx (q : Nat) (p : Packet) (full : List Nat)
  /-- STROKE_TX (R335). A stroke leaves at line L + 3, or is dropped when it cannot arrive in time. -/
  | strokeTx (src typ frame line : Nat) (late : List Nat) (live : Option (List Byte))
  /-- STROKE_RELEASE (R335). At line L + 7 the merged line goes to consumers, or is counted missing. -/
  | strokeRelease (i typ frame line : Nat)
  /-- COPY_LOSS_CHECK (R333). A copy with no valid stroke for a whole frame is marked lost. -/
  | copyLossCheck (i : Nat)
  /-- PEER_LOSS_TIMEOUT (R308). No control message arrives for 10 ms, so the port leaves UP and its grants are held. -/
  | peerLossTimeout (q : Nat)
  /-- AUTH_TIMEOUT (R375). No final AUTH arrives within 100 ms, so the peer becomes UNTRUSTED. -/
  | authTimeout (q : Nat)
  /-- UNTRUSTED_RETRY (R375). After 10 s in UNTRUSTED, a new HELLO is sent. -/
  | untrustedRetry (q : Nat)
  /-- HELLO_SEND (R376). A HELLO is sent at its interval. -/
  | helloSend (q cnt : Nat)
  /-- KEEPALIVE_SEND (R376). A KEEPALIVE is sent after 1 ms with nothing sent on the port. -/
  | keepaliveSend (q : Nat)
  /-- TIMING_SEND (R367). A TIMING message is sent 1,000 times a second. -/
  | timingSend (q : Nat)
  /-- ADVERT_SEND (R312). An ADVERT is sent every 10 ms and within 1 ms of a change. -/
  | advertSend
  /-- CREDIT_SEND (R376). A CREDIT is sent after a buffer is freed and every 1 ms. -/
  | creditSend (q : Nat)
  /-- REROUTE_TIMEOUT (R314). A path has been lost for REROUTE_MS, so its copies are subscribed again. -/
  | rerouteTimeout (paths : List (Nat × Nat))
  /-- WAITING_ROUTE_RETRY (R314). Every second, a copy in WAITING_ROUTE is tried again. -/
  | waitingRouteRetry (stream content : Nat)
  /-- REVERT_TIMEOUT (R315). The direct link has been UP for REVERT_S, so relayed copies are moved back. -/
  | revertTimeout (src : Nat)
  /-- SUBSCRIBE_RESEND (R318). An unanswered SUBSCRIBE or RELEASE is resent, or fails with TIMEOUT. -/
  | subscribeResend (kind tid dst : Nat)
  /-- HOLD_EXPIRY (R322). HOLD_MS elapses in HELD and the grant's seats are freed. -/
  | holdExpiry (stream content sub relay hop : Nat)
  /-- RELEASE_FREE (R321). Two frames after a release, the seats are freed. -/
  | releaseFree (stream content sub relay hop : Nat)
  /-- GRANT_GROW_ATTEMPT (R329). At a frame start, a withheld stream's grant is grown, or the stream is resumed. -/
  | grantGrowAttempt (q src : Nat)
  /-- TAKE (R395). Command 0x0501 queues a take for a target at catch frame C. -/
  | take (ch : Nat) (p : List Byte)
  /-- TAKE_CANCEL (R401). Command 0x0502 cancels a take or a whole regatta. -/
  | takeCancel (ch : Nat) (p : List Byte)
  /-- REGATTA_OPEN (R404). Command 0x0503 opens a regatta on a member or the leader. -/
  | regattaOpen (ch : Nat) (p : List Byte)
  /-- TAKE_STATUS (R413). Command 0x0504 returns a take's state. -/
  | takeStatus (ch : Nat) (p : List Byte)
  /-- TARGET_GET (R412). Command 0x0505 returns a target's sources and state. -/
  | targetGet (ch : Nat) (p : List Byte)
  /-- REGATTA_STATUS (R413). Command 0x0506 returns a regatta's state. -/
  | regattaStatus (ch : Nat) (p : List Byte)
  /-- CATCH_SET (R415). Command 0x0507 sets a target's catch lines. -/
  | catchSet (ch : Nat) (p : List Byte)
  /-- COX_TGT_CFG_WRITE (R382). A write to COX_TGT_CFG is stored, or is discarded when a value is out of range. -/
  | coxTgtCfgWrite (t : Nat) (v : Word)
  /-- TAKE_EXECUTE (R385). At the catch line, an armed or committed take switches its target's sources. -/
  | takeExecute (i : Nat)
  /-- ARM_DEADLINE (R397). At frame C − 3, unarmed takes end LATE and members cast their votes. -/
  | armDeadline (tl c : Nat)
  /-- VOTE_DEADLINE (R408). At frame C − 2, the leader decides its verdict. -/
  | voteDeadline (tl c : Nat)
  /-- GO_SEND (R409). At frame C − 1, the leader sends GO to every member. -/
  | goSend (tl c : Nat)
  /-- GO_DEADLINE (R409). At frame C, a member with no GO abandons its takes. -/
  | goDeadline (tl c : Nat)
  /-- REGATTA_RESEND (R376). An unanswered ARM, VOTE or GO is resent after 0.5 ms. -/
  | regattaResend (kind tid dst : Nat)
  /-- HOLDER_RELEASE (R399). After the feather, a source removed by a take loses a holder and may be released. -/
  | holderRelease (t : Nat)
  /-- TAKE_ENTRY_FREE (R400). Sixteen frames after its outcome, a take entry is freed. -/
  | takeEntryFree (i : Nat)
  /-- HEAD_FRAME_START (R427). At a head's frame start, pending layer, z-order, colour and bank changes take effect. -/
  | headFrameStart (h n : Nat)
  /-- HEAD_LINE (R419). A head composes a line, drawing the guard bitmap and the markers. -/
  | headLine (h line late : Nat)
  /-- HEAD_ENABLE_WRITE (R423). A write of a head's EN starts it, or stops it at the end of the frame. -/
  | headEnableWrite (h : Nat) (v : Word)
  /-- GUARD_OP_APPLY (R451). Queued guard operations are applied in the blanking of their apply frame. -/
  | guardOpApply (tl n : Nat)
  /-- HEAD_SET (R423). Command 0x0601 configures a head. -/
  | headSet (ch : Nat) (p : List Byte)
  /-- LAYER_SET (R428). Command 0x0602 sets a layer's window, key and filter. -/
  | layerSet (ch : Nat) (p : List Byte)
  /-- ZORDER_SET (R434). Command 0x0603 sets a head's blend order. -/
  | zorderSet (ch : Nat) (p : List Byte)
  /-- LUT_SET (R438). Command 0x0604 writes or commits a look-up table bank. -/
  | lutSet (ch : Nat) (p : List Byte)
  /-- CSC_SET (R438). Command 0x0605 writes or commits a colour matrix bank. -/
  | cscSet (ch : Nat) (p : List Byte)
  /-- STILL_SET (R439). Command 0x0606 configures a still store. -/
  | stillSet (ch : Nat) (p : List Byte)
  /-- STILL_COMMIT (R440). Command 0x0607 commits the back buffer of a still store at the next frame start. -/
  | stillCommit (ch : Nat) (p : List Byte)
  /-- HEAD_GET_STATUS (R461). Command 0x0608 returns a head's status. -/
  | headGetStatus (ch : Nat) (p : List Byte)
  /-- GUARD_MSG (R449). Command 0x0610 delivers a guard message, which the safety core checks and queues. -/
  | guardMsg (ch : Nat) (p : List Byte)
  /-- GLYPH_READ (R736). Command 0x0611 returns glyphs from the glyph store. -/
  | glyphRead (ch : Nat) (p : List Byte)
  /-- AUDIO_SAMPLE (R469). At each house sample, every output slot takes its input and each group is read. -/
  | audioSample (n : Nat) (ins : List AudioIn)
  /-- GROUP_OFFSET_FIX (R477). At the frame start after the fill reaches DEPTH, a group fixes its offset k0. -/
  | groupOffsetFix (g h : Nat)
  /-- FADE_END (R479). A group's fade ends and it refills or waits, then fades in. -/
  | fadeEnd (g : Nat)
  /-- AUD_BLOCK_RETRY (R470). At each frame start, a fabric audio block assignment that missed is tried again. -/
  | audBlockRetry (i : Nat)
  /-- ROUTE_APPLY (R473). At the apply sample, AUD_ROUTE crosspoint changes are made with a crossfade. -/
  | routeApply (n : Nat)
  /-- CROSSFADE_END (R474). A slot's crossfade ends and any waiting change starts. -/
  | crossfadeEnd (o : Nat)
  /-- SAP_CLOCK_LOST (R482). A slave side sees no FS edge for 1 ms and enters NO_CLOCK. -/
  | sapClockLost (n : Nat) (tx : Bool)
  /-- AES3_LOCK (R487). The AES3 receiver gains lock and the converter takes a synchronising reset. -/
  | aes3Lock (n rate : Nat)
  /-- SAP_COMMON_START (R484). At sample n0, every masked serial audio side starts. -/
  | sapCommonStart
  /-- AUD_SET (R491). Command 0x0701 sets the fades and tone generators. -/
  | audSet (ch : Nat) (p : List Byte)
  /-- AUD_ROUTE (R473). Command 0x0702 schedules crosspoint changes. -/
  | audRoute (ch : Nat) (p : List Byte)
  /-- AUD_MAP (R468). Command 0x0703 maps a source, output or flow to slots. -/
  | audMap (ch : Nat) (p : List Byte)
  /-- AUD_GRP_SET (R476). Command 0x0704 sets a group's DEPTH or DELAY. -/
  | audGrpSet (ch : Nat) (p : List Byte)
  /-- SAP_SET (R487). Command 0x0705 configures a serial audio port. -/
  | sapSet (ch : Nat) (p : List Byte)
  /-- SAP_START (R485). Command 0x0706 arms a common start. -/
  | sapStart (ch : Nat) (p : List Byte)
  /-- AUD_GET_STATUS (R491). Command 0x0707 returns a group's status. -/
  | audGetStatus (ch : Nat) (p : List Byte)
  /-- TAP_FRAME (R494). For each output frame, the tap computes the signature and writes its records. -/
  | tapFrame (t n : Nat)
  /-- PICTURE_CODED (R503). A witness or incident picture finishes coding, or is dropped when late. -/
  | pictureCoded (t : Nat) (full : Bool) (shifts : List Nat) (late : Bool)
  /-- BALE_OPEN (R510). A bale takes the next ring slot and its open header is written. -/
  | baleOpen (k : Nat)
  /-- CHUNK_WRITE_DONE (R510). A 64 KiB body chunk write to the drive completes. -/
  | chunkWriteDone (k : Nat)
  /-- STAGING_FULL_DROP (R511). A chunk finds no staging room and its bale is dropped whole. -/
  | stagingFullDrop (k : Nat)
  /-- BALE_SEAL (R512). A bale is sealed, signed if due, and its final header written. -/
  | baleSeal (k : Nat)
  /-- SEAL_TIMEOUT (R512). A bale has been open for SEAL_S seconds and is sealed. -/
  | sealTimeout (k : Nat)
  /-- WIT_CHECKPOINT (R521). After 4,096 bales or 128 s, a Flush and a checkpoint header are written. -/
  | witCheckpoint
  /-- DRIVE_FAILED (R524). A drive reports fatal status or a command has no completion for 2 s. -/
  | driveFailed (d : Nat)
  /-- SMART_POLL (R525). Every 60 s, the health log of each drive is read. -/
  | smartPoll (d crit used spare temp duw mediaErr : Nat)
  /-- TRIG_IN_EDGE (R528). A debounced TRIG_IN edge triggers an incident capture. -/
  | trigInEdge (rising : Bool)
  /-- POST_END (R529). The capture's post end is reached and no further frames join it. -/
  | postEnd
  /-- INC_COPY_DONE (R529). The last frame of a capture is copied and INC_DONE is set. -/
  | incCopyDone
  /-- WIT_FORMAT (R514). Command 0x0801 formats a drive set. -/
  | witFormat (ch : Nat) (p : List Byte) (found : List (Nat × Nat × Bool))
  /-- WIT_SET (R513). Command 0x0802 enables the witness and sets its taps. -/
  | witSet (ch : Nat) (p : List Byte)
  /-- WIT_GET_STATUS (R532). Command 0x0803 returns the witness status. -/
  | witGetStatus (ch : Nat) (p : List Byte)
  /-- WIT_DRIVE_INFO (R525). Command 0x0804 returns a drive's health. -/
  | witDriveInfo (ch : Nat) (p : List Byte)
  /-- WIT_READ (R532). Command 0x0805 copies slots into the free yard region. -/
  | witRead (ch : Nat) (p : List Byte)
  /-- WIT_MOUNT (R522). Command 0x0806 mounts the drive set by scanning the ring. -/
  | witMount (ch : Nat) (p : List Byte) (found : List (Nat × Nat × Bool))
  /-- WIT_REBUILD (R524). Command 0x0807 copies every sealed slot to a replacement drive. -/
  | witRebuild (ch : Nat) (p : List Byte)
  /-- INC_SET (R526). Command 0x0810 configures and arms the incident buffer. -/
  | incSet (ch : Nat) (p : List Byte)
  /-- INC_TRIGGER (R528). Command 0x0811 triggers an incident capture. -/
  | incTrigger (ch : Nat) (p : List Byte)
  /-- SEL_STATE_CHANGE (R534). A stable SEL_STATE change is accepted and the roles change. -/
  | selStateChange (level : Bool)
  /-- HB_CAUSE_CHANGE (R535). A heartbeat cause arises or clears, and ACT_HB stops or starts. -/
  | hbCauseChange
  /-- JOURNAL_PUBLISH (R539). The authoritative member publishes journal entries at their times. -/
  | journalPublish (kind tl n : Nat) (idx : List Nat)
  /-- JOURNAL_DEADLINE (R541). A journal entry is missing at its deadline and the provisional decision is kept. -/
  | journalDeadline (kind tl n : Nat) (idx : List Nat)
  /-- TWIN_FRAME_END (R546). At each frame, the miss, mismatch and good-frame runs update the step state. -/
  | twinFrameEnd
  /-- AUTO_RESYNC (R546). The twin port has been UP for 1 s, so an out-of-step member starts syncing. -/
  | autoResync
  /-- SWITCH_INSTANT (R549). At the switch instant, the active ends its heartbeat for a commanded switch-over. -/
  | switchInstant
  /-- TWIN_SET (R554). Command 0x0901 configures the twin. -/
  | twinSet (ch : Nat) (p : List Byte)
  /-- TWIN_SWITCH (R549). Command 0x0902 schedules or cancels a commanded switch-over. -/
  | twinSwitch (ch : Nat) (p : List Byte) (partnerInStep : Bool)
  /-- TWIN_RESYNC (R646). Command 0x0903 starts resynchronisation with the partner. -/
  | twinResync (ch : Nat) (p : List Byte)
  /-- TWIN_HB (R535). Command 0x0904 stops or releases the heartbeat. -/
  | twinHb (ch : Nat) (p : List Byte)
  /-- TWIN_GET_STATUS (R554). Command 0x0905 returns the twin status and counters. -/
  | twinGetStatus (ch : Nat) (p : List Byte)
  /-- MATRIX_ACCESS (R566). A master's request is checked by the firewall, held back or arbitrated, and answered. -/
  | matrixAccess (reqs : List MatReq) (ends : List (Nat × Nat))
  /-- MATRIX_TARGET_TIMEOUT (R568). A target does not respond within TMO, so an error response is returned. -/
  | matrixTargetTimeout (k master cycles : Nat)
  /-- REMAP_WRITE (R562). A write of REMAP = 1 starts the switch of the alias window. -/
  | remapWrite (master : Nat) (v : Word)
  /-- REMAP_EFFECT (R562). The alias-window transactions drain and REMAP takes effect. -/
  | remapEffect
  /-- PARK_WRITE (R564). A write of PARK takes effect when the target is next idle. -/
  | parkWrite (k : Nat) (v : Word)
  /-- DOORBELL (R585). A DOORBELL posts a request or is discarded, and may be a wake event. -/
  | doorbell (c : Nat)
  /-- RSP_ACK (R587). A write of RSP_ACK clears RSP_READY. -/
  | rspAck (c : Nat)
  /-- WITHDRAW (R585). A write of WITHDRAW withdraws a request, or sets WITHDRAW_LATE. -/
  | withdraw (c : Nat) (tie : Bool)
  /-- OPEN (R585). A write of OPEN returns a withdrawn slot to IDLE. -/
  | openSlot (c : Nat)
  /-- REQUEST_TAKE (R598). The firmware takes a posted request and checks it in order. -/
  | requestTake (c : Nat)
  /-- RESPONSE_POST (R585). The firmware posts a response and sets RSP_READY. -/
  | responsePost (c : Nat)
  /-- REQUEST_TIMEOUT (R585). TMO_MS elapses on a posted request and TIMED_OUT is set. -/
  | requestTimeout (c : Nat) (tie : Bool)
  /-- HOST_EPOCH_WRITE (R591). A host write of HOST_EPOCH discards pending messages and releases locks. -/
  | hostEpochWrite (c : Nat) (v : Word) (tie : Bool)
  /-- FUNCTION_LEVEL_RESET (R592). A Function Level Reset, or PCIE_PERST_N low, acts as an epoch write of 0 on every channel. -/
  | functionLevelReset
  /-- CORE_RESTART (R593). A serving core restarts, releasing its locks and advancing DEV_EPOCH. -/
  | coreRestart (k : Nat)
  /-- LOCK_READ (R595). A read of a lock alias takes a free lock or returns its owner. -/
  | lockRead (owners : List Nat) (l : Nat)
  /-- LOCK_RELEASE_WRITE (R597). A write of 0 to a lock alias releases it, or sets LOCK_MISUSE. -/
  | lockReleaseWrite (owner l : Nat) (v : Word)
  /-- BAR2_WIN_WRITE (R580). A write to BAR2_WIN moves the window once prior BAR2 traffic completes. -/
  | bar2WinWrite (v : Word)
  /-- BAR2_ACCESS (R579). A host access through BAR2 reaches the yard or is denied. -/
  | bar2Access (off n : Nat) (wr : Option (List Byte))
  /-- DEVICE_INFO (R2). Command 0x0101 returns the device identity and capabilities. -/
  | deviceInfo (ch : Nat) (p : List Byte)
  /-- SYS_PING (R600). Command 0x0102 returns its request bytes. -/
  | sysPing (ch : Nat) (p : List Byte)
  /-- SYS_RESET (R601). Command 0x0103 restarts the management cores or resets the device. -/
  | sysReset (ch : Nat) (p : List Byte) (partnerInStep : Bool)
  /-- SYS_HEALTH (R680). Command 0x0104 returns the fault bits, temperature and supply. -/
  | sysHealth (ch : Nat) (p : List Byte)
  /-- DIAG_READ (R602). Command 0x0D01 reads registers with peek or take semantics. -/
  | diagRead (ch : Nat) (p : List Byte)
  /-- DIAG_WRITE (R603). Command 0x0D02 writes a register in TEST or RETURN. -/
  | diagWrite (ch : Nat) (p : List Byte)
  /-- DIAG_LOG (R600). Command 0x0D03 returns firmware log text. -/
  | diagLog (ch : Nat) (p text : List Byte)
  /-- KEY_STATUS (R625). Command 0x0A01 returns the key status. -/
  | keyStatus (ch : Nat) (p : List Byte)
  /-- KEY_GENERATE (R612). Command 0x0A02 draws and stores a new root secret. -/
  | keyGenerate (ch : Nat) (p : List Byte)
  /-- KEY_CERT_LOAD (R620). Command 0x0A03 loads the identity certificate chain. -/
  | keyCertLoad (ch : Nat) (p : List Byte)
  /-- KEY_INJECT (R622). Command 0x0A04 wraps and stores a customer key. -/
  | keyInject (ch : Nat) (p : List Byte)
  /-- KEY_WIT_EXPORT (R623). Command 0x0A05 returns the wrapped witness encryption key. -/
  | keyWitExport (ch : Nat) (p : List Byte)
  /-- LC_ADVANCE (R608). Command 0x0A06 advances the life-cycle state through fuse programming. -/
  | lcAdvance (ch : Nat) (p : List Byte) (cut : Option Nat)
  /-- TAMPER_EVENT (R614). A tamper cause is latched and the key store is zeroised. -/
  | tamperEvent (cause : Nat)
  /-- RETENTION_DIP (R615). The battery-domain supply falls below V_MON and the retention latch is set. -/
  | retentionDip (deep : Bool)
  /-- SCAN_REQUEST (R619). A scan request zeroises and clears memories before enabling scan, or is refused. -/
  | scanRequest
  /-- UPD_BEGIN (R641). Command 0x0B01 starts receiving an image and erases staging. -/
  | updBegin (ch : Nat) (p : List Byte)
  /-- STAGING_ERASE_DONE (R640). The erase of staging completes and ERASING clears. -/
  | stagingEraseDone
  /-- UPD_WRITE (R640). Command 0x0B02 writes image units into staging. -/
  | updWrite (ch : Nat) (p : List Byte)
  /-- UPD_FINISH (R641). Command 0x0B03 starts verification of the staged image. -/
  | updFinish (ch : Nat) (p : List Byte)
  /-- STAGING_VERIFY_DONE (R637). Verification of staging ends, giving STAGED or NONE with a reason. -/
  | stagingVerifyDone
  /-- UPD_STATUS (R653). Command 0x0B04 returns the update state. -/
  | updStatus (ch : Nat) (p : List Byte)
  /-- UPD_COMMIT (R641). Command 0x0B05 commits the trial image. -/
  | updCommit (ch : Nat) (p : List Byte)
  /-- UPD_ROLLBACK (R641). Command 0x0B06 schedules a rollback for the next start. -/
  | updRollback (ch : Nat) (p : List Byte)
  /-- UPD_ABORT (R641). Command 0x0B07 abandons a received or staged image. -/
  | updAbort (ch : Nat) (p : List Byte)
  /-- SETTINGS_SAVE (R649). Command 0x0B10 writes the settings to the target bank. -/
  | settingsSave (ch : Nat) (p : List Byte)
  /-- SETTINGS_WRITE_DONE (R649). The settings header is written and read back, completing the save. -/
  | settingsWriteDone
  /-- BIST_REPORT (R653). Command 0x0D04 returns the self-test report. -/
  | bistReport (ch : Nat) (p : List Byte)
  /-- PWR_STATUS (R678). Command 0x0C01 returns the power status. -/
  | pwrStatus (ch : Nat) (p : List Byte)
  /-- PWR_DOMAIN (R658). Command 0x0C02 queues domains to be switched on or off. -/
  | pwrDomain (ch : Nat) (p : List Byte)
  /-- PWR_SET (R678). Command 0x0C03 sets the step budget, voltage margin and power cap. -/
  | pwrSet (ch : Nat) (p : List Byte)
  /-- PWR_SLEEP (R671). Command 0x0C04 puts the device to sleep. -/
  | pwrSleep (ch : Nat) (p : List Byte)
  /-- DOMAIN_SWITCH (R659). A queued domain change fits the step budget and is charged and made. -/
  | domainSwitch
  /-- RUN_RAMP_STEP (R662). An enabled unit draws the next of its 16 run-charge steps. -/
  | runRampStep (d i : Nat) (late : Bool)
  /-- AVS_POLL (R663). Once per millisecond, the voltage and current are read back over AVSBus. -/
  | avsPoll (mv ma : Nat)
  /-- AVS_TARGET_STEP (R664). Every 100 µs, the VDD_CORE target moves by up to 5 mV toward the floor plus margin. -/
  | avsTargetStep (floor : Nat)
  /-- CAP_EVAL (R666). Once per second, the measured power is compared with the cap and a step is applied or removed. -/
  | capEval
  /-- TEMP_SAMPLE (R669). Every 100 µs, the junction temperature is read and warning or shutdown is applied. -/
  | tempSample (readings : List Int)
  /-- WAKE_EVENT (R674). A wake source wakes the device and the saved domains switch on. -/
  | wakeEvent (c n : Nat)
  /-- SCRUB_PASS (R688). The scrubber reads a yard unit and writes it back corrected. -/
  | scrubPass (stack bank row pass : Nat) (ce : Bool)
  /-- YARD_UE (R690). A yard read is uncorrectable twice, the data is poisoned and the row is repaired. -/
  | yardUe (stack bank row addr : Nat) (twice : Bool)
  /-- ROW_REPAIR_DONE (R691). A row repair and its check complete and the fault is classed. -/
  | rowRepairDone (stack bank row : Nat) (ok : Bool)
  /-- ENGINE_CHECK_FAIL (R685). A parity or check failure in an engine reinitialises it at the next frame boundary. -/
  | engineCheckFail (blk inst : Nat)
  /-- FAULT_BIT_CLEAR (R682). A write of 1 to a fault bit clears it, and a lasting fault whose cause holds is set again. -/
  | faultBitClear (blk v : Nat)
  /-- WDT_EXPIRY (R710). A watchdog count reaches TMO_MS and its core restarts. -/
  | wdtExpiry (k : Nat)
  /-- WDT_KICK (R710). A write of KICK restarts a watchdog's count. -/
  | wdtKick (k : Nat)
  /-- CORE_RST (R709). SYS_RESET_CTRL CORE_RST restarts management cores. -/
  | coreRst (v : Word)
  /-- DEVICE_RESET (R594). SYS_RESET_CTRL DEVICE resets the whole device, keeping the PCIe link. -/
  | deviceReset (v : Word)
  /-- GPIO_CHANGE (R711). A GPIO level change sets its GPIO_EDGE bit. -/
  | gpioChange (n : Nat) (level : Bool)
  /-- DIAG_INJECT (R697). Command 0x0D05 injects a fault in TEST. -/
  | diagInject (ch : Nat) (p : List Byte)
  /-- FAULT_CLEAR (R682). Command 0x0D06 clears fault bits of the named blocks. -/
  | faultClear (ch : Nat) (p : List Byte)
  /-- RCL_COUNTER_READ (R198). A management-core read of an RCL counter returns and clears it. -/
  | rclCounterRead (a late : Nat)
  /-- REGISTER_WRITE (R701). A write to a register with no row of its own is stored, cleared or discarded by its access code. -/
  | registerWrite (master addr : Nat) (v : Word)
  /-- CANDIDATE_VALID (R40). A reference candidate meets all its validity conditions again and its wait-to-restore timer starts from WTR. -/
  | candidateValid (n cls acc : Nat) (freq : Int) (sync : Nat)
  /-- OSC_IN_RETURN (R91). OSC_IN shows edges again after a loss and the coasting synthesizers restart acquisition from the frozen value. -/
  | oscInReturn
  /-- PLL_COAST_TIMEOUT (R685). A synthesizer that lost lock has not relocked within 10 s, so its fault is classed lasting. -/
  | pllCoastTimeout (m : Nat)
  /-- AES3_LOCK_LOST (R487). The AES3 receiver of a serial audio port loses lock, setting AES_LOCK_LOST, and the loss is handled as a gap. -/
  | aes3LockLost (n : Nat)
  /-- AES3_RATE_CHANGE (R487). The measured AES3 input rate changes by more than 1 % and the rate converter takes a synchronising reset. -/
  | aes3RateChange (n rate : Nat)
  /-- MOUNT_DONE (R522). The mount of the drive set completes, setting MOUNTED, and recording can resume with RESUMED bales. -/
  | mountDone
  /-- REBUILD_DONE (R524). The copy of every sealed slot and key record to the replacement drive completes, and DEGRADED and REBUILDING clear. -/
  | rebuildDone
  /-- NVME_COMMAND_ERROR (R685). An NVMe command completes with an error, is resent once, and the fault is classed transient or lasting. -/
  | nvmeCommandError (d : Nat) (ok : Bool)
  /-- FLUSH_DONE (R521). The Flush issued for a witness checkpoint completes, and the checkpoint header is written with FUA. -/
  | flushDone
  /-- MARCH_TEST_DONE (R685). The background march test and row repair of a stroke-buffer row completes, and the FAB fault is classed transient or lasting. -/
  | marchTestDone (bank : Nat) (passes repaired : Bool)
  /-- FAULT_RETRY_WINDOW_END (R685). The 16-frame window after an engine reinitialisation, or the 60 s window after a watchdog restart, ends without a repeat, so the fault is transient. -/
  | faultRetryWindowEnd (blk inst : Nat)
  /-- CAPTURE_FRAME_TAKE (R254). The firmware takes a frame from an Ethernet capture queue and handles it, such as a PTP message or an IGMP or MLD query. -/
  | captureFrameTake (e : Nat)
  /-- EXTEST_CLAMP_SELECT (R717). EXTEST or CLAMP is selected or deselected on JTAG, holding the device in reset as under RESET_N or releasing it. -/
  | extestClampSelect (sel : Bool)
  /-- LOCKSTEP_DISAGREEMENT (R557). The two halves of the safety core disagree, both are reset within 1 µs and SYS raises a lasting fault. -/
  | lockstepDisagreement
deriving DecidableEq, Repr

end Sys2Proof
end

