-- ==== Sys2Proof/Decode.lean ====
section
/-!
DEFINITION. The command that a word spells. No row of the opcode table gives bits: a command reaches the device as an event, a register
access or a request slot, and no word spells one.
-/
namespace Sys2Proof

/-- The command that the word `w` of `nbits` bits spells: none, for the table gives no row any bits. -/
def decodeTableWord (_nbits _w : Nat) : Option Instr := none

end Sys2Proof
end

