-- ==== Sys2Proof/Machine/Bits.lean ====
section
/-!
DEFINITION. Bit fields, two's complement and the little-endian layout of numbers in byte strings
(the request and response payloads of R583, the records of R276, the messages of R350).
-/
namespace Sys2Proof.Machine

/-- Bits `lo` up, `w` of them, of a number. -/
def bitsOf (v lo w : Nat) : Nat := v / 2 ^ lo % 2 ^ w

/-- Bit `i` of a number. -/
def bitOf (v i : Nat) : Bool := v / 2 ^ i % 2 == 1

/-- `v` with bit `i` set. -/
def withBit (v i : Nat) : Nat := if bitOf v i then v else v + 2 ^ i

/-- `v` with bit `i` clear. -/
def withoutBit (v i : Nat) : Nat := if bitOf v i then v - 2 ^ i else v

/-- One for yes, zero for no. -/
def bit (p : Bool) : Nat := if p then 1 else 0

/-- The integer that two's complement of `w` bits reads from `v`. -/
def signedOf (w v : Nat) : Int :=
  if v % 2 ^ w < 2 ^ (w - 1) then Int.ofNat (v % 2 ^ w) else Int.ofNat (v % 2 ^ w) - Int.ofNat (2 ^ w)

/-- The `w`-bit two's complement pattern of an integer. -/
def patternOf (w : Nat) (i : Int) : Nat := (i % Int.ofNat (2 ^ w)).toNat

/-- The nearer limit of a range that a value falls outside. -/
def clampNat (lo hi v : Nat) : Nat := if v < lo then lo else if hi < v then hi else v

/-- The nearer limit of a range that an integer falls outside. -/
def clampInt (lo hi v : Int) : Int := if v < lo then lo else if hi < v then hi else v

/-- The number of ones in the low `w` bits. -/
def onesOf : Nat → Nat → Nat
  | 0, _ => 0
  | w + 1, v => v % 2 + onesOf w (v / 2)

/-- The places of the ones in the low `w` bits, lowest first. -/
def onesAt (w v : Nat) : List Nat := (List.range w).filter (fun i => bitOf v i)

/-- The number whose little-endian bytes are given. -/
def leNat : List Byte → Nat
  | [] => 0
  | x :: t => x.toNat + 256 * leNat t

/-- The low `n` bytes of a number, little-endian. -/
def leBytes : Nat → Nat → List Byte
  | 0, _ => []
  | n + 1, v => BitVec.ofNat 8 v :: leBytes n (v / 256)

/-- The number whose big-endian bytes are given. -/
def beNat (l : List Byte) : Nat := leNat l.reverse

/-- The low `n` bytes of a number, big-endian. -/
def beBytes (n v : Nat) : List Byte := (leBytes n v).reverse

/-- `n` bytes of a payload from offset `o`; bytes beyond its end read zero. -/
def bytesAt (p : List Byte) (o n : Nat) : List Byte :=
  (List.range n).map (fun i => (p[o + i]?).getD 0)

/-- The little-endian field of `n` bytes at offset `o` of a payload. -/
def le (p : List Byte) (o n : Nat) : Nat := leNat (bytesAt p o n)

/-- The signed little-endian field of `n` bytes at offset `o`. -/
def les (p : List Byte) (o n : Nat) : Int := signedOf (8 * n) (le p o n)

/-- Yes when `n` bytes from offset `o` are all zero, as a reserved field must be (R598). -/
def zeros (p : List Byte) (o n : Nat) : Bool := le p o n == 0

/-- `n` zero bytes. -/
def zeroBytes (n : Nat) : List Byte := List.replicate n 0

/-- A payload cut or padded with zeros to `n` bytes. -/
def padTo (n : Nat) (l : List Byte) : List Byte := bytesAt l 0 n

end Sys2Proof.Machine
end

