-- ==== Sys2Proof/Machine/Crc.lean ====
section
/-!
DEFINITION. Check functions: CRC-32 (R227, R584), CRC-32C (R352), CRC-64 (R277) and Fletcher-16 (R279).
-/
namespace Sys2Proof.Machine

/-- One step of a reflected CRC with the reflected polynomial `poly`. -/
def crcBit (poly c : Nat) : Nat := if c % 2 = 1 then (c / 2) ^^^ poly else c / 2

/-- One byte into a reflected CRC. -/
def crcByte (poly c : Nat) (x : Byte) : Nat :=
  crcBit poly (crcBit poly (crcBit poly (crcBit poly (crcBit poly (crcBit poly (crcBit poly (crcBit poly (c ^^^ x.toNat))))))))

/-- A reflected CRC of `w` bits, started and ended with all ones. -/
def crcOf (w poly : Nat) (l : List Byte) : Nat := (l.foldl (crcByte poly) (2 ^ w - 1)) ^^^ (2 ^ w - 1)

/-- The CRC-32 of the Ethernet FCS and of the mailbox slots (R227, R584). -/
def crc32 (l : List Byte) : Nat := crcOf 32 0xEDB88320 l
/-- The CRC-32C of markers and control messages (R352). -/
def crc32c (l : List Byte) : Nat := crcOf 32 0x82F63B78 l
/-- The CRC-64 of signatures (R277). -/
def crc64 (l : List Byte) : Nat := crcOf 64 0xC96C5795D7870F42 l

/-- Fletcher-16 over bytes, both sums modulo 255: the second sum above the first (R279). -/
def fletcher16 (l : List Byte) : Nat :=
  let s := l.foldl (fun (s : Nat × Nat) x => ((s.1 + x.toNat) % 255, (s.2 + (s.1 + x.toNat) % 255) % 255)) (0, 0)
  s.2 * 256 + s.1

end Sys2Proof.Machine
end

