-- ==== Sys2Proof/Machine/Crypto.lean ====
section
/-!
DEFINITION. The published functions that the key, guard and witness chapters name: SHA-384 (FIPS 180-4), HMAC and HKDF
(RFC 5869), AES-256 (FIPS 197), its GCM mode (SP 800-38D) and key wrap (RFC 3394), and ECDSA on P-384 (FIPS 186).
-/
namespace Sys2Proof.Machine

/-! ### SHA-384 -/

def sha64 : Nat := 2 ^ 64

def shaK : List Nat :=
  [0x428A2F98D728AE22, 0x7137449123EF65CD, 0xB5C0FBCFEC4D3B2F, 0xE9B5DBA58189DBBC, 0x3956C25BF348B538] ++
  [0x59F111F1B605D019, 0x923F82A4AF194F9B, 0xAB1C5ED5DA6D8118, 0xD807AA98A3030242, 0x12835B0145706FBE] ++
  [0x243185BE4EE4B28C, 0x550C7DC3D5FFB4E2, 0x72BE5D74F27B896F, 0x80DEB1FE3B1696B1, 0x9BDC06A725C71235] ++
  [0xC19BF174CF692694, 0xE49B69C19EF14AD2, 0xEFBE4786384F25E3, 0x0FC19DC68B8CD5B5, 0x240CA1CC77AC9C65] ++
  [0x2DE92C6F592B0275, 0x4A7484AA6EA6E483, 0x5CB0A9DCBD41FBD4, 0x76F988DA831153B5, 0x983E5152EE66DFAB] ++
  [0xA831C66D2DB43210, 0xB00327C898FB213F, 0xBF597FC7BEEF0EE4, 0xC6E00BF33DA88FC2, 0xD5A79147930AA725] ++
  [0x06CA6351E003826F, 0x142929670A0E6E70, 0x27B70A8546D22FFC, 0x2E1B21385C26C926, 0x4D2C6DFC5AC42AED] ++
  [0x53380D139D95B3DF, 0x650A73548BAF63DE, 0x766A0ABB3C77B2A8, 0x81C2C92E47EDAEE6, 0x92722C851482353B] ++
  [0xA2BFE8A14CF10364, 0xA81A664BBC423001, 0xC24B8B70D0F89791, 0xC76C51A30654BE30, 0xD192E819D6EF5218] ++
  [0xD69906245565A910, 0xF40E35855771202A, 0x106AA07032BBD1B8, 0x19A4C116B8D2D0C8, 0x1E376C085141AB53] ++
  [0x2748774CDF8EEB99, 0x34B0BCB5E19B48A8, 0x391C0CB3C5C95A63, 0x4ED8AA4AE3418ACB, 0x5B9CCA4F7763E373] ++
  [0x682E6FF3D6B2B8A3, 0x748F82EE5DEFB2FC, 0x78A5636F43172F60, 0x84C87814A1F0AB72, 0x8CC702081A6439EC] ++
  [0x90BEFFFA23631E28, 0xA4506CEBDE82BDE9, 0xBEF9A3F7B2C67915, 0xC67178F2E372532B, 0xCA273ECEEA26619C] ++
  [0xD186B8C721C0C207, 0xEADA7DD6CDE0EB1E, 0xF57D4F7FEE6ED178, 0x06F067AA72176FBA, 0x0A637DC5A2C898A6] ++
  [0x113F9804BEF90DAE, 0x1B710B35131C471B, 0x28DB77F523047D84, 0x32CAAB7B40C72493, 0x3C9EBE0A15C9BEBC] ++
  [0x431D67C49C100D4C, 0x4CC5D4BECB3E42B6, 0x597F299CFC657E2A, 0x5FCB6FAB3AD6FAEC, 0x6C44198C4A475817]

def shaStart : List Nat := [0xCBBB9D5DC1059ED8, 0x629A292A367CD507, 0x9159015A3070DD17, 0x152FECD8F70E5939, 0x67332667FFC00B31, 0x8EB44A8768581511, 0xDB0C2E0D64F98FA7, 0x47B5481DBEFA4FA4]

def rotr64 (x n : Nat) : Nat := x / 2 ^ n + x * 2 ^ (64 - n) % sha64

/-- The message with its padding, as 64-bit words. -/
def shaWords (m : List Byte) : List Nat :=
  let z := (128 - (m.length + 17) % 128) % 128
  let l := m ++ [0x80] ++ zeroBytes z ++ beBytes 16 (8 * m.length)
  (List.range (l.length / 8)).map fun i => beNat (bytesAt l (8 * i) 8)

/-- The schedule, newest word first, from the words of a block newest first. -/
def shaExtend : Nat → List Nat → List Nat
  | 0, w => w
  | k + 1, w =>
    let g (i : Nat) : Nat := (w[i]?).getD 0
    let s0 := (rotr64 (g 14) 1).xor ((rotr64 (g 14) 8).xor (g 14 / 2 ^ 7))
    let s1 := (rotr64 (g 1) 19).xor ((rotr64 (g 1) 61).xor (g 1 / 2 ^ 6))
    shaExtend k (((g 15 + s0 + g 6 + s1) % sha64) :: w)

/-- One round: the eight working variables, and a constant and word added. -/
def shaRound (v : List Nat) (kw : Nat) : List Nat :=
  match v with
  | [a, b, c, d, e, f, g, h] =>
    let s1 := (rotr64 e 14).xor ((rotr64 e 18).xor (rotr64 e 41))
    let t1 := h + s1 + (e.land f).xor ((sha64 - 1 - e).land g) + kw
    let s0 := (rotr64 a 28).xor ((rotr64 a 34).xor (rotr64 a 39))
    let t2 := s0 + ((a.land b).xor ((a.land c).xor (b.land c)))
    [(t1 + t2) % sha64, a, b, c, (d + t1) % sha64, e, f, g]
  | _ => v

def shaBlock (h : List Nat) (w : List Nat) : List Nat :=
  let s := (shaExtend 64 w.reverse).reverse
  let v := ((shaK.zip s).map fun q => q.1 + q.2).foldl shaRound h
  (h.zip v).map fun q => (q.1 + q.2) % sha64

def shaBlocks : Nat → List Nat → List Nat → List Nat
  | 0, h, _ => h
  | k + 1, h, w => shaBlocks k (shaBlock h (w.take 16)) (w.drop 16)

/-- SHA-384 of a message, 48 bytes. -/
def sha384 (m : List Byte) : List Byte :=
  let w := shaWords m
  ((shaBlocks (w.length / 16) shaStart w).take 6).flatMap fun x => beBytes 8 x

/-- HMAC with SHA-384. -/
def hmac384 (k m : List Byte) : List Byte :=
  let k := padTo 128 (if 128 < k.length then sha384 k else k)
  sha384 (k.map (· ^^^ 0x5C) ++ sha384 (k.map (· ^^^ 0x36) ++ m))

/-- HKDF: extract with a salt, then expand with an info to at most 96 bytes (RFC 5869). -/
def hkdf384 (salt ikm info : List Byte) (n : Nat) : List Byte :=
  let prk := hmac384 salt ikm
  let t1 := hmac384 prk (info ++ [1])
  (t1 ++ hmac384 prk (t1 ++ info ++ [2])).take n

/-! ### AES-256 -/

/-- Times x in GF(2^8). -/
def gfDouble (a : Nat) : Nat := if a < 128 then 2 * a else (2 * a - 256).xor 0x1B

/-- A product in GF(2^8), over the bits of the second factor. -/
def gfMul (a : Nat) : Nat → Nat → Nat
  | 0, _ => 0
  | k + 1, b => (if b % 2 = 1 then a else 0).xor (gfMul (gfDouble a) k (b / 2))

/-- The inverse in GF(2^8), as the 254th power. -/
def gfInv (a : Nat) : Nat :=
  let m (x y : Nat) : Nat := gfMul x 8 y
  let a2 := m a a; let a3 := m a2 a; let a6 := m a3 a3; let a12 := m a6 a6; let a14 := m a12 a2
  let a15 := m a12 a3
  let q := (List.range 4).foldl (fun x _ => m x x) a15
  m q a14

/-- The substitution of one byte. -/
def aesSub (x : Byte) : Byte :=
  let i := gfInv x.toNat
  let r (k : Nat) : Nat := (i * 2 ^ k % 256) + i / 2 ^ (8 - k)
  BitVec.ofNat 8 ((((i.xor (r 1)).xor (r 2)).xor (r 3)).xor ((r 4).xor 0x63))

/-- The key schedule, newest word first. -/
def aesSchedule : Nat → Nat → Nat → List (List Byte) → List (List Byte)
  | 0, _, _, w => w
  | k + 1, i, rc, w =>
    let t := (w[0]?).getD []
    let t := if i % 8 = 0 then
        match (t.rotateLeft 1).map aesSub with
        | x :: r => (x ^^^ BitVec.ofNat 8 rc) :: r
        | [] => []
      else if i % 8 = 4 then t.map aesSub else t
    aesSchedule k (i + 1) (if i % 8 = 0 then gfDouble rc else rc) (((t.zip ((w[7]?).getD [])).map fun q => q.1 ^^^ q.2) :: w)

/-- The fifteen round keys of a 32-byte key. -/
def aesKeys (key : List Byte) : List (List Byte) :=
  let w := (aesSchedule 52 8 1 (((List.range 8).map fun i => bytesAt key (4 * i) 4).reverse)).reverse
  (List.range 15).map fun r => ((List.range 4).map fun i => (w[4 * r + i]?).getD []).flatten

def xorBytes (a b : List Byte) : List Byte := (a.zip b).map fun q => q.1 ^^^ q.2

/-- Shift of the rows of a state held column by column. -/
def aesShift (s : List Byte) : List Byte := (List.range 16).map fun i => s.getD (5 * i % 16) 0

/-- Mix of one column. -/
def aesMixCol (c : List Byte) : List Byte :=
  (List.range 4).map fun i =>
    let g (k : Nat) : Nat := (c.getD ((i + k) % 4) 0).toNat
    BitVec.ofNat 8 ((((gfDouble (g 0)).xor ((gfDouble (g 1)).xor (g 1))).xor (g 2)).xor (g 3))

def aesMix (s : List Byte) : List Byte := (List.range 4).flatMap fun j => aesMixCol (bytesAt s (4 * j) 4)

/-- AES-256 of one block. -/
def aesBlock (key blk : List Byte) : List Byte :=
  match aesKeys key with
  | k0 :: ks =>
    let s := (ks.take 13).foldl (fun s k => xorBytes (aesMix (aesShift (s.map aesSub))) k) (xorBytes blk k0)
    xorBytes (aesShift (s.map aesSub)) ((ks[13]?).getD [])
  | [] => blk

/-! ### GCM -/

/-- A product in the field of GHASH; the first bit of a block is its most significant. -/
def ghashMul : Nat → Nat → Nat → Nat → Nat
  | 0, _, _, z => z
  | k + 1, x, v, z =>
    ghashMul k x (if v % 2 = 1 then (v / 2).xor (0xE1 * 2 ^ 120) else v / 2) (if x / 2 ^ k % 2 = 1 then z.xor v else z)

/-- GHASH over whole blocks. -/
def ghash (h : Nat) (l : List Byte) : Nat :=
  (List.range (l.length / 16)).foldl (fun y i => ghashMul 128 (y.xor (beNat (bytesAt l (16 * i) 16))) h 0) 0

def pad16 (l : List Byte) : List Byte := l ++ zeroBytes ((16 - l.length % 16) % 16)

/-- The key stream applied from counter `c` on. -/
def gcmStream (key iv : List Byte) (c : Nat) (m : List Byte) : List Byte :=
  xorBytes m ((List.range ((m.length + 15) / 16)).flatMap fun i => aesBlock key (iv ++ beBytes 4 (c + i)))

/-- The tag of AES-256-GCM with a 12-byte IV, over additional data and ciphertext. -/
def gcmTag (key iv aad ct : List Byte) : List Byte :=
  let h := beNat (aesBlock key (zeroBytes 16))
  let s := ghash h (pad16 aad ++ pad16 ct ++ beBytes 8 (8 * aad.length) ++ beBytes 8 (8 * ct.length))
  xorBytes (beBytes 16 s) (aesBlock key (iv ++ beBytes 4 1))

/-- AES-256-GCM: the ciphertext (or from it the plaintext). -/
def gcmCrypt (key iv m : List Byte) : List Byte := gcmStream key iv 2 m

/-! ### Key wrap (RFC 3394) -/

/-- AES key wrap of a multiple of 8 bytes under a 32-byte key. -/
def aesWrap (key m : List Byte) : List Byte :=
  let n := m.length / 8
  let r0 := (List.range n).map fun i => bytesAt m (8 * i) 8
  let st := (List.range (6 * n)).foldl (fun (s : List Byte × List (List Byte)) t =>
    let i := t % n
    let b := aesBlock key (s.1 ++ (s.2[i]?).getD [])
    (xorBytes (b.take 8) (beBytes 8 (t + 1)), s.2.set i (b.drop 8))) (List.replicate 8 0xA6, r0)
  st.1 ++ st.2.flatten

/-! ### ECDSA on P-384 -/

def p384p : Nat := 2 ^ 384 - 2 ^ 128 - 2 ^ 96 + 2 ^ 32 - 1
def p384n : Nat := 0xFFFFFFFFFFFFFFFFFFFFFFFFFFFFFFFFFFFFFFFFFFFFFFFFC7634D81F4372DDF581A0DB248B0A77AECEC196ACCC52973
def p384b : Nat := 0xB3312FA7E23EE7E4988E056BE3F82D19181D9C6EFE8141120314088F5013875AC656398D8A2ED19D2A85C8EDD3EC2AEF
def p384g : Option (Nat × Nat) := some (0xAA87CA22BE8B05378EB1C71EF320AD746E1D3B628BA79B9859F741E082542A385502F25DBF55296C3A545E3872760AB7, 0x3617DE4A96262C6F5D9E98BF9292DC29F8F41DBD289A147CE9DA3113B5F0B8C00A60B1CE1D7E819D7A431D7C90EA0E5F)

/-- A power modulo `q`, over the bits of the exponent. -/
def powMod (q : Nat) : Nat → Nat → Nat → Nat
  | 0, _, _ => 1
  | k + 1, x, e => (if e % 2 = 1 then x else 1) * powMod q k (x * x % q) (e / 2) % q

/-- The inverse modulo a prime below 2^384. -/
def invMod (q x : Nat) : Nat := powMod q 384 (x % q) (q - 2)

/-- The sum of two points of the curve; none is the point at infinity. -/
def ecAdd (a b : Option (Nat × Nat)) : Option (Nat × Nat) :=
  match a, b with
  | none, b => b
  | a, none => a
  | some (x1, y1), some (x2, y2) =>
    if x1 = x2 ∧ (y1 + y2) % p384p = 0 then none
    else
      let l := if x1 = x2 then 3 * (x1 * x1 + p384p - 1) * invMod p384p (2 * y1) % p384p
        else (y2 + p384p - y1) * invMod p384p (x2 + p384p - x1) % p384p
      let x := (l * l + 2 * p384p - x1 - x2) % p384p
      some (x, (l * (x1 + p384p - x) + p384p - y1) % p384p)

/-- A multiple of a point, over the bits of the factor. -/
def ecMul : Nat → Nat → Option (Nat × Nat) → Option (Nat × Nat)
  | 0, _, _ => none
  | w + 1, k, a => ecAdd (if k % 2 = 1 then a else none) (ecMul w (k / 2) (ecAdd a a))

/-- The public point of a private key. -/
def ecPublic (d : Nat) : Option (Nat × Nat) := ecMul 384 d p384g

/-- A public key as 96 bytes, x then y, big-endian. -/
def pointBytes (a : Option (Nat × Nat)) : List Byte :=
  match a with
  | some (x, y) => beBytes 48 x ++ beBytes 48 y
  | none => zeroBytes 96

/-- A signature r then s over SHA-384 of a message, with the nonce drawn for it. -/
def ecdsaSign (d k : Nat) (m : List Byte) : List Byte :=
  let e := beNat (sha384 m)
  let r := (match ecMul 384 k p384g with
    | some (x, _) => x
    | none => 0) % p384n
  beBytes 48 r ++ beBytes 48 (invMod p384n k * (e + r * d) % p384n)

/-- A signature r then s over SHA-384 of a message is that of a public key, x then y. -/
def ecdsaVerify (pub m sig : List Byte) : Bool :=
  let q := (beNat (bytesAt pub 0 48), beNat (bytesAt pub 48 48))
  let r := beNat (bytesAt sig 0 48)
  let s := beNat (bytesAt sig 48 48)
  let w := invMod p384n s
  decide (q.1 < p384p) && decide (q.2 < p384p) && (q.2 * q.2 + 3 * q.1) % p384p == (q.1 * q.1 * q.1 + p384b) % p384p
    && decide (0 < r) && decide (r < p384n) && decide (0 < s) && decide (s < p384n) &&
    (match ecAdd (ecMul 384 (beNat (sha384 m) * w % p384n) p384g) (ecMul 384 (r * w % p384n) (some q)) with
      | some (x, _) => x % p384n == r
      | none => false)

end Sys2Proof.Machine
end

