-- ==== Sys2Proof/Config.lean ====
section
/-!
DEFINITION. What an implementation fixes and the spec leaves open: uninterpreted constants, which no proof can see into.
-/
namespace Sys2Proof

/-- A value that the spec leaves open, taken fresh each time: the argument counts the values taken. -/
opaque Config.freeValue : Nat → Nat

/-- The rate the digital PLL asks for, and the phase correction it adds (1/16 ns), from the loop bandwidth in mHz, the damping factor in thousandths
and the phase error (1/16 ns), the rate also from the candidate's frequency and the rate it runs at (2^-48). R49 to R55 name the loop, its bandwidths
and its damping factors, not its filter. -/
opaque Config.loopRate : Nat → Nat → Int → Int → Int → Int
opaque Config.loopPhase : Nat → Nat → Int → Int

/-- Whether the exponential average of R59 rounds up, from the time constant's exponent, the old average and the frequency. -/
opaque Config.historyUp : Nat → Int → Int → Bool

/-- What `HO_REMAIN` reads where the predicted error never reaches the limit (R63 gives no number). -/
opaque Config.remainUnbounded : Nat

/-- The payload octets that a kind 5 packet counts for in the budget of R238 (the spec gives no number). -/
opaque Config.ancPacketOctets : Nat

/-- The public key, x then y, that the first certificate of a chain carries, when the chain is well formed and verifies to a
root the device trusts (X.509, R306, R620). -/
opaque Config.certKey : List Byte → Option (List Byte)

/-- Krovmet's return public key, held in the boot ROM (R606). -/
opaque Config.returnKey : List Byte

/-- The buffers that this device announces for message class 1, 2 and 3 (R362); the spec gives no numbers. -/
opaque Config.buffers : Nat → Nat

/-- The format code that a test pattern generator is set to; the spec gives no register for it. -/
opaque Config.patternFormat : Nat → Nat

/-- Byte `i` of the built-in glyph of a code (R442 does not reproduce the font). -/
opaque Config.fontByte : Nat → Nat → Nat

/-- A composed component (0 Y, 1 Cb, 2 Cr) at a pixel of a head, from the head's settings and the pictures of its layers, wherever R735
leaves the arithmetic open. -/
opaque Config.composed : List Nat → List (List Byte) → Nat → Nat → Nat → Nat

/-- Whether a keyed layer's alpha is above 0 at a pixel of a head, from the layer's settings and its picture (R432, R735). -/
opaque Config.keyed : List Nat → List Byte → Nat → Nat → Bool

/-- The picture of a test pattern generator; the spec describes none. -/
opaque Config.patternPicture : Nat → List Byte

/-- Whether an audio sample is the one above its exact value (in 2^-64 of a sample) or the one below: R390, R478 and R489 give gains and no precision. -/
opaque Config.roundsUp : Int → Bool

/-- A plane (0 Y, 1 Cb, 2 Cr) of the 960 x 540 proxy of a larger picture, by format: R495 asks for area averaging and gives no rounding. -/
opaque Config.proxy : Nat → List Byte → Nat → List Nat

/-- The X.509 certificate of a witness signing key with the identity chain after it, from the public key, M, the chain and the time of issue
(R621 gives its content and no encoding). -/
opaque Config.witnessCert : List Byte → List Byte → List Byte → Nat → List Byte

/-- Krovmet's firmware public key, held in the boot ROM (R637). -/
opaque Config.firmwareKey : List Byte

/-- Whether firmware that writes one settings format reads another (R648); which ones it reads is the firmware's. -/
opaque Config.readsFormat : Nat → Nat → Bool

/-- Banks of a yard stack, each with one spare row (R691); the spec gives no number. -/
opaque Config.banksPerStack : Nat

/-- The stall engine, 0 to 3, that serves a stall, and the stack that holds an offset of the yard (R655); the spec does not say which. -/
opaque Config.stallEngine : Nat → Nat
opaque Config.yardStack : Nat → Nat
/-- The bank and the row that hold an offset of the yard (R691); the spec does not say which. -/
opaque Config.yardRow : Nat → Nat × Nat

/-- The response slots of a matrix target (R567); the spec gives no number. -/
opaque Config.responseSlots : Nat → Nat

/-- A byte of the boot ROM (R29); the spec gives none. -/
opaque Config.romByte : Nat → Byte

/-- The silicon revision, and the revision of a block (R704, R708). -/
opaque Config.siliconRev : Nat
opaque Config.blockRev : Nat → Nat

/-- What stands at an offset of a settings bank, from the bank's contents: R647 gives the header and the keep area, not the configuration. -/
opaque Config.settingsByte : List Nat → Nat → Byte

/-- Where a ball of an index lies, by row and column, and whether it is a reference-clock ball: R653 numbers the balls and R714 places the signals,
without an order of the balls. -/
opaque Config.ballPlace : Nat → Nat × Nat
opaque Config.refClockBall : Nat → Bool

/-- Received bits follow the short stress pattern, which R165 only names. -/
opaque Config.ssprqFits : List Bool → Bool

/-- The code that `RATE` shows for a PCIe lane in P0: R140 gives the class no codes. -/
opaque Config.pcieRate : Nat → Nat

/-- Payload identifier bytes (R208), as SMPTE ST 352 gives them: byte 1 or 2 from the format, quad, division and level; byte 4 with a quad's link
number; bytes 3 and 4 of BT.709 SDR for a format. -/
opaque Config.pidByte : Nat → Nat → Bool → Bool → Bool → Nat
opaque Config.pidLink : Nat → Nat → Nat
opaque Config.pidSdr : Nat → Nat → Nat

end Sys2Proof
end

