-- ==== Sys2Proof/Machine/State.lean ====
section
/-!
DEFINITION. The state of the device as plain data: the registers field by field, the state each chapter gives a block
beside its registers, and the queue of waiting commands. Sparse tables (`Bank`) list only what differs from reset.
-/
namespace Sys2Proof.Machine

/-! ### Registers (R700 to R704) -/

/-- A field's access code (R701). -/
inductive Access where
  | rw | ro | w1c | rcl | wo | sw
deriving DecidableEq, Repr

/-- A field's reset value: a number of the table, or a value the table gives in words (`resetSpecial` in Ops). -/
inductive Rst where
  | c (v : Nat)
  | special
deriving DecidableEq, Repr

/-- The value a written field is stored as, where its table says so. -/
inductive Clamp where
  | any
  | range (lo hi : Nat)
  | subst (lo hi v : Nat)
  | signed (lo hi : Int)
  | park
deriving DecidableEq, Repr

/-- A register or an array of registers: `off` counts from 0x00_4000_0000, block index times 1 MiB included (R8). -/
structure Reg where
  off : Nat
  stride : Nat
  count : Nat
  stride2 : Nat
  count2 : Nat
deriving DecidableEq, Repr

/-- A field of a register, as its table gives it. -/
structure Field where
  reg : Reg
  lo : Nat
  width : Nat
  acc : Access
  reset : Rst
  clamp : Clamp
deriving DecidableEq, Repr

/-- A pattern of a lane's generator and checker (R165): a maximal-length sequence whose bit is the exclusive-or of the bits at some distances back, the
short stress pattern, a square wave of half periods in UI, or a word sent bit 0 first. -/
inductive Pattern where
  | prbs (taps : List Nat)
  | ssprq
  | square (half : Nat)
  | word (bits : Nat)
deriving DecidableEq, Repr

/-- What a serial output sends on a line (R205 to R212). -/
structure LineSent where
  /-- 0 its source's line, 1 black in place of a missing line, 2 black, 3 the flat colour, 4 electrical idle. -/
  kind : Nat
  /-- When the line leaves, in device time (R205). -/
  due : Int
  /-- The field and blanking bits of its timing reference signals, its line number, and the line CRC, both none on SD (R207). -/
  field2 : Bool
  blanking : Bool
  number : Option Nat
  crc : Bool
  /-- The error detection packet of an SD field (R207). -/
  edh : Bool
  /-- The payload identifier of each link (R208). -/
  pid : List (List Nat)
  /-- The words of the origin stamp, in data stream 1 of link 1 (R209, R278). -/
  stamp : List Nat
  /-- Passed ancillary packets (R210, R391). -/
  anc : List AncPkt
  /-- Embedded audio (R472): groups by house sample, four channels each, on link 1 of a quad; the control packets of its groups. -/
  audio : List (Nat × Nat × List Int)
  control : List Nat
  /-- The samples of the picture's rows on the line, the marker drawn (R459). -/
  rows : List (List Byte)
deriving DecidableEq, Repr, Inhabited

/-- What a packet of a transmit flow carries (R231, R245 to R249). -/
inductive PktBody where
  /-- Kind 0: one sample row. -/
  | row (part : RowPart)
  /-- Kind 1: bytes of the codestream. -/
  | bytes (data : List Byte)
  /-- Kind 2: stream bytes from a place in the serial stream, and the lines that they are cut from. -/
  | serial (from_ : Nat) (lines : List (Nat × LineSent))
  /-- Kinds 3 and 4: the samples of each channel. -/
  | audio (samples : List (List Int))
  /-- Kind 5: ancillary packets, and the words of the origin stamp. -/
  | anc (pkts : List AncPkt) (stamp : List Nat)
deriving DecidableEq, Repr

/-- A packet of a transmit flow as it is sent: extended sequence number, timestamp and marker; payload type, SSRC, 802.1Q tag, DSCP and TTL; source and
destination (R231, R244, R245). -/
structure PktSent where
  seq : Nat
  ts : Nat
  marker : Bool
  pt : Nat
  ssrc : Nat
  tag : Option Nat
  dscp : Nat
  ttl : Nat
  src : List Byte
  dst : List Byte
  srcUdp : Nat
  dstUdp : Nat
  body : PktBody
  /-- When it is to leave, in device time (R250). -/
  due : Nat
deriving DecidableEq, Repr

/-- A sparse table: keys rise strictly, and no entry holds the value an unlisted key reads as. -/
abbrev Bank (α : Type) := List (Nat × α)

/-! ### Commands and their responses (R583, R598) -/

/-- A response that the firmware holds for a channel until it posts it (R585). -/
structure Reply where
  status : Nat
  data : List Byte
deriving DecidableEq, Repr, Inhabited


/-! ### Outputs -/

/-- What a command shows the outside world. -/
inductive Out where
  /-- A word answered to a bus read. -/
  | read (v : Nat)
  /-- Timer `n` pulses, on a pin or none, for some ns; the level the pin is driven to (R117). -/
  | pulse (n : Nat) (pin : Option Nat) (ns : Nat) (level : Bool)
  /-- `FP_OUT[j]` pulses for some ns, a delay in ns after the start of a frame, to a level; the asked time less the pulse's (R72, R74). -/
  | framePulse (j frame : Nat) (delay : Int) (ns : Nat) (level : Bool) (mis : Int)
  /-- One transmitted bit of a lane is inverted (R170). -/
  | inverted (lane : Nat)
  /-- A lane's generator starts on a pattern, or stops (R165, R166). -/
  | generator (lane : Nat) (pattern : Option Pattern)
  /-- A lane in far-end loopback sends back what was received (R161). -/
  | returned (lane : Nat) (data : List Byte)
  /-- A received line of a serial input goes to its stall engine (R196). -/
  | lineIn (port : Nat)
  /-- A received frame of a serial input goes to its stall engine, complete or not (R196). -/
  | frameIn (port : Nat) (complete : Bool)
  /-- An ancillary packet goes to a stall's ancillary store (R200). -/
  | ancIn (port : Nat) (pkt : AncPkt)
  /-- A serial output sends a line of a frame (R205 to R212). -/
  | lineOut (port frame line : Nat) (sent : LineSent)
  /-- A frame goes into the capture queue of a port (R229). -/
  | captured (port : Nat)
  /-- A frame leaves a capture queue. -/
  | capFrame (port : Nat) (frame : EthFrame) (stamp : Nat)
  /-- A receive flow hands its stall a frame: timestamp, arrival of its first packet, completeness (R243). -/
  | flowFrame (flow ts arrived : Nat) (complete : Bool)
  /-- A packet of an audio or ancillary flow is placed, with its timestamp. -/
  | flowPacket (flow ts : Nat)
  /-- A receive flow shows its stall loss of signal (R239, R242). -/
  | flowLost (flow : Nat)
  /-- A port sends a packet of a flow. -/
  | mediaPacket (port flow : Nat) (sent : PktSent)
  /-- The firmware joins or leaves a group on a port (R254). -/
  | membership (port : Nat) (group source : List Byte) (join : Bool)
  /-- A port sends a frame of the firmware. -/
  | fwFrame (port len : Nat) (body : EthBody)
  /-- A fabric port sends a message or a stroke. -/
  | ctrl (port : Nat) (msg : List Byte)
  | stroke (port : Nat) (bytes : List Byte)
  /-- The packet just shown as it goes onto the lanes (R344 to R346): at NRZ the sync header and 8 bytes of each word, at PAM4 the start bit and 32 bytes
  of each block. -/
  | line (port : Nat) (words : List (Nat × List Byte))
  /-- A lane sends a training block (R372). -/
  | training (lane : Nat) (block : List Byte)
  /-- A serial audio port sends the frame of a house sample: its 32-bit slots, the data delayed one bit, driven on the rising edge (R481, R483). -/
  | sap (port n : Nat) (slots : List Nat) (delayed rising : Bool)
  /-- A serial audio port sends the two AES3 subframes of a house sample, preambles left out (R488). -/
  | aes3 (port n : Nat) (subframes : List Nat)
  /-- Bytes written to a drive, through its cache (FUA) or into it (R518), and a Flush issued (R521). -/
  | driveWrite (drive addr : Nat) (fua : Bool) (data : List Byte)
  | driveFlush (drive : Nat)
  /-- A received line goes to its consumers (R335). -/
  | lineRelease (ring typ frame line : Nat) (data : List Byte)
  /-- A line of a received stream is missing (R332). -/
  | lineMissing (ring typ frame line : Nat)
  /-- The device resets in 1 ms (R601, R608), or its management cores restart. -/
  | resetSoon
  | coresSoon
  /-- The matrix answers a master: an error response or not, and the data read (R559). -/
  | bus (master : Nat) (err : Bool) (data : List Byte)
  /-- The host reads bytes through BAR2 (R579). -/
  | bar2 (data : List Byte)
  /-- An MSI-X vector is requested (R581). -/
  | msix (vector : Nat)
deriving DecidableEq, Repr


/-! ### The device itself -/

/-- What fuses, straps and the silicon fix (R2, R3, R301, R607, R705). -/
structure Dev where
  /-- 0 TZ128-F, 1 TZ128-C, 2 TZ128-E (R3, R732). -/
  variant : Nat
  /-- The device identifier of the fuses. -/
  devId : List Byte
  /-- The strap value of the fabric ID, and whether it is invalid (R301). -/
  fabId : Nat
  idInvalid : Bool
  /-- The boot epoch (R304). -/
  bootEpoch : Nat
  /-- The compatibility word of the running image (R645). -/
  compat : Nat
deriving DecidableEq, Repr, Inhabited

/-! ### Device time (R101 to R126) -/

/-- An entry of a capture queue: seconds, nanoseconds and 2^-16 ns of the stamp, and the edge's direction. -/
structure CapEntry where
  sec : Nat
  ns : Nat
  frac : Nat
  rising : Bool
deriving DecidableEq, Repr, Inhabited

/-- Device time: `now` and `adj` count 2^-48 ns, `rate` is the rate beyond 1 in 2^-48. -/
structure TimeSt where
  /-- `TIME_RAW` (R101). -/
  raw : Nat
  /-- Device time since the ST 2059-1 epoch (R102). -/
  now : Nat
  /-- `TIME_RATE` (R104). -/
  rate : Int
  /-- What is left of `TIME_ADJ` (R105), and whether its reaching zero is still to be flagged. -/
  adj : Int
  adjDue : Bool
  /-- `TIME_RATE` and `TIME_ADJ` as the last tick left them, which reads of this tick answer (R128). -/
  seenRate : Int
  seenAdj : Int
  /-- The programmed time of each timer (R117). -/
  tmrNext : Bank Nat
  /-- `TIME_RAW` at which each timer's last pulse ends (R117). -/
  tmrEnd : Bank Nat
  /-- The queue of each capture unit, oldest first (R123). -/
  caps : Bank (List CapEntry)
deriving DecidableEq, Repr, Inhabited

/-! ### References (R35 to R77) -/

/-- What the device knows of a candidate beside its registers. -/
structure Cand where
  /-- clockClass or quality field, and clockAccuracy (R39, R45). -/
  cls : Nat
  acc : Nat
  /-- Frequency against the system oscillator, 2^-48 (R56). -/
  freq : Int
  /-- PTP domain; `none` is the default 127 (R36). -/
  domain : Option Nat
  /-- Sync messages of a PTP candidate in 1,000 s (R35). -/
  sync : Nat
deriving DecidableEq, Repr, Inhabited

/-- A frame-pulse output: the timeline, divider and offset that its pulses keep, how far they stand from them, and a realignment under way
(R73 to R76). -/
structure FpSt where
  tl : Nat
  div : Nat
  ofs : Int
  /-- Time by `tl`, `div` and `ofs` less pulse time, ns. -/
  off : Int
  /-- The frame of the last pulse, once there was one, and `TIME_RAW` at which it ends. -/
  last : Option Nat
  endRaw : Nat
  /-- A step realignment waits for the next pulse. -/
  step : Bool
  /-- ns per pulse of a slew realignment under way, 0 for none. -/
  slew : Nat
deriving DecidableEq, Repr, Inhabited

/-- The loop of the reference block. -/
structure RefsSt where
  cands : Bank Cand
  /-- The selected candidate was lost since the last evaluation (R44). -/
  lostSel : Bool
  /-- A first set waits for the next comparison (R57, R64). -/
  firstSet : Bool
  /-- A phase difference queued at a switch is not yet removed (R56, R64). -/
  pull : Bool
  /-- Device time at which a disabled timeline stopped (R81). -/
  tlHeld : Bank Nat
  /-- The last 64 stored frequencies, newest first, 2^-48 (R59). -/
  hist : List Int
  /-- The running average (R59). -/
  avg : Int
  /-- Seconds in `LOCKED` without interruption, and whether the history is valid (R60). -/
  locked : Nat
  histOk : Bool
  /-- The frame pulses, by output (R72 to R77). -/
  fps : Bank FpSt
deriving DecidableEq, Repr, Inhabited

/-! ### Synthesizers (R85 to R100) -/

/-- A synthesizer beside its registers. -/
structure Synth where
  /-- Good windows in a row (R89). -/
  good : Nat
  /-- The divider word in use while ramping, 2^-32, and the `HOLD` under way (R97). -/
  word : Nat
  holding : Bool
  /-- The ramp is paused by a loss of lock (R98). -/
  paused : Bool
  /-- The word the tracking loop last applied, what the last count added to it in 2^-32, and device time when counting began (R88). -/
  tracked : Nat
  corrected : Int
  lockAt : Option Int
  /-- Lock was lost and has not come back, and its ten seconds have passed (R685). -/
  lost : Bool
  timedOut : Bool
deriving DecidableEq, Repr, Inhabited


/-! ### Serial lanes (R136 to R184) -/

/-- A lane beside its registers. -/
structure LaneSt where
  /-- The retrain under way answers a fault (R156). -/
  faulted : Bool
  /-- An eye measurement is under way (R172). -/
  eye : Bool
  /-- Both ends have trained this lane (R373), and for how many lane frames in a row (R373). -/
  trained : Bool
  readyRun : Nat
  /-- The receive values last written: `RX_EQ` [10:0], and the DFE words (R153). -/
  wroteEq : Nat
  wroteA : Nat
  wroteB : Nat
  /-- The checker's counters (R168). -/
  errs : Nat
  bits : Nat
  /-- Good and bad markers in a row, for block lock (R348), and the frame count of the last good marker. -/
  goodRun : Nat
  badRun : Nat
  frameCnt : Nat
  /-- The training response this lane sends: two bits a tap (R372). -/
  response : Nat
  /-- The lane failed by a lasting fault and retries (R157). -/
  retrying : Bool
  /-- Losses of a media receive lane (R158); the count has no register (log 177). -/
  losses : Nat
deriving DecidableEq, Repr, Inhabited

/-- The bring-up of a fabric port (R145): 0 OFF, 1 ACQUIRING, 2 NEGOTIATED, 3 TRAINING, 4 VERIFYING, 5 IN_SERVICE, 6 SINGLE. -/
structure Bring where
  state : Nat
  /-- The chosen rate code and down-spread (R143, R366). -/
  rate : Nat
  ssc : Nat
  /-- Training failures at this rate. -/
  fails : Nat
deriving DecidableEq, Repr, Inhabited

/-! ### Serial video ports (R186 to R218) -/

/-- A frame that a serial receiver or a receive flow gives its stall (R196, R199, R243): its format, whether it is complete, its first origin stamp with
whether parity and checksum are right, its time code word, its ancillary packets, payload identifier bytes 3 and 4; from a flow its RTP
timestamp, the arrival of its first packet in ns, and its samples or codestream. -/
structure Given where
  fmt : Nat
  complete : Bool
  stamp : Option (Bool × List Byte)
  atc : Option Nat
  anc : List AncPkt
  meta_ : Option Nat
  ip : Option (Nat × Nat × List Byte)
deriving DecidableEq, Repr, Inhabited

/-- A receiver beside its registers. -/
structure SdiRxSt where
  last : Option RxFrame
  /-- Consecutive frames that agree. -/
  agree : Nat
  /-- Consecutive lines with bad timing reference signals, and frames with another line count (R195). -/
  trsRun : Nat
  lineRun : Nat
  /-- The payload identifier of the last frame, while it differs from the one in use. -/
  pidCand : Option Nat
  /-- `EN` was written 0 while locked: off at the end of the frame (R195). -/
  stopping : Bool
  /-- The frame now beginning is delivered, and how many of its lines have come (R196). -/
  live : Bool
  lines : Nat
  /-- The frame that the stall engine is given and has not completed (R196). -/
  given : Option Given
  /-- Time code seen in this frame: 0 none, 1 VITC kind, 2 LTC kind (R202). -/
  atcSeen : Nat
  /-- The audio groups muted by their control packets, group g in bit g (R204). -/
  muted : Nat
  /-- Two-sample interleave, as the last payload identifier of a quad declares (R190, R194). -/
  div2si : Bool
  /-- The ancillary packets of the frame being received (R199, R200), its first origin stamp (R281), and bytes 3 and 4 of its payload
identifier (R188). -/
  anc : List AncPkt
  stamp : Option (Bool × List Byte)
  meta_ : Option Nat
deriving DecidableEq, Repr, Inhabited

/-- What a transmitter takes at a frame start and keeps through the frame (R211, R218). -/
structure TxLook where
  nosrc : Nat
  /-- The flat colour. -/
  y : Nat
  cb : Nat
  cr : Nat
  /-- Payload identifiers, origin stamps, embedded audio and error detection packets are inserted (R207 to R210). -/
  pid : Bool
  stamp : Bool
  emb : Bool
  edh : Bool
  /-- Payload identifier bytes 3 and 4 when they are overridden (R208). -/
  pidOvr : Option Nat
deriving DecidableEq, Repr, Inhabited

/-- What an output has sent of the frame under way (R494): its rows, or its codestream unit in place of row 0, and whether a line was substituted. -/
structure OutFrame where
  rows : Bank (List Byte)
  subst : Bool
  /-- A row was read poisoned (R690). -/
  bad : Bool
deriving DecidableEq, Repr, Inhabited

/-- A transmitter beside its registers: what it took at its last frame start. -/
structure SdiTxSt where
  /-- `EN` was written 0 while running: off after the frame (R206). -/
  stopping : Bool
  /-- What the frame under way was begun with (R218). -/
  look : TxLook
  /-- The line and frame last sent. -/
  line : Nat
  frame : Nat
  /-- `FSEQ` of the frame sent last, with its stream (R280). -/
  sent : Option (Nat × Nat)
deriving DecidableEq, Repr, Inhabited


/-! ### Ethernet ports and IP flows (R221 to R259) -/

/-- A frame in a capture queue with its receive stamp and flags (R229). -/
structure CapFrame where
  frame : EthFrame
  stamp : Nat
  fcsErr : Bool
  lenErr : Bool
  multiTag : Bool
  ptp : Bool
deriving DecidableEq, Repr

/-- A transmit stamp (R115). -/
structure TxStamp where
  seqId : Nat
  msgType : Nat
  stamp : Nat
deriving DecidableEq, Repr

/-- A port beside its registers: the 15 counters (R233), the capture queue, the stamps, and what `ETH_SET_PORT` gives. -/
structure EthSt where
  cnt : Bank Nat
  capq : List CapFrame
  stamps : List TxStamp
  ip : List Byte
  prefixLen : Nat
deriving DecidableEq, Repr, Inhabited

/-- A leg: group address, source address (all zero for any) and UDP destination port (R239). -/
structure Leg where
  group : List Byte
  source : List Byte
  udp : Nat
deriving DecidableEq, Repr, Inhabited

/-- A packet placed in a frame that has not closed (R240): the timestamp or frame count of its frame, whether it is the frame's first or last, in the
second field, and what it carries. -/
structure Placed where
  seq : Nat
  key : Nat
  ts : Nat
  marker : Bool
  first : Bool
  field2 : Bool
  rows : List RowPart
  payload : List Byte
deriving DecidableEq, Repr

/-- A receive flow beside its registers: what `FLOW_RX_SET` gives, and the merge of R240 to R242. -/
structure FlowRx where
  red : Leg
  blue : Leg
  vid : Nat
  pt : Nat
  ptime : Nat
  assoc : Nat
  rate : Nat
  format : Nat
  /-- `f.base`, once a packet has arrived, and `f.last` (R240). -/
  base : Option Nat
  last : Nat
  /-- The packets placed and not yet cleared from `f.seen`. -/
  seen : List Placed
  /-- The key of the frame that closes next, and when its first packet arrived. -/
  cur : Option (Nat × Nat)
  /-- The keys of later frames begun, each with the arrival of its first packet, oldest first (R241, R243). -/
  later : List (Nat × Nat)
  /-- Arrival of the current frame's first packet on each leg. -/
  redAt : Option Nat
  blueAt : Option Nat
  /-- The frame whose raster is being watched: whether a packet lay outside, the rows and pixels it showed, whether in fields, the sequence numbers of
its first and last packets; and how many frames differed in a row (R242). -/
  rasterKey : Option Nat
  rasterBad : Bool
  shownRows : Nat
  shownPixels : Nat
  shownField2 : Bool
  opens : Option Nat
  ends : Option Nat
  badRun : Nat
  /-- The ancillary packets of the frame being received, its first stamp and its time code (R234, R237). -/
  anc : List AncPkt
  stamp : Option (Bool × List Byte)
  atc : Option Nat
  /-- The frame that the stall is given and has not completed (R243). -/
  given : Option Given
  /-- The audio groups of a kind 2 flow muted by their control packets, group g in bit g (R204, R237). -/
  muted : Nat
  /-- The samples of an audio flow that the matrix has not taken, each with its RTP timestamp (R476). -/
  audio : List (Nat × List Int)
deriving DecidableEq, Repr, Inhabited

/-- A transmit flow beside its registers: what `FLOW_TX_SET` gives. -/
structure FlowTx where
  redDest : List Byte
  blueDest : List Byte
  redUdp : Nat
  blueUdp : Nat
  srcUdp : Nat
  tag : Nat
  dscp : Nat
  ttl : Nat
  pt : Nat
  rate : Nat
  assoc : Nat
  format : Nat
  /-- `EN` was written 0 while running: off after this frame (R253). -/
  stopping : Bool
  /-- The output had no source at the start of this frame (R211, R252); a packet has been sent since `EN`. -/
  bare : Bool
  began : Bool
  /-- `FSEQ` of the frame sent last, with its stream (R280). -/
  sent : Option (Nat × Nat)
deriving DecidableEq, Repr, Inhabited

/-! ### Stalls and checkpoints (R260 to R300) -/

/-- A frame in a slot: its record, its samples and their order, the slot, its ancillary store (R296), and payload identifier bytes 3 and 4 of its
colorimetry, transfer and luminance (R188). -/
structure Held where
  rcd : FrameRec
  pic : List Byte
  psf : Bool
  slot : Nat
  anc : List AncPkt
  meta_ : Option Nat
deriving DecidableEq, Repr, Inhabited

/-- A stall beside its registers. -/
structure StallSt where
  /-- `EN` was written 0: to `OFF` at the next latch (R268). -/
  closing : Bool
  /-- `FSEQ` of the last frame. -/
  fseq : Nat
  /-- The newest complete frame not yet latched, the latched frame, and what consumers read (R261, R269). -/
  waiting : Option Held
  held : Option Held
  shown : Option Held
  wslot : Nat
  /-- Latches in loss (R269). -/
  losLatches : Nat
  /-- A frame was dropped since the last latch; the last latch took a frame (R263, R264). -/
  dropped : Bool
  took : Bool
  tookDrop : Bool
  /-- The latched frame before the last latch, for the partner's decision (R540). -/
  prev : Option Held
  /-- The provisional decision of a member that follows the journal: repeat and drop (R540). -/
  prov : Option (Bool × Bool)
  /-- The frame that the partner latched and this member has not completed: `FSEQ` [23:0], drop (R540). -/
  awaiting : Option (Nat × Bool)
  /-- Frames outside the line-locked window in a row, and whether they end line-locked mode at the next frame start (R274). -/
  badPhase : Nat
  fallBack : Bool
deriving DecidableEq, Repr, Inhabited

/-- A checkpoint beside its registers (R288, R291). -/
structure FreshSt where
  rep : Nat
  lastFseq : Option Nat
deriving DecidableEq, Repr, Inhabited

/-! ### The fabric (R301 to R376) -/

/-- A grant at a source (hop 1) or a relay (hop 2): 1 GRANTED, 2 HELD, 3 RELEASING (R322). -/
structure Grant where
  stream : Nat
  content : Nat
  sub : Nat
  /-- The relay, 0x1F for a direct path. -/
  relay : Nat
  /-- The hop of this link, 0 for the first, and its port. -/
  hop : Nat
  port : Nat
  /-- Seats held, and audio channels (R318, R330). -/
  seats : Nat
  channels : Nat
  /-- The timeline of the stream, and the state of the grant (R320). -/
  tl : Nat
  state : Nat
  /-- The first frame sent, and the first no longer sent (R320, R321). -/
  start : Nat
  stop : Option Nat
deriving DecidableEq, Repr

/-- The credits of one class on one port (R362, R363). -/
structure CreditSt where
  ann : Nat
  sent : Nat
  peerFreed : Nat
  txSeq : Nat
  rxSeq : Nat
  freed : Nat
deriving DecidableEq, Repr, Inhabited

/-- A fabric port beside its registers. -/
structure FabPort where
  nonce : List Byte
  /-- The last `HELLO` sent and received, whole. -/
  hello : List Byte
  peerHello : List Byte
  /-- The boot epoch last heard. -/
  epoch : Option Nat
  /-- The chain received so far, and whether `AUTH` was verified and sent (R306). -/
  chain : List Byte
  /-- Whether the peer's `AUTH` was verified, and `AUTH` sent (R306). -/
  verified : Bool
  authSent : Bool
  /-- The peer's `KEEPALIVE` says that it sleeps (R671). -/
  asleep : Bool
  /-- Buffers and credits by message class (R340). -/
  credits : Bank CreditSt
  /-- Messages that wait for a credit, oldest first. -/
  waitq : List (List Byte)
  /-- `TX_TIME` of the last `TIMING`, its stamp, the peer's time less device time, in 2^-16 ns, and its quality (R367, R368). -/
  timTx : List Byte
  timRx : Nat
  peerOfs : Int
  quality : Nat
deriving DecidableEq, Repr, Inhabited

/-- The latest `ADVERT` of a device (R312). -/
structure Advert where
  free : List Nat
  transit : Nat
  upMask : Nat
deriving DecidableEq, Repr, Inhabited

/-- One copy of a subscribed stream: 0 NONE, 1 PENDING, 2 GRANTED, 3 REROUTING, 4 WAITING_ROUTE, 5 FAILED. -/
structure CopySt where
  state : Nat
  /-- A request is under way. -/
  busy : Bool
  /-- The answer of the last request, and the transaction of the one under way. -/
  status : Nat
  tid : Nat
  /-- The path: 0xFE direct, 0xFF none, else the relay; the pin of `FAB_SUBSCRIBE`. -/
  path : Nat
  pin : Nat
  /-- Seats granted, and seats charged (R330). -/
  seats : Nat
  charged : Nat
  /-- The path has been lost and not yet subscribed again (R314). -/
  lost : Bool
  /-- Seats asked for again once the copy is granted. -/
  again : Option Nat
deriving DecidableEq, Repr, Inhabited

/-- A stream this device holds, by its bow copy, with its holders (R342, R398). -/
structure SubSt where
  stream : Nat
  content : Nat
  channels : Nat
  host : Bool
  count : Nat
  bow : CopySt
  stern : CopySt
  /-- The channels whose `FAB_SUBSCRIBE` waits for an answer. -/
  waitCh : List Nat
deriving DecidableEq, Repr, Inhabited

/-- A request sent and not answered: 0 SUBSCRIBE, 1 RELEASE of a subscriber, 2 SUBSCRIBE and 3 RELEASE of `HOP` 2, 4 RELEASE of
`HOP` 3, 5 ARM, 6 VOTE, 7 GO. -/
structure Ask where
  kind : Nat
  tid : Nat
  dst : Nat
  sends : Nat
  /-- The message body after the header. -/
  body : List Byte
  /-- Kind 0: which request it is: 0 new, 1 reroute, 2 path back, 3 grow, 4 revert. -/
  why : Nat
  /-- Kinds 2 and 3: the originator and transaction ID to answer. -/
  origin : Nat
  originTid : Nat
  /-- Kind 2: the state and seats of the first hop before. -/
  wasState : Nat
  wasSeats : Nat
deriving DecidableEq, Repr

/-- A stored transaction with its response, none while it is acted on (R317). -/
structure Stored where
  tid : Nat
  reply : Option (List Byte)
deriving DecidableEq, Repr

/-- A line slot of a received stream (R331). -/
structure RxSlot where
  frame : Nat
  line : Nat
  code : Nat
  aux : Nat
  data : List Byte
deriving DecidableEq, Repr

/-- A ring of a received stream: its slots, by type and line; the copies that sent a valid stroke since the last check; the format
and timeline of its last stroke; both copies lost; the record released last (R358). -/
structure RxRing where
  slots : Bank (Option RxSlot)
  got : Nat
  fmt : Nat
  tl : Nat
  both : Bool
  rcd : List Byte
  /-- The payload of each video line released last; of the frame being released, whether a line was missing, and its ancillary packets (R332, R355). -/
  asm : Bank (List Byte)
  missed : Bool
  anc : List AncPkt
  /-- The frame that those packets belong to. -/
  ancFrame : Nat
deriving DecidableEq, Repr, Inhabited

/-! ### Takes (R377 to R416) -/

/-- An entry of the take queue. States: 0 FREE, 1 PENDING, 2 ARMED, 3 VOTED, 4 COMMITTED, 5 EXECUTED, 6 LATE, 7 REFUSED, 8 CANCELLED,
9 ABANDONED. -/
structure TakeEnt where
  state : Nat
  /-- Bits [31:10] of the take ID (R394). -/
  count : Nat
  /-- What the take asks (R393): target, source, flags, feather and catch frame, the target's timeline, and the seats it needs. -/
  target : Nat
  src : Nat
  field2 : Bool
  audio : Nat
  anc : Nat
  feather : Nat
  catchF : Nat
  tl : Nat
  seats : Nat
  /-- The regatta, 0 for a standalone take. -/
  rid : Nat
  /-- The status with which it ended. -/
  reason : Nat
  /-- The take holds its remote source (R398). -/
  held : Bool
  /-- The journal's decision, once it has come (R540). -/
  journal : Option Bool
deriving DecidableEq, Repr, Inhabited

/-- A member's vote at the leader. -/
structure VoteSt where
  member : Nat
  ready : Bool
  reason : Nat
  held : Nat
deriving DecidableEq, Repr

/-- A regatta slot (R404 to R411). States: 0 free, 1 collecting, 2 voted, 3 go, 4 abandoned, 5 executed. -/
structure Regatta where
  state : Nat
  id : Nat
  leader : Nat
  tl : Nat
  catchF : Nat
  takes : Nat
  members : Nat
  total : Nat
  policy : Nat
  /-- The member's side: takes accepted, `ARM` sent, vote sent, `GO` taken, the entries held at the vote. -/
  accepted : Nat
  armSent : Bool
  voted : Bool
  gotGo : Bool
  heldAt : List Nat
  /-- The verdict received, and its reason (R408). -/
  verdict : Option Nat
  reason : Nat
  /-- The leader's side: `TAKES` of each `ARM`, the votes, the verdict and reason for each member once decided, the members without
  a route. -/
  arms : List (Nat × Nat)
  votes : List VoteSt
  decided : Bool
  verdicts : List (Nat × Nat × Nat)
  /-- Members without a route. -/
  noRoute : Nat
deriving DecidableEq, Repr, Inhabited

/-- An answered regatta message: sender, transaction ID and status. -/
structure Answered where
  src : Nat
  tid : Nat
  status : Nat
deriving DecidableEq, Repr

/-- The last cut of an output (R385, R391): its frame, the first of the output's lines from the new sources, and the video and ancillary sources before. -/
structure Cut where
  frame : Nat
  line : Nat
  vid : Nat
  anc : Nat
deriving DecidableEq, Repr

/-- The cox. -/
structure CoxSt where
  takes : Bank TakeEnt
  /-- Takes accepted since reset (R394). -/
  accepted : Nat
  /-- The regattas known, by slot (R405). -/
  regattas : Bank Regatta
  /-- Messages of a regatta that this leader has not opened yet (R406). -/
  early : List (List Byte)
  /-- Answers kept for repeats of regatta messages (R406, R407). -/
  answered : List Answered
  /-- The cuts of the outputs. -/
  cuts : Bank (Option Cut)
  /-- Holders that takes removed, by target and subscription key, until the feather ends (R399). -/
  drops : List (Nat × Nat)
deriving DecidableEq, Repr, Inhabited

/-! ### Heads, stills and the guard layer (R417 to R463) -/

/-- A write that waits for a head's frame start: kind 0 `HEAD_CFG`, 1 `HEAD_BG`, 2 and 3 `HEAD_ZORDER`, 4 to 9 the layer registers in
order, 10 a bank commit of place `inst` of the head (R427, R438). -/
structure HeadWrite where
  kind : Nat
  inst : Nat
  v : Nat
deriving DecidableEq, Repr

/-- A head beside its registers: waiting writes, frames since it was enabled, the timeline frame under composition and the device time in ns
of its start, the rows composed so far, and its stall (R420, R421, R427). -/
structure HeadSt where
  pend : List HeadWrite
  fseq : Nat
  frame : Option Nat
  at_ : Nat
  rows : Bank (List Byte)
  waiting : Option Held
  shown : Option Held
  /-- The frame composed last, which the head's consumers show until their lines of the next are there. -/
  last : Option Held
  /-- The slot of the head's ring written next. -/
  wslot : Nat
deriving DecidableEq, Repr, Inhabited

/-- One bank of colour: presets of its tables and of its matrix, entries written over the preset, and the coefficients and offsets written
in place of it (R436 to R438). -/
structure ColourBank where
  preset : Nat
  edits : Bank (Option Nat)
  cscPreset : Nat
  coef : Option (List Int)
deriving DecidableEq, Repr, Inhabited

/-- An accepted guard operation (R451), with the heads it has still to reach. -/
structure GuardOp where
  counter : Nat
  op : Nat
  heads : Nat
  frame : Nat
  tl : Nat
  body : List Byte
deriving DecidableEq, Repr

/-- Queued operations in `COUNTER` order, and the glyphs and labels that differ from reset (R442, R451). -/
structure GuardSt where
  queue : List GuardOp
  glyphs : Bank (Option (List Byte))
  labels : Bank (Option (List Byte))
deriving DecidableEq, Repr, Inhabited

/-- A still store: the frame at whose start a commit takes effect, commits so far, device time in ns of the last one, and whether
buffer 1 is in use (R440, R441). -/
structure StillSt where
  due : Option Nat
  fseq : Nat
  at_ : Nat
  buf : Bool
deriving DecidableEq, Repr, Inhabited

/-! ### Audio (R464 to R492) -/

/-- An input group beside its registers. -/
structure AudGroup where
  /-- Arrival-paced: the samples buffered, oldest first, how many were ever written, and k0 once fixed (R477). -/
  buf : List (List Int)
  written : Nat
  k0 : Int
  /-- Timeline-indexed: the samples by house sample count (R476). -/
  tagged : Bank (Option (List Int))
  /-- The last samples read, and what the group gives the matrix at this house sample. -/
  last : List Int
  cur : List Int
  /-- Position in a fade and its length; a start after a failure (R478, R479). -/
  k : Nat
  m : Nat
  again : Bool
  /-- Samples of mute left after a reset of the rate converter (R487). -/
  mute : Nat
deriving DecidableEq, Repr, Inhabited

/-- A crossfade of an output slot: the input it leaves (none for silence), the one it goes to, its position and length, and the changes that
wait, each an input and a length (R390, R473, R474). -/
structure Xfade where
  old : Option Nat
  new : Option Nat
  k : Nat
  len : Nat
  wait : List (Option Nat × Nat)
deriving DecidableEq, Repr

/-- An `AUD_ROUTE` that waits: the timeline frame it names, or the sample it applies at; slots with their crosspoint words (R473). -/
structure Route where
  tl : Nat
  frame : Nat
  sample : Nat
  set : List (Nat × Nat)
deriving DecidableEq, Repr

/-- A fabric audio block: its ring, the bow copy of its stream, and which 16 channels it carries (R470). -/
structure AudBlock where
  ring : Nat
  stream : Nat
  part : Nat
deriving DecidableEq, Repr

/-- The audio matrix. -/
structure AudSt where
  groups : Bank AudGroup
  /-- Slots that `AUD_MAP` gave a received flow's group; first slot and count of a transmit flow. -/
  counts : Bank Nat
  txMap : Bank (Option (Nat × Nat))
  /-- Fabric blocks; the parts that found none; channels that each ring's audio carries. -/
  blocks : Bank (Option AudBlock)
  missed : List AudBlock
  chans : Bank Nat
  /-- Crossfades under way, and changes that wait for their start (R473, R474). -/
  xfades : Bank (Option Xfade)
  routes : List Route
  /-- What each output slot carries at this house sample, and the count of the last one. -/
  outs : Bank Int
  now : Nat
  /-- The input and output slots at the last house samples, newest first (R356, R472). -/
  past : List (Nat × Bank Int × Bank Int)
deriving DecidableEq, Repr, Inhabited

/-! ### The witness (R493 to R533) -/

/-- A record ready for a bale; a frame record carries its frame and the format of its output (R509). -/
structure WitRec where
  bytes : List Byte
  frame : Option Nat
  fmt : Nat
deriving DecidableEq, Repr

/-- A bale that is open or being sealed (R504, R510): its slot (of the set, or of a drive for an incident), the body assembled so far and how
much of it lies on the drives, its frames, and whether it is sealed as `CLOSED`. -/
structure Bale where
  seq : Nat
  ringSeq : Nat
  slot : Nat
  resumed : Bool
  opened : Nat
  body : List Byte
  done : Nat
  records : Nat
  first : Option (Nat × Nat)
  last : Nat
  sealing : Option Bool
deriving DecidableEq, Repr

/-- A chain of bales: its tap and capture, the next `BALE_SEQ`, the last sealed bale with its slot and hash, the bales under way in order, and
the records that wait for a bale to open (R506). -/
structure Chain where
  capture : Nat
  nextSeq : Nat
  last : Option (Nat × Nat × List Byte)
  bales : List Bale
  wait : List WitRec
  resumed : Bool
deriving DecidableEq, Repr, Inhabited

/-- A frame whose picture is being coded (R503): its events, its frame record without `PROXY`, its audio record, and which coders still owe
a picture. -/
structure PendPic where
  frame : Nat
  fmt : Nat
  pic : List Byte
  psf : Bool
  events : List WitRec
  rcd : List Byte
  audio : List Byte
  proxyDue : Bool
  fullDue : Bool
  /-- The picture was read poisoned (R690). -/
  bad : Bool
deriving DecidableEq, Repr

/-- A tap: events of the frame under way by line and kind, the `FSEQ` last shown, audio pairs not yet in a record with the house count of the
first, the frame being coded, and the output signatures of the last frames (R494). -/
structure TapSt where
  events : List (Nat × Nat × List Byte)
  lastFseq : Option Nat
  pcm : List (Int × Int)
  pcmFrom : Nat
  pend : Option PendPic
  sigs : List (Nat × Nat)
deriving DecidableEq, Repr, Inhabited

/-- A coded frame in the incident ring. -/
structure IncFrame where
  tap : Nat
  frame : Nat
  recs : List WitRec
deriving DecidableEq, Repr

/-- A drive: what its port shows, what it holds, and its last health log: Critical Warning, Percentage Used, Available Spare, temperature, Data
Units Written, Media and Data Integrity Errors (R514, R525). -/
structure DriveSt where
  slots : Nat
  /-- What lies on the medium; the bytes written without FUA since, which a power loss may take; those of them that a Flush under way covers (R518, R521). -/
  data : Bank Byte
  soft : Bank (Option Byte)
  flush : Bank (Option Byte)
  /-- The SMART data last read: critical warning, used, spare, temperature, units written, media errors (R525). -/
  crit : Nat
  used : Nat
  spare : Nat
  temp : Nat
  duw : Nat
  mediaErr : Nat
deriving DecidableEq, Repr, Inhabited

/-- The mounted drive set (R515, R521). -/
structure DriveSet where
  layout : Nat
  encrypted : Bool
  id : List Byte
  slots : Nat
  extents : Nat
  /-- The public keys of the key records, slot by slot. -/
  keyRecs : List (List Byte)
  /-- Checkpoints written; the next slot of the ring, the slot of the last header, the next capture (R512, R521). -/
  ckptSeq : Nat
  ringNext : Nat
  headSlot : Nat
  nextCapture : Nat
  /-- Witness bales sealed since the last checkpoint; a Flush is under way; the set can be written. -/
  sealedCnt : Nat
  flushing : Bool
  up : Bool
  /-- The device that formatted the set. -/
  devId : List Byte
deriving DecidableEq, Repr

/-- The witness and the incident buffer. Chains: tap n at n, the incident chain of tap n at 256 + n. -/
structure WitSt where
  taps : Bank TapSt
  chains : Bank Chain
  set : Option DriveSet
  drives : Bank DriveSt
  ring : List IncFrame
  /-- The capture under way: first trigger frame, post end, timeline, slots of its extent used, its extent; the frame and source of the last
  trigger; `EN` was written 0. -/
  t0 : Nat
  postEnd : Nat
  tl : Nat
  incSlot : Nat
  extent : Nat
  trig : Option (Nat × Nat)
  closing : Bool
deriving DecidableEq, Repr, Inhabited

/-! ### Twins (R534 to R555) -/

/-- The partner's signature of a frame of an output, as far as it has come (R544). -/
structure PartnerSig where
  output : Nat
  frame : Nat
  low : Option Nat
  high : Option Nat
deriving DecidableEq, Repr

/-- The twin beside its registers. -/
structure TwinSt where
  /-- Role changes, the newest first: the frames of timelines 0 and 1 in which they came, and the role from then on (R538). -/
  roles : List (Nat × Nat × Bool)
  /-- Provisional decisions that wait for the partner's entry: kind, index, frame (R540). -/
  owed : List (Nat × Nat × Nat)
  /-- One past the frame of the last own decision, by kind × 1,024 + index. -/
  decided : Bank Nat
  /-- Entries that came before the own decision: kind, index, frame, value. -/
  early : List (Nat × Nat × Nat × Nat)
  /-- The partner's `FSEQ` [23:0] less the own one, by stall; the stalls that adopt it from their next latch entry (R540, R546). -/
  offsets : Bank Nat
  adopt : List Nat
  /-- Frames whose journal miss is counted: timeline and frame (R541). -/
  missed : List (Nat × Nat)
  /-- What the frame under way has shown, and the runs (R546). -/
  missBad : Bool
  mmBad : Bool
  sigBad : Bool
  missRun : Nat
  mmRun : Nat
  /-- Output signatures that wait for the partner's (R544). -/
  sigs : List PartnerSig
  /-- Outputs that the partner's entries name. -/
  peerOuts : List Nat
  /-- The heartbeat has ended for a commanded switch-over (R549). -/
  switching : Bool
deriving DecidableEq, Repr, Inhabited


/-! ### Keys and fuses (R605 to R626) -/

/-- An injected key with the key that wraps it, and as it is stored (R622). -/
structure KeptKey where
  key : List Byte
  kek : List Byte
  wrapped : List Byte
deriving DecidableEq, Repr, Inhabited

/-- The keep area of the settings: the keys of slots 1 and 2 and the identity chain (R647). -/
structure Keep where
  slots : Bank KeptKey
  chain : List Byte
deriving DecidableEq, Repr, Inhabited

/-- The key store, the fuse cells and what the firmware holds for keys. -/
structure KeysSt where
  /-- Cells A and B of each life-cycle state: 0 not blown, 1 blown at normal margin only, 2 at strict margin (R607, R608). -/
  cellA : Bank Nat
  cellB : Bank Nat
  /-- The intent record (R608), and whether a transition was completed at power-on (R609). -/
  intent : Option Nat
  repaired : Bool
  /-- Slot 0, the root; the injected keys of slots 1 and 2; the written flags of all slots (R612, R622). -/
  root : Option (List Byte)
  injected : Bank (List Byte)
  written : Nat
  /-- The slots written in this life-cycle state (R612). -/
  used : Nat
  /-- The retention latch; the check pattern is damaged; `RET_LOST` (R615, R616). -/
  latch : Bool
  /-- The store has been zeroised since the latch was set (R615). -/
  wiped : Bool
  /-- The retention pattern does not read back; contents were lost (R615). -/
  patternBad : Bool
  retLost : Bool
  /-- M and whether it is closed (R617). -/
  meas : List Byte
  measured : Bool
  /-- A scan has zeroised the store (R619). -/
  scanZeroised : Bool
  /-- The keep area of the settings record, and the parts of a chain while it is loaded (R620, R622, R647). -/
  keep : Keep
  /-- The parts of a chain while it is loaded (R622). -/
  parts : List Byte
deriving DecidableEq, Repr, Inhabited

/-! ### Pins -/

/-- Levels on pins, debounced where the spec debounces them. -/
structure PinsSt where
  /-- `GUARD_KEY_N` reads low (R453). -/
  guardKeyLow : Bool
deriving DecidableEq, Repr, Inhabited

/-! ### The flash, starts and updates (R627 to R652) -/

/-- A record of the flash log (R639). -/
structure LogRec where
  kind : Nat
  arg : Nat
  seq : Nat
  value : Nat
deriving DecidableEq, Repr

/-- A settings bank: its header fields, the keep area, and the configuration as register fields by key, the domains recorded as off, `DEGRADED_OK` = 0,
the repaired yard rows, the carve, the IP flows and the allow list (R632, R647, R692, R733). -/
structure Settings where
  format : Nat
  gen : Nat
  fw : Nat
  cfg : List (Nat × Nat)
  domOff : List Nat
  strict : Bool
  rows : List (Nat × Nat × Nat)
  carve : Option (List Nat)
  rx : Bank FlowRx
  tx : Bank FlowTx
  allow : Bank (List Byte)
  keep : Keep
deriving DecidableEq, Repr

/-- The flash: slots and staging by byte, complemented, so that what is erased is not listed; the halves of the log, and whether the
second is the current one; the settings banks, none where a bank is not valid. -/
structure FlashSt where
  mem : Bank Byte
  logA : List LogRec
  logB : List LogRec
  inB : Bool
  bankA : Option Settings
  bankB : Option Settings
deriving DecidableEq, Repr, Inhabited

/-- A start and an update under way. -/
structure StartSt where
  /-- `RESET_N` is low, or EXTEST or CLAMP is selected (R717, R721). -/
  pinLow : Bool
  clamped : Bool
  /-- The firmware runs; the slot copy under way: 1 save, 2 install, 3 rollback; copies of it that failed (R641, R643). -/
  booted : Bool
  copying : Nat
  tries : Nat
  /-- Flags and reason of `UPD_STATUS` (R653). -/
  fallback : Bool
  rolledBack : Bool
  defaulted : Bool
  erasing : Bool
  /-- `UPD_FINISH` has started the check of the staging area (R640). -/
  verifying : Bool
  reason : Nat
  /-- `LENGTH` of the image received, and the units written (R640). -/
  length : Nat
  units : Bank Bool
  /-- The slot that runs: whether it is the previous one, and its version. -/
  inPrev : Bool
  version : Nat
  /-- The bank in use is B; the settings on their way to a bank, and whether that is B (R648, R649). -/
  curB : Bool
  saving : Option (Bool × Settings)
  /-- `TIME_RAW` at the start and at release. -/
  bootRaw : Nat
  relRaw : Nat
  /-- Self-test: phases done, phases failed (bit p - 1), balls that failed phase 1, its time in µs once complete (R629, R653). -/
  phases : Nat
  failed : Nat
  rings : Nat
  /-- The balls that failed phase 1 (R634). -/
  badBalls : List Nat
  /-- The time of the self-test in µs, once complete (R629, R653). -/
  duration : Nat
deriving DecidableEq, Repr, Inhabited

/-! ### Power (R655 to R679) -/

/-- A change of a domain that waits for the sequencer: the charge left in 1/240 of 0.1 A, and whether it is the last of a `PWR_DOMAIN`
request (R659 to R661). -/
structure DomChange where
  dom : Nat
  on : Bool
  left : Nat
  last : Bool
deriving DecidableEq, Repr

/-- The sequencer, the power meter and sleep. -/
structure PwrSt where
  queue : List DomChange
  /-- Charges made, the newest first: `TIME_RAW` and 1/240 of 0.1 A (R659). -/
  charges : List (Nat × Nat)
  /-- Run-charge steps drawn, by domain (R662). -/
  ramps : Bank Nat
  /-- `TIME_RAW` at the first step of a ramp (R662). -/
  rampT : Bank Nat
  /-- Domains that `PWR_DOMAIN` has switched off (R733). -/
  off : List Nat
  /-- Power samples of this second: their sum in µW and their number; seconds below the cap (R666, R667). -/
  sum : Nat
  samples : Nat
  below : Nat
deriving DecidableEq, Repr, Inhabited

/-! ### Faults (R680 to R699) -/

/-- Retries, yard errors and injected faults. -/
structure FaultSt where
  /-- Engines and cores in their retry window: block and instance (R685). -/
  windows : List (Nat × Nat)
  /-- Faults injected and not yet recorded: block and instance (R697). -/
  marks : List (Nat × Nat)
  /-- Poisoned yard units, by address ÷ 64 (R690). -/
  poison : List Nat
  /-- Consecutive scrub passes with a correctable error: stack, bank, row, last pass, run (R691). -/
  ceRuns : List (Nat × Nat × Nat × Nat × Nat)
  /-- Row repairs under way: stack, bank, row, after an uncorrectable read; banks whose spare is used; repaired rows (R691, R692). -/
  repairs : List (Nat × Nat × Nat × Bool)
  spares : List (Nat × Nat)
  rows : List (Nat × Nat × Nat)
  /-- `HBMC_ERR_LO` and `_HI` hold their first event (R690). -/
  errHeld : Bool
  /-- Consecutive timeouts by target block (R685). -/
  timeouts : Bank Nat
deriving DecidableEq, Repr, Inhabited

/-! ### Mailboxes (R576 to R604) -/

/-- A request that the firmware has taken. -/
structure TakenReq where
  cmd : Nat
  seq : Nat
  raw : Nat
  /-- The response carries `EPOCH_CHANGED`; it is discarded when posted (R590, R591, R593). -/
  changed : Bool
  /-- The response is discarded when it is posted (R590, R591). -/
  void : Bool
deriving DecidableEq, Repr

/-- The slots by host-area offset, the taken requests, and the firmware log with the position of its first byte. -/
structure MbxSt where
  mem : Bank Byte
  taken : Bank (Option TakenReq)
  /-- `TIME_RAW` at the doorbell of a posted request, until its timeout has been shown (R585). -/
  posted : Bank (Option Nat)
  /-- The text that the firmware has logged, and the position of its first byte (R600). -/
  log : List Byte
  logFrom : Nat
deriving DecidableEq, Repr, Inhabited

/-! ### The bus matrix (R559 to R575) -/

/-- The matrix: requests accepted and not answered, requests held back, the masters that targets are parked on, the master served last by
each target, `MATRIX_ERR` holds its first event, and the working SRAM. -/
structure MatSt where
  out : List MatReq
  held : List MatReq
  parked : Bank (Option Nat)
  served : Bank Nat
  errHeld : Bool
  sram : Bank Byte
  /-- A `REMAP` write waits (R562). -/
  remapping : Bool
deriving DecidableEq, Repr, Inhabited

/-- `SYS`: `TIME_RAW` at the last kick of each watchdog (R710); the cores whose watchdog fault is lasting, restarted every 60 s (R685). -/
structure SysSt where
  kicks : Bank Nat
  lasting : List Nat
deriving DecidableEq, Repr, Inhabited



/-- Everything the spec gives the device, the command queue apart. -/
structure Block where
  /-- The registers, field by field: `none` where a field holds its reset value. -/
  regs : Bank (Option Nat)
  /-- What the command just run showed the outside world, oldest first. The model's own record. -/
  out : List Out
  /-- How many free values have been taken. The model's own counter. -/
  free : Nat
  /-- The responses that wait to be posted, by channel (R585). -/
  replies : Bank (Option Reply)
  /-- Fuses, straps and silicon. -/
  dev : Dev
  /-- Device time, timers and captures. -/
  time : TimeSt
  /-- The reference loop. -/
  refs : RefsSt
  /-- The eight synthesizers. -/
  pll : Bank Synth
  /-- `OSC_IN` shows no edges (R90). -/
  oscLost : Bool
  /-- The 345 lanes. -/
  lanes : Bank LaneSt
  /-- The bring-up of the fabric ports. -/
  bring : Bank Bring
  /-- The serial receivers and transmitters. -/
  sdiRx : Bank SdiRxSt
  sdiTx : Bank SdiTxSt
  /-- The Ethernet ports and the IP flows. -/
  eth : Bank EthSt
  flowRx : Bank FlowRx
  flowTx : Bank FlowTx
  /-- What the outputs have sent of the frame under way. -/
  outFrames : Bank OutFrame
  /-- The stalls; the last function of each watch region (R293); the checkpoints. -/
  stalls : Bank StallSt
  watch : Bank (Option Nat)
  checks : Bank FreshSt
  /-- The sizes that `YARD_CARVE` gave the five regions, in GiB; none for the default carve (R28, R295). -/
  carve : Option (List Nat)
  /-- The yard, by byte above 0x80_0000_0000. -/
  yard : Bank Byte
  /-- The fabric: ports, adverts by device, grants, withheld streams by port and stream, subscriptions, rings,
  unanswered requests, stored responses, the transaction count and the allow list. -/
  fabPorts : Bank FabPort
  adverts : Bank Advert
  grants : List Grant
  withheld : Bank Bool
  subs : Bank SubSt
  rings : Bank RxRing
  asks : List Ask
  stored : Bank (List Stored)
  tid : Nat
  allow : Bank (List Byte)
  /-- The streams of the mirror stalls (R9). -/
  mirrors : Bank (Option Nat)
  /-- Keys and fuses. -/
  keys : KeysSt
  /-- Pin levels. -/
  pins : PinsSt
  /-- The cox: takes and regattas. -/
  cox : CoxSt
  /-- Heads; their colour banks, by head, place and bank; the guard layer; still stores. -/
  headSt : Bank HeadSt
  colour : Bank ColourBank
  guard : GuardSt
  stills : Bank StillSt
  /-- The safety core is in reset (R557). -/
  safetyReset : Bool
  /-- The audio matrix and the serial audio ports. -/
  aud : AudSt
  /-- The witness record, the incident buffer and the drives. -/
  wit : WitSt
  /-- The twin. -/
  twin : TwinSt
  /-- The data path runs: the firmware has released it (R627). -/
  released : Bool
  /-- The flash, starts and updates, power, faults, mailboxes, the bus matrix, the `SYS` block. -/
  flash : FlashSt
  start : StartSt
  pwr : PwrSt
  flt : FaultSt
  mbx : MbxSt
  mat : MatSt
  sys : SysSt
deriving DecidableEq, Repr, Inhabited

/-- The machine: the device and the commands that wait for it, first in, first out. -/
structure State extends Block where
  /-- Commands waiting, the oldest first. The model's own queue. -/
  pending : List Instr
deriving DecidableEq, Repr, Inhabited

/-- Why a step can stop. The spec gives every command of the table an effect or a refusal of its own, so no meaning raises a fault. -/
inductive Fault where
  /-- Raised by nothing: the spec names no condition that stops the device for good. Safe. -/
  | stopped
deriving DecidableEq, Repr

/-- Why a command has no meaning. -/
inductive Refusal where
  /-- Raised by the dispatch for a command that has no meaning yet, with its mnemonic. Safe: the machine stops. -/
  | notModelled (mnemonic : String)
deriving DecidableEq, Repr

/-- The device right after power-on reset (R103, R702): every table empty, so every register reads its reset value. -/
def State.reset : State := { toBlock := default, pending := [] }

end Sys2Proof.Machine
end

