-- ==== Sys2Proof/Machine/Regs.lean ====
section
/-!
DEFINITION. The register map: every register of the spec's tables with its place in its block's window
(R8, R712), and every field with its bits, access code, reset value and the values its table says it is stored as.
Register `R.X` and field `F.X_Y` follow the table of the chapter that the docstring's rule stands in.
A reset that depends on the instance, or that the table gives in words, is 0 here and is supplied by `resetOf` in Ops.
-/
namespace Sys2Proof.Machine

/-! ### Common -/

/-- `BLK_ID` (R704). -/
def R.BLK_ID : Reg := ⟨0x0000000, 1048576, 26, 0, 1⟩
def F.BLK_ID_INDEX : Field := ⟨R.BLK_ID, 0, 8, .ro, .special, .any⟩
def F.BLK_ID_REV : Field := ⟨R.BLK_ID, 8, 8, .ro, .special, .any⟩
def F.BLK_ID_TAG : Field := ⟨R.BLK_ID, 16, 16, .ro, .c 23129, .any⟩
def W.BLK_ID : List Field := [F.BLK_ID_INDEX, F.BLK_ID_REV, F.BLK_ID_TAG]
/-- `BLK_CAP` (R704). -/
def R.BLK_CAP : Reg := ⟨0x0000004, 1048576, 26, 0, 1⟩
def F.BLK_CAP_INSTANCES : Field := ⟨R.BLK_CAP, 0, 16, .ro, .special, .any⟩
def F.BLK_CAP_UNITS : Field := ⟨R.BLK_CAP, 16, 8, .ro, .special, .any⟩
def W.BLK_CAP : List Field := [F.BLK_CAP_INSTANCES, F.BLK_CAP_UNITS]
/-- `BLK_STATUS` (R704). -/
def R.BLK_STATUS : Reg := ⟨0x0000008, 1048576, 26, 0, 1⟩
def F.BLK_STATUS_POWERED : Field := ⟨R.BLK_STATUS, 0, 1, .ro, .special, .any⟩
def F.BLK_STATUS_SELFTEST : Field := ⟨R.BLK_STATUS, 1, 1, .ro, .c 0, .any⟩
def F.BLK_STATUS_READY : Field := ⟨R.BLK_STATUS, 2, 1, .ro, .c 0, .any⟩
def W.BLK_STATUS : List Field := [F.BLK_STATUS_POWERED, F.BLK_STATUS_SELFTEST, F.BLK_STATUS_READY]
/-- `BLK_IRQ_STATUS` (R704). -/
def R.BLK_IRQ_STATUS : Reg := ⟨0x0000010, 1048576, 26, 0, 1⟩
def F.BLK_IRQ_STATUS_HIST_PEND : Field := ⟨R.BLK_IRQ_STATUS, 0, 1, .ro, .c 0, .any⟩
def F.BLK_IRQ_STATUS_TRANSIENT_PEND : Field := ⟨R.BLK_IRQ_STATUS, 1, 1, .ro, .c 0, .any⟩
def F.BLK_IRQ_STATUS_LASTING_PEND : Field := ⟨R.BLK_IRQ_STATUS, 2, 1, .ro, .c 0, .any⟩
def W.BLK_IRQ_STATUS : List Field := [F.BLK_IRQ_STATUS_HIST_PEND, F.BLK_IRQ_STATUS_TRANSIENT_PEND, F.BLK_IRQ_STATUS_LASTING_PEND]
/-- `BLK_IRQ_EN` (R704). -/
def R.BLK_IRQ_EN : Reg := ⟨0x0000014, 1048576, 26, 0, 1⟩
def F.BLK_IRQ_EN_EN : Field := ⟨R.BLK_IRQ_EN, 0, 3, .rw, .c 7, .any⟩
def W.BLK_IRQ_EN : List Field := [F.BLK_IRQ_EN_EN]
/-- `BLK_FAULT` (R704). -/
def R.BLK_FAULT : Reg := ⟨0x0000020, 1048576, 26, 0, 1⟩
def F.BLK_FAULT_FAULT_TRANSIENT : Field := ⟨R.BLK_FAULT, 0, 1, .w1c, .c 0, .any⟩
def F.BLK_FAULT_FAULT_LASTING : Field := ⟨R.BLK_FAULT, 1, 1, .w1c, .c 0, .any⟩
def F.BLK_FAULT_FAULT_CODE : Field := ⟨R.BLK_FAULT, 8, 8, .ro, .c 0, .any⟩
def F.BLK_FAULT_FAULT_INST : Field := ⟨R.BLK_FAULT, 16, 16, .ro, .c 0, .any⟩
def W.BLK_FAULT : List Field := [F.BLK_FAULT_FAULT_TRANSIENT, F.BLK_FAULT_FAULT_LASTING, F.BLK_FAULT_FAULT_CODE, F.BLK_FAULT_FAULT_INST]
/-- `BLK_FAULT_CNT` (R704). -/
def R.BLK_FAULT_CNT : Reg := ⟨0x0000024, 1048576, 26, 0, 1⟩
def F.BLK_FAULT_CNT_TRANSIENT_CNT : Field := ⟨R.BLK_FAULT_CNT, 0, 16, .ro, .c 0, .any⟩
def F.BLK_FAULT_CNT_LASTING_CNT : Field := ⟨R.BLK_FAULT_CNT, 16, 16, .ro, .c 0, .any⟩
def W.BLK_FAULT_CNT : List Field := [F.BLK_FAULT_CNT_TRANSIENT_CNT, F.BLK_FAULT_CNT_LASTING_CNT]
/-- `BLK_REJECT_CNT` (R704). -/
def R.BLK_REJECT_CNT : Reg := ⟨0x0000028, 1048576, 26, 0, 1⟩
def F.BLK_REJECT_CNT_COUNT : Field := ⟨R.BLK_REJECT_CNT, 0, 32, .rcl, .c 0, .any⟩
def W.BLK_REJECT_CNT : List Field := [F.BLK_REJECT_CNT_COUNT]
/-- `BLK_POWERUP_CNT` (R704). -/
def R.BLK_POWERUP_CNT : Reg := ⟨0x000002C, 1048576, 26, 0, 1⟩
def F.BLK_POWERUP_CNT_COUNT : Field := ⟨R.BLK_POWERUP_CNT, 0, 32, .ro, .c 0, .any⟩
def W.BLK_POWERUP_CNT : List Field := [F.BLK_POWERUP_CNT_COUNT]
def fieldsCommon0 : List Field := [F.BLK_ID_INDEX, F.BLK_ID_REV, F.BLK_ID_TAG, F.BLK_CAP_INSTANCES, F.BLK_CAP_UNITS, F.BLK_STATUS_POWERED, F.BLK_STATUS_SELFTEST, F.BLK_STATUS_READY, F.BLK_IRQ_STATUS_HIST_PEND, F.BLK_IRQ_STATUS_TRANSIENT_PEND, F.BLK_IRQ_STATUS_LASTING_PEND, F.BLK_IRQ_EN_EN, F.BLK_FAULT_FAULT_TRANSIENT, F.BLK_FAULT_FAULT_LASTING, F.BLK_FAULT_FAULT_CODE, F.BLK_FAULT_FAULT_INST, F.BLK_FAULT_CNT_TRANSIENT_CNT, F.BLK_FAULT_CNT_LASTING_CNT, F.BLK_REJECT_CNT_COUNT, F.BLK_POWERUP_CNT_COUNT]
/-- Every field of block Common. -/
def fieldsCommon : List Field := fieldsCommon0

/-! ### SYS -/

/-- `PWR_CFG` (R679). -/
def R.PWR_CFG : Reg := ⟨0x0000400, 0, 1, 0, 1⟩
def F.PWR_CFG_STEP_BUDGET : Field := ⟨R.PWR_CFG, 0, 8, .rw, .c 80, .range 10 255⟩
def F.PWR_CFG_STEP_WIN : Field := ⟨R.PWR_CFG, 8, 8, .rw, .c 10, .range 1 100⟩
def F.PWR_CFG_RUN_RAMP_US : Field := ⟨R.PWR_CFG, 16, 8, .rw, .c 20, .range 1 255⟩
def F.PWR_CFG_AVS_MARGIN : Field := ⟨R.PWR_CFG, 24, 4, .rw, .c 2, .any⟩
def W.PWR_CFG : List Field := [F.PWR_CFG_STEP_BUDGET, F.PWR_CFG_STEP_WIN, F.PWR_CFG_RUN_RAMP_US, F.PWR_CFG_AVS_MARGIN]
/-- `PWR_CAP` (R679). -/
def R.PWR_CAP : Reg := ⟨0x0000404, 0, 1, 0, 1⟩
def F.PWR_CAP_CAP_W : Field := ⟨R.PWR_CAP, 0, 16, .rw, .c 0, .any⟩
def F.PWR_CAP_CAP_HYST : Field := ⟨R.PWR_CAP, 16, 8, .rw, .c 5, .range 1 255⟩
def W.PWR_CAP : List Field := [F.PWR_CAP_CAP_W, F.PWR_CAP_CAP_HYST]
/-- `PWR_STATUS` (R679). -/
def R.PWR_STATUS : Reg := ⟨0x0000408, 0, 1, 0, 1⟩
def F.PWR_STATUS_STATE : Field := ⟨R.PWR_STATUS, 0, 2, .ro, .c 0, .any⟩
def F.PWR_STATUS_CAP_STEP : Field := ⟨R.PWR_STATUS, 2, 2, .ro, .c 0, .any⟩
def F.PWR_STATUS_CAP_UNMET : Field := ⟨R.PWR_STATUS, 4, 1, .ro, .c 0, .any⟩
def F.PWR_STATUS_TEMP_WARN : Field := ⟨R.PWR_STATUS, 5, 1, .ro, .c 0, .any⟩
def F.PWR_STATUS_THERMAL_SHUTDOWN : Field := ⟨R.PWR_STATUS, 6, 1, .ro, .c 0, .any⟩
def F.PWR_STATUS_SEQ_BUSY : Field := ⟨R.PWR_STATUS, 7, 1, .ro, .c 0, .any⟩
def F.PWR_STATUS_POWER_DW : Field := ⟨R.PWR_STATUS, 16, 16, .ro, .c 0, .any⟩
def W.PWR_STATUS : List Field := [F.PWR_STATUS_STATE, F.PWR_STATUS_CAP_STEP, F.PWR_STATUS_CAP_UNMET, F.PWR_STATUS_TEMP_WARN, F.PWR_STATUS_THERMAL_SHUTDOWN, F.PWR_STATUS_SEQ_BUSY, F.PWR_STATUS_POWER_DW]
/-- `PWR_HIST` (R679). -/
def R.PWR_HIST : Reg := ⟨0x000040C, 0, 1, 0, 1⟩
def F.PWR_HIST_SLEEP_ENTERED : Field := ⟨R.PWR_HIST, 0, 1, .w1c, .c 0, .any⟩
def F.PWR_HIST_WAKE_DONE : Field := ⟨R.PWR_HIST, 1, 1, .w1c, .c 0, .any⟩
def F.PWR_HIST_CAP_STEPPED : Field := ⟨R.PWR_HIST, 2, 1, .w1c, .c 0, .any⟩
def F.PWR_HIST_CAP_UNMET : Field := ⟨R.PWR_HIST, 3, 1, .w1c, .c 0, .any⟩
def F.PWR_HIST_THERMAL_WARN : Field := ⟨R.PWR_HIST, 4, 1, .w1c, .c 0, .any⟩
def F.PWR_HIST_THERMAL_SHUTDOWN : Field := ⟨R.PWR_HIST, 5, 1, .w1c, .c 0, .any⟩
def F.PWR_HIST_STEP_OVER : Field := ⟨R.PWR_HIST, 6, 1, .w1c, .c 0, .any⟩
def F.PWR_HIST_AVS_LIMIT : Field := ⟨R.PWR_HIST, 7, 1, .w1c, .c 0, .any⟩
def F.PWR_HIST_CFG_REJECTED : Field := ⟨R.PWR_HIST, 8, 1, .w1c, .c 0, .any⟩
def F.PWR_HIST_DOMAIN_DONE : Field := ⟨R.PWR_HIST, 9, 1, .w1c, .c 0, .any⟩
def W.PWR_HIST : List Field := [F.PWR_HIST_SLEEP_ENTERED, F.PWR_HIST_WAKE_DONE, F.PWR_HIST_CAP_STEPPED, F.PWR_HIST_CAP_UNMET, F.PWR_HIST_THERMAL_WARN, F.PWR_HIST_THERMAL_SHUTDOWN, F.PWR_HIST_STEP_OVER, F.PWR_HIST_AVS_LIMIT, F.PWR_HIST_CFG_REJECTED, F.PWR_HIST_DOMAIN_DONE]
/-- `PWR_IRQ_EN` (R679). -/
def R.PWR_IRQ_EN : Reg := ⟨0x0000410, 0, 1, 0, 1⟩
def F.PWR_IRQ_EN_EN : Field := ⟨R.PWR_IRQ_EN, 0, 10, .rw, .c 0, .any⟩
def W.PWR_IRQ_EN : List Field := [F.PWR_IRQ_EN_EN]
/-- `AVS_STATUS` (R679). -/
def R.AVS_STATUS : Reg := ⟨0x0000414, 0, 1, 0, 1⟩
def F.AVS_STATUS_VDD_MV : Field := ⟨R.AVS_STATUS, 0, 10, .ro, .c 750, .any⟩
def F.AVS_STATUS_FLOOR_MV : Field := ⟨R.AVS_STATUS, 16, 10, .ro, .c 680, .any⟩
def W.AVS_STATUS : List Field := [F.AVS_STATUS_VDD_MV, F.AVS_STATUS_FLOOR_MV]
/-- `PWR_TEMP` (R679). -/
def R.PWR_TEMP : Reg := ⟨0x0000418, 0, 1, 0, 1⟩
def F.PWR_TEMP_TJ : Field := ⟨R.PWR_TEMP, 0, 16, .ro, .c 0, .any⟩
def F.PWR_TEMP_HOT_SENSOR : Field := ⟨R.PWR_TEMP, 16, 4, .ro, .c 0, .any⟩
def W.PWR_TEMP : List Field := [F.PWR_TEMP_TJ, F.PWR_TEMP_HOT_SENSOR]
/-- `PWR_DOM_ON` (R679). -/
def R.PWR_DOM_ON : Reg := ⟨0x0000420, 4, 3, 0, 1⟩
def F.PWR_DOM_ON_ON : Field := ⟨R.PWR_DOM_ON, 0, 32, .ro, .special, .any⟩
def W.PWR_DOM_ON : List Field := [F.PWR_DOM_ON_ON]
/-- `PWR_SLEEP_MASK` (R679). -/
def R.PWR_SLEEP_MASK : Reg := ⟨0x0000430, 4, 3, 0, 1⟩
def F.PWR_SLEEP_MASK_MASK : Field := ⟨R.PWR_SLEEP_MASK, 0, 32, .ro, .c 0, .any⟩
def W.PWR_SLEEP_MASK : List Field := [F.PWR_SLEEP_MASK_MASK]
/-- `PWR_WAKE_EN` (R679). -/
def R.PWR_WAKE_EN : Reg := ⟨0x0000440, 0, 1, 0, 1⟩
def F.PWR_WAKE_EN_DOORBELL : Field := ⟨R.PWR_WAKE_EN, 0, 1, .ro, .c 1, .any⟩
def F.PWR_WAKE_EN_FAB_WAKE : Field := ⟨R.PWR_WAKE_EN, 1, 1, .rw, .c 0, .any⟩
def F.PWR_WAKE_EN_TMR_WAKE : Field := ⟨R.PWR_WAKE_EN, 2, 1, .rw, .c 0, .any⟩
def F.PWR_WAKE_EN_TMR_MASK : Field := ⟨R.PWR_WAKE_EN, 16, 16, .rw, .c 0, .any⟩
def W.PWR_WAKE_EN : List Field := [F.PWR_WAKE_EN_DOORBELL, F.PWR_WAKE_EN_FAB_WAKE, F.PWR_WAKE_EN_TMR_WAKE, F.PWR_WAKE_EN_TMR_MASK]
/-- `PWR_WAKE_CAUSE` (R679). -/
def R.PWR_WAKE_CAUSE : Reg := ⟨0x0000444, 0, 1, 0, 1⟩
def F.PWR_WAKE_CAUSE_CAUSE : Field := ⟨R.PWR_WAKE_CAUSE, 0, 3, .w1c, .c 0, .any⟩
def W.PWR_WAKE_CAUSE : List Field := [F.PWR_WAKE_CAUSE_CAUSE]
/-- `STEP_OVER_CNT` (R679). -/
def R.STEP_OVER_CNT : Reg := ⟨0x0000448, 0, 1, 0, 1⟩
def F.STEP_OVER_CNT_COUNT : Field := ⟨R.STEP_OVER_CNT, 0, 32, .rcl, .c 0, .any⟩
def W.STEP_OVER_CNT : List Field := [F.STEP_OVER_CNT_COUNT]
/-- `PWR_CHARGE` (R679). -/
def R.PWR_CHARGE : Reg := ⟨0x0000500, 4, 96, 0, 1⟩
def F.PWR_CHARGE_WAKE : Field := ⟨R.PWR_CHARGE, 0, 8, .ro, .special, .any⟩
def F.PWR_CHARGE_RUN : Field := ⟨R.PWR_CHARGE, 8, 8, .ro, .special, .any⟩
def W.PWR_CHARGE : List Field := [F.PWR_CHARGE_WAKE, F.PWR_CHARGE_RUN]
/-- `FAULTN_CFG` (R699). -/
def R.FAULTN_CFG : Reg := ⟨0x0000180, 0, 1, 0, 1⟩
def F.FAULTN_CFG_MASK : Field := ⟨R.FAULTN_CFG, 0, 26, .rw, .c 67108863, .any⟩
def W.FAULTN_CFG : List Field := [F.FAULTN_CFG_MASK]
/-- `SYS_UNITS` (R708). -/
def R.SYS_UNITS : Reg := ⟨0x0000100, 0, 1, 0, 1⟩
def F.SYS_UNITS_PRESENT : Field := ⟨R.SYS_UNITS, 0, 26, .ro, .special, .any⟩
def W.SYS_UNITS : List Field := [F.SYS_UNITS_PRESENT]
/-- `SYS_VARIANT` (R708). -/
def R.SYS_VARIANT : Reg := ⟨0x0000104, 0, 1, 0, 1⟩
def F.SYS_VARIANT_VARIANT : Field := ⟨R.SYS_VARIANT, 0, 8, .ro, .special, .any⟩
def F.SYS_VARIANT_SI_REV : Field := ⟨R.SYS_VARIANT, 8, 8, .ro, .special, .any⟩
def F.SYS_VARIANT_YARD_GIB : Field := ⟨R.SYS_VARIANT, 16, 8, .ro, .special, .any⟩
def F.SYS_VARIANT_FAB_ID : Field := ⟨R.SYS_VARIANT, 24, 5, .ro, .special, .any⟩
def F.SYS_VARIANT_ID_INVALID : Field := ⟨R.SYS_VARIANT, 29, 1, .ro, .special, .any⟩
def W.SYS_VARIANT : List Field := [F.SYS_VARIANT_VARIANT, F.SYS_VARIANT_SI_REV, F.SYS_VARIANT_YARD_GIB, F.SYS_VARIANT_FAB_ID, F.SYS_VARIANT_ID_INVALID]
/-- `SYS_RESET_CAUSE` (R708). -/
def R.SYS_RESET_CAUSE : Reg := ⟨0x0000108, 0, 1, 0, 1⟩
def F.SYS_RESET_CAUSE_POWER_ON : Field := ⟨R.SYS_RESET_CAUSE, 0, 1, .w1c, .c 1, .any⟩
def F.SYS_RESET_CAUSE_DEVICE : Field := ⟨R.SYS_RESET_CAUSE, 1, 1, .w1c, .c 0, .any⟩
def F.SYS_RESET_CAUSE_PIN : Field := ⟨R.SYS_RESET_CAUSE, 2, 1, .w1c, .c 0, .any⟩
def F.SYS_RESET_CAUSE_THERMAL : Field := ⟨R.SYS_RESET_CAUSE, 3, 1, .w1c, .c 0, .any⟩
def F.SYS_RESET_CAUSE_CORE_WDT : Field := ⟨R.SYS_RESET_CAUSE, 4, 4, .w1c, .c 0, .any⟩
def W.SYS_RESET_CAUSE : List Field := [F.SYS_RESET_CAUSE_POWER_ON, F.SYS_RESET_CAUSE_DEVICE, F.SYS_RESET_CAUSE_PIN, F.SYS_RESET_CAUSE_THERMAL, F.SYS_RESET_CAUSE_CORE_WDT]
/-- `SYS_RESET_CTRL` (R708). -/
def R.SYS_RESET_CTRL : Reg := ⟨0x000010C, 0, 1, 0, 1⟩
def F.SYS_RESET_CTRL_CORE_RST : Field := ⟨R.SYS_RESET_CTRL, 0, 4, .wo, .c 0, .any⟩
def F.SYS_RESET_CTRL_DEVICE : Field := ⟨R.SYS_RESET_CTRL, 4, 1, .wo, .c 0, .any⟩
def F.SYS_RESET_CTRL_KEY : Field := ⟨R.SYS_RESET_CTRL, 16, 16, .wo, .c 0, .any⟩
def W.SYS_RESET_CTRL : List Field := [F.SYS_RESET_CTRL_CORE_RST, F.SYS_RESET_CTRL_DEVICE, F.SYS_RESET_CTRL_KEY]
/-- `SYS_WDT` (R708). -/
def R.SYS_WDT : Reg := ⟨0x0000110, 4, 4, 0, 1⟩
def F.SYS_WDT_TMO_MS : Field := ⟨R.SYS_WDT, 0, 16, .rw, .c 1000, .range 1 65535⟩
def F.SYS_WDT_EN : Field := ⟨R.SYS_WDT, 16, 1, .rw, .c 1, .any⟩
def F.SYS_WDT_KICK : Field := ⟨R.SYS_WDT, 17, 1, .wo, .c 0, .any⟩
def W.SYS_WDT : List Field := [F.SYS_WDT_TMO_MS, F.SYS_WDT_EN, F.SYS_WDT_KICK]
/-- `SYS_HIST` (R708). -/
def R.SYS_HIST : Reg := ⟨0x0000120, 0, 1, 0, 1⟩
def F.SYS_HIST_WDT_EXPIRED : Field := ⟨R.SYS_HIST, 0, 4, .w1c, .c 0, .any⟩
def F.SYS_HIST_GPIO_CHANGED : Field := ⟨R.SYS_HIST, 4, 1, .w1c, .c 0, .any⟩
def F.SYS_HIST_CFG_REJECTED : Field := ⟨R.SYS_HIST, 5, 1, .w1c, .c 0, .any⟩
def W.SYS_HIST : List Field := [F.SYS_HIST_WDT_EXPIRED, F.SYS_HIST_GPIO_CHANGED, F.SYS_HIST_CFG_REJECTED]
/-- `SYS_IRQ_EN` (R708). -/
def R.SYS_IRQ_EN : Reg := ⟨0x0000124, 0, 1, 0, 1⟩
def F.SYS_IRQ_EN_EN : Field := ⟨R.SYS_IRQ_EN, 0, 6, .rw, .c 0, .any⟩
def W.SYS_IRQ_EN : List Field := [F.SYS_IRQ_EN_EN]
/-- `GPIO_DIR` (R708). -/
def R.GPIO_DIR : Reg := ⟨0x0000140, 0, 1, 0, 1⟩
def F.GPIO_DIR_OUT : Field := ⟨R.GPIO_DIR, 0, 32, .rw, .c 0, .any⟩
def W.GPIO_DIR : List Field := [F.GPIO_DIR_OUT]
/-- `GPIO_OUT` (R708). -/
def R.GPIO_OUT : Reg := ⟨0x0000144, 0, 1, 0, 1⟩
def F.GPIO_OUT_LEVEL : Field := ⟨R.GPIO_OUT, 0, 32, .rw, .c 0, .any⟩
def W.GPIO_OUT : List Field := [F.GPIO_OUT_LEVEL]
/-- `GPIO_IN` (R708). -/
def R.GPIO_IN : Reg := ⟨0x0000148, 0, 1, 0, 1⟩
def F.GPIO_IN_LEVEL : Field := ⟨R.GPIO_IN, 0, 32, .ro, .special, .any⟩
def W.GPIO_IN : List Field := [F.GPIO_IN_LEVEL]
/-- `GPIO_EDGE` (R708). -/
def R.GPIO_EDGE : Reg := ⟨0x000014C, 0, 1, 0, 1⟩
def F.GPIO_EDGE_CHANGED : Field := ⟨R.GPIO_EDGE, 0, 32, .w1c, .c 0, .any⟩
def W.GPIO_EDGE : List Field := [F.GPIO_EDGE_CHANGED]
/-- `GPIO_EDGE_EN` (R708). -/
def R.GPIO_EDGE_EN : Reg := ⟨0x0000150, 0, 1, 0, 1⟩
def F.GPIO_EDGE_EN_EN : Field := ⟨R.GPIO_EDGE_EN, 0, 32, .rw, .c 0, .any⟩
def W.GPIO_EDGE_EN : List Field := [F.GPIO_EDGE_EN_EN]
def fieldsSYS0 : List Field := [F.PWR_CFG_STEP_BUDGET, F.PWR_CFG_STEP_WIN, F.PWR_CFG_RUN_RAMP_US, F.PWR_CFG_AVS_MARGIN, F.PWR_CAP_CAP_W, F.PWR_CAP_CAP_HYST, F.PWR_STATUS_STATE, F.PWR_STATUS_CAP_STEP, F.PWR_STATUS_CAP_UNMET, F.PWR_STATUS_TEMP_WARN, F.PWR_STATUS_THERMAL_SHUTDOWN, F.PWR_STATUS_SEQ_BUSY, F.PWR_STATUS_POWER_DW, F.PWR_HIST_SLEEP_ENTERED, F.PWR_HIST_WAKE_DONE, F.PWR_HIST_CAP_STEPPED, F.PWR_HIST_CAP_UNMET, F.PWR_HIST_THERMAL_WARN, F.PWR_HIST_THERMAL_SHUTDOWN, F.PWR_HIST_STEP_OVER, F.PWR_HIST_AVS_LIMIT, F.PWR_HIST_CFG_REJECTED, F.PWR_HIST_DOMAIN_DONE, F.PWR_IRQ_EN_EN, F.AVS_STATUS_VDD_MV, F.AVS_STATUS_FLOOR_MV, F.PWR_TEMP_TJ, F.PWR_TEMP_HOT_SENSOR, F.PWR_DOM_ON_ON, F.PWR_SLEEP_MASK_MASK, F.PWR_WAKE_EN_DOORBELL, F.PWR_WAKE_EN_FAB_WAKE, F.PWR_WAKE_EN_TMR_WAKE, F.PWR_WAKE_EN_TMR_MASK, F.PWR_WAKE_CAUSE_CAUSE, F.STEP_OVER_CNT_COUNT, F.PWR_CHARGE_WAKE, F.PWR_CHARGE_RUN, F.FAULTN_CFG_MASK, F.SYS_UNITS_PRESENT]
def fieldsSYS1 : List Field := [F.SYS_VARIANT_VARIANT, F.SYS_VARIANT_SI_REV, F.SYS_VARIANT_YARD_GIB, F.SYS_VARIANT_FAB_ID, F.SYS_VARIANT_ID_INVALID, F.SYS_RESET_CAUSE_POWER_ON, F.SYS_RESET_CAUSE_DEVICE, F.SYS_RESET_CAUSE_PIN, F.SYS_RESET_CAUSE_THERMAL, F.SYS_RESET_CAUSE_CORE_WDT, F.SYS_RESET_CTRL_CORE_RST, F.SYS_RESET_CTRL_DEVICE, F.SYS_RESET_CTRL_KEY, F.SYS_WDT_TMO_MS, F.SYS_WDT_EN, F.SYS_WDT_KICK, F.SYS_HIST_WDT_EXPIRED, F.SYS_HIST_GPIO_CHANGED, F.SYS_HIST_CFG_REJECTED, F.SYS_IRQ_EN_EN, F.GPIO_DIR_OUT, F.GPIO_OUT_LEVEL, F.GPIO_IN_LEVEL, F.GPIO_EDGE_CHANGED, F.GPIO_EDGE_EN_EN]
/-- Every field of block SYS. -/
def fieldsSYS : List Field := fieldsSYS0 ++ fieldsSYS1

/-! ### TIME -/

/-- `TIME_CTRL` (R133). -/
def R.TIME_CTRL : Reg := ⟨0x0100100, 0, 1, 0, 1⟩
def F.TIME_CTRL_SLEW_LIM : Field := ⟨R.TIME_CTRL, 0, 8, .rw, .c 200, .range 1 200⟩
def F.TIME_CTRL_UNSYNC : Field := ⟨R.TIME_CTRL, 8, 1, .wo, .c 0, .any⟩
def F.TIME_CTRL_SET_GO : Field := ⟨R.TIME_CTRL, 9, 1, .wo, .c 0, .any⟩
def W.TIME_CTRL : List Field := [F.TIME_CTRL_SLEW_LIM, F.TIME_CTRL_UNSYNC, F.TIME_CTRL_SET_GO]
/-- `TIME_STATUS` (R133). -/
def R.TIME_STATUS : Reg := ⟨0x0100104, 0, 1, 0, 1⟩
def F.TIME_STATUS_SYNCED : Field := ⟨R.TIME_STATUS, 0, 1, .ro, .c 0, .any⟩
def F.TIME_STATUS_SLEWING : Field := ⟨R.TIME_STATUS, 1, 1, .ro, .c 0, .any⟩
def W.TIME_STATUS : List Field := [F.TIME_STATUS_SYNCED, F.TIME_STATUS_SLEWING]
/-- `TIME_HIST` (R133). -/
def R.TIME_HIST : Reg := ⟨0x0100108, 0, 1, 0, 1⟩
def F.TIME_HIST_FIRST_SET : Field := ⟨R.TIME_HIST, 0, 1, .w1c, .c 0, .any⟩
def F.TIME_HIST_SET_REJECTED : Field := ⟨R.TIME_HIST, 1, 1, .w1c, .c 0, .any⟩
def F.TIME_HIST_UNSYNCED : Field := ⟨R.TIME_HIST, 2, 1, .w1c, .c 0, .any⟩
def F.TIME_HIST_ADJ_DONE : Field := ⟨R.TIME_HIST, 3, 1, .w1c, .c 0, .any⟩
def F.TIME_HIST_LIMIT_HIT : Field := ⟨R.TIME_HIST, 4, 1, .w1c, .c 0, .any⟩
def F.TIME_HIST_CFG_REJECTED : Field := ⟨R.TIME_HIST, 5, 1, .w1c, .c 0, .any⟩
def W.TIME_HIST : List Field := [F.TIME_HIST_FIRST_SET, F.TIME_HIST_SET_REJECTED, F.TIME_HIST_UNSYNCED, F.TIME_HIST_ADJ_DONE, F.TIME_HIST_LIMIT_HIT, F.TIME_HIST_CFG_REJECTED]
/-- `TIME_IRQ_EN` (R133). -/
def R.TIME_IRQ_EN : Reg := ⟨0x010010C, 0, 1, 0, 1⟩
def F.TIME_IRQ_EN_EN : Field := ⟨R.TIME_IRQ_EN, 0, 6, .rw, .c 0, .any⟩
def W.TIME_IRQ_EN : List Field := [F.TIME_IRQ_EN_EN]
/-- `TIME_NS` (R133). -/
def R.TIME_NS : Reg := ⟨0x0100110, 0, 1, 0, 1⟩
def F.TIME_NS_NS : Field := ⟨R.TIME_NS, 0, 30, .ro, .c 0, .any⟩
def W.TIME_NS : List Field := [F.TIME_NS_NS]
/-- `TIME_SEC_LO` (R133). -/
def R.TIME_SEC_LO : Reg := ⟨0x0100114, 0, 1, 0, 1⟩
def F.TIME_SEC_LO_SEC : Field := ⟨R.TIME_SEC_LO, 0, 32, .ro, .c 0, .any⟩
def W.TIME_SEC_LO : List Field := [F.TIME_SEC_LO_SEC]
/-- `TIME_SEC_HI` (R133). -/
def R.TIME_SEC_HI : Reg := ⟨0x0100118, 0, 1, 0, 1⟩
def F.TIME_SEC_HI_SEC : Field := ⟨R.TIME_SEC_HI, 0, 16, .ro, .c 0, .any⟩
def W.TIME_SEC_HI : List Field := [F.TIME_SEC_HI_SEC]
/-- `TIME_FRAC` (R133). -/
def R.TIME_FRAC : Reg := ⟨0x010011C, 0, 1, 0, 1⟩
def F.TIME_FRAC_FRAC : Field := ⟨R.TIME_FRAC, 0, 16, .ro, .c 0, .any⟩
def W.TIME_FRAC : List Field := [F.TIME_FRAC_FRAC]
/-- `TIME_RAW_LO` (R133). -/
def R.TIME_RAW_LO : Reg := ⟨0x0100120, 0, 1, 0, 1⟩
def F.TIME_RAW_LO_RAW : Field := ⟨R.TIME_RAW_LO, 0, 32, .ro, .c 0, .any⟩
def W.TIME_RAW_LO : List Field := [F.TIME_RAW_LO_RAW]
/-- `TIME_RAW_HI` (R133). -/
def R.TIME_RAW_HI : Reg := ⟨0x0100124, 0, 1, 0, 1⟩
def F.TIME_RAW_HI_RAW : Field := ⟨R.TIME_RAW_HI, 0, 32, .ro, .c 0, .any⟩
def W.TIME_RAW_HI : List Field := [F.TIME_RAW_HI_RAW]
/-- `TIME_RATE_LO` (R133). -/
def R.TIME_RATE_LO : Reg := ⟨0x0100128, 0, 1, 0, 1⟩
def F.TIME_RATE_LO_RATE : Field := ⟨R.TIME_RATE_LO, 0, 32, .ro, .c 0, .any⟩
def W.TIME_RATE_LO : List Field := [F.TIME_RATE_LO_RATE]
/-- `TIME_ADJ_LO` (R133). -/
def R.TIME_ADJ_LO : Reg := ⟨0x010012C, 0, 1, 0, 1⟩
def F.TIME_ADJ_LO_ADJ : Field := ⟨R.TIME_ADJ_LO, 0, 32, .ro, .c 0, .any⟩
def W.TIME_ADJ_LO : List Field := [F.TIME_ADJ_LO_ADJ]
/-- `TIME_ADJ_HI` (R133). -/
def R.TIME_ADJ_HI : Reg := ⟨0x0100130, 0, 1, 0, 1⟩
def F.TIME_ADJ_HI_ADJ : Field := ⟨R.TIME_ADJ_HI, 0, 16, .ro, .c 0, .any⟩
def W.TIME_ADJ_HI : List Field := [F.TIME_ADJ_HI_ADJ]
/-- `TIME_SET_NS` (R133). -/
def R.TIME_SET_NS : Reg := ⟨0x0100134, 0, 1, 0, 1⟩
def F.TIME_SET_NS_NS : Field := ⟨R.TIME_SET_NS, 0, 30, .rw, .c 0, .any⟩
def W.TIME_SET_NS : List Field := [F.TIME_SET_NS_NS]
/-- `TIME_SET_SEC_LO` (R133). -/
def R.TIME_SET_SEC_LO : Reg := ⟨0x0100138, 0, 1, 0, 1⟩
def F.TIME_SET_SEC_LO_SEC : Field := ⟨R.TIME_SET_SEC_LO, 0, 32, .rw, .c 0, .any⟩
def W.TIME_SET_SEC_LO : List Field := [F.TIME_SET_SEC_LO_SEC]
/-- `TIME_SET_SEC_HI` (R133). -/
def R.TIME_SET_SEC_HI : Reg := ⟨0x010013C, 0, 1, 0, 1⟩
def F.TIME_SET_SEC_HI_SEC : Field := ⟨R.TIME_SET_SEC_HI, 0, 16, .rw, .c 0, .any⟩
def W.TIME_SET_SEC_HI : List Field := [F.TIME_SET_SEC_HI_SEC]
/-- `TMR_HIST` (R133). -/
def R.TMR_HIST : Reg := ⟨0x0100140, 0, 1, 0, 1⟩
def F.TMR_HIST_FIRED : Field := ⟨R.TMR_HIST, 0, 16, .w1c, .c 0, .any⟩
def F.TMR_HIST_LATE : Field := ⟨R.TMR_HIST, 16, 16, .w1c, .c 0, .any⟩
def W.TMR_HIST : List Field := [F.TMR_HIST_FIRED, F.TMR_HIST_LATE]
/-- `TMR_IRQ_EN` (R133). -/
def R.TMR_IRQ_EN : Reg := ⟨0x0100144, 0, 1, 0, 1⟩
def F.TMR_IRQ_EN_EN : Field := ⟨R.TMR_IRQ_EN, 0, 32, .rw, .c 0, .any⟩
def W.TMR_IRQ_EN : List Field := [F.TMR_IRQ_EN_EN]
/-- `CAP_HIST` (R133). -/
def R.CAP_HIST : Reg := ⟨0x0100148, 0, 1, 0, 1⟩
def F.CAP_HIST_CAPTURED : Field := ⟨R.CAP_HIST, 0, 16, .w1c, .c 0, .any⟩
def F.CAP_HIST_OVF : Field := ⟨R.CAP_HIST, 16, 16, .w1c, .c 0, .any⟩
def W.CAP_HIST : List Field := [F.CAP_HIST_CAPTURED, F.CAP_HIST_OVF]
/-- `CAP_IRQ_EN` (R133). -/
def R.CAP_IRQ_EN : Reg := ⟨0x010014C, 0, 1, 0, 1⟩
def F.CAP_IRQ_EN_EN : Field := ⟨R.CAP_IRQ_EN, 0, 32, .rw, .c 0, .any⟩
def W.CAP_IRQ_EN : List Field := [F.CAP_IRQ_EN_EN]
/-- `TIME_RATE_HI` (R133). -/
def R.TIME_RATE_HI : Reg := ⟨0x0100150, 0, 1, 0, 1⟩
def F.TIME_RATE_HI_RATE : Field := ⟨R.TIME_RATE_HI, 0, 16, .ro, .c 0, .any⟩
def W.TIME_RATE_HI : List Field := [F.TIME_RATE_HI_RATE]
/-- `TMR_CFG` (R133). -/
def R.TMR_CFG : Reg := ⟨0x0100400, 32, 16, 0, 1⟩
def F.TMR_CFG_ARM : Field := ⟨R.TMR_CFG, 0, 1, .rw, .c 0, .any⟩
def F.TMR_CFG_PERIODIC : Field := ⟨R.TMR_CFG, 1, 1, .rw, .c 0, .any⟩
def F.TMR_CFG_POL : Field := ⟨R.TMR_CFG, 2, 1, .rw, .c 0, .any⟩
def F.TMR_CFG_PIN : Field := ⟨R.TMR_CFG, 3, 3, .rw, .c 0, .any⟩
def F.TMR_CFG_PIN_EN : Field := ⟨R.TMR_CFG, 6, 1, .rw, .c 0, .any⟩
def F.TMR_CFG_WIDTH : Field := ⟨R.TMR_CFG, 8, 24, .rw, .c 1, .range 1 16777215⟩
def W.TMR_CFG : List Field := [F.TMR_CFG_ARM, F.TMR_CFG_PERIODIC, F.TMR_CFG_POL, F.TMR_CFG_PIN, F.TMR_CFG_PIN_EN, F.TMR_CFG_WIDTH]
/-- `TMR_START_NS` (R133). -/
def R.TMR_START_NS : Reg := ⟨0x0100404, 32, 16, 0, 1⟩
def F.TMR_START_NS_NS : Field := ⟨R.TMR_START_NS, 0, 30, .rw, .c 0, .any⟩
def W.TMR_START_NS : List Field := [F.TMR_START_NS_NS]
/-- `TMR_START_SEC_LO` (R133). -/
def R.TMR_START_SEC_LO : Reg := ⟨0x0100408, 32, 16, 0, 1⟩
def F.TMR_START_SEC_LO_SEC : Field := ⟨R.TMR_START_SEC_LO, 0, 32, .rw, .c 0, .any⟩
def W.TMR_START_SEC_LO : List Field := [F.TMR_START_SEC_LO_SEC]
/-- `TMR_START_SEC_HI` (R133). -/
def R.TMR_START_SEC_HI : Reg := ⟨0x010040C, 32, 16, 0, 1⟩
def F.TMR_START_SEC_HI_SEC : Field := ⟨R.TMR_START_SEC_HI, 0, 16, .rw, .c 0, .any⟩
def W.TMR_START_SEC_HI : List Field := [F.TMR_START_SEC_HI_SEC]
/-- `TMR_PERIOD_NS` (R133). -/
def R.TMR_PERIOD_NS : Reg := ⟨0x0100410, 32, 16, 0, 1⟩
def F.TMR_PERIOD_NS_NS : Field := ⟨R.TMR_PERIOD_NS, 0, 32, .rw, .c 0, .any⟩
def W.TMR_PERIOD_NS : List Field := [F.TMR_PERIOD_NS_NS]
/-- `TMR_PERIOD_FRAC` (R133). -/
def R.TMR_PERIOD_FRAC : Reg := ⟨0x0100414, 32, 16, 0, 1⟩
def F.TMR_PERIOD_FRAC_FRAC : Field := ⟨R.TMR_PERIOD_FRAC, 0, 16, .rw, .c 0, .any⟩
def W.TMR_PERIOD_FRAC : List Field := [F.TMR_PERIOD_FRAC_FRAC]
/-- `TMR_COUNT` (R133). -/
def R.TMR_COUNT : Reg := ⟨0x0100418, 32, 16, 0, 1⟩
def F.TMR_COUNT_COUNT : Field := ⟨R.TMR_COUNT, 0, 32, .ro, .c 0, .any⟩
def W.TMR_COUNT : List Field := [F.TMR_COUNT_COUNT]
/-- `CAP_CFG` (R133). -/
def R.CAP_CFG : Reg := ⟨0x0100600, 16, 16, 0, 1⟩
def F.CAP_CFG_SRC : Field := ⟨R.CAP_CFG, 0, 6, .rw, .c 12, .any⟩
def F.CAP_CFG_EDGE : Field := ⟨R.CAP_CFG, 6, 2, .rw, .c 1, .any⟩
def F.CAP_CFG_EN : Field := ⟨R.CAP_CFG, 8, 1, .rw, .c 0, .any⟩
def F.CAP_CFG_OVF_COUNT : Field := ⟨R.CAP_CFG, 16, 16, .ro, .c 0, .any⟩
def W.CAP_CFG : List Field := [F.CAP_CFG_SRC, F.CAP_CFG_EDGE, F.CAP_CFG_EN, F.CAP_CFG_OVF_COUNT]
/-- `CAP_NS` (R133). -/
def R.CAP_NS : Reg := ⟨0x0100604, 16, 16, 0, 1⟩
def F.CAP_NS_NS : Field := ⟨R.CAP_NS, 0, 30, .ro, .c 0, .any⟩
def F.CAP_NS_RISING : Field := ⟨R.CAP_NS, 30, 1, .ro, .c 0, .any⟩
def F.CAP_NS_VALID : Field := ⟨R.CAP_NS, 31, 1, .ro, .c 0, .any⟩
def W.CAP_NS : List Field := [F.CAP_NS_NS, F.CAP_NS_RISING, F.CAP_NS_VALID]
/-- `CAP_SEC_LO` (R133). -/
def R.CAP_SEC_LO : Reg := ⟨0x0100608, 16, 16, 0, 1⟩
def F.CAP_SEC_LO_SEC : Field := ⟨R.CAP_SEC_LO, 0, 32, .ro, .c 0, .any⟩
def W.CAP_SEC_LO : List Field := [F.CAP_SEC_LO_SEC]
/-- `CAP_SEC_HI` (R133). -/
def R.CAP_SEC_HI : Reg := ⟨0x010060C, 16, 16, 0, 1⟩
def F.CAP_SEC_HI_SEC : Field := ⟨R.CAP_SEC_HI, 0, 16, .ro, .c 0, .any⟩
def F.CAP_SEC_HI_FRAC : Field := ⟨R.CAP_SEC_HI, 16, 16, .ro, .c 0, .any⟩
def W.CAP_SEC_HI : List Field := [F.CAP_SEC_HI_SEC, F.CAP_SEC_HI_FRAC]
def fieldsTIME0 : List Field := [F.TIME_CTRL_SLEW_LIM, F.TIME_CTRL_UNSYNC, F.TIME_CTRL_SET_GO, F.TIME_STATUS_SYNCED, F.TIME_STATUS_SLEWING, F.TIME_HIST_FIRST_SET, F.TIME_HIST_SET_REJECTED, F.TIME_HIST_UNSYNCED, F.TIME_HIST_ADJ_DONE, F.TIME_HIST_LIMIT_HIT, F.TIME_HIST_CFG_REJECTED, F.TIME_IRQ_EN_EN, F.TIME_NS_NS, F.TIME_SEC_LO_SEC, F.TIME_SEC_HI_SEC, F.TIME_FRAC_FRAC, F.TIME_RAW_LO_RAW, F.TIME_RAW_HI_RAW, F.TIME_RATE_LO_RATE, F.TIME_ADJ_LO_ADJ, F.TIME_ADJ_HI_ADJ, F.TIME_SET_NS_NS, F.TIME_SET_SEC_LO_SEC, F.TIME_SET_SEC_HI_SEC, F.TMR_HIST_FIRED, F.TMR_HIST_LATE, F.TMR_IRQ_EN_EN, F.CAP_HIST_CAPTURED, F.CAP_HIST_OVF, F.CAP_IRQ_EN_EN, F.TIME_RATE_HI_RATE, F.TMR_CFG_ARM, F.TMR_CFG_PERIODIC, F.TMR_CFG_POL, F.TMR_CFG_PIN, F.TMR_CFG_PIN_EN, F.TMR_CFG_WIDTH, F.TMR_START_NS_NS, F.TMR_START_SEC_LO_SEC, F.TMR_START_SEC_HI_SEC]
def fieldsTIME1 : List Field := [F.TMR_PERIOD_NS_NS, F.TMR_PERIOD_FRAC_FRAC, F.TMR_COUNT_COUNT, F.CAP_CFG_SRC, F.CAP_CFG_EDGE, F.CAP_CFG_EN, F.CAP_CFG_OVF_COUNT, F.CAP_NS_NS, F.CAP_NS_RISING, F.CAP_NS_VALID, F.CAP_SEC_LO_SEC, F.CAP_SEC_HI_SEC, F.CAP_SEC_HI_FRAC]
/-- Every field of block TIME. -/
def fieldsTIME : List Field := fieldsTIME0 ++ fieldsTIME1

/-! ### REFS -/

/-- `REFS_CTRL` (R81). -/
def R.REFS_CTRL : Reg := ⟨0x0200100, 0, 1, 0, 1⟩
def F.REFS_CTRL_SEL_MODE : Field := ⟨R.REFS_CTRL, 0, 2, .rw, .c 0, .any⟩
def F.REFS_CTRL_FORCE_SEL : Field := ⟨R.REFS_CTRL, 2, 3, .rw, .c 0, .any⟩
def F.REFS_CTRL_REVERT : Field := ⟨R.REFS_CTRL, 5, 1, .rw, .c 1, .any⟩
def F.REFS_CTRL_QL_FALLBACK : Field := ⟨R.REFS_CTRL, 6, 1, .rw, .c 1, .any⟩
def F.REFS_CTRL_ACQ_BW : Field := ⟨R.REFS_CTRL, 8, 4, .rw, .c 6, .range 0 13⟩
def F.REFS_CTRL_TRK_BW : Field := ⟨R.REFS_CTRL, 12, 4, .rw, .c 4, .range 0 13⟩
def F.REFS_CTRL_DAMP : Field := ⟨R.REFS_CTRL, 16, 2, .rw, .c 3, .any⟩
def F.REFS_CTRL_LOCK_DWELL : Field := ⟨R.REFS_CTRL, 24, 8, .rw, .c 10, .range 1 255⟩
def W.REFS_CTRL : List Field := [F.REFS_CTRL_SEL_MODE, F.REFS_CTRL_FORCE_SEL, F.REFS_CTRL_REVERT, F.REFS_CTRL_QL_FALLBACK, F.REFS_CTRL_ACQ_BW, F.REFS_CTRL_TRK_BW, F.REFS_CTRL_DAMP, F.REFS_CTRL_LOCK_DWELL]
/-- `REFS_LOCK` (R81). -/
def R.REFS_LOCK : Reg := ⟨0x0200104, 0, 1, 0, 1⟩
def F.REFS_LOCK_LOCK_PH : Field := ⟨R.REFS_LOCK, 0, 16, .rw, .c 100, .any⟩
def W.REFS_LOCK : List Field := [F.REFS_LOCK_LOCK_PH]
/-- `REFS_SLOPE` (R81). -/
def R.REFS_SLOPE : Reg := ⟨0x0200108, 0, 1, 0, 1⟩
def F.REFS_SLOPE_SLOPE_LIM : Field := ⟨R.REFS_SLOPE, 0, 20, .rw, .c 10000, .subst 1 1048575 1⟩
def W.REFS_SLOPE : List Field := [F.REFS_SLOPE_SLOPE_LIM]
/-- `HO_MODEL` (R81). -/
def R.HO_MODEL : Reg := ⟨0x020010C, 0, 1, 0, 1⟩
def F.HO_MODEL_F_INIT : Field := ⟨R.HO_MODEL, 0, 16, .rw, .c 1000, .any⟩
def F.HO_MODEL_AGING : Field := ⟨R.HO_MODEL, 16, 16, .rw, .c 100, .any⟩
def W.HO_MODEL : List Field := [F.HO_MODEL_F_INIT, F.HO_MODEL_AGING]
/-- `HO_SPEC` (R81). -/
def R.HO_SPEC : Reg := ⟨0x0200110, 0, 1, 0, 1⟩
def F.HO_SPEC_HO_SPEC : Field := ⟨R.HO_SPEC, 0, 24, .rw, .c 1000, .any⟩
def W.HO_SPEC : List Field := [F.HO_SPEC_HO_SPEC]
/-- `HO_HIST_CFG` (R81). -/
def R.HO_HIST_CFG : Reg := ⟨0x0200114, 0, 1, 0, 1⟩
def F.HO_HIST_CFG_HIST_TAU : Field := ⟨R.HO_HIST_CFG, 0, 4, .rw, .c 8, .range 0 13⟩
def F.HO_HIST_CFG_HIST_GUARD : Field := ⟨R.HO_HIST_CFG, 4, 6, .rw, .c 10, .any⟩
def W.HO_HIST_CFG : List Field := [F.HO_HIST_CFG_HIST_TAU, F.HO_HIST_CFG_HIST_GUARD]
/-- `REFS_STATUS` (R81). -/
def R.REFS_STATUS : Reg := ⟨0x0200120, 0, 1, 0, 1⟩
def F.REFS_STATUS_STATE : Field := ⟨R.REFS_STATUS, 0, 3, .ro, .c 0, .any⟩
def F.REFS_STATUS_SEL : Field := ⟨R.REFS_STATUS, 3, 3, .ro, .c 0, .any⟩
def F.REFS_STATUS_SEL_VALID : Field := ⟨R.REFS_STATUS, 6, 1, .ro, .c 0, .any⟩
def F.REFS_STATUS_HO_EXPIRED : Field := ⟨R.REFS_STATUS, 7, 1, .ro, .c 0, .any⟩
def F.REFS_STATUS_QUALIFIED : Field := ⟨R.REFS_STATUS, 8, 8, .ro, .c 0, .any⟩
def F.REFS_STATUS_VALID : Field := ⟨R.REFS_STATUS, 16, 8, .ro, .c 0, .any⟩
def F.REFS_STATUS_BW_NOW : Field := ⟨R.REFS_STATUS, 24, 4, .ro, .c 6, .any⟩
def F.REFS_STATUS_TIME_SYNCED : Field := ⟨R.REFS_STATUS, 28, 1, .ro, .c 0, .any⟩
def W.REFS_STATUS : List Field := [F.REFS_STATUS_STATE, F.REFS_STATUS_SEL, F.REFS_STATUS_SEL_VALID, F.REFS_STATUS_HO_EXPIRED, F.REFS_STATUS_QUALIFIED, F.REFS_STATUS_VALID, F.REFS_STATUS_BW_NOW, F.REFS_STATUS_TIME_SYNCED]
/-- `REFS_HIST` (R81). -/
def R.REFS_HIST : Reg := ⟨0x0200124, 0, 1, 0, 1⟩
def F.REFS_HIST_LOCK_GAINED : Field := ⟨R.REFS_HIST, 0, 1, .w1c, .c 0, .any⟩
def F.REFS_HIST_LOCK_LOST : Field := ⟨R.REFS_HIST, 1, 1, .w1c, .c 0, .any⟩
def F.REFS_HIST_SWITCHED : Field := ⟨R.REFS_HIST, 2, 1, .w1c, .c 0, .any⟩
def F.REFS_HIST_HO_ENTERED : Field := ⟨R.REFS_HIST, 3, 1, .w1c, .c 0, .any⟩
def F.REFS_HIST_HO_EXPIRED : Field := ⟨R.REFS_HIST, 4, 1, .w1c, .c 0, .any⟩
def F.REFS_HIST_PULL_DONE : Field := ⟨R.REFS_HIST, 5, 1, .w1c, .c 0, .any⟩
def F.REFS_HIST_BW_CLAMPED : Field := ⟨R.REFS_HIST, 6, 1, .w1c, .c 0, .any⟩
def F.REFS_HIST_QL_FALLBACK_USED : Field := ⟨R.REFS_HIST, 7, 1, .w1c, .c 0, .any⟩
def F.REFS_HIST_CAND_LOST : Field := ⟨R.REFS_HIST, 8, 8, .w1c, .c 0, .any⟩
def F.REFS_HIST_CAND_QUAL : Field := ⟨R.REFS_HIST, 16, 8, .w1c, .c 0, .any⟩
def F.REFS_HIST_FP_MISALIGNED : Field := ⟨R.REFS_HIST, 24, 1, .w1c, .c 0, .any⟩
def F.REFS_HIST_TL_CFG_REJECTED : Field := ⟨R.REFS_HIST, 25, 1, .w1c, .c 0, .any⟩
def W.REFS_HIST : List Field := [F.REFS_HIST_LOCK_GAINED, F.REFS_HIST_LOCK_LOST, F.REFS_HIST_SWITCHED, F.REFS_HIST_HO_ENTERED, F.REFS_HIST_HO_EXPIRED, F.REFS_HIST_PULL_DONE, F.REFS_HIST_BW_CLAMPED, F.REFS_HIST_QL_FALLBACK_USED, F.REFS_HIST_CAND_LOST, F.REFS_HIST_CAND_QUAL, F.REFS_HIST_FP_MISALIGNED, F.REFS_HIST_TL_CFG_REJECTED]
/-- `REFS_IRQ_EN` (R81). -/
def R.REFS_IRQ_EN : Reg := ⟨0x0200128, 0, 1, 0, 1⟩
def F.REFS_IRQ_EN_LOCK_GAINED : Field := ⟨R.REFS_IRQ_EN, 0, 1, .rw, .c 0, .any⟩
def F.REFS_IRQ_EN_LOCK_LOST : Field := ⟨R.REFS_IRQ_EN, 1, 1, .rw, .c 0, .any⟩
def F.REFS_IRQ_EN_SWITCHED : Field := ⟨R.REFS_IRQ_EN, 2, 1, .rw, .c 0, .any⟩
def F.REFS_IRQ_EN_HO_ENTERED : Field := ⟨R.REFS_IRQ_EN, 3, 1, .rw, .c 0, .any⟩
def F.REFS_IRQ_EN_HO_EXPIRED : Field := ⟨R.REFS_IRQ_EN, 4, 1, .rw, .c 0, .any⟩
def F.REFS_IRQ_EN_PULL_DONE : Field := ⟨R.REFS_IRQ_EN, 5, 1, .rw, .c 0, .any⟩
def F.REFS_IRQ_EN_BW_CLAMPED : Field := ⟨R.REFS_IRQ_EN, 6, 1, .rw, .c 0, .any⟩
def F.REFS_IRQ_EN_QL_FALLBACK_USED : Field := ⟨R.REFS_IRQ_EN, 7, 1, .rw, .c 0, .any⟩
def F.REFS_IRQ_EN_CAND_LOST : Field := ⟨R.REFS_IRQ_EN, 8, 8, .rw, .c 0, .any⟩
def F.REFS_IRQ_EN_CAND_QUAL : Field := ⟨R.REFS_IRQ_EN, 16, 8, .rw, .c 0, .any⟩
def F.REFS_IRQ_EN_FP_MISALIGNED : Field := ⟨R.REFS_IRQ_EN, 24, 1, .rw, .c 0, .any⟩
def F.REFS_IRQ_EN_TL_CFG_REJECTED : Field := ⟨R.REFS_IRQ_EN, 25, 1, .rw, .c 0, .any⟩
def W.REFS_IRQ_EN : List Field := [F.REFS_IRQ_EN_LOCK_GAINED, F.REFS_IRQ_EN_LOCK_LOST, F.REFS_IRQ_EN_SWITCHED, F.REFS_IRQ_EN_HO_ENTERED, F.REFS_IRQ_EN_HO_EXPIRED, F.REFS_IRQ_EN_PULL_DONE, F.REFS_IRQ_EN_BW_CLAMPED, F.REFS_IRQ_EN_QL_FALLBACK_USED, F.REFS_IRQ_EN_CAND_LOST, F.REFS_IRQ_EN_CAND_QUAL, F.REFS_IRQ_EN_FP_MISALIGNED, F.REFS_IRQ_EN_TL_CFG_REJECTED]
/-- `DPLL_PHASE` (R81). -/
def R.DPLL_PHASE : Reg := ⟨0x020012C, 0, 1, 0, 1⟩
def F.DPLL_PHASE_PHASE : Field := ⟨R.DPLL_PHASE, 0, 32, .ro, .c 0, .any⟩
def W.DPLL_PHASE : List Field := [F.DPLL_PHASE_PHASE]
/-- `DPLL_FREQ` (R81). -/
def R.DPLL_FREQ : Reg := ⟨0x0200130, 0, 1, 0, 1⟩
def F.DPLL_FREQ_FREQ : Field := ⟨R.DPLL_FREQ, 0, 32, .ro, .c 0, .any⟩
def W.DPLL_FREQ : List Field := [F.DPLL_FREQ_FREQ]
/-- `HIST_FREQ` (R81). -/
def R.HIST_FREQ : Reg := ⟨0x0200134, 0, 1, 0, 1⟩
def F.HIST_FREQ_FREQ : Field := ⟨R.HIST_FREQ, 0, 32, .ro, .c 0, .any⟩
def W.HIST_FREQ : List Field := [F.HIST_FREQ_FREQ]
/-- `HO_ELAPSED` (R81). -/
def R.HO_ELAPSED : Reg := ⟨0x0200138, 0, 1, 0, 1⟩
def F.HO_ELAPSED_SECONDS : Field := ⟨R.HO_ELAPSED, 0, 32, .ro, .c 0, .any⟩
def W.HO_ELAPSED : List Field := [F.HO_ELAPSED_SECONDS]
/-- `HO_REMAIN` (R81). -/
def R.HO_REMAIN : Reg := ⟨0x020013C, 0, 1, 0, 1⟩
def F.HO_REMAIN_SECONDS : Field := ⟨R.HO_REMAIN, 0, 32, .ro, .c 0, .any⟩
def W.HO_REMAIN : List Field := [F.HO_REMAIN_SECONDS]
/-- `REF_CFG` (R81). -/
def R.REF_CFG : Reg := ⟨0x0200200, 16, 8, 0, 1⟩
def F.REF_CFG_PRIO : Field := ⟨R.REF_CFG, 0, 4, .rw, .special, .any⟩
def F.REF_CFG_KIND : Field := ⟨R.REF_CFG, 4, 3, .rw, .special, .any⟩
def F.REF_CFG_POL : Field := ⟨R.REF_CFG, 7, 1, .rw, .c 0, .any⟩
def F.REF_CFG_IDX : Field := ⟨R.REF_CFG, 8, 8, .rw, .c 0, .any⟩
def F.REF_CFG_RASTER : Field := ⟨R.REF_CFG, 16, 4, .rw, .c 3, .any⟩
def F.REF_CFG_RATE : Field := ⟨R.REF_CFG, 20, 4, .rw, .c 6, .any⟩
def F.REF_CFG_FREQ_TOL : Field := ⟨R.REF_CFG, 24, 8, .rw, .c 20, .range 1 255⟩
def W.REF_CFG : List Field := [F.REF_CFG_PRIO, F.REF_CFG_KIND, F.REF_CFG_POL, F.REF_CFG_IDX, F.REF_CFG_RASTER, F.REF_CFG_RATE, F.REF_CFG_FREQ_TOL]
/-- `REF_QUAL` (R81). -/
def R.REF_QUAL : Reg := ⟨0x0200204, 16, 8, 0, 1⟩
def F.REF_QUAL_WTR : Field := ⟨R.REF_QUAL, 0, 10, .rw, .c 60, .any⟩
def F.REF_QUAL_QL_MAX_CLASS : Field := ⟨R.REF_QUAL, 16, 8, .rw, .c 7, .any⟩
def F.REF_QUAL_ACC_MAX : Field := ⟨R.REF_QUAL, 24, 8, .rw, .c 33, .any⟩
def W.REF_QUAL : List Field := [F.REF_QUAL_WTR, F.REF_QUAL_QL_MAX_CLASS, F.REF_QUAL_ACC_MAX]
/-- `REF_COMP` (R81). -/
def R.REF_COMP : Reg := ⟨0x0200208, 16, 8, 0, 1⟩
def F.REF_COMP_COMP : Field := ⟨R.REF_COMP, 0, 16, .rw, .c 0, .any⟩
def W.REF_COMP : List Field := [F.REF_COMP_COMP]
/-- `REF_PHASE` (R81). -/
def R.REF_PHASE : Reg := ⟨0x020020C, 16, 8, 0, 1⟩
def F.REF_PHASE_PHASE : Field := ⟨R.REF_PHASE, 0, 32, .ro, .c 0, .any⟩
def W.REF_PHASE : List Field := [F.REF_PHASE_PHASE]
/-- `TL_CFG` (R81). -/
def R.TL_CFG : Reg := ⟨0x0200300, 16, 2, 0, 1⟩
def F.TL_CFG_ENABLE : Field := ⟨R.TL_CFG, 0, 1, .rw, .c 1, .any⟩
def F.TL_CFG_RATE : Field := ⟨R.TL_CFG, 1, 3, .rw, .special, .any⟩
def F.TL_CFG_RASTER : Field := ⟨R.TL_CFG, 4, 2, .rw, .c 3, .any⟩
def F.TL_CFG_SPL : Field := ⟨R.TL_CFG, 16, 14, .rw, .special, .range 1 16383⟩
def W.TL_CFG : List Field := [F.TL_CFG_ENABLE, F.TL_CFG_RATE, F.TL_CFG_RASTER, F.TL_CFG_SPL]
/-- `TL_POS_FRAME_LO` (R81). -/
def R.TL_POS_FRAME_LO : Reg := ⟨0x0200304, 16, 2, 0, 1⟩
def F.TL_POS_FRAME_LO_FRAME : Field := ⟨R.TL_POS_FRAME_LO, 0, 32, .ro, .c 0, .any⟩
def W.TL_POS_FRAME_LO : List Field := [F.TL_POS_FRAME_LO_FRAME]
/-- `TL_POS_FRAME_HI` (R81). -/
def R.TL_POS_FRAME_HI : Reg := ⟨0x0200308, 16, 2, 0, 1⟩
def F.TL_POS_FRAME_HI_FRAME : Field := ⟨R.TL_POS_FRAME_HI, 0, 16, .ro, .c 0, .any⟩
def W.TL_POS_FRAME_HI : List Field := [F.TL_POS_FRAME_HI_FRAME]
/-- `TL_POS_LINE` (R81). -/
def R.TL_POS_LINE : Reg := ⟨0x020030C, 16, 2, 0, 1⟩
def F.TL_POS_LINE_LINE : Field := ⟨R.TL_POS_LINE, 0, 12, .ro, .c 0, .any⟩
def F.TL_POS_LINE_SAMPLE : Field := ⟨R.TL_POS_LINE, 12, 14, .ro, .c 0, .any⟩
def W.TL_POS_LINE : List Field := [F.TL_POS_LINE_LINE, F.TL_POS_LINE_SAMPLE]
/-- `FP_CFG` (R81). -/
def R.FP_CFG : Reg := ⟨0x0200400, 16, 4, 0, 1⟩
def F.FP_CFG_EN : Field := ⟨R.FP_CFG, 0, 1, .rw, .c 0, .any⟩
def F.FP_CFG_TL : Field := ⟨R.FP_CFG, 1, 1, .rw, .c 0, .any⟩
def F.FP_CFG_POL : Field := ⟨R.FP_CFG, 2, 1, .rw, .c 0, .any⟩
def F.FP_CFG_DIV : Field := ⟨R.FP_CFG, 3, 4, .rw, .c 0, .any⟩
def F.FP_CFG_WIDTH : Field := ⟨R.FP_CFG, 8, 8, .rw, .c 10, .range 1 255⟩
def F.FP_CFG_TOL : Field := ⟨R.FP_CFG, 16, 16, .rw, .c 100, .any⟩
def W.FP_CFG : List Field := [F.FP_CFG_EN, F.FP_CFG_TL, F.FP_CFG_POL, F.FP_CFG_DIV, F.FP_CFG_WIDTH, F.FP_CFG_TOL]
/-- `FP_OFS` (R81). -/
def R.FP_OFS : Reg := ⟨0x0200404, 16, 4, 0, 1⟩
def F.FP_OFS_OFS : Field := ⟨R.FP_OFS, 0, 32, .rw, .c 0, .any⟩
def W.FP_OFS : List Field := [F.FP_OFS_OFS]
/-- `FP_MISALIGN` (R81). -/
def R.FP_MISALIGN : Reg := ⟨0x0200408, 16, 4, 0, 1⟩
def F.FP_MISALIGN_MIS : Field := ⟨R.FP_MISALIGN, 0, 32, .ro, .c 0, .any⟩
def W.FP_MISALIGN : List Field := [F.FP_MISALIGN_MIS]
/-- `FP_ALIGN` (R81). -/
def R.FP_ALIGN : Reg := ⟨0x020040C, 16, 4, 0, 1⟩
def F.FP_ALIGN_GO : Field := ⟨R.FP_ALIGN, 0, 1, .wo, .c 0, .any⟩
def F.FP_ALIGN_MODE : Field := ⟨R.FP_ALIGN, 1, 1, .wo, .c 0, .any⟩
def F.FP_ALIGN_SLEW : Field := ⟨R.FP_ALIGN, 16, 16, .wo, .c 0, .any⟩
def W.FP_ALIGN : List Field := [F.FP_ALIGN_GO, F.FP_ALIGN_MODE, F.FP_ALIGN_SLEW]
def fieldsREFS0 : List Field := [F.REFS_CTRL_SEL_MODE, F.REFS_CTRL_FORCE_SEL, F.REFS_CTRL_REVERT, F.REFS_CTRL_QL_FALLBACK, F.REFS_CTRL_ACQ_BW, F.REFS_CTRL_TRK_BW, F.REFS_CTRL_DAMP, F.REFS_CTRL_LOCK_DWELL, F.REFS_LOCK_LOCK_PH, F.REFS_SLOPE_SLOPE_LIM, F.HO_MODEL_F_INIT, F.HO_MODEL_AGING, F.HO_SPEC_HO_SPEC, F.HO_HIST_CFG_HIST_TAU, F.HO_HIST_CFG_HIST_GUARD, F.REFS_STATUS_STATE, F.REFS_STATUS_SEL, F.REFS_STATUS_SEL_VALID, F.REFS_STATUS_HO_EXPIRED, F.REFS_STATUS_QUALIFIED, F.REFS_STATUS_VALID, F.REFS_STATUS_BW_NOW, F.REFS_STATUS_TIME_SYNCED, F.REFS_HIST_LOCK_GAINED, F.REFS_HIST_LOCK_LOST, F.REFS_HIST_SWITCHED, F.REFS_HIST_HO_ENTERED, F.REFS_HIST_HO_EXPIRED, F.REFS_HIST_PULL_DONE, F.REFS_HIST_BW_CLAMPED, F.REFS_HIST_QL_FALLBACK_USED, F.REFS_HIST_CAND_LOST, F.REFS_HIST_CAND_QUAL, F.REFS_HIST_FP_MISALIGNED, F.REFS_HIST_TL_CFG_REJECTED, F.REFS_IRQ_EN_LOCK_GAINED, F.REFS_IRQ_EN_LOCK_LOST, F.REFS_IRQ_EN_SWITCHED, F.REFS_IRQ_EN_HO_ENTERED, F.REFS_IRQ_EN_HO_EXPIRED]
def fieldsREFS1 : List Field := [F.REFS_IRQ_EN_PULL_DONE, F.REFS_IRQ_EN_BW_CLAMPED, F.REFS_IRQ_EN_QL_FALLBACK_USED, F.REFS_IRQ_EN_CAND_LOST, F.REFS_IRQ_EN_CAND_QUAL, F.REFS_IRQ_EN_FP_MISALIGNED, F.REFS_IRQ_EN_TL_CFG_REJECTED, F.DPLL_PHASE_PHASE, F.DPLL_FREQ_FREQ, F.HIST_FREQ_FREQ, F.HO_ELAPSED_SECONDS, F.HO_REMAIN_SECONDS, F.REF_CFG_PRIO, F.REF_CFG_KIND, F.REF_CFG_POL, F.REF_CFG_IDX, F.REF_CFG_RASTER, F.REF_CFG_RATE, F.REF_CFG_FREQ_TOL, F.REF_QUAL_WTR, F.REF_QUAL_QL_MAX_CLASS, F.REF_QUAL_ACC_MAX, F.REF_COMP_COMP, F.REF_PHASE_PHASE, F.TL_CFG_ENABLE, F.TL_CFG_RATE, F.TL_CFG_RASTER, F.TL_CFG_SPL, F.TL_POS_FRAME_LO_FRAME, F.TL_POS_FRAME_HI_FRAME, F.TL_POS_LINE_LINE, F.TL_POS_LINE_SAMPLE, F.FP_CFG_EN, F.FP_CFG_TL, F.FP_CFG_POL, F.FP_CFG_DIV, F.FP_CFG_WIDTH, F.FP_CFG_TOL, F.FP_OFS_OFS, F.FP_MISALIGN_MIS]
def fieldsREFS2 : List Field := [F.FP_ALIGN_GO, F.FP_ALIGN_MODE, F.FP_ALIGN_SLEW]
/-- Every field of block REFS. -/
def fieldsREFS : List Field := fieldsREFS0 ++ fieldsREFS1 ++ fieldsREFS2

/-! ### PLL -/

/-- `PLL_CTRL` (R132). -/
def R.PLL_CTRL : Reg := ⟨0x0300200, 64, 8, 0, 1⟩
def F.PLL_CTRL_EN : Field := ⟨R.PLL_CTRL, 0, 1, .rw, .special, .any⟩
def F.PLL_CTRL_OUT_EN : Field := ⟨R.PLL_CTRL, 1, 1, .rw, .c 1, .any⟩
def F.PLL_CTRL_TRACK : Field := ⟨R.PLL_CTRL, 2, 1, .rw, .special, .any⟩
def F.PLL_CTRL_PRE_DIV : Field := ⟨R.PLL_CTRL, 4, 6, .rw, .c 0, .any⟩
def F.PLL_CTRL_POST_DIV : Field := ⟨R.PLL_CTRL, 10, 10, .rw, .special, .range 2 1023⟩
def W.PLL_CTRL : List Field := [F.PLL_CTRL_EN, F.PLL_CTRL_OUT_EN, F.PLL_CTRL_TRACK, F.PLL_CTRL_PRE_DIV, F.PLL_CTRL_POST_DIV]
/-- `PLL_N_INT` (R132). -/
def R.PLL_N_INT : Reg := ⟨0x0300204, 64, 8, 0, 1⟩
def F.PLL_N_INT_N_INT : Field := ⟨R.PLL_N_INT, 0, 9, .rw, .special, .any⟩
def W.PLL_N_INT : List Field := [F.PLL_N_INT_N_INT]
/-- `PLL_N_FRAC` (R132). -/
def R.PLL_N_FRAC : Reg := ⟨0x0300208, 64, 8, 0, 1⟩
def F.PLL_N_FRAC_N_FRAC : Field := ⟨R.PLL_N_FRAC, 0, 32, .rw, .special, .any⟩
def W.PLL_N_FRAC : List Field := [F.PLL_N_FRAC_N_FRAC]
/-- `PLL_LOCK_CFG` (R132). -/
def R.PLL_LOCK_CFG : Reg := ⟨0x030020C, 64, 8, 0, 1⟩
def F.PLL_LOCK_CFG_LOCK_WIN : Field := ⟨R.PLL_LOCK_CFG, 0, 16, .rw, .c 4096, .range 1 65535⟩
def F.PLL_LOCK_CFG_LOCK_TOL : Field := ⟨R.PLL_LOCK_CFG, 16, 8, .rw, .c 4, .any⟩
def F.PLL_LOCK_CFG_LOCK_CNT : Field := ⟨R.PLL_LOCK_CFG, 24, 4, .rw, .c 8, .range 1 15⟩
def W.PLL_LOCK_CFG : List Field := [F.PLL_LOCK_CFG_LOCK_WIN, F.PLL_LOCK_CFG_LOCK_TOL, F.PLL_LOCK_CFG_LOCK_CNT]
/-- `PLL_STATUS` (R132). -/
def R.PLL_STATUS : Reg := ⟨0x0300210, 64, 8, 0, 1⟩
def F.PLL_STATUS_STATE : Field := ⟨R.PLL_STATUS, 0, 3, .ro, .c 0, .any⟩
def F.PLL_STATUS_REF_OK : Field := ⟨R.PLL_STATUS, 3, 1, .ro, .c 0, .any⟩
def F.PLL_STATUS_OUT_ON : Field := ⟨R.PLL_STATUS, 4, 1, .ro, .c 0, .any⟩
def F.PLL_STATUS_RAMP_SEG : Field := ⟨R.PLL_STATUS, 5, 2, .ro, .c 0, .any⟩
def F.PLL_STATUS_LOSS_COUNT : Field := ⟨R.PLL_STATUS, 16, 16, .ro, .c 0, .any⟩
def W.PLL_STATUS : List Field := [F.PLL_STATUS_STATE, F.PLL_STATUS_REF_OK, F.PLL_STATUS_OUT_ON, F.PLL_STATUS_RAMP_SEG, F.PLL_STATUS_LOSS_COUNT]
/-- `PLL_HIST` (R132). -/
def R.PLL_HIST : Reg := ⟨0x0300214, 64, 8, 0, 1⟩
def F.PLL_HIST_LOCK_GAINED : Field := ⟨R.PLL_HIST, 0, 1, .w1c, .c 0, .any⟩
def F.PLL_HIST_LOCK_LOST : Field := ⟨R.PLL_HIST, 1, 1, .w1c, .c 0, .any⟩
def F.PLL_HIST_REF_LOST : Field := ⟨R.PLL_HIST, 2, 1, .w1c, .c 0, .any⟩
def F.PLL_HIST_RAMP_DONE : Field := ⟨R.PLL_HIST, 3, 1, .w1c, .c 0, .any⟩
def F.PLL_HIST_WRITE_REJECTED : Field := ⟨R.PLL_HIST, 4, 1, .w1c, .c 0, .any⟩
def W.PLL_HIST : List Field := [F.PLL_HIST_LOCK_GAINED, F.PLL_HIST_LOCK_LOST, F.PLL_HIST_REF_LOST, F.PLL_HIST_RAMP_DONE, F.PLL_HIST_WRITE_REJECTED]
/-- `PLL_IRQ_EN` (R132). -/
def R.PLL_IRQ_EN : Reg := ⟨0x0300218, 64, 8, 0, 1⟩
def F.PLL_IRQ_EN_EN : Field := ⟨R.PLL_IRQ_EN, 0, 5, .rw, .c 0, .any⟩
def W.PLL_IRQ_EN : List Field := [F.PLL_IRQ_EN_EN]
/-- `PLL_CTRL_VAL` (R132). -/
def R.PLL_CTRL_VAL : Reg := ⟨0x030021C, 64, 8, 0, 1⟩
def F.PLL_CTRL_VAL_CTRL : Field := ⟨R.PLL_CTRL_VAL, 0, 16, .ro, .c 0, .any⟩
def W.PLL_CTRL_VAL : List Field := [F.PLL_CTRL_VAL_CTRL]
/-- `PLL_RAMP_GO` (R132). -/
def R.PLL_RAMP_GO : Reg := ⟨0x0300220, 64, 4, 0, 1⟩
def F.PLL_RAMP_GO_GO : Field := ⟨R.PLL_RAMP_GO, 0, 1, .wo, .c 0, .any⟩
def F.PLL_RAMP_GO_ABORT : Field := ⟨R.PLL_RAMP_GO, 1, 1, .wo, .c 0, .any⟩
def W.PLL_RAMP_GO : List Field := [F.PLL_RAMP_GO_GO, F.PLL_RAMP_GO_ABORT]
/-- `RAMP_FRAC` (R132). -/
def R.RAMP_FRAC : Reg := ⟨0x0300800, 16, 16, 0, 1⟩
def F.RAMP_FRAC_TGT_FRAC : Field := ⟨R.RAMP_FRAC, 0, 32, .rw, .c 0, .any⟩
def W.RAMP_FRAC : List Field := [F.RAMP_FRAC_TGT_FRAC]
/-- `RAMP_INT` (R132). -/
def R.RAMP_INT : Reg := ⟨0x0300804, 16, 16, 0, 1⟩
def F.RAMP_INT_TGT_INT : Field := ⟨R.RAMP_INT, 0, 9, .rw, .c 0, .any⟩
def W.RAMP_INT : List Field := [F.RAMP_INT_TGT_INT]
/-- `RAMP_STEP` (R132). -/
def R.RAMP_STEP : Reg := ⟨0x0300808, 16, 16, 0, 1⟩
def F.RAMP_STEP_STEP : Field := ⟨R.RAMP_STEP, 0, 20, .rw, .c 0, .any⟩
def F.RAMP_STEP_LAST : Field := ⟨R.RAMP_STEP, 31, 1, .rw, .c 0, .any⟩
def W.RAMP_STEP : List Field := [F.RAMP_STEP_STEP, F.RAMP_STEP_LAST]
/-- `RAMP_HOLD` (R132). -/
def R.RAMP_HOLD : Reg := ⟨0x030080C, 16, 16, 0, 1⟩
def F.RAMP_HOLD_HOLD : Field := ⟨R.RAMP_HOLD, 0, 16, .rw, .c 0, .any⟩
def W.RAMP_HOLD : List Field := [F.RAMP_HOLD_HOLD]
def fieldsPLL0 : List Field := [F.PLL_CTRL_EN, F.PLL_CTRL_OUT_EN, F.PLL_CTRL_TRACK, F.PLL_CTRL_PRE_DIV, F.PLL_CTRL_POST_DIV, F.PLL_N_INT_N_INT, F.PLL_N_FRAC_N_FRAC, F.PLL_LOCK_CFG_LOCK_WIN, F.PLL_LOCK_CFG_LOCK_TOL, F.PLL_LOCK_CFG_LOCK_CNT, F.PLL_STATUS_STATE, F.PLL_STATUS_REF_OK, F.PLL_STATUS_OUT_ON, F.PLL_STATUS_RAMP_SEG, F.PLL_STATUS_LOSS_COUNT, F.PLL_HIST_LOCK_GAINED, F.PLL_HIST_LOCK_LOST, F.PLL_HIST_REF_LOST, F.PLL_HIST_RAMP_DONE, F.PLL_HIST_WRITE_REJECTED, F.PLL_IRQ_EN_EN, F.PLL_CTRL_VAL_CTRL, F.PLL_RAMP_GO_GO, F.PLL_RAMP_GO_ABORT, F.RAMP_FRAC_TGT_FRAC, F.RAMP_INT_TGT_INT, F.RAMP_STEP_STEP, F.RAMP_STEP_LAST, F.RAMP_HOLD_HOLD]
/-- Every field of block PLL. -/
def fieldsPLL : List Field := fieldsPLL0

/-! ### LANES -/

/-- `LANES_CFG` (R185). -/
def R.LANES_CFG : Reg := ⟨0x0400100, 0, 1, 0, 1⟩
def F.LANES_CFG_SSC_OFFER : Field := ⟨R.LANES_CFG, 0, 2, .rw, .c 0, .any⟩
def F.LANES_CFG_TRAIN_TMO : Field := ⟨R.LANES_CFG, 8, 8, .rw, .c 50, .range 1 255⟩
def W.LANES_CFG : List Field := [F.LANES_CFG_SSC_OFFER, F.LANES_CFG_TRAIN_TMO]
/-- `LANE_PEND` (R185). -/
def R.LANE_PEND : Reg := ⟨0x0400140, 4, 11, 0, 1⟩
def F.LANE_PEND_PEND : Field := ⟨R.LANE_PEND, 0, 32, .ro, .c 0, .any⟩
def W.LANE_PEND : List Field := [F.LANE_PEND_PEND]
/-- `LANE_LASTING` (R185). -/
def R.LANE_LASTING : Reg := ⟨0x0400180, 4, 11, 0, 1⟩
def F.LANE_LASTING_LASTING : Field := ⟨R.LANE_LASTING, 0, 32, .ro, .c 0, .any⟩
def W.LANE_LASTING : List Field := [F.LANE_LASTING_LASTING]
/-- `LANE_CTRL` (R185). -/
def R.LANE_CTRL : Reg := ⟨0x0401000, 128, 345, 0, 1⟩
def F.LANE_CTRL_POWER : Field := ⟨R.LANE_CTRL, 0, 2, .rw, .special, .any⟩
def F.LANE_CTRL_RATE : Field := ⟨R.LANE_CTRL, 2, 4, .rw, .special, .any⟩
def F.LANE_CTRL_AUTO_RETRAIN : Field := ⟨R.LANE_CTRL, 6, 1, .rw, .c 1, .any⟩
def F.LANE_CTRL_RETRAIN : Field := ⟨R.LANE_CTRL, 7, 1, .wo, .c 0, .any⟩
def F.LANE_CTRL_LB : Field := ⟨R.LANE_CTRL, 8, 2, .rw, .c 0, .any⟩
def F.LANE_CTRL_LB_TX_ON : Field := ⟨R.LANE_CTRL, 10, 1, .rw, .c 0, .any⟩
def F.LANE_CTRL_TX_INV : Field := ⟨R.LANE_CTRL, 11, 1, .rw, .c 0, .any⟩
def F.LANE_CTRL_RX_INV : Field := ⟨R.LANE_CTRL, 12, 1, .rw, .c 0, .any⟩
def F.LANE_CTRL_SSC : Field := ⟨R.LANE_CTRL, 13, 2, .ro, .c 0, .any⟩
def F.LANE_CTRL_RETRY_INT : Field := ⟨R.LANE_CTRL, 16, 8, .rw, .c 10, .range 1 255⟩
def W.LANE_CTRL : List Field := [F.LANE_CTRL_POWER, F.LANE_CTRL_RATE, F.LANE_CTRL_AUTO_RETRAIN, F.LANE_CTRL_RETRAIN, F.LANE_CTRL_LB, F.LANE_CTRL_LB_TX_ON, F.LANE_CTRL_TX_INV, F.LANE_CTRL_RX_INV, F.LANE_CTRL_SSC, F.LANE_CTRL_RETRY_INT]
/-- `LANE_STATUS` (R185). -/
def R.LANE_STATUS : Reg := ⟨0x0401004, 128, 345, 0, 1⟩
def F.LANE_STATUS_STATE : Field := ⟨R.LANE_STATUS, 0, 4, .ro, .c 0, .any⟩
def F.LANE_STATUS_SIG_DET : Field := ⟨R.LANE_STATUS, 4, 1, .ro, .c 0, .any⟩
def F.LANE_STATUS_CDR_LOCK : Field := ⟨R.LANE_STATUS, 5, 1, .ro, .c 0, .any⟩
def F.LANE_STATUS_RATE_NOW : Field := ⟨R.LANE_STATUS, 6, 4, .ro, .c 0, .any⟩
def F.LANE_STATUS_PAM4 : Field := ⟨R.LANE_STATUS, 10, 1, .ro, .c 0, .any⟩
def F.LANE_STATUS_LASTING : Field := ⟨R.LANE_STATUS, 11, 1, .ro, .c 0, .any⟩
def F.LANE_STATUS_FROZEN : Field := ⟨R.LANE_STATUS, 12, 1, .ro, .c 0, .any⟩
def W.LANE_STATUS : List Field := [F.LANE_STATUS_STATE, F.LANE_STATUS_SIG_DET, F.LANE_STATUS_CDR_LOCK, F.LANE_STATUS_RATE_NOW, F.LANE_STATUS_PAM4, F.LANE_STATUS_LASTING, F.LANE_STATUS_FROZEN]
/-- `LANE_HIST` (R185). -/
def R.LANE_HIST : Reg := ⟨0x0401008, 128, 345, 0, 1⟩
def F.LANE_HIST_LOS : Field := ⟨R.LANE_HIST, 0, 1, .w1c, .c 0, .any⟩
def F.LANE_HIST_LOL : Field := ⟨R.LANE_HIST, 1, 1, .w1c, .c 0, .any⟩
def F.LANE_HIST_SNR_LOW : Field := ⟨R.LANE_HIST, 2, 1, .w1c, .c 0, .any⟩
def F.LANE_HIST_RETRAIN_OK : Field := ⟨R.LANE_HIST, 3, 1, .w1c, .c 0, .any⟩
def F.LANE_HIST_RETRAIN_FAIL : Field := ⟨R.LANE_HIST, 4, 1, .w1c, .c 0, .any⟩
def F.LANE_HIST_LASTING_SET : Field := ⟨R.LANE_HIST, 5, 1, .w1c, .c 0, .any⟩
def F.LANE_HIST_CHK_SYNC : Field := ⟨R.LANE_HIST, 6, 1, .w1c, .c 0, .any⟩
def F.LANE_HIST_CHK_LOST : Field := ⟨R.LANE_HIST, 7, 1, .w1c, .c 0, .any⟩
def F.LANE_HIST_EYE_DONE : Field := ⟨R.LANE_HIST, 8, 1, .w1c, .c 0, .any⟩
def F.LANE_HIST_CFG_REJECTED : Field := ⟨R.LANE_HIST, 9, 1, .w1c, .c 0, .any⟩
def F.LANE_HIST_TRAIN_DONE : Field := ⟨R.LANE_HIST, 10, 1, .w1c, .c 0, .any⟩
def W.LANE_HIST : List Field := [F.LANE_HIST_LOS, F.LANE_HIST_LOL, F.LANE_HIST_SNR_LOW, F.LANE_HIST_RETRAIN_OK, F.LANE_HIST_RETRAIN_FAIL, F.LANE_HIST_LASTING_SET, F.LANE_HIST_CHK_SYNC, F.LANE_HIST_CHK_LOST, F.LANE_HIST_EYE_DONE, F.LANE_HIST_CFG_REJECTED, F.LANE_HIST_TRAIN_DONE]
/-- `LANE_IRQ_EN` (R185). -/
def R.LANE_IRQ_EN : Reg := ⟨0x040100C, 128, 345, 0, 1⟩
def F.LANE_IRQ_EN_EN : Field := ⟨R.LANE_IRQ_EN, 0, 11, .rw, .c 0, .any⟩
def W.LANE_IRQ_EN : List Field := [F.LANE_IRQ_EN_EN]
/-- `TX_EQ` (R185). -/
def R.TX_EQ : Reg := ⟨0x0401010, 128, 345, 0, 1⟩
def F.TX_EQ_PRE2 : Field := ⟨R.TX_EQ, 0, 8, .rw, .c 0, .any⟩
def F.TX_EQ_PRE1 : Field := ⟨R.TX_EQ, 8, 8, .rw, .c 0, .any⟩
def F.TX_EQ_MAIN : Field := ⟨R.TX_EQ, 16, 8, .rw, .c 64, .any⟩
def F.TX_EQ_POST1 : Field := ⟨R.TX_EQ, 24, 8, .rw, .c 0, .any⟩
def W.TX_EQ : List Field := [F.TX_EQ_PRE2, F.TX_EQ_PRE1, F.TX_EQ_MAIN, F.TX_EQ_POST1]
/-- `RX_EQ` (R185). -/
def R.RX_EQ : Reg := ⟨0x0401014, 128, 345, 0, 1⟩
def F.RX_EQ_CTLE : Field := ⟨R.RX_EQ, 0, 5, .rw, .c 8, .any⟩
def F.RX_EQ_VGA : Field := ⟨R.RX_EQ, 5, 6, .rw, .c 32, .any⟩
def F.RX_EQ_FREEZE : Field := ⟨R.RX_EQ, 16, 1, .rw, .c 0, .any⟩
def F.RX_EQ_LOAD : Field := ⟨R.RX_EQ, 17, 1, .wo, .c 0, .any⟩
def W.RX_EQ : List Field := [F.RX_EQ_CTLE, F.RX_EQ_VGA, F.RX_EQ_FREEZE, F.RX_EQ_LOAD]
/-- `RX_DFE_A` (R185). -/
def R.RX_DFE_A : Reg := ⟨0x0401018, 128, 345, 0, 1⟩
def F.RX_DFE_A_TAP1_4 : Field := ⟨R.RX_DFE_A, 0, 32, .rw, .c 0, .any⟩
def W.RX_DFE_A : List Field := [F.RX_DFE_A_TAP1_4]
/-- `RX_DFE_B` (R185). -/
def R.RX_DFE_B : Reg := ⟨0x040101C, 128, 345, 0, 1⟩
def F.RX_DFE_B_TAP5_8 : Field := ⟨R.RX_DFE_B, 0, 32, .rw, .c 0, .any⟩
def W.RX_DFE_B : List Field := [F.RX_DFE_B_TAP5_8]
/-- `PAT_CFG` (R185). -/
def R.PAT_CFG : Reg := ⟨0x0401020, 128, 345, 0, 1⟩
def F.PAT_CFG_GEN_EN : Field := ⟨R.PAT_CFG, 0, 1, .rw, .c 0, .any⟩
def F.PAT_CFG_GEN_PAT : Field := ⟨R.PAT_CFG, 1, 4, .rw, .c 4, .any⟩
def F.PAT_CFG_CHK_EN : Field := ⟨R.PAT_CFG, 5, 1, .rw, .c 0, .any⟩
def F.PAT_CFG_CHK_PAT : Field := ⟨R.PAT_CFG, 6, 4, .rw, .c 4, .any⟩
def F.PAT_CFG_INJ_ERR : Field := ⟨R.PAT_CFG, 10, 1, .wo, .c 0, .any⟩
def F.PAT_CFG_IN_SYNC : Field := ⟨R.PAT_CFG, 11, 1, .ro, .c 0, .any⟩
def W.PAT_CFG : List Field := [F.PAT_CFG_GEN_EN, F.PAT_CFG_GEN_PAT, F.PAT_CFG_CHK_EN, F.PAT_CFG_CHK_PAT, F.PAT_CFG_INJ_ERR, F.PAT_CFG_IN_SYNC]
/-- `PAT_USER_LO` (R185). -/
def R.PAT_USER_LO : Reg := ⟨0x0401024, 128, 345, 0, 1⟩
def F.PAT_USER_LO_USER : Field := ⟨R.PAT_USER_LO, 0, 32, .rw, .c 0, .any⟩
def W.PAT_USER_LO : List Field := [F.PAT_USER_LO_USER]
/-- `PAT_USER_HI` (R185). -/
def R.PAT_USER_HI : Reg := ⟨0x0401028, 128, 345, 0, 1⟩
def F.PAT_USER_HI_USER : Field := ⟨R.PAT_USER_HI, 0, 32, .rw, .c 0, .any⟩
def W.PAT_USER_HI : List Field := [F.PAT_USER_HI_USER]
/-- `CHK_ERR_LO` (R185). -/
def R.CHK_ERR_LO : Reg := ⟨0x040102C, 128, 345, 0, 1⟩
def F.CHK_ERR_LO_ERR : Field := ⟨R.CHK_ERR_LO, 0, 32, .ro, .c 0, .any⟩
def W.CHK_ERR_LO : List Field := [F.CHK_ERR_LO_ERR]
/-- `CHK_ERR_HI` (R185). -/
def R.CHK_ERR_HI : Reg := ⟨0x0401030, 128, 345, 0, 1⟩
def F.CHK_ERR_HI_ERR : Field := ⟨R.CHK_ERR_HI, 0, 16, .ro, .c 0, .any⟩
def W.CHK_ERR_HI : List Field := [F.CHK_ERR_HI_ERR]
/-- `CHK_BITS_LO` (R185). -/
def R.CHK_BITS_LO : Reg := ⟨0x0401034, 128, 345, 0, 1⟩
def F.CHK_BITS_LO_BITS : Field := ⟨R.CHK_BITS_LO, 0, 32, .ro, .c 0, .any⟩
def W.CHK_BITS_LO : List Field := [F.CHK_BITS_LO_BITS]
/-- `CHK_BITS_HI` (R185). -/
def R.CHK_BITS_HI : Reg := ⟨0x0401038, 128, 345, 0, 1⟩
def F.CHK_BITS_HI_BITS : Field := ⟨R.CHK_BITS_HI, 0, 32, .ro, .c 0, .any⟩
def W.CHK_BITS_HI : List Field := [F.CHK_BITS_HI_BITS]
/-- `EYE_CFG` (R185). -/
def R.EYE_CFG : Reg := ⟨0x040103C, 128, 345, 0, 1⟩
def F.EYE_CFG_GO : Field := ⟨R.EYE_CFG, 0, 1, .wo, .c 0, .any⟩
def F.EYE_CFG_MODE : Field := ⟨R.EYE_CFG, 1, 1, .rw, .c 0, .any⟩
def F.EYE_CFG_EYE : Field := ⟨R.EYE_CFG, 2, 2, .rw, .c 0, .any⟩
def F.EYE_CFG_DWELL : Field := ⟨R.EYE_CFG, 4, 5, .rw, .c 20, .range 16 30⟩
def F.EYE_CFG_PHASE : Field := ⟨R.EYE_CFG, 16, 8, .rw, .c 0, .any⟩
def F.EYE_CFG_VOLT : Field := ⟨R.EYE_CFG, 24, 8, .rw, .c 0, .any⟩
def W.EYE_CFG : List Field := [F.EYE_CFG_GO, F.EYE_CFG_MODE, F.EYE_CFG_EYE, F.EYE_CFG_DWELL, F.EYE_CFG_PHASE, F.EYE_CFG_VOLT]
/-- `EYE_RESULT` (R185). -/
def R.EYE_RESULT : Reg := ⟨0x0401040, 128, 345, 0, 1⟩
def F.EYE_RESULT_W : Field := ⟨R.EYE_RESULT, 0, 8, .ro, .c 0, .any⟩
def F.EYE_RESULT_H : Field := ⟨R.EYE_RESULT, 8, 8, .ro, .c 0, .any⟩
def F.EYE_RESULT_ERR : Field := ⟨R.EYE_RESULT, 16, 15, .ro, .c 0, .any⟩
def F.EYE_RESULT_VALID : Field := ⟨R.EYE_RESULT, 31, 1, .ro, .c 0, .any⟩
def W.EYE_RESULT : List Field := [F.EYE_RESULT_W, F.EYE_RESULT_H, F.EYE_RESULT_ERR, F.EYE_RESULT_VALID]
/-- `LANE_FAULT_CNT` (R185). -/
def R.LANE_FAULT_CNT : Reg := ⟨0x0401044, 128, 345, 0, 1⟩
def F.LANE_FAULT_CNT_TRANSIENT : Field := ⟨R.LANE_FAULT_CNT, 0, 16, .ro, .c 0, .any⟩
def F.LANE_FAULT_CNT_LASTING_CNT : Field := ⟨R.LANE_FAULT_CNT, 16, 16, .ro, .c 0, .any⟩
def W.LANE_FAULT_CNT : List Field := [F.LANE_FAULT_CNT_TRANSIENT, F.LANE_FAULT_CNT_LASTING_CNT]
/-- `LANE_SNR` (R185). -/
def R.LANE_SNR : Reg := ⟨0x0401048, 128, 345, 0, 1⟩
def F.LANE_SNR_SNR : Field := ⟨R.LANE_SNR, 0, 12, .ro, .c 0, .any⟩
def F.LANE_SNR_SNR_MIN : Field := ⟨R.LANE_SNR, 16, 8, .rw, .c 170, .any⟩
def W.LANE_SNR : List Field := [F.LANE_SNR_SNR, F.LANE_SNR_SNR_MIN]
def fieldsLANES0 : List Field := [F.LANES_CFG_SSC_OFFER, F.LANES_CFG_TRAIN_TMO, F.LANE_PEND_PEND, F.LANE_LASTING_LASTING, F.LANE_CTRL_POWER, F.LANE_CTRL_RATE, F.LANE_CTRL_AUTO_RETRAIN, F.LANE_CTRL_RETRAIN, F.LANE_CTRL_LB, F.LANE_CTRL_LB_TX_ON, F.LANE_CTRL_TX_INV, F.LANE_CTRL_RX_INV, F.LANE_CTRL_SSC, F.LANE_CTRL_RETRY_INT, F.LANE_STATUS_STATE, F.LANE_STATUS_SIG_DET, F.LANE_STATUS_CDR_LOCK, F.LANE_STATUS_RATE_NOW, F.LANE_STATUS_PAM4, F.LANE_STATUS_LASTING, F.LANE_STATUS_FROZEN, F.LANE_HIST_LOS, F.LANE_HIST_LOL, F.LANE_HIST_SNR_LOW, F.LANE_HIST_RETRAIN_OK, F.LANE_HIST_RETRAIN_FAIL, F.LANE_HIST_LASTING_SET, F.LANE_HIST_CHK_SYNC, F.LANE_HIST_CHK_LOST, F.LANE_HIST_EYE_DONE, F.LANE_HIST_CFG_REJECTED, F.LANE_HIST_TRAIN_DONE, F.LANE_IRQ_EN_EN, F.TX_EQ_PRE2, F.TX_EQ_PRE1, F.TX_EQ_MAIN, F.TX_EQ_POST1, F.RX_EQ_CTLE, F.RX_EQ_VGA, F.RX_EQ_FREEZE]
def fieldsLANES1 : List Field := [F.RX_EQ_LOAD, F.RX_DFE_A_TAP1_4, F.RX_DFE_B_TAP5_8, F.PAT_CFG_GEN_EN, F.PAT_CFG_GEN_PAT, F.PAT_CFG_CHK_EN, F.PAT_CFG_CHK_PAT, F.PAT_CFG_INJ_ERR, F.PAT_CFG_IN_SYNC, F.PAT_USER_LO_USER, F.PAT_USER_HI_USER, F.CHK_ERR_LO_ERR, F.CHK_ERR_HI_ERR, F.CHK_BITS_LO_BITS, F.CHK_BITS_HI_BITS, F.EYE_CFG_GO, F.EYE_CFG_MODE, F.EYE_CFG_EYE, F.EYE_CFG_DWELL, F.EYE_CFG_PHASE, F.EYE_CFG_VOLT, F.EYE_RESULT_W, F.EYE_RESULT_H, F.EYE_RESULT_ERR, F.EYE_RESULT_VALID, F.LANE_FAULT_CNT_TRANSIENT, F.LANE_FAULT_CNT_LASTING_CNT, F.LANE_SNR_SNR, F.LANE_SNR_SNR_MIN]
/-- Every field of block LANES. -/
def fieldsLANES : List Field := fieldsLANES0 ++ fieldsLANES1

/-! ### SDI_RX -/

/-- `SDI_RX_CFG` (R219). -/
def R.SDI_RX_CFG : Reg := ⟨0x0501000, 64, 128, 0, 1⟩
def F.SDI_RX_CFG_EN : Field := ⟨R.SDI_RX_CFG, 0, 1, .rw, .c 0, .any⟩
def F.SDI_RX_CFG_FORMAT : Field := ⟨R.SDI_RX_CFG, 1, 5, .rw, .c 0, .any⟩
def F.SDI_RX_CFG_QUAD : Field := ⟨R.SDI_RX_CFG, 6, 1, .rw, .c 0, .any⟩
def F.SDI_RX_CFG_ANC_MODE : Field := ⟨R.SDI_RX_CFG, 7, 2, .rw, .c 1, .any⟩
def F.SDI_RX_CFG_DEEMB_EN : Field := ⟨R.SDI_RX_CFG, 9, 1, .rw, .c 1, .any⟩
def W.SDI_RX_CFG : List Field := [F.SDI_RX_CFG_EN, F.SDI_RX_CFG_FORMAT, F.SDI_RX_CFG_QUAD, F.SDI_RX_CFG_ANC_MODE, F.SDI_RX_CFG_DEEMB_EN]
/-- `SDI_RX_STATUS` (R219). -/
def R.SDI_RX_STATUS : Reg := ⟨0x0501004, 64, 128, 0, 1⟩
def F.SDI_RX_STATUS_STATE : Field := ⟨R.SDI_RX_STATUS, 0, 2, .ro, .c 0, .any⟩
def F.SDI_RX_STATUS_FMT_NOW : Field := ⟨R.SDI_RX_STATUS, 2, 5, .ro, .c 0, .any⟩
def F.SDI_RX_STATUS_PID_VALID : Field := ⟨R.SDI_RX_STATUS, 7, 1, .ro, .c 0, .any⟩
def F.SDI_RX_STATUS_ATC_VALID : Field := ⟨R.SDI_RX_STATUS, 8, 1, .ro, .c 0, .any⟩
def F.SDI_RX_STATUS_OSTAMP_SEEN : Field := ⟨R.SDI_RX_STATUS, 9, 1, .ro, .c 0, .any⟩
def F.SDI_RX_STATUS_LEVEL_B : Field := ⟨R.SDI_RX_STATUS, 10, 1, .ro, .c 0, .any⟩
def F.SDI_RX_STATUS_LINK : Field := ⟨R.SDI_RX_STATUS, 11, 2, .ro, .c 0, .any⟩
def W.SDI_RX_STATUS : List Field := [F.SDI_RX_STATUS_STATE, F.SDI_RX_STATUS_FMT_NOW, F.SDI_RX_STATUS_PID_VALID, F.SDI_RX_STATUS_ATC_VALID, F.SDI_RX_STATUS_OSTAMP_SEEN, F.SDI_RX_STATUS_LEVEL_B, F.SDI_RX_STATUS_LINK]
/-- `SDI_RX_HIST` (R219). -/
def R.SDI_RX_HIST : Reg := ⟨0x0501008, 64, 128, 0, 1⟩
def F.SDI_RX_HIST_LOCK_GAINED : Field := ⟨R.SDI_RX_HIST, 0, 1, .w1c, .c 0, .any⟩
def F.SDI_RX_HIST_LOCK_LOST : Field := ⟨R.SDI_RX_HIST, 1, 1, .w1c, .c 0, .any⟩
def F.SDI_RX_HIST_FMT_CHANGED : Field := ⟨R.SDI_RX_HIST, 2, 1, .w1c, .c 0, .any⟩
def F.SDI_RX_HIST_FMT_MISMATCH : Field := ⟨R.SDI_RX_HIST, 3, 1, .w1c, .c 0, .any⟩
def F.SDI_RX_HIST_CRC_ERR : Field := ⟨R.SDI_RX_HIST, 4, 1, .w1c, .c 0, .any⟩
def F.SDI_RX_HIST_TRS_ERR : Field := ⟨R.SDI_RX_HIST, 5, 1, .w1c, .c 0, .any⟩
def F.SDI_RX_HIST_ANC_CSUM_ERR : Field := ⟨R.SDI_RX_HIST, 6, 1, .w1c, .c 0, .any⟩
def F.SDI_RX_HIST_QUAD_SKEW : Field := ⟨R.SDI_RX_HIST, 7, 1, .w1c, .c 0, .any⟩
def F.SDI_RX_HIST_PID_CHANGED : Field := ⟨R.SDI_RX_HIST, 8, 1, .w1c, .c 0, .any⟩
def F.SDI_RX_HIST_AUD_ASYNC : Field := ⟨R.SDI_RX_HIST, 9, 1, .w1c, .c 0, .any⟩
def F.SDI_RX_HIST_CFG_REJECTED : Field := ⟨R.SDI_RX_HIST, 10, 1, .w1c, .c 0, .any⟩
def W.SDI_RX_HIST : List Field := [F.SDI_RX_HIST_LOCK_GAINED, F.SDI_RX_HIST_LOCK_LOST, F.SDI_RX_HIST_FMT_CHANGED, F.SDI_RX_HIST_FMT_MISMATCH, F.SDI_RX_HIST_CRC_ERR, F.SDI_RX_HIST_TRS_ERR, F.SDI_RX_HIST_ANC_CSUM_ERR, F.SDI_RX_HIST_QUAD_SKEW, F.SDI_RX_HIST_PID_CHANGED, F.SDI_RX_HIST_AUD_ASYNC, F.SDI_RX_HIST_CFG_REJECTED]
/-- `SDI_RX_IRQ_EN` (R219). -/
def R.SDI_RX_IRQ_EN : Reg := ⟨0x050100C, 64, 128, 0, 1⟩
def F.SDI_RX_IRQ_EN_EN : Field := ⟨R.SDI_RX_IRQ_EN, 0, 11, .rw, .c 0, .any⟩
def W.SDI_RX_IRQ_EN : List Field := [F.SDI_RX_IRQ_EN_EN]
/-- `SDI_RX_PID` (R219). -/
def R.SDI_RX_PID : Reg := ⟨0x0501010, 64, 128, 0, 1⟩
def F.SDI_RX_PID_PID : Field := ⟨R.SDI_RX_PID, 0, 32, .ro, .c 0, .any⟩
def W.SDI_RX_PID : List Field := [F.SDI_RX_PID_PID]
/-- `SDI_RX_ATC` (R219). -/
def R.SDI_RX_ATC : Reg := ⟨0x0501014, 64, 128, 0, 1⟩
def F.SDI_RX_ATC_FRAMES : Field := ⟨R.SDI_RX_ATC, 0, 6, .ro, .c 0, .any⟩
def F.SDI_RX_ATC_SECONDS : Field := ⟨R.SDI_RX_ATC, 8, 6, .ro, .c 0, .any⟩
def F.SDI_RX_ATC_MINUTES : Field := ⟨R.SDI_RX_ATC, 16, 6, .ro, .c 0, .any⟩
def F.SDI_RX_ATC_HOURS : Field := ⟨R.SDI_RX_ATC, 24, 5, .ro, .c 0, .any⟩
def F.SDI_RX_ATC_DF : Field := ⟨R.SDI_RX_ATC, 29, 1, .ro, .c 0, .any⟩
def F.SDI_RX_ATC_VITC : Field := ⟨R.SDI_RX_ATC, 30, 1, .ro, .c 0, .any⟩
def W.SDI_RX_ATC : List Field := [F.SDI_RX_ATC_FRAMES, F.SDI_RX_ATC_SECONDS, F.SDI_RX_ATC_MINUTES, F.SDI_RX_ATC_HOURS, F.SDI_RX_ATC_DF, F.SDI_RX_ATC_VITC]
/-- `SDI_RX_CRC_CNT` (R219). -/
def R.SDI_RX_CRC_CNT : Reg := ⟨0x0501018, 64, 128, 0, 1⟩
def F.SDI_RX_CRC_CNT_COUNT : Field := ⟨R.SDI_RX_CRC_CNT, 0, 32, .rcl, .c 0, .any⟩
def W.SDI_RX_CRC_CNT : List Field := [F.SDI_RX_CRC_CNT_COUNT]
/-- `SDI_RX_TRS_CNT` (R219). -/
def R.SDI_RX_TRS_CNT : Reg := ⟨0x050101C, 64, 128, 0, 1⟩
def F.SDI_RX_TRS_CNT_COUNT : Field := ⟨R.SDI_RX_TRS_CNT, 0, 32, .rcl, .c 0, .any⟩
def W.SDI_RX_TRS_CNT : List Field := [F.SDI_RX_TRS_CNT_COUNT]
/-- `SDI_RX_ANC_CNT` (R219). -/
def R.SDI_RX_ANC_CNT : Reg := ⟨0x0501020, 64, 128, 0, 1⟩
def F.SDI_RX_ANC_CNT_COUNT : Field := ⟨R.SDI_RX_ANC_CNT, 0, 32, .rcl, .c 0, .any⟩
def W.SDI_RX_ANC_CNT : List Field := [F.SDI_RX_ANC_CNT_COUNT]
/-- `SDI_RX_SKEW` (R219). -/
def R.SDI_RX_SKEW : Reg := ⟨0x0501024, 64, 128, 0, 1⟩
def F.SDI_RX_SKEW_SKEW : Field := ⟨R.SDI_RX_SKEW, 0, 16, .ro, .c 0, .any⟩
def W.SDI_RX_SKEW : List Field := [F.SDI_RX_SKEW_SKEW]
/-- `SDI_RX_ANC_LIST` (R219). -/
def R.SDI_RX_ANC_LIST : Reg := ⟨0x0501030, 64, 512, 4, 4⟩
def F.SDI_RX_ANC_LIST_DID_A : Field := ⟨R.SDI_RX_ANC_LIST, 0, 8, .rw, .c 0, .any⟩
def F.SDI_RX_ANC_LIST_SDID_A : Field := ⟨R.SDI_RX_ANC_LIST, 8, 8, .rw, .c 0, .any⟩
def F.SDI_RX_ANC_LIST_DID_B : Field := ⟨R.SDI_RX_ANC_LIST, 16, 8, .rw, .c 0, .any⟩
def F.SDI_RX_ANC_LIST_SDID_B : Field := ⟨R.SDI_RX_ANC_LIST, 24, 8, .rw, .c 0, .any⟩
def W.SDI_RX_ANC_LIST : List Field := [F.SDI_RX_ANC_LIST_DID_A, F.SDI_RX_ANC_LIST_SDID_A, F.SDI_RX_ANC_LIST_DID_B, F.SDI_RX_ANC_LIST_SDID_B]
def fieldsSDIRX0 : List Field := [F.SDI_RX_CFG_EN, F.SDI_RX_CFG_FORMAT, F.SDI_RX_CFG_QUAD, F.SDI_RX_CFG_ANC_MODE, F.SDI_RX_CFG_DEEMB_EN, F.SDI_RX_STATUS_STATE, F.SDI_RX_STATUS_FMT_NOW, F.SDI_RX_STATUS_PID_VALID, F.SDI_RX_STATUS_ATC_VALID, F.SDI_RX_STATUS_OSTAMP_SEEN, F.SDI_RX_STATUS_LEVEL_B, F.SDI_RX_STATUS_LINK, F.SDI_RX_HIST_LOCK_GAINED, F.SDI_RX_HIST_LOCK_LOST, F.SDI_RX_HIST_FMT_CHANGED, F.SDI_RX_HIST_FMT_MISMATCH, F.SDI_RX_HIST_CRC_ERR, F.SDI_RX_HIST_TRS_ERR, F.SDI_RX_HIST_ANC_CSUM_ERR, F.SDI_RX_HIST_QUAD_SKEW, F.SDI_RX_HIST_PID_CHANGED, F.SDI_RX_HIST_AUD_ASYNC, F.SDI_RX_HIST_CFG_REJECTED, F.SDI_RX_IRQ_EN_EN, F.SDI_RX_PID_PID, F.SDI_RX_ATC_FRAMES, F.SDI_RX_ATC_SECONDS, F.SDI_RX_ATC_MINUTES, F.SDI_RX_ATC_HOURS, F.SDI_RX_ATC_DF, F.SDI_RX_ATC_VITC, F.SDI_RX_CRC_CNT_COUNT, F.SDI_RX_TRS_CNT_COUNT, F.SDI_RX_ANC_CNT_COUNT, F.SDI_RX_SKEW_SKEW, F.SDI_RX_ANC_LIST_DID_A, F.SDI_RX_ANC_LIST_SDID_A, F.SDI_RX_ANC_LIST_DID_B, F.SDI_RX_ANC_LIST_SDID_B]
/-- Every field of block SDI_RX. -/
def fieldsSDIRX : List Field := fieldsSDIRX0

/-! ### SDI_TX -/

/-- `CREW_CFG` (R220). -/
def R.CREW_CFG : Reg := ⟨0x0600100, 4, 16, 0, 1⟩
def F.CREW_CFG_SYNTH : Field := ⟨R.CREW_CFG, 0, 2, .rw, .c 1, .any⟩
def F.CREW_CFG_TL : Field := ⟨R.CREW_CFG, 2, 1, .rw, .c 1, .any⟩
def W.CREW_CFG : List Field := [F.CREW_CFG_SYNTH, F.CREW_CFG_TL]
/-- `SDI_TX_CFG` (R220). -/
def R.SDI_TX_CFG : Reg := ⟨0x0601000, 64, 128, 0, 1⟩
def F.SDI_TX_CFG_EN : Field := ⟨R.SDI_TX_CFG, 0, 1, .rw, .c 0, .any⟩
def F.SDI_TX_CFG_FORMAT : Field := ⟨R.SDI_TX_CFG, 1, 5, .rw, .c 15, .subst 1 31 15⟩
def F.SDI_TX_CFG_QUAD : Field := ⟨R.SDI_TX_CFG, 6, 1, .rw, .c 0, .any⟩
def F.SDI_TX_CFG_NOSRC : Field := ⟨R.SDI_TX_CFG, 7, 2, .rw, .c 0, .subst 0 2 0⟩
def F.SDI_TX_CFG_PID_EN : Field := ⟨R.SDI_TX_CFG, 9, 1, .rw, .c 1, .any⟩
def F.SDI_TX_CFG_OSTAMP_EN : Field := ⟨R.SDI_TX_CFG, 10, 1, .rw, .c 1, .any⟩
def F.SDI_TX_CFG_EMB_EN : Field := ⟨R.SDI_TX_CFG, 11, 1, .rw, .c 1, .any⟩
def F.SDI_TX_CFG_EDH_EN : Field := ⟨R.SDI_TX_CFG, 12, 1, .rw, .c 1, .any⟩
def F.SDI_TX_CFG_LEVEL_B : Field := ⟨R.SDI_TX_CFG, 13, 1, .rw, .c 0, .any⟩
def F.SDI_TX_CFG_PID_OVR_EN : Field := ⟨R.SDI_TX_CFG, 14, 1, .rw, .c 0, .any⟩
def F.SDI_TX_CFG_DIV_2SI : Field := ⟨R.SDI_TX_CFG, 15, 1, .rw, .c 0, .any⟩
def W.SDI_TX_CFG : List Field := [F.SDI_TX_CFG_EN, F.SDI_TX_CFG_FORMAT, F.SDI_TX_CFG_QUAD, F.SDI_TX_CFG_NOSRC, F.SDI_TX_CFG_PID_EN, F.SDI_TX_CFG_OSTAMP_EN, F.SDI_TX_CFG_EMB_EN, F.SDI_TX_CFG_EDH_EN, F.SDI_TX_CFG_LEVEL_B, F.SDI_TX_CFG_PID_OVR_EN, F.SDI_TX_CFG_DIV_2SI]
/-- `SDI_TX_OFS` (R220). -/
def R.SDI_TX_OFS : Reg := ⟨0x0601004, 64, 128, 0, 1⟩
def F.SDI_TX_OFS_TX_OFS : Field := ⟨R.SDI_TX_OFS, 0, 16, .rw, .c 0, .signed (-1024) 1023⟩
def F.SDI_TX_OFS_PID_OVR : Field := ⟨R.SDI_TX_OFS, 16, 16, .rw, .c 0, .any⟩
def W.SDI_TX_OFS : List Field := [F.SDI_TX_OFS_TX_OFS, F.SDI_TX_OFS_PID_OVR]
/-- `SDI_TX_NOSRC` (R220). -/
def R.SDI_TX_NOSRC : Reg := ⟨0x0601008, 64, 128, 0, 1⟩
def F.SDI_TX_NOSRC_Y : Field := ⟨R.SDI_TX_NOSRC, 0, 10, .rw, .c 64, .any⟩
def F.SDI_TX_NOSRC_CB : Field := ⟨R.SDI_TX_NOSRC, 10, 10, .rw, .c 512, .any⟩
def F.SDI_TX_NOSRC_CR : Field := ⟨R.SDI_TX_NOSRC, 20, 10, .rw, .c 512, .any⟩
def W.SDI_TX_NOSRC : List Field := [F.SDI_TX_NOSRC_Y, F.SDI_TX_NOSRC_CB, F.SDI_TX_NOSRC_CR]
/-- `SDI_TX_STATUS` (R220). -/
def R.SDI_TX_STATUS : Reg := ⟨0x060100C, 64, 128, 0, 1⟩
def F.SDI_TX_STATUS_STATE : Field := ⟨R.SDI_TX_STATUS, 0, 2, .ro, .c 0, .any⟩
def F.SDI_TX_STATUS_UNALIGNED : Field := ⟨R.SDI_TX_STATUS, 2, 1, .ro, .c 0, .any⟩
def W.SDI_TX_STATUS : List Field := [F.SDI_TX_STATUS_STATE, F.SDI_TX_STATUS_UNALIGNED]
/-- `SDI_TX_HIST` (R220). -/
def R.SDI_TX_HIST : Reg := ⟨0x0601010, 64, 128, 0, 1⟩
def F.SDI_TX_HIST_STARTED : Field := ⟨R.SDI_TX_HIST, 0, 1, .w1c, .c 0, .any⟩
def F.SDI_TX_HIST_STOPPED : Field := ⟨R.SDI_TX_HIST, 1, 1, .w1c, .c 0, .any⟩
def F.SDI_TX_HIST_UNALIGNED : Field := ⟨R.SDI_TX_HIST, 2, 1, .w1c, .c 0, .any⟩
def F.SDI_TX_HIST_NOSRC_ENTERED : Field := ⟨R.SDI_TX_HIST, 3, 1, .w1c, .c 0, .any⟩
def F.SDI_TX_HIST_LINE_SUBST : Field := ⟨R.SDI_TX_HIST, 4, 1, .w1c, .c 0, .any⟩
def F.SDI_TX_HIST_CFG_REJECTED : Field := ⟨R.SDI_TX_HIST, 5, 1, .w1c, .c 0, .any⟩
def W.SDI_TX_HIST : List Field := [F.SDI_TX_HIST_STARTED, F.SDI_TX_HIST_STOPPED, F.SDI_TX_HIST_UNALIGNED, F.SDI_TX_HIST_NOSRC_ENTERED, F.SDI_TX_HIST_LINE_SUBST, F.SDI_TX_HIST_CFG_REJECTED]
/-- `SDI_TX_IRQ_EN` (R220). -/
def R.SDI_TX_IRQ_EN : Reg := ⟨0x0601014, 64, 128, 0, 1⟩
def F.SDI_TX_IRQ_EN_EN : Field := ⟨R.SDI_TX_IRQ_EN, 0, 6, .rw, .c 0, .any⟩
def W.SDI_TX_IRQ_EN : List Field := [F.SDI_TX_IRQ_EN_EN]
/-- `SDI_TX_SUBST_CNT` (R220). -/
def R.SDI_TX_SUBST_CNT : Reg := ⟨0x0601018, 64, 128, 0, 1⟩
def F.SDI_TX_SUBST_CNT_COUNT : Field := ⟨R.SDI_TX_SUBST_CNT, 0, 32, .rcl, .c 0, .any⟩
def W.SDI_TX_SUBST_CNT : List Field := [F.SDI_TX_SUBST_CNT_COUNT]
def fieldsSDITX0 : List Field := [F.CREW_CFG_SYNTH, F.CREW_CFG_TL, F.SDI_TX_CFG_EN, F.SDI_TX_CFG_FORMAT, F.SDI_TX_CFG_QUAD, F.SDI_TX_CFG_NOSRC, F.SDI_TX_CFG_PID_EN, F.SDI_TX_CFG_OSTAMP_EN, F.SDI_TX_CFG_EMB_EN, F.SDI_TX_CFG_EDH_EN, F.SDI_TX_CFG_LEVEL_B, F.SDI_TX_CFG_PID_OVR_EN, F.SDI_TX_CFG_DIV_2SI, F.SDI_TX_OFS_TX_OFS, F.SDI_TX_OFS_PID_OVR, F.SDI_TX_NOSRC_Y, F.SDI_TX_NOSRC_CB, F.SDI_TX_NOSRC_CR, F.SDI_TX_STATUS_STATE, F.SDI_TX_STATUS_UNALIGNED, F.SDI_TX_HIST_STARTED, F.SDI_TX_HIST_STOPPED, F.SDI_TX_HIST_UNALIGNED, F.SDI_TX_HIST_NOSRC_ENTERED, F.SDI_TX_HIST_LINE_SUBST, F.SDI_TX_HIST_CFG_REJECTED, F.SDI_TX_IRQ_EN_EN, F.SDI_TX_SUBST_CNT_COUNT]
/-- Every field of block SDI_TX. -/
def fieldsSDITX : List Field := fieldsSDITX0

/-! ### ETH -/

/-- `ETH_CFG` (R258). -/
def R.ETH_CFG : Reg := ⟨0x0701000, 1024, 9, 0, 1⟩
def F.ETH_CFG_EN : Field := ⟨R.ETH_CFG, 0, 1, .rw, .c 0, .any⟩
def F.ETH_CFG_RATE : Field := ⟨R.ETH_CFG, 1, 2, .rw, .special, .any⟩
def F.ETH_CFG_FEC : Field := ⟨R.ETH_CFG, 3, 2, .rw, .special, .any⟩
def F.ETH_CFG_BAD_TO_FW : Field := ⟨R.ETH_CFG, 5, 1, .rw, .c 0, .any⟩
def F.ETH_CFG_BCAST_EN : Field := ⟨R.ETH_CFG, 6, 1, .rw, .c 1, .any⟩
def F.ETH_CFG_MAX_FRAME : Field := ⟨R.ETH_CFG, 10, 14, .rw, .c 1522, .range 64 9600⟩
def W.ETH_CFG : List Field := [F.ETH_CFG_EN, F.ETH_CFG_RATE, F.ETH_CFG_FEC, F.ETH_CFG_BAD_TO_FW, F.ETH_CFG_BCAST_EN, F.ETH_CFG_MAX_FRAME]
/-- `ETH_STATUS` (R258). -/
def R.ETH_STATUS : Reg := ⟨0x0701004, 1024, 9, 0, 1⟩
def F.ETH_STATUS_LINK_UP : Field := ⟨R.ETH_STATUS, 0, 1, .ro, .c 0, .any⟩
def F.ETH_STATUS_FEC_LOCK : Field := ⟨R.ETH_STATUS, 1, 1, .ro, .c 0, .any⟩
def W.ETH_STATUS : List Field := [F.ETH_STATUS_LINK_UP, F.ETH_STATUS_FEC_LOCK]
/-- `ETH_HIST` (R258). -/
def R.ETH_HIST : Reg := ⟨0x0701008, 1024, 9, 0, 1⟩
def F.ETH_HIST_LINK_GAINED : Field := ⟨R.ETH_HIST, 0, 1, .w1c, .c 0, .any⟩
def F.ETH_HIST_LINK_LOST : Field := ⟨R.ETH_HIST, 1, 1, .w1c, .c 0, .any⟩
def F.ETH_HIST_RX_OVF : Field := ⟨R.ETH_HIST, 2, 1, .w1c, .c 0, .any⟩
def F.ETH_HIST_CAPQ_FULL : Field := ⟨R.ETH_HIST, 3, 1, .w1c, .c 0, .any⟩
def F.ETH_HIST_FEC_UNCORR : Field := ⟨R.ETH_HIST, 4, 1, .w1c, .c 0, .any⟩
def F.ETH_HIST_CFG_REJECTED : Field := ⟨R.ETH_HIST, 5, 1, .w1c, .c 0, .any⟩
def W.ETH_HIST : List Field := [F.ETH_HIST_LINK_GAINED, F.ETH_HIST_LINK_LOST, F.ETH_HIST_RX_OVF, F.ETH_HIST_CAPQ_FULL, F.ETH_HIST_FEC_UNCORR, F.ETH_HIST_CFG_REJECTED]
/-- `ETH_IRQ_EN` (R258). -/
def R.ETH_IRQ_EN : Reg := ⟨0x070100C, 1024, 9, 0, 1⟩
def F.ETH_IRQ_EN_EN : Field := ⟨R.ETH_IRQ_EN, 0, 6, .rw, .c 0, .any⟩
def W.ETH_IRQ_EN : List Field := [F.ETH_IRQ_EN_EN]
/-- `ETH_MAC_LO` (R258). -/
def R.ETH_MAC_LO : Reg := ⟨0x0701010, 1024, 9, 0, 1⟩
def F.ETH_MAC_LO_MAC : Field := ⟨R.ETH_MAC_LO, 0, 32, .rw, .c 0, .any⟩
def W.ETH_MAC_LO : List Field := [F.ETH_MAC_LO_MAC]
/-- `ETH_MAC_HI` (R258). -/
def R.ETH_MAC_HI : Reg := ⟨0x0701014, 1024, 9, 0, 1⟩
def F.ETH_MAC_HI_MAC : Field := ⟨R.ETH_MAC_HI, 0, 16, .rw, .c 0, .any⟩
def W.ETH_MAC_HI : List Field := [F.ETH_MAC_HI_MAC]
/-- `ETH_CNT_LO` (R258). -/
def R.ETH_CNT_LO : Reg := ⟨0x0701040, 1024, 135, 8, 15⟩
def F.ETH_CNT_LO_CNT : Field := ⟨R.ETH_CNT_LO, 0, 32, .rcl, .c 0, .any⟩
def W.ETH_CNT_LO : List Field := [F.ETH_CNT_LO_CNT]
/-- `ETH_CNT_HI` (R258). -/
def R.ETH_CNT_HI : Reg := ⟨0x0701044, 1024, 135, 8, 15⟩
def F.ETH_CNT_HI_CNT : Field := ⟨R.ETH_CNT_HI, 0, 32, .ro, .c 0, .any⟩
def W.ETH_CNT_HI : List Field := [F.ETH_CNT_HI_CNT]
/-- `PTP_TX_ID` (R258). -/
def R.PTP_TX_ID : Reg := ⟨0x07010C0, 1024, 9, 0, 1⟩
def F.PTP_TX_ID_SEQ_ID : Field := ⟨R.PTP_TX_ID, 0, 16, .ro, .c 0, .any⟩
def F.PTP_TX_ID_MSG_TYPE : Field := ⟨R.PTP_TX_ID, 16, 4, .ro, .c 0, .any⟩
def F.PTP_TX_ID_VALID : Field := ⟨R.PTP_TX_ID, 31, 1, .ro, .c 0, .any⟩
def W.PTP_TX_ID : List Field := [F.PTP_TX_ID_SEQ_ID, F.PTP_TX_ID_MSG_TYPE, F.PTP_TX_ID_VALID]
/-- `PTP_TX_NS` (R258). -/
def R.PTP_TX_NS : Reg := ⟨0x07010C4, 1024, 9, 0, 1⟩
def F.PTP_TX_NS_NS : Field := ⟨R.PTP_TX_NS, 0, 30, .ro, .c 0, .any⟩
def W.PTP_TX_NS : List Field := [F.PTP_TX_NS_NS]
/-- `PTP_TX_SEC_LO` (R258). -/
def R.PTP_TX_SEC_LO : Reg := ⟨0x07010C8, 1024, 9, 0, 1⟩
def F.PTP_TX_SEC_LO_SEC : Field := ⟨R.PTP_TX_SEC_LO, 0, 32, .ro, .c 0, .any⟩
def W.PTP_TX_SEC_LO : List Field := [F.PTP_TX_SEC_LO_SEC]
/-- `PTP_TX_SEC_HI` (R258). -/
def R.PTP_TX_SEC_HI : Reg := ⟨0x07010CC, 1024, 9, 0, 1⟩
def F.PTP_TX_SEC_HI_SEC : Field := ⟨R.PTP_TX_SEC_HI, 0, 16, .ro, .c 0, .any⟩
def F.PTP_TX_SEC_HI_FRAC : Field := ⟨R.PTP_TX_SEC_HI, 16, 16, .ro, .c 0, .any⟩
def W.PTP_TX_SEC_HI : List Field := [F.PTP_TX_SEC_HI_SEC, F.PTP_TX_SEC_HI_FRAC]
/-- `ETH_HASH` (R258). -/
def R.ETH_HASH : Reg := ⟨0x0701200, 1024, 1152, 4, 128⟩
def F.ETH_HASH_BINS : Field := ⟨R.ETH_HASH, 0, 32, .rw, .c 0, .any⟩
def W.ETH_HASH : List Field := [F.ETH_HASH_BINS]
def fieldsETH0 : List Field := [F.ETH_CFG_EN, F.ETH_CFG_RATE, F.ETH_CFG_FEC, F.ETH_CFG_BAD_TO_FW, F.ETH_CFG_BCAST_EN, F.ETH_CFG_MAX_FRAME, F.ETH_STATUS_LINK_UP, F.ETH_STATUS_FEC_LOCK, F.ETH_HIST_LINK_GAINED, F.ETH_HIST_LINK_LOST, F.ETH_HIST_RX_OVF, F.ETH_HIST_CAPQ_FULL, F.ETH_HIST_FEC_UNCORR, F.ETH_HIST_CFG_REJECTED, F.ETH_IRQ_EN_EN, F.ETH_MAC_LO_MAC, F.ETH_MAC_HI_MAC, F.ETH_CNT_LO_CNT, F.ETH_CNT_HI_CNT, F.PTP_TX_ID_SEQ_ID, F.PTP_TX_ID_MSG_TYPE, F.PTP_TX_ID_VALID, F.PTP_TX_NS_NS, F.PTP_TX_SEC_LO_SEC, F.PTP_TX_SEC_HI_SEC, F.PTP_TX_SEC_HI_FRAC, F.ETH_HASH_BINS]
/-- Every field of block ETH. -/
def fieldsETH : List Field := fieldsETH0

/-! ### IPM -/

/-- `IPM_CFG` (R259). -/
def R.IPM_CFG : Reg := ⟨0x0800100, 0, 1, 0, 1⟩
def F.IPM_CFG_LEG_TMO : Field := ⟨R.IPM_CFG, 0, 10, .rw, .c 20, .range 1 1023⟩
def W.IPM_CFG : List Field := [F.IPM_CFG_LEG_TMO]
/-- `IPM_RX_CFG` (R259). -/
def R.IPM_RX_CFG : Reg := ⟨0x0810000, 64, 768, 0, 1⟩
def F.IPM_RX_CFG_EN : Field := ⟨R.IPM_RX_CFG, 0, 1, .rw, .c 0, .any⟩
def F.IPM_RX_CFG_KIND : Field := ⟨R.IPM_RX_CFG, 1, 3, .rw, .c 0, .any⟩
def F.IPM_RX_CFG_PAIR : Field := ⟨R.IPM_RX_CFG, 4, 2, .rw, .c 0, .any⟩
def F.IPM_RX_CFG_RED_EN : Field := ⟨R.IPM_RX_CFG, 6, 1, .rw, .c 0, .any⟩
def F.IPM_RX_CFG_BLUE_EN : Field := ⟨R.IPM_RX_CFG, 7, 1, .rw, .c 0, .any⟩
def F.IPM_RX_CFG_FORMAT : Field := ⟨R.IPM_RX_CFG, 8, 5, .rw, .c 0, .any⟩
def F.IPM_RX_CFG_MERGE_WIN : Field := ⟨R.IPM_RX_CFG, 13, 6, .rw, .c 10, .range 1 50⟩
def W.IPM_RX_CFG : List Field := [F.IPM_RX_CFG_EN, F.IPM_RX_CFG_KIND, F.IPM_RX_CFG_PAIR, F.IPM_RX_CFG_RED_EN, F.IPM_RX_CFG_BLUE_EN, F.IPM_RX_CFG_FORMAT, F.IPM_RX_CFG_MERGE_WIN]
/-- `IPM_RX_STATUS` (R259). -/
def R.IPM_RX_STATUS : Reg := ⟨0x0810004, 64, 768, 0, 1⟩
def F.IPM_RX_STATUS_RED_UP : Field := ⟨R.IPM_RX_STATUS, 0, 1, .ro, .c 0, .any⟩
def F.IPM_RX_STATUS_BLUE_UP : Field := ⟨R.IPM_RX_STATUS, 1, 1, .ro, .c 0, .any⟩
def F.IPM_RX_STATUS_STATE : Field := ⟨R.IPM_RX_STATUS, 2, 2, .ro, .c 0, .any⟩
def W.IPM_RX_STATUS : List Field := [F.IPM_RX_STATUS_RED_UP, F.IPM_RX_STATUS_BLUE_UP, F.IPM_RX_STATUS_STATE]
/-- `IPM_RX_HIST` (R259). -/
def R.IPM_RX_HIST : Reg := ⟨0x0810008, 64, 768, 0, 1⟩
def F.IPM_RX_HIST_RED_LOST : Field := ⟨R.IPM_RX_HIST, 0, 1, .w1c, .c 0, .any⟩
def F.IPM_RX_HIST_BLUE_LOST : Field := ⟨R.IPM_RX_HIST, 1, 1, .w1c, .c 0, .any⟩
def F.IPM_RX_HIST_FLOW_LOST : Field := ⟨R.IPM_RX_HIST, 2, 1, .w1c, .c 0, .any⟩
def F.IPM_RX_HIST_LATE_PKT : Field := ⟨R.IPM_RX_HIST, 3, 1, .w1c, .c 0, .any⟩
def F.IPM_RX_HIST_INCOMPLETE : Field := ⟨R.IPM_RX_HIST, 4, 1, .w1c, .c 0, .any⟩
def F.IPM_RX_HIST_FMT_ERR : Field := ⟨R.IPM_RX_HIST, 5, 1, .w1c, .c 0, .any⟩
def F.IPM_RX_HIST_CFG_REJECTED : Field := ⟨R.IPM_RX_HIST, 6, 1, .w1c, .c 0, .any⟩
def W.IPM_RX_HIST : List Field := [F.IPM_RX_HIST_RED_LOST, F.IPM_RX_HIST_BLUE_LOST, F.IPM_RX_HIST_FLOW_LOST, F.IPM_RX_HIST_LATE_PKT, F.IPM_RX_HIST_INCOMPLETE, F.IPM_RX_HIST_FMT_ERR, F.IPM_RX_HIST_CFG_REJECTED]
/-- `IPM_RX_IRQ_EN` (R259). -/
def R.IPM_RX_IRQ_EN : Reg := ⟨0x081000C, 64, 768, 0, 1⟩
def F.IPM_RX_IRQ_EN_EN : Field := ⟨R.IPM_RX_IRQ_EN, 0, 7, .rw, .c 0, .any⟩
def W.IPM_RX_IRQ_EN : List Field := [F.IPM_RX_IRQ_EN_EN]
/-- `IPM_RX_PKT_CNT` (R259). -/
def R.IPM_RX_PKT_CNT : Reg := ⟨0x0810010, 64, 768, 0, 1⟩
def F.IPM_RX_PKT_CNT_COUNT : Field := ⟨R.IPM_RX_PKT_CNT, 0, 32, .rcl, .c 0, .any⟩
def W.IPM_RX_PKT_CNT : List Field := [F.IPM_RX_PKT_CNT_COUNT]
/-- `IPM_RX_DUP_CNT` (R259). -/
def R.IPM_RX_DUP_CNT : Reg := ⟨0x0810014, 64, 768, 0, 1⟩
def F.IPM_RX_DUP_CNT_COUNT : Field := ⟨R.IPM_RX_DUP_CNT, 0, 32, .rcl, .c 0, .any⟩
def W.IPM_RX_DUP_CNT : List Field := [F.IPM_RX_DUP_CNT_COUNT]
/-- `IPM_RX_LATE_CNT` (R259). -/
def R.IPM_RX_LATE_CNT : Reg := ⟨0x0810018, 64, 768, 0, 1⟩
def F.IPM_RX_LATE_CNT_COUNT : Field := ⟨R.IPM_RX_LATE_CNT, 0, 32, .rcl, .c 0, .any⟩
def W.IPM_RX_LATE_CNT : List Field := [F.IPM_RX_LATE_CNT_COUNT]
/-- `IPM_RX_LOST_CNT` (R259). -/
def R.IPM_RX_LOST_CNT : Reg := ⟨0x081001C, 64, 768, 0, 1⟩
def F.IPM_RX_LOST_CNT_COUNT : Field := ⟨R.IPM_RX_LOST_CNT, 0, 32, .rcl, .c 0, .any⟩
def W.IPM_RX_LOST_CNT : List Field := [F.IPM_RX_LOST_CNT_COUNT]
/-- `IPM_RX_FMT_CNT` (R259). -/
def R.IPM_RX_FMT_CNT : Reg := ⟨0x0810020, 64, 768, 0, 1⟩
def F.IPM_RX_FMT_CNT_COUNT : Field := ⟨R.IPM_RX_FMT_CNT, 0, 32, .rcl, .c 0, .any⟩
def W.IPM_RX_FMT_CNT : List Field := [F.IPM_RX_FMT_CNT_COUNT]
/-- `IPM_RX_TS` (R259). -/
def R.IPM_RX_TS : Reg := ⟨0x0810024, 64, 768, 0, 1⟩
def F.IPM_RX_TS_TS : Field := ⟨R.IPM_RX_TS, 0, 32, .ro, .c 0, .any⟩
def W.IPM_RX_TS : List Field := [F.IPM_RX_TS_TS]
/-- `IPM_RX_SKEW` (R259). -/
def R.IPM_RX_SKEW : Reg := ⟨0x0810028, 64, 768, 0, 1⟩
def F.IPM_RX_SKEW_SKEW : Field := ⟨R.IPM_RX_SKEW, 0, 32, .ro, .c 0, .any⟩
def W.IPM_RX_SKEW : List Field := [F.IPM_RX_SKEW_SKEW]
/-- `IPM_TX_CFG` (R259). -/
def R.IPM_TX_CFG : Reg := ⟨0x0820000, 64, 768, 0, 1⟩
def F.IPM_TX_CFG_EN : Field := ⟨R.IPM_TX_CFG, 0, 1, .rw, .c 0, .any⟩
def F.IPM_TX_CFG_KIND : Field := ⟨R.IPM_TX_CFG, 1, 3, .rw, .c 0, .any⟩
def F.IPM_TX_CFG_PAIR : Field := ⟨R.IPM_TX_CFG, 4, 2, .rw, .c 0, .any⟩
def F.IPM_TX_CFG_LEGS : Field := ⟨R.IPM_TX_CFG, 6, 1, .rw, .c 0, .any⟩
def F.IPM_TX_CFG_SENDER : Field := ⟨R.IPM_TX_CFG, 7, 2, .rw, .c 0, .range 0 2⟩
def F.IPM_TX_CFG_FORMAT : Field := ⟨R.IPM_TX_CFG, 9, 5, .rw, .c 0, .any⟩
def F.IPM_TX_CFG_PTIME : Field := ⟨R.IPM_TX_CFG, 14, 1, .rw, .c 0, .any⟩
def F.IPM_TX_CFG_VLAN_EN : Field := ⟨R.IPM_TX_CFG, 15, 1, .rw, .c 0, .any⟩
def F.IPM_TX_CFG_ANC_PKTS : Field := ⟨R.IPM_TX_CFG, 16, 2, .rw, .c 0, .any⟩
def F.IPM_TX_CFG_NOSRC : Field := ⟨R.IPM_TX_CFG, 18, 2, .rw, .c 0, .subst 0 2 0⟩
def F.IPM_TX_CFG_OSTAMP_EN : Field := ⟨R.IPM_TX_CFG, 20, 1, .rw, .c 1, .any⟩
def W.IPM_TX_CFG : List Field := [F.IPM_TX_CFG_EN, F.IPM_TX_CFG_KIND, F.IPM_TX_CFG_PAIR, F.IPM_TX_CFG_LEGS, F.IPM_TX_CFG_SENDER, F.IPM_TX_CFG_FORMAT, F.IPM_TX_CFG_PTIME, F.IPM_TX_CFG_VLAN_EN, F.IPM_TX_CFG_ANC_PKTS, F.IPM_TX_CFG_NOSRC, F.IPM_TX_CFG_OSTAMP_EN]
/-- `IPM_TX_STATUS` (R259). -/
def R.IPM_TX_STATUS : Reg := ⟨0x0820004, 64, 768, 0, 1⟩
def F.IPM_TX_STATUS_STATE : Field := ⟨R.IPM_TX_STATUS, 0, 2, .ro, .c 0, .any⟩
def F.IPM_TX_STATUS_RED_ON : Field := ⟨R.IPM_TX_STATUS, 2, 1, .ro, .c 0, .any⟩
def F.IPM_TX_STATUS_BLUE_ON : Field := ⟨R.IPM_TX_STATUS, 3, 1, .ro, .c 0, .any⟩
def W.IPM_TX_STATUS : List Field := [F.IPM_TX_STATUS_STATE, F.IPM_TX_STATUS_RED_ON, F.IPM_TX_STATUS_BLUE_ON]
/-- `IPM_TX_HIST` (R259). -/
def R.IPM_TX_HIST : Reg := ⟨0x0820008, 64, 768, 0, 1⟩
def F.IPM_TX_HIST_STARTED : Field := ⟨R.IPM_TX_HIST, 0, 1, .w1c, .c 0, .any⟩
def F.IPM_TX_HIST_STOPPED : Field := ⟨R.IPM_TX_HIST, 1, 1, .w1c, .c 0, .any⟩
def F.IPM_TX_HIST_NOSRC_ENTERED : Field := ⟨R.IPM_TX_HIST, 2, 1, .w1c, .c 0, .any⟩
def F.IPM_TX_HIST_LINE_SUBST : Field := ⟨R.IPM_TX_HIST, 3, 1, .w1c, .c 0, .any⟩
def F.IPM_TX_HIST_PKT_DROP : Field := ⟨R.IPM_TX_HIST, 4, 1, .w1c, .c 0, .any⟩
def F.IPM_TX_HIST_ANC_OVF : Field := ⟨R.IPM_TX_HIST, 5, 1, .w1c, .c 0, .any⟩
def F.IPM_TX_HIST_CFG_REJECTED : Field := ⟨R.IPM_TX_HIST, 6, 1, .w1c, .c 0, .any⟩
def W.IPM_TX_HIST : List Field := [F.IPM_TX_HIST_STARTED, F.IPM_TX_HIST_STOPPED, F.IPM_TX_HIST_NOSRC_ENTERED, F.IPM_TX_HIST_LINE_SUBST, F.IPM_TX_HIST_PKT_DROP, F.IPM_TX_HIST_ANC_OVF, F.IPM_TX_HIST_CFG_REJECTED]
/-- `IPM_TX_IRQ_EN` (R259). -/
def R.IPM_TX_IRQ_EN : Reg := ⟨0x082000C, 64, 768, 0, 1⟩
def F.IPM_TX_IRQ_EN_EN : Field := ⟨R.IPM_TX_IRQ_EN, 0, 7, .rw, .c 0, .any⟩
def W.IPM_TX_IRQ_EN : List Field := [F.IPM_TX_IRQ_EN_EN]
/-- `IPM_TX_SSRC` (R259). -/
def R.IPM_TX_SSRC : Reg := ⟨0x0820010, 64, 768, 0, 1⟩
def F.IPM_TX_SSRC_SSRC : Field := ⟨R.IPM_TX_SSRC, 0, 32, .rw, .c 0, .any⟩
def W.IPM_TX_SSRC : List Field := [F.IPM_TX_SSRC_SSRC]
/-- `IPM_TX_TRO` (R259). -/
def R.IPM_TX_TRO : Reg := ⟨0x0820014, 64, 768, 0, 1⟩
def F.IPM_TX_TRO_TRO : Field := ⟨R.IPM_TX_TRO, 0, 32, .rw, .c 0, .any⟩
def W.IPM_TX_TRO : List Field := [F.IPM_TX_TRO_TRO]
/-- `IPM_TX_PKT_CNT` (R259). -/
def R.IPM_TX_PKT_CNT : Reg := ⟨0x0820018, 64, 768, 0, 1⟩
def F.IPM_TX_PKT_CNT_COUNT : Field := ⟨R.IPM_TX_PKT_CNT, 0, 32, .rcl, .c 0, .any⟩
def W.IPM_TX_PKT_CNT : List Field := [F.IPM_TX_PKT_CNT_COUNT]
/-- `IPM_TX_DROP_CNT` (R259). -/
def R.IPM_TX_DROP_CNT : Reg := ⟨0x082001C, 64, 768, 0, 1⟩
def F.IPM_TX_DROP_CNT_COUNT : Field := ⟨R.IPM_TX_DROP_CNT, 0, 32, .rcl, .c 0, .any⟩
def W.IPM_TX_DROP_CNT : List Field := [F.IPM_TX_DROP_CNT_COUNT]
/-- `IPM_TX_SUBST_CNT` (R259). -/
def R.IPM_TX_SUBST_CNT : Reg := ⟨0x0820020, 64, 768, 0, 1⟩
def F.IPM_TX_SUBST_CNT_COUNT : Field := ⟨R.IPM_TX_SUBST_CNT, 0, 32, .rcl, .c 0, .any⟩
def W.IPM_TX_SUBST_CNT : List Field := [F.IPM_TX_SUBST_CNT_COUNT]
/-- `IPM_TX_SEQ` (R259). -/
def R.IPM_TX_SEQ : Reg := ⟨0x0820024, 64, 768, 0, 1⟩
def F.IPM_TX_SEQ_SEQ : Field := ⟨R.IPM_TX_SEQ, 0, 32, .ro, .c 0, .any⟩
def W.IPM_TX_SEQ : List Field := [F.IPM_TX_SEQ_SEQ]
def fieldsIPM0 : List Field := [F.IPM_CFG_LEG_TMO, F.IPM_RX_CFG_EN, F.IPM_RX_CFG_KIND, F.IPM_RX_CFG_PAIR, F.IPM_RX_CFG_RED_EN, F.IPM_RX_CFG_BLUE_EN, F.IPM_RX_CFG_FORMAT, F.IPM_RX_CFG_MERGE_WIN, F.IPM_RX_STATUS_RED_UP, F.IPM_RX_STATUS_BLUE_UP, F.IPM_RX_STATUS_STATE, F.IPM_RX_HIST_RED_LOST, F.IPM_RX_HIST_BLUE_LOST, F.IPM_RX_HIST_FLOW_LOST, F.IPM_RX_HIST_LATE_PKT, F.IPM_RX_HIST_INCOMPLETE, F.IPM_RX_HIST_FMT_ERR, F.IPM_RX_HIST_CFG_REJECTED, F.IPM_RX_IRQ_EN_EN, F.IPM_RX_PKT_CNT_COUNT, F.IPM_RX_DUP_CNT_COUNT, F.IPM_RX_LATE_CNT_COUNT, F.IPM_RX_LOST_CNT_COUNT, F.IPM_RX_FMT_CNT_COUNT, F.IPM_RX_TS_TS, F.IPM_RX_SKEW_SKEW, F.IPM_TX_CFG_EN, F.IPM_TX_CFG_KIND, F.IPM_TX_CFG_PAIR, F.IPM_TX_CFG_LEGS, F.IPM_TX_CFG_SENDER, F.IPM_TX_CFG_FORMAT, F.IPM_TX_CFG_PTIME, F.IPM_TX_CFG_VLAN_EN, F.IPM_TX_CFG_ANC_PKTS, F.IPM_TX_CFG_NOSRC, F.IPM_TX_CFG_OSTAMP_EN, F.IPM_TX_STATUS_STATE, F.IPM_TX_STATUS_RED_ON, F.IPM_TX_STATUS_BLUE_ON]
def fieldsIPM1 : List Field := [F.IPM_TX_HIST_STARTED, F.IPM_TX_HIST_STOPPED, F.IPM_TX_HIST_NOSRC_ENTERED, F.IPM_TX_HIST_LINE_SUBST, F.IPM_TX_HIST_PKT_DROP, F.IPM_TX_HIST_ANC_OVF, F.IPM_TX_HIST_CFG_REJECTED, F.IPM_TX_IRQ_EN_EN, F.IPM_TX_SSRC_SSRC, F.IPM_TX_TRO_TRO, F.IPM_TX_PKT_CNT_COUNT, F.IPM_TX_DROP_CNT_COUNT, F.IPM_TX_SUBST_CNT_COUNT, F.IPM_TX_SEQ_SEQ]
/-- Every field of block IPM. -/
def fieldsIPM : List Field := fieldsIPM0 ++ fieldsIPM1

/-! ### STALL -/

/-- `STALL_CFG` (R300). -/
def R.STALL_CFG : Reg := ⟨0x0900100, 0, 1, 0, 1⟩
def F.STALL_CFG_ABS_MODE : Field := ⟨R.STALL_CFG, 0, 2, .rw, .c 0, .subst 0 2 0⟩
def F.STALL_CFG_ABS_TRUSTED : Field := ⟨R.STALL_CFG, 2, 1, .ro, .c 0, .any⟩
def W.STALL_CFG : List Field := [F.STALL_CFG_ABS_MODE, F.STALL_CFG_ABS_TRUSTED]
/-- `YARD_REGION` (R300). -/
def R.YARD_REGION : Reg := ⟨0x0900110, 4, 5, 0, 1⟩
def F.YARD_REGION_BASE : Field := ⟨R.YARD_REGION, 0, 8, .ro, .special, .any⟩
def F.YARD_REGION_SIZE : Field := ⟨R.YARD_REGION, 8, 8, .ro, .special, .any⟩
def W.YARD_REGION : List Field := [F.YARD_REGION_BASE, F.YARD_REGION_SIZE]
/-- `FRESH_HIST_ENTER` (R300). -/
def R.FRESH_HIST_ENTER : Reg := ⟨0x0900200, 4, 24, 0, 1⟩
def F.FRESH_HIST_ENTER_ENTER : Field := ⟨R.FRESH_HIST_ENTER, 0, 32, .w1c, .c 0, .any⟩
def W.FRESH_HIST_ENTER : List Field := [F.FRESH_HIST_ENTER_ENTER]
/-- `FRESH_HIST_EXIT` (R300). -/
def R.FRESH_HIST_EXIT : Reg := ⟨0x0900280, 4, 24, 0, 1⟩
def F.FRESH_HIST_EXIT_EXIT : Field := ⟨R.FRESH_HIST_EXIT, 0, 32, .w1c, .c 0, .any⟩
def W.FRESH_HIST_EXIT : List Field := [F.FRESH_HIST_EXIT_EXIT]
/-- `FRESH_IRQ_EN` (R300). -/
def R.FRESH_IRQ_EN : Reg := ⟨0x0900300, 4, 24, 0, 1⟩
def F.FRESH_IRQ_EN_EN : Field := ⟨R.FRESH_IRQ_EN, 0, 32, .rw, .c 0, .any⟩
def W.FRESH_IRQ_EN : List Field := [F.FRESH_IRQ_EN_EN]
/-- `STALL_PEND` (R300). -/
def R.STALL_PEND : Reg := ⟨0x0900380, 4, 10, 0, 1⟩
def F.STALL_PEND_PEND : Field := ⟨R.STALL_PEND, 0, 32, .ro, .c 0, .any⟩
def W.STALL_PEND : List Field := [F.STALL_PEND_PEND]
/-- `STALL_CTRL` (R300). -/
def R.STALL_CTRL : Reg := ⟨0x0901000, 64, 320, 0, 1⟩
def F.STALL_CTRL_EN : Field := ⟨R.STALL_CTRL, 0, 1, .rw, .c 0, .any⟩
def F.STALL_CTRL_MODE : Field := ⟨R.STALL_CTRL, 1, 1, .rw, .c 0, .any⟩
def F.STALL_CTRL_TL : Field := ⟨R.STALL_CTRL, 2, 1, .rw, .c 1, .any⟩
def F.STALL_CTRL_LL_FALLBACK : Field := ⟨R.STALL_CTRL, 3, 1, .rw, .c 1, .any⟩
def F.STALL_CTRL_INCOMPLETE_USE : Field := ⟨R.STALL_CTRL, 4, 1, .rw, .c 0, .any⟩
def F.STALL_CTRL_INHERIT_STALE : Field := ⟨R.STALL_CTRL, 5, 1, .rw, .c 1, .any⟩
def F.STALL_CTRL_ORIGIN_MODE : Field := ⟨R.STALL_CTRL, 6, 3, .rw, .c 0, .subst 0 4 0⟩
def F.STALL_CTRL_LOS_ACTION : Field := ⟨R.STALL_CTRL, 9, 2, .rw, .c 0, .subst 0 2 0⟩
def F.STALL_CTRL_CLASS : Field := ⟨R.STALL_CTRL, 11, 3, .rw, .c 3, .range 0 4⟩
def F.STALL_CTRL_LOS_HOLD : Field := ⟨R.STALL_CTRL, 16, 8, .rw, .c 25, .range 1 255⟩
def W.STALL_CTRL : List Field := [F.STALL_CTRL_EN, F.STALL_CTRL_MODE, F.STALL_CTRL_TL, F.STALL_CTRL_LL_FALLBACK, F.STALL_CTRL_INCOMPLETE_USE, F.STALL_CTRL_INHERIT_STALE, F.STALL_CTRL_ORIGIN_MODE, F.STALL_CTRL_LOS_ACTION, F.STALL_CTRL_CLASS, F.STALL_CTRL_LOS_HOLD]
/-- `STALL_BASE` (R300). -/
def R.STALL_BASE : Reg := ⟨0x0901004, 64, 320, 0, 1⟩
def F.STALL_BASE_BASE : Field := ⟨R.STALL_BASE, 0, 18, .rw, .special, .any⟩
def W.STALL_BASE : List Field := [F.STALL_BASE_BASE]
/-- `STALL_ORIGIN_OFS` (R300). -/
def R.STALL_ORIGIN_OFS : Reg := ⟨0x0901008, 64, 320, 0, 1⟩
def F.STALL_ORIGIN_OFS_ORIGIN_OFS : Field := ⟨R.STALL_ORIGIN_OFS, 0, 32, .rw, .c 0, .any⟩
def W.STALL_ORIGIN_OFS : List Field := [F.STALL_ORIGIN_OFS_ORIGIN_OFS]
/-- `STALL_STATUS` (R300). -/
def R.STALL_STATUS : Reg := ⟨0x090100C, 64, 320, 0, 1⟩
def F.STALL_STATUS_STATE : Field := ⟨R.STALL_STATUS, 0, 2, .ro, .c 0, .any⟩
def F.STALL_STATUS_LATCHED : Field := ⟨R.STALL_STATUS, 2, 2, .ro, .c 0, .any⟩
def F.STALL_STATUS_LL_ACTIVE : Field := ⟨R.STALL_STATUS, 4, 1, .ro, .c 0, .any⟩
def F.STALL_STATUS_UNTRUSTED : Field := ⟨R.STALL_STATUS, 5, 1, .ro, .c 0, .any⟩
def F.STALL_STATUS_ORIGIN_KIND : Field := ⟨R.STALL_STATUS, 6, 2, .ro, .c 0, .any⟩
def F.STALL_STATUS_LL_PHASE : Field := ⟨R.STALL_STATUS, 16, 16, .ro, .c 0, .any⟩
def W.STALL_STATUS : List Field := [F.STALL_STATUS_STATE, F.STALL_STATUS_LATCHED, F.STALL_STATUS_LL_ACTIVE, F.STALL_STATUS_UNTRUSTED, F.STALL_STATUS_ORIGIN_KIND, F.STALL_STATUS_LL_PHASE]
/-- `STALL_HIST` (R300). -/
def R.STALL_HIST : Reg := ⟨0x0901010, 64, 320, 0, 1⟩
def F.STALL_HIST_FIRST_FRAME : Field := ⟨R.STALL_HIST, 0, 1, .w1c, .c 0, .any⟩
def F.STALL_HIST_LOS_ENTERED : Field := ⟨R.STALL_HIST, 1, 1, .w1c, .c 0, .any⟩
def F.STALL_HIST_LOS_LEFT : Field := ⟨R.STALL_HIST, 2, 1, .w1c, .c 0, .any⟩
def F.STALL_HIST_DROPPED : Field := ⟨R.STALL_HIST, 3, 1, .w1c, .c 0, .any⟩
def F.STALL_HIST_INCOMPLETE : Field := ⟨R.STALL_HIST, 4, 1, .w1c, .c 0, .any⟩
def F.STALL_HIST_CLASS_ERR : Field := ⟨R.STALL_HIST, 5, 1, .w1c, .c 0, .any⟩
def F.STALL_HIST_LL_PHASE_ERR : Field := ⟨R.STALL_HIST, 6, 1, .w1c, .c 0, .any⟩
def F.STALL_HIST_LL_FELL_BACK : Field := ⟨R.STALL_HIST, 7, 1, .w1c, .c 0, .any⟩
def F.STALL_HIST_ORIGIN_AHEAD : Field := ⟨R.STALL_HIST, 8, 1, .w1c, .c 0, .any⟩
def F.STALL_HIST_STAMP_ERR : Field := ⟨R.STALL_HIST, 9, 1, .w1c, .c 0, .any⟩
def F.STALL_HIST_CFG_REJECTED : Field := ⟨R.STALL_HIST, 10, 1, .w1c, .c 0, .any⟩
def W.STALL_HIST : List Field := [F.STALL_HIST_FIRST_FRAME, F.STALL_HIST_LOS_ENTERED, F.STALL_HIST_LOS_LEFT, F.STALL_HIST_DROPPED, F.STALL_HIST_INCOMPLETE, F.STALL_HIST_CLASS_ERR, F.STALL_HIST_LL_PHASE_ERR, F.STALL_HIST_LL_FELL_BACK, F.STALL_HIST_ORIGIN_AHEAD, F.STALL_HIST_STAMP_ERR, F.STALL_HIST_CFG_REJECTED]
/-- `STALL_IRQ_EN` (R300). -/
def R.STALL_IRQ_EN : Reg := ⟨0x0901014, 64, 320, 0, 1⟩
def F.STALL_IRQ_EN_EN : Field := ⟨R.STALL_IRQ_EN, 0, 11, .rw, .c 0, .any⟩
def W.STALL_IRQ_EN : List Field := [F.STALL_IRQ_EN_EN]
/-- `STALL_REPEAT_CNT` (R300). -/
def R.STALL_REPEAT_CNT : Reg := ⟨0x0901018, 64, 320, 0, 1⟩
def F.STALL_REPEAT_CNT_COUNT : Field := ⟨R.STALL_REPEAT_CNT, 0, 32, .rcl, .c 0, .any⟩
def W.STALL_REPEAT_CNT : List Field := [F.STALL_REPEAT_CNT_COUNT]
/-- `STALL_DROP_CNT` (R300). -/
def R.STALL_DROP_CNT : Reg := ⟨0x090101C, 64, 320, 0, 1⟩
def F.STALL_DROP_CNT_COUNT : Field := ⟨R.STALL_DROP_CNT, 0, 32, .rcl, .c 0, .any⟩
def W.STALL_DROP_CNT : List Field := [F.STALL_DROP_CNT_COUNT]
/-- `STALL_INCOMPLETE_CNT` (R300). -/
def R.STALL_INCOMPLETE_CNT : Reg := ⟨0x0901020, 64, 320, 0, 1⟩
def F.STALL_INCOMPLETE_CNT_COUNT : Field := ⟨R.STALL_INCOMPLETE_CNT, 0, 32, .rcl, .c 0, .any⟩
def W.STALL_INCOMPLETE_CNT : List Field := [F.STALL_INCOMPLETE_CNT_COUNT]
/-- `STALL_STAMP_ERR_CNT` (R300). -/
def R.STALL_STAMP_ERR_CNT : Reg := ⟨0x0901024, 64, 320, 0, 1⟩
def F.STALL_STAMP_ERR_CNT_COUNT : Field := ⟨R.STALL_STAMP_ERR_CNT, 0, 32, .rcl, .c 0, .any⟩
def W.STALL_STAMP_ERR_CNT : List Field := [F.STALL_STAMP_ERR_CNT_COUNT]
/-- `STALL_FSEQ_LO` (R300). -/
def R.STALL_FSEQ_LO : Reg := ⟨0x0901028, 64, 320, 0, 1⟩
def F.STALL_FSEQ_LO_FSEQ : Field := ⟨R.STALL_FSEQ_LO, 0, 32, .ro, .c 0, .any⟩
def W.STALL_FSEQ_LO : List Field := [F.STALL_FSEQ_LO_FSEQ]
/-- `STALL_FSEQ_HI` (R300). -/
def R.STALL_FSEQ_HI : Reg := ⟨0x090102C, 64, 320, 0, 1⟩
def F.STALL_FSEQ_HI_FSEQ : Field := ⟨R.STALL_FSEQ_HI, 0, 16, .ro, .c 0, .any⟩
def W.STALL_FSEQ_HI : List Field := [F.STALL_FSEQ_HI_FSEQ]
/-- `STALL_SIG_LO` (R300). -/
def R.STALL_SIG_LO : Reg := ⟨0x0901030, 64, 320, 0, 1⟩
def F.STALL_SIG_LO_SIG : Field := ⟨R.STALL_SIG_LO, 0, 32, .ro, .c 0, .any⟩
def W.STALL_SIG_LO : List Field := [F.STALL_SIG_LO_SIG]
/-- `STALL_SIG_HI` (R300). -/
def R.STALL_SIG_HI : Reg := ⟨0x0901034, 64, 320, 0, 1⟩
def F.STALL_SIG_HI_SIG : Field := ⟨R.STALL_SIG_HI, 0, 32, .ro, .c 0, .any⟩
def W.STALL_SIG_HI : List Field := [F.STALL_SIG_HI_SIG]
/-- `FRESH_CFG` (R300). -/
def R.FRESH_CFG : Reg := ⟨0x0920000, 32, 768, 0, 1⟩
def F.FRESH_CFG_EN : Field := ⟨R.FRESH_CFG, 0, 1, .rw, .c 1, .any⟩
def F.FRESH_CFG_AGE_EN : Field := ⟨R.FRESH_CFG, 1, 1, .rw, .c 1, .any⟩
def F.FRESH_CFG_LIVE_EN : Field := ⟨R.FRESH_CFG, 2, 1, .rw, .c 1, .any⟩
def F.FRESH_CFG_LOS_EN : Field := ⟨R.FRESH_CFG, 3, 1, .rw, .c 1, .any⟩
def F.FRESH_CFG_STAMP_EN : Field := ⟨R.FRESH_CFG, 4, 1, .rw, .c 1, .any⟩
def F.FRESH_CFG_WATCH_MASK : Field := ⟨R.FRESH_CFG, 5, 4, .rw, .c 0, .any⟩
def F.FRESH_CFG_ENTER_N : Field := ⟨R.FRESH_CFG, 9, 4, .rw, .c 1, .range 1 15⟩
def F.FRESH_CFG_EXIT_N : Field := ⟨R.FRESH_CFG, 13, 8, .rw, .c 10, .range 1 255⟩
def F.FRESH_CFG_EXIT_PCT : Field := ⟨R.FRESH_CFG, 21, 6, .rw, .c 10, .range 0 50⟩
def W.FRESH_CFG : List Field := [F.FRESH_CFG_EN, F.FRESH_CFG_AGE_EN, F.FRESH_CFG_LIVE_EN, F.FRESH_CFG_LOS_EN, F.FRESH_CFG_STAMP_EN, F.FRESH_CFG_WATCH_MASK, F.FRESH_CFG_ENTER_N, F.FRESH_CFG_EXIT_N, F.FRESH_CFG_EXIT_PCT]
/-- `FRESH_LIMIT` (R300). -/
def R.FRESH_LIMIT : Reg := ⟨0x0920004, 32, 768, 0, 1⟩
def F.FRESH_LIMIT_LIMIT_US : Field := ⟨R.FRESH_LIMIT, 0, 26, .rw, .c 100000, .range 1000 60000000⟩
def W.FRESH_LIMIT : List Field := [F.FRESH_LIMIT_LIMIT_US]
/-- `FRESH_LIVE` (R300). -/
def R.FRESH_LIVE : Reg := ⟨0x0920008, 32, 768, 0, 1⟩
def F.FRESH_LIVE_LIVE_FRAMES : Field := ⟨R.FRESH_LIVE, 0, 8, .rw, .c 6, .range 1 255⟩
def W.FRESH_LIVE : List Field := [F.FRESH_LIVE_LIVE_FRAMES]
/-- `FRESH_STATUS` (R300). -/
def R.FRESH_STATUS : Reg := ⟨0x092000C, 32, 768, 0, 1⟩
def F.FRESH_STATUS_STALE : Field := ⟨R.FRESH_STATUS, 0, 1, .ro, .c 0, .any⟩
def F.FRESH_STATUS_REASON : Field := ⟨R.FRESH_STATUS, 1, 5, .ro, .c 0, .any⟩
def F.FRESH_STATUS_FAIL_RUN : Field := ⟨R.FRESH_STATUS, 8, 4, .ro, .c 0, .any⟩
def F.FRESH_STATUS_PASS_RUN : Field := ⟨R.FRESH_STATUS, 12, 8, .ro, .c 0, .any⟩
def W.FRESH_STATUS : List Field := [F.FRESH_STATUS_STALE, F.FRESH_STATUS_REASON, F.FRESH_STATUS_FAIL_RUN, F.FRESH_STATUS_PASS_RUN]
/-- `FRESH_AGE` (R300). -/
def R.FRESH_AGE : Reg := ⟨0x0920010, 32, 768, 0, 1⟩
def F.FRESH_AGE_AGE : Field := ⟨R.FRESH_AGE, 0, 32, .ro, .c 0, .any⟩
def W.FRESH_AGE : List Field := [F.FRESH_AGE_AGE]
/-- `FRESH_ENTER_CNT` (R300). -/
def R.FRESH_ENTER_CNT : Reg := ⟨0x0920014, 32, 768, 0, 1⟩
def F.FRESH_ENTER_CNT_COUNT : Field := ⟨R.FRESH_ENTER_CNT, 0, 32, .rcl, .c 0, .any⟩
def W.FRESH_ENTER_CNT : List Field := [F.FRESH_ENTER_CNT_COUNT]
/-- `FRESH_EDGE_FRAME` (R300). -/
def R.FRESH_EDGE_FRAME : Reg := ⟨0x0920018, 32, 768, 0, 1⟩
def F.FRESH_EDGE_FRAME_FRAME : Field := ⟨R.FRESH_EDGE_FRAME, 0, 32, .ro, .c 0, .any⟩
def W.FRESH_EDGE_FRAME : List Field := [F.FRESH_EDGE_FRAME_FRAME]
/-- `WATCH_CFG` (R300). -/
def R.WATCH_CFG : Reg := ⟨0x0940000, 64, 1280, 16, 4⟩
def F.WATCH_CFG_EN : Field := ⟨R.WATCH_CFG, 0, 1, .rw, .c 0, .any⟩
def F.WATCH_CFG_WATCH_N : Field := ⟨R.WATCH_CFG, 16, 16, .rw, .c 90, .range 1 65535⟩
def W.WATCH_CFG : List Field := [F.WATCH_CFG_EN, F.WATCH_CFG_WATCH_N]
/-- `WATCH_XY` (R300). -/
def R.WATCH_XY : Reg := ⟨0x0940004, 64, 1280, 16, 4⟩
def F.WATCH_XY_X : Field := ⟨R.WATCH_XY, 0, 12, .rw, .c 0, .any⟩
def F.WATCH_XY_Y : Field := ⟨R.WATCH_XY, 16, 12, .rw, .c 0, .any⟩
def W.WATCH_XY : List Field := [F.WATCH_XY_X, F.WATCH_XY_Y]
/-- `WATCH_WH` (R300). -/
def R.WATCH_WH : Reg := ⟨0x0940008, 64, 1280, 16, 4⟩
def F.WATCH_WH_W : Field := ⟨R.WATCH_WH, 0, 12, .rw, .c 1, .range 1 4095⟩
def F.WATCH_WH_H : Field := ⟨R.WATCH_WH, 16, 12, .rw, .c 1, .range 1 4095⟩
def W.WATCH_WH : List Field := [F.WATCH_WH_W, F.WATCH_WH_H]
/-- `WATCH_STATUS` (R300). -/
def R.WATCH_STATUS : Reg := ⟨0x094000C, 64, 1280, 16, 4⟩
def F.WATCH_STATUS_UNCHANGED : Field := ⟨R.WATCH_STATUS, 0, 16, .ro, .c 0, .any⟩
def F.WATCH_STATUS_FROZEN : Field := ⟨R.WATCH_STATUS, 16, 1, .ro, .c 0, .any⟩
def W.WATCH_STATUS : List Field := [F.WATCH_STATUS_UNCHANGED, F.WATCH_STATUS_FROZEN]
def fieldsSTALL0 : List Field := [F.STALL_CFG_ABS_MODE, F.STALL_CFG_ABS_TRUSTED, F.YARD_REGION_BASE, F.YARD_REGION_SIZE, F.FRESH_HIST_ENTER_ENTER, F.FRESH_HIST_EXIT_EXIT, F.FRESH_IRQ_EN_EN, F.STALL_PEND_PEND, F.STALL_CTRL_EN, F.STALL_CTRL_MODE, F.STALL_CTRL_TL, F.STALL_CTRL_LL_FALLBACK, F.STALL_CTRL_INCOMPLETE_USE, F.STALL_CTRL_INHERIT_STALE, F.STALL_CTRL_ORIGIN_MODE, F.STALL_CTRL_LOS_ACTION, F.STALL_CTRL_CLASS, F.STALL_CTRL_LOS_HOLD, F.STALL_BASE_BASE, F.STALL_ORIGIN_OFS_ORIGIN_OFS, F.STALL_STATUS_STATE, F.STALL_STATUS_LATCHED, F.STALL_STATUS_LL_ACTIVE, F.STALL_STATUS_UNTRUSTED, F.STALL_STATUS_ORIGIN_KIND, F.STALL_STATUS_LL_PHASE, F.STALL_HIST_FIRST_FRAME, F.STALL_HIST_LOS_ENTERED, F.STALL_HIST_LOS_LEFT, F.STALL_HIST_DROPPED, F.STALL_HIST_INCOMPLETE, F.STALL_HIST_CLASS_ERR, F.STALL_HIST_LL_PHASE_ERR, F.STALL_HIST_LL_FELL_BACK, F.STALL_HIST_ORIGIN_AHEAD, F.STALL_HIST_STAMP_ERR, F.STALL_HIST_CFG_REJECTED, F.STALL_IRQ_EN_EN, F.STALL_REPEAT_CNT_COUNT, F.STALL_DROP_CNT_COUNT]
def fieldsSTALL1 : List Field := [F.STALL_INCOMPLETE_CNT_COUNT, F.STALL_STAMP_ERR_CNT_COUNT, F.STALL_FSEQ_LO_FSEQ, F.STALL_FSEQ_HI_FSEQ, F.STALL_SIG_LO_SIG, F.STALL_SIG_HI_SIG, F.FRESH_CFG_EN, F.FRESH_CFG_AGE_EN, F.FRESH_CFG_LIVE_EN, F.FRESH_CFG_LOS_EN, F.FRESH_CFG_STAMP_EN, F.FRESH_CFG_WATCH_MASK, F.FRESH_CFG_ENTER_N, F.FRESH_CFG_EXIT_N, F.FRESH_CFG_EXIT_PCT, F.FRESH_LIMIT_LIMIT_US, F.FRESH_LIVE_LIVE_FRAMES, F.FRESH_STATUS_STALE, F.FRESH_STATUS_REASON, F.FRESH_STATUS_FAIL_RUN, F.FRESH_STATUS_PASS_RUN, F.FRESH_AGE_AGE, F.FRESH_ENTER_CNT_COUNT, F.FRESH_EDGE_FRAME_FRAME, F.WATCH_CFG_EN, F.WATCH_CFG_WATCH_N, F.WATCH_XY_X, F.WATCH_XY_Y, F.WATCH_WH_W, F.WATCH_WH_H, F.WATCH_STATUS_UNCHANGED, F.WATCH_STATUS_FROZEN]
/-- Every field of block STALL. -/
def fieldsSTALL : List Field := fieldsSTALL0 ++ fieldsSTALL1

/-! ### FAB -/

/-- `FAB_CFG` (R343). -/
def R.FAB_CFG : Reg := ⟨0x0A00100, 0, 1, 0, 1⟩
def F.FAB_CFG_N : Field := ⟨R.FAB_CFG, 0, 5, .rw, .c 0, .any⟩
def F.FAB_CFG_AUTH_MODE : Field := ⟨R.FAB_CFG, 5, 1, .rw, .c 0, .any⟩
def F.FAB_CFG_AUTO_GROW : Field := ⟨R.FAB_CFG, 6, 1, .rw, .c 1, .any⟩
def F.FAB_CFG_REVERT : Field := ⟨R.FAB_CFG, 7, 1, .rw, .c 1, .any⟩
def F.FAB_CFG_HOLD_MS : Field := ⟨R.FAB_CFG, 16, 16, .rw, .c 1000, .subst 1 65535 10⟩
def W.FAB_CFG : List Field := [F.FAB_CFG_N, F.FAB_CFG_AUTH_MODE, F.FAB_CFG_AUTO_GROW, F.FAB_CFG_REVERT, F.FAB_CFG_HOLD_MS]
/-- `FAB_CFG2` (R343). -/
def R.FAB_CFG2 : Reg := ⟨0x0A00104, 0, 1, 0, 1⟩
def F.FAB_CFG2_REROUTE_MS : Field := ⟨R.FAB_CFG2, 0, 16, .rw, .c 50, .range 1 65535⟩
def F.FAB_CFG2_REVERT_S : Field := ⟨R.FAB_CFG2, 16, 16, .rw, .c 10, .range 1 65535⟩
def W.FAB_CFG2 : List Field := [F.FAB_CFG2_REROUTE_MS, F.FAB_CFG2_REVERT_S]
/-- `FAB_ID` (R343). -/
def R.FAB_ID : Reg := ⟨0x0A00108, 0, 1, 0, 1⟩
def F.FAB_ID_FAB_ID : Field := ⟨R.FAB_ID, 0, 5, .ro, .special, .any⟩
def F.FAB_ID_ID_INVALID : Field := ⟨R.FAB_ID, 5, 1, .ro, .special, .any⟩
def W.FAB_ID : List Field := [F.FAB_ID_FAB_ID, F.FAB_ID_ID_INVALID]
/-- `FAB_TAG` (R343). -/
def R.FAB_TAG : Reg := ⟨0x0A0010C, 0, 1, 0, 1⟩
def F.FAB_TAG_TAG : Field := ⟨R.FAB_TAG, 0, 32, .rw, .c 0, .any⟩
def W.FAB_TAG : List Field := [F.FAB_TAG_TAG]
/-- `FAB_EPOCH` (R343). -/
def R.FAB_EPOCH : Reg := ⟨0x0A00110, 0, 1, 0, 1⟩
def F.FAB_EPOCH_EPOCH : Field := ⟨R.FAB_EPOCH, 0, 32, .ro, .special, .any⟩
def W.FAB_EPOCH : List Field := [F.FAB_EPOCH_EPOCH]
/-- `FAB_PEND` (R343). -/
def R.FAB_PEND : Reg := ⟨0x0A00120, 0, 1, 0, 1⟩
def F.FAB_PEND_PEND : Field := ⟨R.FAB_PEND, 0, 17, .ro, .c 0, .any⟩
def W.FAB_PEND : List Field := [F.FAB_PEND_PEND]
/-- `FAB_RX_PEND` (R343). -/
def R.FAB_RX_PEND : Reg := ⟨0x0A00140, 4, 10, 0, 1⟩
def F.FAB_RX_PEND_PEND : Field := ⟨R.FAB_RX_PEND, 0, 32, .ro, .c 0, .any⟩
def W.FAB_RX_PEND : List Field := [F.FAB_RX_PEND_PEND]
/-- `FAB_PORT_STATUS` (R343). -/
def R.FAB_PORT_STATUS : Reg := ⟨0x0A01000, 256, 17, 0, 1⟩
def F.FAB_PORT_STATUS_PEER_STATE : Field := ⟨R.FAB_PORT_STATUS, 0, 3, .ro, .c 0, .any⟩
def F.FAB_PORT_STATUS_PEER_ID : Field := ⟨R.FAB_PORT_STATUS, 3, 5, .ro, .c 0, .any⟩
def F.FAB_PORT_STATUS_PEER_VALID : Field := ⟨R.FAB_PORT_STATUS, 8, 1, .ro, .c 0, .any⟩
def F.FAB_PORT_STATUS_RATE : Field := ⟨R.FAB_PORT_STATUS, 9, 3, .ro, .c 0, .any⟩
def F.FAB_PORT_STATUS_MEDIA_SEATS : Field := ⟨R.FAB_PORT_STATUS, 16, 10, .ro, .c 0, .any⟩
def W.FAB_PORT_STATUS : List Field := [F.FAB_PORT_STATUS_PEER_STATE, F.FAB_PORT_STATUS_PEER_ID, F.FAB_PORT_STATUS_PEER_VALID, F.FAB_PORT_STATUS_RATE, F.FAB_PORT_STATUS_MEDIA_SEATS]
/-- `FAB_PORT_SEATS` (R343). -/
def R.FAB_PORT_SEATS : Reg := ⟨0x0A01004, 256, 17, 0, 1⟩
def F.FAB_PORT_SEATS_TX_GRANTED : Field := ⟨R.FAB_PORT_SEATS, 0, 10, .ro, .c 0, .any⟩
def F.FAB_PORT_SEATS_RX_GRANTED : Field := ⟨R.FAB_PORT_SEATS, 16, 10, .ro, .c 0, .any⟩
def W.FAB_PORT_SEATS : List Field := [F.FAB_PORT_SEATS_TX_GRANTED, F.FAB_PORT_SEATS_RX_GRANTED]
/-- `FAB_PORT_HIST` (R343). -/
def R.FAB_PORT_HIST : Reg := ⟨0x0A01008, 256, 17, 0, 1⟩
def F.FAB_PORT_HIST_UP_GAINED : Field := ⟨R.FAB_PORT_HIST, 0, 1, .w1c, .c 0, .any⟩
def F.FAB_PORT_HIST_UP_LOST : Field := ⟨R.FAB_PORT_HIST, 1, 1, .w1c, .c 0, .any⟩
def F.FAB_PORT_HIST_WIRING_ERR : Field := ⟨R.FAB_PORT_HIST, 2, 1, .w1c, .c 0, .any⟩
def F.FAB_PORT_HIST_AUTH_FAIL : Field := ⟨R.FAB_PORT_HIST, 3, 1, .w1c, .c 0, .any⟩
def F.FAB_PORT_HIST_INCOMPATIBLE : Field := ⟨R.FAB_PORT_HIST, 4, 1, .w1c, .c 0, .any⟩
def F.FAB_PORT_HIST_SEAT_OVER : Field := ⟨R.FAB_PORT_HIST, 5, 1, .w1c, .c 0, .any⟩
def F.FAB_PORT_HIST_RELAY_FULL : Field := ⟨R.FAB_PORT_HIST, 6, 1, .w1c, .c 0, .any⟩
def F.FAB_PORT_HIST_NEW_EPOCH : Field := ⟨R.FAB_PORT_HIST, 7, 1, .w1c, .c 0, .any⟩
def W.FAB_PORT_HIST : List Field := [F.FAB_PORT_HIST_UP_GAINED, F.FAB_PORT_HIST_UP_LOST, F.FAB_PORT_HIST_WIRING_ERR, F.FAB_PORT_HIST_AUTH_FAIL, F.FAB_PORT_HIST_INCOMPATIBLE, F.FAB_PORT_HIST_SEAT_OVER, F.FAB_PORT_HIST_RELAY_FULL, F.FAB_PORT_HIST_NEW_EPOCH]
/-- `FAB_PORT_IRQ_EN` (R343). -/
def R.FAB_PORT_IRQ_EN : Reg := ⟨0x0A0100C, 256, 17, 0, 1⟩
def F.FAB_PORT_IRQ_EN_EN : Field := ⟨R.FAB_PORT_IRQ_EN, 0, 8, .rw, .c 0, .any⟩
def W.FAB_PORT_IRQ_EN : List Field := [F.FAB_PORT_IRQ_EN_EN]
/-- `FAB_TX_STROKE_CNT` (R343). -/
def R.FAB_TX_STROKE_CNT : Reg := ⟨0x0A01010, 256, 17, 0, 1⟩
def F.FAB_TX_STROKE_CNT_COUNT : Field := ⟨R.FAB_TX_STROKE_CNT, 0, 32, .rcl, .c 0, .any⟩
def W.FAB_TX_STROKE_CNT : List Field := [F.FAB_TX_STROKE_CNT_COUNT]
/-- `FAB_RX_STROKE_CNT` (R343). -/
def R.FAB_RX_STROKE_CNT : Reg := ⟨0x0A01014, 256, 17, 0, 1⟩
def F.FAB_RX_STROKE_CNT_COUNT : Field := ⟨R.FAB_RX_STROKE_CNT, 0, 32, .rcl, .c 0, .any⟩
def W.FAB_RX_STROKE_CNT : List Field := [F.FAB_RX_STROKE_CNT_COUNT]
/-- `FAB_TX_DROP_CNT` (R343). -/
def R.FAB_TX_DROP_CNT : Reg := ⟨0x0A01018, 256, 17, 0, 1⟩
def F.FAB_TX_DROP_CNT_COUNT : Field := ⟨R.FAB_TX_DROP_CNT, 0, 32, .rcl, .c 0, .any⟩
def W.FAB_TX_DROP_CNT : List Field := [F.FAB_TX_DROP_CNT_COUNT]
/-- `FAB_RX_ERR_CNT` (R343). -/
def R.FAB_RX_ERR_CNT : Reg := ⟨0x0A0101C, 256, 17, 0, 1⟩
def F.FAB_RX_ERR_CNT_COUNT : Field := ⟨R.FAB_RX_ERR_CNT, 0, 32, .rcl, .c 0, .any⟩
def W.FAB_RX_ERR_CNT : List Field := [F.FAB_RX_ERR_CNT_COUNT]
/-- `FAB_RX_LATE_CNT` (R343). -/
def R.FAB_RX_LATE_CNT : Reg := ⟨0x0A01020, 256, 17, 0, 1⟩
def F.FAB_RX_LATE_CNT_COUNT : Field := ⟨R.FAB_RX_LATE_CNT, 0, 32, .rcl, .c 0, .any⟩
def W.FAB_RX_LATE_CNT : List Field := [F.FAB_RX_LATE_CNT_COUNT]
/-- `FAB_RX_EARLY_CNT` (R343). -/
def R.FAB_RX_EARLY_CNT : Reg := ⟨0x0A01024, 256, 17, 0, 1⟩
def F.FAB_RX_EARLY_CNT_COUNT : Field := ⟨R.FAB_RX_EARLY_CNT, 0, 32, .rcl, .c 0, .any⟩
def W.FAB_RX_EARLY_CNT : List Field := [F.FAB_RX_EARLY_CNT_COUNT]
/-- `FAB_RELAY_DROP_CNT` (R343). -/
def R.FAB_RELAY_DROP_CNT : Reg := ⟨0x0A01028, 256, 17, 0, 1⟩
def F.FAB_RELAY_DROP_CNT_COUNT : Field := ⟨R.FAB_RELAY_DROP_CNT, 0, 32, .rcl, .c 0, .any⟩
def W.FAB_RELAY_DROP_CNT : List Field := [F.FAB_RELAY_DROP_CNT_COUNT]
/-- `FAB_RX_STREAM` (R343). -/
def R.FAB_RX_STREAM : Reg := ⟨0x0A04000, 64, 320, 0, 1⟩
def F.FAB_RX_STREAM_STREAM : Field := ⟨R.FAB_RX_STREAM, 0, 14, .ro, .c 0, .any⟩
def F.FAB_RX_STREAM_EN : Field := ⟨R.FAB_RX_STREAM, 14, 1, .ro, .c 0, .any⟩
def F.FAB_RX_STREAM_COPIES : Field := ⟨R.FAB_RX_STREAM, 15, 2, .ro, .c 0, .any⟩
def F.FAB_RX_STREAM_UNPROTECTED : Field := ⟨R.FAB_RX_STREAM, 17, 1, .ro, .c 0, .any⟩
def F.FAB_RX_STREAM_OVER_CLASS : Field := ⟨R.FAB_RX_STREAM, 18, 1, .ro, .c 0, .any⟩
def W.FAB_RX_STREAM : List Field := [F.FAB_RX_STREAM_STREAM, F.FAB_RX_STREAM_EN, F.FAB_RX_STREAM_COPIES, F.FAB_RX_STREAM_UNPROTECTED, F.FAB_RX_STREAM_OVER_CLASS]
/-- `FAB_RX_HIST` (R343). -/
def R.FAB_RX_HIST : Reg := ⟨0x0A04004, 64, 320, 0, 1⟩
def F.FAB_RX_HIST_BOW_LOST : Field := ⟨R.FAB_RX_HIST, 0, 1, .w1c, .c 0, .any⟩
def F.FAB_RX_HIST_STERN_LOST : Field := ⟨R.FAB_RX_HIST, 1, 1, .w1c, .c 0, .any⟩
def F.FAB_RX_HIST_BOTH_LOST : Field := ⟨R.FAB_RX_HIST, 2, 1, .w1c, .c 0, .any⟩
def F.FAB_RX_HIST_COPY_DIFF : Field := ⟨R.FAB_RX_HIST, 3, 1, .w1c, .c 0, .any⟩
def F.FAB_RX_HIST_OVER_CLASS : Field := ⟨R.FAB_RX_HIST, 4, 1, .w1c, .c 0, .any⟩
def W.FAB_RX_HIST : List Field := [F.FAB_RX_HIST_BOW_LOST, F.FAB_RX_HIST_STERN_LOST, F.FAB_RX_HIST_BOTH_LOST, F.FAB_RX_HIST_COPY_DIFF, F.FAB_RX_HIST_OVER_CLASS]
/-- `FAB_RX_IRQ_EN` (R343). -/
def R.FAB_RX_IRQ_EN : Reg := ⟨0x0A04008, 64, 320, 0, 1⟩
def F.FAB_RX_IRQ_EN_EN : Field := ⟨R.FAB_RX_IRQ_EN, 0, 5, .rw, .c 0, .any⟩
def W.FAB_RX_IRQ_EN : List Field := [F.FAB_RX_IRQ_EN_EN]
/-- `FAB_RX_WON_BOW_CNT` (R343). -/
def R.FAB_RX_WON_BOW_CNT : Reg := ⟨0x0A0400C, 64, 320, 0, 1⟩
def F.FAB_RX_WON_BOW_CNT_COUNT : Field := ⟨R.FAB_RX_WON_BOW_CNT, 0, 32, .rcl, .c 0, .any⟩
def W.FAB_RX_WON_BOW_CNT : List Field := [F.FAB_RX_WON_BOW_CNT_COUNT]
/-- `FAB_RX_WON_STERN_CNT` (R343). -/
def R.FAB_RX_WON_STERN_CNT : Reg := ⟨0x0A04010, 64, 320, 0, 1⟩
def F.FAB_RX_WON_STERN_CNT_COUNT : Field := ⟨R.FAB_RX_WON_STERN_CNT, 0, 32, .rcl, .c 0, .any⟩
def W.FAB_RX_WON_STERN_CNT : List Field := [F.FAB_RX_WON_STERN_CNT_COUNT]
/-- `FAB_RX_DUP_CNT` (R343). -/
def R.FAB_RX_DUP_CNT : Reg := ⟨0x0A04014, 64, 320, 0, 1⟩
def F.FAB_RX_DUP_CNT_COUNT : Field := ⟨R.FAB_RX_DUP_CNT, 0, 32, .rcl, .c 0, .any⟩
def W.FAB_RX_DUP_CNT : List Field := [F.FAB_RX_DUP_CNT_COUNT]
/-- `FAB_RX_DIFF_CNT` (R343). -/
def R.FAB_RX_DIFF_CNT : Reg := ⟨0x0A04018, 64, 320, 0, 1⟩
def F.FAB_RX_DIFF_CNT_COUNT : Field := ⟨R.FAB_RX_DIFF_CNT, 0, 32, .rcl, .c 0, .any⟩
def W.FAB_RX_DIFF_CNT : List Field := [F.FAB_RX_DIFF_CNT_COUNT]
/-- `FAB_RX_MISSING_CNT` (R343). -/
def R.FAB_RX_MISSING_CNT : Reg := ⟨0x0A0401C, 64, 320, 0, 1⟩
def F.FAB_RX_MISSING_CNT_COUNT : Field := ⟨R.FAB_RX_MISSING_CNT, 0, 32, .rcl, .c 0, .any⟩
def W.FAB_RX_MISSING_CNT : List Field := [F.FAB_RX_MISSING_CNT_COUNT]
/-- `FAB_SRC_SUBS` (R343). -/
def R.FAB_SRC_SUBS : Reg := ⟨0x0A10000, 16, 336, 0, 1⟩
def F.FAB_SRC_SUBS_SUBS : Field := ⟨R.FAB_SRC_SUBS, 0, 18, .ro, .c 0, .any⟩
def W.FAB_SRC_SUBS : List Field := [F.FAB_SRC_SUBS_SUBS]
/-- `FAB_SRC_PEND` (R343). -/
def R.FAB_SRC_PEND : Reg := ⟨0x0A10004, 16, 336, 0, 1⟩
def F.FAB_SRC_PEND_HELD : Field := ⟨R.FAB_SRC_PEND, 0, 18, .ro, .c 0, .any⟩
def W.FAB_SRC_PEND : List Field := [F.FAB_SRC_PEND_HELD]
/-- `FAB_SRC_SEATS` (R343). -/
def R.FAB_SRC_SEATS : Reg := ⟨0x0A10008, 16, 336, 0, 1⟩
def F.FAB_SRC_SEATS_SEATS : Field := ⟨R.FAB_SRC_SEATS, 0, 8, .ro, .c 0, .any⟩
def F.FAB_SRC_SEATS_LINKS : Field := ⟨R.FAB_SRC_SEATS, 8, 5, .ro, .c 0, .any⟩
def W.FAB_SRC_SEATS : List Field := [F.FAB_SRC_SEATS_SEATS, F.FAB_SRC_SEATS_LINKS]
def fieldsFAB0 : List Field := [F.FAB_CFG_N, F.FAB_CFG_AUTH_MODE, F.FAB_CFG_AUTO_GROW, F.FAB_CFG_REVERT, F.FAB_CFG_HOLD_MS, F.FAB_CFG2_REROUTE_MS, F.FAB_CFG2_REVERT_S, F.FAB_ID_FAB_ID, F.FAB_ID_ID_INVALID, F.FAB_TAG_TAG, F.FAB_EPOCH_EPOCH, F.FAB_PEND_PEND, F.FAB_RX_PEND_PEND, F.FAB_PORT_STATUS_PEER_STATE, F.FAB_PORT_STATUS_PEER_ID, F.FAB_PORT_STATUS_PEER_VALID, F.FAB_PORT_STATUS_RATE, F.FAB_PORT_STATUS_MEDIA_SEATS, F.FAB_PORT_SEATS_TX_GRANTED, F.FAB_PORT_SEATS_RX_GRANTED, F.FAB_PORT_HIST_UP_GAINED, F.FAB_PORT_HIST_UP_LOST, F.FAB_PORT_HIST_WIRING_ERR, F.FAB_PORT_HIST_AUTH_FAIL, F.FAB_PORT_HIST_INCOMPATIBLE, F.FAB_PORT_HIST_SEAT_OVER, F.FAB_PORT_HIST_RELAY_FULL, F.FAB_PORT_HIST_NEW_EPOCH, F.FAB_PORT_IRQ_EN_EN, F.FAB_TX_STROKE_CNT_COUNT, F.FAB_RX_STROKE_CNT_COUNT, F.FAB_TX_DROP_CNT_COUNT, F.FAB_RX_ERR_CNT_COUNT, F.FAB_RX_LATE_CNT_COUNT, F.FAB_RX_EARLY_CNT_COUNT, F.FAB_RELAY_DROP_CNT_COUNT, F.FAB_RX_STREAM_STREAM, F.FAB_RX_STREAM_EN, F.FAB_RX_STREAM_COPIES, F.FAB_RX_STREAM_UNPROTECTED]
def fieldsFAB1 : List Field := [F.FAB_RX_STREAM_OVER_CLASS, F.FAB_RX_HIST_BOW_LOST, F.FAB_RX_HIST_STERN_LOST, F.FAB_RX_HIST_BOTH_LOST, F.FAB_RX_HIST_COPY_DIFF, F.FAB_RX_HIST_OVER_CLASS, F.FAB_RX_IRQ_EN_EN, F.FAB_RX_WON_BOW_CNT_COUNT, F.FAB_RX_WON_STERN_CNT_COUNT, F.FAB_RX_DUP_CNT_COUNT, F.FAB_RX_DIFF_CNT_COUNT, F.FAB_RX_MISSING_CNT_COUNT, F.FAB_SRC_SUBS_SUBS, F.FAB_SRC_PEND_HELD, F.FAB_SRC_SEATS_SEATS, F.FAB_SRC_SEATS_LINKS]
/-- Every field of block FAB. -/
def fieldsFAB : List Field := fieldsFAB0 ++ fieldsFAB1

/-! ### COX -/

/-- `COX_CFG` (R416). -/
def R.COX_CFG : Reg := ⟨0x0B00100, 0, 1, 0, 1⟩
def F.COX_CFG_FEATHER_DEF : Field := ⟨R.COX_CFG, 0, 7, .rw, .c 5, .range 0 64⟩
def W.COX_CFG : List Field := [F.COX_CFG_FEATHER_DEF]
/-- `COX_STATUS` (R416). -/
def R.COX_STATUS : Reg := ⟨0x0B00104, 0, 1, 0, 1⟩
def F.COX_STATUS_ENTRIES_USED : Field := ⟨R.COX_STATUS, 0, 11, .ro, .c 0, .any⟩
def F.COX_STATUS_REGATTAS_OPEN : Field := ⟨R.COX_STATUS, 16, 5, .ro, .c 0, .any⟩
def W.COX_STATUS : List Field := [F.COX_STATUS_ENTRIES_USED, F.COX_STATUS_REGATTAS_OPEN]
/-- `COX_HIST` (R416). -/
def R.COX_HIST : Reg := ⟨0x0B00108, 0, 1, 0, 1⟩
def F.COX_HIST_EXECUTED : Field := ⟨R.COX_HIST, 0, 1, .w1c, .c 0, .any⟩
def F.COX_HIST_LATE : Field := ⟨R.COX_HIST, 1, 1, .w1c, .c 0, .any⟩
def F.COX_HIST_REFUSED : Field := ⟨R.COX_HIST, 2, 1, .w1c, .c 0, .any⟩
def F.COX_HIST_CANCELLED : Field := ⟨R.COX_HIST, 3, 1, .w1c, .c 0, .any⟩
def F.COX_HIST_ABANDONED : Field := ⟨R.COX_HIST, 4, 1, .w1c, .c 0, .any⟩
def F.COX_HIST_MISMATCH : Field := ⟨R.COX_HIST, 5, 1, .w1c, .c 0, .any⟩
def F.COX_HIST_QUEUE_FULL : Field := ⟨R.COX_HIST, 6, 1, .w1c, .c 0, .any⟩
def F.COX_HIST_GO_LATE : Field := ⟨R.COX_HIST, 7, 1, .w1c, .c 0, .any⟩
def F.COX_HIST_CFG_REJECTED : Field := ⟨R.COX_HIST, 8, 1, .w1c, .c 0, .any⟩
def W.COX_HIST : List Field := [F.COX_HIST_EXECUTED, F.COX_HIST_LATE, F.COX_HIST_REFUSED, F.COX_HIST_CANCELLED, F.COX_HIST_ABANDONED, F.COX_HIST_MISMATCH, F.COX_HIST_QUEUE_FULL, F.COX_HIST_GO_LATE, F.COX_HIST_CFG_REJECTED]
/-- `COX_IRQ_EN` (R416). -/
def R.COX_IRQ_EN : Reg := ⟨0x0B0010C, 0, 1, 0, 1⟩
def F.COX_IRQ_EN_EN : Field := ⟨R.COX_IRQ_EN, 0, 9, .rw, .c 0, .any⟩
def W.COX_IRQ_EN : List Field := [F.COX_IRQ_EN_EN]
/-- `COX_EXEC_CNT` (R416). -/
def R.COX_EXEC_CNT : Reg := ⟨0x0B00110, 0, 1, 0, 1⟩
def F.COX_EXEC_CNT_COUNT : Field := ⟨R.COX_EXEC_CNT, 0, 32, .rcl, .c 0, .any⟩
def W.COX_EXEC_CNT : List Field := [F.COX_EXEC_CNT_COUNT]
/-- `COX_LATE_CNT` (R416). -/
def R.COX_LATE_CNT : Reg := ⟨0x0B00114, 0, 1, 0, 1⟩
def F.COX_LATE_CNT_COUNT : Field := ⟨R.COX_LATE_CNT, 0, 32, .rcl, .c 0, .any⟩
def W.COX_LATE_CNT : List Field := [F.COX_LATE_CNT_COUNT]
/-- `COX_REFUSE_CNT` (R416). -/
def R.COX_REFUSE_CNT : Reg := ⟨0x0B00118, 0, 1, 0, 1⟩
def F.COX_REFUSE_CNT_COUNT : Field := ⟨R.COX_REFUSE_CNT, 0, 32, .rcl, .c 0, .any⟩
def W.COX_REFUSE_CNT : List Field := [F.COX_REFUSE_CNT_COUNT]
/-- `COX_CANCEL_CNT` (R416). -/
def R.COX_CANCEL_CNT : Reg := ⟨0x0B0011C, 0, 1, 0, 1⟩
def F.COX_CANCEL_CNT_COUNT : Field := ⟨R.COX_CANCEL_CNT, 0, 32, .rcl, .c 0, .any⟩
def W.COX_CANCEL_CNT : List Field := [F.COX_CANCEL_CNT_COUNT]
/-- `COX_ABANDON_CNT` (R416). -/
def R.COX_ABANDON_CNT : Reg := ⟨0x0B00120, 0, 1, 0, 1⟩
def F.COX_ABANDON_CNT_COUNT : Field := ⟨R.COX_ABANDON_CNT, 0, 32, .rcl, .c 0, .any⟩
def W.COX_ABANDON_CNT : List Field := [F.COX_ABANDON_CNT_COUNT]
/-- `COX_MISMATCH` (R416). -/
def R.COX_MISMATCH : Reg := ⟨0x0B00200, 4, 24, 0, 1⟩
def F.COX_MISMATCH_MISMATCH : Field := ⟨R.COX_MISMATCH, 0, 32, .ro, .c 0, .any⟩
def W.COX_MISMATCH : List Field := [F.COX_MISMATCH_MISMATCH]
/-- `COX_RG_ID` (R416). -/
def R.COX_RG_ID : Reg := ⟨0x0B00400, 32, 16, 0, 1⟩
def F.COX_RG_ID_REGATTA_ID : Field := ⟨R.COX_RG_ID, 0, 16, .ro, .c 0, .any⟩
def F.COX_RG_ID_LEADER : Field := ⟨R.COX_RG_ID, 16, 5, .ro, .c 0, .any⟩
def F.COX_RG_ID_IS_LEADER : Field := ⟨R.COX_RG_ID, 21, 1, .ro, .c 0, .any⟩
def F.COX_RG_ID_TL : Field := ⟨R.COX_RG_ID, 22, 1, .ro, .c 0, .any⟩
def F.COX_RG_ID_POLICY : Field := ⟨R.COX_RG_ID, 23, 1, .ro, .c 0, .any⟩
def F.COX_RG_ID_STATE : Field := ⟨R.COX_RG_ID, 24, 3, .ro, .c 0, .any⟩
def W.COX_RG_ID : List Field := [F.COX_RG_ID_REGATTA_ID, F.COX_RG_ID_LEADER, F.COX_RG_ID_IS_LEADER, F.COX_RG_ID_TL, F.COX_RG_ID_POLICY, F.COX_RG_ID_STATE]
/-- `COX_RG_CATCH_LO` (R416). -/
def R.COX_RG_CATCH_LO : Reg := ⟨0x0B00404, 32, 16, 0, 1⟩
def F.COX_RG_CATCH_LO_FRAME : Field := ⟨R.COX_RG_CATCH_LO, 0, 32, .ro, .c 0, .any⟩
def W.COX_RG_CATCH_LO : List Field := [F.COX_RG_CATCH_LO_FRAME]
/-- `COX_RG_CATCH_HI` (R416). -/
def R.COX_RG_CATCH_HI : Reg := ⟨0x0B00408, 32, 16, 0, 1⟩
def F.COX_RG_CATCH_HI_FRAME : Field := ⟨R.COX_RG_CATCH_HI, 0, 16, .ro, .c 0, .any⟩
def W.COX_RG_CATCH_HI : List Field := [F.COX_RG_CATCH_HI_FRAME]
/-- `COX_RG_MEMBERS` (R416). -/
def R.COX_RG_MEMBERS : Reg := ⟨0x0B0040C, 32, 16, 0, 1⟩
def F.COX_RG_MEMBERS_MEMBERS : Field := ⟨R.COX_RG_MEMBERS, 0, 18, .ro, .c 0, .any⟩
def W.COX_RG_MEMBERS : List Field := [F.COX_RG_MEMBERS_MEMBERS]
/-- `COX_RG_VOTED` (R416). -/
def R.COX_RG_VOTED : Reg := ⟨0x0B00410, 32, 16, 0, 1⟩
def F.COX_RG_VOTED_READY : Field := ⟨R.COX_RG_VOTED, 0, 18, .ro, .c 0, .any⟩
def W.COX_RG_VOTED : List Field := [F.COX_RG_VOTED_READY]
/-- `COX_RG_TAKES` (R416). -/
def R.COX_RG_TAKES : Reg := ⟨0x0B00414, 32, 16, 0, 1⟩
def F.COX_RG_TAKES_TAKES : Field := ⟨R.COX_RG_TAKES, 0, 12, .ro, .c 0, .any⟩
def F.COX_RG_TAKES_TOTAL : Field := ⟨R.COX_RG_TAKES, 16, 12, .ro, .c 0, .any⟩
def W.COX_RG_TAKES : List Field := [F.COX_RG_TAKES_TAKES, F.COX_RG_TAKES_TOTAL]
/-- `COX_RG_HELD` (R416). -/
def R.COX_RG_HELD : Reg := ⟨0x0B00418, 32, 16, 0, 1⟩
def F.COX_RG_HELD_HELD : Field := ⟨R.COX_RG_HELD, 0, 12, .ro, .c 0, .any⟩
def F.COX_RG_HELD_REASON : Field := ⟨R.COX_RG_HELD, 16, 16, .ro, .c 0, .any⟩
def W.COX_RG_HELD : List Field := [F.COX_RG_HELD_HELD, F.COX_RG_HELD_REASON]
/-- `COX_TGT_CFG` (R416). -/
def R.COX_TGT_CFG : Reg := ⟨0x0B10000, 32, 768, 0, 1⟩
def F.COX_TGT_CFG_CATCH1 : Field := ⟨R.COX_TGT_CFG, 0, 12, .rw, .c 0, .any⟩
def F.COX_TGT_CFG_CATCH2 : Field := ⟨R.COX_TGT_CFG, 12, 12, .rw, .c 0, .any⟩
def W.COX_TGT_CFG : List Field := [F.COX_TGT_CFG_CATCH1, F.COX_TGT_CFG_CATCH2]
/-- `COX_TGT_VID` (R416). -/
def R.COX_TGT_VID : Reg := ⟨0x0B10004, 32, 768, 0, 1⟩
def F.COX_TGT_VID_VID_SRC : Field := ⟨R.COX_TGT_VID, 0, 14, .ro, .c 16383, .any⟩
def F.COX_TGT_VID_SRC_MISMATCH : Field := ⟨R.COX_TGT_VID, 14, 1, .ro, .c 0, .any⟩
def F.COX_TGT_VID_CMD_SRC : Field := ⟨R.COX_TGT_VID, 16, 14, .ro, .c 16383, .any⟩
def F.COX_TGT_VID_MISMATCH : Field := ⟨R.COX_TGT_VID, 31, 1, .ro, .c 0, .any⟩
def W.COX_TGT_VID : List Field := [F.COX_TGT_VID_VID_SRC, F.COX_TGT_VID_SRC_MISMATCH, F.COX_TGT_VID_CMD_SRC, F.COX_TGT_VID_MISMATCH]
/-- `COX_TGT_AV` (R416). -/
def R.COX_TGT_AV : Reg := ⟨0x0B10008, 32, 768, 0, 1⟩
def F.COX_TGT_AV_AUD_SRC : Field := ⟨R.COX_TGT_AV, 0, 14, .ro, .c 16383, .any⟩
def F.COX_TGT_AV_AUD_SILENT : Field := ⟨R.COX_TGT_AV, 14, 1, .ro, .c 0, .any⟩
def F.COX_TGT_AV_ANC_SRC : Field := ⟨R.COX_TGT_AV, 16, 14, .ro, .c 16383, .any⟩
def F.COX_TGT_AV_ANC_NONE : Field := ⟨R.COX_TGT_AV, 30, 1, .ro, .c 0, .any⟩
def W.COX_TGT_AV : List Field := [F.COX_TGT_AV_AUD_SRC, F.COX_TGT_AV_AUD_SILENT, F.COX_TGT_AV_ANC_SRC, F.COX_TGT_AV_ANC_NONE]
/-- `COX_TGT_LAST` (R416). -/
def R.COX_TGT_LAST : Reg := ⟨0x0B1000C, 32, 768, 0, 1⟩
def F.COX_TGT_LAST_TAKE_ID : Field := ⟨R.COX_TGT_LAST, 0, 32, .ro, .c 0, .any⟩
def W.COX_TGT_LAST : List Field := [F.COX_TGT_LAST_TAKE_ID]
/-- `COX_TGT_FRAME` (R416). -/
def R.COX_TGT_FRAME : Reg := ⟨0x0B10010, 32, 768, 0, 1⟩
def F.COX_TGT_FRAME_FRAME : Field := ⟨R.COX_TGT_FRAME, 0, 32, .ro, .c 0, .any⟩
def W.COX_TGT_FRAME : List Field := [F.COX_TGT_FRAME_FRAME]
/-- `COX_TGT_STATE` (R416). -/
def R.COX_TGT_STATE : Reg := ⟨0x0B10014, 32, 768, 0, 1⟩
def F.COX_TGT_STATE_QUEUED : Field := ⟨R.COX_TGT_STATE, 0, 3, .ro, .c 0, .any⟩
def F.COX_TGT_STATE_LAST_OUTCOME : Field := ⟨R.COX_TGT_STATE, 3, 4, .ro, .c 0, .any⟩
def W.COX_TGT_STATE : List Field := [F.COX_TGT_STATE_QUEUED, F.COX_TGT_STATE_LAST_OUTCOME]
def fieldsCOX0 : List Field := [F.COX_CFG_FEATHER_DEF, F.COX_STATUS_ENTRIES_USED, F.COX_STATUS_REGATTAS_OPEN, F.COX_HIST_EXECUTED, F.COX_HIST_LATE, F.COX_HIST_REFUSED, F.COX_HIST_CANCELLED, F.COX_HIST_ABANDONED, F.COX_HIST_MISMATCH, F.COX_HIST_QUEUE_FULL, F.COX_HIST_GO_LATE, F.COX_HIST_CFG_REJECTED, F.COX_IRQ_EN_EN, F.COX_EXEC_CNT_COUNT, F.COX_LATE_CNT_COUNT, F.COX_REFUSE_CNT_COUNT, F.COX_CANCEL_CNT_COUNT, F.COX_ABANDON_CNT_COUNT, F.COX_MISMATCH_MISMATCH, F.COX_RG_ID_REGATTA_ID, F.COX_RG_ID_LEADER, F.COX_RG_ID_IS_LEADER, F.COX_RG_ID_TL, F.COX_RG_ID_POLICY, F.COX_RG_ID_STATE, F.COX_RG_CATCH_LO_FRAME, F.COX_RG_CATCH_HI_FRAME, F.COX_RG_MEMBERS_MEMBERS, F.COX_RG_VOTED_READY, F.COX_RG_TAKES_TAKES, F.COX_RG_TAKES_TOTAL, F.COX_RG_HELD_HELD, F.COX_RG_HELD_REASON, F.COX_TGT_CFG_CATCH1, F.COX_TGT_CFG_CATCH2, F.COX_TGT_VID_VID_SRC, F.COX_TGT_VID_SRC_MISMATCH, F.COX_TGT_VID_CMD_SRC, F.COX_TGT_VID_MISMATCH, F.COX_TGT_AV_AUD_SRC]
def fieldsCOX1 : List Field := [F.COX_TGT_AV_AUD_SILENT, F.COX_TGT_AV_ANC_SRC, F.COX_TGT_AV_ANC_NONE, F.COX_TGT_LAST_TAKE_ID, F.COX_TGT_FRAME_FRAME, F.COX_TGT_STATE_QUEUED, F.COX_TGT_STATE_LAST_OUTCOME]
/-- Every field of block COX. -/
def fieldsCOX : List Field := fieldsCOX0 ++ fieldsCOX1

/-! ### HEAD -/

/-- `HEAD_PEND` (R462). -/
def R.HEAD_PEND : Reg := ⟨0x0C00100, 0, 1, 0, 1⟩
def F.HEAD_PEND_PEND : Field := ⟨R.HEAD_PEND, 0, 32, .ro, .c 0, .any⟩
def W.HEAD_PEND : List Field := [F.HEAD_PEND_PEND]
/-- `STILL_CFG` (R462). -/
def R.STILL_CFG : Reg := ⟨0x0C00200, 16, 32, 0, 1⟩
def F.STILL_CFG_EN : Field := ⟨R.STILL_CFG, 0, 1, .rw, .c 0, .any⟩
def F.STILL_CFG_FORMAT : Field := ⟨R.STILL_CFG, 1, 5, .rw, .c 15, .any⟩
def F.STILL_CFG_ALPHA : Field := ⟨R.STILL_CFG, 6, 1, .rw, .c 0, .any⟩
def F.STILL_CFG_TL : Field := ⟨R.STILL_CFG, 7, 1, .rw, .c 1, .any⟩
def F.STILL_CFG_ACTIVE_BUF : Field := ⟨R.STILL_CFG, 8, 1, .ro, .c 0, .any⟩
def W.STILL_CFG : List Field := [F.STILL_CFG_EN, F.STILL_CFG_FORMAT, F.STILL_CFG_ALPHA, F.STILL_CFG_TL, F.STILL_CFG_ACTIVE_BUF]
/-- `STILL_BASE` (R462). -/
def R.STILL_BASE : Reg := ⟨0x0C00204, 16, 32, 0, 1⟩
def F.STILL_BASE_BASE : Field := ⟨R.STILL_BASE, 0, 12, .rw, .special, .any⟩
def W.STILL_BASE : List Field := [F.STILL_BASE_BASE]
/-- `STILL_FSEQ` (R462). -/
def R.STILL_FSEQ : Reg := ⟨0x0C00208, 16, 32, 0, 1⟩
def F.STILL_FSEQ_FSEQ : Field := ⟨R.STILL_FSEQ, 0, 32, .ro, .c 0, .any⟩
def W.STILL_FSEQ : List Field := [F.STILL_FSEQ_FSEQ]
/-- `HEAD_CFG` (R462). -/
def R.HEAD_CFG : Reg := ⟨0x0C01000, 1024, 32, 0, 1⟩
def F.HEAD_CFG_EN : Field := ⟨R.HEAD_CFG, 0, 1, .rw, .c 0, .any⟩
def F.HEAD_CFG_TL : Field := ⟨R.HEAD_CFG, 1, 1, .rw, .c 1, .any⟩
def F.HEAD_CFG_FORMAT : Field := ⟨R.HEAD_CFG, 2, 5, .rw, .c 15, .subst 1 24 15⟩
def F.HEAD_CFG_ZMODE : Field := ⟨R.HEAD_CFG, 7, 1, .rw, .c 0, .any⟩
def F.HEAD_CFG_CSC_EN : Field := ⟨R.HEAD_CFG, 8, 1, .rw, .c 0, .any⟩
def F.HEAD_CFG_LUT_EN : Field := ⟨R.HEAD_CFG, 9, 1, .rw, .c 0, .any⟩
def W.HEAD_CFG : List Field := [F.HEAD_CFG_EN, F.HEAD_CFG_TL, F.HEAD_CFG_FORMAT, F.HEAD_CFG_ZMODE, F.HEAD_CFG_CSC_EN, F.HEAD_CFG_LUT_EN]
/-- `HEAD_BG` (R462). -/
def R.HEAD_BG : Reg := ⟨0x0C01004, 1024, 32, 0, 1⟩
def F.HEAD_BG_Y : Field := ⟨R.HEAD_BG, 0, 10, .rw, .c 64, .any⟩
def F.HEAD_BG_CB : Field := ⟨R.HEAD_BG, 10, 10, .rw, .c 512, .any⟩
def F.HEAD_BG_CR : Field := ⟨R.HEAD_BG, 20, 10, .rw, .c 512, .any⟩
def W.HEAD_BG : List Field := [F.HEAD_BG_Y, F.HEAD_BG_CB, F.HEAD_BG_CR]
/-- `HEAD_ZORDER_LO` (R462). -/
def R.HEAD_ZORDER_LO : Reg := ⟨0x0C01008, 1024, 32, 0, 1⟩
def F.HEAD_ZORDER_LO_POS0_7 : Field := ⟨R.HEAD_ZORDER_LO, 0, 32, .rw, .c 1985229328, .any⟩
def W.HEAD_ZORDER_LO : List Field := [F.HEAD_ZORDER_LO_POS0_7]
/-- `HEAD_ZORDER_HI` (R462). -/
def R.HEAD_ZORDER_HI : Reg := ⟨0x0C0100C, 1024, 32, 0, 1⟩
def F.HEAD_ZORDER_HI_POS8_15 : Field := ⟨R.HEAD_ZORDER_HI, 0, 32, .rw, .c 4275878552, .any⟩
def W.HEAD_ZORDER_HI : List Field := [F.HEAD_ZORDER_HI_POS8_15]
/-- `HEAD_STATUS` (R462). -/
def R.HEAD_STATUS : Reg := ⟨0x0C01010, 1024, 32, 0, 1⟩
def F.HEAD_STATUS_STATE : Field := ⟨R.HEAD_STATUS, 0, 2, .ro, .c 0, .any⟩
def F.HEAD_STATUS_BANK : Field := ⟨R.HEAD_STATUS, 2, 1, .ro, .c 0, .any⟩
def F.HEAD_STATUS_BUDGET_USED : Field := ⟨R.HEAD_STATUS, 16, 16, .ro, .c 0, .any⟩
def W.HEAD_STATUS : List Field := [F.HEAD_STATUS_STATE, F.HEAD_STATUS_BANK, F.HEAD_STATUS_BUDGET_USED]
/-- `HEAD_HIST` (R462). -/
def R.HEAD_HIST : Reg := ⟨0x0C01014, 1024, 32, 0, 1⟩
def F.HEAD_HIST_STARTED : Field := ⟨R.HEAD_HIST, 0, 1, .w1c, .c 0, .any⟩
def F.HEAD_HIST_STOPPED : Field := ⟨R.HEAD_HIST, 1, 1, .w1c, .c 0, .any⟩
def F.HEAD_HIST_LAYER_LATE : Field := ⟨R.HEAD_HIST, 2, 1, .w1c, .c 0, .any⟩
def F.HEAD_HIST_STALE_ENTER : Field := ⟨R.HEAD_HIST, 3, 1, .w1c, .c 0, .any⟩
def F.HEAD_HIST_STALE_EXIT : Field := ⟨R.HEAD_HIST, 4, 1, .w1c, .c 0, .any⟩
def F.HEAD_HIST_BUDGET_REJECTED : Field := ⟨R.HEAD_HIST, 5, 1, .w1c, .c 0, .any⟩
def F.HEAD_HIST_CFG_REJECTED : Field := ⟨R.HEAD_HIST, 6, 1, .w1c, .c 0, .any⟩
def W.HEAD_HIST : List Field := [F.HEAD_HIST_STARTED, F.HEAD_HIST_STOPPED, F.HEAD_HIST_LAYER_LATE, F.HEAD_HIST_STALE_ENTER, F.HEAD_HIST_STALE_EXIT, F.HEAD_HIST_BUDGET_REJECTED, F.HEAD_HIST_CFG_REJECTED]
/-- `HEAD_IRQ_EN` (R462). -/
def R.HEAD_IRQ_EN : Reg := ⟨0x0C01018, 1024, 32, 0, 1⟩
def F.HEAD_IRQ_EN_EN : Field := ⟨R.HEAD_IRQ_EN, 0, 7, .rw, .c 0, .any⟩
def W.HEAD_IRQ_EN : List Field := [F.HEAD_IRQ_EN_EN]
/-- `HEAD_LATE_CNT` (R462). -/
def R.HEAD_LATE_CNT : Reg := ⟨0x0C0101C, 1024, 32, 0, 1⟩
def F.HEAD_LATE_CNT_COUNT : Field := ⟨R.HEAD_LATE_CNT, 0, 32, .rcl, .c 0, .any⟩
def W.HEAD_LATE_CNT : List Field := [F.HEAD_LATE_CNT_COUNT]
/-- `HEAD_STALE` (R462). -/
def R.HEAD_STALE : Reg := ⟨0x0C01020, 1024, 32, 0, 1⟩
def F.HEAD_STALE_STALE : Field := ⟨R.HEAD_STALE, 0, 16, .ro, .c 0, .any⟩
def W.HEAD_STALE : List Field := [F.HEAD_STALE_STALE]
/-- `LAYER_CFG` (R462). -/
def R.LAYER_CFG : Reg := ⟨0x0C01100, 1024, 512, 32, 16⟩
def F.LAYER_CFG_EN : Field := ⟨R.LAYER_CFG, 0, 1, .rw, .c 0, .any⟩
def F.LAYER_CFG_KEY : Field := ⟨R.LAYER_CFG, 1, 2, .rw, .c 0, .any⟩
def F.LAYER_CFG_FILTER : Field := ⟨R.LAYER_CFG, 3, 2, .rw, .c 0, .any⟩
def F.LAYER_CFG_DEINT : Field := ⟨R.LAYER_CFG, 5, 1, .rw, .c 0, .any⟩
def F.LAYER_CFG_CSC_EN : Field := ⟨R.LAYER_CFG, 6, 1, .rw, .c 0, .any⟩
def F.LAYER_CFG_LUT_EN : Field := ⟨R.LAYER_CFG, 7, 1, .rw, .c 0, .any⟩
def F.LAYER_CFG_BANK : Field := ⟨R.LAYER_CFG, 8, 1, .ro, .c 0, .any⟩
def F.LAYER_CFG_GALPHA : Field := ⟨R.LAYER_CFG, 16, 8, .rw, .c 255, .any⟩
def W.LAYER_CFG : List Field := [F.LAYER_CFG_EN, F.LAYER_CFG_KEY, F.LAYER_CFG_FILTER, F.LAYER_CFG_DEINT, F.LAYER_CFG_CSC_EN, F.LAYER_CFG_LUT_EN, F.LAYER_CFG_BANK, F.LAYER_CFG_GALPHA]
/-- `LAYER_SRC_XY` (R462). -/
def R.LAYER_SRC_XY : Reg := ⟨0x0C01104, 1024, 512, 32, 16⟩
def F.LAYER_SRC_XY_SRC_X : Field := ⟨R.LAYER_SRC_XY, 0, 12, .rw, .c 0, .any⟩
def F.LAYER_SRC_XY_SRC_Y : Field := ⟨R.LAYER_SRC_XY, 16, 12, .rw, .c 0, .any⟩
def W.LAYER_SRC_XY : List Field := [F.LAYER_SRC_XY_SRC_X, F.LAYER_SRC_XY_SRC_Y]
/-- `LAYER_SRC_WH` (R462). -/
def R.LAYER_SRC_WH : Reg := ⟨0x0C01108, 1024, 512, 32, 16⟩
def F.LAYER_SRC_WH_SRC_W : Field := ⟨R.LAYER_SRC_WH, 0, 12, .rw, .c 1920, .range 1 4095⟩
def F.LAYER_SRC_WH_SRC_H : Field := ⟨R.LAYER_SRC_WH, 16, 12, .rw, .c 1080, .range 1 4095⟩
def W.LAYER_SRC_WH : List Field := [F.LAYER_SRC_WH_SRC_W, F.LAYER_SRC_WH_SRC_H]
/-- `LAYER_DST_XY` (R462). -/
def R.LAYER_DST_XY : Reg := ⟨0x0C0110C, 1024, 512, 32, 16⟩
def F.LAYER_DST_XY_DST_X : Field := ⟨R.LAYER_DST_XY, 0, 13, .rw, .c 0, .any⟩
def F.LAYER_DST_XY_DST_Y : Field := ⟨R.LAYER_DST_XY, 16, 13, .rw, .c 0, .any⟩
def W.LAYER_DST_XY : List Field := [F.LAYER_DST_XY_DST_X, F.LAYER_DST_XY_DST_Y]
/-- `LAYER_DST_WH` (R462). -/
def R.LAYER_DST_WH : Reg := ⟨0x0C01110, 1024, 512, 32, 16⟩
def F.LAYER_DST_WH_DST_W : Field := ⟨R.LAYER_DST_WH, 0, 12, .rw, .c 1920, .range 1 4095⟩
def F.LAYER_DST_WH_DST_H : Field := ⟨R.LAYER_DST_WH, 16, 12, .rw, .c 1080, .range 1 4095⟩
def W.LAYER_DST_WH : List Field := [F.LAYER_DST_WH_DST_W, F.LAYER_DST_WH_DST_H]
/-- `LAYER_KEY` (R462). -/
def R.LAYER_KEY : Reg := ⟨0x0C01114, 1024, 512, 32, 16⟩
def F.LAYER_KEY_KEY_LO : Field := ⟨R.LAYER_KEY, 0, 10, .rw, .c 64, .any⟩
def F.LAYER_KEY_KEY_HI : Field := ⟨R.LAYER_KEY, 16, 10, .rw, .c 940, .any⟩
def W.LAYER_KEY : List Field := [F.LAYER_KEY_KEY_LO, F.LAYER_KEY_KEY_HI]
/-- `LAYER_LATE_CNT` (R462). -/
def R.LAYER_LATE_CNT : Reg := ⟨0x0C01118, 1024, 512, 32, 16⟩
def F.LAYER_LATE_CNT_COUNT : Field := ⟨R.LAYER_LATE_CNT, 0, 32, .rcl, .c 0, .any⟩
def W.LAYER_LATE_CNT : List Field := [F.LAYER_LATE_CNT_COUNT]
def fieldsHEAD0 : List Field := [F.HEAD_PEND_PEND, F.STILL_CFG_EN, F.STILL_CFG_FORMAT, F.STILL_CFG_ALPHA, F.STILL_CFG_TL, F.STILL_CFG_ACTIVE_BUF, F.STILL_BASE_BASE, F.STILL_FSEQ_FSEQ, F.HEAD_CFG_EN, F.HEAD_CFG_TL, F.HEAD_CFG_FORMAT, F.HEAD_CFG_ZMODE, F.HEAD_CFG_CSC_EN, F.HEAD_CFG_LUT_EN, F.HEAD_BG_Y, F.HEAD_BG_CB, F.HEAD_BG_CR, F.HEAD_ZORDER_LO_POS0_7, F.HEAD_ZORDER_HI_POS8_15, F.HEAD_STATUS_STATE, F.HEAD_STATUS_BANK, F.HEAD_STATUS_BUDGET_USED, F.HEAD_HIST_STARTED, F.HEAD_HIST_STOPPED, F.HEAD_HIST_LAYER_LATE, F.HEAD_HIST_STALE_ENTER, F.HEAD_HIST_STALE_EXIT, F.HEAD_HIST_BUDGET_REJECTED, F.HEAD_HIST_CFG_REJECTED, F.HEAD_IRQ_EN_EN, F.HEAD_LATE_CNT_COUNT, F.HEAD_STALE_STALE, F.LAYER_CFG_EN, F.LAYER_CFG_KEY, F.LAYER_CFG_FILTER, F.LAYER_CFG_DEINT, F.LAYER_CFG_CSC_EN, F.LAYER_CFG_LUT_EN, F.LAYER_CFG_BANK, F.LAYER_CFG_GALPHA]
def fieldsHEAD1 : List Field := [F.LAYER_SRC_XY_SRC_X, F.LAYER_SRC_XY_SRC_Y, F.LAYER_SRC_WH_SRC_W, F.LAYER_SRC_WH_SRC_H, F.LAYER_DST_XY_DST_X, F.LAYER_DST_XY_DST_Y, F.LAYER_DST_WH_DST_W, F.LAYER_DST_WH_DST_H, F.LAYER_KEY_KEY_LO, F.LAYER_KEY_KEY_HI, F.LAYER_LATE_CNT_COUNT]
/-- Every field of block HEAD. -/
def fieldsHEAD : List Field := fieldsHEAD0 ++ fieldsHEAD1

/-! ### GUARD -/

/-- `GUARD_STATUS` (R463). -/
def R.GUARD_STATUS : Reg := ⟨0x0D00100, 0, 1, 0, 1⟩
def F.GUARD_STATUS_KEY_OK : Field := ⟨R.GUARD_STATUS, 0, 1, .ro, .c 0, .any⟩
def F.GUARD_STATUS_KEY_SW : Field := ⟨R.GUARD_STATUS, 1, 1, .ro, .c 0, .any⟩
def W.GUARD_STATUS : List Field := [F.GUARD_STATUS_KEY_OK, F.GUARD_STATUS_KEY_SW]
/-- `GUARD_HIST` (R463). -/
def R.GUARD_HIST : Reg := ⟨0x0D00104, 0, 1, 0, 1⟩
def F.GUARD_HIST_ACCEPTED : Field := ⟨R.GUARD_HIST, 0, 1, .w1c, .c 0, .any⟩
def F.GUARD_HIST_REJECTED : Field := ⟨R.GUARD_HIST, 1, 1, .w1c, .c 0, .any⟩
def F.GUARD_HIST_REPLAY : Field := ⟨R.GUARD_HIST, 2, 1, .w1c, .c 0, .any⟩
def F.GUARD_HIST_DEFERRED : Field := ⟨R.GUARD_HIST, 3, 1, .w1c, .c 0, .any⟩
def F.GUARD_HIST_FALLBACK_USED : Field := ⟨R.GUARD_HIST, 4, 1, .w1c, .c 0, .any⟩
def F.GUARD_HIST_CONTENT_RESET : Field := ⟨R.GUARD_HIST, 5, 1, .w1c, .c 0, .any⟩
def W.GUARD_HIST : List Field := [F.GUARD_HIST_ACCEPTED, F.GUARD_HIST_REJECTED, F.GUARD_HIST_REPLAY, F.GUARD_HIST_DEFERRED, F.GUARD_HIST_FALLBACK_USED, F.GUARD_HIST_CONTENT_RESET]
/-- `GUARD_IRQ_EN` (R463). -/
def R.GUARD_IRQ_EN : Reg := ⟨0x0D00108, 0, 1, 0, 1⟩
def F.GUARD_IRQ_EN_EN : Field := ⟨R.GUARD_IRQ_EN, 0, 6, .rw, .c 0, .any⟩
def W.GUARD_IRQ_EN : List Field := [F.GUARD_IRQ_EN_EN]
/-- `GUARD_CTR_LO` (R463). -/
def R.GUARD_CTR_LO : Reg := ⟨0x0D0010C, 0, 1, 0, 1⟩
def F.GUARD_CTR_LO_CTR : Field := ⟨R.GUARD_CTR_LO, 0, 32, .sw, .special, .any⟩
def W.GUARD_CTR_LO : List Field := [F.GUARD_CTR_LO_CTR]
/-- `GUARD_CTR_HI` (R463). -/
def R.GUARD_CTR_HI : Reg := ⟨0x0D00110, 0, 1, 0, 1⟩
def F.GUARD_CTR_HI_CTR : Field := ⟨R.GUARD_CTR_HI, 0, 32, .sw, .special, .any⟩
def W.GUARD_CTR_HI : List Field := [F.GUARD_CTR_HI_CTR]
/-- `GUARD_ACCEPT_CNT` (R463). -/
def R.GUARD_ACCEPT_CNT : Reg := ⟨0x0D00114, 0, 1, 0, 1⟩
def F.GUARD_ACCEPT_CNT_COUNT : Field := ⟨R.GUARD_ACCEPT_CNT, 0, 32, .rcl, .c 0, .any⟩
def W.GUARD_ACCEPT_CNT : List Field := [F.GUARD_ACCEPT_CNT_COUNT]
/-- `GUARD_REJECT_CNT` (R463). -/
def R.GUARD_REJECT_CNT : Reg := ⟨0x0D00118, 0, 1, 0, 1⟩
def F.GUARD_REJECT_CNT_COUNT : Field := ⟨R.GUARD_REJECT_CNT, 0, 32, .rcl, .c 0, .any⟩
def W.GUARD_REJECT_CNT : List Field := [F.GUARD_REJECT_CNT_COUNT]
/-- `GUARD_LOCK` (R463). -/
def R.GUARD_LOCK : Reg := ⟨0x0D0011C, 0, 1, 0, 1⟩
def F.GUARD_LOCK_LOCK : Field := ⟨R.GUARD_LOCK, 0, 32, .sw, .c 0, .any⟩
def W.GUARD_LOCK : List Field := [F.GUARD_LOCK_LOCK]
/-- `MARKER_STYLE_A` (R463). -/
def R.MARKER_STYLE_A : Reg := ⟨0x0D00200, 16, 8, 0, 1⟩
def F.MARKER_STYLE_A_KIND : Field := ⟨R.MARKER_STYLE_A, 0, 2, .sw, .special, .any⟩
def F.MARKER_STYLE_A_SCALE : Field := ⟨R.MARKER_STYLE_A, 2, 2, .sw, .c 1, .any⟩
def F.MARKER_STYLE_A_AGE : Field := ⟨R.MARKER_STYLE_A, 4, 1, .sw, .c 1, .any⟩
def F.MARKER_STYLE_A_LABEL_EN : Field := ⟨R.MARKER_STYLE_A, 5, 1, .sw, .c 1, .any⟩
def F.MARKER_STYLE_A_THICK : Field := ⟨R.MARKER_STYLE_A, 8, 8, .sw, .c 8, .range 1 255⟩
def F.MARKER_STYLE_A_LABEL : Field := ⟨R.MARKER_STYLE_A, 16, 4, .sw, .c 0, .any⟩
def F.MARKER_STYLE_A_FLASH : Field := ⟨R.MARKER_STYLE_A, 24, 8, .sw, .c 30, .any⟩
def W.MARKER_STYLE_A : List Field := [F.MARKER_STYLE_A_KIND, F.MARKER_STYLE_A_SCALE, F.MARKER_STYLE_A_AGE, F.MARKER_STYLE_A_LABEL_EN, F.MARKER_STYLE_A_THICK, F.MARKER_STYLE_A_LABEL, F.MARKER_STYLE_A_FLASH]
/-- `MARKER_STYLE_B` (R463). -/
def R.MARKER_STYLE_B : Reg := ⟨0x0D00204, 16, 8, 0, 1⟩
def F.MARKER_STYLE_B_Y : Field := ⟨R.MARKER_STYLE_B, 0, 10, .sw, .special, .any⟩
def F.MARKER_STYLE_B_CB : Field := ⟨R.MARKER_STYLE_B, 16, 10, .sw, .special, .any⟩
def W.MARKER_STYLE_B : List Field := [F.MARKER_STYLE_B_Y, F.MARKER_STYLE_B_CB]
/-- `MARKER_STYLE_C` (R463). -/
def R.MARKER_STYLE_C : Reg := ⟨0x0D00208, 16, 8, 0, 1⟩
def F.MARKER_STYLE_C_CR : Field := ⟨R.MARKER_STYLE_C, 0, 10, .sw, .special, .any⟩
def F.MARKER_STYLE_C_ALPHA : Field := ⟨R.MARKER_STYLE_C, 16, 8, .sw, .special, .any⟩
def W.MARKER_STYLE_C : List Field := [F.MARKER_STYLE_C_CR, F.MARKER_STYLE_C_ALPHA]
/-- `MARKER_MAP` (R463). -/
def R.MARKER_MAP : Reg := ⟨0x0D00400, 4, 96, 0, 1⟩
def F.MARKER_MAP_STYLE : Field := ⟨R.MARKER_MAP, 0, 32, .sw, .c 0, .any⟩
def W.MARKER_MAP : List Field := [F.MARKER_MAP_STYLE]
/-- `GUARD_PAL_A` (R463). -/
def R.GUARD_PAL_A : Reg := ⟨0x0D01000, 8, 512, 0, 1⟩
def F.GUARD_PAL_A_Y : Field := ⟨R.GUARD_PAL_A, 0, 10, .sw, .c 64, .any⟩
def F.GUARD_PAL_A_CB : Field := ⟨R.GUARD_PAL_A, 16, 10, .sw, .c 512, .any⟩
def W.GUARD_PAL_A : List Field := [F.GUARD_PAL_A_Y, F.GUARD_PAL_A_CB]
/-- `GUARD_PAL_B` (R463). -/
def R.GUARD_PAL_B : Reg := ⟨0x0D01004, 8, 512, 0, 1⟩
def F.GUARD_PAL_B_CR : Field := ⟨R.GUARD_PAL_B, 0, 10, .sw, .c 512, .any⟩
def F.GUARD_PAL_B_ALPHA : Field := ⟨R.GUARD_PAL_B, 16, 8, .sw, .c 0, .any⟩
def W.GUARD_PAL_B : List Field := [F.GUARD_PAL_B_CR, F.GUARD_PAL_B_ALPHA]
def fieldsGUARD0 : List Field := [F.GUARD_STATUS_KEY_OK, F.GUARD_STATUS_KEY_SW, F.GUARD_HIST_ACCEPTED, F.GUARD_HIST_REJECTED, F.GUARD_HIST_REPLAY, F.GUARD_HIST_DEFERRED, F.GUARD_HIST_FALLBACK_USED, F.GUARD_HIST_CONTENT_RESET, F.GUARD_IRQ_EN_EN, F.GUARD_CTR_LO_CTR, F.GUARD_CTR_HI_CTR, F.GUARD_ACCEPT_CNT_COUNT, F.GUARD_REJECT_CNT_COUNT, F.GUARD_LOCK_LOCK, F.MARKER_STYLE_A_KIND, F.MARKER_STYLE_A_SCALE, F.MARKER_STYLE_A_AGE, F.MARKER_STYLE_A_LABEL_EN, F.MARKER_STYLE_A_THICK, F.MARKER_STYLE_A_LABEL, F.MARKER_STYLE_A_FLASH, F.MARKER_STYLE_B_Y, F.MARKER_STYLE_B_CB, F.MARKER_STYLE_C_CR, F.MARKER_STYLE_C_ALPHA, F.MARKER_MAP_STYLE, F.GUARD_PAL_A_Y, F.GUARD_PAL_A_CB, F.GUARD_PAL_B_CR, F.GUARD_PAL_B_ALPHA]
/-- Every field of block GUARD. -/
def fieldsGUARD : List Field := fieldsGUARD0

/-! ### AUD -/

/-- `AUD_CFG` (R492). -/
def R.AUD_CFG : Reg := ⟨0x0E00100, 0, 1, 0, 1⟩
def F.AUD_CFG_FADE_MS : Field := ⟨R.AUD_CFG, 0, 7, .rw, .c 10, .range 1 100⟩
def F.AUD_CFG_XFADE_MS : Field := ⟨R.AUD_CFG, 8, 7, .rw, .c 5, .range 0 64⟩
def W.AUD_CFG : List Field := [F.AUD_CFG_FADE_MS, F.AUD_CFG_XFADE_MS]
/-- `AUD_STATUS` (R492). -/
def R.AUD_STATUS : Reg := ⟨0x0E00104, 0, 1, 0, 1⟩
def F.AUD_STATUS_FAB_BLOCKS_USED : Field := ⟨R.AUD_STATUS, 0, 8, .ro, .c 0, .any⟩
def W.AUD_STATUS : List Field := [F.AUD_STATUS_FAB_BLOCKS_USED]
/-- `AUD_HIST` (R492). -/
def R.AUD_HIST : Reg := ⟨0x0E00108, 0, 1, 0, 1⟩
def F.AUD_HIST_POOL_FULL : Field := ⟨R.AUD_HIST, 0, 1, .w1c, .c 0, .any⟩
def F.AUD_HIST_XFADE_WAITED : Field := ⟨R.AUD_HIST, 1, 1, .w1c, .c 0, .any⟩
def F.AUD_HIST_STARTED : Field := ⟨R.AUD_HIST, 2, 1, .w1c, .c 0, .any⟩
def F.AUD_HIST_CFG_REJECTED : Field := ⟨R.AUD_HIST, 3, 1, .w1c, .c 0, .any⟩
def W.AUD_HIST : List Field := [F.AUD_HIST_POOL_FULL, F.AUD_HIST_XFADE_WAITED, F.AUD_HIST_STARTED, F.AUD_HIST_CFG_REJECTED]
/-- `AUD_IRQ_EN` (R492). -/
def R.AUD_IRQ_EN : Reg := ⟨0x0E0010C, 0, 1, 0, 1⟩
def F.AUD_IRQ_EN_EN : Field := ⟨R.AUD_IRQ_EN, 0, 4, .rw, .c 0, .any⟩
def W.AUD_IRQ_EN : List Field := [F.AUD_IRQ_EN_EN]
/-- `AUD_FAB_MISS_CNT` (R492). -/
def R.AUD_FAB_MISS_CNT : Reg := ⟨0x0E00110, 0, 1, 0, 1⟩
def F.AUD_FAB_MISS_CNT_COUNT : Field := ⟨R.AUD_FAB_MISS_CNT, 0, 32, .rcl, .c 0, .any⟩
def W.AUD_FAB_MISS_CNT : List Field := [F.AUD_FAB_MISS_CNT_COUNT]
/-- `SAP_START_MASK` (R492). -/
def R.SAP_START_MASK : Reg := ⟨0x0E00120, 0, 1, 0, 1⟩
def F.SAP_START_MASK_RX : Field := ⟨R.SAP_START_MASK, 0, 16, .ro, .c 0, .any⟩
def F.SAP_START_MASK_TX : Field := ⟨R.SAP_START_MASK, 16, 16, .ro, .c 0, .any⟩
def W.SAP_START_MASK : List Field := [F.SAP_START_MASK_RX, F.SAP_START_MASK_TX]
/-- `SAP_START_LO` (R492). -/
def R.SAP_START_LO : Reg := ⟨0x0E00124, 0, 1, 0, 1⟩
def F.SAP_START_LO_FRAME : Field := ⟨R.SAP_START_LO, 0, 32, .ro, .c 0, .any⟩
def W.SAP_START_LO : List Field := [F.SAP_START_LO_FRAME]
/-- `SAP_START_HI` (R492). -/
def R.SAP_START_HI : Reg := ⟨0x0E00128, 0, 1, 0, 1⟩
def F.SAP_START_HI_FRAME : Field := ⟨R.SAP_START_HI, 0, 16, .ro, .c 0, .any⟩
def F.SAP_START_HI_TL : Field := ⟨R.SAP_START_HI, 16, 1, .ro, .c 0, .any⟩
def F.SAP_START_HI_ARMED : Field := ⟨R.SAP_START_HI, 17, 1, .ro, .c 0, .any⟩
def W.SAP_START_HI : List Field := [F.SAP_START_HI_FRAME, F.SAP_START_HI_TL, F.SAP_START_HI_ARMED]
/-- `AUD_GRP_PEND` (R492). -/
def R.AUD_GRP_PEND : Reg := ⟨0x0E00140, 4, 29, 0, 1⟩
def F.AUD_GRP_PEND_PEND : Field := ⟨R.AUD_GRP_PEND, 0, 32, .ro, .c 0, .any⟩
def W.AUD_GRP_PEND : List Field := [F.AUD_GRP_PEND_PEND]
/-- `AUD_TONE` (R492). -/
def R.AUD_TONE : Reg := ⟨0x0E00200, 4, 16, 0, 1⟩
def F.AUD_TONE_EN : Field := ⟨R.AUD_TONE, 0, 1, .rw, .c 0, .any⟩
def F.AUD_TONE_FREQ : Field := ⟨R.AUD_TONE, 1, 15, .rw, .c 1000, .range 20 20000⟩
def F.AUD_TONE_ATTEN : Field := ⟨R.AUD_TONE, 16, 7, .rw, .c 18, .any⟩
def W.AUD_TONE : List Field := [F.AUD_TONE_EN, F.AUD_TONE_FREQ, F.AUD_TONE_ATTEN]
/-- `AUD_SRCMAP` (R492). -/
def R.AUD_SRCMAP : Reg := ⟨0x0E00400, 4, 336, 0, 1⟩
def F.AUD_SRCMAP_FIRST : Field := ⟨R.AUD_SRCMAP, 0, 13, .rw, .special, .any⟩
def F.AUD_SRCMAP_COUNT : Field := ⟨R.AUD_SRCMAP, 16, 6, .rw, .special, .range 0 32⟩
def W.AUD_SRCMAP : List Field := [F.AUD_SRCMAP_FIRST, F.AUD_SRCMAP_COUNT]
/-- `AUD_OUTMAP` (R492). -/
def R.AUD_OUTMAP : Reg := ⟨0x0E00A00, 4, 128, 0, 1⟩
def F.AUD_OUTMAP_FIRST : Field := ⟨R.AUD_OUTMAP, 0, 13, .ro, .c 4096, .any⟩
def F.AUD_OUTMAP_COUNT : Field := ⟨R.AUD_OUTMAP, 16, 6, .ro, .c 0, .any⟩
def W.AUD_OUTMAP : List Field := [F.AUD_OUTMAP_FIRST, F.AUD_OUTMAP_COUNT]
/-- `AUD_GRP_CFG` (R492). -/
def R.AUD_GRP_CFG : Reg := ⟨0x0E01000, 32, 912, 0, 1⟩
def F.AUD_GRP_CFG_DELAY : Field := ⟨R.AUD_GRP_CFG, 0, 9, .rw, .special, .any⟩
def F.AUD_GRP_CFG_FIRST : Field := ⟨R.AUD_GRP_CFG, 16, 13, .ro, .special, .any⟩
def W.AUD_GRP_CFG : List Field := [F.AUD_GRP_CFG_DELAY, F.AUD_GRP_CFG_FIRST]
/-- `AUD_GRP_STATUS` (R492). -/
def R.AUD_GRP_STATUS : Reg := ⟨0x0E01004, 32, 912, 0, 1⟩
def F.AUD_GRP_STATUS_STATE : Field := ⟨R.AUD_GRP_STATUS, 0, 3, .ro, .c 0, .any⟩
def F.AUD_GRP_STATUS_TIMELINE : Field := ⟨R.AUD_GRP_STATUS, 3, 1, .ro, .special, .any⟩
def F.AUD_GRP_STATUS_FILL : Field := ⟨R.AUD_GRP_STATUS, 4, 7, .ro, .c 0, .any⟩
def F.AUD_GRP_STATUS_RING : Field := ⟨R.AUD_GRP_STATUS, 16, 9, .ro, .c 0, .any⟩
def W.AUD_GRP_STATUS : List Field := [F.AUD_GRP_STATUS_STATE, F.AUD_GRP_STATUS_TIMELINE, F.AUD_GRP_STATUS_FILL, F.AUD_GRP_STATUS_RING]
/-- `AUD_GRP_OFS` (R492). -/
def R.AUD_GRP_OFS : Reg := ⟨0x0E01008, 32, 912, 0, 1⟩
def F.AUD_GRP_OFS_OFS : Field := ⟨R.AUD_GRP_OFS, 0, 32, .ro, .c 0, .any⟩
def W.AUD_GRP_OFS : List Field := [F.AUD_GRP_OFS_OFS]
/-- `AUD_GRP_HIST` (R492). -/
def R.AUD_GRP_HIST : Reg := ⟨0x0E0100C, 32, 912, 0, 1⟩
def F.AUD_GRP_HIST_UNDERRUN : Field := ⟨R.AUD_GRP_HIST, 0, 1, .w1c, .c 0, .any⟩
def F.AUD_GRP_HIST_OVERRUN : Field := ⟨R.AUD_GRP_HIST, 1, 1, .w1c, .c 0, .any⟩
def F.AUD_GRP_HIST_GAP : Field := ⟨R.AUD_GRP_HIST, 2, 1, .w1c, .c 0, .any⟩
def F.AUD_GRP_HIST_RESYNC : Field := ⟨R.AUD_GRP_HIST, 3, 1, .w1c, .c 0, .any⟩
def F.AUD_GRP_HIST_CFG_REJECTED : Field := ⟨R.AUD_GRP_HIST, 4, 1, .w1c, .c 0, .any⟩
def W.AUD_GRP_HIST : List Field := [F.AUD_GRP_HIST_UNDERRUN, F.AUD_GRP_HIST_OVERRUN, F.AUD_GRP_HIST_GAP, F.AUD_GRP_HIST_RESYNC, F.AUD_GRP_HIST_CFG_REJECTED]
/-- `AUD_GRP_IRQ_EN` (R492). -/
def R.AUD_GRP_IRQ_EN : Reg := ⟨0x0E01010, 32, 912, 0, 1⟩
def F.AUD_GRP_IRQ_EN_EN : Field := ⟨R.AUD_GRP_IRQ_EN, 0, 5, .rw, .c 0, .any⟩
def W.AUD_GRP_IRQ_EN : List Field := [F.AUD_GRP_IRQ_EN_EN]
/-- `AUD_GRP_UNDER_CNT` (R492). -/
def R.AUD_GRP_UNDER_CNT : Reg := ⟨0x0E01014, 32, 912, 0, 1⟩
def F.AUD_GRP_UNDER_CNT_COUNT : Field := ⟨R.AUD_GRP_UNDER_CNT, 0, 32, .rcl, .c 0, .any⟩
def W.AUD_GRP_UNDER_CNT : List Field := [F.AUD_GRP_UNDER_CNT_COUNT]
/-- `AUD_GRP_OVER_CNT` (R492). -/
def R.AUD_GRP_OVER_CNT : Reg := ⟨0x0E01018, 32, 912, 0, 1⟩
def F.AUD_GRP_OVER_CNT_COUNT : Field := ⟨R.AUD_GRP_OVER_CNT, 0, 32, .rcl, .c 0, .any⟩
def W.AUD_GRP_OVER_CNT : List Field := [F.AUD_GRP_OVER_CNT_COUNT]
/-- `SAP_CFG` (R492). -/
def R.SAP_CFG : Reg := ⟨0x0E09000, 64, 16, 0, 1⟩
def F.SAP_CFG_MODE : Field := ⟨R.SAP_CFG, 0, 2, .rw, .c 0, .any⟩
def F.SAP_CFG_CH : Field := ⟨R.SAP_CFG, 2, 2, .rw, .c 3, .any⟩
def F.SAP_CFG_RX_MASTER : Field := ⟨R.SAP_CFG, 4, 1, .rw, .c 1, .any⟩
def F.SAP_CFG_TX_MASTER : Field := ⟨R.SAP_CFG, 5, 1, .rw, .c 1, .any⟩
def F.SAP_CFG_DELAY1 : Field := ⟨R.SAP_CFG, 6, 1, .rw, .c 1, .any⟩
def F.SAP_CFG_BCLK_POL : Field := ⟨R.SAP_CFG, 7, 1, .rw, .c 0, .any⟩
def F.SAP_CFG_WAIT_START : Field := ⟨R.SAP_CFG, 8, 1, .rw, .c 0, .any⟩
def F.SAP_CFG_ASRC : Field := ⟨R.SAP_CFG, 9, 1, .rw, .c 1, .any⟩
def F.SAP_CFG_RX_EN : Field := ⟨R.SAP_CFG, 10, 1, .rw, .c 0, .any⟩
def F.SAP_CFG_TX_EN : Field := ⟨R.SAP_CFG, 11, 1, .rw, .c 0, .any⟩
def W.SAP_CFG : List Field := [F.SAP_CFG_MODE, F.SAP_CFG_CH, F.SAP_CFG_RX_MASTER, F.SAP_CFG_TX_MASTER, F.SAP_CFG_DELAY1, F.SAP_CFG_BCLK_POL, F.SAP_CFG_WAIT_START, F.SAP_CFG_ASRC, F.SAP_CFG_RX_EN, F.SAP_CFG_TX_EN]
/-- `SAP_STATUS` (R492). -/
def R.SAP_STATUS : Reg := ⟨0x0E09004, 64, 16, 0, 1⟩
def F.SAP_STATUS_RX_STATE : Field := ⟨R.SAP_STATUS, 0, 2, .ro, .c 0, .any⟩
def F.SAP_STATUS_TX_STATE : Field := ⟨R.SAP_STATUS, 2, 2, .ro, .c 0, .any⟩
def F.SAP_STATUS_AES_LOCK : Field := ⟨R.SAP_STATUS, 4, 1, .ro, .c 0, .any⟩
def F.SAP_STATUS_ASRC_MUTED : Field := ⟨R.SAP_STATUS, 5, 1, .ro, .c 0, .any⟩
def F.SAP_STATUS_RX_RATE : Field := ⟨R.SAP_STATUS, 14, 18, .ro, .c 0, .any⟩
def W.SAP_STATUS : List Field := [F.SAP_STATUS_RX_STATE, F.SAP_STATUS_TX_STATE, F.SAP_STATUS_AES_LOCK, F.SAP_STATUS_ASRC_MUTED, F.SAP_STATUS_RX_RATE]
/-- `SAP_HIST` (R492). -/
def R.SAP_HIST : Reg := ⟨0x0E09008, 64, 16, 0, 1⟩
def F.SAP_HIST_RX_STARTED : Field := ⟨R.SAP_HIST, 0, 1, .w1c, .c 0, .any⟩
def F.SAP_HIST_TX_STARTED : Field := ⟨R.SAP_HIST, 1, 1, .w1c, .c 0, .any⟩
def F.SAP_HIST_CLK_LOST : Field := ⟨R.SAP_HIST, 2, 1, .w1c, .c 0, .any⟩
def F.SAP_HIST_AES_LOCK_GAINED : Field := ⟨R.SAP_HIST, 3, 1, .w1c, .c 0, .any⟩
def F.SAP_HIST_AES_LOCK_LOST : Field := ⟨R.SAP_HIST, 4, 1, .w1c, .c 0, .any⟩
def F.SAP_HIST_ASRC_RESET : Field := ⟨R.SAP_HIST, 5, 1, .w1c, .c 0, .any⟩
def F.SAP_HIST_PARITY_ERR : Field := ⟨R.SAP_HIST, 6, 1, .w1c, .c 0, .any⟩
def F.SAP_HIST_CS_CRC_ERR : Field := ⟨R.SAP_HIST, 7, 1, .w1c, .c 0, .any⟩
def F.SAP_HIST_CFG_REJECTED : Field := ⟨R.SAP_HIST, 8, 1, .w1c, .c 0, .any⟩
def W.SAP_HIST : List Field := [F.SAP_HIST_RX_STARTED, F.SAP_HIST_TX_STARTED, F.SAP_HIST_CLK_LOST, F.SAP_HIST_AES_LOCK_GAINED, F.SAP_HIST_AES_LOCK_LOST, F.SAP_HIST_ASRC_RESET, F.SAP_HIST_PARITY_ERR, F.SAP_HIST_CS_CRC_ERR, F.SAP_HIST_CFG_REJECTED]
/-- `SAP_IRQ_EN` (R492). -/
def R.SAP_IRQ_EN : Reg := ⟨0x0E0900C, 64, 16, 0, 1⟩
def F.SAP_IRQ_EN_EN : Field := ⟨R.SAP_IRQ_EN, 0, 9, .rw, .c 0, .any⟩
def W.SAP_IRQ_EN : List Field := [F.SAP_IRQ_EN_EN]
/-- `SAP_CS_TX` (R492). -/
def R.SAP_CS_TX : Reg := ⟨0x0E09010, 64, 16, 0, 1⟩
def F.SAP_CS_TX_CS : Field := ⟨R.SAP_CS_TX, 0, 32, .rw, .c 1, .any⟩
def W.SAP_CS_TX : List Field := [F.SAP_CS_TX_CS]
/-- `SAP_CS_RX` (R492). -/
def R.SAP_CS_RX : Reg := ⟨0x0E09014, 64, 16, 0, 1⟩
def F.SAP_CS_RX_CS : Field := ⟨R.SAP_CS_RX, 0, 32, .ro, .c 0, .any⟩
def W.SAP_CS_RX : List Field := [F.SAP_CS_RX_CS]
/-- `SAP_ERR_CNT` (R492). -/
def R.SAP_ERR_CNT : Reg := ⟨0x0E09018, 64, 16, 0, 1⟩
def F.SAP_ERR_CNT_COUNT : Field := ⟨R.SAP_ERR_CNT, 0, 32, .rcl, .c 0, .any⟩
def W.SAP_ERR_CNT : List Field := [F.SAP_ERR_CNT_COUNT]
/-- `AUD_XP` (R492). -/
def R.AUD_XP : Reg := ⟨0x0E10000, 4, 8192, 0, 1⟩
def F.AUD_XP_SRC : Field := ⟨R.AUD_XP, 0, 13, .rw, .c 0, .any⟩
def F.AUD_XP_MODE : Field := ⟨R.AUD_XP, 13, 2, .rw, .c 0, .range 0 2⟩
def F.AUD_XP_XFADING : Field := ⟨R.AUD_XP, 15, 1, .ro, .c 0, .any⟩
def W.AUD_XP : List Field := [F.AUD_XP_SRC, F.AUD_XP_MODE, F.AUD_XP_XFADING]
def fieldsAUD0 : List Field := [F.AUD_CFG_FADE_MS, F.AUD_CFG_XFADE_MS, F.AUD_STATUS_FAB_BLOCKS_USED, F.AUD_HIST_POOL_FULL, F.AUD_HIST_XFADE_WAITED, F.AUD_HIST_STARTED, F.AUD_HIST_CFG_REJECTED, F.AUD_IRQ_EN_EN, F.AUD_FAB_MISS_CNT_COUNT, F.SAP_START_MASK_RX, F.SAP_START_MASK_TX, F.SAP_START_LO_FRAME, F.SAP_START_HI_FRAME, F.SAP_START_HI_TL, F.SAP_START_HI_ARMED, F.AUD_GRP_PEND_PEND, F.AUD_TONE_EN, F.AUD_TONE_FREQ, F.AUD_TONE_ATTEN, F.AUD_SRCMAP_FIRST, F.AUD_SRCMAP_COUNT, F.AUD_OUTMAP_FIRST, F.AUD_OUTMAP_COUNT, F.AUD_GRP_CFG_DELAY, F.AUD_GRP_CFG_FIRST, F.AUD_GRP_STATUS_STATE, F.AUD_GRP_STATUS_TIMELINE, F.AUD_GRP_STATUS_FILL, F.AUD_GRP_STATUS_RING, F.AUD_GRP_OFS_OFS, F.AUD_GRP_HIST_UNDERRUN, F.AUD_GRP_HIST_OVERRUN, F.AUD_GRP_HIST_GAP, F.AUD_GRP_HIST_RESYNC, F.AUD_GRP_HIST_CFG_REJECTED, F.AUD_GRP_IRQ_EN_EN, F.AUD_GRP_UNDER_CNT_COUNT, F.AUD_GRP_OVER_CNT_COUNT, F.SAP_CFG_MODE, F.SAP_CFG_CH]
def fieldsAUD1 : List Field := [F.SAP_CFG_RX_MASTER, F.SAP_CFG_TX_MASTER, F.SAP_CFG_DELAY1, F.SAP_CFG_BCLK_POL, F.SAP_CFG_WAIT_START, F.SAP_CFG_ASRC, F.SAP_CFG_RX_EN, F.SAP_CFG_TX_EN, F.SAP_STATUS_RX_STATE, F.SAP_STATUS_TX_STATE, F.SAP_STATUS_AES_LOCK, F.SAP_STATUS_ASRC_MUTED, F.SAP_STATUS_RX_RATE, F.SAP_HIST_RX_STARTED, F.SAP_HIST_TX_STARTED, F.SAP_HIST_CLK_LOST, F.SAP_HIST_AES_LOCK_GAINED, F.SAP_HIST_AES_LOCK_LOST, F.SAP_HIST_ASRC_RESET, F.SAP_HIST_PARITY_ERR, F.SAP_HIST_CS_CRC_ERR, F.SAP_HIST_CFG_REJECTED, F.SAP_IRQ_EN_EN, F.SAP_CS_TX_CS, F.SAP_CS_RX_CS, F.SAP_ERR_CNT_COUNT, F.AUD_XP_SRC, F.AUD_XP_MODE, F.AUD_XP_XFADING]
/-- Every field of block AUD. -/
def fieldsAUD : List Field := fieldsAUD0 ++ fieldsAUD1

/-! ### WIT -/

/-- `WIT_CFG` (R533). -/
def R.WIT_CFG : Reg := ⟨0x0F00100, 0, 1, 0, 1⟩
def F.WIT_CFG_EN : Field := ⟨R.WIT_CFG, 0, 1, .rw, .c 0, .any⟩
def F.WIT_CFG_PROXY_DIV : Field := ⟨R.WIT_CFG, 1, 2, .ro, .c 0, .any⟩
def F.WIT_CFG_SEAL_S : Field := ⟨R.WIT_CFG, 8, 8, .rw, .c 30, .range 8 255⟩
def F.WIT_CFG_RATE_KBPS : Field := ⟨R.WIT_CFG, 16, 16, .rw, .c 3700, .range 1000 8000⟩
def W.WIT_CFG : List Field := [F.WIT_CFG_EN, F.WIT_CFG_PROXY_DIV, F.WIT_CFG_SEAL_S, F.WIT_CFG_RATE_KBPS]
/-- `WIT_STATUS` (R533). -/
def R.WIT_STATUS : Reg := ⟨0x0F00104, 0, 1, 0, 1⟩
def F.WIT_STATUS_STATE : Field := ⟨R.WIT_STATUS, 0, 2, .ro, .c 0, .any⟩
def F.WIT_STATUS_LAYOUT : Field := ⟨R.WIT_STATUS, 2, 2, .ro, .c 0, .any⟩
def F.WIT_STATUS_MOUNTED : Field := ⟨R.WIT_STATUS, 4, 1, .ro, .c 0, .any⟩
def F.WIT_STATUS_DEGRADED : Field := ⟨R.WIT_STATUS, 5, 1, .ro, .c 0, .any⟩
def F.WIT_STATUS_ENCRYPTED : Field := ⟨R.WIT_STATUS, 6, 1, .ro, .c 0, .any⟩
def F.WIT_STATUS_REBUILDING : Field := ⟨R.WIT_STATUS, 7, 1, .ro, .c 0, .any⟩
def W.WIT_STATUS : List Field := [F.WIT_STATUS_STATE, F.WIT_STATUS_LAYOUT, F.WIT_STATUS_MOUNTED, F.WIT_STATUS_DEGRADED, F.WIT_STATUS_ENCRYPTED, F.WIT_STATUS_REBUILDING]
/-- `WIT_HIST` (R533). -/
def R.WIT_HIST : Reg := ⟨0x0F00108, 0, 1, 0, 1⟩
def F.WIT_HIST_MOUNTED : Field := ⟨R.WIT_HIST, 0, 1, .w1c, .c 0, .any⟩
def F.WIT_HIST_BALE_DROP : Field := ⟨R.WIT_HIST, 1, 1, .w1c, .c 0, .any⟩
def F.WIT_HIST_PIC_DROP : Field := ⟨R.WIT_HIST, 2, 1, .w1c, .c 0, .any⟩
def F.WIT_HIST_UNSIGNED : Field := ⟨R.WIT_HIST, 3, 1, .w1c, .c 0, .any⟩
def F.WIT_HIST_DRIVE_LOST : Field := ⟨R.WIT_HIST, 4, 1, .w1c, .c 0, .any⟩
def F.WIT_HIST_WEAR_WARN : Field := ⟨R.WIT_HIST, 5, 1, .w1c, .c 0, .any⟩
def F.WIT_HIST_INC_TRIGGERED : Field := ⟨R.WIT_HIST, 6, 1, .w1c, .c 0, .any⟩
def F.WIT_HIST_INC_DONE : Field := ⟨R.WIT_HIST, 7, 1, .w1c, .c 0, .any⟩
def F.WIT_HIST_SHORT_PRE : Field := ⟨R.WIT_HIST, 8, 1, .w1c, .c 0, .any⟩
def F.WIT_HIST_TRIG_MISSED : Field := ⟨R.WIT_HIST, 9, 1, .w1c, .c 0, .any⟩
def F.WIT_HIST_INC_DROP : Field := ⟨R.WIT_HIST, 10, 1, .w1c, .c 0, .any⟩
def F.WIT_HIST_CFG_REJECTED : Field := ⟨R.WIT_HIST, 11, 1, .w1c, .c 0, .any⟩
def W.WIT_HIST : List Field := [F.WIT_HIST_MOUNTED, F.WIT_HIST_BALE_DROP, F.WIT_HIST_PIC_DROP, F.WIT_HIST_UNSIGNED, F.WIT_HIST_DRIVE_LOST, F.WIT_HIST_WEAR_WARN, F.WIT_HIST_INC_TRIGGERED, F.WIT_HIST_INC_DONE, F.WIT_HIST_SHORT_PRE, F.WIT_HIST_TRIG_MISSED, F.WIT_HIST_INC_DROP, F.WIT_HIST_CFG_REJECTED]
/-- `WIT_IRQ_EN` (R533). -/
def R.WIT_IRQ_EN : Reg := ⟨0x0F0010C, 0, 1, 0, 1⟩
def F.WIT_IRQ_EN_EN : Field := ⟨R.WIT_IRQ_EN, 0, 12, .rw, .c 0, .any⟩
def W.WIT_IRQ_EN : List Field := [F.WIT_IRQ_EN_EN]
/-- `WIT_BALE_DROP_CNT` (R533). -/
def R.WIT_BALE_DROP_CNT : Reg := ⟨0x0F00120, 0, 1, 0, 1⟩
def F.WIT_BALE_DROP_CNT_COUNT : Field := ⟨R.WIT_BALE_DROP_CNT, 0, 32, .rcl, .c 0, .any⟩
def W.WIT_BALE_DROP_CNT : List Field := [F.WIT_BALE_DROP_CNT_COUNT]
/-- `WIT_PIC_DROP_CNT` (R533). -/
def R.WIT_PIC_DROP_CNT : Reg := ⟨0x0F00124, 0, 1, 0, 1⟩
def F.WIT_PIC_DROP_CNT_COUNT : Field := ⟨R.WIT_PIC_DROP_CNT, 0, 32, .rcl, .c 0, .any⟩
def W.WIT_PIC_DROP_CNT : List Field := [F.WIT_PIC_DROP_CNT_COUNT]
/-- `WIT_UNSIGNED_CNT` (R533). -/
def R.WIT_UNSIGNED_CNT : Reg := ⟨0x0F00128, 0, 1, 0, 1⟩
def F.WIT_UNSIGNED_CNT_COUNT : Field := ⟨R.WIT_UNSIGNED_CNT, 0, 32, .rcl, .c 0, .any⟩
def W.WIT_UNSIGNED_CNT : List Field := [F.WIT_UNSIGNED_CNT_COUNT]
/-- `WIT_TAP_MASK` (R533). -/
def R.WIT_TAP_MASK : Reg := ⟨0x0F00140, 4, 8, 0, 1⟩
def F.WIT_TAP_MASK_MASK : Field := ⟨R.WIT_TAP_MASK, 0, 32, .rw, .c 4294967295, .any⟩
def W.WIT_TAP_MASK : List Field := [F.WIT_TAP_MASK_MASK]
/-- `WIT_DRV_STATUS` (R533). -/
def R.WIT_DRV_STATUS : Reg := ⟨0x0F00200, 32, 2, 0, 1⟩
def F.WIT_DRV_STATUS_STATE : Field := ⟨R.WIT_DRV_STATUS, 0, 3, .ro, .c 0, .any⟩
def F.WIT_DRV_STATUS_LBA4K : Field := ⟨R.WIT_DRV_STATUS, 3, 1, .ro, .c 0, .any⟩
def F.WIT_DRV_STATUS_USED : Field := ⟨R.WIT_DRV_STATUS, 4, 8, .ro, .c 0, .any⟩
def F.WIT_DRV_STATUS_SPARE : Field := ⟨R.WIT_DRV_STATUS, 12, 8, .ro, .c 0, .any⟩
def F.WIT_DRV_STATUS_CRIT : Field := ⟨R.WIT_DRV_STATUS, 20, 1, .ro, .c 0, .any⟩
def W.WIT_DRV_STATUS : List Field := [F.WIT_DRV_STATUS_STATE, F.WIT_DRV_STATUS_LBA4K, F.WIT_DRV_STATUS_USED, F.WIT_DRV_STATUS_SPARE, F.WIT_DRV_STATUS_CRIT]
/-- `WIT_DRV_SLOTS_LO` (R533). -/
def R.WIT_DRV_SLOTS_LO : Reg := ⟨0x0F00204, 32, 2, 0, 1⟩
def F.WIT_DRV_SLOTS_LO_SLOTS : Field := ⟨R.WIT_DRV_SLOTS_LO, 0, 32, .ro, .c 0, .any⟩
def W.WIT_DRV_SLOTS_LO : List Field := [F.WIT_DRV_SLOTS_LO_SLOTS]
/-- `WIT_DRV_SLOTS_HI` (R533). -/
def R.WIT_DRV_SLOTS_HI : Reg := ⟨0x0F00208, 32, 2, 0, 1⟩
def F.WIT_DRV_SLOTS_HI_SLOTS : Field := ⟨R.WIT_DRV_SLOTS_HI, 0, 32, .ro, .c 0, .any⟩
def W.WIT_DRV_SLOTS_HI : List Field := [F.WIT_DRV_SLOTS_HI_SLOTS]
/-- `WIT_DRV_ERR_CNT` (R533). -/
def R.WIT_DRV_ERR_CNT : Reg := ⟨0x0F0020C, 32, 2, 0, 1⟩
def F.WIT_DRV_ERR_CNT_COUNT : Field := ⟨R.WIT_DRV_ERR_CNT, 0, 32, .rcl, .c 0, .any⟩
def W.WIT_DRV_ERR_CNT : List Field := [F.WIT_DRV_ERR_CNT_COUNT]
/-- `WIT_DRV_WEAR` (R533). -/
def R.WIT_DRV_WEAR : Reg := ⟨0x0F00210, 32, 2, 0, 1⟩
def F.WIT_DRV_WEAR_WEAR_WARN : Field := ⟨R.WIT_DRV_WEAR, 0, 8, .rw, .c 80, .any⟩
def W.WIT_DRV_WEAR : List Field := [F.WIT_DRV_WEAR_WEAR_WARN]
/-- `INC_CFG` (R533). -/
def R.INC_CFG : Reg := ⟨0x0F00300, 0, 1, 0, 1⟩
def F.INC_CFG_EN : Field := ⟨R.INC_CFG, 0, 1, .ro, .c 0, .any⟩
def F.INC_CFG_TRIG_EN : Field := ⟨R.INC_CFG, 1, 1, .ro, .c 0, .any⟩
def F.INC_CFG_TRIG_POL : Field := ⟨R.INC_CFG, 2, 1, .ro, .c 0, .any⟩
def F.INC_CFG_STALE_TRIG : Field := ⟨R.INC_CFG, 3, 1, .ro, .c 0, .any⟩
def F.INC_CFG_PRE_S : Field := ⟨R.INC_CFG, 8, 5, .ro, .c 20, .any⟩
def F.INC_CFG_POST_S : Field := ⟨R.INC_CFG, 16, 6, .ro, .c 30, .any⟩
def W.INC_CFG : List Field := [F.INC_CFG_EN, F.INC_CFG_TRIG_EN, F.INC_CFG_TRIG_POL, F.INC_CFG_STALE_TRIG, F.INC_CFG_PRE_S, F.INC_CFG_POST_S]
/-- `INC_STATUS` (R533). -/
def R.INC_STATUS : Reg := ⟨0x0F00304, 0, 1, 0, 1⟩
def F.INC_STATUS_STATE : Field := ⟨R.INC_STATUS, 0, 2, .ro, .c 0, .any⟩
def F.INC_STATUS_UNITS : Field := ⟨R.INC_STATUS, 4, 4, .ro, .c 0, .any⟩
def W.INC_STATUS : List Field := [F.INC_STATUS_STATE, F.INC_STATUS_UNITS]
/-- `INC_CAPTURE` (R533). -/
def R.INC_CAPTURE : Reg := ⟨0x0F00308, 0, 1, 0, 1⟩
def F.INC_CAPTURE_CAPTURE : Field := ⟨R.INC_CAPTURE, 0, 32, .ro, .c 0, .any⟩
def W.INC_CAPTURE : List Field := [F.INC_CAPTURE_CAPTURE]
/-- `INC_PRE_FRAMES` (R533). -/
def R.INC_PRE_FRAMES : Reg := ⟨0x0F0030C, 0, 1, 0, 1⟩
def F.INC_PRE_FRAMES_FRAMES : Field := ⟨R.INC_PRE_FRAMES, 0, 32, .ro, .c 0, .any⟩
def W.INC_PRE_FRAMES : List Field := [F.INC_PRE_FRAMES_FRAMES]
/-- `INC_TRIG_CNT` (R533). -/
def R.INC_TRIG_CNT : Reg := ⟨0x0F00310, 0, 1, 0, 1⟩
def F.INC_TRIG_CNT_COUNT : Field := ⟨R.INC_TRIG_CNT, 0, 32, .rcl, .c 0, .any⟩
def W.INC_TRIG_CNT : List Field := [F.INC_TRIG_CNT_COUNT]
/-- `INC_MISSED_CNT` (R533). -/
def R.INC_MISSED_CNT : Reg := ⟨0x0F00314, 0, 1, 0, 1⟩
def F.INC_MISSED_CNT_COUNT : Field := ⟨R.INC_MISSED_CNT, 0, 32, .rcl, .c 0, .any⟩
def W.INC_MISSED_CNT : List Field := [F.INC_MISSED_CNT_COUNT]
/-- `INC_DROP_CNT` (R533). -/
def R.INC_DROP_CNT : Reg := ⟨0x0F00318, 0, 1, 0, 1⟩
def F.INC_DROP_CNT_COUNT : Field := ⟨R.INC_DROP_CNT, 0, 32, .rcl, .c 0, .any⟩
def W.INC_DROP_CNT : List Field := [F.INC_DROP_CNT_COUNT]
/-- `INC_TAPS` (R533). -/
def R.INC_TAPS : Reg := ⟨0x0F00320, 4, 8, 0, 1⟩
def F.INC_TAPS_TAP : Field := ⟨R.INC_TAPS, 0, 8, .ro, .c 0, .any⟩
def F.INC_TAPS_VALID : Field := ⟨R.INC_TAPS, 8, 1, .ro, .c 0, .any⟩
def W.INC_TAPS : List Field := [F.INC_TAPS_TAP, F.INC_TAPS_VALID]
/-- `WIT_TAP_SEQ_LO` (R533). -/
def R.WIT_TAP_SEQ_LO : Reg := ⟨0x0F01000, 16, 256, 0, 1⟩
def F.WIT_TAP_SEQ_LO_SEQ : Field := ⟨R.WIT_TAP_SEQ_LO, 0, 32, .ro, .c 0, .any⟩
def W.WIT_TAP_SEQ_LO : List Field := [F.WIT_TAP_SEQ_LO_SEQ]
/-- `WIT_TAP_SEQ_HI` (R533). -/
def R.WIT_TAP_SEQ_HI : Reg := ⟨0x0F01004, 16, 256, 0, 1⟩
def F.WIT_TAP_SEQ_HI_SEQ : Field := ⟨R.WIT_TAP_SEQ_HI, 0, 32, .ro, .c 0, .any⟩
def W.WIT_TAP_SEQ_HI : List Field := [F.WIT_TAP_SEQ_HI_SEQ]
/-- `WIT_TAP_STATUS` (R533). -/
def R.WIT_TAP_STATUS : Reg := ⟨0x0F01008, 16, 256, 0, 1⟩
def F.WIT_TAP_STATUS_RECORDING : Field := ⟨R.WIT_TAP_STATUS, 0, 1, .ro, .c 0, .any⟩
def F.WIT_TAP_STATUS_OPEN : Field := ⟨R.WIT_TAP_STATUS, 1, 1, .ro, .c 0, .any⟩
def W.WIT_TAP_STATUS : List Field := [F.WIT_TAP_STATUS_RECORDING, F.WIT_TAP_STATUS_OPEN]
/-- `WIT_TAP_DROP_CNT` (R533). -/
def R.WIT_TAP_DROP_CNT : Reg := ⟨0x0F0100C, 16, 256, 0, 1⟩
def F.WIT_TAP_DROP_CNT_COUNT : Field := ⟨R.WIT_TAP_DROP_CNT, 0, 32, .rcl, .c 0, .any⟩
def W.WIT_TAP_DROP_CNT : List Field := [F.WIT_TAP_DROP_CNT_COUNT]
def fieldsWIT0 : List Field := [F.WIT_CFG_EN, F.WIT_CFG_PROXY_DIV, F.WIT_CFG_SEAL_S, F.WIT_CFG_RATE_KBPS, F.WIT_STATUS_STATE, F.WIT_STATUS_LAYOUT, F.WIT_STATUS_MOUNTED, F.WIT_STATUS_DEGRADED, F.WIT_STATUS_ENCRYPTED, F.WIT_STATUS_REBUILDING, F.WIT_HIST_MOUNTED, F.WIT_HIST_BALE_DROP, F.WIT_HIST_PIC_DROP, F.WIT_HIST_UNSIGNED, F.WIT_HIST_DRIVE_LOST, F.WIT_HIST_WEAR_WARN, F.WIT_HIST_INC_TRIGGERED, F.WIT_HIST_INC_DONE, F.WIT_HIST_SHORT_PRE, F.WIT_HIST_TRIG_MISSED, F.WIT_HIST_INC_DROP, F.WIT_HIST_CFG_REJECTED, F.WIT_IRQ_EN_EN, F.WIT_BALE_DROP_CNT_COUNT, F.WIT_PIC_DROP_CNT_COUNT, F.WIT_UNSIGNED_CNT_COUNT, F.WIT_TAP_MASK_MASK, F.WIT_DRV_STATUS_STATE, F.WIT_DRV_STATUS_LBA4K, F.WIT_DRV_STATUS_USED, F.WIT_DRV_STATUS_SPARE, F.WIT_DRV_STATUS_CRIT, F.WIT_DRV_SLOTS_LO_SLOTS, F.WIT_DRV_SLOTS_HI_SLOTS, F.WIT_DRV_ERR_CNT_COUNT, F.WIT_DRV_WEAR_WEAR_WARN, F.INC_CFG_EN, F.INC_CFG_TRIG_EN, F.INC_CFG_TRIG_POL, F.INC_CFG_STALE_TRIG]
def fieldsWIT1 : List Field := [F.INC_CFG_PRE_S, F.INC_CFG_POST_S, F.INC_STATUS_STATE, F.INC_STATUS_UNITS, F.INC_CAPTURE_CAPTURE, F.INC_PRE_FRAMES_FRAMES, F.INC_TRIG_CNT_COUNT, F.INC_MISSED_CNT_COUNT, F.INC_DROP_CNT_COUNT, F.INC_TAPS_TAP, F.INC_TAPS_VALID, F.WIT_TAP_SEQ_LO_SEQ, F.WIT_TAP_SEQ_HI_SEQ, F.WIT_TAP_STATUS_RECORDING, F.WIT_TAP_STATUS_OPEN, F.WIT_TAP_DROP_CNT_COUNT]
/-- Every field of block WIT. -/
def fieldsWIT : List Field := fieldsWIT0 ++ fieldsWIT1

/-! ### TWIN -/

/-- `TWIN_CFG` (R555). -/
def R.TWIN_CFG : Reg := ⟨0x1000100, 0, 1, 0, 1⟩
def F.TWIN_CFG_EN : Field := ⟨R.TWIN_CFG, 0, 1, .rw, .c 0, .any⟩
def F.TWIN_CFG_AUTO_RESYNC : Field := ⟨R.TWIN_CFG, 1, 1, .rw, .c 1, .any⟩
def F.TWIN_CFG_TL : Field := ⟨R.TWIN_CFG, 2, 1, .rw, .c 1, .any⟩
def F.TWIN_CFG_MISS_LIMIT : Field := ⟨R.TWIN_CFG, 8, 8, .rw, .c 3, .range 1 255⟩
def F.TWIN_CFG_MM_LIMIT : Field := ⟨R.TWIN_CFG, 16, 8, .rw, .c 3, .range 1 255⟩
def W.TWIN_CFG : List Field := [F.TWIN_CFG_EN, F.TWIN_CFG_AUTO_RESYNC, F.TWIN_CFG_TL, F.TWIN_CFG_MISS_LIMIT, F.TWIN_CFG_MM_LIMIT]
/-- `TWIN_SYNC` (R555). -/
def R.TWIN_SYNC : Reg := ⟨0x1000104, 0, 1, 0, 1⟩
def F.TWIN_SYNC_SYNC_FRAMES : Field := ⟨R.TWIN_SYNC, 0, 16, .rw, .c 60, .range 1 65535⟩
def W.TWIN_SYNC : List Field := [F.TWIN_SYNC_SYNC_FRAMES]
/-- `TWIN_STATUS` (R555). -/
def R.TWIN_STATUS : Reg := ⟨0x1000108, 0, 1, 0, 1⟩
def F.TWIN_STATUS_STATE : Field := ⟨R.TWIN_STATUS, 0, 3, .ro, .c 0, .any⟩
def F.TWIN_STATUS_ROLE : Field := ⟨R.TWIN_STATUS, 3, 1, .ro, .c 0, .any⟩
def F.TWIN_STATUS_SEL_BOW : Field := ⟨R.TWIN_STATUS, 4, 1, .ro, .c 0, .any⟩
def F.TWIN_STATUS_HB_ON : Field := ⟨R.TWIN_STATUS, 5, 1, .ro, .c 0, .any⟩
def F.TWIN_STATUS_HEALTHY : Field := ⟨R.TWIN_STATUS, 6, 1, .ro, .c 0, .any⟩
def F.TWIN_STATUS_PARTNER_UP : Field := ⟨R.TWIN_STATUS, 7, 1, .ro, .c 0, .any⟩
def F.TWIN_STATUS_RUN : Field := ⟨R.TWIN_STATUS, 16, 16, .ro, .c 0, .any⟩
def W.TWIN_STATUS : List Field := [F.TWIN_STATUS_STATE, F.TWIN_STATUS_ROLE, F.TWIN_STATUS_SEL_BOW, F.TWIN_STATUS_HB_ON, F.TWIN_STATUS_HEALTHY, F.TWIN_STATUS_PARTNER_UP, F.TWIN_STATUS_RUN]
/-- `TWIN_HIST` (R555). -/
def R.TWIN_HIST : Reg := ⟨0x100010C, 0, 1, 0, 1⟩
def F.TWIN_HIST_BECAME_ACTIVE : Field := ⟨R.TWIN_HIST, 0, 1, .w1c, .c 0, .any⟩
def F.TWIN_HIST_BECAME_STANDBY : Field := ⟨R.TWIN_HIST, 1, 1, .w1c, .c 0, .any⟩
def F.TWIN_HIST_IN_STEP_GAINED : Field := ⟨R.TWIN_HIST, 2, 1, .w1c, .c 0, .any⟩
def F.TWIN_HIST_STEP_LOST : Field := ⟨R.TWIN_HIST, 3, 1, .w1c, .c 0, .any⟩
def F.TWIN_HIST_JRNL_MISS : Field := ⟨R.TWIN_HIST, 4, 1, .w1c, .c 0, .any⟩
def F.TWIN_HIST_JRNL_OVERRIDE : Field := ⟨R.TWIN_HIST, 5, 1, .w1c, .c 0, .any⟩
def F.TWIN_HIST_SIG_MISMATCH : Field := ⟨R.TWIN_HIST, 6, 1, .w1c, .c 0, .any⟩
def F.TWIN_HIST_SIG_MISS : Field := ⟨R.TWIN_HIST, 7, 1, .w1c, .c 0, .any⟩
def F.TWIN_HIST_HB_STOPPED : Field := ⟨R.TWIN_HIST, 8, 1, .w1c, .c 0, .any⟩
def F.TWIN_HIST_SWITCH_DONE : Field := ⟨R.TWIN_HIST, 9, 1, .w1c, .c 0, .any⟩
def F.TWIN_HIST_SEL_UNEXPECTED : Field := ⟨R.TWIN_HIST, 10, 1, .w1c, .c 0, .any⟩
def F.TWIN_HIST_DUAL_ACTIVE : Field := ⟨R.TWIN_HIST, 11, 1, .w1c, .c 0, .any⟩
def F.TWIN_HIST_CFG_REJECTED : Field := ⟨R.TWIN_HIST, 12, 1, .w1c, .c 0, .any⟩
def W.TWIN_HIST : List Field := [F.TWIN_HIST_BECAME_ACTIVE, F.TWIN_HIST_BECAME_STANDBY, F.TWIN_HIST_IN_STEP_GAINED, F.TWIN_HIST_STEP_LOST, F.TWIN_HIST_JRNL_MISS, F.TWIN_HIST_JRNL_OVERRIDE, F.TWIN_HIST_SIG_MISMATCH, F.TWIN_HIST_SIG_MISS, F.TWIN_HIST_HB_STOPPED, F.TWIN_HIST_SWITCH_DONE, F.TWIN_HIST_SEL_UNEXPECTED, F.TWIN_HIST_DUAL_ACTIVE, F.TWIN_HIST_CFG_REJECTED]
/-- `TWIN_IRQ_EN` (R555). -/
def R.TWIN_IRQ_EN : Reg := ⟨0x1000110, 0, 1, 0, 1⟩
def F.TWIN_IRQ_EN_EN : Field := ⟨R.TWIN_IRQ_EN, 0, 13, .rw, .c 0, .any⟩
def W.TWIN_IRQ_EN : List Field := [F.TWIN_IRQ_EN_EN]
/-- `TWIN_HB_CAUSE` (R555). -/
def R.TWIN_HB_CAUSE : Reg := ⟨0x1000114, 0, 1, 0, 1⟩
def F.TWIN_HB_CAUSE_CAUSE : Field := ⟨R.TWIN_HB_CAUSE, 0, 5, .ro, .c 1, .any⟩
def W.TWIN_HB_CAUSE : List Field := [F.TWIN_HB_CAUSE_CAUSE]
/-- `TWIN_SW_LO` (R555). -/
def R.TWIN_SW_LO : Reg := ⟨0x1000118, 0, 1, 0, 1⟩
def F.TWIN_SW_LO_FRAME : Field := ⟨R.TWIN_SW_LO, 0, 32, .ro, .c 0, .any⟩
def W.TWIN_SW_LO : List Field := [F.TWIN_SW_LO_FRAME]
/-- `TWIN_SW_HI` (R555). -/
def R.TWIN_SW_HI : Reg := ⟨0x100011C, 0, 1, 0, 1⟩
def F.TWIN_SW_HI_FRAME : Field := ⟨R.TWIN_SW_HI, 0, 16, .ro, .c 0, .any⟩
def F.TWIN_SW_HI_TL : Field := ⟨R.TWIN_SW_HI, 16, 1, .ro, .c 0, .any⟩
def F.TWIN_SW_HI_PENDING : Field := ⟨R.TWIN_SW_HI, 17, 1, .ro, .c 0, .any⟩
def W.TWIN_SW_HI : List Field := [F.TWIN_SW_HI_FRAME, F.TWIN_SW_HI_TL, F.TWIN_SW_HI_PENDING]
/-- `TWIN_MISS_CNT` (R555). -/
def R.TWIN_MISS_CNT : Reg := ⟨0x1000130, 0, 1, 0, 1⟩
def F.TWIN_MISS_CNT_COUNT : Field := ⟨R.TWIN_MISS_CNT, 0, 32, .rcl, .c 0, .any⟩
def W.TWIN_MISS_CNT : List Field := [F.TWIN_MISS_CNT_COUNT]
/-- `TWIN_OVERRIDE_CNT` (R555). -/
def R.TWIN_OVERRIDE_CNT : Reg := ⟨0x1000134, 0, 1, 0, 1⟩
def F.TWIN_OVERRIDE_CNT_COUNT : Field := ⟨R.TWIN_OVERRIDE_CNT, 0, 32, .rcl, .c 0, .any⟩
def W.TWIN_OVERRIDE_CNT : List Field := [F.TWIN_OVERRIDE_CNT_COUNT]
/-- `TWIN_MM_CNT` (R555). -/
def R.TWIN_MM_CNT : Reg := ⟨0x1000138, 0, 1, 0, 1⟩
def F.TWIN_MM_CNT_COUNT : Field := ⟨R.TWIN_MM_CNT, 0, 32, .rcl, .c 0, .any⟩
def W.TWIN_MM_CNT : List Field := [F.TWIN_MM_CNT_COUNT]
/-- `TWIN_SIGMISS_CNT` (R555). -/
def R.TWIN_SIGMISS_CNT : Reg := ⟨0x100013C, 0, 1, 0, 1⟩
def F.TWIN_SIGMISS_CNT_COUNT : Field := ⟨R.TWIN_SIGMISS_CNT, 0, 32, .rcl, .c 0, .any⟩
def W.TWIN_SIGMISS_CNT : List Field := [F.TWIN_SIGMISS_CNT_COUNT]
/-- `TWIN_SWITCH_CNT` (R555). -/
def R.TWIN_SWITCH_CNT : Reg := ⟨0x1000140, 0, 1, 0, 1⟩
def F.TWIN_SWITCH_CNT_COUNT : Field := ⟨R.TWIN_SWITCH_CNT, 0, 32, .rcl, .c 0, .any⟩
def W.TWIN_SWITCH_CNT : List Field := [F.TWIN_SWITCH_CNT_COUNT]
/-- `TWIN_MM` (R555). -/
def R.TWIN_MM : Reg := ⟨0x1000200, 4, 8, 0, 1⟩
def F.TWIN_MM_MM : Field := ⟨R.TWIN_MM, 0, 32, .w1c, .c 0, .any⟩
def W.TWIN_MM : List Field := [F.TWIN_MM_MM]
def fieldsTWIN0 : List Field := [F.TWIN_CFG_EN, F.TWIN_CFG_AUTO_RESYNC, F.TWIN_CFG_TL, F.TWIN_CFG_MISS_LIMIT, F.TWIN_CFG_MM_LIMIT, F.TWIN_SYNC_SYNC_FRAMES, F.TWIN_STATUS_STATE, F.TWIN_STATUS_ROLE, F.TWIN_STATUS_SEL_BOW, F.TWIN_STATUS_HB_ON, F.TWIN_STATUS_HEALTHY, F.TWIN_STATUS_PARTNER_UP, F.TWIN_STATUS_RUN, F.TWIN_HIST_BECAME_ACTIVE, F.TWIN_HIST_BECAME_STANDBY, F.TWIN_HIST_IN_STEP_GAINED, F.TWIN_HIST_STEP_LOST, F.TWIN_HIST_JRNL_MISS, F.TWIN_HIST_JRNL_OVERRIDE, F.TWIN_HIST_SIG_MISMATCH, F.TWIN_HIST_SIG_MISS, F.TWIN_HIST_HB_STOPPED, F.TWIN_HIST_SWITCH_DONE, F.TWIN_HIST_SEL_UNEXPECTED, F.TWIN_HIST_DUAL_ACTIVE, F.TWIN_HIST_CFG_REJECTED, F.TWIN_IRQ_EN_EN, F.TWIN_HB_CAUSE_CAUSE, F.TWIN_SW_LO_FRAME, F.TWIN_SW_HI_FRAME, F.TWIN_SW_HI_TL, F.TWIN_SW_HI_PENDING, F.TWIN_MISS_CNT_COUNT, F.TWIN_OVERRIDE_CNT_COUNT, F.TWIN_MM_CNT_COUNT, F.TWIN_SIGMISS_CNT_COUNT, F.TWIN_SWITCH_CNT_COUNT, F.TWIN_MM_MM]
/-- Every field of block TWIN. -/
def fieldsTWIN : List Field := fieldsTWIN0

/-! ### MBX -/

/-- `BAR2_WIN` (R604). -/
def R.BAR2_WIN : Reg := ⟨0x1100100, 0, 1, 0, 1⟩
def F.BAR2_WIN_GIB : Field := ⟨R.BAR2_WIN, 0, 6, .rw, .c 0, .any⟩
def W.BAR2_WIN : List Field := [F.BAR2_WIN_GIB]
/-- `MBX_HIST` (R604). -/
def R.MBX_HIST : Reg := ⟨0x1100104, 0, 1, 0, 1⟩
def F.MBX_HIST_LOCK_MISUSE : Field := ⟨R.MBX_HIST, 0, 1, .w1c, .c 0, .any⟩
def F.MBX_HIST_BAR2_DENY : Field := ⟨R.MBX_HIST, 1, 1, .w1c, .c 0, .any⟩
def F.MBX_HIST_CFG_REJECTED : Field := ⟨R.MBX_HIST, 2, 1, .w1c, .c 0, .any⟩
def W.MBX_HIST : List Field := [F.MBX_HIST_LOCK_MISUSE, F.MBX_HIST_BAR2_DENY, F.MBX_HIST_CFG_REJECTED]
/-- `MBX_IRQ_EN` (R604). -/
def R.MBX_IRQ_EN : Reg := ⟨0x1100108, 0, 1, 0, 1⟩
def F.MBX_IRQ_EN_EN : Field := ⟨R.MBX_IRQ_EN, 0, 3, .rw, .c 0, .any⟩
def W.MBX_IRQ_EN : List Field := [F.MBX_IRQ_EN_EN]
/-- `BAR2_DENY_CNT` (R604). -/
def R.BAR2_DENY_CNT : Reg := ⟨0x110010C, 0, 1, 0, 1⟩
def F.BAR2_DENY_CNT_COUNT : Field := ⟨R.BAR2_DENY_CNT, 0, 32, .rcl, .c 0, .any⟩
def W.BAR2_DENY_CNT : List Field := [F.BAR2_DENY_CNT_COUNT]
/-- `LOCK_OWNER` (R604). -/
def R.LOCK_OWNER : Reg := ⟨0x1102000, 4, 64, 0, 1⟩
def F.LOCK_OWNER_OWNER : Field := ⟨R.LOCK_OWNER, 0, 6, .ro, .c 0, .any⟩
def W.LOCK_OWNER : List Field := [F.LOCK_OWNER_OWNER]
/-- `LOCK` (R604). -/
def R.LOCK : Reg := ⟨0x1104000, 256, 2048, 4, 64⟩
def F.LOCK_OWNER : Field := ⟨R.LOCK, 0, 6, .rw, .c 0, .any⟩
def W.LOCK : List Field := [F.LOCK_OWNER]
/-- `CH_CTRL` (R604). -/
def R.CH_CTRL : Reg := ⟨0x1101000, 32, 41, 0, 1⟩
def F.CH_CTRL_DOORBELL : Field := ⟨R.CH_CTRL, 0, 1, .wo, .c 0, .any⟩
def F.CH_CTRL_RSP_ACK : Field := ⟨R.CH_CTRL, 1, 1, .wo, .c 0, .any⟩
def F.CH_CTRL_WITHDRAW : Field := ⟨R.CH_CTRL, 2, 1, .wo, .c 0, .any⟩
def F.CH_CTRL_OPEN : Field := ⟨R.CH_CTRL, 3, 1, .wo, .c 0, .any⟩
def W.CH_CTRL : List Field := [F.CH_CTRL_DOORBELL, F.CH_CTRL_RSP_ACK, F.CH_CTRL_WITHDRAW, F.CH_CTRL_OPEN]
/-- `CH_EPOCH` (R604). -/
def R.CH_EPOCH : Reg := ⟨0x1101004, 32, 41, 0, 1⟩
def F.CH_EPOCH_HOST_EPOCH : Field := ⟨R.CH_EPOCH, 0, 16, .rw, .c 0, .any⟩
def F.CH_EPOCH_DEV_EPOCH : Field := ⟨R.CH_EPOCH, 16, 16, .ro, .c 0, .any⟩
def W.CH_EPOCH : List Field := [F.CH_EPOCH_HOST_EPOCH, F.CH_EPOCH_DEV_EPOCH]
/-- `CH_STATUS` (R604). -/
def R.CH_STATUS : Reg := ⟨0x1101008, 32, 41, 0, 1⟩
def F.CH_STATUS_REQ_STATE : Field := ⟨R.CH_STATUS, 0, 2, .ro, .c 0, .any⟩
def F.CH_STATUS_RSP_READY : Field := ⟨R.CH_STATUS, 2, 1, .ro, .c 0, .any⟩
def F.CH_STATUS_SERVED : Field := ⟨R.CH_STATUS, 3, 1, .ro, .c 0, .any⟩
def W.CH_STATUS : List Field := [F.CH_STATUS_REQ_STATE, F.CH_STATUS_RSP_READY, F.CH_STATUS_SERVED]
/-- `CH_HIST` (R604). -/
def R.CH_HIST : Reg := ⟨0x110100C, 32, 41, 0, 1⟩
def F.CH_HIST_RSP_POSTED : Field := ⟨R.CH_HIST, 0, 1, .w1c, .c 0, .any⟩
def F.CH_HIST_TIMED_OUT : Field := ⟨R.CH_HIST, 1, 1, .w1c, .c 0, .any⟩
def F.CH_HIST_WRITE_DISCARDED : Field := ⟨R.CH_HIST, 2, 1, .w1c, .c 0, .any⟩
def F.CH_HIST_DOORBELL_DISCARDED : Field := ⟨R.CH_HIST, 3, 1, .w1c, .c 0, .any⟩
def F.CH_HIST_RSP_DISCARDED : Field := ⟨R.CH_HIST, 4, 1, .w1c, .c 0, .any⟩
def F.CH_HIST_DEV_RESTARTED : Field := ⟨R.CH_HIST, 5, 1, .w1c, .c 0, .any⟩
def F.CH_HIST_WITHDRAW_LATE : Field := ⟨R.CH_HIST, 6, 1, .w1c, .c 0, .any⟩
def W.CH_HIST : List Field := [F.CH_HIST_RSP_POSTED, F.CH_HIST_TIMED_OUT, F.CH_HIST_WRITE_DISCARDED, F.CH_HIST_DOORBELL_DISCARDED, F.CH_HIST_RSP_DISCARDED, F.CH_HIST_DEV_RESTARTED, F.CH_HIST_WITHDRAW_LATE]
/-- `CH_IRQ_EN` (R604). -/
def R.CH_IRQ_EN : Reg := ⟨0x1101010, 32, 41, 0, 1⟩
def F.CH_IRQ_EN_EN : Field := ⟨R.CH_IRQ_EN, 0, 7, .rw, .c 0, .any⟩
def W.CH_IRQ_EN : List Field := [F.CH_IRQ_EN_EN]
/-- `CH_TMO` (R604). -/
def R.CH_TMO : Reg := ⟨0x1101014, 32, 41, 0, 1⟩
def F.CH_TMO_TMO_MS : Field := ⟨R.CH_TMO, 0, 16, .rw, .c 100, .range 1 65535⟩
def W.CH_TMO : List Field := [F.CH_TMO_TMO_MS]
/-- `CH_DISCARD_CNT` (R604). -/
def R.CH_DISCARD_CNT : Reg := ⟨0x1101018, 32, 41, 0, 1⟩
def F.CH_DISCARD_CNT_COUNT : Field := ⟨R.CH_DISCARD_CNT, 0, 32, .rcl, .c 0, .any⟩
def W.CH_DISCARD_CNT : List Field := [F.CH_DISCARD_CNT_COUNT]
def fieldsMBX0 : List Field := [F.BAR2_WIN_GIB, F.MBX_HIST_LOCK_MISUSE, F.MBX_HIST_BAR2_DENY, F.MBX_HIST_CFG_REJECTED, F.MBX_IRQ_EN_EN, F.BAR2_DENY_CNT_COUNT, F.LOCK_OWNER_OWNER, F.LOCK_OWNER, F.CH_CTRL_DOORBELL, F.CH_CTRL_RSP_ACK, F.CH_CTRL_WITHDRAW, F.CH_CTRL_OPEN, F.CH_EPOCH_HOST_EPOCH, F.CH_EPOCH_DEV_EPOCH, F.CH_STATUS_REQ_STATE, F.CH_STATUS_RSP_READY, F.CH_STATUS_SERVED, F.CH_HIST_RSP_POSTED, F.CH_HIST_TIMED_OUT, F.CH_HIST_WRITE_DISCARDED, F.CH_HIST_DOORBELL_DISCARDED, F.CH_HIST_RSP_DISCARDED, F.CH_HIST_DEV_RESTARTED, F.CH_HIST_WITHDRAW_LATE, F.CH_IRQ_EN_EN, F.CH_TMO_TMO_MS, F.CH_DISCARD_CNT_COUNT]
/-- Every field of block MBX. -/
def fieldsMBX : List Field := fieldsMBX0

/-! ### KEYS -/

/-- `KEY_STATUS` (R626). -/
def R.KEY_STATUS : Reg := ⟨0x1200100, 0, 1, 0, 1⟩
def F.KEY_STATUS_KEYS_OK : Field := ⟨R.KEY_STATUS, 0, 1, .ro, .c 0, .any⟩
def F.KEY_STATUS_ROOT_VALID : Field := ⟨R.KEY_STATUS, 1, 1, .ro, .special, .any⟩
def F.KEY_STATUS_RET_LOST : Field := ⟨R.KEY_STATUS, 2, 1, .ro, .special, .any⟩
def F.KEY_STATUS_TAMPERED : Field := ⟨R.KEY_STATUS, 3, 1, .ro, .special, .any⟩
def F.KEY_STATUS_MEASURED : Field := ⟨R.KEY_STATUS, 4, 1, .ro, .c 0, .any⟩
def F.KEY_STATUS_SCAN_ZEROISED : Field := ⟨R.KEY_STATUS, 5, 1, .ro, .c 0, .any⟩
def F.KEY_STATUS_INTENT : Field := ⟨R.KEY_STATUS, 6, 1, .ro, .special, .any⟩
def F.KEY_STATUS_SLOT_WRITTEN : Field := ⟨R.KEY_STATUS, 8, 8, .ro, .special, .any⟩
def W.KEY_STATUS : List Field := [F.KEY_STATUS_KEYS_OK, F.KEY_STATUS_ROOT_VALID, F.KEY_STATUS_RET_LOST, F.KEY_STATUS_TAMPERED, F.KEY_STATUS_MEASURED, F.KEY_STATUS_SCAN_ZEROISED, F.KEY_STATUS_INTENT, F.KEY_STATUS_SLOT_WRITTEN]
/-- `KEY_HIST` (R626). -/
def R.KEY_HIST : Reg := ⟨0x1200104, 0, 1, 0, 1⟩
def F.KEY_HIST_ZEROISED : Field := ⟨R.KEY_HIST, 0, 1, .sw, .c 0, .any⟩
def F.KEY_HIST_GENERATED : Field := ⟨R.KEY_HIST, 1, 1, .sw, .c 0, .any⟩
def F.KEY_HIST_INJECTED : Field := ⟨R.KEY_HIST, 2, 1, .sw, .c 0, .any⟩
def F.KEY_HIST_REFUSED : Field := ⟨R.KEY_HIST, 3, 1, .sw, .c 0, .any⟩
def W.KEY_HIST : List Field := [F.KEY_HIST_ZEROISED, F.KEY_HIST_GENERATED, F.KEY_HIST_INJECTED, F.KEY_HIST_REFUSED]
/-- `KEY_IRQ_EN` (R626). -/
def R.KEY_IRQ_EN : Reg := ⟨0x1200108, 0, 1, 0, 1⟩
def F.KEY_IRQ_EN_EN : Field := ⟨R.KEY_IRQ_EN, 0, 4, .sw, .c 0, .any⟩
def W.KEY_IRQ_EN : List Field := [F.KEY_IRQ_EN_EN]
/-- `KEY_TAMP_CFG` (R626). -/
def R.KEY_TAMP_CFG : Reg := ⟨0x120010C, 0, 1, 0, 1⟩
def F.KEY_TAMP_CFG_TAMP_EN : Field := ⟨R.KEY_TAMP_CFG, 0, 4, .sw, .special, .any⟩
def W.KEY_TAMP_CFG : List Field := [F.KEY_TAMP_CFG_TAMP_EN]
/-- `KEY_TAMP_CAUSE` (R626). -/
def R.KEY_TAMP_CAUSE : Reg := ⟨0x1200110, 0, 1, 0, 1⟩
def F.KEY_TAMP_CAUSE_LOOP : Field := ⟨R.KEY_TAMP_CAUSE, 0, 4, .sw, .special, .any⟩
def F.KEY_TAMP_CAUSE_VBAT_LOW : Field := ⟨R.KEY_TAMP_CAUSE, 4, 1, .sw, .special, .any⟩
def F.KEY_TAMP_CAUSE_TEMP : Field := ⟨R.KEY_TAMP_CAUSE, 5, 1, .sw, .special, .any⟩
def F.KEY_TAMP_CAUSE_GLITCH : Field := ⟨R.KEY_TAMP_CAUSE, 6, 1, .sw, .special, .any⟩
def F.KEY_TAMP_CAUSE_SCAN : Field := ⟨R.KEY_TAMP_CAUSE, 7, 1, .sw, .special, .any⟩
def F.KEY_TAMP_CAUSE_LC : Field := ⟨R.KEY_TAMP_CAUSE, 8, 1, .sw, .special, .any⟩
def W.KEY_TAMP_CAUSE : List Field := [F.KEY_TAMP_CAUSE_LOOP, F.KEY_TAMP_CAUSE_VBAT_LOW, F.KEY_TAMP_CAUSE_TEMP, F.KEY_TAMP_CAUSE_GLITCH, F.KEY_TAMP_CAUSE_SCAN, F.KEY_TAMP_CAUSE_LC]
/-- `KEY_MEAS` (R626). -/
def R.KEY_MEAS : Reg := ⟨0x1200140, 4, 12, 0, 1⟩
def F.KEY_MEAS_M : Field := ⟨R.KEY_MEAS, 0, 32, .ro, .c 0, .any⟩
def W.KEY_MEAS : List Field := [F.KEY_MEAS_M]
def fieldsKEYS0 : List Field := [F.KEY_STATUS_KEYS_OK, F.KEY_STATUS_ROOT_VALID, F.KEY_STATUS_RET_LOST, F.KEY_STATUS_TAMPERED, F.KEY_STATUS_MEASURED, F.KEY_STATUS_SCAN_ZEROISED, F.KEY_STATUS_INTENT, F.KEY_STATUS_SLOT_WRITTEN, F.KEY_HIST_ZEROISED, F.KEY_HIST_GENERATED, F.KEY_HIST_INJECTED, F.KEY_HIST_REFUSED, F.KEY_IRQ_EN_EN, F.KEY_TAMP_CFG_TAMP_EN, F.KEY_TAMP_CAUSE_LOOP, F.KEY_TAMP_CAUSE_VBAT_LOW, F.KEY_TAMP_CAUSE_TEMP, F.KEY_TAMP_CAUSE_GLITCH, F.KEY_TAMP_CAUSE_SCAN, F.KEY_TAMP_CAUSE_LC, F.KEY_MEAS_M]
/-- Every field of block KEYS. -/
def fieldsKEYS : List Field := fieldsKEYS0

/-! ### FUSE -/

/-- `FUSE_LC` (R626). -/
def R.FUSE_LC : Reg := ⟨0x1300100, 0, 1, 0, 1⟩
def F.FUSE_LC_STATE : Field := ⟨R.FUSE_LC, 0, 3, .ro, .special, .any⟩
def F.FUSE_LC_REPAIRED : Field := ⟨R.FUSE_LC, 3, 1, .ro, .c 0, .any⟩
def W.FUSE_LC : List Field := [F.FUSE_LC_STATE, F.FUSE_LC_REPAIRED]
/-- `FUSE_DEBUG` (R626). -/
def R.FUSE_DEBUG : Reg := ⟨0x1300104, 0, 1, 0, 1⟩
def F.FUSE_DEBUG_JTAG : Field := ⟨R.FUSE_DEBUG, 0, 5, .ro, .c 9, .any⟩
def F.FUSE_DEBUG_SCAN : Field := ⟨R.FUSE_DEBUG, 8, 5, .ro, .c 9, .any⟩
def F.FUSE_DEBUG_TRACE : Field := ⟨R.FUSE_DEBUG, 16, 5, .ro, .c 11, .any⟩
def F.FUSE_DEBUG_FAULT_INJ : Field := ⟨R.FUSE_DEBUG, 24, 5, .ro, .c 1, .any⟩
def W.FUSE_DEBUG : List Field := [F.FUSE_DEBUG_JTAG, F.FUSE_DEBUG_SCAN, F.FUSE_DEBUG_TRACE, F.FUSE_DEBUG_FAULT_INJ]
/-- `FUSE_MI` (R626). -/
def R.FUSE_MI : Reg := ⟨0x1300108, 0, 1, 0, 1⟩
def F.FUSE_MI_MI_MASK : Field := ⟨R.FUSE_MI, 0, 8, .ro, .c 13, .any⟩
def W.FUSE_MI : List Field := [F.FUSE_MI_MI_MASK]
/-- `FUSE_UNITS` (R626). -/
def R.FUSE_UNITS : Reg := ⟨0x130010C, 0, 1, 0, 1⟩
def F.FUSE_UNITS_PRESENT : Field := ⟨R.FUSE_UNITS, 0, 26, .ro, .special, .any⟩
def W.FUSE_UNITS : List Field := [F.FUSE_UNITS_PRESENT]
/-- `FUSE_DEV_ID` (R626). -/
def R.FUSE_DEV_ID : Reg := ⟨0x1300110, 4, 4, 0, 1⟩
def F.FUSE_DEV_ID_DEV_ID : Field := ⟨R.FUSE_DEV_ID, 0, 32, .ro, .special, .any⟩
def W.FUSE_DEV_ID : List Field := [F.FUSE_DEV_ID_DEV_ID]
def fieldsFUSE0 : List Field := [F.FUSE_LC_STATE, F.FUSE_LC_REPAIRED, F.FUSE_DEBUG_JTAG, F.FUSE_DEBUG_SCAN, F.FUSE_DEBUG_TRACE, F.FUSE_DEBUG_FAULT_INJ, F.FUSE_MI_MI_MASK, F.FUSE_UNITS_PRESENT, F.FUSE_DEV_ID_DEV_ID]
/-- Every field of block FUSE. -/
def fieldsFUSE : List Field := fieldsFUSE0

/-! ### BIST -/

/-- `BIST_STATUS` (R654). -/
def R.BIST_STATUS : Reg := ⟨0x1400100, 0, 1, 0, 1⟩
def F.BIST_STATUS_PHASE : Field := ⟨R.BIST_STATUS, 0, 4, .ro, .c 0, .any⟩
def F.BIST_STATUS_RESULT : Field := ⟨R.BIST_STATUS, 4, 2, .ro, .c 3, .any⟩
def F.BIST_STATUS_SAFE : Field := ⟨R.BIST_STATUS, 6, 1, .ro, .c 0, .any⟩
def W.BIST_STATUS : List Field := [F.BIST_STATUS_PHASE, F.BIST_STATUS_RESULT, F.BIST_STATUS_SAFE]
/-- `BIST_FIRST_FAIL` (R654). -/
def R.BIST_FIRST_FAIL : Reg := ⟨0x1400104, 0, 1, 0, 1⟩
def F.BIST_FIRST_FAIL_CODE : Field := ⟨R.BIST_FIRST_FAIL, 0, 8, .ro, .c 0, .any⟩
def F.BIST_FIRST_FAIL_ARG : Field := ⟨R.BIST_FIRST_FAIL, 8, 24, .ro, .c 0, .any⟩
def W.BIST_FIRST_FAIL : List Field := [F.BIST_FIRST_FAIL_CODE, F.BIST_FIRST_FAIL_ARG]
/-- `BIST_LANE_FAIL` (R654). -/
def R.BIST_LANE_FAIL : Reg := ⟨0x1400140, 4, 11, 0, 1⟩
def F.BIST_LANE_FAIL_FAIL : Field := ⟨R.BIST_LANE_FAIL, 0, 32, .ro, .c 0, .any⟩
def W.BIST_LANE_FAIL : List Field := [F.BIST_LANE_FAIL_FAIL]
/-- `BIST_YARD` (R654). -/
def R.BIST_YARD : Reg := ⟨0x1400180, 4, 2, 0, 1⟩
def F.BIST_YARD_REPAIRED : Field := ⟨R.BIST_YARD, 0, 8, .ro, .c 0, .any⟩
def F.BIST_YARD_SPARES_MIN : Field := ⟨R.BIST_YARD, 8, 8, .ro, .c 4, .any⟩
def F.BIST_YARD_FAILED : Field := ⟨R.BIST_YARD, 16, 1, .ro, .c 0, .any⟩
def W.BIST_YARD : List Field := [F.BIST_YARD_REPAIRED, F.BIST_YARD_SPARES_MIN, F.BIST_YARD_FAILED]
def fieldsBIST0 : List Field := [F.BIST_STATUS_PHASE, F.BIST_STATUS_RESULT, F.BIST_STATUS_SAFE, F.BIST_FIRST_FAIL_CODE, F.BIST_FIRST_FAIL_ARG, F.BIST_LANE_FAIL_FAIL, F.BIST_YARD_REPAIRED, F.BIST_YARD_SPARES_MIN, F.BIST_YARD_FAILED]
/-- Every field of block BIST. -/
def fieldsBIST : List Field := fieldsBIST0

/-! ### MATRIX -/

/-- `MATRIX_CTRL` (R575). -/
def R.MATRIX_CTRL : Reg := ⟨0x1500100, 0, 1, 0, 1⟩
def F.MATRIX_CTRL_REMAP : Field := ⟨R.MATRIX_CTRL, 0, 1, .rw, .c 0, .any⟩
def F.MATRIX_CTRL_AGE_LIMIT : Field := ⟨R.MATRIX_CTRL, 8, 8, .rw, .c 64, .range 1 255⟩
def F.MATRIX_CTRL_TMO : Field := ⟨R.MATRIX_CTRL, 16, 16, .rw, .c 64, .range 1 65535⟩
def W.MATRIX_CTRL : List Field := [F.MATRIX_CTRL_REMAP, F.MATRIX_CTRL_AGE_LIMIT, F.MATRIX_CTRL_TMO]
/-- `MATRIX_STATUS` (R575). -/
def R.MATRIX_STATUS : Reg := ⟨0x1500104, 0, 1, 0, 1⟩
def F.MATRIX_STATUS_REMAP_PENDING : Field := ⟨R.MATRIX_STATUS, 0, 1, .ro, .c 0, .any⟩
def W.MATRIX_STATUS : List Field := [F.MATRIX_STATUS_REMAP_PENDING]
/-- `MATRIX_HIST` (R575). -/
def R.MATRIX_HIST : Reg := ⟨0x1500108, 0, 1, 0, 1⟩
def F.MATRIX_HIST_HOLE_HIT : Field := ⟨R.MATRIX_HIST, 0, 1, .w1c, .c 0, .any⟩
def F.MATRIX_HIST_FW_DENY : Field := ⟨R.MATRIX_HIST, 1, 1, .w1c, .c 0, .any⟩
def F.MATRIX_HIST_TARGET_TMO : Field := ⟨R.MATRIX_HIST, 2, 1, .w1c, .c 0, .any⟩
def F.MATRIX_HIST_PD_OFF_HIT : Field := ⟨R.MATRIX_HIST, 3, 1, .w1c, .c 0, .any⟩
def F.MATRIX_HIST_CFG_REJECTED : Field := ⟨R.MATRIX_HIST, 4, 1, .w1c, .c 0, .any⟩
def W.MATRIX_HIST : List Field := [F.MATRIX_HIST_HOLE_HIT, F.MATRIX_HIST_FW_DENY, F.MATRIX_HIST_TARGET_TMO, F.MATRIX_HIST_PD_OFF_HIT, F.MATRIX_HIST_CFG_REJECTED]
/-- `MATRIX_IRQ_EN` (R575). -/
def R.MATRIX_IRQ_EN : Reg := ⟨0x150010C, 0, 1, 0, 1⟩
def F.MATRIX_IRQ_EN_EN : Field := ⟨R.MATRIX_IRQ_EN, 0, 5, .rw, .c 0, .any⟩
def W.MATRIX_IRQ_EN : List Field := [F.MATRIX_IRQ_EN_EN]
/-- `MATRIX_ERR_ADDR_LO` (R575). -/
def R.MATRIX_ERR_ADDR_LO : Reg := ⟨0x1500110, 0, 1, 0, 1⟩
def F.MATRIX_ERR_ADDR_LO_ADDR : Field := ⟨R.MATRIX_ERR_ADDR_LO, 0, 32, .ro, .c 0, .any⟩
def W.MATRIX_ERR_ADDR_LO : List Field := [F.MATRIX_ERR_ADDR_LO_ADDR]
/-- `MATRIX_ERR_ADDR_HI` (R575). -/
def R.MATRIX_ERR_ADDR_HI : Reg := ⟨0x1500114, 0, 1, 0, 1⟩
def F.MATRIX_ERR_ADDR_HI_ADDR : Field := ⟨R.MATRIX_ERR_ADDR_HI, 0, 8, .ro, .c 0, .any⟩
def W.MATRIX_ERR_ADDR_HI : List Field := [F.MATRIX_ERR_ADDR_HI_ADDR]
/-- `MATRIX_ERR_INFO` (R575). -/
def R.MATRIX_ERR_INFO : Reg := ⟨0x1500118, 0, 1, 0, 1⟩
def F.MATRIX_ERR_INFO_MASTER : Field := ⟨R.MATRIX_ERR_INFO, 0, 4, .ro, .c 0, .any⟩
def F.MATRIX_ERR_INFO_WRITE : Field := ⟨R.MATRIX_ERR_INFO, 4, 1, .ro, .c 0, .any⟩
def F.MATRIX_ERR_INFO_KIND : Field := ⟨R.MATRIX_ERR_INFO, 5, 3, .ro, .c 0, .any⟩
def F.MATRIX_ERR_INFO_REGION : Field := ⟨R.MATRIX_ERR_INFO, 8, 3, .ro, .c 0, .any⟩
def F.MATRIX_ERR_INFO_TARGET : Field := ⟨R.MATRIX_ERR_INFO, 11, 3, .ro, .c 0, .any⟩
def W.MATRIX_ERR_INFO : List Field := [F.MATRIX_ERR_INFO_MASTER, F.MATRIX_ERR_INFO_WRITE, F.MATRIX_ERR_INFO_KIND, F.MATRIX_ERR_INFO_REGION, F.MATRIX_ERR_INFO_TARGET]
/-- `MATRIX_HOLE_CNT` (R575). -/
def R.MATRIX_HOLE_CNT : Reg := ⟨0x1500120, 0, 1, 0, 1⟩
def F.MATRIX_HOLE_CNT_COUNT : Field := ⟨R.MATRIX_HOLE_CNT, 0, 32, .rcl, .c 0, .any⟩
def W.MATRIX_HOLE_CNT : List Field := [F.MATRIX_HOLE_CNT_COUNT]
/-- `MATRIX_DENY_CNT` (R575). -/
def R.MATRIX_DENY_CNT : Reg := ⟨0x1500124, 0, 1, 0, 1⟩
def F.MATRIX_DENY_CNT_COUNT : Field := ⟨R.MATRIX_DENY_CNT, 0, 32, .rcl, .c 0, .any⟩
def W.MATRIX_DENY_CNT : List Field := [F.MATRIX_DENY_CNT_COUNT]
/-- `MATRIX_TMO_CNT` (R575). -/
def R.MATRIX_TMO_CNT : Reg := ⟨0x1500128, 0, 1, 0, 1⟩
def F.MATRIX_TMO_CNT_COUNT : Field := ⟨R.MATRIX_TMO_CNT, 0, 32, .rcl, .c 0, .any⟩
def W.MATRIX_TMO_CNT : List Field := [F.MATRIX_TMO_CNT_COUNT]
/-- `MATRIX_TGT_CFG` (R575). -/
def R.MATRIX_TGT_CFG : Reg := ⟨0x1500200, 16, 7, 0, 1⟩
def F.MATRIX_TGT_CFG_PARK : Field := ⟨R.MATRIX_TGT_CFG, 0, 4, .rw, .special, .park⟩
def W.MATRIX_TGT_CFG : List Field := [F.MATRIX_TGT_CFG_PARK]
/-- `MATRIX_PRIO` (R575). -/
def R.MATRIX_PRIO : Reg := ⟨0x1500204, 16, 7, 0, 1⟩
def F.MATRIX_PRIO_PRIO : Field := ⟨R.MATRIX_PRIO, 0, 30, .rw, .c 231340324, .any⟩
def W.MATRIX_PRIO : List Field := [F.MATRIX_PRIO_PRIO]
/-- `MATRIX_HOLD_CNT` (R575). -/
def R.MATRIX_HOLD_CNT : Reg := ⟨0x1500208, 16, 7, 0, 1⟩
def F.MATRIX_HOLD_CNT_COUNT : Field := ⟨R.MATRIX_HOLD_CNT, 0, 32, .rcl, .c 0, .any⟩
def W.MATRIX_HOLD_CNT : List Field := [F.MATRIX_HOLD_CNT_COUNT]
/-- `MATRIX_TGT_BUSY` (R575). -/
def R.MATRIX_TGT_BUSY : Reg := ⟨0x150020C, 16, 7, 0, 1⟩
def F.MATRIX_TGT_BUSY_OUTSTANDING : Field := ⟨R.MATRIX_TGT_BUSY, 0, 8, .ro, .c 0, .any⟩
def W.MATRIX_TGT_BUSY : List Field := [F.MATRIX_TGT_BUSY_OUTSTANDING]
/-- `MATRIX_FW_A` (R575). -/
def R.MATRIX_FW_A : Reg := ⟨0x1500400, 16, 6, 0, 1⟩
def F.MATRIX_FW_A_WR_MASK : Field := ⟨R.MATRIX_FW_A, 0, 10, .ro, .special, .any⟩
def F.MATRIX_FW_A_RD_MASK : Field := ⟨R.MATRIX_FW_A, 16, 10, .ro, .special, .any⟩
def W.MATRIX_FW_A : List Field := [F.MATRIX_FW_A_WR_MASK, F.MATRIX_FW_A_RD_MASK]
/-- `MATRIX_FW_B` (R575). -/
def R.MATRIX_FW_B : Reg := ⟨0x1500404, 16, 6, 0, 1⟩
def F.MATRIX_FW_B_LC_MASK : Field := ⟨R.MATRIX_FW_B, 0, 5, .ro, .special, .any⟩
def F.MATRIX_FW_B_HOSTP_DEBUG_ONLY : Field := ⟨R.MATRIX_FW_B, 5, 1, .ro, .special, .any⟩
def W.MATRIX_FW_B : List Field := [F.MATRIX_FW_B_LC_MASK, F.MATRIX_FW_B_HOSTP_DEBUG_ONLY]
def fieldsMATRIX0 : List Field := [F.MATRIX_CTRL_REMAP, F.MATRIX_CTRL_AGE_LIMIT, F.MATRIX_CTRL_TMO, F.MATRIX_STATUS_REMAP_PENDING, F.MATRIX_HIST_HOLE_HIT, F.MATRIX_HIST_FW_DENY, F.MATRIX_HIST_TARGET_TMO, F.MATRIX_HIST_PD_OFF_HIT, F.MATRIX_HIST_CFG_REJECTED, F.MATRIX_IRQ_EN_EN, F.MATRIX_ERR_ADDR_LO_ADDR, F.MATRIX_ERR_ADDR_HI_ADDR, F.MATRIX_ERR_INFO_MASTER, F.MATRIX_ERR_INFO_WRITE, F.MATRIX_ERR_INFO_KIND, F.MATRIX_ERR_INFO_REGION, F.MATRIX_ERR_INFO_TARGET, F.MATRIX_HOLE_CNT_COUNT, F.MATRIX_DENY_CNT_COUNT, F.MATRIX_TMO_CNT_COUNT, F.MATRIX_TGT_CFG_PARK, F.MATRIX_PRIO_PRIO, F.MATRIX_HOLD_CNT_COUNT, F.MATRIX_TGT_BUSY_OUTSTANDING, F.MATRIX_FW_A_WR_MASK, F.MATRIX_FW_A_RD_MASK, F.MATRIX_FW_B_LC_MASK, F.MATRIX_FW_B_HOSTP_DEBUG_ONLY]
/-- Every field of block MATRIX. -/
def fieldsMATRIX : List Field := fieldsMATRIX0

/-! ### HBMC -/

/-- `HBMC_CFG` (R699). -/
def R.HBMC_CFG : Reg := ⟨0x1600100, 0, 1, 0, 1⟩
def F.HBMC_CFG_SCRUB_H : Field := ⟨R.HBMC_CFG, 0, 8, .rw, .c 24, .range 1 255⟩
def F.HBMC_CFG_CE_ROW_LIM : Field := ⟨R.HBMC_CFG, 8, 8, .rw, .c 8, .range 1 255⟩
def W.HBMC_CFG : List Field := [F.HBMC_CFG_SCRUB_H, F.HBMC_CFG_CE_ROW_LIM]
/-- `HBMC_HIST` (R699). -/
def R.HBMC_HIST : Reg := ⟨0x1600108, 0, 1, 0, 1⟩
def F.HBMC_HIST_CE : Field := ⟨R.HBMC_HIST, 0, 1, .w1c, .c 0, .any⟩
def F.HBMC_HIST_UE : Field := ⟨R.HBMC_HIST, 1, 1, .w1c, .c 0, .any⟩
def F.HBMC_HIST_REPAIRED : Field := ⟨R.HBMC_HIST, 2, 1, .w1c, .c 0, .any⟩
def F.HBMC_HIST_SPARES_OUT : Field := ⟨R.HBMC_HIST, 3, 1, .w1c, .c 0, .any⟩
def F.HBMC_HIST_CFG_REJECTED : Field := ⟨R.HBMC_HIST, 4, 1, .w1c, .c 0, .any⟩
def W.HBMC_HIST : List Field := [F.HBMC_HIST_CE, F.HBMC_HIST_UE, F.HBMC_HIST_REPAIRED, F.HBMC_HIST_SPARES_OUT, F.HBMC_HIST_CFG_REJECTED]
/-- `HBMC_IRQ_EN` (R699). -/
def R.HBMC_IRQ_EN : Reg := ⟨0x160010C, 0, 1, 0, 1⟩
def F.HBMC_IRQ_EN_EN : Field := ⟨R.HBMC_IRQ_EN, 0, 5, .rw, .c 0, .any⟩
def W.HBMC_IRQ_EN : List Field := [F.HBMC_IRQ_EN_EN]
/-- `HBMC_CE_CNT` (R699). -/
def R.HBMC_CE_CNT : Reg := ⟨0x1600110, 4, 2, 0, 1⟩
def F.HBMC_CE_CNT_COUNT : Field := ⟨R.HBMC_CE_CNT, 0, 32, .rcl, .c 0, .any⟩
def W.HBMC_CE_CNT : List Field := [F.HBMC_CE_CNT_COUNT]
/-- `HBMC_UE_CNT` (R699). -/
def R.HBMC_UE_CNT : Reg := ⟨0x1600118, 4, 2, 0, 1⟩
def F.HBMC_UE_CNT_COUNT : Field := ⟨R.HBMC_UE_CNT, 0, 32, .rcl, .c 0, .any⟩
def W.HBMC_UE_CNT : List Field := [F.HBMC_UE_CNT_COUNT]
/-- `HBMC_ERR_LO` (R699). -/
def R.HBMC_ERR_LO : Reg := ⟨0x1600120, 0, 1, 0, 1⟩
def F.HBMC_ERR_LO_ADDR : Field := ⟨R.HBMC_ERR_LO, 0, 32, .ro, .c 0, .any⟩
def W.HBMC_ERR_LO : List Field := [F.HBMC_ERR_LO_ADDR]
/-- `HBMC_ERR_HI` (R699). -/
def R.HBMC_ERR_HI : Reg := ⟨0x1600124, 0, 1, 0, 1⟩
def F.HBMC_ERR_HI_ADDR : Field := ⟨R.HBMC_ERR_HI, 0, 8, .ro, .c 0, .any⟩
def W.HBMC_ERR_HI : List Field := [F.HBMC_ERR_HI_ADDR]
/-- `HBMC_REPAIR` (R699). -/
def R.HBMC_REPAIR : Reg := ⟨0x1600130, 4, 2, 0, 1⟩
def F.HBMC_REPAIR_REPAIRED : Field := ⟨R.HBMC_REPAIR, 0, 16, .ro, .c 0, .any⟩
def F.HBMC_REPAIR_SPARES_LEFT : Field := ⟨R.HBMC_REPAIR, 16, 16, .ro, .special, .any⟩
def W.HBMC_REPAIR : List Field := [F.HBMC_REPAIR_REPAIRED, F.HBMC_REPAIR_SPARES_LEFT]
def fieldsHBMC0 : List Field := [F.HBMC_CFG_SCRUB_H, F.HBMC_CFG_CE_ROW_LIM, F.HBMC_HIST_CE, F.HBMC_HIST_UE, F.HBMC_HIST_REPAIRED, F.HBMC_HIST_SPARES_OUT, F.HBMC_HIST_CFG_REJECTED, F.HBMC_IRQ_EN_EN, F.HBMC_CE_CNT_COUNT, F.HBMC_UE_CNT_COUNT, F.HBMC_ERR_LO_ADDR, F.HBMC_ERR_HI_ADDR, F.HBMC_REPAIR_REPAIRED, F.HBMC_REPAIR_SPARES_LEFT]
/-- Every field of block HBMC. -/
def fieldsHBMC : List Field := fieldsHBMC0

/-- The fields of block `i`, the common set apart. -/
def fieldsOfBlock (i : Nat) : List Field :=
  match i with
  | 0 => fieldsSYS
  | 1 => fieldsTIME
  | 2 => fieldsREFS
  | 3 => fieldsPLL
  | 4 => fieldsLANES
  | 5 => fieldsSDIRX
  | 6 => fieldsSDITX
  | 7 => fieldsETH
  | 8 => fieldsIPM
  | 9 => fieldsSTALL
  | 10 => fieldsFAB
  | 11 => fieldsCOX
  | 12 => fieldsHEAD
  | 13 => fieldsGUARD
  | 14 => fieldsAUD
  | 15 => fieldsWIT
  | 16 => fieldsTWIN
  | 17 => fieldsMBX
  | 18 => fieldsKEYS
  | 19 => fieldsFUSE
  | 20 => fieldsBIST
  | 21 => fieldsMATRIX
  | 22 => fieldsHBMC
  | _ => []

end Sys2Proof.Machine
end

