-- ==== Sys2Proof/Machine/Ops.lean ====
section
/-!
DEFINITION. The operations every family shares: sparse tables, register fields, fault records, free values,
the outcome of a command and the frame of a host command's checks (R598).
-/
namespace Sys2Proof.Machine

/-! ### Sparse tables -/

/-- The value a table holds at a key. -/
def Bank.look {α : Type} [Inhabited α] : Bank α → Nat → α
  | [], _ => default
  | (k', v) :: t, k => if k' = k then v else Bank.look t k

/-- An entry put in order of its key, in place of any that stands there. -/
def Bank.ins {α : Type} : Bank α → Nat → α → Bank α
  | [], k, v => [(k, v)]
  | (k', v') :: t, k, v =>
    if k < k' then (k, v) :: (k', v') :: t
    else if k = k' then (k, v) :: t
    else (k', v') :: Bank.ins t k v

/-- A table without a key's entry. -/
def Bank.del {α : Type} : Bank α → Nat → Bank α
  | [], _ => []
  | (k', v) :: t, k => if k' = k then Bank.del t k else (k', v) :: Bank.del t k

/-- A table with a key's value replaced; the value every unlisted key holds is not listed. -/
def Bank.put {α : Type} [Inhabited α] [DecidableEq α] (b : Bank α) (k : Nat) (v : α) : Bank α :=
  if v = default then b.del k else b.ins k v

/-- A table with a key's value changed. -/
def Bank.upd {α : Type} [Inhabited α] [DecidableEq α] (b : Bank α) (k : Nat) (f : α → α) : Bank α :=
  b.put k (f (b.look k))

/-- The canonical form: keys rise strictly and no entry holds the unlisted value. -/
def Bank.wf {α : Type} [Inhabited α] [DecidableEq α] : Bank α → Bool
  | [] => true
  | [(_, v)] => decide (v ≠ default)
  | (k, v) :: (k', v') :: t => decide (v ≠ default) && decide (k < k') && Bank.wf ((k', v') :: t)

/-! ### Register fields -/

/-- The address of instance `n`, counted from 0x00_4000_0000 (R8, R712). -/
def Reg.addr (r : Reg) (n : Nat) : Nat :=
  r.off + r.stride * (n / r.count2) + r.stride2 * (n % r.count2)

/-- The number of instances. -/
def Reg.size (r : Reg) : Nat := r.count

/-- The key a field's value is held under. -/
def Field.key (f : Field) (n : Nat) : Nat := f.reg.addr n * 32 + f.lo

/-- The reset values the tables give in words, by the register's first address and the field's low bit. -/
def resetSpecial (off lo n : Nat) : Nat :=
  match off, lo with
  -- REF_CFG: PRIO 1 for n = 0, 2 for n = 1; KIND 1, 1, 2, 3, then 0 (R35)
  | 0x0200200, 0 => if n = 0 then 1 else if n = 1 then 2 else 0
  | 0x0200200, 4 => if n = 0 then 1 else if n = 1 then 1 else if n = 2 then 2 else if n = 3 then 3 else 0
  -- TL_CFG: RATE and SPL
  | 0x0200300, 1 => if n = 0 then 5 else 6
  | 0x0200300, 16 => if n = 0 then 2640 else 2200
  -- PLL (R85): EN, TRACK, POST_DIV, N_INT, N_FRAC
  | 0x0300200, 0 => if n = 2 ∨ n = 3 then 0 else 1
  | 0x0300200, 2 => if n ≤ 4 then 1 else 0
  | 0x0300200, 10 => if n ≤ 3 then 72 else if n = 4 then 200 else if n = 5 then 12 else if n = 6 then 10 else 4
  | 0x0300204, 0 => if n ≤ 3 then 213 else if n = 4 then 98 else if n = 5 then 96 else if n = 6 then 100 else 80
  | 0x0300208, 0 => if n = 0 ∨ n = 2 then 0xD70A3D71 else if n = 1 ∨ n = 3 then 0xA05A05A0 else if n = 4 then 0x4DD2F1AA else 0
  -- LANE_CTRL: POWER and RATE (R140, R185)
  | 0x0401000, 0 => if (332 ≤ n ∧ n ≤ 335) ∨ n = 344 then 0 else 3
  | 0x0401000, 2 => if n < 128 then 15 else if n < 256 then 4 else if n < 324 then 0 else if n < 332 then 2 else 0
  -- ETH_CFG: RATE and FEC
  | 0x0701000, 1 => if n = 8 then 0 else 2
  | 0x0701000, 3 => if n = 8 then 0 else 2
  -- STALL_BASE, STILL_BASE
  | 0x0901004, 0 => 60 * n
  | 0x0C00204, 0 => 56 * n
  -- MARKER_STYLE_A
  | 0x0D00200, 0 => if n = 0 then 1 else 0
  | 0x0D00204, 0 => if n = 0 then 250 else 64
  | 0x0D00204, 16 => if n = 0 then 409 else 512
  | 0x0D00208, 0 => if n = 0 then 960 else 512
  | 0x0D00208, 16 => if n = 0 then 255 else 0
  -- AUD_SRCMAP
  | 0x0E00400, 0 => if n < 128 then 32 * n else 7952
  | 0x0E00400, 16 => if n < 128 then 32 else 0
  -- AUD_GRP_CFG: DELAY and FIRST; AUD_GRP_STATUS: TIMELINE
  | 0x0E01000, 0 => if 256 ≤ n ∧ n < 384 then 48 else if 384 ≤ n ∧ n < 896 then 96 else 24
  | 0x0E01000, 16 =>
    if n < 128 then 32 * n else if n < 256 then 6144 else if n < 384 then 4096 + 16 * (n - 256) else if n < 896 then 6144 else 7680 + 16 * (n - 896)
  | 0x0E01004, 3 => if 256 ≤ n ∧ n < 896 then 1 else 0
  -- PWR_DOM_ON: the sleep set, domains 82, 87 and 95 (R672, R733)
  | 0x0000420, 0 => if n = 2 then 2 ^ 18 + 2 ^ 23 + 2 ^ 31 else 0
  -- MATRIX_TGT_CFG
  | 0x1500200, 0 => if n ≤ 3 then 0 else if n = 4 then 4 else if n = 5 then 6 else 15
  | _, _ => 0

/-- A field's reset value for instance `n` (R702). -/
def Field.rst (f : Field) (n : Nat) : Nat :=
  match f.reset with
  | .c v => v
  | .special => resetSpecial f.reg.off f.lo n

/-- The value a written field is stored as (R701). -/
def Field.stored (f : Field) (v : Nat) : Nat :=
  match f.clamp with
  | .any => v % 2 ^ f.width
  | .range lo hi => clampNat lo hi (v % 2 ^ f.width)
  | .subst lo hi d => if lo ≤ v % 2 ^ f.width ∧ v % 2 ^ f.width ≤ hi then v % 2 ^ f.width else d
  | .signed lo hi => patternOf f.width (clampInt lo hi (signedOf f.width v))
  | .park => if 10 ≤ v % 16 ∧ v % 16 ≤ 14 then 15 else v % 16

/-- A field's value in instance `n`. -/
def Block.fld (b : Block) (f : Field) (n : Nat) : Nat := (b.regs.look (f.key n)).getD (f.rst n)

/-- The device with a field's value replaced. -/
def Block.setFld (b : Block) (f : Field) (n v : Nat) : Block :=
  { b with regs := b.regs.put (f.key n) (if v % 2 ^ f.width = f.rst n then none else some (v % 2 ^ f.width)) }

/-- A one-bit field that reads one. -/
def Block.on (b : Block) (f : Field) (n : Nat) : Bool := b.fld f n == 1

/-- Bit `i` of a field. -/
def Block.bitAt (b : Block) (f : Field) (n i : Nat) : Bool := bitOf (b.fld f n) i

/-- A one-bit field set. -/
def Block.set (b : Block) (f : Field) (n : Nat) : Block := b.setFld f n 1

/-- A field cleared. -/
def Block.clr (b : Block) (f : Field) (n : Nat) : Block := b.setFld f n 0

/-- Bit `i` of a field set. -/
def Block.setBit (b : Block) (f : Field) (n i : Nat) : Block := b.setFld f n (withBit (b.fld f n) i)

/-- Bit `i` of a field cleared. -/
def Block.clrBit (b : Block) (f : Field) (n i : Nat) : Block := b.setFld f n (withoutBit (b.fld f n) i)

/-- A one-bit field set or cleared. -/
def Block.setTo (b : Block) (f : Field) (n : Nat) (p : Bool) : Block := b.setFld f n (bit p)

/-- A signed field read as an integer. -/
def Block.sfld (b : Block) (f : Field) (n : Nat) : Int := signedOf f.width (b.fld f n)

/-- A signed field written from an integer, wrapping at its width. -/
def Block.setSfld (b : Block) (f : Field) (n : Nat) (i : Int) : Block := b.setFld f n (patternOf f.width i)

/-- A counter that grows by `k` and saturates at its largest value (R198). -/
def Block.bump (b : Block) (f : Field) (n k : Nat) : Block :=
  b.setFld f n (min (b.fld f n + k) (2 ^ f.width - 1))

/-- A value written through a field's table entry: stored as the table says. -/
def Block.store (b : Block) (f : Field) (n v : Nat) : Block := b.setFld f n (f.stored v)

/-- The field of a written word. -/
def Field.of (f : Field) (v : Nat) : Nat := bitsOf v f.lo f.width

/-- The RW fields of `fs` stored from a written word (R701). -/
def Block.storeWord (b : Block) (fs : List Field) (n v : Nat) : Block :=
  fs.foldl (fun b f => if f.acc = .rw ∨ f.acc = .sw then b.store f n (f.of v) else b) b

/-- Every RW field of a written word equals what the register holds. -/
def Block.unchanged (b : Block) (fs : List Field) (n v : Nat) : Bool :=
  fs.all (fun f => if f.acc = .rw ∨ f.acc = .sw then f.stored (f.of v) == b.fld f n else true)

/-- A register's word, assembled from its fields as stored. -/
def Block.wordOf (b : Block) (fs : List Field) (n : Nat) : Nat :=
  fs.foldl (fun a f => if f.acc = .wo then a else a + b.fld f n * 2 ^ f.lo) 0

/-- A discarded write: the block's bit is set and the block's count grows (R704). -/
def Block.reject (b : Block) (blk : Nat) (f : Field) (n : Nat) : Block :=
  (b.set f n).bump F.BLK_REJECT_CNT_COUNT blk 1

/-! ### Outputs and free values -/

/-- Something shown to the outside world. -/
def Block.emit (b : Block) (o : Out) : Block := { b with out := b.out ++ [o] }

/-- A free value that nothing constrains, and the device that has taken it. -/
def Block.fresh (b : Block) : Nat × Block := (Config.freeValue b.free, { b with free := b.free + 1 })

/-- A field set to a free value. -/
def Block.setFree (b : Block) (f : Field) (n : Nat) : Block := (b.fresh).2.setFld f n (b.fresh).1

/-- Run `f` for each element of a list in order. -/
def Block.each {α : Type} (b : Block) (l : List α) (f : Block → α → Block) : Block := l.foldl f b

/-- `f` when the condition holds, else unchanged. -/
def Block.ite (b : Block) (p : Bool) (f : Block → Block) : Block := if p then f b else b

/-! ### Faults (R680 to R683) -/

/-- The fault record of a block after an event of code `code` in instance `inst` (R680, R681); a fault injected into that instance is
marked (R697). -/
def Block.fault (b : Block) (blk code inst : Nat) (lasting injected : Bool) : Block :=
  let injected := injected || decide ((blk, inst) ∈ b.flt.marks)
  let b := { b with flt := { b.flt with marks := b.flt.marks.erase (blk, inst) } }
  let t := b.on F.BLK_FAULT_FAULT_TRANSIENT blk
  let l := b.on F.BLK_FAULT_FAULT_LASTING blk
  let take := (!t && !l) || (lasting && !l)
  let b := if take then
      (b.setFld F.BLK_FAULT_FAULT_CODE blk (code % 128 + 128 * bit injected)).setFld F.BLK_FAULT_FAULT_INST blk inst
    else b
  if lasting then (b.set F.BLK_FAULT_FAULT_LASTING blk).bump F.BLK_FAULT_CNT_LASTING_CNT blk 1
  else (b.set F.BLK_FAULT_FAULT_TRANSIENT blk).bump F.BLK_FAULT_CNT_TRANSIENT_CNT blk 1

/-! ### Host commands (R598, R599) -/

def St.OK : Nat := 0x00
def St.ACCEPTED : Nat := 0x01
def St.BAD_COMMAND : Nat := 0x10
def St.BAD_ARG : Nat := 0x11
def St.BAD_LENGTH : Nat := 0x12
def St.BAD_CRC : Nat := 0x13
def St.UNIT_ABSENT : Nat := 0x20
def St.NOT_READY : Nat := 0x21
def St.BUSY_SELFTEST : Nat := 0x22
def St.NO_SEATS : Nat := 0x30
def St.NO_ROUTE : Nat := 0x31
def St.LATE : Nat := 0x40
def St.CANCELLED : Nat := 0x41
def St.AUTH_FAIL : Nat := 0x50
def St.KEYS_UNAVAILABLE : Nat := 0x51
def St.INCOMPATIBLE : Nat := 0x60
def St.SETTINGS_DEFAULTED : Nat := 0x61
def St.TIMEOUT : Nat := 0x70
def St.INTERNAL : Nat := 0xFF

/-- The answer the firmware will post for a channel. -/
def Block.answer (b : Block) (ch status : Nat) (data : List Byte) : Block :=
  { b with replies := b.replies.put ch (some ⟨status, data⟩) }

/-- Done, with a response payload. -/
def Block.ok (b : Block) (ch : Nat) (data : List Byte) : Block := b.answer ch St.OK data

/-- Refused with a status and no payload. -/
def Block.no (b : Block) (ch status : Nat) : Block := b.answer ch status []

/-- The status of the first check that fails. -/
def firstFail : List (Bool × Nat) → Option Nat
  | [] => none
  | (bad, st) :: t => if bad then some st else firstFail t

/-- The frame of every host command after the slot checks: in order, whether the command is allowed on the channel
(R600), its length, its arguments, units and self-test (`args`), the safe state (R633) and the command's own
conditions (`conds`); each entry is true where the check FAILS. The first failure is the answer and leaves the
device as it is; else `eff` runs. -/
def Block.command (b : Block) (ch code : Nat) (chOk lenOk : Bool) (args conds : List (Bool × Nat)) (eff : Block → Block) : Block :=
  match firstFail ([(!chOk, St.BAD_COMMAND), (!lenOk, St.BAD_LENGTH)] ++ args ++
      [(b.on F.BIST_STATUS_SAFE 0 && !(code / 256 == 0x01 || code / 256 == 0x0B || code / 256 == 0x0D), St.NOT_READY)] ++ conds) with
  | some st => b.no ch st
  | none => eff b

end Sys2Proof.Machine
end

