-- ==== Sys2Proof/Machine/Timeline.lean ====
section
/-!
DEFINITION. What the device is made of (R1, R705, R732), frame rates and rasters (R66, R69), and positions on the house timelines (R67).
-/
namespace Sys2Proof.Machine

/-! ### Formats (R186, R187) -/

/-- The family timeline of a format code. -/
def fmtTl (c : Nat) : Nat :=
  if c = 1 ∨ c = 4 ∨ c = 7 ∨ c = 9 ∨ c = 12 ∨ c = 15 ∨ c = 17 ∨ c = 20 ∨ c = 23 then 1 else 0

/-- The frame rate of a format code, as a `RATE` code. -/
def fmtRate (c : Nat) : Nat :=
  match c with
  | 1 => 3 | 2 => 2 | 3 => 5 | 4 => 6 | 5 => 7 | 6 => 2 | 7 => 3 | 8 => 4
  | 9 => 0 | 10 => 1 | 11 => 2 | 12 => 3 | 13 => 4 | 14 => 5 | 15 => 6 | 16 => 7
  | 17 => 0 | 18 => 1 | 19 => 2 | 20 => 3 | 21 => 4 | 22 => 5 | 23 => 6 | _ => 7

/-- The lane rate code of a single link. -/
def fmtLane (c : Nat) : Nat :=
  match c with
  | 0 => 15 | 1 => 0 | 2 => 0 | 3 => 2 | 4 => 1 | 5 => 2 | 6 => 2 | 7 => 1 | 8 => 2
  | 9 => 1 | 10 => 2 | 11 => 2 | 12 => 1 | 13 => 2 | 14 => 4 | 15 => 3 | 16 => 4
  | 17 => 5 | 18 => 6 | 19 => 6 | 20 => 5 | 21 => 6 | 22 => 8 | 23 => 7 | _ => 8

/-- The lane rate code of each link of a quad (R190). -/
def fmtQuadLane (c : Nat) : Nat := if fmtTl c = 1 then 3 else 4

def fmtInterlaced (c : Nat) : Bool := c == 1 || c == 2 || c == 6 || c == 7 || c == 8
def fmtSD (c : Nat) : Bool := c == 1 || c == 2
def fmt2160 (c : Nat) : Bool := decide (17 ≤ c) && decide (c ≤ 24)
def fmtOk (c : Nat) : Bool := decide (1 ≤ c) && decide (c ≤ 24)

/-- The class of a format: 0 SD, 1 1.5G, 2 3G, 3 6G, 4 12G. -/
def fmtClass (c : Nat) : Nat :=
  if c ≤ 2 then 0 else if c ≤ 13 then 1 else if c ≤ 16 then 2 else if c ≤ 21 then 3 else 4

/-- Lines of the data structure that a serial link carries. -/
def fmtWireLines (c : Nat) : Nat := if c = 1 then 525 else if c = 2 then 625 else if c ≤ 5 then 750 else 1125

/-- Active lines and samples of the data structure that a serial link carries: of 2160p, those of each 1125-line sub-image (R187). -/
def fmtWireActive (c : Nat) : Nat := if c = 1 then 486 else if c = 2 then 576 else if c ≤ 5 then 720 else 1080
def fmtWireWidth (c : Nat) : Nat := if c ≤ 2 then 720 else if c ≤ 5 then 1280 else 1920

/-- Lines of the raster the device counts (R187). -/
def fmtLines (c : Nat) : Nat := if fmt2160 c then 2250 else fmtWireLines c

/-- A format fits a timeline of rate code `r`: its rate, or half of it (R68, R189). -/
def fmtFits (r c : Nat) : Bool :=
  fmtRate c == r || (fmtRate c == 2 && r == 5) || (fmtRate c == 3 && r == 6) || (fmtRate c == 4 && r == 7)

/-- A format runs at half of a timeline's rate (R68). -/
def fmtHalf (r c : Nat) : Bool := fmtFits r c && fmtRate c != r

/-! ### Units present (R1, R705, R732) -/

def Block.isF (b : Block) : Bool := b.dev.variant == 0
def Block.isE (b : Block) : Bool := b.dev.variant == 2
/-- Media Ethernet ports. -/
def Block.ethMedia (b : Block) : Nat := if b.isE then 0 else 8
/-- Port `e` exists: the media ports fitted, and port 8, the management MAC. -/
def Block.ethHas (b : Block) (e : Nat) : Bool := decide (e < b.ethMedia) || e == 8
def Block.ipFlows (b : Block) : Nat := if b.isE then 0 else 128
def Block.heads (b : Block) : Nat := if b.isF then 32 else if b.isE then 8 else 16
def Block.encoders (b : Block) : Nat := if b.isF then 4 else 0
def Block.nvmePorts (b : Block) : Nat := if b.isF then 2 else 0
def Block.yardGiB (b : Block) : Nat := if b.isE then 24 else 48
def Block.stacks (b : Block) : Nat := if b.isE then 1 else 2
/-- Block `i` is present (R732). -/
def Block.has (b : Block) (i : Nat) : Bool :=
  if i = 0x0F then b.isF else if i = 0x08 then !b.isE else decide (i < 26)
/-- The mask of present blocks. -/
def Block.unitsMask (b : Block) : Nat := (List.range 26).foldl (fun a i => a + bit (b.has i) * 2 ^ i) 0

/-- A source index names a unit that is present (R6 and the notation of 00_scope). -/
def Block.sourceHas (b : Block) (s : Nat) : Bool :=
  decide (s < 128) || (decide (s < 256) && !b.isE) || (decide (256 ≤ s) && decide (s < 256 + b.heads))
    || (decide (288 ≤ s) && decide (s < 336))

/-- An output index names a unit that is present. -/
def Block.outputHas (b : Block) (k : Nat) : Bool := decide (k < 128) || (decide (k < 256) && !b.isE)

/-! ### Rates and rasters -/

/-- Frames per second of a `RATE` code, as a numerator and a denominator. -/
def rateNum (code : Nat) : Nat :=
  match code with
  | 0 => 24000 | 1 => 24 | 2 => 25 | 3 => 30000 | 4 => 30 | 5 => 50 | 6 => 60000 | _ => 60
def rateDen (code : Nat) : Nat :=
  match code with
  | 0 => 1001 | 3 => 1001 | 6 => 1001 | _ => 1

/-- Samples of a line of the data structure that a link carries, from its line rate, its lines and its frame rate: two words a sample, of 10 bits each
(DEDUCED, log 178). -/
def fmtSpl (c : Nat) : Nat :=
  let clock := if fmtSD c then 13500000 else if c ≤ 13 ∨ (17 ≤ c ∧ c ≤ 21) then 74250000 else 148500000
  if fmtSD c then clock * rateDen (fmtRate c) / (rateNum (fmtRate c) * fmtWireLines c)
  else clock / ((rateNum (fmtRate c) + rateDen (fmtRate c) - 1) / rateDen (fmtRate c) * fmtWireLines c)

/-- Lines of a `RASTER` code. -/
def rasterLines (code : Nat) : Nat :=
  match code with
  | 0 => 525 | 1 => 625 | 2 => 750 | _ => 1125

/-- The pairs R69 allows. -/
def rasterPair (raster rate : Nat) : Bool :=
  match raster with
  | 0 => rate == 3
  | 1 => rate == 2
  | 2 => rate == 5 || rate == 6 || rate == 7
  | _ => decide (rate ≤ 7)

/-- The rate belongs to timeline `k`'s family (R66). -/
def rateFamily (k rate : Nat) : Bool :=
  if k = 0 then rate == 1 || rate == 2 || rate == 4 || rate == 5 || rate == 7 else rate == 0 || rate == 3 || rate == 6

/-- The units of device time in one nanosecond and in one second. -/
def nsUnit : Nat := 2 ^ 48
def secUnit : Nat := 2 ^ 48 * 1000000000

def Block.nowSec (b : Block) : Nat := b.time.now / secUnit % 2 ^ 48
def Block.nowNs (b : Block) : Nat := b.time.now / nsUnit % 1000000000
/-- The upper 16 bits of the fraction (R102). -/
def Block.nowFrac (b : Block) : Nat := b.time.now / 2 ^ 32 % 65536

/-- Timeline `k` counts at num / den. -/
def Block.tlNum (b : Block) (k : Nat) : Nat := rateNum (b.fld F.TL_CFG_RATE k)
def Block.tlDen (b : Block) (k : Nat) : Nat := rateDen (b.fld F.TL_CFG_RATE k)
def Block.tlLines (b : Block) (k : Nat) : Nat := rasterLines (b.fld F.TL_CFG_RASTER k)

/-- Timeline `k` counts (R81). -/
def Block.tlOn (b : Block) (k : Nat) : Bool := b.on F.TL_CFG_ENABLE k

/-- The device time that timeline `k` shows: the present one, or the one at which it was disabled (R81; DESIGN CHOICE, log 162). -/
def Block.tlTime (b : Block) (k : Nat) : Nat := if b.tlOn k then b.time.now else b.refs.tlHeld.look k

/-- The whole frames since the epoch, before wrapping to 48 bits (R67). -/
def Block.tlCount (b : Block) (k : Nat) : Nat := b.tlTime k * b.tlNum k / (b.tlDen k * secUnit)
/-- The frame number of timeline `k` (R67). -/
def Block.tlFrame (b : Block) (k : Nat) : Nat := b.tlCount k % 2 ^ 48
/-- The line of timeline `k`, from 1 (R67). -/
def Block.tlLine (b : Block) (k : Nat) : Nat :=
  b.tlTime k * b.tlNum k % (b.tlDen k * secUnit) * b.tlLines k / (b.tlDen k * secUnit) + 1
/-- The sample of timeline `k` (R67). -/
def Block.tlSample (b : Block) (k : Nat) : Nat :=
  b.tlTime k * b.tlNum k % (b.tlDen k * secUnit) * b.tlLines k % (b.tlDen k * secUnit)
    * b.fld F.TL_CFG_SPL k / (b.tlDen k * secUnit)

/-- The start of frame `n` of timeline `k` in device time, rounded up to its unit. -/
def Block.frameStart (b : Block) (k n : Nat) : Nat := (n * b.tlDen k * secUnit + b.tlNum k - 1) / b.tlNum k

/-- One frame period of timeline `k` in whole nanoseconds. -/
def Block.framePeriodNs (b : Block) (k : Nat) : Nat := b.tlDen k * 1000000000 / b.tlNum k

/-- Yes while a core, block or lane is under self-test (R182, R598). -/
def Block.selftest (b : Block) (blk : Nat) : Bool := b.on F.BLK_STATUS_SELFTEST blk

end Sys2Proof.Machine
end

