-- ==== Sys2Proof/Machine/Domains.lean ====
section
/-!
DEFINITION. Power domains: what each holds, which are on, and the queue of changes to them (R12, R177, R655 to R661, R672, R733).
-/
namespace Sys2Proof.Machine

def Block.updPwr (b : Block) (f : PwrSt → PwrSt) : Block := { b with pwr := f b.pwr }

/-- Wake and run charge of a domain, 0.1 A. -/
def wakeCharge (d : Nat) : Nat :=
  if d < 16 then 18 else if d < 33 then 24 else if d < 41 then 12 else if d < 73 then 16 else if d < 77 then 9 else if d < 79 then 6
  else if d < 81 then 60 else if d = 81 then 5 else if d < 86 then 10 else if d = 86 then 4 else if d < 89 then 3 else if d < 93 then 30
  else if d = 93 then 3 else if d = 94 then 15 else 6
def runCharge (d : Nat) : Nat :=
  if d < 16 then 20 else if d < 33 then 16 else if d < 41 then 13 else if d < 73 then 14 else if d < 77 then 10 else if d < 79 then 5
  else if d < 81 then 40 else if d = 81 then 4 else if d < 86 then 6 else if d < 88 then 2 else if d = 88 then 3 else if d < 93 then 25
  else if d = 93 then 2 else if d = 94 then 20 else 3

/-- The domain of a unit that is present. -/
def Block.domHas (b : Block) (d : Nat) : Bool :=
  if d < 33 then true
  else if d < 41 then decide (d - 33 < b.ethMedia)
  else if d < 73 then decide (d - 41 < b.heads)
  else if d < 77 then decide (d - 73 < b.encoders)
  else if d < 79 then decide (d - 77 < b.nvmePorts)
  else if d < 81 then decide (d - 79 < b.stacks)
  else decide (d < 96)

/-- The sleep set (R672). -/
def sleepSet (d : Nat) : Bool := d == 82 || d == 87 || d == 95

/-- The domain that supplies a lane; none for the always-on lanes (R177). -/
def laneDomain (l : Nat) : Option Nat :=
  if l < 256 then some (l % 128 / 8)
  else if l < 324 then (if l % 4 = 0 then none else some (16 + (l - 256) / 4))
  else if l < 332 then some (33 + (l - 324))
  else if l < 336 then some 95
  else if l < 344 then some (77 + (l - 336) / 4)
  else none

/-- The domain that holds a register, by its place from 0x00_4000_0000; none for the always-on domain, the battery domain and what the table
of R655 does not name. -/
def domainOf (addr : Nat) : Option Nat :=
  let o := addr % 0x100000
  if o < 0x100 then none
  else match addr / 0x100000 with
  | 0x01 => some 87
  | 0x02 => some 87
  | 0x03 => if o < 0x200 then none else if o < 0x340 then some 88 else if o < 0x400 then some 87 else some 88
  | 0x04 => if o < 0x1000 then none else laneDomain ((o - 0x1000) / 128)
  | 0x05 => if o < 0x1000 then none else some ((o - 0x1000) / 64 / 8)
  | 0x06 => if o < 0x1000 then (if o < 0x140 then some ((o - 0x100) / 4) else none) else some ((o - 0x1000) / 64 / 8)
  | 0x07 => if o < 0x1000 ∨ 0x3000 ≤ o then none else some (33 + (o - 0x1000) / 1024)
  | 0x09 =>
    if 0x1000 ≤ o ∧ o < 0x6000 then some (89 + Config.stallEngine ((o - 0x1000) / 64) % 4)
    else if 0x40000 ≤ o ∧ o < 0x45000 then some (89 + Config.stallEngine ((o - 0x40000) / 64) % 4) else none
  | 0x0A => if 0x1000 ≤ o ∧ o < 0x2100 then some (16 + (o - 0x1000) / 256) else some 94
  | 0x0B => some 93
  | 0x0C => if 0x1000 ≤ o ∧ o < 0x9000 then some (41 + (o - 0x1000) / 1024) else none
  | 0x0D => some 86
  | 0x0E => some 81
  | 0x0F =>
    if 0x1000 ≤ o ∧ o < 0x2000 then some (73 + (o - 0x1000) / 16 / 64)
    else if 0x200 ≤ o ∧ o < 0x240 then some (77 + (o - 0x200) / 32) else none
  | 0x12 => if o = 0x10C ∨ o = 0x110 then none else some 86
  | 0x16 => if 0x110 ≤ o ∧ o < 0x120 then some (79 + (o - 0x110) / 4 % 2) else if 0x130 ≤ o ∧ o < 0x138 then some (79 + (o - 0x130) / 4) else none
  | 0x18 => some 95
  | _ => none

/-- The domains that hold part of a block; none for a block with a part in the always-on domain, or that R655 does not name. -/
def blockDomains (v : Nat) : List Nat :=
  match v with
  | 0x01 => [87]
  | 0x02 => [87]
  | 0x03 => [87, 88]
  | 0x05 => List.range 16
  | 0x06 => List.range 16
  | 0x09 => [89, 90, 91, 92]
  | 0x0A => 94 :: (List.range 17).map (16 + ·)
  | 0x0B => [93]
  | 0x0C => (List.range 32).map (41 + ·)
  | 0x0D => [86]
  | 0x0E => [81]
  | 0x0F => (List.range 6).map (73 + ·)
  | 0x12 => [86]
  | 0x16 => [79, 80]
  | 0x18 => [95, 77, 78]
  | _ => []

/-- The switched domains of a block, for `BLK_POWERUP_CNT`: those of `LANES` and `ETH` beside what is always on. -/
def countedDomains (v : Nat) : List Nat :=
  match v with
  | 0x04 => (List.range 41) ++ [77, 78, 95]
  | 0x07 => (List.range 8).map (33 + ·)
  | v => blockDomains v

/-- The power domain `d` is on (R655). -/
def Block.domOn (b : Block) (d : Nat) : Bool := b.bitAt F.PWR_DOM_ON_ON (d / 32) (d % 32)

/-- `BLK_STATUS.POWERED`. -/
def Block.powered (b : Block) (v : Nat) : Bool := (blockDomains v).isEmpty || (blockDomains v).any b.domOn

/-- A register is held by a domain that is off (R570). -/
def Block.regOff (b : Block) (addr : Nat) : Bool :=
  match domainOf addr with
  | some d => !b.domOn d
  | none => false

/-- Charges count 1/240 of 0.1 A. -/
def chargeUnit : Nat := 240

/-- The state of a domain once every waiting change is made. -/
def Block.domFuture (b : Block) (d : Nat) : Bool :=
  match (b.pwr.queue.filter fun c => c.dom == d).getLast? with
  | some c => c.on
  | none => b.domOn d

/-- Changes of domains queued in ascending number; the last is marked when it ends a request (R660). -/
def Block.queueDoms (b : Block) (ds : List Nat) (on ends : Bool) : Block :=
  let ds := ds.filter fun d => b.domFuture d != on
  let cs := ds.map fun d => (⟨d, on, wakeCharge d * chargeUnit, ends && ds.getLast? == some d⟩ : DomChange)
  let b := b.updPwr fun p => { p with queue := p.queue ++ cs }
  b.ite (ends && ds.isEmpty) fun b => b.set F.PWR_HIST_DOMAIN_DONE 0


/-- The domains of fabric ports that the fabric does not use (R12); none is unused before the fabric's size is set. -/
def Block.domUnused (b : Block) (d : Nat) : Bool := b.fld F.FAB_CFG_N 0 != 0 && decide (15 + b.fld F.FAB_CFG_N 0 ≤ d) && decide (d < 33)

/-- The domains of the fabric ports follow the fabric's size (R12): those of unused ports are queued off, those of used ports on again unless
`PWR_DOMAIN` switched them off. -/
def Block.settlePortDoms (b : Block) : Block :=
  if b.fld F.FAB_CFG_N 0 = 0 then b
  else
    let ps := (List.range 33).filter fun d => decide (16 ≤ d)
    (b.queueDoms (ps.filter b.domUnused) false false).queueDoms (ps.filter fun d => !b.domUnused d && !decide (d ∈ b.pwr.off)) true false

/-! ### Pins that failed self-test (R634, R714) -/

/-- The ball at a row and column failed phase 1 of the self-test: its pin is held at its reset state. -/
def Block.pinBad (b : Block) (place : Nat × Nat) : Bool := b.start.badBalls.any fun a => Config.ballPlace a == place

/-- Where the non-lane signals lie. -/
def gpioPin (n : Nat) : Nat × Nat := (9, 9 + n)
def sapPin (n k : Nat) : Nat × Nat := (10 + (6 * n + k) / 32, 9 + (6 * n + k) % 32)
def tmrPin (k : Nat) : Nat × Nat := (13, 9 + k)
def fpPin (j : Nat) : Nat × Nat := (13, 17 + j)
def trigPin : Nat × Nat := (13, 27)
def guardKeyPin : Nat × Nat := (13, 40)
/-- The reference pins of a candidate: line and frame of REFIN_A and REFIN_B, REF10M_IN, PPS_IN. -/
def refPins (n : Nat) : List (Nat × Nat) :=
  match n with
  | 0 => [(13, 21), (13, 22)]
  | 1 => [(13, 23), (13, 24)]
  | 2 => [(13, 25)]
  | 3 => [(13, 26)]
  | _ => []
/-- A pin of serial audio port `n` failed. -/
def Block.sapBad (b : Block) (n : Nat) : Bool := (List.range 6).any fun k => b.pinBad (sapPin n k)

end Sys2Proof.Machine
end

