-- ==== Sys2Proof/Machine/Time.lean ====
section
/-!
DEFINITION. Device time, timers and capture units (R101 to R131, R134, R135).
-/
namespace Sys2Proof.Machine

/-! ### Rate, slew and tick -/

/-- The limit of `TIME_RATE`, 1,000 ppm (R104). -/
def rateLimit : Int := 281474976710

/-- `TIME_RATE` set to what the loop asks for, clamped (R104). -/
def Block.steer (b : Block) (ask : Int) : Block :=
  let r := clampInt (-rateLimit) rateLimit ask
  let b := { b with time := { b.time with rate := r } }
  b.ite (decide (r ≠ ask)) fun b => b.set F.TIME_HIST_LIMIT_HIT 0

/-- The largest slew term of one tick, 2^-48 ns: the lesser of the loop's slope and `SLEW_LIM` (R105). -/
def Block.slewMax (b : Block) : Nat :=
  min (b.fld F.REFS_SLOPE_SLOPE_LIM 0 * 2 ^ 48 / 1000000000) (b.fld F.TIME_CTRL_SLEW_LIM 0 * 2 ^ 48 / 1000000)

/-- The slew term of the next tick (R105): toward zero of `TIME_ADJ`, never past it. -/
def Block.slewTerm (b : Block) : Int := clampInt (-(b.slewMax : Int)) b.slewMax b.time.adj

/-- The effective rate r (R106), 2^-48. -/
def Block.rateNow (b : Block) : Int := b.time.rate + b.slewTerm

/-- Device time wraps after 2^48 seconds (R102). -/
def nowWrap (i : Int) : Nat := (i % Int.ofNat (2 ^ 48 * secUnit)).toNat

/-- TIME_TICK: the counter advances by one and device time by 1 + r ns (R101, R102, R105). -/
def timeTick (b : Block) : Block :=
  { b with time := { b.time with
      raw := (b.time.raw + 1) % 2 ^ 64
      now := nowWrap (Int.ofNat (b.time.now + nsUnit) + b.rateNow)
      adj := b.time.adj - b.slewTerm
      seenRate := b.time.rate
      seenAdj := b.time.adj - b.slewTerm } }

/-- `TIME_ADJ` in 1/16 ns as a read of this tick shows it (R105, R128). -/
def Block.adjRead (b : Block) : Int := b.time.seenAdj / Int.ofNat (2 ^ 44)

/-- `SLEWING` of `TIME_STATUS`: `TIME_ADJ` not zero (R128, R133). -/
def Block.slewing (b : Block) : Bool := b.time.seenAdj != 0

/-- A phase correction of `p` sixteenths of a nanosecond is added to `TIME_ADJ` (R105), a signed 48-bit value. -/
def Block.addAdj (b : Block) (p : Int) : Block :=
  let total := signedOf 48 (patternOf 48 (b.time.adj / Int.ofNat (2 ^ 44) + p))
  { b with time := { b.time with adj := total * Int.ofNat (2 ^ 44), adjDue := b.time.adjDue || total != 0 || b.time.adj != 0 } }

/-- `TIME_ADJ` cleared, which is no correction that reaches zero (R109, R111). -/
def Block.clearAdj (b : Block) : Block := { b with time := { b.time with adj := 0, adjDue := false } }

/-- TIME_ADJ_DONE: `TIME_ADJ` has reached zero (R105). -/
def timeAdjDone (b : Block) : Block :=
  if b.time.adj = 0 ∧ b.time.adjDue then { b with time := { b.time with adjDue := false } }.set F.TIME_HIST_ADJ_DONE 0 else b

/-! ### Timers -/

/-- The programmed time in timer `n`'s registers. -/
def Block.tmrStart (b : Block) (n : Nat) : Nat :=
  (b.fld F.TMR_START_SEC_HI_SEC n * 2 ^ 32 + b.fld F.TMR_START_SEC_LO_SEC n) * secUnit + b.fld F.TMR_START_NS_NS n * nsUnit

/-- The period in timer `n`'s registers (R118). -/
def Block.tmrPeriod (b : Block) (n : Nat) : Nat :=
  b.fld F.TMR_PERIOD_NS_NS n * nsUnit + b.fld F.TMR_PERIOD_FRAC_FRAC n * 2 ^ 32

/-- The first time on a schedule from `t` in steps of `p` that is not before `now` (R119). -/
def notPast (t p now : Nat) : Nat := if now ≤ t then t else t + (now - t + p - 1) / p * p

def Block.setNext (b : Block) (n t : Nat) : Block :=
  { b with time := { b.time with tmrNext := b.time.tmrNext.put n t } }

/-- The timers that drive `TMR_OUT[p]`, lowest first. -/
def Block.tmrOn (b : Block) (p : Nat) : List Nat := (List.range 16).filter fun n => b.on F.TMR_CFG_PIN_EN n && b.fld F.TMR_CFG_PIN n == p

/-- The active level of `TMR_OUT[p]`, from `POL` of the lowest timer that drives it (R117, R133; timers of different `POL` on one pin: DESIGN
CHOICE, log 163). -/
def Block.tmrActive (b : Block) (p : Nat) : Bool := ((b.tmrOn p).head?.map fun n => b.on F.TMR_CFG_POL n).getD false

/-- The level of `TMR_OUT[p]`: the pulses of its timers combined by OR in its active level (R117). -/
def Block.tmrOut (b : Block) (p : Nat) : Bool :=
  if (b.tmrOn p).any fun n => decide (b.time.raw < b.time.tmrEnd.look n) then b.tmrActive p else !b.tmrActive p

/-- Timer `n` pulses: `FIRED`, the count and the pin (R117, R122); a one-shot disarms (R119). -/
def Block.tmrPulse (b : Block) (n : Nat) : Block :=
  let b := b.setBit F.TMR_HIST_FIRED 0 n
  let b := b.setFld F.TMR_COUNT_COUNT n (b.fld F.TMR_COUNT_COUNT n + 1)
  let w := b.fld F.TMR_CFG_WIDTH n * 100
  let b := { b with time := { b.time with tmrEnd := b.time.tmrEnd.put n (b.time.raw + w) } }
  let b := b.emit (.pulse n (if b.on F.TMR_CFG_PIN_EN n && !b.pinBad (tmrPin (b.fld F.TMR_CFG_PIN n)) then some (b.fld F.TMR_CFG_PIN n) else none) w (b.tmrActive (b.fld F.TMR_CFG_PIN n)))
  if b.on F.TMR_CFG_PERIODIC n then b else b.clr F.TMR_CFG_ARM n

/-- Timer `n` armed from its registers at device time `now` (R119). -/
def Block.tmrLoad (b : Block) (n : Nat) : Block :=
  let t := b.tmrStart n
  if t < b.time.now then
    if b.on F.TMR_CFG_PERIODIC n then b.setNext n (notPast t (b.tmrPeriod n) b.time.now)
    else ((b.setNext n t).tmrPulse n).setBit F.TMR_HIST_LATE 0 n
  else b.setNext n t

/-- The arming that R120 refuses: periodic, and shorter than the pulse and 100 ns. -/
def tmrTooShort (periodic : Bool) (period width : Nat) : Bool :=
  periodic && decide (period < (width * 100 + 100) * nsUnit)

def tmrFields : List Field :=
  [F.TMR_CFG_ARM, F.TMR_CFG_PERIODIC, F.TMR_CFG_POL, F.TMR_CFG_PIN, F.TMR_CFG_PIN_EN, F.TMR_CFG_WIDTH]

/-- TMR_ARM: word `v` written to `TMR_CFG[n]` (R119, R120). -/
def tmrArm (n v : Nat) (b : Block) : Block :=
  let arm := F.TMR_CFG_ARM.of v == 1
  if arm && tmrTooShort (F.TMR_CFG_PERIODIC.of v == 1) (b.tmrPeriod n) (F.TMR_CFG_WIDTH.stored (F.TMR_CFG_WIDTH.of v)) then
    b.reject 1 F.TIME_HIST_CFG_REJECTED 0
  else
    (b.storeWord tmrFields n v).ite arm fun b => b.tmrLoad n

/-- TIMER_FIRE: device time has reached timer `n`'s programmed time (R117, R118). -/
def timerFire (n : Nat) (b : Block) : Block :=
  let t := b.time.tmrNext.look n
  if b.on F.TMR_CFG_ARM n ∧ t ≤ b.time.now then
    (b.tmrPulse n).ite (b.on F.TMR_CFG_PERIODIC n) fun b => b.setNext n (t + b.tmrPeriod n)
  else b

/-- A first set that moved device time from `old` forward past timer `n`'s programmed time (R121); one that stops at it lets the timer fire as
it does when its time is reached (R117). -/
def Block.tmrJumped (b : Block) (old n : Nat) : Block :=
  let t := b.time.tmrNext.look n
  if b.on F.TMR_CFG_ARM n ∧ old < t ∧ t < b.time.now then
    ((b.tmrPulse n).setBit F.TMR_HIST_LATE 0 n).ite (b.on F.TMR_CFG_PERIODIC n) fun b =>
      b.setNext n (notPast t (b.tmrPeriod n) b.time.now)
  else b

/-! ### First set (R109 to R111, R121) -/

/-- The frame-pulse outputs keep their pulses where they were when device time steps by `d` (R73). -/
def Block.fpStepped (b : Block) (d : Int) : Block :=
  b.each (List.range 4) fun b j =>
    { b with refs := { b.refs with fps := b.refs.fps.upd j fun f => { f with off := f.off - d / Int.ofNat nsUnit } } }

/-- The cycle counts of the synthesizers go on over a step of device time by `d` (R88). -/
def Block.pllStepped (b : Block) (d : Int) : Block :=
  b.each (List.range 8) fun b m => { b with pll := b.pll.upd m fun y => { y with lockAt := y.lockAt.map (· + d) } }

/-- Device time set to `t` (R109): `TIME_ADJ` cleared, `SYNCED`, `FIRST_SET` and `TIME_SYNCED` set. -/
def Block.firstSet (b : Block) (t : Nat) : Block :=
  let old := b.time.now
  let b := ({ b with time := { b.time with now := t } }).clearAdj
  let b := ((b.set F.TIME_STATUS_SYNCED 0).set F.TIME_HIST_FIRST_SET 0).set F.REFS_STATUS_TIME_SYNCED 0
  let b := (b.fpStepped (Int.ofNat t - Int.ofNat old)).pllStepped (Int.ofNat t - Int.ofNat old)
  b.each (List.range 16) fun b n => b.tmrJumped old n

def Block.synced (b : Block) : Bool := b.on F.TIME_STATUS_SYNCED 0

/-- The value in the `TIME_SET` registers. -/
def Block.setValue (b : Block) : Nat :=
  (b.fld F.TIME_SET_SEC_HI_SEC 0 * 2 ^ 32 + b.fld F.TIME_SET_SEC_LO_SEC 0) * secUnit + b.fld F.TIME_SET_NS_NS 0 * nsUnit

/-- SET_GO: `TIME_CTRL` written with `SET_GO`; `tie` when the loop's first set falls on the same tick (R109, R110). -/
def setGo (v : Nat) (tie : Bool) (b : Block) : Block :=
  let b := b.store F.TIME_CTRL_SLEW_LIM 0 (F.TIME_CTRL_SLEW_LIM.of v)
  if F.TIME_CTRL_SET_GO.of v = 0 then b
  else if tie ∨ b.synced then b.set F.TIME_HIST_SET_REJECTED 0
  else b.firstSet b.setValue

/-! ### Reads (R126, R127) -/

/-- TIME_NS_READ: the seconds and fraction latch from the same tick (R127). -/
def timeNsRead (b : Block) : Block :=
  (((b.setFld F.TIME_SEC_LO_SEC 0 b.nowSec).setFld F.TIME_SEC_HI_SEC 0 (b.nowSec / 2 ^ 32)).setFld F.TIME_FRAC_FRAC 0 b.nowFrac).emit
    (.read b.nowNs)

/-- TIME_RAW_LO_READ (R127). -/
def timeRawLoRead (b : Block) : Block :=
  (b.setFld F.TIME_RAW_HI_RAW 0 (b.time.raw / 2 ^ 32)).emit (.read (b.time.raw % 2 ^ 32))

/-- TIME_RATE_LO_READ (R127, R128). -/
def timeRateLoRead (b : Block) : Block :=
  (b.setFld F.TIME_RATE_HI_RATE 0 (patternOf 48 b.time.seenRate / 2 ^ 32)).emit (.read (patternOf 48 b.time.seenRate % 2 ^ 32))

/-! ### Captures (R123 to R126) -/

def Block.capQueue (b : Block) (n : Nat) : List CapEntry := b.time.caps.look n
def Block.setCapQueue (b : Block) (n : Nat) (q : List CapEntry) : Block :=
  { b with time := { b.time with caps := b.time.caps.put n q } }

/-- CAPTURE_EDGE: an edge of unit `n`'s source; `quarters` of a nanosecond where the source is interpolated (R123 to R125). -/
def captureEdge (n : Nat) (rising : Bool) (quarters : Nat) (b : Block) : Block :=
  let src := b.fld F.CAP_CFG_SRC n
  let edge := b.fld F.CAP_CFG_EDGE n
  let sel := (edge == 3) || (edge == 1 && rising) || (edge == 2 && !rising)
  let known := decide (src ≤ 11) || decide (16 ≤ src)
  if b.on F.CAP_CFG_EN n ∧ sel ∧ known then
    if 4 ≤ (b.capQueue n).length then
      (b.bump F.CAP_CFG_OVF_COUNT n 1).setBit F.CAP_HIST_OVF 0 n
    else
      let frac := if src = 1 ∨ src = 2 ∨ src = 3 then quarters % 4 * 16384 else 0
      (b.setCapQueue n (b.capQueue n ++ [⟨b.nowSec, b.nowNs, frac, rising⟩])).setBit F.CAP_HIST_CAPTURED 0 n
  else b

/-- The word of `CAP_NS[n]` for a queue (R126). -/
def capWord (q : List CapEntry) : Nat :=
  match q with
  | [] => 0
  | e :: _ => e.ns + bit e.rising * 2 ^ 30 + 2 ^ 31

/-- CAP_NS_READ: a management core reads `CAP_NS[n]` (R126). -/
def capNsRead (n : Nat) (b : Block) : Block :=
  match b.capQueue n with
  | [] => b.emit (.read 0)
  | e :: t =>
    ((((b.setCapQueue n t).setFld F.CAP_SEC_LO_SEC n e.sec).setFld F.CAP_SEC_HI_SEC n (e.sec / 2 ^ 32)).setFld F.CAP_SEC_HI_FRAC n e.frac).emit
      (.read (capWord (e :: t)))

def capFields : List Field := [F.CAP_CFG_SRC, F.CAP_CFG_EDGE, F.CAP_CFG_EN]

/-- A write of `CAP_CFG[n]`: `EN` = 0 empties the queue. -/
def Block.capCfgWrite (b : Block) (n v : Nat) : Block :=
  let b := b.storeWord capFields n v
  if b.on F.CAP_CFG_EN n then b else b.setCapQueue n []

/-! ### Commands -/

/-- The bytes of TIME_GET. -/
def Block.timeBytes (b : Block) : List Byte :=
  leBytes 8 b.nowSec ++ leBytes 4 b.nowNs ++ leBytes 2 b.nowFrac
    ++ leBytes 1 (bit b.synced + 2 * bit b.slewing) ++ [0]
    ++ leBytes 6 (patternOf 48 b.time.seenRate) ++ [0, 0] ++ leBytes 8 (patternOf 64 b.adjRead)

/-- TIME_GET, 0x0208. -/
def timeGet (ch : Nat) (p : List Byte) (b : Block) : Block :=
  b.command ch 0x0208 true (p.length == 0) [] [] fun b => b.ok ch b.timeBytes

/-- TMR_SET, 0x0209 (R135). -/
def tmrSet (ch : Nat) (p : List Byte) (b : Block) : Block :=
  let n := le p 0 1; let fl := le p 1 1; let w := le p 4 4
  let period := le p 20 4 * nsUnit + le p 24 2 * 2 ^ 32
  b.command ch 0x0209 true (p.length == 28)
    [(!(decide (n ≤ 15) && decide (fl ≤ 15) && decide (le p 2 1 ≤ 7) && zeros p 3 1 && decide (1 ≤ w) && decide (w ≤ 16777215)
        && zeros p 14 2 && decide (le p 16 4 ≤ 999999999) && zeros p 26 2), St.BAD_ARG),
     (bitOf fl 0 && tmrTooShort (bitOf fl 1) period w, St.BAD_ARG)] [(bitOf fl 3 && b.pinBad (tmrPin (le p 2 1)), St.NOT_READY)]
    fun b =>
      let b := b.setFld F.TMR_CFG_ARM n (bit (bitOf fl 0))
      let b := b.setFld F.TMR_CFG_PERIODIC n (bit (bitOf fl 1))
      let b := b.setFld F.TMR_CFG_POL n (bit (bitOf fl 2))
      let b := b.setFld F.TMR_CFG_PIN_EN n (bit (bitOf fl 3))
      let b := b.setFld F.TMR_CFG_PIN n (le p 2 1)
      let b := b.setFld F.TMR_CFG_WIDTH n w
      let b := b.setFld F.TMR_START_SEC_LO_SEC n (le p 8 4)
      let b := b.setFld F.TMR_START_SEC_HI_SEC n (le p 12 2)
      let b := b.setFld F.TMR_START_NS_NS n (le p 16 4)
      let b := b.setFld F.TMR_PERIOD_NS_NS n (le p 20 4)
      let b := b.setFld F.TMR_PERIOD_FRAC_FRAC n (le p 24 2)
      (b.ite (bitOf fl 0) fun b => b.tmrLoad n).ok ch []

/-- CAP_SET, 0x020A. -/
def capSet (ch : Nat) (p : List Byte) (b : Block) : Block :=
  let n := le p 0 1
  b.command ch 0x020A true (p.length == 4)
    [(!(decide (n ≤ 15) && decide (le p 1 1 ≤ 63) && decide (le p 2 1 ≤ 3) && decide (le p 3 1 ≤ 1)), St.BAD_ARG)] []
    fun b => (b.capCfgWrite n (le p 1 1 + le p 2 1 * 64 + le p 3 1 * 256)).ok ch []

def CapEntry.bytes (e : CapEntry) : List Byte :=
  leBytes 8 e.sec ++ leBytes 4 e.ns ++ leBytes 2 e.frac ++ leBytes 1 (bit e.rising) ++ [0]

/-- CAP_READ, 0x020B (R131). -/
def capRead (ch : Nat) (p : List Byte) (b : Block) : Block :=
  let n := le p 0 1; let m := le p 1 1
  b.command ch 0x020B true (p.length == 4)
    [(!(decide (n ≤ 15) && decide (1 ≤ m) && decide (m ≤ 4) && zeros p 2 2), St.BAD_ARG)] []
    fun b =>
      let got := (b.capQueue n).take m
      (b.setCapQueue n ((b.capQueue n).drop m)).ok ch
        (leBytes 1 got.length ++ [0] ++ leBytes 2 (b.fld F.CAP_CFG_OVF_COUNT n) ++ got.flatMap CapEntry.bytes)

end Sys2Proof.Machine
end

