-- ==== Sys2Proof/Machine/Pll.lean ====
section
/-!
DEFINITION. The eight synthesizers (R85 to R100). Instances 0 to 3 are media, 4 to 6 small, 7 is the system synthesizer.
-/
namespace Sys2Proof.Machine

/-! State codes of `PLL_STATUS`: 0 OFF, 1 ACQUIRING, 2 LOCKED, 3 COASTING, 4 RAMPING. -/

def Block.pllState (b : Block) (m : Nat) : Nat := b.fld F.PLL_STATUS_STATE m
def Block.setPllState (b : Block) (m st : Nat) : Block := b.setFld F.PLL_STATUS_STATE m st
def Block.synth (b : Block) (m : Nat) : Synth := b.pll.look m
def Block.updSynth (b : Block) (m : Nat) (f : Synth → Synth) : Block := { b with pll := b.pll.upd m f }

/-- The programmed divider word, 2^-32 (R86). -/
def Block.pllWord (b : Block) (m : Nat) : Nat := b.fld F.PLL_N_INT_N_INT m * 2 ^ 32 + b.fld F.PLL_N_FRAC_N_FRAC m
def Block.setPllWord (b : Block) (m w : Nat) : Block :=
  (b.setFld F.PLL_N_INT_N_INT m (w / 2 ^ 32)).setFld F.PLL_N_FRAC_N_FRAC m w

/-- A word keeps `N_INT` and the media oscillator within R86. -/
def Block.pllWordOk (b : Block) (m w : Nat) : Bool :=
  decide (16 * 2 ^ 32 ≤ w) && decide (w < 512 * 2 ^ 32)
    && decide (9000 * (b.fld F.PLL_CTRL_PRE_DIV m + 1) * 2 ^ 32 ≤ 50 * w)
    && decide (50 * w ≤ 12000 * (b.fld F.PLL_CTRL_PRE_DIV m + 1) * 2 ^ 32)

/-- The synthesizer is ramping, or paused in a ramp by a loss of lock (R96, R98). -/
def Block.ramping (b : Block) (m : Nat) : Bool := b.pllState m == 4 || (b.synth m).paused

/-- Counting of output cycles starts anew (R88). -/
def Block.countFrom (b : Block) (m : Nat) : Block := b.updSynth m fun y => { y with lockAt := some (b.time.now : Int), corrected := 0 }

/-- Loss of lock or reference: the control value freezes and the output stays on (R90 to R93, R685). -/
def Block.coast (b : Block) (m : Nat) : Block :=
  let b := b.updSynth m fun y => { y with good := 0, lost := true, paused := y.paused || b.pllState m == 4 }
  let b := ((b.setPllState m 3).set F.PLL_HIST_LOCK_LOST m).bump F.PLL_STATUS_LOSS_COUNT m 1
  b.ite (m == 7) fun b => b.fault 0x00 0x03 7 true false

/-- Acquisition starts anew from OFF, or restarts, with the output gated off (R94, R95, R99). -/
def Block.acquire (b : Block) (m : Nat) : Block :=
  let b := b.updSynth m fun _ => default
  ((b.setPllState m 1).clr F.PLL_STATUS_OUT_ON m).clr F.PLL_STATUS_RAMP_SEG m

/-- Off: the output is gated off at the end of a low phase (R94). -/
def Block.pllOff (b : Block) (m : Nat) : Block :=
  let b := b.updSynth m fun _ => default
  ((b.setPllState m 0).clr F.PLL_STATUS_OUT_ON m).clr F.PLL_STATUS_RAMP_SEG m

/-- Lock declared (R89, R91, R95, R98); a loss that ends so was transient (R685). -/
def Block.pllLock (b : Block) (m : Nat) : Block :=
  let y := b.synth m
  let b := b.ite y.lost fun b => b.fault 0x03 0x02 m false false
  let b := (b.setPllState m (if y.paused then 4 else 2)).set F.PLL_HIST_LOCK_GAINED m
  let b := (b.updSynth m fun y => { y with good := 0, lost := false, timedOut := false, paused := false }).countFrom m
  b.ite (b.on F.PLL_CTRL_OUT_EN m) fun b => b.set F.PLL_STATUS_OUT_ON m

/-- The divider word in use: the ramp's while one is under way, else the programmed one (R86, R97). -/
def Block.wordNow (b : Block) (m : Nat) : Nat := if b.ramping m then (b.synth m).word else b.pllWord m

/-- A window's count of oscillator cycles divided by 8 differs from `LOCK_WIN` × N ÷ 8 by at most `k` times `LOCK_TOL` (R89, R90). -/
def Block.windowWithin (b : Block) (m count k : Nat) : Bool :=
  decide ((Int.ofNat (count * 2 ^ 35) - Int.ofNat (b.fld F.PLL_LOCK_CFG_LOCK_WIN m * b.wordNow m)).natAbs ≤ k * b.fld F.PLL_LOCK_CFG_LOCK_TOL m * 2 ^ 35)

/-- `REF_OK` of every synthesizer: `OSC_IN` is present (R132). -/
def Block.refOk (b : Block) (p : Bool) : Block := b.each (List.range 8) fun b m => b.setTo F.PLL_STATUS_REF_OK m p

/-- PLL_LOCK_WINDOW: a window ends with its count of oscillator cycles divided by 8 (R89, R90); a coasting synthesizer whose reference is
present acquires again, its output on (R91). -/
def pllLockWindow (m count : Nat) (b : Block) : Block :=
  if m < 8 ∧ b.on F.PLL_CTRL_EN m ∧ b.oscLost = false then
    let b := b.refOk true
    let b := b.ite (b.pllState m == 0) fun b => b.acquire m
    -- the oscillator control value follows the loop, and is frozen while coasting (R91)
    let b := b.ite (b.pllState m != 3) fun b => b.setFree F.PLL_CTRL_VAL_CTRL m
    let b := b.ite (b.pllState m == 3) fun b => b.setPllState m 1
    let st := b.pllState m
    if st = 2 ∨ st = 4 then
      if b.windowWithin m count 4 then b else b.coast m
    else if b.windowWithin m count 1 then
      let b := b.updSynth m fun y => { y with good := y.good + 1 }
      if b.fld F.PLL_LOCK_CFG_LOCK_CNT m ≤ (b.synth m).good then b.pllLock m else b
    else b.updSynth m fun y => { y with good := 0 }
  else b

/-- OSC_IN_LOST: no edge for 1 µs; every synthesizer that is on loses its reference and coasts, unless it does already (R90, R91). -/
def oscInLost (b : Block) : Block :=
  ({ b with oscLost := true }.refOk false).each (List.range 8) fun b m =>
    if b.on F.PLL_CTRL_EN m then
      let b := b.set F.PLL_HIST_REF_LOST m
      let b := b.updSynth m fun y => { y with good := 0 }
      if b.pllState m = 0 ∨ b.pllState m = 3 then b else b.coast m
    else b

/-- OSC_IN_RETURN: the coasting synthesizers acquire again from the frozen value, their outputs on throughout (R91). -/
def oscInReturn (b : Block) : Block :=
  ({ b with oscLost := false }.refOk true).each (List.range 8) fun b m =>
    if b.on F.PLL_CTRL_EN m ∧ b.pllState m = 3 then b.setPllState m 1 else b

/-- PLL_COAST_TIMEOUT: ten seconds have passed since a loss of lock that has not come back; the fault is lasting (R685). -/
def pllCoastTimeout (m : Nat) (b : Block) : Block :=
  if (b.synth m).lost then (b.updSynth m fun y => { y with timedOut := true }).fault 0x03 0x02 m true false else b

/-- The target word of segment `seg` of media synthesizer `m`. -/
def Block.rampTarget (b : Block) (m seg : Nat) : Nat :=
  b.fld F.RAMP_INT_TGT_INT (4 * m + seg) * 2 ^ 32 + b.fld F.RAMP_FRAC_TGT_FRAC (4 * m + seg)

/-- The ramp stops at the current word, which becomes the programmed word (R98). -/
def Block.rampStop (b : Block) (m : Nat) : Block :=
  let w := (b.synth m).word
  let b := b.setPllWord m w
  let b := b.ite (b.pllState m == 4) fun b => b.setPllState m 2
  (b.updSynth m fun y => { y with holding := false, paused := false, word := 0 }).countFrom m

/-- Segment `seg` starts, or the ramp ends as under ABORT when its target breaks R86. -/
def Block.rampStart (b : Block) (m seg : Nat) : Block :=
  if b.pllWordOk m (b.rampTarget m seg) then
    (b.setFld F.PLL_STATUS_RAMP_SEG m seg).updSynth m fun y => { y with holding := false }
  else (b.rampStop m).set F.PLL_HIST_WRITE_REJECTED m

/-- RAMP_GO: `PLL_RAMP_GO[m]` written with `GO` (R97). A synthesizer that is not `LOCKED` ignores `GO` without `WRITE_REJECTED`, which R96 gives
only for writes it names (DESIGN CHOICE, log 164). -/
def rampGo (m v : Nat) (b : Block) : Block :=
  if F.PLL_RAMP_GO_GO.of v = 1 ∧ m < 4 ∧ b.pllState m = 2 then
    let b := b.updSynth m fun y => { y with word := b.pllWord m }
    (b.setPllState m 4).rampStart m 0
  else b

/-- RAMP_ABORT: `PLL_RAMP_GO[m]` written with `ABORT` (R98). -/
def rampAbort (m v : Nat) (b : Block) : Block :=
  if F.PLL_RAMP_GO_ABORT.of v = 1 ∧ m < 4 ∧ b.ramping m then b.rampStop m else b

/-- A word moved toward a target by at most `step`. -/
def toward (w t step : Nat) : Nat := if w < t then min t (w + step) else max t (w - step)

/-- PLL_TRACK_UPDATE: the 1 µs update of the divider word (R88, R97). -/
def pllTrackUpdate (m : Nat) (b : Block) : Block :=
  let b := b.ite (b.pllState m == 4 && !(b.synth m).holding) fun b =>
    let seg := b.fld F.PLL_STATUS_RAMP_SEG m
    let step := max 1 (b.fld F.RAMP_STEP_STEP (4 * m + seg))
    let w := toward (b.synth m).word (b.rampTarget m seg) step
    b.updSynth m fun y => { y with word := w, holding := w == b.rampTarget m seg }
  if b.on F.PLL_CTRL_EN m ∧ b.on F.PLL_CTRL_TRACK m then
    let w := b.wordNow m
    b.updSynth m fun y => { y with tracked := (Int.ofNat w + Int.ofNat w * b.rateNow / Int.ofNat (2 ^ 48) + y.corrected).toNat }
  else b

/-- The divisors between the reference and the output: (`PRE_DIV` + 1) × `POST_DIV` (R86). -/
def Block.pllDivs (b : Block) (m : Nat) : Nat := (b.fld F.PLL_CTRL_PRE_DIV m + 1) * b.fld F.PLL_CTRL_POST_DIV m

/-- Output cycles that the programmed ratio asks for in `e` 2^-48 ns of device time (R86, R88). -/
def Block.cyclesAsked (b : Block) (m : Nat) (e : Int) : Int := e * Int.ofNat (b.pllWord m) / Int.ofNat (2 ^ 80 * 20 * b.pllDivs m)

/-- PLL_COUNT_CORRECT: `count` output cycles since lock are compared with what the programmed ratio asks for, and the difference is added back
to the word over the next millisecond (R88). -/
def pllCountCorrect (m count : Nat) (b : Block) : Block :=
  match (b.synth m).lockAt with
  | some t =>
    if b.on F.PLL_CTRL_EN m ∧ b.on F.PLL_CTRL_TRACK m ∧ b.pllState m = 2 then
      let diff := b.cyclesAsked m (Int.ofNat b.time.now - t) - Int.ofNat count
      b.updSynth m fun y => { y with corrected := diff * Int.ofNat (b.pllDivs m * 2 ^ 32) / 50000 }
    else b
  | none => b

/-- RAMP_HOLD_END: the `HOLD` of the segment expires (R97). -/
def rampHoldEnd (m : Nat) (b : Block) : Block :=
  if b.pllState m = 4 ∧ (b.synth m).holding then
    let seg := b.fld F.PLL_STATUS_RAMP_SEG m
    if b.on F.RAMP_STEP_LAST (4 * m + seg) ∨ seg = 3 then
      (b.rampStop m).set F.PLL_HIST_RAMP_DONE m
    else b.rampStart m (seg + 1)
  else b

def pllCtrlFields : List Field :=
  [F.PLL_CTRL_EN, F.PLL_CTRL_OUT_EN, F.PLL_CTRL_TRACK, F.PLL_CTRL_PRE_DIV, F.PLL_CTRL_POST_DIV]
/-- The register of a `which` (R96, R99). -/
def pllReg (which : Nat) : Reg :=
  match which with
  | 0 => R.PLL_CTRL
  | 1 => R.PLL_N_INT
  | 2 => R.PLL_N_FRAC
  | _ => R.PLL_LOCK_CFG

def pllCfgFields (which : Nat) : List Field :=
  match which with
  | 0 => pllCtrlFields
  | 1 => [F.PLL_N_INT_N_INT]
  | 2 => [F.PLL_N_FRAC_N_FRAC]
  | _ => [F.PLL_LOCK_CFG_LOCK_WIN, F.PLL_LOCK_CFG_LOCK_TOL, F.PLL_LOCK_CFG_LOCK_CNT]

/-- PLL_DIVIDER_WRITE: `PLL_N_INT[m]` (`which` 1) or `PLL_N_FRAC[m]` (`which` 2) of a media synthesizer is written (R96). -/
def pllDividerWrite (m which v : Nat) (b : Block) : Block :=
  let new := if which = 1 then v % 512 * 2 ^ 32 + b.fld F.PLL_N_FRAC_N_FRAC m
             else b.fld F.PLL_N_INT_N_INT m * 2 ^ 32 + v % 2 ^ 32
  let old := b.pllWord m
  let move := if old < new then new - old else old - new
  if b.ramping m ∨ (b.pllState m = 2 ∧ old * 1000 < move * 1000000) then b.set F.PLL_HIST_WRITE_REJECTED m
  else (b.setPllWord m new).ite (b.pllState m == 2) fun b => b.countFrom m

/-- A write of `PLL_CTRL[m]` or `PLL_LOCK_CFG[m]` of a media synthesizer (R96): refused while ramping; `PRE_DIV` and
`POST_DIV` refused while `EN` = 1; `EN` starts or stops it. `OUT_EN` written while it is `LOCKED` does not switch the output, which R95 gates only at
a first lock (DESIGN CHOICE, log 165). -/
def Block.pllMediaWrite (b : Block) (m which v : Nat) : Block :=
  if b.ramping m then b.set F.PLL_HIST_WRITE_REJECTED m
  else if which = 0 then
    let was := b.on F.PLL_CTRL_EN m
    let divs := [F.PLL_CTRL_PRE_DIV, F.PLL_CTRL_POST_DIV]
    let b := if was then
        if b.unchanged divs m v then b else b.set F.PLL_HIST_WRITE_REJECTED m
      else b.storeWord divs m v
    let b := b.storeWord [F.PLL_CTRL_EN, F.PLL_CTRL_OUT_EN, F.PLL_CTRL_TRACK] m v
    if was then if b.on F.PLL_CTRL_EN m then b else b.pllOff m
    else if b.on F.PLL_CTRL_EN m then b.acquire m else b
  else b.storeWord (pllCfgFields which) m v

/-- PLL_SMALL_WRITE: register `which` of small synthesizer `m` is written; acquisition restarts (R99). -/
def pllSmallWrite (m which v : Nat) (b : Block) : Block :=
  let b := b.storeWord (pllCfgFields which) m v
  if b.on F.PLL_CTRL_EN m then b.acquire m else b.pllOff m

/-- A write of a configuration register of any synthesizer; those of instance 7 are read-only (R100). -/
def Block.pllWrite (b : Block) (m which v : Nat) : Block :=
  if m = 7 then b
  else if 4 ≤ m then pllSmallWrite m which v b
  else if which = 1 ∨ which = 2 then pllDividerWrite m which v b
  else b.pllMediaWrite m which v

end Sys2Proof.Machine
end

