-- ==== Sys2Proof/Machine/Refs.lean ====
section
/-!
DEFINITION. References: candidates, selection, the loop, holdover, house timelines and frame-pulse outputs (R35 to R84).
-/
namespace Sys2Proof.Machine

/-! State codes of `REFS_STATUS`: 0 FREERUN, 1 ACQUIRING, 2 LOCKED, 3 PULLING, 4 HOLDOVER. -/

def Block.loopState (b : Block) : Nat := b.fld F.REFS_STATUS_STATE 0
def Block.cand (b : Block) (n : Nat) : Cand := b.refs.cands.look n
def Block.updCand (b : Block) (n : Nat) (f : Cand → Cand) : Block :=
  { b with refs := { b.refs with cands := b.refs.cands.upd n f } }
def Block.candValid (b : Block) (n : Nat) : Bool := b.bitAt F.REFS_STATUS_VALID 0 n
def Block.candQualified (b : Block) (n : Nat) : Bool := b.bitAt F.REFS_STATUS_QUALIFIED 0 n
def Block.candKind (b : Block) (n : Nat) : Nat := b.fld F.REF_CFG_KIND n
def Block.selected (b : Block) : Option Nat :=
  if b.on F.REFS_STATUS_SEL_VALID 0 then some (b.fld F.REFS_STATUS_SEL 0) else none

/-- A candidate carries a quality level (R35). -/
def Block.candQuality (b : Block) (n : Nat) : Bool := b.candKind n == 4 || b.candKind n == 5

/-! ### Validity (R39 to R42) -/

/-- Candidate `n` turns invalid (R40); the loss of the selected one is kept for the next evaluation (R44). -/
def Block.candInvalid (b : Block) (n : Nat) : Block :=
  if b.candValid n then
    let b := ((b.clrBit F.REFS_STATUS_VALID 0 n).clrBit F.REFS_STATUS_QUALIFIED 0 n).setBit F.REFS_HIST_CAND_LOST 0 n
    b.ite (b.selected == some n) fun b => { b with refs := { b.refs with lostSel := true } }
  else b

/-- CANDIDATE_LOST: a loss condition of candidate `n` is met (R39, R40). -/
def candidateLost (n : Nat) (b : Block) : Block := b.candInvalid n

/-- Candidate `n` becomes qualified (R41). -/
def Block.candQualify (b : Block) (n : Nat) : Block :=
  (b.setBit F.REFS_STATUS_QUALIFIED 0 n).setBit F.REFS_HIST_CAND_QUAL 0 n

/-- The fabric port's quality field for a kind 5 candidate (R37, R368). -/
def Block.candPort (b : Block) (n : Nat) : FabPort := b.fabPorts.look (b.fld F.REF_CFG_IDX n)

/-- The quality that a candidate shows: clockClass as given for PTP, the port's quality field for fabric time (R35, R37). -/
def Block.candClass (b : Block) (n cls : Nat) : Nat := if b.candKind n = 5 then (b.candPort n).quality else cls

/-- Candidate `n` may not be valid: its slot does not take its kind (R35); no Ethernet ports for kind 4, an unused fabric port for kind 5 (R38);
a quality outside its limits, a serial input that is not locked for kind 6, or a frequency outside `FREQ_TOL` (R39). -/
def Block.candBarred (b : Block) (n cls acc : Nat) (freq : Int) : Bool :=
  let k := b.candKind n
  !(if n ≤ 3 then k == 1 || k == 2 || k == 3 else k == 4 || k == 5 || k == 6)
    || (k == 4 && b.ethMedia == 0) || (k == 5 && decide (b.fld F.FAB_CFG_N 0 ≤ b.fld F.REF_CFG_IDX n + 1))
    || (b.candQuality n && decide (b.fld F.REF_QUAL_QL_MAX_CLASS n < b.candClass n cls))
    || (k == 4 && decide (b.fld F.REF_QUAL_ACC_MAX n < acc))
    || (k == 6 && b.fld F.SDI_RX_STATUS_STATE (b.fld F.REF_CFG_IDX n) != 2)
    || decide (b.fld F.REF_CFG_FREQ_TOL n * 2 ^ 48 < freq.natAbs * 1000000)

/-- CANDIDATE_VALID: candidate `n` meets the conditions of its input, with the quality, the frequency and for PTP the Sync rate it shows; its
wait-to-restore timer starts, and a `WTR` of 0 qualifies it at once (R39 to R41). One that then breaks a limit of R38 or R39 is invalid. -/
def candidateValid (n cls acc : Nat) (freq : Int) (sync : Nat) (b : Block) : Block :=
  if b.candBarred n cls acc freq then b.candInvalid n
  else
    let b := b.updCand n fun c => { c with cls := b.candClass n cls, acc := acc, freq := freq, sync := sync }
    if b.candValid n then b
    else
      let b := b.setBit F.REFS_STATUS_VALID 0 n
      b.ite (b.fld F.REF_QUAL_WTR n == 0) fun b => b.candQualify n

/-- The candidates of a kind that an input serves are judged again: fabric port for kind 5, serial input for kind 6 (R39). -/
def Block.candInput (b : Block) (kind idx : Nat) : Block :=
  b.each [4, 5, 6, 7] fun b n =>
    b.ite (b.candKind n == kind && b.fld F.REF_CFG_IDX n == idx && b.candBarred n (b.cand n).cls (b.cand n).acc (b.cand n).freq) fun b => b.candInvalid n

/-- CANDIDATE_QUALIFIED: candidate `n` has been valid for `WTR` seconds (R41). -/
def candidateQualified (n : Nat) (b : Block) : Block :=
  if b.candValid n ∧ ¬b.candQualified n then b.candQualify n else b

/-- The register of a `which` (R42). -/
def candReg (which : Nat) : Reg :=
  match which with
  | 0 => R.REF_CFG
  | 1 => R.REF_QUAL
  | _ => R.REF_COMP

def refCfgFields (n which : Nat) : List Field :=
  match which with
  | 0 => (if n ≤ 3 then [] else [F.REF_CFG_KIND]) ++
      [F.REF_CFG_PRIO, F.REF_CFG_POL, F.REF_CFG_IDX, F.REF_CFG_RASTER, F.REF_CFG_RATE, F.REF_CFG_FREQ_TOL]
  | 1 => [F.REF_QUAL_WTR, F.REF_QUAL_QL_MAX_CLASS, F.REF_QUAL_ACC_MAX]
  | _ => [F.REF_COMP_COMP]

/-- REF_CANDIDATE_WRITE: `REF_CFG[n]` (`which` 0), `REF_QUAL[n]` (1) or `REF_COMP[n]` (2) is written (R42). -/
def refCandidateWrite (n which v : Nat) (b : Block) : Block :=
  (b.candInvalid n).storeWord (refCfgFields n which) n v

/-! ### Bandwidth (R49 to R52) -/

/-- A bandwidth code in millihertz (R49). -/
def bwMilli (code : Nat) : Nat :=
  match code with
  | 0 => 1 | 1 => 3 | 2 => 10 | 3 => 30 | 4 => 100 | 5 => 300 | 6 => 1000 | 7 => 3000 | 8 => 10000 | 9 => 30000
  | 10 => 100000 | 11 => 300000 | 12 => 1000000 | _ => 3000000

/-- The largest code whose bandwidth is at most `num / den` millihertz. -/
def bwLargest (num den : Nat) : Nat :=
  ((List.range 14).filter fun c => decide (bwMilli c * den ≤ num)).getLast?.getD 0

/-- The widest bandwidth code R35 allows for candidate `n`. -/
def Block.bwWidest (b : Block) (n : Nat) : Nat :=
  match b.candKind n with
  | 2 => 13
  | 3 => 3
  | 4 => bwLargest (b.cand n).sync 20
  | 5 => 9
  | _ => bwLargest (rasterLines (b.fld F.REF_CFG_RASTER n) * rateNum (b.fld F.REF_CFG_RATE n) * 1000)
      (20 * rateDen (b.fld F.REF_CFG_RATE n))

/-- The loop runs at bandwidth code `c`, clamped for the selected candidate (R51). -/
def Block.setBw (b : Block) (n c : Nat) : Block :=
  let w := b.bwWidest n
  (b.setFld F.REFS_STATUS_BW_NOW 0 (min c w)).ite (decide (w < c)) fun b => b.set F.REFS_HIST_BW_CLAMPED 0

/-- The damping factor of `DAMP`, in thousandths (R50). -/
def dampMilli (code : Nat) : Nat :=
  match code with
  | 0 => 707
  | 1 => 1000
  | 2 => 2000
  | _ => 5000

/-- The bandwidth follows `ACQ_BW` and `TRK_BW` in a loop that follows a candidate: `ACQ_BW` while acquiring or pulling; in `LOCKED` the step-down
goes on, and `TRK_BW` is taken at once where it is not below `ACQ_BW` or what is in use (R51, R52). -/
def Block.bwSettle (b : Block) : Block :=
  let n := b.fld F.REFS_STATUS_SEL 0; let st := b.fld F.REFS_STATUS_STATE 0
  let acq := b.fld F.REFS_CTRL_ACQ_BW 0; let trk := b.fld F.REFS_CTRL_TRK_BW 0
  if st = 1 ∨ st = 3 then b.setBw n acq
  else if st = 2 ∧ (acq ≤ trk ∨ b.fld F.REFS_STATUS_BW_NOW 0 ≤ trk) then b.setBw n trk
  else b

/-! ### Loop states (R56 to R65) -/

/-- A new loop state; every exit from `LOCKED` sets `LOCK_LOST` (R65). -/
def Block.toLoop (b : Block) (st : Nat) : Block :=
  (b.ite (b.loopState == 2 && st != 2) fun b => b.set F.REFS_HIST_LOCK_LOST 0).setFld F.REFS_STATUS_STATE 0 st

/-- A signed frequency of 2^-48 in the 2^-40 units of the registers. -/
def freqReg (i : Int) : Int := i / Int.ofNat 256

/-- Nothing is selected: `HO_ENTERED`, and holdover at the history value, or free run at the nominal frequency (R61). -/
def Block.enterHoldover (b : Block) : Block :=
  let was := b.loopState
  let b := (b.set F.REFS_HIST_HO_ENTERED 0).clr F.REFS_STATUS_SEL_VALID 0
  let b := ({ b with refs := { b.refs with firstSet := false, lostSel := false, pull := false } }).clearAdj
  if b.refs.histOk then
    let v := (b.refs.hist[b.fld F.HO_HIST_CFG_HIST_GUARD 0]?).getD 0
    let b := (b.steer v).setSfld F.HIST_FREQ_FREQ 0 (freqReg v)
    let b := b.ite (was != 4) fun b => (b.clr F.HO_ELAPSED_SECONDS 0).clr F.REFS_STATUS_HO_EXPIRED 0
    b.toLoop 4
  else ((b.steer 0).clr F.REFS_STATUS_HO_EXPIRED 0).toLoop 0

/-- Free run at the nominal frequency (R48, R64). -/
def Block.enterFreerun (b : Block) : Block :=
  let b := (b.clr F.REFS_STATUS_SEL_VALID 0).clr F.REFS_STATUS_HO_EXPIRED 0
  let b := ({ b with refs := { b.refs with firstSet := false, lostSel := false, pull := false } }).clearAdj
  (b.steer 0).toLoop 0

/-- The loop takes on candidate `n`, another than the one it follows (R56 to R58, R64): its frequency, then a pull from the phase that device time
has reached; from free run or holdover with device time unsynchronised, a first set at its next comparison, with no pull. A first set that still
waits when another candidate is selected goes on waiting (DESIGN CHOICE, log 166). -/
def Block.follow (b : Block) (n : Nat) : Block :=
  let st := b.loopState
  let b := (b.setFld F.REFS_STATUS_SEL 0 n).set F.REFS_STATUS_SEL_VALID 0
  let b := ((b.clr F.REFS_STATUS_HO_EXPIRED 0).steer (b.cand n).freq).clearAdj
  if b.synced ∨ (1 ≤ st ∧ st ≤ 3) then
    let b := (b.set F.REFS_HIST_SWITCHED 0).addAdj (if b.candKind n = 2 then 0 else b.sfld F.REF_PHASE_PHASE n)
    let b := { b with refs := { b.refs with firstSet := b.refs.firstSet && !b.synced, pull := true } }
    (b.toLoop 3).setBw n (b.fld F.REFS_CTRL_ACQ_BW 0)
  else
    let b := { b with refs := { b.refs with firstSet := true, pull := false } }
    (b.toLoop 1).setBw n (b.fld F.REFS_CTRL_ACQ_BW 0)

/-- Device time returns to the unsynchronised state (R111); a loop that follows a candidate acquires with no pull and makes a first set at its next
comparison (R52, R57, R64). -/
def Block.goUnsynced (b : Block) : Block :=
  let b := ((b.clearAdj.clr F.TIME_STATUS_SYNCED 0).set F.TIME_HIST_UNSYNCED 0).clr F.REFS_STATUS_TIME_SYNCED 0
  let st := b.loopState
  if 1 ≤ st ∧ st ≤ 3 then (({ b with refs := { b.refs with firstSet := true, pull := false } }).toLoop 1).bwSettle else b

/-- UNSYNC: `TIME_CTRL` written with `UNSYNC` (R111). -/
def unsync (v : Nat) (b : Block) : Block :=
  let b := b.store F.TIME_CTRL_SLEW_LIM 0 (F.TIME_CTRL_SLEW_LIM.of v)
  if F.TIME_CTRL_UNSYNC.of v = 0 then b else b.goUnsynced

/-- Some take of the device is armed: ARMED, VOTED or COMMITTED (R112). -/
def Block.takeArmed (b : Block) : Bool := b.cox.takes.any fun t => decide (2 ≤ t.2.state) && decide (t.2.state ≤ 4)

/-- TIME_UNSYNC, 0x0207 (R112). -/
def timeUnsync (ch : Nat) (p : List Byte) (b : Block) : Block :=
  b.command ch 0x0207 true (p.length == 4) [(le p 0 4 != 0xA5A5, St.BAD_ARG)] [(b.takeArmed, St.NOT_READY)]
    fun b => (b.goUnsynced).ok ch []

/-! ### Selection (R43 to R48) -/

/-- The best of some slots by a measure, the lowest slot among equals. -/
def bestSlot (l : List Nat) (f : Nat → Nat) : Option Nat :=
  l.foldl (fun a n => match a with
    | none => some n
    | some m => if f n < f m then some n else some m) none

/-- The qualified candidate with the lowest non-zero `PRIO` (R43). -/
def Block.bestQualified (b : Block) : Option Nat :=
  bestSlot ((List.range 8).filter fun n => b.candQualified n && b.fld F.REF_CFG_PRIO n != 0) fun n => b.fld F.REF_CFG_PRIO n

/-- The valid candidate R45 falls back to: the best quality, then the lowest `PRIO`, then the lowest slot. -/
def Block.bestFallback (b : Block) : Option Nat :=
  bestSlot ((List.range 8).filter fun n => b.candValid n && b.candQuality n && b.fld F.REF_CFG_PRIO n != 0)
    fun n => (b.cand n).cls * 16 + b.fld F.REF_CFG_PRIO n

/-- The selected candidate may stay: it was not lost, it is still valid, and `PRIO` 0 has not taken it out of selection (R43 to R45). -/
def Block.selHolds (b : Block) (n : Nat) : Bool := b.candValid n && !b.refs.lostSel && b.fld F.REF_CFG_PRIO n != 0

/-- The candidate that automatic selection gives now, and whether R45 gave it: with `REVERT` 0 the selected one until it is lost; with `REVERT` 1 the
qualified one with the best priority, the selected one among equals (R43, R44); with none qualified the selected one, else what R45 falls back to.
A qualified candidate of `PRIO` 0, which selection does not see, does not keep R45 from falling back (DEDUCED, log 167). -/
def Block.autoChoice (b : Block) : Option Nat × Bool :=
  let back : Option Nat × Bool := if b.on F.REFS_CTRL_QL_FALLBACK 0 then (b.bestFallback, b.bestFallback.isSome) else (none, false)
  match b.selected.filter b.selHolds, b.bestQualified with
  | some s, some q =>
    if ¬b.on F.REFS_CTRL_REVERT 0 ∨ (b.candQualified s ∧ b.fld F.REF_CFG_PRIO s ≤ b.fld F.REF_CFG_PRIO q) then (some s, false) else (some q, false)
  | some s, none => (some s, false)
  | none, some q => (some q, false)
  | none, none => back

/-- The loop's move to a choice (R46, R48, R56, R64). A candidate that was lost and is chosen again in the same millisecond is no other candidate:
nothing is switched and lock is kept (DEDUCED from R47, log 168). With nothing to choose, free run gives way to holdover too where the history allows
it (R46, R48, R61). -/
def Block.choose (b : Block) (c : Option Nat) : Block :=
  let st := b.loopState
  let b' := { b with refs := { b.refs with lostSel := false } }
  match c with
  | some n => if b.selected = some n then b' else b'.follow n
  | none => if (1 ≤ st ∧ st ≤ 3) ∨ (st = 0 ∧ b.refs.histOk) then b'.enterHoldover else b'

/-- SELECTION_EVAL: the evaluation of every millisecond (R47, R48). -/
def selectionEval (b : Block) : Block :=
  match b.fld F.REFS_CTRL_SEL_MODE 0 with
  | 0 => ((b.ite b.autoChoice.2 fun b => b.set F.REFS_HIST_QL_FALLBACK_USED 0)).choose b.autoChoice.1
  | 1 => b.choose (if b.candValid (b.fld F.REFS_CTRL_FORCE_SEL 0) then some (b.fld F.REFS_CTRL_FORCE_SEL 0) else none)
  | _ => b

/-! ### Comparisons (R36, R37, R54, R55, R57) -/

/-- The distance of `x` / q from the nearest multiple of p / q, rounded down. -/
def foldOver (x : Int) (p q : Nat) : Int :=
  let x := x % Int.ofNat p
  (if 2 * x ≤ Int.ofNat p then x else x - Int.ofNat p) / Int.ofNat q

/-- The distance from the nearest multiple of p / q, for a distance `i`; between them it is rounded down. -/
def foldRat (i : Int) (p q : Nat) : Int := foldOver (i * Int.ofNat q) p q

/-- The PTP domain of candidate `n`, 127 by default (R36). -/
def Block.candDomain (b : Block) (n : Nat) : Nat := (b.cand n).domain.getD 127

/-- The phase error of candidate `n` in 1/16 ns that a measurement gives, with `REF_COMP` added; no phase for kind 2, and nothing at all for a
measurement that is not of the candidate's kind or PTP domain (R36, R54, R55). -/
def Block.phaseError (b : Block) (n : Nat) (m : Measure) : Option (Option Int) :=
  let comp := b.sfld F.REF_COMP_COMP n
  match m with
  | .edge o =>
    match b.candKind n with
    | 2 => none
    | 3 => some (some (foldRat (o + comp) 16000000000 1))
    | 4 => none
    | 5 => none
    | _ => some (some (foldRat (o + comp) (rateDen (b.fld F.REF_CFG_RATE n) * 16000000000) (rateNum (b.fld F.REF_CFG_RATE n))))
  | .frequency => if b.candKind n = 2 then some none else none
  | .ptp dom sync followUp t2 t3 t4 cs cd =>
    if b.candKind n = 4 ∧ dom = b.candDomain n then
      let t1 := followUp.getD sync
      let delay := (t2 - t1 + (t4 - t3) - cs - cd) / 2
      some (some (t1 + delay + cs - t2 + comp))
    else none
  | .fabric => if b.candKind n = 5 then some (some ((b.candPort n).peerOfs / 4096 + comp)) else none

/-- The loop's answer to a phase error `e`: the rate it asks for, and a phase correction that is added to `TIME_ADJ`. While a pull is under way the
rate is the candidate's frequency and nothing is added, so the difference goes at the slope of R56 (R50, R53, R56, R104, R105). -/
def Block.loopStep (b : Block) (e : Option Int) (freq : Int) : Block :=
  let b := b.ite (b.time.adj == 0) fun b => { b with refs := { b.refs with pull := false } }
  let bw := bwMilli (b.fld F.REFS_STATUS_BW_NOW 0); let d := dampMilli (b.fld F.REFS_CTRL_DAMP 0)
  let b := if b.loopState = 3 ∧ b.refs.pull then b.steer freq
    else
      let b := b.steer (Config.loopRate bw d (e.getD 0) freq b.time.rate)
      match e with
      | some e => b.addAdj (Config.loopPhase bw d e)
      | none => b
  b.setSfld F.DPLL_FREQ_FREQ 0 (freqReg b.time.rate)

/-- DPLL_COMPARISON: candidate `n` is measured against device time, and its frequency `freq` against the oscillator (R39, R54, R55); the selected one
steers device time, or sets it (R57). A first set by kind 2, which has no phase, sets device time to its present value (DESIGN CHOICE, log 169). -/
def dpllComparison (n : Nat) (m : Measure) (freq : Int) (b : Block) : Block :=
  if b.candValid n then
    if b.candBarred n (b.cand n).cls (b.cand n).acc freq then b.candInvalid n
    else match b.phaseError n m with
    | none => b
    | some e =>
      let b := (b.ite e.isSome fun b => b.setSfld F.REF_PHASE_PHASE n (e.getD 0)).updCand n fun c => { c with freq := freq }
      if b.selected = some n ∧ 1 ≤ b.loopState ∧ b.loopState ≤ 3 then
        let b := b.setSfld F.DPLL_PHASE_PHASE 0 (e.getD 0)
        if b.refs.firstSet ∧ ¬b.synced then
          let b := { b with refs := { b.refs with firstSet := false } }
          b.firstSet (nowWrap (Int.ofNat b.time.now + e.getD 0 * Int.ofNat (2 ^ 44)))
        else b.loopStep e freq
      else b
  else b

/-- LOCK_DECLARED: the phase error has stayed within `LOCK_PH` for `LOCK_DWELL` (R54, R64); a pull must be complete. -/
def lockDeclared (b : Block) : Block :=
  let st := b.loopState
  if (st = 1 ∨ (st = 3 ∧ (¬b.refs.pull ∨ b.time.adj = 0))) ∧
      (b.sfld F.DPLL_PHASE_PHASE 0).natAbs ≤ 16 * b.fld F.REFS_LOCK_LOCK_PH 0 then
    let b := b.ite (st == 3) fun b => b.set F.REFS_HIST_PULL_DONE 0
    let b := (b.set F.REFS_HIST_LOCK_GAINED 0).toLoop 2
    let b := { b with refs := { b.refs with locked := 0, histOk := false, pull := false } }
    b.ite (decide (b.fld F.REFS_CTRL_ACQ_BW 0 ≤ b.fld F.REFS_CTRL_TRK_BW 0)) fun b =>
      b.setBw (b.fld F.REFS_STATUS_SEL 0) (b.fld F.REFS_CTRL_TRK_BW 0)
  else b

/-- BW_STEP_DOWN: one code narrower, until `TRK_BW` (R52). -/
def bwStepDown (b : Block) : Block :=
  let now := b.fld F.REFS_STATUS_BW_NOW 0
  if b.loopState = 2 ∧ b.fld F.REFS_CTRL_TRK_BW 0 < now then b.setFld F.REFS_STATUS_BW_NOW 0 (now - 1) else b

/-- The exponential average of time constant 2^`HIST_TAU` s after another second: it moves toward the frequency by 1 / 2^`HIST_TAU` of the distance,
rounded down or up as `Config.historyUp` has it, and starts at the first frequency (R59; log 170). -/
def Block.historyNext (b : Block) : Int :=
  let d := b.rateNow - b.refs.avg; let q := Int.ofNat (2 ^ b.fld F.HO_HIST_CFG_HIST_TAU 0)
  if b.refs.hist.isEmpty then b.rateNow
  else b.refs.avg + d / q + (if d % q ≠ 0 ∧ Config.historyUp (b.fld F.HO_HIST_CFG_HIST_TAU 0) b.refs.avg b.rateNow then 1 else 0)

/-- FREQ_HISTORY_STORE: once per second in `LOCKED` (R59, R60). -/
def freqHistoryStore (b : Block) : Block :=
  if b.loopState = 2 then
    let a := b.historyNext
    { b with refs := { b.refs with
        avg := a
        hist := (a :: b.refs.hist).take 64
        locked := b.refs.locked + 1
        histOk := decide (b.fld F.HO_HIST_CFG_HIST_GUARD 0 + 1 < b.refs.locked + 1) } }
  else b

/-! ### Holdover (R62, R63) -/

/-- The predicted error stays within `HO_SPEC` at `t` seconds: e(t) in 1/7,200 ps (R62). -/
def Block.hoWithin (b : Block) (t : Nat) : Bool :=
  decide (7200 * (b.fld F.HO_MODEL_F_INIT 0 * t) + b.fld F.HO_MODEL_AGING 0 * (t * t) ≤ b.fld F.HO_SPEC_HO_SPEC 0 * 1000 * 7200)

/-- The largest number of seconds within the specification, bit by bit from bit `i`; beyond 32 bits of seconds it stays at 2^32 - 1, the largest
that `HO_REMAIN` holds (DESIGN CHOICE, log 171). -/
def Block.hoSearch (b : Block) : Nat → Nat → Nat
  | 0, t => t
  | i + 1, t => b.hoSearch i (if b.hoWithin (t + 2 ^ i) then t + 2 ^ i else t)

/-- Seconds within the specification for a holdover entered now (R63). -/
def Block.hoTotal (b : Block) : Nat :=
  if b.fld F.HO_MODEL_F_INIT 0 = 0 ∧ b.fld F.HO_MODEL_AGING 0 = 0 then Config.remainUnbounded else b.hoSearch 32 0

/-- `HO_REMAIN` (R63), from reset on: R63 rather than the 0 of the Reset column, as the register is computed (DEDUCED, log 172). -/
def Block.hoRemain (b : Block) : Nat :=
  if b.loopState = 4 then
    if b.on F.REFS_STATUS_HO_EXPIRED 0 then 0 else b.hoTotal - b.fld F.HO_ELAPSED_SECONDS 0
  else b.hoTotal

/-- HOLDOVER_CHECK: once per second in holdover (R62). -/
def holdoverCheck (b : Block) : Block :=
  if b.loopState = 4 then
    let b := b.setFld F.HO_ELAPSED_SECONDS 0 (b.fld F.HO_ELAPSED_SECONDS 0 + 1)
    if ¬b.hoWithin (b.fld F.HO_ELAPSED_SECONDS 0) ∧ ¬b.on F.REFS_STATUS_HO_EXPIRED 0 then
      (b.set F.REFS_STATUS_HO_EXPIRED 0).set F.REFS_HIST_HO_EXPIRED 0
    else b
  else b

def refsCtrlFields : List Field :=
  [F.REFS_CTRL_SEL_MODE, F.REFS_CTRL_FORCE_SEL, F.REFS_CTRL_REVERT, F.REFS_CTRL_QL_FALLBACK, F.REFS_CTRL_ACQ_BW,
   F.REFS_CTRL_TRK_BW, F.REFS_CTRL_DAMP, F.REFS_CTRL_LOCK_DWELL]

/-- What writing `SEL_MODE` does at once: 2 forces holdover, 3 free run (R48, R64). -/
def Block.modeWritten (b : Block) : Block :=
  match b.fld F.REFS_CTRL_SEL_MODE 0 with
  | 2 => b.enterHoldover
  | 3 => b.enterFreerun
  | _ => b

/-- A write of `REFS_CTRL`. -/
def Block.refsCtrlWrite (b : Block) (v : Nat) : Block := ((b.storeWord refsCtrlFields 0 v).modeWritten).bwSettle

/-- FORCE_HOLDOVER: `REFS_CTRL` written with `SEL_MODE` 2 (R64). -/
def forceHoldover (v : Nat) (b : Block) : Block :=
  if F.REFS_CTRL_SEL_MODE.of v = 2 then b.refsCtrlWrite v else b

/-- FORCE_FREERUN: `REFS_CTRL` written with `SEL_MODE` 3 (R64). -/
def forceFreerun (v : Nat) (b : Block) : Block :=
  if F.REFS_CTRL_SEL_MODE.of v = 3 then b.refsCtrlWrite v else b

/-! ### House timelines (R66 to R71) -/

/-- `ENABLE` of timeline `k`: a timeline that is disabled holds its position (R81, R84). -/
def Block.tlEnable (b : Block) (k : Nat) (en : Bool) : Block :=
  let b := b.ite (b.tlOn k && !en) fun b => { b with refs := { b.refs with tlHeld := b.refs.tlHeld.put k b.time.now } }
  b.setTo F.TL_CFG_ENABLE k en

/-- TL_CFG_WRITE: `TL_CFG[k]` is written; a change of `RATE`, `RASTER` or `SPL` is discarded while it is enabled (R70), and so are a rate of the
other family and a pair that R69 does not allow (R66, R69; that such a write is discarded with `TL_CFG_REJECTED` is a DESIGN CHOICE, log 175). -/
def tlCfgWrite (k v : Nat) (b : Block) : Block :=
  let fs := [F.TL_CFG_RATE, F.TL_CFG_RASTER, F.TL_CFG_SPL]
  let good := rateFamily k (F.TL_CFG_RATE.of v) && rasterPair (F.TL_CFG_RASTER.of v) (F.TL_CFG_RATE.of v)
  let b := if b.unchanged fs k v then b
    else if b.tlOn k ∨ ¬good then b.reject 2 F.REFS_HIST_TL_CFG_REJECTED 0
    else b.storeWord fs k v
  b.tlEnable k (F.TL_CFG_ENABLE.of v == 1)

/-- TL_POS_FRAME_LO_READ: the rest of the position latches from the same instant (R67, R71). -/
def tlPosFrameLoRead (k : Nat) (b : Block) : Block :=
  let b' := b.setFld F.TL_POS_FRAME_HI_FRAME k (b.tlFrame k / 2 ^ 32)
  let b' := (b'.setFld F.TL_POS_LINE_LINE k (b.tlLine k)).setFld F.TL_POS_LINE_SAMPLE k (b.tlSample k)
  b'.emit (.read (b.tlFrame k % 2 ^ 32))

/-! ### Frame-pulse outputs (R72 to R77) -/

def Block.fp (b : Block) (j : Nat) : FpSt := b.refs.fps.look j
def Block.updFp (b : Block) (j : Nat) (f : FpSt → FpSt) : Block :=
  { b with refs := { b.refs with fps := b.refs.fps.upd j f } }

/-- The frame of timeline `tl` that starts a pulse of divider `div`: every (`div` + 1)th from the epoch (R72). -/
def fpFrame (div n : Nat) : Bool := n % (div + 1) == 0

/-- The level of `FP_OUT[j]`: active by `POL` for the width of a pulse, else inactive, high at reset (R76, R77, R81). -/
def Block.fpOut (b : Block) (j : Nat) : Bool :=
  if b.time.raw < (b.fp j).endRaw then b.on F.FP_CFG_POL j else !b.on F.FP_CFG_POL j

/-- `FP_MISALIGN[j]` of a pulse for frame `n` of the timeline the output keeps: the time R72 asks for by the registers, nearest to the pulse, less the
pulse's, in ns (R72, R74). -/
def Block.fpMis (b : Block) (j n : Nat) : Int :=
  let s := b.fp j; let tl := b.fld F.FP_CFG_TL j
  let num := b.tlNum tl; let num0 := b.tlNum s.tl
  let late := (b.sfld F.FP_OFS_OFS j - s.ofs + s.off) * Int.ofNat (num * num0) - Int.ofNat (n * b.tlDen s.tl * 1000000000 * num)
  foldOver late ((b.fld F.FP_CFG_DIV j + 1) * b.tlDen tl * 1000000000 * num0) (num * num0)

/-- A realignment of output `j` by the registers: they are what its pulses keep from now on, `off` away from them. -/
def Block.fpTake (b : Block) (j : Nat) (off : Int) : Block :=
  b.updFp j fun f => { f with tl := b.fld F.FP_CFG_TL j, div := b.fld F.FP_CFG_DIV j, ofs := b.sfld F.FP_OFS_OFS j, off := off }

/-- Device time in ns of output `j`'s pulse for frame `n`, by what its pulses keep. -/
def Block.fpTime (b : Block) (j n : Nat) : Int := Int.ofNat (b.frameStart (b.fp j).tl n / nsUnit) + (b.fp j).ofs - (b.fp j).off

/-- The pulse itself: its width, its delay from the start of the frame, its level; its misalignment is stored, and `FP_MISALIGNED` set past `TOL`
(R72, R74). -/
def Block.fpEmit (b : Block) (j n : Nat) : Block :=
  let mis := b.fpMis j n; let w := b.fld F.FP_CFG_WIDTH j * 100
  let b := b.ite (!b.pinBad (fpPin j)) fun b => b.emit (.framePulse j n ((b.fp j).ofs - (b.fp j).off) w (b.on F.FP_CFG_POL j) mis)
  let b := (b.setSfld F.FP_MISALIGN_MIS j mis).updFp j fun f => { f with last := some n, endRaw := b.time.raw + w }
  b.ite (decide (b.fld F.FP_CFG_TOL j < mis.natAbs)) fun b => b.set F.REFS_HIST_FP_MISALIGNED 0

/-- The aligned pulse for frame `n` would start less than two widths after the last pulse did (R75). -/
def Block.fpTooSoon (b old : Block) (j n : Nat) : Bool :=
  match (old.fp j).last with
  | some m => decide (b.fpTime j n - old.fpTime j m < Int.ofNat (2 * (b.fld F.FP_CFG_WIDTH j * 100)))
  | none => false

/-- FP_PULSE: output `j`'s pulse for frame `n` of its timeline (R72 to R76), first moved by a realignment under way (R75). A pulse of a timeline that
does not count does not come. -/
def fpPulse (j n : Nat) (b : Block) : Block :=
  let s := b.fp j
  if ¬b.on F.FP_CFG_EN j ∨ b.time.raw < s.endRaw then b
  else if s.step then
    if b.tlOn (b.fld F.FP_CFG_TL j) ∧ fpFrame (b.fld F.FP_CFG_DIV j) n then
      let b' := (b.fpTake j 0).updFp j fun f => { f with step := false }
      if b'.fpTooSoon b j n then b' else b'.fpEmit j n
    else b
  else if b.tlOn s.tl ∧ fpFrame s.div n then
    if s.slew ≠ 0 then
      let d := b.fpMis j n
      let m := clampInt (-(s.slew : Int)) s.slew d
      (b.updFp j fun f => { f with off := f.off - m, slew := if d = m then 0 else f.slew }).fpEmit j n
    else b.fpEmit j n
  else b

/-- A realignment of output `j` starts (R75): in step mode with the next pulse; in slew mode its pulses keep the registers' time at once, as far away
as the last pulse was, and come nearer by `ns` a pulse. -/
def Block.fpRealign (b : Block) (j : Nat) (slew : Bool) (ns : Nat) : Block :=
  if slew then
    match (b.fp j).last with
    | some n => (b.fpTake j (b.fpMis j n)).updFp j fun f => { f with step := false, slew := max 1 ns }
    | none => (b.fpTake j 0).updFp j fun f => { f with step := false, slew := max 1 ns }
  else b.updFp j fun f => { f with step := true, slew := 0 }

/-- FP_ALIGN_GO: `FP_ALIGN[j]` is written with `GO` (R75). -/
def fpAlignGo (j v : Nat) (b : Block) : Block :=
  if F.FP_ALIGN_GO.of v = 1 then b.fpRealign j (F.FP_ALIGN_MODE.of v == 1) (F.FP_ALIGN_SLEW.of v) else b

def fpCfgFields : List Field :=
  [F.FP_CFG_EN, F.FP_CFG_TL, F.FP_CFG_POL, F.FP_CFG_DIV, F.FP_CFG_WIDTH, F.FP_CFG_TOL]

/-- A write of `FP_CFG[j]`: enabling aligns the output; a pulse under way ends first (R75, R76). -/
def Block.fpCfgWrite (b : Block) (j v : Nat) : Block :=
  let was := b.on F.FP_CFG_EN j
  let b := b.storeWord fpCfgFields j v
  if !was && b.on F.FP_CFG_EN j then (b.fpTake j 0).updFp j fun f => { f with last := none, step := false, slew := 0 } else b

/-! ### Commands (R82 to R84) -/

/-- REF_SET_CANDIDATE, 0x0201 (R83); kind 4 names Ethernet port 0 to 7 or the management MAC, 8 (DEDUCED from R113, log 174); a `FREQ_TOL` of 0 is out of
range (log 173). -/
def refSetCandidate (ch : Nat) (p : List Byte) (b : Block) : Block :=
  let n := le p 0 1; let k := le p 1 1
  let kind := if n ≤ 3 then b.candKind n else k
  let idxOk := match kind with
    | 4 => decide (le p 2 1 ≤ 8) | 5 => decide (le p 2 1 ≤ 16) | 6 => decide (le p 2 1 ≤ 127) | _ => true
  b.command ch 0x0201 true (p.length == 16)
    [(!(decide (n ≤ 7) && (decide (n ≤ 3) || k == 0 || k == 4 || k == 5 || k == 6) && idxOk && decide (le p 3 1 ≤ 15)
        && decide (le p 4 1 ≤ 3) && decide (le p 5 1 ≤ 7) && decide (1 ≤ le p 6 1) && decide (le p 7 1 ≤ 1)
        && decide (le p 8 2 ≤ 1023) && decide (le p 14 1 ≤ 127) && zeros p 15 1), St.BAD_ARG),
     (kind == 4 && b.ethMedia == 0, St.UNIT_ABSENT), (b.selftest 2, St.BUSY_SELFTEST)] [((refPins n).any b.pinBad, St.NOT_READY)]
    fun b =>
      let b := b.candInvalid n
      let b := b.ite (decide (4 ≤ n)) fun b => b.setFld F.REF_CFG_KIND n k
      let b := (b.setFld F.REF_CFG_IDX n (le p 2 1)).setFld F.REF_CFG_PRIO n (le p 3 1)
      let b := (b.setFld F.REF_CFG_RASTER n (le p 4 1)).setFld F.REF_CFG_RATE n (le p 5 1)
      let b := (b.setFld F.REF_CFG_FREQ_TOL n (le p 6 1)).setFld F.REF_CFG_POL n (le p 7 1)
      let b := (b.setFld F.REF_QUAL_WTR n (le p 8 2)).setFld F.REF_QUAL_QL_MAX_CLASS n (le p 10 1)
      let b := (b.setFld F.REF_QUAL_ACC_MAX n (le p 11 1)).setFld F.REF_COMP_COMP n (le p 12 2)
      (b.ite (kind == 4) fun b => b.updCand n fun c => { c with domain := some (le p 14 1) }).ok ch []

/-- REF_SET_LOOP, 0x0202; a bandwidth code of 14 or 15, and a 0 where the register stores 1, is out of range (R49, R83; DEDUCED, log 173). -/
def refSetLoop (ch : Nat) (p : List Byte) (b : Block) : Block :=
  b.command ch 0x0202 true (p.length == 24)
    [(!(decide (le p 0 1 ≤ 3) && decide (le p 1 1 ≤ 7) && decide (le p 2 1 ≤ 3) && decide (le p 3 1 ≤ 13) && decide (le p 4 1 ≤ 13)
        && decide (le p 5 1 ≤ 3) && decide (1 ≤ le p 6 1) && decide (le p 7 1 ≤ 13) && decide (le p 10 1 ≤ 63) && zeros p 11 1
        && decide (1 ≤ le p 12 4) && decide (le p 12 4 ≤ 1000000) && decide (le p 20 4 < 2 ^ 24)), St.BAD_ARG),
     (b.selftest 2, St.BUSY_SELFTEST)] []
    fun b =>
      let b := (b.setFld F.REFS_CTRL_SEL_MODE 0 (le p 0 1)).setFld F.REFS_CTRL_FORCE_SEL 0 (le p 1 1)
      let b := (b.setFld F.REFS_CTRL_REVERT 0 (bit (bitOf (le p 2 1) 0))).setFld F.REFS_CTRL_QL_FALLBACK 0 (bit (bitOf (le p 2 1) 1))
      let b := (b.setFld F.REFS_CTRL_ACQ_BW 0 (le p 3 1)).setFld F.REFS_CTRL_TRK_BW 0 (le p 4 1)
      let b := (b.setFld F.REFS_CTRL_DAMP 0 (le p 5 1)).setFld F.REFS_CTRL_LOCK_DWELL 0 (le p 6 1)
      let b := (b.setFld F.HO_HIST_CFG_HIST_TAU 0 (le p 7 1)).setFld F.REFS_LOCK_LOCK_PH 0 (le p 8 2)
      let b := (b.setFld F.HO_HIST_CFG_HIST_GUARD 0 (le p 10 1)).setFld F.REFS_SLOPE_SLOPE_LIM 0 (le p 12 4)
      let b := (b.setFld F.HO_MODEL_F_INIT 0 (le p 16 2)).setFld F.HO_MODEL_AGING 0 (le p 18 2)
      let b := b.setFld F.HO_SPEC_HO_SPEC 0 (le p 20 4)
      (b.modeWritten.bwSettle).ok ch []

/-- The words of a list of fields' register, as four little-endian bytes. -/
def Block.word4 (b : Block) (fs : List Field) (n : Nat) : List Byte := leBytes 4 (b.wordOf fs n)

def refsStatusFields : List Field :=
  [F.REFS_STATUS_STATE, F.REFS_STATUS_SEL, F.REFS_STATUS_SEL_VALID, F.REFS_STATUS_HO_EXPIRED, F.REFS_STATUS_QUALIFIED,
   F.REFS_STATUS_VALID, F.REFS_STATUS_BW_NOW, F.REFS_STATUS_TIME_SYNCED]
def refsHistFields : List Field :=
  [F.REFS_HIST_LOCK_GAINED, F.REFS_HIST_LOCK_LOST, F.REFS_HIST_SWITCHED, F.REFS_HIST_HO_ENTERED, F.REFS_HIST_HO_EXPIRED,
   F.REFS_HIST_PULL_DONE, F.REFS_HIST_BW_CLAMPED, F.REFS_HIST_QL_FALLBACK_USED, F.REFS_HIST_CAND_LOST, F.REFS_HIST_CAND_QUAL,
   F.REFS_HIST_FP_MISALIGNED, F.REFS_HIST_TL_CFG_REJECTED]

/-- Bits of `mask` cleared in the history fields of instance `n`, as a write of 1 clears them (R79). -/
def Block.clearHist (b : Block) (fs : List Field) (n mask : Nat) : Block :=
  b.each fs fun b f =>
    b.setFld f n ((List.range f.width).foldl (fun a i => if bitOf (f.of mask) i then withoutBit a i else a) (b.fld f n))

/-- REF_GET_STATUS, 0x0203. -/
def refGetStatus (ch : Nat) (p : List Byte) (b : Block) : Block :=
  b.command ch 0x0203 true (p.length == 4) [(decide (2 ^ 26 ≤ le p 0 4), St.BAD_ARG)] []
    fun b =>
      let ptp := match b.selected with
        | some n => b.candKind n == 4
        | none => false
      let c := b.cand (b.fld F.REFS_STATUS_SEL 0)
      let d := b.word4 refsStatusFields 0 ++ b.word4 refsHistFields 0 ++ leBytes 4 (b.fld F.DPLL_PHASE_PHASE 0)
        ++ leBytes 4 (b.fld F.DPLL_FREQ_FREQ 0) ++ leBytes 4 (b.fld F.HIST_FREQ_FREQ 0) ++ leBytes 4 (b.fld F.HO_ELAPSED_SECONDS 0)
        ++ leBytes 4 b.hoRemain ++ leBytes 1 (if ptp then c.cls else 0xFF) ++ leBytes 1 (if ptp then c.acc else 0xFF) ++ [0, 0]
      (b.clearHist refsHistFields 0 (le p 0 4)).ok ch d

/-- A port, head or flow that is enabled uses timeline `k` (R84): a serial output of a crew on it, a head, a transmit flow of a
format of its family, an ancillary transmit flow of an output of such a format (R245, R248). -/
def Block.tlUsed (b : Block) (k : Nat) : Bool :=
  (List.range 128).any (fun n => b.on F.SDI_TX_CFG_EN n && b.fld F.CREW_CFG_TL (n / 8) == k)
    || (List.range 32).any (fun h => b.on F.HEAD_CFG_EN h && b.fld F.HEAD_CFG_TL h == k)
    || (List.range 128).any (fun i => b.on F.IPM_TX_CFG_EN i && decide (b.fld F.IPM_TX_CFG_KIND i ≤ 2) && fmtTl (b.fld F.IPM_TX_CFG_FORMAT i) == k)
    || (List.range 128).any (fun a => b.on F.IPM_TX_CFG_EN (640 + a) && b.fld F.IPM_TX_CFG_KIND (640 + a) == 5
        && fmtTl (b.fld F.IPM_TX_CFG_FORMAT (b.flowTx.look (640 + a)).assoc) == k)

/-- TL_SET, 0x0204 (R84). -/
def tlSet (ch : Nat) (p : List Byte) (b : Block) : Block :=
  let k := le p 0 1; let rate := le p 1 1; let ras := le p 2 1; let en := le p 3 1; let spl := le p 4 2
  b.command ch 0x0204 true (p.length == 8)
    [(!(decide (k ≤ 1) && decide (rate ≤ 7) && rateFamily k rate && decide (ras ≤ 3) && rasterPair ras rate && decide (en ≤ 1)
        && decide (1 ≤ spl) && decide (spl ≤ 16383) && zeros p 6 2), St.BAD_ARG), (b.selftest 2, St.BUSY_SELFTEST)]
    [(en == 0 && b.on F.TL_CFG_ENABLE k && b.tlUsed k, St.NOT_READY),
     (b.on F.TL_CFG_ENABLE k && !(b.fld F.TL_CFG_RATE k == rate && b.fld F.TL_CFG_RASTER k == ras && b.fld F.TL_CFG_SPL k == spl), St.NOT_READY)]
    fun b =>
      ((((b.setFld F.TL_CFG_RATE k rate).setFld F.TL_CFG_RASTER k ras).setFld F.TL_CFG_SPL k spl).tlEnable k (en == 1)).ok ch []

/-- FP_SET, 0x0205. -/
def fpSet (ch : Nat) (p : List Byte) (b : Block) : Block :=
  let j := le p 0 1; let fl := le p 1 1
  b.command ch 0x0205 true (p.length == 12)
    [(!(decide (j ≤ 3) && decide (fl ≤ 7) && decide (le p 2 1 ≤ 15) && decide (1 ≤ le p 3 1) && zeros p 10 2), St.BAD_ARG),
     (b.selftest 2, St.BUSY_SELFTEST)] [(b.pinBad (fpPin j), St.NOT_READY)]
    fun b =>
      ((b.setFld F.FP_OFS_OFS j (le p 4 4)).fpCfgWrite j (fl + le p 2 1 * 8 + le p 3 1 * 256 + le p 8 2 * 65536)).ok ch []

/-- FP_REALIGN, 0x0206 (R75). -/
def fpRealignCmd (ch : Nat) (p : List Byte) (b : Block) : Block :=
  b.command ch 0x0206 true (p.length == 4)
    [(!(decide (le p 0 1 ≤ 15) && decide (le p 1 1 ≤ 1)), St.BAD_ARG), (b.selftest 2, St.BUSY_SELFTEST)]
    [((onesAt 4 (le p 0 1)).any (fun j => b.pinBad (fpPin j)), St.NOT_READY)]
    fun b =>
      let d := (List.range 4).flatMap fun j => leBytes 4 (b.fld F.FP_MISALIGN_MIS j)
      (b.each (onesAt 4 (le p 0 1)) fun b j => b.fpRealign j (le p 1 1 == 1) (le p 2 2)).ok ch d

end Sys2Proof.Machine
end

