-- ==== Sys2Proof/Machine/Keys.lean ====
section
/-!
DEFINITION. Life cycle, key store, derivation and the keys group of commands (R605 to R626). A scan request is in Matrix, with
the memories it clears.
-/
namespace Sys2Proof.Machine

/-! ### Life cycle (R605 to R609) -/

/-- The life-cycle state: the highest with a cell blown at normal margin: 0 TEST, 1 PROVISION, 2 FIELD, 3 RETURN, 4 END (R607); it follows the cells
at once (DEDUCED, log 204). -/
def Block.lifeCycle (b : Block) : Nat :=
  ([4, 3, 2, 1].find? fun n => b.keys.cellA.look n != 0 || b.keys.cellB.look n != 0).getD 0

def Block.updKeys (b : Block) (f : KeysSt → KeysSt) : Block := { b with keys := f b.keys }

/-- Zeroisation: every slot, its flag and every derived key (R613). -/
def Block.zeroise (b : Block) : Block :=
  (b.updKeys fun k => { k with root := none, injected := [], written := 0, wiped := true }).set F.KEY_HIST_ZEROISED 0

/-- Zeroisation by an event of R614: bit `c` of `KEY_TAMP_CAUSE`. -/
def Block.tampered (b : Block) (c : Nat) : Block :=
  let f := match c with
    | 4 => F.KEY_TAMP_CAUSE_VBAT_LOW
    | 5 => F.KEY_TAMP_CAUSE_TEMP
    | 6 => F.KEY_TAMP_CAUSE_GLITCH
    | 7 => F.KEY_TAMP_CAUSE_SCAN
    | _ => F.KEY_TAMP_CAUSE_LC
  (if c < 4 then b.setBit F.KEY_TAMP_CAUSE_LOOP 0 c else b.set f 0).zeroise

/-- TAMPER_EVENT: a loop opens (0 to 3), `VBAT` is low while main power is off (4), the temperature leaves its range (5) or a glitch
is detected (6) (R614). -/
def tamperEvent (c : Nat) (b : Block) : Block :=
  if (c < 4 ∧ ¬b.bitAt F.KEY_TAMP_CFG_TAMP_EN 0 c) ∨ 6 < c then b else b.tampered c

/-- `n` bytes from the true random source. -/
def Block.randomBytes (b : Block) : Nat → List Byte × Block
  | 0 => ([], b)
  | n + 1 => ((b.randomBytes n).1 ++ [BitVec.ofNat 8 ((b.randomBytes n).2.fresh).1], ((b.randomBytes n).2.fresh).2)

/-- RETENTION_DIP: the supply falls below V_MON and the latch is set; where it falls so `deep` that data is not kept, the check pattern, the intent
record and the root are lost with it (R609, R615, R616). -/
def retentionDip (deep : Bool) (b : Block) : Block :=
  let b := b.updKeys fun k => { k with latch := true, wiped := false }
  if deep then
    let (r, b) := b.randomBytes 48
    b.updKeys fun k => { k with patternBad := true, intent := none, root := k.root.map fun _ => r }
  else b

/-- The transition of R605 is allowed, the token apart. -/
def lcAllowed (a t : Nat) : Bool := (t == 4 && decide (a ≤ 3)) || (t == a + 1 && decide (t ≤ 3))

/-- The steps of a transition to state `t` from step `i` on, up to step `n` (R608). -/
def Block.lcStep (b : Block) (t i : Nat) : Block :=
  match i with
  | 1 => b.updKeys fun k => { k with intent := some t }
  | 2 => (b.tampered 8).updKeys fun k => { k with used := 0 }
  | 3 => b.updKeys fun k => { k with cellA := k.cellA.put t 2 }
  | 4 => b.updKeys fun k => { k with cellB := k.cellB.put t 2 }
  | _ => b.updKeys fun k => { k with intent := none }

/-- A transition cut short by a loss of power, completed at power-on (R609): the intent record decides. -/
def Block.lcComplete (b : Block) : Block :=
  match b.keys.intent with
  | none => b
  | some t =>
    let k := b.keys
    if k.cellA.look t = 2 ∧ k.cellB.look t = 2 then b.lcStep t 5
    else
      let b := if k.cellA.look t = 2 then b else if k.cellA.look t = 0 then (b.lcStep t 2).lcStep t 3 else b.lcStep t 3
      (((b.lcStep t 4).lcStep t 5).updKeys fun k => { k with repaired := true })

/-! ### Derivation (R617, R618) -/

/-- Purpose `p` does not depend on the measurement. -/
def Block.purposeFixed (b : Block) (p : Nat) : Bool := b.bitAt F.FUSE_MI_MI_MASK 0 p
/-- The key of purpose `p` is available (R624). -/
def Block.purposeOk (b : Block) (p : Nat) : Bool := b.keys.root.isSome && (b.purposeFixed p || b.keys.measured)
/-- The output keying material of purpose `p`, `n` bytes. -/
def Block.purposeBytes (b : Block) (p n : Nat) : List Byte :=
  let salt := if b.purposeFixed p then zeroBytes 48 else padTo 48 b.keys.meas
  hkdf384 salt (b.keys.root.getD []) ([0x5A, 0x79, 0x6E, 0x61, 0x73] ++ leBytes 1 p ++ leBytes 1 b.lifeCycle) n
/-- The private key of purpose `p` (R618). -/
def Block.privateKey (b : Block) (p : Nat) : Nat := beNat (b.purposeBytes p 56) % (p384n - 1) + 1
/-- The public key of purpose `p`. -/
def Block.publicKey (b : Block) (p : Nat) : List Byte := pointBytes (ecPublic (b.privateKey p))
/-- The AES-256 key of purpose `p`. -/
def Block.aesKey (b : Block) (p : Nat) : List Byte := b.purposeBytes p 32

/-- A signature under purpose `p`, its nonce drawn fresh. -/
def Block.sign (b : Block) (p : Nat) (m : List Byte) : List Byte × Block :=
  (ecdsaSign (b.privateKey p) ((b.fresh).1 % (p384n - 1) + 1) m, (b.fresh).2)

/-- The measurement extended by a stage (R617). -/
def Block.measure (b : Block) (stage : List Byte) : Block :=
  if b.keys.measured then b else b.updKeys fun k => { k with meas := sha384 (padTo 48 k.meas ++ sha384 stage) }

/-! ### Registers (R626) -/

/-- `KEY_STATUS`. -/
def Block.keyStatus (b : Block) : Nat :=
  let k := b.keys
  bit (k.root.isSome && k.measured) + bit k.root.isSome * 2 + bit k.retLost * 4
    + bit (b.wordOf W.KEY_TAMP_CAUSE 0 != 0) * 8 + bit k.measured * 16 + bit k.scanZeroised * 32 + bit k.intent.isSome * 64 + k.written % 256 * 256

/-! ### Commands (R625) -/

/-- A refused command of the group sets `REFUSED` (R626). -/
def Block.keyRefused (b : Block) (ch : Nat) : Block :=
  match b.replies.look ch with
  | some r => if r.status = St.OK then b else b.set F.KEY_HIST_REFUSED 0
  | none => b

/-- KEY_STATUS, 0x0A01. -/
def keyStatus (ch : Nat) (p : List Byte) (b : Block) : Block :=
  b.command ch 0x0A01 true p.isEmpty [] []
    fun b => b.ok ch (leBytes 4 b.keyStatus ++ b.word4 W.KEY_TAMP_CAUSE 0 ++ leBytes 1 b.lifeCycle ++ zeroBytes 3 ++ padTo 4 b.keys.meas)

/-- KEY_GENERATE, 0x0A02 (R612). -/
def keyGenerate (ch : Nat) (p : List Byte) (b : Block) : Block :=
  (b.command ch 0x0A02 (ch == 32) (p.length == 4) [(le p 0 4 != 0xC3C3, St.BAD_ARG)]
    [(b.lifeCycle == 4, St.AUTH_FAIL), (bitOf b.keys.used 0, St.NOT_READY)]
    fun b =>
      let (r, b) := b.randomBytes 48
      let b := b.updKeys fun k => { k with root := some (sha384 r), written := withBit k.written 0, used := withBit k.used 0 }
      -- the latch falls once the store has been zeroised since it was set (R615)
      let b := b.ite b.keys.wiped fun b => b.updKeys fun k => { k with latch := false, patternBad := false, retLost := false }
      (b.set F.KEY_HIST_GENERATED 0).ok ch ([4] ++ b.publicKey 0 ++ zeroBytes 3)).keyRefused ch

/-- KEY_WIT_EXPORT, 0x0A05 (R623). -/
def keyWitExport (ch : Nat) (p : List Byte) (b : Block) : Block :=
  (b.command ch 0x0A05 (ch == 32) p.isEmpty []
    [(!b.purposeOk 2, St.KEYS_UNAVAILABLE), (!bitOf b.keys.written 2, St.NOT_READY)]
    fun b => b.ok ch (aesWrap (b.keys.injected.look 2) (b.aesKey 2) ++ bytesAt (sha384 (b.aesKey 2)) 0 4 ++ zeroBytes 4)).keyRefused ch

/-- The message that a return token signs (R606). -/
def Block.returnMessage (b : Block) : List Byte :=
  [0x54, 0x5A, 0x31, 0x32, 0x38, 0x20, 0x52, 0x45, 0x54, 0x55, 0x52, 0x4E] ++ padTo 16 b.dev.devId

/-- The steps of a transition up to step `n`, power lost in the next: a cell whose programming was under way may be blown at normal margin (R609). -/
def Block.lcCut (b : Block) (t n : Nat) : Block :=
  let b := b.each ([1, 2, 3, 4, 5].filter (fun i => decide (i ≤ n))) fun b i => b.lcStep t i
  let (f, b) := b.fresh
  b.updKeys fun k =>
    { k with cellA := if n = 2 then k.cellA.put t (f % 2) else k.cellA, cellB := if n = 3 then k.cellB.put t (f % 2) else k.cellB }

/-- LC_ADVANCE, 0x0A06: the five steps of R608; `cut` is the last step reached when power is lost on the way, and then no response is
posted. -/
def lcAdvance (ch : Nat) (p : List Byte) (cut : Option Nat) (b : Block) : Block :=
  let t := le p 0 1
  (b.command ch 0x0A06 (ch == 32) (p.length == 104)
    [(!(decide (1 ≤ t) && decide (t ≤ 4) && zeros p 1 3 && (t == 3 || zeros p 8 96)), St.BAD_ARG)]
    [(!(lcAllowed b.lifeCycle t && le p 4 4 == 0x1C1C
        && (t != 3 || ecdsaVerify Config.returnKey b.returnMessage (bytesAt p 8 96))), St.AUTH_FAIL)]
    fun b =>
      match cut with
      | none => ((b.each [1, 2, 3, 4, 5] fun b i => b.lcStep t i).ok ch []).emit .resetSoon
      | some n => b.lcCut t n).keyRefused ch

end Sys2Proof.Machine
end

