-- ==== Sys2Proof/Machine/Flash.lean ====
section
/-!
DEFINITION. The flash: the log with its three current values, slots and staging by byte, image verification, and the settings banks (R637 to
R652).
-/
namespace Sys2Proof.Machine

def Block.updFlash (b : Block) (f : FlashSt → FlashSt) : Block := { b with flash := f b.flash }
def Block.updStart (b : Block) (f : StartSt → StartSt) : Block := { b with start := f b.start }

/-! ### The log (R639) -/

/-- Every valid record, of both halves. -/
def FlashSt.records (f : FlashSt) : List LogRec := f.logA ++ f.logB

/-- One sequence number is higher than another (R639). -/
def seqAbove (x y : Nat) : Bool := let d := (x + 2 ^ 32 - y) % 2 ^ 32; decide (1 ≤ d) && decide (d < 2 ^ 31)

/-- The record with the highest `SEQ`. -/
def highest : List LogRec → Option LogRec
  | [] => none
  | r :: t => match highest t with
    | some s => if seqAbove r.seq s.seq then some r else some s
    | none => some r

/-- The largest value of a kind of record, 0 without one: the boot epoch (1) and the guard counter (3). -/
def FlashSt.largest (f : FlashSt) (kind : Nat) : Nat := ((f.records.filter fun r => r.kind == kind).map LogRec.value).foldl max 0

/-- The update state and the trial count: those of the state record with the highest `SEQ`, NONE without one. -/
def FlashSt.update (f : FlashSt) : Nat × Nat := ((highest (f.records.filter fun r => r.kind == 2)).map fun r => (r.arg, r.value)).getD (0, 0)

/-- Records that a half of 2 MiB holds. -/
def halfRecords : Nat := 65536

/-- A record appended in the current half; where that is full, the other half is erased first and takes the three current values. -/
def FlashSt.append (f : FlashSt) (kind arg value : Nat) : FlashSt :=
  let next := ((highest f.records).map fun r => (r.seq + 1) % 2 ^ 32).getD 0
  let cur := if f.inB then f.logB else f.logA
  let put (f : FlashSt) (b : Bool) (l : List LogRec) : FlashSt := if b then { f with logB := l } else { f with logA := l }
  if cur.length < halfRecords then put f f.inB (cur ++ [⟨kind, arg, next, value⟩])
  else
    let f' := put f (!f.inB) [⟨1, 0, next, f.largest 1⟩, ⟨2, f.update.1, (next + 1) % 2 ^ 32, f.update.2⟩, ⟨3, 0, (next + 2) % 2 ^ 32, f.largest 3⟩,
      ⟨kind, arg, (next + 3) % 2 ^ 32, value⟩]
    { f' with inB := !f.inB }

def Block.logAppend (b : Block) (kind arg value : Nat) : Block := b.updFlash fun f => f.append kind arg value
def Block.updState (b : Block) : Nat := b.flash.update.1
def Block.trialCount (b : Block) : Nat := b.flash.update.2
/-- The update state changes, its record appended (R641). -/
def Block.setUpdState (b : Block) (st trial : Nat) : Block := b.logAppend 2 st trial

/-- A log record as it lies in the flash. -/
def LogRec.bytes (r : LogRec) : List Byte :=
  let h := [0x4C, 0x47] ++ leBytes 1 r.kind ++ leBytes 1 r.arg ++ leBytes 4 r.seq ++ leBytes 8 r.value ++ zeroBytes 12
  h ++ leBytes 4 (crc32c h)

/-! ### Slots and staging (R637, R638, R640) -/

/-- Offsets of the boot slot, the previous slot and staging, and the size of each. -/
def bootSlot : Nat := 0
def prevSlot : Nat := 0x4000000
def staging : Nat := 0x8000000
def slotSize : Nat := 0x4000000

/-- Bytes of the flash from an offset: 0xFF where erased. -/
def FlashSt.get (f : FlashSt) (o n : Nat) : List Byte := (List.range n).map fun i => ~~~ (f.mem.look (o + i))

/-- Bytes written to the flash; what stands there is erased first. -/
def FlashSt.write (f : FlashSt) (o : Nat) (l : List Byte) : FlashSt :=
  { f with mem := (f.mem.filter fun e => decide (e.1 < o)) ++ ((l.zipIdx.filter fun x => x.1 != 0xFF).map fun x => (o + x.2, ~~~ x.1))
      ++ (f.mem.filter fun e => decide (o + l.length ≤ e.1)) }

/-- A range of the flash erased. -/
def FlashSt.erase (f : FlashSt) (o n : Nat) : FlashSt := { f with mem := f.mem.filter fun e => decide (e.1 < o) || decide (o + n ≤ e.1) }

/-- One slot copied over another. -/
def FlashSt.copy (f : FlashSt) (src dst : Nat) : FlashSt :=
  let part := (f.mem.filter fun e => decide (src ≤ e.1) && decide (e.1 < src + slotSize)).map fun e => (e.1 - src + dst, e.2)
  { f with mem := (f.mem.filter fun e => decide (e.1 < dst)) ++ part ++ (f.mem.filter fun e => decide (dst + slotSize ≤ e.1)) }

/-- What is wrong with the image in a slot (R637, R653): a bad header, a hash mismatch, a signature failure; none for an image that verifies. -/
def FlashSt.imageFault (f : FlashSt) (slot : Nat) : Option Nat :=
  let h := f.get slot 512; let len := le h 16 4
  let stages := (List.range 3).all fun i => decide (le h (24 + 8 * i) 4 + le h (28 + 8 * i) 4 ≤ len)
  if ¬(h.take 4 = [0x54, 0x5A, 0x46, 0x57] ∧ le h 4 2 = 1 ∧ len ≤ 0x4000000 ∧ stages) then some St.INCOMPATIBLE
  else if sha384 (f.get (slot + 512) (len - 512)) ≠ bytesAt h 48 48 then some St.BAD_CRC
  else if ¬ecdsaVerify Config.firmwareKey (h.take 96) (bytesAt h 96 96) then some St.AUTH_FAIL
  else none

def FlashSt.verifies (f : FlashSt) (slot : Nat) : Bool := (f.imageFault slot).isNone
/-- `FW_VERSION` and `COMPAT` of the image in a slot. -/
def FlashSt.version (f : FlashSt) (slot : Nat) : Nat := le (f.get (slot + 8) 4) 0 4
def FlashSt.compat (f : FlashSt) (slot : Nat) : Nat := le (f.get (slot + 12) 4) 0 4
/-- The three stages of the image in a slot (R636). -/
def FlashSt.stages (f : FlashSt) (slot : Nat) : List (List Byte) :=
  let h := f.get slot 512
  (List.range 3).map fun i => f.get (slot + le h (24 + 8 * i) 4) (le h (28 + 8 * i) 4)

/-! ### Settings banks (R647 to R651) -/

def FlashSt.bank (f : FlashSt) (b : Bool) : Option Settings := if b then f.bankB else f.bankA
def FlashSt.setBank (f : FlashSt) (b : Bool) (s : Option Settings) : FlashSt := if b then { f with bankB := s } else { f with bankA := s }

/-- The format that the running firmware writes, and whether it reads one (R645, R648). -/
def Block.ownFormat (b : Block) : Nat := b.dev.compat / 2 ^ 24 % 256
def Block.reads (b : Block) (s : Option Settings) : Bool :=
  match s with
  | some s => s.format == b.ownFormat || Config.readsFormat b.ownFormat s.format
  | none => false

/-- The generation of a bank, 0 where it is not valid. -/
def genOf (s : Option Settings) : Nat := (s.map Settings.gen).getD 0

/-- The current bank: the valid bank of the highest generation among those whose format is read (R648); `true` for B. -/
def Block.currentBank (b : Block) : Option Bool :=
  let a := b.reads b.flash.bankA; let c := b.reads b.flash.bankB
  if a && c then some (decide (genOf b.flash.bankA < genOf b.flash.bankB)) else if a then some false else if c then some true else none

/-- The bank that the next settings write goes to (R649, R651). -/
def Block.targetBank (b : Block) : Bool :=
  let other := b.flash.bank (!b.start.curB)
  if other.isSome && !b.reads other && b.updState != 0 then b.start.curB else !b.start.curB

/-- The settings in use, none before they are read. -/
def Block.settings (b : Block) : Option Settings := b.flash.bank b.start.curB

/-- The keep area of the valid bank of the highest generation, whatever its format (R648). -/
def FlashSt.keep (f : FlashSt) : Keep :=
  (((if genOf f.bankA < genOf f.bankB then f.bankB else f.bankA).map Settings.keep)).getD default

/-- The keep area as read at a start: what was wrapped under a key that this device still derives is unwrapped. -/
def Block.readKeep (b : Block) : Block :=
  let k := b.flash.keep
  b.updKeys fun s => { s with keep := k, injected := (k.slots.filter fun e => b.purposeOk 3 && e.2.kek == b.aesKey 3).map fun e => (e.1, e.2.key) }

/-- The keep area changes: it is stored in the settings record at once, as a settings write of the configuration saved last, or with the write that is
under way (DESIGN CHOICE, log 205). -/
def Block.saveKeep (b : Block) : Block :=
  match b.start.saving, b.settings with
  | some (t, s), _ => b.updStart fun st => { st with saving := some (t, { s with keep := b.keys.keep }) }
  | none, some s =>
    let t := b.targetBank
    let s := { s with format := b.ownFormat, gen := max (genOf b.flash.bankA) (genOf b.flash.bankB) + 1, fw := b.start.version, keep := b.keys.keep }
    (b.updFlash fun f => f.setBank t (some s)).updStart fun st => { st with curB := t, defaulted := false }
  | none, none => b

/-- KEY_CERT_LOAD, 0x0A03 (R620). -/
def keyCertLoad (ch : Nat) (p : List Byte) (b : Block) : Block :=
  let o := le p 0 2; let n := le p 2 2; let last := le p 4 1
  let parts := padTo o b.keys.parts ++ bytesAt p 8 n
  (b.command ch 0x0A03 (ch == 32) (p.length == 8 + n)
    [(!(decide (n ≤ 952) && (n % 4 == 0 || last == 1) && decide (last ≤ 1) && zeros p 5 3 && decide (o + n ≤ 3400)), St.BAD_ARG)]
    [(last == 1 && !b.purposeOk 0, St.KEYS_UNAVAILABLE), (last == 1 && decide (Config.certKey parts ≠ some (b.publicKey 0)), St.BAD_ARG)]
    fun b =>
      (if last = 1 then (b.updKeys fun k => { k with keep := { k.keep with chain := parts }, parts := [] }).saveKeep
       else b.updKeys fun k => { k with parts := parts }).ok ch []).keyRefused ch

/-- KEY_INJECT, 0x0A04 (R622). -/
def keyInject (ch : Nat) (p : List Byte) (b : Block) : Block :=
  let s := le p 0 1
  let key := bytesAt p 4 (if s = 1 then 48 else 32)
  (b.command ch 0x0A04 (ch == 32) (p.length == 56)
    [(!((s == 1 || s == 2) && zeros p 1 3 && (s == 1 || zeros p 36 16) && le p 52 4 == le (sha384 key) 0 4), St.BAD_ARG)]
    [(!b.purposeOk 3, St.KEYS_UNAVAILABLE), (b.pinBad guardKeyPin, St.NOT_READY), (!b.pins.guardKeyLow, St.AUTH_FAIL), (bitOf b.keys.used s, St.NOT_READY)]
    fun b =>
      let kept : KeptKey := ⟨key, b.aesKey 3, aesWrap (b.aesKey 3) key⟩
      let b := b.updKeys fun k =>
        { k with injected := k.injected.put s key, written := withBit k.written s, used := withBit k.used s, keep := { k.keep with slots := k.keep.slots.put s kept } }
      (b.saveKeep.set F.KEY_HIST_INJECTED 0).ok ch (bytesAt (sha384 key) 0 4)).keyRefused ch

end Sys2Proof.Machine
end

