-- ==== Sys2Proof/Machine/LaneBase.lean ====
section
/-!
DEFINITION. Serial lanes as their ports use them: classes, power and rate, the eye monitor's end, loopback and pattern tests, and what a lane sends
and delivers (R136 to R142, R161 to R166, R174 to R177).
-/
namespace Sys2Proof.Machine

/-! ### Classes (R15, R136, R140) -/

inductive LaneClass where
  | mediaRx | mediaTx | fabric | ethernet | pcie | management
deriving DecidableEq, Repr

def laneClass (l : Nat) : LaneClass :=
  if l < 128 then .mediaRx else if l < 256 then .mediaTx else if l < 324 then .fabric else if l < 332 then .ethernet
  else if l < 344 then .pcie else .management

/-- The class has rate code `r` (R140). -/
def laneRateOk (l r : Nat) : Bool :=
  match laneClass l with
  | .mediaRx => decide (r ≤ 8) || r == 15
  | .mediaTx => decide (r ≤ 8)
  | .fabric => decide (r ≤ 4)
  | .ethernet => decide (r ≤ 2)
  | .pcie => false
  | .management => r == 0

/-- Rate code `r` of the class is PAM4 (R140). -/
def lanePam4 (l r : Nat) : Bool :=
  match laneClass l with
  | .fabric => decide (2 ≤ r)
  | .ethernet => r == 2
  | _ => false

/-- A fault of the lane is retrained: fabric, Ethernet and management lanes (R156). -/
def laneRetrains (l : Nat) : Bool :=
  match laneClass l with
  | .fabric => true
  | .ethernet => true
  | .management => true
  | _ => false

/-- The receive equaliser of the class: peaking, gain, decision feedback (R136). -/
def laneHasCtle (l : Nat) : Bool := laneClass l == .mediaRx || laneRetrains l
def laneHasVga (l : Nat) : Bool := laneClass l == .mediaRx || laneClass l == .fabric || laneClass l == .ethernet
def laneHasDfe (l : Nat) : Bool := laneClass l == .fabric || laneClass l == .ethernet
/-- The lane has a `PRE2` tap (R136). -/
def laneHasPre2 (l : Nat) : Bool := laneClass l == .fabric || laneClass l == .ethernet
/-- The lane has the second sampler of R171. -/
def laneHasEye (l : Nat) : Bool := laneClass l == .mediaRx || laneRetrains l

/-- The lane belongs to a unit that is present. -/
def Block.laneHas (b : Block) (l : Nat) : Bool :=
  decide (l ≤ 344) && (decide (l < 324) || (decide (l < 332) && decide (0 < b.ethMedia)) || (decide (332 ≤ l) && decide (l < 336))
    || (decide (336 ≤ l) && decide (l < 344) && decide (0 < b.nvmePorts)) || l == 344)

/-- The lane is supplied: its domain is on, or it is always on (R177). -/
def Block.laneOn (b : Block) (l : Nat) : Bool :=
  match laneDomain l with
  | some d => b.domOn d
  | none => true

/-! Lane states of `LANE_STATUS`: 0 OFF, 1 IDLE, 2 KEEPALIVE, 3 ACQUIRING, 4 TRAINING, 5 VERIFYING, 6 IN_SERVICE,
7 RETRAINING, 8 FAILED, 9 TEST, 10 SINGLE. -/

def Block.lane (b : Block) (l : Nat) : LaneSt := b.lanes.look l
def Block.updLane (b : Block) (l : Nat) (f : LaneSt → LaneSt) : Block := { b with lanes := b.lanes.upd l f }
def Block.laneState (b : Block) (l : Nat) : Nat := b.fld F.LANE_STATUS_STATE l

/-- The receive values move to others, which the spec leaves to the channel (R151); the class has the parts of R136, and `FREEZE` holds them (R152). -/
def Block.adaptNow (b : Block) (l : Nat) : Block :=
  if b.on F.LANE_STATUS_FROZEN l then b
  else
    let b := b.ite (laneHasCtle l) fun b => b.setFree F.RX_EQ_CTLE l
    let b := b.ite (laneHasVga l) fun b => b.setFree F.RX_EQ_VGA l
    b.ite (laneHasDfe l) fun b => (b.setFree F.RX_DFE_A_TAP1_4 l).setFree F.RX_DFE_B_TAP5_8 l

/-- A state in which the lane trains, and one in which it adapts (R151, R152). -/
def trainState (st : Nat) : Bool := st == 4 || st == 7
def adaptState (st : Nat) : Bool := trainState st || st == 6 || st == 10

/-- Adaptation as it stands: without a break while in service, and in training (R151). -/
def Block.eqLive (b : Block) (l : Nat) : Block := b.ite (adaptState (b.laneState l)) fun b => b.adaptNow l

/-- A lane failed its self-test: it is held in FAILED, and commands that name its port answer NOT_READY (R634). -/
def Block.laneBist (b : Block) (l : Nat) : Bool := b.bitAt F.BIST_LANE_FAIL_FAIL (l / 32) (l % 32)

/-- A lane's state. A lane that stops adapting keeps the values in use. Outside TRAINING and RETRAINING, `FREEZE` is in effect as written, so one
written in training holds from its end (R152). -/
def Block.setLane (b : Block) (l st : Nat) : Block :=
  let st := if b.laneBist l then 8 else st
  let b := b.ite (b.laneState l != st) fun b => b.eqLive l
  let b := b.setFld F.LANE_STATUS_STATE l st
  b.ite (!trainState st) fun b => b.setFld F.LANE_STATUS_FROZEN l (b.fld F.RX_EQ_FREEZE l)

/-- The rate code a lane now runs at, and its modulation. -/
def Block.setRateNow (b : Block) (l r : Nat) : Block :=
  (b.setFld F.LANE_STATUS_RATE_NOW l r).setTo F.LANE_STATUS_PAM4 l (lanePam4 l r)

/-- The measurement under way ends without a result (R174). -/
def Block.eyeAbort (b : Block) (l : Nat) : Block :=
  if (b.lane l).eye then
    ((b.updLane l fun s => { s with eye := false }).clr F.EYE_RESULT_VALID l).set F.LANE_HIST_EYE_DONE l
  else b

/-! ### Loopback and pattern tests (R159, R161, R162, R166) -/

/-- The lanes that act as one for loopback: receive n and transmit 128 + n of a media port (R161). -/
def loopLanes (l : Nat) : List Nat := if l < 128 then [l, 128 + l] else if l < 256 then [l - 128, l] else [l]

/-- The lane is in loopback or pattern test, and so never classifies a fault (R159). -/
def Block.laneHeld (b : Block) (l : Nat) : Bool :=
  b.fld F.LANE_CTRL_LB l != 0 || b.on F.PAT_CFG_GEN_EN l || b.on F.PAT_CFG_CHK_EN l

/-- Loopback or a pattern test holds the lane: in far-end loopback it goes on serving its port (R162, R166). A receive lane generates nothing, and
a transmit lane checks nothing. -/
def Block.laneTesting (b : Block) (l : Nat) : Bool :=
  b.fld F.LANE_CTRL_LB l == 1 || b.fld F.LANE_CTRL_LB l == 2 ||
    (b.fld F.LANE_CTRL_LB l == 0 &&
      ((b.on F.PAT_CFG_GEN_EN l && laneClass l != .mediaRx) || (b.on F.PAT_CFG_CHK_EN l && laneClass l != .mediaTx)))

/-- The port's transmit data reaches the lane's pins: the device has released (R627), the lane has not failed and is on, its generator and the far-end loopback do not replace it, and near-end serial
loopback drives the pins (R161, R162, R166, R175). -/
def Block.laneSends (b : Block) (l : Nat) : Bool :=
  (b.released || decide (332 ≤ l)) && !b.laneBist l && (b.fld F.LANE_CTRL_POWER l == 0 || b.fld F.LANE_CTRL_POWER l == 2) && !b.on F.PAT_CFG_GEN_EN l && b.fld F.LANE_CTRL_LB l != 3
    && (b.fld F.LANE_CTRL_LB l != 1 || b.on F.LANE_CTRL_LB_TX_ON l)

/-- The lane's received data reaches its port (R162, R166, R175). -/
def Block.laneDelivers (b : Block) (l : Nat) : Bool :=
  !b.laneBist l && (b.fld F.LANE_CTRL_POWER l == 0 || b.fld F.LANE_CTRL_POWER l == 2) && b.fld F.LANE_CTRL_LB l != 1 && b.fld F.LANE_CTRL_LB l != 2
    && (b.fld F.LANE_CTRL_LB l == 3 || !b.on F.PAT_CFG_CHK_EN l)

/-- Far-end loopback: what the lanes receive goes back to the partner (R161, R163); the transmit lane of a media port carries its receive lane's data. -/
def Block.returned (b : Block) (ls : List Nat) (data : List Byte) : Block :=
  b.each (ls.filter fun l => b.fld F.LANE_CTRL_LB l == 3 && b.fld F.LANE_CTRL_POWER l == 0) fun b l =>
    b.emit (.returned (if l < 128 then 128 + l else l) data)

/-! ### The checker's counters (R168) -/

/-- The checker's counters take the errors and the 256-bit units checked in sync since they were last brought up to date (R168). -/
def Block.chkCount (b : Block) (l errs units : Nat) : Block :=
  if b.on F.PAT_CFG_IN_SYNC l then
    b.updLane l fun s => { s with errs := min (s.errs + errs) (2 ^ 48 - 1), bits := (s.bits + units) % 2 ^ 64 }
  else b

/-- The checker's counters as they stand, by counts that no command gives. -/
def Block.chkLive (b : Block) (l : Nat) : Block :=
  if b.on F.PAT_CFG_IN_SYNC l then (b.fresh.2.fresh.2).chkCount l b.fresh.1 b.fresh.2.fresh.1 else b

/-! ### Power and rate (R141, R174 to R177) -/

/-- A lane moved to a power state, by its port or by a write: P3 while its domain is off (R177). P1 keeps clock recovery and the equaliser (R175); on
its way to P0 a receiver locks anew, from code 8 when it hunts (R141), and a transmit lane, which has nothing to lock to, is in service. -/
def Block.lanePower (b : Block) (l p : Nat) : Block :=
  let p := if b.laneOn l then p else 3
  let b := (b.ite (b.fld F.LANE_CTRL_POWER l != p) fun b => b.eyeAbort l).setFld F.LANE_CTRL_POWER l p
  let b := b.setLane l (if p = 0 then (if laneClass l = .mediaTx then 6 else 3) else if p = 1 then 1 else if p = 2 then 2 else 0)
  let b := b.ite (p == 0) fun b => b.setRateNow l (if b.fld F.LANE_CTRL_RATE l = 15 then 8 else b.fld F.LANE_CTRL_RATE l)
  let b := b.ite (p != 1) fun b => b.clr F.LANE_STATUS_CDR_LOCK l
  let b := b.ite (p != 0) fun b => (b.chkLive l).clr F.PAT_CFG_IN_SYNC l
  (b.ite (p == 3) fun b => b.clr F.LANE_STATUS_SIG_DET l).updLane l fun s => { s with faulted := false, retrying := false }

/-- A lane's rate is set: a hunt starts at code 8, and a receiver locks anew (R140, R141, R174). -/
def Block.laneRate (b : Block) (l r : Nat) : Block :=
  let b := ((b.eyeAbort l).setFld F.LANE_CTRL_RATE l r).setRateNow l (if r = 15 then 8 else r)
  let st := b.laneState l
  let b := b.ite (laneClass l != .mediaTx) fun b => b.clr F.LANE_STATUS_CDR_LOCK l
  b.ite (laneClass l != .mediaTx && decide (4 ≤ st) && st != 9) fun b => b.setLane l 3

/-! ### Patterns (R165) -/

/-- The pattern of a code, with the user pattern of the lane (R165). The polynomials are the customary ones, and a PAM4 pattern is that of its sequence
after Gray decoding (PRESUMED, log 176). -/
def Block.pattern (b : Block) (l code : Nat) : Pattern :=
  match code with
  | 0 => .prbs [7, 6]
  | 1 => .prbs [9, 5]
  | 2 => .prbs [15, 14]
  | 3 => .prbs [23, 18]
  | 4 => .prbs [31, 28]
  | 5 => .prbs [13, 12, 2, 1]
  | 6 => .prbs [31, 28]
  | 7 => .ssprq
  | 8 => .square 8
  | _ => .word (b.fld F.PAT_USER_LO_USER l + b.fld F.PAT_USER_HI_USER l * 2 ^ 32)

/-- The bits follow the pattern without an error, from wherever in it they start (R167). -/
def Pattern.follows (p : Pattern) (bits : List Bool) : Bool :=
  let bitAt (i : Nat) : Bool := (bits[i]?).getD false
  let all (f : Nat → Bool) : Bool := (List.range bits.length).all f
  match p with
  | .prbs taps => all fun i => decide (i < taps.foldl max 0) || bitAt i == taps.foldl (fun x t => x != bitAt (i - t)) false
  | .ssprq => Config.ssprqFits bits
  | .square h => (List.range (2 * h)).any fun s => all fun i => bitAt i == decide ((i + s) % (2 * h) < h)
  | .word w => (List.range 64).any fun s => all fun i => bitAt i == bitOf w ((i + s) % 64)

end Sys2Proof.Machine
end

