-- ==== Sys2Proof/Machine/Yard.lean ====
section
/-!
DEFINITION. The yard and its regions (R28, R295), frame records (R276), signatures (R277) and a stall's loss of signal (R268).
-/
namespace Sys2Proof.Machine

/-! ### The yard -/

/-- The default carve: stalls, heads, incident buffer, still stores, witness staging, in GiB (R28). -/
def Block.carveDefault (b : Block) : List Nat := if b.isF then [18, 4, 10, 4, 1] else if b.isE then [18, 1, 0, 4, 0] else [18, 4, 0, 4, 0]
/-- The sizes of the five regions. -/
def Block.regions (b : Block) : List Nat := b.carve.getD b.carveDefault
def Block.regionSize (b : Block) (r : Nat) : Nat := (b.regions[r]?).getD 0
def Block.regionBase (b : Block) (r : Nat) : Nat := (b.regions.take r).sum
def gib : Nat := 2 ^ 30

/-- The byte of the yard at offset `a`; a byte that nothing has written reads zero. -/
def Block.yardByte (b : Block) (a : Nat) : Byte := b.yard.look a
/-- Bytes put into the yard from offset `a`; the units they touch are no longer poisoned (R691). -/
def Block.yardPut (b : Block) (a : Nat) (l : List Byte) : Block :=
  { b with yard := (l.foldl (fun (s : Bank Byte × Nat) x => (s.1.put s.2 x, s.2 + 1)) (b.yard, a)).1
           flt := { b.flt with poison := b.flt.poison.filter fun u => decide (64 * u + 64 ≤ a) || decide (a + l.length ≤ 64 * u) } }
/-- A range of the yard holds a poisoned unit (R690). -/
def Block.poisoned (b : Block) (a n : Nat) : Bool := b.flt.poison.any fun u => decide (64 * u < a + n) && decide (a < 64 * u + 64)
/-- `n` bytes of the yard from offset `a`. -/
def Block.yardGet (b : Block) (a n : Nat) : List Byte := (List.range n).map fun i => b.yardByte (a + i)

/-! ### Records and signatures -/

/-- The flags byte of a record (R276). -/
def recFlags (r : FrameRec) : Nat :=
  r.okind % 4 + bit r.fromStamp * 4 + bit r.complete * 8 + bit r.srcLos * 16 + bit r.stampStale * 32 + bit r.ahead * 64 + bit r.untrusted * 128

/-- The 64 bytes of a record (R276). -/
def recBytes (r : FrameRec) : List Byte :=
  leBytes 6 r.fseq ++ leBytes 1 r.format ++ leBytes 1 (recFlags r) ++ leBytes 6 (r.ingress / 1000000000) ++ zeroBytes 2
    ++ leBytes 4 (r.ingress % 1000000000) ++ leBytes 4 (r.origin % 1000000000) ++ leBytes 6 (r.origin / 1000000000)
    ++ leBytes 1 r.hops ++ leBytes 1 r.watch ++ leBytes 8 r.sig ++ leBytes 2 r.emitter ++ zeroBytes 2
    ++ leBytes 4 r.rtpTs ++ leBytes 4 r.atc ++ zeroBytes 12

/-- The record whose 64 bytes are given (R276). -/
def recOf (d : List Byte) : FrameRec :=
  let f := le d 7 1
  { fseq := le d 0 6, format := le d 6 1, okind := f % 4, fromStamp := bitOf f 2, complete := bitOf f 3, srcLos := bitOf f 4, stampStale := bitOf f 5,
    ahead := bitOf f 6, untrusted := bitOf f 7, ingress := le d 8 6 * 1000000000 + le d 16 4, origin := le d 24 6 * 1000000000 + le d 20 4,
    hops := le d 30 1, watch := le d 31 1, sig := le d 32 8, emitter := le d 40 2, rtpTs := le d 44 4, atc := le d 48 4 }

/-- Width and height of a format's active picture. -/
def fmtW (c : Nat) : Nat := if c ≤ 2 then 720 else if c ≤ 5 then 1280 else if fmt2160 c then 3840 else 1920
def fmtH (c : Nat) : Nat := if c = 1 then 486 else if c = 2 then 576 else if c ≤ 5 then 720 else if fmt2160 c then 2160 else 1080
/-- Bytes of a format's picture in the order of R277: two samples of two bytes for each pixel. -/
def fmtPicBytes (c : Nat) : Nat := fmtW c * fmtH c * 4

/-- The rows of a picture in transmission order (R277): field 1 before field 2, whose rows for 525 lines start at the top. -/
def rowOrder (c : Nat) (psf : Bool) : List Nat :=
  if fmtInterlaced c || psf then
    let first := if c = 1 then 1 else 0
    let rows (o : Nat) : List Nat := (List.range (fmtH c / 2)).map fun k => 2 * k + o
    rows first ++ rows (1 - first)
  else List.range (fmtH c)

/-- The first active line of each field of a format, and the picture row it carries: rasters of the interface standards, and R187. -/
def activeStart (c : Nat) : List (Nat × Nat) :=
  if c = 1 then [(21, 1), (283, 0)] else if c = 2 then [(23, 0), (336, 1)] else if c ≤ 5 then [(26, 0)]
  else if fmt2160 c then [(83, 0)] else if fmtInterlaced c then [(21, 0), (584, 1)] else [(42, 0)]

/-- The picture row that a line of a format's raster carries. -/
def rowOfLine (c line : Nat) : Option Nat :=
  let fields := activeStart c
  let rows := fmtH c / fields.length
  (fields.find? fun f => decide (f.1 ≤ line) && decide (line < f.1 + rows)).map fun f => (line - f.1) * fields.length + f.2

/-- The picture rows on a line of the data structure (R187, R190): two of a 2160p picture, beside each other, or one of each half on a quad in square
division. -/
def rowsOnLine (c line : Nat) (halves : Bool) : List Nat :=
  if fmt2160 c then
    if 42 ≤ line ∧ line < 1122 then if halves then [line - 42, line - 42 + 1080] else [2 * (line - 42), 2 * (line - 42) + 1] else []
  else (rowOfLine c line).toList

/-- The raster line that carries a row. -/
def lineOfRow (c y : Nat) : Nat :=
  let fields := activeStart c
  match fields.find? fun f => f.2 == y % fields.length with
  | some f => f.1 + y / fields.length
  | none => 0

/-- Samples of two bytes from samples packed four to five bytes (R355). -/
def unpack10 (l : List Byte) : List Byte :=
  ((List.range (l.length / 5)).map fun g =>
    let v := le l (5 * g) 5
    leBytes 2 (v % 1024) ++ leBytes 2 (v / 1024 % 1024) ++ leBytes 2 (v / 1048576 % 1024) ++ leBytes 2 (v / 1073741824 % 1024)).flatten

/-- Samples of two bytes packed four to five bytes (R355). -/
def pack10 (l : List Byte) : List Byte :=
  ((List.range (l.length / 8)).map fun g =>
    leBytes 5 (le l (8 * g) 2 % 1024 + le l (8 * g + 2) 2 % 1024 * 1024 + le l (8 * g + 4) 2 % 1024 * 1048576 + le l (8 * g + 6) 2 % 1024 * 1073741824)).flatten

/-- A frame written into its slot: the picture from offset 0, as strokes pack it (R355; log 23), and the record in the last 4 KiB (R276, R296). -/
def Block.framePut (b : Block) (base size : Nat) (coded : Bool) (pic : List Byte) (r : FrameRec) : Block :=
  (b.yardPut base (if coded then pic else pack10 pic)).yardPut (base + size - 4096) (recBytes r)

/-- `n` bytes of black: chroma 512, luma 64. -/
def blackBytes (n : Nat) : List Byte := (List.replicate ((n + 3) / 4) [0x00, 0x02, 0x40, 0x00]).flatten.take n

/-- A picture's black frame. -/
def blackPic (c : Nat) : List Byte := blackBytes (fmtPicBytes c)

/-- The samples of a rectangle of a picture, clipped to it, in transmission order (R293, R294); none when nothing is left. -/
def regionBytes (c : Nat) (psf : Bool) (pic : List Byte) (x y w h : Nat) : Option (List Byte) :=
  let x1 := min (x + w) (fmtW c)
  let y1 := min (y + h) (fmtH c)
  if x1 ≤ x ∨ y1 ≤ y then none
  else some (((rowOrder c psf).zipIdx.filter (fun q => decide (y ≤ q.1) && decide (q.1 < y1))).map
    (fun q => bytesAt pic ((q.2 * fmtW c + x) * 4) ((x1 - x) * 4))).flatten

/-! ### Still stores (R439 to R441) -/

/-- Still store `s` as it stands at device time: a commit waits for the next frame start of its timeline. -/
def Block.stillNow (b : Block) (s : Nat) : StillSt :=
  let x := b.stills.look s; let tl := b.fld F.STILL_CFG_TL s
  match x.due with
  | some n => if n ≤ b.tlFrame tl then ⟨none, x.fseq + 1, b.frameStart tl n / nsUnit, !x.buf⟩ else x
  | none => x

/-! ### Stall states: 0 OFF, 1 EMPTY, 2 RUNNING, 3 LOS -/

def Block.stall (b : Block) (j : Nat) : StallSt := b.stalls.look j
def Block.updStall (b : Block) (j : Nat) (f : StallSt → StallSt) : Block := { b with stalls := b.stalls.upd j f }
def Block.stallState (b : Block) (j : Nat) : Nat := b.fld F.STALL_STATUS_STATE j

/-- What consumers of stall `j` read: its latched frame, with `SRC_LOS` and black as the loss asks (R265, R268, R269). -/
def Block.stallShow (b : Block) (j : Nat) : Block :=
  let s := b.stall j
  let shown : Option Held := match s.held with
    | none => none
    | some h =>
      if b.stallState j = 3 then
        let act := b.fld F.STALL_CTRL_LOS_ACTION j
        let black := (act == 2 && decide (1 ≤ s.losLatches)) || (act == 1 && decide (b.fld F.STALL_CTRL_LOS_HOLD j < s.losLatches))
        if black then
          some { h with pic := blackPic h.rcd.format, rcd := { h.rcd with srcLos := true, sig := crc64 (blackPic h.rcd.format) } }
        else some { h with rcd := { h.rcd with srcLos := true } }
      else some h
  let b := b.updStall j fun s => { s with shown := shown }
  match shown with
  | some h =>
    ((b.setFld F.STALL_STATUS_LATCHED j h.slot).setTo F.STALL_STATUS_UNTRUSTED j h.rcd.untrusted).setFld F.STALL_STATUS_ORIGIN_KIND j h.rcd.okind
  | none => ((b.setFld F.STALL_STATUS_LATCHED j 0).clr F.STALL_STATUS_UNTRUSTED j).clr F.STALL_STATUS_ORIGIN_KIND j

/-- The source of stall `j` enters loss of signal (R268). -/
def Block.stallLoss (b : Block) (j : Nat) : Block :=
  if b.stallState j = 2 then
    (((b.setFld F.STALL_STATUS_STATE j 3).set F.STALL_HIST_LOS_ENTERED j).updStall j fun s => { s with losLatches := 0 }).stallShow j
  else b

end Sys2Proof.Machine
end

