-- ==== Sys2Proof/Machine/Sdi.lean ====
section
/-!
DEFINITION. Serial digital video ports: receivers, transmitters and crews (R186 to R218). What a transmitted line carries is in Output.
-/
namespace Sys2Proof.Machine

/-! Receiver states of `SDI_RX_STATUS`: 0 OFF, 1 HUNTING, 2 LOCKED, 3 FORMAT_ERR. -/

def Block.rx (b : Block) (n : Nat) : SdiRxSt := b.sdiRx.look n
def Block.updRx (b : Block) (n : Nat) (f : SdiRxSt → SdiRxSt) : Block := { b with sdiRx := b.sdiRx.upd n f }
def Block.rxState (b : Block) (n : Nat) : Nat := b.fld F.SDI_RX_STATUS_STATE n
def Block.tx (b : Block) (n : Nat) : SdiTxSt := b.sdiTx.look n
def Block.updTx (b : Block) (n : Nat) (f : SdiTxSt → SdiTxSt) : Block := { b with sdiTx := b.sdiTx.upd n f }
def Block.txState (b : Block) (n : Nat) : Nat := b.fld F.SDI_TX_STATUS_STATE n

/-- Port `n` is port 4k+1 to 4k+3 of a configured receiving quad (R191). -/
def Block.rxQuadMember (b : Block) (n : Nat) : Bool := n % 4 != 0 && b.on F.SDI_RX_CFG_QUAD (n / 4 * 4)
def Block.txQuadMember (b : Block) (n : Nat) : Bool := n % 4 != 0 && b.on F.SDI_TX_CFG_QUAD (n / 4 * 4)

/-- Source or output `k` of 0 to 335 carries nothing: its port is 4k+1 to 4k+3 of a quad (R191). -/
def Block.quadSource (b : Block) (k : Nat) : Bool := decide (k < 128) && b.rxQuadMember k
def Block.quadOutput (b : Block) (k : Nat) : Bool := decide (k < 128) && b.txQuadMember k

/-- The receiver and the transmitter that a media lane belongs to: its own port, or its quad's. -/
def Block.laneRx (b : Block) (l : Nat) : Nat := if b.rxQuadMember l then l / 4 * 4 else l
def Block.laneTx (b : Block) (l : Nat) : Nat := if b.txQuadMember (l - 128) then (l - 128) / 4 * 4 else l - 128

/-- The lanes of receiver `n`: its own, or the four of its quad. -/
def Block.rxLanes (b : Block) (n : Nat) : List Nat :=
  if b.on F.SDI_RX_CFG_QUAD n then [n, n + 1, n + 2, n + 3] else [n]
/-- The lanes of transmitter `n`. -/
def Block.txLanes (b : Block) (n : Nat) : List Nat :=
  if b.on F.SDI_TX_CFG_QUAD n then [128 + n, 129 + n, 130 + n, 131 + n] else [128 + n]

/-- The lanes of receiver `n` to P0 at the rate of R193. -/
def Block.rxLanesOn (b : Block) (n : Nat) : Block :=
  let f := b.fld F.SDI_RX_CFG_FORMAT n
  let r := if f = 0 then 15 else if b.on F.SDI_RX_CFG_QUAD n then fmtQuadLane f else fmtLane f
  b.each (b.rxLanes n) fun b l => (b.laneRate l r).lanePower l 0

/-- A time code word, as `SDI_RX_ATC` holds it (R202). -/
def atcWord (fmt frames : Nat) (second : Bool) (sec min hour : Nat) (df vitc : Bool) : Nat :=
  let put (f : Field) (v : Nat) : Nat := v % 2 ^ f.width * 2 ^ f.lo
  put F.SDI_RX_ATC_FRAMES (if 5 ≤ fmtRate fmt then 2 * frames + bit second else frames) + put F.SDI_RX_ATC_SECONDS sec + put F.SDI_RX_ATC_MINUTES min
    + put F.SDI_RX_ATC_HOURS hour + put F.SDI_RX_ATC_DF (bit df) + put F.SDI_RX_ATC_VITC (bit vitc)

def sdiAtcFields : List Field :=
  [F.SDI_RX_ATC_FRAMES, F.SDI_RX_ATC_SECONDS, F.SDI_RX_ATC_MINUTES, F.SDI_RX_ATC_HOURS, F.SDI_RX_ATC_DF, F.SDI_RX_ATC_VITC]

/-- The frame under way goes to the stall engine with what it carried (R188, R196, R199). -/
def Block.rxGive (b : Block) (n : Nat) (complete : Bool) : Block :=
  let s := b.rx n
  let g : Given := ⟨b.fld F.SDI_RX_STATUS_FMT_NOW n, complete, s.stamp, if s.atcSeen = 0 then none else some (b.wordOf sdiAtcFields n), s.anc, s.meta_, none⟩
  (b.emit (.frameIn n complete)).updRx n fun s => { s with given := some g, live := false, lines := 0, anc := [], stamp := none }

/-- A receiver in lock stops receiving part-way through a frame: the lines so far are delivered, and the frame is incomplete (R196). -/
def Block.rxCut (b : Block) (n : Nat) : Block :=
  if b.rxState n = 2 ∧ (b.rx n).live ∧ (b.rx n).lines ≠ 0 then b.rxGive n false else b

/-- The receiver starts over in a state: what the stall engine is still given stays, and a candidate it serves is judged again (R39). -/
def Block.rxFresh (b : Block) (n st : Nat) : Block :=
  ((b.updRx n fun s => { (default : SdiRxSt) with stopping := decide (st = 1) && s.stopping, given := s.given }).setFld
    F.SDI_RX_STATUS_STATE n st).stallLoss n |>.candInput 6 n

/-- The receiver starts to hunt anew. -/
def Block.rxHunt (b : Block) (n : Nat) : Block := (b.rxCut n).rxFresh n 1

/-- The receiver goes off, its lanes to P3 (R195); written 1 again meanwhile, `EN` starts it anew at once (log 179). -/
def Block.rxOff (b : Block) (n : Nat) : Block :=
  let b := (b.each (b.rxLanes n) fun b l => b.lanePower l 3).rxFresh n 0
  if b.on F.SDI_RX_CFG_EN n then (b.rxLanesOn n).rxFresh n 1 else b

/-- A lane of a receiver leaves lock (R195, R196): a locked receiver loses lock and its frame in progress is incomplete. -/
def Block.rxLaneLost (b : Block) (lane : Nat) : Block :=
  let n := b.laneRx lane
  match b.rxState n with
  | 2 =>
    let b := (b.set F.SDI_RX_HIST_LOCK_LOST n).rxCut n
    if (b.rx n).stopping then b.rxOff n else b.rxHunt n
  | 3 => b.rxHunt n
  | 1 => b.rxHunt n
  | _ => b

def sdiRxFields (n : Nat) : List Field :=
  (if n % 4 = 0 then [F.SDI_RX_CFG_QUAD] else []) ++
    [F.SDI_RX_CFG_EN, F.SDI_RX_CFG_FORMAT, F.SDI_RX_CFG_ANC_MODE, F.SDI_RX_CFG_DEEMB_EN]

/-- What a change of `SDI_RX_CFG[n]` does, from the values it held before (R195); a quad that changes lets go of the lanes it leaves. -/
def Block.rxChanged (b : Block) (n : Nat) (wasEn : Bool) (restart : Bool) (old : List Nat) : Block :=
  let en := b.on F.SDI_RX_CFG_EN n
  let drop (b : Block) : Block := b.each (old.filter fun l => decide (l ∉ b.rxLanes n)) fun b l => b.lanePower l 3
  if b.rxState n = 0 then if en then ((b.updRx n fun s => { (default : SdiRxSt) with given := s.given }).rxLanesOn n).rxHunt n else b
  else if restart then
    -- without `EN` the frame that the stop waited for is over (log 179)
    let b := drop (b.rxCut n)
    if en then ((b.updRx n fun s => { s with stopping := false }).rxLanesOn n).rxHunt n else b.rxOff n
  else if wasEn && !en then
    if b.rxState n = 2 then b.updRx n fun s => { s with stopping := true } else b.rxOff n
  else b

/-- A write of `SDI_RX_CFG[n]`: ignored on a quad's member, with `CFG_REJECTED` (R191). -/
def Block.sdiRxWrite (b : Block) (n v : Nat) : Block :=
  if b.rxQuadMember n then b.reject 5 F.SDI_RX_HIST_CFG_REJECTED n
  else
    let was := b.on F.SDI_RX_CFG_EN n
    let old := b.rxLanes n
    let same := b.unchanged ((if n % 4 = 0 then [F.SDI_RX_CFG_QUAD] else []) ++ [F.SDI_RX_CFG_FORMAT]) n v
    let b := b.storeWord (sdiRxFields n) n v
    -- a port that a quad takes in receives nothing of its own (R191)
    let b := b.each ((b.rxLanes n).filter fun l => l != n) fun b l =>
      if b.rxState l = 0 then b else ((b.rxCut l).clr F.SDI_RX_CFG_EN l).rxFresh l 0
    b.rxChanged n was (!same) old

/-- SDI_RX_ENABLE: `SDI_RX_CFG[n]` written with `EN` 1 (R195). -/
def sdiRxEnable (n v : Nat) (b : Block) : Block := if F.SDI_RX_CFG_EN.of v = 1 then b.sdiRxWrite n v else b
/-- SDI_RX_DISABLE: `SDI_RX_CFG[n]` written with `EN` 0 (R195). -/
def sdiRxDisable (n v : Nat) (b : Block) : Block := if F.SDI_RX_CFG_EN.of v = 0 then b.sdiRxWrite n v else b
/-- SDI_RX_RESTART: `SDI_RX_CFG[n]` written with another `FORMAT` or `QUAD` (R195). -/
def sdiRxRestart (n v : Nat) (b : Block) : Block :=
  if b.unchanged ((if n % 4 = 0 then [F.SDI_RX_CFG_QUAD] else []) ++ [F.SDI_RX_CFG_FORMAT]) n v then b else b.sdiRxWrite n v

/-! ### Received frames and lines -/

/-- Every lane of receiver `n` has clock lock and delivers to it (R162, R166, R175, R195). -/
def Block.rxLive (b : Block) (n : Nat) : Bool := (b.rxLanes n).all fun l => b.laneDelivers l && b.on F.LANE_STATUS_CDR_LOCK l

/-- A frame's payload identifier declares level B-DL. -/
def rxLevelB (m : RxFrame) : Bool := match m.pid with
  | some q => q.levelB
  | none => false

/-- The format that a frame's measurements form, 0 for none of R186 (R194): the lane rate code, the total and active lines, the active samples of a
line and the field structure. Without a payload identifier PsF is interlace and a 3G signal is level A; level B-DL carries two interlaced streams. -/
def rxFormat (quad : Bool) (lane : Nat) (m : RxFrame) : Nat :=
  let psf := match m.pid with
    | some q => q.psf
    | none => false
  let il := m.interlaced && !psf
  let ok (c : Nat) : Bool :=
    fmtRate c == m.rate && fmtWireLines c == m.lines && fmtWireActive c == m.active && fmtWireWidth c == m.width &&
      (fmtInterlaced c == il || (rxLevelB m && fmtClass c == 2)) &&
      (if quad then fmt2160 c && lane == fmtQuadLane c else fmtLane c == lane)
  ((List.range 25).find? fun c => fmtOk c && ok c).getD 0

/-- The rate code that the lanes of receiver `n` have locked at; 15 when a quad's differ. -/
def Block.rxRate (b : Block) (n : Nat) : Nat :=
  if (b.rxLanes n).all fun l => b.fld F.LANE_STATUS_RATE_NOW l == b.fld F.LANE_STATUS_RATE_NOW n then b.fld F.LANE_STATUS_RATE_NOW n else 15

/-- Two frames agree in structure. -/
def rxAlike (a m : RxFrame) : Bool :=
  a.rate == m.rate && a.lines == m.lines && a.active == m.active && a.width == m.width && a.interlaced == m.interlaced
/-- Two frames agree in structure and payload identifier. -/
def rxAgree (a m : RxFrame) : Bool := rxAlike a m && decide (a.pid = m.pid)

/-- A quad's skew exceeds 2 µs, or its link numbers are not 1 to 4 in port order (R192). -/
def rxQuadBad (quad : Bool) (m : RxFrame) : Bool :=
  quad && (m.skews.any (fun s => decide (2000 < s.natAbs)) || !m.linksOk)

/-- A payload identifier that declares another sample structure (R188). -/
def rxSampleBad (m : RxFrame) : Bool := match m.pid with
  | some q => !q.sampleOk
  | none => false

/-- What each received frame shows in the status: payload identifier, stamp, level B, link and skew; and the division it declares (R190). -/
def Block.rxShow (b : Block) (n : Nat) (m : RxFrame) : Block :=
  let b := (b.setTo F.SDI_RX_STATUS_PID_VALID n m.pid.isSome).setTo F.SDI_RX_STATUS_OSTAMP_SEEN n m.stamp
  let b := match m.pid with
    | some q => (((b.setFld F.SDI_RX_PID_PID n q.word).setTo F.SDI_RX_STATUS_LEVEL_B n q.levelB).setFld F.SDI_RX_STATUS_LINK n q.link).updRx n fun s =>
        { s with div2si := q.div2si }
    | none => b.clr F.SDI_RX_STATUS_LEVEL_B n
  let b := b.ite (b.on F.SDI_RX_CFG_QUAD n) fun b =>
    b.each ((List.range 3).map (fun i => (i, (m.skews[i]?).getD 0))) fun b q => b.setSfld F.SDI_RX_SKEW_SKEW (n + q.1 + 1) q.2
  let b := b.setTo F.SDI_RX_STATUS_ATC_VALID n ((b.rx n).atcSeen != 0)
  b.updRx n fun s => { s with atcSeen := 0 }

/-- Into FORMAT_ERR, with the frame whose structure it leaves by. -/
def Block.rxFormatErr (b : Block) (n : Nat) (m : RxFrame) : Block :=
  let quad := b.on F.SDI_RX_CFG_QUAD n
  (((b.ite (rxQuadBad quad m) fun b => b.set F.SDI_RX_HIST_QUAD_SKEW n).setFld F.SDI_RX_STATUS_STATE n 3).updRx n fun s =>
    { s with last := some m, live := false, lines := 0 }).stallLoss n |>.candInput 6 n

/-- Two agreeing frames are judged (R195). -/
def Block.rxJudge (b : Block) (n : Nat) (m : RxFrame) : Block :=
  let quad := b.on F.SDI_RX_CFG_QUAD n
  let c := rxFormat quad (b.rxRate n) m
  let want := b.fld F.SDI_RX_CFG_FORMAT n
  if c = 0 ∨ rxSampleBad m ∨ rxQuadBad quad m ∨ (want ≠ 0 ∧ want ≠ c) then
    (b.ite (want != 0) fun b => b.set F.SDI_RX_HIST_FMT_MISMATCH n).rxFormatErr n m
  else
    let b := b.ite (b.fld F.SDI_RX_STATUS_FMT_NOW n != c) fun b => b.set F.SDI_RX_HIST_FMT_CHANGED n
    let b := ((b.set F.SDI_RX_HIST_LOCK_GAINED n).setFld F.SDI_RX_STATUS_FMT_NOW n c).setFld F.SDI_RX_STATUS_STATE n 2
    b.updRx n fun s => { s with live := true, lines := 0, pidCand := none, trsRun := 0, lineRun := 0, anc := [], stamp := none }

/-- A payload identifier of a locked receiver: a new one, the same in two frames, is taken when the format is unchanged (R195). -/
def Block.rxPid (b : Block) (n : Nat) (m : RxFrame) : Block :=
  let s := b.rx n
  let old := match s.last with
    | some a => a.pid.map PidInfo.word
    | none => none
  let new := m.pid.map PidInfo.word
  if new.isSome ∧ old ≠ new then
    if s.pidCand = new ∧ rxFormat (b.on F.SDI_RX_CFG_QUAD n) (b.rxRate n) m = b.fld F.SDI_RX_STATUS_FMT_NOW n then
      (b.set F.SDI_RX_HIST_PID_CHANGED n).updRx n fun s => { s with last := some m, pidCand := none }
    else b.updRx n fun s => { s with pidCand := new }
  else b.updRx n fun s => { s with pidCand := none }

/-- SDI_RX_FRAME: a received frame of input `n` ends (R192, R195, R196). -/
def sdiRxFrame (n : Nat) (m : RxFrame) (b : Block) : Block :=
  if b.rxQuadMember n ∨ ¬b.rxLive n then b
  else
    let s := b.rx n
    match b.rxState n with
    | 1 =>
      let b := b.rxShow n m
      let again := match s.last with
        | some a => rxAgree a m
        | none => false
      let b := b.updRx n fun s => { s with last := some m, agree := if again then s.agree + 1 else 1 }
      if again then b.rxJudge n m else b
    | 2 =>
      let b := b.updRx n fun s => { s with meta_ := m.pid.map fun q => q.word / 65536 }
      let b := (b.ite s.live fun b => b.rxGive n true).rxShow n m
      let b := b.updRx n fun s => { s with live := true, lines := 0 }
      if s.stopping then b.rxOff n
      else if rxQuadBad (b.on F.SDI_RX_CFG_QUAD n) m ∨ rxSampleBad m then b.rxFormatErr n m
      else
        let wrong := m.lines != fmtWireLines (b.fld F.SDI_RX_STATUS_FMT_NOW n)
        let b := b.updRx n fun s => { s with lineRun := if wrong then s.lineRun + 1 else 0 }
        if 2 ≤ (b.rx n).lineRun then (b.set F.SDI_RX_HIST_LOCK_LOST n).rxHunt n else b.rxPid n m
    | 3 =>
      let b := b.rxShow n m
      let same := match s.last with
        | some a => rxAlike a m
        | none => false
      if same then b else (b.rxHunt n).updRx n fun s => { s with last := some m, agree := 1 }
    | _ => b

/-- SDI_RX_LINE: a received line of input `n`, with its CRC, its timing reference signals and its line number right or wrong (R195 to R197); SD has no
line CRC and no line number. What a far-end loopback receives goes back (R161). -/
def sdiRxLine (n : Nat) (crcBad trsBad numBad : Bool) (b : Block) : Block :=
  if b.rxState n = 2 ∧ ¬b.rxQuadMember n ∧ b.rxLive n then
    let sd := fmtSD (b.fld F.SDI_RX_STATUS_FMT_NOW n)
    let b := b.returned (b.rxLanes n) []
    let b := b.ite (crcBad && !sd) fun b => (b.bump F.SDI_RX_CRC_CNT_COUNT n 1).set F.SDI_RX_HIST_CRC_ERR n
    let b := b.ite (trsBad || (numBad && !sd)) fun b => (b.bump F.SDI_RX_TRS_CNT_COUNT n 1).set F.SDI_RX_HIST_TRS_ERR n
    let b := b.ite (b.rx n).live fun b => (b.emit (.lineIn n)).updRx n fun s => { s with lines := s.lines + 1 }
    let b := b.updRx n fun s => { s with trsRun := if trsBad then s.trsRun + 1 else 0 }
    if 8 ≤ (b.rx n).trsRun then
      let b := (b.set F.SDI_RX_HIST_LOCK_LOST n).rxCut n
      if (b.rx n).stopping then b.rxOff n else b.rxHunt n
    else b
  else b

/-- A packet matches an entry of the list of input `n` (R200). -/
def Block.ancListed (b : Block) (n did sdid : Nat) : Bool :=
  let hit (d s : Nat) : Bool := d != 0 && d == did && (decide (did < 0x80) || s == 0 || s == sdid)
  (List.range 4).any fun k =>
    hit (b.fld F.SDI_RX_ANC_LIST_DID_A (4 * n + k)) (b.fld F.SDI_RX_ANC_LIST_SDID_A (4 * n + k))
      || hit (b.fld F.SDI_RX_ANC_LIST_DID_B (4 * n + k)) (b.fld F.SDI_RX_ANC_LIST_SDID_B (4 * n + k))

/-- Bytes that a packet takes of an ancillary store: two for each of its words (DESIGN CHOICE, log 180). -/
def ancSize (p : AncPkt) : Nat := 2 * (p.data.length + 5)

/-- A packet put into an ancillary store of 32 KiB (R296); one that does not fit is left out (DESIGN CHOICE, log 180). -/
def ancAdd (l : List AncPkt) (p : AncPkt) : List AncPkt :=
  if (l.map ancSize).sum + ancSize p ≤ 32768 then l ++ [p] else l

/-- A packet of input `n` goes to its stall's ancillary store as `ANC_MODE` selects (R199, R200). -/
def Block.ancStore (b : Block) (n : Nat) (p : AncPkt) : Block :=
  let mode := b.fld F.SDI_RX_CFG_ANC_MODE n
  if mode = 1 ∨ (mode = 2 ∧ b.ancListed n p.did p.sdid) then
    (b.emit (.ancIn n p)).updRx n fun s => { s with anc := if s.live then ancAdd s.anc p else s.anc }
  else b

/-- The audio groups of a format: 1 to 8 above SD, 1 to 4 on SD (R203, R472). -/
def fmtGroups (c : Nat) : Nat := if fmtSD c then 4 else 8

/-- ANC_PACKET_RX: an ancillary packet of input `n`, sorted (R199 to R204); `bad` when its checksum or parity fails. -/
def ancPacketRx (n : Nat) (kind : AncKind) (bad : Bool) (b : Block) : Block :=
  let c := b.fld F.SDI_RX_STATUS_FMT_NOW n
  if b.rxState n ≠ 2 ∨ b.rxQuadMember n ∨ ¬b.rxLive n then b
  else if bad then
    let b := (b.bump F.SDI_RX_ANC_CNT_COUNT n 1).set F.SDI_RX_HIST_ANC_CSUM_ERR n
    -- the stall counts a bad stamp too (R281)
    match kind with
    | .stamp d => b.updRx n fun s => { s with stamp := s.stamp <|> some (false, d) }
    | _ => b
  else
    match kind with
    | .pid => b
    | .edh ok => if fmtSD c ∧ ¬ok then (b.bump F.SDI_RX_CRC_CNT_COUNT n 1).set F.SDI_RX_HIST_CRC_ERR n else b
    | .audio g control =>
      if b.on F.SDI_RX_CFG_DEEMB_EN n ∧ 1 ≤ g ∧ g ≤ fmtGroups c then
        match control with
        | some sync =>
          (b.ite (!sync) fun b => b.set F.SDI_RX_HIST_AUD_ASYNC n).updRx n fun s => { s with muted := if sync then withoutBit s.muted g else withBit s.muted g }
        | none => b
      else b
    | .atc fr sec2 sc mi ho df vitc pkt =>
      let b := b.ancStore n pkt
      if vitc ∧ (b.rx n).atcSeen = 2 then b
      else
        let w := atcWord c fr sec2 sc mi ho df vitc
        let b := (b.each sdiAtcFields fun b f => b.setFld f n (f.of w)).set F.SDI_RX_STATUS_ATC_VALID n
        b.updRx n fun s => { s with atcSeen := if vitc then 1 else 2 }
    | .stamp d => (b.set F.SDI_RX_STATUS_OSTAMP_SEEN n).updRx n fun s => { s with stamp := s.stamp <|> some (true, d) }
    | .other pkt => b.ancStore n pkt

/-! ### Transmitters (R205 to R214) -/

/-- A stream ID names no source (R378). -/
def noStream : Nat := 0x3FFF

/-- The stall that shows target `t`'s source on this device: its source index, for a stream of either member of the
device's own twin (R378). -/
def Block.ownStream (b : Block) (stream : Nat) : Bool := stream / 512 / 2 == b.dev.fabId / 2 && stream != noStream

/-- Local source `s` has shown a frame: its stall has held one, its head is on, its still store holds a frame. -/
def Block.sourceShown (b : Block) (s : Nat) : Bool :=
  if s < 256 then decide (2 ≤ b.fld F.STALL_STATUS_STATE s)
  else if s < 288 then decide (2 ≤ b.fld F.HEAD_STATUS_STATE (s - 256))
  else if s < 320 then b.on F.STILL_CFG_EN (s - 288) && (b.stillNow (s - 288)).fseq != 0
  else decide (s < 336)

/-- The output has a source (R211): a take gave it one, it is not released, and its local stall has held a frame; a
mismatch of formats counts as none (R380). -/
def Block.outHasSource (b : Block) (t : Nat) : Bool :=
  let s := b.fld F.COX_TGT_VID_VID_SRC t
  s != noStream && !b.on F.COX_TGT_VID_SRC_MISMATCH t && (!b.ownStream s || b.sourceShown (s % 512))

def sdiTxHeldFields (n : Nat) : List Field :=
  (if n % 4 = 0 then [F.SDI_TX_CFG_QUAD] else []) ++ [F.SDI_TX_CFG_FORMAT, F.SDI_TX_CFG_DIV_2SI, F.SDI_TX_CFG_LEVEL_B]
def sdiTxFreeFields : List Field :=
  [F.SDI_TX_CFG_NOSRC, F.SDI_TX_CFG_PID_EN, F.SDI_TX_CFG_OSTAMP_EN, F.SDI_TX_CFG_EMB_EN, F.SDI_TX_CFG_EDH_EN, F.SDI_TX_CFG_PID_OVR_EN]

/-- A format may be sent by a transmitter of crew `c` (R189). -/
def Block.fmtForCrew (b : Block) (c fmt : Nat) : Bool :=
  let tl := b.fld F.CREW_CFG_TL c
  fmtTl fmt == tl && fmtFits (b.fld F.TL_CFG_RATE tl) fmt

/-- The timeline of transmitter `n` (R213). -/
def Block.txTl (b : Block) (n : Nat) : Nat := b.fld F.CREW_CFG_TL (n / 8)

/-- The output stops: electrical idle, its lanes to P3 unless `EN` starts it again (R206; log 179). -/
def Block.txStop (b : Block) (n : Nat) : Block :=
  let b := ((b.updTx n fun _ => default).clr F.SDI_TX_STATUS_UNALIGNED n).set F.SDI_TX_HIST_STOPPED n
  if b.on F.SDI_TX_CFG_EN n then b.setFld F.SDI_TX_STATUS_STATE n 1
  else (b.each (b.txLanes n) fun b l => b.lanePower l 3).setFld F.SDI_TX_STATUS_STATE n 0

/-- `EN` of transmitter `n` changes (R193, R206): its lanes go to P0 at the rate of its format. Written 1 again before the output has ended, it starts
the output anew after that (log 179). -/
def Block.txEn (b : Block) (n : Nat) (en : Bool) : Block :=
  let was := b.on F.SDI_TX_CFG_EN n
  let b := b.setTo F.SDI_TX_CFG_EN n en
  let f := b.fld F.SDI_TX_CFG_FORMAT n
  if !was && en then
    if b.txState n = 0 then
      let b := b.each (b.txLanes n) fun b l => (b.laneRate l (if b.on F.SDI_TX_CFG_QUAD n then fmtQuadLane f else fmtLane f)).lanePower l 0
      ((b.updTx n fun _ => default).setFld F.SDI_TX_STATUS_STATE n 1).clr F.SDI_TX_STATUS_UNALIGNED n
    else b
  else if was && !en then
    if b.txState n = 1 then b.txStop n else b.updTx n fun s => { s with stopping := true }
  else b

/-- A write of `SDI_TX_CFG[n]` (R191, R206); `EN` written 1 with a format that R189 bars is discarded (log 181). The held fields stay until the output
has ended. -/
def Block.sdiTxWrite (b : Block) (n v : Nat) : Block :=
  if b.txQuadMember n then b.reject 6 F.SDI_TX_HIST_CFG_REJECTED n
  else
    let held := b.on F.SDI_TX_CFG_EN n || b.txState n != 0
    let b := if held then
        if b.unchanged (sdiTxHeldFields n) n v then b else b.reject 6 F.SDI_TX_HIST_CFG_REJECTED n
      else b.storeWord (sdiTxHeldFields n) n v
    -- a port that a quad takes in sends nothing of its own (R191)
    let b := b.each ((b.txLanes n).filter fun l => l != 128 + n) fun b l =>
      if b.txState (l - 128) = 0 then b else (b.clr F.SDI_TX_CFG_EN (l - 128)).txStop (l - 128)
    let b := b.storeWord sdiTxFreeFields n v
    let en := F.SDI_TX_CFG_EN.of v == 1
    if en && !b.on F.SDI_TX_CFG_EN n && !b.fmtForCrew (n / 8) (b.fld F.SDI_TX_CFG_FORMAT n) then b.reject 6 F.SDI_TX_HIST_CFG_REJECTED n
    else b.txEn n en

/-- A write of `SDI_TX_OFS[n]`: `TX_OFS` is discarded while enabled (R206). -/
def Block.sdiTxOfsWrite (b : Block) (n v : Nat) : Block :=
  if b.txQuadMember n then b.reject 6 F.SDI_TX_HIST_CFG_REJECTED n
  else
    let b := if b.on F.SDI_TX_CFG_EN n || b.txState n != 0 then
        if b.unchanged [F.SDI_TX_OFS_TX_OFS] n v then b else b.reject 6 F.SDI_TX_HIST_CFG_REJECTED n
      else b.storeWord [F.SDI_TX_OFS_TX_OFS] n v
    b.storeWord [F.SDI_TX_OFS_PID_OVR] n v

/-- SDI_TX_ENABLE: `SDI_TX_CFG[n]` written with `EN` 1 (R206). -/
def sdiTxEnable (n v : Nat) (b : Block) : Block := if F.SDI_TX_CFG_EN.of v = 1 then b.sdiTxWrite n v else b
/-- SDI_TX_DISABLE: `SDI_TX_CFG[n]` written with `EN` 0 (R206). -/
def sdiTxDisable (n v : Nat) (b : Block) : Block := if F.SDI_TX_CFG_EN.of v = 0 then b.sdiTxWrite n v else b

/-- What transmitter `n` takes at a frame start (R218). -/
def Block.txLook (b : Block) (n : Nat) : TxLook :=
  { nosrc := b.fld F.SDI_TX_CFG_NOSRC n, y := b.fld F.SDI_TX_NOSRC_Y n, cb := b.fld F.SDI_TX_NOSRC_CB n, cr := b.fld F.SDI_TX_NOSRC_CR n
    pid := b.on F.SDI_TX_CFG_PID_EN n, stamp := b.on F.SDI_TX_CFG_OSTAMP_EN n, emb := b.on F.SDI_TX_CFG_EMB_EN n, edh := b.on F.SDI_TX_CFG_EDH_EN n
    pidOvr := if b.on F.SDI_TX_CFG_PID_OVR_EN n then some (b.fld F.SDI_TX_OFS_PID_OVR n) else none }

/-- A frame start of output `n`: what was written since takes effect, the source is judged, and an enabled output runs
(R206, R211, R214, R218). `off` is how far the frame start lies from the time of R205, ns. -/
def Block.txFrameStart (b : Block) (n off : Nat) : Block :=
  let b := b.ite (b.txState n == 1) fun b => b.set F.SDI_TX_HIST_STARTED n
  let b := b.ite (decide (1000 < off)) fun b => (b.set F.SDI_TX_STATUS_UNALIGNED n).set F.SDI_TX_HIST_UNALIGNED n
  let was := b.txState n
  let has := b.outHasSource n
  let b := b.setFld F.SDI_TX_STATUS_STATE n (if has then 2 else 3)
  let b := b.ite (!has && was != 3) fun b => b.set F.SDI_TX_HIST_NOSRC_ENTERED n
  b.updTx n fun s => { s with look := b.txLook n }

/-- Line `line` of frame `frame` may be the next that output `n` sends: line 1 starts a frame of its timeline, an even one for a format at half rate;
any other follows the line sent last (R68, R205). A transmitter that starts waits for line 1 (R206). -/
def Block.txNext (b : Block) (n frame line : Nat) : Bool :=
  let c := b.fld F.SDI_TX_CFG_FORMAT n; let tl := b.txTl n
  if line = 1 then b.tlOn tl && (!fmtHalf (b.fld F.TL_CFG_RATE tl) c || frame % 2 == 0)
  else decide (2 ≤ line) && decide (line ≤ fmtWireLines c) && (b.txState n == 1 || ((b.tx n).frame == frame && (b.tx n).line + 1 == line))

/-- What line `line` of output `n` is: as `LineSent.kind`, with the output's state as the line leaves it (R205, R206, R211, R212); `present` when the line
of its source is there. -/
def Block.txLine (b : Block) (n frame line off : Nat) (present : Bool) : Nat × Block :=
  let b := b.ite (line == 1) fun b => b.txFrameStart n off
  if b.txState n = 1 then (4, b)
  else
    let b := b.updTx n fun s => { s with line := line, frame := frame }
    if b.txState n = 3 then
      (match (b.tx n).look.nosrc with
        | 1 => 3
        | 2 => 4
        | _ => 2, b)
    else if present then (0, b)
    else (1, (b.bump F.SDI_TX_SUBST_CNT_COUNT n 1).set F.SDI_TX_HIST_LINE_SUBST n)

/-- The output ends after the last line of a frame (R206). -/
def Block.txLineEnd (b : Block) (n line : Nat) : Block :=
  b.ite ((b.tx n).stopping && line == fmtWireLines (b.fld F.SDI_TX_CFG_FORMAT n) && b.txState n != 1) fun b => b.txStop n

/-! ### Crews (R213) -/

/-- A transmitter of crew `c` is enabled. -/
def Block.crewBusy (b : Block) (c : Nat) : Bool := (List.range 8).any fun i => b.on F.SDI_TX_CFG_EN (8 * c + i)

/-- CREW_CFG_WRITE: `CREW_CFG[c]` is written; discarded while a transmitter of the crew is enabled (R213). -/
def crewCfgWrite (c v : Nat) (b : Block) : Block :=
  if b.crewBusy c then b.reject 6 F.SDI_TX_HIST_CFG_REJECTED (8 * c)
  else b.storeWord [F.CREW_CFG_SYNTH, F.CREW_CFG_TL] c v

/-! ### Counter reads (R130, R198) -/

/-- RCL_COUNTER_READ: a management core reads the counter at register-space offset `addr`; it is returned and cleared, and
`late` events that fall on the clearing read are kept (R130). -/
def Block.readClear (b : Block) (f : Field) (n late : Nat) : Block :=
  ((b.emit (.read (b.fld f n))).clr f n).bump f n late

/-! ### Commands (R217, R218) -/

/-- The crew power domain of port `n` is on. Domain d = crew number (R655). -/
def Block.crewOn (b : Block) (n : Nat) : Bool := b.domOn (n / 8)

/-- Lane `l` is under self-test: every lane but those of the host's path, which phase 6 does not test (R182, R629). -/
def Block.laneTested (b : Block) (l : Nat) : Bool := b.selftest 4 && !(decide (332 ≤ l) && decide (l ≤ 335))

/-- SDI_RX_SET, 0x0301. -/
def sdiRxSet (ch : Nat) (p : List Byte) (b : Block) : Block :=
  let n := le p 0 2; let fl := le p 2 1; let f := le p 3 1
  let lanes := if bitOf fl 1 then [n, n + 1, n + 2, n + 3] else [n]
  b.command ch 0x0301 true (p.length == 24)
    [(!(decide (n ≤ 127) && decide (fl ≤ 7) && (!bitOf fl 1 || (n % 4 == 0 && (f == 0 || fmt2160 f))) && decide (f ≤ 24) && decide (le p 4 1 ≤ 2) && zeros p 5 3), St.BAD_ARG),
     (b.selftest 5 || b.laneTested n, St.BUSY_SELFTEST)]
    [(!b.crewOn n, St.NOT_READY), (lanes.any b.laneBist, St.NOT_READY), (b.rxQuadMember n, St.NOT_READY)]
    fun b =>
      let b := b.each (List.range 4) fun b k =>
        b.storeWord [F.SDI_RX_ANC_LIST_DID_A, F.SDI_RX_ANC_LIST_SDID_A, F.SDI_RX_ANC_LIST_DID_B, F.SDI_RX_ANC_LIST_SDID_B]
          (4 * n + k) (le p (8 + 4 * k) 4)
      (b.sdiRxWrite n (bit (bitOf fl 0) + f * 2 + bit (bitOf fl 1) * 64 + le p 4 1 * 128 + bit (bitOf fl 2) * 512)).ok ch []

/-- SDI_TX_SET, 0x0302 (R217, R218). -/
def sdiTxSet (ch : Nat) (p : List Byte) (b : Block) : Block :=
  let n := le p 0 2; let fl := le p 2 1; let f := le p 3 1; let ofs := les p 6 2
  let col (o : Nat) : Bool := decide (4 ≤ le p o 2) && decide (le p o 2 ≤ 1019)
  let v := bit (bitOf fl 0) + f * 2 + bit (bitOf fl 1) * 64 + le p 4 1 * 128 + bit (bitOf fl 2) * 2 ^ 9 + bit (bitOf fl 3) * 2 ^ 10
    + bit (bitOf fl 4) * 2 ^ 11 + bit (bitOf fl 5) * 2 ^ 12 + bit (bitOf fl 6) * 2 ^ 13 + bit (bitOf fl 7) * 2 ^ 14 + le p 5 1 * 2 ^ 15
  let w := le p 6 2 + le p 14 2 * 65536
  let lanes := if bitOf fl 1 then [128 + n, 129 + n, 130 + n, 131 + n] else [128 + n]
  let held := (b.on F.SDI_TX_CFG_EN n || b.txState n != 0) && !(b.unchanged (sdiTxHeldFields n) n v && b.unchanged [F.SDI_TX_OFS_TX_OFS] n w)
  b.command ch 0x0302 true (p.length == 16)
    [(!(decide (n ≤ 127) && fmtOk f && decide (le p 4 1 ≤ 2) && decide (le p 5 1 ≤ 1) && decide (-1024 ≤ ofs) && decide (ofs ≤ 1023)
        && col 8 && col 10 && col 12 && (!bitOf fl 1 || (n % 4 == 0 && fmt2160 f))), St.BAD_ARG),
     (b.selftest 6 || b.laneTested (128 + n), St.BUSY_SELFTEST)]
    [(!b.crewOn n, St.NOT_READY), (lanes.any b.laneBist, St.NOT_READY), (b.txQuadMember n, St.NOT_READY),
     (bitOf fl 0 && !b.fmtForCrew (n / 8) f, St.NOT_READY), (held, St.NOT_READY)]
    fun b =>
      let b := b.sdiTxOfsWrite n w
      let b := ((b.setFld F.SDI_TX_NOSRC_Y n (le p 8 2)).setFld F.SDI_TX_NOSRC_CB n (le p 10 2)).setFld F.SDI_TX_NOSRC_CR n (le p 12 2)
      (b.sdiTxWrite n v).ok ch []

def sdiRxHistFields : List Field :=
  [F.SDI_RX_HIST_LOCK_GAINED, F.SDI_RX_HIST_LOCK_LOST, F.SDI_RX_HIST_FMT_CHANGED, F.SDI_RX_HIST_FMT_MISMATCH, F.SDI_RX_HIST_CRC_ERR,
   F.SDI_RX_HIST_TRS_ERR, F.SDI_RX_HIST_ANC_CSUM_ERR, F.SDI_RX_HIST_QUAD_SKEW, F.SDI_RX_HIST_PID_CHANGED, F.SDI_RX_HIST_AUD_ASYNC,
   F.SDI_RX_HIST_CFG_REJECTED]
def sdiTxHistFields : List Field :=
  [F.SDI_TX_HIST_STARTED, F.SDI_TX_HIST_STOPPED, F.SDI_TX_HIST_UNALIGNED, F.SDI_TX_HIST_NOSRC_ENTERED, F.SDI_TX_HIST_LINE_SUBST,
   F.SDI_TX_HIST_CFG_REJECTED]
def sdiRxStatusFields : List Field :=
  [F.SDI_RX_STATUS_STATE, F.SDI_RX_STATUS_FMT_NOW, F.SDI_RX_STATUS_PID_VALID, F.SDI_RX_STATUS_ATC_VALID, F.SDI_RX_STATUS_OSTAMP_SEEN,
   F.SDI_RX_STATUS_LEVEL_B, F.SDI_RX_STATUS_LINK]
/-- SDI_GET_STATUS, 0x0303: the counters are read, and so cleared. -/
def sdiGetStatus (ch : Nat) (p : List Byte) (b : Block) : Block :=
  let n := le p 0 2; let c := le p 2 1
  b.command ch 0x0303 true (p.length == 4)
    [(!(decide (n ≤ 127) && decide (c ≤ 3) && zeros p 3 1), St.BAD_ARG), (b.laneTested n || b.laneTested (128 + n), St.BUSY_SELFTEST)]
    [(!b.crewOn n, St.NOT_READY), (b.laneBist n || b.laneBist (128 + n), St.NOT_READY)]
    fun b =>
      let d := b.word4 sdiRxStatusFields n ++ b.word4 sdiRxHistFields n ++ leBytes 4 (b.fld F.SDI_RX_PID_PID n) ++ b.word4 sdiAtcFields n
        ++ leBytes 4 (b.fld F.SDI_RX_CRC_CNT_COUNT n) ++ leBytes 4 (b.fld F.SDI_RX_TRS_CNT_COUNT n) ++ leBytes 4 (b.fld F.SDI_RX_ANC_CNT_COUNT n)
        ++ leBytes 4 (b.fld F.SDI_RX_SKEW_SKEW n) ++ b.word4 [F.SDI_TX_STATUS_STATE, F.SDI_TX_STATUS_UNALIGNED] n ++ b.word4 sdiTxHistFields n
        ++ leBytes 4 (b.fld F.SDI_TX_SUBST_CNT_COUNT n)
      let b := (((b.clr F.SDI_RX_CRC_CNT_COUNT n).clr F.SDI_RX_TRS_CNT_COUNT n).clr F.SDI_RX_ANC_CNT_COUNT n).clr F.SDI_TX_SUBST_CNT_COUNT n
      let b := b.ite (bitOf c 0) fun b => b.clearHist sdiRxHistFields n (2 ^ 32 - 1)
      (b.ite (bitOf c 1) fun b => b.clearHist sdiTxHistFields n (2 ^ 32 - 1)).ok ch d

/-- CREW_SET, 0x0304 (R213, R217). -/
def crewSet (ch : Nat) (p : List Byte) (b : Block) : Block :=
  let c := le p 0 1
  b.command ch 0x0304 true (p.length == 4)
    [(!(decide (c ≤ 15) && decide (le p 1 1 ≤ 3) && decide (le p 2 1 ≤ 1) && zeros p 3 1), St.BAD_ARG), (b.selftest 6, St.BUSY_SELFTEST)]
    [(!b.crewOn (8 * c), St.NOT_READY), (b.crewBusy c, St.NOT_READY)]
    fun b => ((b.setFld F.CREW_CFG_SYNTH c (le p 1 1)).setFld F.CREW_CFG_TL c (le p 2 1)).ok ch []

end Sys2Proof.Machine
end

