-- ==== Sys2Proof/Machine/Lanes.lean ====
section
/-!
DEFINITION. Serial lanes: equalisers, eye monitor, faults and retraining, loopbacks, pattern tests, power, and the bring-up of fabric ports
(R141 to R184).
-/
namespace Sys2Proof.Machine

/-! ### Equalisers (R149 to R154) -/

/-- `FREEZE` holds the values in use at once, but in training at its end (R152). -/
def Block.freezeNow (b : Block) (l : Nat) : Block :=
  if trainState (b.laneState l) then b else (b.eqLive l).setFld F.LANE_STATUS_FROZEN l (b.fld F.RX_EQ_FREEZE l)

/-- The receive values written to `RX_EQ[l]` are kept for `LOAD` (R153), and `FREEZE` is stored (R152). -/
def Block.rxEqStore (b : Block) (l v : Nat) : Block :=
  let b := b.updLane l fun s => { s with wroteEq := v % 2 ^ 11 }
  (b.storeWord [F.RX_EQ_FREEZE] l v).freezeNow l

/-- FREEZE_WRITE: `RX_EQ[l]` is written (R152). -/
def freezeWrite (l v : Nat) (b : Block) : Block := b.rxEqStore l v

/-- The receive values last written are applied, in the parts that the class has (R136, R153). -/
def Block.eqLoad (b : Block) (l : Nat) : Block :=
  let s := b.lane l
  let b := b.ite (laneHasCtle l) fun b => b.setFld F.RX_EQ_CTLE l (s.wroteEq % 32)
  let b := b.ite (laneHasVga l) fun b => b.setFld F.RX_EQ_VGA l (s.wroteEq / 32)
  b.ite (laneHasDfe l) fun b => (b.setFld F.RX_DFE_A_TAP1_4 l s.wroteA).setFld F.RX_DFE_B_TAP5_8 l s.wroteB

/-- RX_EQ_LOAD: `RX_EQ[l]` is written with `LOAD` (R153). -/
def rxEqLoad (l v : Nat) (b : Block) : Block :=
  let b := b.rxEqStore l v
  if F.RX_EQ_LOAD.of v = 1 then
    if b.on F.RX_EQ_FREEZE l then b.eqLoad l else b.reject 4 F.LANE_HIST_CFG_REJECTED l
  else b

/-- The taps of a `TX_EQ` word are accepted: `MAIN` at least 32, and the absolute values sum to at most 64 (R149). -/
def txEqOk (v : Nat) : Bool :=
  let tap (lo : Nat) : Int := signedOf 8 (bitsOf v lo 8)
  decide (32 ≤ tap 16) && decide ((tap 0).natAbs + (tap 8).natAbs + (tap 16).natAbs + (tap 24).natAbs ≤ 64)

/-- A write of `TX_EQ[l]` (R149). -/
def Block.txEqWrite (b : Block) (l v : Nat) : Block :=
  let v := if laneHasPre2 l then v else v / 256 * 256
  if txEqOk v then
    b.storeWord ((if laneHasPre2 l then [F.TX_EQ_PRE2] else []) ++ [F.TX_EQ_PRE1, F.TX_EQ_MAIN, F.TX_EQ_POST1]) l v
  else b.reject 4 F.LANE_HIST_CFG_REJECTED l

/-- The transmit taps at their start preset, the reset values (log 182). -/
def Block.txPreset (b : Block) (l : Nat) : Block :=
  (((b.setFld F.TX_EQ_PRE2 l 0).setFld F.TX_EQ_PRE1 l 0).setFld F.TX_EQ_MAIN l 64).setFld F.TX_EQ_POST1 l 0

/-- The receive equaliser at its start preset, the reset values, unless it is frozen (R145, R152; log 182). -/
def Block.rxPreset (b : Block) (l : Nat) : Block :=
  if b.on F.LANE_STATUS_FROZEN l then b
  else (((b.setFld F.RX_EQ_CTLE l 8).setFld F.RX_EQ_VGA l 32).setFld F.RX_DFE_A_TAP1_4 l 0).setFld F.RX_DFE_B_TAP5_8 l 0

/-! ### Retraining and faults (R155 to R160) -/

/-- A retrain starts, for a fault or on command; where training sets the transmit taps, from their preset (R150; log 182). -/
def Block.retrain (b : Block) (l : Nat) (fault : Bool) : Block :=
  let b := ((b.eyeAbort l).setLane l 7).updLane l fun s => { s with faulted := fault, retrying := false, trained := false, readyRun := 0, response := 0 }
  b.ite (laneHasPre2 l) fun b => b.txPreset l

/-- RETRAIN: `LANE_CTRL[l]` is written with `RETRAIN` (R156). A lane that is coming up, or that a test holds, has nothing to retrain (log 183). -/
def retrainWrite (l v : Nat) (b : Block) : Block :=
  let st := b.laneState l
  if F.LANE_CTRL_RETRAIN.of v = 1 ∧ laneRetrains l ∧ b.fld F.LANE_CTRL_POWER l = 0 ∧ (6 ≤ st ∧ st ≠ 9) ∧ ¬b.laneTesting l then b.retrain l false else b

/-- LANE_CONDITION: lane `l` detects LOS (0), LOL (1) or SNR_LOW (2) (R155, R156, R158, R159). -/
def laneCondition (l kind : Nat) (b : Block) : Block :=
  let sees := match laneClass l with
    | .mediaTx => kind == 1
    | _ => kind == 0 || kind == 1 || (kind == 2 && b.on F.LANE_STATUS_PAM4 l)
  if !sees then b
  else
    let b := match kind with
      | 0 => (b.set F.LANE_HIST_LOS l).clr F.LANE_STATUS_SIG_DET l
      | 1 => b.set F.LANE_HIST_LOL l
      | _ => b.set F.LANE_HIST_SNR_LOW l
    let b := b.ite (kind != 2) fun b => b.clr F.LANE_STATUS_CDR_LOCK l
    match laneClass l with
    | .mediaRx =>
      let b := b.updLane l fun s => { s with losses := s.losses + 1 }
      let b := b.ite (b.fld F.LANE_CTRL_RATE l == 15) fun b => (b.eyeAbort l).setRateNow l 8
      let b := b.ite (b.laneState l == 6) fun b => b.setLane l 3
      b.rxLaneLost l
    | .mediaTx => b.ite (b.laneState l == 6) fun b => b.setLane l 3
    | .pcie => b
    | _ =>
      if (b.laneState l = 6 ∨ b.laneState l = 10) ∧ b.fld F.LANE_CTRL_POWER l = 0 then
        -- without AUTO_RETRAIN, or in loopback, the lane leaves service at the loss (R308)
        if b.on F.LANE_CTRL_AUTO_RETRAIN l && !b.laneHeld l then b.retrain l true else b.ite (kind != 2) fun b => b.setLane l 3
      else b

/-- A fabric lane that a port in SINGLE uses alone. -/
def Block.laneSingle (b : Block) (l : Nat) : Bool := laneClass l == .fabric && l % 4 == 0 && (b.bring.look ((l - 256) / 4)).state == 6

/-- The lane returns to service. -/
def Block.laneServe (b : Block) (l : Nat) : Block :=
  ((b.setLane l (if b.laneSingle l then 10 else 6)).set F.LANE_STATUS_CDR_LOCK l).set F.LANE_STATUS_SIG_DET l

/-- A lasting fault of lane `l` (R156). -/
def Block.laneFail (b : Block) (l : Nat) : Block :=
  let b := ((b.set F.LANE_HIST_RETRAIN_FAIL l).set F.LANE_HIST_LASTING_SET l).set F.LANE_STATUS_LASTING l
  let b := b.updLane l fun s => { s with retrying := true }
  ((b.bump F.LANE_FAULT_CNT_LASTING_CNT l 1).setLane l 8).fault 0x04 0x01 l true false

/-- RETRAIN_END: the retrain of lane `l` completes within `TRAIN_TMO`, or does not (R156); in loopback neither is a fault (R159). -/
def retrainEnd (l : Nat) (ok : Bool) (b : Block) : Block :=
  if b.laneState l = 7 then
    let f := (b.lane l).faulted && !b.laneHeld l
    let b := b.updLane l fun s => { s with faulted := false }
    if ok then
      let b := ((b.laneServe l).set F.LANE_HIST_RETRAIN_OK l).updLane l fun s => { s with trained := true }
      b.ite f fun b => (b.bump F.LANE_FAULT_CNT_TRANSIENT l 1).fault 0x04 0x01 l false false
    else if b.laneHeld l then (b.set F.LANE_HIST_RETRAIN_FAIL l).setLane l 3
    else b.laneFail l
  else b

/-- LASTING_RETRY: the retry after a lasting fault succeeds, or does not (R157); `LASTING` stays until the host clears it. -/
def lastingRetry (l : Nat) (ok : Bool) (b : Block) : Block :=
  if b.laneState l = 8 ∧ (b.lane l).retrying ∧ ok then (b.laneServe l).updLane l fun s => { s with retrying := false } else b

/-- Clearing `LASTING_SET` clears `LASTING`. -/
def Block.lastingCleared (b : Block) (l : Nat) : Block :=
  if b.on F.LANE_HIST_LASTING_SET l then b else b.clr F.LANE_STATUS_LASTING l

/-! ### Bring-up (R141, R145, R146) -/

def Block.port (b : Block) (q : Nat) : Bring := b.bring.look q
def Block.updPort (b : Block) (q : Nat) (f : Bring → Bring) : Block := { b with bring := b.bring.upd q f }
def portLanes (q : Nat) : List Nat := [256 + 4 * q, 257 + 4 * q, 258 + 4 * q, 259 + 4 * q]
/-- The fabric port of a fabric lane. -/
def lanePort (l : Nat) : Nat := (l - 256) / 4

/-- The port carries media: in service with all four lanes (R148). -/
def Block.portUp (b : Block) (q : Nat) : Bool := (b.port q).state == 5 && (portLanes q).all fun l => b.laneState l == 6

/-- The port passes control messages: in service, or in SINGLE on lane 0 (R146, R148). -/
def Block.portLinked (b : Block) (q : Nat) : Bool :=
  b.portUp q || ((b.port q).state == 6 && b.laneState (256 + 4 * q) == 10)

/-- The port is in service, a lane that retrains included (R308). -/
def Block.portServes (b : Block) (q : Nat) : Bool :=
  ((b.port q).state == 5 && (portLanes q).all fun l => b.laneState l == 6 || b.laneState l == 7)
    || ((b.port q).state == 6 && (b.laneState (256 + 4 * q) == 10 || b.laneState (256 + 4 * q) == 7))

/-- The down-spread of a port's lanes, 0 when none is in use (R143). -/
def Block.setSsc (b : Block) (q d : Nat) : Block := b.each (portLanes q) fun b l => b.setFld F.LANE_CTRL_SSC l d

/-- Lane 0 alone at P0 and code 0, the others at P3; a lane already there keeps its lock. -/
def Block.lane0Only (b : Block) (q st : Nat) : Block :=
  let b := (b.setSsc q 0).each [257 + 4 * q, 258 + 4 * q, 259 + 4 * q] fun b l => b.lanePower l 3
  let l := 256 + 4 * q
  let b := b.ite (b.fld F.LANE_CTRL_POWER l != 0) fun b => b.lanePower l 0
  let b := b.ite (b.fld F.LANE_CTRL_RATE l != 0 || b.fld F.LANE_STATUS_RATE_NOW l != 0) fun b => b.laneRate l 0
  (b.setLane l st).updLane l fun s => { s with trained := false, readyRun := 0, goodRun := 0, badRun := 0, faulted := false, retrying := false }

/-- Bring-up starts: lane 0 acquires at code 0 (R145). -/
def Block.portAcquire (b : Block) (q : Nat) : Block :=
  let b := ((b.lane0Only q 3).clr F.LANE_STATUS_CDR_LOCK (256 + 4 * q)).updPort q fun _ => { (default : Bring) with state := 1 }
  { b with fabPorts := b.fabPorts.upd q fun s => { s with peerHello := [] } }

/-- Bring-up starts over; while lane 0 is not at P0, it waits (R175; log 184). -/
def Block.portAgain (b : Block) (q : Nat) : Block :=
  if (b.port q).state = 0 then b
  else if b.fld F.LANE_CTRL_POWER (256 + 4 * q) = 0 then b.portAcquire q
  else
    let b := b.updPort q fun _ => { (default : Bring) with state := 1 }
    { b with fabPorts := b.fabPorts.upd q fun s => { s with peerHello := [] } }

/-- FAB_PORT_ENABLE: fabric port `q` is enabled: one of ports 0 to N - 2 of a fabric with a valid fabric ID, out of the safe state, none of its lanes
failed by self-test (R145, R301, R303, R633, R634). -/
def fabPortEnable (q : Nat) (b : Block) : Block :=
  if (b.port q).state = 0 ∧ q + 2 ≤ b.fld F.FAB_CFG_N 0 ∧ ¬b.dev.idInvalid ∧ ¬b.on F.BIST_STATUS_SAFE 0 ∧ ¬((portLanes q).any b.laneBist) then b.portAcquire q
  else b

/-- A fabric port is disabled: all lanes to P3 (R145). -/
def Block.portDisable (b : Block) (q : Nat) : Block :=
  ((b.setSsc q 0).each (portLanes q) fun b l => b.lanePower l 3).updPort q fun _ => default

/-- ACQUIRE_TIMEOUT: lane 0 has no clock and block lock within 100 ms, and is restarted (R145). -/
def acquireTimeout (q : Nat) (b : Block) : Block :=
  if (b.port q).state = 1 ∧ b.fld F.LANE_CTRL_POWER (256 + 4 * q) = 0 then (b.lane0Only q 3).clr F.LANE_STATUS_CDR_LOCK (256 + 4 * q) else b

/-- The pattern that the port runs on a lane in training and verification (R145, R372); the lane's own generator stands before it. -/
def Block.portPattern (b : Block) (l code : Nat) : Block := b.ite (!b.on F.PAT_CFG_GEN_EN l) fun b => b.emit (.generator l (some (b.pattern l code)))

/-- Lanes of port `q` start training at rate code `r`, from their start presets (R145); a lane whose domain is off stays in P3 (R177). -/
def Block.trainLanes (b : Block) (q r : Nat) (ls : List Nat) : Block :=
  b.each (ls.filter b.laneOn) fun b l =>
    let b := (((b.eyeAbort l).lanePower l 0).setFld F.LANE_CTRL_RATE l r).setRateNow l r
    let b := (((b.setLane l 4).txPreset l).rxPreset l).setFld F.LANE_CTRL_SSC l (b.port q).ssc
    let b := b.portPattern l (if b.on F.LANE_STATUS_PAM4 l then 5 else 4)
    b.updLane l fun s => { s with trained := false, readyRun := 0, response := 0 }

/-- A training failure at this rate (R145): the first retrains the failing lanes, the second takes the next lower rate, and
at code 0 leaves lane 0 alone. -/
def Block.trainFail (b : Block) (q : Nat) (bad : List Nat) : Block :=
  let s := b.port q
  let b := b.each bad fun b l => b.set F.LANE_HIST_RETRAIN_FAIL l
  if s.fails = 0 then (b.updPort q fun s => { s with state := 3, fails := 1 }).trainLanes q s.rate bad
  else if s.rate = 0 then (b.lane0Only q 10).updPort q fun s => { s with state := 6, fails := 0 }
  else (b.updPort q fun s => { s with state := 3, fails := 0, rate := s.rate - 1 }).trainLanes q (s.rate - 1) (portLanes q)

/-- TRAIN_TIMEOUT: a lane of port `q` is not trained within `TRAIN_TMO` (R145). -/
def trainTimeout (q : Nat) (b : Block) : Block :=
  let bad := (portLanes q).filter fun l => !(b.lane l).trained
  if (b.port q).state = 3 ∧ bad ≠ [] then b.trainFail q bad else b

/-- VERIFY_END: the pattern verification of port `q` ends; `bad` has a bit for each lane that fails the ratio (R145). -/
def verifyEnd (q bad : Nat) (b : Block) : Block :=
  if (b.port q).state = 4 then
    let ls := (onesAt 4 bad).map fun k => 256 + 4 * q + k
    let b := b.each (portLanes q) fun b l => b.ite (!b.on F.PAT_CFG_GEN_EN l) fun b => b.emit (.generator l none)
    if ls = [] then
      (b.each (portLanes q) fun b l => (b.laneServe l).set F.LANE_HIST_TRAIN_DONE l).updPort q fun s => { s with state := 5, fails := 0 }
    else b.trainFail q ls
  else b

/-- SINGLE_RETRY: a port in SINGLE tries a four-lane bring-up again (R146). -/
def singleRetry (q : Nat) (b : Block) : Block := if (b.port q).state = 6 then b.portAcquire q else b

/-- HUNT_DWELL_END: a hunting media lane's dwell ends without lock; the next rate down, then code 8 again (R141). -/
def huntDwellEnd (l : Nat) (b : Block) : Block :=
  if laneClass l = .mediaRx ∧ b.fld F.LANE_CTRL_RATE l = 15 ∧ b.fld F.LANE_CTRL_POWER l = 0 ∧ ¬b.on F.LANE_STATUS_CDR_LOCK l then
    let r := b.fld F.LANE_STATUS_RATE_NOW l
    (b.eyeAbort l).setRateNow l (if r = 0 ∨ 8 < r then 8 else r - 1)
  else b

/-- The transmit lane of a media port in far-end loopback runs from the clock that its receive lane recovers (R163). -/
def Block.farClock (b : Block) (l : Nat) : Block :=
  b.ite (laneClass l == .mediaRx && b.fld F.LANE_CTRL_LB l == 3) fun b => b.setRateNow (128 + l) (b.fld F.LANE_STATUS_RATE_NOW l)

/-- LANE_LOCK_GAINED: the clock-recovery loop of lane `l` locks, or a transmit lane's serialiser clock is back (R141, R145, R155). -/
def laneLockGained (l : Nat) (b : Block) : Block :=
  let p := b.fld F.LANE_CTRL_POWER l
  if laneClass l = .mediaTx then b.ite (p == 0 && b.laneState l == 3) fun b => b.setLane l 6
  else if (p = 0 ∨ p = 2) ∧ ¬b.on F.LANE_STATUS_CDR_LOCK l then
    let b := (b.set F.LANE_STATUS_CDR_LOCK l).set F.LANE_STATUS_SIG_DET l
    match laneClass l with
    | .mediaRx =>
      let b := b.ite (b.fld F.LANE_CTRL_RATE l != 15) fun b => b.setRateNow l (b.fld F.LANE_CTRL_RATE l)
      (b.ite (!b.laneTesting l) fun b => b.setLane l 6).farClock l
    | .fabric =>
      let s := (b.port (lanePort l)).state
      if s = 1 then b.ite (p == 0 && l % 4 == 0 && decide (2 ≤ (b.lane l).goodRun)) fun b => b.updPort (lanePort l) fun s => { s with state := 2 }
      else b.ite (p == 0 && b.laneState l == 3 && (s == 5 || s == 6)) fun b => b.laneServe l
    | .ethernet => (b.setRateNow l (b.fld F.LANE_CTRL_RATE l)).ite (b.laneState l == 3) fun b => b.laneServe l
    | .management => (b.setRateNow l 0).ite (b.laneState l == 3) fun b => b.laneServe l
    | _ => b
  else b

/-! ### Returning to the port -/

/-- A lane that a loopback or a test lets go of returns to its port: a receiver to what it has locked to, a transmitter to service, a fabric port through
bring-up, an Ethernet or management lane through acquisition when its port was in service and through a retrain else (R164; for a test, log 185). An
Ethernet lane has the rate of its port again. -/
def Block.laneBack (b : Block) (l : Nat) (served : Bool) : Block :=
  match laneClass l with
  | .mediaRx => b.setLane l (if b.on F.LANE_STATUS_CDR_LOCK l then 6 else 3)
  | .mediaTx => (b.setRateNow l (b.fld F.LANE_CTRL_RATE l)).setLane l 6
  | .pcie => b
  | .fabric => if (b.port (lanePort l)).state = 0 then b.retrain l false else b.portAcquire (lanePort l)
  | _ =>
    let b := b.ite (laneClass l == .ethernet && b.fld F.LANE_CTRL_RATE l != b.fld F.ETH_CFG_RATE (l - 324)) fun b => b.laneRate l (b.fld F.ETH_CFG_RATE (l - 324))
    if served then (b.setLane l 3).clr F.LANE_STATUS_CDR_LOCK l else b.retrain l false

/-- The lane's state while a loopback or a test holds it, and after. -/
def Block.laneTestState (b : Block) (l : Nat) : Block :=
  if b.fld F.LANE_CTRL_POWER l ≠ 0 then b
  else if b.laneTesting l then (b.setLane l 9).updLane l fun s => { s with faulted := false, retrying := false }
  else if b.laneState l = 9 then b.laneBack l false
  else b

/-- A receiver that its lane no longer feeds sees loss of signal (R162, R166). -/
def Block.portLoses (b : Block) (l : Nat) : Block :=
  if laneClass l = .mediaRx ∧ ¬b.laneDelivers l then b.rxLaneLost l else b

/-! ### Eye monitor (R171 to R174) -/

/-- EYE_GO: `EYE_CFG[l]` is written with `GO` (R171, R172, R174). A lane without the second sampler, and a PAM4 lane asked for eye 3, discard the
write (DESIGN CHOICE, log 186). -/
def eyeGo (l v : Nat) (b : Block) : Block :=
  if !laneHasEye l || (b.on F.LANE_STATUS_PAM4 l && F.EYE_CFG_EYE.of v == 3) then b.reject 4 F.LANE_HIST_CFG_REJECTED l
  else
    let b := b.storeWord [F.EYE_CFG_MODE, F.EYE_CFG_EYE, F.EYE_CFG_DWELL, F.EYE_CFG_PHASE, F.EYE_CFG_VOLT] l v
    if F.EYE_CFG_GO.of v = 1 then (b.eyeAbort l).updLane l fun s => { s with eye := true } else b

/-- EYE_MEASUREMENT_END: the measurement of lane `l` ends, with a width and height or the errors at its point; `full` no when
it was cut short (R172, R174). A lane that `LANE_EYE` took out of service returns. -/
def eyeMeasurementEnd (l w h errs : Nat) (full : Bool) (b : Block) : Block :=
  if (b.lane l).eye then
    let b := if full then
        let pt := b.on F.EYE_CFG_MODE l
        let b := b.updLane l fun s => { s with eye := false }
        let b := (b.setFld F.EYE_RESULT_W l (if pt then 0 else w)).setFld F.EYE_RESULT_H l (if pt then 0 else h)
        ((b.setFld F.EYE_RESULT_ERR l (if pt then min errs 32767 else 0)).set F.EYE_RESULT_VALID l).set F.LANE_HIST_EYE_DONE l
      else b.eyeAbort l
    b.laneTestState l
  else b

/-! ### Pattern tests (R165 to R170) -/

/-- A pattern code that a lane of a modulation can use (R165). -/
def patOk (pam4 : Bool) (c : Nat) : Bool := decide (c ≤ 9) && (pam4 || !(c == 5 || c == 6 || c == 7))

/-- The generator or the checker stops: its counts stay, and sync is lost. -/
def Block.patStop (b : Block) (l : Nat) (gen chk : Bool) : Block :=
  let b := b.ite (gen && b.on F.PAT_CFG_GEN_EN l) fun b => (b.clr F.PAT_CFG_GEN_EN l).emit (.generator l none)
  b.ite (chk && b.on F.PAT_CFG_CHK_EN l) fun b => ((b.chkLive l).clr F.PAT_CFG_CHK_EN l).clr F.PAT_CFG_IN_SYNC l

/-- A write of `PAT_CFG[l]` (R165 to R168). -/
def Block.patWrite (b : Block) (l v : Nat) : Block :=
  let pam4 := b.on F.LANE_STATUS_PAM4 l
  if patOk pam4 (F.PAT_CFG_GEN_PAT.of v) && patOk pam4 (F.PAT_CFG_CHK_PAT.of v) then
    let wasGen := b.on F.PAT_CFG_GEN_EN l
    let was := b.on F.PAT_CFG_CHK_EN l
    let genPat := b.fld F.PAT_CFG_GEN_PAT l
    let chkPat := b.fld F.PAT_CFG_CHK_PAT l
    let en := F.PAT_CFG_CHK_EN.of v == 1
    let b := b.ite (was && !en) fun b => b.chkLive l
    let b := b.storeWord [F.PAT_CFG_GEN_EN, F.PAT_CFG_GEN_PAT, F.PAT_CFG_CHK_EN, F.PAT_CFG_CHK_PAT] l v
    let gen := b.on F.PAT_CFG_GEN_EN l && laneClass l != .mediaRx
    let b := b.ite (gen && (!wasGen || genPat != b.fld F.PAT_CFG_GEN_PAT l)) fun b => b.emit (.generator l (some (b.pattern l (b.fld F.PAT_CFG_GEN_PAT l))))
    let b := b.ite (wasGen && !b.on F.PAT_CFG_GEN_EN l && laneClass l != .mediaRx) fun b => b.emit (.generator l none)
    let b := b.ite (!was && en) fun b => b.updLane l fun s => { s with errs := 0, bits := 0 }
    -- a checker set to another pattern seeds itself again
    let b := b.ite (was != en || chkPat != b.fld F.PAT_CFG_CHK_PAT l) fun b => b.clr F.PAT_CFG_IN_SYNC l
    (b.laneTestState l).portLoses l
  else b.reject 4 F.LANE_HIST_CFG_REJECTED l

/-- INJ_ERR: `PAT_CFG[l]` is written with `INJ_ERR`; one transmitted bit is inverted in TEST, and the write is discarded elsewhere (R170). -/
def injErr (l v : Nat) (b : Block) : Block :=
  if b.lifeCycle = 0 then
    (b.patWrite l v).ite (F.PAT_CFG_INJ_ERR.of v == 1 && laneClass l != .mediaRx && b.fld F.LANE_CTRL_POWER l == 0) fun b => b.emit (.inverted l)
  else b

/-- CHECKER_SYNC: 64 bits that follow the checker's pattern without an error (R165, R167). -/
def checkerSync (l : Nat) (bits : List Bool) (b : Block) : Block :=
  if b.on F.PAT_CFG_CHK_EN l ∧ ¬b.on F.PAT_CFG_IN_SYNC l ∧ laneClass l ≠ .mediaTx ∧ b.fld F.LANE_CTRL_POWER l = 0 ∧ bits.length = 64
      ∧ (b.pattern l (b.fld F.PAT_CFG_CHK_PAT l)).follows bits then
    (b.set F.PAT_CFG_IN_SYNC l).set F.LANE_HIST_CHK_SYNC l
  else b

/-- CHECKER_LOST: over a window of 65,536 bits more than one in eight is in error (R167). -/
def checkerLost (l errs units window : Nat) (b : Block) : Block :=
  if b.on F.PAT_CFG_CHK_EN l ∧ b.on F.PAT_CFG_IN_SYNC l ∧ 65536 < 8 * window then
    ((b.chkCount l errs units).clr F.PAT_CFG_IN_SYNC l).set F.LANE_HIST_CHK_LOST l
  else b

/-- The counters of the checker as `CHK_ERR_LO` latches them (R169). -/
def Block.chkLatch (b : Block) (l : Nat) : Block :=
  let s := b.lane l
  ((b.setFld F.CHK_ERR_HI_ERR l (s.errs / 2 ^ 32)).setFld F.CHK_BITS_LO_BITS l s.bits).setFld F.CHK_BITS_HI_BITS l (s.bits / 2 ^ 32)

/-- CHK_ERR_LO_READ: a management core reads `CHK_ERR_LO[l]`, which latches the checker's counters (R169). -/
def chkErrLoRead (l errs units : Nat) (b : Block) : Block :=
  let b := (b.chkCount l errs units).chkLatch l
  b.emit (.read ((b.lane l).errs % 2 ^ 32))

/-! ### Control writes (R140, R142, R161 to R164, R176 to R179, R193) -/

/-- The port of a media lane is enabled or still running, so it sets the rate itself (R193). -/
def Block.laneOwned (b : Block) (l : Nat) : Bool :=
  match laneClass l with
  | .mediaRx => b.on F.SDI_RX_CFG_EN (b.laneRx l) || b.rxState (b.laneRx l) != 0
  | .mediaTx => b.on F.SDI_TX_CFG_EN (b.laneTx l) || b.txState (b.laneTx l) != 0
  | _ => false

/-- A write of `RATE` is discarded (R140, R179, R193). -/
def Block.rateRefused (b : Block) (l r : Nat) : Bool :=
  !laneRateOk l r || b.laneOwned l || (laneClass l == .fabric && b.laneState l == 6)

/-- `RATE` of lane `l` written with another code; on an enabled fabric port the rate in use is set by bring-up only (R179). -/
def Block.rateWrite (b : Block) (l r : Nat) : Block :=
  if r = b.fld F.LANE_CTRL_RATE l then b
  else if b.rateRefused l r then b.reject 4 F.LANE_HIST_CFG_REJECTED l
  else if laneClass l = .fabric ∧ (b.port (lanePort l)).state ≠ 0 then b.setFld F.LANE_CTRL_RATE l r
  else b.laneRate l r

/-- Power state `p` written to lane `l`: training, retraining, an eye measurement or a pattern test on it ends (R174 to R178). A fabric port whose lane
leaves P0, or trains, comes up anew (log 184). -/
def Block.lanePowerTo (b : Block) (l p : Nat) : Block :=
  let was := b.fld F.LANE_CTRL_POWER l
  let b := (b.eyeAbort l).patStop l true true
  let st := b.laneState l
  let b := b.updLane l fun s => { s with faulted := false, trained := false, readyRun := 0 }
  if was = p then
    if trainState st || st == 5 then
      if laneClass l = .fabric then b.portAgain (lanePort l) else (b.setLane l 3).clr F.LANE_STATUS_CDR_LOCK l
    else b.laneTestState l
  else
    let b := b.lanePower l p
    let b := b.ite (p == 2) fun b => b.each [l + 1, l + 2, l + 3] fun b l => b.lanePower l 3
    match laneClass l with
    | .mediaRx => b.ite (p != 0) fun b => b.rxLaneLost l
    | .fabric => b.portAgain (lanePort l)
    | _ => b

/-- LANE_POWER_SET: the `POWER` field of `LANE_CTRL[l]` is written; only lane 0 of a fabric port enters P2 (R176, R178). -/
def lanePowerSet (l v : Nat) (b : Block) : Block :=
  let p := F.LANE_CTRL_POWER.of v
  if laneClass l = .pcie then b
  else if p = 2 ∧ ¬(laneClass l = .fabric ∧ l % 4 = 0) then b.reject 4 F.LANE_HIST_CFG_REJECTED l
  else b.lanePowerTo l p

/-- `LB` of one lane changes: what the lane serves now (R161 to R164, R174). -/
def Block.lbChanged (b : Block) (l new : Nat) : Block :=
  let served := b.laneState l == 6 || b.laneState l == 10
  let b := ((b.eyeAbort l).setFld F.LANE_CTRL_LB l new).farClock l
  if new = 0 ∧ b.fld F.LANE_CTRL_POWER l = 0 ∧ ¬b.laneTesting l then b.laneBack l served
  else (b.laneTestState l).portLoses l

/-- LOOPBACK_SET: the `LB` and `LB_TX_ON` fields of `LANE_CTRL[l]` are written; both lanes of a media port act as one (R161 to R164, R174). -/
def loopbackSet (l v : Nat) (b : Block) : Block :=
  if laneClass l = .pcie then b
  else
    let was := b.fld F.LANE_CTRL_LB l
    let b := b.each (loopLanes l) fun b l => b.storeWord [F.LANE_CTRL_LB_TX_ON] l v
    let new := F.LANE_CTRL_LB.of v
    if new = was then b
    else if new = 3 ∧ ((loopLanes l).any fun l => laneClass l == .mediaRx && decide (8 < b.fld F.LANE_STATUS_RATE_NOW l)) then
      b.reject 4 F.LANE_HIST_CFG_REJECTED l
    else b.each (loopLanes l).reverse fun b l => b.lbChanged l new

/-- A write of `LANE_CTRL[l]` with all its fields, `POWER` first: it ends what runs on the lane, whatever value it has (R178; log 187). -/
def Block.laneCtrlWrite (b : Block) (l v : Nat) : Block :=
  if laneClass l = .pcie then b
  else
    let b := lanePowerSet l v b
    let b := b.rateWrite l (F.LANE_CTRL_RATE.of v)
    let b := b.storeWord [F.LANE_CTRL_AUTO_RETRAIN, F.LANE_CTRL_TX_INV, F.LANE_CTRL_RX_INV, F.LANE_CTRL_RETRY_INT] l v
    retrainWrite l v (loopbackSet l v b)

/-! ### Commands (R181 to R184) -/

/-- The checks every lane command makes first: the range, the unit, the self-test (R182, R183). -/
def Block.laneChecks (b : Block) (l : Nat) (bad : Bool) : List (Bool × Nat) :=
  [(bad || decide (344 < l), St.BAD_ARG), (!b.laneHas l, St.UNIT_ABSENT), (b.laneTested l, St.BUSY_SELFTEST)]

/-- The lane's port is in service (R148, R181): a receiver that is enabled on a locked lane, a transmitter that runs, a fabric port, an Ethernet or
management lane. -/
def Block.laneServing (b : Block) (l : Nat) : Bool :=
  match laneClass l with
  | .mediaRx => b.laneState l == 6 && b.rxState (b.laneRx l) != 0
  | .mediaTx => b.txState (b.laneTx l) != 0
  | .fabric => b.portServes (lanePort l) && ((b.port (lanePort l)).state == 5 || l % 4 == 0)
  | .pcie => false
  | _ => b.laneState l == 6 || b.laneState l == 7

/-- `FORCE` takes the port of lane `l` out of service (R181): a media port and a fabric port are disabled, with the lane left on at P0, and an Ethernet or
management lane goes into TEST (log 188). -/
def Block.laneForce (b : Block) (l : Nat) : Block :=
  if !b.laneServing l then b
  else match laneClass l with
    | .mediaRx => let n := b.laneRx l; ((b.clr F.SDI_RX_CFG_EN n).rxCut n).rxFresh n 0
    | .mediaTx =>
      let n := b.laneTx l
      ((((b.clr F.SDI_TX_CFG_EN n).updTx n fun _ => default).clr F.SDI_TX_STATUS_UNALIGNED n).set F.SDI_TX_HIST_STOPPED n).setFld F.SDI_TX_STATUS_STATE n 0
    | .fabric => (b.portDisable (lanePort l)).lanePower l 0
    | .pcie => b
    | _ => b.setLane l 9

/-- LANE_TEST, 0x0340 (R181). -/
def laneTest (ch : Nat) (p : List Byte) (b : Block) : Block :=
  let l := le p 0 2; let lb := le p 2 1; let fl := le p 3 1; let r := le p 6 1
  let keeps := r == 0xFF || (laneClass l == .fabric && (b.port (lanePort l)).state != 0 && !b.laneServing l)
  let pam4 := lanePam4 l (if keeps then b.fld F.LANE_STATUS_RATE_NOW l else r)
  let bad := !(decide (lb ≤ 3) && decide (fl ≤ 15) && patOk pam4 (le p 4 1) && patOk pam4 (le p 5 1) && (r == 0xFF || laneRateOk l r)
    && zeros p 7 1) || (decide (332 ≤ l) && decide (l ≤ 335))
  b.command ch 0x0340 true (p.length == 16) (b.laneChecks l bad) [(b.laneServing l && !bitOf fl 0, St.NOT_READY)]
    fun b =>
      let b := (b.laneForce l).ite (r != 0xFF) fun b => b.rateWrite l r
      let b := (b.setFld F.PAT_USER_LO_USER l (le p 8 4)).setFld F.PAT_USER_HI_USER l (le p 12 4)
      let b := loopbackSet l (lb * 256 + bit (bitOf fl 1) * 1024) b
      (b.patWrite l (bit (bitOf fl 2) + le p 4 1 * 2 + bit (bitOf fl 3) * 32 + le p 5 1 * 64)).ok ch []

def laneHistFields : List Field :=
  [F.LANE_HIST_LOS, F.LANE_HIST_LOL, F.LANE_HIST_SNR_LOW, F.LANE_HIST_RETRAIN_OK, F.LANE_HIST_RETRAIN_FAIL, F.LANE_HIST_LASTING_SET,
   F.LANE_HIST_CHK_SYNC, F.LANE_HIST_CHK_LOST, F.LANE_HIST_EYE_DONE, F.LANE_HIST_CFG_REJECTED, F.LANE_HIST_TRAIN_DONE]
def laneStatusFields : List Field :=
  [F.LANE_STATUS_STATE, F.LANE_STATUS_SIG_DET, F.LANE_STATUS_CDR_LOCK, F.LANE_STATUS_RATE_NOW, F.LANE_STATUS_PAM4,
   F.LANE_STATUS_LASTING, F.LANE_STATUS_FROZEN]
def txEqFields : List Field := [F.TX_EQ_PRE2, F.TX_EQ_PRE1, F.TX_EQ_MAIN, F.TX_EQ_POST1]
def rxEqFields : List Field := [F.RX_EQ_CTLE, F.RX_EQ_VGA, F.RX_EQ_FREEZE]

/-- The signal-to-noise ratio as it stands: a PAM4 lane's is the channel's, a free value (R155, R185). -/
def Block.snrLive (b : Block) (l : Nat) : Block :=
  if b.on F.LANE_STATUS_PAM4 l ∧ b.on F.LANE_STATUS_SIG_DET l then b.setFree F.LANE_SNR_SNR l else b.clr F.LANE_SNR_SNR l

/-- LANE_GET_STATS, 0x0341: a coherent snapshot, with the errors and units that the checker has counted since its counters were last brought up to
date. -/
def laneGetStats (ch : Nat) (p : List Byte) (errs units : Nat) (b : Block) : Block :=
  let l := le p 0 2; let c := le p 2 1
  b.command ch 0x0341 true (p.length == 4) (b.laneChecks l (decide (3 < c) || !zeros p 3 1)) []
    fun b =>
      let b := ((b.chkCount l errs units).snrLive l).eqLive l
      let s := b.lane l
      let d := b.word4 laneStatusFields l ++ b.word4 laneHistFields l ++ leBytes 8 s.errs ++ leBytes 8 s.bits
        ++ b.word4 [F.LANE_FAULT_CNT_TRANSIENT, F.LANE_FAULT_CNT_LASTING_CNT] l
        ++ leBytes 2 (b.fld F.LANE_SNR_SNR l) ++ [0, 0] ++ b.word4 txEqFields l ++ b.word4 rxEqFields l
      let b := b.ite (bitOf c 0) fun b => (b.clearHist laneHistFields l (2 ^ 32 - 1)).lastingCleared l
      (b.ite (bitOf c 1) fun b => b.updLane l fun s => { s with errs := 0, bits := 0 }).ok ch d

/-- LANE_SET_EQ, 0x0342 (R184): unfreeze, write, freeze, load. -/
def laneSetEq (ch : Nat) (p : List Byte) (b : Block) : Block :=
  let l := le p 0 2; let fl := le p 2 1
  let w := if laneHasPre2 l then le p 4 4 else le p 4 4 / 256 * 256
  let bad := !(decide (fl ≤ 15) && zeros p 3 1 && decide (le p 8 1 ≤ 31) && decide (le p 9 1 ≤ 63) && zeros p 10 2)
    || (decide (332 ≤ l) && decide (l ≤ 343)) || (bitOf fl 1 && bitOf fl 2) || (bitOf fl 0 && !txEqOk w)
  b.command ch 0x0342 true (p.length == 20) (b.laneChecks l bad)
    [(bitOf fl 3 && !bitOf fl 1 && (bitOf fl 2 || !b.on F.RX_EQ_FREEZE l), St.NOT_READY)]
    fun b =>
      let b := b.ite (bitOf fl 2) fun b => (b.clr F.RX_EQ_FREEZE l).freezeNow l
      let b := b.ite (bitOf fl 0) fun b => b.txEqWrite l w
      let b := b.updLane l fun s => { s with wroteEq := le p 8 1 + le p 9 1 * 32, wroteA := le p 12 4, wroteB := le p 16 4 }
      let b := b.ite (bitOf fl 1) fun b => (b.set F.RX_EQ_FREEZE l).freezeNow l
      let b := (b.ite (bitOf fl 3) fun b => b.eqLoad l).eqLive l
      b.ok ch (b.word4 txEqFields l ++ b.word4 rxEqFields l ++ leBytes 4 (b.fld F.RX_DFE_A_TAP1_4 l) ++ leBytes 4 (b.fld F.RX_DFE_B_TAP5_8 l))

/-- LANE_EYE, 0x0343: starts an eye measurement (R172, R181). -/
def laneEye (ch : Nat) (p : List Byte) (b : Block) : Block :=
  let l := le p 0 2; let fl := le p 7 1
  let bad := !(laneHasEye l && decide (le p 2 1 ≤ 2)
    && (b.on F.LANE_STATUS_PAM4 l || le p 2 1 == 0) && decide (16 ≤ le p 3 1) && decide (le p 3 1 ≤ 30) && decide (le p 4 1 ≤ 1) && decide (fl ≤ 1))
  b.command ch 0x0343 true (p.length == 8) (b.laneChecks l bad) [(b.laneServing l && !bitOf fl 0, St.NOT_READY)]
    fun b =>
      let b := b.laneForce l
      (eyeGo l (1 + le p 4 1 * 2 + le p 2 1 * 4 + le p 3 1 * 16 + le p 5 1 * 2 ^ 16 + le p 6 1 * 2 ^ 24) b).answer ch St.ACCEPTED []

end Sys2Proof.Machine
end

