-- ==== Sys2Proof/Machine/Eth.lean ====
section
/-!
DEFINITION. Ethernet ports and IP flows: receive steps, capture queues, merging of legs, transmit numbering, counters and
the commands of R256 (R221 to R259).
-/
namespace Sys2Proof.Machine

def Block.port_e (b : Block) (e : Nat) : EthSt := b.eth.look e
def Block.updEth (b : Block) (e : Nat) (f : EthSt → EthSt) : Block := { b with eth := b.eth.upd e f }
def Block.rxf (b : Block) (i : Nat) : FlowRx := b.flowRx.look i
def Block.updFlowRx (b : Block) (i : Nat) (f : FlowRx → FlowRx) : Block := { b with flowRx := b.flowRx.upd i f }
def Block.txf (b : Block) (i : Nat) : FlowTx := b.flowTx.look i
def Block.updFlowTx (b : Block) (i : Nat) (f : FlowTx → FlowTx) : Block := { b with flowTx := b.flowTx.upd i f }

/-- Counter `c` of port `e` grows by `k`; the counters are 64 bits wide (R233). -/
def Block.ethCount (b : Block) (e c k : Nat) : Block :=
  b.updEth e fun s => { s with cnt := s.cnt.put c ((s.cnt.look c + k) % 2 ^ 64) }


/-- The lane of port `e` (R221). -/
def ethLane (e : Nat) : Nat := if e = 8 then 344 else 324 + e

/-- A FEC code that the rate allows (R221, R223). -/
def ethFecOk (e rate fec : Nat) : Bool :=
  if e = 8 then rate == 0 && fec == 0
  else (rate == 0 && fec == 0) || (rate == 1 && decide (fec ≤ 1)) || (rate == 2 && fec == 2)

/-- The payload rate of port `e` in bit/s. -/
def Block.ethBits (b : Block) (e : Nat) : Nat :=
  if e = 8 then 1000000000 else match b.fld F.ETH_CFG_RATE e with
    | 0 => 10000000000 | 1 => 25000000000 | _ => 100000000000

/-- The flow index of a kind's flow `k` (R259). -/
def flowIndex (kind k : Nat) : Nat := if kind ≤ 2 then k else if kind ≤ 4 then 128 + k else 640 + k
/-- The size of a kind's index space (R234). -/
def flowSpace (kind : Nat) : Nat := if kind = 3 ∨ kind = 4 then 512 else 128

/-! ### Capture queue (R229) -/

/-- A frame for the firmware; a full queue drops it whole. -/
def Block.capture (b : Block) (e : Nat) (c : CapFrame) : Block :=
  if 512 ≤ (b.port_e e).capq.length then (b.ethCount e 8 1).set F.ETH_HIST_CAPQ_FULL e
  else (b.updEth e fun s => { s with capq := s.capq ++ [c] }).emit (.captured e)

/-- The bin of a destination address in the hash table (R227). -/
def ethBin (dest : List Byte) : Nat := crc32 (padTo 6 dest) / 2 ^ 20

/-- Bit `n` of the hash table of port `e`. -/
def Block.hashed (b : Block) (e : Nat) (dest : List Byte) : Bool :=
  b.bitAt F.ETH_HASH_BINS (128 * e + ethBin dest / 32) (ethBin dest % 32)

/-- The unicast address of port `e`, byte 0 in the low byte. -/
def Block.ethMac (b : Block) (e : Nat) : List Byte := leBytes 4 (b.fld F.ETH_MAC_LO_MAC e) ++ leBytes 2 (b.fld F.ETH_MAC_HI_MAC e)

def isGroup (dest : List Byte) : Bool := (dest.headD 0).toNat % 2 == 1
def isBroadcast (dest : List Byte) : Bool := dest == List.replicate 6 255

/-- Step 3 of R225. -/
def Block.ethForUs (b : Block) (e : Nat) (dest : List Byte) : Bool :=
  if isBroadcast dest then b.on F.ETH_CFG_BCAST_EN e
  else if isGroup dest then b.hashed e dest
  else dest == b.ethMac e

/-- A receive flow shows loss of signal; a video flow's stall sees it (R239, R242). -/
def Block.flowLoss (b : Block) (i : Nat) : Block :=
  (b.emit (.flowLost i)).ite (decide (i < 128)) fun b => b.stallLoss (128 + i)

/-! ### Merging the legs (R239 to R243) -/

/-- The 32-bit sequence number of a packet: kind 0 as its payload header gives it, else the value nearest the last (R240). -/
def extendedSeq (kind last seq : Nat) : Nat :=
  if kind = 0 then seq % 2 ^ 32
  else
    let d := (seq % 65536 + 65536 - last % 65536) % 65536
    if d < 32768 then (last + d) % 2 ^ 32 else (last + d + 2 ^ 32 - 65536) % 2 ^ 32

/-- `s` precedes `t` in the 32-bit sequence space. -/
def seqBefore (s t : Nat) : Bool := s != t && decide (2 ^ 31 ≤ (s + 2 ^ 32 - t % 2 ^ 32) % 2 ^ 32)

/-- The number of packets from `s` to before `t`. -/
def seqSpan (s t : Nat) : Nat := (t + 2 ^ 32 - s % 2 ^ 32) % 2 ^ 32

/-- Pixels in an active line, active lines and packets per line of a format (R246). -/
def fmtPixels (c : Nat) : Nat := fmtW c
def fmtActive (c : Nat) : Nat := fmtH c
def fmtPackets (c : Nat) : Nat := (fmtPixels c + 479) / 480 * fmtActive c

/-- Words in a line of the serial data structure: two for each sample of the total line (ST 125, ST 296, ST 274). -/
def fmtLineWords (c : Nat) : Nat :=
  if c = 1 then 1716 else if c = 2 then 1728
  else if c = 3 then 3960 else if c ≤ 5 then 3300
  else match fmtRate c with
    | 0 => 5500 | 1 => 5500 | 2 => 5280 | 3 => 4400 | 4 => 4400 | 5 => 5280 | _ => 4400

/-- Bytes of a frame of the serial stream (R249). -/
def fmtStreamBytes (c : Nat) : Nat := fmtLineWords c * fmtWireLines c * 10 / 8

/-- The rows of a frame or field of a format, fields being `split`. -/
def rowsShown (c : Nat) (split : Bool) : Nat := if fmtInterlaced c || split then fmtActive c / 2 else fmtActive c

/-- Pixels of a sample row part: two to each pixel group of 5 bytes. -/
def partPixels (r : RowPart) : Nat := r.data.length / 5 * 2

/-- A sample row part lies outside the raster of a format (R242). -/
def partOutside (c : Nat) (r : RowPart) : Bool := decide (rowsShown c r.field2 ≤ r.row) || decide (fmtPixels c < r.offset + partPixels r)

/-- What tells the frames of a flow apart: the timestamp, and for kind 2, whose datagrams each have their own, the frame count (R240, R249). -/
def pktKey (kind : Nat) (p : RtpPkt) : Nat := if kind = 2 then p.count else p.ts
def pktField2 (p : RtpPkt) : Bool := p.rows.any RowPart.field2
/-- The packet is the first of its frame, as its payload headers show. -/
def pktFirst (kind : Nat) (p : RtpPkt) : Bool := if kind = 0 then p.rows.any fun r => r.row == 0 && r.offset == 0 && !r.field2 else p.first

/-- The frame that a packet belongs to: one begun under its key, for a second field that of the field before it, or one that it begins. -/
def FlowRx.frameKey (f : FlowRx) (kind c : Nat) (p : RtpPkt) : Nat :=
  let k := pktKey kind p
  let second (k0 : Nat) : Bool :=
    kind == 0 && fmtInterlaced c && pktField2 p && decide (0 < seqSpan k0 k) && decide (seqSpan k0 k < 90000 * rateDen (fmtRate c) / rateNum (fmtRate c))
  match (f.cur.toList ++ f.later).find? fun q => q.1 == k || second q.1 with
  | some q => q.1
  | none => k

/-- The packets placed of the frame that closes next. -/
def FlowRx.frame (f : FlowRx) : List Placed := match f.cur with
  | some (k, _) => f.seen.filter fun q => q.key == k
  | none => []

/-- The sequence number of the first packet of the frame that closes next, where it is known: the packet that says so, or the one that follows the frame
closed before. -/
def FlowRx.start (f : FlowRx) : Option Nat :=
  ((f.frame.find? Placed.first).map Placed.seq) <|> (match f.base with
    | some bs => if f.frame.any fun q => q.seq == bs then some bs else none
    | none => none)

/-- The packets of the current frame from `s` to before `t`. -/
def FlowRx.between (f : FlowRx) (s t : Nat) : Nat := (f.frame.filter fun q => !seqBefore q.seq s && seqBefore q.seq t).length

/-- The marker of the frame that closes next, when every packet from its first to the marker has been placed (R241). -/
def FlowRx.complete (f : FlowRx) : Option Nat :=
  match f.start, f.frame.find? Placed.marker with
  | some s, some m => if f.between s (m.seq + 1) = seqSpan s m.seq + 1 then some m.seq else none
  | _, _ => none

/-- A pixel group's four samples of 10 bits, each as two bytes, low byte first (R277). -/
def unpackGroup (g : List Byte) : List Byte :=
  let v := (g.take 5).foldl (fun a x => a * 256 + x.toNat) 0
  leBytes 2 (v / 2 ^ 30 % 1024) ++ leBytes 2 (v / 2 ^ 20 % 1024) ++ leBytes 2 (v / 2 ^ 10 % 1024) ++ leBytes 2 (v % 1024)

def unpackGroups : Nat → List Byte → List Byte
  | 0, _ => []
  | n + 1, l => unpackGroup l ++ unpackGroups n (l.drop 5)

/-- A row of a frame as its packets give it; pixels that none gave are black (R240, R270). -/
def placedRow (c : Nat) (ps : List RowPart) (field2 : Bool) (row : Nat) : List Byte :=
  (ps.filter fun r => r.field2 == field2 && r.row == row).foldl
    (fun l r => l.take (4 * r.offset) ++ unpackGroups (r.data.length / 5) r.data ++ l.drop (4 * (r.offset + partPixels r))) (blackBytes (4 * fmtPixels c))

/-- The frame that closes: the rows of kind 0 in transmission order, the codestream of kind 1 in order of its packets. -/
def FlowRx.picture (f : FlowRx) (kind c : Nat) : List Byte :=
  if kind = 0 then
    let ps := (f.frame.map Placed.rows).flatten
    let split := fmtInterlaced c || ps.any RowPart.field2
    let rows (second : Bool) : List Byte := ((List.range (rowsShown c split)).map fun r => placedRow c ps second r).flatten
    if split then rows false ++ rows true else rows false
  else if kind = 1 then
    match f.start with
    | some s => (((List.range (seqSpan s (f.last + 1))).filterMap fun k => f.frame.find? fun q => q.seq == (s + k) % 2 ^ 32).map Placed.payload).flatten
    | none => (f.frame.map Placed.payload).flatten
  else []

/-- The frame of flow `i` that closes next is delivered; packets before `t` are done with (R241, R243). -/
def Block.closeFrame (b : Block) (i t lost : Nat) (whole : Bool) : Block :=
  let f := b.rxf i
  let kind := b.fld F.IPM_RX_CFG_KIND i
  let at_ := (f.cur.getD (0, 0)).2
  let ts := ((f.frame.find? Placed.first <|> f.frame.head?).map Placed.ts).getD 0
  let b := b.setFld F.IPM_RX_TS_TS i ts
  let b := match f.redAt, f.blueAt with
    | some r, some u => b.setSfld F.IPM_RX_SKEW_SKEW i ((Int.ofNat u - Int.ofNat r) / Int.ofNat (nsUnit * 1000))
    | _, _ => b
  let b := b.ite (!whole) fun b => (b.bump F.IPM_RX_LOST_CNT_COUNT i lost).set F.IPM_RX_HIST_INCOMPLETE i
  let c := b.fld F.IPM_RX_CFG_FORMAT i
  let b := b.ite (b.fld F.IPM_RX_STATUS_STATE i == 2) fun b => (b.emit (.flowFrame i ts (at_ / nsUnit) whole)).updFlowRx i fun f => { f with
    given := some ⟨c, whole, f.stamp, f.atc, f.anc, none, some (ts, at_ / nsUnit, f.picture kind c)⟩ }
  b.updFlowRx i fun f => { f with
    base := some t, seen := f.seen.filter (fun q => !seqBefore q.seq t && some q.key != f.cur.map Prod.fst), cur := f.later.head?
    later := f.later.drop 1, redAt := none, blueAt := none, anc := [], stamp := none, atc := none }

/-- Frames that are whole close complete, in order (R241). -/
def Block.closeWhole (b : Block) (i : Nat) : Block :=
  b.each (List.range ((b.rxf i).later.length + 1)) fun b _ => match (b.rxf i).complete with
    | some m => b.closeFrame i ((m + 1) % 2 ^ 32) 0 true
    | none => b

/-- The frame being watched showed a raster other than that of the flow's format (R242): a packet outside it, or, once its last packet has come, fewer
rows or pixels; for kind 2 another number of datagrams. -/
def FlowRx.rasterWrong (f : FlowRx) (kind c : Nat) : Bool :=
  f.rasterBad || match f.ends, f.opens with
    | some m, o =>
      if kind = 2 then
        match o with
        | some s => decide (seqSpan s m + 1 < fmtStreamBytes c / 1376) || decide ((fmtStreamBytes c + 1375) / 1376 < seqSpan s m + 1)
        | none => false
      else f.shownRows != rowsShown c f.shownField2 || f.shownPixels != fmtPixels c
    | none, _ => false

/-- The raster that each frame shows (R242): two that differ in a row put the flow in `FORMAT_ERR`, one that matches ends it. -/
def Block.watchRaster (b : Block) (i : Nat) (p : RtpPkt) : Block :=
  let kind := b.fld F.IPM_RX_CFG_KIND i
  let c := b.fld F.IPM_RX_CFG_FORMAT i
  let f := b.rxf i
  let out := p.rows.any (partOutside c)
  let note (f : FlowRx) : FlowRx := { f with
    rasterBad := f.rasterBad || out
    shownRows := p.rows.foldl (fun a r => max a (r.row + 1)) f.shownRows
    shownPixels := p.rows.foldl (fun a r => max a (r.offset + partPixels r)) f.shownPixels
    shownField2 := f.shownField2 || pktField2 p
    opens := if pktFirst kind p then some (p.seq % 65536) else f.opens
    ends := if p.marker then some (p.seq % 65536) else f.ends }
  if f.rasterKey = some (pktKey kind p) then b.updFlowRx i note
  else
    let run := if f.rasterKey.isNone then 0 else if f.rasterWrong kind c then f.badRun + 1 else 0
    let b := b.updFlowRx i fun f => note { f with
      rasterKey := some (pktKey kind p), rasterBad := false, shownRows := 0, shownPixels := 0, shownField2 := false, opens := none, ends := none, badRun := run }
    if 2 ≤ run ∧ b.fld F.IPM_RX_STATUS_STATE i ≠ 3 then
      ((b.setFld F.IPM_RX_STATUS_STATE i 3).set F.IPM_RX_HIST_FMT_ERR i).flowLoss i
    else if f.rasterKey.isSome ∧ run = 0 ∧ b.fld F.IPM_RX_STATUS_STATE i = 3 then b.setFld F.IPM_RX_STATUS_STATE i 2
    else b

/-- An ancillary packet of video flow `v`, or of an ancillary flow associated with it (R199, R234, R237, R281): a stamp and a time code go to the stall
engine, the rest into the ancillary store of the frame being received; a flow has no `ANC_MODE`, and passes all (log 191). -/
def Block.flowAnc (b : Block) (v : Nat) (k : AncKind) (bad : Bool) : Block :=
  let store (p : AncPkt) (b : Block) : Block := b.updFlowRx v fun f => { f with anc := ancAdd f.anc p }
  match k with
  | .stamp d => b.updFlowRx v fun f => { f with stamp := f.stamp <|> some (!bad, d) }
  | .atc fr second sc mi ho df vitc p =>
    let ltc := match (b.rxf v).atc with
      | some w => F.SDI_RX_ATC_VITC.of w == 0
      | none => false
    if bad then b
    else (store p b).ite (!(vitc && ltc)) fun b => b.updFlowRx v fun f => { f with atc := some (atcWord (b.fld F.IPM_RX_CFG_FORMAT v) fr second sc mi ho df vitc) }
  | .other p => if bad then b else store p b
  | .audio g (some sync) =>
    if bad then b else b.updFlowRx v fun f => { f with muted := if sync then withoutBit f.muted g else withBit f.muted g }
  | _ => b

/-- A big-endian sample of two's complement. -/
def beSample (d : List Byte) : Int := les d.reverse 0 d.length

/-- The samples of an audio packet (R234): L16 or L24 of kind 3, the first in the place of 24 bits, and the 24 bits of each AES3 subframe of kind 4. -/
def packetSamples (kind ch per : Nat) (d : List Byte) : List (List Int) :=
  let w := if kind = 4 then 4 else if d.length = 2 * ch * per then 2 else 3
  (List.range (d.length / (w * ch))).map fun i => (List.range ch).map fun c =>
    let s := bytesAt d (w * (ch * i + c)) w
    if w = 2 then 256 * beSample s else if w = 3 then beSample s else beSample (s.drop 1)

/-- FLOW_PACKET_MERGE: packet `p` of flow `i` arrives on a leg (R240 to R242). A packet of another payload type is dropped, whatever the kind (log 192). -/
def Block.mergePacket (b : Block) (i : Nat) (blue : Bool) (p : RtpPkt) : Block :=
  let kind := b.fld F.IPM_RX_CFG_KIND i
  let c := b.fld F.IPM_RX_CFG_FORMAT i
  let b := b.set (if blue then F.IPM_RX_STATUS_BLUE_UP else F.IPM_RX_STATUS_RED_UP) i
  let b := b.ite (b.fld F.IPM_RX_STATUS_STATE i == 1) fun b => b.setFld F.IPM_RX_STATUS_STATE i 2
  let f := b.rxf i
  let wrongPt := f.pt != 255 && f.pt != p.pt
  let b := b.ite ((kind == 0 || kind == 2) && !wrongPt) fun b => b.watchRaster i p
  if wrongPt ∨ (kind = 0 ∧ p.rows.any (partOutside c)) then b.bump F.IPM_RX_FMT_CNT_COUNT i 1
  else
    let f := b.rxf i
    let s := if f.base.isNone then p.seq % 2 ^ 32 else extendedSeq kind f.last p.seq
    let bs := f.base.getD s
    let b := b.ite (f.base.isNone) fun b => b.updFlowRx i fun f => { f with base := some s }
    if seqBefore s bs then (b.bump F.IPM_RX_LATE_CNT_COUNT i 1).set F.IPM_RX_HIST_LATE_PKT i
    else
      let key := f.frameKey kind c p
      let opens := (s == bs || pktFirst kind p) && (f.cur.isNone || f.cur.map Prod.fst == some key)
      let b := b.ite opens fun b => b.updFlowRx i fun f =>
        if blue then { f with blueAt := f.blueAt <|> some b.time.now } else { f with redAt := f.redAt <|> some b.time.now }
      if f.seen.any (fun q => q.seq % 65536 == s % 65536) then b.bump F.IPM_RX_DUP_CNT_COUNT i 1
      else
        let marker := p.marker && !(kind == 0 && fmtInterlaced c && !pktField2 p)
        let b := b.updFlowRx i fun f => { f with last := s, seen := f.seen ++ [⟨s, key, p.ts, marker, pktFirst kind p, pktField2 p, p.rows, p.payload⟩] }
        let b := b.bump F.IPM_RX_PKT_CNT_COUNT i 1
        if kind ≤ 2 then
          let b := b.updFlowRx i fun f => match f.cur with
            | none => { f with cur := some (key, b.time.now) }
            | some (k, _) => if k = key ∨ f.later.any (fun q => q.1 == key) then f else { f with later := f.later ++ [(key, b.time.now)] }
          let b := b.ite (kind == 2) fun b => b.each p.anc fun b a => b.flowAnc i a.1 a.2
          b.closeWhole i
        else
          -- an audio or ancillary packet is placed by itself; its window keeps half the sequence space of R240
          let low := (s + 2 ^ 32 - 32768) % 2 ^ 32
          let b := b.updFlowRx i fun f => { f with
            seen := f.seen.filter (fun q => !seqBefore q.seq low), base := f.base.map fun bs => if seqBefore bs low then low else bs }
          let b := b.ite (kind == 5) fun b => b.each p.anc fun b a => b.flowAnc f.assoc a.1 a.2
          -- samples for the matrix (R476)
          let ch := if kind = 4 then 2 * f.format else f.format
          let b := b.ite (decide (kind = 3 ∨ kind = 4)) fun b => b.updFlowRx i fun f => { f with
            audio := f.audio ++ (packetSamples kind ch (if f.ptime = 0 then 48 else 6) p.payload).zipIdx.map fun x => ((p.ts + x.2) % 2 ^ 32, x.1) }
          (b.setFld F.IPM_RX_TS_TS i p.ts).emit (.flowPacket i p.ts)

/-- The frame of flow `i` under way closes incomplete, ending before `t`: the packets missing of it are counted (R241). -/
def Block.closeShort (b : Block) (i t : Nat) : Block :=
  let f := b.rxf i
  let s := f.start.getD (f.base.getD t)
  b.closeFrame i t (seqSpan s t - f.between s t) false

/-- What a receive flow starts anew with. -/
def FlowRx.restarted (f : FlowRx) : FlowRx :=
  { (default : FlowRx) with red := f.red, blue := f.blue, vid := f.vid, pt := f.pt, ptime := f.ptime, assoc := f.assoc, rate := f.rate, format := f.format }

/-- LEG_TIMEOUT: a leg of flow `i` has delivered nothing for `LEG_TMO` (R239). With both lost, the frame in progress is incomplete (R196), and merging
starts anew with the next packet (log 190). -/
def legTimeout (i : Nat) (blue : Bool) (b : Block) : Block :=
  let up := if blue then F.IPM_RX_STATUS_BLUE_UP else F.IPM_RX_STATUS_RED_UP
  if b.on up i then
    let b := (b.clr up i).set (if blue then F.IPM_RX_HIST_BLUE_LOST else F.IPM_RX_HIST_RED_LOST) i
    if b.on F.IPM_RX_STATUS_RED_UP i ∨ b.on F.IPM_RX_STATUS_BLUE_UP i then b
    else
      let b := b.ite (b.rxf i).cur.isSome fun b => b.closeShort i ((b.rxf i).last + 1)
      let b := b.updFlowRx i fun f => { f.restarted with given := f.given }
      ((b.set F.IPM_RX_HIST_FLOW_LOST i).setFld F.IPM_RX_STATUS_STATE i 1).flowLoss i
  else b

/-- MERGE_WIN_EXPIRY: the frame of flow `i` closes incomplete (R241). -/
def mergeWinExpiry (i : Nat) (b : Block) : Block :=
  let f := b.rxf i
  match f.cur, f.later.head? with
  | some _, some (next, _) =>
    let later := f.seen.filter fun q => q.key == next
    let low := later.foldl (fun a q => if seqBefore q.seq a then q.seq else a) ((later.head?.map Placed.seq).getD f.last)
    let t := match f.frame.find? Placed.marker with
      | some m => (m.seq + 1) % 2 ^ 32
      | none => low
    (b.closeShort i t).closeWhole i
  | _, _ => b

/-! ### Receiving a frame (R225) -/

/-- A leg of receive flow `i` that takes a datagram (R228, R239). -/
def Block.legTakes (b : Block) (i : Nat) (blue : Bool) (dst src : List Byte) (port vid : Nat) : Bool :=
  let f := b.rxf i
  let l := if blue then f.blue else f.red
  b.on F.IPM_RX_CFG_EN i && b.on (if blue then F.IPM_RX_CFG_BLUE_EN else F.IPM_RX_CFG_RED_EN) i
    && l.group == dst && (l.source.all (· == 0) || l.source == src) && l.udp == port && f.vid == vid

/-- The enabled receive flow of port `e`'s pair that a datagram matches (R225). -/
def Block.flowFor (b : Block) (e : Nat) (dst src : List Byte) (port vid : Nat) : Option Nat :=
  if e = 8 then none
  else (List.range 768).find? fun i => b.fld F.IPM_RX_CFG_PAIR i == e / 2 && b.legTakes i (e % 2 == 1) dst src port vid

/-- A PTP message: UDP to port 319, or to 320, where the client of R36 has its general messages (log 193), or Ethertype 0x88F7 (R113). -/
def bodyPtp (y : EthBody) : Bool := match y with
  | .udp _ _ port _ _ => port == 319 || port == 320
  | .other t => t == 0x88F7
  | .fragment => false

/-- A frame with its single tag removed (R228). -/
def untag (f : EthFrame) : EthFrame := if f.tags = 1 then { f with tags := 0, vid := 0, len := f.len - 4 } else f

/-- Steps 5 to 8 of R225. -/
def Block.ethDeliver (b : Block) (e : Nat) (f : EthFrame) : Block :=
  let vid := if f.tags = 1 then f.vid else 0
  let cap (b : Block) : Block := b.capture e ⟨untag f, b.time.now, false, false, false, bodyPtp f.body⟩
  match f.body with
  | .udp dst src port multicast rtp =>
    match b.flowFor e dst src port vid with
    | some i => b.mergePacket i (e % 2 == 1) rtp
    | none => if multicast && !bodyPtp f.body then b.ethCount e 7 1 else cap b
  | .fragment => b.ethCount e 7 1
  | .other _ => cap b

/-- ETH_FRAME_RX: frame `f` arrives at port `e` (R224 to R229). -/
def ethFrameRx (e : Nat) (f : EthFrame) (b : Block) : Block :=
  if b.ethHas e && b.on F.ETH_STATUS_LINK_UP e then
    let b := b.returned [ethLane e] []
    let b := (b.ethCount e 12 f.fecCorr).ethCount e 13 f.fecUncorr
    let b := b.ite (f.fecUncorr != 0) fun b => b.set F.ETH_HIST_FEC_UNCORR e
    let flag (fcs len multi : Bool) (b : Block) : Block :=
      if b.on F.ETH_CFG_BAD_TO_FW e then b.capture e ⟨f, b.time.now, fcs, len, multi, bodyPtp f.body⟩ else b
    if (if e = 8 then 32768 else 262144) < f.waiting + f.len then (b.ethCount e 5 1).set F.ETH_HIST_RX_OVF e
    else if f.fcsBad then flag true false false (b.ethCount e 3 1)
    else if f.len < 64 ∨ b.fld F.ETH_CFG_MAX_FRAME e < f.len then flag false true false (b.ethCount e 4 1)
    else
      let b := ((b.ethCount e 0 f.len).ethCount e 1 1).ite (isGroup f.dest) fun b => b.ethCount e 2 1
      if ¬b.ethForUs e f.dest then b.ethCount e 6 1
      else if 1 < f.tags then flag false false true (b.ethCount e 7 1)
      else b.ethDeliver e f
  else b

/-- ETH_LINK_CHANGE: the link of port `e` comes up, its lane in service and FEC aligned, or goes down (R224). -/
def ethLinkChange (e : Nat) (up : Bool) (b : Block) : Block :=
  let was := b.on F.ETH_STATUS_LINK_UP e
  if up then
    if b.ethHas e ∧ ¬was ∧ b.on F.ETH_CFG_EN e ∧ b.laneState (ethLane e) = 6 then
      ((b.set F.ETH_STATUS_LINK_UP e).setTo F.ETH_STATUS_FEC_LOCK e (b.fld F.ETH_CFG_FEC e != 0)).set F.ETH_HIST_LINK_GAINED e
    else b
  else if was then ((b.clr F.ETH_STATUS_LINK_UP e).clr F.ETH_STATUS_FEC_LOCK e).set F.ETH_HIST_LINK_LOST e
  else b

/-- The link of the port on lane `l` goes down with the lane (R224). -/
def Block.ethSettle (b : Block) (l : Nat) : Block :=
  let e := if l = 344 then 8 else l - 324
  b.ite (b.laneState l != 6) fun b => ethLinkChange e false b

/-! ### Sending (R230 to R232, R244 to R253) -/

/-- This member is the bow of its twin (R301). -/
def Block.isBow (b : Block) : Bool := b.dev.fabId % 2 == 0

/-- The device has released (R627) and is in step (R547), and no cause that stops its legs holds (R536). -/
def Block.sends (b : Block) : Bool :=
  let s := b.fld F.TWIN_STATUS_STATE 0
  b.released && !(s == 2 || s == 4) && b.fld F.TWIN_HB_CAUSE_CAUSE 0 / 4 == 0

/-- This device sends the red or the blue leg of transmit flow `i` (R244). -/
def Block.legOn (b : Block) (i : Nat) (blue : Bool) : Bool :=
  b.sends && (if b.on F.IPM_TX_CFG_LEGS i then b.on F.TWIN_STATUS_ROLE 0 else b.isBow != blue)

/-- The format that times transmit flow `i`: its own, or its video flow's (R248). -/
def Block.flowFmt (b : Block) (i : Nat) : Nat :=
  if b.fld F.IPM_TX_CFG_KIND i = 5 then b.fld F.IPM_TX_CFG_FORMAT (b.txf i).assoc else b.fld F.IPM_TX_CFG_FORMAT i

/-- The format's frame at timeline frame `n` (R68, R246). -/
def Block.fmtFrame (b : Block) (c n : Nat) : Nat := if fmtHalf (b.fld F.TL_CFG_RATE (fmtTl c)) c then n / 2 else n

/-- Packet `j` of a frame or field that starts at timeline frame `n` is one of flow `i`'s (R68, R246 to R249): frames of a format at half rate start on
even timeline frames, its second fields on odd ones; for kind 2 `j` is the datagram. -/
def Block.pktDue (b : Block) (i n j : Nat) : Bool :=
  let c := b.flowFmt i
  let half := fmtHalf (b.fld F.TL_CFG_RATE (fmtTl c)) c
  let on_ := b.tlOn (fmtTl c)
  match b.fld F.IPM_TX_CFG_KIND i with
  | 0 => on_ && decide (j < fmtPackets c) && (!half || (if fmtInterlaced c then (n % 2 == 0) == decide (j < fmtPackets c / 2) else n % 2 == 0))
  | 1 => on_ && (!half || fmtInterlaced c || n % 2 == 0)
  | 2 => on_ && (!half || n % 2 == 0) && 1376 * j / fmtStreamBytes c == b.fmtFrame c n
  | 5 => on_ && decide (j ≤ b.fld F.IPM_TX_CFG_ANC_PKTS i) && (!half || fmtInterlaced c || n % 2 == 0)
  | _ => true

/-- The packet is the first of a frame (R253). -/
def Block.pktOpens (b : Block) (i n j : Nat) : Bool :=
  let c := b.flowFmt i
  match b.fld F.IPM_TX_CFG_KIND i with
  | 2 => j == (b.fmtFrame c n * fmtStreamBytes c + 1375) / 1376
  | 3 => true
  | 4 => true
  | _ => j == 0

/-- The packet is the last of a frame or field (R246, R248, R249); a kind 1 unit goes in packets of 1,200 bytes (log 194). -/
def Block.pktLast (b : Block) (i j units : Nat) : Bool :=
  let c := b.flowFmt i
  match b.fld F.IPM_TX_CFG_KIND i with
  | 0 => j + 1 == fmtPackets c || (fmtInterlaced c && 2 * (j + 1) == fmtPackets c)
  | 1 => decide (units ≤ 1200 * (j + 1))
  | 2 => decide (1376 * j / fmtStreamBytes c < (1376 * j + 1376) / fmtStreamBytes c)
  | 5 => j == b.fld F.IPM_TX_CFG_ANC_PKTS i
  | _ => true

/-- The numbering of packet `j` of timeline frame `n` in flow `i`: extended sequence number and timestamp (R245 to R249). For kinds 3 and 4 `n` is S / n
of R247; for kind 2 `j` is the datagram. The spec numbers no kind 1 packet. -/
def Block.flowNumbers (b : Block) (i n j : Nat) : Nat × Nat × Block :=
  let c := b.flowFmt i
  let k := fmtTl c
  let ts := n * 90000 * b.tlDen k / b.tlNum k % 2 ^ 32
  match b.fld F.IPM_TX_CFG_KIND i with
  | 0 => ((b.fmtFrame c n * fmtPackets c + j) % 2 ^ 32, ts, b)
  | 1 => ((b.fresh).1 % 2 ^ 32, ts, (b.fresh).2)
  | 2 =>
    let w := fmtStreamBytes c
    (j % 65536, 1376 * j * 27000000 * rateDen (fmtRate c) / (w * rateNum (fmtRate c)) % 2 ^ 32, b)
  | 5 =>
    let q := if fmtInterlaced c then n else b.fmtFrame c n
    ((q * (b.fld F.IPM_TX_CFG_ANC_PKTS i + 1) + j) % 2 ^ 32, ts, b)
  | _ => (n % 65536, n * (if b.on F.IPM_TX_CFG_PTIME i then 6 else 48) % 2 ^ 32, b)

/-- Octets of an ancillary packet in a kind 5 payload (ST 2110-40): a header of 4, and its words at 10 bits, in 4s. -/
def ancOctets (p : AncPkt) : Nat := 4 + ((p.data.length + 4) * 10 + 31) / 32 * 4

/-- Octets of a packet's RTP payload, its payload header included. -/
def bodyOctets (kind : Nat) (y : PktBody) : Nat := match y with
  | .row r => 8 + r.data.length
  | .bytes d => 4 + d.length
  | .serial _ _ => 8 + 1376
  | .audio l => (l.map List.length).sum * (if kind = 4 then 4 else 3)
  | .anc ps st => 8 + (ps.map ancOctets).sum + (if st.isEmpty then 0 else 4 + (st.length * 10 + 31) / 32 * 4)

/-- The octets that a packet takes on the wire beside its payload: preamble, gap, Ethernet, IP, UDP and RTP headers, FCS. -/
def wireOverhead (vlan : Bool) (dest : List Byte) : Nat :=
  8 + 12 + 14 + (if vlan then 4 else 0) + (if dest.take 12 = List.replicate 10 0 ++ [255, 255] then 20 else 40) + 8 + 12 + 4

/-- One leg of a packet of flow `i` at its port: dropped and counted with the link down or 2 µs late (R224, R231, R232). -/
def Block.sendLeg (b : Block) (i : Nat) (blue : Bool) (seq ts late due : Nat) (marker : Bool) (y : PktBody) : Block :=
  let e := 2 * b.fld F.IPM_TX_CFG_PAIR i + bit blue
  let f := b.txf i
  let vlan := b.on F.IPM_TX_CFG_VLAN_EN i
  let dst := if blue then f.blueDest else f.redDest
  if ¬b.on F.ETH_STATUS_LINK_UP e then b.ethCount e 11 1
  else if 2000 < late then ((b.ethCount e 11 1).bump F.IPM_TX_DROP_CNT_COUNT i 1).set F.IPM_TX_HIST_PKT_DROP i
  else
    let len := bodyOctets (b.fld F.IPM_TX_CFG_KIND i) y + wireOverhead vlan dst - 20
    let b := ((b.ethCount e 9 len).ethCount e 10 1).bump F.IPM_TX_PKT_CNT_COUNT i 1
    let p : PktSent := { seq := seq, ts := ts, marker := marker, pt := f.pt, ssrc := b.fld F.IPM_TX_SSRC_SSRC i, tag := if vlan then some f.tag else none
                         dscp := f.dscp, ttl := f.ttl, src := (b.port_e e).ip, dst := dst, srcUdp := f.srcUdp, dstUdp := if blue then f.blueUdp else f.redUdp, body := y, due := due }
    let b := b.ite (!f.began) fun b => (b.set F.IPM_TX_HIST_STARTED i).updFlowTx i fun f => { f with began := true }
    (b.setFld F.IPM_TX_SEQ_SEQ i seq).ite (b.laneSends (ethLane e)) fun b => b.emit (.mediaPacket e i p)

/-- The flow goes off after the last packet of its frame (R253). -/
def Block.flowTxEnd (b : Block) (i : Nat) (last : Bool) : Block :=
  if last ∧ (b.txf i).stopping then
    (((b.setFld F.IPM_TX_STATUS_STATE i 0).clr F.IPM_TX_STATUS_RED_ON i).clr F.IPM_TX_STATUS_BLUE_ON i).set F.IPM_TX_HIST_STOPPED i
      |>.updFlowTx i fun f => { f with stopping := false }
  else b

/-- A frame of flow `i` starts: a video flow's source is judged (R211, R252), and a starting flow runs (R253). -/
def Block.flowFrameStart (b : Block) (i : Nat) : Block :=
  let st := b.fld F.IPM_TX_STATUS_STATE i
  let bare := decide (b.fld F.IPM_TX_CFG_KIND i ≤ 2) && !b.outHasSource (128 + i)
  let b := b.ite (bare && st != 3) fun b => b.set F.IPM_TX_HIST_NOSRC_ENTERED i
  let b := b.updFlowTx i fun f => { f with bare := bare }
  b.setFld F.IPM_TX_STATUS_STATE i (if bare then 3 else 2)

/-- When packet `j` of flow `i` is to leave, of `units` packets that its frame, field or stream has (R250): from the frame or field start plus `TRO` under
the sender type of ST 2110-21, a narrow gapped sender over the active part of the period and the others over all of it (PRESUMED, log 196); kinds 1 and 5 evenly over
the frame or field, kind 2 at the time its first byte falls, an audio packet when its last sample is there. -/
def Block.pktTime (b : Block) (i n j units : Nat) : Nat :=
  let c := b.flowFmt i
  let den := rateDen (fmtRate c) * secUnit; let num := rateNum (fmtRate c)
  let start := b.frameStart (fmtTl c) n
  match b.fld F.IPM_TX_CFG_KIND i with
  | 0 =>
    let field := if fmtInterlaced c && !fmtHalf (b.fld F.TL_CFG_RATE (fmtTl c)) c then j / (fmtPackets c / 2) else 0
    let k := if fmtInterlaced c then j % (fmtPackets c / 2) else j
    let at_ := start + field * den / (2 * num) + b.fld F.IPM_TX_TRO_TRO i * nsUnit
    if b.fld F.IPM_TX_CFG_SENDER i = 0 then at_ + k * den * fmtWireActive c / (num * fmtPackets c * fmtWireLines c) else at_ + k * den / (num * fmtPackets c)
  | 2 => 1376 * j * den / (fmtStreamBytes c * num)
  | 3 => (n + 1) * (if b.on F.IPM_TX_CFG_PTIME i then 6 else 48) * secUnit / 48000
  | 4 => (n + 1) * 48 * secUnit / 48000
  | _ => start + j * den / (num * max 1 units)

/-- Packet `j` of flow `i` leaves with a body, numbered, on the legs that this device sends (R244, R251). -/
def Block.pktOut (b : Block) (i n j units late : Nat) (last : Bool) (y : PktBody) : Block :=
  let due := b.pktTime i n j units
  let (seq, ts, b) := b.flowNumbers i n j
  let marker := last && decide (b.fld F.IPM_TX_CFG_KIND i ≠ 3) && decide (b.fld F.IPM_TX_CFG_KIND i ≠ 4)
  let b := b.ite (b.legOn i false) fun b => b.sendLeg i false seq ts late due marker y
  b.ite (b.legOn i true) fun b => b.sendLeg i true seq ts late due marker y

/-- A transmit stamp of port `e`; a full queue drops it (R115). -/
def Block.stampTx (b : Block) (e t q : Nat) : Block :=
  if 16 ≤ (b.port_e e).stamps.length then b.ethCount e 14 1
  else b.updEth e fun s => { s with stamps := s.stamps ++ [⟨q % 65536, t % 16, b.time.now⟩] }

/-- FW_FRAME_TX: the firmware sends a frame of `len` octets in a gap; a PTP event message leaves its stamp, with its messageType and sequenceId
(R113, R115, R224, R230). -/
def fwFrameTx (e len : Nat) (y : EthBody) (msg : Option (Nat × Nat)) (b : Block) : Block :=
  if ¬b.ethHas e then b
  else if b.on F.ETH_STATUS_LINK_UP e then
    let b := ((b.ethCount e 9 len).ethCount e 10 1).ite (b.laneSends (ethLane e)) fun b => b.emit (.fwFrame e len y)
    match y, msg with
    | .udp _ _ 319 _ _, some (t, q) => b.stampTx e t q
    | .other 0x88F7, some (t, q) => if t % 16 < 8 then b.stampTx e t q else b
    | _, _ => b
  else b.ethCount e 11 1

/-! ### Register reads (R233, R255) -/

/-- ETH_CNT_LO_READ: a management core reads counter `c` of port `e`; `late` counts increments on the same cycle (R130, R233). -/
def ethCntLoRead (e c late : Nat) (b : Block) : Block :=
  let v := (b.port_e e).cnt.look c
  let b := (b.emit (.read (v % 2 ^ 32))).setFld F.ETH_CNT_HI_CNT (15 * e + c) (v / 2 ^ 32)
  b.updEth e fun s => { s with cnt := s.cnt.put c late }

/-- PTP_TX_ID_READ: a management core reads the oldest transmit stamp (R255). -/
def ptpTxIdRead (e : Nat) (b : Block) : Block :=
  match (b.port_e e).stamps with
  | [] => b.emit (.read 0)
  | t :: _ =>
    let b := (b.setFld F.PTP_TX_NS_NS e (t.stamp / nsUnit % 1000000000)).setFld F.PTP_TX_SEC_LO_SEC e (t.stamp / secUnit)
    let b := (b.setFld F.PTP_TX_SEC_HI_SEC e (t.stamp / secUnit / 2 ^ 32)).setFld F.PTP_TX_SEC_HI_FRAC e (t.stamp / 2 ^ 32)
    let b := b.updEth e fun s => { s with stamps := s.stamps.drop 1 }
    b.emit (.read (t.seqId + t.msgType * 65536 + 2 ^ 31))

/-! ### Membership (R254) -/

/-- The group address of the link that an IP group address maps to. -/
def groupMac (g : List Byte) : List Byte :=
  if g.take 12 = List.replicate 10 0 ++ [255, 255] then
    [0x01, 0x00, 0x5e, BitVec.ofNat 8 (le g 13 1 % 128), (g[14]?).getD 0, (g[15]?).getD 0]
  else [0x33, 0x33] ++ bytesAt g 12 4

/-- The port of a leg of receive flow `i`. -/
def Block.legPort (b : Block) (i : Nat) (blue : Bool) : Nat := 2 * b.fld F.IPM_RX_CFG_PAIR i + bit blue
def Block.legOf (b : Block) (i : Nat) (blue : Bool) : Leg := if blue then (b.rxf i).blue else (b.rxf i).red
def Block.legUsed (b : Block) (i : Nat) (blue : Bool) : Bool :=
  b.on F.IPM_RX_CFG_EN i && b.on (if blue then F.IPM_RX_CFG_BLUE_EN else F.IPM_RX_CFG_RED_EN) i

/-- Another leg in use on port `e` needs bin `n`. -/
def Block.binUsed (b : Block) (e n : Nat) : Bool :=
  (List.range 768).any fun i => b.legUsed i (e % 2 == 1) && b.legPort i (e % 2 == 1) == e
    && ethBin (groupMac (b.legOf i (e % 2 == 1)).group) == n

/-- The firmware joins the groups of flow `i`, and sets their hash bits. -/
def Block.join (b : Block) (i : Nat) : Block :=
  b.each [false, true] fun b u =>
    b.ite (b.legUsed i u) fun b =>
      let n := ethBin (groupMac (b.legOf i u).group)
      (b.setBit F.ETH_HASH_BINS (128 * b.legPort i u + n / 32) (n % 32)).emit
        (.membership (b.legPort i u) (b.legOf i u).group (b.legOf i u).source true)

/-- The firmware leaves the groups that flow `i`'s legs used: `EN` is already clear. -/
def Block.leave (b : Block) (i : Nat) : Block :=
  b.each [false, true] fun b u =>
    b.ite (b.on (if u then F.IPM_RX_CFG_BLUE_EN else F.IPM_RX_CFG_RED_EN) i) fun b =>
      let n := ethBin (groupMac (b.legOf i u).group)
      let b := b.ite (!b.binUsed (b.legPort i u) n) fun b => b.clrBit F.ETH_HASH_BINS (128 * b.legPort i u + n / 32) (n % 32)
      b.emit (.membership (b.legPort i u) (b.legOf i u).group (b.legOf i u).source false)

/-- CAPTURE_FRAME_TAKE: the firmware takes the oldest captured frame of port `e`; it answers a membership query (R254). -/
def captureFrameTake (e : Nat) (b : Block) : Block :=
  match (b.port_e e).capq with
  | [] => b
  | c :: _ =>
    let b := (b.updEth e fun s => { s with capq := s.capq.drop 1 }).emit (.capFrame e c.frame c.stamp)
    if c.frame.query ∧ ¬c.fcsErr ∧ ¬c.lenErr ∧ ¬c.multiTag then
      b.each (List.range 768) fun b i =>
        b.ite (b.legUsed i (e % 2 == 1) && b.legPort i (e % 2 == 1) == e && e != 8) fun b =>
          b.emit (.membership e (b.legOf i (e % 2 == 1)).group (b.legOf i (e % 2 == 1)).source true)
    else b

/-! ### Configuration -/

/-- Port `e` carries an enabled flow. -/
def Block.ethCarries (b : Block) (e : Nat) : Bool :=
  e != 8 && (List.range 768).any fun i =>
    (b.legUsed i (e % 2 == 1) && b.legPort i (e % 2 == 1) == e) || (b.on F.IPM_TX_CFG_EN i && b.fld F.IPM_TX_CFG_PAIR i == e / 2)

/-- The link of port `e` starts over: the lane acquires at the port's rate (R257). -/
def Block.ethRestart (b : Block) (e : Nat) : Block :=
  (((ethLinkChange e false b).laneRate (ethLane e) (b.fld F.ETH_CFG_RATE e)).lanePower (ethLane e) 0).laneTestState (ethLane e)

/-- What a change of `ETH_CFG[e]` does, from its old `EN`, `RATE` and `FEC`. -/
def Block.ethChanged (b : Block) (e en rate fec : Nat) : Block :=
  if b.on F.ETH_CFG_EN e then
    if en = 0 ∨ rate ≠ b.fld F.ETH_CFG_RATE e ∨ fec ≠ b.fld F.ETH_CFG_FEC e then b.ethRestart e else b
  else if en = 1 then (ethLinkChange e false b).lanePower (ethLane e) 3 else b

/-- A write of `ETH_CFG[e]` (R223). -/
def Block.ethCfgWrite (b : Block) (e v : Nat) : Block :=
  if ethFecOk e (F.ETH_CFG_RATE.of v) (F.ETH_CFG_FEC.of v) then
    (b.storeWord W.ETH_CFG e v).ethChanged e (b.fld F.ETH_CFG_EN e) (b.fld F.ETH_CFG_RATE e) (b.fld F.ETH_CFG_FEC e)
  else b.reject 7 F.ETH_HIST_CFG_REJECTED e

def histAll : Nat := 2 ^ 32 - 1

/-- ETH_SET_PORT, 0x0310 (R223, R256, R257). -/
def ethSetPort (ch : Nat) (p : List Byte) (b : Block) : Block :=
  let e := le p 0 1; let fl := le p 1 1; let r := le p 2 1; let f := le p 3 1; let m := le p 10 2
  b.command ch 0x0310 true (p.length == 32)
    [(!(decide (e ≤ 8) && decide (fl ≤ 7) && decide (r ≤ 2) && decide (f ≤ 2) && ethFecOk e r f && decide (64 ≤ m) && decide (m ≤ 9600)
        && decide (le p 12 1 ≤ 128) && zeros p 13 3), St.BAD_ARG),
     (!b.ethHas e, St.UNIT_ABSENT), (b.selftest 7, St.BUSY_SELFTEST)]
    [(decide (e ≤ 7) && !b.domOn (33 + e), St.NOT_READY), (!bitOf fl 0 && b.on F.ETH_CFG_EN e && b.ethCarries e, St.NOT_READY)]
    fun b =>
      let b := (b.setFld F.ETH_MAC_LO_MAC e (le p 4 4)).setFld F.ETH_MAC_HI_MAC e (le p 8 2)
      let b := b.updEth e fun s => { s with ip := bytesAt p 16 16, prefixLen := le p 12 1 }
      (b.ethCfgWrite e (bit (bitOf fl 0) + r * 2 + f * 8 + bit (bitOf fl 2) * 32 + bit (bitOf fl 1) * 64 + m * 1024)).ok ch []

/-- ETH_GET_STATS, 0x0311 (R233). -/
def ethGetStats (ch : Nat) (p : List Byte) (b : Block) : Block :=
  let e := le p 0 1; let c := le p 1 1
  b.command ch 0x0311 true (p.length == 4)
    [(!(decide (e ≤ 8) && decide (c ≤ 1) && zeros p 2 2), St.BAD_ARG), (!b.ethHas e, St.UNIT_ABSENT)] []
    fun b =>
      let d := b.word4 W.ETH_STATUS e ++ b.word4 W.ETH_HIST e ++ ((List.range 15).map fun c => leBytes 8 ((b.port_e e).cnt.look c)).flatten
      let b := b.updEth e fun s => { s with cnt := [] }
      (b.ite (c == 1) fun b => b.clearHist W.ETH_HIST e histAll).ok ch d

/-- The `FORMAT` byte of a flow is one that its kind allows (R234). -/
def flowFormatOk (kind f ptime : Nat) : Bool :=
  match kind with
  | 0 => fmtOk f
  | 1 => fmtOk f
  | 2 => decide (1 ≤ f) && decide (f ≤ 16)
  | 3 => decide (1 ≤ f) && decide (f ≤ if ptime = 0 then 8 else 64)
  | 4 => decide (1 ≤ f) && decide (f ≤ 4) && ptime == 0
  | _ => true

/-- The effect of `EN` on receive flow `i` (R254). -/
def Block.flowRxChanged (b : Block) (i : Nat) (was : Bool) : Block :=
  let en := b.on F.IPM_RX_CFG_EN i
  if en && !was then ((b.updFlowRx i FlowRx.restarted).setFld F.IPM_RX_STATUS_STATE i 1).join i
  else if was && !en then
    (((((b.leave i).updFlowRx i FlowRx.restarted).setFld F.IPM_RX_STATUS_STATE i 0).clr F.IPM_RX_STATUS_RED_UP i).clr F.IPM_RX_STATUS_BLUE_UP i).flowLoss i
  else b

/-- A write of `IPM_RX_CFG[i]`; on an enabled flow only `EN` may change. -/
def Block.flowRxCfgWrite (b : Block) (i v : Nat) : Block :=
  let was := b.on F.IPM_RX_CFG_EN i
  if was ∧ ¬b.unchanged (W.IPM_RX_CFG.drop 1) i v then b.reject 8 F.IPM_RX_HIST_CFG_REJECTED i
  else (b.storeWord W.IPM_RX_CFG i v).flowRxChanged i was

/-- FLOW_RX_SET, 0x0320 (R254, R256, R257). -/
def flowRxSet (ch : Nat) (p : List Byte) (b : Block) : Block :=
  let kind := le p 0 1; let fl := le p 1 1; let i := flowIndex kind (le p 2 2)
  let f0 := (b.rxf i).restarted
  let f1 : FlowRx := { f0 with
    red := ⟨bytesAt p 8 16, bytesAt p 24 16, le p 40 2⟩, blue := ⟨bytesAt p 44 16, bytesAt p 60 16, le p 42 2⟩
    vid := le p 6 2, pt := le p 76 1, ptime := le p 78 1, assoc := le p 79 1, rate := le p 80 4, format := le p 5 1 }
  let v := bit (bitOf fl 0) + kind * 2 + le p 4 1 * 16 + bit (bitOf fl 1) * 64 + bit (bitOf fl 2) * 128 + le p 5 1 % 32 * 256 + le p 77 1 * 2 ^ 13
  b.command ch 0x0320 true (p.length == 84)
    [(!(decide (kind ≤ 5) && decide (fl ≤ 7) && decide (le p 2 2 < flowSpace kind) && decide (le p 4 1 ≤ 3) && flowFormatOk kind (le p 5 1) (le p 78 1)
        && decide (le p 6 2 ≤ 4094) && decide (1 ≤ le p 77 1) && decide (le p 77 1 ≤ 50) && decide (le p 78 1 ≤ 1)
        && (kind != 5 || decide (le p 79 1 ≤ 127)) && (kind != 1 || (decide (1 ≤ le p 80 4) && decide (le p 80 4 ≤ 10000000)))), St.BAD_ARG),
     (b.isE, St.UNIT_ABSENT), (b.selftest 8, St.BUSY_SELFTEST)]
    [(b.on F.IPM_RX_CFG_EN i && !(b.unchanged (W.IPM_RX_CFG.drop 1) i v && decide (f1 = f0)), St.NOT_READY)]
    fun b =>
      let b := b.ite (!b.on F.IPM_RX_CFG_EN i) fun b => b.updFlowRx i fun _ => f1
      (b.flowRxCfgWrite i v).ok ch []

/-- The wire rate in bit/s of a flow with these settings (R238). -/
def flowBits (kind f ptime pkts rate : Nat) (vlan : Bool) (dest : List Byte) (assocFmt : Nat) : Nat :=
  let o := wireOverhead vlan dest
  match kind with
  | 0 => (fmtActive f * fmtPixels f * 5 / 2 + fmtPackets f * (o + 8)) * 8 * rateNum (fmtRate f) / rateDen (fmtRate f)
  | 1 => rate * 1000
  | 2 => fmtStreamBytes f * (1376 + 8 + o) * 8 * rateNum (fmtRate f) / (1376 * rateDen (fmtRate f))
  | 3 => if ptime = 0 then (f * 48 * 3 + o) * 8 * 1000 else (f * 6 * 3 + o) * 8 * 8000
  | 4 => (f * 2 * 4 * 48 + o) * 8 * 1000
  | _ => (Config.ancPacketOctets + o) * pkts * 8 * rateNum (fmtRate assocFmt) / rateDen (fmtRate assocFmt) * (if fmtInterlaced assocFmt then 2 else 1)

/-- The wire rate of transmit flow `i` as it stands. -/
def Block.txBits (b : Block) (i : Nat) (blue : Bool) : Nat :=
  let f := b.txf i
  flowBits (b.fld F.IPM_TX_CFG_KIND i) f.format (b.fld F.IPM_TX_CFG_PTIME i) (b.fld F.IPM_TX_CFG_ANC_PKTS i + 1) f.rate
    (b.on F.IPM_TX_CFG_VLAN_EN i) (if blue then f.blueDest else f.redDest) (b.fld F.IPM_TX_CFG_FORMAT f.assoc)

/-- The other enabled flows of a pair leave room for `x` bit/s on the port of a leg (R238). -/
def Block.txRoom (b : Block) (pair i : Nat) (blue : Bool) (x : Nat) : Bool :=
  let sum := (List.range 768).foldl (fun a k =>
    if k ≠ i ∧ b.on F.IPM_TX_CFG_EN k ∧ b.fld F.IPM_TX_CFG_PAIR k = pair then a + b.txBits k blue else a) 0
  decide ((sum + x) * 100 ≤ b.ethBits (2 * pair + bit blue) * 95)

/-- The effect of `EN` on transmit flow `i` (R253). -/
def Block.flowTxChanged (b : Block) (i : Nat) (was : Bool) : Block :=
  let en := b.on F.IPM_TX_CFG_EN i
  if en && !was then
    (b.updFlowTx i fun f => { f with stopping := false, began := f.began && b.fld F.IPM_TX_STATUS_STATE i != 0 }).ite (b.fld F.IPM_TX_STATUS_STATE i == 0) fun b => b.setFld F.IPM_TX_STATUS_STATE i 1
  else if was && !en then
    if b.fld F.IPM_TX_STATUS_STATE i = 1 then b.setFld F.IPM_TX_STATUS_STATE i 0 else b.updFlowTx i fun f => { f with stopping := true }
  else b

/-- A write of `IPM_TX_CFG[i]`; on an enabled flow only `EN` may change. -/
def Block.flowTxCfgWrite (b : Block) (i v : Nat) : Block :=
  let was := b.on F.IPM_TX_CFG_EN i
  if was ∧ ¬b.unchanged (W.IPM_TX_CFG.drop 1) i v then b.reject 8 F.IPM_TX_HIST_CFG_REJECTED i
  else (b.storeWord W.IPM_TX_CFG i v).flowTxChanged i was

/-- TRODEFAULT of ST 2110-21 in ns: 43/1125 of the frame period for a progressive raster of 1080 lines or more, 28/750 for
720 lines, 22/1125 of the frame for an interlaced one, 20/525 and 26/625 of the frame for SD. -/
def troDefault (c : Nat) : Nat :=
  let t (n m : Nat) : Nat := rateDen (fmtRate c) * 1000000000 * n / (rateNum (fmtRate c) * m)
  if c = 1 then t 20 525 else if c = 2 then t 26 625 else if c ≤ 5 then t 28 750 else if fmtInterlaced c then t 22 1125 else t 43 1125

/-- FLOW_TX_SET, 0x0321 (R238, R250, R256, R257). -/
def flowTxSet (ch : Nat) (p : List Byte) (b : Block) : Block :=
  let kind := le p 0 1; let fl := le p 1 1; let i := flowIndex kind (le p 2 2); let pair := le p 4 1; let f := le p 5 1
  let old := b.txf i
  let f1 : FlowTx := { old with
    redDest := bytesAt p 8 16, blueDest := bytesAt p 24 16, redUdp := le p 40 2, blueUdp := le p 42 2, srcUdp := le p 44 2
    tag := le p 6 2, dscp := le p 46 1, ttl := le p 47 1, pt := le p 52 1, rate := le p 60 4, assoc := le p 65 1, format := f }
  let pkts := if kind = 5 then le p 55 1 else 1
  let v := bit (bitOf fl 0) + kind * 2 + pair * 16 + bit (bitOf fl 3) * 64 + le p 53 1 * 128 + f % 32 * 2 ^ 9 + le p 54 1 * 2 ^ 14
    + bit (bitOf fl 1) * 2 ^ 15 + (pkts - 1) * 2 ^ 16 + le p 64 1 * 2 ^ 18 + bit (bitOf fl 2) * 2 ^ 20
  let tro := if le p 56 4 = 2 ^ 32 - 1 then troDefault f else le p 56 4
  let x (u : Bool) : Nat := flowBits kind f (le p 54 1) pkts (le p 60 4) (bitOf fl 1) (bytesAt p (if u then 24 else 8) 16) (b.fld F.IPM_TX_CFG_FORMAT (le p 65 1))
  b.command ch 0x0321 true (p.length == 68)
    [(!(decide (kind ≤ 5) && decide (fl ≤ 15) && decide (le p 2 2 < flowSpace kind) && decide (pair ≤ 3) && flowFormatOk kind f (le p 54 1)
        && decide (le p 6 2 % 4096 ≤ 4094) && !bitOf (le p 6 2) 12 && decide (le p 46 1 ≤ 63) && decide (1 ≤ le p 47 1) && decide (96 ≤ le p 52 1)
        && decide (le p 52 1 ≤ 127) && decide (le p 53 1 ≤ 2) && decide (le p 54 1 ≤ 1) && (kind != 5 || (decide (1 ≤ le p 55 1) && decide (le p 55 1 ≤ 4)
        && decide (le p 65 1 ≤ 127))) && (kind != 1 || (decide (1 ≤ le p 60 4) && decide (le p 60 4 ≤ 10000000))) && decide (le p 64 1 ≤ 2) && zeros p 66 2
        && (!bitOf fl 0 || (b.txRoom pair i false (x false) && b.txRoom pair i true (x true)))), St.BAD_ARG),
     (b.isE, St.UNIT_ABSENT), (b.selftest 8, St.BUSY_SELFTEST)]
    [(b.on F.IPM_TX_CFG_EN i && !(b.unchanged (W.IPM_TX_CFG.drop 1) i v && decide (f1 = old) && b.fld F.IPM_TX_SSRC_SSRC i == le p 48 4
        && b.fld F.IPM_TX_TRO_TRO i == tro), St.NOT_READY)]
    fun b =>
      let b := ((b.updFlowTx i fun _ => f1).setFld F.IPM_TX_SSRC_SSRC i (le p 48 4)).setFld F.IPM_TX_TRO_TRO i tro
      (b.flowTxCfgWrite i v).ok ch []

/-- Counters of an IPM flow read, and so cleared. -/
def Block.takeCounts (b : Block) (fs : List Field) (i : Nat) : Block := b.each fs fun b f => b.clr f i

/-- FLOW_GET_STATUS, 0x0322. -/
def flowGetStatus (ch : Nat) (p : List Byte) (b : Block) : Block :=
  let kind := le p 1 1; let i := flowIndex kind (le p 2 2)
  b.command ch 0x0322 true (p.length == 4)
    [(!(decide (le p 0 1 ≤ 1) && decide (kind ≤ 5) && decide (le p 2 2 < flowSpace kind)), St.BAD_ARG), (b.isE, St.UNIT_ABSENT)] []
    fun b =>
      let rx := [F.IPM_RX_PKT_CNT_COUNT, F.IPM_RX_DUP_CNT_COUNT, F.IPM_RX_LATE_CNT_COUNT, F.IPM_RX_LOST_CNT_COUNT, F.IPM_RX_FMT_CNT_COUNT]
      let tx := [F.IPM_TX_PKT_CNT_COUNT, F.IPM_TX_DROP_CNT_COUNT, F.IPM_TX_SUBST_CNT_COUNT]
      let counts (fs : List Field) : List Byte := (fs.map fun f => leBytes 4 (b.fld f i)).flatten
      if le p 0 1 = 0 then
        ((b.takeCounts rx i).clearHist W.IPM_RX_HIST i histAll).ok ch
          (b.word4 W.IPM_RX_STATUS i ++ b.word4 W.IPM_RX_HIST i ++ counts rx ++ leBytes 4 (b.fld F.IPM_RX_TS_TS i))
      else
        ((b.takeCounts tx i).clearHist W.IPM_TX_HIST i histAll).ok ch
          (b.word4 W.IPM_TX_STATUS i ++ b.word4 W.IPM_TX_HIST i ++ counts tx ++ zeroBytes 8 ++ leBytes 4 (b.fld F.IPM_TX_SEQ_SEQ i))

end Sys2Proof.Machine
end

