-- ==== Sys2Proof/Machine/Stall.lean ====
section
/-!
DEFINITION. Stalls: frames, latches, origins, watch regions, line-locked mode, the configuration of checkpoints, and the yard
carve (R260 to R300). The judging of checkpoints is in Twin.
-/
namespace Sys2Proof.Machine

/-! ### Slots (R295 to R297) -/

/-- KiB in a slot and bytes of the largest picture of a class (R296). -/
def slotKib (c : Nat) : Nat := match c with
  | 0 => 1024 | 1 => 1280 | 2 => 2304 | 3 => 5120 | _ => 20480
def slotPic (c : Nat) : Nat := match c with
  | 0 => 874800 | 1 => 1036800 | 2 => 2304000 | 3 => 5184000 | _ => 20736000

/-- The yard offset of slot `k` of stall `j`. -/
def Block.slotBase (b : Block) (j k : Nat) : Nat :=
  b.regionBase 0 * gib + b.fld F.STALL_BASE_BASE j * 262144 + k * slotKib (b.fld F.STALL_CTRL_CLASS j) * 1024

/-- A frame of stall `j` fits the slot of its class (R271): its picture at 20 bits a pixel, or its codestream. -/
def Block.slotHolds (b : Block) (j : Nat) (f : FrameIn) : Bool :=
  decide ((if f.coded then f.pic.length else fmtW f.fmt * fmtH f.fmt * 5 / 2) ≤ slotPic (b.fld F.STALL_CTRL_CLASS j))

/-! ### Origins (R278 to R286) -/

/-- What a valid stamp says. -/
structure StampInfo where
  hops : Nat
  kind : Nat
  stale : Bool
  sec : Nat
  ns : Nat
  emitter : Nat
deriving DecidableEq, Repr

/-- The first stamp of a frame, judged (R281): the outer option is none for a bad or ignored stamp. -/
def judgeStamp (ok : Bool) (u : List Byte) : Option StampInfo :=
  let v := le u 0 1
  if ok && fletcher16 (bytesAt u 0 14) == le u 14 2 && v / 16 == 1 && le u 1 1 % 4 != 3 then
    some ⟨v % 16, le u 1 1 % 4, bitOf (le u 1 1) 2, le u 2 6, le u 8 4, le u 12 2⟩
  else none

/-- `ABS_TRUSTED` (R286): synchronised, and the selected candidate, or in holdover the last selected, is of kind 4 or 5. -/
def Block.absTrusted (b : Block) : Bool :=
  match b.fld F.STALL_CFG_ABS_MODE 0 with
  | 1 => true
  | 2 => false
  | _ => b.on F.REFS_STATUS_TIME_SYNCED 0 && (b.on F.REFS_STATUS_SEL_VALID 0 || b.fld F.REFS_STATUS_STATE 0 == 4) &&
      (let k := b.fld F.REF_CFG_KIND (b.fld F.REFS_STATUS_SEL 0)
       k == 4 || k == 5)

/-- The origin that an RTP timestamp gives, in ns (R283). -/
def rtpOrigin (ts ingress : Nat) (ofs : Int) : Int :=
  let t := (ingress + 1000000000) * 90000 / 1000000000
  let c : Int := Int.ofNat t - ((Int.ofNat t - Int.ofNat ts) % Int.ofNat (2 ^ 32))
  c * 1000000000 / 90000 - ofs * 1000000

/-- Frames counted by a time code word at a format's rate, the drop-frame rule applied (R284). -/
def atcCount (word rate : Nat) : Nat :=
  let fps := (rateNum rate + rateDen rate / 2) / rateDen rate
  let m := F.SDI_RX_ATC_HOURS.of word * 60 + F.SDI_RX_ATC_MINUTES.of word
  let n := (m * 60 + F.SDI_RX_ATC_SECONDS.of word) * fps + F.SDI_RX_ATC_FRAMES.of word
  if F.SDI_RX_ATC_DF.of word = 1 ∧ (rate = 3 ∨ rate = 6) then n - fps / 15 * (m - m / 10) else n

/-- The origin that a time code gives, in ns (R284). -/
def atcOrigin (word rate ingress : Nat) (ofs : Int) : Int :=
  let day : Int := 86400 * 1000000000
  let s : Int := Int.ofNat (atcCount word rate * rateDen rate * 1000000000 / rateNum rate)
  let d := (s - (Int.ofNat ingress + ofs * 1000000)) % day
  Int.ofNat ingress + (if 2 * d < day then d else d - day)

/-- The origin fields of a record that is otherwise filled in (R282, R285, R286). -/
def Block.resolveOrigin (b : Block) (j : Nat) (f : FrameIn) (st : Option StampInfo) (r : FrameRec) : FrameRec :=
  let mode := b.fld F.STALL_CTRL_ORIGIN_MODE j
  let ofs := b.sfld F.STALL_ORIGIN_OFS_ORIGIN_OFS j
  let put (o : Int) (k : Nat) : FrameRec :=
    if b.absTrusted then { r with origin := o.toNat, okind := k, ahead := decide (Int.ofNat f.ingress < o) } else { r with untrusted := true }
  let viaStamp : Option FrameRec := if mode = 0 ∨ mode = 1 then
      st.map fun s => if b.absTrusted then
          { put (Int.ofNat (s.sec * 1000000000 + s.ns)) s.kind with fromStamp := true, hops := s.hops, emitter := s.emitter }
        else { r with untrusted := true }
    else none
  let viaRtp : Option FrameRec := if (mode = 0 ∨ mode = 2) ∧ b.fld F.IPM_RX_CFG_KIND (j - 128) ≤ 1 then f.rtp.map fun ts => put (rtpOrigin ts f.ingress ofs) 1 else none
  let viaAtc : Option FrameRec := if (mode = 0 ∨ mode = 3) ∧ fmtOk f.fmt then f.atc.map fun w => put (atcOrigin w (fmtRate f.fmt) f.ingress ofs) 2 else none
  ((viaStamp <|> viaRtp) <|> viaAtc).getD r

/-! ### Watch regions (R293, R294) -/

/-- One region after a frame is written: its bits of the record. -/
def Block.watchFrame (b : Block) (j r : Nat) (f : FrameIn) : Nat × Block :=
  let i := 4 * j + r
  if b.on F.WATCH_CFG_EN i then
    let v := (regionBytes f.fmt f.psf f.pic (b.fld F.WATCH_XY_X i) (b.fld F.WATCH_XY_Y i) (b.fld F.WATCH_WH_W i) (b.fld F.WATCH_WH_H i)).map crc64
    let same := v.isSome && decide (b.watch.look i = v)
    let u := if same then min (b.fld F.WATCH_STATUS_UNCHANGED i + 1) 65535 else 0
    let frozen := v.isSome && decide (b.fld F.WATCH_CFG_WATCH_N i ≤ u)
    let b := (b.setFld F.WATCH_STATUS_UNCHANGED i u).setTo F.WATCH_STATUS_FROZEN i frozen
    (bit frozen * 2 ^ r + 2 ^ (4 + r), { b with watch := b.watch.put i v })
  else (0, { (b.clr F.WATCH_STATUS_UNCHANGED i).clr F.WATCH_STATUS_FROZEN i with watch := b.watch.put i none })

/-- The four regions of source stall `j`. -/
def Block.watchAll (b : Block) (j : Nat) (f : FrameIn) : Nat × Block :=
  if 256 ≤ j then (0, b)
  else (List.range 4).foldl (fun (s : Nat × Block) r => (s.1 + (s.2.watchFrame j r f).1, (s.2.watchFrame j r f).2)) (0, b)

/-- Region `i` starts over. -/
def Block.watchRestart (b : Block) (i : Nat) : Block :=
  { (b.clr F.WATCH_STATUS_UNCHANGED i).clr F.WATCH_STATUS_FROZEN i with watch := b.watch.put i none }

/-- A write of `WATCH_CFG`, `WATCH_XY` or `WATCH_WH` (which 0, 1, 2) of region `i` (R294). -/
def Block.watchWrite (b : Block) (i which v : Nat) : Block :=
  match which with
  | 0 =>
    let b := b.storeWord W.WATCH_CFG i v
    b.ite (!b.on F.WATCH_CFG_EN i) fun b => b.watchRestart i
  | 1 => if b.unchanged W.WATCH_XY i v then b else (b.storeWord W.WATCH_XY i v).watchRestart i
  | _ => if b.unchanged W.WATCH_WH i v then b else (b.storeWord W.WATCH_WH i v).watchRestart i

/-! ### Frames (R264, R268 to R274) -/

/-- This member has journal authority for frame `n` of timeline `tl`: it was active at the start of that frame (R538). -/
def Block.authority (b : Block) (tl n : Nat) : Bool :=
  match b.twin.roles.find? fun r => decide ((if tl = 0 then r.1 else r.2.1) < n) with
  | some r => r.2.2
  | none => match b.twin.roles.getLast? with
    | some r => !r.2.2
    | none => b.on F.TWIN_STATUS_ROLE 0

/-- This member follows the journal of its partner for frame `n` (R538, R540, R546). -/
def Block.follows (b : Block) (tl n : Nat) : Bool := b.on F.TWIN_CFG_EN 0 && !b.authority tl n

/-- A drop counted (R264). -/
def Block.countDrop (b : Block) (j : Nat) : Block := (b.bump F.STALL_DROP_CNT_COUNT j 1).set F.STALL_HIST_DROPPED j

/-- The record of a frame of stall `j` (R276). -/
def Block.recordOf (b : Block) (j : Nat) (f : FrameIn) : FrameRec × Block :=
  let inherit_ := b.on F.STALL_CTRL_INHERIT_STALE j
  match f.mirror with
  | some r => ({ r with complete := f.complete, srcLos := false, stampStale := r.stampStale && inherit_ }, b)
  | none =>
    let st := match f.stamp with
      | some (ok, u) => judgeStamp ok u
      | none => none
    let b := b.ite (f.stamp.isSome && st.isNone) fun b => (b.bump F.STALL_STAMP_ERR_CNT_COUNT j 1).set F.STALL_HIST_STAMP_ERR j
    let (w, b) := b.watchAll j f
    let r : FrameRec := { (default : FrameRec) with
      fseq := ((b.stall j).fseq + 1) % 2 ^ 48, format := if f.coded then 0 else f.fmt, complete := f.complete
      stampStale := inherit_ && (match st with
        | some s => s.stale
        | none => false)
      ingress := f.ingress, origin := f.ingress, watch := w, sig := crc64 f.pic, rtpTs := f.rtp.getD 0, atc := f.atc.getD 0 }
    let r := b.resolveOrigin j f st r
    (r, b.ite r.ahead fun b => b.set F.STALL_HIST_ORIGIN_AHEAD j)

/-- A waiting frame becomes the latched one. -/
def Block.stallTake (b : Block) (j : Nat) : Block := b.updStall j fun s => { s with held := s.waiting, waiting := none }

/-- The slot that is neither latched nor holding the frame just written (R261). -/
def freeSlot (latched : Option Held) (slot : Nat) : Nat :=
  ((List.range 3).find? fun k => k != slot && (match latched with
    | some h => h.slot != k
    | none => true)).getD 0

/-- The phase of a line-locked frame (R273, R274). -/
def Block.linePhase (b : Block) (j : Nat) (ph : Int) : Block :=
  let b := b.setSfld F.STALL_STATUS_LL_PHASE j ph
  if ph < -64 ∨ 16 < ph then
    let b := (b.set F.STALL_HIST_LL_PHASE_ERR j).updStall j fun s => { s with badPhase := s.badPhase + 1 }
    b.updStall j fun s => { s with fallBack := decide (2 ≤ s.badPhase) && b.on F.STALL_CTRL_LL_FALLBACK j }
  else b.updStall j fun s => { s with badPhase := 0 }

/-- The frame that the source of stall `j` gives it (R196, R243). -/
def Block.stallGiven (b : Block) (j : Nat) : Option Given :=
  if j < 128 then (b.rx j).given else if j < 256 then (b.rxf (j - 128)).given else none
def Block.stallGot (b : Block) (j : Nat) : Block :=
  if j < 128 then b.updRx j fun s => { s with given := none } else if j < 256 then b.updFlowRx (j - 128) fun f => { f with given := none } else b

/-- The source of stall `j` delivers: a receiver in lock, a flow that receives; a mirror stall's is judged by its copies (R333). -/
def Block.sourceLive (b : Block) (j : Nat) : Bool :=
  if j < 128 then b.rxState j == 2 else if j < 256 then b.fld F.IPM_RX_STATUS_STATE (j - 128) == 2 else true

/-- A frame as its source's receiver has gathered it (R196, R199, R243); the samples of a serial signal are the writer's. -/
def givenFrame (kind : Nat) (g : Given) (f : FrameIn) : FrameIn :=
  let f := { f with fmt := g.fmt, complete := g.complete, stamp := g.stamp, atc := g.atc, coded := g.ip.isSome && kind == 1, rtp := none, mirror := none }
  match g.ip with
  | some (ts, at_, pic) => { f with rtp := some ts, ingress := at_, pic := if kind = 2 then f.pic else pic }
  | none => f

/-- Frame `f` is written into stall `j`, with its ancillary store (R264, R268, R270, R271, R275, R276). -/
def Block.stallWrite (b : Block) (j : Nat) (f : FrameIn) (anc : List AncPkt) (meta_ : Option Nat) : Block :=
  if b.stallState j = 0 then b
  else if ¬b.slotHolds j f then (b.set F.STALL_HIST_CLASS_ERR j).stallLoss j
  else
    let b := b.ite (!f.complete) fun b => (b.bump F.STALL_INCOMPLETE_CNT_COUNT j 1).set F.STALL_HIST_INCOMPLETE j
    if ¬f.complete ∧ ¬b.on F.STALL_CTRL_INCOMPLETE_USE j then b
    else
      let f := if f.complete ∨ f.coded then f else { f with pic := f.pic ++ blackBytes (fmtPicBytes f.fmt - f.pic.length) }
      let (r, b) := b.recordOf j f
      let s := b.stall j
      let live := b.sourceLive j
      let b := b.ite (b.stallState j == 1) fun b => b.set F.STALL_HIST_FIRST_FRAME j
      let b := b.ite (b.stallState j == 3 && live) fun b => b.set F.STALL_HIST_LOS_LEFT j
      let b := if b.stallState j = 3 ∧ ¬live then b else b.setFld F.STALL_STATUS_STATE j 2
      let h : Held := ⟨r, f.pic, f.psf, s.wslot, anc, meta_⟩
      let b := b.framePut (b.slotBase j s.wslot) (slotKib (b.fld F.STALL_CTRL_CLASS j) * 1024) f.coded f.pic r
      if b.on F.STALL_STATUS_LL_ACTIVE j then
        let b := b.linePhase j f.phase
        (b.updStall j fun s => { s with fseq := r.fseq, held := some h, waiting := none, wslot := freeSlot (some h) s.wslot }).stallShow j
      else
        let b := match s.waiting with
          | some old =>
            (b.ite (!b.follows (b.fld F.STALL_CTRL_TL j) (b.tlFrame (b.fld F.STALL_CTRL_TL j))) fun b => b.countDrop j).updStall j fun s =>
              { s with fseq := r.fseq, waiting := some h, dropped := true, wslot := old.slot }
          | none => b.updStall j fun s => { s with fseq := r.fseq, waiting := some h, wslot := freeSlot s.held s.wslot }
        -- the frame that the partner's entry named has come (R540)
        let b := match s.awaiting with
          | some (q, drop) =>
            if q = r.fseq % 2 ^ 24 then
              let b := b.ite drop fun b => b.countDrop j
              ((b.stallTake j).updStall j fun s => { s with awaiting := none, prov := none }).stallShow j
            else b
          | none => b
        -- a first frame that its source gave before it was lost
        b.ite (!live) fun b => b.stallLoss j

/-- A frame that its source has given completes in stall `j` (R264, R268, R270, R271, R275, R276). -/
def Block.stallGivenFrame (b : Block) (j : Nat) (f : FrameIn) : Block :=
  match b.stallGiven j with
  | none => b
  | some g => (b.stallGot j).stallWrite j (givenFrame (if j < 128 then 2 else b.fld F.IPM_RX_CFG_KIND (j - 128)) g f) g.anc g.meta_

/-- The format of the source of stall `j`, as far as it is known. -/
def Block.sourceFormat (b : Block) (j : Nat) : Nat :=
  if j < 128 then
    if b.fld F.SDI_RX_STATUS_STATE j = 2 then b.fld F.SDI_RX_STATUS_FMT_NOW j else b.fld F.SDI_RX_CFG_FORMAT j
  else if j < 256 then b.fld F.IPM_RX_CFG_FORMAT (j - 128)
  else 0

/-- Latches happen every second frame for a source at exactly half the timeline's rate (R262). -/
def Block.stallDiv (b : Block) (j : Nat) : Nat :=
  let s := b.stall j
  match s.waiting <|> s.held with
  | some h => if fmtHalf (b.fld F.TL_CFG_RATE (b.fld F.STALL_CTRL_TL j)) (if h.rcd.format = 0 then b.sourceFormat j else h.rcd.format) then 2 else 1
  | none => 1

/-- A stall leaves OFF, or enters it: its slots cleared, its count and its regions start again (R268, R294). -/
def Block.stallClear (b : Block) (j st : Nat) : Block :=
  let b := ((b.updStall j fun _ => default).setFld F.STALL_STATUS_STATE j st).stallShow j
  let b := (b.setTo F.STALL_STATUS_LL_ACTIVE j (st == 1 && b.on F.STALL_CTRL_MODE j)).clr F.STALL_STATUS_LL_PHASE j
  b.ite (decide (j < 256)) fun b => b.each (List.range 4) fun b r => b.watchRestart (4 * j + r)

/-- STALL_LATCH: frame `n` of the stall's timeline starts (R262, R263, R268, R269). -/
def stallLatch (j n : Nat) (b : Block) : Block :=
  let b := b.ite (b.stall j).fallBack fun b => ((b.set F.STALL_HIST_LL_FELL_BACK j).clr F.STALL_STATUS_LL_ACTIVE j).updStall j fun s => { s with fallBack := false }
  if b.stallState j = 0 ∨ n % b.stallDiv j ≠ 0 then b
  else if (b.stall j).closing then b.stallClear j (b.fld F.STALL_CTRL_EN j)
  else if b.on F.STALL_STATUS_LL_ACTIVE j then b
  else
    let s := b.stall j
    let took := s.waiting.isSome
    let rep := !took && s.held.isSome
    let b := b.updStall j fun s => { s with prev := s.held, took := took, tookDrop := s.dropped, dropped := false, awaiting := none }
    let b := b.ite took fun b => b.stallTake j
    let b := b.ite (b.stallState j == 3 && !took) fun b => b.updStall j fun s => { s with losLatches := s.losLatches + 1 }
    let b := b.stallShow j
    if b.follows (b.fld F.STALL_CTRL_TL j) n then b.updStall j fun t => { t with prov := some (rep, s.dropped) }
    else b.ite rep fun b => b.bump F.STALL_REPEAT_CNT_COUNT j 1

/-! ### Configuration (R268, R272, R298) -/

/-- A write changes something of the stall that is held while it is not OFF (R298). -/
def Block.stallBusy (b : Block) (j : Nat) : Bool := b.on F.STALL_CTRL_EN j || b.stallState j != 0

/-- The source of stall `j` may be line-locked to timeline `k` (R272). -/
def Block.lineLockOk (b : Block) (j k : Nat) : Bool :=
  let c := b.sourceFormat j
  fmtOk c && fmtTl c == k && fmtFits (b.fld F.TL_CFG_RATE k) c

/-- The effect of `EN` on stall `j` (R268). -/
def Block.stallEnChanged (b : Block) (j : Nat) (was : Bool) : Block :=
  let en := b.on F.STALL_CTRL_EN j
  if en && !was then if b.stallState j = 0 then b.stallClear j 1 else b
  else if was && !en && b.stallState j != 0 then b.updStall j fun s => { s with closing := true }
  else b

/-- A write of `STALL_CTRL[j]` (R298). -/
def Block.stallCtrlWrite (b : Block) (j v : Nat) : Block :=
  let was := b.on F.STALL_CTRL_EN j
  if (b.stallBusy j ∧ ¬b.unchanged (W.STALL_CTRL.drop 1) j v)
      ∨ (¬b.stallBusy j ∧ F.STALL_CTRL_MODE.of v = 1 ∧ ¬b.lineLockOk j (F.STALL_CTRL_TL.of v)) then
    b.reject 9 F.STALL_HIST_CFG_REJECTED j
  else (b.storeWord W.STALL_CTRL j v).stallEnChanged j was

/-- STALL_ENABLE_WRITE: `STALL_CTRL[j]` is written (R268, R298). -/
def stallEnableWrite (j v : Nat) (b : Block) : Block := b.stallCtrlWrite j v

/-- A write of `STALL_BASE[j]` or `STALL_ORIGIN_OFS[j]` (R298). -/
def Block.stallHeldWrite (b : Block) (fs : List Field) (j v : Nat) : Block :=
  if b.stallBusy j ∧ ¬b.unchanged fs j v then b.reject 9 F.STALL_HIST_CFG_REJECTED j else b.storeWord fs j v

/-- The write that enables a mirror stall, by the fabric (R9), or turns it off. -/
def Block.mirrorEnable (b : Block) (m tl cls : Nat) (on : Bool) : Block :=
  let j := 256 + m
  let was := b.on F.STALL_CTRL_EN j
  let b := b.ite (on && !was) fun b => (b.setFld F.STALL_CTRL_TL j tl).setFld F.STALL_CTRL_CLASS j cls
  (b.setTo F.STALL_CTRL_EN j on).stallEnChanged j was

/-- STALL_FSEQ_LO_READ: a management core reads the count of the latched frame (R300). -/
def stallFseqLoRead (j : Nat) (b : Block) : Block :=
  let (q, g) := match (b.stall j).shown with
    | some h => (h.rcd.fseq, h.rcd.sig)
    | none => (0, 0)
  let b := (b.setFld F.STALL_FSEQ_HI_FSEQ j (q / 2 ^ 32)).setFld F.STALL_SIG_LO_SIG j g
  (b.setFld F.STALL_SIG_HI_SIG j (g / 2 ^ 32)).emit (.read (q % 2 ^ 32))

/-! ### Commands (R298) -/

/-- Where a stall of base `base` and class `cls` would lie: within the region, clear of the other enabled stalls (R297). -/
def Block.stallFits (b : Block) (j base cls : Nat) : Bool :=
  let lo := base * 256
  let hi := lo + 3 * slotKib cls
  decide (hi ≤ b.regionSize 0 * 1048576) && (List.range 320).all fun k =>
    k == j || !b.stallBusy k ||
      (let olo := b.fld F.STALL_BASE_BASE k * 256
       let ohi := olo + 3 * slotKib (b.fld F.STALL_CTRL_CLASS k)
       decide (hi ≤ olo) || decide (ohi ≤ lo))

/-- A kind 1 source's codestream unit fits the class (R297). -/
def Block.codedFits (b : Block) (j cls : Nat) : Bool :=
  if 128 ≤ j ∧ j < 256 ∧ b.fld F.IPM_RX_CFG_KIND (j - 128) = 1 then
    let f := b.rxf (j - 128)
    decide (f.rate * 1000 * rateDen (fmtRate f.format) ≤ slotPic cls * 8 * rateNum (fmtRate f.format))
  else true

/-- STALL_SET, 0x0330 (R297, R298). -/
def stallSet (ch : Nat) (p : List Byte) (b : Block) : Block :=
  let j := le p 0 2; let fl := le p 2 1
  let v := bit (bitOf fl 0) + bit (bitOf fl 1) * 2 + bit (bitOf fl 2) * 4 + bit (bitOf fl 3) * 8 + bit (bitOf fl 4) * 16 + bit (bitOf fl 5) * 32
    + le p 3 1 * 64 + le p 5 1 * 512 + le p 4 1 * 2048 + le p 6 1 * 65536
  b.command ch 0x0330 true (p.length == 16)
    [(!(decide (j ≤ 319) && decide (fl ≤ 63) && decide (le p 3 1 ≤ 4) && decide (le p 4 1 ≤ 4) && decide (le p 5 1 ≤ 2) && decide (1 ≤ le p 6 1)
        && zeros p 7 1 && decide (le p 8 4 < 2 ^ 18) && b.stallFits j (le p 8 4) (le p 4 1) && b.codedFits j (le p 4 1)), St.BAD_ARG),
     (decide (j < 256) && !b.sourceHas j, St.UNIT_ABSENT), (b.selftest 9, St.BUSY_SELFTEST)]
    [(b.stallBusy j && !(b.unchanged (W.STALL_CTRL.drop 1) j v && b.unchanged W.STALL_BASE j (le p 8 4) && b.unchanged W.STALL_ORIGIN_OFS j (le p 12 4)), St.NOT_READY),
     (bitOf fl 1 && !b.lineLockOk j (bit (bitOf fl 2)), St.NOT_READY)]
    fun b =>
      let b := (b.setFld F.STALL_BASE_BASE j (le p 8 4)).setFld F.STALL_ORIGIN_OFS_ORIGIN_OFS j (le p 12 4)
      let b := b.stallCtrlWrite j v
      -- writing STALL_SET again returns a stall that fell back to line-locked mode (R274)
      let b := b.ite (b.stallState j != 0 && b.on F.STALL_CTRL_EN j && b.on F.STALL_CTRL_MODE j) fun b =>
        (b.set F.STALL_STATUS_LL_ACTIVE j).updStall j fun s => { s with badPhase := 0, fallBack := false }
      b.ok ch []

/-- WATCH_SET, 0x0331 (R294). -/
def watchSet (ch : Nat) (p : List Byte) (b : Block) : Block :=
  let j := le p 0 2; let r := le p 2 1; let i := 4 * j + r
  b.command ch 0x0331 true (p.length == 16)
    [(!(decide (j ≤ 255) && decide (r ≤ 3) && decide (le p 3 1 ≤ 1) && decide (le p 4 2 ≤ 3839) && decide (le p 6 2 ≤ 2159) && decide (1 ≤ le p 8 2)
        && decide (le p 8 2 ≤ 3840) && decide (1 ≤ le p 10 2) && decide (le p 10 2 ≤ 2160) && decide (1 ≤ le p 12 2) && zeros p 14 2), St.BAD_ARG),
     (!b.sourceHas j, St.UNIT_ABSENT), (b.selftest 9, St.BUSY_SELFTEST)] []
    fun b =>
      let b := b.watchWrite i 1 (le p 4 2 + le p 6 2 * 65536)
      let b := b.watchWrite i 2 (le p 8 2 + le p 10 2 * 65536)
      (b.watchWrite i 0 (le p 3 1 + le p 12 2 * 65536)).ok ch []

def Block.chk (b : Block) (c : Nat) : FreshSt := b.checks.look c
def Block.updChk (b : Block) (c : Nat) (f : FreshSt → FreshSt) : Block := { b with checks := b.checks.upd c f }

/-- `EN` of checkpoint `c` went from 0 to 1: not stale, every run at 0 (R288, R291). -/
def Block.freshStart (b : Block) (c : Nat) : Block :=
  ((((b.clr F.FRESH_STATUS_STALE c).clr F.FRESH_STATUS_REASON c).clr F.FRESH_STATUS_FAIL_RUN c).clr F.FRESH_STATUS_PASS_RUN c).updChk c fun _ => default

/-- FRESH_CFG_WRITE: `FRESH_CFG`, `FRESH_LIMIT` or `FRESH_LIVE` (which 0, 1, 2) of checkpoint `c` is written (R291). -/
def freshCfgWrite (c which v : Nat) (b : Block) : Block :=
  match which with
  | 0 =>
    let was := b.on F.FRESH_CFG_EN c
    let b := b.storeWord W.FRESH_CFG c v
    b.ite (!was && b.on F.FRESH_CFG_EN c) fun b => b.freshStart c
  | 1 => b.storeWord W.FRESH_LIMIT c v
  | _ => b.storeWord W.FRESH_LIVE c v

/-- Checkpoint `c` judges a unit that is present. -/
def Block.checkHas (b : Block) (c : Nat) : Bool := if c < 256 then b.outputHas c else decide ((c - 256) / 16 < b.heads)

/-- FRESH_SET, 0x0332 (R291). -/
def freshSet (ch : Nat) (p : List Byte) (b : Block) : Block :=
  let c := le p 0 2; let fl := le p 2 1
  b.command ch 0x0332 true (p.length == 12)
    [(!(decide (c ≤ 767) && decide (fl ≤ 31) && decide (le p 3 1 ≤ 15) && decide (1000 ≤ le p 4 4) && decide (le p 4 4 ≤ 60000000) && decide (1 ≤ le p 8 1)
        && decide (le p 8 1 ≤ 15) && decide (1 ≤ le p 9 1) && decide (le p 10 1 ≤ 50) && decide (1 ≤ le p 11 1)), St.BAD_ARG),
     (!b.checkHas c, St.UNIT_ABSENT), (b.selftest 9, St.BUSY_SELFTEST)] []
    fun b =>
      let b := freshCfgWrite c 1 (le p 4 4) b
      let b := freshCfgWrite c 2 (le p 11 1) b
      (freshCfgWrite c 0 (fl + le p 3 1 * 32 + le p 8 1 * 2 ^ 9 + le p 9 1 * 2 ^ 13 + le p 10 1 * 2 ^ 21) b).ok ch []

/-- FRESH_GET_STATUS, 0x0333. -/
def freshGetStatus (ch : Nat) (p : List Byte) (b : Block) : Block :=
  let c := le p 0 2
  b.command ch 0x0333 true (p.length == 4)
    [(!(decide (c ≤ 767) && decide (le p 2 1 ≤ 1) && zeros p 3 1), St.BAD_ARG), (!b.checkHas c, St.UNIT_ABSENT)] []
    fun b =>
      let d := b.word4 W.FRESH_STATUS c ++ b.word4 W.FRESH_AGE c ++ b.word4 W.FRESH_ENTER_CNT c ++ b.word4 W.FRESH_EDGE_FRAME c
      let b := b.clr F.FRESH_ENTER_CNT_COUNT c
      (b.ite (le p 2 1 == 1) fun b => (b.clrBit F.FRESH_HIST_ENTER_ENTER (c / 32) (c % 32)).clrBit F.FRESH_HIST_EXIT_EXIT (c / 32) (c % 32)).ok ch d

/-- STALL_GET_STATUS, 0x0334. -/
def stallGetStatus (ch : Nat) (p : List Byte) (b : Block) : Block :=
  let j := le p 0 2
  b.command ch 0x0334 true (p.length == 4)
    [(!(decide (j ≤ 319) && decide (le p 2 1 ≤ 1) && zeros p 3 1), St.BAD_ARG), (decide (j < 256) && !b.sourceHas j, St.UNIT_ABSENT)] []
    fun b =>
      let cnts := [F.STALL_REPEAT_CNT_COUNT, F.STALL_DROP_CNT_COUNT, F.STALL_INCOMPLETE_CNT_COUNT, F.STALL_STAMP_ERR_CNT_COUNT]
      let d := b.word4 W.STALL_STATUS j ++ b.word4 W.STALL_HIST j ++ (cnts.map fun f => leBytes 4 (b.fld f j)).flatten
        ++ (match (b.stall j).shown with
            | some h => recBytes h.rcd
            | none => zeroBytes 64)
      let b := b.takeCounts cnts j
      (b.ite (le p 2 1 == 1) fun b => b.clearHist W.STALL_HIST j histAll).ok ch d

/-- A region holds memory of an enabled unit (R295). -/
def Block.regionUsed (b : Block) (r : Nat) : Bool :=
  match r with
  | 0 => (List.range 320).any fun j => b.stallBusy j
  | 1 => (List.range 32).any fun h => b.on F.HEAD_CFG_EN h || b.fld F.HEAD_STATUS_STATE h != 0
  | 2 => b.on F.INC_CFG_EN 0
  | 3 => (List.range 32).any fun s => b.on F.STILL_CFG_EN s
  | _ => b.on F.WIT_CFG_EN 0

/-- YARD_CARVE, 0x0335 (R295, R422). -/
def yardCarve (ch : Nat) (p : List Byte) (b : Block) : Block :=
  let new := [le p 0 1, le p 1 1, le p 2 1, le p 3 1, le p 4 1]
  let old := b.regions
  b.command ch 0x0335 true (p.length == 8)
    [(!((le p 2 1 == 0 || le p 2 1 == 10) && decide (le p 4 1 ≤ 1) && zeros p 5 3 && decide (new.sum ≤ b.yardGiB)
        && (b.isF || (le p 2 1 == 0 && le p 4 1 == 0)) && decide (64 * b.heads ≤ le p 1 1 * 1024)), St.BAD_ARG),
     (b.selftest 9, St.BUSY_SELFTEST)]
    [((List.range 5).any fun r => b.regionUsed r && !((old.take r).sum == (new.take r).sum && decide (old[r]? = new[r]?)), St.NOT_READY)]
    fun b => { b with carve := some new }.ok ch []

end Sys2Proof.Machine
end

