-- ==== Sys2Proof/Machine/FabMsg.lean ====
section
/-!
DEFINITION. The control channel of the fabric: messages, credits, routes (R316, R350 to R365), and the blocks that a lane
carries outside packets (R347, R348, R372, R373).
-/
namespace Sys2Proof.Machine

/-! ### Who is where (R12, R301, R304) -/

/-- The fabric size, and this device's fabric ID. -/
def Block.fabN (b : Block) : Nat := b.fld F.FAB_CFG_N 0
def Block.me (b : Block) : Nat := b.dev.fabId
/-- The device that port `q` connects to (R12). -/
def Block.peerOf (b : Block) (q : Nat) : Nat := (b.me + q + 1) % b.fabN
/-- The port of device `e` that connects to device `d` (R12). -/
def Block.portOf (b : Block) (e d : Nat) : Nat := (d + b.fabN - e - 1) % b.fabN
/-- This device's port to device `d`. -/
def Block.portTo (b : Block) (d : Nat) : Option Nat := if d < b.fabN ∧ d ≠ b.me then some (b.portOf b.me d) else none

def Block.fport (b : Block) (q : Nat) : FabPort := b.fabPorts.look q
def Block.updFport (b : Block) (q : Nat) (f : FabPort → FabPort) : Block := { b with fabPorts := b.fabPorts.upd q f }

/-! Peer states: 0 DOWN, 1 HELLO, 2 AUTH, 3 UP, 4 UNTRUSTED, 5 REJECTED, 6 INCOMPATIBLE. -/

def Block.peerState (b : Block) (q : Nat) : Nat := b.fld F.FAB_PORT_STATUS_PEER_STATE q
def Block.linkUp (b : Block) (q : Nat) : Bool := b.peerState q == 3
/-- The direct link to device `d` is in peer state UP. -/
def Block.upTo (b : Block) (d : Nat) : Bool :=
  match b.portTo d with
  | some q => b.linkUp q
  | none => false
/-- The latest `ADVERT` of device `r` shows its link to device `d` in peer state UP (R312). -/
def Block.advertUp (b : Block) (r d : Nat) : Bool := decide (d < b.fabN) && bitOf (b.adverts.look r).upMask (b.portOf r d)
/-- Lane 0 of the port carries keep-alive framing (R374). -/
def Block.keepAlive (b : Block) (q : Nat) : Bool := b.fld F.LANE_CTRL_POWER (256 + 4 * q) == 2

/-! ### Blocks on the lanes (R344 to R351) -/

/-- 32 bits through the scrambler x^58 + x^39 + 1 (R346): each bit with the line's bits 58 and 39 before it, which all lie before the 32. `s` holds the last
58 bits of the line, the oldest in bit 0. -/
def scramWord (s w : Nat) : Nat := Nat.xor w (Nat.xor (s % 2 ^ 32) (s / 2 ^ 19 % 2 ^ 32))
/-- The last 58 bits of the line after 32 more. -/
def scramNext (s x : Nat) : Nat := s / 2 ^ 32 + x % 2 ^ 32 * 2 ^ 26

/-- Words scrambled from a state, and the state after them (R346). -/
def scramble (s : Nat) : List Nat → Nat × List Nat
  | [] => (s, [])
  | w :: t =>
    let r := scramble (scramNext s (scramWord s w)) t
    (r.1, scramWord s w :: r.2)
/-- Words of the line descrambled (R346). -/
def descramble (s : Nat) : List Nat → Nat × List Nat
  | [] => (s, [])
  | x :: t =>
    let r := descramble (scramNext s x) t
    (r.1, scramWord s x :: r.2)

/-- Bytes as 32-bit words in the order of transmission, and words as bytes (R344). -/
def wordsOf (d : List Byte) : List Nat := (List.range (d.length / 4)).map fun i => le d (4 * i) 4
def wordBytes (l : List Nat) : List Byte := (l.map fun w => leBytes 4 w).flatten

/-- The words of a message or stroke as it goes onto the lanes, from a state of the scrambler: whole blocks, zeros behind it, the start bit on the first
(R345, R350); at NRZ four words of 64 bits a block, with sync header 0b10 on the first of the packet. -/
def lineWords (nrz : Bool) (s : Nat) (m : List Byte) : List (Nat × List Byte) :=
  let n := (m.length + 31) / 32
  let d := wordBytes (scramble s (wordsOf (padTo (32 * n) m))).2
  if nrz then (List.range (4 * n)).map fun i => (if i = 0 then 2 else 1, bytesAt d (8 * i) 8)
  else (List.range n).map fun i => (bit (i == 0), bytesAt d (32 * i) 32)

/-- The lanes that carry the packets of port `q`: all four in service, else lane 0 (R347). -/
def Block.portPath (b : Block) (q : Nat) : List Nat := if (b.port q).state = 5 then portLanes q else [256 + 4 * q]

/-- Port `q` can send packets: none while it trains (R308, R372), and none that loopback or a generator keeps off its pins (R162, R166). -/
def Block.portTalks (b : Block) (q : Nat) : Bool :=
  (b.port q).state != 3 && (b.port q).state != 4 && (b.portPath q).all fun l => b.laneSends l && b.laneState l != 7 && b.laneState l != 8

/-- Port `q` takes packets: its lanes have clock, do not train, and give it what they receive (R162, R166, R308, R372). -/
def Block.portHears (b : Block) (q : Nat) : Bool :=
  decide (q ≤ 16) && (b.port q).state != 3 && (b.port q).state != 4
    && (b.portPath q).all fun l => b.laneDelivers l && b.on F.LANE_STATUS_CDR_LOCK l && b.laneState l != 7 && b.laneState l != 8

/-- A packet shown, and its words on the lanes; the scrambler stands as idle blocks have left it, which no command gives (R346, R350). -/
def Block.putPacket (b : Block) (q : Nat) (o : Out) (m : List Byte) : Block :=
  if b.portTalks q then (b.fresh.2.emit o).emit (.line q (lineWords (!b.on F.LANE_STATUS_PAM4 (256 + 4 * q)) b.fresh.1 m)) else b

/-- The blocks of a packet descrambled, the markers left out, over which the scrambler does not advance (R346, R347): start bit, bytes, and whether its
codeword is uncorrectable (R349). `lanes` carry the port's blocks in turn; block `k` of the port frame is block `k / lanes` of its lane. -/
def packetBlocks (lanes : Nat) (pam4 : Bool) (lost : List (Nat × Nat)) : Nat → Nat → List (Bool × List Byte) → List (Bool × List Byte × Bool)
  | _, _, [] => []
  | k, s, (st, d) :: t =>
    if k % (1280 * lanes) < lanes then packetBlocks lanes pam4 lost (k + 1) s t
    else
      let r := descramble s (wordsOf d)
      (st, wordBytes r.2, pam4 && decide ((k % lanes, k / lanes / 20) ∈ lost)) :: packetBlocks lanes pam4 lost (k + 1) r.1 t

/-- The length of a packet by its first block; none for a reserved type or a length that its type does not have (R350, R353, R360). -/
def packetLen (d : List Byte) : Option Nat :=
  let t := le d 0 1
  if 1 ≤ t ∧ t ≤ 4 then (if le d 14 2 ≤ 32768 then some (40 + (le d 14 2 + 7) / 8 * 8) else none)
  else if (0x10 ≤ t ∧ t ≤ 0x16) ∨ (0x20 ≤ t ∧ t ≤ 0x22) ∨ (0x30 ≤ t ∧ t ≤ 0x33) ∨ t = 0x40 then
    (if le d 2 2 % 4 = 0 ∧ 32 ≤ le d 2 2 ∧ le d 2 2 ≤ 1024 then some (le d 2 2) else none)
  else none

/-- What a receiver makes of blocks: idle or outside a packet, a packet that fails, or its bytes (R349 to R351). -/
inductive Arrival where
  | stray
  | failed
  | whole (m : List Byte)
deriving DecidableEq, Repr

/-- The packet in descrambled blocks (R349 to R351): it fails when a block with a start bit ends it early, when one of its blocks is bad, and when its type is
reserved. -/
def arrivalOf : List (Bool × List Byte × Bool) → Arrival
  | (true, d, bad) :: t =>
    if le d 0 1 = 0 ∧ !bad then .stray
    else match packetLen d with
      | none => .failed
      | some n =>
        let more := t.take ((n + 31) / 32 - 1)
        if bad || more.length + 1 != (n + 31) / 32 || more.any (fun x => x.1 || x.2.2) then .failed
        else .whole ((d ++ (more.map fun x => x.2.1).flatten).take n)
  | _ => .stray

/-- What arrives on port `q` with a packet. -/
def Block.arrival (b : Block) (q : Nat) (p : Packet) : Arrival :=
  arrivalOf (packetBlocks (b.portPath q).length (b.on F.LANE_STATUS_PAM4 (256 + 4 * q)) p.lost p.place p.before p.blocks)

/-- A packet arrives on port `q` (R349, R351): `k` takes its bytes; in far-end loopback the partner has it back (R161). -/
def Block.packetRx (b : Block) (q : Nat) (p : Packet) (k : List Byte → Block → Block) : Block :=
  if ¬b.portHears q then b
  else
    let b := b.returned (b.portPath q) (p.blocks.map Prod.snd).flatten
    match b.arrival q p with
    | .stray => b
    | .failed => b.bump F.FAB_RX_ERR_CNT_COUNT q 1
    | .whole m => k m b

/-! ### Messages (R360, R361) -/

/-- The class of a message type (R361). -/
def msgClass (typ : Nat) : Nat :=
  if typ = 0x40 then 1 else if typ = 0x22 ∨ typ = 0x33 then 3 else if 0x20 ≤ typ then 2 else 0

/-- A message of this device without its CRC: header and body (R360). -/
def Block.mkMsg (b : Block) (typ dst tid : Nat) (body : List Byte) : List Byte :=
  leBytes 1 typ ++ [0] ++ leBytes 2 (20 + body.length) ++ leBytes 1 b.me ++ leBytes 1 dst ++ leBytes 1 (msgClass typ) ++ [0]
    ++ leBytes 4 tid ++ zeroBytes 4 ++ body

/-- The whole message: its CRC at its end (R352, R360). -/
def sealMsg (m : List Byte) : List Byte := m ++ leBytes 4 (crc32c m)
/-- The message with its `SEQ`. -/
def withSeq (m : List Byte) (s : Nat) : List Byte := m.take 12 ++ leBytes 2 s ++ m.drop 14

def msgType (m : List Byte) : Nat := le m 0 1
def msgSrc (m : List Byte) : Nat := le m 4 1
def msgDst (m : List Byte) : Nat := le m 5 1
def msgTid (m : List Byte) : Nat := le m 8 4

/-- A received message is whole: its length, its type and its CRC (R351, R360). -/
def msgOk (typ : Nat) (m : List Byte) : Bool :=
  decide (m.length = le m 2 2) && m.length % 4 == 0 && decide (32 ≤ m.length) && decide (m.length ≤ 1024) && msgType m == typ
    && le m (m.length - 4) 4 == crc32c (m.take (m.length - 4))

/-! ### Credits (R340, R362 to R364) -/

def Block.credit (b : Block) (q k : Nat) : CreditSt := (b.fport q).credits.look k
def Block.updCredit (b : Block) (q k : Nat) (f : CreditSt → CreditSt) : Block :=
  b.updFport q fun s => { s with credits := s.credits.upd k f }

/-- The buffers announced for a class, 0 taken as 1 (R362). -/
def buffersOf (k : Nat) : Nat := max 1 (Config.buffers k % 256)

/-- A message may leave on port `q` now: a credit of its class, and for a request of this device a free response buffer (R340). -/
def Block.mayLeave (b : Block) (q : Nat) (m : List Byte) : Bool :=
  let c := b.credit q (msgClass (msgType m))
  decide ((c.sent + 65536 - c.peerFreed) % 65536 < c.ann)
    && (msgClass (msgType m) != 2 || msgSrc m != b.me || decide (b.asks.length ≤ buffersOf 3))

/-- A message leaves on port `q`. -/
def Block.putMsg (b : Block) (q : Nat) (m : List Byte) : Block :=
  let k := msgClass (msgType m)
  if k = 0 then b.putPacket q (.ctrl q (sealMsg m)) (sealMsg m)
  else
    let m := sealMsg (withSeq m (b.credit q k).txSeq)
    (b.updCredit q k fun c => { c with sent := (c.sent + 1) % 65536, txSeq := (c.txSeq + 1) % 65536 }).putPacket q (.ctrl q m) m

/-- A message for port `q`: it leaves, or waits for a credit of its class behind those that wait (R338). -/
def Block.portSend (b : Block) (q : Nat) (m : List Byte) : Block :=
  let k := msgClass (msgType m)
  if k = 0 then b.putMsg q m
  else if b.mayLeave q m ∧ ((b.fport q).waitq.all fun w => msgClass (msgType w) != k) then b.putMsg q m
  else b.updFport q fun s => { s with waitq := s.waitq ++ [m] }

/-- The messages that wait on port `q` and may leave now, in order within each class. -/
def Block.drain (b : Block) (q : Nat) : Block :=
  let w := (b.fport q).waitq
  (b.updFport q fun s => { s with waitq := [] }).each w fun b m => b.portSend q m

/-! ### Routes (R316, R365) -/

/-- The port through which a message for device `d` leaves: the direct link, or the lowest-numbered relay (R316). -/
def Block.route (b : Block) (d : Nat) : Option Nat :=
  if b.upTo d then b.portTo d
  else
    match (List.range b.fabN).find? fun r => r != b.me && r != d && b.upTo r && b.advertUp r d with
    | some r => b.portTo r
    | none => none

/-- A message sent to device `d` (R316); with no route it is lost, and its timer resends it. -/
def Block.sendTo (b : Block) (d : Nat) (m : List Byte) : Block :=
  match b.route d with
  | some q => b.portSend q m
  | none => b

/-- A received message for another device forwarded, `RELAYED` set; one that was relayed before is discarded (R365). -/
def Block.forward (b : Block) (m : List Byte) : Block :=
  if bitOf (le m 1 1) 0 then b else b.sendTo (msgDst m) (m.take 1 ++ [1] ++ (m.take (m.length - 4)).drop 2)

/-- The classes of link-local messages a port takes in its state: hellos and keep-alives always; `AUTH` in AUTH, the others in UP, and
neither in keep-alive (R307, R374, R375). -/
def Block.localOk (b : Block) (q typ : Nat) : Bool :=
  typ == 0x10 || typ == 0x15 || typ == 0x16 || (!b.keepAlive q && ((typ == 0x11 && b.peerState q == 2) || (0x12 ≤ typ && b.linkUp q)))

/-- A control message of type `typ` arrives on port `q` (R351, R361 to R365): checked, gated by the peer state, its place in `SEQ`
noted, forwarded when it is for another device, and its buffer freed after `k` has consumed it. -/
def Block.ctrlRx (b : Block) (q typ : Nat) (p : Packet) (k : List Byte → Block → Block) : Block :=
  b.packetRx q p fun m b =>
    if ¬msgOk typ m then b.bump F.FAB_RX_ERR_CNT_COUNT q 1
    else if msgClass typ = 0 then (if b.localOk q typ then k m b else b)
    else if b.keepAlive q ∨ ¬b.linkUp q then b
    else
      let c := msgClass typ
      let s := le m 12 2
      let b := b.updCredit q c fun x => { x with freed := (x.freed + (s + 65536 - x.rxSeq)) % 65536, rxSeq := (s + 1) % 65536 }
      let b := if msgDst m = b.me then k m b else b.forward m
      b.updCredit q c fun x => { x with freed := (x.freed + 1) % 65536 }

/-- CREDIT_RX: a `CREDIT` arrives (R362, R363). -/
def creditRx (q : Nat) (p : Packet) (b : Block) : Block :=
  b.ctrlRx q 0x14 p fun m b =>
    let b := b.each [1, 2, 3] fun b k =>
      let next := le m (20 + 2 * k) 2
      b.updCredit q k fun x => { x with peerFreed := le m (14 + 2 * k) 2, freed := (x.freed + (next + 65536 - x.rxSeq)) % 65536, rxSeq := next }
    b.drain q

/-- The `CREDIT` that port `q` sends (R362, R363). -/
def Block.sendCredit (b : Block) (q : Nat) : Block :=
  b.putMsg q (b.mkMsg 0x14 (b.peerOf q) 0
    (([1, 2, 3].map fun k => leBytes 2 (b.credit q k).freed).flatten ++ ([1, 2, 3].map fun k => leBytes 2 (b.credit q k).txSeq).flatten))

/-- CREDIT_SEND: a `CREDIT` is sent on a port that is UP (R376). -/
def creditSend (q : Nat) (b : Block) : Block := if b.linkUp q then b.sendCredit q else b

/-! ### Markers and training blocks (R347, R348, R372, R373) -/

/-- A 32-byte block of type `t` whose CRC is right (R352). -/
def blockOk (t : Nat) (m : List Byte) : Bool := m.length == 32 && le m 0 1 == t && le m 28 4 == crc32c (m.take 28)

/-- Block lock after a lane frame whose marker was there or not: gained after two, lost after four (R348); the loss is a loss of lock
(R155). -/
def Block.markerSeen (b : Block) (l : Nat) (good : Bool) : Block :=
  if good then
    let b := b.updLane l fun s => { s with goodRun := s.goodRun + 1, badRun := 0 }
    let q := (l - 256) / 4
    if 2 ≤ (b.lane l).goodRun ∧ l % 4 = 0 ∧ (b.port q).state = 1 ∧ b.fld F.LANE_CTRL_POWER l = 0 ∧ b.on F.LANE_STATUS_CDR_LOCK l then b.updPort q fun s => { s with state := 2 } else b
  else
    let locked := decide (2 ≤ (b.lane l).goodRun)
    let b := b.updLane l fun s => { s with badRun := s.badRun + 1, goodRun := if locked then s.goodRun else 0 }
    if locked ∧ 4 ≤ (b.lane l).badRun then laneCondition l 1 (b.updLane l fun s => { s with goodRun := 0, badRun := 0 }) else b

/-- MARKER_BLOCK_RX: the block at the place of the marker of a lane frame of fabric lane `l`, empty where none came (R347, R348). The frame count goes on
over a marker that fails. -/
def markerBlockRx (l : Nat) (m : List Byte) (b : Block) : Block :=
  if laneClass l = .fabric ∧ b.laneDelivers l then
    let ok := blockOk 0xF0 m
    (b.updLane l fun s => { s with frameCnt := if ok then le m 4 4 else (s.frameCnt + 1) % 2 ^ 32 }).markerSeen l ok
  else b

/-- The transmit taps in the order of `REQUEST` (R372). -/
def tapFields : List Field := [F.TX_EQ_PRE2, F.TX_EQ_PRE1, F.TX_EQ_MAIN, F.TX_EQ_POST1]

/-- One tap asked to hold (0), increase (1) or decrease (2); the response is 1 when it was applied, 3 when R149 refuses it. -/
def Block.tapStep (b : Block) (l i req : Nat) : Nat × Block :=
  match tapFields[i]? with
  | none => (0, b)
  | some f =>
    if req = 1 ∨ req = 2 then
      let c := b.setSfld f l (b.sfld f l + (if req = 1 then 1 else -1))
      if txEqOk (c.wordOf tapFields l) then (1, c) else (3, b)
    else (0, b)

/-- The coefficient request and the preset bit of a training block applied to the transmit taps, and the response (R149, R150, R372). -/
def Block.takeRequest (b : Block) (l : Nat) (m : List Byte) : Block :=
  let b := b.ite (le m 4 1 == 1) fun b => b.txPreset l
  let r := (List.range 4).foldl (fun (s : Nat × Block) i =>
    let t := s.2.tapStep l i (bitsOf (le m 2 1) (2 * i) 2)
    (s.1 + t.1 * 2 ^ (2 * i), t.2)) (0, b)
  r.2.updLane l fun s => { s with response := r.1 }

/-- The pattern of a marker and of a training block (R347). -/
def markerPattern : List Byte := [0x3C, 0xA5, 0x69, 0x96, 0xC3, 0x5A, 0x0F, 0xF0]

/-- The training block that lane `l` sends in its next lane frame (R372): what its receiver asks of the partner is the channel's, a free value of hold,
increase or decrease for each tap and of the preset bit. -/
def Block.sendTraining (b : Block) (l : Nat) (ready : Bool) : Block :=
  let f := b.fresh.1; let b := b.fresh.2
  let req := f % 3 + f / 3 % 3 * 4 + f / 9 % 3 * 16 + f / 27 % 3 * 64
  let m := leBytes 1 0xF1 ++ leBytes 1 (l % 4) ++ leBytes 1 req ++ leBytes 1 (b.lane l).response ++ leBytes 1 (f / 81 % 2) ++ leBytes 1 (bit ready)
    ++ zeroBytes 2 ++ markerPattern ++ zeroBytes 12
  b.ite (b.laneSends l) fun b => b.emit (.training l (m ++ leBytes 4 (crc32c m)))

/-- TRAINING_BLOCK_RX: a training block arrives on lane `l`; `ready` says that this receiver is trained (R372, R373). On an Ethernet lane that trains at code
2 it is the coefficient request of that link's own training (R150, R223). -/
def trainingBlockRx (l : Nat) (m : List Byte) (ready : Bool) (b : Block) : Block :=
  if laneClass l = .fabric ∧ trainState (b.laneState l) ∧ b.laneDelivers l then
    let ok := blockOk 0xF1 m
    let b := b.markerSeen l ok
    let b := b.ite ok fun b => (b.takeRequest l m).updLane l fun s => { s with readyRun := if ready && bitOf (le m 5 1) 0 then s.readyRun + 1 else 0 }
    b.ite (trainState (b.laneState l)) fun b => b.sendTraining l ready
  else if laneClass l = .ethernet ∧ b.fld F.LANE_STATUS_RATE_NOW l = 2 ∧ (b.laneState l = 3 ∨ trainState (b.laneState l)) ∧ b.laneDelivers l ∧ blockOk 0xF1 m then
    b.takeRequest l m
  else b

/-- LANE_TRAINED: both `RX_READY` bits have held for four lane frames; when every lane is trained, verification starts (R145, R373). -/
def laneTrained (l : Nat) (b : Block) : Block :=
  let q := (l - 256) / 4
  if laneClass l = .fabric ∧ b.laneState l = 4 ∧ 4 ≤ (b.lane l).readyRun then
    let b := b.updLane l fun s => { s with trained := true }
    if (b.port q).state = 3 ∧ ((portLanes q).all fun l => (b.lane l).trained) then
      (b.each (portLanes q) fun b l =>
        (b.setLane l 5).portPattern l (if b.on F.LANE_STATUS_PAM4 l then 6 else 4)).updPort q fun s => { s with state := 4 }
    else b
  else b

/-- RATE_SWITCH: the agreed switch frame passes, the partner's frame of its `SWITCH_AT`, and all four lanes start training at the chosen rate (R145,
R366). -/
def rateSwitch (q : Nat) (b : Block) : Block :=
  if (b.port q).state = 2 ∧ (b.fport q).peerHello ≠ [] ∧ (b.lane (256 + 4 * q)).frameCnt = le (b.fport q).peerHello 68 4 then
    (b.updPort q fun s => { s with state := 3, fails := 0 }).trainLanes q (b.port q).rate (portLanes q)
  else b

end Sys2Proof.Machine
end

