-- ==== Sys2Proof/Machine/Grants.lean ====
section
/-!
DEFINITION. Seats and grants: what a stream costs, admission at a source and at a relay, release, and the requests that a source
or relay takes (R317 to R330, R370, R737).
-/
namespace Sys2Proof.Machine

/-! ### What a stream costs (R324) -/

/-- The seats of a serial format (R324); no format costs nothing. -/
def fmtSeats (c : Nat) : Nat := if fmtOk c then 2 ^ fmtClass c else 0
/-- The seats of an audio-only stream. -/
def audioSeats (channels : Nat) : Nat := (channels * 1152 + 749999) / 750000
/-- The seats of a declared rate in kb/s. -/
def rateSeats (kbps : Nat) : Nat := (kbps + 749999) / 750000

/-- The format of the frame that the consumers of stall `j` read, 0 for none. -/
def Block.shownFormat (b : Block) (j : Nat) : Nat :=
  match (b.stall j).shown with
  | some h => h.rcd.format
  | none => 0

/-- The current format of local source `s`, 0 while it has none and for a kind 1 source (R324, R353). -/
def Block.srcFormat (b : Block) (s : Nat) : Nat :=
  if s < 128 then (if b.fld F.SDI_RX_STATUS_STATE s = 2 then b.fld F.SDI_RX_STATUS_FMT_NOW s else b.shownFormat s)
  else if s < 256 then b.shownFormat s
  else if s < 288 then (if b.fld F.HEAD_STATUS_STATE (s - 256) = 0 then 0 else b.fld F.HEAD_CFG_FORMAT (s - 256))
  else if s < 320 then (if b.on F.STILL_CFG_EN (s - 288) ∧ b.fld F.STILL_FSEQ_FSEQ (s - 288) ≠ 0 then b.fld F.STILL_CFG_FORMAT (s - 288) else 0)
  else Config.patternFormat (s - 320)

/-- Source `s` is an IP flow of kind 1 that has delivered a frame. -/
def Block.srcKind1 (b : Block) (s : Nat) : Bool :=
  decide (128 ≤ s) && decide (s < 256) && b.fld F.IPM_RX_CFG_KIND (s - 128) == 1 && (b.stall s).shown.isSome

/-- The current cost of content 0 to 2 of local source `s` (R324). -/
def Block.srcCost (b : Block) (s content channels : Nat) : Nat :=
  match content with
  | 0 => if b.srcKind1 s then rateSeats (b.flowRx.look (s - 128)).rate else fmtSeats (b.srcFormat s)
  | 1 => audioSeats channels
  | _ => 1

/-- The timeline of local source `s`. -/
def Block.srcTl (b : Block) (s : Nat) : Nat :=
  if s < 256 then b.fld F.STALL_CTRL_TL s
  else if s < 288 then b.fld F.HEAD_CFG_TL (s - 256)
  else if s < 320 then b.fld F.STILL_CFG_TL (s - 288)
  else fmtTl (b.srcFormat s)

/-! ### Seats of a port (R325, R326) -/

/-- Seats of a rate code. -/
def rateCodeSeats (r : Nat) : Nat := match r with
  | 4 => 544 | 3 => 513 | 2 => 256 | 1 => 127 | _ => 51
/-- The seats that down-spread code `d` takes, rounded up (R143, R326). -/
def spreadSeats (n d : Nat) : Nat := match d with
  | 0 => 0 | 1 => (n + 999) / 1000 | 2 => (n + 399) / 400 | _ => (n + 199) / 200

/-- The media seats of port `q` (R325, R326). -/
def Block.mediaSeats (b : Block) (q : Nat) : Nat :=
  if (b.port q).state = 5 then rateCodeSeats (b.port q).rate - 16 - spreadSeats (rateCodeSeats (b.port q).rate) (b.port q).ssc else 0

/-! Grant states: 1 GRANTED, 2 HELD, 3 RELEASING. -/

def Grant.on (g : Grant) (q stream : Nat) : Bool := g.port == q && g.stream == stream
/-- The charge of a stream on a port among some grants: the largest seat count of its subscriptions there (R330). -/
def chargeOf (gs : List Grant) (q stream : Nat) : Nat := (gs.filter fun g => g.on q stream).foldl (fun a g => max a g.seats) 0
/-- The seats charged on a port among some grants. -/
def grantedOf (gs : List Grant) (q : Nat) : Nat := (((gs.filter fun g => g.port == q).map Grant.stream).dedup.map fun st => chargeOf gs q st).sum
/-- The free media seats of port `q` (R312): none while the port is not UP. -/
def Block.freeSeats (b : Block) (q : Nat) : Nat := if b.linkUp q then b.mediaSeats q - grantedOf b.grants q else 0

/-- The grant of a content of a stream to a subscriber on a path, at a hop. -/
def Grant.is (g : Grant) (stream content sub relay hop : Nat) : Bool :=
  g.stream == stream && g.content == content && g.sub == sub && g.relay == relay && g.hop == hop
def Block.grantOf (b : Block) (stream content sub relay hop : Nat) : Option Grant := b.grants.find? fun g => g.is stream content sub relay hop
def Block.mapGrants (b : Block) (p : Grant → Bool) (f : Grant → Grant) : Block := { b with grants := b.grants.map fun g => if p g then f g else g }
def Block.dropGrants (b : Block) (p : Grant → Bool) : Block := { b with grants := b.grants.filter fun g => !p g }

/-- The subscribers of source `s` and those in HELD (R323), and its `FAB_SRC_SEATS`. -/
def Block.srcGrants (b : Block) (s : Nat) : List Grant := b.grants.filter fun g => g.stream == b.me * 512 + s && g.hop == 1
def subMask (gs : List Grant) : Nat := ((gs.map Grant.sub).dedup.map fun d => 2 ^ d).sum
def Block.srcSubs (b : Block) (s : Nat) : Nat := subMask (b.srcGrants s)
def Block.srcHeld (b : Block) (s : Nat) : Nat := subMask ((b.srcGrants s).filter fun g => g.state == 2)
def Block.srcSeats (b : Block) (s : Nat) : Nat :=
  (b.srcGrants s).foldl (fun a g => max a g.seats) 0 % 256 + ((b.srcGrants s).map Grant.port).dedup.length % 32 * 256

/-! ### Admission and release (R319 to R322, R330) -/

/-- A hop admitted on port `q`, or its grant grown, and the status (R319, R320, R330). -/
def Block.admitCopy (b : Block) (q hop stream content sub relay seats channels tl : Nat) : Nat × Block :=
  let next := (b.tlFrame tl + 1) % 2 ^ 48
  let fits := decide (seats - chargeOf b.grants q stream ≤ b.freeSeats q)
  match b.grantOf stream content sub relay hop with
  | some g =>
    if seats ≤ g.seats ∧ g.state = 1 then (St.OK, b)
    else if fits then
      (St.OK, b.mapGrants (fun x => x.is stream content sub relay hop) fun x =>
        { x with seats := max x.seats seats, state := 1, stop := none, start := if x.state = 1 ∨ x.stop = some next then x.start else next })
    else (St.NO_SEATS, b)
  | none =>
    if fits then
      (St.OK, { b with grants := b.grants ++ [⟨stream, content, sub, relay, hop, q, seats, channels, tl, 1, next, none⟩] })
    else (St.NO_SEATS, b)

/-- A hop released: GRANTED stops at the next frame start, HELD is freed at once (R321, R322). -/
def Block.releaseHop (b : Block) (stream content sub relay hop : Nat) : Block :=
  match b.grantOf stream content sub relay hop with
  | some g =>
    if g.state = 1 then b.mapGrants (fun x => x.is stream content sub relay hop) fun x => { x with state := 3, stop := some ((b.tlFrame g.tl + 1) % 2 ^ 48) }
    else if g.state = 2 then b.dropGrants fun x => x.is stream content sub relay hop
    else b
  | none => b

/-- RELEASE_FREE: two frames after a release, the seats are freed (R321). -/
def releaseFree (stream content sub relay hop : Nat) (b : Block) : Block :=
  b.dropGrants fun g => g.is stream content sub relay hop && g.state == 3

/-! ### Transactions (R317, R318) -/

/-- A request of this device sent for the first time: it waits for its answer, `kind` as in `Ask`. -/
def Block.startAsk (b : Block) (a : Ask) : Block :=
  { b with asks := b.asks ++ [a] }.sendTo a.dst (b.mkMsg (if a.kind = 0 ∨ a.kind = 2 then 0x20 else 0x21) a.dst a.tid a.body)

def Block.dropAsk (b : Block) (a : Ask) : Block := { b with asks := b.asks.erase a }

/-- The body of a `GRANT` (R370). -/
def grantBody (status seats path stream content start : Nat) : List Byte :=
  leBytes 2 status ++ leBytes 1 seats ++ leBytes 1 path ++ leBytes 2 stream ++ leBytes 1 content ++ [0] ++ leBytes 4 start

/-- The response to a request of `dst` under transaction ID `tid` is stored and sent (R317). `key` is the subscriber, or 32 and the relay. -/
def Block.respond (b : Block) (key dst tid : Nat) (body : List Byte) : Block :=
  let m := b.mkMsg 0x22 dst tid body
  let b := { b with stored := b.stored.upd key fun l => l.map fun (s : Stored) => if s.tid = tid then ⟨tid, some m⟩ else s }
  b.sendTo dst m

/-- A request is new, is answered from the stored responses, or is still acted on (R317). -/
def Block.request (b : Block) (key dst tid : Nat) (k : Block → Block) : Block :=
  match (b.stored.look key).find? fun s => s.tid == tid with
  | some ⟨_, some m⟩ => b.sendTo dst m
  | some ⟨_, none⟩ => b
  | none => k { b with stored := b.stored.upd key fun l => (⟨tid, none⟩ :: l).take 1024 }

/-- The body of `SUBSCRIBE` and `RELEASE` (R370). -/
def subBody (stream content seats sub relay channels hop tl : Nat) : List Byte :=
  leBytes 2 stream ++ leBytes 1 content ++ leBytes 1 seats ++ leBytes 1 sub ++ leBytes 1 relay ++ leBytes 2 channels ++ leBytes 1 hop
    ++ leBytes 1 tl ++ zeroBytes 2

/-- The path byte of a relay field (R370). -/
def pathOf (relay : Nat) : Nat := if relay = 0x1F then 0xFE else relay
/-- The relay field of a path byte. -/
def relayOf (path : Nat) : Nat := if path = 0xFE then 0x1F else path

/-! ### Requests at the source (R328, R330, R370) -/

/-- A `HOP` 1 `SUBSCRIBE` at the source. -/
def Block.subscribeHop1 (b : Block) (stream content seats sub relay channels tid : Nat) : Block :=
  let s := stream % 512
  let no (b : Block) (st : Nat) : Block := b.respond sub sub tid (grantBody st 0 0xFF stream content 0)
  let cost := b.srcCost s content channels
  let n := if seats = 0 then cost else seats
  if stream / 512 ≠ b.me ∨ 2 < content ∨ 336 ≤ s ∨ b.quadSource s then no b St.BAD_ARG
  else if ¬b.sourceHas s then no b St.UNIT_ABSENT
  else if n < cost then no b St.BAD_ARG
  else
    match b.portTo (if relay = 0x1F then sub else relay) with
    | none => no b St.NO_ROUTE
    | some q =>
      if ¬b.linkUp q then no b St.NO_ROUTE
      else
        let old := b.grantOf stream content sub relay 1
        let r := b.admitCopy q 1 stream content sub relay n channels (b.srcTl s)
        if r.1 ≠ St.OK then no r.2 r.1
        else
          match r.2.grantOf stream content sub relay 1 with
          | none => r.2
          | some g =>
            if relay = 0x1F then r.2.respond sub sub tid (grantBody St.OK g.seats 0xFE stream content g.start)
            else r.2.startAsk ⟨2, tid, relay, 1, subBody stream content n sub relay channels 2 g.tl, 0, sub, tid,
              (match old with | some o => o.state | none => 0), (match old with | some o => o.seats | none => 0)⟩

/-- The relayed stream hops that this device serves: each stream on each of its ports, once (R311, R330). -/
def Block.relayHops (b : Block) : List (Nat × Nat) := ((b.grants.filter fun g => g.hop == 2).map fun g => (g.stream, g.port)).dedup

/-- A `HOP` 2 `SUBSCRIBE` at the relay (R311, R330). -/
def Block.subscribeHop2 (b : Block) (src stream content seats sub relay channels tl tid : Nat) : Block :=
  let no (st : Nat) : Block := b.respond sub src tid (grantBody st 0 0xFF stream content 0)
  match b.portTo sub with
  | none => no St.NO_ROUTE
  | some q =>
    if ¬b.linkUp q then no St.NO_ROUTE
    else if (stream, q) ∉ b.relayHops ∧ 128 ≤ b.relayHops.length then no St.NO_SEATS
    else
      let r := b.admitCopy q 2 stream content sub relay seats channels (tl % 2)
      if r.1 ≠ St.OK then no r.1
      else
        match r.2.grantOf stream content sub relay 2 with
        | none => r.2
        | some g => r.2.respond sub src tid (grantBody St.OK g.seats relay stream content g.start)

/-- SUBSCRIBE_RX: a `SUBSCRIBE` arrives on port `q` (R317, R319, R330, R365, R370). -/
def subscribeRx (q : Nat) (p : Packet) (b : Block) : Block :=
  b.ctrlRx q 0x20 p fun m b =>
    b.request (le m 20 1) (msgSrc m) (msgTid m) fun b =>
      if le m 24 1 = 1 then b.subscribeHop1 (le m 16 2) (le m 18 1) (le m 19 1) (le m 20 1) (le m 21 1) (le m 22 2) (msgTid m)
      else b.subscribeHop2 (msgSrc m) (le m 16 2) (le m 18 1) (le m 19 1) (le m 20 1) (le m 21 1) (le m 22 2) (le m 25 1) (msgTid m)

/-- RELEASE_RX: a `RELEASE` arrives on port `q` (R321, R365, R370). -/
def releaseRx (q : Nat) (p : Packet) (b : Block) : Block :=
  b.ctrlRx q 0x21 p fun m b =>
    let stream := le m 16 2; let content := le m 18 1; let sub := le m 20 1; let relay := le m 21 1; let tid := msgTid m; let src := msgSrc m
    let yes (b : Block) (key dst : Nat) : Block := b.respond key dst tid (grantBody St.OK 0 0xFF stream content 0)
    if le m 24 1 = 3 then
      b.request (32 + src) src tid fun b => yes (b.releaseHop stream content sub src 1) (32 + src) src
    else b.request sub src tid fun b =>
      if le m 24 1 = 1 then
        let live := b.grantOf stream content sub relay 1
        let b := b.releaseHop stream content sub relay 1
        match live with
        | some g => if relay = 0x1F then yes b sub sub
          else b.startAsk ⟨3, tid, relay, 1, subBody stream content 0 sub relay 0 2 g.tl, 0, sub, tid, 0, 0⟩
        | none => yes b sub sub
      else yes (b.releaseHop stream content sub relay 2) sub src

/-- A relay's hop has ended by itself: `HOP` 3 to the source (R370). -/
def Block.hopEnded (b : Block) (g : Grant) : Block :=
  let b := { b with tid := (b.tid + 1) % 2 ^ 32 }
  b.startAsk ⟨4, b.tid, g.stream / 512, 1, subBody g.stream g.content 0 g.sub g.relay 0 3 g.tl, 0, 0, 0, 0, 0⟩

/-- HOLD_EXPIRY: `HOLD_MS` elapses for a HELD grant (R322, R370). -/
def holdExpiry (stream content sub relay hop : Nat) (b : Block) : Block :=
  match b.grantOf stream content sub relay hop with
  | some g =>
    if g.state = 2 then
      let b := b.dropGrants fun x => x.is stream content sub relay hop
      if hop = 2 then b.hopEnded g else b
    else b
  | none => b

/-- The relay's answer to a `HOP` 2 request of this source (R330, R370). -/
def Block.hop2Answer (b : Block) (a : Ask) (status start : Nat) : Block :=
  let stream := le a.body 0 2; let content := le a.body 2 1; let sub := a.origin; let relay := a.dst
  let b := b.dropAsk a
  if a.kind = 3 then b.respond sub sub a.originTid (grantBody St.OK 0 0xFF stream content 0)
  else if status = St.OK then
    let seats := match b.grantOf stream content sub relay 1 with
      | some g => g.seats
      | none => 0
    b.respond sub sub a.originTid (grantBody St.OK seats relay stream content start)
  else
    let b := if a.wasState = 0 then b.releaseHop stream content sub relay 1
      else b.mapGrants (fun x => x.is stream content sub relay 1) fun x => { x with seats := a.wasSeats }
    b.respond sub sub a.originTid (grantBody status 0 0xFF stream content 0)

/-! ### Paths lost and back, boot epochs (R322, R737) -/

/-- The ports a grant's path uses at this device: its own, and for a relay the one to the source. -/
def Block.grantUses (b : Block) (g : Grant) (q : Nat) : Bool := g.port == q || (g.hop == 2 && b.portTo (g.stream / 512) == some q)

/-- The link of port `q` leaves UP: its grants are held (R322). -/
def Block.holdGrants (b : Block) (q : Nat) : Block := b.mapGrants (fun g => g.state == 1 && b.grantUses g q) fun g => { g with state := 2 }

/-- The order in which grants resume (R737). -/
def grantBefore (a c : Grant) : Bool := decide (a.stream < c.stream) || (a.stream == c.stream && decide (a.sub ≤ c.sub))

/-- One HELD grant when its links are UP again: resumed while the port still holds it, else freed (R737). -/
def Block.resumeOne (b : Block) (g : Grant) : Block :=
  let live := b.grants.filter fun x => x.state != 2
  let me (x : Grant) : Bool := x.is g.stream g.content g.sub g.relay g.hop
  if g.seats - chargeOf live g.port g.stream ≤ b.mediaSeats g.port - grantedOf live g.port then
    b.mapGrants me fun x => { x with state := 1, start := (b.tlFrame g.tl + 1) % 2 ^ 48, stop := none }
  else (b.dropGrants me).set F.FAB_PORT_HIST_SEAT_OVER g.port

/-- The link of port `q` is UP again: its HELD grants resume in order (R737). -/
def Block.resumeGrants (b : Block) (q : Nat) : Block :=
  let ready (g : Grant) : Bool := g.state == 2 && b.grantUses g q && b.linkUp g.port && (g.hop == 1 || b.upTo (g.stream / 512))
  b.each ((b.grants.filter ready).insertionSort fun a c => grantBefore a c = true) fun b g => b.resumeOne g

/-- Device `d`, heard on port `q`, has a new boot epoch: the grants to it or through it are freed, its transactions forgotten (R317, R322). -/
def Block.newEpoch (b : Block) (q d : Nat) : Block :=
  let gone (g : Grant) : Bool := g.sub == d || (g.hop == 1 && g.relay == d)
  let relayed := b.grants.filter fun g => gone g && g.hop == 2
  let b := (b.dropGrants gone).set F.FAB_PORT_HIST_NEW_EPOCH q
  let b := { b with stored := b.stored.put d [] }
  b.each relayed fun b g => b.hopEnded g

/-! ### Growth (R329) -/

def wKey (q stream : Nat) : Nat := q * 16384 + stream

/-- GRANT_GROW_ATTEMPT: a frame of source `s` starts: on port `q` its stream is sent, withheld because its cost is above its grant, or its
grant is grown (R329). -/
def grantGrowAttempt (q s : Nat) (b : Block) : Block :=
  let stream := b.me * 512 + s
  let video (g : Grant) : Bool := g.on q stream && g.hop == 1 && g.content == 0 && g.state == 1
  if b.grants.any video then
    let cost := b.srcCost s 0 0
    let held := chargeOf (b.grants.filter video) q stream
    if cost ≤ held then { b with withheld := b.withheld.put (wKey q stream) false }
    else if b.on F.FAB_CFG_AUTO_GROW 0 ∧ cost - chargeOf b.grants q stream ≤ b.freeSeats q then
      { b.mapGrants video fun g => { g with seats := cost } with withheld := b.withheld.put (wKey q stream) false }
    else { b with withheld := b.withheld.put (wKey q stream) true }
  else b

end Sys2Proof.Machine
end

