-- ==== Sys2Proof/Machine/Subs.lean ====
section
/-!
DEFINITION. The subscriber: relays, requests, reroutes, releases, and the subscription commands (R309 to R319, R342).
-/
namespace Sys2Proof.Machine

/-! ### Names -/

/-- The bow copy of a stream, and copy `c` of it. -/
def bowStream (st : Nat) : Nat := if st / 512 % 2 = 1 then st - 512 else st
def subKey (bow content : Nat) : Nat := bow * 4 + content
def Block.sub (b : Block) (k : Nat) : SubSt := b.subs.look k
def Block.updSub (b : Block) (k : Nat) (f : SubSt → SubSt) : Block := { b with subs := b.subs.upd k f }
def SubSt.copy (e : SubSt) (c : Nat) : CopySt := if c = 0 then e.bow else e.stern
def Block.updCopy (b : Block) (k c : Nat) (f : CopySt → CopySt) : Block :=
  b.updSub k fun e => if c = 0 then { e with bow := f e.bow } else { e with stern := f e.stern }
/-- The stream is held by the host or by a take (R342, R398). -/
def SubSt.heldBy (e : SubSt) : Bool := e.host || decide (0 < e.count)
/-- The source device of copy `c`. -/
def SubSt.source (e : SubSt) (c : Nat) : Nat := e.stream / 512 + c

/-! ### Rings (R10) -/

/-- The ring of a received stream. -/
def Block.ringOf (b : Block) (bow : Nat) : Option Nat :=
  (List.range 320).find? fun i => b.on F.FAB_RX_STREAM_EN i && b.fld F.FAB_RX_STREAM_STREAM i == bow
/-- A ring taken for a stream; the 321st stream has none, and its strokes are discarded. -/
def Block.takeRing (b : Block) (bow : Nat) : Block :=
  if (b.ringOf bow).isSome then b
  else match (List.range 320).find? fun i => !b.on F.FAB_RX_STREAM_EN i with
    | some i => (b.setFld F.FAB_RX_STREAM_STREAM i bow).set F.FAB_RX_STREAM_EN i
    | none => b
/-- The ring of a stream that nothing holds any more is given back. -/
def Block.dropRing (b : Block) (bow : Nat) : Block :=
  if (List.range 3).any fun c => (b.sub (subKey bow c)).heldBy then b
  else match b.ringOf bow with
    | some i => { W.FAB_RX_STREAM.foldl (fun b f => b.clr f i) b with rings := b.rings.put i default }
    | none => b

/-! ### Paths (R309, R313, R314) -/

/-- A path to device `s` is up: direct (0xFE), or through a relay (R309, R314). -/
def Block.pathUp (b : Block) (s path : Nat) : Bool :=
  if path = 0xFE then b.upTo s else if path = 0xFF ∨ path = s then false else b.upTo path && b.advertUp path s

/-- A relay chosen in this batch: source, relay, seats. -/
abbrev Taken := List (Nat × Nat × Nat)

/-- The free seats that device `e` advertises toward device `d`. -/
def Block.advertFree (b : Block) (e d : Nat) : Nat :=
  let v := ((b.adverts.look e).free[b.portOf e d]?).getD 0
  if v = 0xFFFF then 0 else v

/-- What a relay offers between source `s` and this device, less the choices of the batch (R313). -/
def Block.relayValue (b : Block) (s r : Nat) (taken : Taken) : Nat :=
  min (b.advertFree s r - ((taken.filter fun t => t.1 == s && t.2.1 == r).map fun t => t.2.2).sum)
    (b.advertFree r b.me - ((taken.filter fun t => t.2.1 == r).map fun t => t.2.2).sum)

/-- The relay chosen for source `s` and a seat cost (R313); ties go to the lowest fabric ID. -/
def Block.chooseRelay (b : Block) (s cost : Nat) (taken : Taken) : Option Nat :=
  let ok (r : Nat) : Bool := r != b.me && r != s && b.pathUp s r && decide (cost ≤ b.relayValue s r taken)
    && decide ((taken.filter fun t => t.2.1 == r).length < (b.adverts.look r).transit)
  ((List.range b.fabN).filter ok).foldl (fun best r =>
    match best with
    | none => some r
    | some p => if b.relayValue s p taken < b.relayValue s r taken then some r else some p) none

/-- The seat cost that R313 uses for a copy: its `SEATS`, else the cost that its last stroke or its channels give. -/
def Block.copyCost (b : Block) (e : SubSt) (x : CopySt) : Nat :=
  if x.seats ≠ 0 then x.seats
  else match e.content with
    | 0 => (match b.ringOf e.stream with
      | some i => fmtSeats (b.rings.look i).fmt
      | none => 0)
    | 1 => audioSeats e.channels
    | _ => 1

/-- The path for a copy: pinned, direct, or through a relay (R313, R314). -/
def Block.choosePath (b : Block) (pin s cost : Nat) (taken : Taken) : Option Nat :=
  if pin = 0xFF then (if b.upTo s then some 0xFE else b.chooseRelay s cost taken)
  else if b.pathUp s pin then some pin else none

/-! ### Requests (R317, R318) -/

/-- Copy `c` of a stream asked for on a path; `why` as in `Ask`. -/
def Block.askCopy (b : Block) (k c path why : Nat) : Block :=
  let e := b.sub k
  let tid := (b.tid + 1) % 2 ^ 32
  let b := { b with tid := tid }.updCopy k c fun x =>
    { x with busy := true, tid := tid, state := if why = 0 then 1 else if why ≤ 2 then 3 else x.state }
  b.startAsk ⟨0, tid, e.source c, 1,
    subBody (e.stream + 512 * c) e.content (e.copy c).seats b.me (relayOf path) (if e.content = 1 then e.channels else 0) 1 0, why, 0, 0, 0, 0⟩

/-- A copy asked for on the best path, or left without one: FAILED at first, else WAITING_ROUTE (R314, R342). -/
def Block.routeCopy (b : Block) (k c why : Nat) (taken : Taken) : Block × Taken :=
  let e := b.sub k; let x := e.copy c; let s := e.source c
  match b.choosePath x.pin s (b.copyCost e x) taken with
  | some p => (b.askCopy k c p why, if p = 0xFE then taken else (s, p, b.copyCost e x) :: taken)
  | none => (b.updCopy k c fun x => { x with state := if why = 0 then 5 else 4, busy := false, status := St.NO_ROUTE }, taken)

/-- The path of a copy released at its source (R314, R321). -/
def Block.releasePath (b : Block) (stream content path : Nat) : Block :=
  if path = 0xFF then b
  else
    let tid := (b.tid + 1) % 2 ^ 32
    { b with tid := tid }.startAsk ⟨1, tid, stream / 512, 1, subBody stream content 0 b.me (relayOf path) 0 1 0, 0, 0, 0, 0, 0⟩

/-- The response of `FAB_SUBSCRIBE` once neither copy waits for an answer (R342). -/
def Block.settleWait (b : Block) (k : Nat) : Block :=
  let e := b.sub k
  if e.waitCh = [] ∨ e.bow.busy ∨ e.stern.busy then b
  else
    let both := e.bow.status = St.OK ∧ e.stern.status = St.OK
    let one := e.bow.status = St.OK ∨ e.stern.status = St.OK
    let path (x : CopySt) := if x.state = 2 then x.path else 0xFF
    let seats (x : CopySt) := if x.state = 2 then x.charged else 0
    let d := leBytes 2 e.bow.status ++ leBytes 2 e.stern.status ++ leBytes 4 e.bow.tid ++ leBytes 4 e.stern.tid
      ++ leBytes 1 (path e.bow) ++ leBytes 1 (path e.stern) ++ leBytes 1 (max (seats e.bow) (seats e.stern)) ++ [0]
    let b := b.updSub k fun e => { e with waitCh := [] }
    b.each e.waitCh fun b ch =>
      b.answer ch (if both then St.OK else if one then St.ACCEPTED else e.bow.status) d

/-- The answer to a copy's request (R314, R319, R342, R737). -/
def Block.copyAnswer (b : Block) (a : Ask) (status seats path : Nat) : Block :=
  let stream := le a.body 0 2; let content := le a.body 2 1
  let bow := bowStream stream; let c := stream / 512 % 2; let k := subKey bow content
  let b := b.dropAsk a
  let e := b.sub k; let x := e.copy c
  if ¬e.heldBy then (if status = St.OK then b.releasePath stream content path else b)
  else if status = St.OK then
    let b := b.updCopy k c fun x => { x with state := 2, busy := false, status := St.OK, path := path, charged := seats, again := none,
                                             lost := !b.pathUp (stream / 512) path }
    let b := if x.path = path then b else b.releasePath stream content x.path
    let b := match x.again with
      | some n => if seats < n then (b.updCopy k c fun x => { x with seats := n }).askCopy k c path 3 else b
      | none => b
    b.settleWait k
  else
    let b := match a.why with
      | 0 => b.updCopy k c fun x => { x with state := 5, busy := false, status := status, path := 0xFF, again := none }
      | 1 => b.updCopy k c fun x => { x with state := 4, busy := false, status := status }
      | 2 =>
        -- a refused path that came back: rerouted at once, off the direct link that refused it (R737)
        let direct := le a.body 5 1 == 0x1F
        if direct ∧ x.pin = 0xFF then
          match b.chooseRelay (stream / 512) (b.copyCost e x) [] with
          | some r => b.askCopy k c r 1
          | none => b.updCopy k c fun x => { x with state := 4, busy := false, status := status }
        else if x.pin = 0xFF then (b.routeCopy k c 1 []).1
        else b.updCopy k c fun x => { x with state := 4, busy := false, status := status }
      | _ => b.updCopy k c fun x => { x with busy := false, status := status, again := none }
    b.settleWait k

/-- GRANT_RX: a `GRANT` arrives on port `q` (R342, R365, R370). -/
def grantRx (q : Nat) (p : Packet) (b : Block) : Block :=
  b.ctrlRx q 0x22 p fun m b =>
    let mine (a : Ask) : Bool := decide (a.kind ≤ 4) && a.tid == msgTid m && a.dst == msgSrc m && le a.body 0 2 == le m 20 2 && le a.body 2 1 == le m 22 1
    match b.asks.find? mine with
    | none => b
    | some a =>
      let b := if a.kind = 0 then b.copyAnswer a (le m 16 2) (le m 18 1) (le m 19 1)
        else if a.kind = 2 ∨ a.kind = 3 then b.hop2Answer a (le m 16 2) (le m 24 4)
        else b.dropAsk a
      -- a response buffer is free again (R340)
      b.each (List.range 17) fun b q => if (b.fport q).waitq = [] then b else b.drain q

/-- SUBSCRIBE_RESEND: no answer within the wait to the request of a kind, a transaction ID and a recipient: sent again, or
after four sends failed (R318). -/
def subscribeResend (kind tid dst : Nat) (b : Block) : Block :=
  match b.asks.find? fun a => a.kind == kind && a.tid == tid && a.dst == dst with
  | none => b
  | some a =>
    if 4 < kind then b
    else if a.sends < 4 then
      let stream := le a.body 0 2
      let e := b.sub (subKey (bowStream stream) (le a.body 2 1))
      let x := e.copy (stream / 512 % 2)
      let body := if kind = 0 ∧ x.pin = 0xFF ∧ ¬b.pathUp a.dst (pathOf (le a.body 5 1)) then
          match b.chooseRelay a.dst (b.copyCost e x) [] with
          | some r => a.body.take 5 ++ leBytes 1 r ++ a.body.drop 6
          | none => a.body
        else a.body
      let a' := { a with sends := a.sends + 1, body := body }
      { b with asks := b.asks.map fun y => if y = a then a' else y }.sendTo a.dst
        (b.mkMsg (if kind = 0 ∨ kind = 2 then 0x20 else 0x21) a.dst a.tid body)
    else if kind = 0 then b.copyAnswer { a with why := if a.why = 2 then 1 else a.why } St.TIMEOUT 0 0xFF |>.dropAsk a
    else if kind = 2 ∨ kind = 3 then b.hop2Answer a St.TIMEOUT 0
    else b.dropAsk a

/-! ### Holders (R342, R398) -/

/-- A stream whose last holder has gone: both copies released (R321). -/
def Block.dropIfUnheld (b : Block) (k : Nat) : Block :=
  let e := b.sub k
  if e.heldBy then b
  else
    let b := b.each e.waitCh fun b ch => b.no ch St.CANCELLED
    let b := b.each [0, 1] fun b c => b.releasePath (e.stream + 512 * c) e.content (e.copy c).path
    { b with subs := b.subs.put k default }.dropRing e.stream

/-- A stream wanted by a new holder: the ring, and each copy that is not granted or under way asked for. -/
def Block.wantStream (b : Block) (k : Nat) : Block :=
  let b := b.takeRing (b.sub k).stream
  b.each [0, 1] fun b c =>
    let x := (b.sub k).copy c
    if x.busy ∨ x.state = 2 then b else (b.routeCopy k c (if x.state = 4 then 1 else 0) []).1

/-- A new entry for a stream with both copies free to choose their path. -/
def newSub (bow content channels : Nat) : SubSt :=
  let x : CopySt := { (default : CopySt) with path := 0xFF, pin := 0xFF }
  { (default : SubSt) with stream := bow, content := content, channels := channels, bow := x, stern := x }

/-- The entry of a stream, made when there is none. -/
def Block.openSub (b : Block) (bow content channels : Nat) : Block :=
  if (b.sub (subKey bow content)).heldBy then b else { b with subs := b.subs.put (subKey bow content) (newSub bow content channels) }

/-! ### Paths lost and back (R314, R315, R737) -/

/-- Every stream held, and each of its copies. -/
def Block.allCopies (b : Block) : List (Nat × Nat) := (b.subs.map fun e => [(e.1, 0), (e.1, 1)]).flatten

/-- Granted copies whose path is no longer up are marked lost (R314). -/
def Block.markLost (b : Block) : Block :=
  b.each b.allCopies fun b kc =>
    let e := b.sub kc.1; let x := e.copy kc.2
    if x.state = 2 ∧ ¬b.pathUp (e.source kc.2) x.path then b.updCopy kc.1 kc.2 fun x => { x with lost := true } else b

/-- The link to device `d` is UP again: lost copies whose path starts there are subscribed on it again (R737). -/
def Block.pathsBack (b : Block) (d : Nat) : Block :=
  b.each b.allCopies fun b kc =>
    let e := b.sub kc.1; let x := e.copy kc.2
    if x.state = 2 ∧ x.lost ∧ ¬x.busy ∧ (x.path = d ∨ (x.path = 0xFE ∧ e.source kc.2 = d)) ∧ b.pathUp (e.source kc.2) x.path then
      b.askCopy kc.1 kc.2 x.path 2
    else b

/-- REROUTE_TIMEOUT: paths, by source and path byte, have been lost for `REROUTE_MS` (R313, R314): one batch. -/
def rerouteTimeout (paths : List (Nat × Nat)) (b : Block) : Block :=
  (b.allCopies.foldl (fun (s : Block × Taken) kc =>
    let e := s.1.sub kc.1; let x := e.copy kc.2
    if x.state = 2 ∧ x.lost ∧ ¬x.busy ∧ (e.source kc.2, x.path) ∈ paths then s.1.routeCopy kc.1 kc.2 1 s.2 else s) (b, [])).1

/-- WAITING_ROUTE_RETRY: a second has passed for a copy in WAITING_ROUTE (R314). -/
def waitingRouteRetry (stream content : Nat) (b : Block) : Block :=
  let k := subKey (bowStream stream) content; let c := stream / 512 % 2
  let x := (b.sub k).copy c
  if x.state = 4 ∧ ¬x.busy then (b.routeCopy k c 1 []).1 else b

/-- REVERT_TIMEOUT: the direct link to device `s` has been UP for `REVERT_S` (R315). -/
def revertTimeout (s : Nat) (b : Block) : Block :=
  if b.on F.FAB_CFG_REVERT 0 ∧ b.upTo s then
    b.each b.allCopies fun b kc =>
      let e := b.sub kc.1; let x := e.copy kc.2
      if x.state = 2 ∧ ¬x.busy ∧ x.path < 0xFE ∧ x.pin = 0xFF ∧ e.source kc.2 = s then b.askCopy kc.1 kc.2 0xFE 4 else b
  else b

/-! ### Commands (R341, R342) -/

/-- A stream ID names a source that can exist: fabric IDs are 0 to 17, source indices 0 to 335. -/
def streamOk (st : Nat) : Bool := decide (st < 16384) && decide (st / 512 ≤ 17) && decide (st % 512 ≤ 335)
/-- The stream names a source of another twin that can exist (R310). -/
def Block.remoteOk (b : Block) (st : Nat) : Bool := streamOk st && st / 1024 != b.me / 2

/-- A relay field of `FAB_SUBSCRIBE`: automatic, direct only, or a fabric ID. -/
def pinOk (r : Nat) : Bool := r == 0xFF || r == 0xFE || decide (r ≤ 17)

/-- FAB_SUBSCRIBE, 0x0410 (R310, R328, R342): the response follows once both copies are granted, refused or timed out. -/
def fabSubscribe (ch : Nat) (p : List Byte) (b : Block) : Block :=
  let bow := bowStream (le p 0 2); let content := le p 2 1; let seats := le p 3 1; let n := le p 6 2
  let k := subKey bow content
  let cost := b.copyCost (newSub bow content n) default
  b.command ch 0x0410 true (p.length == 8)
    [(!(b.remoteOk (le p 0 2) && decide (content ≤ 2) && pinOk (le p 4 1) && pinOk (le p 5 1)
        && (seats == 0 || decide (cost ≤ seats))), St.BAD_ARG), (b.selftest 0x0A, St.BUSY_SELFTEST)] []
    fun b =>
      let b := (b.openSub bow content n).updSub k fun e => { e with host := true, waitCh := e.waitCh ++ [ch] }
      let b := b.takeRing bow
      let b := b.each [0, 1] fun b c =>
        let b := b.updCopy k c fun x => { x with pin := le p (4 + c) 1 }
        let x := (b.sub k).copy c
        if x.busy then b.updCopy k c fun x => { x with again := some seats }
        else
          let b := b.updCopy k c fun x => { x with seats := seats }
          if x.state = 2 ∧ ¬x.lost then b.askCopy k c x.path 3
          else (b.routeCopy k c (if x.state = 2 ∨ x.state = 4 then 1 else 0) []).1
      b.settleWait k

/-- FAB_RELEASE, 0x0411 (R321). -/
def fabRelease (ch : Nat) (p : List Byte) (b : Block) : Block :=
  let k := subKey (bowStream (le p 0 2)) (le p 2 1)
  b.command ch 0x0411 true (p.length == 4)
    [(!(streamOk (le p 0 2) && decide (le p 2 1 ≤ 2) && zeros p 3 1), St.BAD_ARG), (b.selftest 0x0A, St.BUSY_SELFTEST)] []
    fun b => (if (b.sub k).host then (b.updSub k fun e => { e with host := false }).dropIfUnheld k else b).ok ch []

end Sys2Proof.Machine
end

