-- ==== Sys2Proof/Machine/Peer.lean ====
section
/-!
DEFINITION. Peers: hellos, authentication, leaving and entering UP, advertisements, timing, keep-alive, and the fabric's settings
(R302 to R308, R312, R366 to R369, R374 to R376).
-/
namespace Sys2Proof.Machine

/-! ### Hellos (R304, R366) -/

/-- The bring-up of a port is under way. -/
def Block.portBringing (b : Block) (q : Nat) : Bool := decide (1 ≤ (b.port q).state) && decide ((b.port q).state ≤ 2)

/-- A `HELLO` sent on port `q`; `cnt` is the port's `FRAME_CNT`, used in bring-up (R304, R362, R366). -/
def Block.sendHello (b : Block) (q cnt : Nat) : Block :=
  let at_ := if b.portBringing q then (cnt + 32) % 2 ^ 32 else 0
  let m := b.mkMsg 0x10 (b.peerOf q) 0
    (leBytes 1 q ++ leBytes 1 b.fabN ++ [4] ++ leBytes 1 (b.fld F.LANES_CFG_SSC_OFFER 0) ++ leBytes 4 (b.fld F.FAB_TAG_TAG 0)
      ++ leBytes 4 b.dev.bootEpoch ++ leBytes 4 b.dev.compat ++ padTo 32 (b.fport q).nonce
      ++ leBytes 1 (buffersOf 1) ++ leBytes 1 (buffersOf 2) ++ leBytes 1 (buffersOf 3) ++ [0] ++ leBytes 4 at_
      ++ leBytes 2 b.keys.keep.chain.length ++ zeroBytes 2)
  (b.updFport q fun s => { s with hello := sealMsg m }).putMsg q m

/-- The port to the twin partner (R301, R546). -/
def Block.twinPort (b : Block) : Option Nat := b.portTo (b.me ^^^ 1)

/-- The twin loses step (R546). -/
def Block.stepLost (b : Block) : Block :=
  { ((b.setFld F.TWIN_STATUS_STATE 0 4).set F.TWIN_HIST_STEP_LOST 0).setFld F.TWIN_STATUS_RUN 0 0 with twin := { b.twin with missRun := 0, mmRun := 0 } }

/-- Port `q` leaves UP: the twin loses step when it is the twin port. -/
def Block.upLeft (b : Block) (q : Nat) : Block :=
  let st := b.fld F.TWIN_STATUS_STATE 0
  b.ite (b.linkUp q && b.twinPort == some q && (st == 2 || st == 3)) fun b => b.stepLost

/-- A new nonce, and state HELLO (R375). -/
def Block.enterHello (b : Block) (q : Nat) : Block :=
  let (r, b) := (b.upLeft q).randomBytes 32
  (b.updFport q fun s => { s with nonce := r, chain := [], verified := false, authSent := false, credits := [], waitq := [] }).setFld
    F.FAB_PORT_STATUS_PEER_STATE q 1

/-- The lanes of port `q` are in service while its peer is DOWN: a `HELLO` is sent (R375). -/
def Block.peerStart (b : Block) (q : Nat) : Block := (b.enterHello q).sendHello q 0

/-- HELLO_SEND: a `HELLO` is sent at its interval (R304, R376). -/
def helloSend (q cnt : Nat) (b : Block) : Block :=
  if b.peerState q = 0 ∧ b.portLinked q then b.peerStart q
  else if b.portLinked q ∨ b.portBringing q then b.sendHello q cnt
  else b

/-! ### Leaving UP (R308, R364, R375) -/

/-- Port `q` leaves its peer state for DOWN, or for HELLO: its paths are lost and its credits cleared. -/
def Block.pathsLost (b : Block) (q : Nat) : Block :=
  ((b.updFport q fun s => { s with credits := [], waitq := [] }).holdGrants q).markLost

/-- The peer of port `q` goes DOWN. -/
def Block.peerDown (b : Block) (q : Nat) : Block :=
  if b.peerState q = 0 then b
  else
    let b := (b.upLeft q).ite (b.linkUp q) fun b => b.set F.FAB_PORT_HIST_UP_LOST q
    ((b.setFld F.FAB_PORT_STATUS_PEER_STATE q 0).clr F.FAB_PORT_STATUS_PEER_VALID q).pathsLost q

/-- PEER_LOSS_TIMEOUT: no control message for 10 ms (R308). -/
def peerLossTimeout (q : Nat) (b : Block) : Block := b.peerDown q

/-- What a change of its lanes means for port `q`: DOWN when they leave service, a first `HELLO` when they enter it (R308, R375). -/
def Block.fabSettle (b : Block) (q : Nat) : Block :=
  if b.peerState q ≠ 0 ∧ ¬b.portServes q then b.peerDown q
  else if b.peerState q = 0 ∧ b.portLinked q then b.peerStart q
  else b

/-- A command on port `q`, and what it means for the peer. -/
def onPort (q : Nat) (f : Block → Block) (b : Block) : Block := (f b).fabSettle q
/-- A command on lane `l`, and what it means for its port: the peer of a fabric port, the link of an Ethernet port (R224). -/
def onLane (l : Nat) (f : Block → Block) (b : Block) : Block :=
  match laneClass l with
  | .fabric => (f b).fabSettle (lanePort l)
  | .ethernet => (f b).ethSettle l
  | .management => (f b).ethSettle l
  | _ => f b
/-- An event on lane `l`, which an absent lane has none of. -/
def atLane (l : Nat) (f : Block → Block) (b : Block) : Block := if b.laneHas l then onLane l f b else b
/-- A command on the whole device, and what it means for every peer. -/
def onPorts (f : Block → Block) (b : Block) : Block := (f b).each (List.range 17) fun b q => b.fabSettle q

/-! ### Accepting a peer (R304 to R306) -/

/-- The peer of port `q` is UP: credits start, and paths come back (R364, R375, R737). -/
def Block.enterUp (b : Block) (q : Nat) : Block :=
  let h := (b.fport q).peerHello
  let b := (b.setFld F.FAB_PORT_STATUS_PEER_STATE q 3).set F.FAB_PORT_HIST_UP_GAINED q
  let b := b.each [1, 2, 3] fun b k => b.updCredit q k fun _ => { (default : CreditSt) with ann := max 1 (le h (63 + k) 1) }
  ((b.sendCredit q).resumeGrants q).pathsBack (b.peerOf q)

/-- The peer fails authentication. -/
def Block.untrust (b : Block) (q : Nat) : Block := (b.setFld F.FAB_PORT_STATUS_PEER_STATE q 4).set F.FAB_PORT_HIST_AUTH_FAIL q

/-- The `AUTH` messages of this device on port `q`, when its identity key is available: the chain in parts of 900 bytes, the signature
with the last (R306). -/
def Block.sendAuth (b : Block) (q : Nat) : Block :=
  if ¬b.purposeOk 0 then b
  else
    let s := b.fport q
    let chain := b.keys.keep.chain
    let (sig, b) := b.sign 0 (bytesAt s.peerHello 32 32 ++ s.hello ++ s.peerHello)
    let parts := (chain.length + 899) / 900
    let b := b.each (List.range (max 1 parts)) fun b i =>
      let d := (chain.drop (900 * i)).take 900
      let last := decide (max 1 parts = i + 1)
      b.putMsg q (b.mkMsg 0x11 (b.peerOf q) 0
        (leBytes 2 (900 * i) ++ leBytes 2 d.length ++ leBytes 1 (bit last) ++ zeroBytes 3 ++ padTo ((d.length + 3) / 4 * 4) d ++ (if last then sig else [])))
    b.updFport q fun s => { s with authSent := true }

/-- The fields of a `HELLO` that R304 checks. -/
def Block.helloMatches (b : Block) (q : Nat) (m : List Byte) : Bool :=
  msgSrc m == b.peerOf q && le m 16 1 == b.fabN - 2 - q && le m 17 1 == b.fabN && le m 20 4 == b.fld F.FAB_TAG_TAG 0

/-- Two compatibility words are link-compatible (R645). -/
def linkCompat (x y : Nat) : Bool := decide (y / 256 % 256 ≤ x % 256) && decide (x / 256 % 256 ≤ y % 256)

/-- The last `HELLO` judged from HELLO, REJECTED or INCOMPATIBLE (R304, R305, R375). -/
def Block.judgeHello (b : Block) (q : Nat) : Block :=
  let m := (b.fport q).peerHello
  if ¬b.helloMatches q m then
    b.ite (b.peerState q == 1) fun b => (b.setFld F.FAB_PORT_STATUS_PEER_STATE q 5).set F.FAB_PORT_HIST_WIRING_ERR q
  else if ¬linkCompat b.dev.compat (le m 28 4) then
    b.ite (b.peerState q == 1) fun b => (b.setFld F.FAB_PORT_STATUS_PEER_STATE q 6).set F.FAB_PORT_HIST_INCOMPATIBLE q
  else if b.on F.FAB_CFG_AUTH_MODE 0 then b.enterUp q
  else ((b.setFld F.FAB_PORT_STATUS_PEER_STATE q 2).updFport q fun s => { s with chain := [], verified := false, authSent := false }).sendAuth q

/-- Copies from device `d` over a relay, asked for again when `d` is back with a new boot epoch: its grants are gone. -/
def Block.askAgain (b : Block) (d : Nat) : Block :=
  b.each b.allCopies fun b kc =>
    let e := b.sub kc.1; let x := e.copy kc.2
    if x.state = 2 ∧ ¬x.lost ∧ ¬x.busy ∧ x.path < 0xFE ∧ e.source kc.2 = d then b.askCopy kc.1 kc.2 x.path 2 else b

/-- HELLO_RX: a `HELLO` arrives on port `q` (R143, R304, R305, R322, R362, R366, R375). -/
def helloRx (q : Nat) (p : Packet) (b : Block) : Block :=
  b.ctrlRx q 0x10 p fun m b =>
    if b.portBringing q then
      if (b.port q).state = 2 then
        (b.updFport q fun s => { s with peerHello := m }).updPort q fun s =>
          { s with rate := min 4 (le m 18 1), ssc := min (b.fld F.LANES_CFG_SSC_OFFER 0) (le m 19 1) }
      else b
    else if ¬b.portServes q then b
    else
      let b := b.ite (b.peerState q == 0) fun b => b.peerStart q
      let fresh := (b.fport q).peerHello ≠ m
      let epoch := le m 24 4
      let new := match (b.fport q).epoch with
        | some e => decide (e ≠ epoch)
        | none => false
      let b := (b.setFld F.FAB_PORT_STATUS_PEER_ID q (msgSrc m)).set F.FAB_PORT_STATUS_PEER_VALID q
      let b := b.updFport q fun s => { s with peerHello := m, epoch := some epoch }
      let b := b.ite new fun b => b.newEpoch q (b.peerOf q)
      match b.peerState q with
      | 2 => if fresh then b.judgeHello q else b
      | 3 => if new then ((b.enterHello q).pathsLost q).askAgain (b.peerOf q) else b
      | 4 => b
      | _ => b.judgeHello q

/-- The peer's final part verifies: chain, signature and allow list (R306). -/
def Block.authOk (b : Block) (q : Nat) (m : List Byte) : Bool :=
  let s := b.fport q
  let n := le m 18 2
  match Config.certKey s.chain with
  | none => false
  | some pub =>
    ecdsaVerify pub (padTo 32 s.nonce ++ s.peerHello ++ s.hello) (bytesAt m (24 + (n + 3) / 4 * 4) 96)
      && (b.allow.isEmpty || b.allow.any fun e => e.2 == sha384 ([4] ++ pub))

/-- AUTH_RX: an `AUTH` part arrives on port `q` (R306, R375). -/
def authRx (q : Nat) (p : Packet) (b : Block) : Block :=
  b.ctrlRx q 0x11 p fun m b =>
    let b := b.updFport q fun s => { s with chain := s.chain.take (le m 16 2) ++ bytesAt m 24 (le m 18 2) }
    if le m 20 1 = 1 then
      if b.authOk q m then
        let b := b.updFport q fun s => { s with verified := true }
        b.ite (b.fport q).authSent fun b => b.enterUp q
      else b.untrust q
    else b

/-- AUTH_TIMEOUT: 100 ms in AUTH (R306, R375). -/
def authTimeout (q : Nat) (b : Block) : Block := if b.peerState q = 2 then b.untrust q else b

/-- UNTRUSTED_RETRY: 10 s in UNTRUSTED (R375). -/
def untrustedRetry (q : Nat) (b : Block) : Block := if b.peerState q = 4 then b.peerStart q else b

/-! ### Advertisements, keep-alive and timing (R312, R367, R368, R374) -/

/-- ADVERT_SEND: an `ADVERT` is sent on every port that is UP (R312). -/
def advertSend (b : Block) : Block :=
  let free := ((List.range 17).map fun q => leBytes 2 (if q + 2 ≤ b.fabN then b.freeSeats q else 0xFFFF)).flatten
  let transit := 128 - b.relayHops.length
  let mask := ((List.range 17).map fun q => bit (b.linkUp q) * 2 ^ q).sum
  b.each (List.range 17) fun b q =>
    b.ite (b.linkUp q) fun b => b.putMsg q (b.mkMsg 0x13 (b.peerOf q) 0 (free ++ leBytes 1 transit ++ leBytes 3 mask ++ zeroBytes 6))

/-- ADVERT_RX: an `ADVERT` arrives on port `q` (R312, R314). -/
def advertRx (q : Nat) (p : Packet) (b : Block) : Block :=
  b.ctrlRx q 0x13 p fun m b =>
    let a : Advert := ⟨(List.range 17).map fun i => le m (16 + 2 * i) 2, le m 50 1, le m 51 3⟩
    ({ b with adverts := b.adverts.put (msgSrc m) a }.markLost).pathsBack (msgSrc m)

/-- The device sleeps, or is on its way there (R671). -/
def Block.asleep (b : Block) : Bool := b.fld F.PWR_STATUS_STATE 0 == 1 || b.fld F.PWR_STATUS_STATE 0 == 2

/-- KEEPALIVE_SEND: nothing else has been sent on port `q` for 1 ms (R374, R376, R671). -/
def keepaliveSend (q : Nat) (b : Block) : Block :=
  if b.portLinked q ∨ b.keepAlive q then
    b.putMsg q (b.mkMsg 0x15 (b.peerOf q) 0 (leBytes 4 b.dev.bootEpoch ++ leBytes 1 (bit b.asleep) ++ zeroBytes 3 ++ leBytes 4 (b.fld F.FAB_TAG_TAG 0)))
  else b

/-- KEEPALIVE_RX: a `KEEPALIVE` arrives on port `q` (R374). -/
def keepaliveRx (q : Nat) (p : Packet) (b : Block) : Block :=
  b.ctrlRx q 0x15 p fun m b => b.updFport q fun s => { s with asleep := le m 20 1 == 1 }

/-- Device time in 2^-16 ns, and the 12 bytes of a time field (R366). -/
def Block.nowFine (b : Block) : Nat := b.time.now / 2 ^ 32
def timeBytes (t : Nat) : List Byte := leBytes 6 (t / 65536 / 1000000000) ++ leBytes 4 (t / 65536 % 1000000000) ++ leBytes 2 (t % 65536)
/-- A time field in 2^-16 ns. -/
def timeOf (m : List Byte) (o : Nat) : Nat := (le m o 6 * 1000000000 + le m (o + 6) 4) * 65536 + le m (o + 10) 2

/-- `QUALITY` (R368): from the reference state and the selected candidate. -/
def Block.fabQuality (b : Block) : Nat :=
  let n := b.fld F.REFS_STATUS_SEL 0
  let k := b.fld F.REF_CFG_KIND n
  let st := b.fld F.REFS_STATUS_STATE 0
  if st = 4 then (if b.on F.REFS_STATUS_HO_EXPIRED 0 then 248 else 187)
  else if ¬b.on F.REFS_STATUS_SEL_VALID 0 then 255
  else if k = 4 then (b.refs.cands.look n).cls
  else if k = 5 then (b.fport (b.fld F.REF_CFG_IDX n)).quality
  else 52

/-- The fabric ID whose fabric time this device follows, 0x1F for none. -/
def Block.followed (b : Block) : Nat :=
  let n := b.fld F.REFS_STATUS_SEL 0
  if b.on F.REFS_STATUS_SEL_VALID 0 ∧ b.fld F.REF_CFG_KIND n = 5 then b.peerOf (b.fld F.REF_CFG_IDX n) else 0x1F

/-- TIMING_SEND: a `TIMING` is sent on a port that is UP (R367). -/
def timingSend (q : Nat) (b : Block) : Block :=
  if b.linkUp q then
    let s := b.fport q
    b.putMsg q (b.mkMsg 0x12 (b.peerOf q) 0
      (timeBytes b.nowFine ++ padTo 12 s.timTx ++ timeBytes s.timRx ++ leBytes 1 b.fabQuality
        ++ leBytes 1 (b.fld F.REFS_STATUS_STATE 0 + bit (b.on F.REFS_STATUS_TIME_SYNCED 0) * 8 + bit (b.on F.REFS_STATUS_HO_EXPIRED 0) * 16)
        ++ leBytes 1 b.followed ++ zeroBytes 5))
  else b

/-- TIMING_RX: a `TIMING` arrives on port `q` and is stamped; the peer's time is its `TX_TIME` and the delay (R367, R368). -/
def timingRx (q : Nat) (p : Packet) (b : Block) : Block :=
  b.ctrlRx q 0x12 p fun m b =>
    let t4 := b.nowFine
    let t3 : Int := timeOf m 16; let t1 : Int := timeOf m 28; let t2 : Int := timeOf m 40
    let delay := ((Int.ofNat t4 - t1) - (t3 - t2)) / 2
    let quality := if le m 54 1 = b.me then 255 else le m 52 1
    (b.updFport q fun s => { s with timTx := bytesAt m 16 12, timRx := t4, peerOfs := t3 + delay - Int.ofNat t4, quality := quality }).candInput 5 q

/-! ### Settings (R302, R303, R341) -/

/-- The fabric size is set (R12, R302, R303): every port goes OFF when it is 0, ports 0 to N - 2 are enabled when it was 0, and once the
firmware has released the device the domains of the ports follow the size. -/
def Block.setFabN (b : Block) (n : Nat) : Block :=
  let was := b.fabN
  let b := if n = 0 then onPorts (fun b => b.each (List.range 17) fun b q => b.ite ((b.port q).state != 0) fun b => b.portDisable q) b else b
  let b := b.setFld F.FAB_CFG_N 0 n
  let b := b.ite b.released Block.settlePortDoms
  if was = 0 ∧ n ≠ 0 then b.each (List.range (min n 18 - 1)) fun b q => fabPortEnable q b else b

/-- A write of `FAB_CFG`. `N` is stored as written, odd or above 18 as well (the block has no `CFG_REJECTED`; DESIGN CHOICE, log 134): the ports that
exist below N - 1 are enabled by it. -/
def Block.fabCfgWrite (b : Block) (v : Nat) : Block :=
  let b := b.storeWord (W.FAB_CFG.drop 1) 0 v
  let n := F.FAB_CFG_N.of v
  if n = b.fabN then b else b.setFabN n

/-- FABRIC_SET, 0x0401 (R302, R341). -/
def fabricSet (ch : Nat) (p : List Byte) (b : Block) : Block :=
  let n := le p 0 1
  b.command ch 0x0401 true (p.length == 16)
    [(!((n == 0 || (n % 2 == 0 && decide (2 ≤ n) && decide (n ≤ 18) && (b.dev.idInvalid || decide (b.me < n)))) && decide (le p 1 1 ≤ 7)
        && decide (10 ≤ le p 2 2) && decide (le p 2 2 ≤ 60000) && decide (1 ≤ le p 8 2) && decide (le p 8 2 ≤ 10000)
        && decide (1 ≤ le p 10 2) && decide (le p 10 2 ≤ 3600) && zeros p 12 4), St.BAD_ARG), (b.selftest 0x0A, St.BUSY_SELFTEST)]
    [(b.dev.idInvalid && n != 0, St.NOT_READY),
     (n != 0 && b.fabN != 0 && n != b.fabN && (List.range 17).any fun q => (b.port q).state != 0, St.NOT_READY)]
    fun b =>
      let b := (b.setFld F.FAB_TAG_TAG 0 (le p 4 4)).storeWord W.FAB_CFG2 0 (le p 8 4)
      (b.fabCfgWrite (n + le p 1 1 * 32 + le p 2 2 * 65536)).ok ch []

/-- FAB_ALLOW, 0x0402 (R306, R341). -/
def fabAllow (ch : Nat) (p : List Byte) (b : Block) : Block :=
  b.command ch 0x0402 true (p.length == 52)
    [(!(decide (le p 0 1 ≤ 17) && decide (le p 1 1 ≤ 1) && zeros p 2 2), St.BAD_ARG), (b.selftest 0x0A, St.BUSY_SELFTEST)] []
    fun b => { b with allow := b.allow.put (le p 0 1) (if le p 1 1 = 1 then bytesAt p 4 48 else []) }.ok ch []

/-! ### Status (R341, R343) -/

/-- `FAB_PORT_STATUS[q]`. -/
def Block.fabPortStatus (b : Block) (q : Nat) : Nat :=
  let r := if (b.port q).state = 6 then 7 else if 3 ≤ (b.port q).state then (b.port q).rate else 0
  b.peerState q + b.fld F.FAB_PORT_STATUS_PEER_ID q * 8 + b.fld F.FAB_PORT_STATUS_PEER_VALID q * 256 + r * 512 + b.mediaSeats q * 65536

/-- The seats that the peer of port `q` grants toward this device: per stream the largest of its granted copies. -/
def Block.rxGranted (b : Block) (q : Nat) : Nat :=
  let cs := (b.allCopies.map fun kc => ((b.sub kc.1).stream + 512 * kc.2, (b.sub kc.1).source kc.2, (b.sub kc.1).copy kc.2)).filter fun t =>
    t.2.2.state == 2 && b.portTo (if t.2.2.path = 0xFE then t.2.1 else t.2.2.path) == some q
  ((cs.map Prod.fst).dedup.map fun st => (cs.filter fun t => t.1 == st).foldl (fun a t => max a t.2.2.charged) 0).sum

/-- `FAB_PORT_SEATS[q]`. -/
def Block.fabPortSeats (b : Block) (q : Nat) : Nat := grantedOf b.grants q % 1024 + b.rxGranted q % 1024 * 65536

/-- The seven counters of a port. -/
def fabPortCnts : List Field :=
  [F.FAB_TX_STROKE_CNT_COUNT, F.FAB_RX_STROKE_CNT_COUNT, F.FAB_TX_DROP_CNT_COUNT, F.FAB_RX_ERR_CNT_COUNT, F.FAB_RX_LATE_CNT_COUNT,
   F.FAB_RX_EARLY_CNT_COUNT, F.FAB_RELAY_DROP_CNT_COUNT]

/-- FAB_GET_PORT, 0x0420 (R341). -/
def fabGetPort (ch : Nat) (p : List Byte) (b : Block) : Block :=
  let q := le p 0 1
  b.command ch 0x0420 true (p.length == 4)
    [(!(decide (q ≤ 16) && decide (le p 1 1 ≤ 1) && zeros p 2 2), St.BAD_ARG)] []
    fun b =>
      let d := leBytes 4 (b.fabPortStatus q) ++ leBytes 4 (b.fabPortSeats q) ++ b.word4 W.FAB_PORT_HIST q
        ++ (fabPortCnts.map fun f => leBytes 4 (b.fld f q)).flatten
      ((b.takeCounts fabPortCnts q).ite (le p 1 1 == 1) fun b => b.clearHist W.FAB_PORT_HIST q histAll).ok ch d

/-- FAB_GET_SOURCE, 0x0421 (R341). -/
def fabGetSource (ch : Nat) (p : List Byte) (b : Block) : Block :=
  let s := le p 0 2
  b.command ch 0x0421 true (p.length == 4)
    [(!(decide (s ≤ 335) && zeros p 2 2), St.BAD_ARG), (!b.sourceHas s, St.UNIT_ABSENT)] []
    fun b => b.ok ch (leBytes 4 (b.srcSubs s) ++ leBytes 4 (b.srcHeld s) ++ leBytes 4 (b.srcSeats s))

end Sys2Proof.Machine
end

