-- ==== Sys2Proof/Machine/Stroke.lean ====
section
/-!
DEFINITION. Strokes: sending, relaying, the merge of two copies, release by position, and the loss of a copy (R311, R327, R329 to R339,
R353 to R359).
-/
namespace Sys2Proof.Machine

/-! ### Strokes (R353) -/

/-- The bytes of a stroke (R353): header, payload padded to 8 bytes, `PCRC`. -/
def strokeBytes (typ stream frame line fmt tl aux : Nat) (payload : List Byte) : List Byte :=
  let h := leBytes 1 typ ++ [0] ++ leBytes 2 stream ++ leBytes 6 frame ++ leBytes 2 line ++ leBytes 1 fmt ++ leBytes 1 tl
    ++ leBytes 2 payload.length ++ leBytes 8 aux ++ zeroBytes 4
  h ++ leBytes 4 (crc32c h) ++ padTo ((payload.length + 7) / 8 * 8) payload ++ leBytes 8 (crc64 payload)

/-- A received stroke passes its check: its type, its length, `HCRC` and `PCRC` (R351, R353). -/
def strokeOk (m : List Byte) : Bool :=
  let n := le m 14 2
  decide (1 ≤ le m 0 1) && decide (le m 0 1 ≤ 4) && decide (n ≤ 32768) && decide (m.length = 40 + (n + 7) / 8 * 8)
    && le m 28 4 == crc32c (m.take 28) && le m (m.length - 8) 8 == crc64 (bytesAt m 32 n)

/-- Content `c` of a stream is carried by strokes of type `t` (R355). -/
def contentHas (c t : Nat) : Bool := c == 0 || (c == 1 && t == 2) || (c == 2 && t == 3)

/-- A grant sends frame `n` (R320, R321): GRANTED from its start, RELEASING until its stop. -/
def Grant.sends (g : Grant) (n : Nat) : Bool :=
  g.state != 2 && decide (g.start ≤ n) && (match g.stop with
    | some e => decide (n < e)
    | none => true)

/-! ### Positions (R335) -/

/-- Lines in a frame of a format's raster, and frames per second as a fraction; without a format those of the timeline. -/
def Block.rasterOf (b : Block) (fmt tl : Nat) : Nat × Nat × Nat :=
  if fmtOk fmt then (fmtLines fmt, rateNum (fmtRate fmt), rateDen (fmtRate fmt)) else (b.tlLines tl, b.tlNum tl, b.tlDen tl)

/-- Device time at the start of line `l` of frame `n` of a timeline, lines those of a format's raster. -/
def Block.lineStart (b : Block) (fmt tl n l : Nat) : Nat :=
  let r := b.rasterOf fmt tl
  b.frameStart tl n + (l - 1) * r.2.2 * secUnit / (r.2.1 * r.1)
/-- The line period. -/
def Block.linePeriod (b : Block) (fmt tl : Nat) : Nat :=
  let r := b.rasterOf fmt tl
  r.2.2 * secUnit / (r.2.1 * r.1)

/-! ### Receiving (R311, R331, R333, R334, R359) -/

/-- A stroke forwarded by this relay: `TRANSIT` set, `HCRC` anew (R359), on each port with a hop of its stream; on the ports of `full` the
transit ring is full (R311). -/
def Block.relayStroke (b : Block) (m : List Byte) (full : List Nat) : Block :=
  let stream := le m 2 2 % 16384
  let h := m.take 1 ++ [1] ++ (m.take 28).drop 2
  let m' := h ++ leBytes 4 (crc32c h) ++ m.drop 32
  b.each (List.range 17) fun b q =>
    if b.linkUp q ∧ b.portUp q ∧ (b.grants.any fun g => g.on q stream && g.hop == 2 && contentHas g.content (le m 0 1) && g.sends (le m 4 6)) then
      if q ∈ full then (b.bump F.FAB_RELAY_DROP_CNT_COUNT q 1).set F.FAB_PORT_HIST_RELAY_FULL q
      else (b.bump F.FAB_TX_STROKE_CNT_COUNT q 1).putPacket q (.stroke q m') m'
    else b

/-- The slot of a line in its ring: eight for each type (R10, R331). -/
def Block.slotKey (b : Block) (typ fmt tl frame line : Nat) : Nat := typ * 8 + (frame * (b.rasterOf fmt tl).1 + line) % 8

def Block.updRing (b : Block) (i : Nat) (f : RxRing → RxRing) : Block := { b with rings := b.rings.upd i f }

/-- A checked stroke merged into ring `i` (R331, R333, R334). -/
def Block.mergeStroke (b : Block) (q i : Nat) (m : List Byte) : Block :=
  let typ := le m 0 1; let stream := le m 2 2 % 16384; let frame := le m 4 6; let line := le m 10 2 % 4096
  let fmt := le m 12 1; let tl := le m 13 1 % 2; let c := stream / 512 % 2
  let code := le m (m.length - 8) 8
  let release := b.lineStart fmt tl frame (line + 7); let per := b.linePeriod fmt tl; let t := b.time.now
  if release < t + per / 2 then b.bump F.FAB_RX_LATE_CNT_COUNT q 1
  else if t + 7 * per < release then b.bump F.FAB_RX_EARLY_CNT_COUNT q 1
  else
    -- the cost of the stream's format is above the grant of a copy, whose source sends none (R329)
    let e := b.sub (subKey (bowStream stream) 0)
    let above := decide (typ = 1) && [e.bow, e.stern].any fun x => x.state == 2 && decide (x.charged < fmtSeats fmt)
    let b := (b.setTo F.FAB_RX_STREAM_OVER_CLASS i above).ite above fun b => b.set F.FAB_RX_HIST_OVER_CLASS i
    let b := b.setBit F.FAB_RX_STREAM_COPIES i c
    let b := b.setTo F.FAB_RX_STREAM_UNPROTECTED i (b.fld F.FAB_RX_STREAM_COPIES i != 3)
    let k := b.slotKey typ fmt tl frame line
    let held := (b.rings.look i).slots.look k
    let b := b.updRing i fun r => { r with got := if bitOf r.got c then r.got else r.got + 2 ^ c, fmt := fmt, tl := tl, both := false }
    let dup := match held with
      | some s => s.frame == frame && s.line == line
      | none => false
    if dup then
      let b := b.bump F.FAB_RX_DUP_CNT_COUNT i 1
      match held with
      | some s => if s.code = code then b else (b.bump F.FAB_RX_DIFF_CNT_COUNT i 1).set F.FAB_RX_HIST_COPY_DIFF i
      | none => b
    else
      (b.updRing i fun r => { r with slots := r.slots.put k (some ⟨frame, line, code, le m 16 8, bytesAt m 32 (le m 14 2)⟩) }).bump
        (if c = 0 then F.FAB_RX_WON_BOW_CNT_COUNT else F.FAB_RX_WON_STERN_CNT_COUNT) i 1

/-- STROKE_RX: a stroke arrives on port `q` (R307, R311, R331, R349, R351, R359). -/
def strokeRx (q : Nat) (p : Packet) (full : List Nat) (b : Block) : Block :=
  b.packetRx q p fun m b =>
    if ¬strokeOk m then b.bump F.FAB_RX_ERR_CNT_COUNT q 1
    else if ¬(b.linkUp q ∧ b.portUp q) then b
    else
      let b := b.bump F.FAB_RX_STROKE_CNT_COUNT q 1
      let b := b.ite (!bitOf (le m 1 1) 0) fun b => b.relayStroke m full
      match b.ringOf (bowStream (le m 2 2 % 16384)) with
      | some i => b.mergeStroke q i m
      | none => b

/-! ### Release and loss (R332, R333, R335, R358) -/

/-- The packets of an ancillary stroke, `n` of them (R355). -/
def ancEntries (line : Nat) : Nat → List Byte → List AncPkt
  | 0, _ => []
  | n + 1, d =>
    let dc := le d 3 1
    ⟨le d 0 1 % 4, le d 1 1, le d 2 1, line, (List.range dc).map fun i => le d (4 + 2 * i) 2 % 1024⟩ :: ancEntries line n (d.drop ((4 + 2 * dc + 3) / 4 * 4))

/-- A released line in its ring: the picture and the ancillary packets of the frame, or its record (R355, R358). -/
def RxRing.take (r : RxRing) (s : RxSlot) (typ : Nat) : RxRing :=
  let r := if (typ = 1 ∨ typ = 3) ∧ r.ancFrame ≠ s.frame then { r with anc := [], ancFrame := s.frame } else r
  match typ with
  | 1 => { r with asm := r.asm.put s.line s.data }
  | 3 => { r with anc := r.anc ++ ancEntries s.line (s.aux % 65536) s.data }
  | 4 => { r with rcd := s.data }
  | _ => r

/-- STROKE_RELEASE: at the start of line L + 7 the merged line goes to its consumers, or is counted missing (R331, R332, R335, R358). -/
def strokeRelease (i typ frame line : Nat) (b : Block) : Block :=
  if b.on F.FAB_RX_STREAM_EN i then
    let r := b.rings.look i
    let k := b.slotKey typ r.fmt r.tl frame line
    match (r.slots.look k).filter fun s => decide (s.frame = frame ∧ s.line = line) with
    | some s => (b.updRing i fun r => ({ r with slots := r.slots.put k none }).take s typ).emit (.lineRelease i typ frame line s.data)
    | none =>
      let b := b.ite (typ == 1) fun b => b.updRing i fun r => { r with asm := r.asm.del line, missed := true }
      (b.bump F.FAB_RX_MISSING_CNT_COUNT i 1).emit (.lineMissing i typ frame line)
  else b

/-- The mirror stall of a stream (R9). -/
def Block.mirrorOf (b : Block) (bow : Nat) : Option Nat := (List.range 64).find? fun m => decide (b.mirrors.look m = some bow)

/-- The frame that the ring of mirror stall `j` has released: its rows, black where a line was missing, its record (R270, R276, R332). -/
def Block.mirrorFrame (b : Block) (j : Nat) (psf : Bool) : Option (Nat × FrameIn) :=
  match (b.mirrors.look (j - 256)).bind b.ringOf with
  | none => none
  | some i =>
    let r := b.rings.look i
    let row (y : Nat) : List Byte := match r.asm.look (lineOfRow r.fmt y) with
      | [] => blackBytes (fmtW r.fmt * 4)
      | d => unpack10 d
    if r.rcd = [] ∨ !fmtOk r.fmt then none
    else some (i, { fmt := r.fmt, psf := psf, complete := !r.missed, coded := false, pic := ((rowOrder r.fmt psf).map row).flatten, ingress := 0,
                    stamp := none, rtp := none, atc := none, phase := 0, mirror := some (recOf r.rcd) })

/-- STALL_FRAME_COMPLETE: a frame completes in stall `j`: as its source has given it, or as the ring of its stream has released it (R264, R268, R270, R271,
R275, R276). -/
def stallFrameComplete (j : Nat) (f : FrameIn) (b : Block) : Block :=
  if j < 256 then b.stallGivenFrame j f
  else match b.mirrorFrame j f.psf with
    | some (i, g) => (b.updRing i fun r => { r with missed := false }).stallWrite j g (b.rings.look i).anc none
    | none => b

/-- COPY_LOSS_CHECK: a frame of received stream `i` has ended (R333). -/
def copyLossCheck (i : Nat) (b : Block) : Block :=
  if b.on F.FAB_RX_STREAM_EN i then
    let got := (b.rings.look i).got
    let was := b.fld F.FAB_RX_STREAM_COPIES i
    let b := b.ite (bitOf was 0 && !bitOf got 0) fun b => b.set F.FAB_RX_HIST_BOW_LOST i
    let b := b.ite (bitOf was 1 && !bitOf got 1) fun b => b.set F.FAB_RX_HIST_STERN_LOST i
    let b := (b.setFld F.FAB_RX_STREAM_COPIES i got).setTo F.FAB_RX_STREAM_UNPROTECTED i (got == 1 || got == 2)
    let first := got == 0 && !(b.rings.look i).both
    let b := b.updRing i fun r => { r with got := 0, both := got == 0 }
    if first then
      let b := b.set F.FAB_RX_HIST_BOTH_LOST i
      match b.mirrorOf (b.fld F.FAB_RX_STREAM_STREAM i) with
      | some m => b.stallLoss (256 + m)
      | none => b
    else b
  else b

end Sys2Proof.Machine
end

