-- ==== Sys2Proof/Machine/Cox.lean ====
section
/-!
DEFINITION. Takes: targets and sources, catch lines, the take queue, holders and outcomes (R377 to R403, R412, R415). Regattas are
in Regatta.
-/
namespace Sys2Proof.Machine

/-! ### Targets and sources (R377 to R381) -/

/-- The head and layer of a target from 256 up. -/
def tgtHead (t : Nat) : Nat := (t - 256) / 16

/-- The target exists. -/
def Block.targetHas (b : Block) (t : Nat) : Bool := if t < 256 then b.outputHas t else decide (tgtHead t < b.heads)

/-- The format of a target: its output's, its flow's, its head's. -/
def Block.tgtFormat (b : Block) (t : Nat) : Nat :=
  if t < 128 then b.fld F.SDI_TX_CFG_FORMAT t else if t < 256 then b.fld F.IPM_TX_CFG_FORMAT (t - 128) else b.fld F.HEAD_CFG_FORMAT (tgtHead t)

/-- The timeline of a target. -/
def Block.tgtTl (b : Block) (t : Nat) : Nat :=
  if t < 128 then b.fld F.CREW_CFG_TL (t / 8) else if t < 256 then fmtTl (b.fld F.IPM_TX_CFG_FORMAT (t - 128)) else b.fld F.HEAD_CFG_TL (tgtHead t)

/-- The current frame of a target's timeline. -/
def Block.tgtFrame (b : Block) (t : Nat) : Nat := b.tlFrame (b.tgtTl t)

/-- A target's format runs at half its timeline's rate (R68, R384). -/
def Block.tgtHalf (b : Block) (t : Nat) : Bool := fmtHalf (b.fld F.TL_CFG_RATE (b.tgtTl t)) (b.tgtFormat t)

/-- Flow `t` - 128 is an IP video output of kind 1. -/
def Block.tgtKind1 (b : Block) (t : Nat) : Bool := decide (128 ≤ t) && decide (t < 256) && b.fld F.IPM_TX_CFG_KIND (t - 128) == 1

/-- Local source `s` is an IP flow of kind 1 (R236). -/
def Block.kind1Source (b : Block) (s : Nat) : Bool := decide (128 ≤ s) && decide (s < 256) && b.fld F.IPM_RX_CFG_KIND (s - 128) == 1

/-- A target may take a stream, as far as this device knows its format (R378 to R380). -/
def Block.eligible (b : Block) (t st : Nat) : Bool :=
  if t < 128 ∧ b.txQuadMember t then false
  else if 128 ≤ t ∧ t < 256 ∧ 2 < b.fld F.IPM_TX_CFG_KIND (t - 128) then false
  else if st = noStream ∨ ¬b.ownStream st then true
  else
    let s := st % 512
    if b.tgtKind1 t then b.kind1Source s && decide ((b.flowRx.look (s - 128)).rate ≤ (b.flowTx.look (t - 128)).rate)
    else if b.kind1Source s ∨ (s < 128 ∧ b.rxQuadMember s) then false
    else if t < 256 then b.srcFormat s == 0 || b.srcFormat s == b.tgtFormat t
    else !(decide (s < 256) && b.on F.STALL_CTRL_MODE s)

/-- The format that a stream shows now: local, or that of its last stroke; 0 when unknown. -/
def Block.streamFormat (b : Block) (st : Nat) : Nat :=
  if b.ownStream st then b.srcFormat (st % 512)
  else match b.ringOf (bowStream st) with
    | some i => (b.rings.look i).fmt
    | none => 0

/-- The stream is known to be a codestream: of a local flow of kind 1, or with strokes of no format (R353, R355). -/
def Block.streamKind1 (b : Block) (st : Nat) : Bool :=
  if b.ownStream st then b.srcKind1 (st % 512)
  else match b.ringOf (bowStream st) with
    | some i => (b.rings.look i).fmt == 0 && !(b.rings.look i).asm.isEmpty
    | none => false

/-- `SRC_MISMATCH` of output `t` judged at a frame start or at a take (R380). -/
def Block.judgeMismatch (b : Block) (t : Nat) : Block :=
  let st := b.fld F.COX_TGT_VID_VID_SRC t
  let f := b.streamFormat st
  b.setTo F.COX_TGT_VID_SRC_MISMATCH t (st != noStream && (if b.tgtKind1 t then f != 0 else b.streamKind1 st || (f != 0 && f != b.tgtFormat t)))

/-! ### Catch lines (R382, R383) -/

/-- The default catch line and the range of an override, field 1, by format. -/
def catch1 (c : Nat) : Nat × Nat × Nat :=
  if c = 1 then (10, 1, 15) else if c = 2 then (6, 1, 11) else if c ≤ 5 then (7, 1, 12) else if c ≤ 16 then (7, 1, 12) else (13, 1, 23)
/-- The same for field 2: the range is that of the raster, the default only of interlaced formats. -/
def catch2 (c : Nat) : Nat × Nat × Nat :=
  if c = 1 then (273, 264, 282) else if c = 2 then (319, 313, 335) else if 6 ≤ c ∧ c ≤ 16 then (569, 564, 583) else (0, 1, 0)

/-- An override is zero or in its range. -/
def catchOk (r : Nat × Nat × Nat) (v : Nat) : Bool := v == 0 || (decide (r.2.1 ≤ v) && decide (v ≤ r.2.2))

/-- The catch line of a target now (R382); a field 2 take on a target without a field 2 takes field 1's. -/
def Block.catchLine (b : Block) (t : Nat) (field2 : Bool) : Nat :=
  let c := b.tgtFormat t
  let pick (r : Nat × Nat × Nat) (v : Nat) : Nat := if v ≠ 0 ∧ catchOk r v then v else r.1
  if field2 ∧ fmtInterlaced c then pick (catch2 c) (b.fld F.COX_TGT_CFG_CATCH2 t) else pick (catch1 c) (b.fld F.COX_TGT_CFG_CATCH1 t)

/-- Device time at the start of a take's catch line. -/
def Block.catchTime (b : Block) (t n : Nat) (field2 : Bool) : Nat := b.lineStart (b.tgtFormat t) (b.tgtTl t) n (b.catchLine t field2)

/-- COX_TGT_CFG_WRITE: `COX_TGT_CFG[t]` is written; a value out of range discards it whole (R382). -/
def coxTgtCfgWrite (t v : Nat) (b : Block) : Block :=
  let c := b.tgtFormat t
  if catchOk (catch1 c) (F.COX_TGT_CFG_CATCH1.of v) && catchOk (catch2 c) (F.COX_TGT_CFG_CATCH2.of v) then b.storeWord W.COX_TGT_CFG t v
  else b.reject 0x0B F.COX_HIST_CFG_REJECTED 0

/-! ### Entries (R393, R394, R400) -/

def Block.take_ (b : Block) (i : Nat) : TakeEnt := b.cox.takes.look i
def Block.updCox (b : Block) (f : CoxSt → CoxSt) : Block := { b with cox := f b.cox }
def Block.updTake (b : Block) (i : Nat) (f : TakeEnt → TakeEnt) : Block := b.updCox fun c => { c with takes := c.takes.upd i f }
/-- An entry that has not reached an outcome. -/
def TakeEnt.live (e : TakeEnt) : Bool := decide (1 ≤ e.state) && decide (e.state ≤ 4)
/-- The takes pending on a target (`QUEUED`). -/
def Block.queued (b : Block) (t : Nat) : Nat := (b.cox.takes.filter fun e => e.2.live && e.2.target == t).length
/-- The take ID of entry `i` (R394). -/
def takeId (i : Nat) (e : TakeEnt) : Nat := e.count * 1024 + i
/-- The entry that a take ID names (R401). -/
def Block.entryOf (b : Block) (id : Nat) : Option Nat :=
  let e := b.take_ (id % 1024)
  if e.state ≠ 0 ∧ e.count = id / 1024 then some (id % 1024) else none
/-- The lowest free entry (R542). -/
def Block.freeEntry (b : Block) : Option Nat := (List.range 1024).find? fun i => (b.take_ i).state == 0

/-! ### Holders (R396, R398, R399) -/

/-- A stream of another twin. -/
def Block.remote (b : Block) (st : Nat) : Bool := st != noStream && !b.ownStream st

/-- A holder more for a stream. -/
def Block.hold (b : Block) (st seats : Nat) : Block :=
  let k := subKey (bowStream st) 0
  let was := (b.sub k).heldBy
  let b := (b.openSub (bowStream st) 0 0).updSub k fun e => { e with count := e.count + 1 }
  let b := b.ite (!was) fun b => (b.updCopy k 0 fun x => { x with seats := seats }).updCopy k 1 fun x => { x with seats := seats }
  b.wantStream k

/-- A holder less for a subscription; the last releases it. -/
def Block.unhold (b : Block) (k : Nat) : Block :=
  if (b.sub k).count = 0 then b else (b.updSub k fun e => { e with count := e.count - 1 }).dropIfUnheld k

/-- A copy of a remote stream is granted. -/
def Block.granted (b : Block) (st : Nat) : Bool :=
  let e := b.sub (subKey (bowStream st) 0)
  e.bow.state == 2 || e.stern.state == 2
/-- Both copies of a remote stream were refused or timed out. -/
def Block.refusedBoth (b : Block) (st : Nat) : Bool :=
  let e := b.sub (subKey (bowStream st) 0)
  e.bow.state == 5 && e.stern.state == 5

/-! ### Selections (R389, R412) -/

/-- The streams that a target holds: video, audio, ancillary. -/
def Block.inUse (b : Block) (t : Nat) : List Nat := [b.fld F.COX_TGT_VID_VID_SRC t, b.fld F.COX_TGT_AV_AUD_SRC t, b.fld F.COX_TGT_AV_ANC_SRC t]

/-- The subscriptions behind some streams. -/
def Block.keysOf (b : Block) (l : List Nat) : List Nat := ((l.filter b.remote).map fun st => subKey (bowStream st) 0).dedup

/-- Audio or ancillary of an output after a take: follow (0), keep (1) or none (2) (R389). -/
def Block.selectAv (b : Block) (src none_ : Field) (t st how : Nat) : Block :=
  match how with
  | 0 => (b.setFld src t st).clr none_ t
  | 2 => (b.setFld src t noStream).set none_ t
  | _ => b

/-- The outcome of a take shown at its target (R412). -/
def Block.tgtOutcome (b : Block) (i : Nat) (e : TakeEnt) (st : Nat) : Block :=
  let t := e.target
  let b := (b.setFld F.COX_TGT_LAST_TAKE_ID t (takeId i e)).setFld F.COX_TGT_STATE_LAST_OUTCOME t st
  if st = 8 then b
  else
    let b := b.setFld F.COX_TGT_VID_CMD_SRC t e.src
    if st = 5 then (b.clr F.COX_TGT_VID_MISMATCH t).setFld F.COX_TGT_FRAME_FRAME t e.catchF
    else (b.set F.COX_TGT_VID_MISMATCH t).set F.COX_HIST_MISMATCH 0

/-- A take reaches outcome `st`: counted and shown; without an execution its holder goes at once (R399, R400). -/
def Block.finish (b : Block) (i st reason : Nat) : Block :=
  let e := b.take_ i
  let b := b.updTake i fun e => { e with state := st, reason := reason, held := false }
  let b := b.ite (e.held && st != 5) fun b => b.unhold (subKey (bowStream e.src) 0)
  let b := b.tgtOutcome i e st
  match st with
  | 5 => (b.bump F.COX_EXEC_CNT_COUNT 0 1).set F.COX_HIST_EXECUTED 0
  | 6 => (b.bump F.COX_LATE_CNT_COUNT 0 1).set F.COX_HIST_LATE 0
  | 7 => (b.bump F.COX_REFUSE_CNT_COUNT 0 1).set F.COX_HIST_REFUSED 0
  | 8 => (b.bump F.COX_CANCEL_CNT_COUNT 0 1).set F.COX_HIST_CANCELLED 0
  | _ => (b.bump F.COX_ABANDON_CNT_COUNT 0 1).set F.COX_HIST_ABANDONED 0

/-! ### Mirror stalls (R9, R381) -/

/-- The remote streams that head layers read. -/
def Block.layerStreams (b : Block) : List Nat :=
  (((List.range 512).map fun l => b.fld F.COX_TGT_VID_VID_SRC (256 + l)).filter b.remote).map bowStream |>.dedup

/-- Mirror stalls follow the layers: one for each remote stream they read, of class 4 on its timeline; the others off (R9). -/
def Block.mirrorSettle (b : Block) (tl : Nat) : Block :=
  let want := b.layerStreams
  let b := b.each (List.range 64) fun b m =>
    match b.mirrors.look m with
    | some st => if st ∈ want then b else { b.mirrorEnable m 0 4 false with mirrors := b.mirrors.put m none }
    | none => b
  b.each want fun b st =>
    if (b.mirrorOf st).isSome then b
    else match (List.range 64).find? fun m => (b.mirrors.look m).isNone && b.stallState (256 + m) == 0 with
      | some m => { b with mirrors := b.mirrors.put m (some st) }.mirrorEnable m tl 4 true
      | none => b

/-- A mirror stall is there for a take of a stream to a head layer, the takes that wait counted (R381). -/
def Block.mirrorFree (b : Block) (st : Nat) : Bool :=
  let waiting := ((b.cox.takes.filter fun e => e.2.live && decide (256 ≤ e.2.target) && b.remote e.2.src).map fun e => bowStream e.2.src)
  decide ((b.layerStreams ++ waiting ++ [bowStream st]).dedup.length ≤ 64)

/-! ### The catch line (R385 to R391, R399) -/

/-- The cut of a take on output `t`, whose old sources serve the lines before it (R385, R391). A take to a source that the output cannot show yet takes
effect at the next frame start (R211). -/
def Block.cutAt (b : Block) (t : Nat) (e : TakeEnt) (vid anc : Nat) : Block :=
  let k := b.catchLine t e.field2
  let line := if !b.outHasSource t then 4096 else if fmt2160 (b.tgtFormat t) then k / 2 + 1 else k
  b.updCox fun c => { c with cuts := c.cuts.put t (some ⟨e.catchF, line, vid, anc⟩) }

/-- The video and the ancillary source of a line of a frame of output `t`. -/
def Block.vidAt (b : Block) (t frame line : Nat) : Nat :=
  match b.cox.cuts.look t with
  | some c => if c.frame = frame ∧ line < c.line then c.vid else b.fld F.COX_TGT_VID_VID_SRC t
  | none => b.fld F.COX_TGT_VID_VID_SRC t
def Block.ancAt (b : Block) (t frame line : Nat) : Nat :=
  match b.cox.cuts.look t with
  | some c => if c.frame = frame ∧ line < c.line then c.anc else b.fld F.COX_TGT_AV_ANC_SRC t
  | none => b.fld F.COX_TGT_AV_ANC_SRC t

/-- A take switches its target (R388, R389); the sources it removed wait to lose a holder (R399). -/
def Block.switch (b : Block) (i : Nat) : Block :=
  let e := b.take_ i; let t := e.target
  let old := b.keysOf (b.inUse t)
  let vid := b.fld F.COX_TGT_VID_VID_SRC t; let anc := b.fld F.COX_TGT_AV_ANC_SRC t
  let b := b.setFld F.COX_TGT_VID_VID_SRC t e.src
  let b := if t < 256 then
      (b.selectAv F.COX_TGT_AV_AUD_SRC F.COX_TGT_AV_AUD_SILENT t e.src e.audio).selectAv F.COX_TGT_AV_ANC_SRC F.COX_TGT_AV_ANC_NONE t e.src e.anc
    else b
  let new := b.keysOf (b.inUse t)
  let own := subKey (bowStream e.src) 0
  let gone := (old.filter fun k => k ∉ new) ++ (if e.held ∧ own ∈ old then [own] else [])
  let b := b.updCox fun c => { c with drops := c.drops ++ gone.map fun k => (t, k) }
  let b := b.finish i 5 St.OK
  if t < 256 then (b.judgeMismatch t).cutAt t e vid anc else b.mirrorSettle e.tl

/-- TAKE_EXECUTE: the catch line of a take (R385, R397, R400, R402, R541). -/
def Block.executeTake (b : Block) (i : Nat) : Block :=
  let e := b.take_ i
  if ¬e.live then b
  else
    let go := e.journal.getD (e.state == 4 || (e.state == 2 && e.rid == 0))
    if go then (b.switch i).updChk e.target fun s => { s with rep := 0, lastFseq := none }
    else if e.rid = 0 then b.finish i 6 St.LATE
    else b.finish i 9 (if e.reason = 0 then St.TIMEOUT else e.reason)

/-- HOLDER_RELEASE: the feather of a take on target `t` has ended: what it removed loses its holders (R398, R399). -/
def holderRelease (t : Nat) (b : Block) : Block :=
  let mine := b.cox.drops.filter fun d => d.1 == t
  (b.updCox fun c => { c with drops := c.drops.filter fun d => d.1 != t }).each mine fun b d => b.unhold d.2

/-- TAKE_ENTRY_FREE: 16 frames after its outcome an entry is free (R400). -/
def takeEntryFree (i : Nat) (b : Block) : Block :=
  if 5 ≤ (b.take_ i).state then b.updCox fun c => { c with takes := c.takes.put i default } else b

/-! ### Commands (R413, R415) -/

/-- TAKE_STATUS, 0x0504. -/
def takeStatus (ch : Nat) (p : List Byte) (b : Block) : Block :=
  b.command ch 0x0504 true (p.length == 4) [] []
    fun b =>
      let e := match b.entryOf (le p 0 4) with
        | some i => b.take_ i
        | none => default
      b.ok ch (leBytes 1 e.state ++ [0] ++ leBytes 2 e.reason ++ leBytes 6 e.catchF ++ leBytes 2 e.target ++ leBytes 2 e.src ++ leBytes 2 e.rid)

/-- `COX_TGT_STATE[t]`. -/
def Block.tgtState (b : Block) (t : Nat) : Nat := min (b.queued t) 7 + b.fld F.COX_TGT_STATE_LAST_OUTCOME t * 8

/-- TARGET_GET, 0x0505 (R412). -/
def targetGet (ch : Nat) (p : List Byte) (b : Block) : Block :=
  let t := le p 0 2
  b.command ch 0x0505 true (p.length == 4)
    [(!(decide (t ≤ 767) && zeros p 2 2), St.BAD_ARG), (!b.targetHas t, St.UNIT_ABSENT)] []
    fun b => b.ok ch (b.word4 W.COX_TGT_VID t ++ b.word4 W.COX_TGT_AV t ++ b.word4 W.COX_TGT_LAST t ++ b.word4 W.COX_TGT_FRAME t
      ++ leBytes 4 (b.tgtState t) ++ b.word4 W.COX_TGT_CFG t)

/-- CATCH_SET, 0x0507 (R382, R415). -/
def catchSet (ch : Nat) (p : List Byte) (b : Block) : Block :=
  let t := le p 0 2; let c := b.tgtFormat t
  b.command ch 0x0507 true (p.length == 8)
    [(!(decide (t ≤ 767) && catchOk (catch1 c) (le p 2 2) && catchOk (catch2 c) (le p 4 2) && zeros p 6 2), St.BAD_ARG),
     (!b.targetHas t, St.UNIT_ABSENT), (b.selftest 0x0B, St.BUSY_SELFTEST)]
    [(b.queued t != 0, St.NOT_READY)]
    fun b => (coxTgtCfgWrite t (le p 2 2 + le p 4 2 * 4096) b).ok ch []

end Sys2Proof.Machine
end

