-- ==== Sys2Proof/Machine/Regatta.lean ====
section
/-!
DEFINITION. Regattas and the arming of takes: the leader, the members, their messages and deadlines, and the commands that queue and
cancel takes (R393 to R397, R400, R401, R404 to R411, R413, R414).
-/
namespace Sys2Proof.Machine

/-! ### Slots (R405) -/

def Block.rg (b : Block) (k : Nat) : Regatta := b.cox.regattas.look k
def Block.updRg (b : Block) (k : Nat) (f : Regatta → Regatta) : Block := b.updCox fun c => { c with regattas := c.regattas.upd k f }
/-- A regatta is open until the start of frame C + 1. -/
def Block.rgOpen (b : Block) (k : Nat) : Bool := (b.rg k).state != 0 && decide (b.tlFrame (b.rg k).tl ≤ (b.rg k).catchF)
/-- The open regatta of an ID. -/
def Block.rgOf (b : Block) (id : Nat) : Option Nat := (List.range 16).find? fun k => b.rgOpen k && (b.rg k).id == id
/-- This device is a member. -/
def Block.isMember (b : Block) (r : Regatta) : Bool := bitOf r.members b.me
/-- This device leads. -/
def Block.isLeader (b : Block) (r : Regatta) : Bool := r.leader == b.me
/-- The entries of this device's takes in a regatta. -/
def Block.rgEntries (b : Block) (r : Regatta) : List Nat :=
  (b.cox.takes.filter fun e => e.2.state != 0 && e.2.rid == r.id && e.2.catchF == r.catchF).map Prod.fst
/-- The armed takes of a regatta here, or those held at the vote. -/
def Block.rgHeld (b : Block) (r : Regatta) : Nat :=
  if r.voted then r.heldAt.length else ((b.rgEntries r).filter fun i => (b.take_ i).state == 2).length

/-! ### The leader (R406, R408) -/

/-- The status of a member that did not vote ready; none for a ready one. -/
def Regatta.failing (r : Regatta) (d : Nat) : Option Nat :=
  match r.votes.find? fun v => v.member == d with
  | none => some St.TIMEOUT
  | some v => if v.ready then none else some v.reason

/-- The leader decides, once: abandon for all under `force`, else by the votes and the policy (R408). -/
def Block.decideRg (b : Block) (k : Nat) (force : Option Nat) : Block :=
  b.updRg k fun r =>
    if r.decided then r
    else
      let ms := onesAt 18 r.members
      let sums := (r.arms.map Prod.snd).sum == r.total && (r.votes.map VoteSt.held).sum == r.total
      let all : Option Nat := match force with
        | some s => some s
        | none => if r.policy = 0 then (match ms.findSome? r.failing with
            | some s => some s
            | none => if sums then none else some St.BAD_ARG)
          else none
      let verdicts := ms.map fun d => match all with
        | some s => (d, 0, s)
        | none => match r.failing d with
          | some s => (d, 0, s)
          | none => (d, 1, St.OK)
      let go := verdicts.any fun v => v.2.1 == 1
      { r with decided := true, verdicts := verdicts, verdict := some (bit go),
               reason := (match all with
                 | some s => s
                 | none => (ms.findSome? r.failing).getD St.OK),
               state := if bitOf r.members r.leader then r.state else if go then 3 else 4 }

/-- An `ARM` at the leader: its answer, or none while the open has not come (R406). `m` is the message. -/
def Block.leaderArm (b : Block) (m : List Byte) : Option Nat × Block :=
  match b.rgOf (le m 16 2) with
  | some k =>
    let r := b.rg k
    if ¬b.isLeader r then (some St.BAD_ARG, b)
    else if bitOf r.members (msgSrc m) ∧ le m 18 1 = r.leader ∧ le m 19 1 = r.tl ∧ le m 20 6 = r.catchF ∧ le m 28 4 = r.members ∧ le m 32 2 = r.total then
      (some St.OK, b.updRg k fun r => { r with arms := (r.arms.filter fun a => a.1 != msgSrc m) ++ [(msgSrc m, le m 26 2)] })
    else (some St.BAD_ARG, b.decideRg k (some St.BAD_ARG))
  | none => (none, b.updCox fun c => { c with early := c.early ++ [m] })

/-- A `VOTE` at the leader (R407, R408). -/
def Block.leaderVote (b : Block) (m : List Byte) : Option Nat × Block :=
  match b.rgOf (le m 16 2) with
  | some k =>
    let r := b.rg k; let d := msgSrc m
    if ¬b.isLeader r ∨ ¬bitOf r.members d then (some St.BAD_ARG, b)
    else if r.decided ∨ (r.votes.any fun v => v.member == d) ∨ r.catchF ≤ b.tlFrame r.tl + 2 then (some St.OK, b)
    else
      let b := b.updRg k fun r => { r with votes := r.votes ++ [⟨d, le m 18 1 == 1, le m 20 2, le m 22 2⟩] }
      let r := b.rg k
      (some St.OK, if (onesAt 18 r.members).all fun d => r.votes.any fun v => v.member == d then b.decideRg k none else b)
  | none => (none, b.updCox fun c => { c with early := c.early ++ [m] })

/-! ### A member takes `GO` (R400, R409, R411) -/

/-- A verdict at a member: its held takes are committed, or all abandoned. -/
def Block.memberGo (b : Block) (k verdict reason : Nat) : Block :=
  let r := b.rg k
  let b := b.updRg k fun r => { r with gotGo := true, verdict := some verdict, reason := reason, state := if verdict = 1 then 3 else 4 }
  b.each (b.rgEntries r) fun b i =>
    let s := (b.take_ i).state
    if s = 3 ∧ verdict = 1 ∧ i ∈ r.heldAt then b.updTake i fun e => { e with state := 4 }
    else if s = 1 ∨ s = 2 ∨ s = 3 then b.finish i 9 (if verdict = 1 then St.LATE else reason)
    else b

/-- A `GO` at a member. -/
def Block.takeGo (b : Block) (m : List Byte) : Option Nat × Block :=
  match b.rgOf (le m 16 2) with
  | some k =>
    let r := b.rg k
    if ¬b.isMember r ∨ le m 20 6 ≠ r.catchF then (some St.BAD_ARG, b)
    else if r.gotGo then (some St.OK, b)
    else (some St.OK, b.memberGo k (le m 18 1) (le m 26 2))
  | none => (some St.BAD_ARG, b)

/-! ### Messages (R361, R376, R406) -/

/-- A regatta message acted on, by its type: its answer, if it is answered now. -/
def Block.rgMessage (b : Block) (m : List Byte) : Option Nat × Block :=
  match msgType m with
  | 0x30 => b.leaderArm m
  | 0x31 => b.leaderVote m
  | _ => b.takeGo m

/-- The `ACK` of a message, kept to answer a resend. -/
def Block.ack (b : Block) (src tid id status : Nat) : Block :=
  let b := b.updCox fun c => { c with answered := ((⟨src, tid, status⟩ : Answered) :: c.answered).take 1024 }
  b.sendTo src (b.mkMsg 0x33 src tid (leBytes 2 status ++ leBytes 2 id ++ zeroBytes 8))

/-- A regatta message of another device. -/
def Block.rgReceive (b : Block) (m : List Byte) : Block :=
  match b.cox.answered.find? fun a => a.src == msgSrc m && a.tid == msgTid m with
  | some a => b.sendTo a.src (b.mkMsg 0x33 a.src a.tid (leBytes 2 a.status ++ leBytes 2 (le m 16 2) ++ zeroBytes 8))
  | none =>
    match b.rgMessage m with
    | (some s, b) => b.ack (msgSrc m) (msgTid m) (le m 16 2) s
    | (none, b) => b

/-- A regatta message of this device: kind 5 `ARM`, 6 `VOTE`, 7 `GO`; to itself it is delivered at once. -/
def Block.rgSend (b : Block) (kind dst : Nat) (body : List Byte) : Block :=
  let tid := (b.tid + 1) % 2 ^ 32
  let typ := 0x30 + (kind - 5)
  if dst = b.me then (b.rgMessage (b.mkMsg typ dst 0 body)).2
  else
    let b := { b with tid := tid, asks := b.asks ++ [(⟨kind, tid, dst, 1, body, 0, 0, 0, 0, 0⟩ : Ask)] }
    b.sendTo dst (b.mkMsg typ dst tid body)

/-- REGATTA_RESEND: no answer for 0.5 ms to an `ARM`, `VOTE` or `GO`: sent again up to three times, never after its deadline (R376). -/
def regattaResend (kind tid dst : Nat) (b : Block) : Block :=
  match b.asks.find? fun a => a.kind == kind && a.tid == tid && a.dst == dst with
  | none => b
  | some a =>
    if kind < 5 then b
    else
      let dead : Bool := match b.rgOf (le a.body 0 2) with
        | some k => decide ((b.rg k).catchF ≤ b.tlFrame (b.rg k).tl + (if kind = 7 then 0 else 2))
        | none => true
      if 4 ≤ a.sends ∨ dead then b.dropAsk a
      else
        { b with asks := b.asks.map fun y => if y = a then { a with sends := a.sends + 1 } else y }.sendTo dst
          (b.mkMsg (0x30 + (kind - 5)) dst tid a.body)

/-! ### A member's arming and vote (R396, R400, R406, R407) -/

/-- The member's vote is sent, once, and its takes are held for the verdict. -/
def Block.castVote (b : Block) (k : Nat) (ready : Bool) (reason : Nat) : Block :=
  let r := b.rg k
  if r.voted then b
  else
    let es := b.rgEntries r
    let held := es.filter fun i => (b.take_ i).state == 2
    let b := b.updRg k fun r => { r with voted := true, heldAt := held, state := if r.state = 1 then 2 else r.state }
    let b := b.each es fun b i => b.ite ((b.take_ i).state == 1 || (b.take_ i).state == 2) fun b => b.updTake i fun e => { e with state := 3 }
    b.rgSend 6 r.leader (leBytes 2 r.id ++ leBytes 1 (bit ready) ++ [0] ++ leBytes 2 reason ++ leBytes 2 held.length ++ zeroBytes 4)

/-- `ARM` goes to the leader once the member holds its takes (R406). -/
def Block.trySendArm (b : Block) (k : Nat) : Block :=
  let r := b.rg k
  if b.isMember r ∧ ¬r.armSent ∧ r.accepted = r.takes then
    (b.updRg k fun r => { r with armSent := true }).rgSend 5 r.leader
      (leBytes 2 r.id ++ leBytes 1 r.leader ++ leBytes 1 r.tl ++ leBytes 6 r.catchF ++ leBytes 2 r.takes ++ leBytes 4 r.members
        ++ leBytes 2 r.total ++ zeroBytes 2)
  else b

/-- The member votes ready as soon as all its takes are armed, and not ready once one was cancelled (R407). -/
def Block.tryVote (b : Block) (k : Nat) : Block :=
  let r := b.rg k
  if ¬b.rgOpen k ∨ ¬b.isMember r ∨ r.voted then b
  else
    let es := b.rgEntries r
    if es.any fun i => (b.take_ i).state == 8 then b.castVote k false St.CANCELLED
    else if r.armSent ∧ es.length = r.takes ∧ (es.all fun i => (b.take_ i).state == 2) then b.castVote k true St.OK
    else b

/-- Takes whose sources are held are armed while device time is synchronised, those refused at both copies end, and members vote (R112,
R396, R400, R407). -/
def Block.coxSettle (b : Block) : Block :=
  let b := b.each (b.cox.takes.map Prod.fst) fun b i =>
    let e := b.take_ i
    if e.state ≠ 1 then b
    else if ¬b.remote e.src ∨ b.granted e.src then b.ite b.synced fun b => b.updTake i fun e => { e with state := 2 }
    else if b.refusedBoth e.src then b.finish i 7 (b.sub (subKey (bowStream e.src) 0)).bow.status
    else b
  b.each (List.range 16) fun b k => b.tryVote k

/-- A command, and what it means for the takes that wait. -/
def withCox (f : Block → Block) (b : Block) : Block := (f b).coxSettle

/-! ### Messages received -/

/-- ARM_RX (R406). -/
def armRx (q : Nat) (p : Packet) (b : Block) : Block := b.ctrlRx q 0x30 p fun m b => b.rgReceive m
/-- VOTE_RX (R408). -/
def voteRx (q : Nat) (p : Packet) (b : Block) : Block := b.ctrlRx q 0x31 p fun m b => b.rgReceive m
/-- GO_RX (R409, R411). -/
def goRx (q : Nat) (p : Packet) (b : Block) : Block := b.ctrlRx q 0x32 p fun m b => b.rgReceive m
/-- ACK_RX: the answer to an `ARM`, `VOTE` or `GO` of this device (R406). -/
def ackRx (q : Nat) (p : Packet) (b : Block) : Block :=
  b.ctrlRx q 0x33 p fun m b =>
    match b.asks.find? fun a => decide (5 ≤ a.kind) && a.tid == msgTid m && a.dst == msgSrc m with
    | some a => (b.dropAsk a).each (List.range 17) fun b q => if (b.fport q).waitq = [] then b else b.drain q
    | none => b

/-! ### Deadlines (R397, R407 to R409) -/

/-- The first status of a member's takes that are not armed, in the order they were taken (R407). -/
def Block.firstUnarmed (b : Block) (r : Regatta) : Nat :=
  let es := (b.rgEntries r).map b.take_
  match (es.filter fun e => e.state != 2).foldl (fun (a : Option TakeEnt) e => match a with
      | some x => if e.count < x.count then some e else some x
      | none => some e) none with
  | some e => if e.reason = 0 then St.LATE else e.reason
  | none => St.LATE

/-- ARM_DEADLINE: frame C - 3 of a timeline starts: standalone takes of frame C that are not armed end LATE, and members vote (R397,
R407). -/
def armDeadline (tl c : Nat) (b : Block) : Block :=
  let b := b.each (b.cox.takes.map Prod.fst) fun b i =>
    let e := b.take_ i
    if e.state = 1 ∧ e.rid = 0 ∧ e.tl = tl ∧ e.catchF = c then b.finish i 6 St.LATE else b
  b.each (List.range 16) fun b k =>
    let r := b.rg k
    if ¬b.rgOpen k ∨ ¬b.isMember r ∨ r.voted ∨ r.tl ≠ tl ∨ r.catchF ≠ c then b
    else
      let es := b.rgEntries r
      let armed := es.filter fun i => (b.take_ i).state == 2
      let full := decide (es.length = r.takes ∧ armed.length = r.takes)
      let why := b.firstUnarmed r
      if r.policy = 0 then b.castVote k full (if full then St.OK else why)
      else
        let b := b.each es fun b i => if (b.take_ i).state = 1 then b.finish i 6 St.LATE else b
        let ready := decide (armed ≠ [] ∨ r.takes = 0)
        b.castVote k ready (if ready then St.OK else why)

/-- VOTE_DEADLINE: frame C - 2 starts: the leader decides (R408). -/
def voteDeadline (tl c : Nat) (b : Block) : Block :=
  b.each (List.range 16) fun b k =>
    let r := b.rg k
    if b.rgOpen k ∧ b.isLeader r ∧ r.tl = tl ∧ r.catchF = c then b.decideRg k none else b

/-- GO_SEND: frame C - 1 starts: the leader sends `GO` to every member it can reach (R409). -/
def goSend (tl c : Nat) (b : Block) : Block :=
  b.each (List.range 16) fun b k =>
    let r := b.rg k
    if b.rgOpen k ∧ b.isLeader r ∧ r.tl = tl ∧ r.catchF = c then
      let b := b.decideRg k none
      b.each (b.rg k).verdicts fun b v =>
        if v.1 ≠ b.me ∧ (b.route v.1).isNone then b.updRg k fun r => { r with noRoute := withBit r.noRoute v.1 }
        else b.rgSend 7 v.1 (leBytes 2 r.id ++ leBytes 1 v.2.1 ++ [0] ++ leBytes 6 r.catchF ++ leBytes 2 v.2.2)
    else b

/-- GO_DEADLINE: frame C starts: a member without a `GO` abandons its takes (R409). -/
def goDeadline (tl c : Nat) (b : Block) : Block :=
  b.each (List.range 16) fun b k =>
    let r := b.rg k
    if b.rgOpen k ∧ b.isMember r ∧ ¬r.gotGo ∧ r.tl = tl ∧ r.catchF = c then (b.memberGo k 0 St.TIMEOUT).set F.COX_HIST_GO_LATE 0 else b

/-- TAKE_EXECUTE, and its regatta (R385, R400). -/
def takeExecute (i : Nat) (b : Block) : Block :=
  let e := b.take_ i
  let b := b.executeTake i
  if e.rid ≠ 0 ∧ (b.take_ i).state = 5 ∧ e.live then
    match b.rgOf e.rid with
    | some k => b.updRg k fun r => { r with state := 5 }
    | none => b
  else b

/-! ### Commands (R393 to R396, R401, R404, R405, R410, R413, R414) -/

/-- A stream ID that TAKE may name (R378): no source, or a source of a device that can exist. -/
def streamNameOk (st : Nat) : Bool := st == noStream || (decide (st < 16384) && decide (st / 512 ≤ 17) && decide (st % 512 ≤ 335))

/-- The catch frame that a request gets: the frame asked for, or F + 4, moved on for a half-rate target (R384, R395). -/
def Block.catchFor (b : Block) (t asked : Nat) (move : Bool) : Nat :=
  let first := b.tgtFrame t + 4
  if asked = 0 then first else if first ≤ asked then asked else if move then first + (if b.tgtHalf t then first % 2 else 0) else asked

/-- The local heads that a head's layers read. -/
def Block.headFeeds (b : Block) (g : Nat) : List Nat :=
  ((List.range 16).map fun l => b.fld F.COX_TGT_VID_VID_SRC (256 + 16 * g + l)).filterMap fun st =>
    if b.ownStream st ∧ 256 ≤ st % 512 ∧ st % 512 < 288 then some (st % 512 - 256) else none

/-- Head `h` is read by head `g`, itself or through other local heads. -/
def Block.headReads (b : Block) (h : Nat) : Nat → Nat → Bool
  | 0, g => g == h
  | k + 1, g => g == h || (b.headFeeds g).any fun f => b.headReads h k f

/-- A take of `st` to a layer of a head would close a loop of local heads (R430). -/
def Block.headLoop (b : Block) (t st : Nat) : Bool :=
  decide (256 ≤ t) && b.ownStream st && decide (256 ≤ st % 512) && decide (st % 512 < 288) && b.headReads (tgtHead t) 32 (st % 512 - 256)

/-- A member take fits its regatta (R414). -/
def Block.memberTakeOk (b : Block) (rid c : Nat) : Bool :=
  match b.rgOf rid with
  | some k => b.isMember (b.rg k) && (b.rg k).catchF == c && decide ((b.rg k).accepted < (b.rg k).takes) && !(b.rg k).voted
  | none => false

/-- TAKE, 0x0501 (R378, R379, R381, R383, R384, R392 to R398, R403, R413, R414). -/
def take_ (ch : Nat) (p : List Byte) (b : Block) : Block :=
  let t := le p 0 2; let st := le p 2 2; let fl := le p 4 1; let fe := le p 7 1; let asked := le p 8 6
  let member := bitOf fl 2; let rid := if member then le p 14 2 else 0
  let c := b.catchFor t asked (bitOf fl 1 && !member)
  let late := asked != 0 && decide (asked < b.tgtFrame t + 4)
  b.command ch 0x0501 true (p.length == 20)
    [(!(decide (t ≤ 767) && streamNameOk st && decide (fl ≤ 7) && decide (le p 5 1 ≤ 2) && decide (le p 6 1 ≤ 2) && (decide (fe ≤ 64) || fe == 0xFF)
        && zeros p 17 3), St.BAD_ARG),
     (!b.targetHas t || (b.ownStream st && !b.sourceHas (st % 512)), St.UNIT_ABSENT),
     (b.selftest 0x0B || (decide (t < 128) && b.laneTested (128 + t)), St.BUSY_SELFTEST)]
    [(!b.synced || (decide (t < 128) && !b.crewOn t), St.NOT_READY),
     (!b.eligible t st || b.headLoop t st, St.BAD_ARG),
     (late && (member || !bitOf fl 1), St.LATE),
     ((bitOf fl 0 && !fmtInterlaced (b.tgtFormat t)) || (b.tgtHalf t && c % 2 == 1) || (member && !b.memberTakeOk rid c)
        || b.cox.takes.any (fun e => e.2.live && e.2.target == t && e.2.catchF == c && e.2.field2 == bitOf fl 0), St.BAD_ARG)]
    fun b =>
      match b.freeEntry with
      | none => (b.set F.COX_HIST_QUEUE_FULL 0).no ch St.NOT_READY
      | some i =>
        if 4 ≤ b.queued t then (b.set F.COX_HIST_QUEUE_FULL 0).no ch St.NOT_READY
        else if 256 ≤ t ∧ b.remote st ∧ ¬b.mirrorFree st then b.no ch St.NOT_READY
        else
          let remote := b.remote st
          let shared := remote && (b.sub (subKey (bowStream st) 0)).heldBy
          let n := (b.cox.accepted + 1) % 2 ^ 22
          let e : TakeEnt := ⟨1, n, t, st, bitOf fl 0, le p 5 1, le p 6 1, if fe = 0xFF then b.fld F.COX_CFG_FEATHER_DEF 0 else fe, c, b.tgtTl t,
            le p 16 1, rid, 0, remote, none⟩
          let b := b.updCox fun x => { x with accepted := n, takes := x.takes.put i e }
          let b := b.ite remote fun b => b.hold st (le p 16 1)
          let armed := !remote || b.granted st
          let b := match (if member then b.rgOf rid else none) with
            | some k => (b.updRg k fun r => { r with accepted := r.accepted + 1 }).trySendArm k
            | none => b
          let d := leBytes 4 (takeId i e) ++ leBytes 6 c ++ leBytes 1 (bit (late && bitOf fl 1) + bit shared * 2) ++ [0]
          b.coxSettle.answer ch (if armed then St.OK else St.ACCEPTED) d

/-- TAKE_CANCEL, 0x0502 (R401, R407, R410). -/
def takeCancel (ch : Nat) (p : List Byte) (b : Block) : Block :=
  let whole := le p 6 1 == 1
  let i := b.entryOf (le p 0 4); let k := b.rgOf (le p 4 2)
  let e := match i with
    | some i => b.take_ i
    | none => default
  let r := match k with
    | some k => b.rg k
    | none => default
  let lead := b.isLeader r && !r.decided; let mem := b.isMember r && !r.voted
  b.command ch 0x0502 true (p.length == 8)
    [(!(decide (le p 6 1 ≤ 1) && zeros p 7 1) || (if whole then k.isNone else i.isNone), St.BAD_ARG), (b.selftest 0x0B, St.BUSY_SELFTEST)]
    [(!b.synced, St.NOT_READY),
     (if whole then !(lead || mem)
      else !(e.state == 1 || e.state == 2) || (e.rid == 0 && decide (e.catchF ≤ b.tlFrame e.tl + 1)), St.LATE)]
    fun b =>
      if whole then
        match k with
        | none => b.ok ch []
        | some k =>
          let b := b.ite lead fun b => b.decideRg k (some St.CANCELLED)
          let b := b.ite mem fun b =>
            (b.each (b.rgEntries r) fun b i => if (b.take_ i).live then b.finish i 8 St.CANCELLED else b).castVote k false St.CANCELLED
          b.ok ch []
      else
        match i with
        | none => b.ok ch []
        | some i => ((b.finish i 8 St.CANCELLED).coxSettle).ok ch []

/-- REGATTA_OPEN, 0x0503 (R404 to R406, R413). -/
def regattaOpen (ch : Nat) (p : List Byte) (b : Block) : Block :=
  let id := le p 0 2; let leader := le p 2 1; let tl := le p 3 1; let c := le p 4 6; let takes := le p 10 2; let ms := le p 12 4; let total := le p 16 2
  let slot := (List.range 16).find? fun k => !b.rgOpen k
  b.command ch 0x0503 true (p.length == 20)
    [(!(id != 0 && decide (leader ≤ 17) && decide (tl ≤ 1) && decide (takes ≤ 1024) && decide (ms < 2 ^ 18) && decide (1 ≤ total) && decide (total ≤ 2304)
        && decide (takes ≤ total) && decide (le p 18 1 ≤ 1) && zeros p 19 1 && (bitOf ms b.me || (leader == b.me && takes == 0))
        && (b.rgOf id).isNone), St.BAD_ARG), (b.selftest 0x0B, St.BUSY_SELFTEST)]
    [(!b.synced, St.NOT_READY), (decide (c < b.tlFrame tl + 4), St.LATE), (slot.isNone, St.NOT_READY)]
    fun b =>
      match slot with
      | none => b.ok ch []
      | some k =>
        let b := b.updRg k fun _ => { (default : Regatta) with
          state := 1, id := id, leader := leader, tl := tl, catchF := c, takes := takes, members := ms, total := total, policy := le p 18 1 }
        -- the messages that came before the open (R406)
        let mine := if leader = b.me then b.cox.early.filter fun m => le m 16 2 == id else []
        let b := b.updCox fun x => { x with early := x.early.filter fun m => m ∉ mine }
        let b := b.each mine fun b m => b.rgReceive m
        (((b.trySendArm k).tryVote k)).ok ch []

/-- REGATTA_STATUS, 0x0506. -/
def regattaStatus (ch : Nat) (p : List Byte) (b : Block) : Block :=
  let k := (b.rgOf (le p 0 2)) <|> ((List.range 16).find? fun k => (b.rg k).state != 0 && (b.rg k).id == le p 0 2)
  b.command ch 0x0506 true (p.length == 4) [(!zeros p 2 2 || k.isNone, St.BAD_ARG)] []
    fun b =>
      let r := b.rg (k.getD 0)
      let mask (vs : List VoteSt) : Nat := (vs.map fun v => 2 ^ v.member).sum
      b.ok ch (leBytes 1 r.state ++ leBytes 1 (r.verdict.getD 0xFF) ++ leBytes 2 r.reason ++ leBytes 4 (mask r.votes)
        ++ leBytes 4 (mask (r.votes.filter VoteSt.ready)) ++ leBytes 2 (b.rgHeld r) ++ leBytes 2 (r.votes.map VoteSt.held).sum
        ++ leBytes 6 r.catchF ++ [0, 0])

/-! ### Registers (R416) -/

/-- The words of regatta slot `k`, in their order from `COX_RG_ID`. -/
def Block.rgWord (b : Block) (k i : Nat) : Nat :=
  let r := b.rg k
  match i with
  | 0 => r.id + r.leader * 2 ^ 16 + bit (b.isLeader r && r.state != 0) * 2 ^ 21 + r.tl * 2 ^ 22 + r.policy * 2 ^ 23 + r.state * 2 ^ 24
  | 1 => r.catchF % 2 ^ 32
  | 2 => r.catchF / 2 ^ 32
  | 3 => r.members
  | 4 => ((r.votes.filter VoteSt.ready).map fun v => 2 ^ v.member).sum
  | 5 => r.takes + r.total * 2 ^ 16
  | _ => b.rgHeld r + r.reason * 2 ^ 16

/-- `COX_STATUS`. -/
def Block.coxStatus (b : Block) : Nat :=
  (b.cox.takes.filter fun e => e.2.state != 0).length + ((List.range 16).filter fun k => b.rgOpen k).length * 2 ^ 16

end Sys2Proof.Machine
end

