-- ==== Sys2Proof/Machine/Guard.lean ====
section
/-!
DEFINITION. The guard layer: bitmaps, palettes, glyphs, markers, guard messages and their operations (R442 to R459, R734, R736).
-/
namespace Sys2Proof.Machine

/-! ### Colour (R734) -/

/-- A colour drawn at an alpha of 255 over a code. -/
def blend (a p c : Nat) : Nat := (a * p + (255 - a) * c + 127) / 255
/-- A code dimmed halfway to a style colour. -/
def dim (c s : Nat) : Nat := (c + s + 1) / 2

/-! ### Bitmaps (R422, R444) -/

/-- The yard offset of the guard bitmap of head `h`. -/
def Block.bitmapBase (b : Block) (h : Nat) : Nat := b.regionBase 1 * gib + h * 67108864 + 62914560

/-- Pixel index at (x, y) of the bitmap. -/
def Block.bitmapAt (b : Block) (h x y : Nat) : Nat := bitsOf (b.yardByte (b.bitmapBase h + y * 1920 + x / 2)).toNat (4 * (x % 2)) 4

/-- A pixel of the bitmap drawn. -/
def Block.bitmapPut (b : Block) (h x y i : Nat) : Block :=
  let a := b.bitmapBase h + y * 1920 + x / 2
  let v := (b.yardByte a).toNat
  b.yardPut a [BitVec.ofNat 8 (if x % 2 = 0 then v / 16 * 16 + i else v % 16 + i * 16)]

/-- A rectangle drawn in raster order from a list of indexes. -/
def Block.bitmapRect (b : Block) (h x y w : Nat) (px : List Nat) : Block :=
  b.each px.zipIdx fun b p => b.bitmapPut h (x + p.2 % w) (y + p.2 / w) p.1

/-- The whole bitmap filled with one index. -/
def Block.bitmapClear (b : Block) (h i : Nat) : Block :=
  let lo := b.bitmapBase h; let hi := lo + 4147200
  let fill : Bank Byte := if i = 0 then [] else (List.range 4147200).map fun k => (lo + k, BitVec.ofNat 8 (17 * i))
  { b with yard := (b.yard.filter fun e => decide (e.1 < lo)) ++ fill ++ (b.yard.filter fun e => decide (hi ≤ e.1)) }

/-! ### Glyphs and labels (R442) -/

/-- The 48 bytes of a glyph. -/
def Block.glyph (b : Block) (code : Nat) : List Byte :=
  match b.guard.glyphs.look code with
  | some g => g
  | none => if 0x20 ≤ code ∧ code ≤ 0x7E then (List.range 48).map fun i => BitVec.ofNat 8 (Config.fontByte code i) else zeroBytes 48

/-- The glyph codes of a label: label 0 is "STALE" at reset. -/
def Block.label (b : Block) (i : Nat) : List Nat :=
  match b.guard.labels.look i with
  | some l => l.map BitVec.toNat
  | none => if i = 0 then [0x53, 0x54, 0x41, 0x4C, 0x45] else []

/-! ### Markers (R454 to R459) -/

/-- The style of checkpoint `c`, none for 15 (R455). -/
def Block.styleOf (b : Block) (c : Nat) : Option Nat :=
  let s := bitsOf (b.fld F.MARKER_MAP_STYLE (c / 8)) (4 * (c % 8)) 4
  if s < 8 then some s else none

/-- A style draws in a frame (R458). -/
def Block.flashOn (b : Block) (c s frame : Nat) : Bool :=
  let f := b.fld F.MARKER_STYLE_A_FLASH s
  f == 0 || (frame + 2 ^ 32 - b.fld F.FRESH_EDGE_FRAME_FRAME c) % 2 ^ 32 / f % 2 == 0

/-- The style that checkpoint `c` draws in a frame: it is stale, mapped, and its style draws something. -/
def Block.markOf (b : Block) (c frame : Nat) : Option Nat :=
  if b.on F.FRESH_STATUS_STALE c then
    match b.styleOf c with
    | some s => if b.fld F.MARKER_STYLE_A_KIND s != 0 && b.flashOn c s frame then some s else none
    | none => none
  else none

/-- The decimal digits of a number below 100,000, as glyph codes. -/
def digitCodes (n : Nat) : List Nat :=
  let d := [n / 10000 % 10, n / 1000 % 10, n / 100 % 10, n / 10 % 10]
  ((d.dropWhile fun x => x == 0) ++ [n % 10]).map (· + 0x30)

/-- The text of a marker: its label, and the age in seconds with one decimal (R457). -/
def Block.markText (b : Block) (c s : Nat) : List Nat :=
  let t := min (b.fld F.FRESH_AGE_AGE c / 100000) 99999
  b.label (b.fld F.MARKER_STYLE_A_LABEL s)
    ++ (if b.on F.MARKER_STYLE_A_AGE s then [0x20] ++ digitCodes (t / 10) ++ [0x2E, 0x30 + t % 10, 0x73] else [])

/-- The text covers a pixel at (dx, dy) from where it starts. -/
def Block.textAt (b : Block) (text : List Nat) (scale dx dy : Nat) : Bool :=
  match text[dx / (16 * scale)]? with
  | some code =>
    let col := dx % (16 * scale) / scale; let row := dy / scale
    decide (row < 24) && bitOf (((b.glyph code)[2 * row + col / 8]?).getD 0).toNat (col % 8)
  | none => false

/-- A component of a style's colour: 0 Y, 1 Cb, 2 Cr. -/
def Block.styleColour (b : Block) (s comp : Nat) : Nat :=
  match comp with
  | 0 => b.fld F.MARKER_STYLE_B_Y s
  | 1 => b.fld F.MARKER_STYLE_B_CB s
  | _ => b.fld F.MARKER_STYLE_C_CR s

/-- A code at (x, y) with a marker in style `s` drawn over a rectangle: hatching or dimming on the pixels it owns, then
the border, then the text (R454, R456, R457). -/
def Block.markSample (b : Block) (s : Nat) (text : List Nat) (rx ry rw rh : Int) (owned : Bool) (x y comp v : Nat) : Nat :=
  let dx := (x : Int) - rx; let dy := (y : Int) - ry
  if dx < 0 ∨ dy < 0 ∨ rw ≤ dx ∨ rh ≤ dy then v
  else
    let a := b.fld F.MARKER_STYLE_C_ALPHA s; let p := b.styleColour s comp; let t : Int := b.fld F.MARKER_STYLE_A_THICK s
    let kind := b.fld F.MARKER_STYLE_A_KIND s
    let v := if kind = 2 ∧ owned ∧ (x + y) % 32 < 8 then blend a p v else if kind = 3 ∧ owned then dim v p else v
    let v := if dx < t ∨ dy < t ∨ rw - t ≤ dx ∨ rh - t ≤ dy then blend a p v else v
    if b.on F.MARKER_STYLE_A_LABEL_EN s ∧ t + 4 ≤ dx ∧ t + 4 ≤ dy
        ∧ b.textAt text (b.fld F.MARKER_STYLE_A_SCALE s + 1) (dx - t - 4).toNat (dy - t - 4).toNat then p
    else v

/-- Palette entry `i` of head `h` drawn over a code (R444). -/
def Block.paletteOver (b : Block) (h i comp v : Nat) : Nat :=
  let k := 16 * h + i
  blend (b.fld F.GUARD_PAL_B_ALPHA k) (match comp with
    | 0 => b.fld F.GUARD_PAL_A_Y k
    | 1 => b.fld F.GUARD_PAL_A_CB k
    | _ => b.fld F.GUARD_PAL_B_CR k) v

/-! ### Guard messages (R447 to R453) -/

def colourOk (v : Nat) : Bool := decide (4 ≤ v) && decide (v ≤ 1019)
def pad4 (n : Nat) : Nat := (n + 3) / 4 * 4

/-- The rectangle of a body lies within the format of each head that it names (R452). -/
def Block.rectOk (b : Block) (hs : List Nat) (d : List Byte) : Bool :=
  le d 4 2 != 0 && le d 6 2 != 0 && hs.all fun h =>
    let f := b.fld F.HEAD_CFG_FORMAT h
    decide (le d 0 2 + le d 4 2 ≤ fmtW f) && decide (le d 2 2 + le d 6 2 ≤ fmtH f)

/-- Runs of an `RLE` body: index and length. -/
def runsOf (d : List Byte) : List (Nat × Nat) := (bytesAt d 12 (le d 8 2)).map fun x => (x.toNat % 16, x.toNat / 16 + 1)

/-- A per-head operation names a head that is absent (R461). -/
def Block.guardHeadAbsent (b : Block) (op heads : Nat) : Bool :=
  (decide (1 ≤ op) && decide (op ≤ 4) || op == 9 || op == 10) && (onesAt 32 heads).any fun h => decide (b.heads ≤ h)

/-- The body of an operation is as R452 asks, for the heads that are present. -/
def Block.guardBodyOk (b : Block) (op heads : Nat) (d : List Byte) : Bool :=
  let hs := (onesAt 32 heads).filter fun h => decide (h < b.heads)
  match op with
  | 1 => d.length == 12 && b.rectOk hs d && decide (le d 8 1 < 16) && zeros d 9 3
  | 2 =>
    let n := (le d 4 2 + 1) / 2 * le d 6 2
    d.length == 8 + pad4 n && b.rectOk hs d && zeros d (8 + n) (pad4 n - n)
  | 3 =>
    let n := le d 8 2
    decide (12 ≤ d.length) && d.length == 12 + pad4 n && b.rectOk hs d && zeros d 10 2 && zeros d (12 + n) (pad4 n - n)
      && ((runsOf d).map Prod.snd).sum == le d 4 2 * le d 6 2
  | 4 =>
    let n := le d 1 1
    decide (1 ≤ n) && decide (n ≤ 16) && decide (le d 0 1 + n ≤ 16) && zeros d 2 2 && d.length == 4 + 8 * n
      && (List.range n).all fun e =>
        colourOk (le d (4 + 8 * e) 2) && colourOk (le d (6 + 8 * e) 2) && colourOk (le d (8 + 8 * e) 2) && zeros d (11 + 8 * e) 1
  | 5 =>
    d.length == 16 && decide (le d 0 1 ≤ 7) && decide (le d 1 1 ≤ 3) && decide (1 ≤ le d 2 1) && decide (le d 3 1 ≤ 15) && decide (le d 5 1 ≤ 3)
      && decide (1 ≤ le d 6 1) && decide (le d 6 1 ≤ 4) && zeros d 7 1 && colourOk (le d 8 2) && colourOk (le d 10 2) && colourOk (le d 12 2)
      && zeros d 15 1
  | 6 =>
    let n := le d 2 2
    d.length == 4 + pad4 n && decide (le d 0 2 + n ≤ 768) && zeros d (4 + n) (pad4 n - n)
      && (List.range n).all fun i => decide (le d (4 + i) 1 ≤ 7) || le d (4 + i) 1 == 15
  | 7 =>
    let n := le d 1 1
    decide (1 ≤ n) && decide (n ≤ 16) && decide (le d 0 1 + n ≤ 128) && zeros d 2 2 && d.length == 4 + 48 * n
  | 8 =>
    d.length == 28 && decide (le d 0 1 ≤ 15) && decide (le d 1 1 ≤ 24) && zeros d 2 2 && (List.range 24).all fun i => decide (le d (4 + i) 1 < 128)
  | 9 => d.length == 4 && decide (le d 0 1 < 16) && zeros d 1 3
  | 10 => d.length == 4 && decide (le d 0 1 ≤ 1) && zeros d 1 3
  | _ => false

/-- The last accepted counter (R450). -/
def Block.guardCtr (b : Block) : Nat := b.fld F.GUARD_CTR_LO_CTR 0 + b.fld F.GUARD_CTR_HI_CTR 0 * 2 ^ 32

/-- The guard-channel key is available (R622). -/
def Block.guardKeyOk (b : Block) : Bool := bitOf b.keys.written 1 && b.keys.injected.look 1 != [] && !b.keys.retLost

/-- The checks of R449 in order: the status of the first that fails. -/
def Block.guardFail (b : Block) (p : List Byte) : Option Nat :=
  firstFail [
    (!(decide (64 ≤ p.length) && decide (p.length ≤ 960) && p.length % 4 == 0 && le p 2 2 == p.length && le p 0 1 == 1), St.BAD_LENGTH),
    (!(le p 4 4 == b.fld F.FAB_TAG_TAG 0 && le p 8 1 == b.dev.fabId / 2), St.AUTH_FAIL),
    (!b.guardKeyOk && !b.pins.guardKeyLow, St.KEYS_UNAVAILABLE),
    (b.guardKeyOk && !decide (p.drop (p.length - 32) = (hmac384 (b.keys.injected.look 1) (p.take (p.length - 32))).take 32), St.AUTH_FAIL),
    (decide (le p 16 8 ≤ b.guardCtr), 256 + St.AUTH_FAIL),
    (!(zeros p 9 3 && decide (le p 30 1 ≤ 1) && zeros p 31 1 && b.guardBodyOk (le p 1 1) (le p 12 4) ((p.drop 32).take (p.length - 64))), St.BAD_ARG),
    (b.guardHeadAbsent (le p 1 1) (le p 12 4), St.UNIT_ABSENT),
    (decide (le p 24 6 < b.tlFrame (le p 30 1) + 1), St.LATE)]

/-- An operation put in `COUNTER` order; counters only grow, so it goes last. -/
def Block.guardQueue (b : Block) (o : GuardOp) : Block := { b with guard := { b.guard with queue := b.guard.queue ++ [o] } }

/-- GUARD_MSG, 0x0610 (R447 to R453, R557, R600). -/
def guardMsg (ch : Nat) (p : List Byte) (b : Block) : Block :=
  if ch ≠ 32 then b.no ch St.BAD_COMMAND
  else if b.safetyReset ∨ b.on F.BIST_STATUS_SAFE 0 then b.no ch St.NOT_READY
  else
    match b.guardFail p with
    | some st =>
      let b := ((b.set F.GUARD_HIST_REJECTED 0).bump F.GUARD_REJECT_CNT_COUNT 0 1).ite (decide (256 ≤ st)) fun b => b.set F.GUARD_HIST_REPLAY 0
      b.answer ch (st % 256) (leBytes 8 b.guardCtr ++ zeroBytes 8)
    | none =>
      let c := le p 16 8
      let b := b.ite (!b.guardKeyOk) fun b => b.set F.GUARD_HIST_FALLBACK_USED 0
      let b := (b.setFld F.GUARD_CTR_LO_CTR 0 c).setFld F.GUARD_CTR_HI_CTR 0 (c / 2 ^ 32)
      let b := (b.set F.GUARD_HIST_ACCEPTED 0).bump F.GUARD_ACCEPT_CNT_COUNT 0 1
      let b := b.guardQueue ⟨c, le p 1 1, le p 12 4, le p 24 6, le p 30 1, (p.drop 32).take (p.length - 64)⟩
      (b.logAppend 3 0 c).ok ch (leBytes 8 c ++ bytesAt p 24 6 ++ [0, 0])

/-! ### Operations (R451, R452) -/

/-- A per-head operation on head `h`. -/
def Block.guardHead (b : Block) (h : Nat) (o : GuardOp) : Block :=
  let d := o.body; let x := le d 0 2; let y := le d 2 2; let w := le d 4 2; let n := w * le d 6 2
  match o.op with
  | 1 => b.bitmapRect h x y w (List.replicate n (le d 8 1))
  | 2 => b.bitmapRect h x y w ((List.range n).map fun i => bitsOf (le d (8 + i / w * ((w + 1) / 2) + i % w / 2) 1) (4 * (i % w % 2)) 4)
  | 3 => b.bitmapRect h x y w ((runsOf d).map fun r => List.replicate r.2 r.1).flatten
  | 4 => b.each (List.range (le d 1 1)) fun b e =>
    let k := 16 * h + le d 0 1 + e; let o := 4 + 8 * e
    (((b.setFld F.GUARD_PAL_A_Y k (le d o 2)).setFld F.GUARD_PAL_A_CB k (le d (o + 2) 2)).setFld F.GUARD_PAL_B_CR k (le d (o + 4) 2)).setFld
      F.GUARD_PAL_B_ALPHA k (le d (o + 6) 1)
  | 9 => b.bitmapClear h (le d 0 1)
  | _ => if le d 0 1 = 1 then b.setBit F.GUARD_LOCK_LOCK 0 h else b.clrBit F.GUARD_LOCK_LOCK 0 h

/-- A device-wide operation. -/
def Block.guardDevice (b : Block) (o : GuardOp) : Block :=
  let d := o.body
  match o.op with
  | 5 =>
    let s := le d 0 1
    let b := ((b.setFld F.MARKER_STYLE_A_KIND s (le d 1 1)).setFld F.MARKER_STYLE_A_THICK s (le d 2 1)).setFld F.MARKER_STYLE_A_LABEL s (le d 3 1)
    let b := ((b.setFld F.MARKER_STYLE_A_FLASH s (le d 4 1)).setTo F.MARKER_STYLE_A_AGE s (bitOf (le d 5 1) 0)).setTo F.MARKER_STYLE_A_LABEL_EN s
      (bitOf (le d 5 1) 1)
    let b := (b.setFld F.MARKER_STYLE_A_SCALE s (le d 6 1 - 1)).setFld F.MARKER_STYLE_B_Y s (le d 8 2)
    ((b.setFld F.MARKER_STYLE_B_CB s (le d 10 2)).setFld F.MARKER_STYLE_C_CR s (le d 12 2)).setFld F.MARKER_STYLE_C_ALPHA s (le d 14 1)
  | 6 => b.each (List.range (le d 2 2)) fun b i =>
    let c := le d 0 2 + i; let m := b.fld F.MARKER_MAP_STYLE (c / 8); let p := 16 ^ (c % 8)
    b.setFld F.MARKER_MAP_STYLE (c / 8) (m - m / p % 16 * p + le d (4 + i) 1 * p)
  | 7 => b.each (List.range (le d 1 1)) fun b i =>
    { b with guard := { b.guard with glyphs := b.guard.glyphs.put (le d 0 1 + i) (some (bytesAt d (4 + 48 * i) 48)) } }
  | _ => { b with guard := { b.guard with labels := b.guard.labels.put (le d 0 1) (some (bytesAt d 4 (le d 1 1))) } }

def GuardOp.wide (o : GuardOp) : Bool := decide (5 ≤ o.op) && decide (o.op ≤ 8)

/-- One queued operation at the start of frame `n`: the heads that have applied fewer than 32 take it, the others keep it; `done` counts what
each head has applied. -/
def Block.guardOne (x : Block × List GuardOp × Bank Nat) (o : GuardOp) (tl n : Nat) : Block × List GuardOp × Bank Nat :=
  let (b, rest, done) := x
  if o.tl ≠ tl ∨ n < o.frame then (b, rest ++ [o], done)
  else if o.wide then (b.guardDevice o, rest, done)
  else
    let hs := onesAt 32 o.heads
    let now := hs.filter fun h => decide (done.look h < 32)
    let later := hs.filter fun h => !decide (done.look h < 32)
    let b := b.each now fun b h => b.guardHead h o
    let done := now.foldl (fun d h => d.upd h (· + 1)) done
    if later = [] then (b, rest, done)
    else (b.set F.GUARD_HIST_DEFERRED 0, rest ++ [{ o with heads := later.foldl withBit 0 }], done)

/-- GUARD_OP_APPLY: the blanking of frame `n` of a timeline (R451). -/
def guardOpApply (tl n : Nat) (b : Block) : Block :=
  let (b, rest, _) := b.guard.queue.foldl (fun x o => Block.guardOne x o tl n) (b, [], [])
  { b with guard := { b.guard with queue := rest } }

/-- GLYPH_READ, 0x0611 (R736). -/
def glyphRead (ch : Nat) (p : List Byte) (b : Block) : Block :=
  b.command ch 0x0611 (decide (ch ≤ 32)) (p.length == 4)
    [(!(decide (le p 0 1 ≤ 127) && decide (1 ≤ le p 1 1) && decide (le p 1 1 ≤ 16) && decide (le p 0 1 + le p 1 1 ≤ 128) && zeros p 2 2), St.BAD_ARG)]
    [(b.safetyReset, St.NOT_READY)]
    fun b => b.ok ch ((List.range (le p 1 1)).map fun i => b.glyph (le p 0 1 + i)).flatten

end Sys2Proof.Machine
end

