-- ==== Sys2Proof/Machine/Head.lean ====
section
/-!
DEFINITION. Composition heads and still stores: layers, blend order, colour banks, the composed picture with its guard layer, the head stall,
and the markers of outputs (R417 to R441, R443, R456, R459, R461, R735).
-/
namespace Sys2Proof.Machine

def Block.head (b : Block) (h : Nat) : HeadSt := b.headSt.look h
def Block.updHead (b : Block) (h : Nat) (f : HeadSt → HeadSt) : Block := { b with headSt := b.headSt.upd h f }
def Block.headState (b : Block) (h : Nat) : Nat := b.fld F.HEAD_STATUS_STATE h

/-! ### Colour banks (R436 to R438) -/

/-- Key of bank `k` of place `w` (0 to 15 a layer, 16 post-blend) of head `h`. -/
def bankKey (h w k : Nat) : Nat := (h * 17 + w) * 2 + k

/-- The bank in use at a place. -/
def Block.bankOf (b : Block) (h w : Nat) : Nat := if w < 16 then b.fld F.LAYER_CFG_BANK (16 * h + w) else b.fld F.HEAD_STATUS_BANK h

/-- Everything a bank holds, as numbers. -/
def ColourBank.nums (k : ColourBank) : List Nat :=
  [k.preset, k.cscPreset] ++ ((k.edits.map fun e => [e.1, e.2.getD 0]).flatten)
    ++ (match k.coef with
        | some l => 1 :: l.map fun i => patternOf 16 i
        | none => [0])

/-! ### What waits for a frame start (R427) -/

/-- The fields that a write of a kind sets. -/
def headFields (kind : Nat) : List Field :=
  match kind with
  | 0 => W.HEAD_CFG | 1 => W.HEAD_BG | 2 => W.HEAD_ZORDER_LO | 3 => W.HEAD_ZORDER_HI | 4 => W.LAYER_CFG | 5 => W.LAYER_SRC_XY
  | 6 => W.LAYER_SRC_WH | 7 => W.LAYER_DST_XY | 8 => W.LAYER_DST_WH | _ => W.LAYER_KEY

/-- Writes of head `h` taken. -/
def Block.applyWrites (b : Block) (h : Nat) (l : List HeadWrite) : Block :=
  b.each l fun b w =>
    if w.kind = 10 then if w.inst < 16 then b.setFld F.LAYER_CFG_BANK (16 * h + w.inst) w.v else b.setFld F.HEAD_STATUS_BANK h w.v
    else b.storeWord (headFields w.kind) w.inst w.v

/-- The head as it will stand after its next frame start. -/
def Block.future (b : Block) (h : Nat) : Block := b.applyWrites h (b.head h).pend

def Block.headLater (b : Block) (h : Nat) (l : List HeadWrite) : Block := b.updHead h fun s => { s with pend := s.pend ++ l }

/-- Source pixels of the enabled layers of a head, and the rate of its format: pixels per second as a fraction (R428). -/
def Block.headPixels (b : Block) (h : Nat) : Nat :=
  ((List.range 16).map fun l =>
    let i := 16 * h + l
    if b.on F.LAYER_CFG_EN i then b.fld F.LAYER_SRC_WH_SRC_W i * b.fld F.LAYER_SRC_WH_SRC_H i else 0).sum
def Block.headOver (b : Block) (h : Nat) : Bool :=
  let r := fmtRate (b.fld F.HEAD_CFG_FORMAT h)
  decide (2130000000 * rateDen r < b.headPixels h * rateNum r)
def Block.headBudget (b : Block) (h : Nat) : Block :=
  let r := fmtRate (b.fld F.HEAD_CFG_FORMAT h)
  b.setFld F.HEAD_STATUS_BUDGET_USED h ((b.headPixels h * rateNum r + rateDen r * 1000000 - 1) / (rateDen r * 1000000))

/-! ### Starting and stopping (R423) -/

/-- `EN` of head `h` goes from `was` to `en`. -/
def Block.headEn (b : Block) (h : Nat) (was en : Bool) : Block :=
  let st := b.headState h
  if en && !was then
    if st = 3 then b.setFld F.HEAD_STATUS_STATE h 2
    else (b.setFld F.HEAD_STATUS_STATE h 1).updHead h fun s => { s with fseq := 0, frame := none, rows := [], waiting := none, shown := none, wslot := 0 }
  else if was && !en then
    if st = 1 then (b.setFld F.HEAD_STATUS_STATE h 0).set F.HEAD_HIST_STOPPED h
    else if st = 2 then b.setFld F.HEAD_STATUS_STATE h 3
    else b
  else b

/-- A format runs on a head of timeline `tl` (R189, R418). -/
def Block.headFits (b : Block) (tl fmt : Nat) : Bool := fmtOk fmt && fmtTl fmt == tl && fmtFits (b.fld F.TL_CFG_RATE tl) fmt

/-- HEAD_ENABLE_WRITE: `HEAD_CFG[h]` is written (R423). -/
def headEnableWrite (h v : Nat) (b : Block) : Block :=
  let was := b.on F.HEAD_CFG_EN h; let en := bitOf v 0
  let fmt := F.HEAD_CFG_FORMAT.stored (F.HEAD_CFG_FORMAT.of v); let tl := F.HEAD_CFG_TL.of v
  if (was ∧ (fmt ≠ b.fld F.HEAD_CFG_FORMAT h ∨ tl ≠ b.fld F.HEAD_CFG_TL h)) ∨ (en ∧ ¬b.headFits tl fmt) then b.reject 0x0C F.HEAD_HIST_CFG_REJECTED h
  else (b.storeWord W.HEAD_CFG h v).headEn h was en

/-- HEAD_FRAME_START: timeline frame `n` starts for head `h` (R420, R421, R423, R427, R438). -/
def headFrameStart (h n : Nat) (b : Block) : Block :=
  let f := b.future h
  if b.heads ≤ h ∨ (fmtHalf (f.fld F.TL_CFG_RATE (f.fld F.HEAD_CFG_TL h)) (f.fld F.HEAD_CFG_FORMAT h) ∧ n % 2 = 1) then b
  else
    let b := (f.updHead h fun s => { s with pend := [] }).headBudget h
    let b := if b.headState h = 3 then (b.setFld F.HEAD_STATUS_STATE h 0).set F.HEAD_HIST_STOPPED h
      else if b.headState h = 1 then b.setFld F.HEAD_STATUS_STATE h 2 else b
    let t := b.frameStart (b.fld F.HEAD_CFG_TL h) n / nsUnit
    if b.headState h = 2 then
      b.updHead h fun s => { s with shown := s.waiting <|> s.shown, waiting := none, fseq := s.fseq + 1, frame := some n, at_ := t, rows := [] }
    else b.updHead h fun s => { s with shown := none, waiting := none, last := none, frame := none, rows := [] }

/-! ### Sources (R420, R421, R439 to R441) -/

/-- The record of the frame under composition. Its signature comes with its last line. -/
def Block.headRecord (b : Block) (h : Nat) (sig : Nat) : Option FrameRec :=
  let s := b.head h
  match s.frame with
  | some _ => some { (default : FrameRec) with fseq := s.fseq, format := b.fld F.HEAD_CFG_FORMAT h, complete := true, ingress := s.at_, origin := s.at_, sig := sig }
  | none => none

/-- Bytes of a still buffer's picture, of its alpha plane, and MiB of one buffer (R439). -/
def Block.stillBytes (b : Block) (s : Nat) : Nat := let f := b.fld F.STILL_CFG_FORMAT s; fmtW f * fmtH f * 5 / 2
def stillMib (fmt : Nat) (alpha : Bool) : Nat := (fmtW fmt * fmtH fmt * 5 / 2 + (if alpha then fmtW fmt * fmtH fmt else 0) + 1048575) / 1048576

/-- The yard offset of a buffer of still store `s`. -/
def Block.stillBase (b : Block) (s : Nat) (buf : Bool) : Nat :=
  b.regionBase 3 * gib + (b.fld F.STILL_BASE_BASE s + (if buf then stillMib (b.fld F.STILL_CFG_FORMAT s) (b.on F.STILL_CFG_ALPHA s) else 0)) * 1048576

/-- What still store `s` shows. -/
def Block.stillHeld (b : Block) (s : Nat) : Option Held :=
  let x := b.stillNow s; let f := b.fld F.STILL_CFG_FORMAT s
  if b.on F.STILL_CFG_EN s ∧ x.fseq ≠ 0 then
    let pic := unpack10 (b.yardGet (b.stillBase s x.buf) (b.stillBytes s))
    some ⟨{ (default : FrameRec) with fseq := x.fseq, format := f, complete := true, ingress := x.at_, origin := x.at_, sig := crc64 pic }, pic, false, bit x.buf, [], none⟩
  else none

/-- What a test pattern generator shows: a picture the spec does not describe, a new frame at each frame start. -/
def Block.patternHeld (b : Block) (g : Nat) : Option Held :=
  let f := Config.patternFormat g; let pic := Config.patternPicture g; let tl := fmtTl f; let n := b.tlFrame tl; let t := b.frameStart tl n / nsUnit
  some ⟨{ (default : FrameRec) with fseq := n, format := f, complete := true, ingress := t, origin := t, sig := crc64 pic }, pic, false, 0, [], none⟩

/-- The yard offset of slot `k` of head `h`, and the size of such a slot (R420). -/
def Block.headSlot (b : Block) (h k : Nat) : Nat := b.regionBase 1 * gib + h * 67108864 + k * 20971520
def headSlotSize : Nat := 20971520

/-- Where frame `p` that stall `j` shows lies in the yard, with the size of its slot; none for the black of a loss, which is read from no slot (R269). -/
def Block.stallSlot (b : Block) (j : Nat) (p : Held) : Option (Nat × Nat) :=
  if (b.stall j).held.map (fun q => q.rcd.sig) = some p.rcd.sig then some (b.slotBase j p.slot, slotKib (b.fld F.STALL_CTRL_CLASS j) * 1024) else none

/-- Where frame `p` of local source `s` lies in the yard, with the size of its slot, 0 for a still store, which keeps no record; none for a picture that is not
read from the yard. -/
def Block.heldSlot (b : Block) (s : Nat) (p : Held) : Option (Nat × Nat) :=
  if s < 256 then b.stallSlot s p
  else if s < 288 then some (b.headSlot (s - 256) p.slot, headSlotSize)
  else if s < 320 then some (b.stillBase (s - 288) (p.slot == 1), 0)
  else none

/-- Row `y` of a frame that lies at `place` is poisoned: its samples are packed in transmission order (R690; log 23). -/
def Block.rowBad (b : Block) (place : Option (Nat × Nat)) (p : Held) (y : Nat) : Bool :=
  match place with
  | some (a, _) => let n := fmtW p.rcd.format * 5 / 2; b.poisoned (a + (rowOrder p.rcd.format p.psf).idxOf y * n) n
  | none => false

/-- A poisoned record is used with `SRC_LOS` set (R690). -/
def Block.recRead (b : Block) (place : Option (Nat × Nat)) (p : Held) : Held :=
  match place with
  | some (a, n) => if n ≠ 0 ∧ b.poisoned (a + n - 4096) 64 then { p with rcd := { p.rcd with srcLos := true } } else p
  | none => p

/-- What consumers of local source `s` read from its stall or store (R265, R420, R690). -/
def Block.sourceHeld (b : Block) (s : Nat) : Option Held :=
  (if s < 256 then (b.stall s).shown
    else if s < 288 then (b.head (s - 256)).shown
    else if s < 320 then b.stillHeld (s - 288)
    else if s < 336 then b.patternHeld (s - 320)
    else none).map fun p => b.recRead (b.heldSlot s p) p

/-- What layer `l` of head `h` reads, with where it lies in the yard: a local source, or the mirror stall of a remote one (R9, R424). -/
def Block.layerRead (b : Block) (h l : Nat) : Option (Held × Option (Nat × Nat)) :=
  let st := b.fld F.COX_TGT_VID_VID_SRC (256 + 16 * h + l)
  if st = noStream then none
  else if b.ownStream st then (b.sourceHeld (st % 512)).map fun p => (p, b.heldSlot (st % 512) p)
  else match b.mirrorOf (bowStream st) with
    | some m => (b.stall (256 + m)).shown.map fun p => (b.recRead (b.stallSlot (256 + m) p) p, b.stallSlot (256 + m) p)
    | none => none
def Block.layerHeld (b : Block) (h l : Nat) : Option Held := (b.layerRead h l).map Prod.fst

/-! ### Composition (R424 to R437, R735) -/

/-- The blend order, from the bottom (R434). -/
def Block.blendOrder (b : Block) (h : Nat) : List Nat :=
  if b.on F.HEAD_CFG_ZMODE h then
    (List.range 8).map (fun p => bitsOf (b.fld F.HEAD_ZORDER_LO_POS0_7 h) (4 * p) 4)
      ++ (List.range 8).map (fun p => bitsOf (b.fld F.HEAD_ZORDER_HI_POS8_15 h) (4 * p) 4)
  else List.range 16

/-- The destination rectangle of layer `i`. -/
def Block.dstRect (b : Block) (i : Nat) : Int × Int × Int × Int :=
  (b.sfld F.LAYER_DST_XY_DST_X i, b.sfld F.LAYER_DST_XY_DST_Y i, b.fld F.LAYER_DST_WH_DST_W i, b.fld F.LAYER_DST_WH_DST_H i)

/-- The source pixel that a head pixel of layer `i` maps to, none outside its rectangle or its clipped window (R425). -/
def Block.layerPixel (b : Block) (i fmt x y : Nat) : Option (Nat × Nat) :=
  let (dx, dy, dw, dh) := b.dstRect i
  let px := (x : Int) - dx; let py := (y : Int) - dy
  if px < 0 ∨ py < 0 ∨ dw ≤ px ∨ dh ≤ py then none
  else
    let u := b.fld F.LAYER_SRC_XY_SRC_X i + px.toNat * b.fld F.LAYER_SRC_WH_SRC_W i / b.fld F.LAYER_DST_WH_DST_W i
    let v := b.fld F.LAYER_SRC_XY_SRC_Y i + py.toNat * b.fld F.LAYER_SRC_WH_SRC_H i / b.fld F.LAYER_DST_WH_DST_H i
    if u < fmtW fmt ∧ v < fmtH fmt then some (u, v) else none

/-- The settings of layer `l` of head `h`, as numbers. -/
def Block.layerNums (b : Block) (h l : Nat) : List Nat :=
  let i := 16 * h + l
  ([W.LAYER_CFG, W.LAYER_SRC_XY, W.LAYER_SRC_WH, W.LAYER_DST_XY, W.LAYER_DST_WH, W.LAYER_KEY].map fun fs => b.wordOf fs i)
    ++ (b.colour.look (bankKey h l (b.bankOf h l))).nums

/-- A layer as a frame finds it: its number, what it reads, and whether it is a still store with alpha. -/
structure LayerView where
  l : Nat
  held : Held
  still : Bool

/-- The layers that a line of head `h` draws, from the top: enabled, with a source, not late (R425, R429). -/
def Block.layerViews (b : Block) (h late : Nat) : List LayerView :=
  ((b.blendOrder h).reverse.filter fun l => b.on F.LAYER_CFG_EN (16 * h + l) && !bitOf late l).filterMap fun l =>
    (b.layerHeld h l).map fun x =>
      let st := b.fld F.COX_TGT_VID_VID_SRC (256 + 16 * h + l)
      ⟨l, x, b.ownStream st && decide (288 ≤ st % 512) && decide (st % 512 < 320) && b.on F.STILL_CFG_ALPHA (st % 512 - 288)⟩

/-- A layer's alpha is above 0 at a head pixel (R432). -/
def Block.layerCovers (b : Block) (h x y : Nat) (w : LayerView) : Bool :=
  let i := 16 * h + w.l
  (b.layerPixel i w.held.rcd.format x y).isSome && b.fld F.LAYER_CFG_GALPHA i != 0
    && (match b.fld F.LAYER_CFG_KEY i with
        | 0 => true
        | 3 => w.still && Config.keyed (b.layerNums h w.l) w.held.pic x y
        | _ => Config.keyed (b.layerNums h w.l) w.held.pic x y)

/-- The layer passes its samples unchanged (R735). -/
def Block.layerPasses (b : Block) (h : Nat) (w : LayerView) : Bool :=
  let i := 16 * h + w.l
  b.fld F.LAYER_CFG_FILTER i == 3 && b.fld F.LAYER_DST_WH_DST_W i == b.fld F.LAYER_SRC_WH_SRC_W i
    && b.fld F.LAYER_DST_WH_DST_H i == b.fld F.LAYER_SRC_WH_SRC_H i && b.fld F.LAYER_CFG_KEY i == 0 && b.fld F.LAYER_CFG_GALPHA i == 255
    && !b.on F.LAYER_CFG_CSC_EN i && !b.on F.LAYER_CFG_LUT_EN i && b.fld F.LAYER_SRC_XY_SRC_X i % 2 == 0 && b.fld F.LAYER_DST_XY_DST_X i % 2 == 0
    && !b.on F.LAYER_CFG_DEINT i && fmtInterlaced w.held.rcd.format == fmtInterlaced (b.fld F.HEAD_CFG_FORMAT h)

/-- A sample of a held picture: the luma of pixel (x, y), or the chroma sample that stands with it. -/
def Held.sample (p : Held) (x y : Nat) (luma : Bool) : Nat :=
  let f := p.rcd.format
  le p.pic (((rowOrder f p.psf).idxOf y * fmtW f + x) * 4 + (if luma then 2 else 0)) 2 % 1024

/-- The background colour (R433). -/
def Block.background (b : Block) (h comp : Nat) : Nat :=
  match comp with
  | 0 => b.fld F.HEAD_BG_Y h
  | 1 => b.fld F.HEAD_BG_CB h
  | _ => b.fld F.HEAD_BG_CR h

/-- Everything that composition depends on, as numbers. -/
def Block.headNums (b : Block) (h : Nat) (views : List LayerView) : List Nat :=
  [b.wordOf W.HEAD_CFG h, b.wordOf W.HEAD_BG h] ++ (b.colour.look (bankKey h 16 (b.bankOf h 16))).nums
    ++ (views.map fun w => w.l :: w.held.rcd.format :: bit w.held.psf :: b.layerNums h w.l).flatten

/-- A composed component of head pixel (x, y) before the guard layer: where R735 fixes it, and elsewhere an uninterpreted function of all it
depends on. A chroma component belongs to the even pixel of its pair; `xc` is the column of the sample itself. -/
def Block.composeAt (b : Block) (h : Nat) (views : List LayerView) (x xc y comp : Nat) : Nat :=
  let open_ := Config.composed (b.headNums h views) (views.map fun w => w.held.pic) x y comp % 1024
  if b.on F.HEAD_CFG_CSC_EN h ∨ b.on F.HEAD_CFG_LUT_EN h then open_
  else match views.find? (fun w => b.layerCovers h x y w) with
    | none => b.background h comp
    | some w =>
      if b.layerPasses h w then
        match b.layerPixel (16 * h + w.l) w.held.rcd.format x y with
        | some (u, v) => w.held.sample (u + (xc - x)) v (comp == 0)
        | none => open_
      else open_

/-- The markers of the layers of head `h` over a code of pixel (x, y) in a frame: each over its layer's rectangle, in layer order (R456). -/
def Block.layerMarks (b : Block) (h frame : Nat) (owner : Option Nat) (x y comp v : Nat) : Nat :=
  (List.range 16).foldl (fun v l =>
    let c := 256 + 16 * h + l
    if b.on F.LAYER_CFG_EN (16 * h + l) then
      match b.markOf c frame with
      | some s =>
        let (dx, dy, dw, dh) := b.dstRect (16 * h + l)
        b.markSample s (b.markText c s) dx dy dw dh (decide (owner = some l)) x y comp v
      | none => v
    else v) v

/-- A finished component: composed, then the bitmap, then the markers (R443). -/
def Block.headSample (b : Block) (h frame : Nat) (views : List LayerView) (xc y comp : Nat) : Nat :=
  let x := if comp = 0 then xc else xc - xc % 2
  let v := b.composeAt h views x xc y comp
  let v := b.paletteOver h (b.bitmapAt h x y) comp v
  b.layerMarks h frame ((views.find? fun w => b.layerCovers h x y w).map fun w => w.l) x y comp v

/-- A finished row of head `h`, in the order of R277. -/
def Block.headRow (b : Block) (h frame late y : Nat) : List Byte :=
  let views := b.layerViews h late
  ((List.range (fmtW (b.fld F.HEAD_CFG_FORMAT h))).map fun x =>
    leBytes 2 (b.headSample h frame views x y (1 + x % 2)) ++ leBytes 2 (b.headSample h frame views x y 0)).flatten

/-- Layer `l` has lines of its rectangle on row `y`. -/
def Block.layerOnRow (b : Block) (h l y : Nat) : Bool :=
  let (_, dy, _, dh) := b.dstRect (16 * h + l)
  b.on F.LAYER_CFG_EN (16 * h + l) && decide (dy ≤ (y : Int)) && decide ((y : Int) < dy + dh)

/-- The line of layer `l` that row `y` of head `h` needs is poisoned (R429, R690). -/
def Block.layerBad (b : Block) (h l y : Nat) : Bool :=
  let i := 16 * h + l
  b.layerOnRow h l y && (match b.layerRead h l with
    | some (p, place) =>
      let (_, dy, _, _) := b.dstRect i
      b.rowBad place p (b.fld F.LAYER_SRC_XY_SRC_Y i + ((y : Int) - dy).toNat * b.fld F.LAYER_SRC_WH_SRC_H i / b.fld F.LAYER_DST_WH_DST_H i)
    | none => false)

/-- Cap step 3 suspends the stall writes of a head that no local layer reads (R420, R666). -/
def Block.headSuspended (b : Block) (h : Nat) : Bool :=
  b.fld F.PWR_STATUS_CAP_STEP 0 == 3
    && !(List.range 512).any fun i => b.on F.LAYER_CFG_EN i && b.fld F.COX_TGT_VID_VID_SRC (256 + i) == b.me * 512 + 256 + h

/-- HEAD_LINE: head `h` composes a line; the layers of `late`, and those whose line is poisoned, are not in its line buffer (R419 to R421, R429, R443,
R690). The last line of the raster
ends the frame, which goes to the head stall. -/
def headLine (h line late : Nat) (b : Block) : Block :=
  let s := b.head h; let fmt := b.fld F.HEAD_CFG_FORMAT h
  match s.frame with
  | none => b
  | some n =>
    let b := match rowOfLine fmt line with
      | some y =>
        let gone := (List.range 16).filter fun l => (bitOf late l && b.layerOnRow h l y) || b.layerBad h l y
        let b := b.each gone fun b l =>
          ((b.bump F.LAYER_LATE_CNT_COUNT (16 * h + l) 1).bump F.HEAD_LATE_CNT_COUNT h 1).set F.HEAD_HIST_LAYER_LATE h
        let row := b.headRow h n (gone.map fun l => 2 ^ l).sum y
        b.updHead h fun s => { s with rows := s.rows.put y row }
      | none => b
    if line = fmtLines fmt then
      let s := b.head h
      let pic := ((rowOrder fmt false).map fun y => s.rows.look y).flatten
      match b.headRecord h (crc64 pic) with
      | some r =>
        let p : Held := ⟨r, pic, false, s.wslot, [], none⟩
        let b := (b.ite (s.fseq == 1) fun b => b.set F.HEAD_HIST_STARTED h).updHead h fun s => { s with last := some p, rows := [] }
        b.ite (!b.headSuspended h) fun b => (b.framePut (b.headSlot h s.wslot) headSlotSize false pic r).updHead h fun s =>
          { s with waiting := some p, wslot := (s.wslot + 1) % 3 }
      | none => b
    else b

/-! ### Output markers (R459) -/

/-- A row with an output's marker over its whole picture (R459). -/
def Block.markRow (b : Block) (t fmt frame y : Nat) (row : List Byte) : List Byte :=
  match b.markOf t frame with
  | none => row
  | some s =>
    let text := b.markText t s
    ((List.range (row.length / 4)).map fun x =>
      leBytes 2 (b.markSample s text 0 0 (fmtW fmt) (fmtH fmt) true (x - x % 2) y (1 + x % 2) (le row (4 * x) 2))
        ++ leBytes 2 (b.markSample s text 0 0 (fmtW fmt) (fmtH fmt) true x y 0 (le row (4 * x + 2) 2))).flatten

/-- A row of one colour. -/
def flatRow (w y cb cr : Nat) : List Byte := ((List.range w).map fun x => leBytes 2 (if x % 2 = 0 then cb else cr) ++ leBytes 2 y).flatten

/-! ### Commands (R461) -/

/-- A head command's frame of checks: the head is named in byte 0. -/
def Block.headAbsent (b : Block) (p : List Byte) : Bool := decide (b.heads ≤ le p 0 1)

/-- HEAD_SET, 0x0601 (R418, R423, R427, R428, R446). -/
def headSet (ch : Nat) (p : List Byte) (b : Block) : Block :=
  let h := le p 0 1; let fl := le p 1 1; let fmt := le p 2 1; let tl := bit (bitOf fl 1)
  let w : List HeadWrite := [⟨0, h, bit (bitOf fl 0) + tl * 2 + fmt * 4 + fl / 4 * 128⟩, ⟨1, h, le p 4 2 + le p 6 2 * 1024 + le p 8 2 * 1048576⟩]
  let f := b.future h
  let was := f.on F.HEAD_CFG_EN h; let en := bitOf fl 0
  let moved := fmt != f.fld F.HEAD_CFG_FORMAT h || tl != f.fld F.HEAD_CFG_TL h
  let bad := !(decide (h ≤ 31) && decide (fl ≤ 31) && decide (1 ≤ fmt) && decide (fmt ≤ 24) && zeros p 3 1 && colourOk (le p 4 2) && colourOk (le p 6 2)
    && colourOk (le p 8 2) && zeros p 10 2 && b.headFits tl fmt)
  let tooMuch := fmtRate fmt != fmtRate (f.fld F.HEAD_CFG_FORMAT h) && (f.applyWrites h w).headOver h
  let b := b.ite (p.length == 12 && !bad && tooMuch) fun b => b.set F.HEAD_HIST_BUDGET_REJECTED h
  b.command ch 0x0601 (decide (ch ≤ 32)) (p.length == 12) [(bad || tooMuch, St.BAD_ARG), (b.headAbsent p, St.UNIT_ABSENT), (b.selftest 0x0C, St.BUSY_SELFTEST)]
    [(was && moved, St.NOT_READY), (b.bitAt F.GUARD_LOCK_LOCK 0 h && ((was && !en) || moved), St.NOT_READY)]
    fun b => ((b.headLater h w).headEn h was en).ok ch []

/-- LAYER_SET, 0x0602 (R424, R425, R427, R428, R432). -/
def layerSet (ch : Nat) (p : List Byte) (b : Block) : Block :=
  let h := le p 0 1; let l := le p 1 1; let fl := le p 2 1; let i := 16 * h + l
  let sw := le p 14 2; let sh := le p 16 2; let dw := le p 22 2; let dh := le p 24 2
  let signed13 (o : Nat) : Nat := patternOf 13 (les p o 2)
  let w : List HeadWrite :=
    [⟨4, i, bit (bitOf fl 0) + le p 3 1 * 2 + le p 4 1 * 8 + bit (bitOf fl 1) * 32 + bit (bitOf fl 2) * 64 + bit (bitOf fl 3) * 128 + le p 5 1 * 65536⟩,
     ⟨5, i, le p 10 2 + le p 12 2 * 65536⟩, ⟨6, i, sw + sh * 65536⟩, ⟨7, i, signed13 18 + signed13 20 * 65536⟩, ⟨8, i, dw + dh * 65536⟩,
     ⟨9, i, le p 6 2 + le p 8 2 * 65536⟩]
  let inRange (o : Nat) : Bool := decide (-4096 ≤ les p o 2) && decide (les p o 2 ≤ 4095)
  let size (v m : Nat) : Bool := decide (1 ≤ v) && decide (v ≤ m)
  let bad := !(decide (h ≤ 31) && decide (l ≤ 15) && decide (fl ≤ 15) && decide (le p 3 1 ≤ 3) && decide (le p 4 1 ≤ 3) && colourOk (le p 6 2)
    && colourOk (le p 8 2) && decide (le p 6 2 < le p 8 2) && decide (le p 10 2 ≤ 3839) && decide (le p 12 2 ≤ 2159) && size sw 3840 && size sh 2160
    && inRange 18 && inRange 20 && size dw 3840 && size dh 2160 && zeros p 26 2
    && decide (sw ≤ 8 * dw) && decide (dw ≤ 8 * sw) && decide (sh ≤ 8 * dh) && decide (dh ≤ 8 * sh))
  let tooMuch := ((b.future h).applyWrites h w).headOver h
  let b := b.ite (p.length == 28 && !bad && tooMuch) fun b => b.set F.HEAD_HIST_BUDGET_REJECTED h
  b.command ch 0x0602 (decide (ch ≤ 32)) (p.length == 28) [(bad || tooMuch, St.BAD_ARG), (b.headAbsent p, St.UNIT_ABSENT), (b.selftest 0x0C, St.BUSY_SELFTEST)] []
    fun b => (b.headLater h w).ok ch []

/-- ZORDER_SET, 0x0603 (R427, R434). -/
def zorderSet (ch : Nat) (p : List Byte) (b : Block) : Block :=
  let h := le p 0 1
  let table := (List.range 16).map fun i => bitsOf (le p 4 8) (4 * i) 4
  b.command ch 0x0603 (decide (ch ≤ 32)) (p.length == 12)
    [(!(decide (h ≤ 31) && zeros p 1 3 && (List.range 16).all fun l => decide (l ∈ table)), St.BAD_ARG), (b.headAbsent p, St.UNIT_ABSENT),
     (b.selftest 0x0C, St.BUSY_SELFTEST)] []
    fun b => (b.headLater h [⟨2, h, le p 4 4⟩, ⟨3, h, le p 8 4⟩]).ok ch []

/-- The bank of a place that a commit now would bring into use: the one not in use. -/
def Block.spareBank (b : Block) (h w : Nat) : Nat := 1 - b.bankOf h w

/-- LUT_SET, 0x0604 (R437, R438). -/
def lutSet (ch : Nat) (p : List Byte) (b : Block) : Block :=
  let h := le p 0 1; let w := le p 1 1; let comp := le p 2 1; let fl := le p 3 1; let n := (p.length - 8) / 2; let first := le p 6 2
  b.command ch 0x0604 (decide (ch ≤ 32)) (decide (8 ≤ p.length) && p.length % 2 == 0 && decide (p.length ≤ 896))
    [(!(decide (h ≤ 31) && decide (w ≤ 16) && decide (comp ≤ 2) && decide (fl ≤ 3) && decide (le p 4 1 ≤ 4) && zeros p 5 1 && decide (first + n ≤ 1024)
        && (List.range n).all fun i => decide (le p (8 + 2 * i) 2 < 4096)), St.BAD_ARG),
     (b.headAbsent p, St.UNIT_ABSENT), (b.selftest 0x0C, St.BUSY_SELFTEST)] []
    fun b =>
      let k := bankKey h w (b.spareBank h w)
      let set (x : ColourBank) : ColourBank :=
        if bitOf fl 1 then { x with preset := le p 4 1, edits := [] }
        else { x with edits := (List.range n).foldl (fun e i => e.put (comp * 1024 + first + i) (some (le p (8 + 2 * i) 2))) x.edits }
      let b := { b with colour := b.colour.upd k set }
      (b.ite (bitOf fl 0) fun b => b.headLater h [⟨10, w, b.spareBank h w⟩]).ok ch []

/-- CSC_SET, 0x0605 (R436, R438). -/
def cscSet (ch : Nat) (p : List Byte) (b : Block) : Block :=
  let h := le p 0 1; let w := le p 1 1; let fl := le p 2 1
  b.command ch 0x0605 (decide (ch ≤ 32)) (p.length == 32)
    [(!(decide (h ≤ 31) && decide (w ≤ 16) && decide (fl ≤ 3) && decide (le p 3 1 ≤ 3) && zeros p 28 4), St.BAD_ARG), (b.headAbsent p, St.UNIT_ABSENT),
     (b.selftest 0x0C, St.BUSY_SELFTEST)] []
    fun b =>
      let k := bankKey h w (b.spareBank h w)
      let set (x : ColourBank) : ColourBank :=
        if bitOf fl 1 then { x with cscPreset := le p 3 1, coef := none }
        else { x with coef := some ((List.range 12).map fun i => les p (4 + 2 * i) 2) }
      let b := { b with colour := b.colour.upd k set }
      (b.ite (bitOf fl 0) fun b => b.headLater h [⟨10, w, b.spareBank h w⟩]).ok ch []

/-- What device time has done to still store `s` is made plain in its registers (R440, R441). -/
def Block.stillSettle (b : Block) (s : Nat) : Block :=
  let x := b.stillNow s
  ({ b with stills := b.stills.put s x }.setTo F.STILL_CFG_ACTIVE_BUF s x.buf).setFld F.STILL_FSEQ_FSEQ s x.fseq

/-- A store of a format at a base lies within the region and clear of the other enabled stores (R439). -/
def Block.stillFits (b : Block) (s base fmt : Nat) (alpha : Bool) : Bool :=
  let hi := base + 2 * stillMib fmt alpha
  decide (hi ≤ b.regionSize 3 * 1024) && (List.range 32).all fun k =>
    k == s || !b.on F.STILL_CFG_EN k ||
      (let lo' := b.fld F.STILL_BASE_BASE k
       let hi' := lo' + 2 * stillMib (b.fld F.STILL_CFG_FORMAT k) (b.on F.STILL_CFG_ALPHA k)
       decide (hi ≤ lo') || decide (hi' ≤ base))

/-- STILL_SET, 0x0606 (R439, R440). -/
def stillSet (ch : Nat) (p : List Byte) (b : Block) : Block :=
  let s := le p 0 1; let fl := le p 1 1; let fmt := le p 2 1; let alpha := bitOf fl 1
  b.command ch 0x0606 (decide (ch ≤ 32)) (p.length == 12)
    [(!(decide (s ≤ 31) && decide (fl ≤ 7) && decide (1 ≤ fmt) && decide (fmt ≤ 24) && zeros p 3 1 && decide (le p 4 4 < 4096) && zeros p 8 4
        && b.stillFits s (le p 4 4) fmt alpha), St.BAD_ARG), (b.selftest 0x0C, St.BUSY_SELFTEST)] []
    fun b =>
      let b := b.stillSettle s
      let b := (b.storeWord W.STILL_CFG s (bit (bitOf fl 0) + fmt * 2 + bit alpha * 64 + bit (bitOf fl 2) * 128)).setFld F.STILL_BASE_BASE s (le p 4 4)
      b.ok ch (leBytes 8 (0x8000000000 + b.stillBase s (!(b.stillNow s).buf)) ++ leBytes 4 (stillMib fmt alpha * 1048576) ++ zeroBytes 4)

/-- STILL_COMMIT, 0x0607 (R440). -/
def stillCommit (ch : Nat) (p : List Byte) (b : Block) : Block :=
  let s := le p 0 1
  b.command ch 0x0607 (decide (ch ≤ 32)) (p.length == 4) [(!(decide (s ≤ 31) && zeros p 1 3), St.BAD_ARG), (b.selftest 0x0C, St.BUSY_SELFTEST)] []
    fun b =>
      let b := b.stillSettle s
      { b with stills := b.stills.upd s fun x => { x with due := some (b.tlFrame (b.fld F.STILL_CFG_TL s) + 1) } }.ok ch []

/-- HEAD_GET_STATUS, 0x0608. -/
def headGetStatus (ch : Nat) (p : List Byte) (b : Block) : Block :=
  let h := le p 0 1
  b.command ch 0x0608 (decide (ch ≤ 32)) (p.length == 4)
    [(!(decide (h ≤ 31) && decide (le p 1 1 ≤ 1) && zeros p 2 2), St.BAD_ARG), (b.headAbsent p, St.UNIT_ABSENT)] []
    fun b =>
      let d := b.word4 W.HEAD_STATUS h ++ b.word4 W.HEAD_HIST h ++ b.word4 W.HEAD_LATE_CNT h ++ b.word4 W.HEAD_STALE h
        ++ leBytes 4 (bit (b.bitAt F.GUARD_LOCK_LOCK 0 h))
      let b := b.clr F.HEAD_LATE_CNT_COUNT h
      (b.ite (le p 1 1 == 1) fun b => b.clearHist W.HEAD_HIST h histAll).ok ch d

end Sys2Proof.Machine
end

