-- ==== Sys2Proof/Machine/Wave.lean ====
section
/-!
DEFINITION. The arithmetic of sound: raised cosines (R390, R478, R479) and sines (R489) in fixed point. The spec gives gains and no precision: a result is
one of the two samples beside the exact value, and which one is open (`Config.roundsUp`).
-/
namespace Sys2Proof.Machine

/-- One in the fixed point of this file, and pi in it. -/
def unity : Nat := 2 ^ 64
def piFixed : Nat := 57952155664616982739

/-- The terms of the cosine series of an angle: `n` terms from a term, its place and its sign. -/
def cosTerms (x : Nat) : Nat → Nat → Nat → Bool → Int
  | 0, _, _, _ => 0
  | n + 1, k, t, neg => (if neg then -Int.ofNat t else Int.ofNat t) + cosTerms x n (k + 2) (t * x / unity * x / (unity * ((k + 1) * (k + 2)))) (!neg)

/-- The cosine of an angle from 0 to half of pi. -/
def cosFixed (x : Nat) : Nat := (cosTerms x 14 0 unity false).toNat

/-- The gain (1 + cos(pi (k + 0.5) / m)) / 2, which is the square of the cosine of half the angle (R390, R478). -/
def fallGain (k m : Nat) : Nat :=
  let c := cosFixed (piFixed * (2 * k + 1) / (4 * m))
  c * c / unity

/-- A sample beside an exact value in fixed point; within 2^-40 of a sample, that sample. -/
def sampleOf (y : Int) : Int :=
  let u : Int := Int.ofNat unity
  let r : Int := y + 2 ^ 24
  if r % u < 2 ^ 25 then r / u else y / u + Int.ofNat (bit (Config.roundsUp y))

/-- A sample at position `k` of a fade-out of `m` samples (R478). -/
def fadeSample (v : Int) (k m : Nat) : Int := sampleOf (v * fallGain k m)

/-- An old and a new sample at position `k` of a crossfade of `m` samples (R390). -/
def mixSample (old new : Int) (k m : Nat) : Int := sampleOf (old * fallGain k m + new * (unity - fallGain k m : Nat))

/-- The amplitude at -`att` dBFS: a full-scale sine reaches 2^23 - 1 (PRESUMED, log 195). -/
def toneAmp : Nat → Nat
  | 0 => 8388607 * unity
  | n + 1 => toneAmp n * 16440677961206748579 / unity

/-- A sample of a tone, `p` being n times its frequency modulo 48,000 (R489). -/
def toneSample (att p : Nat) : Int :=
  let q := p % 24000
  let s := cosFixed (piFixed * (if q ≤ 12000 then 12000 - q else q - 12000) / 24000)
  let y : Int := Int.ofNat (toneAmp att * s / unity)
  sampleOf (if p % 48000 < 24000 then y else -y)

end Sys2Proof.Machine
end

