-- ==== Sys2Proof/Machine/Aud.lean ====
section
/-!
DEFINITION. The audio matrix: input groups and their fades, crosspoints and crossfades, fabric audio blocks, serial audio ports
(R464 to R492).
-/
namespace Sys2Proof.Machine

def Block.updAud (b : Block) (f : AudSt → AudSt) : Block := { b with aud := f b.aud }
def Block.grp (b : Block) (g : Nat) : AudGroup := b.aud.groups.look g
def Block.updGrp (b : Block) (g : Nat) (f : AudGroup → AudGroup) : Block := b.updAud fun a => { a with groups := a.groups.upd g f }
def Block.grpState (b : Block) (g : Nat) : Nat := b.fld F.AUD_GRP_STATUS_STATE g
def Block.setGrp (b : Block) (g st : Nat) : Block := b.setFld F.AUD_GRP_STATUS_STATE g st

/-- The first house sample whose time lies at or after a device time (R356, R390). -/
def sampleAt (t : Nat) : Nat := (t * 48000 + secUnit - 1) / secUnit
/-- The house sample count at device time (R464). -/
def Block.houseCount (b : Block) : Nat := b.time.now * 48000 / secUnit

/-! ### Slots (R464 to R468) -/

/-- Serial audio port `n` runs its rate converter (R486). -/
def Block.sapAsrc (b : Block) (n : Nat) : Bool := b.fld F.SAP_CFG_MODE n == 3 && b.on F.SAP_CFG_ASRC n

/-- Group `g` is timeline-indexed (R475). -/
def Block.timelineGrp (b : Block) (g : Nat) : Bool := (decide (256 ≤ g) && decide (g < 896)) || (decide (896 ≤ g) && b.sapAsrc (g - 896))

/-- Channels of a serial audio port (R481). -/
def Block.sapChannels (b : Block) (n : Nat) : Nat := if b.fld F.SAP_CFG_MODE n = 1 then 2 * 2 ^ b.fld F.SAP_CFG_CH n else 2

/-- Input slots of group `g`. -/
def Block.grpSlots (b : Block) (g : Nat) : Nat :=
  if g < 128 then 32 else if g < 256 then b.aud.counts.look g else if g < 384 then 16 else if g < 896 then b.aud.counts.look g else 16

/-- The group and channel that fill an input slot. -/
def Block.slotGroup (b : Block) (s : Nat) : Option (Nat × Nat) :=
  if s < 4096 then some (s / 32, s % 32)
  else if s < 6144 then some (256 + (s - 4096) / 16, (s - 4096) % 16)
  else if s < 7680 then
    ((b.aud.counts.map Prod.fst).find? fun g =>
      decide (b.fld F.AUD_GRP_CFG_FIRST g ≤ s) && decide (s < b.fld F.AUD_GRP_CFG_FIRST g + b.grpSlots g)).map fun g => (g, s - b.fld F.AUD_GRP_CFG_FIRST g)
  else if s < 7936 then some (896 + (s - 7680) / 16, (s - 7680) % 16)
  else none

/-- What an input slot carries at house sample `n`: its group's sample, a tone, or silence (R464, R489). -/
def Block.inputAt (b : Block) (n s : Nat) : Int :=
  if 7936 ≤ s ∧ s < 7952 then
    let g := s - 7936
    if b.on F.AUD_TONE_EN g then toneSample (b.fld F.AUD_TONE_ATTEN g) (n * b.fld F.AUD_TONE_FREQ g % 48000) else 0
  else match b.slotGroup s with
    | some (g, c) => ((b.grp g).cur[c]?).getD 0
    | none => 0

/-- The output that owns an output slot, and the slot's place in it: a tap follows its output (R465, R468, R469). -/
def Block.slotOwner (b : Block) (o : Nat) : Option (Nat × Nat) :=
  if o < 4096 then some (o / 32, o % 32)
  else if o < 5632 then
    ((List.range 128).find? fun k => decide (b.fld F.AUD_OUTMAP_FIRST k ≤ o) && decide (o < b.fld F.AUD_OUTMAP_FIRST k + b.fld F.AUD_OUTMAP_COUNT k)).map
      fun k => (128 + k, o - b.fld F.AUD_OUTMAP_FIRST k)
  else if 5888 ≤ o ∧ o < 6400 then some ((o - 5888) / 2, (o - 5888) % 2)
  else none

/-- The output slots whose owner is output `t`, its tap's included. -/
def Block.slotsOf (b : Block) (t : Nat) : List Nat :=
  (if t < 128 then (List.range 32).map (32 * t + ·)
   else (List.range (b.fld F.AUD_OUTMAP_COUNT (t - 128))).map (b.fld F.AUD_OUTMAP_FIRST (t - 128) + ·)) ++ [5888 + 2 * t, 5889 + 2 * t]

/-! ### Fabric blocks (R470) -/

/-- A block still stands: its ring receives its stream. -/
def Block.blockStands (b : Block) (x : AudBlock) : Bool := b.on F.FAB_RX_STREAM_EN x.ring && b.fld F.FAB_RX_STREAM_STREAM x.ring == x.stream

/-- The block that carries a part of a stream. -/
def Block.fabBlock (b : Block) (stream part : Nat) : Option Nat :=
  (List.range 128).find? fun k => match b.aud.blocks.look k with
    | some x => b.blockStands x && x.stream == bowStream stream && x.part == part
    | none => false

/-- Blocks whose ring was released are free, and their groups off. -/
def Block.blocksSettle (b : Block) : Block :=
  let b := b.updAud fun a => { a with missed := a.missed.filter b.blockStands }
  let gone := (b.aud.blocks.map Prod.fst).filter fun k => match b.aud.blocks.look k with
    | some x => !b.blockStands x
    | none => false
  let b := b.each gone fun b k =>
    (((b.updAud fun a => { a with blocks := a.blocks.put k none }).updGrp (256 + k) fun _ => default).setGrp (256 + k) 0).clr F.AUD_GRP_STATUS_RING (256 + k)
  b.setFld F.AUD_STATUS_FAB_BLOCKS_USED 0 b.aud.blocks.length

/-- A block given to a part: the lowest free one; none when all are in use. -/
def Block.blockTake (b : Block) (x : AudBlock) : Block × Bool :=
  match (List.range 128).find? fun k => (b.aud.blocks.look k).isNone with
  | some k => (((b.updAud fun a => { a with blocks := a.blocks.put k (some x), missed := a.missed.filter fun y => y != x }).setFld
      F.AUD_GRP_STATUS_RING (256 + k) x.ring).blocksSettle, true)
  | none => (b, false)

/-- The parts of a ring's audio have their blocks, or are counted as missed. -/
def Block.blocksFor (b : Block) (ring channels : Nat) : Block :=
  let stream := b.fld F.FAB_RX_STREAM_STREAM ring
  let b := (b.updAud fun a => { a with chans := a.chans.put ring channels }).blocksSettle
  b.each (List.range ((channels + 15) / 16)) fun b part =>
    let x : AudBlock := ⟨ring, stream, part⟩
    if (b.fabBlock stream part).isSome ∨ x ∈ b.aud.missed then b
    else
      let (b, ok) := b.blockTake x
      if ok then b
      else ((b.bump F.AUD_FAB_MISS_CNT_COUNT 0 1).set F.AUD_HIST_POOL_FULL 0).updAud fun a => { a with missed := a.missed ++ [x] }

/-- AUD_BLOCK_RETRY: a frame starts on the timeline of ring `i`, and the parts that missed are tried again (R470). -/
def audBlockRetry (i : Nat) (b : Block) : Block :=
  let b := b.blocksSettle
  b.each (b.aud.missed.filter fun x => x.ring == i) fun b x => (b.blockTake x).1

/-! ### The matrix (R469, R473, R474) -/

/-- The input that an output slot takes in follow mode, none for silence. -/
def Block.followInput (b : Block) (o : Nat) : Option Nat :=
  match b.slotOwner o with
  | none => none
  | some (t, i) =>
    let s := b.fld F.COX_TGT_AV_AUD_SRC t
    if s = noStream ∨ b.on F.COX_TGT_AV_AUD_SILENT t then none
    else if b.ownStream s then
      if i < b.fld F.AUD_SRCMAP_COUNT (s % 512) then some (b.fld F.AUD_SRCMAP_FIRST (s % 512) + i) else none
    else match b.ringOf (bowStream s), b.fabBlock s (i / 16) with
      | some r, some k => if i < b.aud.chans.look r then some (4096 + 16 * k + i % 16) else none
      | _, _ => none

/-- The input that a crosspoint selects. -/
def Block.xpInput (b : Block) (o : Nat) : Option Nat :=
  match b.fld F.AUD_XP_MODE o with
  | 0 => b.followInput o
  | 1 => some (b.fld F.AUD_XP_SRC o)
  | _ => none

/-- The input that a slot goes to once everything under way has ended. -/
def Block.slotTarget (b : Block) (o : Nat) : Option Nat :=
  match b.aud.xfades.look o with
  | some x => match x.wait.getLast? with
    | some w => w.1
    | none => x.new
  | none => b.xpInput o

def Block.setXfade (b : Block) (o : Nat) (x : Option Xfade) : Block :=
  (b.updAud fun a => { a with xfades := a.xfades.put o x }).setTo F.AUD_XP_XFADING o x.isSome

/-- A change of a slot's input from `old`, over `len` samples: at once, or when the crossfade under way ends (R473, R474). -/
def Block.slotChange (b : Block) (o : Nat) (old new : Option Nat) (len : Nat) : Block :=
  if old = new then b
  else match b.aud.xfades.look o with
    | some x => (b.setXfade o (some { x with wait := x.wait ++ [(new, len)] })).set F.AUD_HIST_XFADE_WAITED 0
    | none => if len = 0 then b else b.setXfade o (some ⟨old, new, 0, len, []⟩)

/-- What an input carries, silence for none. -/
def Block.optInput (b : Block) (n : Nat) (s : Option Nat) : Int :=
  match s with
  | some s => b.inputAt n s
  | none => 0

/-- An output slot at house sample `n`. -/
def Block.slotOut (b : Block) (n o : Nat) : Int :=
  match b.aud.xfades.look o with
  | some x => if x.k < x.len then mixSample (b.optInput n x.old) (b.optInput n x.new) x.k x.len else b.optInput n x.new
  | none => b.optInput n (b.xpInput o)

/-- The crossfade that follows one that has reached an input: a change of no length is made at once. -/
def nextXfade (cur : Option Nat) : List (Option Nat × Nat) → Option Xfade
  | [] => none
  | w :: t => if w.2 = 0 then nextXfade w.1 t else some ⟨cur, w.1, 0, w.2, t⟩

/-- CROSSFADE_END: the crossfade of slot `o` has ended, and the next change that waits starts (R474). -/
def crossfadeEnd (o : Nat) (b : Block) : Block :=
  match b.aud.xfades.look o with
  | some x =>
    if x.k < x.len then b
    else b.setXfade o (nextXfade x.new x.wait)
  | none => b

/-- The sample at which a route applies (R473). -/
def Block.routeSample (b : Block) (r : Route) : Nat := if r.frame = 0 then r.sample else sampleAt (b.frameStart r.tl r.frame)

/-- ROUTE_APPLY: the routes due at house sample `n` (R473). -/
def routeApply (n : Nat) (b : Block) : Block :=
  let due := b.aud.routes.filter fun r => decide (b.routeSample r ≤ n)
  let b := b.updAud fun a => { a with routes := a.routes.filter fun r => !decide (b.routeSample r ≤ n) }
  let len := b.fld F.AUD_CFG_XFADE_MS 0 * 48
  b.each due fun b r => b.each r.set fun b e =>
    let old := b.slotTarget e.1
    let b := b.store F.AUD_XP_SRC e.1 (F.AUD_XP_SRC.of e.2)
    let b := b.setFld F.AUD_XP_MODE e.1 (min 2 (F.AUD_XP_MODE.of e.2))
    b.slotChange e.1 old (b.xpInput e.1) len

/-- A command that changes what outputs follow, with the crossfades of output `t` over `len` samples (R390). -/
def Block.following (b : Block) (t len : Nat) (f : Block → Block) : Block :=
  let slots := if t < 256 then b.slotsOf t else []
  let olds := slots.map fun o => (o, b.slotTarget o)
  let b := f b
  b.each olds fun b x => if b.fld F.AUD_XP_MODE x.1 = 0 then b.slotChange x.1 x.2 (b.followInput x.1) len else b

/-- TAKE_EXECUTE with the crossfade of the output's audio, after the routes that reach its slots by the same sample (R385, R390, R474). -/
def takeExecuteAud (i : Nat) (b : Block) : Block :=
  let e := b.take_ i
  let b := b.ite (decide (e.target < 256)) fun b => routeApply (sampleAt (b.catchTime e.target e.catchF e.field2)) b
  b.following e.target (e.feather * 48) fun b => takeExecute i b

/-! ### Groups (R475 to R480) -/

/-- The fade of `FADE_MS`, in samples. -/
def Block.fadeLen (b : Block) : Nat := b.fld F.AUD_CFG_FADE_MS 0 * 48

/-- A group fails: 0 underrun, 1 overrun, 2 gap; it fades to silence from the gain it has (R478, R479). -/
def Block.grpFail (b : Block) (g kind : Nat) : Block :=
  let st := b.grpState g
  if st = 2 ∨ st = 5 then
    let b := match kind with
      | 0 => (b.bump F.AUD_GRP_UNDER_CNT_COUNT g 1).set F.AUD_GRP_HIST_UNDERRUN g
      | 1 => (b.bump F.AUD_GRP_OVER_CNT_COUNT g 1).set F.AUD_GRP_HIST_OVERRUN g
      | _ => (b.bump F.AUD_GRP_UNDER_CNT_COUNT g 1).set F.AUD_GRP_HIST_GAP g
    let len := b.fadeLen
    (b.updGrp g fun s => if st = 5 then { s with k := s.m - 1 - s.k } else { s with k := 0, m := len }).setGrp g 3
  else b

/-- The house sample count nearest `n` with the same value modulo 2^32 as a timestamp (R476). -/
def nearestCount (n ts : Nat) : Nat :=
  let d := (ts + 2 ^ 32 - n % 2 ^ 32) % 2 ^ 32
  if d < 2 ^ 31 then n + d else n - (2 ^ 32 - d)

/-- How far behind the house count a timeline-indexed group is read. -/
def Block.grpDelay (b : Block) (g : Nat) : Nat := if 896 ≤ g then 64 else b.fld F.AUD_GRP_CFG_DELAY g

/-- The audio groups of a de-embedder's signal that their control packets mute, group g in bit g (R204). -/
def Block.mutedGroups (b : Block) (g : Nat) : Nat := if g < 128 then (b.rx g).muted else if g < 256 then (b.rxf (g - 128)).muted else 0

/-- A sample of every channel written to group `g` at house sample `n` (R204, R466, R476 to R478). -/
def Block.grpWrite (b : Block) (n g tag : Nat) (l : List Int) : Block :=
  let l := l.zipIdx.map fun x => if bitOf (b.mutedGroups g) (x.2 / 4 + 1) then 0 else x.1
  let b := b.ite (b.grpState g == 0) fun b => b.setGrp g 1
  if b.timelineGrp g then
    let t := if 384 ≤ g ∧ g < 896 then nearestCount n tag else tag
    if t + b.grpDelay g < n then b else b.updGrp g fun s => { s with tagged := s.tagged.put t (some l) }
  else
    let s := b.grp g
    if s.buf.length < 64 then b.updGrp g fun s => { s with buf := s.buf ++ [l], written := s.written + 1 }
    else if b.grpState g = 1 then b.updGrp g fun s => { s with buf := s.buf.drop 1 ++ [l], written := s.written + 1 }
    else b.grpFail g 1

/-- The gain of a group on a sample (R478, R479, R487). -/
def Block.grpGain (b : Block) (g : Nat) (v : Int) : Int :=
  let s := b.grp g
  if s.mute ≠ 0 then 0
  else match b.grpState g with
    | 2 => v
    | 3 => if s.k < s.m then fadeSample v s.k s.m else 0
    | 5 => if s.k < s.m then fadeSample v (s.m - 1 - s.k) s.m else v
    | _ => 0

/-- 48 samples in a row stand from house sample count `t` on. -/
def AudGroup.ready (s : AudGroup) (t : Nat) : Bool := (List.range 48).all fun i => (s.tagged.look (t + i)).isSome

/-- Group `g` read at house sample `n`. -/
def Block.grpRead (b : Block) (n g : Nat) : Block :=
  let b := if b.timelineGrp g then
      let t := n - b.grpDelay g
      let s := b.grp g; let st := b.grpState g
      if st = 1 ∨ st = 4 then
        -- a start waits for 48 samples in a row; after a failure it fades in (R479)
        if s.ready t then
          let len := b.fadeLen
          let b := b.setGrp g (if s.again then 5 else 2)
          b.updGrp g fun s => { s with last := (s.tagged.look t).getD [], k := 0, m := len, tagged := s.tagged.filter fun e => decide (t < e.1) }
        else b.updGrp g fun s => { s with last := [], tagged := s.tagged.filter fun e => decide (t < e.1) }
      else if st = 0 then b
      else
        let b := b.ite (s.tagged.look t).isNone fun b => b.grpFail g 2
        b.updGrp g fun s => { s with last := (s.tagged.look t).getD s.last, tagged := s.tagged.filter fun e => decide (t < e.1) }
    else if b.grpState g = 2 ∨ b.grpState g = 3 ∨ b.grpState g = 5 then
      let s := b.grp g
      let i : Int := (n : Int) - s.k0; let low : Int := (s.written : Int) - s.buf.length
      let b := b.ite (decide ((s.written : Int) - i < 8)) fun b => b.grpFail g 0
      b.updGrp g fun s =>
        { s with last := if low ≤ i ∧ i < s.written then (s.buf[(i - low).toNat]?).getD s.last else s.last, buf := s.buf.drop ((i - low).toNat + 1) }
    else b
  let s := b.grp g
  let cur := if b.grpState g = 0 ∨ b.grpState g = 1 ∨ b.grpState g = 4 then [] else s.last.map (b.grpGain g)
  let b := b.updGrp g fun s => { s with cur := cur, k := if s.k < s.m then s.k + 1 else s.k, mute := s.mute - 1 }
  let b := if 896 ≤ g ∧ s.mute = 1 then
      let len := b.fadeLen
      (b.clr F.SAP_STATUS_ASRC_MUTED (g - 896)).ite (b.grpState g == 2) fun b => (b.setGrp g 5).updGrp g fun s => { s with k := 0, m := len }
    else b
  b.ite (!b.timelineGrp g) fun b => b.setFld F.AUD_GRP_STATUS_FILL g (b.grp g).buf.length

/-- FADE_END: the fade of group `g` has ended (R479). -/
def fadeEnd (g : Nat) (b : Block) : Block :=
  let s := b.grp g
  if s.k < s.m then b
  else match b.grpState g with
    | 3 =>
      let b := b.updGrp g fun s => { s with buf := [], again := true }
      b.setGrp g (if b.timelineGrp g then 4 else 1)
    | 5 => b.setGrp g 2
    | _ => b

/-- GROUP_OFFSET_FIX: at a frame start with house count `h`, an arrival-paced group whose fill has reached `DEPTH` fixes its offset (R477). -/
def groupOffsetFix (g h : Nat) (b : Block) : Block :=
  let s := b.grp g; let d := b.fld F.AUD_GRP_CFG_DELAY g
  if b.grpState g = 1 ∧ ¬b.timelineGrp g ∧ d ≤ s.buf.length then
    let k0 : Int := (h : Int) - s.written + d; let len := b.fadeLen
    let b := (b.updGrp g fun s => { s with k0 := k0, k := 0, m := len }).setFld F.AUD_GRP_OFS_OFS g (patternOf 32 k0)
    if s.again then (b.set F.AUD_GRP_HIST_RESYNC g).setGrp g 5 else b.setGrp g 2
  else b

/-! ### The house sample (R469, R488) -/

/-- Channels that the source of group `g` gives: on SD groups 1 to 4 only (R203, R483). -/
def Block.fedChannels (b : Block) (g : Nat) : Nat :=
  if g < 128 then 4 * fmtGroups (b.fld F.SDI_RX_STATUS_FMT_NOW g)
  else if g < 256 then min (b.grpSlots g) (4 * fmtGroups (b.fld F.IPM_RX_CFG_FORMAT (g - 128)))
  else b.sapChannels (g - 896)

/-- Samples from outside enter group `g`: a de-embedder of a locked receiver, link 1 of a quad, or of a kind 2 flow that receives; a serial audio port's
receive side that runs, in AES3 mode in lock (R203, R237, R486). Fabric blocks and audio flows take theirs from strokes and packets. -/
def Block.groupFed (b : Block) (g : Nat) : Bool :=
  if g < 128 then b.on F.SDI_RX_CFG_DEEMB_EN g && b.rxState g == 2 && !b.rxQuadMember g && b.rxLive g
  else if g < 256 then b.on F.IPM_RX_CFG_EN (g - 128) && b.fld F.IPM_RX_CFG_KIND (g - 128) == 2 && b.fld F.IPM_RX_STATUS_STATE (g - 128) == 2
  else decide (896 ≤ g) && decide (g < 912) && b.fld F.SAP_STATUS_RX_STATE (g - 896) == 2
    && (b.fld F.SAP_CFG_MODE (g - 896) != 3 || b.on F.SAP_STATUS_AES_LOCK (g - 896))

/-- What arrives for one group: AES3 blocks and errors are counted, a port's first sample is noted, and the samples are written. A group from 912 on stands
for an FS edge on the pins of port group - 912's transmit side, which ends its `NO_CLOCK` (R482). -/
def Block.audioIn (b : Block) (n : Nat) (x : AudioIn) : Block :=
  let b := b.ite (decide (912 ≤ x.group) && decide (x.group < 928) && b.fld F.SAP_STATUS_TX_STATE (x.group - 912) == 3) fun b =>
    b.setFld F.SAP_STATUS_TX_STATE (x.group - 912) 2
  let b := if 896 ≤ x.group ∧ x.group < 912 then
      let p := x.group - 896
      let b := b.ite (b.fld F.SAP_STATUS_RX_STATE p == 3) fun b => b.setFld F.SAP_STATUS_RX_STATE p 2
      let b := b.ite (b.fld F.SAP_STATUS_RX_STATE p == 2) fun b => b.set F.SAP_HIST_RX_STARTED p
      let b := b.ite x.parity fun b => (b.bump F.SAP_ERR_CNT_COUNT p 1).set F.SAP_HIST_PARITY_ERR p
      match x.block with
      | some (true, cs) => b.setFld F.SAP_CS_RX_CS p cs
      | some (false, _) => (b.bump F.SAP_ERR_CNT_COUNT p 1).set F.SAP_HIST_CS_CRC_ERR p
      | none => b
    else b
  if b.groupFed x.group then b.grpWrite n x.group x.tag (x.samples.take (b.fedChannels x.group)) else b

/-- A crossfade one sample on. -/
def Xfade.tick (x : Xfade) : Xfade := if x.k < x.len then { x with k := x.k + 1 } else x

/-- The samples that the merged packets of audio flow `i` have brought go to its group (R240, R476). -/
def Block.flowAudio (b : Block) (n i : Nat) : Block :=
  let l := (b.rxf i).audio
  if l = [] then b else (b.updFlowRx i fun f => { f with audio := [] }).each l fun b x => b.grpWrite n (256 + i) x.1 x.2

/-- One bit of the CRC of AES3: x^8 + x^4 + x^3 + x^2 + 1, all ones at first, bits in the order sent. -/
def aesCrcBit (c : Nat) (d : Bool) : Nat := if (bitOf c 0 != d) then (c / 2) ^^^ 0xB8 else c / 2
def aesCrc (l : List Byte) : Nat := (l.flatMap fun x => (List.range 8).map fun i => bitOf x.toNat i).foldl aesCrcBit 0xFF

/-- The channel status block of port `p` (R488). -/
def Block.aesStatus (b : Block) (p : Nat) : List Byte :=
  let l := leBytes 4 (b.fld F.SAP_CS_TX_CS p) ++ zeroBytes 19
  l ++ leBytes 1 (aesCrc l)

/-- An AES3 subframe of a sample, time slots 4 to 31 in their places: validity and user data 0, the channel status bit, even parity. -/
def aesSubframe (v : Int) (c : Bool) : Nat :=
  let w := patternOf 24 v * 16 + bit c * 2 ^ 30
  w + (List.range 31).foldl (fun a i => (a + bit (bitOf w i)) % 2) 0 * 2 ^ 31

/-- The frame of house sample `n` that the transmit side of port `p` sends (R481 to R483, R488). -/
def Block.sapSend (b : Block) (n p : Nat) : Block :=
  let v (c : Nat) : Int := b.aud.outs.look (5632 + 16 * p + c)
  let b := b.set F.SAP_HIST_TX_STARTED p
  if b.sapBad p then b
  else if b.fld F.SAP_CFG_MODE p = 3 then
    -- a block of 192 frames starts on each house sample divisible by 192 (log 197)
    let c := bitOf (((b.aesStatus p)[n % 192 / 8]?).getD 0).toNat (n % 8)
    b.emit (.aes3 p n [aesSubframe (v 0) c, aesSubframe (v 1) c])
  else
    b.emit (.sap p n ((List.range (b.sapChannels p)).map fun c => patternOf 24 (v c) * 256) (b.fld F.SAP_CFG_MODE p == 2 || b.on F.SAP_CFG_DELAY1 p)
      (b.on F.SAP_CFG_BCLK_POL p))

/-- AUDIO_SAMPLE: house sample `n` with what arrived since the last (R469, R476 to R480, R484). The slots of the last 96 samples are kept, which strokes,
embedders and packets take from (R356, R472). -/
def audioSample (n : Nat) (ins : List AudioIn) (b : Block) : Block :=
  let b := b.blocksSettle
  let b := b.each ins fun b x => b.audioIn n x
  let b := b.each (b.flowRx.map Prod.fst) fun b i => b.flowAudio n i
  let b := b.each (b.aud.groups.map Prod.fst) fun b g => b.grpRead n g
  let row (f : Nat → Int) : Bank Int := (List.range 8192).filterMap fun o => let v := f o; if v = 0 then none else some (o, v)
  let outs := row (b.slotOut n)
  let b := b.updAud fun a => { a with
    outs := outs, now := n, past := (n, row (b.inputAt n), outs) :: a.past.take 95, xfades := a.xfades.map fun e => (e.1, e.2.map Xfade.tick) }
  b.each (List.range 16) fun b p => b.ite (b.fld F.SAP_STATUS_TX_STATE p == 2) fun b => b.sapSend n p

/-- The 24-bit samples of an audio stroke, channel by channel for each sample (R355). -/
def strokeSamples (d : List Byte) (channels : Nat) : List (List Int) :=
  (List.range (d.length / (3 * channels))).map fun i => (List.range channels).map fun c => les d (3 * (channels * i + c)) 3

/-- STROKE_RELEASE, and the audio that an audio stroke brings to its blocks (R335, R470, R476). -/
def strokeReleaseAud (i typ frame line : Nat) (b : Block) : Block :=
  let r := b.rings.look i
  let held := r.slots.look (b.slotKey typ r.fmt r.tl frame line)
  let on := b.on F.FAB_RX_STREAM_EN i
  let b := strokeRelease i typ frame line b
  match held with
  | some s =>
    if on ∧ typ = 2 ∧ s.frame = frame ∧ s.line = line ∧ s.aux / 2 ^ 48 ≠ 0 then
      let ch := s.aux / 2 ^ 48; let first := s.aux % 2 ^ 48
      let b := b.blocksFor i ch
      let stream := b.fld F.FAB_RX_STREAM_STREAM i
      b.each (strokeSamples s.data ch).zipIdx fun b x =>
        b.each (List.range ((ch + 15) / 16)) fun b part =>
          match b.fabBlock stream part with
          | some k => b.grpWrite b.houseCount (256 + k) (first + x.2) ((x.1.drop (16 * part)).take 16)
          | none => b
    else b
  | none => b

/-! ### Serial audio ports (R481 to R488) -/

/-- The rate converter of port `n` takes a synchronising reset (R487). -/
def Block.asrcReset (b : Block) (n : Nat) : Block :=
  if b.sapAsrc n then
    ((b.set F.SAP_HIST_ASRC_RESET n).set F.SAP_STATUS_ASRC_MUTED n).updGrp (896 + n) fun s => { s with mute := 64 }
  else b

/-- A side that is on starts, at once or in a common start (R484). -/
def Block.sapSide (b : Block) (n : Nat) (en st : Field) (was : Bool) : Block :=
  let on := b.on en n && b.fld F.SAP_CFG_MODE n != 0
  if on && !was then b.setFld st n (if b.on F.SAP_CFG_WAIT_START n then 1 else 2)
  else if on then b
  else b.setFld st n 0

/-- A write of `SAP_CFG[n]`. -/
def Block.sapCfgWrite (b : Block) (n v : Nat) : Block :=
  let rx := b.fld F.SAP_STATUS_RX_STATE n != 0; let tx := b.fld F.SAP_STATUS_TX_STATE n != 0
  let asrc := b.sapAsrc n
  let b := b.storeWord W.SAP_CFG n v
  let b := (b.sapSide n F.SAP_CFG_RX_EN F.SAP_STATUS_RX_STATE rx).sapSide n F.SAP_CFG_TX_EN F.SAP_STATUS_TX_STATE tx
  -- a side switched off, or a group of another kind, starts anew
  let b := b.ite (b.fld F.SAP_STATUS_RX_STATE n == 0 || b.sapAsrc n != asrc) fun b =>
    ((b.updGrp (896 + n) fun _ => default).setGrp (896 + n) 0).clr F.AUD_GRP_STATUS_FILL (896 + n)
  let b := b.ite (b.fld F.SAP_STATUS_RX_STATE n == 0) fun b => (b.clr F.SAP_STATUS_AES_LOCK n).clr F.SAP_STATUS_RX_RATE n
  (b.setTo F.AUD_GRP_STATUS_TIMELINE (896 + n) (b.sapAsrc n)).asrcReset n

/-- SAP_CLOCK_LOST: a slave side of port `n` has seen no FS edge for 1 ms (R482); AES3 has no FS. -/
def sapClockLost (n : Nat) (tx : Bool) (b : Block) : Block :=
  let st := if tx then F.SAP_STATUS_TX_STATE else F.SAP_STATUS_RX_STATE
  let slave := !b.on (if tx then F.SAP_CFG_TX_MASTER else F.SAP_CFG_RX_MASTER) n
  if slave ∧ b.fld st n = 2 ∧ b.fld F.SAP_CFG_MODE n ≠ 3 then
    let b := (b.setFld st n 3).set F.SAP_HIST_CLK_LOST n
    if tx then b else b.grpFail (896 + n) (if b.timelineGrp (896 + n) then 2 else 0)
  else b

/-- AES3_LOCK: the receiver of port `n` gains lock at a measured rate in Hz (R486, R487). -/
def aes3Lock (n rate : Nat) (b : Block) : Block :=
  if b.fld F.SAP_CFG_MODE n = 3 ∧ b.fld F.SAP_STATUS_RX_STATE n ≠ 0 ∧ 32000 ≤ rate ∧ rate ≤ 96000 ∧ ¬b.on F.SAP_STATUS_AES_LOCK n then
    (((b.set F.SAP_STATUS_AES_LOCK n).set F.SAP_HIST_AES_LOCK_GAINED n).setFld F.SAP_STATUS_RX_RATE n rate).asrcReset n
  else b

/-- AES3_LOCK_LOST (R487): handled as a gap. Lock goes too when the measured rate leaves the range of R486. -/
def aes3LockLost (n : Nat) (b : Block) : Block :=
  if b.on F.SAP_STATUS_AES_LOCK n then ((b.clr F.SAP_STATUS_AES_LOCK n).set F.SAP_HIST_AES_LOCK_LOST n).grpFail (896 + n) 2 else b

/-- AES3_RATE_CHANGE: the measured rate changes; by more than 1 % the converter is reset (R486, R487). -/
def aes3RateChange (n rate : Nat) (b : Block) : Block :=
  let old := b.fld F.SAP_STATUS_RX_RATE n
  if rate < 32000 ∨ 96000 < rate then aes3LockLost n b
  else if b.on F.SAP_STATUS_AES_LOCK n then
    let b := b.setFld F.SAP_STATUS_RX_RATE n rate
    b.ite (decide (old < 100 * (max old rate - min old rate))) fun b => b.asrcReset n
  else b

/-- SAP_COMMON_START: house sample n0 of the armed start (R484). -/
def sapCommonStart (b : Block) : Block :=
  if b.on F.SAP_START_HI_ARMED 0 then
    let b := b.each (List.range 16) fun b n =>
      let b := b.ite (b.bitAt F.SAP_START_MASK_RX 0 n && b.fld F.SAP_STATUS_RX_STATE n == 1) fun b => b.setFld F.SAP_STATUS_RX_STATE n 2
      b.ite (b.bitAt F.SAP_START_MASK_TX 0 n && b.fld F.SAP_STATUS_TX_STATE n == 1) fun b => b.setFld F.SAP_STATUS_TX_STATE n 2
    (b.clr F.SAP_START_HI_ARMED 0).set F.AUD_HIST_STARTED 0
  else b

/-! ### Commands (R490, R491) -/

/-- The audio power domain is off (domain 81, R655). -/
def Block.audOff (b : Block) : Bool := !b.bitAt F.PWR_DOM_ON_ON 2 17

/-- The frame of an audio command. -/
def Block.audCommand (b : Block) (ch code : Nat) (lenOk bad absent : Bool) (conds : List (Bool × Nat)) (eff : Block → Block) : Block :=
  b.command ch code (decide (ch ≤ 32)) lenOk [(bad, St.BAD_ARG), (absent, St.UNIT_ABSENT), (b.selftest 0x0E, St.BUSY_SELFTEST)]
    ((b.audOff, St.NOT_READY) :: conds) eff

/-- AUD_SET, 0x0701. -/
def audSet (ch : Nat) (p : List Byte) (b : Block) : Block :=
  let g := le p 2 1
  b.audCommand ch 0x0701 (p.length == 8)
    (!(decide (1 ≤ le p 0 1) && decide (le p 0 1 ≤ 100) && decide (le p 1 1 ≤ 64) && (decide (g ≤ 15) || g == 0xFF) && decide (le p 3 1 ≤ 1)
        && decide (20 ≤ le p 4 2) && decide (le p 4 2 ≤ 20000) && decide (le p 6 1 ≤ 127) && zeros p 7 1)) false []
    fun b =>
      let b := (b.setFld F.AUD_CFG_FADE_MS 0 (le p 0 1)).setFld F.AUD_CFG_XFADE_MS 0 (le p 1 1)
      (b.ite (decide (g ≤ 15)) fun b => ((b.setFld F.AUD_TONE_EN g (le p 3 1)).setFld F.AUD_TONE_FREQ g (le p 4 2)).setFld F.AUD_TONE_ATTEN g (le p 6 1)).ok ch []

/-- AUD_ROUTE, 0x0702 (R473). -/
def audRoute (ch : Nat) (p : List Byte) (b : Block) : Block :=
  let n := le p 0 2; let tl := le p 2 1; let f := le p 4 6
  let set := (List.range n).map fun i => (le p (12 + 4 * i) 2, le p (14 + 4 * i) 2)
  b.audCommand ch 0x0702 (decide (16 ≤ p.length) && p.length == 12 + 4 * n)
    (!(decide (1 ≤ n) && decide (n ≤ 237) && decide (tl ≤ 1) && zeros p 3 1 && zeros p 10 2
        && set.all fun e => decide (e.1 ≤ 8191) && decide (e.2 < 0x6000))) false
    [(f != 0 && decide (f < b.tlFrame tl + 1), St.LATE)]
    fun b => (b.updAud fun a => { a with routes := a.routes ++ [⟨tl, f, (b.houseCount / 48 + 1) * 48, set⟩] }).ok ch []

/-- A range of a received group overlaps no other (R468). -/
def Block.groupFree (b : Block) (g first n : Nat) : Bool :=
  (b.aud.counts.map Prod.fst).all fun k =>
    k == g || decide (first + n ≤ b.fld F.AUD_GRP_CFG_FIRST k) || decide (b.fld F.AUD_GRP_CFG_FIRST k + b.grpSlots k ≤ first)

/-- A range of an IP output overlaps no other (R468). -/
def Block.outputFree (b : Block) (k first n : Nat) : Bool :=
  n == 0 || (List.range 128).all fun j =>
    j == k || b.fld F.AUD_OUTMAP_COUNT j == 0 || decide (first + n ≤ b.fld F.AUD_OUTMAP_FIRST j)
      || decide (b.fld F.AUD_OUTMAP_FIRST j + b.fld F.AUD_OUTMAP_COUNT j ≤ first)

/-- AUD_MAP, 0x0703 (R467, R468). -/
def audMap (ch : Nat) (p : List Byte) (b : Block) : Block :=
  let kind := le p 0 1; let i := le p 2 2; let first := le p 4 2; let n := le p 6 1
  let g := if kind = 2 then 384 + i else 128 + i
  let count := if kind = 2 then (b.rxf (128 + i)).format else if kind = 3 then 32 else if kind = 4 then (b.flowTx.look (128 + i)).format else n
  let fits (lo hi : Nat) : Bool := decide (lo ≤ first) && decide (first + count ≤ hi)
  let bad := !(decide (kind ≤ 4) && zeros p 1 1 && zeros p 7 1 && match kind with
    | 0 => decide (i ≤ 335) && decide (first ≤ 8191) && decide (n ≤ 32)
    | 1 => decide (i ≤ 127) && decide (n ≤ 32) && fits 4096 5632 && b.outputFree i first n
    | 2 => decide (i ≤ 511) && fits 6144 7680 && b.groupFree g first count
    | 3 => decide (i ≤ 127) && fits 6144 7680 && b.groupFree g first count
    | _ => decide (i ≤ 511) && fits 4096 5632)
  let absent := match kind with
    | 0 => !b.sourceHas i
    | _ => b.ethMedia == 0
  let on := match kind with
    | 2 => b.on F.IPM_RX_CFG_EN (128 + i)
    | 3 => b.on F.IPM_RX_CFG_EN i
    | 4 => b.on F.IPM_TX_CFG_EN (128 + i)
    | _ => false
  b.audCommand ch 0x0703 (p.length == 8) bad absent [(on, St.NOT_READY)]
    fun b =>
      (match kind with
       | 0 => (b.setFld F.AUD_SRCMAP_FIRST i first).setFld F.AUD_SRCMAP_COUNT i n
       | 1 => (b.setFld F.AUD_OUTMAP_FIRST i first).setFld F.AUD_OUTMAP_COUNT i n
       | 4 => b.updAud fun a => { a with txMap := a.txMap.put i (some (first, count)) }
       | _ => (b.setFld F.AUD_GRP_CFG_FIRST g first).updAud fun a => { a with counts := a.counts.put g count }).ok ch []

/-- `DELAY` of a group: 8 to 48 for arrival-paced groups, 48 to 480 for IP flows, none for fabric blocks (R476, R477). -/
def delayOk (g d : Nat) : Bool :=
  if 256 ≤ g ∧ g < 384 then false
  else if 384 ≤ g ∧ g < 896 then decide (48 ≤ d) && decide (d ≤ 480)
  else decide (8 ≤ d) && decide (d ≤ 48)

/-- A group names a flow that is absent. -/
def Block.groupAbsent (b : Block) (g : Nat) : Bool := b.ethMedia == 0 && ((decide (128 ≤ g) && decide (g < 256)) || (decide (384 ≤ g) && decide (g < 896)))

/-- AUD_GRP_SET, 0x0704. -/
def audGrpSet (ch : Nat) (p : List Byte) (b : Block) : Block :=
  let g := le p 0 2
  b.audCommand ch 0x0704 (p.length == 4) (!(decide (g ≤ 911) && delayOk g (le p 2 2))) (b.groupAbsent g) []
    fun b => (b.setFld F.AUD_GRP_CFG_DELAY g (le p 2 2)).ok ch []

/-- A write of `AUD_GRP_CFG[g]`: a value outside the group's range is discarded. -/
def Block.audGrpWrite (b : Block) (g v : Nat) : Block :=
  if delayOk g (F.AUD_GRP_CFG_DELAY.of v) then b.setFld F.AUD_GRP_CFG_DELAY g (F.AUD_GRP_CFG_DELAY.of v) else b.reject 0x0E F.AUD_GRP_HIST_CFG_REJECTED g

/-- SAP_SET, 0x0705. -/
def sapSet (ch : Nat) (p : List Byte) (b : Block) : Block :=
  let n := le p 0 1; let fl := le p 3 1
  b.audCommand ch 0x0705 (p.length == 12) (!(decide (n ≤ 15) && decide (le p 1 1 ≤ 3) && decide (le p 2 1 ≤ 3) && zeros p 8 4)) false
    [(b.sapBad n, St.NOT_READY)]
    fun b => ((b.setFld F.SAP_CS_TX_CS n (le p 4 4)).sapCfgWrite n (le p 1 1 + le p 2 1 * 4 + fl * 16)).ok ch []

/-- SAP_START, 0x0706 (R484, R485). -/
def sapStart (ch : Nat) (p : List Byte) (b : Block) : Block :=
  let rx := le p 0 2; let tx := le p 2 2; let tl := le p 4 1; let f := le p 6 6
  b.audCommand ch 0x0706 (p.length == 12) (!(decide (tl ≤ 1) && zeros p 5 1)) false
    [((onesAt 16 rx).any (fun n => b.fld F.SAP_STATUS_RX_STATE n != 1) || (onesAt 16 tx).any (fun n => b.fld F.SAP_STATUS_TX_STATE n != 1), St.NOT_READY),
     (decide (f ≤ b.tlFrame tl), St.LATE)]
    fun b =>
      let b := (b.setFld F.SAP_START_MASK_RX 0 rx).setFld F.SAP_START_MASK_TX 0 tx
      let b := ((b.setFld F.SAP_START_LO_FRAME 0 f).setFld F.SAP_START_HI_FRAME 0 (f / 2 ^ 32)).setFld F.SAP_START_HI_TL 0 tl
      (b.set F.SAP_START_HI_ARMED 0).ok ch []

/-- AUD_GET_STATUS, 0x0707. -/
def audGetStatus (ch : Nat) (p : List Byte) (b : Block) : Block :=
  let g := le p 0 2
  b.audCommand ch 0x0707 (p.length == 4) (!(decide (g ≤ 911) && decide (le p 2 1 ≤ 1) && zeros p 3 1)) (b.groupAbsent g) []
    fun b =>
      let cnts := [F.AUD_GRP_UNDER_CNT_COUNT, F.AUD_GRP_OVER_CNT_COUNT]
      let d := b.word4 W.AUD_GRP_STATUS g ++ b.word4 W.AUD_GRP_OFS g ++ b.word4 W.AUD_GRP_HIST g ++ (cnts.map fun f => leBytes 4 (b.fld f g)).flatten
      let b := b.takeCounts cnts g
      (b.ite (le p 2 1 == 1) fun b => b.clearHist W.AUD_GRP_HIST g histAll).ok ch d

end Sys2Proof.Machine
end

