-- ==== Sys2Proof/Machine/Codec.lean ====
section
/-!
DEFINITION. The witness codec: planes of a picture, the reversible 5/3 wavelet, and the coding of subbands (R495, R500 to R502).
-/
namespace Sys2Proof.Machine

/-! ### The wavelet (R501) -/

/-- Element `i` of a signal. -/
def sig (x : List Int) (i : Nat) : Int := (x[i]?).getD 0

/-- One level of the reversible 5/3 transform of a line that starts at an even place, ends mirrored: the low and the high band. -/
def dwt1 (x : List Int) : List Int × List Int :=
  let n := x.length
  if n ≤ 1 then (x, [])
  else
    let hi := (List.range (n / 2)).map fun k =>
      sig x (2 * k + 1) - (sig x (2 * k) + sig x (if 2 * k + 2 < n then 2 * k + 2 else 2 * k)) / 2
    let m := n / 2
    let lo := (List.range ((n + 1) / 2)).map fun k =>
      sig x (2 * k) + (sig hi (k - 1) + sig hi (if k < m then k else m - 1) + 2) / 4
    (lo, hi)

/-- Columns of a plane given by rows, `w` wide. -/
def columns (w : Nat) (rows : List (List Int)) : List (List Int) := (List.range w).map fun i => rows.map fun r => sig r i

/-- One level in two dimensions, columns first: LL, HL, LH, HH by rows. -/
def dwt2 (w : Nat) (rows : List (List Int)) : List (List Int) × List (List Int) × List (List Int) × List (List Int) :=
  let cols := (columns w rows).map dwt1
  let h := rows.length
  let low := columns ((h + 1) / 2) (cols.map Prod.fst); let high := columns (h / 2) (cols.map Prod.snd)
  let l := low.map dwt1; let g := high.map dwt1
  (l.map Prod.fst, l.map Prod.snd, g.map Prod.fst, g.map Prod.snd)

/-- The ten subbands of a plane in coding order, each in raster order. -/
def subbands (w : Nat) (rows : List (List Int)) : List (List Int) :=
  let (ll1, hl1, lh1, hh1) := dwt2 w rows
  let w1 := (w + 1) / 2
  let (ll2, hl2, lh2, hh2) := dwt2 w1 ll1
  let w2 := (w1 + 1) / 2
  let (ll3, hl3, lh3, hh3) := dwt2 w2 ll2
  [ll3, hl3, lh3, hh3, hl2, lh2, hh2, hl1, lh1, hh1].map List.flatten

/-! ### Bits (R502) -/

/-- A number of `n` bits, most significant first. -/
def bitsMsb (n v : Nat) : List Bool := (List.range n).map fun i => bitOf v (n - 1 - i)

/-- The unsigned Exp-Golomb code. -/
def ueBits (v : Nat) : List Bool := List.replicate (Nat.log2 (v + 1)) false ++ bitsMsb (Nat.log2 (v + 1) + 1) (v + 1)

/-- A subband with a shift: runs of zeros, magnitudes and signs; `run` zeros stand before the rest. -/
def codeBand (s : Nat) : Nat → List Int → List Bool
  | run, [] => ueBits run
  | run, c :: t =>
    let m := c.natAbs / 2 ^ s
    if m = 0 then codeBand s (run + 1) t else ueBits run ++ ueBits (m - 1) ++ [decide (c < 0)] ++ codeBand s 0 t

/-- Bits in bytes, most significant first, ended with zero bits. -/
def packBits (l : List Bool) : List Byte :=
  (List.range ((l.length + 7) / 8)).map fun i =>
    BitVec.ofNat 8 ((List.range 8).foldl (fun a j => 2 * a + bit ((l[8 * i + j]?).getD false)) 0)

/-- A coded plane: its samples less the offset, transformed and coded with a shift for each subband. -/
def codePlane (w offset : Nat) (shifts : List Nat) (samples : List Nat) : List Byte :=
  let h := if w = 0 then 0 else samples.length / w
  let rows := (List.range h).map fun y => ((samples.drop (y * w)).take w).map fun v => (v : Int) - offset
  packBits ((subbands w rows).zipIdx.map fun q => codeBand (shifts.getD q.2 0) 0 q.1).flatten

/-! ### Planes (R495, R500) -/

/-- The sample of a picture at row `y`: luma `x`, or chroma pair `x` of component 1 or 2. -/
def planeAt (f : Nat) (psf : Bool) (pic : List Byte) (comp x y : Nat) : Nat :=
  let row := (rowOrder f psf).idxOf y * fmtW f
  le pic (if comp = 0 then (row + x) * 4 + 2 else (row + 2 * x + (comp - 1)) * 4) 2 % 1024

/-- A picture is reduced to 960 x 540. -/
def proxyLarge (f : Nat) : Bool := decide (960 < fmtW f) || decide (540 < fmtH f)
def proxyW (f : Nat) : Nat := if proxyLarge f then 960 else fmtW f
def proxyH (f : Nat) : Nat := if proxyLarge f then 540 else fmtH f

/-- A plane of the proxy of a picture. -/
def proxyPlane (f : Nat) (psf : Bool) (pic : List Byte) (comp : Nat) : List Nat :=
  if proxyLarge f then Config.proxy f pic comp
  else if comp = 0 then
    ((List.range (fmtH f)).map fun y => (List.range (fmtW f)).map fun x => (planeAt f psf pic 0 x y + 2) / 4).flatten
  else
    ((List.range ((fmtH f + 1) / 2)).map fun y => (List.range ((fmtW f + 1) / 2)).map fun x =>
      (planeAt f psf pic comp x (2 * y) + planeAt f psf pic comp x (min (2 * y + 1) (fmtH f - 1)) + 4) / 8).flatten

/-- A plane of a picture at full resolution. -/
def fullPlane (f : Nat) (psf : Bool) (pic : List Byte) (comp : Nat) : List Nat :=
  ((List.range (fmtH f)).map fun y => (List.range (if comp = 0 then fmtW f else (fmtW f + 1) / 2)).map fun x => planeAt f psf pic comp x y).flatten

/-- The three coded planes of a picture, as a proxy or at full resolution. -/
def codedPlanes (f : Nat) (psf full : Bool) (pic : List Byte) (shifts : List Nat) : List Byte × List Byte × List Byte :=
  let w := if full then fmtW f else proxyW f
  let plane (c : Nat) : List Byte :=
    codePlane (if c = 0 then w else (w + 1) / 2) (if full then 512 else 128) shifts (if full then fullPlane f psf pic c else proxyPlane f psf pic c)
  (plane 0, plane 1, plane 2)

end Sys2Proof.Machine
end

