-- ==== Sys2Proof/Machine/Wit.lean ====
section
/-!
DEFINITION. The witness record and the incident buffer: taps and their records, bales and chains, drives, mounting and checkpoints, triggers
(R494 to R532).
-/
namespace Sys2Proof.Machine

def Block.updWit (b : Block) (f : WitSt → WitSt) : Block := { b with wit := f b.wit }
def Block.tap (b : Block) (t : Nat) : TapSt := b.wit.taps.look t
def Block.updTap (b : Block) (t : Nat) (f : TapSt → TapSt) : Block := b.updWit fun w => { w with taps := w.taps.upd t f }
def Block.chain (b : Block) (k : Nat) : Chain := b.wit.chains.look k
def Block.updChain (b : Block) (k : Nat) (f : Chain → Chain) : Block := b.updWit fun w => { w with chains := w.chains.upd k f }
def Block.updSet (b : Block) (f : DriveSet → DriveSet) : Block := b.updWit fun w => { w with set := w.set.map f }
def Block.drive (b : Block) (d : Nat) : DriveSt := b.wit.drives.look d
def Block.updDrive (b : Block) (d : Nat) (f : DriveSt → DriveSt) : Block := b.updWit fun w => { w with drives := w.drives.upd d f }
def Block.driveState (b : Block) (d : Nat) : Nat := b.fld F.WIT_DRV_STATUS_STATE d
def Block.witState (b : Block) : Nat := b.fld F.WIT_STATUS_STATE 0
def Block.incState (b : Block) : Nat := b.fld F.INC_STATUS_STATE 0

/-! ### Outputs (R287, R494, R498) -/

/-- An output is enabled. -/
def Block.outputOn (b : Block) (t : Nat) : Bool := if t < 128 then b.on F.SDI_TX_CFG_EN t else b.on F.IPM_TX_CFG_EN (t - 128)

/-- The record of the frame that output `t` shows (R287, R333, R358), none while it has no source. -/
def Block.outRecord (b : Block) (t : Nat) : Option FrameRec :=
  let st := b.fld F.COX_TGT_VID_VID_SRC t
  if ¬b.outHasSource t then none
  else if b.ownStream st then
    let s := st % 512
    if 256 ≤ s ∧ s < 288 then b.headRecord (s - 256) 0 else (b.sourceHeld s).map Held.rcd
  else match b.ringOf (bowStream st) with
    | some i =>
      let r := b.rings.look i
      if r.rcd = [] then none else let x := recOf r.rcd; some { x with srcLos := x.srcLos || r.both }
    | none => none

/-- Tap `t` records (R498). -/
def Block.tapMasked (b : Block) (t : Nat) : Bool := b.bitAt F.WIT_TAP_MASK_MASK (t / 32) (t % 32)
def Block.tapOn (b : Block) (t : Nat) : Bool := b.on F.WIT_CFG_EN 0 && b.witState == 2 && b.tapMasked t && b.outputOn t

/-- The captured taps of `INC_SET` (R526). -/
def Block.incTaps (b : Block) : List Nat := ((List.range 8).filter fun k => b.on F.INC_TAPS_VALID k).map fun k => b.fld F.INC_TAPS_TAP k
def Block.captured (b : Block) (t : Nat) : Bool := b.incState != 0 && decide (t ∈ b.incTaps)

/-! ### Events (R499, R509) -/

/-- An event record. -/
def eventBytes (kind index frame line value value2 : Nat) : List Byte :=
  [4] ++ leBytes 1 kind ++ leBytes 2 index ++ leBytes 4 32 ++ leBytes 6 frame ++ leBytes 2 line ++ leBytes 4 value ++ leBytes 4 value2 ++ zeroBytes 8

/-- An event for tap `t`, kept until its frame is written: by line, then by kind. -/
def Block.tapEvent (b : Block) (t kind index frame line value value2 : Nat) : Block :=
  if b.tapOn t ∨ b.captured t then
    b.updTap t fun s =>
      let before := s.events.filter fun e => decide (e.1 < line) || (e.1 == line && decide (e.2.1 ≤ kind))
      let after := s.events.filter fun e => !(decide (e.1 < line) || (e.1 == line && decide (e.2.1 ≤ kind)))
      { s with events := before ++ [(line, kind, eventBytes kind index frame line value value2)] ++ after }
  else b

/-- The current frame and line of an output's timeline. -/
def Block.eventNow (b : Block) (t kind index value value2 : Nat) : Block :=
  b.tapEvent t kind index (b.tgtFrame t) (b.tlLine (b.tgtTl t)) value value2

/-- The taps of a checkpoint's events: its output's, or those whose video source is the layer's head (R499). -/
def Block.checkTaps (b : Block) (c : Nat) : List Nat :=
  if c < 256 then [c]
  else (List.range 256).filter fun t =>
    let st := b.fld F.COX_TGT_VID_VID_SRC t
    st != noStream && b.ownStream st && st % 512 == 256 + tgtHead c

/-! ### Drives (R515, R517) -/

/-- Bytes of a drive replaced, zeros unlisted. -/
def drivePut (d : Bank Byte) (a : Nat) (l : List Byte) : Bank Byte :=
  (d.filter fun e => decide (e.1 < a)) ++ ((l.zipIdx.filter fun x => x.1 != 0).map fun x => (a + x.2, x.1)) ++ (d.filter fun e => decide (a + l.length ≤ e.1))

/-- Bytes of a drive. -/
def driveGet (d : Bank Byte) (a n : Nat) : List Byte := (List.range n).map fun i => d.look (a + i)

/-- A range of a drive cleared. -/
def driveClear (d : Bank Byte) (a n : Nat) : Bank Byte := d.filter fun e => decide (e.1 < a) || decide (a + n ≤ e.1)

def slotBytes : Nat := 4194304
/-- What a read of the drive gives: what lies on the medium, under what lies in its cache (R518). -/
def DriveSt.view (d : DriveSt) : Bank Byte := d.soft.foldl (fun m e => m.put e.1 (e.2.getD 0)) d.data

/-- Bytes written to a drive: with FUA onto the medium, else into its cache (R518). -/
def DriveSt.write (d : DriveSt) (fua : Bool) (a : Nat) (l : List Byte) : DriveSt :=
  if fua then
    let keep (m : Bank (Option Byte)) : Bank (Option Byte) := m.filter fun e => decide (e.1 < a) || decide (a + l.length ≤ e.1)
    { d with data := drivePut d.data a l, soft := keep d.soft, flush := keep d.flush }
  else
    { d with soft := (d.soft.filter fun e => decide (e.1 < a)) ++ (l.zipIdx.map fun x => (a + x.2, some x.1)) ++ d.soft.filter fun e => decide (a + l.length ≤ e.1) }

/-- A Flush issued, and its end: what it covers and nothing has written since lies on the medium (R521). -/
def DriveSt.flushed (d : DriveSt) : DriveSt :=
  { d with data := d.flush.foldl (fun m e => m.put e.1 (e.2.getD 0)) d.data
           soft := d.soft.filter fun e => decide (d.flush.look e.1 ≠ e.2), flush := [] }

/-- Power is lost: of each block of 4,096 bytes in the cache the medium has it or not, as the bits of a free value say (R518, R523). -/
def DriveSt.powerLoss (d : DriveSt) (f : Nat) : DriveSt :=
  { d with data := d.soft.foldl (fun m e => if bitOf f (e.1 / 4096) then m.put e.1 (e.2.getD 0) else m) d.data, soft := [], flush := [] }

/-- The drive address of a drive slot. -/
def slotAddr (k : Nat) : Nat := 0x400000 + k * slotBytes

/-- Witness slots on one drive, and of the set (R517). -/
def DriveSet.perDrive (s : DriveSet) : Nat := s.slots - 10240 * s.extents
def DriveSet.ring (s : DriveSet) : Nat := if s.layout = 2 then 2 * s.perDrive else s.perDrive

/-- The drives that a write to a slot of the set goes to, with the drive slot; `inc` for a drive slot of an incident extent. -/
def Block.slotDrives (b : Block) (s : DriveSet) (inc : Bool) (slot : Nat) : List (Nat × Nat) :=
  let live (d : Nat) : Bool := b.driveState d == 2 || b.driveState d == 4
  let l := if s.layout = 2 then if inc then [(0, slot)] else [(slot % 2, slot / 2)] else [(0, slot), (1, slot)]
  l.filter fun x => live x.1

/-- Bytes written to drive `d` (R514, R518). -/
def Block.driveWrite (b : Block) (d : Nat) (fua : Bool) (a : Nat) (l : List Byte) : Block :=
  (b.updDrive d fun x => x.write fua a l).emit (.driveWrite d a fua l)

/-- Bytes written to a slot of the mounted set, headers with FUA and chunks without (R518). -/
def Block.slotWrite (b : Block) (inc fua : Bool) (slot off : Nat) (l : List Byte) : Block :=
  match b.wit.set with
  | some s => b.each (b.slotDrives s inc slot) fun b x => b.driveWrite x.1 fua (slotAddr x.2 + off) l
  | none => b

/-- Bytes written with FUA to the same address of every drive of the set (R516, R517, R521). -/
def Block.setWrite (b : Block) (a : Nat) (l : Nat → List Byte) : Block :=
  b.each [0, 1] fun b d => b.ite (b.driveState d == 2 || b.driveState d == 4) fun b => b.driveWrite d true a (l d)

/-- A bale whose writes are not all done lies in a slot (R520). -/
def Block.slotBusy (b : Block) (inc : Bool) (slot : Nat) : Bool :=
  b.wit.chains.any fun e => decide (256 ≤ e.1) == inc && e.2.bales.any fun x => x.slot == slot

/-! ### Headers (R504, R505, R510) -/

/-- A header with its `HCRC`. -/
def withHcrc (l : List Byte) : List Byte := let h := padTo 508 l; h ++ leBytes 4 (crc32c h)

/-- The open header of a bale. -/
def openHeader (tap capture seq ringSeq : Nat) (id : List Byte) : List Byte :=
  withHcrc ([0x54, 0x5A, 0x57, 0x42] ++ leBytes 2 1 ++ leBytes 2 256 ++ zeroBytes 16 ++ leBytes 2 tap ++ zeroBytes 2 ++ leBytes 4 capture ++ leBytes 8 seq
    ++ leBytes 8 ringSeq ++ zeroBytes 128 ++ id.take 8)

/-- Header bytes 0 to 183 of a sealed bale. -/
def sealHeader (b : Block) (tap : Nat) (c : Chain) (s : DriveSet) (x : Bale) (flags dropped keySlot : Nat) (prev hash : List Byte) : List Byte :=
  [0x54, 0x5A, 0x57, 0x42] ++ leBytes 2 1 ++ leBytes 2 flags ++ padTo 16 b.dev.devId ++ leBytes 2 tap ++ leBytes 1 b.dev.fabId ++ leBytes 1 (b.tgtTl tap)
    ++ leBytes 4 c.capture ++ leBytes 8 x.seq ++ leBytes 8 x.ringSeq ++ leBytes 6 ((x.first.map Prod.fst).getD 0) ++ leBytes 2 ((x.first.map Prod.snd).getD 0)
    ++ leBytes 6 x.last ++ [0, 0] ++ leBytes 4 x.body.length ++ leBytes 4 x.records ++ leBytes 4 dropped ++ leBytes 4 keySlot ++ padTo 48 prev
    ++ padTo 48 hash ++ s.id.take 8

/-- Body bytes as stored from byte `o` of the body: encrypted in counter mode for an encrypted set (R508). -/
def Block.storedBody (b : Block) (s : DriveSet) (x : Bale) (o : Nat) (l : List Byte) : List Byte :=
  if s.encrypted then
    let iv := s.id.take 4 ++ beBytes 8 x.ringSeq
    let key := b.aesKey 2
    let stream := ((List.range ((l.length + 15) / 16)).map fun i => aesBlock key (iv ++ beBytes 4 (o / 16 + i))).flatten
    xorBytes l stream
  else l

/-- Key record `k` for a public key (R515, R516, R621). -/
def Block.keyRecord (b : Block) (k : Nat) (pub : List Byte) : List Byte :=
  let cert := (Config.witnessCert pub b.keys.meas b.keys.keep.chain b.nowSec).take 3980
  let r := padTo 4092 ([0x54, 0x5A, 0x57, 0x4B] ++ leBytes 4 k ++ padTo 97 ([4] ++ pub) ++ zeroBytes 3 ++ leBytes 2 cert.length ++ cert)
  r ++ leBytes 4 (crc32c r)

/-- A key record stands for the signing key (R516). -/
def Block.witKey (b : Block) : Block :=
  match b.wit.set with
  | some s =>
    let pub := b.publicKey 1
    if ¬b.purposeOk 1 ∨ pub ∈ s.keyRecs ∨ 992 ≤ s.keyRecs.length then b
    else
      let k := s.keyRecs.length
      (b.setWrite (0x20000 + 4096 * k) fun _ => b.keyRecord k pub).updSet fun s => { s with keyRecs := s.keyRecs ++ [pub] }
  | none => b

/-! ### Chains and bales (R506 to R512) -/

/-- Space for records in a body. -/
def bodyMax : Nat := 4193792

/-- One record into the open bale of a chain. -/
def Bale.take (x : Bale) (r : WitRec) : Bale :=
  { x with body := x.body ++ r.bytes, records := x.records + 1,
           first := match x.first, r.frame with
             | none, some n => some (n, r.fmt)
             | f, _ => f
           last := r.frame.getD x.last }

/-- Waiting records moved into an open bale; a record that would pass its end ends it. -/
def baleFill : Bale → List WitRec → Bale × List WitRec
  | x, [] => (x, [])
  | x, r :: t =>
    if x.sealing.isSome then (x, r :: t)
    else if bodyMax < x.body.length + r.bytes.length then ({ x with sealing := some false }, r :: t)
    else baleFill (x.take r) t

/-- Records for chain `k`: into its open bale, else they wait for one to open. -/
def Block.chainAdd (b : Block) (k : Nat) (l : List WitRec) : Block :=
  b.updChain k fun c =>
    match c.bales.getLast? with
    | some x => let (x, rest) := baleFill x (c.wait ++ l); { c with bales := c.bales.dropLast ++ [x], wait := rest }
    | none => { c with wait := c.wait ++ l }

/-- The open bale of a chain is to be sealed. -/
def Block.chainSeal (b : Block) (k : Nat) (closed : Bool) : Block :=
  b.updChain k fun c =>
    match c.bales.getLast? with
    | some x => if x.sealing.isSome then c else { c with bales := c.bales.dropLast ++ [{ x with sealing := some closed }] }
    | none => c

/-- A bale of chain `k` is dropped whole (R511). -/
def Block.baleDropped (b : Block) (k : Nat) : Block :=
  let t := k % 256
  let b := ((b.bump F.WIT_BALE_DROP_CNT_COUNT 0 1).set F.WIT_HIST_BALE_DROP 0).bump F.WIT_TAP_DROP_CNT_COUNT t 1
  b.eventNow t 6 0 1 0

/-- BALE_OPEN: chain `k` takes the next slot, and its open header is written (R506, R510, R519, R530). Where the set cannot be written, or is
encrypted and the key is unavailable, the bale is dropped (R524, R624). While the slot whose turn it is has writes in flight, the records wait (R520). -/
def baleOpen (k : Nat) (b : Block) : Block :=
  let c := b.chain k; let inc := decide (256 ≤ k)
  let running : Bool := match c.bales.getLast? with
    | some x => x.sealing.isNone
    | none => false
  if c.wait = [] ∨ running then b
  else match b.wit.set with
    | none => (b.updChain k fun c => { c with wait := [], nextSeq := c.nextSeq + 1 }).baleDropped k
    | some s =>
      if ¬s.up ∨ (s.encrypted ∧ ¬b.purposeOk 2) then (b.updChain k fun c => { c with wait := [], nextSeq := c.nextSeq + 1 }).baleDropped k
      else
        let slot := if inc then s.perDrive + 10240 * b.wit.extent + b.wit.incSlot else s.headSlot
        if b.slotBusy inc slot then b
        else
        let b := if inc then b.updWit fun w => { w with incSlot := w.incSlot + 1 }
          else b.updSet fun s => { s with headSlot := (s.headSlot + 1) % max 1 s.ring }
        let b := (b.updSet fun s => { s with ringNext := s.ringNext + 1 }).slotWrite inc true slot 0 (openHeader (k % 256) c.capture c.nextSeq s.ringNext s.id)
        let x : Bale := ⟨c.nextSeq, s.ringNext, slot, c.resumed, b.time.now / nsUnit, [], 0, 0, none, 0, none⟩
        (b.updChain k fun c => { c with nextSeq := c.nextSeq + 1, bales := c.bales ++ [x], resumed := false }).chainAdd k []

/-- A chunk of a bale can be written: 64 KiB, or the rest of a bale that is being sealed. -/
def Bale.chunk (x : Bale) : Nat :=
  let left := x.body.length - x.done
  if 65536 ≤ left then 65536 else if x.sealing.isSome then left else 0

/-- CHUNK_WRITE_DONE: the next chunk of chain `k` lies on the drives (R510). -/
def chunkWriteDone (k : Nat) (b : Block) : Block :=
  match b.wit.set, (b.chain k).bales.find? fun x => x.chunk != 0 with
  | some s, some x =>
    let l := b.storedBody s x x.done ((x.body.drop x.done).take x.chunk)
    (b.slotWrite (decide (256 ≤ k)) false x.slot (512 + x.done) l).updChain k fun c =>
      { c with bales := c.bales.map fun y => if y.seq = x.seq then { y with done := y.done + l.length } else y }
  | _, _ => b

/-- BALE_SEAL: the first bale of chain `k`, all its chunks written, is sealed, signed if due, and its final header written (R504 to R508). -/
def baleSeal (k : Nat) (b : Block) : Block :=
  let c := b.chain k; let t := k % 256
  match b.wit.set, c.bales with
  | some s, x :: rest =>
    match x.sealing with
    | none => b
    | some closed =>
      if x.done ≠ x.body.length then b
      else
        let due := x.seq % 8 == 7 || closed
        let key := b.purposeOk 1
        let b := b.ite (due && key) fun b => b.witKey
        let keySlot := match b.wit.set with
          | some s => if key then s.keyRecs.idxOf (b.publicKey 1) else 0
          | none => 0
        let (lastSeq, prev) : Int × List Byte := match c.last with
          | some l => ((l.1 : Int), l.2.2)
          | none => (-1, zeroBytes 48)
        let dropped := ((x.seq : Int) - lastSeq - 1).toNat
        let flags := bit (due && key) + bit s.encrypted * 2 + bit (dropped != 0) * 4 + bit (x.seq == 0) * 8 + bit closed * 16 + bit (decide (256 ≤ k)) * 32
          + bit (due && !key) * 64 + bit x.resumed * 128
        let h := sealHeader b t c s x flags dropped keySlot prev (sha384 (b.storedBody s x 0 x.body))
        let hash := sha384 h
        let (sig, b) := if due && key then b.sign 1 hash else (zeroBytes 96, b)
        let gap := slotBytes - 512 - x.body.length
        let b := (b.slotWrite (decide (256 ≤ k)) false x.slot (512 + x.body.length) (zeroBytes gap)).slotWrite (decide (256 ≤ k)) true x.slot 0 (withHcrc (h ++ sig))
        let b := b.updChain k fun c => { c with bales := rest, last := some (x.seq, x.slot, hash) }
        let b := b.ite (decide (k < 256)) fun b => b.updSet fun s => { s with sealedCnt := s.sealedCnt + 1 }
        if due && !key then
          ((b.bump F.WIT_UNSIGNED_CNT_COUNT 0 1).set F.WIT_HIST_UNSIGNED 0).eventNow t 7 0 St.KEYS_UNAVAILABLE 0
        else b
  | _, _ => b

/-- SEAL_TIMEOUT: the open bale of chain `k` has been open for `SEAL_S` seconds (R512). -/
def sealTimeout (k : Nat) (b : Block) : Block := b.chainSeal k false

/-- STAGING_FULL_DROP: a chunk of chain `k` finds no room, and its last bale is dropped whole (R511). -/
def stagingFullDrop (k : Nat) (b : Block) : Block :=
  if (b.chain k).bales = [] then b else (b.updChain k fun c => { c with bales := c.bales.dropLast }).baleDropped k

/-! ### Frames (R494 to R497, R503, R509, R527) -/

/-- Length of a record with its header, and its padding to a multiple of 8. -/
def witRecord (typ : Nat) (b13 body : List Byte) : List Byte :=
  let n := (8 + body.length + 7) / 8 * 8
  [BitVec.ofNat 8 typ] ++ padTo 3 b13 ++ leBytes 4 n ++ padTo (n - 8) body

/-- A picture record. -/
def pictureRecord (p : PendPic) (full : Bool) (shifts : List Nat) : List Byte :=
  let (y, cb, cr) := codedPlanes p.fmt p.psf full p.pic shifts
  witRecord 2 (leBytes 1 (bit full)) (leBytes 6 p.frame ++ leBytes 2 (if full then fmtW p.fmt else proxyW p.fmt)
    ++ leBytes 2 (if full then fmtH p.fmt else proxyH p.fmt) ++ (List.range 10).map (fun i => BitVec.ofNat 8 (shifts.getD i 0)) ++ leBytes 4 y.length
    ++ leBytes 4 cb.length ++ leBytes 4 cr.length ++ y ++ cb ++ cr)

/-- The records of a frame, with or without its picture. -/
def frameRecs (p : PendPic) (pic : Option (List Byte)) : List WitRec :=
  let r := match pic, p.rcd with
    | some _, t :: f :: rest => t :: BitVec.ofNat 8 (withBit f.toNat 4) :: rest
    | _, l => l
  p.events ++ [⟨r, some p.frame, p.fmt⟩] ++ (match pic with
    | some l => [⟨l, none, 0⟩]
    | none => []) ++ [⟨p.audio, none, 0⟩]

def recsSize (l : List WitRec) : Nat := (l.map fun r => r.bytes.length).sum

/-- A coded frame for the incident buffer: into the capture under way, or into the ring, whose oldest frames make room (R527, R529). -/
def Block.incFrame (b : Block) (f : IncFrame) : Block :=
  let held := (b.incTaps.map fun t => recsSize (b.chain (256 + t)).wait).sum
  let size := recsSize f.recs
  if b.incState = 2 ∧ f.frame ≤ b.wit.postEnd then
    if 10 * gib < held + size then (b.bump F.INC_DROP_CNT_COUNT 0 1).set F.WIT_HIST_INC_DROP 0 else b.chainAdd (256 + f.tap) f.recs
  else
    let fit (l : List IncFrame) : Bool := decide (held + size + (l.map fun g => recsSize g.recs).sum ≤ 10 * gib)
    let kept := (List.range (b.wit.ring.length + 1)).find? fun n => fit (b.wit.ring.drop n)
    match kept with
    | some n => b.updWit fun w => { w with ring := w.ring.drop n ++ [f] }
    | none => (b.bump F.INC_DROP_CNT_COUNT 0 1).set F.WIT_HIST_INC_DROP 0

/-- One coder's share of the frame under way on tap `t`: its picture record, or none for a picture dropped (R503). -/
def Block.picTo (b : Block) (t : Nat) (full : Bool) (pic : Option (List Byte)) : Block :=
  match (b.tap t).pend with
  | none => b
  | some p =>
    if ¬(if full then p.fullDue else p.proxyDue) then b
    else
      let b := b.ite pic.isNone fun b => (b.bump F.WIT_PIC_DROP_CNT_COUNT 0 1).set F.WIT_HIST_PIC_DROP 0
      let recs := frameRecs p pic
      let b := if full then b.incFrame ⟨t, p.frame, recs⟩ else b.chainAdd t recs
      let p := if full then { p with fullDue := false } else { p with proxyDue := false }
      b.updTap t fun s => { s with pend := if p.fullDue || p.proxyDue then some p else none }

/-- Bytes of a coded incident picture at most (R526, R527). -/
def incCap (fmt : Nat) : Nat := 1036800 * (if fmt2160 fmt then 4 else 1)

/-- PICTURE_CODED: the proxy or incident picture of tap `t` is coded with the shifts that the encoder chose, comes too late, or was read
poisoned (R503, R690). -/
def pictureCoded (t : Nat) (full : Bool) (shifts : List Nat) (late : Bool) (b : Block) : Block :=
  match (b.tap t).pend with
  | some p =>
    let r := pictureRecord p full shifts
    b.picTo t full (if late || p.bad || (full && decide (incCap p.fmt + 40 < r.length)) then none else some r)
  | none => b

/-- Frame `n` of output `t` takes a proxy (R496). -/
def Block.proxyDue (b : Block) (t n : Nat) : Bool :=
  let f := b.tgtFormat t; let r := fmtRate f; let d := 2 ^ b.fld F.WIT_CFG_PROXY_DIV 0
  !b.tgtKind1 t && n % (d * (if 30 * rateDen r < rateNum r then 2 else 1)) == 0

/-- The 8-bit code of a sample of 14 bits under the mu-law of G.711 (R497). -/
def muLaw (v : Int) : Nat :=
  let m := min v.natAbs 8158 + 33
  let e := (List.range 8).foldl (fun a i => if 64 * 2 ^ i ≤ m then i + 1 else a) 0
  255 - (bit (decide (v < 0)) * 128 + e * 16 + m / 2 ^ (e + 1) % 16)

/-- Filtered samples of 14 bits at 16 kHz, two for each pair: R497 asks for a low-pass filter and names none, so they are free values. -/
def Block.filtered (b : Block) : Nat → List Byte × Block
  | 0 => ([], b)
  | n + 1 =>
    let (v, b) := b.fresh
    let (l, b) := Block.filtered b n
    (BitVec.ofNat 8 (muLaw (signedOf 14 v)) :: l, b)

/-- The audio record of a frame: the pairs complete so far, filtered and coded (R497). -/
def Block.audioRecord (b : Block) (t n : Nat) : List Byte × Block :=
  let s := b.tap t
  let k := s.pcm.length / 3
  let (d, b) := b.filtered (2 * k)
  (witRecord 3 [] (leBytes 6 n ++ leBytes 2 k ++ leBytes 8 s.pcmFrom ++ d), b.updTap t fun s => { s with pcm := s.pcm.drop (3 * k), pcmFrom := s.pcmFrom + 3 * k })

/-- AUDIO_SAMPLE, and what the taps that record keep of it (R497). -/
def audioSampleWit (n : Nat) (ins : List AudioIn) (b : Block) : Block :=
  let b := audioSample n ins b
  b.each ((List.range 256).filter fun t => b.tapOn t || b.captured t) fun b t => b.updTap t fun s =>
    if s.pcm = [] ∧ n % 3 ≠ 0 then s
    else { s with pcm := s.pcm ++ [(b.aud.outs.look (5888 + 2 * t), b.aud.outs.look (5889 + 2 * t))], pcmFrom := if s.pcm = [] then n else s.pcmFrom }

/-- Everything of the witness has stopped: a checkpoint follows, then OFF (R513). -/
def Block.witIdle (b : Block) : Bool := (List.range 256).all fun t => (b.chain t).bales.isEmpty && (b.chain t).wait.isEmpty

/-- The active picture that output `t` has sent, in the order of R277, rows that it did not send black; of a kind 1 output its codestream unit (R494). -/
def Block.sentPic (b : Block) (t : Nat) : List Byte :=
  let o := b.outFrames.look t; let c := b.tgtFormat t
  if b.tgtKind1 t then o.rows.look 0
  else ((rowOrder c false).map fun y => match o.rows.look y with
    | [] => blackBytes (4 * fmtW c)
    | r => r).flatten

/-- TAP_FRAME: output `t` has sent frame `n` (R494, R498, R509, R513). -/
def tapFrame (t n : Nat) (b : Block) : Block :=
  let pic := b.sentPic t; let subst := (b.outFrames.look t).subst; let bad := (b.outFrames.look t).bad
  -- a picture not coded by now is dropped (R503)
  let b := (b.picTo t false none).picTo t true none
  let sig := crc64 pic
  let b := b.updTap t fun s => { s with sigs := (s.sigs ++ [(n, sig)]).drop ((s.sigs.length + 1) - 4) }
  -- INC_SET with EN = 0 takes effect at a frame boundary (R529)
  let b := b.ite (b.wit.closing && b.incState == 1) fun b =>
    ((b.setFld F.INC_STATUS_STATE 0 0).clr F.INC_CFG_EN 0).updWit fun w => { w with ring := [], closing := false }
  let rec_ := b.tapOn t; let inc := b.captured t
  let b := b.ite (!rec_) fun b => b.chainSeal t true
  if ¬rec_ ∧ ¬inc then b.updTap t fun s => { s with events := [], pcm := [], lastFseq := none }
  else
    let r := b.outRecord t
    let kind1 := b.tgtKind1 t; let fmt := if kind1 then 0 else b.tgtFormat t
    let rep := match r, (b.tap t).lastFseq with
      | some r, some q => r.fseq == q
      | _, _ => false
    let o := (r.map fun r => r.origin).getD 0
    let flags := bit (b.on F.FRESH_STATUS_STALE t) + bit r.isNone * 2 + bit subst * 4 + bit rep * 8 + bit ((r.map fun r => r.untrusted).getD false) * 32
    let rcd := [1] ++ leBytes 1 flags ++ leBytes 1 (b.fld F.FRESH_STATUS_REASON t) ++ leBytes 1 ((r.map fun r => r.okind).getD 0) ++ leBytes 4 40
      ++ leBytes 6 n ++ leBytes 2 (b.fld F.COX_TGT_VID_VID_SRC t) ++ leBytes 6 (o / 1000000000) ++ [0, 0] ++ leBytes 4 (o % 1000000000)
      ++ leBytes 4 (b.fld F.FRESH_AGE_AGE t) ++ leBytes 8 sig
    let (audio, b) := b.audioRecord t n
    let events := (b.tap t).events.map fun e => (⟨e.2.2, none, 0⟩ : WitRec)
    let p : PendPic := ⟨n, fmt, pic, false, events, rcd, audio, rec_ && b.proxyDue t n, inc && !kind1, bad⟩
    let b := b.updTap t fun s => { s with events := [], lastFseq := r.map fun r => r.fseq, pend := if p.proxyDue || p.fullDue then some p else none }
    b.ite (rec_ && !p.proxyDue) fun b => b.chainAdd t (frameRecs p none)

/-! ### The drive set (R515, R521 to R524) -/

/-- A drive header of member `d` (R515). -/
def Block.driveHeader (b : Block) (s : DriveSet) (d : Nat) : List Byte :=
  let taps := ((List.range 256).map fun t => match (b.chain t).last with
    | some l => leBytes 8 l.1 ++ leBytes 8 l.2.1 ++ padTo 48 l.2.2
    | none => zeroBytes 64).flatten
  let h := padTo 65532 ([0x54, 0x5A, 0x57, 0x44] ++ leBytes 2 1 ++ leBytes 2 (s.layout + bit s.encrypted * 4) ++ padTo 16 s.id ++ leBytes 1 d ++ zeroBytes 7
    ++ padTo 16 s.devId ++ leBytes 8 s.slots ++ leBytes 4 s.extents ++ leBytes 4 s.keyRecs.length ++ leBytes 8 s.ckptSeq ++ leBytes 8 s.ringNext
    ++ leBytes 8 s.headSlot ++ leBytes 8 s.nextCapture ++ zeroBytes 32 ++ taps)
  h ++ leBytes 4 (crc32c h)

/-- Copy A or B of a header holds: the magic and the `DCRC`. -/
def headerAt (d : DriveSt) (copy : Nat) : Option (List Byte) :=
  let h := driveGet d.view (65536 * copy) 65536
  if h.take 4 = [0x54, 0x5A, 0x57, 0x44] ∧ le h 65532 4 = crc32c (h.take 65532) then some h else none

/-- The header of a drive: the copy that holds with the larger `CKPT_SEQ` (R522). -/
def driveHead (d : DriveSt) : Option (List Byte) :=
  match headerAt d 0, headerAt d 1 with
  | some a, some c => if le a 64 8 < le c 64 8 then some c else some a
  | some a, none => some a
  | none, c => c

/-- WIT_CHECKPOINT: after 4,096 bales, 128 s, or at a stop, a Flush is issued (R521). -/
def witCheckpoint (b : Block) : Block :=
  match b.wit.set with
  | some s =>
    if s.up then
      (b.updSet fun s => { s with flushing := true }).each ([0, 1].filter fun d => b.driveState d == 2 || b.driveState d == 4) fun b d =>
        (b.updDrive d fun x => { x with flush := x.soft }).emit (.driveFlush d)
    else b
  | none => b

/-- FLUSH_DONE: the Flush has completed, and the checkpoint is written into the copy that `CKPT_SEQ` selects (R513, R521). -/
def flushDone (b : Block) : Block :=
  match b.wit.set with
  | some s =>
    if ¬s.flushing then b
    else
      let b := b.each [0, 1] fun b d => b.updDrive d DriveSt.flushed
      let s' := { s with ckptSeq := s.ckptSeq + 1, sealedCnt := 0, flushing := false }
      let b := (b.updSet fun _ => s').setWrite (65536 * (s'.ckptSeq % 2)) fun d => b.driveHeader s' d
      b.ite (b.witState == 3 && b.witIdle) fun b => b.setFld F.WIT_STATUS_STATE 0 0
  | none => b

/-- What the scan of the ring has found: consecutive misses, the slots of the current lap, the slot past it, the next `RING_SEQ`, and per tap the last sealed
bale, the next `BALE_SEQ` and torn slots. -/
structure Scan where
  misses : Nat
  lap : List Nat
  head : Nat
  ringNext : Nat
  last : Bank (Option (Nat × Nat × List Byte))
  next : Bank Nat
  torn : Bank Nat

/-- The header of a set slot that counts toward the current lap: on either drive under mirror, a sealed one before an open one (R522). -/
def Block.lapHeader (b : Block) (s : DriveSet) (slot : Nat) : Option (List Byte) :=
  let l := (b.slotDrives s false slot).map fun x => driveGet (b.drive x.1).view (slotAddr x.2) 512
  let ok := l.filter fun h => h.take 4 == [0x54, 0x5A, 0x57, 0x42] && le h 508 4 == crc32c (h.take 508) && bytesAt h 176 8 == s.id.take 8
    && decide (s.ringNext ≤ le h 40 8)
  (ok.find? fun h => !bitOf (le h 6 2) 8) <|> ok.head?

/-- One slot of the scan (R522, R523). -/
def scanSlot (x : Scan) (slot ring : Nat) (h : Option (List Byte)) : Scan :=
  match h with
  | none => { x with misses := x.misses + 1 }
  | some h =>
    let t := le h 24 2 % 256; let seq := le h 32 8; let open_ := bitOf (le h 6 2) 8
    let x := { x with misses := 0, lap := x.lap ++ [slot], head := (slot + 1) % max 1 ring, ringNext := max x.ringNext (le h 40 8 + 1), next := x.next.put t (max (x.next.look t) (seq + 1)) }
    if open_ then { x with torn := x.torn.put t (x.torn.look t + 1) }
    else
      let newer := match x.last.look t with
        | some l => decide (l.1 ≤ seq)
        | none => true
      if newer then { x with last := x.last.put t (some (seq, slot, sha384 (h.take 184))) } else x

/-- The scan from a slot on, until 1,024 slots in a row fail; `fuel` bounds it by one lap. -/
def Block.scanRing (b : Block) (s : DriveSet) : Nat → Nat → Scan → Scan
  | 0, _, x => x
  | n + 1, slot, x => if 1024 ≤ x.misses then x else b.scanRing s n ((slot + 1) % max 1 s.ring) (scanSlot x slot s.ring (b.lapHeader s slot))

/-- A drive holds slot `k` of the set sealed (R509). -/
def sealedOn (s : DriveSet) (d : DriveSt) (k : Nat) : Bool :=
  let h := driveGet d.view (slotAddr k) 512
  h.take 4 == [0x54, 0x5A, 0x57, 0x42] && le h 508 4 == crc32c (h.take 508) && bytesAt h 176 8 == s.id.take 8 && !bitOf (le h 6 2) 8

/-- Under mirror a slot of the lap that one drive alone holds sealed is copied to the other (R522). -/
def Block.mirrorCopy (b : Block) (s : DriveSet) (lap : List Nat) : Block :=
  b.each lap fun b k =>
    let a := sealedOn s (b.drive 0) k; let c := sealedOn s (b.drive 1) k
    if a && !c then b.driveWrite 1 true (slotAddr k) (driveGet (b.drive 0).view (slotAddr k) slotBytes)
    else if c && !a then b.driveWrite 0 true (slotAddr k) (driveGet (b.drive 1).view (slotAddr k) slotBytes)
    else b

/-- What the NVMe ports show: drive, slots, and whether it has a 4,096-byte format (R514). -/
def Block.seeDrives (b : Block) (found : List (Nat × Nat × Bool)) : Block :=
  b.each [0, 1] fun b d =>
    match found.find? fun f => f.1 == d with
    | some f =>
      let b := (b.ite (b.driveState d == 0 || b.driveState d == 3) fun b => b.setFld F.WIT_DRV_STATUS_STATE d 1).setTo F.WIT_DRV_STATUS_LBA4K d f.2.2
      ((b.updDrive d fun x => { x with slots := f.2.1 }).setFld F.WIT_DRV_SLOTS_LO_SLOTS d f.2.1).setFld F.WIT_DRV_SLOTS_HI_SLOTS d (f.2.1 / 2 ^ 32)
    | none => b.setFld F.WIT_DRV_STATUS_STATE d 0

/-- The key records of a drive, up to the header's count. -/
def keyRecsOf (d : DriveSt) (n : Nat) : List (List Byte) := (List.range (min n 992)).map fun k => driveGet d.view (0x20000 + 4096 * k + 9) 96

/-- MOUNT_DONE: the mount ends: headers, scan, chains (R522, R523). -/
def mountDone (b : Block) : Block :=
  if b.witState ≠ 1 then b
  else
    let heads := ([0, 1].filter fun d => b.driveState d == 1 || b.driveState d == 2).filterMap fun d => (driveHead (b.drive d)).map fun h => (d, h)
    match heads.head? with
    | none => b.setFld F.WIT_STATUS_STATE 0 0
    | some (d0, h0) =>
      let mine := heads.filter fun x => bytesAt x.2 8 16 == bytesAt h0 8 16
      let h := (mine.foldl (fun a x => if le a 64 8 < le x.2 64 8 then x.2 else a) h0)
      let layout := le h 6 2 % 4
      if layout = 2 ∧ mine.length < 2 then b.setFld F.WIT_STATUS_STATE 0 0
      else
        let s : DriveSet := ⟨layout, bitOf (le h 6 2) 2, bytesAt h 8 16, le h 48 8, le h 56 4, keyRecsOf (b.drive d0) (le h 60 4), le h 64 8, le h 72 8,
          le h 80 8, le h 88 8, 0, false, true, bytesAt h 32 16⟩
        let b := b.each mine fun b x => b.setFld F.WIT_DRV_STATUS_STATE x.1 2
        let last0 : Bank (Option (Nat × Nat × List Byte)) := (List.range 256).filterMap fun t =>
          let o := 128 + 64 * t
          if bytesAt h (o + 16) 48 = zeroBytes 48 then none else some (t, some (le h o 8, le h (o + 8) 8, bytesAt h (o + 16) 48))
        let x := b.scanRing s (s.ring + 1024) s.headSlot ⟨0, [], s.headSlot, s.ringNext, last0, last0.map fun e => (e.1, (e.2.map fun l => l.1 + 1).getD 0), []⟩
        let b := (b.updWit fun w => { w with set := some { s with headSlot := x.head, ringNext := x.ringNext } }).updWit fun w =>
          { w with chains := (List.range 256).filterMap fun t =>
              match x.last.look t, x.next.look t with
              | none, 0 => none
              | l, n => some (t, ⟨0, n, l, [], [], true⟩) }
        let b := b.ite (layout == 1 && mine.length == 2) fun b => b.mirrorCopy s x.lap
        let b := b.each x.torn fun b e => b.bump F.WIT_TAP_DROP_CNT_COUNT e.1 e.2
        let b := ((b.set F.WIT_STATUS_MOUNTED 0).setFld F.WIT_STATUS_LAYOUT 0 layout).setTo F.WIT_STATUS_ENCRYPTED 0 s.encrypted
        let b := (b.setTo F.WIT_STATUS_DEGRADED 0 (layout == 1 && decide (mine.length < 2))).set F.WIT_HIST_MOUNTED 0
        let b := b.setFld F.WIT_STATUS_STATE 0 (if b.on F.WIT_CFG_EN 0 then 2 else 0)
        let b := b.each x.torn fun b e => b.eventNow e.1 6 0 e.2 0
        b.each (List.range 256) fun b t => b.eventNow t 8 0 b.dev.bootEpoch 0

/-- The firmware begins to mount the drive set at a start, from the drives that the NVMe ports have shown (R522). -/
def Block.mountStart (b : Block) : Block :=
  b.ite (b.encoders != 0) fun b =>
    (b.seeDrives ((b.wit.drives.filter fun e => e.2.slots != 0).map fun e => (e.1, e.2.slots, true))).setFld F.WIT_STATUS_STATE 0 1

/-- DRIVE_FAILED: drive `d` reports fatal status, or a command has had no completion for 2 s (R524, R685). -/
def driveFailed (d : Nat) (b : Block) : Block :=
  if b.driveState d = 0 ∨ b.driveState d = 3 then b
  else
    let used := b.driveState d = 2; let rebuilt := b.driveState d == 4
    let b := ((b.setFld F.WIT_DRV_STATUS_STATE d 3).set F.WIT_HIST_DRIVE_LOST 0).bump F.WIT_DRV_ERR_CNT_COUNT d 1
    let b := b.fault 0x0F 0x07 d true false
    let b := b.ite rebuilt fun b => b.clr F.WIT_STATUS_REBUILDING 0
    match b.wit.set with
    | some s =>
      if ¬used then b
      else if s.layout = 1 ∧ b.driveState (1 - d) = 2 then b.set F.WIT_STATUS_DEGRADED 0
      else b.updSet fun s => { s with up := false }
    | none => b

/-- REBUILD_DONE: every sealed slot and key record has been copied to the replacement (R524). -/
def rebuildDone (b : Block) : Block :=
  match b.wit.set, [0, 1].find? fun d => b.driveState d == 4 with
  | some s, some d =>
    let other := (b.drive (1 - d)).view
    let b := b.updDrive d fun x => { x with data := (other.filter fun e => decide (0x20000 ≤ e.1)), soft := [], flush := [] }
    let b := (b.setFld F.WIT_DRV_STATUS_STATE d 2)
    let b := b.driveWrite d true (65536 * (s.ckptSeq % 2)) (b.driveHeader s d)
    ((b.clr F.WIT_STATUS_DEGRADED 0).clr F.WIT_STATUS_REBUILDING 0).set F.WIT_HIST_MOUNTED 0
  | _, _ => b

/-- SMART_POLL: the health log of drive `d` (R525). -/
def smartPoll (d crit used spare temp duw mediaErr : Nat) (b : Block) : Block :=
  if b.driveState d = 0 ∨ b.driveState d = 3 then b
  else
    let b := b.updDrive d fun x => { x with crit := crit, used := used, spare := spare, temp := temp, duw := duw, mediaErr := mediaErr }
    let b := (b.setFld F.WIT_DRV_STATUS_USED d (min used 255)).setFld F.WIT_DRV_STATUS_SPARE d (min spare 255)
    (b.setTo F.WIT_DRV_STATUS_CRIT d (crit != 0)).ite (crit != 0 || decide (b.fld F.WIT_DRV_WEAR_WEAR_WARN d ≤ used)) fun b => b.set F.WIT_HIST_WEAR_WARN 0

/-! ### Triggers (R528 to R530) -/

/-- Frames of the incident timeline in some seconds. -/
def Block.incFrames (b : Block) (s : Nat) : Nat := s * b.tlNum b.wit.tl / b.tlDen b.wit.tl

/-- An event of kind 5 for every captured tap. -/
def Block.incEvent (b : Block) (src frame : Nat) : Block :=
  b.each b.incTaps fun b t =>
    b.tapEvent t 5 src frame (b.tlLine b.wit.tl) (b.fld F.INC_CAPTURE_CAPTURE 0) (b.fld F.INC_PRE_FRAMES_FRAMES 0)

/-- A trigger that cannot be taken. -/
def Block.incMissed (b : Block) : Nat × Block := (2, (b.bump F.INC_MISSED_CNT_COUNT 0 1).set F.WIT_HIST_TRIG_MISSED 0)

/-- A trigger in frame `n`: 0 opened, 1 extended, 2 missed (R529, R530). Of two in one frame the lower source is recorded. -/
def Block.trigger (b : Block) (src n : Nat) : Nat × Block :=
  let w := b.wit
  let again := match w.trig with
    | some (f, s) => f == n && decide (s ≤ src)
    | none => false
  let taken (b : Block) : Block :=
    let b := b.bump F.INC_TRIG_CNT_COUNT 0 1
    if again then b
    else
      -- an event of a higher source in the same frame gives way
      let b := match w.trig with
        | some (f, _) => if f = n then b.each b.incTaps fun b t => b.updTap t fun s => { s with events := s.events.filter fun e => e.2.1 != 5 } else b
        | none => b
      (b.updWit fun w => { w with trig := some (n, src) }).incEvent src n
  let post := b.incFrames (b.fld F.INC_CFG_POST_S 0)
  match b.incState with
  | 1 =>
    match w.set with
    | none => b.incMissed
    | some s =>
      if s.extents = 0 then b.incMissed
      else
        let want := b.incFrames (b.fld F.INC_CFG_PRE_S 0)
        let frames := (w.ring.filter fun f => decide (f.frame < n)).map IncFrame.frame
        let have_ := frames.dedup.length
        let pre := min want have_
        let b := (b.setFld F.INC_CAPTURE_CAPTURE 0 s.nextCapture).setFld F.INC_PRE_FRAMES_FRAMES 0 pre
        let b := b.ite (decide (pre < want)) fun b => b.set F.WIT_HIST_SHORT_PRE 0
        let b := (b.updSet fun s => { s with nextCapture := s.nextCapture + 1 }).updWit fun w =>
          { w with t0 := n, postEnd := n + post, incSlot := 0, extent := s.nextCapture % s.extents, ring := [] }
        let b := b.each b.incTaps fun b t =>
          (b.updChain (256 + t) fun _ => { (default : Chain) with capture := s.nextCapture }).chainAdd (256 + t)
            (((w.ring.filter fun f => f.tap == t && decide (n ≤ f.frame + pre)).map IncFrame.recs).flatten)
        (0, taken ((b.setFld F.INC_STATUS_STATE 0 2).set F.WIT_HIST_INC_TRIGGERED 0))
  | 2 => (1, taken (b.updWit fun w => { w with postEnd := min (max w.postEnd (n + post)) (w.t0 + b.incFrames 60) }))
  | 3 =>
    if n < w.t0 + b.incFrames 60 then
      (1, taken ((b.updWit fun w => { w with postEnd := min (n + post) (w.t0 + b.incFrames 60) }).setFld F.INC_STATUS_STATE 0 2))
    else b.incMissed
  | _ => (2, b)

/-- TRIG_IN_EDGE: a debounced edge, rising or falling (R528). -/
def trigInEdge (rising : Bool) (b : Block) : Block :=
  if b.on F.INC_CFG_TRIG_EN 0 ∧ b.on F.INC_CFG_TRIG_POL 0 = rising then (b.trigger 0 (b.tlFrame b.wit.tl)).2 else b

/-- POST_END: no further frames join the capture (R529). -/
def postEnd (b : Block) : Block :=
  if b.incState = 2 then (b.setFld F.INC_STATUS_STATE 0 3).each b.incTaps fun b t => b.chainSeal (256 + t) true else b

/-- INC_COPY_DONE: the last frame of the capture is copied and the final headers written (R529). -/
def incCopyDone (b : Block) : Block :=
  if b.incState = 3 ∧ (b.incTaps.all fun t => (b.chain (256 + t)).bales.isEmpty && (b.chain (256 + t)).wait.isEmpty) then
    (b.setFld F.INC_STATUS_STATE 0 1).set F.WIT_HIST_INC_DONE 0
  else b

/-! ### Commands (R532) -/

/-- The block is absent, or its power is off (R493, R532, R655). -/
def Block.witAbsent (b : Block) : Bool := b.encoders == 0
def Block.witOff (b : Block) : Bool := (List.range 6).any fun i => !b.domOn (73 + i)

/-- The frame of a witness command. -/
def Block.witCommand (b : Block) (ch code : Nat) (lenOk bad : Bool) (conds : List (Bool × Nat)) (eff : Block → Block) : Block :=
  b.command ch code (decide (ch ≤ 32)) lenOk [(bad, St.BAD_ARG), (b.witAbsent, St.UNIT_ABSENT), (b.selftest 0x0F, St.BUSY_SELFTEST)]
    ((b.witOff, St.NOT_READY) :: conds) eff

/-- WIT_FORMAT, 0x0801, with what the NVMe ports show (R514, R515). -/
def witFormat (ch : Nat) (p : List Byte) (found : List (Nat × Nat × Bool)) (b : Block) : Block :=
  let ds := onesAt 2 (le p 0 1); let layout := le p 1 1; let fl := le p 2 1; let ext := le p 3 1
  let join := bitOf fl 1
  let b' := b.seeDrives found
  let slots := ((ds.map fun d => (b'.drive d).slots).min?).getD 0
  b.witCommand ch 0x0801 (p.length == 12)
    (!(decide (1 ≤ le p 0 1) && decide (le p 0 1 ≤ 3) && decide (layout ≤ 2) && (join || ds.length == (if layout = 0 then 1 else 2)) && decide (fl ≤ 3)
        && decide (ext ≤ 64) && le p 4 4 == 0x5A5A && zeros p 8 4))
    [(b.witState != 0 || b.incState == 2 || b.incState == 3 || ds.any (fun d => b'.driveState d != 1 && b'.driveState d != 2), St.NOT_READY),
     (ds.any fun d => !b'.on F.WIT_DRV_STATUS_LBA4K d, St.INCOMPATIBLE),
     (!join && decide (slots ≤ 10240 * ext), St.BAD_ARG),
     (join && (ds.length != 1 || !(match b.wit.set with
        | some s => s.layout == 1 && decide (s.slots ≤ slots)
        | none => false)), St.NOT_READY)]
    fun b =>
      let b := b.seeDrives found
      if join then
        match b.wit.set with
        | some s => (b.each ds fun b d =>
            (b.setFld F.WIT_DRV_STATUS_STATE d 1).updDrive d fun x => { x with data := drivePut [] (65536 * (s.ckptSeq % 2)) (b.driveHeader s d), soft := [], flush := [] }).ok ch []
        | none => b.no ch St.NOT_READY
      else
        let (id, b) := b.randomBytes 16
        let s : DriveSet := ⟨layout, bitOf fl 0, id, slots, ext, [], 0, 0, 0, 0, 0, false, true, padTo 16 b.dev.devId⟩
        let b := b.updWit fun w => { w with set := none, chains := [] }
        let b := (((b.clr F.WIT_STATUS_MOUNTED 0).clr F.WIT_STATUS_DEGRADED 0).setFld F.WIT_STATUS_LAYOUT 0 0).clr F.WIT_STATUS_ENCRYPTED 0
        (b.each ds fun b d => (b.setFld F.WIT_DRV_STATUS_STATE d 1).updDrive d fun x =>
          { x with data := drivePut (drivePut (driveClear x.view 0 0x400000) 0 (b.driveHeader s d)) 65536 (b.driveHeader { s with ckptSeq := 1 } d)
                   soft := [], flush := [] }).ok ch []

/-- The effect of `EN` of `WIT_CFG` (R498, R513). -/
def Block.witEn (b : Block) (was en : Bool) : Block :=
  if en && !was then b.ite (b.on F.WIT_STATUS_MOUNTED 0) fun b => b.setFld F.WIT_STATUS_STATE 0 2
  else if was && !en && b.witState == 2 then b.setFld F.WIT_STATUS_STATE 0 3
  else b

/-- A write of `WIT_CFG`: `EN` needs a mounted set, and the rest is held while it is on. -/
def Block.witCfgWrite (b : Block) (v : Nat) : Block :=
  let was := b.on F.WIT_CFG_EN 0
  if (bitOf v 0 ∧ ¬b.on F.WIT_STATUS_MOUNTED 0) ∨ (was ∧ ¬b.unchanged [F.WIT_CFG_SEAL_S, F.WIT_CFG_RATE_KBPS] 0 v) then b.reject 0x0F F.WIT_HIST_CFG_REJECTED 0
  else (b.storeWord W.WIT_CFG 0 v).witEn was (bitOf v 0)

/-- WIT_SET, 0x0802 (R498, R513). -/
def witSet (ch : Nat) (p : List Byte) (b : Block) : Block :=
  let en := le p 0 1 == 1; let was := b.on F.WIT_CFG_EN 0
  b.witCommand ch 0x0802 (p.length == 36)
    (!(decide (le p 0 1 ≤ 1) && decide (8 ≤ le p 1 1) && decide (1000 ≤ le p 2 2) && decide (le p 2 2 ≤ 8000)
        && (List.range 128).all fun k => !(bitOf (le p 4 32) k && b.quadOutput k)))
    [(en && !b.on F.WIT_STATUS_MOUNTED 0, St.NOT_READY),
     (was && (le p 1 1 != b.fld F.WIT_CFG_SEAL_S 0 || le p 2 2 != b.fld F.WIT_CFG_RATE_KBPS 0), St.NOT_READY)]
    fun b =>
      let b := b.each (List.range 8) fun b i => b.setFld F.WIT_TAP_MASK_MASK i (le p (4 + 4 * i) 4)
      let b := ((b.setFld F.WIT_CFG_SEAL_S 0 (le p 1 1)).setFld F.WIT_CFG_RATE_KBPS 0 (le p 2 2)).setTo F.WIT_CFG_EN 0 en
      (b.witEn was en).ok ch []

/-- WIT_GET_STATUS, 0x0803. -/
def witGetStatus (ch : Nat) (p : List Byte) (b : Block) : Block :=
  b.witCommand ch 0x0803 (p.length == 4) (!(decide (le p 0 1 ≤ 1) && zeros p 1 3)) []
    fun b =>
      let cnts := [F.WIT_BALE_DROP_CNT_COUNT, F.WIT_PIC_DROP_CNT_COUNT, F.WIT_UNSIGNED_CNT_COUNT]
      let (head, seq, w) := match b.wit.set with
        | some s => (s.headSlot, s.ringNext, s.ring)
        | none => (0, 0, 0)
      let d := b.word4 W.WIT_STATUS 0 ++ b.word4 W.WIT_HIST 0 ++ leBytes 8 head ++ leBytes 8 seq ++ leBytes 8 w
        ++ (cnts.map fun f => leBytes 4 (b.fld f 0)).flatten ++ leBytes 4 (b.driveState 0 + b.driveState 1 * 256)
      let b := b.takeCounts cnts 0
      (b.ite (le p 0 1 == 1) fun b => b.clearHist W.WIT_HIST 0 histAll).ok ch d

/-- WIT_DRIVE_INFO, 0x0804 (R525). -/
def witDriveInfo (ch : Nat) (p : List Byte) (b : Block) : Block :=
  let d := le p 0 1
  b.witCommand ch 0x0804 (p.length == 4) (!(decide (d ≤ 1) && zeros p 1 3)) [(b.driveState d == 0, St.NOT_READY)]
    fun b =>
      let x := b.drive d
      b.ok ch (leBytes 1 x.crit ++ leBytes 1 x.used ++ leBytes 1 x.spare ++ [0] ++ leBytes 2 x.temp ++ [0, 0] ++ leBytes 16 x.duw ++ leBytes 16 x.mediaErr)

/-- WIT_READ, 0x0805: slots copied into the free part of the yard (R295). -/
def witRead (ch : Nat) (p : List Byte) (b : Block) : Block :=
  let d := le p 0 1; let n := if le p 2 2 = 1 then 1 else le p 1 1; let slot := le p 4 8; let a := le p 12 8 - 0x8000000000
  let free := b.regions.sum * gib
  let src : Option (Nat × Nat) := if le p 2 2 = 1 then some (if d = 0xFF then 0 else d, 0)
    else if d ≠ 0xFF then some (d, slotAddr slot)
    else match b.wit.set with
      | some s => ((b.slotDrives s false slot).head?).map fun x => (x.1, slotAddr x.2)
      | none => none
  b.witCommand ch 0x0805 (p.length == 20)
    (!((d == 0 || d == 1 || d == 0xFF) && decide (1 ≤ le p 1 1) && decide (le p 1 1 ≤ 64) && decide (le p 2 2 ≤ 1) && le p 12 8 % 4096 == 0
        && decide (0x8000000000 + free ≤ le p 12 8) && decide (a + n * slotBytes ≤ b.yardGiB * gib)))
    [((match src with
       | some x => b.driveState x.1 == 0 || b.driveState x.1 == 3
       | none => true), St.NOT_READY)]
    fun b =>
      let get (i : Nat) : List Byte :=
        if le p 2 2 = 1 then match src with
          | some x => driveGet (b.drive x.1).view 0 slotBytes
          | none => []
        else if d ≠ 0xFF then driveGet (b.drive d).view (slotAddr (slot + i)) slotBytes
        else match b.wit.set with
          | some s => match (b.slotDrives s false (slot + i)).head? with
            | some x => driveGet (b.drive x.1).view (slotAddr x.2) slotBytes
            | none => zeroBytes slotBytes
          | none => zeroBytes slotBytes
      let b := b.each (List.range n) fun b i => b.yardPut (a + i * slotBytes) (get i)
      b.ok ch (leBytes 4 (n * slotBytes))

/-- WIT_MOUNT, 0x0806, with what the NVMe ports show (R522). -/
def witMount (ch : Nat) (p : List Byte) (found : List (Nat × Nat × Bool)) (b : Block) : Block :=
  let lost := match b.wit.set with
    | some s => !s.up
    | none => true
  b.witCommand ch 0x0806 (p.length == 4) (!zeros p 1 3) [(b.witState == 1 || b.witState == 3 || (b.witState == 2 && !lost), St.NOT_READY)]
    fun b => ((b.seeDrives found).setFld F.WIT_STATUS_STATE 0 1).answer ch St.ACCEPTED []

/-- WIT_REBUILD, 0x0807 (R524). -/
def witRebuild (ch : Nat) (p : List Byte) (b : Block) : Block :=
  let d := le p 0 1
  let ready := match b.wit.set, driveHead (b.drive d) with
    | some s, some h => s.layout == 1 && b.on F.WIT_STATUS_MOUNTED 0 && b.driveState d == 1 && b.driveState (1 - d) == 2 && bytesAt h 8 16 == s.id
    | _, _ => false
  b.witCommand ch 0x0807 (p.length == 4) (!(decide (d ≤ 1) && zeros p 1 3)) [(!ready, St.NOT_READY)]
    fun b => ((b.setFld F.WIT_DRV_STATUS_STATE d 4).set F.WIT_STATUS_REBUILDING 0).answer ch St.ACCEPTED []

/-- INC_SET, 0x0810 (R526, R529). -/
def incSet (ch : Nat) (p : List Byte) (b : Block) : Block :=
  let fl := le p 0 1; let n := le p 3 1
  let taps := (List.range n).map fun i => le p (4 + 2 * i) 2
  let units := (taps.map fun t => if fmt2160 (b.tgtFormat t) then 4 else 1).sum
  let en := bitOf fl 0
  b.witCommand ch 0x0810 (p.length == 20)
    (!(decide (fl ≤ 15) && decide (1 ≤ le p 1 1) && decide (le p 1 1 ≤ 20) && decide (le p 2 1 ≤ 60) && decide (1 ≤ n) && decide (n ≤ 8)
        && (taps.all fun t => decide (t < 256) && !b.tgtKind1 t && !b.quadOutput t) && decide taps.Nodup && zeros p (4 + 2 * n) (16 - 2 * n) && decide (units ≤ 8)))
    [(b.incState == 2 || b.incState == 3 || (en && b.regionSize 2 == 0) || (en && bitOf fl 1 && b.pinBad trigPin), St.NOT_READY)]
    fun b =>
      let b := if en then
          let b := ((b.setTo F.INC_CFG_TRIG_EN 0 (bitOf fl 1)).setTo F.INC_CFG_TRIG_POL 0 (bitOf fl 2)).setTo F.INC_CFG_STALE_TRIG 0 (bitOf fl 3)
          let b := ((b.setFld F.INC_CFG_PRE_S 0 (le p 1 1)).setFld F.INC_CFG_POST_S 0 (le p 2 1)).set F.INC_CFG_EN 0
          let b := b.each (List.range 8) fun b k => (b.setFld F.INC_TAPS_TAP k (taps.getD k 0)).setTo F.INC_TAPS_VALID k (decide (k < n))
          let b := (b.setFld F.INC_STATUS_UNITS 0 units).setFld F.INC_STATUS_STATE 0 1
          b.updWit fun w => { w with ring := [], closing := false, tl := b.tgtTl (taps.headD 0), trig := none }
        else b.ite (b.incState == 1) fun b => b.updWit fun w => { w with closing := true }
      b.ok ch []

/-- INC_TRIGGER, 0x0811 (R528). -/
def incTrigger (ch : Nat) (p : List Byte) (b : Block) : Block :=
  b.witCommand ch 0x0811 p.isEmpty false [(b.incState == 0, St.NOT_READY)]
    fun b =>
      let n := b.tlFrame b.wit.tl
      let (r, b) := b.trigger 1 n
      b.ok ch (leBytes 4 (b.fld F.INC_CAPTURE_CAPTURE 0) ++ leBytes 6 n ++ leBytes 1 r ++ [0])

/-- TAKE_EXECUTE with its crossfade and its event (R390, R499). -/
def takeExecuteWit (i : Nat) (b : Block) : Block :=
  let e := b.take_ i
  let b := takeExecuteAud i b
  b.ite (decide (e.target < 256) && e.live && (b.take_ i).state == 5) fun b =>
    b.tapEvent e.target 3 e.target e.catchF (b.catchLine e.target e.field2) (takeId i e) e.src

end Sys2Proof.Machine
end

