-- ==== Sys2Proof/Machine/Twin.lean ====
section
/-!
DEFINITION. Freshness decisions (R287 to R292, R460) and twins: the decision journal, roles, the heartbeat, step states and the switch-over
(R534 to R555, R646).
-/
namespace Sys2Proof.Machine

def Block.updTwin (b : Block) (f : TwinSt → TwinSt) : Block := { b with twin := f b.twin }
def Block.twinEn (b : Block) : Bool := b.on F.TWIN_CFG_EN 0
def Block.twinState (b : Block) : Nat := b.fld F.TWIN_STATUS_STATE 0

/-! ### Checkpoints (R287 to R292) -/

/-- Line D of a format's raster (R287). -/
def decisionLine (c : Nat) : Nat := if c = 1 then 16 else if c = 2 then 12 else if fmt2160 c then 26 else 13

/-- The consumer of checkpoint `c` shows frames: its output, or its layer of a head that is on. -/
def Block.judged (b : Block) (c : Nat) : Bool :=
  if c < 256 then b.outputOn c else b.on F.HEAD_CFG_EN (tgtHead c) && b.on F.LAYER_CFG_EN (c - 256)

/-- The record that the consumer of checkpoint `c` shows, none without a source (R287, R380). -/
def Block.checkRecord (b : Block) (c : Nat) : Option FrameRec :=
  if c < 256 then b.outRecord c else (b.layerHeld (tgtHead c) ((c - 256) % 16)).map Held.rcd

/-- Entry into the stale state in frame `n`, or the exit from it (R290, R460, R499, R528). -/
def Block.freshEdge (b : Block) (c n : Nat) (enter : Bool) : Block :=
  let line := decisionLine (b.tgtFormat c)
  let b := (b.setTo F.FRESH_STATUS_STALE c enter).setFld F.FRESH_EDGE_FRAME_FRAME c (n % 2 ^ 32)
  let b := if enter then (b.setBit F.FRESH_HIST_ENTER_ENTER (c / 32) (c % 32)).bump F.FRESH_ENTER_CNT_COUNT c 1
    else b.setBit F.FRESH_HIST_EXIT_EXIT (c / 32) (c % 32)
  let b := b.ite (decide (256 ≤ c)) fun b =>
    let h := tgtHead c
    if enter then (b.set F.HEAD_HIST_STALE_ENTER h).setBit F.HEAD_STALE_STALE h ((c - 256) % 16)
    else (b.set F.HEAD_HIST_STALE_EXIT h).clrBit F.HEAD_STALE_STALE h ((c - 256) % 16)
  let b := b.each (b.checkTaps c) fun b t =>
    b.tapEvent t (if enter then 1 else 2) c n line (if enter then b.fld F.FRESH_STATUS_REASON c else 0) (b.fld F.FRESH_AGE_AGE c)
  b.ite (enter && decide (c < 256) && b.captured c && b.on F.INC_CFG_STALE_TRIG 0) fun b => (b.trigger 2 (if b.tgtTl c = b.wit.tl then n else b.tlFrame b.wit.tl)).2

/-- The fail bits of a judgement, the record shown and its age in nanoseconds given (R288). -/
def Block.freshFail (b : Block) (c rep age : Nat) (r : FrameRec) : Nat :=
  bit (b.on F.FRESH_CFG_AGE_EN c && decide (b.fld F.FRESH_LIMIT_LIMIT_US c * 1000 < age))
    + bit (b.on F.FRESH_CFG_LIVE_EN c && decide (b.fld F.FRESH_LIVE_LIVE_FRAMES c < rep)) * 2
    + bit (b.on F.FRESH_CFG_LOS_EN c && r.srcLos) * 4
    + bit (r.watch % 16 &&& b.fld F.FRESH_CFG_WATCH_MASK c != 0) * 8
    + bit (b.on F.FRESH_CFG_STAMP_EN c && r.stampStale) * 16

/-- The judgement of R288: the fail bits, and whether the age passes the exit test. -/
def Block.freshJudge (b : Block) (c : Nat) : Nat × Bool × Block :=
  match b.checkRecord c with
  | none => (4, false, b)
  | some r =>
    let age := b.time.now / nsUnit - r.origin
    let k := b.chk c
    let rep := if k.lastFseq = some r.fseq then k.rep + 1 else 0
    let b := (b.updChk c fun _ => ⟨rep, some r.fseq⟩).setFld F.FRESH_AGE_AGE c (min (age / 1000) (2 ^ 32 - 1))
    let fail := b.freshFail c rep age r
    (fail, fail == 0 && decide (age * 100 ≤ b.fld F.FRESH_LIMIT_LIMIT_US c * 1000 * (100 - b.fld F.FRESH_CFG_EXIT_PCT c)), b)

/-- Checkpoint `c` judges frame `n` of its consumer (R288, R291). -/
def Block.freshDecide (b : Block) (c n : Nat) : Block :=
  let stale := b.on F.FRESH_STATUS_STALE c
  if ¬b.on F.FRESH_CFG_EN c then
    if stale then ((b.clr F.FRESH_STATUS_FAIL_RUN c).clr F.FRESH_STATUS_PASS_RUN c).freshEdge c n false else b
  else
    let (fail, fresh, b) := b.freshJudge c
    let b := b.ite (fail != 0) fun b => b.setFld F.FRESH_STATUS_REASON c fail
    if ¬stale then
      let run := if fail ≠ 0 then min 15 (b.fld F.FRESH_STATUS_FAIL_RUN c + 1) else 0
      let b := b.setFld F.FRESH_STATUS_FAIL_RUN c run
      if b.fld F.FRESH_CFG_ENTER_N c ≤ run then (b.setFld F.FRESH_STATUS_PASS_RUN c 0).freshEdge c n true else b
    else
      let run := if fresh then min 255 (b.fld F.FRESH_STATUS_PASS_RUN c + 1) else 0
      let b := b.setFld F.FRESH_STATUS_PASS_RUN c run
      if b.fld F.FRESH_CFG_EXIT_N c ≤ run then (b.setFld F.FRESH_STATUS_FAIL_RUN c 0).freshEdge c n false else b

/-! ### The journal: what arrives (R538 to R541, R544, R553) -/

/-- A journal miss for frame `n` of timeline `tl`, once a frame (R541). -/
def Block.journalMiss (b : Block) (tl n : Nat) : Block :=
  if (tl, n) ∈ b.twin.missed then b
  else ((b.updTwin fun t => { t with missed := ((tl, n) :: t.missed).take 16, missBad := true }).bump F.TWIN_MISS_CNT_COUNT 0 1).set F.TWIN_HIST_JRNL_MISS 0

/-- An entry differs from the provisional decision (R540). -/
def Block.override_ (b : Block) : Block := (b.bump F.TWIN_OVERRIDE_CNT_COUNT 0 1).set F.TWIN_HIST_JRNL_OVERRIDE 0

/-- A stall's repeat and drop, counted as applied (R540). -/
def Block.countLatch (b : Block) (j : Nat) (rep drop : Bool) : Block :=
  (b.ite rep fun b => b.bump F.STALL_REPEAT_CNT_COUNT j 1).ite drop fun b => b.countDrop j

/-- A frame's number as journal entries name it. -/
def fseq24 (h : Option Held) : Option Nat := h.map fun x => x.rcd.fseq % 2 ^ 24

/-- The frame that pairs with a latch entry when the offset is adopted: the latched one, the waiting one, or the next (R546). -/
def pairedFrame (s : StallSt) : Nat :=
  (if s.took then fseq24 s.held else (fseq24 s.waiting)).getD ((s.fseq + 1) % 2 ^ 24)

/-- A latch entry for stall `j` applied (R267, R540, R541). -/
def Block.applyLatch (b : Block) (tl n j v : Nat) : Block :=
  let new := bitOf v 0; let drop := bitOf v 1; let named := v / 256
  let b := b.ite (new && decide (j ∈ b.twin.adopt)) fun b => b.updTwin fun t =>
    { t with adopt := t.adopt.filter fun k => k != j, offsets := t.offsets.put j ((named + 2 ^ 24 - pairedFrame (b.stall j)) % 2 ^ 24) }
  let q := (named + 2 ^ 24 - b.twin.offsets.look j) % 2 ^ 24
  let s := b.stall j
  let (rep, mine) := s.prov.getD (false, false)
  let done (b : Block) : Block := b.updStall j fun s => { s with prov := none }
  if ¬new then
    let b := (if s.took then
        -- the frame latched here goes back to wait
        (b.updStall j fun s => { s with held := s.prev, waiting := s.waiting <|> s.held, took := false, tookDrop := drop }).stallShow j
      else b)
    done ((b.ite (s.took || drop != mine) fun b => b.override_).countLatch j (b.stall j).held.isSome drop)
  else if s.took ∧ fseq24 s.held = some q then
    done ((b.ite (drop != mine) fun b => b.override_).countLatch j false drop)
  else if fseq24 s.waiting = some q then
    done (((b.stallTake j).stallShow j).override_.countLatch j false drop)
  else if ¬s.took ∧ fseq24 s.held = some q then
    done (b.override_.countLatch j false drop)
  else if (q + 2 ^ 24 - s.fseq % 2 ^ 24) % 2 ^ 24 < 2 ^ 23 ∧ q ≠ s.fseq % 2 ^ 24 then
    b.override_.updStall j fun s => { s with awaiting := some (q, drop) }
  else
    (done (b.countLatch j rep mine)).journalMiss tl n

/-- A stale entry for checkpoint `c` applied (R292, R540): one that confirms the own decision leaves the runs as they are (DEDUCED, log 202). -/
def Block.applyStale (b : Block) (n c v : Nat) : Block :=
  let stale := bitOf v 0; let reason := bitsOf v 1 5
  let b := b.ite (reason != 0) fun b => b.setFld F.FRESH_STATUS_REASON c reason
  if b.on F.FRESH_STATUS_STALE c = stale then b
  else
    let b := b.override_.freshEdge c n stale
    if stale then b.setFld F.FRESH_STATUS_PASS_RUN c 0 else b.setFld F.FRESH_STATUS_FAIL_RUN c 0

/-- A take entry for queue entry `i` noted for its catch line; one that this member ended otherwise is taken up again (R402, R540, R541). -/
def Block.applyTake (b : Block) (tl n i v : Nat) : Block :=
  let e := b.take_ i; let go := bitOf v 0
  if e.state = 0 ∨ e.catchF ≠ n ∨ e.tl ≠ tl then b.journalMiss tl n
  else if e.live then b.updTake i fun e => { e with journal := some go }
  else if go ∧ e.state ≠ 5 then b.override_.updTake i fun e => { e with state := 2, rid := 0, journal := some true }
  else b

/-- An entry of kind 1 or 2 for a decision that this member has made. -/
def Block.applyEntry (b : Block) (kind tl n i v : Nat) : Block :=
  let b := b.updTwin fun t => { t with owed := t.owed.filter fun o => o != (kind, i, n) }
  if kind = 1 then b.applyLatch tl n i v else b.applyStale n i v

/-- An entry of kinds 1 to 3 (R540): applied, or kept until the own decision is made; too late, it is ignored. -/
def Block.journalEntry (b : Block) (kind tl n i v : Nat) : Block :=
  if kind = 3 then b.applyTake tl n i v
  else if (kind, i, n) ∈ b.twin.owed then b.applyEntry kind tl n i v
  else if b.twin.decided.look (kind * 1024 + i) ≤ n then b.updTwin fun t => { t with early := t.early ++ [(kind, i, n, v)] }
  else b

/-- A provisional decision has been made: an entry that came before it applies now (R540). -/
def Block.provisional (b : Block) (kind tl n i : Nat) : Block :=
  let b := b.updTwin fun t =>
    { t with owed := (t.owed.filter fun o => o.1 != kind || o.2.1 != i) ++ [(kind, i, n)], decided := t.decided.put (kind * 1024 + i) (n + 1) }
  match b.twin.early.find? fun e => e.1 == kind && e.2.1 == i && e.2.2.1 == n with
  | some e => (b.updTwin fun t => { t with early := t.early.filter fun x => x != e }).applyEntry kind tl n i e.2.2.2
  | none => b

/-- One half of a signature of the partner. -/
def Block.partnerSig (b : Block) (o n v : Nat) (high : Bool) : Block :=
  b.updTwin fun t =>
    let old := (t.sigs.find? fun s => s.output == o && s.frame == n).getD ⟨o, n, none, none⟩
    let new := if high then { old with high := some v } else { old with low := some v }
    { t with sigs := (t.sigs.filter fun s => !(s.output == o && (s.frame == n || decide (s.frame + 4 ≤ n)))) ++ [new],
             peerOuts := if o ∈ t.peerOuts then t.peerOuts else t.peerOuts ++ [o] }

/-- SIGNATURE_COMPARE: the own signature of a frame against the partner's, once both are there (R544). -/
def Block.compareSig (b : Block) (o n : Nat) : Block :=
  match (b.tap o).sigs.find? fun s => s.1 == n, b.twin.sigs.find? fun s => s.output == o && s.frame == n with
  | some (_, own), some s =>
    match s.low, s.high with
    | some l, some h =>
      let b := b.updTwin fun t => { t with sigs := t.sigs.filter fun x => !(x.output == o && x.frame == n) }
      let b := b.updTap o fun s => { s with sigs := s.sigs.filter fun x => x.1 != n }
      if own = h * 2 ^ 32 + l then b
      else (((b.setBit F.TWIN_MM_MM (o / 32) (o % 32)).bump F.TWIN_MM_CNT_COUNT 0 1).set F.TWIN_HIST_SIG_MISMATCH 0).updTwin fun t => { t with mmBad := true }
    | _, _ => b
  | _, _ => b

/-- JOURNAL_RX: a `JOURNAL` message arrives on port `q` (R361, R371, R538, R540, R544, R553). -/
def journalRx (q : Nat) (p : Packet) (b : Block) : Block :=
  b.ctrlRx q 0x40 p fun m b =>
    if ¬b.twinEn ∨ msgSrc m ≠ b.me ^^^ 1 ∨ b.twinPort ≠ some q then b
    else
      let n := le m 16 6; let tl := le m 22 1
      b.each (List.range (min (le m 24 2) ((m.length - 36) / 8))) fun b k =>
        let o := 32 + 8 * k
        let kind := le m o 1; let i := le m (o + 2) 2; let v := le m (o + 4) 4
        if kind = 4 ∨ kind = 5 then (b.partnerSig i n v (kind == 5)).compareSig i n
        else if 1 ≤ kind ∧ kind ≤ 3 then
          if b.authority tl n then b.set F.TWIN_HIST_DUAL_ACTIVE 0 else b.journalEntry kind tl n i v
        else b.bump F.FAB_RX_ERR_CNT_COUNT q 1

/-- TAP_FRAME with the comparison of its signature (R494, R544). -/
def tapFrameTwin (t n : Nat) (b : Block) : Block :=
  (tapFrame t n b).ite b.twinEn fun b => b.compareSig t n

/-- STALL_LATCH, and the journal's part in it (R267, R540). -/
def stallLatchTwin (j n : Nat) (b : Block) : Block :=
  let tl := b.fld F.STALL_CTRL_TL j
  let due := b.stallState j != 0 && n % b.stallDiv j == 0 && !(b.stall j).closing && !b.on F.STALL_STATUS_LL_ACTIVE j
  (stallLatch j n b).ite (due && b.follows tl n) fun b => b.provisional 1 tl n j

/-- FRESH_DECISION: checkpoint `c` judges frame `n` of its consumer at line D (R288, R292). -/
def freshDecision (c n : Nat) (b : Block) : Block :=
  if ¬b.judged c ∧ ¬(b.on F.FRESH_STATUS_STALE c ∧ ¬b.on F.FRESH_CFG_EN c) then b
  else
    let tl := b.tgtTl c
    -- authority gained since the frame before: both runs restart (R543)
    let b := b.ite (b.twinEn && b.authority tl n && !(b.authority tl (n - 1) && (!b.tgtHalf c || b.authority tl (n - 2)))) fun b =>
      (b.setFld F.FRESH_STATUS_FAIL_RUN c 0).setFld F.FRESH_STATUS_PASS_RUN c 0
    (b.freshDecide c n).ite (b.on F.FRESH_CFG_EN c && b.follows tl n) fun b => b.provisional 2 tl n c

/-- TAKE_EXECUTE, an override counted where the journal's entry differs from the own decision (R540). -/
def takeExecuteTwin (i : Nat) (b : Block) : Block :=
  let e := b.take_ i
  let own := e.state == 4 || (e.state == 2 && e.rid == 0)
  takeExecuteWit i (b.ite (e.live && (e.journal.map fun g => g != own).getD false) fun b => b.override_)

/-- JOURNAL_DEADLINE: the deadline of the entries of a kind for frame `n` of timeline `tl`, for some indexes (R541, R544): what is missing, or
could not be applied, is one miss, and the provisional decision stands. -/
def journalDeadline (kind tl n : Nat) (idx : List Nat) (b : Block) : Block :=
  if ¬b.twinEn then b
  else b.each idx fun b i =>
    if kind = 1 ∨ kind = 2 then
      let early := b.twin.early.any fun e => e.1 == kind && e.2.1 == i && e.2.2.1 == n
      let wait := kind == 1 && (b.stall i).awaiting.isSome
      let owed := decide ((kind, i, n) ∈ b.twin.owed)
      let b := b.updTwin fun t =>
        { t with owed := t.owed.filter fun o => o != (kind, i, n), early := t.early.filter fun e => !(e.1 == kind && e.2.1 == i && e.2.2.1 == n),
                 decided := t.decided.put (kind * 1024 + i) (max (t.decided.look (kind * 1024 + i)) (n + 1)) }
      let b := b.ite (kind == 1 && (owed || wait)) fun b =>
        let (rep, drop) := ((b.stall i).prov).getD (false, false)
        (b.countLatch i rep drop).updStall i fun s => { s with prov := none, awaiting := none }
      b.ite (owed || wait || early) fun b => b.journalMiss tl n
    else if kind = 3 then
      let e := b.take_ i
      b.ite (e.live && e.catchF == n && e.tl == tl && e.journal.isNone && !b.authority tl n) fun b => b.journalMiss tl n
    else
      let b := b.compareSig i n
      let own := (b.tap i).sigs.any fun s => s.1 == n
      let there := b.twin.sigs.any fun s => s.output == i && s.frame == n && s.low.isSome && s.high.isSome
      let frame := b.twin.sigs.any fun s => s.frame == n
      if ¬own ∨ there ∨ i ∉ b.twin.peerOuts then b
      else if frame then b.updTwin fun t => { t with peerOuts := t.peerOuts.filter fun o => o != i }
      else ((b.bump F.TWIN_SIGMISS_CNT_COUNT 0 1).set F.TWIN_HIST_SIG_MISS 0).updTwin fun t => { t with sigBad := true }

/-! ### The journal: what is published (R371, R538, R539) -/

/-- A journal entry. -/
def entryBytes (kind i v : Nat) : List Byte := leBytes 1 kind ++ [0] ++ leBytes 2 i ++ leBytes 4 v

/-- The entries of a kind for frame `n` of timeline `tl` that this member has for index `i` (R539). -/
def Block.entriesFor (b : Block) (kind tl n i : Nat) : List (List Byte) :=
  match kind with
  | 1 =>
    let s := b.stall i
    if b.fld F.STALL_CTRL_TL i = tl ∧ b.stallState i ≠ 0 ∧ ¬s.closing ∧ n % b.stallDiv i = 0 ∧ ¬b.on F.STALL_STATUS_LL_ACTIVE i then
      [entryBytes 1 i (bit s.took + bit s.tookDrop * 2 + ((fseq24 s.held).getD 0 + b.twin.offsets.look i) % 2 ^ 24 * 256)]
    else []
  | 2 =>
    if b.on F.FRESH_CFG_EN i ∧ b.tgtTl i = tl ∧ b.judged i then [entryBytes 2 i (b.fld F.FRESH_STATUS_STALE i + b.fld F.FRESH_STATUS_REASON i * 2)] else []
  | 3 =>
    let e := b.take_ i
    if e.state = 0 ∨ e.state = 8 ∨ e.catchF ≠ n ∨ e.tl ≠ tl then []
    else
      let go := e.state == 4 || e.state == 5 || (e.state == 2 && e.rid == 0)
      [entryBytes 3 i (bit go + bit (!go) * 2 + e.rid * 65536)]
  | _ =>
    match (b.tap i).sigs.find? fun s => s.1 == n with
    | some (_, v) => if b.outputOn i ∧ b.tgtTl i = tl then [entryBytes 4 i (v % 2 ^ 32), entryBytes 5 i (v / 2 ^ 32)] else []
    | none => []

/-- JOURNAL_PUBLISH: the entries of a kind for frame `n` of timeline `tl` are due for some indexes (R538, R539). -/
def journalPublish (kind tl n : Nat) (idx : List Nat) (b : Block) : Block :=
  match b.twinPort with
  | some q =>
    if ¬b.twinEn ∨ ¬b.linkUp q ∨ (kind ≤ 3 ∧ ¬b.authority tl n) then b
    else
      let l := (idx.map fun i => b.entriesFor kind tl n i).flatten
      b.each (List.range ((l.length + 122) / 123)) fun b p =>
        let part := (l.drop (123 * p)).take 123
        b.portSend q (b.mkMsg 0x40 (b.me ^^^ 1) 0
          (leBytes 6 n ++ leBytes 1 tl ++ leBytes 1 p ++ leBytes 2 part.length ++ leBytes 2 l.length ++ zeroBytes 4 ++ part.flatten))
  | none => b

/-! ### The heartbeat (R535, R536) -/

/-- A lasting fault in a block whose faults stop the heartbeat. -/
def Block.blockFault (b : Block) : Bool := [0x06, 0x08, 0x09, 0x0C, 0x0B, 0x16, 0x10].any fun k => b.on F.BLK_FAULT_FAULT_LASTING k

/-- The system synthesizer coasts, or that of an enabled output's crew. -/
def Block.clockFault (b : Block) : Bool :=
  b.pllState 7 == 3 || (List.range 16).any fun c => b.pllState (b.fld F.CREW_CFG_SYNTH c) == 3 && (List.range 8).any fun i => b.on F.SDI_TX_CFG_EN (8 * c + i)

/-- The causes in force, `STOP_CMD` as it stands. -/
def Block.hbCauses (b : Block) : Nat :=
  bit (!b.on F.TWIN_STATUS_ROLE 0) + bit (bitOf (b.fld F.TWIN_HB_CAUSE_CAUSE 0) 1) * 2 + bit b.blockFault * 4 + bit b.clockFault * 8
    + bit (b.on F.PWR_STATUS_THERMAL_SHUTDOWN 0) * 16

/-- The causes and the wave follow the device (R535). -/
def Block.hbSettle (b : Block) : Block :=
  let c := b.hbCauses
  let want := b.released && !b.on F.BIST_STATUS_SAFE 0 && c == 0 && !b.twin.switching
  let was := b.on F.TWIN_STATUS_HB_ON 0
  ((b.setFld F.TWIN_HB_CAUSE_CAUSE 0 c).setTo F.TWIN_STATUS_HB_ON 0 want).ite (was && !want) fun b => b.set F.TWIN_HIST_HB_STOPPED 0

/-- HB_CAUSE_CHANGE: a cause of the heartbeat arises or clears (R535, R536). -/
def hbCauseChange (b : Block) : Block := b.hbSettle

/-! ### Roles and step states (R534, R543, R546, R553) -/

/-- The good-frame, miss and mismatch runs start again. -/
def Block.runsCleared (b : Block) : Block :=
  (b.setFld F.TWIN_STATUS_RUN 0 0).updTwin fun t => { t with missRun := 0, mmRun := 0, missBad := false, mmBad := false, sigBad := false }

/-- A pending switch is gone. -/
def Block.switchGone (b : Block) : Block :=
  (((b.clr F.TWIN_SW_HI_PENDING 0).clr F.TWIN_SW_HI_TL 0).setFld F.TWIN_SW_HI_FRAME 0 0).setFld F.TWIN_SW_LO_FRAME 0 0

/-- SEL_STATE_CHANGE: a level of `SEL_STATE` has been stable for 100 ns (R534, R543, R546, R553). -/
def selStateChange (level : Bool) (b : Block) : Block :=
  let was := b.on F.TWIN_STATUS_ROLE 0; let role := level == b.isBow
  let b := b.setTo F.TWIN_STATUS_SEL_BOW 0 level
  if was = role then b.hbSettle
  else
    let healthy := b.fld F.TWIN_HB_CAUSE_CAUSE 0 / 4 == 0
    let b := (b.setTo F.TWIN_STATUS_ROLE 0 role).bump F.TWIN_SWITCH_CNT_COUNT 0 1
    let b := b.updTwin fun t => { t with roles := ((b.tlFrame 0, b.tlFrame 1, role) :: t.roles).take 16 }
    let st := b.twinState
    let b := if role then
        let b := b.ite (b.twinEn && decide (2 ≤ st)) fun b => (b.setFld F.TWIN_STATUS_STATE 0 1).set F.TWIN_HIST_BECAME_ACTIVE 0
        b.ite b.twinEn fun b => b.each (List.range 768) fun b c => (b.setFld F.FRESH_STATUS_FAIL_RUN c 0).setFld F.FRESH_STATUS_PASS_RUN c 0
      else
        let b := if b.twin.switching then b.set F.TWIN_HIST_SWITCH_DONE 0 else b.ite healthy fun b => b.set F.TWIN_HIST_SEL_UNEXPECTED 0
        let b := b.switchGone
        b.ite (b.twinEn && st == 1) fun b => ((b.setFld F.TWIN_STATUS_STATE 0 3).set F.TWIN_HIST_BECAME_STANDBY 0).runsCleared
    let b := b.updTwin fun t => { t with switching := false }
    let b := b.each (List.range 256) fun b t => b.eventNow t 4 0 (bit role) (bit level)
    b.hbSettle

/-- TWIN_FRAME_END: a frame of timeline `TL` of `TWIN_CFG` is judged (R546). -/
def twinFrameEnd (b : Block) : Block :=
  let t := b.twin; let st := b.twinState
  let b := b.updTwin fun t => { t with missBad := false, mmBad := false, sigBad := false }
  -- a switch whose selectors have not followed by the end of its frame is void
  let b := b.ite (t.switching && decide (b.fld F.TWIN_SW_LO_FRAME 0 + b.fld F.TWIN_SW_HI_FRAME 0 * 2 ^ 32 < b.tlFrame (b.fld F.TWIN_SW_HI_TL 0))) fun b =>
    ((b.switchGone).updTwin fun t => { t with switching := false }).hbSettle
  if ¬b.twinEn then b
  else if st = 2 then
    let run := if t.missBad ∨ t.mmBad ∨ t.sigBad then 0 else min 65535 (b.fld F.TWIN_STATUS_RUN 0 + 1)
    let b := b.setFld F.TWIN_STATUS_RUN 0 run
    b.ite (decide (b.fld F.TWIN_SYNC_SYNC_FRAMES 0 ≤ run)) fun b => (b.setFld F.TWIN_STATUS_STATE 0 3).set F.TWIN_HIST_IN_STEP_GAINED 0
  else if st = 3 then
    let miss := if t.missBad then t.missRun + 1 else 0; let mm := if t.mmBad then t.mmRun + 1 else 0
    let b := b.updTwin fun t => { t with missRun := miss, mmRun := mm }
    b.ite (decide (b.fld F.TWIN_CFG_MISS_LIMIT 0 ≤ miss) || decide (b.fld F.TWIN_CFG_MM_LIMIT 0 ≤ mm)) fun b => b.stepLost
  else b

/-- The partner's last `HELLO` shows a link-compatible image of equal `JOURNAL` level (R646). -/
def Block.twinCompat (b : Block) : Bool :=
  match b.twinPort with
  | some q =>
    let c := le (b.fport q).peerHello 28 4
    linkCompat b.dev.compat c && b.dev.compat / 65536 % 256 == c / 65536 % 256
  | none => false

/-- OUT_OF_STEP to SYNCING: the offsets are adopted from the next latch entries, and the runs are cleared (R546). -/
def Block.resync (b : Block) : Block :=
  ((b.setFld F.TWIN_STATUS_STATE 0 2).runsCleared).updTwin fun t => { t with offsets := [], adopt := List.range 320 }

/-- AUTO_RESYNC: the twin port has been UP for 1 s (R546, R646). -/
def autoResync (b : Block) : Block :=
  let up : Bool := match b.twinPort with
    | some q => b.linkUp q
    | none => false
  if b.twinEn ∧ b.twinState = 4 ∧ b.on F.TWIN_CFG_AUTO_RESYNC 0 ∧ up ∧ b.twinCompat then b.resync else b

/-- `EN` of `TWIN_CFG` changes (R546). -/
def Block.twinEnable (b : Block) (was : Bool) : Block :=
  if b.twinEn && !was then (b.setFld F.TWIN_STATUS_STATE 0 (if b.on F.TWIN_STATUS_ROLE 0 then 1 else 4)).runsCleared
  else if was && !b.twinEn then
    ((b.setFld F.TWIN_STATUS_STATE 0 0).runsCleared).updTwin fun t => { t with owed := [], early := [], sigs := [], adopt := [], peerOuts := [] }
  else b

/-- A write of `TWIN_CFG`; `EN` on a device without a fabric is discarded (R554). -/
def Block.twinCfgWrite (b : Block) (v : Nat) : Block :=
  if bitOf v 0 ∧ b.fabN = 0 then b.reject 0x10 F.TWIN_HIST_CFG_REJECTED 0
  else (b.storeWord W.TWIN_CFG 0 v).twinEnable b.twinEn

/-! ### Switch-over (R549, R550) -/

/-- Device time of a commanded switch: the start of the field 1 catch line of frame `c`, in the raster that the timeline declares. -/
def Block.switchTime (b : Block) (tl c : Nat) : Nat :=
  let lines := b.tlLines tl
  let line := (catch1 (if lines = 525 then 1 else if lines = 625 then 2 else if lines = 750 then 3 else 9)).1
  b.frameStart tl c + (line - 1) * b.tlDen tl * secUnit / (b.tlNum tl * lines)

/-- Output `o` would be sending an active line at device time `t` (R205, R550). -/
def Block.exposedAt (b : Block) (o t : Nat) : Bool :=
  let c := b.tgtFormat o; let tl := b.tgtTl o; let d := if b.tgtHalf o then 2 else 1
  let lines := if o < 128 then fmtWireLines c else fmtLines c
  let ofs : Int := if o < 128 then b.sfld F.SDI_TX_OFS_TX_OFS o * (b.linePeriod c tl : Int) / (fmtSpl c : Nat) else 0
  let t := ((t : Int) - ofs).toNat
  let pos := t * b.tlNum tl % (b.tlDen tl * d * secUnit) * lines / (b.tlDen tl * d * secUnit)
  let line := (pos + lines - 3) % lines + 1
  b.outputOn o && (if o < 128 then rowsOnLine c line false != [] else (rowOfLine c line).isSome)

/-- The pending switch frame. -/
def Block.switchFrame (b : Block) : Nat := b.fld F.TWIN_SW_LO_FRAME 0 + b.fld F.TWIN_SW_HI_FRAME 0 * 2 ^ 32

/-- SWITCH_INSTANT: the instant of the pending switch, or the microsecond before it: the active ends its heartbeat (R549). -/
def switchInstant (b : Block) : Block :=
  if b.on F.TWIN_SW_HI_PENDING 0 ∧ b.on F.TWIN_STATUS_ROLE 0 ∧ b.switchTime (b.fld F.TWIN_SW_HI_TL 0) b.switchFrame ≤ b.time.now + 1000 * nsUnit then (b.updTwin fun t => { t with switching := true }).hbSettle else b

/-! ### Commands (R554) -/

/-- TWIN_SET, 0x0901. -/
def twinSet (ch : Nat) (p : List Byte) (b : Block) : Block :=
  let fl := le p 0 1
  b.command ch 0x0901 true (p.length == 8)
    [(!(decide (fl ≤ 7) && decide (1 ≤ le p 1 1) && decide (1 ≤ le p 2 1) && zeros p 3 1 && decide (1 ≤ le p 4 2) && zeros p 6 2), St.BAD_ARG),
     (b.selftest 0x10, St.BUSY_SELFTEST)]
    [(bitOf fl 0 && b.fabN == 0, St.NOT_READY)]
    fun b =>
      let b := b.setFld F.TWIN_SYNC_SYNC_FRAMES 0 (le p 4 2)
      (b.twinCfgWrite (fl + le p 1 1 * 256 + le p 2 1 * 65536)).ok ch []

/-- TWIN_SWITCH, 0x0902; whether the partner is IN_STEP is the sender's to say (R549, R550, R552, R554). -/
def twinSwitch (ch : Nat) (p : List Byte) (partnerInStep : Bool) (b : Block) : Block :=
  let force := bitOf (le p 0 1) 0; let cancel := bitOf (le p 0 1) 1; let tl := le p 1 1; let c := le p 4 6
  let pending := b.on F.TWIN_SW_HI_PENDING 0; let ptl := b.fld F.TWIN_SW_HI_TL 0
  b.command ch 0x0902 true (p.length == 12)
    [(!(decide (le p 0 1 ≤ 3) && decide (tl ≤ 1) && zeros p 2 2 && zeros p 10 2), St.BAD_ARG), (b.selftest 0x10, St.BUSY_SELFTEST)]
    (if cancel then [(!pending, St.NOT_READY), (decide (b.switchFrame ≤ b.tlFrame ptl + 1), St.LATE)]
     else [(!b.on F.TWIN_STATUS_ROLE 0 || pending || (!force && !partnerInStep), St.NOT_READY), (decide (c < b.tlFrame tl + 2), St.LATE)])
    fun b =>
      if cancel then (b.switchGone).ok ch (leBytes 6 b.switchFrame ++ zeroBytes 34)
      else
        let t := b.switchTime tl c
        let out := (List.range 256).filter fun o => b.exposedAt o t
        let mask := (List.range 32).map fun i => BitVec.ofNat 8 ((List.range 8).foldl (fun a k => a + bit (decide (8 * i + k ∈ out)) * 2 ^ k) 0)
        let b := ((b.setFld F.TWIN_SW_LO_FRAME 0 (c % 2 ^ 32)).setFld F.TWIN_SW_HI_FRAME 0 (c / 2 ^ 32)).setFld F.TWIN_SW_HI_TL 0 tl
        (b.set F.TWIN_SW_HI_PENDING 0).ok ch (leBytes 6 c ++ leBytes 2 out.length ++ mask)

/-- TWIN_RESYNC, 0x0903 (R546, R646). -/
def twinResync (ch : Nat) (p : List Byte) (b : Block) : Block :=
  b.command ch 0x0903 true (p.length == 4) [(!zeros p 0 4, St.BAD_ARG), (b.selftest 0x10, St.BUSY_SELFTEST)]
    [(b.twinState != 4 || b.cox.takes.any (fun e => e.2.state != 0), St.NOT_READY), (!b.twinCompat, St.INCOMPATIBLE)]
    fun b => (b.resync).answer ch St.ACCEPTED []

/-- TWIN_HB, 0x0904 (R535). -/
def twinHb (ch : Nat) (p : List Byte) (b : Block) : Block :=
  b.command ch 0x0904 true (p.length == 4) [(!(decide (le p 0 1 ≤ 1) && zeros p 1 3), St.BAD_ARG), (b.selftest 0x10, St.BUSY_SELFTEST)] []
    fun b =>
      let c := b.fld F.TWIN_HB_CAUSE_CAUSE 0
      ((b.setFld F.TWIN_HB_CAUSE_CAUSE 0 (if le p 0 1 = 1 then withBit c 1 else withoutBit c 1)).hbSettle).ok ch []

/-- `TWIN_STATUS` as read; a device that has not released is not healthy, as the reset value has it (DEDUCED, log 203). -/
def Block.twinStatus (b : Block) : Nat :=
  let up : Bool := match b.twinPort with
    | some q => b.linkUp q
    | none => false
  b.twinState + b.fld F.TWIN_STATUS_ROLE 0 * 8 + b.fld F.TWIN_STATUS_SEL_BOW 0 * 16 + b.fld F.TWIN_STATUS_HB_ON 0 * 32
    + bit (b.released && b.fld F.TWIN_HB_CAUSE_CAUSE 0 / 4 == 0) * 64 + bit up * 128 + b.fld F.TWIN_STATUS_RUN 0 * 65536

/-- TWIN_GET_STATUS, 0x0905. -/
def twinGetStatus (ch : Nat) (p : List Byte) (b : Block) : Block :=
  b.command ch 0x0905 true (p.length == 4) [(!(decide (le p 0 1 ≤ 3) && zeros p 1 3), St.BAD_ARG)] []
    fun b =>
      let cnts := [F.TWIN_MISS_CNT_COUNT, F.TWIN_OVERRIDE_CNT_COUNT, F.TWIN_MM_CNT_COUNT, F.TWIN_SIGMISS_CNT_COUNT, F.TWIN_SWITCH_CNT_COUNT]
      let d := leBytes 4 b.twinStatus ++ b.word4 W.TWIN_HIST 0 ++ b.word4 W.TWIN_HB_CAUSE 0 ++ (cnts.map fun f => leBytes 4 (b.fld f 0)).flatten
        ++ leBytes 8 b.switchFrame ++ ((List.range 8).map fun i => b.word4 W.TWIN_MM i).flatten
      let b := b.takeCounts cnts 0
      let b := b.ite (bitOf (le p 0 1) 0) fun b => b.clearHist W.TWIN_HIST 0 histAll
      (b.ite (bitOf (le p 0 1) 1) fun b => b.each (List.range 8) fun b i => b.setFld F.TWIN_MM_MM i 0).ok ch d

end Sys2Proof.Machine
end

