-- ==== Sys2Proof/Machine/Output.lean ====
section
/-!
DEFINITION. What outputs send: origin stamps and payload identifiers, passed ancillary packets and embedded audio, the lines of serial outputs, the packets of
transmit flows and the strokes of local sources (R205 to R212, R231, R237, R245 to R252, R278 to R280, R320, R327, R329, R335, R353 to R357, R391, R459, R471,
R472).
-/
namespace Sys2Proof.Machine

/-! ### The rows of a source -/

/-- Row `y` of what consumers of a stream show: of a local head the row just composed, or that of its last frame; of another local source its frame; of a
remote stream the line of that row released last; none where it is not there or is poisoned (R205, R212, R335, R420, R690; log 198). `live` is the row as the line buffer of a line-locked
source has it (R272). -/
def Block.sourceRow (b : Block) (st y : Nat) (live : Option (List Byte)) : Option (List Byte) :=
  let ofHeld (p : Held) : Option (List Byte) :=
    if b.rowBad (b.heldSlot (st % 512) p) p y then none
    else some (bytesAt p.pic ((rowOrder p.rcd.format p.psf).idxOf y * fmtW p.rcd.format * 4) (fmtW p.rcd.format * 4))
  if st = noStream then none
  else if b.ownStream st then
    let s := st % 512
    if s < 256 ∧ b.on F.STALL_STATUS_LL_ACTIVE s then
      if (b.stall s).badPhase = 0 ∧ b.stallState s = 2 then live else none
    else if 256 ≤ s ∧ s < 288 then
      match (b.head (s - 256)).rows.look y with
      | [] => (b.head (s - 256)).last.bind ofHeld
      | r => some r
    else (b.sourceHeld s).bind ofHeld
  else match b.ringOf (bowStream st) with
    | some i =>
      match (b.rings.look i).asm.look (lineOfRow (b.rings.look i).fmt y) with
      | [] => none
      | d => some (unpack10 d)
    | none => none

/-- Consumers of row `y` of a stream would read poisoned data (R690). -/
def Block.streamBad (b : Block) (st y : Nat) : Bool :=
  decide (st ≠ noStream) && b.ownStream st && !(decide (st % 512 < 256) && b.on F.STALL_STATUS_LL_ACTIVE (st % 512))
    && (match if 256 ≤ st % 512 ∧ st % 512 < 288 then (if (b.head (st % 512 - 256)).rows.look y = [] then (b.head (st % 512 - 256)).last else none) else b.sourceHeld (st % 512) with
      | some p => b.rowBad (b.heldSlot (st % 512) p) p y
      | none => false)

/-- Bytes of the codestream unit of a stream are poisoned (R690). -/
def Block.unitBad (b : Block) (st o n : Nat) : Bool :=
  decide (st ≠ noStream) && b.ownStream st && (match b.sourceHeld (st % 512) with
    | some p => (match b.heldSlot (st % 512) p with
      | some (a, _) => b.poisoned (a + o) n
      | none => false)
    | none => false)

/-- The codestream unit that consumers of a kind 1 stream show: its frame's, or the chunks released last (R236, R355). -/
def Block.sourceUnit (b : Block) (st : Nat) : Option (List Byte) :=
  if st = noStream then none
  else if b.ownStream st then (b.sourceHeld (st % 512)).map Held.pic
  else match b.ringOf (bowStream st) with
    | some i => let a := (b.rings.look i).asm; if a.isEmpty then none else some ((a.map Prod.snd).flatten)
    | none => none

/-- The ancillary packets of the frame of a stream (R200, R210, R357). -/
def Block.sourceAnc (b : Block) (st : Nat) : List AncPkt :=
  if st = noStream then []
  else if b.ownStream st then
    match b.sourceHeld (st % 512) with
    | some p => p.anc
    | none => []
  else match b.ringOf (bowStream st) with
    | some i => (b.rings.look i).anc
    | none => []

/-- Payload identifier bytes 3 and 4 of a source's frame (R188, R208). -/
def Block.sourceMeta (b : Block) (st : Nat) : Option Nat :=
  if st ≠ noStream ∧ b.ownStream st then (b.sourceHeld (st % 512)).bind Held.meta_ else none

/-! ### The origin stamp (R278 to R280) -/

/-- A word of a type 2 packet: the byte, even parity of it, and the inverse of that (R278). -/
def ancWord (v : Nat) : Nat :=
  let p := (List.range 8).foldl (fun a i => (a + bit (bitOf v i)) % 2) 0
  v % 256 + p * 256 + (1 - p) * 512

/-- The checksum word of ST 291-1 over the words from the DID on: the sum of their nine low bits, and the inverse of its bit 8. -/
def ancSum (l : List Nat) : Nat :=
  let s := (l.map (· % 512)).sum % 512
  s + (1 - s / 256) * 512

/-- The words of a packet from its DID to its checksum. -/
def ancWords (did sdid : Nat) (data : List Nat) : List Nat :=
  let l := ([did, sdid, data.length] ++ data).map ancWord
  l ++ [ancSum l]

/-- The 16 bytes of a stamp for a record, sent by an output (R278 to R280). -/
def stampBytes (r : FrameRec) (stale repeated : Bool) (emitter : Nat) : List Byte :=
  let u := leBytes 1 (16 + min 15 (r.hops + 1)) ++ leBytes 1 (r.okind % 4 + bit stale * 4 + bit repeated * 8) ++ leBytes 6 (r.origin / 1000000000)
    ++ leBytes 4 (r.origin % 1000000000) ++ leBytes 2 emitter
  u ++ leBytes 2 (fletcher16 u)

/-- The words of a stamp (R278). -/
def stampWords (u : List Byte) : List Nat := ancWords 0x52 0x0C (u.map BitVec.toNat)

/-- `FSEQ` of the frame that output `t` sent last, with its stream. -/
def Block.lastSent (b : Block) (t : Nat) : Option (Nat × Nat) := if t < 128 then (b.tx t).sent else (b.txf (t - 128)).sent

/-- The stamp of the frame that output `t` sends, none without a source (R211, R280). -/
def Block.outStamp (b : Block) (t : Nat) : List Nat :=
  match b.outRecord t with
  | some r =>
    stampWords (stampBytes r (b.on F.FRESH_STATUS_STALE t) (b.lastSent t == some (r.fseq, b.fld F.COX_TGT_VID_VID_SRC t)) (b.me * 512 + t))
  | none => []

/-- What output `t` sends is noted for the next frame's `REPEAT` (R280). -/
def Block.noteSent (b : Block) (t : Nat) : Block :=
  let x := (b.outRecord t).map fun r => (r.fseq, b.fld F.COX_TGT_VID_VID_SRC t)
  if t < 128 then b.updTx t fun s => { s with sent := x } else b.updFlowTx (t - 128) fun f => { f with sent := x }

/-! ### Lines of a serial signal (R205 to R212) -/

/-- Lines of payload identifiers and of the stamp; of audio control packets, the second after each switching point (PRESUMED, log 199); of error detection
packets (RP 165) (R207 to R209, R472). -/
def pidLines (c : Nat) : List Nat := if c = 1 then [13, 276] else if c = 2 then [9, 322] else if c ≤ 5 then [10] else [10, 572]
def stampLine (c : Nat) : Nat := if c = 1 then 14 else if c = 2 then 10 else 11
def controlLines (c : Nat) : List Nat :=
  if c = 1 then [12, 275] else if c = 2 then [8, 321] else if fmtInterlaced c then [9, 571] else [9]
def edhLines (c : Nat) : List Nat := if c = 1 then [9, 272] else if c = 2 then [5, 318] else []

/-- A line of the second field (ST 125, BT.656, ST 274). -/
def secondField (c line : Nat) : Bool :=
  if c = 1 then decide (266 ≤ line) || decide (line < 4) else if c = 2 then decide (313 ≤ line) else fmtInterlaced c && decide (564 ≤ line)

/-- The start of line `line` of frame `n` on the raster that output `t` counts, in device time: lines of the data structure (R187, R205). -/
def Block.outLineTime (b : Block) (t n line : Nat) : Nat :=
  let c := b.tgtFormat t
  b.frameStart (b.tgtTl t) n + (line - 1) * rateDen (fmtRate c) * secUnit / (rateNum (fmtRate c) * fmtWireLines c)

/-- When the line leaves: `L` + 2 line periods after the start of its frame, and `TX_OFS` sample periods (R205). -/
def Block.lineDue (b : Block) (t n line : Nat) : Int :=
  let c := b.tgtFormat t
  let ofs : Int := if t < 128 then b.sfld F.SDI_TX_OFS_TX_OFS t else 0
  Int.ofNat (b.outLineTime t n (line + 3)) + ofs * Int.ofNat (rateDen (fmtRate c) * secUnit) / Int.ofNat (rateNum (fmtRate c) * fmtWireLines c * fmtSpl c)

/-- The house samples of a line: those whose time lies in its period (R356). -/
def samplesBetween (t0 t1 : Nat) : List Nat := (List.range (sampleAt t1 - sampleAt t0)).map (sampleAt t0 + ·)

/-- What an output slot carried at a recent house sample. -/
def Block.outAt (b : Block) (n o : Nat) : Int :=
  match b.aud.past.find? fun e => e.1 == n with
  | some e => e.2.2.look o
  | none => 0
def Block.inAt (b : Block) (n s : Nat) : Int :=
  match b.aud.past.find? fun e => e.1 == n with
  | some e => e.2.1.look s
  | none => 0

/-- The output slot of channel `i` of output `t`'s embedded audio, none beyond its range (R465, R468, R472). -/
def Block.embedSlot (b : Block) (t i : Nat) : Option Nat :=
  if t < 128 then some (32 * t + i)
  else if i < b.fld F.AUD_OUTMAP_COUNT (t - 128) then some (b.fld F.AUD_OUTMAP_FIRST (t - 128) + i) else none

/-- The embedded audio of a line: each of its samples, in groups of four channels, groups 1 to 8 or on SD 1 to 4; silent without a source (R211, R472). -/
def Block.embedded (b : Block) (t n line : Nat) (silent : Bool) : List (Nat × Nat × List Int) :=
  let c := b.tgtFormat t
  (samplesBetween (b.outLineTime t n line) (b.outLineTime t n (line + 1))).flatMap fun k =>
    (List.range (fmtGroups c)).map fun g => (k, g + 1, (List.range 4).map fun i =>
      match b.embedSlot t (4 * g + i) with
      | some o => if silent then 0 else b.outAt k o
      | none => 0)

/-- The payload identifier of link `k` of `n` (R208). -/
def Block.pidOf (b : Block) (t n k : Nat) (look : TxLook) : List Nat :=
  let c := b.tgtFormat t; let quad := decide (n = 4)
  let divd := decide (t < 128) && b.on F.SDI_TX_CFG_DIV_2SI t; let lvb := decide (t < 128) && b.on F.SDI_TX_CFG_LEVEL_B t
  let rest := look.pidOvr <|> b.sourceMeta (b.fld F.COX_TGT_VID_VID_SRC t)
  let b3 := (rest.map (· % 256)).getD (Config.pidSdr c 3)
  let b4 := (rest.map (· / 256 % 256)).getD (Config.pidSdr c 4)
  [Config.pidByte 1 c quad divd lvb, Config.pidByte 2 c quad divd lvb, b3, if quad then Config.pidLink b4 k else b4]

/-- The links of an output. -/
def Block.outLinks (b : Block) (t : Nat) : Nat := if t < 128 ∧ b.on F.SDI_TX_CFG_QUAD t then 4 else 1

/-- Line `line` of frame `n` as output `t` sends it: of a kind (see `LineSent`), with its rows (R205 to R212, R237, R472). -/
def Block.lineSent (b : Block) (t n line kind : Nat) (look : TxLook) (rows : List (List Byte)) : LineSent :=
  let c := b.tgtFormat t
  if kind = 4 then { (default : LineSent) with kind := 4, due := b.lineDue t n line }
  else
    let bare := decide (2 ≤ kind)
    { kind := kind, due := b.lineDue t n line, field2 := secondField c line, blanking := (rowsOnLine c line false).isEmpty
      number := if fmtSD c then none else some line, crc := !fmtSD c, edh := look.edh && decide (line ∈ edhLines c)
      pid := if look.pid ∧ line ∈ pidLines c then (List.range (b.outLinks t)).map fun k => b.pidOf t (b.outLinks t) k look else []
      stamp := if look.stamp ∧ line = stampLine c ∧ ¬bare then b.outStamp t else []
      anc := if bare then [] else (b.sourceAnc (b.ancAt t n line)).filter fun p => p.line == line
      audio := if look.emb then b.embedded t n line bare else []
      control := if look.emb ∧ line ∈ controlLines c then (List.range (fmtGroups c)).map (· + 1) else []
      rows := rows }

/-- The rows that a line sends: its source's, black, or the flat colour, each with the output's marker (R211, R212, R459). -/
def Block.lineRows (b : Block) (t n kind : Nat) (look : TxLook) (ys : List Nat) (got : List (Option (List Byte))) : List (List Byte) :=
  let c := b.tgtFormat t; let w := fmtW c
  if kind = 4 then []
  else ys.zipIdx.map fun y =>
    b.markRow t c n y.1 (match kind with
      | 0 => ((got[y.2]?).bind id).getD (flatRow w 64 512 512)
      | 3 => flatRow w look.y look.cb look.cr
      | _ => flatRow w 64 512 512)

/-- What output `t` has sent of its frame from stream `st`, for its tap (R494, R690). -/
def Block.keepRows (b : Block) (t st : Nat) (ys : List Nat) (rows : List (List Byte)) (subst : Bool) : Block :=
  { b with outFrames := b.outFrames.upd t fun o =>
      { rows := (ys.zip rows).foldl (fun m y => m.put y.1 y.2) o.rows, subst := o.subst || subst
        bad := o.bad || ys.any fun y => b.streamBad st y } }

/-- A new frame of output `t` begins to be kept. -/
def Block.newRows (b : Block) (t : Nat) : Block := { b with outFrames := b.outFrames.upd t fun _ => default }

/-- The rows that the source of a line has for it, where it has them all. -/
def Block.lineGot (b : Block) (st : Nat) (ys : List Nat) (live : Option (List (List Byte))) : List (Option (List Byte)) :=
  ys.zipIdx.map fun y => b.sourceRow st y.1 (live.bind fun l => l[y.2]?)

/-- SDI_TX_LINE: transmitter `n` sends a line of a frame, its frame start `off` ns from the time of R205; `live` gives the rows of a line-locked source as they stand
in its line buffer, none where they are not there (R191, R205 to R212, R380). -/
def sdiTxLine (n frame line off : Nat) (live : Option (List (List Byte))) (b : Block) : Block :=
  if b.txState n = 0 ∨ b.txQuadMember n ∨ ¬b.txNext n frame line then b
  else
    let b := b.ite (line == 1) fun b => (b.judgeMismatch n).newRows n
    let c := b.fld F.SDI_TX_CFG_FORMAT n
    let ys := rowsOnLine c line (b.on F.SDI_TX_CFG_QUAD n && !b.on F.SDI_TX_CFG_DIV_2SI n)
    let got := b.lineGot (b.vidAt n frame line) ys live
    let (kind, b) := b.txLine n frame line off (got.all Option.isSome)
    let look := (b.tx n).look
    let rows := b.lineRows n frame kind look ys got
    let b := b.ite (b.txState n != 1) fun b => b.keepRows n (b.vidAt n frame line) ys rows (kind == 1)
    let b := b.ite ((b.txLanes n).all b.laneSends) fun b => b.emit (.lineOut n frame line (b.lineSent n frame line kind look rows))
    (b.ite (b.txState n != 1 && line == stampLine c) fun b => b.noteSent n).txLineEnd n line

/-! ### Packets of transmit flows (R237, R245 to R253) -/

/-- Samples of two bytes packed as ST 2110-20 packs them: four of 10 bits in five bytes, the first in the high bits. -/
def packGroups (l : List Byte) : List Byte :=
  ((List.range (l.length / 8)).map fun g =>
    beBytes 5 (le l (8 * g) 2 % 1024 * 2 ^ 30 + le l (8 * g + 2) 2 % 1024 * 2 ^ 20 + le l (8 * g + 4) 2 % 1024 * 2 ^ 10 + le l (8 * g + 6) 2 % 1024)).flatten

/-- What an IP video output looks like as a serial transmitter (R237); it has no colour of its own, and code 1 of `NOSRC` gives black (log 200). -/
def Block.flowLook (b : Block) (i : Nat) : TxLook :=
  { nosrc := b.fld F.IPM_TX_CFG_NOSRC i, y := 64, cb := 512, cr := 512, pid := true, stamp := b.on F.IPM_TX_CFG_OSTAMP_EN i, emb := true, edh := true
    pidOvr := none }

/-- A line of a flow's picture is missing: sent black and counted (R252). -/
def Block.flowSubst (b : Block) (i : Nat) : Block := (b.bump F.IPM_TX_SUBST_CNT_COUNT i 1).set F.IPM_TX_HIST_LINE_SUBST i

/-- The sample row packet `j` of flow `i` for timeline frame `n` (R246): its row, from the picture in transmission order, cut at 480 pixels. -/
def Block.rowPacket (b : Block) (i n j : Nat) (live : Option (List (List Byte))) : PktBody × Block :=
  let t := 128 + i; let c := b.fld F.IPM_TX_CFG_FORMAT i; let per := (fmtPixels c + 479) / 480
  let k := j / per; let part := j % per
  let y := ((rowOrder c false)[k]?).getD 0
  let st := b.vidAt t n (lineOfRow c y)
  let bare := (b.txf i).bare
  let got := b.lineGot st [y] live
  let kind := if bare then 2 else if got.all Option.isSome then 0 else 1
  let b := b.ite (kind == 1 && part == 0) fun b => b.flowSubst i
  let rows := b.lineRows t n kind (b.flowLook i) [y] got
  let b := b.keepRows t st [y] rows (kind == 1)
  let w := min 480 (fmtPixels c - 480 * part)
  let second := fmtInterlaced c && decide (fmtActive c / 2 ≤ k)
  (.row ⟨if second then k - fmtActive c / 2 else k, second, 480 * part, packGroups (bytesAt (rows.headD []) (4 * 480 * part) (4 * w))⟩, b)

/-- The lines of the serial stream that datagram `j` of flow `i` is cut from, in format frame `f` (R249): each with whether the datagram holds its first byte. -/
def streamLines (c f j : Nat) : List (Nat × Bool) :=
  let lb := fmtLineWords c * 10 / 8; let o := 1376 * j - f * fmtStreamBytes c
  let first := o / lb; let last := min ((o + 1375) / lb) (fmtWireLines c - 1)
  (List.range (last + 1 - first)).map fun k => (first + k + 1, decide (o ≤ (first + k) * lb))

/-- The serial stream of datagram `j` of flow `i` (R237, R249): the lines it is cut from, as a serial transmitter would send them; what follows the frame's last line
is the first of the next, in the datagram after. -/
def Block.streamPacket (b : Block) (i n j : Nat) (live : Option (List (List Byte))) : PktBody × Block :=
  let t := 128 + i; let c := b.fld F.IPM_TX_CFG_FORMAT i; let f := b.fmtFrame c n
  let look := b.flowLook i
  (streamLines c f j).foldl (fun (a : PktBody × Block) l =>
    let b := a.2
    let ys := rowsOnLine c l.1 false
    let got := b.lineGot (b.vidAt t n l.1) ys live
    let kind := if (b.txf i).bare then (if look.nosrc = 1 then 3 else 2) else if got.all Option.isSome then 0 else 1
    let b := b.ite (kind == 1 && l.2) fun b => b.flowSubst i
    let rows := b.lineRows t n kind look ys got
    let b := b.keepRows t (b.vidAt t n l.1) ys rows (kind == 1)
    let x := (l.1, b.lineSent t n l.1 kind look rows)
    let b := b.ite (l.1 == stampLine c && l.2) fun b => b.noteSent t
    match a.1 with
    | .serial o ls => (.serial o (ls ++ [x]), b)
    | y => (y, b)) (.serial (1376 * j - f * fmtStreamBytes c) [], b)

/-- The samples of audio packet `n` of flow `i`: of each of its output slots from the first that `AUD_MAP` gave it (R247, R465, R468). -/
def Block.audioPacket (b : Block) (i n : Nat) : PktBody :=
  let f := b.txf i; let kind := b.fld F.IPM_TX_CFG_KIND i
  let per := if kind = 3 ∧ b.on F.IPM_TX_CFG_PTIME i then 6 else 48; let ch := if kind = 4 then 2 * f.format else f.format
  .audio ((List.range per).map fun k => (List.range ch).map fun c => match b.aud.txMap.look (i - 128) with
    | some (o, m) => if c < m then b.outAt (n * per + k) (o + c) else 0
    | none => 0)

/-- Packets laid into payloads of some octets in order: one that fits no payload that is left is dropped. -/
def ancFill (room : Nat) : Nat → List AncPkt → List (List AncPkt) × Nat
  | 0, l => ([], l.length)
  | k + 1, l =>
    let sizes := l.map ancOctets
    let n := ((List.range (l.length + 1)).filter fun m => decide ((sizes.take m).sum ≤ room)).length - 1
    let r := ancFill room k (l.drop n)
    (l.take n :: r.1, r.2)

/-- Ancillary packet `j` of flow `i` (R248, R391): the passed packets of its output's frame or field, the stamp in the first packet of a frame. -/
def Block.ancPacket (b : Block) (i n j : Nat) : PktBody × Block :=
  let v := (b.txf i).assoc; let t := 128 + v; let c := b.flowFmt i
  let bare := !b.outHasSource t
  let half := fmtHalf (b.fld F.TL_CFG_RATE (fmtTl c)) c
  let second := fmtInterlaced c && half && n % 2 == 1
  let all := if bare then [] else (b.sourceAnc (b.ancAt t n 4096)).filter fun p => !(fmtInterlaced c && half) || secondField c p.line == second
  let (ps, lost) := ancFill (Config.ancPacketOctets - 8) (b.fld F.IPM_TX_CFG_ANC_PKTS i + 1) all
  let b := b.ite (j == 0 && lost != 0) fun b => (b.bump F.IPM_TX_DROP_CNT_COUNT i lost).set F.IPM_TX_HIST_ANC_OVF i
  let stamp := if j = 0 ∧ ¬second ∧ b.on F.IPM_TX_CFG_OSTAMP_EN i then b.outStamp t else []
  (.anc ((ps[j]?).getD []) stamp, b)

/-- MEDIA_PACKET_TX: packet `j` of transmit flow `k` for timeline frame `n` (for kinds 3 and 4 the packet number S / n of R247), `late` ns behind its time; `live`
gives the rows of a line-locked source (R231, R232, R237, R244 to R253, R380). -/
def mediaPacketTx (k n j late : Nat) (live : Option (List (List Byte))) (b : Block) : Block :=
  let kind := b.fld F.IPM_TX_CFG_KIND k; let st := b.fld F.IPM_TX_STATUS_STATE k
  let opens := b.pktOpens k n j
  if st = 0 ∨ ¬b.pktDue k n j ∨ (st = 1 ∧ ¬opens) then b
  else
    let b := b.ite opens fun b => (b.ite (decide (kind ≤ 2)) fun b => (b.judgeMismatch (128 + k)).newRows (128 + k)).flowFrameStart k
    let b := (b.setTo F.IPM_TX_STATUS_RED_ON k (b.legOn k false)).setTo F.IPM_TX_STATUS_BLUE_ON k (b.legOn k true)
    let bare := (b.txf k).bare
    let unit : List Byte := if kind = 1 ∧ ¬bare then (b.sourceUnit (b.vidAt (128 + k) n 1)).getD [] else []
    let unit := if b.unitBad (b.vidAt (128 + k) n 1) 0 unit.length then [] else unit
    let last := b.pktLast k j unit.length
    -- without a source, code 2 sends nothing, and of kind 1 there is no black codestream (R252; log 200)
    if decide (kind ≤ 2) && bare && (b.fld F.IPM_TX_CFG_NOSRC k == 2 || kind == 1) then b.flowTxEnd k last
    else if kind = 1 ∧ j ≠ 0 ∧ unit.length ≤ 1200 * j then b
    else
      let x : PktBody × Nat × Block := match kind with
        | 0 => let r := b.rowPacket k n j live; (r.1, 1, r.2)
        | 1 => (.bytes (bytesAt unit (1200 * j) (min 1200 (unit.length - 1200 * j))), (unit.length + 1199) / 1200, b.keepRows (128 + k) noStream [0] [unit] false)
        | 2 => let r := b.streamPacket k n j live; (r.1, 1, r.2)
        | 5 => let r := b.ancPacket k n j; (r.1, b.fld F.IPM_TX_CFG_ANC_PKTS k + 1, r.2)
        | _ => (b.audioPacket k n, 1, b)
      let b := x.2.2.pktOut k n j x.2.1 late last x.1
      (b.ite (decide (kind ≤ 1) && last) fun b => b.noteSent (128 + k)).flowTxEnd k last

/-! ### Strokes (R320, R327, R329, R335, R353 to R357, R471) -/

/-- An ancillary entry (R355). -/
def ancEntry (p : AncPkt) : List Byte :=
  let d := leBytes 1 p.loc ++ leBytes 1 p.did ++ leBytes 1 p.sdid ++ leBytes 1 p.data.length ++ (p.data.map fun w => leBytes 2 (w % 1024)).flatten
  padTo ((d.length + 3) / 4 * 4) d

/-- `AUX` and payload of the audio stroke of source `s` for a line, with some channels, silent beyond `COUNT` (R355, R356, R471). -/
def Block.audioStroke (b : Block) (s frame line channels : Nat) : Option (Nat × List Byte) :=
  let fmt := b.srcFormat s; let tl := b.srcTl s
  let ks := samplesBetween (b.lineStart fmt tl frame line) (b.lineStart fmt tl frame (line + 1))
  let first := b.fld F.AUD_SRCMAP_FIRST s; let n := b.fld F.AUD_SRCMAP_COUNT s
  match ks with
  | [] => none
  | k :: _ =>
    if channels = 0 then none
    else some (k % 2 ^ 48 + channels * 2 ^ 48, (ks.flatMap fun k => (List.range channels).flatMap fun c =>
      leBytes 3 (patternOf 24 (if c < n then b.inAt k (first + c) else 0))))

/-- `AUX` and payload of a stroke of source `s` (R355, R356); `channels` those of an audio stroke, `live` the samples of a line-locked source's line. None where the
line has no such stroke. -/
def Block.strokeLoad (b : Block) (s typ frame line channels : Nat) (live : Option (List Byte)) : Option (Nat × List Byte) :=
  let stream := b.me * 512 + s
  match typ with
  | 1 =>
    if b.srcKind1 s then
      let u := (b.sourceUnit stream).getD []
      if line = 0 ∨ u.length ≤ 32768 * (line - 1) then none
      else some (u.length + (u.length + 32767) / 32768 * 2 ^ 32, bytesAt u (32768 * (line - 1)) (min 32768 (u.length - 32768 * (line - 1))))
    else ((rowOfLine (b.srcFormat s) line).bind fun y => b.sourceRow stream y live).map fun r => (0, pack10 r)
  | 2 => b.audioStroke s frame line channels
  | 3 =>
    let l := (b.sourceAnc stream).filter fun p => p.line == line
    if l = [] then none else some (l.length, (l.map ancEntry).flatten)
  | 4 =>
    let locked := decide (s < 256) && b.on F.STALL_STATUS_LL_ACTIVE s
    let c := b.srcFormat s
    let last := ((List.range (fmtLines c + 1)).filter fun l => (rowOfLine c l).isSome).foldl max 0
    if line ≠ (if locked then last + 1 else 1) then none
    else (if 256 ≤ s ∧ s < 288 then b.headRecord (s - 256) 0 else (b.sourceHeld s).map Held.rcd).map fun r => (0, recBytes r)
  | _ => none

/-- What the stroke of a type for a line would carry is poisoned: a row, a chunk of a codestream, an ancillary store (R296, R690). -/
def Block.strokeBad (b : Block) (s typ line : Nat) : Bool :=
  let stream := b.me * 512 + s
  match typ with
  | 1 =>
    if b.srcKind1 s then b.unitBad stream (32768 * (line - 1)) 32768
    else (match rowOfLine (b.srcFormat s) line with
      | some y => b.streamBad stream y
      | none => false)
  | 3 => (match b.sourceHeld s with
    | some p => (match b.heldSlot s p with
      | some (a, n) => n != 0 && b.poisoned (a + n - 36864) 32768
      | none => false)
    | none => false)
  | _ => false

/-- STROKE_TX: source `s` sends its stroke of a type for a line, at the start of line L + 3, once on each link that carries it; on the ports of `late` it cannot
arrive in time or finds its pool full (R191, R320, R327, R329, R338, R339, R355). A port with a subscription to all of the source has its channels; one with audio alone
has the subscribed ones (R471). None leaves while a heartbeat cause stands or the device is out of step (R536, R547), nor does one read poisoned (R690). -/
def strokeTx (s typ frame line : Nat) (late : List Nat) (live : Option (List Byte)) (b : Block) : Block :=
  let stream := b.me * 512 + s
  let fmt := if b.srcKind1 s then 0 else b.srcFormat s
  b.each (List.range 17) fun b q =>
    let carried (g : Grant) : Bool := g.on q stream && g.hop == 1 && contentHas g.content typ && g.sends frame && g.seats != 0
    let mine := b.grants.filter carried
    let ch := if mine.any (fun g => g.content == 0) then b.fld F.AUD_SRCMAP_COUNT s else (mine.map Grant.channels).foldl max 0
    let runs := b.sends && b.linkUp q && b.portUp q && !b.quadSource s && mine != []
    match if b.strokeBad s typ line then none else b.strokeLoad s typ frame line ch live with
    | none => b.ite (runs && b.strokeBad s typ line) fun b => b.bump F.FAB_TX_DROP_CNT_COUNT q 1
    | some (aux, payload) =>
      if runs then
        if b.withheld.look (wKey q stream) ∧ ¬(mine.any fun g => g.content != 0) then b.bump F.FAB_TX_DROP_CNT_COUNT q 1
        else if q ∈ late then b.bump F.FAB_TX_DROP_CNT_COUNT q 1
        else
          let m := strokeBytes typ stream frame line fmt (b.srcTl s) aux payload
          (b.bump F.FAB_TX_STROKE_CNT_COUNT q 1).putPacket q (.stroke q m) m
      else b

end Sys2Proof.Machine
end

