-- ==== Sys2Proof/Machine/Power.lean ====
section
/-!
DEFINITION. Power domains, the sequencer, voltage, the power cap, temperature, the safe state, sleep and wake (R655 to R679, R633, R733).
-/
namespace Sys2Proof.Machine

/-- The unit of a domain is enabled (R658). -/
def Block.unitOn (b : Block) (d : Nat) : Bool :=
  if d < 16 then (List.range 8).any fun i => b.on F.SDI_RX_CFG_EN (8 * d + i) || b.on F.SDI_TX_CFG_EN (8 * d + i)
  else if d < 33 then (b.port (d - 16)).state != 0
  else if d < 41 then b.on F.ETH_CFG_EN (d - 33)
  else if d < 73 then b.on F.HEAD_CFG_EN (d - 41)
  else if d < 77 then (b.on F.WIT_CFG_EN 0 && (List.range 2).any fun i => b.fld F.WIT_TAP_MASK_MASK (2 * (d - 73) + i) != 0) || b.on F.INC_CFG_EN 0
  else if d < 79 then b.on F.WIT_CFG_EN 0 || b.on F.INC_CFG_EN 0
  else if d < 81 then ((List.range 320).any fun j => b.on F.STALL_CTRL_EN j) || (List.range 32).any fun h => b.on F.HEAD_CFG_EN h
  else if d = 81 then
    ((List.range 16).any fun n => b.on F.SAP_CFG_RX_EN n || b.on F.SAP_CFG_TX_EN n) || (List.range 912).any fun g => b.grpState g != 0
  else if d = 86 then (List.range 32).any fun h => b.on F.HEAD_CFG_EN h
  else if d = 88 then (List.range 5).any fun m => b.on F.PLL_CTRL_EN m
  else if 89 ≤ d ∧ d < 93 then (List.range 320).any fun j => b.on F.STALL_CTRL_EN j && Config.stallEngine j % 4 == d - 89
  else if d = 93 then b.cox.takes.any fun e => e.2.live
  else if d = 94 then (List.range 17).any fun q => (b.port q).state != 0
  else false

/-- What a domain that is switched off loses beside its registers (R657). -/
def Block.unitLost (b : Block) (d : Nat) : Block :=
  let b := { b with lanes := b.lanes.filter fun e => laneDomain e.1 != some d }
  if d < 16 then
    { b with sdiRx := b.sdiRx.filter (fun e => e.1 / 8 != d), sdiTx := b.sdiTx.filter fun e => e.1 / 8 != d }
  else if d < 33 then onPort (d - 16) (fun b => { b with bring := b.bring.del (d - 16) }) b
  else if d < 41 then { b with eth := b.eth.del (d - 33) }
  else if d < 73 then
    { b with headSt := b.headSt.del (d - 41), colour := b.colour.filter fun e => e.1 / 34 != d - 41 }
  else if d < 77 then b.updWit fun w => { w with taps := w.taps.filter fun e => e.1 / 64 != d - 73 }
  else if d < 79 then b
  else if d < 81 then
    { b with yard := b.yard.filter (fun e => Config.yardStack e.1 % 2 != d - 79)
             flt := { b.flt with poison := b.flt.poison.filter (fun a => Config.yardStack (64 * a) % 2 != d - 79),
                                 ceRuns := b.flt.ceRuns.filter fun x => x.1 != d - 79 } }
  else if d = 81 then { b with aud := default }
  else if d = 86 then { b with guard := default }
  else if d = 88 then { b with pll := b.pll.filter fun e => decide (5 ≤ e.1) }
  else if 89 ≤ d ∧ d < 93 then
    { b with stalls := b.stalls.filter (fun e => Config.stallEngine e.1 % 4 != d - 89),
             watch := b.watch.filter fun e => Config.stallEngine (e.1 / 4) % 4 != d - 89 }
  else if d = 93 then { b with cox := default }
  else if d = 94 then
    { b with fabPorts := [], adverts := [], grants := [], withheld := [], subs := [], rings := [], asks := [], stored := [], mirrors := [] }
  else b

/-- A domain switched on or off (R657, R704). -/
def Block.domSet (b : Block) (d : Nat) (on : Bool) : Block :=
  if on then
    let b := b.setBit F.PWR_DOM_ON_ON (d / 32) (d % 32)
    b.each (List.range 26) fun b v =>
      if d ∈ countedDomains v then b.setFld F.BLK_POWERUP_CNT_COUNT v (b.fld F.BLK_POWERUP_CNT_COUNT v + 1) else b
  else
    let b := b.unitLost d
    let b := { b with regs := b.regs.filter fun e => domainOf (e.1 / 32) != some d }
    (b.clrBit F.PWR_DOM_ON_ON (d / 32) (d % 32)).updPwr fun p => { p with ramps := p.ramps.del d }

/-! ### The sequencer (R659 to R662) -/

/-- The charges made in the window that ends now. -/
def Block.windowCharge (b : Block) : Nat :=
  ((b.pwr.charges.filter fun c => decide (b.time.raw < c.1 + b.fld F.PWR_CFG_STEP_WIN 0 * 1000)).map Prod.snd).sum

/-- A charge fits the budget (R659). -/
def Block.chargeFits (b : Block) (a : Nat) : Bool := decide (b.windowCharge + a ≤ b.fld F.PWR_CFG_STEP_BUDGET 0 * chargeUnit)

/-- A charge made now; those too old for any window are forgotten. -/
def Block.charge (b : Block) (a : Nat) : Block :=
  b.updPwr fun p => { p with charges := (b.time.raw, a) :: p.charges.filter fun c => decide (b.time.raw < c.1 + 100000) }

/-- The charge of the next of the equal stages in which `left` is made (R661). -/
def Block.stageCharge (b : Block) (left : Nat) : Nat :=
  let n := (left + b.fld F.PWR_CFG_STEP_BUDGET 0 * chargeUnit - 1) / (b.fld F.PWR_CFG_STEP_BUDGET 0 * chargeUnit)
  (left + n - 1) / n

def Block.pwrState (b : Block) : Nat := b.fld F.PWR_STATUS_STATE 0

/-- Guard content after a reset or a wake: the bitmaps empty and the block at its reset values, the last accepted counter as the flash log
has it (R673). -/
def Block.guardReset (b : Block) : Block :=
  let b := { b with guard := default, regs := b.regs.filter fun e => e.1 / 32 / 0x100000 != 0x0D || decide (e.1 / 32 % 0x100000 < 0x100) }
  let lo := b.regionBase 1 * gib
  let b := { b with yard := b.yard.filter fun e =>
    !(decide (lo ≤ e.1) && decide ((e.1 - lo) / 67108864 < 32) && decide (62914560 ≤ (e.1 - lo) % 67108864)) }
  let c := b.flash.largest 3
  ((b.setFld F.GUARD_CTR_LO_CTR 0 c).setFld F.GUARD_CTR_HI_CTR 0 (c / 2 ^ 32)).set F.GUARD_HIST_CONTENT_RESET 0

/-- The sequencer has nothing left to do: sleep is entered, or a wake completes (R671, R675). -/
def Block.seqIdle (b : Block) : Block :=
  if b.pwr.queue.isEmpty then
    match b.pwrState with
    | 1 => (b.setFld F.PWR_STATUS_STATE 0 2).set F.PWR_HIST_SLEEP_ENTERED 0
    | 3 =>
      let b := b.guardReset.ite (b.on F.TWIN_CFG_EN 0) fun b => b.setFld F.TWIN_STATUS_STATE 0 4
      (b.setFld F.PWR_STATUS_STATE 0 0).set F.PWR_HIST_WAKE_DONE 0
    | _ => b
  else b

/-- DOMAIN_SWITCH: the change at the head of the queue, or its next stage, is charged and made, if it fits (R659 to R661). -/
def domainSwitch (b : Block) : Block :=
  match b.pwr.queue with
  | [] => b
  | c :: rest =>
    let a := b.stageCharge c.left
    if b.chargeFits a then
      let b := b.charge a
      if a < c.left then b.updPwr fun p => { p with queue := { c with left := c.left - a } :: rest }
      else
        let b := (b.updPwr fun p => { p with queue := rest }).domSet c.dom c.on
        (b.ite c.last fun b => b.set F.PWR_HIST_DOMAIN_DONE 0).seqIdle
    else b

/-- RUN_RAMP_STEP: the enabled unit of domain `d` draws step `i` of its 16 run-charge steps, spread over `RUN_RAMP_US`; `late` when it starts before its
ramp ends, and takes the rest at once (R662). -/
def runRampStep (d i : Nat) (late : Bool) (b : Block) : Block :=
  let done := if i = 0 then 0 else b.pwr.ramps.look d
  let due := i == 0 || decide (16 * b.pwr.rampT.look d + i * b.fld F.PWR_CFG_RUN_RAMP_US 0 * 1000 ≤ 16 * b.time.raw)
  if ¬b.unitOn d ∨ done ≠ i ∨ 16 ≤ i then b
  else
    let b := b.ite (i == 0) fun b => b.updPwr fun p => { p with ramps := p.ramps.put d 0, rampT := p.rampT.put d b.time.raw }
    if late then
      let b := (b.charge (runCharge d * 15 * (16 - i))).updPwr fun p => { p with ramps := p.ramps.put d 16 }
      (b.bump F.STEP_OVER_CNT_COUNT 0 1).set F.PWR_HIST_STEP_OVER 0
    else if due && b.chargeFits (runCharge d * 15) then (b.charge (runCharge d * 15)).updPwr fun p => { p with ramps := p.ramps.put d (i + 1) }
    else b

/-! ### Voltage and the power cap (R663 to R668) -/

/-- AVS_POLL: voltage in mV and current in mA are read back (R663). -/
def avsPoll (mv ma : Nat) (b : Block) : Block := b.updPwr fun p => { p with sum := p.sum + mv * ma, samples := p.samples + 1 }

/-- The target of R664. -/
def Block.avsTarget (b : Block) : Nat :=
  clampNat 680 820 ((b.fld F.AVS_STATUS_FLOOR_MV 0 + 5 * b.fld F.PWR_CFG_AVS_MARGIN 0 + 4) / 5 * 5)

/-- AVS_TARGET_STEP: the monitors give the floor; the target moves by at most 5 mV, and never below the floor (R664, R665). -/
def avsTargetStep (floor : Nat) (b : Block) : Block :=
  let floor := min floor 1023
  let was := decide (820 < b.fld F.AVS_STATUS_FLOOR_MV 0)
  let b := b.setFld F.AVS_STATUS_FLOOR_MV 0 floor
  let b := b.setFld F.AVS_STATUS_VDD_MV 0 (max (toward (b.fld F.AVS_STATUS_VDD_MV 0) b.avsTarget 5) (min floor 820))
  if 820 < floor then
    let b := b.set F.PWR_HIST_AVS_LIMIT 0
    if was then b else b.fault 0 0x0B 0 true false
  else b

/-- Cap step `n` in force: `PROXY_DIV`, and suspended head stall writes with 3 (R666). -/
def Block.capTo (b : Block) (n : Nat) : Block :=
  ((b.setFld F.PWR_STATUS_CAP_STEP 0 n).setFld F.WIT_CFG_PROXY_DIV 0 (min n 2)).set F.PWR_HIST_CAP_STEPPED 0

/-- CAP_EVAL: once per second the average power is compared with the cap (R666, R667, R669). -/
def capEval (b : Block) : Block :=
  let uw := if b.pwr.samples = 0 then b.fld F.PWR_STATUS_POWER_DW 0 * 100000 else b.pwr.sum / b.pwr.samples
  let b := b.setFld F.PWR_STATUS_POWER_DW 0 (min (uw / 100000) 65535)
  let b := b.updPwr fun p => { p with sum := 0, samples := 0 }
  let cap := b.fld F.PWR_CAP_CAP_W 0; let step := b.fld F.PWR_STATUS_CAP_STEP 0
  let above := cap != 0 && decide (cap * 1000000 < uw)
  let low := cap == 0 || decide (uw + b.fld F.PWR_CAP_CAP_HYST 0 * 1000000 < cap * 1000000)
  let unmet := above && step == 3
  let b := (b.setTo F.PWR_STATUS_CAP_UNMET 0 unmet).ite unmet fun b => b.set F.PWR_HIST_CAP_UNMET 0
  if above ∨ b.on F.PWR_STATUS_TEMP_WARN 0 then
    (b.updPwr fun p => { p with below := 0 }).ite (decide (step < 3)) fun b => b.capTo (step + 1)
  else if low ∧ 9 ≤ b.pwr.below then (b.updPwr fun p => { p with below := 0 }).ite (decide (0 < step)) fun b => b.capTo (step - 1)
  else b.updPwr fun p => { p with below := if low then p.below + 1 else 0 }

/-! ### The safe state and temperature (R633, R669, R670) -/

/-- The device enters the safe state. -/
def Block.safeEntry (b : Block) : Block :=
  let b := b.set F.BIST_STATUS_SAFE 0
  let b := onPorts (fun b =>
    let b := b.each (List.range 17) fun b q => b.portDisable q
    b.each ((List.range 345).filter fun l => !(decide (332 ≤ l) && decide (l ≤ 335)) && l != 344 && b.fld F.LANE_CTRL_POWER l != 3) fun b l =>
      b.lanePowerTo l 3) b
  b.hbSettle

/-- Thermal shutdown (R670): the heartbeat stops, the safe state is entered, and the domains outside the sleep set go off. -/
def Block.thermalShutdown (b : Block) : Block :=
  if b.on F.PWR_STATUS_THERMAL_SHUTDOWN 0 then b
  else
    let b := ((b.set F.PWR_STATUS_THERMAL_SHUTDOWN 0).set F.PWR_HIST_THERMAL_SHUTDOWN 0).safeEntry
    b.queueDoms ((List.range 96).filter fun d => !sleepSet d) false false

/-- The highest of some readings, with its place; the first among equals. -/
def highestReading : List Int → Nat → Int × Nat
  | [], _ => (-32768, 0)
  | [x], k => (x, k)
  | x :: t, k => let r := highestReading t (k + 1); if r.1 ≤ x then (x, k) else r

/-- TEMP_SAMPLE: the on-die sensors are read, in 0.1 °C (R669, R670). -/
def tempSample (readings : List Int) (b : Block) : Block :=
  let tj := (highestReading readings 0).1
  let b := (b.setSfld F.PWR_TEMP_TJ 0 tj).setFld F.PWR_TEMP_HOT_SENSOR 0 (highestReading readings 0).2
  let warn := b.on F.PWR_STATUS_TEMP_WARN 0
  let b := if 1000 ≤ tj then (if warn then b else (b.set F.PWR_STATUS_TEMP_WARN 0).set F.PWR_HIST_THERMAL_WARN 0)
    else if tj < 950 then b.clr F.PWR_STATUS_TEMP_WARN 0 else b
  if 1100 ≤ tj then b.thermalShutdown else b

/-! ### Sleep and wake (R671 to R676) -/

/-- A wake by source `c`; sleep under entry stops at the next domain step (R674 to R676). -/
def Block.wake (b : Block) (c : Nat) : Block :=
  if b.pwrState = 1 ∨ b.pwrState = 2 then
    let b := ((b.setBit F.PWR_WAKE_CAUSE_CAUSE 0 c).setFld F.PWR_STATUS_STATE 0 3).updPwr fun p => { p with queue := [] }
    (b.queueDoms ((List.range 96).filter fun d => b.bitAt F.PWR_SLEEP_MASK_MASK (d / 32) (d % 32)) true false).seqIdle
  else b

/-- WAKE_EVENT: source `c` of R674, for a timer with its number. -/
def wakeEvent (c n : Nat) (b : Block) : Block :=
  match c with
  | 0 => b.wake 0
  | 1 => b.ite (b.on F.PWR_WAKE_EN_FAB_WAKE 0) fun b => b.wake 1
  | 2 => b.ite (b.on F.PWR_WAKE_EN_TMR_WAKE 0 && b.bitAt F.PWR_WAKE_EN_TMR_MASK 0 n) fun b => b.wake 2
  | _ => b

/-- TIMER_FIRE, which may wake the device (R117, R674). -/
def timerFireWake (n : Nat) (b : Block) : Block :=
  (timerFire n b).ite (b.on F.TMR_CFG_ARM n && decide (b.time.tmrNext.look n ≤ b.time.now)) fun b => wakeEvent 2 n b

/-- WAKE_RX: a `WAKE` with the device's own tag brings the port to four lanes (1) or wakes the device (2) (R369, R674). -/
def wakeRx (q : Nat) (p : Packet) (b : Block) : Block :=
  b.ctrlRx q 0x16 p fun m b =>
    if le m 24 4 ≠ b.fld F.FAB_TAG_TAG 0 then b
    else if le m 20 1 = 1 then onPort q (fun b => b.ite ((b.port q).state != 0 || b.keepAlive q) fun b => b.portAcquire q) b
    else if le m 20 1 = 2 then wakeEvent 1 0 b
    else b

/-! ### Commands (R678) -/

/-- PWR_STATUS, 0x0C01. -/
def pwrStatus (ch : Nat) (p : List Byte) (b : Block) : Block :=
  b.command ch 0x0C01 true p.isEmpty [] []
    fun b => b.ok ch (leBytes 1 b.pwrState ++ leBytes 1 (b.fld F.PWR_STATUS_CAP_STEP 0) ++ leBytes 2 (b.wordOf W.PWR_HIST 0 % 512)
      ++ leBytes 2 (b.fld F.PWR_STATUS_POWER_DW 0) ++ leBytes 2 (b.fld F.PWR_TEMP_TJ 0) ++ leBytes 2 (b.fld F.AVS_STATUS_VDD_MV 0)
      ++ leBytes 2 (b.fld F.AVS_STATUS_FLOOR_MV 0) ++ ((List.range 3).map fun i => leBytes 4 (b.fld F.PWR_DOM_ON_ON i)).flatten
      ++ b.word4 W.PWR_WAKE_CAUSE 0 ++ zeroBytes 4)

/-- PWR_DOMAIN, 0x0C02 (R12, R658, R660, R676); the domain of an unused fabric port stays off (log 161). -/
def pwrDomain (ch : Nat) (p : List Byte) (b : Block) : Block :=
  let ds := onesAt 96 (le p 0 12); let on := le p 12 1 == 1
  b.command ch 0x0C02 true (p.length == 16)
    [(!(decide (le p 12 1 ≤ 1) && zeros p 13 3) || ds.any sleepSet, St.BAD_ARG), (ds.any fun d => !b.domHas d, St.UNIT_ABSENT)]
    [(b.pwrState != 0 || (!on && ds.any b.unitOn) || (on && ds.any b.domUnused), St.NOT_READY)]
    fun b =>
      let b := b.updPwr fun s => { s with off := (List.range 96).filter fun d => if d ∈ ds then !on else decide (d ∈ s.off) }
      (b.queueDoms ds on true).answer ch St.ACCEPTED []

/-- PWR_SET, 0x0C03. -/
def pwrSet (ch : Nat) (p : List Byte) (b : Block) : Block :=
  b.command ch 0x0C03 true (p.length == 8)
    [(!(decide (10 ≤ le p 0 1) && decide (1 ≤ le p 1 1) && decide (le p 1 1 ≤ 100) && decide (1 ≤ le p 2 1) && decide (le p 3 1 ≤ 15)
      && decide (1 ≤ le p 6 1) && decide (le p 6 1 ≤ 50) && zeros p 7 1), St.BAD_ARG)] []
    fun b =>
      let b := b.storeWord W.PWR_CFG 0 (le p 0 4)
      (b.storeWord W.PWR_CAP 0 (le p 4 3)).ok ch []

/-- A unit outside the sleep set is enabled; fabric ports keep lane 0 alive in sleep, and the fabric core, the yard and the synthesizers serve
units and are none themselves (R671). -/
def Block.sleepBarred (b : Block) : Bool :=
  (List.range 96).any fun d => !(sleepSet d || (decide (16 ≤ d) && decide (d < 33)) || d == 88 || d == 94) && b.unitOn d

/-- PWR_SLEEP, 0x0C04 (R671, R673). -/
def pwrSleep (ch : Nat) (p : List Byte) (b : Block) : Block :=
  let fl := le p 0 1
  b.command ch 0x0C04 true (p.length == 8) [(!(decide (fl ≤ 3) && zeros p 1 1 && le p 4 4 == 0x5151), St.BAD_ARG)]
    [(b.pwrState != 0 || b.twinState == 1 || b.sleepBarred || b.fld F.GUARD_LOCK_LOCK 0 != 0, St.NOT_READY)]
    fun b =>
      let b := ((b.setTo F.PWR_WAKE_EN_FAB_WAKE 0 (bitOf fl 0)).setTo F.PWR_WAKE_EN_TMR_WAKE 0 (bitOf fl 1)).setFld F.PWR_WAKE_EN_TMR_MASK 0 (le p 2 2)
      let b := b.each [0, 1, 2] fun b i => b.setFld F.PWR_SLEEP_MASK_MASK i (b.fld F.PWR_DOM_ON_ON i)
      let b := b.setFld F.PWR_STATUS_STATE 0 1
      let b := onPorts (fun b => b.each ((List.range 17).filter fun q => decide (q + 2 ≤ b.fabN)) fun b q => b.lanePowerTo (256 + 4 * q) 2) b
      ((b.queueDoms ((List.range 96).filter fun d => !sleepSet d) false false).seqIdle).answer ch St.ACCEPTED []

end Sys2Proof.Machine
end

