-- ==== Sys2Proof/Machine/Fault.lean ====
section
/-!
DEFINITION. Faults: `FAULT_N`, fault bits, retries and their outcome, memory errors and row repair, injection (R680 to R699).
-/
namespace Sys2Proof.Machine

def Block.updFlt (b : Block) (f : FaultSt → FaultSt) : Block := { b with flt := f b.flt }

/-- A block has a fault bit set. -/
def Block.faulty (b : Block) (v : Nat) : Bool := b.on F.BLK_FAULT_FAULT_TRANSIENT v || b.on F.BLK_FAULT_FAULT_LASTING v

/-- `FAULT_N` is held low (R684). -/
def Block.faultNLow (b : Block) : Bool :=
  b.fld F.BIST_STATUS_PHASE 0 != 7 || b.on F.BIST_STATUS_SAFE 0
    || (b.released && (List.range 26).any fun v => b.bitAt F.FAULTN_CFG_MASK 0 v && b.faulty v)

/-! ### Clearing (R682, R707) -/

/-- A lasting fault of a block whose cause holds: its code and instance. -/
def Block.lastingCause (b : Block) (v : Nat) : Option (Nat × Nat) :=
  match v with
  | 0x00 =>
    if b.pllState 7 = 3 then some (0x03, 7) else if 820 < b.fld F.AVS_STATUS_FLOOR_MV 0 then some (0x0B, 0)
    else if b.safetyReset then some (0x0A, 0) else b.sys.lasting.head?.map fun k => (0x09, k)
  | 0x03 => ((List.range 8).find? fun m => (b.synth m).timedOut).map fun m => (0x02, m)
  | 0x04 => ((List.range 345).find? fun l => b.on F.LANE_STATUS_LASTING l).map fun l => (0x01, l)
  | 0x0F => ([0, 1].find? fun d => b.driveState d == 3).map fun d => (0x07, d)
  | _ => none

/-- Fault bits of a block cleared: bit 0 transient, bit 1 lasting; a lasting fault whose cause holds is set again (R682). -/
def Block.faultClear (b : Block) (v which : Nat) : Block :=
  let b := b.ite (bitOf which 0) fun b => b.clr F.BLK_FAULT_FAULT_TRANSIENT v
  if bitOf which 1 ∧ b.on F.BLK_FAULT_FAULT_LASTING v then
    let b := b.clr F.BLK_FAULT_FAULT_LASTING v
    match b.lastingCause v with
    | some (c, i) => b.fault v c i true false
    | none => b
  else b

/-- FAULT_BIT_CLEAR: a management core or the safety core writes ones to `BLK_FAULT` of block `v` (R682). -/
def faultBitClear (v w : Nat) (b : Block) : Block := (b.faultClear v w).hbSettle

/-! ### Engines, drives, the stroke buffer (R685, R686) -/

/-- The blocks whose engines are checked. -/
def checkedBlock (v : Nat) : Bool := v == 0x06 || v == 0x08 || v == 0x09 || v == 0x0C || v == 0x0B || v == 0x10

/-- The domain of an engine. -/
def engineDomain (v inst : Nat) : Option Nat :=
  match v with
  | 0x06 => some (inst / 8)
  | 0x09 => some (89 + inst)
  | 0x0C => some (41 + inst)
  | 0x0B => some 93
  | 0x0A => some 94
  | _ => none

/-- A retry is not made: the domain is off or the block is under self-test (R686). -/
def Block.noRetry (b : Block) (v inst : Nat) : Bool :=
  b.selftest v || (match engineDomain v inst with
    | some d => !b.domOn d
    | none => false)

/-- ENGINE_CHECK_FAIL: a parity or check failure in an engine; it starts afresh at its next frame boundary, and a repeat within 16 frames is
lasting (R685). -/
def engineCheckFail (v inst : Nat) (b : Block) : Block :=
  if ¬checkedBlock v then b
  else if b.noRetry v inst then (b.fault v 0x06 inst true false).hbSettle
  else if (v, inst) ∈ b.flt.windows then ((b.updFlt fun f => { f with windows := f.windows.erase (v, inst) }).fault v 0x06 inst true false).hbSettle
  else b.updFlt fun f => { f with windows := f.windows ++ [(v, inst)] }

/-- FAULT_RETRY_WINDOW_END: no repeat within 16 frames of an engine's new start, or within 60 s of a core's; the fault was transient (R685). -/
def faultRetryWindowEnd (v inst : Nat) (b : Block) : Block :=
  if (v, inst) ∈ b.flt.windows then
    (b.updFlt fun f => { f with windows := f.windows.erase (v, inst) }).fault v (if v = 0 then 0x09 else 0x06) inst false false
  else b

/-- NVME_COMMAND_ERROR: an NVMe command of drive `d` fails and is resent, and then completes or fails again (R685). -/
def nvmeCommandError (d : Nat) (ok : Bool) (b : Block) : Block :=
  if d < b.nvmePorts then
    (b.bump F.WIT_DRV_ERR_CNT_COUNT d (if ok then 1 else 2)).fault 0x0F 0x07 d (!ok || b.selftest 0x0F || !b.domOn (77 + d)) false
  else b

/-- MARCH_TEST_DONE: the march test of a row of the stroke buffer passes, or its repair does, or no spare is left (R685). -/
def marchTestDone (bank : Nat) (passes repaired : Bool) (b : Block) : Block :=
  b.fault 0x0A 0x05 bank (!(passes || repaired) || b.noRetry 0x0A 0) false

/-! ### The yard (R688 to R692) -/

/-- A row's bank has its spare, and no repair of it is under way. -/
def Block.spareFree (b : Block) (s bank : Nat) : Bool :=
  !decide ((s, bank) ∈ b.flt.spares) && !(b.flt.repairs.any fun r => r.1 == s && r.2.1 == bank)

/-- `SPARES_LEFT`. -/
def Block.sparesLeft (b : Block) (s : Nat) : Nat := Config.banksPerStack - (b.flt.spares.filter fun x => x.1 == s).length

/-- SCRUB_PASS: pass number `pass` reads a unit of a row, and corrects it when `ce` (R688, R689); a row that gives correctable errors in
`CE_ROW_LIM` consecutive passes is repaired (R691). -/
def scrubPass (s bank row pass : Nat) (ce : Bool) (b : Block) : Block :=
  if ¬ce ∨ b.stacks ≤ s then b
  else
    let b := (b.bump F.HBMC_CE_CNT_COUNT s 1).set F.HBMC_HIST_CE 0
    let here (x : Nat × Nat × Nat × Nat × Nat) : Bool := x.1 == s && x.2.1 == bank && x.2.2.1 == row
    let run := match b.flt.ceRuns.find? here with
      | some (_, _, _, last, n) => if pass = last then n else if pass = last + 1 then n + 1 else 1
      | none => 1
    if b.fld F.HBMC_CFG_CE_ROW_LIM 0 ≤ run ∧ b.spareFree s bank then
      b.updFlt fun f => { f with ceRuns := f.ceRuns.filter fun x => !here x, repairs := f.repairs ++ [(s, bank, row, false)] }
    else b.updFlt fun f => { f with ceRuns := f.ceRuns.filter (fun x => !here x) ++ [(s, bank, row, pass, run)] }

/-- The address of the first poisoned read is kept (R690). -/
def Block.hbmcErr (b : Block) (addr : Nat) : Block :=
  if b.flt.errHeld then b
  else
    let a := 0x8000000000 + addr
    (((b.setFld F.HBMC_ERR_LO_ADDR 0 a).setFld F.HBMC_ERR_HI_ADDR 0 (a / 2 ^ 32))).updFlt fun f => { f with errHeld := true }

/-- YARD_UE: a read of the yard at offset `addr` is uncorrectable, and so is the second when `twice`: the data is poisoned and the row is
repaired, or has no spare left (R690, R691). -/
def yardUe (s bank row addr : Nat) (twice : Bool) (b : Block) : Block :=
  if b.stacks ≤ s then b
  else
    let barred := b.selftest 0x16 || !b.domOn (79 + s)
    if ¬twice then (b.fault 0x16 0x04 s barred false).hbSettle
    else
      let b := ((b.bump F.HBMC_UE_CNT_COUNT s 1).set F.HBMC_HIST_UE 0).hbmcErr addr
      let b := b.updFlt fun f => { f with poison := if addr / 64 ∈ f.poison then f.poison else f.poison ++ [addr / 64] }
      let same := b.flt.repairs.any fun r => r.1 == s && r.2.1 == bank && r.2.2.1 == row
      if barred then (b.fault 0x16 0x04 s true false).hbSettle
      else if same then b.updFlt fun f => { f with repairs := f.repairs.map fun r => if r.1 = s ∧ r.2.1 = bank then (s, bank, row, true) else r }
      else if b.spareFree s bank then b.updFlt fun f => { f with repairs := f.repairs ++ [(s, bank, row, true)] }
      else (b.fault 0x16 0x04 s true false).hbSettle

/-- ROW_REPAIR_DONE: a row's contents are in the spare, and the check passes or fails (R691). -/
def rowRepairDone (s bank row : Nat) (ok : Bool) (b : Block) : Block :=
  match b.flt.repairs.find? fun r => r.1 == s && r.2.1 == bank && r.2.2.1 == row with
  | none => b
  | some (_, _, _, ue) =>
    let b := b.updFlt fun f => { f with
      repairs := f.repairs.filter fun r => !(r.1 == s && r.2.1 == bank), spares := f.spares ++ [(s, bank)]
      rows := if ok then f.rows ++ [(s, bank, row)] else f.rows }
    let b := (b.set F.HBMC_HIST_SPARES_OUT 0).ite ok fun b => (b.set F.HBMC_HIST_REPAIRED 0).bump F.HBMC_REPAIR_REPAIRED s 1
    (b.ite ue fun b => b.fault 0x16 0x04 s (!ok) false).hbSettle

/-! ### FAULT_CLEAR (R698) -/

/-- FAULT_CLEAR, 0x0D06 (R682, R698). -/
def faultClearCmd (ch : Nat) (p : List Byte) (b : Block) : Block :=
  let vs := onesAt 32 (le p 0 4)
  b.command ch 0x0D06 true (p.length == 8)
    [(!(decide (le p 0 4 < 2 ^ 26) && decide (le p 4 1 ≤ 3) && zeros p 5 3), St.BAD_ARG), (vs.any fun v => !b.has v, St.UNIT_ABSENT)] []
    fun b => ((b.each vs fun b v => b.faultClear v (le p 4 1)).hbSettle).ok ch []

end Sys2Proof.Machine
end

