-- ==== Sys2Proof/Machine/Mbx.lean ====
section
/-!
DEFINITION. Mailboxes: slots, the request state table, epochs, locks, responses, and the checks on a taken request (R576 to R600).
-/
namespace Sys2Proof.Machine

def Block.updMbx (b : Block) (f : MbxSt → MbxSt) : Block := { b with mbx := f b.mbx }

/-! ### Slots and states (R583, R585) -/

def Block.slotGet (b : Block) (o n : Nat) : List Byte := (List.range n).map fun i => b.mbx.mem.look (o + i)
def Block.slotPut (b : Block) (o : Nat) (l : List Byte) : Block :=
  b.updMbx fun m => { m with mem := (l.foldl (fun (s : Bank Byte × Nat) x => (s.1.put s.2 x, s.2 + 1)) (m.mem, o)).1 }
/-- Host-area offsets of the slots of a channel. -/
def reqSlot (c : Nat) : Nat := 0x10000 + 2048 * c
def rspSlot (c : Nat) : Nat := 0x10400 + 2048 * c

/-- `REQ_STATE`: 0 IDLE, 1 POSTED, 2 TAKEN, 3 WITHDRAWN. -/
def Block.reqState (b : Block) (c : Nat) : Nat := b.fld F.CH_STATUS_REQ_STATE c
def Block.setReq (b : Block) (c st : Nat) : Block := b.setFld F.CH_STATUS_REQ_STATE c st
/-- Something of a channel is discarded. -/
def Block.chDiscard (b : Block) (c : Nat) : Block := b.bump F.CH_DISCARD_CNT_COUNT c 1

/-- The core that serves a host channel or the safety channel: 0 to 3, or 4 for the safety core (R582). -/
def serverOf (c : Nat) : Nat := if c = 32 then 4 else c % 4
/-- The domain of that core. -/
def serverDomain (c : Nat) : Nat := 82 + serverOf c

/-- A host write to a request slot (R585); response slots take none (R587). -/
def Block.slotWrite_ (b : Block) (o : Nat) (l : List Byte) : Block :=
  let c := (o - 0x10000) / 2048
  if 32 < c ∨ 1024 ≤ (o - 0x10000) % 2048 then b
  else if b.reqState c = 0 then b.slotPut o l
  else (b.chDiscard c).set F.CH_HIST_WRITE_DISCARDED c

/-- DOORBELL: a request is posted, or the doorbell is discarded (R585); it is a wake event (R588, R674). -/
def doorbell (c : Nat) (b : Block) : Block :=
  if b.reqState c = 0 ∧ ¬b.on F.CH_STATUS_RSP_READY c then
    let b := (b.setReq c 1).updMbx fun m => { m with posted := m.posted.put c (some b.time.raw) }
    if 32 < c then b
    else if b.pwrState = 1 ∨ b.pwrState = 2 then b.wake 0
    else b.ite (b.pwrState == 0 && !b.domOn (serverDomain c)) fun b => b.queueDoms [serverDomain c] true false
  else (b.chDiscard c).set F.CH_HIST_DOORBELL_DISCARDED c

/-- RSP_ACK (R587). -/
def rspAck (c : Nat) (b : Block) : Block := b.clr F.CH_STATUS_RSP_READY c

/-- WITHDRAW (R585). -/
def withdraw (c : Nat) (b : Block) : Block :=
  match b.reqState c with
  | 0 => b.setReq c 3
  | 1 => b.setReq c 3
  | 2 => b.set F.CH_HIST_WITHDRAW_LATE c
  | _ => b

/-- OPEN (R585). -/
def openSlot (c : Nat) (b : Block) : Block := b.ite (b.reqState c == 3) fun b => b.setReq c 0

/-- The timeout of a posted request has run out, and has not been shown (R585). -/
def Block.postedDue (b : Block) (c : Nat) : Bool :=
  b.reqState c == 1 && match b.mbx.posted.look c with
    | some t => decide (t + b.fld F.CH_TMO_TMO_MS c * 1000000 ≤ b.time.raw)
    | none => false

/-- REQUEST_TIMEOUT: `TMO_MS` have elapsed since the doorbell (R585). -/
def requestTimeout (c : Nat) (b : Block) : Block :=
  b.ite (b.postedDue c) fun b => (b.set F.CH_HIST_TIMED_OUT c).updMbx fun m => { m with posted := m.posted.put c none }

/-! ### Taking a request (R590, R598, R644) -/

/-- The commands of the manual. -/
def knownCommand (c : Nat) : Bool :=
  let n := c % 256
  match c / 256 with
  | 0x01 => decide (1 ≤ n) && decide (n ≤ 4)
  | 0x02 => decide (1 ≤ n) && decide (n ≤ 11)
  | 0x03 => decide (n ∈ [0x01, 0x02, 0x03, 0x04, 0x10, 0x11, 0x20, 0x21, 0x22, 0x30, 0x31, 0x32, 0x33, 0x34, 0x35, 0x40, 0x41, 0x42, 0x43])
  | 0x04 => decide (n ∈ [0x01, 0x02, 0x10, 0x11, 0x20, 0x21])
  | 0x05 => decide (1 ≤ n) && decide (n ≤ 7)
  | 0x06 => (decide (1 ≤ n) && decide (n ≤ 8)) || n == 0x10 || n == 0x11
  | 0x07 => decide (1 ≤ n) && decide (n ≤ 7)
  | 0x08 => (decide (1 ≤ n) && decide (n ≤ 7)) || n == 0x10 || n == 0x11
  | 0x09 => decide (1 ≤ n) && decide (n ≤ 5)
  | 0x0A => decide (1 ≤ n) && decide (n ≤ 6)
  | 0x0B => (decide (1 ≤ n) && decide (n ≤ 7)) || n == 0x10
  | 0x0C => decide (1 ≤ n) && decide (n ≤ 4)
  | 0x0D => decide (1 ≤ n) && decide (n ≤ 6)
  | _ => false

/-- The commands that the boot ROM serves when no firmware could be loaded (R644). -/
def romCommand (c : Nat) : Bool := decide (c ∈ [0x0101, 0x0B01, 0x0B02, 0x0B03, 0x0B04])

/-- The first check that a request slot fails before its command is looked at: its status, and whether the epochs changed. -/
def Block.slotFail (b : Block) (c : Nat) (h : List Byte) : Option (Nat × Bool) :=
  let n := le h 2 2
  if crc32 (h.take (32 + min n 960)) ≠ le h 992 4 then some (St.BAD_CRC, false)
  else if ¬(le h 12 1 = 1 ∧ n ≤ 960 ∧ le h 14 2 = c) then some (St.BAD_LENGTH, false)
  else if le h 8 2 = 0 ∨ le h 8 2 ≠ b.fld F.CH_EPOCH_HOST_EPOCH c ∨ le h 10 2 ≠ b.fld F.CH_EPOCH_DEV_EPOCH c then some (St.CANCELLED, true)
  else if ¬knownCommand (le h 0 2) then some (St.BAD_COMMAND, false)
  else if ¬b.start.booted ∧ ¬romCommand (le h 0 2) then some (St.NOT_READY, false)
  else none

/-- REQUEST_TAKE: the firmware takes a posted request and checks the slot; a request that passes runs as its command's own row (R585, R588,
R590, R598). -/
def requestTake (c : Nat) (b : Block) : Block :=
  if b.reqState c = 1 ∧ b.on F.CH_STATUS_SERVED c ∧ (c ≤ 32 → b.domOn (serverDomain c)) then
    let h := b.slotGet (reqSlot c) 1024
    let fail := b.slotFail c h
    let b := (b.setReq c 2).updMbx fun m =>
      { m with taken := m.taken.put c (some ⟨le h 0 2, le h 6 2, b.time.raw, (fail.map Prod.snd).getD false, false⟩) }
    match fail with
    | some (st, _) => b.no c st
    | none => b
  else b

/-- An event of channel `c`; a take that falls on the same cycle is made first (R586, R591). -/
def afterTake (tie : Bool) (c : Nat) (f : Block → Block) (b : Block) : Block := f (b.ite tie (requestTake c))

/-- The response slot of a channel: its first 32 bytes and payload, and the bytes from 992 on (R583, R584). -/
def Block.responseBytes (b : Block) (c : Nat) (t : TakenReq) (r : Reply) : List Byte :=
  leBytes 2 t.cmd ++ leBytes 2 r.data.length ++ leBytes 2 r.status ++ leBytes 2 t.seq ++ leBytes 2 (b.fld F.CH_EPOCH_HOST_EPOCH c)
    ++ leBytes 2 (b.fld F.CH_EPOCH_DEV_EPOCH c) ++ leBytes 1 1 ++ leBytes 1 (1 + 2 * bit t.changed) ++ leBytes 2 c ++ leBytes 8 t.raw ++ zeroBytes 8 ++ r.data

/-- RESPONSE_POST: the response of a taken request is posted, or discarded after an epoch write (R585, R587, R591). -/
def responsePost (c : Nat) (b : Block) : Block :=
  match b.mbx.taken.look c, b.replies.look c with
  | some t, some r =>
    if b.reqState c ≠ 2 ∨ b.on F.CH_STATUS_RSP_READY c then b
    else
      let d := b.responseBytes c t r
      let b := ({ b with replies := b.replies.del c }.updMbx fun m => { m with taken := m.taken.del c }).setReq c 0
      if t.void then (b.chDiscard c).set F.CH_HIST_RSP_DISCARDED c
      else
        let b := (b.slotPut (rspSlot c) d).slotPut (rspSlot c + 992) (leBytes 4 (crc32 d) ++ zeroBytes 28)
        (b.set F.CH_STATUS_RSP_READY c).set F.CH_HIST_RSP_POSTED c
  | _, _ => b

/-! ### Locks (R595 to R597) -/

def Block.lockOwner (b : Block) (l : Nat) : Nat := b.fld F.LOCK_OWNER_OWNER l

/-- One owner reads the alias of a lock (R595). -/
def Block.lockTake (b : Block) (l owner : Nat) : Block :=
  if b.lockOwner l = 0 then (b.setFld F.LOCK_OWNER_OWNER l owner).emit (.read 0) else b.emit (.read (b.lockOwner l))

/-- The owners of a list in ascending order. -/
def insertNat (x : Nat) : List Nat → List Nat
  | [] => [x]
  | y :: t => if x ≤ y then x :: y :: t else y :: insertNat x t
def sortNat (l : List Nat) : List Nat := l.foldr insertNat []

/-- LOCK_READ: owners read the alias of lock `l` in one cycle; the lowest takes a free lock (R595, R596). -/
def lockRead (owners : List Nat) (l : Nat) (b : Block) : Block := b.each (sortNat owners) fun b o => b.lockTake l o

/-- LOCK_RELEASE_WRITE: `owner` writes `v` to its alias of lock `l` (R597). -/
def lockReleaseWrite (owner l v : Nat) (b : Block) : Block :=
  if b.lockOwner l ≠ owner then b.set F.MBX_HIST_LOCK_MISUSE 0
  else if v % 64 = 0 then b.setFld F.LOCK_OWNER_OWNER l 0
  else b

/-- Every lock of an owner is released (R591, R593). -/
def Block.locksFree (b : Block) (owner : Nat) : Block :=
  b.each (List.range 64) fun b l => if b.lockOwner l = owner then b.setFld F.LOCK_OWNER_OWNER l 0 else b

/-! ### Epochs and resets (R589 to R593) -/

/-- HOST_EPOCH_WRITE: the host writes `HOST_EPOCH` of channel `c` (R591). -/
def hostEpochWrite (c v : Nat) (b : Block) : Block :=
  let b := if b.reqState c = 1 ∨ b.reqState c = 3 then (b.setReq c 0).chDiscard c else b
  let b := b.ite (b.on F.CH_STATUS_RSP_READY c) fun b => (b.clr F.CH_STATUS_RSP_READY c).chDiscard c
  let b := b.ite (b.reqState c == 2) fun b => b.updMbx fun m => { m with taken := m.taken.put c ((m.taken.look c).map fun t => { t with void := true }) }
  let b := b.ite (decide (c < 32)) fun b => b.locksFree (c + 1)
  b.setFld F.CH_EPOCH_HOST_EPOCH c v

/-- FUNCTION_LEVEL_RESET: an epoch write of 0 on every host channel and the safety channel, and `BAR2_WIN` at its reset value (R592, R716). -/
def functionLevelReset (b : Block) : Block := (b.each (List.range 33) fun b c => hostEpochWrite c 0 b).clr F.BAR2_WIN_GIB 0

/-- The next `DEV_EPOCH` (R589). -/
def nextEpoch (e : Nat) : Nat := if e % 65536 = 65535 then 1 else e % 65536 + 1

/-- CORE_RESTART: management core `k`, or the safety core with 4, restarts (R593); the safety core is then out of reset (R557). -/
def coreRestart (k : Nat) (b : Block) : Block :=
  let b := if k = 4 then { b with safetyReset := false } else b
  (b.locksFree (33 + k)).each ((List.range 33).filter fun c => serverOf c == k) fun b c =>
    let b := (b.setFld F.CH_EPOCH_DEV_EPOCH c (nextEpoch (b.fld F.CH_EPOCH_DEV_EPOCH c))).set F.CH_HIST_DEV_RESTARTED c
    if b.reqState c = 2 then
      (b.no c St.CANCELLED).updMbx fun m => { m with taken := m.taken.put c ((m.taken.look c).map fun t => { t with changed := true }) }
    else b

/-- A write of `CH_CTRL[c]`: the commands of its bits, lowest first. -/
def Block.chCtrlWrite (b : Block) (c v : Nat) : Block :=
  let b := b.ite (bitOf v 0) (doorbell c)
  let b := b.ite (bitOf v 1) (rspAck c)
  let b := b.ite (bitOf v 2) (withdraw c)
  b.ite (bitOf v 3) (openSlot c)

/-! ### BAR2 (R579, R580) -/

/-- BAR2_WIN_WRITE (R580). -/
def bar2WinWrite (v : Nat) (b : Block) : Block :=
  if v % 64 + 1 ≤ b.yardGiB then b.setFld F.BAR2_WIN_GIB 0 (v % 64) else b.reject 0x11 F.MBX_HIST_CFG_REJECTED 0

/-- A range of the yard touches a guard bitmap: in the heads region, at the end of a head's 64 MiB (R445). -/
def Block.inBitmap (b : Block) (a n : Nat) : Bool :=
  (List.range b.heads).any fun h => decide (a < b.bitmapBase h + 4194304) && decide (b.bitmapBase h < a + n) && decide (64 * h < 1024 * b.regionSize 1)

/-- A host write through BAR2 may be made: within the still-store region, or the free region above the others (R579). -/
def Block.bar2Open (b : Block) (a n : Nat) : Bool :=
  (decide (b.regionBase 3 * gib ≤ a) && decide (a + n ≤ (b.regionBase 3 + b.regionSize 3) * gib))
    || (decide (b.regionBase 5 * gib ≤ a) && decide (a + n ≤ b.yardGiB * gib))

end Sys2Proof.Machine
end

