-- ==== Sys2Proof/Machine/Sys.lean ====
section
/-!
DEFINITION. The `SYS` block and the system and log commands (R580, R600 to R603, R708 to R711).
-/
namespace Sys2Proof.Machine

/-! ### Watchdogs (R710) -/

/-- The count of core `k` starts again. -/
def Block.wdtStart (b : Block) (k : Nat) : Block := { b with sys := { b.sys with kicks := b.sys.kicks.put k b.time.raw } }

/-- WDT_KICK: the count of core `k` starts again; a core that kicks runs, and its fault no longer holds (R685). -/
def wdtKick (k : Nat) (b : Block) : Block := { b with sys := { b.sys with lasting := b.sys.lasting.erase k } }.wdtStart k

/-- The count of core `k` has reached `TMO_MS`; after a lasting fault the core restarts every 60 s (R685, R710). -/
def Block.wdtDue (b : Block) (k : Nat) : Bool :=
  b.on F.SYS_WDT_EN k
    && decide (b.sys.kicks.look k + (if k ∈ b.sys.lasting then 60000 else b.fld F.SYS_WDT_TMO_MS k) * 1000000 ≤ b.time.raw)

/-- The watchdog of core `k` has run out: the core restarts, and the fault is classed (R685, R710). -/
def Block.wdtFired (b : Block) (k : Nat) : Block :=
  let b := (((coreRestart k b).wdtStart k).setBit F.SYS_HIST_WDT_EXPIRED 0 k).setBit F.SYS_RESET_CAUSE_CORE_WDT 0 k
  if k ∈ b.sys.lasting then b
  else if (0, k) ∈ b.flt.windows then
    ({ b with sys := { b.sys with lasting := b.sys.lasting ++ [k] } }.updFlt fun f => { f with windows := f.windows.erase (0, k) }).fault 0 0x09 k true false
  else b.updFlt fun f => { f with windows := f.windows ++ [(0, k)] }

/-- WDT_EXPIRY: the count of core `k` reaches `TMO_MS` (R685, R710). -/
def wdtExpiry (k : Nat) (b : Block) : Block := if 3 < k ∨ ¬b.wdtDue k then b else b.wdtFired k

/-- A write of `SYS_WDT[k]`. -/
def Block.wdtWrite (b : Block) (k v : Nat) : Block := (b.storeWord W.SYS_WDT k v).ite (bitOf v 17) (wdtKick k)

/-! ### Core restarts (R709) -/

/-- `SYS_RESET_CTRL` is written with the right key. -/
def resetKey (v : Nat) : Bool := v / 65536 % 65536 == 0xA5A5

/-- CORE_RST: `SYS_RESET_CTRL` is written: cores 1 to 3 restart as its bits say (R709). -/
def coreRst (v : Nat) (b : Block) : Block :=
  if resetKey v then b.each ([1, 2, 3].filter fun k => bitOf v k) fun b k => coreRestart k b
  else b.reject 0 F.SYS_HIST_CFG_REJECTED 0

/-! ### GPIO (R711) -/

/-- The level at ball `n`, and its change. -/
def Block.gpioLevel (b : Block) (n : Nat) (level : Bool) : Block :=
  if b.bitAt F.GPIO_IN_LEVEL 0 n = level then b
  else
    let b := if level then b.setBit F.GPIO_IN_LEVEL 0 n else b.clrBit F.GPIO_IN_LEVEL 0 n
    b.ite (b.bitAt F.GPIO_EDGE_EN_EN 0 n) fun b => (b.setBit F.GPIO_EDGE_CHANGED 0 n).set F.SYS_HIST_GPIO_CHANGED 0

/-- Driven pins take their level; one that failed self-test stays an input (R634). -/
def Block.gpioDrive (b : Block) : Block :=
  b.each (List.range 32) fun b n => if b.bitAt F.GPIO_DIR_OUT 0 n ∧ ¬b.pinBad (gpioPin n) then b.gpioLevel n (b.bitAt F.GPIO_OUT_LEVEL 0 n) else b

/-- GPIO_CHANGE: the board changes the level of a pin that the device does not drive. -/
def gpioChange (n : Nat) (level : Bool) (b : Block) : Block :=
  if 32 ≤ n ∨ b.bitAt F.GPIO_DIR_OUT 0 n then b else b.gpioLevel n level

/-! ### Commands -/

/-- Seconds since release. -/
def Block.uptime (b : Block) : Nat := if b.released then (b.time.raw + 2 ^ 64 - b.start.relRaw) % 2 ^ 64 / 1000000000 % 2 ^ 32 else 0

/-- The fields that say whether a block has a fault, a bit for each block (R680). -/
def Block.faultMask (b : Block) (f : Field) : Nat := (List.range 26).foldl (fun a v => a + b.fld f v * 2 ^ v) 0

/-- DEVICE_INFO, 0x0101 (R2, R650). -/
def deviceInfo (ch : Nat) (p : List Byte) (b : Block) : Block :=
  b.command ch 0x0101 true p.isEmpty [] []
    fun b => b.answer ch (if b.start.defaulted then St.SETTINGS_DEFAULTED else St.OK)
      (padTo 16 b.dev.devId ++ leBytes 1 b.dev.variant ++ leBytes 1 Config.siliconRev ++ leBytes 1 b.lifeCycle ++ leBytes 1 b.dev.fabId
        ++ leBytes 1 (bit b.dev.idInvalid + 2 * bit b.keys.root.isSome) ++ zeroBytes 3 ++ leBytes 4 b.start.version ++ leBytes 4 b.dev.compat
        ++ leBytes 4 b.dev.bootEpoch ++ leBytes 4 b.unitsMask ++ leBytes 1 128 ++ leBytes 1 b.ethMedia ++ leBytes 1 b.heads ++ leBytes 1 b.nvmePorts
        ++ leBytes 1 17 ++ leBytes 1 b.encoders ++ leBytes 1 b.yardGiB ++ leBytes 1 16 ++ leBytes 2 32 ++ leBytes 2 16 ++ leBytes 4 b.uptime
        ++ zeroBytes 8)

/-- SYS_PING, 0x0102. -/
def sysPing (ch : Nat) (p : List Byte) (b : Block) : Block :=
  b.command ch 0x0102 true (decide (p.length ≤ 960)) [] [] fun b => b.ok ch p

/-- SYS_RESET, 0x0103 (R601): the restart comes 1 ms after the response. -/
def sysReset (ch : Nat) (p : List Byte) (partnerInStep : Bool) (b : Block) : Block :=
  b.command ch 0x0103 true (p.length == 8)
    [(!(decide (le p 0 1 ≤ 1) && decide (le p 1 1 ≤ 1) && zeros p 2 2 && le p 4 4 == 0xA5A5), St.BAD_ARG)]
    [(b.twinState == 1 && partnerInStep && le p 1 1 == 0, St.NOT_READY)]
    fun b => (b.ok ch []).emit (if le p 0 1 = 0 then .coresSoon else .resetSoon)

/-- SYS_HEALTH, 0x0104. -/
def sysHealth (ch : Nat) (p : List Byte) (b : Block) : Block :=
  b.command ch 0x0104 true p.isEmpty [] []
    fun b => b.ok ch (leBytes 4 (b.faultMask F.BLK_FAULT_FAULT_LASTING) ++ leBytes 4 (b.faultMask F.BLK_FAULT_FAULT_TRANSIENT)
      ++ leBytes 2 (b.fld F.PWR_TEMP_TJ 0) ++ leBytes 2 (b.fld F.AVS_STATUS_VDD_MV 0) ++ leBytes 4 b.uptime
      ++ leBytes 4 (b.fld F.TWIN_HB_CAUSE_CAUSE 0) ++ zeroBytes 4)

/-- The size of the firmware log. -/
def logSize : Nat := 262144

/-- Text that the firmware has written to its log. -/
def Block.logText (b : Block) (t : List Byte) : Block :=
  b.updMbx fun m =>
    let l := m.log ++ t
    { m with log := l.drop (l.length - logSize), logFrom := (m.logFrom + (l.length - logSize)) % 2 ^ 32 }

/-- DIAG_LOG, 0x0D03: `text` is what the firmware has written since the log was last read. -/
def diagLog (ch : Nat) (p text : List Byte) (b : Block) : Block :=
  (b.logText text).command ch 0x0D03 true (p.length == 8) [(!(decide (1 ≤ le p 4 2) && decide (le p 4 2 ≤ 948) && zeros p 6 2), St.BAD_ARG)] []
    fun b =>
      let d := (le p 0 4 + 2 ^ 32 - b.mbx.logFrom) % 2 ^ 32
      let o := if d ≤ b.mbx.log.length then d else 0
      let t := (b.mbx.log.drop o).take (le p 4 2)
      b.ok ch (leBytes 4 (b.mbx.logFrom + o + t.length) ++ leBytes 4 b.mbx.logFrom ++ leBytes 2 t.length ++ zeroBytes 2 ++ t)

end Sys2Proof.Machine
end

