-- ==== Sys2Proof/Machine/Boot.lean ====
section
/-!
DEFINITION. Resets and the start up to the running firmware: power-on, `RESET_N`, device reset, the slot copies, the boot stages and the
self-test (R103, R594, R607 to R609, R616, R628 to R645, R702, R717, R720, R721, R733).
-/
namespace Sys2Proof.Machine

/-! ### Resets (R103, R594, R702) -/

/-- The device is held in reset by a pin or by the boundary register (R717, R720). -/
def Block.held (b : Block) : Bool := b.start.pinLow || b.start.clamped

/-- Writes in flight are cut as by a loss of power: the target bank of a settings write is not valid (R652, R721). -/
def FlashSt.cut (f : FlashSt) (saving : Option (Bool × Settings)) : FlashSt :=
  match saving with
  | some (t, _) => f.setBank t none
  | none => f

/-- A register of the battery domain: the tamper registers (R626). -/
def batteryReg (addr : Nat) : Bool := addr == 0x120010C || addr == 0x1200110

/-- What no reset changes: fuses, the battery domain, the flash, the drives, the levels of pins;
every register takes its reset value (R702). -/
def Block.resetAll (b : Block) : Block :=
  { (default : Block) with
    regs := b.regs.filter fun e => batteryReg (e.1 / 32)
    out := b.out
    free := b.free
    dev := { b.dev with bootEpoch := 0, compat := 0 }
    keys := { b.keys with meas := [], measured := false, scanZeroised := false, repaired := false, parts := [], keep := default, injected := [] }
    pins := b.pins
    wit := { (default : WitSt) with drives := b.wit.drives }
    flash := b.flash.cut b.start.saving
    start := { (default : StartSt) with pinLow := b.start.pinLow, clamped := b.start.clamped } }

/-- The causes of a reset, every one of them (R709). -/
def Block.resetCause (b : Block) (power device pin thermal : Bool) : Block :=
  (((b.setTo F.SYS_RESET_CAUSE_POWER_ON 0 power).setTo F.SYS_RESET_CAUSE_DEVICE 0 device).setTo F.SYS_RESET_CAUSE_PIN 0 pin).setTo
    F.SYS_RESET_CAUSE_THERMAL 0 thermal

/-- A reset other than by power-on: device time, its synchronised state and `TIME_RAW` run on (R103). -/
def Block.warmReset (b : Block) (device : Bool) : Block :=
  let b' := { b.resetAll with time := { (default : TimeSt) with raw := b.time.raw, now := b.time.now } }
  ((b'.setTo F.TIME_STATUS_SYNCED 0 b.synced).setTo F.REFS_STATUS_TIME_SYNCED 0 b.synced).resetCause false device (!device) (b.on F.PWR_STATUS_THERMAL_SHUTDOWN 0)

/-- The drives lose power with what their caches hold (R518, R523). -/
def Block.drivesCut (b : Block) : Block :=
  let (f, b) := b.fresh
  b.updWit fun w => { w with drives := w.drives.map fun e => (e.1, e.2.powerLoss f) }

/-- POWER_ON_RESET (R103, R702): `RESET_N` is low while the rails rise (R720). -/
def powerOnReset (b : Block) : Block := b.drivesCut.resetAll.updStart fun s => { s with pinLow := true }

/-- RESET_N_ASSERT (R721). -/
def resetNAssert (b : Block) : Block := (b.drivesCut.warmReset false).updStart fun s => { s with pinLow := true }

/-! ### Boot stages and slots (R636, R637, R641, R644, R650) -/

/-- Channels are opened (R588, R644). -/
def Block.openChannels (b : Block) (cs : List Nat) : Block := b.each cs fun b c => b.set F.CH_STATUS_SERVED c

/-- Default settings written in the running firmware's own format, to the bank that does not hold the highest valid generation (R650). -/
def Block.writeDefaults (b : Block) : Block :=
  let a := genOf b.flash.bankA; let c := genOf b.flash.bankB
  let t := b.flash.bankA.isSome && decide (c ≤ a)
  let s : Settings := ⟨b.ownFormat, max a c + 1, b.start.version, [], [], false, [], none, [], [], [], b.keys.keep⟩
  (b.updFlash fun f => f.setBank t (some s)).updStart fun st => { st with curB := t, defaulted := true }

/-- The image of a slot runs: its stages measured, the measurement closed, `REMAP` set, the settings read, the channels opened, and every
domain of a present unit queued on (R617, R628, R636, R648, R733). -/
def Block.bootImage (b : Block) (prev : Bool) : Block :=
  let slot := if prev then prevSlot else bootSlot
  let b := (b.each (b.flash.stages slot) fun b s => b.measure s).updKeys fun k => { k with measured := true }
  let b := { b with dev := { b.dev with compat := b.flash.compat slot } }
  let b := b.updStart fun s => { s with booted := true, copying := 0, tries := 0, inPrev := prev, version := b.flash.version slot, fallback := prev }
  let b := (b.set F.MATRIX_CTRL_REMAP 0).openChannels (List.range 33)
  let b := b.readKeep
  let b := match b.currentBank with
    | some t => b.updStart fun s => { s with curB := t }
    | none => b.writeDefaults
  let b := b.each [0x04, 0x0A, 0x15, 0x16] fun b v => b.set F.BLK_STATUS_SELFTEST v
  b.queueDoms ((List.range 96).filter fun d => b.domHas d && !sleepSet d) true false

/-- Neither slot verifies: the safe state without firmware, on host channel 0 (R644). -/
def Block.bootNone (b : Block) : Block := (b.safeEntry.setFld F.BIST_STATUS_RESULT 0 2).openChannels [0]

/-- The boot slot is booted, as the update state says (R641). -/
def Block.bootSlotRun (b : Block) : Block :=
  if b.updState = 5 then
    if b.trialCount < 3 ∧ b.flash.verifies bootSlot then (b.setUpdState 5 (b.trialCount + 1)).bootImage false
    else (b.setUpdState 6 0).updStart fun s => { s with copying := 3 }
  else if b.flash.verifies bootSlot then b.bootImage false
  else if b.flash.verifies prevSlot then b.bootImage true
  else b.bootNone

/-- The start row of the update state (R641). -/
def Block.bootUpdate (b : Block) : Block :=
  match b.updState with
  | 1 => (b.setUpdState 0 0).bootSlotRun
  | 2 =>
    if b.flash.verifies bootSlot then (b.setUpdState 3 0).updStart fun s => { s with copying := 1 }
    else (b.setUpdState 4 0).updStart fun s => { s with copying := 2 }
  | 3 => b.updStart fun s => { s with copying := 1 }
  | 4 => b.updStart fun s => { s with copying := 2 }
  | 6 => b.updStart fun s => { s with copying := 3 }
  | _ => b.bootSlotRun

/-- A start (R628): a transition cut short is completed, retention checked, the epoch taken from the log, guard content reset, self-test begun,
and the firmware loaded or a slot copied first. -/
def Block.startUp (b : Block) : Block :=
  let b := b.lcComplete
  let b := if b.keys.latch ∨ b.keys.patternBad then (b.updKeys fun k => { k with retLost := true }).zeroise else b
  let e := (b.flash.largest 1 + 1) % 2 ^ 32
  let b := { b with dev := { b.dev with bootEpoch := e } }
  let b := b.each (List.range 41) fun b c => b.setFld F.CH_EPOCH_DEV_EPOCH c (if e % 65536 = 0 then 1 else e % 65536)
  let b := (b.guardReset.setFld F.BIST_STATUS_PHASE 0 1).updStart fun s => { s with bootRaw := b.time.raw }
  b.bootUpdate

/-- POWER_ON_RELEASE: `RESET_N` rises, with the level of `SLOT_ID` (R301, R628, R720). -/
def powerOnRelease (slotId : Nat) (b : Block) : Block :=
  if b.start.clamped then b.updStart fun s => { s with pinLow := false }
  else if b.start.booted ∨ (¬b.start.pinLow ∧ b.fld F.BIST_STATUS_PHASE 0 ≠ 0) then b
  else
    let b := b.updStart fun s => { s with pinLow := false }
    let b := if b.on F.SYS_RESET_CAUSE_POWER_ON 0 then { b with dev := { b.dev with fabId := slotId % 32, idInvalid := decide (17 < slotId % 32) } } else b
    b.startUp

/-- A device reset, and the start after it (R594). -/
def Block.deviceReset (b : Block) : Block := (b.warmReset true).startUp

/-- DEVICE_RESET: `SYS_RESET_CTRL` is written with `DEVICE`; the cores of its other bits restart with the device (R594, R709). -/
def deviceReset (v : Nat) (b : Block) : Block :=
  if ¬resetKey v then b.reject 0 F.SYS_HIST_CFG_REJECTED 0
  else if bitOf v 4 then b.deviceReset
  else b

/-- EXTEST_CLAMP_SELECT: the device is held in reset while EXTEST or CLAMP is selected, and starts when it is not (R717). -/
def extestClampSelect (sel : Bool) (b : Block) : Block :=
  if b.lifeCycle = 4 ∨ b.start.clamped = sel then b
  else if sel then (b.warmReset false).updStart fun s => { s with clamped := true }
  else
    let b := b.updStart fun s => { s with clamped := false }
    if b.start.pinLow then b else b.startUp

/-- SLOT_COPY_DONE: the copy under way ends, and verifies or not; a copy that fails is made once more (R641, R643). -/
def slotCopyDone (ok : Bool) (b : Block) : Block :=
  let k := b.start.copying
  if k = 0 then b
  else if ok then
    match k with
    | 1 => ((b.updFlash fun f => f.copy bootSlot prevSlot).setUpdState 4 0).updStart fun s => { s with copying := 2, tries := 0 }
    | 2 => (((b.updFlash fun f => f.copy staging bootSlot).setUpdState 5 0).updStart fun s => { s with copying := 0, tries := 0 }).bootSlotRun
    | _ => (((b.updFlash fun f => f.copy prevSlot bootSlot).setUpdState 0 0).updStart fun s => { s with copying := 0, tries := 0, rolledBack := true }).bootSlotRun
  else if b.start.tries = 0 then b.updStart fun s => { s with tries := 1 }
  else
    match k with
    | 1 => (b.setUpdState 4 0).updStart fun s => { s with copying := 2, tries := 0 }
    | 2 => (b.setUpdState 6 0).updStart fun s => { s with copying := 3, tries := 0 }
    | _ => (b.updStart fun s => { s with copying := 0, tries := 0 }).bootNone

/-! ### Self-test (R629 to R635) -/

/-- The phase shown: the next of 1, 2, 3, 4, 6 that is not done, or 5, or 7 when all are. -/
def phaseShown (done : Nat) : Nat :=
  (([1, 2, 3, 4, 6, 5].find? fun p => !bitOf done (p - 1))).getD 7

/-- The block under test in a phase (R635). -/
def phaseBlock (p : Nat) : Option Nat :=
  match p with
  | 3 => some 0x15
  | 4 => some 0x0A
  | 5 => some 0x16
  | 6 => some 0x04
  | _ => none

/-- A ball of the groups whose failure is fatal: `SLOT_ID`, `ACT_HB`, `SEL_STATE`, `FAULT_N`, the flash and the reference clocks (R629, R714). -/
def fatalBall (a : Nat) : Bool :=
  let p := Config.ballPlace a
  Config.refClockBall a || (p.1 == 13 && decide (28 ≤ p.2) && decide (p.2 ≤ 35)) || (p.1 == 14 && decide (9 ≤ p.2) && decide (p.2 ≤ 20))

/-- `FIRST_CODE` of a failure in phase `p`; `buffer` for the stroke buffer in phase 4 (R653). -/
def failCode (p : Nat) (buffer : Bool) : Nat := match p with
  | 4 => if buffer then 5 else 4
  | 5 => 6
  | 6 => 7
  | p => p

/-- Phase `p` runs: 3 to 6 once the channels are open, each after the one it follows, 5 beside them (R628, R629). -/
def Block.phaseRuns (b : Block) (p : Nat) : Bool :=
  b.fld F.BIST_STATUS_PHASE 0 != 0 && !bitOf b.start.phases (p - 1) && match p with
    | 1 => true
    | 2 => bitOf b.start.phases 0
    | 3 => b.start.booted && bitOf b.start.phases 1
    | 4 => bitOf b.start.phases 2
    | 5 => b.start.booted && bitOf b.start.phases 1
    | 6 => bitOf b.start.phases 3
    | _ => false

/-- A failing lane is held in FAILED (R634). -/
def Block.laneFails (b : Block) (l : Nat) : Block := (b.setBit F.BIST_LANE_FAIL_FAIL (l / 32) (l % 32)).setLane l 8

/-- SELFTEST_PHASE_DONE: phase `p` ends; `bad` lists what failed, coded as `FIRST_ARG`, in phase 4 the stroke buffer's rows or the port pairs;
`yard` gives each stack's repaired lanes and fewest spares (R629 to R634, R692). -/
def selftestPhaseDone (p : Nat) (buffer : Bool) (bad : List Nat) (yard : List (Nat × Nat)) (b : Block) : Block :=
  if ¬b.phaseRuns p then b
  else
    let b := b.updStart fun s => { s with phases := withBit s.phases (p - 1) }
    let b := b.ite (p == 1) fun b => b.updStart fun s => { s with rings := bad.length, badBalls := bad }
    let b := match phaseBlock p with
      | some v => b.clr F.BLK_STATUS_SELFTEST v
      | none => b
    let b := b.ite (p == 5) fun b =>
      let b := b.each (yard.zipIdx.take b.stacks) fun b x =>
        ((b.setFld F.BIST_YARD_REPAIRED x.2 x.1.1).setFld F.BIST_YARD_SPARES_MIN x.2 x.1.2).setTo F.BIST_YARD_FAILED x.2 (bad.any fun a => a / 256 == x.2)
      match b.settings with
      | some s => b.updFlt fun f => { f with rows := s.rows, spares := s.rows.map fun r => (r.1, r.2.1) }
      | none => b
    let b := match bad with
      | [] => b
      | a :: _ =>
        let b := b.updStart fun s => { s with failed := withBit s.failed (p - 1) }
        let b := b.ite (b.fld F.BIST_FIRST_FAIL_CODE 0 == 0) fun b => (b.setFld F.BIST_FIRST_FAIL_CODE 0 (failCode p buffer)).setFld F.BIST_FIRST_FAIL_ARG 0 a
        let b := b.ite (p == 2 || p == 6) fun b => b.each bad fun b l => b.laneFails l
        if p = 2 ∨ p = 3 ∨ p = 4 ∨ p = 5 ∨ (p = 1 ∧ bad.any fatalBall) ∨ (b.settings.map Settings.strict).getD false then
          (b.setFld F.BIST_STATUS_RESULT 0 2).safeEntry
        else b
    let b := b.setFld F.BIST_STATUS_PHASE 0 (phaseShown b.start.phases)
    if b.start.phases = 63 then
      let b := b.updStart fun s => { s with duration := (b.time.raw + 2 ^ 64 - s.bootRaw) % 2 ^ 64 / 1000 % 2 ^ 32 }
      b.ite (!b.on F.BIST_STATUS_SAFE 0) fun b => b.setFld F.BIST_STATUS_RESULT 0 (if b.start.failed = 0 then 0 else 1)
    else b

end Sys2Proof.Machine
end

