-- ==== Sys2Proof/Machine/Matrix.lean ====
section
/-!
DEFINITION. The bus matrix: its registers, the alias window, parking, timeouts, the safety core's lockstep and scan requests (R557 to R575,
R619).
-/
namespace Sys2Proof.Machine

def Block.updMat (b : Block) (f : MatSt → MatSt) : Block := { b with mat := f b.mat }

/-! ### Targets (R559, R560) -/

def Block.remapped (b : Block) : Bool := b.on F.MATRIX_CTRL_REMAP 0
/-- The address lies in the alias window. -/
def inAlias (a : Nat) : Bool := decide (a < 0x200000)
/-- The first address above the yard as fitted. -/
def Block.yardEnd (b : Block) : Nat := 0x8000000000 + b.yardGiB * gib

/-- The target that serves an address. -/
def Block.target (b : Block) (a : Nat) : Nat :=
  if inAlias a then bit b.remapped
  else if 0x1000000 ≤ a ∧ a < 0x2000000 then 0
  else if 0x2000000 ≤ a ∧ a < 0x3000000 then 1
  else if 0x10000000 ≤ a ∧ a < 0x20000000 then 2
  else if 0x40000000 ≤ a ∧ a < 0x40D00000 then 3
  else if 0x40D00000 ≤ a ∧ a < 0x41A00000 then 4
  else if 0x8000000000 ≤ a ∧ a < b.yardEnd then 5
  else 6

/-- The block that a target's faults are recorded in (R685, R707). -/
def targetBlock (k a : Nat) : Nat :=
  match k with
  | 2 => 0x17
  | 3 => (a - 0x40000000) / 0x100000
  | 4 => (a - 0x40000000) / 0x100000
  | 5 => 0x16
  | _ => 0x15

/-- Requests that target `k` has accepted and not answered. -/
def Block.outstanding (b : Block) (k : Nat) : Nat := (b.mat.out.filter fun r => b.target r.addr == k).length

/-! ### Errors (R571, R572) -/

/-- An event of R571: master, target, address, write, `KIND` and `REGION`. -/
structure MatErr where
  master : Nat
  target : Nat
  addr : Nat
  write : Bool
  kind : Nat
  region : Nat
deriving DecidableEq, Repr

/-- Of the events of one cycle, the one that is recorded: the lower master first, then the lower target. -/
def firstErr : List MatErr → Option MatErr
  | [] => none
  | e :: t => match firstErr t with
    | some f => if f.master * 8 + f.target < e.master * 8 + e.target then some f else some e
    | none => some e

/-- The events of one cycle, recorded unless an earlier one stands. -/
def Block.matErrs (b : Block) (l : List MatErr) : Block :=
  match firstErr l with
  | none => b
  | some e =>
    if b.mat.errHeld then b
    else
      let b := (b.setFld F.MATRIX_ERR_ADDR_LO_ADDR 0 e.addr).setFld F.MATRIX_ERR_ADDR_HI_ADDR 0 (e.addr / 2 ^ 32)
      let b := ((b.setFld F.MATRIX_ERR_INFO_MASTER 0 e.master).setTo F.MATRIX_ERR_INFO_WRITE 0 e.write).setFld F.MATRIX_ERR_INFO_KIND 0 e.kind
      let b := (b.setFld F.MATRIX_ERR_INFO_REGION 0 e.region).setFld F.MATRIX_ERR_INFO_TARGET 0 e.target
      b.updMat fun m => { m with errHeld := true }

/-! ### `REMAP` and `PARK` (R561, R562, R564) -/

/-- A write of `MATRIX_CTRL` by a master: `AGE_LIMIT` and `TMO` are stored; `REMAP` is set by a management core or the safety core, and once
it is 1 a write of 0 is discarded. -/
def remapWrite (master v : Nat) (b : Block) : Block :=
  let b := b.storeWord [F.MATRIX_CTRL_AGE_LIMIT, F.MATRIX_CTRL_TMO] 0 v
  if bitOf v 0 then
    if 4 < master then b.reject 0x15 F.MATRIX_HIST_CFG_REJECTED 0
    else if b.remapped then b
    else b.updMat fun m => { m with remapping := true }
  else if b.remapped then b.reject 0x15 F.MATRIX_HIST_CFG_REJECTED 0
  else b

/-- The master that target `k` is parked on now. -/
def Block.parkNow (b : Block) (k : Nat) : Nat := (b.mat.parked.look k).getD (b.fld F.MATRIX_TGT_CFG_PARK k)

/-- PARK_WRITE: `MATRIX_TGT_CFG[k]` is written; a busy target keeps its master until it is idle. -/
def parkWrite (k v : Nat) (b : Block) : Block :=
  let now := b.parkNow k
  let b := b.storeWord W.MATRIX_TGT_CFG k v
  b.updMat fun m => { m with parked := m.parked.put k (if b.outstanding k = 0 then none else some now) }

/-- Targets that are idle take the `PARK` last written. -/
def Block.parkSettle (b : Block) : Block :=
  b.updMat fun m => { m with parked := m.parked.filter fun e => b.outstanding e.1 != 0 }

/-! ### Timeouts (R568, R685) -/

/-- An access that is answered after timeouts of its target's block: the fault was transient. -/
def Block.targetAnswered (b : Block) (blk : Nat) : Block :=
  match b.flt.timeouts.look blk with
  | 0 => b
  | n => ((b.updFlt fun f => { f with timeouts := f.timeouts.del blk }).fault blk 0x08 (n % 16) false false).hbSettle

/-- An access of master `m` at address `a` to target `k` has not been answered: it is recorded in the target's block `blk`, whose third in a row is a lasting
fault. -/
def Block.targetTimeout (b : Block) (k m blk a : Nat) (write : Bool) : Block :=
  let n := b.flt.timeouts.look blk / 16 + 1
  let b := ((b.set F.MATRIX_HIST_TARGET_TMO 0).bump F.MATRIX_TMO_CNT_COUNT 0 1).matErrs [⟨m, k, a, write, 3, 0⟩]
  if n < 3 then b.updFlt fun f => { f with timeouts := f.timeouts.put blk (16 * n + m) }
  else ((b.updFlt fun f => { f with timeouts := f.timeouts.del blk }).fault blk 0x08 m true false).hbSettle

/-- MATRIX_TARGET_TIMEOUT: the oldest request of master `m` that target `k` has accepted has waited some cycles: once they pass `TMO`, it is answered
with an error. -/
def matrixTargetTimeout (k m cycles : Nat) (b : Block) : Block :=
  match b.mat.out.find? fun r => r.master == m && b.target r.addr == k with
  | none => b
  | some r => if cycles < b.fld F.MATRIX_CTRL_TMO 0 * 256 then b else
    let b := (b.updMat fun s => { s with out := s.out.erase r }).targetTimeout k m (targetBlock k r.addr) r.addr r.data.isSome
    let b := b.emit (.bus m true (if r.data.isSome then [] else zeroBytes r.size))
    b.parkSettle

/-! ### The safety core and scan (R557, R619) -/

/-- LOCKSTEP_DISAGREEMENT (R557). -/
def lockstepDisagreement (b : Block) : Block := ({ b with safetyReset := true }.fault 0x00 0x0A 0 true false).hbSettle

/-- SCAN_REQUEST (R611, R619). -/
def scanRequest (b : Block) : Block :=
  if b.bitAt F.FUSE_DEBUG_SCAN 0 b.lifeCycle then
    let b := b.tampered 7
    (b.updMat fun m => { m with sram := m.sram.filter fun e => decide (e.1 < 0x380000) }).updKeys fun k => { k with scanZeroised := true }
  else b

/-! ### DIAG_INJECT (R697, R698) -/

/-- The block that a kind of injection names. -/
def injectBlock (kind v : Nat) : Bool :=
  match kind with
  | 1 => v == 0x16
  | 2 => v == 0x16
  | 3 => v == 0x0A
  | 4 => v == 0x03
  | 5 => v == 0x00
  | 6 => decide (v < 26)
  | 7 => checkedBlock v
  | _ => false

/-- Instances of a block that a kind of injection may name, and how many of them are present (R697, R705): stacks, synthesizers, cores, the master
that waits, engines. The stroke buffer's banks have no number in the spec. -/
def injectCount (kind v : Nat) : Nat :=
  match kind with
  | 3 => 65536
  | 4 => 8
  | 5 => 4
  | 6 => 10
  | 7 => if v = 0x06 ∨ v = 0x08 then 128 else if v = 0x09 then 4 else if v = 0x0C then 32 else 1
  | _ => 2
def Block.injectHas (b : Block) (kind v i : Nat) : Bool :=
  b.has v && (!(kind == 1 || kind == 2) || decide (i < b.stacks)) && (!(kind == 7 && v == 0x0C) || decide (i < b.heads))

/-- The detection of an injected fault (R697): a correctable error is counted; an uncorrectable read fails twice and its row is repaired; a synthesizer in
lock coasts; a core restarts; a target leaves a read of its first register unanswered; an engine starts afresh. A word of the stroke buffer is found by the
march test of its row. -/
def Block.injected (b : Block) (k v i addr : Nat) : Block :=
  match k with
  | 1 => (b.bump F.HBMC_CE_CNT_COUNT (i % 2) 1).set F.HBMC_HIST_CE 0
  | 2 => let r := Config.yardRow (addr - 0x8000000000); yardUe i r.1 r.2 (addr - 0x8000000000) true b
  | 4 => if b.pllState i = 2 ∨ b.pllState i = 4 then b.coast i else b
  | 5 => b.wdtFired i
  | 6 => b.targetTimeout (b.target (0x40000000 + v * 0x100000)) i v (0x40000000 + v * 0x100000) false
  | 7 => engineCheckFail v i b
  | _ => b

/-- DIAG_INJECT, 0x0D05: in TEST the fault is injected; it runs through detection, retry and classification, and what it leads to is recorded as injected
(R697; logs 107, 160). -/
def diagInject (ch : Nat) (p : List Byte) (b : Block) : Block :=
  let k := le p 0 1; let v := le p 1 1; let i := le p 2 2
  b.command ch 0x0D05 true (p.length == 12)
    [(!(injectBlock k v && decide (i < injectCount k v) && (if k ≤ 2 then decide (0x8000000000 ≤ le p 4 8) && decide (le p 4 8 < b.yardEnd) else zeros p 4 8)), St.BAD_ARG), (!b.injectHas k v i, St.UNIT_ABSENT)]
    [(!b.bitAt F.FUSE_DEBUG_FAULT_INJ 0 b.lifeCycle, St.AUTH_FAIL)]
    fun b =>
      let b := b.ite (k != 1) fun b => b.updFlt fun f => { f with marks := f.marks ++ [(v, i)] ++ (if k = 4 ∧ i = 7 then [(0, 7)] else []) }
      ((b.injected k v i (le p 4 8)).hbSettle).ok ch []

end Sys2Proof.Machine
end

