-- ==== Sys2Proof/Machine/Access.lean ====
section
/-!
DEFINITION. Register accesses: what stands at an address, the registers whose word is computed, the reads that latch, pop or clear, and the
writes that do more than store (R5, R32, R570, R701 to R706). Addresses count from 0x00_4000_0000.
-/
namespace Sys2Proof.Machine

/-! ### What stands at an address -/

/-- The instance of a register at an address. -/
def Reg.indexOf (r : Reg) (a : Nat) : Option Nat :=
  if a < r.off then none
  else
    let d := a - r.off
    let i := if r.stride = 0 then 0 else d / r.stride
    let e := if r.stride = 0 then d else d % r.stride
    if r.count2 = 1 then (if e = 0 ∧ i < r.count then some i else none)
    else if e % r.stride2 = 0 ∧ e / r.stride2 < r.count2 ∧ i * r.count2 + e / r.stride2 < r.count then some (i * r.count2 + e / r.stride2)
    else none

/-- The fields of the register at an address, with the instance. -/
def fieldsAt (a : Nat) : List (Field × Nat) :=
  (if a % 0x100000 < 0x100 then fieldsCommon else fieldsOfBlock (a / 0x100000)).filterMap fun f => (f.reg.indexOf a).map fun n => (f, n)

/-- The block and the instance of an address are present (R5, R705). -/
def Block.regHas (b : Block) (a : Nat) : Bool :=
  let o := a % 0x100000
  b.has (a / 0x100000) && (decide (o < 0x100) ||
    match a / 0x100000 with
    | 0x04 => decide (o < 0x1000) || b.laneHas ((o - 0x1000) / 128)
    | 0x07 => decide (o < 0x1000) || b.ethHas ((o - 0x1000) / 1024)
    | 0x0C => decide (o < 0x1000) || decide ((o - 0x1000) / 1024 < b.heads)
    | 0x0D => decide (o < 0x1000) || decide ((o - 0x1000) / 128 < b.heads)
    | 0x0F => decide (o < 0x200) || decide (0x240 ≤ o) || decide ((o - 0x200) / 32 < b.nvmePorts)
    | 0x14 => decide (o < 0x180) || decide ((o - 0x180) / 4 < b.stacks)
    | 0x16 => !(decide (0x110 ≤ o) && decide (o < 0x120) && decide (b.stacks ≤ (o - 0x110) / 4 % 2)) && !(decide (0x130 ≤ o) && decide (b.stacks ≤ (o - 0x130) / 4))
    | _ => true)

/-! ### Interrupt status (R704, R706) -/

/-- The history registers of a block with their enables. -/
def histPairs (v : Nat) : List (Reg × Reg) :=
  match v with
  | 0x00 => [(R.PWR_HIST, R.PWR_IRQ_EN), (R.SYS_HIST, R.SYS_IRQ_EN)]
  | 0x01 => [(R.TIME_HIST, R.TIME_IRQ_EN), (R.TMR_HIST, R.TMR_IRQ_EN), (R.CAP_HIST, R.CAP_IRQ_EN)]
  | 0x02 => [(R.REFS_HIST, R.REFS_IRQ_EN)]
  | 0x03 => [(R.PLL_HIST, R.PLL_IRQ_EN)]
  | 0x04 => [(R.LANE_HIST, R.LANE_IRQ_EN)]
  | 0x05 => [(R.SDI_RX_HIST, R.SDI_RX_IRQ_EN)]
  | 0x06 => [(R.SDI_TX_HIST, R.SDI_TX_IRQ_EN)]
  | 0x07 => [(R.ETH_HIST, R.ETH_IRQ_EN)]
  | 0x08 => [(R.IPM_RX_HIST, R.IPM_RX_IRQ_EN), (R.IPM_TX_HIST, R.IPM_TX_IRQ_EN)]
  | 0x09 => [(R.STALL_HIST, R.STALL_IRQ_EN), (R.FRESH_HIST_ENTER, R.FRESH_IRQ_EN), (R.FRESH_HIST_EXIT, R.FRESH_IRQ_EN)]
  | 0x0A => [(R.FAB_PORT_HIST, R.FAB_PORT_IRQ_EN), (R.FAB_RX_HIST, R.FAB_RX_IRQ_EN)]
  | 0x0B => [(R.COX_HIST, R.COX_IRQ_EN)]
  | 0x0C => [(R.HEAD_HIST, R.HEAD_IRQ_EN)]
  | 0x0D => [(R.GUARD_HIST, R.GUARD_IRQ_EN)]
  | 0x0E => [(R.AUD_HIST, R.AUD_IRQ_EN), (R.AUD_GRP_HIST, R.AUD_GRP_IRQ_EN), (R.SAP_HIST, R.SAP_IRQ_EN)]
  | 0x0F => [(R.WIT_HIST, R.WIT_IRQ_EN)]
  | 0x10 => [(R.TWIN_HIST, R.TWIN_IRQ_EN)]
  | 0x11 => [(R.MBX_HIST, R.MBX_IRQ_EN), (R.CH_HIST, R.CH_IRQ_EN)]
  | 0x12 => [(R.KEY_HIST, R.KEY_IRQ_EN)]
  | 0x15 => [(R.MATRIX_HIST, R.MATRIX_IRQ_EN)]
  | 0x16 => [(R.HBMC_HIST, R.HBMC_IRQ_EN)]
  | _ => []

/-- The word of stored fields at an address. -/
def Block.rawWord (b : Block) (a : Nat) : Nat := b.wordOf ((fieldsAt a).map Prod.fst) (((fieldsAt a).head?.map Prod.snd).getD 0)

/-- Instance `n` of a history register has a bit set AND enabled. -/
def Block.histAsks (b : Block) (p : Reg × Reg) (n : Nat) : Bool := Nat.land (b.rawWord (p.1.addr n)) (b.rawWord (p.2.addr n)) != 0

/-- Some history register of block `v`, ANDed with its enable, is not zero; only entries that differ from reset can show one. -/
def Block.histPend (b : Block) (v : Nat) : Bool :=
  b.regs.any fun e => e.1 / 32 / 0x100000 == v && (histPairs v).any fun p => match p.1.indexOf (e.1 / 32) with
    | some n => b.histAsks p n
    | none => false

/-- `BLK_IRQ_STATUS`. -/
def Block.irqStatus (b : Block) (v : Nat) : Nat :=
  bit (b.histPend v) + b.fld F.BLK_FAULT_FAULT_TRANSIENT v * 2 + b.fld F.BLK_FAULT_FAULT_LASTING v * 4

/-- 32 instances of a history register that ask, from instance `32 i`. -/
def Block.pend (b : Block) (p : Reg × Reg) (i : Nat) : Nat :=
  (List.range 32).foldl (fun a k => if 32 * i + k < p.1.count then a + bit (b.histAsks p (32 * i + k)) * 2 ^ k else a) 0

/-! ### Words that are computed -/

/-- `BLK_CAP` (R705). -/
def Block.blkCap (b : Block) (v : Nat) : Nat :=
  let (i, u) := match v with
    | 0x04 => ((List.range 345).countP b.laneHas, 0)
    | 0x05 => (128, 16)
    | 0x06 => (128, 16)
    | 0x07 => (b.ethMedia, 1)
    | 0x08 => (128, 0)
    | 0x09 => (320, 4)
    | 0x0A => (17, 64)
    | 0x0C => (b.heads, 32)
    | 0x0D => (b.heads, 8)
    | 0x0E => (16, 16)
    | 0x0F => (b.encoders, b.nvmePorts)
    | 0x11 => (41, 64)
    | 0x16 => (b.stacks, 24)
    | 0x18 => (1 + b.nvmePorts, b.nvmePorts)
    | _ => (1, 0)
  i + u * 65536

/-- The open bale of a tap. -/
def Block.openSeq (b : Block) (t : Nat) : Option Nat := ((b.chain t).bales.find? fun x => x.sealing.isNone).map Bale.seq

/-- Masks of the firewall regions (R574): who may write, who may read, the life-cycle states, `HOSTP_DEBUG_ONLY`. -/
def fwWrite (r : Nat) : Nat :=
  match r with
  | 0 => 0x010
  | 1 => 0x010
  | 2 => 0x000
  | 3 => 0x010
  | 4 => 0x17F
  | _ => 0x200
def fwRead (r : Nat) : Nat :=
  match r with
  | 0 => 0x03F
  | 1 => 0x1FF
  | 2 => 0x010
  | 3 => 0x010
  | 4 => 0x3FF
  | _ => 0x200
def fwStates (r : Nat) : Nat := if r = 5 then 0x09 else 0x1F

/-- `LANE_CTRL` of a PCIe lane: P0 at the rate its port runs at while its domain is on, else P3 (R142; log 201). -/
def Block.pcieCtrl (b : Block) (l : Nat) : Nat :=
  b.wordOf W.LANE_CTRL l / 64 * 64 + if b.laneOn l then Config.pcieRate l % 16 * 4 else 3

/-- Registers whose word is computed from the state beside the registers. -/
def wordViews : List (Reg × (Block → Nat → Nat)) := [
  (R.BLK_ID, fun _ v => v + Config.blockRev v % 256 * 256 + 0x5A590000),
  (R.BLK_CAP, Block.blkCap),
  (R.BLK_STATUS, fun b v => bit (b.powered v) + b.fld F.BLK_STATUS_SELFTEST v * 2 + b.fld F.BLK_STATUS_READY v * 4),
  (R.BLK_IRQ_STATUS, Block.irqStatus),
  (R.SYS_UNITS, fun b _ => b.unitsMask),
  (R.SYS_VARIANT, fun b _ => b.dev.variant + Config.siliconRev % 256 * 2 ^ 8 + b.yardGiB * 2 ^ 16 + b.dev.fabId * 2 ^ 24 + bit b.dev.idInvalid * 2 ^ 29),
  (R.PWR_STATUS, fun b n => b.wordOf W.PWR_STATUS n + bit (b.pwr.queue != []) * 2 ^ 7),
  (R.PWR_CHARGE, fun _ d => wakeCharge d * 2 ^ F.PWR_CHARGE_WAKE.lo + runCharge d * 2 ^ F.PWR_CHARGE_RUN.lo),
  (R.TIME_STATUS, fun b _ => bit b.synced + 2 * bit b.slewing),
  (R.TIME_ADJ_LO, fun b _ => patternOf 48 b.adjRead % 2 ^ 32),
  (R.TIME_ADJ_HI, fun b _ => patternOf 48 b.adjRead / 2 ^ 32),
  (R.HO_REMAIN, fun b _ => b.hoRemain),
  (R.LANE_CTRL, fun b l => if laneClass l = .pcie then b.pcieCtrl l else b.wordOf W.LANE_CTRL l),
  (R.LANE_PEND, fun b i => b.pend (R.LANE_HIST, R.LANE_IRQ_EN) i),
  (R.LANE_LASTING, fun b i => (List.range 32).foldl (fun a k => if 32 * i + k < 345 then a + b.fld F.LANE_STATUS_LASTING (32 * i + k) * 2 ^ k else a) 0),
  (R.STALL_CFG, fun b _ => b.fld F.STALL_CFG_ABS_MODE 0 + bit b.absTrusted * 4),
  (R.YARD_REGION, fun b r => b.regionBase r * 2 ^ F.YARD_REGION_BASE.lo + b.regionSize r * 2 ^ F.YARD_REGION_SIZE.lo),
  (R.STALL_PEND, fun b i => b.pend (R.STALL_HIST, R.STALL_IRQ_EN) i),
  (R.FAB_ID, fun b _ => b.dev.fabId + bit b.dev.idInvalid * 2 ^ F.FAB_ID_ID_INVALID.lo),
  (R.FAB_EPOCH, fun b _ => b.dev.bootEpoch),
  (R.FAB_PEND, fun b _ => b.pend (R.FAB_PORT_HIST, R.FAB_PORT_IRQ_EN) 0),
  (R.FAB_RX_PEND, fun b i => b.pend (R.FAB_RX_HIST, R.FAB_RX_IRQ_EN) i),
  (R.FAB_PORT_STATUS, Block.fabPortStatus),
  (R.FAB_PORT_SEATS, Block.fabPortSeats),
  (R.FAB_SRC_SUBS, Block.srcSubs),
  (R.FAB_SRC_PEND, Block.srcHeld),
  (R.FAB_SRC_SEATS, Block.srcSeats),
  (R.COX_STATUS, fun b _ => b.coxStatus),
  (R.COX_MISMATCH, fun b i => (List.range 32).foldl (fun a k => a + b.fld F.COX_TGT_VID_MISMATCH (32 * i + k) * 2 ^ k) 0),
  (R.COX_RG_ID, fun b k => b.rgWord k 0),
  (R.COX_RG_CATCH_LO, fun b k => b.rgWord k 1),
  (R.COX_RG_CATCH_HI, fun b k => b.rgWord k 2),
  (R.COX_RG_MEMBERS, fun b k => b.rgWord k 3),
  (R.COX_RG_VOTED, fun b k => b.rgWord k 4),
  (R.COX_RG_TAKES, fun b k => b.rgWord k 5),
  (R.COX_RG_HELD, fun b k => b.rgWord k 6),
  (R.COX_TGT_STATE, Block.tgtState),
  (R.HEAD_PEND, fun b _ => b.pend (R.HEAD_HIST, R.HEAD_IRQ_EN) 0),
  (R.STILL_CFG, fun b s => (b.stillSettle s).wordOf W.STILL_CFG s),
  (R.STILL_FSEQ, fun b s => (b.stillSettle s).wordOf W.STILL_FSEQ s),
  (R.GUARD_STATUS, fun b _ => bit b.guardKeyOk + bit b.pins.guardKeyLow * 2),
  (R.AUD_GRP_PEND, fun b i => b.pend (R.AUD_GRP_HIST, R.AUD_GRP_IRQ_EN) i),
  (R.WIT_TAP_STATUS, fun b t => bit (b.tapOn t) + bit (b.openSeq t).isSome * 2),
  (R.TWIN_STATUS, fun b _ => b.twinStatus),
  (R.KEY_STATUS, fun b _ => b.keyStatus),
  (R.KEY_MEAS, fun b i => le b.keys.meas (4 * i) 4),
  (R.FUSE_LC, fun b _ => b.lifeCycle + bit b.keys.repaired * 8),
  (R.FUSE_UNITS, fun b _ => b.unitsMask),
  (R.FUSE_DEV_ID, fun b i => le b.dev.devId (4 * i) 4),
  (R.MATRIX_STATUS, fun b _ => bit b.mat.remapping),
  (R.MATRIX_TGT_BUSY, fun b k => b.outstanding k % 256),
  (R.MATRIX_FW_A, fun _ r => fwWrite r + fwRead r * 2 ^ 16),
  (R.MATRIX_FW_B, fun _ r => fwStates r + bit (r == 4) * 2 ^ 5),
  (R.HBMC_REPAIR, fun b s => b.fld F.HBMC_REPAIR_REPAIRED s + b.sparesLeft s % 2 ^ F.HBMC_REPAIR_SPARES_LEFT.width * 2 ^ F.HBMC_REPAIR_SPARES_LEFT.lo)]

/-- The entry of a table that stands at an address, with the instance. -/
def atReg {α : Type} (a : Nat) : List (Reg × α) → Option (α × Nat)
  | [] => none
  | (r, x) :: t => match r.indexOf a with
    | some n => some (x, n)
    | none => atReg a t

/-! ### Reads -/

/-- WIT_TAP_SEQ_LO as a management core reads it: the high half is latched. -/
def Block.tapSeqRead (b : Block) (t : Nat) : Block :=
  let q := (b.openSeq t).getD 0
  (b.setFld F.WIT_TAP_SEQ_HI_SEQ t (q / 2 ^ 32)).emit (.read (q % 2 ^ 32))

/-- Registers whose read latches, pops or takes; each emits the word read. -/
def readActs : List (Reg × (Nat → Block → Block)) := [
  (R.TIME_NS, fun _ => timeNsRead),
  (R.TIME_RAW_LO, fun _ => timeRawLoRead),
  (R.TIME_RATE_LO, fun _ => timeRateLoRead),
  (R.CAP_NS, capNsRead),
  (R.TL_POS_FRAME_LO, tlPosFrameLoRead),
  (R.CHK_ERR_LO, fun l => chkErrLoRead l 0 0),
  (R.ETH_CNT_LO, fun n => ethCntLoRead (n / 15) (n % 15) 0),
  (R.PTP_TX_ID, ptpTxIdRead),
  (R.STALL_FSEQ_LO, stallFseqLoRead),
  (R.WIT_TAP_SEQ_LO, fun t b => b.tapSeqRead t),
  (R.LOCK, fun n b => b.lockTake (n % 64) (n / 64 + 1))]

/-- The first word that a read emitted. -/
def outWord : List Out → Nat
  | [] => 0
  | .read v :: _ => v
  | _ :: t => outWord t

/-- The slots of the `MBX` window. -/
def slotAt (a : Nat) : Option Nat := if a / 0x100000 = 0x11 ∧ 0x10000 ≤ a % 0x100000 ∧ a % 0x100000 < 0x24800 then some (a % 0x100000) else none

/-- An access by a master to a register of an instance whose domain is off (R570, R571). -/
def Block.pdOffHit (b : Block) (master a : Nat) (write : Bool) : Block :=
  ((b.set F.MATRIX_HIST_PD_OFF_HIT 0).bump F.MATRIX_HOLE_CNT_COUNT 0 1).matErrs [⟨master, b.target (0x40000000 + a), 0x40000000 + a, write, 4, 0⟩]

/-- A command that reads or writes instance `n` of a register: the register of an absent unit or instance ignores a write and reads zero (R5, R705),
one that a switched-off domain holds does too and sets `PD_OFF_HIT` (R570); else `f`. Where the row names no master, the access counts as one by
`MC[0]` (DESIGN CHOICE, log 159). -/
def onReg (r : Reg) (n : Nat) (read : Bool) (f : Block → Block) (b : Block) : Block :=
  let a := r.addr n
  let none (b : Block) : Block := b.ite read fun b => b.emit (.read 0)
  if ¬b.regHas a then none b
  else if b.regOff a then none (b.pdOffHit 0 a (!read))
  else f b

/-- Registers whose values move between the commands, and are brought up to date before a read (R151, R155, R168). -/
def liveActs : List (Reg × (Nat → Block → Block)) := [
  (R.RX_EQ, fun l b => b.eqLive l),
  (R.RX_DFE_A, fun l b => b.eqLive l),
  (R.RX_DFE_B, fun l b => b.eqLive l),
  (R.LANE_SNR, fun l b => b.snrLive l),
  (R.CHK_ERR_LO, fun l b => b.chkLive l)]

/-- The register at an address stands as now. -/
def Block.live (b : Block) (a : Nat) : Block :=
  match atReg a liveActs with
  | some (f, n) => f n b
  | none => b

/-- An ordinary read of a register: its word, and what the read does. -/
def Block.regTake (b : Block) (a : Nat) : Nat × Block :=
  if ¬b.regHas a ∨ b.regOff a then (0, b)
  else match slotAt a with
  | some o => (leNat (b.slotGet o 4), b)
  | none => match atReg a readActs with
    | some (f, n) =>
      let b' := f n { b with out := [] }
      (outWord b'.out, { b' with out := b.out })
    | none => match atReg a wordViews with
      | some (f, n) => (f b n, b)
      | none =>
        let fs := fieldsAt a
        (b.rawWord a, b.each fs fun b e => if e.1.acc = .rcl then b.clr e.1 e.2 else b)

/-- A peek read: the word, and nothing done (R573). -/
def Block.regPeek (b : Block) (a : Nat) : Nat := (b.regTake a).1

/-- RCL_COUNTER_READ: a management core reads the counter at `a`, and `late` events that fall on the clearing read are kept (R130, R198). -/
def rclCounterRead (a late : Nat) (b : Block) : Block :=
  if ¬b.regHas a ∨ b.regOff a then b.emit (.read 0)
  else match R.ETH_CNT_LO.indexOf a with
  | some n => ethCntLoRead (n / 15) (n % 15) late b
  | none => match fieldsAt a with
    | [(f, n)] => if f.acc = .rcl then b.readClear f n late else b.emit (.read (b.regPeek a))
    | _ => let b := b.live a; b.emit (.read (b.regPeek a))

/-! ### Writes -/

/-- A write of `SYS_RESET_CTRL` (R709). -/
def Block.resetCtrlWrite (b : Block) (v : Nat) : Block :=
  if resetKey v then Machine.deviceReset v (coreRst v b) else b.reject 0 F.SYS_HIST_CFG_REJECTED 0

/-- A configuration register of a serial port: ignored on a quad's member (R191). -/
def Block.rxPortWrite (b : Block) (fs : List Field) (port n v : Nat) : Block :=
  if b.rxQuadMember port then b.reject 5 F.SDI_RX_HIST_CFG_REJECTED port else b.storeWord fs n v
def Block.txPortWrite (b : Block) (fs : List Field) (n v : Nat) : Block :=
  if b.txQuadMember n then b.reject 6 F.SDI_TX_HIST_CFG_REJECTED n else b.storeWord fs n v

/-- A write of `AUD_XP[o]`: a change of input crossfades (R473, R474). -/
def Block.xpWrite (b : Block) (o v : Nat) : Block :=
  let old := b.slotTarget o
  let b := b.storeWord W.AUD_XP o v
  b.slotChange o old (b.xpInput o) (b.fld F.AUD_CFG_XFADE_MS 0 * 48)

/-- Registers whose write does more than store: the master, the instance and the word. -/
def writeActs : List (Reg × (Nat → Nat → Nat → Block → Block)) := [
  (R.BLK_FAULT, fun _ n v => faultBitClear n v),
  (R.SYS_RESET_CTRL, fun _ _ v b => b.resetCtrlWrite v),
  (R.SYS_WDT, fun _ k v b => b.wdtWrite k v),
  (R.GPIO_DIR, fun _ _ v b => (b.storeWord W.GPIO_DIR 0 v).gpioDrive),
  (R.GPIO_OUT, fun _ _ v b => (b.storeWord W.GPIO_OUT 0 v).gpioDrive),
  (R.TIME_CTRL, fun _ _ v b => unsync v (withCox (setGo v false) b)),
  (R.TMR_CFG, fun _ n v => tmrArm n v),
  (R.CAP_CFG, fun _ n v b => b.capCfgWrite n v),
  (R.REFS_CTRL, fun _ _ v b => b.refsCtrlWrite v),
  (R.REF_CFG, fun _ n v => refCandidateWrite n 0 v),
  (R.REF_QUAL, fun _ n v => refCandidateWrite n 1 v),
  (R.REF_COMP, fun _ n v => refCandidateWrite n 2 v),
  (R.TL_CFG, fun _ k v => tlCfgWrite k v),
  (R.FP_CFG, fun _ j v b => b.fpCfgWrite j v),
  (R.FP_ALIGN, fun _ j v => fpAlignGo j v),
  (R.PLL_HIST, fun _ m v b => if m = 7 then b else b.clearHist W.PLL_HIST m v),
  (R.PLL_IRQ_EN, fun _ m v b => if m = 7 then b else b.storeWord W.PLL_IRQ_EN m v),
  (R.PLL_CTRL, fun _ m v b => b.pllWrite m 0 v),
  (R.PLL_N_INT, fun _ m v b => b.pllWrite m 1 v),
  (R.PLL_N_FRAC, fun _ m v b => b.pllWrite m 2 v),
  (R.PLL_LOCK_CFG, fun _ m v b => b.pllWrite m 3 v),
  (R.PLL_RAMP_GO, fun _ m v b => rampAbort m v (rampGo m v b)),
  (R.LANE_CTRL, fun _ l v => onLane l fun b => b.laneCtrlWrite l v),
  (R.LANE_HIST, fun _ l v b => (b.clearHist W.LANE_HIST l v).lastingCleared l),
  (R.TX_EQ, fun _ l v b => b.txEqWrite l v),
  (R.RX_EQ, fun _ l v => rxEqLoad l v),
  (R.RX_DFE_A, fun _ l v b => b.updLane l fun s => { s with wroteA := v }),
  (R.RX_DFE_B, fun _ l v b => b.updLane l fun s => { s with wroteB := v }),
  (R.PAT_CFG, fun _ l v => onLane l fun b => if F.PAT_CFG_INJ_ERR.of v = 1 then injErr l v b else b.patWrite l v),
  (R.EYE_CFG, fun _ l v => eyeGo l v),
  (R.SDI_RX_CFG, fun _ n v b => b.sdiRxWrite n v),
  (R.SDI_RX_ANC_LIST, fun _ n v b => b.rxPortWrite W.SDI_RX_ANC_LIST (n / 4) n v),
  (R.CREW_CFG, fun _ c v => crewCfgWrite c v),
  (R.SDI_TX_CFG, fun _ n v b => b.sdiTxWrite n v),
  (R.SDI_TX_OFS, fun _ n v b => b.sdiTxOfsWrite n v),
  (R.SDI_TX_NOSRC, fun _ n v b => b.txPortWrite W.SDI_TX_NOSRC n v),
  (R.ETH_CFG, fun _ e v b => b.ethCfgWrite e v),
  (R.IPM_RX_CFG, fun _ i v b => b.flowRxCfgWrite i v),
  (R.IPM_TX_CFG, fun _ i v b => b.flowTxCfgWrite i v),
  (R.STALL_CTRL, fun _ j v b => b.stallCtrlWrite j v),
  (R.STALL_BASE, fun _ j v b => b.stallHeldWrite W.STALL_BASE j v),
  (R.STALL_ORIGIN_OFS, fun _ j v b => b.stallHeldWrite W.STALL_ORIGIN_OFS j v),
  (R.WATCH_CFG, fun _ i v b => b.watchWrite i 0 v),
  (R.WATCH_XY, fun _ i v b => b.watchWrite i 1 v),
  (R.WATCH_WH, fun _ i v b => b.watchWrite i 2 v),
  (R.FRESH_CFG, fun _ c v => freshCfgWrite c 0 v),
  (R.FRESH_LIMIT, fun _ c v => freshCfgWrite c 1 v),
  (R.FRESH_LIVE, fun _ c v => freshCfgWrite c 2 v),
  (R.FAB_CFG, fun _ _ v => onPorts fun b => b.fabCfgWrite v),
  (R.COX_TGT_CFG, fun _ t v => coxTgtCfgWrite t v),
  (R.STILL_CFG, fun _ s v b => (b.stillSettle s).storeWord W.STILL_CFG s v),
  (R.HEAD_CFG, fun _ h v => headEnableWrite h v),
  (R.AUD_GRP_CFG, fun _ g v b => b.audGrpWrite g v),
  (R.SAP_CFG, fun _ n v b => b.sapCfgWrite n v),
  (R.AUD_XP, fun _ o v b => b.xpWrite o v),
  (R.WIT_CFG, fun _ _ v b => b.witCfgWrite v),
  (R.TWIN_CFG, fun _ _ v b => b.twinCfgWrite v),
  (R.BAR2_WIN, fun _ _ v => bar2WinWrite v),
  (R.LOCK, fun _ n v => lockReleaseWrite (n / 64 + 1) (n % 64) v),
  (R.CH_CTRL, fun _ c v b => b.chCtrlWrite c v),
  (R.CH_EPOCH, fun _ c v => hostEpochWrite c v),
  (R.KEY_HIST, fun _ _ v b => b.clearHist W.KEY_HIST 0 v),
  (R.KEY_TAMP_CAUSE, fun _ _ v b => b.clearHist W.KEY_TAMP_CAUSE 0 v),
  (R.MATRIX_CTRL, fun m _ v => remapWrite m v),
  (R.MATRIX_TGT_CFG, fun _ k v => parkWrite k v),
  (R.MATRIX_HIST, fun _ _ v b =>
    let b := b.clearHist W.MATRIX_HIST 0 v
    if b.wordOf W.MATRIX_HIST 0 = 0 then b.updMat fun m => { m with errHeld := false } else b),
  (R.HBMC_HIST, fun _ _ v b =>
    let b := b.clearHist W.HBMC_HIST 0 v
    if b.wordOf W.HBMC_HIST 0 = 0 then b.updFlt fun f => { f with errHeld := false } else b)]

/-- A write of a register by its fields' access codes (R701). -/
def Block.plainWrite (b : Block) (a v : Nat) : Block :=
  b.each (fieldsAt a) fun b e =>
    match e.1.acc with
    | .rw => b.store e.1 e.2 (e.1.of v)
    | .sw => b.store e.1 e.2 (e.1.of v)
    | .w1c => b.setFld e.1 e.2 (b.fld e.1 e.2 - Nat.land (b.fld e.1 e.2) (e.1.of v))
    | _ => b

/-- A write of a register by a master that the firewall lets through. -/
def Block.regWrite (b : Block) (master a v : Nat) : Block :=
  if ¬b.regHas a ∨ b.regOff a then b
  else match slotAt a with
  | some o => if master = 5 then b.slotWrite_ o (leBytes 4 v) else b.slotPut o (leBytes 4 v)
  | none => match atReg a writeActs with
    | some (f, n) => f master n v b
    | none => b.plainWrite a v

end Sys2Proof.Machine
end

