-- ==== Sys2Proof/Machine/Bus.lean ====
section
/-!
DEFINITION. Requests on the bus matrix: the host's BAR0, the firewall, hold-back, arbitration and answers; BAR2; the diagnostic reads and
writes (R559 to R580, R602, R603).
-/
namespace Sys2Proof.Machine

/-! ### Where a request goes (R33, R573, R576, R577) -/

/-- A request as the matrix sees it: the host's BAR0 offsets become internal addresses, with region 0 for the host area and 1 for the mirror;
none where BAR0 holds nothing. -/
def reqEnter (r : MatReq) : Option MatReq :=
  if r.master = 5 ∧ r.region ≠ 2 then
    if r.addr < 0x100000 then some { r with region := 0, addr := 0x41100000 + r.addr }
    else if r.addr < 0x1B00000 then some { r with region := 1, addr := 0x40000000 + (r.addr - 0x100000) }
    else none
  else some { r with region := 2 }

/-- What a read of nothing answers, and a write. -/
def reqZero (r : MatReq) : List Byte := if r.data.isSome then [] else zeroBytes r.size

/-! ### The firewall (R574) -/

/-- The region of 0 to 4 that covers an address. -/
def Block.fwRegion (b : Block) (a n : Nat) : Option Nat :=
  if 0x40000000 ≤ a ∧ a < 0x41A00000 then
    let v := (a - 0x40000000) / 0x100000
    some (if v = 0x12 ∨ v = 0x13 then 0 else if v = 0x0D then 1 else 4)
  else if a < 0x2400000 ∧ 0x2380000 < a + n then some 3
  else if 0x8000000000 ≤ a ∧ b.inBitmap (a - 0x8000000000) n then some 2
  else none

/-- A region allows a master a read or a write. -/
def fwAllows (r master : Nat) (write : Bool) : Bool := bitOf (if write then fwWrite r else fwRead r) master

/-- The region that refuses a request. -/
def Block.fwDenies (b : Block) (r : MatReq) : Option Nat :=
  let lc := b.lifeCycle; let wr := r.data.isSome
  let by04 : Option Nat := match b.fwRegion r.addr r.size with
    | none => none
    | some k => if fwAllows k r.master wr && (!(k == 4 && wr && r.master == 5 && r.region != 0) || lc == 0 || lc == 3) then none else some k
  if r.master = 9 then
    if lc = 0 then none
    else if lc = 3 then by04.filter fun k => decide (k < 4)
    else some 5
  else by04

/-! ### Answers (R559, R560, R568 to R573) -/

/-- The keep area as it lies in a bank (R647). -/
def Keep.bytes (k : Keep) : List Byte :=
  padTo 56 (k.slots.look 1).wrapped ++ padTo 40 (k.slots.look 2).wrapped ++ leBytes 2 k.chain.length ++ zeroBytes 2 ++ padTo 3400 k.chain ++ zeroBytes 12

/-- A byte of the flash read window (R638, R639, R647). -/
def Block.flashByte (b : Block) (o : Nat) : Byte :=
  let bank (s : Option Settings) (i : Nat) : Byte :=
    match s with
    | none => Config.settingsByte [] i
    | some s =>
      let other (i : Nat) : Byte := Config.settingsByte ([s.format, s.gen, s.fw] ++ s.cfg.flatMap fun e => [e.1, e.2]) i
      let head := padTo 4092 ([0x54, 0x5A, 0x53, 0x42, 0x01, 0x00] ++ leBytes 2 s.format ++ leBytes 8 s.gen ++ (List.range 8).map (fun k => other (16 + k))
        ++ leBytes 4 s.fw)
      if i < 4092 then head.getD i 0
      else if i < 4096 then (leBytes 4 (crc32c head)).getD (i - 4092) 0
      else if i < 4096 + 3512 then s.keep.bytes.getD (i - 4096) 0
      else other i
  let log (l : List LogRec) (i : Nat) : Byte := match l[i / 32]? with
    | some r => r.bytes.getD (i % 32) 0xFF
    | none => 0xFF
  if o < 0xC000000 then (b.flash.get o 1).headD 0xFF
  else if o < 0xC400000 then bank b.flash.bankA (o - 0xC000000)
  else if o < 0xC800000 then bank b.flash.bankB (o - 0xC400000)
  else if o < 0xCA00000 then log b.flash.logA (o - 0xC800000)
  else if o < 0xCC00000 then log b.flash.logB (o - 0xCA00000)
  else 0xFF

/-- The host cannot reach a register: the internal channels' registers, slots and locks (R582), and what it may not write in the host area
(R578). -/
def hostHidden (a : Nat) : Bool :=
  let o := a % 0x100000
  a / 0x100000 == 0x11 && ((decide (0x1000 + 32 * 33 ≤ o) && decide (o < 0x2000)) || (decide (0x10000 + 2048 * 33 ≤ o) && decide (o < 0x24800)))

/-- A response to a request: an error or not, with its data. -/
def Block.reply (b : Block) (r : MatReq) (err : Bool) (data : List Byte) : Block := b.emit (.bus r.master err data)

/-- A request for an address where nothing is (R569). -/
def Block.hole (b : Block) (r : MatReq) : Block × List MatErr :=
  (((b.set F.MATRIX_HIST_HOLE_HIT 0).bump F.MATRIX_HOLE_CNT_COUNT 0 1).reply r true (reqZero r), [⟨r.master, b.target r.addr, r.addr, r.data.isSome, 1, 0⟩])

/-- One cycle of the matrix under way: the device as the cycle found it, as it stands now, the events of R571, and the registers written. -/
structure MatCycle where
  old : Block
  now : Block
  errs : List MatErr
  wrote : List Nat
deriving DecidableEq, Repr

/-- The cycle with a step of the device and its events. -/
def MatCycle.run (c : MatCycle) (f : Block → Block × List MatErr) : MatCycle :=
  let (b, e) := f c.now
  { c with now := b, errs := c.errs ++ e }

/-- The word a read answers: a register written in the same cycle reads as the cycle found it (R129, R565). -/
def MatCycle.word (c : MatCycle) (a v : Nat) : Nat := if a ∈ c.wrote then c.old.regPeek a else v

/-- A register access (R129, R565, R570, R573, R577, R582, R700). -/
def MatCycle.serveReg (c : MatCycle) (r : MatReq) : MatCycle :=
  let a := r.addr - 0x40000000; let b := c.now
  if r.size ≠ 4 ∨ r.addr % 4 ≠ 0 then c.run fun b => b.hole r
  else if r.master = 5 ∧ hostHidden a then c.run fun b => (b.reply r false (reqZero r), [])
  else if b.regHas a ∧ b.regOff a then
    c.run fun b => (((b.set F.MATRIX_HIST_PD_OFF_HIT 0).bump F.MATRIX_HOLE_CNT_COUNT 0 1).reply r false (reqZero r),
      [⟨r.master, b.target r.addr, r.addr, r.data.isSome, 4, 0⟩])
  else match r.data with
  | some d =>
    if r.region = 0 ∧ a % 0x100000 < 0x100 then c.run fun b => (b.reply r false [], [])
    else { c.run fun b => ((b.regWrite r.master a (leNat (padTo 4 d))).reply r false [], []) with wrote := a :: c.wrote }
  | none =>
    if r.region = 1 then c.run fun b => let b := b.live a; (b.reply r false (leBytes 4 (c.word a (b.regPeek a))), [])
    else c.run fun b =>
      let (v, b) := (b.live a).regTake a
      (b.reply r false (leBytes 4 (c.word a v)), [])

/-- A target other than the bridges to the register blocks answers a request. -/
def Block.serve (b : Block) (r : MatReq) : Block × List MatErr :=
  let n := r.size
  match b.target r.addr with
  | 0 =>
    let o := if inAlias r.addr then r.addr else r.addr - 0x1000000
    if 0x80000 < o + n then b.hole r
    else (b.reply r false (if r.data.isSome then [] else (List.range n).map fun i => Config.romByte (o + i)), [])
  | 1 =>
    let o := if inAlias r.addr then r.addr else r.addr - 0x2000000
    if 0x400000 < o + n then b.hole r
    else match r.data with
    | some d => ((b.updMat fun m => { m with sram := ((padTo n d).foldl (fun (s : Bank Byte × Nat) x => (s.1.put s.2 x, s.2 + 1)) (m.sram, o)).1 }).reply r false [], [])
    | none => (b.reply r false ((List.range n).map fun i => b.mat.sram.look (o + i)), [])
  | 2 =>
    if 0x20000000 < r.addr + n then b.hole r
    else (b.reply r false (if r.data.isSome then [] else (List.range n).map fun i => b.flashByte (r.addr - 0x10000000 + i)), [])
  | 5 =>
    let o := r.addr - 0x8000000000
    if b.yardEnd < r.addr + n then b.hole r
    else match r.data with
    | some d => ((b.yardPut o (padTo n d)).reply r false [], [])
    | none =>
      if b.poisoned o n then (b.reply r true (zeroBytes n), [⟨r.master, 5, r.addr, false, 0, 0⟩])
      else (b.reply r false (b.yardGet o n), [])
  | _ => b.hole r

/-- A target answers a request. -/
def MatCycle.serve (c : MatCycle) (r : MatReq) : MatCycle :=
  let k := c.now.target r.addr
  let c := { c with now := c.now.targetAnswered (targetBlock k r.addr) }
  if k = 3 ∨ k = 4 then c.serveReg r else c.run fun b => b.serve r

/-! ### Hold-back and arbitration (R562 to R567) -/

/-- A request must wait (R566). -/
def Block.mustHold (b : Block) (r : MatReq) : Bool :=
  let k := b.target r.addr
  (b.mat.out.any fun q => q.master == r.master && q.tid == r.tid && b.target q.addr != k)
    || (r.data.isNone && b.mat.out.any fun q => q.master == r.master && q.data.isSome && decide (q.addr < r.addr + r.size) && decide (r.addr < q.addr + q.size))
    || (inAlias r.addr && b.mat.remapping)
    || !decide (b.outstanding k ≤ Config.responseSlots k)

/-- The place of a request in the order of its target, lowest first: the parked master of an idle target, then aged requests, then by
priority and in turn (R563, R564). -/
def Block.turn (b : Block) (k : Nat) (idle : Bool) (r : MatReq) : Nat :=
  if idle ∧ b.parkNow k = r.master then 0
  else if b.fld F.MATRIX_CTRL_AGE_LIMIT 0 * 16 ≤ r.waited then 1 + r.master
  else 100 + (7 - bitsOf (b.fld F.MATRIX_PRIO_PRIO k) (3 * r.master) 3) * 16 + (r.master + 10 - b.mat.served.look k) % 10

/-- The request with the lowest place, the first among equals; the flag marks a request that is new. -/
def Block.nextTurn (b : Block) (k : Nat) (idle : Bool) : List (MatReq × Bool) → Option (MatReq × Bool)
  | [] => none
  | x :: t => match b.nextTurn k idle t with
    | some y => if b.turn k idle y.1 < b.turn k idle x.1 then some y else some x
    | none => some x

/-- A target takes its requests in order; what must wait is held back and counted once. -/
def MatCycle.arbitrate (k : Nat) (idle : Bool) : Nat → MatCycle → List (MatReq × Bool) → MatCycle
  | 0, c, _ => c
  | f + 1, c, l =>
    match c.now.nextTurn k idle l with
    | none => c
    | some x =>
      let (r, new) := x
      if c.now.mustHold r then
        MatCycle.arbitrate k idle f (c.run fun b =>
          ((b.ite new fun b => b.bump F.MATRIX_HOLD_CNT_COUNT k 1).updMat fun m => { m with held := m.held ++ [r] }, [])) (l.erase x)
      else
        let c := c.run fun b => (b.updMat fun m => { m with served := m.served.put k (r.master + 1) }, [])
        MatCycle.arbitrate k idle f (if r.answered then c.serve r else c.run fun b => (b.updMat fun m => { m with out := m.out ++ [r] }, [])) (l.erase x)

/-- A request accepted before, by master and transaction ID, is answered. -/
def MatCycle.finish (c : MatCycle) (e : Nat × Nat) : MatCycle :=
  match c.now.mat.out.find? fun q => q.master == e.1 && q.tid == e.2 with
  | some q => MatCycle.serve (c.run fun b => (b.updMat fun m => { m with out := m.out.erase q }, [])) q
  | none => c

/-- A request before arbitration: what BAR0 does not hold is answered with zero, and the firewall refuses what it does not allow (R574, R577);
none where nothing goes on to a target. -/
def MatCycle.letIn (c : MatCycle) (r : MatReq) : MatCycle × Option MatReq :=
  match reqEnter r with
  | none => (c.run fun b => (b.reply r false (reqZero r), []), none)
  | some r => match c.now.fwDenies r with
    | some k => (c.run fun b => (((b.set F.MATRIX_HIST_FW_DENY 0).bump F.MATRIX_DENY_CNT_COUNT 0 1).reply r false (reqZero r),
        [⟨r.master, b.target r.addr, r.addr, r.data.isSome, 2, k⟩]), none)
    | none => (c, some r)

/-- What one cycle brings: targets answer requests accepted before (`ends`, by master and transaction ID), and requests arrive. -/
def Block.matrixCycle (b : Block) (reqs : List MatReq) (ends : List (Nat × Nat)) : Block :=
  let c := ends.foldl MatCycle.finish (⟨b, b, [], []⟩ : MatCycle)
  let c := c.run fun b => (b.parkSettle, [])
  let (c, new) := reqs.foldl (fun (s : MatCycle × List MatReq) r =>
    let (c, o) := s.1.letIn r
    (c, s.2 ++ o.toList)) (c, [])
  let all := c.now.mat.held.map (fun r => (r, false)) ++ new.map fun r => (r, true)
  let c := c.run fun b => (b.updMat fun m => { m with held := [] }, [])
  let c := (List.range 7).foldl (fun (c : MatCycle) k =>
    let mine := all.filter fun x => c.now.target x.1.addr == k
    MatCycle.arbitrate k (c.now.outstanding k == 0) mine.length c mine) c
  c.now.matErrs c.errs

/-- MATRIX_ACCESS (R559 to R574). -/
def matrixAccess (reqs : List MatReq) (ends : List (Nat × Nat)) (b : Block) : Block := b.matrixCycle reqs ends

/-- REMAP_EFFECT: the alias window's transactions have completed; `REMAP` takes effect, and what was held back goes on (R562). -/
def remapEffect (b : Block) : Block :=
  if b.mat.remapping ∧ ¬(b.mat.out.any fun r => inAlias r.addr) then
    ((b.set F.MATRIX_CTRL_REMAP 0).updMat fun m => { m with remapping := false }).matrixCycle [] []
  else b

/-- REGISTER_WRITE: master `m` writes word `v` to a register; `addr` is an internal address, and for the host an offset of BAR0 (R34, R574,
R578, R701). -/
def registerWrite (m addr v : Nat) (b : Block) : Block := b.matrixCycle [⟨m, 0, 0, addr, 4, some (leBytes 4 v), 0, true⟩] []

/-! ### BAR2 (R445, R579) -/

/-- BAR2_ACCESS: the host reads `n` bytes at an offset of BAR2, or writes `data`. -/
def bar2Access (off n : Nat) (data : Option (List Byte)) (b : Block) : Block :=
  let a := b.fld F.BAR2_WIN_GIB 0 * gib + off
  let zero := if data.isSome then [] else zeroBytes n
  let err (b : Block) (kind region target : Nat) : Block := (b.matErrs [⟨5, target, 0x8000000000 + a, data.isSome, kind, region⟩]).emit (.bar2 zero)
  if gib < off + n then b
  else if b.yardGiB * gib < a + n then err ((b.set F.MATRIX_HIST_HOLE_HIT 0).bump F.MATRIX_HOLE_CNT_COUNT 0 1) 1 0 6
  else match data with
  | some d =>
    if b.bar2Open a n then (b.yardPut a (padTo n d)).emit (.bar2 [])
    else ((b.set F.MBX_HIST_BAR2_DENY 0).bump F.BAR2_DENY_CNT_COUNT 0 1).emit (.bar2 [])
  | none =>
    if b.inBitmap a n then err ((b.set F.MATRIX_HIST_FW_DENY 0).bump F.MATRIX_DENY_CNT_COUNT 0 1) 2 2 5
    else if b.poisoned a n then err b 0 0 5
    else b.emit (.bar2 (b.yardGet a n))

/-! ### Diagnostic commands (R602, R603) -/

/-- The management core that a diagnostic command runs on. -/
def masterOf (ch : Nat) : Nat := serverOf ch % 4

/-- One register of `DIAG_READ`. -/
def Block.diagGet (b : Block) (master a : Nat) (take : Bool) : Nat × Block :=
  if b.regHas a ∧ b.regOff a then
    (0, b.pdOffHit master a false)
  else if take then (b.live a).regTake a
  else let b := b.live a; (b.regPeek a, b)

/-- DIAG_READ, 0x0D01. -/
def diagRead (ch : Nat) (p : List Byte) (b : Block) : Block :=
  let addr := le p 0 8; let a := addr - 0x40000000; let n := le p 8 2; let take := bitOf (le p 10 1) 0
  b.command ch 0x0D01 true (p.length == 12)
    [(!(decide (0x40000000 ≤ addr) && decide (addr < 0x41A00000) && addr % 4 == 0 && decide (1 ≤ n) && decide (n ≤ 240)
        && decide (a % 0x100000 + 4 * n ≤ 0x100000) && decide (le p 10 1 ≤ 1) && zeros p 11 1), St.BAD_ARG)] []
    fun b =>
      let (d, b) := (List.range n).foldl (fun (s : List Byte × Block) i =>
        let (v, b) := s.2.diagGet (masterOf ch) (a + 4 * i) take
        (s.1 ++ leBytes 4 v, b)) ([], b)
      b.ok ch d

/-- DIAG_WRITE, 0x0D02 (R603): the write is made as a management core, and the matrix records a refusal by the firewall (R574). -/
def diagWrite (ch : Nat) (p : List Byte) (b : Block) : Block :=
  let addr := le p 0 8; let lc := b.lifeCycle
  let r : MatReq := ⟨masterOf ch, 0, 2, addr, 4, some (bytesAt p 8 4), 0, true⟩
  b.command ch 0x0D02 true (p.length == 12)
    [(!(decide (0x40000000 ≤ addr) && decide (addr < 0x41A00000) && addr % 4 == 0), St.BAD_ARG)]
    [(!(lc == 0 || lc == 3), St.AUTH_FAIL)]
    fun b => (b.matrixCycle [r] []).answer ch (if (b.fwDenies r).isSome then St.AUTH_FAIL else St.OK) []

end Sys2Proof.Machine
end

