-- ==== Sys2Proof/Machine/Start.lean ====
section
/-!
DEFINITION. Release, settings, the wake's configuration, and the update commands (R627, R640, R641, R647 to R653, R675, R733).
-/
namespace Sys2Proof.Machine

/-! ### The configuration of the settings (R647, R675) -/

/-- Registers whose fields are not part of the configuration: what ports set for themselves, tests, one-shot values, and the host's own. -/
def unsaved (f : Field) : Bool :=
  f.reg == R.LANE_CTRL || f.reg == R.RX_EQ || f.reg == R.PAT_CFG || f.reg == R.EYE_CFG || f.reg == R.TMR_CFG || f.reg == R.TIME_SET_NS
    || f.reg == R.TIME_SET_SEC_LO || f.reg == R.TIME_SET_SEC_HI || f.reg.off / 0x100000 == 0x11 || f.reg.off / 0x100000 == 0x15

/-- The field that a key names. -/
def fieldOf (key : Nat) : Option Field := ((fieldsAt (key / 32)).map Prod.fst).find? fun f => f.lo == key % 32

/-- The configuration as it stands: every saved RW field that does not hold its reset value. -/
def Block.config (b : Block) : List (Nat × Nat) :=
  b.regs.filterMap fun e => match e.2, fieldOf e.1 with
    | some v, some f => if f.acc = .rw ∧ ¬unsaved f then some (e.1, v) else none
    | _, _ => none

/-- The addresses of a configuration, each once, in order. -/
def cfgAddrs (cfg : List (Nat × Nat)) : List Nat := (cfg.map fun e => e.1 / 32).dedup

/-- The word that a configuration gives a register; with `enable` no, enable bits are 0. -/
def Block.cfgWord (b : Block) (cfg : List (Nat × Nat)) (a : Nat) (enable : Bool) : Nat :=
  (fieldsAt a).foldl (fun w e =>
    if e.1.acc = .rw then
      let v := ((cfg.find? fun c => c.1 == e.1.key e.2).map Prod.snd).getD (b.fld e.1 e.2)
      w + (if !enable && e.1.lo == 0 && e.1.width == 1 then 0 else v) * 2 ^ e.1.lo
    else w) 0

/-- The firmware writes a configuration: every register with its enable bit 0 first, then as saved; `WIT_CFG` is stored, its set not being
mounted yet. -/
def Block.applyConfig (b : Block) (s : Settings) : Block :=
  let b := { b with carve := s.carve, allow := s.allow, flowRx := s.rx, flowTx := s.tx }
  let write (enable : Bool) (b : Block) (a : Nat) : Block :=
    if a = R.WIT_CFG.off then b.plainWrite a (b.cfgWord s.cfg a true) else b.regWrite 0 a (b.cfgWord s.cfg a enable)
  (b.each (cfgAddrs s.cfg) (write false)).each (cfgAddrs s.cfg) (write true)

/-- DOMAIN_SWITCH; a wake that completes restores the configuration from the current bank (R659, R675). -/
def domainSwitchWake (b : Block) : Block :=
  let b' := domainSwitch b
  if b.pwrState = 3 ∧ b'.pwrState = 0 then
    match b'.settings with
    | some s => b'.applyConfig s
    | none => b'
  else b'

/-! ### Release (R627, R670, R733) -/

/-- RELEASE: the boot epoch is recorded, the trial count returns to 0, the settings are applied, the domains they record as off and those of
unused fabric ports are queued off, and the heartbeat follows R535. -/
def release (b : Block) : Block :=
  if ¬b.start.booted ∨ b.released ∨ b.start.phases ≠ 63 ∨ b.on F.BIST_STATUS_SAFE 0 then b
  else
    let b := b.logAppend 1 0 b.dev.bootEpoch
    let b := b.ite (b.updState == 5) fun b => b.setUpdState 5 0
    let b := { b with released := true }.updStart fun s => { s with relRaw := b.time.raw }
    let b := b.each ((List.range 26).filter b.has) fun b v => b.set F.BLK_STATUS_READY v
    let b := match b.settings with
      | some s => ((b.applyConfig s).updPwr fun p => { p with off := s.domOff }).queueDoms s.domOff false false
      | none => b
    let b := b.queueDoms ((List.range 33).filter b.domUnused) false false
    let b := b.hbSettle.mountStart
    if 1050 ≤ b.sfld F.PWR_TEMP_TJ 0 then b.thermalShutdown else b

/-! ### Settings commands (R649 to R651) -/

/-- The settings as they stand, for the next generation. -/
def Block.snapshot (b : Block) : Settings :=
  ⟨b.ownFormat, max (genOf b.flash.bankA) (genOf b.flash.bankB) + 1, b.start.version, b.config, b.pwr.off,
   (b.settings.map Settings.strict).getD false, b.flt.rows, b.carve, b.flowRx.map (fun e => (e.1, e.2.restarted)), b.flowTx, b.allow, b.keys.keep⟩

/-- SETTINGS_SAVE, 0x0B10: the target bank is erased, and written by SETTINGS_WRITE_DONE. -/
def settingsSave (ch : Nat) (p : List Byte) (b : Block) : Block :=
  b.command ch 0x0B10 true p.isEmpty [] [(b.start.saving.isSome, St.NOT_READY)]
    fun b =>
      let t := b.targetBank; let s := b.snapshot
      ((b.updFlash fun f => f.setBank t none).updStart fun st => { st with saving := some (t, s) }).answer ch St.ACCEPTED []

/-- SETTINGS_WRITE_DONE: the header is written and read back; the bank is the current one. -/
def settingsWriteDone (b : Block) : Block :=
  match b.start.saving with
  | some (t, s) => (b.updFlash fun f => f.setBank t (some s)).updStart fun st => { st with saving := none, curB := t, defaulted := false }
  | none => b

/-! ### Update commands (R640, R641, R653) -/

/-- Units of 128 bytes of an image. -/
def unitsOf (len : Nat) : Nat := (len + 127) / 128

/-- UPD_BEGIN, 0x0B01. -/
def updBegin (ch : Nat) (p : List Byte) (b : Block) : Block :=
  b.command ch 0x0B01 true (p.length == 12)
    [(!(decide (512 ≤ le p 0 4) && decide (le p 0 4 ≤ 67108864) && le p 4 4 == 0x5E5E && zeros p 8 4), St.BAD_ARG)] [(b.updState != 0, St.NOT_READY)]
    fun b => ((b.setUpdState 1 0).updStart fun s => { s with erasing := true, verifying := false, length := le p 0 4, units := [] }).answer ch St.ACCEPTED []

/-- STAGING_ERASE_DONE. -/
def stagingEraseDone (b : Block) : Block :=
  if b.start.erasing then (b.updFlash fun f => f.erase staging b.start.length).updStart fun s => { s with erasing := false } else b

/-- Staging takes units. -/
def Block.receiving (b : Block) : Bool := b.updState == 1 && !b.start.erasing && !b.start.verifying

/-- UPD_WRITE, 0x0B02. -/
def updWrite (ch : Nat) (p : List Byte) (b : Block) : Block :=
  let o := le p 0 4; let n := le p 4 2; let d := bytesAt p 8 n
  let parts := (List.range (unitsOf n)).map fun i => (o / 128 + i, bytesAt d (128 * i) (min 128 (n - 128 * i)))
  b.command ch 0x0B02 true (p.length == 8 + n)
    [(!(o % 128 == 0 && decide (1 ≤ n) && decide (n ≤ 896) && zeros p 6 2), St.BAD_ARG),
     (b.receiving && (decide (b.start.length < o + n) || !(n % 128 == 0 || o + n == b.start.length)
        || parts.any fun x => b.start.units.look x.1 && b.flash.get (staging + 128 * x.1) x.2.length != x.2), St.BAD_ARG)]
    [(!b.receiving, St.NOT_READY)]
    fun b =>
      (b.each parts fun b x => (b.updFlash fun f => f.write (staging + 128 * x.1) x.2).updStart fun s => { s with units := s.units.put x.1 true }).ok ch []

/-- UPD_FINISH, 0x0B03. -/
def updFinish (ch : Nat) (p : List Byte) (b : Block) : Block :=
  b.command ch 0x0B03 true p.isEmpty [] [(!(b.receiving && b.start.units.length == unitsOf b.start.length), St.NOT_READY)]
    fun b => (b.updStart fun s => { s with verifying := true }).answer ch St.ACCEPTED []

/-- STAGING_VERIFY_DONE. -/
def stagingVerifyDone (b : Block) : Block :=
  if b.start.verifying then
    let b := b.updStart fun s => { s with verifying := false }
    match b.flash.imageFault staging with
    | none => b.setUpdState 2 0
    | some r => (b.setUpdState 0 0).updStart fun s => { s with reason := r }
  else b

/-- UPD_STATUS, 0x0B04. -/
def updStatus (ch : Nat) (p : List Byte) (b : Block) : Block :=
  b.command ch 0x0B04 true p.isEmpty [] []
    fun b =>
      let s := b.start; let st := b.updState; let staged := decide (2 ≤ st) && decide (st ≤ 4)
      let flags := bit s.fallback + bit s.rolledBack * 2 + bit s.defaulted * 4 + bit s.erasing * 8 + bit s.verifying * 16
        + bit (b.fld F.BIST_STATUS_RESULT 0 == 1) * 32
      b.answer ch (if s.defaulted then St.SETTINGS_DEFAULTED else St.OK)
        (leBytes 1 st ++ leBytes 1 flags ++ leBytes 2 s.reason ++ leBytes 4 s.version ++ leBytes 4 b.dev.compat
          ++ leBytes 4 (if staged then b.flash.version staging else 0) ++ leBytes 4 (if staged then b.flash.compat staging else 0)
          ++ leBytes 4 (if b.flash.verifies prevSlot then b.flash.version prevSlot else 0) ++ leBytes 1 b.trialCount ++ zeroBytes 3
          ++ leBytes 4 s.units.length ++ leBytes 8 (genOf b.settings) ++ leBytes 1 (bit s.curB) ++ leBytes 1 ((b.settings.map Settings.format).getD 0)
          ++ zeroBytes 6)

/-- UPD_COMMIT, 0x0B05. -/
def updCommit (ch : Nat) (p : List Byte) (b : Block) : Block :=
  b.command ch 0x0B05 true (p.length == 4) [(le p 0 4 != 0xC0C0, St.BAD_ARG)] [(b.updState != 5, St.NOT_READY)] fun b => (b.setUpdState 0 0).ok ch []

/-- UPD_ROLLBACK, 0x0B06: the copy is made at the next start. -/
def updRollback (ch : Nat) (p : List Byte) (b : Block) : Block :=
  b.command ch 0x0B06 true (p.length == 4) [(le p 0 4 != 0xBAC0, St.BAD_ARG)] [(b.updState != 5, St.NOT_READY)] fun b => (b.setUpdState 6 0).ok ch []

/-- UPD_ABORT, 0x0B07. -/
def updAbort (ch : Nat) (p : List Byte) (b : Block) : Block :=
  b.command ch 0x0B07 true p.isEmpty [] [(!(b.updState == 1 || b.updState == 2), St.NOT_READY)]
    fun b => ((b.setUpdState 0 0).updStart fun s => { s with erasing := false, verifying := false }).ok ch []

/-- BIST_REPORT, 0x0D04. -/
def bistReport (ch : Nat) (p : List Byte) (b : Block) : Block :=
  b.command ch 0x0D04 true p.isEmpty [] []
    fun b =>
      let ss := List.range b.stacks
      let spares := (ss.map fun s => b.fld F.BIST_YARD_SPARES_MIN s).foldl min (b.fld F.BIST_YARD_SPARES_MIN 0)
      b.ok ch (leBytes 1 (b.fld F.BIST_STATUS_RESULT 0) ++ zeroBytes 3 ++ leBytes 4 b.start.duration ++ leBytes 4 b.start.failed
        ++ leBytes 4 b.start.rings ++ ((List.range 11).map fun i => leBytes 4 (b.fld F.BIST_LANE_FAIL_FAIL i)).flatten
        ++ leBytes 2 (ss.map fun s => b.fld F.BIST_YARD_REPAIRED s).sum ++ leBytes 2 spares ++ leBytes 4 (b.fld F.BIST_FIRST_FAIL_CODE 0)
        ++ leBytes 4 (b.fld F.BIST_FIRST_FAIL_ARG 0) ++ zeroBytes 8)

end Sys2Proof.Machine
end

