-- ==== Sys2Proof/Machine/Irq.lean ====
section
/-!
DEFINITION. What every command shares: the record of outputs starts anew, a device held in reset does nothing, and MSI-X vectors are requested
on the rise of their conditions (R581, R706, R717, R721).
-/
namespace Sys2Proof.Machine

/-- The condition of an MSI-X vector. -/
def Block.vector (b : Block) (v : Nat) : Bool :=
  if v < 26 then b.has v && Nat.land (b.irqStatus v) (b.fld F.BLK_IRQ_EN_EN v) != 0
  else if v = 26 then b.histAsks (R.CH_HIST, R.CH_IRQ_EN) 32
  else if 32 ≤ v ∧ v < 64 then b.histAsks (R.CH_HIST, R.CH_IRQ_EN) (v - 32)
  else false

/-- The vectors whose condition has risen. -/
def vectorsRisen (b b' : Block) : List Nat := (List.range 64).filter fun v => b'.vector v && !b.vector v

/-- The device with its record of outputs empty. -/
def Block.quiet (b : Block) : Block := { b with out := [] }

/-- A command's effect with the vectors it requests. -/
def Block.effect (b : Block) (f : Block → Block) : Block :=
  let b' := f b.quiet
  { b' with out := b'.out ++ (vectorsRisen b b').map Out.msix }

/-- The next state of a command whose effect is `f`; the queue is left alone. -/
def runAlways (f : Block → Block) (s : State) : Host.Outcome State Fault Refusal := .next { s with toBlock := s.toBlock.effect f }

/-- The same, for a command that a device held in reset does not take. -/
def run (f : Block → Block) (s : State) : Host.Outcome State Fault Refusal :=
  if s.held then .next { s with toBlock := s.toBlock.quiet } else runAlways f s

end Sys2Proof.Machine
end

