-- ==== Sys2Proof/Machine/Meanings.lean ====
section
/-!
DEFINITION. The meaning of each command: its effect on the device, the queue left alone. Each is one call of the effect
that its family's file defines.
-/
namespace Sys2Proof.Machine

/-- POWER_ON_RESET (R103). -/
def execPowerOnReset (s : State) : Host.Outcome State Fault Refusal := runAlways (powerOnReset) s
/-- RESET_N_ASSERT (R721). -/
def execResetNAssert (s : State) : Host.Outcome State Fault Refusal := runAlways (resetNAssert) s
/-- POWER_ON_RELEASE (R628). -/
def execPowerOnRelease (slotId : Nat) (s : State) : Host.Outcome State Fault Refusal := runAlways (powerOnRelease slotId) s
/-- SELFTEST_PHASE_DONE (R629). -/
def execSelftestPhaseDone (phase : Nat) (buffer : Bool) (bad : List Nat) (yard : List (Nat × Nat)) (s : State) : Host.Outcome State Fault Refusal := run (selftestPhaseDone phase buffer bad yard) s
/-- RELEASE (R627). -/
def execReleaseDevice (s : State) : Host.Outcome State Fault Refusal := run (release) s
/-- SLOT_COPY_DONE (R641). -/
def execSlotCopyDone (good : Bool) (s : State) : Host.Outcome State Fault Refusal := run (slotCopyDone good) s
/-- TIME_TICK (R102). -/
def execTimeTick (s : State) : Host.Outcome State Fault Refusal := runAlways (timeTick) s
/-- SET_GO (R109). -/
def execSetGo (v : Word) (tie : Bool) (s : State) : Host.Outcome State Fault Refusal := run (onReg R.TIME_CTRL 0 false (withCox (setGo v.toNat tie))) s
/-- UNSYNC (R111). -/
def execUnsync (v : Word) (s : State) : Host.Outcome State Fault Refusal := run (onReg R.TIME_CTRL 0 false (unsync v.toNat)) s
/-- TIME_ADJ_DONE (R105). -/
def execTimeAdjDone (s : State) : Host.Outcome State Fault Refusal := run (timeAdjDone) s
/-- TIME_NS_READ (R127). -/
def execTimeNsRead (s : State) : Host.Outcome State Fault Refusal := run (onReg R.TIME_NS 0 true (timeNsRead)) s
/-- TIME_RAW_LO_READ (R127). -/
def execTimeRawLoRead (s : State) : Host.Outcome State Fault Refusal := run (onReg R.TIME_RAW_LO 0 true (timeRawLoRead)) s
/-- TIME_RATE_LO_READ (R127). -/
def execTimeRateLoRead (s : State) : Host.Outcome State Fault Refusal := run (onReg R.TIME_RATE_LO 0 true (timeRateLoRead)) s
/-- TMR_ARM (R119). -/
def execTmrArm (n : Nat) (v : Word) (s : State) : Host.Outcome State Fault Refusal := run (onReg R.TMR_CFG n false (tmrArm n v.toNat)) s
/-- TIMER_FIRE (R117). -/
def execTimerFire (n : Nat) (s : State) : Host.Outcome State Fault Refusal := run (timerFireWake n) s
/-- CAPTURE_EDGE (R123). -/
def execCaptureEdge (n : Nat) (rising : Bool) (quarters : Nat) (s : State) : Host.Outcome State Fault Refusal := run (captureEdge n rising quarters) s
/-- CAP_NS_READ (R126). -/
def execCapNsRead (n : Nat) (s : State) : Host.Outcome State Fault Refusal := run (onReg R.CAP_NS n true (capNsRead n)) s
/-- TIME_UNSYNC (R112). -/
def execTimeUnsync (ch : Nat) (p : List Byte) (s : State) : Host.Outcome State Fault Refusal := run (timeUnsync ch p) s
/-- TIME_GET (R134). -/
def execTimeGet (ch : Nat) (p : List Byte) (s : State) : Host.Outcome State Fault Refusal := run (timeGet ch p) s
/-- TMR_SET (R135). -/
def execTmrSet (ch : Nat) (p : List Byte) (s : State) : Host.Outcome State Fault Refusal := run (tmrSet ch p) s
/-- CAP_SET (R134). -/
def execCapSet (ch : Nat) (p : List Byte) (s : State) : Host.Outcome State Fault Refusal := run (capSet ch p) s
/-- CAP_READ (R131). -/
def execCapRead (ch : Nat) (p : List Byte) (s : State) : Host.Outcome State Fault Refusal := run (capRead ch p) s
/-- PLL_TRACK_UPDATE (R88). -/
def execPllTrackUpdate (m : Nat) (s : State) : Host.Outcome State Fault Refusal := run (pllTrackUpdate m) s
/-- PLL_COUNT_CORRECT (R88). -/
def execPllCountCorrect (m count : Nat) (s : State) : Host.Outcome State Fault Refusal := run (pllCountCorrect m count) s
/-- PLL_LOCK_WINDOW (R89). -/
def execPllLockWindow (m count : Nat) (s : State) : Host.Outcome State Fault Refusal := run (pllLockWindow m count) s
/-- OSC_IN_LOST (R90). -/
def execOscInLost (s : State) : Host.Outcome State Fault Refusal := run (oscInLost) s
/-- PLL_DIVIDER_WRITE (R96). -/
def execPllDividerWrite (m which : Nat) (v : Word) (s : State) : Host.Outcome State Fault Refusal := run (onReg (pllReg which) m false (pllDividerWrite m which v.toNat)) s
/-- PLL_SMALL_WRITE (R99). -/
def execPllSmallWrite (m which : Nat) (v : Word) (s : State) : Host.Outcome State Fault Refusal := run (onReg (pllReg which) m false (pllSmallWrite m which v.toNat)) s
/-- RAMP_GO (R97). -/
def execRampGo (m : Nat) (v : Word) (s : State) : Host.Outcome State Fault Refusal := run (onReg R.PLL_RAMP_GO m false (rampGo m v.toNat)) s
/-- RAMP_ABORT (R98). -/
def execRampAbort (m : Nat) (v : Word) (s : State) : Host.Outcome State Fault Refusal := run (onReg R.PLL_RAMP_GO m false (rampAbort m v.toNat)) s
/-- RAMP_HOLD_END (R97). -/
def execRampHoldEnd (m : Nat) (s : State) : Host.Outcome State Fault Refusal := run (rampHoldEnd m) s
/-- REF_CANDIDATE_WRITE (R42). -/
def execRefCandidateWrite (n which : Nat) (v : Word) (s : State) : Host.Outcome State Fault Refusal := run (onReg (candReg which) n false (refCandidateWrite n which v.toNat)) s
/-- CANDIDATE_LOST (R40). -/
def execCandidateLost (n : Nat) (s : State) : Host.Outcome State Fault Refusal := run (candidateLost n) s
/-- CANDIDATE_QUALIFIED (R41). -/
def execCandidateQualified (n : Nat) (s : State) : Host.Outcome State Fault Refusal := run (candidateQualified n) s
/-- SELECTION_EVAL (R47). -/
def execSelectionEval (s : State) : Host.Outcome State Fault Refusal := run (selectionEval) s
/-- DPLL_COMPARISON (R55). -/
def execDpllComparison (n : Nat) (m : Measure) (freq : Int) (s : State) : Host.Outcome State Fault Refusal := run (dpllComparison n m freq) s
/-- LOCK_DECLARED (R54). -/
def execLockDeclared (s : State) : Host.Outcome State Fault Refusal := run (lockDeclared) s
/-- BW_STEP_DOWN (R52). -/
def execBwStepDown (s : State) : Host.Outcome State Fault Refusal := run (bwStepDown) s
/-- FREQ_HISTORY_STORE (R59). -/
def execFreqHistoryStore (s : State) : Host.Outcome State Fault Refusal := run (freqHistoryStore) s
/-- HOLDOVER_CHECK (R62). -/
def execHoldoverCheck (s : State) : Host.Outcome State Fault Refusal := run (holdoverCheck) s
/-- FORCE_HOLDOVER (R64). -/
def execForceHoldover (v : Word) (s : State) : Host.Outcome State Fault Refusal := run (onReg R.REFS_CTRL 0 false (forceHoldover v.toNat)) s
/-- FORCE_FREERUN (R64). -/
def execForceFreerun (v : Word) (s : State) : Host.Outcome State Fault Refusal := run (onReg R.REFS_CTRL 0 false (forceFreerun v.toNat)) s
/-- TL_CFG_WRITE (R70). -/
def execTlCfgWrite (k : Nat) (v : Word) (s : State) : Host.Outcome State Fault Refusal := run (onReg R.TL_CFG k false (tlCfgWrite k v.toNat)) s
/-- TL_POS_FRAME_LO_READ (R71). -/
def execTlPosFrameLoRead (k : Nat) (s : State) : Host.Outcome State Fault Refusal := run (onReg R.TL_POS_FRAME_LO k true (tlPosFrameLoRead k)) s
/-- FP_PULSE (R72). -/
def execFpPulse (j frame : Nat) (s : State) : Host.Outcome State Fault Refusal := run (fpPulse j frame) s
/-- FP_ALIGN_GO (R75). -/
def execFpAlignGo (j : Nat) (v : Word) (s : State) : Host.Outcome State Fault Refusal := run (onReg R.FP_ALIGN j false (fpAlignGo j v.toNat)) s
/-- REF_SET_CANDIDATE (R83). -/
def execRefSetCandidate (ch : Nat) (p : List Byte) (s : State) : Host.Outcome State Fault Refusal := run (refSetCandidate ch p) s
/-- REF_SET_LOOP (R82). -/
def execRefSetLoop (ch : Nat) (p : List Byte) (s : State) : Host.Outcome State Fault Refusal := run (refSetLoop ch p) s
/-- REF_GET_STATUS (R82). -/
def execRefGetStatus (ch : Nat) (p : List Byte) (s : State) : Host.Outcome State Fault Refusal := run (refGetStatus ch p) s
/-- TL_SET (R84). -/
def execTlSet (ch : Nat) (p : List Byte) (s : State) : Host.Outcome State Fault Refusal := run (tlSet ch p) s
/-- FP_SET (R72). -/
def execFpSet (ch : Nat) (p : List Byte) (s : State) : Host.Outcome State Fault Refusal := run (fpSet ch p) s
/-- FP_REALIGN (R75). -/
def execFpRealign (ch : Nat) (p : List Byte) (s : State) : Host.Outcome State Fault Refusal := run (fpRealignCmd ch p) s
/-- LANE_CONDITION (R155). -/
def execLaneCondition (l kind : Nat) (s : State) : Host.Outcome State Fault Refusal := run (atLane l (laneCondition l kind)) s
/-- RETRAIN_END (R156). -/
def execRetrainEnd (l : Nat) (ok : Bool) (s : State) : Host.Outcome State Fault Refusal := run (atLane l (retrainEnd l ok)) s
/-- LASTING_RETRY (R157). -/
def execLastingRetry (l : Nat) (ok : Bool) (s : State) : Host.Outcome State Fault Refusal := run (atLane l (lastingRetry l ok)) s
/-- RETRAIN (R156). -/
def execRetrain (l : Nat) (v : Word) (s : State) : Host.Outcome State Fault Refusal := run (onReg R.LANE_CTRL l false (onLane l (retrainWrite l v.toNat))) s
/-- HUNT_DWELL_END (R141). -/
def execHuntDwellEnd (l : Nat) (s : State) : Host.Outcome State Fault Refusal := run (atLane l (huntDwellEnd l)) s
/-- LANE_LOCK_GAINED (R141). -/
def execLaneLockGained (l : Nat) (s : State) : Host.Outcome State Fault Refusal := run (atLane l (laneLockGained l)) s
/-- FREEZE_WRITE (R152). -/
def execFreezeWrite (l : Nat) (v : Word) (s : State) : Host.Outcome State Fault Refusal := run (onReg R.RX_EQ l false (freezeWrite l v.toNat)) s
/-- RX_EQ_LOAD (R153). -/
def execRxEqLoad (l : Nat) (v : Word) (s : State) : Host.Outcome State Fault Refusal := run (onReg R.RX_EQ l false (rxEqLoad l v.toNat)) s
/-- INJ_ERR (R170). -/
def execInjErr (l : Nat) (v : Word) (s : State) : Host.Outcome State Fault Refusal := run (onReg R.PAT_CFG l false (injErr l v.toNat)) s
/-- EYE_GO (R172). -/
def execEyeGo (l : Nat) (v : Word) (s : State) : Host.Outcome State Fault Refusal := run (onReg R.EYE_CFG l false (eyeGo l v.toNat)) s
/-- EYE_MEASUREMENT_END (R172). -/
def execEyeMeasurementEnd (l width height errs : Nat) (full : Bool) (s : State) : Host.Outcome State Fault Refusal := run (atLane l (eyeMeasurementEnd l width height errs full)) s
/-- CHECKER_SYNC (R167). -/
def execCheckerSync (l : Nat) (bits : List Bool) (s : State) : Host.Outcome State Fault Refusal := run (atLane l (checkerSync l bits)) s
/-- CHECKER_LOST (R167). -/
def execCheckerLost (l errs units window : Nat) (s : State) : Host.Outcome State Fault Refusal := run (atLane l (checkerLost l errs units window)) s
/-- CHK_ERR_LO_READ (R169). -/
def execChkErrLoRead (l errs units : Nat) (s : State) : Host.Outcome State Fault Refusal := run (onReg R.CHK_ERR_LO l true (chkErrLoRead l errs units)) s
/-- LOOPBACK_SET (R164). -/
def execLoopbackSet (l : Nat) (v : Word) (s : State) : Host.Outcome State Fault Refusal := run (onReg R.LANE_CTRL l false (onLane l (loopbackSet l v.toNat))) s
/-- LANE_POWER_SET (R178). -/
def execLanePowerSet (l : Nat) (v : Word) (s : State) : Host.Outcome State Fault Refusal := run (onReg R.LANE_CTRL l false (onLane l (lanePowerSet l v.toNat))) s
/-- LANE_TEST (R181). -/
def execLaneTest (ch : Nat) (p : List Byte) (s : State) : Host.Outcome State Fault Refusal := run (onLane (le p 0 2) (laneTest ch p)) s
/-- LANE_GET_STATS (R183). -/
def execLaneGetStats (ch : Nat) (p : List Byte) (errs units : Nat) (s : State) : Host.Outcome State Fault Refusal := run (laneGetStats ch p errs units) s
/-- LANE_SET_EQ (R184). -/
def execLaneSetEq (ch : Nat) (p : List Byte) (s : State) : Host.Outcome State Fault Refusal := run (laneSetEq ch p) s
/-- LANE_EYE (R181). -/
def execLaneEye (ch : Nat) (p : List Byte) (s : State) : Host.Outcome State Fault Refusal := run (onLane (le p 0 2) (laneEye ch p)) s
/-- FAB_PORT_ENABLE (R145). -/
def execFabPortEnable (q : Nat) (s : State) : Host.Outcome State Fault Refusal := run (onPort q (fabPortEnable q)) s
/-- ACQUIRE_TIMEOUT (R145). -/
def execAcquireTimeout (q : Nat) (s : State) : Host.Outcome State Fault Refusal := run (onPort q (acquireTimeout q)) s
/-- RATE_SWITCH (R366). -/
def execRateSwitch (q : Nat) (s : State) : Host.Outcome State Fault Refusal := run (onPort q (rateSwitch q)) s
/-- LANE_TRAINED (R373). -/
def execLaneTrained (l : Nat) (s : State) : Host.Outcome State Fault Refusal := run (atLane l (laneTrained l)) s
/-- TRAIN_TIMEOUT (R145). -/
def execTrainTimeout (q : Nat) (s : State) : Host.Outcome State Fault Refusal := run (onPort q (trainTimeout q)) s
/-- VERIFY_END (R145). -/
def execVerifyEnd (q bad : Nat) (s : State) : Host.Outcome State Fault Refusal := run (onPort q (verifyEnd q bad)) s
/-- SINGLE_RETRY (R146). -/
def execSingleRetry (q : Nat) (s : State) : Host.Outcome State Fault Refusal := run (onPort q (singleRetry q)) s
/-- SDI_RX_ENABLE (R195). -/
def execSdiRxEnable (n : Nat) (v : Word) (s : State) : Host.Outcome State Fault Refusal := run (onReg R.SDI_RX_CFG n false (sdiRxEnable n v.toNat)) s
/-- SDI_RX_DISABLE (R195). -/
def execSdiRxDisable (n : Nat) (v : Word) (s : State) : Host.Outcome State Fault Refusal := run (onReg R.SDI_RX_CFG n false (sdiRxDisable n v.toNat)) s
/-- SDI_RX_RESTART (R195). -/
def execSdiRxRestart (n : Nat) (v : Word) (s : State) : Host.Outcome State Fault Refusal := run (onReg R.SDI_RX_CFG n false (sdiRxRestart n v.toNat)) s
/-- SDI_RX_FRAME (R195). -/
def execSdiRxFrame (n : Nat) (m : RxFrame) (s : State) : Host.Outcome State Fault Refusal := run (sdiRxFrame n m) s
/-- SDI_RX_LINE (R197). -/
def execSdiRxLine (n : Nat) (crcBad trsBad numBad : Bool) (s : State) : Host.Outcome State Fault Refusal := run (sdiRxLine n crcBad trsBad numBad) s
/-- ANC_PACKET_RX (R199). -/
def execAncPacketRx (n : Nat) (kind : AncKind) (bad : Bool) (s : State) : Host.Outcome State Fault Refusal := run (ancPacketRx n kind bad) s
/-- SDI_TX_ENABLE (R206). -/
def execSdiTxEnable (n : Nat) (v : Word) (s : State) : Host.Outcome State Fault Refusal := run (onReg R.SDI_TX_CFG n false (sdiTxEnable n v.toNat)) s
/-- SDI_TX_DISABLE (R206). -/
def execSdiTxDisable (n : Nat) (v : Word) (s : State) : Host.Outcome State Fault Refusal := run (onReg R.SDI_TX_CFG n false (sdiTxDisable n v.toNat)) s
/-- SDI_TX_LINE (R205). -/
def execSdiTxLine (n frame line off : Nat) (live : Option (List (List Byte))) (s : State) : Host.Outcome State Fault Refusal := run (sdiTxLine n frame line off live) s
/-- CREW_CFG_WRITE (R213). -/
def execCrewCfgWrite (c : Nat) (v : Word) (s : State) : Host.Outcome State Fault Refusal := run (onReg R.CREW_CFG c false (crewCfgWrite c v.toNat)) s
/-- SDI_RX_SET (R195). -/
def execSdiRxSet (ch : Nat) (p : List Byte) (s : State) : Host.Outcome State Fault Refusal := run (sdiRxSet ch p) s
/-- SDI_TX_SET (R218). -/
def execSdiTxSet (ch : Nat) (p : List Byte) (s : State) : Host.Outcome State Fault Refusal := run (sdiTxSet ch p) s
/-- SDI_GET_STATUS (R217). -/
def execSdiGetStatus (ch : Nat) (p : List Byte) (s : State) : Host.Outcome State Fault Refusal := run (sdiGetStatus ch p) s
/-- CREW_SET (R213). -/
def execCrewSet (ch : Nat) (p : List Byte) (s : State) : Host.Outcome State Fault Refusal := run (crewSet ch p) s
/-- ETH_FRAME_RX (R225). -/
def execEthFrameRx (e : Nat) (f : EthFrame) (s : State) : Host.Outcome State Fault Refusal := run (ethFrameRx e f) s
/-- ETH_LINK_CHANGE (R224). -/
def execEthLinkChange (e : Nat) (up : Bool) (s : State) : Host.Outcome State Fault Refusal := run (ethLinkChange e up) s
/-- LEG_TIMEOUT (R239). -/
def execLegTimeout (i : Nat) (blue : Bool) (s : State) : Host.Outcome State Fault Refusal := run (legTimeout i blue) s
/-- MERGE_WIN_EXPIRY (R241). -/
def execMergeWinExpiry (i : Nat) (s : State) : Host.Outcome State Fault Refusal := run (mergeWinExpiry i) s
/-- MEDIA_PACKET_TX (R246). -/
def execMediaPacketTx (k frame j late : Nat) (live : Option (List (List Byte))) (s : State) : Host.Outcome State Fault Refusal := run (mediaPacketTx k frame j late live) s
/-- FW_FRAME_TX (R230). -/
def execFwFrameTx (e len : Nat) (y : EthBody) (msg : Option (Nat × Nat)) (s : State) : Host.Outcome State Fault Refusal := run (fwFrameTx e len y msg) s
/-- ETH_CNT_LO_READ (R233). -/
def execEthCntLoRead (e c late : Nat) (s : State) : Host.Outcome State Fault Refusal := run (onReg R.ETH_CNT_LO (15 * e + c) true (ethCntLoRead e c late)) s
/-- PTP_TX_ID_READ (R255). -/
def execPtpTxIdRead (e : Nat) (s : State) : Host.Outcome State Fault Refusal := run (onReg R.PTP_TX_ID e true (ptpTxIdRead e)) s
/-- ETH_SET_PORT (R257). -/
def execEthSetPort (ch : Nat) (p : List Byte) (s : State) : Host.Outcome State Fault Refusal := run (ethSetPort ch p) s
/-- ETH_GET_STATS (R233). -/
def execEthGetStats (ch : Nat) (p : List Byte) (s : State) : Host.Outcome State Fault Refusal := run (ethGetStats ch p) s
/-- FLOW_RX_SET (R254). -/
def execFlowRxSet (ch : Nat) (p : List Byte) (s : State) : Host.Outcome State Fault Refusal := run (flowRxSet ch p) s
/-- FLOW_TX_SET (R238). -/
def execFlowTxSet (ch : Nat) (p : List Byte) (s : State) : Host.Outcome State Fault Refusal := run (flowTxSet ch p) s
/-- FLOW_GET_STATUS (R256). -/
def execFlowGetStatus (ch : Nat) (p : List Byte) (s : State) : Host.Outcome State Fault Refusal := run (flowGetStatus ch p) s
/-- STALL_FRAME_COMPLETE (R264). -/
def execStallFrameComplete (j : Nat) (f : FrameIn) (s : State) : Host.Outcome State Fault Refusal := run (stallFrameComplete j f) s
/-- STALL_LATCH (R263). -/
def execStallLatch (j n : Nat) (s : State) : Host.Outcome State Fault Refusal := run (stallLatchTwin j n) s
/-- STALL_ENABLE_WRITE (R268). -/
def execStallEnableWrite (j : Nat) (v : Word) (s : State) : Host.Outcome State Fault Refusal := run (onReg R.STALL_CTRL j false (stallEnableWrite j v.toNat)) s
/-- STALL_FSEQ_LO_READ (R300). -/
def execStallFseqLoRead (j : Nat) (s : State) : Host.Outcome State Fault Refusal := run (onReg R.STALL_FSEQ_LO j true (stallFseqLoRead j)) s
/-- FRESH_DECISION (R288). -/
def execFreshDecision (c n : Nat) (s : State) : Host.Outcome State Fault Refusal := run (freshDecision c n) s
/-- FRESH_CFG_WRITE (R291). -/
def execFreshCfgWrite (c which : Nat) (v : Word) (s : State) : Host.Outcome State Fault Refusal := run (onReg R.FRESH_CFG c false (freshCfgWrite c which v.toNat)) s
/-- STALL_SET (R298). -/
def execStallSet (ch : Nat) (p : List Byte) (s : State) : Host.Outcome State Fault Refusal := run (stallSet ch p) s
/-- WATCH_SET (R294). -/
def execWatchSet (ch : Nat) (p : List Byte) (s : State) : Host.Outcome State Fault Refusal := run (watchSet ch p) s
/-- FRESH_SET (R291). -/
def execFreshSet (ch : Nat) (p : List Byte) (s : State) : Host.Outcome State Fault Refusal := run (freshSet ch p) s
/-- FRESH_GET_STATUS (R298). -/
def execFreshGetStatus (ch : Nat) (p : List Byte) (s : State) : Host.Outcome State Fault Refusal := run (freshGetStatus ch p) s
/-- STALL_GET_STATUS (R298). -/
def execStallGetStatus (ch : Nat) (p : List Byte) (s : State) : Host.Outcome State Fault Refusal := run (stallGetStatus ch p) s
/-- YARD_CARVE (R295). -/
def execYardCarve (ch : Nat) (p : List Byte) (s : State) : Host.Outcome State Fault Refusal := run (yardCarve ch p) s
/-- FABRIC_SET (R302). -/
def execFabricSet (ch : Nat) (p : List Byte) (s : State) : Host.Outcome State Fault Refusal := run (onPorts (fabricSet ch p)) s
/-- FAB_ALLOW (R306). -/
def execFabAllow (ch : Nat) (p : List Byte) (s : State) : Host.Outcome State Fault Refusal := run (fabAllow ch p) s
/-- FAB_SUBSCRIBE (R342). -/
def execFabSubscribe (ch : Nat) (p : List Byte) (s : State) : Host.Outcome State Fault Refusal := run (withCox (fabSubscribe ch p)) s
/-- FAB_RELEASE (R321). -/
def execFabRelease (ch : Nat) (p : List Byte) (s : State) : Host.Outcome State Fault Refusal := run (withCox (fabRelease ch p)) s
/-- FAB_GET_PORT (R341). -/
def execFabGetPort (ch : Nat) (p : List Byte) (s : State) : Host.Outcome State Fault Refusal := run (fabGetPort ch p) s
/-- FAB_GET_SOURCE (R341). -/
def execFabGetSource (ch : Nat) (p : List Byte) (s : State) : Host.Outcome State Fault Refusal := run (fabGetSource ch p) s
/-- MARKER_BLOCK_RX (R348). -/
def execMarkerBlockRx (l : Nat) (m : List Byte) (s : State) : Host.Outcome State Fault Refusal := run (atLane l (markerBlockRx l m)) s
/-- TRAINING_BLOCK_RX (R372). -/
def execTrainingBlockRx (l : Nat) (m : List Byte) (ready : Bool) (s : State) : Host.Outcome State Fault Refusal := run (atLane l (trainingBlockRx l m ready)) s
/-- HELLO_RX (R304). -/
def execHelloRx (q : Nat) (p : Packet) (s : State) : Host.Outcome State Fault Refusal := run (withCox (onPort q (helloRx q p))) s
/-- AUTH_RX (R306). -/
def execAuthRx (q : Nat) (p : Packet) (s : State) : Host.Outcome State Fault Refusal := run (withCox (onPort q (authRx q p))) s
/-- TIMING_RX (R367). -/
def execTimingRx (q : Nat) (p : Packet) (s : State) : Host.Outcome State Fault Refusal := run (timingRx q p) s
/-- ADVERT_RX (R312). -/
def execAdvertRx (q : Nat) (p : Packet) (s : State) : Host.Outcome State Fault Refusal := run (advertRx q p) s
/-- CREDIT_RX (R362). -/
def execCreditRx (q : Nat) (p : Packet) (s : State) : Host.Outcome State Fault Refusal := run (creditRx q p) s
/-- KEEPALIVE_RX (R374). -/
def execKeepaliveRx (q : Nat) (p : Packet) (s : State) : Host.Outcome State Fault Refusal := run (keepaliveRx q p) s
/-- WAKE_RX (R369). -/
def execWakeRx (q : Nat) (p : Packet) (s : State) : Host.Outcome State Fault Refusal := run (wakeRx q p) s
/-- SUBSCRIBE_RX (R330). -/
def execSubscribeRx (q : Nat) (p : Packet) (s : State) : Host.Outcome State Fault Refusal := run (subscribeRx q p) s
/-- RELEASE_RX (R321). -/
def execReleaseRx (q : Nat) (p : Packet) (s : State) : Host.Outcome State Fault Refusal := run (releaseRx q p) s
/-- GRANT_RX (R342). -/
def execGrantRx (q : Nat) (p : Packet) (s : State) : Host.Outcome State Fault Refusal := run (withCox (grantRx q p)) s
/-- ARM_RX (R406). -/
def execArmRx (q : Nat) (p : Packet) (s : State) : Host.Outcome State Fault Refusal := run (armRx q p) s
/-- VOTE_RX (R408). -/
def execVoteRx (q : Nat) (p : Packet) (s : State) : Host.Outcome State Fault Refusal := run (voteRx q p) s
/-- GO_RX (R409). -/
def execGoRx (q : Nat) (p : Packet) (s : State) : Host.Outcome State Fault Refusal := run (goRx q p) s
/-- ACK_RX (R406). -/
def execAckRx (q : Nat) (p : Packet) (s : State) : Host.Outcome State Fault Refusal := run (ackRx q p) s
/-- JOURNAL_RX (R540). -/
def execJournalRx (q : Nat) (p : Packet) (s : State) : Host.Outcome State Fault Refusal := run (journalRx q p) s
/-- STROKE_RX (R331). -/
def execStrokeRx (q : Nat) (p : Packet) (full : List Nat) (s : State) : Host.Outcome State Fault Refusal := run (strokeRx q p full) s
/-- STROKE_TX (R335). -/
def execStrokeTx (src typ frame line : Nat) (late : List Nat) (live : Option (List Byte)) (s : State) : Host.Outcome State Fault Refusal := run (strokeTx src typ frame line late live) s
/-- STROKE_RELEASE (R335). -/
def execStrokeRelease (i typ frame line : Nat) (s : State) : Host.Outcome State Fault Refusal := run (strokeReleaseAud i typ frame line) s
/-- COPY_LOSS_CHECK (R333). -/
def execCopyLossCheck (i : Nat) (s : State) : Host.Outcome State Fault Refusal := run (copyLossCheck i) s
/-- PEER_LOSS_TIMEOUT (R308). -/
def execPeerLossTimeout (q : Nat) (s : State) : Host.Outcome State Fault Refusal := run (onPort q (peerLossTimeout q)) s
/-- AUTH_TIMEOUT (R375). -/
def execAuthTimeout (q : Nat) (s : State) : Host.Outcome State Fault Refusal := run (authTimeout q) s
/-- UNTRUSTED_RETRY (R375). -/
def execUntrustedRetry (q : Nat) (s : State) : Host.Outcome State Fault Refusal := run (untrustedRetry q) s
/-- HELLO_SEND (R376). -/
def execHelloSend (q cnt : Nat) (s : State) : Host.Outcome State Fault Refusal := run (helloSend q cnt) s
/-- KEEPALIVE_SEND (R376). -/
def execKeepaliveSend (q : Nat) (s : State) : Host.Outcome State Fault Refusal := run (keepaliveSend q) s
/-- TIMING_SEND (R367). -/
def execTimingSend (q : Nat) (s : State) : Host.Outcome State Fault Refusal := run (timingSend q) s
/-- ADVERT_SEND (R312). -/
def execAdvertSend (s : State) : Host.Outcome State Fault Refusal := run (advertSend) s
/-- CREDIT_SEND (R376). -/
def execCreditSend (q : Nat) (s : State) : Host.Outcome State Fault Refusal := run (creditSend q) s
/-- REROUTE_TIMEOUT (R314). -/
def execRerouteTimeout (paths : List (Nat × Nat)) (s : State) : Host.Outcome State Fault Refusal := run (withCox (rerouteTimeout paths)) s
/-- WAITING_ROUTE_RETRY (R314). -/
def execWaitingRouteRetry (stream content : Nat) (s : State) : Host.Outcome State Fault Refusal := run (withCox (waitingRouteRetry stream content)) s
/-- REVERT_TIMEOUT (R315). -/
def execRevertTimeout (src : Nat) (s : State) : Host.Outcome State Fault Refusal := run (withCox (revertTimeout src)) s
/-- SUBSCRIBE_RESEND (R318). -/
def execSubscribeResend (kind tid dst : Nat) (s : State) : Host.Outcome State Fault Refusal := run (withCox (subscribeResend kind tid dst)) s
/-- HOLD_EXPIRY (R322). -/
def execHoldExpiry (stream content sub relay hop : Nat) (s : State) : Host.Outcome State Fault Refusal := run (holdExpiry stream content sub relay hop) s
/-- RELEASE_FREE (R321). -/
def execReleaseFree (stream content sub relay hop : Nat) (s : State) : Host.Outcome State Fault Refusal := run (releaseFree stream content sub relay hop) s
/-- GRANT_GROW_ATTEMPT (R329). -/
def execGrantGrowAttempt (q src : Nat) (s : State) : Host.Outcome State Fault Refusal := run (grantGrowAttempt q src) s
/-- TAKE (R395). -/
def execTake (ch : Nat) (p : List Byte) (s : State) : Host.Outcome State Fault Refusal := run (take_ ch p) s
/-- TAKE_CANCEL (R401). -/
def execTakeCancel (ch : Nat) (p : List Byte) (s : State) : Host.Outcome State Fault Refusal := run (takeCancel ch p) s
/-- REGATTA_OPEN (R404). -/
def execRegattaOpen (ch : Nat) (p : List Byte) (s : State) : Host.Outcome State Fault Refusal := run (regattaOpen ch p) s
/-- TAKE_STATUS (R413). -/
def execTakeStatus (ch : Nat) (p : List Byte) (s : State) : Host.Outcome State Fault Refusal := run (takeStatus ch p) s
/-- TARGET_GET (R412). -/
def execTargetGet (ch : Nat) (p : List Byte) (s : State) : Host.Outcome State Fault Refusal := run (targetGet ch p) s
/-- REGATTA_STATUS (R413). -/
def execRegattaStatus (ch : Nat) (p : List Byte) (s : State) : Host.Outcome State Fault Refusal := run (regattaStatus ch p) s
/-- CATCH_SET (R415). -/
def execCatchSet (ch : Nat) (p : List Byte) (s : State) : Host.Outcome State Fault Refusal := run (catchSet ch p) s
/-- COX_TGT_CFG_WRITE (R382). -/
def execCoxTgtCfgWrite (t : Nat) (v : Word) (s : State) : Host.Outcome State Fault Refusal := run (onReg R.COX_TGT_CFG t false (coxTgtCfgWrite t v.toNat)) s
/-- TAKE_EXECUTE (R385). -/
def execTakeExecute (i : Nat) (s : State) : Host.Outcome State Fault Refusal := run (takeExecuteTwin i) s
/-- ARM_DEADLINE (R397). -/
def execArmDeadline (tl c : Nat) (s : State) : Host.Outcome State Fault Refusal := run (armDeadline tl c) s
/-- VOTE_DEADLINE (R408). -/
def execVoteDeadline (tl c : Nat) (s : State) : Host.Outcome State Fault Refusal := run (voteDeadline tl c) s
/-- GO_SEND (R409). -/
def execGoSend (tl c : Nat) (s : State) : Host.Outcome State Fault Refusal := run (goSend tl c) s
/-- GO_DEADLINE (R409). -/
def execGoDeadline (tl c : Nat) (s : State) : Host.Outcome State Fault Refusal := run (goDeadline tl c) s
/-- REGATTA_RESEND (R376). -/
def execRegattaResend (kind tid dst : Nat) (s : State) : Host.Outcome State Fault Refusal := run (regattaResend kind tid dst) s
/-- HOLDER_RELEASE (R399). -/
def execHolderRelease (t : Nat) (s : State) : Host.Outcome State Fault Refusal := run (holderRelease t) s
/-- TAKE_ENTRY_FREE (R400). -/
def execTakeEntryFree (i : Nat) (s : State) : Host.Outcome State Fault Refusal := run (takeEntryFree i) s
/-- HEAD_FRAME_START (R427). -/
def execHeadFrameStart (h n : Nat) (s : State) : Host.Outcome State Fault Refusal := run (headFrameStart h n) s
/-- HEAD_LINE (R419). -/
def execHeadLine (h line late : Nat) (s : State) : Host.Outcome State Fault Refusal := run (headLine h line late) s
/-- HEAD_ENABLE_WRITE (R423). -/
def execHeadEnableWrite (h : Nat) (v : Word) (s : State) : Host.Outcome State Fault Refusal := run (onReg R.HEAD_CFG h false (headEnableWrite h v.toNat)) s
/-- GUARD_OP_APPLY (R451). -/
def execGuardOpApply (tl n : Nat) (s : State) : Host.Outcome State Fault Refusal := run (guardOpApply tl n) s
/-- HEAD_SET (R423). -/
def execHeadSet (ch : Nat) (p : List Byte) (s : State) : Host.Outcome State Fault Refusal := run (headSet ch p) s
/-- LAYER_SET (R428). -/
def execLayerSet (ch : Nat) (p : List Byte) (s : State) : Host.Outcome State Fault Refusal := run (layerSet ch p) s
/-- ZORDER_SET (R434). -/
def execZorderSet (ch : Nat) (p : List Byte) (s : State) : Host.Outcome State Fault Refusal := run (zorderSet ch p) s
/-- LUT_SET (R438). -/
def execLutSet (ch : Nat) (p : List Byte) (s : State) : Host.Outcome State Fault Refusal := run (lutSet ch p) s
/-- CSC_SET (R438). -/
def execCscSet (ch : Nat) (p : List Byte) (s : State) : Host.Outcome State Fault Refusal := run (cscSet ch p) s
/-- STILL_SET (R439). -/
def execStillSet (ch : Nat) (p : List Byte) (s : State) : Host.Outcome State Fault Refusal := run (stillSet ch p) s
/-- STILL_COMMIT (R440). -/
def execStillCommit (ch : Nat) (p : List Byte) (s : State) : Host.Outcome State Fault Refusal := run (stillCommit ch p) s
/-- HEAD_GET_STATUS (R461). -/
def execHeadGetStatus (ch : Nat) (p : List Byte) (s : State) : Host.Outcome State Fault Refusal := run (headGetStatus ch p) s
/-- GUARD_MSG (R449). -/
def execGuardMsg (ch : Nat) (p : List Byte) (s : State) : Host.Outcome State Fault Refusal := run (guardMsg ch p) s
/-- GLYPH_READ (R736). -/
def execGlyphRead (ch : Nat) (p : List Byte) (s : State) : Host.Outcome State Fault Refusal := run (glyphRead ch p) s
/-- AUDIO_SAMPLE (R469). -/
def execAudioSample (n : Nat) (ins : List AudioIn) (s : State) : Host.Outcome State Fault Refusal := run (audioSampleWit n ins) s
/-- GROUP_OFFSET_FIX (R477). -/
def execGroupOffsetFix (g h : Nat) (s : State) : Host.Outcome State Fault Refusal := run (groupOffsetFix g h) s
/-- FADE_END (R479). -/
def execFadeEnd (g : Nat) (s : State) : Host.Outcome State Fault Refusal := run (fadeEnd g) s
/-- AUD_BLOCK_RETRY (R470). -/
def execAudBlockRetry (i : Nat) (s : State) : Host.Outcome State Fault Refusal := run (audBlockRetry i) s
/-- ROUTE_APPLY (R473). -/
def execRouteApply (n : Nat) (s : State) : Host.Outcome State Fault Refusal := run (routeApply n) s
/-- CROSSFADE_END (R474). -/
def execCrossfadeEnd (o : Nat) (s : State) : Host.Outcome State Fault Refusal := run (crossfadeEnd o) s
/-- SAP_CLOCK_LOST (R482). -/
def execSapClockLost (n : Nat) (tx : Bool) (s : State) : Host.Outcome State Fault Refusal := run (sapClockLost n tx) s
/-- AES3_LOCK (R487). -/
def execAes3Lock (n rate : Nat) (s : State) : Host.Outcome State Fault Refusal := run (aes3Lock n rate) s
/-- SAP_COMMON_START (R484). -/
def execSapCommonStart (s : State) : Host.Outcome State Fault Refusal := run (sapCommonStart) s
/-- AUD_SET (R491). -/
def execAudSet (ch : Nat) (p : List Byte) (s : State) : Host.Outcome State Fault Refusal := run (audSet ch p) s
/-- AUD_ROUTE (R473). -/
def execAudRoute (ch : Nat) (p : List Byte) (s : State) : Host.Outcome State Fault Refusal := run (audRoute ch p) s
/-- AUD_MAP (R468). -/
def execAudMap (ch : Nat) (p : List Byte) (s : State) : Host.Outcome State Fault Refusal := run (audMap ch p) s
/-- AUD_GRP_SET (R476). -/
def execAudGrpSet (ch : Nat) (p : List Byte) (s : State) : Host.Outcome State Fault Refusal := run (audGrpSet ch p) s
/-- SAP_SET (R487). -/
def execSapSet (ch : Nat) (p : List Byte) (s : State) : Host.Outcome State Fault Refusal := run (sapSet ch p) s
/-- SAP_START (R485). -/
def execSapStart (ch : Nat) (p : List Byte) (s : State) : Host.Outcome State Fault Refusal := run (sapStart ch p) s
/-- AUD_GET_STATUS (R491). -/
def execAudGetStatus (ch : Nat) (p : List Byte) (s : State) : Host.Outcome State Fault Refusal := run (audGetStatus ch p) s
/-- TAP_FRAME (R494). -/
def execTapFrame (t n : Nat) (s : State) : Host.Outcome State Fault Refusal := run (tapFrameTwin t n) s
/-- PICTURE_CODED (R503). -/
def execPictureCoded (t : Nat) (full : Bool) (shifts : List Nat) (late : Bool) (s : State) : Host.Outcome State Fault Refusal := run (pictureCoded t full shifts late) s
/-- BALE_OPEN (R510). -/
def execBaleOpen (k : Nat) (s : State) : Host.Outcome State Fault Refusal := run (baleOpen k) s
/-- CHUNK_WRITE_DONE (R510). -/
def execChunkWriteDone (k : Nat) (s : State) : Host.Outcome State Fault Refusal := run (chunkWriteDone k) s
/-- STAGING_FULL_DROP (R511). -/
def execStagingFullDrop (k : Nat) (s : State) : Host.Outcome State Fault Refusal := run (stagingFullDrop k) s
/-- BALE_SEAL (R512). -/
def execBaleSeal (k : Nat) (s : State) : Host.Outcome State Fault Refusal := run (baleSeal k) s
/-- SEAL_TIMEOUT (R512). -/
def execSealTimeout (k : Nat) (s : State) : Host.Outcome State Fault Refusal := run (sealTimeout k) s
/-- WIT_CHECKPOINT (R521). -/
def execWitCheckpoint (s : State) : Host.Outcome State Fault Refusal := run (witCheckpoint) s
/-- DRIVE_FAILED (R524). -/
def execDriveFailed (d : Nat) (s : State) : Host.Outcome State Fault Refusal := run (driveFailed d) s
/-- SMART_POLL (R525). -/
def execSmartPoll (d crit used spare temp duw mediaErr : Nat) (s : State) : Host.Outcome State Fault Refusal := run (smartPoll d crit used spare temp duw mediaErr) s
/-- TRIG_IN_EDGE (R528). -/
def execTrigInEdge (rising : Bool) (s : State) : Host.Outcome State Fault Refusal := run (trigInEdge rising) s
/-- POST_END (R529). -/
def execPostEnd (s : State) : Host.Outcome State Fault Refusal := run (postEnd) s
/-- INC_COPY_DONE (R529). -/
def execIncCopyDone (s : State) : Host.Outcome State Fault Refusal := run (incCopyDone) s
/-- WIT_FORMAT (R514). -/
def execWitFormat (ch : Nat) (p : List Byte) (found : List (Nat × Nat × Bool)) (s : State) : Host.Outcome State Fault Refusal := run (witFormat ch p found) s
/-- WIT_SET (R513). -/
def execWitSet (ch : Nat) (p : List Byte) (s : State) : Host.Outcome State Fault Refusal := run (witSet ch p) s
/-- WIT_GET_STATUS (R532). -/
def execWitGetStatus (ch : Nat) (p : List Byte) (s : State) : Host.Outcome State Fault Refusal := run (witGetStatus ch p) s
/-- WIT_DRIVE_INFO (R525). -/
def execWitDriveInfo (ch : Nat) (p : List Byte) (s : State) : Host.Outcome State Fault Refusal := run (witDriveInfo ch p) s
/-- WIT_READ (R532). -/
def execWitRead (ch : Nat) (p : List Byte) (s : State) : Host.Outcome State Fault Refusal := run (witRead ch p) s
/-- WIT_MOUNT (R522). -/
def execWitMount (ch : Nat) (p : List Byte) (found : List (Nat × Nat × Bool)) (s : State) : Host.Outcome State Fault Refusal := run (witMount ch p found) s
/-- WIT_REBUILD (R524). -/
def execWitRebuild (ch : Nat) (p : List Byte) (s : State) : Host.Outcome State Fault Refusal := run (witRebuild ch p) s
/-- INC_SET (R526). -/
def execIncSet (ch : Nat) (p : List Byte) (s : State) : Host.Outcome State Fault Refusal := run (incSet ch p) s
/-- INC_TRIGGER (R528). -/
def execIncTrigger (ch : Nat) (p : List Byte) (s : State) : Host.Outcome State Fault Refusal := run (incTrigger ch p) s
/-- SEL_STATE_CHANGE (R534). -/
def execSelStateChange (level : Bool) (s : State) : Host.Outcome State Fault Refusal := run (selStateChange level) s
/-- HB_CAUSE_CHANGE (R535). -/
def execHbCauseChange (s : State) : Host.Outcome State Fault Refusal := run (hbCauseChange) s
/-- JOURNAL_PUBLISH (R539). -/
def execJournalPublish (kind tl n : Nat) (idx : List Nat) (s : State) : Host.Outcome State Fault Refusal := run (journalPublish kind tl n idx) s
/-- JOURNAL_DEADLINE (R541). -/
def execJournalDeadline (kind tl n : Nat) (idx : List Nat) (s : State) : Host.Outcome State Fault Refusal := run (journalDeadline kind tl n idx) s
/-- TWIN_FRAME_END (R546). -/
def execTwinFrameEnd (s : State) : Host.Outcome State Fault Refusal := run (twinFrameEnd) s
/-- AUTO_RESYNC (R546). -/
def execAutoResync (s : State) : Host.Outcome State Fault Refusal := run (autoResync) s
/-- SWITCH_INSTANT (R549). -/
def execSwitchInstant (s : State) : Host.Outcome State Fault Refusal := run (switchInstant) s
/-- TWIN_SET (R554). -/
def execTwinSet (ch : Nat) (p : List Byte) (s : State) : Host.Outcome State Fault Refusal := run (twinSet ch p) s
/-- TWIN_SWITCH (R549). -/
def execTwinSwitch (ch : Nat) (p : List Byte) (partnerInStep : Bool) (s : State) : Host.Outcome State Fault Refusal := run (twinSwitch ch p partnerInStep) s
/-- TWIN_RESYNC (R646). -/
def execTwinResync (ch : Nat) (p : List Byte) (s : State) : Host.Outcome State Fault Refusal := run (twinResync ch p) s
/-- TWIN_HB (R535). -/
def execTwinHb (ch : Nat) (p : List Byte) (s : State) : Host.Outcome State Fault Refusal := run (twinHb ch p) s
/-- TWIN_GET_STATUS (R554). -/
def execTwinGetStatus (ch : Nat) (p : List Byte) (s : State) : Host.Outcome State Fault Refusal := run (twinGetStatus ch p) s
/-- MATRIX_ACCESS (R566). -/
def execMatrixAccess (reqs : List MatReq) (ends : List (Nat × Nat)) (s : State) : Host.Outcome State Fault Refusal := run (matrixAccess reqs ends) s
/-- MATRIX_TARGET_TIMEOUT (R568). -/
def execMatrixTargetTimeout (k master cycles : Nat) (s : State) : Host.Outcome State Fault Refusal := run (matrixTargetTimeout k master cycles) s
/-- REMAP_WRITE (R562). -/
def execRemapWrite (master : Nat) (v : Word) (s : State) : Host.Outcome State Fault Refusal := run (remapWrite master v.toNat) s
/-- REMAP_EFFECT (R562). -/
def execRemapEffect (s : State) : Host.Outcome State Fault Refusal := run (remapEffect) s
/-- PARK_WRITE (R564). -/
def execParkWrite (k : Nat) (v : Word) (s : State) : Host.Outcome State Fault Refusal := run (parkWrite k v.toNat) s
/-- DOORBELL (R585). -/
def execDoorbell (c : Nat) (s : State) : Host.Outcome State Fault Refusal := run (doorbell c) s
/-- RSP_ACK (R587). -/
def execRspAck (c : Nat) (s : State) : Host.Outcome State Fault Refusal := run (rspAck c) s
/-- WITHDRAW (R585). -/
def execWithdraw (c : Nat) (tie : Bool) (s : State) : Host.Outcome State Fault Refusal := run (afterTake tie c (withdraw c)) s
/-- OPEN (R585). -/
def execOpenSlot (c : Nat) (s : State) : Host.Outcome State Fault Refusal := run (openSlot c) s
/-- REQUEST_TAKE (R598). -/
def execRequestTake (c : Nat) (s : State) : Host.Outcome State Fault Refusal := run (requestTake c) s
/-- RESPONSE_POST (R585). -/
def execResponsePost (c : Nat) (s : State) : Host.Outcome State Fault Refusal := run (responsePost c) s
/-- REQUEST_TIMEOUT (R585). -/
def execRequestTimeout (c : Nat) (tie : Bool) (s : State) : Host.Outcome State Fault Refusal := run (afterTake tie c (requestTimeout c)) s
/-- HOST_EPOCH_WRITE (R591). -/
def execHostEpochWrite (c : Nat) (v : Word) (tie : Bool) (s : State) : Host.Outcome State Fault Refusal := run (afterTake tie c (hostEpochWrite c v.toNat)) s
/-- FUNCTION_LEVEL_RESET (R592). -/
def execFunctionLevelReset (s : State) : Host.Outcome State Fault Refusal := run (functionLevelReset) s
/-- CORE_RESTART (R593). -/
def execCoreRestart (k : Nat) (s : State) : Host.Outcome State Fault Refusal := run (coreRestart k) s
/-- LOCK_READ (R595). -/
def execLockRead (owners : List Nat) (l : Nat) (s : State) : Host.Outcome State Fault Refusal := run (lockRead owners l) s
/-- LOCK_RELEASE_WRITE (R597). -/
def execLockReleaseWrite (owner l : Nat) (v : Word) (s : State) : Host.Outcome State Fault Refusal := run (lockReleaseWrite owner l v.toNat) s
/-- BAR2_WIN_WRITE (R580). -/
def execBar2WinWrite (v : Word) (s : State) : Host.Outcome State Fault Refusal := run (bar2WinWrite v.toNat) s
/-- BAR2_ACCESS (R579). -/
def execBar2Access (off n : Nat) (wr : Option (List Byte)) (s : State) : Host.Outcome State Fault Refusal := run (bar2Access off n wr) s
/-- DEVICE_INFO (R2). -/
def execDeviceInfo (ch : Nat) (p : List Byte) (s : State) : Host.Outcome State Fault Refusal := run (deviceInfo ch p) s
/-- SYS_PING (R600). -/
def execSysPing (ch : Nat) (p : List Byte) (s : State) : Host.Outcome State Fault Refusal := run (sysPing ch p) s
/-- SYS_RESET (R601). -/
def execSysReset (ch : Nat) (p : List Byte) (partnerInStep : Bool) (s : State) : Host.Outcome State Fault Refusal := run (sysReset ch p partnerInStep) s
/-- SYS_HEALTH (R680). -/
def execSysHealth (ch : Nat) (p : List Byte) (s : State) : Host.Outcome State Fault Refusal := run (sysHealth ch p) s
/-- DIAG_READ (R602). -/
def execDiagRead (ch : Nat) (p : List Byte) (s : State) : Host.Outcome State Fault Refusal := run (diagRead ch p) s
/-- DIAG_WRITE (R603). -/
def execDiagWrite (ch : Nat) (p : List Byte) (s : State) : Host.Outcome State Fault Refusal := run (diagWrite ch p) s
/-- DIAG_LOG (R600). -/
def execDiagLog (ch : Nat) (p text : List Byte) (s : State) : Host.Outcome State Fault Refusal := run (diagLog ch p text) s
/-- KEY_STATUS (R625). -/
def execKeyStatus (ch : Nat) (p : List Byte) (s : State) : Host.Outcome State Fault Refusal := run (keyStatus ch p) s
/-- KEY_GENERATE (R612). -/
def execKeyGenerate (ch : Nat) (p : List Byte) (s : State) : Host.Outcome State Fault Refusal := run (keyGenerate ch p) s
/-- KEY_CERT_LOAD (R620). -/
def execKeyCertLoad (ch : Nat) (p : List Byte) (s : State) : Host.Outcome State Fault Refusal := run (keyCertLoad ch p) s
/-- KEY_INJECT (R622). -/
def execKeyInject (ch : Nat) (p : List Byte) (s : State) : Host.Outcome State Fault Refusal := run (keyInject ch p) s
/-- KEY_WIT_EXPORT (R623). -/
def execKeyWitExport (ch : Nat) (p : List Byte) (s : State) : Host.Outcome State Fault Refusal := run (keyWitExport ch p) s
/-- LC_ADVANCE (R608). -/
def execLcAdvance (ch : Nat) (p : List Byte) (cut : Option Nat) (s : State) : Host.Outcome State Fault Refusal := run (lcAdvance ch p cut) s
/-- TAMPER_EVENT (R614). -/
def execTamperEvent (cause : Nat) (s : State) : Host.Outcome State Fault Refusal := runAlways (tamperEvent cause) s
/-- RETENTION_DIP (R615). -/
def execRetentionDip (deep : Bool) (s : State) : Host.Outcome State Fault Refusal := runAlways (retentionDip deep) s
/-- SCAN_REQUEST (R619). -/
def execScanRequest (s : State) : Host.Outcome State Fault Refusal := run (scanRequest) s
/-- UPD_BEGIN (R641). -/
def execUpdBegin (ch : Nat) (p : List Byte) (s : State) : Host.Outcome State Fault Refusal := run (updBegin ch p) s
/-- STAGING_ERASE_DONE (R640). -/
def execStagingEraseDone (s : State) : Host.Outcome State Fault Refusal := run (stagingEraseDone) s
/-- UPD_WRITE (R640). -/
def execUpdWrite (ch : Nat) (p : List Byte) (s : State) : Host.Outcome State Fault Refusal := run (updWrite ch p) s
/-- UPD_FINISH (R641). -/
def execUpdFinish (ch : Nat) (p : List Byte) (s : State) : Host.Outcome State Fault Refusal := run (updFinish ch p) s
/-- STAGING_VERIFY_DONE (R637). -/
def execStagingVerifyDone (s : State) : Host.Outcome State Fault Refusal := run (stagingVerifyDone) s
/-- UPD_STATUS (R653). -/
def execUpdStatus (ch : Nat) (p : List Byte) (s : State) : Host.Outcome State Fault Refusal := run (updStatus ch p) s
/-- UPD_COMMIT (R641). -/
def execUpdCommit (ch : Nat) (p : List Byte) (s : State) : Host.Outcome State Fault Refusal := run (updCommit ch p) s
/-- UPD_ROLLBACK (R641). -/
def execUpdRollback (ch : Nat) (p : List Byte) (s : State) : Host.Outcome State Fault Refusal := run (updRollback ch p) s
/-- UPD_ABORT (R641). -/
def execUpdAbort (ch : Nat) (p : List Byte) (s : State) : Host.Outcome State Fault Refusal := run (updAbort ch p) s
/-- SETTINGS_SAVE (R649). -/
def execSettingsSave (ch : Nat) (p : List Byte) (s : State) : Host.Outcome State Fault Refusal := run (settingsSave ch p) s
/-- SETTINGS_WRITE_DONE (R649). -/
def execSettingsWriteDone (s : State) : Host.Outcome State Fault Refusal := run (settingsWriteDone) s
/-- BIST_REPORT (R653). -/
def execBistReport (ch : Nat) (p : List Byte) (s : State) : Host.Outcome State Fault Refusal := run (bistReport ch p) s
/-- PWR_STATUS (R678). -/
def execPwrStatus (ch : Nat) (p : List Byte) (s : State) : Host.Outcome State Fault Refusal := run (pwrStatus ch p) s
/-- PWR_DOMAIN (R658). -/
def execPwrDomain (ch : Nat) (p : List Byte) (s : State) : Host.Outcome State Fault Refusal := run (pwrDomain ch p) s
/-- PWR_SET (R678). -/
def execPwrSet (ch : Nat) (p : List Byte) (s : State) : Host.Outcome State Fault Refusal := run (pwrSet ch p) s
/-- PWR_SLEEP (R671). -/
def execPwrSleep (ch : Nat) (p : List Byte) (s : State) : Host.Outcome State Fault Refusal := run (pwrSleep ch p) s
/-- DOMAIN_SWITCH (R659). -/
def execDomainSwitch (s : State) : Host.Outcome State Fault Refusal := run (domainSwitchWake) s
/-- RUN_RAMP_STEP (R662). -/
def execRunRampStep (d i : Nat) (late : Bool) (s : State) : Host.Outcome State Fault Refusal := run (runRampStep d i late) s
/-- AVS_POLL (R663). -/
def execAvsPoll (mv ma : Nat) (s : State) : Host.Outcome State Fault Refusal := run (avsPoll mv ma) s
/-- AVS_TARGET_STEP (R664). -/
def execAvsTargetStep (floor : Nat) (s : State) : Host.Outcome State Fault Refusal := run (avsTargetStep floor) s
/-- CAP_EVAL (R666). -/
def execCapEval (s : State) : Host.Outcome State Fault Refusal := run (capEval) s
/-- TEMP_SAMPLE (R669). -/
def execTempSample (readings : List Int) (s : State) : Host.Outcome State Fault Refusal := run (tempSample readings) s
/-- WAKE_EVENT (R674). -/
def execWakeEvent (c n : Nat) (s : State) : Host.Outcome State Fault Refusal := run (wakeEvent c n) s
/-- SCRUB_PASS (R688). -/
def execScrubPass (stack bank row pass : Nat) (ce : Bool) (s : State) : Host.Outcome State Fault Refusal := run (scrubPass stack bank row pass ce) s
/-- YARD_UE (R690). -/
def execYardUe (stack bank row addr : Nat) (twice : Bool) (s : State) : Host.Outcome State Fault Refusal := run (yardUe stack bank row addr twice) s
/-- ROW_REPAIR_DONE (R691). -/
def execRowRepairDone (stack bank row : Nat) (ok : Bool) (s : State) : Host.Outcome State Fault Refusal := run (rowRepairDone stack bank row ok) s
/-- ENGINE_CHECK_FAIL (R685). -/
def execEngineCheckFail (blk inst : Nat) (s : State) : Host.Outcome State Fault Refusal := run (engineCheckFail blk inst) s
/-- FAULT_BIT_CLEAR (R682). -/
def execFaultBitClear (blk v : Nat) (s : State) : Host.Outcome State Fault Refusal := run (onReg R.BLK_FAULT blk false (faultBitClear blk v)) s
/-- WDT_EXPIRY (R710). -/
def execWdtExpiry (k : Nat) (s : State) : Host.Outcome State Fault Refusal := run (wdtExpiry k) s
/-- WDT_KICK (R710). -/
def execWdtKick (k : Nat) (s : State) : Host.Outcome State Fault Refusal := run (wdtKick k) s
/-- CORE_RST (R709). -/
def execCoreRst (v : Word) (s : State) : Host.Outcome State Fault Refusal := run (coreRst v.toNat) s
/-- DEVICE_RESET (R594). -/
def execDeviceReset (v : Word) (s : State) : Host.Outcome State Fault Refusal := run (deviceReset v.toNat) s
/-- GPIO_CHANGE (R711). -/
def execGpioChange (n : Nat) (level : Bool) (s : State) : Host.Outcome State Fault Refusal := run (gpioChange n level) s
/-- DIAG_INJECT (R697). -/
def execDiagInject (ch : Nat) (p : List Byte) (s : State) : Host.Outcome State Fault Refusal := run (diagInject ch p) s
/-- FAULT_CLEAR (R682). -/
def execFaultClear (ch : Nat) (p : List Byte) (s : State) : Host.Outcome State Fault Refusal := run (faultClearCmd ch p) s
/-- RCL_COUNTER_READ (R198). -/
def execRclCounterRead (a late : Nat) (s : State) : Host.Outcome State Fault Refusal := run (rclCounterRead a late) s
/-- REGISTER_WRITE (R701). -/
def execRegisterWrite (master addr : Nat) (v : Word) (s : State) : Host.Outcome State Fault Refusal := run (registerWrite master addr v.toNat) s
/-- CANDIDATE_VALID (R40). -/
def execCandidateValid (n cls acc : Nat) (freq : Int) (sync : Nat) (s : State) : Host.Outcome State Fault Refusal := run (candidateValid n cls acc freq sync) s
/-- OSC_IN_RETURN (R91). -/
def execOscInReturn (s : State) : Host.Outcome State Fault Refusal := run (oscInReturn) s
/-- PLL_COAST_TIMEOUT (R685). -/
def execPllCoastTimeout (m : Nat) (s : State) : Host.Outcome State Fault Refusal := run (pllCoastTimeout m) s
/-- AES3_LOCK_LOST (R487). -/
def execAes3LockLost (n : Nat) (s : State) : Host.Outcome State Fault Refusal := run (aes3LockLost n) s
/-- AES3_RATE_CHANGE (R487). -/
def execAes3RateChange (n rate : Nat) (s : State) : Host.Outcome State Fault Refusal := run (aes3RateChange n rate) s
/-- MOUNT_DONE (R522). -/
def execMountDone (s : State) : Host.Outcome State Fault Refusal := run (mountDone) s
/-- REBUILD_DONE (R524). -/
def execRebuildDone (s : State) : Host.Outcome State Fault Refusal := run (rebuildDone) s
/-- NVME_COMMAND_ERROR (R685). -/
def execNvmeCommandError (d : Nat) (ok : Bool) (s : State) : Host.Outcome State Fault Refusal := run (nvmeCommandError d ok) s
/-- FLUSH_DONE (R521). -/
def execFlushDone (s : State) : Host.Outcome State Fault Refusal := run (flushDone) s
/-- MARCH_TEST_DONE (R685). -/
def execMarchTestDone (bank : Nat) (passes repaired : Bool) (s : State) : Host.Outcome State Fault Refusal := run (marchTestDone bank passes repaired) s
/-- FAULT_RETRY_WINDOW_END (R685). -/
def execFaultRetryWindowEnd (blk inst : Nat) (s : State) : Host.Outcome State Fault Refusal := run (faultRetryWindowEnd blk inst) s
/-- CAPTURE_FRAME_TAKE (R254). -/
def execCaptureFrameTake (e : Nat) (s : State) : Host.Outcome State Fault Refusal := run (captureFrameTake e) s
/-- EXTEST_CLAMP_SELECT (R717). -/
def execExtestClampSelect (sel : Bool) (s : State) : Host.Outcome State Fault Refusal := runAlways (extestClampSelect sel) s
/-- LOCKSTEP_DISAGREEMENT (R557). -/
def execLockstepDisagreement (s : State) : Host.Outcome State Fault Refusal := run (lockstepDisagreement) s

end Sys2Proof.Machine
end

