-- ==== Sys2Proof/Machine/Dispatch.lean ====
section
/-!
DEFINITION. The dispatch: one arm for each command, each a direct call of its meaning.
-/
namespace Sys2Proof.Machine

def exec (i : Instr) (s : State) : Host.Outcome State Fault Refusal :=
  match i with
  | .powerOnReset => Sys2Proof.Machine.execPowerOnReset s
  | .resetNAssert => Sys2Proof.Machine.execResetNAssert s
  | .powerOnRelease slotId => Sys2Proof.Machine.execPowerOnRelease slotId s
  | .selftestPhaseDone phase buffer bad yard => Sys2Proof.Machine.execSelftestPhaseDone phase buffer bad yard s
  | .releaseDevice => Sys2Proof.Machine.execReleaseDevice s
  | .slotCopyDone good => Sys2Proof.Machine.execSlotCopyDone good s
  | .timeTick => Sys2Proof.Machine.execTimeTick s
  | .setGo v tie => Sys2Proof.Machine.execSetGo v tie s
  | .unsync v => Sys2Proof.Machine.execUnsync v s
  | .timeAdjDone => Sys2Proof.Machine.execTimeAdjDone s
  | .timeNsRead => Sys2Proof.Machine.execTimeNsRead s
  | .timeRawLoRead => Sys2Proof.Machine.execTimeRawLoRead s
  | .timeRateLoRead => Sys2Proof.Machine.execTimeRateLoRead s
  | .tmrArm n v => Sys2Proof.Machine.execTmrArm n v s
  | .timerFire n => Sys2Proof.Machine.execTimerFire n s
  | .captureEdge n rising quarters => Sys2Proof.Machine.execCaptureEdge n rising quarters s
  | .capNsRead n => Sys2Proof.Machine.execCapNsRead n s
  | .timeUnsync ch p => Sys2Proof.Machine.execTimeUnsync ch p s
  | .timeGet ch p => Sys2Proof.Machine.execTimeGet ch p s
  | .tmrSet ch p => Sys2Proof.Machine.execTmrSet ch p s
  | .capSet ch p => Sys2Proof.Machine.execCapSet ch p s
  | .capRead ch p => Sys2Proof.Machine.execCapRead ch p s
  | .pllTrackUpdate m => Sys2Proof.Machine.execPllTrackUpdate m s
  | .pllCountCorrect m count => Sys2Proof.Machine.execPllCountCorrect m count s
  | .pllLockWindow m count => Sys2Proof.Machine.execPllLockWindow m count s
  | .oscInLost => Sys2Proof.Machine.execOscInLost s
  | .pllDividerWrite m which v => Sys2Proof.Machine.execPllDividerWrite m which v s
  | .pllSmallWrite m which v => Sys2Proof.Machine.execPllSmallWrite m which v s
  | .rampGo m v => Sys2Proof.Machine.execRampGo m v s
  | .rampAbort m v => Sys2Proof.Machine.execRampAbort m v s
  | .rampHoldEnd m => Sys2Proof.Machine.execRampHoldEnd m s
  | .refCandidateWrite n which v => Sys2Proof.Machine.execRefCandidateWrite n which v s
  | .candidateLost n => Sys2Proof.Machine.execCandidateLost n s
  | .candidateQualified n => Sys2Proof.Machine.execCandidateQualified n s
  | .selectionEval => Sys2Proof.Machine.execSelectionEval s
  | .dpllComparison n m freq => Sys2Proof.Machine.execDpllComparison n m freq s
  | .lockDeclared => Sys2Proof.Machine.execLockDeclared s
  | .bwStepDown => Sys2Proof.Machine.execBwStepDown s
  | .freqHistoryStore => Sys2Proof.Machine.execFreqHistoryStore s
  | .holdoverCheck => Sys2Proof.Machine.execHoldoverCheck s
  | .forceHoldover v => Sys2Proof.Machine.execForceHoldover v s
  | .forceFreerun v => Sys2Proof.Machine.execForceFreerun v s
  | .tlCfgWrite k v => Sys2Proof.Machine.execTlCfgWrite k v s
  | .tlPosFrameLoRead k => Sys2Proof.Machine.execTlPosFrameLoRead k s
  | .fpPulse j frame => Sys2Proof.Machine.execFpPulse j frame s
  | .fpAlignGo j v => Sys2Proof.Machine.execFpAlignGo j v s
  | .refSetCandidate ch p => Sys2Proof.Machine.execRefSetCandidate ch p s
  | .refSetLoop ch p => Sys2Proof.Machine.execRefSetLoop ch p s
  | .refGetStatus ch p => Sys2Proof.Machine.execRefGetStatus ch p s
  | .tlSet ch p => Sys2Proof.Machine.execTlSet ch p s
  | .fpSet ch p => Sys2Proof.Machine.execFpSet ch p s
  | .fpRealign ch p => Sys2Proof.Machine.execFpRealign ch p s
  | .laneCondition l kind => Sys2Proof.Machine.execLaneCondition l kind s
  | .retrainEnd l ok => Sys2Proof.Machine.execRetrainEnd l ok s
  | .lastingRetry l ok => Sys2Proof.Machine.execLastingRetry l ok s
  | .retrain l v => Sys2Proof.Machine.execRetrain l v s
  | .huntDwellEnd l => Sys2Proof.Machine.execHuntDwellEnd l s
  | .laneLockGained l => Sys2Proof.Machine.execLaneLockGained l s
  | .freezeWrite l v => Sys2Proof.Machine.execFreezeWrite l v s
  | .rxEqLoad l v => Sys2Proof.Machine.execRxEqLoad l v s
  | .injErr l v => Sys2Proof.Machine.execInjErr l v s
  | .eyeGo l v => Sys2Proof.Machine.execEyeGo l v s
  | .eyeMeasurementEnd l width height errs full => Sys2Proof.Machine.execEyeMeasurementEnd l width height errs full s
  | .checkerSync l bits => Sys2Proof.Machine.execCheckerSync l bits s
  | .checkerLost l errs units window => Sys2Proof.Machine.execCheckerLost l errs units window s
  | .chkErrLoRead l errs units => Sys2Proof.Machine.execChkErrLoRead l errs units s
  | .loopbackSet l v => Sys2Proof.Machine.execLoopbackSet l v s
  | .lanePowerSet l v => Sys2Proof.Machine.execLanePowerSet l v s
  | .laneTest ch p => Sys2Proof.Machine.execLaneTest ch p s
  | .laneGetStats ch p errs units => Sys2Proof.Machine.execLaneGetStats ch p errs units s
  | .laneSetEq ch p => Sys2Proof.Machine.execLaneSetEq ch p s
  | .laneEye ch p => Sys2Proof.Machine.execLaneEye ch p s
  | .fabPortEnable q => Sys2Proof.Machine.execFabPortEnable q s
  | .acquireTimeout q => Sys2Proof.Machine.execAcquireTimeout q s
  | .rateSwitch q => Sys2Proof.Machine.execRateSwitch q s
  | .laneTrained l => Sys2Proof.Machine.execLaneTrained l s
  | .trainTimeout q => Sys2Proof.Machine.execTrainTimeout q s
  | .verifyEnd q bad => Sys2Proof.Machine.execVerifyEnd q bad s
  | .singleRetry q => Sys2Proof.Machine.execSingleRetry q s
  | .sdiRxEnable n v => Sys2Proof.Machine.execSdiRxEnable n v s
  | .sdiRxDisable n v => Sys2Proof.Machine.execSdiRxDisable n v s
  | .sdiRxRestart n v => Sys2Proof.Machine.execSdiRxRestart n v s
  | .sdiRxFrame n m => Sys2Proof.Machine.execSdiRxFrame n m s
  | .sdiRxLine n crcBad trsBad numBad => Sys2Proof.Machine.execSdiRxLine n crcBad trsBad numBad s
  | .ancPacketRx n kind bad => Sys2Proof.Machine.execAncPacketRx n kind bad s
  | .sdiTxEnable n v => Sys2Proof.Machine.execSdiTxEnable n v s
  | .sdiTxDisable n v => Sys2Proof.Machine.execSdiTxDisable n v s
  | .sdiTxLine n frame line off live => Sys2Proof.Machine.execSdiTxLine n frame line off live s
  | .crewCfgWrite c v => Sys2Proof.Machine.execCrewCfgWrite c v s
  | .sdiRxSet ch p => Sys2Proof.Machine.execSdiRxSet ch p s
  | .sdiTxSet ch p => Sys2Proof.Machine.execSdiTxSet ch p s
  | .sdiGetStatus ch p => Sys2Proof.Machine.execSdiGetStatus ch p s
  | .crewSet ch p => Sys2Proof.Machine.execCrewSet ch p s
  | .ethFrameRx e f => Sys2Proof.Machine.execEthFrameRx e f s
  | .ethLinkChange e up => Sys2Proof.Machine.execEthLinkChange e up s
  | .legTimeout k0 blue => Sys2Proof.Machine.execLegTimeout k0 blue s
  | .mergeWinExpiry k0 => Sys2Proof.Machine.execMergeWinExpiry k0 s
  | .mediaPacketTx k frame j late live => Sys2Proof.Machine.execMediaPacketTx k frame j late live s
  | .fwFrameTx e len y msg => Sys2Proof.Machine.execFwFrameTx e len y msg s
  | .ethCntLoRead e c late => Sys2Proof.Machine.execEthCntLoRead e c late s
  | .ptpTxIdRead e => Sys2Proof.Machine.execPtpTxIdRead e s
  | .ethSetPort ch p => Sys2Proof.Machine.execEthSetPort ch p s
  | .ethGetStats ch p => Sys2Proof.Machine.execEthGetStats ch p s
  | .flowRxSet ch p => Sys2Proof.Machine.execFlowRxSet ch p s
  | .flowTxSet ch p => Sys2Proof.Machine.execFlowTxSet ch p s
  | .flowGetStatus ch p => Sys2Proof.Machine.execFlowGetStatus ch p s
  | .stallFrameComplete j f => Sys2Proof.Machine.execStallFrameComplete j f s
  | .stallLatch j n => Sys2Proof.Machine.execStallLatch j n s
  | .stallEnableWrite j v => Sys2Proof.Machine.execStallEnableWrite j v s
  | .stallFseqLoRead j => Sys2Proof.Machine.execStallFseqLoRead j s
  | .freshDecision c n => Sys2Proof.Machine.execFreshDecision c n s
  | .freshCfgWrite c which v => Sys2Proof.Machine.execFreshCfgWrite c which v s
  | .stallSet ch p => Sys2Proof.Machine.execStallSet ch p s
  | .watchSet ch p => Sys2Proof.Machine.execWatchSet ch p s
  | .freshSet ch p => Sys2Proof.Machine.execFreshSet ch p s
  | .freshGetStatus ch p => Sys2Proof.Machine.execFreshGetStatus ch p s
  | .stallGetStatus ch p => Sys2Proof.Machine.execStallGetStatus ch p s
  | .yardCarve ch p => Sys2Proof.Machine.execYardCarve ch p s
  | .fabricSet ch p => Sys2Proof.Machine.execFabricSet ch p s
  | .fabAllow ch p => Sys2Proof.Machine.execFabAllow ch p s
  | .fabSubscribe ch p => Sys2Proof.Machine.execFabSubscribe ch p s
  | .fabRelease ch p => Sys2Proof.Machine.execFabRelease ch p s
  | .fabGetPort ch p => Sys2Proof.Machine.execFabGetPort ch p s
  | .fabGetSource ch p => Sys2Proof.Machine.execFabGetSource ch p s
  | .markerBlockRx l m => Sys2Proof.Machine.execMarkerBlockRx l m s
  | .trainingBlockRx l m ready => Sys2Proof.Machine.execTrainingBlockRx l m ready s
  | .helloRx q p => Sys2Proof.Machine.execHelloRx q p s
  | .authRx q p => Sys2Proof.Machine.execAuthRx q p s
  | .timingRx q p => Sys2Proof.Machine.execTimingRx q p s
  | .advertRx q p => Sys2Proof.Machine.execAdvertRx q p s
  | .creditRx q p => Sys2Proof.Machine.execCreditRx q p s
  | .keepaliveRx q p => Sys2Proof.Machine.execKeepaliveRx q p s
  | .wakeRx q p => Sys2Proof.Machine.execWakeRx q p s
  | .subscribeRx q p => Sys2Proof.Machine.execSubscribeRx q p s
  | .releaseRx q p => Sys2Proof.Machine.execReleaseRx q p s
  | .grantRx q p => Sys2Proof.Machine.execGrantRx q p s
  | .armRx q p => Sys2Proof.Machine.execArmRx q p s
  | .voteRx q p => Sys2Proof.Machine.execVoteRx q p s
  | .goRx q p => Sys2Proof.Machine.execGoRx q p s
  | .ackRx q p => Sys2Proof.Machine.execAckRx q p s
  | .journalRx q p => Sys2Proof.Machine.execJournalRx q p s
  | .strokeRx q p full => Sys2Proof.Machine.execStrokeRx q p full s
  | .strokeTx src typ frame line late live => Sys2Proof.Machine.execStrokeTx src typ frame line late live s
  | .strokeRelease k0 typ frame line => Sys2Proof.Machine.execStrokeRelease k0 typ frame line s
  | .copyLossCheck k0 => Sys2Proof.Machine.execCopyLossCheck k0 s
  | .peerLossTimeout q => Sys2Proof.Machine.execPeerLossTimeout q s
  | .authTimeout q => Sys2Proof.Machine.execAuthTimeout q s
  | .untrustedRetry q => Sys2Proof.Machine.execUntrustedRetry q s
  | .helloSend q cnt => Sys2Proof.Machine.execHelloSend q cnt s
  | .keepaliveSend q => Sys2Proof.Machine.execKeepaliveSend q s
  | .timingSend q => Sys2Proof.Machine.execTimingSend q s
  | .advertSend => Sys2Proof.Machine.execAdvertSend s
  | .creditSend q => Sys2Proof.Machine.execCreditSend q s
  | .rerouteTimeout paths => Sys2Proof.Machine.execRerouteTimeout paths s
  | .waitingRouteRetry stream content => Sys2Proof.Machine.execWaitingRouteRetry stream content s
  | .revertTimeout src => Sys2Proof.Machine.execRevertTimeout src s
  | .subscribeResend kind tid dst => Sys2Proof.Machine.execSubscribeResend kind tid dst s
  | .holdExpiry stream content sub relay hop => Sys2Proof.Machine.execHoldExpiry stream content sub relay hop s
  | .releaseFree stream content sub relay hop => Sys2Proof.Machine.execReleaseFree stream content sub relay hop s
  | .grantGrowAttempt q src => Sys2Proof.Machine.execGrantGrowAttempt q src s
  | .take ch p => Sys2Proof.Machine.execTake ch p s
  | .takeCancel ch p => Sys2Proof.Machine.execTakeCancel ch p s
  | .regattaOpen ch p => Sys2Proof.Machine.execRegattaOpen ch p s
  | .takeStatus ch p => Sys2Proof.Machine.execTakeStatus ch p s
  | .targetGet ch p => Sys2Proof.Machine.execTargetGet ch p s
  | .regattaStatus ch p => Sys2Proof.Machine.execRegattaStatus ch p s
  | .catchSet ch p => Sys2Proof.Machine.execCatchSet ch p s
  | .coxTgtCfgWrite t v => Sys2Proof.Machine.execCoxTgtCfgWrite t v s
  | .takeExecute k0 => Sys2Proof.Machine.execTakeExecute k0 s
  | .armDeadline tl c => Sys2Proof.Machine.execArmDeadline tl c s
  | .voteDeadline tl c => Sys2Proof.Machine.execVoteDeadline tl c s
  | .goSend tl c => Sys2Proof.Machine.execGoSend tl c s
  | .goDeadline tl c => Sys2Proof.Machine.execGoDeadline tl c s
  | .regattaResend kind tid dst => Sys2Proof.Machine.execRegattaResend kind tid dst s
  | .holderRelease t => Sys2Proof.Machine.execHolderRelease t s
  | .takeEntryFree k0 => Sys2Proof.Machine.execTakeEntryFree k0 s
  | .headFrameStart h n => Sys2Proof.Machine.execHeadFrameStart h n s
  | .headLine h line late => Sys2Proof.Machine.execHeadLine h line late s
  | .headEnableWrite h v => Sys2Proof.Machine.execHeadEnableWrite h v s
  | .guardOpApply tl n => Sys2Proof.Machine.execGuardOpApply tl n s
  | .headSet ch p => Sys2Proof.Machine.execHeadSet ch p s
  | .layerSet ch p => Sys2Proof.Machine.execLayerSet ch p s
  | .zorderSet ch p => Sys2Proof.Machine.execZorderSet ch p s
  | .lutSet ch p => Sys2Proof.Machine.execLutSet ch p s
  | .cscSet ch p => Sys2Proof.Machine.execCscSet ch p s
  | .stillSet ch p => Sys2Proof.Machine.execStillSet ch p s
  | .stillCommit ch p => Sys2Proof.Machine.execStillCommit ch p s
  | .headGetStatus ch p => Sys2Proof.Machine.execHeadGetStatus ch p s
  | .guardMsg ch p => Sys2Proof.Machine.execGuardMsg ch p s
  | .glyphRead ch p => Sys2Proof.Machine.execGlyphRead ch p s
  | .audioSample n ins => Sys2Proof.Machine.execAudioSample n ins s
  | .groupOffsetFix g h => Sys2Proof.Machine.execGroupOffsetFix g h s
  | .fadeEnd g => Sys2Proof.Machine.execFadeEnd g s
  | .audBlockRetry k0 => Sys2Proof.Machine.execAudBlockRetry k0 s
  | .routeApply n => Sys2Proof.Machine.execRouteApply n s
  | .crossfadeEnd o => Sys2Proof.Machine.execCrossfadeEnd o s
  | .sapClockLost n tx => Sys2Proof.Machine.execSapClockLost n tx s
  | .aes3Lock n rate => Sys2Proof.Machine.execAes3Lock n rate s
  | .sapCommonStart => Sys2Proof.Machine.execSapCommonStart s
  | .audSet ch p => Sys2Proof.Machine.execAudSet ch p s
  | .audRoute ch p => Sys2Proof.Machine.execAudRoute ch p s
  | .audMap ch p => Sys2Proof.Machine.execAudMap ch p s
  | .audGrpSet ch p => Sys2Proof.Machine.execAudGrpSet ch p s
  | .sapSet ch p => Sys2Proof.Machine.execSapSet ch p s
  | .sapStart ch p => Sys2Proof.Machine.execSapStart ch p s
  | .audGetStatus ch p => Sys2Proof.Machine.execAudGetStatus ch p s
  | .tapFrame t n => Sys2Proof.Machine.execTapFrame t n s
  | .pictureCoded t full shifts late => Sys2Proof.Machine.execPictureCoded t full shifts late s
  | .baleOpen k => Sys2Proof.Machine.execBaleOpen k s
  | .chunkWriteDone k => Sys2Proof.Machine.execChunkWriteDone k s
  | .stagingFullDrop k => Sys2Proof.Machine.execStagingFullDrop k s
  | .baleSeal k => Sys2Proof.Machine.execBaleSeal k s
  | .sealTimeout k => Sys2Proof.Machine.execSealTimeout k s
  | .witCheckpoint => Sys2Proof.Machine.execWitCheckpoint s
  | .driveFailed d => Sys2Proof.Machine.execDriveFailed d s
  | .smartPoll d crit used spare temp duw mediaErr => Sys2Proof.Machine.execSmartPoll d crit used spare temp duw mediaErr s
  | .trigInEdge rising => Sys2Proof.Machine.execTrigInEdge rising s
  | .postEnd => Sys2Proof.Machine.execPostEnd s
  | .incCopyDone => Sys2Proof.Machine.execIncCopyDone s
  | .witFormat ch p found => Sys2Proof.Machine.execWitFormat ch p found s
  | .witSet ch p => Sys2Proof.Machine.execWitSet ch p s
  | .witGetStatus ch p => Sys2Proof.Machine.execWitGetStatus ch p s
  | .witDriveInfo ch p => Sys2Proof.Machine.execWitDriveInfo ch p s
  | .witRead ch p => Sys2Proof.Machine.execWitRead ch p s
  | .witMount ch p found => Sys2Proof.Machine.execWitMount ch p found s
  | .witRebuild ch p => Sys2Proof.Machine.execWitRebuild ch p s
  | .incSet ch p => Sys2Proof.Machine.execIncSet ch p s
  | .incTrigger ch p => Sys2Proof.Machine.execIncTrigger ch p s
  | .selStateChange level => Sys2Proof.Machine.execSelStateChange level s
  | .hbCauseChange => Sys2Proof.Machine.execHbCauseChange s
  | .journalPublish kind tl n idx => Sys2Proof.Machine.execJournalPublish kind tl n idx s
  | .journalDeadline kind tl n idx => Sys2Proof.Machine.execJournalDeadline kind tl n idx s
  | .twinFrameEnd => Sys2Proof.Machine.execTwinFrameEnd s
  | .autoResync => Sys2Proof.Machine.execAutoResync s
  | .switchInstant => Sys2Proof.Machine.execSwitchInstant s
  | .twinSet ch p => Sys2Proof.Machine.execTwinSet ch p s
  | .twinSwitch ch p partnerInStep => Sys2Proof.Machine.execTwinSwitch ch p partnerInStep s
  | .twinResync ch p => Sys2Proof.Machine.execTwinResync ch p s
  | .twinHb ch p => Sys2Proof.Machine.execTwinHb ch p s
  | .twinGetStatus ch p => Sys2Proof.Machine.execTwinGetStatus ch p s
  | .matrixAccess reqs ends => Sys2Proof.Machine.execMatrixAccess reqs ends s
  | .matrixTargetTimeout k master cycles => Sys2Proof.Machine.execMatrixTargetTimeout k master cycles s
  | .remapWrite master v => Sys2Proof.Machine.execRemapWrite master v s
  | .remapEffect => Sys2Proof.Machine.execRemapEffect s
  | .parkWrite k v => Sys2Proof.Machine.execParkWrite k v s
  | .doorbell c => Sys2Proof.Machine.execDoorbell c s
  | .rspAck c => Sys2Proof.Machine.execRspAck c s
  | .withdraw c tie => Sys2Proof.Machine.execWithdraw c tie s
  | .openSlot c => Sys2Proof.Machine.execOpenSlot c s
  | .requestTake c => Sys2Proof.Machine.execRequestTake c s
  | .responsePost c => Sys2Proof.Machine.execResponsePost c s
  | .requestTimeout c tie => Sys2Proof.Machine.execRequestTimeout c tie s
  | .hostEpochWrite c v tie => Sys2Proof.Machine.execHostEpochWrite c v tie s
  | .functionLevelReset => Sys2Proof.Machine.execFunctionLevelReset s
  | .coreRestart k => Sys2Proof.Machine.execCoreRestart k s
  | .lockRead owners l => Sys2Proof.Machine.execLockRead owners l s
  | .lockReleaseWrite owner l v => Sys2Proof.Machine.execLockReleaseWrite owner l v s
  | .bar2WinWrite v => Sys2Proof.Machine.execBar2WinWrite v s
  | .bar2Access off n wr => Sys2Proof.Machine.execBar2Access off n wr s
  | .deviceInfo ch p => Sys2Proof.Machine.execDeviceInfo ch p s
  | .sysPing ch p => Sys2Proof.Machine.execSysPing ch p s
  | .sysReset ch p partnerInStep => Sys2Proof.Machine.execSysReset ch p partnerInStep s
  | .sysHealth ch p => Sys2Proof.Machine.execSysHealth ch p s
  | .diagRead ch p => Sys2Proof.Machine.execDiagRead ch p s
  | .diagWrite ch p => Sys2Proof.Machine.execDiagWrite ch p s
  | .diagLog ch p text => Sys2Proof.Machine.execDiagLog ch p text s
  | .keyStatus ch p => Sys2Proof.Machine.execKeyStatus ch p s
  | .keyGenerate ch p => Sys2Proof.Machine.execKeyGenerate ch p s
  | .keyCertLoad ch p => Sys2Proof.Machine.execKeyCertLoad ch p s
  | .keyInject ch p => Sys2Proof.Machine.execKeyInject ch p s
  | .keyWitExport ch p => Sys2Proof.Machine.execKeyWitExport ch p s
  | .lcAdvance ch p cut => Sys2Proof.Machine.execLcAdvance ch p cut s
  | .tamperEvent cause => Sys2Proof.Machine.execTamperEvent cause s
  | .retentionDip deep => Sys2Proof.Machine.execRetentionDip deep s
  | .scanRequest => Sys2Proof.Machine.execScanRequest s
  | .updBegin ch p => Sys2Proof.Machine.execUpdBegin ch p s
  | .stagingEraseDone => Sys2Proof.Machine.execStagingEraseDone s
  | .updWrite ch p => Sys2Proof.Machine.execUpdWrite ch p s
  | .updFinish ch p => Sys2Proof.Machine.execUpdFinish ch p s
  | .stagingVerifyDone => Sys2Proof.Machine.execStagingVerifyDone s
  | .updStatus ch p => Sys2Proof.Machine.execUpdStatus ch p s
  | .updCommit ch p => Sys2Proof.Machine.execUpdCommit ch p s
  | .updRollback ch p => Sys2Proof.Machine.execUpdRollback ch p s
  | .updAbort ch p => Sys2Proof.Machine.execUpdAbort ch p s
  | .settingsSave ch p => Sys2Proof.Machine.execSettingsSave ch p s
  | .settingsWriteDone => Sys2Proof.Machine.execSettingsWriteDone s
  | .bistReport ch p => Sys2Proof.Machine.execBistReport ch p s
  | .pwrStatus ch p => Sys2Proof.Machine.execPwrStatus ch p s
  | .pwrDomain ch p => Sys2Proof.Machine.execPwrDomain ch p s
  | .pwrSet ch p => Sys2Proof.Machine.execPwrSet ch p s
  | .pwrSleep ch p => Sys2Proof.Machine.execPwrSleep ch p s
  | .domainSwitch => Sys2Proof.Machine.execDomainSwitch s
  | .runRampStep d k0 late => Sys2Proof.Machine.execRunRampStep d k0 late s
  | .avsPoll mv ma => Sys2Proof.Machine.execAvsPoll mv ma s
  | .avsTargetStep floor => Sys2Proof.Machine.execAvsTargetStep floor s
  | .capEval => Sys2Proof.Machine.execCapEval s
  | .tempSample readings => Sys2Proof.Machine.execTempSample readings s
  | .wakeEvent c n => Sys2Proof.Machine.execWakeEvent c n s
  | .scrubPass stack bank row pass ce => Sys2Proof.Machine.execScrubPass stack bank row pass ce s
  | .yardUe stack bank row addr twice => Sys2Proof.Machine.execYardUe stack bank row addr twice s
  | .rowRepairDone stack bank row ok => Sys2Proof.Machine.execRowRepairDone stack bank row ok s
  | .engineCheckFail blk inst => Sys2Proof.Machine.execEngineCheckFail blk inst s
  | .faultBitClear blk v => Sys2Proof.Machine.execFaultBitClear blk v s
  | .wdtExpiry k => Sys2Proof.Machine.execWdtExpiry k s
  | .wdtKick k => Sys2Proof.Machine.execWdtKick k s
  | .coreRst v => Sys2Proof.Machine.execCoreRst v s
  | .deviceReset v => Sys2Proof.Machine.execDeviceReset v s
  | .gpioChange n level => Sys2Proof.Machine.execGpioChange n level s
  | .diagInject ch p => Sys2Proof.Machine.execDiagInject ch p s
  | .faultClear ch p => Sys2Proof.Machine.execFaultClear ch p s
  | .rclCounterRead a late => Sys2Proof.Machine.execRclCounterRead a late s
  | .registerWrite master addr v => Sys2Proof.Machine.execRegisterWrite master addr v s
  | .candidateValid n cls acc freq sync => Sys2Proof.Machine.execCandidateValid n cls acc freq sync s
  | .oscInReturn => Sys2Proof.Machine.execOscInReturn s
  | .pllCoastTimeout m => Sys2Proof.Machine.execPllCoastTimeout m s
  | .aes3LockLost n => Sys2Proof.Machine.execAes3LockLost n s
  | .aes3RateChange n rate => Sys2Proof.Machine.execAes3RateChange n rate s
  | .mountDone => Sys2Proof.Machine.execMountDone s
  | .rebuildDone => Sys2Proof.Machine.execRebuildDone s
  | .nvmeCommandError d ok => Sys2Proof.Machine.execNvmeCommandError d ok s
  | .flushDone => Sys2Proof.Machine.execFlushDone s
  | .marchTestDone bank passes repaired => Sys2Proof.Machine.execMarchTestDone bank passes repaired s
  | .faultRetryWindowEnd blk inst => Sys2Proof.Machine.execFaultRetryWindowEnd blk inst s
  | .captureFrameTake e => Sys2Proof.Machine.execCaptureFrameTake e s
  | .extestClampSelect sel => Sys2Proof.Machine.execExtestClampSelect sel s
  | .lockstepDisagreement => Sys2Proof.Machine.execLockstepDisagreement s

end Sys2Proof.Machine
end

