-- ==== Sys2Proof/Safety.lean ====
section
/-!
DEFINITION. The words that claims use: what a command leaves alone, what it answers, a device that is held, and tables in canonical form.
-/
namespace Sys2Proof.Machine

/-- The registers of `t` are those of `s`, except at the keys listed. -/
def State.regsKept (s t : State) (except : List Nat) : Prop := ∀ k, k ∉ except → t.regs.look k = s.regs.look k

/-- Everything but the registers and the record of outputs is as it was. -/
def State.restKept (s t : State) : Prop := { t with regs := s.regs, out := s.out } = s

/-- A command changed the registers listed, showed what it showed, and did nothing else. -/
def State.onlyRegs (s t : State) (except : List Nat) : Prop := s.regsKept t except ∧ s.restKept t

/-- A host command was answered on `ch` with a status and a payload. -/
def State.answered (t : State) (ch status : Nat) (data : List Byte) : Prop := t.replies.look ch = some ⟨status, data⟩

/-- Everything but the registers, the responses and the record of outputs is as it was. -/
def State.restAnswered (s t : State) : Prop := { t with regs := s.regs, out := s.out, replies := s.replies } = s

/-- A host command changed the registers listed and its answer, and nothing else. -/
def State.onlyAnswer (s t : State) (ch : Nat) (except : List Nat) : Prop :=
  s.regsKept t except ∧ s.restAnswered t ∧ ∀ c, c ≠ ch → t.replies.look c = s.replies.look c

/-- Registers but those listed are as they were, and so is everything outside the witness but the record of outputs and the free values taken. -/
def State.onlyWit (s t : State) (except : List Nat) : Prop := s.regsKept t except ∧ { t with regs := s.regs, out := s.out, wit := s.wit, free := s.free } = s

/-- The safe state is not in the way of a host command of class `c` (R633). -/
def State.serves (s : State) (c : Nat) : Prop := s.on F.BIST_STATUS_SAFE 0 = false ∨ c = 0x01 ∨ c = 0x0B ∨ c = 0x0D

/-- Instance `n` of register `r` is present and the power domain that holds it is on: an access reaches it (R5, R570, R705). -/
def State.reaches (s : State) (r : Reg) (n : Nat) : Prop := s.regHas (r.addr n) = true ∧ s.regOff (r.addr n) = false

/-- Lane `l` is present, no self-test has failed it, and its domain is on (R5, R177, R634). -/
def State.laneFit (s : State) (l : Nat) : Prop := s.laneHas l = true ∧ s.laneBist l = false ∧ s.laneOn l = true

/-- A command sent packets, and did nothing else. -/
def State.spoke (s t : State) : Prop := { t with out := s.out, free := s.free } = s

/-- A command changed registers and sent packets, and did nothing else. -/
def State.talked (s t : State) : Prop := { t with regs := s.regs, out := s.out, free := s.free } = s

/-- The grants that carry the strokes of a type of source `src` on port `q` in a frame, and the channels of its audio strokes there (R355, R471). -/
def State.strokeGrants (s : State) (q src typ frame : Nat) : List Grant :=
  s.grants.filter fun g => g.on q (s.me * 512 + src) && g.hop == 1 && contentHas g.content typ && g.sends frame && g.seats != 0
def State.strokeChannels (s : State) (q src typ frame : Nat) : Nat :=
  if (s.strokeGrants q src typ frame).any (fun g => g.content == 0) then s.fld F.AUD_SRCMAP_COUNT src
  else ((s.strokeGrants q src typ frame).map Grant.channels).foldl max 0

/-- Port `q` takes packet `p`, and it is control message `m` of type `typ`, whole (R349, R351, R360). -/
def State.gets (s : State) (q typ : Nat) (p : Packet) (m : List Byte) : Prop := s.portHears q = true ∧ s.arrival q p = .whole m ∧ msgOk typ m = true

/-- A packet on port `q` arrives whole, as control message `m` of type `typ`, from a peer that is UP, while this device is awake (R349, R351, R360, R374). -/
def State.hears (s : State) (q typ : Nat) (p : Packet) (m : List Byte) : Prop :=
  s.portHears q = true ∧ s.arrival q p = .whole m ∧ msgOk typ m = true ∧ s.linkUp q = true ∧ s.keepAlive q = false

/-- The age in nanoseconds of a frame shown now, and the judgements in a row that checkpoint `c` sees its frame number repeat (R287, R288). -/
def State.ageOf (s : State) (r : FrameRec) : Nat := s.time.now / nsUnit - r.origin
def State.freshRep (s : State) (c : Nat) (r : FrameRec) : Nat := if (s.chk c).lastFseq = some r.fseq then (s.chk c).rep + 1 else 0

/-- The register table is in canonical form: keys rise, and no field at its reset value is listed. -/
def State.regsWf (s : State) : Prop := s.regs.wf = true

/-- The commands that may end a hold of the device: power, the pin and the JTAG instruction (R103, R628, R717, R721). -/
def endsHold : Instr → Bool
  | .powerOnReset => true
  | .powerOnRelease _ => true
  | .extestClampSelect _ => true
  | .resetNAssert => true
  | _ => false

/-- The commands that act on a device held in reset without ending the hold: device time runs on, and the key store keeps its watch (R103, R613,
R615). -/
def worksHeld : Instr → Bool
  | .timeTick => true
  | .tamperEvent _ => true
  | .retentionDip _ => true
  | _ => false

/-- A device held in reset, with nothing waiting that could end the hold. -/
def State.stuckHeld (s : State) : Prop := s.held = true ∧ ∀ c ∈ s.pending, endsHold c = false

end Sys2Proof.Machine
end

