-- ==== Sys2Proof/Certificates/Slice0/Obligations.lean ====
section
/-!
DEFINITION. What is claimed of the device, by the rules of the spec. Each statement about a command says that it ends in a next state, what that
state holds, and what it leaves alone.
-/
namespace Sys2Proof.Claims


end Sys2Proof.Claims

open Sys2Proof Sys2Proof.Machine Sys2Proof.Claims

/-- A candidate turns valid, qualified and invalid with its bits, and a write of its registers makes it invalid (R39, R40, R41, R42, section 02_references_and_house_timing.md). -/
def Obligations.CandidatesTurnValidAndInvalid : Prop :=
  ∀ (s : State) (n : Nat), s.held = false → n < 8 →
    (s.candValid n = true →
      ∃ t, exec (.candidateLost n) s = .next t ∧ t.candValid n = false ∧ t.candQualified n = false ∧ t.bitAt F.REFS_HIST_CAND_LOST 0 n = true ∧
        (s.selected = some n → t.refs.lostSel = true) ∧
        s.regsKept t [F.REFS_STATUS_VALID.key 0, F.REFS_STATUS_QUALIFIED.key 0, F.REFS_HIST_CAND_LOST.key 0]) ∧
    (s.candValid n = false → ∃ t, exec (.candidateLost n) s = .next t ∧ s.onlyRegs t []) ∧
    (∀ cls acc freq sync, s.candBarred n cls acc freq = false →
      ∃ t, exec (.candidateValid n cls acc freq sync) s = .next t ∧ t.candValid n = true ∧
        t.cand n = { s.cand n with cls := s.candClass n cls, acc := acc, freq := freq, sync := sync } ∧
        (s.candValid n = true → s.regsKept t []) ∧
        (s.candValid n = false → s.fld F.REF_QUAL_WTR n = 0 → t.candQualified n = true ∧ t.bitAt F.REFS_HIST_CAND_QUAL 0 n = true) ∧
        (s.fld F.REF_QUAL_WTR n ≠ 0 → t.candQualified n = s.candQualified n)) ∧
    (∀ cls acc freq sync, s.candBarred n cls acc freq = true →
      ∃ t, exec (.candidateValid n cls acc freq sync) s = .next t ∧ t.candValid n = false ∧
        (s.candValid n = true → t.candQualified n = false ∧ t.bitAt F.REFS_HIST_CAND_LOST 0 n = true) ∧ (s.candValid n = false → s.onlyRegs t [])) ∧
    (s.candValid n = true → s.candQualified n = false →
      ∃ t, exec (.candidateQualified n) s = .next t ∧ t.candQualified n = true ∧ t.bitAt F.REFS_HIST_CAND_QUAL 0 n = true ∧
        s.onlyRegs t [F.REFS_STATUS_QUALIFIED.key 0, F.REFS_HIST_CAND_QUAL.key 0]) ∧
    (s.candValid n = false ∨ s.candQualified n = true → ∃ t, exec (.candidateQualified n) s = .next t ∧ s.onlyRegs t []) ∧
    (∀ v : Word, s.reaches R.REF_COMP n → ∃ t, exec (.refCandidateWrite n 2 v) s = .next t ∧ t.candValid n = false ∧ t.fld F.REF_COMP_COMP n = v.toNat % 2 ^ 16 ∧
        (s.candValid n = true → t.bitAt F.REFS_HIST_CAND_LOST 0 n = true)) ∧
    (∀ v : Word, s.reaches R.REF_QUAL n → ∃ t, exec (.refCandidateWrite n 1 v) s = .next t ∧ t.candValid n = false ∧ t.fld F.REF_QUAL_WTR n = v.toNat % 2 ^ 10 ∧
        t.fld F.REF_QUAL_QL_MAX_CLASS n = v.toNat / 2 ^ 16 % 2 ^ 8 ∧ t.fld F.REF_QUAL_ACC_MAX n = v.toNat / 2 ^ 24 % 2 ^ 8) ∧
    (∀ v : Word, s.reaches R.REF_CFG n → ∃ t, exec (.refCandidateWrite n 0 v) s = .next t ∧ t.candValid n = false ∧ t.fld F.REF_CFG_PRIO n = v.toNat % 2 ^ 4 ∧
        (n ≤ 3 → t.fld F.REF_CFG_KIND n = s.fld F.REF_CFG_KIND n) ∧ (3 < n → t.fld F.REF_CFG_KIND n = v.toNat / 2 ^ 4 % 2 ^ 3))

/-- The loop takes on the candidate it selects, and enters holdover or free run when there is none or firmware says so (R43, R46, R48, R56, R57, R61, R64, R65, section 02_references_and_house_timing.md). -/
def Obligations.TheLoopSelectsAndHolds : Prop :=
  ∀ (s : State), s.held = false →
    (∀ q, s.fld F.REFS_CTRL_SEL_MODE 0 = 0 → s.selected = none → s.bestQualified = some q → s.synced = true →
      ∃ t, exec .selectionEval s = .next t ∧ t.loopState = 3 ∧ t.selected = some q ∧ t.fld F.REFS_HIST_SWITCHED 0 = 1 ∧ t.time.now = s.time.now ∧
        t.fld F.REFS_STATUS_BW_NOW 0 ≤ s.bwWidest q ∧ (s.loopState = 2 → t.fld F.REFS_HIST_LOCK_LOST 0 = 1)) ∧
    (∀ n, s.fld F.REFS_CTRL_SEL_MODE 0 = 1 → s.fld F.REFS_CTRL_FORCE_SEL 0 = n → s.candValid n = true → n < 8 → s.selected = none → s.synced = false →
        s.loopState = 0 ∨ s.loopState = 4 →
      ∃ t, exec .selectionEval s = .next t ∧ t.loopState = 1 ∧ t.selected = some n ∧ t.refs.firstSet = true ∧ t.time.now = s.time.now ∧
        t.fld F.REFS_STATUS_BW_NOW 0 ≤ s.bwWidest n ∧ t.time.rate = clampInt (-rateLimit) rateLimit (s.cand n).freq) ∧
    (s.fld F.REFS_CTRL_SEL_MODE 0 = 0 → s.autoChoice = (none, false) → 1 ≤ s.loopState → s.loopState ≤ 3 → s.refs.histOk = false →
      ∃ t, exec .selectionEval s = .next t ∧ t.loopState = 0 ∧ t.selected = none ∧ t.fld F.REFS_HIST_HO_ENTERED 0 = 1 ∧ t.time.rate = 0 ∧ t.time.adj = 0 ∧
        (s.loopState = 2 → t.fld F.REFS_HIST_LOCK_LOST 0 = 1)) ∧
    (s.fld F.REFS_CTRL_SEL_MODE 0 = 0 → s.autoChoice = (none, false) → s.loopState ≤ 3 → s.refs.histOk = true →
      ∃ t, exec .selectionEval s = .next t ∧ t.loopState = 4 ∧ t.selected = none ∧ t.fld F.REFS_HIST_HO_ENTERED 0 = 1 ∧ t.time.adj = 0 ∧
        t.fld F.HO_ELAPSED_SECONDS 0 = 0 ∧ t.time.rate = clampInt (-rateLimit) rateLimit ((s.refs.hist[s.fld F.HO_HIST_CFG_HIST_GUARD 0]?).getD 0)) ∧
    (2 ≤ s.fld F.REFS_CTRL_SEL_MODE 0 → ∃ t, exec .selectionEval s = .next t ∧ s.onlyRegs t []) ∧
    (∀ v : Word, s.reaches R.REFS_CTRL 0 → v.toNat % 4 = 2 →
      ∃ t, exec (.forceHoldover v) s = .next t ∧ t.loopState = (if s.refs.histOk then 4 else 0) ∧ t.selected = none ∧ t.fld F.REFS_HIST_HO_ENTERED 0 = 1 ∧
        t.fld F.REFS_CTRL_SEL_MODE 0 = 2 ∧
        (s.refs.histOk = true → t.time.rate = clampInt (-rateLimit) rateLimit ((s.refs.hist[s.fld F.HO_HIST_CFG_HIST_GUARD 0]?).getD 0)) ∧
        (s.loopState = 2 → t.fld F.REFS_HIST_LOCK_LOST 0 = 1)) ∧
    (∀ v : Word, s.reaches R.REFS_CTRL 0 → v.toNat % 4 = 3 →
      ∃ t, exec (.forceFreerun v) s = .next t ∧ t.loopState = 0 ∧ t.selected = none ∧ t.time.rate = 0 ∧ t.fld F.REFS_CTRL_SEL_MODE 0 = 3 ∧
        (s.loopState = 2 → t.fld F.REFS_HIST_LOCK_LOST 0 = 1))

/-- A comparison is stored, compensated and folded, and steers or sets device time; lock, step-down, history and holdover seconds follow the loop's state (R50, R52, R54, R55, R57, R59, R60, R62, R64, R109, section 02_references_and_house_timing.md). -/
def Obligations.TheLoopMeasuresAndLocks : Prop :=
  ∀ (s : State), s.held = false →
    (∀ n m freq, n < 8 → s.candValid n = true → s.candBarred n (s.cand n).cls (s.cand n).acc freq = false →
      (∀ e, s.phaseError n m = some e → s.selected ≠ some n →
        ∃ t, exec (.dpllComparison n m freq) s = .next t ∧ (t.cand n).freq = freq ∧ t.time = s.time ∧
          (∀ p, e = some p → t.fld F.REF_PHASE_PHASE n = patternOf F.REF_PHASE_PHASE.width p) ∧
          s.regsKept t (if e.isSome then [F.REF_PHASE_PHASE.key n] else [])) ∧
      (s.phaseError n m = none → ∃ t, exec (.dpllComparison n m freq) s = .next t ∧ s.onlyRegs t []) ∧
      (∀ e, s.phaseError n m = some e → s.selected = some n → s.loopState = 1 → s.refs.firstSet = true → s.synced = false →
        ∃ t, exec (.dpllComparison n m freq) s = .next t ∧ t.synced = true ∧ t.fld F.TIME_HIST_FIRST_SET 0 = 1 ∧ t.fld F.REFS_STATUS_TIME_SYNCED 0 = 1 ∧
          t.refs.firstSet = false ∧ t.time.adj = 0 ∧ t.time.rate = s.time.rate ∧
          t.time.now = nowWrap (Int.ofNat s.time.now + e.getD 0 * Int.ofNat (2 ^ 44))) ∧
      (∀ e, s.phaseError n m = some e → s.selected = some n → 1 ≤ s.loopState → s.loopState ≤ 3 → s.synced = true →
        ∃ t, exec (.dpllComparison n m freq) s = .next t ∧ t.time.now = s.time.now ∧ t.loopState = s.loopState ∧
          t.fld F.DPLL_FREQ_FREQ 0 = patternOf F.DPLL_FREQ_FREQ.width (freqReg t.time.rate) ∧
          (s.loopState = 3 ∧ s.refs.pull = true ∧ s.time.adj ≠ 0 → t.time.rate = clampInt (-rateLimit) rateLimit freq ∧ t.time.adj = s.time.adj) ∧
          (s.loopState ≠ 3 → t.time.rate = clampInt (-rateLimit) rateLimit (Config.loopRate (bwMilli (s.fld F.REFS_STATUS_BW_NOW 0))
            (dampMilli (s.fld F.REFS_CTRL_DAMP 0)) (e.getD 0) freq s.time.rate)))) ∧
    (∀ n o, s.candKind n = 3 → ∃ p k : Int, s.phaseError n (.edge o) = some (some p) ∧ o + s.sfld F.REF_COMP_COMP n = p + k * 16000000000 ∧ p.natAbs ≤ 8000000000) ∧
    (∀ n m freq, n < 8 → s.candValid n = true → s.candBarred n (s.cand n).cls (s.cand n).acc freq = true →
      ∃ t, exec (.dpllComparison n m freq) s = .next t ∧ t.candValid n = false ∧ t.bitAt F.REFS_HIST_CAND_LOST 0 n = true ∧ t.time = s.time) ∧
    (∀ n m freq, s.candValid n = false → ∃ t, exec (.dpllComparison n m freq) s = .next t ∧ s.onlyRegs t []) ∧
    (s.loopState = 1 → (s.sfld F.DPLL_PHASE_PHASE 0).natAbs ≤ 16 * s.fld F.REFS_LOCK_LOCK_PH 0 → s.fld F.REFS_CTRL_TRK_BW 0 < s.fld F.REFS_CTRL_ACQ_BW 0 →
      ∃ t, exec .lockDeclared s = .next t ∧ t.loopState = 2 ∧ t.fld F.REFS_HIST_LOCK_GAINED 0 = 1 ∧ t.refs.locked = 0 ∧ t.refs.histOk = false ∧
        s.regsKept t [F.REFS_STATUS_STATE.key 0, F.REFS_HIST_LOCK_GAINED.key 0]) ∧
    (s.loopState = 3 → s.time.adj = 0 → (s.sfld F.DPLL_PHASE_PHASE 0).natAbs ≤ 16 * s.fld F.REFS_LOCK_LOCK_PH 0 →
      ∃ t, exec .lockDeclared s = .next t ∧ t.loopState = 2 ∧ t.fld F.REFS_HIST_LOCK_GAINED 0 = 1 ∧ t.fld F.REFS_HIST_PULL_DONE 0 = 1) ∧
    (16 * s.fld F.REFS_LOCK_LOCK_PH 0 < (s.sfld F.DPLL_PHASE_PHASE 0).natAbs → ∃ t, exec .lockDeclared s = .next t ∧ s.onlyRegs t []) ∧
    (s.loopState = 2 → s.fld F.REFS_CTRL_TRK_BW 0 < s.fld F.REFS_STATUS_BW_NOW 0 → s.fld F.REFS_STATUS_BW_NOW 0 < 16 →
      ∃ t, exec .bwStepDown s = .next t ∧ t.fld F.REFS_STATUS_BW_NOW 0 = s.fld F.REFS_STATUS_BW_NOW 0 - 1 ∧ s.onlyRegs t [F.REFS_STATUS_BW_NOW.key 0]) ∧
    (s.fld F.REFS_STATUS_BW_NOW 0 ≤ s.fld F.REFS_CTRL_TRK_BW 0 → ∃ t, exec .bwStepDown s = .next t ∧ s.onlyRegs t []) ∧
    (s.loopState = 2 →
      ∃ t, exec .freqHistoryStore s = .next t ∧ t.refs.hist = (s.historyNext :: s.refs.hist).take 64 ∧ t.refs.avg = s.historyNext ∧
        t.refs.locked = s.refs.locked + 1 ∧ (t.refs.histOk = true ↔ s.fld F.HO_HIST_CFG_HIST_GUARD 0 + 1 < s.refs.locked + 1) ∧ s.regsKept t []) ∧
    (s.loopState ≠ 2 → ∃ t, exec .freqHistoryStore s = .next t ∧ s.onlyRegs t []) ∧
    (s.loopState = 4 → s.on F.REFS_STATUS_HO_EXPIRED 0 = false → s.fld F.HO_ELAPSED_SECONDS 0 + 1 < 2 ^ 32 →
      ∃ t, exec .holdoverCheck s = .next t ∧ t.fld F.HO_ELAPSED_SECONDS 0 = s.fld F.HO_ELAPSED_SECONDS 0 + 1 ∧ t.loopState = 4 ∧
        (s.hoWithin (s.fld F.HO_ELAPSED_SECONDS 0 + 1) = false → t.fld F.REFS_STATUS_HO_EXPIRED 0 = 1 ∧ t.fld F.REFS_HIST_HO_EXPIRED 0 = 1) ∧
        (s.hoWithin (s.fld F.HO_ELAPSED_SECONDS 0 + 1) = true → s.onlyRegs t [F.HO_ELAPSED_SECONDS.key 0])) ∧
    (s.loopState ≠ 4 → ∃ t, exec .holdoverCheck s = .next t ∧ s.onlyRegs t [])

/-- A read of TL_POS_FRAME_LO latches the rest of the position, and a read of CAP_NS latches and removes the oldest entry (R71, R126). -/
def Obligations.ReadsLatchTheirWords : Prop :=
  ∀ (s : State), s.held = false →
    (∀ k, k < 2 → s.reaches R.TL_POS_FRAME_LO k →
      ∃ t, exec (.tlPosFrameLoRead k) s = .next t ∧ Out.read (s.tlFrame k % 2 ^ 32) ∈ t.out ∧
        t.fld F.TL_POS_FRAME_HI_FRAME k = s.tlFrame k / 2 ^ 32 % 2 ^ 16 ∧ t.fld F.TL_POS_LINE_LINE k = s.tlLine k % 2 ^ 12 ∧
        t.fld F.TL_POS_LINE_SAMPLE k = s.tlSample k % 2 ^ 14 ∧
        s.onlyRegs t [F.TL_POS_FRAME_HI_FRAME.key k, F.TL_POS_LINE_LINE.key k, F.TL_POS_LINE_SAMPLE.key k]) ∧
    (∀ n e rest, n < 16 → s.capQueue n = e :: rest → s.reaches R.CAP_NS n →
      ∃ t, exec (.capNsRead n) s = .next t ∧ Out.read (e.ns + bit e.rising * 2 ^ 30 + 2 ^ 31) ∈ t.out ∧ t.capQueue n = rest ∧
        t.fld F.CAP_SEC_LO_SEC n = e.sec % 2 ^ 32 ∧ t.fld F.CAP_SEC_HI_SEC n = e.sec / 2 ^ 32 % 2 ^ 16 ∧ t.fld F.CAP_SEC_HI_FRAC n = e.frac % 2 ^ 16 ∧
        (∀ m, m ≠ n → t.capQueue m = s.capQueue m) ∧
        s.regsKept t [F.CAP_SEC_LO_SEC.key n, F.CAP_SEC_HI_SEC.key n, F.CAP_SEC_HI_FRAC.key n]) ∧
    (∀ n, s.capQueue n = [] → s.reaches R.CAP_NS n → ∃ t, exec (.capNsRead n) s = .next t ∧ Out.read 0 ∈ t.out ∧ s.onlyRegs t [])

/-- An enabled timeline keeps its rate, raster and samples; a frame pulse comes with its level, delay and misalignment, and is realigned on command (R66, R69, R70, R72, R73, R74, R75, R76, R77, R81, section 02_references_and_house_timing.md). -/
def Obligations.TimelinesAndFramePulses : Prop :=
  ∀ (s : State), s.held = false →
    (∀ k (v : Word), k < 2 → s.reaches R.TL_CFG k → s.unchanged [F.TL_CFG_RATE, F.TL_CFG_RASTER, F.TL_CFG_SPL] k v.toNat = false →
      s.on F.TL_CFG_ENABLE k = true ∨ rateFamily k (v.toNat / 2 % 8) = false ∨ rasterPair (v.toNat / 16 % 4) (v.toNat / 2 % 8) = false →
      ∃ t, exec (.tlCfgWrite k v) s = .next t ∧ t.fld F.REFS_HIST_TL_CFG_REJECTED 0 = 1 ∧ t.fld F.TL_CFG_ENABLE k = v.toNat % 2 ∧ t.time = s.time ∧
        (s.on F.TL_CFG_ENABLE k = true → t.tlFrame k = s.tlFrame k) ∧
        s.regsKept t [F.REFS_HIST_TL_CFG_REJECTED.key 0, F.BLK_REJECT_CNT_COUNT.key 2, F.TL_CFG_ENABLE.key k]) ∧
    (∀ k (v : Word), k < 2 → s.reaches R.TL_CFG k → s.on F.TL_CFG_ENABLE k = false → rateFamily k (v.toNat / 2 % 8) = true →
      rasterPair (v.toNat / 16 % 4) (v.toNat / 2 % 8) = true →
      ∃ t, exec (.tlCfgWrite k v) s = .next t ∧ t.fld F.TL_CFG_ENABLE k = v.toNat % 2 ∧ t.fld F.TL_CFG_RATE k = v.toNat / 2 % 8 ∧
        t.fld F.TL_CFG_RASTER k = v.toNat / 16 % 4 ∧ t.fld F.TL_CFG_SPL k = max 1 (v.toNat / 2 ^ 16 % 2 ^ 14) ∧
        s.onlyRegs t [F.TL_CFG_RATE.key k, F.TL_CFG_RASTER.key k, F.TL_CFG_SPL.key k, F.TL_CFG_ENABLE.key k]) ∧
    (∀ k (v : Word), k < 2 → s.reaches R.TL_CFG k → s.unchanged [F.TL_CFG_RATE, F.TL_CFG_RASTER, F.TL_CFG_SPL] k v.toNat = true →
      ∃ t, exec (.tlCfgWrite k v) s = .next t ∧ t.fld F.TL_CFG_ENABLE k = v.toNat % 2 ∧ s.regsKept t [F.TL_CFG_ENABLE.key k] ∧
        (s.on F.TL_CFG_ENABLE k = true → t.tlFrame k = s.tlFrame k)) ∧
    (∀ j n, j < 4 → s.on F.FP_CFG_EN j = true → (s.fp j).endRaw ≤ s.time.raw → s.tlOn (s.fp j).tl = true → n % ((s.fp j).div + 1) = 0 →
      (s.fp j).step = false → (s.fp j).slew = 0 →
      ∃ t, exec (.fpPulse j n) s = .next t ∧
        (s.pinBad (fpPin j) = false → Out.framePulse j n ((s.fp j).ofs - (s.fp j).off) (s.fld F.FP_CFG_WIDTH j * 100) (s.on F.FP_CFG_POL j) (s.fpMis j n) ∈ t.out) ∧
        t.fld F.FP_MISALIGN_MIS j = patternOf 32 (s.fpMis j n) ∧
        (s.fld F.FP_CFG_TOL j < (s.fpMis j n).natAbs → t.fld F.REFS_HIST_FP_MISALIGNED 0 = 1) ∧
        (0 < s.fld F.FP_CFG_WIDTH j → t.fpOut j = s.on F.FP_CFG_POL j) ∧
        t.fp j = { s.fp j with last := some n, endRaw := s.time.raw + s.fld F.FP_CFG_WIDTH j * 100 } ∧
        s.regsKept t [F.FP_MISALIGN_MIS.key j, F.REFS_HIST_FP_MISALIGNED.key 0]) ∧
    (∀ j n, s.on F.FP_CFG_EN j = false ∨ s.time.raw < (s.fp j).endRaw → ∃ t, exec (.fpPulse j n) s = .next t ∧ s.onlyRegs t []) ∧
    (∀ j n, (s.fp j).step = false → n % ((s.fp j).div + 1) ≠ 0 ∨ s.tlOn (s.fp j).tl = false → ∃ t, exec (.fpPulse j n) s = .next t ∧ s.onlyRegs t []) ∧
    (∀ j n, j < 4 → s.on F.FP_CFG_EN j = true → (s.fp j).endRaw ≤ s.time.raw → s.tlOn (s.fld F.FP_CFG_TL j) = true → n % (s.fld F.FP_CFG_DIV j + 1) = 0 →
      (s.fp j).step = true →
      ∃ t, exec (.fpPulse j n) s = .next t ∧ (t.fp j).off = 0 ∧ (t.fp j).step = false ∧ (t.fp j).tl = s.fld F.FP_CFG_TL j ∧
        (t.fp j).div = s.fld F.FP_CFG_DIV j ∧ (t.fp j).ofs = s.sfld F.FP_OFS_OFS j ∧
        ((s.fp j).last = none → t.fld F.FP_MISALIGN_MIS j = 0 ∧ (t.fp j).last = some n)) ∧
    (∀ j n, j < 4 → s.on F.FP_CFG_EN j = true → (s.fp j).endRaw ≤ s.time.raw → s.tlOn (s.fp j).tl = true → n % ((s.fp j).div + 1) = 0 →
      (s.fp j).step = false → (s.fp j).slew ≠ 0 →
      ∃ t, exec (.fpPulse j n) s = .next t ∧ ∃ m : Int, m.natAbs ≤ (s.fp j).slew ∧ (m = s.fpMis j n ∨ m.natAbs = (s.fp j).slew) ∧
        (t.fp j).off = (s.fp j).off - m ∧ t.fld F.FP_MISALIGN_MIS j = patternOf 32 (t.fpMis j n) ∧ (t.fp j).last = some n ∧
        (m = s.fpMis j n → (t.fp j).slew = 0) ∧ (m ≠ s.fpMis j n → (t.fp j).slew = (s.fp j).slew)) ∧
    (∀ j (v : Word), v.toNat % 2 = 1 → s.reaches R.FP_ALIGN j →
      ∃ t, exec (.fpAlignGo j v) s = .next t ∧
        (v.toNat / 2 % 2 = 0 → t.fp j = { s.fp j with step := true, slew := 0 }) ∧
        (v.toNat / 2 % 2 = 1 → (t.fp j).step = false ∧ (t.fp j).slew = max 1 (v.toNat / 2 ^ 16) ∧ (t.fp j).tl = s.fld F.FP_CFG_TL j ∧
          (t.fp j).div = s.fld F.FP_CFG_DIV j ∧ (t.fp j).ofs = s.sfld F.FP_OFS_OFS j) ∧
        s.regsKept t [] ∧ ∀ i, i ≠ j → t.fp i = s.fp i) ∧
    (∀ j (v : Word), v.toNat % 2 = 0 → s.reaches R.FP_ALIGN j → ∃ t, exec (.fpAlignGo j v) s = .next t ∧ s.onlyRegs t [])

/-- The commands of the timing group store their fields, report and answer OK; a time command that R112 or R120 stands in the way of is refused (R64, R82, R83, R84, R634, R112, R134, R135, section 02_references_and_house_timing.md, section 03_clocks_and_device_time.md). -/
def Obligations.TimingCommandsAct : Prop :=
  ∀ (s : State) (ch : Nat), s.held = false → s.fld F.BIST_STATUS_SAFE 0 = 0 → s.selftest 2 = false →
    (∀ n, n < 8 → (n ≤ 3 → s.candKind n ≠ 4) → (refPins n).any s.pinBad = false → ∃ t, exec (.refSetCandidate ch (leBytes 1 n ++ [0, 0, 7, 3, 5, 50, 1] ++ leBytes 2 1023 ++ [200, 254] ++ leBytes 2 0x8000 ++ [0, 0])) s = .next t ∧
      t.answered ch St.OK [] ∧ t.candValid n = false ∧ t.fld F.REF_CFG_PRIO n = 7 ∧ t.fld F.REF_CFG_RASTER n = 3 ∧ t.fld F.REF_CFG_RATE n = 5 ∧
      t.fld F.REF_QUAL_WTR n = 1023 ∧ t.fld F.REF_COMP_COMP n = 0x8000 ∧ (n ≤ 3 → t.fld F.REF_CFG_KIND n = s.fld F.REF_CFG_KIND n) ∧
      (4 ≤ n → t.fld F.REF_CFG_KIND n = 0)) ∧
    (∀ mode, mode < 4 →
      ∃ t, exec (.refSetLoop ch (leBytes 1 mode ++ [7, 3, 13, 12, 2, 255, 13, 0xFF, 0xFF, 63, 0] ++ leBytes 4 1000000 ++ leBytes 2 65535 ++ leBytes 2 1 ++ leBytes 4 (2 ^ 24 - 1))) s = .next t ∧
        t.answered ch St.OK [] ∧ t.fld F.REFS_CTRL_SEL_MODE 0 = mode ∧ t.fld F.REFS_CTRL_ACQ_BW 0 = 13 ∧ t.fld F.REFS_CTRL_TRK_BW 0 = 12 ∧
        t.fld F.REFS_LOCK_LOCK_PH 0 = 65535 ∧ t.fld F.REFS_SLOPE_SLOPE_LIM 0 = 1000000 ∧ t.fld F.HO_SPEC_HO_SPEC 0 = 2 ^ 24 - 1 ∧
        (mode < 2 → t.loopState = s.loopState ∧ s.restAnswered t) ∧ (mode = 2 → t.loopState = if s.refs.histOk then 4 else 0) ∧
        (mode = 3 → t.loopState = 0)) ∧
    (∃ t d, exec (.refGetStatus ch [0, 0, 0, 0]) s = .next t ∧ t.answered ch St.OK d ∧ d.length = 32 ∧ s.onlyAnswer t ch
      (refsHistFields.map fun f => f.key 0)) ∧
    (∀ k, k < 2 → s.on F.TL_CFG_ENABLE k = false →
      ∃ t, exec (.tlSet ch (leBytes 1 k ++ [if k = 0 then 2 else 3, 3, 1] ++ leBytes 2 16383 ++ [0, 0])) s = .next t ∧ t.answered ch St.OK [] ∧
        t.fld F.TL_CFG_ENABLE k = 1 ∧ t.fld F.TL_CFG_RATE k = (if k = 0 then 2 else 3) ∧ t.fld F.TL_CFG_SPL k = 16383 ∧
        s.onlyAnswer t ch [F.TL_CFG_ENABLE.key k, F.TL_CFG_RATE.key k, F.TL_CFG_RASTER.key k, F.TL_CFG_SPL.key k]) ∧
    (s.on F.TL_CFG_ENABLE 0 = true → s.fld F.TL_CFG_RATE 0 ≠ 2 →
      ∃ t, exec (.tlSet ch [0, 2, 3, 1, 1, 0, 0, 0]) s = .next t ∧ t.answered ch St.NOT_READY [] ∧ s.onlyAnswer t ch []) ∧
    (∀ j, j < 4 →
      ∃ t, exec (.fpSet ch (leBytes 1 j ++ [7, 15, 255] ++ leBytes 4 123456789 ++ leBytes 2 65535 ++ [0, 0])) s = .next t ∧
        (s.pinBad (fpPin j) = true → t.answered ch St.NOT_READY [] ∧ s.onlyAnswer t ch []) ∧
        (s.pinBad (fpPin j) = false → t.answered ch St.OK [] ∧ t.fld F.FP_CFG_EN j = 1 ∧ t.fld F.FP_CFG_DIV j = 15 ∧ t.fld F.FP_CFG_WIDTH j = 255 ∧
          t.fld F.FP_CFG_TOL j = 65535 ∧ t.fld F.FP_OFS_OFS j = 123456789 ∧
          (s.on F.FP_CFG_EN j = false → t.fp j = ⟨1, 15, 123456789, 0, none, (s.fp j).endRaw, false, 0⟩))) ∧
    ((∀ j < 4, s.pinBad (fpPin j) = false) → ∃ t d, exec (.fpRealign ch [15, 0, 0, 0]) s = .next t ∧ t.answered ch St.OK d ∧ d.length = 16 ∧ (∀ j < 4, (t.fp j).step = true) ∧ s.regsKept t []) ∧
    (s.takeArmed = false →
      ∃ t, exec (.timeUnsync ch [0xA5, 0xA5, 0, 0]) s = .next t ∧ t.answered ch St.OK [] ∧ t.synced = false ∧ t.fld F.TIME_HIST_UNSYNCED 0 = 1 ∧
        t.fld F.REFS_STATUS_TIME_SYNCED 0 = 0 ∧ t.time.adj = 0 ∧ t.time.now = s.time.now) ∧
    (s.takeArmed = true → ∃ t, exec (.timeUnsync ch [0xA5, 0xA5, 0, 0]) s = .next t ∧ t.answered ch St.NOT_READY [] ∧ s.onlyAnswer t ch []) ∧
    (∃ t, exec (.timeGet ch []) s = .next t ∧ t.answered ch St.OK s.timeBytes ∧ s.onlyAnswer t ch []) ∧
    (∀ n, n < 16 → s.pinBad (tmrPin 7) = false →
      ∃ t, exec (.tmrSet ch (leBytes 1 n ++ [0x0E, 7, 0] ++ leBytes 4 16777215 ++ leBytes 6 (2 ^ 48 - 1) ++ [0, 0] ++ leBytes 4 999999999 ++ leBytes 4 500 ++ leBytes 2 65535 ++ [0, 0])) s = .next t ∧
        t.answered ch St.OK [] ∧ t.fld F.TMR_CFG_ARM n = 0 ∧ t.fld F.TMR_CFG_PERIODIC n = 1 ∧ t.fld F.TMR_CFG_PIN n = 7 ∧ t.fld F.TMR_CFG_WIDTH n = 16777215 ∧
        t.tmrStart n = (2 ^ 48 - 1) * secUnit + 999999999 * nsUnit ∧ t.tmrPeriod n = 500 * nsUnit + 65535 * 2 ^ 32) ∧
    (∀ n, n < 16 →
      ∃ t, exec (.tmrSet ch (leBytes 1 n ++ [3, 0, 0, 4, 0, 0, 0] ++ zeroBytes 12 ++ leBytes 4 499 ++ leBytes 2 65535 ++ [0, 0])) s = .next t ∧
        t.answered ch St.BAD_ARG [] ∧ s.onlyAnswer t ch []) ∧
    (∀ n, n < 16 → ∃ t, exec (.capSet ch (leBytes 1 n ++ [63, 3, 1])) s = .next t ∧ t.answered ch St.OK [] ∧ t.fld F.CAP_CFG_SRC n = 63 ∧
      t.fld F.CAP_CFG_EDGE n = 3 ∧ t.fld F.CAP_CFG_EN n = 1 ∧ s.onlyAnswer t ch [F.CAP_CFG_SRC.key n, F.CAP_CFG_EDGE.key n, F.CAP_CFG_EN.key n]) ∧
    (∀ n, n < 16 → ∃ t, exec (.capRead ch (leBytes 1 n ++ [4, 0, 0])) s = .next t ∧ t.capQueue n = (s.capQueue n).drop 4 ∧ s.regsKept t [] ∧
      t.answered ch St.OK (leBytes 1 ((s.capQueue n).take 4).length ++ [0] ++ leBytes 2 (s.fld F.CAP_CFG_OVF_COUNT n) ++
        ((s.capQueue n).take 4).flatMap CapEntry.bytes))

/-- SLEW_LIM takes 1 to 200 whatever is written, and the arming of a timer whose period is too short is discarded with CFG_REJECTED (R107, R120). -/
def Obligations.SlewLimitAndShortPeriodsAreHeldOff : Prop :=
  ∀ (s : State), s.held = false →
    (∀ v : Word, s.reaches R.TIME_CTRL 0 → ∃ t, exec (.unsync v) s = .next t ∧
      t.fld F.TIME_CTRL_SLEW_LIM 0 = (if v.toNat % 256 = 0 then 1 else if 200 < v.toNat % 256 then 200 else v.toNat % 256)) ∧
    (∀ (v : Word) tie, s.reaches R.TIME_CTRL 0 → ∃ t, exec (.setGo v tie) s = .next t ∧
      t.fld F.TIME_CTRL_SLEW_LIM 0 = (if v.toNat % 256 = 0 then 1 else if 200 < v.toNat % 256 then 200 else v.toNat % 256)) ∧
    (∀ n (v : Word), n < 16 → s.reaches R.TMR_CFG n → v.toNat % 4 = 3 →
      s.fld F.TMR_PERIOD_NS_NS n * 2 ^ 48 + s.fld F.TMR_PERIOD_FRAC_FRAC n * 2 ^ 32 < (max 1 (v.toNat / 256) * 100 + 100) * 2 ^ 48 →
      ∃ t, exec (.tmrArm n v) s = .next t ∧ t.fld F.TIME_HIST_CFG_REJECTED 0 = 1 ∧
        s.onlyRegs t [F.TIME_HIST_CFG_REJECTED.key 0, F.BLK_REJECT_CNT_COUNT.key 1])

/-- A tick advances both counters; device time is set once while unsynchronised; the reads latch (R101, R102, R105, R109, R110, R111, R127, R128, section 03_clocks_and_device_time.md). -/
def Obligations.DeviceTimeCountsAndSets : Prop :=
  ∀ (s : State), s.held = false →
    (∃ t, exec .timeTick s = .next t ∧ t.time.raw = (s.time.raw + 1) % 2 ^ 64 ∧ t.time.now = nowWrap (Int.ofNat (s.time.now + nsUnit) + s.rateNow) ∧
      t.time.rate = s.time.rate ∧ t.time.adj = s.time.adj - s.slewTerm ∧ t.time.seenRate = s.time.rate ∧ t.time.seenAdj = t.time.adj ∧ { t with out := s.out, time := s.time } = s) ∧
    (∀ v : Word, s.reaches R.TIME_CTRL 0 → v.toNat / 512 % 2 = 1 → s.synced = false →
      ∃ t, exec (.setGo v false) s = .next t ∧ t.time.now = s.setValue ∧ t.time.adj = 0 ∧ t.time.rate = s.time.rate ∧ t.time.raw = s.time.raw ∧
        t.synced = true ∧ t.fld F.TIME_HIST_FIRST_SET 0 = 1 ∧ t.fld F.REFS_STATUS_TIME_SYNCED 0 = 1) ∧
    (∀ (v : Word) (tie : Bool), s.reaches R.TIME_CTRL 0 → v.toNat / 512 % 2 = 1 → tie = true ∨ s.synced = true →
      ∃ t, exec (.setGo v tie) s = .next t ∧ t.time = s.time ∧ t.fld F.TIME_HIST_SET_REJECTED 0 = 1) ∧
    (∀ v : Word, s.reaches R.TIME_CTRL 0 → v.toNat / 256 % 2 = 1 →
      ∃ t, exec (.unsync v) s = .next t ∧ t.synced = false ∧ t.time.adj = 0 ∧ t.time.now = s.time.now ∧ t.fld F.TIME_HIST_UNSYNCED 0 = 1 ∧
        t.fld F.REFS_STATUS_TIME_SYNCED 0 = 0) ∧
    (s.time.adj = 0 → s.time.adjDue = true →
      ∃ t, exec .timeAdjDone s = .next t ∧ t.fld F.TIME_HIST_ADJ_DONE 0 = 1 ∧ t.time = { s.time with adjDue := false } ∧
        s.regsKept t [F.TIME_HIST_ADJ_DONE.key 0]) ∧
    (s.time.adj ≠ 0 ∨ s.time.adjDue = false → ∃ t, exec .timeAdjDone s = .next t ∧ s.onlyRegs t []) ∧
    (s.reaches R.TIME_NS 0 → ∃ t, exec .timeNsRead s = .next t ∧ Out.read s.nowNs ∈ t.out ∧ t.fld F.TIME_SEC_LO_SEC 0 = s.nowSec % 2 ^ 32 ∧
      t.fld F.TIME_SEC_HI_SEC 0 = s.nowSec / 2 ^ 32 % 2 ^ 16 ∧ t.fld F.TIME_FRAC_FRAC 0 = s.nowFrac % 2 ^ 16 ∧
      s.onlyRegs t [F.TIME_SEC_LO_SEC.key 0, F.TIME_SEC_HI_SEC.key 0, F.TIME_FRAC_FRAC.key 0]) ∧
    (s.reaches R.TIME_RAW_LO 0 → ∃ t, exec .timeRawLoRead s = .next t ∧ Out.read (s.time.raw % 2 ^ 32) ∈ t.out ∧ t.fld F.TIME_RAW_HI_RAW 0 = s.time.raw / 2 ^ 32 % 2 ^ 32 ∧
      s.onlyRegs t [F.TIME_RAW_HI_RAW.key 0]) ∧
    (s.reaches R.TIME_RATE_LO 0 → ∃ t, exec .timeRateLoRead s = .next t ∧ Out.read (patternOf 48 s.time.seenRate % 2 ^ 32) ∈ t.out ∧
      t.fld F.TIME_RATE_HI_RATE 0 = patternOf 48 s.time.seenRate / 2 ^ 32 % 2 ^ 16 ∧ s.onlyRegs t [F.TIME_RATE_HI_RATE.key 0])

/-- A timer armed for the future waits, one armed for the past fires at once, a periodic one steps by its period; a capture unit queues up to four stamps (R117, R118, R119, R122, R123, R124, R125, section 03_clocks_and_device_time.md). -/
def Obligations.TimersAndCaptures : Prop :=
  ∀ (s : State) (n : Nat), s.held = false → n < 16 →
    (∀ v : Word, s.reaches R.TMR_CFG n → v.toNat % 2 = 0 → ∃ t, exec (.tmrArm n v) s = .next t ∧ t.fld F.TMR_CFG_ARM n = 0 ∧ t.fld F.TMR_CFG_PIN n = v.toNat / 8 % 8 ∧
      t.fld F.TMR_CFG_WIDTH n = max 1 (v.toNat / 256) ∧ t.time = s.time) ∧
    (∀ v : Word, s.reaches R.TMR_CFG n → v.toNat % 4 = 1 → s.time.now ≤ s.tmrStart n →
      ∃ t, exec (.tmrArm n v) s = .next t ∧ t.fld F.TMR_CFG_ARM n = 1 ∧ t.time.tmrNext.look n = s.tmrStart n ∧ t.fld F.TMR_HIST_FIRED 0 = s.fld F.TMR_HIST_FIRED 0) ∧
    (∀ v : Word, s.reaches R.TMR_CFG n → v.toNat % 4 = 1 → s.tmrStart n < s.time.now →
      ∃ t, exec (.tmrArm n v) s = .next t ∧ t.fld F.TMR_CFG_ARM n = 0 ∧ t.bitAt F.TMR_HIST_FIRED 0 n = true ∧ t.bitAt F.TMR_HIST_LATE 0 n = true ∧
        t.fld F.TMR_COUNT_COUNT n = (s.fld F.TMR_COUNT_COUNT n + 1) % 2 ^ 32) ∧
    (s.on F.TMR_CFG_ARM n = true → s.time.tmrNext.look n ≤ s.time.now →
      ∃ t, exec (.timerFire n) s = .next t ∧ t.bitAt F.TMR_HIST_FIRED 0 n = true ∧ t.fld F.TMR_COUNT_COUNT n = (s.fld F.TMR_COUNT_COUNT n + 1) % 2 ^ 32 ∧
        (s.pinBad (tmrPin (s.fld F.TMR_CFG_PIN n)) = false →
          Out.pulse n (if s.on F.TMR_CFG_PIN_EN n then some (s.fld F.TMR_CFG_PIN n) else none) (s.fld F.TMR_CFG_WIDTH n * 100) (s.tmrActive (s.fld F.TMR_CFG_PIN n)) ∈ t.out) ∧
        t.time.tmrEnd.look n = s.time.raw + s.fld F.TMR_CFG_WIDTH n * 100 ∧
        (s.on F.TMR_CFG_PERIODIC n = true → t.time.tmrNext.look n = s.time.tmrNext.look n + s.tmrPeriod n ∧ t.fld F.TMR_CFG_ARM n = 1) ∧
        (s.on F.TMR_CFG_PERIODIC n = false → t.fld F.TMR_CFG_ARM n = 0)) ∧
    (s.on F.TMR_CFG_ARM n = false ∨ s.time.now < s.time.tmrNext.look n → ∃ t, exec (.timerFire n) s = .next t ∧ s.onlyRegs t []) ∧
    (∀ rising quarters, s.on F.CAP_CFG_EN n = true → (s.fld F.CAP_CFG_EDGE n = 3 ∨ s.fld F.CAP_CFG_EDGE n = (if rising then 1 else 2)) →
      s.fld F.CAP_CFG_SRC n ≤ 11 ∨ 16 ≤ s.fld F.CAP_CFG_SRC n →
      ((s.capQueue n).length < 4 →
        ∃ t, exec (.captureEdge n rising quarters) s = .next t ∧ t.bitAt F.CAP_HIST_CAPTURED 0 n = true ∧ s.regsKept t [F.CAP_HIST_CAPTURED.key 0] ∧
          t.capQueue n = s.capQueue n ++
            [⟨s.nowSec, s.nowNs, if 1 ≤ s.fld F.CAP_CFG_SRC n ∧ s.fld F.CAP_CFG_SRC n ≤ 3 then quarters % 4 * 16384 else 0, rising⟩]) ∧
      (4 ≤ (s.capQueue n).length →
        ∃ t, exec (.captureEdge n rising quarters) s = .next t ∧ t.bitAt F.CAP_HIST_OVF 0 n = true ∧
          t.fld F.CAP_CFG_OVF_COUNT n = min (s.fld F.CAP_CFG_OVF_COUNT n + 1) 65535 ∧ s.onlyRegs t [F.CAP_CFG_OVF_COUNT.key n, F.CAP_HIST_OVF.key 0])) ∧
    (∀ rising quarters, s.on F.CAP_CFG_EN n = false → ∃ t, exec (.captureEdge n rising quarters) s = .next t ∧ s.onlyRegs t [])

/-- Windows within tolerance give lock, one outside loses it, and the loss of OSC_IN coasts every synthesizer that is on (R88, R89, R90, R91, R92, R93, R95, R132, R685, section 03_clocks_and_device_time.md). -/
def Obligations.SynthesizersLockAndCoast : Prop :=
  ∀ (s : State) (m : Nat), s.held = false → m < 8 →
    (∀ count, s.on F.PLL_CTRL_EN m = true → s.oscLost = false → s.pllState m = 1 → s.windowWithin m count 1 = true →
      s.fld F.PLL_LOCK_CFG_LOCK_CNT m ≤ (s.synth m).good + 1 → (s.synth m).paused = false →
      ∃ t, exec (.pllLockWindow m count) s = .next t ∧ t.pllState m = 2 ∧ t.fld F.PLL_HIST_LOCK_GAINED m = 1 ∧ (t.synth m).good = 0 ∧
        (t.synth m).lost = false ∧ (t.synth m).lockAt = some (s.time.now : Int) ∧ (s.fld F.PLL_CTRL_OUT_EN m = 1 → t.fld F.PLL_STATUS_OUT_ON m = 1)) ∧
    (∀ count, s.on F.PLL_CTRL_EN m = true → s.oscLost = false → s.pllState m = 1 → s.windowWithin m count 1 = true →
      (s.synth m).good + 1 < s.fld F.PLL_LOCK_CFG_LOCK_CNT m →
      ∃ t, exec (.pllLockWindow m count) s = .next t ∧ t.pllState m = 1 ∧ (t.synth m).good = (s.synth m).good + 1 ∧
        s.regsKept t (F.PLL_CTRL_VAL_CTRL.key m :: (List.range 8).map F.PLL_STATUS_REF_OK.key)) ∧
    (∀ count, s.on F.PLL_CTRL_EN m = true → s.oscLost = false → s.pllState m = 1 → s.windowWithin m count 1 = false →
      ∃ t, exec (.pllLockWindow m count) s = .next t ∧ t.pllState m = 1 ∧ (t.synth m).good = 0) ∧
    (∀ count, s.on F.PLL_CTRL_EN m = true → s.oscLost = false → s.pllState m = 2 → s.windowWithin m count 4 = false →
      ∃ t, exec (.pllLockWindow m count) s = .next t ∧ t.pllState m = 3 ∧ t.fld F.PLL_HIST_LOCK_LOST m = 1 ∧ (t.synth m).lost = true ∧
        t.fld F.PLL_STATUS_LOSS_COUNT m = min (s.fld F.PLL_STATUS_LOSS_COUNT m + 1) 65535 ∧ t.fld F.PLL_STATUS_OUT_ON m = s.fld F.PLL_STATUS_OUT_ON m ∧
        (m = 7 → t.fld F.BLK_FAULT_FAULT_LASTING 0 = 1)) ∧
    (∀ count, s.on F.PLL_CTRL_EN m = true → s.oscLost = false → s.pllState m = 2 → s.windowWithin m count 4 = true →
      ∃ t, exec (.pllLockWindow m count) s = .next t ∧ t.pllState m = 2 ∧ t.synth m = s.synth m ∧
        s.regsKept t (F.PLL_CTRL_VAL_CTRL.key m :: (List.range 8).map F.PLL_STATUS_REF_OK.key)) ∧
    (∀ count, s.on F.PLL_CTRL_EN m = false ∨ s.oscLost = true → ∃ t, exec (.pllLockWindow m count) s = .next t ∧ s.onlyRegs t []) ∧
    (s.on F.PLL_CTRL_EN m = true → s.pllState m ≠ 0 → s.pllState m ≠ 3 →
      ∃ t, exec .oscInLost s = .next t ∧ t.oscLost = true ∧ t.pllState m = 3 ∧ t.fld F.PLL_HIST_REF_LOST m = 1 ∧ t.fld F.PLL_HIST_LOCK_LOST m = 1 ∧
        t.fld F.PLL_STATUS_REF_OK m = 0 ∧ t.fld F.PLL_STATUS_OUT_ON m = s.fld F.PLL_STATUS_OUT_ON m ∧
        t.fld F.PLL_CTRL_VAL_CTRL m = s.fld F.PLL_CTRL_VAL_CTRL m) ∧
    (s.on F.PLL_CTRL_EN m = true → s.pllState m = 3 →
      ∃ t, exec .oscInReturn s = .next t ∧ t.oscLost = false ∧ t.pllState m = 1 ∧ t.fld F.PLL_STATUS_REF_OK m = 1 ∧
        t.fld F.PLL_STATUS_OUT_ON m = s.fld F.PLL_STATUS_OUT_ON m ∧ t.fld F.PLL_CTRL_VAL_CTRL m = s.fld F.PLL_CTRL_VAL_CTRL m) ∧
    ((s.synth m).lost = true → ∃ t, exec (.pllCoastTimeout m) s = .next t ∧ t.fld F.BLK_FAULT_FAULT_LASTING 3 = 1 ∧ (t.synth m).timedOut = true) ∧
    ((s.synth m).lost = false → ∃ t, exec (.pllCoastTimeout m) s = .next t ∧ s.onlyRegs t []) ∧
    (s.on F.PLL_CTRL_EN m = true → s.on F.PLL_CTRL_TRACK m = true → s.pllState m = 2 → (s.synth m).paused = false →
      ∃ t, exec (.pllTrackUpdate m) s = .next t ∧ s.regsKept t [] ∧
        (t.synth m).tracked = (Int.ofNat (s.pllWord m) + Int.ofNat (s.pllWord m) * s.rateNow / Int.ofNat (2 ^ 48) + (s.synth m).corrected).toNat) ∧
    (∀ count t0, s.on F.PLL_CTRL_EN m = true → s.on F.PLL_CTRL_TRACK m = true → s.pllState m = 2 → (s.synth m).lockAt = some t0 →
      ∃ t, exec (.pllCountCorrect m count) s = .next t ∧ s.regsKept t [] ∧
        (t.synth m).corrected = (s.cyclesAsked m (Int.ofNat s.time.now - t0) - Int.ofNat count) * Int.ofNat (s.pllDivs m * 2 ^ 32) / 50000) ∧
    (∀ count, s.pllState m ≠ 2 ∨ (s.synth m).lockAt = none → ∃ t, exec (.pllCountCorrect m count) s = .next t ∧ s.onlyRegs t [])

/-- A locked divider moves by at most 1,000 ppm, small synthesizers acquire anew on any write, and ramps run their segments or stop where they are (R96, R97, R98, R99, section 03_clocks_and_device_time.md). -/
def Obligations.DividersAndRampsAreGuarded : Prop :=
  ∀ (s : State) (m : Nat), s.held = false →
    (∀ v : Word, m < 4 → s.reaches R.PLL_N_INT m → s.pllState m = 2 → (s.synth m).paused = false →
      (Int.ofNat (v.toNat % 512 * 2 ^ 32 + s.fld F.PLL_N_FRAC_N_FRAC m) - Int.ofNat (s.pllWord m)).natAbs * 1000 ≤ s.pllWord m → s.fld F.PLL_N_FRAC_N_FRAC m < 2 ^ 32 →
      ∃ t, exec (.pllDividerWrite m 1 v) s = .next t ∧ t.pllState m = 2 ∧ t.fld F.PLL_N_INT_N_INT m = v.toNat % 512 ∧
        t.fld F.PLL_N_FRAC_N_FRAC m = s.fld F.PLL_N_FRAC_N_FRAC m ∧ s.regsKept t [F.PLL_N_INT_N_INT.key m, F.PLL_N_FRAC_N_FRAC.key m]) ∧
    (∀ v : Word, m < 4 → s.reaches R.PLL_N_FRAC m → s.pllState m = 2 → (s.synth m).paused = false →
      (Int.ofNat (s.fld F.PLL_N_INT_N_INT m * 2 ^ 32 + v.toNat) - Int.ofNat (s.pllWord m)).natAbs * 1000 ≤ s.pllWord m → s.fld F.PLL_N_INT_N_INT m < 512 →
      ∃ t, exec (.pllDividerWrite m 2 v) s = .next t ∧ t.pllState m = 2 ∧ t.fld F.PLL_N_FRAC_N_FRAC m = v.toNat ∧
        t.fld F.PLL_N_INT_N_INT m = s.fld F.PLL_N_INT_N_INT m ∧ s.regsKept t [F.PLL_N_INT_N_INT.key m, F.PLL_N_FRAC_N_FRAC.key m]) ∧
    (∀ v : Word, m < 4 → s.reaches R.PLL_N_INT m → s.pllState m = 2 →
      s.pllWord m < (Int.ofNat (v.toNat % 512 * 2 ^ 32 + s.fld F.PLL_N_FRAC_N_FRAC m) - Int.ofNat (s.pllWord m)).natAbs * 1000 →
      ∃ t, exec (.pllDividerWrite m 1 v) s = .next t ∧ t.fld F.PLL_HIST_WRITE_REJECTED m = 1 ∧ s.onlyRegs t [F.PLL_HIST_WRITE_REJECTED.key m]) ∧
    (∀ (v : Word) which, m < 4 → s.reaches (pllReg which) m → s.pllState m = 4 →
      ∃ t, exec (.pllDividerWrite m which v) s = .next t ∧ t.fld F.PLL_HIST_WRITE_REJECTED m = 1 ∧ s.onlyRegs t [F.PLL_HIST_WRITE_REJECTED.key m]) ∧
    (∀ v : Word, 4 ≤ m → m ≤ 6 → s.reaches R.PLL_N_INT m → s.on F.PLL_CTRL_EN m = true →
      ∃ t, exec (.pllSmallWrite m 1 v) s = .next t ∧ t.pllState m = 1 ∧ t.fld F.PLL_STATUS_OUT_ON m = 0 ∧ (t.synth m).good = 0 ∧
        s.regsKept t [F.PLL_N_INT_N_INT.key m, F.PLL_STATUS_STATE.key m, F.PLL_STATUS_OUT_ON.key m, F.PLL_STATUS_RAMP_SEG.key m]) ∧
    (∀ v : Word, v.toNat % 2 = 1 → m < 4 → s.reaches R.PLL_RAMP_GO m → s.pllState m = 2 → s.pllWordOk m (s.rampTarget m 0) = true →
      ∃ t, exec (.rampGo m v) s = .next t ∧ t.pllState m = 4 ∧ t.fld F.PLL_STATUS_RAMP_SEG m = 0 ∧ (t.synth m).word = s.pllWord m ∧
        s.regsKept t [F.PLL_STATUS_STATE.key m, F.PLL_STATUS_RAMP_SEG.key m]) ∧
    (∀ v : Word, v.toNat % 2 = 1 → m < 4 → s.reaches R.PLL_RAMP_GO m → s.pllState m = 2 → s.pllWordOk m (s.rampTarget m 0) = false →
      ∃ t, exec (.rampGo m v) s = .next t ∧ t.pllState m = 2 ∧ t.fld F.PLL_HIST_WRITE_REJECTED m = 1) ∧
    (∀ v : Word, s.reaches R.PLL_RAMP_GO m → v.toNat % 2 = 0 ∨ s.pllState m ≠ 2 → ∃ t, exec (.rampGo m v) s = .next t ∧ s.onlyRegs t []) ∧
    (m < 4 → s.pllState m = 4 → (s.synth m).holding = false → s.fld F.PLL_STATUS_RAMP_SEG m < 4 →
      ∃ t, exec (.pllTrackUpdate m) s = .next t ∧
        (t.synth m).word = toward (s.synth m).word (s.rampTarget m (s.fld F.PLL_STATUS_RAMP_SEG m)) (max 1 (s.fld F.RAMP_STEP_STEP (4 * m + s.fld F.PLL_STATUS_RAMP_SEG m))) ∧
        s.regsKept t []) ∧
    (m < 4 → s.pllState m = 4 → (s.synth m).holding = true → s.fld F.PLL_STATUS_RAMP_SEG m = 3 → (s.synth m).word < 512 * 2 ^ 32 →
      ∃ t, exec (.rampHoldEnd m) s = .next t ∧ t.pllState m = 2 ∧ t.fld F.PLL_HIST_RAMP_DONE m = 1 ∧ t.pllWord m = (s.synth m).word) ∧
    (s.pllState m ≠ 4 → ∃ t, exec (.rampHoldEnd m) s = .next t ∧ s.onlyRegs t []) ∧
    (∀ v : Word, v.toNat / 2 % 2 = 1 → m < 4 → s.reaches R.PLL_RAMP_GO m → s.pllState m = 4 → (s.synth m).word < 512 * 2 ^ 32 →
      ∃ t, exec (.rampAbort m v) s = .next t ∧ t.pllState m = 2 ∧ t.pllWord m = (s.synth m).word ∧ t.fld F.PLL_HIST_RAMP_DONE m = s.fld F.PLL_HIST_RAMP_DONE m) ∧
    (∀ v : Word, s.reaches R.PLL_RAMP_GO m → v.toNat / 2 % 2 = 0 ∨ s.ramping m = false → ∃ t, exec (.rampAbort m v) s = .next t ∧ s.onlyRegs t [])

/-- A lane in service retrains on a fault, returns to service or fails for good, hunts its rate, and follows its power and loopback settings (R141, R155, R156, R157, R161, R162, R176, R178, section 04_serial_lanes.md). -/
def Obligations.LaneFaultsRetrainAndRecover : Prop :=
  ∀ (s : State) (l : Nat), s.held = false → l ≤ 344 →
    (∀ kind, (324 ≤ l ∧ l < 332) ∨ l = 344 → kind < 2 → s.laneFit l → s.laneState l = 6 → s.fld F.LANE_CTRL_POWER l = 0 → s.laneHeld l = false →
      ∃ t, exec (.laneCondition l kind) s = .next t ∧ t.fld (if kind = 0 then F.LANE_HIST_LOS else F.LANE_HIST_LOL) l = 1 ∧
        t.fld F.LANE_STATUS_CDR_LOCK l = 0 ∧ (kind = 0 → t.fld F.LANE_STATUS_SIG_DET l = 0) ∧
        t.laneState l = (if s.on F.LANE_CTRL_AUTO_RETRAIN l then 7 else 3) ∧ (s.on F.LANE_CTRL_AUTO_RETRAIN l = true → (t.lane l).faulted = true) ∧
        (s.on F.ETH_STATUS_LINK_UP (if l = 344 then 8 else l - 324) = true → t.on F.ETH_STATUS_LINK_UP (if l = 344 then 8 else l - 324) = false) ∧
        (∀ j, j ≠ l → t.lane j = s.lane j ∧ (j ≤ 344 → t.laneState j = s.laneState j))) ∧
    (∀ kind, l < 128 → kind < 2 →
      ∃ t, exec (.laneCondition l kind) s = .next t ∧ t.fld (if kind = 0 then F.LANE_HIST_LOS else F.LANE_HIST_LOL) l = 1 ∧
        t.fld F.LANE_STATUS_CDR_LOCK l = 0 ∧ (t.lane l).losses = (s.lane l).losses + 1) ∧
    (∀ kind, (l < 128 ∧ kind = 2 ∧ s.on F.LANE_STATUS_PAM4 l = false) ∨ (128 ≤ l ∧ l < 256 ∧ kind ≠ 1) →
      ∃ t, exec (.laneCondition l kind) s = .next t ∧ s.onlyRegs t []) ∧
    (∀ v : Word, v.toNat / 128 % 2 = 1 → laneRetrains l = true → s.reaches R.LANE_CTRL l → s.laneBist l = false → s.fld F.LANE_CTRL_POWER l = 0 →
      s.laneTesting l = false → 6 ≤ s.laneState l → s.laneState l ≠ 9 →
      ∃ t, exec (.retrain l v) s = .next t ∧ t.laneState l = 7 ∧ (t.lane l).faulted = false ∧ (t.lane l).trained = false) ∧
    (∀ v : Word, s.reaches R.LANE_CTRL l → l < 256 ∨ (332 ≤ l ∧ l < 344) → ∃ t, exec (.retrain l v) s = .next t ∧ s.onlyRegs t []) ∧
    (s.laneFit l → s.laneState l = 7 → s.laneSingle l = false →
      ∃ t, exec (.retrainEnd l true) s = .next t ∧ t.laneState l = 6 ∧ t.fld F.LANE_HIST_RETRAIN_OK l = 1 ∧ t.fld F.LANE_STATUS_CDR_LOCK l = 1 ∧
        (t.lane l).trained = true ∧ t.fld F.LANE_FAULT_CNT_TRANSIENT l =
          (if (s.lane l).faulted ∧ s.laneHeld l = false then min (s.fld F.LANE_FAULT_CNT_TRANSIENT l + 1) 65535 else s.fld F.LANE_FAULT_CNT_TRANSIENT l)) ∧
    (s.laneFit l → s.laneState l = 7 → s.laneHeld l = false →
      ∃ t, exec (.retrainEnd l false) s = .next t ∧ t.laneState l = 8 ∧ t.fld F.LANE_HIST_RETRAIN_FAIL l = 1 ∧ t.fld F.LANE_STATUS_LASTING l = 1 ∧
        t.fld F.BLK_FAULT_FAULT_LASTING 4 = 1 ∧ (t.lane l).retrying = true) ∧
    (s.laneFit l → s.laneState l = 7 → s.laneHeld l = true →
      ∃ t, exec (.retrainEnd l false) s = .next t ∧ t.laneState l = 3 ∧ t.fld F.LANE_HIST_RETRAIN_FAIL l = 1 ∧
        t.fld F.LANE_STATUS_LASTING l = s.fld F.LANE_STATUS_LASTING l ∧ t.fld F.BLK_FAULT_FAULT_LASTING 4 = s.fld F.BLK_FAULT_FAULT_LASTING 4) ∧
    (s.laneFit l → s.laneState l = 8 → (s.lane l).retrying = true → s.laneSingle l = false →
      ∃ t, exec (.lastingRetry l true) s = .next t ∧ t.laneState l = 6 ∧ t.fld F.LANE_STATUS_LASTING l = s.fld F.LANE_STATUS_LASTING l ∧
        (t.lane l).retrying = false) ∧
    (∃ t, exec (.lastingRetry l false) s = .next t ∧ t.lane l = s.lane l ∧ t.laneState l = s.laneState l ∧
      t.fld F.LANE_STATUS_LASTING l = s.fld F.LANE_STATUS_LASTING l) ∧
    (l < 128 → s.fld F.LANE_CTRL_RATE l = 15 → s.fld F.LANE_CTRL_POWER l = 0 → s.on F.LANE_STATUS_CDR_LOCK l = false →
      ∃ t, exec (.huntDwellEnd l) s = .next t ∧
        t.fld F.LANE_STATUS_RATE_NOW l = (if s.fld F.LANE_STATUS_RATE_NOW l = 0 ∨ 8 < s.fld F.LANE_STATUS_RATE_NOW l then 8 else s.fld F.LANE_STATUS_RATE_NOW l - 1) ∧
        s.regsKept t [F.LANE_STATUS_RATE_NOW.key l, F.LANE_STATUS_PAM4.key l, F.EYE_RESULT_VALID.key l, F.LANE_HIST_EYE_DONE.key l]) ∧
    (l < 128 → s.laneBist l = false → s.fld F.LANE_CTRL_POWER l = 0 → s.on F.LANE_STATUS_CDR_LOCK l = false → s.laneTesting l = false →
      ∃ t, exec (.laneLockGained l) s = .next t ∧ t.laneState l = 6 ∧ t.fld F.LANE_STATUS_CDR_LOCK l = 1 ∧ t.fld F.LANE_STATUS_SIG_DET l = 1 ∧
        t.fld F.LANE_STATUS_RATE_NOW l = (if s.fld F.LANE_CTRL_RATE l = 15 then s.fld F.LANE_STATUS_RATE_NOW l else s.fld F.LANE_CTRL_RATE l % 16)) ∧
    (∀ v : Word, (324 ≤ l ∧ l < 332) ∨ l = 344 → s.reaches R.LANE_CTRL l → s.laneBist l = false → v.toNat % 4 = 3 → s.fld F.LANE_CTRL_POWER l ≠ 3 →
      ∃ t, exec (.lanePowerSet l v) s = .next t ∧ t.fld F.LANE_CTRL_POWER l = 3 ∧ t.laneState l = 0 ∧ t.fld F.LANE_STATUS_CDR_LOCK l = 0 ∧
        t.fld F.LANE_STATUS_SIG_DET l = 0 ∧ (t.lane l).trained = false ∧ (t.lane l).eye = false) ∧
    (∀ v : Word, (324 ≤ l ∧ l < 332) ∨ l = 344 ∨ l < 256 ∨ (l < 324 ∧ l % 4 ≠ 0) → s.reaches R.LANE_CTRL l → v.toNat % 4 = 2 →
      ∃ t, exec (.lanePowerSet l v) s = .next t ∧ t.fld F.LANE_HIST_CFG_REJECTED l = 1 ∧ t.fld F.LANE_CTRL_POWER l = s.fld F.LANE_CTRL_POWER l ∧
        t.laneState l = s.laneState l ∧ (l < 256 → s.onlyRegs t [F.LANE_HIST_CFG_REJECTED.key l, F.BLK_REJECT_CNT_COUNT.key 4])) ∧
    (∀ v : Word, (324 ≤ l ∧ l < 332) ∨ l = 344 → s.reaches R.LANE_CTRL l → s.laneBist l = false → s.fld F.LANE_CTRL_POWER l = 0 →
      s.fld F.LANE_CTRL_LB l = 0 → v.toNat / 256 % 4 = 1 →
      ∃ t, exec (.loopbackSet l v) s = .next t ∧ t.fld F.LANE_CTRL_LB l = 1 ∧ t.laneState l = 9 ∧ t.fld F.LANE_CTRL_LB_TX_ON l = v.toNat / 1024 % 2) ∧
    (∀ v : Word, l < 128 → s.reaches R.LANE_CTRL l → s.fld F.LANE_CTRL_LB l = 0 → v.toNat / 256 % 4 = 1 →
      ∃ t, exec (.loopbackSet l v) s = .next t ∧ t.fld F.LANE_CTRL_LB l = 1 ∧ t.fld F.LANE_CTRL_LB (128 + l) = 1) ∧
    (∀ v : Word, s.reaches R.LANE_CTRL l → 332 ≤ l → l < 344 →
      (∃ t, exec (.loopbackSet l v) s = .next t ∧ s.onlyRegs t []) ∧ ∃ t, exec (.lanePowerSet l v) s = .next t ∧ s.onlyRegs t [])

/-- Equaliser writes freeze and load, an eye measurement ends once, the checker counts in sync, and the lane commands answer (R152, R153, R165, R167, R168, R169, R170, R172, R174, R184, section 04_serial_lanes.md). -/
def Obligations.EqualisersEyesAndCheckersAct : Prop :=
  ∀ (s : State) (l ch : Nat), s.held = false → l ≤ 344 →
    (∀ v : Word, s.reaches R.RX_EQ l → s.laneState l ≠ 4 → s.laneState l ≠ 7 →
      ∃ t, exec (.freezeWrite l v) s = .next t ∧ t.fld F.RX_EQ_FREEZE l = v.toNat / 2 ^ 16 % 2 ∧ t.fld F.LANE_STATUS_FROZEN l = v.toNat / 2 ^ 16 % 2 ∧
        (t.lane l).wroteEq = v.toNat % 2 ^ 11 ∧
        s.regsKept t [F.RX_EQ_FREEZE.key l, F.LANE_STATUS_FROZEN.key l, F.RX_EQ_CTLE.key l, F.RX_EQ_VGA.key l, F.RX_DFE_A_TAP1_4.key l, F.RX_DFE_B_TAP5_8.key l]) ∧
    (∀ v : Word, s.reaches R.RX_EQ l → s.laneState l = 4 ∨ s.laneState l = 7 →
      ∃ t, exec (.freezeWrite l v) s = .next t ∧ t.fld F.RX_EQ_FREEZE l = v.toNat / 2 ^ 16 % 2 ∧ s.regsKept t [F.RX_EQ_FREEZE.key l]) ∧
    (∀ v : Word, s.reaches R.RX_EQ l → v.toNat / 2 ^ 16 % 4 = 3 →
      ∃ t, exec (.rxEqLoad l v) s = .next t ∧ (laneHasCtle l = true → t.fld F.RX_EQ_CTLE l = v.toNat % 32) ∧
        (laneHasVga l = true → t.fld F.RX_EQ_VGA l = v.toNat / 32 % 64) ∧
        (laneHasDfe l = true → t.fld F.RX_DFE_A_TAP1_4 l = (s.lane l).wroteA % 2 ^ 32 ∧ t.fld F.RX_DFE_B_TAP5_8 l = (s.lane l).wroteB % 2 ^ 32)) ∧
    (∀ v : Word, s.reaches R.RX_EQ l → v.toNat / 2 ^ 16 % 4 = 2 →
      ∃ t, exec (.rxEqLoad l v) s = .next t ∧ t.fld F.LANE_HIST_CFG_REJECTED l = 1 ∧
        (adaptState (s.laneState l) = false → t.fld F.RX_EQ_CTLE l = s.fld F.RX_EQ_CTLE l ∧ t.fld F.RX_EQ_VGA l = s.fld F.RX_EQ_VGA l)) ∧
    (∀ v : Word, s.reaches R.EYE_CFG l → laneHasEye l = true → s.on F.LANE_STATUS_PAM4 l = false ∨ v.toNat / 4 % 4 ≠ 3 → v.toNat % 2 = 1 → (s.lane l).eye = false →
      ∃ t, exec (.eyeGo l v) s = .next t ∧ (t.lane l).eye = true ∧ t.fld F.EYE_CFG_MODE l = v.toNat / 2 % 2 ∧ t.fld F.EYE_CFG_PHASE l = v.toNat / 2 ^ 16 % 256 ∧
        s.regsKept t [F.EYE_CFG_MODE.key l, F.EYE_CFG_EYE.key l, F.EYE_CFG_DWELL.key l, F.EYE_CFG_PHASE.key l, F.EYE_CFG_VOLT.key l]) ∧
    (∀ v : Word, s.reaches R.EYE_CFG l → laneHasEye l = false →
      ∃ t, exec (.eyeGo l v) s = .next t ∧ t.fld F.LANE_HIST_CFG_REJECTED l = 1 ∧ s.onlyRegs t [F.LANE_HIST_CFG_REJECTED.key l, F.BLK_REJECT_CNT_COUNT.key 4]) ∧
    (∀ w h errs, s.laneHas l = true → (s.lane l).eye = true → s.on F.EYE_CFG_MODE l = false →
      ∃ t, exec (.eyeMeasurementEnd l w h errs true) s = .next t ∧ (t.lane l).eye = false ∧ t.fld F.EYE_RESULT_W l = w % 256 ∧ t.fld F.EYE_RESULT_H l = h % 256 ∧
        t.fld F.EYE_RESULT_VALID l = 1 ∧ t.fld F.LANE_HIST_EYE_DONE l = 1) ∧
    (∀ w h errs, s.laneHas l = true → (s.lane l).eye = true →
      ∃ t, exec (.eyeMeasurementEnd l w h errs false) s = .next t ∧ (t.lane l).eye = false ∧ t.fld F.EYE_RESULT_VALID l = 0 ∧ t.fld F.LANE_HIST_EYE_DONE l = 1 ∧
        (l < 256 → s.laneTesting l = false → s.laneState l ≠ 9 → s.regsKept t [F.EYE_RESULT_VALID.key l, F.LANE_HIST_EYE_DONE.key l])) ∧
    (∀ w h errs full, l < 256 → (s.lane l).eye = false → ∃ t, exec (.eyeMeasurementEnd l w h errs full) s = .next t ∧ s.onlyRegs t []) ∧
    (∀ bits, s.laneHas l = true → s.on F.PAT_CFG_CHK_EN l = true → s.on F.PAT_CFG_IN_SYNC l = false → laneClass l ≠ .mediaTx → s.fld F.LANE_CTRL_POWER l = 0 →
      bits.length = 64 → (s.pattern l (s.fld F.PAT_CFG_CHK_PAT l)).follows bits = true →
      ∃ t, exec (.checkerSync l bits) s = .next t ∧ t.fld F.PAT_CFG_IN_SYNC l = 1 ∧ t.fld F.LANE_HIST_CHK_SYNC l = 1 ∧
        (l < 128 → s.onlyRegs t [F.PAT_CFG_IN_SYNC.key l, F.LANE_HIST_CHK_SYNC.key l])) ∧
    (∀ bits, l < 256 → (s.pattern l (s.fld F.PAT_CFG_CHK_PAT l)).follows bits = false →
      ∃ t, exec (.checkerSync l bits) s = .next t ∧ s.onlyRegs t []) ∧
    (∀ errs units window, s.laneHas l = true → s.on F.PAT_CFG_CHK_EN l = true → s.on F.PAT_CFG_IN_SYNC l = true → 65536 < 8 * window →
      ∃ t, exec (.checkerLost l errs units window) s = .next t ∧ t.fld F.PAT_CFG_IN_SYNC l = 0 ∧ t.fld F.LANE_HIST_CHK_LOST l = 1 ∧
        (t.lane l).errs = min ((s.lane l).errs + errs) (2 ^ 48 - 1) ∧ (t.lane l).bits = ((s.lane l).bits + units) % 2 ^ 64 ∧
        (l < 256 → s.regsKept t [F.PAT_CFG_IN_SYNC.key l, F.LANE_HIST_CHK_LOST.key l])) ∧
    (∀ errs units, s.reaches R.CHK_ERR_LO l → s.on F.PAT_CFG_IN_SYNC l = false →
      ∃ t, exec (.chkErrLoRead l errs units) s = .next t ∧ Out.read ((s.lane l).errs % 2 ^ 32) ∈ t.out ∧ t.fld F.CHK_ERR_HI_ERR l = (s.lane l).errs / 2 ^ 32 % 2 ^ 16 ∧
        t.fld F.CHK_BITS_LO_BITS l = (s.lane l).bits % 2 ^ 32 ∧ t.fld F.CHK_BITS_HI_BITS l = (s.lane l).bits / 2 ^ 32 % 2 ^ 32 ∧
        s.onlyRegs t [F.CHK_ERR_HI_ERR.key l, F.CHK_BITS_LO_BITS.key l, F.CHK_BITS_HI_BITS.key l]) ∧
    (∀ errs units, s.reaches R.CHK_ERR_LO l → s.on F.PAT_CFG_IN_SYNC l = true →
      ∃ t, exec (.chkErrLoRead l errs units) s = .next t ∧ (t.lane l).errs = min ((s.lane l).errs + errs) (2 ^ 48 - 1) ∧
        (t.lane l).bits = ((s.lane l).bits + units) % 2 ^ 64 ∧ Out.read ((t.lane l).errs % 2 ^ 32) ∈ t.out ∧
        t.fld F.CHK_BITS_LO_BITS l = (t.lane l).bits % 2 ^ 32) ∧
    (∀ v : Word, (128 ≤ l ∧ l < 256) ∨ (324 ≤ l ∧ l < 332) ∨ l = 344 → s.reaches R.PAT_CFG l → s.lifeCycle = 0 → s.fld F.LANE_CTRL_POWER l = 0 →
      v.toNat / 1024 % 2 = 1 → ∃ t, exec (.injErr l v) s = .next t ∧ Out.inverted l ∈ t.out) ∧
    (∀ v : Word, s.reaches R.PAT_CFG l → s.lifeCycle ≠ 0 → ∃ t, exec (.injErr l v) s = .next t ∧ s.onlyRegs t []) ∧
    (s.fld F.BIST_STATUS_SAFE 0 = 0 → s.laneHas l = true → s.laneTested l = false →
      ((324 ≤ l ∧ l < 332) ∨ l = 344 → s.laneServing l = false → s.laneBist l = false → s.fld F.LANE_CTRL_LB l = 0 → s.fld F.LANE_CTRL_POWER l = 0 →
        ∃ t, exec (.laneTest ch (leBytes 2 l ++ [0, 0x0C, 4, 4, 0xFF, 0] ++ leBytes 8 (2 ^ 64 - 1))) s = .next t ∧ t.answered ch St.OK [] ∧
          t.fld F.PAT_CFG_GEN_EN l = 1 ∧ t.fld F.PAT_CFG_CHK_EN l = 1 ∧ t.fld F.PAT_CFG_GEN_PAT l = 4 ∧ t.laneState l = 9) ∧
      (∀ errs units, s.on F.PAT_CFG_IN_SYNC l = false → (s.lane l).errs < 2 ^ 48 →
        ∃ t d, exec (.laneGetStats ch (leBytes 2 l ++ [0, 0]) errs units) s = .next t ∧ t.answered ch St.OK d ∧ d.length = 40 ∧ le d 8 8 = (s.lane l).errs ∧
          s.regsKept t [F.LANE_SNR_SNR.key l, F.RX_EQ_CTLE.key l, F.RX_EQ_VGA.key l, F.RX_DFE_A_TAP1_4.key l, F.RX_DFE_B_TAP5_8.key l]) ∧
      (laneClass l ≠ .pcie → s.laneState l ≠ 4 → s.laneState l ≠ 7 →
        ∃ t d, exec (.laneSetEq ch (leBytes 2 l ++ [11, 0, 0, 0, 64, 0, 31, 63, 0, 0] ++ leBytes 4 0xA1B2C3D4 ++ leBytes 4 (2 ^ 32 - 1))) s = .next t ∧
          t.answered ch St.OK d ∧ (laneHasCtle l = true → t.fld F.RX_EQ_CTLE l = 31) ∧ (laneHasVga l = true → t.fld F.RX_EQ_VGA l = 63) ∧
          (laneHasDfe l = true → t.fld F.RX_DFE_A_TAP1_4 l = 0xA1B2C3D4) ∧ t.fld F.RX_EQ_FREEZE l = 1 ∧ t.fld F.LANE_STATUS_FROZEN l = 1 ∧
          t.fld F.TX_EQ_MAIN l = 64) ∧
      (laneHasEye l = true → s.laneServing l = false →
        ∃ t, exec (.laneEye ch (leBytes 2 l ++ [0, 16, 1, 5, 6, 0])) s = .next t ∧ t.answered ch St.ACCEPTED [] ∧ (t.lane l).eye = true ∧
          t.fld F.EYE_CFG_PHASE l = 5 ∧ t.fld F.EYE_CFG_VOLT l = 6)) ∧
    (∀ errs units, ∃ t, exec (.laneGetStats ch [0x59, 1, 0, 0] errs units) s = .next t ∧ t.answered ch St.BAD_ARG [] ∧ s.onlyAnswer t ch [])

/-- A fabric port acquires on lane 0, trains four lanes at the agreed rate, verifies, and falls back to lower rates and to lane 0 alone (R145, R146, R301, R303, R373, section 04_serial_lanes.md, section 09_heulric_link_format.md). -/
def Obligations.FabricPortsComeUp : Prop :=
  ∀ (s : State) (q : Nat), s.held = false → q < 17 → (∀ k, k < 4 → s.laneFit (256 + 4 * q + k)) →
    ((s.port q).state = 0 → q + 2 ≤ s.fld F.FAB_CFG_N 0 → s.dev.idInvalid = false → s.fld F.BIST_STATUS_SAFE 0 = 0 →
      ∃ t, exec (.fabPortEnable q) s = .next t ∧ (t.port q).state = 1 ∧ t.laneState (256 + 4 * q) = 3 ∧ t.fld F.LANE_CTRL_POWER (256 + 4 * q) = 0 ∧
        t.fld F.LANE_CTRL_RATE (256 + 4 * q) = 0 ∧ t.fld F.LANE_STATUS_CDR_LOCK (256 + 4 * q) = 0 ∧
        ∀ k, 1 ≤ k → k ≤ 3 → t.fld F.LANE_CTRL_POWER (256 + 4 * q + k) = 3) ∧
    (s.fld F.FAB_CFG_N 0 < q + 2 ∨ s.dev.idInvalid = true ∨ s.fld F.BIST_STATUS_SAFE 0 = 1 →
      ∃ t, exec (.fabPortEnable q) s = .next t ∧ t.port q = s.port q ∧ ∀ l, l ≤ 344 → t.laneState l = s.laneState l) ∧
    ((s.port q).state = 1 → s.fld F.LANE_CTRL_POWER (256 + 4 * q) = 0 →
      ∃ t, exec (.acquireTimeout q) s = .next t ∧ (t.port q).state = 1 ∧ t.laneState (256 + 4 * q) = 3 ∧ t.fld F.LANE_STATUS_CDR_LOCK (256 + 4 * q) = 0) ∧
    ((s.port q).state = 2 → (s.fport q).peerHello ≠ [] → (s.lane (256 + 4 * q)).frameCnt = le (s.fport q).peerHello 68 4 → (s.port q).rate ≤ 4 →
      ∃ t, exec (.rateSwitch q) s = .next t ∧ (t.port q).state = 3 ∧ (t.port q).fails = 0 ∧
        ∀ k, k < 4 → t.laneState (256 + 4 * q + k) = 4 ∧ t.fld F.LANE_STATUS_RATE_NOW (256 + 4 * q + k) = (s.port q).rate ∧ t.fld F.TX_EQ_MAIN (256 + 4 * q + k) = 64) ∧
    (∀ k, k < 4 → (s.port q).state = 3 → s.laneState (256 + 4 * q + k) = 4 → 4 ≤ (s.lane (256 + 4 * q + k)).readyRun →
      (∀ j, j < 4 → j ≠ k → (s.lane (256 + 4 * q + j)).trained = true) →
      ∃ t, exec (.laneTrained (256 + 4 * q + k)) s = .next t ∧ (t.port q).state = 4 ∧ ∀ j, j < 4 → t.laneState (256 + 4 * q + j) = 5) ∧
    (∀ k, k < 4 → (s.lane (256 + 4 * q + k)).readyRun < 4 → s.fld F.FAB_PORT_STATUS_PEER_STATE q = 0 → s.portLinked q = false →
      ∃ t, exec (.laneTrained (256 + 4 * q + k)) s = .next t ∧ s.onlyRegs t []) ∧
    ((s.port q).state = 4 →
      ∃ t, exec (.verifyEnd q 0) s = .next t ∧ (t.port q).state = 5 ∧
        ∀ k, k < 4 → t.laneState (256 + 4 * q + k) = 6 ∧ t.fld F.LANE_HIST_TRAIN_DONE (256 + 4 * q + k) = 1) ∧
    ((s.port q).state = 3 → (s.lane (256 + 4 * q)).trained = false → (s.port q).fails = 0 →
      ∃ t, exec (.trainTimeout q) s = .next t ∧ (t.port q).state = 3 ∧ (t.port q).fails = 1 ∧ (t.port q).rate = (s.port q).rate ∧
        t.fld F.LANE_HIST_RETRAIN_FAIL (256 + 4 * q) = 1 ∧ t.laneState (256 + 4 * q) = 4) ∧
    ((s.port q).state = 3 → (s.lane (256 + 4 * q)).trained = false → (s.port q).fails = 1 → 0 < (s.port q).rate →
      ∃ t, exec (.trainTimeout q) s = .next t ∧ (t.port q).state = 3 ∧ (t.port q).fails = 0 ∧ (t.port q).rate = (s.port q).rate - 1) ∧
    ((s.port q).state = 3 → (s.lane (256 + 4 * q)).trained = false → (s.port q).fails = 1 → (s.port q).rate = 0 →
      ∃ t, exec (.trainTimeout q) s = .next t ∧ (t.port q).state = 6 ∧ t.laneState (256 + 4 * q) = 10 ∧
        ∀ k, 1 ≤ k → k ≤ 3 → t.fld F.LANE_CTRL_POWER (256 + 4 * q + k) = 3) ∧
    ((s.port q).state = 6 → ∃ t, exec (.singleRetry q) s = .next t ∧ (t.port q).state = 1 ∧ t.laneState (256 + 4 * q) = 3)

/-- A serial receiver hunts when enabled, locks on two agreeing frames, counts bad lines, loses lock and goes off, as the receiver state table says (R191, R193, R195, R196, R197, R200, section 05_sdi_ports.md). -/
def Obligations.ReceiversHuntLockAndLose : Prop :=
  ∀ (s : State) (n : Nat), s.held = false → n < 128 →
    (∀ v : Word, s.reaches R.SDI_RX_CFG n → s.rxQuadMember n = true → v.toNat % 2 = 1 →
      ∃ t, exec (.sdiRxEnable n v) s = .next t ∧ t.fld F.SDI_RX_HIST_CFG_REJECTED n = 1 ∧
        s.onlyRegs t [F.SDI_RX_HIST_CFG_REJECTED.key n, F.BLK_REJECT_CNT_COUNT.key 5]) ∧
    (s.rxQuadMember n = false → s.reaches R.SDI_RX_CFG n →
      (∀ v : Word, v.toNat % 64 = 1 → s.on F.SDI_RX_CFG_EN n = false → s.rxState n = 0 → s.laneOn n = true →
        ∃ t, exec (.sdiRxEnable n v) s = .next t ∧ t.rxState n = 1 ∧ t.fld F.SDI_RX_CFG_EN n = 1 ∧ t.fld F.SDI_RX_CFG_FORMAT n = 0 ∧
          t.fld F.SDI_RX_CFG_ANC_MODE n = v.toNat / 128 % 4 ∧ t.fld F.LANE_CTRL_POWER n = 0 ∧ t.fld F.LANE_CTRL_RATE n = 15 ∧
          t.fld F.LANE_STATUS_RATE_NOW n = 8 ∧ (t.rx n).agree = 0) ∧
      (∀ v : Word, v.toNat % 2 = 0 → s.on F.SDI_RX_CFG_EN n = true → s.rxState n ≠ 2 → s.rxState n ≠ 0 →
        ∃ t, exec (.sdiRxDisable n v) s = .next t ∧ t.rxState n = 0 ∧ t.fld F.LANE_CTRL_POWER n = 3 ∧ t.fld F.SDI_RX_CFG_EN n = 0) ∧
      (∀ v : Word, v.toNat % 2 = 0 → s.on F.SDI_RX_CFG_EN n = true → s.rxState n = 2 → s.unchanged [F.SDI_RX_CFG_QUAD, F.SDI_RX_CFG_FORMAT] n v.toNat = true →
        s.on F.SDI_RX_CFG_QUAD n = false →
        ∃ t, exec (.sdiRxDisable n v) s = .next t ∧ t.rxState n = 2 ∧ (t.rx n).stopping = true ∧ t.fld F.SDI_RX_CFG_EN n = 0 ∧
          t.fld F.LANE_CTRL_POWER n = s.fld F.LANE_CTRL_POWER n) ∧
      (∀ v : Word, v.toNat % 2 = 1 → s.on F.SDI_RX_CFG_EN n = true → s.fld F.SDI_RX_CFG_FORMAT n ≠ v.toNat / 2 % 32 →
        ∃ t, exec (.sdiRxRestart n v) s = .next t ∧ t.rxState n = 1 ∧ t.fld F.SDI_RX_CFG_FORMAT n = v.toNat / 2 % 32) ∧
      (∀ v : Word, s.unchanged [F.SDI_RX_CFG_QUAD, F.SDI_RX_CFG_FORMAT] n v.toNat = true →
        ∃ t, exec (.sdiRxRestart n v) s = .next t ∧ s.onlyRegs t [])) ∧
    (s.rxQuadMember n = false → s.rxLive n = true →
      (∀ m : RxFrame, s.rxState n = 1 → (s.rx n).last = none →
        ∃ t, exec (.sdiRxFrame n m) s = .next t ∧ t.rxState n = 1 ∧ (t.rx n).last = some m ∧ (t.rx n).agree = 1) ∧
      (∀ a m : RxFrame, s.rxState n = 1 → (s.rx n).last = some a → rxAgree a m = true → rxFormat (s.on F.SDI_RX_CFG_QUAD n) (s.rxRate n) m ≠ 0 →
        rxSampleBad m = false → rxQuadBad (s.on F.SDI_RX_CFG_QUAD n) m = false →
        s.fld F.SDI_RX_CFG_FORMAT n = 0 ∨ s.fld F.SDI_RX_CFG_FORMAT n = rxFormat (s.on F.SDI_RX_CFG_QUAD n) (s.rxRate n) m →
        ∃ t, exec (.sdiRxFrame n m) s = .next t ∧ t.rxState n = 2 ∧
          t.fld F.SDI_RX_STATUS_FMT_NOW n = rxFormat (s.on F.SDI_RX_CFG_QUAD n) (s.rxRate n) m ∧
          t.fld F.SDI_RX_HIST_LOCK_GAINED n = 1 ∧ (t.rx n).live = true) ∧
      (∀ a m : RxFrame, s.rxState n = 1 → (s.rx n).last = some a → rxAgree a m = true → rxFormat (s.on F.SDI_RX_CFG_QUAD n) (s.rxRate n) m = 0 →
        ∃ t, exec (.sdiRxFrame n m) s = .next t ∧ t.rxState n = 3 ∧ (s.fld F.SDI_RX_CFG_FORMAT n ≠ 0 → t.fld F.SDI_RX_HIST_FMT_MISMATCH n = 1)) ∧
      (∀ m : RxFrame, s.rxState n = 2 → (s.rx n).stopping = true → (s.rx n).live = true → s.on F.SDI_RX_CFG_EN n = false →
        ∃ t, exec (.sdiRxFrame n m) s = .next t ∧ t.rxState n = 0 ∧ Out.frameIn n true ∈ t.out ∧ t.fld F.LANE_CTRL_POWER n = 3) ∧
      (∀ num, s.rxState n = 2 →
        ∃ t, exec (.sdiRxLine n true false num) s = .next t ∧
          t.fld F.SDI_RX_CRC_CNT_COUNT n =
            (if fmtSD (s.fld F.SDI_RX_STATUS_FMT_NOW n) then s.fld F.SDI_RX_CRC_CNT_COUNT n else min (s.fld F.SDI_RX_CRC_CNT_COUNT n + 1) (2 ^ 32 - 1)) ∧
          (fmtSD (s.fld F.SDI_RX_STATUS_FMT_NOW n) = false → t.fld F.SDI_RX_HIST_CRC_ERR n = 1) ∧
          ((s.rx n).live = true → Out.lineIn n ∈ t.out) ∧ t.rxState n = 2 ∧ (t.rx n).trsRun = 0) ∧
      (∀ crc num, s.rxState n = 2 → (s.rx n).trsRun = 7 → (s.rx n).stopping = false →
        ∃ t, exec (.sdiRxLine n crc true num) s = .next t ∧ t.rxState n = 1 ∧ t.fld F.SDI_RX_HIST_LOCK_LOST n = 1 ∧ t.fld F.SDI_RX_HIST_TRS_ERR n = 1) ∧
      (∀ kind, s.rxState n = 2 →
        ∃ t, exec (.ancPacketRx n kind true) s = .next t ∧ t.fld F.SDI_RX_ANC_CNT_COUNT n = min (s.fld F.SDI_RX_ANC_CNT_COUNT n + 1) (2 ^ 32 - 1) ∧
          t.fld F.SDI_RX_HIST_ANC_CSUM_ERR n = 1 ∧ s.regsKept t [F.SDI_RX_ANC_CNT_COUNT.key n, F.SDI_RX_HIST_ANC_CSUM_ERR.key n]) ∧
      (∀ pkt, s.rxState n = 2 → s.fld F.SDI_RX_CFG_ANC_MODE n = 1 →
        ∃ t, exec (.ancPacketRx n (.other pkt) false) s = .next t ∧ Out.ancIn n pkt ∈ t.out ∧ s.regsKept t [])) ∧
    (∀ m kind bad crc trs num, s.rxState n = 0 → (∃ t, exec (.sdiRxFrame n m) s = .next t ∧ s.onlyRegs t []) ∧
      (∃ t, exec (.sdiRxLine n crc trs num) s = .next t ∧ s.onlyRegs t []) ∧ ∃ t, exec (.ancPacketRx n kind bad) s = .next t ∧ s.onlyRegs t [])

/-- A serial output starts, sends its source, black or its no-source output, and stops at frame ends; a crew's clock changes only with no transmitter on (R191, R206, R207, R211, R213, section 05_sdi_ports.md). -/
def Obligations.TransmittersSendAndStop : Prop :=
  ∀ (s : State) (n : Nat), s.held = false → n < 128 →
    (s.txQuadMember n = false → s.reaches R.SDI_TX_CFG n →
      (∀ v : Word, v.toNat % 2 = 1 → s.on F.SDI_TX_CFG_EN n = false → s.txState n = 0 → v.toNat / 2 % 32 ≠ 0 →
        (s.fmtForCrew (n / 8) (v.toNat / 2 % 32) = true → s.laneOn (128 + n) = true →
          ∃ t, exec (.sdiTxEnable n v) s = .next t ∧ t.txState n = 1 ∧ t.fld F.SDI_TX_CFG_EN n = 1 ∧ t.fld F.SDI_TX_CFG_FORMAT n = v.toNat / 2 % 32 ∧
            t.fld F.LANE_CTRL_POWER (128 + n) = 0) ∧
        (s.fmtForCrew (n / 8) (v.toNat / 2 % 32) = false →
          ∃ t, exec (.sdiTxEnable n v) s = .next t ∧ t.txState n = 0 ∧ t.fld F.SDI_TX_CFG_EN n = s.fld F.SDI_TX_CFG_EN n ∧
            t.fld F.SDI_TX_HIST_CFG_REJECTED n = 1 ∧ t.fld F.LANE_CTRL_POWER (128 + n) = s.fld F.LANE_CTRL_POWER (128 + n))) ∧
      (∀ v : Word, v.toNat % 2 = 1 → s.on F.SDI_TX_CFG_EN n = true → s.unchanged (sdiTxHeldFields n) n v.toNat = false →
        ∃ t, exec (.sdiTxEnable n v) s = .next t ∧ t.fld F.SDI_TX_HIST_CFG_REJECTED n = 1 ∧ t.fld F.SDI_TX_CFG_FORMAT n = s.fld F.SDI_TX_CFG_FORMAT n ∧
          t.txState n = s.txState n) ∧
      (∀ v : Word, v.toNat % 2 = 0 → s.on F.SDI_TX_CFG_EN n = true → s.txState n = 1 →
        ∃ t, exec (.sdiTxDisable n v) s = .next t ∧ t.txState n = 0 ∧ t.fld F.SDI_TX_HIST_STOPPED n = 1 ∧ t.fld F.SDI_TX_CFG_EN n = 0 ∧
          t.fld F.LANE_CTRL_POWER (128 + n) = 3) ∧
      (∀ v : Word, v.toNat % 2 = 0 → s.on F.SDI_TX_CFG_EN n = true → 2 ≤ s.txState n →
        ∃ t, exec (.sdiTxDisable n v) s = .next t ∧ t.txState n = s.txState n ∧ (t.tx n).stopping = true ∧ t.fld F.SDI_TX_CFG_EN n = 0)) ∧
    (s.txQuadMember n = false →
      (∀ frame off live, s.txState n = 1 → s.fld F.COX_TGT_VID_VID_SRC n = noStream → s.txNext n frame 1 = true →
        ∃ t, exec (.sdiTxLine n frame 1 off live) s = .next t ∧ t.fld F.SDI_TX_HIST_STARTED n = 1 ∧ t.txState n = 3 ∧
          t.fld F.SDI_TX_HIST_NOSRC_ENTERED n = 1 ∧ (t.tx n).frame = frame ∧ (t.tx n).line = 1) ∧
      (∀ frame line off live, 2 ≤ line → line ≤ fmtWireLines (s.fld F.SDI_TX_CFG_FORMAT n) → (s.tx n).frame = frame → (s.tx n).line + 1 = line →
        s.txState n = 2 → (s.tx n).stopping = false → (s.txLanes n).all s.laneSends = true →
        ∃ t, exec (.sdiTxLine n frame line off live) s = .next t ∧
          (∃ x : LineSent, Out.lineOut n frame line x ∈ t.out ∧ x.kind = (if (s.lineGot (s.vidAt n frame line) (rowsOnLine (s.fld F.SDI_TX_CFG_FORMAT n) line
            (s.on F.SDI_TX_CFG_QUAD n && !s.on F.SDI_TX_CFG_DIV_2SI n)) live).all Option.isSome then 0 else 1) ∧
            t.fld F.SDI_TX_SUBST_CNT_COUNT n = (if x.kind = 1 then min (s.fld F.SDI_TX_SUBST_CNT_COUNT n + 1) (2 ^ 32 - 1) else s.fld F.SDI_TX_SUBST_CNT_COUNT n) ∧
            (x.kind = 1 → t.fld F.SDI_TX_HIST_LINE_SUBST n = 1)) ∧
          (t.tx n).line = line ∧ s.regsKept t [F.SDI_TX_HIST_LINE_SUBST.key n, F.SDI_TX_SUBST_CNT_COUNT.key n]) ∧
      (∀ frame line off live, 2 ≤ line → line ≤ fmtWireLines (s.fld F.SDI_TX_CFG_FORMAT n) → (s.tx n).frame = frame → (s.tx n).line + 1 = line →
        s.txState n = 3 → (s.tx n).stopping = false → (s.txLanes n).all s.laneSends = true →
        ∃ t, exec (.sdiTxLine n frame line off live) s = .next t ∧
          (∃ x : LineSent, Out.lineOut n frame line x ∈ t.out ∧
            x.kind = (if (s.tx n).look.nosrc = 1 then 3 else if (s.tx n).look.nosrc = 2 then 4 else 2)) ∧ s.regsKept t []) ∧
      (∀ frame line off live, line = fmtWireLines (s.fld F.SDI_TX_CFG_FORMAT n) → s.txNext n frame line = true → 2 ≤ line → 2 ≤ s.txState n → s.txState n ≤ 3 →
        (s.tx n).stopping = true → s.on F.SDI_TX_CFG_EN n = false →
        ∃ t, exec (.sdiTxLine n frame line off live) s = .next t ∧ t.txState n = 0 ∧ t.fld F.SDI_TX_HIST_STOPPED n = 1 ∧ t.fld F.LANE_CTRL_POWER (128 + n) = 3)) ∧
    (∀ frame line off live, s.txState n = 0 ∨ s.txNext n frame line = false → ∃ t, exec (.sdiTxLine n frame line off live) s = .next t ∧ s.onlyRegs t []) ∧
    (∀ v : Word, s.reaches R.CREW_CFG (n / 8) → s.crewBusy (n / 8) = false →
      ∃ t, exec (.crewCfgWrite (n / 8) v) s = .next t ∧ t.fld F.CREW_CFG_SYNTH (n / 8) = v.toNat % 4 ∧ t.fld F.CREW_CFG_TL (n / 8) = v.toNat / 4 % 2 ∧
        s.onlyRegs t [F.CREW_CFG_SYNTH.key (n / 8), F.CREW_CFG_TL.key (n / 8)]) ∧
    (∀ v : Word, s.reaches R.CREW_CFG (n / 8) → s.crewBusy (n / 8) = true →
      ∃ t, exec (.crewCfgWrite (n / 8) v) s = .next t ∧ t.fld F.SDI_TX_HIST_CFG_REJECTED (8 * (n / 8)) = 1 ∧
        s.onlyRegs t [F.SDI_TX_HIST_CFG_REJECTED.key (8 * (n / 8)), F.BLK_REJECT_CNT_COUNT.key 6])

/-- The commands of the serial ports store their fields and start what they enable; a busy crew or an absent power domain is not ready (R189, R213, R217, R218, section 05_sdi_ports.md). -/
def Obligations.SerialPortCommandsAct : Prop :=
  ∀ (s : State) (ch n : Nat), s.held = false → n < 128 → s.fld F.BIST_STATUS_SAFE 0 = 0 → s.selftest 4 = false → s.selftest 5 = false → s.selftest 6 = false →
    (s.crewOn n = true →
      (s.rxQuadMember n = false → s.on F.SDI_RX_CFG_EN n = false → s.rxState n = 0 → s.laneBist n = false →
        ∃ t, exec (.sdiRxSet ch (leBytes 2 n ++ [5, 24, 2, 0, 0, 0] ++ leBytes 4 0x60016101 ++ zeroBytes 12)) s = .next t ∧ t.answered ch St.OK [] ∧
          t.rxState n = 1 ∧ t.fld F.SDI_RX_CFG_EN n = 1 ∧ t.fld F.SDI_RX_CFG_FORMAT n = 24 ∧ t.fld F.SDI_RX_CFG_ANC_MODE n = 2 ∧
          t.fld F.SDI_RX_ANC_LIST_DID_A (4 * n) = 1 ∧ t.fld F.SDI_RX_ANC_LIST_SDID_A (4 * n) = 0x61 ∧ t.fld F.SDI_RX_ANC_LIST_SDID_B (4 * n) = 0x60) ∧
      (∀ f, f ≤ 24 → fmtOk f = true → s.txQuadMember n = false → s.on F.SDI_TX_CFG_EN n = false → s.txState n = 0 → s.laneBist (128 + n) = false → s.fmtForCrew (n / 8) f = true →
        ∃ t, exec (.sdiTxSet ch (leBytes 2 n ++ [1] ++ leBytes 1 f ++ [2, 0] ++ leBytes 2 0xFC00 ++ leBytes 2 1019 ++ leBytes 2 4 ++ leBytes 2 512 ++ [0x34, 0x12])) s = .next t ∧
          t.answered ch St.OK [] ∧ t.txState n = 1 ∧ t.fld F.SDI_TX_CFG_FORMAT n = f ∧ t.fld F.SDI_TX_CFG_NOSRC n = 2 ∧ t.sfld F.SDI_TX_OFS_TX_OFS n = -1024 ∧
          t.fld F.SDI_TX_NOSRC_Y n = 1019 ∧ t.fld F.SDI_TX_NOSRC_CB n = 4 ∧ t.fld F.SDI_TX_OFS_PID_OVR n = 0x1234) ∧
      (s.laneBist n = false → s.laneBist (128 + n) = false → ∃ t d, exec (.sdiGetStatus ch (leBytes 2 n ++ [0, 0])) s = .next t ∧ t.answered ch St.OK d ∧ d.length = 44 ∧ t.fld F.SDI_RX_CRC_CNT_COUNT n = 0 ∧
        t.fld F.SDI_TX_SUBST_CNT_COUNT n = 0 ∧ s.onlyAnswer t ch [F.SDI_RX_CRC_CNT_COUNT.key n, F.SDI_RX_TRS_CNT_COUNT.key n, F.SDI_RX_ANC_CNT_COUNT.key n,
          F.SDI_TX_SUBST_CNT_COUNT.key n])) ∧
    (s.crewOn n = false →
      ∃ t, exec (.sdiRxSet ch (leBytes 2 n ++ [5, 24, 2, 0, 0, 0] ++ leBytes 4 0x60016101 ++ zeroBytes 12)) s = .next t ∧ t.answered ch St.NOT_READY [] ∧ s.onlyAnswer t ch []) ∧
    (∀ c, c < 16 → s.crewOn (8 * c) = true →
      (s.crewBusy c = false →
        ∃ t, exec (.crewSet ch (leBytes 1 c ++ [3, 1, 0])) s = .next t ∧ t.answered ch St.OK [] ∧ t.fld F.CREW_CFG_SYNTH c = 3 ∧ t.fld F.CREW_CFG_TL c = 1 ∧
          s.onlyAnswer t ch [F.CREW_CFG_SYNTH.key c, F.CREW_CFG_TL.key c]) ∧
      (s.crewBusy c = true → ∃ t, exec (.crewSet ch (leBytes 1 c ++ [3, 1, 0])) s = .next t ∧ t.answered ch St.NOT_READY [] ∧ s.onlyAnswer t ch []))

/-- An Ethernet port takes frames while its link is up, counts and captures them, stamps what it sends and clears its counters when read (R224, R225, R229, R230, R233, R255, section 06_ip_media.md). -/
def Obligations.EthernetPortsSortAndCount : Prop :=
  ∀ (s : State) (e : Nat), s.held = false → e ≤ 8 →
    (∀ f, s.on F.ETH_STATUS_LINK_UP e = false ∨ s.ethHas e = false → ∃ t, exec (.ethFrameRx e f) s = .next t ∧ s.onlyRegs t []) ∧
    (s.ethHas e = true → s.on F.ETH_STATUS_LINK_UP e = true →
      (∀ f : EthFrame, f.waiting + f.len ≤ 32768 → f.fcsBad = true → f.fecUncorr = 0 → s.on F.ETH_CFG_BAD_TO_FW e = false →
        ∃ t, exec (.ethFrameRx e f) s = .next t ∧ (t.port_e e).cnt.look 3 = ((s.port_e e).cnt.look 3 + 1) % 2 ^ 64 ∧
          (t.port_e e).cnt.look 12 = ((s.port_e e).cnt.look 12 + f.fecCorr) % 2 ^ 64 ∧ (t.port_e e).capq = (s.port_e e).capq ∧ s.regsKept t []) ∧
      (∀ f : EthFrame, f.waiting + f.len ≤ 32768 → f.fcsBad = false → f.fecUncorr = 0 → 64 ≤ f.len →
        f.len ≤ s.fld F.ETH_CFG_MAX_FRAME e → s.ethForUs e f.dest = false →
        ∃ t, exec (.ethFrameRx e f) s = .next t ∧ (t.port_e e).cnt.look 6 = ((s.port_e e).cnt.look 6 + 1) % 2 ^ 64 ∧
          (t.port_e e).cnt.look 0 = ((s.port_e e).cnt.look 0 + f.len) % 2 ^ 64 ∧ (t.port_e e).capq = (s.port_e e).capq ∧ s.regsKept t []) ∧
      (∀ (f : EthFrame) dst src port rtp, f.waiting + f.len ≤ 32768 → f.fcsBad = false → f.fecUncorr = 0 → 64 ≤ f.len →
        f.len ≤ s.fld F.ETH_CFG_MAX_FRAME e → s.ethForUs e f.dest = true → f.tags = 0 → f.body = .udp dst src port true rtp → port ≠ 319 → port ≠ 320 →
        s.flowFor e dst src port 0 = none →
        ∃ t, exec (.ethFrameRx e f) s = .next t ∧ (t.port_e e).cnt.look 7 = ((s.port_e e).cnt.look 7 + 1) % 2 ^ 64 ∧
          (t.port_e e).capq = (s.port_e e).capq ∧ s.regsKept t []) ∧
      (∀ (f : EthFrame) ty, f.waiting + f.len ≤ 32768 → f.fcsBad = false → f.fecUncorr = 0 → 64 ≤ f.len →
        f.len ≤ s.fld F.ETH_CFG_MAX_FRAME e → s.ethForUs e f.dest = true → f.tags ≤ 1 → f.body = .other ty → (s.port_e e).capq.length < 512 →
        ∃ t, exec (.ethFrameRx e f) s = .next t ∧ (t.port_e e).capq = (s.port_e e).capq ++
            [⟨if f.tags = 1 then { f with tags := 0, vid := 0, len := f.len - 4 } else f, s.time.now, false, false, false, ty == 0x88F7⟩] ∧
          Out.captured e ∈ t.out ∧ s.regsKept t []) ∧
      (∃ t, exec (.ethLinkChange e false) s = .next t ∧ t.fld F.ETH_STATUS_LINK_UP e = 0 ∧ t.fld F.ETH_HIST_LINK_LOST e = 1 ∧
        s.onlyRegs t [F.ETH_STATUS_LINK_UP.key e, F.ETH_STATUS_FEC_LOCK.key e, F.ETH_HIST_LINK_LOST.key e]) ∧
      (∀ len dst src mc rtp q ty, (s.port_e e).stamps.length < 16 →
        ∃ t, exec (.fwFrameTx e len (.udp dst src 319 mc rtp) (some (ty, q))) s = .next t ∧
          (t.port_e e).stamps = (s.port_e e).stamps ++ [⟨q % 65536, ty % 16, s.time.now⟩] ∧
          (t.port_e e).cnt.look 10 = ((s.port_e e).cnt.look 10 + 1) % 2 ^ 64 ∧ (t.port_e e).cnt.look 9 = ((s.port_e e).cnt.look 9 + len) % 2 ^ 64 ∧
          (s.laneSends (ethLane e) = true → Out.fwFrame e len (.udp dst src 319 mc rtp) ∈ t.out) ∧ s.regsKept t []) ∧
      (∀ len dst src mc rtp q, 16 ≤ (s.port_e e).stamps.length →
        ∃ t, exec (.fwFrameTx e len (.udp dst src 319 mc rtp) (some q)) s = .next t ∧ (t.port_e e).stamps = (s.port_e e).stamps ∧
          (t.port_e e).cnt.look 14 = ((s.port_e e).cnt.look 14 + 1) % 2 ^ 64 ∧ s.regsKept t []) ∧
      (∀ len msg, ∃ t, exec (.fwFrameTx e len .fragment msg) s = .next t ∧ (t.port_e e).stamps = (s.port_e e).stamps ∧
          (t.port_e e).cnt.look 10 = ((s.port_e e).cnt.look 10 + 1) % 2 ^ 64 ∧ s.regsKept t [])) ∧
    (s.ethHas e = true → s.on F.ETH_STATUS_LINK_UP e = false →
      (s.on F.ETH_CFG_EN e = true → s.laneState (ethLane e) = 6 →
        ∃ t, exec (.ethLinkChange e true) s = .next t ∧ t.fld F.ETH_STATUS_LINK_UP e = 1 ∧ t.fld F.ETH_HIST_LINK_GAINED e = 1 ∧
          t.fld F.ETH_STATUS_FEC_LOCK e = bit (s.fld F.ETH_CFG_FEC e != 0) ∧
          s.onlyRegs t [F.ETH_STATUS_LINK_UP.key e, F.ETH_STATUS_FEC_LOCK.key e, F.ETH_HIST_LINK_GAINED.key e]) ∧
      (∀ len y msg, ∃ t, exec (.fwFrameTx e len y msg) s = .next t ∧ (t.port_e e).cnt.look 11 = ((s.port_e e).cnt.look 11 + 1) % 2 ^ 64 ∧
        (t.port_e e).stamps = (s.port_e e).stamps ∧ s.regsKept t [])) ∧
    ((s.port_e e).capq = [] → ∃ t, exec (.captureFrameTake e) s = .next t ∧ s.onlyRegs t []) ∧
    (∀ c rest, (s.port_e e).capq = c :: rest → c.frame.query = false →
      ∃ t, exec (.captureFrameTake e) s = .next t ∧ (t.port_e e).capq = rest ∧ Out.capFrame e c.frame c.stamp ∈ t.out ∧ s.regsKept t []) ∧
    (∀ c late, c < 15 → s.reaches R.ETH_CNT_LO (15 * e + c) →
      ∃ t, exec (.ethCntLoRead e c late) s = .next t ∧ Out.read ((s.port_e e).cnt.look c % 2 ^ 32) ∈ t.out ∧
        t.fld F.ETH_CNT_HI_CNT (15 * e + c) = (s.port_e e).cnt.look c / 2 ^ 32 % 2 ^ 32 ∧ (t.port_e e).cnt.look c = late ∧
        s.regsKept t [F.ETH_CNT_HI_CNT.key (15 * e + c)]) ∧
    (s.reaches R.PTP_TX_ID e →
      (∀ x rest, (s.port_e e).stamps = x :: rest →
        ∃ t, exec (.ptpTxIdRead e) s = .next t ∧ Out.read (x.seqId + x.msgType * 65536 + 2 ^ 31) ∈ t.out ∧ (t.port_e e).stamps = rest ∧
          t.fld F.PTP_TX_NS_NS e = x.stamp / nsUnit % 1000000000 ∧ t.fld F.PTP_TX_SEC_LO_SEC e = x.stamp / secUnit % 2 ^ 32 ∧
          t.fld F.PTP_TX_SEC_HI_SEC e = x.stamp / secUnit / 2 ^ 32 % 2 ^ 16) ∧
      ((s.port_e e).stamps = [] → ∃ t, exec (.ptpTxIdRead e) s = .next t ∧ Out.read 0 ∈ t.out ∧ s.onlyRegs t []))

/-- A receive flow loses its legs and closes an incomplete frame, and a transmit flow sends its packets at their numbers or counts what it drops (R239, R241, R244, R247, R253, section 06_ip_media.md). -/
def Obligations.FlowsLoseMergeAndSend : Prop :=
  ∀ (s : State) (i : Nat), s.held = false → i < 768 →
    (s.on F.IPM_RX_STATUS_RED_UP i = true → s.on F.IPM_RX_STATUS_BLUE_UP i = true →
      ∃ t, exec (.legTimeout i true) s = .next t ∧ t.fld F.IPM_RX_STATUS_BLUE_UP i = 0 ∧ t.fld F.IPM_RX_HIST_BLUE_LOST i = 1 ∧
        s.onlyRegs t [F.IPM_RX_STATUS_BLUE_UP.key i, F.IPM_RX_HIST_BLUE_LOST.key i]) ∧
    (s.on F.IPM_RX_STATUS_RED_UP i = true → s.on F.IPM_RX_STATUS_BLUE_UP i = false →
      ∃ t, exec (.legTimeout i false) s = .next t ∧ t.fld F.IPM_RX_STATUS_RED_UP i = 0 ∧ t.fld F.IPM_RX_HIST_RED_LOST i = 1 ∧
        t.fld F.IPM_RX_HIST_FLOW_LOST i = 1 ∧ t.fld F.IPM_RX_STATUS_STATE i = 1 ∧ Out.flowLost i ∈ t.out) ∧
    (s.on F.IPM_RX_STATUS_RED_UP i = false → ∃ t, exec (.legTimeout i false) s = .next t ∧ s.onlyRegs t []) ∧
    (∀ bs k nk ts nts at_ nat, bs + 2 < 2 ^ 32 → k ≠ nk → s.fld F.IPM_RX_STATUS_STATE i = 2 → (s.rxf i).base = some bs → (s.rxf i).cur = some (k, at_) →
      (s.rxf i).later = [(nk, nat)] → (s.rxf i).seen = [⟨bs, k, ts, false, true, false, [], []⟩, ⟨bs + 2, nk, nts, false, false, false, [], []⟩] →
      ∃ t, exec (.mergeWinExpiry i) s = .next t ∧ Out.flowFrame i ts (at_ / nsUnit) false ∈ t.out ∧ t.fld F.IPM_RX_TS_TS i = ts % 2 ^ 32 ∧
        t.fld F.IPM_RX_LOST_CNT_COUNT i = min (s.fld F.IPM_RX_LOST_CNT_COUNT i + 1) (2 ^ 32 - 1) ∧ t.fld F.IPM_RX_HIST_INCOMPLETE i = 1 ∧
        (t.rxf i).base = some (bs + 2) ∧ (t.rxf i).cur = some (nk, nat) ∧ (t.rxf i).later = [] ∧
        (t.rxf i).seen = [⟨bs + 2, nk, nts, false, false, false, [], []⟩]) ∧
    ((s.rxf i).cur = none ∨ (s.rxf i).later = [] → ∃ t, exec (.mergeWinExpiry i) s = .next t ∧ s.onlyRegs t []) ∧
    (s.fld F.IPM_TX_STATUS_STATE i = 2 → s.fld F.IPM_TX_CFG_KIND i = 3 → s.legOn i false = true → s.legOn i true = false → (s.txf i).stopping = false →
      s.on F.ETH_STATUS_LINK_UP (2 * s.fld F.IPM_TX_CFG_PAIR i) = true → s.laneSends (ethLane (2 * s.fld F.IPM_TX_CFG_PAIR i)) = true →
      (∀ n j late live, late ≤ 2000 →
        ∃ t, exec (.mediaPacketTx i n j late live) s = .next t ∧
          (∃ p : PktSent, Out.mediaPacket (2 * s.fld F.IPM_TX_CFG_PAIR i) i p ∈ t.out ∧ p.seq = n % 65536 ∧
            p.ts = n * (if s.on F.IPM_TX_CFG_PTIME i then 6 else 48) % 2 ^ 32 ∧ p.marker = false ∧ p.ssrc = s.fld F.IPM_TX_SSRC_SSRC i ∧ p.dst = (s.txf i).redDest) ∧
          t.fld F.IPM_TX_SEQ_SEQ i = n % 65536 ∧ t.fld F.IPM_TX_PKT_CNT_COUNT i = min (s.fld F.IPM_TX_PKT_CNT_COUNT i + 1) (2 ^ 32 - 1) ∧
          t.fld F.IPM_TX_STATUS_RED_ON i = 1 ∧ t.fld F.IPM_TX_STATUS_BLUE_ON i = 0) ∧
      (∀ n j late live, 2000 < late →
        ∃ t, exec (.mediaPacketTx i n j late live) s = .next t ∧ t.fld F.IPM_TX_HIST_PKT_DROP i = 1 ∧
          t.fld F.IPM_TX_DROP_CNT_COUNT i = min (s.fld F.IPM_TX_DROP_CNT_COUNT i + 1) (2 ^ 32 - 1) ∧ t.fld F.IPM_TX_PKT_CNT_COUNT i = s.fld F.IPM_TX_PKT_CNT_COUNT i)) ∧
    (∀ n j late live, s.fld F.IPM_TX_STATUS_STATE i = 0 ∨ s.pktDue i n j = false ∨ (s.fld F.IPM_TX_STATUS_STATE i = 1 ∧ s.pktOpens i n j = false) →
      ∃ t, exec (.mediaPacketTx i n j late live) s = .next t ∧ s.onlyRegs t [])

/-- The commands of the Ethernet ports and IP flows store what they carry, start the flows they enable, join their groups, and read their counters once (R233, R234, R238, R254, R256, R257, section 06_ip_media.md). -/
def Obligations.MediaNetworkCommandsAct : Prop :=
  ∀ (s : State) (ch : Nat), s.held = false → s.fld F.BIST_STATUS_SAFE 0 = 0 → s.selftest 7 = false → s.selftest 8 = false →
    (s.isE = false →
      (∀ e, e < 8 → s.domOn (33 + e) = true → s.on F.ETH_CFG_EN e = false →
        ∃ t, exec (.ethSetPort ch (leBytes 1 e ++ [6, 2, 2] ++ leBytes 6 0xA1B2C3D4E5F6 ++ leBytes 2 9600 ++ [128, 0, 0, 0] ++ leBytes 16 (2 ^ 128 - 1))) s = .next t ∧
          t.answered ch St.OK [] ∧ t.fld F.ETH_MAC_LO_MAC e = 0xC3D4E5F6 ∧ t.fld F.ETH_MAC_HI_MAC e = 0xA1B2 ∧ t.fld F.ETH_CFG_RATE e = 2 ∧ t.fld F.ETH_CFG_FEC e = 2 ∧
          t.fld F.ETH_CFG_MAX_FRAME e = 9600 ∧ t.fld F.ETH_CFG_BCAST_EN e = 1 ∧ t.fld F.ETH_CFG_BAD_TO_FW e = 1 ∧ t.fld F.ETH_CFG_EN e = 0 ∧
          (t.port_e e).ip = List.replicate 16 0xFF ∧ (t.port_e e).prefixLen = 128) ∧
      (∀ e, e < 9 →
        ∃ t d, exec (.ethGetStats ch (leBytes 1 e ++ [0, 0, 0])) s = .next t ∧ t.answered ch St.OK d ∧ d.length = 128 ∧ (∀ c, (t.port_e e).cnt.look c = 0) ∧ s.regsKept t []) ∧
      (∀ k, k < 512 → s.on F.IPM_RX_CFG_EN (128 + k) = false →
        ∃ t, exec (.flowRxSet ch ([3, 7] ++ leBytes 2 k ++ [3, 8] ++ leBytes 2 4094 ++ (List.replicate 12 0 ++ [239, 1, 2, 3]) ++ zeroBytes 16 ++ leBytes 2 5004 ++ leBytes 2 5006 ++
            (List.replicate 12 0 ++ [239, 1, 2, 4]) ++ zeroBytes 16 ++ [97, 50, 0, 0] ++ leBytes 4 0)) s = .next t ∧ t.answered ch St.OK [] ∧
          t.fld F.IPM_RX_CFG_EN (128 + k) = 1 ∧ t.fld F.IPM_RX_STATUS_STATE (128 + k) = 1 ∧ t.fld F.IPM_RX_CFG_PAIR (128 + k) = 3 ∧ t.fld F.IPM_RX_CFG_MERGE_WIN (128 + k) = 50 ∧
          (t.rxf (128 + k)).red = ⟨List.replicate 12 0 ++ [239, 1, 2, 3], zeroBytes 16, 5004⟩ ∧ (t.rxf (128 + k)).vid = 4094 ∧ (t.rxf (128 + k)).pt = 97 ∧
          Out.membership 6 (List.replicate 12 0 ++ [239, 1, 2, 3]) (zeroBytes 16) true ∈ t.out ∧
          Out.membership 7 (List.replicate 12 0 ++ [239, 1, 2, 4]) (zeroBytes 16) true ∈ t.out) ∧
      (∀ k, k < 512 → s.on F.IPM_TX_CFG_EN (128 + k) = false → s.fld F.IPM_TX_STATUS_STATE (128 + k) = 0 →
        (∀ u, s.txRoom 3 (128 + k) u (flowBits 3 8 0 1 0 false (zeroBytes 16) (s.fld F.IPM_TX_CFG_FORMAT 0)) = true) →
        ∃ t, exec (.flowTxSet ch ([3, 1] ++ leBytes 2 k ++ [3, 8] ++ leBytes 2 0 ++ zeroBytes 32 ++ leBytes 2 5004 ++ leBytes 2 5006 ++ leBytes 2 5008 ++ [46, 64] ++
            leBytes 4 0xDEADBEEF ++ [97, 2, 0, 0] ++ leBytes 4 1000 ++ leBytes 4 0 ++ [2, 0, 0, 0])) s = .next t ∧ t.answered ch St.OK [] ∧
          t.fld F.IPM_TX_CFG_EN (128 + k) = 1 ∧ t.fld F.IPM_TX_STATUS_STATE (128 + k) = 1 ∧ t.fld F.IPM_TX_SSRC_SSRC (128 + k) = 0xDEADBEEF ∧
          t.fld F.IPM_TX_TRO_TRO (128 + k) = 1000 ∧ t.fld F.IPM_TX_CFG_SENDER (128 + k) = 2 ∧ (t.txf (128 + k)).redUdp = 5004 ∧ (t.txf (128 + k)).dscp = 46) ∧
      (∀ k, k < 128 →
        (∃ t d, exec (.flowGetStatus ch ([0, 5] ++ leBytes 2 k)) s = .next t ∧ t.answered ch St.OK d ∧ d.length = 32 ∧ t.fld F.IPM_RX_PKT_CNT_COUNT (640 + k) = 0) ∧
        ∃ t d, exec (.flowGetStatus ch ([1, 5] ++ leBytes 2 k)) s = .next t ∧ t.answered ch St.OK d ∧ d.length = 32 ∧ t.fld F.IPM_TX_PKT_CNT_COUNT (640 + k) = 0)) ∧
    (s.isE = true → ∃ t, exec (.flowGetStatus ch [0, 0, 0, 0]) s = .next t ∧ t.answered ch St.UNIT_ABSENT [] ∧ s.onlyAnswer t ch [])

/-- A stall keeps the newest complete frame, drops the one displaced, latches at its timeline's frame starts and starts or ends by EN (R262, R263, R264, R268, R270, R271, R276, R298, R300, section 07_stalls_and_freshness.md). -/
def Obligations.StallsFillAndLatch : Prop :=
  ∀ (s : State) (j : Nat), s.held = false → j < 320 → s.on F.TWIN_CFG_EN 0 = false → s.on F.STALL_STATUS_LL_ACTIVE j = false →
    (∀ f, j < 256 → s.stallGiven j = none → ∃ t, exec (.stallFrameComplete j f) s = .next t ∧ s.onlyRegs t []) ∧
    (∀ f, s.stallState j = 0 → ∃ t, exec (.stallFrameComplete j f) s = .next t ∧ t.stall j = s.stall j ∧ s.regsKept t [] ∧ (j < 256 → t.stallGiven j = none)) ∧
    (∀ (f : FrameIn) g, s.stallGiven j = some g → s.stallState j ≠ 0 → s.sourceLive j = true → s.slotHolds j { f with fmt := g.fmt, coded := false } = true →
      g.complete = true → g.stamp = none → g.atc = none → g.ip = none → (s.stall j).awaiting = none →
      ∃ t, exec (.stallFrameComplete j f) s = .next t ∧ t.stallGiven j = none ∧
        (∃ h, (t.stall j).waiting = some h ∧ h.pic = f.pic ∧ h.psf = f.psf ∧ h.slot = (s.stall j).wslot ∧ h.anc = g.anc ∧ h.meta_ = g.meta_ ∧
          h.rcd.fseq = ((s.stall j).fseq + 1) % 2 ^ 48 ∧ h.rcd.format = g.fmt ∧ h.rcd.ingress = f.ingress ∧ h.rcd.origin = f.ingress ∧ h.rcd.okind = 0 ∧
          h.rcd.sig = crc64 f.pic ∧ h.rcd.complete = true) ∧
        (t.stall j).held = (s.stall j).held ∧ t.stallState j = 2 ∧ (t.stall j).fseq = ((s.stall j).fseq + 1) % 2 ^ 48 ∧
        (∀ h, (s.stall j).waiting = some h → (t.stall j).wslot = h.slot) ∧
        ((s.stall j).waiting = none → (t.stall j).wslot ≠ (s.stall j).wslot ∧ ∀ h, (s.stall j).held = some h → (t.stall j).wslot ≠ h.slot) ∧
        t.fld F.STALL_DROP_CNT_COUNT j = (if (s.stall j).waiting = none then s.fld F.STALL_DROP_CNT_COUNT j else min (s.fld F.STALL_DROP_CNT_COUNT j + 1) (2 ^ 32 - 1)) ∧
        ((s.stall j).waiting ≠ none → t.fld F.STALL_HIST_DROPPED j = 1) ∧ (s.stallState j = 1 → t.fld F.STALL_HIST_FIRST_FRAME j = 1) ∧
        (s.stallState j = 3 → t.fld F.STALL_HIST_LOS_LEFT j = 1)) ∧
    (∀ (f : FrameIn) g, s.stallGiven j = some g → g.ip = none → s.stallState j ≠ 0 → s.slotHolds j { f with fmt := g.fmt, coded := false } = false →
      ∃ t, exec (.stallFrameComplete j f) s = .next t ∧ t.fld F.STALL_HIST_CLASS_ERR j = 1 ∧ t.stallState j = (if s.stallState j = 2 then 3 else s.stallState j) ∧
        (s.stallState j = 2 → t.fld F.STALL_HIST_LOS_ENTERED j = 1) ∧ (t.stall j).waiting = (s.stall j).waiting ∧ (t.stall j).fseq = (s.stall j).fseq) ∧
    (∀ (f : FrameIn) g, s.stallGiven j = some g → g.ip = none → s.stallState j ≠ 0 → s.slotHolds j { f with fmt := g.fmt, coded := false } = true →
      g.complete = false → s.on F.STALL_CTRL_INCOMPLETE_USE j = false →
      ∃ t, exec (.stallFrameComplete j f) s = .next t ∧ t.stall j = s.stall j ∧ t.fld F.STALL_HIST_INCOMPLETE j = 1 ∧
        t.fld F.STALL_INCOMPLETE_CNT_COUNT j = min (s.fld F.STALL_INCOMPLETE_CNT_COUNT j + 1) (2 ^ 32 - 1) ∧
        s.regsKept t [F.STALL_HIST_INCOMPLETE.key j, F.STALL_INCOMPLETE_CNT_COUNT.key j]) ∧
    ((s.stall j).fallBack = false →
      (∀ n, s.stallState j = 0 ∨ n % s.stallDiv j ≠ 0 → ∃ t, exec (.stallLatch j n) s = .next t ∧ s.onlyRegs t []) ∧
      (∀ n, s.stallState j = 2 → n % s.stallDiv j = 0 → (s.stall j).closing = false → ∀ h, (s.stall j).waiting = some h →
        ∃ t, exec (.stallLatch j n) s = .next t ∧ (t.stall j).held = some h ∧ (t.stall j).shown = some h ∧ (t.stall j).waiting = none ∧ (t.stall j).prev = (s.stall j).held ∧
          t.fld F.STALL_REPEAT_CNT_COUNT j = s.fld F.STALL_REPEAT_CNT_COUNT j ∧ t.fld F.STALL_STATUS_ORIGIN_KIND j = h.rcd.okind % 4 ∧
          s.regsKept t [F.STALL_STATUS_LATCHED.key j, F.STALL_STATUS_UNTRUSTED.key j, F.STALL_STATUS_ORIGIN_KIND.key j]) ∧
      (∀ n, s.stallState j = 2 → n % s.stallDiv j = 0 → (s.stall j).closing = false → (s.stall j).waiting = none → ∀ h, (s.stall j).held = some h →
        ∃ t, exec (.stallLatch j n) s = .next t ∧ (t.stall j).held = some h ∧ (t.stall j).shown = some h ∧ (t.stall j).waiting = none ∧
          t.fld F.STALL_REPEAT_CNT_COUNT j = min (s.fld F.STALL_REPEAT_CNT_COUNT j + 1) (2 ^ 32 - 1)) ∧
      (∀ n, s.stallState j ≠ 0 → n % s.stallDiv j = 0 → (s.stall j).closing = true →
        ∃ t, exec (.stallLatch j n) s = .next t ∧ t.stallState j = s.fld F.STALL_CTRL_EN j ∧ t.stall j = default)) ∧
    (s.reaches R.STALL_CTRL j →
      (∀ v : Word, s.stallBusy j = false → F.STALL_CTRL_EN.of v.toNat = 1 → F.STALL_CTRL_MODE.of v.toNat = 0 →
        ∃ t, exec (.stallEnableWrite j v) s = .next t ∧ t.stallState j = 1 ∧ t.fld F.STALL_CTRL_EN j = 1 ∧ t.fld F.STALL_CTRL_TL j = F.STALL_CTRL_TL.of v.toNat ∧
          t.fld F.STALL_CTRL_CLASS j = min (F.STALL_CTRL_CLASS.of v.toNat) 4 ∧ t.stall j = default) ∧
      (∀ v : Word, s.on F.STALL_CTRL_EN j = true → s.stallState j ≠ 0 → s.unchanged (W.STALL_CTRL.drop 1) j v.toNat = true → F.STALL_CTRL_EN.of v.toNat = 0 →
        ∃ t, exec (.stallEnableWrite j v) s = .next t ∧ t.fld F.STALL_CTRL_EN j = 0 ∧ t.stallState j = s.stallState j ∧ (t.stall j).closing = true ∧
          (t.stall j).held = (s.stall j).held ∧ s.regsKept t [F.STALL_CTRL_EN.key j]) ∧
      (∀ v : Word, s.stallBusy j = true → s.unchanged (W.STALL_CTRL.drop 1) j v.toNat = false →
        ∃ t, exec (.stallEnableWrite j v) s = .next t ∧ t.fld F.STALL_HIST_CFG_REJECTED j = 1 ∧
          s.onlyRegs t [F.STALL_HIST_CFG_REJECTED.key j, F.BLK_REJECT_CNT_COUNT.key 9])) ∧
    (s.reaches R.STALL_FSEQ_LO j → ∀ h, (s.stall j).shown = some h →
      ∃ t, exec (.stallFseqLoRead j) s = .next t ∧ Out.read (h.rcd.fseq % 2 ^ 32) ∈ t.out ∧ t.fld F.STALL_FSEQ_HI_FSEQ j = h.rcd.fseq / 2 ^ 32 % 2 ^ 16 ∧
        t.fld F.STALL_SIG_LO_SIG j = h.rcd.sig % 2 ^ 32 ∧ t.fld F.STALL_SIG_HI_SIG j = h.rcd.sig / 2 ^ 32 % 2 ^ 32 ∧
        s.onlyRegs t [F.STALL_FSEQ_HI_FSEQ.key j, F.STALL_SIG_LO_SIG.key j, F.STALL_SIG_HI_SIG.key j])

/-- A checkpoint turns stale after its run of failures and back after its run of passes; stall, watch and checkpoint commands store what they carry (R287, R288, R290, R291, R295, R298, R300, section 07_stalls_and_freshness.md). -/
def Obligations.CheckpointsJudgeFreshness : Prop :=
  (∀ (s : State) (c : Nat), s.held = false → c < 768 → s.on F.TWIN_CFG_EN 0 = false →
    (∀ v : Word, s.reaches R.FRESH_CFG c → s.on F.FRESH_CFG_EN c = false → F.FRESH_CFG_EN.of v.toNat = 1 →
      ∃ t, exec (.freshCfgWrite c 0 v) s = .next t ∧ t.fld F.FRESH_CFG_EN c = 1 ∧ t.fld F.FRESH_STATUS_STALE c = 0 ∧ t.fld F.FRESH_STATUS_REASON c = 0 ∧
        t.fld F.FRESH_STATUS_FAIL_RUN c = 0 ∧ t.fld F.FRESH_STATUS_PASS_RUN c = 0 ∧ t.chk c = default ∧ t.fld F.FRESH_CFG_WATCH_MASK c = F.FRESH_CFG_WATCH_MASK.of v.toNat) ∧
    (∀ v : Word, s.reaches R.FRESH_CFG c → (∃ t, exec (.freshCfgWrite c 1 v) s = .next t ∧ t.fld F.FRESH_LIMIT_LIMIT_US c = clampNat 1000 60000000 (v.toNat % 2 ^ 26) ∧ s.onlyRegs t [F.FRESH_LIMIT_LIMIT_US.key c]) ∧
      ∃ t, exec (.freshCfgWrite c 2 v) s = .next t ∧ t.fld F.FRESH_LIVE_LIVE_FRAMES c = max 1 (v.toNat % 256) ∧ s.onlyRegs t [F.FRESH_LIVE_LIVE_FRAMES.key c]) ∧
    (∀ n, s.judged c = false → s.on F.FRESH_CFG_EN c = true → ∃ t, exec (.freshDecision c n) s = .next t ∧ s.onlyRegs t []) ∧
    (∀ n, s.on F.FRESH_CFG_EN c = false → s.on F.FRESH_STATUS_STALE c = true →
      ∃ t, exec (.freshDecision c n) s = .next t ∧ t.fld F.FRESH_STATUS_STALE c = 0 ∧ t.fld F.FRESH_EDGE_FRAME_FRAME c = n % 2 ^ 32 ∧
        bitOf (t.fld F.FRESH_HIST_EXIT_EXIT (c / 32)) (c % 32) = true) ∧
    (∀ n, s.judged c = true → s.on F.FRESH_CFG_EN c = true → s.on F.FRESH_STATUS_STALE c = false → s.checkRecord c = none →
      (s.fld F.FRESH_CFG_ENTER_N c ≤ min 15 (s.fld F.FRESH_STATUS_FAIL_RUN c + 1) →
        ∃ t, exec (.freshDecision c n) s = .next t ∧ t.fld F.FRESH_STATUS_STALE c = 1 ∧ t.fld F.FRESH_STATUS_REASON c = 4 ∧ t.fld F.FRESH_EDGE_FRAME_FRAME c = n % 2 ^ 32 ∧
          t.fld F.FRESH_STATUS_PASS_RUN c = 0 ∧ t.fld F.FRESH_ENTER_CNT_COUNT c = min (s.fld F.FRESH_ENTER_CNT_COUNT c + 1) (2 ^ 32 - 1) ∧
          bitOf (t.fld F.FRESH_HIST_ENTER_ENTER (c / 32)) (c % 32) = true) ∧
      (min 15 (s.fld F.FRESH_STATUS_FAIL_RUN c + 1) < s.fld F.FRESH_CFG_ENTER_N c →
        ∃ t, exec (.freshDecision c n) s = .next t ∧ t.fld F.FRESH_STATUS_FAIL_RUN c = min 15 (s.fld F.FRESH_STATUS_FAIL_RUN c + 1) ∧ t.fld F.FRESH_STATUS_REASON c = 4 ∧
          s.onlyRegs t [F.FRESH_STATUS_FAIL_RUN.key c, F.FRESH_STATUS_REASON.key c])) ∧
    (∀ n, s.judged c = true → s.on F.FRESH_CFG_EN c = true → ∀ r, s.checkRecord c = some r →
      (s.on F.FRESH_STATUS_STALE c = false → s.freshFail c (s.freshRep c r) (s.ageOf r) r ≠ 0 →
        (s.fld F.FRESH_CFG_ENTER_N c ≤ min 15 (s.fld F.FRESH_STATUS_FAIL_RUN c + 1) →
          ∃ t, exec (.freshDecision c n) s = .next t ∧ t.fld F.FRESH_STATUS_STALE c = 1 ∧ t.fld F.FRESH_EDGE_FRAME_FRAME c = n % 2 ^ 32 ∧
            t.fld F.FRESH_STATUS_REASON c = s.freshFail c (s.freshRep c r) (s.ageOf r) r ∧ t.chk c = ⟨s.freshRep c r, some r.fseq⟩) ∧
        (min 15 (s.fld F.FRESH_STATUS_FAIL_RUN c + 1) < s.fld F.FRESH_CFG_ENTER_N c →
          ∃ t, exec (.freshDecision c n) s = .next t ∧ t.fld F.FRESH_STATUS_FAIL_RUN c = min 15 (s.fld F.FRESH_STATUS_FAIL_RUN c + 1) ∧
            t.fld F.FRESH_STATUS_REASON c = s.freshFail c (s.freshRep c r) (s.ageOf r) r ∧ t.fld F.FRESH_AGE_AGE c = min (s.ageOf r / 1000) (2 ^ 32 - 1) ∧
            t.chk c = ⟨s.freshRep c r, some r.fseq⟩ ∧ s.regsKept t [F.FRESH_STATUS_FAIL_RUN.key c, F.FRESH_STATUS_REASON.key c, F.FRESH_AGE_AGE.key c])) ∧
      (s.freshFail c (s.freshRep c r) (s.ageOf r) r = 0 →
        (s.on F.FRESH_STATUS_STALE c = false → 1 ≤ s.fld F.FRESH_CFG_ENTER_N c →
          ∃ t, exec (.freshDecision c n) s = .next t ∧ t.fld F.FRESH_STATUS_FAIL_RUN c = 0 ∧ t.fld F.FRESH_AGE_AGE c = min (s.ageOf r / 1000) (2 ^ 32 - 1) ∧
            t.chk c = ⟨s.freshRep c r, some r.fseq⟩ ∧ s.regsKept t [F.FRESH_STATUS_FAIL_RUN.key c, F.FRESH_AGE_AGE.key c]) ∧
        (s.on F.FRESH_STATUS_STALE c = true → s.ageOf r * 100 ≤ s.fld F.FRESH_LIMIT_LIMIT_US c * 1000 * (100 - s.fld F.FRESH_CFG_EXIT_PCT c) →
          s.fld F.FRESH_CFG_EXIT_N c ≤ min 255 (s.fld F.FRESH_STATUS_PASS_RUN c + 1) →
          ∃ t, exec (.freshDecision c n) s = .next t ∧ t.fld F.FRESH_STATUS_STALE c = 0 ∧ t.fld F.FRESH_STATUS_FAIL_RUN c = 0 ∧ t.fld F.FRESH_EDGE_FRAME_FRAME c = n % 2 ^ 32 ∧
            bitOf (t.fld F.FRESH_HIST_EXIT_EXIT (c / 32)) (c % 32) = true)))) ∧
  (∀ (s : State) (ch : Nat), s.held = false → s.fld F.BIST_STATUS_SAFE 0 = 0 → s.selftest 9 = false →
    (∀ j base, j < 320 → (j < 256 → s.sourceHas j = true) → base < 2 ^ 18 → s.stallBusy j = false → s.stallFits j base 4 = true → s.codedFits j 4 = true →
      ∃ t, exec (.stallSet ch (leBytes 2 j ++ [0x39, 4, 4, 2, 255, 0] ++ leBytes 4 base ++ leBytes 4 (2 ^ 32 - 1000))) s = .next t ∧ t.answered ch St.OK [] ∧
        t.stallState j = 1 ∧ t.stall j = default ∧ t.fld F.STALL_BASE_BASE j = base ∧ t.sfld F.STALL_ORIGIN_OFS_ORIGIN_OFS j = -1000 ∧
        t.fld F.STALL_CTRL_TL j = 0 ∧ t.fld F.STALL_CTRL_LL_FALLBACK j = 1 ∧ t.fld F.STALL_CTRL_INHERIT_STALE j = 1 ∧
        t.fld F.STALL_CTRL_ORIGIN_MODE j = 4 ∧ t.fld F.STALL_CTRL_LOS_ACTION j = 2 ∧ t.fld F.STALL_CTRL_CLASS j = 4 ∧
        t.fld F.STALL_CTRL_LOS_HOLD j = 255) ∧
    (∀ j r, j < 256 → s.sourceHas j = true → r < 4 →
      ∃ t, exec (.watchSet ch (leBytes 2 j ++ [BitVec.ofNat 8 r, 1] ++ leBytes 2 3839 ++ leBytes 2 2159 ++ leBytes 2 3840 ++ leBytes 2 2160 ++ leBytes 2 65535 ++ [0, 0])) s = .next t ∧
        t.answered ch St.OK [] ∧ t.fld F.WATCH_CFG_EN (4 * j + r) = 1 ∧ t.fld F.WATCH_CFG_WATCH_N (4 * j + r) = 65535 ∧ t.fld F.WATCH_XY_X (4 * j + r) = 3839 ∧
        t.fld F.WATCH_XY_Y (4 * j + r) = 2159 ∧ t.fld F.WATCH_WH_W (4 * j + r) = 3840 ∧ t.fld F.WATCH_WH_H (4 * j + r) = 2160) ∧
    (∀ c, c < 768 → s.checkHas c = true →
      (∃ t, exec (.freshSet ch (leBytes 2 c ++ [31, 15] ++ leBytes 4 60000000 ++ [15, 255, 50, 255])) s = .next t ∧ t.answered ch St.OK [] ∧ t.fld F.FRESH_CFG_EN c = 1 ∧
        t.fld F.FRESH_CFG_STAMP_EN c = 1 ∧ t.fld F.FRESH_CFG_WATCH_MASK c = 15 ∧ t.fld F.FRESH_CFG_ENTER_N c = 15 ∧ t.fld F.FRESH_CFG_EXIT_N c = 255 ∧
        t.fld F.FRESH_CFG_EXIT_PCT c = 50 ∧ t.fld F.FRESH_LIMIT_LIMIT_US c = 60000000 ∧ t.fld F.FRESH_LIVE_LIVE_FRAMES c = 255) ∧
      (∃ t d, exec (.freshGetStatus ch (leBytes 2 c ++ [0, 0])) s = .next t ∧ t.answered ch St.OK d ∧ d.length = 16 ∧ t.fld F.FRESH_ENTER_CNT_COUNT c = 0 ∧
        s.onlyAnswer t ch [F.FRESH_ENTER_CNT_COUNT.key c])) ∧
    (∀ j, j < 320 → (j < 256 → s.sourceHas j = true) → ∃ t d, exec (.stallGetStatus ch (leBytes 2 j ++ [0, 0])) s = .next t ∧ t.answered ch St.OK d ∧ d.length = 88 ∧
      t.fld F.STALL_REPEAT_CNT_COUNT j = 0 ∧ t.fld F.STALL_DROP_CNT_COUNT j = 0 ∧
      s.onlyAnswer t ch [F.STALL_REPEAT_CNT_COUNT.key j, F.STALL_DROP_CNT_COUNT.key j, F.STALL_INCOMPLETE_CNT_COUNT.key j, F.STALL_STAMP_ERR_CNT_COUNT.key j]) ∧
    (s.isF = true → (∀ r, r < 5 → s.regionUsed r = false) →
      ∃ t, exec (.yardCarve ch [34, 2, 10, 1, 1, 0, 0, 0]) s = .next t ∧ t.answered ch St.OK [] ∧ t.regions = [34, 2, 10, 1, 1] ∧ s.regsKept t []))

/-- Hellos and authentication move a port's peer state, silence takes it down; timing, adverts, credits and keep-alives are sent in UP and stored (R304, R305, R306, R308, R312, R360, R362, R367, R374, R375, section 08_heulric_fabric.md). -/
def Obligations.PeersComeUpAndGoDown : Prop :=
  ∀ (s : State) (q : Nat), s.held = false → q < 17 →
    (∀ p m, s.gets q 0x10 p m → s.cox = default → s.peerState q = 1 → s.portServes q = true → (s.fport q).epoch = none →
      (s.helloMatches q m = false →
        ∃ t, exec (.helloRx q p) s = .next t ∧ t.peerState q = 5 ∧ t.fld F.FAB_PORT_HIST_WIRING_ERR q = 1 ∧ t.fld F.FAB_PORT_STATUS_PEER_VALID q = 1 ∧
          t.fld F.FAB_PORT_STATUS_PEER_ID q = msgSrc m % 32 ∧ (t.fport q).peerHello = m ∧ (t.fport q).epoch = some (le m 24 4)) ∧
      (s.helloMatches q m = true → linkCompat s.dev.compat (le m 28 4) = false →
        ∃ t, exec (.helloRx q p) s = .next t ∧ t.peerState q = 6 ∧ t.fld F.FAB_PORT_HIST_INCOMPATIBLE q = 1) ∧
      (s.helloMatches q m = true → linkCompat s.dev.compat (le m 28 4) = true → s.on F.FAB_CFG_AUTH_MODE 0 = true →
        ∃ t, exec (.helloRx q p) s = .next t ∧ t.peerState q = 3 ∧ t.fld F.FAB_PORT_HIST_UP_GAINED q = 1 ∧ (t.credit q 1).ann = max 1 (le m 64 1) ∧
          (t.credit q 2).ann = max 1 (le m 65 1) ∧ (t.credit q 3).ann = max 1 (le m 66 1) ∧
          (s.portTalks q = true → ∃ c, Out.ctrl q c ∈ t.out ∧ msgType c = 0x14))) ∧
    (∀ p m, s.gets q 0x11 p m → s.cox = default → s.peerState q = 2 → s.portServes q = true → s.keepAlive q = false →
      (le m 20 1 ≠ 1 → ∃ t, exec (.authRx q p) s = .next t ∧ t.peerState q = 2 ∧
        (t.fport q).chain = (s.fport q).chain.take (le m 16 2) ++ bytesAt m 24 (le m 18 2) ∧ s.regsKept t []) ∧
      (le m 20 1 = 1 → ∃ t, exec (.authRx q p) s = .next t ∧
        t.peerState q = (if (s.updFport q fun x => { x with chain := x.chain.take (le m 16 2) ++ bytesAt m 24 (le m 18 2) }).authOk q m then
          (if (s.fport q).authSent then 3 else 2) else 4))) ∧
    (s.peerState q ≠ 0 → ∃ t, exec (.peerLossTimeout q) s = .next t ∧ t.peerState q = (if s.portLinked q then 1 else 0) ∧ t.fld F.FAB_PORT_STATUS_PEER_VALID q = 0 ∧
      (s.peerState q = 3 → t.fld F.FAB_PORT_HIST_UP_LOST q = 1)) ∧
    (s.peerState q = 2 → ∃ t, exec (.authTimeout q) s = .next t ∧ t.peerState q = 4 ∧ t.fld F.FAB_PORT_HIST_AUTH_FAIL q = 1 ∧
      s.onlyRegs t [F.FAB_PORT_STATUS_PEER_STATE.key q, F.FAB_PORT_HIST_AUTH_FAIL.key q]) ∧
    (s.peerState q ≠ 2 → ∃ t, exec (.authTimeout q) s = .next t ∧ s.onlyRegs t []) ∧
    (s.peerState q = 4 → ∃ t, exec (.untrustedRetry q) s = .next t ∧ t.peerState q = 1 ∧ (t.fport q).chain = [] ∧ (t.fport q).verified = false ∧
      msgType (t.fport q).hello = 0x10 ∧ (s.portTalks q = true → Out.ctrl q (t.fport q).hello ∈ t.out) ∧ s.regsKept t [F.FAB_PORT_STATUS_PEER_STATE.key q]) ∧
    (s.peerState q ≠ 4 → ∃ t, exec (.untrustedRetry q) s = .next t ∧ s.onlyRegs t []) ∧
    (∀ p m, s.hears q 0x12 p m → ∃ t, exec (.timingRx q p) s = .next t ∧ (t.fport q).timTx = bytesAt m 16 12 ∧ (t.fport q).timRx = s.nowFine ∧
      (t.fport q).quality = (if le m 54 1 = s.me then 255 else le m 52 1) ∧
      (t.fport q).peerOfs = (timeOf m 16 : Int) + (((s.nowFine : Int) - timeOf m 28) - ((timeOf m 16 : Int) - timeOf m 40)) / 2 - s.nowFine ∧
      ((∀ n, n < 8 → s.candKind n ≠ 5 ∨ s.fld F.REF_CFG_IDX n ≠ q) → s.regsKept t [])) ∧
    (∀ p m, s.hears q 0x13 p m → ∃ t, exec (.advertRx q p) s = .next t ∧
      t.adverts.look (msgSrc m) = ⟨(List.range 17).map fun i => le m (16 + 2 * i) 2, le m 50 1, le m 51 3⟩ ∧ s.regsKept t []) ∧
    (∀ p m, s.hears q 0x14 p m → (s.fport q).waitq = [] → ∃ t, exec (.creditRx q p) s = .next t ∧ s.regsKept t [] ∧
      (t.credit q 1).peerFreed = le m 16 2 ∧ (t.credit q 1).rxSeq = le m 22 2 ∧ (t.credit q 2).peerFreed = le m 18 2 ∧ (t.credit q 2).rxSeq = le m 24 2 ∧
      (t.credit q 3).peerFreed = le m 20 2 ∧ (t.credit q 3).rxSeq = le m 26 2) ∧
    (∀ p m, s.gets q 0x15 p m → ∃ t, exec (.keepaliveRx q p) s = .next t ∧ (t.fport q).asleep = (le m 20 1 == 1) ∧ s.regsKept t []) ∧
    (∀ p m, s.portHears q = true → s.arrival q p = .whole m → msgOk 0x15 m = false →
      ∃ t, exec (.keepaliveRx q p) s = .next t ∧ t.fld F.FAB_RX_ERR_CNT_COUNT q = min (s.fld F.FAB_RX_ERR_CNT_COUNT q + 1) (2 ^ 32 - 1) ∧
      s.onlyRegs t [F.FAB_RX_ERR_CNT_COUNT.key q]) ∧
    (∀ p, s.portHears q = true → s.arrival q p = .failed →
      ∃ t, exec (.keepaliveRx q p) s = .next t ∧ t.fld F.FAB_RX_ERR_CNT_COUNT q = min (s.fld F.FAB_RX_ERR_CNT_COUNT q + 1) (2 ^ 32 - 1) ∧
      s.onlyRegs t [F.FAB_RX_ERR_CNT_COUNT.key q]) ∧
    (∀ p, s.portHears q = false → ∃ t, exec (.keepaliveRx q p) s = .next t ∧ s.onlyRegs t []) ∧
    (∀ cnt, s.portLinked q = true → s.peerState q ≠ 0 → ∃ t, exec (.helloSend q cnt) s = .next t ∧ msgType (t.fport q).hello = 0x10 ∧
      le (t.fport q).hello 16 1 = q ∧ le (t.fport q).hello 17 1 = s.fabN ∧
      (s.portTalks q = true → Out.ctrl q (t.fport q).hello ∈ t.out) ∧ s.regsKept t []) ∧
    (∀ cnt, s.portLinked q = true → s.peerState q = 0 → ∃ t, exec (.helloSend q cnt) s = .next t ∧ t.peerState q = 1) ∧
    (∀ cnt, s.portLinked q = false → s.portBringing q = false → ∃ t, exec (.helloSend q cnt) s = .next t ∧ s.onlyRegs t []) ∧
    (s.portLinked q = true ∨ s.keepAlive q = true → ∃ t, exec (.keepaliveSend q) s = .next t ∧ s.spoke t ∧
      (s.portTalks q = true → ∃ m, Out.ctrl q m ∈ t.out ∧ msgType m = 0x15 ∧ le m 20 1 = bit s.asleep ∧ msgOk 0x15 m = true)) ∧
    (s.portLinked q = false → s.keepAlive q = false → ∃ t, exec (.keepaliveSend q) s = .next t ∧ s.onlyRegs t []) ∧
    (∃ t, exec (.timingSend q) s = .next t ∧ s.spoke t ∧
      (s.linkUp q = true → s.portTalks q = true → ∃ m, Out.ctrl q m ∈ t.out ∧ msgType m = 0x12 ∧ le m 52 1 = s.fabQuality % 256) ∧ (s.linkUp q = false → t.out = s.out)) ∧
    (∃ t, exec (.creditSend q) s = .next t ∧ s.spoke t ∧
      (s.linkUp q = true → s.portTalks q = true → ∃ m, Out.ctrl q m ∈ t.out ∧ msgType m = 0x14 ∧ le m 16 2 = (s.credit q 1).freed % 65536) ∧
      (s.linkUp q = false → t.out = s.out)) ∧
    (∃ t, exec .advertSend s = .next t ∧ s.spoke t ∧
      (s.linkUp q = true → s.portTalks q = true → ∃ m, Out.ctrl q m ∈ t.out ∧ msgType m = 0x13 ∧ bitOf (le m 51 3) q = true))

/-- A source grants and releases seats as asked, a subscriber takes the answers, reroutes, retries, reverts, resends, and answers its host commands (R302, R313, R314, R315, R317, R318, R319, R321, R322, R341, R342, section 08_heulric_fabric.md). -/
def Obligations.SubscriptionsAndGrantsFollowRequests : Prop :=
  ∀ (s : State), s.held = false →
    (∀ q, q < 17 → ∀ p m, s.hears q 0x20 p m → msgDst m = s.me → le m 24 1 = 1 → le m 21 1 = 0x1F → le m 16 2 / 512 = s.me → le m 18 1 ≤ 2 →
      s.sourceHas (le m 16 2 % 512) = true → s.quadSource (le m 16 2 % 512) = false →
      ((s.stored.look (le m 20 1)).find? fun x => x.tid == msgTid m) = none → ∀ r, s.portTo (le m 20 1) = some r → 0 < le m 19 1 →
      s.srcCost (le m 16 2 % 512) (le m 18 1) (le m 22 2) ≤ le m 19 1 → s.grantOf (le m 16 2) (le m 18 1) (le m 20 1) 0x1F 1 = none →
      (s.linkUp r = true → le m 19 1 - chargeOf s.grants r (le m 16 2) ≤ s.freeSeats r →
        ∃ t, exec (.subscribeRx q p) s = .next t ∧ s.regsKept t [] ∧
          t.grants = s.grants ++ [⟨le m 16 2, le m 18 1, le m 20 1, 0x1F, 1, r, le m 19 1, le m 22 2, s.srcTl (le m 16 2 % 512), 1,
            (s.tlFrame (s.srcTl (le m 16 2 % 512)) + 1) % 2 ^ 48, none⟩]) ∧
      (s.freeSeats r < le m 19 1 - chargeOf s.grants r (le m 16 2) → ∃ t, exec (.subscribeRx q p) s = .next t ∧ t.grants = s.grants ∧ s.regsKept t [])) ∧
    (∀ q, q < 17 → ∀ p m, s.hears q 0x21 p m → msgDst m = s.me → le m 24 1 = 1 → le m 21 1 = 0x1F → ((s.stored.look (le m 20 1)).find? fun x => x.tid == msgTid m) = none →
      ∀ g, s.grantOf (le m 16 2) (le m 18 1) (le m 20 1) 0x1F 1 = some g → g.state = 1 →
      ∃ t, exec (.releaseRx q p) s = .next t ∧ s.regsKept t [] ∧ t.grants = s.grants.map fun x =>
        if x.is (le m 16 2) (le m 18 1) (le m 20 1) 0x1F 1 then { x with state := 3, stop := some ((s.tlFrame g.tl + 1) % 2 ^ 48) } else x) ∧
    (∀ q, q < 17 → ∀ p m, s.hears q 0x22 p m → msgDst m = s.me → s.cox = default → (∀ r, r < 17 → (s.fport r).waitq = []) →
      ∀ a, (s.asks.find? fun a => decide (a.kind ≤ 4) && a.tid == msgTid m && a.dst == msgSrc m && le a.body 0 2 == le m 20 2 && le a.body 2 1 == le m 22 1) = some a →
      a.kind = 0 → le a.body 0 2 / 512 % 2 = 0 → (s.sub (subKey (le a.body 0 2) (le a.body 2 1))).host = true → (s.sub (subKey (le a.body 0 2) (le a.body 2 1))).bow.again = none →
      le m 16 2 = St.OK →
      ∃ t, exec (.grantRx q p) s = .next t ∧ (t.sub (subKey (le a.body 0 2) (le a.body 2 1))).bow.state = 2 ∧
        (t.sub (subKey (le a.body 0 2) (le a.body 2 1))).bow.charged = le m 18 1 ∧ (t.sub (subKey (le a.body 0 2) (le a.body 2 1))).bow.path = le m 19 1 ∧
        (t.sub (subKey (le a.body 0 2) (le a.body 2 1))).bow.busy = false ∧
        (t.sub (subKey (le a.body 0 2) (le a.body 2 1))).bow.lost = !s.pathUp (le a.body 0 2 / 512) (le m 19 1) ∧ s.regsKept t []) ∧
    (∀ st c sub relay, ∀ g, s.grantOf st c sub relay 1 = some g → g.state = 2 →
      ∃ t, exec (.holdExpiry st c sub relay 1) s = .next t ∧ t.grants = (s.grants.filter fun x => !x.is st c sub relay 1) ∧ s.regsKept t []) ∧
    (∀ st c sub relay, ∀ g, s.grantOf st c sub relay 1 = some g → g.state ≠ 2 → ∃ t, exec (.holdExpiry st c sub relay 1) s = .next t ∧ s.onlyRegs t []) ∧
    (∀ st c sub relay hop,
      ∃ t, exec (.releaseFree st c sub relay hop) s = .next t ∧ t.grants = (s.grants.filter fun x => !(x.is st c sub relay hop && x.state == 3)) ∧ s.regsKept t []) ∧
    (∀ q src, (s.grants.any fun g => g.on q (s.me * 512 + src) && g.hop == 1 && g.content == 0 && g.state == 1) = true →
      (s.srcCost src 0 0 ≤ chargeOf (s.grants.filter fun g => g.on q (s.me * 512 + src) && g.hop == 1 && g.content == 0 && g.state == 1) q (s.me * 512 + src) →
        ∃ t, exec (.grantGrowAttempt q src) s = .next t ∧ t.withheld.look (wKey q (s.me * 512 + src)) = false ∧ t.grants = s.grants ∧ s.regsKept t []) ∧
      (chargeOf (s.grants.filter fun g => g.on q (s.me * 512 + src) && g.hop == 1 && g.content == 0 && g.state == 1) q (s.me * 512 + src) < s.srcCost src 0 0 →
        s.on F.FAB_CFG_AUTO_GROW 0 = false →
        ∃ t, exec (.grantGrowAttempt q src) s = .next t ∧ t.withheld.look (wKey q (s.me * 512 + src)) = true ∧ t.grants = s.grants ∧ s.regsKept t [])) ∧
    (∀ k e, s.subs = [(k, e)] → s.cox = default → e.bow.state = 2 → e.bow.lost = true → e.bow.busy = false → e.stern.state ≠ 2 →
      (∀ p, s.choosePath e.bow.pin (e.source 0) (s.copyCost e e.bow) [] = some p → ∃ t, exec (.rerouteTimeout [(e.source 0, e.bow.path)]) s = .next t ∧
        (t.sub k).bow.state = 3 ∧ (t.sub k).bow.busy = true ∧ (t.sub k).bow.tid = (s.tid + 1) % 2 ^ 32 ∧ t.asks.length = s.asks.length + 1) ∧
      (s.choosePath e.bow.pin (e.source 0) (s.copyCost e e.bow) [] = none → ∃ t, exec (.rerouteTimeout [(e.source 0, e.bow.path)]) s = .next t ∧
        (t.sub k).bow.state = 4 ∧ (t.sub k).bow.status = St.NO_ROUTE ∧ t.asks = s.asks)) ∧
    (∀ st c, s.cox = default → st / 512 % 2 = 0 → (s.sub (subKey st c)).bow.state = 4 → (s.sub (subKey st c)).bow.busy = false →
      ∃ t, exec (.waitingRouteRetry st c) s = .next t ∧
        (t.sub (subKey st c)).bow.state = (if s.choosePath (s.sub (subKey st c)).bow.pin ((s.sub (subKey st c)).source 0) (s.copyCost (s.sub (subKey st c)) (s.sub (subKey st c)).bow) []
          = none then 4 else 3)) ∧
    (∀ k e, s.subs = [(k, e)] → s.cox = default → s.on F.FAB_CFG_REVERT 0 = true → s.upTo (e.source 0) = true → e.bow.state = 2 → e.bow.busy = false → e.bow.path < 0xFE →
      e.bow.pin = 0xFF → e.stern.state ≠ 2 →
      ∃ t, exec (.revertTimeout (e.source 0)) s = .next t ∧ (t.sub k).bow.busy = true ∧ (t.sub k).bow.state = 2 ∧ (t.sub k).bow.path = e.bow.path ∧
        t.asks.length = s.asks.length + 1) ∧
    (∀ tid dst, s.cox = default → ∀ a, (s.asks.find? fun x => x.kind == 1 && x.tid == tid && x.dst == dst) = some a →
      (a.sends < 4 → ∃ t, exec (.subscribeResend 1 tid dst) s = .next t ∧ t.asks = (s.asks.map fun y => if y = a then { a with sends := a.sends + 1 } else y) ∧ s.regsKept t []) ∧
      (4 ≤ a.sends → ∃ t, exec (.subscribeResend 1 tid dst) s = .next t ∧ t.asks = s.asks.erase a ∧ s.regsKept t [])) ∧
    (∀ ch, s.cox = default → s.fld F.BIST_STATUS_SAFE 0 = 0 → s.selftest 0x0A = false →
      (s.me / 2 ≠ 1 → s.upTo 2 = true → s.upTo 3 = true → s.sub (subKey 1029 0) = default →
        ∃ t, exec (.fabSubscribe ch [5, 4, 0, 0, 0xFF, 0xFF, 0, 0]) s = .next t ∧ (t.sub (subKey 1029 0)).host = true ∧ (t.sub (subKey 1029 0)).waitCh = [ch] ∧
          (t.sub (subKey 1029 0)).bow.state = 1 ∧ (t.sub (subKey 1029 0)).stern.state = 1 ∧ t.asks.length = s.asks.length + 2 ∧ t.replies = s.replies) ∧
      ((s.sub (subKey 1029 0)).host = true → (s.sub (subKey 1029 0)).count = 0 →
        ∃ t, exec (.fabRelease ch [5, 6, 0, 0]) s = .next t ∧ t.answered ch St.OK [] ∧ t.sub (subKey 1029 0) = default) ∧
      ((s.sub (subKey 1029 0)).host = false → ∃ t, exec (.fabRelease ch [5, 4, 0, 0]) s = .next t ∧ t.answered ch St.OK [] ∧ s.onlyAnswer t ch [])) ∧
    (∀ ch, s.fld F.BIST_STATUS_SAFE 0 = 0 →
      (∀ q, q < 17 → ∃ t d, exec (.fabGetPort ch (leBytes 1 q ++ [0, 0, 0])) s = .next t ∧ t.answered ch St.OK d ∧ d.length = 40 ∧ t.fld F.FAB_TX_STROKE_CNT_COUNT q = 0 ∧
        t.fld F.FAB_RX_ERR_CNT_COUNT q = 0 ∧ s.onlyAnswer t ch (fabPortCnts.map fun f => f.key q)) ∧
      (∀ i, i < 336 → s.sourceHas i = true → ∃ t, exec (.fabGetSource ch (leBytes 2 i ++ [0, 0])) s = .next t ∧
        t.answered ch St.OK (leBytes 4 (s.srcSubs i) ++ leBytes 4 (s.srcHeld i) ++ leBytes 4 (s.srcSeats i)) ∧ s.onlyAnswer t ch []) ∧
      (∀ d (h : List Byte), d < 18 → h.length = 48 → s.selftest 0x0A = false →
        (∃ t, exec (.fabAllow ch (leBytes 1 d ++ [1, 0, 0] ++ h)) s = .next t ∧ t.answered ch St.OK [] ∧ t.allow = s.allow.put d h ∧ s.regsKept t []) ∧
        (∃ t, exec (.fabAllow ch (leBytes 1 d ++ [0, 0, 0] ++ h)) s = .next t ∧ t.answered ch St.OK [] ∧ t.allow = s.allow.put d [] ∧ s.regsKept t [])) ∧
      ((∀ q < 17, s.portServes q = false ∧ s.portLinked q = false ∧ s.peerState q = 0) → s.selftest 0x0A = false → s.dev.idInvalid = false →
        ∀ fl hold tag rr rv, fl < 8 → 10 ≤ hold → hold ≤ 60000 → tag < 2 ^ 32 → 1 ≤ rr → rr ≤ 10000 → 1 ≤ rv → rv ≤ 3600 →
        (s.fabN % 2 = 0 → s.fabN ≤ 18 → s.fabN = 0 ∨ s.me < s.fabN →
          ∃ t, exec (.fabricSet ch (leBytes 1 s.fabN ++ leBytes 1 fl ++ leBytes 2 hold ++ leBytes 4 tag ++ leBytes 2 rr ++ leBytes 2 rv ++ zeroBytes 4)) s = .next t ∧
            t.answered ch St.OK [] ∧ t.fabN = s.fabN ∧ t.fld F.FAB_CFG_AUTH_MODE 0 = fl % 2 ∧ t.fld F.FAB_CFG_AUTO_GROW 0 = fl / 2 % 2 ∧ t.fld F.FAB_CFG_REVERT 0 = fl / 4 ∧
            t.fld F.FAB_CFG_HOLD_MS 0 = hold ∧ t.fld F.FAB_TAG_TAG 0 = tag ∧ t.fld F.FAB_CFG2_REROUTE_MS 0 = rr ∧ t.fld F.FAB_CFG2_REVERT_S 0 = rv ∧
            s.onlyAnswer t ch [F.FAB_CFG_AUTH_MODE.key 0, F.FAB_CFG_AUTO_GROW.key 0, F.FAB_CFG_REVERT.key 0, F.FAB_CFG_HOLD_MS.key 0, F.FAB_TAG_TAG.key 0,
              F.FAB_CFG2_REROUTE_MS.key 0, F.FAB_CFG2_REVERT_S.key 0]) ∧
        (∃ t, exec (.fabricSet ch (leBytes 1 3 ++ leBytes 1 fl ++ leBytes 2 hold ++ leBytes 4 tag ++ leBytes 2 rr ++ leBytes 2 rv ++ zeroBytes 4)) s = .next t ∧
          t.answered ch St.BAD_ARG [] ∧ s.onlyAnswer t ch [])))

/-- Strokes go out on each port carrying them, are checked, merged once from two copies and released or counted missing; lane blocks act on their port (R311, R327, R331, R332, R333, R335, R348, R351, R353, R372, R373, section 08_heulric_fabric.md). -/
def Obligations.StrokesTravelAndMerge : Prop :=
  (∀ (s : State) (q : Nat), s.held = false → q < 17 →
    (∀ src typ frame line late live, s.sends = true → s.linkUp q = true → s.portUp q = true → s.quadSource src = false → s.strokeGrants q src typ frame ≠ [] →
      (s.strokeBad src typ line = false →
        ∀ x, s.strokeLoad src typ frame line (s.strokeChannels q src typ frame) live = some x →
        (s.withheld.look (wKey q (s.me * 512 + src)) = false → q ∉ late →
          ∃ t, exec (.strokeTx src typ frame line late live) s = .next t ∧
            t.fld F.FAB_TX_STROKE_CNT_COUNT q = min (s.fld F.FAB_TX_STROKE_CNT_COUNT q + 1) (2 ^ 32 - 1) ∧ t.fld F.FAB_TX_DROP_CNT_COUNT q = s.fld F.FAB_TX_DROP_CNT_COUNT q ∧
            (s.portTalks q = true →
              Out.stroke q (strokeBytes typ (s.me * 512 + src) frame line (if s.srcKind1 src then 0 else s.srcFormat src) (s.srcTl src) x.1 x.2) ∈ t.out) ∧ s.talked t) ∧
        (s.withheld.look (wKey q (s.me * 512 + src)) = true → (∀ g ∈ s.strokeGrants q src typ frame, g.content = 0) →
          ∃ t, exec (.strokeTx src typ frame line late live) s = .next t ∧
            t.fld F.FAB_TX_DROP_CNT_COUNT q = min (s.fld F.FAB_TX_DROP_CNT_COUNT q + 1) (2 ^ 32 - 1) ∧
            t.fld F.FAB_TX_STROKE_CNT_COUNT q = s.fld F.FAB_TX_STROKE_CNT_COUNT q ∧ s.talked t) ∧
        (q ∈ late → ∃ t, exec (.strokeTx src typ frame line late live) s = .next t ∧
          t.fld F.FAB_TX_DROP_CNT_COUNT q = min (s.fld F.FAB_TX_DROP_CNT_COUNT q + 1) (2 ^ 32 - 1) ∧
          t.fld F.FAB_TX_STROKE_CNT_COUNT q = s.fld F.FAB_TX_STROKE_CNT_COUNT q ∧ s.talked t)) ∧
      (s.strokeBad src typ line = true → ∃ t, exec (.strokeTx src typ frame line late live) s = .next t ∧
        t.fld F.FAB_TX_DROP_CNT_COUNT q = min (s.fld F.FAB_TX_DROP_CNT_COUNT q + 1) (2 ^ 32 - 1) ∧ s.talked t)) ∧
    (∀ src typ frame line late live, s.sends = false ∨ s.linkUp q = false → ∃ t, exec (.strokeTx src typ frame line late live) s = .next t ∧
      t.fld F.FAB_TX_STROKE_CNT_COUNT q = s.fld F.FAB_TX_STROKE_CNT_COUNT q ∧ t.fld F.FAB_TX_DROP_CNT_COUNT q = s.fld F.FAB_TX_DROP_CNT_COUNT q) ∧
    (∀ p full, ∀ m, s.arrival q p = .whole m → s.portHears q = true →
      (strokeOk m = false →
        ∃ t, exec (.strokeRx q p full) s = .next t ∧ t.fld F.FAB_RX_ERR_CNT_COUNT q = min (s.fld F.FAB_RX_ERR_CNT_COUNT q + 1) (2 ^ 32 - 1) ∧
          s.onlyRegs t [F.FAB_RX_ERR_CNT_COUNT.key q]) ∧
      (strokeOk m = true → s.linkUp q = false → ∃ t, exec (.strokeRx q p full) s = .next t ∧ s.onlyRegs t []) ∧
      (strokeOk m = true → s.linkUp q = true → s.portUp q = true → bitOf (le m 1 1) 0 = true → s.ringOf (bowStream (le m 2 2 % 16384)) = none →
        ∃ t, exec (.strokeRx q p full) s = .next t ∧ t.fld F.FAB_RX_STROKE_CNT_COUNT q = min (s.fld F.FAB_RX_STROKE_CNT_COUNT q + 1) (2 ^ 32 - 1) ∧
          s.onlyRegs t [F.FAB_RX_STROKE_CNT_COUNT.key q]) ∧
      (strokeOk m = true → s.linkUp q = true → s.portUp q = true → bitOf (le m 1 1) 0 = true → ∀ i, s.ringOf (bowStream (le m 2 2 % 16384)) = some i →
        le m 2 2 / 512 % 2 = 0 →
        s.time.now + s.linePeriod (le m 12 1) (le m 13 1 % 2) / 2 ≤ s.lineStart (le m 12 1) (le m 13 1 % 2) (le m 4 6) (le m 10 2 % 4096 + 7) →
        s.lineStart (le m 12 1) (le m 13 1 % 2) (le m 4 6) (le m 10 2 % 4096 + 7) ≤ s.time.now + 7 * s.linePeriod (le m 12 1) (le m 13 1 % 2) →
        (s.rings.look i).slots.look (s.slotKey (le m 0 1) (le m 12 1) (le m 13 1 % 2) (le m 4 6) (le m 10 2 % 4096)) = none →
        ∃ t, exec (.strokeRx q p full) s = .next t ∧
          (∃ x, (t.rings.look i).slots.look (s.slotKey (le m 0 1) (le m 12 1) (le m 13 1 % 2) (le m 4 6) (le m 10 2 % 4096)) = some x ∧
            x.frame = le m 4 6 ∧ x.line = le m 10 2 % 4096 ∧ x.aux = le m 16 8 ∧ x.data = bytesAt m 32 (le m 14 2)) ∧ bitOf (t.rings.look i).got 0 = true ∧
          t.fld F.FAB_RX_WON_BOW_CNT_COUNT i = min (s.fld F.FAB_RX_WON_BOW_CNT_COUNT i + 1) (2 ^ 32 - 1) ∧
          t.fld F.FAB_RX_WON_STERN_CNT_COUNT i = s.fld F.FAB_RX_WON_STERN_CNT_COUNT i ∧ t.fld F.FAB_RX_DUP_CNT_COUNT i = s.fld F.FAB_RX_DUP_CNT_COUNT i)) ∧
    (∀ p m, s.gets q 0x16 p m →
      (le m 24 4 = s.fld F.FAB_TAG_TAG 0 → le m 20 1 = 1 → (s.port q).state ≠ 0 →
        ∃ t, exec (.wakeRx q p) s = .next t ∧ t.port q = { (default : Bring) with state := 1 } ∧ t.laneState (256 + 4 * q) = 3 ∧ (t.fport q).peerHello = [] ∧
          t.peerState q = 0) ∧
      (le m 24 4 ≠ s.fld F.FAB_TAG_TAG 0 → ∃ t, exec (.wakeRx q p) s = .next t ∧ s.onlyRegs t []))) ∧
  (∀ (s : State) (i : Nat), s.held = false → i < 320 → s.on F.FAB_RX_STREAM_EN i = true →
    (∀ frame line, ∀ x, (s.rings.look i).slots.look (s.slotKey 1 (s.rings.look i).fmt (s.rings.look i).tl frame line) = some x → x.frame = frame → x.line = line →
      ∃ t, exec (.strokeRelease i 1 frame line) s = .next t ∧ Out.lineRelease i 1 frame line x.data ∈ t.out ∧ (t.rings.look i).asm.look line = x.data ∧
        (t.rings.look i).slots.look (s.slotKey 1 (s.rings.look i).fmt (s.rings.look i).tl frame line) = none ∧ s.regsKept t []) ∧
    (∀ typ frame line, (s.rings.look i).slots.look (s.slotKey typ (s.rings.look i).fmt (s.rings.look i).tl frame line) = none →
      ∃ t, exec (.strokeRelease i typ frame line) s = .next t ∧ Out.lineMissing i typ frame line ∈ t.out ∧
        t.fld F.FAB_RX_MISSING_CNT_COUNT i = min (s.fld F.FAB_RX_MISSING_CNT_COUNT i + 1) (2 ^ 32 - 1) ∧ s.regsKept t [F.FAB_RX_MISSING_CNT_COUNT.key i]) ∧
    ((s.rings.look i).got = 3 → ∃ t, exec (.copyLossCheck i) s = .next t ∧ t.fld F.FAB_RX_STREAM_COPIES i = 3 ∧ t.fld F.FAB_RX_STREAM_UNPROTECTED i = 0 ∧
      (t.rings.look i).got = 0 ∧ (t.rings.look i).both = false) ∧
    ((s.rings.look i).got = 0 → (s.rings.look i).both = false → s.fld F.FAB_RX_STREAM_COPIES i = 3 →
      ∃ t, exec (.copyLossCheck i) s = .next t ∧ t.fld F.FAB_RX_STREAM_COPIES i = 0 ∧ t.fld F.FAB_RX_HIST_BOW_LOST i = 1 ∧ t.fld F.FAB_RX_HIST_STERN_LOST i = 1 ∧
        t.fld F.FAB_RX_HIST_BOTH_LOST i = 1 ∧ (t.rings.look i).both = true)) ∧
  (∀ (s : State) (l : Nat), s.held = false → 256 ≤ l → l < 324 → s.laneDelivers l = true → s.peerState ((l - 256) / 4) = 0 → (s.port ((l - 256) / 4)).state ≤ 4 →
    (∀ m, blockOk 0xF0 m = true → ∃ t, exec (.markerBlockRx l m) s = .next t ∧ (t.lane l).frameCnt = le m 4 4 ∧ (t.lane l).goodRun = (s.lane l).goodRun + 1 ∧
      (t.lane l).badRun = 0 ∧ s.regsKept t []) ∧
    (∀ m, blockOk 0xF0 m = false → (s.lane l).goodRun < 2 → ∃ t, exec (.markerBlockRx l m) s = .next t ∧ (t.lane l).frameCnt = ((s.lane l).frameCnt + 1) % 2 ^ 32 ∧
      (t.lane l).goodRun = 0 ∧ (t.lane l).badRun = (s.lane l).badRun + 1 ∧ s.regsKept t []) ∧
    (∀ m ready, s.laneState l = 4 → (s.port ((l - 256) / 4)).state = 3 → blockOk 0xF1 m = true → le m 4 1 = 1 → le m 2 1 = 0 →
      ∃ t, exec (.trainingBlockRx l m ready) s = .next t ∧ t.fld F.TX_EQ_MAIN l = 64 ∧ t.fld F.TX_EQ_PRE2 l = 0 ∧ t.fld F.TX_EQ_PRE1 l = 0 ∧ t.fld F.TX_EQ_POST1 l = 0 ∧
        (t.lane l).response = 0 ∧ (t.lane l).readyRun = (if ready && bitOf (le m 5 1) 0 then (s.lane l).readyRun + 1 else 0)))

/-- A local take is accepted, armed and executed at its catch line, or cancelled or late; its entry is then free; take commands answer and store (R378, R382, R385, R389, R394, R395, R397, R399, R400, R401, R413, section 10_switching_and_regattas.md). -/
def Obligations.TakesQueueExecuteAndEnd : Prop :=
  (∀ (s : State) (ch tg st : Nat), s.held = false → s.fld F.BIST_STATUS_SAFE 0 = 0 → s.synced = true → s.selftest 0x0B = false → tg < 128 → st < 2 ^ 14 →
    s.laneTested (128 + tg) = false → s.crewOn tg = true → streamNameOk st = true → s.remote st = false → (s.ownStream st = true → s.sourceHas (st % 512) = true) →
    s.eligible tg st = true → s.tgtHalf tg = false → s.cox.takes = [] → s.cox.regattas = [] → s.tgtFrame tg + 4 < 2 ^ 48 →
    ∃ t, exec (.take ch (leBytes 2 tg ++ leBytes 2 st ++ [0, 2, 1, 64] ++ zeroBytes 12)) s = .next t ∧
      t.answered ch St.OK (leBytes 4 ((s.cox.accepted + 1) % 2 ^ 22 * 1024) ++ leBytes 6 (s.tgtFrame tg + 4) ++ [0, 0]) ∧
      (t.take_ 0).state = 2 ∧ (t.take_ 0).target = tg ∧ (t.take_ 0).src = st ∧ (t.take_ 0).catchF = s.tgtFrame tg + 4 ∧ (t.take_ 0).audio = 2 ∧ (t.take_ 0).anc = 1 ∧
      (t.take_ 0).feather = 64 ∧ (t.take_ 0).rid = 0 ∧ t.cox.accepted = (s.cox.accepted + 1) % 2 ^ 22 ∧ s.regsKept t []) ∧
  (∀ (s : State), s.held = false → ∀ i e, s.cox.takes = [(i, e)] → s.cox.regattas = [] → e.rid = 0 →
    (e.state = 2 → e.journal = none → e.held = false → e.target < 256 → e.src < 2 ^ 14 →
      ∃ t, exec (.takeExecute i) s = .next t ∧ (t.take_ i).state = 5 ∧ t.fld F.COX_TGT_VID_VID_SRC e.target = e.src ∧ t.fld F.COX_TGT_VID_CMD_SRC e.target = e.src ∧
        t.fld F.COX_TGT_LAST_TAKE_ID e.target = takeId i e % 2 ^ 32 ∧ t.fld F.COX_TGT_STATE_LAST_OUTCOME e.target = 5 ∧ t.fld F.COX_TGT_FRAME_FRAME e.target = e.catchF % 2 ^ 32 ∧
        t.fld F.COX_EXEC_CNT_COUNT 0 = min (s.fld F.COX_EXEC_CNT_COUNT 0 + 1) (2 ^ 32 - 1) ∧ t.fld F.COX_HIST_EXECUTED 0 = 1 ∧
        (e.audio = 0 → t.fld F.COX_TGT_AV_AUD_SRC e.target = e.src ∧ t.fld F.COX_TGT_AV_AUD_SILENT e.target = 0) ∧
        (e.audio = 1 → t.fld F.COX_TGT_AV_AUD_SRC e.target = s.fld F.COX_TGT_AV_AUD_SRC e.target) ∧
        (e.audio = 2 → t.fld F.COX_TGT_AV_AUD_SRC e.target = 0x3FFF ∧ t.fld F.COX_TGT_AV_AUD_SILENT e.target = 1)) ∧
    (e.state = 1 → e.held = false → e.target < 768 →
      ∃ t, exec (.armDeadline e.tl e.catchF) s = .next t ∧ (t.take_ i).state = 6 ∧ (t.take_ i).reason = St.LATE ∧ t.fld F.COX_TGT_STATE_LAST_OUTCOME e.target = 6 ∧
        t.fld F.COX_TGT_VID_MISMATCH e.target = 1 ∧ t.fld F.COX_LATE_CNT_COUNT 0 = min (s.fld F.COX_LATE_CNT_COUNT 0 + 1) (2 ^ 32 - 1) ∧ t.fld F.COX_HIST_LATE 0 = 1) ∧
    (∀ ch, (e.state = 1 ∨ e.state = 2) → e.held = false → e.target < 768 → i < 1024 → e.count < 2 ^ 22 → s.tlFrame e.tl + 1 < e.catchF → s.synced = true →
      s.fld F.BIST_STATUS_SAFE 0 = 0 → s.selftest 0x0B = false →
      ∃ t, exec (.takeCancel ch (leBytes 4 (takeId i e) ++ [0, 0, 0, 0])) s = .next t ∧ t.answered ch St.OK [] ∧ (t.take_ i).state = 8 ∧ (t.take_ i).reason = St.CANCELLED ∧
        t.fld F.COX_CANCEL_CNT_COUNT 0 = min (s.fld F.COX_CANCEL_CNT_COUNT 0 + 1) (2 ^ 32 - 1)) ∧
    (5 ≤ e.state → ∃ t, exec (.takeEntryFree i) s = .next t ∧ t.take_ i = default ∧ t.cox.takes = [] ∧ s.regsKept t []) ∧
    (e.state < 5 → ∃ t, exec (.takeEntryFree i) s = .next t ∧ s.onlyRegs t [])) ∧
  (∀ (s : State) (tg : Nat), s.held = false →
    (∀ k, s.cox.drops = [(tg, k)] → (s.sub k).count = 1 → (s.sub k).host = false → ∃ t, exec (.holderRelease tg) s = .next t ∧ t.sub k = default ∧ t.cox.drops = []) ∧
    ((∀ d ∈ s.cox.drops, d.1 ≠ tg) → ∃ t, exec (.holderRelease tg) s = .next t ∧ s.onlyRegs t []) ∧
    (tg < 768 → s.reaches R.COX_TGT_CFG tg → ∀ v : Word,
      (catchOk (catch1 (s.tgtFormat tg)) (F.COX_TGT_CFG_CATCH1.of v.toNat) = true → catchOk (catch2 (s.tgtFormat tg)) (F.COX_TGT_CFG_CATCH2.of v.toNat) = true →
        ∃ t, exec (.coxTgtCfgWrite tg v) s = .next t ∧ t.fld F.COX_TGT_CFG_CATCH1 tg = F.COX_TGT_CFG_CATCH1.of v.toNat ∧
          t.fld F.COX_TGT_CFG_CATCH2 tg = F.COX_TGT_CFG_CATCH2.of v.toNat ∧ s.onlyRegs t [F.COX_TGT_CFG_CATCH1.key tg, F.COX_TGT_CFG_CATCH2.key tg]) ∧
      (catchOk (catch1 (s.tgtFormat tg)) (F.COX_TGT_CFG_CATCH1.of v.toNat) = false ∨ catchOk (catch2 (s.tgtFormat tg)) (F.COX_TGT_CFG_CATCH2.of v.toNat) = false →
        ∃ t, exec (.coxTgtCfgWrite tg v) s = .next t ∧ t.fld F.COX_HIST_CFG_REJECTED 0 = 1 ∧ s.onlyRegs t [F.COX_HIST_CFG_REJECTED.key 0, F.BLK_REJECT_CNT_COUNT.key 0x0B])) ∧
    (∀ ch, s.fld F.BIST_STATUS_SAFE 0 = 0 →
      (∀ id, id < 2 ^ 32 → ∀ i, s.entryOf id = some i → ∃ t d, exec (.takeStatus ch (leBytes 4 id)) s = .next t ∧ t.answered ch St.OK d ∧ d.length = 16 ∧
        d.head? = some (BitVec.ofNat 8 (s.take_ i).state) ∧ s.onlyAnswer t ch []) ∧
      (tg < 768 → s.targetHas tg = true → ∃ t d, exec (.targetGet ch (leBytes 2 tg ++ [0, 0])) s = .next t ∧ t.answered ch St.OK d ∧ d.length = 24 ∧ s.onlyAnswer t ch []) ∧
      (∀ v1 v2, tg < 768 → s.targetHas tg = true → v1 < 4096 → v2 < 4096 → s.selftest 0x0B = false → s.queued tg = 0 → catchOk (catch1 (s.tgtFormat tg)) v1 = true → catchOk (catch2 (s.tgtFormat tg)) v2 = true →
        ∃ t, exec (.catchSet ch (leBytes 2 tg ++ leBytes 2 v1 ++ leBytes 2 v2 ++ [0, 0])) s = .next t ∧ t.answered ch St.OK [] ∧ t.fld F.COX_TGT_CFG_CATCH1 tg = v1 ∧
          t.fld F.COX_TGT_CFG_CATCH2 tg = v2 ∧ s.onlyAnswer t ch [F.COX_TGT_CFG_CATCH1.key tg, F.COX_TGT_CFG_CATCH2.key tg])))

/-- Arms, votes and verdicts are noted at the leader and the members, the leader decides by its deadline and sends GO, and a member without one abandons (R376, R404, R405, R406, R407, R408, R409, R411, section 10_switching_and_regattas.md). -/
def Obligations.RegattasArmVoteAndDecide : Prop :=
  (∀ (s : State) (q : Nat), s.held = false → q < 17 → s.cox.answered = [] →
    (∀ p m, s.hears q 0x30 p m → msgDst m = s.me → ∀ k, s.rgOf (le m 16 2) = some k → (s.rg k).leader = s.me → bitOf (s.rg k).members (msgSrc m) = true → le m 18 1 = s.me →
      le m 19 1 = (s.rg k).tl → le m 20 6 = (s.rg k).catchF → le m 28 4 = (s.rg k).members → le m 32 2 = (s.rg k).total →
      ∃ t, exec (.armRx q p) s = .next t ∧ (t.rg k).arms = ((s.rg k).arms.filter fun a => a.1 != msgSrc m) ++ [(msgSrc m, le m 26 2)] ∧
        t.cox.answered = [⟨msgSrc m, msgTid m, St.OK⟩] ∧ s.regsKept t []) ∧
    (∀ p m, s.hears q 0x30 p m → msgDst m = s.me → s.rgOf (le m 16 2) = none →
      ∃ t, exec (.armRx q p) s = .next t ∧ t.cox = { s.cox with early := s.cox.early ++ [m] } ∧ s.regsKept t []) ∧
    (∀ p m, s.hears q 0x31 p m → msgDst m = s.me → ∀ k, s.rgOf (le m 16 2) = some k → (s.rg k).leader = s.me → bitOf (s.rg k).members (msgSrc m) = true →
      (s.rg k).decided = false → (∀ v ∈ (s.rg k).votes, v.member ≠ msgSrc m) → s.tlFrame (s.rg k).tl + 2 < (s.rg k).catchF →
      ∃ t, exec (.voteRx q p) s = .next t ∧ (t.rg k).votes = (s.rg k).votes ++ [⟨msgSrc m, le m 18 1 == 1, le m 20 2, le m 22 2⟩] ∧
        t.cox.answered = [⟨msgSrc m, msgTid m, St.OK⟩] ∧ s.regsKept t []) ∧
    (∀ p m, s.hears q 0x32 p m → msgDst m = s.me → ∀ k, s.rgOf (le m 16 2) = some k → bitOf (s.rg k).members s.me = true → le m 20 6 = (s.rg k).catchF →
      (s.rg k).gotGo = false →
      ∃ t, exec (.goRx q p) s = .next t ∧ (t.rg k).gotGo = true ∧ (t.rg k).verdict = some (le m 18 1) ∧ (t.rg k).reason = le m 26 2 ∧
        (t.rg k).state = (if le m 18 1 = 1 then 3 else 4)) ∧
    (∀ p m, s.hears q 0x33 p m → msgDst m = s.me → (∀ p, p < 17 → (s.fport p).waitq = []) →
      ∀ a, (s.asks.find? fun a => decide (5 ≤ a.kind) && a.tid == msgTid m && a.dst == msgSrc m) = some a →
      ∃ t, exec (.ackRx q p) s = .next t ∧ t.asks = s.asks.erase a ∧ t.cox = s.cox ∧ s.regsKept t [])) ∧
  (∀ (s : State) (tid dst : Nat), s.held = false → ∀ a, (s.asks.find? fun x => x.kind == 6 && x.tid == tid && x.dst == dst) = some a →
    (∀ k, s.rgOf (le a.body 0 2) = some k → a.sends < 4 → s.tlFrame (s.rg k).tl + 2 < (s.rg k).catchF →
      ∃ t, exec (.regattaResend 6 tid dst) s = .next t ∧ t.asks = (s.asks.map fun y => if y = a then { a with sends := a.sends + 1 } else y) ∧ t.cox = s.cox ∧ s.regsKept t []) ∧
    (s.rgOf (le a.body 0 2) = none ∨ 4 ≤ a.sends → ∃ t, exec (.regattaResend 6 tid dst) s = .next t ∧ t.asks = s.asks.erase a ∧ t.cox = s.cox ∧ s.regsKept t [])) ∧
  (∀ (s : State), s.held = false → ∀ k r, s.cox.regattas = [(k, r)] → k < 16 → s.rgOpen k = true →
    (r.leader = s.me → r.decided = false → r.policy = 0 → r.votes = [] → r.members < 2 ^ 18 → r.members ≠ 0 →
      (∃ t, exec (.voteDeadline r.tl r.catchF) s = .next t ∧ (t.rg k).decided = true ∧ (t.rg k).verdict = some 0 ∧ (t.rg k).reason = St.TIMEOUT ∧ s.regsKept t []) ∧
      (r.members = 2 ^ s.me → s.me < 18 → r.gotGo = false → r.id < 2 ^ 16 → r.catchF < 2 ^ 48 → s.cox.takes = [] →
        ∃ t, exec (.goSend r.tl r.catchF) s = .next t ∧ (t.rg k).decided = true ∧ (t.rg k).gotGo = true ∧ (t.rg k).state = 4 ∧ (t.rg k).verdict = some 0 ∧
          (t.rg k).reason = St.TIMEOUT ∧ s.regsKept t [])) ∧
    (bitOf r.members s.me = true → r.gotGo = false → s.cox.takes = [] →
      ∃ t, exec (.goDeadline r.tl r.catchF) s = .next t ∧ (t.rg k).gotGo = true ∧ (t.rg k).state = 4 ∧ (t.rg k).reason = St.TIMEOUT ∧ t.fld F.COX_HIST_GO_LATE 0 = 1 ∧
        s.regsKept t [F.COX_HIST_GO_LATE.key 0])) ∧
  (∀ (s : State) (ch : Nat), s.held = false → s.fld F.BIST_STATUS_SAFE 0 = 0 → s.selftest 0x0B = false →
    (∀ id c, 1 ≤ id → id < 2 ^ 16 → c < 2 ^ 48 → s.synced = true → s.cox.regattas = [] → s.cox.takes = [] → s.me < 17 → s.tlFrame 1 + 4 ≤ c →
      ∃ t, exec (.regattaOpen ch (leBytes 2 id ++ [17, 1] ++ leBytes 6 c ++ leBytes 2 2 ++ leBytes 4 (2 ^ s.me + 2 ^ 17) ++ leBytes 2 2304 ++ [1, 0])) s = .next t ∧
        t.answered ch St.OK [] ∧ t.rg 0 = { (default : Regatta) with state := 1, id := id, leader := 17, tl := 1, catchF := c, takes := 2, members := 2 ^ s.me + 2 ^ 17, total := 2304, policy := 1 } ∧
        s.regsKept t []) ∧
    (∀ id, id < 2 ^ 16 → ∀ k, s.rgOf id = some k →
      ∃ t d, exec (.regattaStatus ch (leBytes 2 id ++ [0, 0])) s = .next t ∧ t.answered ch St.OK d ∧ d.length = 24 ∧ d.head? = some (BitVec.ofNat 8 (s.rg k).state) ∧
        s.onlyAnswer t ch []))

/-- A head starts with EN, composes into its stall, counts late layers and stops; guard messages are accepted in order and act at their frame (R418, R420, R421, R423, R429, R443, R449, R450, R451, R600, section 11_composition_and_guard.md). -/
def Obligations.HeadsRunAndTheGuardActs : Prop :=
  (∀ (s : State) (h : Nat), s.held = false → h < 32 →
    (∀ v : Word, s.reaches R.HEAD_CFG h → s.on F.HEAD_CFG_EN h = false → s.headState h = 0 → bitOf v.toNat 0 = true →
      s.headFits (F.HEAD_CFG_TL.of v.toNat) (F.HEAD_CFG_FORMAT.stored (F.HEAD_CFG_FORMAT.of v.toNat)) = true →
      ∃ t, exec (.headEnableWrite h v) s = .next t ∧ t.headState h = 1 ∧ t.fld F.HEAD_CFG_EN h = 1 ∧ t.fld F.HEAD_CFG_TL h = F.HEAD_CFG_TL.of v.toNat ∧
        t.fld F.HEAD_CFG_FORMAT h = F.HEAD_CFG_FORMAT.stored (F.HEAD_CFG_FORMAT.of v.toNat) ∧ (t.head h).fseq = 0 ∧ (t.head h).frame = none) ∧
    (∀ v : Word, s.reaches R.HEAD_CFG h → s.on F.HEAD_CFG_EN h = true → F.HEAD_CFG_FORMAT.stored (F.HEAD_CFG_FORMAT.of v.toNat) ≠ s.fld F.HEAD_CFG_FORMAT h →
      ∃ t, exec (.headEnableWrite h v) s = .next t ∧ t.fld F.HEAD_HIST_CFG_REJECTED h = 1 ∧ s.onlyRegs t [F.HEAD_HIST_CFG_REJECTED.key h, F.BLK_REJECT_CNT_COUNT.key 0x0C]) ∧
    (∀ n, (s.head h).pend = [] →
      (s.heads ≤ h ∨ (fmtHalf (s.fld F.TL_CFG_RATE (s.fld F.HEAD_CFG_TL h)) (s.fld F.HEAD_CFG_FORMAT h) = true ∧ n % 2 = 1) → ∃ t, exec (.headFrameStart h n) s = .next t ∧ s.onlyRegs t []) ∧
      (h < s.heads → fmtHalf (s.fld F.TL_CFG_RATE (s.fld F.HEAD_CFG_TL h)) (s.fld F.HEAD_CFG_FORMAT h) = false →
        (s.headState h = 1 ∨ s.headState h = 2 → ∃ t, exec (.headFrameStart h n) s = .next t ∧ t.headState h = 2 ∧ (t.head h).frame = some n ∧
          (t.head h).fseq = (s.head h).fseq + 1 ∧ (t.head h).rows = [] ∧ (t.head h).waiting = none ∧ (t.head h).shown = ((s.head h).waiting <|> (s.head h).shown) ∧
          s.regsKept t [F.HEAD_STATUS_STATE.key h, F.HEAD_STATUS_BUDGET_USED.key h]) ∧
        (s.headState h = 3 → ∃ t, exec (.headFrameStart h n) s = .next t ∧ t.headState h = 0 ∧ t.fld F.HEAD_HIST_STOPPED h = 1 ∧ (t.head h).shown = none ∧ (t.head h).frame = none))) ∧
    (∀ line late, (s.head h).frame = none ∨ (rowOfLine (s.fld F.HEAD_CFG_FORMAT h) line = none ∧ line ≠ fmtLines (s.fld F.HEAD_CFG_FORMAT h)) →
      ∃ t, exec (.headLine h line late) s = .next t ∧ s.onlyRegs t []) ∧
    (∀ n, (s.head h).frame = some n → ∀ line, ∀ y, rowOfLine (s.fld F.HEAD_CFG_FORMAT h) line = some y → line ≠ fmtLines (s.fld F.HEAD_CFG_FORMAT h) →
      ∀ l, l < 16 → s.layerOnRow h l y = true → (∀ k < 16, s.layerBad h k y = false) →
      ∃ t, exec (.headLine h line (2 ^ l)) s = .next t ∧ t.fld F.LAYER_LATE_CNT_COUNT (16 * h + l) = min (s.fld F.LAYER_LATE_CNT_COUNT (16 * h + l) + 1) (2 ^ 32 - 1) ∧
        t.fld F.HEAD_LATE_CNT_COUNT h = min (s.fld F.HEAD_LATE_CNT_COUNT h + 1) (2 ^ 32 - 1) ∧ t.fld F.HEAD_HIST_LAYER_LATE h = 1 ∧ (t.head h).frame = some n ∧
        s.regsKept t [F.LAYER_LATE_CNT_COUNT.key (16 * h + l), F.HEAD_LATE_CNT_COUNT.key h, F.HEAD_HIST_LAYER_LATE.key h]) ∧
    (∀ n, (s.head h).frame = some n → ∀ late, s.headSuspended h = false → rowOfLine (s.fld F.HEAD_CFG_FORMAT h) (fmtLines (s.fld F.HEAD_CFG_FORMAT h)) = none →
      ∃ t, exec (.headLine h (fmtLines (s.fld F.HEAD_CFG_FORMAT h)) late) s = .next t ∧ (∃ x, (t.head h).waiting = some x ∧ x.rcd.fseq = (s.head h).fseq ∧
        x.rcd.format = s.fld F.HEAD_CFG_FORMAT h ∧ x.rcd.ingress = (s.head h).at_ ∧ x.rcd.complete = true ∧
        x.pic = ((rowOrder (s.fld F.HEAD_CFG_FORMAT h) false).map fun y => (s.head h).rows.look y).flatten ∧ x.rcd.sig = crc64 x.pic ∧ x.slot = (s.head h).wslot) ∧
        (t.head h).rows = [] ∧ (t.head h).wslot = ((s.head h).wslot + 1) % 3 ∧ (t.head h).shown = (s.head h).shown)) ∧
  (∀ (s : State), s.held = false →
    (∀ ch p, ch ≠ 32 → ∃ t, exec (.guardMsg ch p) s = .next t ∧ t.answered ch St.BAD_COMMAND [] ∧ s.onlyAnswer t ch []) ∧
    (∀ p : List Byte, s.safetyReset = false → s.fld F.BIST_STATUS_SAFE 0 = 0 →
      (s.guardFail p = none → ∃ t, exec (.guardMsg 32 p) s = .next t ∧ t.answered 32 St.OK (leBytes 8 (le p 16 8) ++ bytesAt p 24 6 ++ [0, 0]) ∧ t.guardCtr = le p 16 8 ∧
        t.fld F.GUARD_HIST_ACCEPTED 0 = 1 ∧ t.fld F.GUARD_ACCEPT_CNT_COUNT 0 = min (s.fld F.GUARD_ACCEPT_CNT_COUNT 0 + 1) (2 ^ 32 - 1) ∧
        t.guard.queue = s.guard.queue ++ [⟨le p 16 8, le p 1 1, le p 12 4, le p 24 6, le p 30 1, (p.drop 32).take (p.length - 64)⟩] ∧ t.flash = s.flash.append 3 0 (le p 16 8)) ∧
      (∀ st, s.guardFail p = some st → ∃ t, exec (.guardMsg 32 p) s = .next t ∧ t.answered 32 (st % 256) (leBytes 8 s.guardCtr ++ zeroBytes 8) ∧ t.fld F.GUARD_HIST_REJECTED 0 = 1 ∧
        t.fld F.GUARD_REJECT_CNT_COUNT 0 = min (s.fld F.GUARD_REJECT_CNT_COUNT 0 + 1) (2 ^ 32 - 1) ∧ t.guard = s.guard ∧ t.guardCtr = s.guardCtr)) ∧
    (∀ o, s.guard.queue = [o] → ∀ h n, h < 32 → o.op = 10 → o.heads = 2 ^ h → le o.body 0 1 = 1 →
      (o.frame ≤ n → ∃ t, exec (.guardOpApply o.tl n) s = .next t ∧ bitOf (t.fld F.GUARD_LOCK_LOCK 0) h = true ∧ t.guard.queue = [] ∧ s.regsKept t [F.GUARD_LOCK_LOCK.key 0]) ∧
      (n < o.frame → ∃ t, exec (.guardOpApply o.tl n) s = .next t ∧ s.onlyRegs t [])))

/-- The commands of heads, layers, colour and stills wait for the frame start or act at once, and the status commands answer (R427, R428, R434, R436, R437, R438, R439, R440, R442, R461, R736, section 11_composition_and_guard.md). -/
def Obligations.HeadCommandsAct : Prop :=
  ∀ (s : State) (ch : Nat), s.held = false → s.fld F.BIST_STATUS_SAFE 0 = 0 → s.selftest 0x0C = false → ch ≤ 32 →
    (∀ h, h < 32 → h < s.heads → (s.head h).pend = [] →
      (s.on F.HEAD_CFG_EN h = false → s.fld F.HEAD_CFG_FORMAT h = 15 → s.fld F.HEAD_CFG_TL h = 1 → s.headFits 1 15 = true → s.headState h = 0 →
        ∃ t, exec (.headSet ch ([BitVec.ofNat 8 h, 31, 15, 0] ++ leBytes 2 1019 ++ leBytes 2 4 ++ leBytes 2 512 ++ [0, 0])) s = .next t ∧ t.answered ch St.OK [] ∧
          (t.head h).pend = [⟨0, h, 1 + 2 + 60 + 7 * 128⟩, ⟨1, h, 1019 + 4 * 1024 + 512 * 1048576⟩] ∧ t.headState h = 1) ∧
      (∀ l, l < 16 → (∀ k, k < 16 → s.on F.LAYER_CFG_EN (16 * h + k) = false) →
        ∃ t, exec (.layerSet ch ([BitVec.ofNat 8 h, BitVec.ofNat 8 l, 15, 3, 3, 255] ++ leBytes 2 4 ++ leBytes 2 1019 ++ leBytes 2 3839 ++ leBytes 2 2159 ++ leBytes 2 3840 ++ leBytes 2 2160
            ++ leBytes 2 61440 ++ leBytes 2 4095 ++ leBytes 2 3840 ++ leBytes 2 2160 ++ [0, 0])) s = .next t ∧ t.answered ch St.OK [] ∧
          (t.head h).pend = [⟨4, 16 * h + l, 1 + 6 + 24 + 224 + 255 * 65536⟩, ⟨5, 16 * h + l, 3839 + 2159 * 65536⟩, ⟨6, 16 * h + l, 3840 + 2160 * 65536⟩,
            ⟨7, 16 * h + l, 4096 + 4095 * 65536⟩, ⟨8, 16 * h + l, 3840 + 2160 * 65536⟩, ⟨9, 16 * h + l, 4 + 1019 * 65536⟩] ∧ s.regsKept t []) ∧
      (∃ t, exec (.zorderSet ch ([BitVec.ofNat 8 h, 0, 0, 0] ++ leBytes 4 0x89ABCDEF ++ leBytes 4 0x01234567)) s = .next t ∧ t.answered ch St.OK [] ∧
        (t.head h).pend = [⟨2, h, 0x89ABCDEF⟩, ⟨3, h, 0x01234567⟩] ∧ s.regsKept t []) ∧
      (∀ w, w ≤ 16 →
        (∃ t, exec (.lutSet ch ([BitVec.ofNat 8 h, BitVec.ofNat 8 w, 2, 0, 0, 0] ++ leBytes 2 1023 ++ leBytes 2 4095)) s = .next t ∧ t.answered ch St.OK [] ∧
          (t.colour.look (bankKey h w (s.spareBank h w))).edits.look (2 * 1024 + 1023) = some 4095 ∧ (t.head h).pend = [] ∧ s.regsKept t []) ∧
        (∃ t, exec (.cscSet ch ([BitVec.ofNat 8 h, BitVec.ofNat 8 w, 3, 3] ++ zeroBytes 28)) s = .next t ∧ t.answered ch St.OK [] ∧
          (t.colour.look (bankKey h w (s.spareBank h w))).cscPreset = 3 ∧ (t.colour.look (bankKey h w (s.spareBank h w))).coef = none ∧
          (t.head h).pend = [⟨10, w, s.spareBank h w⟩] ∧ s.regsKept t []))) ∧
    (∀ k base, k < 32 → base < 4096 → s.stillFits k base 15 true = true →
      ∃ t d, exec (.stillSet ch ([BitVec.ofNat 8 k, 7, 15, 0] ++ leBytes 4 base ++ [0, 0, 0, 0])) s = .next t ∧ t.answered ch St.OK d ∧ d.length = 16 ∧ t.fld F.STILL_CFG_EN k = 1 ∧
        t.fld F.STILL_CFG_FORMAT k = 15 ∧ t.fld F.STILL_CFG_ALPHA k = 1 ∧ t.fld F.STILL_CFG_TL k = 1 ∧ t.fld F.STILL_BASE_BASE k = base) ∧
    (∀ k, k < 32 → ∃ t, exec (.stillCommit ch [BitVec.ofNat 8 k, 0, 0, 0]) s = .next t ∧ t.answered ch St.OK [] ∧
      (t.stills.look k).due = some (s.tlFrame (s.fld F.STILL_CFG_TL k) + 1)) ∧
    (∀ h, h < 32 → h < s.heads → ∃ t d, exec (.headGetStatus ch [BitVec.ofNat 8 h, 0, 0, 0]) s = .next t ∧ t.answered ch St.OK d ∧ d.length = 20 ∧ t.fld F.HEAD_LATE_CNT_COUNT h = 0 ∧
      s.onlyAnswer t ch [F.HEAD_LATE_CNT_COUNT.key h]) ∧
    (∀ c, c ≤ 127 → s.safetyReset = false → ∃ t, exec (.glyphRead ch [BitVec.ofNat 8 c, 1, 0, 0]) s = .next t ∧ t.answered ch St.OK (s.glyph c) ∧ s.onlyAnswer t ch [])

/-- A house sample fills its group, offsets are fixed at a full buffer, fades and crossfades end, blocks missed are tried again, and routes apply when due (R464, R470, R473, R474, R477, R479, section 12_audio.md). -/
def Obligations.AudioGroupsRoutesAndCrossfades : Prop :=
  ∀ (s : State), s.held = false →
    (∀ g x, s.aud.groups = [(g, x)] → g < 128 → s.grpState g = 1 → s.groupFed g = true → s.mutedGroups g = 0 → x.buf.length < 63 → ∀ n v,
      ∃ t, exec (.audioSample n [⟨g, 0, v, false, none⟩]) s = .next t ∧ (t.grp g).buf = x.buf ++ [v.take (s.fedChannels g)] ∧ (t.grp g).written = x.written + 1 ∧
        t.fld F.AUD_GRP_STATUS_FILL g = x.buf.length + 1 ∧ t.grpState g = 1 ∧ t.aud.now = n) ∧
    (∀ g h, g < 912 → s.timelineGrp g = false → s.grpState g = 1 →
      (s.fld F.AUD_GRP_CFG_DELAY g ≤ (s.grp g).buf.length → (s.grp g).again = false →
        ∃ t, exec (.groupOffsetFix g h) s = .next t ∧ t.grpState g = 2 ∧ (t.grp g).k0 = (h : Int) - (s.grp g).written + s.fld F.AUD_GRP_CFG_DELAY g ∧
          t.fld F.AUD_GRP_OFS_OFS g = patternOf 32 (t.grp g).k0 % 2 ^ 32 ∧ s.regsKept t [F.AUD_GRP_STATUS_STATE.key g, F.AUD_GRP_OFS_OFS.key g]) ∧
      (s.fld F.AUD_GRP_CFG_DELAY g ≤ (s.grp g).buf.length → (s.grp g).again = true →
        ∃ t, exec (.groupOffsetFix g h) s = .next t ∧ t.grpState g = 5 ∧ (t.grp g).k0 = (h : Int) - (s.grp g).written + s.fld F.AUD_GRP_CFG_DELAY g ∧ (t.grp g).k = 0 ∧
          (t.grp g).m = 48 * s.fld F.AUD_CFG_FADE_MS 0 ∧ t.fld F.AUD_GRP_HIST_RESYNC g = 1) ∧
      ((s.grp g).buf.length < s.fld F.AUD_GRP_CFG_DELAY g → ∃ t, exec (.groupOffsetFix g h) s = .next t ∧ s.onlyRegs t [])) ∧
    (∀ g h, s.timelineGrp g = true ∨ s.grpState g ≠ 1 → ∃ t, exec (.groupOffsetFix g h) s = .next t ∧ s.onlyRegs t []) ∧
    (∀ g, g < 912 → (s.grp g).m ≤ (s.grp g).k →
      (s.grpState g = 3 → ∃ t, exec (.fadeEnd g) s = .next t ∧ t.grpState g = (if s.timelineGrp g = true then 4 else 1) ∧ (t.grp g).buf = [] ∧ (t.grp g).again = true ∧
        s.regsKept t [F.AUD_GRP_STATUS_STATE.key g]) ∧
      (s.grpState g = 5 → ∃ t, exec (.fadeEnd g) s = .next t ∧ t.grpState g = 2 ∧ s.onlyRegs t [F.AUD_GRP_STATUS_STATE.key g])) ∧
    (∀ g, (s.grp g).k < (s.grp g).m ∨ (s.grpState g ≠ 3 ∧ s.grpState g ≠ 5) → ∃ t, exec (.fadeEnd g) s = .next t ∧ s.onlyRegs t []) ∧
    (∀ x, s.aud.missed = [x] → x.ring < 320 → s.aud.blocks = [] → s.on F.FAB_RX_STREAM_EN x.ring = true → s.fld F.FAB_RX_STREAM_STREAM x.ring = x.stream →
      ∃ t, exec (.audBlockRetry x.ring) s = .next t ∧ t.aud.blocks.look 0 = some x ∧ t.aud.missed = [] ∧ t.fld F.AUD_GRP_STATUS_RING 256 = x.ring ∧
        t.fld F.AUD_STATUS_FAB_BLOCKS_USED 0 = 1) ∧
    (∀ r, s.aud.routes = [r] → r.frame = 0 → ∀ o v, r.set = [(o, v)] → o < 8192 → ∀ n,
      (r.sample ≤ n → ∃ t, exec (.routeApply n) s = .next t ∧ t.fld F.AUD_XP_SRC o = v % 8192 ∧ t.fld F.AUD_XP_MODE o = min 2 (v / 8192 % 4) ∧ t.aud.routes = [] ∧
        s.regsKept t [F.AUD_XP_SRC.key o, F.AUD_XP_MODE.key o, F.AUD_XP_XFADING.key o, F.AUD_HIST_XFADE_WAITED.key 0]) ∧
      (n < r.sample → ∃ t, exec (.routeApply n) s = .next t ∧ s.onlyRegs t [])) ∧
    (∀ o x, s.aud.xfades.look o = some x → o < 8192 → x.len ≤ x.k →
      (x.wait = [] → ∃ t, exec (.crossfadeEnd o) s = .next t ∧ t.aud.xfades.look o = none ∧ t.fld F.AUD_XP_XFADING o = 0 ∧ s.regsKept t [F.AUD_XP_XFADING.key o]) ∧
      (∀ w n, x.wait = [(w, n)] → 0 < n → ∃ t, exec (.crossfadeEnd o) s = .next t ∧ t.aud.xfades.look o = some ⟨x.new, w, 0, n, []⟩ ∧ t.fld F.AUD_XP_XFADING o = 1 ∧
        s.regsKept t [F.AUD_XP_XFADING.key o])) ∧
    (∀ o x, s.aud.xfades.look o = some x → x.k < x.len → ∃ t, exec (.crossfadeEnd o) s = .next t ∧ s.onlyRegs t []) ∧
    (∀ o, s.aud.xfades.look o = none → ∃ t, exec (.crossfadeEnd o) s = .next t ∧ s.onlyRegs t [])

/-- Serial audio ports lose their clock, lock, change rate and start together, and the audio commands store, queue, arm and answer (R467, R473, R476, R477, R482, R484, R486, R487, R490, R491, section 12_audio.md). -/
def Obligations.SerialAudioPortsAndAudioCommandsAct : Prop :=
  (∀ (s : State) (n : Nat), s.held = false → n < 16 →
    (s.on F.SAP_CFG_TX_MASTER n = false → s.fld F.SAP_CFG_MODE n ≠ 3 → s.fld F.SAP_STATUS_TX_STATE n = 2 →
      ∃ t, exec (.sapClockLost n true) s = .next t ∧ t.fld F.SAP_STATUS_TX_STATE n = 3 ∧ t.fld F.SAP_HIST_CLK_LOST n = 1 ∧
        s.onlyRegs t [F.SAP_STATUS_TX_STATE.key n, F.SAP_HIST_CLK_LOST.key n]) ∧
    (s.on F.SAP_CFG_RX_MASTER n = false → s.fld F.SAP_CFG_MODE n ≠ 3 → s.fld F.SAP_STATUS_RX_STATE n = 2 →
      ∃ t, exec (.sapClockLost n false) s = .next t ∧ t.fld F.SAP_STATUS_RX_STATE n = 3 ∧ t.fld F.SAP_HIST_CLK_LOST n = 1) ∧
    (s.on F.SAP_CFG_TX_MASTER n = true ∨ s.fld F.SAP_STATUS_TX_STATE n ≠ 2 ∨ s.fld F.SAP_CFG_MODE n = 3 → ∃ t, exec (.sapClockLost n true) s = .next t ∧ s.onlyRegs t []) ∧
    (s.on F.SAP_CFG_RX_MASTER n = true ∨ s.fld F.SAP_STATUS_RX_STATE n ≠ 2 ∨ s.fld F.SAP_CFG_MODE n = 3 → ∃ t, exec (.sapClockLost n false) s = .next t ∧ s.onlyRegs t []) ∧
    (∀ rate, s.fld F.SAP_CFG_MODE n = 3 → s.on F.SAP_CFG_ASRC n = true → s.fld F.SAP_STATUS_RX_STATE n ≠ 0 → 32000 ≤ rate → rate ≤ 96000 → s.on F.SAP_STATUS_AES_LOCK n = false →
      ∃ t, exec (.aes3Lock n rate) s = .next t ∧ t.fld F.SAP_STATUS_AES_LOCK n = 1 ∧ t.fld F.SAP_HIST_AES_LOCK_GAINED n = 1 ∧ t.fld F.SAP_STATUS_RX_RATE n = rate ∧
        t.fld F.SAP_STATUS_ASRC_MUTED n = 1 ∧ t.fld F.SAP_HIST_ASRC_RESET n = 1 ∧ (t.grp (896 + n)).mute = 64) ∧
    (∀ rate, s.fld F.SAP_CFG_MODE n ≠ 3 ∨ s.fld F.SAP_STATUS_RX_STATE n = 0 ∨ rate < 32000 ∨ 96000 < rate ∨ s.on F.SAP_STATUS_AES_LOCK n = true →
      ∃ t, exec (.aes3Lock n rate) s = .next t ∧ s.onlyRegs t []) ∧
    (s.on F.SAP_STATUS_AES_LOCK n = true → (∃ t, exec (.aes3LockLost n) s = .next t ∧ t.fld F.SAP_STATUS_AES_LOCK n = 0 ∧ t.fld F.SAP_HIST_AES_LOCK_LOST n = 1) ∧
      ∀ rate, rate < 32000 ∨ 96000 < rate → ∃ t, exec (.aes3RateChange n rate) s = .next t ∧ t.fld F.SAP_STATUS_AES_LOCK n = 0 ∧ t.fld F.SAP_HIST_AES_LOCK_LOST n = 1) ∧
    (s.on F.SAP_STATUS_AES_LOCK n = false → (∃ t, exec (.aes3LockLost n) s = .next t ∧ s.onlyRegs t []) ∧ ∀ rate, ∃ t, exec (.aes3RateChange n rate) s = .next t ∧ s.onlyRegs t []) ∧
    (∀ rate, s.on F.SAP_STATUS_AES_LOCK n = true → 32000 ≤ rate → rate ≤ 96000 →
      (100 * (max (s.fld F.SAP_STATUS_RX_RATE n) rate - min (s.fld F.SAP_STATUS_RX_RATE n) rate) ≤ s.fld F.SAP_STATUS_RX_RATE n →
        ∃ t, exec (.aes3RateChange n rate) s = .next t ∧ t.fld F.SAP_STATUS_RX_RATE n = rate ∧ s.onlyRegs t [F.SAP_STATUS_RX_RATE.key n]) ∧
      (s.fld F.SAP_STATUS_RX_RATE n < 100 * (max (s.fld F.SAP_STATUS_RX_RATE n) rate - min (s.fld F.SAP_STATUS_RX_RATE n) rate) → s.sapAsrc n = true →
        ∃ t, exec (.aes3RateChange n rate) s = .next t ∧ t.fld F.SAP_STATUS_RX_RATE n = rate ∧ t.fld F.SAP_STATUS_ASRC_MUTED n = 1 ∧ (t.grp (896 + n)).mute = 64)) ∧
    (s.on F.SAP_START_HI_ARMED 0 = true → s.bitAt F.SAP_START_MASK_RX 0 n = true → s.bitAt F.SAP_START_MASK_TX 0 n = false → s.fld F.SAP_STATUS_RX_STATE n = 1 →
      ∃ t, exec .sapCommonStart s = .next t ∧ t.fld F.SAP_STATUS_RX_STATE n = 2 ∧ t.fld F.SAP_STATUS_TX_STATE n = s.fld F.SAP_STATUS_TX_STATE n ∧ t.fld F.SAP_START_HI_ARMED 0 = 0 ∧
        t.fld F.AUD_HIST_STARTED 0 = 1) ∧
    (s.on F.SAP_START_HI_ARMED 0 = false → ∃ t, exec .sapCommonStart s = .next t ∧ s.onlyRegs t [])) ∧
  (∀ (s : State) (ch : Nat), s.held = false → s.fld F.BIST_STATUS_SAFE 0 = 0 → s.selftest 0x0E = false → s.audOff = false → ch ≤ 32 →
    (∃ t, exec (.audSet ch ([100, 64, 15, 1] ++ leBytes 2 20000 ++ [127, 0])) s = .next t ∧ t.answered ch St.OK [] ∧ t.fld F.AUD_CFG_FADE_MS 0 = 100 ∧
      t.fld F.AUD_CFG_XFADE_MS 0 = 64 ∧ t.fld F.AUD_TONE_EN 15 = 1 ∧ t.fld F.AUD_TONE_FREQ 15 = 20000 ∧ t.fld F.AUD_TONE_ATTEN 15 = 127 ∧
      s.onlyAnswer t ch [F.AUD_CFG_FADE_MS.key 0, F.AUD_CFG_XFADE_MS.key 0, F.AUD_TONE_EN.key 15, F.AUD_TONE_FREQ.key 15, F.AUD_TONE_ATTEN.key 15]) ∧
    (∃ t, exec (.audRoute ch ([1, 0, 1, 0] ++ zeroBytes 8 ++ leBytes 2 8191 ++ leBytes 2 0x5FFF)) s = .next t ∧ t.answered ch St.OK [] ∧
      t.aud.routes = s.aud.routes ++ [⟨1, 0, (s.houseCount / 48 + 1) * 48, [(8191, 0x5FFF)]⟩] ∧ s.regsKept t []) ∧
    (∀ i, i < 336 → s.sourceHas i = true → ∃ t, exec (.audMap ch ([0, 0] ++ leBytes 2 i ++ leBytes 2 8191 ++ [32, 0])) s = .next t ∧ t.answered ch St.OK [] ∧ t.fld F.AUD_SRCMAP_FIRST i = 8191 ∧
      t.fld F.AUD_SRCMAP_COUNT i = 32 ∧ s.onlyAnswer t ch [F.AUD_SRCMAP_FIRST.key i, F.AUD_SRCMAP_COUNT.key i]) ∧
    (∀ g d, g < 912 → delayOk g d = true → s.groupAbsent g = false → ∃ t, exec (.audGrpSet ch (leBytes 2 g ++ leBytes 2 d)) s = .next t ∧ t.answered ch St.OK [] ∧ t.fld F.AUD_GRP_CFG_DELAY g = d ∧
      s.onlyAnswer t ch [F.AUD_GRP_CFG_DELAY.key g]) ∧
    (∀ n, n < 16 → s.sapBad n = false → s.fld F.SAP_STATUS_RX_STATE n = 0 → s.fld F.SAP_STATUS_TX_STATE n = 0 →
      ∃ t, exec (.sapSet ch ([BitVec.ofNat 8 n, 3, 3, 255] ++ leBytes 4 0xDEADBEEF ++ zeroBytes 4)) s = .next t ∧ t.answered ch St.OK [] ∧ t.fld F.SAP_CFG_MODE n = 3 ∧
        t.fld F.SAP_CFG_CH n = 3 ∧ t.fld F.SAP_CFG_RX_EN n = 1 ∧ t.fld F.SAP_CFG_TX_EN n = 1 ∧ t.fld F.SAP_CS_TX_CS n = 0xDEADBEEF ∧ t.fld F.SAP_STATUS_RX_STATE n = 1 ∧
        t.fld F.SAP_STATUS_TX_STATE n = 1) ∧
    (∀ n f, n < 16 → s.fld F.SAP_STATUS_RX_STATE n = 1 → s.tlFrame 1 < f → f < 2 ^ 48 →
      ∃ t, exec (.sapStart ch (leBytes 2 (2 ^ n) ++ [0, 0, 1, 0] ++ leBytes 6 f)) s = .next t ∧ t.answered ch St.OK [] ∧ t.fld F.SAP_START_MASK_RX 0 = 2 ^ n ∧
        t.fld F.SAP_START_MASK_TX 0 = 0 ∧ t.fld F.SAP_START_LO_FRAME 0 + t.fld F.SAP_START_HI_FRAME 0 * 2 ^ 32 = f ∧ t.fld F.SAP_START_HI_TL 0 = 1 ∧ t.fld F.SAP_START_HI_ARMED 0 = 1) ∧
    (∀ g, g < 912 → s.groupAbsent g = false → ∃ t d, exec (.audGetStatus ch (leBytes 2 g ++ [0, 0])) s = .next t ∧ t.answered ch St.OK d ∧ d.length = 20 ∧ t.fld F.AUD_GRP_UNDER_CNT_COUNT g = 0 ∧
      t.fld F.AUD_GRP_OVER_CNT_COUNT g = 0 ∧ s.onlyAnswer t ch [F.AUD_GRP_UNDER_CNT_COUNT.key g, F.AUD_GRP_OVER_CNT_COUNT.key g]))

/-- A tap's frame becomes records, and records become a bale that is opened, written in chunks, sealed into its chain, or dropped whole (R494, R498, R503, R504, R506, R510, R511, R512, R513, R521, section 13_witness_and_incident.md). -/
def Obligations.BalesOpenFillSealAndChain : Prop :=
  (∀ (s : State) (o n : Nat), s.held = false → (s.tap o).pend = none → s.wit.closing = false →
    (s.tapOn o = false → s.captured o = false → (s.chain o).bales = [] →
      ∃ t, exec (.tapFrame o n) s = .next t ∧ (t.tap o).sigs = ((s.tap o).sigs ++ [(n, crc64 (s.sentPic o))]).drop ((s.tap o).sigs.length + 1 - 4) ∧
        (t.tap o).events = [] ∧ (t.tap o).pcm = [] ∧ t.chain o = s.chain o ∧ s.onlyWit t []) ∧
    (s.tapOn o = true → s.captured o = false → s.proxyDue o n = false → (s.tap o).events = [] → (s.chain o).bales = [] →
      ∃ t, exec (.tapFrame o n) s = .next t ∧ (t.chain o).wait.length = (s.chain o).wait.length + 2 ∧ (t.chain o).wait.take (s.chain o).wait.length = (s.chain o).wait ∧
        (∃ r, (t.chain o).wait[(s.chain o).wait.length]? = some r ∧ r.frame = some n ∧ r.bytes.length = 40 ∧ r.bytes.head? = some 1 ∧
          r.bytes.drop 32 = leBytes 8 (crc64 (s.sentPic o))) ∧
        (∃ a, (t.chain o).wait[(s.chain o).wait.length + 1]? = some a ∧ a.frame = none ∧ a.bytes.head? = some 3) ∧ (t.tap o).pend = none ∧ s.onlyWit t []) ∧
    (s.tapOn o = true → s.proxyDue o n = true →
      ∃ t, exec (.tapFrame o n) s = .next t ∧ t.chain o = s.chain o ∧
        (∃ p, (t.tap o).pend = some p ∧ p.frame = n ∧ p.pic = s.sentPic o ∧ p.proxyDue = true ∧ p.fullDue = s.captured o) ∧ (t.tap o).events = [] ∧ s.onlyWit t [])) ∧
  (∀ (s : State) (o : Nat), s.held = false → ∀ p, (s.tap o).pend = some p → ∀ shifts : List Nat,
    (p.proxyDue = true → (s.chain o).bales = [] →
      (p.bad = false → ∃ t, exec (.pictureCoded o false shifts false) s = .next t ∧ (t.chain o).wait = (s.chain o).wait ++ frameRecs p (some (pictureRecord p false shifts)) ∧
        (t.tap o).pend = (if p.fullDue then some { p with proxyDue := false } else none) ∧ s.onlyWit t []) ∧
      (∃ t, exec (.pictureCoded o false shifts true) s = .next t ∧ (t.chain o).wait = (s.chain o).wait ++ frameRecs p none ∧ t.fld F.WIT_HIST_PIC_DROP 0 = 1 ∧
        t.fld F.WIT_PIC_DROP_CNT_COUNT 0 = min (s.fld F.WIT_PIC_DROP_CNT_COUNT 0 + 1) (2 ^ 32 - 1) ∧
        s.onlyWit t [F.WIT_HIST_PIC_DROP.key 0, F.WIT_PIC_DROP_CNT_COUNT.key 0])) ∧
    (p.fullDue = true → s.incState = 1 → s.incTaps = [o] → (s.chain (256 + o)).wait = [] → s.wit.ring = [] → recsSize (frameRecs p none) ≤ 10 * gib →
      ∃ t, exec (.pictureCoded o true shifts true) s = .next t ∧ t.wit.ring = [⟨o, p.frame, frameRecs p none⟩] ∧ t.fld F.WIT_HIST_PIC_DROP 0 = 1)) ∧
  (∀ (s : State) (o : Nat) (full late : Bool) (shifts : List Nat), s.held = false → (s.tap o).pend = none →
    ∃ t, exec (.pictureCoded o full shifts late) s = .next t ∧ s.onlyRegs t []) ∧
  (∀ (s : State) (k : Nat), s.held = false → k < 512 → (s.chain k).wait ≠ [] → (s.chain k).bales = [] →
    (s.wit.set = none → s.tapOn (k % 256) = false → s.captured (k % 256) = false →
      ∃ t, exec (.baleOpen k) s = .next t ∧ (t.chain k).wait = [] ∧ (t.chain k).nextSeq = (s.chain k).nextSeq + 1 ∧ t.fld F.WIT_HIST_BALE_DROP 0 = 1 ∧
        s.onlyWit t [F.WIT_BALE_DROP_CNT_COUNT.key 0, F.WIT_HIST_BALE_DROP.key 0, F.WIT_TAP_DROP_CNT_COUNT.key (k % 256)]) ∧
    (∀ w, s.wit.set = some w → w.up = true → w.encrypted = false → 0 < w.ring →
      s.slotBusy (decide (256 ≤ k)) (if 256 ≤ k then w.perDrive + 10240 * s.wit.extent + s.wit.incSlot else w.headSlot) = false →
      ∃ t, exec (.baleOpen k) s = .next t ∧ (t.chain k).nextSeq = (s.chain k).nextSeq + 1 ∧ (∃ x, (t.chain k).bales[0]? = some x ∧ (t.chain k).bales.length = 1 ∧ x.seq = (s.chain k).nextSeq ∧
          x.ringSeq = w.ringNext ∧ x.slot = (if 256 ≤ k then w.perDrive + 10240 * s.wit.extent + s.wit.incSlot else w.headSlot)) ∧
        t.wit.incSlot = (if 256 ≤ k then s.wit.incSlot + 1 else s.wit.incSlot) ∧
        t.wit.set = some { w with headSlot := if 256 ≤ k then w.headSlot else (w.headSlot + 1) % w.ring, ringNext := w.ringNext + 1 } ∧
        (∀ e ∈ s.slotDrives w (decide (256 ≤ k)) (if 256 ≤ k then w.perDrive + 10240 * s.wit.extent + s.wit.incSlot else w.headSlot),
          driveGet (t.drive e.1).data (slotAddr e.2) 512 = openHeader (k % 256) (s.chain k).capture (s.chain k).nextSeq w.ringNext w.id) ∧ s.onlyWit t []) ∧
    (∀ w, s.wit.set = some w → w.up = true → w.encrypted = false →
      s.slotBusy (decide (256 ≤ k)) (if 256 ≤ k then w.perDrive + 10240 * s.wit.extent + s.wit.incSlot else w.headSlot) = true →
      ∃ t, exec (.baleOpen k) s = .next t ∧ s.onlyRegs t [])) ∧
  (∀ (s : State) (k : Nat), s.held = false → k < 512 → ∀ x, (s.chain k).bales = [x] →
    (∀ w, s.wit.set = some w → w.encrypted = false → x.chunk ≠ 0 →
      ∃ t, exec (.chunkWriteDone k) s = .next t ∧ (t.chain k).bales = [{ x with done := x.done + x.chunk }] ∧
        (∀ e ∈ s.slotDrives w (decide (256 ≤ k)) x.slot, t.drive e.1 = (s.drive e.1).write false (slotAddr e.2 + 512 + x.done) ((x.body.drop x.done).take x.chunk)) ∧ s.onlyWit t []) ∧
    (s.tapOn (k % 256) = false → s.captured (k % 256) = false →
      ∃ t, exec (.stagingFullDrop k) s = .next t ∧ (t.chain k).bales = [] ∧ t.fld F.WIT_HIST_BALE_DROP 0 = 1 ∧
        s.onlyWit t [F.WIT_BALE_DROP_CNT_COUNT.key 0, F.WIT_HIST_BALE_DROP.key 0, F.WIT_TAP_DROP_CNT_COUNT.key (k % 256)]) ∧
    (∃ t, exec (.sealTimeout k) s = .next t ∧ (t.chain k).bales = [{ x with sealing := some (x.sealing.getD false) }] ∧ s.onlyWit t []) ∧
    (∀ w, s.wit.set = some w → w.encrypted = false → w.id.length = 16 → x.sealing = some false → x.done = x.body.length → x.body.length ≤ bodyMax → x.seq % 8 ≠ 7 →
      ∃ t, exec (.baleSeal k) s = .next t ∧ (t.chain k).bales = [] ∧ (∃ l, (t.chain k).last = some l ∧ l.1 = x.seq ∧ l.2.1 = x.slot ∧
          ∀ e ∈ s.slotDrives w (decide (256 ≤ k)) x.slot, sha384 (driveGet (t.drive e.1).data (slotAddr e.2) 184) = l.2.2) ∧ t.wit.set = some { w with sealedCnt := if 256 ≤ k then w.sealedCnt else w.sealedCnt + 1 } ∧ s.onlyWit t [])) ∧
  (∀ (s : State), s.held = false → ∀ w, s.wit.set = some w →
    (∃ t, exec .witCheckpoint s = .next t ∧ t.wit.set = some { w with flushing := w.flushing || w.up } ∧
      (∀ d < 2, w.up = true → s.driveState d = 2 → (t.drive d).flush = (s.drive d).soft ∧ Out.driveFlush d ∈ t.out) ∧ s.onlyWit t []) ∧
    (w.flushing = true → s.witState = 3 → s.witIdle = true →
      ∃ t, exec .flushDone s = .next t ∧ t.wit.set = some { w with ckptSeq := w.ckptSeq + 1, sealedCnt := 0, flushing := false } ∧ t.witState = 0 ∧
        (∀ d < 2, s.driveState d = 2 → (t.drive d).flush = [] ∧ le (driveGet (t.drive d).data (65536 * ((w.ckptSeq + 1) % 2) + 64) 8) 0 8 = (w.ckptSeq + 1) % 2 ^ 64) ∧
        s.onlyWit t [F.WIT_STATUS_STATE.key 0]))

/-- A drive fails and is rebuilt, a mount ends with or without a set, health is recorded, and a trigger opens, extends or misses a capture (R522, R523, R524, R525, R527, R528, R529, R530, section 13_witness_and_incident.md). -/
def Obligations.DrivesFailAndCapturesRun : Prop :=
  (∀ (s : State) (d : Nat), s.held = false → d < 2 →
    (s.driveState d = 0 ∨ s.driveState d = 3 → ∃ t, exec (.driveFailed d) s = .next t ∧ s.onlyRegs t []) ∧
    (∀ w, s.wit.set = some w → s.driveState d = 2 →
      ∃ t, exec (.driveFailed d) s = .next t ∧ t.driveState d = 3 ∧ t.fld F.WIT_HIST_DRIVE_LOST 0 = 1 ∧ t.fld F.BLK_FAULT_FAULT_LASTING 0x0F = 1 ∧
        t.fld F.WIT_DRV_ERR_CNT_COUNT d = min (s.fld F.WIT_DRV_ERR_CNT_COUNT d + 1) (2 ^ 32 - 1) ∧
        (w.layout = 1 → s.driveState (1 - d) = 2 → t.fld F.WIT_STATUS_DEGRADED 0 = 1 ∧ t.wit = s.wit) ∧
        (w.layout ≠ 1 → t.wit = { s.wit with set := some { w with up := false } }) ∧
        s.regsKept t [F.WIT_DRV_STATUS_STATE.key d, F.WIT_HIST_DRIVE_LOST.key 0, F.WIT_DRV_ERR_CNT_COUNT.key d, F.WIT_STATUS_DEGRADED.key 0, F.BLK_FAULT_FAULT_CODE.key 0x0F,
          F.BLK_FAULT_FAULT_INST.key 0x0F, F.BLK_FAULT_FAULT_LASTING.key 0x0F, F.BLK_FAULT_CNT_LASTING_CNT.key 0x0F]) ∧
    (∀ crit used spare temp duw err, s.driveState d ≠ 0 → s.driveState d ≠ 3 →
      ∃ t, exec (.smartPoll d crit used spare temp duw err) s = .next t ∧ t.fld F.WIT_DRV_STATUS_USED d = min used 255 ∧ t.fld F.WIT_DRV_STATUS_SPARE d = min spare 255 ∧
        t.fld F.WIT_DRV_STATUS_CRIT d = bit (crit != 0) ∧ t.drive d = { s.drive d with crit := crit, used := used, spare := spare, temp := temp, duw := duw, mediaErr := err } ∧
        (crit ≠ 0 ∨ s.fld F.WIT_DRV_WEAR_WEAR_WARN d ≤ used → t.fld F.WIT_HIST_WEAR_WARN 0 = 1) ∧
        s.onlyWit t [F.WIT_DRV_STATUS_USED.key d, F.WIT_DRV_STATUS_SPARE.key d, F.WIT_DRV_STATUS_CRIT.key d, F.WIT_HIST_WEAR_WARN.key 0])) ∧
  (∀ (s : State), s.held = false →
    (∀ w, s.wit.set = some w → s.driveState 0 = 2 → s.driveState 1 = 4 →
      ∃ t, exec .rebuildDone s = .next t ∧ t.driveState 1 = 2 ∧ t.fld F.WIT_STATUS_DEGRADED 0 = 0 ∧ t.fld F.WIT_STATUS_REBUILDING 0 = 0 ∧ t.fld F.WIT_HIST_MOUNTED 0 = 1 ∧
        (∀ a, 0x20000 ≤ a → (t.drive 1).data.look a = (s.drive 0).view.look a) ∧
        s.onlyWit t [F.WIT_DRV_STATUS_STATE.key 1, F.WIT_STATUS_DEGRADED.key 0, F.WIT_STATUS_REBUILDING.key 0, F.WIT_HIST_MOUNTED.key 0]) ∧
    (s.witState ≠ 1 → ∃ t, exec .mountDone s = .next t ∧ s.onlyRegs t []) ∧
    (s.witState = 1 → s.driveState 0 = 0 → s.driveState 1 = 0 → ∃ t, exec .mountDone s = .next t ∧ t.witState = 0 ∧ s.onlyRegs t [F.WIT_STATUS_STATE.key 0]) ∧
    (∀ h, driveHead (s.drive 0) = some h → s.witState = 1 → s.driveState 0 = 1 → s.driveState 1 = 0 → le h 6 2 % 4 = 0 →
      ∃ t, exec .mountDone s = .next t ∧ (∃ w, t.wit.set = some w ∧ w.up = true ∧ w.id = bytesAt h 8 16 ∧ w.slots = le h 48 8 ∧ w.ckptSeq = le h 64 8) ∧ t.driveState 0 = 2 ∧
        t.fld F.WIT_STATUS_MOUNTED 0 = 1 ∧ t.fld F.WIT_STATUS_LAYOUT 0 = 0 ∧ t.fld F.WIT_HIST_MOUNTED 0 = 1 ∧ t.witState = (if s.on F.WIT_CFG_EN 0 then 2 else 0))) ∧
  (∀ (s : State) (rising : Bool), s.held = false →
    ((s.on F.INC_CFG_TRIG_EN 0 && (s.on F.INC_CFG_TRIG_POL 0 == rising)) = false → ∃ t, exec (.trigInEdge rising) s = .next t ∧ s.onlyRegs t []) ∧
    (s.on F.INC_CFG_TRIG_EN 0 = true → s.on F.INC_CFG_TRIG_POL 0 = rising →
      (s.incState = 1 → s.wit.set = none →
        ∃ t, exec (.trigInEdge rising) s = .next t ∧ t.fld F.WIT_HIST_TRIG_MISSED 0 = 1 ∧ t.fld F.INC_MISSED_CNT_COUNT 0 = min (s.fld F.INC_MISSED_CNT_COUNT 0 + 1) (2 ^ 32 - 1) ∧
          s.onlyRegs t [F.WIT_HIST_TRIG_MISSED.key 0, F.INC_MISSED_CNT_COUNT.key 0]) ∧
      (∀ w, s.wit.set = some w → s.incState = 1 → w.extents ≠ 0 → w.nextCapture < 2 ^ 32 →
        ∃ t, exec (.trigInEdge rising) s = .next t ∧ t.incState = 2 ∧ t.fld F.INC_CAPTURE_CAPTURE 0 = w.nextCapture ∧ t.fld F.WIT_HIST_INC_TRIGGERED 0 = 1 ∧
          t.wit.set = some { w with nextCapture := w.nextCapture + 1 } ∧ t.wit.t0 = s.tlFrame s.wit.tl ∧
          t.wit.postEnd = s.tlFrame s.wit.tl + s.incFrames (s.fld F.INC_CFG_POST_S 0) ∧ t.wit.ring = []) ∧
      (s.incState = 2 → ∃ t, exec (.trigInEdge rising) s = .next t ∧ t.incState = 2 ∧
        t.wit.postEnd = min (max s.wit.postEnd (s.tlFrame s.wit.tl + s.incFrames (s.fld F.INC_CFG_POST_S 0))) (s.wit.t0 + s.incFrames 60) ∧
        s.onlyWit t [F.INC_TRIG_CNT_COUNT.key 0]))) ∧
  (∀ (s : State), s.held = false →
    (s.incState = 2 → ∃ t, exec .postEnd s = .next t ∧ t.incState = 3 ∧
      (∀ k ∈ s.incTaps, ∀ x, (s.chain (256 + k)).bales.getLast? = some x → x.sealing = none →
        (t.chain (256 + k)).bales = (s.chain (256 + k)).bales.dropLast ++ [{ x with sealing := some true }]) ∧
      s.onlyWit t [F.INC_STATUS_STATE.key 0]) ∧
    (s.incState ≠ 2 → ∃ t, exec .postEnd s = .next t ∧ s.onlyRegs t []) ∧
    (s.incState = 3 → (∀ k ∈ s.incTaps, (s.chain (256 + k)).bales = [] ∧ (s.chain (256 + k)).wait = []) →
      ∃ t, exec .incCopyDone s = .next t ∧ t.incState = 1 ∧ t.fld F.WIT_HIST_INC_DONE 0 = 1 ∧ s.onlyRegs t [F.INC_STATUS_STATE.key 0, F.WIT_HIST_INC_DONE.key 0]) ∧
    (s.incState ≠ 3 → ∃ t, exec .incCopyDone s = .next t ∧ s.onlyRegs t []))

/-- The nine witness and incident commands answer and act, on a device with encoders and power, out of the safe state, through channels 0 to 32 (R498, R514, R515, R522, R524, R525, R526, R528, R529, R532, section 13_witness_and_incident.md). -/
def Obligations.WitnessCommandsAct : Prop :=
  ∀ (s : State) (ch : Nat), s.held = false → ch ≤ 32 → s.fld F.BIST_STATUS_SAFE 0 = 0 →
    (s.witAbsent = true →
      (∃ t, exec (.witGetStatus ch (zeroBytes 4)) s = .next t ∧ t.answered ch St.UNIT_ABSENT [] ∧ s.onlyAnswer t ch []) ∧
      (∃ t, exec (.incTrigger ch []) s = .next t ∧ t.answered ch St.UNIT_ABSENT [] ∧ s.onlyAnswer t ch [])) ∧
    (s.witAbsent = false → s.selftest 0x0F = false → s.witOff = false →
      (∀ n, 0 < n → n < 2 ^ 64 → s.witState = 0 → s.incState = 0 → s.driveState 0 = 0 →
        ∃ t, exec (.witFormat ch ([1, 0, 0, 0, 0x5A, 0x5A, 0, 0] ++ zeroBytes 4) [(0, n, true)]) s = .next t ∧ t.answered ch St.OK [] ∧ t.driveState 0 = 1 ∧ t.driveState 1 = 0 ∧
          t.fld F.WIT_DRV_SLOTS_LO_SLOTS 0 = n % 2 ^ 32 ∧ t.fld F.WIT_DRV_SLOTS_HI_SLOTS 0 = n / 2 ^ 32 ∧ t.wit.set = none ∧ t.wit.chains = [] ∧ t.fld F.WIT_STATUS_MOUNTED 0 = 0 ∧
          (t.drive 0).slots = n) ∧
      (∀ (secs rate : Nat) (m : List Byte), 8 ≤ secs → secs < 256 → 1000 ≤ rate → rate ≤ 8000 → m.length = 32 → (∀ k < 128, bitOf (le m 0 32) k = true → s.quadOutput k = false) → s.on F.WIT_STATUS_MOUNTED 0 = true → s.on F.WIT_CFG_EN 0 = false →
        ∃ t, exec (.witSet ch ([1] ++ leBytes 1 secs ++ leBytes 2 rate ++ m)) s = .next t ∧ t.answered ch St.OK [] ∧ t.fld F.WIT_CFG_EN 0 = 1 ∧ t.fld F.WIT_CFG_SEAL_S 0 = secs ∧
          t.fld F.WIT_CFG_RATE_KBPS 0 = rate ∧ (∀ i < 8, t.fld F.WIT_TAP_MASK_MASK i = le m (4 * i) 4) ∧ t.witState = 2 ∧
          s.onlyAnswer t ch ([F.WIT_CFG_EN.key 0, F.WIT_CFG_SEAL_S.key 0, F.WIT_CFG_RATE_KBPS.key 0, F.WIT_STATUS_STATE.key 0] ++ (List.range 8).map F.WIT_TAP_MASK_MASK.key)) ∧
      (∃ t d, exec (.witGetStatus ch (zeroBytes 4)) s = .next t ∧ t.answered ch St.OK d ∧ d.length = 48 ∧ d.take 4 = leBytes 4 (s.wordOf W.WIT_STATUS 0) ∧
        t.fld F.WIT_BALE_DROP_CNT_COUNT 0 = 0 ∧ t.fld F.WIT_PIC_DROP_CNT_COUNT 0 = 0 ∧ t.fld F.WIT_UNSIGNED_CNT_COUNT 0 = 0 ∧
        s.onlyAnswer t ch [F.WIT_BALE_DROP_CNT_COUNT.key 0, F.WIT_PIC_DROP_CNT_COUNT.key 0, F.WIT_UNSIGNED_CNT_COUNT.key 0]) ∧
      (∀ d, d < 2 → s.driveState d ≠ 0 → ∃ t, exec (.witDriveInfo ch (leBytes 4 d)) s = .next t ∧
        t.answered ch St.OK (leBytes 1 (s.drive d).crit ++ leBytes 1 (s.drive d).used ++ leBytes 1 (s.drive d).spare ++ [0] ++ leBytes 2 (s.drive d).temp ++ [0, 0] ++
          leBytes 16 (s.drive d).duw ++ leBytes 16 (s.drive d).mediaErr) ∧ s.onlyAnswer t ch []) ∧
      (∀ d slot a, d < 2 → s.driveState d ≠ 0 → s.driveState d ≠ 3 → slot < 2 ^ 64 → a % 4096 = 0 → s.regions.sum * gib ≤ a → a + slotBytes ≤ s.yardGiB * gib →
        ∃ t, exec (.witRead ch (leBytes 1 d ++ [1, 0, 0] ++ leBytes 8 slot ++ leBytes 8 (0x8000000000 + a))) s = .next t ∧ t.answered ch St.OK (leBytes 4 slotBytes) ∧
          t.yardGet a slotBytes = driveGet (s.drive d).view (slotAddr slot) slotBytes ∧ (∀ x, x < a ∨ a + slotBytes ≤ x → t.yardByte x = s.yardByte x) ∧ s.regsKept t []) ∧
      (s.witState = 0 → ∃ t, exec (.witMount ch (zeroBytes 4) []) s = .next t ∧ t.answered ch St.ACCEPTED [] ∧ t.witState = 1 ∧ t.driveState 0 = 0 ∧ t.driveState 1 = 0 ∧
        s.onlyAnswer t ch [F.WIT_STATUS_STATE.key 0, F.WIT_DRV_STATUS_STATE.key 0, F.WIT_DRV_STATUS_STATE.key 1]) ∧
      (∀ w, s.wit.set = some w → ∀ h, driveHead (s.drive 0) = some h → w.layout = 1 → s.on F.WIT_STATUS_MOUNTED 0 = true → s.driveState 0 = 1 → s.driveState 1 = 2 → bytesAt h 8 16 = w.id →
        ∃ t, exec (.witRebuild ch (zeroBytes 4)) s = .next t ∧ t.answered ch St.ACCEPTED [] ∧ t.driveState 0 = 4 ∧ t.fld F.WIT_STATUS_REBUILDING 0 = 1 ∧
          s.onlyAnswer t ch [F.WIT_DRV_STATUS_STATE.key 0, F.WIT_STATUS_REBUILDING.key 0]) ∧
      (∀ pre post o, 1 ≤ pre → pre ≤ 20 → post ≤ 60 → o < 256 → s.tgtKind1 o = false → s.quadOutput o = false → s.pinBad trigPin = false → s.incState = 0 ∨ s.incState = 1 → s.regionSize 2 ≠ 0 →
        ∃ t, exec (.incSet ch ([0x0F] ++ leBytes 1 pre ++ leBytes 1 post ++ [1] ++ leBytes 2 o ++ zeroBytes 14)) s = .next t ∧ t.answered ch St.OK [] ∧ t.incState = 1 ∧
          t.fld F.INC_CFG_PRE_S 0 = pre ∧ t.fld F.INC_CFG_POST_S 0 = post ∧ t.incTaps = [o] ∧ t.fld F.INC_CFG_TRIG_EN 0 = 1 ∧ t.fld F.INC_CFG_STALE_TRIG 0 = 1 ∧
          t.wit.tl = s.tgtTl o ∧ t.wit.ring = []) ∧
      (s.incState = 0 → ∃ t, exec (.incTrigger ch []) s = .next t ∧ t.answered ch St.NOT_READY [] ∧ s.onlyAnswer t ch []) ∧
      (s.incState = 2 → ∃ t, exec (.incTrigger ch []) s = .next t ∧
        t.answered ch St.OK (leBytes 4 (s.fld F.INC_CAPTURE_CAPTURE 0) ++ leBytes 6 (s.tlFrame s.wit.tl) ++ [1, 0]) ∧ t.incState = 2 ∧ s.regsKept t [F.INC_TRIG_CNT_COUNT.key 0]))

/-- The active member publishes its decisions, the standby follows them, compares signatures, counts what is missing, and keeps or loses step (R538, R539, R540, R541, R544, R546, section 14_twins.md). -/
def Obligations.TheJournalIsPublishedAndFollowed : Prop :=
  (∀ (s : State) (q : Nat), s.held = false → q < 17 → ∀ p m, s.hears q 0x40 p m → msgDst m = s.me →
    (s.twinEn = false → ∃ t, exec (.journalRx q p) s = .next t ∧ t.twin = s.twin ∧ t.stalls = s.stalls ∧ t.cox = s.cox ∧ s.regsKept t []) ∧
    (s.twinEn = true → msgSrc m = s.me ^^^ 1 → s.twinPort = some q → le m 24 2 = 1 → m.length = 44 →
      (1 ≤ le m 32 1 → le m 32 1 ≤ 3 → s.authority (le m 22 1) (le m 16 6) = true →
        ∃ t, exec (.journalRx q p) s = .next t ∧ t.fld F.TWIN_HIST_DUAL_ACTIVE 0 = 1 ∧ t.twin = s.twin ∧ t.stalls = s.stalls ∧ t.cox = s.cox ∧
          s.regsKept t [F.TWIN_HIST_DUAL_ACTIVE.key 0]) ∧
      (le m 32 1 = 2 → s.authority (le m 22 1) (le m 16 6) = false → (2, le m 34 2, le m 16 6) ∈ s.twin.owed → le m 34 2 < 256 → bitsOf (le m 36 4) 1 5 = 0 →
        (s.on F.FRESH_STATUS_STALE (le m 34 2) = bitOf (le m 36 4) 0 →
          ∃ t, exec (.journalRx q p) s = .next t ∧ t.twin = { s.twin with owed := s.twin.owed.filter fun o => o != (2, le m 34 2, le m 16 6) } ∧ s.regsKept t []) ∧
        (s.on F.FRESH_STATUS_STALE (le m 34 2) ≠ bitOf (le m 36 4) 0 →
          ∃ t, exec (.journalRx q p) s = .next t ∧ t.on F.FRESH_STATUS_STALE (le m 34 2) = bitOf (le m 36 4) 0 ∧ t.fld F.TWIN_HIST_JRNL_OVERRIDE 0 = 1 ∧
            t.fld F.TWIN_OVERRIDE_CNT_COUNT 0 = min (s.fld F.TWIN_OVERRIDE_CNT_COUNT 0 + 1) (2 ^ 32 - 1))) ∧
      (le m 32 1 = 4 → s.twin.sigs = [] →
        ∃ t, exec (.journalRx q p) s = .next t ∧ t.twin.sigs = [⟨le m 34 2, le m 16 6, some (le m 36 4), none⟩] ∧ le m 34 2 ∈ t.twin.peerOuts ∧ s.regsKept t []) ∧
      (le m 32 1 = 5 → le m 34 2 < 256 → ∀ x, s.twin.sigs = [x] → ∀ y, (s.tap (le m 34 2)).sigs = [y] → x.output = le m 34 2 → x.frame = le m 16 6 → y.1 = le m 16 6 → ∀ low, x.low = some low →
        (y.2 = le m 36 4 * 2 ^ 32 + low → ∃ t, exec (.journalRx q p) s = .next t ∧ t.twin.sigs = [] ∧ t.twin.mmBad = s.twin.mmBad ∧ s.regsKept t []) ∧
        (y.2 ≠ le m 36 4 * 2 ^ 32 + low → ∃ t, exec (.journalRx q p) s = .next t ∧ t.twin.sigs = [] ∧ t.twin.mmBad = true ∧ t.fld F.TWIN_HIST_SIG_MISMATCH 0 = 1 ∧
          t.bitAt F.TWIN_MM_MM (le m 34 2 / 32) (le m 34 2 % 32) = true ∧
          s.regsKept t [F.TWIN_HIST_SIG_MISMATCH.key 0, F.TWIN_MM_CNT_COUNT.key 0, F.TWIN_MM_MM.key (le m 34 2 / 32)])))) ∧
  (∀ (s : State) (tl n c : Nat), s.held = false →
    (s.twinEn = false → ∃ t, exec (.journalPublish 2 tl n [c]) s = .next t ∧ s.onlyRegs t []) ∧
    (∀ q, s.twinPort = some q → s.linkUp q = false ∨ s.authority tl n = false → ∃ t, exec (.journalPublish 2 tl n [c]) s = .next t ∧ s.onlyRegs t []) ∧
    (∀ q, s.twinPort = some q → s.twinEn = true → s.me < 18 → s.linkUp q = true → s.authority tl n = true → tl < 2 → n < 2 ^ 48 → c < 768 → s.on F.FRESH_CFG_EN c = true →
      s.tgtTl c = tl → s.judged c = true → (s.fport q).waitq = [] → ((s.credit q 1).sent + 65536 - (s.credit q 1).peerFreed) % 65536 < (s.credit q 1).ann →
      ∃ t, exec (.journalPublish 2 tl n [c]) s = .next t ∧ (s.portTalks q = true → ∃ m, Out.ctrl q m ∈ t.out ∧ msgOk 0x40 m = true ∧ msgSrc m = s.me ∧ msgDst m = s.me ^^^ 1 ∧ le m 16 6 = n ∧
        le m 22 1 = tl ∧ le m 24 2 = 1 ∧ le m 32 1 = 2 ∧ le m 34 2 = c ∧ le m 36 4 = (s.fld F.FRESH_STATUS_STALE c + s.fld F.FRESH_STATUS_REASON c * 2) % 2 ^ 32) ∧
        t.twin = s.twin ∧ s.regsKept t []) ∧
    (s.twinEn = false → ∃ t, exec (.journalDeadline 2 tl n [c]) s = .next t ∧ s.onlyRegs t []) ∧
    (s.twinEn = true → (2, c, n) ∈ s.twin.owed → (tl, n) ∉ s.twin.missed →
      ∃ t, exec (.journalDeadline 2 tl n [c]) s = .next t ∧ (2, c, n) ∉ t.twin.owed ∧ (tl, n) ∈ t.twin.missed ∧ t.twin.missBad = true ∧ t.fld F.TWIN_HIST_JRNL_MISS 0 = 1 ∧
        t.fld F.TWIN_MISS_CNT_COUNT 0 = min (s.fld F.TWIN_MISS_CNT_COUNT 0 + 1) (2 ^ 32 - 1) ∧ s.regsKept t [F.TWIN_HIST_JRNL_MISS.key 0, F.TWIN_MISS_CNT_COUNT.key 0]) ∧
    (s.twinEn = true → (2, c, n) ∉ s.twin.owed → s.twin.early = [] → ∃ t, exec (.journalDeadline 2 tl n [c]) s = .next t ∧ t.twin.missed = s.twin.missed ∧ s.regsKept t [])) ∧
  (∀ (s : State), s.held = false → s.twin.switching = true → s.twinEn = false →
    (s.switchFrame < s.tlFrame (s.fld F.TWIN_SW_HI_TL 0) → ∃ t, exec .twinFrameEnd s = .next t ∧ t.twin.switching = false ∧ t.fld F.TWIN_SW_HI_PENDING 0 = 0) ∧
    (s.tlFrame (s.fld F.TWIN_SW_HI_TL 0) ≤ s.switchFrame → ∃ t, exec .twinFrameEnd s = .next t ∧ t.twin.switching = true ∧ s.regsKept t [])) ∧
  (∀ (s : State), s.held = false → s.twin.switching = false → s.twinEn = true →
    (s.twinState = 2 → s.twin.missBad = false → s.twin.mmBad = false → s.twin.sigBad = false → s.fld F.TWIN_STATUS_RUN 0 < 65535 →
      ∃ t, exec .twinFrameEnd s = .next t ∧ t.fld F.TWIN_STATUS_RUN 0 = s.fld F.TWIN_STATUS_RUN 0 + 1 ∧
        t.twinState = (if s.fld F.TWIN_SYNC_SYNC_FRAMES 0 ≤ s.fld F.TWIN_STATUS_RUN 0 + 1 then 3 else 2) ∧
        (s.fld F.TWIN_SYNC_SYNC_FRAMES 0 ≤ s.fld F.TWIN_STATUS_RUN 0 + 1 → t.fld F.TWIN_HIST_IN_STEP_GAINED 0 = 1) ∧
        s.regsKept t [F.TWIN_STATUS_RUN.key 0, F.TWIN_STATUS_STATE.key 0, F.TWIN_HIST_IN_STEP_GAINED.key 0]) ∧
    (s.twinState = 2 → s.twin.missBad = true → 1 ≤ s.fld F.TWIN_SYNC_SYNC_FRAMES 0 →
      ∃ t, exec .twinFrameEnd s = .next t ∧ t.fld F.TWIN_STATUS_RUN 0 = 0 ∧ t.twinState = 2 ∧ t.twin.missBad = false ∧ s.regsKept t [F.TWIN_STATUS_RUN.key 0]) ∧
    (s.twinState = 3 → s.twin.missBad = true → s.fld F.TWIN_CFG_MISS_LIMIT 0 ≤ s.twin.missRun + 1 →
      ∃ t, exec .twinFrameEnd s = .next t ∧ t.twinState = 4 ∧ t.fld F.TWIN_HIST_STEP_LOST 0 = 1 ∧ t.twin.missRun = 0 ∧
        s.regsKept t [F.TWIN_STATUS_RUN.key 0, F.TWIN_STATUS_STATE.key 0, F.TWIN_HIST_STEP_LOST.key 0]) ∧
    (s.twinState = 3 → s.twin.missBad = true → s.twin.mmBad = false → 0 < s.fld F.TWIN_CFG_MM_LIMIT 0 → s.twin.missRun + 1 < s.fld F.TWIN_CFG_MISS_LIMIT 0 →
      ∃ t, exec .twinFrameEnd s = .next t ∧ t.twinState = 3 ∧ t.twin.missRun = s.twin.missRun + 1 ∧ s.regsKept t []))

/-- SEL_STATE sets the role, the heartbeat follows its causes, step is regained, a switch waits for its frame, and the five twin commands answer (R534, R535, R536, R543, R546, R549, R550, R552, R553, R554, R646, section 14_twins.md). -/
def Obligations.RolesHeartbeatAndTwinCommands : Prop :=
  (∀ (s : State) (level : Bool), s.held = false →
    (s.on F.TWIN_STATUS_ROLE 0 = (level == s.isBow) →
      ∃ t, exec (.selStateChange level) s = .next t ∧ t.fld F.TWIN_STATUS_SEL_BOW 0 = bit level ∧ t.twin = s.twin ∧
        s.regsKept t [F.TWIN_STATUS_SEL_BOW.key 0, F.TWIN_HB_CAUSE_CAUSE.key 0, F.TWIN_STATUS_HB_ON.key 0, F.TWIN_HIST_HB_STOPPED.key 0]) ∧
    (s.on F.TWIN_STATUS_ROLE 0 ≠ (level == s.isBow) →
      ∃ t, exec (.selStateChange level) s = .next t ∧ t.fld F.TWIN_STATUS_SEL_BOW 0 = bit level ∧ t.fld F.TWIN_STATUS_ROLE 0 = bit (level == s.isBow) ∧
        t.fld F.TWIN_SWITCH_CNT_COUNT 0 = min (s.fld F.TWIN_SWITCH_CNT_COUNT 0 + 1) (2 ^ 32 - 1) ∧ t.twin.roles.head? = some (s.tlFrame 0, s.tlFrame 1, level == s.isBow) ∧
        t.twin.switching = false ∧
        (level = s.isBow → s.twinEn = true → 2 ≤ s.twinState → t.twinState = 1 ∧ t.fld F.TWIN_HIST_BECAME_ACTIVE 0 = 1) ∧
        (level ≠ s.isBow → t.fld F.TWIN_SW_HI_PENDING 0 = 0 ∧ t.fld F.TWIN_STATUS_HB_ON 0 = 0 ∧
          (s.twinEn = true → s.twinState = 1 → t.twinState = 3 ∧ t.fld F.TWIN_HIST_BECAME_STANDBY 0 = 1) ∧
          (s.twin.switching = true → t.fld F.TWIN_HIST_SWITCH_DONE 0 = 1)))) ∧
  (∀ (s : State), s.held = false →
    (∃ t, exec .hbCauseChange s = .next t ∧ t.fld F.TWIN_HB_CAUSE_CAUSE 0 = s.hbCauses ∧
      t.fld F.TWIN_STATUS_HB_ON 0 = bit (s.released && !s.on F.BIST_STATUS_SAFE 0 && s.hbCauses == 0 && !s.twin.switching) ∧
      (s.on F.TWIN_STATUS_HB_ON 0 = true → s.hbCauses ≠ 0 → t.fld F.TWIN_HIST_HB_STOPPED 0 = 1) ∧
      s.onlyRegs t [F.TWIN_HB_CAUSE_CAUSE.key 0, F.TWIN_STATUS_HB_ON.key 0, F.TWIN_HIST_HB_STOPPED.key 0]) ∧
    (∀ q, s.twinPort = some q → s.twinEn = true → s.twinState = 4 → s.on F.TWIN_CFG_AUTO_RESYNC 0 = true → s.linkUp q = true → s.twinCompat = true →
      ∃ t, exec .autoResync s = .next t ∧ t.twinState = 2 ∧ t.fld F.TWIN_STATUS_RUN 0 = 0 ∧ t.twin.offsets = [] ∧ t.twin.adopt = List.range 320 ∧
        s.regsKept t [F.TWIN_STATUS_STATE.key 0, F.TWIN_STATUS_RUN.key 0]) ∧
    (s.twinState ≠ 4 ∨ s.on F.TWIN_CFG_AUTO_RESYNC 0 = false ∨ s.twinCompat = false → ∃ t, exec .autoResync s = .next t ∧ s.onlyRegs t []) ∧
    (s.on F.TWIN_SW_HI_PENDING 0 = true → s.on F.TWIN_STATUS_ROLE 0 = true → s.switchTime (s.fld F.TWIN_SW_HI_TL 0) s.switchFrame ≤ s.time.now + 1000 * nsUnit →
      ∃ t, exec .switchInstant s = .next t ∧ t.twin = { s.twin with switching := true } ∧ t.fld F.TWIN_STATUS_HB_ON 0 = 0 ∧
        (s.on F.TWIN_STATUS_HB_ON 0 = true → t.fld F.TWIN_HIST_HB_STOPPED 0 = 1) ∧
        s.regsKept t [F.TWIN_HB_CAUSE_CAUSE.key 0, F.TWIN_STATUS_HB_ON.key 0, F.TWIN_HIST_HB_STOPPED.key 0]) ∧
    (s.on F.TWIN_SW_HI_PENDING 0 = false ∨ s.on F.TWIN_STATUS_ROLE 0 = false ∨ s.time.now + 1000 * nsUnit < s.switchTime (s.fld F.TWIN_SW_HI_TL 0) s.switchFrame →
      ∃ t, exec .switchInstant s = .next t ∧ s.onlyRegs t [])) ∧
  (∀ (s : State) (ch : Nat), s.held = false → s.fld F.BIST_STATUS_SAFE 0 = 0 → s.selftest 0x10 = false →
    (∀ fl miss mm sync, fl < 8 → fl % 2 = 1 → 1 ≤ miss → miss < 256 → 1 ≤ mm → mm < 256 → 1 ≤ sync → sync < 65536 → s.fabN ≠ 0 → s.twinEn = false →
      ∃ t, exec (.twinSet ch (leBytes 1 fl ++ leBytes 1 miss ++ leBytes 1 mm ++ [0] ++ leBytes 2 sync ++ [0, 0])) s = .next t ∧ t.answered ch St.OK [] ∧
        t.fld F.TWIN_CFG_EN 0 = 1 ∧ t.fld F.TWIN_CFG_AUTO_RESYNC 0 = fl / 2 % 2 ∧ t.fld F.TWIN_CFG_TL 0 = fl / 4 ∧ t.fld F.TWIN_CFG_MISS_LIMIT 0 = miss ∧
        t.fld F.TWIN_CFG_MM_LIMIT 0 = mm ∧ t.fld F.TWIN_SYNC_SYNC_FRAMES 0 = sync ∧ t.twinState = (if s.on F.TWIN_STATUS_ROLE 0 then 1 else 4)) ∧
    (s.fabN = 0 → ∃ t, exec (.twinSet ch [1, 3, 3, 0, 60, 0, 0, 0]) s = .next t ∧ t.answered ch St.NOT_READY [] ∧ s.onlyAnswer t ch []) ∧
    (∀ tl c st, tl < 2 → c < 2 ^ 48 → s.on F.TWIN_SW_HI_PENDING 0 = false → s.on F.TWIN_STATUS_ROLE 0 = true → s.tlFrame tl + 2 ≤ c →
      ∃ t d, exec (.twinSwitch ch ([1] ++ leBytes 1 tl ++ [0, 0] ++ leBytes 6 c ++ [0, 0]) st) s = .next t ∧ t.answered ch St.OK d ∧ d.length = 40 ∧ d.take 6 = leBytes 6 c ∧
        t.switchFrame = c ∧ t.fld F.TWIN_SW_HI_TL 0 = tl ∧ t.fld F.TWIN_SW_HI_PENDING 0 = 1 ∧
        s.onlyAnswer t ch [F.TWIN_SW_LO_FRAME.key 0, F.TWIN_SW_HI_FRAME.key 0, F.TWIN_SW_HI_TL.key 0, F.TWIN_SW_HI_PENDING.key 0]) ∧
    (∀ st, s.on F.TWIN_SW_HI_PENDING 0 = true → s.tlFrame (s.fld F.TWIN_SW_HI_TL 0) + 1 < s.switchFrame →
      ∃ t, exec (.twinSwitch ch ([2] ++ zeroBytes 11) st) s = .next t ∧ t.answered ch St.OK (leBytes 6 s.switchFrame ++ zeroBytes 34) ∧ t.fld F.TWIN_SW_HI_PENDING 0 = 0 ∧ t.switchFrame = 0) ∧
    (s.on F.TWIN_STATUS_ROLE 0 = false → ∃ t, exec (.twinSwitch ch ([1] ++ zeroBytes 11) true) s = .next t ∧ t.answered ch St.NOT_READY [] ∧ s.onlyAnswer t ch []) ∧
    (s.twinState = 4 → s.cox.takes = [] → s.twinCompat = true →
      ∃ t, exec (.twinResync ch (zeroBytes 4)) s = .next t ∧ t.answered ch St.ACCEPTED [] ∧ t.twinState = 2 ∧ t.fld F.TWIN_STATUS_RUN 0 = 0 ∧ t.twin.adopt = List.range 320) ∧
    (s.twinState = 4 → s.cox.takes = [] → s.twinCompat = false →
      ∃ t, exec (.twinResync ch (zeroBytes 4)) s = .next t ∧ t.answered ch St.INCOMPATIBLE [] ∧ s.onlyAnswer t ch []) ∧
    (∃ t, exec (.twinHb ch [1, 0, 0, 0]) s = .next t ∧ t.answered ch St.OK [] ∧ t.bitAt F.TWIN_HB_CAUSE_CAUSE 0 1 = true ∧ t.fld F.TWIN_STATUS_HB_ON 0 = 0 ∧
      s.onlyAnswer t ch [F.TWIN_HB_CAUSE_CAUSE.key 0, F.TWIN_STATUS_HB_ON.key 0, F.TWIN_HIST_HB_STOPPED.key 0]) ∧
    (∃ t, exec (.twinHb ch [0, 0, 0, 0]) s = .next t ∧ t.answered ch St.OK [] ∧ t.bitAt F.TWIN_HB_CAUSE_CAUSE 0 1 = false ∧
      s.onlyAnswer t ch [F.TWIN_HB_CAUSE_CAUSE.key 0, F.TWIN_STATUS_HB_ON.key 0, F.TWIN_HIST_HB_STOPPED.key 0]) ∧
    (∃ t d, exec (.twinGetStatus ch (zeroBytes 4)) s = .next t ∧ t.answered ch St.OK d ∧ d.length = 72 ∧ d.take 4 = leBytes 4 s.twinStatus ∧
      (∀ f ∈ [F.TWIN_MISS_CNT_COUNT, F.TWIN_OVERRIDE_CNT_COUNT, F.TWIN_MM_CNT_COUNT, F.TWIN_SIGMISS_CNT_COUNT, F.TWIN_SWITCH_CNT_COUNT], t.fld f 0 = 0) ∧
      s.onlyAnswer t ch ([F.TWIN_MISS_CNT_COUNT, F.TWIN_OVERRIDE_CNT_COUNT, F.TWIN_MM_CNT_COUNT, F.TWIN_SIGMISS_CNT_COUNT, F.TWIN_SWITCH_CNT_COUNT].map fun f => f.key 0)))

/-- A single request to the working SRAM reads or writes exactly its bytes; the safety core's SRAM refuses other masters; an unserved address is a hole (R559, R569, R571, R574, section 15_management_complex.md). -/
def Obligations.MatrixServesMemoryAndRefusesTheRest : Prop :=
  ∀ (s : State) (m tid w : Nat), s.held = false → s.mat.out = [] → s.mat.held = [] → m < 9 → m ≠ 5 →
    (∀ a (d : List Byte), 0x2000000 ≤ a → a + d.length ≤ 0x2380000 → d ≠ [] →
      ∃ t, exec (.matrixAccess [⟨m, tid, 2, a, d.length, some d, w, true⟩] []) s = .next t ∧ Out.bus m false [] ∈ t.out ∧
        (∀ i (hi : i < d.length), t.mat.sram.look (a - 0x2000000 + i) = d[i]) ∧
        ∀ x, x < a - 0x2000000 ∨ a - 0x2000000 + d.length ≤ x → t.mat.sram.look x = s.mat.sram.look x) ∧
    (∀ a n, 0x2000000 ≤ a → a + n ≤ 0x2380000 → 0 < n →
      ∃ t, exec (.matrixAccess [⟨m, tid, 2, a, n, none, w, true⟩] []) s = .next t ∧
        Out.bus m false ((List.range n).map fun i => s.mat.sram.look (a - 0x2000000 + i)) ∈ t.out ∧ t.mat.sram = s.mat.sram) ∧
    (∀ a (d : List Byte), m < 4 → 0x2380000 ≤ a → a < 0x2400000 → d ≠ [] →
      ∃ t, exec (.matrixAccess [⟨m, tid, 2, a, d.length, some d, w, true⟩] []) s = .next t ∧ t.fld F.MATRIX_HIST_FW_DENY 0 = 1 ∧
        Out.bus m false [] ∈ t.out ∧ t.mat.sram = s.mat.sram) ∧
    (∀ a n, 0x3000000 ≤ a → a < 0x10000000 → 0 < n →
      ∃ t, exec (.matrixAccess [⟨m, tid, 2, a, n, none, w, true⟩] []) s = .next t ∧ t.fld F.MATRIX_HIST_HOLE_HIT 0 = 1 ∧
        Out.bus m true (zeroBytes n) ∈ t.out)

/-- REMAP is asked for by MC and SAFE alone and waits for a quiet alias window; PARK is stored; a silent target is answered for with an error (R561, R562, R564, R568, R571, section 15_management_complex.md). -/
def Obligations.MatrixControlAndTimeouts : Prop :=
  ∀ (s : State), s.held = false →
    (∀ m (v : Word), m ≤ 4 → s.fld F.MATRIX_CTRL_REMAP 0 = 0 → bitOf v.toNat 0 = true →
      ∃ t, exec (.remapWrite m v) s = .next t ∧ t.mat.remapping = true ∧ t.fld F.MATRIX_CTRL_REMAP 0 = 0 ∧
        s.regsKept t [F.MATRIX_CTRL_AGE_LIMIT.key 0, F.MATRIX_CTRL_TMO.key 0]) ∧
    (∀ m (v : Word), 4 < m → bitOf v.toNat 0 = true →
      ∃ t, exec (.remapWrite m v) s = .next t ∧ t.fld F.MATRIX_HIST_CFG_REJECTED 0 = 1 ∧ t.mat = s.mat) ∧
    (∀ m (v : Word), s.fld F.MATRIX_CTRL_REMAP 0 = 1 → bitOf v.toNat 0 = false →
      ∃ t, exec (.remapWrite m v) s = .next t ∧ t.fld F.MATRIX_HIST_CFG_REJECTED 0 = 1 ∧ t.fld F.MATRIX_CTRL_REMAP 0 = 1) ∧
    (s.mat.remapping = true → s.mat.out = [] → s.mat.held = [] →
      ∃ t, exec .remapEffect s = .next t ∧ t.fld F.MATRIX_CTRL_REMAP 0 = 1 ∧ t.mat.remapping = false ∧ s.regsKept t [F.MATRIX_CTRL_REMAP.key 0]) ∧
    (∀ k (v : Word), k < 7 → s.mat.out = [] →
      ∃ t, exec (.parkWrite k v) s = .next t ∧ t.fld F.MATRIX_TGT_CFG_PARK k = (if 10 ≤ v.toNat % 16 ∧ v.toNat % 16 ≤ 14 then 15 else v.toNat % 16) ∧
        t.parkNow k = t.fld F.MATRIX_TGT_CFG_PARK k ∧ s.regsKept t [F.MATRIX_TGT_CFG_PARK.key k]) ∧
    (∀ r, s.mat.out = [r] → ∀ cycles,
      (cycles < s.fld F.MATRIX_CTRL_TMO 0 * 256 → ∃ t, exec (.matrixTargetTimeout (s.target r.addr) r.master cycles) s = .next t ∧ s.onlyRegs t []) ∧
      (s.fld F.MATRIX_CTRL_TMO 0 * 256 ≤ cycles → ∃ t, exec (.matrixTargetTimeout (s.target r.addr) r.master cycles) s = .next t ∧ t.mat.out = [] ∧ t.fld F.MATRIX_HIST_TARGET_TMO 0 = 1 ∧
        t.fld F.MATRIX_TMO_CNT_COUNT 0 = min (s.fld F.MATRIX_TMO_CNT_COUNT 0 + 1) (2 ^ 32 - 1) ∧
        Out.bus r.master true (if r.data.isSome then [] else zeroBytes r.size) ∈ t.out)) ∧
    (∀ k m cycles, s.mat.out = [] → ∃ t, exec (.matrixTargetTimeout k m cycles) s = .next t ∧ s.onlyRegs t [])

/-- A core's write stores RW, clears W1C and leaves RO fields; an RCL read answers and clears; DIAG_READ changes nothing, DIAG_WRITE writes (R198, R570, R602, R603, R701, section 21_register_map.md). -/
def Obligations.RegisterAccessesFollowTheirCodes : Prop :=
  ∀ (s : State), s.held = false →
    (∀ m (v : Word), m < 4 → s.mat.out = [] → s.mat.held = [] → s.flt.timeouts = [] →
      (∃ t, exec (.registerWrite m (0x40000000 + R.GPIO_EDGE_EN.off) v) s = .next t ∧ t.fld F.GPIO_EDGE_EN_EN 0 = v.toNat ∧ s.regsKept t [F.GPIO_EDGE_EN_EN.key 0]) ∧
      (∃ t, exec (.registerWrite m (0x40000000 + R.GPIO_EDGE.off) v) s = .next t ∧
        t.fld F.GPIO_EDGE_CHANGED 0 = (s.fld F.GPIO_EDGE_CHANGED 0 - Nat.land (s.fld F.GPIO_EDGE_CHANGED 0) v.toNat) % 2 ^ 32 ∧ s.regsKept t [F.GPIO_EDGE_CHANGED.key 0]) ∧
      ∃ t, exec (.registerWrite m (0x40000000 + R.SYS_UNITS.off) v) s = .next t ∧ s.regsKept t []) ∧
    (∀ n late, n < 128 → s.reaches R.SDI_RX_CRC_CNT n →
      ∃ t, exec (.rclCounterRead (R.SDI_RX_CRC_CNT.addr n) late) s = .next t ∧ Out.read (s.fld F.SDI_RX_CRC_CNT_COUNT n) ∈ t.out ∧
        t.fld F.SDI_RX_CRC_CNT_COUNT n = min late (2 ^ 32 - 1) ∧ s.onlyRegs t [F.SDI_RX_CRC_CNT_COUNT.key n]) ∧
    (∀ ch a, a < 0x1A00000 → a % 4 = 0 →
      (s.regOff a = false → ∃ t, exec (.diagRead ch (leBytes 8 (0x40000000 + a) ++ [1, 0, 0, 0])) s = .next t ∧ t.answered ch St.OK (leBytes 4 ((s.live a).regPeek a)) ∧
        ((atReg a liveActs).isNone = true → s.onlyAnswer t ch [])) ∧
      (s.regHas a = true → s.regOff a = true → ∃ t, exec (.diagRead ch (leBytes 8 (0x40000000 + a) ++ [1, 0, 0, 0])) s = .next t ∧ t.answered ch St.OK (zeroBytes 4) ∧
        t.fld F.MATRIX_HIST_PD_OFF_HIT 0 = 1 ∧ t.fld F.MATRIX_HOLE_CNT_COUNT 0 = min (s.fld F.MATRIX_HOLE_CNT_COUNT 0 + 1) (2 ^ 32 - 1))) ∧
    (∀ ch (v : Word), s.lifeCycle = 0 ∨ s.lifeCycle = 3 → s.mat.out = [] → s.mat.held = [] → s.flt.timeouts = [] →
      ∃ t, exec (.diagWrite ch (leBytes 8 (0x40000000 + R.GPIO_EDGE_EN.off) ++ leBytes 4 v.toNat)) s = .next t ∧ t.answered ch St.OK [] ∧
        t.fld F.GPIO_EDGE_EN_EN 0 = v.toNat ∧ s.regsKept t [F.GPIO_EDGE_EN_EN.key 0]) ∧
    (∀ ch (v : Word), s.lifeCycle ≠ 0 → s.lifeCycle ≠ 3 →
      ∃ t, exec (.diagWrite ch (leBytes 8 (0x40000000 + R.GPIO_EDGE_EN.off) ++ leBytes 4 v.toNat)) s = .next t ∧ t.answered ch St.AUTH_FAIL [] ∧ s.onlyAnswer t ch [])

/-- DOORBELL, RSP_ACK, WITHDRAW, OPEN and REQUEST_TIMEOUT move a channel's request state as R585 says, after a take that ties with them (R585, R586, R587, section 16_mailboxes_and_commands.md). -/
def Obligations.SlotCommandsMoveTheRequestState : Prop :=
  ∀ (s : State) (c : Nat), s.held = false → c < 41 →
    (s.fld F.CH_STATUS_REQ_STATE c = 0 → s.on F.CH_STATUS_RSP_READY c = false → (c ≤ 32 → s.pwrState = 0 ∧ s.domOn (serverDomain c) = true) →
      ∃ t, exec (.doorbell c) s = .next t ∧ t.fld F.CH_STATUS_REQ_STATE c = 1 ∧ t.mbx = { s.mbx with posted := s.mbx.posted.put c (some s.time.raw) } ∧
        s.regsKept t [F.CH_STATUS_REQ_STATE.key c] ∧ { t with regs := s.regs, out := s.out, mbx := s.mbx } = s) ∧
    (s.fld F.CH_STATUS_REQ_STATE c ≠ 0 ∨ s.on F.CH_STATUS_RSP_READY c = true →
      ∃ t, exec (.doorbell c) s = .next t ∧ t.fld F.CH_HIST_DOORBELL_DISCARDED c = 1 ∧
        t.fld F.CH_DISCARD_CNT_COUNT c = min (s.fld F.CH_DISCARD_CNT_COUNT c + 1) (2 ^ F.CH_DISCARD_CNT_COUNT.width - 1) ∧
        s.onlyRegs t [F.CH_HIST_DOORBELL_DISCARDED.key c, F.CH_DISCARD_CNT_COUNT.key c]) ∧
    (∃ t, exec (.rspAck c) s = .next t ∧ t.fld F.CH_STATUS_RSP_READY c = 0 ∧ s.onlyRegs t [F.CH_STATUS_RSP_READY.key c]) ∧
    (∀ tie, (s.fld F.CH_STATUS_REQ_STATE c = 0 ∨ s.fld F.CH_STATUS_REQ_STATE c = 1 ∧ tie = false →
        ∃ t, exec (.withdraw c tie) s = .next t ∧ t.fld F.CH_STATUS_REQ_STATE c = 3 ∧ s.onlyRegs t [F.CH_STATUS_REQ_STATE.key c]) ∧
      (s.fld F.CH_STATUS_REQ_STATE c = 2 →
        ∃ t, exec (.withdraw c tie) s = .next t ∧ t.fld F.CH_HIST_WITHDRAW_LATE c = 1 ∧ s.onlyRegs t [F.CH_HIST_WITHDRAW_LATE.key c]) ∧
      (s.fld F.CH_STATUS_REQ_STATE c = 3 → ∃ t, exec (.withdraw c tie) s = .next t ∧ s.onlyRegs t []) ∧
      (s.fld F.CH_STATUS_REQ_STATE c = 1 → s.fld F.CH_STATUS_SERVED c = 1 → (c ≤ 32 → s.domOn (serverDomain c) = true) → tie = true →
        (∃ t, exec (.withdraw c tie) s = .next t ∧ t.fld F.CH_STATUS_REQ_STATE c = 2 ∧ t.fld F.CH_HIST_WITHDRAW_LATE c = 1) ∧
        ∃ t, exec (.requestTimeout c tie) s = .next t ∧ t.fld F.CH_STATUS_REQ_STATE c = 2 ∧ t.fld F.CH_HIST_TIMED_OUT c = s.fld F.CH_HIST_TIMED_OUT c) ∧
      (tie = false → s.postedDue c = true → ∃ t, exec (.requestTimeout c tie) s = .next t ∧ t.fld F.CH_HIST_TIMED_OUT c = 1 ∧
        t.mbx = { s.mbx with posted := s.mbx.posted.put c none } ∧ s.regsKept t [F.CH_HIST_TIMED_OUT.key c] ∧ { t with regs := s.regs, out := s.out, mbx := s.mbx } = s) ∧
      (s.fld F.CH_STATUS_REQ_STATE c ≠ 1 ∨ tie = false → s.postedDue c = false → ∃ t, exec (.requestTimeout c tie) s = .next t ∧ s.onlyRegs t [])) ∧
    (s.fld F.CH_STATUS_REQ_STATE c = 3 →
      ∃ t, exec (.openSlot c) s = .next t ∧ t.fld F.CH_STATUS_REQ_STATE c = 0 ∧ s.onlyRegs t [F.CH_STATUS_REQ_STATE.key c]) ∧
    (s.fld F.CH_STATUS_REQ_STATE c ≠ 3 → ∃ t, exec (.openSlot c) s = .next t ∧ s.onlyRegs t [])

/-- REQUEST_TAKE takes a posted request and answers a bad slot; RESPONSE_POST posts the answer of a taken request into the response slot (R583, R585, R590, R598, section 16_mailboxes_and_commands.md). -/
def Obligations.TakenRequestsAreCheckedAndAnswered : Prop :=
  ∀ (s : State) (c : Nat), s.held = false → c < 41 →
    (s.fld F.CH_STATUS_REQ_STATE c = 1 → s.fld F.CH_STATUS_SERVED c = 1 → (c ≤ 32 → s.domOn (serverDomain c) = true) →
      ∃ t, exec (.requestTake c) s = .next t ∧ t.fld F.CH_STATUS_REQ_STATE c = 2 ∧
        ((t.mbx.taken.look c).map fun q => (q.cmd, q.seq)) = some (le (s.slotGet (reqSlot c) 1024) 0 2, le (s.slotGet (reqSlot c) 1024) 6 2) ∧
        (crc32 ((s.slotGet (reqSlot c) 1024).take (32 + min (le (s.slotGet (reqSlot c) 1024) 2 2) 960)) ≠ le (s.slotGet (reqSlot c) 1024) 992 4 →
          t.answered c St.BAD_CRC []) ∧
        (s.slotFail c (s.slotGet (reqSlot c) 1024) = none → t.replies = s.replies) ∧
        s.regsKept t [F.CH_STATUS_REQ_STATE.key c]) ∧
    (∀ q, s.mbx.taken.look c = some q → ∀ r, s.replies.look c = some r → s.fld F.CH_STATUS_REQ_STATE c = 2 → s.on F.CH_STATUS_RSP_READY c = false → q.void = false →
      ∃ t, exec (.responsePost c) s = .next t ∧ t.fld F.CH_STATUS_REQ_STATE c = 0 ∧ t.fld F.CH_STATUS_RSP_READY c = 1 ∧ t.fld F.CH_HIST_RSP_POSTED c = 1 ∧
        t.replies = s.replies.del c ∧ t.mbx.taken = s.mbx.taken.del c ∧
        t.mbx.mem = ((s.slotPut (rspSlot c) (s.responseBytes c q r)).slotPut (rspSlot c + 992) (leBytes 4 (crc32 (s.responseBytes c q r)) ++ zeroBytes 28)).mbx.mem ∧
        s.regsKept t [F.CH_STATUS_REQ_STATE.key c, F.CH_STATUS_RSP_READY.key c, F.CH_HIST_RSP_POSTED.key c]) ∧
    (∀ q, s.mbx.taken.look c = some q → ∀ r, s.replies.look c = some r → s.fld F.CH_STATUS_REQ_STATE c = 2 → s.on F.CH_STATUS_RSP_READY c = false → q.void = true →
      ∃ t, exec (.responsePost c) s = .next t ∧ t.fld F.CH_STATUS_REQ_STATE c = 0 ∧ t.fld F.CH_HIST_RSP_DISCARDED c = 1 ∧ t.mbx.mem = s.mbx.mem)

/-- A host epoch write discards what waits and frees the channel's locks; a function reset does so on 33 channels; a core restart advances its epochs (R589, R591, R592, R593, R716, section 16_mailboxes_and_commands.md). -/
def Obligations.EpochsAndRestartsVoidWhatWaits : Prop :=
  ∀ (s : State), s.held = false →
    (∀ (c : Nat) (v : Word) (tie : Bool), c < 41 → tie = false ∨ s.fld F.CH_STATUS_REQ_STATE c ≠ 1 →
      ∃ t, exec (.hostEpochWrite c v tie) s = .next t ∧ t.fld F.CH_EPOCH_HOST_EPOCH c = v.toNat % 65536 ∧ t.on F.CH_STATUS_RSP_READY c = false ∧
        (s.fld F.CH_STATUS_REQ_STATE c = 1 ∨ s.fld F.CH_STATUS_REQ_STATE c = 3 → t.fld F.CH_STATUS_REQ_STATE c = 0) ∧
        (c < 32 → ∀ l < 64, s.fld F.LOCK_OWNER_OWNER l = c + 1 → t.fld F.LOCK_OWNER_OWNER l = 0) ∧
        (∀ l < 64, s.fld F.LOCK_OWNER_OWNER l ≠ c + 1 → t.fld F.LOCK_OWNER_OWNER l = s.fld F.LOCK_OWNER_OWNER l) ∧
        (∀ q, s.mbx.taken.look c = some q → s.fld F.CH_STATUS_REQ_STATE c = 2 → t.mbx.taken.look c = some { q with void := true })) ∧
    (∀ (c : Nat) (v : Word), c < 41 → s.fld F.CH_STATUS_REQ_STATE c = 1 → s.fld F.CH_STATUS_SERVED c = 1 → (c ≤ 32 → s.domOn (serverDomain c) = true) →
      ∃ t, exec (.hostEpochWrite c v true) s = .next t ∧ t.fld F.CH_EPOCH_HOST_EPOCH c = v.toNat % 65536 ∧ t.fld F.CH_STATUS_REQ_STATE c = 2 ∧
        (t.mbx.taken.look c).map TakenReq.void = some true) ∧
    (∃ t, exec .functionLevelReset s = .next t ∧ t.fld F.BAR2_WIN_GIB 0 = 0 ∧
      ∀ c < 33, t.fld F.CH_EPOCH_HOST_EPOCH c = 0 ∧ t.on F.CH_STATUS_RSP_READY c = false) ∧
    (∀ k < 5, ∃ t, exec (.coreRestart k) s = .next t ∧ (k = 4 → t.safetyReset = false) ∧
      (∀ l < 64, s.fld F.LOCK_OWNER_OWNER l = 33 + k → t.fld F.LOCK_OWNER_OWNER l = 0) ∧
      ∀ c < 33, serverOf c = k → t.fld F.CH_EPOCH_DEV_EPOCH c = (if s.fld F.CH_EPOCH_DEV_EPOCH c % 65536 = 65535 then 1 else s.fld F.CH_EPOCH_DEV_EPOCH c % 65536 + 1) ∧
        t.fld F.CH_HIST_DEV_RESTARTED c = 1)

/-- A read of a free lock makes the lowest reader its owner; a read of a held lock answers its owner; only the owner's write of 0 frees it (R596). -/
def Obligations.LocksAreTakenAndReleased : Prop :=
  ∀ (s : State) (l : Nat), s.held = false → l < 64 →
    (∀ o o', 1 ≤ o → o < o' → o' < 64 → s.fld F.LOCK_OWNER_OWNER l = 0 →
      (∃ t, exec (.lockRead [o] l) s = .next t ∧ t.fld F.LOCK_OWNER_OWNER l = o ∧ Out.read 0 ∈ t.out ∧ s.onlyRegs t [F.LOCK_OWNER_OWNER.key l]) ∧
      ∃ t, exec (.lockRead [o', o] l) s = .next t ∧ t.fld F.LOCK_OWNER_OWNER l = o ∧ t.out.take 2 = [Out.read 0, Out.read o] ∧ s.onlyRegs t [F.LOCK_OWNER_OWNER.key l]) ∧
    (∀ o, s.fld F.LOCK_OWNER_OWNER l ≠ 0 →
      ∃ t, exec (.lockRead [o] l) s = .next t ∧ Out.read (s.fld F.LOCK_OWNER_OWNER l) ∈ t.out ∧ s.onlyRegs t []) ∧
    (∀ (o : Nat) (v : Word), s.fld F.LOCK_OWNER_OWNER l = o → v.toNat % 64 = 0 →
      ∃ t, exec (.lockReleaseWrite o l v) s = .next t ∧ t.fld F.LOCK_OWNER_OWNER l = 0 ∧ s.onlyRegs t [F.LOCK_OWNER_OWNER.key l]) ∧
    (∀ (o : Nat) (v : Word), s.fld F.LOCK_OWNER_OWNER l ≠ o →
      ∃ t, exec (.lockReleaseWrite o l v) s = .next t ∧ t.fld F.MBX_HIST_LOCK_MISUSE 0 = 1 ∧ s.onlyRegs t [F.MBX_HIST_LOCK_MISUSE.key 0])

/-- BAR2_WIN stays within the fitted yard; host reads give the yard's bytes but zeros in guard bitmaps; host writes reach only still-store and free regions (R445, R569, R579, R580, section 16_mailboxes_and_commands.md). -/
def Obligations.TheHostWindowIsGuarded : Prop :=
  ∀ (s : State), s.held = false →
    (∀ v : Word, v.toNat % 64 < s.yardGiB → ∃ t, exec (.bar2WinWrite v) s = .next t ∧ t.fld F.BAR2_WIN_GIB 0 = v.toNat % 64 ∧ s.onlyRegs t [F.BAR2_WIN_GIB.key 0]) ∧
    (∀ v : Word, s.yardGiB ≤ v.toNat % 64 → ∃ t, exec (.bar2WinWrite v) s = .next t ∧ t.fld F.MBX_HIST_CFG_REJECTED 0 = 1 ∧
      s.onlyRegs t [F.MBX_HIST_CFG_REJECTED.key 0, F.BLK_REJECT_CNT_COUNT.key 0x11]) ∧
    (∀ a off n, a = s.fld F.BAR2_WIN_GIB 0 * gib + off → off + n ≤ gib → a + n ≤ s.yardGiB * gib →
      (s.inBitmap a n = false → s.poisoned a n = false → ∃ t, exec (.bar2Access off n none) s = .next t ∧ Out.bar2 (s.yardGet a n) ∈ t.out ∧ s.onlyRegs t []) ∧
      (s.inBitmap a n = true → ∃ t, exec (.bar2Access off n none) s = .next t ∧ Out.bar2 (zeroBytes n) ∈ t.out ∧ t.fld F.MATRIX_HIST_FW_DENY 0 = 1 ∧ t.yard = s.yard) ∧
      (∀ d : List Byte, d.length = n → s.bar2Open a n = true →
        ∃ t, exec (.bar2Access off n (some d)) s = .next t ∧ t.yardGet a n = d ∧ (∀ x, x < a ∨ a + n ≤ x → t.yardByte x = s.yardByte x) ∧ s.regsKept t []) ∧
      (∀ d : List Byte, s.bar2Open a n = false →
        ∃ t, exec (.bar2Access off n (some d)) s = .next t ∧ t.fld F.MBX_HIST_BAR2_DENY 0 = 1 ∧
          t.fld F.BAR2_DENY_CNT_COUNT 0 = min (s.fld F.BAR2_DENY_CNT_COUNT 0 + 1) (2 ^ 32 - 1) ∧ s.onlyRegs t [F.MBX_HIST_BAR2_DENY.key 0, F.BAR2_DENY_CNT_COUNT.key 0])) ∧
    (∀ off n d, off + n ≤ gib → s.yardGiB * gib < s.fld F.BAR2_WIN_GIB 0 * gib + off + n →
      ∃ t, exec (.bar2Access off n d) s = .next t ∧ Out.bar2 (if d.isSome then [] else zeroBytes n) ∈ t.out ∧ t.fld F.MATRIX_HIST_HOLE_HIT 0 = 1 ∧ t.yard = s.yard)

/-- The commands of the keys group on the safety channel generate, load, inject, export and report; on any other channel the ones that write are BAD_COMMAND (R600, R612, R615, R620, R622, R623, R625, R626, section 17_keys_and_life_cycle.md). -/
def Obligations.KeyCommandsUseTheStore : Prop :=
  ∀ (s : State), s.held = false → s.fld F.BIST_STATUS_SAFE 0 = 0 →
    (∀ p : List Byte, p.length = 4 → le p 0 4 = 0xC3C3 → s.lifeCycle ≠ 4 → bitOf s.keys.used 0 = false →
      ∃ t, exec (.keyGenerate 32 p) s = .next t ∧ (t.keys.root.map List.length = some 48) ∧ bitOf t.keys.written 0 = true ∧ bitOf t.keys.used 0 = true ∧
        t.keys.latch = (s.keys.latch && !s.keys.wiped) ∧ t.keys.injected = s.keys.injected ∧ t.fld F.KEY_HIST_GENERATED 0 = 1 ∧ s.regsKept t [F.KEY_HIST_GENERATED.key 0]) ∧
    (∀ (p : List Byte) (ch : Nat), ch ≠ 32 →
      ∃ t, exec (.keyGenerate ch p) s = .next t ∧ t.answered ch St.BAD_COMMAND [] ∧ t.fld F.KEY_HIST_REFUSED 0 = 1 ∧ t.keys = s.keys) ∧
    (∀ p : List Byte, p.length = 8 + le p 2 2 → le p 2 2 ≤ 952 → le p 2 2 % 4 = 0 → le p 4 1 = 0 → le p 5 3 = 0 → le p 0 2 + le p 2 2 ≤ 3400 →
      ∃ t, exec (.keyCertLoad 32 p) s = .next t ∧ t.answered 32 St.OK [] ∧ t.keys = { s.keys with parts := padTo (le p 0 2) s.keys.parts ++ bytesAt p 8 (le p 2 2) } ∧
        s.regsKept t []) ∧
    (∀ p : List Byte, p.length = 56 → le p 0 1 = 2 → le p 1 3 = 0 → le p 36 16 = 0 → le p 52 4 = le (sha384 (bytesAt p 4 32)) 0 4 → s.purposeOk 3 = true →
      s.pinBad guardKeyPin = false → s.pins.guardKeyLow = true → bitOf s.keys.used 2 = false →
      ∃ t, exec (.keyInject 32 p) s = .next t ∧ t.keys.injected.look 2 = bytesAt p 4 32 ∧ bitOf t.keys.used 2 = true ∧ t.fld F.KEY_HIST_INJECTED 0 = 1 ∧
        t.keys.root = s.keys.root ∧ s.regsKept t [F.KEY_HIST_INJECTED.key 0]) ∧
    (s.purposeOk 2 = true → bitOf s.keys.written 2 = true →
      ∃ t, exec (.keyWitExport 32 []) s = .next t ∧
        t.answered 32 St.OK (aesWrap (s.keys.injected.look 2) (s.aesKey 2) ++ bytesAt (sha384 (s.aesKey 2)) 0 4 ++ zeroBytes 4) ∧ s.onlyAnswer t 32 []) ∧
    (∀ ch, ∃ t d, exec (.keyStatus ch []) s = .next t ∧ t.answered ch St.OK d ∧ d.length = 16 ∧ s.onlyAnswer t ch [])

/-- A life-cycle transition, a tamper cause and a scan request clear every key; a retention dip sets the latch (R605, R608, R609, R613, R614, R615, R616, R619, section 17_keys_and_life_cycle.md). -/
def Obligations.LifeCycleAndTamperZeroise : Prop :=
  ∀ (s : State),
    (∀ c, c < 4 → s.bitAt F.KEY_TAMP_CFG_TAMP_EN 0 c = true →
      ∃ t, exec (.tamperEvent c) s = .next t ∧ t.keys = { s.keys with root := none, injected := [], written := 0, wiped := true } ∧
        t.bitAt F.KEY_TAMP_CAUSE_LOOP 0 c = true ∧ t.fld F.KEY_HIST_ZEROISED 0 = 1 ∧ s.regsKept t [F.KEY_TAMP_CAUSE_LOOP.key 0, F.KEY_HIST_ZEROISED.key 0]) ∧
    (∃ t, exec (.tamperEvent 6) s = .next t ∧ t.keys = { s.keys with root := none, injected := [], written := 0, wiped := true } ∧
        t.fld F.KEY_TAMP_CAUSE_GLITCH 0 = 1 ∧ s.regsKept t [F.KEY_TAMP_CAUSE_GLITCH.key 0, F.KEY_HIST_ZEROISED.key 0]) ∧
    (∀ c, c < 4 → s.bitAt F.KEY_TAMP_CFG_TAMP_EN 0 c = false → ∃ t, exec (.tamperEvent c) s = .next t ∧ s.onlyRegs t []) ∧
    (∃ t, exec (.retentionDip false) s = .next t ∧ t.keys = { s.keys with latch := true, wiped := false } ∧ s.regsKept t []) ∧
    (∃ t, exec (.retentionDip true) s = .next t ∧ t.keys.latch = true ∧ t.keys.wiped = false ∧ t.keys.patternBad = true ∧ t.keys.intent = none ∧
        t.keys.root.isSome = s.keys.root.isSome ∧ t.keys.injected = s.keys.injected ∧ s.regsKept t []) ∧
    (∀ c, 6 < c → ∃ t, exec (.tamperEvent c) s = .next t ∧ s.onlyRegs t []) ∧
    (∃ t, exec (.tamperEvent 4) s = .next t ∧ t.keys.root = none ∧ t.keys.written = 0 ∧ t.fld F.KEY_TAMP_CAUSE_VBAT_LOW 0 = 1 ∧
        s.regsKept t [F.KEY_TAMP_CAUSE_VBAT_LOW.key 0, F.KEY_HIST_ZEROISED.key 0]) ∧
    (∃ t, exec (.tamperEvent 5) s = .next t ∧ t.keys.root = none ∧ t.keys.written = 0 ∧ t.fld F.KEY_TAMP_CAUSE_TEMP 0 = 1 ∧
        s.regsKept t [F.KEY_TAMP_CAUSE_TEMP.key 0, F.KEY_HIST_ZEROISED.key 0]) ∧
    (s.held = false → s.bitAt F.FUSE_DEBUG_SCAN 0 s.lifeCycle = true →
      ∃ t, exec .scanRequest s = .next t ∧ t.keys.root = none ∧ t.keys.injected = [] ∧ t.keys.scanZeroised = true ∧ ∀ e ∈ t.mat.sram, e.1 < 0x380000) ∧
    (s.held = false → s.bitAt F.FUSE_DEBUG_SCAN 0 s.lifeCycle = false → ∃ t, exec .scanRequest s = .next t ∧ s.onlyRegs t []) ∧
    (∀ p : List Byte, s.held = false → s.fld F.BIST_STATUS_SAFE 0 = 0 → p.length = 104 → le p 0 1 = s.lifeCycle + 1 → s.lifeCycle < 2 → le p 1 3 = 0 → le p 8 96 = 0 →
      le p 4 4 = 0x1C1C →
      ∃ t, exec (.lcAdvance 32 p none) s = .next t ∧ t.lifeCycle = s.lifeCycle + 1 ∧ t.keys.cellA.look (s.lifeCycle + 1) = 2 ∧
        t.keys.cellB.look (s.lifeCycle + 1) = 2 ∧ t.keys.root = none ∧ t.keys.used = 0 ∧ t.keys.intent = none ∧ t.answered 32 St.OK [] ∧ Out.resetSoon ∈ t.out)

/-- Every reset puts the registers outside the battery domain at reset values; device time restarts at power-on alone; release starts the device (R103, R594, R607, R628, R702, R709, R717, R721, section 18_start_selftest_update.md). -/
def Obligations.ResetsKeepWhatTheyMust : Prop :=
  ∀ (s : State),
    (∃ t, exec .powerOnReset s = .next t ∧ t.held = true ∧ t.time = default ∧ t.pending = s.pending ∧ t.flash.logA = s.flash.logA ∧
      ∀ k, batteryReg (k / 32) = false → t.regs.look k = none) ∧
    (∃ t, exec .resetNAssert s = .next t ∧ t.held = true ∧ t.time.raw = s.time.raw ∧ t.time.now = s.time.now ∧ t.keys.root = s.keys.root ∧
      t.fld F.SYS_RESET_CAUSE_PIN 0 = 1 ∧ t.synced = s.synced ∧ t.pending = s.pending ∧
      ∀ k, batteryReg (k / 32) = false → k / 32 ≠ R.SYS_RESET_CAUSE.off → k / 32 ≠ R.TIME_STATUS.off → k / 32 ≠ R.REFS_STATUS.off → t.regs.look k = none) ∧
    (∀ v : Word, s.held = false → v.toNat / 65536 = 0xA5A5 → bitOf v.toNat 4 = true →
      ∃ t, exec (.deviceReset v) s = .next t ∧ t.held = false ∧ t.time.raw = s.time.raw ∧ t.time.now = s.time.now ∧ t.synced = s.synced ∧
        t.dev.bootEpoch = (s.flash.largest 1 + 1) % 2 ^ 32 ∧ t.fld F.SYS_RESET_CAUSE_DEVICE 0 = 1 ∧ t.released = false ∧
        (s.updState = 3 → t.start.copying = 1 ∧ t.fld F.BIST_STATUS_PHASE 0 = 1)) ∧
    (∀ v : Word, s.held = false → v.toNat / 65536 ≠ 0xA5A5 →
      ∃ t, exec (.deviceReset v) s = .next t ∧ t.fld F.SYS_HIST_CFG_REJECTED 0 = 1 ∧ s.onlyRegs t [F.SYS_HIST_CFG_REJECTED.key 0, F.BLK_REJECT_CNT_COUNT.key 0]) ∧
    (∀ slot, s.start.clamped = false → s.start.booted = false → s.start.pinLow = true ∨ s.fld F.BIST_STATUS_PHASE 0 = 0 →
      ∃ t, exec (.powerOnRelease slot) s = .next t ∧ t.held = false ∧ t.dev.bootEpoch = (s.flash.largest 1 + 1) % 2 ^ 32 ∧ t.time.raw = s.time.raw ∧
        (s.on F.SYS_RESET_CAUSE_POWER_ON 0 = true → t.dev.fabId = slot % 32 ∧ t.dev.idInvalid = decide (17 < slot % 32)) ∧
        (s.updState = 3 → t.start.copying = 1 ∧ t.fld F.BIST_STATUS_PHASE 0 = 1)) ∧
    (∀ slot, s.start.clamped = true → ∃ t, exec (.powerOnRelease slot) s = .next t ∧ t.held = true ∧ t.start = { s.start with pinLow := false } ∧ s.regsKept t []) ∧
    (∀ slot, s.held = false → s.start.booted = true ∨ s.fld F.BIST_STATUS_PHASE 0 ≠ 0 → ∃ t, exec (.powerOnRelease slot) s = .next t ∧ s.onlyRegs t []) ∧
    (s.lifeCycle ≠ 4 → s.start.clamped = false → ∃ t, exec (.extestClampSelect true) s = .next t ∧ t.held = true ∧ t.time.raw = s.time.raw) ∧
    (∀ sel, s.lifeCycle = 4 ∨ s.start.clamped = sel → s.held = false → ∃ t, exec (.extestClampSelect sel) s = .next t ∧ s.onlyRegs t []) ∧
    (s.lifeCycle ≠ 4 → s.start.clamped = true → s.start.pinLow = false →
      ∃ t, exec (.extestClampSelect false) s = .next t ∧ t.held = false ∧ t.dev.bootEpoch = (s.flash.largest 1 + 1) % 2 ^ 32) ∧
    (s.lifeCycle ≠ 4 → s.start.clamped = true → s.start.pinLow = true →
      ∃ t, exec (.extestClampSelect false) s = .next t ∧ t.start.clamped = false ∧ t.held = true ∧ s.regsKept t [])

/-- Self-test phases pass one by one; a released device records its epoch and is ready; slot copies advance the update, and a failed copy is tried once more (R627, R629, R632, R639, R641, R643, section 18_start_selftest_update.md). -/
def Obligations.StartAndReleaseProceed : Prop :=
  ∀ (s : State), s.held = false →
    (∀ p code bad yard, s.phaseRuns p = false → ∃ t, exec (.selftestPhaseDone p code bad yard) s = .next t ∧ s.onlyRegs t []) ∧
    (∀ p code yard, s.phaseRuns p = true →
      ∃ t, exec (.selftestPhaseDone p code [] yard) s = .next t ∧ t.start.phases = withBit s.start.phases (p - 1) ∧
        t.fld F.BIST_STATUS_PHASE 0 = phaseShown t.start.phases ∧
        (t.start.phases = 63 → s.fld F.BIST_STATUS_SAFE 0 = 0 → s.start.failed = 0 → t.fld F.BIST_STATUS_RESULT 0 = 0)) ∧
    (s.start.booted = true → s.released = false → s.start.phases = 63 → s.fld F.BIST_STATUS_SAFE 0 = 0 → s.updState ≠ 5 →
      s.sfld F.PWR_TEMP_TJ 0 < 1050 → (∀ st, s.settings = some st → st.cfg = []) →
      ∃ t, exec .releaseDevice s = .next t ∧ t.released = true ∧ t.start.relRaw = s.time.raw ∧ t.flash = s.flash.append 1 0 s.dev.bootEpoch ∧
        ∀ v, s.has v = true → t.fld F.BLK_STATUS_READY v = 1) ∧
    (s.start.booted = false ∨ s.released = true ∨ s.start.phases ≠ 63 ∨ s.on F.BIST_STATUS_SAFE 0 = true → ∃ t, exec .releaseDevice s = .next t ∧ s.onlyRegs t []) ∧
    (s.start.copying = 0 → ∀ ok, ∃ t, exec (.slotCopyDone ok) s = .next t ∧ s.onlyRegs t []) ∧
    (s.start.copying = 1 → ∃ t, exec (.slotCopyDone true) s = .next t ∧ t.flash = (s.flash.copy bootSlot prevSlot).append 2 4 0 ∧ t.start.copying = 2 ∧
      s.regsKept t []) ∧
    (s.start.copying ≠ 0 → s.start.tries = 0 → ∃ t, exec (.slotCopyDone false) s = .next t ∧ t.start = { s.start with tries := 1 } ∧ t.flash = s.flash ∧
      s.regsKept t [])

/-- Update and settings commands stage, verify, commit, roll back or abandon an image, save settings and report, each in the states that allow it (R600, R639, R640, R641, R649, R653, section 18_start_selftest_update.md). -/
def Obligations.UpdatesMoveThroughStaging : Prop :=
  ∀ (s : State) (ch : Nat), s.held = false →
    (∀ p : List Byte, p.length = 12 → 512 ≤ le p 0 4 → le p 0 4 ≤ 67108864 → le p 4 4 = 0x5E5E → le p 8 4 = 0 → s.updState = 0 →
      ∃ t, exec (.updBegin ch p) s = .next t ∧ t.answered ch St.ACCEPTED [] ∧ t.flash = s.flash.append 2 1 0 ∧ t.start.erasing = true ∧
        t.start.length = le p 0 4 ∧ t.start.units = [] ∧ s.regsKept t []) ∧
    (s.start.erasing = true → ∃ t, exec .stagingEraseDone s = .next t ∧ t.flash = s.flash.erase staging s.start.length ∧ t.start.erasing = false ∧ s.regsKept t []) ∧
    (∀ o (d : List Byte), d.length = 128 → o % 128 = 0 → o < 2 ^ 32 → s.receiving = true → o + 128 ≤ s.start.length → s.start.units.look (o / 128) = false →
      ∃ t, exec (.updWrite ch (leBytes 4 o ++ [128, 0, 0, 0] ++ d)) s = .next t ∧ t.answered ch St.OK [] ∧ t.flash = s.flash.write (staging + o) d ∧
        t.start.units.look (o / 128) = true ∧ s.regsKept t []) ∧
    (s.receiving = true → s.start.units.length = unitsOf s.start.length →
      ∃ t, exec (.updFinish ch []) s = .next t ∧ t.answered ch St.ACCEPTED [] ∧ t.start = { s.start with verifying := true } ∧ t.flash = s.flash) ∧
    (s.start.verifying = true →
      ∃ t, exec .stagingVerifyDone s = .next t ∧ t.flash = s.flash.append 2 (if s.flash.imageFault staging = none then 2 else 0) 0 ∧
        t.start = { s.start with verifying := false, reason := (s.flash.imageFault staging).getD s.start.reason } ∧ s.regsKept t []) ∧
    (s.updState = 5 → (∃ t, exec (.updCommit ch [0xC0, 0xC0, 0, 0]) s = .next t ∧ t.answered ch St.OK [] ∧ t.flash = s.flash.append 2 0 0) ∧
      ∃ t, exec (.updRollback ch [0xC0, 0xBA, 0, 0]) s = .next t ∧ t.answered ch St.OK [] ∧ t.flash = s.flash.append 2 6 0) ∧
    (s.updState ≠ 5 → (∃ t, exec (.updCommit ch [0xC0, 0xC0, 0, 0]) s = .next t ∧ t.answered ch St.NOT_READY [] ∧ s.onlyAnswer t ch []) ∧
      ∃ t, exec (.updRollback ch [0xC0, 0xBA, 0, 0]) s = .next t ∧ t.answered ch St.NOT_READY [] ∧ s.onlyAnswer t ch []) ∧
    (s.updState = 1 ∨ s.updState = 2 → ∃ t, exec (.updAbort ch []) s = .next t ∧ t.answered ch St.OK [] ∧ t.flash = s.flash.append 2 0 0 ∧ t.start.erasing = false) ∧
    (s.start.saving = none → ∃ t, exec (.settingsSave ch []) s = .next t ∧ t.answered ch St.ACCEPTED [] ∧ t.flash = s.flash.setBank s.targetBank none ∧
      t.start.saving = some (s.targetBank, s.snapshot) ∧ s.regsKept t []) ∧
    (∀ x, s.start.saving = some x → ∃ t, exec .settingsWriteDone s = .next t ∧ t.flash.bank x.1 = some x.2 ∧ t.start.curB = x.1 ∧ t.start.saving = none ∧
      s.regsKept t []) ∧
    (∃ t d, exec (.updStatus ch []) s = .next t ∧ t.answered ch (if s.start.defaulted then St.SETTINGS_DEFAULTED else St.OK) d ∧ d.length = 48 ∧
      d.head? = some (BitVec.ofNat 8 s.updState) ∧ s.onlyAnswer t ch []) ∧
    (∃ t d, exec (.bistReport ch []) s = .next t ∧ t.answered ch St.OK d ∧ d.length = 80 ∧ s.onlyAnswer t ch [])

/-- A window's charges stay within the budget; a change that fits is made or its next stage charged; ramps, samples and target steps are recorded (R657, R659, R660, R661, R662, R663, R664, R665, section 19_power_and_energy.md). -/
def Obligations.PowerStepsFollowTheSequencer : Prop :=
  (∀ (s : State), s.held = false → s.pwrState ≠ 3 → s.windowCharge ≤ s.fld F.PWR_CFG_STEP_BUDGET 0 * chargeUnit →
    (∃ t, exec .domainSwitch s = .next t ∧ t.windowCharge ≤ t.fld F.PWR_CFG_STEP_BUDGET 0 * chargeUnit) ∧
    ∀ d i, ∃ t, exec (.runRampStep d i false) s = .next t ∧ t.windowCharge ≤ t.fld F.PWR_CFG_STEP_BUDGET 0 * chargeUnit) ∧
  (∀ (s : State), s.held = false → s.pwrState = 0 →
    (∀ c, s.pwr.queue.head? = some c → c.dom < 96 → s.chargeFits (s.stageCharge c.left) = true → c.left ≤ s.stageCharge c.left →
      ∃ t, exec .domainSwitch s = .next t ∧ t.domOn c.dom = c.on ∧ t.pwr.queue = s.pwr.queue.tail ∧
        t.pwr.charges.head? = some (s.time.raw, s.stageCharge c.left) ∧ (c.last = true → t.fld F.PWR_HIST_DOMAIN_DONE 0 = 1) ∧
        (c.on = false → ∀ k, domainOf (k / 32) = some c.dom → t.regs.look k = none)) ∧
    (∀ c, s.pwr.queue.head? = some c → s.chargeFits (s.stageCharge c.left) = true → s.stageCharge c.left < c.left →
      ∃ t, exec .domainSwitch s = .next t ∧ t.pwr.queue = { c with left := c.left - s.stageCharge c.left } :: s.pwr.queue.tail ∧ s.regsKept t []) ∧
    (∀ c, s.pwr.queue.head? = some c → s.chargeFits (s.stageCharge c.left) = false → ∃ t, exec .domainSwitch s = .next t ∧ s.onlyRegs t []) ∧
    (s.pwr.queue = [] → ∃ t, exec .domainSwitch s = .next t ∧ s.onlyRegs t []) ∧
    (∀ d i, s.unitOn d = true → i < 16 → (if i = 0 then 0 else s.pwr.ramps.look d) = i → s.chargeFits (runCharge d * 15) = true →
      i = 0 ∨ 16 * s.pwr.rampT.look d + i * s.fld F.PWR_CFG_RUN_RAMP_US 0 * 1000 ≤ 16 * s.time.raw →
      ∃ t, exec (.runRampStep d i false) s = .next t ∧ t.pwr.ramps.look d = i + 1 ∧ t.pwr.charges.head? = some (s.time.raw, runCharge d * 15) ∧
        t.pwr.rampT.look d = (if i = 0 then s.time.raw else s.pwr.rampT.look d) ∧ s.regsKept t []) ∧
    (∀ d i, s.unitOn d = true → i < 16 → (if i = 0 then 0 else s.pwr.ramps.look d) = i →
      ∃ t, exec (.runRampStep d i true) s = .next t ∧ t.pwr.ramps.look d = 16 ∧ t.pwr.charges.head? = some (s.time.raw, runCharge d * 15 * (16 - i)) ∧
        t.fld F.PWR_HIST_STEP_OVER 0 = 1 ∧ s.regsKept t [F.PWR_HIST_STEP_OVER.key 0, F.STEP_OVER_CNT_COUNT.key 0]) ∧
    (∀ d i late, s.unitOn d = false ∨ 16 ≤ i ∨ (i ≠ 0 ∧ s.pwr.ramps.look d ≠ i) → ∃ t, exec (.runRampStep d i late) s = .next t ∧ s.onlyRegs t []) ∧
    (∀ d i, i ≠ 0 → s.chargeFits (runCharge d * 15) = false ∨ 16 * s.time.raw < 16 * s.pwr.rampT.look d + i * s.fld F.PWR_CFG_RUN_RAMP_US 0 * 1000 →
      ∃ t, exec (.runRampStep d i false) s = .next t ∧ s.onlyRegs t []) ∧
    (∀ mv ma, ∃ t, exec (.avsPoll mv ma) s = .next t ∧ t.pwr = { s.pwr with sum := s.pwr.sum + mv * ma, samples := s.pwr.samples + 1 } ∧ s.regsKept t []) ∧
    (∀ floor, s.fld F.AVS_STATUS_VDD_MV 0 ≤ 820 →
      ∃ t, exec (.avsTargetStep floor) s = .next t ∧ t.fld F.AVS_STATUS_FLOOR_MV 0 = min floor 1023 ∧
        t.fld F.AVS_STATUS_VDD_MV 0 =
          max (toward (s.fld F.AVS_STATUS_VDD_MV 0) (clampNat 680 820 ((min floor 1023 + 5 * s.fld F.PWR_CFG_AVS_MARGIN 0 + 4) / 5 * 5)) 5) (min floor 820) ∧
        (820 < floor → t.fld F.PWR_HIST_AVS_LIMIT 0 = 1) ∧
        (floor ≤ 820 → s.onlyRegs t [F.AVS_STATUS_FLOOR_MV.key 0, F.AVS_STATUS_VDD_MV.key 0])))

/-- The cap steps up on a second above it and down after ten below; the hottest reading warns at 100 C and shuts down at 110 C (R666, R667, R669, R670, section 19_power_and_energy.md). -/
def Obligations.CapAndTemperatureAct : Prop :=
  ∀ (s : State), s.held = false →
    (0 < s.pwr.samples → s.fld F.PWR_CAP_CAP_W 0 ≠ 0 → s.fld F.PWR_CAP_CAP_W 0 * 1000000 < s.pwr.sum / s.pwr.samples → s.fld F.PWR_STATUS_CAP_STEP 0 < 3 →
      ∃ t, exec .capEval s = .next t ∧ t.fld F.PWR_STATUS_CAP_STEP 0 = s.fld F.PWR_STATUS_CAP_STEP 0 + 1 ∧ t.fld F.PWR_HIST_CAP_STEPPED 0 = 1 ∧
        t.fld F.WIT_CFG_PROXY_DIV 0 = min (s.fld F.PWR_STATUS_CAP_STEP 0 + 1) 2 ∧ t.pwr.sum = 0 ∧ t.pwr.samples = 0 ∧ t.pwr.below = 0 ∧
        t.fld F.PWR_STATUS_POWER_DW 0 = min (s.pwr.sum / s.pwr.samples / 100000) 65535) ∧
    (0 < s.pwr.samples → s.fld F.PWR_CAP_CAP_W 0 ≠ 0 → s.fld F.PWR_CAP_CAP_W 0 * 1000000 < s.pwr.sum / s.pwr.samples → s.fld F.PWR_STATUS_CAP_STEP 0 = 3 →
      ∃ t, exec .capEval s = .next t ∧ t.fld F.PWR_STATUS_CAP_UNMET 0 = 1 ∧ t.fld F.PWR_HIST_CAP_UNMET 0 = 1 ∧ t.pwr.below = 0 ∧
        s.regsKept t [F.PWR_STATUS_POWER_DW.key 0, F.PWR_STATUS_CAP_UNMET.key 0, F.PWR_HIST_CAP_UNMET.key 0]) ∧
    (s.fld F.PWR_CAP_CAP_W 0 = 0 → s.on F.PWR_STATUS_TEMP_WARN 0 = false → 9 ≤ s.pwr.below → 0 < s.fld F.PWR_STATUS_CAP_STEP 0 → s.fld F.PWR_STATUS_CAP_STEP 0 ≤ 3 →
      ∃ t, exec .capEval s = .next t ∧ t.fld F.PWR_STATUS_CAP_STEP 0 = s.fld F.PWR_STATUS_CAP_STEP 0 - 1 ∧ t.pwr.below = 0) ∧
    (s.fld F.PWR_CAP_CAP_W 0 = 0 → s.on F.PWR_STATUS_TEMP_WARN 0 = false → s.pwr.below < 9 →
      ∃ t, exec .capEval s = .next t ∧ t.pwr.below = s.pwr.below + 1 ∧ s.regsKept t [F.PWR_STATUS_POWER_DW.key 0, F.PWR_STATUS_CAP_UNMET.key 0]) ∧
    (∀ readings, (highestReading readings 0).2 < 12 → 1000 ≤ (highestReading readings 0).1 → (highestReading readings 0).1 < 1100 →
      ∃ t, exec (.tempSample readings) s = .next t ∧ t.sfld F.PWR_TEMP_TJ 0 = (highestReading readings 0).1 ∧ t.fld F.PWR_TEMP_HOT_SENSOR 0 = (highestReading readings 0).2 ∧ t.fld F.PWR_STATUS_TEMP_WARN 0 = 1 ∧
        (s.on F.PWR_STATUS_TEMP_WARN 0 = false → t.fld F.PWR_HIST_THERMAL_WARN 0 = 1) ∧ s.onlyRegs t [F.PWR_TEMP_TJ.key 0, F.PWR_TEMP_HOT_SENSOR.key 0, F.PWR_STATUS_TEMP_WARN.key 0, F.PWR_HIST_THERMAL_WARN.key 0]) ∧
    (∀ readings, (highestReading readings 0).2 < 12 → -400 ≤ (highestReading readings 0).1 → (highestReading readings 0).1 < 950 →
      ∃ t, exec (.tempSample readings) s = .next t ∧ t.sfld F.PWR_TEMP_TJ 0 = (highestReading readings 0).1 ∧ t.fld F.PWR_TEMP_HOT_SENSOR 0 = (highestReading readings 0).2 ∧ t.fld F.PWR_STATUS_TEMP_WARN 0 = 0 ∧
        s.onlyRegs t [F.PWR_TEMP_TJ.key 0, F.PWR_TEMP_HOT_SENSOR.key 0, F.PWR_STATUS_TEMP_WARN.key 0, F.PWR_HIST_THERMAL_WARN.key 0]) ∧
    (∀ readings, (highestReading readings 0).2 < 12 → 950 ≤ (highestReading readings 0).1 → (highestReading readings 0).1 < 1000 →
      ∃ t, exec (.tempSample readings) s = .next t ∧ t.sfld F.PWR_TEMP_TJ 0 = (highestReading readings 0).1 ∧ s.onlyRegs t [F.PWR_TEMP_TJ.key 0, F.PWR_TEMP_HOT_SENSOR.key 0]) ∧
    (∀ readings, (highestReading readings 0).2 < 12 → 1100 ≤ (highestReading readings 0).1 → (highestReading readings 0).1 < 2000 → s.on F.PWR_STATUS_THERMAL_SHUTDOWN 0 = false →
      ∃ t, exec (.tempSample readings) s = .next t ∧ t.fld F.PWR_STATUS_THERMAL_SHUTDOWN 0 = 1 ∧ t.fld F.PWR_HIST_THERMAL_SHUTDOWN 0 = 1 ∧
        t.fld F.BIST_STATUS_SAFE 0 = 1)

/-- The power commands set, queue and report; sleep saves the domains and a doorbell, an enabled timer or a wake of the fabric ends it (R585, R658, R671, R674, R678, section 19_power_and_energy.md). -/
def Obligations.SleepAndPowerCommands : Prop :=
  ∀ (s : State) (ch : Nat), s.held = false → s.on F.BIST_STATUS_SAFE 0 = false →
    (∀ p : List Byte, p.length = 8 → 10 ≤ le p 0 1 → 1 ≤ le p 1 1 → le p 1 1 ≤ 100 → 1 ≤ le p 2 1 → le p 3 1 ≤ 15 → 1 ≤ le p 6 1 → le p 6 1 ≤ 50 → le p 7 1 = 0 →
      ∃ t, exec (.pwrSet ch p) s = .next t ∧ t.answered ch St.OK [] ∧ t.fld F.PWR_CFG_STEP_BUDGET 0 = le p 0 1 ∧ t.fld F.PWR_CFG_STEP_WIN 0 = le p 1 1 ∧
        t.fld F.PWR_CAP_CAP_W 0 = le p 4 2 ∧ t.fld F.PWR_CAP_CAP_HYST 0 = le p 6 1 ∧ s.restAnswered t) ∧
    (∀ d, d < 96 → s.domHas d = true → sleepSet d = false → s.pwrState = 0 → s.domFuture d = false → s.domUnused d = false →
      ∃ t, exec (.pwrDomain ch (leBytes 12 (2 ^ d) ++ [1, 0, 0, 0])) s = .next t ∧ t.answered ch St.ACCEPTED [] ∧
        t.pwr.queue = s.pwr.queue ++ [⟨d, true, wakeCharge d * chargeUnit, true⟩] ∧ d ∉ t.pwr.off ∧ s.regsKept t []) ∧
    (∀ p : List Byte, p.length = 16 → le p 12 1 ≤ 1 → zeros p 13 3 = true → ((onesAt 96 (le p 0 12)).any sleepSet) = false →
      ((onesAt 96 (le p 0 12)).any fun d => !s.domHas d) = false → s.pwrState ≠ 0 →
      ∃ t, exec (.pwrDomain ch p) s = .next t ∧ t.answered ch St.NOT_READY [] ∧ s.onlyAnswer t ch []) ∧
    (∃ t d, exec (.pwrStatus ch []) s = .next t ∧ t.answered ch St.OK d ∧ d.length = 32 ∧ s.onlyAnswer t ch []) ∧
    (∀ fl, fl ≤ 3 → s.pwrState = 0 → s.twinState ≠ 1 → s.sleepBarred = false → s.fld F.GUARD_LOCK_LOCK 0 = 0 →
      ∃ t, exec (.pwrSleep ch (leBytes 1 fl ++ [0, 0, 0, 0x51, 0x51, 0, 0])) s = .next t ∧ t.answered ch St.ACCEPTED [] ∧ (t.pwrState = 1 ∨ t.pwrState = 2) ∧
        t.fld F.PWR_WAKE_EN_TMR_MASK 0 = 0 ∧ ∀ i < 3, t.fld F.PWR_SLEEP_MASK_MASK i = s.fld F.PWR_DOM_ON_ON i % 2 ^ 32) ∧
    (∀ c, c ≤ 32 → s.pwrState = 2 → s.fld F.CH_STATUS_REQ_STATE c = 0 → s.on F.CH_STATUS_RSP_READY c = false →
      ∃ t, exec (.doorbell c) s = .next t ∧ t.bitAt F.PWR_WAKE_CAUSE_CAUSE 0 0 = true ∧ (t.pwrState = 3 ∨ t.pwrState = 0) ∧ t.fld F.CH_STATUS_REQ_STATE c = 1) ∧
    (∀ n, n < 16 → s.pwrState = 2 → s.on F.PWR_WAKE_EN_TMR_WAKE 0 = true → s.bitAt F.PWR_WAKE_EN_TMR_MASK 0 n = true →
      ∃ t, exec (.wakeEvent 2 n) s = .next t ∧ t.bitAt F.PWR_WAKE_CAUSE_CAUSE 0 2 = true ∧ (t.pwrState = 3 ∨ t.pwrState = 0)) ∧
    (∀ n, s.pwrState = 2 → s.on F.PWR_WAKE_EN_FAB_WAKE 0 = true →
      ∃ t, exec (.wakeEvent 1 n) s = .next t ∧ t.bitAt F.PWR_WAKE_CAUSE_CAUSE 0 1 = true ∧ (t.pwrState = 3 ∨ t.pwrState = 0)) ∧
    (∀ n, s.on F.PWR_WAKE_EN_TMR_WAKE 0 = false ∨ s.bitAt F.PWR_WAKE_EN_TMR_MASK 0 n = false → ∃ t, exec (.wakeEvent 2 n) s = .next t ∧ s.onlyRegs t []) ∧
    (∀ c n, s.pwrState = 0 ∨ s.pwrState = 3 → ∃ t, exec (.wakeEvent c n) s = .next t ∧ s.onlyRegs t [])

/-- Watchdogs, core restarts and GPIO: a due watchdog restarts its core, a wrong key is rejected, an undriven pin's change is recorded (R685, R709, R710, R711, section 21_register_map.md). -/
def Obligations.WatchdogsAndCoresRestart : Prop :=
  ∀ (s : State), s.held = false →
    (∀ k, k < 4 → ∃ t, exec (.wdtKick k) s = .next t ∧ t.sys = { s.sys with kicks := s.sys.kicks.put k s.time.raw, lasting := s.sys.lasting.erase k } ∧
      s.regsKept t [] ∧ t.keys = s.keys ∧ t.mbx = s.mbx ∧ t.flt = s.flt) ∧
    (∀ k, k < 4 → s.wdtDue k = true →
      ∃ t, exec (.wdtExpiry k) s = .next t ∧ t.bitAt F.SYS_HIST_WDT_EXPIRED 0 k = true ∧ t.bitAt F.SYS_RESET_CAUSE_CORE_WDT 0 k = true ∧
        t.sys.kicks = s.sys.kicks.put k s.time.raw ∧ (∀ l < 64, s.fld F.LOCK_OWNER_OWNER l = 33 + k → t.fld F.LOCK_OWNER_OWNER l = 0) ∧
        (k ∈ s.sys.lasting → t.flt = s.flt ∧ t.sys.lasting = s.sys.lasting) ∧
        (k ∉ s.sys.lasting → (0, k) ∉ s.flt.windows → t.flt = { s.flt with windows := s.flt.windows ++ [(0, k)] }) ∧
        (k ∉ s.sys.lasting → (0, k) ∈ s.flt.windows →
          t.fld F.BLK_FAULT_FAULT_LASTING 0 = 1 ∧ t.flt.windows = s.flt.windows.erase (0, k) ∧ t.sys.lasting = s.sys.lasting ++ [k])) ∧
    (∀ k, s.wdtDue k = false → ∃ t, exec (.wdtExpiry k) s = .next t ∧ s.onlyRegs t []) ∧
    (∀ v : Word, v.toNat / 65536 ≠ 0xA5A5 →
      ∃ t, exec (.coreRst v) s = .next t ∧ t.fld F.SYS_HIST_CFG_REJECTED 0 = 1 ∧ s.onlyRegs t [F.SYS_HIST_CFG_REJECTED.key 0, F.BLK_REJECT_CNT_COUNT.key 0]) ∧
    (∀ (v : Word) k, v.toNat / 65536 = 0xA5A5 → 1 ≤ k → k ≤ 3 → bitOf v.toNat k = true →
      ∃ t, exec (.coreRst v) s = .next t ∧ (∀ l < 64, s.fld F.LOCK_OWNER_OWNER l = 33 + k → t.fld F.LOCK_OWNER_OWNER l = 0) ∧
        ∀ c < 32, c % 4 = k → t.fld F.CH_HIST_DEV_RESTARTED c = 1) ∧
    (∀ n, n < 32 → s.bitAt F.GPIO_DIR_OUT 0 n = false → s.bitAt F.GPIO_IN_LEVEL 0 n = false →
      ∃ t, exec (.gpioChange n true) s = .next t ∧ t.bitAt F.GPIO_IN_LEVEL 0 n = true ∧
        (s.bitAt F.GPIO_EDGE_EN_EN 0 n = true → t.bitAt F.GPIO_EDGE_CHANGED 0 n = true ∧ t.fld F.SYS_HIST_GPIO_CHANGED 0 = 1) ∧
        s.onlyRegs t [F.GPIO_IN_LEVEL.key 0, F.GPIO_EDGE_CHANGED.key 0, F.SYS_HIST_GPIO_CHANGED.key 0]) ∧
    (∀ n, n < 32 → s.bitAt F.GPIO_DIR_OUT 0 n = false → s.bitAt F.GPIO_IN_LEVEL 0 n = true →
      ∃ t, exec (.gpioChange n false) s = .next t ∧ t.bitAt F.GPIO_IN_LEVEL 0 n = false ∧
        (s.bitAt F.GPIO_EDGE_EN_EN 0 n = true → t.bitAt F.GPIO_EDGE_CHANGED 0 n = true ∧ t.fld F.SYS_HIST_GPIO_CHANGED 0 = 1) ∧
        s.onlyRegs t [F.GPIO_IN_LEVEL.key 0, F.GPIO_EDGE_CHANGED.key 0, F.SYS_HIST_GPIO_CHANGED.key 0]) ∧
    (∀ n level, s.bitAt F.GPIO_DIR_OUT 0 n = true ∨ s.bitAt F.GPIO_IN_LEVEL 0 n = level → ∃ t, exec (.gpioChange n level) s = .next t ∧ s.onlyRegs t [])

/-- DEVICE_INFO, SYS_PING, SYS_RESET, SYS_HEALTH and DIAG_LOG answer with their payloads and change nothing else; a bad length is refused (R598, R600, R601, R680, section 16_mailboxes_and_commands.md). -/
def Obligations.SystemCommandsAnswer : Prop :=
  ∀ (s : State) (ch : Nat), s.held = false →
    (∃ t d, exec (.deviceInfo ch []) s = .next t ∧ t.answered ch (if s.start.defaulted then St.SETTINGS_DEFAULTED else St.OK) d ∧
      d.take 16 = padTo 16 s.dev.devId ∧ d.length = 64 ∧ s.onlyAnswer t ch []) ∧
    (∀ p : List Byte, p.length ≤ 960 → ∃ t, exec (.sysPing ch p) s = .next t ∧ t.answered ch St.OK p ∧ s.onlyAnswer t ch []) ∧
    (∀ p : List Byte, 960 < p.length → ∃ t, exec (.sysPing ch p) s = .next t ∧ t.answered ch St.BAD_LENGTH [] ∧ s.onlyAnswer t ch []) ∧
    (∃ t d, exec (.sysHealth ch []) s = .next t ∧ t.answered ch St.OK d ∧ d.length = 24 ∧
      d.take 8 = leBytes 4 (s.faultMask F.BLK_FAULT_FAULT_LASTING) ++ leBytes 4 (s.faultMask F.BLK_FAULT_FAULT_TRANSIENT) ∧ s.onlyAnswer t ch []) ∧
    (∃ t, exec (.sysHealth ch [0]) s = .next t ∧ t.answered ch St.BAD_LENGTH [] ∧ s.onlyAnswer t ch []) ∧
    (∀ (p : List Byte) (inStep : Bool), p.length = 8 → le p 0 1 ≤ 1 → le p 1 1 ≤ 1 → le p 2 2 = 0 → le p 4 4 = 0xA5A5 →
      (s.twinState = 1 → inStep = true → le p 1 1 = 1) →
      ∃ t, exec (.sysReset ch p inStep) s = .next t ∧ t.answered ch St.OK [] ∧ (if le p 0 1 = 0 then Out.coresSoon else Out.resetSoon) ∈ t.out ∧ s.onlyAnswer t ch []) ∧
    (∀ p text : List Byte, p.length = 8 → 1 ≤ le p 4 2 → le p 4 2 ≤ 948 → le p 6 2 = 0 →
      ∃ t d, exec (.diagLog ch p text) s = .next t ∧ t.answered ch St.OK d ∧ 12 ≤ d.length ∧ d.length ≤ 12 + le p 4 2 ∧
        t.mbx.log = (s.mbx.log ++ text).drop ((s.mbx.log ++ text).length - logSize) ∧ s.regsKept t [])

/-- Engine failures, retry windows, drive errors, march tests, clearing and injection move the fault record of their block as classed (R682, R685, R686, R697, section 20_faults_and_recovery.md). -/
def Obligations.FaultsAreClassedAndCleared : Prop :=
  ∀ (s : State), s.held = false →
    (∀ v i, checkedBlock v = true → s.noRetry v i = false → (v, i) ∉ s.flt.windows →
      ∃ t, exec (.engineCheckFail v i) s = .next t ∧ t.flt = { s.flt with windows := s.flt.windows ++ [(v, i)] } ∧ s.regsKept t []) ∧
    (∀ v i, checkedBlock v = true → v < 26 → s.noRetry v i = false → (v, i) ∈ s.flt.windows →
      ∃ t, exec (.engineCheckFail v i) s = .next t ∧ t.fld F.BLK_FAULT_FAULT_LASTING v = 1 ∧ t.flt.windows = s.flt.windows.erase (v, i)) ∧
    (∀ v i, checkedBlock v = true → v < 26 → s.noRetry v i = true →
      ∃ t, exec (.engineCheckFail v i) s = .next t ∧ t.fld F.BLK_FAULT_FAULT_LASTING v = 1 ∧ t.flt.windows = s.flt.windows) ∧
    (∀ v i, checkedBlock v = false → ∃ t, exec (.engineCheckFail v i) s = .next t ∧ s.onlyRegs t []) ∧
    (∀ v i, v < 26 → (v, i) ∈ s.flt.windows →
      ∃ t, exec (.faultRetryWindowEnd v i) s = .next t ∧ t.fld F.BLK_FAULT_FAULT_TRANSIENT v = 1 ∧ t.flt.windows = s.flt.windows.erase (v, i) ∧
        t.fld F.BLK_FAULT_FAULT_LASTING v = s.fld F.BLK_FAULT_FAULT_LASTING v) ∧
    (∀ v i, (v, i) ∉ s.flt.windows → ∃ t, exec (.faultRetryWindowEnd v i) s = .next t ∧ s.onlyRegs t []) ∧
    (∀ d, d < s.nvmePorts → s.selftest 0x0F = false → s.domOn (77 + d) = true →
      (∃ t, exec (.nvmeCommandError d true) s = .next t ∧ t.fld F.BLK_FAULT_FAULT_TRANSIENT 0x0F = 1 ∧
        t.fld F.BLK_FAULT_FAULT_LASTING 0x0F = s.fld F.BLK_FAULT_FAULT_LASTING 0x0F ∧
        t.fld F.WIT_DRV_ERR_CNT_COUNT d = min (s.fld F.WIT_DRV_ERR_CNT_COUNT d + 1) (2 ^ 32 - 1)) ∧
      ∃ t, exec (.nvmeCommandError d false) s = .next t ∧ t.fld F.BLK_FAULT_FAULT_LASTING 0x0F = 1 ∧
        t.fld F.WIT_DRV_ERR_CNT_COUNT d = min (s.fld F.WIT_DRV_ERR_CNT_COUNT d + 2) (2 ^ 32 - 1)) ∧
    (∀ bank passes repaired, (passes || repaired) = true → s.noRetry 0x0A 0 = false →
      ∃ t, exec (.marchTestDone bank passes repaired) s = .next t ∧ t.fld F.BLK_FAULT_FAULT_TRANSIENT 0x0A = 1 ∧
        t.fld F.BLK_FAULT_FAULT_LASTING 0x0A = s.fld F.BLK_FAULT_FAULT_LASTING 0x0A) ∧
    (∀ bank, ∃ t, exec (.marchTestDone bank false false) s = .next t ∧ t.fld F.BLK_FAULT_FAULT_LASTING 0x0A = 1) ∧
    (∀ v, v < 26 → s.reaches R.BLK_FAULT v → ∃ t, exec (.faultBitClear v 1) s = .next t ∧ t.fld F.BLK_FAULT_FAULT_TRANSIENT v = 0 ∧
      t.fld F.BLK_FAULT_FAULT_LASTING v = s.fld F.BLK_FAULT_FAULT_LASTING v) ∧
    (∀ v, v < 26 → s.reaches R.BLK_FAULT v → ∃ t, exec (.faultBitClear v 2) s = .next t ∧ t.fld F.BLK_FAULT_FAULT_TRANSIENT v = s.fld F.BLK_FAULT_FAULT_TRANSIENT v ∧
      t.on F.BLK_FAULT_FAULT_LASTING v = (s.on F.BLK_FAULT_FAULT_LASTING v && (s.lastingCause v).isSome)) ∧
    (∀ ch k v i, injectBlock k v = true → i < injectCount k v → 3 ≤ k → k < 256 → i < 65536 → s.injectHas k v i = true →
      s.bitAt F.FUSE_DEBUG_FAULT_INJ 0 s.lifeCycle = false →
      ∃ t, exec (.diagInject ch ([BitVec.ofNat 8 k, BitVec.ofNat 8 v] ++ leBytes 2 i ++ zeroBytes 8)) s = .next t ∧ t.answered ch St.AUTH_FAIL [] ∧
        s.onlyAnswer t ch []) ∧
    (∀ ch, s.bitAt F.FUSE_DEBUG_FAULT_INJ 0 s.lifeCycle = true →
      (∀ i, i < 65536 → ∃ t, exec (.diagInject ch ([3, 0x0A] ++ leBytes 2 i ++ zeroBytes 8)) s = .next t ∧ t.answered ch St.OK [] ∧
        t.flt = { s.flt with marks := s.flt.marks ++ [(0x0A, i)] }) ∧
      (∀ i, i < 128 → s.noRetry 6 i = false → (6, i) ∉ s.flt.windows →
        ∃ t, exec (.diagInject ch ([7, 6] ++ leBytes 2 i ++ zeroBytes 8)) s = .next t ∧ t.answered ch St.OK [] ∧
          t.flt = { s.flt with marks := s.flt.marks ++ [(6, i)], windows := s.flt.windows ++ [(6, i)] }) ∧
      ∀ i, i < s.stacks → 0x8000000000 < s.yardEnd →
        ∃ t, exec (.diagInject ch ([1, 0x16] ++ leBytes 2 i ++ leBytes 8 0x8000000000)) s = .next t ∧ t.answered ch St.OK [] ∧ t.fld F.HBMC_HIST_CE 0 = 1 ∧
          t.flt = s.flt) ∧
    (∀ ch, ∃ t, exec (.faultClear ch [2, 0, 0, 0, 1, 0, 0, 0]) s = .next t ∧ t.answered ch St.OK [] ∧ t.fld F.BLK_FAULT_FAULT_TRANSIENT 1 = 0 ∧
      t.fld F.BLK_FAULT_FAULT_LASTING 1 = s.fld F.BLK_FAULT_FAULT_LASTING 1)

/-- A corrected read is counted, a twice uncorrectable one poisons its unit and starts a repair; a lockstep disagreement resets the safety core (R557, R688, R689, R690, R691, section 20_faults_and_recovery.md). -/
def Obligations.YardErrorsAreRepairedOrRecorded : Prop :=
  ∀ (s : State) (st bank row : Nat), s.held = false → st < s.stacks →
    (∀ pass, ∃ t, exec (.scrubPass st bank row pass true) s = .next t ∧ t.fld F.HBMC_HIST_CE 0 = 1 ∧
      t.fld F.HBMC_CE_CNT_COUNT st = min (s.fld F.HBMC_CE_CNT_COUNT st + 1) (2 ^ F.HBMC_CE_CNT_COUNT.width - 1) ∧
      s.regsKept t [F.HBMC_HIST_CE.key 0, F.HBMC_CE_CNT_COUNT.key st] ∧
      (s.flt.ceRuns = [] → t.flt.ceRuns.map (fun x => x.2.2.2) = if s.fld F.HBMC_CFG_CE_ROW_LIM 0 ≤ 1 ∧ s.spareFree st bank = true then [] else [(pass, 1)])) ∧
    (∀ pass n, s.flt.ceRuns = [(st, bank, row, pass, n)] → s.fld F.HBMC_CFG_CE_ROW_LIM 0 ≤ n + 1 → s.spareFree st bank = true →
      ∃ t, exec (.scrubPass st bank row (pass + 1) true) s = .next t ∧ t.flt = { s.flt with ceRuns := [], repairs := s.flt.repairs ++ [(st, bank, row, false)] }) ∧
    (∀ pass, ∃ t, exec (.scrubPass st bank row pass false) s = .next t ∧ s.onlyRegs t []) ∧
    (∀ addr, s.selftest 0x16 = false → s.domOn (79 + st) = true → s.flt.repairs = [] → (st, bank) ∉ s.flt.spares →
      ∃ t, exec (.yardUe st bank row addr true) s = .next t ∧ t.fld F.HBMC_HIST_UE 0 = 1 ∧ addr / 64 ∈ t.flt.poison ∧ t.flt.repairs = [(st, bank, row, true)] ∧
        t.fld F.HBMC_UE_CNT_COUNT st = min (s.fld F.HBMC_UE_CNT_COUNT st + 1) (2 ^ F.HBMC_UE_CNT_COUNT.width - 1) ∧
        t.fld F.BLK_FAULT_FAULT_LASTING 0x16 = s.fld F.BLK_FAULT_FAULT_LASTING 0x16) ∧
    (∀ addr, s.flt.repairs = [] → (st, bank) ∈ s.flt.spares →
      ∃ t, exec (.yardUe st bank row addr true) s = .next t ∧ addr / 64 ∈ t.flt.poison ∧ t.flt.repairs = [] ∧ t.fld F.BLK_FAULT_FAULT_LASTING 0x16 = 1) ∧
    (∀ addr, s.selftest 0x16 = false → s.domOn (79 + st) = true →
      ∃ t, exec (.yardUe st bank row addr false) s = .next t ∧ t.fld F.BLK_FAULT_FAULT_TRANSIENT 0x16 = 1 ∧ t.flt.poison = s.flt.poison ∧
        t.flt.repairs = s.flt.repairs ∧ t.fld F.BLK_FAULT_FAULT_LASTING 0x16 = s.fld F.BLK_FAULT_FAULT_LASTING 0x16) ∧
    (∀ ue ok, s.flt.repairs = [(st, bank, row, ue)] →
      ∃ t, exec (.rowRepairDone st bank row ok) s = .next t ∧ t.flt.repairs = [] ∧ (st, bank) ∈ t.flt.spares ∧
        t.flt.rows = (if ok then s.flt.rows ++ [(st, bank, row)] else s.flt.rows) ∧ (ok = true → t.fld F.HBMC_HIST_REPAIRED 0 = 1) ∧
        (ue = true → ok = true → t.fld F.BLK_FAULT_FAULT_TRANSIENT 0x16 = 1) ∧ (ue = true → ok = false → t.fld F.BLK_FAULT_FAULT_LASTING 0x16 = 1)) ∧
    (∀ ok, s.flt.repairs = [] → ∃ t, exec (.rowRepairDone st bank row ok) s = .next t ∧ s.onlyRegs t []) ∧
    (∃ t, exec .lockstepDisagreement s = .next t ∧ t.safetyReset = true ∧ t.fld F.BLK_FAULT_FAULT_LASTING 0 = 1)

/-- A step is the effect of the command at the front of the queue on the device with the rest of the queue; with nothing waiting a device stays as it is (section 95_what_each_step_holds.md). -/
def Obligations.AStepTakesTheFrontCommand : Prop :=
  (∀ (s : State) (c : Instr) (rest : List Instr), s.pending = c :: rest → step s = exec c { s with pending := rest }) ∧ ∀ s : State, s.pending = [] → step s = .next s

/-- After power-on reset every register field reads the value of its Reset column, nothing waits, the register table is canonical, and time is 0 (R103, R702, R672, section 21_register_map.md). -/
def Obligations.ResetHoldsTheTablesValues : Prop :=
  State.reset.pending = [] ∧ State.reset.regsWf ∧ (∀ f n, State.reset.fld f n = f.rst n) ∧ State.reset.time.now = 0 ∧ State.reset.time.raw = 0 ∧
  State.reset.fld F.TIME_STATUS_SYNCED 0 = 0 ∧ State.reset.yard = [] ∧ State.reset.pwr.queue = [] ∧ State.reset.held = false ∧
  (∀ d < 96, State.reset.domOn d = decide (d = 82 ∨ d = 87 ∨ d = 95)) ∧ State.reset.fld F.WIT_CFG_SEAL_S 0 = 30 ∧ State.reset.fld F.TL_CFG_RATE 0 = 5 ∧ State.reset.fld F.TL_CFG_RATE 1 = 6

/-- Every step of every command ends in a next state, uses up just that command, and requests each MSI-X vector whose condition it raises (R581, R706, section 16_mailboxes_and_commands.md). -/
def Obligations.EveryCommandCompletesAndRaisesItsVectors : Prop :=
  ∀ (s : State) (c : Instr) (rest : List Instr), s.pending = c :: rest →
    ∃ t, step s = .next t ∧ t.pending = rest ∧ ∀ v < 64, s.vector v = false → t.vector v = true → Out.msix v ∈ t.out

/-- A device held in reset stays held, and as it is, through every command but power, the reset pin and the JTAG instruction (R103, R613, R615, R717, R721, section 22_electrical_and_package.md). -/
def Obligations.AHeldDeviceStaysHeld : Prop :=
  ∀ (s t : State), s.stuckHeld → step s = .next t →
    t.stuckHeld ∧ ∀ c rest, s.pending = c :: rest → worksHeld c = false → t = { s with out := [], pending := rest }
end

