-- ==== Sys2Proof/Laws/Bank.lean ====
section
/-!
SUPPORT. The sparse tables: a read after a write, the writes that leave a key alone, and that every write keeps the canonical form.
-/
namespace Sys2Proof.Machine

variable {α : Type} [Inhabited α] [DecidableEq α]

omit [DecidableEq α] in
theorem Bank.look_ins_same (b : Bank α) (k : Nat) (v : α) : (b.ins k v).look k = v := by
  induction b with
  | nil => simp [Bank.ins, Bank.look]
  | cons x t ih =>
    obtain ⟨k', w⟩ := x
    unfold Bank.ins
    split
    · simp [Bank.look]
    · split
      · simp [Bank.look]
      · rename_i h
        simp [Bank.look, Ne.symm h, ih]

omit [DecidableEq α] in
theorem Bank.look_ins_ne (b : Bank α) {k j : Nat} (v : α) (h : j ≠ k) : (b.ins k v).look j = b.look j := by
  induction b with
  | nil => simp [Bank.ins, Bank.look, Ne.symm h]
  | cons x t ih =>
    obtain ⟨k', w⟩ := x
    unfold Bank.ins
    split
    · simp [Bank.look, Ne.symm h]
    · split
      · rename_i hk
        subst hk
        simp [Bank.look, Ne.symm h]
      · simp [Bank.look, ih]

omit [DecidableEq α] in
theorem Bank.look_del_same (b : Bank α) (k : Nat) : (b.del k).look k = default := by
  induction b with
  | nil => rfl
  | cons x t ih =>
    obtain ⟨k', w⟩ := x
    unfold Bank.del
    split
    · exact ih
    · rename_i h
      simp [Bank.look, h, ih]

omit [DecidableEq α] in
theorem Bank.look_del_ne (b : Bank α) {k j : Nat} (h : j ≠ k) : (b.del k).look j = b.look j := by
  induction b with
  | nil => rfl
  | cons x t ih =>
    obtain ⟨k', w⟩ := x
    unfold Bank.del
    split
    · rename_i hk
      subst hk
      simp [Bank.look, Ne.symm h, ih]
    · simp [Bank.look, ih]

/-- A key reads what was put there last. -/
@[simp] theorem Bank.look_put_same (b : Bank α) (k : Nat) (v : α) : (b.put k v).look k = v := by
  unfold Bank.put
  split
  · rename_i h
    rw [h, Bank.look_del_same]
  · exact Bank.look_ins_same b k v

/-- A put leaves every other key alone. -/
theorem Bank.look_put_ne (b : Bank α) {k j : Nat} (v : α) (h : j ≠ k) : (b.put k v).look j = b.look j := by
  unfold Bank.put
  split
  · exact Bank.look_del_ne b h
  · exact Bank.look_ins_ne b v h

@[simp] theorem Bank.look_upd_same (b : Bank α) (k : Nat) (f : α → α) : (b.upd k f).look k = f (b.look k) := Bank.look_put_same b k _

theorem Bank.look_upd_ne (b : Bank α) {k j : Nat} (f : α → α) (h : j ≠ k) : (b.upd k f).look j = b.look j := Bank.look_put_ne b _ h

/-- The canonical form, said by its members: keys rise strictly, and nothing listed is the unlisted value. -/
theorem Bank.wf_iff (b : Bank α) : b.wf = true ↔ b.Pairwise (fun x y => x.1 < y.1) ∧ ∀ x ∈ b, x.2 ≠ default := by
  induction b with
  | nil => simp [Bank.wf]
  | cons x t ih =>
    obtain ⟨k, v⟩ := x
    cases t with
    | nil => simp [Bank.wf]
    | cons y u =>
      obtain ⟨k', v'⟩ := y
      simp only [Bank.wf, Bool.and_eq_true, decide_eq_true_eq, ih]
      constructor
      · rintro ⟨⟨hv, hk⟩, hp, hm⟩
        refine ⟨List.pairwise_cons.2 ⟨?_, hp⟩, ?_⟩
        · intro z hz
          rcases List.mem_cons.1 hz with rfl | hz
          · exact hk
          · exact Nat.lt_trans hk ((List.pairwise_cons.1 hp).1 z hz)
        · intro z hz
          rcases List.mem_cons.1 hz with rfl | hz
          · exact hv
          · exact hm z hz
      · rintro ⟨hp, hm⟩
        have h := List.pairwise_cons.1 hp
        exact ⟨⟨hm _ (List.mem_cons_self ..), h.1 _ (List.mem_cons_self ..)⟩, h.2, fun z hz => hm z (List.mem_cons_of_mem _ hz)⟩

omit [Inhabited α] [DecidableEq α] in
theorem Bank.mem_ins (b : Bank α) (k : Nat) (v : α) {x : Nat × α} (h : x ∈ b.ins k v) : x = (k, v) ∨ x ∈ b := by
  induction b with
  | nil => simpa [Bank.ins] using h
  | cons y t ih =>
    obtain ⟨k', w⟩ := y
    unfold Bank.ins at h
    split at h
    · simpa using h
    · split at h
      · rcases List.mem_cons.1 h with h | h
        · exact .inl h
        · exact .inr (List.mem_cons_of_mem _ h)
      · rcases List.mem_cons.1 h with h | h
        · exact .inr (h ▸ List.mem_cons_self ..)
        · rcases ih h with h | h
          · exact .inl h
          · exact .inr (List.mem_cons_of_mem _ h)

omit [Inhabited α] [DecidableEq α] in
theorem Bank.mem_del (b : Bank α) (k : Nat) {x : Nat × α} (h : x ∈ b.del k) : x ∈ b := by
  induction b with
  | nil => exact h
  | cons y t ih =>
    obtain ⟨k', w⟩ := y
    unfold Bank.del at h
    split at h
    · exact List.mem_cons_of_mem _ (ih h)
    · rcases List.mem_cons.1 h with h | h
      · exact h ▸ List.mem_cons_self ..
      · exact List.mem_cons_of_mem _ (ih h)

theorem Bank.ins_wf (b : Bank α) (k : Nat) {v : α} (hv : v ≠ default) (h : b.wf = true) : (b.ins k v).wf = true := by
  rw [Bank.wf_iff] at h ⊢
  refine ⟨?_, fun x hx => ?_⟩
  · induction b with
    | nil => simp [Bank.ins]
    | cons y t ih =>
      obtain ⟨k', w⟩ := y
      have hp := List.pairwise_cons.1 h.1
      unfold Bank.ins
      split
      · rename_i hk
        refine List.pairwise_cons.2 ⟨fun z hz => ?_, h.1⟩
        rcases List.mem_cons.1 hz with rfl | hz
        · exact hk
        · exact Nat.lt_trans hk (hp.1 z hz)
      · split
        · rename_i hk
          subst hk
          exact List.pairwise_cons.2 ⟨hp.1, hp.2⟩
        · refine List.pairwise_cons.2 ⟨fun z hz => ?_, ih ⟨hp.2, fun x hx => h.2 x (List.mem_cons_of_mem _ hx)⟩⟩
          rcases Bank.mem_ins t k v hz with rfl | hz
          · simp only; omega
          · exact hp.1 z hz
  · rcases Bank.mem_ins b k v hx with rfl | hx
    · exact hv
    · exact h.2 x hx

theorem Bank.del_wf (b : Bank α) (k : Nat) (h : b.wf = true) : (b.del k).wf = true := by
  rw [Bank.wf_iff] at h ⊢
  refine ⟨?_, fun x hx => h.2 x (Bank.mem_del b k hx)⟩
  induction b with
  | nil => exact h.1
  | cons y t ih =>
    obtain ⟨k', w⟩ := y
    have hp := List.pairwise_cons.1 h.1
    have ht := ih ⟨hp.2, fun x hx => h.2 x (List.mem_cons_of_mem _ hx)⟩
    unfold Bank.del
    split
    · exact ht
    · exact List.pairwise_cons.2 ⟨fun z hz => hp.1 z (Bank.mem_del t k hz), ht⟩

/-- A put keeps the canonical form. -/
theorem Bank.put_wf (b : Bank α) (k : Nat) (v : α) (h : b.wf = true) : (b.put k v).wf = true := by
  unfold Bank.put
  split
  · exact Bank.del_wf b k h
  · rename_i hv
    exact Bank.ins_wf b k hv h

theorem Bank.upd_wf (b : Bank α) (k : Nat) (f : α → α) (h : b.wf = true) : (b.upd k f).wf = true := Bank.put_wf b k _ h

end Sys2Proof.Machine
end

