-- ==== Sys2Proof/Laws/Bytes.lean ====
section
/-!
SUPPORT. Byte strings: fields of a payload put together from parts, little-endian numbers, the range of a CRC, and the bytes of a drive after
a write.
-/
namespace Sys2Proof.Machine

@[simp] theorem bytesAt_length (p : List Byte) (o n : Nat) : (bytesAt p o n).length = n := by simp [bytesAt]
@[simp] theorem padTo_length (n : Nat) (p : List Byte) : (padTo n p).length = n := by simp [padTo]
@[simp] theorem zeroBytes_length (n : Nat) : (zeroBytes n).length = n := by simp [zeroBytes]
@[simp] theorem leBytes_length (n v : Nat) : (leBytes n v).length = n := by
  induction n generalizing v with
  | zero => rfl
  | succ n ih => simp [leBytes, ih]

theorem bytesAt_append_left {a b : List Byte} {o n : Nat} (h : o + n ≤ a.length) : bytesAt (a ++ b) o n = bytesAt a o n := by
  apply List.map_congr_left
  intro i hi
  have := List.mem_range.mp hi
  rw [List.getElem?_append_left (by omega)]

theorem bytesAt_append_right {a b : List Byte} {o n : Nat} (h : a.length ≤ o) : bytesAt (a ++ b) o n = bytesAt b (o - a.length) n := by
  apply List.map_congr_left
  intro i _
  rw [List.getElem?_append_right (by omega), Nat.sub_add_comm h]

theorem bytesAt_self (l : List Byte) : bytesAt l 0 l.length = l := by
  apply List.ext_getElem
  · simp
  · intro i _ h2
    simp [bytesAt, List.getElem?_eq_getElem h2]

theorem le_append_left {a b : List Byte} {o n : Nat} (h : o + n ≤ a.length) : le (a ++ b) o n = le a o n := by rw [le, bytesAt_append_left h, ← le]
theorem le_append_right {a b : List Byte} {o n : Nat} (h : a.length ≤ o) : le (a ++ b) o n = le b (o - a.length) n := by
  rw [le, bytesAt_append_right h, ← le]

@[simp] theorem leNat_leBytes (n v : Nat) : leNat (leBytes n v) = v % 256 ^ n := by
  induction n generalizing v with
  | zero => simp [leBytes, leNat, Nat.mod_one]
  | succ n ih =>
    have e : 256 ^ (n + 1) = 256 * 256 ^ n := by rw [Nat.pow_succ, Nat.mul_comm]
    have h : (BitVec.ofNat 8 v).toNat = v % 256 := BitVec.toNat_ofNat v 8
    rw [leBytes, leNat, ih, h, e, Nat.mod_mul]

/-- A number's own bytes read back as the number, as far as they reach. -/
@[simp] theorem le_leBytes (n v : Nat) : le (leBytes n v) 0 n = v % 256 ^ n := by
  have h : bytesAt (leBytes n v) 0 n = leBytes n v := by simpa using bytesAt_self (leBytes n v)
  rw [le, h, leNat_leBytes]

theorem crcBit_lt {w poly c : Nat} (hp : poly < 2 ^ w) (hc : c < 2 ^ w) : crcBit poly c < 2 ^ w := by
  unfold crcBit
  split
  · exact Nat.xor_lt_two_pow (Nat.lt_of_le_of_lt (Nat.div_le_self c 2) hc) hp
  · exact Nat.lt_of_le_of_lt (Nat.div_le_self c 2) hc

theorem crcOf_lt {w poly : Nat} (hw : 8 ≤ w) (hp : poly < 2 ^ w) (l : List Byte) : crcOf w poly l < 2 ^ w := by
  have h8 : (256 : Nat) ≤ 2 ^ w := Nat.pow_le_pow_right (n := 2) (by decide) hw
  have one : 2 ^ w - 1 < 2 ^ w := Nat.sub_lt (Nat.two_pow_pos w) (by decide)
  have go : ∀ (l : List Byte) c, c < 2 ^ w → l.foldl (crcByte poly) c < 2 ^ w := by
    intro l
    induction l with
    | nil => exact fun c h => h
    | cons x t ih =>
      intro c h
      refine ih _ ?_
      have hx : c ^^^ x.toNat < 2 ^ w := Nat.xor_lt_two_pow h (Nat.lt_of_lt_of_le x.isLt h8)
      exact crcBit_lt hp (crcBit_lt hp (crcBit_lt hp (crcBit_lt hp (crcBit_lt hp (crcBit_lt hp (crcBit_lt hp (crcBit_lt hp hx)))))))
  exact Nat.xor_lt_two_pow (go l _ one) one

theorem crc32c_lt (l : List Byte) : crc32c l < 256 ^ 4 := crcOf_lt (by decide) (by decide) l

/-! ### Drives (R515, R517) -/

theorem look_filter_out {b : Bank Byte} {p : Nat × Byte → Bool} {a : Nat} (h : ∀ v, p (a, v) = false) : Bank.look (b.filter p) a = default := by
  induction b with
  | nil => rfl
  | cons e t ih =>
    rw [List.filter_cons]
    split
    · rename_i hp
      have : e.1 ≠ a := fun he => by rw [← he] at h; exact absurd hp (by simp [h e.2])
      simp [Bank.look, this, ih]
    · exact ih

theorem look_filter_in {b : Bank Byte} {p : Nat × Byte → Bool} {a : Nat} (h : ∀ v, p (a, v) = true) : Bank.look (b.filter p) a = b.look a := by
  induction b with
  | nil => rfl
  | cons e t ih =>
    rw [List.filter_cons]
    by_cases he : e.1 = a
    · have : p e = true := by have := h e.2; rwa [← he] at this
      simp [this, Bank.look, he]
    · split <;> simp [Bank.look, he, ih]

theorem look_append {b c : Bank Byte} {a : Nat} (h : ∀ v, (a, v) ∉ b) : Bank.look (b ++ c) a = c.look a := by
  induction b with
  | nil => rfl
  | cons e t ih =>
    have : e.1 ≠ a := fun he => h e.2 (by rw [← he]; exact List.mem_cons_self)
    simp [Bank.look, this, ih fun v hv => h v (List.mem_cons_of_mem _ hv)]

theorem look_append_none {b c : Bank Byte} {a : Nat} (h : ∀ v, (a, v) ∉ c) : Bank.look (b ++ c) a = b.look a := by
  induction b with
  | nil =>
    induction c with
    | nil => rfl
    | cons e t ih =>
      have : e.1 ≠ a := fun he => h e.2 (by rw [← he]; exact List.mem_cons_self)
      simpa [Bank.look, this] using ih fun v hv => h v (List.mem_cons_of_mem _ hv)
  | cons e t ih => simp only [List.cons_append, Bank.look, ih]

/-- The bytes put down by one write, without its zeros. -/
theorem look_written (l : List Byte) (a k i : Nat) :
    Bank.look (((l.zipIdx k).filter fun x => x.1 != 0).map fun x => (a + x.2, x.1)) (a + k + i) = (l[i]?).getD 0 := by
  induction l generalizing k i with
  | nil => rfl
  | cons x t ih =>
    have zero : Bank.look (((t.zipIdx (k + 1)).filter fun x => x.1 != 0).map fun x => (a + x.2, x.1)) (a + k) = (0 : Byte) := by
      have := look_append_none (b := []) (c := ((t.zipIdx (k + 1)).filter fun x => x.1 != 0).map fun x => (a + x.2, x.1)) (a := a + k) (by
        intro v hv
        obtain ⟨y, hy, he⟩ := List.mem_map.mp hv
        have hm := (List.mem_filter.mp hy).1
        have := (List.mem_zipIdx hm).1
        simp at he; omega)
      rw [List.nil_append] at this
      rw [this]; rfl
    rw [List.zipIdx_cons, List.filter_cons]
    cases i with
    | zero =>
      by_cases hx : x = 0
      · rw [if_neg (by simp [hx])]
        simpa [hx] using zero
      · rw [if_pos (by simpa using hx)]
        simp [Bank.look]
    | succ i =>
      have h := ih (k + 1) i
      have e : a + k + (i + 1) = a + (k + 1) + i := by omega
      rw [e, List.getElem?_cons_succ]
      split
      · have : ¬ a + k = a + (k + 1) + i := by omega
        simpa only [List.map_cons, Bank.look, if_neg this] using h
      · exact h

/-- A byte of a drive after a write: the written one inside, the old one outside. -/
theorem look_drivePut (d : Bank Byte) (a : Nat) (l : List Byte) (i : Nat) :
    (drivePut d a l).look i = if a ≤ i ∧ i < a + l.length then (l[i - a]?).getD 0 else d.look i := by
  unfold drivePut
  split
  · rename_i h
    rw [look_append_none, look_append]
    · have := look_written l a 0 (i - a)
      have e : a + 0 + (i - a) = i := by omega
      rwa [e] at this
    · intro v hv; have := (List.mem_filter.mp hv).2; simp at this; omega
    · intro v hv; have := (List.mem_filter.mp hv).2; simp at this; omega
  · rename_i h
    have mid : ∀ v, (i, v) ∉ (l.zipIdx.filter fun x => x.1 != 0).map fun x => (a + x.2, x.1) := by
      intro v hv
      obtain ⟨y, hy, he⟩ := List.mem_map.mp hv
      have := List.mem_zipIdx (List.mem_filter.mp hy).1
      simp at he; omega
    by_cases hi : i < a
    · rw [look_append_none, look_append_none mid, look_filter_in]
      · intro v; simpa using hi
      · intro v hv; have := (List.mem_filter.mp hv).2; simp at this; omega
    · rw [List.append_assoc, look_append, look_append mid, look_filter_in]
      · intro v; simp; omega
      · intro v hv; have := (List.mem_filter.mp hv).2; simp at this; omega

/-- A read of just what was written gives it. -/
theorem driveGet_drivePut (d : Bank Byte) (a : Nat) (l : List Byte) : driveGet (drivePut d a l) a l.length = l := by
  apply List.ext_getElem
  · simp [driveGet]
  · intro i _ h2
    simp [driveGet, look_drivePut, h2]

/-- With only copy A of a header good, it is the header. -/
theorem driveHead_copyA {d : DriveSt} {a : List Byte} (h0 : headerAt d 0 = some a) (h1 : headerAt d 1 = none) : driveHead d = some a := by
  unfold driveHead
  generalize headerAt d 0 = x at *
  generalize headerAt d 1 = y at *
  subst h0 h1
  rfl

end Sys2Proof.Machine
end

