-- ==== Sys2Proof/Laws/Keys.lean ====
section
/-!
SUPPORT. Where each field is held in the register table, and its width: two fields are told apart by arithmetic on their keys.
-/
namespace Sys2Proof.Machine

theorem Field.key_rows (f : Field) (n : Nat) :
    f.key n = (f.reg.off * 32 + f.lo) + f.reg.stride * 32 * (n / f.reg.count2) + f.reg.stride2 * 32 * (n % f.reg.count2) := by
  unfold Field.key Reg.addr
  ring

theorem Field.key_plain (f : Field) (n : Nat) (h : f.reg.count2 = 1) : f.key n = (f.reg.off * 32 + f.lo) + f.reg.stride * 32 * n := by
  rw [Field.key_rows, h, Nat.div_one, Nat.mod_one, Nat.mul_zero, Nat.add_zero]

theorem Field.key_one (f : Field) (n : Nat) (h : f.reg.count2 = 1) (h' : f.reg.stride = 0) : f.key n = f.reg.off * 32 + f.lo := by
  simp [Field.key_plain f n h, h']

@[simp] theorem F.BLK_ID_INDEX_key (n : Nat) : F.BLK_ID_INDEX.key n = 0 + 33554432 * n := Field.key_plain F.BLK_ID_INDEX n rfl
@[simp] theorem F.BLK_ID_INDEX_acc : F.BLK_ID_INDEX.acc = .ro := rfl
@[simp] theorem F.BLK_ID_INDEX_width : F.BLK_ID_INDEX.width = 8 := rfl
@[simp] theorem F.BLK_ID_REV_key (n : Nat) : F.BLK_ID_REV.key n = 8 + 33554432 * n := Field.key_plain F.BLK_ID_REV n rfl
@[simp] theorem F.BLK_ID_REV_acc : F.BLK_ID_REV.acc = .ro := rfl
@[simp] theorem F.BLK_ID_REV_width : F.BLK_ID_REV.width = 8 := rfl
@[simp] theorem F.BLK_ID_TAG_key (n : Nat) : F.BLK_ID_TAG.key n = 16 + 33554432 * n := Field.key_plain F.BLK_ID_TAG n rfl
@[simp] theorem F.BLK_ID_TAG_acc : F.BLK_ID_TAG.acc = .ro := rfl
@[simp] theorem F.BLK_ID_TAG_width : F.BLK_ID_TAG.width = 16 := rfl
@[simp] theorem F.BLK_CAP_INSTANCES_key (n : Nat) : F.BLK_CAP_INSTANCES.key n = 128 + 33554432 * n := Field.key_plain F.BLK_CAP_INSTANCES n rfl
@[simp] theorem F.BLK_CAP_INSTANCES_acc : F.BLK_CAP_INSTANCES.acc = .ro := rfl
@[simp] theorem F.BLK_CAP_INSTANCES_width : F.BLK_CAP_INSTANCES.width = 16 := rfl
@[simp] theorem F.BLK_CAP_UNITS_key (n : Nat) : F.BLK_CAP_UNITS.key n = 144 + 33554432 * n := Field.key_plain F.BLK_CAP_UNITS n rfl
@[simp] theorem F.BLK_CAP_UNITS_acc : F.BLK_CAP_UNITS.acc = .ro := rfl
@[simp] theorem F.BLK_CAP_UNITS_width : F.BLK_CAP_UNITS.width = 8 := rfl
@[simp] theorem F.BLK_STATUS_POWERED_key (n : Nat) : F.BLK_STATUS_POWERED.key n = 256 + 33554432 * n := Field.key_plain F.BLK_STATUS_POWERED n rfl
@[simp] theorem F.BLK_STATUS_POWERED_acc : F.BLK_STATUS_POWERED.acc = .ro := rfl
@[simp] theorem F.BLK_STATUS_POWERED_width : F.BLK_STATUS_POWERED.width = 1 := rfl
@[simp] theorem F.BLK_STATUS_SELFTEST_key (n : Nat) : F.BLK_STATUS_SELFTEST.key n = 257 + 33554432 * n := Field.key_plain F.BLK_STATUS_SELFTEST n rfl
@[simp] theorem F.BLK_STATUS_SELFTEST_acc : F.BLK_STATUS_SELFTEST.acc = .ro := rfl
@[simp] theorem F.BLK_STATUS_SELFTEST_width : F.BLK_STATUS_SELFTEST.width = 1 := rfl
@[simp] theorem F.BLK_STATUS_READY_key (n : Nat) : F.BLK_STATUS_READY.key n = 258 + 33554432 * n := Field.key_plain F.BLK_STATUS_READY n rfl
@[simp] theorem F.BLK_STATUS_READY_acc : F.BLK_STATUS_READY.acc = .ro := rfl
@[simp] theorem F.BLK_STATUS_READY_width : F.BLK_STATUS_READY.width = 1 := rfl
@[simp] theorem F.BLK_IRQ_STATUS_HIST_PEND_key (n : Nat) : F.BLK_IRQ_STATUS_HIST_PEND.key n = 512 + 33554432 * n := Field.key_plain F.BLK_IRQ_STATUS_HIST_PEND n rfl
@[simp] theorem F.BLK_IRQ_STATUS_HIST_PEND_acc : F.BLK_IRQ_STATUS_HIST_PEND.acc = .ro := rfl
@[simp] theorem F.BLK_IRQ_STATUS_HIST_PEND_width : F.BLK_IRQ_STATUS_HIST_PEND.width = 1 := rfl
@[simp] theorem F.BLK_IRQ_STATUS_TRANSIENT_PEND_key (n : Nat) : F.BLK_IRQ_STATUS_TRANSIENT_PEND.key n = 513 + 33554432 * n := Field.key_plain F.BLK_IRQ_STATUS_TRANSIENT_PEND n rfl
@[simp] theorem F.BLK_IRQ_STATUS_TRANSIENT_PEND_acc : F.BLK_IRQ_STATUS_TRANSIENT_PEND.acc = .ro := rfl
@[simp] theorem F.BLK_IRQ_STATUS_TRANSIENT_PEND_width : F.BLK_IRQ_STATUS_TRANSIENT_PEND.width = 1 := rfl
@[simp] theorem F.BLK_IRQ_STATUS_LASTING_PEND_key (n : Nat) : F.BLK_IRQ_STATUS_LASTING_PEND.key n = 514 + 33554432 * n := Field.key_plain F.BLK_IRQ_STATUS_LASTING_PEND n rfl
@[simp] theorem F.BLK_IRQ_STATUS_LASTING_PEND_acc : F.BLK_IRQ_STATUS_LASTING_PEND.acc = .ro := rfl
@[simp] theorem F.BLK_IRQ_STATUS_LASTING_PEND_width : F.BLK_IRQ_STATUS_LASTING_PEND.width = 1 := rfl
@[simp] theorem F.BLK_IRQ_EN_EN_key (n : Nat) : F.BLK_IRQ_EN_EN.key n = 640 + 33554432 * n := Field.key_plain F.BLK_IRQ_EN_EN n rfl
@[simp] theorem F.BLK_IRQ_EN_EN_acc : F.BLK_IRQ_EN_EN.acc = .rw := rfl
@[simp] theorem F.BLK_IRQ_EN_EN_width : F.BLK_IRQ_EN_EN.width = 3 := rfl
@[simp] theorem F.BLK_FAULT_FAULT_TRANSIENT_key (n : Nat) : F.BLK_FAULT_FAULT_TRANSIENT.key n = 1024 + 33554432 * n := Field.key_plain F.BLK_FAULT_FAULT_TRANSIENT n rfl
@[simp] theorem F.BLK_FAULT_FAULT_TRANSIENT_acc : F.BLK_FAULT_FAULT_TRANSIENT.acc = .w1c := rfl
@[simp] theorem F.BLK_FAULT_FAULT_TRANSIENT_width : F.BLK_FAULT_FAULT_TRANSIENT.width = 1 := rfl
@[simp] theorem F.BLK_FAULT_FAULT_LASTING_key (n : Nat) : F.BLK_FAULT_FAULT_LASTING.key n = 1025 + 33554432 * n := Field.key_plain F.BLK_FAULT_FAULT_LASTING n rfl
@[simp] theorem F.BLK_FAULT_FAULT_LASTING_acc : F.BLK_FAULT_FAULT_LASTING.acc = .w1c := rfl
@[simp] theorem F.BLK_FAULT_FAULT_LASTING_width : F.BLK_FAULT_FAULT_LASTING.width = 1 := rfl
@[simp] theorem F.BLK_FAULT_FAULT_CODE_key (n : Nat) : F.BLK_FAULT_FAULT_CODE.key n = 1032 + 33554432 * n := Field.key_plain F.BLK_FAULT_FAULT_CODE n rfl
@[simp] theorem F.BLK_FAULT_FAULT_CODE_acc : F.BLK_FAULT_FAULT_CODE.acc = .ro := rfl
@[simp] theorem F.BLK_FAULT_FAULT_CODE_width : F.BLK_FAULT_FAULT_CODE.width = 8 := rfl
@[simp] theorem F.BLK_FAULT_FAULT_INST_key (n : Nat) : F.BLK_FAULT_FAULT_INST.key n = 1040 + 33554432 * n := Field.key_plain F.BLK_FAULT_FAULT_INST n rfl
@[simp] theorem F.BLK_FAULT_FAULT_INST_acc : F.BLK_FAULT_FAULT_INST.acc = .ro := rfl
@[simp] theorem F.BLK_FAULT_FAULT_INST_width : F.BLK_FAULT_FAULT_INST.width = 16 := rfl
@[simp] theorem F.BLK_FAULT_CNT_TRANSIENT_CNT_key (n : Nat) : F.BLK_FAULT_CNT_TRANSIENT_CNT.key n = 1152 + 33554432 * n := Field.key_plain F.BLK_FAULT_CNT_TRANSIENT_CNT n rfl
@[simp] theorem F.BLK_FAULT_CNT_TRANSIENT_CNT_acc : F.BLK_FAULT_CNT_TRANSIENT_CNT.acc = .ro := rfl
@[simp] theorem F.BLK_FAULT_CNT_TRANSIENT_CNT_width : F.BLK_FAULT_CNT_TRANSIENT_CNT.width = 16 := rfl
@[simp] theorem F.BLK_FAULT_CNT_LASTING_CNT_key (n : Nat) : F.BLK_FAULT_CNT_LASTING_CNT.key n = 1168 + 33554432 * n := Field.key_plain F.BLK_FAULT_CNT_LASTING_CNT n rfl
@[simp] theorem F.BLK_FAULT_CNT_LASTING_CNT_acc : F.BLK_FAULT_CNT_LASTING_CNT.acc = .ro := rfl
@[simp] theorem F.BLK_FAULT_CNT_LASTING_CNT_width : F.BLK_FAULT_CNT_LASTING_CNT.width = 16 := rfl
@[simp] theorem F.BLK_REJECT_CNT_COUNT_key (n : Nat) : F.BLK_REJECT_CNT_COUNT.key n = 1280 + 33554432 * n := Field.key_plain F.BLK_REJECT_CNT_COUNT n rfl
@[simp] theorem F.BLK_REJECT_CNT_COUNT_acc : F.BLK_REJECT_CNT_COUNT.acc = .rcl := rfl
@[simp] theorem F.BLK_REJECT_CNT_COUNT_width : F.BLK_REJECT_CNT_COUNT.width = 32 := rfl
@[simp] theorem F.BLK_POWERUP_CNT_COUNT_key (n : Nat) : F.BLK_POWERUP_CNT_COUNT.key n = 1408 + 33554432 * n := Field.key_plain F.BLK_POWERUP_CNT_COUNT n rfl
@[simp] theorem F.BLK_POWERUP_CNT_COUNT_acc : F.BLK_POWERUP_CNT_COUNT.acc = .ro := rfl
@[simp] theorem F.BLK_POWERUP_CNT_COUNT_width : F.BLK_POWERUP_CNT_COUNT.width = 32 := rfl
@[simp] theorem F.PWR_CFG_STEP_BUDGET_key (n : Nat) : F.PWR_CFG_STEP_BUDGET.key n = 32768 := Field.key_one F.PWR_CFG_STEP_BUDGET n rfl rfl
@[simp] theorem F.PWR_CFG_STEP_BUDGET_acc : F.PWR_CFG_STEP_BUDGET.acc = .rw := rfl
@[simp] theorem F.PWR_CFG_STEP_BUDGET_width : F.PWR_CFG_STEP_BUDGET.width = 8 := rfl
@[simp] theorem F.PWR_CFG_STEP_WIN_key (n : Nat) : F.PWR_CFG_STEP_WIN.key n = 32776 := Field.key_one F.PWR_CFG_STEP_WIN n rfl rfl
@[simp] theorem F.PWR_CFG_STEP_WIN_acc : F.PWR_CFG_STEP_WIN.acc = .rw := rfl
@[simp] theorem F.PWR_CFG_STEP_WIN_width : F.PWR_CFG_STEP_WIN.width = 8 := rfl
@[simp] theorem F.PWR_CFG_RUN_RAMP_US_key (n : Nat) : F.PWR_CFG_RUN_RAMP_US.key n = 32784 := Field.key_one F.PWR_CFG_RUN_RAMP_US n rfl rfl
@[simp] theorem F.PWR_CFG_RUN_RAMP_US_acc : F.PWR_CFG_RUN_RAMP_US.acc = .rw := rfl
@[simp] theorem F.PWR_CFG_RUN_RAMP_US_width : F.PWR_CFG_RUN_RAMP_US.width = 8 := rfl
@[simp] theorem F.PWR_CFG_AVS_MARGIN_key (n : Nat) : F.PWR_CFG_AVS_MARGIN.key n = 32792 := Field.key_one F.PWR_CFG_AVS_MARGIN n rfl rfl
@[simp] theorem F.PWR_CFG_AVS_MARGIN_acc : F.PWR_CFG_AVS_MARGIN.acc = .rw := rfl
@[simp] theorem F.PWR_CFG_AVS_MARGIN_width : F.PWR_CFG_AVS_MARGIN.width = 4 := rfl
@[simp] theorem F.PWR_CAP_CAP_W_key (n : Nat) : F.PWR_CAP_CAP_W.key n = 32896 := Field.key_one F.PWR_CAP_CAP_W n rfl rfl
@[simp] theorem F.PWR_CAP_CAP_W_acc : F.PWR_CAP_CAP_W.acc = .rw := rfl
@[simp] theorem F.PWR_CAP_CAP_W_width : F.PWR_CAP_CAP_W.width = 16 := rfl
@[simp] theorem F.PWR_CAP_CAP_HYST_key (n : Nat) : F.PWR_CAP_CAP_HYST.key n = 32912 := Field.key_one F.PWR_CAP_CAP_HYST n rfl rfl
@[simp] theorem F.PWR_CAP_CAP_HYST_acc : F.PWR_CAP_CAP_HYST.acc = .rw := rfl
@[simp] theorem F.PWR_CAP_CAP_HYST_width : F.PWR_CAP_CAP_HYST.width = 8 := rfl
@[simp] theorem F.PWR_STATUS_STATE_key (n : Nat) : F.PWR_STATUS_STATE.key n = 33024 := Field.key_one F.PWR_STATUS_STATE n rfl rfl
@[simp] theorem F.PWR_STATUS_STATE_acc : F.PWR_STATUS_STATE.acc = .ro := rfl
@[simp] theorem F.PWR_STATUS_STATE_width : F.PWR_STATUS_STATE.width = 2 := rfl
@[simp] theorem F.PWR_STATUS_CAP_STEP_key (n : Nat) : F.PWR_STATUS_CAP_STEP.key n = 33026 := Field.key_one F.PWR_STATUS_CAP_STEP n rfl rfl
@[simp] theorem F.PWR_STATUS_CAP_STEP_acc : F.PWR_STATUS_CAP_STEP.acc = .ro := rfl
@[simp] theorem F.PWR_STATUS_CAP_STEP_width : F.PWR_STATUS_CAP_STEP.width = 2 := rfl
@[simp] theorem F.PWR_STATUS_CAP_UNMET_key (n : Nat) : F.PWR_STATUS_CAP_UNMET.key n = 33028 := Field.key_one F.PWR_STATUS_CAP_UNMET n rfl rfl
@[simp] theorem F.PWR_STATUS_CAP_UNMET_acc : F.PWR_STATUS_CAP_UNMET.acc = .ro := rfl
@[simp] theorem F.PWR_STATUS_CAP_UNMET_width : F.PWR_STATUS_CAP_UNMET.width = 1 := rfl
@[simp] theorem F.PWR_STATUS_TEMP_WARN_key (n : Nat) : F.PWR_STATUS_TEMP_WARN.key n = 33029 := Field.key_one F.PWR_STATUS_TEMP_WARN n rfl rfl
@[simp] theorem F.PWR_STATUS_TEMP_WARN_acc : F.PWR_STATUS_TEMP_WARN.acc = .ro := rfl
@[simp] theorem F.PWR_STATUS_TEMP_WARN_width : F.PWR_STATUS_TEMP_WARN.width = 1 := rfl
@[simp] theorem F.PWR_STATUS_THERMAL_SHUTDOWN_key (n : Nat) : F.PWR_STATUS_THERMAL_SHUTDOWN.key n = 33030 := Field.key_one F.PWR_STATUS_THERMAL_SHUTDOWN n rfl rfl
@[simp] theorem F.PWR_STATUS_THERMAL_SHUTDOWN_acc : F.PWR_STATUS_THERMAL_SHUTDOWN.acc = .ro := rfl
@[simp] theorem F.PWR_STATUS_THERMAL_SHUTDOWN_width : F.PWR_STATUS_THERMAL_SHUTDOWN.width = 1 := rfl
@[simp] theorem F.PWR_STATUS_SEQ_BUSY_key (n : Nat) : F.PWR_STATUS_SEQ_BUSY.key n = 33031 := Field.key_one F.PWR_STATUS_SEQ_BUSY n rfl rfl
@[simp] theorem F.PWR_STATUS_SEQ_BUSY_acc : F.PWR_STATUS_SEQ_BUSY.acc = .ro := rfl
@[simp] theorem F.PWR_STATUS_SEQ_BUSY_width : F.PWR_STATUS_SEQ_BUSY.width = 1 := rfl
@[simp] theorem F.PWR_STATUS_POWER_DW_key (n : Nat) : F.PWR_STATUS_POWER_DW.key n = 33040 := Field.key_one F.PWR_STATUS_POWER_DW n rfl rfl
@[simp] theorem F.PWR_STATUS_POWER_DW_acc : F.PWR_STATUS_POWER_DW.acc = .ro := rfl
@[simp] theorem F.PWR_STATUS_POWER_DW_width : F.PWR_STATUS_POWER_DW.width = 16 := rfl
@[simp] theorem F.PWR_HIST_SLEEP_ENTERED_key (n : Nat) : F.PWR_HIST_SLEEP_ENTERED.key n = 33152 := Field.key_one F.PWR_HIST_SLEEP_ENTERED n rfl rfl
@[simp] theorem F.PWR_HIST_SLEEP_ENTERED_acc : F.PWR_HIST_SLEEP_ENTERED.acc = .w1c := rfl
@[simp] theorem F.PWR_HIST_SLEEP_ENTERED_width : F.PWR_HIST_SLEEP_ENTERED.width = 1 := rfl
@[simp] theorem F.PWR_HIST_WAKE_DONE_key (n : Nat) : F.PWR_HIST_WAKE_DONE.key n = 33153 := Field.key_one F.PWR_HIST_WAKE_DONE n rfl rfl
@[simp] theorem F.PWR_HIST_WAKE_DONE_acc : F.PWR_HIST_WAKE_DONE.acc = .w1c := rfl
@[simp] theorem F.PWR_HIST_WAKE_DONE_width : F.PWR_HIST_WAKE_DONE.width = 1 := rfl
@[simp] theorem F.PWR_HIST_CAP_STEPPED_key (n : Nat) : F.PWR_HIST_CAP_STEPPED.key n = 33154 := Field.key_one F.PWR_HIST_CAP_STEPPED n rfl rfl
@[simp] theorem F.PWR_HIST_CAP_STEPPED_acc : F.PWR_HIST_CAP_STEPPED.acc = .w1c := rfl
@[simp] theorem F.PWR_HIST_CAP_STEPPED_width : F.PWR_HIST_CAP_STEPPED.width = 1 := rfl
@[simp] theorem F.PWR_HIST_CAP_UNMET_key (n : Nat) : F.PWR_HIST_CAP_UNMET.key n = 33155 := Field.key_one F.PWR_HIST_CAP_UNMET n rfl rfl
@[simp] theorem F.PWR_HIST_CAP_UNMET_acc : F.PWR_HIST_CAP_UNMET.acc = .w1c := rfl
@[simp] theorem F.PWR_HIST_CAP_UNMET_width : F.PWR_HIST_CAP_UNMET.width = 1 := rfl
@[simp] theorem F.PWR_HIST_THERMAL_WARN_key (n : Nat) : F.PWR_HIST_THERMAL_WARN.key n = 33156 := Field.key_one F.PWR_HIST_THERMAL_WARN n rfl rfl
@[simp] theorem F.PWR_HIST_THERMAL_WARN_acc : F.PWR_HIST_THERMAL_WARN.acc = .w1c := rfl
@[simp] theorem F.PWR_HIST_THERMAL_WARN_width : F.PWR_HIST_THERMAL_WARN.width = 1 := rfl
@[simp] theorem F.PWR_HIST_THERMAL_SHUTDOWN_key (n : Nat) : F.PWR_HIST_THERMAL_SHUTDOWN.key n = 33157 := Field.key_one F.PWR_HIST_THERMAL_SHUTDOWN n rfl rfl
@[simp] theorem F.PWR_HIST_THERMAL_SHUTDOWN_acc : F.PWR_HIST_THERMAL_SHUTDOWN.acc = .w1c := rfl
@[simp] theorem F.PWR_HIST_THERMAL_SHUTDOWN_width : F.PWR_HIST_THERMAL_SHUTDOWN.width = 1 := rfl
@[simp] theorem F.PWR_HIST_STEP_OVER_key (n : Nat) : F.PWR_HIST_STEP_OVER.key n = 33158 := Field.key_one F.PWR_HIST_STEP_OVER n rfl rfl
@[simp] theorem F.PWR_HIST_STEP_OVER_acc : F.PWR_HIST_STEP_OVER.acc = .w1c := rfl
@[simp] theorem F.PWR_HIST_STEP_OVER_width : F.PWR_HIST_STEP_OVER.width = 1 := rfl
@[simp] theorem F.PWR_HIST_AVS_LIMIT_key (n : Nat) : F.PWR_HIST_AVS_LIMIT.key n = 33159 := Field.key_one F.PWR_HIST_AVS_LIMIT n rfl rfl
@[simp] theorem F.PWR_HIST_AVS_LIMIT_acc : F.PWR_HIST_AVS_LIMIT.acc = .w1c := rfl
@[simp] theorem F.PWR_HIST_AVS_LIMIT_width : F.PWR_HIST_AVS_LIMIT.width = 1 := rfl
@[simp] theorem F.PWR_HIST_CFG_REJECTED_key (n : Nat) : F.PWR_HIST_CFG_REJECTED.key n = 33160 := Field.key_one F.PWR_HIST_CFG_REJECTED n rfl rfl
@[simp] theorem F.PWR_HIST_CFG_REJECTED_acc : F.PWR_HIST_CFG_REJECTED.acc = .w1c := rfl
@[simp] theorem F.PWR_HIST_CFG_REJECTED_width : F.PWR_HIST_CFG_REJECTED.width = 1 := rfl
@[simp] theorem F.PWR_HIST_DOMAIN_DONE_key (n : Nat) : F.PWR_HIST_DOMAIN_DONE.key n = 33161 := Field.key_one F.PWR_HIST_DOMAIN_DONE n rfl rfl
@[simp] theorem F.PWR_HIST_DOMAIN_DONE_acc : F.PWR_HIST_DOMAIN_DONE.acc = .w1c := rfl
@[simp] theorem F.PWR_HIST_DOMAIN_DONE_width : F.PWR_HIST_DOMAIN_DONE.width = 1 := rfl
@[simp] theorem F.PWR_IRQ_EN_EN_key (n : Nat) : F.PWR_IRQ_EN_EN.key n = 33280 := Field.key_one F.PWR_IRQ_EN_EN n rfl rfl
@[simp] theorem F.PWR_IRQ_EN_EN_acc : F.PWR_IRQ_EN_EN.acc = .rw := rfl
@[simp] theorem F.PWR_IRQ_EN_EN_width : F.PWR_IRQ_EN_EN.width = 10 := rfl
@[simp] theorem F.AVS_STATUS_VDD_MV_key (n : Nat) : F.AVS_STATUS_VDD_MV.key n = 33408 := Field.key_one F.AVS_STATUS_VDD_MV n rfl rfl
@[simp] theorem F.AVS_STATUS_VDD_MV_acc : F.AVS_STATUS_VDD_MV.acc = .ro := rfl
@[simp] theorem F.AVS_STATUS_VDD_MV_width : F.AVS_STATUS_VDD_MV.width = 10 := rfl
@[simp] theorem F.AVS_STATUS_FLOOR_MV_key (n : Nat) : F.AVS_STATUS_FLOOR_MV.key n = 33424 := Field.key_one F.AVS_STATUS_FLOOR_MV n rfl rfl
@[simp] theorem F.AVS_STATUS_FLOOR_MV_acc : F.AVS_STATUS_FLOOR_MV.acc = .ro := rfl
@[simp] theorem F.AVS_STATUS_FLOOR_MV_width : F.AVS_STATUS_FLOOR_MV.width = 10 := rfl
@[simp] theorem F.PWR_TEMP_TJ_key (n : Nat) : F.PWR_TEMP_TJ.key n = 33536 := Field.key_one F.PWR_TEMP_TJ n rfl rfl
@[simp] theorem F.PWR_TEMP_TJ_acc : F.PWR_TEMP_TJ.acc = .ro := rfl
@[simp] theorem F.PWR_TEMP_TJ_width : F.PWR_TEMP_TJ.width = 16 := rfl
@[simp] theorem F.PWR_TEMP_HOT_SENSOR_key (n : Nat) : F.PWR_TEMP_HOT_SENSOR.key n = 33552 := Field.key_one F.PWR_TEMP_HOT_SENSOR n rfl rfl
@[simp] theorem F.PWR_TEMP_HOT_SENSOR_acc : F.PWR_TEMP_HOT_SENSOR.acc = .ro := rfl
@[simp] theorem F.PWR_TEMP_HOT_SENSOR_width : F.PWR_TEMP_HOT_SENSOR.width = 4 := rfl
@[simp] theorem F.PWR_DOM_ON_ON_key (n : Nat) : F.PWR_DOM_ON_ON.key n = 33792 + 128 * n := Field.key_plain F.PWR_DOM_ON_ON n rfl
@[simp] theorem F.PWR_DOM_ON_ON_acc : F.PWR_DOM_ON_ON.acc = .ro := rfl
@[simp] theorem F.PWR_DOM_ON_ON_width : F.PWR_DOM_ON_ON.width = 32 := rfl
@[simp] theorem F.PWR_SLEEP_MASK_MASK_key (n : Nat) : F.PWR_SLEEP_MASK_MASK.key n = 34304 + 128 * n := Field.key_plain F.PWR_SLEEP_MASK_MASK n rfl
@[simp] theorem F.PWR_SLEEP_MASK_MASK_acc : F.PWR_SLEEP_MASK_MASK.acc = .ro := rfl
@[simp] theorem F.PWR_SLEEP_MASK_MASK_width : F.PWR_SLEEP_MASK_MASK.width = 32 := rfl
@[simp] theorem F.PWR_WAKE_EN_DOORBELL_key (n : Nat) : F.PWR_WAKE_EN_DOORBELL.key n = 34816 := Field.key_one F.PWR_WAKE_EN_DOORBELL n rfl rfl
@[simp] theorem F.PWR_WAKE_EN_DOORBELL_acc : F.PWR_WAKE_EN_DOORBELL.acc = .ro := rfl
@[simp] theorem F.PWR_WAKE_EN_DOORBELL_width : F.PWR_WAKE_EN_DOORBELL.width = 1 := rfl
@[simp] theorem F.PWR_WAKE_EN_FAB_WAKE_key (n : Nat) : F.PWR_WAKE_EN_FAB_WAKE.key n = 34817 := Field.key_one F.PWR_WAKE_EN_FAB_WAKE n rfl rfl
@[simp] theorem F.PWR_WAKE_EN_FAB_WAKE_acc : F.PWR_WAKE_EN_FAB_WAKE.acc = .rw := rfl
@[simp] theorem F.PWR_WAKE_EN_FAB_WAKE_width : F.PWR_WAKE_EN_FAB_WAKE.width = 1 := rfl
@[simp] theorem F.PWR_WAKE_EN_TMR_WAKE_key (n : Nat) : F.PWR_WAKE_EN_TMR_WAKE.key n = 34818 := Field.key_one F.PWR_WAKE_EN_TMR_WAKE n rfl rfl
@[simp] theorem F.PWR_WAKE_EN_TMR_WAKE_acc : F.PWR_WAKE_EN_TMR_WAKE.acc = .rw := rfl
@[simp] theorem F.PWR_WAKE_EN_TMR_WAKE_width : F.PWR_WAKE_EN_TMR_WAKE.width = 1 := rfl
@[simp] theorem F.PWR_WAKE_EN_TMR_MASK_key (n : Nat) : F.PWR_WAKE_EN_TMR_MASK.key n = 34832 := Field.key_one F.PWR_WAKE_EN_TMR_MASK n rfl rfl
@[simp] theorem F.PWR_WAKE_EN_TMR_MASK_acc : F.PWR_WAKE_EN_TMR_MASK.acc = .rw := rfl
@[simp] theorem F.PWR_WAKE_EN_TMR_MASK_width : F.PWR_WAKE_EN_TMR_MASK.width = 16 := rfl
@[simp] theorem F.PWR_WAKE_CAUSE_CAUSE_key (n : Nat) : F.PWR_WAKE_CAUSE_CAUSE.key n = 34944 := Field.key_one F.PWR_WAKE_CAUSE_CAUSE n rfl rfl
@[simp] theorem F.PWR_WAKE_CAUSE_CAUSE_acc : F.PWR_WAKE_CAUSE_CAUSE.acc = .w1c := rfl
@[simp] theorem F.PWR_WAKE_CAUSE_CAUSE_width : F.PWR_WAKE_CAUSE_CAUSE.width = 3 := rfl
@[simp] theorem F.STEP_OVER_CNT_COUNT_key (n : Nat) : F.STEP_OVER_CNT_COUNT.key n = 35072 := Field.key_one F.STEP_OVER_CNT_COUNT n rfl rfl
@[simp] theorem F.STEP_OVER_CNT_COUNT_acc : F.STEP_OVER_CNT_COUNT.acc = .rcl := rfl
@[simp] theorem F.STEP_OVER_CNT_COUNT_width : F.STEP_OVER_CNT_COUNT.width = 32 := rfl
@[simp] theorem F.PWR_CHARGE_WAKE_key (n : Nat) : F.PWR_CHARGE_WAKE.key n = 40960 + 128 * n := Field.key_plain F.PWR_CHARGE_WAKE n rfl
@[simp] theorem F.PWR_CHARGE_WAKE_acc : F.PWR_CHARGE_WAKE.acc = .ro := rfl
@[simp] theorem F.PWR_CHARGE_WAKE_width : F.PWR_CHARGE_WAKE.width = 8 := rfl
@[simp] theorem F.PWR_CHARGE_RUN_key (n : Nat) : F.PWR_CHARGE_RUN.key n = 40968 + 128 * n := Field.key_plain F.PWR_CHARGE_RUN n rfl
@[simp] theorem F.PWR_CHARGE_RUN_acc : F.PWR_CHARGE_RUN.acc = .ro := rfl
@[simp] theorem F.PWR_CHARGE_RUN_width : F.PWR_CHARGE_RUN.width = 8 := rfl
@[simp] theorem F.FAULTN_CFG_MASK_key (n : Nat) : F.FAULTN_CFG_MASK.key n = 12288 := Field.key_one F.FAULTN_CFG_MASK n rfl rfl
@[simp] theorem F.FAULTN_CFG_MASK_acc : F.FAULTN_CFG_MASK.acc = .rw := rfl
@[simp] theorem F.FAULTN_CFG_MASK_width : F.FAULTN_CFG_MASK.width = 26 := rfl
@[simp] theorem F.SYS_UNITS_PRESENT_key (n : Nat) : F.SYS_UNITS_PRESENT.key n = 8192 := Field.key_one F.SYS_UNITS_PRESENT n rfl rfl
@[simp] theorem F.SYS_UNITS_PRESENT_acc : F.SYS_UNITS_PRESENT.acc = .ro := rfl
@[simp] theorem F.SYS_UNITS_PRESENT_width : F.SYS_UNITS_PRESENT.width = 26 := rfl
@[simp] theorem F.SYS_VARIANT_VARIANT_key (n : Nat) : F.SYS_VARIANT_VARIANT.key n = 8320 := Field.key_one F.SYS_VARIANT_VARIANT n rfl rfl
@[simp] theorem F.SYS_VARIANT_VARIANT_acc : F.SYS_VARIANT_VARIANT.acc = .ro := rfl
@[simp] theorem F.SYS_VARIANT_VARIANT_width : F.SYS_VARIANT_VARIANT.width = 8 := rfl
@[simp] theorem F.SYS_VARIANT_SI_REV_key (n : Nat) : F.SYS_VARIANT_SI_REV.key n = 8328 := Field.key_one F.SYS_VARIANT_SI_REV n rfl rfl
@[simp] theorem F.SYS_VARIANT_SI_REV_acc : F.SYS_VARIANT_SI_REV.acc = .ro := rfl
@[simp] theorem F.SYS_VARIANT_SI_REV_width : F.SYS_VARIANT_SI_REV.width = 8 := rfl
@[simp] theorem F.SYS_VARIANT_YARD_GIB_key (n : Nat) : F.SYS_VARIANT_YARD_GIB.key n = 8336 := Field.key_one F.SYS_VARIANT_YARD_GIB n rfl rfl
@[simp] theorem F.SYS_VARIANT_YARD_GIB_acc : F.SYS_VARIANT_YARD_GIB.acc = .ro := rfl
@[simp] theorem F.SYS_VARIANT_YARD_GIB_width : F.SYS_VARIANT_YARD_GIB.width = 8 := rfl
@[simp] theorem F.SYS_VARIANT_FAB_ID_key (n : Nat) : F.SYS_VARIANT_FAB_ID.key n = 8344 := Field.key_one F.SYS_VARIANT_FAB_ID n rfl rfl
@[simp] theorem F.SYS_VARIANT_FAB_ID_acc : F.SYS_VARIANT_FAB_ID.acc = .ro := rfl
@[simp] theorem F.SYS_VARIANT_FAB_ID_width : F.SYS_VARIANT_FAB_ID.width = 5 := rfl
@[simp] theorem F.SYS_VARIANT_ID_INVALID_key (n : Nat) : F.SYS_VARIANT_ID_INVALID.key n = 8349 := Field.key_one F.SYS_VARIANT_ID_INVALID n rfl rfl
@[simp] theorem F.SYS_VARIANT_ID_INVALID_acc : F.SYS_VARIANT_ID_INVALID.acc = .ro := rfl
@[simp] theorem F.SYS_VARIANT_ID_INVALID_width : F.SYS_VARIANT_ID_INVALID.width = 1 := rfl
@[simp] theorem F.SYS_RESET_CAUSE_POWER_ON_key (n : Nat) : F.SYS_RESET_CAUSE_POWER_ON.key n = 8448 := Field.key_one F.SYS_RESET_CAUSE_POWER_ON n rfl rfl
@[simp] theorem F.SYS_RESET_CAUSE_POWER_ON_acc : F.SYS_RESET_CAUSE_POWER_ON.acc = .w1c := rfl
@[simp] theorem F.SYS_RESET_CAUSE_POWER_ON_width : F.SYS_RESET_CAUSE_POWER_ON.width = 1 := rfl
@[simp] theorem F.SYS_RESET_CAUSE_DEVICE_key (n : Nat) : F.SYS_RESET_CAUSE_DEVICE.key n = 8449 := Field.key_one F.SYS_RESET_CAUSE_DEVICE n rfl rfl
@[simp] theorem F.SYS_RESET_CAUSE_DEVICE_acc : F.SYS_RESET_CAUSE_DEVICE.acc = .w1c := rfl
@[simp] theorem F.SYS_RESET_CAUSE_DEVICE_width : F.SYS_RESET_CAUSE_DEVICE.width = 1 := rfl
@[simp] theorem F.SYS_RESET_CAUSE_PIN_key (n : Nat) : F.SYS_RESET_CAUSE_PIN.key n = 8450 := Field.key_one F.SYS_RESET_CAUSE_PIN n rfl rfl
@[simp] theorem F.SYS_RESET_CAUSE_PIN_acc : F.SYS_RESET_CAUSE_PIN.acc = .w1c := rfl
@[simp] theorem F.SYS_RESET_CAUSE_PIN_width : F.SYS_RESET_CAUSE_PIN.width = 1 := rfl
@[simp] theorem F.SYS_RESET_CAUSE_THERMAL_key (n : Nat) : F.SYS_RESET_CAUSE_THERMAL.key n = 8451 := Field.key_one F.SYS_RESET_CAUSE_THERMAL n rfl rfl
@[simp] theorem F.SYS_RESET_CAUSE_THERMAL_acc : F.SYS_RESET_CAUSE_THERMAL.acc = .w1c := rfl
@[simp] theorem F.SYS_RESET_CAUSE_THERMAL_width : F.SYS_RESET_CAUSE_THERMAL.width = 1 := rfl
@[simp] theorem F.SYS_RESET_CAUSE_CORE_WDT_key (n : Nat) : F.SYS_RESET_CAUSE_CORE_WDT.key n = 8452 := Field.key_one F.SYS_RESET_CAUSE_CORE_WDT n rfl rfl
@[simp] theorem F.SYS_RESET_CAUSE_CORE_WDT_acc : F.SYS_RESET_CAUSE_CORE_WDT.acc = .w1c := rfl
@[simp] theorem F.SYS_RESET_CAUSE_CORE_WDT_width : F.SYS_RESET_CAUSE_CORE_WDT.width = 4 := rfl
@[simp] theorem F.SYS_RESET_CTRL_CORE_RST_key (n : Nat) : F.SYS_RESET_CTRL_CORE_RST.key n = 8576 := Field.key_one F.SYS_RESET_CTRL_CORE_RST n rfl rfl
@[simp] theorem F.SYS_RESET_CTRL_CORE_RST_acc : F.SYS_RESET_CTRL_CORE_RST.acc = .wo := rfl
@[simp] theorem F.SYS_RESET_CTRL_CORE_RST_width : F.SYS_RESET_CTRL_CORE_RST.width = 4 := rfl
@[simp] theorem F.SYS_RESET_CTRL_DEVICE_key (n : Nat) : F.SYS_RESET_CTRL_DEVICE.key n = 8580 := Field.key_one F.SYS_RESET_CTRL_DEVICE n rfl rfl
@[simp] theorem F.SYS_RESET_CTRL_DEVICE_acc : F.SYS_RESET_CTRL_DEVICE.acc = .wo := rfl
@[simp] theorem F.SYS_RESET_CTRL_DEVICE_width : F.SYS_RESET_CTRL_DEVICE.width = 1 := rfl
@[simp] theorem F.SYS_RESET_CTRL_KEY_key (n : Nat) : F.SYS_RESET_CTRL_KEY.key n = 8592 := Field.key_one F.SYS_RESET_CTRL_KEY n rfl rfl
@[simp] theorem F.SYS_RESET_CTRL_KEY_acc : F.SYS_RESET_CTRL_KEY.acc = .wo := rfl
@[simp] theorem F.SYS_RESET_CTRL_KEY_width : F.SYS_RESET_CTRL_KEY.width = 16 := rfl
@[simp] theorem F.SYS_WDT_TMO_MS_key (n : Nat) : F.SYS_WDT_TMO_MS.key n = 8704 + 128 * n := Field.key_plain F.SYS_WDT_TMO_MS n rfl
@[simp] theorem F.SYS_WDT_TMO_MS_acc : F.SYS_WDT_TMO_MS.acc = .rw := rfl
@[simp] theorem F.SYS_WDT_TMO_MS_width : F.SYS_WDT_TMO_MS.width = 16 := rfl
@[simp] theorem F.SYS_WDT_EN_key (n : Nat) : F.SYS_WDT_EN.key n = 8720 + 128 * n := Field.key_plain F.SYS_WDT_EN n rfl
@[simp] theorem F.SYS_WDT_EN_acc : F.SYS_WDT_EN.acc = .rw := rfl
@[simp] theorem F.SYS_WDT_EN_width : F.SYS_WDT_EN.width = 1 := rfl
@[simp] theorem F.SYS_WDT_KICK_key (n : Nat) : F.SYS_WDT_KICK.key n = 8721 + 128 * n := Field.key_plain F.SYS_WDT_KICK n rfl
@[simp] theorem F.SYS_WDT_KICK_acc : F.SYS_WDT_KICK.acc = .wo := rfl
@[simp] theorem F.SYS_WDT_KICK_width : F.SYS_WDT_KICK.width = 1 := rfl
@[simp] theorem F.SYS_HIST_WDT_EXPIRED_key (n : Nat) : F.SYS_HIST_WDT_EXPIRED.key n = 9216 := Field.key_one F.SYS_HIST_WDT_EXPIRED n rfl rfl
@[simp] theorem F.SYS_HIST_WDT_EXPIRED_acc : F.SYS_HIST_WDT_EXPIRED.acc = .w1c := rfl
@[simp] theorem F.SYS_HIST_WDT_EXPIRED_width : F.SYS_HIST_WDT_EXPIRED.width = 4 := rfl
@[simp] theorem F.SYS_HIST_GPIO_CHANGED_key (n : Nat) : F.SYS_HIST_GPIO_CHANGED.key n = 9220 := Field.key_one F.SYS_HIST_GPIO_CHANGED n rfl rfl
@[simp] theorem F.SYS_HIST_GPIO_CHANGED_acc : F.SYS_HIST_GPIO_CHANGED.acc = .w1c := rfl
@[simp] theorem F.SYS_HIST_GPIO_CHANGED_width : F.SYS_HIST_GPIO_CHANGED.width = 1 := rfl
@[simp] theorem F.SYS_HIST_CFG_REJECTED_key (n : Nat) : F.SYS_HIST_CFG_REJECTED.key n = 9221 := Field.key_one F.SYS_HIST_CFG_REJECTED n rfl rfl
@[simp] theorem F.SYS_HIST_CFG_REJECTED_acc : F.SYS_HIST_CFG_REJECTED.acc = .w1c := rfl
@[simp] theorem F.SYS_HIST_CFG_REJECTED_width : F.SYS_HIST_CFG_REJECTED.width = 1 := rfl
@[simp] theorem F.SYS_IRQ_EN_EN_key (n : Nat) : F.SYS_IRQ_EN_EN.key n = 9344 := Field.key_one F.SYS_IRQ_EN_EN n rfl rfl
@[simp] theorem F.SYS_IRQ_EN_EN_acc : F.SYS_IRQ_EN_EN.acc = .rw := rfl
@[simp] theorem F.SYS_IRQ_EN_EN_width : F.SYS_IRQ_EN_EN.width = 6 := rfl
@[simp] theorem F.GPIO_DIR_OUT_key (n : Nat) : F.GPIO_DIR_OUT.key n = 10240 := Field.key_one F.GPIO_DIR_OUT n rfl rfl
@[simp] theorem F.GPIO_DIR_OUT_acc : F.GPIO_DIR_OUT.acc = .rw := rfl
@[simp] theorem F.GPIO_DIR_OUT_width : F.GPIO_DIR_OUT.width = 32 := rfl
@[simp] theorem F.GPIO_OUT_LEVEL_key (n : Nat) : F.GPIO_OUT_LEVEL.key n = 10368 := Field.key_one F.GPIO_OUT_LEVEL n rfl rfl
@[simp] theorem F.GPIO_OUT_LEVEL_acc : F.GPIO_OUT_LEVEL.acc = .rw := rfl
@[simp] theorem F.GPIO_OUT_LEVEL_width : F.GPIO_OUT_LEVEL.width = 32 := rfl
@[simp] theorem F.GPIO_IN_LEVEL_key (n : Nat) : F.GPIO_IN_LEVEL.key n = 10496 := Field.key_one F.GPIO_IN_LEVEL n rfl rfl
@[simp] theorem F.GPIO_IN_LEVEL_acc : F.GPIO_IN_LEVEL.acc = .ro := rfl
@[simp] theorem F.GPIO_IN_LEVEL_width : F.GPIO_IN_LEVEL.width = 32 := rfl
@[simp] theorem F.GPIO_EDGE_CHANGED_key (n : Nat) : F.GPIO_EDGE_CHANGED.key n = 10624 := Field.key_one F.GPIO_EDGE_CHANGED n rfl rfl
@[simp] theorem F.GPIO_EDGE_CHANGED_acc : F.GPIO_EDGE_CHANGED.acc = .w1c := rfl
@[simp] theorem F.GPIO_EDGE_CHANGED_width : F.GPIO_EDGE_CHANGED.width = 32 := rfl
@[simp] theorem F.GPIO_EDGE_EN_EN_key (n : Nat) : F.GPIO_EDGE_EN_EN.key n = 10752 := Field.key_one F.GPIO_EDGE_EN_EN n rfl rfl
@[simp] theorem F.GPIO_EDGE_EN_EN_acc : F.GPIO_EDGE_EN_EN.acc = .rw := rfl
@[simp] theorem F.GPIO_EDGE_EN_EN_width : F.GPIO_EDGE_EN_EN.width = 32 := rfl
@[simp] theorem F.TIME_CTRL_SLEW_LIM_key (n : Nat) : F.TIME_CTRL_SLEW_LIM.key n = 33562624 := Field.key_one F.TIME_CTRL_SLEW_LIM n rfl rfl
@[simp] theorem F.TIME_CTRL_SLEW_LIM_acc : F.TIME_CTRL_SLEW_LIM.acc = .rw := rfl
@[simp] theorem F.TIME_CTRL_SLEW_LIM_width : F.TIME_CTRL_SLEW_LIM.width = 8 := rfl
@[simp] theorem F.TIME_CTRL_UNSYNC_key (n : Nat) : F.TIME_CTRL_UNSYNC.key n = 33562632 := Field.key_one F.TIME_CTRL_UNSYNC n rfl rfl
@[simp] theorem F.TIME_CTRL_UNSYNC_acc : F.TIME_CTRL_UNSYNC.acc = .wo := rfl
@[simp] theorem F.TIME_CTRL_UNSYNC_width : F.TIME_CTRL_UNSYNC.width = 1 := rfl
@[simp] theorem F.TIME_CTRL_SET_GO_key (n : Nat) : F.TIME_CTRL_SET_GO.key n = 33562633 := Field.key_one F.TIME_CTRL_SET_GO n rfl rfl
@[simp] theorem F.TIME_CTRL_SET_GO_acc : F.TIME_CTRL_SET_GO.acc = .wo := rfl
@[simp] theorem F.TIME_CTRL_SET_GO_width : F.TIME_CTRL_SET_GO.width = 1 := rfl
@[simp] theorem F.TIME_STATUS_SYNCED_key (n : Nat) : F.TIME_STATUS_SYNCED.key n = 33562752 := Field.key_one F.TIME_STATUS_SYNCED n rfl rfl
@[simp] theorem F.TIME_STATUS_SYNCED_acc : F.TIME_STATUS_SYNCED.acc = .ro := rfl
@[simp] theorem F.TIME_STATUS_SYNCED_width : F.TIME_STATUS_SYNCED.width = 1 := rfl
@[simp] theorem F.TIME_STATUS_SLEWING_key (n : Nat) : F.TIME_STATUS_SLEWING.key n = 33562753 := Field.key_one F.TIME_STATUS_SLEWING n rfl rfl
@[simp] theorem F.TIME_STATUS_SLEWING_acc : F.TIME_STATUS_SLEWING.acc = .ro := rfl
@[simp] theorem F.TIME_STATUS_SLEWING_width : F.TIME_STATUS_SLEWING.width = 1 := rfl
@[simp] theorem F.TIME_HIST_FIRST_SET_key (n : Nat) : F.TIME_HIST_FIRST_SET.key n = 33562880 := Field.key_one F.TIME_HIST_FIRST_SET n rfl rfl
@[simp] theorem F.TIME_HIST_FIRST_SET_acc : F.TIME_HIST_FIRST_SET.acc = .w1c := rfl
@[simp] theorem F.TIME_HIST_FIRST_SET_width : F.TIME_HIST_FIRST_SET.width = 1 := rfl
@[simp] theorem F.TIME_HIST_SET_REJECTED_key (n : Nat) : F.TIME_HIST_SET_REJECTED.key n = 33562881 := Field.key_one F.TIME_HIST_SET_REJECTED n rfl rfl
@[simp] theorem F.TIME_HIST_SET_REJECTED_acc : F.TIME_HIST_SET_REJECTED.acc = .w1c := rfl
@[simp] theorem F.TIME_HIST_SET_REJECTED_width : F.TIME_HIST_SET_REJECTED.width = 1 := rfl
@[simp] theorem F.TIME_HIST_UNSYNCED_key (n : Nat) : F.TIME_HIST_UNSYNCED.key n = 33562882 := Field.key_one F.TIME_HIST_UNSYNCED n rfl rfl
@[simp] theorem F.TIME_HIST_UNSYNCED_acc : F.TIME_HIST_UNSYNCED.acc = .w1c := rfl
@[simp] theorem F.TIME_HIST_UNSYNCED_width : F.TIME_HIST_UNSYNCED.width = 1 := rfl
@[simp] theorem F.TIME_HIST_ADJ_DONE_key (n : Nat) : F.TIME_HIST_ADJ_DONE.key n = 33562883 := Field.key_one F.TIME_HIST_ADJ_DONE n rfl rfl
@[simp] theorem F.TIME_HIST_ADJ_DONE_acc : F.TIME_HIST_ADJ_DONE.acc = .w1c := rfl
@[simp] theorem F.TIME_HIST_ADJ_DONE_width : F.TIME_HIST_ADJ_DONE.width = 1 := rfl
@[simp] theorem F.TIME_HIST_LIMIT_HIT_key (n : Nat) : F.TIME_HIST_LIMIT_HIT.key n = 33562884 := Field.key_one F.TIME_HIST_LIMIT_HIT n rfl rfl
@[simp] theorem F.TIME_HIST_LIMIT_HIT_acc : F.TIME_HIST_LIMIT_HIT.acc = .w1c := rfl
@[simp] theorem F.TIME_HIST_LIMIT_HIT_width : F.TIME_HIST_LIMIT_HIT.width = 1 := rfl
@[simp] theorem F.TIME_HIST_CFG_REJECTED_key (n : Nat) : F.TIME_HIST_CFG_REJECTED.key n = 33562885 := Field.key_one F.TIME_HIST_CFG_REJECTED n rfl rfl
@[simp] theorem F.TIME_HIST_CFG_REJECTED_acc : F.TIME_HIST_CFG_REJECTED.acc = .w1c := rfl
@[simp] theorem F.TIME_HIST_CFG_REJECTED_width : F.TIME_HIST_CFG_REJECTED.width = 1 := rfl
@[simp] theorem F.TIME_IRQ_EN_EN_key (n : Nat) : F.TIME_IRQ_EN_EN.key n = 33563008 := Field.key_one F.TIME_IRQ_EN_EN n rfl rfl
@[simp] theorem F.TIME_IRQ_EN_EN_acc : F.TIME_IRQ_EN_EN.acc = .rw := rfl
@[simp] theorem F.TIME_IRQ_EN_EN_width : F.TIME_IRQ_EN_EN.width = 6 := rfl
@[simp] theorem F.TIME_NS_NS_key (n : Nat) : F.TIME_NS_NS.key n = 33563136 := Field.key_one F.TIME_NS_NS n rfl rfl
@[simp] theorem F.TIME_NS_NS_acc : F.TIME_NS_NS.acc = .ro := rfl
@[simp] theorem F.TIME_NS_NS_width : F.TIME_NS_NS.width = 30 := rfl
@[simp] theorem F.TIME_SEC_LO_SEC_key (n : Nat) : F.TIME_SEC_LO_SEC.key n = 33563264 := Field.key_one F.TIME_SEC_LO_SEC n rfl rfl
@[simp] theorem F.TIME_SEC_LO_SEC_acc : F.TIME_SEC_LO_SEC.acc = .ro := rfl
@[simp] theorem F.TIME_SEC_LO_SEC_width : F.TIME_SEC_LO_SEC.width = 32 := rfl
@[simp] theorem F.TIME_SEC_HI_SEC_key (n : Nat) : F.TIME_SEC_HI_SEC.key n = 33563392 := Field.key_one F.TIME_SEC_HI_SEC n rfl rfl
@[simp] theorem F.TIME_SEC_HI_SEC_acc : F.TIME_SEC_HI_SEC.acc = .ro := rfl
@[simp] theorem F.TIME_SEC_HI_SEC_width : F.TIME_SEC_HI_SEC.width = 16 := rfl
@[simp] theorem F.TIME_FRAC_FRAC_key (n : Nat) : F.TIME_FRAC_FRAC.key n = 33563520 := Field.key_one F.TIME_FRAC_FRAC n rfl rfl
@[simp] theorem F.TIME_FRAC_FRAC_acc : F.TIME_FRAC_FRAC.acc = .ro := rfl
@[simp] theorem F.TIME_FRAC_FRAC_width : F.TIME_FRAC_FRAC.width = 16 := rfl
@[simp] theorem F.TIME_RAW_LO_RAW_key (n : Nat) : F.TIME_RAW_LO_RAW.key n = 33563648 := Field.key_one F.TIME_RAW_LO_RAW n rfl rfl
@[simp] theorem F.TIME_RAW_LO_RAW_acc : F.TIME_RAW_LO_RAW.acc = .ro := rfl
@[simp] theorem F.TIME_RAW_LO_RAW_width : F.TIME_RAW_LO_RAW.width = 32 := rfl
@[simp] theorem F.TIME_RAW_HI_RAW_key (n : Nat) : F.TIME_RAW_HI_RAW.key n = 33563776 := Field.key_one F.TIME_RAW_HI_RAW n rfl rfl
@[simp] theorem F.TIME_RAW_HI_RAW_acc : F.TIME_RAW_HI_RAW.acc = .ro := rfl
@[simp] theorem F.TIME_RAW_HI_RAW_width : F.TIME_RAW_HI_RAW.width = 32 := rfl
@[simp] theorem F.TIME_RATE_LO_RATE_key (n : Nat) : F.TIME_RATE_LO_RATE.key n = 33563904 := Field.key_one F.TIME_RATE_LO_RATE n rfl rfl
@[simp] theorem F.TIME_RATE_LO_RATE_acc : F.TIME_RATE_LO_RATE.acc = .ro := rfl
@[simp] theorem F.TIME_RATE_LO_RATE_width : F.TIME_RATE_LO_RATE.width = 32 := rfl
@[simp] theorem F.TIME_ADJ_LO_ADJ_key (n : Nat) : F.TIME_ADJ_LO_ADJ.key n = 33564032 := Field.key_one F.TIME_ADJ_LO_ADJ n rfl rfl
@[simp] theorem F.TIME_ADJ_LO_ADJ_acc : F.TIME_ADJ_LO_ADJ.acc = .ro := rfl
@[simp] theorem F.TIME_ADJ_LO_ADJ_width : F.TIME_ADJ_LO_ADJ.width = 32 := rfl
@[simp] theorem F.TIME_ADJ_HI_ADJ_key (n : Nat) : F.TIME_ADJ_HI_ADJ.key n = 33564160 := Field.key_one F.TIME_ADJ_HI_ADJ n rfl rfl
@[simp] theorem F.TIME_ADJ_HI_ADJ_acc : F.TIME_ADJ_HI_ADJ.acc = .ro := rfl
@[simp] theorem F.TIME_ADJ_HI_ADJ_width : F.TIME_ADJ_HI_ADJ.width = 16 := rfl
@[simp] theorem F.TIME_SET_NS_NS_key (n : Nat) : F.TIME_SET_NS_NS.key n = 33564288 := Field.key_one F.TIME_SET_NS_NS n rfl rfl
@[simp] theorem F.TIME_SET_NS_NS_acc : F.TIME_SET_NS_NS.acc = .rw := rfl
@[simp] theorem F.TIME_SET_NS_NS_width : F.TIME_SET_NS_NS.width = 30 := rfl
@[simp] theorem F.TIME_SET_SEC_LO_SEC_key (n : Nat) : F.TIME_SET_SEC_LO_SEC.key n = 33564416 := Field.key_one F.TIME_SET_SEC_LO_SEC n rfl rfl
@[simp] theorem F.TIME_SET_SEC_LO_SEC_acc : F.TIME_SET_SEC_LO_SEC.acc = .rw := rfl
@[simp] theorem F.TIME_SET_SEC_LO_SEC_width : F.TIME_SET_SEC_LO_SEC.width = 32 := rfl
@[simp] theorem F.TIME_SET_SEC_HI_SEC_key (n : Nat) : F.TIME_SET_SEC_HI_SEC.key n = 33564544 := Field.key_one F.TIME_SET_SEC_HI_SEC n rfl rfl
@[simp] theorem F.TIME_SET_SEC_HI_SEC_acc : F.TIME_SET_SEC_HI_SEC.acc = .rw := rfl
@[simp] theorem F.TIME_SET_SEC_HI_SEC_width : F.TIME_SET_SEC_HI_SEC.width = 16 := rfl
@[simp] theorem F.TMR_HIST_FIRED_key (n : Nat) : F.TMR_HIST_FIRED.key n = 33564672 := Field.key_one F.TMR_HIST_FIRED n rfl rfl
@[simp] theorem F.TMR_HIST_FIRED_acc : F.TMR_HIST_FIRED.acc = .w1c := rfl
@[simp] theorem F.TMR_HIST_FIRED_width : F.TMR_HIST_FIRED.width = 16 := rfl
@[simp] theorem F.TMR_HIST_LATE_key (n : Nat) : F.TMR_HIST_LATE.key n = 33564688 := Field.key_one F.TMR_HIST_LATE n rfl rfl
@[simp] theorem F.TMR_HIST_LATE_acc : F.TMR_HIST_LATE.acc = .w1c := rfl
@[simp] theorem F.TMR_HIST_LATE_width : F.TMR_HIST_LATE.width = 16 := rfl
@[simp] theorem F.TMR_IRQ_EN_EN_key (n : Nat) : F.TMR_IRQ_EN_EN.key n = 33564800 := Field.key_one F.TMR_IRQ_EN_EN n rfl rfl
@[simp] theorem F.TMR_IRQ_EN_EN_acc : F.TMR_IRQ_EN_EN.acc = .rw := rfl
@[simp] theorem F.TMR_IRQ_EN_EN_width : F.TMR_IRQ_EN_EN.width = 32 := rfl
@[simp] theorem F.CAP_HIST_CAPTURED_key (n : Nat) : F.CAP_HIST_CAPTURED.key n = 33564928 := Field.key_one F.CAP_HIST_CAPTURED n rfl rfl
@[simp] theorem F.CAP_HIST_CAPTURED_acc : F.CAP_HIST_CAPTURED.acc = .w1c := rfl
@[simp] theorem F.CAP_HIST_CAPTURED_width : F.CAP_HIST_CAPTURED.width = 16 := rfl
@[simp] theorem F.CAP_HIST_OVF_key (n : Nat) : F.CAP_HIST_OVF.key n = 33564944 := Field.key_one F.CAP_HIST_OVF n rfl rfl
@[simp] theorem F.CAP_HIST_OVF_acc : F.CAP_HIST_OVF.acc = .w1c := rfl
@[simp] theorem F.CAP_HIST_OVF_width : F.CAP_HIST_OVF.width = 16 := rfl
@[simp] theorem F.CAP_IRQ_EN_EN_key (n : Nat) : F.CAP_IRQ_EN_EN.key n = 33565056 := Field.key_one F.CAP_IRQ_EN_EN n rfl rfl
@[simp] theorem F.CAP_IRQ_EN_EN_acc : F.CAP_IRQ_EN_EN.acc = .rw := rfl
@[simp] theorem F.CAP_IRQ_EN_EN_width : F.CAP_IRQ_EN_EN.width = 32 := rfl
@[simp] theorem F.TIME_RATE_HI_RATE_key (n : Nat) : F.TIME_RATE_HI_RATE.key n = 33565184 := Field.key_one F.TIME_RATE_HI_RATE n rfl rfl
@[simp] theorem F.TIME_RATE_HI_RATE_acc : F.TIME_RATE_HI_RATE.acc = .ro := rfl
@[simp] theorem F.TIME_RATE_HI_RATE_width : F.TIME_RATE_HI_RATE.width = 16 := rfl
@[simp] theorem F.TMR_CFG_ARM_key (n : Nat) : F.TMR_CFG_ARM.key n = 33587200 + 1024 * n := Field.key_plain F.TMR_CFG_ARM n rfl
@[simp] theorem F.TMR_CFG_ARM_acc : F.TMR_CFG_ARM.acc = .rw := rfl
@[simp] theorem F.TMR_CFG_ARM_width : F.TMR_CFG_ARM.width = 1 := rfl
@[simp] theorem F.TMR_CFG_PERIODIC_key (n : Nat) : F.TMR_CFG_PERIODIC.key n = 33587201 + 1024 * n := Field.key_plain F.TMR_CFG_PERIODIC n rfl
@[simp] theorem F.TMR_CFG_PERIODIC_acc : F.TMR_CFG_PERIODIC.acc = .rw := rfl
@[simp] theorem F.TMR_CFG_PERIODIC_width : F.TMR_CFG_PERIODIC.width = 1 := rfl
@[simp] theorem F.TMR_CFG_POL_key (n : Nat) : F.TMR_CFG_POL.key n = 33587202 + 1024 * n := Field.key_plain F.TMR_CFG_POL n rfl
@[simp] theorem F.TMR_CFG_POL_acc : F.TMR_CFG_POL.acc = .rw := rfl
@[simp] theorem F.TMR_CFG_POL_width : F.TMR_CFG_POL.width = 1 := rfl
@[simp] theorem F.TMR_CFG_PIN_key (n : Nat) : F.TMR_CFG_PIN.key n = 33587203 + 1024 * n := Field.key_plain F.TMR_CFG_PIN n rfl
@[simp] theorem F.TMR_CFG_PIN_acc : F.TMR_CFG_PIN.acc = .rw := rfl
@[simp] theorem F.TMR_CFG_PIN_width : F.TMR_CFG_PIN.width = 3 := rfl
@[simp] theorem F.TMR_CFG_PIN_EN_key (n : Nat) : F.TMR_CFG_PIN_EN.key n = 33587206 + 1024 * n := Field.key_plain F.TMR_CFG_PIN_EN n rfl
@[simp] theorem F.TMR_CFG_PIN_EN_acc : F.TMR_CFG_PIN_EN.acc = .rw := rfl
@[simp] theorem F.TMR_CFG_PIN_EN_width : F.TMR_CFG_PIN_EN.width = 1 := rfl
@[simp] theorem F.TMR_CFG_WIDTH_key (n : Nat) : F.TMR_CFG_WIDTH.key n = 33587208 + 1024 * n := Field.key_plain F.TMR_CFG_WIDTH n rfl
@[simp] theorem F.TMR_CFG_WIDTH_acc : F.TMR_CFG_WIDTH.acc = .rw := rfl
@[simp] theorem F.TMR_CFG_WIDTH_width : F.TMR_CFG_WIDTH.width = 24 := rfl
@[simp] theorem F.TMR_START_NS_NS_key (n : Nat) : F.TMR_START_NS_NS.key n = 33587328 + 1024 * n := Field.key_plain F.TMR_START_NS_NS n rfl
@[simp] theorem F.TMR_START_NS_NS_acc : F.TMR_START_NS_NS.acc = .rw := rfl
@[simp] theorem F.TMR_START_NS_NS_width : F.TMR_START_NS_NS.width = 30 := rfl
@[simp] theorem F.TMR_START_SEC_LO_SEC_key (n : Nat) : F.TMR_START_SEC_LO_SEC.key n = 33587456 + 1024 * n := Field.key_plain F.TMR_START_SEC_LO_SEC n rfl
@[simp] theorem F.TMR_START_SEC_LO_SEC_acc : F.TMR_START_SEC_LO_SEC.acc = .rw := rfl
@[simp] theorem F.TMR_START_SEC_LO_SEC_width : F.TMR_START_SEC_LO_SEC.width = 32 := rfl
@[simp] theorem F.TMR_START_SEC_HI_SEC_key (n : Nat) : F.TMR_START_SEC_HI_SEC.key n = 33587584 + 1024 * n := Field.key_plain F.TMR_START_SEC_HI_SEC n rfl
@[simp] theorem F.TMR_START_SEC_HI_SEC_acc : F.TMR_START_SEC_HI_SEC.acc = .rw := rfl
@[simp] theorem F.TMR_START_SEC_HI_SEC_width : F.TMR_START_SEC_HI_SEC.width = 16 := rfl
@[simp] theorem F.TMR_PERIOD_NS_NS_key (n : Nat) : F.TMR_PERIOD_NS_NS.key n = 33587712 + 1024 * n := Field.key_plain F.TMR_PERIOD_NS_NS n rfl
@[simp] theorem F.TMR_PERIOD_NS_NS_acc : F.TMR_PERIOD_NS_NS.acc = .rw := rfl
@[simp] theorem F.TMR_PERIOD_NS_NS_width : F.TMR_PERIOD_NS_NS.width = 32 := rfl
@[simp] theorem F.TMR_PERIOD_FRAC_FRAC_key (n : Nat) : F.TMR_PERIOD_FRAC_FRAC.key n = 33587840 + 1024 * n := Field.key_plain F.TMR_PERIOD_FRAC_FRAC n rfl
@[simp] theorem F.TMR_PERIOD_FRAC_FRAC_acc : F.TMR_PERIOD_FRAC_FRAC.acc = .rw := rfl
@[simp] theorem F.TMR_PERIOD_FRAC_FRAC_width : F.TMR_PERIOD_FRAC_FRAC.width = 16 := rfl
@[simp] theorem F.TMR_COUNT_COUNT_key (n : Nat) : F.TMR_COUNT_COUNT.key n = 33587968 + 1024 * n := Field.key_plain F.TMR_COUNT_COUNT n rfl
@[simp] theorem F.TMR_COUNT_COUNT_acc : F.TMR_COUNT_COUNT.acc = .ro := rfl
@[simp] theorem F.TMR_COUNT_COUNT_width : F.TMR_COUNT_COUNT.width = 32 := rfl
@[simp] theorem F.CAP_CFG_SRC_key (n : Nat) : F.CAP_CFG_SRC.key n = 33603584 + 512 * n := Field.key_plain F.CAP_CFG_SRC n rfl
@[simp] theorem F.CAP_CFG_SRC_acc : F.CAP_CFG_SRC.acc = .rw := rfl
@[simp] theorem F.CAP_CFG_SRC_width : F.CAP_CFG_SRC.width = 6 := rfl
@[simp] theorem F.CAP_CFG_EDGE_key (n : Nat) : F.CAP_CFG_EDGE.key n = 33603590 + 512 * n := Field.key_plain F.CAP_CFG_EDGE n rfl
@[simp] theorem F.CAP_CFG_EDGE_acc : F.CAP_CFG_EDGE.acc = .rw := rfl
@[simp] theorem F.CAP_CFG_EDGE_width : F.CAP_CFG_EDGE.width = 2 := rfl
@[simp] theorem F.CAP_CFG_EN_key (n : Nat) : F.CAP_CFG_EN.key n = 33603592 + 512 * n := Field.key_plain F.CAP_CFG_EN n rfl
@[simp] theorem F.CAP_CFG_EN_acc : F.CAP_CFG_EN.acc = .rw := rfl
@[simp] theorem F.CAP_CFG_EN_width : F.CAP_CFG_EN.width = 1 := rfl
@[simp] theorem F.CAP_CFG_OVF_COUNT_key (n : Nat) : F.CAP_CFG_OVF_COUNT.key n = 33603600 + 512 * n := Field.key_plain F.CAP_CFG_OVF_COUNT n rfl
@[simp] theorem F.CAP_CFG_OVF_COUNT_acc : F.CAP_CFG_OVF_COUNT.acc = .ro := rfl
@[simp] theorem F.CAP_CFG_OVF_COUNT_width : F.CAP_CFG_OVF_COUNT.width = 16 := rfl
@[simp] theorem F.CAP_NS_NS_key (n : Nat) : F.CAP_NS_NS.key n = 33603712 + 512 * n := Field.key_plain F.CAP_NS_NS n rfl
@[simp] theorem F.CAP_NS_NS_acc : F.CAP_NS_NS.acc = .ro := rfl
@[simp] theorem F.CAP_NS_NS_width : F.CAP_NS_NS.width = 30 := rfl
@[simp] theorem F.CAP_NS_RISING_key (n : Nat) : F.CAP_NS_RISING.key n = 33603742 + 512 * n := Field.key_plain F.CAP_NS_RISING n rfl
@[simp] theorem F.CAP_NS_RISING_acc : F.CAP_NS_RISING.acc = .ro := rfl
@[simp] theorem F.CAP_NS_RISING_width : F.CAP_NS_RISING.width = 1 := rfl
@[simp] theorem F.CAP_NS_VALID_key (n : Nat) : F.CAP_NS_VALID.key n = 33603743 + 512 * n := Field.key_plain F.CAP_NS_VALID n rfl
@[simp] theorem F.CAP_NS_VALID_acc : F.CAP_NS_VALID.acc = .ro := rfl
@[simp] theorem F.CAP_NS_VALID_width : F.CAP_NS_VALID.width = 1 := rfl
@[simp] theorem F.CAP_SEC_LO_SEC_key (n : Nat) : F.CAP_SEC_LO_SEC.key n = 33603840 + 512 * n := Field.key_plain F.CAP_SEC_LO_SEC n rfl
@[simp] theorem F.CAP_SEC_LO_SEC_acc : F.CAP_SEC_LO_SEC.acc = .ro := rfl
@[simp] theorem F.CAP_SEC_LO_SEC_width : F.CAP_SEC_LO_SEC.width = 32 := rfl
@[simp] theorem F.CAP_SEC_HI_SEC_key (n : Nat) : F.CAP_SEC_HI_SEC.key n = 33603968 + 512 * n := Field.key_plain F.CAP_SEC_HI_SEC n rfl
@[simp] theorem F.CAP_SEC_HI_SEC_acc : F.CAP_SEC_HI_SEC.acc = .ro := rfl
@[simp] theorem F.CAP_SEC_HI_SEC_width : F.CAP_SEC_HI_SEC.width = 16 := rfl
@[simp] theorem F.CAP_SEC_HI_FRAC_key (n : Nat) : F.CAP_SEC_HI_FRAC.key n = 33603984 + 512 * n := Field.key_plain F.CAP_SEC_HI_FRAC n rfl
@[simp] theorem F.CAP_SEC_HI_FRAC_acc : F.CAP_SEC_HI_FRAC.acc = .ro := rfl
@[simp] theorem F.CAP_SEC_HI_FRAC_width : F.CAP_SEC_HI_FRAC.width = 16 := rfl
@[simp] theorem F.REFS_CTRL_SEL_MODE_key (n : Nat) : F.REFS_CTRL_SEL_MODE.key n = 67117056 := Field.key_one F.REFS_CTRL_SEL_MODE n rfl rfl
@[simp] theorem F.REFS_CTRL_SEL_MODE_acc : F.REFS_CTRL_SEL_MODE.acc = .rw := rfl
@[simp] theorem F.REFS_CTRL_SEL_MODE_width : F.REFS_CTRL_SEL_MODE.width = 2 := rfl
@[simp] theorem F.REFS_CTRL_FORCE_SEL_key (n : Nat) : F.REFS_CTRL_FORCE_SEL.key n = 67117058 := Field.key_one F.REFS_CTRL_FORCE_SEL n rfl rfl
@[simp] theorem F.REFS_CTRL_FORCE_SEL_acc : F.REFS_CTRL_FORCE_SEL.acc = .rw := rfl
@[simp] theorem F.REFS_CTRL_FORCE_SEL_width : F.REFS_CTRL_FORCE_SEL.width = 3 := rfl
@[simp] theorem F.REFS_CTRL_REVERT_key (n : Nat) : F.REFS_CTRL_REVERT.key n = 67117061 := Field.key_one F.REFS_CTRL_REVERT n rfl rfl
@[simp] theorem F.REFS_CTRL_REVERT_acc : F.REFS_CTRL_REVERT.acc = .rw := rfl
@[simp] theorem F.REFS_CTRL_REVERT_width : F.REFS_CTRL_REVERT.width = 1 := rfl
@[simp] theorem F.REFS_CTRL_QL_FALLBACK_key (n : Nat) : F.REFS_CTRL_QL_FALLBACK.key n = 67117062 := Field.key_one F.REFS_CTRL_QL_FALLBACK n rfl rfl
@[simp] theorem F.REFS_CTRL_QL_FALLBACK_acc : F.REFS_CTRL_QL_FALLBACK.acc = .rw := rfl
@[simp] theorem F.REFS_CTRL_QL_FALLBACK_width : F.REFS_CTRL_QL_FALLBACK.width = 1 := rfl
@[simp] theorem F.REFS_CTRL_ACQ_BW_key (n : Nat) : F.REFS_CTRL_ACQ_BW.key n = 67117064 := Field.key_one F.REFS_CTRL_ACQ_BW n rfl rfl
@[simp] theorem F.REFS_CTRL_ACQ_BW_acc : F.REFS_CTRL_ACQ_BW.acc = .rw := rfl
@[simp] theorem F.REFS_CTRL_ACQ_BW_width : F.REFS_CTRL_ACQ_BW.width = 4 := rfl
@[simp] theorem F.REFS_CTRL_TRK_BW_key (n : Nat) : F.REFS_CTRL_TRK_BW.key n = 67117068 := Field.key_one F.REFS_CTRL_TRK_BW n rfl rfl
@[simp] theorem F.REFS_CTRL_TRK_BW_acc : F.REFS_CTRL_TRK_BW.acc = .rw := rfl
@[simp] theorem F.REFS_CTRL_TRK_BW_width : F.REFS_CTRL_TRK_BW.width = 4 := rfl
@[simp] theorem F.REFS_CTRL_DAMP_key (n : Nat) : F.REFS_CTRL_DAMP.key n = 67117072 := Field.key_one F.REFS_CTRL_DAMP n rfl rfl
@[simp] theorem F.REFS_CTRL_DAMP_acc : F.REFS_CTRL_DAMP.acc = .rw := rfl
@[simp] theorem F.REFS_CTRL_DAMP_width : F.REFS_CTRL_DAMP.width = 2 := rfl
@[simp] theorem F.REFS_CTRL_LOCK_DWELL_key (n : Nat) : F.REFS_CTRL_LOCK_DWELL.key n = 67117080 := Field.key_one F.REFS_CTRL_LOCK_DWELL n rfl rfl
@[simp] theorem F.REFS_CTRL_LOCK_DWELL_acc : F.REFS_CTRL_LOCK_DWELL.acc = .rw := rfl
@[simp] theorem F.REFS_CTRL_LOCK_DWELL_width : F.REFS_CTRL_LOCK_DWELL.width = 8 := rfl
@[simp] theorem F.REFS_LOCK_LOCK_PH_key (n : Nat) : F.REFS_LOCK_LOCK_PH.key n = 67117184 := Field.key_one F.REFS_LOCK_LOCK_PH n rfl rfl
@[simp] theorem F.REFS_LOCK_LOCK_PH_acc : F.REFS_LOCK_LOCK_PH.acc = .rw := rfl
@[simp] theorem F.REFS_LOCK_LOCK_PH_width : F.REFS_LOCK_LOCK_PH.width = 16 := rfl
@[simp] theorem F.REFS_SLOPE_SLOPE_LIM_key (n : Nat) : F.REFS_SLOPE_SLOPE_LIM.key n = 67117312 := Field.key_one F.REFS_SLOPE_SLOPE_LIM n rfl rfl
@[simp] theorem F.REFS_SLOPE_SLOPE_LIM_acc : F.REFS_SLOPE_SLOPE_LIM.acc = .rw := rfl
@[simp] theorem F.REFS_SLOPE_SLOPE_LIM_width : F.REFS_SLOPE_SLOPE_LIM.width = 20 := rfl
@[simp] theorem F.HO_MODEL_F_INIT_key (n : Nat) : F.HO_MODEL_F_INIT.key n = 67117440 := Field.key_one F.HO_MODEL_F_INIT n rfl rfl
@[simp] theorem F.HO_MODEL_F_INIT_acc : F.HO_MODEL_F_INIT.acc = .rw := rfl
@[simp] theorem F.HO_MODEL_F_INIT_width : F.HO_MODEL_F_INIT.width = 16 := rfl
@[simp] theorem F.HO_MODEL_AGING_key (n : Nat) : F.HO_MODEL_AGING.key n = 67117456 := Field.key_one F.HO_MODEL_AGING n rfl rfl
@[simp] theorem F.HO_MODEL_AGING_acc : F.HO_MODEL_AGING.acc = .rw := rfl
@[simp] theorem F.HO_MODEL_AGING_width : F.HO_MODEL_AGING.width = 16 := rfl
@[simp] theorem F.HO_SPEC_HO_SPEC_key (n : Nat) : F.HO_SPEC_HO_SPEC.key n = 67117568 := Field.key_one F.HO_SPEC_HO_SPEC n rfl rfl
@[simp] theorem F.HO_SPEC_HO_SPEC_acc : F.HO_SPEC_HO_SPEC.acc = .rw := rfl
@[simp] theorem F.HO_SPEC_HO_SPEC_width : F.HO_SPEC_HO_SPEC.width = 24 := rfl
@[simp] theorem F.HO_HIST_CFG_HIST_TAU_key (n : Nat) : F.HO_HIST_CFG_HIST_TAU.key n = 67117696 := Field.key_one F.HO_HIST_CFG_HIST_TAU n rfl rfl
@[simp] theorem F.HO_HIST_CFG_HIST_TAU_acc : F.HO_HIST_CFG_HIST_TAU.acc = .rw := rfl
@[simp] theorem F.HO_HIST_CFG_HIST_TAU_width : F.HO_HIST_CFG_HIST_TAU.width = 4 := rfl
@[simp] theorem F.HO_HIST_CFG_HIST_GUARD_key (n : Nat) : F.HO_HIST_CFG_HIST_GUARD.key n = 67117700 := Field.key_one F.HO_HIST_CFG_HIST_GUARD n rfl rfl
@[simp] theorem F.HO_HIST_CFG_HIST_GUARD_acc : F.HO_HIST_CFG_HIST_GUARD.acc = .rw := rfl
@[simp] theorem F.HO_HIST_CFG_HIST_GUARD_width : F.HO_HIST_CFG_HIST_GUARD.width = 6 := rfl
@[simp] theorem F.REFS_STATUS_STATE_key (n : Nat) : F.REFS_STATUS_STATE.key n = 67118080 := Field.key_one F.REFS_STATUS_STATE n rfl rfl
@[simp] theorem F.REFS_STATUS_STATE_acc : F.REFS_STATUS_STATE.acc = .ro := rfl
@[simp] theorem F.REFS_STATUS_STATE_width : F.REFS_STATUS_STATE.width = 3 := rfl
@[simp] theorem F.REFS_STATUS_SEL_key (n : Nat) : F.REFS_STATUS_SEL.key n = 67118083 := Field.key_one F.REFS_STATUS_SEL n rfl rfl
@[simp] theorem F.REFS_STATUS_SEL_acc : F.REFS_STATUS_SEL.acc = .ro := rfl
@[simp] theorem F.REFS_STATUS_SEL_width : F.REFS_STATUS_SEL.width = 3 := rfl
@[simp] theorem F.REFS_STATUS_SEL_VALID_key (n : Nat) : F.REFS_STATUS_SEL_VALID.key n = 67118086 := Field.key_one F.REFS_STATUS_SEL_VALID n rfl rfl
@[simp] theorem F.REFS_STATUS_SEL_VALID_acc : F.REFS_STATUS_SEL_VALID.acc = .ro := rfl
@[simp] theorem F.REFS_STATUS_SEL_VALID_width : F.REFS_STATUS_SEL_VALID.width = 1 := rfl
@[simp] theorem F.REFS_STATUS_HO_EXPIRED_key (n : Nat) : F.REFS_STATUS_HO_EXPIRED.key n = 67118087 := Field.key_one F.REFS_STATUS_HO_EXPIRED n rfl rfl
@[simp] theorem F.REFS_STATUS_HO_EXPIRED_acc : F.REFS_STATUS_HO_EXPIRED.acc = .ro := rfl
@[simp] theorem F.REFS_STATUS_HO_EXPIRED_width : F.REFS_STATUS_HO_EXPIRED.width = 1 := rfl
@[simp] theorem F.REFS_STATUS_QUALIFIED_key (n : Nat) : F.REFS_STATUS_QUALIFIED.key n = 67118088 := Field.key_one F.REFS_STATUS_QUALIFIED n rfl rfl
@[simp] theorem F.REFS_STATUS_QUALIFIED_acc : F.REFS_STATUS_QUALIFIED.acc = .ro := rfl
@[simp] theorem F.REFS_STATUS_QUALIFIED_width : F.REFS_STATUS_QUALIFIED.width = 8 := rfl
@[simp] theorem F.REFS_STATUS_VALID_key (n : Nat) : F.REFS_STATUS_VALID.key n = 67118096 := Field.key_one F.REFS_STATUS_VALID n rfl rfl
@[simp] theorem F.REFS_STATUS_VALID_acc : F.REFS_STATUS_VALID.acc = .ro := rfl
@[simp] theorem F.REFS_STATUS_VALID_width : F.REFS_STATUS_VALID.width = 8 := rfl
@[simp] theorem F.REFS_STATUS_BW_NOW_key (n : Nat) : F.REFS_STATUS_BW_NOW.key n = 67118104 := Field.key_one F.REFS_STATUS_BW_NOW n rfl rfl
@[simp] theorem F.REFS_STATUS_BW_NOW_acc : F.REFS_STATUS_BW_NOW.acc = .ro := rfl
@[simp] theorem F.REFS_STATUS_BW_NOW_width : F.REFS_STATUS_BW_NOW.width = 4 := rfl
@[simp] theorem F.REFS_STATUS_TIME_SYNCED_key (n : Nat) : F.REFS_STATUS_TIME_SYNCED.key n = 67118108 := Field.key_one F.REFS_STATUS_TIME_SYNCED n rfl rfl
@[simp] theorem F.REFS_STATUS_TIME_SYNCED_acc : F.REFS_STATUS_TIME_SYNCED.acc = .ro := rfl
@[simp] theorem F.REFS_STATUS_TIME_SYNCED_width : F.REFS_STATUS_TIME_SYNCED.width = 1 := rfl
@[simp] theorem F.REFS_HIST_LOCK_GAINED_key (n : Nat) : F.REFS_HIST_LOCK_GAINED.key n = 67118208 := Field.key_one F.REFS_HIST_LOCK_GAINED n rfl rfl
@[simp] theorem F.REFS_HIST_LOCK_GAINED_acc : F.REFS_HIST_LOCK_GAINED.acc = .w1c := rfl
@[simp] theorem F.REFS_HIST_LOCK_GAINED_width : F.REFS_HIST_LOCK_GAINED.width = 1 := rfl
@[simp] theorem F.REFS_HIST_LOCK_LOST_key (n : Nat) : F.REFS_HIST_LOCK_LOST.key n = 67118209 := Field.key_one F.REFS_HIST_LOCK_LOST n rfl rfl
@[simp] theorem F.REFS_HIST_LOCK_LOST_acc : F.REFS_HIST_LOCK_LOST.acc = .w1c := rfl
@[simp] theorem F.REFS_HIST_LOCK_LOST_width : F.REFS_HIST_LOCK_LOST.width = 1 := rfl
@[simp] theorem F.REFS_HIST_SWITCHED_key (n : Nat) : F.REFS_HIST_SWITCHED.key n = 67118210 := Field.key_one F.REFS_HIST_SWITCHED n rfl rfl
@[simp] theorem F.REFS_HIST_SWITCHED_acc : F.REFS_HIST_SWITCHED.acc = .w1c := rfl
@[simp] theorem F.REFS_HIST_SWITCHED_width : F.REFS_HIST_SWITCHED.width = 1 := rfl
@[simp] theorem F.REFS_HIST_HO_ENTERED_key (n : Nat) : F.REFS_HIST_HO_ENTERED.key n = 67118211 := Field.key_one F.REFS_HIST_HO_ENTERED n rfl rfl
@[simp] theorem F.REFS_HIST_HO_ENTERED_acc : F.REFS_HIST_HO_ENTERED.acc = .w1c := rfl
@[simp] theorem F.REFS_HIST_HO_ENTERED_width : F.REFS_HIST_HO_ENTERED.width = 1 := rfl
@[simp] theorem F.REFS_HIST_HO_EXPIRED_key (n : Nat) : F.REFS_HIST_HO_EXPIRED.key n = 67118212 := Field.key_one F.REFS_HIST_HO_EXPIRED n rfl rfl
@[simp] theorem F.REFS_HIST_HO_EXPIRED_acc : F.REFS_HIST_HO_EXPIRED.acc = .w1c := rfl
@[simp] theorem F.REFS_HIST_HO_EXPIRED_width : F.REFS_HIST_HO_EXPIRED.width = 1 := rfl
@[simp] theorem F.REFS_HIST_PULL_DONE_key (n : Nat) : F.REFS_HIST_PULL_DONE.key n = 67118213 := Field.key_one F.REFS_HIST_PULL_DONE n rfl rfl
@[simp] theorem F.REFS_HIST_PULL_DONE_acc : F.REFS_HIST_PULL_DONE.acc = .w1c := rfl
@[simp] theorem F.REFS_HIST_PULL_DONE_width : F.REFS_HIST_PULL_DONE.width = 1 := rfl
@[simp] theorem F.REFS_HIST_BW_CLAMPED_key (n : Nat) : F.REFS_HIST_BW_CLAMPED.key n = 67118214 := Field.key_one F.REFS_HIST_BW_CLAMPED n rfl rfl
@[simp] theorem F.REFS_HIST_BW_CLAMPED_acc : F.REFS_HIST_BW_CLAMPED.acc = .w1c := rfl
@[simp] theorem F.REFS_HIST_BW_CLAMPED_width : F.REFS_HIST_BW_CLAMPED.width = 1 := rfl
@[simp] theorem F.REFS_HIST_QL_FALLBACK_USED_key (n : Nat) : F.REFS_HIST_QL_FALLBACK_USED.key n = 67118215 := Field.key_one F.REFS_HIST_QL_FALLBACK_USED n rfl rfl
@[simp] theorem F.REFS_HIST_QL_FALLBACK_USED_acc : F.REFS_HIST_QL_FALLBACK_USED.acc = .w1c := rfl
@[simp] theorem F.REFS_HIST_QL_FALLBACK_USED_width : F.REFS_HIST_QL_FALLBACK_USED.width = 1 := rfl
@[simp] theorem F.REFS_HIST_CAND_LOST_key (n : Nat) : F.REFS_HIST_CAND_LOST.key n = 67118216 := Field.key_one F.REFS_HIST_CAND_LOST n rfl rfl
@[simp] theorem F.REFS_HIST_CAND_LOST_acc : F.REFS_HIST_CAND_LOST.acc = .w1c := rfl
@[simp] theorem F.REFS_HIST_CAND_LOST_width : F.REFS_HIST_CAND_LOST.width = 8 := rfl
@[simp] theorem F.REFS_HIST_CAND_QUAL_key (n : Nat) : F.REFS_HIST_CAND_QUAL.key n = 67118224 := Field.key_one F.REFS_HIST_CAND_QUAL n rfl rfl
@[simp] theorem F.REFS_HIST_CAND_QUAL_acc : F.REFS_HIST_CAND_QUAL.acc = .w1c := rfl
@[simp] theorem F.REFS_HIST_CAND_QUAL_width : F.REFS_HIST_CAND_QUAL.width = 8 := rfl
@[simp] theorem F.REFS_HIST_FP_MISALIGNED_key (n : Nat) : F.REFS_HIST_FP_MISALIGNED.key n = 67118232 := Field.key_one F.REFS_HIST_FP_MISALIGNED n rfl rfl
@[simp] theorem F.REFS_HIST_FP_MISALIGNED_acc : F.REFS_HIST_FP_MISALIGNED.acc = .w1c := rfl
@[simp] theorem F.REFS_HIST_FP_MISALIGNED_width : F.REFS_HIST_FP_MISALIGNED.width = 1 := rfl
@[simp] theorem F.REFS_HIST_TL_CFG_REJECTED_key (n : Nat) : F.REFS_HIST_TL_CFG_REJECTED.key n = 67118233 := Field.key_one F.REFS_HIST_TL_CFG_REJECTED n rfl rfl
@[simp] theorem F.REFS_HIST_TL_CFG_REJECTED_acc : F.REFS_HIST_TL_CFG_REJECTED.acc = .w1c := rfl
@[simp] theorem F.REFS_HIST_TL_CFG_REJECTED_width : F.REFS_HIST_TL_CFG_REJECTED.width = 1 := rfl
@[simp] theorem F.REFS_IRQ_EN_LOCK_GAINED_key (n : Nat) : F.REFS_IRQ_EN_LOCK_GAINED.key n = 67118336 := Field.key_one F.REFS_IRQ_EN_LOCK_GAINED n rfl rfl
@[simp] theorem F.REFS_IRQ_EN_LOCK_GAINED_acc : F.REFS_IRQ_EN_LOCK_GAINED.acc = .rw := rfl
@[simp] theorem F.REFS_IRQ_EN_LOCK_GAINED_width : F.REFS_IRQ_EN_LOCK_GAINED.width = 1 := rfl
@[simp] theorem F.REFS_IRQ_EN_LOCK_LOST_key (n : Nat) : F.REFS_IRQ_EN_LOCK_LOST.key n = 67118337 := Field.key_one F.REFS_IRQ_EN_LOCK_LOST n rfl rfl
@[simp] theorem F.REFS_IRQ_EN_LOCK_LOST_acc : F.REFS_IRQ_EN_LOCK_LOST.acc = .rw := rfl
@[simp] theorem F.REFS_IRQ_EN_LOCK_LOST_width : F.REFS_IRQ_EN_LOCK_LOST.width = 1 := rfl
@[simp] theorem F.REFS_IRQ_EN_SWITCHED_key (n : Nat) : F.REFS_IRQ_EN_SWITCHED.key n = 67118338 := Field.key_one F.REFS_IRQ_EN_SWITCHED n rfl rfl
@[simp] theorem F.REFS_IRQ_EN_SWITCHED_acc : F.REFS_IRQ_EN_SWITCHED.acc = .rw := rfl
@[simp] theorem F.REFS_IRQ_EN_SWITCHED_width : F.REFS_IRQ_EN_SWITCHED.width = 1 := rfl
@[simp] theorem F.REFS_IRQ_EN_HO_ENTERED_key (n : Nat) : F.REFS_IRQ_EN_HO_ENTERED.key n = 67118339 := Field.key_one F.REFS_IRQ_EN_HO_ENTERED n rfl rfl
@[simp] theorem F.REFS_IRQ_EN_HO_ENTERED_acc : F.REFS_IRQ_EN_HO_ENTERED.acc = .rw := rfl
@[simp] theorem F.REFS_IRQ_EN_HO_ENTERED_width : F.REFS_IRQ_EN_HO_ENTERED.width = 1 := rfl
@[simp] theorem F.REFS_IRQ_EN_HO_EXPIRED_key (n : Nat) : F.REFS_IRQ_EN_HO_EXPIRED.key n = 67118340 := Field.key_one F.REFS_IRQ_EN_HO_EXPIRED n rfl rfl
@[simp] theorem F.REFS_IRQ_EN_HO_EXPIRED_acc : F.REFS_IRQ_EN_HO_EXPIRED.acc = .rw := rfl
@[simp] theorem F.REFS_IRQ_EN_HO_EXPIRED_width : F.REFS_IRQ_EN_HO_EXPIRED.width = 1 := rfl
@[simp] theorem F.REFS_IRQ_EN_PULL_DONE_key (n : Nat) : F.REFS_IRQ_EN_PULL_DONE.key n = 67118341 := Field.key_one F.REFS_IRQ_EN_PULL_DONE n rfl rfl
@[simp] theorem F.REFS_IRQ_EN_PULL_DONE_acc : F.REFS_IRQ_EN_PULL_DONE.acc = .rw := rfl
@[simp] theorem F.REFS_IRQ_EN_PULL_DONE_width : F.REFS_IRQ_EN_PULL_DONE.width = 1 := rfl
@[simp] theorem F.REFS_IRQ_EN_BW_CLAMPED_key (n : Nat) : F.REFS_IRQ_EN_BW_CLAMPED.key n = 67118342 := Field.key_one F.REFS_IRQ_EN_BW_CLAMPED n rfl rfl
@[simp] theorem F.REFS_IRQ_EN_BW_CLAMPED_acc : F.REFS_IRQ_EN_BW_CLAMPED.acc = .rw := rfl
@[simp] theorem F.REFS_IRQ_EN_BW_CLAMPED_width : F.REFS_IRQ_EN_BW_CLAMPED.width = 1 := rfl
@[simp] theorem F.REFS_IRQ_EN_QL_FALLBACK_USED_key (n : Nat) : F.REFS_IRQ_EN_QL_FALLBACK_USED.key n = 67118343 := Field.key_one F.REFS_IRQ_EN_QL_FALLBACK_USED n rfl rfl
@[simp] theorem F.REFS_IRQ_EN_QL_FALLBACK_USED_acc : F.REFS_IRQ_EN_QL_FALLBACK_USED.acc = .rw := rfl
@[simp] theorem F.REFS_IRQ_EN_QL_FALLBACK_USED_width : F.REFS_IRQ_EN_QL_FALLBACK_USED.width = 1 := rfl
@[simp] theorem F.REFS_IRQ_EN_CAND_LOST_key (n : Nat) : F.REFS_IRQ_EN_CAND_LOST.key n = 67118344 := Field.key_one F.REFS_IRQ_EN_CAND_LOST n rfl rfl
@[simp] theorem F.REFS_IRQ_EN_CAND_LOST_acc : F.REFS_IRQ_EN_CAND_LOST.acc = .rw := rfl
@[simp] theorem F.REFS_IRQ_EN_CAND_LOST_width : F.REFS_IRQ_EN_CAND_LOST.width = 8 := rfl
@[simp] theorem F.REFS_IRQ_EN_CAND_QUAL_key (n : Nat) : F.REFS_IRQ_EN_CAND_QUAL.key n = 67118352 := Field.key_one F.REFS_IRQ_EN_CAND_QUAL n rfl rfl
@[simp] theorem F.REFS_IRQ_EN_CAND_QUAL_acc : F.REFS_IRQ_EN_CAND_QUAL.acc = .rw := rfl
@[simp] theorem F.REFS_IRQ_EN_CAND_QUAL_width : F.REFS_IRQ_EN_CAND_QUAL.width = 8 := rfl
@[simp] theorem F.REFS_IRQ_EN_FP_MISALIGNED_key (n : Nat) : F.REFS_IRQ_EN_FP_MISALIGNED.key n = 67118360 := Field.key_one F.REFS_IRQ_EN_FP_MISALIGNED n rfl rfl
@[simp] theorem F.REFS_IRQ_EN_FP_MISALIGNED_acc : F.REFS_IRQ_EN_FP_MISALIGNED.acc = .rw := rfl
@[simp] theorem F.REFS_IRQ_EN_FP_MISALIGNED_width : F.REFS_IRQ_EN_FP_MISALIGNED.width = 1 := rfl
@[simp] theorem F.REFS_IRQ_EN_TL_CFG_REJECTED_key (n : Nat) : F.REFS_IRQ_EN_TL_CFG_REJECTED.key n = 67118361 := Field.key_one F.REFS_IRQ_EN_TL_CFG_REJECTED n rfl rfl
@[simp] theorem F.REFS_IRQ_EN_TL_CFG_REJECTED_acc : F.REFS_IRQ_EN_TL_CFG_REJECTED.acc = .rw := rfl
@[simp] theorem F.REFS_IRQ_EN_TL_CFG_REJECTED_width : F.REFS_IRQ_EN_TL_CFG_REJECTED.width = 1 := rfl
@[simp] theorem F.DPLL_PHASE_PHASE_key (n : Nat) : F.DPLL_PHASE_PHASE.key n = 67118464 := Field.key_one F.DPLL_PHASE_PHASE n rfl rfl
@[simp] theorem F.DPLL_PHASE_PHASE_acc : F.DPLL_PHASE_PHASE.acc = .ro := rfl
@[simp] theorem F.DPLL_PHASE_PHASE_width : F.DPLL_PHASE_PHASE.width = 32 := rfl
@[simp] theorem F.DPLL_FREQ_FREQ_key (n : Nat) : F.DPLL_FREQ_FREQ.key n = 67118592 := Field.key_one F.DPLL_FREQ_FREQ n rfl rfl
@[simp] theorem F.DPLL_FREQ_FREQ_acc : F.DPLL_FREQ_FREQ.acc = .ro := rfl
@[simp] theorem F.DPLL_FREQ_FREQ_width : F.DPLL_FREQ_FREQ.width = 32 := rfl
@[simp] theorem F.HIST_FREQ_FREQ_key (n : Nat) : F.HIST_FREQ_FREQ.key n = 67118720 := Field.key_one F.HIST_FREQ_FREQ n rfl rfl
@[simp] theorem F.HIST_FREQ_FREQ_acc : F.HIST_FREQ_FREQ.acc = .ro := rfl
@[simp] theorem F.HIST_FREQ_FREQ_width : F.HIST_FREQ_FREQ.width = 32 := rfl
@[simp] theorem F.HO_ELAPSED_SECONDS_key (n : Nat) : F.HO_ELAPSED_SECONDS.key n = 67118848 := Field.key_one F.HO_ELAPSED_SECONDS n rfl rfl
@[simp] theorem F.HO_ELAPSED_SECONDS_acc : F.HO_ELAPSED_SECONDS.acc = .ro := rfl
@[simp] theorem F.HO_ELAPSED_SECONDS_width : F.HO_ELAPSED_SECONDS.width = 32 := rfl
@[simp] theorem F.HO_REMAIN_SECONDS_key (n : Nat) : F.HO_REMAIN_SECONDS.key n = 67118976 := Field.key_one F.HO_REMAIN_SECONDS n rfl rfl
@[simp] theorem F.HO_REMAIN_SECONDS_acc : F.HO_REMAIN_SECONDS.acc = .ro := rfl
@[simp] theorem F.HO_REMAIN_SECONDS_width : F.HO_REMAIN_SECONDS.width = 32 := rfl
@[simp] theorem F.REF_CFG_PRIO_key (n : Nat) : F.REF_CFG_PRIO.key n = 67125248 + 512 * n := Field.key_plain F.REF_CFG_PRIO n rfl
@[simp] theorem F.REF_CFG_PRIO_acc : F.REF_CFG_PRIO.acc = .rw := rfl
@[simp] theorem F.REF_CFG_PRIO_width : F.REF_CFG_PRIO.width = 4 := rfl
@[simp] theorem F.REF_CFG_KIND_key (n : Nat) : F.REF_CFG_KIND.key n = 67125252 + 512 * n := Field.key_plain F.REF_CFG_KIND n rfl
@[simp] theorem F.REF_CFG_KIND_acc : F.REF_CFG_KIND.acc = .rw := rfl
@[simp] theorem F.REF_CFG_KIND_width : F.REF_CFG_KIND.width = 3 := rfl
@[simp] theorem F.REF_CFG_POL_key (n : Nat) : F.REF_CFG_POL.key n = 67125255 + 512 * n := Field.key_plain F.REF_CFG_POL n rfl
@[simp] theorem F.REF_CFG_POL_acc : F.REF_CFG_POL.acc = .rw := rfl
@[simp] theorem F.REF_CFG_POL_width : F.REF_CFG_POL.width = 1 := rfl
@[simp] theorem F.REF_CFG_IDX_key (n : Nat) : F.REF_CFG_IDX.key n = 67125256 + 512 * n := Field.key_plain F.REF_CFG_IDX n rfl
@[simp] theorem F.REF_CFG_IDX_acc : F.REF_CFG_IDX.acc = .rw := rfl
@[simp] theorem F.REF_CFG_IDX_width : F.REF_CFG_IDX.width = 8 := rfl
@[simp] theorem F.REF_CFG_RASTER_key (n : Nat) : F.REF_CFG_RASTER.key n = 67125264 + 512 * n := Field.key_plain F.REF_CFG_RASTER n rfl
@[simp] theorem F.REF_CFG_RASTER_acc : F.REF_CFG_RASTER.acc = .rw := rfl
@[simp] theorem F.REF_CFG_RASTER_width : F.REF_CFG_RASTER.width = 4 := rfl
@[simp] theorem F.REF_CFG_RATE_key (n : Nat) : F.REF_CFG_RATE.key n = 67125268 + 512 * n := Field.key_plain F.REF_CFG_RATE n rfl
@[simp] theorem F.REF_CFG_RATE_acc : F.REF_CFG_RATE.acc = .rw := rfl
@[simp] theorem F.REF_CFG_RATE_width : F.REF_CFG_RATE.width = 4 := rfl
@[simp] theorem F.REF_CFG_FREQ_TOL_key (n : Nat) : F.REF_CFG_FREQ_TOL.key n = 67125272 + 512 * n := Field.key_plain F.REF_CFG_FREQ_TOL n rfl
@[simp] theorem F.REF_CFG_FREQ_TOL_acc : F.REF_CFG_FREQ_TOL.acc = .rw := rfl
@[simp] theorem F.REF_CFG_FREQ_TOL_width : F.REF_CFG_FREQ_TOL.width = 8 := rfl
@[simp] theorem F.REF_QUAL_WTR_key (n : Nat) : F.REF_QUAL_WTR.key n = 67125376 + 512 * n := Field.key_plain F.REF_QUAL_WTR n rfl
@[simp] theorem F.REF_QUAL_WTR_acc : F.REF_QUAL_WTR.acc = .rw := rfl
@[simp] theorem F.REF_QUAL_WTR_width : F.REF_QUAL_WTR.width = 10 := rfl
@[simp] theorem F.REF_QUAL_QL_MAX_CLASS_key (n : Nat) : F.REF_QUAL_QL_MAX_CLASS.key n = 67125392 + 512 * n := Field.key_plain F.REF_QUAL_QL_MAX_CLASS n rfl
@[simp] theorem F.REF_QUAL_QL_MAX_CLASS_acc : F.REF_QUAL_QL_MAX_CLASS.acc = .rw := rfl
@[simp] theorem F.REF_QUAL_QL_MAX_CLASS_width : F.REF_QUAL_QL_MAX_CLASS.width = 8 := rfl
@[simp] theorem F.REF_QUAL_ACC_MAX_key (n : Nat) : F.REF_QUAL_ACC_MAX.key n = 67125400 + 512 * n := Field.key_plain F.REF_QUAL_ACC_MAX n rfl
@[simp] theorem F.REF_QUAL_ACC_MAX_acc : F.REF_QUAL_ACC_MAX.acc = .rw := rfl
@[simp] theorem F.REF_QUAL_ACC_MAX_width : F.REF_QUAL_ACC_MAX.width = 8 := rfl
@[simp] theorem F.REF_COMP_COMP_key (n : Nat) : F.REF_COMP_COMP.key n = 67125504 + 512 * n := Field.key_plain F.REF_COMP_COMP n rfl
@[simp] theorem F.REF_COMP_COMP_acc : F.REF_COMP_COMP.acc = .rw := rfl
@[simp] theorem F.REF_COMP_COMP_width : F.REF_COMP_COMP.width = 16 := rfl
@[simp] theorem F.REF_PHASE_PHASE_key (n : Nat) : F.REF_PHASE_PHASE.key n = 67125632 + 512 * n := Field.key_plain F.REF_PHASE_PHASE n rfl
@[simp] theorem F.REF_PHASE_PHASE_acc : F.REF_PHASE_PHASE.acc = .ro := rfl
@[simp] theorem F.REF_PHASE_PHASE_width : F.REF_PHASE_PHASE.width = 32 := rfl
@[simp] theorem F.TL_CFG_ENABLE_key (n : Nat) : F.TL_CFG_ENABLE.key n = 67133440 + 512 * n := Field.key_plain F.TL_CFG_ENABLE n rfl
@[simp] theorem F.TL_CFG_ENABLE_acc : F.TL_CFG_ENABLE.acc = .rw := rfl
@[simp] theorem F.TL_CFG_ENABLE_width : F.TL_CFG_ENABLE.width = 1 := rfl
@[simp] theorem F.TL_CFG_RATE_key (n : Nat) : F.TL_CFG_RATE.key n = 67133441 + 512 * n := Field.key_plain F.TL_CFG_RATE n rfl
@[simp] theorem F.TL_CFG_RATE_acc : F.TL_CFG_RATE.acc = .rw := rfl
@[simp] theorem F.TL_CFG_RATE_width : F.TL_CFG_RATE.width = 3 := rfl
@[simp] theorem F.TL_CFG_RASTER_key (n : Nat) : F.TL_CFG_RASTER.key n = 67133444 + 512 * n := Field.key_plain F.TL_CFG_RASTER n rfl
@[simp] theorem F.TL_CFG_RASTER_acc : F.TL_CFG_RASTER.acc = .rw := rfl
@[simp] theorem F.TL_CFG_RASTER_width : F.TL_CFG_RASTER.width = 2 := rfl
@[simp] theorem F.TL_CFG_SPL_key (n : Nat) : F.TL_CFG_SPL.key n = 67133456 + 512 * n := Field.key_plain F.TL_CFG_SPL n rfl
@[simp] theorem F.TL_CFG_SPL_acc : F.TL_CFG_SPL.acc = .rw := rfl
@[simp] theorem F.TL_CFG_SPL_width : F.TL_CFG_SPL.width = 14 := rfl
@[simp] theorem F.TL_POS_FRAME_LO_FRAME_key (n : Nat) : F.TL_POS_FRAME_LO_FRAME.key n = 67133568 + 512 * n := Field.key_plain F.TL_POS_FRAME_LO_FRAME n rfl
@[simp] theorem F.TL_POS_FRAME_LO_FRAME_acc : F.TL_POS_FRAME_LO_FRAME.acc = .ro := rfl
@[simp] theorem F.TL_POS_FRAME_LO_FRAME_width : F.TL_POS_FRAME_LO_FRAME.width = 32 := rfl
@[simp] theorem F.TL_POS_FRAME_HI_FRAME_key (n : Nat) : F.TL_POS_FRAME_HI_FRAME.key n = 67133696 + 512 * n := Field.key_plain F.TL_POS_FRAME_HI_FRAME n rfl
@[simp] theorem F.TL_POS_FRAME_HI_FRAME_acc : F.TL_POS_FRAME_HI_FRAME.acc = .ro := rfl
@[simp] theorem F.TL_POS_FRAME_HI_FRAME_width : F.TL_POS_FRAME_HI_FRAME.width = 16 := rfl
@[simp] theorem F.TL_POS_LINE_LINE_key (n : Nat) : F.TL_POS_LINE_LINE.key n = 67133824 + 512 * n := Field.key_plain F.TL_POS_LINE_LINE n rfl
@[simp] theorem F.TL_POS_LINE_LINE_acc : F.TL_POS_LINE_LINE.acc = .ro := rfl
@[simp] theorem F.TL_POS_LINE_LINE_width : F.TL_POS_LINE_LINE.width = 12 := rfl
@[simp] theorem F.TL_POS_LINE_SAMPLE_key (n : Nat) : F.TL_POS_LINE_SAMPLE.key n = 67133836 + 512 * n := Field.key_plain F.TL_POS_LINE_SAMPLE n rfl
@[simp] theorem F.TL_POS_LINE_SAMPLE_acc : F.TL_POS_LINE_SAMPLE.acc = .ro := rfl
@[simp] theorem F.TL_POS_LINE_SAMPLE_width : F.TL_POS_LINE_SAMPLE.width = 14 := rfl
@[simp] theorem F.FP_CFG_EN_key (n : Nat) : F.FP_CFG_EN.key n = 67141632 + 512 * n := Field.key_plain F.FP_CFG_EN n rfl
@[simp] theorem F.FP_CFG_EN_acc : F.FP_CFG_EN.acc = .rw := rfl
@[simp] theorem F.FP_CFG_EN_width : F.FP_CFG_EN.width = 1 := rfl
@[simp] theorem F.FP_CFG_TL_key (n : Nat) : F.FP_CFG_TL.key n = 67141633 + 512 * n := Field.key_plain F.FP_CFG_TL n rfl
@[simp] theorem F.FP_CFG_TL_acc : F.FP_CFG_TL.acc = .rw := rfl
@[simp] theorem F.FP_CFG_TL_width : F.FP_CFG_TL.width = 1 := rfl
@[simp] theorem F.FP_CFG_POL_key (n : Nat) : F.FP_CFG_POL.key n = 67141634 + 512 * n := Field.key_plain F.FP_CFG_POL n rfl
@[simp] theorem F.FP_CFG_POL_acc : F.FP_CFG_POL.acc = .rw := rfl
@[simp] theorem F.FP_CFG_POL_width : F.FP_CFG_POL.width = 1 := rfl
@[simp] theorem F.FP_CFG_DIV_key (n : Nat) : F.FP_CFG_DIV.key n = 67141635 + 512 * n := Field.key_plain F.FP_CFG_DIV n rfl
@[simp] theorem F.FP_CFG_DIV_acc : F.FP_CFG_DIV.acc = .rw := rfl
@[simp] theorem F.FP_CFG_DIV_width : F.FP_CFG_DIV.width = 4 := rfl
@[simp] theorem F.FP_CFG_WIDTH_key (n : Nat) : F.FP_CFG_WIDTH.key n = 67141640 + 512 * n := Field.key_plain F.FP_CFG_WIDTH n rfl
@[simp] theorem F.FP_CFG_WIDTH_acc : F.FP_CFG_WIDTH.acc = .rw := rfl
@[simp] theorem F.FP_CFG_WIDTH_width : F.FP_CFG_WIDTH.width = 8 := rfl
@[simp] theorem F.FP_CFG_TOL_key (n : Nat) : F.FP_CFG_TOL.key n = 67141648 + 512 * n := Field.key_plain F.FP_CFG_TOL n rfl
@[simp] theorem F.FP_CFG_TOL_acc : F.FP_CFG_TOL.acc = .rw := rfl
@[simp] theorem F.FP_CFG_TOL_width : F.FP_CFG_TOL.width = 16 := rfl
@[simp] theorem F.FP_OFS_OFS_key (n : Nat) : F.FP_OFS_OFS.key n = 67141760 + 512 * n := Field.key_plain F.FP_OFS_OFS n rfl
@[simp] theorem F.FP_OFS_OFS_acc : F.FP_OFS_OFS.acc = .rw := rfl
@[simp] theorem F.FP_OFS_OFS_width : F.FP_OFS_OFS.width = 32 := rfl
@[simp] theorem F.FP_MISALIGN_MIS_key (n : Nat) : F.FP_MISALIGN_MIS.key n = 67141888 + 512 * n := Field.key_plain F.FP_MISALIGN_MIS n rfl
@[simp] theorem F.FP_MISALIGN_MIS_acc : F.FP_MISALIGN_MIS.acc = .ro := rfl
@[simp] theorem F.FP_MISALIGN_MIS_width : F.FP_MISALIGN_MIS.width = 32 := rfl
@[simp] theorem F.FP_ALIGN_GO_key (n : Nat) : F.FP_ALIGN_GO.key n = 67142016 + 512 * n := Field.key_plain F.FP_ALIGN_GO n rfl
@[simp] theorem F.FP_ALIGN_GO_acc : F.FP_ALIGN_GO.acc = .wo := rfl
@[simp] theorem F.FP_ALIGN_GO_width : F.FP_ALIGN_GO.width = 1 := rfl
@[simp] theorem F.FP_ALIGN_MODE_key (n : Nat) : F.FP_ALIGN_MODE.key n = 67142017 + 512 * n := Field.key_plain F.FP_ALIGN_MODE n rfl
@[simp] theorem F.FP_ALIGN_MODE_acc : F.FP_ALIGN_MODE.acc = .wo := rfl
@[simp] theorem F.FP_ALIGN_MODE_width : F.FP_ALIGN_MODE.width = 1 := rfl
@[simp] theorem F.FP_ALIGN_SLEW_key (n : Nat) : F.FP_ALIGN_SLEW.key n = 67142032 + 512 * n := Field.key_plain F.FP_ALIGN_SLEW n rfl
@[simp] theorem F.FP_ALIGN_SLEW_acc : F.FP_ALIGN_SLEW.acc = .wo := rfl
@[simp] theorem F.FP_ALIGN_SLEW_width : F.FP_ALIGN_SLEW.width = 16 := rfl
@[simp] theorem F.PLL_CTRL_EN_key (n : Nat) : F.PLL_CTRL_EN.key n = 100679680 + 2048 * n := Field.key_plain F.PLL_CTRL_EN n rfl
@[simp] theorem F.PLL_CTRL_EN_acc : F.PLL_CTRL_EN.acc = .rw := rfl
@[simp] theorem F.PLL_CTRL_EN_width : F.PLL_CTRL_EN.width = 1 := rfl
@[simp] theorem F.PLL_CTRL_OUT_EN_key (n : Nat) : F.PLL_CTRL_OUT_EN.key n = 100679681 + 2048 * n := Field.key_plain F.PLL_CTRL_OUT_EN n rfl
@[simp] theorem F.PLL_CTRL_OUT_EN_acc : F.PLL_CTRL_OUT_EN.acc = .rw := rfl
@[simp] theorem F.PLL_CTRL_OUT_EN_width : F.PLL_CTRL_OUT_EN.width = 1 := rfl
@[simp] theorem F.PLL_CTRL_TRACK_key (n : Nat) : F.PLL_CTRL_TRACK.key n = 100679682 + 2048 * n := Field.key_plain F.PLL_CTRL_TRACK n rfl
@[simp] theorem F.PLL_CTRL_TRACK_acc : F.PLL_CTRL_TRACK.acc = .rw := rfl
@[simp] theorem F.PLL_CTRL_TRACK_width : F.PLL_CTRL_TRACK.width = 1 := rfl
@[simp] theorem F.PLL_CTRL_PRE_DIV_key (n : Nat) : F.PLL_CTRL_PRE_DIV.key n = 100679684 + 2048 * n := Field.key_plain F.PLL_CTRL_PRE_DIV n rfl
@[simp] theorem F.PLL_CTRL_PRE_DIV_acc : F.PLL_CTRL_PRE_DIV.acc = .rw := rfl
@[simp] theorem F.PLL_CTRL_PRE_DIV_width : F.PLL_CTRL_PRE_DIV.width = 6 := rfl
@[simp] theorem F.PLL_CTRL_POST_DIV_key (n : Nat) : F.PLL_CTRL_POST_DIV.key n = 100679690 + 2048 * n := Field.key_plain F.PLL_CTRL_POST_DIV n rfl
@[simp] theorem F.PLL_CTRL_POST_DIV_acc : F.PLL_CTRL_POST_DIV.acc = .rw := rfl
@[simp] theorem F.PLL_CTRL_POST_DIV_width : F.PLL_CTRL_POST_DIV.width = 10 := rfl
@[simp] theorem F.PLL_N_INT_N_INT_key (n : Nat) : F.PLL_N_INT_N_INT.key n = 100679808 + 2048 * n := Field.key_plain F.PLL_N_INT_N_INT n rfl
@[simp] theorem F.PLL_N_INT_N_INT_acc : F.PLL_N_INT_N_INT.acc = .rw := rfl
@[simp] theorem F.PLL_N_INT_N_INT_width : F.PLL_N_INT_N_INT.width = 9 := rfl
@[simp] theorem F.PLL_N_FRAC_N_FRAC_key (n : Nat) : F.PLL_N_FRAC_N_FRAC.key n = 100679936 + 2048 * n := Field.key_plain F.PLL_N_FRAC_N_FRAC n rfl
@[simp] theorem F.PLL_N_FRAC_N_FRAC_acc : F.PLL_N_FRAC_N_FRAC.acc = .rw := rfl
@[simp] theorem F.PLL_N_FRAC_N_FRAC_width : F.PLL_N_FRAC_N_FRAC.width = 32 := rfl
@[simp] theorem F.PLL_LOCK_CFG_LOCK_WIN_key (n : Nat) : F.PLL_LOCK_CFG_LOCK_WIN.key n = 100680064 + 2048 * n := Field.key_plain F.PLL_LOCK_CFG_LOCK_WIN n rfl
@[simp] theorem F.PLL_LOCK_CFG_LOCK_WIN_acc : F.PLL_LOCK_CFG_LOCK_WIN.acc = .rw := rfl
@[simp] theorem F.PLL_LOCK_CFG_LOCK_WIN_width : F.PLL_LOCK_CFG_LOCK_WIN.width = 16 := rfl
@[simp] theorem F.PLL_LOCK_CFG_LOCK_TOL_key (n : Nat) : F.PLL_LOCK_CFG_LOCK_TOL.key n = 100680080 + 2048 * n := Field.key_plain F.PLL_LOCK_CFG_LOCK_TOL n rfl
@[simp] theorem F.PLL_LOCK_CFG_LOCK_TOL_acc : F.PLL_LOCK_CFG_LOCK_TOL.acc = .rw := rfl
@[simp] theorem F.PLL_LOCK_CFG_LOCK_TOL_width : F.PLL_LOCK_CFG_LOCK_TOL.width = 8 := rfl
@[simp] theorem F.PLL_LOCK_CFG_LOCK_CNT_key (n : Nat) : F.PLL_LOCK_CFG_LOCK_CNT.key n = 100680088 + 2048 * n := Field.key_plain F.PLL_LOCK_CFG_LOCK_CNT n rfl
@[simp] theorem F.PLL_LOCK_CFG_LOCK_CNT_acc : F.PLL_LOCK_CFG_LOCK_CNT.acc = .rw := rfl
@[simp] theorem F.PLL_LOCK_CFG_LOCK_CNT_width : F.PLL_LOCK_CFG_LOCK_CNT.width = 4 := rfl
@[simp] theorem F.PLL_STATUS_STATE_key (n : Nat) : F.PLL_STATUS_STATE.key n = 100680192 + 2048 * n := Field.key_plain F.PLL_STATUS_STATE n rfl
@[simp] theorem F.PLL_STATUS_STATE_acc : F.PLL_STATUS_STATE.acc = .ro := rfl
@[simp] theorem F.PLL_STATUS_STATE_width : F.PLL_STATUS_STATE.width = 3 := rfl
@[simp] theorem F.PLL_STATUS_REF_OK_key (n : Nat) : F.PLL_STATUS_REF_OK.key n = 100680195 + 2048 * n := Field.key_plain F.PLL_STATUS_REF_OK n rfl
@[simp] theorem F.PLL_STATUS_REF_OK_acc : F.PLL_STATUS_REF_OK.acc = .ro := rfl
@[simp] theorem F.PLL_STATUS_REF_OK_width : F.PLL_STATUS_REF_OK.width = 1 := rfl
@[simp] theorem F.PLL_STATUS_OUT_ON_key (n : Nat) : F.PLL_STATUS_OUT_ON.key n = 100680196 + 2048 * n := Field.key_plain F.PLL_STATUS_OUT_ON n rfl
@[simp] theorem F.PLL_STATUS_OUT_ON_acc : F.PLL_STATUS_OUT_ON.acc = .ro := rfl
@[simp] theorem F.PLL_STATUS_OUT_ON_width : F.PLL_STATUS_OUT_ON.width = 1 := rfl
@[simp] theorem F.PLL_STATUS_RAMP_SEG_key (n : Nat) : F.PLL_STATUS_RAMP_SEG.key n = 100680197 + 2048 * n := Field.key_plain F.PLL_STATUS_RAMP_SEG n rfl
@[simp] theorem F.PLL_STATUS_RAMP_SEG_acc : F.PLL_STATUS_RAMP_SEG.acc = .ro := rfl
@[simp] theorem F.PLL_STATUS_RAMP_SEG_width : F.PLL_STATUS_RAMP_SEG.width = 2 := rfl
@[simp] theorem F.PLL_STATUS_LOSS_COUNT_key (n : Nat) : F.PLL_STATUS_LOSS_COUNT.key n = 100680208 + 2048 * n := Field.key_plain F.PLL_STATUS_LOSS_COUNT n rfl
@[simp] theorem F.PLL_STATUS_LOSS_COUNT_acc : F.PLL_STATUS_LOSS_COUNT.acc = .ro := rfl
@[simp] theorem F.PLL_STATUS_LOSS_COUNT_width : F.PLL_STATUS_LOSS_COUNT.width = 16 := rfl
@[simp] theorem F.PLL_HIST_LOCK_GAINED_key (n : Nat) : F.PLL_HIST_LOCK_GAINED.key n = 100680320 + 2048 * n := Field.key_plain F.PLL_HIST_LOCK_GAINED n rfl
@[simp] theorem F.PLL_HIST_LOCK_GAINED_acc : F.PLL_HIST_LOCK_GAINED.acc = .w1c := rfl
@[simp] theorem F.PLL_HIST_LOCK_GAINED_width : F.PLL_HIST_LOCK_GAINED.width = 1 := rfl
@[simp] theorem F.PLL_HIST_LOCK_LOST_key (n : Nat) : F.PLL_HIST_LOCK_LOST.key n = 100680321 + 2048 * n := Field.key_plain F.PLL_HIST_LOCK_LOST n rfl
@[simp] theorem F.PLL_HIST_LOCK_LOST_acc : F.PLL_HIST_LOCK_LOST.acc = .w1c := rfl
@[simp] theorem F.PLL_HIST_LOCK_LOST_width : F.PLL_HIST_LOCK_LOST.width = 1 := rfl
@[simp] theorem F.PLL_HIST_REF_LOST_key (n : Nat) : F.PLL_HIST_REF_LOST.key n = 100680322 + 2048 * n := Field.key_plain F.PLL_HIST_REF_LOST n rfl
@[simp] theorem F.PLL_HIST_REF_LOST_acc : F.PLL_HIST_REF_LOST.acc = .w1c := rfl
@[simp] theorem F.PLL_HIST_REF_LOST_width : F.PLL_HIST_REF_LOST.width = 1 := rfl
@[simp] theorem F.PLL_HIST_RAMP_DONE_key (n : Nat) : F.PLL_HIST_RAMP_DONE.key n = 100680323 + 2048 * n := Field.key_plain F.PLL_HIST_RAMP_DONE n rfl
@[simp] theorem F.PLL_HIST_RAMP_DONE_acc : F.PLL_HIST_RAMP_DONE.acc = .w1c := rfl
@[simp] theorem F.PLL_HIST_RAMP_DONE_width : F.PLL_HIST_RAMP_DONE.width = 1 := rfl
@[simp] theorem F.PLL_HIST_WRITE_REJECTED_key (n : Nat) : F.PLL_HIST_WRITE_REJECTED.key n = 100680324 + 2048 * n := Field.key_plain F.PLL_HIST_WRITE_REJECTED n rfl
@[simp] theorem F.PLL_HIST_WRITE_REJECTED_acc : F.PLL_HIST_WRITE_REJECTED.acc = .w1c := rfl
@[simp] theorem F.PLL_HIST_WRITE_REJECTED_width : F.PLL_HIST_WRITE_REJECTED.width = 1 := rfl
@[simp] theorem F.PLL_IRQ_EN_EN_key (n : Nat) : F.PLL_IRQ_EN_EN.key n = 100680448 + 2048 * n := Field.key_plain F.PLL_IRQ_EN_EN n rfl
@[simp] theorem F.PLL_IRQ_EN_EN_acc : F.PLL_IRQ_EN_EN.acc = .rw := rfl
@[simp] theorem F.PLL_IRQ_EN_EN_width : F.PLL_IRQ_EN_EN.width = 5 := rfl
@[simp] theorem F.PLL_CTRL_VAL_CTRL_key (n : Nat) : F.PLL_CTRL_VAL_CTRL.key n = 100680576 + 2048 * n := Field.key_plain F.PLL_CTRL_VAL_CTRL n rfl
@[simp] theorem F.PLL_CTRL_VAL_CTRL_acc : F.PLL_CTRL_VAL_CTRL.acc = .ro := rfl
@[simp] theorem F.PLL_CTRL_VAL_CTRL_width : F.PLL_CTRL_VAL_CTRL.width = 16 := rfl
@[simp] theorem F.PLL_RAMP_GO_GO_key (n : Nat) : F.PLL_RAMP_GO_GO.key n = 100680704 + 2048 * n := Field.key_plain F.PLL_RAMP_GO_GO n rfl
@[simp] theorem F.PLL_RAMP_GO_GO_acc : F.PLL_RAMP_GO_GO.acc = .wo := rfl
@[simp] theorem F.PLL_RAMP_GO_GO_width : F.PLL_RAMP_GO_GO.width = 1 := rfl
@[simp] theorem F.PLL_RAMP_GO_ABORT_key (n : Nat) : F.PLL_RAMP_GO_ABORT.key n = 100680705 + 2048 * n := Field.key_plain F.PLL_RAMP_GO_ABORT n rfl
@[simp] theorem F.PLL_RAMP_GO_ABORT_acc : F.PLL_RAMP_GO_ABORT.acc = .wo := rfl
@[simp] theorem F.PLL_RAMP_GO_ABORT_width : F.PLL_RAMP_GO_ABORT.width = 1 := rfl
@[simp] theorem F.RAMP_FRAC_TGT_FRAC_key (n : Nat) : F.RAMP_FRAC_TGT_FRAC.key n = 100728832 + 512 * n := Field.key_plain F.RAMP_FRAC_TGT_FRAC n rfl
@[simp] theorem F.RAMP_FRAC_TGT_FRAC_acc : F.RAMP_FRAC_TGT_FRAC.acc = .rw := rfl
@[simp] theorem F.RAMP_FRAC_TGT_FRAC_width : F.RAMP_FRAC_TGT_FRAC.width = 32 := rfl
@[simp] theorem F.RAMP_INT_TGT_INT_key (n : Nat) : F.RAMP_INT_TGT_INT.key n = 100728960 + 512 * n := Field.key_plain F.RAMP_INT_TGT_INT n rfl
@[simp] theorem F.RAMP_INT_TGT_INT_acc : F.RAMP_INT_TGT_INT.acc = .rw := rfl
@[simp] theorem F.RAMP_INT_TGT_INT_width : F.RAMP_INT_TGT_INT.width = 9 := rfl
@[simp] theorem F.RAMP_STEP_STEP_key (n : Nat) : F.RAMP_STEP_STEP.key n = 100729088 + 512 * n := Field.key_plain F.RAMP_STEP_STEP n rfl
@[simp] theorem F.RAMP_STEP_STEP_acc : F.RAMP_STEP_STEP.acc = .rw := rfl
@[simp] theorem F.RAMP_STEP_STEP_width : F.RAMP_STEP_STEP.width = 20 := rfl
@[simp] theorem F.RAMP_STEP_LAST_key (n : Nat) : F.RAMP_STEP_LAST.key n = 100729119 + 512 * n := Field.key_plain F.RAMP_STEP_LAST n rfl
@[simp] theorem F.RAMP_STEP_LAST_acc : F.RAMP_STEP_LAST.acc = .rw := rfl
@[simp] theorem F.RAMP_STEP_LAST_width : F.RAMP_STEP_LAST.width = 1 := rfl
@[simp] theorem F.RAMP_HOLD_HOLD_key (n : Nat) : F.RAMP_HOLD_HOLD.key n = 100729216 + 512 * n := Field.key_plain F.RAMP_HOLD_HOLD n rfl
@[simp] theorem F.RAMP_HOLD_HOLD_acc : F.RAMP_HOLD_HOLD.acc = .rw := rfl
@[simp] theorem F.RAMP_HOLD_HOLD_width : F.RAMP_HOLD_HOLD.width = 16 := rfl
@[simp] theorem F.LANES_CFG_SSC_OFFER_key (n : Nat) : F.LANES_CFG_SSC_OFFER.key n = 134225920 := Field.key_one F.LANES_CFG_SSC_OFFER n rfl rfl
@[simp] theorem F.LANES_CFG_SSC_OFFER_acc : F.LANES_CFG_SSC_OFFER.acc = .rw := rfl
@[simp] theorem F.LANES_CFG_SSC_OFFER_width : F.LANES_CFG_SSC_OFFER.width = 2 := rfl
@[simp] theorem F.LANES_CFG_TRAIN_TMO_key (n : Nat) : F.LANES_CFG_TRAIN_TMO.key n = 134225928 := Field.key_one F.LANES_CFG_TRAIN_TMO n rfl rfl
@[simp] theorem F.LANES_CFG_TRAIN_TMO_acc : F.LANES_CFG_TRAIN_TMO.acc = .rw := rfl
@[simp] theorem F.LANES_CFG_TRAIN_TMO_width : F.LANES_CFG_TRAIN_TMO.width = 8 := rfl
@[simp] theorem F.LANE_PEND_PEND_key (n : Nat) : F.LANE_PEND_PEND.key n = 134227968 + 128 * n := Field.key_plain F.LANE_PEND_PEND n rfl
@[simp] theorem F.LANE_PEND_PEND_acc : F.LANE_PEND_PEND.acc = .ro := rfl
@[simp] theorem F.LANE_PEND_PEND_width : F.LANE_PEND_PEND.width = 32 := rfl
@[simp] theorem F.LANE_LASTING_LASTING_key (n : Nat) : F.LANE_LASTING_LASTING.key n = 134230016 + 128 * n := Field.key_plain F.LANE_LASTING_LASTING n rfl
@[simp] theorem F.LANE_LASTING_LASTING_acc : F.LANE_LASTING_LASTING.acc = .ro := rfl
@[simp] theorem F.LANE_LASTING_LASTING_width : F.LANE_LASTING_LASTING.width = 32 := rfl
@[simp] theorem F.LANE_CTRL_POWER_key (n : Nat) : F.LANE_CTRL_POWER.key n = 134348800 + 4096 * n := Field.key_plain F.LANE_CTRL_POWER n rfl
@[simp] theorem F.LANE_CTRL_POWER_acc : F.LANE_CTRL_POWER.acc = .rw := rfl
@[simp] theorem F.LANE_CTRL_POWER_width : F.LANE_CTRL_POWER.width = 2 := rfl
@[simp] theorem F.LANE_CTRL_RATE_key (n : Nat) : F.LANE_CTRL_RATE.key n = 134348802 + 4096 * n := Field.key_plain F.LANE_CTRL_RATE n rfl
@[simp] theorem F.LANE_CTRL_RATE_acc : F.LANE_CTRL_RATE.acc = .rw := rfl
@[simp] theorem F.LANE_CTRL_RATE_width : F.LANE_CTRL_RATE.width = 4 := rfl
@[simp] theorem F.LANE_CTRL_AUTO_RETRAIN_key (n : Nat) : F.LANE_CTRL_AUTO_RETRAIN.key n = 134348806 + 4096 * n := Field.key_plain F.LANE_CTRL_AUTO_RETRAIN n rfl
@[simp] theorem F.LANE_CTRL_AUTO_RETRAIN_acc : F.LANE_CTRL_AUTO_RETRAIN.acc = .rw := rfl
@[simp] theorem F.LANE_CTRL_AUTO_RETRAIN_width : F.LANE_CTRL_AUTO_RETRAIN.width = 1 := rfl
@[simp] theorem F.LANE_CTRL_RETRAIN_key (n : Nat) : F.LANE_CTRL_RETRAIN.key n = 134348807 + 4096 * n := Field.key_plain F.LANE_CTRL_RETRAIN n rfl
@[simp] theorem F.LANE_CTRL_RETRAIN_acc : F.LANE_CTRL_RETRAIN.acc = .wo := rfl
@[simp] theorem F.LANE_CTRL_RETRAIN_width : F.LANE_CTRL_RETRAIN.width = 1 := rfl
@[simp] theorem F.LANE_CTRL_LB_key (n : Nat) : F.LANE_CTRL_LB.key n = 134348808 + 4096 * n := Field.key_plain F.LANE_CTRL_LB n rfl
@[simp] theorem F.LANE_CTRL_LB_acc : F.LANE_CTRL_LB.acc = .rw := rfl
@[simp] theorem F.LANE_CTRL_LB_width : F.LANE_CTRL_LB.width = 2 := rfl
@[simp] theorem F.LANE_CTRL_LB_TX_ON_key (n : Nat) : F.LANE_CTRL_LB_TX_ON.key n = 134348810 + 4096 * n := Field.key_plain F.LANE_CTRL_LB_TX_ON n rfl
@[simp] theorem F.LANE_CTRL_LB_TX_ON_acc : F.LANE_CTRL_LB_TX_ON.acc = .rw := rfl
@[simp] theorem F.LANE_CTRL_LB_TX_ON_width : F.LANE_CTRL_LB_TX_ON.width = 1 := rfl
@[simp] theorem F.LANE_CTRL_TX_INV_key (n : Nat) : F.LANE_CTRL_TX_INV.key n = 134348811 + 4096 * n := Field.key_plain F.LANE_CTRL_TX_INV n rfl
@[simp] theorem F.LANE_CTRL_TX_INV_acc : F.LANE_CTRL_TX_INV.acc = .rw := rfl
@[simp] theorem F.LANE_CTRL_TX_INV_width : F.LANE_CTRL_TX_INV.width = 1 := rfl
@[simp] theorem F.LANE_CTRL_RX_INV_key (n : Nat) : F.LANE_CTRL_RX_INV.key n = 134348812 + 4096 * n := Field.key_plain F.LANE_CTRL_RX_INV n rfl
@[simp] theorem F.LANE_CTRL_RX_INV_acc : F.LANE_CTRL_RX_INV.acc = .rw := rfl
@[simp] theorem F.LANE_CTRL_RX_INV_width : F.LANE_CTRL_RX_INV.width = 1 := rfl
@[simp] theorem F.LANE_CTRL_SSC_key (n : Nat) : F.LANE_CTRL_SSC.key n = 134348813 + 4096 * n := Field.key_plain F.LANE_CTRL_SSC n rfl
@[simp] theorem F.LANE_CTRL_SSC_acc : F.LANE_CTRL_SSC.acc = .ro := rfl
@[simp] theorem F.LANE_CTRL_SSC_width : F.LANE_CTRL_SSC.width = 2 := rfl
@[simp] theorem F.LANE_CTRL_RETRY_INT_key (n : Nat) : F.LANE_CTRL_RETRY_INT.key n = 134348816 + 4096 * n := Field.key_plain F.LANE_CTRL_RETRY_INT n rfl
@[simp] theorem F.LANE_CTRL_RETRY_INT_acc : F.LANE_CTRL_RETRY_INT.acc = .rw := rfl
@[simp] theorem F.LANE_CTRL_RETRY_INT_width : F.LANE_CTRL_RETRY_INT.width = 8 := rfl
@[simp] theorem F.LANE_STATUS_STATE_key (n : Nat) : F.LANE_STATUS_STATE.key n = 134348928 + 4096 * n := Field.key_plain F.LANE_STATUS_STATE n rfl
@[simp] theorem F.LANE_STATUS_STATE_acc : F.LANE_STATUS_STATE.acc = .ro := rfl
@[simp] theorem F.LANE_STATUS_STATE_width : F.LANE_STATUS_STATE.width = 4 := rfl
@[simp] theorem F.LANE_STATUS_SIG_DET_key (n : Nat) : F.LANE_STATUS_SIG_DET.key n = 134348932 + 4096 * n := Field.key_plain F.LANE_STATUS_SIG_DET n rfl
@[simp] theorem F.LANE_STATUS_SIG_DET_acc : F.LANE_STATUS_SIG_DET.acc = .ro := rfl
@[simp] theorem F.LANE_STATUS_SIG_DET_width : F.LANE_STATUS_SIG_DET.width = 1 := rfl
@[simp] theorem F.LANE_STATUS_CDR_LOCK_key (n : Nat) : F.LANE_STATUS_CDR_LOCK.key n = 134348933 + 4096 * n := Field.key_plain F.LANE_STATUS_CDR_LOCK n rfl
@[simp] theorem F.LANE_STATUS_CDR_LOCK_acc : F.LANE_STATUS_CDR_LOCK.acc = .ro := rfl
@[simp] theorem F.LANE_STATUS_CDR_LOCK_width : F.LANE_STATUS_CDR_LOCK.width = 1 := rfl
@[simp] theorem F.LANE_STATUS_RATE_NOW_key (n : Nat) : F.LANE_STATUS_RATE_NOW.key n = 134348934 + 4096 * n := Field.key_plain F.LANE_STATUS_RATE_NOW n rfl
@[simp] theorem F.LANE_STATUS_RATE_NOW_acc : F.LANE_STATUS_RATE_NOW.acc = .ro := rfl
@[simp] theorem F.LANE_STATUS_RATE_NOW_width : F.LANE_STATUS_RATE_NOW.width = 4 := rfl
@[simp] theorem F.LANE_STATUS_PAM4_key (n : Nat) : F.LANE_STATUS_PAM4.key n = 134348938 + 4096 * n := Field.key_plain F.LANE_STATUS_PAM4 n rfl
@[simp] theorem F.LANE_STATUS_PAM4_acc : F.LANE_STATUS_PAM4.acc = .ro := rfl
@[simp] theorem F.LANE_STATUS_PAM4_width : F.LANE_STATUS_PAM4.width = 1 := rfl
@[simp] theorem F.LANE_STATUS_LASTING_key (n : Nat) : F.LANE_STATUS_LASTING.key n = 134348939 + 4096 * n := Field.key_plain F.LANE_STATUS_LASTING n rfl
@[simp] theorem F.LANE_STATUS_LASTING_acc : F.LANE_STATUS_LASTING.acc = .ro := rfl
@[simp] theorem F.LANE_STATUS_LASTING_width : F.LANE_STATUS_LASTING.width = 1 := rfl
@[simp] theorem F.LANE_STATUS_FROZEN_key (n : Nat) : F.LANE_STATUS_FROZEN.key n = 134348940 + 4096 * n := Field.key_plain F.LANE_STATUS_FROZEN n rfl
@[simp] theorem F.LANE_STATUS_FROZEN_acc : F.LANE_STATUS_FROZEN.acc = .ro := rfl
@[simp] theorem F.LANE_STATUS_FROZEN_width : F.LANE_STATUS_FROZEN.width = 1 := rfl
@[simp] theorem F.LANE_HIST_LOS_key (n : Nat) : F.LANE_HIST_LOS.key n = 134349056 + 4096 * n := Field.key_plain F.LANE_HIST_LOS n rfl
@[simp] theorem F.LANE_HIST_LOS_acc : F.LANE_HIST_LOS.acc = .w1c := rfl
@[simp] theorem F.LANE_HIST_LOS_width : F.LANE_HIST_LOS.width = 1 := rfl
@[simp] theorem F.LANE_HIST_LOL_key (n : Nat) : F.LANE_HIST_LOL.key n = 134349057 + 4096 * n := Field.key_plain F.LANE_HIST_LOL n rfl
@[simp] theorem F.LANE_HIST_LOL_acc : F.LANE_HIST_LOL.acc = .w1c := rfl
@[simp] theorem F.LANE_HIST_LOL_width : F.LANE_HIST_LOL.width = 1 := rfl
@[simp] theorem F.LANE_HIST_SNR_LOW_key (n : Nat) : F.LANE_HIST_SNR_LOW.key n = 134349058 + 4096 * n := Field.key_plain F.LANE_HIST_SNR_LOW n rfl
@[simp] theorem F.LANE_HIST_SNR_LOW_acc : F.LANE_HIST_SNR_LOW.acc = .w1c := rfl
@[simp] theorem F.LANE_HIST_SNR_LOW_width : F.LANE_HIST_SNR_LOW.width = 1 := rfl
@[simp] theorem F.LANE_HIST_RETRAIN_OK_key (n : Nat) : F.LANE_HIST_RETRAIN_OK.key n = 134349059 + 4096 * n := Field.key_plain F.LANE_HIST_RETRAIN_OK n rfl
@[simp] theorem F.LANE_HIST_RETRAIN_OK_acc : F.LANE_HIST_RETRAIN_OK.acc = .w1c := rfl
@[simp] theorem F.LANE_HIST_RETRAIN_OK_width : F.LANE_HIST_RETRAIN_OK.width = 1 := rfl
@[simp] theorem F.LANE_HIST_RETRAIN_FAIL_key (n : Nat) : F.LANE_HIST_RETRAIN_FAIL.key n = 134349060 + 4096 * n := Field.key_plain F.LANE_HIST_RETRAIN_FAIL n rfl
@[simp] theorem F.LANE_HIST_RETRAIN_FAIL_acc : F.LANE_HIST_RETRAIN_FAIL.acc = .w1c := rfl
@[simp] theorem F.LANE_HIST_RETRAIN_FAIL_width : F.LANE_HIST_RETRAIN_FAIL.width = 1 := rfl
@[simp] theorem F.LANE_HIST_LASTING_SET_key (n : Nat) : F.LANE_HIST_LASTING_SET.key n = 134349061 + 4096 * n := Field.key_plain F.LANE_HIST_LASTING_SET n rfl
@[simp] theorem F.LANE_HIST_LASTING_SET_acc : F.LANE_HIST_LASTING_SET.acc = .w1c := rfl
@[simp] theorem F.LANE_HIST_LASTING_SET_width : F.LANE_HIST_LASTING_SET.width = 1 := rfl
@[simp] theorem F.LANE_HIST_CHK_SYNC_key (n : Nat) : F.LANE_HIST_CHK_SYNC.key n = 134349062 + 4096 * n := Field.key_plain F.LANE_HIST_CHK_SYNC n rfl
@[simp] theorem F.LANE_HIST_CHK_SYNC_acc : F.LANE_HIST_CHK_SYNC.acc = .w1c := rfl
@[simp] theorem F.LANE_HIST_CHK_SYNC_width : F.LANE_HIST_CHK_SYNC.width = 1 := rfl
@[simp] theorem F.LANE_HIST_CHK_LOST_key (n : Nat) : F.LANE_HIST_CHK_LOST.key n = 134349063 + 4096 * n := Field.key_plain F.LANE_HIST_CHK_LOST n rfl
@[simp] theorem F.LANE_HIST_CHK_LOST_acc : F.LANE_HIST_CHK_LOST.acc = .w1c := rfl
@[simp] theorem F.LANE_HIST_CHK_LOST_width : F.LANE_HIST_CHK_LOST.width = 1 := rfl
@[simp] theorem F.LANE_HIST_EYE_DONE_key (n : Nat) : F.LANE_HIST_EYE_DONE.key n = 134349064 + 4096 * n := Field.key_plain F.LANE_HIST_EYE_DONE n rfl
@[simp] theorem F.LANE_HIST_EYE_DONE_acc : F.LANE_HIST_EYE_DONE.acc = .w1c := rfl
@[simp] theorem F.LANE_HIST_EYE_DONE_width : F.LANE_HIST_EYE_DONE.width = 1 := rfl
@[simp] theorem F.LANE_HIST_CFG_REJECTED_key (n : Nat) : F.LANE_HIST_CFG_REJECTED.key n = 134349065 + 4096 * n := Field.key_plain F.LANE_HIST_CFG_REJECTED n rfl
@[simp] theorem F.LANE_HIST_CFG_REJECTED_acc : F.LANE_HIST_CFG_REJECTED.acc = .w1c := rfl
@[simp] theorem F.LANE_HIST_CFG_REJECTED_width : F.LANE_HIST_CFG_REJECTED.width = 1 := rfl
@[simp] theorem F.LANE_HIST_TRAIN_DONE_key (n : Nat) : F.LANE_HIST_TRAIN_DONE.key n = 134349066 + 4096 * n := Field.key_plain F.LANE_HIST_TRAIN_DONE n rfl
@[simp] theorem F.LANE_HIST_TRAIN_DONE_acc : F.LANE_HIST_TRAIN_DONE.acc = .w1c := rfl
@[simp] theorem F.LANE_HIST_TRAIN_DONE_width : F.LANE_HIST_TRAIN_DONE.width = 1 := rfl
@[simp] theorem F.LANE_IRQ_EN_EN_key (n : Nat) : F.LANE_IRQ_EN_EN.key n = 134349184 + 4096 * n := Field.key_plain F.LANE_IRQ_EN_EN n rfl
@[simp] theorem F.LANE_IRQ_EN_EN_acc : F.LANE_IRQ_EN_EN.acc = .rw := rfl
@[simp] theorem F.LANE_IRQ_EN_EN_width : F.LANE_IRQ_EN_EN.width = 11 := rfl
@[simp] theorem F.TX_EQ_PRE2_key (n : Nat) : F.TX_EQ_PRE2.key n = 134349312 + 4096 * n := Field.key_plain F.TX_EQ_PRE2 n rfl
@[simp] theorem F.TX_EQ_PRE2_acc : F.TX_EQ_PRE2.acc = .rw := rfl
@[simp] theorem F.TX_EQ_PRE2_width : F.TX_EQ_PRE2.width = 8 := rfl
@[simp] theorem F.TX_EQ_PRE1_key (n : Nat) : F.TX_EQ_PRE1.key n = 134349320 + 4096 * n := Field.key_plain F.TX_EQ_PRE1 n rfl
@[simp] theorem F.TX_EQ_PRE1_acc : F.TX_EQ_PRE1.acc = .rw := rfl
@[simp] theorem F.TX_EQ_PRE1_width : F.TX_EQ_PRE1.width = 8 := rfl
@[simp] theorem F.TX_EQ_MAIN_key (n : Nat) : F.TX_EQ_MAIN.key n = 134349328 + 4096 * n := Field.key_plain F.TX_EQ_MAIN n rfl
@[simp] theorem F.TX_EQ_MAIN_acc : F.TX_EQ_MAIN.acc = .rw := rfl
@[simp] theorem F.TX_EQ_MAIN_width : F.TX_EQ_MAIN.width = 8 := rfl
@[simp] theorem F.TX_EQ_POST1_key (n : Nat) : F.TX_EQ_POST1.key n = 134349336 + 4096 * n := Field.key_plain F.TX_EQ_POST1 n rfl
@[simp] theorem F.TX_EQ_POST1_acc : F.TX_EQ_POST1.acc = .rw := rfl
@[simp] theorem F.TX_EQ_POST1_width : F.TX_EQ_POST1.width = 8 := rfl
@[simp] theorem F.RX_EQ_CTLE_key (n : Nat) : F.RX_EQ_CTLE.key n = 134349440 + 4096 * n := Field.key_plain F.RX_EQ_CTLE n rfl
@[simp] theorem F.RX_EQ_CTLE_acc : F.RX_EQ_CTLE.acc = .rw := rfl
@[simp] theorem F.RX_EQ_CTLE_width : F.RX_EQ_CTLE.width = 5 := rfl
@[simp] theorem F.RX_EQ_VGA_key (n : Nat) : F.RX_EQ_VGA.key n = 134349445 + 4096 * n := Field.key_plain F.RX_EQ_VGA n rfl
@[simp] theorem F.RX_EQ_VGA_acc : F.RX_EQ_VGA.acc = .rw := rfl
@[simp] theorem F.RX_EQ_VGA_width : F.RX_EQ_VGA.width = 6 := rfl
@[simp] theorem F.RX_EQ_FREEZE_key (n : Nat) : F.RX_EQ_FREEZE.key n = 134349456 + 4096 * n := Field.key_plain F.RX_EQ_FREEZE n rfl
@[simp] theorem F.RX_EQ_FREEZE_acc : F.RX_EQ_FREEZE.acc = .rw := rfl
@[simp] theorem F.RX_EQ_FREEZE_width : F.RX_EQ_FREEZE.width = 1 := rfl
@[simp] theorem F.RX_EQ_LOAD_key (n : Nat) : F.RX_EQ_LOAD.key n = 134349457 + 4096 * n := Field.key_plain F.RX_EQ_LOAD n rfl
@[simp] theorem F.RX_EQ_LOAD_acc : F.RX_EQ_LOAD.acc = .wo := rfl
@[simp] theorem F.RX_EQ_LOAD_width : F.RX_EQ_LOAD.width = 1 := rfl
@[simp] theorem F.RX_DFE_A_TAP1_4_key (n : Nat) : F.RX_DFE_A_TAP1_4.key n = 134349568 + 4096 * n := Field.key_plain F.RX_DFE_A_TAP1_4 n rfl
@[simp] theorem F.RX_DFE_A_TAP1_4_acc : F.RX_DFE_A_TAP1_4.acc = .rw := rfl
@[simp] theorem F.RX_DFE_A_TAP1_4_width : F.RX_DFE_A_TAP1_4.width = 32 := rfl
@[simp] theorem F.RX_DFE_B_TAP5_8_key (n : Nat) : F.RX_DFE_B_TAP5_8.key n = 134349696 + 4096 * n := Field.key_plain F.RX_DFE_B_TAP5_8 n rfl
@[simp] theorem F.RX_DFE_B_TAP5_8_acc : F.RX_DFE_B_TAP5_8.acc = .rw := rfl
@[simp] theorem F.RX_DFE_B_TAP5_8_width : F.RX_DFE_B_TAP5_8.width = 32 := rfl
@[simp] theorem F.PAT_CFG_GEN_EN_key (n : Nat) : F.PAT_CFG_GEN_EN.key n = 134349824 + 4096 * n := Field.key_plain F.PAT_CFG_GEN_EN n rfl
@[simp] theorem F.PAT_CFG_GEN_EN_acc : F.PAT_CFG_GEN_EN.acc = .rw := rfl
@[simp] theorem F.PAT_CFG_GEN_EN_width : F.PAT_CFG_GEN_EN.width = 1 := rfl
@[simp] theorem F.PAT_CFG_GEN_PAT_key (n : Nat) : F.PAT_CFG_GEN_PAT.key n = 134349825 + 4096 * n := Field.key_plain F.PAT_CFG_GEN_PAT n rfl
@[simp] theorem F.PAT_CFG_GEN_PAT_acc : F.PAT_CFG_GEN_PAT.acc = .rw := rfl
@[simp] theorem F.PAT_CFG_GEN_PAT_width : F.PAT_CFG_GEN_PAT.width = 4 := rfl
@[simp] theorem F.PAT_CFG_CHK_EN_key (n : Nat) : F.PAT_CFG_CHK_EN.key n = 134349829 + 4096 * n := Field.key_plain F.PAT_CFG_CHK_EN n rfl
@[simp] theorem F.PAT_CFG_CHK_EN_acc : F.PAT_CFG_CHK_EN.acc = .rw := rfl
@[simp] theorem F.PAT_CFG_CHK_EN_width : F.PAT_CFG_CHK_EN.width = 1 := rfl
@[simp] theorem F.PAT_CFG_CHK_PAT_key (n : Nat) : F.PAT_CFG_CHK_PAT.key n = 134349830 + 4096 * n := Field.key_plain F.PAT_CFG_CHK_PAT n rfl
@[simp] theorem F.PAT_CFG_CHK_PAT_acc : F.PAT_CFG_CHK_PAT.acc = .rw := rfl
@[simp] theorem F.PAT_CFG_CHK_PAT_width : F.PAT_CFG_CHK_PAT.width = 4 := rfl
@[simp] theorem F.PAT_CFG_INJ_ERR_key (n : Nat) : F.PAT_CFG_INJ_ERR.key n = 134349834 + 4096 * n := Field.key_plain F.PAT_CFG_INJ_ERR n rfl
@[simp] theorem F.PAT_CFG_INJ_ERR_acc : F.PAT_CFG_INJ_ERR.acc = .wo := rfl
@[simp] theorem F.PAT_CFG_INJ_ERR_width : F.PAT_CFG_INJ_ERR.width = 1 := rfl
@[simp] theorem F.PAT_CFG_IN_SYNC_key (n : Nat) : F.PAT_CFG_IN_SYNC.key n = 134349835 + 4096 * n := Field.key_plain F.PAT_CFG_IN_SYNC n rfl
@[simp] theorem F.PAT_CFG_IN_SYNC_acc : F.PAT_CFG_IN_SYNC.acc = .ro := rfl
@[simp] theorem F.PAT_CFG_IN_SYNC_width : F.PAT_CFG_IN_SYNC.width = 1 := rfl
@[simp] theorem F.PAT_USER_LO_USER_key (n : Nat) : F.PAT_USER_LO_USER.key n = 134349952 + 4096 * n := Field.key_plain F.PAT_USER_LO_USER n rfl
@[simp] theorem F.PAT_USER_LO_USER_acc : F.PAT_USER_LO_USER.acc = .rw := rfl
@[simp] theorem F.PAT_USER_LO_USER_width : F.PAT_USER_LO_USER.width = 32 := rfl
@[simp] theorem F.PAT_USER_HI_USER_key (n : Nat) : F.PAT_USER_HI_USER.key n = 134350080 + 4096 * n := Field.key_plain F.PAT_USER_HI_USER n rfl
@[simp] theorem F.PAT_USER_HI_USER_acc : F.PAT_USER_HI_USER.acc = .rw := rfl
@[simp] theorem F.PAT_USER_HI_USER_width : F.PAT_USER_HI_USER.width = 32 := rfl
@[simp] theorem F.CHK_ERR_LO_ERR_key (n : Nat) : F.CHK_ERR_LO_ERR.key n = 134350208 + 4096 * n := Field.key_plain F.CHK_ERR_LO_ERR n rfl
@[simp] theorem F.CHK_ERR_LO_ERR_acc : F.CHK_ERR_LO_ERR.acc = .ro := rfl
@[simp] theorem F.CHK_ERR_LO_ERR_width : F.CHK_ERR_LO_ERR.width = 32 := rfl
@[simp] theorem F.CHK_ERR_HI_ERR_key (n : Nat) : F.CHK_ERR_HI_ERR.key n = 134350336 + 4096 * n := Field.key_plain F.CHK_ERR_HI_ERR n rfl
@[simp] theorem F.CHK_ERR_HI_ERR_acc : F.CHK_ERR_HI_ERR.acc = .ro := rfl
@[simp] theorem F.CHK_ERR_HI_ERR_width : F.CHK_ERR_HI_ERR.width = 16 := rfl
@[simp] theorem F.CHK_BITS_LO_BITS_key (n : Nat) : F.CHK_BITS_LO_BITS.key n = 134350464 + 4096 * n := Field.key_plain F.CHK_BITS_LO_BITS n rfl
@[simp] theorem F.CHK_BITS_LO_BITS_acc : F.CHK_BITS_LO_BITS.acc = .ro := rfl
@[simp] theorem F.CHK_BITS_LO_BITS_width : F.CHK_BITS_LO_BITS.width = 32 := rfl
@[simp] theorem F.CHK_BITS_HI_BITS_key (n : Nat) : F.CHK_BITS_HI_BITS.key n = 134350592 + 4096 * n := Field.key_plain F.CHK_BITS_HI_BITS n rfl
@[simp] theorem F.CHK_BITS_HI_BITS_acc : F.CHK_BITS_HI_BITS.acc = .ro := rfl
@[simp] theorem F.CHK_BITS_HI_BITS_width : F.CHK_BITS_HI_BITS.width = 32 := rfl
@[simp] theorem F.EYE_CFG_GO_key (n : Nat) : F.EYE_CFG_GO.key n = 134350720 + 4096 * n := Field.key_plain F.EYE_CFG_GO n rfl
@[simp] theorem F.EYE_CFG_GO_acc : F.EYE_CFG_GO.acc = .wo := rfl
@[simp] theorem F.EYE_CFG_GO_width : F.EYE_CFG_GO.width = 1 := rfl
@[simp] theorem F.EYE_CFG_MODE_key (n : Nat) : F.EYE_CFG_MODE.key n = 134350721 + 4096 * n := Field.key_plain F.EYE_CFG_MODE n rfl
@[simp] theorem F.EYE_CFG_MODE_acc : F.EYE_CFG_MODE.acc = .rw := rfl
@[simp] theorem F.EYE_CFG_MODE_width : F.EYE_CFG_MODE.width = 1 := rfl
@[simp] theorem F.EYE_CFG_EYE_key (n : Nat) : F.EYE_CFG_EYE.key n = 134350722 + 4096 * n := Field.key_plain F.EYE_CFG_EYE n rfl
@[simp] theorem F.EYE_CFG_EYE_acc : F.EYE_CFG_EYE.acc = .rw := rfl
@[simp] theorem F.EYE_CFG_EYE_width : F.EYE_CFG_EYE.width = 2 := rfl
@[simp] theorem F.EYE_CFG_DWELL_key (n : Nat) : F.EYE_CFG_DWELL.key n = 134350724 + 4096 * n := Field.key_plain F.EYE_CFG_DWELL n rfl
@[simp] theorem F.EYE_CFG_DWELL_acc : F.EYE_CFG_DWELL.acc = .rw := rfl
@[simp] theorem F.EYE_CFG_DWELL_width : F.EYE_CFG_DWELL.width = 5 := rfl
@[simp] theorem F.EYE_CFG_PHASE_key (n : Nat) : F.EYE_CFG_PHASE.key n = 134350736 + 4096 * n := Field.key_plain F.EYE_CFG_PHASE n rfl
@[simp] theorem F.EYE_CFG_PHASE_acc : F.EYE_CFG_PHASE.acc = .rw := rfl
@[simp] theorem F.EYE_CFG_PHASE_width : F.EYE_CFG_PHASE.width = 8 := rfl
@[simp] theorem F.EYE_CFG_VOLT_key (n : Nat) : F.EYE_CFG_VOLT.key n = 134350744 + 4096 * n := Field.key_plain F.EYE_CFG_VOLT n rfl
@[simp] theorem F.EYE_CFG_VOLT_acc : F.EYE_CFG_VOLT.acc = .rw := rfl
@[simp] theorem F.EYE_CFG_VOLT_width : F.EYE_CFG_VOLT.width = 8 := rfl
@[simp] theorem F.EYE_RESULT_W_key (n : Nat) : F.EYE_RESULT_W.key n = 134350848 + 4096 * n := Field.key_plain F.EYE_RESULT_W n rfl
@[simp] theorem F.EYE_RESULT_W_acc : F.EYE_RESULT_W.acc = .ro := rfl
@[simp] theorem F.EYE_RESULT_W_width : F.EYE_RESULT_W.width = 8 := rfl
@[simp] theorem F.EYE_RESULT_H_key (n : Nat) : F.EYE_RESULT_H.key n = 134350856 + 4096 * n := Field.key_plain F.EYE_RESULT_H n rfl
@[simp] theorem F.EYE_RESULT_H_acc : F.EYE_RESULT_H.acc = .ro := rfl
@[simp] theorem F.EYE_RESULT_H_width : F.EYE_RESULT_H.width = 8 := rfl
@[simp] theorem F.EYE_RESULT_ERR_key (n : Nat) : F.EYE_RESULT_ERR.key n = 134350864 + 4096 * n := Field.key_plain F.EYE_RESULT_ERR n rfl
@[simp] theorem F.EYE_RESULT_ERR_acc : F.EYE_RESULT_ERR.acc = .ro := rfl
@[simp] theorem F.EYE_RESULT_ERR_width : F.EYE_RESULT_ERR.width = 15 := rfl
@[simp] theorem F.EYE_RESULT_VALID_key (n : Nat) : F.EYE_RESULT_VALID.key n = 134350879 + 4096 * n := Field.key_plain F.EYE_RESULT_VALID n rfl
@[simp] theorem F.EYE_RESULT_VALID_acc : F.EYE_RESULT_VALID.acc = .ro := rfl
@[simp] theorem F.EYE_RESULT_VALID_width : F.EYE_RESULT_VALID.width = 1 := rfl
@[simp] theorem F.LANE_FAULT_CNT_TRANSIENT_key (n : Nat) : F.LANE_FAULT_CNT_TRANSIENT.key n = 134350976 + 4096 * n := Field.key_plain F.LANE_FAULT_CNT_TRANSIENT n rfl
@[simp] theorem F.LANE_FAULT_CNT_TRANSIENT_acc : F.LANE_FAULT_CNT_TRANSIENT.acc = .ro := rfl
@[simp] theorem F.LANE_FAULT_CNT_TRANSIENT_width : F.LANE_FAULT_CNT_TRANSIENT.width = 16 := rfl
@[simp] theorem F.LANE_FAULT_CNT_LASTING_CNT_key (n : Nat) : F.LANE_FAULT_CNT_LASTING_CNT.key n = 134350992 + 4096 * n := Field.key_plain F.LANE_FAULT_CNT_LASTING_CNT n rfl
@[simp] theorem F.LANE_FAULT_CNT_LASTING_CNT_acc : F.LANE_FAULT_CNT_LASTING_CNT.acc = .ro := rfl
@[simp] theorem F.LANE_FAULT_CNT_LASTING_CNT_width : F.LANE_FAULT_CNT_LASTING_CNT.width = 16 := rfl
@[simp] theorem F.LANE_SNR_SNR_key (n : Nat) : F.LANE_SNR_SNR.key n = 134351104 + 4096 * n := Field.key_plain F.LANE_SNR_SNR n rfl
@[simp] theorem F.LANE_SNR_SNR_acc : F.LANE_SNR_SNR.acc = .ro := rfl
@[simp] theorem F.LANE_SNR_SNR_width : F.LANE_SNR_SNR.width = 12 := rfl
@[simp] theorem F.LANE_SNR_SNR_MIN_key (n : Nat) : F.LANE_SNR_SNR_MIN.key n = 134351120 + 4096 * n := Field.key_plain F.LANE_SNR_SNR_MIN n rfl
@[simp] theorem F.LANE_SNR_SNR_MIN_acc : F.LANE_SNR_SNR_MIN.acc = .rw := rfl
@[simp] theorem F.LANE_SNR_SNR_MIN_width : F.LANE_SNR_SNR_MIN.width = 8 := rfl
@[simp] theorem F.SDI_RX_CFG_EN_key (n : Nat) : F.SDI_RX_CFG_EN.key n = 167903232 + 2048 * n := Field.key_plain F.SDI_RX_CFG_EN n rfl
@[simp] theorem F.SDI_RX_CFG_EN_acc : F.SDI_RX_CFG_EN.acc = .rw := rfl
@[simp] theorem F.SDI_RX_CFG_EN_width : F.SDI_RX_CFG_EN.width = 1 := rfl
@[simp] theorem F.SDI_RX_CFG_FORMAT_key (n : Nat) : F.SDI_RX_CFG_FORMAT.key n = 167903233 + 2048 * n := Field.key_plain F.SDI_RX_CFG_FORMAT n rfl
@[simp] theorem F.SDI_RX_CFG_FORMAT_acc : F.SDI_RX_CFG_FORMAT.acc = .rw := rfl
@[simp] theorem F.SDI_RX_CFG_FORMAT_width : F.SDI_RX_CFG_FORMAT.width = 5 := rfl
@[simp] theorem F.SDI_RX_CFG_QUAD_key (n : Nat) : F.SDI_RX_CFG_QUAD.key n = 167903238 + 2048 * n := Field.key_plain F.SDI_RX_CFG_QUAD n rfl
@[simp] theorem F.SDI_RX_CFG_QUAD_acc : F.SDI_RX_CFG_QUAD.acc = .rw := rfl
@[simp] theorem F.SDI_RX_CFG_QUAD_width : F.SDI_RX_CFG_QUAD.width = 1 := rfl
@[simp] theorem F.SDI_RX_CFG_ANC_MODE_key (n : Nat) : F.SDI_RX_CFG_ANC_MODE.key n = 167903239 + 2048 * n := Field.key_plain F.SDI_RX_CFG_ANC_MODE n rfl
@[simp] theorem F.SDI_RX_CFG_ANC_MODE_acc : F.SDI_RX_CFG_ANC_MODE.acc = .rw := rfl
@[simp] theorem F.SDI_RX_CFG_ANC_MODE_width : F.SDI_RX_CFG_ANC_MODE.width = 2 := rfl
@[simp] theorem F.SDI_RX_CFG_DEEMB_EN_key (n : Nat) : F.SDI_RX_CFG_DEEMB_EN.key n = 167903241 + 2048 * n := Field.key_plain F.SDI_RX_CFG_DEEMB_EN n rfl
@[simp] theorem F.SDI_RX_CFG_DEEMB_EN_acc : F.SDI_RX_CFG_DEEMB_EN.acc = .rw := rfl
@[simp] theorem F.SDI_RX_CFG_DEEMB_EN_width : F.SDI_RX_CFG_DEEMB_EN.width = 1 := rfl
@[simp] theorem F.SDI_RX_STATUS_STATE_key (n : Nat) : F.SDI_RX_STATUS_STATE.key n = 167903360 + 2048 * n := Field.key_plain F.SDI_RX_STATUS_STATE n rfl
@[simp] theorem F.SDI_RX_STATUS_STATE_acc : F.SDI_RX_STATUS_STATE.acc = .ro := rfl
@[simp] theorem F.SDI_RX_STATUS_STATE_width : F.SDI_RX_STATUS_STATE.width = 2 := rfl
@[simp] theorem F.SDI_RX_STATUS_FMT_NOW_key (n : Nat) : F.SDI_RX_STATUS_FMT_NOW.key n = 167903362 + 2048 * n := Field.key_plain F.SDI_RX_STATUS_FMT_NOW n rfl
@[simp] theorem F.SDI_RX_STATUS_FMT_NOW_acc : F.SDI_RX_STATUS_FMT_NOW.acc = .ro := rfl
@[simp] theorem F.SDI_RX_STATUS_FMT_NOW_width : F.SDI_RX_STATUS_FMT_NOW.width = 5 := rfl
@[simp] theorem F.SDI_RX_STATUS_PID_VALID_key (n : Nat) : F.SDI_RX_STATUS_PID_VALID.key n = 167903367 + 2048 * n := Field.key_plain F.SDI_RX_STATUS_PID_VALID n rfl
@[simp] theorem F.SDI_RX_STATUS_PID_VALID_acc : F.SDI_RX_STATUS_PID_VALID.acc = .ro := rfl
@[simp] theorem F.SDI_RX_STATUS_PID_VALID_width : F.SDI_RX_STATUS_PID_VALID.width = 1 := rfl
@[simp] theorem F.SDI_RX_STATUS_ATC_VALID_key (n : Nat) : F.SDI_RX_STATUS_ATC_VALID.key n = 167903368 + 2048 * n := Field.key_plain F.SDI_RX_STATUS_ATC_VALID n rfl
@[simp] theorem F.SDI_RX_STATUS_ATC_VALID_acc : F.SDI_RX_STATUS_ATC_VALID.acc = .ro := rfl
@[simp] theorem F.SDI_RX_STATUS_ATC_VALID_width : F.SDI_RX_STATUS_ATC_VALID.width = 1 := rfl
@[simp] theorem F.SDI_RX_STATUS_OSTAMP_SEEN_key (n : Nat) : F.SDI_RX_STATUS_OSTAMP_SEEN.key n = 167903369 + 2048 * n := Field.key_plain F.SDI_RX_STATUS_OSTAMP_SEEN n rfl
@[simp] theorem F.SDI_RX_STATUS_OSTAMP_SEEN_acc : F.SDI_RX_STATUS_OSTAMP_SEEN.acc = .ro := rfl
@[simp] theorem F.SDI_RX_STATUS_OSTAMP_SEEN_width : F.SDI_RX_STATUS_OSTAMP_SEEN.width = 1 := rfl
@[simp] theorem F.SDI_RX_STATUS_LEVEL_B_key (n : Nat) : F.SDI_RX_STATUS_LEVEL_B.key n = 167903370 + 2048 * n := Field.key_plain F.SDI_RX_STATUS_LEVEL_B n rfl
@[simp] theorem F.SDI_RX_STATUS_LEVEL_B_acc : F.SDI_RX_STATUS_LEVEL_B.acc = .ro := rfl
@[simp] theorem F.SDI_RX_STATUS_LEVEL_B_width : F.SDI_RX_STATUS_LEVEL_B.width = 1 := rfl
@[simp] theorem F.SDI_RX_STATUS_LINK_key (n : Nat) : F.SDI_RX_STATUS_LINK.key n = 167903371 + 2048 * n := Field.key_plain F.SDI_RX_STATUS_LINK n rfl
@[simp] theorem F.SDI_RX_STATUS_LINK_acc : F.SDI_RX_STATUS_LINK.acc = .ro := rfl
@[simp] theorem F.SDI_RX_STATUS_LINK_width : F.SDI_RX_STATUS_LINK.width = 2 := rfl
@[simp] theorem F.SDI_RX_HIST_LOCK_GAINED_key (n : Nat) : F.SDI_RX_HIST_LOCK_GAINED.key n = 167903488 + 2048 * n := Field.key_plain F.SDI_RX_HIST_LOCK_GAINED n rfl
@[simp] theorem F.SDI_RX_HIST_LOCK_GAINED_acc : F.SDI_RX_HIST_LOCK_GAINED.acc = .w1c := rfl
@[simp] theorem F.SDI_RX_HIST_LOCK_GAINED_width : F.SDI_RX_HIST_LOCK_GAINED.width = 1 := rfl
@[simp] theorem F.SDI_RX_HIST_LOCK_LOST_key (n : Nat) : F.SDI_RX_HIST_LOCK_LOST.key n = 167903489 + 2048 * n := Field.key_plain F.SDI_RX_HIST_LOCK_LOST n rfl
@[simp] theorem F.SDI_RX_HIST_LOCK_LOST_acc : F.SDI_RX_HIST_LOCK_LOST.acc = .w1c := rfl
@[simp] theorem F.SDI_RX_HIST_LOCK_LOST_width : F.SDI_RX_HIST_LOCK_LOST.width = 1 := rfl
@[simp] theorem F.SDI_RX_HIST_FMT_CHANGED_key (n : Nat) : F.SDI_RX_HIST_FMT_CHANGED.key n = 167903490 + 2048 * n := Field.key_plain F.SDI_RX_HIST_FMT_CHANGED n rfl
@[simp] theorem F.SDI_RX_HIST_FMT_CHANGED_acc : F.SDI_RX_HIST_FMT_CHANGED.acc = .w1c := rfl
@[simp] theorem F.SDI_RX_HIST_FMT_CHANGED_width : F.SDI_RX_HIST_FMT_CHANGED.width = 1 := rfl
@[simp] theorem F.SDI_RX_HIST_FMT_MISMATCH_key (n : Nat) : F.SDI_RX_HIST_FMT_MISMATCH.key n = 167903491 + 2048 * n := Field.key_plain F.SDI_RX_HIST_FMT_MISMATCH n rfl
@[simp] theorem F.SDI_RX_HIST_FMT_MISMATCH_acc : F.SDI_RX_HIST_FMT_MISMATCH.acc = .w1c := rfl
@[simp] theorem F.SDI_RX_HIST_FMT_MISMATCH_width : F.SDI_RX_HIST_FMT_MISMATCH.width = 1 := rfl
@[simp] theorem F.SDI_RX_HIST_CRC_ERR_key (n : Nat) : F.SDI_RX_HIST_CRC_ERR.key n = 167903492 + 2048 * n := Field.key_plain F.SDI_RX_HIST_CRC_ERR n rfl
@[simp] theorem F.SDI_RX_HIST_CRC_ERR_acc : F.SDI_RX_HIST_CRC_ERR.acc = .w1c := rfl
@[simp] theorem F.SDI_RX_HIST_CRC_ERR_width : F.SDI_RX_HIST_CRC_ERR.width = 1 := rfl
@[simp] theorem F.SDI_RX_HIST_TRS_ERR_key (n : Nat) : F.SDI_RX_HIST_TRS_ERR.key n = 167903493 + 2048 * n := Field.key_plain F.SDI_RX_HIST_TRS_ERR n rfl
@[simp] theorem F.SDI_RX_HIST_TRS_ERR_acc : F.SDI_RX_HIST_TRS_ERR.acc = .w1c := rfl
@[simp] theorem F.SDI_RX_HIST_TRS_ERR_width : F.SDI_RX_HIST_TRS_ERR.width = 1 := rfl
@[simp] theorem F.SDI_RX_HIST_ANC_CSUM_ERR_key (n : Nat) : F.SDI_RX_HIST_ANC_CSUM_ERR.key n = 167903494 + 2048 * n := Field.key_plain F.SDI_RX_HIST_ANC_CSUM_ERR n rfl
@[simp] theorem F.SDI_RX_HIST_ANC_CSUM_ERR_acc : F.SDI_RX_HIST_ANC_CSUM_ERR.acc = .w1c := rfl
@[simp] theorem F.SDI_RX_HIST_ANC_CSUM_ERR_width : F.SDI_RX_HIST_ANC_CSUM_ERR.width = 1 := rfl
@[simp] theorem F.SDI_RX_HIST_QUAD_SKEW_key (n : Nat) : F.SDI_RX_HIST_QUAD_SKEW.key n = 167903495 + 2048 * n := Field.key_plain F.SDI_RX_HIST_QUAD_SKEW n rfl
@[simp] theorem F.SDI_RX_HIST_QUAD_SKEW_acc : F.SDI_RX_HIST_QUAD_SKEW.acc = .w1c := rfl
@[simp] theorem F.SDI_RX_HIST_QUAD_SKEW_width : F.SDI_RX_HIST_QUAD_SKEW.width = 1 := rfl
@[simp] theorem F.SDI_RX_HIST_PID_CHANGED_key (n : Nat) : F.SDI_RX_HIST_PID_CHANGED.key n = 167903496 + 2048 * n := Field.key_plain F.SDI_RX_HIST_PID_CHANGED n rfl
@[simp] theorem F.SDI_RX_HIST_PID_CHANGED_acc : F.SDI_RX_HIST_PID_CHANGED.acc = .w1c := rfl
@[simp] theorem F.SDI_RX_HIST_PID_CHANGED_width : F.SDI_RX_HIST_PID_CHANGED.width = 1 := rfl
@[simp] theorem F.SDI_RX_HIST_AUD_ASYNC_key (n : Nat) : F.SDI_RX_HIST_AUD_ASYNC.key n = 167903497 + 2048 * n := Field.key_plain F.SDI_RX_HIST_AUD_ASYNC n rfl
@[simp] theorem F.SDI_RX_HIST_AUD_ASYNC_acc : F.SDI_RX_HIST_AUD_ASYNC.acc = .w1c := rfl
@[simp] theorem F.SDI_RX_HIST_AUD_ASYNC_width : F.SDI_RX_HIST_AUD_ASYNC.width = 1 := rfl
@[simp] theorem F.SDI_RX_HIST_CFG_REJECTED_key (n : Nat) : F.SDI_RX_HIST_CFG_REJECTED.key n = 167903498 + 2048 * n := Field.key_plain F.SDI_RX_HIST_CFG_REJECTED n rfl
@[simp] theorem F.SDI_RX_HIST_CFG_REJECTED_acc : F.SDI_RX_HIST_CFG_REJECTED.acc = .w1c := rfl
@[simp] theorem F.SDI_RX_HIST_CFG_REJECTED_width : F.SDI_RX_HIST_CFG_REJECTED.width = 1 := rfl
@[simp] theorem F.SDI_RX_IRQ_EN_EN_key (n : Nat) : F.SDI_RX_IRQ_EN_EN.key n = 167903616 + 2048 * n := Field.key_plain F.SDI_RX_IRQ_EN_EN n rfl
@[simp] theorem F.SDI_RX_IRQ_EN_EN_acc : F.SDI_RX_IRQ_EN_EN.acc = .rw := rfl
@[simp] theorem F.SDI_RX_IRQ_EN_EN_width : F.SDI_RX_IRQ_EN_EN.width = 11 := rfl
@[simp] theorem F.SDI_RX_PID_PID_key (n : Nat) : F.SDI_RX_PID_PID.key n = 167903744 + 2048 * n := Field.key_plain F.SDI_RX_PID_PID n rfl
@[simp] theorem F.SDI_RX_PID_PID_acc : F.SDI_RX_PID_PID.acc = .ro := rfl
@[simp] theorem F.SDI_RX_PID_PID_width : F.SDI_RX_PID_PID.width = 32 := rfl
@[simp] theorem F.SDI_RX_ATC_FRAMES_key (n : Nat) : F.SDI_RX_ATC_FRAMES.key n = 167903872 + 2048 * n := Field.key_plain F.SDI_RX_ATC_FRAMES n rfl
@[simp] theorem F.SDI_RX_ATC_FRAMES_acc : F.SDI_RX_ATC_FRAMES.acc = .ro := rfl
@[simp] theorem F.SDI_RX_ATC_FRAMES_width : F.SDI_RX_ATC_FRAMES.width = 6 := rfl
@[simp] theorem F.SDI_RX_ATC_SECONDS_key (n : Nat) : F.SDI_RX_ATC_SECONDS.key n = 167903880 + 2048 * n := Field.key_plain F.SDI_RX_ATC_SECONDS n rfl
@[simp] theorem F.SDI_RX_ATC_SECONDS_acc : F.SDI_RX_ATC_SECONDS.acc = .ro := rfl
@[simp] theorem F.SDI_RX_ATC_SECONDS_width : F.SDI_RX_ATC_SECONDS.width = 6 := rfl
@[simp] theorem F.SDI_RX_ATC_MINUTES_key (n : Nat) : F.SDI_RX_ATC_MINUTES.key n = 167903888 + 2048 * n := Field.key_plain F.SDI_RX_ATC_MINUTES n rfl
@[simp] theorem F.SDI_RX_ATC_MINUTES_acc : F.SDI_RX_ATC_MINUTES.acc = .ro := rfl
@[simp] theorem F.SDI_RX_ATC_MINUTES_width : F.SDI_RX_ATC_MINUTES.width = 6 := rfl
@[simp] theorem F.SDI_RX_ATC_HOURS_key (n : Nat) : F.SDI_RX_ATC_HOURS.key n = 167903896 + 2048 * n := Field.key_plain F.SDI_RX_ATC_HOURS n rfl
@[simp] theorem F.SDI_RX_ATC_HOURS_acc : F.SDI_RX_ATC_HOURS.acc = .ro := rfl
@[simp] theorem F.SDI_RX_ATC_HOURS_width : F.SDI_RX_ATC_HOURS.width = 5 := rfl
@[simp] theorem F.SDI_RX_ATC_DF_key (n : Nat) : F.SDI_RX_ATC_DF.key n = 167903901 + 2048 * n := Field.key_plain F.SDI_RX_ATC_DF n rfl
@[simp] theorem F.SDI_RX_ATC_DF_acc : F.SDI_RX_ATC_DF.acc = .ro := rfl
@[simp] theorem F.SDI_RX_ATC_DF_width : F.SDI_RX_ATC_DF.width = 1 := rfl
@[simp] theorem F.SDI_RX_ATC_VITC_key (n : Nat) : F.SDI_RX_ATC_VITC.key n = 167903902 + 2048 * n := Field.key_plain F.SDI_RX_ATC_VITC n rfl
@[simp] theorem F.SDI_RX_ATC_VITC_acc : F.SDI_RX_ATC_VITC.acc = .ro := rfl
@[simp] theorem F.SDI_RX_ATC_VITC_width : F.SDI_RX_ATC_VITC.width = 1 := rfl
@[simp] theorem F.SDI_RX_CRC_CNT_COUNT_key (n : Nat) : F.SDI_RX_CRC_CNT_COUNT.key n = 167904000 + 2048 * n := Field.key_plain F.SDI_RX_CRC_CNT_COUNT n rfl
@[simp] theorem F.SDI_RX_CRC_CNT_COUNT_acc : F.SDI_RX_CRC_CNT_COUNT.acc = .rcl := rfl
@[simp] theorem F.SDI_RX_CRC_CNT_COUNT_width : F.SDI_RX_CRC_CNT_COUNT.width = 32 := rfl
@[simp] theorem F.SDI_RX_TRS_CNT_COUNT_key (n : Nat) : F.SDI_RX_TRS_CNT_COUNT.key n = 167904128 + 2048 * n := Field.key_plain F.SDI_RX_TRS_CNT_COUNT n rfl
@[simp] theorem F.SDI_RX_TRS_CNT_COUNT_acc : F.SDI_RX_TRS_CNT_COUNT.acc = .rcl := rfl
@[simp] theorem F.SDI_RX_TRS_CNT_COUNT_width : F.SDI_RX_TRS_CNT_COUNT.width = 32 := rfl
@[simp] theorem F.SDI_RX_ANC_CNT_COUNT_key (n : Nat) : F.SDI_RX_ANC_CNT_COUNT.key n = 167904256 + 2048 * n := Field.key_plain F.SDI_RX_ANC_CNT_COUNT n rfl
@[simp] theorem F.SDI_RX_ANC_CNT_COUNT_acc : F.SDI_RX_ANC_CNT_COUNT.acc = .rcl := rfl
@[simp] theorem F.SDI_RX_ANC_CNT_COUNT_width : F.SDI_RX_ANC_CNT_COUNT.width = 32 := rfl
@[simp] theorem F.SDI_RX_SKEW_SKEW_key (n : Nat) : F.SDI_RX_SKEW_SKEW.key n = 167904384 + 2048 * n := Field.key_plain F.SDI_RX_SKEW_SKEW n rfl
@[simp] theorem F.SDI_RX_SKEW_SKEW_acc : F.SDI_RX_SKEW_SKEW.acc = .ro := rfl
@[simp] theorem F.SDI_RX_SKEW_SKEW_width : F.SDI_RX_SKEW_SKEW.width = 16 := rfl
@[simp] theorem F.SDI_RX_ANC_LIST_DID_A_key (n : Nat) : F.SDI_RX_ANC_LIST_DID_A.key n = 167904768 + 2048 * (n / 4) + 128 * (n % 4) := Field.key_rows F.SDI_RX_ANC_LIST_DID_A n
@[simp] theorem F.SDI_RX_ANC_LIST_DID_A_acc : F.SDI_RX_ANC_LIST_DID_A.acc = .rw := rfl
@[simp] theorem F.SDI_RX_ANC_LIST_DID_A_width : F.SDI_RX_ANC_LIST_DID_A.width = 8 := rfl
@[simp] theorem F.SDI_RX_ANC_LIST_SDID_A_key (n : Nat) : F.SDI_RX_ANC_LIST_SDID_A.key n = 167904776 + 2048 * (n / 4) + 128 * (n % 4) := Field.key_rows F.SDI_RX_ANC_LIST_SDID_A n
@[simp] theorem F.SDI_RX_ANC_LIST_SDID_A_acc : F.SDI_RX_ANC_LIST_SDID_A.acc = .rw := rfl
@[simp] theorem F.SDI_RX_ANC_LIST_SDID_A_width : F.SDI_RX_ANC_LIST_SDID_A.width = 8 := rfl
@[simp] theorem F.SDI_RX_ANC_LIST_DID_B_key (n : Nat) : F.SDI_RX_ANC_LIST_DID_B.key n = 167904784 + 2048 * (n / 4) + 128 * (n % 4) := Field.key_rows F.SDI_RX_ANC_LIST_DID_B n
@[simp] theorem F.SDI_RX_ANC_LIST_DID_B_acc : F.SDI_RX_ANC_LIST_DID_B.acc = .rw := rfl
@[simp] theorem F.SDI_RX_ANC_LIST_DID_B_width : F.SDI_RX_ANC_LIST_DID_B.width = 8 := rfl
@[simp] theorem F.SDI_RX_ANC_LIST_SDID_B_key (n : Nat) : F.SDI_RX_ANC_LIST_SDID_B.key n = 167904792 + 2048 * (n / 4) + 128 * (n % 4) := Field.key_rows F.SDI_RX_ANC_LIST_SDID_B n
@[simp] theorem F.SDI_RX_ANC_LIST_SDID_B_acc : F.SDI_RX_ANC_LIST_SDID_B.acc = .rw := rfl
@[simp] theorem F.SDI_RX_ANC_LIST_SDID_B_width : F.SDI_RX_ANC_LIST_SDID_B.width = 8 := rfl
@[simp] theorem F.CREW_CFG_SYNTH_key (n : Nat) : F.CREW_CFG_SYNTH.key n = 201334784 + 128 * n := Field.key_plain F.CREW_CFG_SYNTH n rfl
@[simp] theorem F.CREW_CFG_SYNTH_acc : F.CREW_CFG_SYNTH.acc = .rw := rfl
@[simp] theorem F.CREW_CFG_SYNTH_width : F.CREW_CFG_SYNTH.width = 2 := rfl
@[simp] theorem F.CREW_CFG_TL_key (n : Nat) : F.CREW_CFG_TL.key n = 201334786 + 128 * n := Field.key_plain F.CREW_CFG_TL n rfl
@[simp] theorem F.CREW_CFG_TL_acc : F.CREW_CFG_TL.acc = .rw := rfl
@[simp] theorem F.CREW_CFG_TL_width : F.CREW_CFG_TL.width = 1 := rfl
@[simp] theorem F.SDI_TX_CFG_EN_key (n : Nat) : F.SDI_TX_CFG_EN.key n = 201457664 + 2048 * n := Field.key_plain F.SDI_TX_CFG_EN n rfl
@[simp] theorem F.SDI_TX_CFG_EN_acc : F.SDI_TX_CFG_EN.acc = .rw := rfl
@[simp] theorem F.SDI_TX_CFG_EN_width : F.SDI_TX_CFG_EN.width = 1 := rfl
@[simp] theorem F.SDI_TX_CFG_FORMAT_key (n : Nat) : F.SDI_TX_CFG_FORMAT.key n = 201457665 + 2048 * n := Field.key_plain F.SDI_TX_CFG_FORMAT n rfl
@[simp] theorem F.SDI_TX_CFG_FORMAT_acc : F.SDI_TX_CFG_FORMAT.acc = .rw := rfl
@[simp] theorem F.SDI_TX_CFG_FORMAT_width : F.SDI_TX_CFG_FORMAT.width = 5 := rfl
@[simp] theorem F.SDI_TX_CFG_QUAD_key (n : Nat) : F.SDI_TX_CFG_QUAD.key n = 201457670 + 2048 * n := Field.key_plain F.SDI_TX_CFG_QUAD n rfl
@[simp] theorem F.SDI_TX_CFG_QUAD_acc : F.SDI_TX_CFG_QUAD.acc = .rw := rfl
@[simp] theorem F.SDI_TX_CFG_QUAD_width : F.SDI_TX_CFG_QUAD.width = 1 := rfl
@[simp] theorem F.SDI_TX_CFG_NOSRC_key (n : Nat) : F.SDI_TX_CFG_NOSRC.key n = 201457671 + 2048 * n := Field.key_plain F.SDI_TX_CFG_NOSRC n rfl
@[simp] theorem F.SDI_TX_CFG_NOSRC_acc : F.SDI_TX_CFG_NOSRC.acc = .rw := rfl
@[simp] theorem F.SDI_TX_CFG_NOSRC_width : F.SDI_TX_CFG_NOSRC.width = 2 := rfl
@[simp] theorem F.SDI_TX_CFG_PID_EN_key (n : Nat) : F.SDI_TX_CFG_PID_EN.key n = 201457673 + 2048 * n := Field.key_plain F.SDI_TX_CFG_PID_EN n rfl
@[simp] theorem F.SDI_TX_CFG_PID_EN_acc : F.SDI_TX_CFG_PID_EN.acc = .rw := rfl
@[simp] theorem F.SDI_TX_CFG_PID_EN_width : F.SDI_TX_CFG_PID_EN.width = 1 := rfl
@[simp] theorem F.SDI_TX_CFG_OSTAMP_EN_key (n : Nat) : F.SDI_TX_CFG_OSTAMP_EN.key n = 201457674 + 2048 * n := Field.key_plain F.SDI_TX_CFG_OSTAMP_EN n rfl
@[simp] theorem F.SDI_TX_CFG_OSTAMP_EN_acc : F.SDI_TX_CFG_OSTAMP_EN.acc = .rw := rfl
@[simp] theorem F.SDI_TX_CFG_OSTAMP_EN_width : F.SDI_TX_CFG_OSTAMP_EN.width = 1 := rfl
@[simp] theorem F.SDI_TX_CFG_EMB_EN_key (n : Nat) : F.SDI_TX_CFG_EMB_EN.key n = 201457675 + 2048 * n := Field.key_plain F.SDI_TX_CFG_EMB_EN n rfl
@[simp] theorem F.SDI_TX_CFG_EMB_EN_acc : F.SDI_TX_CFG_EMB_EN.acc = .rw := rfl
@[simp] theorem F.SDI_TX_CFG_EMB_EN_width : F.SDI_TX_CFG_EMB_EN.width = 1 := rfl
@[simp] theorem F.SDI_TX_CFG_EDH_EN_key (n : Nat) : F.SDI_TX_CFG_EDH_EN.key n = 201457676 + 2048 * n := Field.key_plain F.SDI_TX_CFG_EDH_EN n rfl
@[simp] theorem F.SDI_TX_CFG_EDH_EN_acc : F.SDI_TX_CFG_EDH_EN.acc = .rw := rfl
@[simp] theorem F.SDI_TX_CFG_EDH_EN_width : F.SDI_TX_CFG_EDH_EN.width = 1 := rfl
@[simp] theorem F.SDI_TX_CFG_LEVEL_B_key (n : Nat) : F.SDI_TX_CFG_LEVEL_B.key n = 201457677 + 2048 * n := Field.key_plain F.SDI_TX_CFG_LEVEL_B n rfl
@[simp] theorem F.SDI_TX_CFG_LEVEL_B_acc : F.SDI_TX_CFG_LEVEL_B.acc = .rw := rfl
@[simp] theorem F.SDI_TX_CFG_LEVEL_B_width : F.SDI_TX_CFG_LEVEL_B.width = 1 := rfl
@[simp] theorem F.SDI_TX_CFG_PID_OVR_EN_key (n : Nat) : F.SDI_TX_CFG_PID_OVR_EN.key n = 201457678 + 2048 * n := Field.key_plain F.SDI_TX_CFG_PID_OVR_EN n rfl
@[simp] theorem F.SDI_TX_CFG_PID_OVR_EN_acc : F.SDI_TX_CFG_PID_OVR_EN.acc = .rw := rfl
@[simp] theorem F.SDI_TX_CFG_PID_OVR_EN_width : F.SDI_TX_CFG_PID_OVR_EN.width = 1 := rfl
@[simp] theorem F.SDI_TX_CFG_DIV_2SI_key (n : Nat) : F.SDI_TX_CFG_DIV_2SI.key n = 201457679 + 2048 * n := Field.key_plain F.SDI_TX_CFG_DIV_2SI n rfl
@[simp] theorem F.SDI_TX_CFG_DIV_2SI_acc : F.SDI_TX_CFG_DIV_2SI.acc = .rw := rfl
@[simp] theorem F.SDI_TX_CFG_DIV_2SI_width : F.SDI_TX_CFG_DIV_2SI.width = 1 := rfl
@[simp] theorem F.SDI_TX_OFS_TX_OFS_key (n : Nat) : F.SDI_TX_OFS_TX_OFS.key n = 201457792 + 2048 * n := Field.key_plain F.SDI_TX_OFS_TX_OFS n rfl
@[simp] theorem F.SDI_TX_OFS_TX_OFS_acc : F.SDI_TX_OFS_TX_OFS.acc = .rw := rfl
@[simp] theorem F.SDI_TX_OFS_TX_OFS_width : F.SDI_TX_OFS_TX_OFS.width = 16 := rfl
@[simp] theorem F.SDI_TX_OFS_PID_OVR_key (n : Nat) : F.SDI_TX_OFS_PID_OVR.key n = 201457808 + 2048 * n := Field.key_plain F.SDI_TX_OFS_PID_OVR n rfl
@[simp] theorem F.SDI_TX_OFS_PID_OVR_acc : F.SDI_TX_OFS_PID_OVR.acc = .rw := rfl
@[simp] theorem F.SDI_TX_OFS_PID_OVR_width : F.SDI_TX_OFS_PID_OVR.width = 16 := rfl
@[simp] theorem F.SDI_TX_NOSRC_Y_key (n : Nat) : F.SDI_TX_NOSRC_Y.key n = 201457920 + 2048 * n := Field.key_plain F.SDI_TX_NOSRC_Y n rfl
@[simp] theorem F.SDI_TX_NOSRC_Y_acc : F.SDI_TX_NOSRC_Y.acc = .rw := rfl
@[simp] theorem F.SDI_TX_NOSRC_Y_width : F.SDI_TX_NOSRC_Y.width = 10 := rfl
@[simp] theorem F.SDI_TX_NOSRC_CB_key (n : Nat) : F.SDI_TX_NOSRC_CB.key n = 201457930 + 2048 * n := Field.key_plain F.SDI_TX_NOSRC_CB n rfl
@[simp] theorem F.SDI_TX_NOSRC_CB_acc : F.SDI_TX_NOSRC_CB.acc = .rw := rfl
@[simp] theorem F.SDI_TX_NOSRC_CB_width : F.SDI_TX_NOSRC_CB.width = 10 := rfl
@[simp] theorem F.SDI_TX_NOSRC_CR_key (n : Nat) : F.SDI_TX_NOSRC_CR.key n = 201457940 + 2048 * n := Field.key_plain F.SDI_TX_NOSRC_CR n rfl
@[simp] theorem F.SDI_TX_NOSRC_CR_acc : F.SDI_TX_NOSRC_CR.acc = .rw := rfl
@[simp] theorem F.SDI_TX_NOSRC_CR_width : F.SDI_TX_NOSRC_CR.width = 10 := rfl
@[simp] theorem F.SDI_TX_STATUS_STATE_key (n : Nat) : F.SDI_TX_STATUS_STATE.key n = 201458048 + 2048 * n := Field.key_plain F.SDI_TX_STATUS_STATE n rfl
@[simp] theorem F.SDI_TX_STATUS_STATE_acc : F.SDI_TX_STATUS_STATE.acc = .ro := rfl
@[simp] theorem F.SDI_TX_STATUS_STATE_width : F.SDI_TX_STATUS_STATE.width = 2 := rfl
@[simp] theorem F.SDI_TX_STATUS_UNALIGNED_key (n : Nat) : F.SDI_TX_STATUS_UNALIGNED.key n = 201458050 + 2048 * n := Field.key_plain F.SDI_TX_STATUS_UNALIGNED n rfl
@[simp] theorem F.SDI_TX_STATUS_UNALIGNED_acc : F.SDI_TX_STATUS_UNALIGNED.acc = .ro := rfl
@[simp] theorem F.SDI_TX_STATUS_UNALIGNED_width : F.SDI_TX_STATUS_UNALIGNED.width = 1 := rfl
@[simp] theorem F.SDI_TX_HIST_STARTED_key (n : Nat) : F.SDI_TX_HIST_STARTED.key n = 201458176 + 2048 * n := Field.key_plain F.SDI_TX_HIST_STARTED n rfl
@[simp] theorem F.SDI_TX_HIST_STARTED_acc : F.SDI_TX_HIST_STARTED.acc = .w1c := rfl
@[simp] theorem F.SDI_TX_HIST_STARTED_width : F.SDI_TX_HIST_STARTED.width = 1 := rfl
@[simp] theorem F.SDI_TX_HIST_STOPPED_key (n : Nat) : F.SDI_TX_HIST_STOPPED.key n = 201458177 + 2048 * n := Field.key_plain F.SDI_TX_HIST_STOPPED n rfl
@[simp] theorem F.SDI_TX_HIST_STOPPED_acc : F.SDI_TX_HIST_STOPPED.acc = .w1c := rfl
@[simp] theorem F.SDI_TX_HIST_STOPPED_width : F.SDI_TX_HIST_STOPPED.width = 1 := rfl
@[simp] theorem F.SDI_TX_HIST_UNALIGNED_key (n : Nat) : F.SDI_TX_HIST_UNALIGNED.key n = 201458178 + 2048 * n := Field.key_plain F.SDI_TX_HIST_UNALIGNED n rfl
@[simp] theorem F.SDI_TX_HIST_UNALIGNED_acc : F.SDI_TX_HIST_UNALIGNED.acc = .w1c := rfl
@[simp] theorem F.SDI_TX_HIST_UNALIGNED_width : F.SDI_TX_HIST_UNALIGNED.width = 1 := rfl
@[simp] theorem F.SDI_TX_HIST_NOSRC_ENTERED_key (n : Nat) : F.SDI_TX_HIST_NOSRC_ENTERED.key n = 201458179 + 2048 * n := Field.key_plain F.SDI_TX_HIST_NOSRC_ENTERED n rfl
@[simp] theorem F.SDI_TX_HIST_NOSRC_ENTERED_acc : F.SDI_TX_HIST_NOSRC_ENTERED.acc = .w1c := rfl
@[simp] theorem F.SDI_TX_HIST_NOSRC_ENTERED_width : F.SDI_TX_HIST_NOSRC_ENTERED.width = 1 := rfl
@[simp] theorem F.SDI_TX_HIST_LINE_SUBST_key (n : Nat) : F.SDI_TX_HIST_LINE_SUBST.key n = 201458180 + 2048 * n := Field.key_plain F.SDI_TX_HIST_LINE_SUBST n rfl
@[simp] theorem F.SDI_TX_HIST_LINE_SUBST_acc : F.SDI_TX_HIST_LINE_SUBST.acc = .w1c := rfl
@[simp] theorem F.SDI_TX_HIST_LINE_SUBST_width : F.SDI_TX_HIST_LINE_SUBST.width = 1 := rfl
@[simp] theorem F.SDI_TX_HIST_CFG_REJECTED_key (n : Nat) : F.SDI_TX_HIST_CFG_REJECTED.key n = 201458181 + 2048 * n := Field.key_plain F.SDI_TX_HIST_CFG_REJECTED n rfl
@[simp] theorem F.SDI_TX_HIST_CFG_REJECTED_acc : F.SDI_TX_HIST_CFG_REJECTED.acc = .w1c := rfl
@[simp] theorem F.SDI_TX_HIST_CFG_REJECTED_width : F.SDI_TX_HIST_CFG_REJECTED.width = 1 := rfl
@[simp] theorem F.SDI_TX_IRQ_EN_EN_key (n : Nat) : F.SDI_TX_IRQ_EN_EN.key n = 201458304 + 2048 * n := Field.key_plain F.SDI_TX_IRQ_EN_EN n rfl
@[simp] theorem F.SDI_TX_IRQ_EN_EN_acc : F.SDI_TX_IRQ_EN_EN.acc = .rw := rfl
@[simp] theorem F.SDI_TX_IRQ_EN_EN_width : F.SDI_TX_IRQ_EN_EN.width = 6 := rfl
@[simp] theorem F.SDI_TX_SUBST_CNT_COUNT_key (n : Nat) : F.SDI_TX_SUBST_CNT_COUNT.key n = 201458432 + 2048 * n := Field.key_plain F.SDI_TX_SUBST_CNT_COUNT n rfl
@[simp] theorem F.SDI_TX_SUBST_CNT_COUNT_acc : F.SDI_TX_SUBST_CNT_COUNT.acc = .rcl := rfl
@[simp] theorem F.SDI_TX_SUBST_CNT_COUNT_width : F.SDI_TX_SUBST_CNT_COUNT.width = 32 := rfl
@[simp] theorem F.ETH_CFG_EN_key (n : Nat) : F.ETH_CFG_EN.key n = 235012096 + 32768 * n := Field.key_plain F.ETH_CFG_EN n rfl
@[simp] theorem F.ETH_CFG_EN_acc : F.ETH_CFG_EN.acc = .rw := rfl
@[simp] theorem F.ETH_CFG_EN_width : F.ETH_CFG_EN.width = 1 := rfl
@[simp] theorem F.ETH_CFG_RATE_key (n : Nat) : F.ETH_CFG_RATE.key n = 235012097 + 32768 * n := Field.key_plain F.ETH_CFG_RATE n rfl
@[simp] theorem F.ETH_CFG_RATE_acc : F.ETH_CFG_RATE.acc = .rw := rfl
@[simp] theorem F.ETH_CFG_RATE_width : F.ETH_CFG_RATE.width = 2 := rfl
@[simp] theorem F.ETH_CFG_FEC_key (n : Nat) : F.ETH_CFG_FEC.key n = 235012099 + 32768 * n := Field.key_plain F.ETH_CFG_FEC n rfl
@[simp] theorem F.ETH_CFG_FEC_acc : F.ETH_CFG_FEC.acc = .rw := rfl
@[simp] theorem F.ETH_CFG_FEC_width : F.ETH_CFG_FEC.width = 2 := rfl
@[simp] theorem F.ETH_CFG_BAD_TO_FW_key (n : Nat) : F.ETH_CFG_BAD_TO_FW.key n = 235012101 + 32768 * n := Field.key_plain F.ETH_CFG_BAD_TO_FW n rfl
@[simp] theorem F.ETH_CFG_BAD_TO_FW_acc : F.ETH_CFG_BAD_TO_FW.acc = .rw := rfl
@[simp] theorem F.ETH_CFG_BAD_TO_FW_width : F.ETH_CFG_BAD_TO_FW.width = 1 := rfl
@[simp] theorem F.ETH_CFG_BCAST_EN_key (n : Nat) : F.ETH_CFG_BCAST_EN.key n = 235012102 + 32768 * n := Field.key_plain F.ETH_CFG_BCAST_EN n rfl
@[simp] theorem F.ETH_CFG_BCAST_EN_acc : F.ETH_CFG_BCAST_EN.acc = .rw := rfl
@[simp] theorem F.ETH_CFG_BCAST_EN_width : F.ETH_CFG_BCAST_EN.width = 1 := rfl
@[simp] theorem F.ETH_CFG_MAX_FRAME_key (n : Nat) : F.ETH_CFG_MAX_FRAME.key n = 235012106 + 32768 * n := Field.key_plain F.ETH_CFG_MAX_FRAME n rfl
@[simp] theorem F.ETH_CFG_MAX_FRAME_acc : F.ETH_CFG_MAX_FRAME.acc = .rw := rfl
@[simp] theorem F.ETH_CFG_MAX_FRAME_width : F.ETH_CFG_MAX_FRAME.width = 14 := rfl
@[simp] theorem F.ETH_STATUS_LINK_UP_key (n : Nat) : F.ETH_STATUS_LINK_UP.key n = 235012224 + 32768 * n := Field.key_plain F.ETH_STATUS_LINK_UP n rfl
@[simp] theorem F.ETH_STATUS_LINK_UP_acc : F.ETH_STATUS_LINK_UP.acc = .ro := rfl
@[simp] theorem F.ETH_STATUS_LINK_UP_width : F.ETH_STATUS_LINK_UP.width = 1 := rfl
@[simp] theorem F.ETH_STATUS_FEC_LOCK_key (n : Nat) : F.ETH_STATUS_FEC_LOCK.key n = 235012225 + 32768 * n := Field.key_plain F.ETH_STATUS_FEC_LOCK n rfl
@[simp] theorem F.ETH_STATUS_FEC_LOCK_acc : F.ETH_STATUS_FEC_LOCK.acc = .ro := rfl
@[simp] theorem F.ETH_STATUS_FEC_LOCK_width : F.ETH_STATUS_FEC_LOCK.width = 1 := rfl
@[simp] theorem F.ETH_HIST_LINK_GAINED_key (n : Nat) : F.ETH_HIST_LINK_GAINED.key n = 235012352 + 32768 * n := Field.key_plain F.ETH_HIST_LINK_GAINED n rfl
@[simp] theorem F.ETH_HIST_LINK_GAINED_acc : F.ETH_HIST_LINK_GAINED.acc = .w1c := rfl
@[simp] theorem F.ETH_HIST_LINK_GAINED_width : F.ETH_HIST_LINK_GAINED.width = 1 := rfl
@[simp] theorem F.ETH_HIST_LINK_LOST_key (n : Nat) : F.ETH_HIST_LINK_LOST.key n = 235012353 + 32768 * n := Field.key_plain F.ETH_HIST_LINK_LOST n rfl
@[simp] theorem F.ETH_HIST_LINK_LOST_acc : F.ETH_HIST_LINK_LOST.acc = .w1c := rfl
@[simp] theorem F.ETH_HIST_LINK_LOST_width : F.ETH_HIST_LINK_LOST.width = 1 := rfl
@[simp] theorem F.ETH_HIST_RX_OVF_key (n : Nat) : F.ETH_HIST_RX_OVF.key n = 235012354 + 32768 * n := Field.key_plain F.ETH_HIST_RX_OVF n rfl
@[simp] theorem F.ETH_HIST_RX_OVF_acc : F.ETH_HIST_RX_OVF.acc = .w1c := rfl
@[simp] theorem F.ETH_HIST_RX_OVF_width : F.ETH_HIST_RX_OVF.width = 1 := rfl
@[simp] theorem F.ETH_HIST_CAPQ_FULL_key (n : Nat) : F.ETH_HIST_CAPQ_FULL.key n = 235012355 + 32768 * n := Field.key_plain F.ETH_HIST_CAPQ_FULL n rfl
@[simp] theorem F.ETH_HIST_CAPQ_FULL_acc : F.ETH_HIST_CAPQ_FULL.acc = .w1c := rfl
@[simp] theorem F.ETH_HIST_CAPQ_FULL_width : F.ETH_HIST_CAPQ_FULL.width = 1 := rfl
@[simp] theorem F.ETH_HIST_FEC_UNCORR_key (n : Nat) : F.ETH_HIST_FEC_UNCORR.key n = 235012356 + 32768 * n := Field.key_plain F.ETH_HIST_FEC_UNCORR n rfl
@[simp] theorem F.ETH_HIST_FEC_UNCORR_acc : F.ETH_HIST_FEC_UNCORR.acc = .w1c := rfl
@[simp] theorem F.ETH_HIST_FEC_UNCORR_width : F.ETH_HIST_FEC_UNCORR.width = 1 := rfl
@[simp] theorem F.ETH_HIST_CFG_REJECTED_key (n : Nat) : F.ETH_HIST_CFG_REJECTED.key n = 235012357 + 32768 * n := Field.key_plain F.ETH_HIST_CFG_REJECTED n rfl
@[simp] theorem F.ETH_HIST_CFG_REJECTED_acc : F.ETH_HIST_CFG_REJECTED.acc = .w1c := rfl
@[simp] theorem F.ETH_HIST_CFG_REJECTED_width : F.ETH_HIST_CFG_REJECTED.width = 1 := rfl
@[simp] theorem F.ETH_IRQ_EN_EN_key (n : Nat) : F.ETH_IRQ_EN_EN.key n = 235012480 + 32768 * n := Field.key_plain F.ETH_IRQ_EN_EN n rfl
@[simp] theorem F.ETH_IRQ_EN_EN_acc : F.ETH_IRQ_EN_EN.acc = .rw := rfl
@[simp] theorem F.ETH_IRQ_EN_EN_width : F.ETH_IRQ_EN_EN.width = 6 := rfl
@[simp] theorem F.ETH_MAC_LO_MAC_key (n : Nat) : F.ETH_MAC_LO_MAC.key n = 235012608 + 32768 * n := Field.key_plain F.ETH_MAC_LO_MAC n rfl
@[simp] theorem F.ETH_MAC_LO_MAC_acc : F.ETH_MAC_LO_MAC.acc = .rw := rfl
@[simp] theorem F.ETH_MAC_LO_MAC_width : F.ETH_MAC_LO_MAC.width = 32 := rfl
@[simp] theorem F.ETH_MAC_HI_MAC_key (n : Nat) : F.ETH_MAC_HI_MAC.key n = 235012736 + 32768 * n := Field.key_plain F.ETH_MAC_HI_MAC n rfl
@[simp] theorem F.ETH_MAC_HI_MAC_acc : F.ETH_MAC_HI_MAC.acc = .rw := rfl
@[simp] theorem F.ETH_MAC_HI_MAC_width : F.ETH_MAC_HI_MAC.width = 16 := rfl
@[simp] theorem F.ETH_CNT_LO_CNT_key (n : Nat) : F.ETH_CNT_LO_CNT.key n = 235014144 + 32768 * (n / 15) + 256 * (n % 15) := Field.key_rows F.ETH_CNT_LO_CNT n
@[simp] theorem F.ETH_CNT_LO_CNT_acc : F.ETH_CNT_LO_CNT.acc = .rcl := rfl
@[simp] theorem F.ETH_CNT_LO_CNT_width : F.ETH_CNT_LO_CNT.width = 32 := rfl
@[simp] theorem F.ETH_CNT_HI_CNT_key (n : Nat) : F.ETH_CNT_HI_CNT.key n = 235014272 + 32768 * (n / 15) + 256 * (n % 15) := Field.key_rows F.ETH_CNT_HI_CNT n
@[simp] theorem F.ETH_CNT_HI_CNT_acc : F.ETH_CNT_HI_CNT.acc = .ro := rfl
@[simp] theorem F.ETH_CNT_HI_CNT_width : F.ETH_CNT_HI_CNT.width = 32 := rfl
@[simp] theorem F.PTP_TX_ID_SEQ_ID_key (n : Nat) : F.PTP_TX_ID_SEQ_ID.key n = 235018240 + 32768 * n := Field.key_plain F.PTP_TX_ID_SEQ_ID n rfl
@[simp] theorem F.PTP_TX_ID_SEQ_ID_acc : F.PTP_TX_ID_SEQ_ID.acc = .ro := rfl
@[simp] theorem F.PTP_TX_ID_SEQ_ID_width : F.PTP_TX_ID_SEQ_ID.width = 16 := rfl
@[simp] theorem F.PTP_TX_ID_MSG_TYPE_key (n : Nat) : F.PTP_TX_ID_MSG_TYPE.key n = 235018256 + 32768 * n := Field.key_plain F.PTP_TX_ID_MSG_TYPE n rfl
@[simp] theorem F.PTP_TX_ID_MSG_TYPE_acc : F.PTP_TX_ID_MSG_TYPE.acc = .ro := rfl
@[simp] theorem F.PTP_TX_ID_MSG_TYPE_width : F.PTP_TX_ID_MSG_TYPE.width = 4 := rfl
@[simp] theorem F.PTP_TX_ID_VALID_key (n : Nat) : F.PTP_TX_ID_VALID.key n = 235018271 + 32768 * n := Field.key_plain F.PTP_TX_ID_VALID n rfl
@[simp] theorem F.PTP_TX_ID_VALID_acc : F.PTP_TX_ID_VALID.acc = .ro := rfl
@[simp] theorem F.PTP_TX_ID_VALID_width : F.PTP_TX_ID_VALID.width = 1 := rfl
@[simp] theorem F.PTP_TX_NS_NS_key (n : Nat) : F.PTP_TX_NS_NS.key n = 235018368 + 32768 * n := Field.key_plain F.PTP_TX_NS_NS n rfl
@[simp] theorem F.PTP_TX_NS_NS_acc : F.PTP_TX_NS_NS.acc = .ro := rfl
@[simp] theorem F.PTP_TX_NS_NS_width : F.PTP_TX_NS_NS.width = 30 := rfl
@[simp] theorem F.PTP_TX_SEC_LO_SEC_key (n : Nat) : F.PTP_TX_SEC_LO_SEC.key n = 235018496 + 32768 * n := Field.key_plain F.PTP_TX_SEC_LO_SEC n rfl
@[simp] theorem F.PTP_TX_SEC_LO_SEC_acc : F.PTP_TX_SEC_LO_SEC.acc = .ro := rfl
@[simp] theorem F.PTP_TX_SEC_LO_SEC_width : F.PTP_TX_SEC_LO_SEC.width = 32 := rfl
@[simp] theorem F.PTP_TX_SEC_HI_SEC_key (n : Nat) : F.PTP_TX_SEC_HI_SEC.key n = 235018624 + 32768 * n := Field.key_plain F.PTP_TX_SEC_HI_SEC n rfl
@[simp] theorem F.PTP_TX_SEC_HI_SEC_acc : F.PTP_TX_SEC_HI_SEC.acc = .ro := rfl
@[simp] theorem F.PTP_TX_SEC_HI_SEC_width : F.PTP_TX_SEC_HI_SEC.width = 16 := rfl
@[simp] theorem F.PTP_TX_SEC_HI_FRAC_key (n : Nat) : F.PTP_TX_SEC_HI_FRAC.key n = 235018640 + 32768 * n := Field.key_plain F.PTP_TX_SEC_HI_FRAC n rfl
@[simp] theorem F.PTP_TX_SEC_HI_FRAC_acc : F.PTP_TX_SEC_HI_FRAC.acc = .ro := rfl
@[simp] theorem F.PTP_TX_SEC_HI_FRAC_width : F.PTP_TX_SEC_HI_FRAC.width = 16 := rfl
@[simp] theorem F.ETH_HASH_BINS_key (n : Nat) : F.ETH_HASH_BINS.key n = 235028480 + 32768 * (n / 128) + 128 * (n % 128) := Field.key_rows F.ETH_HASH_BINS n
@[simp] theorem F.ETH_HASH_BINS_acc : F.ETH_HASH_BINS.acc = .rw := rfl
@[simp] theorem F.ETH_HASH_BINS_width : F.ETH_HASH_BINS.width = 32 := rfl
@[simp] theorem F.IPM_CFG_LEG_TMO_key (n : Nat) : F.IPM_CFG_LEG_TMO.key n = 268443648 := Field.key_one F.IPM_CFG_LEG_TMO n rfl rfl
@[simp] theorem F.IPM_CFG_LEG_TMO_acc : F.IPM_CFG_LEG_TMO.acc = .rw := rfl
@[simp] theorem F.IPM_CFG_LEG_TMO_width : F.IPM_CFG_LEG_TMO.width = 10 := rfl
@[simp] theorem F.IPM_RX_CFG_EN_key (n : Nat) : F.IPM_RX_CFG_EN.key n = 270532608 + 2048 * n := Field.key_plain F.IPM_RX_CFG_EN n rfl
@[simp] theorem F.IPM_RX_CFG_EN_acc : F.IPM_RX_CFG_EN.acc = .rw := rfl
@[simp] theorem F.IPM_RX_CFG_EN_width : F.IPM_RX_CFG_EN.width = 1 := rfl
@[simp] theorem F.IPM_RX_CFG_KIND_key (n : Nat) : F.IPM_RX_CFG_KIND.key n = 270532609 + 2048 * n := Field.key_plain F.IPM_RX_CFG_KIND n rfl
@[simp] theorem F.IPM_RX_CFG_KIND_acc : F.IPM_RX_CFG_KIND.acc = .rw := rfl
@[simp] theorem F.IPM_RX_CFG_KIND_width : F.IPM_RX_CFG_KIND.width = 3 := rfl
@[simp] theorem F.IPM_RX_CFG_PAIR_key (n : Nat) : F.IPM_RX_CFG_PAIR.key n = 270532612 + 2048 * n := Field.key_plain F.IPM_RX_CFG_PAIR n rfl
@[simp] theorem F.IPM_RX_CFG_PAIR_acc : F.IPM_RX_CFG_PAIR.acc = .rw := rfl
@[simp] theorem F.IPM_RX_CFG_PAIR_width : F.IPM_RX_CFG_PAIR.width = 2 := rfl
@[simp] theorem F.IPM_RX_CFG_RED_EN_key (n : Nat) : F.IPM_RX_CFG_RED_EN.key n = 270532614 + 2048 * n := Field.key_plain F.IPM_RX_CFG_RED_EN n rfl
@[simp] theorem F.IPM_RX_CFG_RED_EN_acc : F.IPM_RX_CFG_RED_EN.acc = .rw := rfl
@[simp] theorem F.IPM_RX_CFG_RED_EN_width : F.IPM_RX_CFG_RED_EN.width = 1 := rfl
@[simp] theorem F.IPM_RX_CFG_BLUE_EN_key (n : Nat) : F.IPM_RX_CFG_BLUE_EN.key n = 270532615 + 2048 * n := Field.key_plain F.IPM_RX_CFG_BLUE_EN n rfl
@[simp] theorem F.IPM_RX_CFG_BLUE_EN_acc : F.IPM_RX_CFG_BLUE_EN.acc = .rw := rfl
@[simp] theorem F.IPM_RX_CFG_BLUE_EN_width : F.IPM_RX_CFG_BLUE_EN.width = 1 := rfl
@[simp] theorem F.IPM_RX_CFG_FORMAT_key (n : Nat) : F.IPM_RX_CFG_FORMAT.key n = 270532616 + 2048 * n := Field.key_plain F.IPM_RX_CFG_FORMAT n rfl
@[simp] theorem F.IPM_RX_CFG_FORMAT_acc : F.IPM_RX_CFG_FORMAT.acc = .rw := rfl
@[simp] theorem F.IPM_RX_CFG_FORMAT_width : F.IPM_RX_CFG_FORMAT.width = 5 := rfl
@[simp] theorem F.IPM_RX_CFG_MERGE_WIN_key (n : Nat) : F.IPM_RX_CFG_MERGE_WIN.key n = 270532621 + 2048 * n := Field.key_plain F.IPM_RX_CFG_MERGE_WIN n rfl
@[simp] theorem F.IPM_RX_CFG_MERGE_WIN_acc : F.IPM_RX_CFG_MERGE_WIN.acc = .rw := rfl
@[simp] theorem F.IPM_RX_CFG_MERGE_WIN_width : F.IPM_RX_CFG_MERGE_WIN.width = 6 := rfl
@[simp] theorem F.IPM_RX_STATUS_RED_UP_key (n : Nat) : F.IPM_RX_STATUS_RED_UP.key n = 270532736 + 2048 * n := Field.key_plain F.IPM_RX_STATUS_RED_UP n rfl
@[simp] theorem F.IPM_RX_STATUS_RED_UP_acc : F.IPM_RX_STATUS_RED_UP.acc = .ro := rfl
@[simp] theorem F.IPM_RX_STATUS_RED_UP_width : F.IPM_RX_STATUS_RED_UP.width = 1 := rfl
@[simp] theorem F.IPM_RX_STATUS_BLUE_UP_key (n : Nat) : F.IPM_RX_STATUS_BLUE_UP.key n = 270532737 + 2048 * n := Field.key_plain F.IPM_RX_STATUS_BLUE_UP n rfl
@[simp] theorem F.IPM_RX_STATUS_BLUE_UP_acc : F.IPM_RX_STATUS_BLUE_UP.acc = .ro := rfl
@[simp] theorem F.IPM_RX_STATUS_BLUE_UP_width : F.IPM_RX_STATUS_BLUE_UP.width = 1 := rfl
@[simp] theorem F.IPM_RX_STATUS_STATE_key (n : Nat) : F.IPM_RX_STATUS_STATE.key n = 270532738 + 2048 * n := Field.key_plain F.IPM_RX_STATUS_STATE n rfl
@[simp] theorem F.IPM_RX_STATUS_STATE_acc : F.IPM_RX_STATUS_STATE.acc = .ro := rfl
@[simp] theorem F.IPM_RX_STATUS_STATE_width : F.IPM_RX_STATUS_STATE.width = 2 := rfl
@[simp] theorem F.IPM_RX_HIST_RED_LOST_key (n : Nat) : F.IPM_RX_HIST_RED_LOST.key n = 270532864 + 2048 * n := Field.key_plain F.IPM_RX_HIST_RED_LOST n rfl
@[simp] theorem F.IPM_RX_HIST_RED_LOST_acc : F.IPM_RX_HIST_RED_LOST.acc = .w1c := rfl
@[simp] theorem F.IPM_RX_HIST_RED_LOST_width : F.IPM_RX_HIST_RED_LOST.width = 1 := rfl
@[simp] theorem F.IPM_RX_HIST_BLUE_LOST_key (n : Nat) : F.IPM_RX_HIST_BLUE_LOST.key n = 270532865 + 2048 * n := Field.key_plain F.IPM_RX_HIST_BLUE_LOST n rfl
@[simp] theorem F.IPM_RX_HIST_BLUE_LOST_acc : F.IPM_RX_HIST_BLUE_LOST.acc = .w1c := rfl
@[simp] theorem F.IPM_RX_HIST_BLUE_LOST_width : F.IPM_RX_HIST_BLUE_LOST.width = 1 := rfl
@[simp] theorem F.IPM_RX_HIST_FLOW_LOST_key (n : Nat) : F.IPM_RX_HIST_FLOW_LOST.key n = 270532866 + 2048 * n := Field.key_plain F.IPM_RX_HIST_FLOW_LOST n rfl
@[simp] theorem F.IPM_RX_HIST_FLOW_LOST_acc : F.IPM_RX_HIST_FLOW_LOST.acc = .w1c := rfl
@[simp] theorem F.IPM_RX_HIST_FLOW_LOST_width : F.IPM_RX_HIST_FLOW_LOST.width = 1 := rfl
@[simp] theorem F.IPM_RX_HIST_LATE_PKT_key (n : Nat) : F.IPM_RX_HIST_LATE_PKT.key n = 270532867 + 2048 * n := Field.key_plain F.IPM_RX_HIST_LATE_PKT n rfl
@[simp] theorem F.IPM_RX_HIST_LATE_PKT_acc : F.IPM_RX_HIST_LATE_PKT.acc = .w1c := rfl
@[simp] theorem F.IPM_RX_HIST_LATE_PKT_width : F.IPM_RX_HIST_LATE_PKT.width = 1 := rfl
@[simp] theorem F.IPM_RX_HIST_INCOMPLETE_key (n : Nat) : F.IPM_RX_HIST_INCOMPLETE.key n = 270532868 + 2048 * n := Field.key_plain F.IPM_RX_HIST_INCOMPLETE n rfl
@[simp] theorem F.IPM_RX_HIST_INCOMPLETE_acc : F.IPM_RX_HIST_INCOMPLETE.acc = .w1c := rfl
@[simp] theorem F.IPM_RX_HIST_INCOMPLETE_width : F.IPM_RX_HIST_INCOMPLETE.width = 1 := rfl
@[simp] theorem F.IPM_RX_HIST_FMT_ERR_key (n : Nat) : F.IPM_RX_HIST_FMT_ERR.key n = 270532869 + 2048 * n := Field.key_plain F.IPM_RX_HIST_FMT_ERR n rfl
@[simp] theorem F.IPM_RX_HIST_FMT_ERR_acc : F.IPM_RX_HIST_FMT_ERR.acc = .w1c := rfl
@[simp] theorem F.IPM_RX_HIST_FMT_ERR_width : F.IPM_RX_HIST_FMT_ERR.width = 1 := rfl
@[simp] theorem F.IPM_RX_HIST_CFG_REJECTED_key (n : Nat) : F.IPM_RX_HIST_CFG_REJECTED.key n = 270532870 + 2048 * n := Field.key_plain F.IPM_RX_HIST_CFG_REJECTED n rfl
@[simp] theorem F.IPM_RX_HIST_CFG_REJECTED_acc : F.IPM_RX_HIST_CFG_REJECTED.acc = .w1c := rfl
@[simp] theorem F.IPM_RX_HIST_CFG_REJECTED_width : F.IPM_RX_HIST_CFG_REJECTED.width = 1 := rfl
@[simp] theorem F.IPM_RX_IRQ_EN_EN_key (n : Nat) : F.IPM_RX_IRQ_EN_EN.key n = 270532992 + 2048 * n := Field.key_plain F.IPM_RX_IRQ_EN_EN n rfl
@[simp] theorem F.IPM_RX_IRQ_EN_EN_acc : F.IPM_RX_IRQ_EN_EN.acc = .rw := rfl
@[simp] theorem F.IPM_RX_IRQ_EN_EN_width : F.IPM_RX_IRQ_EN_EN.width = 7 := rfl
@[simp] theorem F.IPM_RX_PKT_CNT_COUNT_key (n : Nat) : F.IPM_RX_PKT_CNT_COUNT.key n = 270533120 + 2048 * n := Field.key_plain F.IPM_RX_PKT_CNT_COUNT n rfl
@[simp] theorem F.IPM_RX_PKT_CNT_COUNT_acc : F.IPM_RX_PKT_CNT_COUNT.acc = .rcl := rfl
@[simp] theorem F.IPM_RX_PKT_CNT_COUNT_width : F.IPM_RX_PKT_CNT_COUNT.width = 32 := rfl
@[simp] theorem F.IPM_RX_DUP_CNT_COUNT_key (n : Nat) : F.IPM_RX_DUP_CNT_COUNT.key n = 270533248 + 2048 * n := Field.key_plain F.IPM_RX_DUP_CNT_COUNT n rfl
@[simp] theorem F.IPM_RX_DUP_CNT_COUNT_acc : F.IPM_RX_DUP_CNT_COUNT.acc = .rcl := rfl
@[simp] theorem F.IPM_RX_DUP_CNT_COUNT_width : F.IPM_RX_DUP_CNT_COUNT.width = 32 := rfl
@[simp] theorem F.IPM_RX_LATE_CNT_COUNT_key (n : Nat) : F.IPM_RX_LATE_CNT_COUNT.key n = 270533376 + 2048 * n := Field.key_plain F.IPM_RX_LATE_CNT_COUNT n rfl
@[simp] theorem F.IPM_RX_LATE_CNT_COUNT_acc : F.IPM_RX_LATE_CNT_COUNT.acc = .rcl := rfl
@[simp] theorem F.IPM_RX_LATE_CNT_COUNT_width : F.IPM_RX_LATE_CNT_COUNT.width = 32 := rfl
@[simp] theorem F.IPM_RX_LOST_CNT_COUNT_key (n : Nat) : F.IPM_RX_LOST_CNT_COUNT.key n = 270533504 + 2048 * n := Field.key_plain F.IPM_RX_LOST_CNT_COUNT n rfl
@[simp] theorem F.IPM_RX_LOST_CNT_COUNT_acc : F.IPM_RX_LOST_CNT_COUNT.acc = .rcl := rfl
@[simp] theorem F.IPM_RX_LOST_CNT_COUNT_width : F.IPM_RX_LOST_CNT_COUNT.width = 32 := rfl
@[simp] theorem F.IPM_RX_FMT_CNT_COUNT_key (n : Nat) : F.IPM_RX_FMT_CNT_COUNT.key n = 270533632 + 2048 * n := Field.key_plain F.IPM_RX_FMT_CNT_COUNT n rfl
@[simp] theorem F.IPM_RX_FMT_CNT_COUNT_acc : F.IPM_RX_FMT_CNT_COUNT.acc = .rcl := rfl
@[simp] theorem F.IPM_RX_FMT_CNT_COUNT_width : F.IPM_RX_FMT_CNT_COUNT.width = 32 := rfl
@[simp] theorem F.IPM_RX_TS_TS_key (n : Nat) : F.IPM_RX_TS_TS.key n = 270533760 + 2048 * n := Field.key_plain F.IPM_RX_TS_TS n rfl
@[simp] theorem F.IPM_RX_TS_TS_acc : F.IPM_RX_TS_TS.acc = .ro := rfl
@[simp] theorem F.IPM_RX_TS_TS_width : F.IPM_RX_TS_TS.width = 32 := rfl
@[simp] theorem F.IPM_RX_SKEW_SKEW_key (n : Nat) : F.IPM_RX_SKEW_SKEW.key n = 270533888 + 2048 * n := Field.key_plain F.IPM_RX_SKEW_SKEW n rfl
@[simp] theorem F.IPM_RX_SKEW_SKEW_acc : F.IPM_RX_SKEW_SKEW.acc = .ro := rfl
@[simp] theorem F.IPM_RX_SKEW_SKEW_width : F.IPM_RX_SKEW_SKEW.width = 32 := rfl
@[simp] theorem F.IPM_TX_CFG_EN_key (n : Nat) : F.IPM_TX_CFG_EN.key n = 272629760 + 2048 * n := Field.key_plain F.IPM_TX_CFG_EN n rfl
@[simp] theorem F.IPM_TX_CFG_EN_acc : F.IPM_TX_CFG_EN.acc = .rw := rfl
@[simp] theorem F.IPM_TX_CFG_EN_width : F.IPM_TX_CFG_EN.width = 1 := rfl
@[simp] theorem F.IPM_TX_CFG_KIND_key (n : Nat) : F.IPM_TX_CFG_KIND.key n = 272629761 + 2048 * n := Field.key_plain F.IPM_TX_CFG_KIND n rfl
@[simp] theorem F.IPM_TX_CFG_KIND_acc : F.IPM_TX_CFG_KIND.acc = .rw := rfl
@[simp] theorem F.IPM_TX_CFG_KIND_width : F.IPM_TX_CFG_KIND.width = 3 := rfl
@[simp] theorem F.IPM_TX_CFG_PAIR_key (n : Nat) : F.IPM_TX_CFG_PAIR.key n = 272629764 + 2048 * n := Field.key_plain F.IPM_TX_CFG_PAIR n rfl
@[simp] theorem F.IPM_TX_CFG_PAIR_acc : F.IPM_TX_CFG_PAIR.acc = .rw := rfl
@[simp] theorem F.IPM_TX_CFG_PAIR_width : F.IPM_TX_CFG_PAIR.width = 2 := rfl
@[simp] theorem F.IPM_TX_CFG_LEGS_key (n : Nat) : F.IPM_TX_CFG_LEGS.key n = 272629766 + 2048 * n := Field.key_plain F.IPM_TX_CFG_LEGS n rfl
@[simp] theorem F.IPM_TX_CFG_LEGS_acc : F.IPM_TX_CFG_LEGS.acc = .rw := rfl
@[simp] theorem F.IPM_TX_CFG_LEGS_width : F.IPM_TX_CFG_LEGS.width = 1 := rfl
@[simp] theorem F.IPM_TX_CFG_SENDER_key (n : Nat) : F.IPM_TX_CFG_SENDER.key n = 272629767 + 2048 * n := Field.key_plain F.IPM_TX_CFG_SENDER n rfl
@[simp] theorem F.IPM_TX_CFG_SENDER_acc : F.IPM_TX_CFG_SENDER.acc = .rw := rfl
@[simp] theorem F.IPM_TX_CFG_SENDER_width : F.IPM_TX_CFG_SENDER.width = 2 := rfl
@[simp] theorem F.IPM_TX_CFG_FORMAT_key (n : Nat) : F.IPM_TX_CFG_FORMAT.key n = 272629769 + 2048 * n := Field.key_plain F.IPM_TX_CFG_FORMAT n rfl
@[simp] theorem F.IPM_TX_CFG_FORMAT_acc : F.IPM_TX_CFG_FORMAT.acc = .rw := rfl
@[simp] theorem F.IPM_TX_CFG_FORMAT_width : F.IPM_TX_CFG_FORMAT.width = 5 := rfl
@[simp] theorem F.IPM_TX_CFG_PTIME_key (n : Nat) : F.IPM_TX_CFG_PTIME.key n = 272629774 + 2048 * n := Field.key_plain F.IPM_TX_CFG_PTIME n rfl
@[simp] theorem F.IPM_TX_CFG_PTIME_acc : F.IPM_TX_CFG_PTIME.acc = .rw := rfl
@[simp] theorem F.IPM_TX_CFG_PTIME_width : F.IPM_TX_CFG_PTIME.width = 1 := rfl
@[simp] theorem F.IPM_TX_CFG_VLAN_EN_key (n : Nat) : F.IPM_TX_CFG_VLAN_EN.key n = 272629775 + 2048 * n := Field.key_plain F.IPM_TX_CFG_VLAN_EN n rfl
@[simp] theorem F.IPM_TX_CFG_VLAN_EN_acc : F.IPM_TX_CFG_VLAN_EN.acc = .rw := rfl
@[simp] theorem F.IPM_TX_CFG_VLAN_EN_width : F.IPM_TX_CFG_VLAN_EN.width = 1 := rfl
@[simp] theorem F.IPM_TX_CFG_ANC_PKTS_key (n : Nat) : F.IPM_TX_CFG_ANC_PKTS.key n = 272629776 + 2048 * n := Field.key_plain F.IPM_TX_CFG_ANC_PKTS n rfl
@[simp] theorem F.IPM_TX_CFG_ANC_PKTS_acc : F.IPM_TX_CFG_ANC_PKTS.acc = .rw := rfl
@[simp] theorem F.IPM_TX_CFG_ANC_PKTS_width : F.IPM_TX_CFG_ANC_PKTS.width = 2 := rfl
@[simp] theorem F.IPM_TX_CFG_NOSRC_key (n : Nat) : F.IPM_TX_CFG_NOSRC.key n = 272629778 + 2048 * n := Field.key_plain F.IPM_TX_CFG_NOSRC n rfl
@[simp] theorem F.IPM_TX_CFG_NOSRC_acc : F.IPM_TX_CFG_NOSRC.acc = .rw := rfl
@[simp] theorem F.IPM_TX_CFG_NOSRC_width : F.IPM_TX_CFG_NOSRC.width = 2 := rfl
@[simp] theorem F.IPM_TX_CFG_OSTAMP_EN_key (n : Nat) : F.IPM_TX_CFG_OSTAMP_EN.key n = 272629780 + 2048 * n := Field.key_plain F.IPM_TX_CFG_OSTAMP_EN n rfl
@[simp] theorem F.IPM_TX_CFG_OSTAMP_EN_acc : F.IPM_TX_CFG_OSTAMP_EN.acc = .rw := rfl
@[simp] theorem F.IPM_TX_CFG_OSTAMP_EN_width : F.IPM_TX_CFG_OSTAMP_EN.width = 1 := rfl
@[simp] theorem F.IPM_TX_STATUS_STATE_key (n : Nat) : F.IPM_TX_STATUS_STATE.key n = 272629888 + 2048 * n := Field.key_plain F.IPM_TX_STATUS_STATE n rfl
@[simp] theorem F.IPM_TX_STATUS_STATE_acc : F.IPM_TX_STATUS_STATE.acc = .ro := rfl
@[simp] theorem F.IPM_TX_STATUS_STATE_width : F.IPM_TX_STATUS_STATE.width = 2 := rfl
@[simp] theorem F.IPM_TX_STATUS_RED_ON_key (n : Nat) : F.IPM_TX_STATUS_RED_ON.key n = 272629890 + 2048 * n := Field.key_plain F.IPM_TX_STATUS_RED_ON n rfl
@[simp] theorem F.IPM_TX_STATUS_RED_ON_acc : F.IPM_TX_STATUS_RED_ON.acc = .ro := rfl
@[simp] theorem F.IPM_TX_STATUS_RED_ON_width : F.IPM_TX_STATUS_RED_ON.width = 1 := rfl
@[simp] theorem F.IPM_TX_STATUS_BLUE_ON_key (n : Nat) : F.IPM_TX_STATUS_BLUE_ON.key n = 272629891 + 2048 * n := Field.key_plain F.IPM_TX_STATUS_BLUE_ON n rfl
@[simp] theorem F.IPM_TX_STATUS_BLUE_ON_acc : F.IPM_TX_STATUS_BLUE_ON.acc = .ro := rfl
@[simp] theorem F.IPM_TX_STATUS_BLUE_ON_width : F.IPM_TX_STATUS_BLUE_ON.width = 1 := rfl
@[simp] theorem F.IPM_TX_HIST_STARTED_key (n : Nat) : F.IPM_TX_HIST_STARTED.key n = 272630016 + 2048 * n := Field.key_plain F.IPM_TX_HIST_STARTED n rfl
@[simp] theorem F.IPM_TX_HIST_STARTED_acc : F.IPM_TX_HIST_STARTED.acc = .w1c := rfl
@[simp] theorem F.IPM_TX_HIST_STARTED_width : F.IPM_TX_HIST_STARTED.width = 1 := rfl
@[simp] theorem F.IPM_TX_HIST_STOPPED_key (n : Nat) : F.IPM_TX_HIST_STOPPED.key n = 272630017 + 2048 * n := Field.key_plain F.IPM_TX_HIST_STOPPED n rfl
@[simp] theorem F.IPM_TX_HIST_STOPPED_acc : F.IPM_TX_HIST_STOPPED.acc = .w1c := rfl
@[simp] theorem F.IPM_TX_HIST_STOPPED_width : F.IPM_TX_HIST_STOPPED.width = 1 := rfl
@[simp] theorem F.IPM_TX_HIST_NOSRC_ENTERED_key (n : Nat) : F.IPM_TX_HIST_NOSRC_ENTERED.key n = 272630018 + 2048 * n := Field.key_plain F.IPM_TX_HIST_NOSRC_ENTERED n rfl
@[simp] theorem F.IPM_TX_HIST_NOSRC_ENTERED_acc : F.IPM_TX_HIST_NOSRC_ENTERED.acc = .w1c := rfl
@[simp] theorem F.IPM_TX_HIST_NOSRC_ENTERED_width : F.IPM_TX_HIST_NOSRC_ENTERED.width = 1 := rfl
@[simp] theorem F.IPM_TX_HIST_LINE_SUBST_key (n : Nat) : F.IPM_TX_HIST_LINE_SUBST.key n = 272630019 + 2048 * n := Field.key_plain F.IPM_TX_HIST_LINE_SUBST n rfl
@[simp] theorem F.IPM_TX_HIST_LINE_SUBST_acc : F.IPM_TX_HIST_LINE_SUBST.acc = .w1c := rfl
@[simp] theorem F.IPM_TX_HIST_LINE_SUBST_width : F.IPM_TX_HIST_LINE_SUBST.width = 1 := rfl
@[simp] theorem F.IPM_TX_HIST_PKT_DROP_key (n : Nat) : F.IPM_TX_HIST_PKT_DROP.key n = 272630020 + 2048 * n := Field.key_plain F.IPM_TX_HIST_PKT_DROP n rfl
@[simp] theorem F.IPM_TX_HIST_PKT_DROP_acc : F.IPM_TX_HIST_PKT_DROP.acc = .w1c := rfl
@[simp] theorem F.IPM_TX_HIST_PKT_DROP_width : F.IPM_TX_HIST_PKT_DROP.width = 1 := rfl
@[simp] theorem F.IPM_TX_HIST_ANC_OVF_key (n : Nat) : F.IPM_TX_HIST_ANC_OVF.key n = 272630021 + 2048 * n := Field.key_plain F.IPM_TX_HIST_ANC_OVF n rfl
@[simp] theorem F.IPM_TX_HIST_ANC_OVF_acc : F.IPM_TX_HIST_ANC_OVF.acc = .w1c := rfl
@[simp] theorem F.IPM_TX_HIST_ANC_OVF_width : F.IPM_TX_HIST_ANC_OVF.width = 1 := rfl
@[simp] theorem F.IPM_TX_HIST_CFG_REJECTED_key (n : Nat) : F.IPM_TX_HIST_CFG_REJECTED.key n = 272630022 + 2048 * n := Field.key_plain F.IPM_TX_HIST_CFG_REJECTED n rfl
@[simp] theorem F.IPM_TX_HIST_CFG_REJECTED_acc : F.IPM_TX_HIST_CFG_REJECTED.acc = .w1c := rfl
@[simp] theorem F.IPM_TX_HIST_CFG_REJECTED_width : F.IPM_TX_HIST_CFG_REJECTED.width = 1 := rfl
@[simp] theorem F.IPM_TX_IRQ_EN_EN_key (n : Nat) : F.IPM_TX_IRQ_EN_EN.key n = 272630144 + 2048 * n := Field.key_plain F.IPM_TX_IRQ_EN_EN n rfl
@[simp] theorem F.IPM_TX_IRQ_EN_EN_acc : F.IPM_TX_IRQ_EN_EN.acc = .rw := rfl
@[simp] theorem F.IPM_TX_IRQ_EN_EN_width : F.IPM_TX_IRQ_EN_EN.width = 7 := rfl
@[simp] theorem F.IPM_TX_SSRC_SSRC_key (n : Nat) : F.IPM_TX_SSRC_SSRC.key n = 272630272 + 2048 * n := Field.key_plain F.IPM_TX_SSRC_SSRC n rfl
@[simp] theorem F.IPM_TX_SSRC_SSRC_acc : F.IPM_TX_SSRC_SSRC.acc = .rw := rfl
@[simp] theorem F.IPM_TX_SSRC_SSRC_width : F.IPM_TX_SSRC_SSRC.width = 32 := rfl
@[simp] theorem F.IPM_TX_TRO_TRO_key (n : Nat) : F.IPM_TX_TRO_TRO.key n = 272630400 + 2048 * n := Field.key_plain F.IPM_TX_TRO_TRO n rfl
@[simp] theorem F.IPM_TX_TRO_TRO_acc : F.IPM_TX_TRO_TRO.acc = .rw := rfl
@[simp] theorem F.IPM_TX_TRO_TRO_width : F.IPM_TX_TRO_TRO.width = 32 := rfl
@[simp] theorem F.IPM_TX_PKT_CNT_COUNT_key (n : Nat) : F.IPM_TX_PKT_CNT_COUNT.key n = 272630528 + 2048 * n := Field.key_plain F.IPM_TX_PKT_CNT_COUNT n rfl
@[simp] theorem F.IPM_TX_PKT_CNT_COUNT_acc : F.IPM_TX_PKT_CNT_COUNT.acc = .rcl := rfl
@[simp] theorem F.IPM_TX_PKT_CNT_COUNT_width : F.IPM_TX_PKT_CNT_COUNT.width = 32 := rfl
@[simp] theorem F.IPM_TX_DROP_CNT_COUNT_key (n : Nat) : F.IPM_TX_DROP_CNT_COUNT.key n = 272630656 + 2048 * n := Field.key_plain F.IPM_TX_DROP_CNT_COUNT n rfl
@[simp] theorem F.IPM_TX_DROP_CNT_COUNT_acc : F.IPM_TX_DROP_CNT_COUNT.acc = .rcl := rfl
@[simp] theorem F.IPM_TX_DROP_CNT_COUNT_width : F.IPM_TX_DROP_CNT_COUNT.width = 32 := rfl
@[simp] theorem F.IPM_TX_SUBST_CNT_COUNT_key (n : Nat) : F.IPM_TX_SUBST_CNT_COUNT.key n = 272630784 + 2048 * n := Field.key_plain F.IPM_TX_SUBST_CNT_COUNT n rfl
@[simp] theorem F.IPM_TX_SUBST_CNT_COUNT_acc : F.IPM_TX_SUBST_CNT_COUNT.acc = .rcl := rfl
@[simp] theorem F.IPM_TX_SUBST_CNT_COUNT_width : F.IPM_TX_SUBST_CNT_COUNT.width = 32 := rfl
@[simp] theorem F.IPM_TX_SEQ_SEQ_key (n : Nat) : F.IPM_TX_SEQ_SEQ.key n = 272630912 + 2048 * n := Field.key_plain F.IPM_TX_SEQ_SEQ n rfl
@[simp] theorem F.IPM_TX_SEQ_SEQ_acc : F.IPM_TX_SEQ_SEQ.acc = .ro := rfl
@[simp] theorem F.IPM_TX_SEQ_SEQ_width : F.IPM_TX_SEQ_SEQ.width = 32 := rfl
@[simp] theorem F.STALL_CFG_ABS_MODE_key (n : Nat) : F.STALL_CFG_ABS_MODE.key n = 301998080 := Field.key_one F.STALL_CFG_ABS_MODE n rfl rfl
@[simp] theorem F.STALL_CFG_ABS_MODE_acc : F.STALL_CFG_ABS_MODE.acc = .rw := rfl
@[simp] theorem F.STALL_CFG_ABS_MODE_width : F.STALL_CFG_ABS_MODE.width = 2 := rfl
@[simp] theorem F.STALL_CFG_ABS_TRUSTED_key (n : Nat) : F.STALL_CFG_ABS_TRUSTED.key n = 301998082 := Field.key_one F.STALL_CFG_ABS_TRUSTED n rfl rfl
@[simp] theorem F.STALL_CFG_ABS_TRUSTED_acc : F.STALL_CFG_ABS_TRUSTED.acc = .ro := rfl
@[simp] theorem F.STALL_CFG_ABS_TRUSTED_width : F.STALL_CFG_ABS_TRUSTED.width = 1 := rfl
@[simp] theorem F.YARD_REGION_BASE_key (n : Nat) : F.YARD_REGION_BASE.key n = 301998592 + 128 * n := Field.key_plain F.YARD_REGION_BASE n rfl
@[simp] theorem F.YARD_REGION_BASE_acc : F.YARD_REGION_BASE.acc = .ro := rfl
@[simp] theorem F.YARD_REGION_BASE_width : F.YARD_REGION_BASE.width = 8 := rfl
@[simp] theorem F.YARD_REGION_SIZE_key (n : Nat) : F.YARD_REGION_SIZE.key n = 301998600 + 128 * n := Field.key_plain F.YARD_REGION_SIZE n rfl
@[simp] theorem F.YARD_REGION_SIZE_acc : F.YARD_REGION_SIZE.acc = .ro := rfl
@[simp] theorem F.YARD_REGION_SIZE_width : F.YARD_REGION_SIZE.width = 8 := rfl
@[simp] theorem F.FRESH_HIST_ENTER_ENTER_key (n : Nat) : F.FRESH_HIST_ENTER_ENTER.key n = 302006272 + 128 * n := Field.key_plain F.FRESH_HIST_ENTER_ENTER n rfl
@[simp] theorem F.FRESH_HIST_ENTER_ENTER_acc : F.FRESH_HIST_ENTER_ENTER.acc = .w1c := rfl
@[simp] theorem F.FRESH_HIST_ENTER_ENTER_width : F.FRESH_HIST_ENTER_ENTER.width = 32 := rfl
@[simp] theorem F.FRESH_HIST_EXIT_EXIT_key (n : Nat) : F.FRESH_HIST_EXIT_EXIT.key n = 302010368 + 128 * n := Field.key_plain F.FRESH_HIST_EXIT_EXIT n rfl
@[simp] theorem F.FRESH_HIST_EXIT_EXIT_acc : F.FRESH_HIST_EXIT_EXIT.acc = .w1c := rfl
@[simp] theorem F.FRESH_HIST_EXIT_EXIT_width : F.FRESH_HIST_EXIT_EXIT.width = 32 := rfl
@[simp] theorem F.FRESH_IRQ_EN_EN_key (n : Nat) : F.FRESH_IRQ_EN_EN.key n = 302014464 + 128 * n := Field.key_plain F.FRESH_IRQ_EN_EN n rfl
@[simp] theorem F.FRESH_IRQ_EN_EN_acc : F.FRESH_IRQ_EN_EN.acc = .rw := rfl
@[simp] theorem F.FRESH_IRQ_EN_EN_width : F.FRESH_IRQ_EN_EN.width = 32 := rfl
@[simp] theorem F.STALL_PEND_PEND_key (n : Nat) : F.STALL_PEND_PEND.key n = 302018560 + 128 * n := Field.key_plain F.STALL_PEND_PEND n rfl
@[simp] theorem F.STALL_PEND_PEND_acc : F.STALL_PEND_PEND.acc = .ro := rfl
@[simp] theorem F.STALL_PEND_PEND_width : F.STALL_PEND_PEND.width = 32 := rfl
@[simp] theorem F.STALL_CTRL_EN_key (n : Nat) : F.STALL_CTRL_EN.key n = 302120960 + 2048 * n := Field.key_plain F.STALL_CTRL_EN n rfl
@[simp] theorem F.STALL_CTRL_EN_acc : F.STALL_CTRL_EN.acc = .rw := rfl
@[simp] theorem F.STALL_CTRL_EN_width : F.STALL_CTRL_EN.width = 1 := rfl
@[simp] theorem F.STALL_CTRL_MODE_key (n : Nat) : F.STALL_CTRL_MODE.key n = 302120961 + 2048 * n := Field.key_plain F.STALL_CTRL_MODE n rfl
@[simp] theorem F.STALL_CTRL_MODE_acc : F.STALL_CTRL_MODE.acc = .rw := rfl
@[simp] theorem F.STALL_CTRL_MODE_width : F.STALL_CTRL_MODE.width = 1 := rfl
@[simp] theorem F.STALL_CTRL_TL_key (n : Nat) : F.STALL_CTRL_TL.key n = 302120962 + 2048 * n := Field.key_plain F.STALL_CTRL_TL n rfl
@[simp] theorem F.STALL_CTRL_TL_acc : F.STALL_CTRL_TL.acc = .rw := rfl
@[simp] theorem F.STALL_CTRL_TL_width : F.STALL_CTRL_TL.width = 1 := rfl
@[simp] theorem F.STALL_CTRL_LL_FALLBACK_key (n : Nat) : F.STALL_CTRL_LL_FALLBACK.key n = 302120963 + 2048 * n := Field.key_plain F.STALL_CTRL_LL_FALLBACK n rfl
@[simp] theorem F.STALL_CTRL_LL_FALLBACK_acc : F.STALL_CTRL_LL_FALLBACK.acc = .rw := rfl
@[simp] theorem F.STALL_CTRL_LL_FALLBACK_width : F.STALL_CTRL_LL_FALLBACK.width = 1 := rfl
@[simp] theorem F.STALL_CTRL_INCOMPLETE_USE_key (n : Nat) : F.STALL_CTRL_INCOMPLETE_USE.key n = 302120964 + 2048 * n := Field.key_plain F.STALL_CTRL_INCOMPLETE_USE n rfl
@[simp] theorem F.STALL_CTRL_INCOMPLETE_USE_acc : F.STALL_CTRL_INCOMPLETE_USE.acc = .rw := rfl
@[simp] theorem F.STALL_CTRL_INCOMPLETE_USE_width : F.STALL_CTRL_INCOMPLETE_USE.width = 1 := rfl
@[simp] theorem F.STALL_CTRL_INHERIT_STALE_key (n : Nat) : F.STALL_CTRL_INHERIT_STALE.key n = 302120965 + 2048 * n := Field.key_plain F.STALL_CTRL_INHERIT_STALE n rfl
@[simp] theorem F.STALL_CTRL_INHERIT_STALE_acc : F.STALL_CTRL_INHERIT_STALE.acc = .rw := rfl
@[simp] theorem F.STALL_CTRL_INHERIT_STALE_width : F.STALL_CTRL_INHERIT_STALE.width = 1 := rfl
@[simp] theorem F.STALL_CTRL_ORIGIN_MODE_key (n : Nat) : F.STALL_CTRL_ORIGIN_MODE.key n = 302120966 + 2048 * n := Field.key_plain F.STALL_CTRL_ORIGIN_MODE n rfl
@[simp] theorem F.STALL_CTRL_ORIGIN_MODE_acc : F.STALL_CTRL_ORIGIN_MODE.acc = .rw := rfl
@[simp] theorem F.STALL_CTRL_ORIGIN_MODE_width : F.STALL_CTRL_ORIGIN_MODE.width = 3 := rfl
@[simp] theorem F.STALL_CTRL_LOS_ACTION_key (n : Nat) : F.STALL_CTRL_LOS_ACTION.key n = 302120969 + 2048 * n := Field.key_plain F.STALL_CTRL_LOS_ACTION n rfl
@[simp] theorem F.STALL_CTRL_LOS_ACTION_acc : F.STALL_CTRL_LOS_ACTION.acc = .rw := rfl
@[simp] theorem F.STALL_CTRL_LOS_ACTION_width : F.STALL_CTRL_LOS_ACTION.width = 2 := rfl
@[simp] theorem F.STALL_CTRL_CLASS_key (n : Nat) : F.STALL_CTRL_CLASS.key n = 302120971 + 2048 * n := Field.key_plain F.STALL_CTRL_CLASS n rfl
@[simp] theorem F.STALL_CTRL_CLASS_acc : F.STALL_CTRL_CLASS.acc = .rw := rfl
@[simp] theorem F.STALL_CTRL_CLASS_width : F.STALL_CTRL_CLASS.width = 3 := rfl
@[simp] theorem F.STALL_CTRL_LOS_HOLD_key (n : Nat) : F.STALL_CTRL_LOS_HOLD.key n = 302120976 + 2048 * n := Field.key_plain F.STALL_CTRL_LOS_HOLD n rfl
@[simp] theorem F.STALL_CTRL_LOS_HOLD_acc : F.STALL_CTRL_LOS_HOLD.acc = .rw := rfl
@[simp] theorem F.STALL_CTRL_LOS_HOLD_width : F.STALL_CTRL_LOS_HOLD.width = 8 := rfl
@[simp] theorem F.STALL_BASE_BASE_key (n : Nat) : F.STALL_BASE_BASE.key n = 302121088 + 2048 * n := Field.key_plain F.STALL_BASE_BASE n rfl
@[simp] theorem F.STALL_BASE_BASE_acc : F.STALL_BASE_BASE.acc = .rw := rfl
@[simp] theorem F.STALL_BASE_BASE_width : F.STALL_BASE_BASE.width = 18 := rfl
@[simp] theorem F.STALL_ORIGIN_OFS_ORIGIN_OFS_key (n : Nat) : F.STALL_ORIGIN_OFS_ORIGIN_OFS.key n = 302121216 + 2048 * n := Field.key_plain F.STALL_ORIGIN_OFS_ORIGIN_OFS n rfl
@[simp] theorem F.STALL_ORIGIN_OFS_ORIGIN_OFS_acc : F.STALL_ORIGIN_OFS_ORIGIN_OFS.acc = .rw := rfl
@[simp] theorem F.STALL_ORIGIN_OFS_ORIGIN_OFS_width : F.STALL_ORIGIN_OFS_ORIGIN_OFS.width = 32 := rfl
@[simp] theorem F.STALL_STATUS_STATE_key (n : Nat) : F.STALL_STATUS_STATE.key n = 302121344 + 2048 * n := Field.key_plain F.STALL_STATUS_STATE n rfl
@[simp] theorem F.STALL_STATUS_STATE_acc : F.STALL_STATUS_STATE.acc = .ro := rfl
@[simp] theorem F.STALL_STATUS_STATE_width : F.STALL_STATUS_STATE.width = 2 := rfl
@[simp] theorem F.STALL_STATUS_LATCHED_key (n : Nat) : F.STALL_STATUS_LATCHED.key n = 302121346 + 2048 * n := Field.key_plain F.STALL_STATUS_LATCHED n rfl
@[simp] theorem F.STALL_STATUS_LATCHED_acc : F.STALL_STATUS_LATCHED.acc = .ro := rfl
@[simp] theorem F.STALL_STATUS_LATCHED_width : F.STALL_STATUS_LATCHED.width = 2 := rfl
@[simp] theorem F.STALL_STATUS_LL_ACTIVE_key (n : Nat) : F.STALL_STATUS_LL_ACTIVE.key n = 302121348 + 2048 * n := Field.key_plain F.STALL_STATUS_LL_ACTIVE n rfl
@[simp] theorem F.STALL_STATUS_LL_ACTIVE_acc : F.STALL_STATUS_LL_ACTIVE.acc = .ro := rfl
@[simp] theorem F.STALL_STATUS_LL_ACTIVE_width : F.STALL_STATUS_LL_ACTIVE.width = 1 := rfl
@[simp] theorem F.STALL_STATUS_UNTRUSTED_key (n : Nat) : F.STALL_STATUS_UNTRUSTED.key n = 302121349 + 2048 * n := Field.key_plain F.STALL_STATUS_UNTRUSTED n rfl
@[simp] theorem F.STALL_STATUS_UNTRUSTED_acc : F.STALL_STATUS_UNTRUSTED.acc = .ro := rfl
@[simp] theorem F.STALL_STATUS_UNTRUSTED_width : F.STALL_STATUS_UNTRUSTED.width = 1 := rfl
@[simp] theorem F.STALL_STATUS_ORIGIN_KIND_key (n : Nat) : F.STALL_STATUS_ORIGIN_KIND.key n = 302121350 + 2048 * n := Field.key_plain F.STALL_STATUS_ORIGIN_KIND n rfl
@[simp] theorem F.STALL_STATUS_ORIGIN_KIND_acc : F.STALL_STATUS_ORIGIN_KIND.acc = .ro := rfl
@[simp] theorem F.STALL_STATUS_ORIGIN_KIND_width : F.STALL_STATUS_ORIGIN_KIND.width = 2 := rfl
@[simp] theorem F.STALL_STATUS_LL_PHASE_key (n : Nat) : F.STALL_STATUS_LL_PHASE.key n = 302121360 + 2048 * n := Field.key_plain F.STALL_STATUS_LL_PHASE n rfl
@[simp] theorem F.STALL_STATUS_LL_PHASE_acc : F.STALL_STATUS_LL_PHASE.acc = .ro := rfl
@[simp] theorem F.STALL_STATUS_LL_PHASE_width : F.STALL_STATUS_LL_PHASE.width = 16 := rfl
@[simp] theorem F.STALL_HIST_FIRST_FRAME_key (n : Nat) : F.STALL_HIST_FIRST_FRAME.key n = 302121472 + 2048 * n := Field.key_plain F.STALL_HIST_FIRST_FRAME n rfl
@[simp] theorem F.STALL_HIST_FIRST_FRAME_acc : F.STALL_HIST_FIRST_FRAME.acc = .w1c := rfl
@[simp] theorem F.STALL_HIST_FIRST_FRAME_width : F.STALL_HIST_FIRST_FRAME.width = 1 := rfl
@[simp] theorem F.STALL_HIST_LOS_ENTERED_key (n : Nat) : F.STALL_HIST_LOS_ENTERED.key n = 302121473 + 2048 * n := Field.key_plain F.STALL_HIST_LOS_ENTERED n rfl
@[simp] theorem F.STALL_HIST_LOS_ENTERED_acc : F.STALL_HIST_LOS_ENTERED.acc = .w1c := rfl
@[simp] theorem F.STALL_HIST_LOS_ENTERED_width : F.STALL_HIST_LOS_ENTERED.width = 1 := rfl
@[simp] theorem F.STALL_HIST_LOS_LEFT_key (n : Nat) : F.STALL_HIST_LOS_LEFT.key n = 302121474 + 2048 * n := Field.key_plain F.STALL_HIST_LOS_LEFT n rfl
@[simp] theorem F.STALL_HIST_LOS_LEFT_acc : F.STALL_HIST_LOS_LEFT.acc = .w1c := rfl
@[simp] theorem F.STALL_HIST_LOS_LEFT_width : F.STALL_HIST_LOS_LEFT.width = 1 := rfl
@[simp] theorem F.STALL_HIST_DROPPED_key (n : Nat) : F.STALL_HIST_DROPPED.key n = 302121475 + 2048 * n := Field.key_plain F.STALL_HIST_DROPPED n rfl
@[simp] theorem F.STALL_HIST_DROPPED_acc : F.STALL_HIST_DROPPED.acc = .w1c := rfl
@[simp] theorem F.STALL_HIST_DROPPED_width : F.STALL_HIST_DROPPED.width = 1 := rfl
@[simp] theorem F.STALL_HIST_INCOMPLETE_key (n : Nat) : F.STALL_HIST_INCOMPLETE.key n = 302121476 + 2048 * n := Field.key_plain F.STALL_HIST_INCOMPLETE n rfl
@[simp] theorem F.STALL_HIST_INCOMPLETE_acc : F.STALL_HIST_INCOMPLETE.acc = .w1c := rfl
@[simp] theorem F.STALL_HIST_INCOMPLETE_width : F.STALL_HIST_INCOMPLETE.width = 1 := rfl
@[simp] theorem F.STALL_HIST_CLASS_ERR_key (n : Nat) : F.STALL_HIST_CLASS_ERR.key n = 302121477 + 2048 * n := Field.key_plain F.STALL_HIST_CLASS_ERR n rfl
@[simp] theorem F.STALL_HIST_CLASS_ERR_acc : F.STALL_HIST_CLASS_ERR.acc = .w1c := rfl
@[simp] theorem F.STALL_HIST_CLASS_ERR_width : F.STALL_HIST_CLASS_ERR.width = 1 := rfl
@[simp] theorem F.STALL_HIST_LL_PHASE_ERR_key (n : Nat) : F.STALL_HIST_LL_PHASE_ERR.key n = 302121478 + 2048 * n := Field.key_plain F.STALL_HIST_LL_PHASE_ERR n rfl
@[simp] theorem F.STALL_HIST_LL_PHASE_ERR_acc : F.STALL_HIST_LL_PHASE_ERR.acc = .w1c := rfl
@[simp] theorem F.STALL_HIST_LL_PHASE_ERR_width : F.STALL_HIST_LL_PHASE_ERR.width = 1 := rfl
@[simp] theorem F.STALL_HIST_LL_FELL_BACK_key (n : Nat) : F.STALL_HIST_LL_FELL_BACK.key n = 302121479 + 2048 * n := Field.key_plain F.STALL_HIST_LL_FELL_BACK n rfl
@[simp] theorem F.STALL_HIST_LL_FELL_BACK_acc : F.STALL_HIST_LL_FELL_BACK.acc = .w1c := rfl
@[simp] theorem F.STALL_HIST_LL_FELL_BACK_width : F.STALL_HIST_LL_FELL_BACK.width = 1 := rfl
@[simp] theorem F.STALL_HIST_ORIGIN_AHEAD_key (n : Nat) : F.STALL_HIST_ORIGIN_AHEAD.key n = 302121480 + 2048 * n := Field.key_plain F.STALL_HIST_ORIGIN_AHEAD n rfl
@[simp] theorem F.STALL_HIST_ORIGIN_AHEAD_acc : F.STALL_HIST_ORIGIN_AHEAD.acc = .w1c := rfl
@[simp] theorem F.STALL_HIST_ORIGIN_AHEAD_width : F.STALL_HIST_ORIGIN_AHEAD.width = 1 := rfl
@[simp] theorem F.STALL_HIST_STAMP_ERR_key (n : Nat) : F.STALL_HIST_STAMP_ERR.key n = 302121481 + 2048 * n := Field.key_plain F.STALL_HIST_STAMP_ERR n rfl
@[simp] theorem F.STALL_HIST_STAMP_ERR_acc : F.STALL_HIST_STAMP_ERR.acc = .w1c := rfl
@[simp] theorem F.STALL_HIST_STAMP_ERR_width : F.STALL_HIST_STAMP_ERR.width = 1 := rfl
@[simp] theorem F.STALL_HIST_CFG_REJECTED_key (n : Nat) : F.STALL_HIST_CFG_REJECTED.key n = 302121482 + 2048 * n := Field.key_plain F.STALL_HIST_CFG_REJECTED n rfl
@[simp] theorem F.STALL_HIST_CFG_REJECTED_acc : F.STALL_HIST_CFG_REJECTED.acc = .w1c := rfl
@[simp] theorem F.STALL_HIST_CFG_REJECTED_width : F.STALL_HIST_CFG_REJECTED.width = 1 := rfl
@[simp] theorem F.STALL_IRQ_EN_EN_key (n : Nat) : F.STALL_IRQ_EN_EN.key n = 302121600 + 2048 * n := Field.key_plain F.STALL_IRQ_EN_EN n rfl
@[simp] theorem F.STALL_IRQ_EN_EN_acc : F.STALL_IRQ_EN_EN.acc = .rw := rfl
@[simp] theorem F.STALL_IRQ_EN_EN_width : F.STALL_IRQ_EN_EN.width = 11 := rfl
@[simp] theorem F.STALL_REPEAT_CNT_COUNT_key (n : Nat) : F.STALL_REPEAT_CNT_COUNT.key n = 302121728 + 2048 * n := Field.key_plain F.STALL_REPEAT_CNT_COUNT n rfl
@[simp] theorem F.STALL_REPEAT_CNT_COUNT_acc : F.STALL_REPEAT_CNT_COUNT.acc = .rcl := rfl
@[simp] theorem F.STALL_REPEAT_CNT_COUNT_width : F.STALL_REPEAT_CNT_COUNT.width = 32 := rfl
@[simp] theorem F.STALL_DROP_CNT_COUNT_key (n : Nat) : F.STALL_DROP_CNT_COUNT.key n = 302121856 + 2048 * n := Field.key_plain F.STALL_DROP_CNT_COUNT n rfl
@[simp] theorem F.STALL_DROP_CNT_COUNT_acc : F.STALL_DROP_CNT_COUNT.acc = .rcl := rfl
@[simp] theorem F.STALL_DROP_CNT_COUNT_width : F.STALL_DROP_CNT_COUNT.width = 32 := rfl
@[simp] theorem F.STALL_INCOMPLETE_CNT_COUNT_key (n : Nat) : F.STALL_INCOMPLETE_CNT_COUNT.key n = 302121984 + 2048 * n := Field.key_plain F.STALL_INCOMPLETE_CNT_COUNT n rfl
@[simp] theorem F.STALL_INCOMPLETE_CNT_COUNT_acc : F.STALL_INCOMPLETE_CNT_COUNT.acc = .rcl := rfl
@[simp] theorem F.STALL_INCOMPLETE_CNT_COUNT_width : F.STALL_INCOMPLETE_CNT_COUNT.width = 32 := rfl
@[simp] theorem F.STALL_STAMP_ERR_CNT_COUNT_key (n : Nat) : F.STALL_STAMP_ERR_CNT_COUNT.key n = 302122112 + 2048 * n := Field.key_plain F.STALL_STAMP_ERR_CNT_COUNT n rfl
@[simp] theorem F.STALL_STAMP_ERR_CNT_COUNT_acc : F.STALL_STAMP_ERR_CNT_COUNT.acc = .rcl := rfl
@[simp] theorem F.STALL_STAMP_ERR_CNT_COUNT_width : F.STALL_STAMP_ERR_CNT_COUNT.width = 32 := rfl
@[simp] theorem F.STALL_FSEQ_LO_FSEQ_key (n : Nat) : F.STALL_FSEQ_LO_FSEQ.key n = 302122240 + 2048 * n := Field.key_plain F.STALL_FSEQ_LO_FSEQ n rfl
@[simp] theorem F.STALL_FSEQ_LO_FSEQ_acc : F.STALL_FSEQ_LO_FSEQ.acc = .ro := rfl
@[simp] theorem F.STALL_FSEQ_LO_FSEQ_width : F.STALL_FSEQ_LO_FSEQ.width = 32 := rfl
@[simp] theorem F.STALL_FSEQ_HI_FSEQ_key (n : Nat) : F.STALL_FSEQ_HI_FSEQ.key n = 302122368 + 2048 * n := Field.key_plain F.STALL_FSEQ_HI_FSEQ n rfl
@[simp] theorem F.STALL_FSEQ_HI_FSEQ_acc : F.STALL_FSEQ_HI_FSEQ.acc = .ro := rfl
@[simp] theorem F.STALL_FSEQ_HI_FSEQ_width : F.STALL_FSEQ_HI_FSEQ.width = 16 := rfl
@[simp] theorem F.STALL_SIG_LO_SIG_key (n : Nat) : F.STALL_SIG_LO_SIG.key n = 302122496 + 2048 * n := Field.key_plain F.STALL_SIG_LO_SIG n rfl
@[simp] theorem F.STALL_SIG_LO_SIG_acc : F.STALL_SIG_LO_SIG.acc = .ro := rfl
@[simp] theorem F.STALL_SIG_LO_SIG_width : F.STALL_SIG_LO_SIG.width = 32 := rfl
@[simp] theorem F.STALL_SIG_HI_SIG_key (n : Nat) : F.STALL_SIG_HI_SIG.key n = 302122624 + 2048 * n := Field.key_plain F.STALL_SIG_HI_SIG n rfl
@[simp] theorem F.STALL_SIG_HI_SIG_acc : F.STALL_SIG_HI_SIG.acc = .ro := rfl
@[simp] theorem F.STALL_SIG_HI_SIG_width : F.STALL_SIG_HI_SIG.width = 32 := rfl
@[simp] theorem F.FRESH_CFG_EN_key (n : Nat) : F.FRESH_CFG_EN.key n = 306184192 + 1024 * n := Field.key_plain F.FRESH_CFG_EN n rfl
@[simp] theorem F.FRESH_CFG_EN_acc : F.FRESH_CFG_EN.acc = .rw := rfl
@[simp] theorem F.FRESH_CFG_EN_width : F.FRESH_CFG_EN.width = 1 := rfl
@[simp] theorem F.FRESH_CFG_AGE_EN_key (n : Nat) : F.FRESH_CFG_AGE_EN.key n = 306184193 + 1024 * n := Field.key_plain F.FRESH_CFG_AGE_EN n rfl
@[simp] theorem F.FRESH_CFG_AGE_EN_acc : F.FRESH_CFG_AGE_EN.acc = .rw := rfl
@[simp] theorem F.FRESH_CFG_AGE_EN_width : F.FRESH_CFG_AGE_EN.width = 1 := rfl
@[simp] theorem F.FRESH_CFG_LIVE_EN_key (n : Nat) : F.FRESH_CFG_LIVE_EN.key n = 306184194 + 1024 * n := Field.key_plain F.FRESH_CFG_LIVE_EN n rfl
@[simp] theorem F.FRESH_CFG_LIVE_EN_acc : F.FRESH_CFG_LIVE_EN.acc = .rw := rfl
@[simp] theorem F.FRESH_CFG_LIVE_EN_width : F.FRESH_CFG_LIVE_EN.width = 1 := rfl
@[simp] theorem F.FRESH_CFG_LOS_EN_key (n : Nat) : F.FRESH_CFG_LOS_EN.key n = 306184195 + 1024 * n := Field.key_plain F.FRESH_CFG_LOS_EN n rfl
@[simp] theorem F.FRESH_CFG_LOS_EN_acc : F.FRESH_CFG_LOS_EN.acc = .rw := rfl
@[simp] theorem F.FRESH_CFG_LOS_EN_width : F.FRESH_CFG_LOS_EN.width = 1 := rfl
@[simp] theorem F.FRESH_CFG_STAMP_EN_key (n : Nat) : F.FRESH_CFG_STAMP_EN.key n = 306184196 + 1024 * n := Field.key_plain F.FRESH_CFG_STAMP_EN n rfl
@[simp] theorem F.FRESH_CFG_STAMP_EN_acc : F.FRESH_CFG_STAMP_EN.acc = .rw := rfl
@[simp] theorem F.FRESH_CFG_STAMP_EN_width : F.FRESH_CFG_STAMP_EN.width = 1 := rfl
@[simp] theorem F.FRESH_CFG_WATCH_MASK_key (n : Nat) : F.FRESH_CFG_WATCH_MASK.key n = 306184197 + 1024 * n := Field.key_plain F.FRESH_CFG_WATCH_MASK n rfl
@[simp] theorem F.FRESH_CFG_WATCH_MASK_acc : F.FRESH_CFG_WATCH_MASK.acc = .rw := rfl
@[simp] theorem F.FRESH_CFG_WATCH_MASK_width : F.FRESH_CFG_WATCH_MASK.width = 4 := rfl
@[simp] theorem F.FRESH_CFG_ENTER_N_key (n : Nat) : F.FRESH_CFG_ENTER_N.key n = 306184201 + 1024 * n := Field.key_plain F.FRESH_CFG_ENTER_N n rfl
@[simp] theorem F.FRESH_CFG_ENTER_N_acc : F.FRESH_CFG_ENTER_N.acc = .rw := rfl
@[simp] theorem F.FRESH_CFG_ENTER_N_width : F.FRESH_CFG_ENTER_N.width = 4 := rfl
@[simp] theorem F.FRESH_CFG_EXIT_N_key (n : Nat) : F.FRESH_CFG_EXIT_N.key n = 306184205 + 1024 * n := Field.key_plain F.FRESH_CFG_EXIT_N n rfl
@[simp] theorem F.FRESH_CFG_EXIT_N_acc : F.FRESH_CFG_EXIT_N.acc = .rw := rfl
@[simp] theorem F.FRESH_CFG_EXIT_N_width : F.FRESH_CFG_EXIT_N.width = 8 := rfl
@[simp] theorem F.FRESH_CFG_EXIT_PCT_key (n : Nat) : F.FRESH_CFG_EXIT_PCT.key n = 306184213 + 1024 * n := Field.key_plain F.FRESH_CFG_EXIT_PCT n rfl
@[simp] theorem F.FRESH_CFG_EXIT_PCT_acc : F.FRESH_CFG_EXIT_PCT.acc = .rw := rfl
@[simp] theorem F.FRESH_CFG_EXIT_PCT_width : F.FRESH_CFG_EXIT_PCT.width = 6 := rfl
@[simp] theorem F.FRESH_LIMIT_LIMIT_US_key (n : Nat) : F.FRESH_LIMIT_LIMIT_US.key n = 306184320 + 1024 * n := Field.key_plain F.FRESH_LIMIT_LIMIT_US n rfl
@[simp] theorem F.FRESH_LIMIT_LIMIT_US_acc : F.FRESH_LIMIT_LIMIT_US.acc = .rw := rfl
@[simp] theorem F.FRESH_LIMIT_LIMIT_US_width : F.FRESH_LIMIT_LIMIT_US.width = 26 := rfl
@[simp] theorem F.FRESH_LIVE_LIVE_FRAMES_key (n : Nat) : F.FRESH_LIVE_LIVE_FRAMES.key n = 306184448 + 1024 * n := Field.key_plain F.FRESH_LIVE_LIVE_FRAMES n rfl
@[simp] theorem F.FRESH_LIVE_LIVE_FRAMES_acc : F.FRESH_LIVE_LIVE_FRAMES.acc = .rw := rfl
@[simp] theorem F.FRESH_LIVE_LIVE_FRAMES_width : F.FRESH_LIVE_LIVE_FRAMES.width = 8 := rfl
@[simp] theorem F.FRESH_STATUS_STALE_key (n : Nat) : F.FRESH_STATUS_STALE.key n = 306184576 + 1024 * n := Field.key_plain F.FRESH_STATUS_STALE n rfl
@[simp] theorem F.FRESH_STATUS_STALE_acc : F.FRESH_STATUS_STALE.acc = .ro := rfl
@[simp] theorem F.FRESH_STATUS_STALE_width : F.FRESH_STATUS_STALE.width = 1 := rfl
@[simp] theorem F.FRESH_STATUS_REASON_key (n : Nat) : F.FRESH_STATUS_REASON.key n = 306184577 + 1024 * n := Field.key_plain F.FRESH_STATUS_REASON n rfl
@[simp] theorem F.FRESH_STATUS_REASON_acc : F.FRESH_STATUS_REASON.acc = .ro := rfl
@[simp] theorem F.FRESH_STATUS_REASON_width : F.FRESH_STATUS_REASON.width = 5 := rfl
@[simp] theorem F.FRESH_STATUS_FAIL_RUN_key (n : Nat) : F.FRESH_STATUS_FAIL_RUN.key n = 306184584 + 1024 * n := Field.key_plain F.FRESH_STATUS_FAIL_RUN n rfl
@[simp] theorem F.FRESH_STATUS_FAIL_RUN_acc : F.FRESH_STATUS_FAIL_RUN.acc = .ro := rfl
@[simp] theorem F.FRESH_STATUS_FAIL_RUN_width : F.FRESH_STATUS_FAIL_RUN.width = 4 := rfl
@[simp] theorem F.FRESH_STATUS_PASS_RUN_key (n : Nat) : F.FRESH_STATUS_PASS_RUN.key n = 306184588 + 1024 * n := Field.key_plain F.FRESH_STATUS_PASS_RUN n rfl
@[simp] theorem F.FRESH_STATUS_PASS_RUN_acc : F.FRESH_STATUS_PASS_RUN.acc = .ro := rfl
@[simp] theorem F.FRESH_STATUS_PASS_RUN_width : F.FRESH_STATUS_PASS_RUN.width = 8 := rfl
@[simp] theorem F.FRESH_AGE_AGE_key (n : Nat) : F.FRESH_AGE_AGE.key n = 306184704 + 1024 * n := Field.key_plain F.FRESH_AGE_AGE n rfl
@[simp] theorem F.FRESH_AGE_AGE_acc : F.FRESH_AGE_AGE.acc = .ro := rfl
@[simp] theorem F.FRESH_AGE_AGE_width : F.FRESH_AGE_AGE.width = 32 := rfl
@[simp] theorem F.FRESH_ENTER_CNT_COUNT_key (n : Nat) : F.FRESH_ENTER_CNT_COUNT.key n = 306184832 + 1024 * n := Field.key_plain F.FRESH_ENTER_CNT_COUNT n rfl
@[simp] theorem F.FRESH_ENTER_CNT_COUNT_acc : F.FRESH_ENTER_CNT_COUNT.acc = .rcl := rfl
@[simp] theorem F.FRESH_ENTER_CNT_COUNT_width : F.FRESH_ENTER_CNT_COUNT.width = 32 := rfl
@[simp] theorem F.FRESH_EDGE_FRAME_FRAME_key (n : Nat) : F.FRESH_EDGE_FRAME_FRAME.key n = 306184960 + 1024 * n := Field.key_plain F.FRESH_EDGE_FRAME_FRAME n rfl
@[simp] theorem F.FRESH_EDGE_FRAME_FRAME_acc : F.FRESH_EDGE_FRAME_FRAME.acc = .ro := rfl
@[simp] theorem F.FRESH_EDGE_FRAME_FRAME_width : F.FRESH_EDGE_FRAME_FRAME.width = 32 := rfl
@[simp] theorem F.WATCH_CFG_EN_key (n : Nat) : F.WATCH_CFG_EN.key n = 310378496 + 2048 * (n / 4) + 512 * (n % 4) := Field.key_rows F.WATCH_CFG_EN n
@[simp] theorem F.WATCH_CFG_EN_acc : F.WATCH_CFG_EN.acc = .rw := rfl
@[simp] theorem F.WATCH_CFG_EN_width : F.WATCH_CFG_EN.width = 1 := rfl
@[simp] theorem F.WATCH_CFG_WATCH_N_key (n : Nat) : F.WATCH_CFG_WATCH_N.key n = 310378512 + 2048 * (n / 4) + 512 * (n % 4) := Field.key_rows F.WATCH_CFG_WATCH_N n
@[simp] theorem F.WATCH_CFG_WATCH_N_acc : F.WATCH_CFG_WATCH_N.acc = .rw := rfl
@[simp] theorem F.WATCH_CFG_WATCH_N_width : F.WATCH_CFG_WATCH_N.width = 16 := rfl
@[simp] theorem F.WATCH_XY_X_key (n : Nat) : F.WATCH_XY_X.key n = 310378624 + 2048 * (n / 4) + 512 * (n % 4) := Field.key_rows F.WATCH_XY_X n
@[simp] theorem F.WATCH_XY_X_acc : F.WATCH_XY_X.acc = .rw := rfl
@[simp] theorem F.WATCH_XY_X_width : F.WATCH_XY_X.width = 12 := rfl
@[simp] theorem F.WATCH_XY_Y_key (n : Nat) : F.WATCH_XY_Y.key n = 310378640 + 2048 * (n / 4) + 512 * (n % 4) := Field.key_rows F.WATCH_XY_Y n
@[simp] theorem F.WATCH_XY_Y_acc : F.WATCH_XY_Y.acc = .rw := rfl
@[simp] theorem F.WATCH_XY_Y_width : F.WATCH_XY_Y.width = 12 := rfl
@[simp] theorem F.WATCH_WH_W_key (n : Nat) : F.WATCH_WH_W.key n = 310378752 + 2048 * (n / 4) + 512 * (n % 4) := Field.key_rows F.WATCH_WH_W n
@[simp] theorem F.WATCH_WH_W_acc : F.WATCH_WH_W.acc = .rw := rfl
@[simp] theorem F.WATCH_WH_W_width : F.WATCH_WH_W.width = 12 := rfl
@[simp] theorem F.WATCH_WH_H_key (n : Nat) : F.WATCH_WH_H.key n = 310378768 + 2048 * (n / 4) + 512 * (n % 4) := Field.key_rows F.WATCH_WH_H n
@[simp] theorem F.WATCH_WH_H_acc : F.WATCH_WH_H.acc = .rw := rfl
@[simp] theorem F.WATCH_WH_H_width : F.WATCH_WH_H.width = 12 := rfl
@[simp] theorem F.WATCH_STATUS_UNCHANGED_key (n : Nat) : F.WATCH_STATUS_UNCHANGED.key n = 310378880 + 2048 * (n / 4) + 512 * (n % 4) := Field.key_rows F.WATCH_STATUS_UNCHANGED n
@[simp] theorem F.WATCH_STATUS_UNCHANGED_acc : F.WATCH_STATUS_UNCHANGED.acc = .ro := rfl
@[simp] theorem F.WATCH_STATUS_UNCHANGED_width : F.WATCH_STATUS_UNCHANGED.width = 16 := rfl
@[simp] theorem F.WATCH_STATUS_FROZEN_key (n : Nat) : F.WATCH_STATUS_FROZEN.key n = 310378896 + 2048 * (n / 4) + 512 * (n % 4) := Field.key_rows F.WATCH_STATUS_FROZEN n
@[simp] theorem F.WATCH_STATUS_FROZEN_acc : F.WATCH_STATUS_FROZEN.acc = .ro := rfl
@[simp] theorem F.WATCH_STATUS_FROZEN_width : F.WATCH_STATUS_FROZEN.width = 1 := rfl
@[simp] theorem F.FAB_CFG_N_key (n : Nat) : F.FAB_CFG_N.key n = 335552512 := Field.key_one F.FAB_CFG_N n rfl rfl
@[simp] theorem F.FAB_CFG_N_acc : F.FAB_CFG_N.acc = .rw := rfl
@[simp] theorem F.FAB_CFG_N_width : F.FAB_CFG_N.width = 5 := rfl
@[simp] theorem F.FAB_CFG_AUTH_MODE_key (n : Nat) : F.FAB_CFG_AUTH_MODE.key n = 335552517 := Field.key_one F.FAB_CFG_AUTH_MODE n rfl rfl
@[simp] theorem F.FAB_CFG_AUTH_MODE_acc : F.FAB_CFG_AUTH_MODE.acc = .rw := rfl
@[simp] theorem F.FAB_CFG_AUTH_MODE_width : F.FAB_CFG_AUTH_MODE.width = 1 := rfl
@[simp] theorem F.FAB_CFG_AUTO_GROW_key (n : Nat) : F.FAB_CFG_AUTO_GROW.key n = 335552518 := Field.key_one F.FAB_CFG_AUTO_GROW n rfl rfl
@[simp] theorem F.FAB_CFG_AUTO_GROW_acc : F.FAB_CFG_AUTO_GROW.acc = .rw := rfl
@[simp] theorem F.FAB_CFG_AUTO_GROW_width : F.FAB_CFG_AUTO_GROW.width = 1 := rfl
@[simp] theorem F.FAB_CFG_REVERT_key (n : Nat) : F.FAB_CFG_REVERT.key n = 335552519 := Field.key_one F.FAB_CFG_REVERT n rfl rfl
@[simp] theorem F.FAB_CFG_REVERT_acc : F.FAB_CFG_REVERT.acc = .rw := rfl
@[simp] theorem F.FAB_CFG_REVERT_width : F.FAB_CFG_REVERT.width = 1 := rfl
@[simp] theorem F.FAB_CFG_HOLD_MS_key (n : Nat) : F.FAB_CFG_HOLD_MS.key n = 335552528 := Field.key_one F.FAB_CFG_HOLD_MS n rfl rfl
@[simp] theorem F.FAB_CFG_HOLD_MS_acc : F.FAB_CFG_HOLD_MS.acc = .rw := rfl
@[simp] theorem F.FAB_CFG_HOLD_MS_width : F.FAB_CFG_HOLD_MS.width = 16 := rfl
@[simp] theorem F.FAB_CFG2_REROUTE_MS_key (n : Nat) : F.FAB_CFG2_REROUTE_MS.key n = 335552640 := Field.key_one F.FAB_CFG2_REROUTE_MS n rfl rfl
@[simp] theorem F.FAB_CFG2_REROUTE_MS_acc : F.FAB_CFG2_REROUTE_MS.acc = .rw := rfl
@[simp] theorem F.FAB_CFG2_REROUTE_MS_width : F.FAB_CFG2_REROUTE_MS.width = 16 := rfl
@[simp] theorem F.FAB_CFG2_REVERT_S_key (n : Nat) : F.FAB_CFG2_REVERT_S.key n = 335552656 := Field.key_one F.FAB_CFG2_REVERT_S n rfl rfl
@[simp] theorem F.FAB_CFG2_REVERT_S_acc : F.FAB_CFG2_REVERT_S.acc = .rw := rfl
@[simp] theorem F.FAB_CFG2_REVERT_S_width : F.FAB_CFG2_REVERT_S.width = 16 := rfl
@[simp] theorem F.FAB_ID_FAB_ID_key (n : Nat) : F.FAB_ID_FAB_ID.key n = 335552768 := Field.key_one F.FAB_ID_FAB_ID n rfl rfl
@[simp] theorem F.FAB_ID_FAB_ID_acc : F.FAB_ID_FAB_ID.acc = .ro := rfl
@[simp] theorem F.FAB_ID_FAB_ID_width : F.FAB_ID_FAB_ID.width = 5 := rfl
@[simp] theorem F.FAB_ID_ID_INVALID_key (n : Nat) : F.FAB_ID_ID_INVALID.key n = 335552773 := Field.key_one F.FAB_ID_ID_INVALID n rfl rfl
@[simp] theorem F.FAB_ID_ID_INVALID_acc : F.FAB_ID_ID_INVALID.acc = .ro := rfl
@[simp] theorem F.FAB_ID_ID_INVALID_width : F.FAB_ID_ID_INVALID.width = 1 := rfl
@[simp] theorem F.FAB_TAG_TAG_key (n : Nat) : F.FAB_TAG_TAG.key n = 335552896 := Field.key_one F.FAB_TAG_TAG n rfl rfl
@[simp] theorem F.FAB_TAG_TAG_acc : F.FAB_TAG_TAG.acc = .rw := rfl
@[simp] theorem F.FAB_TAG_TAG_width : F.FAB_TAG_TAG.width = 32 := rfl
@[simp] theorem F.FAB_EPOCH_EPOCH_key (n : Nat) : F.FAB_EPOCH_EPOCH.key n = 335553024 := Field.key_one F.FAB_EPOCH_EPOCH n rfl rfl
@[simp] theorem F.FAB_EPOCH_EPOCH_acc : F.FAB_EPOCH_EPOCH.acc = .ro := rfl
@[simp] theorem F.FAB_EPOCH_EPOCH_width : F.FAB_EPOCH_EPOCH.width = 32 := rfl
@[simp] theorem F.FAB_PEND_PEND_key (n : Nat) : F.FAB_PEND_PEND.key n = 335553536 := Field.key_one F.FAB_PEND_PEND n rfl rfl
@[simp] theorem F.FAB_PEND_PEND_acc : F.FAB_PEND_PEND.acc = .ro := rfl
@[simp] theorem F.FAB_PEND_PEND_width : F.FAB_PEND_PEND.width = 17 := rfl
@[simp] theorem F.FAB_RX_PEND_PEND_key (n : Nat) : F.FAB_RX_PEND_PEND.key n = 335554560 + 128 * n := Field.key_plain F.FAB_RX_PEND_PEND n rfl
@[simp] theorem F.FAB_RX_PEND_PEND_acc : F.FAB_RX_PEND_PEND.acc = .ro := rfl
@[simp] theorem F.FAB_RX_PEND_PEND_width : F.FAB_RX_PEND_PEND.width = 32 := rfl
@[simp] theorem F.FAB_PORT_STATUS_PEER_STATE_key (n : Nat) : F.FAB_PORT_STATUS_PEER_STATE.key n = 335675392 + 8192 * n := Field.key_plain F.FAB_PORT_STATUS_PEER_STATE n rfl
@[simp] theorem F.FAB_PORT_STATUS_PEER_STATE_acc : F.FAB_PORT_STATUS_PEER_STATE.acc = .ro := rfl
@[simp] theorem F.FAB_PORT_STATUS_PEER_STATE_width : F.FAB_PORT_STATUS_PEER_STATE.width = 3 := rfl
@[simp] theorem F.FAB_PORT_STATUS_PEER_ID_key (n : Nat) : F.FAB_PORT_STATUS_PEER_ID.key n = 335675395 + 8192 * n := Field.key_plain F.FAB_PORT_STATUS_PEER_ID n rfl
@[simp] theorem F.FAB_PORT_STATUS_PEER_ID_acc : F.FAB_PORT_STATUS_PEER_ID.acc = .ro := rfl
@[simp] theorem F.FAB_PORT_STATUS_PEER_ID_width : F.FAB_PORT_STATUS_PEER_ID.width = 5 := rfl
@[simp] theorem F.FAB_PORT_STATUS_PEER_VALID_key (n : Nat) : F.FAB_PORT_STATUS_PEER_VALID.key n = 335675400 + 8192 * n := Field.key_plain F.FAB_PORT_STATUS_PEER_VALID n rfl
@[simp] theorem F.FAB_PORT_STATUS_PEER_VALID_acc : F.FAB_PORT_STATUS_PEER_VALID.acc = .ro := rfl
@[simp] theorem F.FAB_PORT_STATUS_PEER_VALID_width : F.FAB_PORT_STATUS_PEER_VALID.width = 1 := rfl
@[simp] theorem F.FAB_PORT_STATUS_RATE_key (n : Nat) : F.FAB_PORT_STATUS_RATE.key n = 335675401 + 8192 * n := Field.key_plain F.FAB_PORT_STATUS_RATE n rfl
@[simp] theorem F.FAB_PORT_STATUS_RATE_acc : F.FAB_PORT_STATUS_RATE.acc = .ro := rfl
@[simp] theorem F.FAB_PORT_STATUS_RATE_width : F.FAB_PORT_STATUS_RATE.width = 3 := rfl
@[simp] theorem F.FAB_PORT_STATUS_MEDIA_SEATS_key (n : Nat) : F.FAB_PORT_STATUS_MEDIA_SEATS.key n = 335675408 + 8192 * n := Field.key_plain F.FAB_PORT_STATUS_MEDIA_SEATS n rfl
@[simp] theorem F.FAB_PORT_STATUS_MEDIA_SEATS_acc : F.FAB_PORT_STATUS_MEDIA_SEATS.acc = .ro := rfl
@[simp] theorem F.FAB_PORT_STATUS_MEDIA_SEATS_width : F.FAB_PORT_STATUS_MEDIA_SEATS.width = 10 := rfl
@[simp] theorem F.FAB_PORT_SEATS_TX_GRANTED_key (n : Nat) : F.FAB_PORT_SEATS_TX_GRANTED.key n = 335675520 + 8192 * n := Field.key_plain F.FAB_PORT_SEATS_TX_GRANTED n rfl
@[simp] theorem F.FAB_PORT_SEATS_TX_GRANTED_acc : F.FAB_PORT_SEATS_TX_GRANTED.acc = .ro := rfl
@[simp] theorem F.FAB_PORT_SEATS_TX_GRANTED_width : F.FAB_PORT_SEATS_TX_GRANTED.width = 10 := rfl
@[simp] theorem F.FAB_PORT_SEATS_RX_GRANTED_key (n : Nat) : F.FAB_PORT_SEATS_RX_GRANTED.key n = 335675536 + 8192 * n := Field.key_plain F.FAB_PORT_SEATS_RX_GRANTED n rfl
@[simp] theorem F.FAB_PORT_SEATS_RX_GRANTED_acc : F.FAB_PORT_SEATS_RX_GRANTED.acc = .ro := rfl
@[simp] theorem F.FAB_PORT_SEATS_RX_GRANTED_width : F.FAB_PORT_SEATS_RX_GRANTED.width = 10 := rfl
@[simp] theorem F.FAB_PORT_HIST_UP_GAINED_key (n : Nat) : F.FAB_PORT_HIST_UP_GAINED.key n = 335675648 + 8192 * n := Field.key_plain F.FAB_PORT_HIST_UP_GAINED n rfl
@[simp] theorem F.FAB_PORT_HIST_UP_GAINED_acc : F.FAB_PORT_HIST_UP_GAINED.acc = .w1c := rfl
@[simp] theorem F.FAB_PORT_HIST_UP_GAINED_width : F.FAB_PORT_HIST_UP_GAINED.width = 1 := rfl
@[simp] theorem F.FAB_PORT_HIST_UP_LOST_key (n : Nat) : F.FAB_PORT_HIST_UP_LOST.key n = 335675649 + 8192 * n := Field.key_plain F.FAB_PORT_HIST_UP_LOST n rfl
@[simp] theorem F.FAB_PORT_HIST_UP_LOST_acc : F.FAB_PORT_HIST_UP_LOST.acc = .w1c := rfl
@[simp] theorem F.FAB_PORT_HIST_UP_LOST_width : F.FAB_PORT_HIST_UP_LOST.width = 1 := rfl
@[simp] theorem F.FAB_PORT_HIST_WIRING_ERR_key (n : Nat) : F.FAB_PORT_HIST_WIRING_ERR.key n = 335675650 + 8192 * n := Field.key_plain F.FAB_PORT_HIST_WIRING_ERR n rfl
@[simp] theorem F.FAB_PORT_HIST_WIRING_ERR_acc : F.FAB_PORT_HIST_WIRING_ERR.acc = .w1c := rfl
@[simp] theorem F.FAB_PORT_HIST_WIRING_ERR_width : F.FAB_PORT_HIST_WIRING_ERR.width = 1 := rfl
@[simp] theorem F.FAB_PORT_HIST_AUTH_FAIL_key (n : Nat) : F.FAB_PORT_HIST_AUTH_FAIL.key n = 335675651 + 8192 * n := Field.key_plain F.FAB_PORT_HIST_AUTH_FAIL n rfl
@[simp] theorem F.FAB_PORT_HIST_AUTH_FAIL_acc : F.FAB_PORT_HIST_AUTH_FAIL.acc = .w1c := rfl
@[simp] theorem F.FAB_PORT_HIST_AUTH_FAIL_width : F.FAB_PORT_HIST_AUTH_FAIL.width = 1 := rfl
@[simp] theorem F.FAB_PORT_HIST_INCOMPATIBLE_key (n : Nat) : F.FAB_PORT_HIST_INCOMPATIBLE.key n = 335675652 + 8192 * n := Field.key_plain F.FAB_PORT_HIST_INCOMPATIBLE n rfl
@[simp] theorem F.FAB_PORT_HIST_INCOMPATIBLE_acc : F.FAB_PORT_HIST_INCOMPATIBLE.acc = .w1c := rfl
@[simp] theorem F.FAB_PORT_HIST_INCOMPATIBLE_width : F.FAB_PORT_HIST_INCOMPATIBLE.width = 1 := rfl
@[simp] theorem F.FAB_PORT_HIST_SEAT_OVER_key (n : Nat) : F.FAB_PORT_HIST_SEAT_OVER.key n = 335675653 + 8192 * n := Field.key_plain F.FAB_PORT_HIST_SEAT_OVER n rfl
@[simp] theorem F.FAB_PORT_HIST_SEAT_OVER_acc : F.FAB_PORT_HIST_SEAT_OVER.acc = .w1c := rfl
@[simp] theorem F.FAB_PORT_HIST_SEAT_OVER_width : F.FAB_PORT_HIST_SEAT_OVER.width = 1 := rfl
@[simp] theorem F.FAB_PORT_HIST_RELAY_FULL_key (n : Nat) : F.FAB_PORT_HIST_RELAY_FULL.key n = 335675654 + 8192 * n := Field.key_plain F.FAB_PORT_HIST_RELAY_FULL n rfl
@[simp] theorem F.FAB_PORT_HIST_RELAY_FULL_acc : F.FAB_PORT_HIST_RELAY_FULL.acc = .w1c := rfl
@[simp] theorem F.FAB_PORT_HIST_RELAY_FULL_width : F.FAB_PORT_HIST_RELAY_FULL.width = 1 := rfl
@[simp] theorem F.FAB_PORT_HIST_NEW_EPOCH_key (n : Nat) : F.FAB_PORT_HIST_NEW_EPOCH.key n = 335675655 + 8192 * n := Field.key_plain F.FAB_PORT_HIST_NEW_EPOCH n rfl
@[simp] theorem F.FAB_PORT_HIST_NEW_EPOCH_acc : F.FAB_PORT_HIST_NEW_EPOCH.acc = .w1c := rfl
@[simp] theorem F.FAB_PORT_HIST_NEW_EPOCH_width : F.FAB_PORT_HIST_NEW_EPOCH.width = 1 := rfl
@[simp] theorem F.FAB_PORT_IRQ_EN_EN_key (n : Nat) : F.FAB_PORT_IRQ_EN_EN.key n = 335675776 + 8192 * n := Field.key_plain F.FAB_PORT_IRQ_EN_EN n rfl
@[simp] theorem F.FAB_PORT_IRQ_EN_EN_acc : F.FAB_PORT_IRQ_EN_EN.acc = .rw := rfl
@[simp] theorem F.FAB_PORT_IRQ_EN_EN_width : F.FAB_PORT_IRQ_EN_EN.width = 8 := rfl
@[simp] theorem F.FAB_TX_STROKE_CNT_COUNT_key (n : Nat) : F.FAB_TX_STROKE_CNT_COUNT.key n = 335675904 + 8192 * n := Field.key_plain F.FAB_TX_STROKE_CNT_COUNT n rfl
@[simp] theorem F.FAB_TX_STROKE_CNT_COUNT_acc : F.FAB_TX_STROKE_CNT_COUNT.acc = .rcl := rfl
@[simp] theorem F.FAB_TX_STROKE_CNT_COUNT_width : F.FAB_TX_STROKE_CNT_COUNT.width = 32 := rfl
@[simp] theorem F.FAB_RX_STROKE_CNT_COUNT_key (n : Nat) : F.FAB_RX_STROKE_CNT_COUNT.key n = 335676032 + 8192 * n := Field.key_plain F.FAB_RX_STROKE_CNT_COUNT n rfl
@[simp] theorem F.FAB_RX_STROKE_CNT_COUNT_acc : F.FAB_RX_STROKE_CNT_COUNT.acc = .rcl := rfl
@[simp] theorem F.FAB_RX_STROKE_CNT_COUNT_width : F.FAB_RX_STROKE_CNT_COUNT.width = 32 := rfl
@[simp] theorem F.FAB_TX_DROP_CNT_COUNT_key (n : Nat) : F.FAB_TX_DROP_CNT_COUNT.key n = 335676160 + 8192 * n := Field.key_plain F.FAB_TX_DROP_CNT_COUNT n rfl
@[simp] theorem F.FAB_TX_DROP_CNT_COUNT_acc : F.FAB_TX_DROP_CNT_COUNT.acc = .rcl := rfl
@[simp] theorem F.FAB_TX_DROP_CNT_COUNT_width : F.FAB_TX_DROP_CNT_COUNT.width = 32 := rfl
@[simp] theorem F.FAB_RX_ERR_CNT_COUNT_key (n : Nat) : F.FAB_RX_ERR_CNT_COUNT.key n = 335676288 + 8192 * n := Field.key_plain F.FAB_RX_ERR_CNT_COUNT n rfl
@[simp] theorem F.FAB_RX_ERR_CNT_COUNT_acc : F.FAB_RX_ERR_CNT_COUNT.acc = .rcl := rfl
@[simp] theorem F.FAB_RX_ERR_CNT_COUNT_width : F.FAB_RX_ERR_CNT_COUNT.width = 32 := rfl
@[simp] theorem F.FAB_RX_LATE_CNT_COUNT_key (n : Nat) : F.FAB_RX_LATE_CNT_COUNT.key n = 335676416 + 8192 * n := Field.key_plain F.FAB_RX_LATE_CNT_COUNT n rfl
@[simp] theorem F.FAB_RX_LATE_CNT_COUNT_acc : F.FAB_RX_LATE_CNT_COUNT.acc = .rcl := rfl
@[simp] theorem F.FAB_RX_LATE_CNT_COUNT_width : F.FAB_RX_LATE_CNT_COUNT.width = 32 := rfl
@[simp] theorem F.FAB_RX_EARLY_CNT_COUNT_key (n : Nat) : F.FAB_RX_EARLY_CNT_COUNT.key n = 335676544 + 8192 * n := Field.key_plain F.FAB_RX_EARLY_CNT_COUNT n rfl
@[simp] theorem F.FAB_RX_EARLY_CNT_COUNT_acc : F.FAB_RX_EARLY_CNT_COUNT.acc = .rcl := rfl
@[simp] theorem F.FAB_RX_EARLY_CNT_COUNT_width : F.FAB_RX_EARLY_CNT_COUNT.width = 32 := rfl
@[simp] theorem F.FAB_RELAY_DROP_CNT_COUNT_key (n : Nat) : F.FAB_RELAY_DROP_CNT_COUNT.key n = 335676672 + 8192 * n := Field.key_plain F.FAB_RELAY_DROP_CNT_COUNT n rfl
@[simp] theorem F.FAB_RELAY_DROP_CNT_COUNT_acc : F.FAB_RELAY_DROP_CNT_COUNT.acc = .rcl := rfl
@[simp] theorem F.FAB_RELAY_DROP_CNT_COUNT_width : F.FAB_RELAY_DROP_CNT_COUNT.width = 32 := rfl
@[simp] theorem F.FAB_RX_STREAM_STREAM_key (n : Nat) : F.FAB_RX_STREAM_STREAM.key n = 336068608 + 2048 * n := Field.key_plain F.FAB_RX_STREAM_STREAM n rfl
@[simp] theorem F.FAB_RX_STREAM_STREAM_acc : F.FAB_RX_STREAM_STREAM.acc = .ro := rfl
@[simp] theorem F.FAB_RX_STREAM_STREAM_width : F.FAB_RX_STREAM_STREAM.width = 14 := rfl
@[simp] theorem F.FAB_RX_STREAM_EN_key (n : Nat) : F.FAB_RX_STREAM_EN.key n = 336068622 + 2048 * n := Field.key_plain F.FAB_RX_STREAM_EN n rfl
@[simp] theorem F.FAB_RX_STREAM_EN_acc : F.FAB_RX_STREAM_EN.acc = .ro := rfl
@[simp] theorem F.FAB_RX_STREAM_EN_width : F.FAB_RX_STREAM_EN.width = 1 := rfl
@[simp] theorem F.FAB_RX_STREAM_COPIES_key (n : Nat) : F.FAB_RX_STREAM_COPIES.key n = 336068623 + 2048 * n := Field.key_plain F.FAB_RX_STREAM_COPIES n rfl
@[simp] theorem F.FAB_RX_STREAM_COPIES_acc : F.FAB_RX_STREAM_COPIES.acc = .ro := rfl
@[simp] theorem F.FAB_RX_STREAM_COPIES_width : F.FAB_RX_STREAM_COPIES.width = 2 := rfl
@[simp] theorem F.FAB_RX_STREAM_UNPROTECTED_key (n : Nat) : F.FAB_RX_STREAM_UNPROTECTED.key n = 336068625 + 2048 * n := Field.key_plain F.FAB_RX_STREAM_UNPROTECTED n rfl
@[simp] theorem F.FAB_RX_STREAM_UNPROTECTED_acc : F.FAB_RX_STREAM_UNPROTECTED.acc = .ro := rfl
@[simp] theorem F.FAB_RX_STREAM_UNPROTECTED_width : F.FAB_RX_STREAM_UNPROTECTED.width = 1 := rfl
@[simp] theorem F.FAB_RX_STREAM_OVER_CLASS_key (n : Nat) : F.FAB_RX_STREAM_OVER_CLASS.key n = 336068626 + 2048 * n := Field.key_plain F.FAB_RX_STREAM_OVER_CLASS n rfl
@[simp] theorem F.FAB_RX_STREAM_OVER_CLASS_acc : F.FAB_RX_STREAM_OVER_CLASS.acc = .ro := rfl
@[simp] theorem F.FAB_RX_STREAM_OVER_CLASS_width : F.FAB_RX_STREAM_OVER_CLASS.width = 1 := rfl
@[simp] theorem F.FAB_RX_HIST_BOW_LOST_key (n : Nat) : F.FAB_RX_HIST_BOW_LOST.key n = 336068736 + 2048 * n := Field.key_plain F.FAB_RX_HIST_BOW_LOST n rfl
@[simp] theorem F.FAB_RX_HIST_BOW_LOST_acc : F.FAB_RX_HIST_BOW_LOST.acc = .w1c := rfl
@[simp] theorem F.FAB_RX_HIST_BOW_LOST_width : F.FAB_RX_HIST_BOW_LOST.width = 1 := rfl
@[simp] theorem F.FAB_RX_HIST_STERN_LOST_key (n : Nat) : F.FAB_RX_HIST_STERN_LOST.key n = 336068737 + 2048 * n := Field.key_plain F.FAB_RX_HIST_STERN_LOST n rfl
@[simp] theorem F.FAB_RX_HIST_STERN_LOST_acc : F.FAB_RX_HIST_STERN_LOST.acc = .w1c := rfl
@[simp] theorem F.FAB_RX_HIST_STERN_LOST_width : F.FAB_RX_HIST_STERN_LOST.width = 1 := rfl
@[simp] theorem F.FAB_RX_HIST_BOTH_LOST_key (n : Nat) : F.FAB_RX_HIST_BOTH_LOST.key n = 336068738 + 2048 * n := Field.key_plain F.FAB_RX_HIST_BOTH_LOST n rfl
@[simp] theorem F.FAB_RX_HIST_BOTH_LOST_acc : F.FAB_RX_HIST_BOTH_LOST.acc = .w1c := rfl
@[simp] theorem F.FAB_RX_HIST_BOTH_LOST_width : F.FAB_RX_HIST_BOTH_LOST.width = 1 := rfl
@[simp] theorem F.FAB_RX_HIST_COPY_DIFF_key (n : Nat) : F.FAB_RX_HIST_COPY_DIFF.key n = 336068739 + 2048 * n := Field.key_plain F.FAB_RX_HIST_COPY_DIFF n rfl
@[simp] theorem F.FAB_RX_HIST_COPY_DIFF_acc : F.FAB_RX_HIST_COPY_DIFF.acc = .w1c := rfl
@[simp] theorem F.FAB_RX_HIST_COPY_DIFF_width : F.FAB_RX_HIST_COPY_DIFF.width = 1 := rfl
@[simp] theorem F.FAB_RX_HIST_OVER_CLASS_key (n : Nat) : F.FAB_RX_HIST_OVER_CLASS.key n = 336068740 + 2048 * n := Field.key_plain F.FAB_RX_HIST_OVER_CLASS n rfl
@[simp] theorem F.FAB_RX_HIST_OVER_CLASS_acc : F.FAB_RX_HIST_OVER_CLASS.acc = .w1c := rfl
@[simp] theorem F.FAB_RX_HIST_OVER_CLASS_width : F.FAB_RX_HIST_OVER_CLASS.width = 1 := rfl
@[simp] theorem F.FAB_RX_IRQ_EN_EN_key (n : Nat) : F.FAB_RX_IRQ_EN_EN.key n = 336068864 + 2048 * n := Field.key_plain F.FAB_RX_IRQ_EN_EN n rfl
@[simp] theorem F.FAB_RX_IRQ_EN_EN_acc : F.FAB_RX_IRQ_EN_EN.acc = .rw := rfl
@[simp] theorem F.FAB_RX_IRQ_EN_EN_width : F.FAB_RX_IRQ_EN_EN.width = 5 := rfl
@[simp] theorem F.FAB_RX_WON_BOW_CNT_COUNT_key (n : Nat) : F.FAB_RX_WON_BOW_CNT_COUNT.key n = 336068992 + 2048 * n := Field.key_plain F.FAB_RX_WON_BOW_CNT_COUNT n rfl
@[simp] theorem F.FAB_RX_WON_BOW_CNT_COUNT_acc : F.FAB_RX_WON_BOW_CNT_COUNT.acc = .rcl := rfl
@[simp] theorem F.FAB_RX_WON_BOW_CNT_COUNT_width : F.FAB_RX_WON_BOW_CNT_COUNT.width = 32 := rfl
@[simp] theorem F.FAB_RX_WON_STERN_CNT_COUNT_key (n : Nat) : F.FAB_RX_WON_STERN_CNT_COUNT.key n = 336069120 + 2048 * n := Field.key_plain F.FAB_RX_WON_STERN_CNT_COUNT n rfl
@[simp] theorem F.FAB_RX_WON_STERN_CNT_COUNT_acc : F.FAB_RX_WON_STERN_CNT_COUNT.acc = .rcl := rfl
@[simp] theorem F.FAB_RX_WON_STERN_CNT_COUNT_width : F.FAB_RX_WON_STERN_CNT_COUNT.width = 32 := rfl
@[simp] theorem F.FAB_RX_DUP_CNT_COUNT_key (n : Nat) : F.FAB_RX_DUP_CNT_COUNT.key n = 336069248 + 2048 * n := Field.key_plain F.FAB_RX_DUP_CNT_COUNT n rfl
@[simp] theorem F.FAB_RX_DUP_CNT_COUNT_acc : F.FAB_RX_DUP_CNT_COUNT.acc = .rcl := rfl
@[simp] theorem F.FAB_RX_DUP_CNT_COUNT_width : F.FAB_RX_DUP_CNT_COUNT.width = 32 := rfl
@[simp] theorem F.FAB_RX_DIFF_CNT_COUNT_key (n : Nat) : F.FAB_RX_DIFF_CNT_COUNT.key n = 336069376 + 2048 * n := Field.key_plain F.FAB_RX_DIFF_CNT_COUNT n rfl
@[simp] theorem F.FAB_RX_DIFF_CNT_COUNT_acc : F.FAB_RX_DIFF_CNT_COUNT.acc = .rcl := rfl
@[simp] theorem F.FAB_RX_DIFF_CNT_COUNT_width : F.FAB_RX_DIFF_CNT_COUNT.width = 32 := rfl
@[simp] theorem F.FAB_RX_MISSING_CNT_COUNT_key (n : Nat) : F.FAB_RX_MISSING_CNT_COUNT.key n = 336069504 + 2048 * n := Field.key_plain F.FAB_RX_MISSING_CNT_COUNT n rfl
@[simp] theorem F.FAB_RX_MISSING_CNT_COUNT_acc : F.FAB_RX_MISSING_CNT_COUNT.acc = .rcl := rfl
@[simp] theorem F.FAB_RX_MISSING_CNT_COUNT_width : F.FAB_RX_MISSING_CNT_COUNT.width = 32 := rfl
@[simp] theorem F.FAB_SRC_SUBS_SUBS_key (n : Nat) : F.FAB_SRC_SUBS_SUBS.key n = 337641472 + 512 * n := Field.key_plain F.FAB_SRC_SUBS_SUBS n rfl
@[simp] theorem F.FAB_SRC_SUBS_SUBS_acc : F.FAB_SRC_SUBS_SUBS.acc = .ro := rfl
@[simp] theorem F.FAB_SRC_SUBS_SUBS_width : F.FAB_SRC_SUBS_SUBS.width = 18 := rfl
@[simp] theorem F.FAB_SRC_PEND_HELD_key (n : Nat) : F.FAB_SRC_PEND_HELD.key n = 337641600 + 512 * n := Field.key_plain F.FAB_SRC_PEND_HELD n rfl
@[simp] theorem F.FAB_SRC_PEND_HELD_acc : F.FAB_SRC_PEND_HELD.acc = .ro := rfl
@[simp] theorem F.FAB_SRC_PEND_HELD_width : F.FAB_SRC_PEND_HELD.width = 18 := rfl
@[simp] theorem F.FAB_SRC_SEATS_SEATS_key (n : Nat) : F.FAB_SRC_SEATS_SEATS.key n = 337641728 + 512 * n := Field.key_plain F.FAB_SRC_SEATS_SEATS n rfl
@[simp] theorem F.FAB_SRC_SEATS_SEATS_acc : F.FAB_SRC_SEATS_SEATS.acc = .ro := rfl
@[simp] theorem F.FAB_SRC_SEATS_SEATS_width : F.FAB_SRC_SEATS_SEATS.width = 8 := rfl
@[simp] theorem F.FAB_SRC_SEATS_LINKS_key (n : Nat) : F.FAB_SRC_SEATS_LINKS.key n = 337641736 + 512 * n := Field.key_plain F.FAB_SRC_SEATS_LINKS n rfl
@[simp] theorem F.FAB_SRC_SEATS_LINKS_acc : F.FAB_SRC_SEATS_LINKS.acc = .ro := rfl
@[simp] theorem F.FAB_SRC_SEATS_LINKS_width : F.FAB_SRC_SEATS_LINKS.width = 5 := rfl
@[simp] theorem F.COX_CFG_FEATHER_DEF_key (n : Nat) : F.COX_CFG_FEATHER_DEF.key n = 369106944 := Field.key_one F.COX_CFG_FEATHER_DEF n rfl rfl
@[simp] theorem F.COX_CFG_FEATHER_DEF_acc : F.COX_CFG_FEATHER_DEF.acc = .rw := rfl
@[simp] theorem F.COX_CFG_FEATHER_DEF_width : F.COX_CFG_FEATHER_DEF.width = 7 := rfl
@[simp] theorem F.COX_STATUS_ENTRIES_USED_key (n : Nat) : F.COX_STATUS_ENTRIES_USED.key n = 369107072 := Field.key_one F.COX_STATUS_ENTRIES_USED n rfl rfl
@[simp] theorem F.COX_STATUS_ENTRIES_USED_acc : F.COX_STATUS_ENTRIES_USED.acc = .ro := rfl
@[simp] theorem F.COX_STATUS_ENTRIES_USED_width : F.COX_STATUS_ENTRIES_USED.width = 11 := rfl
@[simp] theorem F.COX_STATUS_REGATTAS_OPEN_key (n : Nat) : F.COX_STATUS_REGATTAS_OPEN.key n = 369107088 := Field.key_one F.COX_STATUS_REGATTAS_OPEN n rfl rfl
@[simp] theorem F.COX_STATUS_REGATTAS_OPEN_acc : F.COX_STATUS_REGATTAS_OPEN.acc = .ro := rfl
@[simp] theorem F.COX_STATUS_REGATTAS_OPEN_width : F.COX_STATUS_REGATTAS_OPEN.width = 5 := rfl
@[simp] theorem F.COX_HIST_EXECUTED_key (n : Nat) : F.COX_HIST_EXECUTED.key n = 369107200 := Field.key_one F.COX_HIST_EXECUTED n rfl rfl
@[simp] theorem F.COX_HIST_EXECUTED_acc : F.COX_HIST_EXECUTED.acc = .w1c := rfl
@[simp] theorem F.COX_HIST_EXECUTED_width : F.COX_HIST_EXECUTED.width = 1 := rfl
@[simp] theorem F.COX_HIST_LATE_key (n : Nat) : F.COX_HIST_LATE.key n = 369107201 := Field.key_one F.COX_HIST_LATE n rfl rfl
@[simp] theorem F.COX_HIST_LATE_acc : F.COX_HIST_LATE.acc = .w1c := rfl
@[simp] theorem F.COX_HIST_LATE_width : F.COX_HIST_LATE.width = 1 := rfl
@[simp] theorem F.COX_HIST_REFUSED_key (n : Nat) : F.COX_HIST_REFUSED.key n = 369107202 := Field.key_one F.COX_HIST_REFUSED n rfl rfl
@[simp] theorem F.COX_HIST_REFUSED_acc : F.COX_HIST_REFUSED.acc = .w1c := rfl
@[simp] theorem F.COX_HIST_REFUSED_width : F.COX_HIST_REFUSED.width = 1 := rfl
@[simp] theorem F.COX_HIST_CANCELLED_key (n : Nat) : F.COX_HIST_CANCELLED.key n = 369107203 := Field.key_one F.COX_HIST_CANCELLED n rfl rfl
@[simp] theorem F.COX_HIST_CANCELLED_acc : F.COX_HIST_CANCELLED.acc = .w1c := rfl
@[simp] theorem F.COX_HIST_CANCELLED_width : F.COX_HIST_CANCELLED.width = 1 := rfl
@[simp] theorem F.COX_HIST_ABANDONED_key (n : Nat) : F.COX_HIST_ABANDONED.key n = 369107204 := Field.key_one F.COX_HIST_ABANDONED n rfl rfl
@[simp] theorem F.COX_HIST_ABANDONED_acc : F.COX_HIST_ABANDONED.acc = .w1c := rfl
@[simp] theorem F.COX_HIST_ABANDONED_width : F.COX_HIST_ABANDONED.width = 1 := rfl
@[simp] theorem F.COX_HIST_MISMATCH_key (n : Nat) : F.COX_HIST_MISMATCH.key n = 369107205 := Field.key_one F.COX_HIST_MISMATCH n rfl rfl
@[simp] theorem F.COX_HIST_MISMATCH_acc : F.COX_HIST_MISMATCH.acc = .w1c := rfl
@[simp] theorem F.COX_HIST_MISMATCH_width : F.COX_HIST_MISMATCH.width = 1 := rfl
@[simp] theorem F.COX_HIST_QUEUE_FULL_key (n : Nat) : F.COX_HIST_QUEUE_FULL.key n = 369107206 := Field.key_one F.COX_HIST_QUEUE_FULL n rfl rfl
@[simp] theorem F.COX_HIST_QUEUE_FULL_acc : F.COX_HIST_QUEUE_FULL.acc = .w1c := rfl
@[simp] theorem F.COX_HIST_QUEUE_FULL_width : F.COX_HIST_QUEUE_FULL.width = 1 := rfl
@[simp] theorem F.COX_HIST_GO_LATE_key (n : Nat) : F.COX_HIST_GO_LATE.key n = 369107207 := Field.key_one F.COX_HIST_GO_LATE n rfl rfl
@[simp] theorem F.COX_HIST_GO_LATE_acc : F.COX_HIST_GO_LATE.acc = .w1c := rfl
@[simp] theorem F.COX_HIST_GO_LATE_width : F.COX_HIST_GO_LATE.width = 1 := rfl
@[simp] theorem F.COX_HIST_CFG_REJECTED_key (n : Nat) : F.COX_HIST_CFG_REJECTED.key n = 369107208 := Field.key_one F.COX_HIST_CFG_REJECTED n rfl rfl
@[simp] theorem F.COX_HIST_CFG_REJECTED_acc : F.COX_HIST_CFG_REJECTED.acc = .w1c := rfl
@[simp] theorem F.COX_HIST_CFG_REJECTED_width : F.COX_HIST_CFG_REJECTED.width = 1 := rfl
@[simp] theorem F.COX_IRQ_EN_EN_key (n : Nat) : F.COX_IRQ_EN_EN.key n = 369107328 := Field.key_one F.COX_IRQ_EN_EN n rfl rfl
@[simp] theorem F.COX_IRQ_EN_EN_acc : F.COX_IRQ_EN_EN.acc = .rw := rfl
@[simp] theorem F.COX_IRQ_EN_EN_width : F.COX_IRQ_EN_EN.width = 9 := rfl
@[simp] theorem F.COX_EXEC_CNT_COUNT_key (n : Nat) : F.COX_EXEC_CNT_COUNT.key n = 369107456 := Field.key_one F.COX_EXEC_CNT_COUNT n rfl rfl
@[simp] theorem F.COX_EXEC_CNT_COUNT_acc : F.COX_EXEC_CNT_COUNT.acc = .rcl := rfl
@[simp] theorem F.COX_EXEC_CNT_COUNT_width : F.COX_EXEC_CNT_COUNT.width = 32 := rfl
@[simp] theorem F.COX_LATE_CNT_COUNT_key (n : Nat) : F.COX_LATE_CNT_COUNT.key n = 369107584 := Field.key_one F.COX_LATE_CNT_COUNT n rfl rfl
@[simp] theorem F.COX_LATE_CNT_COUNT_acc : F.COX_LATE_CNT_COUNT.acc = .rcl := rfl
@[simp] theorem F.COX_LATE_CNT_COUNT_width : F.COX_LATE_CNT_COUNT.width = 32 := rfl
@[simp] theorem F.COX_REFUSE_CNT_COUNT_key (n : Nat) : F.COX_REFUSE_CNT_COUNT.key n = 369107712 := Field.key_one F.COX_REFUSE_CNT_COUNT n rfl rfl
@[simp] theorem F.COX_REFUSE_CNT_COUNT_acc : F.COX_REFUSE_CNT_COUNT.acc = .rcl := rfl
@[simp] theorem F.COX_REFUSE_CNT_COUNT_width : F.COX_REFUSE_CNT_COUNT.width = 32 := rfl
@[simp] theorem F.COX_CANCEL_CNT_COUNT_key (n : Nat) : F.COX_CANCEL_CNT_COUNT.key n = 369107840 := Field.key_one F.COX_CANCEL_CNT_COUNT n rfl rfl
@[simp] theorem F.COX_CANCEL_CNT_COUNT_acc : F.COX_CANCEL_CNT_COUNT.acc = .rcl := rfl
@[simp] theorem F.COX_CANCEL_CNT_COUNT_width : F.COX_CANCEL_CNT_COUNT.width = 32 := rfl
@[simp] theorem F.COX_ABANDON_CNT_COUNT_key (n : Nat) : F.COX_ABANDON_CNT_COUNT.key n = 369107968 := Field.key_one F.COX_ABANDON_CNT_COUNT n rfl rfl
@[simp] theorem F.COX_ABANDON_CNT_COUNT_acc : F.COX_ABANDON_CNT_COUNT.acc = .rcl := rfl
@[simp] theorem F.COX_ABANDON_CNT_COUNT_width : F.COX_ABANDON_CNT_COUNT.width = 32 := rfl
@[simp] theorem F.COX_MISMATCH_MISMATCH_key (n : Nat) : F.COX_MISMATCH_MISMATCH.key n = 369115136 + 128 * n := Field.key_plain F.COX_MISMATCH_MISMATCH n rfl
@[simp] theorem F.COX_MISMATCH_MISMATCH_acc : F.COX_MISMATCH_MISMATCH.acc = .ro := rfl
@[simp] theorem F.COX_MISMATCH_MISMATCH_width : F.COX_MISMATCH_MISMATCH.width = 32 := rfl
@[simp] theorem F.COX_RG_ID_REGATTA_ID_key (n : Nat) : F.COX_RG_ID_REGATTA_ID.key n = 369131520 + 1024 * n := Field.key_plain F.COX_RG_ID_REGATTA_ID n rfl
@[simp] theorem F.COX_RG_ID_REGATTA_ID_acc : F.COX_RG_ID_REGATTA_ID.acc = .ro := rfl
@[simp] theorem F.COX_RG_ID_REGATTA_ID_width : F.COX_RG_ID_REGATTA_ID.width = 16 := rfl
@[simp] theorem F.COX_RG_ID_LEADER_key (n : Nat) : F.COX_RG_ID_LEADER.key n = 369131536 + 1024 * n := Field.key_plain F.COX_RG_ID_LEADER n rfl
@[simp] theorem F.COX_RG_ID_LEADER_acc : F.COX_RG_ID_LEADER.acc = .ro := rfl
@[simp] theorem F.COX_RG_ID_LEADER_width : F.COX_RG_ID_LEADER.width = 5 := rfl
@[simp] theorem F.COX_RG_ID_IS_LEADER_key (n : Nat) : F.COX_RG_ID_IS_LEADER.key n = 369131541 + 1024 * n := Field.key_plain F.COX_RG_ID_IS_LEADER n rfl
@[simp] theorem F.COX_RG_ID_IS_LEADER_acc : F.COX_RG_ID_IS_LEADER.acc = .ro := rfl
@[simp] theorem F.COX_RG_ID_IS_LEADER_width : F.COX_RG_ID_IS_LEADER.width = 1 := rfl
@[simp] theorem F.COX_RG_ID_TL_key (n : Nat) : F.COX_RG_ID_TL.key n = 369131542 + 1024 * n := Field.key_plain F.COX_RG_ID_TL n rfl
@[simp] theorem F.COX_RG_ID_TL_acc : F.COX_RG_ID_TL.acc = .ro := rfl
@[simp] theorem F.COX_RG_ID_TL_width : F.COX_RG_ID_TL.width = 1 := rfl
@[simp] theorem F.COX_RG_ID_POLICY_key (n : Nat) : F.COX_RG_ID_POLICY.key n = 369131543 + 1024 * n := Field.key_plain F.COX_RG_ID_POLICY n rfl
@[simp] theorem F.COX_RG_ID_POLICY_acc : F.COX_RG_ID_POLICY.acc = .ro := rfl
@[simp] theorem F.COX_RG_ID_POLICY_width : F.COX_RG_ID_POLICY.width = 1 := rfl
@[simp] theorem F.COX_RG_ID_STATE_key (n : Nat) : F.COX_RG_ID_STATE.key n = 369131544 + 1024 * n := Field.key_plain F.COX_RG_ID_STATE n rfl
@[simp] theorem F.COX_RG_ID_STATE_acc : F.COX_RG_ID_STATE.acc = .ro := rfl
@[simp] theorem F.COX_RG_ID_STATE_width : F.COX_RG_ID_STATE.width = 3 := rfl
@[simp] theorem F.COX_RG_CATCH_LO_FRAME_key (n : Nat) : F.COX_RG_CATCH_LO_FRAME.key n = 369131648 + 1024 * n := Field.key_plain F.COX_RG_CATCH_LO_FRAME n rfl
@[simp] theorem F.COX_RG_CATCH_LO_FRAME_acc : F.COX_RG_CATCH_LO_FRAME.acc = .ro := rfl
@[simp] theorem F.COX_RG_CATCH_LO_FRAME_width : F.COX_RG_CATCH_LO_FRAME.width = 32 := rfl
@[simp] theorem F.COX_RG_CATCH_HI_FRAME_key (n : Nat) : F.COX_RG_CATCH_HI_FRAME.key n = 369131776 + 1024 * n := Field.key_plain F.COX_RG_CATCH_HI_FRAME n rfl
@[simp] theorem F.COX_RG_CATCH_HI_FRAME_acc : F.COX_RG_CATCH_HI_FRAME.acc = .ro := rfl
@[simp] theorem F.COX_RG_CATCH_HI_FRAME_width : F.COX_RG_CATCH_HI_FRAME.width = 16 := rfl
@[simp] theorem F.COX_RG_MEMBERS_MEMBERS_key (n : Nat) : F.COX_RG_MEMBERS_MEMBERS.key n = 369131904 + 1024 * n := Field.key_plain F.COX_RG_MEMBERS_MEMBERS n rfl
@[simp] theorem F.COX_RG_MEMBERS_MEMBERS_acc : F.COX_RG_MEMBERS_MEMBERS.acc = .ro := rfl
@[simp] theorem F.COX_RG_MEMBERS_MEMBERS_width : F.COX_RG_MEMBERS_MEMBERS.width = 18 := rfl
@[simp] theorem F.COX_RG_VOTED_READY_key (n : Nat) : F.COX_RG_VOTED_READY.key n = 369132032 + 1024 * n := Field.key_plain F.COX_RG_VOTED_READY n rfl
@[simp] theorem F.COX_RG_VOTED_READY_acc : F.COX_RG_VOTED_READY.acc = .ro := rfl
@[simp] theorem F.COX_RG_VOTED_READY_width : F.COX_RG_VOTED_READY.width = 18 := rfl
@[simp] theorem F.COX_RG_TAKES_TAKES_key (n : Nat) : F.COX_RG_TAKES_TAKES.key n = 369132160 + 1024 * n := Field.key_plain F.COX_RG_TAKES_TAKES n rfl
@[simp] theorem F.COX_RG_TAKES_TAKES_acc : F.COX_RG_TAKES_TAKES.acc = .ro := rfl
@[simp] theorem F.COX_RG_TAKES_TAKES_width : F.COX_RG_TAKES_TAKES.width = 12 := rfl
@[simp] theorem F.COX_RG_TAKES_TOTAL_key (n : Nat) : F.COX_RG_TAKES_TOTAL.key n = 369132176 + 1024 * n := Field.key_plain F.COX_RG_TAKES_TOTAL n rfl
@[simp] theorem F.COX_RG_TAKES_TOTAL_acc : F.COX_RG_TAKES_TOTAL.acc = .ro := rfl
@[simp] theorem F.COX_RG_TAKES_TOTAL_width : F.COX_RG_TAKES_TOTAL.width = 12 := rfl
@[simp] theorem F.COX_RG_HELD_HELD_key (n : Nat) : F.COX_RG_HELD_HELD.key n = 369132288 + 1024 * n := Field.key_plain F.COX_RG_HELD_HELD n rfl
@[simp] theorem F.COX_RG_HELD_HELD_acc : F.COX_RG_HELD_HELD.acc = .ro := rfl
@[simp] theorem F.COX_RG_HELD_HELD_width : F.COX_RG_HELD_HELD.width = 12 := rfl
@[simp] theorem F.COX_RG_HELD_REASON_key (n : Nat) : F.COX_RG_HELD_REASON.key n = 369132304 + 1024 * n := Field.key_plain F.COX_RG_HELD_REASON n rfl
@[simp] theorem F.COX_RG_HELD_REASON_acc : F.COX_RG_HELD_REASON.acc = .ro := rfl
@[simp] theorem F.COX_RG_HELD_REASON_width : F.COX_RG_HELD_REASON.width = 16 := rfl
@[simp] theorem F.COX_TGT_CFG_CATCH1_key (n : Nat) : F.COX_TGT_CFG_CATCH1.key n = 371195904 + 1024 * n := Field.key_plain F.COX_TGT_CFG_CATCH1 n rfl
@[simp] theorem F.COX_TGT_CFG_CATCH1_acc : F.COX_TGT_CFG_CATCH1.acc = .rw := rfl
@[simp] theorem F.COX_TGT_CFG_CATCH1_width : F.COX_TGT_CFG_CATCH1.width = 12 := rfl
@[simp] theorem F.COX_TGT_CFG_CATCH2_key (n : Nat) : F.COX_TGT_CFG_CATCH2.key n = 371195916 + 1024 * n := Field.key_plain F.COX_TGT_CFG_CATCH2 n rfl
@[simp] theorem F.COX_TGT_CFG_CATCH2_acc : F.COX_TGT_CFG_CATCH2.acc = .rw := rfl
@[simp] theorem F.COX_TGT_CFG_CATCH2_width : F.COX_TGT_CFG_CATCH2.width = 12 := rfl
@[simp] theorem F.COX_TGT_VID_VID_SRC_key (n : Nat) : F.COX_TGT_VID_VID_SRC.key n = 371196032 + 1024 * n := Field.key_plain F.COX_TGT_VID_VID_SRC n rfl
@[simp] theorem F.COX_TGT_VID_VID_SRC_acc : F.COX_TGT_VID_VID_SRC.acc = .ro := rfl
@[simp] theorem F.COX_TGT_VID_VID_SRC_width : F.COX_TGT_VID_VID_SRC.width = 14 := rfl
@[simp] theorem F.COX_TGT_VID_SRC_MISMATCH_key (n : Nat) : F.COX_TGT_VID_SRC_MISMATCH.key n = 371196046 + 1024 * n := Field.key_plain F.COX_TGT_VID_SRC_MISMATCH n rfl
@[simp] theorem F.COX_TGT_VID_SRC_MISMATCH_acc : F.COX_TGT_VID_SRC_MISMATCH.acc = .ro := rfl
@[simp] theorem F.COX_TGT_VID_SRC_MISMATCH_width : F.COX_TGT_VID_SRC_MISMATCH.width = 1 := rfl
@[simp] theorem F.COX_TGT_VID_CMD_SRC_key (n : Nat) : F.COX_TGT_VID_CMD_SRC.key n = 371196048 + 1024 * n := Field.key_plain F.COX_TGT_VID_CMD_SRC n rfl
@[simp] theorem F.COX_TGT_VID_CMD_SRC_acc : F.COX_TGT_VID_CMD_SRC.acc = .ro := rfl
@[simp] theorem F.COX_TGT_VID_CMD_SRC_width : F.COX_TGT_VID_CMD_SRC.width = 14 := rfl
@[simp] theorem F.COX_TGT_VID_MISMATCH_key (n : Nat) : F.COX_TGT_VID_MISMATCH.key n = 371196063 + 1024 * n := Field.key_plain F.COX_TGT_VID_MISMATCH n rfl
@[simp] theorem F.COX_TGT_VID_MISMATCH_acc : F.COX_TGT_VID_MISMATCH.acc = .ro := rfl
@[simp] theorem F.COX_TGT_VID_MISMATCH_width : F.COX_TGT_VID_MISMATCH.width = 1 := rfl
@[simp] theorem F.COX_TGT_AV_AUD_SRC_key (n : Nat) : F.COX_TGT_AV_AUD_SRC.key n = 371196160 + 1024 * n := Field.key_plain F.COX_TGT_AV_AUD_SRC n rfl
@[simp] theorem F.COX_TGT_AV_AUD_SRC_acc : F.COX_TGT_AV_AUD_SRC.acc = .ro := rfl
@[simp] theorem F.COX_TGT_AV_AUD_SRC_width : F.COX_TGT_AV_AUD_SRC.width = 14 := rfl
@[simp] theorem F.COX_TGT_AV_AUD_SILENT_key (n : Nat) : F.COX_TGT_AV_AUD_SILENT.key n = 371196174 + 1024 * n := Field.key_plain F.COX_TGT_AV_AUD_SILENT n rfl
@[simp] theorem F.COX_TGT_AV_AUD_SILENT_acc : F.COX_TGT_AV_AUD_SILENT.acc = .ro := rfl
@[simp] theorem F.COX_TGT_AV_AUD_SILENT_width : F.COX_TGT_AV_AUD_SILENT.width = 1 := rfl
@[simp] theorem F.COX_TGT_AV_ANC_SRC_key (n : Nat) : F.COX_TGT_AV_ANC_SRC.key n = 371196176 + 1024 * n := Field.key_plain F.COX_TGT_AV_ANC_SRC n rfl
@[simp] theorem F.COX_TGT_AV_ANC_SRC_acc : F.COX_TGT_AV_ANC_SRC.acc = .ro := rfl
@[simp] theorem F.COX_TGT_AV_ANC_SRC_width : F.COX_TGT_AV_ANC_SRC.width = 14 := rfl
@[simp] theorem F.COX_TGT_AV_ANC_NONE_key (n : Nat) : F.COX_TGT_AV_ANC_NONE.key n = 371196190 + 1024 * n := Field.key_plain F.COX_TGT_AV_ANC_NONE n rfl
@[simp] theorem F.COX_TGT_AV_ANC_NONE_acc : F.COX_TGT_AV_ANC_NONE.acc = .ro := rfl
@[simp] theorem F.COX_TGT_AV_ANC_NONE_width : F.COX_TGT_AV_ANC_NONE.width = 1 := rfl
@[simp] theorem F.COX_TGT_LAST_TAKE_ID_key (n : Nat) : F.COX_TGT_LAST_TAKE_ID.key n = 371196288 + 1024 * n := Field.key_plain F.COX_TGT_LAST_TAKE_ID n rfl
@[simp] theorem F.COX_TGT_LAST_TAKE_ID_acc : F.COX_TGT_LAST_TAKE_ID.acc = .ro := rfl
@[simp] theorem F.COX_TGT_LAST_TAKE_ID_width : F.COX_TGT_LAST_TAKE_ID.width = 32 := rfl
@[simp] theorem F.COX_TGT_FRAME_FRAME_key (n : Nat) : F.COX_TGT_FRAME_FRAME.key n = 371196416 + 1024 * n := Field.key_plain F.COX_TGT_FRAME_FRAME n rfl
@[simp] theorem F.COX_TGT_FRAME_FRAME_acc : F.COX_TGT_FRAME_FRAME.acc = .ro := rfl
@[simp] theorem F.COX_TGT_FRAME_FRAME_width : F.COX_TGT_FRAME_FRAME.width = 32 := rfl
@[simp] theorem F.COX_TGT_STATE_QUEUED_key (n : Nat) : F.COX_TGT_STATE_QUEUED.key n = 371196544 + 1024 * n := Field.key_plain F.COX_TGT_STATE_QUEUED n rfl
@[simp] theorem F.COX_TGT_STATE_QUEUED_acc : F.COX_TGT_STATE_QUEUED.acc = .ro := rfl
@[simp] theorem F.COX_TGT_STATE_QUEUED_width : F.COX_TGT_STATE_QUEUED.width = 3 := rfl
@[simp] theorem F.COX_TGT_STATE_LAST_OUTCOME_key (n : Nat) : F.COX_TGT_STATE_LAST_OUTCOME.key n = 371196547 + 1024 * n := Field.key_plain F.COX_TGT_STATE_LAST_OUTCOME n rfl
@[simp] theorem F.COX_TGT_STATE_LAST_OUTCOME_acc : F.COX_TGT_STATE_LAST_OUTCOME.acc = .ro := rfl
@[simp] theorem F.COX_TGT_STATE_LAST_OUTCOME_width : F.COX_TGT_STATE_LAST_OUTCOME.width = 4 := rfl
@[simp] theorem F.HEAD_PEND_PEND_key (n : Nat) : F.HEAD_PEND_PEND.key n = 402661376 := Field.key_one F.HEAD_PEND_PEND n rfl rfl
@[simp] theorem F.HEAD_PEND_PEND_acc : F.HEAD_PEND_PEND.acc = .ro := rfl
@[simp] theorem F.HEAD_PEND_PEND_width : F.HEAD_PEND_PEND.width = 32 := rfl
@[simp] theorem F.STILL_CFG_EN_key (n : Nat) : F.STILL_CFG_EN.key n = 402669568 + 512 * n := Field.key_plain F.STILL_CFG_EN n rfl
@[simp] theorem F.STILL_CFG_EN_acc : F.STILL_CFG_EN.acc = .rw := rfl
@[simp] theorem F.STILL_CFG_EN_width : F.STILL_CFG_EN.width = 1 := rfl
@[simp] theorem F.STILL_CFG_FORMAT_key (n : Nat) : F.STILL_CFG_FORMAT.key n = 402669569 + 512 * n := Field.key_plain F.STILL_CFG_FORMAT n rfl
@[simp] theorem F.STILL_CFG_FORMAT_acc : F.STILL_CFG_FORMAT.acc = .rw := rfl
@[simp] theorem F.STILL_CFG_FORMAT_width : F.STILL_CFG_FORMAT.width = 5 := rfl
@[simp] theorem F.STILL_CFG_ALPHA_key (n : Nat) : F.STILL_CFG_ALPHA.key n = 402669574 + 512 * n := Field.key_plain F.STILL_CFG_ALPHA n rfl
@[simp] theorem F.STILL_CFG_ALPHA_acc : F.STILL_CFG_ALPHA.acc = .rw := rfl
@[simp] theorem F.STILL_CFG_ALPHA_width : F.STILL_CFG_ALPHA.width = 1 := rfl
@[simp] theorem F.STILL_CFG_TL_key (n : Nat) : F.STILL_CFG_TL.key n = 402669575 + 512 * n := Field.key_plain F.STILL_CFG_TL n rfl
@[simp] theorem F.STILL_CFG_TL_acc : F.STILL_CFG_TL.acc = .rw := rfl
@[simp] theorem F.STILL_CFG_TL_width : F.STILL_CFG_TL.width = 1 := rfl
@[simp] theorem F.STILL_CFG_ACTIVE_BUF_key (n : Nat) : F.STILL_CFG_ACTIVE_BUF.key n = 402669576 + 512 * n := Field.key_plain F.STILL_CFG_ACTIVE_BUF n rfl
@[simp] theorem F.STILL_CFG_ACTIVE_BUF_acc : F.STILL_CFG_ACTIVE_BUF.acc = .ro := rfl
@[simp] theorem F.STILL_CFG_ACTIVE_BUF_width : F.STILL_CFG_ACTIVE_BUF.width = 1 := rfl
@[simp] theorem F.STILL_BASE_BASE_key (n : Nat) : F.STILL_BASE_BASE.key n = 402669696 + 512 * n := Field.key_plain F.STILL_BASE_BASE n rfl
@[simp] theorem F.STILL_BASE_BASE_acc : F.STILL_BASE_BASE.acc = .rw := rfl
@[simp] theorem F.STILL_BASE_BASE_width : F.STILL_BASE_BASE.width = 12 := rfl
@[simp] theorem F.STILL_FSEQ_FSEQ_key (n : Nat) : F.STILL_FSEQ_FSEQ.key n = 402669824 + 512 * n := Field.key_plain F.STILL_FSEQ_FSEQ n rfl
@[simp] theorem F.STILL_FSEQ_FSEQ_acc : F.STILL_FSEQ_FSEQ.acc = .ro := rfl
@[simp] theorem F.STILL_FSEQ_FSEQ_width : F.STILL_FSEQ_FSEQ.width = 32 := rfl
@[simp] theorem F.HEAD_CFG_EN_key (n : Nat) : F.HEAD_CFG_EN.key n = 402784256 + 32768 * n := Field.key_plain F.HEAD_CFG_EN n rfl
@[simp] theorem F.HEAD_CFG_EN_acc : F.HEAD_CFG_EN.acc = .rw := rfl
@[simp] theorem F.HEAD_CFG_EN_width : F.HEAD_CFG_EN.width = 1 := rfl
@[simp] theorem F.HEAD_CFG_TL_key (n : Nat) : F.HEAD_CFG_TL.key n = 402784257 + 32768 * n := Field.key_plain F.HEAD_CFG_TL n rfl
@[simp] theorem F.HEAD_CFG_TL_acc : F.HEAD_CFG_TL.acc = .rw := rfl
@[simp] theorem F.HEAD_CFG_TL_width : F.HEAD_CFG_TL.width = 1 := rfl
@[simp] theorem F.HEAD_CFG_FORMAT_key (n : Nat) : F.HEAD_CFG_FORMAT.key n = 402784258 + 32768 * n := Field.key_plain F.HEAD_CFG_FORMAT n rfl
@[simp] theorem F.HEAD_CFG_FORMAT_acc : F.HEAD_CFG_FORMAT.acc = .rw := rfl
@[simp] theorem F.HEAD_CFG_FORMAT_width : F.HEAD_CFG_FORMAT.width = 5 := rfl
@[simp] theorem F.HEAD_CFG_ZMODE_key (n : Nat) : F.HEAD_CFG_ZMODE.key n = 402784263 + 32768 * n := Field.key_plain F.HEAD_CFG_ZMODE n rfl
@[simp] theorem F.HEAD_CFG_ZMODE_acc : F.HEAD_CFG_ZMODE.acc = .rw := rfl
@[simp] theorem F.HEAD_CFG_ZMODE_width : F.HEAD_CFG_ZMODE.width = 1 := rfl
@[simp] theorem F.HEAD_CFG_CSC_EN_key (n : Nat) : F.HEAD_CFG_CSC_EN.key n = 402784264 + 32768 * n := Field.key_plain F.HEAD_CFG_CSC_EN n rfl
@[simp] theorem F.HEAD_CFG_CSC_EN_acc : F.HEAD_CFG_CSC_EN.acc = .rw := rfl
@[simp] theorem F.HEAD_CFG_CSC_EN_width : F.HEAD_CFG_CSC_EN.width = 1 := rfl
@[simp] theorem F.HEAD_CFG_LUT_EN_key (n : Nat) : F.HEAD_CFG_LUT_EN.key n = 402784265 + 32768 * n := Field.key_plain F.HEAD_CFG_LUT_EN n rfl
@[simp] theorem F.HEAD_CFG_LUT_EN_acc : F.HEAD_CFG_LUT_EN.acc = .rw := rfl
@[simp] theorem F.HEAD_CFG_LUT_EN_width : F.HEAD_CFG_LUT_EN.width = 1 := rfl
@[simp] theorem F.HEAD_BG_Y_key (n : Nat) : F.HEAD_BG_Y.key n = 402784384 + 32768 * n := Field.key_plain F.HEAD_BG_Y n rfl
@[simp] theorem F.HEAD_BG_Y_acc : F.HEAD_BG_Y.acc = .rw := rfl
@[simp] theorem F.HEAD_BG_Y_width : F.HEAD_BG_Y.width = 10 := rfl
@[simp] theorem F.HEAD_BG_CB_key (n : Nat) : F.HEAD_BG_CB.key n = 402784394 + 32768 * n := Field.key_plain F.HEAD_BG_CB n rfl
@[simp] theorem F.HEAD_BG_CB_acc : F.HEAD_BG_CB.acc = .rw := rfl
@[simp] theorem F.HEAD_BG_CB_width : F.HEAD_BG_CB.width = 10 := rfl
@[simp] theorem F.HEAD_BG_CR_key (n : Nat) : F.HEAD_BG_CR.key n = 402784404 + 32768 * n := Field.key_plain F.HEAD_BG_CR n rfl
@[simp] theorem F.HEAD_BG_CR_acc : F.HEAD_BG_CR.acc = .rw := rfl
@[simp] theorem F.HEAD_BG_CR_width : F.HEAD_BG_CR.width = 10 := rfl
@[simp] theorem F.HEAD_ZORDER_LO_POS0_7_key (n : Nat) : F.HEAD_ZORDER_LO_POS0_7.key n = 402784512 + 32768 * n := Field.key_plain F.HEAD_ZORDER_LO_POS0_7 n rfl
@[simp] theorem F.HEAD_ZORDER_LO_POS0_7_acc : F.HEAD_ZORDER_LO_POS0_7.acc = .rw := rfl
@[simp] theorem F.HEAD_ZORDER_LO_POS0_7_width : F.HEAD_ZORDER_LO_POS0_7.width = 32 := rfl
@[simp] theorem F.HEAD_ZORDER_HI_POS8_15_key (n : Nat) : F.HEAD_ZORDER_HI_POS8_15.key n = 402784640 + 32768 * n := Field.key_plain F.HEAD_ZORDER_HI_POS8_15 n rfl
@[simp] theorem F.HEAD_ZORDER_HI_POS8_15_acc : F.HEAD_ZORDER_HI_POS8_15.acc = .rw := rfl
@[simp] theorem F.HEAD_ZORDER_HI_POS8_15_width : F.HEAD_ZORDER_HI_POS8_15.width = 32 := rfl
@[simp] theorem F.HEAD_STATUS_STATE_key (n : Nat) : F.HEAD_STATUS_STATE.key n = 402784768 + 32768 * n := Field.key_plain F.HEAD_STATUS_STATE n rfl
@[simp] theorem F.HEAD_STATUS_STATE_acc : F.HEAD_STATUS_STATE.acc = .ro := rfl
@[simp] theorem F.HEAD_STATUS_STATE_width : F.HEAD_STATUS_STATE.width = 2 := rfl
@[simp] theorem F.HEAD_STATUS_BANK_key (n : Nat) : F.HEAD_STATUS_BANK.key n = 402784770 + 32768 * n := Field.key_plain F.HEAD_STATUS_BANK n rfl
@[simp] theorem F.HEAD_STATUS_BANK_acc : F.HEAD_STATUS_BANK.acc = .ro := rfl
@[simp] theorem F.HEAD_STATUS_BANK_width : F.HEAD_STATUS_BANK.width = 1 := rfl
@[simp] theorem F.HEAD_STATUS_BUDGET_USED_key (n : Nat) : F.HEAD_STATUS_BUDGET_USED.key n = 402784784 + 32768 * n := Field.key_plain F.HEAD_STATUS_BUDGET_USED n rfl
@[simp] theorem F.HEAD_STATUS_BUDGET_USED_acc : F.HEAD_STATUS_BUDGET_USED.acc = .ro := rfl
@[simp] theorem F.HEAD_STATUS_BUDGET_USED_width : F.HEAD_STATUS_BUDGET_USED.width = 16 := rfl
@[simp] theorem F.HEAD_HIST_STARTED_key (n : Nat) : F.HEAD_HIST_STARTED.key n = 402784896 + 32768 * n := Field.key_plain F.HEAD_HIST_STARTED n rfl
@[simp] theorem F.HEAD_HIST_STARTED_acc : F.HEAD_HIST_STARTED.acc = .w1c := rfl
@[simp] theorem F.HEAD_HIST_STARTED_width : F.HEAD_HIST_STARTED.width = 1 := rfl
@[simp] theorem F.HEAD_HIST_STOPPED_key (n : Nat) : F.HEAD_HIST_STOPPED.key n = 402784897 + 32768 * n := Field.key_plain F.HEAD_HIST_STOPPED n rfl
@[simp] theorem F.HEAD_HIST_STOPPED_acc : F.HEAD_HIST_STOPPED.acc = .w1c := rfl
@[simp] theorem F.HEAD_HIST_STOPPED_width : F.HEAD_HIST_STOPPED.width = 1 := rfl
@[simp] theorem F.HEAD_HIST_LAYER_LATE_key (n : Nat) : F.HEAD_HIST_LAYER_LATE.key n = 402784898 + 32768 * n := Field.key_plain F.HEAD_HIST_LAYER_LATE n rfl
@[simp] theorem F.HEAD_HIST_LAYER_LATE_acc : F.HEAD_HIST_LAYER_LATE.acc = .w1c := rfl
@[simp] theorem F.HEAD_HIST_LAYER_LATE_width : F.HEAD_HIST_LAYER_LATE.width = 1 := rfl
@[simp] theorem F.HEAD_HIST_STALE_ENTER_key (n : Nat) : F.HEAD_HIST_STALE_ENTER.key n = 402784899 + 32768 * n := Field.key_plain F.HEAD_HIST_STALE_ENTER n rfl
@[simp] theorem F.HEAD_HIST_STALE_ENTER_acc : F.HEAD_HIST_STALE_ENTER.acc = .w1c := rfl
@[simp] theorem F.HEAD_HIST_STALE_ENTER_width : F.HEAD_HIST_STALE_ENTER.width = 1 := rfl
@[simp] theorem F.HEAD_HIST_STALE_EXIT_key (n : Nat) : F.HEAD_HIST_STALE_EXIT.key n = 402784900 + 32768 * n := Field.key_plain F.HEAD_HIST_STALE_EXIT n rfl
@[simp] theorem F.HEAD_HIST_STALE_EXIT_acc : F.HEAD_HIST_STALE_EXIT.acc = .w1c := rfl
@[simp] theorem F.HEAD_HIST_STALE_EXIT_width : F.HEAD_HIST_STALE_EXIT.width = 1 := rfl
@[simp] theorem F.HEAD_HIST_BUDGET_REJECTED_key (n : Nat) : F.HEAD_HIST_BUDGET_REJECTED.key n = 402784901 + 32768 * n := Field.key_plain F.HEAD_HIST_BUDGET_REJECTED n rfl
@[simp] theorem F.HEAD_HIST_BUDGET_REJECTED_acc : F.HEAD_HIST_BUDGET_REJECTED.acc = .w1c := rfl
@[simp] theorem F.HEAD_HIST_BUDGET_REJECTED_width : F.HEAD_HIST_BUDGET_REJECTED.width = 1 := rfl
@[simp] theorem F.HEAD_HIST_CFG_REJECTED_key (n : Nat) : F.HEAD_HIST_CFG_REJECTED.key n = 402784902 + 32768 * n := Field.key_plain F.HEAD_HIST_CFG_REJECTED n rfl
@[simp] theorem F.HEAD_HIST_CFG_REJECTED_acc : F.HEAD_HIST_CFG_REJECTED.acc = .w1c := rfl
@[simp] theorem F.HEAD_HIST_CFG_REJECTED_width : F.HEAD_HIST_CFG_REJECTED.width = 1 := rfl
@[simp] theorem F.HEAD_IRQ_EN_EN_key (n : Nat) : F.HEAD_IRQ_EN_EN.key n = 402785024 + 32768 * n := Field.key_plain F.HEAD_IRQ_EN_EN n rfl
@[simp] theorem F.HEAD_IRQ_EN_EN_acc : F.HEAD_IRQ_EN_EN.acc = .rw := rfl
@[simp] theorem F.HEAD_IRQ_EN_EN_width : F.HEAD_IRQ_EN_EN.width = 7 := rfl
@[simp] theorem F.HEAD_LATE_CNT_COUNT_key (n : Nat) : F.HEAD_LATE_CNT_COUNT.key n = 402785152 + 32768 * n := Field.key_plain F.HEAD_LATE_CNT_COUNT n rfl
@[simp] theorem F.HEAD_LATE_CNT_COUNT_acc : F.HEAD_LATE_CNT_COUNT.acc = .rcl := rfl
@[simp] theorem F.HEAD_LATE_CNT_COUNT_width : F.HEAD_LATE_CNT_COUNT.width = 32 := rfl
@[simp] theorem F.HEAD_STALE_STALE_key (n : Nat) : F.HEAD_STALE_STALE.key n = 402785280 + 32768 * n := Field.key_plain F.HEAD_STALE_STALE n rfl
@[simp] theorem F.HEAD_STALE_STALE_acc : F.HEAD_STALE_STALE.acc = .ro := rfl
@[simp] theorem F.HEAD_STALE_STALE_width : F.HEAD_STALE_STALE.width = 16 := rfl
@[simp] theorem F.LAYER_CFG_EN_key (n : Nat) : F.LAYER_CFG_EN.key n = 402792448 + 32768 * (n / 16) + 1024 * (n % 16) := Field.key_rows F.LAYER_CFG_EN n
@[simp] theorem F.LAYER_CFG_EN_acc : F.LAYER_CFG_EN.acc = .rw := rfl
@[simp] theorem F.LAYER_CFG_EN_width : F.LAYER_CFG_EN.width = 1 := rfl
@[simp] theorem F.LAYER_CFG_KEY_key (n : Nat) : F.LAYER_CFG_KEY.key n = 402792449 + 32768 * (n / 16) + 1024 * (n % 16) := Field.key_rows F.LAYER_CFG_KEY n
@[simp] theorem F.LAYER_CFG_KEY_acc : F.LAYER_CFG_KEY.acc = .rw := rfl
@[simp] theorem F.LAYER_CFG_KEY_width : F.LAYER_CFG_KEY.width = 2 := rfl
@[simp] theorem F.LAYER_CFG_FILTER_key (n : Nat) : F.LAYER_CFG_FILTER.key n = 402792451 + 32768 * (n / 16) + 1024 * (n % 16) := Field.key_rows F.LAYER_CFG_FILTER n
@[simp] theorem F.LAYER_CFG_FILTER_acc : F.LAYER_CFG_FILTER.acc = .rw := rfl
@[simp] theorem F.LAYER_CFG_FILTER_width : F.LAYER_CFG_FILTER.width = 2 := rfl
@[simp] theorem F.LAYER_CFG_DEINT_key (n : Nat) : F.LAYER_CFG_DEINT.key n = 402792453 + 32768 * (n / 16) + 1024 * (n % 16) := Field.key_rows F.LAYER_CFG_DEINT n
@[simp] theorem F.LAYER_CFG_DEINT_acc : F.LAYER_CFG_DEINT.acc = .rw := rfl
@[simp] theorem F.LAYER_CFG_DEINT_width : F.LAYER_CFG_DEINT.width = 1 := rfl
@[simp] theorem F.LAYER_CFG_CSC_EN_key (n : Nat) : F.LAYER_CFG_CSC_EN.key n = 402792454 + 32768 * (n / 16) + 1024 * (n % 16) := Field.key_rows F.LAYER_CFG_CSC_EN n
@[simp] theorem F.LAYER_CFG_CSC_EN_acc : F.LAYER_CFG_CSC_EN.acc = .rw := rfl
@[simp] theorem F.LAYER_CFG_CSC_EN_width : F.LAYER_CFG_CSC_EN.width = 1 := rfl
@[simp] theorem F.LAYER_CFG_LUT_EN_key (n : Nat) : F.LAYER_CFG_LUT_EN.key n = 402792455 + 32768 * (n / 16) + 1024 * (n % 16) := Field.key_rows F.LAYER_CFG_LUT_EN n
@[simp] theorem F.LAYER_CFG_LUT_EN_acc : F.LAYER_CFG_LUT_EN.acc = .rw := rfl
@[simp] theorem F.LAYER_CFG_LUT_EN_width : F.LAYER_CFG_LUT_EN.width = 1 := rfl
@[simp] theorem F.LAYER_CFG_BANK_key (n : Nat) : F.LAYER_CFG_BANK.key n = 402792456 + 32768 * (n / 16) + 1024 * (n % 16) := Field.key_rows F.LAYER_CFG_BANK n
@[simp] theorem F.LAYER_CFG_BANK_acc : F.LAYER_CFG_BANK.acc = .ro := rfl
@[simp] theorem F.LAYER_CFG_BANK_width : F.LAYER_CFG_BANK.width = 1 := rfl
@[simp] theorem F.LAYER_CFG_GALPHA_key (n : Nat) : F.LAYER_CFG_GALPHA.key n = 402792464 + 32768 * (n / 16) + 1024 * (n % 16) := Field.key_rows F.LAYER_CFG_GALPHA n
@[simp] theorem F.LAYER_CFG_GALPHA_acc : F.LAYER_CFG_GALPHA.acc = .rw := rfl
@[simp] theorem F.LAYER_CFG_GALPHA_width : F.LAYER_CFG_GALPHA.width = 8 := rfl
@[simp] theorem F.LAYER_SRC_XY_SRC_X_key (n : Nat) : F.LAYER_SRC_XY_SRC_X.key n = 402792576 + 32768 * (n / 16) + 1024 * (n % 16) := Field.key_rows F.LAYER_SRC_XY_SRC_X n
@[simp] theorem F.LAYER_SRC_XY_SRC_X_acc : F.LAYER_SRC_XY_SRC_X.acc = .rw := rfl
@[simp] theorem F.LAYER_SRC_XY_SRC_X_width : F.LAYER_SRC_XY_SRC_X.width = 12 := rfl
@[simp] theorem F.LAYER_SRC_XY_SRC_Y_key (n : Nat) : F.LAYER_SRC_XY_SRC_Y.key n = 402792592 + 32768 * (n / 16) + 1024 * (n % 16) := Field.key_rows F.LAYER_SRC_XY_SRC_Y n
@[simp] theorem F.LAYER_SRC_XY_SRC_Y_acc : F.LAYER_SRC_XY_SRC_Y.acc = .rw := rfl
@[simp] theorem F.LAYER_SRC_XY_SRC_Y_width : F.LAYER_SRC_XY_SRC_Y.width = 12 := rfl
@[simp] theorem F.LAYER_SRC_WH_SRC_W_key (n : Nat) : F.LAYER_SRC_WH_SRC_W.key n = 402792704 + 32768 * (n / 16) + 1024 * (n % 16) := Field.key_rows F.LAYER_SRC_WH_SRC_W n
@[simp] theorem F.LAYER_SRC_WH_SRC_W_acc : F.LAYER_SRC_WH_SRC_W.acc = .rw := rfl
@[simp] theorem F.LAYER_SRC_WH_SRC_W_width : F.LAYER_SRC_WH_SRC_W.width = 12 := rfl
@[simp] theorem F.LAYER_SRC_WH_SRC_H_key (n : Nat) : F.LAYER_SRC_WH_SRC_H.key n = 402792720 + 32768 * (n / 16) + 1024 * (n % 16) := Field.key_rows F.LAYER_SRC_WH_SRC_H n
@[simp] theorem F.LAYER_SRC_WH_SRC_H_acc : F.LAYER_SRC_WH_SRC_H.acc = .rw := rfl
@[simp] theorem F.LAYER_SRC_WH_SRC_H_width : F.LAYER_SRC_WH_SRC_H.width = 12 := rfl
@[simp] theorem F.LAYER_DST_XY_DST_X_key (n : Nat) : F.LAYER_DST_XY_DST_X.key n = 402792832 + 32768 * (n / 16) + 1024 * (n % 16) := Field.key_rows F.LAYER_DST_XY_DST_X n
@[simp] theorem F.LAYER_DST_XY_DST_X_acc : F.LAYER_DST_XY_DST_X.acc = .rw := rfl
@[simp] theorem F.LAYER_DST_XY_DST_X_width : F.LAYER_DST_XY_DST_X.width = 13 := rfl
@[simp] theorem F.LAYER_DST_XY_DST_Y_key (n : Nat) : F.LAYER_DST_XY_DST_Y.key n = 402792848 + 32768 * (n / 16) + 1024 * (n % 16) := Field.key_rows F.LAYER_DST_XY_DST_Y n
@[simp] theorem F.LAYER_DST_XY_DST_Y_acc : F.LAYER_DST_XY_DST_Y.acc = .rw := rfl
@[simp] theorem F.LAYER_DST_XY_DST_Y_width : F.LAYER_DST_XY_DST_Y.width = 13 := rfl
@[simp] theorem F.LAYER_DST_WH_DST_W_key (n : Nat) : F.LAYER_DST_WH_DST_W.key n = 402792960 + 32768 * (n / 16) + 1024 * (n % 16) := Field.key_rows F.LAYER_DST_WH_DST_W n
@[simp] theorem F.LAYER_DST_WH_DST_W_acc : F.LAYER_DST_WH_DST_W.acc = .rw := rfl
@[simp] theorem F.LAYER_DST_WH_DST_W_width : F.LAYER_DST_WH_DST_W.width = 12 := rfl
@[simp] theorem F.LAYER_DST_WH_DST_H_key (n : Nat) : F.LAYER_DST_WH_DST_H.key n = 402792976 + 32768 * (n / 16) + 1024 * (n % 16) := Field.key_rows F.LAYER_DST_WH_DST_H n
@[simp] theorem F.LAYER_DST_WH_DST_H_acc : F.LAYER_DST_WH_DST_H.acc = .rw := rfl
@[simp] theorem F.LAYER_DST_WH_DST_H_width : F.LAYER_DST_WH_DST_H.width = 12 := rfl
@[simp] theorem F.LAYER_KEY_KEY_LO_key (n : Nat) : F.LAYER_KEY_KEY_LO.key n = 402793088 + 32768 * (n / 16) + 1024 * (n % 16) := Field.key_rows F.LAYER_KEY_KEY_LO n
@[simp] theorem F.LAYER_KEY_KEY_LO_acc : F.LAYER_KEY_KEY_LO.acc = .rw := rfl
@[simp] theorem F.LAYER_KEY_KEY_LO_width : F.LAYER_KEY_KEY_LO.width = 10 := rfl
@[simp] theorem F.LAYER_KEY_KEY_HI_key (n : Nat) : F.LAYER_KEY_KEY_HI.key n = 402793104 + 32768 * (n / 16) + 1024 * (n % 16) := Field.key_rows F.LAYER_KEY_KEY_HI n
@[simp] theorem F.LAYER_KEY_KEY_HI_acc : F.LAYER_KEY_KEY_HI.acc = .rw := rfl
@[simp] theorem F.LAYER_KEY_KEY_HI_width : F.LAYER_KEY_KEY_HI.width = 10 := rfl
@[simp] theorem F.LAYER_LATE_CNT_COUNT_key (n : Nat) : F.LAYER_LATE_CNT_COUNT.key n = 402793216 + 32768 * (n / 16) + 1024 * (n % 16) := Field.key_rows F.LAYER_LATE_CNT_COUNT n
@[simp] theorem F.LAYER_LATE_CNT_COUNT_acc : F.LAYER_LATE_CNT_COUNT.acc = .rcl := rfl
@[simp] theorem F.LAYER_LATE_CNT_COUNT_width : F.LAYER_LATE_CNT_COUNT.width = 32 := rfl
@[simp] theorem F.GUARD_STATUS_KEY_OK_key (n : Nat) : F.GUARD_STATUS_KEY_OK.key n = 436215808 := Field.key_one F.GUARD_STATUS_KEY_OK n rfl rfl
@[simp] theorem F.GUARD_STATUS_KEY_OK_acc : F.GUARD_STATUS_KEY_OK.acc = .ro := rfl
@[simp] theorem F.GUARD_STATUS_KEY_OK_width : F.GUARD_STATUS_KEY_OK.width = 1 := rfl
@[simp] theorem F.GUARD_STATUS_KEY_SW_key (n : Nat) : F.GUARD_STATUS_KEY_SW.key n = 436215809 := Field.key_one F.GUARD_STATUS_KEY_SW n rfl rfl
@[simp] theorem F.GUARD_STATUS_KEY_SW_acc : F.GUARD_STATUS_KEY_SW.acc = .ro := rfl
@[simp] theorem F.GUARD_STATUS_KEY_SW_width : F.GUARD_STATUS_KEY_SW.width = 1 := rfl
@[simp] theorem F.GUARD_HIST_ACCEPTED_key (n : Nat) : F.GUARD_HIST_ACCEPTED.key n = 436215936 := Field.key_one F.GUARD_HIST_ACCEPTED n rfl rfl
@[simp] theorem F.GUARD_HIST_ACCEPTED_acc : F.GUARD_HIST_ACCEPTED.acc = .w1c := rfl
@[simp] theorem F.GUARD_HIST_ACCEPTED_width : F.GUARD_HIST_ACCEPTED.width = 1 := rfl
@[simp] theorem F.GUARD_HIST_REJECTED_key (n : Nat) : F.GUARD_HIST_REJECTED.key n = 436215937 := Field.key_one F.GUARD_HIST_REJECTED n rfl rfl
@[simp] theorem F.GUARD_HIST_REJECTED_acc : F.GUARD_HIST_REJECTED.acc = .w1c := rfl
@[simp] theorem F.GUARD_HIST_REJECTED_width : F.GUARD_HIST_REJECTED.width = 1 := rfl
@[simp] theorem F.GUARD_HIST_REPLAY_key (n : Nat) : F.GUARD_HIST_REPLAY.key n = 436215938 := Field.key_one F.GUARD_HIST_REPLAY n rfl rfl
@[simp] theorem F.GUARD_HIST_REPLAY_acc : F.GUARD_HIST_REPLAY.acc = .w1c := rfl
@[simp] theorem F.GUARD_HIST_REPLAY_width : F.GUARD_HIST_REPLAY.width = 1 := rfl
@[simp] theorem F.GUARD_HIST_DEFERRED_key (n : Nat) : F.GUARD_HIST_DEFERRED.key n = 436215939 := Field.key_one F.GUARD_HIST_DEFERRED n rfl rfl
@[simp] theorem F.GUARD_HIST_DEFERRED_acc : F.GUARD_HIST_DEFERRED.acc = .w1c := rfl
@[simp] theorem F.GUARD_HIST_DEFERRED_width : F.GUARD_HIST_DEFERRED.width = 1 := rfl
@[simp] theorem F.GUARD_HIST_FALLBACK_USED_key (n : Nat) : F.GUARD_HIST_FALLBACK_USED.key n = 436215940 := Field.key_one F.GUARD_HIST_FALLBACK_USED n rfl rfl
@[simp] theorem F.GUARD_HIST_FALLBACK_USED_acc : F.GUARD_HIST_FALLBACK_USED.acc = .w1c := rfl
@[simp] theorem F.GUARD_HIST_FALLBACK_USED_width : F.GUARD_HIST_FALLBACK_USED.width = 1 := rfl
@[simp] theorem F.GUARD_HIST_CONTENT_RESET_key (n : Nat) : F.GUARD_HIST_CONTENT_RESET.key n = 436215941 := Field.key_one F.GUARD_HIST_CONTENT_RESET n rfl rfl
@[simp] theorem F.GUARD_HIST_CONTENT_RESET_acc : F.GUARD_HIST_CONTENT_RESET.acc = .w1c := rfl
@[simp] theorem F.GUARD_HIST_CONTENT_RESET_width : F.GUARD_HIST_CONTENT_RESET.width = 1 := rfl
@[simp] theorem F.GUARD_IRQ_EN_EN_key (n : Nat) : F.GUARD_IRQ_EN_EN.key n = 436216064 := Field.key_one F.GUARD_IRQ_EN_EN n rfl rfl
@[simp] theorem F.GUARD_IRQ_EN_EN_acc : F.GUARD_IRQ_EN_EN.acc = .rw := rfl
@[simp] theorem F.GUARD_IRQ_EN_EN_width : F.GUARD_IRQ_EN_EN.width = 6 := rfl
@[simp] theorem F.GUARD_CTR_LO_CTR_key (n : Nat) : F.GUARD_CTR_LO_CTR.key n = 436216192 := Field.key_one F.GUARD_CTR_LO_CTR n rfl rfl
@[simp] theorem F.GUARD_CTR_LO_CTR_acc : F.GUARD_CTR_LO_CTR.acc = .sw := rfl
@[simp] theorem F.GUARD_CTR_LO_CTR_width : F.GUARD_CTR_LO_CTR.width = 32 := rfl
@[simp] theorem F.GUARD_CTR_HI_CTR_key (n : Nat) : F.GUARD_CTR_HI_CTR.key n = 436216320 := Field.key_one F.GUARD_CTR_HI_CTR n rfl rfl
@[simp] theorem F.GUARD_CTR_HI_CTR_acc : F.GUARD_CTR_HI_CTR.acc = .sw := rfl
@[simp] theorem F.GUARD_CTR_HI_CTR_width : F.GUARD_CTR_HI_CTR.width = 32 := rfl
@[simp] theorem F.GUARD_ACCEPT_CNT_COUNT_key (n : Nat) : F.GUARD_ACCEPT_CNT_COUNT.key n = 436216448 := Field.key_one F.GUARD_ACCEPT_CNT_COUNT n rfl rfl
@[simp] theorem F.GUARD_ACCEPT_CNT_COUNT_acc : F.GUARD_ACCEPT_CNT_COUNT.acc = .rcl := rfl
@[simp] theorem F.GUARD_ACCEPT_CNT_COUNT_width : F.GUARD_ACCEPT_CNT_COUNT.width = 32 := rfl
@[simp] theorem F.GUARD_REJECT_CNT_COUNT_key (n : Nat) : F.GUARD_REJECT_CNT_COUNT.key n = 436216576 := Field.key_one F.GUARD_REJECT_CNT_COUNT n rfl rfl
@[simp] theorem F.GUARD_REJECT_CNT_COUNT_acc : F.GUARD_REJECT_CNT_COUNT.acc = .rcl := rfl
@[simp] theorem F.GUARD_REJECT_CNT_COUNT_width : F.GUARD_REJECT_CNT_COUNT.width = 32 := rfl
@[simp] theorem F.GUARD_LOCK_LOCK_key (n : Nat) : F.GUARD_LOCK_LOCK.key n = 436216704 := Field.key_one F.GUARD_LOCK_LOCK n rfl rfl
@[simp] theorem F.GUARD_LOCK_LOCK_acc : F.GUARD_LOCK_LOCK.acc = .sw := rfl
@[simp] theorem F.GUARD_LOCK_LOCK_width : F.GUARD_LOCK_LOCK.width = 32 := rfl
@[simp] theorem F.MARKER_STYLE_A_KIND_key (n : Nat) : F.MARKER_STYLE_A_KIND.key n = 436224000 + 512 * n := Field.key_plain F.MARKER_STYLE_A_KIND n rfl
@[simp] theorem F.MARKER_STYLE_A_KIND_acc : F.MARKER_STYLE_A_KIND.acc = .sw := rfl
@[simp] theorem F.MARKER_STYLE_A_KIND_width : F.MARKER_STYLE_A_KIND.width = 2 := rfl
@[simp] theorem F.MARKER_STYLE_A_SCALE_key (n : Nat) : F.MARKER_STYLE_A_SCALE.key n = 436224002 + 512 * n := Field.key_plain F.MARKER_STYLE_A_SCALE n rfl
@[simp] theorem F.MARKER_STYLE_A_SCALE_acc : F.MARKER_STYLE_A_SCALE.acc = .sw := rfl
@[simp] theorem F.MARKER_STYLE_A_SCALE_width : F.MARKER_STYLE_A_SCALE.width = 2 := rfl
@[simp] theorem F.MARKER_STYLE_A_AGE_key (n : Nat) : F.MARKER_STYLE_A_AGE.key n = 436224004 + 512 * n := Field.key_plain F.MARKER_STYLE_A_AGE n rfl
@[simp] theorem F.MARKER_STYLE_A_AGE_acc : F.MARKER_STYLE_A_AGE.acc = .sw := rfl
@[simp] theorem F.MARKER_STYLE_A_AGE_width : F.MARKER_STYLE_A_AGE.width = 1 := rfl
@[simp] theorem F.MARKER_STYLE_A_LABEL_EN_key (n : Nat) : F.MARKER_STYLE_A_LABEL_EN.key n = 436224005 + 512 * n := Field.key_plain F.MARKER_STYLE_A_LABEL_EN n rfl
@[simp] theorem F.MARKER_STYLE_A_LABEL_EN_acc : F.MARKER_STYLE_A_LABEL_EN.acc = .sw := rfl
@[simp] theorem F.MARKER_STYLE_A_LABEL_EN_width : F.MARKER_STYLE_A_LABEL_EN.width = 1 := rfl
@[simp] theorem F.MARKER_STYLE_A_THICK_key (n : Nat) : F.MARKER_STYLE_A_THICK.key n = 436224008 + 512 * n := Field.key_plain F.MARKER_STYLE_A_THICK n rfl
@[simp] theorem F.MARKER_STYLE_A_THICK_acc : F.MARKER_STYLE_A_THICK.acc = .sw := rfl
@[simp] theorem F.MARKER_STYLE_A_THICK_width : F.MARKER_STYLE_A_THICK.width = 8 := rfl
@[simp] theorem F.MARKER_STYLE_A_LABEL_key (n : Nat) : F.MARKER_STYLE_A_LABEL.key n = 436224016 + 512 * n := Field.key_plain F.MARKER_STYLE_A_LABEL n rfl
@[simp] theorem F.MARKER_STYLE_A_LABEL_acc : F.MARKER_STYLE_A_LABEL.acc = .sw := rfl
@[simp] theorem F.MARKER_STYLE_A_LABEL_width : F.MARKER_STYLE_A_LABEL.width = 4 := rfl
@[simp] theorem F.MARKER_STYLE_A_FLASH_key (n : Nat) : F.MARKER_STYLE_A_FLASH.key n = 436224024 + 512 * n := Field.key_plain F.MARKER_STYLE_A_FLASH n rfl
@[simp] theorem F.MARKER_STYLE_A_FLASH_acc : F.MARKER_STYLE_A_FLASH.acc = .sw := rfl
@[simp] theorem F.MARKER_STYLE_A_FLASH_width : F.MARKER_STYLE_A_FLASH.width = 8 := rfl
@[simp] theorem F.MARKER_STYLE_B_Y_key (n : Nat) : F.MARKER_STYLE_B_Y.key n = 436224128 + 512 * n := Field.key_plain F.MARKER_STYLE_B_Y n rfl
@[simp] theorem F.MARKER_STYLE_B_Y_acc : F.MARKER_STYLE_B_Y.acc = .sw := rfl
@[simp] theorem F.MARKER_STYLE_B_Y_width : F.MARKER_STYLE_B_Y.width = 10 := rfl
@[simp] theorem F.MARKER_STYLE_B_CB_key (n : Nat) : F.MARKER_STYLE_B_CB.key n = 436224144 + 512 * n := Field.key_plain F.MARKER_STYLE_B_CB n rfl
@[simp] theorem F.MARKER_STYLE_B_CB_acc : F.MARKER_STYLE_B_CB.acc = .sw := rfl
@[simp] theorem F.MARKER_STYLE_B_CB_width : F.MARKER_STYLE_B_CB.width = 10 := rfl
@[simp] theorem F.MARKER_STYLE_C_CR_key (n : Nat) : F.MARKER_STYLE_C_CR.key n = 436224256 + 512 * n := Field.key_plain F.MARKER_STYLE_C_CR n rfl
@[simp] theorem F.MARKER_STYLE_C_CR_acc : F.MARKER_STYLE_C_CR.acc = .sw := rfl
@[simp] theorem F.MARKER_STYLE_C_CR_width : F.MARKER_STYLE_C_CR.width = 10 := rfl
@[simp] theorem F.MARKER_STYLE_C_ALPHA_key (n : Nat) : F.MARKER_STYLE_C_ALPHA.key n = 436224272 + 512 * n := Field.key_plain F.MARKER_STYLE_C_ALPHA n rfl
@[simp] theorem F.MARKER_STYLE_C_ALPHA_acc : F.MARKER_STYLE_C_ALPHA.acc = .sw := rfl
@[simp] theorem F.MARKER_STYLE_C_ALPHA_width : F.MARKER_STYLE_C_ALPHA.width = 8 := rfl
@[simp] theorem F.MARKER_MAP_STYLE_key (n : Nat) : F.MARKER_MAP_STYLE.key n = 436240384 + 128 * n := Field.key_plain F.MARKER_MAP_STYLE n rfl
@[simp] theorem F.MARKER_MAP_STYLE_acc : F.MARKER_MAP_STYLE.acc = .sw := rfl
@[simp] theorem F.MARKER_MAP_STYLE_width : F.MARKER_MAP_STYLE.width = 32 := rfl
@[simp] theorem F.GUARD_PAL_A_Y_key (n : Nat) : F.GUARD_PAL_A_Y.key n = 436338688 + 256 * n := Field.key_plain F.GUARD_PAL_A_Y n rfl
@[simp] theorem F.GUARD_PAL_A_Y_acc : F.GUARD_PAL_A_Y.acc = .sw := rfl
@[simp] theorem F.GUARD_PAL_A_Y_width : F.GUARD_PAL_A_Y.width = 10 := rfl
@[simp] theorem F.GUARD_PAL_A_CB_key (n : Nat) : F.GUARD_PAL_A_CB.key n = 436338704 + 256 * n := Field.key_plain F.GUARD_PAL_A_CB n rfl
@[simp] theorem F.GUARD_PAL_A_CB_acc : F.GUARD_PAL_A_CB.acc = .sw := rfl
@[simp] theorem F.GUARD_PAL_A_CB_width : F.GUARD_PAL_A_CB.width = 10 := rfl
@[simp] theorem F.GUARD_PAL_B_CR_key (n : Nat) : F.GUARD_PAL_B_CR.key n = 436338816 + 256 * n := Field.key_plain F.GUARD_PAL_B_CR n rfl
@[simp] theorem F.GUARD_PAL_B_CR_acc : F.GUARD_PAL_B_CR.acc = .sw := rfl
@[simp] theorem F.GUARD_PAL_B_CR_width : F.GUARD_PAL_B_CR.width = 10 := rfl
@[simp] theorem F.GUARD_PAL_B_ALPHA_key (n : Nat) : F.GUARD_PAL_B_ALPHA.key n = 436338832 + 256 * n := Field.key_plain F.GUARD_PAL_B_ALPHA n rfl
@[simp] theorem F.GUARD_PAL_B_ALPHA_acc : F.GUARD_PAL_B_ALPHA.acc = .sw := rfl
@[simp] theorem F.GUARD_PAL_B_ALPHA_width : F.GUARD_PAL_B_ALPHA.width = 8 := rfl
@[simp] theorem F.AUD_CFG_FADE_MS_key (n : Nat) : F.AUD_CFG_FADE_MS.key n = 469770240 := Field.key_one F.AUD_CFG_FADE_MS n rfl rfl
@[simp] theorem F.AUD_CFG_FADE_MS_acc : F.AUD_CFG_FADE_MS.acc = .rw := rfl
@[simp] theorem F.AUD_CFG_FADE_MS_width : F.AUD_CFG_FADE_MS.width = 7 := rfl
@[simp] theorem F.AUD_CFG_XFADE_MS_key (n : Nat) : F.AUD_CFG_XFADE_MS.key n = 469770248 := Field.key_one F.AUD_CFG_XFADE_MS n rfl rfl
@[simp] theorem F.AUD_CFG_XFADE_MS_acc : F.AUD_CFG_XFADE_MS.acc = .rw := rfl
@[simp] theorem F.AUD_CFG_XFADE_MS_width : F.AUD_CFG_XFADE_MS.width = 7 := rfl
@[simp] theorem F.AUD_STATUS_FAB_BLOCKS_USED_key (n : Nat) : F.AUD_STATUS_FAB_BLOCKS_USED.key n = 469770368 := Field.key_one F.AUD_STATUS_FAB_BLOCKS_USED n rfl rfl
@[simp] theorem F.AUD_STATUS_FAB_BLOCKS_USED_acc : F.AUD_STATUS_FAB_BLOCKS_USED.acc = .ro := rfl
@[simp] theorem F.AUD_STATUS_FAB_BLOCKS_USED_width : F.AUD_STATUS_FAB_BLOCKS_USED.width = 8 := rfl
@[simp] theorem F.AUD_HIST_POOL_FULL_key (n : Nat) : F.AUD_HIST_POOL_FULL.key n = 469770496 := Field.key_one F.AUD_HIST_POOL_FULL n rfl rfl
@[simp] theorem F.AUD_HIST_POOL_FULL_acc : F.AUD_HIST_POOL_FULL.acc = .w1c := rfl
@[simp] theorem F.AUD_HIST_POOL_FULL_width : F.AUD_HIST_POOL_FULL.width = 1 := rfl
@[simp] theorem F.AUD_HIST_XFADE_WAITED_key (n : Nat) : F.AUD_HIST_XFADE_WAITED.key n = 469770497 := Field.key_one F.AUD_HIST_XFADE_WAITED n rfl rfl
@[simp] theorem F.AUD_HIST_XFADE_WAITED_acc : F.AUD_HIST_XFADE_WAITED.acc = .w1c := rfl
@[simp] theorem F.AUD_HIST_XFADE_WAITED_width : F.AUD_HIST_XFADE_WAITED.width = 1 := rfl
@[simp] theorem F.AUD_HIST_STARTED_key (n : Nat) : F.AUD_HIST_STARTED.key n = 469770498 := Field.key_one F.AUD_HIST_STARTED n rfl rfl
@[simp] theorem F.AUD_HIST_STARTED_acc : F.AUD_HIST_STARTED.acc = .w1c := rfl
@[simp] theorem F.AUD_HIST_STARTED_width : F.AUD_HIST_STARTED.width = 1 := rfl
@[simp] theorem F.AUD_HIST_CFG_REJECTED_key (n : Nat) : F.AUD_HIST_CFG_REJECTED.key n = 469770499 := Field.key_one F.AUD_HIST_CFG_REJECTED n rfl rfl
@[simp] theorem F.AUD_HIST_CFG_REJECTED_acc : F.AUD_HIST_CFG_REJECTED.acc = .w1c := rfl
@[simp] theorem F.AUD_HIST_CFG_REJECTED_width : F.AUD_HIST_CFG_REJECTED.width = 1 := rfl
@[simp] theorem F.AUD_IRQ_EN_EN_key (n : Nat) : F.AUD_IRQ_EN_EN.key n = 469770624 := Field.key_one F.AUD_IRQ_EN_EN n rfl rfl
@[simp] theorem F.AUD_IRQ_EN_EN_acc : F.AUD_IRQ_EN_EN.acc = .rw := rfl
@[simp] theorem F.AUD_IRQ_EN_EN_width : F.AUD_IRQ_EN_EN.width = 4 := rfl
@[simp] theorem F.AUD_FAB_MISS_CNT_COUNT_key (n : Nat) : F.AUD_FAB_MISS_CNT_COUNT.key n = 469770752 := Field.key_one F.AUD_FAB_MISS_CNT_COUNT n rfl rfl
@[simp] theorem F.AUD_FAB_MISS_CNT_COUNT_acc : F.AUD_FAB_MISS_CNT_COUNT.acc = .rcl := rfl
@[simp] theorem F.AUD_FAB_MISS_CNT_COUNT_width : F.AUD_FAB_MISS_CNT_COUNT.width = 32 := rfl
@[simp] theorem F.SAP_START_MASK_RX_key (n : Nat) : F.SAP_START_MASK_RX.key n = 469771264 := Field.key_one F.SAP_START_MASK_RX n rfl rfl
@[simp] theorem F.SAP_START_MASK_RX_acc : F.SAP_START_MASK_RX.acc = .ro := rfl
@[simp] theorem F.SAP_START_MASK_RX_width : F.SAP_START_MASK_RX.width = 16 := rfl
@[simp] theorem F.SAP_START_MASK_TX_key (n : Nat) : F.SAP_START_MASK_TX.key n = 469771280 := Field.key_one F.SAP_START_MASK_TX n rfl rfl
@[simp] theorem F.SAP_START_MASK_TX_acc : F.SAP_START_MASK_TX.acc = .ro := rfl
@[simp] theorem F.SAP_START_MASK_TX_width : F.SAP_START_MASK_TX.width = 16 := rfl
@[simp] theorem F.SAP_START_LO_FRAME_key (n : Nat) : F.SAP_START_LO_FRAME.key n = 469771392 := Field.key_one F.SAP_START_LO_FRAME n rfl rfl
@[simp] theorem F.SAP_START_LO_FRAME_acc : F.SAP_START_LO_FRAME.acc = .ro := rfl
@[simp] theorem F.SAP_START_LO_FRAME_width : F.SAP_START_LO_FRAME.width = 32 := rfl
@[simp] theorem F.SAP_START_HI_FRAME_key (n : Nat) : F.SAP_START_HI_FRAME.key n = 469771520 := Field.key_one F.SAP_START_HI_FRAME n rfl rfl
@[simp] theorem F.SAP_START_HI_FRAME_acc : F.SAP_START_HI_FRAME.acc = .ro := rfl
@[simp] theorem F.SAP_START_HI_FRAME_width : F.SAP_START_HI_FRAME.width = 16 := rfl
@[simp] theorem F.SAP_START_HI_TL_key (n : Nat) : F.SAP_START_HI_TL.key n = 469771536 := Field.key_one F.SAP_START_HI_TL n rfl rfl
@[simp] theorem F.SAP_START_HI_TL_acc : F.SAP_START_HI_TL.acc = .ro := rfl
@[simp] theorem F.SAP_START_HI_TL_width : F.SAP_START_HI_TL.width = 1 := rfl
@[simp] theorem F.SAP_START_HI_ARMED_key (n : Nat) : F.SAP_START_HI_ARMED.key n = 469771537 := Field.key_one F.SAP_START_HI_ARMED n rfl rfl
@[simp] theorem F.SAP_START_HI_ARMED_acc : F.SAP_START_HI_ARMED.acc = .ro := rfl
@[simp] theorem F.SAP_START_HI_ARMED_width : F.SAP_START_HI_ARMED.width = 1 := rfl
@[simp] theorem F.AUD_GRP_PEND_PEND_key (n : Nat) : F.AUD_GRP_PEND_PEND.key n = 469772288 + 128 * n := Field.key_plain F.AUD_GRP_PEND_PEND n rfl
@[simp] theorem F.AUD_GRP_PEND_PEND_acc : F.AUD_GRP_PEND_PEND.acc = .ro := rfl
@[simp] theorem F.AUD_GRP_PEND_PEND_width : F.AUD_GRP_PEND_PEND.width = 32 := rfl
@[simp] theorem F.AUD_TONE_EN_key (n : Nat) : F.AUD_TONE_EN.key n = 469778432 + 128 * n := Field.key_plain F.AUD_TONE_EN n rfl
@[simp] theorem F.AUD_TONE_EN_acc : F.AUD_TONE_EN.acc = .rw := rfl
@[simp] theorem F.AUD_TONE_EN_width : F.AUD_TONE_EN.width = 1 := rfl
@[simp] theorem F.AUD_TONE_FREQ_key (n : Nat) : F.AUD_TONE_FREQ.key n = 469778433 + 128 * n := Field.key_plain F.AUD_TONE_FREQ n rfl
@[simp] theorem F.AUD_TONE_FREQ_acc : F.AUD_TONE_FREQ.acc = .rw := rfl
@[simp] theorem F.AUD_TONE_FREQ_width : F.AUD_TONE_FREQ.width = 15 := rfl
@[simp] theorem F.AUD_TONE_ATTEN_key (n : Nat) : F.AUD_TONE_ATTEN.key n = 469778448 + 128 * n := Field.key_plain F.AUD_TONE_ATTEN n rfl
@[simp] theorem F.AUD_TONE_ATTEN_acc : F.AUD_TONE_ATTEN.acc = .rw := rfl
@[simp] theorem F.AUD_TONE_ATTEN_width : F.AUD_TONE_ATTEN.width = 7 := rfl
@[simp] theorem F.AUD_SRCMAP_FIRST_key (n : Nat) : F.AUD_SRCMAP_FIRST.key n = 469794816 + 128 * n := Field.key_plain F.AUD_SRCMAP_FIRST n rfl
@[simp] theorem F.AUD_SRCMAP_FIRST_acc : F.AUD_SRCMAP_FIRST.acc = .rw := rfl
@[simp] theorem F.AUD_SRCMAP_FIRST_width : F.AUD_SRCMAP_FIRST.width = 13 := rfl
@[simp] theorem F.AUD_SRCMAP_COUNT_key (n : Nat) : F.AUD_SRCMAP_COUNT.key n = 469794832 + 128 * n := Field.key_plain F.AUD_SRCMAP_COUNT n rfl
@[simp] theorem F.AUD_SRCMAP_COUNT_acc : F.AUD_SRCMAP_COUNT.acc = .rw := rfl
@[simp] theorem F.AUD_SRCMAP_COUNT_width : F.AUD_SRCMAP_COUNT.width = 6 := rfl
@[simp] theorem F.AUD_OUTMAP_FIRST_key (n : Nat) : F.AUD_OUTMAP_FIRST.key n = 469843968 + 128 * n := Field.key_plain F.AUD_OUTMAP_FIRST n rfl
@[simp] theorem F.AUD_OUTMAP_FIRST_acc : F.AUD_OUTMAP_FIRST.acc = .ro := rfl
@[simp] theorem F.AUD_OUTMAP_FIRST_width : F.AUD_OUTMAP_FIRST.width = 13 := rfl
@[simp] theorem F.AUD_OUTMAP_COUNT_key (n : Nat) : F.AUD_OUTMAP_COUNT.key n = 469843984 + 128 * n := Field.key_plain F.AUD_OUTMAP_COUNT n rfl
@[simp] theorem F.AUD_OUTMAP_COUNT_acc : F.AUD_OUTMAP_COUNT.acc = .ro := rfl
@[simp] theorem F.AUD_OUTMAP_COUNT_width : F.AUD_OUTMAP_COUNT.width = 6 := rfl
@[simp] theorem F.AUD_GRP_CFG_DELAY_key (n : Nat) : F.AUD_GRP_CFG_DELAY.key n = 469893120 + 1024 * n := Field.key_plain F.AUD_GRP_CFG_DELAY n rfl
@[simp] theorem F.AUD_GRP_CFG_DELAY_acc : F.AUD_GRP_CFG_DELAY.acc = .rw := rfl
@[simp] theorem F.AUD_GRP_CFG_DELAY_width : F.AUD_GRP_CFG_DELAY.width = 9 := rfl
@[simp] theorem F.AUD_GRP_CFG_FIRST_key (n : Nat) : F.AUD_GRP_CFG_FIRST.key n = 469893136 + 1024 * n := Field.key_plain F.AUD_GRP_CFG_FIRST n rfl
@[simp] theorem F.AUD_GRP_CFG_FIRST_acc : F.AUD_GRP_CFG_FIRST.acc = .ro := rfl
@[simp] theorem F.AUD_GRP_CFG_FIRST_width : F.AUD_GRP_CFG_FIRST.width = 13 := rfl
@[simp] theorem F.AUD_GRP_STATUS_STATE_key (n : Nat) : F.AUD_GRP_STATUS_STATE.key n = 469893248 + 1024 * n := Field.key_plain F.AUD_GRP_STATUS_STATE n rfl
@[simp] theorem F.AUD_GRP_STATUS_STATE_acc : F.AUD_GRP_STATUS_STATE.acc = .ro := rfl
@[simp] theorem F.AUD_GRP_STATUS_STATE_width : F.AUD_GRP_STATUS_STATE.width = 3 := rfl
@[simp] theorem F.AUD_GRP_STATUS_TIMELINE_key (n : Nat) : F.AUD_GRP_STATUS_TIMELINE.key n = 469893251 + 1024 * n := Field.key_plain F.AUD_GRP_STATUS_TIMELINE n rfl
@[simp] theorem F.AUD_GRP_STATUS_TIMELINE_acc : F.AUD_GRP_STATUS_TIMELINE.acc = .ro := rfl
@[simp] theorem F.AUD_GRP_STATUS_TIMELINE_width : F.AUD_GRP_STATUS_TIMELINE.width = 1 := rfl
@[simp] theorem F.AUD_GRP_STATUS_FILL_key (n : Nat) : F.AUD_GRP_STATUS_FILL.key n = 469893252 + 1024 * n := Field.key_plain F.AUD_GRP_STATUS_FILL n rfl
@[simp] theorem F.AUD_GRP_STATUS_FILL_acc : F.AUD_GRP_STATUS_FILL.acc = .ro := rfl
@[simp] theorem F.AUD_GRP_STATUS_FILL_width : F.AUD_GRP_STATUS_FILL.width = 7 := rfl
@[simp] theorem F.AUD_GRP_STATUS_RING_key (n : Nat) : F.AUD_GRP_STATUS_RING.key n = 469893264 + 1024 * n := Field.key_plain F.AUD_GRP_STATUS_RING n rfl
@[simp] theorem F.AUD_GRP_STATUS_RING_acc : F.AUD_GRP_STATUS_RING.acc = .ro := rfl
@[simp] theorem F.AUD_GRP_STATUS_RING_width : F.AUD_GRP_STATUS_RING.width = 9 := rfl
@[simp] theorem F.AUD_GRP_OFS_OFS_key (n : Nat) : F.AUD_GRP_OFS_OFS.key n = 469893376 + 1024 * n := Field.key_plain F.AUD_GRP_OFS_OFS n rfl
@[simp] theorem F.AUD_GRP_OFS_OFS_acc : F.AUD_GRP_OFS_OFS.acc = .ro := rfl
@[simp] theorem F.AUD_GRP_OFS_OFS_width : F.AUD_GRP_OFS_OFS.width = 32 := rfl
@[simp] theorem F.AUD_GRP_HIST_UNDERRUN_key (n : Nat) : F.AUD_GRP_HIST_UNDERRUN.key n = 469893504 + 1024 * n := Field.key_plain F.AUD_GRP_HIST_UNDERRUN n rfl
@[simp] theorem F.AUD_GRP_HIST_UNDERRUN_acc : F.AUD_GRP_HIST_UNDERRUN.acc = .w1c := rfl
@[simp] theorem F.AUD_GRP_HIST_UNDERRUN_width : F.AUD_GRP_HIST_UNDERRUN.width = 1 := rfl
@[simp] theorem F.AUD_GRP_HIST_OVERRUN_key (n : Nat) : F.AUD_GRP_HIST_OVERRUN.key n = 469893505 + 1024 * n := Field.key_plain F.AUD_GRP_HIST_OVERRUN n rfl
@[simp] theorem F.AUD_GRP_HIST_OVERRUN_acc : F.AUD_GRP_HIST_OVERRUN.acc = .w1c := rfl
@[simp] theorem F.AUD_GRP_HIST_OVERRUN_width : F.AUD_GRP_HIST_OVERRUN.width = 1 := rfl
@[simp] theorem F.AUD_GRP_HIST_GAP_key (n : Nat) : F.AUD_GRP_HIST_GAP.key n = 469893506 + 1024 * n := Field.key_plain F.AUD_GRP_HIST_GAP n rfl
@[simp] theorem F.AUD_GRP_HIST_GAP_acc : F.AUD_GRP_HIST_GAP.acc = .w1c := rfl
@[simp] theorem F.AUD_GRP_HIST_GAP_width : F.AUD_GRP_HIST_GAP.width = 1 := rfl
@[simp] theorem F.AUD_GRP_HIST_RESYNC_key (n : Nat) : F.AUD_GRP_HIST_RESYNC.key n = 469893507 + 1024 * n := Field.key_plain F.AUD_GRP_HIST_RESYNC n rfl
@[simp] theorem F.AUD_GRP_HIST_RESYNC_acc : F.AUD_GRP_HIST_RESYNC.acc = .w1c := rfl
@[simp] theorem F.AUD_GRP_HIST_RESYNC_width : F.AUD_GRP_HIST_RESYNC.width = 1 := rfl
@[simp] theorem F.AUD_GRP_HIST_CFG_REJECTED_key (n : Nat) : F.AUD_GRP_HIST_CFG_REJECTED.key n = 469893508 + 1024 * n := Field.key_plain F.AUD_GRP_HIST_CFG_REJECTED n rfl
@[simp] theorem F.AUD_GRP_HIST_CFG_REJECTED_acc : F.AUD_GRP_HIST_CFG_REJECTED.acc = .w1c := rfl
@[simp] theorem F.AUD_GRP_HIST_CFG_REJECTED_width : F.AUD_GRP_HIST_CFG_REJECTED.width = 1 := rfl
@[simp] theorem F.AUD_GRP_IRQ_EN_EN_key (n : Nat) : F.AUD_GRP_IRQ_EN_EN.key n = 469893632 + 1024 * n := Field.key_plain F.AUD_GRP_IRQ_EN_EN n rfl
@[simp] theorem F.AUD_GRP_IRQ_EN_EN_acc : F.AUD_GRP_IRQ_EN_EN.acc = .rw := rfl
@[simp] theorem F.AUD_GRP_IRQ_EN_EN_width : F.AUD_GRP_IRQ_EN_EN.width = 5 := rfl
@[simp] theorem F.AUD_GRP_UNDER_CNT_COUNT_key (n : Nat) : F.AUD_GRP_UNDER_CNT_COUNT.key n = 469893760 + 1024 * n := Field.key_plain F.AUD_GRP_UNDER_CNT_COUNT n rfl
@[simp] theorem F.AUD_GRP_UNDER_CNT_COUNT_acc : F.AUD_GRP_UNDER_CNT_COUNT.acc = .rcl := rfl
@[simp] theorem F.AUD_GRP_UNDER_CNT_COUNT_width : F.AUD_GRP_UNDER_CNT_COUNT.width = 32 := rfl
@[simp] theorem F.AUD_GRP_OVER_CNT_COUNT_key (n : Nat) : F.AUD_GRP_OVER_CNT_COUNT.key n = 469893888 + 1024 * n := Field.key_plain F.AUD_GRP_OVER_CNT_COUNT n rfl
@[simp] theorem F.AUD_GRP_OVER_CNT_COUNT_acc : F.AUD_GRP_OVER_CNT_COUNT.acc = .rcl := rfl
@[simp] theorem F.AUD_GRP_OVER_CNT_COUNT_width : F.AUD_GRP_OVER_CNT_COUNT.width = 32 := rfl
@[simp] theorem F.SAP_CFG_MODE_key (n : Nat) : F.SAP_CFG_MODE.key n = 470941696 + 2048 * n := Field.key_plain F.SAP_CFG_MODE n rfl
@[simp] theorem F.SAP_CFG_MODE_acc : F.SAP_CFG_MODE.acc = .rw := rfl
@[simp] theorem F.SAP_CFG_MODE_width : F.SAP_CFG_MODE.width = 2 := rfl
@[simp] theorem F.SAP_CFG_CH_key (n : Nat) : F.SAP_CFG_CH.key n = 470941698 + 2048 * n := Field.key_plain F.SAP_CFG_CH n rfl
@[simp] theorem F.SAP_CFG_CH_acc : F.SAP_CFG_CH.acc = .rw := rfl
@[simp] theorem F.SAP_CFG_CH_width : F.SAP_CFG_CH.width = 2 := rfl
@[simp] theorem F.SAP_CFG_RX_MASTER_key (n : Nat) : F.SAP_CFG_RX_MASTER.key n = 470941700 + 2048 * n := Field.key_plain F.SAP_CFG_RX_MASTER n rfl
@[simp] theorem F.SAP_CFG_RX_MASTER_acc : F.SAP_CFG_RX_MASTER.acc = .rw := rfl
@[simp] theorem F.SAP_CFG_RX_MASTER_width : F.SAP_CFG_RX_MASTER.width = 1 := rfl
@[simp] theorem F.SAP_CFG_TX_MASTER_key (n : Nat) : F.SAP_CFG_TX_MASTER.key n = 470941701 + 2048 * n := Field.key_plain F.SAP_CFG_TX_MASTER n rfl
@[simp] theorem F.SAP_CFG_TX_MASTER_acc : F.SAP_CFG_TX_MASTER.acc = .rw := rfl
@[simp] theorem F.SAP_CFG_TX_MASTER_width : F.SAP_CFG_TX_MASTER.width = 1 := rfl
@[simp] theorem F.SAP_CFG_DELAY1_key (n : Nat) : F.SAP_CFG_DELAY1.key n = 470941702 + 2048 * n := Field.key_plain F.SAP_CFG_DELAY1 n rfl
@[simp] theorem F.SAP_CFG_DELAY1_acc : F.SAP_CFG_DELAY1.acc = .rw := rfl
@[simp] theorem F.SAP_CFG_DELAY1_width : F.SAP_CFG_DELAY1.width = 1 := rfl
@[simp] theorem F.SAP_CFG_BCLK_POL_key (n : Nat) : F.SAP_CFG_BCLK_POL.key n = 470941703 + 2048 * n := Field.key_plain F.SAP_CFG_BCLK_POL n rfl
@[simp] theorem F.SAP_CFG_BCLK_POL_acc : F.SAP_CFG_BCLK_POL.acc = .rw := rfl
@[simp] theorem F.SAP_CFG_BCLK_POL_width : F.SAP_CFG_BCLK_POL.width = 1 := rfl
@[simp] theorem F.SAP_CFG_WAIT_START_key (n : Nat) : F.SAP_CFG_WAIT_START.key n = 470941704 + 2048 * n := Field.key_plain F.SAP_CFG_WAIT_START n rfl
@[simp] theorem F.SAP_CFG_WAIT_START_acc : F.SAP_CFG_WAIT_START.acc = .rw := rfl
@[simp] theorem F.SAP_CFG_WAIT_START_width : F.SAP_CFG_WAIT_START.width = 1 := rfl
@[simp] theorem F.SAP_CFG_ASRC_key (n : Nat) : F.SAP_CFG_ASRC.key n = 470941705 + 2048 * n := Field.key_plain F.SAP_CFG_ASRC n rfl
@[simp] theorem F.SAP_CFG_ASRC_acc : F.SAP_CFG_ASRC.acc = .rw := rfl
@[simp] theorem F.SAP_CFG_ASRC_width : F.SAP_CFG_ASRC.width = 1 := rfl
@[simp] theorem F.SAP_CFG_RX_EN_key (n : Nat) : F.SAP_CFG_RX_EN.key n = 470941706 + 2048 * n := Field.key_plain F.SAP_CFG_RX_EN n rfl
@[simp] theorem F.SAP_CFG_RX_EN_acc : F.SAP_CFG_RX_EN.acc = .rw := rfl
@[simp] theorem F.SAP_CFG_RX_EN_width : F.SAP_CFG_RX_EN.width = 1 := rfl
@[simp] theorem F.SAP_CFG_TX_EN_key (n : Nat) : F.SAP_CFG_TX_EN.key n = 470941707 + 2048 * n := Field.key_plain F.SAP_CFG_TX_EN n rfl
@[simp] theorem F.SAP_CFG_TX_EN_acc : F.SAP_CFG_TX_EN.acc = .rw := rfl
@[simp] theorem F.SAP_CFG_TX_EN_width : F.SAP_CFG_TX_EN.width = 1 := rfl
@[simp] theorem F.SAP_STATUS_RX_STATE_key (n : Nat) : F.SAP_STATUS_RX_STATE.key n = 470941824 + 2048 * n := Field.key_plain F.SAP_STATUS_RX_STATE n rfl
@[simp] theorem F.SAP_STATUS_RX_STATE_acc : F.SAP_STATUS_RX_STATE.acc = .ro := rfl
@[simp] theorem F.SAP_STATUS_RX_STATE_width : F.SAP_STATUS_RX_STATE.width = 2 := rfl
@[simp] theorem F.SAP_STATUS_TX_STATE_key (n : Nat) : F.SAP_STATUS_TX_STATE.key n = 470941826 + 2048 * n := Field.key_plain F.SAP_STATUS_TX_STATE n rfl
@[simp] theorem F.SAP_STATUS_TX_STATE_acc : F.SAP_STATUS_TX_STATE.acc = .ro := rfl
@[simp] theorem F.SAP_STATUS_TX_STATE_width : F.SAP_STATUS_TX_STATE.width = 2 := rfl
@[simp] theorem F.SAP_STATUS_AES_LOCK_key (n : Nat) : F.SAP_STATUS_AES_LOCK.key n = 470941828 + 2048 * n := Field.key_plain F.SAP_STATUS_AES_LOCK n rfl
@[simp] theorem F.SAP_STATUS_AES_LOCK_acc : F.SAP_STATUS_AES_LOCK.acc = .ro := rfl
@[simp] theorem F.SAP_STATUS_AES_LOCK_width : F.SAP_STATUS_AES_LOCK.width = 1 := rfl
@[simp] theorem F.SAP_STATUS_ASRC_MUTED_key (n : Nat) : F.SAP_STATUS_ASRC_MUTED.key n = 470941829 + 2048 * n := Field.key_plain F.SAP_STATUS_ASRC_MUTED n rfl
@[simp] theorem F.SAP_STATUS_ASRC_MUTED_acc : F.SAP_STATUS_ASRC_MUTED.acc = .ro := rfl
@[simp] theorem F.SAP_STATUS_ASRC_MUTED_width : F.SAP_STATUS_ASRC_MUTED.width = 1 := rfl
@[simp] theorem F.SAP_STATUS_RX_RATE_key (n : Nat) : F.SAP_STATUS_RX_RATE.key n = 470941838 + 2048 * n := Field.key_plain F.SAP_STATUS_RX_RATE n rfl
@[simp] theorem F.SAP_STATUS_RX_RATE_acc : F.SAP_STATUS_RX_RATE.acc = .ro := rfl
@[simp] theorem F.SAP_STATUS_RX_RATE_width : F.SAP_STATUS_RX_RATE.width = 18 := rfl
@[simp] theorem F.SAP_HIST_RX_STARTED_key (n : Nat) : F.SAP_HIST_RX_STARTED.key n = 470941952 + 2048 * n := Field.key_plain F.SAP_HIST_RX_STARTED n rfl
@[simp] theorem F.SAP_HIST_RX_STARTED_acc : F.SAP_HIST_RX_STARTED.acc = .w1c := rfl
@[simp] theorem F.SAP_HIST_RX_STARTED_width : F.SAP_HIST_RX_STARTED.width = 1 := rfl
@[simp] theorem F.SAP_HIST_TX_STARTED_key (n : Nat) : F.SAP_HIST_TX_STARTED.key n = 470941953 + 2048 * n := Field.key_plain F.SAP_HIST_TX_STARTED n rfl
@[simp] theorem F.SAP_HIST_TX_STARTED_acc : F.SAP_HIST_TX_STARTED.acc = .w1c := rfl
@[simp] theorem F.SAP_HIST_TX_STARTED_width : F.SAP_HIST_TX_STARTED.width = 1 := rfl
@[simp] theorem F.SAP_HIST_CLK_LOST_key (n : Nat) : F.SAP_HIST_CLK_LOST.key n = 470941954 + 2048 * n := Field.key_plain F.SAP_HIST_CLK_LOST n rfl
@[simp] theorem F.SAP_HIST_CLK_LOST_acc : F.SAP_HIST_CLK_LOST.acc = .w1c := rfl
@[simp] theorem F.SAP_HIST_CLK_LOST_width : F.SAP_HIST_CLK_LOST.width = 1 := rfl
@[simp] theorem F.SAP_HIST_AES_LOCK_GAINED_key (n : Nat) : F.SAP_HIST_AES_LOCK_GAINED.key n = 470941955 + 2048 * n := Field.key_plain F.SAP_HIST_AES_LOCK_GAINED n rfl
@[simp] theorem F.SAP_HIST_AES_LOCK_GAINED_acc : F.SAP_HIST_AES_LOCK_GAINED.acc = .w1c := rfl
@[simp] theorem F.SAP_HIST_AES_LOCK_GAINED_width : F.SAP_HIST_AES_LOCK_GAINED.width = 1 := rfl
@[simp] theorem F.SAP_HIST_AES_LOCK_LOST_key (n : Nat) : F.SAP_HIST_AES_LOCK_LOST.key n = 470941956 + 2048 * n := Field.key_plain F.SAP_HIST_AES_LOCK_LOST n rfl
@[simp] theorem F.SAP_HIST_AES_LOCK_LOST_acc : F.SAP_HIST_AES_LOCK_LOST.acc = .w1c := rfl
@[simp] theorem F.SAP_HIST_AES_LOCK_LOST_width : F.SAP_HIST_AES_LOCK_LOST.width = 1 := rfl
@[simp] theorem F.SAP_HIST_ASRC_RESET_key (n : Nat) : F.SAP_HIST_ASRC_RESET.key n = 470941957 + 2048 * n := Field.key_plain F.SAP_HIST_ASRC_RESET n rfl
@[simp] theorem F.SAP_HIST_ASRC_RESET_acc : F.SAP_HIST_ASRC_RESET.acc = .w1c := rfl
@[simp] theorem F.SAP_HIST_ASRC_RESET_width : F.SAP_HIST_ASRC_RESET.width = 1 := rfl
@[simp] theorem F.SAP_HIST_PARITY_ERR_key (n : Nat) : F.SAP_HIST_PARITY_ERR.key n = 470941958 + 2048 * n := Field.key_plain F.SAP_HIST_PARITY_ERR n rfl
@[simp] theorem F.SAP_HIST_PARITY_ERR_acc : F.SAP_HIST_PARITY_ERR.acc = .w1c := rfl
@[simp] theorem F.SAP_HIST_PARITY_ERR_width : F.SAP_HIST_PARITY_ERR.width = 1 := rfl
@[simp] theorem F.SAP_HIST_CS_CRC_ERR_key (n : Nat) : F.SAP_HIST_CS_CRC_ERR.key n = 470941959 + 2048 * n := Field.key_plain F.SAP_HIST_CS_CRC_ERR n rfl
@[simp] theorem F.SAP_HIST_CS_CRC_ERR_acc : F.SAP_HIST_CS_CRC_ERR.acc = .w1c := rfl
@[simp] theorem F.SAP_HIST_CS_CRC_ERR_width : F.SAP_HIST_CS_CRC_ERR.width = 1 := rfl
@[simp] theorem F.SAP_HIST_CFG_REJECTED_key (n : Nat) : F.SAP_HIST_CFG_REJECTED.key n = 470941960 + 2048 * n := Field.key_plain F.SAP_HIST_CFG_REJECTED n rfl
@[simp] theorem F.SAP_HIST_CFG_REJECTED_acc : F.SAP_HIST_CFG_REJECTED.acc = .w1c := rfl
@[simp] theorem F.SAP_HIST_CFG_REJECTED_width : F.SAP_HIST_CFG_REJECTED.width = 1 := rfl
@[simp] theorem F.SAP_IRQ_EN_EN_key (n : Nat) : F.SAP_IRQ_EN_EN.key n = 470942080 + 2048 * n := Field.key_plain F.SAP_IRQ_EN_EN n rfl
@[simp] theorem F.SAP_IRQ_EN_EN_acc : F.SAP_IRQ_EN_EN.acc = .rw := rfl
@[simp] theorem F.SAP_IRQ_EN_EN_width : F.SAP_IRQ_EN_EN.width = 9 := rfl
@[simp] theorem F.SAP_CS_TX_CS_key (n : Nat) : F.SAP_CS_TX_CS.key n = 470942208 + 2048 * n := Field.key_plain F.SAP_CS_TX_CS n rfl
@[simp] theorem F.SAP_CS_TX_CS_acc : F.SAP_CS_TX_CS.acc = .rw := rfl
@[simp] theorem F.SAP_CS_TX_CS_width : F.SAP_CS_TX_CS.width = 32 := rfl
@[simp] theorem F.SAP_CS_RX_CS_key (n : Nat) : F.SAP_CS_RX_CS.key n = 470942336 + 2048 * n := Field.key_plain F.SAP_CS_RX_CS n rfl
@[simp] theorem F.SAP_CS_RX_CS_acc : F.SAP_CS_RX_CS.acc = .ro := rfl
@[simp] theorem F.SAP_CS_RX_CS_width : F.SAP_CS_RX_CS.width = 32 := rfl
@[simp] theorem F.SAP_ERR_CNT_COUNT_key (n : Nat) : F.SAP_ERR_CNT_COUNT.key n = 470942464 + 2048 * n := Field.key_plain F.SAP_ERR_CNT_COUNT n rfl
@[simp] theorem F.SAP_ERR_CNT_COUNT_acc : F.SAP_ERR_CNT_COUNT.acc = .rcl := rfl
@[simp] theorem F.SAP_ERR_CNT_COUNT_width : F.SAP_ERR_CNT_COUNT.width = 32 := rfl
@[simp] theorem F.AUD_XP_SRC_key (n : Nat) : F.AUD_XP_SRC.key n = 471859200 + 128 * n := Field.key_plain F.AUD_XP_SRC n rfl
@[simp] theorem F.AUD_XP_SRC_acc : F.AUD_XP_SRC.acc = .rw := rfl
@[simp] theorem F.AUD_XP_SRC_width : F.AUD_XP_SRC.width = 13 := rfl
@[simp] theorem F.AUD_XP_MODE_key (n : Nat) : F.AUD_XP_MODE.key n = 471859213 + 128 * n := Field.key_plain F.AUD_XP_MODE n rfl
@[simp] theorem F.AUD_XP_MODE_acc : F.AUD_XP_MODE.acc = .rw := rfl
@[simp] theorem F.AUD_XP_MODE_width : F.AUD_XP_MODE.width = 2 := rfl
@[simp] theorem F.AUD_XP_XFADING_key (n : Nat) : F.AUD_XP_XFADING.key n = 471859215 + 128 * n := Field.key_plain F.AUD_XP_XFADING n rfl
@[simp] theorem F.AUD_XP_XFADING_acc : F.AUD_XP_XFADING.acc = .ro := rfl
@[simp] theorem F.AUD_XP_XFADING_width : F.AUD_XP_XFADING.width = 1 := rfl
@[simp] theorem F.WIT_CFG_EN_key (n : Nat) : F.WIT_CFG_EN.key n = 503324672 := Field.key_one F.WIT_CFG_EN n rfl rfl
@[simp] theorem F.WIT_CFG_EN_acc : F.WIT_CFG_EN.acc = .rw := rfl
@[simp] theorem F.WIT_CFG_EN_width : F.WIT_CFG_EN.width = 1 := rfl
@[simp] theorem F.WIT_CFG_PROXY_DIV_key (n : Nat) : F.WIT_CFG_PROXY_DIV.key n = 503324673 := Field.key_one F.WIT_CFG_PROXY_DIV n rfl rfl
@[simp] theorem F.WIT_CFG_PROXY_DIV_acc : F.WIT_CFG_PROXY_DIV.acc = .ro := rfl
@[simp] theorem F.WIT_CFG_PROXY_DIV_width : F.WIT_CFG_PROXY_DIV.width = 2 := rfl
@[simp] theorem F.WIT_CFG_SEAL_S_key (n : Nat) : F.WIT_CFG_SEAL_S.key n = 503324680 := Field.key_one F.WIT_CFG_SEAL_S n rfl rfl
@[simp] theorem F.WIT_CFG_SEAL_S_acc : F.WIT_CFG_SEAL_S.acc = .rw := rfl
@[simp] theorem F.WIT_CFG_SEAL_S_width : F.WIT_CFG_SEAL_S.width = 8 := rfl
@[simp] theorem F.WIT_CFG_RATE_KBPS_key (n : Nat) : F.WIT_CFG_RATE_KBPS.key n = 503324688 := Field.key_one F.WIT_CFG_RATE_KBPS n rfl rfl
@[simp] theorem F.WIT_CFG_RATE_KBPS_acc : F.WIT_CFG_RATE_KBPS.acc = .rw := rfl
@[simp] theorem F.WIT_CFG_RATE_KBPS_width : F.WIT_CFG_RATE_KBPS.width = 16 := rfl
@[simp] theorem F.WIT_STATUS_STATE_key (n : Nat) : F.WIT_STATUS_STATE.key n = 503324800 := Field.key_one F.WIT_STATUS_STATE n rfl rfl
@[simp] theorem F.WIT_STATUS_STATE_acc : F.WIT_STATUS_STATE.acc = .ro := rfl
@[simp] theorem F.WIT_STATUS_STATE_width : F.WIT_STATUS_STATE.width = 2 := rfl
@[simp] theorem F.WIT_STATUS_LAYOUT_key (n : Nat) : F.WIT_STATUS_LAYOUT.key n = 503324802 := Field.key_one F.WIT_STATUS_LAYOUT n rfl rfl
@[simp] theorem F.WIT_STATUS_LAYOUT_acc : F.WIT_STATUS_LAYOUT.acc = .ro := rfl
@[simp] theorem F.WIT_STATUS_LAYOUT_width : F.WIT_STATUS_LAYOUT.width = 2 := rfl
@[simp] theorem F.WIT_STATUS_MOUNTED_key (n : Nat) : F.WIT_STATUS_MOUNTED.key n = 503324804 := Field.key_one F.WIT_STATUS_MOUNTED n rfl rfl
@[simp] theorem F.WIT_STATUS_MOUNTED_acc : F.WIT_STATUS_MOUNTED.acc = .ro := rfl
@[simp] theorem F.WIT_STATUS_MOUNTED_width : F.WIT_STATUS_MOUNTED.width = 1 := rfl
@[simp] theorem F.WIT_STATUS_DEGRADED_key (n : Nat) : F.WIT_STATUS_DEGRADED.key n = 503324805 := Field.key_one F.WIT_STATUS_DEGRADED n rfl rfl
@[simp] theorem F.WIT_STATUS_DEGRADED_acc : F.WIT_STATUS_DEGRADED.acc = .ro := rfl
@[simp] theorem F.WIT_STATUS_DEGRADED_width : F.WIT_STATUS_DEGRADED.width = 1 := rfl
@[simp] theorem F.WIT_STATUS_ENCRYPTED_key (n : Nat) : F.WIT_STATUS_ENCRYPTED.key n = 503324806 := Field.key_one F.WIT_STATUS_ENCRYPTED n rfl rfl
@[simp] theorem F.WIT_STATUS_ENCRYPTED_acc : F.WIT_STATUS_ENCRYPTED.acc = .ro := rfl
@[simp] theorem F.WIT_STATUS_ENCRYPTED_width : F.WIT_STATUS_ENCRYPTED.width = 1 := rfl
@[simp] theorem F.WIT_STATUS_REBUILDING_key (n : Nat) : F.WIT_STATUS_REBUILDING.key n = 503324807 := Field.key_one F.WIT_STATUS_REBUILDING n rfl rfl
@[simp] theorem F.WIT_STATUS_REBUILDING_acc : F.WIT_STATUS_REBUILDING.acc = .ro := rfl
@[simp] theorem F.WIT_STATUS_REBUILDING_width : F.WIT_STATUS_REBUILDING.width = 1 := rfl
@[simp] theorem F.WIT_HIST_MOUNTED_key (n : Nat) : F.WIT_HIST_MOUNTED.key n = 503324928 := Field.key_one F.WIT_HIST_MOUNTED n rfl rfl
@[simp] theorem F.WIT_HIST_MOUNTED_acc : F.WIT_HIST_MOUNTED.acc = .w1c := rfl
@[simp] theorem F.WIT_HIST_MOUNTED_width : F.WIT_HIST_MOUNTED.width = 1 := rfl
@[simp] theorem F.WIT_HIST_BALE_DROP_key (n : Nat) : F.WIT_HIST_BALE_DROP.key n = 503324929 := Field.key_one F.WIT_HIST_BALE_DROP n rfl rfl
@[simp] theorem F.WIT_HIST_BALE_DROP_acc : F.WIT_HIST_BALE_DROP.acc = .w1c := rfl
@[simp] theorem F.WIT_HIST_BALE_DROP_width : F.WIT_HIST_BALE_DROP.width = 1 := rfl
@[simp] theorem F.WIT_HIST_PIC_DROP_key (n : Nat) : F.WIT_HIST_PIC_DROP.key n = 503324930 := Field.key_one F.WIT_HIST_PIC_DROP n rfl rfl
@[simp] theorem F.WIT_HIST_PIC_DROP_acc : F.WIT_HIST_PIC_DROP.acc = .w1c := rfl
@[simp] theorem F.WIT_HIST_PIC_DROP_width : F.WIT_HIST_PIC_DROP.width = 1 := rfl
@[simp] theorem F.WIT_HIST_UNSIGNED_key (n : Nat) : F.WIT_HIST_UNSIGNED.key n = 503324931 := Field.key_one F.WIT_HIST_UNSIGNED n rfl rfl
@[simp] theorem F.WIT_HIST_UNSIGNED_acc : F.WIT_HIST_UNSIGNED.acc = .w1c := rfl
@[simp] theorem F.WIT_HIST_UNSIGNED_width : F.WIT_HIST_UNSIGNED.width = 1 := rfl
@[simp] theorem F.WIT_HIST_DRIVE_LOST_key (n : Nat) : F.WIT_HIST_DRIVE_LOST.key n = 503324932 := Field.key_one F.WIT_HIST_DRIVE_LOST n rfl rfl
@[simp] theorem F.WIT_HIST_DRIVE_LOST_acc : F.WIT_HIST_DRIVE_LOST.acc = .w1c := rfl
@[simp] theorem F.WIT_HIST_DRIVE_LOST_width : F.WIT_HIST_DRIVE_LOST.width = 1 := rfl
@[simp] theorem F.WIT_HIST_WEAR_WARN_key (n : Nat) : F.WIT_HIST_WEAR_WARN.key n = 503324933 := Field.key_one F.WIT_HIST_WEAR_WARN n rfl rfl
@[simp] theorem F.WIT_HIST_WEAR_WARN_acc : F.WIT_HIST_WEAR_WARN.acc = .w1c := rfl
@[simp] theorem F.WIT_HIST_WEAR_WARN_width : F.WIT_HIST_WEAR_WARN.width = 1 := rfl
@[simp] theorem F.WIT_HIST_INC_TRIGGERED_key (n : Nat) : F.WIT_HIST_INC_TRIGGERED.key n = 503324934 := Field.key_one F.WIT_HIST_INC_TRIGGERED n rfl rfl
@[simp] theorem F.WIT_HIST_INC_TRIGGERED_acc : F.WIT_HIST_INC_TRIGGERED.acc = .w1c := rfl
@[simp] theorem F.WIT_HIST_INC_TRIGGERED_width : F.WIT_HIST_INC_TRIGGERED.width = 1 := rfl
@[simp] theorem F.WIT_HIST_INC_DONE_key (n : Nat) : F.WIT_HIST_INC_DONE.key n = 503324935 := Field.key_one F.WIT_HIST_INC_DONE n rfl rfl
@[simp] theorem F.WIT_HIST_INC_DONE_acc : F.WIT_HIST_INC_DONE.acc = .w1c := rfl
@[simp] theorem F.WIT_HIST_INC_DONE_width : F.WIT_HIST_INC_DONE.width = 1 := rfl
@[simp] theorem F.WIT_HIST_SHORT_PRE_key (n : Nat) : F.WIT_HIST_SHORT_PRE.key n = 503324936 := Field.key_one F.WIT_HIST_SHORT_PRE n rfl rfl
@[simp] theorem F.WIT_HIST_SHORT_PRE_acc : F.WIT_HIST_SHORT_PRE.acc = .w1c := rfl
@[simp] theorem F.WIT_HIST_SHORT_PRE_width : F.WIT_HIST_SHORT_PRE.width = 1 := rfl
@[simp] theorem F.WIT_HIST_TRIG_MISSED_key (n : Nat) : F.WIT_HIST_TRIG_MISSED.key n = 503324937 := Field.key_one F.WIT_HIST_TRIG_MISSED n rfl rfl
@[simp] theorem F.WIT_HIST_TRIG_MISSED_acc : F.WIT_HIST_TRIG_MISSED.acc = .w1c := rfl
@[simp] theorem F.WIT_HIST_TRIG_MISSED_width : F.WIT_HIST_TRIG_MISSED.width = 1 := rfl
@[simp] theorem F.WIT_HIST_INC_DROP_key (n : Nat) : F.WIT_HIST_INC_DROP.key n = 503324938 := Field.key_one F.WIT_HIST_INC_DROP n rfl rfl
@[simp] theorem F.WIT_HIST_INC_DROP_acc : F.WIT_HIST_INC_DROP.acc = .w1c := rfl
@[simp] theorem F.WIT_HIST_INC_DROP_width : F.WIT_HIST_INC_DROP.width = 1 := rfl
@[simp] theorem F.WIT_HIST_CFG_REJECTED_key (n : Nat) : F.WIT_HIST_CFG_REJECTED.key n = 503324939 := Field.key_one F.WIT_HIST_CFG_REJECTED n rfl rfl
@[simp] theorem F.WIT_HIST_CFG_REJECTED_acc : F.WIT_HIST_CFG_REJECTED.acc = .w1c := rfl
@[simp] theorem F.WIT_HIST_CFG_REJECTED_width : F.WIT_HIST_CFG_REJECTED.width = 1 := rfl
@[simp] theorem F.WIT_IRQ_EN_EN_key (n : Nat) : F.WIT_IRQ_EN_EN.key n = 503325056 := Field.key_one F.WIT_IRQ_EN_EN n rfl rfl
@[simp] theorem F.WIT_IRQ_EN_EN_acc : F.WIT_IRQ_EN_EN.acc = .rw := rfl
@[simp] theorem F.WIT_IRQ_EN_EN_width : F.WIT_IRQ_EN_EN.width = 12 := rfl
@[simp] theorem F.WIT_BALE_DROP_CNT_COUNT_key (n : Nat) : F.WIT_BALE_DROP_CNT_COUNT.key n = 503325696 := Field.key_one F.WIT_BALE_DROP_CNT_COUNT n rfl rfl
@[simp] theorem F.WIT_BALE_DROP_CNT_COUNT_acc : F.WIT_BALE_DROP_CNT_COUNT.acc = .rcl := rfl
@[simp] theorem F.WIT_BALE_DROP_CNT_COUNT_width : F.WIT_BALE_DROP_CNT_COUNT.width = 32 := rfl
@[simp] theorem F.WIT_PIC_DROP_CNT_COUNT_key (n : Nat) : F.WIT_PIC_DROP_CNT_COUNT.key n = 503325824 := Field.key_one F.WIT_PIC_DROP_CNT_COUNT n rfl rfl
@[simp] theorem F.WIT_PIC_DROP_CNT_COUNT_acc : F.WIT_PIC_DROP_CNT_COUNT.acc = .rcl := rfl
@[simp] theorem F.WIT_PIC_DROP_CNT_COUNT_width : F.WIT_PIC_DROP_CNT_COUNT.width = 32 := rfl
@[simp] theorem F.WIT_UNSIGNED_CNT_COUNT_key (n : Nat) : F.WIT_UNSIGNED_CNT_COUNT.key n = 503325952 := Field.key_one F.WIT_UNSIGNED_CNT_COUNT n rfl rfl
@[simp] theorem F.WIT_UNSIGNED_CNT_COUNT_acc : F.WIT_UNSIGNED_CNT_COUNT.acc = .rcl := rfl
@[simp] theorem F.WIT_UNSIGNED_CNT_COUNT_width : F.WIT_UNSIGNED_CNT_COUNT.width = 32 := rfl
@[simp] theorem F.WIT_TAP_MASK_MASK_key (n : Nat) : F.WIT_TAP_MASK_MASK.key n = 503326720 + 128 * n := Field.key_plain F.WIT_TAP_MASK_MASK n rfl
@[simp] theorem F.WIT_TAP_MASK_MASK_acc : F.WIT_TAP_MASK_MASK.acc = .rw := rfl
@[simp] theorem F.WIT_TAP_MASK_MASK_width : F.WIT_TAP_MASK_MASK.width = 32 := rfl
@[simp] theorem F.WIT_DRV_STATUS_STATE_key (n : Nat) : F.WIT_DRV_STATUS_STATE.key n = 503332864 + 1024 * n := Field.key_plain F.WIT_DRV_STATUS_STATE n rfl
@[simp] theorem F.WIT_DRV_STATUS_STATE_acc : F.WIT_DRV_STATUS_STATE.acc = .ro := rfl
@[simp] theorem F.WIT_DRV_STATUS_STATE_width : F.WIT_DRV_STATUS_STATE.width = 3 := rfl
@[simp] theorem F.WIT_DRV_STATUS_LBA4K_key (n : Nat) : F.WIT_DRV_STATUS_LBA4K.key n = 503332867 + 1024 * n := Field.key_plain F.WIT_DRV_STATUS_LBA4K n rfl
@[simp] theorem F.WIT_DRV_STATUS_LBA4K_acc : F.WIT_DRV_STATUS_LBA4K.acc = .ro := rfl
@[simp] theorem F.WIT_DRV_STATUS_LBA4K_width : F.WIT_DRV_STATUS_LBA4K.width = 1 := rfl
@[simp] theorem F.WIT_DRV_STATUS_USED_key (n : Nat) : F.WIT_DRV_STATUS_USED.key n = 503332868 + 1024 * n := Field.key_plain F.WIT_DRV_STATUS_USED n rfl
@[simp] theorem F.WIT_DRV_STATUS_USED_acc : F.WIT_DRV_STATUS_USED.acc = .ro := rfl
@[simp] theorem F.WIT_DRV_STATUS_USED_width : F.WIT_DRV_STATUS_USED.width = 8 := rfl
@[simp] theorem F.WIT_DRV_STATUS_SPARE_key (n : Nat) : F.WIT_DRV_STATUS_SPARE.key n = 503332876 + 1024 * n := Field.key_plain F.WIT_DRV_STATUS_SPARE n rfl
@[simp] theorem F.WIT_DRV_STATUS_SPARE_acc : F.WIT_DRV_STATUS_SPARE.acc = .ro := rfl
@[simp] theorem F.WIT_DRV_STATUS_SPARE_width : F.WIT_DRV_STATUS_SPARE.width = 8 := rfl
@[simp] theorem F.WIT_DRV_STATUS_CRIT_key (n : Nat) : F.WIT_DRV_STATUS_CRIT.key n = 503332884 + 1024 * n := Field.key_plain F.WIT_DRV_STATUS_CRIT n rfl
@[simp] theorem F.WIT_DRV_STATUS_CRIT_acc : F.WIT_DRV_STATUS_CRIT.acc = .ro := rfl
@[simp] theorem F.WIT_DRV_STATUS_CRIT_width : F.WIT_DRV_STATUS_CRIT.width = 1 := rfl
@[simp] theorem F.WIT_DRV_SLOTS_LO_SLOTS_key (n : Nat) : F.WIT_DRV_SLOTS_LO_SLOTS.key n = 503332992 + 1024 * n := Field.key_plain F.WIT_DRV_SLOTS_LO_SLOTS n rfl
@[simp] theorem F.WIT_DRV_SLOTS_LO_SLOTS_acc : F.WIT_DRV_SLOTS_LO_SLOTS.acc = .ro := rfl
@[simp] theorem F.WIT_DRV_SLOTS_LO_SLOTS_width : F.WIT_DRV_SLOTS_LO_SLOTS.width = 32 := rfl
@[simp] theorem F.WIT_DRV_SLOTS_HI_SLOTS_key (n : Nat) : F.WIT_DRV_SLOTS_HI_SLOTS.key n = 503333120 + 1024 * n := Field.key_plain F.WIT_DRV_SLOTS_HI_SLOTS n rfl
@[simp] theorem F.WIT_DRV_SLOTS_HI_SLOTS_acc : F.WIT_DRV_SLOTS_HI_SLOTS.acc = .ro := rfl
@[simp] theorem F.WIT_DRV_SLOTS_HI_SLOTS_width : F.WIT_DRV_SLOTS_HI_SLOTS.width = 32 := rfl
@[simp] theorem F.WIT_DRV_ERR_CNT_COUNT_key (n : Nat) : F.WIT_DRV_ERR_CNT_COUNT.key n = 503333248 + 1024 * n := Field.key_plain F.WIT_DRV_ERR_CNT_COUNT n rfl
@[simp] theorem F.WIT_DRV_ERR_CNT_COUNT_acc : F.WIT_DRV_ERR_CNT_COUNT.acc = .rcl := rfl
@[simp] theorem F.WIT_DRV_ERR_CNT_COUNT_width : F.WIT_DRV_ERR_CNT_COUNT.width = 32 := rfl
@[simp] theorem F.WIT_DRV_WEAR_WEAR_WARN_key (n : Nat) : F.WIT_DRV_WEAR_WEAR_WARN.key n = 503333376 + 1024 * n := Field.key_plain F.WIT_DRV_WEAR_WEAR_WARN n rfl
@[simp] theorem F.WIT_DRV_WEAR_WEAR_WARN_acc : F.WIT_DRV_WEAR_WEAR_WARN.acc = .rw := rfl
@[simp] theorem F.WIT_DRV_WEAR_WEAR_WARN_width : F.WIT_DRV_WEAR_WEAR_WARN.width = 8 := rfl
@[simp] theorem F.INC_CFG_EN_key (n : Nat) : F.INC_CFG_EN.key n = 503341056 := Field.key_one F.INC_CFG_EN n rfl rfl
@[simp] theorem F.INC_CFG_EN_acc : F.INC_CFG_EN.acc = .ro := rfl
@[simp] theorem F.INC_CFG_EN_width : F.INC_CFG_EN.width = 1 := rfl
@[simp] theorem F.INC_CFG_TRIG_EN_key (n : Nat) : F.INC_CFG_TRIG_EN.key n = 503341057 := Field.key_one F.INC_CFG_TRIG_EN n rfl rfl
@[simp] theorem F.INC_CFG_TRIG_EN_acc : F.INC_CFG_TRIG_EN.acc = .ro := rfl
@[simp] theorem F.INC_CFG_TRIG_EN_width : F.INC_CFG_TRIG_EN.width = 1 := rfl
@[simp] theorem F.INC_CFG_TRIG_POL_key (n : Nat) : F.INC_CFG_TRIG_POL.key n = 503341058 := Field.key_one F.INC_CFG_TRIG_POL n rfl rfl
@[simp] theorem F.INC_CFG_TRIG_POL_acc : F.INC_CFG_TRIG_POL.acc = .ro := rfl
@[simp] theorem F.INC_CFG_TRIG_POL_width : F.INC_CFG_TRIG_POL.width = 1 := rfl
@[simp] theorem F.INC_CFG_STALE_TRIG_key (n : Nat) : F.INC_CFG_STALE_TRIG.key n = 503341059 := Field.key_one F.INC_CFG_STALE_TRIG n rfl rfl
@[simp] theorem F.INC_CFG_STALE_TRIG_acc : F.INC_CFG_STALE_TRIG.acc = .ro := rfl
@[simp] theorem F.INC_CFG_STALE_TRIG_width : F.INC_CFG_STALE_TRIG.width = 1 := rfl
@[simp] theorem F.INC_CFG_PRE_S_key (n : Nat) : F.INC_CFG_PRE_S.key n = 503341064 := Field.key_one F.INC_CFG_PRE_S n rfl rfl
@[simp] theorem F.INC_CFG_PRE_S_acc : F.INC_CFG_PRE_S.acc = .ro := rfl
@[simp] theorem F.INC_CFG_PRE_S_width : F.INC_CFG_PRE_S.width = 5 := rfl
@[simp] theorem F.INC_CFG_POST_S_key (n : Nat) : F.INC_CFG_POST_S.key n = 503341072 := Field.key_one F.INC_CFG_POST_S n rfl rfl
@[simp] theorem F.INC_CFG_POST_S_acc : F.INC_CFG_POST_S.acc = .ro := rfl
@[simp] theorem F.INC_CFG_POST_S_width : F.INC_CFG_POST_S.width = 6 := rfl
@[simp] theorem F.INC_STATUS_STATE_key (n : Nat) : F.INC_STATUS_STATE.key n = 503341184 := Field.key_one F.INC_STATUS_STATE n rfl rfl
@[simp] theorem F.INC_STATUS_STATE_acc : F.INC_STATUS_STATE.acc = .ro := rfl
@[simp] theorem F.INC_STATUS_STATE_width : F.INC_STATUS_STATE.width = 2 := rfl
@[simp] theorem F.INC_STATUS_UNITS_key (n : Nat) : F.INC_STATUS_UNITS.key n = 503341188 := Field.key_one F.INC_STATUS_UNITS n rfl rfl
@[simp] theorem F.INC_STATUS_UNITS_acc : F.INC_STATUS_UNITS.acc = .ro := rfl
@[simp] theorem F.INC_STATUS_UNITS_width : F.INC_STATUS_UNITS.width = 4 := rfl
@[simp] theorem F.INC_CAPTURE_CAPTURE_key (n : Nat) : F.INC_CAPTURE_CAPTURE.key n = 503341312 := Field.key_one F.INC_CAPTURE_CAPTURE n rfl rfl
@[simp] theorem F.INC_CAPTURE_CAPTURE_acc : F.INC_CAPTURE_CAPTURE.acc = .ro := rfl
@[simp] theorem F.INC_CAPTURE_CAPTURE_width : F.INC_CAPTURE_CAPTURE.width = 32 := rfl
@[simp] theorem F.INC_PRE_FRAMES_FRAMES_key (n : Nat) : F.INC_PRE_FRAMES_FRAMES.key n = 503341440 := Field.key_one F.INC_PRE_FRAMES_FRAMES n rfl rfl
@[simp] theorem F.INC_PRE_FRAMES_FRAMES_acc : F.INC_PRE_FRAMES_FRAMES.acc = .ro := rfl
@[simp] theorem F.INC_PRE_FRAMES_FRAMES_width : F.INC_PRE_FRAMES_FRAMES.width = 32 := rfl
@[simp] theorem F.INC_TRIG_CNT_COUNT_key (n : Nat) : F.INC_TRIG_CNT_COUNT.key n = 503341568 := Field.key_one F.INC_TRIG_CNT_COUNT n rfl rfl
@[simp] theorem F.INC_TRIG_CNT_COUNT_acc : F.INC_TRIG_CNT_COUNT.acc = .rcl := rfl
@[simp] theorem F.INC_TRIG_CNT_COUNT_width : F.INC_TRIG_CNT_COUNT.width = 32 := rfl
@[simp] theorem F.INC_MISSED_CNT_COUNT_key (n : Nat) : F.INC_MISSED_CNT_COUNT.key n = 503341696 := Field.key_one F.INC_MISSED_CNT_COUNT n rfl rfl
@[simp] theorem F.INC_MISSED_CNT_COUNT_acc : F.INC_MISSED_CNT_COUNT.acc = .rcl := rfl
@[simp] theorem F.INC_MISSED_CNT_COUNT_width : F.INC_MISSED_CNT_COUNT.width = 32 := rfl
@[simp] theorem F.INC_DROP_CNT_COUNT_key (n : Nat) : F.INC_DROP_CNT_COUNT.key n = 503341824 := Field.key_one F.INC_DROP_CNT_COUNT n rfl rfl
@[simp] theorem F.INC_DROP_CNT_COUNT_acc : F.INC_DROP_CNT_COUNT.acc = .rcl := rfl
@[simp] theorem F.INC_DROP_CNT_COUNT_width : F.INC_DROP_CNT_COUNT.width = 32 := rfl
@[simp] theorem F.INC_TAPS_TAP_key (n : Nat) : F.INC_TAPS_TAP.key n = 503342080 + 128 * n := Field.key_plain F.INC_TAPS_TAP n rfl
@[simp] theorem F.INC_TAPS_TAP_acc : F.INC_TAPS_TAP.acc = .ro := rfl
@[simp] theorem F.INC_TAPS_TAP_width : F.INC_TAPS_TAP.width = 8 := rfl
@[simp] theorem F.INC_TAPS_VALID_key (n : Nat) : F.INC_TAPS_VALID.key n = 503342088 + 128 * n := Field.key_plain F.INC_TAPS_VALID n rfl
@[simp] theorem F.INC_TAPS_VALID_acc : F.INC_TAPS_VALID.acc = .ro := rfl
@[simp] theorem F.INC_TAPS_VALID_width : F.INC_TAPS_VALID.width = 1 := rfl
@[simp] theorem F.WIT_TAP_SEQ_LO_SEQ_key (n : Nat) : F.WIT_TAP_SEQ_LO_SEQ.key n = 503447552 + 512 * n := Field.key_plain F.WIT_TAP_SEQ_LO_SEQ n rfl
@[simp] theorem F.WIT_TAP_SEQ_LO_SEQ_acc : F.WIT_TAP_SEQ_LO_SEQ.acc = .ro := rfl
@[simp] theorem F.WIT_TAP_SEQ_LO_SEQ_width : F.WIT_TAP_SEQ_LO_SEQ.width = 32 := rfl
@[simp] theorem F.WIT_TAP_SEQ_HI_SEQ_key (n : Nat) : F.WIT_TAP_SEQ_HI_SEQ.key n = 503447680 + 512 * n := Field.key_plain F.WIT_TAP_SEQ_HI_SEQ n rfl
@[simp] theorem F.WIT_TAP_SEQ_HI_SEQ_acc : F.WIT_TAP_SEQ_HI_SEQ.acc = .ro := rfl
@[simp] theorem F.WIT_TAP_SEQ_HI_SEQ_width : F.WIT_TAP_SEQ_HI_SEQ.width = 32 := rfl
@[simp] theorem F.WIT_TAP_STATUS_RECORDING_key (n : Nat) : F.WIT_TAP_STATUS_RECORDING.key n = 503447808 + 512 * n := Field.key_plain F.WIT_TAP_STATUS_RECORDING n rfl
@[simp] theorem F.WIT_TAP_STATUS_RECORDING_acc : F.WIT_TAP_STATUS_RECORDING.acc = .ro := rfl
@[simp] theorem F.WIT_TAP_STATUS_RECORDING_width : F.WIT_TAP_STATUS_RECORDING.width = 1 := rfl
@[simp] theorem F.WIT_TAP_STATUS_OPEN_key (n : Nat) : F.WIT_TAP_STATUS_OPEN.key n = 503447809 + 512 * n := Field.key_plain F.WIT_TAP_STATUS_OPEN n rfl
@[simp] theorem F.WIT_TAP_STATUS_OPEN_acc : F.WIT_TAP_STATUS_OPEN.acc = .ro := rfl
@[simp] theorem F.WIT_TAP_STATUS_OPEN_width : F.WIT_TAP_STATUS_OPEN.width = 1 := rfl
@[simp] theorem F.WIT_TAP_DROP_CNT_COUNT_key (n : Nat) : F.WIT_TAP_DROP_CNT_COUNT.key n = 503447936 + 512 * n := Field.key_plain F.WIT_TAP_DROP_CNT_COUNT n rfl
@[simp] theorem F.WIT_TAP_DROP_CNT_COUNT_acc : F.WIT_TAP_DROP_CNT_COUNT.acc = .rcl := rfl
@[simp] theorem F.WIT_TAP_DROP_CNT_COUNT_width : F.WIT_TAP_DROP_CNT_COUNT.width = 32 := rfl
@[simp] theorem F.TWIN_CFG_EN_key (n : Nat) : F.TWIN_CFG_EN.key n = 536879104 := Field.key_one F.TWIN_CFG_EN n rfl rfl
@[simp] theorem F.TWIN_CFG_EN_acc : F.TWIN_CFG_EN.acc = .rw := rfl
@[simp] theorem F.TWIN_CFG_EN_width : F.TWIN_CFG_EN.width = 1 := rfl
@[simp] theorem F.TWIN_CFG_AUTO_RESYNC_key (n : Nat) : F.TWIN_CFG_AUTO_RESYNC.key n = 536879105 := Field.key_one F.TWIN_CFG_AUTO_RESYNC n rfl rfl
@[simp] theorem F.TWIN_CFG_AUTO_RESYNC_acc : F.TWIN_CFG_AUTO_RESYNC.acc = .rw := rfl
@[simp] theorem F.TWIN_CFG_AUTO_RESYNC_width : F.TWIN_CFG_AUTO_RESYNC.width = 1 := rfl
@[simp] theorem F.TWIN_CFG_TL_key (n : Nat) : F.TWIN_CFG_TL.key n = 536879106 := Field.key_one F.TWIN_CFG_TL n rfl rfl
@[simp] theorem F.TWIN_CFG_TL_acc : F.TWIN_CFG_TL.acc = .rw := rfl
@[simp] theorem F.TWIN_CFG_TL_width : F.TWIN_CFG_TL.width = 1 := rfl
@[simp] theorem F.TWIN_CFG_MISS_LIMIT_key (n : Nat) : F.TWIN_CFG_MISS_LIMIT.key n = 536879112 := Field.key_one F.TWIN_CFG_MISS_LIMIT n rfl rfl
@[simp] theorem F.TWIN_CFG_MISS_LIMIT_acc : F.TWIN_CFG_MISS_LIMIT.acc = .rw := rfl
@[simp] theorem F.TWIN_CFG_MISS_LIMIT_width : F.TWIN_CFG_MISS_LIMIT.width = 8 := rfl
@[simp] theorem F.TWIN_CFG_MM_LIMIT_key (n : Nat) : F.TWIN_CFG_MM_LIMIT.key n = 536879120 := Field.key_one F.TWIN_CFG_MM_LIMIT n rfl rfl
@[simp] theorem F.TWIN_CFG_MM_LIMIT_acc : F.TWIN_CFG_MM_LIMIT.acc = .rw := rfl
@[simp] theorem F.TWIN_CFG_MM_LIMIT_width : F.TWIN_CFG_MM_LIMIT.width = 8 := rfl
@[simp] theorem F.TWIN_SYNC_SYNC_FRAMES_key (n : Nat) : F.TWIN_SYNC_SYNC_FRAMES.key n = 536879232 := Field.key_one F.TWIN_SYNC_SYNC_FRAMES n rfl rfl
@[simp] theorem F.TWIN_SYNC_SYNC_FRAMES_acc : F.TWIN_SYNC_SYNC_FRAMES.acc = .rw := rfl
@[simp] theorem F.TWIN_SYNC_SYNC_FRAMES_width : F.TWIN_SYNC_SYNC_FRAMES.width = 16 := rfl
@[simp] theorem F.TWIN_STATUS_STATE_key (n : Nat) : F.TWIN_STATUS_STATE.key n = 536879360 := Field.key_one F.TWIN_STATUS_STATE n rfl rfl
@[simp] theorem F.TWIN_STATUS_STATE_acc : F.TWIN_STATUS_STATE.acc = .ro := rfl
@[simp] theorem F.TWIN_STATUS_STATE_width : F.TWIN_STATUS_STATE.width = 3 := rfl
@[simp] theorem F.TWIN_STATUS_ROLE_key (n : Nat) : F.TWIN_STATUS_ROLE.key n = 536879363 := Field.key_one F.TWIN_STATUS_ROLE n rfl rfl
@[simp] theorem F.TWIN_STATUS_ROLE_acc : F.TWIN_STATUS_ROLE.acc = .ro := rfl
@[simp] theorem F.TWIN_STATUS_ROLE_width : F.TWIN_STATUS_ROLE.width = 1 := rfl
@[simp] theorem F.TWIN_STATUS_SEL_BOW_key (n : Nat) : F.TWIN_STATUS_SEL_BOW.key n = 536879364 := Field.key_one F.TWIN_STATUS_SEL_BOW n rfl rfl
@[simp] theorem F.TWIN_STATUS_SEL_BOW_acc : F.TWIN_STATUS_SEL_BOW.acc = .ro := rfl
@[simp] theorem F.TWIN_STATUS_SEL_BOW_width : F.TWIN_STATUS_SEL_BOW.width = 1 := rfl
@[simp] theorem F.TWIN_STATUS_HB_ON_key (n : Nat) : F.TWIN_STATUS_HB_ON.key n = 536879365 := Field.key_one F.TWIN_STATUS_HB_ON n rfl rfl
@[simp] theorem F.TWIN_STATUS_HB_ON_acc : F.TWIN_STATUS_HB_ON.acc = .ro := rfl
@[simp] theorem F.TWIN_STATUS_HB_ON_width : F.TWIN_STATUS_HB_ON.width = 1 := rfl
@[simp] theorem F.TWIN_STATUS_HEALTHY_key (n : Nat) : F.TWIN_STATUS_HEALTHY.key n = 536879366 := Field.key_one F.TWIN_STATUS_HEALTHY n rfl rfl
@[simp] theorem F.TWIN_STATUS_HEALTHY_acc : F.TWIN_STATUS_HEALTHY.acc = .ro := rfl
@[simp] theorem F.TWIN_STATUS_HEALTHY_width : F.TWIN_STATUS_HEALTHY.width = 1 := rfl
@[simp] theorem F.TWIN_STATUS_PARTNER_UP_key (n : Nat) : F.TWIN_STATUS_PARTNER_UP.key n = 536879367 := Field.key_one F.TWIN_STATUS_PARTNER_UP n rfl rfl
@[simp] theorem F.TWIN_STATUS_PARTNER_UP_acc : F.TWIN_STATUS_PARTNER_UP.acc = .ro := rfl
@[simp] theorem F.TWIN_STATUS_PARTNER_UP_width : F.TWIN_STATUS_PARTNER_UP.width = 1 := rfl
@[simp] theorem F.TWIN_STATUS_RUN_key (n : Nat) : F.TWIN_STATUS_RUN.key n = 536879376 := Field.key_one F.TWIN_STATUS_RUN n rfl rfl
@[simp] theorem F.TWIN_STATUS_RUN_acc : F.TWIN_STATUS_RUN.acc = .ro := rfl
@[simp] theorem F.TWIN_STATUS_RUN_width : F.TWIN_STATUS_RUN.width = 16 := rfl
@[simp] theorem F.TWIN_HIST_BECAME_ACTIVE_key (n : Nat) : F.TWIN_HIST_BECAME_ACTIVE.key n = 536879488 := Field.key_one F.TWIN_HIST_BECAME_ACTIVE n rfl rfl
@[simp] theorem F.TWIN_HIST_BECAME_ACTIVE_acc : F.TWIN_HIST_BECAME_ACTIVE.acc = .w1c := rfl
@[simp] theorem F.TWIN_HIST_BECAME_ACTIVE_width : F.TWIN_HIST_BECAME_ACTIVE.width = 1 := rfl
@[simp] theorem F.TWIN_HIST_BECAME_STANDBY_key (n : Nat) : F.TWIN_HIST_BECAME_STANDBY.key n = 536879489 := Field.key_one F.TWIN_HIST_BECAME_STANDBY n rfl rfl
@[simp] theorem F.TWIN_HIST_BECAME_STANDBY_acc : F.TWIN_HIST_BECAME_STANDBY.acc = .w1c := rfl
@[simp] theorem F.TWIN_HIST_BECAME_STANDBY_width : F.TWIN_HIST_BECAME_STANDBY.width = 1 := rfl
@[simp] theorem F.TWIN_HIST_IN_STEP_GAINED_key (n : Nat) : F.TWIN_HIST_IN_STEP_GAINED.key n = 536879490 := Field.key_one F.TWIN_HIST_IN_STEP_GAINED n rfl rfl
@[simp] theorem F.TWIN_HIST_IN_STEP_GAINED_acc : F.TWIN_HIST_IN_STEP_GAINED.acc = .w1c := rfl
@[simp] theorem F.TWIN_HIST_IN_STEP_GAINED_width : F.TWIN_HIST_IN_STEP_GAINED.width = 1 := rfl
@[simp] theorem F.TWIN_HIST_STEP_LOST_key (n : Nat) : F.TWIN_HIST_STEP_LOST.key n = 536879491 := Field.key_one F.TWIN_HIST_STEP_LOST n rfl rfl
@[simp] theorem F.TWIN_HIST_STEP_LOST_acc : F.TWIN_HIST_STEP_LOST.acc = .w1c := rfl
@[simp] theorem F.TWIN_HIST_STEP_LOST_width : F.TWIN_HIST_STEP_LOST.width = 1 := rfl
@[simp] theorem F.TWIN_HIST_JRNL_MISS_key (n : Nat) : F.TWIN_HIST_JRNL_MISS.key n = 536879492 := Field.key_one F.TWIN_HIST_JRNL_MISS n rfl rfl
@[simp] theorem F.TWIN_HIST_JRNL_MISS_acc : F.TWIN_HIST_JRNL_MISS.acc = .w1c := rfl
@[simp] theorem F.TWIN_HIST_JRNL_MISS_width : F.TWIN_HIST_JRNL_MISS.width = 1 := rfl
@[simp] theorem F.TWIN_HIST_JRNL_OVERRIDE_key (n : Nat) : F.TWIN_HIST_JRNL_OVERRIDE.key n = 536879493 := Field.key_one F.TWIN_HIST_JRNL_OVERRIDE n rfl rfl
@[simp] theorem F.TWIN_HIST_JRNL_OVERRIDE_acc : F.TWIN_HIST_JRNL_OVERRIDE.acc = .w1c := rfl
@[simp] theorem F.TWIN_HIST_JRNL_OVERRIDE_width : F.TWIN_HIST_JRNL_OVERRIDE.width = 1 := rfl
@[simp] theorem F.TWIN_HIST_SIG_MISMATCH_key (n : Nat) : F.TWIN_HIST_SIG_MISMATCH.key n = 536879494 := Field.key_one F.TWIN_HIST_SIG_MISMATCH n rfl rfl
@[simp] theorem F.TWIN_HIST_SIG_MISMATCH_acc : F.TWIN_HIST_SIG_MISMATCH.acc = .w1c := rfl
@[simp] theorem F.TWIN_HIST_SIG_MISMATCH_width : F.TWIN_HIST_SIG_MISMATCH.width = 1 := rfl
@[simp] theorem F.TWIN_HIST_SIG_MISS_key (n : Nat) : F.TWIN_HIST_SIG_MISS.key n = 536879495 := Field.key_one F.TWIN_HIST_SIG_MISS n rfl rfl
@[simp] theorem F.TWIN_HIST_SIG_MISS_acc : F.TWIN_HIST_SIG_MISS.acc = .w1c := rfl
@[simp] theorem F.TWIN_HIST_SIG_MISS_width : F.TWIN_HIST_SIG_MISS.width = 1 := rfl
@[simp] theorem F.TWIN_HIST_HB_STOPPED_key (n : Nat) : F.TWIN_HIST_HB_STOPPED.key n = 536879496 := Field.key_one F.TWIN_HIST_HB_STOPPED n rfl rfl
@[simp] theorem F.TWIN_HIST_HB_STOPPED_acc : F.TWIN_HIST_HB_STOPPED.acc = .w1c := rfl
@[simp] theorem F.TWIN_HIST_HB_STOPPED_width : F.TWIN_HIST_HB_STOPPED.width = 1 := rfl
@[simp] theorem F.TWIN_HIST_SWITCH_DONE_key (n : Nat) : F.TWIN_HIST_SWITCH_DONE.key n = 536879497 := Field.key_one F.TWIN_HIST_SWITCH_DONE n rfl rfl
@[simp] theorem F.TWIN_HIST_SWITCH_DONE_acc : F.TWIN_HIST_SWITCH_DONE.acc = .w1c := rfl
@[simp] theorem F.TWIN_HIST_SWITCH_DONE_width : F.TWIN_HIST_SWITCH_DONE.width = 1 := rfl
@[simp] theorem F.TWIN_HIST_SEL_UNEXPECTED_key (n : Nat) : F.TWIN_HIST_SEL_UNEXPECTED.key n = 536879498 := Field.key_one F.TWIN_HIST_SEL_UNEXPECTED n rfl rfl
@[simp] theorem F.TWIN_HIST_SEL_UNEXPECTED_acc : F.TWIN_HIST_SEL_UNEXPECTED.acc = .w1c := rfl
@[simp] theorem F.TWIN_HIST_SEL_UNEXPECTED_width : F.TWIN_HIST_SEL_UNEXPECTED.width = 1 := rfl
@[simp] theorem F.TWIN_HIST_DUAL_ACTIVE_key (n : Nat) : F.TWIN_HIST_DUAL_ACTIVE.key n = 536879499 := Field.key_one F.TWIN_HIST_DUAL_ACTIVE n rfl rfl
@[simp] theorem F.TWIN_HIST_DUAL_ACTIVE_acc : F.TWIN_HIST_DUAL_ACTIVE.acc = .w1c := rfl
@[simp] theorem F.TWIN_HIST_DUAL_ACTIVE_width : F.TWIN_HIST_DUAL_ACTIVE.width = 1 := rfl
@[simp] theorem F.TWIN_HIST_CFG_REJECTED_key (n : Nat) : F.TWIN_HIST_CFG_REJECTED.key n = 536879500 := Field.key_one F.TWIN_HIST_CFG_REJECTED n rfl rfl
@[simp] theorem F.TWIN_HIST_CFG_REJECTED_acc : F.TWIN_HIST_CFG_REJECTED.acc = .w1c := rfl
@[simp] theorem F.TWIN_HIST_CFG_REJECTED_width : F.TWIN_HIST_CFG_REJECTED.width = 1 := rfl
@[simp] theorem F.TWIN_IRQ_EN_EN_key (n : Nat) : F.TWIN_IRQ_EN_EN.key n = 536879616 := Field.key_one F.TWIN_IRQ_EN_EN n rfl rfl
@[simp] theorem F.TWIN_IRQ_EN_EN_acc : F.TWIN_IRQ_EN_EN.acc = .rw := rfl
@[simp] theorem F.TWIN_IRQ_EN_EN_width : F.TWIN_IRQ_EN_EN.width = 13 := rfl
@[simp] theorem F.TWIN_HB_CAUSE_CAUSE_key (n : Nat) : F.TWIN_HB_CAUSE_CAUSE.key n = 536879744 := Field.key_one F.TWIN_HB_CAUSE_CAUSE n rfl rfl
@[simp] theorem F.TWIN_HB_CAUSE_CAUSE_acc : F.TWIN_HB_CAUSE_CAUSE.acc = .ro := rfl
@[simp] theorem F.TWIN_HB_CAUSE_CAUSE_width : F.TWIN_HB_CAUSE_CAUSE.width = 5 := rfl
@[simp] theorem F.TWIN_SW_LO_FRAME_key (n : Nat) : F.TWIN_SW_LO_FRAME.key n = 536879872 := Field.key_one F.TWIN_SW_LO_FRAME n rfl rfl
@[simp] theorem F.TWIN_SW_LO_FRAME_acc : F.TWIN_SW_LO_FRAME.acc = .ro := rfl
@[simp] theorem F.TWIN_SW_LO_FRAME_width : F.TWIN_SW_LO_FRAME.width = 32 := rfl
@[simp] theorem F.TWIN_SW_HI_FRAME_key (n : Nat) : F.TWIN_SW_HI_FRAME.key n = 536880000 := Field.key_one F.TWIN_SW_HI_FRAME n rfl rfl
@[simp] theorem F.TWIN_SW_HI_FRAME_acc : F.TWIN_SW_HI_FRAME.acc = .ro := rfl
@[simp] theorem F.TWIN_SW_HI_FRAME_width : F.TWIN_SW_HI_FRAME.width = 16 := rfl
@[simp] theorem F.TWIN_SW_HI_TL_key (n : Nat) : F.TWIN_SW_HI_TL.key n = 536880016 := Field.key_one F.TWIN_SW_HI_TL n rfl rfl
@[simp] theorem F.TWIN_SW_HI_TL_acc : F.TWIN_SW_HI_TL.acc = .ro := rfl
@[simp] theorem F.TWIN_SW_HI_TL_width : F.TWIN_SW_HI_TL.width = 1 := rfl
@[simp] theorem F.TWIN_SW_HI_PENDING_key (n : Nat) : F.TWIN_SW_HI_PENDING.key n = 536880017 := Field.key_one F.TWIN_SW_HI_PENDING n rfl rfl
@[simp] theorem F.TWIN_SW_HI_PENDING_acc : F.TWIN_SW_HI_PENDING.acc = .ro := rfl
@[simp] theorem F.TWIN_SW_HI_PENDING_width : F.TWIN_SW_HI_PENDING.width = 1 := rfl
@[simp] theorem F.TWIN_MISS_CNT_COUNT_key (n : Nat) : F.TWIN_MISS_CNT_COUNT.key n = 536880640 := Field.key_one F.TWIN_MISS_CNT_COUNT n rfl rfl
@[simp] theorem F.TWIN_MISS_CNT_COUNT_acc : F.TWIN_MISS_CNT_COUNT.acc = .rcl := rfl
@[simp] theorem F.TWIN_MISS_CNT_COUNT_width : F.TWIN_MISS_CNT_COUNT.width = 32 := rfl
@[simp] theorem F.TWIN_OVERRIDE_CNT_COUNT_key (n : Nat) : F.TWIN_OVERRIDE_CNT_COUNT.key n = 536880768 := Field.key_one F.TWIN_OVERRIDE_CNT_COUNT n rfl rfl
@[simp] theorem F.TWIN_OVERRIDE_CNT_COUNT_acc : F.TWIN_OVERRIDE_CNT_COUNT.acc = .rcl := rfl
@[simp] theorem F.TWIN_OVERRIDE_CNT_COUNT_width : F.TWIN_OVERRIDE_CNT_COUNT.width = 32 := rfl
@[simp] theorem F.TWIN_MM_CNT_COUNT_key (n : Nat) : F.TWIN_MM_CNT_COUNT.key n = 536880896 := Field.key_one F.TWIN_MM_CNT_COUNT n rfl rfl
@[simp] theorem F.TWIN_MM_CNT_COUNT_acc : F.TWIN_MM_CNT_COUNT.acc = .rcl := rfl
@[simp] theorem F.TWIN_MM_CNT_COUNT_width : F.TWIN_MM_CNT_COUNT.width = 32 := rfl
@[simp] theorem F.TWIN_SIGMISS_CNT_COUNT_key (n : Nat) : F.TWIN_SIGMISS_CNT_COUNT.key n = 536881024 := Field.key_one F.TWIN_SIGMISS_CNT_COUNT n rfl rfl
@[simp] theorem F.TWIN_SIGMISS_CNT_COUNT_acc : F.TWIN_SIGMISS_CNT_COUNT.acc = .rcl := rfl
@[simp] theorem F.TWIN_SIGMISS_CNT_COUNT_width : F.TWIN_SIGMISS_CNT_COUNT.width = 32 := rfl
@[simp] theorem F.TWIN_SWITCH_CNT_COUNT_key (n : Nat) : F.TWIN_SWITCH_CNT_COUNT.key n = 536881152 := Field.key_one F.TWIN_SWITCH_CNT_COUNT n rfl rfl
@[simp] theorem F.TWIN_SWITCH_CNT_COUNT_acc : F.TWIN_SWITCH_CNT_COUNT.acc = .rcl := rfl
@[simp] theorem F.TWIN_SWITCH_CNT_COUNT_width : F.TWIN_SWITCH_CNT_COUNT.width = 32 := rfl
@[simp] theorem F.TWIN_MM_MM_key (n : Nat) : F.TWIN_MM_MM.key n = 536887296 + 128 * n := Field.key_plain F.TWIN_MM_MM n rfl
@[simp] theorem F.TWIN_MM_MM_acc : F.TWIN_MM_MM.acc = .w1c := rfl
@[simp] theorem F.TWIN_MM_MM_width : F.TWIN_MM_MM.width = 32 := rfl
@[simp] theorem F.BAR2_WIN_GIB_key (n : Nat) : F.BAR2_WIN_GIB.key n = 570433536 := Field.key_one F.BAR2_WIN_GIB n rfl rfl
@[simp] theorem F.BAR2_WIN_GIB_acc : F.BAR2_WIN_GIB.acc = .rw := rfl
@[simp] theorem F.BAR2_WIN_GIB_width : F.BAR2_WIN_GIB.width = 6 := rfl
@[simp] theorem F.MBX_HIST_LOCK_MISUSE_key (n : Nat) : F.MBX_HIST_LOCK_MISUSE.key n = 570433664 := Field.key_one F.MBX_HIST_LOCK_MISUSE n rfl rfl
@[simp] theorem F.MBX_HIST_LOCK_MISUSE_acc : F.MBX_HIST_LOCK_MISUSE.acc = .w1c := rfl
@[simp] theorem F.MBX_HIST_LOCK_MISUSE_width : F.MBX_HIST_LOCK_MISUSE.width = 1 := rfl
@[simp] theorem F.MBX_HIST_BAR2_DENY_key (n : Nat) : F.MBX_HIST_BAR2_DENY.key n = 570433665 := Field.key_one F.MBX_HIST_BAR2_DENY n rfl rfl
@[simp] theorem F.MBX_HIST_BAR2_DENY_acc : F.MBX_HIST_BAR2_DENY.acc = .w1c := rfl
@[simp] theorem F.MBX_HIST_BAR2_DENY_width : F.MBX_HIST_BAR2_DENY.width = 1 := rfl
@[simp] theorem F.MBX_HIST_CFG_REJECTED_key (n : Nat) : F.MBX_HIST_CFG_REJECTED.key n = 570433666 := Field.key_one F.MBX_HIST_CFG_REJECTED n rfl rfl
@[simp] theorem F.MBX_HIST_CFG_REJECTED_acc : F.MBX_HIST_CFG_REJECTED.acc = .w1c := rfl
@[simp] theorem F.MBX_HIST_CFG_REJECTED_width : F.MBX_HIST_CFG_REJECTED.width = 1 := rfl
@[simp] theorem F.MBX_IRQ_EN_EN_key (n : Nat) : F.MBX_IRQ_EN_EN.key n = 570433792 := Field.key_one F.MBX_IRQ_EN_EN n rfl rfl
@[simp] theorem F.MBX_IRQ_EN_EN_acc : F.MBX_IRQ_EN_EN.acc = .rw := rfl
@[simp] theorem F.MBX_IRQ_EN_EN_width : F.MBX_IRQ_EN_EN.width = 3 := rfl
@[simp] theorem F.BAR2_DENY_CNT_COUNT_key (n : Nat) : F.BAR2_DENY_CNT_COUNT.key n = 570433920 := Field.key_one F.BAR2_DENY_CNT_COUNT n rfl rfl
@[simp] theorem F.BAR2_DENY_CNT_COUNT_acc : F.BAR2_DENY_CNT_COUNT.acc = .rcl := rfl
@[simp] theorem F.BAR2_DENY_CNT_COUNT_width : F.BAR2_DENY_CNT_COUNT.width = 32 := rfl
@[simp] theorem F.LOCK_OWNER_OWNER_key (n : Nat) : F.LOCK_OWNER_OWNER.key n = 570687488 + 128 * n := Field.key_plain F.LOCK_OWNER_OWNER n rfl
@[simp] theorem F.LOCK_OWNER_OWNER_acc : F.LOCK_OWNER_OWNER.acc = .ro := rfl
@[simp] theorem F.LOCK_OWNER_OWNER_width : F.LOCK_OWNER_OWNER.width = 6 := rfl
@[simp] theorem F.LOCK_OWNER_key (n : Nat) : F.LOCK_OWNER.key n = 570949632 + 8192 * (n / 64) + 128 * (n % 64) := Field.key_rows F.LOCK_OWNER n
@[simp] theorem F.LOCK_OWNER_acc : F.LOCK_OWNER.acc = .rw := rfl
@[simp] theorem F.LOCK_OWNER_width : F.LOCK_OWNER.width = 6 := rfl
@[simp] theorem F.CH_CTRL_DOORBELL_key (n : Nat) : F.CH_CTRL_DOORBELL.key n = 570556416 + 1024 * n := Field.key_plain F.CH_CTRL_DOORBELL n rfl
@[simp] theorem F.CH_CTRL_DOORBELL_acc : F.CH_CTRL_DOORBELL.acc = .wo := rfl
@[simp] theorem F.CH_CTRL_DOORBELL_width : F.CH_CTRL_DOORBELL.width = 1 := rfl
@[simp] theorem F.CH_CTRL_RSP_ACK_key (n : Nat) : F.CH_CTRL_RSP_ACK.key n = 570556417 + 1024 * n := Field.key_plain F.CH_CTRL_RSP_ACK n rfl
@[simp] theorem F.CH_CTRL_RSP_ACK_acc : F.CH_CTRL_RSP_ACK.acc = .wo := rfl
@[simp] theorem F.CH_CTRL_RSP_ACK_width : F.CH_CTRL_RSP_ACK.width = 1 := rfl
@[simp] theorem F.CH_CTRL_WITHDRAW_key (n : Nat) : F.CH_CTRL_WITHDRAW.key n = 570556418 + 1024 * n := Field.key_plain F.CH_CTRL_WITHDRAW n rfl
@[simp] theorem F.CH_CTRL_WITHDRAW_acc : F.CH_CTRL_WITHDRAW.acc = .wo := rfl
@[simp] theorem F.CH_CTRL_WITHDRAW_width : F.CH_CTRL_WITHDRAW.width = 1 := rfl
@[simp] theorem F.CH_CTRL_OPEN_key (n : Nat) : F.CH_CTRL_OPEN.key n = 570556419 + 1024 * n := Field.key_plain F.CH_CTRL_OPEN n rfl
@[simp] theorem F.CH_CTRL_OPEN_acc : F.CH_CTRL_OPEN.acc = .wo := rfl
@[simp] theorem F.CH_CTRL_OPEN_width : F.CH_CTRL_OPEN.width = 1 := rfl
@[simp] theorem F.CH_EPOCH_HOST_EPOCH_key (n : Nat) : F.CH_EPOCH_HOST_EPOCH.key n = 570556544 + 1024 * n := Field.key_plain F.CH_EPOCH_HOST_EPOCH n rfl
@[simp] theorem F.CH_EPOCH_HOST_EPOCH_acc : F.CH_EPOCH_HOST_EPOCH.acc = .rw := rfl
@[simp] theorem F.CH_EPOCH_HOST_EPOCH_width : F.CH_EPOCH_HOST_EPOCH.width = 16 := rfl
@[simp] theorem F.CH_EPOCH_DEV_EPOCH_key (n : Nat) : F.CH_EPOCH_DEV_EPOCH.key n = 570556560 + 1024 * n := Field.key_plain F.CH_EPOCH_DEV_EPOCH n rfl
@[simp] theorem F.CH_EPOCH_DEV_EPOCH_acc : F.CH_EPOCH_DEV_EPOCH.acc = .ro := rfl
@[simp] theorem F.CH_EPOCH_DEV_EPOCH_width : F.CH_EPOCH_DEV_EPOCH.width = 16 := rfl
@[simp] theorem F.CH_STATUS_REQ_STATE_key (n : Nat) : F.CH_STATUS_REQ_STATE.key n = 570556672 + 1024 * n := Field.key_plain F.CH_STATUS_REQ_STATE n rfl
@[simp] theorem F.CH_STATUS_REQ_STATE_acc : F.CH_STATUS_REQ_STATE.acc = .ro := rfl
@[simp] theorem F.CH_STATUS_REQ_STATE_width : F.CH_STATUS_REQ_STATE.width = 2 := rfl
@[simp] theorem F.CH_STATUS_RSP_READY_key (n : Nat) : F.CH_STATUS_RSP_READY.key n = 570556674 + 1024 * n := Field.key_plain F.CH_STATUS_RSP_READY n rfl
@[simp] theorem F.CH_STATUS_RSP_READY_acc : F.CH_STATUS_RSP_READY.acc = .ro := rfl
@[simp] theorem F.CH_STATUS_RSP_READY_width : F.CH_STATUS_RSP_READY.width = 1 := rfl
@[simp] theorem F.CH_STATUS_SERVED_key (n : Nat) : F.CH_STATUS_SERVED.key n = 570556675 + 1024 * n := Field.key_plain F.CH_STATUS_SERVED n rfl
@[simp] theorem F.CH_STATUS_SERVED_acc : F.CH_STATUS_SERVED.acc = .ro := rfl
@[simp] theorem F.CH_STATUS_SERVED_width : F.CH_STATUS_SERVED.width = 1 := rfl
@[simp] theorem F.CH_HIST_RSP_POSTED_key (n : Nat) : F.CH_HIST_RSP_POSTED.key n = 570556800 + 1024 * n := Field.key_plain F.CH_HIST_RSP_POSTED n rfl
@[simp] theorem F.CH_HIST_RSP_POSTED_acc : F.CH_HIST_RSP_POSTED.acc = .w1c := rfl
@[simp] theorem F.CH_HIST_RSP_POSTED_width : F.CH_HIST_RSP_POSTED.width = 1 := rfl
@[simp] theorem F.CH_HIST_TIMED_OUT_key (n : Nat) : F.CH_HIST_TIMED_OUT.key n = 570556801 + 1024 * n := Field.key_plain F.CH_HIST_TIMED_OUT n rfl
@[simp] theorem F.CH_HIST_TIMED_OUT_acc : F.CH_HIST_TIMED_OUT.acc = .w1c := rfl
@[simp] theorem F.CH_HIST_TIMED_OUT_width : F.CH_HIST_TIMED_OUT.width = 1 := rfl
@[simp] theorem F.CH_HIST_WRITE_DISCARDED_key (n : Nat) : F.CH_HIST_WRITE_DISCARDED.key n = 570556802 + 1024 * n := Field.key_plain F.CH_HIST_WRITE_DISCARDED n rfl
@[simp] theorem F.CH_HIST_WRITE_DISCARDED_acc : F.CH_HIST_WRITE_DISCARDED.acc = .w1c := rfl
@[simp] theorem F.CH_HIST_WRITE_DISCARDED_width : F.CH_HIST_WRITE_DISCARDED.width = 1 := rfl
@[simp] theorem F.CH_HIST_DOORBELL_DISCARDED_key (n : Nat) : F.CH_HIST_DOORBELL_DISCARDED.key n = 570556803 + 1024 * n := Field.key_plain F.CH_HIST_DOORBELL_DISCARDED n rfl
@[simp] theorem F.CH_HIST_DOORBELL_DISCARDED_acc : F.CH_HIST_DOORBELL_DISCARDED.acc = .w1c := rfl
@[simp] theorem F.CH_HIST_DOORBELL_DISCARDED_width : F.CH_HIST_DOORBELL_DISCARDED.width = 1 := rfl
@[simp] theorem F.CH_HIST_RSP_DISCARDED_key (n : Nat) : F.CH_HIST_RSP_DISCARDED.key n = 570556804 + 1024 * n := Field.key_plain F.CH_HIST_RSP_DISCARDED n rfl
@[simp] theorem F.CH_HIST_RSP_DISCARDED_acc : F.CH_HIST_RSP_DISCARDED.acc = .w1c := rfl
@[simp] theorem F.CH_HIST_RSP_DISCARDED_width : F.CH_HIST_RSP_DISCARDED.width = 1 := rfl
@[simp] theorem F.CH_HIST_DEV_RESTARTED_key (n : Nat) : F.CH_HIST_DEV_RESTARTED.key n = 570556805 + 1024 * n := Field.key_plain F.CH_HIST_DEV_RESTARTED n rfl
@[simp] theorem F.CH_HIST_DEV_RESTARTED_acc : F.CH_HIST_DEV_RESTARTED.acc = .w1c := rfl
@[simp] theorem F.CH_HIST_DEV_RESTARTED_width : F.CH_HIST_DEV_RESTARTED.width = 1 := rfl
@[simp] theorem F.CH_HIST_WITHDRAW_LATE_key (n : Nat) : F.CH_HIST_WITHDRAW_LATE.key n = 570556806 + 1024 * n := Field.key_plain F.CH_HIST_WITHDRAW_LATE n rfl
@[simp] theorem F.CH_HIST_WITHDRAW_LATE_acc : F.CH_HIST_WITHDRAW_LATE.acc = .w1c := rfl
@[simp] theorem F.CH_HIST_WITHDRAW_LATE_width : F.CH_HIST_WITHDRAW_LATE.width = 1 := rfl
@[simp] theorem F.CH_IRQ_EN_EN_key (n : Nat) : F.CH_IRQ_EN_EN.key n = 570556928 + 1024 * n := Field.key_plain F.CH_IRQ_EN_EN n rfl
@[simp] theorem F.CH_IRQ_EN_EN_acc : F.CH_IRQ_EN_EN.acc = .rw := rfl
@[simp] theorem F.CH_IRQ_EN_EN_width : F.CH_IRQ_EN_EN.width = 7 := rfl
@[simp] theorem F.CH_TMO_TMO_MS_key (n : Nat) : F.CH_TMO_TMO_MS.key n = 570557056 + 1024 * n := Field.key_plain F.CH_TMO_TMO_MS n rfl
@[simp] theorem F.CH_TMO_TMO_MS_acc : F.CH_TMO_TMO_MS.acc = .rw := rfl
@[simp] theorem F.CH_TMO_TMO_MS_width : F.CH_TMO_TMO_MS.width = 16 := rfl
@[simp] theorem F.CH_DISCARD_CNT_COUNT_key (n : Nat) : F.CH_DISCARD_CNT_COUNT.key n = 570557184 + 1024 * n := Field.key_plain F.CH_DISCARD_CNT_COUNT n rfl
@[simp] theorem F.CH_DISCARD_CNT_COUNT_acc : F.CH_DISCARD_CNT_COUNT.acc = .rcl := rfl
@[simp] theorem F.CH_DISCARD_CNT_COUNT_width : F.CH_DISCARD_CNT_COUNT.width = 32 := rfl
@[simp] theorem F.KEY_STATUS_KEYS_OK_key (n : Nat) : F.KEY_STATUS_KEYS_OK.key n = 603987968 := Field.key_one F.KEY_STATUS_KEYS_OK n rfl rfl
@[simp] theorem F.KEY_STATUS_KEYS_OK_acc : F.KEY_STATUS_KEYS_OK.acc = .ro := rfl
@[simp] theorem F.KEY_STATUS_KEYS_OK_width : F.KEY_STATUS_KEYS_OK.width = 1 := rfl
@[simp] theorem F.KEY_STATUS_ROOT_VALID_key (n : Nat) : F.KEY_STATUS_ROOT_VALID.key n = 603987969 := Field.key_one F.KEY_STATUS_ROOT_VALID n rfl rfl
@[simp] theorem F.KEY_STATUS_ROOT_VALID_acc : F.KEY_STATUS_ROOT_VALID.acc = .ro := rfl
@[simp] theorem F.KEY_STATUS_ROOT_VALID_width : F.KEY_STATUS_ROOT_VALID.width = 1 := rfl
@[simp] theorem F.KEY_STATUS_RET_LOST_key (n : Nat) : F.KEY_STATUS_RET_LOST.key n = 603987970 := Field.key_one F.KEY_STATUS_RET_LOST n rfl rfl
@[simp] theorem F.KEY_STATUS_RET_LOST_acc : F.KEY_STATUS_RET_LOST.acc = .ro := rfl
@[simp] theorem F.KEY_STATUS_RET_LOST_width : F.KEY_STATUS_RET_LOST.width = 1 := rfl
@[simp] theorem F.KEY_STATUS_TAMPERED_key (n : Nat) : F.KEY_STATUS_TAMPERED.key n = 603987971 := Field.key_one F.KEY_STATUS_TAMPERED n rfl rfl
@[simp] theorem F.KEY_STATUS_TAMPERED_acc : F.KEY_STATUS_TAMPERED.acc = .ro := rfl
@[simp] theorem F.KEY_STATUS_TAMPERED_width : F.KEY_STATUS_TAMPERED.width = 1 := rfl
@[simp] theorem F.KEY_STATUS_MEASURED_key (n : Nat) : F.KEY_STATUS_MEASURED.key n = 603987972 := Field.key_one F.KEY_STATUS_MEASURED n rfl rfl
@[simp] theorem F.KEY_STATUS_MEASURED_acc : F.KEY_STATUS_MEASURED.acc = .ro := rfl
@[simp] theorem F.KEY_STATUS_MEASURED_width : F.KEY_STATUS_MEASURED.width = 1 := rfl
@[simp] theorem F.KEY_STATUS_SCAN_ZEROISED_key (n : Nat) : F.KEY_STATUS_SCAN_ZEROISED.key n = 603987973 := Field.key_one F.KEY_STATUS_SCAN_ZEROISED n rfl rfl
@[simp] theorem F.KEY_STATUS_SCAN_ZEROISED_acc : F.KEY_STATUS_SCAN_ZEROISED.acc = .ro := rfl
@[simp] theorem F.KEY_STATUS_SCAN_ZEROISED_width : F.KEY_STATUS_SCAN_ZEROISED.width = 1 := rfl
@[simp] theorem F.KEY_STATUS_INTENT_key (n : Nat) : F.KEY_STATUS_INTENT.key n = 603987974 := Field.key_one F.KEY_STATUS_INTENT n rfl rfl
@[simp] theorem F.KEY_STATUS_INTENT_acc : F.KEY_STATUS_INTENT.acc = .ro := rfl
@[simp] theorem F.KEY_STATUS_INTENT_width : F.KEY_STATUS_INTENT.width = 1 := rfl
@[simp] theorem F.KEY_STATUS_SLOT_WRITTEN_key (n : Nat) : F.KEY_STATUS_SLOT_WRITTEN.key n = 603987976 := Field.key_one F.KEY_STATUS_SLOT_WRITTEN n rfl rfl
@[simp] theorem F.KEY_STATUS_SLOT_WRITTEN_acc : F.KEY_STATUS_SLOT_WRITTEN.acc = .ro := rfl
@[simp] theorem F.KEY_STATUS_SLOT_WRITTEN_width : F.KEY_STATUS_SLOT_WRITTEN.width = 8 := rfl
@[simp] theorem F.KEY_HIST_ZEROISED_key (n : Nat) : F.KEY_HIST_ZEROISED.key n = 603988096 := Field.key_one F.KEY_HIST_ZEROISED n rfl rfl
@[simp] theorem F.KEY_HIST_ZEROISED_acc : F.KEY_HIST_ZEROISED.acc = .sw := rfl
@[simp] theorem F.KEY_HIST_ZEROISED_width : F.KEY_HIST_ZEROISED.width = 1 := rfl
@[simp] theorem F.KEY_HIST_GENERATED_key (n : Nat) : F.KEY_HIST_GENERATED.key n = 603988097 := Field.key_one F.KEY_HIST_GENERATED n rfl rfl
@[simp] theorem F.KEY_HIST_GENERATED_acc : F.KEY_HIST_GENERATED.acc = .sw := rfl
@[simp] theorem F.KEY_HIST_GENERATED_width : F.KEY_HIST_GENERATED.width = 1 := rfl
@[simp] theorem F.KEY_HIST_INJECTED_key (n : Nat) : F.KEY_HIST_INJECTED.key n = 603988098 := Field.key_one F.KEY_HIST_INJECTED n rfl rfl
@[simp] theorem F.KEY_HIST_INJECTED_acc : F.KEY_HIST_INJECTED.acc = .sw := rfl
@[simp] theorem F.KEY_HIST_INJECTED_width : F.KEY_HIST_INJECTED.width = 1 := rfl
@[simp] theorem F.KEY_HIST_REFUSED_key (n : Nat) : F.KEY_HIST_REFUSED.key n = 603988099 := Field.key_one F.KEY_HIST_REFUSED n rfl rfl
@[simp] theorem F.KEY_HIST_REFUSED_acc : F.KEY_HIST_REFUSED.acc = .sw := rfl
@[simp] theorem F.KEY_HIST_REFUSED_width : F.KEY_HIST_REFUSED.width = 1 := rfl
@[simp] theorem F.KEY_IRQ_EN_EN_key (n : Nat) : F.KEY_IRQ_EN_EN.key n = 603988224 := Field.key_one F.KEY_IRQ_EN_EN n rfl rfl
@[simp] theorem F.KEY_IRQ_EN_EN_acc : F.KEY_IRQ_EN_EN.acc = .sw := rfl
@[simp] theorem F.KEY_IRQ_EN_EN_width : F.KEY_IRQ_EN_EN.width = 4 := rfl
@[simp] theorem F.KEY_TAMP_CFG_TAMP_EN_key (n : Nat) : F.KEY_TAMP_CFG_TAMP_EN.key n = 603988352 := Field.key_one F.KEY_TAMP_CFG_TAMP_EN n rfl rfl
@[simp] theorem F.KEY_TAMP_CFG_TAMP_EN_acc : F.KEY_TAMP_CFG_TAMP_EN.acc = .sw := rfl
@[simp] theorem F.KEY_TAMP_CFG_TAMP_EN_width : F.KEY_TAMP_CFG_TAMP_EN.width = 4 := rfl
@[simp] theorem F.KEY_TAMP_CAUSE_LOOP_key (n : Nat) : F.KEY_TAMP_CAUSE_LOOP.key n = 603988480 := Field.key_one F.KEY_TAMP_CAUSE_LOOP n rfl rfl
@[simp] theorem F.KEY_TAMP_CAUSE_LOOP_acc : F.KEY_TAMP_CAUSE_LOOP.acc = .sw := rfl
@[simp] theorem F.KEY_TAMP_CAUSE_LOOP_width : F.KEY_TAMP_CAUSE_LOOP.width = 4 := rfl
@[simp] theorem F.KEY_TAMP_CAUSE_VBAT_LOW_key (n : Nat) : F.KEY_TAMP_CAUSE_VBAT_LOW.key n = 603988484 := Field.key_one F.KEY_TAMP_CAUSE_VBAT_LOW n rfl rfl
@[simp] theorem F.KEY_TAMP_CAUSE_VBAT_LOW_acc : F.KEY_TAMP_CAUSE_VBAT_LOW.acc = .sw := rfl
@[simp] theorem F.KEY_TAMP_CAUSE_VBAT_LOW_width : F.KEY_TAMP_CAUSE_VBAT_LOW.width = 1 := rfl
@[simp] theorem F.KEY_TAMP_CAUSE_TEMP_key (n : Nat) : F.KEY_TAMP_CAUSE_TEMP.key n = 603988485 := Field.key_one F.KEY_TAMP_CAUSE_TEMP n rfl rfl
@[simp] theorem F.KEY_TAMP_CAUSE_TEMP_acc : F.KEY_TAMP_CAUSE_TEMP.acc = .sw := rfl
@[simp] theorem F.KEY_TAMP_CAUSE_TEMP_width : F.KEY_TAMP_CAUSE_TEMP.width = 1 := rfl
@[simp] theorem F.KEY_TAMP_CAUSE_GLITCH_key (n : Nat) : F.KEY_TAMP_CAUSE_GLITCH.key n = 603988486 := Field.key_one F.KEY_TAMP_CAUSE_GLITCH n rfl rfl
@[simp] theorem F.KEY_TAMP_CAUSE_GLITCH_acc : F.KEY_TAMP_CAUSE_GLITCH.acc = .sw := rfl
@[simp] theorem F.KEY_TAMP_CAUSE_GLITCH_width : F.KEY_TAMP_CAUSE_GLITCH.width = 1 := rfl
@[simp] theorem F.KEY_TAMP_CAUSE_SCAN_key (n : Nat) : F.KEY_TAMP_CAUSE_SCAN.key n = 603988487 := Field.key_one F.KEY_TAMP_CAUSE_SCAN n rfl rfl
@[simp] theorem F.KEY_TAMP_CAUSE_SCAN_acc : F.KEY_TAMP_CAUSE_SCAN.acc = .sw := rfl
@[simp] theorem F.KEY_TAMP_CAUSE_SCAN_width : F.KEY_TAMP_CAUSE_SCAN.width = 1 := rfl
@[simp] theorem F.KEY_TAMP_CAUSE_LC_key (n : Nat) : F.KEY_TAMP_CAUSE_LC.key n = 603988488 := Field.key_one F.KEY_TAMP_CAUSE_LC n rfl rfl
@[simp] theorem F.KEY_TAMP_CAUSE_LC_acc : F.KEY_TAMP_CAUSE_LC.acc = .sw := rfl
@[simp] theorem F.KEY_TAMP_CAUSE_LC_width : F.KEY_TAMP_CAUSE_LC.width = 1 := rfl
@[simp] theorem F.KEY_MEAS_M_key (n : Nat) : F.KEY_MEAS_M.key n = 603990016 + 128 * n := Field.key_plain F.KEY_MEAS_M n rfl
@[simp] theorem F.KEY_MEAS_M_acc : F.KEY_MEAS_M.acc = .ro := rfl
@[simp] theorem F.KEY_MEAS_M_width : F.KEY_MEAS_M.width = 32 := rfl
@[simp] theorem F.FUSE_LC_STATE_key (n : Nat) : F.FUSE_LC_STATE.key n = 637542400 := Field.key_one F.FUSE_LC_STATE n rfl rfl
@[simp] theorem F.FUSE_LC_STATE_acc : F.FUSE_LC_STATE.acc = .ro := rfl
@[simp] theorem F.FUSE_LC_STATE_width : F.FUSE_LC_STATE.width = 3 := rfl
@[simp] theorem F.FUSE_LC_REPAIRED_key (n : Nat) : F.FUSE_LC_REPAIRED.key n = 637542403 := Field.key_one F.FUSE_LC_REPAIRED n rfl rfl
@[simp] theorem F.FUSE_LC_REPAIRED_acc : F.FUSE_LC_REPAIRED.acc = .ro := rfl
@[simp] theorem F.FUSE_LC_REPAIRED_width : F.FUSE_LC_REPAIRED.width = 1 := rfl
@[simp] theorem F.FUSE_DEBUG_JTAG_key (n : Nat) : F.FUSE_DEBUG_JTAG.key n = 637542528 := Field.key_one F.FUSE_DEBUG_JTAG n rfl rfl
@[simp] theorem F.FUSE_DEBUG_JTAG_acc : F.FUSE_DEBUG_JTAG.acc = .ro := rfl
@[simp] theorem F.FUSE_DEBUG_JTAG_width : F.FUSE_DEBUG_JTAG.width = 5 := rfl
@[simp] theorem F.FUSE_DEBUG_SCAN_key (n : Nat) : F.FUSE_DEBUG_SCAN.key n = 637542536 := Field.key_one F.FUSE_DEBUG_SCAN n rfl rfl
@[simp] theorem F.FUSE_DEBUG_SCAN_acc : F.FUSE_DEBUG_SCAN.acc = .ro := rfl
@[simp] theorem F.FUSE_DEBUG_SCAN_width : F.FUSE_DEBUG_SCAN.width = 5 := rfl
@[simp] theorem F.FUSE_DEBUG_TRACE_key (n : Nat) : F.FUSE_DEBUG_TRACE.key n = 637542544 := Field.key_one F.FUSE_DEBUG_TRACE n rfl rfl
@[simp] theorem F.FUSE_DEBUG_TRACE_acc : F.FUSE_DEBUG_TRACE.acc = .ro := rfl
@[simp] theorem F.FUSE_DEBUG_TRACE_width : F.FUSE_DEBUG_TRACE.width = 5 := rfl
@[simp] theorem F.FUSE_DEBUG_FAULT_INJ_key (n : Nat) : F.FUSE_DEBUG_FAULT_INJ.key n = 637542552 := Field.key_one F.FUSE_DEBUG_FAULT_INJ n rfl rfl
@[simp] theorem F.FUSE_DEBUG_FAULT_INJ_acc : F.FUSE_DEBUG_FAULT_INJ.acc = .ro := rfl
@[simp] theorem F.FUSE_DEBUG_FAULT_INJ_width : F.FUSE_DEBUG_FAULT_INJ.width = 5 := rfl
@[simp] theorem F.FUSE_MI_MI_MASK_key (n : Nat) : F.FUSE_MI_MI_MASK.key n = 637542656 := Field.key_one F.FUSE_MI_MI_MASK n rfl rfl
@[simp] theorem F.FUSE_MI_MI_MASK_acc : F.FUSE_MI_MI_MASK.acc = .ro := rfl
@[simp] theorem F.FUSE_MI_MI_MASK_width : F.FUSE_MI_MI_MASK.width = 8 := rfl
@[simp] theorem F.FUSE_UNITS_PRESENT_key (n : Nat) : F.FUSE_UNITS_PRESENT.key n = 637542784 := Field.key_one F.FUSE_UNITS_PRESENT n rfl rfl
@[simp] theorem F.FUSE_UNITS_PRESENT_acc : F.FUSE_UNITS_PRESENT.acc = .ro := rfl
@[simp] theorem F.FUSE_UNITS_PRESENT_width : F.FUSE_UNITS_PRESENT.width = 26 := rfl
@[simp] theorem F.FUSE_DEV_ID_DEV_ID_key (n : Nat) : F.FUSE_DEV_ID_DEV_ID.key n = 637542912 + 128 * n := Field.key_plain F.FUSE_DEV_ID_DEV_ID n rfl
@[simp] theorem F.FUSE_DEV_ID_DEV_ID_acc : F.FUSE_DEV_ID_DEV_ID.acc = .ro := rfl
@[simp] theorem F.FUSE_DEV_ID_DEV_ID_width : F.FUSE_DEV_ID_DEV_ID.width = 32 := rfl
@[simp] theorem F.BIST_STATUS_PHASE_key (n : Nat) : F.BIST_STATUS_PHASE.key n = 671096832 := Field.key_one F.BIST_STATUS_PHASE n rfl rfl
@[simp] theorem F.BIST_STATUS_PHASE_acc : F.BIST_STATUS_PHASE.acc = .ro := rfl
@[simp] theorem F.BIST_STATUS_PHASE_width : F.BIST_STATUS_PHASE.width = 4 := rfl
@[simp] theorem F.BIST_STATUS_RESULT_key (n : Nat) : F.BIST_STATUS_RESULT.key n = 671096836 := Field.key_one F.BIST_STATUS_RESULT n rfl rfl
@[simp] theorem F.BIST_STATUS_RESULT_acc : F.BIST_STATUS_RESULT.acc = .ro := rfl
@[simp] theorem F.BIST_STATUS_RESULT_width : F.BIST_STATUS_RESULT.width = 2 := rfl
@[simp] theorem F.BIST_STATUS_SAFE_key (n : Nat) : F.BIST_STATUS_SAFE.key n = 671096838 := Field.key_one F.BIST_STATUS_SAFE n rfl rfl
@[simp] theorem F.BIST_STATUS_SAFE_acc : F.BIST_STATUS_SAFE.acc = .ro := rfl
@[simp] theorem F.BIST_STATUS_SAFE_width : F.BIST_STATUS_SAFE.width = 1 := rfl
@[simp] theorem F.BIST_FIRST_FAIL_CODE_key (n : Nat) : F.BIST_FIRST_FAIL_CODE.key n = 671096960 := Field.key_one F.BIST_FIRST_FAIL_CODE n rfl rfl
@[simp] theorem F.BIST_FIRST_FAIL_CODE_acc : F.BIST_FIRST_FAIL_CODE.acc = .ro := rfl
@[simp] theorem F.BIST_FIRST_FAIL_CODE_width : F.BIST_FIRST_FAIL_CODE.width = 8 := rfl
@[simp] theorem F.BIST_FIRST_FAIL_ARG_key (n : Nat) : F.BIST_FIRST_FAIL_ARG.key n = 671096968 := Field.key_one F.BIST_FIRST_FAIL_ARG n rfl rfl
@[simp] theorem F.BIST_FIRST_FAIL_ARG_acc : F.BIST_FIRST_FAIL_ARG.acc = .ro := rfl
@[simp] theorem F.BIST_FIRST_FAIL_ARG_width : F.BIST_FIRST_FAIL_ARG.width = 24 := rfl
@[simp] theorem F.BIST_LANE_FAIL_FAIL_key (n : Nat) : F.BIST_LANE_FAIL_FAIL.key n = 671098880 + 128 * n := Field.key_plain F.BIST_LANE_FAIL_FAIL n rfl
@[simp] theorem F.BIST_LANE_FAIL_FAIL_acc : F.BIST_LANE_FAIL_FAIL.acc = .ro := rfl
@[simp] theorem F.BIST_LANE_FAIL_FAIL_width : F.BIST_LANE_FAIL_FAIL.width = 32 := rfl
@[simp] theorem F.BIST_YARD_REPAIRED_key (n : Nat) : F.BIST_YARD_REPAIRED.key n = 671100928 + 128 * n := Field.key_plain F.BIST_YARD_REPAIRED n rfl
@[simp] theorem F.BIST_YARD_REPAIRED_acc : F.BIST_YARD_REPAIRED.acc = .ro := rfl
@[simp] theorem F.BIST_YARD_REPAIRED_width : F.BIST_YARD_REPAIRED.width = 8 := rfl
@[simp] theorem F.BIST_YARD_SPARES_MIN_key (n : Nat) : F.BIST_YARD_SPARES_MIN.key n = 671100936 + 128 * n := Field.key_plain F.BIST_YARD_SPARES_MIN n rfl
@[simp] theorem F.BIST_YARD_SPARES_MIN_acc : F.BIST_YARD_SPARES_MIN.acc = .ro := rfl
@[simp] theorem F.BIST_YARD_SPARES_MIN_width : F.BIST_YARD_SPARES_MIN.width = 8 := rfl
@[simp] theorem F.BIST_YARD_FAILED_key (n : Nat) : F.BIST_YARD_FAILED.key n = 671100944 + 128 * n := Field.key_plain F.BIST_YARD_FAILED n rfl
@[simp] theorem F.BIST_YARD_FAILED_acc : F.BIST_YARD_FAILED.acc = .ro := rfl
@[simp] theorem F.BIST_YARD_FAILED_width : F.BIST_YARD_FAILED.width = 1 := rfl
@[simp] theorem F.MATRIX_CTRL_REMAP_key (n : Nat) : F.MATRIX_CTRL_REMAP.key n = 704651264 := Field.key_one F.MATRIX_CTRL_REMAP n rfl rfl
@[simp] theorem F.MATRIX_CTRL_REMAP_acc : F.MATRIX_CTRL_REMAP.acc = .rw := rfl
@[simp] theorem F.MATRIX_CTRL_REMAP_width : F.MATRIX_CTRL_REMAP.width = 1 := rfl
@[simp] theorem F.MATRIX_CTRL_AGE_LIMIT_key (n : Nat) : F.MATRIX_CTRL_AGE_LIMIT.key n = 704651272 := Field.key_one F.MATRIX_CTRL_AGE_LIMIT n rfl rfl
@[simp] theorem F.MATRIX_CTRL_AGE_LIMIT_acc : F.MATRIX_CTRL_AGE_LIMIT.acc = .rw := rfl
@[simp] theorem F.MATRIX_CTRL_AGE_LIMIT_width : F.MATRIX_CTRL_AGE_LIMIT.width = 8 := rfl
@[simp] theorem F.MATRIX_CTRL_TMO_key (n : Nat) : F.MATRIX_CTRL_TMO.key n = 704651280 := Field.key_one F.MATRIX_CTRL_TMO n rfl rfl
@[simp] theorem F.MATRIX_CTRL_TMO_acc : F.MATRIX_CTRL_TMO.acc = .rw := rfl
@[simp] theorem F.MATRIX_CTRL_TMO_width : F.MATRIX_CTRL_TMO.width = 16 := rfl
@[simp] theorem F.MATRIX_STATUS_REMAP_PENDING_key (n : Nat) : F.MATRIX_STATUS_REMAP_PENDING.key n = 704651392 := Field.key_one F.MATRIX_STATUS_REMAP_PENDING n rfl rfl
@[simp] theorem F.MATRIX_STATUS_REMAP_PENDING_acc : F.MATRIX_STATUS_REMAP_PENDING.acc = .ro := rfl
@[simp] theorem F.MATRIX_STATUS_REMAP_PENDING_width : F.MATRIX_STATUS_REMAP_PENDING.width = 1 := rfl
@[simp] theorem F.MATRIX_HIST_HOLE_HIT_key (n : Nat) : F.MATRIX_HIST_HOLE_HIT.key n = 704651520 := Field.key_one F.MATRIX_HIST_HOLE_HIT n rfl rfl
@[simp] theorem F.MATRIX_HIST_HOLE_HIT_acc : F.MATRIX_HIST_HOLE_HIT.acc = .w1c := rfl
@[simp] theorem F.MATRIX_HIST_HOLE_HIT_width : F.MATRIX_HIST_HOLE_HIT.width = 1 := rfl
@[simp] theorem F.MATRIX_HIST_FW_DENY_key (n : Nat) : F.MATRIX_HIST_FW_DENY.key n = 704651521 := Field.key_one F.MATRIX_HIST_FW_DENY n rfl rfl
@[simp] theorem F.MATRIX_HIST_FW_DENY_acc : F.MATRIX_HIST_FW_DENY.acc = .w1c := rfl
@[simp] theorem F.MATRIX_HIST_FW_DENY_width : F.MATRIX_HIST_FW_DENY.width = 1 := rfl
@[simp] theorem F.MATRIX_HIST_TARGET_TMO_key (n : Nat) : F.MATRIX_HIST_TARGET_TMO.key n = 704651522 := Field.key_one F.MATRIX_HIST_TARGET_TMO n rfl rfl
@[simp] theorem F.MATRIX_HIST_TARGET_TMO_acc : F.MATRIX_HIST_TARGET_TMO.acc = .w1c := rfl
@[simp] theorem F.MATRIX_HIST_TARGET_TMO_width : F.MATRIX_HIST_TARGET_TMO.width = 1 := rfl
@[simp] theorem F.MATRIX_HIST_PD_OFF_HIT_key (n : Nat) : F.MATRIX_HIST_PD_OFF_HIT.key n = 704651523 := Field.key_one F.MATRIX_HIST_PD_OFF_HIT n rfl rfl
@[simp] theorem F.MATRIX_HIST_PD_OFF_HIT_acc : F.MATRIX_HIST_PD_OFF_HIT.acc = .w1c := rfl
@[simp] theorem F.MATRIX_HIST_PD_OFF_HIT_width : F.MATRIX_HIST_PD_OFF_HIT.width = 1 := rfl
@[simp] theorem F.MATRIX_HIST_CFG_REJECTED_key (n : Nat) : F.MATRIX_HIST_CFG_REJECTED.key n = 704651524 := Field.key_one F.MATRIX_HIST_CFG_REJECTED n rfl rfl
@[simp] theorem F.MATRIX_HIST_CFG_REJECTED_acc : F.MATRIX_HIST_CFG_REJECTED.acc = .w1c := rfl
@[simp] theorem F.MATRIX_HIST_CFG_REJECTED_width : F.MATRIX_HIST_CFG_REJECTED.width = 1 := rfl
@[simp] theorem F.MATRIX_IRQ_EN_EN_key (n : Nat) : F.MATRIX_IRQ_EN_EN.key n = 704651648 := Field.key_one F.MATRIX_IRQ_EN_EN n rfl rfl
@[simp] theorem F.MATRIX_IRQ_EN_EN_acc : F.MATRIX_IRQ_EN_EN.acc = .rw := rfl
@[simp] theorem F.MATRIX_IRQ_EN_EN_width : F.MATRIX_IRQ_EN_EN.width = 5 := rfl
@[simp] theorem F.MATRIX_ERR_ADDR_LO_ADDR_key (n : Nat) : F.MATRIX_ERR_ADDR_LO_ADDR.key n = 704651776 := Field.key_one F.MATRIX_ERR_ADDR_LO_ADDR n rfl rfl
@[simp] theorem F.MATRIX_ERR_ADDR_LO_ADDR_acc : F.MATRIX_ERR_ADDR_LO_ADDR.acc = .ro := rfl
@[simp] theorem F.MATRIX_ERR_ADDR_LO_ADDR_width : F.MATRIX_ERR_ADDR_LO_ADDR.width = 32 := rfl
@[simp] theorem F.MATRIX_ERR_ADDR_HI_ADDR_key (n : Nat) : F.MATRIX_ERR_ADDR_HI_ADDR.key n = 704651904 := Field.key_one F.MATRIX_ERR_ADDR_HI_ADDR n rfl rfl
@[simp] theorem F.MATRIX_ERR_ADDR_HI_ADDR_acc : F.MATRIX_ERR_ADDR_HI_ADDR.acc = .ro := rfl
@[simp] theorem F.MATRIX_ERR_ADDR_HI_ADDR_width : F.MATRIX_ERR_ADDR_HI_ADDR.width = 8 := rfl
@[simp] theorem F.MATRIX_ERR_INFO_MASTER_key (n : Nat) : F.MATRIX_ERR_INFO_MASTER.key n = 704652032 := Field.key_one F.MATRIX_ERR_INFO_MASTER n rfl rfl
@[simp] theorem F.MATRIX_ERR_INFO_MASTER_acc : F.MATRIX_ERR_INFO_MASTER.acc = .ro := rfl
@[simp] theorem F.MATRIX_ERR_INFO_MASTER_width : F.MATRIX_ERR_INFO_MASTER.width = 4 := rfl
@[simp] theorem F.MATRIX_ERR_INFO_WRITE_key (n : Nat) : F.MATRIX_ERR_INFO_WRITE.key n = 704652036 := Field.key_one F.MATRIX_ERR_INFO_WRITE n rfl rfl
@[simp] theorem F.MATRIX_ERR_INFO_WRITE_acc : F.MATRIX_ERR_INFO_WRITE.acc = .ro := rfl
@[simp] theorem F.MATRIX_ERR_INFO_WRITE_width : F.MATRIX_ERR_INFO_WRITE.width = 1 := rfl
@[simp] theorem F.MATRIX_ERR_INFO_KIND_key (n : Nat) : F.MATRIX_ERR_INFO_KIND.key n = 704652037 := Field.key_one F.MATRIX_ERR_INFO_KIND n rfl rfl
@[simp] theorem F.MATRIX_ERR_INFO_KIND_acc : F.MATRIX_ERR_INFO_KIND.acc = .ro := rfl
@[simp] theorem F.MATRIX_ERR_INFO_KIND_width : F.MATRIX_ERR_INFO_KIND.width = 3 := rfl
@[simp] theorem F.MATRIX_ERR_INFO_REGION_key (n : Nat) : F.MATRIX_ERR_INFO_REGION.key n = 704652040 := Field.key_one F.MATRIX_ERR_INFO_REGION n rfl rfl
@[simp] theorem F.MATRIX_ERR_INFO_REGION_acc : F.MATRIX_ERR_INFO_REGION.acc = .ro := rfl
@[simp] theorem F.MATRIX_ERR_INFO_REGION_width : F.MATRIX_ERR_INFO_REGION.width = 3 := rfl
@[simp] theorem F.MATRIX_ERR_INFO_TARGET_key (n : Nat) : F.MATRIX_ERR_INFO_TARGET.key n = 704652043 := Field.key_one F.MATRIX_ERR_INFO_TARGET n rfl rfl
@[simp] theorem F.MATRIX_ERR_INFO_TARGET_acc : F.MATRIX_ERR_INFO_TARGET.acc = .ro := rfl
@[simp] theorem F.MATRIX_ERR_INFO_TARGET_width : F.MATRIX_ERR_INFO_TARGET.width = 3 := rfl
@[simp] theorem F.MATRIX_HOLE_CNT_COUNT_key (n : Nat) : F.MATRIX_HOLE_CNT_COUNT.key n = 704652288 := Field.key_one F.MATRIX_HOLE_CNT_COUNT n rfl rfl
@[simp] theorem F.MATRIX_HOLE_CNT_COUNT_acc : F.MATRIX_HOLE_CNT_COUNT.acc = .rcl := rfl
@[simp] theorem F.MATRIX_HOLE_CNT_COUNT_width : F.MATRIX_HOLE_CNT_COUNT.width = 32 := rfl
@[simp] theorem F.MATRIX_DENY_CNT_COUNT_key (n : Nat) : F.MATRIX_DENY_CNT_COUNT.key n = 704652416 := Field.key_one F.MATRIX_DENY_CNT_COUNT n rfl rfl
@[simp] theorem F.MATRIX_DENY_CNT_COUNT_acc : F.MATRIX_DENY_CNT_COUNT.acc = .rcl := rfl
@[simp] theorem F.MATRIX_DENY_CNT_COUNT_width : F.MATRIX_DENY_CNT_COUNT.width = 32 := rfl
@[simp] theorem F.MATRIX_TMO_CNT_COUNT_key (n : Nat) : F.MATRIX_TMO_CNT_COUNT.key n = 704652544 := Field.key_one F.MATRIX_TMO_CNT_COUNT n rfl rfl
@[simp] theorem F.MATRIX_TMO_CNT_COUNT_acc : F.MATRIX_TMO_CNT_COUNT.acc = .rcl := rfl
@[simp] theorem F.MATRIX_TMO_CNT_COUNT_width : F.MATRIX_TMO_CNT_COUNT.width = 32 := rfl
@[simp] theorem F.MATRIX_TGT_CFG_PARK_key (n : Nat) : F.MATRIX_TGT_CFG_PARK.key n = 704659456 + 512 * n := Field.key_plain F.MATRIX_TGT_CFG_PARK n rfl
@[simp] theorem F.MATRIX_TGT_CFG_PARK_acc : F.MATRIX_TGT_CFG_PARK.acc = .rw := rfl
@[simp] theorem F.MATRIX_TGT_CFG_PARK_width : F.MATRIX_TGT_CFG_PARK.width = 4 := rfl
@[simp] theorem F.MATRIX_PRIO_PRIO_key (n : Nat) : F.MATRIX_PRIO_PRIO.key n = 704659584 + 512 * n := Field.key_plain F.MATRIX_PRIO_PRIO n rfl
@[simp] theorem F.MATRIX_PRIO_PRIO_acc : F.MATRIX_PRIO_PRIO.acc = .rw := rfl
@[simp] theorem F.MATRIX_PRIO_PRIO_width : F.MATRIX_PRIO_PRIO.width = 30 := rfl
@[simp] theorem F.MATRIX_HOLD_CNT_COUNT_key (n : Nat) : F.MATRIX_HOLD_CNT_COUNT.key n = 704659712 + 512 * n := Field.key_plain F.MATRIX_HOLD_CNT_COUNT n rfl
@[simp] theorem F.MATRIX_HOLD_CNT_COUNT_acc : F.MATRIX_HOLD_CNT_COUNT.acc = .rcl := rfl
@[simp] theorem F.MATRIX_HOLD_CNT_COUNT_width : F.MATRIX_HOLD_CNT_COUNT.width = 32 := rfl
@[simp] theorem F.MATRIX_TGT_BUSY_OUTSTANDING_key (n : Nat) : F.MATRIX_TGT_BUSY_OUTSTANDING.key n = 704659840 + 512 * n := Field.key_plain F.MATRIX_TGT_BUSY_OUTSTANDING n rfl
@[simp] theorem F.MATRIX_TGT_BUSY_OUTSTANDING_acc : F.MATRIX_TGT_BUSY_OUTSTANDING.acc = .ro := rfl
@[simp] theorem F.MATRIX_TGT_BUSY_OUTSTANDING_width : F.MATRIX_TGT_BUSY_OUTSTANDING.width = 8 := rfl
@[simp] theorem F.MATRIX_FW_A_WR_MASK_key (n : Nat) : F.MATRIX_FW_A_WR_MASK.key n = 704675840 + 512 * n := Field.key_plain F.MATRIX_FW_A_WR_MASK n rfl
@[simp] theorem F.MATRIX_FW_A_WR_MASK_acc : F.MATRIX_FW_A_WR_MASK.acc = .ro := rfl
@[simp] theorem F.MATRIX_FW_A_WR_MASK_width : F.MATRIX_FW_A_WR_MASK.width = 10 := rfl
@[simp] theorem F.MATRIX_FW_A_RD_MASK_key (n : Nat) : F.MATRIX_FW_A_RD_MASK.key n = 704675856 + 512 * n := Field.key_plain F.MATRIX_FW_A_RD_MASK n rfl
@[simp] theorem F.MATRIX_FW_A_RD_MASK_acc : F.MATRIX_FW_A_RD_MASK.acc = .ro := rfl
@[simp] theorem F.MATRIX_FW_A_RD_MASK_width : F.MATRIX_FW_A_RD_MASK.width = 10 := rfl
@[simp] theorem F.MATRIX_FW_B_LC_MASK_key (n : Nat) : F.MATRIX_FW_B_LC_MASK.key n = 704675968 + 512 * n := Field.key_plain F.MATRIX_FW_B_LC_MASK n rfl
@[simp] theorem F.MATRIX_FW_B_LC_MASK_acc : F.MATRIX_FW_B_LC_MASK.acc = .ro := rfl
@[simp] theorem F.MATRIX_FW_B_LC_MASK_width : F.MATRIX_FW_B_LC_MASK.width = 5 := rfl
@[simp] theorem F.MATRIX_FW_B_HOSTP_DEBUG_ONLY_key (n : Nat) : F.MATRIX_FW_B_HOSTP_DEBUG_ONLY.key n = 704675973 + 512 * n := Field.key_plain F.MATRIX_FW_B_HOSTP_DEBUG_ONLY n rfl
@[simp] theorem F.MATRIX_FW_B_HOSTP_DEBUG_ONLY_acc : F.MATRIX_FW_B_HOSTP_DEBUG_ONLY.acc = .ro := rfl
@[simp] theorem F.MATRIX_FW_B_HOSTP_DEBUG_ONLY_width : F.MATRIX_FW_B_HOSTP_DEBUG_ONLY.width = 1 := rfl
@[simp] theorem F.HBMC_CFG_SCRUB_H_key (n : Nat) : F.HBMC_CFG_SCRUB_H.key n = 738205696 := Field.key_one F.HBMC_CFG_SCRUB_H n rfl rfl
@[simp] theorem F.HBMC_CFG_SCRUB_H_acc : F.HBMC_CFG_SCRUB_H.acc = .rw := rfl
@[simp] theorem F.HBMC_CFG_SCRUB_H_width : F.HBMC_CFG_SCRUB_H.width = 8 := rfl
@[simp] theorem F.HBMC_CFG_CE_ROW_LIM_key (n : Nat) : F.HBMC_CFG_CE_ROW_LIM.key n = 738205704 := Field.key_one F.HBMC_CFG_CE_ROW_LIM n rfl rfl
@[simp] theorem F.HBMC_CFG_CE_ROW_LIM_acc : F.HBMC_CFG_CE_ROW_LIM.acc = .rw := rfl
@[simp] theorem F.HBMC_CFG_CE_ROW_LIM_width : F.HBMC_CFG_CE_ROW_LIM.width = 8 := rfl
@[simp] theorem F.HBMC_HIST_CE_key (n : Nat) : F.HBMC_HIST_CE.key n = 738205952 := Field.key_one F.HBMC_HIST_CE n rfl rfl
@[simp] theorem F.HBMC_HIST_CE_acc : F.HBMC_HIST_CE.acc = .w1c := rfl
@[simp] theorem F.HBMC_HIST_CE_width : F.HBMC_HIST_CE.width = 1 := rfl
@[simp] theorem F.HBMC_HIST_UE_key (n : Nat) : F.HBMC_HIST_UE.key n = 738205953 := Field.key_one F.HBMC_HIST_UE n rfl rfl
@[simp] theorem F.HBMC_HIST_UE_acc : F.HBMC_HIST_UE.acc = .w1c := rfl
@[simp] theorem F.HBMC_HIST_UE_width : F.HBMC_HIST_UE.width = 1 := rfl
@[simp] theorem F.HBMC_HIST_REPAIRED_key (n : Nat) : F.HBMC_HIST_REPAIRED.key n = 738205954 := Field.key_one F.HBMC_HIST_REPAIRED n rfl rfl
@[simp] theorem F.HBMC_HIST_REPAIRED_acc : F.HBMC_HIST_REPAIRED.acc = .w1c := rfl
@[simp] theorem F.HBMC_HIST_REPAIRED_width : F.HBMC_HIST_REPAIRED.width = 1 := rfl
@[simp] theorem F.HBMC_HIST_SPARES_OUT_key (n : Nat) : F.HBMC_HIST_SPARES_OUT.key n = 738205955 := Field.key_one F.HBMC_HIST_SPARES_OUT n rfl rfl
@[simp] theorem F.HBMC_HIST_SPARES_OUT_acc : F.HBMC_HIST_SPARES_OUT.acc = .w1c := rfl
@[simp] theorem F.HBMC_HIST_SPARES_OUT_width : F.HBMC_HIST_SPARES_OUT.width = 1 := rfl
@[simp] theorem F.HBMC_HIST_CFG_REJECTED_key (n : Nat) : F.HBMC_HIST_CFG_REJECTED.key n = 738205956 := Field.key_one F.HBMC_HIST_CFG_REJECTED n rfl rfl
@[simp] theorem F.HBMC_HIST_CFG_REJECTED_acc : F.HBMC_HIST_CFG_REJECTED.acc = .w1c := rfl
@[simp] theorem F.HBMC_HIST_CFG_REJECTED_width : F.HBMC_HIST_CFG_REJECTED.width = 1 := rfl
@[simp] theorem F.HBMC_IRQ_EN_EN_key (n : Nat) : F.HBMC_IRQ_EN_EN.key n = 738206080 := Field.key_one F.HBMC_IRQ_EN_EN n rfl rfl
@[simp] theorem F.HBMC_IRQ_EN_EN_acc : F.HBMC_IRQ_EN_EN.acc = .rw := rfl
@[simp] theorem F.HBMC_IRQ_EN_EN_width : F.HBMC_IRQ_EN_EN.width = 5 := rfl
@[simp] theorem F.HBMC_CE_CNT_COUNT_key (n : Nat) : F.HBMC_CE_CNT_COUNT.key n = 738206208 + 128 * n := Field.key_plain F.HBMC_CE_CNT_COUNT n rfl
@[simp] theorem F.HBMC_CE_CNT_COUNT_acc : F.HBMC_CE_CNT_COUNT.acc = .rcl := rfl
@[simp] theorem F.HBMC_CE_CNT_COUNT_width : F.HBMC_CE_CNT_COUNT.width = 32 := rfl
@[simp] theorem F.HBMC_UE_CNT_COUNT_key (n : Nat) : F.HBMC_UE_CNT_COUNT.key n = 738206464 + 128 * n := Field.key_plain F.HBMC_UE_CNT_COUNT n rfl
@[simp] theorem F.HBMC_UE_CNT_COUNT_acc : F.HBMC_UE_CNT_COUNT.acc = .rcl := rfl
@[simp] theorem F.HBMC_UE_CNT_COUNT_width : F.HBMC_UE_CNT_COUNT.width = 32 := rfl
@[simp] theorem F.HBMC_ERR_LO_ADDR_key (n : Nat) : F.HBMC_ERR_LO_ADDR.key n = 738206720 := Field.key_one F.HBMC_ERR_LO_ADDR n rfl rfl
@[simp] theorem F.HBMC_ERR_LO_ADDR_acc : F.HBMC_ERR_LO_ADDR.acc = .ro := rfl
@[simp] theorem F.HBMC_ERR_LO_ADDR_width : F.HBMC_ERR_LO_ADDR.width = 32 := rfl
@[simp] theorem F.HBMC_ERR_HI_ADDR_key (n : Nat) : F.HBMC_ERR_HI_ADDR.key n = 738206848 := Field.key_one F.HBMC_ERR_HI_ADDR n rfl rfl
@[simp] theorem F.HBMC_ERR_HI_ADDR_acc : F.HBMC_ERR_HI_ADDR.acc = .ro := rfl
@[simp] theorem F.HBMC_ERR_HI_ADDR_width : F.HBMC_ERR_HI_ADDR.width = 8 := rfl
@[simp] theorem F.HBMC_REPAIR_REPAIRED_key (n : Nat) : F.HBMC_REPAIR_REPAIRED.key n = 738207232 + 128 * n := Field.key_plain F.HBMC_REPAIR_REPAIRED n rfl
@[simp] theorem F.HBMC_REPAIR_REPAIRED_acc : F.HBMC_REPAIR_REPAIRED.acc = .ro := rfl
@[simp] theorem F.HBMC_REPAIR_REPAIRED_width : F.HBMC_REPAIR_REPAIRED.width = 16 := rfl
@[simp] theorem F.HBMC_REPAIR_SPARES_LEFT_key (n : Nat) : F.HBMC_REPAIR_SPARES_LEFT.key n = 738207248 + 128 * n := Field.key_plain F.HBMC_REPAIR_SPARES_LEFT n rfl
@[simp] theorem F.HBMC_REPAIR_SPARES_LEFT_acc : F.HBMC_REPAIR_SPARES_LEFT.acc = .ro := rfl
@[simp] theorem F.HBMC_REPAIR_SPARES_LEFT_width : F.HBMC_REPAIR_SPARES_LEFT.width = 16 := rfl

end Sys2Proof.Machine
end

