-- ==== Sys2Proof/Laws/Memory.lean ====
section
/-!
SUPPORT. The addressed memories (the yard, the working SRAM, the slot memory, the flash and the drives): every operation keeps the canonical
form, reset has it, and a read after a write gives the bytes written.
-/
namespace Sys2Proof.Machine

theorem Bank.filter_wf {α : Type} [Inhabited α] [DecidableEq α] (b : Bank α) (p : Nat × α → Bool) (h : b.wf = true) : Bank.wf (b.filter p) = true := by
  rw [Bank.wf_iff] at h ⊢
  exact ⟨h.1.filter p, fun x hx => h.2 x (List.mem_filter.mp hx).1⟩

/-- A table whose keys from `a` to `a + n` are replaced by others of that range. -/
theorem Bank.splice_wf {α : Type} [Inhabited α] [DecidableEq α] (b mid : Bank α) (a n : Nat) (h : b.wf = true) (hm : mid.wf = true)
    (hr : ∀ x ∈ mid, a ≤ x.1 ∧ x.1 < a + n) :
    Bank.wf ((b.filter fun e => decide (e.1 < a)) ++ mid ++ (b.filter fun e => decide (a + n ≤ e.1))) = true := by
  rw [Bank.wf_iff] at h hm ⊢
  refine ⟨?_, ?_⟩
  · rw [List.pairwise_append, List.pairwise_append]
    refine ⟨⟨h.1.filter _, hm.1, ?_⟩, h.1.filter _, ?_⟩
    · intro x hx y hy
      have := (List.mem_filter.mp hx).2; have := hr y hy; simp at *; omega
    · intro x hx y hy
      have hy := (List.mem_filter.mp hy).2
      rcases List.mem_append.mp hx with hx | hx
      · have := (List.mem_filter.mp hx).2; simp at *; omega
      · have := hr x hx; simp at *; omega
  · intro x hx
    rcases List.mem_append.mp hx with hx | hx
    · rcases List.mem_append.mp hx with hx | hx
      · exact h.2 x (List.mem_filter.mp hx).1
      · exact hm.2 x hx
    · exact h.2 x (List.mem_filter.mp hx).1

/-- The entries that a write of bytes puts down, without those that read as unlisted. -/
theorem zip_wf (l : List Byte) (o k : Nat) (p : Byte → Bool) (f : Byte → Byte) (hf : ∀ x, p x = true → f x ≠ default) :
    Bank.wf (((l.zipIdx k).filter fun x => p x.1).map fun x => (o + x.2, f x.1)) = true := by
  rw [Bank.wf_iff]
  constructor
  · rw [List.pairwise_map]
    refine List.Pairwise.filter _ ?_
    induction l generalizing k with
    | nil => exact List.Pairwise.nil
    | cons x t ih =>
      rw [List.zipIdx_cons, List.pairwise_cons]
      refine ⟨fun y hy => ?_, ih (k + 1)⟩
      have := (List.mem_zipIdx hy).1
      simp only; omega
  · intro x hx
    obtain ⟨y, hy, rfl⟩ := List.mem_map.mp hx
    exact hf _ (List.mem_filter.mp hy).2

theorem zip_range (l : List Byte) (o : Nat) (p : Byte → Bool) (f : Byte → Byte) :
    ∀ x ∈ (l.zipIdx.filter fun x => p x.1).map fun x => (o + x.2, f x.1), o ≤ x.1 ∧ x.1 < o + l.length := by
  intro x hx
  obtain ⟨y, hy, rfl⟩ := List.mem_map.mp hx
  have := List.mem_zipIdx (List.mem_filter.mp hy).1
  simp only; omega

/-! ### Bytes put one after the other (the yard, the SRAM, the slots) -/

/-- Bytes put into a table from an offset, as the yard, the SRAM and the slot memory do. -/
theorem putBytes_wf (m : Bank Byte) (o : Nat) (l : List Byte) (h : m.wf = true) :
    Bank.wf (l.foldl (fun (s : Bank Byte × Nat) x => (s.1.put s.2 x, s.2 + 1)) (m, o)).1 = true := by
  induction l generalizing m o with
  | nil => exact h
  | cons x t ih => exact ih _ _ (Bank.put_wf m o x h)

theorem putBytes_look (m : Bank Byte) (o : Nat) (l : List Byte) (a : Nat) :
    Bank.look (l.foldl (fun (s : Bank Byte × Nat) x => (s.1.put s.2 x, s.2 + 1)) (m, o)).1 a =
      if o ≤ a ∧ a < o + l.length then (l[a - o]?).getD 0 else m.look a := by
  induction l generalizing m o with
  | nil => rw [List.foldl_nil, if_neg (by simp)]
  | cons x t ih =>
    rw [List.foldl_cons, ih]
    by_cases h : a = o
    · subst h
      rw [if_neg (by omega), if_pos (by simp), Nat.sub_self, Bank.look_put_same]; rfl
    · rw [Bank.look_put_ne m x h]
      by_cases ho : o ≤ a ∧ a < o + (t.length + 1)
      · rw [if_pos (by omega), if_pos (by simpa using ho)]
        have e : a - o = (a - (o + 1)) + 1 := by omega
        rw [e, List.getElem?_cons_succ]
      · rw [if_neg (by omega), if_neg (by simpa using ho)]

theorem Block.yardPut_wf (b : Block) (a : Nat) (l : List Byte) (h : b.yard.wf = true) : (b.yardPut a l).yard.wf = true := putBytes_wf b.yard a l h
theorem Block.slotPut_wf (b : Block) (o : Nat) (l : List Byte) (h : b.mbx.mem.wf = true) : (b.slotPut o l).mbx.mem.wf = true := putBytes_wf b.mbx.mem o l h

/-- A byte of the yard after a write: the written one inside, the old one outside. -/
theorem Block.yardByte_yardPut (b : Block) (a : Nat) (l : List Byte) (x : Nat) :
    (b.yardPut a l).yardByte x = if a ≤ x ∧ x < a + l.length then (l[x - a]?).getD 0 else b.yardByte x := putBytes_look b.yard a l x

/-- A read of just what was written gives it. -/
theorem Block.yardGet_yardPut (b : Block) (a : Nat) (l : List Byte) : (b.yardPut a l).yardGet a l.length = l := by
  apply List.ext_getElem
  · simp [Block.yardGet]
  · intro i _ h2
    simp [Block.yardGet, Block.yardByte_yardPut, h2]

/-! ### The flash and the drives -/

theorem drivePut_wf (d : Bank Byte) (a : Nat) (l : List Byte) (h : d.wf = true) : (drivePut d a l).wf = true :=
  Bank.splice_wf d _ a l.length h (zip_wf l a 0 (fun x => x != 0) (fun x => x) fun x hx => by revert hx; revert x; decide) (zip_range l a (fun x => x != 0) fun x => x)

theorem driveClear_wf (d : Bank Byte) (a n : Nat) (h : d.wf = true) : (driveClear d a n).wf = true := Bank.filter_wf d _ h

theorem FlashSt.write_wf (f : FlashSt) (o : Nat) (l : List Byte) (h : f.mem.wf = true) : (f.write o l).mem.wf = true :=
  Bank.splice_wf f.mem _ o l.length h (zip_wf l o 0 (fun x => x != 0xFF) (fun x => ~~~ x) fun x hx => by revert hx; revert x; decide)
    (zip_range l o (fun x => x != 0xFF) fun x => ~~~ x)

theorem FlashSt.erase_wf (f : FlashSt) (o n : Nat) (h : f.mem.wf = true) : (f.erase o n).mem.wf = true := Bank.filter_wf f.mem _ h

theorem FlashSt.copy_wf (f : FlashSt) (src dst : Nat) (h : f.mem.wf = true) : (f.copy src dst).mem.wf = true := by
  refine Bank.splice_wf f.mem _ dst slotSize h ?_ ?_
  · have h := Bank.filter_wf f.mem (fun e => decide (src ≤ e.1) && decide (e.1 < src + slotSize)) h
    rw [Bank.wf_iff] at h ⊢
    constructor
    · rw [List.pairwise_map]
      refine h.1.imp_of_mem fun {x y} hx hy hxy => ?_
      have hx := (List.mem_filter.mp hx).2; have hy := (List.mem_filter.mp hy).2
      simp at *; omega
    · intro x hx
      obtain ⟨y, hy, rfl⟩ := List.mem_map.mp hx
      exact h.2 y hy
  · intro x hx
    obtain ⟨y, hy, rfl⟩ := List.mem_map.mp hx
    have hy := (List.mem_filter.mp hy).2
    simp at *; omega

/-- The memories after reset list nothing. -/
theorem State.reset_memories : State.reset.yard.wf = true ∧ State.reset.mat.sram.wf = true ∧ State.reset.mbx.mem.wf = true ∧
    State.reset.flash.mem.wf = true ∧ ∀ d, (State.reset.drive d).data.wf = true := ⟨rfl, rfl, rfl, rfl, fun _ => rfl⟩

end Sys2Proof.Machine
end

