-- ==== Sys2Proof/Laws/State.lean ====
section
/-!
SUPPORT. What each update of the device leaves alone, one lemma for each part of the state; a register field after a write to it, and after a
write to another.
-/
namespace Sys2Proof.Machine

@[simp] theorem Block.setFld_out (b : Block) (f : Field) (n v : Nat) : (b.setFld f n v).out = b.out := rfl
@[simp] theorem Block.setFld_free (b : Block) (f : Field) (n v : Nat) : (b.setFld f n v).free = b.free := rfl
@[simp] theorem Block.setFld_replies (b : Block) (f : Field) (n v : Nat) : (b.setFld f n v).replies = b.replies := rfl
@[simp] theorem Block.setFld_dev (b : Block) (f : Field) (n v : Nat) : (b.setFld f n v).dev = b.dev := rfl
@[simp] theorem Block.setFld_time (b : Block) (f : Field) (n v : Nat) : (b.setFld f n v).time = b.time := rfl
@[simp] theorem Block.setFld_refs (b : Block) (f : Field) (n v : Nat) : (b.setFld f n v).refs = b.refs := rfl
@[simp] theorem Block.setFld_pll (b : Block) (f : Field) (n v : Nat) : (b.setFld f n v).pll = b.pll := rfl
@[simp] theorem Block.setFld_oscLost (b : Block) (f : Field) (n v : Nat) : (b.setFld f n v).oscLost = b.oscLost := rfl
@[simp] theorem Block.setFld_lanes (b : Block) (f : Field) (n v : Nat) : (b.setFld f n v).lanes = b.lanes := rfl
@[simp] theorem Block.setFld_bring (b : Block) (f : Field) (n v : Nat) : (b.setFld f n v).bring = b.bring := rfl
@[simp] theorem Block.setFld_sdiRx (b : Block) (f : Field) (n v : Nat) : (b.setFld f n v).sdiRx = b.sdiRx := rfl
@[simp] theorem Block.setFld_sdiTx (b : Block) (f : Field) (n v : Nat) : (b.setFld f n v).sdiTx = b.sdiTx := rfl
@[simp] theorem Block.setFld_eth (b : Block) (f : Field) (n v : Nat) : (b.setFld f n v).eth = b.eth := rfl
@[simp] theorem Block.setFld_flowRx (b : Block) (f : Field) (n v : Nat) : (b.setFld f n v).flowRx = b.flowRx := rfl
@[simp] theorem Block.setFld_flowTx (b : Block) (f : Field) (n v : Nat) : (b.setFld f n v).flowTx = b.flowTx := rfl
@[simp] theorem Block.setFld_outFrames (b : Block) (f : Field) (n v : Nat) : (b.setFld f n v).outFrames = b.outFrames := rfl
@[simp] theorem Block.setFld_stalls (b : Block) (f : Field) (n v : Nat) : (b.setFld f n v).stalls = b.stalls := rfl
@[simp] theorem Block.setFld_watch (b : Block) (f : Field) (n v : Nat) : (b.setFld f n v).watch = b.watch := rfl
@[simp] theorem Block.setFld_checks (b : Block) (f : Field) (n v : Nat) : (b.setFld f n v).checks = b.checks := rfl
@[simp] theorem Block.setFld_carve (b : Block) (f : Field) (n v : Nat) : (b.setFld f n v).carve = b.carve := rfl
@[simp] theorem Block.setFld_yard (b : Block) (f : Field) (n v : Nat) : (b.setFld f n v).yard = b.yard := rfl
@[simp] theorem Block.setFld_fabPorts (b : Block) (f : Field) (n v : Nat) : (b.setFld f n v).fabPorts = b.fabPorts := rfl
@[simp] theorem Block.setFld_adverts (b : Block) (f : Field) (n v : Nat) : (b.setFld f n v).adverts = b.adverts := rfl
@[simp] theorem Block.setFld_grants (b : Block) (f : Field) (n v : Nat) : (b.setFld f n v).grants = b.grants := rfl
@[simp] theorem Block.setFld_withheld (b : Block) (f : Field) (n v : Nat) : (b.setFld f n v).withheld = b.withheld := rfl
@[simp] theorem Block.setFld_subs (b : Block) (f : Field) (n v : Nat) : (b.setFld f n v).subs = b.subs := rfl
@[simp] theorem Block.setFld_rings (b : Block) (f : Field) (n v : Nat) : (b.setFld f n v).rings = b.rings := rfl
@[simp] theorem Block.setFld_asks (b : Block) (f : Field) (n v : Nat) : (b.setFld f n v).asks = b.asks := rfl
@[simp] theorem Block.setFld_stored (b : Block) (f : Field) (n v : Nat) : (b.setFld f n v).stored = b.stored := rfl
@[simp] theorem Block.setFld_tid (b : Block) (f : Field) (n v : Nat) : (b.setFld f n v).tid = b.tid := rfl
@[simp] theorem Block.setFld_allow (b : Block) (f : Field) (n v : Nat) : (b.setFld f n v).allow = b.allow := rfl
@[simp] theorem Block.setFld_mirrors (b : Block) (f : Field) (n v : Nat) : (b.setFld f n v).mirrors = b.mirrors := rfl
@[simp] theorem Block.setFld_keys (b : Block) (f : Field) (n v : Nat) : (b.setFld f n v).keys = b.keys := rfl
@[simp] theorem Block.setFld_pins (b : Block) (f : Field) (n v : Nat) : (b.setFld f n v).pins = b.pins := rfl
@[simp] theorem Block.setFld_cox (b : Block) (f : Field) (n v : Nat) : (b.setFld f n v).cox = b.cox := rfl
@[simp] theorem Block.setFld_headSt (b : Block) (f : Field) (n v : Nat) : (b.setFld f n v).headSt = b.headSt := rfl
@[simp] theorem Block.setFld_colour (b : Block) (f : Field) (n v : Nat) : (b.setFld f n v).colour = b.colour := rfl
@[simp] theorem Block.setFld_guard (b : Block) (f : Field) (n v : Nat) : (b.setFld f n v).guard = b.guard := rfl
@[simp] theorem Block.setFld_stills (b : Block) (f : Field) (n v : Nat) : (b.setFld f n v).stills = b.stills := rfl
@[simp] theorem Block.setFld_safetyReset (b : Block) (f : Field) (n v : Nat) : (b.setFld f n v).safetyReset = b.safetyReset := rfl
@[simp] theorem Block.setFld_aud (b : Block) (f : Field) (n v : Nat) : (b.setFld f n v).aud = b.aud := rfl
@[simp] theorem Block.setFld_wit (b : Block) (f : Field) (n v : Nat) : (b.setFld f n v).wit = b.wit := rfl
@[simp] theorem Block.setFld_twin (b : Block) (f : Field) (n v : Nat) : (b.setFld f n v).twin = b.twin := rfl
@[simp] theorem Block.setFld_released (b : Block) (f : Field) (n v : Nat) : (b.setFld f n v).released = b.released := rfl
@[simp] theorem Block.setFld_flash (b : Block) (f : Field) (n v : Nat) : (b.setFld f n v).flash = b.flash := rfl
@[simp] theorem Block.setFld_start (b : Block) (f : Field) (n v : Nat) : (b.setFld f n v).start = b.start := rfl
@[simp] theorem Block.setFld_pwr (b : Block) (f : Field) (n v : Nat) : (b.setFld f n v).pwr = b.pwr := rfl
@[simp] theorem Block.setFld_flt (b : Block) (f : Field) (n v : Nat) : (b.setFld f n v).flt = b.flt := rfl
@[simp] theorem Block.setFld_mbx (b : Block) (f : Field) (n v : Nat) : (b.setFld f n v).mbx = b.mbx := rfl
@[simp] theorem Block.setFld_mat (b : Block) (f : Field) (n v : Nat) : (b.setFld f n v).mat = b.mat := rfl
@[simp] theorem Block.setFld_sys (b : Block) (f : Field) (n v : Nat) : (b.setFld f n v).sys = b.sys := rfl
@[simp] theorem Block.set_out (b : Block) (f : Field) (n : Nat) : (b.set f n).out = b.out := rfl
@[simp] theorem Block.set_free (b : Block) (f : Field) (n : Nat) : (b.set f n).free = b.free := rfl
@[simp] theorem Block.set_replies (b : Block) (f : Field) (n : Nat) : (b.set f n).replies = b.replies := rfl
@[simp] theorem Block.set_dev (b : Block) (f : Field) (n : Nat) : (b.set f n).dev = b.dev := rfl
@[simp] theorem Block.set_time (b : Block) (f : Field) (n : Nat) : (b.set f n).time = b.time := rfl
@[simp] theorem Block.set_refs (b : Block) (f : Field) (n : Nat) : (b.set f n).refs = b.refs := rfl
@[simp] theorem Block.set_pll (b : Block) (f : Field) (n : Nat) : (b.set f n).pll = b.pll := rfl
@[simp] theorem Block.set_oscLost (b : Block) (f : Field) (n : Nat) : (b.set f n).oscLost = b.oscLost := rfl
@[simp] theorem Block.set_lanes (b : Block) (f : Field) (n : Nat) : (b.set f n).lanes = b.lanes := rfl
@[simp] theorem Block.set_bring (b : Block) (f : Field) (n : Nat) : (b.set f n).bring = b.bring := rfl
@[simp] theorem Block.set_sdiRx (b : Block) (f : Field) (n : Nat) : (b.set f n).sdiRx = b.sdiRx := rfl
@[simp] theorem Block.set_sdiTx (b : Block) (f : Field) (n : Nat) : (b.set f n).sdiTx = b.sdiTx := rfl
@[simp] theorem Block.set_eth (b : Block) (f : Field) (n : Nat) : (b.set f n).eth = b.eth := rfl
@[simp] theorem Block.set_flowRx (b : Block) (f : Field) (n : Nat) : (b.set f n).flowRx = b.flowRx := rfl
@[simp] theorem Block.set_flowTx (b : Block) (f : Field) (n : Nat) : (b.set f n).flowTx = b.flowTx := rfl
@[simp] theorem Block.set_outFrames (b : Block) (f : Field) (n : Nat) : (b.set f n).outFrames = b.outFrames := rfl
@[simp] theorem Block.set_stalls (b : Block) (f : Field) (n : Nat) : (b.set f n).stalls = b.stalls := rfl
@[simp] theorem Block.set_watch (b : Block) (f : Field) (n : Nat) : (b.set f n).watch = b.watch := rfl
@[simp] theorem Block.set_checks (b : Block) (f : Field) (n : Nat) : (b.set f n).checks = b.checks := rfl
@[simp] theorem Block.set_carve (b : Block) (f : Field) (n : Nat) : (b.set f n).carve = b.carve := rfl
@[simp] theorem Block.set_yard (b : Block) (f : Field) (n : Nat) : (b.set f n).yard = b.yard := rfl
@[simp] theorem Block.set_fabPorts (b : Block) (f : Field) (n : Nat) : (b.set f n).fabPorts = b.fabPorts := rfl
@[simp] theorem Block.set_adverts (b : Block) (f : Field) (n : Nat) : (b.set f n).adverts = b.adverts := rfl
@[simp] theorem Block.set_grants (b : Block) (f : Field) (n : Nat) : (b.set f n).grants = b.grants := rfl
@[simp] theorem Block.set_withheld (b : Block) (f : Field) (n : Nat) : (b.set f n).withheld = b.withheld := rfl
@[simp] theorem Block.set_subs (b : Block) (f : Field) (n : Nat) : (b.set f n).subs = b.subs := rfl
@[simp] theorem Block.set_rings (b : Block) (f : Field) (n : Nat) : (b.set f n).rings = b.rings := rfl
@[simp] theorem Block.set_asks (b : Block) (f : Field) (n : Nat) : (b.set f n).asks = b.asks := rfl
@[simp] theorem Block.set_stored (b : Block) (f : Field) (n : Nat) : (b.set f n).stored = b.stored := rfl
@[simp] theorem Block.set_tid (b : Block) (f : Field) (n : Nat) : (b.set f n).tid = b.tid := rfl
@[simp] theorem Block.set_allow (b : Block) (f : Field) (n : Nat) : (b.set f n).allow = b.allow := rfl
@[simp] theorem Block.set_mirrors (b : Block) (f : Field) (n : Nat) : (b.set f n).mirrors = b.mirrors := rfl
@[simp] theorem Block.set_keys (b : Block) (f : Field) (n : Nat) : (b.set f n).keys = b.keys := rfl
@[simp] theorem Block.set_pins (b : Block) (f : Field) (n : Nat) : (b.set f n).pins = b.pins := rfl
@[simp] theorem Block.set_cox (b : Block) (f : Field) (n : Nat) : (b.set f n).cox = b.cox := rfl
@[simp] theorem Block.set_headSt (b : Block) (f : Field) (n : Nat) : (b.set f n).headSt = b.headSt := rfl
@[simp] theorem Block.set_colour (b : Block) (f : Field) (n : Nat) : (b.set f n).colour = b.colour := rfl
@[simp] theorem Block.set_guard (b : Block) (f : Field) (n : Nat) : (b.set f n).guard = b.guard := rfl
@[simp] theorem Block.set_stills (b : Block) (f : Field) (n : Nat) : (b.set f n).stills = b.stills := rfl
@[simp] theorem Block.set_safetyReset (b : Block) (f : Field) (n : Nat) : (b.set f n).safetyReset = b.safetyReset := rfl
@[simp] theorem Block.set_aud (b : Block) (f : Field) (n : Nat) : (b.set f n).aud = b.aud := rfl
@[simp] theorem Block.set_wit (b : Block) (f : Field) (n : Nat) : (b.set f n).wit = b.wit := rfl
@[simp] theorem Block.set_twin (b : Block) (f : Field) (n : Nat) : (b.set f n).twin = b.twin := rfl
@[simp] theorem Block.set_released (b : Block) (f : Field) (n : Nat) : (b.set f n).released = b.released := rfl
@[simp] theorem Block.set_flash (b : Block) (f : Field) (n : Nat) : (b.set f n).flash = b.flash := rfl
@[simp] theorem Block.set_start (b : Block) (f : Field) (n : Nat) : (b.set f n).start = b.start := rfl
@[simp] theorem Block.set_pwr (b : Block) (f : Field) (n : Nat) : (b.set f n).pwr = b.pwr := rfl
@[simp] theorem Block.set_flt (b : Block) (f : Field) (n : Nat) : (b.set f n).flt = b.flt := rfl
@[simp] theorem Block.set_mbx (b : Block) (f : Field) (n : Nat) : (b.set f n).mbx = b.mbx := rfl
@[simp] theorem Block.set_mat (b : Block) (f : Field) (n : Nat) : (b.set f n).mat = b.mat := rfl
@[simp] theorem Block.set_sys (b : Block) (f : Field) (n : Nat) : (b.set f n).sys = b.sys := rfl
@[simp] theorem Block.clr_out (b : Block) (f : Field) (n : Nat) : (b.clr f n).out = b.out := rfl
@[simp] theorem Block.clr_free (b : Block) (f : Field) (n : Nat) : (b.clr f n).free = b.free := rfl
@[simp] theorem Block.clr_replies (b : Block) (f : Field) (n : Nat) : (b.clr f n).replies = b.replies := rfl
@[simp] theorem Block.clr_dev (b : Block) (f : Field) (n : Nat) : (b.clr f n).dev = b.dev := rfl
@[simp] theorem Block.clr_time (b : Block) (f : Field) (n : Nat) : (b.clr f n).time = b.time := rfl
@[simp] theorem Block.clr_refs (b : Block) (f : Field) (n : Nat) : (b.clr f n).refs = b.refs := rfl
@[simp] theorem Block.clr_pll (b : Block) (f : Field) (n : Nat) : (b.clr f n).pll = b.pll := rfl
@[simp] theorem Block.clr_oscLost (b : Block) (f : Field) (n : Nat) : (b.clr f n).oscLost = b.oscLost := rfl
@[simp] theorem Block.clr_lanes (b : Block) (f : Field) (n : Nat) : (b.clr f n).lanes = b.lanes := rfl
@[simp] theorem Block.clr_bring (b : Block) (f : Field) (n : Nat) : (b.clr f n).bring = b.bring := rfl
@[simp] theorem Block.clr_sdiRx (b : Block) (f : Field) (n : Nat) : (b.clr f n).sdiRx = b.sdiRx := rfl
@[simp] theorem Block.clr_sdiTx (b : Block) (f : Field) (n : Nat) : (b.clr f n).sdiTx = b.sdiTx := rfl
@[simp] theorem Block.clr_eth (b : Block) (f : Field) (n : Nat) : (b.clr f n).eth = b.eth := rfl
@[simp] theorem Block.clr_flowRx (b : Block) (f : Field) (n : Nat) : (b.clr f n).flowRx = b.flowRx := rfl
@[simp] theorem Block.clr_flowTx (b : Block) (f : Field) (n : Nat) : (b.clr f n).flowTx = b.flowTx := rfl
@[simp] theorem Block.clr_outFrames (b : Block) (f : Field) (n : Nat) : (b.clr f n).outFrames = b.outFrames := rfl
@[simp] theorem Block.clr_stalls (b : Block) (f : Field) (n : Nat) : (b.clr f n).stalls = b.stalls := rfl
@[simp] theorem Block.clr_watch (b : Block) (f : Field) (n : Nat) : (b.clr f n).watch = b.watch := rfl
@[simp] theorem Block.clr_checks (b : Block) (f : Field) (n : Nat) : (b.clr f n).checks = b.checks := rfl
@[simp] theorem Block.clr_carve (b : Block) (f : Field) (n : Nat) : (b.clr f n).carve = b.carve := rfl
@[simp] theorem Block.clr_yard (b : Block) (f : Field) (n : Nat) : (b.clr f n).yard = b.yard := rfl
@[simp] theorem Block.clr_fabPorts (b : Block) (f : Field) (n : Nat) : (b.clr f n).fabPorts = b.fabPorts := rfl
@[simp] theorem Block.clr_adverts (b : Block) (f : Field) (n : Nat) : (b.clr f n).adverts = b.adverts := rfl
@[simp] theorem Block.clr_grants (b : Block) (f : Field) (n : Nat) : (b.clr f n).grants = b.grants := rfl
@[simp] theorem Block.clr_withheld (b : Block) (f : Field) (n : Nat) : (b.clr f n).withheld = b.withheld := rfl
@[simp] theorem Block.clr_subs (b : Block) (f : Field) (n : Nat) : (b.clr f n).subs = b.subs := rfl
@[simp] theorem Block.clr_rings (b : Block) (f : Field) (n : Nat) : (b.clr f n).rings = b.rings := rfl
@[simp] theorem Block.clr_asks (b : Block) (f : Field) (n : Nat) : (b.clr f n).asks = b.asks := rfl
@[simp] theorem Block.clr_stored (b : Block) (f : Field) (n : Nat) : (b.clr f n).stored = b.stored := rfl
@[simp] theorem Block.clr_tid (b : Block) (f : Field) (n : Nat) : (b.clr f n).tid = b.tid := rfl
@[simp] theorem Block.clr_allow (b : Block) (f : Field) (n : Nat) : (b.clr f n).allow = b.allow := rfl
@[simp] theorem Block.clr_mirrors (b : Block) (f : Field) (n : Nat) : (b.clr f n).mirrors = b.mirrors := rfl
@[simp] theorem Block.clr_keys (b : Block) (f : Field) (n : Nat) : (b.clr f n).keys = b.keys := rfl
@[simp] theorem Block.clr_pins (b : Block) (f : Field) (n : Nat) : (b.clr f n).pins = b.pins := rfl
@[simp] theorem Block.clr_cox (b : Block) (f : Field) (n : Nat) : (b.clr f n).cox = b.cox := rfl
@[simp] theorem Block.clr_headSt (b : Block) (f : Field) (n : Nat) : (b.clr f n).headSt = b.headSt := rfl
@[simp] theorem Block.clr_colour (b : Block) (f : Field) (n : Nat) : (b.clr f n).colour = b.colour := rfl
@[simp] theorem Block.clr_guard (b : Block) (f : Field) (n : Nat) : (b.clr f n).guard = b.guard := rfl
@[simp] theorem Block.clr_stills (b : Block) (f : Field) (n : Nat) : (b.clr f n).stills = b.stills := rfl
@[simp] theorem Block.clr_safetyReset (b : Block) (f : Field) (n : Nat) : (b.clr f n).safetyReset = b.safetyReset := rfl
@[simp] theorem Block.clr_aud (b : Block) (f : Field) (n : Nat) : (b.clr f n).aud = b.aud := rfl
@[simp] theorem Block.clr_wit (b : Block) (f : Field) (n : Nat) : (b.clr f n).wit = b.wit := rfl
@[simp] theorem Block.clr_twin (b : Block) (f : Field) (n : Nat) : (b.clr f n).twin = b.twin := rfl
@[simp] theorem Block.clr_released (b : Block) (f : Field) (n : Nat) : (b.clr f n).released = b.released := rfl
@[simp] theorem Block.clr_flash (b : Block) (f : Field) (n : Nat) : (b.clr f n).flash = b.flash := rfl
@[simp] theorem Block.clr_start (b : Block) (f : Field) (n : Nat) : (b.clr f n).start = b.start := rfl
@[simp] theorem Block.clr_pwr (b : Block) (f : Field) (n : Nat) : (b.clr f n).pwr = b.pwr := rfl
@[simp] theorem Block.clr_flt (b : Block) (f : Field) (n : Nat) : (b.clr f n).flt = b.flt := rfl
@[simp] theorem Block.clr_mbx (b : Block) (f : Field) (n : Nat) : (b.clr f n).mbx = b.mbx := rfl
@[simp] theorem Block.clr_mat (b : Block) (f : Field) (n : Nat) : (b.clr f n).mat = b.mat := rfl
@[simp] theorem Block.clr_sys (b : Block) (f : Field) (n : Nat) : (b.clr f n).sys = b.sys := rfl
@[simp] theorem Block.setBit_out (b : Block) (f : Field) (n i : Nat) : (b.setBit f n i).out = b.out := rfl
@[simp] theorem Block.setBit_free (b : Block) (f : Field) (n i : Nat) : (b.setBit f n i).free = b.free := rfl
@[simp] theorem Block.setBit_replies (b : Block) (f : Field) (n i : Nat) : (b.setBit f n i).replies = b.replies := rfl
@[simp] theorem Block.setBit_dev (b : Block) (f : Field) (n i : Nat) : (b.setBit f n i).dev = b.dev := rfl
@[simp] theorem Block.setBit_time (b : Block) (f : Field) (n i : Nat) : (b.setBit f n i).time = b.time := rfl
@[simp] theorem Block.setBit_refs (b : Block) (f : Field) (n i : Nat) : (b.setBit f n i).refs = b.refs := rfl
@[simp] theorem Block.setBit_pll (b : Block) (f : Field) (n i : Nat) : (b.setBit f n i).pll = b.pll := rfl
@[simp] theorem Block.setBit_oscLost (b : Block) (f : Field) (n i : Nat) : (b.setBit f n i).oscLost = b.oscLost := rfl
@[simp] theorem Block.setBit_lanes (b : Block) (f : Field) (n i : Nat) : (b.setBit f n i).lanes = b.lanes := rfl
@[simp] theorem Block.setBit_bring (b : Block) (f : Field) (n i : Nat) : (b.setBit f n i).bring = b.bring := rfl
@[simp] theorem Block.setBit_sdiRx (b : Block) (f : Field) (n i : Nat) : (b.setBit f n i).sdiRx = b.sdiRx := rfl
@[simp] theorem Block.setBit_sdiTx (b : Block) (f : Field) (n i : Nat) : (b.setBit f n i).sdiTx = b.sdiTx := rfl
@[simp] theorem Block.setBit_eth (b : Block) (f : Field) (n i : Nat) : (b.setBit f n i).eth = b.eth := rfl
@[simp] theorem Block.setBit_flowRx (b : Block) (f : Field) (n i : Nat) : (b.setBit f n i).flowRx = b.flowRx := rfl
@[simp] theorem Block.setBit_flowTx (b : Block) (f : Field) (n i : Nat) : (b.setBit f n i).flowTx = b.flowTx := rfl
@[simp] theorem Block.setBit_outFrames (b : Block) (f : Field) (n i : Nat) : (b.setBit f n i).outFrames = b.outFrames := rfl
@[simp] theorem Block.setBit_stalls (b : Block) (f : Field) (n i : Nat) : (b.setBit f n i).stalls = b.stalls := rfl
@[simp] theorem Block.setBit_watch (b : Block) (f : Field) (n i : Nat) : (b.setBit f n i).watch = b.watch := rfl
@[simp] theorem Block.setBit_checks (b : Block) (f : Field) (n i : Nat) : (b.setBit f n i).checks = b.checks := rfl
@[simp] theorem Block.setBit_carve (b : Block) (f : Field) (n i : Nat) : (b.setBit f n i).carve = b.carve := rfl
@[simp] theorem Block.setBit_yard (b : Block) (f : Field) (n i : Nat) : (b.setBit f n i).yard = b.yard := rfl
@[simp] theorem Block.setBit_fabPorts (b : Block) (f : Field) (n i : Nat) : (b.setBit f n i).fabPorts = b.fabPorts := rfl
@[simp] theorem Block.setBit_adverts (b : Block) (f : Field) (n i : Nat) : (b.setBit f n i).adverts = b.adverts := rfl
@[simp] theorem Block.setBit_grants (b : Block) (f : Field) (n i : Nat) : (b.setBit f n i).grants = b.grants := rfl
@[simp] theorem Block.setBit_withheld (b : Block) (f : Field) (n i : Nat) : (b.setBit f n i).withheld = b.withheld := rfl
@[simp] theorem Block.setBit_subs (b : Block) (f : Field) (n i : Nat) : (b.setBit f n i).subs = b.subs := rfl
@[simp] theorem Block.setBit_rings (b : Block) (f : Field) (n i : Nat) : (b.setBit f n i).rings = b.rings := rfl
@[simp] theorem Block.setBit_asks (b : Block) (f : Field) (n i : Nat) : (b.setBit f n i).asks = b.asks := rfl
@[simp] theorem Block.setBit_stored (b : Block) (f : Field) (n i : Nat) : (b.setBit f n i).stored = b.stored := rfl
@[simp] theorem Block.setBit_tid (b : Block) (f : Field) (n i : Nat) : (b.setBit f n i).tid = b.tid := rfl
@[simp] theorem Block.setBit_allow (b : Block) (f : Field) (n i : Nat) : (b.setBit f n i).allow = b.allow := rfl
@[simp] theorem Block.setBit_mirrors (b : Block) (f : Field) (n i : Nat) : (b.setBit f n i).mirrors = b.mirrors := rfl
@[simp] theorem Block.setBit_keys (b : Block) (f : Field) (n i : Nat) : (b.setBit f n i).keys = b.keys := rfl
@[simp] theorem Block.setBit_pins (b : Block) (f : Field) (n i : Nat) : (b.setBit f n i).pins = b.pins := rfl
@[simp] theorem Block.setBit_cox (b : Block) (f : Field) (n i : Nat) : (b.setBit f n i).cox = b.cox := rfl
@[simp] theorem Block.setBit_headSt (b : Block) (f : Field) (n i : Nat) : (b.setBit f n i).headSt = b.headSt := rfl
@[simp] theorem Block.setBit_colour (b : Block) (f : Field) (n i : Nat) : (b.setBit f n i).colour = b.colour := rfl
@[simp] theorem Block.setBit_guard (b : Block) (f : Field) (n i : Nat) : (b.setBit f n i).guard = b.guard := rfl
@[simp] theorem Block.setBit_stills (b : Block) (f : Field) (n i : Nat) : (b.setBit f n i).stills = b.stills := rfl
@[simp] theorem Block.setBit_safetyReset (b : Block) (f : Field) (n i : Nat) : (b.setBit f n i).safetyReset = b.safetyReset := rfl
@[simp] theorem Block.setBit_aud (b : Block) (f : Field) (n i : Nat) : (b.setBit f n i).aud = b.aud := rfl
@[simp] theorem Block.setBit_wit (b : Block) (f : Field) (n i : Nat) : (b.setBit f n i).wit = b.wit := rfl
@[simp] theorem Block.setBit_twin (b : Block) (f : Field) (n i : Nat) : (b.setBit f n i).twin = b.twin := rfl
@[simp] theorem Block.setBit_released (b : Block) (f : Field) (n i : Nat) : (b.setBit f n i).released = b.released := rfl
@[simp] theorem Block.setBit_flash (b : Block) (f : Field) (n i : Nat) : (b.setBit f n i).flash = b.flash := rfl
@[simp] theorem Block.setBit_start (b : Block) (f : Field) (n i : Nat) : (b.setBit f n i).start = b.start := rfl
@[simp] theorem Block.setBit_pwr (b : Block) (f : Field) (n i : Nat) : (b.setBit f n i).pwr = b.pwr := rfl
@[simp] theorem Block.setBit_flt (b : Block) (f : Field) (n i : Nat) : (b.setBit f n i).flt = b.flt := rfl
@[simp] theorem Block.setBit_mbx (b : Block) (f : Field) (n i : Nat) : (b.setBit f n i).mbx = b.mbx := rfl
@[simp] theorem Block.setBit_mat (b : Block) (f : Field) (n i : Nat) : (b.setBit f n i).mat = b.mat := rfl
@[simp] theorem Block.setBit_sys (b : Block) (f : Field) (n i : Nat) : (b.setBit f n i).sys = b.sys := rfl
@[simp] theorem Block.clrBit_out (b : Block) (f : Field) (n i : Nat) : (b.clrBit f n i).out = b.out := rfl
@[simp] theorem Block.clrBit_free (b : Block) (f : Field) (n i : Nat) : (b.clrBit f n i).free = b.free := rfl
@[simp] theorem Block.clrBit_replies (b : Block) (f : Field) (n i : Nat) : (b.clrBit f n i).replies = b.replies := rfl
@[simp] theorem Block.clrBit_dev (b : Block) (f : Field) (n i : Nat) : (b.clrBit f n i).dev = b.dev := rfl
@[simp] theorem Block.clrBit_time (b : Block) (f : Field) (n i : Nat) : (b.clrBit f n i).time = b.time := rfl
@[simp] theorem Block.clrBit_refs (b : Block) (f : Field) (n i : Nat) : (b.clrBit f n i).refs = b.refs := rfl
@[simp] theorem Block.clrBit_pll (b : Block) (f : Field) (n i : Nat) : (b.clrBit f n i).pll = b.pll := rfl
@[simp] theorem Block.clrBit_oscLost (b : Block) (f : Field) (n i : Nat) : (b.clrBit f n i).oscLost = b.oscLost := rfl
@[simp] theorem Block.clrBit_lanes (b : Block) (f : Field) (n i : Nat) : (b.clrBit f n i).lanes = b.lanes := rfl
@[simp] theorem Block.clrBit_bring (b : Block) (f : Field) (n i : Nat) : (b.clrBit f n i).bring = b.bring := rfl
@[simp] theorem Block.clrBit_sdiRx (b : Block) (f : Field) (n i : Nat) : (b.clrBit f n i).sdiRx = b.sdiRx := rfl
@[simp] theorem Block.clrBit_sdiTx (b : Block) (f : Field) (n i : Nat) : (b.clrBit f n i).sdiTx = b.sdiTx := rfl
@[simp] theorem Block.clrBit_eth (b : Block) (f : Field) (n i : Nat) : (b.clrBit f n i).eth = b.eth := rfl
@[simp] theorem Block.clrBit_flowRx (b : Block) (f : Field) (n i : Nat) : (b.clrBit f n i).flowRx = b.flowRx := rfl
@[simp] theorem Block.clrBit_flowTx (b : Block) (f : Field) (n i : Nat) : (b.clrBit f n i).flowTx = b.flowTx := rfl
@[simp] theorem Block.clrBit_outFrames (b : Block) (f : Field) (n i : Nat) : (b.clrBit f n i).outFrames = b.outFrames := rfl
@[simp] theorem Block.clrBit_stalls (b : Block) (f : Field) (n i : Nat) : (b.clrBit f n i).stalls = b.stalls := rfl
@[simp] theorem Block.clrBit_watch (b : Block) (f : Field) (n i : Nat) : (b.clrBit f n i).watch = b.watch := rfl
@[simp] theorem Block.clrBit_checks (b : Block) (f : Field) (n i : Nat) : (b.clrBit f n i).checks = b.checks := rfl
@[simp] theorem Block.clrBit_carve (b : Block) (f : Field) (n i : Nat) : (b.clrBit f n i).carve = b.carve := rfl
@[simp] theorem Block.clrBit_yard (b : Block) (f : Field) (n i : Nat) : (b.clrBit f n i).yard = b.yard := rfl
@[simp] theorem Block.clrBit_fabPorts (b : Block) (f : Field) (n i : Nat) : (b.clrBit f n i).fabPorts = b.fabPorts := rfl
@[simp] theorem Block.clrBit_adverts (b : Block) (f : Field) (n i : Nat) : (b.clrBit f n i).adverts = b.adverts := rfl
@[simp] theorem Block.clrBit_grants (b : Block) (f : Field) (n i : Nat) : (b.clrBit f n i).grants = b.grants := rfl
@[simp] theorem Block.clrBit_withheld (b : Block) (f : Field) (n i : Nat) : (b.clrBit f n i).withheld = b.withheld := rfl
@[simp] theorem Block.clrBit_subs (b : Block) (f : Field) (n i : Nat) : (b.clrBit f n i).subs = b.subs := rfl
@[simp] theorem Block.clrBit_rings (b : Block) (f : Field) (n i : Nat) : (b.clrBit f n i).rings = b.rings := rfl
@[simp] theorem Block.clrBit_asks (b : Block) (f : Field) (n i : Nat) : (b.clrBit f n i).asks = b.asks := rfl
@[simp] theorem Block.clrBit_stored (b : Block) (f : Field) (n i : Nat) : (b.clrBit f n i).stored = b.stored := rfl
@[simp] theorem Block.clrBit_tid (b : Block) (f : Field) (n i : Nat) : (b.clrBit f n i).tid = b.tid := rfl
@[simp] theorem Block.clrBit_allow (b : Block) (f : Field) (n i : Nat) : (b.clrBit f n i).allow = b.allow := rfl
@[simp] theorem Block.clrBit_mirrors (b : Block) (f : Field) (n i : Nat) : (b.clrBit f n i).mirrors = b.mirrors := rfl
@[simp] theorem Block.clrBit_keys (b : Block) (f : Field) (n i : Nat) : (b.clrBit f n i).keys = b.keys := rfl
@[simp] theorem Block.clrBit_pins (b : Block) (f : Field) (n i : Nat) : (b.clrBit f n i).pins = b.pins := rfl
@[simp] theorem Block.clrBit_cox (b : Block) (f : Field) (n i : Nat) : (b.clrBit f n i).cox = b.cox := rfl
@[simp] theorem Block.clrBit_headSt (b : Block) (f : Field) (n i : Nat) : (b.clrBit f n i).headSt = b.headSt := rfl
@[simp] theorem Block.clrBit_colour (b : Block) (f : Field) (n i : Nat) : (b.clrBit f n i).colour = b.colour := rfl
@[simp] theorem Block.clrBit_guard (b : Block) (f : Field) (n i : Nat) : (b.clrBit f n i).guard = b.guard := rfl
@[simp] theorem Block.clrBit_stills (b : Block) (f : Field) (n i : Nat) : (b.clrBit f n i).stills = b.stills := rfl
@[simp] theorem Block.clrBit_safetyReset (b : Block) (f : Field) (n i : Nat) : (b.clrBit f n i).safetyReset = b.safetyReset := rfl
@[simp] theorem Block.clrBit_aud (b : Block) (f : Field) (n i : Nat) : (b.clrBit f n i).aud = b.aud := rfl
@[simp] theorem Block.clrBit_wit (b : Block) (f : Field) (n i : Nat) : (b.clrBit f n i).wit = b.wit := rfl
@[simp] theorem Block.clrBit_twin (b : Block) (f : Field) (n i : Nat) : (b.clrBit f n i).twin = b.twin := rfl
@[simp] theorem Block.clrBit_released (b : Block) (f : Field) (n i : Nat) : (b.clrBit f n i).released = b.released := rfl
@[simp] theorem Block.clrBit_flash (b : Block) (f : Field) (n i : Nat) : (b.clrBit f n i).flash = b.flash := rfl
@[simp] theorem Block.clrBit_start (b : Block) (f : Field) (n i : Nat) : (b.clrBit f n i).start = b.start := rfl
@[simp] theorem Block.clrBit_pwr (b : Block) (f : Field) (n i : Nat) : (b.clrBit f n i).pwr = b.pwr := rfl
@[simp] theorem Block.clrBit_flt (b : Block) (f : Field) (n i : Nat) : (b.clrBit f n i).flt = b.flt := rfl
@[simp] theorem Block.clrBit_mbx (b : Block) (f : Field) (n i : Nat) : (b.clrBit f n i).mbx = b.mbx := rfl
@[simp] theorem Block.clrBit_mat (b : Block) (f : Field) (n i : Nat) : (b.clrBit f n i).mat = b.mat := rfl
@[simp] theorem Block.clrBit_sys (b : Block) (f : Field) (n i : Nat) : (b.clrBit f n i).sys = b.sys := rfl
@[simp] theorem Block.setTo_out (b : Block) (f : Field) (n : Nat) (p : Bool) : (b.setTo f n p).out = b.out := rfl
@[simp] theorem Block.setTo_free (b : Block) (f : Field) (n : Nat) (p : Bool) : (b.setTo f n p).free = b.free := rfl
@[simp] theorem Block.setTo_replies (b : Block) (f : Field) (n : Nat) (p : Bool) : (b.setTo f n p).replies = b.replies := rfl
@[simp] theorem Block.setTo_dev (b : Block) (f : Field) (n : Nat) (p : Bool) : (b.setTo f n p).dev = b.dev := rfl
@[simp] theorem Block.setTo_time (b : Block) (f : Field) (n : Nat) (p : Bool) : (b.setTo f n p).time = b.time := rfl
@[simp] theorem Block.setTo_refs (b : Block) (f : Field) (n : Nat) (p : Bool) : (b.setTo f n p).refs = b.refs := rfl
@[simp] theorem Block.setTo_pll (b : Block) (f : Field) (n : Nat) (p : Bool) : (b.setTo f n p).pll = b.pll := rfl
@[simp] theorem Block.setTo_oscLost (b : Block) (f : Field) (n : Nat) (p : Bool) : (b.setTo f n p).oscLost = b.oscLost := rfl
@[simp] theorem Block.setTo_lanes (b : Block) (f : Field) (n : Nat) (p : Bool) : (b.setTo f n p).lanes = b.lanes := rfl
@[simp] theorem Block.setTo_bring (b : Block) (f : Field) (n : Nat) (p : Bool) : (b.setTo f n p).bring = b.bring := rfl
@[simp] theorem Block.setTo_sdiRx (b : Block) (f : Field) (n : Nat) (p : Bool) : (b.setTo f n p).sdiRx = b.sdiRx := rfl
@[simp] theorem Block.setTo_sdiTx (b : Block) (f : Field) (n : Nat) (p : Bool) : (b.setTo f n p).sdiTx = b.sdiTx := rfl
@[simp] theorem Block.setTo_eth (b : Block) (f : Field) (n : Nat) (p : Bool) : (b.setTo f n p).eth = b.eth := rfl
@[simp] theorem Block.setTo_flowRx (b : Block) (f : Field) (n : Nat) (p : Bool) : (b.setTo f n p).flowRx = b.flowRx := rfl
@[simp] theorem Block.setTo_flowTx (b : Block) (f : Field) (n : Nat) (p : Bool) : (b.setTo f n p).flowTx = b.flowTx := rfl
@[simp] theorem Block.setTo_outFrames (b : Block) (f : Field) (n : Nat) (p : Bool) : (b.setTo f n p).outFrames = b.outFrames := rfl
@[simp] theorem Block.setTo_stalls (b : Block) (f : Field) (n : Nat) (p : Bool) : (b.setTo f n p).stalls = b.stalls := rfl
@[simp] theorem Block.setTo_watch (b : Block) (f : Field) (n : Nat) (p : Bool) : (b.setTo f n p).watch = b.watch := rfl
@[simp] theorem Block.setTo_checks (b : Block) (f : Field) (n : Nat) (p : Bool) : (b.setTo f n p).checks = b.checks := rfl
@[simp] theorem Block.setTo_carve (b : Block) (f : Field) (n : Nat) (p : Bool) : (b.setTo f n p).carve = b.carve := rfl
@[simp] theorem Block.setTo_yard (b : Block) (f : Field) (n : Nat) (p : Bool) : (b.setTo f n p).yard = b.yard := rfl
@[simp] theorem Block.setTo_fabPorts (b : Block) (f : Field) (n : Nat) (p : Bool) : (b.setTo f n p).fabPorts = b.fabPorts := rfl
@[simp] theorem Block.setTo_adverts (b : Block) (f : Field) (n : Nat) (p : Bool) : (b.setTo f n p).adverts = b.adverts := rfl
@[simp] theorem Block.setTo_grants (b : Block) (f : Field) (n : Nat) (p : Bool) : (b.setTo f n p).grants = b.grants := rfl
@[simp] theorem Block.setTo_withheld (b : Block) (f : Field) (n : Nat) (p : Bool) : (b.setTo f n p).withheld = b.withheld := rfl
@[simp] theorem Block.setTo_subs (b : Block) (f : Field) (n : Nat) (p : Bool) : (b.setTo f n p).subs = b.subs := rfl
@[simp] theorem Block.setTo_rings (b : Block) (f : Field) (n : Nat) (p : Bool) : (b.setTo f n p).rings = b.rings := rfl
@[simp] theorem Block.setTo_asks (b : Block) (f : Field) (n : Nat) (p : Bool) : (b.setTo f n p).asks = b.asks := rfl
@[simp] theorem Block.setTo_stored (b : Block) (f : Field) (n : Nat) (p : Bool) : (b.setTo f n p).stored = b.stored := rfl
@[simp] theorem Block.setTo_tid (b : Block) (f : Field) (n : Nat) (p : Bool) : (b.setTo f n p).tid = b.tid := rfl
@[simp] theorem Block.setTo_allow (b : Block) (f : Field) (n : Nat) (p : Bool) : (b.setTo f n p).allow = b.allow := rfl
@[simp] theorem Block.setTo_mirrors (b : Block) (f : Field) (n : Nat) (p : Bool) : (b.setTo f n p).mirrors = b.mirrors := rfl
@[simp] theorem Block.setTo_keys (b : Block) (f : Field) (n : Nat) (p : Bool) : (b.setTo f n p).keys = b.keys := rfl
@[simp] theorem Block.setTo_pins (b : Block) (f : Field) (n : Nat) (p : Bool) : (b.setTo f n p).pins = b.pins := rfl
@[simp] theorem Block.setTo_cox (b : Block) (f : Field) (n : Nat) (p : Bool) : (b.setTo f n p).cox = b.cox := rfl
@[simp] theorem Block.setTo_headSt (b : Block) (f : Field) (n : Nat) (p : Bool) : (b.setTo f n p).headSt = b.headSt := rfl
@[simp] theorem Block.setTo_colour (b : Block) (f : Field) (n : Nat) (p : Bool) : (b.setTo f n p).colour = b.colour := rfl
@[simp] theorem Block.setTo_guard (b : Block) (f : Field) (n : Nat) (p : Bool) : (b.setTo f n p).guard = b.guard := rfl
@[simp] theorem Block.setTo_stills (b : Block) (f : Field) (n : Nat) (p : Bool) : (b.setTo f n p).stills = b.stills := rfl
@[simp] theorem Block.setTo_safetyReset (b : Block) (f : Field) (n : Nat) (p : Bool) : (b.setTo f n p).safetyReset = b.safetyReset := rfl
@[simp] theorem Block.setTo_aud (b : Block) (f : Field) (n : Nat) (p : Bool) : (b.setTo f n p).aud = b.aud := rfl
@[simp] theorem Block.setTo_wit (b : Block) (f : Field) (n : Nat) (p : Bool) : (b.setTo f n p).wit = b.wit := rfl
@[simp] theorem Block.setTo_twin (b : Block) (f : Field) (n : Nat) (p : Bool) : (b.setTo f n p).twin = b.twin := rfl
@[simp] theorem Block.setTo_released (b : Block) (f : Field) (n : Nat) (p : Bool) : (b.setTo f n p).released = b.released := rfl
@[simp] theorem Block.setTo_flash (b : Block) (f : Field) (n : Nat) (p : Bool) : (b.setTo f n p).flash = b.flash := rfl
@[simp] theorem Block.setTo_start (b : Block) (f : Field) (n : Nat) (p : Bool) : (b.setTo f n p).start = b.start := rfl
@[simp] theorem Block.setTo_pwr (b : Block) (f : Field) (n : Nat) (p : Bool) : (b.setTo f n p).pwr = b.pwr := rfl
@[simp] theorem Block.setTo_flt (b : Block) (f : Field) (n : Nat) (p : Bool) : (b.setTo f n p).flt = b.flt := rfl
@[simp] theorem Block.setTo_mbx (b : Block) (f : Field) (n : Nat) (p : Bool) : (b.setTo f n p).mbx = b.mbx := rfl
@[simp] theorem Block.setTo_mat (b : Block) (f : Field) (n : Nat) (p : Bool) : (b.setTo f n p).mat = b.mat := rfl
@[simp] theorem Block.setTo_sys (b : Block) (f : Field) (n : Nat) (p : Bool) : (b.setTo f n p).sys = b.sys := rfl
@[simp] theorem Block.setSfld_out (b : Block) (f : Field) (n : Nat) (i : Int) : (b.setSfld f n i).out = b.out := rfl
@[simp] theorem Block.setSfld_free (b : Block) (f : Field) (n : Nat) (i : Int) : (b.setSfld f n i).free = b.free := rfl
@[simp] theorem Block.setSfld_replies (b : Block) (f : Field) (n : Nat) (i : Int) : (b.setSfld f n i).replies = b.replies := rfl
@[simp] theorem Block.setSfld_dev (b : Block) (f : Field) (n : Nat) (i : Int) : (b.setSfld f n i).dev = b.dev := rfl
@[simp] theorem Block.setSfld_time (b : Block) (f : Field) (n : Nat) (i : Int) : (b.setSfld f n i).time = b.time := rfl
@[simp] theorem Block.setSfld_refs (b : Block) (f : Field) (n : Nat) (i : Int) : (b.setSfld f n i).refs = b.refs := rfl
@[simp] theorem Block.setSfld_pll (b : Block) (f : Field) (n : Nat) (i : Int) : (b.setSfld f n i).pll = b.pll := rfl
@[simp] theorem Block.setSfld_oscLost (b : Block) (f : Field) (n : Nat) (i : Int) : (b.setSfld f n i).oscLost = b.oscLost := rfl
@[simp] theorem Block.setSfld_lanes (b : Block) (f : Field) (n : Nat) (i : Int) : (b.setSfld f n i).lanes = b.lanes := rfl
@[simp] theorem Block.setSfld_bring (b : Block) (f : Field) (n : Nat) (i : Int) : (b.setSfld f n i).bring = b.bring := rfl
@[simp] theorem Block.setSfld_sdiRx (b : Block) (f : Field) (n : Nat) (i : Int) : (b.setSfld f n i).sdiRx = b.sdiRx := rfl
@[simp] theorem Block.setSfld_sdiTx (b : Block) (f : Field) (n : Nat) (i : Int) : (b.setSfld f n i).sdiTx = b.sdiTx := rfl
@[simp] theorem Block.setSfld_eth (b : Block) (f : Field) (n : Nat) (i : Int) : (b.setSfld f n i).eth = b.eth := rfl
@[simp] theorem Block.setSfld_flowRx (b : Block) (f : Field) (n : Nat) (i : Int) : (b.setSfld f n i).flowRx = b.flowRx := rfl
@[simp] theorem Block.setSfld_flowTx (b : Block) (f : Field) (n : Nat) (i : Int) : (b.setSfld f n i).flowTx = b.flowTx := rfl
@[simp] theorem Block.setSfld_outFrames (b : Block) (f : Field) (n : Nat) (i : Int) : (b.setSfld f n i).outFrames = b.outFrames := rfl
@[simp] theorem Block.setSfld_stalls (b : Block) (f : Field) (n : Nat) (i : Int) : (b.setSfld f n i).stalls = b.stalls := rfl
@[simp] theorem Block.setSfld_watch (b : Block) (f : Field) (n : Nat) (i : Int) : (b.setSfld f n i).watch = b.watch := rfl
@[simp] theorem Block.setSfld_checks (b : Block) (f : Field) (n : Nat) (i : Int) : (b.setSfld f n i).checks = b.checks := rfl
@[simp] theorem Block.setSfld_carve (b : Block) (f : Field) (n : Nat) (i : Int) : (b.setSfld f n i).carve = b.carve := rfl
@[simp] theorem Block.setSfld_yard (b : Block) (f : Field) (n : Nat) (i : Int) : (b.setSfld f n i).yard = b.yard := rfl
@[simp] theorem Block.setSfld_fabPorts (b : Block) (f : Field) (n : Nat) (i : Int) : (b.setSfld f n i).fabPorts = b.fabPorts := rfl
@[simp] theorem Block.setSfld_adverts (b : Block) (f : Field) (n : Nat) (i : Int) : (b.setSfld f n i).adverts = b.adverts := rfl
@[simp] theorem Block.setSfld_grants (b : Block) (f : Field) (n : Nat) (i : Int) : (b.setSfld f n i).grants = b.grants := rfl
@[simp] theorem Block.setSfld_withheld (b : Block) (f : Field) (n : Nat) (i : Int) : (b.setSfld f n i).withheld = b.withheld := rfl
@[simp] theorem Block.setSfld_subs (b : Block) (f : Field) (n : Nat) (i : Int) : (b.setSfld f n i).subs = b.subs := rfl
@[simp] theorem Block.setSfld_rings (b : Block) (f : Field) (n : Nat) (i : Int) : (b.setSfld f n i).rings = b.rings := rfl
@[simp] theorem Block.setSfld_asks (b : Block) (f : Field) (n : Nat) (i : Int) : (b.setSfld f n i).asks = b.asks := rfl
@[simp] theorem Block.setSfld_stored (b : Block) (f : Field) (n : Nat) (i : Int) : (b.setSfld f n i).stored = b.stored := rfl
@[simp] theorem Block.setSfld_tid (b : Block) (f : Field) (n : Nat) (i : Int) : (b.setSfld f n i).tid = b.tid := rfl
@[simp] theorem Block.setSfld_allow (b : Block) (f : Field) (n : Nat) (i : Int) : (b.setSfld f n i).allow = b.allow := rfl
@[simp] theorem Block.setSfld_mirrors (b : Block) (f : Field) (n : Nat) (i : Int) : (b.setSfld f n i).mirrors = b.mirrors := rfl
@[simp] theorem Block.setSfld_keys (b : Block) (f : Field) (n : Nat) (i : Int) : (b.setSfld f n i).keys = b.keys := rfl
@[simp] theorem Block.setSfld_pins (b : Block) (f : Field) (n : Nat) (i : Int) : (b.setSfld f n i).pins = b.pins := rfl
@[simp] theorem Block.setSfld_cox (b : Block) (f : Field) (n : Nat) (i : Int) : (b.setSfld f n i).cox = b.cox := rfl
@[simp] theorem Block.setSfld_headSt (b : Block) (f : Field) (n : Nat) (i : Int) : (b.setSfld f n i).headSt = b.headSt := rfl
@[simp] theorem Block.setSfld_colour (b : Block) (f : Field) (n : Nat) (i : Int) : (b.setSfld f n i).colour = b.colour := rfl
@[simp] theorem Block.setSfld_guard (b : Block) (f : Field) (n : Nat) (i : Int) : (b.setSfld f n i).guard = b.guard := rfl
@[simp] theorem Block.setSfld_stills (b : Block) (f : Field) (n : Nat) (i : Int) : (b.setSfld f n i).stills = b.stills := rfl
@[simp] theorem Block.setSfld_safetyReset (b : Block) (f : Field) (n : Nat) (i : Int) : (b.setSfld f n i).safetyReset = b.safetyReset := rfl
@[simp] theorem Block.setSfld_aud (b : Block) (f : Field) (n : Nat) (i : Int) : (b.setSfld f n i).aud = b.aud := rfl
@[simp] theorem Block.setSfld_wit (b : Block) (f : Field) (n : Nat) (i : Int) : (b.setSfld f n i).wit = b.wit := rfl
@[simp] theorem Block.setSfld_twin (b : Block) (f : Field) (n : Nat) (i : Int) : (b.setSfld f n i).twin = b.twin := rfl
@[simp] theorem Block.setSfld_released (b : Block) (f : Field) (n : Nat) (i : Int) : (b.setSfld f n i).released = b.released := rfl
@[simp] theorem Block.setSfld_flash (b : Block) (f : Field) (n : Nat) (i : Int) : (b.setSfld f n i).flash = b.flash := rfl
@[simp] theorem Block.setSfld_start (b : Block) (f : Field) (n : Nat) (i : Int) : (b.setSfld f n i).start = b.start := rfl
@[simp] theorem Block.setSfld_pwr (b : Block) (f : Field) (n : Nat) (i : Int) : (b.setSfld f n i).pwr = b.pwr := rfl
@[simp] theorem Block.setSfld_flt (b : Block) (f : Field) (n : Nat) (i : Int) : (b.setSfld f n i).flt = b.flt := rfl
@[simp] theorem Block.setSfld_mbx (b : Block) (f : Field) (n : Nat) (i : Int) : (b.setSfld f n i).mbx = b.mbx := rfl
@[simp] theorem Block.setSfld_mat (b : Block) (f : Field) (n : Nat) (i : Int) : (b.setSfld f n i).mat = b.mat := rfl
@[simp] theorem Block.setSfld_sys (b : Block) (f : Field) (n : Nat) (i : Int) : (b.setSfld f n i).sys = b.sys := rfl
@[simp] theorem Block.bump_out (b : Block) (f : Field) (n k : Nat) : (b.bump f n k).out = b.out := rfl
@[simp] theorem Block.bump_free (b : Block) (f : Field) (n k : Nat) : (b.bump f n k).free = b.free := rfl
@[simp] theorem Block.bump_replies (b : Block) (f : Field) (n k : Nat) : (b.bump f n k).replies = b.replies := rfl
@[simp] theorem Block.bump_dev (b : Block) (f : Field) (n k : Nat) : (b.bump f n k).dev = b.dev := rfl
@[simp] theorem Block.bump_time (b : Block) (f : Field) (n k : Nat) : (b.bump f n k).time = b.time := rfl
@[simp] theorem Block.bump_refs (b : Block) (f : Field) (n k : Nat) : (b.bump f n k).refs = b.refs := rfl
@[simp] theorem Block.bump_pll (b : Block) (f : Field) (n k : Nat) : (b.bump f n k).pll = b.pll := rfl
@[simp] theorem Block.bump_oscLost (b : Block) (f : Field) (n k : Nat) : (b.bump f n k).oscLost = b.oscLost := rfl
@[simp] theorem Block.bump_lanes (b : Block) (f : Field) (n k : Nat) : (b.bump f n k).lanes = b.lanes := rfl
@[simp] theorem Block.bump_bring (b : Block) (f : Field) (n k : Nat) : (b.bump f n k).bring = b.bring := rfl
@[simp] theorem Block.bump_sdiRx (b : Block) (f : Field) (n k : Nat) : (b.bump f n k).sdiRx = b.sdiRx := rfl
@[simp] theorem Block.bump_sdiTx (b : Block) (f : Field) (n k : Nat) : (b.bump f n k).sdiTx = b.sdiTx := rfl
@[simp] theorem Block.bump_eth (b : Block) (f : Field) (n k : Nat) : (b.bump f n k).eth = b.eth := rfl
@[simp] theorem Block.bump_flowRx (b : Block) (f : Field) (n k : Nat) : (b.bump f n k).flowRx = b.flowRx := rfl
@[simp] theorem Block.bump_flowTx (b : Block) (f : Field) (n k : Nat) : (b.bump f n k).flowTx = b.flowTx := rfl
@[simp] theorem Block.bump_outFrames (b : Block) (f : Field) (n k : Nat) : (b.bump f n k).outFrames = b.outFrames := rfl
@[simp] theorem Block.bump_stalls (b : Block) (f : Field) (n k : Nat) : (b.bump f n k).stalls = b.stalls := rfl
@[simp] theorem Block.bump_watch (b : Block) (f : Field) (n k : Nat) : (b.bump f n k).watch = b.watch := rfl
@[simp] theorem Block.bump_checks (b : Block) (f : Field) (n k : Nat) : (b.bump f n k).checks = b.checks := rfl
@[simp] theorem Block.bump_carve (b : Block) (f : Field) (n k : Nat) : (b.bump f n k).carve = b.carve := rfl
@[simp] theorem Block.bump_yard (b : Block) (f : Field) (n k : Nat) : (b.bump f n k).yard = b.yard := rfl
@[simp] theorem Block.bump_fabPorts (b : Block) (f : Field) (n k : Nat) : (b.bump f n k).fabPorts = b.fabPorts := rfl
@[simp] theorem Block.bump_adverts (b : Block) (f : Field) (n k : Nat) : (b.bump f n k).adverts = b.adverts := rfl
@[simp] theorem Block.bump_grants (b : Block) (f : Field) (n k : Nat) : (b.bump f n k).grants = b.grants := rfl
@[simp] theorem Block.bump_withheld (b : Block) (f : Field) (n k : Nat) : (b.bump f n k).withheld = b.withheld := rfl
@[simp] theorem Block.bump_subs (b : Block) (f : Field) (n k : Nat) : (b.bump f n k).subs = b.subs := rfl
@[simp] theorem Block.bump_rings (b : Block) (f : Field) (n k : Nat) : (b.bump f n k).rings = b.rings := rfl
@[simp] theorem Block.bump_asks (b : Block) (f : Field) (n k : Nat) : (b.bump f n k).asks = b.asks := rfl
@[simp] theorem Block.bump_stored (b : Block) (f : Field) (n k : Nat) : (b.bump f n k).stored = b.stored := rfl
@[simp] theorem Block.bump_tid (b : Block) (f : Field) (n k : Nat) : (b.bump f n k).tid = b.tid := rfl
@[simp] theorem Block.bump_allow (b : Block) (f : Field) (n k : Nat) : (b.bump f n k).allow = b.allow := rfl
@[simp] theorem Block.bump_mirrors (b : Block) (f : Field) (n k : Nat) : (b.bump f n k).mirrors = b.mirrors := rfl
@[simp] theorem Block.bump_keys (b : Block) (f : Field) (n k : Nat) : (b.bump f n k).keys = b.keys := rfl
@[simp] theorem Block.bump_pins (b : Block) (f : Field) (n k : Nat) : (b.bump f n k).pins = b.pins := rfl
@[simp] theorem Block.bump_cox (b : Block) (f : Field) (n k : Nat) : (b.bump f n k).cox = b.cox := rfl
@[simp] theorem Block.bump_headSt (b : Block) (f : Field) (n k : Nat) : (b.bump f n k).headSt = b.headSt := rfl
@[simp] theorem Block.bump_colour (b : Block) (f : Field) (n k : Nat) : (b.bump f n k).colour = b.colour := rfl
@[simp] theorem Block.bump_guard (b : Block) (f : Field) (n k : Nat) : (b.bump f n k).guard = b.guard := rfl
@[simp] theorem Block.bump_stills (b : Block) (f : Field) (n k : Nat) : (b.bump f n k).stills = b.stills := rfl
@[simp] theorem Block.bump_safetyReset (b : Block) (f : Field) (n k : Nat) : (b.bump f n k).safetyReset = b.safetyReset := rfl
@[simp] theorem Block.bump_aud (b : Block) (f : Field) (n k : Nat) : (b.bump f n k).aud = b.aud := rfl
@[simp] theorem Block.bump_wit (b : Block) (f : Field) (n k : Nat) : (b.bump f n k).wit = b.wit := rfl
@[simp] theorem Block.bump_twin (b : Block) (f : Field) (n k : Nat) : (b.bump f n k).twin = b.twin := rfl
@[simp] theorem Block.bump_released (b : Block) (f : Field) (n k : Nat) : (b.bump f n k).released = b.released := rfl
@[simp] theorem Block.bump_flash (b : Block) (f : Field) (n k : Nat) : (b.bump f n k).flash = b.flash := rfl
@[simp] theorem Block.bump_start (b : Block) (f : Field) (n k : Nat) : (b.bump f n k).start = b.start := rfl
@[simp] theorem Block.bump_pwr (b : Block) (f : Field) (n k : Nat) : (b.bump f n k).pwr = b.pwr := rfl
@[simp] theorem Block.bump_flt (b : Block) (f : Field) (n k : Nat) : (b.bump f n k).flt = b.flt := rfl
@[simp] theorem Block.bump_mbx (b : Block) (f : Field) (n k : Nat) : (b.bump f n k).mbx = b.mbx := rfl
@[simp] theorem Block.bump_mat (b : Block) (f : Field) (n k : Nat) : (b.bump f n k).mat = b.mat := rfl
@[simp] theorem Block.bump_sys (b : Block) (f : Field) (n k : Nat) : (b.bump f n k).sys = b.sys := rfl
@[simp] theorem Block.store_out (b : Block) (f : Field) (n v : Nat) : (b.store f n v).out = b.out := rfl
@[simp] theorem Block.store_free (b : Block) (f : Field) (n v : Nat) : (b.store f n v).free = b.free := rfl
@[simp] theorem Block.store_replies (b : Block) (f : Field) (n v : Nat) : (b.store f n v).replies = b.replies := rfl
@[simp] theorem Block.store_dev (b : Block) (f : Field) (n v : Nat) : (b.store f n v).dev = b.dev := rfl
@[simp] theorem Block.store_time (b : Block) (f : Field) (n v : Nat) : (b.store f n v).time = b.time := rfl
@[simp] theorem Block.store_refs (b : Block) (f : Field) (n v : Nat) : (b.store f n v).refs = b.refs := rfl
@[simp] theorem Block.store_pll (b : Block) (f : Field) (n v : Nat) : (b.store f n v).pll = b.pll := rfl
@[simp] theorem Block.store_oscLost (b : Block) (f : Field) (n v : Nat) : (b.store f n v).oscLost = b.oscLost := rfl
@[simp] theorem Block.store_lanes (b : Block) (f : Field) (n v : Nat) : (b.store f n v).lanes = b.lanes := rfl
@[simp] theorem Block.store_bring (b : Block) (f : Field) (n v : Nat) : (b.store f n v).bring = b.bring := rfl
@[simp] theorem Block.store_sdiRx (b : Block) (f : Field) (n v : Nat) : (b.store f n v).sdiRx = b.sdiRx := rfl
@[simp] theorem Block.store_sdiTx (b : Block) (f : Field) (n v : Nat) : (b.store f n v).sdiTx = b.sdiTx := rfl
@[simp] theorem Block.store_eth (b : Block) (f : Field) (n v : Nat) : (b.store f n v).eth = b.eth := rfl
@[simp] theorem Block.store_flowRx (b : Block) (f : Field) (n v : Nat) : (b.store f n v).flowRx = b.flowRx := rfl
@[simp] theorem Block.store_flowTx (b : Block) (f : Field) (n v : Nat) : (b.store f n v).flowTx = b.flowTx := rfl
@[simp] theorem Block.store_outFrames (b : Block) (f : Field) (n v : Nat) : (b.store f n v).outFrames = b.outFrames := rfl
@[simp] theorem Block.store_stalls (b : Block) (f : Field) (n v : Nat) : (b.store f n v).stalls = b.stalls := rfl
@[simp] theorem Block.store_watch (b : Block) (f : Field) (n v : Nat) : (b.store f n v).watch = b.watch := rfl
@[simp] theorem Block.store_checks (b : Block) (f : Field) (n v : Nat) : (b.store f n v).checks = b.checks := rfl
@[simp] theorem Block.store_carve (b : Block) (f : Field) (n v : Nat) : (b.store f n v).carve = b.carve := rfl
@[simp] theorem Block.store_yard (b : Block) (f : Field) (n v : Nat) : (b.store f n v).yard = b.yard := rfl
@[simp] theorem Block.store_fabPorts (b : Block) (f : Field) (n v : Nat) : (b.store f n v).fabPorts = b.fabPorts := rfl
@[simp] theorem Block.store_adverts (b : Block) (f : Field) (n v : Nat) : (b.store f n v).adverts = b.adverts := rfl
@[simp] theorem Block.store_grants (b : Block) (f : Field) (n v : Nat) : (b.store f n v).grants = b.grants := rfl
@[simp] theorem Block.store_withheld (b : Block) (f : Field) (n v : Nat) : (b.store f n v).withheld = b.withheld := rfl
@[simp] theorem Block.store_subs (b : Block) (f : Field) (n v : Nat) : (b.store f n v).subs = b.subs := rfl
@[simp] theorem Block.store_rings (b : Block) (f : Field) (n v : Nat) : (b.store f n v).rings = b.rings := rfl
@[simp] theorem Block.store_asks (b : Block) (f : Field) (n v : Nat) : (b.store f n v).asks = b.asks := rfl
@[simp] theorem Block.store_stored (b : Block) (f : Field) (n v : Nat) : (b.store f n v).stored = b.stored := rfl
@[simp] theorem Block.store_tid (b : Block) (f : Field) (n v : Nat) : (b.store f n v).tid = b.tid := rfl
@[simp] theorem Block.store_allow (b : Block) (f : Field) (n v : Nat) : (b.store f n v).allow = b.allow := rfl
@[simp] theorem Block.store_mirrors (b : Block) (f : Field) (n v : Nat) : (b.store f n v).mirrors = b.mirrors := rfl
@[simp] theorem Block.store_keys (b : Block) (f : Field) (n v : Nat) : (b.store f n v).keys = b.keys := rfl
@[simp] theorem Block.store_pins (b : Block) (f : Field) (n v : Nat) : (b.store f n v).pins = b.pins := rfl
@[simp] theorem Block.store_cox (b : Block) (f : Field) (n v : Nat) : (b.store f n v).cox = b.cox := rfl
@[simp] theorem Block.store_headSt (b : Block) (f : Field) (n v : Nat) : (b.store f n v).headSt = b.headSt := rfl
@[simp] theorem Block.store_colour (b : Block) (f : Field) (n v : Nat) : (b.store f n v).colour = b.colour := rfl
@[simp] theorem Block.store_guard (b : Block) (f : Field) (n v : Nat) : (b.store f n v).guard = b.guard := rfl
@[simp] theorem Block.store_stills (b : Block) (f : Field) (n v : Nat) : (b.store f n v).stills = b.stills := rfl
@[simp] theorem Block.store_safetyReset (b : Block) (f : Field) (n v : Nat) : (b.store f n v).safetyReset = b.safetyReset := rfl
@[simp] theorem Block.store_aud (b : Block) (f : Field) (n v : Nat) : (b.store f n v).aud = b.aud := rfl
@[simp] theorem Block.store_wit (b : Block) (f : Field) (n v : Nat) : (b.store f n v).wit = b.wit := rfl
@[simp] theorem Block.store_twin (b : Block) (f : Field) (n v : Nat) : (b.store f n v).twin = b.twin := rfl
@[simp] theorem Block.store_released (b : Block) (f : Field) (n v : Nat) : (b.store f n v).released = b.released := rfl
@[simp] theorem Block.store_flash (b : Block) (f : Field) (n v : Nat) : (b.store f n v).flash = b.flash := rfl
@[simp] theorem Block.store_start (b : Block) (f : Field) (n v : Nat) : (b.store f n v).start = b.start := rfl
@[simp] theorem Block.store_pwr (b : Block) (f : Field) (n v : Nat) : (b.store f n v).pwr = b.pwr := rfl
@[simp] theorem Block.store_flt (b : Block) (f : Field) (n v : Nat) : (b.store f n v).flt = b.flt := rfl
@[simp] theorem Block.store_mbx (b : Block) (f : Field) (n v : Nat) : (b.store f n v).mbx = b.mbx := rfl
@[simp] theorem Block.store_mat (b : Block) (f : Field) (n v : Nat) : (b.store f n v).mat = b.mat := rfl
@[simp] theorem Block.store_sys (b : Block) (f : Field) (n v : Nat) : (b.store f n v).sys = b.sys := rfl
@[simp] theorem Block.reject_out (b : Block) (k : Nat) (f : Field) (n : Nat) : (b.reject k f n).out = b.out := rfl
@[simp] theorem Block.reject_free (b : Block) (k : Nat) (f : Field) (n : Nat) : (b.reject k f n).free = b.free := rfl
@[simp] theorem Block.reject_replies (b : Block) (k : Nat) (f : Field) (n : Nat) : (b.reject k f n).replies = b.replies := rfl
@[simp] theorem Block.reject_dev (b : Block) (k : Nat) (f : Field) (n : Nat) : (b.reject k f n).dev = b.dev := rfl
@[simp] theorem Block.reject_time (b : Block) (k : Nat) (f : Field) (n : Nat) : (b.reject k f n).time = b.time := rfl
@[simp] theorem Block.reject_refs (b : Block) (k : Nat) (f : Field) (n : Nat) : (b.reject k f n).refs = b.refs := rfl
@[simp] theorem Block.reject_pll (b : Block) (k : Nat) (f : Field) (n : Nat) : (b.reject k f n).pll = b.pll := rfl
@[simp] theorem Block.reject_oscLost (b : Block) (k : Nat) (f : Field) (n : Nat) : (b.reject k f n).oscLost = b.oscLost := rfl
@[simp] theorem Block.reject_lanes (b : Block) (k : Nat) (f : Field) (n : Nat) : (b.reject k f n).lanes = b.lanes := rfl
@[simp] theorem Block.reject_bring (b : Block) (k : Nat) (f : Field) (n : Nat) : (b.reject k f n).bring = b.bring := rfl
@[simp] theorem Block.reject_sdiRx (b : Block) (k : Nat) (f : Field) (n : Nat) : (b.reject k f n).sdiRx = b.sdiRx := rfl
@[simp] theorem Block.reject_sdiTx (b : Block) (k : Nat) (f : Field) (n : Nat) : (b.reject k f n).sdiTx = b.sdiTx := rfl
@[simp] theorem Block.reject_eth (b : Block) (k : Nat) (f : Field) (n : Nat) : (b.reject k f n).eth = b.eth := rfl
@[simp] theorem Block.reject_flowRx (b : Block) (k : Nat) (f : Field) (n : Nat) : (b.reject k f n).flowRx = b.flowRx := rfl
@[simp] theorem Block.reject_flowTx (b : Block) (k : Nat) (f : Field) (n : Nat) : (b.reject k f n).flowTx = b.flowTx := rfl
@[simp] theorem Block.reject_outFrames (b : Block) (k : Nat) (f : Field) (n : Nat) : (b.reject k f n).outFrames = b.outFrames := rfl
@[simp] theorem Block.reject_stalls (b : Block) (k : Nat) (f : Field) (n : Nat) : (b.reject k f n).stalls = b.stalls := rfl
@[simp] theorem Block.reject_watch (b : Block) (k : Nat) (f : Field) (n : Nat) : (b.reject k f n).watch = b.watch := rfl
@[simp] theorem Block.reject_checks (b : Block) (k : Nat) (f : Field) (n : Nat) : (b.reject k f n).checks = b.checks := rfl
@[simp] theorem Block.reject_carve (b : Block) (k : Nat) (f : Field) (n : Nat) : (b.reject k f n).carve = b.carve := rfl
@[simp] theorem Block.reject_yard (b : Block) (k : Nat) (f : Field) (n : Nat) : (b.reject k f n).yard = b.yard := rfl
@[simp] theorem Block.reject_fabPorts (b : Block) (k : Nat) (f : Field) (n : Nat) : (b.reject k f n).fabPorts = b.fabPorts := rfl
@[simp] theorem Block.reject_adverts (b : Block) (k : Nat) (f : Field) (n : Nat) : (b.reject k f n).adverts = b.adverts := rfl
@[simp] theorem Block.reject_grants (b : Block) (k : Nat) (f : Field) (n : Nat) : (b.reject k f n).grants = b.grants := rfl
@[simp] theorem Block.reject_withheld (b : Block) (k : Nat) (f : Field) (n : Nat) : (b.reject k f n).withheld = b.withheld := rfl
@[simp] theorem Block.reject_subs (b : Block) (k : Nat) (f : Field) (n : Nat) : (b.reject k f n).subs = b.subs := rfl
@[simp] theorem Block.reject_rings (b : Block) (k : Nat) (f : Field) (n : Nat) : (b.reject k f n).rings = b.rings := rfl
@[simp] theorem Block.reject_asks (b : Block) (k : Nat) (f : Field) (n : Nat) : (b.reject k f n).asks = b.asks := rfl
@[simp] theorem Block.reject_stored (b : Block) (k : Nat) (f : Field) (n : Nat) : (b.reject k f n).stored = b.stored := rfl
@[simp] theorem Block.reject_tid (b : Block) (k : Nat) (f : Field) (n : Nat) : (b.reject k f n).tid = b.tid := rfl
@[simp] theorem Block.reject_allow (b : Block) (k : Nat) (f : Field) (n : Nat) : (b.reject k f n).allow = b.allow := rfl
@[simp] theorem Block.reject_mirrors (b : Block) (k : Nat) (f : Field) (n : Nat) : (b.reject k f n).mirrors = b.mirrors := rfl
@[simp] theorem Block.reject_keys (b : Block) (k : Nat) (f : Field) (n : Nat) : (b.reject k f n).keys = b.keys := rfl
@[simp] theorem Block.reject_pins (b : Block) (k : Nat) (f : Field) (n : Nat) : (b.reject k f n).pins = b.pins := rfl
@[simp] theorem Block.reject_cox (b : Block) (k : Nat) (f : Field) (n : Nat) : (b.reject k f n).cox = b.cox := rfl
@[simp] theorem Block.reject_headSt (b : Block) (k : Nat) (f : Field) (n : Nat) : (b.reject k f n).headSt = b.headSt := rfl
@[simp] theorem Block.reject_colour (b : Block) (k : Nat) (f : Field) (n : Nat) : (b.reject k f n).colour = b.colour := rfl
@[simp] theorem Block.reject_guard (b : Block) (k : Nat) (f : Field) (n : Nat) : (b.reject k f n).guard = b.guard := rfl
@[simp] theorem Block.reject_stills (b : Block) (k : Nat) (f : Field) (n : Nat) : (b.reject k f n).stills = b.stills := rfl
@[simp] theorem Block.reject_safetyReset (b : Block) (k : Nat) (f : Field) (n : Nat) : (b.reject k f n).safetyReset = b.safetyReset := rfl
@[simp] theorem Block.reject_aud (b : Block) (k : Nat) (f : Field) (n : Nat) : (b.reject k f n).aud = b.aud := rfl
@[simp] theorem Block.reject_wit (b : Block) (k : Nat) (f : Field) (n : Nat) : (b.reject k f n).wit = b.wit := rfl
@[simp] theorem Block.reject_twin (b : Block) (k : Nat) (f : Field) (n : Nat) : (b.reject k f n).twin = b.twin := rfl
@[simp] theorem Block.reject_released (b : Block) (k : Nat) (f : Field) (n : Nat) : (b.reject k f n).released = b.released := rfl
@[simp] theorem Block.reject_flash (b : Block) (k : Nat) (f : Field) (n : Nat) : (b.reject k f n).flash = b.flash := rfl
@[simp] theorem Block.reject_start (b : Block) (k : Nat) (f : Field) (n : Nat) : (b.reject k f n).start = b.start := rfl
@[simp] theorem Block.reject_pwr (b : Block) (k : Nat) (f : Field) (n : Nat) : (b.reject k f n).pwr = b.pwr := rfl
@[simp] theorem Block.reject_flt (b : Block) (k : Nat) (f : Field) (n : Nat) : (b.reject k f n).flt = b.flt := rfl
@[simp] theorem Block.reject_mbx (b : Block) (k : Nat) (f : Field) (n : Nat) : (b.reject k f n).mbx = b.mbx := rfl
@[simp] theorem Block.reject_mat (b : Block) (k : Nat) (f : Field) (n : Nat) : (b.reject k f n).mat = b.mat := rfl
@[simp] theorem Block.reject_sys (b : Block) (k : Nat) (f : Field) (n : Nat) : (b.reject k f n).sys = b.sys := rfl
@[simp] theorem Block.emit_regs (b : Block) (o : Out) : (b.emit o).regs = b.regs := rfl
@[simp] theorem Block.emit_free (b : Block) (o : Out) : (b.emit o).free = b.free := rfl
@[simp] theorem Block.emit_replies (b : Block) (o : Out) : (b.emit o).replies = b.replies := rfl
@[simp] theorem Block.emit_dev (b : Block) (o : Out) : (b.emit o).dev = b.dev := rfl
@[simp] theorem Block.emit_time (b : Block) (o : Out) : (b.emit o).time = b.time := rfl
@[simp] theorem Block.emit_refs (b : Block) (o : Out) : (b.emit o).refs = b.refs := rfl
@[simp] theorem Block.emit_pll (b : Block) (o : Out) : (b.emit o).pll = b.pll := rfl
@[simp] theorem Block.emit_oscLost (b : Block) (o : Out) : (b.emit o).oscLost = b.oscLost := rfl
@[simp] theorem Block.emit_lanes (b : Block) (o : Out) : (b.emit o).lanes = b.lanes := rfl
@[simp] theorem Block.emit_bring (b : Block) (o : Out) : (b.emit o).bring = b.bring := rfl
@[simp] theorem Block.emit_sdiRx (b : Block) (o : Out) : (b.emit o).sdiRx = b.sdiRx := rfl
@[simp] theorem Block.emit_sdiTx (b : Block) (o : Out) : (b.emit o).sdiTx = b.sdiTx := rfl
@[simp] theorem Block.emit_eth (b : Block) (o : Out) : (b.emit o).eth = b.eth := rfl
@[simp] theorem Block.emit_flowRx (b : Block) (o : Out) : (b.emit o).flowRx = b.flowRx := rfl
@[simp] theorem Block.emit_flowTx (b : Block) (o : Out) : (b.emit o).flowTx = b.flowTx := rfl
@[simp] theorem Block.emit_outFrames (b : Block) (o : Out) : (b.emit o).outFrames = b.outFrames := rfl
@[simp] theorem Block.emit_stalls (b : Block) (o : Out) : (b.emit o).stalls = b.stalls := rfl
@[simp] theorem Block.emit_watch (b : Block) (o : Out) : (b.emit o).watch = b.watch := rfl
@[simp] theorem Block.emit_checks (b : Block) (o : Out) : (b.emit o).checks = b.checks := rfl
@[simp] theorem Block.emit_carve (b : Block) (o : Out) : (b.emit o).carve = b.carve := rfl
@[simp] theorem Block.emit_yard (b : Block) (o : Out) : (b.emit o).yard = b.yard := rfl
@[simp] theorem Block.emit_fabPorts (b : Block) (o : Out) : (b.emit o).fabPorts = b.fabPorts := rfl
@[simp] theorem Block.emit_adverts (b : Block) (o : Out) : (b.emit o).adverts = b.adverts := rfl
@[simp] theorem Block.emit_grants (b : Block) (o : Out) : (b.emit o).grants = b.grants := rfl
@[simp] theorem Block.emit_withheld (b : Block) (o : Out) : (b.emit o).withheld = b.withheld := rfl
@[simp] theorem Block.emit_subs (b : Block) (o : Out) : (b.emit o).subs = b.subs := rfl
@[simp] theorem Block.emit_rings (b : Block) (o : Out) : (b.emit o).rings = b.rings := rfl
@[simp] theorem Block.emit_asks (b : Block) (o : Out) : (b.emit o).asks = b.asks := rfl
@[simp] theorem Block.emit_stored (b : Block) (o : Out) : (b.emit o).stored = b.stored := rfl
@[simp] theorem Block.emit_tid (b : Block) (o : Out) : (b.emit o).tid = b.tid := rfl
@[simp] theorem Block.emit_allow (b : Block) (o : Out) : (b.emit o).allow = b.allow := rfl
@[simp] theorem Block.emit_mirrors (b : Block) (o : Out) : (b.emit o).mirrors = b.mirrors := rfl
@[simp] theorem Block.emit_keys (b : Block) (o : Out) : (b.emit o).keys = b.keys := rfl
@[simp] theorem Block.emit_pins (b : Block) (o : Out) : (b.emit o).pins = b.pins := rfl
@[simp] theorem Block.emit_cox (b : Block) (o : Out) : (b.emit o).cox = b.cox := rfl
@[simp] theorem Block.emit_headSt (b : Block) (o : Out) : (b.emit o).headSt = b.headSt := rfl
@[simp] theorem Block.emit_colour (b : Block) (o : Out) : (b.emit o).colour = b.colour := rfl
@[simp] theorem Block.emit_guard (b : Block) (o : Out) : (b.emit o).guard = b.guard := rfl
@[simp] theorem Block.emit_stills (b : Block) (o : Out) : (b.emit o).stills = b.stills := rfl
@[simp] theorem Block.emit_safetyReset (b : Block) (o : Out) : (b.emit o).safetyReset = b.safetyReset := rfl
@[simp] theorem Block.emit_aud (b : Block) (o : Out) : (b.emit o).aud = b.aud := rfl
@[simp] theorem Block.emit_wit (b : Block) (o : Out) : (b.emit o).wit = b.wit := rfl
@[simp] theorem Block.emit_twin (b : Block) (o : Out) : (b.emit o).twin = b.twin := rfl
@[simp] theorem Block.emit_released (b : Block) (o : Out) : (b.emit o).released = b.released := rfl
@[simp] theorem Block.emit_flash (b : Block) (o : Out) : (b.emit o).flash = b.flash := rfl
@[simp] theorem Block.emit_start (b : Block) (o : Out) : (b.emit o).start = b.start := rfl
@[simp] theorem Block.emit_pwr (b : Block) (o : Out) : (b.emit o).pwr = b.pwr := rfl
@[simp] theorem Block.emit_flt (b : Block) (o : Out) : (b.emit o).flt = b.flt := rfl
@[simp] theorem Block.emit_mbx (b : Block) (o : Out) : (b.emit o).mbx = b.mbx := rfl
@[simp] theorem Block.emit_mat (b : Block) (o : Out) : (b.emit o).mat = b.mat := rfl
@[simp] theorem Block.emit_sys (b : Block) (o : Out) : (b.emit o).sys = b.sys := rfl
@[simp] theorem Block.answer_regs (b : Block) (ch st : Nat) (d : List Byte) : (b.answer ch st d).regs = b.regs := rfl
@[simp] theorem Block.answer_out (b : Block) (ch st : Nat) (d : List Byte) : (b.answer ch st d).out = b.out := rfl
@[simp] theorem Block.answer_free (b : Block) (ch st : Nat) (d : List Byte) : (b.answer ch st d).free = b.free := rfl
@[simp] theorem Block.answer_dev (b : Block) (ch st : Nat) (d : List Byte) : (b.answer ch st d).dev = b.dev := rfl
@[simp] theorem Block.answer_time (b : Block) (ch st : Nat) (d : List Byte) : (b.answer ch st d).time = b.time := rfl
@[simp] theorem Block.answer_refs (b : Block) (ch st : Nat) (d : List Byte) : (b.answer ch st d).refs = b.refs := rfl
@[simp] theorem Block.answer_pll (b : Block) (ch st : Nat) (d : List Byte) : (b.answer ch st d).pll = b.pll := rfl
@[simp] theorem Block.answer_oscLost (b : Block) (ch st : Nat) (d : List Byte) : (b.answer ch st d).oscLost = b.oscLost := rfl
@[simp] theorem Block.answer_lanes (b : Block) (ch st : Nat) (d : List Byte) : (b.answer ch st d).lanes = b.lanes := rfl
@[simp] theorem Block.answer_bring (b : Block) (ch st : Nat) (d : List Byte) : (b.answer ch st d).bring = b.bring := rfl
@[simp] theorem Block.answer_sdiRx (b : Block) (ch st : Nat) (d : List Byte) : (b.answer ch st d).sdiRx = b.sdiRx := rfl
@[simp] theorem Block.answer_sdiTx (b : Block) (ch st : Nat) (d : List Byte) : (b.answer ch st d).sdiTx = b.sdiTx := rfl
@[simp] theorem Block.answer_eth (b : Block) (ch st : Nat) (d : List Byte) : (b.answer ch st d).eth = b.eth := rfl
@[simp] theorem Block.answer_flowRx (b : Block) (ch st : Nat) (d : List Byte) : (b.answer ch st d).flowRx = b.flowRx := rfl
@[simp] theorem Block.answer_flowTx (b : Block) (ch st : Nat) (d : List Byte) : (b.answer ch st d).flowTx = b.flowTx := rfl
@[simp] theorem Block.answer_outFrames (b : Block) (ch st : Nat) (d : List Byte) : (b.answer ch st d).outFrames = b.outFrames := rfl
@[simp] theorem Block.answer_stalls (b : Block) (ch st : Nat) (d : List Byte) : (b.answer ch st d).stalls = b.stalls := rfl
@[simp] theorem Block.answer_watch (b : Block) (ch st : Nat) (d : List Byte) : (b.answer ch st d).watch = b.watch := rfl
@[simp] theorem Block.answer_checks (b : Block) (ch st : Nat) (d : List Byte) : (b.answer ch st d).checks = b.checks := rfl
@[simp] theorem Block.answer_carve (b : Block) (ch st : Nat) (d : List Byte) : (b.answer ch st d).carve = b.carve := rfl
@[simp] theorem Block.answer_yard (b : Block) (ch st : Nat) (d : List Byte) : (b.answer ch st d).yard = b.yard := rfl
@[simp] theorem Block.answer_fabPorts (b : Block) (ch st : Nat) (d : List Byte) : (b.answer ch st d).fabPorts = b.fabPorts := rfl
@[simp] theorem Block.answer_adverts (b : Block) (ch st : Nat) (d : List Byte) : (b.answer ch st d).adverts = b.adverts := rfl
@[simp] theorem Block.answer_grants (b : Block) (ch st : Nat) (d : List Byte) : (b.answer ch st d).grants = b.grants := rfl
@[simp] theorem Block.answer_withheld (b : Block) (ch st : Nat) (d : List Byte) : (b.answer ch st d).withheld = b.withheld := rfl
@[simp] theorem Block.answer_subs (b : Block) (ch st : Nat) (d : List Byte) : (b.answer ch st d).subs = b.subs := rfl
@[simp] theorem Block.answer_rings (b : Block) (ch st : Nat) (d : List Byte) : (b.answer ch st d).rings = b.rings := rfl
@[simp] theorem Block.answer_asks (b : Block) (ch st : Nat) (d : List Byte) : (b.answer ch st d).asks = b.asks := rfl
@[simp] theorem Block.answer_stored (b : Block) (ch st : Nat) (d : List Byte) : (b.answer ch st d).stored = b.stored := rfl
@[simp] theorem Block.answer_tid (b : Block) (ch st : Nat) (d : List Byte) : (b.answer ch st d).tid = b.tid := rfl
@[simp] theorem Block.answer_allow (b : Block) (ch st : Nat) (d : List Byte) : (b.answer ch st d).allow = b.allow := rfl
@[simp] theorem Block.answer_mirrors (b : Block) (ch st : Nat) (d : List Byte) : (b.answer ch st d).mirrors = b.mirrors := rfl
@[simp] theorem Block.answer_keys (b : Block) (ch st : Nat) (d : List Byte) : (b.answer ch st d).keys = b.keys := rfl
@[simp] theorem Block.answer_pins (b : Block) (ch st : Nat) (d : List Byte) : (b.answer ch st d).pins = b.pins := rfl
@[simp] theorem Block.answer_cox (b : Block) (ch st : Nat) (d : List Byte) : (b.answer ch st d).cox = b.cox := rfl
@[simp] theorem Block.answer_headSt (b : Block) (ch st : Nat) (d : List Byte) : (b.answer ch st d).headSt = b.headSt := rfl
@[simp] theorem Block.answer_colour (b : Block) (ch st : Nat) (d : List Byte) : (b.answer ch st d).colour = b.colour := rfl
@[simp] theorem Block.answer_guard (b : Block) (ch st : Nat) (d : List Byte) : (b.answer ch st d).guard = b.guard := rfl
@[simp] theorem Block.answer_stills (b : Block) (ch st : Nat) (d : List Byte) : (b.answer ch st d).stills = b.stills := rfl
@[simp] theorem Block.answer_safetyReset (b : Block) (ch st : Nat) (d : List Byte) : (b.answer ch st d).safetyReset = b.safetyReset := rfl
@[simp] theorem Block.answer_aud (b : Block) (ch st : Nat) (d : List Byte) : (b.answer ch st d).aud = b.aud := rfl
@[simp] theorem Block.answer_wit (b : Block) (ch st : Nat) (d : List Byte) : (b.answer ch st d).wit = b.wit := rfl
@[simp] theorem Block.answer_twin (b : Block) (ch st : Nat) (d : List Byte) : (b.answer ch st d).twin = b.twin := rfl
@[simp] theorem Block.answer_released (b : Block) (ch st : Nat) (d : List Byte) : (b.answer ch st d).released = b.released := rfl
@[simp] theorem Block.answer_flash (b : Block) (ch st : Nat) (d : List Byte) : (b.answer ch st d).flash = b.flash := rfl
@[simp] theorem Block.answer_start (b : Block) (ch st : Nat) (d : List Byte) : (b.answer ch st d).start = b.start := rfl
@[simp] theorem Block.answer_pwr (b : Block) (ch st : Nat) (d : List Byte) : (b.answer ch st d).pwr = b.pwr := rfl
@[simp] theorem Block.answer_flt (b : Block) (ch st : Nat) (d : List Byte) : (b.answer ch st d).flt = b.flt := rfl
@[simp] theorem Block.answer_mbx (b : Block) (ch st : Nat) (d : List Byte) : (b.answer ch st d).mbx = b.mbx := rfl
@[simp] theorem Block.answer_mat (b : Block) (ch st : Nat) (d : List Byte) : (b.answer ch st d).mat = b.mat := rfl
@[simp] theorem Block.answer_sys (b : Block) (ch st : Nat) (d : List Byte) : (b.answer ch st d).sys = b.sys := rfl
@[simp] theorem Block.ok_regs (b : Block) (ch : Nat) (d : List Byte) : (b.ok ch d).regs = b.regs := rfl
@[simp] theorem Block.ok_out (b : Block) (ch : Nat) (d : List Byte) : (b.ok ch d).out = b.out := rfl
@[simp] theorem Block.ok_free (b : Block) (ch : Nat) (d : List Byte) : (b.ok ch d).free = b.free := rfl
@[simp] theorem Block.ok_dev (b : Block) (ch : Nat) (d : List Byte) : (b.ok ch d).dev = b.dev := rfl
@[simp] theorem Block.ok_time (b : Block) (ch : Nat) (d : List Byte) : (b.ok ch d).time = b.time := rfl
@[simp] theorem Block.ok_refs (b : Block) (ch : Nat) (d : List Byte) : (b.ok ch d).refs = b.refs := rfl
@[simp] theorem Block.ok_pll (b : Block) (ch : Nat) (d : List Byte) : (b.ok ch d).pll = b.pll := rfl
@[simp] theorem Block.ok_oscLost (b : Block) (ch : Nat) (d : List Byte) : (b.ok ch d).oscLost = b.oscLost := rfl
@[simp] theorem Block.ok_lanes (b : Block) (ch : Nat) (d : List Byte) : (b.ok ch d).lanes = b.lanes := rfl
@[simp] theorem Block.ok_bring (b : Block) (ch : Nat) (d : List Byte) : (b.ok ch d).bring = b.bring := rfl
@[simp] theorem Block.ok_sdiRx (b : Block) (ch : Nat) (d : List Byte) : (b.ok ch d).sdiRx = b.sdiRx := rfl
@[simp] theorem Block.ok_sdiTx (b : Block) (ch : Nat) (d : List Byte) : (b.ok ch d).sdiTx = b.sdiTx := rfl
@[simp] theorem Block.ok_eth (b : Block) (ch : Nat) (d : List Byte) : (b.ok ch d).eth = b.eth := rfl
@[simp] theorem Block.ok_flowRx (b : Block) (ch : Nat) (d : List Byte) : (b.ok ch d).flowRx = b.flowRx := rfl
@[simp] theorem Block.ok_flowTx (b : Block) (ch : Nat) (d : List Byte) : (b.ok ch d).flowTx = b.flowTx := rfl
@[simp] theorem Block.ok_outFrames (b : Block) (ch : Nat) (d : List Byte) : (b.ok ch d).outFrames = b.outFrames := rfl
@[simp] theorem Block.ok_stalls (b : Block) (ch : Nat) (d : List Byte) : (b.ok ch d).stalls = b.stalls := rfl
@[simp] theorem Block.ok_watch (b : Block) (ch : Nat) (d : List Byte) : (b.ok ch d).watch = b.watch := rfl
@[simp] theorem Block.ok_checks (b : Block) (ch : Nat) (d : List Byte) : (b.ok ch d).checks = b.checks := rfl
@[simp] theorem Block.ok_carve (b : Block) (ch : Nat) (d : List Byte) : (b.ok ch d).carve = b.carve := rfl
@[simp] theorem Block.ok_yard (b : Block) (ch : Nat) (d : List Byte) : (b.ok ch d).yard = b.yard := rfl
@[simp] theorem Block.ok_fabPorts (b : Block) (ch : Nat) (d : List Byte) : (b.ok ch d).fabPorts = b.fabPorts := rfl
@[simp] theorem Block.ok_adverts (b : Block) (ch : Nat) (d : List Byte) : (b.ok ch d).adverts = b.adverts := rfl
@[simp] theorem Block.ok_grants (b : Block) (ch : Nat) (d : List Byte) : (b.ok ch d).grants = b.grants := rfl
@[simp] theorem Block.ok_withheld (b : Block) (ch : Nat) (d : List Byte) : (b.ok ch d).withheld = b.withheld := rfl
@[simp] theorem Block.ok_subs (b : Block) (ch : Nat) (d : List Byte) : (b.ok ch d).subs = b.subs := rfl
@[simp] theorem Block.ok_rings (b : Block) (ch : Nat) (d : List Byte) : (b.ok ch d).rings = b.rings := rfl
@[simp] theorem Block.ok_asks (b : Block) (ch : Nat) (d : List Byte) : (b.ok ch d).asks = b.asks := rfl
@[simp] theorem Block.ok_stored (b : Block) (ch : Nat) (d : List Byte) : (b.ok ch d).stored = b.stored := rfl
@[simp] theorem Block.ok_tid (b : Block) (ch : Nat) (d : List Byte) : (b.ok ch d).tid = b.tid := rfl
@[simp] theorem Block.ok_allow (b : Block) (ch : Nat) (d : List Byte) : (b.ok ch d).allow = b.allow := rfl
@[simp] theorem Block.ok_mirrors (b : Block) (ch : Nat) (d : List Byte) : (b.ok ch d).mirrors = b.mirrors := rfl
@[simp] theorem Block.ok_keys (b : Block) (ch : Nat) (d : List Byte) : (b.ok ch d).keys = b.keys := rfl
@[simp] theorem Block.ok_pins (b : Block) (ch : Nat) (d : List Byte) : (b.ok ch d).pins = b.pins := rfl
@[simp] theorem Block.ok_cox (b : Block) (ch : Nat) (d : List Byte) : (b.ok ch d).cox = b.cox := rfl
@[simp] theorem Block.ok_headSt (b : Block) (ch : Nat) (d : List Byte) : (b.ok ch d).headSt = b.headSt := rfl
@[simp] theorem Block.ok_colour (b : Block) (ch : Nat) (d : List Byte) : (b.ok ch d).colour = b.colour := rfl
@[simp] theorem Block.ok_guard (b : Block) (ch : Nat) (d : List Byte) : (b.ok ch d).guard = b.guard := rfl
@[simp] theorem Block.ok_stills (b : Block) (ch : Nat) (d : List Byte) : (b.ok ch d).stills = b.stills := rfl
@[simp] theorem Block.ok_safetyReset (b : Block) (ch : Nat) (d : List Byte) : (b.ok ch d).safetyReset = b.safetyReset := rfl
@[simp] theorem Block.ok_aud (b : Block) (ch : Nat) (d : List Byte) : (b.ok ch d).aud = b.aud := rfl
@[simp] theorem Block.ok_wit (b : Block) (ch : Nat) (d : List Byte) : (b.ok ch d).wit = b.wit := rfl
@[simp] theorem Block.ok_twin (b : Block) (ch : Nat) (d : List Byte) : (b.ok ch d).twin = b.twin := rfl
@[simp] theorem Block.ok_released (b : Block) (ch : Nat) (d : List Byte) : (b.ok ch d).released = b.released := rfl
@[simp] theorem Block.ok_flash (b : Block) (ch : Nat) (d : List Byte) : (b.ok ch d).flash = b.flash := rfl
@[simp] theorem Block.ok_start (b : Block) (ch : Nat) (d : List Byte) : (b.ok ch d).start = b.start := rfl
@[simp] theorem Block.ok_pwr (b : Block) (ch : Nat) (d : List Byte) : (b.ok ch d).pwr = b.pwr := rfl
@[simp] theorem Block.ok_flt (b : Block) (ch : Nat) (d : List Byte) : (b.ok ch d).flt = b.flt := rfl
@[simp] theorem Block.ok_mbx (b : Block) (ch : Nat) (d : List Byte) : (b.ok ch d).mbx = b.mbx := rfl
@[simp] theorem Block.ok_mat (b : Block) (ch : Nat) (d : List Byte) : (b.ok ch d).mat = b.mat := rfl
@[simp] theorem Block.ok_sys (b : Block) (ch : Nat) (d : List Byte) : (b.ok ch d).sys = b.sys := rfl
@[simp] theorem Block.no_regs (b : Block) (ch st : Nat) : (b.no ch st).regs = b.regs := rfl
@[simp] theorem Block.no_out (b : Block) (ch st : Nat) : (b.no ch st).out = b.out := rfl
@[simp] theorem Block.no_free (b : Block) (ch st : Nat) : (b.no ch st).free = b.free := rfl
@[simp] theorem Block.no_dev (b : Block) (ch st : Nat) : (b.no ch st).dev = b.dev := rfl
@[simp] theorem Block.no_time (b : Block) (ch st : Nat) : (b.no ch st).time = b.time := rfl
@[simp] theorem Block.no_refs (b : Block) (ch st : Nat) : (b.no ch st).refs = b.refs := rfl
@[simp] theorem Block.no_pll (b : Block) (ch st : Nat) : (b.no ch st).pll = b.pll := rfl
@[simp] theorem Block.no_oscLost (b : Block) (ch st : Nat) : (b.no ch st).oscLost = b.oscLost := rfl
@[simp] theorem Block.no_lanes (b : Block) (ch st : Nat) : (b.no ch st).lanes = b.lanes := rfl
@[simp] theorem Block.no_bring (b : Block) (ch st : Nat) : (b.no ch st).bring = b.bring := rfl
@[simp] theorem Block.no_sdiRx (b : Block) (ch st : Nat) : (b.no ch st).sdiRx = b.sdiRx := rfl
@[simp] theorem Block.no_sdiTx (b : Block) (ch st : Nat) : (b.no ch st).sdiTx = b.sdiTx := rfl
@[simp] theorem Block.no_eth (b : Block) (ch st : Nat) : (b.no ch st).eth = b.eth := rfl
@[simp] theorem Block.no_flowRx (b : Block) (ch st : Nat) : (b.no ch st).flowRx = b.flowRx := rfl
@[simp] theorem Block.no_flowTx (b : Block) (ch st : Nat) : (b.no ch st).flowTx = b.flowTx := rfl
@[simp] theorem Block.no_outFrames (b : Block) (ch st : Nat) : (b.no ch st).outFrames = b.outFrames := rfl
@[simp] theorem Block.no_stalls (b : Block) (ch st : Nat) : (b.no ch st).stalls = b.stalls := rfl
@[simp] theorem Block.no_watch (b : Block) (ch st : Nat) : (b.no ch st).watch = b.watch := rfl
@[simp] theorem Block.no_checks (b : Block) (ch st : Nat) : (b.no ch st).checks = b.checks := rfl
@[simp] theorem Block.no_carve (b : Block) (ch st : Nat) : (b.no ch st).carve = b.carve := rfl
@[simp] theorem Block.no_yard (b : Block) (ch st : Nat) : (b.no ch st).yard = b.yard := rfl
@[simp] theorem Block.no_fabPorts (b : Block) (ch st : Nat) : (b.no ch st).fabPorts = b.fabPorts := rfl
@[simp] theorem Block.no_adverts (b : Block) (ch st : Nat) : (b.no ch st).adverts = b.adverts := rfl
@[simp] theorem Block.no_grants (b : Block) (ch st : Nat) : (b.no ch st).grants = b.grants := rfl
@[simp] theorem Block.no_withheld (b : Block) (ch st : Nat) : (b.no ch st).withheld = b.withheld := rfl
@[simp] theorem Block.no_subs (b : Block) (ch st : Nat) : (b.no ch st).subs = b.subs := rfl
@[simp] theorem Block.no_rings (b : Block) (ch st : Nat) : (b.no ch st).rings = b.rings := rfl
@[simp] theorem Block.no_asks (b : Block) (ch st : Nat) : (b.no ch st).asks = b.asks := rfl
@[simp] theorem Block.no_stored (b : Block) (ch st : Nat) : (b.no ch st).stored = b.stored := rfl
@[simp] theorem Block.no_tid (b : Block) (ch st : Nat) : (b.no ch st).tid = b.tid := rfl
@[simp] theorem Block.no_allow (b : Block) (ch st : Nat) : (b.no ch st).allow = b.allow := rfl
@[simp] theorem Block.no_mirrors (b : Block) (ch st : Nat) : (b.no ch st).mirrors = b.mirrors := rfl
@[simp] theorem Block.no_keys (b : Block) (ch st : Nat) : (b.no ch st).keys = b.keys := rfl
@[simp] theorem Block.no_pins (b : Block) (ch st : Nat) : (b.no ch st).pins = b.pins := rfl
@[simp] theorem Block.no_cox (b : Block) (ch st : Nat) : (b.no ch st).cox = b.cox := rfl
@[simp] theorem Block.no_headSt (b : Block) (ch st : Nat) : (b.no ch st).headSt = b.headSt := rfl
@[simp] theorem Block.no_colour (b : Block) (ch st : Nat) : (b.no ch st).colour = b.colour := rfl
@[simp] theorem Block.no_guard (b : Block) (ch st : Nat) : (b.no ch st).guard = b.guard := rfl
@[simp] theorem Block.no_stills (b : Block) (ch st : Nat) : (b.no ch st).stills = b.stills := rfl
@[simp] theorem Block.no_safetyReset (b : Block) (ch st : Nat) : (b.no ch st).safetyReset = b.safetyReset := rfl
@[simp] theorem Block.no_aud (b : Block) (ch st : Nat) : (b.no ch st).aud = b.aud := rfl
@[simp] theorem Block.no_wit (b : Block) (ch st : Nat) : (b.no ch st).wit = b.wit := rfl
@[simp] theorem Block.no_twin (b : Block) (ch st : Nat) : (b.no ch st).twin = b.twin := rfl
@[simp] theorem Block.no_released (b : Block) (ch st : Nat) : (b.no ch st).released = b.released := rfl
@[simp] theorem Block.no_flash (b : Block) (ch st : Nat) : (b.no ch st).flash = b.flash := rfl
@[simp] theorem Block.no_start (b : Block) (ch st : Nat) : (b.no ch st).start = b.start := rfl
@[simp] theorem Block.no_pwr (b : Block) (ch st : Nat) : (b.no ch st).pwr = b.pwr := rfl
@[simp] theorem Block.no_flt (b : Block) (ch st : Nat) : (b.no ch st).flt = b.flt := rfl
@[simp] theorem Block.no_mbx (b : Block) (ch st : Nat) : (b.no ch st).mbx = b.mbx := rfl
@[simp] theorem Block.no_mat (b : Block) (ch st : Nat) : (b.no ch st).mat = b.mat := rfl
@[simp] theorem Block.no_sys (b : Block) (ch st : Nat) : (b.no ch st).sys = b.sys := rfl

/-! ### Fields read the registers only -/

/-- Devices whose registers agree read the same fields. -/
theorem Block.fld_congr {b b' : Block} (h : b'.regs = b.regs) (f : Field) (n : Nat) : b'.fld f n = b.fld f n := by
  unfold Block.fld
  rw [h]

@[simp] theorem Block.fld_withOut (b : Block) (o : List Out) (f : Field) (n : Nat) : ({ b with out := o } : Block).fld f n = b.fld f n := rfl
@[simp] theorem Block.emit_fld (b : Block) (o : Out) (f : Field) (n : Nat) : (b.emit o).fld f n = b.fld f n := rfl
@[simp] theorem Block.answer_fld (b : Block) (ch st : Nat) (d : List Byte) (f : Field) (n : Nat) : (b.answer ch st d).fld f n = b.fld f n := rfl
@[simp] theorem Block.ok_fld (b : Block) (ch : Nat) (d : List Byte) (f : Field) (n : Nat) : (b.ok ch d).fld f n = b.fld f n := rfl
@[simp] theorem Block.no_fld (b : Block) (ch st : Nat) (f : Field) (n : Nat) : (b.no ch st).fld f n = b.fld f n := rfl

@[simp] theorem Block.emit_out (b : Block) (o : Out) : (b.emit o).out = b.out ++ [o] := rfl
@[simp] theorem Block.answer_replies (b : Block) (ch st : Nat) (d : List Byte) : (b.answer ch st d).replies = b.replies.put ch (some ⟨st, d⟩) := rfl
@[simp] theorem Block.ok_replies (b : Block) (ch : Nat) (d : List Byte) : (b.ok ch d).replies = b.replies.put ch (some ⟨St.OK, d⟩) := rfl
@[simp] theorem Block.no_replies (b : Block) (ch st : Nat) : (b.no ch st).replies = b.replies.put ch (some ⟨st, []⟩) := rfl

/-! ### A field after a write -/

@[simp] theorem Block.fld_setFld_same (b : Block) (f : Field) (n v : Nat) : (b.setFld f n v).fld f n = v % 2 ^ f.width := by
  unfold Block.fld Block.setFld
  rw [Bank.look_put_same]
  split
  · rename_i h
    exact h.symm
  · rfl

/-- A write of one field leaves every field of another key. -/
theorem Block.fld_setFld_ne (b : Block) {f g : Field} {n m : Nat} (v : Nat) (h : f.key n ≠ g.key m) : (b.setFld g m v).fld f n = b.fld f n := by
  unfold Block.fld Block.setFld
  rw [Bank.look_put_ne _ _ h]

/-- A write of one field leaves the register table at every other key. -/
theorem Block.look_setFld_ne (b : Block) {g : Field} {k m : Nat} (v : Nat) (h : k ≠ g.key m) : (b.setFld g m v).regs.look k = b.regs.look k := by
  unfold Block.setFld
  rw [Bank.look_put_ne _ _ h]

/-- A write of a field keeps the register table canonical. -/
theorem Block.setFld_wf (b : Block) (f : Field) (n v : Nat) (h : b.regs.wf = true) : (b.setFld f n v).regs.wf = true := Bank.put_wf _ _ _ h

@[simp] theorem Block.answer_look (b : Block) (ch st : Nat) (d : List Byte) : (b.answer ch st d).replies.look ch = some ⟨st, d⟩ := by
  unfold Block.answer
  rw [Bank.look_put_same]

theorem Block.answer_look_ne (b : Block) {ch c : Nat} (st : Nat) (d : List Byte) (h : c ≠ ch) : (b.answer ch st d).replies.look c = b.replies.look c := by
  unfold Block.answer
  rw [Bank.look_put_ne _ _ h]

end Sys2Proof.Machine
end

