-- ==== Sys2Proof/Laws/Run.lean ====
section
/-!
SUPPORT. What every command does around its own effect, and what a step does (R581, R721).
-/
namespace Sys2Proof.Machine

@[simp] theorem Block.effect_regs (b : Block) (f : Block → Block) : (b.effect f).regs = (f b.quiet).regs := rfl
@[simp] theorem Block.effect_free (b : Block) (f : Block → Block) : (b.effect f).free = (f b.quiet).free := rfl
@[simp] theorem Block.effect_replies (b : Block) (f : Block → Block) : (b.effect f).replies = (f b.quiet).replies := rfl
@[simp] theorem Block.effect_dev (b : Block) (f : Block → Block) : (b.effect f).dev = (f b.quiet).dev := rfl
@[simp] theorem Block.effect_time (b : Block) (f : Block → Block) : (b.effect f).time = (f b.quiet).time := rfl
@[simp] theorem Block.effect_refs (b : Block) (f : Block → Block) : (b.effect f).refs = (f b.quiet).refs := rfl
@[simp] theorem Block.effect_pll (b : Block) (f : Block → Block) : (b.effect f).pll = (f b.quiet).pll := rfl
@[simp] theorem Block.effect_oscLost (b : Block) (f : Block → Block) : (b.effect f).oscLost = (f b.quiet).oscLost := rfl
@[simp] theorem Block.effect_lanes (b : Block) (f : Block → Block) : (b.effect f).lanes = (f b.quiet).lanes := rfl
@[simp] theorem Block.effect_bring (b : Block) (f : Block → Block) : (b.effect f).bring = (f b.quiet).bring := rfl
@[simp] theorem Block.effect_sdiRx (b : Block) (f : Block → Block) : (b.effect f).sdiRx = (f b.quiet).sdiRx := rfl
@[simp] theorem Block.effect_sdiTx (b : Block) (f : Block → Block) : (b.effect f).sdiTx = (f b.quiet).sdiTx := rfl
@[simp] theorem Block.effect_eth (b : Block) (f : Block → Block) : (b.effect f).eth = (f b.quiet).eth := rfl
@[simp] theorem Block.effect_flowRx (b : Block) (f : Block → Block) : (b.effect f).flowRx = (f b.quiet).flowRx := rfl
@[simp] theorem Block.effect_flowTx (b : Block) (f : Block → Block) : (b.effect f).flowTx = (f b.quiet).flowTx := rfl
@[simp] theorem Block.effect_outFrames (b : Block) (f : Block → Block) : (b.effect f).outFrames = (f b.quiet).outFrames := rfl
@[simp] theorem Block.effect_stalls (b : Block) (f : Block → Block) : (b.effect f).stalls = (f b.quiet).stalls := rfl
@[simp] theorem Block.effect_watch (b : Block) (f : Block → Block) : (b.effect f).watch = (f b.quiet).watch := rfl
@[simp] theorem Block.effect_checks (b : Block) (f : Block → Block) : (b.effect f).checks = (f b.quiet).checks := rfl
@[simp] theorem Block.effect_carve (b : Block) (f : Block → Block) : (b.effect f).carve = (f b.quiet).carve := rfl
@[simp] theorem Block.effect_yard (b : Block) (f : Block → Block) : (b.effect f).yard = (f b.quiet).yard := rfl
@[simp] theorem Block.effect_fabPorts (b : Block) (f : Block → Block) : (b.effect f).fabPorts = (f b.quiet).fabPorts := rfl
@[simp] theorem Block.effect_adverts (b : Block) (f : Block → Block) : (b.effect f).adverts = (f b.quiet).adverts := rfl
@[simp] theorem Block.effect_grants (b : Block) (f : Block → Block) : (b.effect f).grants = (f b.quiet).grants := rfl
@[simp] theorem Block.effect_withheld (b : Block) (f : Block → Block) : (b.effect f).withheld = (f b.quiet).withheld := rfl
@[simp] theorem Block.effect_subs (b : Block) (f : Block → Block) : (b.effect f).subs = (f b.quiet).subs := rfl
@[simp] theorem Block.effect_rings (b : Block) (f : Block → Block) : (b.effect f).rings = (f b.quiet).rings := rfl
@[simp] theorem Block.effect_asks (b : Block) (f : Block → Block) : (b.effect f).asks = (f b.quiet).asks := rfl
@[simp] theorem Block.effect_stored (b : Block) (f : Block → Block) : (b.effect f).stored = (f b.quiet).stored := rfl
@[simp] theorem Block.effect_tid (b : Block) (f : Block → Block) : (b.effect f).tid = (f b.quiet).tid := rfl
@[simp] theorem Block.effect_allow (b : Block) (f : Block → Block) : (b.effect f).allow = (f b.quiet).allow := rfl
@[simp] theorem Block.effect_mirrors (b : Block) (f : Block → Block) : (b.effect f).mirrors = (f b.quiet).mirrors := rfl
@[simp] theorem Block.effect_keys (b : Block) (f : Block → Block) : (b.effect f).keys = (f b.quiet).keys := rfl
@[simp] theorem Block.effect_pins (b : Block) (f : Block → Block) : (b.effect f).pins = (f b.quiet).pins := rfl
@[simp] theorem Block.effect_cox (b : Block) (f : Block → Block) : (b.effect f).cox = (f b.quiet).cox := rfl
@[simp] theorem Block.effect_headSt (b : Block) (f : Block → Block) : (b.effect f).headSt = (f b.quiet).headSt := rfl
@[simp] theorem Block.effect_colour (b : Block) (f : Block → Block) : (b.effect f).colour = (f b.quiet).colour := rfl
@[simp] theorem Block.effect_guard (b : Block) (f : Block → Block) : (b.effect f).guard = (f b.quiet).guard := rfl
@[simp] theorem Block.effect_stills (b : Block) (f : Block → Block) : (b.effect f).stills = (f b.quiet).stills := rfl
@[simp] theorem Block.effect_safetyReset (b : Block) (f : Block → Block) : (b.effect f).safetyReset = (f b.quiet).safetyReset := rfl
@[simp] theorem Block.effect_aud (b : Block) (f : Block → Block) : (b.effect f).aud = (f b.quiet).aud := rfl
@[simp] theorem Block.effect_wit (b : Block) (f : Block → Block) : (b.effect f).wit = (f b.quiet).wit := rfl
@[simp] theorem Block.effect_twin (b : Block) (f : Block → Block) : (b.effect f).twin = (f b.quiet).twin := rfl
@[simp] theorem Block.effect_released (b : Block) (f : Block → Block) : (b.effect f).released = (f b.quiet).released := rfl
@[simp] theorem Block.effect_flash (b : Block) (f : Block → Block) : (b.effect f).flash = (f b.quiet).flash := rfl
@[simp] theorem Block.effect_start (b : Block) (f : Block → Block) : (b.effect f).start = (f b.quiet).start := rfl
@[simp] theorem Block.effect_pwr (b : Block) (f : Block → Block) : (b.effect f).pwr = (f b.quiet).pwr := rfl
@[simp] theorem Block.effect_flt (b : Block) (f : Block → Block) : (b.effect f).flt = (f b.quiet).flt := rfl
@[simp] theorem Block.effect_mbx (b : Block) (f : Block → Block) : (b.effect f).mbx = (f b.quiet).mbx := rfl
@[simp] theorem Block.effect_mat (b : Block) (f : Block → Block) : (b.effect f).mat = (f b.quiet).mat := rfl
@[simp] theorem Block.effect_sys (b : Block) (f : Block → Block) : (b.effect f).sys = (f b.quiet).sys := rfl
@[simp] theorem Block.quiet_regs (b : Block) : b.quiet.regs = b.regs := rfl
@[simp] theorem Block.quiet_free (b : Block) : b.quiet.free = b.free := rfl
@[simp] theorem Block.quiet_replies (b : Block) : b.quiet.replies = b.replies := rfl
@[simp] theorem Block.quiet_dev (b : Block) : b.quiet.dev = b.dev := rfl
@[simp] theorem Block.quiet_time (b : Block) : b.quiet.time = b.time := rfl
@[simp] theorem Block.quiet_refs (b : Block) : b.quiet.refs = b.refs := rfl
@[simp] theorem Block.quiet_pll (b : Block) : b.quiet.pll = b.pll := rfl
@[simp] theorem Block.quiet_oscLost (b : Block) : b.quiet.oscLost = b.oscLost := rfl
@[simp] theorem Block.quiet_lanes (b : Block) : b.quiet.lanes = b.lanes := rfl
@[simp] theorem Block.quiet_bring (b : Block) : b.quiet.bring = b.bring := rfl
@[simp] theorem Block.quiet_sdiRx (b : Block) : b.quiet.sdiRx = b.sdiRx := rfl
@[simp] theorem Block.quiet_sdiTx (b : Block) : b.quiet.sdiTx = b.sdiTx := rfl
@[simp] theorem Block.quiet_eth (b : Block) : b.quiet.eth = b.eth := rfl
@[simp] theorem Block.quiet_flowRx (b : Block) : b.quiet.flowRx = b.flowRx := rfl
@[simp] theorem Block.quiet_flowTx (b : Block) : b.quiet.flowTx = b.flowTx := rfl
@[simp] theorem Block.quiet_outFrames (b : Block) : b.quiet.outFrames = b.outFrames := rfl
@[simp] theorem Block.quiet_stalls (b : Block) : b.quiet.stalls = b.stalls := rfl
@[simp] theorem Block.quiet_watch (b : Block) : b.quiet.watch = b.watch := rfl
@[simp] theorem Block.quiet_checks (b : Block) : b.quiet.checks = b.checks := rfl
@[simp] theorem Block.quiet_carve (b : Block) : b.quiet.carve = b.carve := rfl
@[simp] theorem Block.quiet_yard (b : Block) : b.quiet.yard = b.yard := rfl
@[simp] theorem Block.quiet_fabPorts (b : Block) : b.quiet.fabPorts = b.fabPorts := rfl
@[simp] theorem Block.quiet_adverts (b : Block) : b.quiet.adverts = b.adverts := rfl
@[simp] theorem Block.quiet_grants (b : Block) : b.quiet.grants = b.grants := rfl
@[simp] theorem Block.quiet_withheld (b : Block) : b.quiet.withheld = b.withheld := rfl
@[simp] theorem Block.quiet_subs (b : Block) : b.quiet.subs = b.subs := rfl
@[simp] theorem Block.quiet_rings (b : Block) : b.quiet.rings = b.rings := rfl
@[simp] theorem Block.quiet_asks (b : Block) : b.quiet.asks = b.asks := rfl
@[simp] theorem Block.quiet_stored (b : Block) : b.quiet.stored = b.stored := rfl
@[simp] theorem Block.quiet_tid (b : Block) : b.quiet.tid = b.tid := rfl
@[simp] theorem Block.quiet_allow (b : Block) : b.quiet.allow = b.allow := rfl
@[simp] theorem Block.quiet_mirrors (b : Block) : b.quiet.mirrors = b.mirrors := rfl
@[simp] theorem Block.quiet_keys (b : Block) : b.quiet.keys = b.keys := rfl
@[simp] theorem Block.quiet_pins (b : Block) : b.quiet.pins = b.pins := rfl
@[simp] theorem Block.quiet_cox (b : Block) : b.quiet.cox = b.cox := rfl
@[simp] theorem Block.quiet_headSt (b : Block) : b.quiet.headSt = b.headSt := rfl
@[simp] theorem Block.quiet_colour (b : Block) : b.quiet.colour = b.colour := rfl
@[simp] theorem Block.quiet_guard (b : Block) : b.quiet.guard = b.guard := rfl
@[simp] theorem Block.quiet_stills (b : Block) : b.quiet.stills = b.stills := rfl
@[simp] theorem Block.quiet_safetyReset (b : Block) : b.quiet.safetyReset = b.safetyReset := rfl
@[simp] theorem Block.quiet_aud (b : Block) : b.quiet.aud = b.aud := rfl
@[simp] theorem Block.quiet_wit (b : Block) : b.quiet.wit = b.wit := rfl
@[simp] theorem Block.quiet_twin (b : Block) : b.quiet.twin = b.twin := rfl
@[simp] theorem Block.quiet_released (b : Block) : b.quiet.released = b.released := rfl
@[simp] theorem Block.quiet_flash (b : Block) : b.quiet.flash = b.flash := rfl
@[simp] theorem Block.quiet_start (b : Block) : b.quiet.start = b.start := rfl
@[simp] theorem Block.quiet_pwr (b : Block) : b.quiet.pwr = b.pwr := rfl
@[simp] theorem Block.quiet_flt (b : Block) : b.quiet.flt = b.flt := rfl
@[simp] theorem Block.quiet_mbx (b : Block) : b.quiet.mbx = b.mbx := rfl
@[simp] theorem Block.quiet_mat (b : Block) : b.quiet.mat = b.mat := rfl
@[simp] theorem Block.quiet_sys (b : Block) : b.quiet.sys = b.sys := rfl

@[simp] theorem Block.quiet_out (b : Block) : b.quiet.out = [] := rfl
@[simp] theorem Block.quiet_fld (b : Block) (f : Field) (n : Nat) : b.quiet.fld f n = b.fld f n := rfl

@[simp] theorem Block.effect_fld (b : Block) (f : Block → Block) (g : Field) (n : Nat) : (b.effect f).fld g n = (f b.quiet).fld g n := rfl

@[simp] theorem Block.effect_out (b : Block) (f : Block → Block) :
    (b.effect f).out = (f b.quiet).out ++ (vectorsRisen b (f b.quiet)).map Out.msix := rfl

/-- A device that is not held takes a command with its effect. -/
theorem run_live (f : Block → Block) {s : State} (h : s.held = false) : run f s = .next { s with toBlock := s.toBlock.effect f } := by
  simp [run, runAlways, h]

/-- A device held in reset does nothing. -/
theorem run_held (f : Block → Block) {s : State} (h : s.held = true) : run f s = .next { s with toBlock := s.toBlock.quiet } := by
  simp [run, h]

/-- Every command ends in a next state. -/
theorem run_next (f : Block → Block) (s : State) : ∃ t, run f s = .next t ∧ t.pending = s.pending := by
  unfold run runAlways
  split
  · exact ⟨_, rfl, rfl⟩
  · exact ⟨_, rfl, rfl⟩

theorem step_cons {s : State} {c : Instr} {rest : List Instr} (h : s.pending = c :: rest) : step s = exec c { s with pending := rest } := by
  unfold step
  rw [h]

theorem step_nil {s : State} (h : s.pending = []) : step s = .next s := by
  unfold step
  rw [h]

end Sys2Proof.Machine
end

