-- ==== Sys2Proof/Laws/Reach.lean ====
section
/-!
SUPPORT. An access that reaches its register is the effect on it, and one that does not is none (R5, R570).
-/
namespace Sys2Proof.Machine

@[simp] theorem Block.quiet_regHas (b : Block) (a : Nat) : b.quiet.regHas a = b.regHas a := rfl
@[simp] theorem Block.quiet_regOff (b : Block) (a : Nat) : b.quiet.regOff a = b.regOff a := rfl

/-- An access that reaches its register has its effect. -/
theorem onReg_reaches {s : State} {r : Reg} {n : Nat} (h : s.reaches r n) (read : Bool) (f : Block → Block) :
    onReg r n read f s.toBlock.quiet = f s.toBlock.quiet := by
  simp [onReg, h.1, h.2]

/-- An access to the register of an absent unit does nothing. -/
theorem onReg_absent {b : Block} {r : Reg} {n : Nat} (h : b.regHas (r.addr n) = false) (f : Block → Block) : onReg r n false f b = b := by
  simp [onReg, h, Block.ite]

end Sys2Proof.Machine
end

