-- ==== Sys2Proof/Laws/Updates.lean ====
section
/-!
SUPPORT. What the update of one part of the device leaves alone: every other part, and every register field.
-/
namespace Sys2Proof.Machine

@[simp] theorem Block.updAud_regs (b : Block) (f : AudSt → AudSt) : (b.updAud f).regs = b.regs := rfl
@[simp] theorem Block.updAud_out (b : Block) (f : AudSt → AudSt) : (b.updAud f).out = b.out := rfl
@[simp] theorem Block.updAud_free (b : Block) (f : AudSt → AudSt) : (b.updAud f).free = b.free := rfl
@[simp] theorem Block.updAud_replies (b : Block) (f : AudSt → AudSt) : (b.updAud f).replies = b.replies := rfl
@[simp] theorem Block.updAud_dev (b : Block) (f : AudSt → AudSt) : (b.updAud f).dev = b.dev := rfl
@[simp] theorem Block.updAud_time (b : Block) (f : AudSt → AudSt) : (b.updAud f).time = b.time := rfl
@[simp] theorem Block.updAud_refs (b : Block) (f : AudSt → AudSt) : (b.updAud f).refs = b.refs := rfl
@[simp] theorem Block.updAud_pll (b : Block) (f : AudSt → AudSt) : (b.updAud f).pll = b.pll := rfl
@[simp] theorem Block.updAud_oscLost (b : Block) (f : AudSt → AudSt) : (b.updAud f).oscLost = b.oscLost := rfl
@[simp] theorem Block.updAud_lanes (b : Block) (f : AudSt → AudSt) : (b.updAud f).lanes = b.lanes := rfl
@[simp] theorem Block.updAud_bring (b : Block) (f : AudSt → AudSt) : (b.updAud f).bring = b.bring := rfl
@[simp] theorem Block.updAud_sdiRx (b : Block) (f : AudSt → AudSt) : (b.updAud f).sdiRx = b.sdiRx := rfl
@[simp] theorem Block.updAud_sdiTx (b : Block) (f : AudSt → AudSt) : (b.updAud f).sdiTx = b.sdiTx := rfl
@[simp] theorem Block.updAud_eth (b : Block) (f : AudSt → AudSt) : (b.updAud f).eth = b.eth := rfl
@[simp] theorem Block.updAud_flowRx (b : Block) (f : AudSt → AudSt) : (b.updAud f).flowRx = b.flowRx := rfl
@[simp] theorem Block.updAud_flowTx (b : Block) (f : AudSt → AudSt) : (b.updAud f).flowTx = b.flowTx := rfl
@[simp] theorem Block.updAud_outFrames (b : Block) (f : AudSt → AudSt) : (b.updAud f).outFrames = b.outFrames := rfl
@[simp] theorem Block.updAud_stalls (b : Block) (f : AudSt → AudSt) : (b.updAud f).stalls = b.stalls := rfl
@[simp] theorem Block.updAud_watch (b : Block) (f : AudSt → AudSt) : (b.updAud f).watch = b.watch := rfl
@[simp] theorem Block.updAud_checks (b : Block) (f : AudSt → AudSt) : (b.updAud f).checks = b.checks := rfl
@[simp] theorem Block.updAud_carve (b : Block) (f : AudSt → AudSt) : (b.updAud f).carve = b.carve := rfl
@[simp] theorem Block.updAud_yard (b : Block) (f : AudSt → AudSt) : (b.updAud f).yard = b.yard := rfl
@[simp] theorem Block.updAud_fabPorts (b : Block) (f : AudSt → AudSt) : (b.updAud f).fabPorts = b.fabPorts := rfl
@[simp] theorem Block.updAud_adverts (b : Block) (f : AudSt → AudSt) : (b.updAud f).adverts = b.adverts := rfl
@[simp] theorem Block.updAud_grants (b : Block) (f : AudSt → AudSt) : (b.updAud f).grants = b.grants := rfl
@[simp] theorem Block.updAud_withheld (b : Block) (f : AudSt → AudSt) : (b.updAud f).withheld = b.withheld := rfl
@[simp] theorem Block.updAud_subs (b : Block) (f : AudSt → AudSt) : (b.updAud f).subs = b.subs := rfl
@[simp] theorem Block.updAud_rings (b : Block) (f : AudSt → AudSt) : (b.updAud f).rings = b.rings := rfl
@[simp] theorem Block.updAud_asks (b : Block) (f : AudSt → AudSt) : (b.updAud f).asks = b.asks := rfl
@[simp] theorem Block.updAud_stored (b : Block) (f : AudSt → AudSt) : (b.updAud f).stored = b.stored := rfl
@[simp] theorem Block.updAud_tid (b : Block) (f : AudSt → AudSt) : (b.updAud f).tid = b.tid := rfl
@[simp] theorem Block.updAud_allow (b : Block) (f : AudSt → AudSt) : (b.updAud f).allow = b.allow := rfl
@[simp] theorem Block.updAud_mirrors (b : Block) (f : AudSt → AudSt) : (b.updAud f).mirrors = b.mirrors := rfl
@[simp] theorem Block.updAud_keys (b : Block) (f : AudSt → AudSt) : (b.updAud f).keys = b.keys := rfl
@[simp] theorem Block.updAud_pins (b : Block) (f : AudSt → AudSt) : (b.updAud f).pins = b.pins := rfl
@[simp] theorem Block.updAud_cox (b : Block) (f : AudSt → AudSt) : (b.updAud f).cox = b.cox := rfl
@[simp] theorem Block.updAud_headSt (b : Block) (f : AudSt → AudSt) : (b.updAud f).headSt = b.headSt := rfl
@[simp] theorem Block.updAud_colour (b : Block) (f : AudSt → AudSt) : (b.updAud f).colour = b.colour := rfl
@[simp] theorem Block.updAud_guard (b : Block) (f : AudSt → AudSt) : (b.updAud f).guard = b.guard := rfl
@[simp] theorem Block.updAud_stills (b : Block) (f : AudSt → AudSt) : (b.updAud f).stills = b.stills := rfl
@[simp] theorem Block.updAud_safetyReset (b : Block) (f : AudSt → AudSt) : (b.updAud f).safetyReset = b.safetyReset := rfl
@[simp] theorem Block.updAud_wit (b : Block) (f : AudSt → AudSt) : (b.updAud f).wit = b.wit := rfl
@[simp] theorem Block.updAud_twin (b : Block) (f : AudSt → AudSt) : (b.updAud f).twin = b.twin := rfl
@[simp] theorem Block.updAud_released (b : Block) (f : AudSt → AudSt) : (b.updAud f).released = b.released := rfl
@[simp] theorem Block.updAud_flash (b : Block) (f : AudSt → AudSt) : (b.updAud f).flash = b.flash := rfl
@[simp] theorem Block.updAud_start (b : Block) (f : AudSt → AudSt) : (b.updAud f).start = b.start := rfl
@[simp] theorem Block.updAud_pwr (b : Block) (f : AudSt → AudSt) : (b.updAud f).pwr = b.pwr := rfl
@[simp] theorem Block.updAud_flt (b : Block) (f : AudSt → AudSt) : (b.updAud f).flt = b.flt := rfl
@[simp] theorem Block.updAud_mbx (b : Block) (f : AudSt → AudSt) : (b.updAud f).mbx = b.mbx := rfl
@[simp] theorem Block.updAud_mat (b : Block) (f : AudSt → AudSt) : (b.updAud f).mat = b.mat := rfl
@[simp] theorem Block.updAud_sys (b : Block) (f : AudSt → AudSt) : (b.updAud f).sys = b.sys := rfl
@[simp] theorem Block.updAud_fld (b : Block) (f : AudSt → AudSt) (fd : Field) (ix : Nat) : (b.updAud f).fld fd ix = b.fld fd ix := rfl
@[simp] theorem Block.updAud_aud (b : Block) (f : AudSt → AudSt) : (b.updAud f).aud = f b.aud := rfl
@[simp] theorem Block.updGrp_regs (b : Block) (g : Nat) (f : AudGroup → AudGroup) : (b.updGrp g f).regs = b.regs := rfl
@[simp] theorem Block.updGrp_out (b : Block) (g : Nat) (f : AudGroup → AudGroup) : (b.updGrp g f).out = b.out := rfl
@[simp] theorem Block.updGrp_free (b : Block) (g : Nat) (f : AudGroup → AudGroup) : (b.updGrp g f).free = b.free := rfl
@[simp] theorem Block.updGrp_replies (b : Block) (g : Nat) (f : AudGroup → AudGroup) : (b.updGrp g f).replies = b.replies := rfl
@[simp] theorem Block.updGrp_dev (b : Block) (g : Nat) (f : AudGroup → AudGroup) : (b.updGrp g f).dev = b.dev := rfl
@[simp] theorem Block.updGrp_time (b : Block) (g : Nat) (f : AudGroup → AudGroup) : (b.updGrp g f).time = b.time := rfl
@[simp] theorem Block.updGrp_refs (b : Block) (g : Nat) (f : AudGroup → AudGroup) : (b.updGrp g f).refs = b.refs := rfl
@[simp] theorem Block.updGrp_pll (b : Block) (g : Nat) (f : AudGroup → AudGroup) : (b.updGrp g f).pll = b.pll := rfl
@[simp] theorem Block.updGrp_oscLost (b : Block) (g : Nat) (f : AudGroup → AudGroup) : (b.updGrp g f).oscLost = b.oscLost := rfl
@[simp] theorem Block.updGrp_lanes (b : Block) (g : Nat) (f : AudGroup → AudGroup) : (b.updGrp g f).lanes = b.lanes := rfl
@[simp] theorem Block.updGrp_bring (b : Block) (g : Nat) (f : AudGroup → AudGroup) : (b.updGrp g f).bring = b.bring := rfl
@[simp] theorem Block.updGrp_sdiRx (b : Block) (g : Nat) (f : AudGroup → AudGroup) : (b.updGrp g f).sdiRx = b.sdiRx := rfl
@[simp] theorem Block.updGrp_sdiTx (b : Block) (g : Nat) (f : AudGroup → AudGroup) : (b.updGrp g f).sdiTx = b.sdiTx := rfl
@[simp] theorem Block.updGrp_eth (b : Block) (g : Nat) (f : AudGroup → AudGroup) : (b.updGrp g f).eth = b.eth := rfl
@[simp] theorem Block.updGrp_flowRx (b : Block) (g : Nat) (f : AudGroup → AudGroup) : (b.updGrp g f).flowRx = b.flowRx := rfl
@[simp] theorem Block.updGrp_flowTx (b : Block) (g : Nat) (f : AudGroup → AudGroup) : (b.updGrp g f).flowTx = b.flowTx := rfl
@[simp] theorem Block.updGrp_outFrames (b : Block) (g : Nat) (f : AudGroup → AudGroup) : (b.updGrp g f).outFrames = b.outFrames := rfl
@[simp] theorem Block.updGrp_stalls (b : Block) (g : Nat) (f : AudGroup → AudGroup) : (b.updGrp g f).stalls = b.stalls := rfl
@[simp] theorem Block.updGrp_watch (b : Block) (g : Nat) (f : AudGroup → AudGroup) : (b.updGrp g f).watch = b.watch := rfl
@[simp] theorem Block.updGrp_checks (b : Block) (g : Nat) (f : AudGroup → AudGroup) : (b.updGrp g f).checks = b.checks := rfl
@[simp] theorem Block.updGrp_carve (b : Block) (g : Nat) (f : AudGroup → AudGroup) : (b.updGrp g f).carve = b.carve := rfl
@[simp] theorem Block.updGrp_yard (b : Block) (g : Nat) (f : AudGroup → AudGroup) : (b.updGrp g f).yard = b.yard := rfl
@[simp] theorem Block.updGrp_fabPorts (b : Block) (g : Nat) (f : AudGroup → AudGroup) : (b.updGrp g f).fabPorts = b.fabPorts := rfl
@[simp] theorem Block.updGrp_adverts (b : Block) (g : Nat) (f : AudGroup → AudGroup) : (b.updGrp g f).adverts = b.adverts := rfl
@[simp] theorem Block.updGrp_grants (b : Block) (g : Nat) (f : AudGroup → AudGroup) : (b.updGrp g f).grants = b.grants := rfl
@[simp] theorem Block.updGrp_withheld (b : Block) (g : Nat) (f : AudGroup → AudGroup) : (b.updGrp g f).withheld = b.withheld := rfl
@[simp] theorem Block.updGrp_subs (b : Block) (g : Nat) (f : AudGroup → AudGroup) : (b.updGrp g f).subs = b.subs := rfl
@[simp] theorem Block.updGrp_rings (b : Block) (g : Nat) (f : AudGroup → AudGroup) : (b.updGrp g f).rings = b.rings := rfl
@[simp] theorem Block.updGrp_asks (b : Block) (g : Nat) (f : AudGroup → AudGroup) : (b.updGrp g f).asks = b.asks := rfl
@[simp] theorem Block.updGrp_stored (b : Block) (g : Nat) (f : AudGroup → AudGroup) : (b.updGrp g f).stored = b.stored := rfl
@[simp] theorem Block.updGrp_tid (b : Block) (g : Nat) (f : AudGroup → AudGroup) : (b.updGrp g f).tid = b.tid := rfl
@[simp] theorem Block.updGrp_allow (b : Block) (g : Nat) (f : AudGroup → AudGroup) : (b.updGrp g f).allow = b.allow := rfl
@[simp] theorem Block.updGrp_mirrors (b : Block) (g : Nat) (f : AudGroup → AudGroup) : (b.updGrp g f).mirrors = b.mirrors := rfl
@[simp] theorem Block.updGrp_keys (b : Block) (g : Nat) (f : AudGroup → AudGroup) : (b.updGrp g f).keys = b.keys := rfl
@[simp] theorem Block.updGrp_pins (b : Block) (g : Nat) (f : AudGroup → AudGroup) : (b.updGrp g f).pins = b.pins := rfl
@[simp] theorem Block.updGrp_cox (b : Block) (g : Nat) (f : AudGroup → AudGroup) : (b.updGrp g f).cox = b.cox := rfl
@[simp] theorem Block.updGrp_headSt (b : Block) (g : Nat) (f : AudGroup → AudGroup) : (b.updGrp g f).headSt = b.headSt := rfl
@[simp] theorem Block.updGrp_colour (b : Block) (g : Nat) (f : AudGroup → AudGroup) : (b.updGrp g f).colour = b.colour := rfl
@[simp] theorem Block.updGrp_guard (b : Block) (g : Nat) (f : AudGroup → AudGroup) : (b.updGrp g f).guard = b.guard := rfl
@[simp] theorem Block.updGrp_stills (b : Block) (g : Nat) (f : AudGroup → AudGroup) : (b.updGrp g f).stills = b.stills := rfl
@[simp] theorem Block.updGrp_safetyReset (b : Block) (g : Nat) (f : AudGroup → AudGroup) : (b.updGrp g f).safetyReset = b.safetyReset := rfl
@[simp] theorem Block.updGrp_wit (b : Block) (g : Nat) (f : AudGroup → AudGroup) : (b.updGrp g f).wit = b.wit := rfl
@[simp] theorem Block.updGrp_twin (b : Block) (g : Nat) (f : AudGroup → AudGroup) : (b.updGrp g f).twin = b.twin := rfl
@[simp] theorem Block.updGrp_released (b : Block) (g : Nat) (f : AudGroup → AudGroup) : (b.updGrp g f).released = b.released := rfl
@[simp] theorem Block.updGrp_flash (b : Block) (g : Nat) (f : AudGroup → AudGroup) : (b.updGrp g f).flash = b.flash := rfl
@[simp] theorem Block.updGrp_start (b : Block) (g : Nat) (f : AudGroup → AudGroup) : (b.updGrp g f).start = b.start := rfl
@[simp] theorem Block.updGrp_pwr (b : Block) (g : Nat) (f : AudGroup → AudGroup) : (b.updGrp g f).pwr = b.pwr := rfl
@[simp] theorem Block.updGrp_flt (b : Block) (g : Nat) (f : AudGroup → AudGroup) : (b.updGrp g f).flt = b.flt := rfl
@[simp] theorem Block.updGrp_mbx (b : Block) (g : Nat) (f : AudGroup → AudGroup) : (b.updGrp g f).mbx = b.mbx := rfl
@[simp] theorem Block.updGrp_mat (b : Block) (g : Nat) (f : AudGroup → AudGroup) : (b.updGrp g f).mat = b.mat := rfl
@[simp] theorem Block.updGrp_sys (b : Block) (g : Nat) (f : AudGroup → AudGroup) : (b.updGrp g f).sys = b.sys := rfl
@[simp] theorem Block.updGrp_fld (b : Block) (g : Nat) (f : AudGroup → AudGroup) (fd : Field) (ix : Nat) : (b.updGrp g f).fld fd ix = b.fld fd ix := rfl
@[simp] theorem Block.updCox_regs (b : Block) (f : CoxSt → CoxSt) : (b.updCox f).regs = b.regs := rfl
@[simp] theorem Block.updCox_out (b : Block) (f : CoxSt → CoxSt) : (b.updCox f).out = b.out := rfl
@[simp] theorem Block.updCox_free (b : Block) (f : CoxSt → CoxSt) : (b.updCox f).free = b.free := rfl
@[simp] theorem Block.updCox_replies (b : Block) (f : CoxSt → CoxSt) : (b.updCox f).replies = b.replies := rfl
@[simp] theorem Block.updCox_dev (b : Block) (f : CoxSt → CoxSt) : (b.updCox f).dev = b.dev := rfl
@[simp] theorem Block.updCox_time (b : Block) (f : CoxSt → CoxSt) : (b.updCox f).time = b.time := rfl
@[simp] theorem Block.updCox_refs (b : Block) (f : CoxSt → CoxSt) : (b.updCox f).refs = b.refs := rfl
@[simp] theorem Block.updCox_pll (b : Block) (f : CoxSt → CoxSt) : (b.updCox f).pll = b.pll := rfl
@[simp] theorem Block.updCox_oscLost (b : Block) (f : CoxSt → CoxSt) : (b.updCox f).oscLost = b.oscLost := rfl
@[simp] theorem Block.updCox_lanes (b : Block) (f : CoxSt → CoxSt) : (b.updCox f).lanes = b.lanes := rfl
@[simp] theorem Block.updCox_bring (b : Block) (f : CoxSt → CoxSt) : (b.updCox f).bring = b.bring := rfl
@[simp] theorem Block.updCox_sdiRx (b : Block) (f : CoxSt → CoxSt) : (b.updCox f).sdiRx = b.sdiRx := rfl
@[simp] theorem Block.updCox_sdiTx (b : Block) (f : CoxSt → CoxSt) : (b.updCox f).sdiTx = b.sdiTx := rfl
@[simp] theorem Block.updCox_eth (b : Block) (f : CoxSt → CoxSt) : (b.updCox f).eth = b.eth := rfl
@[simp] theorem Block.updCox_flowRx (b : Block) (f : CoxSt → CoxSt) : (b.updCox f).flowRx = b.flowRx := rfl
@[simp] theorem Block.updCox_flowTx (b : Block) (f : CoxSt → CoxSt) : (b.updCox f).flowTx = b.flowTx := rfl
@[simp] theorem Block.updCox_outFrames (b : Block) (f : CoxSt → CoxSt) : (b.updCox f).outFrames = b.outFrames := rfl
@[simp] theorem Block.updCox_stalls (b : Block) (f : CoxSt → CoxSt) : (b.updCox f).stalls = b.stalls := rfl
@[simp] theorem Block.updCox_watch (b : Block) (f : CoxSt → CoxSt) : (b.updCox f).watch = b.watch := rfl
@[simp] theorem Block.updCox_checks (b : Block) (f : CoxSt → CoxSt) : (b.updCox f).checks = b.checks := rfl
@[simp] theorem Block.updCox_carve (b : Block) (f : CoxSt → CoxSt) : (b.updCox f).carve = b.carve := rfl
@[simp] theorem Block.updCox_yard (b : Block) (f : CoxSt → CoxSt) : (b.updCox f).yard = b.yard := rfl
@[simp] theorem Block.updCox_fabPorts (b : Block) (f : CoxSt → CoxSt) : (b.updCox f).fabPorts = b.fabPorts := rfl
@[simp] theorem Block.updCox_adverts (b : Block) (f : CoxSt → CoxSt) : (b.updCox f).adverts = b.adverts := rfl
@[simp] theorem Block.updCox_grants (b : Block) (f : CoxSt → CoxSt) : (b.updCox f).grants = b.grants := rfl
@[simp] theorem Block.updCox_withheld (b : Block) (f : CoxSt → CoxSt) : (b.updCox f).withheld = b.withheld := rfl
@[simp] theorem Block.updCox_subs (b : Block) (f : CoxSt → CoxSt) : (b.updCox f).subs = b.subs := rfl
@[simp] theorem Block.updCox_rings (b : Block) (f : CoxSt → CoxSt) : (b.updCox f).rings = b.rings := rfl
@[simp] theorem Block.updCox_asks (b : Block) (f : CoxSt → CoxSt) : (b.updCox f).asks = b.asks := rfl
@[simp] theorem Block.updCox_stored (b : Block) (f : CoxSt → CoxSt) : (b.updCox f).stored = b.stored := rfl
@[simp] theorem Block.updCox_tid (b : Block) (f : CoxSt → CoxSt) : (b.updCox f).tid = b.tid := rfl
@[simp] theorem Block.updCox_allow (b : Block) (f : CoxSt → CoxSt) : (b.updCox f).allow = b.allow := rfl
@[simp] theorem Block.updCox_mirrors (b : Block) (f : CoxSt → CoxSt) : (b.updCox f).mirrors = b.mirrors := rfl
@[simp] theorem Block.updCox_keys (b : Block) (f : CoxSt → CoxSt) : (b.updCox f).keys = b.keys := rfl
@[simp] theorem Block.updCox_pins (b : Block) (f : CoxSt → CoxSt) : (b.updCox f).pins = b.pins := rfl
@[simp] theorem Block.updCox_headSt (b : Block) (f : CoxSt → CoxSt) : (b.updCox f).headSt = b.headSt := rfl
@[simp] theorem Block.updCox_colour (b : Block) (f : CoxSt → CoxSt) : (b.updCox f).colour = b.colour := rfl
@[simp] theorem Block.updCox_guard (b : Block) (f : CoxSt → CoxSt) : (b.updCox f).guard = b.guard := rfl
@[simp] theorem Block.updCox_stills (b : Block) (f : CoxSt → CoxSt) : (b.updCox f).stills = b.stills := rfl
@[simp] theorem Block.updCox_safetyReset (b : Block) (f : CoxSt → CoxSt) : (b.updCox f).safetyReset = b.safetyReset := rfl
@[simp] theorem Block.updCox_aud (b : Block) (f : CoxSt → CoxSt) : (b.updCox f).aud = b.aud := rfl
@[simp] theorem Block.updCox_wit (b : Block) (f : CoxSt → CoxSt) : (b.updCox f).wit = b.wit := rfl
@[simp] theorem Block.updCox_twin (b : Block) (f : CoxSt → CoxSt) : (b.updCox f).twin = b.twin := rfl
@[simp] theorem Block.updCox_released (b : Block) (f : CoxSt → CoxSt) : (b.updCox f).released = b.released := rfl
@[simp] theorem Block.updCox_flash (b : Block) (f : CoxSt → CoxSt) : (b.updCox f).flash = b.flash := rfl
@[simp] theorem Block.updCox_start (b : Block) (f : CoxSt → CoxSt) : (b.updCox f).start = b.start := rfl
@[simp] theorem Block.updCox_pwr (b : Block) (f : CoxSt → CoxSt) : (b.updCox f).pwr = b.pwr := rfl
@[simp] theorem Block.updCox_flt (b : Block) (f : CoxSt → CoxSt) : (b.updCox f).flt = b.flt := rfl
@[simp] theorem Block.updCox_mbx (b : Block) (f : CoxSt → CoxSt) : (b.updCox f).mbx = b.mbx := rfl
@[simp] theorem Block.updCox_mat (b : Block) (f : CoxSt → CoxSt) : (b.updCox f).mat = b.mat := rfl
@[simp] theorem Block.updCox_sys (b : Block) (f : CoxSt → CoxSt) : (b.updCox f).sys = b.sys := rfl
@[simp] theorem Block.updCox_fld (b : Block) (f : CoxSt → CoxSt) (fd : Field) (ix : Nat) : (b.updCox f).fld fd ix = b.fld fd ix := rfl
@[simp] theorem Block.updCox_cox (b : Block) (f : CoxSt → CoxSt) : (b.updCox f).cox = f b.cox := rfl
@[simp] theorem Block.updTake_regs (b : Block) (i : Nat) (f : TakeEnt → TakeEnt) : (b.updTake i f).regs = b.regs := rfl
@[simp] theorem Block.updTake_out (b : Block) (i : Nat) (f : TakeEnt → TakeEnt) : (b.updTake i f).out = b.out := rfl
@[simp] theorem Block.updTake_free (b : Block) (i : Nat) (f : TakeEnt → TakeEnt) : (b.updTake i f).free = b.free := rfl
@[simp] theorem Block.updTake_replies (b : Block) (i : Nat) (f : TakeEnt → TakeEnt) : (b.updTake i f).replies = b.replies := rfl
@[simp] theorem Block.updTake_dev (b : Block) (i : Nat) (f : TakeEnt → TakeEnt) : (b.updTake i f).dev = b.dev := rfl
@[simp] theorem Block.updTake_time (b : Block) (i : Nat) (f : TakeEnt → TakeEnt) : (b.updTake i f).time = b.time := rfl
@[simp] theorem Block.updTake_refs (b : Block) (i : Nat) (f : TakeEnt → TakeEnt) : (b.updTake i f).refs = b.refs := rfl
@[simp] theorem Block.updTake_pll (b : Block) (i : Nat) (f : TakeEnt → TakeEnt) : (b.updTake i f).pll = b.pll := rfl
@[simp] theorem Block.updTake_oscLost (b : Block) (i : Nat) (f : TakeEnt → TakeEnt) : (b.updTake i f).oscLost = b.oscLost := rfl
@[simp] theorem Block.updTake_lanes (b : Block) (i : Nat) (f : TakeEnt → TakeEnt) : (b.updTake i f).lanes = b.lanes := rfl
@[simp] theorem Block.updTake_bring (b : Block) (i : Nat) (f : TakeEnt → TakeEnt) : (b.updTake i f).bring = b.bring := rfl
@[simp] theorem Block.updTake_sdiRx (b : Block) (i : Nat) (f : TakeEnt → TakeEnt) : (b.updTake i f).sdiRx = b.sdiRx := rfl
@[simp] theorem Block.updTake_sdiTx (b : Block) (i : Nat) (f : TakeEnt → TakeEnt) : (b.updTake i f).sdiTx = b.sdiTx := rfl
@[simp] theorem Block.updTake_eth (b : Block) (i : Nat) (f : TakeEnt → TakeEnt) : (b.updTake i f).eth = b.eth := rfl
@[simp] theorem Block.updTake_flowRx (b : Block) (i : Nat) (f : TakeEnt → TakeEnt) : (b.updTake i f).flowRx = b.flowRx := rfl
@[simp] theorem Block.updTake_flowTx (b : Block) (i : Nat) (f : TakeEnt → TakeEnt) : (b.updTake i f).flowTx = b.flowTx := rfl
@[simp] theorem Block.updTake_outFrames (b : Block) (i : Nat) (f : TakeEnt → TakeEnt) : (b.updTake i f).outFrames = b.outFrames := rfl
@[simp] theorem Block.updTake_stalls (b : Block) (i : Nat) (f : TakeEnt → TakeEnt) : (b.updTake i f).stalls = b.stalls := rfl
@[simp] theorem Block.updTake_watch (b : Block) (i : Nat) (f : TakeEnt → TakeEnt) : (b.updTake i f).watch = b.watch := rfl
@[simp] theorem Block.updTake_checks (b : Block) (i : Nat) (f : TakeEnt → TakeEnt) : (b.updTake i f).checks = b.checks := rfl
@[simp] theorem Block.updTake_carve (b : Block) (i : Nat) (f : TakeEnt → TakeEnt) : (b.updTake i f).carve = b.carve := rfl
@[simp] theorem Block.updTake_yard (b : Block) (i : Nat) (f : TakeEnt → TakeEnt) : (b.updTake i f).yard = b.yard := rfl
@[simp] theorem Block.updTake_fabPorts (b : Block) (i : Nat) (f : TakeEnt → TakeEnt) : (b.updTake i f).fabPorts = b.fabPorts := rfl
@[simp] theorem Block.updTake_adverts (b : Block) (i : Nat) (f : TakeEnt → TakeEnt) : (b.updTake i f).adverts = b.adverts := rfl
@[simp] theorem Block.updTake_grants (b : Block) (i : Nat) (f : TakeEnt → TakeEnt) : (b.updTake i f).grants = b.grants := rfl
@[simp] theorem Block.updTake_withheld (b : Block) (i : Nat) (f : TakeEnt → TakeEnt) : (b.updTake i f).withheld = b.withheld := rfl
@[simp] theorem Block.updTake_subs (b : Block) (i : Nat) (f : TakeEnt → TakeEnt) : (b.updTake i f).subs = b.subs := rfl
@[simp] theorem Block.updTake_rings (b : Block) (i : Nat) (f : TakeEnt → TakeEnt) : (b.updTake i f).rings = b.rings := rfl
@[simp] theorem Block.updTake_asks (b : Block) (i : Nat) (f : TakeEnt → TakeEnt) : (b.updTake i f).asks = b.asks := rfl
@[simp] theorem Block.updTake_stored (b : Block) (i : Nat) (f : TakeEnt → TakeEnt) : (b.updTake i f).stored = b.stored := rfl
@[simp] theorem Block.updTake_tid (b : Block) (i : Nat) (f : TakeEnt → TakeEnt) : (b.updTake i f).tid = b.tid := rfl
@[simp] theorem Block.updTake_allow (b : Block) (i : Nat) (f : TakeEnt → TakeEnt) : (b.updTake i f).allow = b.allow := rfl
@[simp] theorem Block.updTake_mirrors (b : Block) (i : Nat) (f : TakeEnt → TakeEnt) : (b.updTake i f).mirrors = b.mirrors := rfl
@[simp] theorem Block.updTake_keys (b : Block) (i : Nat) (f : TakeEnt → TakeEnt) : (b.updTake i f).keys = b.keys := rfl
@[simp] theorem Block.updTake_pins (b : Block) (i : Nat) (f : TakeEnt → TakeEnt) : (b.updTake i f).pins = b.pins := rfl
@[simp] theorem Block.updTake_headSt (b : Block) (i : Nat) (f : TakeEnt → TakeEnt) : (b.updTake i f).headSt = b.headSt := rfl
@[simp] theorem Block.updTake_colour (b : Block) (i : Nat) (f : TakeEnt → TakeEnt) : (b.updTake i f).colour = b.colour := rfl
@[simp] theorem Block.updTake_guard (b : Block) (i : Nat) (f : TakeEnt → TakeEnt) : (b.updTake i f).guard = b.guard := rfl
@[simp] theorem Block.updTake_stills (b : Block) (i : Nat) (f : TakeEnt → TakeEnt) : (b.updTake i f).stills = b.stills := rfl
@[simp] theorem Block.updTake_safetyReset (b : Block) (i : Nat) (f : TakeEnt → TakeEnt) : (b.updTake i f).safetyReset = b.safetyReset := rfl
@[simp] theorem Block.updTake_aud (b : Block) (i : Nat) (f : TakeEnt → TakeEnt) : (b.updTake i f).aud = b.aud := rfl
@[simp] theorem Block.updTake_wit (b : Block) (i : Nat) (f : TakeEnt → TakeEnt) : (b.updTake i f).wit = b.wit := rfl
@[simp] theorem Block.updTake_twin (b : Block) (i : Nat) (f : TakeEnt → TakeEnt) : (b.updTake i f).twin = b.twin := rfl
@[simp] theorem Block.updTake_released (b : Block) (i : Nat) (f : TakeEnt → TakeEnt) : (b.updTake i f).released = b.released := rfl
@[simp] theorem Block.updTake_flash (b : Block) (i : Nat) (f : TakeEnt → TakeEnt) : (b.updTake i f).flash = b.flash := rfl
@[simp] theorem Block.updTake_start (b : Block) (i : Nat) (f : TakeEnt → TakeEnt) : (b.updTake i f).start = b.start := rfl
@[simp] theorem Block.updTake_pwr (b : Block) (i : Nat) (f : TakeEnt → TakeEnt) : (b.updTake i f).pwr = b.pwr := rfl
@[simp] theorem Block.updTake_flt (b : Block) (i : Nat) (f : TakeEnt → TakeEnt) : (b.updTake i f).flt = b.flt := rfl
@[simp] theorem Block.updTake_mbx (b : Block) (i : Nat) (f : TakeEnt → TakeEnt) : (b.updTake i f).mbx = b.mbx := rfl
@[simp] theorem Block.updTake_mat (b : Block) (i : Nat) (f : TakeEnt → TakeEnt) : (b.updTake i f).mat = b.mat := rfl
@[simp] theorem Block.updTake_sys (b : Block) (i : Nat) (f : TakeEnt → TakeEnt) : (b.updTake i f).sys = b.sys := rfl
@[simp] theorem Block.updTake_fld (b : Block) (i : Nat) (f : TakeEnt → TakeEnt) (fd : Field) (ix : Nat) : (b.updTake i f).fld fd ix = b.fld fd ix := rfl
@[simp] theorem Block.updPwr_regs (b : Block) (f : PwrSt → PwrSt) : (b.updPwr f).regs = b.regs := rfl
@[simp] theorem Block.updPwr_out (b : Block) (f : PwrSt → PwrSt) : (b.updPwr f).out = b.out := rfl
@[simp] theorem Block.updPwr_free (b : Block) (f : PwrSt → PwrSt) : (b.updPwr f).free = b.free := rfl
@[simp] theorem Block.updPwr_replies (b : Block) (f : PwrSt → PwrSt) : (b.updPwr f).replies = b.replies := rfl
@[simp] theorem Block.updPwr_dev (b : Block) (f : PwrSt → PwrSt) : (b.updPwr f).dev = b.dev := rfl
@[simp] theorem Block.updPwr_time (b : Block) (f : PwrSt → PwrSt) : (b.updPwr f).time = b.time := rfl
@[simp] theorem Block.updPwr_refs (b : Block) (f : PwrSt → PwrSt) : (b.updPwr f).refs = b.refs := rfl
@[simp] theorem Block.updPwr_pll (b : Block) (f : PwrSt → PwrSt) : (b.updPwr f).pll = b.pll := rfl
@[simp] theorem Block.updPwr_oscLost (b : Block) (f : PwrSt → PwrSt) : (b.updPwr f).oscLost = b.oscLost := rfl
@[simp] theorem Block.updPwr_lanes (b : Block) (f : PwrSt → PwrSt) : (b.updPwr f).lanes = b.lanes := rfl
@[simp] theorem Block.updPwr_bring (b : Block) (f : PwrSt → PwrSt) : (b.updPwr f).bring = b.bring := rfl
@[simp] theorem Block.updPwr_sdiRx (b : Block) (f : PwrSt → PwrSt) : (b.updPwr f).sdiRx = b.sdiRx := rfl
@[simp] theorem Block.updPwr_sdiTx (b : Block) (f : PwrSt → PwrSt) : (b.updPwr f).sdiTx = b.sdiTx := rfl
@[simp] theorem Block.updPwr_eth (b : Block) (f : PwrSt → PwrSt) : (b.updPwr f).eth = b.eth := rfl
@[simp] theorem Block.updPwr_flowRx (b : Block) (f : PwrSt → PwrSt) : (b.updPwr f).flowRx = b.flowRx := rfl
@[simp] theorem Block.updPwr_flowTx (b : Block) (f : PwrSt → PwrSt) : (b.updPwr f).flowTx = b.flowTx := rfl
@[simp] theorem Block.updPwr_outFrames (b : Block) (f : PwrSt → PwrSt) : (b.updPwr f).outFrames = b.outFrames := rfl
@[simp] theorem Block.updPwr_stalls (b : Block) (f : PwrSt → PwrSt) : (b.updPwr f).stalls = b.stalls := rfl
@[simp] theorem Block.updPwr_watch (b : Block) (f : PwrSt → PwrSt) : (b.updPwr f).watch = b.watch := rfl
@[simp] theorem Block.updPwr_checks (b : Block) (f : PwrSt → PwrSt) : (b.updPwr f).checks = b.checks := rfl
@[simp] theorem Block.updPwr_carve (b : Block) (f : PwrSt → PwrSt) : (b.updPwr f).carve = b.carve := rfl
@[simp] theorem Block.updPwr_yard (b : Block) (f : PwrSt → PwrSt) : (b.updPwr f).yard = b.yard := rfl
@[simp] theorem Block.updPwr_fabPorts (b : Block) (f : PwrSt → PwrSt) : (b.updPwr f).fabPorts = b.fabPorts := rfl
@[simp] theorem Block.updPwr_adverts (b : Block) (f : PwrSt → PwrSt) : (b.updPwr f).adverts = b.adverts := rfl
@[simp] theorem Block.updPwr_grants (b : Block) (f : PwrSt → PwrSt) : (b.updPwr f).grants = b.grants := rfl
@[simp] theorem Block.updPwr_withheld (b : Block) (f : PwrSt → PwrSt) : (b.updPwr f).withheld = b.withheld := rfl
@[simp] theorem Block.updPwr_subs (b : Block) (f : PwrSt → PwrSt) : (b.updPwr f).subs = b.subs := rfl
@[simp] theorem Block.updPwr_rings (b : Block) (f : PwrSt → PwrSt) : (b.updPwr f).rings = b.rings := rfl
@[simp] theorem Block.updPwr_asks (b : Block) (f : PwrSt → PwrSt) : (b.updPwr f).asks = b.asks := rfl
@[simp] theorem Block.updPwr_stored (b : Block) (f : PwrSt → PwrSt) : (b.updPwr f).stored = b.stored := rfl
@[simp] theorem Block.updPwr_tid (b : Block) (f : PwrSt → PwrSt) : (b.updPwr f).tid = b.tid := rfl
@[simp] theorem Block.updPwr_allow (b : Block) (f : PwrSt → PwrSt) : (b.updPwr f).allow = b.allow := rfl
@[simp] theorem Block.updPwr_mirrors (b : Block) (f : PwrSt → PwrSt) : (b.updPwr f).mirrors = b.mirrors := rfl
@[simp] theorem Block.updPwr_keys (b : Block) (f : PwrSt → PwrSt) : (b.updPwr f).keys = b.keys := rfl
@[simp] theorem Block.updPwr_pins (b : Block) (f : PwrSt → PwrSt) : (b.updPwr f).pins = b.pins := rfl
@[simp] theorem Block.updPwr_cox (b : Block) (f : PwrSt → PwrSt) : (b.updPwr f).cox = b.cox := rfl
@[simp] theorem Block.updPwr_headSt (b : Block) (f : PwrSt → PwrSt) : (b.updPwr f).headSt = b.headSt := rfl
@[simp] theorem Block.updPwr_colour (b : Block) (f : PwrSt → PwrSt) : (b.updPwr f).colour = b.colour := rfl
@[simp] theorem Block.updPwr_guard (b : Block) (f : PwrSt → PwrSt) : (b.updPwr f).guard = b.guard := rfl
@[simp] theorem Block.updPwr_stills (b : Block) (f : PwrSt → PwrSt) : (b.updPwr f).stills = b.stills := rfl
@[simp] theorem Block.updPwr_safetyReset (b : Block) (f : PwrSt → PwrSt) : (b.updPwr f).safetyReset = b.safetyReset := rfl
@[simp] theorem Block.updPwr_aud (b : Block) (f : PwrSt → PwrSt) : (b.updPwr f).aud = b.aud := rfl
@[simp] theorem Block.updPwr_wit (b : Block) (f : PwrSt → PwrSt) : (b.updPwr f).wit = b.wit := rfl
@[simp] theorem Block.updPwr_twin (b : Block) (f : PwrSt → PwrSt) : (b.updPwr f).twin = b.twin := rfl
@[simp] theorem Block.updPwr_released (b : Block) (f : PwrSt → PwrSt) : (b.updPwr f).released = b.released := rfl
@[simp] theorem Block.updPwr_flash (b : Block) (f : PwrSt → PwrSt) : (b.updPwr f).flash = b.flash := rfl
@[simp] theorem Block.updPwr_start (b : Block) (f : PwrSt → PwrSt) : (b.updPwr f).start = b.start := rfl
@[simp] theorem Block.updPwr_flt (b : Block) (f : PwrSt → PwrSt) : (b.updPwr f).flt = b.flt := rfl
@[simp] theorem Block.updPwr_mbx (b : Block) (f : PwrSt → PwrSt) : (b.updPwr f).mbx = b.mbx := rfl
@[simp] theorem Block.updPwr_mat (b : Block) (f : PwrSt → PwrSt) : (b.updPwr f).mat = b.mat := rfl
@[simp] theorem Block.updPwr_sys (b : Block) (f : PwrSt → PwrSt) : (b.updPwr f).sys = b.sys := rfl
@[simp] theorem Block.updPwr_fld (b : Block) (f : PwrSt → PwrSt) (fd : Field) (ix : Nat) : (b.updPwr f).fld fd ix = b.fld fd ix := rfl
@[simp] theorem Block.updPwr_pwr (b : Block) (f : PwrSt → PwrSt) : (b.updPwr f).pwr = f b.pwr := rfl
@[simp] theorem Block.updEth_regs (b : Block) (e : Nat) (f : EthSt → EthSt) : (b.updEth e f).regs = b.regs := rfl
@[simp] theorem Block.updEth_out (b : Block) (e : Nat) (f : EthSt → EthSt) : (b.updEth e f).out = b.out := rfl
@[simp] theorem Block.updEth_free (b : Block) (e : Nat) (f : EthSt → EthSt) : (b.updEth e f).free = b.free := rfl
@[simp] theorem Block.updEth_replies (b : Block) (e : Nat) (f : EthSt → EthSt) : (b.updEth e f).replies = b.replies := rfl
@[simp] theorem Block.updEth_dev (b : Block) (e : Nat) (f : EthSt → EthSt) : (b.updEth e f).dev = b.dev := rfl
@[simp] theorem Block.updEth_time (b : Block) (e : Nat) (f : EthSt → EthSt) : (b.updEth e f).time = b.time := rfl
@[simp] theorem Block.updEth_refs (b : Block) (e : Nat) (f : EthSt → EthSt) : (b.updEth e f).refs = b.refs := rfl
@[simp] theorem Block.updEth_pll (b : Block) (e : Nat) (f : EthSt → EthSt) : (b.updEth e f).pll = b.pll := rfl
@[simp] theorem Block.updEth_oscLost (b : Block) (e : Nat) (f : EthSt → EthSt) : (b.updEth e f).oscLost = b.oscLost := rfl
@[simp] theorem Block.updEth_lanes (b : Block) (e : Nat) (f : EthSt → EthSt) : (b.updEth e f).lanes = b.lanes := rfl
@[simp] theorem Block.updEth_bring (b : Block) (e : Nat) (f : EthSt → EthSt) : (b.updEth e f).bring = b.bring := rfl
@[simp] theorem Block.updEth_sdiRx (b : Block) (e : Nat) (f : EthSt → EthSt) : (b.updEth e f).sdiRx = b.sdiRx := rfl
@[simp] theorem Block.updEth_sdiTx (b : Block) (e : Nat) (f : EthSt → EthSt) : (b.updEth e f).sdiTx = b.sdiTx := rfl
@[simp] theorem Block.updEth_flowRx (b : Block) (e : Nat) (f : EthSt → EthSt) : (b.updEth e f).flowRx = b.flowRx := rfl
@[simp] theorem Block.updEth_flowTx (b : Block) (e : Nat) (f : EthSt → EthSt) : (b.updEth e f).flowTx = b.flowTx := rfl
@[simp] theorem Block.updEth_outFrames (b : Block) (e : Nat) (f : EthSt → EthSt) : (b.updEth e f).outFrames = b.outFrames := rfl
@[simp] theorem Block.updEth_stalls (b : Block) (e : Nat) (f : EthSt → EthSt) : (b.updEth e f).stalls = b.stalls := rfl
@[simp] theorem Block.updEth_watch (b : Block) (e : Nat) (f : EthSt → EthSt) : (b.updEth e f).watch = b.watch := rfl
@[simp] theorem Block.updEth_checks (b : Block) (e : Nat) (f : EthSt → EthSt) : (b.updEth e f).checks = b.checks := rfl
@[simp] theorem Block.updEth_carve (b : Block) (e : Nat) (f : EthSt → EthSt) : (b.updEth e f).carve = b.carve := rfl
@[simp] theorem Block.updEth_yard (b : Block) (e : Nat) (f : EthSt → EthSt) : (b.updEth e f).yard = b.yard := rfl
@[simp] theorem Block.updEth_fabPorts (b : Block) (e : Nat) (f : EthSt → EthSt) : (b.updEth e f).fabPorts = b.fabPorts := rfl
@[simp] theorem Block.updEth_adverts (b : Block) (e : Nat) (f : EthSt → EthSt) : (b.updEth e f).adverts = b.adverts := rfl
@[simp] theorem Block.updEth_grants (b : Block) (e : Nat) (f : EthSt → EthSt) : (b.updEth e f).grants = b.grants := rfl
@[simp] theorem Block.updEth_withheld (b : Block) (e : Nat) (f : EthSt → EthSt) : (b.updEth e f).withheld = b.withheld := rfl
@[simp] theorem Block.updEth_subs (b : Block) (e : Nat) (f : EthSt → EthSt) : (b.updEth e f).subs = b.subs := rfl
@[simp] theorem Block.updEth_rings (b : Block) (e : Nat) (f : EthSt → EthSt) : (b.updEth e f).rings = b.rings := rfl
@[simp] theorem Block.updEth_asks (b : Block) (e : Nat) (f : EthSt → EthSt) : (b.updEth e f).asks = b.asks := rfl
@[simp] theorem Block.updEth_stored (b : Block) (e : Nat) (f : EthSt → EthSt) : (b.updEth e f).stored = b.stored := rfl
@[simp] theorem Block.updEth_tid (b : Block) (e : Nat) (f : EthSt → EthSt) : (b.updEth e f).tid = b.tid := rfl
@[simp] theorem Block.updEth_allow (b : Block) (e : Nat) (f : EthSt → EthSt) : (b.updEth e f).allow = b.allow := rfl
@[simp] theorem Block.updEth_mirrors (b : Block) (e : Nat) (f : EthSt → EthSt) : (b.updEth e f).mirrors = b.mirrors := rfl
@[simp] theorem Block.updEth_keys (b : Block) (e : Nat) (f : EthSt → EthSt) : (b.updEth e f).keys = b.keys := rfl
@[simp] theorem Block.updEth_pins (b : Block) (e : Nat) (f : EthSt → EthSt) : (b.updEth e f).pins = b.pins := rfl
@[simp] theorem Block.updEth_cox (b : Block) (e : Nat) (f : EthSt → EthSt) : (b.updEth e f).cox = b.cox := rfl
@[simp] theorem Block.updEth_headSt (b : Block) (e : Nat) (f : EthSt → EthSt) : (b.updEth e f).headSt = b.headSt := rfl
@[simp] theorem Block.updEth_colour (b : Block) (e : Nat) (f : EthSt → EthSt) : (b.updEth e f).colour = b.colour := rfl
@[simp] theorem Block.updEth_guard (b : Block) (e : Nat) (f : EthSt → EthSt) : (b.updEth e f).guard = b.guard := rfl
@[simp] theorem Block.updEth_stills (b : Block) (e : Nat) (f : EthSt → EthSt) : (b.updEth e f).stills = b.stills := rfl
@[simp] theorem Block.updEth_safetyReset (b : Block) (e : Nat) (f : EthSt → EthSt) : (b.updEth e f).safetyReset = b.safetyReset := rfl
@[simp] theorem Block.updEth_aud (b : Block) (e : Nat) (f : EthSt → EthSt) : (b.updEth e f).aud = b.aud := rfl
@[simp] theorem Block.updEth_wit (b : Block) (e : Nat) (f : EthSt → EthSt) : (b.updEth e f).wit = b.wit := rfl
@[simp] theorem Block.updEth_twin (b : Block) (e : Nat) (f : EthSt → EthSt) : (b.updEth e f).twin = b.twin := rfl
@[simp] theorem Block.updEth_released (b : Block) (e : Nat) (f : EthSt → EthSt) : (b.updEth e f).released = b.released := rfl
@[simp] theorem Block.updEth_flash (b : Block) (e : Nat) (f : EthSt → EthSt) : (b.updEth e f).flash = b.flash := rfl
@[simp] theorem Block.updEth_start (b : Block) (e : Nat) (f : EthSt → EthSt) : (b.updEth e f).start = b.start := rfl
@[simp] theorem Block.updEth_pwr (b : Block) (e : Nat) (f : EthSt → EthSt) : (b.updEth e f).pwr = b.pwr := rfl
@[simp] theorem Block.updEth_flt (b : Block) (e : Nat) (f : EthSt → EthSt) : (b.updEth e f).flt = b.flt := rfl
@[simp] theorem Block.updEth_mbx (b : Block) (e : Nat) (f : EthSt → EthSt) : (b.updEth e f).mbx = b.mbx := rfl
@[simp] theorem Block.updEth_mat (b : Block) (e : Nat) (f : EthSt → EthSt) : (b.updEth e f).mat = b.mat := rfl
@[simp] theorem Block.updEth_sys (b : Block) (e : Nat) (f : EthSt → EthSt) : (b.updEth e f).sys = b.sys := rfl
@[simp] theorem Block.updEth_fld (b : Block) (e : Nat) (f : EthSt → EthSt) (fd : Field) (ix : Nat) : (b.updEth e f).fld fd ix = b.fld fd ix := rfl
@[simp] theorem Block.updEth_eth (b : Block) (e : Nat) (f : EthSt → EthSt) : (b.updEth e f).eth = b.eth.upd e f := rfl
@[simp] theorem Block.updFlowRx_regs (b : Block) (i : Nat) (f : FlowRx → FlowRx) : (b.updFlowRx i f).regs = b.regs := rfl
@[simp] theorem Block.updFlowRx_out (b : Block) (i : Nat) (f : FlowRx → FlowRx) : (b.updFlowRx i f).out = b.out := rfl
@[simp] theorem Block.updFlowRx_free (b : Block) (i : Nat) (f : FlowRx → FlowRx) : (b.updFlowRx i f).free = b.free := rfl
@[simp] theorem Block.updFlowRx_replies (b : Block) (i : Nat) (f : FlowRx → FlowRx) : (b.updFlowRx i f).replies = b.replies := rfl
@[simp] theorem Block.updFlowRx_dev (b : Block) (i : Nat) (f : FlowRx → FlowRx) : (b.updFlowRx i f).dev = b.dev := rfl
@[simp] theorem Block.updFlowRx_time (b : Block) (i : Nat) (f : FlowRx → FlowRx) : (b.updFlowRx i f).time = b.time := rfl
@[simp] theorem Block.updFlowRx_refs (b : Block) (i : Nat) (f : FlowRx → FlowRx) : (b.updFlowRx i f).refs = b.refs := rfl
@[simp] theorem Block.updFlowRx_pll (b : Block) (i : Nat) (f : FlowRx → FlowRx) : (b.updFlowRx i f).pll = b.pll := rfl
@[simp] theorem Block.updFlowRx_oscLost (b : Block) (i : Nat) (f : FlowRx → FlowRx) : (b.updFlowRx i f).oscLost = b.oscLost := rfl
@[simp] theorem Block.updFlowRx_lanes (b : Block) (i : Nat) (f : FlowRx → FlowRx) : (b.updFlowRx i f).lanes = b.lanes := rfl
@[simp] theorem Block.updFlowRx_bring (b : Block) (i : Nat) (f : FlowRx → FlowRx) : (b.updFlowRx i f).bring = b.bring := rfl
@[simp] theorem Block.updFlowRx_sdiRx (b : Block) (i : Nat) (f : FlowRx → FlowRx) : (b.updFlowRx i f).sdiRx = b.sdiRx := rfl
@[simp] theorem Block.updFlowRx_sdiTx (b : Block) (i : Nat) (f : FlowRx → FlowRx) : (b.updFlowRx i f).sdiTx = b.sdiTx := rfl
@[simp] theorem Block.updFlowRx_eth (b : Block) (i : Nat) (f : FlowRx → FlowRx) : (b.updFlowRx i f).eth = b.eth := rfl
@[simp] theorem Block.updFlowRx_flowTx (b : Block) (i : Nat) (f : FlowRx → FlowRx) : (b.updFlowRx i f).flowTx = b.flowTx := rfl
@[simp] theorem Block.updFlowRx_outFrames (b : Block) (i : Nat) (f : FlowRx → FlowRx) : (b.updFlowRx i f).outFrames = b.outFrames := rfl
@[simp] theorem Block.updFlowRx_stalls (b : Block) (i : Nat) (f : FlowRx → FlowRx) : (b.updFlowRx i f).stalls = b.stalls := rfl
@[simp] theorem Block.updFlowRx_watch (b : Block) (i : Nat) (f : FlowRx → FlowRx) : (b.updFlowRx i f).watch = b.watch := rfl
@[simp] theorem Block.updFlowRx_checks (b : Block) (i : Nat) (f : FlowRx → FlowRx) : (b.updFlowRx i f).checks = b.checks := rfl
@[simp] theorem Block.updFlowRx_carve (b : Block) (i : Nat) (f : FlowRx → FlowRx) : (b.updFlowRx i f).carve = b.carve := rfl
@[simp] theorem Block.updFlowRx_yard (b : Block) (i : Nat) (f : FlowRx → FlowRx) : (b.updFlowRx i f).yard = b.yard := rfl
@[simp] theorem Block.updFlowRx_fabPorts (b : Block) (i : Nat) (f : FlowRx → FlowRx) : (b.updFlowRx i f).fabPorts = b.fabPorts := rfl
@[simp] theorem Block.updFlowRx_adverts (b : Block) (i : Nat) (f : FlowRx → FlowRx) : (b.updFlowRx i f).adverts = b.adverts := rfl
@[simp] theorem Block.updFlowRx_grants (b : Block) (i : Nat) (f : FlowRx → FlowRx) : (b.updFlowRx i f).grants = b.grants := rfl
@[simp] theorem Block.updFlowRx_withheld (b : Block) (i : Nat) (f : FlowRx → FlowRx) : (b.updFlowRx i f).withheld = b.withheld := rfl
@[simp] theorem Block.updFlowRx_subs (b : Block) (i : Nat) (f : FlowRx → FlowRx) : (b.updFlowRx i f).subs = b.subs := rfl
@[simp] theorem Block.updFlowRx_rings (b : Block) (i : Nat) (f : FlowRx → FlowRx) : (b.updFlowRx i f).rings = b.rings := rfl
@[simp] theorem Block.updFlowRx_asks (b : Block) (i : Nat) (f : FlowRx → FlowRx) : (b.updFlowRx i f).asks = b.asks := rfl
@[simp] theorem Block.updFlowRx_stored (b : Block) (i : Nat) (f : FlowRx → FlowRx) : (b.updFlowRx i f).stored = b.stored := rfl
@[simp] theorem Block.updFlowRx_tid (b : Block) (i : Nat) (f : FlowRx → FlowRx) : (b.updFlowRx i f).tid = b.tid := rfl
@[simp] theorem Block.updFlowRx_allow (b : Block) (i : Nat) (f : FlowRx → FlowRx) : (b.updFlowRx i f).allow = b.allow := rfl
@[simp] theorem Block.updFlowRx_mirrors (b : Block) (i : Nat) (f : FlowRx → FlowRx) : (b.updFlowRx i f).mirrors = b.mirrors := rfl
@[simp] theorem Block.updFlowRx_keys (b : Block) (i : Nat) (f : FlowRx → FlowRx) : (b.updFlowRx i f).keys = b.keys := rfl
@[simp] theorem Block.updFlowRx_pins (b : Block) (i : Nat) (f : FlowRx → FlowRx) : (b.updFlowRx i f).pins = b.pins := rfl
@[simp] theorem Block.updFlowRx_cox (b : Block) (i : Nat) (f : FlowRx → FlowRx) : (b.updFlowRx i f).cox = b.cox := rfl
@[simp] theorem Block.updFlowRx_headSt (b : Block) (i : Nat) (f : FlowRx → FlowRx) : (b.updFlowRx i f).headSt = b.headSt := rfl
@[simp] theorem Block.updFlowRx_colour (b : Block) (i : Nat) (f : FlowRx → FlowRx) : (b.updFlowRx i f).colour = b.colour := rfl
@[simp] theorem Block.updFlowRx_guard (b : Block) (i : Nat) (f : FlowRx → FlowRx) : (b.updFlowRx i f).guard = b.guard := rfl
@[simp] theorem Block.updFlowRx_stills (b : Block) (i : Nat) (f : FlowRx → FlowRx) : (b.updFlowRx i f).stills = b.stills := rfl
@[simp] theorem Block.updFlowRx_safetyReset (b : Block) (i : Nat) (f : FlowRx → FlowRx) : (b.updFlowRx i f).safetyReset = b.safetyReset := rfl
@[simp] theorem Block.updFlowRx_aud (b : Block) (i : Nat) (f : FlowRx → FlowRx) : (b.updFlowRx i f).aud = b.aud := rfl
@[simp] theorem Block.updFlowRx_wit (b : Block) (i : Nat) (f : FlowRx → FlowRx) : (b.updFlowRx i f).wit = b.wit := rfl
@[simp] theorem Block.updFlowRx_twin (b : Block) (i : Nat) (f : FlowRx → FlowRx) : (b.updFlowRx i f).twin = b.twin := rfl
@[simp] theorem Block.updFlowRx_released (b : Block) (i : Nat) (f : FlowRx → FlowRx) : (b.updFlowRx i f).released = b.released := rfl
@[simp] theorem Block.updFlowRx_flash (b : Block) (i : Nat) (f : FlowRx → FlowRx) : (b.updFlowRx i f).flash = b.flash := rfl
@[simp] theorem Block.updFlowRx_start (b : Block) (i : Nat) (f : FlowRx → FlowRx) : (b.updFlowRx i f).start = b.start := rfl
@[simp] theorem Block.updFlowRx_pwr (b : Block) (i : Nat) (f : FlowRx → FlowRx) : (b.updFlowRx i f).pwr = b.pwr := rfl
@[simp] theorem Block.updFlowRx_flt (b : Block) (i : Nat) (f : FlowRx → FlowRx) : (b.updFlowRx i f).flt = b.flt := rfl
@[simp] theorem Block.updFlowRx_mbx (b : Block) (i : Nat) (f : FlowRx → FlowRx) : (b.updFlowRx i f).mbx = b.mbx := rfl
@[simp] theorem Block.updFlowRx_mat (b : Block) (i : Nat) (f : FlowRx → FlowRx) : (b.updFlowRx i f).mat = b.mat := rfl
@[simp] theorem Block.updFlowRx_sys (b : Block) (i : Nat) (f : FlowRx → FlowRx) : (b.updFlowRx i f).sys = b.sys := rfl
@[simp] theorem Block.updFlowRx_fld (b : Block) (i : Nat) (f : FlowRx → FlowRx) (fd : Field) (ix : Nat) : (b.updFlowRx i f).fld fd ix = b.fld fd ix := rfl
@[simp] theorem Block.updFlowRx_flowRx (b : Block) (i : Nat) (f : FlowRx → FlowRx) : (b.updFlowRx i f).flowRx = b.flowRx.upd i f := rfl
@[simp] theorem Block.updFlowTx_regs (b : Block) (i : Nat) (f : FlowTx → FlowTx) : (b.updFlowTx i f).regs = b.regs := rfl
@[simp] theorem Block.updFlowTx_out (b : Block) (i : Nat) (f : FlowTx → FlowTx) : (b.updFlowTx i f).out = b.out := rfl
@[simp] theorem Block.updFlowTx_free (b : Block) (i : Nat) (f : FlowTx → FlowTx) : (b.updFlowTx i f).free = b.free := rfl
@[simp] theorem Block.updFlowTx_replies (b : Block) (i : Nat) (f : FlowTx → FlowTx) : (b.updFlowTx i f).replies = b.replies := rfl
@[simp] theorem Block.updFlowTx_dev (b : Block) (i : Nat) (f : FlowTx → FlowTx) : (b.updFlowTx i f).dev = b.dev := rfl
@[simp] theorem Block.updFlowTx_time (b : Block) (i : Nat) (f : FlowTx → FlowTx) : (b.updFlowTx i f).time = b.time := rfl
@[simp] theorem Block.updFlowTx_refs (b : Block) (i : Nat) (f : FlowTx → FlowTx) : (b.updFlowTx i f).refs = b.refs := rfl
@[simp] theorem Block.updFlowTx_pll (b : Block) (i : Nat) (f : FlowTx → FlowTx) : (b.updFlowTx i f).pll = b.pll := rfl
@[simp] theorem Block.updFlowTx_oscLost (b : Block) (i : Nat) (f : FlowTx → FlowTx) : (b.updFlowTx i f).oscLost = b.oscLost := rfl
@[simp] theorem Block.updFlowTx_lanes (b : Block) (i : Nat) (f : FlowTx → FlowTx) : (b.updFlowTx i f).lanes = b.lanes := rfl
@[simp] theorem Block.updFlowTx_bring (b : Block) (i : Nat) (f : FlowTx → FlowTx) : (b.updFlowTx i f).bring = b.bring := rfl
@[simp] theorem Block.updFlowTx_sdiRx (b : Block) (i : Nat) (f : FlowTx → FlowTx) : (b.updFlowTx i f).sdiRx = b.sdiRx := rfl
@[simp] theorem Block.updFlowTx_sdiTx (b : Block) (i : Nat) (f : FlowTx → FlowTx) : (b.updFlowTx i f).sdiTx = b.sdiTx := rfl
@[simp] theorem Block.updFlowTx_eth (b : Block) (i : Nat) (f : FlowTx → FlowTx) : (b.updFlowTx i f).eth = b.eth := rfl
@[simp] theorem Block.updFlowTx_flowRx (b : Block) (i : Nat) (f : FlowTx → FlowTx) : (b.updFlowTx i f).flowRx = b.flowRx := rfl
@[simp] theorem Block.updFlowTx_outFrames (b : Block) (i : Nat) (f : FlowTx → FlowTx) : (b.updFlowTx i f).outFrames = b.outFrames := rfl
@[simp] theorem Block.updFlowTx_stalls (b : Block) (i : Nat) (f : FlowTx → FlowTx) : (b.updFlowTx i f).stalls = b.stalls := rfl
@[simp] theorem Block.updFlowTx_watch (b : Block) (i : Nat) (f : FlowTx → FlowTx) : (b.updFlowTx i f).watch = b.watch := rfl
@[simp] theorem Block.updFlowTx_checks (b : Block) (i : Nat) (f : FlowTx → FlowTx) : (b.updFlowTx i f).checks = b.checks := rfl
@[simp] theorem Block.updFlowTx_carve (b : Block) (i : Nat) (f : FlowTx → FlowTx) : (b.updFlowTx i f).carve = b.carve := rfl
@[simp] theorem Block.updFlowTx_yard (b : Block) (i : Nat) (f : FlowTx → FlowTx) : (b.updFlowTx i f).yard = b.yard := rfl
@[simp] theorem Block.updFlowTx_fabPorts (b : Block) (i : Nat) (f : FlowTx → FlowTx) : (b.updFlowTx i f).fabPorts = b.fabPorts := rfl
@[simp] theorem Block.updFlowTx_adverts (b : Block) (i : Nat) (f : FlowTx → FlowTx) : (b.updFlowTx i f).adverts = b.adverts := rfl
@[simp] theorem Block.updFlowTx_grants (b : Block) (i : Nat) (f : FlowTx → FlowTx) : (b.updFlowTx i f).grants = b.grants := rfl
@[simp] theorem Block.updFlowTx_withheld (b : Block) (i : Nat) (f : FlowTx → FlowTx) : (b.updFlowTx i f).withheld = b.withheld := rfl
@[simp] theorem Block.updFlowTx_subs (b : Block) (i : Nat) (f : FlowTx → FlowTx) : (b.updFlowTx i f).subs = b.subs := rfl
@[simp] theorem Block.updFlowTx_rings (b : Block) (i : Nat) (f : FlowTx → FlowTx) : (b.updFlowTx i f).rings = b.rings := rfl
@[simp] theorem Block.updFlowTx_asks (b : Block) (i : Nat) (f : FlowTx → FlowTx) : (b.updFlowTx i f).asks = b.asks := rfl
@[simp] theorem Block.updFlowTx_stored (b : Block) (i : Nat) (f : FlowTx → FlowTx) : (b.updFlowTx i f).stored = b.stored := rfl
@[simp] theorem Block.updFlowTx_tid (b : Block) (i : Nat) (f : FlowTx → FlowTx) : (b.updFlowTx i f).tid = b.tid := rfl
@[simp] theorem Block.updFlowTx_allow (b : Block) (i : Nat) (f : FlowTx → FlowTx) : (b.updFlowTx i f).allow = b.allow := rfl
@[simp] theorem Block.updFlowTx_mirrors (b : Block) (i : Nat) (f : FlowTx → FlowTx) : (b.updFlowTx i f).mirrors = b.mirrors := rfl
@[simp] theorem Block.updFlowTx_keys (b : Block) (i : Nat) (f : FlowTx → FlowTx) : (b.updFlowTx i f).keys = b.keys := rfl
@[simp] theorem Block.updFlowTx_pins (b : Block) (i : Nat) (f : FlowTx → FlowTx) : (b.updFlowTx i f).pins = b.pins := rfl
@[simp] theorem Block.updFlowTx_cox (b : Block) (i : Nat) (f : FlowTx → FlowTx) : (b.updFlowTx i f).cox = b.cox := rfl
@[simp] theorem Block.updFlowTx_headSt (b : Block) (i : Nat) (f : FlowTx → FlowTx) : (b.updFlowTx i f).headSt = b.headSt := rfl
@[simp] theorem Block.updFlowTx_colour (b : Block) (i : Nat) (f : FlowTx → FlowTx) : (b.updFlowTx i f).colour = b.colour := rfl
@[simp] theorem Block.updFlowTx_guard (b : Block) (i : Nat) (f : FlowTx → FlowTx) : (b.updFlowTx i f).guard = b.guard := rfl
@[simp] theorem Block.updFlowTx_stills (b : Block) (i : Nat) (f : FlowTx → FlowTx) : (b.updFlowTx i f).stills = b.stills := rfl
@[simp] theorem Block.updFlowTx_safetyReset (b : Block) (i : Nat) (f : FlowTx → FlowTx) : (b.updFlowTx i f).safetyReset = b.safetyReset := rfl
@[simp] theorem Block.updFlowTx_aud (b : Block) (i : Nat) (f : FlowTx → FlowTx) : (b.updFlowTx i f).aud = b.aud := rfl
@[simp] theorem Block.updFlowTx_wit (b : Block) (i : Nat) (f : FlowTx → FlowTx) : (b.updFlowTx i f).wit = b.wit := rfl
@[simp] theorem Block.updFlowTx_twin (b : Block) (i : Nat) (f : FlowTx → FlowTx) : (b.updFlowTx i f).twin = b.twin := rfl
@[simp] theorem Block.updFlowTx_released (b : Block) (i : Nat) (f : FlowTx → FlowTx) : (b.updFlowTx i f).released = b.released := rfl
@[simp] theorem Block.updFlowTx_flash (b : Block) (i : Nat) (f : FlowTx → FlowTx) : (b.updFlowTx i f).flash = b.flash := rfl
@[simp] theorem Block.updFlowTx_start (b : Block) (i : Nat) (f : FlowTx → FlowTx) : (b.updFlowTx i f).start = b.start := rfl
@[simp] theorem Block.updFlowTx_pwr (b : Block) (i : Nat) (f : FlowTx → FlowTx) : (b.updFlowTx i f).pwr = b.pwr := rfl
@[simp] theorem Block.updFlowTx_flt (b : Block) (i : Nat) (f : FlowTx → FlowTx) : (b.updFlowTx i f).flt = b.flt := rfl
@[simp] theorem Block.updFlowTx_mbx (b : Block) (i : Nat) (f : FlowTx → FlowTx) : (b.updFlowTx i f).mbx = b.mbx := rfl
@[simp] theorem Block.updFlowTx_mat (b : Block) (i : Nat) (f : FlowTx → FlowTx) : (b.updFlowTx i f).mat = b.mat := rfl
@[simp] theorem Block.updFlowTx_sys (b : Block) (i : Nat) (f : FlowTx → FlowTx) : (b.updFlowTx i f).sys = b.sys := rfl
@[simp] theorem Block.updFlowTx_fld (b : Block) (i : Nat) (f : FlowTx → FlowTx) (fd : Field) (ix : Nat) : (b.updFlowTx i f).fld fd ix = b.fld fd ix := rfl
@[simp] theorem Block.updFlowTx_flowTx (b : Block) (i : Nat) (f : FlowTx → FlowTx) : (b.updFlowTx i f).flowTx = b.flowTx.upd i f := rfl
@[simp] theorem Block.updFport_regs (b : Block) (q : Nat) (f : FabPort → FabPort) : (b.updFport q f).regs = b.regs := rfl
@[simp] theorem Block.updFport_out (b : Block) (q : Nat) (f : FabPort → FabPort) : (b.updFport q f).out = b.out := rfl
@[simp] theorem Block.updFport_free (b : Block) (q : Nat) (f : FabPort → FabPort) : (b.updFport q f).free = b.free := rfl
@[simp] theorem Block.updFport_replies (b : Block) (q : Nat) (f : FabPort → FabPort) : (b.updFport q f).replies = b.replies := rfl
@[simp] theorem Block.updFport_dev (b : Block) (q : Nat) (f : FabPort → FabPort) : (b.updFport q f).dev = b.dev := rfl
@[simp] theorem Block.updFport_time (b : Block) (q : Nat) (f : FabPort → FabPort) : (b.updFport q f).time = b.time := rfl
@[simp] theorem Block.updFport_refs (b : Block) (q : Nat) (f : FabPort → FabPort) : (b.updFport q f).refs = b.refs := rfl
@[simp] theorem Block.updFport_pll (b : Block) (q : Nat) (f : FabPort → FabPort) : (b.updFport q f).pll = b.pll := rfl
@[simp] theorem Block.updFport_oscLost (b : Block) (q : Nat) (f : FabPort → FabPort) : (b.updFport q f).oscLost = b.oscLost := rfl
@[simp] theorem Block.updFport_lanes (b : Block) (q : Nat) (f : FabPort → FabPort) : (b.updFport q f).lanes = b.lanes := rfl
@[simp] theorem Block.updFport_bring (b : Block) (q : Nat) (f : FabPort → FabPort) : (b.updFport q f).bring = b.bring := rfl
@[simp] theorem Block.updFport_sdiRx (b : Block) (q : Nat) (f : FabPort → FabPort) : (b.updFport q f).sdiRx = b.sdiRx := rfl
@[simp] theorem Block.updFport_sdiTx (b : Block) (q : Nat) (f : FabPort → FabPort) : (b.updFport q f).sdiTx = b.sdiTx := rfl
@[simp] theorem Block.updFport_eth (b : Block) (q : Nat) (f : FabPort → FabPort) : (b.updFport q f).eth = b.eth := rfl
@[simp] theorem Block.updFport_flowRx (b : Block) (q : Nat) (f : FabPort → FabPort) : (b.updFport q f).flowRx = b.flowRx := rfl
@[simp] theorem Block.updFport_flowTx (b : Block) (q : Nat) (f : FabPort → FabPort) : (b.updFport q f).flowTx = b.flowTx := rfl
@[simp] theorem Block.updFport_outFrames (b : Block) (q : Nat) (f : FabPort → FabPort) : (b.updFport q f).outFrames = b.outFrames := rfl
@[simp] theorem Block.updFport_stalls (b : Block) (q : Nat) (f : FabPort → FabPort) : (b.updFport q f).stalls = b.stalls := rfl
@[simp] theorem Block.updFport_watch (b : Block) (q : Nat) (f : FabPort → FabPort) : (b.updFport q f).watch = b.watch := rfl
@[simp] theorem Block.updFport_checks (b : Block) (q : Nat) (f : FabPort → FabPort) : (b.updFport q f).checks = b.checks := rfl
@[simp] theorem Block.updFport_carve (b : Block) (q : Nat) (f : FabPort → FabPort) : (b.updFport q f).carve = b.carve := rfl
@[simp] theorem Block.updFport_yard (b : Block) (q : Nat) (f : FabPort → FabPort) : (b.updFport q f).yard = b.yard := rfl
@[simp] theorem Block.updFport_adverts (b : Block) (q : Nat) (f : FabPort → FabPort) : (b.updFport q f).adverts = b.adverts := rfl
@[simp] theorem Block.updFport_grants (b : Block) (q : Nat) (f : FabPort → FabPort) : (b.updFport q f).grants = b.grants := rfl
@[simp] theorem Block.updFport_withheld (b : Block) (q : Nat) (f : FabPort → FabPort) : (b.updFport q f).withheld = b.withheld := rfl
@[simp] theorem Block.updFport_subs (b : Block) (q : Nat) (f : FabPort → FabPort) : (b.updFport q f).subs = b.subs := rfl
@[simp] theorem Block.updFport_rings (b : Block) (q : Nat) (f : FabPort → FabPort) : (b.updFport q f).rings = b.rings := rfl
@[simp] theorem Block.updFport_asks (b : Block) (q : Nat) (f : FabPort → FabPort) : (b.updFport q f).asks = b.asks := rfl
@[simp] theorem Block.updFport_stored (b : Block) (q : Nat) (f : FabPort → FabPort) : (b.updFport q f).stored = b.stored := rfl
@[simp] theorem Block.updFport_tid (b : Block) (q : Nat) (f : FabPort → FabPort) : (b.updFport q f).tid = b.tid := rfl
@[simp] theorem Block.updFport_allow (b : Block) (q : Nat) (f : FabPort → FabPort) : (b.updFport q f).allow = b.allow := rfl
@[simp] theorem Block.updFport_mirrors (b : Block) (q : Nat) (f : FabPort → FabPort) : (b.updFport q f).mirrors = b.mirrors := rfl
@[simp] theorem Block.updFport_keys (b : Block) (q : Nat) (f : FabPort → FabPort) : (b.updFport q f).keys = b.keys := rfl
@[simp] theorem Block.updFport_pins (b : Block) (q : Nat) (f : FabPort → FabPort) : (b.updFport q f).pins = b.pins := rfl
@[simp] theorem Block.updFport_cox (b : Block) (q : Nat) (f : FabPort → FabPort) : (b.updFport q f).cox = b.cox := rfl
@[simp] theorem Block.updFport_headSt (b : Block) (q : Nat) (f : FabPort → FabPort) : (b.updFport q f).headSt = b.headSt := rfl
@[simp] theorem Block.updFport_colour (b : Block) (q : Nat) (f : FabPort → FabPort) : (b.updFport q f).colour = b.colour := rfl
@[simp] theorem Block.updFport_guard (b : Block) (q : Nat) (f : FabPort → FabPort) : (b.updFport q f).guard = b.guard := rfl
@[simp] theorem Block.updFport_stills (b : Block) (q : Nat) (f : FabPort → FabPort) : (b.updFport q f).stills = b.stills := rfl
@[simp] theorem Block.updFport_safetyReset (b : Block) (q : Nat) (f : FabPort → FabPort) : (b.updFport q f).safetyReset = b.safetyReset := rfl
@[simp] theorem Block.updFport_aud (b : Block) (q : Nat) (f : FabPort → FabPort) : (b.updFport q f).aud = b.aud := rfl
@[simp] theorem Block.updFport_wit (b : Block) (q : Nat) (f : FabPort → FabPort) : (b.updFport q f).wit = b.wit := rfl
@[simp] theorem Block.updFport_twin (b : Block) (q : Nat) (f : FabPort → FabPort) : (b.updFport q f).twin = b.twin := rfl
@[simp] theorem Block.updFport_released (b : Block) (q : Nat) (f : FabPort → FabPort) : (b.updFport q f).released = b.released := rfl
@[simp] theorem Block.updFport_flash (b : Block) (q : Nat) (f : FabPort → FabPort) : (b.updFport q f).flash = b.flash := rfl
@[simp] theorem Block.updFport_start (b : Block) (q : Nat) (f : FabPort → FabPort) : (b.updFport q f).start = b.start := rfl
@[simp] theorem Block.updFport_pwr (b : Block) (q : Nat) (f : FabPort → FabPort) : (b.updFport q f).pwr = b.pwr := rfl
@[simp] theorem Block.updFport_flt (b : Block) (q : Nat) (f : FabPort → FabPort) : (b.updFport q f).flt = b.flt := rfl
@[simp] theorem Block.updFport_mbx (b : Block) (q : Nat) (f : FabPort → FabPort) : (b.updFport q f).mbx = b.mbx := rfl
@[simp] theorem Block.updFport_mat (b : Block) (q : Nat) (f : FabPort → FabPort) : (b.updFport q f).mat = b.mat := rfl
@[simp] theorem Block.updFport_sys (b : Block) (q : Nat) (f : FabPort → FabPort) : (b.updFport q f).sys = b.sys := rfl
@[simp] theorem Block.updFport_fld (b : Block) (q : Nat) (f : FabPort → FabPort) (fd : Field) (ix : Nat) : (b.updFport q f).fld fd ix = b.fld fd ix := rfl
@[simp] theorem Block.updFport_fabPorts (b : Block) (q : Nat) (f : FabPort → FabPort) : (b.updFport q f).fabPorts = b.fabPorts.upd q f := rfl
@[simp] theorem Block.updCredit_regs (b : Block) (q k : Nat) (f : CreditSt → CreditSt) : (b.updCredit q k f).regs = b.regs := rfl
@[simp] theorem Block.updCredit_out (b : Block) (q k : Nat) (f : CreditSt → CreditSt) : (b.updCredit q k f).out = b.out := rfl
@[simp] theorem Block.updCredit_free (b : Block) (q k : Nat) (f : CreditSt → CreditSt) : (b.updCredit q k f).free = b.free := rfl
@[simp] theorem Block.updCredit_replies (b : Block) (q k : Nat) (f : CreditSt → CreditSt) : (b.updCredit q k f).replies = b.replies := rfl
@[simp] theorem Block.updCredit_dev (b : Block) (q k : Nat) (f : CreditSt → CreditSt) : (b.updCredit q k f).dev = b.dev := rfl
@[simp] theorem Block.updCredit_time (b : Block) (q k : Nat) (f : CreditSt → CreditSt) : (b.updCredit q k f).time = b.time := rfl
@[simp] theorem Block.updCredit_refs (b : Block) (q k : Nat) (f : CreditSt → CreditSt) : (b.updCredit q k f).refs = b.refs := rfl
@[simp] theorem Block.updCredit_pll (b : Block) (q k : Nat) (f : CreditSt → CreditSt) : (b.updCredit q k f).pll = b.pll := rfl
@[simp] theorem Block.updCredit_oscLost (b : Block) (q k : Nat) (f : CreditSt → CreditSt) : (b.updCredit q k f).oscLost = b.oscLost := rfl
@[simp] theorem Block.updCredit_lanes (b : Block) (q k : Nat) (f : CreditSt → CreditSt) : (b.updCredit q k f).lanes = b.lanes := rfl
@[simp] theorem Block.updCredit_bring (b : Block) (q k : Nat) (f : CreditSt → CreditSt) : (b.updCredit q k f).bring = b.bring := rfl
@[simp] theorem Block.updCredit_sdiRx (b : Block) (q k : Nat) (f : CreditSt → CreditSt) : (b.updCredit q k f).sdiRx = b.sdiRx := rfl
@[simp] theorem Block.updCredit_sdiTx (b : Block) (q k : Nat) (f : CreditSt → CreditSt) : (b.updCredit q k f).sdiTx = b.sdiTx := rfl
@[simp] theorem Block.updCredit_eth (b : Block) (q k : Nat) (f : CreditSt → CreditSt) : (b.updCredit q k f).eth = b.eth := rfl
@[simp] theorem Block.updCredit_flowRx (b : Block) (q k : Nat) (f : CreditSt → CreditSt) : (b.updCredit q k f).flowRx = b.flowRx := rfl
@[simp] theorem Block.updCredit_flowTx (b : Block) (q k : Nat) (f : CreditSt → CreditSt) : (b.updCredit q k f).flowTx = b.flowTx := rfl
@[simp] theorem Block.updCredit_outFrames (b : Block) (q k : Nat) (f : CreditSt → CreditSt) : (b.updCredit q k f).outFrames = b.outFrames := rfl
@[simp] theorem Block.updCredit_stalls (b : Block) (q k : Nat) (f : CreditSt → CreditSt) : (b.updCredit q k f).stalls = b.stalls := rfl
@[simp] theorem Block.updCredit_watch (b : Block) (q k : Nat) (f : CreditSt → CreditSt) : (b.updCredit q k f).watch = b.watch := rfl
@[simp] theorem Block.updCredit_checks (b : Block) (q k : Nat) (f : CreditSt → CreditSt) : (b.updCredit q k f).checks = b.checks := rfl
@[simp] theorem Block.updCredit_carve (b : Block) (q k : Nat) (f : CreditSt → CreditSt) : (b.updCredit q k f).carve = b.carve := rfl
@[simp] theorem Block.updCredit_yard (b : Block) (q k : Nat) (f : CreditSt → CreditSt) : (b.updCredit q k f).yard = b.yard := rfl
@[simp] theorem Block.updCredit_adverts (b : Block) (q k : Nat) (f : CreditSt → CreditSt) : (b.updCredit q k f).adverts = b.adverts := rfl
@[simp] theorem Block.updCredit_grants (b : Block) (q k : Nat) (f : CreditSt → CreditSt) : (b.updCredit q k f).grants = b.grants := rfl
@[simp] theorem Block.updCredit_withheld (b : Block) (q k : Nat) (f : CreditSt → CreditSt) : (b.updCredit q k f).withheld = b.withheld := rfl
@[simp] theorem Block.updCredit_subs (b : Block) (q k : Nat) (f : CreditSt → CreditSt) : (b.updCredit q k f).subs = b.subs := rfl
@[simp] theorem Block.updCredit_rings (b : Block) (q k : Nat) (f : CreditSt → CreditSt) : (b.updCredit q k f).rings = b.rings := rfl
@[simp] theorem Block.updCredit_asks (b : Block) (q k : Nat) (f : CreditSt → CreditSt) : (b.updCredit q k f).asks = b.asks := rfl
@[simp] theorem Block.updCredit_stored (b : Block) (q k : Nat) (f : CreditSt → CreditSt) : (b.updCredit q k f).stored = b.stored := rfl
@[simp] theorem Block.updCredit_tid (b : Block) (q k : Nat) (f : CreditSt → CreditSt) : (b.updCredit q k f).tid = b.tid := rfl
@[simp] theorem Block.updCredit_allow (b : Block) (q k : Nat) (f : CreditSt → CreditSt) : (b.updCredit q k f).allow = b.allow := rfl
@[simp] theorem Block.updCredit_mirrors (b : Block) (q k : Nat) (f : CreditSt → CreditSt) : (b.updCredit q k f).mirrors = b.mirrors := rfl
@[simp] theorem Block.updCredit_keys (b : Block) (q k : Nat) (f : CreditSt → CreditSt) : (b.updCredit q k f).keys = b.keys := rfl
@[simp] theorem Block.updCredit_pins (b : Block) (q k : Nat) (f : CreditSt → CreditSt) : (b.updCredit q k f).pins = b.pins := rfl
@[simp] theorem Block.updCredit_cox (b : Block) (q k : Nat) (f : CreditSt → CreditSt) : (b.updCredit q k f).cox = b.cox := rfl
@[simp] theorem Block.updCredit_headSt (b : Block) (q k : Nat) (f : CreditSt → CreditSt) : (b.updCredit q k f).headSt = b.headSt := rfl
@[simp] theorem Block.updCredit_colour (b : Block) (q k : Nat) (f : CreditSt → CreditSt) : (b.updCredit q k f).colour = b.colour := rfl
@[simp] theorem Block.updCredit_guard (b : Block) (q k : Nat) (f : CreditSt → CreditSt) : (b.updCredit q k f).guard = b.guard := rfl
@[simp] theorem Block.updCredit_stills (b : Block) (q k : Nat) (f : CreditSt → CreditSt) : (b.updCredit q k f).stills = b.stills := rfl
@[simp] theorem Block.updCredit_safetyReset (b : Block) (q k : Nat) (f : CreditSt → CreditSt) : (b.updCredit q k f).safetyReset = b.safetyReset := rfl
@[simp] theorem Block.updCredit_aud (b : Block) (q k : Nat) (f : CreditSt → CreditSt) : (b.updCredit q k f).aud = b.aud := rfl
@[simp] theorem Block.updCredit_wit (b : Block) (q k : Nat) (f : CreditSt → CreditSt) : (b.updCredit q k f).wit = b.wit := rfl
@[simp] theorem Block.updCredit_twin (b : Block) (q k : Nat) (f : CreditSt → CreditSt) : (b.updCredit q k f).twin = b.twin := rfl
@[simp] theorem Block.updCredit_released (b : Block) (q k : Nat) (f : CreditSt → CreditSt) : (b.updCredit q k f).released = b.released := rfl
@[simp] theorem Block.updCredit_flash (b : Block) (q k : Nat) (f : CreditSt → CreditSt) : (b.updCredit q k f).flash = b.flash := rfl
@[simp] theorem Block.updCredit_start (b : Block) (q k : Nat) (f : CreditSt → CreditSt) : (b.updCredit q k f).start = b.start := rfl
@[simp] theorem Block.updCredit_pwr (b : Block) (q k : Nat) (f : CreditSt → CreditSt) : (b.updCredit q k f).pwr = b.pwr := rfl
@[simp] theorem Block.updCredit_flt (b : Block) (q k : Nat) (f : CreditSt → CreditSt) : (b.updCredit q k f).flt = b.flt := rfl
@[simp] theorem Block.updCredit_mbx (b : Block) (q k : Nat) (f : CreditSt → CreditSt) : (b.updCredit q k f).mbx = b.mbx := rfl
@[simp] theorem Block.updCredit_mat (b : Block) (q k : Nat) (f : CreditSt → CreditSt) : (b.updCredit q k f).mat = b.mat := rfl
@[simp] theorem Block.updCredit_sys (b : Block) (q k : Nat) (f : CreditSt → CreditSt) : (b.updCredit q k f).sys = b.sys := rfl
@[simp] theorem Block.updCredit_fld (b : Block) (q k : Nat) (f : CreditSt → CreditSt) (fd : Field) (ix : Nat) : (b.updCredit q k f).fld fd ix = b.fld fd ix := rfl
@[simp] theorem Block.updFlt_regs (b : Block) (f : FaultSt → FaultSt) : (b.updFlt f).regs = b.regs := rfl
@[simp] theorem Block.updFlt_out (b : Block) (f : FaultSt → FaultSt) : (b.updFlt f).out = b.out := rfl
@[simp] theorem Block.updFlt_free (b : Block) (f : FaultSt → FaultSt) : (b.updFlt f).free = b.free := rfl
@[simp] theorem Block.updFlt_replies (b : Block) (f : FaultSt → FaultSt) : (b.updFlt f).replies = b.replies := rfl
@[simp] theorem Block.updFlt_dev (b : Block) (f : FaultSt → FaultSt) : (b.updFlt f).dev = b.dev := rfl
@[simp] theorem Block.updFlt_time (b : Block) (f : FaultSt → FaultSt) : (b.updFlt f).time = b.time := rfl
@[simp] theorem Block.updFlt_refs (b : Block) (f : FaultSt → FaultSt) : (b.updFlt f).refs = b.refs := rfl
@[simp] theorem Block.updFlt_pll (b : Block) (f : FaultSt → FaultSt) : (b.updFlt f).pll = b.pll := rfl
@[simp] theorem Block.updFlt_oscLost (b : Block) (f : FaultSt → FaultSt) : (b.updFlt f).oscLost = b.oscLost := rfl
@[simp] theorem Block.updFlt_lanes (b : Block) (f : FaultSt → FaultSt) : (b.updFlt f).lanes = b.lanes := rfl
@[simp] theorem Block.updFlt_bring (b : Block) (f : FaultSt → FaultSt) : (b.updFlt f).bring = b.bring := rfl
@[simp] theorem Block.updFlt_sdiRx (b : Block) (f : FaultSt → FaultSt) : (b.updFlt f).sdiRx = b.sdiRx := rfl
@[simp] theorem Block.updFlt_sdiTx (b : Block) (f : FaultSt → FaultSt) : (b.updFlt f).sdiTx = b.sdiTx := rfl
@[simp] theorem Block.updFlt_eth (b : Block) (f : FaultSt → FaultSt) : (b.updFlt f).eth = b.eth := rfl
@[simp] theorem Block.updFlt_flowRx (b : Block) (f : FaultSt → FaultSt) : (b.updFlt f).flowRx = b.flowRx := rfl
@[simp] theorem Block.updFlt_flowTx (b : Block) (f : FaultSt → FaultSt) : (b.updFlt f).flowTx = b.flowTx := rfl
@[simp] theorem Block.updFlt_outFrames (b : Block) (f : FaultSt → FaultSt) : (b.updFlt f).outFrames = b.outFrames := rfl
@[simp] theorem Block.updFlt_stalls (b : Block) (f : FaultSt → FaultSt) : (b.updFlt f).stalls = b.stalls := rfl
@[simp] theorem Block.updFlt_watch (b : Block) (f : FaultSt → FaultSt) : (b.updFlt f).watch = b.watch := rfl
@[simp] theorem Block.updFlt_checks (b : Block) (f : FaultSt → FaultSt) : (b.updFlt f).checks = b.checks := rfl
@[simp] theorem Block.updFlt_carve (b : Block) (f : FaultSt → FaultSt) : (b.updFlt f).carve = b.carve := rfl
@[simp] theorem Block.updFlt_yard (b : Block) (f : FaultSt → FaultSt) : (b.updFlt f).yard = b.yard := rfl
@[simp] theorem Block.updFlt_fabPorts (b : Block) (f : FaultSt → FaultSt) : (b.updFlt f).fabPorts = b.fabPorts := rfl
@[simp] theorem Block.updFlt_adverts (b : Block) (f : FaultSt → FaultSt) : (b.updFlt f).adverts = b.adverts := rfl
@[simp] theorem Block.updFlt_grants (b : Block) (f : FaultSt → FaultSt) : (b.updFlt f).grants = b.grants := rfl
@[simp] theorem Block.updFlt_withheld (b : Block) (f : FaultSt → FaultSt) : (b.updFlt f).withheld = b.withheld := rfl
@[simp] theorem Block.updFlt_subs (b : Block) (f : FaultSt → FaultSt) : (b.updFlt f).subs = b.subs := rfl
@[simp] theorem Block.updFlt_rings (b : Block) (f : FaultSt → FaultSt) : (b.updFlt f).rings = b.rings := rfl
@[simp] theorem Block.updFlt_asks (b : Block) (f : FaultSt → FaultSt) : (b.updFlt f).asks = b.asks := rfl
@[simp] theorem Block.updFlt_stored (b : Block) (f : FaultSt → FaultSt) : (b.updFlt f).stored = b.stored := rfl
@[simp] theorem Block.updFlt_tid (b : Block) (f : FaultSt → FaultSt) : (b.updFlt f).tid = b.tid := rfl
@[simp] theorem Block.updFlt_allow (b : Block) (f : FaultSt → FaultSt) : (b.updFlt f).allow = b.allow := rfl
@[simp] theorem Block.updFlt_mirrors (b : Block) (f : FaultSt → FaultSt) : (b.updFlt f).mirrors = b.mirrors := rfl
@[simp] theorem Block.updFlt_keys (b : Block) (f : FaultSt → FaultSt) : (b.updFlt f).keys = b.keys := rfl
@[simp] theorem Block.updFlt_pins (b : Block) (f : FaultSt → FaultSt) : (b.updFlt f).pins = b.pins := rfl
@[simp] theorem Block.updFlt_cox (b : Block) (f : FaultSt → FaultSt) : (b.updFlt f).cox = b.cox := rfl
@[simp] theorem Block.updFlt_headSt (b : Block) (f : FaultSt → FaultSt) : (b.updFlt f).headSt = b.headSt := rfl
@[simp] theorem Block.updFlt_colour (b : Block) (f : FaultSt → FaultSt) : (b.updFlt f).colour = b.colour := rfl
@[simp] theorem Block.updFlt_guard (b : Block) (f : FaultSt → FaultSt) : (b.updFlt f).guard = b.guard := rfl
@[simp] theorem Block.updFlt_stills (b : Block) (f : FaultSt → FaultSt) : (b.updFlt f).stills = b.stills := rfl
@[simp] theorem Block.updFlt_safetyReset (b : Block) (f : FaultSt → FaultSt) : (b.updFlt f).safetyReset = b.safetyReset := rfl
@[simp] theorem Block.updFlt_aud (b : Block) (f : FaultSt → FaultSt) : (b.updFlt f).aud = b.aud := rfl
@[simp] theorem Block.updFlt_wit (b : Block) (f : FaultSt → FaultSt) : (b.updFlt f).wit = b.wit := rfl
@[simp] theorem Block.updFlt_twin (b : Block) (f : FaultSt → FaultSt) : (b.updFlt f).twin = b.twin := rfl
@[simp] theorem Block.updFlt_released (b : Block) (f : FaultSt → FaultSt) : (b.updFlt f).released = b.released := rfl
@[simp] theorem Block.updFlt_flash (b : Block) (f : FaultSt → FaultSt) : (b.updFlt f).flash = b.flash := rfl
@[simp] theorem Block.updFlt_start (b : Block) (f : FaultSt → FaultSt) : (b.updFlt f).start = b.start := rfl
@[simp] theorem Block.updFlt_pwr (b : Block) (f : FaultSt → FaultSt) : (b.updFlt f).pwr = b.pwr := rfl
@[simp] theorem Block.updFlt_mbx (b : Block) (f : FaultSt → FaultSt) : (b.updFlt f).mbx = b.mbx := rfl
@[simp] theorem Block.updFlt_mat (b : Block) (f : FaultSt → FaultSt) : (b.updFlt f).mat = b.mat := rfl
@[simp] theorem Block.updFlt_sys (b : Block) (f : FaultSt → FaultSt) : (b.updFlt f).sys = b.sys := rfl
@[simp] theorem Block.updFlt_fld (b : Block) (f : FaultSt → FaultSt) (fd : Field) (ix : Nat) : (b.updFlt f).fld fd ix = b.fld fd ix := rfl
@[simp] theorem Block.updFlt_flt (b : Block) (f : FaultSt → FaultSt) : (b.updFlt f).flt = f b.flt := rfl
@[simp] theorem Block.updFlash_regs (b : Block) (f : FlashSt → FlashSt) : (b.updFlash f).regs = b.regs := rfl
@[simp] theorem Block.updFlash_out (b : Block) (f : FlashSt → FlashSt) : (b.updFlash f).out = b.out := rfl
@[simp] theorem Block.updFlash_free (b : Block) (f : FlashSt → FlashSt) : (b.updFlash f).free = b.free := rfl
@[simp] theorem Block.updFlash_replies (b : Block) (f : FlashSt → FlashSt) : (b.updFlash f).replies = b.replies := rfl
@[simp] theorem Block.updFlash_dev (b : Block) (f : FlashSt → FlashSt) : (b.updFlash f).dev = b.dev := rfl
@[simp] theorem Block.updFlash_time (b : Block) (f : FlashSt → FlashSt) : (b.updFlash f).time = b.time := rfl
@[simp] theorem Block.updFlash_refs (b : Block) (f : FlashSt → FlashSt) : (b.updFlash f).refs = b.refs := rfl
@[simp] theorem Block.updFlash_pll (b : Block) (f : FlashSt → FlashSt) : (b.updFlash f).pll = b.pll := rfl
@[simp] theorem Block.updFlash_oscLost (b : Block) (f : FlashSt → FlashSt) : (b.updFlash f).oscLost = b.oscLost := rfl
@[simp] theorem Block.updFlash_lanes (b : Block) (f : FlashSt → FlashSt) : (b.updFlash f).lanes = b.lanes := rfl
@[simp] theorem Block.updFlash_bring (b : Block) (f : FlashSt → FlashSt) : (b.updFlash f).bring = b.bring := rfl
@[simp] theorem Block.updFlash_sdiRx (b : Block) (f : FlashSt → FlashSt) : (b.updFlash f).sdiRx = b.sdiRx := rfl
@[simp] theorem Block.updFlash_sdiTx (b : Block) (f : FlashSt → FlashSt) : (b.updFlash f).sdiTx = b.sdiTx := rfl
@[simp] theorem Block.updFlash_eth (b : Block) (f : FlashSt → FlashSt) : (b.updFlash f).eth = b.eth := rfl
@[simp] theorem Block.updFlash_flowRx (b : Block) (f : FlashSt → FlashSt) : (b.updFlash f).flowRx = b.flowRx := rfl
@[simp] theorem Block.updFlash_flowTx (b : Block) (f : FlashSt → FlashSt) : (b.updFlash f).flowTx = b.flowTx := rfl
@[simp] theorem Block.updFlash_outFrames (b : Block) (f : FlashSt → FlashSt) : (b.updFlash f).outFrames = b.outFrames := rfl
@[simp] theorem Block.updFlash_stalls (b : Block) (f : FlashSt → FlashSt) : (b.updFlash f).stalls = b.stalls := rfl
@[simp] theorem Block.updFlash_watch (b : Block) (f : FlashSt → FlashSt) : (b.updFlash f).watch = b.watch := rfl
@[simp] theorem Block.updFlash_checks (b : Block) (f : FlashSt → FlashSt) : (b.updFlash f).checks = b.checks := rfl
@[simp] theorem Block.updFlash_carve (b : Block) (f : FlashSt → FlashSt) : (b.updFlash f).carve = b.carve := rfl
@[simp] theorem Block.updFlash_yard (b : Block) (f : FlashSt → FlashSt) : (b.updFlash f).yard = b.yard := rfl
@[simp] theorem Block.updFlash_fabPorts (b : Block) (f : FlashSt → FlashSt) : (b.updFlash f).fabPorts = b.fabPorts := rfl
@[simp] theorem Block.updFlash_adverts (b : Block) (f : FlashSt → FlashSt) : (b.updFlash f).adverts = b.adverts := rfl
@[simp] theorem Block.updFlash_grants (b : Block) (f : FlashSt → FlashSt) : (b.updFlash f).grants = b.grants := rfl
@[simp] theorem Block.updFlash_withheld (b : Block) (f : FlashSt → FlashSt) : (b.updFlash f).withheld = b.withheld := rfl
@[simp] theorem Block.updFlash_subs (b : Block) (f : FlashSt → FlashSt) : (b.updFlash f).subs = b.subs := rfl
@[simp] theorem Block.updFlash_rings (b : Block) (f : FlashSt → FlashSt) : (b.updFlash f).rings = b.rings := rfl
@[simp] theorem Block.updFlash_asks (b : Block) (f : FlashSt → FlashSt) : (b.updFlash f).asks = b.asks := rfl
@[simp] theorem Block.updFlash_stored (b : Block) (f : FlashSt → FlashSt) : (b.updFlash f).stored = b.stored := rfl
@[simp] theorem Block.updFlash_tid (b : Block) (f : FlashSt → FlashSt) : (b.updFlash f).tid = b.tid := rfl
@[simp] theorem Block.updFlash_allow (b : Block) (f : FlashSt → FlashSt) : (b.updFlash f).allow = b.allow := rfl
@[simp] theorem Block.updFlash_mirrors (b : Block) (f : FlashSt → FlashSt) : (b.updFlash f).mirrors = b.mirrors := rfl
@[simp] theorem Block.updFlash_keys (b : Block) (f : FlashSt → FlashSt) : (b.updFlash f).keys = b.keys := rfl
@[simp] theorem Block.updFlash_pins (b : Block) (f : FlashSt → FlashSt) : (b.updFlash f).pins = b.pins := rfl
@[simp] theorem Block.updFlash_cox (b : Block) (f : FlashSt → FlashSt) : (b.updFlash f).cox = b.cox := rfl
@[simp] theorem Block.updFlash_headSt (b : Block) (f : FlashSt → FlashSt) : (b.updFlash f).headSt = b.headSt := rfl
@[simp] theorem Block.updFlash_colour (b : Block) (f : FlashSt → FlashSt) : (b.updFlash f).colour = b.colour := rfl
@[simp] theorem Block.updFlash_guard (b : Block) (f : FlashSt → FlashSt) : (b.updFlash f).guard = b.guard := rfl
@[simp] theorem Block.updFlash_stills (b : Block) (f : FlashSt → FlashSt) : (b.updFlash f).stills = b.stills := rfl
@[simp] theorem Block.updFlash_safetyReset (b : Block) (f : FlashSt → FlashSt) : (b.updFlash f).safetyReset = b.safetyReset := rfl
@[simp] theorem Block.updFlash_aud (b : Block) (f : FlashSt → FlashSt) : (b.updFlash f).aud = b.aud := rfl
@[simp] theorem Block.updFlash_wit (b : Block) (f : FlashSt → FlashSt) : (b.updFlash f).wit = b.wit := rfl
@[simp] theorem Block.updFlash_twin (b : Block) (f : FlashSt → FlashSt) : (b.updFlash f).twin = b.twin := rfl
@[simp] theorem Block.updFlash_released (b : Block) (f : FlashSt → FlashSt) : (b.updFlash f).released = b.released := rfl
@[simp] theorem Block.updFlash_start (b : Block) (f : FlashSt → FlashSt) : (b.updFlash f).start = b.start := rfl
@[simp] theorem Block.updFlash_pwr (b : Block) (f : FlashSt → FlashSt) : (b.updFlash f).pwr = b.pwr := rfl
@[simp] theorem Block.updFlash_flt (b : Block) (f : FlashSt → FlashSt) : (b.updFlash f).flt = b.flt := rfl
@[simp] theorem Block.updFlash_mbx (b : Block) (f : FlashSt → FlashSt) : (b.updFlash f).mbx = b.mbx := rfl
@[simp] theorem Block.updFlash_mat (b : Block) (f : FlashSt → FlashSt) : (b.updFlash f).mat = b.mat := rfl
@[simp] theorem Block.updFlash_sys (b : Block) (f : FlashSt → FlashSt) : (b.updFlash f).sys = b.sys := rfl
@[simp] theorem Block.updFlash_fld (b : Block) (f : FlashSt → FlashSt) (fd : Field) (ix : Nat) : (b.updFlash f).fld fd ix = b.fld fd ix := rfl
@[simp] theorem Block.updFlash_flash (b : Block) (f : FlashSt → FlashSt) : (b.updFlash f).flash = f b.flash := rfl
@[simp] theorem Block.updStart_regs (b : Block) (f : StartSt → StartSt) : (b.updStart f).regs = b.regs := rfl
@[simp] theorem Block.updStart_out (b : Block) (f : StartSt → StartSt) : (b.updStart f).out = b.out := rfl
@[simp] theorem Block.updStart_free (b : Block) (f : StartSt → StartSt) : (b.updStart f).free = b.free := rfl
@[simp] theorem Block.updStart_replies (b : Block) (f : StartSt → StartSt) : (b.updStart f).replies = b.replies := rfl
@[simp] theorem Block.updStart_dev (b : Block) (f : StartSt → StartSt) : (b.updStart f).dev = b.dev := rfl
@[simp] theorem Block.updStart_time (b : Block) (f : StartSt → StartSt) : (b.updStart f).time = b.time := rfl
@[simp] theorem Block.updStart_refs (b : Block) (f : StartSt → StartSt) : (b.updStart f).refs = b.refs := rfl
@[simp] theorem Block.updStart_pll (b : Block) (f : StartSt → StartSt) : (b.updStart f).pll = b.pll := rfl
@[simp] theorem Block.updStart_oscLost (b : Block) (f : StartSt → StartSt) : (b.updStart f).oscLost = b.oscLost := rfl
@[simp] theorem Block.updStart_lanes (b : Block) (f : StartSt → StartSt) : (b.updStart f).lanes = b.lanes := rfl
@[simp] theorem Block.updStart_bring (b : Block) (f : StartSt → StartSt) : (b.updStart f).bring = b.bring := rfl
@[simp] theorem Block.updStart_sdiRx (b : Block) (f : StartSt → StartSt) : (b.updStart f).sdiRx = b.sdiRx := rfl
@[simp] theorem Block.updStart_sdiTx (b : Block) (f : StartSt → StartSt) : (b.updStart f).sdiTx = b.sdiTx := rfl
@[simp] theorem Block.updStart_eth (b : Block) (f : StartSt → StartSt) : (b.updStart f).eth = b.eth := rfl
@[simp] theorem Block.updStart_flowRx (b : Block) (f : StartSt → StartSt) : (b.updStart f).flowRx = b.flowRx := rfl
@[simp] theorem Block.updStart_flowTx (b : Block) (f : StartSt → StartSt) : (b.updStart f).flowTx = b.flowTx := rfl
@[simp] theorem Block.updStart_outFrames (b : Block) (f : StartSt → StartSt) : (b.updStart f).outFrames = b.outFrames := rfl
@[simp] theorem Block.updStart_stalls (b : Block) (f : StartSt → StartSt) : (b.updStart f).stalls = b.stalls := rfl
@[simp] theorem Block.updStart_watch (b : Block) (f : StartSt → StartSt) : (b.updStart f).watch = b.watch := rfl
@[simp] theorem Block.updStart_checks (b : Block) (f : StartSt → StartSt) : (b.updStart f).checks = b.checks := rfl
@[simp] theorem Block.updStart_carve (b : Block) (f : StartSt → StartSt) : (b.updStart f).carve = b.carve := rfl
@[simp] theorem Block.updStart_yard (b : Block) (f : StartSt → StartSt) : (b.updStart f).yard = b.yard := rfl
@[simp] theorem Block.updStart_fabPorts (b : Block) (f : StartSt → StartSt) : (b.updStart f).fabPorts = b.fabPorts := rfl
@[simp] theorem Block.updStart_adverts (b : Block) (f : StartSt → StartSt) : (b.updStart f).adverts = b.adverts := rfl
@[simp] theorem Block.updStart_grants (b : Block) (f : StartSt → StartSt) : (b.updStart f).grants = b.grants := rfl
@[simp] theorem Block.updStart_withheld (b : Block) (f : StartSt → StartSt) : (b.updStart f).withheld = b.withheld := rfl
@[simp] theorem Block.updStart_subs (b : Block) (f : StartSt → StartSt) : (b.updStart f).subs = b.subs := rfl
@[simp] theorem Block.updStart_rings (b : Block) (f : StartSt → StartSt) : (b.updStart f).rings = b.rings := rfl
@[simp] theorem Block.updStart_asks (b : Block) (f : StartSt → StartSt) : (b.updStart f).asks = b.asks := rfl
@[simp] theorem Block.updStart_stored (b : Block) (f : StartSt → StartSt) : (b.updStart f).stored = b.stored := rfl
@[simp] theorem Block.updStart_tid (b : Block) (f : StartSt → StartSt) : (b.updStart f).tid = b.tid := rfl
@[simp] theorem Block.updStart_allow (b : Block) (f : StartSt → StartSt) : (b.updStart f).allow = b.allow := rfl
@[simp] theorem Block.updStart_mirrors (b : Block) (f : StartSt → StartSt) : (b.updStart f).mirrors = b.mirrors := rfl
@[simp] theorem Block.updStart_keys (b : Block) (f : StartSt → StartSt) : (b.updStart f).keys = b.keys := rfl
@[simp] theorem Block.updStart_pins (b : Block) (f : StartSt → StartSt) : (b.updStart f).pins = b.pins := rfl
@[simp] theorem Block.updStart_cox (b : Block) (f : StartSt → StartSt) : (b.updStart f).cox = b.cox := rfl
@[simp] theorem Block.updStart_headSt (b : Block) (f : StartSt → StartSt) : (b.updStart f).headSt = b.headSt := rfl
@[simp] theorem Block.updStart_colour (b : Block) (f : StartSt → StartSt) : (b.updStart f).colour = b.colour := rfl
@[simp] theorem Block.updStart_guard (b : Block) (f : StartSt → StartSt) : (b.updStart f).guard = b.guard := rfl
@[simp] theorem Block.updStart_stills (b : Block) (f : StartSt → StartSt) : (b.updStart f).stills = b.stills := rfl
@[simp] theorem Block.updStart_safetyReset (b : Block) (f : StartSt → StartSt) : (b.updStart f).safetyReset = b.safetyReset := rfl
@[simp] theorem Block.updStart_aud (b : Block) (f : StartSt → StartSt) : (b.updStart f).aud = b.aud := rfl
@[simp] theorem Block.updStart_wit (b : Block) (f : StartSt → StartSt) : (b.updStart f).wit = b.wit := rfl
@[simp] theorem Block.updStart_twin (b : Block) (f : StartSt → StartSt) : (b.updStart f).twin = b.twin := rfl
@[simp] theorem Block.updStart_released (b : Block) (f : StartSt → StartSt) : (b.updStart f).released = b.released := rfl
@[simp] theorem Block.updStart_flash (b : Block) (f : StartSt → StartSt) : (b.updStart f).flash = b.flash := rfl
@[simp] theorem Block.updStart_pwr (b : Block) (f : StartSt → StartSt) : (b.updStart f).pwr = b.pwr := rfl
@[simp] theorem Block.updStart_flt (b : Block) (f : StartSt → StartSt) : (b.updStart f).flt = b.flt := rfl
@[simp] theorem Block.updStart_mbx (b : Block) (f : StartSt → StartSt) : (b.updStart f).mbx = b.mbx := rfl
@[simp] theorem Block.updStart_mat (b : Block) (f : StartSt → StartSt) : (b.updStart f).mat = b.mat := rfl
@[simp] theorem Block.updStart_sys (b : Block) (f : StartSt → StartSt) : (b.updStart f).sys = b.sys := rfl
@[simp] theorem Block.updStart_fld (b : Block) (f : StartSt → StartSt) (fd : Field) (ix : Nat) : (b.updStart f).fld fd ix = b.fld fd ix := rfl
@[simp] theorem Block.updStart_start (b : Block) (f : StartSt → StartSt) : (b.updStart f).start = f b.start := rfl
@[simp] theorem Block.updHead_regs (b : Block) (h : Nat) (f : HeadSt → HeadSt) : (b.updHead h f).regs = b.regs := rfl
@[simp] theorem Block.updHead_out (b : Block) (h : Nat) (f : HeadSt → HeadSt) : (b.updHead h f).out = b.out := rfl
@[simp] theorem Block.updHead_free (b : Block) (h : Nat) (f : HeadSt → HeadSt) : (b.updHead h f).free = b.free := rfl
@[simp] theorem Block.updHead_replies (b : Block) (h : Nat) (f : HeadSt → HeadSt) : (b.updHead h f).replies = b.replies := rfl
@[simp] theorem Block.updHead_dev (b : Block) (h : Nat) (f : HeadSt → HeadSt) : (b.updHead h f).dev = b.dev := rfl
@[simp] theorem Block.updHead_time (b : Block) (h : Nat) (f : HeadSt → HeadSt) : (b.updHead h f).time = b.time := rfl
@[simp] theorem Block.updHead_refs (b : Block) (h : Nat) (f : HeadSt → HeadSt) : (b.updHead h f).refs = b.refs := rfl
@[simp] theorem Block.updHead_pll (b : Block) (h : Nat) (f : HeadSt → HeadSt) : (b.updHead h f).pll = b.pll := rfl
@[simp] theorem Block.updHead_oscLost (b : Block) (h : Nat) (f : HeadSt → HeadSt) : (b.updHead h f).oscLost = b.oscLost := rfl
@[simp] theorem Block.updHead_lanes (b : Block) (h : Nat) (f : HeadSt → HeadSt) : (b.updHead h f).lanes = b.lanes := rfl
@[simp] theorem Block.updHead_bring (b : Block) (h : Nat) (f : HeadSt → HeadSt) : (b.updHead h f).bring = b.bring := rfl
@[simp] theorem Block.updHead_sdiRx (b : Block) (h : Nat) (f : HeadSt → HeadSt) : (b.updHead h f).sdiRx = b.sdiRx := rfl
@[simp] theorem Block.updHead_sdiTx (b : Block) (h : Nat) (f : HeadSt → HeadSt) : (b.updHead h f).sdiTx = b.sdiTx := rfl
@[simp] theorem Block.updHead_eth (b : Block) (h : Nat) (f : HeadSt → HeadSt) : (b.updHead h f).eth = b.eth := rfl
@[simp] theorem Block.updHead_flowRx (b : Block) (h : Nat) (f : HeadSt → HeadSt) : (b.updHead h f).flowRx = b.flowRx := rfl
@[simp] theorem Block.updHead_flowTx (b : Block) (h : Nat) (f : HeadSt → HeadSt) : (b.updHead h f).flowTx = b.flowTx := rfl
@[simp] theorem Block.updHead_outFrames (b : Block) (h : Nat) (f : HeadSt → HeadSt) : (b.updHead h f).outFrames = b.outFrames := rfl
@[simp] theorem Block.updHead_stalls (b : Block) (h : Nat) (f : HeadSt → HeadSt) : (b.updHead h f).stalls = b.stalls := rfl
@[simp] theorem Block.updHead_watch (b : Block) (h : Nat) (f : HeadSt → HeadSt) : (b.updHead h f).watch = b.watch := rfl
@[simp] theorem Block.updHead_checks (b : Block) (h : Nat) (f : HeadSt → HeadSt) : (b.updHead h f).checks = b.checks := rfl
@[simp] theorem Block.updHead_carve (b : Block) (h : Nat) (f : HeadSt → HeadSt) : (b.updHead h f).carve = b.carve := rfl
@[simp] theorem Block.updHead_yard (b : Block) (h : Nat) (f : HeadSt → HeadSt) : (b.updHead h f).yard = b.yard := rfl
@[simp] theorem Block.updHead_fabPorts (b : Block) (h : Nat) (f : HeadSt → HeadSt) : (b.updHead h f).fabPorts = b.fabPorts := rfl
@[simp] theorem Block.updHead_adverts (b : Block) (h : Nat) (f : HeadSt → HeadSt) : (b.updHead h f).adverts = b.adverts := rfl
@[simp] theorem Block.updHead_grants (b : Block) (h : Nat) (f : HeadSt → HeadSt) : (b.updHead h f).grants = b.grants := rfl
@[simp] theorem Block.updHead_withheld (b : Block) (h : Nat) (f : HeadSt → HeadSt) : (b.updHead h f).withheld = b.withheld := rfl
@[simp] theorem Block.updHead_subs (b : Block) (h : Nat) (f : HeadSt → HeadSt) : (b.updHead h f).subs = b.subs := rfl
@[simp] theorem Block.updHead_rings (b : Block) (h : Nat) (f : HeadSt → HeadSt) : (b.updHead h f).rings = b.rings := rfl
@[simp] theorem Block.updHead_asks (b : Block) (h : Nat) (f : HeadSt → HeadSt) : (b.updHead h f).asks = b.asks := rfl
@[simp] theorem Block.updHead_stored (b : Block) (h : Nat) (f : HeadSt → HeadSt) : (b.updHead h f).stored = b.stored := rfl
@[simp] theorem Block.updHead_tid (b : Block) (h : Nat) (f : HeadSt → HeadSt) : (b.updHead h f).tid = b.tid := rfl
@[simp] theorem Block.updHead_allow (b : Block) (h : Nat) (f : HeadSt → HeadSt) : (b.updHead h f).allow = b.allow := rfl
@[simp] theorem Block.updHead_mirrors (b : Block) (h : Nat) (f : HeadSt → HeadSt) : (b.updHead h f).mirrors = b.mirrors := rfl
@[simp] theorem Block.updHead_keys (b : Block) (h : Nat) (f : HeadSt → HeadSt) : (b.updHead h f).keys = b.keys := rfl
@[simp] theorem Block.updHead_pins (b : Block) (h : Nat) (f : HeadSt → HeadSt) : (b.updHead h f).pins = b.pins := rfl
@[simp] theorem Block.updHead_cox (b : Block) (h : Nat) (f : HeadSt → HeadSt) : (b.updHead h f).cox = b.cox := rfl
@[simp] theorem Block.updHead_colour (b : Block) (h : Nat) (f : HeadSt → HeadSt) : (b.updHead h f).colour = b.colour := rfl
@[simp] theorem Block.updHead_guard (b : Block) (h : Nat) (f : HeadSt → HeadSt) : (b.updHead h f).guard = b.guard := rfl
@[simp] theorem Block.updHead_stills (b : Block) (h : Nat) (f : HeadSt → HeadSt) : (b.updHead h f).stills = b.stills := rfl
@[simp] theorem Block.updHead_safetyReset (b : Block) (h : Nat) (f : HeadSt → HeadSt) : (b.updHead h f).safetyReset = b.safetyReset := rfl
@[simp] theorem Block.updHead_aud (b : Block) (h : Nat) (f : HeadSt → HeadSt) : (b.updHead h f).aud = b.aud := rfl
@[simp] theorem Block.updHead_wit (b : Block) (h : Nat) (f : HeadSt → HeadSt) : (b.updHead h f).wit = b.wit := rfl
@[simp] theorem Block.updHead_twin (b : Block) (h : Nat) (f : HeadSt → HeadSt) : (b.updHead h f).twin = b.twin := rfl
@[simp] theorem Block.updHead_released (b : Block) (h : Nat) (f : HeadSt → HeadSt) : (b.updHead h f).released = b.released := rfl
@[simp] theorem Block.updHead_flash (b : Block) (h : Nat) (f : HeadSt → HeadSt) : (b.updHead h f).flash = b.flash := rfl
@[simp] theorem Block.updHead_start (b : Block) (h : Nat) (f : HeadSt → HeadSt) : (b.updHead h f).start = b.start := rfl
@[simp] theorem Block.updHead_pwr (b : Block) (h : Nat) (f : HeadSt → HeadSt) : (b.updHead h f).pwr = b.pwr := rfl
@[simp] theorem Block.updHead_flt (b : Block) (h : Nat) (f : HeadSt → HeadSt) : (b.updHead h f).flt = b.flt := rfl
@[simp] theorem Block.updHead_mbx (b : Block) (h : Nat) (f : HeadSt → HeadSt) : (b.updHead h f).mbx = b.mbx := rfl
@[simp] theorem Block.updHead_mat (b : Block) (h : Nat) (f : HeadSt → HeadSt) : (b.updHead h f).mat = b.mat := rfl
@[simp] theorem Block.updHead_sys (b : Block) (h : Nat) (f : HeadSt → HeadSt) : (b.updHead h f).sys = b.sys := rfl
@[simp] theorem Block.updHead_fld (b : Block) (h : Nat) (f : HeadSt → HeadSt) (fd : Field) (ix : Nat) : (b.updHead h f).fld fd ix = b.fld fd ix := rfl
@[simp] theorem Block.updHead_headSt (b : Block) (h : Nat) (f : HeadSt → HeadSt) : (b.updHead h f).headSt = b.headSt.upd h f := rfl
@[simp] theorem Block.updKeys_regs (b : Block) (f : KeysSt → KeysSt) : (b.updKeys f).regs = b.regs := rfl
@[simp] theorem Block.updKeys_out (b : Block) (f : KeysSt → KeysSt) : (b.updKeys f).out = b.out := rfl
@[simp] theorem Block.updKeys_free (b : Block) (f : KeysSt → KeysSt) : (b.updKeys f).free = b.free := rfl
@[simp] theorem Block.updKeys_replies (b : Block) (f : KeysSt → KeysSt) : (b.updKeys f).replies = b.replies := rfl
@[simp] theorem Block.updKeys_dev (b : Block) (f : KeysSt → KeysSt) : (b.updKeys f).dev = b.dev := rfl
@[simp] theorem Block.updKeys_time (b : Block) (f : KeysSt → KeysSt) : (b.updKeys f).time = b.time := rfl
@[simp] theorem Block.updKeys_refs (b : Block) (f : KeysSt → KeysSt) : (b.updKeys f).refs = b.refs := rfl
@[simp] theorem Block.updKeys_pll (b : Block) (f : KeysSt → KeysSt) : (b.updKeys f).pll = b.pll := rfl
@[simp] theorem Block.updKeys_oscLost (b : Block) (f : KeysSt → KeysSt) : (b.updKeys f).oscLost = b.oscLost := rfl
@[simp] theorem Block.updKeys_lanes (b : Block) (f : KeysSt → KeysSt) : (b.updKeys f).lanes = b.lanes := rfl
@[simp] theorem Block.updKeys_bring (b : Block) (f : KeysSt → KeysSt) : (b.updKeys f).bring = b.bring := rfl
@[simp] theorem Block.updKeys_sdiRx (b : Block) (f : KeysSt → KeysSt) : (b.updKeys f).sdiRx = b.sdiRx := rfl
@[simp] theorem Block.updKeys_sdiTx (b : Block) (f : KeysSt → KeysSt) : (b.updKeys f).sdiTx = b.sdiTx := rfl
@[simp] theorem Block.updKeys_eth (b : Block) (f : KeysSt → KeysSt) : (b.updKeys f).eth = b.eth := rfl
@[simp] theorem Block.updKeys_flowRx (b : Block) (f : KeysSt → KeysSt) : (b.updKeys f).flowRx = b.flowRx := rfl
@[simp] theorem Block.updKeys_flowTx (b : Block) (f : KeysSt → KeysSt) : (b.updKeys f).flowTx = b.flowTx := rfl
@[simp] theorem Block.updKeys_outFrames (b : Block) (f : KeysSt → KeysSt) : (b.updKeys f).outFrames = b.outFrames := rfl
@[simp] theorem Block.updKeys_stalls (b : Block) (f : KeysSt → KeysSt) : (b.updKeys f).stalls = b.stalls := rfl
@[simp] theorem Block.updKeys_watch (b : Block) (f : KeysSt → KeysSt) : (b.updKeys f).watch = b.watch := rfl
@[simp] theorem Block.updKeys_checks (b : Block) (f : KeysSt → KeysSt) : (b.updKeys f).checks = b.checks := rfl
@[simp] theorem Block.updKeys_carve (b : Block) (f : KeysSt → KeysSt) : (b.updKeys f).carve = b.carve := rfl
@[simp] theorem Block.updKeys_yard (b : Block) (f : KeysSt → KeysSt) : (b.updKeys f).yard = b.yard := rfl
@[simp] theorem Block.updKeys_fabPorts (b : Block) (f : KeysSt → KeysSt) : (b.updKeys f).fabPorts = b.fabPorts := rfl
@[simp] theorem Block.updKeys_adverts (b : Block) (f : KeysSt → KeysSt) : (b.updKeys f).adverts = b.adverts := rfl
@[simp] theorem Block.updKeys_grants (b : Block) (f : KeysSt → KeysSt) : (b.updKeys f).grants = b.grants := rfl
@[simp] theorem Block.updKeys_withheld (b : Block) (f : KeysSt → KeysSt) : (b.updKeys f).withheld = b.withheld := rfl
@[simp] theorem Block.updKeys_subs (b : Block) (f : KeysSt → KeysSt) : (b.updKeys f).subs = b.subs := rfl
@[simp] theorem Block.updKeys_rings (b : Block) (f : KeysSt → KeysSt) : (b.updKeys f).rings = b.rings := rfl
@[simp] theorem Block.updKeys_asks (b : Block) (f : KeysSt → KeysSt) : (b.updKeys f).asks = b.asks := rfl
@[simp] theorem Block.updKeys_stored (b : Block) (f : KeysSt → KeysSt) : (b.updKeys f).stored = b.stored := rfl
@[simp] theorem Block.updKeys_tid (b : Block) (f : KeysSt → KeysSt) : (b.updKeys f).tid = b.tid := rfl
@[simp] theorem Block.updKeys_allow (b : Block) (f : KeysSt → KeysSt) : (b.updKeys f).allow = b.allow := rfl
@[simp] theorem Block.updKeys_mirrors (b : Block) (f : KeysSt → KeysSt) : (b.updKeys f).mirrors = b.mirrors := rfl
@[simp] theorem Block.updKeys_pins (b : Block) (f : KeysSt → KeysSt) : (b.updKeys f).pins = b.pins := rfl
@[simp] theorem Block.updKeys_cox (b : Block) (f : KeysSt → KeysSt) : (b.updKeys f).cox = b.cox := rfl
@[simp] theorem Block.updKeys_headSt (b : Block) (f : KeysSt → KeysSt) : (b.updKeys f).headSt = b.headSt := rfl
@[simp] theorem Block.updKeys_colour (b : Block) (f : KeysSt → KeysSt) : (b.updKeys f).colour = b.colour := rfl
@[simp] theorem Block.updKeys_guard (b : Block) (f : KeysSt → KeysSt) : (b.updKeys f).guard = b.guard := rfl
@[simp] theorem Block.updKeys_stills (b : Block) (f : KeysSt → KeysSt) : (b.updKeys f).stills = b.stills := rfl
@[simp] theorem Block.updKeys_safetyReset (b : Block) (f : KeysSt → KeysSt) : (b.updKeys f).safetyReset = b.safetyReset := rfl
@[simp] theorem Block.updKeys_aud (b : Block) (f : KeysSt → KeysSt) : (b.updKeys f).aud = b.aud := rfl
@[simp] theorem Block.updKeys_wit (b : Block) (f : KeysSt → KeysSt) : (b.updKeys f).wit = b.wit := rfl
@[simp] theorem Block.updKeys_twin (b : Block) (f : KeysSt → KeysSt) : (b.updKeys f).twin = b.twin := rfl
@[simp] theorem Block.updKeys_released (b : Block) (f : KeysSt → KeysSt) : (b.updKeys f).released = b.released := rfl
@[simp] theorem Block.updKeys_flash (b : Block) (f : KeysSt → KeysSt) : (b.updKeys f).flash = b.flash := rfl
@[simp] theorem Block.updKeys_start (b : Block) (f : KeysSt → KeysSt) : (b.updKeys f).start = b.start := rfl
@[simp] theorem Block.updKeys_pwr (b : Block) (f : KeysSt → KeysSt) : (b.updKeys f).pwr = b.pwr := rfl
@[simp] theorem Block.updKeys_flt (b : Block) (f : KeysSt → KeysSt) : (b.updKeys f).flt = b.flt := rfl
@[simp] theorem Block.updKeys_mbx (b : Block) (f : KeysSt → KeysSt) : (b.updKeys f).mbx = b.mbx := rfl
@[simp] theorem Block.updKeys_mat (b : Block) (f : KeysSt → KeysSt) : (b.updKeys f).mat = b.mat := rfl
@[simp] theorem Block.updKeys_sys (b : Block) (f : KeysSt → KeysSt) : (b.updKeys f).sys = b.sys := rfl
@[simp] theorem Block.updKeys_fld (b : Block) (f : KeysSt → KeysSt) (fd : Field) (ix : Nat) : (b.updKeys f).fld fd ix = b.fld fd ix := rfl
@[simp] theorem Block.updKeys_keys (b : Block) (f : KeysSt → KeysSt) : (b.updKeys f).keys = f b.keys := rfl
@[simp] theorem Block.updLane_regs (b : Block) (l : Nat) (f : LaneSt → LaneSt) : (b.updLane l f).regs = b.regs := rfl
@[simp] theorem Block.updLane_out (b : Block) (l : Nat) (f : LaneSt → LaneSt) : (b.updLane l f).out = b.out := rfl
@[simp] theorem Block.updLane_free (b : Block) (l : Nat) (f : LaneSt → LaneSt) : (b.updLane l f).free = b.free := rfl
@[simp] theorem Block.updLane_replies (b : Block) (l : Nat) (f : LaneSt → LaneSt) : (b.updLane l f).replies = b.replies := rfl
@[simp] theorem Block.updLane_dev (b : Block) (l : Nat) (f : LaneSt → LaneSt) : (b.updLane l f).dev = b.dev := rfl
@[simp] theorem Block.updLane_time (b : Block) (l : Nat) (f : LaneSt → LaneSt) : (b.updLane l f).time = b.time := rfl
@[simp] theorem Block.updLane_refs (b : Block) (l : Nat) (f : LaneSt → LaneSt) : (b.updLane l f).refs = b.refs := rfl
@[simp] theorem Block.updLane_pll (b : Block) (l : Nat) (f : LaneSt → LaneSt) : (b.updLane l f).pll = b.pll := rfl
@[simp] theorem Block.updLane_oscLost (b : Block) (l : Nat) (f : LaneSt → LaneSt) : (b.updLane l f).oscLost = b.oscLost := rfl
@[simp] theorem Block.updLane_bring (b : Block) (l : Nat) (f : LaneSt → LaneSt) : (b.updLane l f).bring = b.bring := rfl
@[simp] theorem Block.updLane_sdiRx (b : Block) (l : Nat) (f : LaneSt → LaneSt) : (b.updLane l f).sdiRx = b.sdiRx := rfl
@[simp] theorem Block.updLane_sdiTx (b : Block) (l : Nat) (f : LaneSt → LaneSt) : (b.updLane l f).sdiTx = b.sdiTx := rfl
@[simp] theorem Block.updLane_eth (b : Block) (l : Nat) (f : LaneSt → LaneSt) : (b.updLane l f).eth = b.eth := rfl
@[simp] theorem Block.updLane_flowRx (b : Block) (l : Nat) (f : LaneSt → LaneSt) : (b.updLane l f).flowRx = b.flowRx := rfl
@[simp] theorem Block.updLane_flowTx (b : Block) (l : Nat) (f : LaneSt → LaneSt) : (b.updLane l f).flowTx = b.flowTx := rfl
@[simp] theorem Block.updLane_outFrames (b : Block) (l : Nat) (f : LaneSt → LaneSt) : (b.updLane l f).outFrames = b.outFrames := rfl
@[simp] theorem Block.updLane_stalls (b : Block) (l : Nat) (f : LaneSt → LaneSt) : (b.updLane l f).stalls = b.stalls := rfl
@[simp] theorem Block.updLane_watch (b : Block) (l : Nat) (f : LaneSt → LaneSt) : (b.updLane l f).watch = b.watch := rfl
@[simp] theorem Block.updLane_checks (b : Block) (l : Nat) (f : LaneSt → LaneSt) : (b.updLane l f).checks = b.checks := rfl
@[simp] theorem Block.updLane_carve (b : Block) (l : Nat) (f : LaneSt → LaneSt) : (b.updLane l f).carve = b.carve := rfl
@[simp] theorem Block.updLane_yard (b : Block) (l : Nat) (f : LaneSt → LaneSt) : (b.updLane l f).yard = b.yard := rfl
@[simp] theorem Block.updLane_fabPorts (b : Block) (l : Nat) (f : LaneSt → LaneSt) : (b.updLane l f).fabPorts = b.fabPorts := rfl
@[simp] theorem Block.updLane_adverts (b : Block) (l : Nat) (f : LaneSt → LaneSt) : (b.updLane l f).adverts = b.adverts := rfl
@[simp] theorem Block.updLane_grants (b : Block) (l : Nat) (f : LaneSt → LaneSt) : (b.updLane l f).grants = b.grants := rfl
@[simp] theorem Block.updLane_withheld (b : Block) (l : Nat) (f : LaneSt → LaneSt) : (b.updLane l f).withheld = b.withheld := rfl
@[simp] theorem Block.updLane_subs (b : Block) (l : Nat) (f : LaneSt → LaneSt) : (b.updLane l f).subs = b.subs := rfl
@[simp] theorem Block.updLane_rings (b : Block) (l : Nat) (f : LaneSt → LaneSt) : (b.updLane l f).rings = b.rings := rfl
@[simp] theorem Block.updLane_asks (b : Block) (l : Nat) (f : LaneSt → LaneSt) : (b.updLane l f).asks = b.asks := rfl
@[simp] theorem Block.updLane_stored (b : Block) (l : Nat) (f : LaneSt → LaneSt) : (b.updLane l f).stored = b.stored := rfl
@[simp] theorem Block.updLane_tid (b : Block) (l : Nat) (f : LaneSt → LaneSt) : (b.updLane l f).tid = b.tid := rfl
@[simp] theorem Block.updLane_allow (b : Block) (l : Nat) (f : LaneSt → LaneSt) : (b.updLane l f).allow = b.allow := rfl
@[simp] theorem Block.updLane_mirrors (b : Block) (l : Nat) (f : LaneSt → LaneSt) : (b.updLane l f).mirrors = b.mirrors := rfl
@[simp] theorem Block.updLane_keys (b : Block) (l : Nat) (f : LaneSt → LaneSt) : (b.updLane l f).keys = b.keys := rfl
@[simp] theorem Block.updLane_pins (b : Block) (l : Nat) (f : LaneSt → LaneSt) : (b.updLane l f).pins = b.pins := rfl
@[simp] theorem Block.updLane_cox (b : Block) (l : Nat) (f : LaneSt → LaneSt) : (b.updLane l f).cox = b.cox := rfl
@[simp] theorem Block.updLane_headSt (b : Block) (l : Nat) (f : LaneSt → LaneSt) : (b.updLane l f).headSt = b.headSt := rfl
@[simp] theorem Block.updLane_colour (b : Block) (l : Nat) (f : LaneSt → LaneSt) : (b.updLane l f).colour = b.colour := rfl
@[simp] theorem Block.updLane_guard (b : Block) (l : Nat) (f : LaneSt → LaneSt) : (b.updLane l f).guard = b.guard := rfl
@[simp] theorem Block.updLane_stills (b : Block) (l : Nat) (f : LaneSt → LaneSt) : (b.updLane l f).stills = b.stills := rfl
@[simp] theorem Block.updLane_safetyReset (b : Block) (l : Nat) (f : LaneSt → LaneSt) : (b.updLane l f).safetyReset = b.safetyReset := rfl
@[simp] theorem Block.updLane_aud (b : Block) (l : Nat) (f : LaneSt → LaneSt) : (b.updLane l f).aud = b.aud := rfl
@[simp] theorem Block.updLane_wit (b : Block) (l : Nat) (f : LaneSt → LaneSt) : (b.updLane l f).wit = b.wit := rfl
@[simp] theorem Block.updLane_twin (b : Block) (l : Nat) (f : LaneSt → LaneSt) : (b.updLane l f).twin = b.twin := rfl
@[simp] theorem Block.updLane_released (b : Block) (l : Nat) (f : LaneSt → LaneSt) : (b.updLane l f).released = b.released := rfl
@[simp] theorem Block.updLane_flash (b : Block) (l : Nat) (f : LaneSt → LaneSt) : (b.updLane l f).flash = b.flash := rfl
@[simp] theorem Block.updLane_start (b : Block) (l : Nat) (f : LaneSt → LaneSt) : (b.updLane l f).start = b.start := rfl
@[simp] theorem Block.updLane_pwr (b : Block) (l : Nat) (f : LaneSt → LaneSt) : (b.updLane l f).pwr = b.pwr := rfl
@[simp] theorem Block.updLane_flt (b : Block) (l : Nat) (f : LaneSt → LaneSt) : (b.updLane l f).flt = b.flt := rfl
@[simp] theorem Block.updLane_mbx (b : Block) (l : Nat) (f : LaneSt → LaneSt) : (b.updLane l f).mbx = b.mbx := rfl
@[simp] theorem Block.updLane_mat (b : Block) (l : Nat) (f : LaneSt → LaneSt) : (b.updLane l f).mat = b.mat := rfl
@[simp] theorem Block.updLane_sys (b : Block) (l : Nat) (f : LaneSt → LaneSt) : (b.updLane l f).sys = b.sys := rfl
@[simp] theorem Block.updLane_fld (b : Block) (l : Nat) (f : LaneSt → LaneSt) (fd : Field) (ix : Nat) : (b.updLane l f).fld fd ix = b.fld fd ix := rfl
@[simp] theorem Block.updLane_lanes (b : Block) (l : Nat) (f : LaneSt → LaneSt) : (b.updLane l f).lanes = b.lanes.upd l f := rfl
@[simp] theorem Block.updPort_regs (b : Block) (q : Nat) (f : Bring → Bring) : (b.updPort q f).regs = b.regs := rfl
@[simp] theorem Block.updPort_out (b : Block) (q : Nat) (f : Bring → Bring) : (b.updPort q f).out = b.out := rfl
@[simp] theorem Block.updPort_free (b : Block) (q : Nat) (f : Bring → Bring) : (b.updPort q f).free = b.free := rfl
@[simp] theorem Block.updPort_replies (b : Block) (q : Nat) (f : Bring → Bring) : (b.updPort q f).replies = b.replies := rfl
@[simp] theorem Block.updPort_dev (b : Block) (q : Nat) (f : Bring → Bring) : (b.updPort q f).dev = b.dev := rfl
@[simp] theorem Block.updPort_time (b : Block) (q : Nat) (f : Bring → Bring) : (b.updPort q f).time = b.time := rfl
@[simp] theorem Block.updPort_refs (b : Block) (q : Nat) (f : Bring → Bring) : (b.updPort q f).refs = b.refs := rfl
@[simp] theorem Block.updPort_pll (b : Block) (q : Nat) (f : Bring → Bring) : (b.updPort q f).pll = b.pll := rfl
@[simp] theorem Block.updPort_oscLost (b : Block) (q : Nat) (f : Bring → Bring) : (b.updPort q f).oscLost = b.oscLost := rfl
@[simp] theorem Block.updPort_lanes (b : Block) (q : Nat) (f : Bring → Bring) : (b.updPort q f).lanes = b.lanes := rfl
@[simp] theorem Block.updPort_sdiRx (b : Block) (q : Nat) (f : Bring → Bring) : (b.updPort q f).sdiRx = b.sdiRx := rfl
@[simp] theorem Block.updPort_sdiTx (b : Block) (q : Nat) (f : Bring → Bring) : (b.updPort q f).sdiTx = b.sdiTx := rfl
@[simp] theorem Block.updPort_eth (b : Block) (q : Nat) (f : Bring → Bring) : (b.updPort q f).eth = b.eth := rfl
@[simp] theorem Block.updPort_flowRx (b : Block) (q : Nat) (f : Bring → Bring) : (b.updPort q f).flowRx = b.flowRx := rfl
@[simp] theorem Block.updPort_flowTx (b : Block) (q : Nat) (f : Bring → Bring) : (b.updPort q f).flowTx = b.flowTx := rfl
@[simp] theorem Block.updPort_outFrames (b : Block) (q : Nat) (f : Bring → Bring) : (b.updPort q f).outFrames = b.outFrames := rfl
@[simp] theorem Block.updPort_stalls (b : Block) (q : Nat) (f : Bring → Bring) : (b.updPort q f).stalls = b.stalls := rfl
@[simp] theorem Block.updPort_watch (b : Block) (q : Nat) (f : Bring → Bring) : (b.updPort q f).watch = b.watch := rfl
@[simp] theorem Block.updPort_checks (b : Block) (q : Nat) (f : Bring → Bring) : (b.updPort q f).checks = b.checks := rfl
@[simp] theorem Block.updPort_carve (b : Block) (q : Nat) (f : Bring → Bring) : (b.updPort q f).carve = b.carve := rfl
@[simp] theorem Block.updPort_yard (b : Block) (q : Nat) (f : Bring → Bring) : (b.updPort q f).yard = b.yard := rfl
@[simp] theorem Block.updPort_fabPorts (b : Block) (q : Nat) (f : Bring → Bring) : (b.updPort q f).fabPorts = b.fabPorts := rfl
@[simp] theorem Block.updPort_adverts (b : Block) (q : Nat) (f : Bring → Bring) : (b.updPort q f).adverts = b.adverts := rfl
@[simp] theorem Block.updPort_grants (b : Block) (q : Nat) (f : Bring → Bring) : (b.updPort q f).grants = b.grants := rfl
@[simp] theorem Block.updPort_withheld (b : Block) (q : Nat) (f : Bring → Bring) : (b.updPort q f).withheld = b.withheld := rfl
@[simp] theorem Block.updPort_subs (b : Block) (q : Nat) (f : Bring → Bring) : (b.updPort q f).subs = b.subs := rfl
@[simp] theorem Block.updPort_rings (b : Block) (q : Nat) (f : Bring → Bring) : (b.updPort q f).rings = b.rings := rfl
@[simp] theorem Block.updPort_asks (b : Block) (q : Nat) (f : Bring → Bring) : (b.updPort q f).asks = b.asks := rfl
@[simp] theorem Block.updPort_stored (b : Block) (q : Nat) (f : Bring → Bring) : (b.updPort q f).stored = b.stored := rfl
@[simp] theorem Block.updPort_tid (b : Block) (q : Nat) (f : Bring → Bring) : (b.updPort q f).tid = b.tid := rfl
@[simp] theorem Block.updPort_allow (b : Block) (q : Nat) (f : Bring → Bring) : (b.updPort q f).allow = b.allow := rfl
@[simp] theorem Block.updPort_mirrors (b : Block) (q : Nat) (f : Bring → Bring) : (b.updPort q f).mirrors = b.mirrors := rfl
@[simp] theorem Block.updPort_keys (b : Block) (q : Nat) (f : Bring → Bring) : (b.updPort q f).keys = b.keys := rfl
@[simp] theorem Block.updPort_pins (b : Block) (q : Nat) (f : Bring → Bring) : (b.updPort q f).pins = b.pins := rfl
@[simp] theorem Block.updPort_cox (b : Block) (q : Nat) (f : Bring → Bring) : (b.updPort q f).cox = b.cox := rfl
@[simp] theorem Block.updPort_headSt (b : Block) (q : Nat) (f : Bring → Bring) : (b.updPort q f).headSt = b.headSt := rfl
@[simp] theorem Block.updPort_colour (b : Block) (q : Nat) (f : Bring → Bring) : (b.updPort q f).colour = b.colour := rfl
@[simp] theorem Block.updPort_guard (b : Block) (q : Nat) (f : Bring → Bring) : (b.updPort q f).guard = b.guard := rfl
@[simp] theorem Block.updPort_stills (b : Block) (q : Nat) (f : Bring → Bring) : (b.updPort q f).stills = b.stills := rfl
@[simp] theorem Block.updPort_safetyReset (b : Block) (q : Nat) (f : Bring → Bring) : (b.updPort q f).safetyReset = b.safetyReset := rfl
@[simp] theorem Block.updPort_aud (b : Block) (q : Nat) (f : Bring → Bring) : (b.updPort q f).aud = b.aud := rfl
@[simp] theorem Block.updPort_wit (b : Block) (q : Nat) (f : Bring → Bring) : (b.updPort q f).wit = b.wit := rfl
@[simp] theorem Block.updPort_twin (b : Block) (q : Nat) (f : Bring → Bring) : (b.updPort q f).twin = b.twin := rfl
@[simp] theorem Block.updPort_released (b : Block) (q : Nat) (f : Bring → Bring) : (b.updPort q f).released = b.released := rfl
@[simp] theorem Block.updPort_flash (b : Block) (q : Nat) (f : Bring → Bring) : (b.updPort q f).flash = b.flash := rfl
@[simp] theorem Block.updPort_start (b : Block) (q : Nat) (f : Bring → Bring) : (b.updPort q f).start = b.start := rfl
@[simp] theorem Block.updPort_pwr (b : Block) (q : Nat) (f : Bring → Bring) : (b.updPort q f).pwr = b.pwr := rfl
@[simp] theorem Block.updPort_flt (b : Block) (q : Nat) (f : Bring → Bring) : (b.updPort q f).flt = b.flt := rfl
@[simp] theorem Block.updPort_mbx (b : Block) (q : Nat) (f : Bring → Bring) : (b.updPort q f).mbx = b.mbx := rfl
@[simp] theorem Block.updPort_mat (b : Block) (q : Nat) (f : Bring → Bring) : (b.updPort q f).mat = b.mat := rfl
@[simp] theorem Block.updPort_sys (b : Block) (q : Nat) (f : Bring → Bring) : (b.updPort q f).sys = b.sys := rfl
@[simp] theorem Block.updPort_fld (b : Block) (q : Nat) (f : Bring → Bring) (fd : Field) (ix : Nat) : (b.updPort q f).fld fd ix = b.fld fd ix := rfl
@[simp] theorem Block.updPort_bring (b : Block) (q : Nat) (f : Bring → Bring) : (b.updPort q f).bring = b.bring.upd q f := rfl
@[simp] theorem Block.updMat_regs (b : Block) (f : MatSt → MatSt) : (b.updMat f).regs = b.regs := rfl
@[simp] theorem Block.updMat_out (b : Block) (f : MatSt → MatSt) : (b.updMat f).out = b.out := rfl
@[simp] theorem Block.updMat_free (b : Block) (f : MatSt → MatSt) : (b.updMat f).free = b.free := rfl
@[simp] theorem Block.updMat_replies (b : Block) (f : MatSt → MatSt) : (b.updMat f).replies = b.replies := rfl
@[simp] theorem Block.updMat_dev (b : Block) (f : MatSt → MatSt) : (b.updMat f).dev = b.dev := rfl
@[simp] theorem Block.updMat_time (b : Block) (f : MatSt → MatSt) : (b.updMat f).time = b.time := rfl
@[simp] theorem Block.updMat_refs (b : Block) (f : MatSt → MatSt) : (b.updMat f).refs = b.refs := rfl
@[simp] theorem Block.updMat_pll (b : Block) (f : MatSt → MatSt) : (b.updMat f).pll = b.pll := rfl
@[simp] theorem Block.updMat_oscLost (b : Block) (f : MatSt → MatSt) : (b.updMat f).oscLost = b.oscLost := rfl
@[simp] theorem Block.updMat_lanes (b : Block) (f : MatSt → MatSt) : (b.updMat f).lanes = b.lanes := rfl
@[simp] theorem Block.updMat_bring (b : Block) (f : MatSt → MatSt) : (b.updMat f).bring = b.bring := rfl
@[simp] theorem Block.updMat_sdiRx (b : Block) (f : MatSt → MatSt) : (b.updMat f).sdiRx = b.sdiRx := rfl
@[simp] theorem Block.updMat_sdiTx (b : Block) (f : MatSt → MatSt) : (b.updMat f).sdiTx = b.sdiTx := rfl
@[simp] theorem Block.updMat_eth (b : Block) (f : MatSt → MatSt) : (b.updMat f).eth = b.eth := rfl
@[simp] theorem Block.updMat_flowRx (b : Block) (f : MatSt → MatSt) : (b.updMat f).flowRx = b.flowRx := rfl
@[simp] theorem Block.updMat_flowTx (b : Block) (f : MatSt → MatSt) : (b.updMat f).flowTx = b.flowTx := rfl
@[simp] theorem Block.updMat_outFrames (b : Block) (f : MatSt → MatSt) : (b.updMat f).outFrames = b.outFrames := rfl
@[simp] theorem Block.updMat_stalls (b : Block) (f : MatSt → MatSt) : (b.updMat f).stalls = b.stalls := rfl
@[simp] theorem Block.updMat_watch (b : Block) (f : MatSt → MatSt) : (b.updMat f).watch = b.watch := rfl
@[simp] theorem Block.updMat_checks (b : Block) (f : MatSt → MatSt) : (b.updMat f).checks = b.checks := rfl
@[simp] theorem Block.updMat_carve (b : Block) (f : MatSt → MatSt) : (b.updMat f).carve = b.carve := rfl
@[simp] theorem Block.updMat_yard (b : Block) (f : MatSt → MatSt) : (b.updMat f).yard = b.yard := rfl
@[simp] theorem Block.updMat_fabPorts (b : Block) (f : MatSt → MatSt) : (b.updMat f).fabPorts = b.fabPorts := rfl
@[simp] theorem Block.updMat_adverts (b : Block) (f : MatSt → MatSt) : (b.updMat f).adverts = b.adverts := rfl
@[simp] theorem Block.updMat_grants (b : Block) (f : MatSt → MatSt) : (b.updMat f).grants = b.grants := rfl
@[simp] theorem Block.updMat_withheld (b : Block) (f : MatSt → MatSt) : (b.updMat f).withheld = b.withheld := rfl
@[simp] theorem Block.updMat_subs (b : Block) (f : MatSt → MatSt) : (b.updMat f).subs = b.subs := rfl
@[simp] theorem Block.updMat_rings (b : Block) (f : MatSt → MatSt) : (b.updMat f).rings = b.rings := rfl
@[simp] theorem Block.updMat_asks (b : Block) (f : MatSt → MatSt) : (b.updMat f).asks = b.asks := rfl
@[simp] theorem Block.updMat_stored (b : Block) (f : MatSt → MatSt) : (b.updMat f).stored = b.stored := rfl
@[simp] theorem Block.updMat_tid (b : Block) (f : MatSt → MatSt) : (b.updMat f).tid = b.tid := rfl
@[simp] theorem Block.updMat_allow (b : Block) (f : MatSt → MatSt) : (b.updMat f).allow = b.allow := rfl
@[simp] theorem Block.updMat_mirrors (b : Block) (f : MatSt → MatSt) : (b.updMat f).mirrors = b.mirrors := rfl
@[simp] theorem Block.updMat_keys (b : Block) (f : MatSt → MatSt) : (b.updMat f).keys = b.keys := rfl
@[simp] theorem Block.updMat_pins (b : Block) (f : MatSt → MatSt) : (b.updMat f).pins = b.pins := rfl
@[simp] theorem Block.updMat_cox (b : Block) (f : MatSt → MatSt) : (b.updMat f).cox = b.cox := rfl
@[simp] theorem Block.updMat_headSt (b : Block) (f : MatSt → MatSt) : (b.updMat f).headSt = b.headSt := rfl
@[simp] theorem Block.updMat_colour (b : Block) (f : MatSt → MatSt) : (b.updMat f).colour = b.colour := rfl
@[simp] theorem Block.updMat_guard (b : Block) (f : MatSt → MatSt) : (b.updMat f).guard = b.guard := rfl
@[simp] theorem Block.updMat_stills (b : Block) (f : MatSt → MatSt) : (b.updMat f).stills = b.stills := rfl
@[simp] theorem Block.updMat_safetyReset (b : Block) (f : MatSt → MatSt) : (b.updMat f).safetyReset = b.safetyReset := rfl
@[simp] theorem Block.updMat_aud (b : Block) (f : MatSt → MatSt) : (b.updMat f).aud = b.aud := rfl
@[simp] theorem Block.updMat_wit (b : Block) (f : MatSt → MatSt) : (b.updMat f).wit = b.wit := rfl
@[simp] theorem Block.updMat_twin (b : Block) (f : MatSt → MatSt) : (b.updMat f).twin = b.twin := rfl
@[simp] theorem Block.updMat_released (b : Block) (f : MatSt → MatSt) : (b.updMat f).released = b.released := rfl
@[simp] theorem Block.updMat_flash (b : Block) (f : MatSt → MatSt) : (b.updMat f).flash = b.flash := rfl
@[simp] theorem Block.updMat_start (b : Block) (f : MatSt → MatSt) : (b.updMat f).start = b.start := rfl
@[simp] theorem Block.updMat_pwr (b : Block) (f : MatSt → MatSt) : (b.updMat f).pwr = b.pwr := rfl
@[simp] theorem Block.updMat_flt (b : Block) (f : MatSt → MatSt) : (b.updMat f).flt = b.flt := rfl
@[simp] theorem Block.updMat_mbx (b : Block) (f : MatSt → MatSt) : (b.updMat f).mbx = b.mbx := rfl
@[simp] theorem Block.updMat_sys (b : Block) (f : MatSt → MatSt) : (b.updMat f).sys = b.sys := rfl
@[simp] theorem Block.updMat_fld (b : Block) (f : MatSt → MatSt) (fd : Field) (ix : Nat) : (b.updMat f).fld fd ix = b.fld fd ix := rfl
@[simp] theorem Block.updMat_mat (b : Block) (f : MatSt → MatSt) : (b.updMat f).mat = f b.mat := rfl
@[simp] theorem Block.updMbx_regs (b : Block) (f : MbxSt → MbxSt) : (b.updMbx f).regs = b.regs := rfl
@[simp] theorem Block.updMbx_out (b : Block) (f : MbxSt → MbxSt) : (b.updMbx f).out = b.out := rfl
@[simp] theorem Block.updMbx_free (b : Block) (f : MbxSt → MbxSt) : (b.updMbx f).free = b.free := rfl
@[simp] theorem Block.updMbx_replies (b : Block) (f : MbxSt → MbxSt) : (b.updMbx f).replies = b.replies := rfl
@[simp] theorem Block.updMbx_dev (b : Block) (f : MbxSt → MbxSt) : (b.updMbx f).dev = b.dev := rfl
@[simp] theorem Block.updMbx_time (b : Block) (f : MbxSt → MbxSt) : (b.updMbx f).time = b.time := rfl
@[simp] theorem Block.updMbx_refs (b : Block) (f : MbxSt → MbxSt) : (b.updMbx f).refs = b.refs := rfl
@[simp] theorem Block.updMbx_pll (b : Block) (f : MbxSt → MbxSt) : (b.updMbx f).pll = b.pll := rfl
@[simp] theorem Block.updMbx_oscLost (b : Block) (f : MbxSt → MbxSt) : (b.updMbx f).oscLost = b.oscLost := rfl
@[simp] theorem Block.updMbx_lanes (b : Block) (f : MbxSt → MbxSt) : (b.updMbx f).lanes = b.lanes := rfl
@[simp] theorem Block.updMbx_bring (b : Block) (f : MbxSt → MbxSt) : (b.updMbx f).bring = b.bring := rfl
@[simp] theorem Block.updMbx_sdiRx (b : Block) (f : MbxSt → MbxSt) : (b.updMbx f).sdiRx = b.sdiRx := rfl
@[simp] theorem Block.updMbx_sdiTx (b : Block) (f : MbxSt → MbxSt) : (b.updMbx f).sdiTx = b.sdiTx := rfl
@[simp] theorem Block.updMbx_eth (b : Block) (f : MbxSt → MbxSt) : (b.updMbx f).eth = b.eth := rfl
@[simp] theorem Block.updMbx_flowRx (b : Block) (f : MbxSt → MbxSt) : (b.updMbx f).flowRx = b.flowRx := rfl
@[simp] theorem Block.updMbx_flowTx (b : Block) (f : MbxSt → MbxSt) : (b.updMbx f).flowTx = b.flowTx := rfl
@[simp] theorem Block.updMbx_outFrames (b : Block) (f : MbxSt → MbxSt) : (b.updMbx f).outFrames = b.outFrames := rfl
@[simp] theorem Block.updMbx_stalls (b : Block) (f : MbxSt → MbxSt) : (b.updMbx f).stalls = b.stalls := rfl
@[simp] theorem Block.updMbx_watch (b : Block) (f : MbxSt → MbxSt) : (b.updMbx f).watch = b.watch := rfl
@[simp] theorem Block.updMbx_checks (b : Block) (f : MbxSt → MbxSt) : (b.updMbx f).checks = b.checks := rfl
@[simp] theorem Block.updMbx_carve (b : Block) (f : MbxSt → MbxSt) : (b.updMbx f).carve = b.carve := rfl
@[simp] theorem Block.updMbx_yard (b : Block) (f : MbxSt → MbxSt) : (b.updMbx f).yard = b.yard := rfl
@[simp] theorem Block.updMbx_fabPorts (b : Block) (f : MbxSt → MbxSt) : (b.updMbx f).fabPorts = b.fabPorts := rfl
@[simp] theorem Block.updMbx_adverts (b : Block) (f : MbxSt → MbxSt) : (b.updMbx f).adverts = b.adverts := rfl
@[simp] theorem Block.updMbx_grants (b : Block) (f : MbxSt → MbxSt) : (b.updMbx f).grants = b.grants := rfl
@[simp] theorem Block.updMbx_withheld (b : Block) (f : MbxSt → MbxSt) : (b.updMbx f).withheld = b.withheld := rfl
@[simp] theorem Block.updMbx_subs (b : Block) (f : MbxSt → MbxSt) : (b.updMbx f).subs = b.subs := rfl
@[simp] theorem Block.updMbx_rings (b : Block) (f : MbxSt → MbxSt) : (b.updMbx f).rings = b.rings := rfl
@[simp] theorem Block.updMbx_asks (b : Block) (f : MbxSt → MbxSt) : (b.updMbx f).asks = b.asks := rfl
@[simp] theorem Block.updMbx_stored (b : Block) (f : MbxSt → MbxSt) : (b.updMbx f).stored = b.stored := rfl
@[simp] theorem Block.updMbx_tid (b : Block) (f : MbxSt → MbxSt) : (b.updMbx f).tid = b.tid := rfl
@[simp] theorem Block.updMbx_allow (b : Block) (f : MbxSt → MbxSt) : (b.updMbx f).allow = b.allow := rfl
@[simp] theorem Block.updMbx_mirrors (b : Block) (f : MbxSt → MbxSt) : (b.updMbx f).mirrors = b.mirrors := rfl
@[simp] theorem Block.updMbx_keys (b : Block) (f : MbxSt → MbxSt) : (b.updMbx f).keys = b.keys := rfl
@[simp] theorem Block.updMbx_pins (b : Block) (f : MbxSt → MbxSt) : (b.updMbx f).pins = b.pins := rfl
@[simp] theorem Block.updMbx_cox (b : Block) (f : MbxSt → MbxSt) : (b.updMbx f).cox = b.cox := rfl
@[simp] theorem Block.updMbx_headSt (b : Block) (f : MbxSt → MbxSt) : (b.updMbx f).headSt = b.headSt := rfl
@[simp] theorem Block.updMbx_colour (b : Block) (f : MbxSt → MbxSt) : (b.updMbx f).colour = b.colour := rfl
@[simp] theorem Block.updMbx_guard (b : Block) (f : MbxSt → MbxSt) : (b.updMbx f).guard = b.guard := rfl
@[simp] theorem Block.updMbx_stills (b : Block) (f : MbxSt → MbxSt) : (b.updMbx f).stills = b.stills := rfl
@[simp] theorem Block.updMbx_safetyReset (b : Block) (f : MbxSt → MbxSt) : (b.updMbx f).safetyReset = b.safetyReset := rfl
@[simp] theorem Block.updMbx_aud (b : Block) (f : MbxSt → MbxSt) : (b.updMbx f).aud = b.aud := rfl
@[simp] theorem Block.updMbx_wit (b : Block) (f : MbxSt → MbxSt) : (b.updMbx f).wit = b.wit := rfl
@[simp] theorem Block.updMbx_twin (b : Block) (f : MbxSt → MbxSt) : (b.updMbx f).twin = b.twin := rfl
@[simp] theorem Block.updMbx_released (b : Block) (f : MbxSt → MbxSt) : (b.updMbx f).released = b.released := rfl
@[simp] theorem Block.updMbx_flash (b : Block) (f : MbxSt → MbxSt) : (b.updMbx f).flash = b.flash := rfl
@[simp] theorem Block.updMbx_start (b : Block) (f : MbxSt → MbxSt) : (b.updMbx f).start = b.start := rfl
@[simp] theorem Block.updMbx_pwr (b : Block) (f : MbxSt → MbxSt) : (b.updMbx f).pwr = b.pwr := rfl
@[simp] theorem Block.updMbx_flt (b : Block) (f : MbxSt → MbxSt) : (b.updMbx f).flt = b.flt := rfl
@[simp] theorem Block.updMbx_mat (b : Block) (f : MbxSt → MbxSt) : (b.updMbx f).mat = b.mat := rfl
@[simp] theorem Block.updMbx_sys (b : Block) (f : MbxSt → MbxSt) : (b.updMbx f).sys = b.sys := rfl
@[simp] theorem Block.updMbx_fld (b : Block) (f : MbxSt → MbxSt) (fd : Field) (ix : Nat) : (b.updMbx f).fld fd ix = b.fld fd ix := rfl
@[simp] theorem Block.updMbx_mbx (b : Block) (f : MbxSt → MbxSt) : (b.updMbx f).mbx = f b.mbx := rfl
@[simp] theorem Block.updSynth_regs (b : Block) (m : Nat) (f : Synth → Synth) : (b.updSynth m f).regs = b.regs := rfl
@[simp] theorem Block.updSynth_out (b : Block) (m : Nat) (f : Synth → Synth) : (b.updSynth m f).out = b.out := rfl
@[simp] theorem Block.updSynth_free (b : Block) (m : Nat) (f : Synth → Synth) : (b.updSynth m f).free = b.free := rfl
@[simp] theorem Block.updSynth_replies (b : Block) (m : Nat) (f : Synth → Synth) : (b.updSynth m f).replies = b.replies := rfl
@[simp] theorem Block.updSynth_dev (b : Block) (m : Nat) (f : Synth → Synth) : (b.updSynth m f).dev = b.dev := rfl
@[simp] theorem Block.updSynth_time (b : Block) (m : Nat) (f : Synth → Synth) : (b.updSynth m f).time = b.time := rfl
@[simp] theorem Block.updSynth_refs (b : Block) (m : Nat) (f : Synth → Synth) : (b.updSynth m f).refs = b.refs := rfl
@[simp] theorem Block.updSynth_oscLost (b : Block) (m : Nat) (f : Synth → Synth) : (b.updSynth m f).oscLost = b.oscLost := rfl
@[simp] theorem Block.updSynth_lanes (b : Block) (m : Nat) (f : Synth → Synth) : (b.updSynth m f).lanes = b.lanes := rfl
@[simp] theorem Block.updSynth_bring (b : Block) (m : Nat) (f : Synth → Synth) : (b.updSynth m f).bring = b.bring := rfl
@[simp] theorem Block.updSynth_sdiRx (b : Block) (m : Nat) (f : Synth → Synth) : (b.updSynth m f).sdiRx = b.sdiRx := rfl
@[simp] theorem Block.updSynth_sdiTx (b : Block) (m : Nat) (f : Synth → Synth) : (b.updSynth m f).sdiTx = b.sdiTx := rfl
@[simp] theorem Block.updSynth_eth (b : Block) (m : Nat) (f : Synth → Synth) : (b.updSynth m f).eth = b.eth := rfl
@[simp] theorem Block.updSynth_flowRx (b : Block) (m : Nat) (f : Synth → Synth) : (b.updSynth m f).flowRx = b.flowRx := rfl
@[simp] theorem Block.updSynth_flowTx (b : Block) (m : Nat) (f : Synth → Synth) : (b.updSynth m f).flowTx = b.flowTx := rfl
@[simp] theorem Block.updSynth_outFrames (b : Block) (m : Nat) (f : Synth → Synth) : (b.updSynth m f).outFrames = b.outFrames := rfl
@[simp] theorem Block.updSynth_stalls (b : Block) (m : Nat) (f : Synth → Synth) : (b.updSynth m f).stalls = b.stalls := rfl
@[simp] theorem Block.updSynth_watch (b : Block) (m : Nat) (f : Synth → Synth) : (b.updSynth m f).watch = b.watch := rfl
@[simp] theorem Block.updSynth_checks (b : Block) (m : Nat) (f : Synth → Synth) : (b.updSynth m f).checks = b.checks := rfl
@[simp] theorem Block.updSynth_carve (b : Block) (m : Nat) (f : Synth → Synth) : (b.updSynth m f).carve = b.carve := rfl
@[simp] theorem Block.updSynth_yard (b : Block) (m : Nat) (f : Synth → Synth) : (b.updSynth m f).yard = b.yard := rfl
@[simp] theorem Block.updSynth_fabPorts (b : Block) (m : Nat) (f : Synth → Synth) : (b.updSynth m f).fabPorts = b.fabPorts := rfl
@[simp] theorem Block.updSynth_adverts (b : Block) (m : Nat) (f : Synth → Synth) : (b.updSynth m f).adverts = b.adverts := rfl
@[simp] theorem Block.updSynth_grants (b : Block) (m : Nat) (f : Synth → Synth) : (b.updSynth m f).grants = b.grants := rfl
@[simp] theorem Block.updSynth_withheld (b : Block) (m : Nat) (f : Synth → Synth) : (b.updSynth m f).withheld = b.withheld := rfl
@[simp] theorem Block.updSynth_subs (b : Block) (m : Nat) (f : Synth → Synth) : (b.updSynth m f).subs = b.subs := rfl
@[simp] theorem Block.updSynth_rings (b : Block) (m : Nat) (f : Synth → Synth) : (b.updSynth m f).rings = b.rings := rfl
@[simp] theorem Block.updSynth_asks (b : Block) (m : Nat) (f : Synth → Synth) : (b.updSynth m f).asks = b.asks := rfl
@[simp] theorem Block.updSynth_stored (b : Block) (m : Nat) (f : Synth → Synth) : (b.updSynth m f).stored = b.stored := rfl
@[simp] theorem Block.updSynth_tid (b : Block) (m : Nat) (f : Synth → Synth) : (b.updSynth m f).tid = b.tid := rfl
@[simp] theorem Block.updSynth_allow (b : Block) (m : Nat) (f : Synth → Synth) : (b.updSynth m f).allow = b.allow := rfl
@[simp] theorem Block.updSynth_mirrors (b : Block) (m : Nat) (f : Synth → Synth) : (b.updSynth m f).mirrors = b.mirrors := rfl
@[simp] theorem Block.updSynth_keys (b : Block) (m : Nat) (f : Synth → Synth) : (b.updSynth m f).keys = b.keys := rfl
@[simp] theorem Block.updSynth_pins (b : Block) (m : Nat) (f : Synth → Synth) : (b.updSynth m f).pins = b.pins := rfl
@[simp] theorem Block.updSynth_cox (b : Block) (m : Nat) (f : Synth → Synth) : (b.updSynth m f).cox = b.cox := rfl
@[simp] theorem Block.updSynth_headSt (b : Block) (m : Nat) (f : Synth → Synth) : (b.updSynth m f).headSt = b.headSt := rfl
@[simp] theorem Block.updSynth_colour (b : Block) (m : Nat) (f : Synth → Synth) : (b.updSynth m f).colour = b.colour := rfl
@[simp] theorem Block.updSynth_guard (b : Block) (m : Nat) (f : Synth → Synth) : (b.updSynth m f).guard = b.guard := rfl
@[simp] theorem Block.updSynth_stills (b : Block) (m : Nat) (f : Synth → Synth) : (b.updSynth m f).stills = b.stills := rfl
@[simp] theorem Block.updSynth_safetyReset (b : Block) (m : Nat) (f : Synth → Synth) : (b.updSynth m f).safetyReset = b.safetyReset := rfl
@[simp] theorem Block.updSynth_aud (b : Block) (m : Nat) (f : Synth → Synth) : (b.updSynth m f).aud = b.aud := rfl
@[simp] theorem Block.updSynth_wit (b : Block) (m : Nat) (f : Synth → Synth) : (b.updSynth m f).wit = b.wit := rfl
@[simp] theorem Block.updSynth_twin (b : Block) (m : Nat) (f : Synth → Synth) : (b.updSynth m f).twin = b.twin := rfl
@[simp] theorem Block.updSynth_released (b : Block) (m : Nat) (f : Synth → Synth) : (b.updSynth m f).released = b.released := rfl
@[simp] theorem Block.updSynth_flash (b : Block) (m : Nat) (f : Synth → Synth) : (b.updSynth m f).flash = b.flash := rfl
@[simp] theorem Block.updSynth_start (b : Block) (m : Nat) (f : Synth → Synth) : (b.updSynth m f).start = b.start := rfl
@[simp] theorem Block.updSynth_pwr (b : Block) (m : Nat) (f : Synth → Synth) : (b.updSynth m f).pwr = b.pwr := rfl
@[simp] theorem Block.updSynth_flt (b : Block) (m : Nat) (f : Synth → Synth) : (b.updSynth m f).flt = b.flt := rfl
@[simp] theorem Block.updSynth_mbx (b : Block) (m : Nat) (f : Synth → Synth) : (b.updSynth m f).mbx = b.mbx := rfl
@[simp] theorem Block.updSynth_mat (b : Block) (m : Nat) (f : Synth → Synth) : (b.updSynth m f).mat = b.mat := rfl
@[simp] theorem Block.updSynth_sys (b : Block) (m : Nat) (f : Synth → Synth) : (b.updSynth m f).sys = b.sys := rfl
@[simp] theorem Block.updSynth_fld (b : Block) (m : Nat) (f : Synth → Synth) (fd : Field) (ix : Nat) : (b.updSynth m f).fld fd ix = b.fld fd ix := rfl
@[simp] theorem Block.updSynth_pll (b : Block) (m : Nat) (f : Synth → Synth) : (b.updSynth m f).pll = b.pll.upd m f := rfl
@[simp] theorem Block.updCand_regs (b : Block) (n : Nat) (f : Cand → Cand) : (b.updCand n f).regs = b.regs := rfl
@[simp] theorem Block.updCand_out (b : Block) (n : Nat) (f : Cand → Cand) : (b.updCand n f).out = b.out := rfl
@[simp] theorem Block.updCand_free (b : Block) (n : Nat) (f : Cand → Cand) : (b.updCand n f).free = b.free := rfl
@[simp] theorem Block.updCand_replies (b : Block) (n : Nat) (f : Cand → Cand) : (b.updCand n f).replies = b.replies := rfl
@[simp] theorem Block.updCand_dev (b : Block) (n : Nat) (f : Cand → Cand) : (b.updCand n f).dev = b.dev := rfl
@[simp] theorem Block.updCand_time (b : Block) (n : Nat) (f : Cand → Cand) : (b.updCand n f).time = b.time := rfl
@[simp] theorem Block.updCand_pll (b : Block) (n : Nat) (f : Cand → Cand) : (b.updCand n f).pll = b.pll := rfl
@[simp] theorem Block.updCand_oscLost (b : Block) (n : Nat) (f : Cand → Cand) : (b.updCand n f).oscLost = b.oscLost := rfl
@[simp] theorem Block.updCand_lanes (b : Block) (n : Nat) (f : Cand → Cand) : (b.updCand n f).lanes = b.lanes := rfl
@[simp] theorem Block.updCand_bring (b : Block) (n : Nat) (f : Cand → Cand) : (b.updCand n f).bring = b.bring := rfl
@[simp] theorem Block.updCand_sdiRx (b : Block) (n : Nat) (f : Cand → Cand) : (b.updCand n f).sdiRx = b.sdiRx := rfl
@[simp] theorem Block.updCand_sdiTx (b : Block) (n : Nat) (f : Cand → Cand) : (b.updCand n f).sdiTx = b.sdiTx := rfl
@[simp] theorem Block.updCand_eth (b : Block) (n : Nat) (f : Cand → Cand) : (b.updCand n f).eth = b.eth := rfl
@[simp] theorem Block.updCand_flowRx (b : Block) (n : Nat) (f : Cand → Cand) : (b.updCand n f).flowRx = b.flowRx := rfl
@[simp] theorem Block.updCand_flowTx (b : Block) (n : Nat) (f : Cand → Cand) : (b.updCand n f).flowTx = b.flowTx := rfl
@[simp] theorem Block.updCand_outFrames (b : Block) (n : Nat) (f : Cand → Cand) : (b.updCand n f).outFrames = b.outFrames := rfl
@[simp] theorem Block.updCand_stalls (b : Block) (n : Nat) (f : Cand → Cand) : (b.updCand n f).stalls = b.stalls := rfl
@[simp] theorem Block.updCand_watch (b : Block) (n : Nat) (f : Cand → Cand) : (b.updCand n f).watch = b.watch := rfl
@[simp] theorem Block.updCand_checks (b : Block) (n : Nat) (f : Cand → Cand) : (b.updCand n f).checks = b.checks := rfl
@[simp] theorem Block.updCand_carve (b : Block) (n : Nat) (f : Cand → Cand) : (b.updCand n f).carve = b.carve := rfl
@[simp] theorem Block.updCand_yard (b : Block) (n : Nat) (f : Cand → Cand) : (b.updCand n f).yard = b.yard := rfl
@[simp] theorem Block.updCand_fabPorts (b : Block) (n : Nat) (f : Cand → Cand) : (b.updCand n f).fabPorts = b.fabPorts := rfl
@[simp] theorem Block.updCand_adverts (b : Block) (n : Nat) (f : Cand → Cand) : (b.updCand n f).adverts = b.adverts := rfl
@[simp] theorem Block.updCand_grants (b : Block) (n : Nat) (f : Cand → Cand) : (b.updCand n f).grants = b.grants := rfl
@[simp] theorem Block.updCand_withheld (b : Block) (n : Nat) (f : Cand → Cand) : (b.updCand n f).withheld = b.withheld := rfl
@[simp] theorem Block.updCand_subs (b : Block) (n : Nat) (f : Cand → Cand) : (b.updCand n f).subs = b.subs := rfl
@[simp] theorem Block.updCand_rings (b : Block) (n : Nat) (f : Cand → Cand) : (b.updCand n f).rings = b.rings := rfl
@[simp] theorem Block.updCand_asks (b : Block) (n : Nat) (f : Cand → Cand) : (b.updCand n f).asks = b.asks := rfl
@[simp] theorem Block.updCand_stored (b : Block) (n : Nat) (f : Cand → Cand) : (b.updCand n f).stored = b.stored := rfl
@[simp] theorem Block.updCand_tid (b : Block) (n : Nat) (f : Cand → Cand) : (b.updCand n f).tid = b.tid := rfl
@[simp] theorem Block.updCand_allow (b : Block) (n : Nat) (f : Cand → Cand) : (b.updCand n f).allow = b.allow := rfl
@[simp] theorem Block.updCand_mirrors (b : Block) (n : Nat) (f : Cand → Cand) : (b.updCand n f).mirrors = b.mirrors := rfl
@[simp] theorem Block.updCand_keys (b : Block) (n : Nat) (f : Cand → Cand) : (b.updCand n f).keys = b.keys := rfl
@[simp] theorem Block.updCand_pins (b : Block) (n : Nat) (f : Cand → Cand) : (b.updCand n f).pins = b.pins := rfl
@[simp] theorem Block.updCand_cox (b : Block) (n : Nat) (f : Cand → Cand) : (b.updCand n f).cox = b.cox := rfl
@[simp] theorem Block.updCand_headSt (b : Block) (n : Nat) (f : Cand → Cand) : (b.updCand n f).headSt = b.headSt := rfl
@[simp] theorem Block.updCand_colour (b : Block) (n : Nat) (f : Cand → Cand) : (b.updCand n f).colour = b.colour := rfl
@[simp] theorem Block.updCand_guard (b : Block) (n : Nat) (f : Cand → Cand) : (b.updCand n f).guard = b.guard := rfl
@[simp] theorem Block.updCand_stills (b : Block) (n : Nat) (f : Cand → Cand) : (b.updCand n f).stills = b.stills := rfl
@[simp] theorem Block.updCand_safetyReset (b : Block) (n : Nat) (f : Cand → Cand) : (b.updCand n f).safetyReset = b.safetyReset := rfl
@[simp] theorem Block.updCand_aud (b : Block) (n : Nat) (f : Cand → Cand) : (b.updCand n f).aud = b.aud := rfl
@[simp] theorem Block.updCand_wit (b : Block) (n : Nat) (f : Cand → Cand) : (b.updCand n f).wit = b.wit := rfl
@[simp] theorem Block.updCand_twin (b : Block) (n : Nat) (f : Cand → Cand) : (b.updCand n f).twin = b.twin := rfl
@[simp] theorem Block.updCand_released (b : Block) (n : Nat) (f : Cand → Cand) : (b.updCand n f).released = b.released := rfl
@[simp] theorem Block.updCand_flash (b : Block) (n : Nat) (f : Cand → Cand) : (b.updCand n f).flash = b.flash := rfl
@[simp] theorem Block.updCand_start (b : Block) (n : Nat) (f : Cand → Cand) : (b.updCand n f).start = b.start := rfl
@[simp] theorem Block.updCand_pwr (b : Block) (n : Nat) (f : Cand → Cand) : (b.updCand n f).pwr = b.pwr := rfl
@[simp] theorem Block.updCand_flt (b : Block) (n : Nat) (f : Cand → Cand) : (b.updCand n f).flt = b.flt := rfl
@[simp] theorem Block.updCand_mbx (b : Block) (n : Nat) (f : Cand → Cand) : (b.updCand n f).mbx = b.mbx := rfl
@[simp] theorem Block.updCand_mat (b : Block) (n : Nat) (f : Cand → Cand) : (b.updCand n f).mat = b.mat := rfl
@[simp] theorem Block.updCand_sys (b : Block) (n : Nat) (f : Cand → Cand) : (b.updCand n f).sys = b.sys := rfl
@[simp] theorem Block.updCand_fld (b : Block) (n : Nat) (f : Cand → Cand) (fd : Field) (ix : Nat) : (b.updCand n f).fld fd ix = b.fld fd ix := rfl
@[simp] theorem Block.updFp_regs (b : Block) (j : Nat) (f : FpSt → FpSt) : (b.updFp j f).regs = b.regs := rfl
@[simp] theorem Block.updFp_out (b : Block) (j : Nat) (f : FpSt → FpSt) : (b.updFp j f).out = b.out := rfl
@[simp] theorem Block.updFp_free (b : Block) (j : Nat) (f : FpSt → FpSt) : (b.updFp j f).free = b.free := rfl
@[simp] theorem Block.updFp_replies (b : Block) (j : Nat) (f : FpSt → FpSt) : (b.updFp j f).replies = b.replies := rfl
@[simp] theorem Block.updFp_dev (b : Block) (j : Nat) (f : FpSt → FpSt) : (b.updFp j f).dev = b.dev := rfl
@[simp] theorem Block.updFp_time (b : Block) (j : Nat) (f : FpSt → FpSt) : (b.updFp j f).time = b.time := rfl
@[simp] theorem Block.updFp_pll (b : Block) (j : Nat) (f : FpSt → FpSt) : (b.updFp j f).pll = b.pll := rfl
@[simp] theorem Block.updFp_oscLost (b : Block) (j : Nat) (f : FpSt → FpSt) : (b.updFp j f).oscLost = b.oscLost := rfl
@[simp] theorem Block.updFp_lanes (b : Block) (j : Nat) (f : FpSt → FpSt) : (b.updFp j f).lanes = b.lanes := rfl
@[simp] theorem Block.updFp_bring (b : Block) (j : Nat) (f : FpSt → FpSt) : (b.updFp j f).bring = b.bring := rfl
@[simp] theorem Block.updFp_sdiRx (b : Block) (j : Nat) (f : FpSt → FpSt) : (b.updFp j f).sdiRx = b.sdiRx := rfl
@[simp] theorem Block.updFp_sdiTx (b : Block) (j : Nat) (f : FpSt → FpSt) : (b.updFp j f).sdiTx = b.sdiTx := rfl
@[simp] theorem Block.updFp_eth (b : Block) (j : Nat) (f : FpSt → FpSt) : (b.updFp j f).eth = b.eth := rfl
@[simp] theorem Block.updFp_flowRx (b : Block) (j : Nat) (f : FpSt → FpSt) : (b.updFp j f).flowRx = b.flowRx := rfl
@[simp] theorem Block.updFp_flowTx (b : Block) (j : Nat) (f : FpSt → FpSt) : (b.updFp j f).flowTx = b.flowTx := rfl
@[simp] theorem Block.updFp_outFrames (b : Block) (j : Nat) (f : FpSt → FpSt) : (b.updFp j f).outFrames = b.outFrames := rfl
@[simp] theorem Block.updFp_stalls (b : Block) (j : Nat) (f : FpSt → FpSt) : (b.updFp j f).stalls = b.stalls := rfl
@[simp] theorem Block.updFp_watch (b : Block) (j : Nat) (f : FpSt → FpSt) : (b.updFp j f).watch = b.watch := rfl
@[simp] theorem Block.updFp_checks (b : Block) (j : Nat) (f : FpSt → FpSt) : (b.updFp j f).checks = b.checks := rfl
@[simp] theorem Block.updFp_carve (b : Block) (j : Nat) (f : FpSt → FpSt) : (b.updFp j f).carve = b.carve := rfl
@[simp] theorem Block.updFp_yard (b : Block) (j : Nat) (f : FpSt → FpSt) : (b.updFp j f).yard = b.yard := rfl
@[simp] theorem Block.updFp_fabPorts (b : Block) (j : Nat) (f : FpSt → FpSt) : (b.updFp j f).fabPorts = b.fabPorts := rfl
@[simp] theorem Block.updFp_adverts (b : Block) (j : Nat) (f : FpSt → FpSt) : (b.updFp j f).adverts = b.adverts := rfl
@[simp] theorem Block.updFp_grants (b : Block) (j : Nat) (f : FpSt → FpSt) : (b.updFp j f).grants = b.grants := rfl
@[simp] theorem Block.updFp_withheld (b : Block) (j : Nat) (f : FpSt → FpSt) : (b.updFp j f).withheld = b.withheld := rfl
@[simp] theorem Block.updFp_subs (b : Block) (j : Nat) (f : FpSt → FpSt) : (b.updFp j f).subs = b.subs := rfl
@[simp] theorem Block.updFp_rings (b : Block) (j : Nat) (f : FpSt → FpSt) : (b.updFp j f).rings = b.rings := rfl
@[simp] theorem Block.updFp_asks (b : Block) (j : Nat) (f : FpSt → FpSt) : (b.updFp j f).asks = b.asks := rfl
@[simp] theorem Block.updFp_stored (b : Block) (j : Nat) (f : FpSt → FpSt) : (b.updFp j f).stored = b.stored := rfl
@[simp] theorem Block.updFp_tid (b : Block) (j : Nat) (f : FpSt → FpSt) : (b.updFp j f).tid = b.tid := rfl
@[simp] theorem Block.updFp_allow (b : Block) (j : Nat) (f : FpSt → FpSt) : (b.updFp j f).allow = b.allow := rfl
@[simp] theorem Block.updFp_mirrors (b : Block) (j : Nat) (f : FpSt → FpSt) : (b.updFp j f).mirrors = b.mirrors := rfl
@[simp] theorem Block.updFp_keys (b : Block) (j : Nat) (f : FpSt → FpSt) : (b.updFp j f).keys = b.keys := rfl
@[simp] theorem Block.updFp_pins (b : Block) (j : Nat) (f : FpSt → FpSt) : (b.updFp j f).pins = b.pins := rfl
@[simp] theorem Block.updFp_cox (b : Block) (j : Nat) (f : FpSt → FpSt) : (b.updFp j f).cox = b.cox := rfl
@[simp] theorem Block.updFp_headSt (b : Block) (j : Nat) (f : FpSt → FpSt) : (b.updFp j f).headSt = b.headSt := rfl
@[simp] theorem Block.updFp_colour (b : Block) (j : Nat) (f : FpSt → FpSt) : (b.updFp j f).colour = b.colour := rfl
@[simp] theorem Block.updFp_guard (b : Block) (j : Nat) (f : FpSt → FpSt) : (b.updFp j f).guard = b.guard := rfl
@[simp] theorem Block.updFp_stills (b : Block) (j : Nat) (f : FpSt → FpSt) : (b.updFp j f).stills = b.stills := rfl
@[simp] theorem Block.updFp_safetyReset (b : Block) (j : Nat) (f : FpSt → FpSt) : (b.updFp j f).safetyReset = b.safetyReset := rfl
@[simp] theorem Block.updFp_aud (b : Block) (j : Nat) (f : FpSt → FpSt) : (b.updFp j f).aud = b.aud := rfl
@[simp] theorem Block.updFp_wit (b : Block) (j : Nat) (f : FpSt → FpSt) : (b.updFp j f).wit = b.wit := rfl
@[simp] theorem Block.updFp_twin (b : Block) (j : Nat) (f : FpSt → FpSt) : (b.updFp j f).twin = b.twin := rfl
@[simp] theorem Block.updFp_released (b : Block) (j : Nat) (f : FpSt → FpSt) : (b.updFp j f).released = b.released := rfl
@[simp] theorem Block.updFp_flash (b : Block) (j : Nat) (f : FpSt → FpSt) : (b.updFp j f).flash = b.flash := rfl
@[simp] theorem Block.updFp_start (b : Block) (j : Nat) (f : FpSt → FpSt) : (b.updFp j f).start = b.start := rfl
@[simp] theorem Block.updFp_pwr (b : Block) (j : Nat) (f : FpSt → FpSt) : (b.updFp j f).pwr = b.pwr := rfl
@[simp] theorem Block.updFp_flt (b : Block) (j : Nat) (f : FpSt → FpSt) : (b.updFp j f).flt = b.flt := rfl
@[simp] theorem Block.updFp_mbx (b : Block) (j : Nat) (f : FpSt → FpSt) : (b.updFp j f).mbx = b.mbx := rfl
@[simp] theorem Block.updFp_mat (b : Block) (j : Nat) (f : FpSt → FpSt) : (b.updFp j f).mat = b.mat := rfl
@[simp] theorem Block.updFp_sys (b : Block) (j : Nat) (f : FpSt → FpSt) : (b.updFp j f).sys = b.sys := rfl
@[simp] theorem Block.updFp_fld (b : Block) (j : Nat) (f : FpSt → FpSt) (fd : Field) (ix : Nat) : (b.updFp j f).fld fd ix = b.fld fd ix := rfl
@[simp] theorem Block.updRg_regs (b : Block) (k : Nat) (f : Regatta → Regatta) : (b.updRg k f).regs = b.regs := rfl
@[simp] theorem Block.updRg_out (b : Block) (k : Nat) (f : Regatta → Regatta) : (b.updRg k f).out = b.out := rfl
@[simp] theorem Block.updRg_free (b : Block) (k : Nat) (f : Regatta → Regatta) : (b.updRg k f).free = b.free := rfl
@[simp] theorem Block.updRg_replies (b : Block) (k : Nat) (f : Regatta → Regatta) : (b.updRg k f).replies = b.replies := rfl
@[simp] theorem Block.updRg_dev (b : Block) (k : Nat) (f : Regatta → Regatta) : (b.updRg k f).dev = b.dev := rfl
@[simp] theorem Block.updRg_time (b : Block) (k : Nat) (f : Regatta → Regatta) : (b.updRg k f).time = b.time := rfl
@[simp] theorem Block.updRg_refs (b : Block) (k : Nat) (f : Regatta → Regatta) : (b.updRg k f).refs = b.refs := rfl
@[simp] theorem Block.updRg_pll (b : Block) (k : Nat) (f : Regatta → Regatta) : (b.updRg k f).pll = b.pll := rfl
@[simp] theorem Block.updRg_oscLost (b : Block) (k : Nat) (f : Regatta → Regatta) : (b.updRg k f).oscLost = b.oscLost := rfl
@[simp] theorem Block.updRg_lanes (b : Block) (k : Nat) (f : Regatta → Regatta) : (b.updRg k f).lanes = b.lanes := rfl
@[simp] theorem Block.updRg_bring (b : Block) (k : Nat) (f : Regatta → Regatta) : (b.updRg k f).bring = b.bring := rfl
@[simp] theorem Block.updRg_sdiRx (b : Block) (k : Nat) (f : Regatta → Regatta) : (b.updRg k f).sdiRx = b.sdiRx := rfl
@[simp] theorem Block.updRg_sdiTx (b : Block) (k : Nat) (f : Regatta → Regatta) : (b.updRg k f).sdiTx = b.sdiTx := rfl
@[simp] theorem Block.updRg_eth (b : Block) (k : Nat) (f : Regatta → Regatta) : (b.updRg k f).eth = b.eth := rfl
@[simp] theorem Block.updRg_flowRx (b : Block) (k : Nat) (f : Regatta → Regatta) : (b.updRg k f).flowRx = b.flowRx := rfl
@[simp] theorem Block.updRg_flowTx (b : Block) (k : Nat) (f : Regatta → Regatta) : (b.updRg k f).flowTx = b.flowTx := rfl
@[simp] theorem Block.updRg_outFrames (b : Block) (k : Nat) (f : Regatta → Regatta) : (b.updRg k f).outFrames = b.outFrames := rfl
@[simp] theorem Block.updRg_stalls (b : Block) (k : Nat) (f : Regatta → Regatta) : (b.updRg k f).stalls = b.stalls := rfl
@[simp] theorem Block.updRg_watch (b : Block) (k : Nat) (f : Regatta → Regatta) : (b.updRg k f).watch = b.watch := rfl
@[simp] theorem Block.updRg_checks (b : Block) (k : Nat) (f : Regatta → Regatta) : (b.updRg k f).checks = b.checks := rfl
@[simp] theorem Block.updRg_carve (b : Block) (k : Nat) (f : Regatta → Regatta) : (b.updRg k f).carve = b.carve := rfl
@[simp] theorem Block.updRg_yard (b : Block) (k : Nat) (f : Regatta → Regatta) : (b.updRg k f).yard = b.yard := rfl
@[simp] theorem Block.updRg_fabPorts (b : Block) (k : Nat) (f : Regatta → Regatta) : (b.updRg k f).fabPorts = b.fabPorts := rfl
@[simp] theorem Block.updRg_adverts (b : Block) (k : Nat) (f : Regatta → Regatta) : (b.updRg k f).adverts = b.adverts := rfl
@[simp] theorem Block.updRg_grants (b : Block) (k : Nat) (f : Regatta → Regatta) : (b.updRg k f).grants = b.grants := rfl
@[simp] theorem Block.updRg_withheld (b : Block) (k : Nat) (f : Regatta → Regatta) : (b.updRg k f).withheld = b.withheld := rfl
@[simp] theorem Block.updRg_subs (b : Block) (k : Nat) (f : Regatta → Regatta) : (b.updRg k f).subs = b.subs := rfl
@[simp] theorem Block.updRg_rings (b : Block) (k : Nat) (f : Regatta → Regatta) : (b.updRg k f).rings = b.rings := rfl
@[simp] theorem Block.updRg_asks (b : Block) (k : Nat) (f : Regatta → Regatta) : (b.updRg k f).asks = b.asks := rfl
@[simp] theorem Block.updRg_stored (b : Block) (k : Nat) (f : Regatta → Regatta) : (b.updRg k f).stored = b.stored := rfl
@[simp] theorem Block.updRg_tid (b : Block) (k : Nat) (f : Regatta → Regatta) : (b.updRg k f).tid = b.tid := rfl
@[simp] theorem Block.updRg_allow (b : Block) (k : Nat) (f : Regatta → Regatta) : (b.updRg k f).allow = b.allow := rfl
@[simp] theorem Block.updRg_mirrors (b : Block) (k : Nat) (f : Regatta → Regatta) : (b.updRg k f).mirrors = b.mirrors := rfl
@[simp] theorem Block.updRg_keys (b : Block) (k : Nat) (f : Regatta → Regatta) : (b.updRg k f).keys = b.keys := rfl
@[simp] theorem Block.updRg_pins (b : Block) (k : Nat) (f : Regatta → Regatta) : (b.updRg k f).pins = b.pins := rfl
@[simp] theorem Block.updRg_headSt (b : Block) (k : Nat) (f : Regatta → Regatta) : (b.updRg k f).headSt = b.headSt := rfl
@[simp] theorem Block.updRg_colour (b : Block) (k : Nat) (f : Regatta → Regatta) : (b.updRg k f).colour = b.colour := rfl
@[simp] theorem Block.updRg_guard (b : Block) (k : Nat) (f : Regatta → Regatta) : (b.updRg k f).guard = b.guard := rfl
@[simp] theorem Block.updRg_stills (b : Block) (k : Nat) (f : Regatta → Regatta) : (b.updRg k f).stills = b.stills := rfl
@[simp] theorem Block.updRg_safetyReset (b : Block) (k : Nat) (f : Regatta → Regatta) : (b.updRg k f).safetyReset = b.safetyReset := rfl
@[simp] theorem Block.updRg_aud (b : Block) (k : Nat) (f : Regatta → Regatta) : (b.updRg k f).aud = b.aud := rfl
@[simp] theorem Block.updRg_wit (b : Block) (k : Nat) (f : Regatta → Regatta) : (b.updRg k f).wit = b.wit := rfl
@[simp] theorem Block.updRg_twin (b : Block) (k : Nat) (f : Regatta → Regatta) : (b.updRg k f).twin = b.twin := rfl
@[simp] theorem Block.updRg_released (b : Block) (k : Nat) (f : Regatta → Regatta) : (b.updRg k f).released = b.released := rfl
@[simp] theorem Block.updRg_flash (b : Block) (k : Nat) (f : Regatta → Regatta) : (b.updRg k f).flash = b.flash := rfl
@[simp] theorem Block.updRg_start (b : Block) (k : Nat) (f : Regatta → Regatta) : (b.updRg k f).start = b.start := rfl
@[simp] theorem Block.updRg_pwr (b : Block) (k : Nat) (f : Regatta → Regatta) : (b.updRg k f).pwr = b.pwr := rfl
@[simp] theorem Block.updRg_flt (b : Block) (k : Nat) (f : Regatta → Regatta) : (b.updRg k f).flt = b.flt := rfl
@[simp] theorem Block.updRg_mbx (b : Block) (k : Nat) (f : Regatta → Regatta) : (b.updRg k f).mbx = b.mbx := rfl
@[simp] theorem Block.updRg_mat (b : Block) (k : Nat) (f : Regatta → Regatta) : (b.updRg k f).mat = b.mat := rfl
@[simp] theorem Block.updRg_sys (b : Block) (k : Nat) (f : Regatta → Regatta) : (b.updRg k f).sys = b.sys := rfl
@[simp] theorem Block.updRg_fld (b : Block) (k : Nat) (f : Regatta → Regatta) (fd : Field) (ix : Nat) : (b.updRg k f).fld fd ix = b.fld fd ix := rfl
@[simp] theorem Block.updRx_regs (b : Block) (n : Nat) (f : SdiRxSt → SdiRxSt) : (b.updRx n f).regs = b.regs := rfl
@[simp] theorem Block.updRx_out (b : Block) (n : Nat) (f : SdiRxSt → SdiRxSt) : (b.updRx n f).out = b.out := rfl
@[simp] theorem Block.updRx_free (b : Block) (n : Nat) (f : SdiRxSt → SdiRxSt) : (b.updRx n f).free = b.free := rfl
@[simp] theorem Block.updRx_replies (b : Block) (n : Nat) (f : SdiRxSt → SdiRxSt) : (b.updRx n f).replies = b.replies := rfl
@[simp] theorem Block.updRx_dev (b : Block) (n : Nat) (f : SdiRxSt → SdiRxSt) : (b.updRx n f).dev = b.dev := rfl
@[simp] theorem Block.updRx_time (b : Block) (n : Nat) (f : SdiRxSt → SdiRxSt) : (b.updRx n f).time = b.time := rfl
@[simp] theorem Block.updRx_refs (b : Block) (n : Nat) (f : SdiRxSt → SdiRxSt) : (b.updRx n f).refs = b.refs := rfl
@[simp] theorem Block.updRx_pll (b : Block) (n : Nat) (f : SdiRxSt → SdiRxSt) : (b.updRx n f).pll = b.pll := rfl
@[simp] theorem Block.updRx_oscLost (b : Block) (n : Nat) (f : SdiRxSt → SdiRxSt) : (b.updRx n f).oscLost = b.oscLost := rfl
@[simp] theorem Block.updRx_lanes (b : Block) (n : Nat) (f : SdiRxSt → SdiRxSt) : (b.updRx n f).lanes = b.lanes := rfl
@[simp] theorem Block.updRx_bring (b : Block) (n : Nat) (f : SdiRxSt → SdiRxSt) : (b.updRx n f).bring = b.bring := rfl
@[simp] theorem Block.updRx_sdiTx (b : Block) (n : Nat) (f : SdiRxSt → SdiRxSt) : (b.updRx n f).sdiTx = b.sdiTx := rfl
@[simp] theorem Block.updRx_eth (b : Block) (n : Nat) (f : SdiRxSt → SdiRxSt) : (b.updRx n f).eth = b.eth := rfl
@[simp] theorem Block.updRx_flowRx (b : Block) (n : Nat) (f : SdiRxSt → SdiRxSt) : (b.updRx n f).flowRx = b.flowRx := rfl
@[simp] theorem Block.updRx_flowTx (b : Block) (n : Nat) (f : SdiRxSt → SdiRxSt) : (b.updRx n f).flowTx = b.flowTx := rfl
@[simp] theorem Block.updRx_outFrames (b : Block) (n : Nat) (f : SdiRxSt → SdiRxSt) : (b.updRx n f).outFrames = b.outFrames := rfl
@[simp] theorem Block.updRx_stalls (b : Block) (n : Nat) (f : SdiRxSt → SdiRxSt) : (b.updRx n f).stalls = b.stalls := rfl
@[simp] theorem Block.updRx_watch (b : Block) (n : Nat) (f : SdiRxSt → SdiRxSt) : (b.updRx n f).watch = b.watch := rfl
@[simp] theorem Block.updRx_checks (b : Block) (n : Nat) (f : SdiRxSt → SdiRxSt) : (b.updRx n f).checks = b.checks := rfl
@[simp] theorem Block.updRx_carve (b : Block) (n : Nat) (f : SdiRxSt → SdiRxSt) : (b.updRx n f).carve = b.carve := rfl
@[simp] theorem Block.updRx_yard (b : Block) (n : Nat) (f : SdiRxSt → SdiRxSt) : (b.updRx n f).yard = b.yard := rfl
@[simp] theorem Block.updRx_fabPorts (b : Block) (n : Nat) (f : SdiRxSt → SdiRxSt) : (b.updRx n f).fabPorts = b.fabPorts := rfl
@[simp] theorem Block.updRx_adverts (b : Block) (n : Nat) (f : SdiRxSt → SdiRxSt) : (b.updRx n f).adverts = b.adverts := rfl
@[simp] theorem Block.updRx_grants (b : Block) (n : Nat) (f : SdiRxSt → SdiRxSt) : (b.updRx n f).grants = b.grants := rfl
@[simp] theorem Block.updRx_withheld (b : Block) (n : Nat) (f : SdiRxSt → SdiRxSt) : (b.updRx n f).withheld = b.withheld := rfl
@[simp] theorem Block.updRx_subs (b : Block) (n : Nat) (f : SdiRxSt → SdiRxSt) : (b.updRx n f).subs = b.subs := rfl
@[simp] theorem Block.updRx_rings (b : Block) (n : Nat) (f : SdiRxSt → SdiRxSt) : (b.updRx n f).rings = b.rings := rfl
@[simp] theorem Block.updRx_asks (b : Block) (n : Nat) (f : SdiRxSt → SdiRxSt) : (b.updRx n f).asks = b.asks := rfl
@[simp] theorem Block.updRx_stored (b : Block) (n : Nat) (f : SdiRxSt → SdiRxSt) : (b.updRx n f).stored = b.stored := rfl
@[simp] theorem Block.updRx_tid (b : Block) (n : Nat) (f : SdiRxSt → SdiRxSt) : (b.updRx n f).tid = b.tid := rfl
@[simp] theorem Block.updRx_allow (b : Block) (n : Nat) (f : SdiRxSt → SdiRxSt) : (b.updRx n f).allow = b.allow := rfl
@[simp] theorem Block.updRx_mirrors (b : Block) (n : Nat) (f : SdiRxSt → SdiRxSt) : (b.updRx n f).mirrors = b.mirrors := rfl
@[simp] theorem Block.updRx_keys (b : Block) (n : Nat) (f : SdiRxSt → SdiRxSt) : (b.updRx n f).keys = b.keys := rfl
@[simp] theorem Block.updRx_pins (b : Block) (n : Nat) (f : SdiRxSt → SdiRxSt) : (b.updRx n f).pins = b.pins := rfl
@[simp] theorem Block.updRx_cox (b : Block) (n : Nat) (f : SdiRxSt → SdiRxSt) : (b.updRx n f).cox = b.cox := rfl
@[simp] theorem Block.updRx_headSt (b : Block) (n : Nat) (f : SdiRxSt → SdiRxSt) : (b.updRx n f).headSt = b.headSt := rfl
@[simp] theorem Block.updRx_colour (b : Block) (n : Nat) (f : SdiRxSt → SdiRxSt) : (b.updRx n f).colour = b.colour := rfl
@[simp] theorem Block.updRx_guard (b : Block) (n : Nat) (f : SdiRxSt → SdiRxSt) : (b.updRx n f).guard = b.guard := rfl
@[simp] theorem Block.updRx_stills (b : Block) (n : Nat) (f : SdiRxSt → SdiRxSt) : (b.updRx n f).stills = b.stills := rfl
@[simp] theorem Block.updRx_safetyReset (b : Block) (n : Nat) (f : SdiRxSt → SdiRxSt) : (b.updRx n f).safetyReset = b.safetyReset := rfl
@[simp] theorem Block.updRx_aud (b : Block) (n : Nat) (f : SdiRxSt → SdiRxSt) : (b.updRx n f).aud = b.aud := rfl
@[simp] theorem Block.updRx_wit (b : Block) (n : Nat) (f : SdiRxSt → SdiRxSt) : (b.updRx n f).wit = b.wit := rfl
@[simp] theorem Block.updRx_twin (b : Block) (n : Nat) (f : SdiRxSt → SdiRxSt) : (b.updRx n f).twin = b.twin := rfl
@[simp] theorem Block.updRx_released (b : Block) (n : Nat) (f : SdiRxSt → SdiRxSt) : (b.updRx n f).released = b.released := rfl
@[simp] theorem Block.updRx_flash (b : Block) (n : Nat) (f : SdiRxSt → SdiRxSt) : (b.updRx n f).flash = b.flash := rfl
@[simp] theorem Block.updRx_start (b : Block) (n : Nat) (f : SdiRxSt → SdiRxSt) : (b.updRx n f).start = b.start := rfl
@[simp] theorem Block.updRx_pwr (b : Block) (n : Nat) (f : SdiRxSt → SdiRxSt) : (b.updRx n f).pwr = b.pwr := rfl
@[simp] theorem Block.updRx_flt (b : Block) (n : Nat) (f : SdiRxSt → SdiRxSt) : (b.updRx n f).flt = b.flt := rfl
@[simp] theorem Block.updRx_mbx (b : Block) (n : Nat) (f : SdiRxSt → SdiRxSt) : (b.updRx n f).mbx = b.mbx := rfl
@[simp] theorem Block.updRx_mat (b : Block) (n : Nat) (f : SdiRxSt → SdiRxSt) : (b.updRx n f).mat = b.mat := rfl
@[simp] theorem Block.updRx_sys (b : Block) (n : Nat) (f : SdiRxSt → SdiRxSt) : (b.updRx n f).sys = b.sys := rfl
@[simp] theorem Block.updRx_fld (b : Block) (n : Nat) (f : SdiRxSt → SdiRxSt) (fd : Field) (ix : Nat) : (b.updRx n f).fld fd ix = b.fld fd ix := rfl
@[simp] theorem Block.updRx_sdiRx (b : Block) (n : Nat) (f : SdiRxSt → SdiRxSt) : (b.updRx n f).sdiRx = b.sdiRx.upd n f := rfl
@[simp] theorem Block.updTx_regs (b : Block) (n : Nat) (f : SdiTxSt → SdiTxSt) : (b.updTx n f).regs = b.regs := rfl
@[simp] theorem Block.updTx_out (b : Block) (n : Nat) (f : SdiTxSt → SdiTxSt) : (b.updTx n f).out = b.out := rfl
@[simp] theorem Block.updTx_free (b : Block) (n : Nat) (f : SdiTxSt → SdiTxSt) : (b.updTx n f).free = b.free := rfl
@[simp] theorem Block.updTx_replies (b : Block) (n : Nat) (f : SdiTxSt → SdiTxSt) : (b.updTx n f).replies = b.replies := rfl
@[simp] theorem Block.updTx_dev (b : Block) (n : Nat) (f : SdiTxSt → SdiTxSt) : (b.updTx n f).dev = b.dev := rfl
@[simp] theorem Block.updTx_time (b : Block) (n : Nat) (f : SdiTxSt → SdiTxSt) : (b.updTx n f).time = b.time := rfl
@[simp] theorem Block.updTx_refs (b : Block) (n : Nat) (f : SdiTxSt → SdiTxSt) : (b.updTx n f).refs = b.refs := rfl
@[simp] theorem Block.updTx_pll (b : Block) (n : Nat) (f : SdiTxSt → SdiTxSt) : (b.updTx n f).pll = b.pll := rfl
@[simp] theorem Block.updTx_oscLost (b : Block) (n : Nat) (f : SdiTxSt → SdiTxSt) : (b.updTx n f).oscLost = b.oscLost := rfl
@[simp] theorem Block.updTx_lanes (b : Block) (n : Nat) (f : SdiTxSt → SdiTxSt) : (b.updTx n f).lanes = b.lanes := rfl
@[simp] theorem Block.updTx_bring (b : Block) (n : Nat) (f : SdiTxSt → SdiTxSt) : (b.updTx n f).bring = b.bring := rfl
@[simp] theorem Block.updTx_sdiRx (b : Block) (n : Nat) (f : SdiTxSt → SdiTxSt) : (b.updTx n f).sdiRx = b.sdiRx := rfl
@[simp] theorem Block.updTx_eth (b : Block) (n : Nat) (f : SdiTxSt → SdiTxSt) : (b.updTx n f).eth = b.eth := rfl
@[simp] theorem Block.updTx_flowRx (b : Block) (n : Nat) (f : SdiTxSt → SdiTxSt) : (b.updTx n f).flowRx = b.flowRx := rfl
@[simp] theorem Block.updTx_flowTx (b : Block) (n : Nat) (f : SdiTxSt → SdiTxSt) : (b.updTx n f).flowTx = b.flowTx := rfl
@[simp] theorem Block.updTx_outFrames (b : Block) (n : Nat) (f : SdiTxSt → SdiTxSt) : (b.updTx n f).outFrames = b.outFrames := rfl
@[simp] theorem Block.updTx_stalls (b : Block) (n : Nat) (f : SdiTxSt → SdiTxSt) : (b.updTx n f).stalls = b.stalls := rfl
@[simp] theorem Block.updTx_watch (b : Block) (n : Nat) (f : SdiTxSt → SdiTxSt) : (b.updTx n f).watch = b.watch := rfl
@[simp] theorem Block.updTx_checks (b : Block) (n : Nat) (f : SdiTxSt → SdiTxSt) : (b.updTx n f).checks = b.checks := rfl
@[simp] theorem Block.updTx_carve (b : Block) (n : Nat) (f : SdiTxSt → SdiTxSt) : (b.updTx n f).carve = b.carve := rfl
@[simp] theorem Block.updTx_yard (b : Block) (n : Nat) (f : SdiTxSt → SdiTxSt) : (b.updTx n f).yard = b.yard := rfl
@[simp] theorem Block.updTx_fabPorts (b : Block) (n : Nat) (f : SdiTxSt → SdiTxSt) : (b.updTx n f).fabPorts = b.fabPorts := rfl
@[simp] theorem Block.updTx_adverts (b : Block) (n : Nat) (f : SdiTxSt → SdiTxSt) : (b.updTx n f).adverts = b.adverts := rfl
@[simp] theorem Block.updTx_grants (b : Block) (n : Nat) (f : SdiTxSt → SdiTxSt) : (b.updTx n f).grants = b.grants := rfl
@[simp] theorem Block.updTx_withheld (b : Block) (n : Nat) (f : SdiTxSt → SdiTxSt) : (b.updTx n f).withheld = b.withheld := rfl
@[simp] theorem Block.updTx_subs (b : Block) (n : Nat) (f : SdiTxSt → SdiTxSt) : (b.updTx n f).subs = b.subs := rfl
@[simp] theorem Block.updTx_rings (b : Block) (n : Nat) (f : SdiTxSt → SdiTxSt) : (b.updTx n f).rings = b.rings := rfl
@[simp] theorem Block.updTx_asks (b : Block) (n : Nat) (f : SdiTxSt → SdiTxSt) : (b.updTx n f).asks = b.asks := rfl
@[simp] theorem Block.updTx_stored (b : Block) (n : Nat) (f : SdiTxSt → SdiTxSt) : (b.updTx n f).stored = b.stored := rfl
@[simp] theorem Block.updTx_tid (b : Block) (n : Nat) (f : SdiTxSt → SdiTxSt) : (b.updTx n f).tid = b.tid := rfl
@[simp] theorem Block.updTx_allow (b : Block) (n : Nat) (f : SdiTxSt → SdiTxSt) : (b.updTx n f).allow = b.allow := rfl
@[simp] theorem Block.updTx_mirrors (b : Block) (n : Nat) (f : SdiTxSt → SdiTxSt) : (b.updTx n f).mirrors = b.mirrors := rfl
@[simp] theorem Block.updTx_keys (b : Block) (n : Nat) (f : SdiTxSt → SdiTxSt) : (b.updTx n f).keys = b.keys := rfl
@[simp] theorem Block.updTx_pins (b : Block) (n : Nat) (f : SdiTxSt → SdiTxSt) : (b.updTx n f).pins = b.pins := rfl
@[simp] theorem Block.updTx_cox (b : Block) (n : Nat) (f : SdiTxSt → SdiTxSt) : (b.updTx n f).cox = b.cox := rfl
@[simp] theorem Block.updTx_headSt (b : Block) (n : Nat) (f : SdiTxSt → SdiTxSt) : (b.updTx n f).headSt = b.headSt := rfl
@[simp] theorem Block.updTx_colour (b : Block) (n : Nat) (f : SdiTxSt → SdiTxSt) : (b.updTx n f).colour = b.colour := rfl
@[simp] theorem Block.updTx_guard (b : Block) (n : Nat) (f : SdiTxSt → SdiTxSt) : (b.updTx n f).guard = b.guard := rfl
@[simp] theorem Block.updTx_stills (b : Block) (n : Nat) (f : SdiTxSt → SdiTxSt) : (b.updTx n f).stills = b.stills := rfl
@[simp] theorem Block.updTx_safetyReset (b : Block) (n : Nat) (f : SdiTxSt → SdiTxSt) : (b.updTx n f).safetyReset = b.safetyReset := rfl
@[simp] theorem Block.updTx_aud (b : Block) (n : Nat) (f : SdiTxSt → SdiTxSt) : (b.updTx n f).aud = b.aud := rfl
@[simp] theorem Block.updTx_wit (b : Block) (n : Nat) (f : SdiTxSt → SdiTxSt) : (b.updTx n f).wit = b.wit := rfl
@[simp] theorem Block.updTx_twin (b : Block) (n : Nat) (f : SdiTxSt → SdiTxSt) : (b.updTx n f).twin = b.twin := rfl
@[simp] theorem Block.updTx_released (b : Block) (n : Nat) (f : SdiTxSt → SdiTxSt) : (b.updTx n f).released = b.released := rfl
@[simp] theorem Block.updTx_flash (b : Block) (n : Nat) (f : SdiTxSt → SdiTxSt) : (b.updTx n f).flash = b.flash := rfl
@[simp] theorem Block.updTx_start (b : Block) (n : Nat) (f : SdiTxSt → SdiTxSt) : (b.updTx n f).start = b.start := rfl
@[simp] theorem Block.updTx_pwr (b : Block) (n : Nat) (f : SdiTxSt → SdiTxSt) : (b.updTx n f).pwr = b.pwr := rfl
@[simp] theorem Block.updTx_flt (b : Block) (n : Nat) (f : SdiTxSt → SdiTxSt) : (b.updTx n f).flt = b.flt := rfl
@[simp] theorem Block.updTx_mbx (b : Block) (n : Nat) (f : SdiTxSt → SdiTxSt) : (b.updTx n f).mbx = b.mbx := rfl
@[simp] theorem Block.updTx_mat (b : Block) (n : Nat) (f : SdiTxSt → SdiTxSt) : (b.updTx n f).mat = b.mat := rfl
@[simp] theorem Block.updTx_sys (b : Block) (n : Nat) (f : SdiTxSt → SdiTxSt) : (b.updTx n f).sys = b.sys := rfl
@[simp] theorem Block.updTx_fld (b : Block) (n : Nat) (f : SdiTxSt → SdiTxSt) (fd : Field) (ix : Nat) : (b.updTx n f).fld fd ix = b.fld fd ix := rfl
@[simp] theorem Block.updTx_sdiTx (b : Block) (n : Nat) (f : SdiTxSt → SdiTxSt) : (b.updTx n f).sdiTx = b.sdiTx.upd n f := rfl
@[simp] theorem Block.updChk_regs (b : Block) (c : Nat) (f : FreshSt → FreshSt) : (b.updChk c f).regs = b.regs := rfl
@[simp] theorem Block.updChk_out (b : Block) (c : Nat) (f : FreshSt → FreshSt) : (b.updChk c f).out = b.out := rfl
@[simp] theorem Block.updChk_free (b : Block) (c : Nat) (f : FreshSt → FreshSt) : (b.updChk c f).free = b.free := rfl
@[simp] theorem Block.updChk_replies (b : Block) (c : Nat) (f : FreshSt → FreshSt) : (b.updChk c f).replies = b.replies := rfl
@[simp] theorem Block.updChk_dev (b : Block) (c : Nat) (f : FreshSt → FreshSt) : (b.updChk c f).dev = b.dev := rfl
@[simp] theorem Block.updChk_time (b : Block) (c : Nat) (f : FreshSt → FreshSt) : (b.updChk c f).time = b.time := rfl
@[simp] theorem Block.updChk_refs (b : Block) (c : Nat) (f : FreshSt → FreshSt) : (b.updChk c f).refs = b.refs := rfl
@[simp] theorem Block.updChk_pll (b : Block) (c : Nat) (f : FreshSt → FreshSt) : (b.updChk c f).pll = b.pll := rfl
@[simp] theorem Block.updChk_oscLost (b : Block) (c : Nat) (f : FreshSt → FreshSt) : (b.updChk c f).oscLost = b.oscLost := rfl
@[simp] theorem Block.updChk_lanes (b : Block) (c : Nat) (f : FreshSt → FreshSt) : (b.updChk c f).lanes = b.lanes := rfl
@[simp] theorem Block.updChk_bring (b : Block) (c : Nat) (f : FreshSt → FreshSt) : (b.updChk c f).bring = b.bring := rfl
@[simp] theorem Block.updChk_sdiRx (b : Block) (c : Nat) (f : FreshSt → FreshSt) : (b.updChk c f).sdiRx = b.sdiRx := rfl
@[simp] theorem Block.updChk_sdiTx (b : Block) (c : Nat) (f : FreshSt → FreshSt) : (b.updChk c f).sdiTx = b.sdiTx := rfl
@[simp] theorem Block.updChk_eth (b : Block) (c : Nat) (f : FreshSt → FreshSt) : (b.updChk c f).eth = b.eth := rfl
@[simp] theorem Block.updChk_flowRx (b : Block) (c : Nat) (f : FreshSt → FreshSt) : (b.updChk c f).flowRx = b.flowRx := rfl
@[simp] theorem Block.updChk_flowTx (b : Block) (c : Nat) (f : FreshSt → FreshSt) : (b.updChk c f).flowTx = b.flowTx := rfl
@[simp] theorem Block.updChk_outFrames (b : Block) (c : Nat) (f : FreshSt → FreshSt) : (b.updChk c f).outFrames = b.outFrames := rfl
@[simp] theorem Block.updChk_stalls (b : Block) (c : Nat) (f : FreshSt → FreshSt) : (b.updChk c f).stalls = b.stalls := rfl
@[simp] theorem Block.updChk_watch (b : Block) (c : Nat) (f : FreshSt → FreshSt) : (b.updChk c f).watch = b.watch := rfl
@[simp] theorem Block.updChk_carve (b : Block) (c : Nat) (f : FreshSt → FreshSt) : (b.updChk c f).carve = b.carve := rfl
@[simp] theorem Block.updChk_yard (b : Block) (c : Nat) (f : FreshSt → FreshSt) : (b.updChk c f).yard = b.yard := rfl
@[simp] theorem Block.updChk_fabPorts (b : Block) (c : Nat) (f : FreshSt → FreshSt) : (b.updChk c f).fabPorts = b.fabPorts := rfl
@[simp] theorem Block.updChk_adverts (b : Block) (c : Nat) (f : FreshSt → FreshSt) : (b.updChk c f).adverts = b.adverts := rfl
@[simp] theorem Block.updChk_grants (b : Block) (c : Nat) (f : FreshSt → FreshSt) : (b.updChk c f).grants = b.grants := rfl
@[simp] theorem Block.updChk_withheld (b : Block) (c : Nat) (f : FreshSt → FreshSt) : (b.updChk c f).withheld = b.withheld := rfl
@[simp] theorem Block.updChk_subs (b : Block) (c : Nat) (f : FreshSt → FreshSt) : (b.updChk c f).subs = b.subs := rfl
@[simp] theorem Block.updChk_rings (b : Block) (c : Nat) (f : FreshSt → FreshSt) : (b.updChk c f).rings = b.rings := rfl
@[simp] theorem Block.updChk_asks (b : Block) (c : Nat) (f : FreshSt → FreshSt) : (b.updChk c f).asks = b.asks := rfl
@[simp] theorem Block.updChk_stored (b : Block) (c : Nat) (f : FreshSt → FreshSt) : (b.updChk c f).stored = b.stored := rfl
@[simp] theorem Block.updChk_tid (b : Block) (c : Nat) (f : FreshSt → FreshSt) : (b.updChk c f).tid = b.tid := rfl
@[simp] theorem Block.updChk_allow (b : Block) (c : Nat) (f : FreshSt → FreshSt) : (b.updChk c f).allow = b.allow := rfl
@[simp] theorem Block.updChk_mirrors (b : Block) (c : Nat) (f : FreshSt → FreshSt) : (b.updChk c f).mirrors = b.mirrors := rfl
@[simp] theorem Block.updChk_keys (b : Block) (c : Nat) (f : FreshSt → FreshSt) : (b.updChk c f).keys = b.keys := rfl
@[simp] theorem Block.updChk_pins (b : Block) (c : Nat) (f : FreshSt → FreshSt) : (b.updChk c f).pins = b.pins := rfl
@[simp] theorem Block.updChk_cox (b : Block) (c : Nat) (f : FreshSt → FreshSt) : (b.updChk c f).cox = b.cox := rfl
@[simp] theorem Block.updChk_headSt (b : Block) (c : Nat) (f : FreshSt → FreshSt) : (b.updChk c f).headSt = b.headSt := rfl
@[simp] theorem Block.updChk_colour (b : Block) (c : Nat) (f : FreshSt → FreshSt) : (b.updChk c f).colour = b.colour := rfl
@[simp] theorem Block.updChk_guard (b : Block) (c : Nat) (f : FreshSt → FreshSt) : (b.updChk c f).guard = b.guard := rfl
@[simp] theorem Block.updChk_stills (b : Block) (c : Nat) (f : FreshSt → FreshSt) : (b.updChk c f).stills = b.stills := rfl
@[simp] theorem Block.updChk_safetyReset (b : Block) (c : Nat) (f : FreshSt → FreshSt) : (b.updChk c f).safetyReset = b.safetyReset := rfl
@[simp] theorem Block.updChk_aud (b : Block) (c : Nat) (f : FreshSt → FreshSt) : (b.updChk c f).aud = b.aud := rfl
@[simp] theorem Block.updChk_wit (b : Block) (c : Nat) (f : FreshSt → FreshSt) : (b.updChk c f).wit = b.wit := rfl
@[simp] theorem Block.updChk_twin (b : Block) (c : Nat) (f : FreshSt → FreshSt) : (b.updChk c f).twin = b.twin := rfl
@[simp] theorem Block.updChk_released (b : Block) (c : Nat) (f : FreshSt → FreshSt) : (b.updChk c f).released = b.released := rfl
@[simp] theorem Block.updChk_flash (b : Block) (c : Nat) (f : FreshSt → FreshSt) : (b.updChk c f).flash = b.flash := rfl
@[simp] theorem Block.updChk_start (b : Block) (c : Nat) (f : FreshSt → FreshSt) : (b.updChk c f).start = b.start := rfl
@[simp] theorem Block.updChk_pwr (b : Block) (c : Nat) (f : FreshSt → FreshSt) : (b.updChk c f).pwr = b.pwr := rfl
@[simp] theorem Block.updChk_flt (b : Block) (c : Nat) (f : FreshSt → FreshSt) : (b.updChk c f).flt = b.flt := rfl
@[simp] theorem Block.updChk_mbx (b : Block) (c : Nat) (f : FreshSt → FreshSt) : (b.updChk c f).mbx = b.mbx := rfl
@[simp] theorem Block.updChk_mat (b : Block) (c : Nat) (f : FreshSt → FreshSt) : (b.updChk c f).mat = b.mat := rfl
@[simp] theorem Block.updChk_sys (b : Block) (c : Nat) (f : FreshSt → FreshSt) : (b.updChk c f).sys = b.sys := rfl
@[simp] theorem Block.updChk_fld (b : Block) (c : Nat) (f : FreshSt → FreshSt) (fd : Field) (ix : Nat) : (b.updChk c f).fld fd ix = b.fld fd ix := rfl
@[simp] theorem Block.updChk_checks (b : Block) (c : Nat) (f : FreshSt → FreshSt) : (b.updChk c f).checks = b.checks.upd c f := rfl
@[simp] theorem Block.updRing_regs (b : Block) (i : Nat) (f : RxRing → RxRing) : (b.updRing i f).regs = b.regs := rfl
@[simp] theorem Block.updRing_out (b : Block) (i : Nat) (f : RxRing → RxRing) : (b.updRing i f).out = b.out := rfl
@[simp] theorem Block.updRing_free (b : Block) (i : Nat) (f : RxRing → RxRing) : (b.updRing i f).free = b.free := rfl
@[simp] theorem Block.updRing_replies (b : Block) (i : Nat) (f : RxRing → RxRing) : (b.updRing i f).replies = b.replies := rfl
@[simp] theorem Block.updRing_dev (b : Block) (i : Nat) (f : RxRing → RxRing) : (b.updRing i f).dev = b.dev := rfl
@[simp] theorem Block.updRing_time (b : Block) (i : Nat) (f : RxRing → RxRing) : (b.updRing i f).time = b.time := rfl
@[simp] theorem Block.updRing_refs (b : Block) (i : Nat) (f : RxRing → RxRing) : (b.updRing i f).refs = b.refs := rfl
@[simp] theorem Block.updRing_pll (b : Block) (i : Nat) (f : RxRing → RxRing) : (b.updRing i f).pll = b.pll := rfl
@[simp] theorem Block.updRing_oscLost (b : Block) (i : Nat) (f : RxRing → RxRing) : (b.updRing i f).oscLost = b.oscLost := rfl
@[simp] theorem Block.updRing_lanes (b : Block) (i : Nat) (f : RxRing → RxRing) : (b.updRing i f).lanes = b.lanes := rfl
@[simp] theorem Block.updRing_bring (b : Block) (i : Nat) (f : RxRing → RxRing) : (b.updRing i f).bring = b.bring := rfl
@[simp] theorem Block.updRing_sdiRx (b : Block) (i : Nat) (f : RxRing → RxRing) : (b.updRing i f).sdiRx = b.sdiRx := rfl
@[simp] theorem Block.updRing_sdiTx (b : Block) (i : Nat) (f : RxRing → RxRing) : (b.updRing i f).sdiTx = b.sdiTx := rfl
@[simp] theorem Block.updRing_eth (b : Block) (i : Nat) (f : RxRing → RxRing) : (b.updRing i f).eth = b.eth := rfl
@[simp] theorem Block.updRing_flowRx (b : Block) (i : Nat) (f : RxRing → RxRing) : (b.updRing i f).flowRx = b.flowRx := rfl
@[simp] theorem Block.updRing_flowTx (b : Block) (i : Nat) (f : RxRing → RxRing) : (b.updRing i f).flowTx = b.flowTx := rfl
@[simp] theorem Block.updRing_outFrames (b : Block) (i : Nat) (f : RxRing → RxRing) : (b.updRing i f).outFrames = b.outFrames := rfl
@[simp] theorem Block.updRing_stalls (b : Block) (i : Nat) (f : RxRing → RxRing) : (b.updRing i f).stalls = b.stalls := rfl
@[simp] theorem Block.updRing_watch (b : Block) (i : Nat) (f : RxRing → RxRing) : (b.updRing i f).watch = b.watch := rfl
@[simp] theorem Block.updRing_checks (b : Block) (i : Nat) (f : RxRing → RxRing) : (b.updRing i f).checks = b.checks := rfl
@[simp] theorem Block.updRing_carve (b : Block) (i : Nat) (f : RxRing → RxRing) : (b.updRing i f).carve = b.carve := rfl
@[simp] theorem Block.updRing_yard (b : Block) (i : Nat) (f : RxRing → RxRing) : (b.updRing i f).yard = b.yard := rfl
@[simp] theorem Block.updRing_fabPorts (b : Block) (i : Nat) (f : RxRing → RxRing) : (b.updRing i f).fabPorts = b.fabPorts := rfl
@[simp] theorem Block.updRing_adverts (b : Block) (i : Nat) (f : RxRing → RxRing) : (b.updRing i f).adverts = b.adverts := rfl
@[simp] theorem Block.updRing_grants (b : Block) (i : Nat) (f : RxRing → RxRing) : (b.updRing i f).grants = b.grants := rfl
@[simp] theorem Block.updRing_withheld (b : Block) (i : Nat) (f : RxRing → RxRing) : (b.updRing i f).withheld = b.withheld := rfl
@[simp] theorem Block.updRing_subs (b : Block) (i : Nat) (f : RxRing → RxRing) : (b.updRing i f).subs = b.subs := rfl
@[simp] theorem Block.updRing_asks (b : Block) (i : Nat) (f : RxRing → RxRing) : (b.updRing i f).asks = b.asks := rfl
@[simp] theorem Block.updRing_stored (b : Block) (i : Nat) (f : RxRing → RxRing) : (b.updRing i f).stored = b.stored := rfl
@[simp] theorem Block.updRing_tid (b : Block) (i : Nat) (f : RxRing → RxRing) : (b.updRing i f).tid = b.tid := rfl
@[simp] theorem Block.updRing_allow (b : Block) (i : Nat) (f : RxRing → RxRing) : (b.updRing i f).allow = b.allow := rfl
@[simp] theorem Block.updRing_mirrors (b : Block) (i : Nat) (f : RxRing → RxRing) : (b.updRing i f).mirrors = b.mirrors := rfl
@[simp] theorem Block.updRing_keys (b : Block) (i : Nat) (f : RxRing → RxRing) : (b.updRing i f).keys = b.keys := rfl
@[simp] theorem Block.updRing_pins (b : Block) (i : Nat) (f : RxRing → RxRing) : (b.updRing i f).pins = b.pins := rfl
@[simp] theorem Block.updRing_cox (b : Block) (i : Nat) (f : RxRing → RxRing) : (b.updRing i f).cox = b.cox := rfl
@[simp] theorem Block.updRing_headSt (b : Block) (i : Nat) (f : RxRing → RxRing) : (b.updRing i f).headSt = b.headSt := rfl
@[simp] theorem Block.updRing_colour (b : Block) (i : Nat) (f : RxRing → RxRing) : (b.updRing i f).colour = b.colour := rfl
@[simp] theorem Block.updRing_guard (b : Block) (i : Nat) (f : RxRing → RxRing) : (b.updRing i f).guard = b.guard := rfl
@[simp] theorem Block.updRing_stills (b : Block) (i : Nat) (f : RxRing → RxRing) : (b.updRing i f).stills = b.stills := rfl
@[simp] theorem Block.updRing_safetyReset (b : Block) (i : Nat) (f : RxRing → RxRing) : (b.updRing i f).safetyReset = b.safetyReset := rfl
@[simp] theorem Block.updRing_aud (b : Block) (i : Nat) (f : RxRing → RxRing) : (b.updRing i f).aud = b.aud := rfl
@[simp] theorem Block.updRing_wit (b : Block) (i : Nat) (f : RxRing → RxRing) : (b.updRing i f).wit = b.wit := rfl
@[simp] theorem Block.updRing_twin (b : Block) (i : Nat) (f : RxRing → RxRing) : (b.updRing i f).twin = b.twin := rfl
@[simp] theorem Block.updRing_released (b : Block) (i : Nat) (f : RxRing → RxRing) : (b.updRing i f).released = b.released := rfl
@[simp] theorem Block.updRing_flash (b : Block) (i : Nat) (f : RxRing → RxRing) : (b.updRing i f).flash = b.flash := rfl
@[simp] theorem Block.updRing_start (b : Block) (i : Nat) (f : RxRing → RxRing) : (b.updRing i f).start = b.start := rfl
@[simp] theorem Block.updRing_pwr (b : Block) (i : Nat) (f : RxRing → RxRing) : (b.updRing i f).pwr = b.pwr := rfl
@[simp] theorem Block.updRing_flt (b : Block) (i : Nat) (f : RxRing → RxRing) : (b.updRing i f).flt = b.flt := rfl
@[simp] theorem Block.updRing_mbx (b : Block) (i : Nat) (f : RxRing → RxRing) : (b.updRing i f).mbx = b.mbx := rfl
@[simp] theorem Block.updRing_mat (b : Block) (i : Nat) (f : RxRing → RxRing) : (b.updRing i f).mat = b.mat := rfl
@[simp] theorem Block.updRing_sys (b : Block) (i : Nat) (f : RxRing → RxRing) : (b.updRing i f).sys = b.sys := rfl
@[simp] theorem Block.updRing_fld (b : Block) (i : Nat) (f : RxRing → RxRing) (fd : Field) (ix : Nat) : (b.updRing i f).fld fd ix = b.fld fd ix := rfl
@[simp] theorem Block.updRing_rings (b : Block) (i : Nat) (f : RxRing → RxRing) : (b.updRing i f).rings = b.rings.upd i f := rfl
@[simp] theorem Block.updSub_regs (b : Block) (k : Nat) (f : SubSt → SubSt) : (b.updSub k f).regs = b.regs := rfl
@[simp] theorem Block.updSub_out (b : Block) (k : Nat) (f : SubSt → SubSt) : (b.updSub k f).out = b.out := rfl
@[simp] theorem Block.updSub_free (b : Block) (k : Nat) (f : SubSt → SubSt) : (b.updSub k f).free = b.free := rfl
@[simp] theorem Block.updSub_replies (b : Block) (k : Nat) (f : SubSt → SubSt) : (b.updSub k f).replies = b.replies := rfl
@[simp] theorem Block.updSub_dev (b : Block) (k : Nat) (f : SubSt → SubSt) : (b.updSub k f).dev = b.dev := rfl
@[simp] theorem Block.updSub_time (b : Block) (k : Nat) (f : SubSt → SubSt) : (b.updSub k f).time = b.time := rfl
@[simp] theorem Block.updSub_refs (b : Block) (k : Nat) (f : SubSt → SubSt) : (b.updSub k f).refs = b.refs := rfl
@[simp] theorem Block.updSub_pll (b : Block) (k : Nat) (f : SubSt → SubSt) : (b.updSub k f).pll = b.pll := rfl
@[simp] theorem Block.updSub_oscLost (b : Block) (k : Nat) (f : SubSt → SubSt) : (b.updSub k f).oscLost = b.oscLost := rfl
@[simp] theorem Block.updSub_lanes (b : Block) (k : Nat) (f : SubSt → SubSt) : (b.updSub k f).lanes = b.lanes := rfl
@[simp] theorem Block.updSub_bring (b : Block) (k : Nat) (f : SubSt → SubSt) : (b.updSub k f).bring = b.bring := rfl
@[simp] theorem Block.updSub_sdiRx (b : Block) (k : Nat) (f : SubSt → SubSt) : (b.updSub k f).sdiRx = b.sdiRx := rfl
@[simp] theorem Block.updSub_sdiTx (b : Block) (k : Nat) (f : SubSt → SubSt) : (b.updSub k f).sdiTx = b.sdiTx := rfl
@[simp] theorem Block.updSub_eth (b : Block) (k : Nat) (f : SubSt → SubSt) : (b.updSub k f).eth = b.eth := rfl
@[simp] theorem Block.updSub_flowRx (b : Block) (k : Nat) (f : SubSt → SubSt) : (b.updSub k f).flowRx = b.flowRx := rfl
@[simp] theorem Block.updSub_flowTx (b : Block) (k : Nat) (f : SubSt → SubSt) : (b.updSub k f).flowTx = b.flowTx := rfl
@[simp] theorem Block.updSub_outFrames (b : Block) (k : Nat) (f : SubSt → SubSt) : (b.updSub k f).outFrames = b.outFrames := rfl
@[simp] theorem Block.updSub_stalls (b : Block) (k : Nat) (f : SubSt → SubSt) : (b.updSub k f).stalls = b.stalls := rfl
@[simp] theorem Block.updSub_watch (b : Block) (k : Nat) (f : SubSt → SubSt) : (b.updSub k f).watch = b.watch := rfl
@[simp] theorem Block.updSub_checks (b : Block) (k : Nat) (f : SubSt → SubSt) : (b.updSub k f).checks = b.checks := rfl
@[simp] theorem Block.updSub_carve (b : Block) (k : Nat) (f : SubSt → SubSt) : (b.updSub k f).carve = b.carve := rfl
@[simp] theorem Block.updSub_yard (b : Block) (k : Nat) (f : SubSt → SubSt) : (b.updSub k f).yard = b.yard := rfl
@[simp] theorem Block.updSub_fabPorts (b : Block) (k : Nat) (f : SubSt → SubSt) : (b.updSub k f).fabPorts = b.fabPorts := rfl
@[simp] theorem Block.updSub_adverts (b : Block) (k : Nat) (f : SubSt → SubSt) : (b.updSub k f).adverts = b.adverts := rfl
@[simp] theorem Block.updSub_grants (b : Block) (k : Nat) (f : SubSt → SubSt) : (b.updSub k f).grants = b.grants := rfl
@[simp] theorem Block.updSub_withheld (b : Block) (k : Nat) (f : SubSt → SubSt) : (b.updSub k f).withheld = b.withheld := rfl
@[simp] theorem Block.updSub_rings (b : Block) (k : Nat) (f : SubSt → SubSt) : (b.updSub k f).rings = b.rings := rfl
@[simp] theorem Block.updSub_asks (b : Block) (k : Nat) (f : SubSt → SubSt) : (b.updSub k f).asks = b.asks := rfl
@[simp] theorem Block.updSub_stored (b : Block) (k : Nat) (f : SubSt → SubSt) : (b.updSub k f).stored = b.stored := rfl
@[simp] theorem Block.updSub_tid (b : Block) (k : Nat) (f : SubSt → SubSt) : (b.updSub k f).tid = b.tid := rfl
@[simp] theorem Block.updSub_allow (b : Block) (k : Nat) (f : SubSt → SubSt) : (b.updSub k f).allow = b.allow := rfl
@[simp] theorem Block.updSub_mirrors (b : Block) (k : Nat) (f : SubSt → SubSt) : (b.updSub k f).mirrors = b.mirrors := rfl
@[simp] theorem Block.updSub_keys (b : Block) (k : Nat) (f : SubSt → SubSt) : (b.updSub k f).keys = b.keys := rfl
@[simp] theorem Block.updSub_pins (b : Block) (k : Nat) (f : SubSt → SubSt) : (b.updSub k f).pins = b.pins := rfl
@[simp] theorem Block.updSub_cox (b : Block) (k : Nat) (f : SubSt → SubSt) : (b.updSub k f).cox = b.cox := rfl
@[simp] theorem Block.updSub_headSt (b : Block) (k : Nat) (f : SubSt → SubSt) : (b.updSub k f).headSt = b.headSt := rfl
@[simp] theorem Block.updSub_colour (b : Block) (k : Nat) (f : SubSt → SubSt) : (b.updSub k f).colour = b.colour := rfl
@[simp] theorem Block.updSub_guard (b : Block) (k : Nat) (f : SubSt → SubSt) : (b.updSub k f).guard = b.guard := rfl
@[simp] theorem Block.updSub_stills (b : Block) (k : Nat) (f : SubSt → SubSt) : (b.updSub k f).stills = b.stills := rfl
@[simp] theorem Block.updSub_safetyReset (b : Block) (k : Nat) (f : SubSt → SubSt) : (b.updSub k f).safetyReset = b.safetyReset := rfl
@[simp] theorem Block.updSub_aud (b : Block) (k : Nat) (f : SubSt → SubSt) : (b.updSub k f).aud = b.aud := rfl
@[simp] theorem Block.updSub_wit (b : Block) (k : Nat) (f : SubSt → SubSt) : (b.updSub k f).wit = b.wit := rfl
@[simp] theorem Block.updSub_twin (b : Block) (k : Nat) (f : SubSt → SubSt) : (b.updSub k f).twin = b.twin := rfl
@[simp] theorem Block.updSub_released (b : Block) (k : Nat) (f : SubSt → SubSt) : (b.updSub k f).released = b.released := rfl
@[simp] theorem Block.updSub_flash (b : Block) (k : Nat) (f : SubSt → SubSt) : (b.updSub k f).flash = b.flash := rfl
@[simp] theorem Block.updSub_start (b : Block) (k : Nat) (f : SubSt → SubSt) : (b.updSub k f).start = b.start := rfl
@[simp] theorem Block.updSub_pwr (b : Block) (k : Nat) (f : SubSt → SubSt) : (b.updSub k f).pwr = b.pwr := rfl
@[simp] theorem Block.updSub_flt (b : Block) (k : Nat) (f : SubSt → SubSt) : (b.updSub k f).flt = b.flt := rfl
@[simp] theorem Block.updSub_mbx (b : Block) (k : Nat) (f : SubSt → SubSt) : (b.updSub k f).mbx = b.mbx := rfl
@[simp] theorem Block.updSub_mat (b : Block) (k : Nat) (f : SubSt → SubSt) : (b.updSub k f).mat = b.mat := rfl
@[simp] theorem Block.updSub_sys (b : Block) (k : Nat) (f : SubSt → SubSt) : (b.updSub k f).sys = b.sys := rfl
@[simp] theorem Block.updSub_fld (b : Block) (k : Nat) (f : SubSt → SubSt) (fd : Field) (ix : Nat) : (b.updSub k f).fld fd ix = b.fld fd ix := rfl
@[simp] theorem Block.updSub_subs (b : Block) (k : Nat) (f : SubSt → SubSt) : (b.updSub k f).subs = b.subs.upd k f := rfl
@[simp] theorem Block.updCopy_regs (b : Block) (k c : Nat) (f : CopySt → CopySt) : (b.updCopy k c f).regs = b.regs := rfl
@[simp] theorem Block.updCopy_out (b : Block) (k c : Nat) (f : CopySt → CopySt) : (b.updCopy k c f).out = b.out := rfl
@[simp] theorem Block.updCopy_free (b : Block) (k c : Nat) (f : CopySt → CopySt) : (b.updCopy k c f).free = b.free := rfl
@[simp] theorem Block.updCopy_replies (b : Block) (k c : Nat) (f : CopySt → CopySt) : (b.updCopy k c f).replies = b.replies := rfl
@[simp] theorem Block.updCopy_dev (b : Block) (k c : Nat) (f : CopySt → CopySt) : (b.updCopy k c f).dev = b.dev := rfl
@[simp] theorem Block.updCopy_time (b : Block) (k c : Nat) (f : CopySt → CopySt) : (b.updCopy k c f).time = b.time := rfl
@[simp] theorem Block.updCopy_refs (b : Block) (k c : Nat) (f : CopySt → CopySt) : (b.updCopy k c f).refs = b.refs := rfl
@[simp] theorem Block.updCopy_pll (b : Block) (k c : Nat) (f : CopySt → CopySt) : (b.updCopy k c f).pll = b.pll := rfl
@[simp] theorem Block.updCopy_oscLost (b : Block) (k c : Nat) (f : CopySt → CopySt) : (b.updCopy k c f).oscLost = b.oscLost := rfl
@[simp] theorem Block.updCopy_lanes (b : Block) (k c : Nat) (f : CopySt → CopySt) : (b.updCopy k c f).lanes = b.lanes := rfl
@[simp] theorem Block.updCopy_bring (b : Block) (k c : Nat) (f : CopySt → CopySt) : (b.updCopy k c f).bring = b.bring := rfl
@[simp] theorem Block.updCopy_sdiRx (b : Block) (k c : Nat) (f : CopySt → CopySt) : (b.updCopy k c f).sdiRx = b.sdiRx := rfl
@[simp] theorem Block.updCopy_sdiTx (b : Block) (k c : Nat) (f : CopySt → CopySt) : (b.updCopy k c f).sdiTx = b.sdiTx := rfl
@[simp] theorem Block.updCopy_eth (b : Block) (k c : Nat) (f : CopySt → CopySt) : (b.updCopy k c f).eth = b.eth := rfl
@[simp] theorem Block.updCopy_flowRx (b : Block) (k c : Nat) (f : CopySt → CopySt) : (b.updCopy k c f).flowRx = b.flowRx := rfl
@[simp] theorem Block.updCopy_flowTx (b : Block) (k c : Nat) (f : CopySt → CopySt) : (b.updCopy k c f).flowTx = b.flowTx := rfl
@[simp] theorem Block.updCopy_outFrames (b : Block) (k c : Nat) (f : CopySt → CopySt) : (b.updCopy k c f).outFrames = b.outFrames := rfl
@[simp] theorem Block.updCopy_stalls (b : Block) (k c : Nat) (f : CopySt → CopySt) : (b.updCopy k c f).stalls = b.stalls := rfl
@[simp] theorem Block.updCopy_watch (b : Block) (k c : Nat) (f : CopySt → CopySt) : (b.updCopy k c f).watch = b.watch := rfl
@[simp] theorem Block.updCopy_checks (b : Block) (k c : Nat) (f : CopySt → CopySt) : (b.updCopy k c f).checks = b.checks := rfl
@[simp] theorem Block.updCopy_carve (b : Block) (k c : Nat) (f : CopySt → CopySt) : (b.updCopy k c f).carve = b.carve := rfl
@[simp] theorem Block.updCopy_yard (b : Block) (k c : Nat) (f : CopySt → CopySt) : (b.updCopy k c f).yard = b.yard := rfl
@[simp] theorem Block.updCopy_fabPorts (b : Block) (k c : Nat) (f : CopySt → CopySt) : (b.updCopy k c f).fabPorts = b.fabPorts := rfl
@[simp] theorem Block.updCopy_adverts (b : Block) (k c : Nat) (f : CopySt → CopySt) : (b.updCopy k c f).adverts = b.adverts := rfl
@[simp] theorem Block.updCopy_grants (b : Block) (k c : Nat) (f : CopySt → CopySt) : (b.updCopy k c f).grants = b.grants := rfl
@[simp] theorem Block.updCopy_withheld (b : Block) (k c : Nat) (f : CopySt → CopySt) : (b.updCopy k c f).withheld = b.withheld := rfl
@[simp] theorem Block.updCopy_rings (b : Block) (k c : Nat) (f : CopySt → CopySt) : (b.updCopy k c f).rings = b.rings := rfl
@[simp] theorem Block.updCopy_asks (b : Block) (k c : Nat) (f : CopySt → CopySt) : (b.updCopy k c f).asks = b.asks := rfl
@[simp] theorem Block.updCopy_stored (b : Block) (k c : Nat) (f : CopySt → CopySt) : (b.updCopy k c f).stored = b.stored := rfl
@[simp] theorem Block.updCopy_tid (b : Block) (k c : Nat) (f : CopySt → CopySt) : (b.updCopy k c f).tid = b.tid := rfl
@[simp] theorem Block.updCopy_allow (b : Block) (k c : Nat) (f : CopySt → CopySt) : (b.updCopy k c f).allow = b.allow := rfl
@[simp] theorem Block.updCopy_mirrors (b : Block) (k c : Nat) (f : CopySt → CopySt) : (b.updCopy k c f).mirrors = b.mirrors := rfl
@[simp] theorem Block.updCopy_keys (b : Block) (k c : Nat) (f : CopySt → CopySt) : (b.updCopy k c f).keys = b.keys := rfl
@[simp] theorem Block.updCopy_pins (b : Block) (k c : Nat) (f : CopySt → CopySt) : (b.updCopy k c f).pins = b.pins := rfl
@[simp] theorem Block.updCopy_cox (b : Block) (k c : Nat) (f : CopySt → CopySt) : (b.updCopy k c f).cox = b.cox := rfl
@[simp] theorem Block.updCopy_headSt (b : Block) (k c : Nat) (f : CopySt → CopySt) : (b.updCopy k c f).headSt = b.headSt := rfl
@[simp] theorem Block.updCopy_colour (b : Block) (k c : Nat) (f : CopySt → CopySt) : (b.updCopy k c f).colour = b.colour := rfl
@[simp] theorem Block.updCopy_guard (b : Block) (k c : Nat) (f : CopySt → CopySt) : (b.updCopy k c f).guard = b.guard := rfl
@[simp] theorem Block.updCopy_stills (b : Block) (k c : Nat) (f : CopySt → CopySt) : (b.updCopy k c f).stills = b.stills := rfl
@[simp] theorem Block.updCopy_safetyReset (b : Block) (k c : Nat) (f : CopySt → CopySt) : (b.updCopy k c f).safetyReset = b.safetyReset := rfl
@[simp] theorem Block.updCopy_aud (b : Block) (k c : Nat) (f : CopySt → CopySt) : (b.updCopy k c f).aud = b.aud := rfl
@[simp] theorem Block.updCopy_wit (b : Block) (k c : Nat) (f : CopySt → CopySt) : (b.updCopy k c f).wit = b.wit := rfl
@[simp] theorem Block.updCopy_twin (b : Block) (k c : Nat) (f : CopySt → CopySt) : (b.updCopy k c f).twin = b.twin := rfl
@[simp] theorem Block.updCopy_released (b : Block) (k c : Nat) (f : CopySt → CopySt) : (b.updCopy k c f).released = b.released := rfl
@[simp] theorem Block.updCopy_flash (b : Block) (k c : Nat) (f : CopySt → CopySt) : (b.updCopy k c f).flash = b.flash := rfl
@[simp] theorem Block.updCopy_start (b : Block) (k c : Nat) (f : CopySt → CopySt) : (b.updCopy k c f).start = b.start := rfl
@[simp] theorem Block.updCopy_pwr (b : Block) (k c : Nat) (f : CopySt → CopySt) : (b.updCopy k c f).pwr = b.pwr := rfl
@[simp] theorem Block.updCopy_flt (b : Block) (k c : Nat) (f : CopySt → CopySt) : (b.updCopy k c f).flt = b.flt := rfl
@[simp] theorem Block.updCopy_mbx (b : Block) (k c : Nat) (f : CopySt → CopySt) : (b.updCopy k c f).mbx = b.mbx := rfl
@[simp] theorem Block.updCopy_mat (b : Block) (k c : Nat) (f : CopySt → CopySt) : (b.updCopy k c f).mat = b.mat := rfl
@[simp] theorem Block.updCopy_sys (b : Block) (k c : Nat) (f : CopySt → CopySt) : (b.updCopy k c f).sys = b.sys := rfl
@[simp] theorem Block.updCopy_fld (b : Block) (k c : Nat) (f : CopySt → CopySt) (fd : Field) (ix : Nat) : (b.updCopy k c f).fld fd ix = b.fld fd ix := rfl
@[simp] theorem Block.updTwin_regs (b : Block) (f : TwinSt → TwinSt) : (b.updTwin f).regs = b.regs := rfl
@[simp] theorem Block.updTwin_out (b : Block) (f : TwinSt → TwinSt) : (b.updTwin f).out = b.out := rfl
@[simp] theorem Block.updTwin_free (b : Block) (f : TwinSt → TwinSt) : (b.updTwin f).free = b.free := rfl
@[simp] theorem Block.updTwin_replies (b : Block) (f : TwinSt → TwinSt) : (b.updTwin f).replies = b.replies := rfl
@[simp] theorem Block.updTwin_dev (b : Block) (f : TwinSt → TwinSt) : (b.updTwin f).dev = b.dev := rfl
@[simp] theorem Block.updTwin_time (b : Block) (f : TwinSt → TwinSt) : (b.updTwin f).time = b.time := rfl
@[simp] theorem Block.updTwin_refs (b : Block) (f : TwinSt → TwinSt) : (b.updTwin f).refs = b.refs := rfl
@[simp] theorem Block.updTwin_pll (b : Block) (f : TwinSt → TwinSt) : (b.updTwin f).pll = b.pll := rfl
@[simp] theorem Block.updTwin_oscLost (b : Block) (f : TwinSt → TwinSt) : (b.updTwin f).oscLost = b.oscLost := rfl
@[simp] theorem Block.updTwin_lanes (b : Block) (f : TwinSt → TwinSt) : (b.updTwin f).lanes = b.lanes := rfl
@[simp] theorem Block.updTwin_bring (b : Block) (f : TwinSt → TwinSt) : (b.updTwin f).bring = b.bring := rfl
@[simp] theorem Block.updTwin_sdiRx (b : Block) (f : TwinSt → TwinSt) : (b.updTwin f).sdiRx = b.sdiRx := rfl
@[simp] theorem Block.updTwin_sdiTx (b : Block) (f : TwinSt → TwinSt) : (b.updTwin f).sdiTx = b.sdiTx := rfl
@[simp] theorem Block.updTwin_eth (b : Block) (f : TwinSt → TwinSt) : (b.updTwin f).eth = b.eth := rfl
@[simp] theorem Block.updTwin_flowRx (b : Block) (f : TwinSt → TwinSt) : (b.updTwin f).flowRx = b.flowRx := rfl
@[simp] theorem Block.updTwin_flowTx (b : Block) (f : TwinSt → TwinSt) : (b.updTwin f).flowTx = b.flowTx := rfl
@[simp] theorem Block.updTwin_outFrames (b : Block) (f : TwinSt → TwinSt) : (b.updTwin f).outFrames = b.outFrames := rfl
@[simp] theorem Block.updTwin_stalls (b : Block) (f : TwinSt → TwinSt) : (b.updTwin f).stalls = b.stalls := rfl
@[simp] theorem Block.updTwin_watch (b : Block) (f : TwinSt → TwinSt) : (b.updTwin f).watch = b.watch := rfl
@[simp] theorem Block.updTwin_checks (b : Block) (f : TwinSt → TwinSt) : (b.updTwin f).checks = b.checks := rfl
@[simp] theorem Block.updTwin_carve (b : Block) (f : TwinSt → TwinSt) : (b.updTwin f).carve = b.carve := rfl
@[simp] theorem Block.updTwin_yard (b : Block) (f : TwinSt → TwinSt) : (b.updTwin f).yard = b.yard := rfl
@[simp] theorem Block.updTwin_fabPorts (b : Block) (f : TwinSt → TwinSt) : (b.updTwin f).fabPorts = b.fabPorts := rfl
@[simp] theorem Block.updTwin_adverts (b : Block) (f : TwinSt → TwinSt) : (b.updTwin f).adverts = b.adverts := rfl
@[simp] theorem Block.updTwin_grants (b : Block) (f : TwinSt → TwinSt) : (b.updTwin f).grants = b.grants := rfl
@[simp] theorem Block.updTwin_withheld (b : Block) (f : TwinSt → TwinSt) : (b.updTwin f).withheld = b.withheld := rfl
@[simp] theorem Block.updTwin_subs (b : Block) (f : TwinSt → TwinSt) : (b.updTwin f).subs = b.subs := rfl
@[simp] theorem Block.updTwin_rings (b : Block) (f : TwinSt → TwinSt) : (b.updTwin f).rings = b.rings := rfl
@[simp] theorem Block.updTwin_asks (b : Block) (f : TwinSt → TwinSt) : (b.updTwin f).asks = b.asks := rfl
@[simp] theorem Block.updTwin_stored (b : Block) (f : TwinSt → TwinSt) : (b.updTwin f).stored = b.stored := rfl
@[simp] theorem Block.updTwin_tid (b : Block) (f : TwinSt → TwinSt) : (b.updTwin f).tid = b.tid := rfl
@[simp] theorem Block.updTwin_allow (b : Block) (f : TwinSt → TwinSt) : (b.updTwin f).allow = b.allow := rfl
@[simp] theorem Block.updTwin_mirrors (b : Block) (f : TwinSt → TwinSt) : (b.updTwin f).mirrors = b.mirrors := rfl
@[simp] theorem Block.updTwin_keys (b : Block) (f : TwinSt → TwinSt) : (b.updTwin f).keys = b.keys := rfl
@[simp] theorem Block.updTwin_pins (b : Block) (f : TwinSt → TwinSt) : (b.updTwin f).pins = b.pins := rfl
@[simp] theorem Block.updTwin_cox (b : Block) (f : TwinSt → TwinSt) : (b.updTwin f).cox = b.cox := rfl
@[simp] theorem Block.updTwin_headSt (b : Block) (f : TwinSt → TwinSt) : (b.updTwin f).headSt = b.headSt := rfl
@[simp] theorem Block.updTwin_colour (b : Block) (f : TwinSt → TwinSt) : (b.updTwin f).colour = b.colour := rfl
@[simp] theorem Block.updTwin_guard (b : Block) (f : TwinSt → TwinSt) : (b.updTwin f).guard = b.guard := rfl
@[simp] theorem Block.updTwin_stills (b : Block) (f : TwinSt → TwinSt) : (b.updTwin f).stills = b.stills := rfl
@[simp] theorem Block.updTwin_safetyReset (b : Block) (f : TwinSt → TwinSt) : (b.updTwin f).safetyReset = b.safetyReset := rfl
@[simp] theorem Block.updTwin_aud (b : Block) (f : TwinSt → TwinSt) : (b.updTwin f).aud = b.aud := rfl
@[simp] theorem Block.updTwin_wit (b : Block) (f : TwinSt → TwinSt) : (b.updTwin f).wit = b.wit := rfl
@[simp] theorem Block.updTwin_released (b : Block) (f : TwinSt → TwinSt) : (b.updTwin f).released = b.released := rfl
@[simp] theorem Block.updTwin_flash (b : Block) (f : TwinSt → TwinSt) : (b.updTwin f).flash = b.flash := rfl
@[simp] theorem Block.updTwin_start (b : Block) (f : TwinSt → TwinSt) : (b.updTwin f).start = b.start := rfl
@[simp] theorem Block.updTwin_pwr (b : Block) (f : TwinSt → TwinSt) : (b.updTwin f).pwr = b.pwr := rfl
@[simp] theorem Block.updTwin_flt (b : Block) (f : TwinSt → TwinSt) : (b.updTwin f).flt = b.flt := rfl
@[simp] theorem Block.updTwin_mbx (b : Block) (f : TwinSt → TwinSt) : (b.updTwin f).mbx = b.mbx := rfl
@[simp] theorem Block.updTwin_mat (b : Block) (f : TwinSt → TwinSt) : (b.updTwin f).mat = b.mat := rfl
@[simp] theorem Block.updTwin_sys (b : Block) (f : TwinSt → TwinSt) : (b.updTwin f).sys = b.sys := rfl
@[simp] theorem Block.updTwin_fld (b : Block) (f : TwinSt → TwinSt) (fd : Field) (ix : Nat) : (b.updTwin f).fld fd ix = b.fld fd ix := rfl
@[simp] theorem Block.updTwin_twin (b : Block) (f : TwinSt → TwinSt) : (b.updTwin f).twin = f b.twin := rfl
@[simp] theorem Block.updWit_regs (b : Block) (f : WitSt → WitSt) : (b.updWit f).regs = b.regs := rfl
@[simp] theorem Block.updWit_out (b : Block) (f : WitSt → WitSt) : (b.updWit f).out = b.out := rfl
@[simp] theorem Block.updWit_free (b : Block) (f : WitSt → WitSt) : (b.updWit f).free = b.free := rfl
@[simp] theorem Block.updWit_replies (b : Block) (f : WitSt → WitSt) : (b.updWit f).replies = b.replies := rfl
@[simp] theorem Block.updWit_dev (b : Block) (f : WitSt → WitSt) : (b.updWit f).dev = b.dev := rfl
@[simp] theorem Block.updWit_time (b : Block) (f : WitSt → WitSt) : (b.updWit f).time = b.time := rfl
@[simp] theorem Block.updWit_refs (b : Block) (f : WitSt → WitSt) : (b.updWit f).refs = b.refs := rfl
@[simp] theorem Block.updWit_pll (b : Block) (f : WitSt → WitSt) : (b.updWit f).pll = b.pll := rfl
@[simp] theorem Block.updWit_oscLost (b : Block) (f : WitSt → WitSt) : (b.updWit f).oscLost = b.oscLost := rfl
@[simp] theorem Block.updWit_lanes (b : Block) (f : WitSt → WitSt) : (b.updWit f).lanes = b.lanes := rfl
@[simp] theorem Block.updWit_bring (b : Block) (f : WitSt → WitSt) : (b.updWit f).bring = b.bring := rfl
@[simp] theorem Block.updWit_sdiRx (b : Block) (f : WitSt → WitSt) : (b.updWit f).sdiRx = b.sdiRx := rfl
@[simp] theorem Block.updWit_sdiTx (b : Block) (f : WitSt → WitSt) : (b.updWit f).sdiTx = b.sdiTx := rfl
@[simp] theorem Block.updWit_eth (b : Block) (f : WitSt → WitSt) : (b.updWit f).eth = b.eth := rfl
@[simp] theorem Block.updWit_flowRx (b : Block) (f : WitSt → WitSt) : (b.updWit f).flowRx = b.flowRx := rfl
@[simp] theorem Block.updWit_flowTx (b : Block) (f : WitSt → WitSt) : (b.updWit f).flowTx = b.flowTx := rfl
@[simp] theorem Block.updWit_outFrames (b : Block) (f : WitSt → WitSt) : (b.updWit f).outFrames = b.outFrames := rfl
@[simp] theorem Block.updWit_stalls (b : Block) (f : WitSt → WitSt) : (b.updWit f).stalls = b.stalls := rfl
@[simp] theorem Block.updWit_watch (b : Block) (f : WitSt → WitSt) : (b.updWit f).watch = b.watch := rfl
@[simp] theorem Block.updWit_checks (b : Block) (f : WitSt → WitSt) : (b.updWit f).checks = b.checks := rfl
@[simp] theorem Block.updWit_carve (b : Block) (f : WitSt → WitSt) : (b.updWit f).carve = b.carve := rfl
@[simp] theorem Block.updWit_yard (b : Block) (f : WitSt → WitSt) : (b.updWit f).yard = b.yard := rfl
@[simp] theorem Block.updWit_fabPorts (b : Block) (f : WitSt → WitSt) : (b.updWit f).fabPorts = b.fabPorts := rfl
@[simp] theorem Block.updWit_adverts (b : Block) (f : WitSt → WitSt) : (b.updWit f).adverts = b.adverts := rfl
@[simp] theorem Block.updWit_grants (b : Block) (f : WitSt → WitSt) : (b.updWit f).grants = b.grants := rfl
@[simp] theorem Block.updWit_withheld (b : Block) (f : WitSt → WitSt) : (b.updWit f).withheld = b.withheld := rfl
@[simp] theorem Block.updWit_subs (b : Block) (f : WitSt → WitSt) : (b.updWit f).subs = b.subs := rfl
@[simp] theorem Block.updWit_rings (b : Block) (f : WitSt → WitSt) : (b.updWit f).rings = b.rings := rfl
@[simp] theorem Block.updWit_asks (b : Block) (f : WitSt → WitSt) : (b.updWit f).asks = b.asks := rfl
@[simp] theorem Block.updWit_stored (b : Block) (f : WitSt → WitSt) : (b.updWit f).stored = b.stored := rfl
@[simp] theorem Block.updWit_tid (b : Block) (f : WitSt → WitSt) : (b.updWit f).tid = b.tid := rfl
@[simp] theorem Block.updWit_allow (b : Block) (f : WitSt → WitSt) : (b.updWit f).allow = b.allow := rfl
@[simp] theorem Block.updWit_mirrors (b : Block) (f : WitSt → WitSt) : (b.updWit f).mirrors = b.mirrors := rfl
@[simp] theorem Block.updWit_keys (b : Block) (f : WitSt → WitSt) : (b.updWit f).keys = b.keys := rfl
@[simp] theorem Block.updWit_pins (b : Block) (f : WitSt → WitSt) : (b.updWit f).pins = b.pins := rfl
@[simp] theorem Block.updWit_cox (b : Block) (f : WitSt → WitSt) : (b.updWit f).cox = b.cox := rfl
@[simp] theorem Block.updWit_headSt (b : Block) (f : WitSt → WitSt) : (b.updWit f).headSt = b.headSt := rfl
@[simp] theorem Block.updWit_colour (b : Block) (f : WitSt → WitSt) : (b.updWit f).colour = b.colour := rfl
@[simp] theorem Block.updWit_guard (b : Block) (f : WitSt → WitSt) : (b.updWit f).guard = b.guard := rfl
@[simp] theorem Block.updWit_stills (b : Block) (f : WitSt → WitSt) : (b.updWit f).stills = b.stills := rfl
@[simp] theorem Block.updWit_safetyReset (b : Block) (f : WitSt → WitSt) : (b.updWit f).safetyReset = b.safetyReset := rfl
@[simp] theorem Block.updWit_aud (b : Block) (f : WitSt → WitSt) : (b.updWit f).aud = b.aud := rfl
@[simp] theorem Block.updWit_twin (b : Block) (f : WitSt → WitSt) : (b.updWit f).twin = b.twin := rfl
@[simp] theorem Block.updWit_released (b : Block) (f : WitSt → WitSt) : (b.updWit f).released = b.released := rfl
@[simp] theorem Block.updWit_flash (b : Block) (f : WitSt → WitSt) : (b.updWit f).flash = b.flash := rfl
@[simp] theorem Block.updWit_start (b : Block) (f : WitSt → WitSt) : (b.updWit f).start = b.start := rfl
@[simp] theorem Block.updWit_pwr (b : Block) (f : WitSt → WitSt) : (b.updWit f).pwr = b.pwr := rfl
@[simp] theorem Block.updWit_flt (b : Block) (f : WitSt → WitSt) : (b.updWit f).flt = b.flt := rfl
@[simp] theorem Block.updWit_mbx (b : Block) (f : WitSt → WitSt) : (b.updWit f).mbx = b.mbx := rfl
@[simp] theorem Block.updWit_mat (b : Block) (f : WitSt → WitSt) : (b.updWit f).mat = b.mat := rfl
@[simp] theorem Block.updWit_sys (b : Block) (f : WitSt → WitSt) : (b.updWit f).sys = b.sys := rfl
@[simp] theorem Block.updWit_fld (b : Block) (f : WitSt → WitSt) (fd : Field) (ix : Nat) : (b.updWit f).fld fd ix = b.fld fd ix := rfl
@[simp] theorem Block.updWit_wit (b : Block) (f : WitSt → WitSt) : (b.updWit f).wit = f b.wit := rfl
@[simp] theorem Block.updTap_regs (b : Block) (t : Nat) (f : TapSt → TapSt) : (b.updTap t f).regs = b.regs := rfl
@[simp] theorem Block.updTap_out (b : Block) (t : Nat) (f : TapSt → TapSt) : (b.updTap t f).out = b.out := rfl
@[simp] theorem Block.updTap_free (b : Block) (t : Nat) (f : TapSt → TapSt) : (b.updTap t f).free = b.free := rfl
@[simp] theorem Block.updTap_replies (b : Block) (t : Nat) (f : TapSt → TapSt) : (b.updTap t f).replies = b.replies := rfl
@[simp] theorem Block.updTap_dev (b : Block) (t : Nat) (f : TapSt → TapSt) : (b.updTap t f).dev = b.dev := rfl
@[simp] theorem Block.updTap_time (b : Block) (t : Nat) (f : TapSt → TapSt) : (b.updTap t f).time = b.time := rfl
@[simp] theorem Block.updTap_refs (b : Block) (t : Nat) (f : TapSt → TapSt) : (b.updTap t f).refs = b.refs := rfl
@[simp] theorem Block.updTap_pll (b : Block) (t : Nat) (f : TapSt → TapSt) : (b.updTap t f).pll = b.pll := rfl
@[simp] theorem Block.updTap_oscLost (b : Block) (t : Nat) (f : TapSt → TapSt) : (b.updTap t f).oscLost = b.oscLost := rfl
@[simp] theorem Block.updTap_lanes (b : Block) (t : Nat) (f : TapSt → TapSt) : (b.updTap t f).lanes = b.lanes := rfl
@[simp] theorem Block.updTap_bring (b : Block) (t : Nat) (f : TapSt → TapSt) : (b.updTap t f).bring = b.bring := rfl
@[simp] theorem Block.updTap_sdiRx (b : Block) (t : Nat) (f : TapSt → TapSt) : (b.updTap t f).sdiRx = b.sdiRx := rfl
@[simp] theorem Block.updTap_sdiTx (b : Block) (t : Nat) (f : TapSt → TapSt) : (b.updTap t f).sdiTx = b.sdiTx := rfl
@[simp] theorem Block.updTap_eth (b : Block) (t : Nat) (f : TapSt → TapSt) : (b.updTap t f).eth = b.eth := rfl
@[simp] theorem Block.updTap_flowRx (b : Block) (t : Nat) (f : TapSt → TapSt) : (b.updTap t f).flowRx = b.flowRx := rfl
@[simp] theorem Block.updTap_flowTx (b : Block) (t : Nat) (f : TapSt → TapSt) : (b.updTap t f).flowTx = b.flowTx := rfl
@[simp] theorem Block.updTap_outFrames (b : Block) (t : Nat) (f : TapSt → TapSt) : (b.updTap t f).outFrames = b.outFrames := rfl
@[simp] theorem Block.updTap_stalls (b : Block) (t : Nat) (f : TapSt → TapSt) : (b.updTap t f).stalls = b.stalls := rfl
@[simp] theorem Block.updTap_watch (b : Block) (t : Nat) (f : TapSt → TapSt) : (b.updTap t f).watch = b.watch := rfl
@[simp] theorem Block.updTap_checks (b : Block) (t : Nat) (f : TapSt → TapSt) : (b.updTap t f).checks = b.checks := rfl
@[simp] theorem Block.updTap_carve (b : Block) (t : Nat) (f : TapSt → TapSt) : (b.updTap t f).carve = b.carve := rfl
@[simp] theorem Block.updTap_yard (b : Block) (t : Nat) (f : TapSt → TapSt) : (b.updTap t f).yard = b.yard := rfl
@[simp] theorem Block.updTap_fabPorts (b : Block) (t : Nat) (f : TapSt → TapSt) : (b.updTap t f).fabPorts = b.fabPorts := rfl
@[simp] theorem Block.updTap_adverts (b : Block) (t : Nat) (f : TapSt → TapSt) : (b.updTap t f).adverts = b.adverts := rfl
@[simp] theorem Block.updTap_grants (b : Block) (t : Nat) (f : TapSt → TapSt) : (b.updTap t f).grants = b.grants := rfl
@[simp] theorem Block.updTap_withheld (b : Block) (t : Nat) (f : TapSt → TapSt) : (b.updTap t f).withheld = b.withheld := rfl
@[simp] theorem Block.updTap_subs (b : Block) (t : Nat) (f : TapSt → TapSt) : (b.updTap t f).subs = b.subs := rfl
@[simp] theorem Block.updTap_rings (b : Block) (t : Nat) (f : TapSt → TapSt) : (b.updTap t f).rings = b.rings := rfl
@[simp] theorem Block.updTap_asks (b : Block) (t : Nat) (f : TapSt → TapSt) : (b.updTap t f).asks = b.asks := rfl
@[simp] theorem Block.updTap_stored (b : Block) (t : Nat) (f : TapSt → TapSt) : (b.updTap t f).stored = b.stored := rfl
@[simp] theorem Block.updTap_tid (b : Block) (t : Nat) (f : TapSt → TapSt) : (b.updTap t f).tid = b.tid := rfl
@[simp] theorem Block.updTap_allow (b : Block) (t : Nat) (f : TapSt → TapSt) : (b.updTap t f).allow = b.allow := rfl
@[simp] theorem Block.updTap_mirrors (b : Block) (t : Nat) (f : TapSt → TapSt) : (b.updTap t f).mirrors = b.mirrors := rfl
@[simp] theorem Block.updTap_keys (b : Block) (t : Nat) (f : TapSt → TapSt) : (b.updTap t f).keys = b.keys := rfl
@[simp] theorem Block.updTap_pins (b : Block) (t : Nat) (f : TapSt → TapSt) : (b.updTap t f).pins = b.pins := rfl
@[simp] theorem Block.updTap_cox (b : Block) (t : Nat) (f : TapSt → TapSt) : (b.updTap t f).cox = b.cox := rfl
@[simp] theorem Block.updTap_headSt (b : Block) (t : Nat) (f : TapSt → TapSt) : (b.updTap t f).headSt = b.headSt := rfl
@[simp] theorem Block.updTap_colour (b : Block) (t : Nat) (f : TapSt → TapSt) : (b.updTap t f).colour = b.colour := rfl
@[simp] theorem Block.updTap_guard (b : Block) (t : Nat) (f : TapSt → TapSt) : (b.updTap t f).guard = b.guard := rfl
@[simp] theorem Block.updTap_stills (b : Block) (t : Nat) (f : TapSt → TapSt) : (b.updTap t f).stills = b.stills := rfl
@[simp] theorem Block.updTap_safetyReset (b : Block) (t : Nat) (f : TapSt → TapSt) : (b.updTap t f).safetyReset = b.safetyReset := rfl
@[simp] theorem Block.updTap_aud (b : Block) (t : Nat) (f : TapSt → TapSt) : (b.updTap t f).aud = b.aud := rfl
@[simp] theorem Block.updTap_twin (b : Block) (t : Nat) (f : TapSt → TapSt) : (b.updTap t f).twin = b.twin := rfl
@[simp] theorem Block.updTap_released (b : Block) (t : Nat) (f : TapSt → TapSt) : (b.updTap t f).released = b.released := rfl
@[simp] theorem Block.updTap_flash (b : Block) (t : Nat) (f : TapSt → TapSt) : (b.updTap t f).flash = b.flash := rfl
@[simp] theorem Block.updTap_start (b : Block) (t : Nat) (f : TapSt → TapSt) : (b.updTap t f).start = b.start := rfl
@[simp] theorem Block.updTap_pwr (b : Block) (t : Nat) (f : TapSt → TapSt) : (b.updTap t f).pwr = b.pwr := rfl
@[simp] theorem Block.updTap_flt (b : Block) (t : Nat) (f : TapSt → TapSt) : (b.updTap t f).flt = b.flt := rfl
@[simp] theorem Block.updTap_mbx (b : Block) (t : Nat) (f : TapSt → TapSt) : (b.updTap t f).mbx = b.mbx := rfl
@[simp] theorem Block.updTap_mat (b : Block) (t : Nat) (f : TapSt → TapSt) : (b.updTap t f).mat = b.mat := rfl
@[simp] theorem Block.updTap_sys (b : Block) (t : Nat) (f : TapSt → TapSt) : (b.updTap t f).sys = b.sys := rfl
@[simp] theorem Block.updTap_fld (b : Block) (t : Nat) (f : TapSt → TapSt) (fd : Field) (ix : Nat) : (b.updTap t f).fld fd ix = b.fld fd ix := rfl
@[simp] theorem Block.updChain_regs (b : Block) (k : Nat) (f : Chain → Chain) : (b.updChain k f).regs = b.regs := rfl
@[simp] theorem Block.updChain_out (b : Block) (k : Nat) (f : Chain → Chain) : (b.updChain k f).out = b.out := rfl
@[simp] theorem Block.updChain_free (b : Block) (k : Nat) (f : Chain → Chain) : (b.updChain k f).free = b.free := rfl
@[simp] theorem Block.updChain_replies (b : Block) (k : Nat) (f : Chain → Chain) : (b.updChain k f).replies = b.replies := rfl
@[simp] theorem Block.updChain_dev (b : Block) (k : Nat) (f : Chain → Chain) : (b.updChain k f).dev = b.dev := rfl
@[simp] theorem Block.updChain_time (b : Block) (k : Nat) (f : Chain → Chain) : (b.updChain k f).time = b.time := rfl
@[simp] theorem Block.updChain_refs (b : Block) (k : Nat) (f : Chain → Chain) : (b.updChain k f).refs = b.refs := rfl
@[simp] theorem Block.updChain_pll (b : Block) (k : Nat) (f : Chain → Chain) : (b.updChain k f).pll = b.pll := rfl
@[simp] theorem Block.updChain_oscLost (b : Block) (k : Nat) (f : Chain → Chain) : (b.updChain k f).oscLost = b.oscLost := rfl
@[simp] theorem Block.updChain_lanes (b : Block) (k : Nat) (f : Chain → Chain) : (b.updChain k f).lanes = b.lanes := rfl
@[simp] theorem Block.updChain_bring (b : Block) (k : Nat) (f : Chain → Chain) : (b.updChain k f).bring = b.bring := rfl
@[simp] theorem Block.updChain_sdiRx (b : Block) (k : Nat) (f : Chain → Chain) : (b.updChain k f).sdiRx = b.sdiRx := rfl
@[simp] theorem Block.updChain_sdiTx (b : Block) (k : Nat) (f : Chain → Chain) : (b.updChain k f).sdiTx = b.sdiTx := rfl
@[simp] theorem Block.updChain_eth (b : Block) (k : Nat) (f : Chain → Chain) : (b.updChain k f).eth = b.eth := rfl
@[simp] theorem Block.updChain_flowRx (b : Block) (k : Nat) (f : Chain → Chain) : (b.updChain k f).flowRx = b.flowRx := rfl
@[simp] theorem Block.updChain_flowTx (b : Block) (k : Nat) (f : Chain → Chain) : (b.updChain k f).flowTx = b.flowTx := rfl
@[simp] theorem Block.updChain_outFrames (b : Block) (k : Nat) (f : Chain → Chain) : (b.updChain k f).outFrames = b.outFrames := rfl
@[simp] theorem Block.updChain_stalls (b : Block) (k : Nat) (f : Chain → Chain) : (b.updChain k f).stalls = b.stalls := rfl
@[simp] theorem Block.updChain_watch (b : Block) (k : Nat) (f : Chain → Chain) : (b.updChain k f).watch = b.watch := rfl
@[simp] theorem Block.updChain_checks (b : Block) (k : Nat) (f : Chain → Chain) : (b.updChain k f).checks = b.checks := rfl
@[simp] theorem Block.updChain_carve (b : Block) (k : Nat) (f : Chain → Chain) : (b.updChain k f).carve = b.carve := rfl
@[simp] theorem Block.updChain_yard (b : Block) (k : Nat) (f : Chain → Chain) : (b.updChain k f).yard = b.yard := rfl
@[simp] theorem Block.updChain_fabPorts (b : Block) (k : Nat) (f : Chain → Chain) : (b.updChain k f).fabPorts = b.fabPorts := rfl
@[simp] theorem Block.updChain_adverts (b : Block) (k : Nat) (f : Chain → Chain) : (b.updChain k f).adverts = b.adverts := rfl
@[simp] theorem Block.updChain_grants (b : Block) (k : Nat) (f : Chain → Chain) : (b.updChain k f).grants = b.grants := rfl
@[simp] theorem Block.updChain_withheld (b : Block) (k : Nat) (f : Chain → Chain) : (b.updChain k f).withheld = b.withheld := rfl
@[simp] theorem Block.updChain_subs (b : Block) (k : Nat) (f : Chain → Chain) : (b.updChain k f).subs = b.subs := rfl
@[simp] theorem Block.updChain_rings (b : Block) (k : Nat) (f : Chain → Chain) : (b.updChain k f).rings = b.rings := rfl
@[simp] theorem Block.updChain_asks (b : Block) (k : Nat) (f : Chain → Chain) : (b.updChain k f).asks = b.asks := rfl
@[simp] theorem Block.updChain_stored (b : Block) (k : Nat) (f : Chain → Chain) : (b.updChain k f).stored = b.stored := rfl
@[simp] theorem Block.updChain_tid (b : Block) (k : Nat) (f : Chain → Chain) : (b.updChain k f).tid = b.tid := rfl
@[simp] theorem Block.updChain_allow (b : Block) (k : Nat) (f : Chain → Chain) : (b.updChain k f).allow = b.allow := rfl
@[simp] theorem Block.updChain_mirrors (b : Block) (k : Nat) (f : Chain → Chain) : (b.updChain k f).mirrors = b.mirrors := rfl
@[simp] theorem Block.updChain_keys (b : Block) (k : Nat) (f : Chain → Chain) : (b.updChain k f).keys = b.keys := rfl
@[simp] theorem Block.updChain_pins (b : Block) (k : Nat) (f : Chain → Chain) : (b.updChain k f).pins = b.pins := rfl
@[simp] theorem Block.updChain_cox (b : Block) (k : Nat) (f : Chain → Chain) : (b.updChain k f).cox = b.cox := rfl
@[simp] theorem Block.updChain_headSt (b : Block) (k : Nat) (f : Chain → Chain) : (b.updChain k f).headSt = b.headSt := rfl
@[simp] theorem Block.updChain_colour (b : Block) (k : Nat) (f : Chain → Chain) : (b.updChain k f).colour = b.colour := rfl
@[simp] theorem Block.updChain_guard (b : Block) (k : Nat) (f : Chain → Chain) : (b.updChain k f).guard = b.guard := rfl
@[simp] theorem Block.updChain_stills (b : Block) (k : Nat) (f : Chain → Chain) : (b.updChain k f).stills = b.stills := rfl
@[simp] theorem Block.updChain_safetyReset (b : Block) (k : Nat) (f : Chain → Chain) : (b.updChain k f).safetyReset = b.safetyReset := rfl
@[simp] theorem Block.updChain_aud (b : Block) (k : Nat) (f : Chain → Chain) : (b.updChain k f).aud = b.aud := rfl
@[simp] theorem Block.updChain_twin (b : Block) (k : Nat) (f : Chain → Chain) : (b.updChain k f).twin = b.twin := rfl
@[simp] theorem Block.updChain_released (b : Block) (k : Nat) (f : Chain → Chain) : (b.updChain k f).released = b.released := rfl
@[simp] theorem Block.updChain_flash (b : Block) (k : Nat) (f : Chain → Chain) : (b.updChain k f).flash = b.flash := rfl
@[simp] theorem Block.updChain_start (b : Block) (k : Nat) (f : Chain → Chain) : (b.updChain k f).start = b.start := rfl
@[simp] theorem Block.updChain_pwr (b : Block) (k : Nat) (f : Chain → Chain) : (b.updChain k f).pwr = b.pwr := rfl
@[simp] theorem Block.updChain_flt (b : Block) (k : Nat) (f : Chain → Chain) : (b.updChain k f).flt = b.flt := rfl
@[simp] theorem Block.updChain_mbx (b : Block) (k : Nat) (f : Chain → Chain) : (b.updChain k f).mbx = b.mbx := rfl
@[simp] theorem Block.updChain_mat (b : Block) (k : Nat) (f : Chain → Chain) : (b.updChain k f).mat = b.mat := rfl
@[simp] theorem Block.updChain_sys (b : Block) (k : Nat) (f : Chain → Chain) : (b.updChain k f).sys = b.sys := rfl
@[simp] theorem Block.updChain_fld (b : Block) (k : Nat) (f : Chain → Chain) (fd : Field) (ix : Nat) : (b.updChain k f).fld fd ix = b.fld fd ix := rfl
@[simp] theorem Block.updSet_regs (b : Block) (f : DriveSet → DriveSet) : (b.updSet f).regs = b.regs := rfl
@[simp] theorem Block.updSet_out (b : Block) (f : DriveSet → DriveSet) : (b.updSet f).out = b.out := rfl
@[simp] theorem Block.updSet_free (b : Block) (f : DriveSet → DriveSet) : (b.updSet f).free = b.free := rfl
@[simp] theorem Block.updSet_replies (b : Block) (f : DriveSet → DriveSet) : (b.updSet f).replies = b.replies := rfl
@[simp] theorem Block.updSet_dev (b : Block) (f : DriveSet → DriveSet) : (b.updSet f).dev = b.dev := rfl
@[simp] theorem Block.updSet_time (b : Block) (f : DriveSet → DriveSet) : (b.updSet f).time = b.time := rfl
@[simp] theorem Block.updSet_refs (b : Block) (f : DriveSet → DriveSet) : (b.updSet f).refs = b.refs := rfl
@[simp] theorem Block.updSet_pll (b : Block) (f : DriveSet → DriveSet) : (b.updSet f).pll = b.pll := rfl
@[simp] theorem Block.updSet_oscLost (b : Block) (f : DriveSet → DriveSet) : (b.updSet f).oscLost = b.oscLost := rfl
@[simp] theorem Block.updSet_lanes (b : Block) (f : DriveSet → DriveSet) : (b.updSet f).lanes = b.lanes := rfl
@[simp] theorem Block.updSet_bring (b : Block) (f : DriveSet → DriveSet) : (b.updSet f).bring = b.bring := rfl
@[simp] theorem Block.updSet_sdiRx (b : Block) (f : DriveSet → DriveSet) : (b.updSet f).sdiRx = b.sdiRx := rfl
@[simp] theorem Block.updSet_sdiTx (b : Block) (f : DriveSet → DriveSet) : (b.updSet f).sdiTx = b.sdiTx := rfl
@[simp] theorem Block.updSet_eth (b : Block) (f : DriveSet → DriveSet) : (b.updSet f).eth = b.eth := rfl
@[simp] theorem Block.updSet_flowRx (b : Block) (f : DriveSet → DriveSet) : (b.updSet f).flowRx = b.flowRx := rfl
@[simp] theorem Block.updSet_flowTx (b : Block) (f : DriveSet → DriveSet) : (b.updSet f).flowTx = b.flowTx := rfl
@[simp] theorem Block.updSet_outFrames (b : Block) (f : DriveSet → DriveSet) : (b.updSet f).outFrames = b.outFrames := rfl
@[simp] theorem Block.updSet_stalls (b : Block) (f : DriveSet → DriveSet) : (b.updSet f).stalls = b.stalls := rfl
@[simp] theorem Block.updSet_watch (b : Block) (f : DriveSet → DriveSet) : (b.updSet f).watch = b.watch := rfl
@[simp] theorem Block.updSet_checks (b : Block) (f : DriveSet → DriveSet) : (b.updSet f).checks = b.checks := rfl
@[simp] theorem Block.updSet_carve (b : Block) (f : DriveSet → DriveSet) : (b.updSet f).carve = b.carve := rfl
@[simp] theorem Block.updSet_yard (b : Block) (f : DriveSet → DriveSet) : (b.updSet f).yard = b.yard := rfl
@[simp] theorem Block.updSet_fabPorts (b : Block) (f : DriveSet → DriveSet) : (b.updSet f).fabPorts = b.fabPorts := rfl
@[simp] theorem Block.updSet_adverts (b : Block) (f : DriveSet → DriveSet) : (b.updSet f).adverts = b.adverts := rfl
@[simp] theorem Block.updSet_grants (b : Block) (f : DriveSet → DriveSet) : (b.updSet f).grants = b.grants := rfl
@[simp] theorem Block.updSet_withheld (b : Block) (f : DriveSet → DriveSet) : (b.updSet f).withheld = b.withheld := rfl
@[simp] theorem Block.updSet_subs (b : Block) (f : DriveSet → DriveSet) : (b.updSet f).subs = b.subs := rfl
@[simp] theorem Block.updSet_rings (b : Block) (f : DriveSet → DriveSet) : (b.updSet f).rings = b.rings := rfl
@[simp] theorem Block.updSet_asks (b : Block) (f : DriveSet → DriveSet) : (b.updSet f).asks = b.asks := rfl
@[simp] theorem Block.updSet_stored (b : Block) (f : DriveSet → DriveSet) : (b.updSet f).stored = b.stored := rfl
@[simp] theorem Block.updSet_tid (b : Block) (f : DriveSet → DriveSet) : (b.updSet f).tid = b.tid := rfl
@[simp] theorem Block.updSet_allow (b : Block) (f : DriveSet → DriveSet) : (b.updSet f).allow = b.allow := rfl
@[simp] theorem Block.updSet_mirrors (b : Block) (f : DriveSet → DriveSet) : (b.updSet f).mirrors = b.mirrors := rfl
@[simp] theorem Block.updSet_keys (b : Block) (f : DriveSet → DriveSet) : (b.updSet f).keys = b.keys := rfl
@[simp] theorem Block.updSet_pins (b : Block) (f : DriveSet → DriveSet) : (b.updSet f).pins = b.pins := rfl
@[simp] theorem Block.updSet_cox (b : Block) (f : DriveSet → DriveSet) : (b.updSet f).cox = b.cox := rfl
@[simp] theorem Block.updSet_headSt (b : Block) (f : DriveSet → DriveSet) : (b.updSet f).headSt = b.headSt := rfl
@[simp] theorem Block.updSet_colour (b : Block) (f : DriveSet → DriveSet) : (b.updSet f).colour = b.colour := rfl
@[simp] theorem Block.updSet_guard (b : Block) (f : DriveSet → DriveSet) : (b.updSet f).guard = b.guard := rfl
@[simp] theorem Block.updSet_stills (b : Block) (f : DriveSet → DriveSet) : (b.updSet f).stills = b.stills := rfl
@[simp] theorem Block.updSet_safetyReset (b : Block) (f : DriveSet → DriveSet) : (b.updSet f).safetyReset = b.safetyReset := rfl
@[simp] theorem Block.updSet_aud (b : Block) (f : DriveSet → DriveSet) : (b.updSet f).aud = b.aud := rfl
@[simp] theorem Block.updSet_twin (b : Block) (f : DriveSet → DriveSet) : (b.updSet f).twin = b.twin := rfl
@[simp] theorem Block.updSet_released (b : Block) (f : DriveSet → DriveSet) : (b.updSet f).released = b.released := rfl
@[simp] theorem Block.updSet_flash (b : Block) (f : DriveSet → DriveSet) : (b.updSet f).flash = b.flash := rfl
@[simp] theorem Block.updSet_start (b : Block) (f : DriveSet → DriveSet) : (b.updSet f).start = b.start := rfl
@[simp] theorem Block.updSet_pwr (b : Block) (f : DriveSet → DriveSet) : (b.updSet f).pwr = b.pwr := rfl
@[simp] theorem Block.updSet_flt (b : Block) (f : DriveSet → DriveSet) : (b.updSet f).flt = b.flt := rfl
@[simp] theorem Block.updSet_mbx (b : Block) (f : DriveSet → DriveSet) : (b.updSet f).mbx = b.mbx := rfl
@[simp] theorem Block.updSet_mat (b : Block) (f : DriveSet → DriveSet) : (b.updSet f).mat = b.mat := rfl
@[simp] theorem Block.updSet_sys (b : Block) (f : DriveSet → DriveSet) : (b.updSet f).sys = b.sys := rfl
@[simp] theorem Block.updSet_fld (b : Block) (f : DriveSet → DriveSet) (fd : Field) (ix : Nat) : (b.updSet f).fld fd ix = b.fld fd ix := rfl
@[simp] theorem Block.updDrive_regs (b : Block) (d : Nat) (f : DriveSt → DriveSt) : (b.updDrive d f).regs = b.regs := rfl
@[simp] theorem Block.updDrive_out (b : Block) (d : Nat) (f : DriveSt → DriveSt) : (b.updDrive d f).out = b.out := rfl
@[simp] theorem Block.updDrive_free (b : Block) (d : Nat) (f : DriveSt → DriveSt) : (b.updDrive d f).free = b.free := rfl
@[simp] theorem Block.updDrive_replies (b : Block) (d : Nat) (f : DriveSt → DriveSt) : (b.updDrive d f).replies = b.replies := rfl
@[simp] theorem Block.updDrive_dev (b : Block) (d : Nat) (f : DriveSt → DriveSt) : (b.updDrive d f).dev = b.dev := rfl
@[simp] theorem Block.updDrive_time (b : Block) (d : Nat) (f : DriveSt → DriveSt) : (b.updDrive d f).time = b.time := rfl
@[simp] theorem Block.updDrive_refs (b : Block) (d : Nat) (f : DriveSt → DriveSt) : (b.updDrive d f).refs = b.refs := rfl
@[simp] theorem Block.updDrive_pll (b : Block) (d : Nat) (f : DriveSt → DriveSt) : (b.updDrive d f).pll = b.pll := rfl
@[simp] theorem Block.updDrive_oscLost (b : Block) (d : Nat) (f : DriveSt → DriveSt) : (b.updDrive d f).oscLost = b.oscLost := rfl
@[simp] theorem Block.updDrive_lanes (b : Block) (d : Nat) (f : DriveSt → DriveSt) : (b.updDrive d f).lanes = b.lanes := rfl
@[simp] theorem Block.updDrive_bring (b : Block) (d : Nat) (f : DriveSt → DriveSt) : (b.updDrive d f).bring = b.bring := rfl
@[simp] theorem Block.updDrive_sdiRx (b : Block) (d : Nat) (f : DriveSt → DriveSt) : (b.updDrive d f).sdiRx = b.sdiRx := rfl
@[simp] theorem Block.updDrive_sdiTx (b : Block) (d : Nat) (f : DriveSt → DriveSt) : (b.updDrive d f).sdiTx = b.sdiTx := rfl
@[simp] theorem Block.updDrive_eth (b : Block) (d : Nat) (f : DriveSt → DriveSt) : (b.updDrive d f).eth = b.eth := rfl
@[simp] theorem Block.updDrive_flowRx (b : Block) (d : Nat) (f : DriveSt → DriveSt) : (b.updDrive d f).flowRx = b.flowRx := rfl
@[simp] theorem Block.updDrive_flowTx (b : Block) (d : Nat) (f : DriveSt → DriveSt) : (b.updDrive d f).flowTx = b.flowTx := rfl
@[simp] theorem Block.updDrive_outFrames (b : Block) (d : Nat) (f : DriveSt → DriveSt) : (b.updDrive d f).outFrames = b.outFrames := rfl
@[simp] theorem Block.updDrive_stalls (b : Block) (d : Nat) (f : DriveSt → DriveSt) : (b.updDrive d f).stalls = b.stalls := rfl
@[simp] theorem Block.updDrive_watch (b : Block) (d : Nat) (f : DriveSt → DriveSt) : (b.updDrive d f).watch = b.watch := rfl
@[simp] theorem Block.updDrive_checks (b : Block) (d : Nat) (f : DriveSt → DriveSt) : (b.updDrive d f).checks = b.checks := rfl
@[simp] theorem Block.updDrive_carve (b : Block) (d : Nat) (f : DriveSt → DriveSt) : (b.updDrive d f).carve = b.carve := rfl
@[simp] theorem Block.updDrive_yard (b : Block) (d : Nat) (f : DriveSt → DriveSt) : (b.updDrive d f).yard = b.yard := rfl
@[simp] theorem Block.updDrive_fabPorts (b : Block) (d : Nat) (f : DriveSt → DriveSt) : (b.updDrive d f).fabPorts = b.fabPorts := rfl
@[simp] theorem Block.updDrive_adverts (b : Block) (d : Nat) (f : DriveSt → DriveSt) : (b.updDrive d f).adverts = b.adverts := rfl
@[simp] theorem Block.updDrive_grants (b : Block) (d : Nat) (f : DriveSt → DriveSt) : (b.updDrive d f).grants = b.grants := rfl
@[simp] theorem Block.updDrive_withheld (b : Block) (d : Nat) (f : DriveSt → DriveSt) : (b.updDrive d f).withheld = b.withheld := rfl
@[simp] theorem Block.updDrive_subs (b : Block) (d : Nat) (f : DriveSt → DriveSt) : (b.updDrive d f).subs = b.subs := rfl
@[simp] theorem Block.updDrive_rings (b : Block) (d : Nat) (f : DriveSt → DriveSt) : (b.updDrive d f).rings = b.rings := rfl
@[simp] theorem Block.updDrive_asks (b : Block) (d : Nat) (f : DriveSt → DriveSt) : (b.updDrive d f).asks = b.asks := rfl
@[simp] theorem Block.updDrive_stored (b : Block) (d : Nat) (f : DriveSt → DriveSt) : (b.updDrive d f).stored = b.stored := rfl
@[simp] theorem Block.updDrive_tid (b : Block) (d : Nat) (f : DriveSt → DriveSt) : (b.updDrive d f).tid = b.tid := rfl
@[simp] theorem Block.updDrive_allow (b : Block) (d : Nat) (f : DriveSt → DriveSt) : (b.updDrive d f).allow = b.allow := rfl
@[simp] theorem Block.updDrive_mirrors (b : Block) (d : Nat) (f : DriveSt → DriveSt) : (b.updDrive d f).mirrors = b.mirrors := rfl
@[simp] theorem Block.updDrive_keys (b : Block) (d : Nat) (f : DriveSt → DriveSt) : (b.updDrive d f).keys = b.keys := rfl
@[simp] theorem Block.updDrive_pins (b : Block) (d : Nat) (f : DriveSt → DriveSt) : (b.updDrive d f).pins = b.pins := rfl
@[simp] theorem Block.updDrive_cox (b : Block) (d : Nat) (f : DriveSt → DriveSt) : (b.updDrive d f).cox = b.cox := rfl
@[simp] theorem Block.updDrive_headSt (b : Block) (d : Nat) (f : DriveSt → DriveSt) : (b.updDrive d f).headSt = b.headSt := rfl
@[simp] theorem Block.updDrive_colour (b : Block) (d : Nat) (f : DriveSt → DriveSt) : (b.updDrive d f).colour = b.colour := rfl
@[simp] theorem Block.updDrive_guard (b : Block) (d : Nat) (f : DriveSt → DriveSt) : (b.updDrive d f).guard = b.guard := rfl
@[simp] theorem Block.updDrive_stills (b : Block) (d : Nat) (f : DriveSt → DriveSt) : (b.updDrive d f).stills = b.stills := rfl
@[simp] theorem Block.updDrive_safetyReset (b : Block) (d : Nat) (f : DriveSt → DriveSt) : (b.updDrive d f).safetyReset = b.safetyReset := rfl
@[simp] theorem Block.updDrive_aud (b : Block) (d : Nat) (f : DriveSt → DriveSt) : (b.updDrive d f).aud = b.aud := rfl
@[simp] theorem Block.updDrive_twin (b : Block) (d : Nat) (f : DriveSt → DriveSt) : (b.updDrive d f).twin = b.twin := rfl
@[simp] theorem Block.updDrive_released (b : Block) (d : Nat) (f : DriveSt → DriveSt) : (b.updDrive d f).released = b.released := rfl
@[simp] theorem Block.updDrive_flash (b : Block) (d : Nat) (f : DriveSt → DriveSt) : (b.updDrive d f).flash = b.flash := rfl
@[simp] theorem Block.updDrive_start (b : Block) (d : Nat) (f : DriveSt → DriveSt) : (b.updDrive d f).start = b.start := rfl
@[simp] theorem Block.updDrive_pwr (b : Block) (d : Nat) (f : DriveSt → DriveSt) : (b.updDrive d f).pwr = b.pwr := rfl
@[simp] theorem Block.updDrive_flt (b : Block) (d : Nat) (f : DriveSt → DriveSt) : (b.updDrive d f).flt = b.flt := rfl
@[simp] theorem Block.updDrive_mbx (b : Block) (d : Nat) (f : DriveSt → DriveSt) : (b.updDrive d f).mbx = b.mbx := rfl
@[simp] theorem Block.updDrive_mat (b : Block) (d : Nat) (f : DriveSt → DriveSt) : (b.updDrive d f).mat = b.mat := rfl
@[simp] theorem Block.updDrive_sys (b : Block) (d : Nat) (f : DriveSt → DriveSt) : (b.updDrive d f).sys = b.sys := rfl
@[simp] theorem Block.updDrive_fld (b : Block) (d : Nat) (f : DriveSt → DriveSt) (fd : Field) (ix : Nat) : (b.updDrive d f).fld fd ix = b.fld fd ix := rfl
@[simp] theorem Block.updStall_regs (b : Block) (j : Nat) (f : StallSt → StallSt) : (b.updStall j f).regs = b.regs := rfl
@[simp] theorem Block.updStall_out (b : Block) (j : Nat) (f : StallSt → StallSt) : (b.updStall j f).out = b.out := rfl
@[simp] theorem Block.updStall_free (b : Block) (j : Nat) (f : StallSt → StallSt) : (b.updStall j f).free = b.free := rfl
@[simp] theorem Block.updStall_replies (b : Block) (j : Nat) (f : StallSt → StallSt) : (b.updStall j f).replies = b.replies := rfl
@[simp] theorem Block.updStall_dev (b : Block) (j : Nat) (f : StallSt → StallSt) : (b.updStall j f).dev = b.dev := rfl
@[simp] theorem Block.updStall_time (b : Block) (j : Nat) (f : StallSt → StallSt) : (b.updStall j f).time = b.time := rfl
@[simp] theorem Block.updStall_refs (b : Block) (j : Nat) (f : StallSt → StallSt) : (b.updStall j f).refs = b.refs := rfl
@[simp] theorem Block.updStall_pll (b : Block) (j : Nat) (f : StallSt → StallSt) : (b.updStall j f).pll = b.pll := rfl
@[simp] theorem Block.updStall_oscLost (b : Block) (j : Nat) (f : StallSt → StallSt) : (b.updStall j f).oscLost = b.oscLost := rfl
@[simp] theorem Block.updStall_lanes (b : Block) (j : Nat) (f : StallSt → StallSt) : (b.updStall j f).lanes = b.lanes := rfl
@[simp] theorem Block.updStall_bring (b : Block) (j : Nat) (f : StallSt → StallSt) : (b.updStall j f).bring = b.bring := rfl
@[simp] theorem Block.updStall_sdiRx (b : Block) (j : Nat) (f : StallSt → StallSt) : (b.updStall j f).sdiRx = b.sdiRx := rfl
@[simp] theorem Block.updStall_sdiTx (b : Block) (j : Nat) (f : StallSt → StallSt) : (b.updStall j f).sdiTx = b.sdiTx := rfl
@[simp] theorem Block.updStall_eth (b : Block) (j : Nat) (f : StallSt → StallSt) : (b.updStall j f).eth = b.eth := rfl
@[simp] theorem Block.updStall_flowRx (b : Block) (j : Nat) (f : StallSt → StallSt) : (b.updStall j f).flowRx = b.flowRx := rfl
@[simp] theorem Block.updStall_flowTx (b : Block) (j : Nat) (f : StallSt → StallSt) : (b.updStall j f).flowTx = b.flowTx := rfl
@[simp] theorem Block.updStall_outFrames (b : Block) (j : Nat) (f : StallSt → StallSt) : (b.updStall j f).outFrames = b.outFrames := rfl
@[simp] theorem Block.updStall_watch (b : Block) (j : Nat) (f : StallSt → StallSt) : (b.updStall j f).watch = b.watch := rfl
@[simp] theorem Block.updStall_checks (b : Block) (j : Nat) (f : StallSt → StallSt) : (b.updStall j f).checks = b.checks := rfl
@[simp] theorem Block.updStall_carve (b : Block) (j : Nat) (f : StallSt → StallSt) : (b.updStall j f).carve = b.carve := rfl
@[simp] theorem Block.updStall_yard (b : Block) (j : Nat) (f : StallSt → StallSt) : (b.updStall j f).yard = b.yard := rfl
@[simp] theorem Block.updStall_fabPorts (b : Block) (j : Nat) (f : StallSt → StallSt) : (b.updStall j f).fabPorts = b.fabPorts := rfl
@[simp] theorem Block.updStall_adverts (b : Block) (j : Nat) (f : StallSt → StallSt) : (b.updStall j f).adverts = b.adverts := rfl
@[simp] theorem Block.updStall_grants (b : Block) (j : Nat) (f : StallSt → StallSt) : (b.updStall j f).grants = b.grants := rfl
@[simp] theorem Block.updStall_withheld (b : Block) (j : Nat) (f : StallSt → StallSt) : (b.updStall j f).withheld = b.withheld := rfl
@[simp] theorem Block.updStall_subs (b : Block) (j : Nat) (f : StallSt → StallSt) : (b.updStall j f).subs = b.subs := rfl
@[simp] theorem Block.updStall_rings (b : Block) (j : Nat) (f : StallSt → StallSt) : (b.updStall j f).rings = b.rings := rfl
@[simp] theorem Block.updStall_asks (b : Block) (j : Nat) (f : StallSt → StallSt) : (b.updStall j f).asks = b.asks := rfl
@[simp] theorem Block.updStall_stored (b : Block) (j : Nat) (f : StallSt → StallSt) : (b.updStall j f).stored = b.stored := rfl
@[simp] theorem Block.updStall_tid (b : Block) (j : Nat) (f : StallSt → StallSt) : (b.updStall j f).tid = b.tid := rfl
@[simp] theorem Block.updStall_allow (b : Block) (j : Nat) (f : StallSt → StallSt) : (b.updStall j f).allow = b.allow := rfl
@[simp] theorem Block.updStall_mirrors (b : Block) (j : Nat) (f : StallSt → StallSt) : (b.updStall j f).mirrors = b.mirrors := rfl
@[simp] theorem Block.updStall_keys (b : Block) (j : Nat) (f : StallSt → StallSt) : (b.updStall j f).keys = b.keys := rfl
@[simp] theorem Block.updStall_pins (b : Block) (j : Nat) (f : StallSt → StallSt) : (b.updStall j f).pins = b.pins := rfl
@[simp] theorem Block.updStall_cox (b : Block) (j : Nat) (f : StallSt → StallSt) : (b.updStall j f).cox = b.cox := rfl
@[simp] theorem Block.updStall_headSt (b : Block) (j : Nat) (f : StallSt → StallSt) : (b.updStall j f).headSt = b.headSt := rfl
@[simp] theorem Block.updStall_colour (b : Block) (j : Nat) (f : StallSt → StallSt) : (b.updStall j f).colour = b.colour := rfl
@[simp] theorem Block.updStall_guard (b : Block) (j : Nat) (f : StallSt → StallSt) : (b.updStall j f).guard = b.guard := rfl
@[simp] theorem Block.updStall_stills (b : Block) (j : Nat) (f : StallSt → StallSt) : (b.updStall j f).stills = b.stills := rfl
@[simp] theorem Block.updStall_safetyReset (b : Block) (j : Nat) (f : StallSt → StallSt) : (b.updStall j f).safetyReset = b.safetyReset := rfl
@[simp] theorem Block.updStall_aud (b : Block) (j : Nat) (f : StallSt → StallSt) : (b.updStall j f).aud = b.aud := rfl
@[simp] theorem Block.updStall_wit (b : Block) (j : Nat) (f : StallSt → StallSt) : (b.updStall j f).wit = b.wit := rfl
@[simp] theorem Block.updStall_twin (b : Block) (j : Nat) (f : StallSt → StallSt) : (b.updStall j f).twin = b.twin := rfl
@[simp] theorem Block.updStall_released (b : Block) (j : Nat) (f : StallSt → StallSt) : (b.updStall j f).released = b.released := rfl
@[simp] theorem Block.updStall_flash (b : Block) (j : Nat) (f : StallSt → StallSt) : (b.updStall j f).flash = b.flash := rfl
@[simp] theorem Block.updStall_start (b : Block) (j : Nat) (f : StallSt → StallSt) : (b.updStall j f).start = b.start := rfl
@[simp] theorem Block.updStall_pwr (b : Block) (j : Nat) (f : StallSt → StallSt) : (b.updStall j f).pwr = b.pwr := rfl
@[simp] theorem Block.updStall_flt (b : Block) (j : Nat) (f : StallSt → StallSt) : (b.updStall j f).flt = b.flt := rfl
@[simp] theorem Block.updStall_mbx (b : Block) (j : Nat) (f : StallSt → StallSt) : (b.updStall j f).mbx = b.mbx := rfl
@[simp] theorem Block.updStall_mat (b : Block) (j : Nat) (f : StallSt → StallSt) : (b.updStall j f).mat = b.mat := rfl
@[simp] theorem Block.updStall_sys (b : Block) (j : Nat) (f : StallSt → StallSt) : (b.updStall j f).sys = b.sys := rfl
@[simp] theorem Block.updStall_fld (b : Block) (j : Nat) (f : StallSt → StallSt) (fd : Field) (ix : Nat) : (b.updStall j f).fld fd ix = b.fld fd ix := rfl
@[simp] theorem Block.updStall_stalls (b : Block) (j : Nat) (f : StallSt → StallSt) : (b.updStall j f).stalls = b.stalls.upd j f := rfl

end Sys2Proof.Machine
end

