-- ==== Sys2Proof/WellFormed.lean ====
section
/-!
DEFINITION. Well-formed commands: every operand within the counts of the device (R559, R582, R595, R674, R712). A row with no operands is always
well formed. What a command does beyond these ranges is the meaning's; no sender of the spec sends it.
-/
namespace Sys2Proof

/-- A host command comes through one of the 32 host channels or the safety channel, with at most 960 bytes (R582, R583). -/
def wfRequest (ch : Nat) (p : List Byte) : Bool := decide (ch ≤ 32) && decide (p.length ≤ 960)

/-- A packet arrives on one of the 17 fabric ports in blocks of 32 bytes, after some 58 bits (R344, R346). -/
def wfPacket (q : Nat) (p : Packet) : Bool := decide (q < 17) && decide (p.before < 2 ^ 58) && p.blocks.all fun x => decide (x.2.length = 32)

/-- A command that a sender of the spec can send. -/
def Instr.wf : Instr → Bool
  | .powerOnReset => true
  | .resetNAssert => true
  | .powerOnRelease slotId => decide (slotId < 32)
  | .selftestPhaseDone phase _ _ _ => decide (1 ≤ phase ∧ phase ≤ 6)
  | .releaseDevice => true
  | .slotCopyDone _ => true
  | .timeTick => true
  | .setGo _ _ => true
  | .unsync _ => true
  | .timeAdjDone => true
  | .timeNsRead => true
  | .timeRawLoRead => true
  | .timeRateLoRead => true
  | .tmrArm n _ => decide (n < 16)
  | .timerFire n => decide (n < 16)
  | .captureEdge n _ _ => decide (n < 16)
  | .capNsRead n => decide (n < 16)
  | .timeUnsync ch p => wfRequest ch p
  | .timeGet ch p => wfRequest ch p
  | .tmrSet ch p => wfRequest ch p
  | .capSet ch p => wfRequest ch p
  | .capRead ch p => wfRequest ch p
  | .pllTrackUpdate m => decide (m < 8)
  | .pllCountCorrect m _ => decide (m < 8)
  | .pllLockWindow m _ => decide (m < 8)
  | .oscInLost => true
  | .pllDividerWrite m which _ => decide (m < 4 ∧ 1 ≤ which ∧ which ≤ 2)
  | .pllSmallWrite m which _ => decide (4 ≤ m ∧ m < 8 ∧ which < 4)
  | .rampGo m _ => decide (m < 4)
  | .rampAbort m _ => decide (m < 4)
  | .rampHoldEnd m => decide (m < 4)
  | .refCandidateWrite n which _ => decide (n < 8 ∧ which < 3)
  | .candidateLost n => decide (n < 8)
  | .candidateQualified n => decide (n < 8)
  | .selectionEval => true
  | .dpllComparison n _ _ => decide (n < 8)
  | .lockDeclared => true
  | .bwStepDown => true
  | .freqHistoryStore => true
  | .holdoverCheck => true
  | .forceHoldover _ => true
  | .forceFreerun _ => true
  | .tlCfgWrite k _ => decide (k < 2)
  | .tlPosFrameLoRead k => decide (k < 2)
  | .fpPulse j frame => decide (j < 4 ∧ frame < 2 ^ 48)
  | .fpAlignGo j _ => decide (j < 4)
  | .refSetCandidate ch p => wfRequest ch p
  | .refSetLoop ch p => wfRequest ch p
  | .refGetStatus ch p => wfRequest ch p
  | .tlSet ch p => wfRequest ch p
  | .fpSet ch p => wfRequest ch p
  | .fpRealign ch p => wfRequest ch p
  | .laneCondition l kind => decide (l < 345 ∧ kind < 3)
  | .retrainEnd l _ => decide (l < 345)
  | .lastingRetry l _ => decide (l < 345)
  | .retrain l _ => decide (l < 345)
  | .huntDwellEnd l => decide (l < 345)
  | .laneLockGained l => decide (l < 345)
  | .freezeWrite l _ => decide (l < 345)
  | .rxEqLoad l _ => decide (l < 345)
  | .injErr l _ => decide (l < 345)
  | .eyeGo l _ => decide (l < 345)
  | .eyeMeasurementEnd l _ _ _ _ => decide (l < 345)
  | .checkerSync l bits => decide (l < 345 ∧ bits.length = 64)
  | .checkerLost l _ _ _ => decide (l < 345)
  | .chkErrLoRead l _ _ => decide (l < 345)
  | .loopbackSet l _ => decide (l < 345)
  | .lanePowerSet l _ => decide (l < 345)
  | .laneTest ch p => wfRequest ch p
  | .laneGetStats ch p _ _ => wfRequest ch p
  | .laneSetEq ch p => wfRequest ch p
  | .laneEye ch p => wfRequest ch p
  | .fabPortEnable q => decide (q < 17)
  | .acquireTimeout q => decide (q < 17)
  | .rateSwitch q => decide (q < 17)
  | .laneTrained l => decide (256 ≤ l ∧ l < 324)
  | .trainTimeout q => decide (q < 17)
  | .verifyEnd q bad => decide (q < 17 ∧ bad < 16)
  | .singleRetry q => decide (q < 17)
  | .sdiRxEnable n _ => decide (n < 128)
  | .sdiRxDisable n _ => decide (n < 128)
  | .sdiRxRestart n _ => decide (n < 128)
  | .sdiRxFrame n _ => decide (n < 128)
  | .sdiRxLine n _ _ _ => decide (n < 128)
  | .ancPacketRx n _ _ => decide (n < 128)
  | .sdiTxEnable n _ => decide (n < 128)
  | .sdiTxDisable n _ => decide (n < 128)
  | .sdiTxLine n _ _ _ _ => decide (n < 128)
  | .crewCfgWrite c _ => decide (c < 16)
  | .sdiRxSet ch p => wfRequest ch p
  | .sdiTxSet ch p => wfRequest ch p
  | .sdiGetStatus ch p => wfRequest ch p
  | .crewSet ch p => wfRequest ch p
  | .ethFrameRx e f => decide (e < 9 ∧ f.dest.length = 6)
  | .ethLinkChange e _ => decide (e < 9)
  | .legTimeout i _ => decide (i < 768)
  | .mergeWinExpiry i => decide (i < 768)
  | .mediaPacketTx k _ _ _ _ => decide (k < 768)
  | .fwFrameTx e _ _ _ => decide (e < 9)
  | .ethCntLoRead e c _ => decide (e < 9 ∧ c < 15)
  | .ptpTxIdRead e => decide (e < 9)
  | .ethSetPort ch p => wfRequest ch p
  | .ethGetStats ch p => wfRequest ch p
  | .flowRxSet ch p => wfRequest ch p
  | .flowTxSet ch p => wfRequest ch p
  | .flowGetStatus ch p => wfRequest ch p
  | .stallFrameComplete j _ => decide (j < 320)
  | .stallLatch j n => decide (j < 320 ∧ n < 2 ^ 48)
  | .stallEnableWrite j _ => decide (j < 320)
  | .stallFseqLoRead j => decide (j < 320)
  | .freshDecision c n => decide (c < 768 ∧ n < 2 ^ 48)
  | .freshCfgWrite c which _ => decide (c < 768 ∧ which < 3)
  | .stallSet ch p => wfRequest ch p
  | .watchSet ch p => wfRequest ch p
  | .freshSet ch p => wfRequest ch p
  | .freshGetStatus ch p => wfRequest ch p
  | .stallGetStatus ch p => wfRequest ch p
  | .yardCarve ch p => wfRequest ch p
  | .fabricSet ch p => wfRequest ch p
  | .fabAllow ch p => wfRequest ch p
  | .fabSubscribe ch p => wfRequest ch p
  | .fabRelease ch p => wfRequest ch p
  | .fabGetPort ch p => wfRequest ch p
  | .fabGetSource ch p => wfRequest ch p
  | .markerBlockRx l m => decide (256 ≤ l ∧ l < 324 ∧ m.length ≤ 32)
  | .trainingBlockRx l m _ => decide (256 ≤ l ∧ l < 332 ∧ m.length = 32)
  | .helloRx q p => wfPacket q p
  | .authRx q p => wfPacket q p
  | .timingRx q p => wfPacket q p
  | .advertRx q p => wfPacket q p
  | .creditRx q p => wfPacket q p
  | .keepaliveRx q p => wfPacket q p
  | .wakeRx q p => wfPacket q p
  | .subscribeRx q p => wfPacket q p
  | .releaseRx q p => wfPacket q p
  | .grantRx q p => wfPacket q p
  | .armRx q p => wfPacket q p
  | .voteRx q p => wfPacket q p
  | .goRx q p => wfPacket q p
  | .ackRx q p => wfPacket q p
  | .journalRx q p => wfPacket q p
  | .strokeRx q p full => wfPacket q p && full.all (· < 17)
  | .strokeTx src typ _ _ late _ => decide (src < 336 ∧ 1 ≤ typ ∧ typ ≤ 4) && late.all (· < 17)
  | .strokeRelease i _ _ _ => decide (i < 320)
  | .copyLossCheck i => decide (i < 320)
  | .peerLossTimeout q => decide (q < 17)
  | .authTimeout q => decide (q < 17)
  | .untrustedRetry q => decide (q < 17)
  | .helloSend q cnt => decide (q < 17 ∧ cnt < 65536)
  | .keepaliveSend q => decide (q < 17)
  | .timingSend q => decide (q < 17)
  | .advertSend => true
  | .creditSend q => decide (q < 17)
  | .rerouteTimeout paths => paths.all fun x => decide (x.1 < 32)
  | .waitingRouteRetry stream content => decide (stream < 16384 ∧ content < 256)
  | .revertTimeout src => decide (src < 32)
  | .subscribeResend _ tid dst => decide (tid < 2 ^ 32 ∧ dst < 32)
  | .holdExpiry stream content _ _ _ => decide (stream < 16384 ∧ content < 256)
  | .releaseFree stream content _ _ _ => decide (stream < 16384 ∧ content < 256)
  | .grantGrowAttempt q src => decide (q < 17 ∧ src < 336)
  | .take ch p => wfRequest ch p
  | .takeCancel ch p => wfRequest ch p
  | .regattaOpen ch p => wfRequest ch p
  | .takeStatus ch p => wfRequest ch p
  | .targetGet ch p => wfRequest ch p
  | .regattaStatus ch p => wfRequest ch p
  | .catchSet ch p => wfRequest ch p
  | .coxTgtCfgWrite t _ => decide (t < 768)
  | .takeExecute _ => true
  | .armDeadline tl c => decide (tl < 2 ∧ c < 2 ^ 48)
  | .voteDeadline tl c => decide (tl < 2 ∧ c < 2 ^ 48)
  | .goSend tl c => decide (tl < 2 ∧ c < 2 ^ 48)
  | .goDeadline tl c => decide (tl < 2 ∧ c < 2 ^ 48)
  | .regattaResend _ tid dst => decide (tid < 2 ^ 32 ∧ dst < 32)
  | .holderRelease t => decide (t < 768)
  | .takeEntryFree _ => true
  | .headFrameStart h n => decide (h < 32 ∧ n < 2 ^ 48)
  | .headLine h _ _ => decide (h < 32)
  | .headEnableWrite h _ => decide (h < 32)
  | .guardOpApply tl n => decide (tl < 2 ∧ n < 2 ^ 48)
  | .headSet ch p => wfRequest ch p
  | .layerSet ch p => wfRequest ch p
  | .zorderSet ch p => wfRequest ch p
  | .lutSet ch p => wfRequest ch p
  | .cscSet ch p => wfRequest ch p
  | .stillSet ch p => wfRequest ch p
  | .stillCommit ch p => wfRequest ch p
  | .headGetStatus ch p => wfRequest ch p
  | .guardMsg ch p => wfRequest ch p
  | .glyphRead ch p => wfRequest ch p
  | .audioSample n ins => decide (n < 2 ^ 64) && ins.all fun a => decide (a.group < 928)
  | .groupOffsetFix g _ => decide (g < 912)
  | .fadeEnd g => decide (g < 912)
  | .audBlockRetry i => decide (i < 320)
  | .routeApply _ => true
  | .crossfadeEnd o => decide (o < 8192)
  | .sapClockLost n _ => decide (n < 16)
  | .aes3Lock n _ => decide (n < 16)
  | .sapCommonStart => true
  | .audSet ch p => wfRequest ch p
  | .audRoute ch p => wfRequest ch p
  | .audMap ch p => wfRequest ch p
  | .audGrpSet ch p => wfRequest ch p
  | .sapSet ch p => wfRequest ch p
  | .sapStart ch p => wfRequest ch p
  | .audGetStatus ch p => wfRequest ch p
  | .tapFrame t _ => decide (t < 256)
  | .pictureCoded t _ _ _ => decide (t < 256)
  | .baleOpen k => decide (k < 512)
  | .chunkWriteDone k => decide (k < 512)
  | .stagingFullDrop k => decide (k < 512)
  | .baleSeal k => decide (k < 512)
  | .sealTimeout k => decide (k < 512)
  | .witCheckpoint => true
  | .driveFailed d => decide (d < 2)
  | .smartPoll d _ _ _ _ _ _ => decide (d < 2)
  | .trigInEdge _ => true
  | .postEnd => true
  | .incCopyDone => true
  | .witFormat ch p found => wfRequest ch p && found.all fun x => decide (x.1 < 2)
  | .witSet ch p => wfRequest ch p
  | .witGetStatus ch p => wfRequest ch p
  | .witDriveInfo ch p => wfRequest ch p
  | .witRead ch p => wfRequest ch p
  | .witMount ch p found => wfRequest ch p && found.all fun x => decide (x.1 < 2)
  | .witRebuild ch p => wfRequest ch p
  | .incSet ch p => wfRequest ch p
  | .incTrigger ch p => wfRequest ch p
  | .selStateChange _ => true
  | .hbCauseChange => true
  | .journalPublish _ tl n _ => decide (tl < 2 ∧ n < 2 ^ 48)
  | .journalDeadline _ tl n _ => decide (tl < 2 ∧ n < 2 ^ 48)
  | .twinFrameEnd => true
  | .autoResync => true
  | .switchInstant => true
  | .twinSet ch p => wfRequest ch p
  | .twinSwitch ch p _ => wfRequest ch p
  | .twinResync ch p => wfRequest ch p
  | .twinHb ch p => wfRequest ch p
  | .twinGetStatus ch p => wfRequest ch p
  | .matrixAccess reqs _ => reqs.all fun r => decide (r.master < 10)
  | .matrixTargetTimeout k master _ => decide (k < 7 ∧ master < 10)
  | .remapWrite master _ => decide (master < 10)
  | .remapEffect => true
  | .parkWrite k _ => decide (k < 7)
  | .doorbell c => decide (c < 41)
  | .rspAck c => decide (c < 41)
  | .withdraw c _ => decide (c < 41)
  | .openSlot c => decide (c < 41)
  | .requestTake c => decide (c < 41)
  | .responsePost c => decide (c < 41)
  | .requestTimeout c _ => decide (c < 41)
  | .hostEpochWrite c _ _ => decide (c < 41)
  | .functionLevelReset => true
  | .coreRestart k => decide (k < 5)
  | .lockRead owners l => decide (l < 64) && owners.all fun o => decide (1 ≤ o ∧ o ≤ 37)
  | .lockReleaseWrite owner l _ => decide (1 ≤ owner ∧ owner ≤ 37 ∧ l < 64)
  | .bar2WinWrite _ => true
  | .bar2Access off n _ => decide (off + n ≤ 2 ^ 30)
  | .deviceInfo ch p => wfRequest ch p
  | .sysPing ch p => wfRequest ch p
  | .sysReset ch p _ => wfRequest ch p
  | .sysHealth ch p => wfRequest ch p
  | .diagRead ch p => wfRequest ch p
  | .diagWrite ch p => wfRequest ch p
  | .diagLog ch p _ => wfRequest ch p
  | .keyStatus ch p => wfRequest ch p
  | .keyGenerate ch p => wfRequest ch p
  | .keyCertLoad ch p => wfRequest ch p
  | .keyInject ch p => wfRequest ch p
  | .keyWitExport ch p => wfRequest ch p
  | .lcAdvance ch p _ => wfRequest ch p
  | .tamperEvent cause => decide (cause < 7)
  | .retentionDip _ => true
  | .scanRequest => true
  | .updBegin ch p => wfRequest ch p
  | .stagingEraseDone => true
  | .updWrite ch p => wfRequest ch p
  | .updFinish ch p => wfRequest ch p
  | .stagingVerifyDone => true
  | .updStatus ch p => wfRequest ch p
  | .updCommit ch p => wfRequest ch p
  | .updRollback ch p => wfRequest ch p
  | .updAbort ch p => wfRequest ch p
  | .settingsSave ch p => wfRequest ch p
  | .settingsWriteDone => true
  | .bistReport ch p => wfRequest ch p
  | .pwrStatus ch p => wfRequest ch p
  | .pwrDomain ch p => wfRequest ch p
  | .pwrSet ch p => wfRequest ch p
  | .pwrSleep ch p => wfRequest ch p
  | .domainSwitch => true
  | .runRampStep d i _ => decide (d < 96 ∧ i < 16)
  | .avsPoll mv ma => decide (mv < 65536 ∧ ma < 2 ^ 32)
  | .avsTargetStep floor => decide (floor < 65536)
  | .capEval => true
  | .tempSample _ => true
  | .wakeEvent c _ => decide (c < 3)
  | .scrubPass stack _ _ _ _ => decide (stack < 2)
  | .yardUe stack _ _ _ _ => decide (stack < 2)
  | .rowRepairDone stack _ _ _ => decide (stack < 2)
  | .engineCheckFail blk _ => decide (blk < 26)
  | .faultBitClear blk _ => decide (blk < 26)
  | .wdtExpiry k => decide (k < 4)
  | .wdtKick k => decide (k < 4)
  | .coreRst _ => true
  | .deviceReset _ => true
  | .gpioChange n _ => decide (n < 32)
  | .diagInject ch p => wfRequest ch p
  | .faultClear ch p => wfRequest ch p
  | .rclCounterRead _ _ => true
  | .registerWrite master _ _ => decide (master < 10)
  | .candidateValid n _ _ _ _ => decide (n < 8)
  | .oscInReturn => true
  | .pllCoastTimeout m => decide (m < 8)
  | .aes3LockLost n => decide (n < 16)
  | .aes3RateChange n _ => decide (n < 16)
  | .mountDone => true
  | .rebuildDone => true
  | .nvmeCommandError d _ => decide (d < 2)
  | .flushDone => true
  | .marchTestDone _ _ _ => true
  | .faultRetryWindowEnd blk _ => decide (blk < 26)
  | .captureFrameTake e => decide (e < 9)
  | .extestClampSelect _ => true
  | .lockstepDisagreement => true

end Sys2Proof
end

