-- ==== Sys2Proof/Tests/Slice0.lean ====
section
/-!
SUPPORT. Tests: ill-formed commands are refused by the check, small steps, and for each statement with hypotheses a state and operands that
meet them.
-/
namespace Sys2Proof.Tests
set_option Elab.async false
open Sys2Proof Sys2Proof.Machine

/-- A device after reset with some of its fields set. -/
def dev (l : List (Field × Nat × Nat)) : State := { State.reset with toBlock := l.foldl (fun b x => b.setFld x.1 x.2.1 x.2.2) State.reset.toBlock }

/-- The same, with every power domain on. -/
def powered (l : List (Field × Nat × Nat)) : State :=
  dev ([(F.PWR_DOM_ON_ON, 0, 2 ^ 32 - 1), (F.PWR_DOM_ON_ON, 1, 2 ^ 32 - 1), (F.PWR_DOM_ON_ON, 2, 2 ^ 32 - 1)] ++ l)

/-! Ill-formed commands: for each check a command that fails it. -/

theorem test_ill_formed_1 : (Instr.powerOnRelease 32).wf = false ∧
    (Instr.selftestPhaseDone 0 false [] []).wf = false ∧
    (Instr.selftestPhaseDone 7 false [] []).wf = false ∧
    (Instr.tmrArm 16 0).wf = false ∧
    (Instr.timeUnsync 33 []).wf = false ∧
    (Instr.timeUnsync 0 (List.replicate 961 0)).wf = false ∧
    (Instr.pllTrackUpdate 8).wf = false ∧
    (Instr.pllDividerWrite 4 1 0).wf = false ∧
    (Instr.pllDividerWrite 0 0 0).wf = false ∧
    (Instr.pllDividerWrite 0 3 0).wf = false ∧
    (Instr.pllSmallWrite 8 0 0).wf = false ∧
    (Instr.pllSmallWrite 4 4 0).wf = false ∧
    (Instr.pllSmallWrite 3 0 0).wf = false ∧
    (Instr.rampGo 4 0).wf = false ∧
    (Instr.refCandidateWrite 8 0 0).wf = false ∧
    (Instr.refCandidateWrite 0 3 0).wf = false ∧
    (Instr.candidateLost 8).wf = false ∧
    (Instr.tlCfgWrite 2 0).wf = false ∧
    (Instr.fpPulse 4 0).wf = false ∧
    (Instr.fpPulse 0 (2 ^ 48)).wf = false ∧
    (Instr.fpAlignGo 4 0).wf = false ∧
    (Instr.laneCondition 345 0).wf = false ∧
    (Instr.laneCondition 0 3).wf = false ∧
    (Instr.retrainEnd 345 false).wf = false := by decide +kernel

theorem test_ill_formed_2 : (Instr.checkerSync 345 []).wf = false ∧
    (Instr.fabPortEnable 17).wf = false ∧
    (Instr.laneTrained 324).wf = false ∧
    (Instr.laneTrained 255).wf = false ∧
    (Instr.verifyEnd 17 0).wf = false ∧
    (Instr.verifyEnd 0 16).wf = false ∧
    (Instr.sdiRxEnable 128 0).wf = false ∧
    (Instr.crewCfgWrite 16 0).wf = false ∧
    (Instr.ethLinkChange 9 false).wf = false ∧
    (Instr.legTimeout 768 false).wf = false ∧
    (Instr.ethCntLoRead 9 0 0).wf = false ∧
    (Instr.ethCntLoRead 0 15 0).wf = false ∧
    (Instr.stallLatch 320 0).wf = false ∧
    (Instr.stallLatch 0 (2 ^ 48)).wf = false ∧
    (Instr.stallEnableWrite 320 0).wf = false ∧
    (Instr.freshDecision 768 0).wf = false ∧
    (Instr.freshDecision 0 (2 ^ 48)).wf = false ∧
    (Instr.freshCfgWrite 768 0 0).wf = false ∧
    (Instr.freshCfgWrite 0 3 0).wf = false ∧
    (Instr.markerBlockRx 324 []).wf = false ∧
    (Instr.markerBlockRx 255 []).wf = false ∧
    (Instr.trainingBlockRx 332 [] false).wf = false ∧
    (Instr.trainingBlockRx 255 [] false).wf = false ∧
    (Instr.helloRx 17 ⟨[], 0, 0, []⟩).wf = false := by decide +kernel

theorem test_ill_formed_3 : (Instr.helloRx 0 ⟨[(true, [])], 0, 0, []⟩).wf = false ∧
    (Instr.strokeRx 17 ⟨[], 0, 0, []⟩ []).wf = false ∧
    (Instr.strokeRx 0 ⟨[(true, [])], 0, 0, []⟩ []).wf = false ∧
    (Instr.strokeTx 336 1 0 0 [] none).wf = false ∧
    (Instr.strokeTx 0 0 0 0 [] none).wf = false ∧
    (Instr.strokeTx 0 5 0 0 [] none).wf = false ∧
    (Instr.strokeRelease 320 0 0 0).wf = false ∧
    (Instr.helloSend 17 0).wf = false ∧
    (Instr.helloSend 0 65536).wf = false ∧
    (Instr.waitingRouteRetry 16384 0).wf = false ∧
    (Instr.waitingRouteRetry 0 256).wf = false ∧
    (Instr.revertTimeout 32).wf = false ∧
    (Instr.subscribeResend 0 (2 ^ 32) 0).wf = false ∧
    (Instr.subscribeResend 0 0 32).wf = false ∧
    (Instr.grantGrowAttempt 17 0).wf = false ∧
    (Instr.grantGrowAttempt 0 336).wf = false ∧
    (Instr.coxTgtCfgWrite 768 0).wf = false ∧
    (Instr.armDeadline 2 0).wf = false ∧
    (Instr.armDeadline 0 (2 ^ 48)).wf = false ∧
    (Instr.headFrameStart 32 0).wf = false ∧
    (Instr.headFrameStart 0 (2 ^ 48)).wf = false ∧
    (Instr.headLine 32 0 0).wf = false ∧
    (Instr.guardOpApply 2 0).wf = false ∧
    (Instr.guardOpApply 0 (2 ^ 48)).wf = false := by decide +kernel

theorem test_ill_formed_4 : (Instr.audioSample (2 ^ 64) []).wf = false ∧
    (Instr.groupOffsetFix 912 0).wf = false ∧
    (Instr.crossfadeEnd 8192).wf = false ∧
    (Instr.tapFrame 256 0).wf = false ∧
    (Instr.baleOpen 512).wf = false ∧
    (Instr.driveFailed 2).wf = false ∧
    (Instr.witFormat 33 [] []).wf = false ∧
    (Instr.witFormat 0 (List.replicate 961 0) []).wf = false ∧
    (Instr.matrixTargetTimeout 7 0 0).wf = false ∧
    (Instr.matrixTargetTimeout 0 10 0).wf = false ∧
    (Instr.remapWrite 10 0).wf = false ∧
    (Instr.parkWrite 7 0).wf = false ∧
    (Instr.doorbell 41).wf = false ∧
    (Instr.coreRestart 5).wf = false ∧
    (Instr.lockRead [] 64).wf = false ∧
    (Instr.lockReleaseWrite 1 64 0).wf = false ∧
    (Instr.lockReleaseWrite 0 0 0).wf = false ∧
    (Instr.lockReleaseWrite 38 0 0).wf = false ∧
    (Instr.tamperEvent 7).wf = false ∧
    (Instr.runRampStep 96 0 false).wf = false ∧
    (Instr.runRampStep 0 16 false).wf = false ∧
    (Instr.avsPoll 65536 0).wf = false ∧
    (Instr.avsPoll 0 (2 ^ 32)).wf = false ∧
    (Instr.avsTargetStep 65536).wf = false := by decide +kernel

theorem test_ill_formed_5 : (Instr.wakeEvent 3 0).wf = false ∧
    (Instr.scrubPass 2 0 0 0 false).wf = false ∧
    (Instr.engineCheckFail 26 0).wf = false ∧
    (Instr.wdtExpiry 4).wf = false ∧
    (Instr.gpioChange 32 false).wf = false ∧
    (Instr.mediaPacketTx 768 0 0 0 none).wf = false ∧
    (Instr.rerouteTimeout [(32, 0)]).wf = false ∧
    (Instr.matrixAccess [⟨10, 0, 0, 0, 4, none, 0, false⟩] []).wf = false ∧
    (Instr.witMount 0 [] [(2, 0, false)]).wf = false ∧
    (Instr.bar2Access (2 ^ 30) 1 none).wf = false ∧
    (Instr.timeTick).wf = true ∧
    (Instr.tmrArm 15 0).wf = true ∧
    (Instr.bar2Access (2 ^ 30 - 1) 1 none).wf = true := by decide +kernel

/-! Check functions: the values that the spec or the standard gives. -/

/-- The digits 1 to 9 in ASCII, whose CRCs the spec gives as check values (R277, R352, R584). -/
def digits : List Byte := [0x31, 0x32, 0x33, 0x34, 0x35, 0x36, 0x37, 0x38, 0x39]
theorem test_crc32 : crc32 digits = 0xCBF43926 := by decide +kernel
theorem test_crc32c : crc32c digits = 0xE3069283 := by decide +kernel
theorem test_crc64 : crc64 digits = 0x995DC9BBDF1939FA := by decide +kernel
/-- The digest of "abc" that the standard of SHA-384 gives. -/
theorem test_sha384_abc : (sha384 [0x61, 0x62, 0x63]).take 8 = [0xCB, 0x00, 0x75, 0x3F, 0x45, 0xA3, 0x5E, 0x8B] := by decide +kernel

/-! Single steps. -/

/-- A doorbell on an idle served channel posts its request (R588). -/
theorem test_step_doorbell : (match step { dev [(F.CH_STATUS_SERVED, 31, 1)] with pending := [.doorbell 31] } with
    | .next t => (t.fld F.CH_STATUS_REQ_STATE 31, t.pending)
    | _ => (0, [])) = (1, []) := by decide +kernel
/-- A tick adds 1 ns to `TIME_RAW`, and only the front command is used up (R101). -/
theorem test_step_tick : (match step { State.reset with pending := [.timeTick, .timeTick] } with
    | .next t => (t.time.raw, t.pending.length)
    | _ => (0, 0)) = (1, 1) := by decide +kernel
/-- A device whose RESET_N is low takes no doorbell (R715, R721). -/
theorem test_step_held : (match step { dev [] with pending := [.resetNAssert] } with
    | .next t => (match step { t with pending := [.doorbell 0] } with
      | .next u => (u.held, u.fld F.CH_STATUS_REQ_STATE 0)
      | _ => (false, 9))
    | _ => (false, 9)) = (true, 0) := by decide +kernel

/-! CandidatesTurnValidAndInvalid -/

theorem test_meets_candidates : (dev [(F.REFS_STATUS_VALID, 0, 0x80)]).held = false ∧ (dev [(F.REFS_STATUS_VALID, 0, 0x80)]).candValid 7 = true ∧
    (dev [(F.REFS_STATUS_VALID, 0, 0x80)]).candQualified 7 = false ∧ (dev []).candValid 7 = false ∧ (dev []).candBarred 7 6 33 0 = true ∧
    (dev []).candBarred 0 6 33 0 = false ∧ (dev []).candValid 0 = false ∧ (dev [(F.REF_QUAL_WTR, 0, 0)]).fld F.REF_QUAL_WTR 0 = 0 ∧
    (dev [(F.REFS_STATUS_SEL, 0, 7), (F.REFS_STATUS_SEL_VALID, 0, 1)]).selected = some 7 ∧ (dev []).reaches R.REF_COMP 7 ∧ (dev []).reaches R.REF_QUAL 7 ∧
    (dev []).reaches R.REF_CFG 7 ∧ (dev []).reaches R.REF_CFG 3 := by unfold State.reaches; decide +kernel

/-! TheLoopSelectsAndHolds -/

/-- Device time synchronised, candidate 1 valid and qualified. -/
def qualifiedOne : State := dev [(F.TIME_STATUS_SYNCED, 0, 1), (F.REFS_STATUS_VALID, 0, 2), (F.REFS_STATUS_QUALIFIED, 0, 2)]
/-- Candidate 7 forced and valid. -/
def forcedSeven : State := dev [(F.REFS_CTRL_SEL_MODE, 0, 1), (F.REFS_CTRL_FORCE_SEL, 0, 7), (F.REFS_STATUS_VALID, 0, 0x80)]
theorem test_meets_selection : qualifiedOne.held = false ∧ qualifiedOne.selected = none ∧ qualifiedOne.bestQualified = some 1 ∧ qualifiedOne.synced = true ∧
    forcedSeven.held = false ∧ forcedSeven.candValid 7 = true ∧ forcedSeven.selected = none ∧ forcedSeven.synced = false ∧ forcedSeven.loopState = 0 ∧
    (dev [(F.REFS_STATUS_STATE, 0, 2)]).autoChoice = (none, false) ∧ (dev [(F.REFS_STATUS_STATE, 0, 2)]).loopState = 2 ∧
    (dev [(F.REFS_STATUS_STATE, 0, 2)]).refs.histOk = false ∧ (dev [(F.REFS_CTRL_SEL_MODE, 0, 3)]).fld F.REFS_CTRL_SEL_MODE 0 = 3 ∧
    ({ State.reset with refs := { State.reset.refs with histOk := true } } : State).refs.histOk = true ∧ (dev []).reaches R.REFS_CTRL 0 := by
  unfold State.reaches; decide +kernel

/-! TheLoopMeasuresAndLocks -/

/-- A loop in a state that follows candidate 0. -/
def followsZero (st : Nat) : State := dev [(F.REFS_STATUS_STATE, 0, st), (F.REFS_STATUS_SEL_VALID, 0, 1), (F.REFS_STATUS_VALID, 0, 3)]
theorem test_meets_loop : (followsZero 1).held = false ∧ (followsZero 1).candValid 1 = true ∧ (followsZero 1).selected = some 0 ∧ (followsZero 1).loopState = 1 ∧
    (followsZero 1).synced = false ∧ (followsZero 1).candBarred 1 0 0 0 = false ∧ (followsZero 1).candBarred 1 0 0 (2 ^ 48) = true ∧
    (followsZero 1).phaseError 1 (.edge 7) = some (some 7) ∧ (followsZero 1).phaseError 1 .frequency = none ∧ (followsZero 1).candKind 3 = 3 ∧
    (followsZero 1).candValid 2 = false ∧
    ({ followsZero 1 with refs := { (followsZero 1).refs with firstSet := true } } : State).refs.firstSet = true ∧
    ((followsZero 1).sfld F.DPLL_PHASE_PHASE 0).natAbs ≤ 16 * (followsZero 1).fld F.REFS_LOCK_LOCK_PH 0 ∧
    (followsZero 1).fld F.REFS_CTRL_TRK_BW 0 < (followsZero 1).fld F.REFS_CTRL_ACQ_BW 0 ∧ (followsZero 2).loopState = 2 ∧ (followsZero 3).time.adj = 0 ∧
    (followsZero 2).fld F.REFS_CTRL_TRK_BW 0 < (followsZero 2).fld F.REFS_STATUS_BW_NOW 0 ∧ (followsZero 4).loopState = 4 ∧
    (followsZero 4).on F.REFS_STATUS_HO_EXPIRED 0 = false := by decide +kernel
theorem test_meets_holdover : (dev [(F.HO_ELAPSED_SECONDS, 0, 2 ^ 32 - 2)]).hoWithin (2 ^ 32 - 1) = false ∧ (dev []).hoWithin 1 = true ∧
    (dev [(F.REFS_STATUS_BW_NOW, 0, 4)]).fld F.REFS_STATUS_BW_NOW 0 ≤ (dev []).fld F.REFS_CTRL_TRK_BW 0 ∧
    16 * (dev [(F.DPLL_PHASE_PHASE, 0, 2 ^ 31)]).fld F.REFS_LOCK_LOCK_PH 0 < ((dev [(F.DPLL_PHASE_PHASE, 0, 2 ^ 31)]).sfld F.DPLL_PHASE_PHASE 0).natAbs := by
  decide +kernel

/-! ReadsLatchTheirWords -/

/-- A device with one capture in unit 15. -/
def captured : State := { State.reset with time := { State.reset.time with caps := [(15, [⟨2 ^ 48 - 1, 999999999, 0xC000, true⟩])] } }
theorem test_meets_latches : captured.held = false ∧ captured.capQueue 15 = [⟨2 ^ 48 - 1, 999999999, 0xC000, true⟩] ∧ captured.capQueue 0 = [] ∧
    captured.reaches R.CAP_NS 15 ∧ captured.reaches R.CAP_NS 0 ∧ captured.reaches R.TL_POS_FRAME_LO 1 := by unfold State.reaches; decide +kernel
/-- The highest frame number that a timeline shows. -/
theorem test_tl_read : (match exec (.tlPosFrameLoRead 1) { State.reset with time := { State.reset.time with now := (2 ^ 48 - 1) * secUnit } } with
    | .next t => t.fld F.TL_POS_FRAME_HI_FRAME 1
    | _ => 0) = (2 ^ 48 - 1) * 60000 / 1001 / 2 ^ 32 % 2 ^ 16 := by decide +kernel

/-! TimelinesAndFramePulses -/

/-- Output 3 enabled, and 500 ns away from where it should pulse. -/
def misaligned (step : Bool) (slew : Nat) : State :=
  let s := dev [(F.FP_CFG_EN, 3, 1), (F.FP_CFG_DIV, 3, 15)]
  { s with refs := { s.refs with fps := [(3, ⟨0, 15, 0, 500, none, 0, step, slew⟩)] } }
theorem test_meets_timelines : (dev []).held = false ∧ (dev []).on F.TL_CFG_ENABLE 1 = true ∧ (dev []).reaches R.TL_CFG 1 ∧ (dev []).reaches R.FP_ALIGN 3 ∧
    (dev []).unchanged [F.TL_CFG_RATE, F.TL_CFG_RASTER, F.TL_CFG_SPL] 1 0 = false ∧ (dev [(F.TL_CFG_ENABLE, 1, 0)]).on F.TL_CFG_ENABLE 1 = false ∧
    rateFamily 1 (0x8980001 / 2 % 8) = true ∧ rasterPair (0x30 / 16 % 4) 0 = true ∧ rateFamily 1 1 = false ∧
    (dev []).unchanged [F.TL_CFG_RATE, F.TL_CFG_RASTER, F.TL_CFG_SPL] 1 0x898003D = true := by unfold State.reaches; decide +kernel
theorem test_meets_pulses :
    (misaligned false 0).on F.FP_CFG_EN 3 = true ∧ ((misaligned false 0).fp 3).endRaw ≤ (misaligned false 0).time.raw ∧ (misaligned false 0).tlOn 0 = true ∧
    32 % (((misaligned false 0).fp 3).div + 1) = 0 ∧ 31 % (((misaligned false 0).fp 3).div + 1) ≠ 0 ∧ (misaligned false 0).pinBad (fpPin 3) = false ∧
    ((misaligned false 0).fp 3).step = false ∧ ((misaligned false 0).fp 3).slew = 0 ∧ ((misaligned true 0).fp 3).step = true ∧
    ((misaligned false 65535).fp 3).slew = 65535 ∧ (misaligned false 0).fpMis 3 32 = 500 ∧ ((misaligned true 0).fp 3).last = none ∧
    (misaligned false 0).fld F.FP_CFG_TOL 3 < ((misaligned false 0).fpMis 3 32).natAbs := by decide +kernel

/-! TimingCommandsAct -/

theorem test_meets_timing_commands : (dev []).held = false ∧ (dev []).fld F.BIST_STATUS_SAFE 0 = 0 ∧ (dev []).selftest 2 = false ∧
    (dev [(F.TL_CFG_ENABLE, 1, 0)]).on F.TL_CFG_ENABLE 1 = false ∧ (dev []).on F.TL_CFG_ENABLE 0 = true ∧ (dev []).fld F.TL_CFG_RATE 0 = 5 ∧
    (dev []).takeArmed = false ∧ (∀ n, n ≤ 3 → (dev []).candKind n ≠ 4) ∧ (dev [(F.REFS_CTRL_SEL_MODE, 0, 3)]).fld F.REFS_CTRL_SEL_MODE 0 = 3 ∧
    ({ State.reset with cox := { State.reset.cox with takes := [(0, { (default : TakeEnt) with state := 2 })] } } : State).takeArmed = true ∧ (refPins 0).any (dev []).pinBad = false ∧
    (dev []).pinBad (fpPin 3) = false ∧ (dev []).pinBad (tmrPin 7) = false := by decide +kernel

/-! SlewLimitAndShortPeriodsAreHeldOff -/

theorem test_meets_short_period : (dev [(F.TMR_PERIOD_NS_NS, 15, 199), (F.TMR_PERIOD_FRAC_FRAC, 15, 65535)]).held = false ∧ (0x103 : Word).toNat % 4 = 3 ∧ (dev []).reaches R.TIME_CTRL 0 ∧ (dev []).reaches R.TMR_CFG 15 ∧
    (dev [(F.TMR_PERIOD_NS_NS, 15, 199), (F.TMR_PERIOD_FRAC_FRAC, 15, 65535)]).fld F.TMR_PERIOD_NS_NS 15 * 2 ^ 48 +
      (dev [(F.TMR_PERIOD_NS_NS, 15, 199), (F.TMR_PERIOD_FRAC_FRAC, 15, 65535)]).fld F.TMR_PERIOD_FRAC_FRAC 15 * 2 ^ 32 <
      (max 1 ((0x103 : Word).toNat / 256) * 100 + 100) * 2 ^ 48 := by unfold State.reaches; decide +kernel

/-! DeviceTimeCountsAndSets -/

theorem test_meets_device_time : (dev []).held = false ∧ (dev []).reaches R.TIME_CTRL 0 ∧ (dev []).reaches R.TIME_NS 0 ∧ (dev []).reaches R.TIME_RAW_LO 0 ∧
    (dev []).reaches R.TIME_RATE_LO 0 ∧ (dev []).synced = false ∧ (dev [(F.TIME_STATUS_SYNCED, 0, 1)]).synced = true ∧ (dev []).time.adj = 0 ∧
    ({ State.reset with time := { State.reset.time with adjDue := true } } : State).time.adjDue = true ∧ (0x200 : Word).toNat / 512 % 2 = 1 ∧
    ({ State.reset with time := { State.reset.time with adj := -1 } } : State).time.adj ≠ 0 := by unfold State.reaches; decide +kernel

/-! TimersAndCaptures -/

/-- Timer 15 armed for second 5 at second `sec`, one-shot or periodic. -/
def armed (sec per : Nat) : State :=
  let s := dev [(F.TMR_CFG_ARM, 15, 1), (F.TMR_CFG_PERIODIC, 15, per), (F.TMR_PERIOD_NS_NS, 15, 1000), (F.TMR_START_SEC_LO_SEC, 15, 5)]
  { s with time := { s.time with now := sec * secUnit, tmrNext := [(15, 5 * secUnit)] } }
/-- Capture unit 15 on PPS_IN, both edges, with some entries. -/
def capturing (k : Nat) : State :=
  let s := dev [(F.CAP_CFG_EN, 15, 1), (F.CAP_CFG_EDGE, 15, 3), (F.CAP_CFG_SRC, 15, 1)]
  { s with time := { s.time with caps := [(15, List.replicate k ⟨1, 2, 0, true⟩)] } }
theorem test_meets_timers : (armed 5 0).held = false ∧ (armed 5 0).on F.TMR_CFG_ARM 15 = true ∧ (armed 5 0).time.tmrNext.look 15 ≤ (armed 5 0).time.now ∧
    (armed 5 1).on F.TMR_CFG_PERIODIC 15 = true ∧ (armed 4 0).time.now < (armed 4 0).time.tmrNext.look 15 ∧ (armed 5 0).time.now ≤ (armed 5 0).tmrStart 15 ∧
    (armed 6 0).tmrStart 15 < (armed 6 0).time.now ∧ (0x101 : Word).toNat % 4 = 1 ∧ (armed 5 0).reaches R.TMR_CFG 15 ∧
    (armed 5 0).pinBad (tmrPin 0) = false := by unfold State.reaches; decide +kernel
theorem test_meets_captures : (capturing 3).held = false ∧ (capturing 3).on F.CAP_CFG_EN 15 = true ∧ (capturing 3).fld F.CAP_CFG_EDGE 15 = 3 ∧
    (capturing 3).fld F.CAP_CFG_SRC 15 ≤ 11 ∧ ((capturing 3).capQueue 15).length < 4 ∧ 4 ≤ ((capturing 4).capQueue 15).length ∧
    (dev []).on F.CAP_CFG_EN 15 = false := by decide +kernel

/-! SynthesizersLockAndCoast -/

/-- Synthesizer 7 in a state, with the windows it needs all but one. -/
def locking (st good : Nat) : State := let s := dev [(F.PLL_STATUS_STATE, 7, st), (F.PLL_CTRL_TRACK, 7, 1)]
  { s with pll := [(7, { (default : Synth) with good := good, lost := st == 3, lockAt := if st = 2 then some 0 else none })] }
theorem test_meets_lock : (locking 1 15).held = false ∧ (locking 1 15).on F.PLL_CTRL_EN 7 = true ∧ (locking 1 15).oscLost = false ∧ (locking 1 15).pllState 7 = 1 ∧
    (locking 1 15).windowWithin 7 (80 * (locking 1 15).fld F.PLL_LOCK_CFG_LOCK_WIN 7 / 8) 1 = true ∧ (locking 1 15).windowWithin 7 0 1 = false ∧
    (locking 2 15).windowWithin 7 0 4 = false ∧ (locking 2 15).windowWithin 7 (80 * (locking 2 15).fld F.PLL_LOCK_CFG_LOCK_WIN 7 / 8) 4 = true ∧
    (locking 1 15).fld F.PLL_LOCK_CFG_LOCK_CNT 7 ≤ ((locking 1 15).synth 7).good + 1 ∧ ((locking 1 15).synth 7).paused = false ∧
    ((locking 1 15).synth 7).lost = false ∧ ((locking 1 0).synth 7).good + 1 < (locking 1 0).fld F.PLL_LOCK_CFG_LOCK_CNT 7 ∧
    (locking 2 0).pllState 7 = 2 ∧ (locking 3 0).pllState 7 = 3 ∧ ((locking 3 1).synth 7).lost = true ∧ (locking 2 0).on F.PLL_CTRL_TRACK 7 = true ∧
    ((locking 2 0).synth 7).lockAt = some 0 ∧ (dev []).on F.PLL_CTRL_EN 2 = false := by decide +kernel

/-! DividersAndRampsAreGuarded -/

/-- Media synthesizer 3 ramping at a word, in segment 3. -/
def ramp3 (holding : Bool) : State := let s := powered [(F.PLL_STATUS_STATE, 3, 4), (F.PLL_STATUS_RAMP_SEG, 3, 3)]
  { s with pll := [(3, { (default : Synth) with word := 512 * 2 ^ 32 - 1, holding := holding })] }
theorem test_meets_ramps_and_dividers : (dev [(F.PLL_STATUS_STATE, 3, 2)]).held = false ∧ (dev [(F.PLL_STATUS_STATE, 3, 2)]).pllState 3 = 2 ∧
    ((dev []).synth 3).paused = false ∧ (Int.ofNat ((213 : Word).toNat % 512 * 2 ^ 32 + (dev []).fld F.PLL_N_FRAC_N_FRAC 3) - Int.ofNat ((dev []).pllWord 3)).natAbs = 0 ∧
    (Int.ofNat ((dev []).fld F.PLL_N_INT_N_INT 3 * 2 ^ 32 + (0xA05A05A0 : Word).toNat) - Int.ofNat ((dev []).pllWord 3)).natAbs = 0 ∧
    (dev []).fld F.PLL_N_FRAC_N_FRAC 3 < 2 ^ 32 ∧ (dev []).fld F.PLL_N_INT_N_INT 3 < 512 ∧
    (dev []).pllWord 3 < (Int.ofNat ((214 : Word).toNat % 512 * 2 ^ 32 + (dev []).fld F.PLL_N_FRAC_N_FRAC 3) - Int.ofNat ((dev []).pllWord 3)).natAbs * 1000 ∧
    (dev []).on F.PLL_CTRL_EN 6 = true ∧ (dev [(F.RAMP_INT_TGT_INT, 12, 213)]).pllWordOk 3 ((dev [(F.RAMP_INT_TGT_INT, 12, 213)]).rampTarget 3 0) = true ∧
    (dev []).pllWordOk 3 ((dev []).rampTarget 3 0) = false ∧
    (ramp3 true).held = false ∧ (ramp3 true).pllState 3 = 4 ∧ ((ramp3 true).synth 3).holding = true ∧ ((ramp3 false).synth 3).holding = false ∧
    ((ramp3 true).synth 3).word < 512 * 2 ^ 32 ∧ (ramp3 true).fld F.PLL_STATUS_RAMP_SEG 3 = 3 ∧ (dev []).ramping 3 = false := by decide +kernel
theorem test_reaches_pll : (ramp3 true).reaches (pllReg 2) 3 ∧ (powered [(F.PLL_STATUS_STATE, 3, 2)]).reaches R.PLL_N_INT 3 ∧
    (powered []).reaches R.PLL_N_FRAC 3 ∧ (powered []).reaches R.PLL_N_INT 6 ∧ (powered []).reaches R.PLL_RAMP_GO 3 := by unfold State.reaches; decide +kernel

/-! LaneFaultsRetrainAndRecover -/

/-- Lane `l` at P0 in a state, every domain on. -/
def laneIn (l st : Nat) (more : List (Field × Nat × Nat)) : State := powered ([(F.LANE_CTRL_POWER, l, 0), (F.LANE_STATUS_STATE, l, st)] ++ more)
/-- The same, with the lane's own state. -/
def laneWith (l st : Nat) (x : LaneSt) : State := { laneIn l st [] with lanes := [(l, x)] }
theorem test_meets_lanes : ∀ l ∈ [324, 331, 344], (laneIn l 6 []).held = false ∧ (laneIn l 6 []).laneState l = 6 ∧ (laneIn l 6 []).fld F.LANE_CTRL_POWER l = 0 ∧
    (laneIn l 6 []).laneFit l ∧ (laneIn l 6 []).laneHeld l = false ∧ (laneIn l 6 []).fld F.LANE_CTRL_LB l = 0 ∧ (laneIn l 6 []).laneTesting l = false ∧
    laneRetrains l = true ∧ (laneIn l 7 []).laneState l = 7 ∧ (laneIn l 6 []).reaches R.LANE_CTRL l ∧ (laneIn l 6 []).fld F.LANE_CTRL_POWER l ≠ 3 ∧
    (laneIn l 7 []).laneSingle l = false ∧ (laneIn l 8 []).laneState l = 8 ∧ ((laneWith l 8 { (default : LaneSt) with retrying := true }).lane l).retrying = true ∧
    (laneIn l 7 [(F.LANE_CTRL_LB, l, 3)]).laneHeld l = true := by unfold State.laneFit State.reaches; decide +kernel
theorem test_meets_pcie : (laneIn 332 3 []).reaches R.LANE_CTRL 332 ∧ (laneIn 332 3 []).held = false := by unfold State.reaches; decide +kernel
theorem test_meets_hunting : ∀ l ∈ [0, 127], (laneIn l 3 []).fld F.LANE_CTRL_RATE l = 15 ∧ (laneIn l 3 []).reaches R.LANE_CTRL l ∧
    (laneIn l 3 []).fld F.LANE_CTRL_POWER l = 0 ∧ (laneIn l 3 []).on F.LANE_STATUS_CDR_LOCK l = false ∧ (laneIn l 3 []).laneBist l = false ∧
    (laneIn l 3 []).laneTesting l = false ∧ (laneIn l 3 []).on F.LANE_STATUS_PAM4 l = false ∧ (laneIn l 3 []).fld F.LANE_CTRL_LB l = 0 := by
  unfold State.reaches; decide +kernel

/-! EqualisersEyesAndCheckersAct -/

theorem test_meets_eq : ∀ l ∈ [0, 344], (laneIn l 3 []).held = false ∧ (laneIn l 3 []).laneState l ≠ 4 ∧ (laneIn l 3 []).laneState l ≠ 7 ∧ (laneIn l 7 []).laneState l = 7 ∧
    (laneIn l 3 []).laneHas l = true ∧ (laneIn l 3 []).laneBist l = false ∧ (laneIn l 3 []).laneTested l = false ∧ (laneIn l 3 []).laneServing l = false ∧ laneHasEye l = true ∧
    ((laneIn l 3 []).lane l).eye = false ∧ (laneIn l 3 []).on F.LANE_STATUS_PAM4 l = false ∧ ((laneIn l 3 []).lane l).errs < 2 ^ 48 ∧ adaptState ((laneIn l 3 []).laneState l) = false ∧
    (laneIn l 3 [(F.PAT_CFG_CHK_EN, l, 1)]).on F.PAT_CFG_CHK_EN l = true ∧ (laneIn l 3 []).on F.PAT_CFG_IN_SYNC l = false ∧
    (laneIn l 3 [(F.PAT_CFG_CHK_EN, l, 1), (F.PAT_CFG_IN_SYNC, l, 1)]).on F.PAT_CFG_IN_SYNC l = true ∧ (laneIn l 3 []).fld F.BIST_STATUS_SAFE 0 = 0 ∧
    (laneIn l 3 []).fld F.LANE_CTRL_LB l = 0 ∧ (laneIn l 3 []).fld F.LANE_CTRL_POWER l = 0 ∧ (laneIn l 3 []).on F.EYE_CFG_MODE l = false ∧
    (laneIn l 3 []).reaches R.RX_EQ l ∧ (laneIn l 3 []).reaches R.EYE_CFG l ∧ (laneIn l 3 []).reaches R.CHK_ERR_LO l ∧ (laneIn l 3 []).reaches R.PAT_CFG l := by
  unfold State.reaches; decide +kernel
/-- A square wave of 16 UI follows its pattern, and a run of zeros does not. -/
theorem test_meets_sync : let s := laneIn 5 3 [(F.PAT_CFG_CHK_EN, 5, 1), (F.PAT_CFG_CHK_PAT, 5, 8)]
    let wave := (List.range 64).map fun i => decide (i / 8 % 2 = 0)
    s.held = false ∧ s.on F.PAT_CFG_CHK_EN 5 = true ∧ s.on F.PAT_CFG_IN_SYNC 5 = false ∧ laneClass 5 ≠ .mediaTx ∧ wave.length = 64 ∧
    (s.pattern 5 (s.fld F.PAT_CFG_CHK_PAT 5)).follows wave = true ∧ (s.pattern 5 (s.fld F.PAT_CFG_CHK_PAT 5)).follows (List.replicate 64 false) = false := by decide +kernel
theorem test_meets_eye : ((laneWith 344 3 { (default : LaneSt) with eye := true }).lane 344).eye = true ∧ laneHasEye 200 = false ∧ (laneIn 200 3 []).reaches R.EYE_CFG 200 ∧
    (∃ s : State, s.held = false ∧ s.lifeCycle = 0 ∧ s.reaches R.PAT_CFG 344 ∧ s.fld F.LANE_CTRL_POWER 344 = 0) ∧ (∃ s : State, s.held = false ∧ s.lifeCycle ≠ 0 ∧ s.reaches R.PAT_CFG 335) :=
  ⟨by decide +kernel, by decide +kernel, by unfold State.reaches; decide +kernel,
   ⟨{ laneIn 344 3 [] with keys := { (laneIn 344 3 []).keys with cellA := [], cellB := [] } }, by unfold State.reaches; decide +kernel⟩,
   ⟨{ State.reset with keys := { State.reset.keys with cellA := [(2, 2)] } }, by unfold State.reaches; decide +kernel⟩⟩

/-! FabricPortsComeUp -/

/-- Port 16 in a bring-up state, in a fabric of 18, every domain on, with some of its lanes trained. -/
def bringing (st fails rate : Nat) (ready : Bool) : State :=
  let s := powered ([(F.FAB_CFG_N, 0, 18), (F.LANE_CTRL_POWER, 320, 0)] ++ [320, 321, 322, 323].map fun l => (F.LANE_STATUS_STATE, l, 4))
  { s with dev := { s.dev with idInvalid := false }
           bring := [(16, ⟨st, rate, 0, fails⟩)]
           fabPorts := [(16, { (default : FabPort) with peerHello := zeroBytes 72 })]
           lanes := [(321, { (default : LaneSt) with trained := true }), (322, { (default : LaneSt) with trained := true }),
             (323, { (default : LaneSt) with readyRun := if ready then 4 else 3 })] }
theorem test_meets_bring_up : (bringing 1 0 0 true).held = false ∧ ({ bringing 1 0 0 true with bring := [] } : State).fld F.FAB_CFG_N 0 = 18 ∧
    ({ bringing 1 0 0 true with bring := [] } : State).port 16 = default ∧ (bringing 1 0 0 true).dev.idInvalid = false ∧ (bringing 1 0 0 true).fld F.BIST_STATUS_SAFE 0 = 0 ∧
    (∀ k, k < 4 → (bringing 1 0 0 true).laneFit (256 + 4 * 16 + k)) ∧ ((bringing 2 0 4 true).lane 320).frameCnt = le ((bringing 2 0 4 true).fport 16).peerHello 68 4 ∧ (bringing 1 0 0 true).fld F.LANE_CTRL_POWER 320 = 0 ∧ ((bringing 2 0 4 true).port 16).state = 2 ∧ ((bringing 2 0 4 true).fport 16).peerHello ≠ [] ∧
    ((bringing 3 0 4 true).lane 320).trained = false ∧ ((bringing 3 1 0 true).port 16).fails = 1 ∧ ((bringing 6 0 0 true).port 16).state = 6 ∧
    (bringing 3 0 0 false).fld F.FAB_PORT_STATUS_PEER_STATE 16 = 0 ∧ (bringing 3 0 0 false).portLinked 16 = false ∧ State.reset.fld F.FAB_CFG_N 0 < 16 + 2 := by unfold State.laneFit; decide +kernel
theorem test_meets_last_lane : let s : State := { bringing 3 0 4 true with lanes := (320, { (default : LaneSt) with trained := true }) :: (bringing 3 0 4 true).lanes }
    4 ≤ (s.lane 323).readyRun ∧ s.laneState 323 = 4 ∧ (∀ j, j < 4 → j ≠ 3 → (s.lane (256 + 4 * 16 + j)).trained = true) ∧ (s.port 16).state = 3 := by decide +kernel

/-! ReceiversHuntLockAndLose -/

/-- A progressive 1080-line frame at 59.94 per second on a 3G link. -/
def frame3g : RxFrame := ⟨6, 1125, 1080, 1920, false, none, [], true, false⟩
/-- Input 127 enabled on a lane that has locked at 3G, in a state, with the last frame, the lines without timing signals, and a stop that waits or not. -/
def receiver (st en : Nat) (last : Option RxFrame) (trs : Nat) (stopping : Bool) : State :=
  let s := powered [(F.SDI_RX_CFG_EN, 127, en), (F.SDI_RX_STATUS_STATE, 127, st), (F.SDI_RX_STATUS_FMT_NOW, 127, 15), (F.LANE_CTRL_POWER, 127, 0),
    (F.LANE_STATUS_STATE, 127, 6), (F.LANE_STATUS_CDR_LOCK, 127, 1), (F.LANE_STATUS_RATE_NOW, 127, 3)]
  { s with sdiRx := [(127, { (default : SdiRxSt) with last := last, trsRun := trs, live := true, stopping := stopping })] }
theorem test_meets_receivers : (receiver 1 1 none 0 false).held = false ∧ (receiver 1 1 none 0 false).rxQuadMember 127 = false ∧
    (powered [(F.SDI_RX_CFG_QUAD, 124, 1)]).rxQuadMember 127 = true ∧ (powered [(F.SDI_RX_CFG_QUAD, 124, 1)]).reaches R.SDI_RX_CFG 127 ∧
    (powered []).on F.SDI_RX_CFG_EN 127 = false ∧ (powered []).rxState 127 = 0 ∧ (powered []).laneOn 127 = true ∧ (powered []).reaches R.SDI_RX_CFG 127 ∧
    (receiver 1 1 none 0 false).rxState 127 = 1 ∧ (receiver 1 1 none 0 false).on F.SDI_RX_CFG_EN 127 = true ∧ (receiver 1 1 none 0 false).rxLive 127 = true ∧
    ((receiver 1 1 none 0 false).rx 127).last = none ∧ (receiver 2 1 none 7 false).rxState 127 = 2 ∧ ((receiver 2 1 none 7 false).rx 127).trsRun = 7 ∧
    ((receiver 2 1 none 7 false).rx 127).stopping = false ∧ (receiver 2 1 none 7 false).fld F.SDI_RX_CFG_ANC_MODE 127 = 1 ∧
    (receiver 2 0 none 0 true).on F.SDI_RX_CFG_EN 127 = false ∧ ((receiver 2 0 none 0 true).rx 127).stopping = true ∧ ((receiver 2 0 none 0 true).rx 127).live = true ∧
    (receiver 2 1 none 0 false).on F.SDI_RX_CFG_QUAD 127 = false ∧ (receiver 2 1 none 0 false).unchanged [F.SDI_RX_CFG_QUAD, F.SDI_RX_CFG_FORMAT] 127 0 = true ∧
    (receiver 1 1 none 0 false).fld F.SDI_RX_CFG_FORMAT 127 = 0 := by unfold State.reaches; decide +kernel
theorem test_meets_agreeing_frames : rxAgree frame3g frame3g = true ∧ rxFormat false ((receiver 1 1 (some frame3g) 0 false).rxRate 127) frame3g = 15 ∧
    rxSampleBad frame3g = false ∧ rxQuadBad false frame3g = false ∧ (receiver 1 1 (some frame3g) 0 false).on F.SDI_RX_CFG_QUAD 127 = false ∧
    rxFormat false ((receiver 1 1 none 0 false).rxRate 127) { frame3g with lines := 1100 } = 0 ∧ rxAgree { frame3g with lines := 1100 } { frame3g with lines := 1100 } = true := by
  decide +kernel

/-! TransmittersSendAndStop -/

/-- Output 127 in a state on a lane at P0 after release, its timeline on, its last line `line` of frame 10, enabled and being stopped or not. -/
def sending (st en line : Nat) (stopping : Bool) : State :=
  let s := powered [(F.SDI_TX_CFG_EN, 127, en), (F.SDI_TX_STATUS_STATE, 127, st), (F.LANE_CTRL_POWER, 255, 0), (F.TL_CFG_ENABLE, 0, 1), (F.TL_CFG_ENABLE, 1, 1),
    (F.CREW_CFG_TL, 15, 1)]
  { s with sdiTx := [(127, { (default : SdiTxSt) with stopping := stopping, frame := 10, line := line })], released := true }
theorem test_meets_transmitters : (sending 1 1 0 false).held = false ∧ (sending 1 1 0 false).txQuadMember 127 = false ∧ (sending 1 1 0 false).on F.SDI_TX_CFG_EN 127 = true ∧
    (sending 1 1 0 false).txState 127 = 1 ∧ (sending 1 1 0 false).fld F.COX_TGT_VID_VID_SRC 127 = noStream ∧ (sending 1 1 0 false).txNext 127 10 1 = true ∧
    (sending 2 1 1 false).txState 127 = 2 ∧ ((sending 2 1 1 false).tx 127).stopping = false ∧ (sending 3 1 1 false).txState 127 = 3 ∧
    ((sending 2 1 1 false).tx 127).frame = 10 ∧ ((sending 2 1 1 false).tx 127).line + 1 = 2 ∧ ((sending 2 1 1 false).txLanes 127).all (sending 2 1 1 false).laneSends = true ∧
    fmtWireLines ((sending 3 0 1124 true).fld F.SDI_TX_CFG_FORMAT 127) = 1125 ∧ (sending 3 0 1124 true).txNext 127 10 1125 = true ∧
    ((sending 3 0 1124 true).tx 127).stopping = true ∧ (sending 3 0 1124 true).on F.SDI_TX_CFG_EN 127 = false ∧
    (sending 2 1 1 false).unchanged (sdiTxHeldFields 127) 127 3 = false ∧ (sending 2 1 1 false).txNext 127 10 7 = false ∧
    (powered []).on F.SDI_TX_CFG_EN 127 = false ∧ (powered []).txState 127 = 0 ∧ (powered []).laneOn 255 = true ∧ (powered []).reaches R.SDI_TX_CFG 127 ∧
    (powered [(F.CREW_CFG_TL, 15, 1)]).fmtForCrew 15 15 = true ∧ (powered [(F.CREW_CFG_TL, 15, 1)]).fmtForCrew 15 14 = false ∧
    (powered []).crewBusy 15 = false ∧ (sending 1 1 0 false).crewBusy 15 = true ∧ (sending 1 1 0 false).reaches R.CREW_CFG 15 := by unfold State.reaches; decide +kernel

/-! SerialPortCommandsAct -/

theorem test_meets_port_commands : (powered []).held = false ∧ (powered []).fld F.BIST_STATUS_SAFE 0 = 0 ∧ (powered []).selftest 4 = false ∧ (powered []).selftest 5 = false ∧
    (powered []).selftest 6 = false ∧ (powered []).crewOn 127 = true ∧ (dev []).crewOn 127 = false ∧ (powered []).rxQuadMember 127 = false ∧ (powered []).rxState 127 = 0 ∧
    (powered []).laneBist 127 = false ∧ (powered []).laneBist 255 = false ∧ fmtOk 15 = true ∧ (powered [(F.CREW_CFG_TL, 15, 1)]).fmtForCrew 15 15 = true ∧
    (powered []).crewBusy 15 = false ∧ (powered [(F.SDI_TX_CFG_EN, 120, 1)]).crewBusy 15 = true := by decide +kernel

/-! EthernetPortsSortAndCount -/

/-- A frame of `len` octets for address `dest`, tagged once. -/
def plainFrame (len : Nat) (bad : Bool) (dest : List Byte) : EthFrame := ⟨len, bad, dest, 1, 5, .other 0x88F7, false, 0, 3, 0⟩
/-- A datagram to a group, which nobody asked for. -/
def groupFrame : EthFrame := { plainFrame 200 false [255, 255, 255, 255, 255, 255] with
  tags := 0, body := .udp [] [] 5004 true ⟨96, 0, 0, false, [], false, 0, [], []⟩ }
/-- Port 8 with its link up or down on a lane in service, one captured frame and some stamps. -/
def linked (up k : Nat) : State :=
  let s := powered [(F.ETH_STATUS_LINK_UP, 8, up), (F.ETH_CFG_EN, 8, 1), (F.LANE_STATUS_STATE, 344, 6)]
  { s with eth := [(8, { (default : EthSt) with capq := [⟨plainFrame 64 false [], 7, false, false, false, false⟩], stamps := List.replicate k ⟨1, 2, 3⟩ })] }
theorem test_meets_ethernet : (linked 1 15).held = false ∧ (linked 1 15).on F.ETH_STATUS_LINK_UP 8 = true ∧ (linked 0 0).on F.ETH_STATUS_LINK_UP 8 = false ∧
    (linked 1 15).ethHas 8 = true ∧ (linked 1 15).on F.ETH_CFG_BAD_TO_FW 8 = false ∧ (linked 1 15).ethForUs 8 [255, 255, 255, 255, 255, 255] = true ∧
    (linked 1 15).ethForUs 8 [2, 0, 0, 0, 0, 0] = false ∧ 1522 ≤ (linked 1 15).fld F.ETH_CFG_MAX_FRAME 8 ∧ ((linked 1 15).port_e 8).capq.length < 512 ∧
    ((linked 1 15).port_e 8).stamps.length < 16 ∧ 16 ≤ ((linked 1 16).port_e 8).stamps.length ∧ (linked 0 0).laneState (ethLane 8) = 6 ∧
    (linked 0 0).on F.ETH_CFG_EN 8 = true ∧ (plainFrame 64 true []).fcsBad = true ∧ (plainFrame 1522 false []).tags ≤ 1 ∧
    groupFrame.fcsBad = false ∧ 64 ≤ groupFrame.len ∧ (linked 1 15).ethForUs 8 groupFrame.dest = true ∧ (linked 1 15).flowFor 8 [] [] 5004 0 = none ∧
    (linked 1 15).reaches R.ETH_CNT_LO (15 * 8 + 14) ∧ (linked 1 15).reaches R.PTP_TX_ID 8 ∧
    ({ linked 1 15 with dev := { (linked 1 15).dev with variant := 2 } } : State).ethHas 0 = false := by unfold State.reaches; decide +kernel

/-! FlowsLoseMergeAndSend -/

/-- Receive flow 767 with both legs up, in the middle of two frames with a packet missing between them. -/
def merging : State :=
  let s := dev [(F.IPM_RX_STATUS_RED_UP, 767, 1), (F.IPM_RX_STATUS_BLUE_UP, 767, 1), (F.IPM_RX_STATUS_STATE, 767, 2)]
  { s with flowRx := [(767, { (default : FlowRx) with base := some (2 ^ 32 - 3), cur := some (5, 6), later := [(7, 8)]
                                                      seen := [⟨2 ^ 32 - 3, 5, 50, false, true, false, [], []⟩, ⟨2 ^ 32 - 1, 7, 70, false, false, false, [], []⟩] })] }
/-- Transmit flow 639 of audio, in a state, on the red leg of pair 3. -/
def sendingAudio (st : Nat) : State :=
  let s := powered [(F.IPM_TX_STATUS_STATE, 639, st), (F.IPM_TX_CFG_KIND, 639, 3), (F.IPM_TX_CFG_PAIR, 639, 3), (F.ETH_STATUS_LINK_UP, 6, 1), (F.LANE_CTRL_POWER, 330, 0)]
  { s with released := true, dev := { s.dev with fabId := 0 } }
theorem test_meets_flows : merging.held = false ∧ merging.on F.IPM_RX_STATUS_RED_UP 767 = true ∧ merging.on F.IPM_RX_STATUS_BLUE_UP 767 = true ∧
    merging.fld F.IPM_RX_STATUS_STATE 767 = 2 ∧ (merging.rxf 767).base = some (2 ^ 32 - 3) ∧ (merging.rxf 767).later = [(7, 8)] ∧
    (dev []).on F.IPM_RX_STATUS_RED_UP 767 = false ∧ ((dev []).rxf 767).cur = none ∧
    (dev [(F.IPM_RX_STATUS_RED_UP, 0, 1)]).on F.IPM_RX_STATUS_BLUE_UP 0 = false := by decide +kernel
theorem test_meets_media_packets : (sendingAudio 2).held = false ∧ (sendingAudio 2).fld F.IPM_TX_STATUS_STATE 639 = 2 ∧ (sendingAudio 2).fld F.IPM_TX_CFG_KIND 639 = 3 ∧
    (sendingAudio 2).legOn 639 false = true ∧ (sendingAudio 2).legOn 639 true = false ∧ ((sendingAudio 2).txf 639).stopping = false ∧
    (sendingAudio 2).on F.ETH_STATUS_LINK_UP (2 * (sendingAudio 2).fld F.IPM_TX_CFG_PAIR 639) = true ∧
    (sendingAudio 2).laneSends (ethLane (2 * (sendingAudio 2).fld F.IPM_TX_CFG_PAIR 639)) = true ∧ (sendingAudio 0).fld F.IPM_TX_STATUS_STATE 639 = 0 ∧
    (dev [(F.IPM_TX_STATUS_STATE, 640, 1), (F.IPM_TX_CFG_KIND, 640, 5)]).pktOpens 640 0 1 = false := by decide +kernel

/-! MediaNetworkCommandsAct -/

theorem test_meets_network_commands : (dev [(F.PWR_DOM_ON_ON, 1, 0x1FE)]).held = false ∧ (dev [(F.PWR_DOM_ON_ON, 1, 0x1FE)]).fld F.BIST_STATUS_SAFE 0 = 0 ∧
    (dev []).selftest 7 = false ∧ (dev []).selftest 8 = false ∧ (dev []).isE = false ∧ (dev [(F.PWR_DOM_ON_ON, 1, 0x1FE)]).domOn 40 = true ∧
    (dev []).on F.ETH_CFG_EN 7 = false ∧ (dev []).on F.IPM_RX_CFG_EN 639 = false ∧ (dev []).on F.IPM_TX_CFG_EN 639 = false ∧
    (∀ u : Bool, (dev []).txRoom 3 639 u (flowBits 3 8 0 1 0 false (zeroBytes 16) ((dev []).fld F.IPM_TX_CFG_FORMAT 0)) = true) ∧
    ({ State.reset with dev := { State.reset.dev with variant := 2 } } : State).isE = true := by decide +kernel

/-! StallsFillAndLatch -/

/-- What a serial receiver has gathered of a frame, without stamps. -/
def plainGiven (fmt : Nat) (complete : Bool) : Given := ⟨fmt, complete, none, none, [], none, none⟩
/-- The samples of a frame. -/
def plainIn : FrameIn := ⟨0, false, false, true, [1, 2, 3], 5, none, none, none, 0, none⟩
/-- A frame that a stall holds. -/
def heldFrame (q : Nat) : Held := ⟨{ (default : FrameRec) with fseq := q, format := 14, sig := 9, complete := true }, [7], false, 1, [], none⟩
/-- Stall 127 in a state, with frames waiting and latched, and a frame given by its receiver, which is locked. -/
def stalled (st en : Nat) (f : StallSt → StallSt) (g : Option Given) : State :=
  let s := powered [(F.STALL_STATUS_STATE, 127, st), (F.STALL_CTRL_EN, 127, en), (F.SDI_RX_STATUS_STATE, 127, 2)]
  { s with stalls := [(127, f { (default : StallSt) with held := some (heldFrame 4), shown := some (heldFrame (2 ^ 48 - 1)) })],
           sdiRx := [(127, { (default : SdiRxSt) with given := g })] }
theorem test_meets_stalls : (stalled 2 1 id none).held = false ∧ (stalled 2 1 id none).on F.TWIN_CFG_EN 0 = false ∧ (stalled 2 1 id none).on F.STALL_STATUS_LL_ACTIVE 127 = false ∧
    (stalled 2 1 id none).stallGiven 127 = none ∧ (stalled 0 0 id none).stallState 127 = 0 ∧ (stalled 2 1 id none).stallState 127 = 2 ∧
    (stalled 2 1 id (some (plainGiven 14 true))).stallGiven 127 = some (plainGiven 14 true) ∧ (stalled 2 1 id (some (plainGiven 14 true))).sourceLive 127 = true ∧
    (stalled 2 1 id (some (plainGiven 14 true))).slotHolds 127 { plainIn with fmt := 14, coded := false } = true ∧
    ((stalled 2 1 id (some (plainGiven 14 true))).stall 127).awaiting = none ∧
    (stalled 2 1 id (some (plainGiven 24 true))).slotHolds 127 { plainIn with fmt := 24, coded := false } = false ∧
    (plainGiven 14 false).complete = false ∧ (stalled 2 1 id (some (plainGiven 14 false))).on F.STALL_CTRL_INCOMPLETE_USE 127 = false ∧
    ((stalled 2 1 id none).stall 127).fallBack = false ∧
    1 % (stalled 2 1 id none).stallDiv 127 = 0 ∧ ((stalled 2 1 id none).stall 127).waiting = none ∧ ((stalled 2 1 id none).stall 127).closing = false ∧
    ((stalled 2 1 (fun x => { x with waiting := some (heldFrame 5) }) none).stall 127).waiting = some (heldFrame 5) ∧
    1 % (stalled 2 1 (fun x => { x with waiting := some (heldFrame 5) }) none).stallDiv 127 = 0 ∧
    ((stalled 2 0 (fun x => { x with closing := true }) none).stall 127).closing = true := by decide +kernel
/-- A stall's register is reached whichever engine holds it, where all four are powered. -/
theorem stall_reached (s : State) (r : Reg) (n : Nat) (hh : s.regHas (r.addr n) = true) (hd : domainOf (r.addr n) = some (89 + Config.stallEngine n % 4))
    (hp : s.domOn 89 = true ∧ s.domOn 90 = true ∧ s.domOn 91 = true ∧ s.domOn 92 = true) : s.reaches r n := by
  refine ⟨hh, ?_⟩
  have h : Config.stallEngine n % 4 < 4 := Nat.mod_lt _ (by decide)
  simp only [Block.regOff, hd]
  obtain ⟨a, b, c, d⟩ := hp
  generalize Config.stallEngine n % 4 = x at h
  interval_cases x <;> simp [*]
theorem test_meets_stall_reach : (powered []).reaches R.STALL_CTRL 127 ∧ (stalled 2 1 id none).reaches R.STALL_CTRL 127 ∧ (stalled 2 1 id none).reaches R.STALL_FSEQ_LO 127 :=
  ⟨stall_reached _ _ _ (by decide +kernel) rfl (by decide +kernel), stall_reached _ _ _ (by decide +kernel) rfl (by decide +kernel),
    stall_reached _ _ _ (by decide +kernel) rfl (by decide +kernel)⟩
theorem test_meets_stall_writes :
    (powered []).stallBusy 127 = false ∧ F.STALL_CTRL_EN.of (0x3001 : Word).toNat = 1 ∧ F.STALL_CTRL_MODE.of (0x3001 : Word).toNat = 0 ∧
    (stalled 2 1 id none).on F.STALL_CTRL_EN 127 = true ∧ (stalled 2 1 id none).unchanged (W.STALL_CTRL.drop 1) 127 (0x19182C : Word).toNat = true ∧
    F.STALL_CTRL_EN.of (0x19182C : Word).toNat = 0 ∧ (stalled 2 1 id none).stallBusy 127 = true ∧
    (stalled 2 1 id none).unchanged (W.STALL_CTRL.drop 1) 127 (0 : Word).toNat = false ∧
    ((stalled 2 1 id none).stall 127).shown = some (heldFrame (2 ^ 48 - 1)) := by decide +kernel

/-! CheckpointsJudgeFreshness -/

/-- Checkpoint 767 of the last layer of head 31, which is on, stale or not, with no source. -/
def judging (l : List (Field × Nat × Nat)) : State := powered ([(F.HEAD_CFG_EN, 31, 1), (F.LAYER_CFG_EN, 511, 1)] ++ l)
/-- The same with an own source that shows a frame. -/
def judgingOwn (l : List (Field × Nat × Nat)) : State :=
  let s := judging ([(F.COX_TGT_VID_VID_SRC, 767, 32 * 16)] ++ l)
  { s with dev := { s.dev with fabId := 1 }, stalls := [(0, { (default : StallSt) with shown := some (heldFrame 4) })] }
theorem test_meets_checkpoints : (judging []).held = false ∧ (judging []).judged 767 = true ∧ (judging []).on F.TWIN_CFG_EN 0 = false ∧ (judging []).on F.FRESH_CFG_EN 767 = true ∧
    (judging []).checkRecord 767 = none ∧ (judging []).on F.FRESH_STATUS_STALE 767 = false ∧ (judging []).fld F.FRESH_CFG_ENTER_N 767 ≤ 1 ∧
    min 15 ((judging [(F.FRESH_CFG_ENTER_N, 767, 15)]).fld F.FRESH_STATUS_FAIL_RUN 767 + 1) < (judging [(F.FRESH_CFG_ENTER_N, 767, 15)]).fld F.FRESH_CFG_ENTER_N 767 ∧
    (dev []).judged 767 = false ∧ (powered [(F.FRESH_CFG_EN, 767, 0), (F.FRESH_STATUS_STALE, 767, 1)]).on F.FRESH_CFG_EN 767 = false ∧
    (powered []).reaches R.FRESH_CFG 767 ∧
    (powered [(F.FRESH_CFG_EN, 767, 0), (F.FRESH_STATUS_STALE, 767, 1)]).on F.FRESH_STATUS_STALE 767 = true ∧ F.FRESH_CFG_EN.of (1 : Word).toNat = 1 := by unfold State.reaches; decide +kernel
theorem test_meets_passes : (judgingOwn []).checkRecord 767 = some (heldFrame 4).rcd ∧ (judgingOwn []).judged 767 = true ∧
    (judgingOwn []).freshFail 767 ((judgingOwn []).freshRep 767 (heldFrame 4).rcd) ((judgingOwn []).ageOf (heldFrame 4).rcd) (heldFrame 4).rcd = 0 ∧
    1 ≤ (judgingOwn []).fld F.FRESH_CFG_ENTER_N 767 ∧
    (judgingOwn [(F.FRESH_CFG_STAMP_EN, 767, 1)]).freshFail 767 0 0 { (heldFrame 4).rcd with stampStale := true } = 16 ∧
    (judgingOwn [(F.FRESH_STATUS_STALE, 767, 1), (F.FRESH_STATUS_PASS_RUN, 767, 9)]).fld F.FRESH_CFG_EXIT_N 767 ≤ 10 ∧
    (judgingOwn [(F.FRESH_STATUS_STALE, 767, 1), (F.FRESH_STATUS_PASS_RUN, 767, 9)]).freshFail 767 0 0 (heldFrame 4).rcd = 0 ∧
    (judgingOwn [(F.FRESH_STATUS_STALE, 767, 1), (F.FRESH_STATUS_PASS_RUN, 767, 9)]).fld F.FRESH_STATUS_PASS_RUN 767 = 9 := by decide +kernel
theorem test_meets_stall_commands : (dev []).held = false ∧ (dev []).fld F.BIST_STATUS_SAFE 0 = 0 ∧ (dev []).selftest 9 = false ∧ (dev []).stallBusy 319 = false ∧
    (dev []).sourceHas 255 = true ∧ (dev []).checkHas 767 = true ∧ (dev []).codedFits 319 4 = true ∧
    (dev []).stallFits 319 4 4 = true ∧ (dev []).isF = true ∧ (∀ r, r < 5 → (dev []).regionUsed r = false) := by decide +kernel

/-! PeersComeUpAndGoDown -/

/-- Fabric device 1 of 18 with port 16, to device 0, in service on all four lanes and in a peer state. -/
def peering (st : Nat) (l : List (Field × Nat × Nat)) : State :=
  let s := powered ([(F.FAB_CFG_N, 0, 18), (F.FAB_PORT_STATUS_PEER_STATE, 16, st)]
    ++ ((List.range 4).map fun k => [(F.LANE_CTRL_POWER, 320 + k, 0), (F.LANE_STATUS_STATE, 320 + k, 6), (F.LANE_STATUS_CDR_LOCK, 320 + k, 1)]).flatten ++ l)
  { s with dev := { s.dev with fabId := 1 }, released := true, bring := [(16, { (default : Bring) with state := 5, rate := 4 })] }
/-- A packet as its lanes bring it when the line stood at 0. -/
def packetOf (m : List Byte) : Packet :=
  let n := (m.length + 31) / 32
  let d := wordBytes (scramble 0 (wordsOf (padTo (32 * n) m))).2
  ⟨(List.range n).map fun i => (i == 0, bytesAt d (32 * i) 32), 4, 0, []⟩
/-- A message of type `typ` from device 0 to device 1. -/
def fromZero (typ : Nat) (body : List Byte) : List Byte := sealMsg (({ peering 3 [] with dev := { (peering 3 []).dev with fabId := 0 } } : State).mkMsg typ 1 7 body)
/-- The body of a hello of device 0, on its port `p`, with a compatibility word. -/
def helloBody (p c : Nat) : List Byte :=
  leBytes 1 p ++ leBytes 1 18 ++ [4, 0] ++ leBytes 4 0 ++ leBytes 4 5 ++ leBytes 4 c ++ zeroBytes 32 ++ [0, 2, 3, 0] ++ zeroBytes 8
def helloOk : List Byte := fromZero 0x10 (helloBody 0 (peering 3 []).dev.compat)
theorem test_meets_hellos : (peering 1 []).held = false ∧ (peering 1 []).cox = default ∧ (peering 1 []).peerState 16 = 1 ∧ (peering 1 []).portServes 16 = true ∧
    ((peering 1 []).fport 16).epoch = none ∧ (peering 1 []).gets 16 0x10 (packetOf helloOk) helloOk ∧ (peering 1 []).helloMatches 16 helloOk = true ∧
    (peering 1 []).portTalks 16 = true ∧ linkCompat (peering 1 []).dev.compat (le helloOk 28 4) = true ∧
    (peering 1 [(F.FAB_CFG_AUTH_MODE, 0, 1)]).on F.FAB_CFG_AUTH_MODE 0 = true := by unfold State.gets; decide +kernel
theorem test_meets_wrong_hellos : (peering 1 []).gets 16 0x10 (packetOf (fromZero 0x10 (helloBody 1 0))) (fromZero 0x10 (helloBody 1 0)) ∧
    (peering 1 []).helloMatches 16 (fromZero 0x10 (helloBody 1 0)) = false ∧
    (peering 1 []).gets 16 0x10 (packetOf (fromZero 0x10 (helloBody 0 0xFF00))) (fromZero 0x10 (helloBody 0 0xFF00)) ∧
    (peering 1 []).helloMatches 16 (fromZero 0x10 (helloBody 0 0xFF00)) = true ∧
    linkCompat (peering 1 []).dev.compat (le (fromZero 0x10 (helloBody 0 0xFF00)) 28 4) = false := by unfold State.gets; decide +kernel
/-- A part of a chain, final or not. -/
def authPart (last : Byte) : List Byte := fromZero 0x11 ([0, 0, 4, 0, last, 0, 0, 0] ++ [1, 2, 3, 4])
theorem test_meets_auth : (peering 2 []).peerState 16 = 2 ∧ (peering 2 []).keepAlive 16 = false ∧ (peering 2 []).gets 16 0x11 (packetOf (authPart 0)) (authPart 0) ∧
    le (authPart 0) 20 1 ≠ 1 ∧ (peering 2 []).gets 16 0x11 (packetOf (authPart 1)) (authPart 1) ∧ le (authPart 1) 20 1 = 1 ∧ (peering 2 []).portServes 16 = true ∧
    (peering 3 []).peerState 16 = 3 ∧ (peering 3 []).portLinked 16 = true ∧
    (peering 4 []).peerState 16 = 4 ∧ (dev []).portLinked 16 = false ∧ (dev []).portBringing 16 = false ∧ (dev []).linkUp 16 = false ∧ (dev []).keepAlive 16 = false ∧
    (dev []).portHears 16 = false := by unfold State.gets; decide +kernel
theorem test_meets_local : ((peering 3 []).fport 16).waitq = [] ∧ (peering 3 []).linkUp 16 = true ∧ (peering 3 []).portTalks 16 = true ∧ (peering 3 []).portHears 16 = true ∧
    (peering 3 []).hears 16 0x12 (packetOf (fromZero 0x12 (zeroBytes 44))) (fromZero 0x12 (zeroBytes 44)) ∧
    (peering 3 []).hears 16 0x13 (packetOf (fromZero 0x13 (zeroBytes 44))) (fromZero 0x13 (zeroBytes 44)) ∧
    (peering 3 []).hears 16 0x14 (packetOf (fromZero 0x14 (zeroBytes 12))) (fromZero 0x14 (zeroBytes 12)) ∧
    (∀ n, n < 8 → (peering 3 []).candKind n ≠ 5 ∨ (peering 3 []).fld F.REF_CFG_IDX n ≠ 16) ∧
    (peering 3 []).gets 16 0x15 (packetOf (fromZero 0x15 (zeroBytes 12))) (fromZero 0x15 (zeroBytes 12)) := by unfold State.gets State.hears; decide +kernel
theorem test_meets_failed : (peering 3 []).arrival 16 (packetOf (fromZero 0x14 (zeroBytes 12))) = .whole (fromZero 0x14 (zeroBytes 12)) ∧
    msgOk 0x15 (fromZero 0x14 (zeroBytes 12)) = false ∧
    (peering 3 []).arrival 16 ⟨(packetOf (fromZero 0x11 (zeroBytes 40))).blocks.take 1, 4, 0, []⟩ = .failed := by decide +kernel

/-! SubscriptionsAndGrantsFollowRequests -/

/-- Device 1 of 18 with its port 16 to device 0 UP, and some grants. -/
def granting (l : List Grant) : State := { peering 3 [] with grants := l }
/-- A request of device 0 for serial input 3 of device 1, seats `n`. -/
def subMsg (typ n : Nat) : List Byte := fromZero typ (subBody 515 0 n 0 0x1F 0 1 0)
/-- The grant of it in a state. -/
def gotGrant (st : Nat) : Grant := ⟨515, 0, 0, 0x1F, 1, 16, 4, 0, 1, st, 5, none⟩
theorem test_meets_subscribe : (granting []).hears 16 0x20 (packetOf (subMsg 0x20 4)) (subMsg 0x20 4) ∧ (granting []).quadSource 3 = false ∧ msgDst (subMsg 0x20 4) = (granting []).me ∧
    le (subMsg 0x20 4) 24 1 = 1 ∧ le (subMsg 0x20 4) 21 1 = 0x1F ∧ le (subMsg 0x20 4) 16 2 / 512 = (granting []).me ∧ le (subMsg 0x20 4) 18 1 ≤ 2 ∧
    (granting []).sourceHas (le (subMsg 0x20 4) 16 2 % 512) = true ∧ (((granting []).stored.look (le (subMsg 0x20 4) 20 1)).find? fun x => x.tid == 7) = none ∧
    msgTid (subMsg 0x20 4) = 7 ∧ (granting []).portTo (le (subMsg 0x20 4) 20 1) = some 16 ∧ (granting []).srcCost 3 0 0 ≤ 4 ∧ le (subMsg 0x20 4) 19 1 = 4 ∧
    (granting []).grantOf 515 0 0 0x1F 1 = none ∧ 4 - chargeOf (granting []).grants 16 515 ≤ (granting []).freeSeats 16 ∧
    (granting [⟨0, 0, 0, 0, 1, 16, 528, 0, 0, 1, 0, none⟩]).freeSeats 16 < 4 - chargeOf (granting [⟨0, 0, 0, 0, 1, 16, 528, 0, 0, 1, 0, none⟩]).grants 16 515 ∧
    (granting []).hears 16 0x21 (packetOf (subMsg 0x21 0)) (subMsg 0x21 0) ∧ (granting [gotGrant 1]).grantOf 515 0 0 0x1F 1 = some (gotGrant 1) ∧ (granting [gotGrant 2]).grantOf 515 0 0 0x1F 1 = some (gotGrant 2) := by unfold State.hears; decide +kernel
theorem test_meets_growth : ((granting [gotGrant 1]).grants.any fun g => g.on 16 ((granting []).me * 512 + 3) && g.hop == 1 && g.content == 0 && g.state == 1) = true ∧
    (granting [gotGrant 1]).srcCost 3 0 0 ≤ chargeOf [gotGrant 1] 16 515 ∧
    (let s : State := { granting [{ gotGrant 1 with seats := 0 }] with stalls := [(3, { (default : StallSt) with shown := some (heldFrame 4) })] }
     0 < s.srcCost 3 0 0) ∧ (dev [(F.FAB_CFG_AUTO_GROW, 0, 0)]).on F.FAB_CFG_AUTO_GROW 0 = false := by decide +kernel
/-- Device 1 that holds stream 5 of device 2, its bow copy in a state; devices 2 and 3 are UP when `up`. -/
def holding (st path : Nat) (lost up host : Bool) : State :=
  let s := peering 3 [(F.FAB_PORT_STATUS_PEER_STATE, 0, if up then 3 else 0), (F.FAB_PORT_STATUS_PEER_STATE, 1, if up then 3 else 0)]
  let e := newSub 1029 0 0
  { s with subs := [(subKey 1029 0, { e with host := host, bow := { e.bow with state := st, path := path, lost := lost } })],
           asks := [⟨0, 7, 0, 1, subBody 1029 0 4 1 0x1F 0 1 0, 0, 0, 0, 0, 0⟩, ⟨1, 9, 2, 3, [], 0, 0, 0, 0, 0⟩, ⟨1, 10, 2, 4, [], 0, 0, 0, 0, 0⟩] }
theorem test_meets_copies : (holding 2 3 true true true).cox = default ∧ ((holding 2 3 true true true).subs.map Prod.fst) = [subKey 1029 0] ∧
    ((holding 2 3 true true true).sub (subKey 1029 0)).bow.state = 2 ∧ ((holding 2 3 true true true).sub (subKey 1029 0)).bow.lost = true ∧
    ((holding 2 3 true true true).sub (subKey 1029 0)).stern.state ≠ 2 ∧ (holding 2 3 true true true).choosePath 0xFF 2 0 [] = some 0xFE ∧
    (holding 2 3 true false true).choosePath 0xFF 2 0 [] = none ∧ ((holding 4 3 true true true).sub (subKey 1029 0)).bow.state = 4 ∧
    (holding 2 3 true true true).on F.FAB_CFG_REVERT 0 = true ∧ (holding 2 3 true true true).upTo 2 = true ∧ (holding 2 3 true true true).upTo 3 = true ∧
    ((holding 2 3 true true true).asks.find? fun x => x.kind == 1 && x.tid == 9 && x.dst == 2) = some ⟨1, 9, 2, 3, [], 0, 0, 0, 0, 0⟩ ∧
    ((holding 2 3 true true true).asks.find? fun x => x.kind == 1 && x.tid == 10 && x.dst == 2) = some ⟨1, 10, 2, 4, [], 0, 0, 0, 0, 0⟩ ∧
    ((holding 2 3 true true true).sub (subKey 1029 0)).bow.pin = 0xFF ∧ ((holding 2 3 true true false).sub (subKey 1029 0)).host = false ∧
    (holding 2 3 true true true).me / 2 ≠ 1 := by decide +kernel
/-- The answer of device 0 to the first request of `holding`, heard on its port 16. -/
def grantMsg : List Byte := fromZero 0x22 (grantBody 0 4 0xFE 1029 0 9)
theorem test_meets_grant : (holding 1 0xFF false true true).hears 16 0x22 (packetOf grantMsg) grantMsg ∧ ((holding 1 0xFF false true true).asks.find? fun a => decide (a.kind ≤ 4) && a.tid == msgTid grantMsg &&
      a.dst == msgSrc grantMsg && le a.body 0 2 == le grantMsg 20 2 && le a.body 2 1 == le grantMsg 22 1) = some ⟨0, 7, 0, 1, subBody 1029 0 4 1 0x1F 0 1 0, 0, 0, 0, 0, 0⟩ ∧
    le grantMsg 16 2 = St.OK ∧ (∀ p, p < 17 → ((holding 1 0xFF false true true).fport p).waitq = []) ∧
    msgDst grantMsg = (holding 1 0xFF false true true).me := by unfold State.hears; decide +kernel
theorem test_meets_fab_commands : (peering 3 []).fld F.BIST_STATUS_SAFE 0 = 0 ∧ (peering 3 []).selftest 0x0A = false ∧
    ({ holding 2 3 true true true with subs := [] } : State).sub (subKey 1029 0) = default := by decide +kernel
theorem test_meets_fabric_set : (dev []).selftest 0x0A = false ∧ (dev []).dev.idInvalid = false ∧ (∀ q < 17, (dev []).portServes q = false ∧ (dev []).portLinked q = false ∧ (dev []).peerState q = 0) ∧
    0 = (dev []).fabN ∧ 18 = (peering 0 []).fabN ∧ (peering 0 []).me < 18 ∧ (dev []).fld F.BIST_STATUS_SAFE 0 = 0 := by decide +kernel

/-! StrokesTravelAndMerge -/

/-- Device 1 with port 16 UP and granted to device 0, and a frame of serial input 3 to send. -/
def sendingLines (l : List (Field × Nat × Nat)) : State :=
  { granting [{ gotGrant 1 with start := 0 }] with
    regs := (peering 3 l).regs, stalls := [(3, { (default : StallSt) with held := some (heldFrame 4), shown := some (heldFrame 4) })] }
theorem test_meets_sending : (sendingLines []).held = false ∧ (sendingLines []).sends = true ∧ (sendingLines []).linkUp 16 = true ∧ (sendingLines []).portUp 16 = true ∧
    (sendingLines []).quadSource 3 = false ∧ (sendingLines []).strokeGrants 16 3 4 0 ≠ [] ∧ (sendingLines []).strokeBad 3 4 1 = false ∧
    (sendingLines []).strokeLoad 3 4 0 1 ((sendingLines []).strokeChannels 16 3 4 0) none = some (0, recBytes (heldFrame 4).rcd) ∧
    (sendingLines []).withheld.look (wKey 16 515) = false ∧ (sendingLines []).portTalks 16 = true ∧ 16 ∉ ([] : List Nat) ∧ (dev []).linkUp 16 = false ∧
    ({ sendingLines [] with withheld := [(wKey 16 515, true)] } : State).withheld.look (wKey 16 515) = true ∧
    (∀ g ∈ (sendingLines []).strokeGrants 16 3 4 0, g.content = 0) := by decide +kernel
/-- The frame with its first row poisoned in its slot. -/
def poisonedLine : State := let s := sendingLines []; { s with flt := { s.flt with poison := [s.slotBase 3 1 / 64] } }
theorem test_meets_poisoned_line : poisonedLine.strokeBad 3 1 42 = true ∧ poisonedLine.strokeGrants 16 3 1 0 ≠ [] ∧ poisonedLine.sends = true ∧
    poisonedLine.linkUp 16 = true ∧ poisonedLine.portUp 16 = true ∧ poisonedLine.quadSource 3 = false := by decide +kernel
/-- A relayed stroke of stream 1024 with eight bytes of payload, in line 1 of frame 0. -/
def lineMsg : List Byte :=
  let m := strokeBytes 1 1024 0 1 0 1 0 [1, 2, 3, 4, 5, 6, 7, 8]
  let h := m.take 1 ++ [1] ++ (m.take 28).drop 2
  h ++ leBytes 4 (crc32c h) ++ m.drop 32
/-- Port 16 UP and a ring, 319, for the stream, with what it holds. -/
def ringed (f : RxRing → RxRing) (cp : Nat) : State :=
  let s := peering 3 [(F.FAB_RX_STREAM_EN, 319, 1), (F.FAB_RX_STREAM_STREAM, 319, 1024), (F.FAB_RX_STREAM_COPIES, 319, cp)]
  { s with time := { s.time with now := 1000000000 }, rings := [(319, f { (default : RxRing) with tl := 1, got := 1 })] }
theorem test_meets_strokes : (peering 3 []).arrival 16 (packetOf lineMsg) = .whole lineMsg ∧ (peering 3 []).portHears 16 = true ∧
    (ringed id 0).arrival 16 (packetOf lineMsg) = .whole lineMsg ∧ (ringed id 0).portHears 16 = true ∧ (ringed id 0).linkUp 16 = true ∧ (ringed id 0).portUp 16 = true ∧
    strokeOk lineMsg = true ∧ (peering 3 []).arrival 16 (packetOf (fromZero 0x12 (zeroBytes 44))) = .whole (fromZero 0x12 (zeroBytes 44)) ∧
    strokeOk (fromZero 0x12 (zeroBytes 44)) = false ∧ (peering 1 []).arrival 16 (packetOf lineMsg) = .whole lineMsg ∧ (peering 1 []).linkUp 16 = false ∧
    bitOf (le lineMsg 1 1) 0 = true ∧ (peering 3 []).ringOf (bowStream (le lineMsg 2 2 % 16384)) = none ∧
    (ringed id 0).ringOf (bowStream (le lineMsg 2 2 % 16384)) = some 319 ∧ le lineMsg 2 2 / 512 % 2 = 0 ∧
    (ringed id 0).time.now + (ringed id 0).linePeriod (le lineMsg 12 1) (le lineMsg 13 1 % 2) / 2 ≤ (ringed id 0).lineStart (le lineMsg 12 1) (le lineMsg 13 1 % 2) (le lineMsg 4 6) (le lineMsg 10 2 % 4096 + 7) ∧
    (ringed id 0).lineStart (le lineMsg 12 1) (le lineMsg 13 1 % 2) (le lineMsg 4 6) (le lineMsg 10 2 % 4096 + 7) ≤ (ringed id 0).time.now + 7 * (ringed id 0).linePeriod (le lineMsg 12 1) (le lineMsg 13 1 % 2) ∧
    ((ringed id 0).rings.look 319).slots.look ((ringed id 0).slotKey (le lineMsg 0 1) (le lineMsg 12 1) (le lineMsg 13 1 % 2) (le lineMsg 4 6) (le lineMsg 10 2 % 4096)) = none := by decide +kernel
theorem test_meets_release_line : (ringed id 3).on F.FAB_RX_STREAM_EN 319 = true ∧
    (((ringed (fun r => { r with slots := [((ringed id 0).slotKey 1 0 1 5 6, some ⟨5, 6, 0, 0, [9]⟩)] }) 3).rings.look 319).slots.look ((ringed id 0).slotKey 1 0 1 5 6)) = some ⟨5, 6, 0, 0, [9]⟩ ∧
    ((ringed (fun r => { r with got := 3 }) 3).rings.look 319).got = 3 ∧ ((ringed (fun r => { r with got := 0 }) 3).rings.look 319).got = 0 ∧
    ((ringed (fun r => { r with got := 0 }) 3).rings.look 319).both = false ∧ (ringed (fun r => { r with got := 0 }) 3).fld F.FAB_RX_STREAM_COPIES 319 = 3 := by decide +kernel
/-- A 32-byte block of type `t` with four bytes after its header. -/
def laneBlock (t : Nat) (x : List Byte) : List Byte := let h := leBytes 1 t ++ [0] ++ x ++ zeroBytes (26 - x.length); h ++ leBytes 4 (crc32c h)
/-- Lane 323 of port 16, down, in a training state. -/
def trainingLane (st bs : Nat) : State := { peering 0 [(F.LANE_STATUS_STATE, 323, st)] with bring := [(16, { (default : Bring) with state := bs })] }
theorem test_meets_blocks : blockOk 0xF0 (laneBlock 0xF0 [0, 0, 9]) = true ∧ blockOk 0xF1 (laneBlock 0xF1 [0, 0, 1, 1]) = true ∧ le (laneBlock 0xF1 [0, 0, 1, 1]) 4 1 = 1 ∧
    le (laneBlock 0xF1 [0, 0, 1, 1]) 2 1 = 0 ∧ (trainingLane 4 3).laneDelivers 323 = true ∧ (trainingLane 4 3).peerState 16 = 0 ∧ ((trainingLane 4 3).port 16).state ≤ 4 ∧
    (trainingLane 4 3).laneState 323 = 4 ∧ ((trainingLane 4 3).port ((323 - 256) / 4)).state = 3 ∧ blockOk 0xF0 [] = false ∧ ((trainingLane 4 3).lane 323).goodRun < 2 := by decide +kernel
/-- A wake of four lanes for tag 0. -/
def wakeMsg : List Byte := fromZero 0x16 ([0, 0, 0, 0, 1, 0, 0, 0] ++ zeroBytes 8)
theorem test_meets_wake : (peering 3 []).gets 16 0x16 (packetOf wakeMsg) wakeMsg ∧ le wakeMsg 24 4 = (peering 3 []).fld F.FAB_TAG_TAG 0 ∧ le wakeMsg 20 1 = 1 ∧
    ((peering 3 []).port 16).state ≠ 0 ∧ (peering 3 [(F.FAB_TAG_TAG, 0, 9)]).gets 16 0x16 (packetOf wakeMsg) wakeMsg ∧
    le wakeMsg 24 4 ≠ (peering 3 [(F.FAB_TAG_TAG, 0, 9)]).fld F.FAB_TAG_TAG 0 := by unfold State.gets; decide +kernel

/-! TakesQueueExecuteAndEnd -/

/-- A synchronised device with all domains powered, its serial output 127 in a format. -/
def taking (fmt : Nat) : State := powered [(F.TIME_STATUS_SYNCED, 0, 1), (F.SDI_TX_CFG_FORMAT, 127, fmt)]
theorem test_meets_take : (taking 14).held = false ∧ (taking 14).fld F.BIST_STATUS_SAFE 0 = 0 ∧ (taking 14).synced = true ∧ (taking 14).selftest 0x0B = false ∧
    (taking 14).laneTested 255 = false ∧ (taking 14).crewOn 127 = true ∧ streamNameOk noStream = true ∧ (taking 14).remote noStream = false ∧
    (taking 14).ownStream noStream = false ∧ (taking 14).eligible 127 noStream = true ∧ (taking 14).tgtHalf 127 = false ∧ (taking 14).cox.takes = [] ∧
    (taking 14).cox.regattas = [] ∧ (taking 14).tgtFrame 127 + 4 < 2 ^ 48 := by decide +kernel
/-- Entry 1023 in a state, on a target. -/
def queuedTake (st tg : Nat) : State :=
  let s := taking 1
  { s with cox := { s.cox with takes := [(1023, { (default : TakeEnt) with state := st, target := tg, src := 16383, catchF := 9, count := 2 ^ 22 - 1 })], drops := [(tg, 7)] },
           subs := [(7, { (default : SubSt) with count := 1 })] }
theorem test_meets_entries : ((queuedTake 2 255).cox.takes.map Prod.fst) = [1023] ∧ (queuedTake 2 255).cox.regattas = [] ∧ ((queuedTake 2 255).take_ 1023).state = 2 ∧
    ((queuedTake 2 255).take_ 1023).target = 255 ∧ ((queuedTake 1 767).take_ 1023).state = 1 ∧ (queuedTake 1 767).tlFrame 0 + 1 < 9 ∧ (queuedTake 1 767).synced = true ∧
    (queuedTake 6 0).cox.drops = [(0, 7)] ∧ ((queuedTake 6 0).sub 7).count = 1 ∧ ((queuedTake 6 0).sub 7).host = false ∧ 5 ≤ ((queuedTake 6 0).take_ 1023).state ∧
    (queuedTake 1 0).entryOf (2 ^ 32 - 1) = some 1023 ∧ (∀ d ∈ (taking 1).cox.drops, d.1 ≠ 0) := by decide +kernel
theorem test_meets_catch : catchOk (catch1 ((taking 1).tgtFormat 127)) 15 = true ∧ catchOk (catch2 ((taking 1).tgtFormat 127)) 264 = true ∧
    catchOk (catch1 ((taking 1).tgtFormat 127)) (F.COX_TGT_CFG_CATCH1.of (15 + 282 * 4096 : Word).toNat) = true ∧ catchOk (catch2 ((taking 1).tgtFormat 127)) (F.COX_TGT_CFG_CATCH2.of (15 + 282 * 4096 : Word).toNat) = true ∧
    catchOk (catch1 ((taking 1).tgtFormat 127)) (F.COX_TGT_CFG_CATCH1.of (16 : Word).toNat) = false ∧ (taking 1).queued 127 = 0 ∧ (taking 1).targetHas 127 = true ∧
    (taking 1).reaches R.COX_TGT_CFG 127 := by unfold State.reaches; decide +kernel

/-! RegattasArmVoteAndDecide -/

/-- Device 1 with its port 16 to device 0 UP, a regatta in slot 15 and one request. -/
def rowing (leader members : Nat) : State :=
  let s := peering 3 []
  { s with cox := { s.cox with regattas := [(15, { (default : Regatta) with state := 1, id := 65535, leader := leader, tl := 1, catchF := 2 ^ 48 - 1, takes := 2, members := members, total := 4 })] },
           asks := [⟨6, 7, 0, 3, leBytes 2 65535, 0, 0, 0, 0, 0⟩, ⟨6, 8, 0, 3, leBytes 2 0, 0, 0, 0, 0, 0⟩] }
/-- The messages of a regatta from device 0. -/
def armMsg : List Byte := fromZero 0x30 (leBytes 2 65535 ++ [1, 1] ++ leBytes 6 (2 ^ 48 - 1) ++ leBytes 2 2 ++ leBytes 4 3 ++ leBytes 2 4 ++ [0, 0])
def voteMsg : List Byte := fromZero 0x31 (leBytes 2 65535 ++ [1, 0, 0, 0, 2, 0, 0, 0, 0, 0])
def goMsg : List Byte := fromZero 0x32 (leBytes 2 65535 ++ [1, 0] ++ leBytes 6 (2 ^ 48 - 1) ++ [0, 0])
def ackMsg : List Byte := fromZero 0x33 ([0, 0] ++ leBytes 2 65535 ++ zeroBytes 8)
theorem test_meets_regatta_messages : (rowing 1 3).held = false ∧ (rowing 1 3).cox.answered = [] ∧ (rowing 1 3).hears 16 0x30 (packetOf armMsg) armMsg ∧ (rowing 1 3).hears 16 0x31 (packetOf voteMsg) voteMsg ∧
    (rowing 1 3).hears 16 0x32 (packetOf goMsg) goMsg ∧ (rowing 1 3).hears 16 0x33 (packetOf ackMsg) ackMsg ∧ (peering 3 []).hears 16 0x30 (packetOf armMsg) armMsg ∧
    msgDst armMsg = (rowing 1 3).me ∧ (rowing 1 3).rgOf (le armMsg 16 2) = some 15 ∧
    ((rowing 1 3).rg 15).leader = (rowing 1 3).me ∧ bitOf ((rowing 1 3).rg 15).members (msgSrc armMsg) = true ∧ le armMsg 18 1 = (rowing 1 3).me ∧ le armMsg 19 1 = 1 ∧
    le armMsg 20 6 = 2 ^ 48 - 1 ∧ le armMsg 28 4 = 3 ∧ le armMsg 32 2 = 4 ∧ (peering 3 []).rgOf (le armMsg 16 2) = none ∧ (rowing 1 3).tlFrame 1 + 2 < 2 ^ 48 - 1 ∧
    bitOf ((rowing 1 3).rg 15).members (rowing 1 3).me = true ∧ le goMsg 20 6 = 2 ^ 48 - 1 ∧
    ((rowing 1 3).asks.find? fun a => decide (5 ≤ a.kind) && a.tid == msgTid ackMsg && a.dst == msgSrc ackMsg) = some ⟨6, 7, 0, 3, leBytes 2 65535, 0, 0, 0, 0, 0⟩ := by unfold State.hears; decide +kernel
theorem test_meets_regattas : (rowing 1 2).rgOpen 15 = true ∧ ((rowing 1 2).rg 15).members = 2 ^ (rowing 1 2).me ∧ ((rowing 1 2).rg 15).leader = (rowing 1 2).me ∧
    ((rowing 1 2).cox.regattas.map Prod.fst) = [15] ∧ ((rowing 1 2).asks.find? fun x => x.kind == 6 && x.tid == 7 && x.dst == 0) = some ⟨6, 7, 0, 3, leBytes 2 65535, 0, 0, 0, 0, 0⟩ ∧
    ((rowing 1 2).asks.find? fun x => x.kind == 6 && x.tid == 8 && x.dst == 0) = some ⟨6, 8, 0, 3, leBytes 2 0, 0, 0, 0, 0, 0⟩ ∧ (rowing 1 2).rgOf (le (leBytes 2 0) 0 2) = none ∧
    (rowing 1 2).rgOf (le (leBytes 2 65535) 0 2) = some 15 ∧ (taking 1).selftest 0x0B = false ∧ (taking 1).me < 17 ∧ (taking 1).synced = true ∧ (taking 1).tlFrame 1 + 4 ≤ 2 ^ 48 - 1 ∧
    (taking 1).cox.regattas = [] ∧ (taking 1).cox.takes = [] := by decide +kernel

/-! HeadsRunAndTheGuardActs -/

/-- Head 31 in a state, with a frame under way or not. -/
def composing (st : Nat) (fr : Option Nat) (l : List (Field × Nat × Nat)) : State :=
  let s := powered ([(F.HEAD_STATUS_STATE, 31, st), (F.HEAD_CFG_EN, 31, if st = 0 then 0 else 1)] ++ l)
  { s with headSt := [(31, { (default : HeadSt) with fseq := 3, frame := fr })] }
theorem test_meets_heads : (composing 0 none []).held = false ∧ (composing 0 none []).on F.HEAD_CFG_EN 31 = false ∧ (composing 0 none []).headState 31 = 0 ∧
    bitOf (0x3F : Word).toNat 0 = true ∧ (composing 0 none []).headFits (F.HEAD_CFG_TL.of (0x3F : Word).toNat) (F.HEAD_CFG_FORMAT.stored (F.HEAD_CFG_FORMAT.of (0x3F : Word).toNat)) = true ∧
    (composing 2 none []).on F.HEAD_CFG_EN 31 = true ∧ F.HEAD_CFG_FORMAT.stored (F.HEAD_CFG_FORMAT.of (4 : Word).toNat) ≠ (composing 2 none []).fld F.HEAD_CFG_FORMAT 31 ∧
    ((composing 1 none []).head 31).pend = [] ∧ (composing 0 none []).reaches R.HEAD_CFG 31 ∧ (composing 2 none []).reaches R.HEAD_CFG 31 ∧ 31 < (composing 1 none []).heads ∧
    fmtHalf ((composing 1 none []).fld F.TL_CFG_RATE ((composing 1 none []).fld F.HEAD_CFG_TL 31)) ((composing 1 none []).fld F.HEAD_CFG_FORMAT 31) = false ∧
    (composing 3 none []).headState 31 = 3 ∧ ({ State.reset with dev := { State.reset.dev with variant := 2 } } : State).heads ≤ 8 := by unfold State.reaches; decide +kernel
theorem test_meets_head_lines : rowOfLine ((composing 2 (some 7) []).fld F.HEAD_CFG_FORMAT 31) 42 = some 0 ∧ 42 ≠ fmtLines ((composing 2 (some 7) []).fld F.HEAD_CFG_FORMAT 31) ∧
    (composing 2 (some 7) [(F.LAYER_CFG_EN, 511, 1)]).layerOnRow 31 15 0 = true ∧
    rowOfLine ((composing 2 (some 7) []).fld F.HEAD_CFG_FORMAT 31) (fmtLines ((composing 2 (some 7) []).fld F.HEAD_CFG_FORMAT 31)) = none ∧
    rowOfLine ((composing 2 (some 7) []).fld F.HEAD_CFG_FORMAT 31) 1 = none ∧ ((composing 2 (some 7) []).head 31).frame = some 7 ∧
    (∀ k < 16, (composing 2 (some 7) [(F.LAYER_CFG_EN, 511, 1)]).layerBad 31 k 0 = false) ∧ (composing 2 (some 7) []).headSuspended 31 = false := by decide +kernel
/-- A guard message that locks head 31 at a frame, and one that names another version. -/
def lockMsg (ver : Nat) : List Byte :=
  leBytes 1 ver ++ [10] ++ leBytes 2 68 ++ leBytes 4 0 ++ [0, 0, 0, 0] ++ leBytes 4 (2 ^ 31) ++ leBytes 8 5 ++ leBytes 6 9 ++ [1, 0] ++ [1, 0, 0, 0] ++ zeroBytes 32
/-- A device whose guard key is not yet written and whose pin allows messages without it. -/
def guarded (q : List GuardOp) : State :=
  let s := dev []
  { s with pins := { s.pins with guardKeyLow := true }, dev := { s.dev with fabId := 0 }, safetyReset := false, guard := { s.guard with queue := q } }
theorem test_meets_guard : (guarded []).held = false ∧ (guarded []).safetyReset = false ∧ (guarded []).fld F.BIST_STATUS_SAFE 0 = 0 ∧ (guarded []).guardFail (lockMsg 1) = none ∧
    (guarded []).guardFail (lockMsg 2) = some St.BAD_LENGTH ∧ (guarded [⟨5, 10, 2 ^ 31, 9, 1, [1, 0, 0, 0]⟩]).guard.queue = [⟨5, 10, 2 ^ 31, 9, 1, [1, 0, 0, 0]⟩] := by decide +kernel

/-! HeadCommandsAct -/

theorem test_meets_head_commands : (dev []).held = false ∧ 7 < (dev []).heads ∧ (dev []).fld F.BIST_STATUS_SAFE 0 = 0 ∧ (dev []).selftest 0x0C = false ∧ ((dev []).head 7).pend = [] ∧
    (dev []).on F.HEAD_CFG_EN 7 = false ∧ (dev []).fld F.HEAD_CFG_FORMAT 7 = 15 ∧ (dev []).fld F.HEAD_CFG_TL 7 = 1 ∧ (dev []).headFits 1 15 = true ∧ (dev []).headState 7 = 0 ∧
    (∀ k, k < 16 → (dev []).on F.LAYER_CFG_EN (16 * 7 + k) = false) ∧ (guarded []).safetyReset = false ∧
    ({ dev [] with carve := some [20, 4, 0, 16, 0] } : State).stillFits 31 4095 15 true = true := by decide +kernel

/-! AudioGroupsRoutesAndCrossfades -/

/-- Input group `g` in a state with `k` samples in its buffer; serial input 127 is locked in format 1 and de-embedded. -/
def sounding (g st k : Nat) (f : AudGroup → AudGroup) : State :=
  let s := powered [(F.AUD_GRP_STATUS_STATE, g, st), (F.SDI_RX_CFG_DEEMB_EN, 127, 1), (F.SDI_RX_CFG_EN, 127, 1), (F.SDI_RX_STATUS_STATE, 127, 2), (F.SDI_RX_STATUS_FMT_NOW, 127, 1),
    (F.LANE_CTRL_POWER, 127, 0), (F.LANE_STATUS_CDR_LOCK, 127, 1), (F.FAB_RX_STREAM_EN, 319, 1), (F.FAB_RX_STREAM_STREAM, 319, 1024)]
  { s with aud := { s.aud with groups := [(g, f { (default : AudGroup) with buf := List.replicate k [1], written := 9 })], missed := [⟨319, 1024, 3⟩], routes := [⟨0, 0, 5, [(8191, 0x5FFF)]⟩], xfades := [(8189, some ⟨none, some 2, 3, 4, []⟩), (8190, some ⟨none, some 2, 4, 4, [(some 3, 240)]⟩), (8191, some ⟨none, some 2, 4, 4, []⟩)] } }
theorem test_meets_groups : (sounding 127 1 62 id).held = false ∧ (sounding 127 1 62 id).aud.groups.length = 1 ∧ (sounding 127 1 62 id).grpState 127 = 1 ∧
    (sounding 127 1 62 id).groupFed 127 = true ∧ (sounding 127 1 62 id).mutedGroups 127 = 0 ∧ ((sounding 127 1 62 id).grp 127).buf.length < 63 ∧
    (sounding 127 1 62 id).fedChannels 127 = 16 ∧ (sounding 127 1 62 id).timelineGrp 127 = false ∧
    (sounding 127 1 62 id).fld F.AUD_GRP_CFG_DELAY 127 ≤ ((sounding 127 1 62 id).grp 127).buf.length ∧ ((sounding 127 1 62 id).grp 127).again = false ∧
    ((sounding 127 1 62 fun x => { x with again := true }).grp 127).again = true ∧ ((sounding 127 1 1 id).grp 127).buf.length < (sounding 127 1 1 id).fld F.AUD_GRP_CFG_DELAY 127 ∧
    (sounding 127 2 1 id).grpState 127 ≠ 1 ∧ (sounding 911 3 0 id).grpState 911 = 3 ∧
    ((sounding 911 3 0 id).grp 911).m ≤ ((sounding 911 3 0 id).grp 911).k ∧ (sounding 255 5 0 id).grpState 255 = 5 ∧
    ((sounding 255 5 0 fun x => { x with m := 1 }).grp 255).k < ((sounding 255 5 0 fun x => { x with m := 1 }).grp 255).m := by decide +kernel
theorem test_meets_matrix : (sounding 127 1 1 id).aud.blocks = [] ∧ (sounding 127 1 1 id).aud.missed = [⟨319, 1024, 3⟩] ∧ (sounding 127 1 1 id).on F.FAB_RX_STREAM_EN 319 = true ∧
    (sounding 127 1 1 id).fld F.FAB_RX_STREAM_STREAM 319 = 1024 ∧ (sounding 127 1 1 id).aud.routes = [⟨0, 0, 5, [(8191, 0x5FFF)]⟩] ∧
    (sounding 127 1 1 id).aud.xfades.look 8191 = some ⟨none, some 2, 4, 4, []⟩ ∧ (sounding 127 1 1 id).aud.xfades.look 8190 = some ⟨none, some 2, 4, 4, [(some 3, 240)]⟩ ∧
    (sounding 127 1 1 id).aud.xfades.look 8189 = some ⟨none, some 2, 3, 4, []⟩ ∧ (sounding 127 1 1 id).aud.xfades.look 0 = none := by decide +kernel

/-! SerialAudioPortsAndAudioCommandsAct -/

/-- Serial audio port 15 in AES3 mode with its receiver in a state. -/
def serialAudio (l : List (Field × Nat × Nat)) : State := powered ([(F.SAP_CFG_MODE, 15, 3)] ++ l)
theorem test_meets_serial_audio : (serialAudio []).held = false ∧ (serialAudio [(F.SAP_CFG_TX_MASTER, 15, 0)]).on F.SAP_CFG_TX_MASTER 15 = false ∧
    (serialAudio [(F.SAP_STATUS_TX_STATE, 15, 2)]).fld F.SAP_STATUS_TX_STATE 15 = 2 ∧ (serialAudio [(F.SAP_CFG_RX_MASTER, 15, 0)]).on F.SAP_CFG_RX_MASTER 15 = false ∧
    (serialAudio []).fld F.SAP_CFG_MODE 15 = 3 ∧ (serialAudio [(F.SAP_CFG_MODE, 15, 2)]).fld F.SAP_CFG_MODE 15 ≠ 3 ∧ (serialAudio []).sapBad 15 = false ∧ (serialAudio []).sourceHas 335 = true ∧
    delayOk 895 480 = true ∧ (serialAudio []).groupAbsent 895 = false ∧ (serialAudio []).on F.SAP_CFG_ASRC 15 = true ∧ (serialAudio [(F.SAP_STATUS_RX_STATE, 15, 2)]).fld F.SAP_STATUS_RX_STATE 15 ≠ 0 ∧
    (serialAudio []).on F.SAP_STATUS_AES_LOCK 15 = false ∧ (serialAudio [(F.SAP_STATUS_AES_LOCK, 15, 1)]).on F.SAP_STATUS_AES_LOCK 15 = true ∧ (serialAudio []).sapAsrc 15 = true ∧
    100 * (max ((serialAudio [(F.SAP_STATUS_RX_RATE, 15, 48000)]).fld F.SAP_STATUS_RX_RATE 15) 48480 - min ((serialAudio [(F.SAP_STATUS_RX_RATE, 15, 48000)]).fld F.SAP_STATUS_RX_RATE 15) 48480) ≤
      (serialAudio [(F.SAP_STATUS_RX_RATE, 15, 48000)]).fld F.SAP_STATUS_RX_RATE 15 ∧
    (serialAudio [(F.SAP_STATUS_RX_RATE, 15, 48000)]).fld F.SAP_STATUS_RX_RATE 15 < 100 * (max 48000 48481 - min 48000 48481) ∧
    (serialAudio [(F.SAP_START_HI_ARMED, 0, 1)]).on F.SAP_START_HI_ARMED 0 = true ∧ (serialAudio [(F.SAP_START_MASK_RX, 0, 2 ^ 15)]).bitAt F.SAP_START_MASK_RX 0 15 = true ∧
    (serialAudio []).bitAt F.SAP_START_MASK_TX 0 15 = false ∧ (serialAudio []).on F.SAP_START_HI_ARMED 0 = false := by decide +kernel
theorem test_meets_audio_commands : (serialAudio []).fld F.BIST_STATUS_SAFE 0 = 0 ∧ (serialAudio []).selftest 0x0E = false ∧ (serialAudio []).audOff = false ∧
    (serialAudio []).fld F.SAP_STATUS_RX_STATE 15 = 0 ∧ (serialAudio []).fld F.SAP_STATUS_TX_STATE 15 = 0 ∧ (serialAudio [(F.SAP_STATUS_RX_STATE, 15, 1)]).fld F.SAP_STATUS_RX_STATE 15 = 1 ∧
    (serialAudio []).tlFrame 1 < 2 ^ 48 - 1 := by decide +kernel

/-! BalesOpenFillSealAndChain -/

/-- A formatted single-drive set with three slots, the last of them next, and tap 255 with one waiting record. -/
def set3 : DriveSet := ⟨0, false, zeroBytes 16, 3, 0, [], 7, 9, 2, 0, 0, true, true, []⟩
def logging (l : List (Field × Nat × Nat)) (c : Chain) : State :=
  let s := powered ([(F.WIT_DRV_STATUS_STATE, 0, 2), (F.WIT_STATUS_STATE, 0, 2), (F.WIT_CFG_EN, 0, 1), (F.WIT_TAP_MASK_MASK, 7, 0x80000000), (F.IPM_TX_CFG_EN, 127, 1)] ++ l)
  { s with wit := { s.wit with set := some set3, chains := [(255, c)] } }
/-- A bale with one record, not yet written; the same, written and to be sealed. -/
def bale8 (done : Nat) (sealing : Option Bool) : Bale := ⟨8, 8, 2, false, 0, zeroBytes 48, done, 2, none, 0, sealing⟩
def waiting1 : Chain := { (default : Chain) with wait := [⟨zeroBytes 40, some 1, 9⟩] }
def baled (done : Nat) (sealing : Option Bool) : Chain := { (default : Chain) with bales := [bale8 done sealing] }
/-- A tap that waits for both its pictures. -/
def pend1 : PendPic := ⟨1, 9, [], false, [], zeroBytes 40, zeroBytes 24, true, true, false⟩
def coding : State :=
  let s := dev [(F.INC_STATUS_STATE, 0, 1), (F.INC_TAPS_VALID, 0, 1), (F.INC_TAPS_TAP, 0, 255)]
  { s with wit := { s.wit with taps := [(255, { (default : TapSt) with pend := some pend1 })] } }
theorem test_meets_tap_frames : (dev []).held = false ∧ ((dev []).tap 255).pend = none ∧ (dev []).wit.closing = false ∧ (dev []).captured 255 = false ∧
    (dev []).tapOn 255 = false ∧ ((dev []).chain 255).bales = [] ∧ (logging [] default).captured 255 = false ∧
    (logging [] default).tapOn 255 = true ∧ (logging [] default).proxyDue 255 1 = false ∧ (logging [] default).proxyDue 255 0 = true ∧ pend1.bad = false ∧ ((logging [] default).tap 255).events = [] ∧
    (coding.tap 255).pend = some pend1 ∧ coding.incState = 1 ∧ coding.incTaps = [255] ∧ (coding.chain 511).wait = [] ∧ coding.wit.ring = [] ∧
    recsSize (frameRecs pend1 none) ≤ 10 * gib := by decide +kernel
/-- The waiting record on a device without a set. -/
def setless : State := { dev [] with wit := { (default : WitSt) with chains := [(255, waiting1)] } }
theorem test_meets_bales : (logging [] waiting1).held = false ∧ ((logging [] waiting1).chain 255).wait ≠ [] ∧ ((logging [] waiting1).chain 255).bales = [] ∧ set3.up = true ∧
    0 < set3.ring ∧ (logging [] waiting1).wit.set = some set3 ∧ (logging [] waiting1).slotDrives set3 false set3.headSlot = [(0, 2)] ∧ (logging [] waiting1).slotBusy false set3.headSlot = false ∧
    (logging [] (baled 0 none)).slotBusy false set3.headSlot = true ∧
    (setless.chain 255).wait ≠ [] ∧ setless.wit.set = none ∧ setless.tapOn (255 % 256) = false ∧ setless.captured (255 % 256) = false ∧
    ((logging [] (baled 0 none)).chain 255).bales = [bale8 0 none] ∧ (bale8 0 (some false)).chunk ≠ 0 ∧ ((logging [] (baled 0 (some false))).chain 255).bales = [bale8 0 (some false)] ∧
    (logging [(F.WIT_CFG_EN, 0, 0)] (baled 0 none)).tapOn (255 % 256) = false ∧ (logging [(F.WIT_CFG_EN, 0, 0)] (baled 0 none)).captured (255 % 256) = false ∧
    ((logging [] (baled 48 (some false))).chain 255).bales = [bale8 48 (some false)] ∧ (bale8 48 (some false)).done = (bale8 48 (some false)).body.length ∧
    (bale8 48 (some false)).body.length ≤ bodyMax ∧ (bale8 48 (some false)).seq % 8 ≠ 7 ∧ set3.id.length = 16 ∧ set3.flushing = true ∧
    (logging [(F.WIT_STATUS_STATE, 0, 3)] default).witState = 3 ∧ (logging [(F.WIT_STATUS_STATE, 0, 3)] default).witIdle = true ∧ (logging [] default).driveState 0 = 2 := by decide +kernel

/-! DrivesFailAndCapturesRun -/

/-- A mirrored set on two drives in the states given; a device that waits for a trigger, in state `st`, with or without a set. -/
def mirrored (a b st layout : Nat) : State :=
  let s := dev [(F.WIT_DRV_STATUS_STATE, 0, a), (F.WIT_DRV_STATUS_STATE, 1, b), (F.WIT_STATUS_STATE, 0, st)]
  { s with wit := { s.wit with set := some { set3 with layout := layout, extents := 64 } } }
def trigArmed (st : Nat) (l : List (Field × Nat × Nat)) (w : Option DriveSet) : State :=
  let s := dev ([(F.INC_STATUS_STATE, 0, st), (F.INC_TAPS_VALID, 7, 1), (F.INC_TAPS_TAP, 7, 255)] ++ l)
  { s with wit := { s.wit with set := w, chains := [(511, { (default : Chain) with bales := [bale8 0 none] })] } }
def edged : List (Field × Nat × Nat) := [(F.INC_CFG_TRIG_EN, 0, 1), (F.INC_CFG_TRIG_POL, 0, 1)]
/-- A drive whose copy A is a header of a single-drive set of four slots. -/
def header0 : List Byte := padTo 65532 ([0x54, 0x5A, 0x57, 0x44, 1] ++ zeroBytes 43 ++ [4])
def headed : State :=
  let s := dev [(F.WIT_DRV_STATUS_STATE, 0, 1), (F.WIT_STATUS_STATE, 0, 1)]
  { s with wit := { s.wit with drives := [(0, { (default : DriveSt) with data := drivePut [] 0 (header0 ++ leBytes 4 (crc32c header0)) })] } }
theorem test_meets_drives : (mirrored 2 2 2 1).held = false ∧ (mirrored 0 3 0 1).driveState 0 = 0 ∧ (mirrored 0 3 0 1).driveState 1 = 3 ∧ (mirrored 2 2 2 1).driveState 1 = 2 ∧
    (mirrored 2 2 2 1).driveState (1 - 1) = 2 ∧ ((mirrored 2 2 2 1).wit.set.map DriveSet.layout) = some 1 ∧ ((mirrored 2 2 2 2).wit.set.map DriveSet.layout) = some 2 ∧
    (mirrored 2 4 2 1).driveState 0 = 2 ∧ (mirrored 2 4 2 1).driveState 1 = 4 ∧ (mirrored 0 0 1 1).witState = 1 ∧ (mirrored 0 0 1 1).driveState 1 = 0 ∧
    headed.held = false ∧ headed.witState = 1 ∧ headed.driveState 0 = 1 ∧ headed.driveState 1 = 0 := by decide +kernel
theorem test_meets_triggers : (trigArmed 1 edged none).held = false ∧ (trigArmed 1 edged none).on F.INC_CFG_TRIG_EN 0 = true ∧ (trigArmed 1 edged none).on F.INC_CFG_TRIG_POL 0 = true ∧
    (trigArmed 1 edged none).incState = 1 ∧ (trigArmed 1 [] none).on F.INC_CFG_TRIG_EN 0 = false ∧ (trigArmed 1 edged (some { set3 with extents := 64 })).incState = 1 ∧
    (trigArmed 2 edged none).incState = 2 ∧ (trigArmed 2 edged none).incTaps = [255] ∧ ((trigArmed 2 edged none).chain (256 + 255)).bales.getLast? = some (bale8 0 none) ∧
    (trigArmed 3 [(F.INC_TAPS_VALID, 7, 0)] none).incState = 3 ∧ (trigArmed 3 [(F.INC_TAPS_VALID, 7, 0)] none).incTaps = [] := by decide +kernel
theorem header0_length : header0.length = 65532 := padTo_length _ _
/-- The header of that drive is read. -/
theorem test_meets_mount : ∃ h, driveHead (headed.drive 0) = some h ∧ le h 6 2 % 4 = 0 ∧ bytesAt h 8 16 = zeroBytes 16 := by
  have hl : (header0 ++ leBytes 4 (crc32c header0)).length = 65536 := by rw [List.length_append, header0_length, leBytes_length]
  have hd : (headed.drive 0).data = drivePut [] 0 (header0 ++ leBytes 4 (crc32c header0)) := rfl
  have hv : (headed.drive 0).view = (headed.drive 0).data := rfl
  have h0 : headerAt (headed.drive 0) 0 = some (header0 ++ leBytes 4 (crc32c header0)) := by
    have g : driveGet (headed.drive 0).data (65536 * 0) 65536 = header0 ++ leBytes 4 (crc32c header0) := by
      rw [hd, Nat.mul_zero, ← hl]; exact driveGet_drivePut _ _ _
    have m : (header0 ++ leBytes 4 (crc32c header0)).take 4 = [0x54, 0x5A, 0x57, 0x44] := by
      rw [List.take_append_of_le_length (by rw [header0_length]; decide)]; decide +kernel
    have c : le (header0 ++ leBytes 4 (crc32c header0)) 65532 4 = crc32c ((header0 ++ leBytes 4 (crc32c header0)).take 65532) := by
      rw [le_append_right (by rw [header0_length]), header0_length, Nat.sub_self, le_leBytes, Nat.mod_eq_of_lt (crc32c_lt _),
        List.take_left' header0_length]
    simp only [headerAt, hv, g, m, c, true_and, if_true]
  have h1 : headerAt (headed.drive 0) 1 = none := by
    have z : ∀ i, 65536 ≤ i → (headed.drive 0).data.look i = 0 := fun i hi => by
      rw [hd, look_drivePut, if_neg (by rw [hl]; omega)]; rfl
    have t : (driveGet (headed.drive 0).data (65536 * 1) 65536).take 4 = [0, 0, 0, 0] := by
      rw [driveGet, ← List.map_take, List.take_range]
      show [(headed.drive 0).data.look (65536 * 1 + 0), (headed.drive 0).data.look (65536 * 1 + 1), (headed.drive 0).data.look (65536 * 1 + 2), (headed.drive 0).data.look (65536 * 1 + 3)] = _
      rw [z _ (by omega), z _ (by omega), z _ (by omega), z _ (by omega)]
    have n : ¬ (driveGet (headed.drive 0).data (65536 * 1) 65536).take 4 = [0x54, 0x5A, 0x57, 0x44] := by rw [t]; decide
    simp only [headerAt, hv, n, false_and, if_false]
  refine ⟨header0 ++ leBytes 4 (crc32c header0), ?_, ?_, ?_⟩
  · exact driveHead_copyA h0 h1
  · rw [le_append_left (by rw [header0_length]; decide)]; decide +kernel
  · rw [bytesAt_append_left (by rw [header0_length]; decide)]; decide +kernel

/-! WitnessCommandsAct -/

/-- A device whose witness has power and whose two drives are in the states given. -/
def witnessed (l : List (Field × Nat × Nat)) : State := powered l
theorem test_meets_witness_commands : (witnessed []).held = false ∧ (witnessed []).fld F.BIST_STATUS_SAFE 0 = 0 ∧ (witnessed []).witAbsent = false ∧
    (witnessed []).selftest 0x0F = false ∧ (witnessed []).witOff = false ∧ (witnessed []).witState = 0 ∧ (witnessed []).incState = 0 ∧ (witnessed []).driveState 0 = 0 ∧
    (witnessed [(F.WIT_STATUS_MOUNTED, 0, 1)]).on F.WIT_STATUS_MOUNTED 0 = true ∧ (witnessed [(F.WIT_STATUS_MOUNTED, 0, 1)]).on F.WIT_CFG_EN 0 = false ∧
    (witnessed [(F.WIT_DRV_STATUS_STATE, 1, 1)]).driveState 1 = 1 ∧ (48 * gib - slotBytes) % 4096 = 0 ∧ (witnessed []).regions.sum * gib ≤ 48 * gib - slotBytes ∧
    48 * gib - slotBytes + slotBytes ≤ (witnessed []).yardGiB * gib ∧ (witnessed []).tgtKind1 255 = false ∧ (witnessed []).quadOutput 255 = false ∧ (witnessed []).quadOutput 127 = false ∧ (witnessed []).pinBad trigPin = false ∧ (witnessed []).regionSize 2 ≠ 0 ∧
    (witnessed [(F.INC_STATUS_STATE, 0, 2)]).incState = 2 := by decide +kernel
theorem test_meets_witness_absent : ({ dev [] with dev := { (dev []).dev with variant := 2 } } : State).witAbsent = true := by decide +kernel
/-- A mirrored set whose drive 0 is a replacement with a header of it. -/
def replaced : State :=
  let s := witnessed [(F.WIT_DRV_STATUS_STATE, 0, 1), (F.WIT_DRV_STATUS_STATE, 1, 2), (F.WIT_STATUS_MOUNTED, 0, 1)]
  { s with wit := { headed.wit with set := some { set3 with layout := 1 } } }
theorem test_meets_rebuild : replaced.driveState 0 = 1 ∧ replaced.driveState 1 = 2 ∧ replaced.on F.WIT_STATUS_MOUNTED 0 = true ∧ replaced.witOff = false ∧
    (replaced.wit.set.map fun w => (w.layout, w.id)) = some (1, zeroBytes 16) := by decide +kernel
theorem test_meets_rebuild_header : ∃ h, driveHead (replaced.drive 0) = some h ∧ bytesAt h 8 16 = zeroBytes 16 :=
  test_meets_mount.elim fun h x => ⟨h, x.1, x.2.2⟩

/-! TheJournalIsPublishedAndFollowed -/

/-- Device 1 whose partner, device 0, is UP on port 16, with its twin on in a step state. -/
def paired (st : Nat) (l : List (Field × Nat × Nat)) : State := peering 3 ([(F.TWIN_CFG_EN, 0, 1), (F.TWIN_STATUS_STATE, 0, st)] ++ l)
/-- A journal message of frame 2 ^ 48 - 1 of timeline 1 with one entry. -/
def journalMsg (kind i v : Nat) : List Byte :=
  fromZero 0x40 (leBytes 6 (2 ^ 48 - 1) ++ [1, 0, 1, 0, 1, 0] ++ zeroBytes 4 ++ entryBytes kind i v)
def paired2 (st : Nat) (l : List (Field × Nat × Nat)) (f : TwinSt → TwinSt) : State := { paired st l with twin := f (paired st l).twin }
theorem test_meets_journal_rx : (paired 3 []).held = false ∧ (paired 3 []).hears 16 0x40 (packetOf (journalMsg 2 255 1)) (journalMsg 2 255 1) ∧ (peering 3 []).hears 16 0x40 (packetOf (journalMsg 2 255 1)) (journalMsg 2 255 1) ∧
    msgDst (journalMsg 2 255 1) = (paired 3 []).me ∧ (peering 3 []).twinEn = false ∧ (paired 3 []).twinEn = true ∧ msgSrc (journalMsg 2 255 1) = (paired 3 []).me ^^^ 1 ∧
    (paired 3 []).twinPort = some 16 ∧ le (journalMsg 2 255 1) 24 2 = 1 ∧ (journalMsg 2 255 1).length = 44 ∧
    (paired 1 [(F.TWIN_STATUS_ROLE, 0, 1)]).authority 1 (2 ^ 48 - 1) = true ∧ (paired 3 []).authority (le (journalMsg 2 255 1) 22 1) (le (journalMsg 2 255 1) 16 6) = false ∧
    (2, 255, 2 ^ 48 - 1) ∈ (paired2 3 [] fun t => { t with owed := [(2, 255, 2 ^ 48 - 1)] }).twin.owed ∧ le (journalMsg 2 255 1) 34 2 = 255 ∧
    bitsOf (le (journalMsg 2 255 1) 36 4) 1 5 = 0 ∧ bitOf (le (journalMsg 2 255 1) 36 4) 0 = true ∧ (paired 3 []).on F.FRESH_STATUS_STALE 255 = false ∧
    (paired 3 [(F.FRESH_STATUS_STALE, 255, 1)]).on F.FRESH_STATUS_STALE 255 = true ∧ (paired 3 []).twin.sigs = [] ∧ le (journalMsg 4 255 1) 32 1 = 4 ∧
    le (journalMsg 5 255 (2 ^ 32 - 1)) 32 1 = 5 ∧ le (journalMsg 5 255 (2 ^ 32 - 1)) 36 4 = 2 ^ 32 - 1 ∧ (paired 3 []).hears 16 0x40 (packetOf (journalMsg 5 255 (2 ^ 32 - 1))) (journalMsg 5 255 (2 ^ 32 - 1)) ∧
    (paired 3 []).hears 16 0x40 (packetOf (journalMsg 4 255 1)) (journalMsg 4 255 1) := by unfold State.hears; decide +kernel
/-- The same device with the low half of a signature and its own signature. -/
def signed (own : Nat) : State :=
  { paired2 3 [] (fun t => { t with sigs := [⟨255, 2 ^ 48 - 1, some 1, none⟩] }) with wit := { (default : WitSt) with taps := [(255, { (default : TapSt) with sigs := [(2 ^ 48 - 1, own)] })] } }
theorem test_meets_signatures : (signed 0).twin.sigs = [⟨255, 2 ^ 48 - 1, some 1, none⟩] ∧ ((signed 0).tap 255).sigs = [(2 ^ 48 - 1, 0)] ∧
    ((signed (2 ^ 64 - 2 ^ 32 + 1)).tap 255).sigs = [(2 ^ 48 - 1, 2 ^ 64 - 2 ^ 32 + 1)] ∧ 2 ^ 64 - 2 ^ 32 + 1 = (2 ^ 32 - 1) * 2 ^ 32 + 1 := by decide +kernel
/-- The active member with a checkpoint of output 127 that is judged. -/
def active : State :=
  let s := paired 1 [(F.TWIN_STATUS_ROLE, 0, 1), (F.FRESH_CFG_EN, 127, 1), (F.SDI_TX_CFG_EN, 127, 1)]
  { s with fabPorts := [(16, { (s.fport 16) with credits := [(1, ⟨8, 0, 0, 0, 0, 0⟩)] })] }
theorem test_meets_publishing : active.held = false ∧ active.twinEn = true ∧ active.me < 18 ∧ active.twinPort = some 16 ∧ active.linkUp 16 = true ∧
    active.authority (active.tgtTl 127) (2 ^ 48 - 1) = true ∧ active.tgtTl 127 < 2 ∧ active.on F.FRESH_CFG_EN 127 = true ∧ active.judged 127 = true ∧ (active.fport 16).waitq = [] ∧
    ((active.credit 16 1).sent + 65536 - (active.credit 16 1).peerFreed) % 65536 < (active.credit 16 1).ann ∧ (1, 2 ^ 48 - 1) ∉ active.twin.missed ∧ active.twin.early = [] ∧
    (2, 767, 0) ∉ active.twin.owed ∧ (2, 767, 0) ∈ (paired2 3 [] fun t => { t with owed := [(2, 767, 0)] }).twin.owed := by decide +kernel
/-- The same pair a second after reset. -/
def future (l : List (Field × Nat × Nat)) : State := { paired 1 l with time := { (paired 1 l).time with now := 1000000000 * nsUnit } }
theorem test_meets_frame_ends : (paired2 0 [(F.TWIN_CFG_EN, 0, 0)] fun t => { t with switching := true }).twin.switching = true ∧
    (paired2 0 [(F.TWIN_CFG_EN, 0, 0)] fun t => { t with switching := true }).twinEn = false ∧ (paired 2 []).tlFrame ((paired 2 []).fld F.TWIN_SW_HI_TL 0) ≤ (paired 2 []).switchFrame ∧
    (future []).switchFrame < (future []).tlFrame ((future []).fld F.TWIN_SW_HI_TL 0) ∧ (paired 2 []).twinState = 2 ∧ (paired 2 []).twin.switching = false ∧ (paired 2 []).twin.missBad = false ∧ (paired 2 []).twin.mmBad = false ∧
    (paired 2 []).twin.sigBad = false ∧ (paired 2 [(F.TWIN_STATUS_RUN, 0, 65534)]).fld F.TWIN_STATUS_RUN 0 < 65535 ∧ 1 ≤ (paired 2 []).fld F.TWIN_SYNC_SYNC_FRAMES 0 ∧
    (paired2 2 [] fun t => { t with missBad := true }).twin.missBad = true ∧ (paired2 3 [] fun t => { t with missBad := true, missRun := 2 }).twinState = 3 ∧
    (paired2 3 [] fun t => { t with missBad := true, missRun := 2 }).fld F.TWIN_CFG_MISS_LIMIT 0 ≤ 2 + 1 ∧ 0 < (paired 3 []).fld F.TWIN_CFG_MM_LIMIT 0 ∧
    1 + 1 < (paired 3 []).fld F.TWIN_CFG_MISS_LIMIT 0 := by decide +kernel

/-! RolesHeartbeatAndTwinCommands -/

/-- The same pair with the hello of a compatible partner. -/
def greeted (st : Nat) (l : List (Field × Nat × Nat)) : State :=
  let s := paired st l
  { s with fabPorts := [(16, { (s.fport 16) with peerHello := helloOk })] }
theorem test_meets_roles : (paired 3 []).held = false ∧ (paired 3 []).isBow = false ∧ (paired 3 []).on F.TWIN_STATUS_ROLE 0 = (true == (paired 3 []).isBow) ∧
    (paired 3 []).on F.TWIN_STATUS_ROLE 0 ≠ (false == (paired 3 []).isBow) ∧ 2 ≤ (paired 3 []).twinState ∧ (paired 1 [(F.TWIN_STATUS_ROLE, 0, 1)]).twinState = 1 ∧
    (paired 1 [(F.TWIN_STATUS_ROLE, 0, 1)]).on F.TWIN_STATUS_ROLE 0 ≠ (true == (paired 1 []).isBow) ∧
    (paired2 1 [(F.TWIN_STATUS_ROLE, 0, 1)] fun t => { t with switching := true }).twin.switching = true ∧
    (paired 1 [(F.TWIN_STATUS_HB_ON, 0, 1)]).on F.TWIN_STATUS_HB_ON 0 = true ∧ (paired 1 []).hbCauses ≠ 0 ∧ (greeted 4 []).twinState = 4 ∧
    (greeted 4 []).on F.TWIN_CFG_AUTO_RESYNC 0 = true ∧ (greeted 4 []).twinPort = some 16 ∧ (greeted 4 []).linkUp 16 = true ∧ (greeted 4 []).twinCompat = true ∧
    ({ paired 4 [] with dev := { (paired 4 []).dev with compat := 0x10000 } } : State).twinCompat = false ∧ ({ paired 4 [] with dev := { (paired 4 []).dev with compat := 0x10000 } } : State).twinState = 4 ∧ (paired 1 [(F.TWIN_STATUS_ROLE, 0, 1), (F.TWIN_SW_HI_PENDING, 0, 1)]).on F.TWIN_SW_HI_PENDING 0 = true := by decide +kernel
theorem test_meets_switch_instant : (future [(F.TWIN_STATUS_ROLE, 0, 1), (F.TWIN_SW_HI_PENDING, 0, 1)]).switchTime 0 0 ≤
      (future [(F.TWIN_STATUS_ROLE, 0, 1), (F.TWIN_SW_HI_PENDING, 0, 1)]).time.now + 1000 * nsUnit ∧
    (paired 1 [(F.TWIN_SW_HI_FRAME, 0, 1)]).time.now + 1000 * nsUnit < (paired 1 [(F.TWIN_SW_HI_FRAME, 0, 1)]).switchTime 0 (paired 1 [(F.TWIN_SW_HI_FRAME, 0, 1)]).switchFrame := by decide +kernel
theorem test_meets_twin_commands : (peering 3 []).fld F.BIST_STATUS_SAFE 0 = 0 ∧ (peering 3 []).selftest 0x10 = false ∧ (peering 3 []).fabN ≠ 0 ∧ (peering 3 []).twinEn = false ∧
    (dev []).fabN = 0 ∧ active.on F.TWIN_SW_HI_PENDING 0 = false ∧ active.on F.TWIN_STATUS_ROLE 0 = true ∧ active.tlFrame 1 + 2 ≤ 2 ^ 48 - 1 ∧
    (paired 1 [(F.TWIN_SW_LO_FRAME, 0, 2), (F.TWIN_SW_HI_PENDING, 0, 1)]).tlFrame 0 + 1 < (paired 1 [(F.TWIN_SW_LO_FRAME, 0, 2), (F.TWIN_SW_HI_PENDING, 0, 1)]).switchFrame ∧
    (greeted 4 []).cox.takes = [] := by decide +kernel

/-! MatrixServesMemoryAndRefusesTheRest -/

theorem test_meets_matrix_access : (dev []).held = false ∧ (dev []).mat.out = [] ∧ (dev []).mat.held = [] := by decide
/-- The last byte of SRAM below the safety core's, written and read back. -/
theorem test_matrix_sram_write : (match exec (.matrixAccess [⟨0, 0, 2, 0x237FFFF, 1, some [0xA5], 0, true⟩] []) (dev []) with
    | .next t => t.mat.sram == [(0x37FFFF, 0xA5)] && t.out == [Out.bus 0 false []]
    | _ => false) = true := by decide +kernel


/-! MatrixControlAndTimeouts -/

/-- A device with a switch of the alias window under way. -/
def remapping : State := let s := dev []; { s with mat := { s.mat with remapping := true } }
/-- A device with one request outstanding at the flash window. -/
def waiting : State := let s := dev []; { s with mat := { s.mat with out := [⟨0, 0, 2, 0x10000000, 4, none, 0, true⟩] } }
theorem test_meets_matrix_control : (dev []).held = false ∧ (dev []).fld F.MATRIX_CTRL_REMAP 0 = 0 ∧ bitOf (1 : Word).toNat 0 = true ∧
    (dev [(F.MATRIX_CTRL_REMAP, 0, 1)]).held = false ∧ (dev [(F.MATRIX_CTRL_REMAP, 0, 1)]).fld F.MATRIX_CTRL_REMAP 0 = 1 ∧ bitOf (0 : Word).toNat 0 = false ∧
    remapping.held = false ∧ remapping.mat.remapping = true ∧ remapping.mat.out = [] ∧ remapping.mat.held = [] ∧
    waiting.held = false ∧ waiting.mat.out = [⟨0, 0, 2, 0x10000000, 4, none, 0, true⟩] := by decide

/-! RegisterAccessesFollowTheirCodes -/

/-- A device in a life-cycle state. -/
def aged (n : Nat) : State := let s := dev []; { s with keys := { s.keys with cellA := if n = 0 then [] else [(n, 1)] } }
theorem test_meets_register_accesses : (dev []).held = false ∧ (dev []).mat.out = [] ∧ (dev []).mat.held = [] ∧ (dev []).flt.timeouts = [] ∧
    (dev [(F.PWR_DOM_ON_ON, 0, 0x8000)]).held = false ∧ (dev [(F.PWR_DOM_ON_ON, 0, 0x8000)]).reaches R.SDI_RX_CRC_CNT 127 ∧ (dev []).regOff 0 = false ∧ (atReg 0 liveActs).isNone = true ∧
    (dev []).regHas (R.SDI_RX_CRC_CNT.addr 127) = true ∧ (dev []).regOff (R.SDI_RX_CRC_CNT.addr 127) = true := by unfold State.reaches; decide +kernel
theorem test_meets_diag_write : (aged 3).held = false ∧ (aged 3).lifeCycle = 3 ∧ (aged 3).mat.out = [] ∧ (aged 3).mat.held = [] ∧ (aged 3).flt.timeouts = [] ∧
    (aged 1).held = false ∧ (aged 1).lifeCycle ≠ 0 ∧ (aged 1).lifeCycle ≠ 3 := by decide
theorem test_register_write_stores : (match exec (.registerWrite 0 (0x40000000 + R.GPIO_EDGE_EN.off) 0x80000001) (dev []) with
    | .next t => t.fld F.GPIO_EDGE_EN_EN 0 == 0x80000001
    | _ => false) = true := by decide +kernel

/-! SlotCommandsMoveTheRequestState -/

theorem test_meets_doorbell_posts : (dev []).held = false ∧ (dev []).fld F.CH_STATUS_REQ_STATE 40 = 0 ∧ (dev []).on F.CH_STATUS_RSP_READY 40 = false ∧
    (dev []).pwrState = 0 ∧ (dev []).domOn (serverDomain 0) = true := by decide
/-- Channel 0 with a request posted at reset, a time after it. -/
def posted (raw : Nat) : State :=
  let s := dev [(F.CH_STATUS_REQ_STATE, 0, 1), (F.CH_STATUS_SERVED, 0, 1), (F.CH_TMO_TMO_MS, 0, 5)]
  { s with mbx := { s.mbx with posted := [(0, some 0)] }, time := { s.time with raw := raw } }
theorem test_meets_posted : (posted 5000000).held = false ∧ (posted 5000000).postedDue 0 = true ∧ (posted 4999999).postedDue 0 = false ∧ (posted 0).fld F.CH_STATUS_REQ_STATE 0 = 1 ∧
    (posted 0).fld F.CH_STATUS_SERVED 0 = 1 ∧ (posted 0).domOn (serverDomain 0) = true ∧ (dev [(F.CH_STATUS_RSP_READY, 40, 1)]).on F.CH_STATUS_RSP_READY 40 = true := by decide +kernel
theorem test_meets_slot_states : ∀ st ∈ [1, 2, 3], (dev [(F.CH_STATUS_REQ_STATE, 32, st)]).held = false ∧
    (dev [(F.CH_STATUS_REQ_STATE, 32, st)]).fld F.CH_STATUS_REQ_STATE 32 = st := by decide

/-! TakenRequestsAreCheckedAndAnswered -/

theorem test_meets_request_take : (dev [(F.CH_STATUS_REQ_STATE, 0, 1), (F.CH_STATUS_SERVED, 0, 1)]).held = false ∧
    (dev [(F.CH_STATUS_REQ_STATE, 0, 1), (F.CH_STATUS_SERVED, 0, 1)]).fld F.CH_STATUS_REQ_STATE 0 = 1 ∧
    (dev [(F.CH_STATUS_REQ_STATE, 0, 1), (F.CH_STATUS_SERVED, 0, 1)]).fld F.CH_STATUS_SERVED 0 = 1 ∧
    (dev [(F.CH_STATUS_REQ_STATE, 0, 1), (F.CH_STATUS_SERVED, 0, 1)]).domOn (serverDomain 0) = true ∧
    crc32 (((dev [(F.CH_STATUS_REQ_STATE, 0, 1), (F.CH_STATUS_SERVED, 0, 1)]).slotGet (reqSlot 0) 1024).take 32) ≠ 0 := by decide +kernel
/-- A device whose channel 40 holds a taken request and its answer. -/
def taken (void : Bool) : State :=
  let s := dev [(F.CH_STATUS_REQ_STATE, 40, 2)]
  { s with mbx := { s.mbx with taken := [(40, some ⟨0x0102, 7, 0, false, void⟩)] }, replies := [(40, some ⟨0, [1, 2]⟩)] }
theorem test_meets_response_post : ∀ v, (taken v).held = false ∧ (taken v).fld F.CH_STATUS_REQ_STATE 40 = 2 ∧ (taken v).on F.CH_STATUS_RSP_READY 40 = false ∧
    (taken v).mbx.taken.look 40 = some ⟨0x0102, 7, 0, false, v⟩ ∧ (taken v).replies.look 40 = some ⟨0, [1, 2]⟩ := by decide

/-! EpochsAndRestartsVoidWhatWaits -/

theorem test_meets_epoch_writes : (dev [(F.CH_STATUS_REQ_STATE, 31, 1), (F.LOCK_OWNER_OWNER, 63, 32)]).held = false ∧
    (dev [(F.CH_STATUS_REQ_STATE, 31, 1), (F.LOCK_OWNER_OWNER, 63, 32)]).fld F.CH_STATUS_REQ_STATE 31 = 1 ∧
    (dev [(F.CH_STATUS_REQ_STATE, 31, 1), (F.LOCK_OWNER_OWNER, 63, 32)]).fld F.LOCK_OWNER_OWNER 63 = 31 + 1 ∧
    (dev [(F.CH_STATUS_REQ_STATE, 31, 1), (F.LOCK_OWNER_OWNER, 63, 32)]).fld F.LOCK_OWNER_OWNER 0 ≠ 31 + 1 ∧
    (taken false).fld F.CH_STATUS_REQ_STATE 40 = 2 ∧ (taken false).mbx.taken.look 40 = some ⟨0x0102, 7, 0, false, false⟩ := by decide
theorem test_meets_core_restart : (dev [(F.LOCK_OWNER_OWNER, 0, 36)]).held = false ∧ (dev [(F.LOCK_OWNER_OWNER, 0, 36)]).fld F.LOCK_OWNER_OWNER 0 = 33 + 3 ∧ serverOf 32 = 4 ∧ serverOf 31 = 3 := by decide


/-! LocksAreTakenAndReleased -/

theorem test_meets_locks : (dev []).held = false ∧ (dev []).fld F.LOCK_OWNER_OWNER 63 = 0 ∧ (dev [(F.LOCK_OWNER_OWNER, 63, 37)]).held = false ∧
    (dev [(F.LOCK_OWNER_OWNER, 63, 37)]).fld F.LOCK_OWNER_OWNER 63 = 37 ∧ (0 : Word).toNat % 64 = 0 := by decide

/-! TheHostWindowIsGuarded -/

/-- The window at the yard's last GiB, which is free. -/
def lastGiB : State := dev [(F.BAR2_WIN_GIB, 0, 47)]
theorem test_meets_host_window : lastGiB.held = false ∧ (47 : Word).toNat % 64 < lastGiB.yardGiB ∧ lastGiB.yardGiB ≤ (63 : Word).toNat % 64 ∧ gib - 1 + 1 ≤ gib ∧
    lastGiB.fld F.BAR2_WIN_GIB 0 * gib + (gib - 1) + 1 ≤ lastGiB.yardGiB * gib ∧ lastGiB.inBitmap (lastGiB.fld F.BAR2_WIN_GIB 0 * gib + (gib - 1)) 1 = false ∧
    lastGiB.poisoned (lastGiB.fld F.BAR2_WIN_GIB 0 * gib + (gib - 1)) 1 = false ∧ lastGiB.bar2Open (lastGiB.fld F.BAR2_WIN_GIB 0 * gib + (gib - 1)) 1 = true ∧
    (dev []).bar2Open 0 1 = false ∧ (dev []).fld F.BAR2_WIN_GIB 0 * gib + 0 = 0 ∧
    (dev [(F.BAR2_WIN_GIB, 0, (dev []).bitmapBase 0 / gib)]).inBitmap ((dev []).bitmapBase 0) 1 = true ∧
    (dev [(F.BAR2_WIN_GIB, 0, 63)]).yardGiB * gib < (dev [(F.BAR2_WIN_GIB, 0, 63)]).fld F.BAR2_WIN_GIB 0 * gib + 0 + 1 := by decide +kernel

/-! KeyCommandsUseTheStore -/

/-- A device with a root secret, key 2 written and the key switch turned. -/
def keyed : State :=
  let s := dev []
  { s with keys := { s.keys with root := some (zeroBytes 48), measured := true, written := 5 }, pins := { s.pins with guardKeyLow := true } }
/-- A KEY_INJECT of a key of zeros into slot 2. -/
def injectOfZeros : List Byte := [2, 0, 0, 0] ++ zeroBytes 48 ++ (sha384 (zeroBytes 32)).take 4
theorem test_meets_key_generate : (dev []).held = false ∧ (dev []).fld F.BIST_STATUS_SAFE 0 = 0 ∧ (dev []).lifeCycle ≠ 4 ∧ bitOf (dev []).keys.used 0 = false ∧
    le [0xC3, 0xC3, 0, 0] 0 4 = 0xC3C3 ∧ le (zeroBytes 8) 2 2 ≤ 952 ∧ (zeroBytes 8).length = 8 + le (zeroBytes 8) 2 2 := by decide
theorem test_meets_key_inject : keyed.held = false ∧ keyed.fld F.BIST_STATUS_SAFE 0 = 0 ∧ keyed.purposeOk 3 = true ∧ keyed.purposeOk 2 = true ∧
    keyed.pinBad guardKeyPin = false ∧ keyed.pins.guardKeyLow = true ∧ bitOf keyed.keys.used 2 = false ∧ bitOf keyed.keys.written 2 = true := by decide
theorem test_meets_key_inject_payload : injectOfZeros.length = 56 ∧ le injectOfZeros 0 1 = 2 ∧ le injectOfZeros 1 3 = 0 ∧ le injectOfZeros 36 16 = 0 ∧
    le injectOfZeros 52 4 = le (sha384 (bytesAt injectOfZeros 4 32)) 0 4 := by decide +kernel

/-! LifeCycleAndTamperZeroise -/

theorem test_meets_tamper : (dev [(F.KEY_TAMP_CFG_TAMP_EN, 0, 8)]).bitAt F.KEY_TAMP_CFG_TAMP_EN 0 3 = true ∧
    (dev [(F.KEY_TAMP_CFG_TAMP_EN, 0, 8)]).bitAt F.KEY_TAMP_CFG_TAMP_EN 0 2 = false := by decide
theorem test_meets_scan : (dev [(F.FUSE_DEBUG_SCAN, 0, 1)]).held = false ∧ (dev [(F.FUSE_DEBUG_SCAN, 0, 1)]).bitAt F.FUSE_DEBUG_SCAN 0 (dev []).lifeCycle = true ∧
    (dev [(F.FUSE_DEBUG_SCAN, 0, 0)]).bitAt F.FUSE_DEBUG_SCAN 0 (dev []).lifeCycle = false := by decide
/-- A transition from TEST to PROVISION. -/
def toProvision : List Byte := [1, 0, 0, 0, 0x1C, 0x1C, 0, 0] ++ zeroBytes 96
theorem test_meets_lc_advance : toProvision.length = 104 ∧ le toProvision 0 1 = (dev []).lifeCycle + 1 ∧ (dev []).lifeCycle < 2 ∧ le toProvision 1 3 = 0 ∧
    le toProvision 8 96 = 0 ∧ le toProvision 4 4 = 0x1C1C ∧ (dev []).held = false ∧ (dev []).fld F.BIST_STATUS_SAFE 0 = 0 := by decide +kernel

/-! ResetsKeepWhatTheyMust -/

/-- A device whose flash log asks for the boot slot to be copied, held by RESET_N or EXTEST. -/
def toCopy (pin clamp : Bool) : State :=
  let s := dev []
  { s with flash := { s.flash with logA := [⟨2, 3, 0, 0⟩] }, start := { s.start with pinLow := pin, clamped := clamp } }
theorem test_meets_resets : (toCopy false false).held = false ∧ (toCopy false false).updState = 3 ∧ (0xA5A50010 : Word).toNat / 65536 = 0xA5A5 ∧
    bitOf (0xA5A50010 : Word).toNat 4 = true ∧ (0 : Word).toNat / 65536 ≠ 0xA5A5 ∧ (toCopy true false).start.pinLow = true ∧
    (toCopy true false).start.clamped = false ∧ (toCopy true false).start.booted = false ∧ (toCopy true false).updState = 3 ∧
    (toCopy true false).lifeCycle ≠ 4 ∧ (toCopy true true).start.clamped = true ∧ (toCopy true true).start.pinLow = true ∧
    (toCopy false true).start.clamped = true ∧ (toCopy false true).start.pinLow = false ∧ (toCopy false true).lifeCycle ≠ 4 ∧
    (dev [(F.BIST_STATUS_PHASE, 0, 5)]).fld F.BIST_STATUS_PHASE 0 ≠ 0 ∧ (toCopy true false).on F.SYS_RESET_CAUSE_POWER_ON 0 = true := by decide +kernel

/-! StartAndReleaseProceed -/

/-- A device that copies a slot. -/
def copying : State := let s := dev []; { s with start := { s.start with copying := 1 } }
/-- A device with its last self-test phase to go. -/
def testing : State := let s := dev [(F.BIST_STATUS_PHASE, 0, 5)]; { s with start := { s.start with phases := 31 } }
/-- A device that waits for its release. -/
def tested : State := let s := dev [(F.BIST_STATUS_PHASE, 0, 7)]; { s with start := { s.start with phases := 63, booted := true } }
theorem test_meets_start : testing.held = false ∧ testing.phaseRuns 6 = true ∧ testing.phaseRuns 1 = false ∧
    withBit testing.start.phases (6 - 1) = 63 ∧ testing.fld F.BIST_STATUS_SAFE 0 = 0 ∧ testing.start.failed = 0 := by decide +kernel
theorem test_meets_release : tested.held = false ∧ tested.start.booted = true ∧ tested.released = false ∧ tested.start.phases = 63 ∧
    tested.fld F.BIST_STATUS_SAFE 0 = 0 ∧ tested.updState ≠ 5 ∧ tested.sfld F.PWR_TEMP_TJ 0 < 1050 ∧ tested.settings = none ∧
    copying.held = false ∧ copying.start.copying = 1 ∧ copying.start.tries = 0 := by decide +kernel

/-! UpdatesMoveThroughStaging -/

/-- A device in an update state, with an image of 512 bytes coming in. -/
def updating (st : Nat) (all : Bool) : State :=
  let s := dev []
  { s with flash := { s.flash with logA := [⟨2, st, 0, 0⟩] }
           start := { s.start with length := 512, units := if all then [(0, true), (1, true), (2, true), (3, true)] else [] } }
/-- A device that verifies a staging area that is blank. -/
def verifying : State := let s := dev []; { s with start := { s.start with verifying := true, erasing := true } }
/-- A device that saves settings. -/
def saving : State := let s := dev []; { s with start := { s.start with saving := some (true, s.snapshot) } }
theorem test_meets_updates : (dev []).held = false ∧ (dev []).updState = 0 ∧ le [0, 2, 0, 0, 0x5E, 0x5E, 0, 0, 0, 0, 0, 0] 0 4 = 512 ∧
    le [0, 2, 0, 0, 0x5E, 0x5E, 0, 0, 0, 0, 0, 0] 4 4 = 0x5E5E ∧ le [0, 2, 0, 0, 0x5E, 0x5E, 0, 0, 0, 0, 0, 0] 8 4 = 0 ∧ verifying.start.erasing = true ∧
    (updating 1 false).held = false ∧ (updating 1 false).receiving = true ∧ 384 + 128 ≤ (updating 1 false).start.length ∧
    (updating 1 false).start.units.look (384 / 128) = false ∧ (updating 1 true).receiving = true ∧
    (updating 1 true).start.units.length = unitsOf (updating 1 true).start.length ∧ (updating 5 false).updState = 5 ∧ (updating 2 false).updState = 2 ∧
    verifying.start.verifying = true ∧ (dev []).start.saving = none ∧ saving.start.saving = some (true, (dev []).snapshot) := by decide +kernel
theorem test_meets_verify_fails : verifying.flash.imageFault staging = some St.INCOMPATIBLE := by decide +kernel

/-! PowerStepsFollowTheSequencer -/

theorem test_meets_budget : (dev []).held = false ∧ (dev []).pwrState ≠ 3 ∧ (dev []).windowCharge ≤ (dev []).fld F.PWR_CFG_STEP_BUDGET 0 * chargeUnit ∧
    (dev []).pwr.queue = [] ∧ (dev []).fld F.AVS_STATUS_VDD_MV 0 ≤ 820 := by decide +kernel
/-- A device with domain 33 waiting to be switched, its charge `left`. -/
def switching (on : Bool) (left : Nat) : State :=
  let s := dev [(F.HEAD_CFG_EN, 0, 1)]; { s with pwr := { s.pwr with queue := [⟨33, on, left, true⟩], ramps := [(41, 15)] } }
theorem test_meets_domain_switch : (switching true 4320).held = false ∧ (switching true 4320).pwrState = 0 ∧
    (switching true 4320).pwr.queue.head? = some ⟨33, true, 4320, true⟩ ∧ (switching true 4320).chargeFits ((switching true 4320).stageCharge 4320) = true ∧
    4320 ≤ (switching true 4320).stageCharge 4320 ∧ (switching true 30000).chargeFits ((switching true 30000).stageCharge 30000) = true ∧
    (switching true 30000).stageCharge 30000 < 30000 ∧ (switching false 4320).pwr.queue.head? = some ⟨33, false, 4320, true⟩ ∧
    (switching false 4320).chargeFits ((switching false 4320).stageCharge 4320) = true ∧ domainOf R.ETH_CFG.off = some 33 := by decide +kernel
/-- The same, in a window that is spent, with the last step of head 0's ramp to come. -/
def spent (t : Nat) : State :=
  { switching true 4320 with pwr := { (switching true 4320).pwr with charges := [(t, 19200)], rampT := [(41, t)] }
                             time := { (switching true 4320).time with raw := t } }
theorem test_meets_ramps : (spent 0).chargeFits ((spent 0).stageCharge 4320) = false ∧ (spent 0).held = false ∧ (spent 0).pwrState = 0 ∧
    (spent 0).pwr.queue.head? = some ⟨33, true, 4320, true⟩ ∧ (switching true 0).unitOn 41 = true ∧ (switching true 0).chargeFits (runCharge 41 * 15) = true ∧
    (switching true 0).pwr.ramps.look 41 = 15 ∧ (spent 0).chargeFits (runCharge 41 * 15) = false ∧ (switching true 0).unitOn 42 = false ∧
    16 * (spent 0).time.raw < 16 * (spent 0).pwr.rampT.look 41 + 15 * (spent 0).fld F.PWR_CFG_RUN_RAMP_US 0 * 1000 ∧
    16 * 0 + 15 * (switching true 0).fld F.PWR_CFG_RUN_RAMP_US 0 * 1000 ≤ 16 * 18750 := by decide +kernel
theorem test_meets_ramp_end : ({ switching true 0 with time := { (switching true 0).time with raw := 18750 } } : State).chargeFits (runCharge 41 * 15) = true ∧
    16 * (switching true 0).pwr.rampT.look 41 + 15 * (switching true 0).fld F.PWR_CFG_RUN_RAMP_US 0 * 1000 ≤ 16 * 18750 := by decide +kernel

/-! CapAndTemperatureAct -/

/-- A device that draws 250 W under a cap of 200 W. -/
def hungry (step : Nat) : State :=
  let s := dev [(F.PWR_CAP_CAP_W, 0, 200), (F.PWR_STATUS_CAP_STEP, 0, step)]; { s with pwr := { s.pwr with sum := 250000000, samples := 1 } }
/-- A device ten seconds below. -/
def modest : State := let s := dev [(F.PWR_STATUS_CAP_STEP, 0, 3)]; { s with pwr := { s.pwr with below := 9 } }
theorem test_meets_cap : (hungry 2).held = false ∧ 0 < (hungry 2).pwr.samples ∧ (hungry 2).fld F.PWR_CAP_CAP_W 0 * 1000000 < (hungry 2).pwr.sum / (hungry 2).pwr.samples ∧
    (hungry 2).fld F.PWR_CAP_CAP_W 0 ≠ 0 ∧ (hungry 2).fld F.PWR_STATUS_CAP_STEP 0 < 3 ∧ (hungry 3).fld F.PWR_STATUS_CAP_STEP 0 = 3 ∧ modest.held = false ∧
    modest.fld F.PWR_CAP_CAP_W 0 = 0 ∧ modest.on F.PWR_STATUS_TEMP_WARN 0 = false ∧ 9 ≤ modest.pwr.below ∧ modest.fld F.PWR_STATUS_CAP_STEP 0 = 3 ∧
    modest.on F.PWR_STATUS_THERMAL_SHUTDOWN 0 = false ∧ (dev []).pwr.below < 9 ∧ (highestReading [-400] 0).1 = -400 ∧ (highestReading [-400] 0).2 = 0 ∧
    highestReading [250, 1000, 1099, 1099, 300] 0 = (1099, 2) ∧ highestReading [950] 0 = (950, 0) ∧
    highestReading [250, 300, 250, 250, 250, 250, 250, 250, 250, 250, 250, 1100] 0 = (1100, 11) := by decide +kernel

/-! SleepAndPowerCommands -/

/-- A device asleep, with both wakes enabled and timer 15. -/
def asleep : State := dev [(F.PWR_STATUS_STATE, 0, 2), (F.PWR_WAKE_EN_FAB_WAKE, 0, 1), (F.PWR_WAKE_EN_TMR_WAKE, 0, 1), (F.PWR_WAKE_EN_TMR_MASK, 0, 0x8000)]
theorem test_meets_power_commands : (dev []).held = false ∧ (dev []).on F.BIST_STATUS_SAFE 0 = false ∧ (dev []).domHas 94 = true ∧ sleepSet 94 = false ∧
    (dev []).pwrState = 0 ∧ (dev []).domFuture 94 = false ∧ (dev []).domUnused 94 = false ∧ (dev []).twinState ≠ 1 ∧ (dev []).sleepBarred = false ∧
    (dev []).fld F.GUARD_LOCK_LOCK 0 = 0 ∧ (dev []).on F.PWR_WAKE_EN_TMR_WAKE 0 = false ∧ le [10, 100, 1, 15, 0, 0, 50, 0] 6 1 = 50 ∧
    le [10, 100, 1, 15, 0, 0, 50, 0] 0 1 = 10 ∧ le [10, 100, 1, 15, 0, 0, 50, 0] 1 1 = 100 ∧ le [10, 100, 1, 15, 0, 0, 50, 0] 3 1 = 15 := by decide +kernel
theorem test_meets_sleep : asleep.held = false ∧ asleep.pwrState = 2 ∧ asleep.on F.PWR_WAKE_EN_TMR_WAKE 0 = true ∧ asleep.on F.PWR_WAKE_EN_FAB_WAKE 0 = true ∧
    asleep.bitAt F.PWR_WAKE_EN_TMR_MASK 0 15 = true ∧ asleep.bitAt F.PWR_WAKE_EN_TMR_MASK 0 14 = false ∧ asleep.fld F.CH_STATUS_REQ_STATE 32 = 0 ∧
    asleep.on F.CH_STATUS_RSP_READY 32 = false ∧ ((onesAt 96 (le (leBytes 12 1 ++ [1, 0, 0, 0]) 0 12)).any sleepSet) = false ∧
    ((onesAt 96 (le (leBytes 12 1 ++ [1, 0, 0, 0]) 0 12)).any fun d => !asleep.domHas d) = false ∧ zeros (leBytes 12 1 ++ [1, 0, 0, 0]) 13 3 = true := by decide +kernel

/-! WatchdogsAndCoresRestart -/

/-- A device whose watchdog of core 3 has run for an hour, in its window or not, its fault lasting or not. -/
def overdue (win last : Bool) : State :=
  let s := dev [(F.SYS_WDT_EN, 3, 1), (F.SYS_WDT_EN, 2, 0), (F.LOCK_OWNER_OWNER, 63, 36)]
  { s with time := { s.time with raw := 2 ^ 42 }, flt := { s.flt with windows := if win then [(0, 3)] else [] }, sys := { s.sys with lasting := if last then [3] else [] } }
theorem test_meets_watchdogs : (overdue false false).held = false ∧ (overdue false false).wdtDue 3 = true ∧ (overdue false true).wdtDue 3 = true ∧
    (0, 3) ∉ (overdue false false).flt.windows ∧ (0, 3) ∈ (overdue true false).flt.windows ∧ (overdue true false).wdtDue 3 = true ∧
    3 ∉ (overdue true false).sys.lasting ∧ 3 ∈ (overdue false true).sys.lasting ∧ (overdue false false).wdtDue 2 = false ∧
    (overdue false false).fld F.LOCK_OWNER_OWNER 63 = 33 + 3 := by decide +kernel
/-- A device whose pin 31 reports changes. -/
def edged31 (lvl : Nat) : State := dev [(F.GPIO_EDGE_EN_EN, 0, 0x80000000), (F.GPIO_IN_LEVEL, 0, lvl), (F.GPIO_DIR_OUT, 0, 1)]
theorem test_meets_pins : (0xA5A50008 : Word).toNat / 65536 = 0xA5A5 ∧ bitOf (0xA5A50008 : Word).toNat 3 = true ∧ (0x5A5A0008 : Word).toNat / 65536 ≠ 0xA5A5 ∧
    (edged31 0).held = false ∧ (edged31 0).bitAt F.GPIO_DIR_OUT 0 31 = false ∧ (edged31 0).bitAt F.GPIO_IN_LEVEL 0 31 = false ∧
    (edged31 0x80000000).bitAt F.GPIO_IN_LEVEL 0 31 = true ∧ (edged31 0).bitAt F.GPIO_EDGE_EN_EN 0 31 = true ∧
    (edged31 0).bitAt F.GPIO_DIR_OUT 0 0 = true := by decide +kernel

/-! SystemCommandsAnswer -/

theorem test_meets_system_commands : (dev []).held = false ∧ (dev []).twinState ≠ 1 ∧ le [0, 1, 0, 0, 0xA5, 0xA5, 0, 0] 0 1 ≤ 1 ∧
    le [0, 1, 0, 0, 0xA5, 0xA5, 0, 0] 1 1 = 1 ∧ le [0, 1, 0, 0, 0xA5, 0xA5, 0, 0] 2 2 = 0 ∧ le [0, 1, 0, 0, 0xA5, 0xA5, 0, 0] 4 4 = 0xA5A5 ∧
    le [0, 0, 0, 0, 0xB4, 0x03, 0, 0] 4 2 = 948 ∧ le [0, 0, 0, 0, 0xB4, 0x03, 0, 0] 6 2 = 0 ∧ (zeroBytes 960).length ≤ 960 := by decide +kernel

/-! FaultsAreClassedAndCleared -/

/-- A device of the fullest variant with every domain on, and the retry window of engine 0 of block 0x06 open. -/
def inWindow : State := { powered [] with flt := { (powered []).flt with windows := [(6, 0)] } }
theorem test_meets_fault_classes : inWindow.held = false ∧ checkedBlock 6 = true ∧ checkedBlock 5 = false ∧ inWindow.noRetry 6 0 = false ∧
    inWindow.noRetry 6 127 = false ∧ (dev []).noRetry 6 0 = true ∧ (6, 0) ∈ inWindow.flt.windows ∧ (6, 127) ∉ inWindow.flt.windows ∧ 1 < inWindow.nvmePorts ∧
    inWindow.selftest 0x0F = false ∧ inWindow.domOn (77 + 1) = true ∧ inWindow.noRetry 0x0A 0 = false ∧
    inWindow.bitAt F.FUSE_DEBUG_FAULT_INJ 0 inWindow.lifeCycle = true ∧ 1 < inWindow.stacks ∧ 0x8000000000 < inWindow.yardEnd := by decide +kernel
theorem test_meets_fault_clear : inWindow.reaches R.BLK_FAULT 25 := by unfold State.reaches; decide +kernel
theorem test_meets_no_injection : injectBlock 7 0x0C = true ∧ 31 < injectCount 7 0x0C ∧ inWindow.injectHas 7 0x0C 31 = true ∧
    (powered [(F.FUSE_DEBUG_FAULT_INJ, 0, 0)]).bitAt F.FUSE_DEBUG_FAULT_INJ 0 (powered [(F.FUSE_DEBUG_FAULT_INJ, 0, 0)]).lifeCycle = false ∧
    (powered [(F.FUSE_DEBUG_FAULT_INJ, 0, 0)]).injectHas 7 0x0C 31 = true := by decide +kernel

/-! YardErrorsAreRepairedOrRecorded -/

/-- A device with a row that has given errors, and bank 15's spare used or not. -/
def scrubbed (gone : Bool) : State :=
  { powered [(F.HBMC_CFG_CE_ROW_LIM, 0, 2)] with
    flt := { (powered []).flt with ceRuns := [(1, 15, 9, 4, 1)], spares := if gone then [(1, 15)] else [] } }
theorem test_meets_yard_errors : inWindow.held = false ∧ 1 < inWindow.stacks ∧ inWindow.selftest 0x16 = false ∧ inWindow.domOn (79 + 1) = true ∧
    inWindow.flt.repairs = [] ∧ (1, 15) ∉ inWindow.flt.spares ∧ (scrubbed true).held = false ∧ 1 < (scrubbed true).stacks ∧ (1, 15) ∈ (scrubbed true).flt.spares ∧
    (scrubbed true).flt.repairs = [] ∧ (scrubbed false).flt.ceRuns = [(1, 15, 9, 4, 1)] ∧ (scrubbed false).fld F.HBMC_CFG_CE_ROW_LIM 0 ≤ 1 + 1 ∧
    (scrubbed false).spareFree 1 15 = true ∧ inWindow.flt.ceRuns = [] := by decide +kernel
/-- A device with a row under repair. -/
def repairing : State := let s := dev []; { s with flt := { s.flt with repairs := [(0, 3, 7, true)] } }
theorem test_meets_row_repair : repairing.held = false ∧ 0 < repairing.stacks ∧ repairing.flt.repairs = [(0, 3, 7, true)] := by decide +kernel

/-! AStepTakesTheFrontCommand -/

theorem test_meets_step : ({ dev [] with pending := [.timeTick, .timeTick] } : State).pending = [.timeTick, .timeTick] ∧ (dev []).pending = [] := by decide +kernel

/-! EveryCommandCompletesAndRaisesItsVectors -/

theorem test_meets_vectors : ({ dev [(F.MBX_HIST_BAR2_DENY, 0, 0)] with pending := [.bar2WinWrite 63] } : State).vector 0x11 = false ∧
    (dev [(F.MBX_HIST_CFG_REJECTED, 0, 1), (F.MBX_IRQ_EN_EN, 0, 7)]).vector 0x11 = true := by decide +kernel

/-! AHeldDeviceStaysHeld -/

/-- A device whose RESET_N is low, with commands waiting. -/
def pinned (l : List Instr) : State := let s := dev []; { s with pending := l, start := { s.start with pinLow := true } }
theorem test_meets_held : (pinned [.doorbell 0, .tamperEvent 4]).stuckHeld ∧ worksHeld (.doorbell 0) = false := by
  exact ⟨⟨by decide +kernel, by intro c h; simp [pinned] at h; rcases h with rfl | rfl <;> rfl⟩, rfl⟩
theorem test_held_step : ∃ t, step (pinned [.doorbell 0, .tamperEvent 4]) = .next t := ⟨_, rfl⟩

end Sys2Proof.Tests
end

section
/-!
Registers: a field after each of the writes that are made of `setFld`, the bits of a field, and what a command leaves.
-/
namespace Sys2Proof.Machine

/-! ### Bits of a number -/

theorem bitOf_eq_testBit (v i : Nat) : bitOf v i = v.testBit i := by
  rw [Nat.testBit_eq_decide_div_mod_eq, bitOf, beq_eq_decide]

/-- The bits below its width survive a field's cut. -/
theorem bitOf_mod_two_pow {w i : Nat} (v : Nat) (h : i < w) : bitOf (v % 2 ^ w) i = bitOf v i := by
  simp [bitOf_eq_testBit, Nat.testBit_mod_two_pow, h]

@[simp] theorem bitOf_withBit_same (v i : Nat) : bitOf (withBit v i) i = true := by
  unfold withBit
  split
  · assumption
  · rename_i h
    have hv : v / 2 ^ i % 2 = 0 := by simpa [bitOf] using h
    simp [bitOf, Nat.add_div_right]
    omega

@[simp] theorem bitOf_withoutBit_same (v i : Nat) : bitOf (withoutBit v i) i = false := by
  unfold withoutBit
  split
  · rename_i h
    have hv : v / 2 ^ i % 2 = 1 := by simpa [bitOf] using h
    have hs := Nat.sub_mul_div v (2 ^ i) 1
    rw [Nat.mul_one] at hs
    simp only [bitOf, hs, beq_eq_false_iff_ne]
    omega
  · rename_i h
    simpa using h

/-! ### A field after a write (R701) -/

section
variable (b : Block) {f g : Field} {n m : Nat} (h : f.key n ≠ g.key m)
include h

@[simp] theorem Block.fld_set_ne : (b.set g m).fld f n = b.fld f n := b.fld_setFld_ne _ h
@[simp] theorem Block.fld_clr_ne : (b.clr g m).fld f n = b.fld f n := b.fld_setFld_ne _ h
@[simp] theorem Block.fld_setBit_ne (i : Nat) : (b.setBit g m i).fld f n = b.fld f n := b.fld_setFld_ne _ h
@[simp] theorem Block.fld_clrBit_ne (i : Nat) : (b.clrBit g m i).fld f n = b.fld f n := b.fld_setFld_ne _ h
@[simp] theorem Block.fld_setSfld_ne (i : Int) : (b.setSfld g m i).fld f n = b.fld f n := b.fld_setFld_ne _ h
@[simp] theorem Block.fld_bump_ne (k : Nat) : (b.bump g m k).fld f n = b.fld f n := b.fld_setFld_ne _ h

end

@[simp] theorem Block.fld_set_same (b : Block) (f : Field) (n : Nat) : (b.set f n).fld f n = 1 % 2 ^ f.width := b.fld_setFld_same f n 1
@[simp] theorem Block.fld_clr_same (b : Block) (f : Field) (n : Nat) : (b.clr f n).fld f n = 0 := by
  simp [Block.clr]
@[simp] theorem Block.fld_setTo_same (b : Block) (f : Field) (n : Nat) (p : Bool) : (b.setTo f n p).fld f n = bit p % 2 ^ f.width :=
  b.fld_setFld_same f n _

theorem patternOf_lt (w : Nat) (i : Int) : patternOf w i < 2 ^ w := by
  have hp : (0 : Int) < Int.ofNat (2 ^ w) := Int.ofNat_lt.mpr (Nat.two_pow_pos w)
  exact (Int.toNat_lt_of_ne_zero (Nat.two_pow_pos w).ne').mpr (Int.emod_lt_of_pos i hp)

@[simp] theorem Block.fld_setSfld_same (b : Block) (f : Field) (n : Nat) (i : Int) : (b.setSfld f n i).fld f n = patternOf f.width i := by
  rw [Block.setSfld, Block.fld_setFld_same, Nat.mod_eq_of_lt (patternOf_lt _ _)]

/-- A bit set in a field reads one. -/
theorem Block.bitAt_setBit_same (b : Block) {f : Field} {i : Nat} (n : Nat) (h : i < f.width) : (b.setBit f n i).bitAt f n i = true := by
  simp [Block.bitAt, Block.setBit, bitOf_mod_two_pow _ h]

/-- A bit cleared in a field reads zero. -/
theorem Block.bitAt_clrBit_same (b : Block) {f : Field} {i : Nat} (n : Nat) (h : i < f.width) : (b.clrBit f n i).bitAt f n i = false := by
  simp [Block.bitAt, Block.clrBit, bitOf_mod_two_pow _ h]

/-! ### What a command leaves -/

/-- `b'` has the registers of `b`, except at the keys listed. -/
def Block.keeps (b b' : Block) (ks : List Nat) : Prop := ∀ k, k ∉ ks → b'.regs.look k = b.regs.look k

theorem Block.keeps_refl (b : Block) (ks : List Nat) : b.keeps b ks := fun _ _ => rfl

/-- A write at a key listed is one more that may be made. -/
theorem Block.keeps.setFld {b c : Block} {ks : List Nat} {g : Field} {m : Nat} (h : b.keeps c ks) (hk : g.key m ∈ ks) (v : Nat) :
    b.keeps (c.setFld g m v) ks := fun k hn => by
  have hne : k ≠ g.key m := fun e => hn (e ▸ hk)
  rw [c.look_setFld_ne v hne, h k hn]

/-- What shows the same registers keeps the same. -/
theorem Block.keeps.of_regs {b c d : Block} {ks : List Nat} (h : b.keeps c ks) (hr : d.regs = c.regs) : b.keeps d ks := fun k hn => by
  rw [hr, h k hn]

/-- Fields of other keys are kept. -/
theorem Block.keeps.fld {b c : Block} {ks : List Nat} (h : b.keeps c ks) {f : Field} {n : Nat} (hf : f.key n ∉ ks) : c.fld f n = b.fld f n := by
  unfold Block.fld
  rw [h _ hf]

/-- `b'` is `b` but for registers at the keys listed and the record of outputs. -/
def Block.writes (b b' : Block) (ks : List Nat) : Prop := b.keeps b' ks ∧ { b' with regs := b.regs, out := b.out } = b

theorem Block.writes_refl (b : Block) (ks : List Nat) : b.writes b ks := ⟨b.keeps_refl ks, rfl⟩

/-- A write at a key listed is one more that may be made. -/
theorem Block.writes.setFld {b c : Block} {ks : List Nat} {g : Field} {m : Nat} (h : b.writes c ks) (hk : g.key m ∈ ks) (v : Nat) :
    b.writes (c.setFld g m v) ks := ⟨h.1.setFld hk v, h.2⟩

theorem Block.writes.mono {b c : Block} {ks ls : List Nat} (h : b.writes c ks) (hs : ks ⊆ ls) : b.writes c ls :=
  ⟨fun k hk => h.1 k fun hm => hk (hs hm), h.2⟩

/-- What is shown is no write. -/
theorem Block.writes.emit {b c : Block} {ks : List Nat} (h : b.writes c ks) (o : Out) : b.writes (c.emit o) ks := ⟨h.1.of_regs rfl, h.2⟩

/-- An access that reaches its register is a command with the effect of the access. -/
theorem run_reaches {s : State} {r : Reg} {n : Nat} (hs : s.held = false) (hr : s.reaches r n) (read : Bool) (f : Block → Block) :
    run (onReg r n read f) s = .next { s with toBlock := s.effect f } := by
  rw [run_live _ hs]
  simp only [Block.effect, onReg_reaches hr]

/-- The registers that an effect keeps, its command keeps. -/
theorem regsKept_effect {s : State} {f : Block → Block} {ks : List Nat} (h : s.toBlock.keeps (f s.quiet) ks) :
    s.regsKept { s with toBlock := s.effect f } ks := h

/-- A command that writes registers only, at keys listed. -/
theorem onlyRegs_effect {s : State} {f : Block → Block} {ks : List Nat}
    (h : s.quiet.writes (f s.quiet) ks) : s.onlyRegs { s with toBlock := s.effect f } ks := by
  have hr : { f s.quiet with regs := s.regs, out := s.out } = s.toBlock := congrArg (fun b : Block => { b with out := s.out }) h.2
  exact ⟨h.1, congrArg (fun b => ({ s with toBlock := b } : State)) hr⟩

/-- A command that does nothing. -/
theorem onlyRegs_effect_self {s : State} {f : Block → Block} (h : f s.quiet = s.quiet) : s.onlyRegs { s with toBlock := s.effect f } [] :=
  onlyRegs_effect (by rw [h]; exact Block.writes_refl _ _)

/-- What an effect shows is shown by its command. -/
theorem mem_effect_out {b : Block} {f : Block → Block} {o : Out} (h : o ∈ (f b.quiet).out) : o ∈ (b.effect f).out := by
  rw [Block.effect_out]
  exact List.mem_append_left _ h

/-! ### The record of outputs is read by nothing: what a device shows is what it shows with its record empty, and with the vectors added -/

@[simp] theorem Block.quiet_on (b : Block) (g : Field) (n : Nat) : b.quiet.on g n = b.on g n := rfl
@[simp] theorem Block.quiet_loopState (b : Block) : b.quiet.loopState = b.loopState := rfl
@[simp] theorem Block.quiet_selected (b : Block) : b.quiet.selected = b.selected := rfl
@[simp] theorem Block.quiet_synced (b : Block) : b.quiet.synced = b.synced := rfl
@[simp] theorem Block.quiet_tlFrame (b : Block) (k : Nat) : b.quiet.tlFrame k = b.tlFrame k := rfl
@[simp] theorem Block.quiet_fp (b : Block) (j : Nat) : b.quiet.fp j = b.fp j := rfl
@[simp] theorem Block.quiet_fpMis (b : Block) (j n : Nat) : b.quiet.fpMis j n = b.fpMis j n := rfl
@[simp] theorem Block.quiet_historyNext (b : Block) : b.quiet.historyNext = b.historyNext := rfl
@[simp] theorem Block.quiet_tlLine (b : Block) (k : Nat) : b.quiet.tlLine k = b.tlLine k := rfl
@[simp] theorem Block.quiet_tlSample (b : Block) (k : Nat) : b.quiet.tlSample k = b.tlSample k := rfl

@[simp] theorem Block.effect_bitAt (b : Block) (f : Block → Block) (g : Field) (n i : Nat) : (b.effect f).bitAt g n i = (f b.quiet).bitAt g n i := rfl
@[simp] theorem Block.effect_cand (b : Block) (f : Block → Block) (n : Nat) : (b.effect f).cand n = (f b.quiet).cand n := rfl
@[simp] theorem Block.effect_candValid (b : Block) (f : Block → Block) (n : Nat) : (b.effect f).candValid n = (f b.quiet).candValid n := rfl
@[simp] theorem Block.effect_candQualified (b : Block) (f : Block → Block) (n : Nat) : (b.effect f).candQualified n = (f b.quiet).candQualified n := rfl
@[simp] theorem Block.effect_loopState (b : Block) (f : Block → Block) : (b.effect f).loopState = (f b.quiet).loopState := rfl
@[simp] theorem Block.effect_selected (b : Block) (f : Block → Block) : (b.effect f).selected = (f b.quiet).selected := rfl
@[simp] theorem Block.effect_synced (b : Block) (f : Block → Block) : (b.effect f).synced = (f b.quiet).synced := rfl
@[simp] theorem Block.effect_tlFrame (b : Block) (f : Block → Block) (k : Nat) : (b.effect f).tlFrame k = (f b.quiet).tlFrame k := rfl
@[simp] theorem Block.effect_fp (b : Block) (f : Block → Block) (j : Nat) : (b.effect f).fp j = (f b.quiet).fp j := rfl
@[simp] theorem Block.effect_fpOut (b : Block) (f : Block → Block) (j : Nat) : (b.effect f).fpOut j = (f b.quiet).fpOut j := rfl
@[simp] theorem Block.effect_fpMis (b : Block) (f : Block → Block) (j n : Nat) : (b.effect f).fpMis j n = (f b.quiet).fpMis j n := rfl

/-! ### A branch of an effect -/

@[simp] theorem Block.ite_true (b : Block) (f : Block → Block) : b.ite true f = f b := rfl
@[simp] theorem Block.ite_false (b : Block) (f : Block → Block) : b.ite false f = b := rfl

/-- What both ways of a branch have, the branch has. -/
theorem Block.ite_cases {P : Block → Prop} {b : Block} {f : Block → Block} (p : Bool) (hb : P b) (hf : P (f b)) : P (b.ite p f) := by
  cases p
  · exact hb
  · exact hf

/-! ### A word stored field by field (R701) -/

theorem Block.fld_store_same (b : Block) (f : Field) (n v : Nat) : (b.store f n v).fld f n = f.stored v % 2 ^ f.width := b.fld_setFld_same f n _

/-- A field that takes any value stores the bits of the word that are its own. -/
theorem Field.stored_of_any {f : Field} (h : f.clamp = .any) (v : Nat) : f.stored (f.of v) % 2 ^ f.width = v / 2 ^ f.lo % 2 ^ f.width := by
  simp only [Field.stored, h, Field.of, bitsOf, Nat.mod_mod]

/-- A word is stored at the keys of its fields only. -/
theorem Block.writes.storeWord {b c : Block} {ks : List Nat} {fs : List Field} {n : Nat} (h : b.writes c ks) (hk : ∀ f ∈ fs, f.key n ∈ ks) (v : Nat) :
    b.writes (c.storeWord fs n v) ks := by
  induction fs generalizing c with
  | nil => exact h
  | cons f fs ih =>
    have htail : ∀ g ∈ fs, g.key n ∈ ks := fun g hg => hk g (List.mem_cons_of_mem _ hg)
    unfold Block.storeWord
    rw [List.foldl_cons]
    split
    · exact ih (h.setFld (hk f List.mem_cons_self) _) htail
    · exact ih h htail

/-- A word leaves the fields of other keys. -/
theorem Block.fld_storeWord_ne (b : Block) {fs : List Field} {f : Field} {n m : Nat} (h : ∀ g ∈ fs, f.key m ≠ g.key n) (v : Nat) :
    (b.storeWord fs n v).fld f m = b.fld f m := by
  have hw : b.writes (b.storeWord fs n v) (fs.map (·.key n)) := (b.writes_refl _).storeWord (fun g hg => List.mem_map_of_mem hg) v
  refine hw.1.fld fun hm => ?_
  obtain ⟨g, hg, he⟩ := List.mem_map.mp hm
  exact h g hg he.symm

/-- A field that software writes holds what the word gives it. -/
theorem Block.fld_storeWord (b : Block) {fs : List Field} {f : Field} {n : Nat} (hf : f ∈ fs) (ha : f.acc = .rw) (hd : fs.Pairwise (·.key n ≠ ·.key n))
    (v : Nat) : (b.storeWord fs n v).fld f n = f.stored (f.of v) % 2 ^ f.width := by
  induction fs generalizing b with
  | nil => simp at hf
  | cons g fs ih =>
    obtain ⟨hne, hd⟩ := List.pairwise_cons.mp hd
    have hs : b.storeWord (g :: fs) n v = Block.storeWord (if g.acc = .rw ∨ g.acc = .sw then b.store g n (g.of v) else b) fs n v := rfl
    rcases List.mem_cons.mp hf with rfl | hf
    · rw [hs, if_pos (Or.inl ha), Block.fld_storeWord_ne _ hne, Block.fld_store_same]
    · rw [hs, ih _ hf hd]

end Sys2Proof.Machine
end

section
/-!
Candidates and their commands: O1.
-/
namespace Sys2Proof.Machine

/-! ### Candidates (R39 to R42) -/

@[simp] theorem Block.cand_updCand_same (b : Block) (n : Nat) (f : Cand → Cand) : (b.updCand n f).cand n = f (b.cand n) := Bank.look_upd_same _ _ _

/-- An invalid candidate stays as it is. -/
theorem Block.candInvalid_of_invalid {b : Block} {n : Nat} (h : b.candValid n = false) : b.candInvalid n = b := by
  simp [Block.candInvalid, h]

/-- A valid candidate's loss in the registers. -/
theorem Block.candInvalid_regs {b : Block} {n : Nat} (h : b.candValid n = true) : (b.candInvalid n).regs =
    (((b.clrBit F.REFS_STATUS_VALID 0 n).clrBit F.REFS_STATUS_QUALIFIED 0 n).setBit F.REFS_HIST_CAND_LOST 0 n).regs := by
  rw [Block.candInvalid, if_pos h]
  exact Block.ite_cases (P := fun c => c.regs = _) _ rfl rfl

theorem Block.candInvalid_keeps (b : Block) (n : Nat) :
    b.keeps (b.candInvalid n) [F.REFS_STATUS_VALID.key 0, F.REFS_STATUS_QUALIFIED.key 0, F.REFS_HIST_CAND_LOST.key 0] := by
  cases hv : b.candValid n with
  | false => rw [Block.candInvalid_of_invalid hv]; exact b.keeps_refl _
  | true =>
    exact ((((b.keeps_refl _).setFld (by simp) _).setFld (by simp) _).setFld (by simp) _).of_regs (Block.candInvalid_regs hv)

@[simp] theorem Block.candInvalid_time (b : Block) (n : Nat) : (b.candInvalid n).time = b.time := by
  unfold Block.candInvalid
  split
  · exact Block.ite_cases (P := fun c => c.time = _) _ rfl rfl
  · rfl

section
variable {b : Block} {n : Nat} (hn : n < 8)
include hn

theorem Block.candValid_candInvalid : (b.candInvalid n).candValid n = false := by
  cases hv : b.candValid n with
  | false => rw [Block.candInvalid_of_invalid hv, hv]
  | true =>
    have h := Block.bitAt_clrBit_same b (f := F.REFS_STATUS_VALID) 0 (by simpa using hn)
    simpa [Block.candValid, Block.bitAt, Block.fld_congr (Block.candInvalid_regs hv)] using h

variable (hv : b.candValid n = true)
include hv

theorem Block.candQualified_candInvalid : (b.candInvalid n).candQualified n = false := by
  have h := Block.bitAt_clrBit_same (b.clrBit F.REFS_STATUS_VALID 0 n) (f := F.REFS_STATUS_QUALIFIED) 0 (by simpa using hn)
  simpa [Block.candQualified, Block.bitAt, Block.fld_congr (Block.candInvalid_regs hv)] using h

theorem Block.lost_candInvalid : (b.candInvalid n).bitAt F.REFS_HIST_CAND_LOST 0 n = true := by
  rw [Block.bitAt, Block.fld_congr (Block.candInvalid_regs hv)]
  exact Block.bitAt_setBit_same _ (f := F.REFS_HIST_CAND_LOST) 0 (by simpa using hn)

omit hn in
/-- The loss of the selected candidate is kept (R44). -/
theorem Block.lostSel_candInvalid (hs : b.selected = some n) : (b.candInvalid n).refs.lostSel = true := by
  have h : ((((b.clrBit F.REFS_STATUS_VALID 0 n).clrBit F.REFS_STATUS_QUALIFIED 0 n).setBit F.REFS_HIST_CAND_LOST 0 n).selected == some n) = true := by
    simpa [Block.selected, Block.on] using hs
  simp only [Block.candInvalid, if_pos hv, h, Block.ite_true]

end

/-- A candidate that becomes qualified changes its two bits only. -/
theorem Block.writes.candQualify {b c : Block} {ks : List Nat} (h : b.writes c ks) (hq : F.REFS_STATUS_QUALIFIED.key 0 ∈ ks)
    (hh : F.REFS_HIST_CAND_QUAL.key 0 ∈ ks) (n : Nat) : b.writes (c.candQualify n) ks := (h.setFld hq _).setFld hh _

@[simp] theorem Block.candValid_candQualify (b : Block) (m n : Nat) : (b.candQualify m).candValid n = b.candValid n := by
  simp [Block.candValid, Block.bitAt, Block.candQualify]

theorem Block.candQualified_candQualify (b : Block) {n : Nat} (hn : n < 8) : (b.candQualify n).candQualified n = true := by
  simpa [Block.candQualified, Block.bitAt, Block.candQualify] using Block.bitAt_setBit_same b (f := F.REFS_STATUS_QUALIFIED) 0 (by simpa using hn)
theorem Block.qual_candQualify (b : Block) {n : Nat} (hn : n < 8) : (b.candQualify n).bitAt F.REFS_HIST_CAND_QUAL 0 n = true :=
  Block.bitAt_setBit_same _ (f := F.REFS_HIST_CAND_QUAL) 0 (by simpa using hn)

/-! ### The commands of a candidate (R39 to R42) -/

theorem exec_refCandidateWrite (n which : Nat) (v : Word) (s : State) :
    exec (.refCandidateWrite n which v) s = run (onReg (candReg which) n false (refCandidateWrite n which v.toNat)) s := rfl

theorem candidateValid_barred {b : Block} {n cls acc : Nat} {freq : Int} (h : b.candBarred n cls acc freq = true) (sync : Nat) :
    candidateValid n cls acc freq sync b = b.candInvalid n := by
  rw [candidateValid, if_pos h]

/-- The device once it has taken what candidate `n` shows. -/
def Block.candShown (b : Block) (n cls acc : Nat) (freq : Int) (sync : Nat) : Block :=
  b.updCand n fun c => { c with cls := b.candClass n cls, acc := acc, freq := freq, sync := sync }

section
variable {b : Block} {n cls acc : Nat} {freq : Int} (h : b.candBarred n cls acc freq = false) (sync : Nat)
include h

/-- A candidate that stays valid takes what it shows. -/
theorem candidateValid_again (hv : b.candValid n = true) : candidateValid n cls acc freq sync b = b.candShown n cls acc freq sync := by
  have hu : (b.candShown n cls acc freq sync).candValid n = true := hv
  rw [candidateValid, if_neg (by simp [h])]
  exact if_pos hu

/-- One that was not valid becomes so, and is qualified at once where it need not wait. -/
theorem candidateValid_new (hv : b.candValid n = false) : candidateValid n cls acc freq sync b =
    ((b.candShown n cls acc freq sync).setBit F.REFS_STATUS_VALID 0 n).ite (b.fld F.REF_QUAL_WTR n == 0) fun b => b.candQualify n := by
  have hu : ¬(b.candShown n cls acc freq sync).candValid n = true := by
    rw [Bool.not_eq_true]; exact hv
  have hw : ((b.candShown n cls acc freq sync).setBit F.REFS_STATUS_VALID 0 n).fld F.REF_QUAL_WTR n = b.fld F.REF_QUAL_WTR n :=
    Block.fld_setBit_ne _ (by simp; omega) _
  rw [candidateValid, if_neg (by simp [h]), ← hw]
  exact if_neg hu

theorem cand_candidateValid : (candidateValid n cls acc freq sync b).cand n =
    { b.cand n with cls := b.candClass n cls, acc := acc, freq := freq, sync := sync } := by
  have hc : (b.candShown n cls acc freq sync).cand n = { b.cand n with cls := b.candClass n cls, acc := acc, freq := freq, sync := sync } :=
    Block.cand_updCand_same _ _ _
  cases hv : b.candValid n with
  | true => rw [candidateValid_again h sync hv, hc]
  | false =>
    rw [candidateValid_new h sync hv]
    exact Block.ite_cases (P := fun c => c.cand n = _) _ hc hc

theorem candValid_candidateValid (hn : n < 8) : (candidateValid n cls acc freq sync b).candValid n = true := by
  cases hv : b.candValid n with
  | true => rw [candidateValid_again h sync hv]; exact hv
  | false =>
    rw [candidateValid_new h sync hv]
    have hs := Block.bitAt_setBit_same (b.candShown n cls acc freq sync) (f := F.REFS_STATUS_VALID) 0 (by simpa using hn)
    exact Block.ite_cases (P := fun c => c.candValid n = true) _ hs ((Block.candValid_candQualify _ _ _).trans hs)

/-- A candidate that has to wait is no more qualified than before. -/
theorem candQualified_candidateValid (hw : b.fld F.REF_QUAL_WTR n ≠ 0) :
    (candidateValid n cls acc freq sync b).candQualified n = b.candQualified n := by
  cases hv : b.candValid n with
  | true => rw [candidateValid_again h sync hv]; rfl
  | false =>
    rw [candidateValid_new h sync hv, beq_false_of_ne hw, Block.ite_false]
    simp [Block.candQualified, Block.bitAt, Block.candShown]

/-- A new candidate that need not wait is qualified at once (R41). -/
theorem candidateValid_at_once (hv : b.candValid n = false) (hw : b.fld F.REF_QUAL_WTR n = 0) :
    candidateValid n cls acc freq sync b = ((b.candShown n cls acc freq sync).setBit F.REFS_STATUS_VALID 0 n).candQualify n := by
  rw [candidateValid_new h sync hv, hw, beq_self_eq_true, Block.ite_true]

end

theorem candidateQualified_waited {b : Block} {n : Nat} (hv : b.candValid n = true) (hq : b.candQualified n = false) :
    candidateQualified n b = b.candQualify n := by
  simp [candidateQualified, hv, hq]

theorem candidateQualified_self {b : Block} {n : Nat} (h : b.candValid n = false ∨ b.candQualified n = true) : candidateQualified n b = b := by
  rcases h with h | h <;> simp [candidateQualified, h]

/-- `REF_CFG` keeps `KIND` where the slot's kind is fixed (R35). -/
theorem kind_notMem_refCfgFields {n : Nat} (h : n ≤ 3) : ∀ g ∈ refCfgFields n 0, F.REF_CFG_KIND.key n ≠ g.key n := by
  simp [refCfgFields, h]

theorem refCfgFields_nodup (n which : Nat) : (refCfgFields n which).Pairwise (·.key n ≠ ·.key n) := by
  unfold refCfgFields
  split
  · split <;> simp
  · simp
  · simp

section
variable {b : Block} {n which : Nat} {f : Field} (hf : f ∈ refCfgFields n which) (ha : f.acc = .rw) (hc : f.clamp = .any) (v : Nat)
include hf ha hc

/-- A field of a candidate's registers holds its bits of the word written. -/
theorem fld_refCandidateWrite : (refCandidateWrite n which v b).fld f n = v / 2 ^ f.lo % 2 ^ f.width := by
  rw [refCandidateWrite, Block.fld_storeWord _ hf ha (refCfgFields_nodup n which), Field.stored_of_any hc]

end

/-- The registers of a candidate are none of the loop's. -/
theorem refs_notMem_refCfgFields {n which k : Nat} (h : k < F.REF_CFG_PRIO.key 0) : ∀ g ∈ refCfgFields n which, k ≠ g.key n := by
  rw [F.REF_CFG_PRIO_key] at h
  unfold refCfgFields
  split
  · split <;> simp <;> omega
  · simp; omega
  · simp; omega

/-- Beside its own fields, a write of a candidate's registers is the candidate's loss. -/
theorem fld_refCandidateWrite_ne (b : Block) {n which : Nat} {f : Field} {m : Nat} (h : ∀ g ∈ refCfgFields n which, f.key m ≠ g.key n) (v : Nat) :
    (refCandidateWrite n which v b).fld f m = (b.candInvalid n).fld f m := Block.fld_storeWord_ne _ h v

/-- A write that reaches a candidate's register makes it invalid, and stores its fields (R42). -/
theorem exec_refCandidateWrite_reaches {s : State} {n which : Nat} (hs : s.held = false) (hn : n < 8) (hr : s.reaches (candReg which) n) (v : Word) :
    ∃ t, exec (.refCandidateWrite n which v) s = .next t ∧ t.candValid n = false ∧
      (s.candValid n = true → t.bitAt F.REFS_HIST_CAND_LOST 0 n = true) ∧
      (∀ f ∈ refCfgFields n which, f.acc = .rw → f.clamp = .any → t.fld f n = v.toNat / 2 ^ f.lo % 2 ^ f.width) ∧
      ∀ f : Field, f.key n ∉ [F.REFS_STATUS_VALID.key 0, F.REFS_STATUS_QUALIFIED.key 0, F.REFS_HIST_CAND_LOST.key 0] →
        (∀ g ∈ refCfgFields n which, f.key n ≠ g.key n) → t.fld f n = s.fld f n := by
  refine ⟨_, (exec_refCandidateWrite n which v s).trans (run_reaches hs hr _ _), ?_, fun hv => ?_, fun f hf ha hc => ?_, fun f hk hf => ?_⟩
  · rw [Block.effect_candValid, Block.candValid, Block.bitAt, fld_refCandidateWrite_ne _ (refs_notMem_refCfgFields (by simp))]
    exact Block.candValid_candInvalid hn
  · rw [Block.effect_bitAt, Block.bitAt, fld_refCandidateWrite_ne _ (refs_notMem_refCfgFields (by simp))]
    exact Block.lost_candInvalid (b := s.quiet) hn hv
  · rw [Block.effect_fld, fld_refCandidateWrite hf ha hc]
  · rw [Block.effect_fld, fld_refCandidateWrite_ne _ hf, (Block.candInvalid_keeps _ n).fld hk, Block.quiet_fld]

/-- Settles O1: a loss is `candInvalid`, a showing is `candInvalid` or `candShown` with what makes a new candidate valid, the end of a wait is
`candQualify`, and the three writes are one lemma, `exec_refCandidateWrite_reaches`. -/
theorem candidatesTurnValidAndInvalid : Obligations.CandidatesTurnValidAndInvalid := by
  intro s n hs hn
  refine ⟨fun hv => ?_, fun hv => ?_, fun cls acc freq sync hb => ?_, fun cls acc freq sync hb => ?_, fun hv hq => ?_, fun h => ?_,
    fun v hr => ?_, fun v hr => ?_, fun v hr => ?_⟩
  · exact ⟨_, run_live _ hs, Block.candValid_candInvalid hn, Block.candQualified_candInvalid hn hv, Block.lost_candInvalid hn hv,
      fun h => Block.lostSel_candInvalid hv h, regsKept_effect (Block.candInvalid_keeps _ n)⟩
  · exact ⟨_, run_live _ hs, onlyRegs_effect_self (Block.candInvalid_of_invalid hv)⟩
  · refine ⟨_, run_live _ hs, candValid_candidateValid (b := s.quiet) hb sync hn, ?_, fun hv => ?_, fun hv hw => ?_, ?_⟩
    · exact cand_candidateValid (b := s.quiet) hb sync
    · refine regsKept_effect ?_
      rw [candidateValid_again (b := s.quiet) hb sync hv]
      exact Block.keeps_refl _ _
    · simp only [Block.effect_candQualified, Block.effect_bitAt, candidateValid_at_once (b := s.quiet) hb sync hv hw]
      exact ⟨Block.candQualified_candQualify _ hn, Block.qual_candQualify _ hn⟩
    · exact candQualified_candidateValid (b := s.quiet) hb sync
  · have he : candidateValid n cls acc freq sync s.quiet = s.quiet.candInvalid n := candidateValid_barred (b := s.quiet) hb sync
    refine ⟨_, run_live _ hs, ?_, fun hv => ?_, fun hv => onlyRegs_effect_self (he.trans (Block.candInvalid_of_invalid hv))⟩
    · rw [Block.effect_candValid, he, Block.candValid_candInvalid hn]
    · rw [Block.effect_candQualified, Block.effect_bitAt, he]
      exact ⟨Block.candQualified_candInvalid hn hv, Block.lost_candInvalid hn hv⟩
  · have he : candidateQualified n s.quiet = s.quiet.candQualify n := candidateQualified_waited (b := s.quiet) hv hq
    refine ⟨_, run_live _ hs, ?_, ?_, onlyRegs_effect ?_⟩
    · rw [Block.effect_candQualified, he, Block.candQualified_candQualify _ hn]
    · rw [Block.effect_bitAt, he, Block.qual_candQualify _ hn]
    · rw [he]
      exact (Block.writes_refl _ _).candQualify (by simp) (by simp) n
  · exact ⟨_, run_live _ hs, onlyRegs_effect_self (candidateQualified_self h)⟩
  · obtain ⟨t, he, hv, hl, hf, -⟩ := exec_refCandidateWrite_reaches (which := 2) hs hn hr v
    refine ⟨t, he, hv, ?_, hl⟩
    simpa [F.REF_COMP_COMP] using hf F.REF_COMP_COMP (List.mem_singleton_self _) rfl rfl
  · obtain ⟨t, he, hv, -, hf, -⟩ := exec_refCandidateWrite_reaches (which := 1) hs hn hr v
    refine ⟨t, he, hv, ?_, ?_, ?_⟩
    · simpa [F.REF_QUAL_WTR] using hf F.REF_QUAL_WTR (by simp [refCfgFields]) rfl rfl
    · exact hf F.REF_QUAL_QL_MAX_CLASS (by simp [refCfgFields]) rfl rfl
    · exact hf F.REF_QUAL_ACC_MAX (by simp [refCfgFields]) rfl rfl
  · obtain ⟨t, he, hv, -, hf, hk⟩ := exec_refCandidateWrite_reaches (which := 0) hs hn hr v
    refine ⟨t, he, hv, ?_, fun h => ?_, fun h => ?_⟩
    · simpa [F.REF_CFG_PRIO] using hf F.REF_CFG_PRIO (by simp [refCfgFields]) rfl rfl
    · exact hk F.REF_CFG_KIND (by simp; omega) (kind_notMem_refCfgFields h)
    · exact hf F.REF_CFG_KIND (by simp [refCfgFields, Nat.not_le.mpr h]) rfl rfl

end Sys2Proof.Machine
end

section
/-!
The loop's own operations, and what it selects: O2.
-/
namespace Sys2Proof.Machine

/-! ### Rate and phase correction (R104, R105) -/

@[simp] theorem Block.steer_time (b : Block) (ask : Int) : (b.steer ask).time = { b.time with rate := clampInt (-rateLimit) rateLimit ask } :=
  Block.ite_cases (P := fun c => c.time = _) _ rfl rfl
@[simp] theorem Block.steer_refs (b : Block) (ask : Int) : (b.steer ask).refs = b.refs := Block.ite_cases (P := fun c => c.refs = _) _ rfl rfl
@[simp] theorem Block.fld_steer_ne (b : Block) {f : Field} {n : Nat} (h : f.key n ≠ F.TIME_HIST_LIMIT_HIT.key 0) (ask : Int) :
    (b.steer ask).fld f n = b.fld f n := Block.ite_cases (P := fun c => c.fld f n = _) _ rfl (Block.fld_set_ne _ h)

theorem Block.keeps.steer {b c : Block} {ks : List Nat} (h : b.keeps c ks) (hk : F.TIME_HIST_LIMIT_HIT.key 0 ∈ ks) (ask : Int) :
    b.keeps (c.steer ask) ks := Block.ite_cases (P := fun d => b.keeps d ks) _ (h.of_regs rfl) ((h.of_regs rfl).setFld hk _)

@[simp] theorem Block.clearAdj_time (b : Block) : b.clearAdj.time = { b.time with adj := 0, adjDue := false } := rfl
@[simp] theorem Block.clearAdj_refs (b : Block) : b.clearAdj.refs = b.refs := rfl
@[simp] theorem Block.clearAdj_fld (b : Block) (f : Field) (n : Nat) : b.clearAdj.fld f n = b.fld f n := rfl
@[simp] theorem Block.addAdj_now (b : Block) (p : Int) : (b.addAdj p).time.now = b.time.now := rfl
@[simp] theorem Block.addAdj_rate (b : Block) (p : Int) : (b.addAdj p).time.rate = b.time.rate := rfl
@[simp] theorem Block.addAdj_refs (b : Block) (p : Int) : (b.addAdj p).refs = b.refs := rfl
@[simp] theorem Block.addAdj_fld (b : Block) (p : Int) (f : Field) (n : Nat) : (b.addAdj p).fld f n = b.fld f n := rfl

@[simp] theorem clampInt_rateLimit_zero : clampInt (-rateLimit) rateLimit 0 = 0 := by decide

/-! ### The loop's state and bandwidth (R51, R65) -/

/-- The flags of the loop: a first set that waits, the loss of the selected candidate, a pull under way. -/
def Block.loopFlags (b : Block) (first lost pull : Bool) : Block := { b with refs := { b.refs with firstSet := first, lostSel := lost, pull := pull } }

@[simp] theorem Block.loopFlags_time (b : Block) (x y z : Bool) : (b.loopFlags x y z).time = b.time := rfl
@[simp] theorem Block.loopFlags_refs (b : Block) (x y z : Bool) :
    (b.loopFlags x y z).refs = { b.refs with firstSet := x, lostSel := y, pull := z } := rfl
@[simp] theorem Block.loopFlags_fld (b : Block) (x y z : Bool) (f : Field) (n : Nat) : (b.loopFlags x y z).fld f n = b.fld f n := rfl

/-- The device once an exit from `LOCKED` is recorded. -/
def Block.unlocked (b : Block) (st : Nat) : Block := b.ite (b.loopState == 2 && st != 2) fun b => b.set F.REFS_HIST_LOCK_LOST 0

theorem Block.toLoop_eq (b : Block) (st : Nat) : b.toLoop st = (b.unlocked st).setFld F.REFS_STATUS_STATE 0 st := rfl

@[simp] theorem Block.unlocked_time (b : Block) (st : Nat) : (b.unlocked st).time = b.time := Block.ite_cases (P := fun c => c.time = _) _ rfl rfl
@[simp] theorem Block.unlocked_refs (b : Block) (st : Nat) : (b.unlocked st).refs = b.refs := Block.ite_cases (P := fun c => c.refs = _) _ rfl rfl
@[simp] theorem Block.toLoop_time (b : Block) (st : Nat) : (b.toLoop st).time = b.time := b.unlocked_time st
@[simp] theorem Block.toLoop_refs (b : Block) (st : Nat) : (b.toLoop st).refs = b.refs := b.unlocked_refs st
@[simp] theorem Block.loopState_toLoop (b : Block) (st : Nat) : (b.toLoop st).loopState = st % 2 ^ 3 := Block.fld_setFld_same _ _ _ _

@[simp] theorem Block.fld_toLoop_ne (b : Block) {f : Field} {n : Nat} (h : f.key n ≠ F.REFS_STATUS_STATE.key 0)
    (h' : f.key n ≠ F.REFS_HIST_LOCK_LOST.key 0) (st : Nat) : (b.toLoop st).fld f n = b.fld f n := by
  rw [Block.toLoop_eq, Block.fld_setFld_ne _ _ h]
  exact Block.ite_cases (P := fun c => c.fld f n = _) _ rfl (Block.fld_set_ne _ h')

/-- An exit from `LOCKED` sets `LOCK_LOST` (R65). -/
theorem Block.lockLost_toLoop {b : Block} {st : Nat} (h : b.loopState = 2) (hs : st ≠ 2) : (b.toLoop st).fld F.REFS_HIST_LOCK_LOST 0 = 1 := by
  rw [Block.toLoop_eq, Block.fld_setFld_ne _ _ (by simp), Block.unlocked, h, bne_iff_ne.mpr hs]
  simp

theorem Block.keeps.toLoop {b c : Block} {ks : List Nat} (h : b.keeps c ks) (hl : F.REFS_HIST_LOCK_LOST.key 0 ∈ ks)
    (hs : F.REFS_STATUS_STATE.key 0 ∈ ks) (st : Nat) : b.keeps (c.toLoop st) ks := by
  rw [Block.toLoop_eq]
  exact Block.keeps.setFld (Block.ite_cases (P := fun d => b.keeps d ks) _ h (h.setFld hl _)) hs _

@[simp] theorem Block.setBw_time (b : Block) (n c : Nat) : (b.setBw n c).time = b.time := Block.ite_cases (P := fun c => c.time = _) _ rfl rfl
@[simp] theorem Block.setBw_refs (b : Block) (n c : Nat) : (b.setBw n c).refs = b.refs := Block.ite_cases (P := fun c => c.refs = _) _ rfl rfl
@[simp] theorem Block.fld_setBw_ne (b : Block) {f : Field} {m : Nat} (h : f.key m ≠ F.REFS_STATUS_BW_NOW.key 0)
    (h' : f.key m ≠ F.REFS_HIST_BW_CLAMPED.key 0) (n c : Nat) : (b.setBw n c).fld f m = b.fld f m :=
  Block.ite_cases (P := fun c => c.fld f m = _) _ (Block.fld_setFld_ne _ _ h) (by rw [Block.fld_set_ne _ h', Block.fld_setFld_ne _ _ h])
@[simp] theorem Block.loopState_setBw (b : Block) (n c : Nat) : (b.setBw n c).loopState = b.loopState :=
  Block.fld_setBw_ne _ (by simp) (by simp) _ _

/-- The bandwidth in use is no wider than the candidate allows (R51). -/
theorem Block.bwNow_setBw_le (b : Block) (n c : Nat) : (b.setBw n c).fld F.REFS_STATUS_BW_NOW 0 ≤ b.bwWidest n := by
  have h : min c (b.bwWidest n) % 2 ^ 4 ≤ b.bwWidest n := (Nat.mod_le _ _).trans (Nat.min_le_right _ _)
  refine Block.ite_cases (P := fun c => c.fld F.REFS_STATUS_BW_NOW 0 ≤ _) _ ?_ ?_
  · rw [Block.fld_setFld_same]; exact h
  · rw [Block.fld_set_ne _ (by simp), Block.fld_setFld_same]; exact h

/-- The bandwidth that a candidate allows is read from its registers and what it shows: a write below the candidates' registers leaves it. -/
theorem Block.keeps.bwWidest {b c : Block} {ks : List Nat} (h : b.keeps c ks) (hk : ∀ k ∈ ks, k < F.REF_CFG_PRIO.key 0)
    (hc : c.refs.cands = b.refs.cands) (n : Nat) : c.bwWidest n = b.bwWidest n := by
  have hf : ∀ f : Field, F.REF_CFG_PRIO.key 0 ≤ f.key n → c.fld f n = b.fld f n := fun f hf =>
    h.fld fun hm => absurd (hk _ hm) (Nat.not_lt.mpr hf)
  simp only [Block.bwWidest, Block.candKind, Block.cand, hc, hf F.REF_CFG_KIND (by simp; omega), hf F.REF_CFG_RASTER (by simp; omega),
    hf F.REF_CFG_RATE (by simp; omega)]

/-- A loop that follows no candidate keeps its bandwidth. -/
theorem Block.bwSettle_idle {b : Block} (h : b.loopState = 0 ∨ b.loopState = 4) : b.bwSettle = b := by
  unfold Block.loopState at h
  unfold Block.bwSettle
  rw [if_neg (by omega), if_neg (by omega)]

/-! ### A candidate is taken on (R56, R57, R64) -/

/-- The device with candidate `n` selected, at its frequency. -/
def Block.selecting (b : Block) (n : Nat) : Block :=
  ((((b.setFld F.REFS_STATUS_SEL 0 n).set F.REFS_STATUS_SEL_VALID 0).clr F.REFS_STATUS_HO_EXPIRED 0).steer (b.cand n).freq).clearAdj

@[simp] theorem Block.selecting_refs (b : Block) (n : Nat) : (b.selecting n).refs = b.refs := by simp [Block.selecting]
@[simp] theorem Block.selecting_now (b : Block) (n : Nat) : (b.selecting n).time.now = b.time.now := by simp [Block.selecting]
@[simp] theorem Block.selecting_rate (b : Block) (n : Nat) :
    (b.selecting n).time.rate = clampInt (-rateLimit) rateLimit (b.cand n).freq := by simp [Block.selecting]
@[simp] theorem Block.selecting_synced (b : Block) (n : Nat) : (b.selecting n).synced = b.synced := by
  simp [Block.selecting, Block.synced, Block.on, Block.fld_setFld_ne]

theorem Block.selecting_selected (b : Block) {n : Nat} (hn : n < 8) :
    (b.selecting n).fld F.REFS_STATUS_SEL_VALID 0 = 1 ∧ (b.selecting n).fld F.REFS_STATUS_SEL 0 = n := by
  simp [Block.selecting, Nat.mod_eq_of_lt hn]

/-- The keys that the loop's moves from one candidate or state to another write, bandwidth apart. -/
def loopKeys : List Nat :=
  [F.REFS_STATUS_SEL.key 0, F.REFS_STATUS_SEL_VALID.key 0, F.REFS_STATUS_HO_EXPIRED.key 0, F.REFS_STATUS_STATE.key 0, F.REFS_HIST_SWITCHED.key 0,
    F.REFS_HIST_LOCK_LOST.key 0, F.REFS_HIST_HO_ENTERED.key 0, F.HIST_FREQ_FREQ.key 0, F.HO_ELAPSED_SECONDS.key 0, F.TIME_HIST_LIMIT_HIT.key 0]

theorem loopKeys_lt : ∀ k ∈ loopKeys, k < F.REF_CFG_PRIO.key 0 := by simp [loopKeys]

theorem Block.selecting_keeps (b : Block) (n : Nat) : b.keeps (b.selecting n) loopKeys :=
  have h := ((b.keeps_refl loopKeys).setFld (g := F.REFS_STATUS_SEL) (m := 0) (by simp [loopKeys]) n).setFld (g := F.REFS_STATUS_SEL_VALID) (m := 0)
    (by simp [loopKeys]) 1
  ((h.setFld (g := F.REFS_STATUS_HO_EXPIRED) (m := 0) (by simp [loopKeys]) 0).steer (by simp [loopKeys]) _).of_regs rfl

/-- From a loop that runs, or with device time synchronised, it is a switch and a pull. -/
theorem Block.follow_pulls {b : Block} (h : b.synced = true ∨ 1 ≤ b.loopState ∧ b.loopState ≤ 3) (n : Nat) : ∃ p f l c,
    b.follow n = ((((((b.selecting n).set F.REFS_HIST_SWITCHED 0).addAdj p).loopFlags f l true).toLoop 3).setBw n c) := by
  refine ⟨_, _, _, _, if_pos ?_⟩
  exact h.imp_left (b.selecting_synced n).trans

/-- From free run or holdover, unsynchronised, device time waits for its first set. -/
theorem Block.follow_acquires {b : Block} (hs : b.synced = false) (hl : b.loopState = 0 ∨ b.loopState = 4) (n : Nat) : ∃ l c,
    b.follow n = (((b.selecting n).loopFlags true l false).toLoop 1).setBw n c := by
  refine ⟨_, _, if_neg ?_⟩
  have := b.selecting_synced n
  rintro (h | h)
  · exact absurd (this.symm.trans h) (by simp [hs])
  · omega

theorem Block.selected_eq_some {b : Block} {n : Nat} (hv : b.fld F.REFS_STATUS_SEL_VALID 0 = 1) (hs : b.fld F.REFS_STATUS_SEL 0 = n) :
    b.selected = some n := by
  simp [Block.selected, Block.on, hv, hs]

theorem Block.selected_eq_none {b : Block} (hv : b.fld F.REFS_STATUS_SEL_VALID 0 = 0) : b.selected = none := by
  simp [Block.selected, Block.on, hv]

section
variable {b : Block} {n : Nat} (hn : n < 8)
include hn

/-- A switch to a candidate: the loop pulls to it (R46, R56). -/
theorem Block.follow_running (h : b.synced = true ∨ 1 ≤ b.loopState ∧ b.loopState ≤ 3) :
    (b.follow n).loopState = 3 ∧ (b.follow n).selected = some n ∧ (b.follow n).fld F.REFS_HIST_SWITCHED 0 = 1 ∧
      (b.follow n).time.now = b.time.now ∧ (b.follow n).fld F.REFS_STATUS_BW_NOW 0 ≤ b.bwWidest n ∧
      (b.loopState = 2 → (b.follow n).fld F.REFS_HIST_LOCK_LOST 0 = 1) := by
  obtain ⟨p, f, l, c, he⟩ := Block.follow_pulls h n
  obtain ⟨hv, hs⟩ := b.selecting_selected hn
  rw [he]
  refine ⟨by simp, Block.selected_eq_some (by simp [hv]) (by simp [hs]), by simp, by simp, ?_, fun hl => ?_⟩
  · have hk : b.keeps ((b.selecting n).set F.REFS_HIST_SWITCHED 0) loopKeys := (b.selecting_keeps n).setFld (by simp [loopKeys]) _
    have ht := (Block.keeps.of_regs (d := (((b.selecting n).set F.REFS_HIST_SWITCHED 0).addAdj p).loopFlags f l true) hk rfl).toLoop
      (by simp [loopKeys]) (by simp [loopKeys]) 3
    exact (Block.bwNow_setBw_le _ _ _).trans_eq (ht.bwWidest loopKeys_lt (by simp) n)
  · rw [Block.fld_setBw_ne _ (by simp) (by simp)]
    exact Block.lockLost_toLoop (by simpa [Block.loopState, Block.selecting, Block.fld_setFld_ne] using hl) (by decide)

/-- A first candidate, with device time unsynchronised: the loop acquires it, and the first set waits (R57, R64). -/
theorem Block.follow_idle (hs : b.synced = false) (hl : b.loopState = 0 ∨ b.loopState = 4) :
    (b.follow n).loopState = 1 ∧ (b.follow n).selected = some n ∧ (b.follow n).refs.firstSet = true ∧
      (b.follow n).time.now = b.time.now ∧ (b.follow n).fld F.REFS_STATUS_BW_NOW 0 ≤ b.bwWidest n ∧
      (b.follow n).time.rate = clampInt (-rateLimit) rateLimit (b.cand n).freq := by
  obtain ⟨l, c, he⟩ := Block.follow_acquires hs hl n
  obtain ⟨hv, hs⟩ := b.selecting_selected hn
  rw [he]
  refine ⟨by simp, Block.selected_eq_some (by simp [hv]) (by simp [hs]), by simp, by simp, ?_, by simp⟩
  have ht := (Block.keeps.of_regs (d := (b.selecting n).loopFlags true l false) (b.selecting_keeps n) rfl).toLoop
    (by simp [loopKeys]) (by simp [loopKeys]) 1
  exact (Block.bwNow_setBw_le _ _ _).trans_eq (ht.bwWidest loopKeys_lt (by simp) n)

end

/-! ### Holdover and free run (R61, R64) -/

/-- The device with no candidate selected and no correction under way. -/
def Block.deselecting (b : Block) : Block := ((b.clr F.REFS_STATUS_SEL_VALID 0).loopFlags false false false).clearAdj

/-- Holdover at the history value: the frequency of `HIST_GUARD` seconds before. -/
def Block.historyFreq (b : Block) : Int := (b.refs.hist[b.fld F.HO_HIST_CFG_HIST_GUARD 0]?).getD 0

/-- A holdover that is entered anew counts its seconds from zero (R62). -/
def Block.restarted (b : Block) (was : Nat) : Block := b.ite (was != 4) fun b => (b.clr F.HO_ELAPSED_SECONDS 0).clr F.REFS_STATUS_HO_EXPIRED 0

@[simp] theorem Block.restarted_time (b : Block) (was : Nat) : (b.restarted was).time = b.time := Block.ite_cases (P := fun c => c.time = _) _ rfl rfl
@[simp] theorem Block.fld_restarted_ne (b : Block) {f : Field} {n : Nat} (h : f.key n ≠ F.HO_ELAPSED_SECONDS.key 0)
    (h' : f.key n ≠ F.REFS_STATUS_HO_EXPIRED.key 0) (was : Nat) : (b.restarted was).fld f n = b.fld f n :=
  Block.ite_cases (P := fun c => c.fld f n = _) _ rfl (by rw [Block.fld_clr_ne _ h', Block.fld_clr_ne _ h])

theorem Block.keeps.restarted {b c : Block} (h : b.keeps c loopKeys) (was : Nat) : b.keeps (c.restarted was) loopKeys :=
  Block.ite_cases (P := fun d => b.keeps d loopKeys) _ h ((h.setFld (by simp [loopKeys]) _).setFld (by simp [loopKeys]) _)

theorem Block.elapsed_restarted (b : Block) {was : Nat} (h : was ≠ 4) : (b.restarted was).fld F.HO_ELAPSED_SECONDS 0 = 0 := by
  simp [Block.restarted, bne_iff_ne.mpr h]

/-- With a valid history, holdover at its frequency. -/
theorem Block.enterHoldover_valid {b : Block} (h : b.refs.histOk = true) : b.enterHoldover =
    ((((b.set F.REFS_HIST_HO_ENTERED 0).deselecting.steer b.historyFreq).setSfld F.HIST_FREQ_FREQ 0 (freqReg b.historyFreq)).restarted
      b.loopState).toLoop 4 := by
  have hg : (b.set F.REFS_HIST_HO_ENTERED 0).deselecting.fld F.HO_HIST_CFG_HIST_GUARD 0 = b.fld F.HO_HIST_CFG_HIST_GUARD 0 := by
    simp [Block.deselecting]
  rw [Block.historyFreq, ← hg]
  exact if_pos h

/-- Without one, free run at the nominal frequency. -/
theorem Block.enterHoldover_invalid {b : Block} (h : b.refs.histOk = false) :
    b.enterHoldover = (((b.set F.REFS_HIST_HO_ENTERED 0).deselecting.steer 0).clr F.REFS_STATUS_HO_EXPIRED 0).toLoop 0 :=
  if_neg (Bool.not_eq_true _ ▸ h)

theorem Block.keeps.deselecting {b c : Block} (h : b.keeps c loopKeys) : b.keeps c.deselecting loopKeys :=
  Block.keeps.of_regs (c := c.clr F.REFS_STATUS_SEL_VALID 0) (h.setFld (by simp [loopKeys]) _) rfl

/-- What holdover and free run by loss leave: the state, nothing selected, the rate (R61). -/
theorem Block.enterHoldover_state (b : Block) :
    b.enterHoldover.loopState = (if b.refs.histOk then 4 else 0) ∧ b.enterHoldover.selected = none ∧
      b.enterHoldover.fld F.REFS_HIST_HO_ENTERED 0 = 1 ∧ b.enterHoldover.time.adj = 0 ∧
      b.enterHoldover.time.rate = (if b.refs.histOk then clampInt (-rateLimit) rateLimit b.historyFreq else 0) ∧
      (b.loopState = 2 → b.enterHoldover.fld F.REFS_HIST_LOCK_LOST 0 = 1) := by
  cases h : b.refs.histOk with
  | true =>
    rw [Block.enterHoldover_valid h]
    refine ⟨by simp, Block.selected_eq_none (by simp [Block.deselecting]), by simp [Block.deselecting], by simp [Block.deselecting],
      by simp [Block.deselecting], fun hl => ?_⟩
    exact Block.lockLost_toLoop (by simpa [Block.loopState, Block.deselecting] using hl) (by decide)
  | false =>
    rw [Block.enterHoldover_invalid h]
    refine ⟨by simp, Block.selected_eq_none (by simp [Block.deselecting]), by simp [Block.deselecting], by simp [Block.deselecting],
      by simp [Block.deselecting], fun hl => ?_⟩
    exact Block.lockLost_toLoop (by simpa [Block.loopState, Block.deselecting] using hl) (by decide)

/-- A holdover entered from another state counts from zero. -/
theorem Block.elapsed_enterHoldover {b : Block} (h : b.refs.histOk = true) (hl : b.loopState ≠ 4) :
    b.enterHoldover.fld F.HO_ELAPSED_SECONDS 0 = 0 := by
  rw [Block.enterHoldover_valid h, Block.fld_toLoop_ne _ (by simp) (by simp), Block.elapsed_restarted _ hl]

theorem Block.enterHoldover_keeps (b : Block) : b.keeps b.enterHoldover loopKeys := by
  have hd : b.keeps (b.set F.REFS_HIST_HO_ENTERED 0).deselecting loopKeys := ((b.keeps_refl _).setFld (by simp [loopKeys]) _).deselecting
  cases h : b.refs.histOk with
  | true =>
    rw [Block.enterHoldover_valid h]
    exact (((hd.steer (by simp [loopKeys]) _).setFld (by simp [loopKeys]) _).restarted _).toLoop (by simp [loopKeys]) (by simp [loopKeys]) 4
  | false =>
    rw [Block.enterHoldover_invalid h]
    exact ((hd.steer (by simp [loopKeys]) _).setFld (by simp [loopKeys]) _).toLoop (by simp [loopKeys]) (by simp [loopKeys]) 0

/-- Free run at the nominal frequency (R48, R64). -/
theorem Block.enterFreerun_eq (b : Block) : b.enterFreerun =
    ((((b.clr F.REFS_STATUS_SEL_VALID 0).clr F.REFS_STATUS_HO_EXPIRED 0).loopFlags false false false).clearAdj.steer 0).toLoop 0 := rfl

theorem Block.enterFreerun_state (b : Block) :
    b.enterFreerun.loopState = 0 ∧ b.enterFreerun.selected = none ∧ b.enterFreerun.time.rate = 0 ∧
      (b.loopState = 2 → b.enterFreerun.fld F.REFS_HIST_LOCK_LOST 0 = 1) := by
  rw [Block.enterFreerun_eq]
  refine ⟨by simp, Block.selected_eq_none (by simp), by simp, fun hl => ?_⟩
  exact Block.lockLost_toLoop (by simpa [Block.loopState] using hl) (by decide)

theorem Block.enterFreerun_keeps (b : Block) : b.keeps b.enterFreerun loopKeys := by
  have hd : b.keeps ((b.clr F.REFS_STATUS_SEL_VALID 0).clr F.REFS_STATUS_HO_EXPIRED 0) loopKeys :=
    ((b.keeps_refl _).setFld (by simp [loopKeys]) _).setFld (by simp [loopKeys]) _
  rw [Block.enterFreerun_eq]
  exact ((Block.keeps.of_regs hd rfl).steer (c := (Block.loopFlags _ false false false).clearAdj) (by simp [loopKeys]) 0).toLoop
    (by simp [loopKeys]) (by simp [loopKeys]) 0

/-! ### Selection (R43 to R48) -/

/-- The best of some slots is one of them. -/
theorem bestSlot_mem {l : List Nat} {f : Nat → Nat} {q : Nat} (h : bestSlot l f = some q) : q ∈ l := by
  refine List.foldlRecOn (motive := fun a => ∀ q, a = some q → q ∈ l) l _ (by simp) ?_ q h
  intro a ih n hn q ha
  cases a with
  | none => exact Option.some.inj ha ▸ hn
  | some m =>
    simp only at ha
    split at ha
    · exact Option.some.inj ha ▸ hn
    · exact ih q ha

theorem Block.bestQualified_lt {b : Block} {q : Nat} (h : b.bestQualified = some q) : q < 8 := by
  simpa using (List.mem_filter.mp (bestSlot_mem h)).1

/-- With nothing selected, the best qualified candidate is chosen (R43). -/
theorem Block.autoChoice_first {b : Block} {q : Nat} (hs : b.selected = none) (hq : b.bestQualified = some q) : b.autoChoice = (some q, false) := by
  simp [Block.autoChoice, hs, hq]

/-- The device once its selected candidate's loss has been judged. -/
def Block.evaluated (b : Block) : Block := b.loopFlags b.refs.firstSet false b.refs.pull

theorem Block.choose_other {b : Block} {n : Nat} (h : b.selected ≠ some n) :
    b.choose (some n) = b.evaluated.follow n := if_neg h

theorem Block.choose_none {b : Block} (h : 1 ≤ b.loopState ∧ b.loopState ≤ 3 ∨ b.loopState = 0 ∧ b.refs.histOk = true) :
    b.choose none = b.evaluated.enterHoldover := if_pos h

theorem selectionEval_auto {b : Block} {c : Option Nat} (hm : b.fld F.REFS_CTRL_SEL_MODE 0 = 0) (hc : b.autoChoice = (c, false)) :
    selectionEval b = b.choose c := by
  simp only [selectionEval, hm, hc, Block.ite_false]

theorem selectionEval_forced {b : Block} (hm : b.fld F.REFS_CTRL_SEL_MODE 0 = 1) (hv : b.candValid (b.fld F.REFS_CTRL_FORCE_SEL 0) = true) :
    selectionEval b = b.choose (some (b.fld F.REFS_CTRL_FORCE_SEL 0)) := by
  simp only [selectionEval, hm, hv, if_true]

/-- Firmware's holdover and free run stay as they are (R48). -/
theorem selectionEval_held {b : Block} (hm : 2 ≤ b.fld F.REFS_CTRL_SEL_MODE 0) : selectionEval b = b := by
  unfold selectionEval
  split
  · omega
  · omega
  · rfl

/-! ### A write of `SEL_MODE` (R48, R64) -/

theorem refsCtrlFields_nodup : refsCtrlFields.Pairwise (·.key 0 ≠ ·.key 0) := by simp [refsCtrlFields]

/-- Beside the loop's control fields, the device with a word of them stored is what it was. -/
theorem Block.fld_storeCtrl_ne (b : Block) {f : Field} (h : f.key 0 ∉ refsCtrlFields.map (·.key 0)) (v : Nat) :
    (b.storeWord refsCtrlFields 0 v).fld f 0 = b.fld f 0 :=
  Block.fld_storeWord_ne _ (fun g hg he => h (List.mem_map.mpr ⟨g, hg, he.symm⟩)) v

theorem Block.selMode_storeCtrl (b : Block) (v : Nat) : (b.storeWord refsCtrlFields 0 v).fld F.REFS_CTRL_SEL_MODE 0 = v % 4 := by
  rw [Block.fld_storeWord b (by simp [refsCtrlFields]) rfl refsCtrlFields_nodup, Field.stored_of_any rfl]
  simp [F.REFS_CTRL_SEL_MODE]

theorem Block.writes.refs {b c : Block} {ks : List Nat} (h : b.writes c ks) : c.refs = b.refs := by
  rw [← h.2]

theorem Block.storeWord_refs (b : Block) (fs : List Field) (n v : Nat) : (b.storeWord fs n v).refs = b.refs :=
  ((b.writes_refl (fs.map (·.key n))).storeWord (fun _ hg => List.mem_map_of_mem hg) v).refs

/-- `SEL_MODE` 2 written: holdover, from the device with the word stored. -/
theorem forceHoldover_eq (b : Block) {v : Nat} (h : v % 4 = 2) : forceHoldover v b = (b.storeWord refsCtrlFields 0 v).enterHoldover := by
  have hm : (b.storeWord refsCtrlFields 0 v).modeWritten = (b.storeWord refsCtrlFields 0 v).enterHoldover := by
    simp only [Block.modeWritten, Block.selMode_storeCtrl, h]
  have hi := (b.storeWord refsCtrlFields 0 v).enterHoldover_state.1
  have hw : F.REFS_CTRL_SEL_MODE.of v = 2 := by simpa [Field.of, bitsOf, F.REFS_CTRL_SEL_MODE] using h
  rw [forceHoldover, if_pos hw, Block.refsCtrlWrite, hm, Block.bwSettle_idle]
  split at hi
  · exact Or.inr hi
  · exact Or.inl hi

/-- `SEL_MODE` 3 written: free run, from the device with the word stored. -/
theorem forceFreerun_eq (b : Block) {v : Nat} (h : v % 4 = 3) : forceFreerun v b = (b.storeWord refsCtrlFields 0 v).enterFreerun := by
  have hm : (b.storeWord refsCtrlFields 0 v).modeWritten = (b.storeWord refsCtrlFields 0 v).enterFreerun := by
    simp only [Block.modeWritten, Block.selMode_storeCtrl, h]
  have hw : F.REFS_CTRL_SEL_MODE.of v = 3 := by simpa [Field.of, bitsOf, F.REFS_CTRL_SEL_MODE] using h
  rw [forceFreerun, if_pos hw, Block.refsCtrlWrite, hm, Block.bwSettle_idle (Or.inl (Block.enterFreerun_state _).1)]

/-- Settles O2: each evaluation or mode is one operation of the loop (`follow`, `enterHoldover`, `enterFreerun` or nothing), whose lemma says
what it leaves. -/
theorem theLoopSelectsAndHolds : Obligations.TheLoopSelectsAndHolds := by
  intro s hs
  refine ⟨fun q hm hn hq hy => ?_, fun n hm hf hv hn hsel hy hl => ?_, fun hm hc h1 h3 hh => ?_, fun hm hc h3 hh => ?_, fun hm => ?_,
    fun v hr hv => ?_, fun v hr hv => ?_⟩
  · have he : selectionEval s.quiet = s.quiet.evaluated.follow q :=
      (selectionEval_auto (b := s.quiet) hm (Block.autoChoice_first hn hq)).trans (Block.choose_other (by simp [hn]))
    obtain ⟨hst, hsel, hsw, hnow, hbw, hll⟩ := Block.follow_running (b := s.quiet.evaluated)
      (Block.bestQualified_lt hq) (Or.inl hy)
    refine ⟨_, run_live _ hs, ?_⟩
    simp only [Block.effect_loopState, Block.effect_selected, Block.effect_fld, Block.effect_time, he]
    exact ⟨hst, hsel, hsw, hnow, hbw, hll⟩
  · subst hf
    have he : selectionEval s.quiet = s.quiet.evaluated.follow (s.fld F.REFS_CTRL_FORCE_SEL 0) :=
      (selectionEval_forced (b := s.quiet) hm hv).trans (Block.choose_other (by simp [hsel]))
    obtain ⟨hst, hsel, hfs, hnow, hbw, hrate⟩ := Block.follow_idle (b := s.quiet.evaluated) hn hy hl
    refine ⟨_, run_live _ hs, ?_⟩
    simp only [Block.effect_loopState, Block.effect_selected, Block.effect_refs, Block.effect_fld, Block.effect_time, he]
    exact ⟨hst, hsel, hfs, hnow, hbw, hrate⟩
  · have he : selectionEval s.quiet = s.quiet.evaluated.enterHoldover :=
      (selectionEval_auto (b := s.quiet) hm hc).trans (Block.choose_none (Or.inl ⟨h1, h3⟩))
    obtain ⟨hst, hsel, hho, hadj, hrate, hll⟩ := s.quiet.evaluated.enterHoldover_state
    refine ⟨_, run_live _ hs, ?_⟩
    simp only [Block.effect_loopState, Block.effect_selected, Block.effect_fld, Block.effect_time, he]
    simp only [Block.evaluated, Block.loopFlags_refs, Block.quiet_refs, hh, Bool.false_eq_true, if_false] at hst hrate
    exact ⟨hst, hsel, hho, hrate, hadj, hll⟩
  · have hcond : 1 ≤ s.loopState ∧ s.loopState ≤ 3 ∨ s.loopState = 0 ∧ s.refs.histOk = true := by
      rcases Nat.eq_zero_or_pos s.loopState with h0 | h0
      · exact Or.inr ⟨h0, hh⟩
      · exact Or.inl ⟨h0, h3⟩
    have he : selectionEval s.quiet = s.quiet.evaluated.enterHoldover :=
      (selectionEval_auto (b := s.quiet) hm hc).trans (Block.choose_none hcond)
    obtain ⟨hst, hsel, hho, hadj, hrate, -⟩ := s.quiet.evaluated.enterHoldover_state
    have hel := Block.elapsed_enterHoldover (b := s.quiet.evaluated) hh (Nat.ne_of_lt (Nat.lt_succ_of_le h3))
    refine ⟨_, run_live _ hs, ?_⟩
    simp only [Block.effect_loopState, Block.effect_selected, Block.effect_fld, Block.effect_time, he]
    simp only [Block.evaluated, Block.loopFlags_refs, Block.quiet_refs, hh, if_true] at hst hrate
    exact ⟨hst, hsel, hho, hadj, hel, hrate⟩
  · exact ⟨_, run_live _ hs, onlyRegs_effect_self (selectionEval_held hm)⟩
  · have he := forceHoldover_eq s.quiet hv
    obtain ⟨hst, hsel, hho, -, hrate, hll⟩ := (s.quiet.storeWord refsCtrlFields 0 v.toNat).enterHoldover_state
    have hmode : (forceHoldover v.toNat s.quiet).fld F.REFS_CTRL_SEL_MODE 0 = 2 := by
      rw [he, (Block.enterHoldover_keeps _).fld (by simp [loopKeys]), Block.selMode_storeCtrl, hv]
    have hguard : (s.quiet.storeWord refsCtrlFields 0 v.toNat).historyFreq = s.historyFreq := by
      rw [Block.historyFreq, Block.storeWord_refs, Block.fld_storeCtrl_ne _ (by simp [refsCtrlFields])]
      rfl
    refine ⟨_, run_reaches hs hr _ _, ?_⟩
    rw [Block.storeWord_refs, Block.quiet_refs] at hst hrate
    simp only [Block.effect_loopState, Block.effect_selected, Block.effect_fld, Block.effect_time, hmode]
    rw [he]
    refine ⟨hst, hsel, hho, trivial, fun hh => ?_, fun hl => hll ?_⟩
    · rw [hrate, if_pos hh, hguard]; rfl
    · exact (Block.fld_storeCtrl_ne _ (by simp [refsCtrlFields]) _).trans hl
  · have he := forceFreerun_eq s.quiet hv
    obtain ⟨hst, hsel, hrate, hll⟩ := (s.quiet.storeWord refsCtrlFields 0 v.toNat).enterFreerun_state
    have hmode : (forceFreerun v.toNat s.quiet).fld F.REFS_CTRL_SEL_MODE 0 = 3 := by
      rw [he, (Block.enterFreerun_keeps _).fld (by simp [loopKeys]), Block.selMode_storeCtrl, hv]
    refine ⟨_, run_reaches hs hr _ _, ?_⟩
    simp only [Block.effect_loopState, Block.effect_selected, Block.effect_fld, Block.effect_time, hmode]
    rw [he]
    exact ⟨hst, hsel, hrate, trivial, fun hl => hll ((Block.fld_storeCtrl_ne _ (by simp [refsCtrlFields]) _).trans hl)⟩

end Sys2Proof.Machine
end

section
/-!
Comparisons and the loop's answer to them, lock, history and holdover: O3.
-/
namespace Sys2Proof.Machine

/-! ### A first set and the timers that it passes (R109, R121) -/

/-- The keys that a timer's pulse may write. -/
def timerKeys : List Nat :=
  [F.TMR_HIST_FIRED.key 0, F.TMR_HIST_LATE.key 0] ++ (List.range 16).map F.TMR_COUNT_COUNT.key ++ (List.range 16).map F.TMR_CFG_ARM.key

/-- `c` is `b` after what timers do: the loop, device time and the other registers stand as they did. -/
structure Block.timed (b c : Block) : Prop where
  regs : b.keeps c timerKeys
  refs : c.refs = b.refs
  now : c.time.now = b.time.now
  rate : c.time.rate = b.time.rate
  adj : c.time.adj = b.time.adj

theorem Block.timed_refl (b : Block) : b.timed b := ⟨b.keeps_refl _, rfl, rfl, rfl, rfl⟩

theorem Block.timed.setFld {b c : Block} (h : b.timed c) {g : Field} {m : Nat} (hk : g.key m ∈ timerKeys) (v : Nat) : b.timed (c.setFld g m v) :=
  ⟨h.regs.setFld hk v, h.refs, h.now, h.rate, h.adj⟩
theorem Block.timed.setNext {b c : Block} (h : b.timed c) (n t : Nat) : b.timed (c.setNext n t) :=
  ⟨h.regs.of_regs rfl, h.refs, h.now, h.rate, h.adj⟩

theorem Block.timed.setEnd {b c : Block} (h : b.timed c) (e : Bank Nat) : b.timed { c with time := { c.time with tmrEnd := e } } :=
  ⟨h.regs.of_regs rfl, h.refs, h.now, h.rate, h.adj⟩
theorem Block.timed.emit {b c : Block} (h : b.timed c) (o : Out) : b.timed (c.emit o) :=
  ⟨h.regs.of_regs rfl, h.refs, h.now, h.rate, h.adj⟩

theorem Block.timed.tmrPulse {b c : Block} (h : b.timed c) {n : Nat} (hn : n < 16) : b.timed (c.tmrPulse n) := by
  have hf : F.TMR_HIST_FIRED.key 0 ∈ timerKeys := List.mem_cons_self
  have hc : F.TMR_COUNT_COUNT.key n ∈ timerKeys :=
    List.mem_append_left _ (List.mem_append_right _ (List.mem_map_of_mem (List.mem_range.mpr hn)))
  have ha : F.TMR_CFG_ARM.key n ∈ timerKeys := List.mem_append_right _ (List.mem_map_of_mem (List.mem_range.mpr hn))
  unfold Block.tmrPulse
  extract_lets fired counted width time ended shown
  have hfired : b.timed fired := h.setFld hf _
  have hcounted : b.timed counted := hfired.setFld hc _
  have hended : b.timed ended := hcounted.setEnd _
  have hshown : b.timed shown := hended.emit _
  split
  · exact hshown
  · exact hshown.setFld ha _

theorem Block.timed.tmrJumped {b c : Block} (h : b.timed c) {n : Nat} (hn : n < 16) (old : Nat) : b.timed (c.tmrJumped old n) := by
  have hp : b.timed ((c.tmrPulse n).setBit F.TMR_HIST_LATE 0 n) := (h.tmrPulse hn).setFld (List.mem_cons_of_mem _ List.mem_cons_self) _
  unfold Block.tmrJumped
  dsimp only
  split
  · exact Block.ite_cases (P := b.timed) _ hp (hp.setNext n _)
  · exact h

/-- The frame pulses that a step leaves where they were are no part of what the loop keeps. -/
theorem Block.fpStepped_kept (b : Block) (d : Int) :
    (b.fpStepped d).regs = b.regs ∧ (b.fpStepped d).time = b.time ∧ (b.fpStepped d).refs.firstSet = b.refs.firstSet :=
  List.foldlRecOn (motive := fun c : Block => c.regs = b.regs ∧ c.time = b.time ∧ c.refs.firstSet = b.refs.firstSet) _ _
    ⟨rfl, rfl, rfl⟩ fun _ h _ _ => h

theorem Block.pllStepped_kept (b : Block) (d : Int) :
    (b.pllStepped d).regs = b.regs ∧ (b.pllStepped d).time = b.time ∧ (b.pllStepped d).refs = b.refs :=
  List.foldlRecOn (motive := fun c : Block => c.regs = b.regs ∧ c.time = b.time ∧ c.refs = b.refs) _ _ ⟨rfl, rfl, rfl⟩ fun _ h _ _ => h

/-- A first set moves device time and says so; the rate stands, and nothing is left to correct (R109). -/
theorem Block.firstSet_state (b : Block) (t : Nat) :
    (b.firstSet t).synced = true ∧ (b.firstSet t).fld F.TIME_HIST_FIRST_SET 0 = 1 ∧ (b.firstSet t).fld F.REFS_STATUS_TIME_SYNCED 0 = 1 ∧
      (b.firstSet t).refs.firstSet = b.refs.firstSet ∧ (b.firstSet t).time.adj = 0 ∧ (b.firstSet t).time.rate = b.time.rate ∧
      (b.firstSet t).time.now = t := by
  unfold Block.firstSet
  extract_lets old time moved said stepped
  obtain ⟨hfr, hft, hff⟩ := said.fpStepped_kept (Int.ofNat t - Int.ofNat old)
  obtain ⟨hpr, hpt, hpf⟩ := (said.fpStepped (Int.ofNat t - Int.ofNat old)).pllStepped_kept (Int.ofNat t - Int.ofNat old)
  have ht : stepped.timed (stepped.each (List.range 16) fun b n => b.tmrJumped old n) :=
    List.foldlRecOn _ _ stepped.timed_refl fun d hd n hn => hd.tmrJumped (List.mem_range.mp hn) _
  have hk : ∀ f : Field, f.key 0 ∉ timerKeys → (stepped.each (List.range 16) fun b n => b.tmrJumped old n).fld f 0 = said.fld f 0 := fun f hf =>
    (ht.regs.fld hf).trans (Block.fld_congr (hpr.trans hfr) f 0)
  refine ⟨?_, ?_, ?_, ?_, ?_, ?_, ?_⟩
  · rw [Block.synced, Block.on, hk _ (by decide)]; simp [said]
  · rw [hk _ (by decide)]; simp [said]
  · rw [hk _ (by decide)]; simp [said]
  · rw [ht.refs, hpf, hff]; rfl
  · rw [ht.adj, hpt, hft]; rfl
  · rw [ht.rate, hpt, hft]; rfl
  · rw [ht.now, hpt, hft]; rfl

/-! ### Comparisons (R50, R54, R55, R57) -/

/-- The device with a comparison's phase error and frequency stored. -/
def Block.measured (b : Block) (n : Nat) (e : Option Int) (freq : Int) : Block :=
  (b.ite e.isSome fun b => b.setSfld F.REF_PHASE_PHASE n (e.getD 0)).updCand n fun c => { c with freq := freq }

@[simp] theorem Block.measured_time (b : Block) (n : Nat) (e : Option Int) (freq : Int) : (b.measured n e freq).time = b.time :=
  Block.ite_cases (P := fun c => c.time = b.time) e.isSome rfl rfl
@[simp] theorem Block.measured_firstSet (b : Block) (n : Nat) (e : Option Int) (freq : Int) :
    (b.measured n e freq).refs.firstSet = b.refs.firstSet := Block.ite_cases (P := fun c => c.refs.firstSet = b.refs.firstSet) e.isSome rfl rfl
@[simp] theorem Block.measured_pull (b : Block) (n : Nat) (e : Option Int) (freq : Int) :
    (b.measured n e freq).refs.pull = b.refs.pull := Block.ite_cases (P := fun c => c.refs.pull = b.refs.pull) e.isSome rfl rfl

theorem Block.measured_freq (b : Block) (n : Nat) (e : Option Int) (freq : Int) : ((b.measured n e freq).cand n).freq = freq := by
  simp [Block.measured]

theorem Block.measured_keeps (b : Block) (n : Nat) (e : Option Int) (freq : Int) :
    b.keeps (b.measured n e freq) (if e.isSome then [F.REF_PHASE_PHASE.key n] else []) := by
  cases e with
  | none => exact b.keeps_refl _
  | some p => exact Block.keeps.of_regs (c := b.setSfld F.REF_PHASE_PHASE n p) ((b.keeps_refl _).setFld (by simp) _) rfl

theorem Block.measured_phase (b : Block) (n : Nat) (p freq : Int) :
    (b.measured n (some p) freq).fld F.REF_PHASE_PHASE n = patternOf F.REF_PHASE_PHASE.width p := by
  rw [Block.measured, Block.updCand_fld, Option.isSome_some, Block.ite_true, Block.fld_setSfld_same, Option.getD_some]

@[simp] theorem Block.fld_measured_ne (b : Block) {f : Field} {m n : Nat} (h : f.key m ≠ F.REF_PHASE_PHASE.key n) (e : Option Int) (freq : Int) :
    (b.measured n e freq).fld f m = b.fld f m :=
  (b.measured_keeps n e freq).fld fun hm => by
    split at hm
    · exact h (List.mem_singleton.mp hm)
    · simp at hm

section
variable (b : Block) (n : Nat) (e : Option Int) (freq : Int)

@[simp] theorem Block.measured_selected : (b.measured n e freq).selected = b.selected := by
  have hv : (b.measured n e freq).fld F.REFS_STATUS_SEL_VALID 0 = b.fld F.REFS_STATUS_SEL_VALID 0 := Block.fld_measured_ne _ (by simp; omega) _ _
  have hs : (b.measured n e freq).fld F.REFS_STATUS_SEL 0 = b.fld F.REFS_STATUS_SEL 0 := Block.fld_measured_ne _ (by simp; omega) _ _
  simp [Block.selected, Block.on, hv, hs]
@[simp] theorem Block.measured_loopState : (b.measured n e freq).loopState = b.loopState := Block.fld_measured_ne _ (by simp; omega) _ _
@[simp] theorem Block.measured_synced : (b.measured n e freq).synced = b.synced :=
  congrArg (· == 1) (Block.fld_measured_ne _ (by simp; omega) _ _)

/-- The device with a comparison of the selected candidate stored. -/
def Block.compared : Block := (b.measured n e freq).setSfld F.DPLL_PHASE_PHASE 0 (e.getD 0)

@[simp] theorem Block.compared_time : (b.compared n e freq).time = b.time := b.measured_time n e freq
@[simp] theorem Block.compared_firstSet : (b.compared n e freq).refs.firstSet = b.refs.firstSet := b.measured_firstSet n e freq
@[simp] theorem Block.compared_pull : (b.compared n e freq).refs.pull = b.refs.pull := b.measured_pull n e freq
theorem Block.fld_compared_ne {f : Field} {m : Nat} (h : f.key m ≠ F.REF_PHASE_PHASE.key n) (h' : f.key m ≠ F.DPLL_PHASE_PHASE.key 0) :
    (b.compared n e freq).fld f m = b.fld f m := by
  rw [Block.compared, Block.fld_setSfld_ne _ h', Block.fld_measured_ne _ h]
@[simp] theorem Block.compared_loopState : (b.compared n e freq).loopState = b.loopState := Block.fld_compared_ne _ _ _ _ (by simp; omega) (by simp)
@[simp] theorem Block.compared_synced : (b.compared n e freq).synced = b.synced :=
  congrArg (· == 1) (Block.fld_compared_ne _ _ _ _ (by simp; omega) (by simp))

end

theorem dpllComparison_invalid {b : Block} {n : Nat} (hv : b.candValid n = false) (m : Measure) (freq : Int) : dpllComparison n m freq b = b := by
  simp [dpllComparison, hv]

section
variable {b : Block} {n : Nat} {freq : Int} (hv : b.candValid n = true)
include hv

theorem dpllComparison_barred (hb : b.candBarred n (b.cand n).cls (b.cand n).acc freq = true) (m : Measure) :
    dpllComparison n m freq b = b.candInvalid n := by
  simp only [dpllComparison, hv, hb, if_true]

variable (hb : b.candBarred n (b.cand n).cls (b.cand n).acc freq = false) {m : Measure}
include hb

/-- A measurement of another kind or PTP domain is none (R36, R54). -/
theorem dpllComparison_unmeasured (hm : b.phaseError n m = none) : dpllComparison n m freq b = b := by
  simp only [dpllComparison, hv, hb, hm, if_true, Bool.false_eq_true, if_false]

variable {e : Option Int} (hm : b.phaseError n m = some e)
include hm

theorem dpllComparison_unselected (hs : b.selected ≠ some n) : dpllComparison n m freq b = b.measured n e freq := by
  rw [dpllComparison, if_pos hv, if_neg (by simp [hb]), hm]
  exact if_neg fun h => hs ((b.measured_selected n e freq).symm.trans h.1)

variable (hs : b.selected = some n) (hl : 1 ≤ b.loopState ∧ b.loopState ≤ 3)
include hs hl

omit hv hb hm in
theorem Block.measured_follows (e : Option Int) (freq : Int) : (b.measured n e freq).selected = some n ∧ 1 ≤ (b.measured n e freq).loopState ∧
    (b.measured n e freq).loopState ≤ 3 := by
  rw [Block.measured_selected, Block.measured_loopState]
  exact ⟨hs, hl⟩

/-- Where device time waits for its first set, the comparison sets it (R57, R109). -/
theorem dpllComparison_first (hf : b.refs.firstSet = true) (hy : b.synced = false) : dpllComparison n m freq b =
    ((b.compared n e freq).loopFlags false (b.compared n e freq).refs.lostSel (b.compared n e freq).refs.pull).firstSet
      (nowWrap (Int.ofNat (b.compared n e freq).time.now + e.getD 0 * Int.ofNat (2 ^ 44))) := by
  rw [dpllComparison, if_pos hv, if_neg (by simp [hb]), hm]
  have hc : (b.compared n e freq).refs.firstSet = true ∧ ¬(b.compared n e freq).synced = true := by simp [hf, hy]
  exact (if_pos (Block.measured_follows hs hl e freq)).trans (if_pos hc)

/-- Else the loop answers it. -/
theorem dpllComparison_steers (hy : b.synced = true) : dpllComparison n m freq b = (b.compared n e freq).loopStep e freq := by
  rw [dpllComparison, if_pos hv, if_neg (by simp [hb]), hm]
  have hc : ¬((b.compared n e freq).refs.firstSet = true ∧ ¬(b.compared n e freq).synced = true) := by simp [hy]
  exact (if_pos (Block.measured_follows hs hl e freq)).trans (if_neg hc)

end

/-! ### The loop's answer (R50, R53, R56) -/

/-- A pull with nothing left to remove is over. -/
def Block.pullJudged (b : Block) : Block := b.ite (b.time.adj == 0) fun b => { b with refs := { b.refs with pull := false } }

@[simp] theorem Block.pullJudged_time (b : Block) : b.pullJudged.time = b.time := Block.ite_cases (P := fun c => c.time = b.time) _ rfl rfl
@[simp] theorem Block.pullJudged_fld (b : Block) (f : Field) (n : Nat) : b.pullJudged.fld f n = b.fld f n :=
  Block.ite_cases (P := fun c => c.fld f n = b.fld f n) _ rfl rfl
@[simp] theorem Block.pullJudged_loopState (b : Block) : b.pullJudged.loopState = b.loopState := b.pullJudged_fld _ _

/-- The device with its rate shown. -/
def Block.showRate (b : Block) : Block := b.setSfld F.DPLL_FREQ_FREQ 0 (freqReg b.time.rate)

/-- The rate and the phase correction that the loop's filter asks for. -/
def Block.loopFiltered (b : Block) (e : Option Int) (freq : Int) : Block :=
  let bw := bwMilli (b.fld F.REFS_STATUS_BW_NOW 0); let d := dampMilli (b.fld F.REFS_CTRL_DAMP 0)
  e.elim (b.steer (Config.loopRate bw d (e.getD 0) freq b.time.rate)) fun p =>
    (b.steer (Config.loopRate bw d (e.getD 0) freq b.time.rate)).addAdj (Config.loopPhase bw d p)

theorem Block.loopFiltered_state (b : Block) (e : Option Int) (freq : Int) :
    (b.loopFiltered e freq).time.now = b.time.now ∧ (b.loopFiltered e freq).loopState = b.loopState ∧
      (b.loopFiltered e freq).time.rate = clampInt (-rateLimit) rateLimit
        (Config.loopRate (bwMilli (b.fld F.REFS_STATUS_BW_NOW 0)) (dampMilli (b.fld F.REFS_CTRL_DAMP 0)) (e.getD 0) freq b.time.rate) := by
  cases e <;> simp [Block.loopFiltered, Block.loopState]

theorem Block.loopStep_of_pull {b : Block} (h : b.loopState = 3 ∧ b.pullJudged.refs.pull = true) (e : Option Int) (freq : Int) :
    b.loopStep e freq = (b.pullJudged.steer freq).showRate := by
  have hc : b.pullJudged.loopState = 3 ∧ b.pullJudged.refs.pull = true := by rwa [Block.pullJudged_loopState]
  exact congrArg Block.showRate (if_pos hc)

theorem Block.loopStep_of_filter {b : Block} (h : ¬(b.loopState = 3 ∧ b.pullJudged.refs.pull = true)) (e : Option Int) (freq : Int) :
    b.loopStep e freq = (b.pullJudged.loopFiltered e freq).showRate := by
  have hc : ¬(b.pullJudged.loopState = 3 ∧ b.pullJudged.refs.pull = true) := by rwa [Block.pullJudged_loopState]
  cases e with
  | none => exact congrArg Block.showRate (if_neg hc)
  | some p => exact congrArg Block.showRate (if_neg hc)

@[simp] theorem Block.showRate_time (b : Block) : b.showRate.time = b.time := rfl
@[simp] theorem Block.showRate_loopState (b : Block) : b.showRate.loopState = b.loopState := Block.fld_setSfld_ne _ (by simp) _
@[simp] theorem Block.showRate_freq (b : Block) : b.showRate.fld F.DPLL_FREQ_FREQ 0 = patternOf F.DPLL_FREQ_FREQ.width (freqReg b.time.rate) :=
  Block.fld_setSfld_same _ _ _ _

/-- What every answer of the loop leaves: device time and the loop's state; `DPLL_FREQ` shows the rate. -/
theorem Block.loopStep_state (b : Block) (e : Option Int) (freq : Int) :
    (b.loopStep e freq).time.now = b.time.now ∧ (b.loopStep e freq).loopState = b.loopState ∧
      (b.loopStep e freq).fld F.DPLL_FREQ_FREQ 0 = patternOf F.DPLL_FREQ_FREQ.width (freqReg (b.loopStep e freq).time.rate) := by
  by_cases h : b.loopState = 3 ∧ b.pullJudged.refs.pull = true
  · have hs : (b.pullJudged.steer freq).loopState = b.pullJudged.loopState := Block.fld_steer_ne _ (by simp) _
    simp only [Block.loopStep_of_pull h, Block.showRate_time, Block.showRate_loopState, Block.showRate_freq, hs]
    simp
  · obtain ⟨hn, hs, -⟩ := b.pullJudged.loopFiltered_state e freq
    simp only [Block.loopStep_of_filter h, Block.showRate_time, Block.showRate_loopState, Block.showRate_freq, hn, hs]
    simp

/-- A pull under way runs at the candidate's frequency, and adds nothing. -/
theorem Block.loopStep_pulling {b : Block} (hl : b.loopState = 3) (hp : b.refs.pull = true) (ha : b.time.adj ≠ 0) (e : Option Int) (freq : Int) :
    (b.loopStep e freq).time.rate = clampInt (-rateLimit) rateLimit freq ∧ (b.loopStep e freq).time.adj = b.time.adj := by
  have hj : b.pullJudged = b := by rw [Block.pullJudged, beq_false_of_ne ha, Block.ite_false]
  rw [Block.loopStep_of_pull ⟨hl, by rw [hj, hp]⟩, hj]
  simp

/-- Out of a pull, the rate is what the loop asks for. -/
theorem Block.loopStep_steering {b : Block} (hl : b.loopState ≠ 3) (e : Option Int) (freq : Int) :
    (b.loopStep e freq).time.rate = clampInt (-rateLimit) rateLimit
      (Config.loopRate (bwMilli (b.fld F.REFS_STATUS_BW_NOW 0)) (dampMilli (b.fld F.REFS_CTRL_DAMP 0)) (e.getD 0) freq b.time.rate) := by
  rw [Block.loopStep_of_filter fun h => hl h.1, Block.showRate_time, (b.pullJudged.loopFiltered_state e freq).2.2]
  simp

/-! ### The distance from a whole number of periods (R55) -/

/-- A distance folded over a period `p` is the distance but for whole periods, and at most half of one. -/
theorem foldRat_one (x : Int) {p : Nat} (hp : 0 < p) : ∃ k : Int, x = foldRat x p 1 + k * p ∧ 2 * (foldRat x p 1).natAbs ≤ p := by
  have hd := Int.emod_add_mul_ediv x p
  have h0 := Int.emod_nonneg x (b := (p : Int)) (by omega)
  have h1 := Int.emod_lt_of_pos x (b := (p : Int)) (by omega)
  simp only [foldRat, foldOver, Int.ofNat_eq_natCast, Nat.cast_one, mul_one, Int.ediv_one]
  split
  · exact ⟨x / p, by rw [mul_comm]; omega, by omega⟩
  · exact ⟨x / p + 1, by rw [add_mul, mul_comm (x / (p : Int))]; omega, by omega⟩

theorem Block.phaseError_pps {b : Block} {n : Nat} (h : b.candKind n = 3) (o : Int) :
    b.phaseError n (.edge o) = some (some (foldRat (o + b.sfld F.REF_COMP_COMP n) 16000000000 1)) := by
  simp only [Block.phaseError, h]

/-! ### Lock, step-down, history and holdover (R52, R54, R59, R60, R62) -/

/-- From a loop that is not `LOCKED`, a move to another state is a write of the state. -/
theorem Block.toLoop_of_ne {b : Block} (h : b.loopState ≠ 2) (st : Nat) : b.toLoop st = b.setFld F.REFS_STATUS_STATE 0 st := by
  rw [Block.toLoop_eq, Block.unlocked, beq_false_of_ne h, Bool.false_and, Block.ite_false]

/-- The device in `LOCKED`, its seconds counted anew. -/
def Block.lockedNow (b : Block) : Block :=
  let c := (((b.ite (b.loopState == 3) fun b => b.set F.REFS_HIST_PULL_DONE 0).set F.REFS_HIST_LOCK_GAINED 0).toLoop 2)
  { c with refs := { c.refs with locked := 0, histOk := false, pull := false } }

/-- Lock declared within `LOCK_PH`, from `ACQUIRING` or at the end of a pull. -/
theorem lockDeclared_eq {b : Block} (hl : b.loopState = 1 ∨ b.loopState = 3 ∧ b.time.adj = 0)
    (hp : (b.sfld F.DPLL_PHASE_PHASE 0).natAbs ≤ 16 * b.fld F.REFS_LOCK_LOCK_PH 0) : lockDeclared b =
    b.lockedNow.ite (decide (b.lockedNow.fld F.REFS_CTRL_ACQ_BW 0 ≤ b.lockedNow.fld F.REFS_CTRL_TRK_BW 0)) fun c =>
      c.setBw (c.fld F.REFS_STATUS_SEL 0) (c.fld F.REFS_CTRL_TRK_BW 0) :=
  if_pos ⟨hl.imp_right fun h => ⟨h.1, Or.inr h.2⟩, hp⟩

theorem lockDeclared_far {b : Block} (hp : 16 * b.fld F.REFS_LOCK_LOCK_PH 0 < (b.sfld F.DPLL_PHASE_PHASE 0).natAbs) : lockDeclared b = b :=
  if_neg fun h => absurd h.2 (Nat.not_le.mpr hp)

theorem Block.lockedNow_acquired {b : Block} (hl : b.loopState = 1) : b.lockedNow.regs =
    ((b.set F.REFS_HIST_LOCK_GAINED 0).setFld F.REFS_STATUS_STATE 0 2).regs := by
  have hs : (b.set F.REFS_HIST_LOCK_GAINED 0).loopState ≠ 2 := by simpa [Block.loopState] using (by omega : b.loopState ≠ 2)
  rw [← Block.toLoop_of_ne hs]
  simp only [Block.lockedNow, hl]
  rfl

theorem Block.lockedNow_fld (b : Block) (f : Field) (n : Nat) : b.lockedNow.fld f n =
    (((b.ite (b.loopState == 3) fun b => b.set F.REFS_HIST_PULL_DONE 0).set F.REFS_HIST_LOCK_GAINED 0).toLoop 2).fld f n := rfl

theorem Block.lockedNow_state (b : Block) : b.lockedNow.loopState = 2 ∧ b.lockedNow.fld F.REFS_HIST_LOCK_GAINED 0 = 1 ∧
    (b.loopState = 3 → b.lockedNow.fld F.REFS_HIST_PULL_DONE 0 = 1) := by
  refine ⟨(Block.loopState_toLoop _ 2).trans rfl, ?_, fun hl => ?_⟩
  · rw [Block.lockedNow_fld]; simp
  · rw [Block.lockedNow_fld, hl]; simp

theorem bwStepDown_above {b : Block} (hl : b.loopState = 2) (h : b.fld F.REFS_CTRL_TRK_BW 0 < b.fld F.REFS_STATUS_BW_NOW 0) :
    bwStepDown b = b.setFld F.REFS_STATUS_BW_NOW 0 (b.fld F.REFS_STATUS_BW_NOW 0 - 1) := if_pos ⟨hl, h⟩

theorem bwStepDown_done {b : Block} (h : b.fld F.REFS_STATUS_BW_NOW 0 ≤ b.fld F.REFS_CTRL_TRK_BW 0) : bwStepDown b = b :=
  if_neg fun hc => absurd hc.2 (Nat.not_lt.mpr h)

theorem freqHistoryStore_locked {b : Block} (hl : b.loopState = 2) : freqHistoryStore b =
    { b with refs := { b.refs with
        avg := b.historyNext
        hist := (b.historyNext :: b.refs.hist).take 64
        locked := b.refs.locked + 1
        histOk := decide (b.fld F.HO_HIST_CFG_HIST_GUARD 0 + 1 < b.refs.locked + 1) } } := if_pos hl

theorem freqHistoryStore_unlocked {b : Block} (hl : b.loopState ≠ 2) : freqHistoryStore b = b := if_neg hl

theorem holdoverCheck_elsewhere {b : Block} (hl : b.loopState ≠ 4) : holdoverCheck b = b := if_neg hl

/-- The device another second into its holdover. -/
def Block.heldOver (b : Block) : Block := b.setFld F.HO_ELAPSED_SECONDS 0 (b.fld F.HO_ELAPSED_SECONDS 0 + 1)

section
variable {b : Block} (hc : b.fld F.HO_ELAPSED_SECONDS 0 + 1 < 2 ^ 32)
include hc

theorem Block.heldOver_elapsed : b.heldOver.fld F.HO_ELAPSED_SECONDS 0 = b.fld F.HO_ELAPSED_SECONDS 0 + 1 := by
  rw [Block.heldOver, Block.fld_setFld_same, F.HO_ELAPSED_SECONDS_width, Nat.mod_eq_of_lt hc]

theorem Block.heldOver_within : b.heldOver.hoWithin (b.heldOver.fld F.HO_ELAPSED_SECONDS 0) = b.hoWithin (b.fld F.HO_ELAPSED_SECONDS 0 + 1) := by
  rw [Block.heldOver_elapsed hc]
  simp [Block.hoWithin, Block.heldOver, Block.fld_setFld_ne]

variable (hl : b.loopState = 4)
include hl

theorem holdoverCheck_within (hw : b.hoWithin (b.fld F.HO_ELAPSED_SECONDS 0 + 1) = true) : holdoverCheck b = b.heldOver := by
  have hw' := (Block.heldOver_within hc).trans hw
  exact (if_pos hl).trans (if_neg fun h => h.1 hw')

theorem holdoverCheck_expires (hw : b.hoWithin (b.fld F.HO_ELAPSED_SECONDS 0 + 1) = false) (he : b.on F.REFS_STATUS_HO_EXPIRED 0 = false) :
    holdoverCheck b = (b.heldOver.set F.REFS_STATUS_HO_EXPIRED 0).set F.REFS_HIST_HO_EXPIRED 0 := by
  have hw' := (Block.heldOver_within hc).trans hw
  have he' : b.heldOver.on F.REFS_STATUS_HO_EXPIRED 0 = false := by
    rw [← he]; simp [Block.on, Block.heldOver, Block.fld_setFld_ne]
  exact (if_pos hl).trans (if_pos ⟨Bool.eq_false_iff.mp hw', Bool.eq_false_iff.mp he'⟩)

end

/-- Settles O3: a comparison stores (`measured`, `compared`) and then sets device time (`firstSet_state`) or steers (`loopStep_state`); the
other commands act in one state of the loop and have an equation for it and one for the rest. -/
theorem theLoopMeasuresAndLocks : Obligations.TheLoopMeasuresAndLocks := by
  intro s hs
  refine ⟨fun n m freq hn hv hb => ⟨fun e hm hsel => ?_, fun hm => ?_, fun e hm hsel hl hf hy => ?_, fun e hm hsel h1 h3 hy => ?_⟩,
    fun n o hk => ?_, fun n m freq hn hv hb => ?_, fun n m freq hv => ?_, fun hl hp hbw => ?_, fun hl ha hp => ?_, fun hp => ?_, fun hl hbw hw => ?_,
    fun hbw => ?_, fun hl => ?_, fun hl => ?_, fun hl hx hc => ?_, fun hl => ?_⟩
  · have he := dpllComparison_unselected (b := s.quiet) hv hb hm hsel
    refine ⟨_, run_live _ hs, ?_, ?_, fun p hp => ?_, regsKept_effect ?_⟩
    · rw [Block.effect_cand, he, Block.measured_freq]
    · rw [Block.effect_time, he, Block.measured_time, Block.quiet_time]
    · subst hp
      rw [Block.effect_fld, he, Block.measured_phase]
    · rw [he]
      exact s.quiet.measured_keeps n e freq
  · exact ⟨_, run_live _ hs, onlyRegs_effect_self (dpllComparison_unmeasured (b := s.quiet) hv hb hm)⟩
  · have he := dpllComparison_first (b := s.quiet) hv hb hm hsel (by rw [Block.quiet_loopState]; omega) hf hy
    obtain ⟨hsync, hset, hshown, hdone, hadj, hrate, hnow⟩ := Block.firstSet_state
      ((s.quiet.compared n e freq).loopFlags false (s.quiet.compared n e freq).refs.lostSel (s.quiet.compared n e freq).refs.pull)
      (nowWrap (Int.ofNat (s.quiet.compared n e freq).time.now + e.getD 0 * Int.ofNat (2 ^ 44)))
    refine ⟨_, run_live _ hs, ?_⟩
    simp only [Block.effect_synced, Block.effect_fld, Block.effect_refs, Block.effect_time, he]
    refine ⟨hsync, hset, hshown, hdone, hadj, hrate.trans ?_, hnow.trans ?_⟩
    · rw [Block.loopFlags_time, Block.compared_time, Block.quiet_time]
    · rw [Block.compared_time, Block.quiet_time]
  · have he := dpllComparison_steers (b := s.quiet) hv hb hm hsel ⟨h1, h3⟩ hy
    obtain ⟨hnow, hst, hshown⟩ := (s.quiet.compared n e freq).loopStep_state e freq
    rw [Block.compared_time, Block.quiet_time] at hnow
    rw [Block.compared_loopState, Block.quiet_loopState] at hst
    refine ⟨_, run_live _ hs, ?_⟩
    simp only [Block.effect_loopState, Block.effect_fld, Block.effect_time, he]
    refine ⟨hnow, hst, hshown, fun ⟨hl, hp, ha⟩ => ?_, fun hl => ?_⟩
    · have hpull := Block.loopStep_pulling (b := s.quiet.compared n e freq) (by simpa using hl) (by simpa using hp) (by simpa using ha) e freq
      rwa [Block.compared_time, Block.quiet_time] at hpull
    · have hask := Block.loopStep_steering (b := s.quiet.compared n e freq) (by simpa using hl) e freq
      rwa [Block.fld_compared_ne _ _ _ _ (by simp; omega) (by simp), Block.fld_compared_ne _ _ _ _ (by simp; omega) (by simp), Block.compared_time,
        Block.quiet_time, Block.quiet_fld, Block.quiet_fld] at hask
  · have hk' := foldRat_one (o + s.sfld F.REF_COMP_COMP n) (p := 16000000000) (by decide)
    obtain ⟨k, hx, hh⟩ := hk'
    exact ⟨_, k, Block.phaseError_pps hk o, hx, by omega⟩
  · have he := dpllComparison_barred (b := s.quiet) hv hb m
    refine ⟨_, run_live _ hs, ?_, ?_, ?_⟩
    · rw [Block.effect_candValid, he, Block.candValid_candInvalid hn]
    · rw [Block.effect_bitAt, he, Block.lost_candInvalid (b := s.quiet) hn hv]
    · rw [Block.effect_time, he, Block.candInvalid_time, Block.quiet_time]
  · exact ⟨_, run_live _ hs, onlyRegs_effect_self (dpllComparison_invalid (b := s.quiet) hv m freq)⟩
  · have hkeep : s.quiet.keeps s.quiet.lockedNow [F.REFS_STATUS_STATE.key 0, F.REFS_HIST_LOCK_GAINED.key 0] :=
      (((Block.keeps_refl _ _).setFld (by simp) _).setFld (by simp) _).of_regs (Block.lockedNow_acquired (b := s.quiet) hl)
    have he : lockDeclared s.quiet = s.quiet.lockedNow := by
      rw [lockDeclared_eq (b := s.quiet) (Or.inl hl) hp, hkeep.fld (by simp), hkeep.fld (by simp)]
      exact congrArg (Block.ite _ · _) (decide_eq_false (Nat.not_le.mpr hbw))
    obtain ⟨hst, hgain, -⟩ := s.quiet.lockedNow_state
    refine ⟨_, run_live _ hs, ?_, ?_, ?_, ?_, regsKept_effect (he ▸ hkeep)⟩
    · rw [Block.effect_loopState, he, hst]
    · rw [Block.effect_fld, he, hgain]
    · rw [Block.effect_refs, he]; rfl
    · rw [Block.effect_refs, he]; rfl
  · have he := lockDeclared_eq (b := s.quiet) (Or.inr ⟨hl, ha⟩) hp
    obtain ⟨hst, hgain, hdone⟩ := s.quiet.lockedNow_state
    refine ⟨_, run_live _ hs, ?_⟩
    simp only [Block.effect_loopState, Block.effect_fld, he]
    exact Block.ite_cases (P := fun c => c.loopState = 2 ∧ c.fld F.REFS_HIST_LOCK_GAINED 0 = 1 ∧ c.fld F.REFS_HIST_PULL_DONE 0 = 1) _
      ⟨hst, hgain, hdone hl⟩ (by simp [hst, hgain, hdone hl])
  · exact ⟨_, run_live _ hs, onlyRegs_effect_self (lockDeclared_far (b := s.quiet) hp)⟩
  · have he := bwStepDown_above (b := s.quiet) hl hbw
    refine ⟨_, run_live _ hs, ?_, onlyRegs_effect ?_⟩
    · rw [Block.effect_fld, he, Block.fld_setFld_same, Block.quiet_fld, F.REFS_STATUS_BW_NOW_width]
      exact Nat.mod_eq_of_lt (by omega)
    · rw [he]; exact (Block.writes_refl _ _).setFld List.mem_cons_self _
  · exact ⟨_, run_live _ hs, onlyRegs_effect_self (bwStepDown_done (b := s.quiet) hbw)⟩
  · have he := freqHistoryStore_locked (b := s.quiet) hl
    refine ⟨_, run_live _ hs, ?_⟩
    simp only [Block.effect_refs, he, Block.quiet_historyNext, Block.quiet_refs, Block.quiet_fld]
    exact ⟨trivial, trivial, trivial, decide_eq_true_iff, regsKept_effect (he ▸ Block.keeps.of_regs (Block.keeps_refl _ _) rfl)⟩
  · exact ⟨_, run_live _ hs, onlyRegs_effect_self (freqHistoryStore_unlocked (b := s.quiet) hl)⟩
  · have hel := Block.heldOver_elapsed (b := s.quiet) hc
    have hst : s.quiet.heldOver.loopState = 4 := by simpa [Block.heldOver, Block.loopState, Block.fld_setFld_ne] using hl
    have hone : s.quiet.writes s.quiet.heldOver [F.HO_ELAPSED_SECONDS.key 0] := (Block.writes_refl _ _).setFld List.mem_cons_self _
    refine ⟨_, run_live _ hs, ?_⟩
    cases hw : s.hoWithin (s.fld F.HO_ELAPSED_SECONDS 0 + 1) with
    | true =>
      have he := holdoverCheck_within (b := s.quiet) hc hl hw
      simp only [Block.effect_loopState, Block.effect_fld, he]
      exact ⟨hel, hst, nofun, fun _ => onlyRegs_effect (he ▸ hone)⟩
    | false =>
      have he := holdoverCheck_expires (b := s.quiet) hc hl hw hx
      simp only [Block.effect_loopState, Block.effect_fld, he]
      refine ⟨?_, ?_, fun _ => by simp, nofun⟩
      · simpa using hel
      · simpa [Block.loopState] using hst
  · exact ⟨_, run_live _ hs, onlyRegs_effect_self (holdoverCheck_elsewhere (b := s.quiet) hl)⟩

end Sys2Proof.Machine
end

section
/-!
Reads that latch: O4.
-/
namespace Sys2Proof.Machine

/-! ### Reads that latch (R71, R126) -/

/-- A read of the position shows the frame and latches the rest of it. -/
theorem tlPosFrameLoRead_latches (b : Block) (k : Nat) :
    Out.read (b.tlFrame k % 2 ^ 32) ∈ (tlPosFrameLoRead k b).out ∧
      (tlPosFrameLoRead k b).fld F.TL_POS_FRAME_HI_FRAME k = b.tlFrame k / 2 ^ 32 % 2 ^ 16 ∧
      (tlPosFrameLoRead k b).fld F.TL_POS_LINE_LINE k = b.tlLine k % 2 ^ 12 ∧
      (tlPosFrameLoRead k b).fld F.TL_POS_LINE_SAMPLE k = b.tlSample k % 2 ^ 14 ∧
      b.writes (tlPosFrameLoRead k b) [F.TL_POS_FRAME_HI_FRAME.key k, F.TL_POS_LINE_LINE.key k, F.TL_POS_LINE_SAMPLE.key k] := by
  rw [tlPosFrameLoRead]
  refine ⟨List.mem_append_right _ (List.mem_singleton_self _), ?_, ?_, ?_, ?_⟩
  · simp [Block.fld_setFld_ne]
  · simp [Block.fld_setFld_ne]
  · simp
  · exact ((((b.writes_refl _).setFld (by simp) _).setFld (by simp) _).setFld (by simp) _).emit _

/-- A read of a queue's oldest entry shows it, latches its time and takes it out. -/
theorem capNsRead_takes {b : Block} {n : Nat} {e : CapEntry} {rest : List CapEntry} (h : b.capQueue n = e :: rest) :
    Out.read (e.ns + bit e.rising * 2 ^ 30 + 2 ^ 31) ∈ (capNsRead n b).out ∧ (capNsRead n b).capQueue n = rest ∧
      (capNsRead n b).fld F.CAP_SEC_LO_SEC n = e.sec % 2 ^ 32 ∧ (capNsRead n b).fld F.CAP_SEC_HI_SEC n = e.sec / 2 ^ 32 % 2 ^ 16 ∧
      (capNsRead n b).fld F.CAP_SEC_HI_FRAC n = e.frac % 2 ^ 16 ∧ (∀ m, m ≠ n → (capNsRead n b).capQueue m = b.capQueue m) ∧
      b.keeps (capNsRead n b) [F.CAP_SEC_LO_SEC.key n, F.CAP_SEC_HI_SEC.key n, F.CAP_SEC_HI_FRAC.key n] := by
  have hr : capNsRead n b = ((((b.setCapQueue n rest).setFld F.CAP_SEC_LO_SEC n e.sec).setFld F.CAP_SEC_HI_SEC n (e.sec / 2 ^ 32)).setFld
      F.CAP_SEC_HI_FRAC n e.frac).emit (.read (e.ns + bit e.rising * 2 ^ 30 + 2 ^ 31)) := by
    simp only [capNsRead, h, capWord]
  have hq : ∀ m, (capNsRead n b).capQueue m = (b.time.caps.put n rest).look m := fun m => by rw [hr]; rfl
  refine ⟨hr ▸ List.mem_append_right _ (List.mem_singleton_self _), ?_, ?_, ?_, ?_, ?_, ?_⟩
  · rw [hq, Bank.look_put_same]
  · rw [hr]; simp [Block.fld_setFld_ne]
  · rw [hr]; simp [Block.fld_setFld_ne]
  · rw [hr]; simp
  · intro m hm
    rw [hq, Bank.look_put_ne _ _ hm]
    rfl
  · rw [hr]
    exact (((((b.keeps_refl _).of_regs rfl).setFld (by simp) _).setFld (by simp) _).setFld (by simp) _).of_regs rfl

/-- A read with nothing captured shows a word with `VALID` 0. -/
theorem capNsRead_empty {b : Block} {n : Nat} (h : b.capQueue n = []) : capNsRead n b = b.emit (.read 0) := by
  simp [capNsRead, h]

/-- Settles O4: each read's effect, through `tlPosFrameLoRead_latches` and `capNsRead_takes`, on a device that shows nothing yet. -/
theorem readsLatchTheirWords : Obligations.ReadsLatchTheirWords := by
  intro s hs
  refine ⟨fun k _ hr => ?_, fun n e rest _ hq hr => ?_, fun n hq hr => ?_⟩
  · obtain ⟨hout, hhi, hline, hsample, hkeep⟩ := tlPosFrameLoRead_latches s.quiet k
    simp only [Block.quiet_tlFrame, Block.quiet_tlLine, Block.quiet_tlSample] at hout hhi hline hsample
    refine ⟨_, run_reaches hs hr _ _, mem_effect_out hout, ?_, ?_, ?_, onlyRegs_effect hkeep⟩
    · rw [Block.effect_fld, hhi]
    · rw [Block.effect_fld, hline]
    · rw [Block.effect_fld, hsample]
  · obtain ⟨hout, hrest, hlo, hhi, hfrac, hothers, hkeep⟩ := capNsRead_takes (b := s.quiet) hq
    refine ⟨_, run_reaches hs hr _ _, mem_effect_out hout, hrest, ?_, ?_, ?_, hothers, hkeep⟩
    · rw [Block.effect_fld, hlo]
    · rw [Block.effect_fld, hhi]
    · rw [Block.effect_fld, hfrac]
  · have he : capNsRead n s.quiet = s.quiet.emit (.read 0) := capNsRead_empty hq
    refine ⟨_, run_reaches hs hr _ _, mem_effect_out ?_, onlyRegs_effect ?_⟩ <;> rw [he]
    · exact List.mem_append_right _ (List.mem_singleton_self _)
    · exact (Block.writes_refl _ _).emit _

end Sys2Proof.Machine
end

section
/-!
House timelines and frame pulses: O5.
-/
namespace Sys2Proof.Machine

/-! ### A write of `TL_CFG` (R69, R70, R81) -/

theorem bit_mod_two (x : Nat) : bit (x % 2 == 1) = x % 2 := by
  rcases Nat.mod_two_eq_zero_or_one x with h | h <;> simp [h, bit]

/-- A timeline's frame is read from its time and its rate. -/
theorem Block.tlFrame_congr {b c : Block} {k : Nat} (ht : c.tlTime k = b.tlTime k) (hr : c.fld F.TL_CFG_RATE k = b.fld F.TL_CFG_RATE k) :
    c.tlFrame k = b.tlFrame k := by
  simp only [Block.tlFrame, Block.tlCount, Block.tlNum, Block.tlDen, ht, hr]

theorem Block.writes.time {b c : Block} {ks : List Nat} (h : b.writes c ks) : c.time = b.time := by
  rw [← h.2]

/-- Registers that are none of the timeline's leave its frame. -/
theorem Block.writes.tlFrame {b c : Block} {ks : List Nat} (h : b.writes c ks) {k : Nat} (he : F.TL_CFG_ENABLE.key k ∉ ks)
    (hr : F.TL_CFG_RATE.key k ∉ ks) : c.tlFrame k = b.tlFrame k := by
  refine Block.tlFrame_congr ?_ (h.1.fld hr)
  have ho : c.tlOn k = b.tlOn k := congrArg (· == 1) (h.1.fld he)
  rw [Block.tlTime, Block.tlTime, ho, h.refs, h.time]

/-- The device with the position of a timeline that is disabled held. -/
def Block.tlHold (b : Block) (k : Nat) (en : Bool) : Block :=
  b.ite (b.tlOn k && !en) fun b => { b with refs := { b.refs with tlHeld := b.refs.tlHeld.put k b.time.now } }

theorem Block.tlEnable_eq (b : Block) (k : Nat) (en : Bool) : b.tlEnable k en = (b.tlHold k en).setTo F.TL_CFG_ENABLE k en := rfl

theorem Block.tlHold_regs (b : Block) (k : Nat) (en : Bool) : (b.tlHold k en).regs = b.regs := Block.ite_cases (P := fun c => c.regs = _) _ rfl rfl
theorem Block.tlEnable_time (b : Block) (k : Nat) (en : Bool) : (b.tlEnable k en).time = b.time :=
  Block.ite_cases (P := fun c => c.time = b.time) (b.tlOn k && !en) rfl rfl

theorem Block.tlEnable_enable (b : Block) (k : Nat) (en : Bool) : (b.tlEnable k en).fld F.TL_CFG_ENABLE k = bit en := by
  rw [Block.tlEnable_eq, Block.fld_setTo_same]
  cases en <;> rfl

theorem Block.keeps.tlEnable {b c : Block} {ks : List Nat} {k : Nat} (h : b.keeps c ks) (hk : F.TL_CFG_ENABLE.key k ∈ ks) (en : Bool) :
    b.keeps (c.tlEnable k en) ks := (h.of_regs (c.tlHold_regs k en)).setFld hk _

/-- A timeline that is not enabled has no position to hold. -/
theorem Block.writes.tlEnable {b c : Block} {ks : List Nat} {k : Nat} (h : b.writes c ks) (hk : F.TL_CFG_ENABLE.key k ∈ ks) (ho : c.tlOn k = false)
    (en : Bool) : b.writes (c.tlEnable k en) ks := by
  rw [Block.tlEnable_eq, Block.tlHold, ho, Bool.false_and, Block.ite_false]
  exact h.setFld hk _

/-- An enabled timeline goes on from its frame, and one that is disabled goes on showing it (R81). -/
theorem Block.tlFrame_tlEnable {b : Block} {k : Nat} (ho : b.tlOn k = true) (en : Bool) : (b.tlEnable k en).tlFrame k = b.tlFrame k := by
  have hon : (b.tlEnable k en).tlOn k = en := by
    rw [Block.tlOn, Block.on, Block.tlEnable_enable]
    cases en <;> rfl
  refine Block.tlFrame_congr ?_ (((b.keeps_refl [F.TL_CFG_ENABLE.key k]).tlEnable List.mem_cons_self en).fld (by simp))
  cases en with
  | true => rw [Block.tlTime, Block.tlTime, hon, ho, if_pos rfl, if_pos rfl, Block.tlEnable_time]
  | false =>
    rw [Block.tlTime, Block.tlTime, hon, ho, if_neg (by decide), if_pos rfl, Block.tlEnable_eq, Block.tlHold, ho]
    exact Bank.look_put_same _ _ _

/-- The fields of `TL_CFG` that an enabled timeline keeps (R70). -/
def tlCfgKept : List Field := [F.TL_CFG_RATE, F.TL_CFG_RASTER, F.TL_CFG_SPL]

theorem enable_of (v : Nat) : bit (F.TL_CFG_ENABLE.of v == 1) = v % 2 := by
  have h : F.TL_CFG_ENABLE.of v = v % 2 := by simp [Field.of, bitsOf, F.TL_CFG_ENABLE]
  rw [h, bit_mod_two]

theorem rate_of (v : Nat) : F.TL_CFG_RATE.of v = v / 2 % 8 := rfl
theorem raster_of (v : Nat) : F.TL_CFG_RASTER.of v = v / 16 % 4 := rfl

/-- What a word of `TL_CFG` is stored as (R701). -/
theorem tlCfg_stored (v : Nat) : F.TL_CFG_RATE.stored (F.TL_CFG_RATE.of v) = v / 2 % 8 ∧ F.TL_CFG_RASTER.stored (F.TL_CFG_RASTER.of v) = v / 16 % 4 ∧
    F.TL_CFG_SPL.stored (F.TL_CFG_SPL.of v) = max 1 (v / 2 ^ 16 % 2 ^ 14) := by
  refine ⟨Nat.mod_mod _ 8, Nat.mod_mod _ 4, ?_⟩
  have hs : F.TL_CFG_SPL.stored (F.TL_CFG_SPL.of v) = clampNat 1 16383 (v / 2 ^ 16 % 2 ^ 14 % 2 ^ 14) := rfl
  rw [hs, Nat.mod_mod, clampNat]
  split
  · omega
  · split <;> omega

/-- A field that a word leaves unchanged holds what the word gives it. -/
theorem Block.fld_of_unchanged {b : Block} {fs : List Field} {n v : Nat} (h : b.unchanged fs n v = true) {f : Field} (hf : f ∈ fs) (ha : f.acc = .rw) :
    b.fld f n = f.stored (f.of v) := by
  have hu := List.all_eq_true.mp h f hf
  rw [if_pos (Or.inl ha)] at hu
  exact (beq_iff_eq.mp hu).symm

theorem tlCfgWrite_unchanged {b : Block} {k v : Nat} (h : b.unchanged tlCfgKept k v = true) :
    tlCfgWrite k v b = b.tlEnable k (F.TL_CFG_ENABLE.of v == 1) := congrArg (Block.tlEnable · k _) (if_pos h)

section
variable {b : Block} {k v : Nat} (h : b.unchanged tlCfgKept k v = false)
include h

theorem tlCfgWrite_rejected (hr : b.on F.TL_CFG_ENABLE k = true ∨ rateFamily k (v / 2 % 8) = false ∨ rasterPair (v / 16 % 4) (v / 2 % 8) = false) :
    tlCfgWrite k v b = (b.reject 2 F.REFS_HIST_TL_CFG_REJECTED 0).tlEnable k (F.TL_CFG_ENABLE.of v == 1) := by
  have hc : b.tlOn k = true ∨ ¬(rateFamily k (F.TL_CFG_RATE.of v) && rasterPair (F.TL_CFG_RASTER.of v) (F.TL_CFG_RATE.of v)) = true := by
    rcases hr with hr | hr | hr
    · exact Or.inl hr
    · exact Or.inr (by rw [rate_of, hr]; simp)
    · exact Or.inr (by rw [rate_of, raster_of, hr]; simp)
  exact congrArg (Block.tlEnable · k _) ((if_neg (by rw [Bool.not_eq_true]; exact h)).trans (if_pos hc))

theorem tlCfgWrite_stored (ho : b.on F.TL_CFG_ENABLE k = false) (hr : rateFamily k (v / 2 % 8) = true)
    (hp : rasterPair (v / 16 % 4) (v / 2 % 8) = true) : tlCfgWrite k v b = (b.storeWord tlCfgKept k v).tlEnable k (F.TL_CFG_ENABLE.of v == 1) := by
  have hc : ¬(b.tlOn k = true ∨ ¬(rateFamily k (F.TL_CFG_RATE.of v) && rasterPair (F.TL_CFG_RASTER.of v) (F.TL_CFG_RATE.of v)) = true) := by
    rw [rate_of, raster_of, hr, hp, Block.tlOn, ho]
    simp
  exact congrArg (Block.tlEnable · k _) ((if_neg (by rw [Bool.not_eq_true]; exact h)).trans (if_neg hc))

end

theorem tlCfgKept_nodup (k : Nat) : tlCfgKept.Pairwise (·.key k ≠ ·.key k) := by simp [tlCfgKept]

/-- A disabled timeline takes a word that the rules allow, whether it changes anything or not. -/
theorem tlCfgWrite_taken {b : Block} {k v : Nat} (ho : b.on F.TL_CFG_ENABLE k = false) (hr : rateFamily k (v / 2 % 8) = true)
    (hp : rasterPair (v / 16 % 4) (v / 2 % 8) = true) : ∃ c, tlCfgWrite k v b = c.tlEnable k (F.TL_CFG_ENABLE.of v == 1) ∧
      c.fld F.TL_CFG_RATE k = v / 2 % 8 ∧ c.fld F.TL_CFG_RASTER k = v / 16 % 4 ∧ c.fld F.TL_CFG_SPL k = max 1 (v / 2 ^ 16 % 2 ^ 14) ∧
      c.tlOn k = false ∧ b.writes c (tlCfgKept.map (·.key k)) := by
  obtain ⟨hrate, hraster, hspl⟩ := tlCfg_stored v
  have hw := (b.writes_refl (tlCfgKept.map (·.key k))).storeWord (fun f hf => List.mem_map_of_mem hf) v
  have hof : (b.storeWord tlCfgKept k v).tlOn k = false := (congrArg (· == 1) (hw.1.fld (by simp [tlCfgKept]))).trans ho
  have hfld : ∀ f ∈ tlCfgKept, f.acc = .rw → (b.storeWord tlCfgKept k v).fld f k = f.stored (f.of v) % 2 ^ f.width := fun f hf ha =>
    Block.fld_storeWord b hf ha (tlCfgKept_nodup k) v
  cases h : b.unchanged tlCfgKept k v with
  | true =>
    refine ⟨b, tlCfgWrite_unchanged h, ?_, ?_, ?_, ho, b.writes_refl _⟩
    · rw [Block.fld_of_unchanged h (by simp [tlCfgKept]) rfl, hrate]
    · rw [Block.fld_of_unchanged h (by simp [tlCfgKept]) rfl, hraster]
    · rw [Block.fld_of_unchanged h (by simp [tlCfgKept]) rfl, hspl]
  | false =>
    refine ⟨_, tlCfgWrite_stored h ho hr hp, ?_, ?_, ?_, hof, hw⟩
    · rw [hfld F.TL_CFG_RATE (by simp [tlCfgKept]) rfl, hrate, F.TL_CFG_RATE_width]; omega
    · rw [hfld F.TL_CFG_RASTER (by simp [tlCfgKept]) rfl, hraster, F.TL_CFG_RASTER_width]; omega
    · rw [hfld F.TL_CFG_SPL (by simp [tlCfgKept]) rfl, hspl, F.TL_CFG_SPL_width]; omega

/-! ### Frame pulses (R72 to R77) -/

@[simp] theorem Block.fp_updFp_same (b : Block) (j : Nat) (f : FpSt → FpSt) : (b.updFp j f).fp j = f (b.fp j) := Bank.look_upd_same _ _ _
theorem Block.fp_updFp_ne (b : Block) {i j : Nat} (h : i ≠ j) (f : FpSt → FpSt) : (b.updFp j f).fp i = b.fp i := Bank.look_upd_ne _ _ h

/-- A pulse of output `j` for frame `n`, its misalignment stored. -/
def Block.pulsed (b : Block) (j n : Nat) : Block :=
  ((b.ite (!b.pinBad (fpPin j)) fun b => b.emit (.framePulse j n ((b.fp j).ofs - (b.fp j).off) (b.fld F.FP_CFG_WIDTH j * 100) (b.on F.FP_CFG_POL j)
    (b.fpMis j n))).setSfld F.FP_MISALIGN_MIS j (b.fpMis j n)).updFp j fun f => { f with last := some n, endRaw := b.time.raw + b.fld F.FP_CFG_WIDTH j * 100 }

theorem Block.pulsed_regs (b : Block) (j n : Nat) : (b.pulsed j n).regs = (b.setSfld F.FP_MISALIGN_MIS j (b.fpMis j n)).regs := by
  cases h : b.pinBad (fpPin j) <;> simp only [Block.pulsed, h, Bool.not_true, Bool.not_false, Block.ite_true, Block.ite_false] <;> rfl

theorem Block.fld_pulsed_ne (b : Block) {f : Field} {m j : Nat} (h : f.key m ≠ F.FP_MISALIGN_MIS.key j) (n : Nat) : (b.pulsed j n).fld f m = b.fld f m :=
  (Block.fld_congr (b.pulsed_regs j n) f m).trans (Block.fld_setSfld_ne _ h _)

theorem Block.fpEmit_eq (b : Block) (j n : Nat) : b.fpEmit j n = (b.pulsed j n).ite (decide (b.fld F.FP_CFG_TOL j < (b.fpMis j n).natAbs)) fun b =>
    b.set F.REFS_HIST_FP_MISALIGNED 0 := by
  have ht : (b.pulsed j n).fld F.FP_CFG_TOL j = b.fld F.FP_CFG_TOL j := b.fld_pulsed_ne (by simp) n
  rw [← ht]
  unfold Block.fpEmit Block.pulsed
  cases b.pinBad (fpPin j) <;> rfl

theorem Block.pulsed_time (b : Block) (j n : Nat) : (b.pulsed j n).time = b.time := by
  unfold Block.pulsed
  cases b.pinBad (fpPin j) <;> rfl

theorem Block.fp_pulsed (b : Block) (j n : Nat) :
    (b.pulsed j n).fp j = { b.fp j with last := some n, endRaw := b.time.raw + b.fld F.FP_CFG_WIDTH j * 100 } := by
  unfold Block.pulsed
  cases b.pinBad (fpPin j) <;> exact Block.fp_updFp_same _ _ _

section
variable (b : Block) (j n : Nat)

theorem Block.fpEmit_time : (b.fpEmit j n).time = b.time := by
  rw [Block.fpEmit_eq]
  exact Block.ite_cases (P := fun c => c.time = b.time) _ (b.pulsed_time j n) (b.pulsed_time j n)

theorem Block.fp_fpEmit : (b.fpEmit j n).fp j = { b.fp j with last := some n, endRaw := b.time.raw + b.fld F.FP_CFG_WIDTH j * 100 } := by
  rw [Block.fpEmit_eq]
  exact Block.ite_cases (P := fun c => c.fp j = _) _ (b.fp_pulsed j n) (b.fp_pulsed j n)

theorem Block.fpEmit_keeps : b.keeps (b.fpEmit j n) [F.FP_MISALIGN_MIS.key j, F.REFS_HIST_FP_MISALIGNED.key 0] := by
  have hp : b.keeps (b.pulsed j n) [F.FP_MISALIGN_MIS.key j, F.REFS_HIST_FP_MISALIGNED.key 0] :=
    ((b.keeps_refl _).setFld List.mem_cons_self _).of_regs (b.pulsed_regs j n)
  rw [Block.fpEmit_eq]
  exact Block.ite_cases (P := fun c => b.keeps c _) _ hp (hp.setFld (List.mem_cons_of_mem _ List.mem_cons_self) _)

theorem Block.fpEmit_mis : (b.fpEmit j n).fld F.FP_MISALIGN_MIS j = patternOf 32 (b.fpMis j n) := by
  have hp : (b.pulsed j n).fld F.FP_MISALIGN_MIS j = patternOf 32 (b.fpMis j n) :=
    (Block.fld_congr (b.pulsed_regs j n) _ _).trans (Block.fld_setSfld_same _ _ _ _)
  rw [Block.fpEmit_eq]
  exact Block.ite_cases (P := fun c => c.fld F.FP_MISALIGN_MIS j = _) _ hp ((Block.fld_set_ne _ (by simp; omega)).trans hp)

/-- A pulse further off than `TOL` says so (R74). -/
theorem Block.fpEmit_past {b : Block} {j n : Nat} (h : b.fld F.FP_CFG_TOL j < (b.fpMis j n).natAbs) :
    (b.fpEmit j n).fld F.REFS_HIST_FP_MISALIGNED 0 = 1 := by
  rw [Block.fpEmit_eq, decide_eq_true h, Block.ite_true, Block.fld_set_same]
  rfl

theorem Block.fpEmit_out {b : Block} {j : Nat} (h : b.pinBad (fpPin j) = false) (n : Nat) :
    Out.framePulse j n ((b.fp j).ofs - (b.fp j).off) (b.fld F.FP_CFG_WIDTH j * 100) (b.on F.FP_CFG_POL j) (b.fpMis j n) ∈ (b.fpEmit j n).out := by
  have hp : Out.framePulse j n ((b.fp j).ofs - (b.fp j).off) (b.fld F.FP_CFG_WIDTH j * 100) (b.on F.FP_CFG_POL j) (b.fpMis j n) ∈
      (b.pulsed j n).out := by
    rw [Block.pulsed, h]
    exact List.mem_append_right _ (List.mem_singleton_self _)
  rw [Block.fpEmit_eq]
  exact Block.ite_cases (P := fun c => _ ∈ c.out) _ hp hp

/-- A pulse of some width stands at `POL`'s level (R76). -/
theorem Block.fpEmit_level {b : Block} {j : Nat} (h : 0 < b.fld F.FP_CFG_WIDTH j) (n : Nat) : (b.fpEmit j n).fpOut j = b.on F.FP_CFG_POL j := by
  have hp : (b.fpEmit j n).on F.FP_CFG_POL j = b.on F.FP_CFG_POL j := congrArg (· == 1) ((b.fpEmit_keeps j n).fld (by simp; omega))
  rw [Block.fpOut, Block.fp_fpEmit, Block.fpEmit_time, if_pos (by dsimp only; omega), hp]

end

/-! ### What a pulse is misaligned by (R72, R74, R75) -/

/-- Misalignment is read from the timelines' rates, the output's registers and what its pulses keep. -/
theorem Block.fpMis_congr {b c : Block} {ks : List Nat} (h : b.keeps c ks) {j : Nat} (ht : (c.fp j).tl = (b.fp j).tl) (hs : (c.fp j).ofs = (b.fp j).ofs)
    (ho : (c.fp j).off = (b.fp j).off) (hr : ∀ k, F.TL_CFG_RATE.key k ∉ ks)
    (hj : ∀ f ∈ [F.FP_CFG_TL, F.FP_CFG_DIV, F.FP_OFS_OFS], f.key j ∉ ks) (n : Nat) : c.fpMis j n = b.fpMis j n := by
  have hrate : ∀ k, c.fld F.TL_CFG_RATE k = b.fld F.TL_CFG_RATE k := fun k => h.fld (hr k)
  simp only [Block.fpMis, Block.sfld, Block.tlNum, Block.tlDen, hrate, ht, hs, ho, h.fld (hj F.FP_CFG_TL (by simp)), h.fld (hj F.FP_CFG_DIV (by simp)),
    h.fld (hj F.FP_OFS_OFS (by simp))]

/-- A pulse leaves what the next is misaligned by. -/
theorem Block.fpMis_fpEmit (b : Block) (j n m : Nat) : (b.fpEmit j n).fpMis j m = b.fpMis j m := by
  refine Block.fpMis_congr (b.fpEmit_keeps j n) ?_ ?_ ?_ ?_ ?_ m
  · rw [Block.fp_fpEmit]
  · rw [Block.fp_fpEmit]
  · rw [Block.fp_fpEmit]
  · intro k; simp; omega
  · simp; omega

/-- A distance of whole periods folds to none. -/
theorem foldOver_of_dvd {x : Int} {p : Nat} (h : (p : Int) ∣ x) (q : Nat) : foldOver x p q = 0 := by
  simp [foldOver, Int.emod_eq_zero_of_dvd h]

/-- An output whose pulses are where the registers ask is not misaligned. -/
theorem Block.fpMis_aligned {b : Block} {j n : Nat} (ht : (b.fp j).tl = b.fld F.FP_CFG_TL j) (hs : (b.fp j).ofs = b.sfld F.FP_OFS_OFS j)
    (ho : (b.fp j).off = 0) (hn : n % (b.fld F.FP_CFG_DIV j + 1) = 0) : b.fpMis j n = 0 := by
  obtain ⟨k, hk⟩ := Nat.dvd_of_mod_eq_zero hn
  simp only [Block.fpMis, ht, hs, ho]
  refine foldOver_of_dvd ⟨-(k : Int), ?_⟩ _
  rw [hk]
  simp only [Int.ofNat_eq_natCast]
  push_cast
  ring

/-! ### FP_PULSE and FP_ALIGN_GO (R75, R76) -/

theorem fpFrame_iff (div n : Nat) : fpFrame div n = true ↔ n % (div + 1) = 0 := beq_iff_eq

theorem fpPulse_idle {b : Block} {j : Nat} (h : b.on F.FP_CFG_EN j = false ∨ b.time.raw < (b.fp j).endRaw) (n : Nat) : fpPulse j n b = b :=
  if_pos (h.imp_left Bool.eq_false_iff.mp)

section
variable {b : Block} {j : Nat} (hd : ¬(¬b.on F.FP_CFG_EN j = true ∨ b.time.raw < (b.fp j).endRaw))

/-- On frames that are not its own, or with its timeline stopped, an output does nothing. -/
theorem fpPulse_off {b : Block} {j n : Nat} (hs : (b.fp j).step = false) (h : n % ((b.fp j).div + 1) ≠ 0 ∨ b.tlOn (b.fp j).tl = false) :
    fpPulse j n b = b := by
  have hc : ¬(b.tlOn (b.fp j).tl = true ∧ fpFrame (b.fp j).div n = true) := by
    rw [fpFrame_iff]
    rcases h with h | h
    · exact fun hc => h hc.2
    · exact fun hc => Bool.eq_false_iff.mp h hc.1
  by_cases hd : ¬b.on F.FP_CFG_EN j = true ∨ b.time.raw < (b.fp j).endRaw
  · exact if_pos hd
  · exact (if_neg hd).trans ((if_neg (Bool.eq_false_iff.mp hs)).trans (if_neg hc))

include hd

/-- A pulse with no realignment under way. -/
theorem fpPulse_plain {n : Nat} (hs : (b.fp j).step = false) (ht : b.tlOn (b.fp j).tl = true) (hn : n % ((b.fp j).div + 1) = 0)
    (hw : (b.fp j).slew = 0) : fpPulse j n b = b.fpEmit j n :=
  (if_neg hd).trans ((if_neg (Bool.eq_false_iff.mp hs)).trans ((if_pos ⟨ht, (fpFrame_iff _ _).mpr hn⟩).trans (if_neg fun h => h hw)))

/-- What a pulse of a slew realignment moves by. -/
def Block.fpMove (b : Block) (j n : Nat) : Int := clampInt (-((b.fp j).slew : Int)) (b.fp j).slew (b.fpMis j n)

/-- A pulse of a slew realignment comes nearer. -/
theorem fpPulse_slew {n : Nat} (hs : (b.fp j).step = false) (ht : b.tlOn (b.fp j).tl = true) (hn : n % ((b.fp j).div + 1) = 0)
    (hw : (b.fp j).slew ≠ 0) : fpPulse j n b =
    (b.updFp j fun f => { f with off := f.off - b.fpMove j n, slew := if b.fpMis j n = b.fpMove j n then 0 else f.slew }).fpEmit j n :=
  (if_neg hd).trans ((if_neg (Bool.eq_false_iff.mp hs)).trans ((if_pos ⟨ht, (fpFrame_iff _ _).mpr hn⟩).trans (if_pos hw)))

/-- The device with an output's pulses where its registers ask, its step realignment made. -/
def Block.fpStepMade (b : Block) (j : Nat) : Block := (b.fpTake j 0).updFp j fun f => { f with step := false }

/-- A pulse of a step realignment comes where the registers ask, unless it would come too soon after the last. -/
theorem fpPulse_step {n : Nat} (hs : (b.fp j).step = true) (ht : b.tlOn (b.fld F.FP_CFG_TL j) = true) (hn : n % (b.fld F.FP_CFG_DIV j + 1) = 0) :
    fpPulse j n b = if (b.fpStepMade j).fpTooSoon b j n then b.fpStepMade j else (b.fpStepMade j).fpEmit j n :=
  (if_neg hd).trans ((if_pos hs).trans (if_pos ⟨ht, (fpFrame_iff _ _).mpr hn⟩))

end

theorem Block.fp_fpTake (b : Block) (j : Nat) (off : Int) : (b.fpTake j off).fp j =
    { b.fp j with tl := b.fld F.FP_CFG_TL j, div := b.fld F.FP_CFG_DIV j, ofs := b.sfld F.FP_OFS_OFS j, off := off } := Block.fp_updFp_same _ _ _

theorem Block.fp_fpStepMade (b : Block) (j : Nat) : (b.fpStepMade j).fp j =
    { b.fp j with tl := b.fld F.FP_CFG_TL j, div := b.fld F.FP_CFG_DIV j, ofs := b.sfld F.FP_OFS_OFS j, off := 0, step := false } := by
  rw [Block.fpStepMade, Block.fp_updFp_same, Block.fp_fpTake]

/-- A value held within a range of zero is the value, or at the range's end. -/
theorem clampInt_natAbs (w : Nat) (d : Int) :
    (clampInt (-(w : Int)) w d).natAbs ≤ w ∧ (clampInt (-(w : Int)) w d = d ∨ (clampInt (-(w : Int)) w d).natAbs = w) := by
  unfold clampInt
  split
  · omega
  · split <;> omega

theorem fpAlignGo_idle {v : Nat} (h : v % 2 = 0) (j : Nat) (b : Block) : fpAlignGo j v b = b := by
  have hg : F.FP_ALIGN_GO.of v = v % 2 := by simp [Field.of, bitsOf, F.FP_ALIGN_GO]
  exact if_neg (by omega)

theorem fpAlignGo_go {v : Nat} (h : v % 2 = 1) (j : Nat) (b : Block) : fpAlignGo j v b = b.fpRealign j (v / 2 % 2 == 1) (v / 2 ^ 16 % 2 ^ 16) := by
  have hg : F.FP_ALIGN_GO.of v = v % 2 := by simp [Field.of, bitsOf, F.FP_ALIGN_GO]
  exact if_pos (by omega)

/-- A slew realignment takes the registers at once, some way off, and comes nearer from there. -/
theorem Block.fpRealign_slew (b : Block) (j ns : Nat) : ∃ off, b.fpRealign j true ns =
    (b.fpTake j off).updFp j fun f => { f with step := false, slew := max 1 ns } := by
  cases h : (b.fp j).last with
  | none => exact ⟨0, by simp only [Block.fpRealign, h, if_true]⟩
  | some n => exact ⟨b.fpMis j n, by simp only [Block.fpRealign, h, if_true]⟩

theorem Block.fpRealign_slew_fp (b : Block) (j ns : Nat) : ∃ off, (b.fpRealign j true ns).fp j =
    { b.fp j with tl := b.fld F.FP_CFG_TL j, div := b.fld F.FP_CFG_DIV j, ofs := b.sfld F.FP_OFS_OFS j, off := off, step := false, slew := max 1 ns } := by
  obtain ⟨off, he⟩ := b.fpRealign_slew j ns
  exact ⟨off, by rw [he, Block.fp_updFp_same, Block.fp_fpTake]⟩

/-- A realignment starts in its own output only, and writes no register. -/
theorem Block.fpRealign_keeps (b : Block) (j : Nat) (slew : Bool) (ns : Nat) :
    (b.fpRealign j slew ns).regs = b.regs ∧ ∀ i, i ≠ j → (b.fpRealign j slew ns).fp i = b.fp i := by
  cases slew with
  | false => exact ⟨rfl, fun i hi => Block.fp_updFp_ne _ hi _⟩
  | true =>
    obtain ⟨off, he⟩ := b.fpRealign_slew j ns
    rw [he]
    exact ⟨rfl, fun i hi => (Block.fp_updFp_ne _ hi _).trans (Block.fp_updFp_ne _ hi _)⟩

/-- Output `j` is enabled, and its last pulse is over. -/
theorem fpPulse_due {b : Block} {j : Nat} (he : b.on F.FP_CFG_EN j = true) (hr : (b.fp j).endRaw ≤ b.time.raw) :
    ¬(¬b.on F.FP_CFG_EN j = true ∨ b.time.raw < (b.fp j).endRaw) := not_or.mpr ⟨not_not.mpr he, Nat.not_lt.mpr hr⟩

/-- What a pulse of a step realignment leaves, whether it comes or would come too soon (R75). -/
theorem fpPulse_step_state {b : Block} {j n : Nat} (he : b.on F.FP_CFG_EN j = true) (hr : (b.fp j).endRaw ≤ b.time.raw) (hs : (b.fp j).step = true)
    (ht : b.tlOn (b.fld F.FP_CFG_TL j) = true) (hn : n % (b.fld F.FP_CFG_DIV j + 1) = 0) :
    ((fpPulse j n b).fp j).off = 0 ∧ ((fpPulse j n b).fp j).step = false ∧ ((fpPulse j n b).fp j).tl = b.fld F.FP_CFG_TL j ∧
      ((fpPulse j n b).fp j).div = b.fld F.FP_CFG_DIV j ∧ ((fpPulse j n b).fp j).ofs = b.sfld F.FP_OFS_OFS j := by
  have hm := b.fp_fpStepMade j
  rw [fpPulse_step (fpPulse_due he hr) hs ht hn]
  split
  · rw [hm]
    exact ⟨rfl, rfl, rfl, rfl, rfl⟩
  · rw [Block.fp_fpEmit, hm]
    exact ⟨rfl, rfl, rfl, rfl, rfl⟩

/-- The first pulse of a step realignment comes, where the registers ask. -/
theorem fpPulse_step_first {b : Block} {j n : Nat} (he : b.on F.FP_CFG_EN j = true) (hr : (b.fp j).endRaw ≤ b.time.raw) (hs : (b.fp j).step = true)
    (ht : b.tlOn (b.fld F.FP_CFG_TL j) = true) (hn : n % (b.fld F.FP_CFG_DIV j + 1) = 0) (hl : (b.fp j).last = none) :
    (fpPulse j n b).fld F.FP_MISALIGN_MIS j = 0 ∧ ((fpPulse j n b).fp j).last = some n := by
  have hm := b.fp_fpStepMade j
  have hsoon : (b.fpStepMade j).fpTooSoon b j n = false := by simp only [Block.fpTooSoon, hl]
  have hmis : (b.fpStepMade j).fpMis j n = 0 := Block.fpMis_aligned (by rw [hm]; rfl) (by rw [hm]; rfl) (by rw [hm]) hn
  rw [fpPulse_step (fpPulse_due he hr) hs ht hn, hsoon, if_neg Bool.false_ne_true]
  refine ⟨?_, ?_⟩
  · rw [Block.fpEmit_mis, hmis]
    rfl
  · rw [Block.fp_fpEmit]

/-- What a pulse of a slew realignment leaves (R75). -/
theorem fpPulse_slew_state {b : Block} {j n : Nat} (he : b.on F.FP_CFG_EN j = true) (hr : (b.fp j).endRaw ≤ b.time.raw) (hs : (b.fp j).step = false)
    (ht : b.tlOn (b.fp j).tl = true) (hn : n % ((b.fp j).div + 1) = 0) (hw : (b.fp j).slew ≠ 0) :
    ((fpPulse j n b).fp j).off = (b.fp j).off - b.fpMove j n ∧
      (fpPulse j n b).fld F.FP_MISALIGN_MIS j = patternOf 32 ((fpPulse j n b).fpMis j n) ∧ ((fpPulse j n b).fp j).last = some n ∧
      ((fpPulse j n b).fp j).slew = if b.fpMis j n = b.fpMove j n then 0 else (b.fp j).slew := by
  rw [fpPulse_slew (fpPulse_due he hr) hs ht hn hw, Block.fpMis_fpEmit, Block.fpEmit_mis, Block.fp_fpEmit, Block.fp_updFp_same]
  exact ⟨rfl, rfl, rfl, rfl⟩

/-- Settles O5: a write of `TL_CFG` is refused, taken or unchanged before `tlEnable`; a pulse is plain, a step's or a slew's, by the output's
realignment; `GO` is `fpRealign`. -/
theorem timelinesAndFramePulses : Obligations.TimelinesAndFramePulses := by
  intro s hs
  refine ⟨fun k v _ hr hu hbad => ?_, fun k v _ hr ho hrate hpair => ?_, fun k v _ hr hu => ?_, fun j n hj hen hraw ht hn hstep hslew => ?_,
    fun j n h => ?_, fun j n hstep h => ?_, fun j n hj hen hraw ht hn hstep => ?_, fun j n hj hen hraw ht hn hstep hslew => ?_,
    fun j v hv hr => ?_, fun j v hv hr => ?_⟩
  · have he := tlCfgWrite_rejected (b := s.quiet) hu hbad
    have hw : s.quiet.writes (s.quiet.reject 2 F.REFS_HIST_TL_CFG_REJECTED 0) [F.REFS_HIST_TL_CFG_REJECTED.key 0, F.BLK_REJECT_CNT_COUNT.key 2] :=
      ((Block.writes_refl _ _).setFld (by simp) _).setFld (by simp) _
    have hk : s.quiet.keeps (s.quiet.reject 2 F.REFS_HIST_TL_CFG_REJECTED 0)
        [F.REFS_HIST_TL_CFG_REJECTED.key 0, F.BLK_REJECT_CNT_COUNT.key 2, F.TL_CFG_ENABLE.key k] :=
      ((Block.keeps_refl _ _).setFld (by simp) _).setFld (by simp) _
    have hone := (Block.keeps_refl (s.quiet.reject 2 F.REFS_HIST_TL_CFG_REJECTED 0) [F.TL_CFG_ENABLE.key k]).tlEnable List.mem_cons_self
      (F.TL_CFG_ENABLE.of v.toNat == 1)
    refine ⟨_, run_reaches hs hr _ _, ?_, ?_, ?_, fun ho => ?_, regsKept_effect ?_⟩
    · rw [Block.effect_fld, he, hone.fld (by simp; omega), Block.reject, Block.fld_bump_ne _ (by simp), Block.fld_set_same]
      rfl
    · rw [Block.effect_fld, he, Block.tlEnable_enable, enable_of]
    · rw [Block.effect_time, he, Block.tlEnable_time, hw.time, Block.quiet_time]
    · have ho' : (s.quiet.reject 2 F.REFS_HIST_TL_CFG_REJECTED 0).tlOn k = true := (congrArg (· == 1) (hw.1.fld (by simp; omega))).trans ho
      rw [Block.effect_tlFrame, he, Block.tlFrame_tlEnable ho', hw.tlFrame (by simp; omega) (by simp; omega), Block.quiet_tlFrame]
    · rw [he]
      exact hk.tlEnable (by simp) _
  · obtain ⟨c, he, hc1, hc2, hc3, hoff, hw⟩ := tlCfgWrite_taken (b := s.quiet) ho hrate hpair
    have hone := (c.keeps_refl [F.TL_CFG_ENABLE.key k]).tlEnable List.mem_cons_self (F.TL_CFG_ENABLE.of v.toNat == 1)
    refine ⟨_, run_reaches hs hr _ _, ?_, ?_, ?_, ?_, onlyRegs_effect ?_⟩
    · rw [Block.effect_fld, he, Block.tlEnable_enable, enable_of]
    · rw [Block.effect_fld, he, hone.fld (by simp), hc1]
    · rw [Block.effect_fld, he, hone.fld (by simp), hc2]
    · rw [Block.effect_fld, he, hone.fld (by simp), hc3]
    · rw [he]
      exact (hw.mono (by simp [tlCfgKept])).tlEnable (by simp) hoff _
  · have he := tlCfgWrite_unchanged (b := s.quiet) hu
    refine ⟨_, run_reaches hs hr _ _, ?_, ?_, fun ho => ?_⟩
    · rw [Block.effect_fld, he, Block.tlEnable_enable, enable_of]
    · refine regsKept_effect ?_
      rw [he]
      exact (Block.keeps_refl _ _).tlEnable List.mem_cons_self _
    · rw [Block.effect_tlFrame, he, Block.tlFrame_tlEnable (b := s.quiet) ho, Block.quiet_tlFrame]
  · have he := fpPulse_plain (b := s.quiet) (fpPulse_due hen hraw) hstep ht hn hslew
    refine ⟨_, run_live _ hs, fun hp => mem_effect_out ?_, ?_, fun hm => ?_, fun hw => ?_, ?_, regsKept_effect ?_⟩
    · rw [he]
      exact Block.fpEmit_out (b := s.quiet) hp n
    · rw [Block.effect_fld, he, Block.fpEmit_mis, Block.quiet_fpMis]
    · rw [Block.effect_fld, he, Block.fpEmit_past (b := s.quiet) hm]
    · rw [Block.effect_fpOut, he, Block.fpEmit_level (b := s.quiet) hw, Block.quiet_on]
    · rw [Block.effect_fp, he, Block.fp_fpEmit, Block.quiet_fp, Block.quiet_fld, Block.quiet_time]
    · rw [he]
      exact s.quiet.fpEmit_keeps j n
  · exact ⟨_, run_live _ hs, onlyRegs_effect_self (fpPulse_idle (b := s.quiet) h n)⟩
  · exact ⟨_, run_live _ hs, onlyRegs_effect_self (fpPulse_off (b := s.quiet) hstep h)⟩
  · obtain ⟨ho, hst, htl, hdiv, hofs⟩ := fpPulse_step_state (b := s.quiet) hen hraw hstep ht hn
    refine ⟨_, run_live _ hs, ?_⟩
    simp only [Block.effect_fp, Block.effect_fld]
    exact ⟨ho, hst, htl, hdiv, hofs, fun hl => fpPulse_step_first (b := s.quiet) hen hraw hstep ht hn hl⟩
  · obtain ⟨ho, hmis, hlast, hsl⟩ := fpPulse_slew_state (b := s.quiet) hen hraw hstep ht hn hslew
    obtain ⟨hle, hend⟩ := clampInt_natAbs (s.fp j).slew (s.fpMis j n)
    refine ⟨_, run_live _ hs, s.quiet.fpMove j n, hle, hend, ?_⟩
    simp only [Block.effect_fp, Block.effect_fld, Block.effect_fpMis]
    exact ⟨ho, hmis, hlast, fun hm => hsl.trans (if_pos hm.symm), fun hm => hsl.trans (if_neg (Ne.symm hm))⟩
  · have he := fpAlignGo_go hv j s.quiet
    obtain ⟨hregs, hfps⟩ := s.quiet.fpRealign_keeps j (v.toNat / 2 % 2 == 1) (v.toNat / 2 ^ 16 % 2 ^ 16)
    refine ⟨_, run_reaches hs hr _ _, fun hm => ?_, fun hm => ?_, regsKept_effect ?_, fun i hi => ?_⟩
    · rw [Block.effect_fp, he, hm]
      exact Block.fp_updFp_same _ _ _
    · obtain ⟨off, ho⟩ := s.quiet.fpRealign_slew_fp j (v.toNat / 2 ^ 16 % 2 ^ 16)
      have hns : v.toNat / 2 ^ 16 % 2 ^ 16 = v.toNat / 2 ^ 16 := Nat.mod_eq_of_lt (by have := v.isLt; omega)
      rw [hns] at ho
      simp only [Block.effect_fp, he, hm, hns, BEq.rfl, ho]
      exact ⟨trivial, trivial, rfl, rfl, rfl⟩
    · rw [he]
      exact Block.keeps.of_regs (Block.keeps_refl _ _) hregs
    · rw [Block.effect_fp, he, hfps i hi, Block.quiet_fp]
  · exact ⟨_, run_reaches hs hr _ _, onlyRegs_effect_self (fpAlignGo_idle hv j _)⟩

end Sys2Proof.Machine
end

section
/-!
A device held in reset: O60.
-/
namespace Sys2Proof.Machine

/-! ### What a held device takes (R103, R613, R615, R717, R721) -/

/-- What reads the hold reads the levels of the start alone. -/
theorem Block.held_congr {b c : Block} (h : c.start = b.start) : c.held = b.held := by
  rw [Block.held, Block.held, h]

theorem Block.zeroise_start (b : Block) : b.zeroise.start = b.start := rfl

theorem Block.tampered_start (b : Block) (c : Nat) : (b.tampered c).start = b.start := by
  unfold Block.tampered
  rw [Block.zeroise_start]
  split <;> rfl

theorem tamperEvent_start (c : Nat) (b : Block) : (tamperEvent c b).start = b.start := by
  unfold tamperEvent
  split
  · rfl
  · exact b.tampered_start c

theorem Block.randomBytes_start (b : Block) (n : Nat) : (b.randomBytes n).2.start = b.start := by
  induction n with
  | zero => rfl
  | succ n ih => exact ih

theorem retentionDip_start (deep : Bool) (b : Block) : (retentionDip deep b).start = b.start := by
  cases deep with
  | false => rfl
  | true =>
    have hr := Block.randomBytes_start (b.updKeys fun k => { k with latch := true, wiped := false }) 48
    simpa only [retentionDip, if_true, Block.updKeys_start] using hr

/-- A command that neither may end a hold nor works on a held device has an effect that a held device does not take. -/
theorem exec_held {s : State} (hs : s.held = true) {c : Instr} (he : endsHold c = false) (hw : worksHeld c = false) :
    exec c s = .next { s with toBlock := s.quiet } := by
  cases c with
  | powerOnReset | resetNAssert | powerOnRelease _ | extestClampSelect _ => exact absurd he (by simp [endsHold])
  | timeTick | tamperEvent _ | retentionDip _ => exact absurd hw (by simp [worksHeld])
  | _ => exact run_held _ hs

/-- What works on a held device leaves the levels that hold it, and the queue. -/
theorem exec_worksHeld {s t : State} {c : Instr} (hw : worksHeld c = true) (h : exec c s = .next t) : t.start = s.start ∧ t.pending = s.pending := by
  cases c with
  | timeTick => cases h; exact ⟨rfl, rfl⟩
  | tamperEvent c => cases h; exact ⟨tamperEvent_start c s.quiet, rfl⟩
  | retentionDip d => cases h; exact ⟨retentionDip_start d s.quiet, rfl⟩
  | _ => exact absurd hw (by simp [worksHeld])

/-- Settles O60: a command at the front is one of the three that work on a held device (`exec_worksHeld`), or it only empties the record of
outputs (`exec_held`). -/
theorem aHeldDeviceStaysHeld : Obligations.AHeldDeviceStaysHeld := by
  rintro s t ⟨hs, hp⟩ h
  cases hq : s.pending with
  | nil =>
    rw [step_nil hq] at h
    cases h
    exact ⟨⟨hs, hp⟩, fun c rest hc => absurd hc (List.cons_ne_nil c rest).symm⟩
  | cons c rest =>
    rw [step_cons hq] at h
    rw [hq] at hp
    obtain ⟨hc, hrest⟩ := List.forall_mem_cons.mp hp
    cases hw : worksHeld c with
    | true =>
      obtain ⟨hst, hpend⟩ := exec_worksHeld hw h
      refine ⟨⟨(Block.held_congr hst).trans hs, hpend ▸ hrest⟩, fun c' rest' hc' hw' => ?_⟩
      obtain ⟨rfl, -⟩ := List.cons.inj hc'
      exact absurd (hw.symm.trans hw') (by decide)
    | false =>
      rw [exec_held (s := { s with pending := rest }) hs hc hw] at h
      cases h
      refine ⟨⟨hs, hrest⟩, fun c' rest' hc' _ => ?_⟩
      obtain ⟨-, rfl⟩ := List.cons.inj hc'
      rfl

end Sys2Proof.Machine
end

section
/-!
The device after power-on reset: O58.
-/
namespace Sys2Proof.Machine

/-- With nothing listed in the register table, a field reads its reset value (R702). -/
theorem State.reset_fld (f : Field) (n : Nat) : State.reset.fld f n = f.rst n := rfl

/-- Of the domains, the sleep set alone is on (R672). -/
theorem State.reset_domOn : ∀ d < 96, State.reset.domOn d = decide (d = 82 ∨ d = 87 ∨ d = 95) := by decide

/-- Settles O58: every table is empty, so a field is its reset value (`State.reset_fld`). -/
theorem resetHoldsTheTablesValues : Obligations.ResetHoldsTheTablesValues :=
  ⟨rfl, rfl, State.reset_fld, rfl, rfl, State.reset_fld _ _, rfl, rfl, rfl, State.reset_domOn, State.reset_fld _ _, State.reset_fld _ _,
    State.reset_fld _ _⟩

end Sys2Proof.Machine
end

section
/-!
What the takes that wait may change after a change of device time: not device time, and no register below the lanes' block.
-/
namespace Sys2Proof.Machine

/-- What holds before a list of effects and survives each of them holds after the list. -/
theorem Block.each_induction {α : Type} {P : Block → Prop} {b : Block} {l : List α} {f : Block → α → Block} (h : P b)
    (hf : ∀ c, ∀ x ∈ l, P c → P (f c x)) : P (b.each l f) :=
  List.foldlRecOn (motive := P) l f h fun c hc x hx => hf c x hx hc

/-! ### The blocks below the lanes' (R712) -/

/-- The first key of the `LANES` block: those of `SYS`, `TIME`, `REFS` and `PLL` are below. -/
def lanesKey : Nat := 0x0400000 * 32

/-- `c` is `b` with device time and the registers below the lanes' block as they were. -/
structure Block.spares (b c : Block) : Prop where
  low : ∀ k, k < lanesKey → c.regs.look k = b.regs.look k
  time : c.time = b.time

theorem Block.spares_refl (b : Block) : b.spares b := ⟨fun _ _ => rfl, rfl⟩

section
variable {b c : Block} (h : b.spares c)
include h

/-- What shows the same registers and device time spares the same. -/
theorem Block.spares.of_regs {d : Block} (hr : d.regs = c.regs) (ht : d.time = c.time) : b.spares d :=
  ⟨fun k hk => (congrArg (·.look k) hr).trans (h.low k hk), ht.trans h.time⟩

theorem Block.spares.setFld {g : Field} {m : Nat} (hg : lanesKey ≤ g.key m) (v : Nat) : b.spares (c.setFld g m v) :=
  ⟨fun k hk => (c.look_setFld_ne v (by omega)).trans (h.low k hk), h.time⟩

theorem Block.spares.fld {f : Field} {n : Nat} (hf : f.key n < lanesKey) : c.fld f n = b.fld f n := by
  unfold Block.fld
  rw [h.low _ hf]

/-- What every member of a list spares, the list does. -/
theorem Block.spares.each {α : Type} (l : List α) {f : Block → α → Block} (hf : ∀ d x, b.spares d → b.spares (f d x)) : b.spares (c.each l f) :=
  Block.each_induction (P := b.spares) h fun d x _ hd => hf d x hd

/-! ### Messages and holders (R316, R321, R338, R399) -/

theorem Block.spares.putPacket (q : Nat) (o : Out) (m : List Byte) : b.spares (c.putPacket q o m) := by
  unfold Block.putPacket
  split
  · exact h.of_regs rfl rfl
  · exact h

theorem Block.spares.putMsg (q : Nat) (m : List Byte) : b.spares (c.putMsg q m) := by
  unfold Block.putMsg
  dsimp only
  split
  · exact h.putPacket _ _ _
  · refine Block.spares.putPacket ?_ _ _ _
    exact h.of_regs rfl rfl

theorem Block.spares.sendTo (d : Nat) (m : List Byte) : b.spares (c.sendTo d m) := by
  unfold Block.sendTo Block.portSend
  dsimp only
  split
  · split
    · exact h.putMsg _ _
    · split
      · exact h.putMsg _ _
      · exact h.of_regs rfl rfl
  · exact h

theorem Block.spares.releasePath (stream content path : Nat) : b.spares (c.releasePath stream content path) := by
  unfold Block.releasePath Block.startAsk
  split
  · exact h
  · refine Block.spares.sendTo ?_ _ _
    exact h.of_regs rfl rfl

theorem Block.spares.dropRing (bow : Nat) : b.spares (c.dropRing bow) := by
  have hf : ∀ i, ∀ f ∈ W.FAB_RX_STREAM, lanesKey ≤ f.key i := by
    intro i
    simp [W.FAB_RX_STREAM, lanesKey]
    omega
  unfold Block.dropRing
  split
  · exact h
  · split
    · rename_i i _
      have hc : b.spares (W.FAB_RX_STREAM.foldl (fun b f => b.clr f i) c) :=
        List.foldlRecOn (motive := fun d => b.spares d) _ _ h fun d hd f hm => hd.setFld (hf i f hm) 0
      exact hc.of_regs rfl rfl
    · exact h

theorem Block.spares.dropIfUnheld (k : Nat) : b.spares (c.dropIfUnheld k) := by
  unfold Block.dropIfUnheld
  extract_lets e told released
  split
  · exact h
  · have ht : b.spares told := h.each _ fun d _ hd => hd.of_regs rfl rfl
    have hr : b.spares released := ht.each _ fun d _ hd => hd.releasePath _ _ _
    refine Block.spares.dropRing ?_ _
    exact hr.of_regs rfl rfl

theorem Block.spares.unhold (k : Nat) : b.spares (c.unhold k) := by
  unfold Block.unhold
  split
  · exact h
  · refine Block.spares.dropIfUnheld ?_ k
    exact h.of_regs rfl rfl

/-! ### Outcomes of takes (R399, R400, R412) -/

theorem Block.spares.tgtOutcome (i : Nat) (e : TakeEnt) (st : Nat) : b.spares (c.tgtOutcome i e st) := by
  unfold Block.tgtOutcome
  extract_lets t shown commanded
  have hs : b.spares shown := (h.setFld (by simp [lanesKey]; omega) _).setFld (by simp [lanesKey]; omega) _
  have hc : b.spares commanded := hs.setFld (by simp [lanesKey]; omega) _
  split
  · exact hs
  · split
    · exact (hc.setFld (by simp [lanesKey]; omega) _).setFld (by simp [lanesKey]; omega) _
    · exact (hc.setFld (by simp [lanesKey]; omega) _).setFld (by simp [lanesKey]) _

theorem Block.spares.finish (i st reason : Nat) : b.spares (c.finish i st reason) := by
  unfold Block.finish
  extract_lets e marked freed shown
  have hm : b.spares marked := h.of_regs rfl rfl
  have hf : b.spares freed := Block.ite_cases (P := b.spares) _ hm (hm.unhold _)
  have hs : b.spares shown := hf.tgtOutcome _ _ _
  split <;> exact (hs.setFld (by simp [lanesKey]) _).setFld (by simp [lanesKey]) _

/-! ### Regatta messages and votes (R406 to R409) -/

theorem Block.spares.leaderArm (m : List Byte) : b.spares (c.leaderArm m).2 := by
  unfold Block.leaderArm
  dsimp only
  split
  · split
    · exact h
    · split <;> exact h.of_regs rfl rfl
  · exact h.of_regs rfl rfl

theorem Block.spares.leaderVote (m : List Byte) : b.spares (c.leaderVote m).2 := by
  unfold Block.leaderVote
  dsimp only
  split
  · split
    · exact h
    · split
      · exact h
      · dsimp only
        split <;> exact h.of_regs rfl rfl
  · exact h.of_regs rfl rfl

theorem Block.spares.memberGo (k verdict reason : Nat) : b.spares (c.memberGo k verdict reason) := by
  unfold Block.memberGo
  extract_lets r gone
  have hg : b.spares gone := h.of_regs rfl rfl
  refine hg.each _ fun d i hd => ?_
  dsimp only
  split
  · exact hd.of_regs rfl rfl
  · split
    · exact hd.finish _ _ _
    · exact hd

theorem Block.spares.rgMessage (m : List Byte) : b.spares (c.rgMessage m).2 := by
  unfold Block.rgMessage
  split
  · exact h.leaderArm m
  · exact h.leaderVote m
  · unfold Block.takeGo
    dsimp only
    split
    · split
      · exact h
      · split
        · exact h
        · exact h.memberGo _ _ _
    · exact h

theorem Block.spares.rgSend (kind dst : Nat) (body : List Byte) : b.spares (c.rgSend kind dst body) := by
  unfold Block.rgSend
  extract_lets tid typ asked
  split
  · exact h.rgMessage _
  · have ha : b.spares asked := h.of_regs rfl rfl
    exact ha.sendTo _ _

theorem Block.spares.castVote (k : Nat) (ready : Bool) (reason : Nat) : b.spares (c.castVote k ready reason) := by
  unfold Block.castVote
  extract_lets r es held voted taken
  split
  · exact h
  · have hv : b.spares voted := h.of_regs rfl rfl
    have ht : b.spares taken := hv.each _ fun d i hd => Block.ite_cases (P := b.spares) _ hd (hd.of_regs rfl rfl)
    exact ht.rgSend _ _ _

theorem Block.spares.tryVote (k : Nat) : b.spares (c.tryVote k) := by
  unfold Block.tryVote
  extract_lets r es
  split
  · exact h
  · split
    · exact h.castVote _ _ _
    · split
      · exact h.castVote _ _ _
      · exact h

/-- Arming, refusals and votes spare device time and the registers below the lanes' block. -/
theorem Block.spares.coxSettle : b.spares c.coxSettle := by
  unfold Block.coxSettle
  extract_lets armed
  have ha : b.spares armed := h.each _ fun d i hd => by
    extract_lets e
    split
    · exact hd
    · split
      · exact Block.ite_cases (P := b.spares) _ hd (hd.of_regs rfl rfl)
      · split
        · exact hd.finish _ _ _
        · exact hd
  exact ha.each _ fun d k hd => hd.tryVote k

end

end Sys2Proof.Machine
end

section
/-!
Writes of `TIME_CTRL`, first sets, and periods too short: O7.
-/
namespace Sys2Proof.Machine

/-! ### `SLEW_LIM` and a first set (R107, R109, R121) -/

/-- `SLEW_LIM` takes 1 to 200 (R107). -/
theorem Block.slewLim_stored (b : Block) (v : Nat) : (b.store F.TIME_CTRL_SLEW_LIM 0 (F.TIME_CTRL_SLEW_LIM.of v)).fld F.TIME_CTRL_SLEW_LIM 0 =
    if v % 256 = 0 then 1 else if 200 < v % 256 then 200 else v % 256 := by
  have hw : F.TIME_CTRL_SLEW_LIM.stored (F.TIME_CTRL_SLEW_LIM.of v) = clampNat 1 200 (v % 256) := by
    simp [Field.stored, Field.of, bitsOf, F.TIME_CTRL_SLEW_LIM]
  rw [Block.fld_store_same, hw, F.TIME_CTRL_SLEW_LIM_width]
  unfold clampNat
  split_ifs <;> omega

/-- The device with timer `n`'s pulse made, before a one-shot disarms. -/
def Block.tmrFired (b : Block) (n : Nat) : Block :=
  let b := b.setBit F.TMR_HIST_FIRED 0 n
  let b := b.setFld F.TMR_COUNT_COUNT n (b.fld F.TMR_COUNT_COUNT n + 1)
  let w := b.fld F.TMR_CFG_WIDTH n * 100
  let b := { b with time := { b.time with tmrEnd := b.time.tmrEnd.put n (b.time.raw + w) } }
  b.emit (.pulse n (if b.on F.TMR_CFG_PIN_EN n && !b.pinBad (tmrPin (b.fld F.TMR_CFG_PIN n)) then some (b.fld F.TMR_CFG_PIN n) else none) w (b.tmrActive (b.fld F.TMR_CFG_PIN n)))

/-- A pulse; a one-shot disarms with it (R117, R119). -/
theorem Block.tmrPulse_eq (b : Block) (n : Nat) :
    b.tmrPulse n = if (b.tmrFired n).on F.TMR_CFG_PERIODIC n then b.tmrFired n else (b.tmrFired n).clr F.TMR_CFG_ARM n := by
  unfold Block.tmrPulse Block.tmrFired
  rfl

theorem Block.tmrFired_raw (b : Block) (n : Nat) : (b.tmrFired n).time.raw = b.time.raw := by
  unfold Block.tmrFired
  rfl

theorem Block.tmrPulse_raw (b : Block) (n : Nat) : (b.tmrPulse n).time.raw = b.time.raw := by
  rw [Block.tmrPulse_eq]
  split
  · exact b.tmrFired_raw n
  · rw [Block.clr_time, b.tmrFired_raw n]

theorem Block.setNext_time (b : Block) (n t : Nat) : (b.setNext n t).time = { b.time with tmrNext := b.time.tmrNext.put n t } := rfl

theorem Block.tmrJumped_raw (b : Block) (old n : Nat) : (b.tmrJumped old n).time.raw = b.time.raw := by
  have hp : ((b.tmrPulse n).setBit F.TMR_HIST_LATE 0 n).time.raw = b.time.raw := by rw [Block.setBit_time, b.tmrPulse_raw n]
  unfold Block.tmrJumped
  dsimp only
  split
  · exact Block.ite_cases (P := fun c => c.time.raw = b.time.raw) _ hp (by rw [Block.setNext_time, hp])
  · rfl

/-- A first set leaves `TIME_RAW`. -/
theorem Block.firstSet_raw (b : Block) (t : Nat) : (b.firstSet t).time.raw = b.time.raw := by
  unfold Block.firstSet
  extract_lets old time moved said stepped
  have hs : stepped.time.raw = b.time.raw := by
    rw [(Block.pllStepped_kept _ _).2.1, (said.fpStepped_kept _).2.1]
    rfl
  exact Block.each_induction (P := fun c => c.time.raw = b.time.raw) hs fun c n _ hc => (c.tmrJumped_raw old n).trans hc

/-- The keys that a first set may write. -/
def firstSetKeys : List Nat := F.TIME_STATUS_SYNCED.key 0 :: F.TIME_HIST_FIRST_SET.key 0 :: F.REFS_STATUS_TIME_SYNCED.key 0 :: timerKeys

theorem Block.firstSet_keeps (b : Block) (t : Nat) : b.keeps (b.firstSet t) firstSetKeys := by
  unfold Block.firstSet
  extract_lets old time moved said stepped
  have hm : b.keeps moved firstSetKeys := b.keeps_refl _
  have hs : b.keeps said firstSetKeys := ((hm.setFld (by simp [firstSetKeys]) _).setFld (by simp [firstSetKeys]) _).setFld (by simp [firstSetKeys]) _
  have hp : b.keeps stepped firstSetKeys := hs.of_regs ((Block.pllStepped_kept _ _).1.trans (said.fpStepped_kept _).1)
  have ht : stepped.timed (stepped.each (List.range 16) fun b n => b.tmrJumped old n) :=
    Block.each_induction stepped.timed_refl fun d n hn hd => hd.tmrJumped (List.mem_range.mp hn) _
  intro k hk
  have hn : k ∉ timerKeys := fun h => hk (List.mem_cons_of_mem _ (List.mem_cons_of_mem _ (List.mem_cons_of_mem _ h)))
  rw [ht.regs k hn, hp k hk]

/-! ### SET_GO (R109, R110) -/

/-- The device with the word's `SLEW_LIM` stored is synchronised as before, and holds the same value to set. -/
theorem Block.storeSlew_synced (b : Block) (v : Nat) : (b.store F.TIME_CTRL_SLEW_LIM 0 v).synced = b.synced :=
  congrArg (· == 1) (b.fld_setFld_ne _ (by simp))
theorem Block.storeSlew_setValue (b : Block) (v : Nat) : (b.store F.TIME_CTRL_SLEW_LIM 0 v).setValue = b.setValue := by
  simp [Block.setValue, Block.store, Block.fld_setFld_ne]

theorem setGo_rejected {v : Nat} (h : v / 512 % 2 = 1) {tie : Bool} {b : Block} (ht : tie = true ∨ b.synced = true) :
    setGo v tie b = (b.store F.TIME_CTRL_SLEW_LIM 0 (F.TIME_CTRL_SLEW_LIM.of v)).set F.TIME_HIST_SET_REJECTED 0 := by
  have hg : F.TIME_CTRL_SET_GO.of v = 1 := h
  rw [setGo, if_neg (by omega)]
  exact if_pos (ht.imp_right (b.storeSlew_synced _).trans)

theorem setGo_sets {v : Nat} (h : v / 512 % 2 = 1) {b : Block} (hs : b.synced = false) :
    setGo v false b = (b.store F.TIME_CTRL_SLEW_LIM 0 (F.TIME_CTRL_SLEW_LIM.of v)).firstSet b.setValue := by
  have hg : F.TIME_CTRL_SET_GO.of v = 1 := h
  rw [setGo, if_neg (by omega), ← b.storeSlew_setValue]
  exact if_neg fun ht => absurd ((b.storeSlew_synced _).symm.trans (ht.resolve_left Bool.false_ne_true)) (by simp [hs])

theorem slewLim_setGo (v : Nat) (tie : Bool) (b : Block) :
    (setGo v tie b).fld F.TIME_CTRL_SLEW_LIM 0 = if v % 256 = 0 then 1 else if 200 < v % 256 then 200 else v % 256 := by
  rw [← b.slewLim_stored v]
  unfold setGo
  dsimp only
  split
  · rfl
  · split
    · exact Block.fld_set_ne _ (by simp)
    · exact (Block.firstSet_keeps _ _).fld (by decide)

/-- What SET_GO leaves of device time and its registers, the takes that wait change nothing of. -/
theorem exec_setGo {s : State} (hs : s.held = false) (hr : s.reaches R.TIME_CTRL 0) (v : Word) (tie : Bool) :
    ∃ t, exec (.setGo v tie) s = .next t ∧ (setGo v.toNat tie s.quiet).spares t.toBlock :=
  ⟨_, run_reaches hs hr _ _, (Block.spares_refl _).coxSettle.of_regs (Block.effect_regs _ _) (Block.effect_time _ _)⟩

/-! ### UNSYNC (R111) -/

@[simp] theorem Block.bwSettle_time (b : Block) : b.bwSettle.time = b.time := by
  unfold Block.bwSettle
  dsimp only
  split
  · exact b.setBw_time _ _
  · split
    · exact b.setBw_time _ _
    · rfl

theorem Block.fld_bwSettle_ne (b : Block) {f : Field} {n : Nat} (h : f.key n ≠ F.REFS_STATUS_BW_NOW.key 0)
    (h' : f.key n ≠ F.REFS_HIST_BW_CLAMPED.key 0) : b.bwSettle.fld f n = b.fld f n := by
  unfold Block.bwSettle
  dsimp only
  split
  · exact Block.fld_setBw_ne _ h h' _ _
  · split
    · exact Block.fld_setBw_ne _ h h' _ _
    · rfl

/-- The device with device time unsynchronised, before its loop answers. -/
def Block.unsynced (b : Block) : Block := ((b.clearAdj.clr F.TIME_STATUS_SYNCED 0).set F.TIME_HIST_UNSYNCED 0).clr F.REFS_STATUS_TIME_SYNCED 0

/-- What no answer of the loop touches is as the unsynchronised device has it. -/
theorem Block.goUnsynced_kept (b : Block) : b.goUnsynced.time = b.unsynced.time ∧
    ∀ f : Field, f.key 0 ∉ [F.REFS_STATUS_BW_NOW.key 0, F.REFS_HIST_BW_CLAMPED.key 0, F.REFS_STATUS_STATE.key 0, F.REFS_HIST_LOCK_LOST.key 0] →
      b.goUnsynced.fld f 0 = b.unsynced.fld f 0 := by
  unfold Block.goUnsynced
  dsimp only
  split
  · refine ⟨(Block.bwSettle_time _).trans (Block.toLoop_time _ _), fun f hf => ?_⟩
    simp only [List.mem_cons, List.not_mem_nil, or_false, not_or] at hf
    obtain ⟨hbw, hcl, hst, hll⟩ := hf
    rw [Block.fld_bwSettle_ne _ hbw hcl, Block.fld_toLoop_ne _ hst hll]
    rfl
  · exact ⟨rfl, fun _ _ => rfl⟩

/-- Device time unsynchronised: its value stands, nothing is left to correct (R111). -/
theorem Block.goUnsynced_state (b : Block) : b.goUnsynced.synced = false ∧ b.goUnsynced.time.adj = 0 ∧ b.goUnsynced.time.now = b.time.now ∧
    b.goUnsynced.fld F.TIME_HIST_UNSYNCED 0 = 1 ∧ b.goUnsynced.fld F.REFS_STATUS_TIME_SYNCED 0 = 0 := by
  obtain ⟨ht, hf⟩ := b.goUnsynced_kept
  refine ⟨?_, ?_, ?_, ?_, ?_⟩
  · rw [Block.synced, Block.on, hf _ (by simp)]; simp [Block.unsynced]
  · rw [ht]; rfl
  · rw [ht]; rfl
  · rw [hf _ (by simp)]; simp [Block.unsynced]
  · rw [hf _ (by simp)]; simp [Block.unsynced]

theorem unsync_of_one {v : Nat} (h : v / 256 % 2 = 1) (b : Block) :
    unsync v b = (b.store F.TIME_CTRL_SLEW_LIM 0 (F.TIME_CTRL_SLEW_LIM.of v)).goUnsynced := by
  have hu : F.TIME_CTRL_UNSYNC.of v = 1 := h
  exact if_neg (by omega)

theorem slewLim_unsync (v : Nat) (b : Block) :
    (unsync v b).fld F.TIME_CTRL_SLEW_LIM 0 = if v % 256 = 0 then 1 else if 200 < v % 256 then 200 else v % 256 := by
  rw [← b.slewLim_stored v]
  unfold unsync
  dsimp only
  split
  · rfl
  · rw [(Block.goUnsynced_kept _).2 _ (by simp)]
    simp [Block.unsynced]

/-! ### A period too short (R120) -/

/-- `WIDTH` is stored as written, 1 for 0. -/
theorem width_stored {v : Nat} (hv : v < 2 ^ 32) : F.TMR_CFG_WIDTH.stored (F.TMR_CFG_WIDTH.of v) = max 1 (v / 256) := by
  have hm : v / 256 % 16777216 = v / 256 := by omega
  simp only [Field.stored, Field.of, bitsOf, F.TMR_CFG_WIDTH, clampNat, Nat.reducePow, hm]
  split
  · omega
  · split <;> omega

/-- Arming a periodic timer whose period is too short is a rejected write. -/
theorem tmrArm_rejected {b : Block} {n v : Nat} (hv : v < 2 ^ 32) (ha : v % 4 = 3) (hp : b.tmrPeriod n < (max 1 (v / 256) * 100 + 100) * nsUnit) :
    tmrArm n v b = b.reject 1 F.TIME_HIST_CFG_REJECTED 0 := by
  have harm : F.TMR_CFG_ARM.of v = 1 := by simp [Field.of, bitsOf, F.TMR_CFG_ARM]; omega
  have hper : F.TMR_CFG_PERIODIC.of v = 1 := by simp [Field.of, bitsOf, F.TMR_CFG_PERIODIC]; omega
  rw [← width_stored hv] at hp
  simp only [tmrArm, harm, hper, tmrTooShort, decide_eq_true hp]
  rfl

/-- Settles O7: both writes of `TIME_CTRL` leave the stored `SLEW_LIM` (`slewLim_unsync`, `slewLim_setGo`), and the arming is `reject`. -/
theorem slewLimitAndShortPeriodsAreHeldOff : Obligations.SlewLimitAndShortPeriodsAreHeldOff := by
  intro s hs
  refine ⟨fun v hr => ?_, fun v tie hr => ?_, fun n v _ hr hv hp => ?_⟩
  · exact ⟨_, run_reaches hs hr _ _, slewLim_unsync v.toNat s.quiet⟩
  · obtain ⟨t, he, hsp⟩ := exec_setGo hs hr v tie
    exact ⟨t, he, (hsp.fld (by simp [lanesKey])).trans (slewLim_setGo v.toNat tie s.quiet)⟩
  · have he := tmrArm_rejected (b := s.quiet) v.isLt hv hp
    refine ⟨_, run_reaches hs hr _ _, ?_, onlyRegs_effect ?_⟩
    · rw [Block.effect_fld, he, Block.reject, Block.fld_bump_ne _ (by simp), Block.fld_set_same]
      rfl
    · rw [he]
      exact ((Block.writes_refl _ _).setFld (by simp) _).setFld (by simp) _

end Sys2Proof.Machine
end

section
/-!
Device time, a correction done, and the reads that latch: O8.
-/
namespace Sys2Proof.Machine

/-! ### A correction done, and reads (R105, R127, R128) -/

theorem timeAdjDone_due {b : Block} (ha : b.time.adj = 0) (hd : b.time.adjDue = true) :
    timeAdjDone b = { b with time := { b.time with adjDue := false } }.set F.TIME_HIST_ADJ_DONE 0 := if_pos ⟨ha, hd⟩

theorem timeAdjDone_idle {b : Block} (h : b.time.adj ≠ 0 ∨ b.time.adjDue = false) : timeAdjDone b = b :=
  if_neg fun hc => h.elim (fun ha => ha hc.1) fun hd => absurd (hd.symm.trans hc.2) Bool.false_ne_true

@[simp] theorem Block.quiet_nowSec (b : Block) : b.quiet.nowSec = b.nowSec := rfl
@[simp] theorem Block.quiet_nowNs (b : Block) : b.quiet.nowNs = b.nowNs := rfl
@[simp] theorem Block.quiet_nowFrac (b : Block) : b.quiet.nowFrac = b.nowFrac := rfl

/-- A read of the nanoseconds shows them, and latches the seconds and the fraction of the same tick. -/
theorem timeNsRead_latches (b : Block) :
    Out.read b.nowNs ∈ (timeNsRead b).out ∧ (timeNsRead b).fld F.TIME_SEC_LO_SEC 0 = b.nowSec % 2 ^ 32 ∧
      (timeNsRead b).fld F.TIME_SEC_HI_SEC 0 = b.nowSec / 2 ^ 32 % 2 ^ 16 ∧ (timeNsRead b).fld F.TIME_FRAC_FRAC 0 = b.nowFrac % 2 ^ 16 ∧
      b.writes (timeNsRead b) [F.TIME_SEC_LO_SEC.key 0, F.TIME_SEC_HI_SEC.key 0, F.TIME_FRAC_FRAC.key 0] := by
  rw [timeNsRead]
  refine ⟨List.mem_append_right _ (List.mem_singleton_self _), ?_, ?_, ?_, ?_⟩
  · simp [Block.fld_setFld_ne]
  · simp [Block.fld_setFld_ne]
  · simp
  · exact ((((b.writes_refl _).setFld (by simp) _).setFld (by simp) _).setFld (by simp) _).emit _

theorem timeRawLoRead_latches (b : Block) :
    Out.read (b.time.raw % 2 ^ 32) ∈ (timeRawLoRead b).out ∧ (timeRawLoRead b).fld F.TIME_RAW_HI_RAW 0 = b.time.raw / 2 ^ 32 % 2 ^ 32 ∧
      b.writes (timeRawLoRead b) [F.TIME_RAW_HI_RAW.key 0] := by
  rw [timeRawLoRead]
  refine ⟨List.mem_append_right _ (List.mem_singleton_self _), ?_, ?_⟩
  · simp
  · exact ((b.writes_refl _).setFld (by simp) _).emit _

/-- A read of the rate shows it as it was before the changes of the same tick. -/
theorem timeRateLoRead_latches (b : Block) :
    Out.read (patternOf 48 b.time.seenRate % 2 ^ 32) ∈ (timeRateLoRead b).out ∧
      (timeRateLoRead b).fld F.TIME_RATE_HI_RATE 0 = patternOf 48 b.time.seenRate / 2 ^ 32 % 2 ^ 16 ∧
      b.writes (timeRateLoRead b) [F.TIME_RATE_HI_RATE.key 0] := by
  rw [timeRateLoRead]
  refine ⟨List.mem_append_right _ (List.mem_singleton_self _), ?_, ?_⟩
  · simp
  · exact ((b.writes_refl _).setFld (by simp) _).emit _

/-- Settles O8: the tick is `timeTick`; `SET_GO` is a first set or a rejection, which the takes that wait change nothing of; `UNSYNC` is
`goUnsynced`; each read has its lemma. -/
theorem deviceTimeCountsAndSets : Obligations.DeviceTimeCountsAndSets := by
  intro s hs
  refine ⟨⟨_, rfl, rfl, rfl, rfl, rfl, rfl, rfl, rfl⟩, fun v hr hv hy => ?_, fun v tie hr hv ht => ?_, fun v hr hv => ?_, fun ha hd => ?_, fun h => ?_,
    fun hr => ?_, fun hr => ?_, fun hr => ?_⟩
  · have he : setGo v.toNat false s.quiet = _ := setGo_sets hv (b := s.quiet) hy
    obtain ⟨hsync, hset, hshown, -, hadj, hrate, hnow⟩ := Block.firstSet_state
      (s.quiet.store F.TIME_CTRL_SLEW_LIM 0 (F.TIME_CTRL_SLEW_LIM.of v.toNat)) s.quiet.setValue
    have hraw := Block.firstSet_raw (s.quiet.store F.TIME_CTRL_SLEW_LIM 0 (F.TIME_CTRL_SLEW_LIM.of v.toNat)) s.quiet.setValue
    obtain ⟨t, hx, hsp⟩ := exec_setGo hs hr v false
    rw [he] at hsp
    refine ⟨t, hx, ?_⟩
    rw [hsp.time, hsp.fld (by simp [lanesKey]), hsp.fld (by simp [lanesKey]), Block.synced, Block.on, hsp.fld (by simp [lanesKey])]
    exact ⟨hnow, hadj, hrate, hraw, hsync, hset, hshown⟩
  · have he := setGo_rejected hv (b := s.quiet) ht
    obtain ⟨t, hx, hsp⟩ := exec_setGo hs hr v tie
    rw [he] at hsp
    exact ⟨t, hx, hsp.time, (hsp.fld (by simp [lanesKey])).trans (Block.fld_set_same _ _ _)⟩
  · have he := unsync_of_one hv s.quiet
    obtain ⟨hsync, hadj, hnow, hset, hshown⟩ := (s.quiet.store F.TIME_CTRL_SLEW_LIM 0 (F.TIME_CTRL_SLEW_LIM.of v.toNat)).goUnsynced_state
    refine ⟨_, run_reaches hs hr _ _, ?_⟩
    simp only [Block.effect_synced, Block.effect_time, Block.effect_fld, he]
    exact ⟨hsync, hadj, hnow, hset, hshown⟩
  · have he := timeAdjDone_due (b := s.quiet) ha hd
    refine ⟨_, run_live _ hs, ?_, ?_, regsKept_effect ?_⟩
    · rw [Block.effect_fld, he, Block.fld_set_same]
      rfl
    · rw [Block.effect_time, he]
      rfl
    · rw [he]
      exact (Block.keeps.of_regs (Block.keeps_refl _ _) rfl).setFld List.mem_cons_self _
  · exact ⟨_, run_live _ hs, onlyRegs_effect_self (timeAdjDone_idle (b := s.quiet) h)⟩
  · obtain ⟨hout, hlo, hhi, hfrac, hkeep⟩ := timeNsRead_latches s.quiet
    exact ⟨_, run_reaches hs hr _ _, mem_effect_out hout, hlo, hhi, hfrac, onlyRegs_effect hkeep⟩
  · obtain ⟨hout, hhi, hkeep⟩ := timeRawLoRead_latches s.quiet
    exact ⟨_, run_reaches hs hr _ _, mem_effect_out hout, hhi, onlyRegs_effect hkeep⟩
  · obtain ⟨hout, hhi, hkeep⟩ := timeRateLoRead_latches s.quiet
    exact ⟨_, run_reaches hs hr _ _, mem_effect_out hout, hhi, onlyRegs_effect hkeep⟩

end Sys2Proof.Machine
end

section
/-!
Timers and capture units: O9.
-/
namespace Sys2Proof.Machine

/-! ### A pulse (R117, R119, R122) -/

/-- The keys of a timer's pulse that is not the last of a one-shot. -/
def pulseKeys (n : Nat) : List Nat := [F.TMR_HIST_FIRED.key 0, F.TMR_COUNT_COUNT.key n]

theorem Block.tmrFired_keeps (b : Block) (n : Nat) : b.keeps (b.tmrFired n) (pulseKeys n) := by
  unfold Block.tmrFired
  extract_lets fired counted width time ended
  have hc : b.keeps counted (pulseKeys n) := ((b.keeps_refl _).setFld (by simp [pulseKeys]) _).setFld (by simp [pulseKeys]) _
  exact hc.of_regs rfl

/-- The active level of an output is read from the timers' configuration. -/
theorem Block.keeps.tmrActive {b c : Block} {n : Nat} (h : b.keeps c (pulseKeys n)) (p : Nat) : c.tmrActive p = b.tmrActive p := by
  have he : ∀ m, c.fld F.TMR_CFG_PIN_EN m = b.fld F.TMR_CFG_PIN_EN m := fun m => h.fld (by simp [pulseKeys]; omega)
  have hp : ∀ m, c.fld F.TMR_CFG_PIN m = b.fld F.TMR_CFG_PIN m := fun m => h.fld (by simp [pulseKeys]; omega)
  have hl : ∀ m, c.fld F.TMR_CFG_POL m = b.fld F.TMR_CFG_POL m := fun m => h.fld (by simp [pulseKeys]; omega)
  simp only [Block.tmrActive, Block.tmrOn, Block.on, he, hp, hl]

/-- The device with timer `n`'s pulse counted is what the pulse is read from. -/
theorem Block.tmrFired_state (b : Block) {n : Nat} (hn : n < 16) :
    (b.tmrFired n).bitAt F.TMR_HIST_FIRED 0 n = true ∧ (b.tmrFired n).fld F.TMR_COUNT_COUNT n = (b.fld F.TMR_COUNT_COUNT n + 1) % 2 ^ 32 ∧
      (b.tmrFired n).time = { b.time with tmrEnd := b.time.tmrEnd.put n (b.time.raw + b.fld F.TMR_CFG_WIDTH n * 100) } ∧
      (b.pinBad (tmrPin (b.fld F.TMR_CFG_PIN n)) = false →
        Out.pulse n (if b.on F.TMR_CFG_PIN_EN n then some (b.fld F.TMR_CFG_PIN n) else none) (b.fld F.TMR_CFG_WIDTH n * 100)
          (b.tmrActive (b.fld F.TMR_CFG_PIN n)) ∈ (b.tmrFired n).out) := by
  unfold Block.tmrFired
  extract_lets fired counted width time ended
  have hk : b.keeps counted (pulseKeys n) := ((b.keeps_refl _).setFld (by simp [pulseKeys]) _).setFld (by simp [pulseKeys]) _
  have he : b.keeps ended (pulseKeys n) := hk.of_regs rfl
  have hw : counted.fld F.TMR_CFG_WIDTH n = b.fld F.TMR_CFG_WIDTH n := hk.fld (by simp [pulseKeys]; omega)
  have hpin : ended.fld F.TMR_CFG_PIN n = b.fld F.TMR_CFG_PIN n := he.fld (by simp [pulseKeys]; omega)
  have hen : ended.on F.TMR_CFG_PIN_EN n = b.on F.TMR_CFG_PIN_EN n := congrArg (· == 1) (he.fld (by simp [pulseKeys]; omega))
  have hcount : fired.fld F.TMR_COUNT_COUNT n = b.fld F.TMR_COUNT_COUNT n := Block.fld_setBit_ne _ (by simp; omega) _
  refine ⟨?_, ?_, ?_, fun hp => List.mem_append_right _ ?_⟩
  · have hf : ended.fld F.TMR_HIST_FIRED 0 = fired.fld F.TMR_HIST_FIRED 0 := Block.fld_setFld_ne _ _ (by simp; omega)
    rw [Block.bitAt, Block.emit_fld, hf]
    exact Block.bitAt_setBit_same b (f := F.TMR_HIST_FIRED) 0 (by simpa using hn)
  · have hs : counted.fld F.TMR_COUNT_COUNT n = (fired.fld F.TMR_COUNT_COUNT n + 1) % 2 ^ 32 := Block.fld_setFld_same _ _ _ _
    exact hs.trans (by rw [hcount])
  · simp only [Block.emit_time, ended, width, hw]
    rfl
  · have hbad : ended.pinBad (tmrPin (b.fld F.TMR_CFG_PIN n)) = false := hp
    rw [hpin, hen, hbad, he.tmrActive, Bool.not_false, Bool.and_true, show width = b.fld F.TMR_CFG_WIDTH n * 100 from congrArg (· * 100) hw]
    exact List.mem_singleton_self _

/-- A pulse of a periodic timer, and that of a one-shot, which disarms. -/
theorem Block.tmrPulse_periodic {b : Block} {n : Nat} (h : b.on F.TMR_CFG_PERIODIC n = true) : b.tmrPulse n = b.tmrFired n := by
  have hp : (b.tmrFired n).on F.TMR_CFG_PERIODIC n = b.on F.TMR_CFG_PERIODIC n :=
    congrArg (· == 1) ((b.tmrFired_keeps n).fld (by simp [pulseKeys]; omega))
  rw [Block.tmrPulse_eq, hp, if_pos h]
theorem Block.tmrPulse_oneShot {b : Block} {n : Nat} (h : b.on F.TMR_CFG_PERIODIC n = false) : b.tmrPulse n = (b.tmrFired n).clr F.TMR_CFG_ARM n := by
  have hp : (b.tmrFired n).on F.TMR_CFG_PERIODIC n = b.on F.TMR_CFG_PERIODIC n :=
    congrArg (· == 1) ((b.tmrFired_keeps n).fld (by simp [pulseKeys]; omega))
  rw [Block.tmrPulse_eq, hp, h, if_neg Bool.false_ne_true]

end Sys2Proof.Machine
end

section
/-!
A due timer: O9 (R117, R118). What a wake leaves of device time comes first.
-/
namespace Sys2Proof.Machine

/-! ### A wake leaves device time and its registers (R673 to R676) -/

/-- A table cut down to some keys holds what it held there, and nothing at the others. -/
theorem Bank.look_filter {α : Type} [Inhabited α] (b : Bank α) (p : Nat → Bool) (k : Nat) :
    Bank.look (b.filter fun e => p e.1) k = if p k then b.look k else default := by
  induction b with
  | nil => simp [Bank.look]
  | cons e t ih =>
    obtain ⟨j, v⟩ := e
    rw [List.filter_cons]
    by_cases hj : j = k
    · subst hj
      cases hp : p j <;> simp [hp, Bank.look, ih]
    · cases hp : p j <;> simp [Bank.look, ih, hj]

/-- A reset of the guard content leaves the registers of every other block. -/
theorem Block.guardReset_look (b : Block) {k : Nat} (hk : k / 32 / 0x100000 ≠ 0x0D) : b.guardReset.regs.look k = b.regs.look k := by
  unfold Block.guardReset
  extract_lets cut lo wiped counter
  have hw : wiped.regs.look k = b.regs.look k := by
    refine (Bank.look_filter b.regs (fun a => a / 32 / 0x100000 != 0x0D || decide (a / 32 % 0x100000 < 0x100)) k).trans ?_
    rw [bne_iff_ne.mpr hk, Bool.true_or, if_pos rfl]
  rw [Block.set, Block.look_setFld_ne _ _ fun e => hk (by rw [e]; rfl), Block.look_setFld_ne _ _ fun e => hk (by rw [e]; rfl),
    Block.look_setFld_ne _ _ fun e => hk (by rw [e]; rfl), hw]

/-- `c` is `b` with device time, the record of outputs and the registers of the `TIME` block as they were. -/
structure Block.sparesTime (b c : Block) : Prop where
  regs : ∀ k, k / 32 / 0x100000 = 1 → c.regs.look k = b.regs.look k
  time : c.time = b.time
  out : c.out = b.out

theorem Block.sparesTime_refl (b : Block) : b.sparesTime b := ⟨fun _ _ => rfl, rfl, rfl⟩

section
variable {b c : Block} (h : b.sparesTime c)
include h

theorem Block.sparesTime.of_regs {d : Block} (hr : d.regs = c.regs) (ht : d.time = c.time) (ho : d.out = c.out) : b.sparesTime d :=
  ⟨fun k hk => (congrArg (·.look k) hr).trans (h.regs k hk), ht.trans h.time, ho.trans h.out⟩

theorem Block.sparesTime.setFld {g : Field} {m : Nat} (hg : g.key m / 32 / 0x100000 ≠ 1) (v : Nat) : b.sparesTime (c.setFld g m v) :=
  ⟨fun k hk => (c.look_setFld_ne v fun e => hg (e ▸ hk)).trans (h.regs k hk), h.time, h.out⟩

theorem Block.sparesTime.fld {f : Field} {n : Nat} (hf : f.key n / 32 / 0x100000 = 1) : c.fld f n = b.fld f n := by
  unfold Block.fld
  rw [h.regs _ hf]

theorem Block.sparesTime.guardReset : b.sparesTime c.guardReset :=
  ⟨fun k hk => (c.guardReset_look (by omega)).trans (h.regs k hk), h.time, h.out⟩

theorem Block.sparesTime.seqIdle : b.sparesTime c.seqIdle := by
  unfold Block.seqIdle
  split
  · split
    · exact (h.setFld (by simp) _).setFld (by simp) _
    · have hg := h.guardReset
      extract_lets ready
      have hr : b.sparesTime ready := Block.ite_cases (P := b.sparesTime) _ hg (hg.setFld (by simp) _)
      exact (hr.setFld (by simp) _).setFld (by simp) _
    · exact h
  · exact h

theorem Block.sparesTime.queueDoms (ds : List Nat) (on ends : Bool) : b.sparesTime (c.queueDoms ds on ends) := by
  unfold Block.queueDoms
  extract_lets changed entries queued
  have hq : b.sparesTime queued := h.of_regs rfl rfl rfl
  exact Block.ite_cases (P := b.sparesTime) _ hq (hq.setFld (by simp) _)

theorem Block.sparesTime.wake (w : Nat) : b.sparesTime (c.wake w) := by
  unfold Block.wake
  split
  · extract_lets woken
    have hw : b.sparesTime woken := by
      have hs : b.sparesTime ((c.setBit F.PWR_WAKE_CAUSE_CAUSE 0 w).setFld F.PWR_STATUS_STATE 0 3) := (h.setFld (by simp) _).setFld (by simp) _
      exact hs.of_regs rfl rfl rfl
    exact (hw.queueDoms _ _ _).seqIdle
  · exact h

end

/-- A timer that wakes the device pulses as one that does not. -/
theorem timerFireWake_spares (n : Nat) (b : Block) : (timerFire n b).sparesTime (timerFireWake n b) := by
  have h := (timerFire n b).sparesTime_refl
  exact Block.ite_cases (P := (timerFire n b).sparesTime) _ h (Block.ite_cases (P := (timerFire n b).sparesTime) _ h (h.wake 2))

/-! ### TIMER_FIRE (R117, R118) -/

theorem timerFire_idle {b : Block} {n : Nat} (h : b.on F.TMR_CFG_ARM n = false ∨ b.time.now < b.time.tmrNext.look n) : timerFireWake n b = b := by
  have hf : timerFire n b = b := if_neg fun hc => h.elim (fun ha => absurd (ha.symm.trans hc.1) Bool.false_ne_true) (Nat.not_lt.mpr hc.2)
  have hd : (b.on F.TMR_CFG_ARM n && decide (b.time.tmrNext.look n ≤ b.time.now)) = false := by
    rcases h with ha | ht
    · rw [ha, Bool.false_and]
    · rw [decide_eq_false (Nat.not_le.mpr ht), Bool.and_false]
  rw [timerFireWake, hf, hd, Block.ite_false]

section
variable {b : Block} {n : Nat} (ha : b.on F.TMR_CFG_ARM n = true) (ht : b.time.tmrNext.look n ≤ b.time.now)
include ha ht

/-- A one-shot that is due pulses and disarms. -/
theorem timerFire_oneShot (hp : b.on F.TMR_CFG_PERIODIC n = false) : timerFire n b = (b.tmrFired n).clr F.TMR_CFG_ARM n := by
  rw [← Block.tmrPulse_oneShot hp]
  refine (if_pos ⟨ha, ht⟩).trans ?_
  rw [hp, Block.ite_false]

/-- A periodic timer that is due pulses and moves on by its period. -/
theorem timerFire_periodic (hp : b.on F.TMR_CFG_PERIODIC n = true) :
    timerFire n b = (b.tmrFired n).setNext n (b.time.tmrNext.look n + b.tmrPeriod n) := by
  have hk := b.tmrFired_keeps n
  have hper : (b.tmrFired n).tmrPeriod n = b.tmrPeriod n := by
    rw [Block.tmrPeriod, hk.fld (by simp [pulseKeys]; omega), hk.fld (by simp [pulseKeys]; omega), Block.tmrPeriod]
  refine (if_pos ⟨ha, ht⟩).trans ?_
  rw [hp, Block.ite_true, Block.tmrPulse_periodic hp, hper]

end

end Sys2Proof.Machine
end

section
/-!
The arming of a timer and the capture units: O9 (R119, R120, R123 to R125).
-/
namespace Sys2Proof.Machine

/-! ### TMR_ARM (R119, R120) -/

theorem arm_of (v : Nat) : F.TMR_CFG_ARM.of v = v % 2 := by simp [Field.of, bitsOf, F.TMR_CFG_ARM]

theorem tmrFields_nodup (n : Nat) : tmrFields.Pairwise (·.key n ≠ ·.key n) := by simp [tmrFields]

/-- Registers other than `TMR_CFG`'s are as they were once a word is stored there. -/
theorem Block.fld_storeTmr_ne (b : Block) {n m : Nat} {f : Field} (h : ∀ g ∈ tmrFields, f.key m ≠ g.key n) (v : Nat) :
    (b.storeWord tmrFields n v).fld f m = b.fld f m := b.fld_storeWord_ne h v

theorem Block.storeWord_time (b : Block) (fs : List Field) (n v : Nat) : (b.storeWord fs n v).time = b.time :=
  ((b.writes_refl (fs.map (·.key n))).storeWord (fun _ hg => List.mem_map_of_mem hg) v).time

/-- A timer's configuration once a word is stored there. -/
theorem Block.storeTmr_cfg (b : Block) (n : Nat) {v : Nat} (hv : v < 2 ^ 32) :
    (b.storeWord tmrFields n v).fld F.TMR_CFG_ARM n = v % 2 ∧ (b.storeWord tmrFields n v).fld F.TMR_CFG_PERIODIC n = v / 2 % 2 ∧
      (b.storeWord tmrFields n v).fld F.TMR_CFG_PIN n = v / 8 % 8 ∧ (b.storeWord tmrFields n v).fld F.TMR_CFG_WIDTH n = max 1 (v / 256) := by
  have hf : ∀ f ∈ tmrFields, f.acc = .rw → (b.storeWord tmrFields n v).fld f n = f.stored (f.of v) % 2 ^ f.width := fun f hm ha =>
    b.fld_storeWord hm ha (tmrFields_nodup n) v
  refine ⟨?_, ?_, ?_, ?_⟩
  · rw [hf F.TMR_CFG_ARM (by simp [tmrFields]) rfl, Field.stored_of_any rfl]; simp [F.TMR_CFG_ARM]
  · rw [hf F.TMR_CFG_PERIODIC (by simp [tmrFields]) rfl, Field.stored_of_any rfl]; simp [F.TMR_CFG_PERIODIC]
  · rw [hf F.TMR_CFG_PIN (by simp [tmrFields]) rfl, Field.stored_of_any rfl]; simp [F.TMR_CFG_PIN]
  · rw [hf F.TMR_CFG_WIDTH (by simp [tmrFields]) rfl, width_stored hv, F.TMR_CFG_WIDTH_width]; omega

theorem Block.storeTmr_start (b : Block) (n v : Nat) : (b.storeWord tmrFields n v).tmrStart n = b.tmrStart n := by
  have hk : ∀ f ∈ [F.TMR_START_SEC_HI_SEC, F.TMR_START_SEC_LO_SEC, F.TMR_START_NS_NS], (b.storeWord tmrFields n v).fld f n = b.fld f n := by
    intro f hf
    refine b.fld_storeTmr_ne ?_ v
    simp only [List.mem_cons, List.not_mem_nil, or_false] at hf
    rcases hf with rfl | rfl | rfl <;> simp [tmrFields]
  simp only [Block.tmrStart, hk _ (List.mem_cons_self ..), hk F.TMR_START_SEC_LO_SEC (by simp), hk F.TMR_START_NS_NS (by simp)]

/-- A word without `ARM` is stored. -/
theorem tmrArm_off {v : Nat} (hv : v % 2 = 0) (n : Nat) (b : Block) : tmrArm n v b = b.storeWord tmrFields n v := by
  simp [tmrArm, arm_of, hv]

theorem tmrTooShort_oneShot (period width : Nat) : tmrTooShort false period width = false := Bool.false_and _

/-- A one-shot is stored and armed from its registers. -/
theorem tmrArm_oneShot {v : Nat} (hv : v % 4 = 1) (n : Nat) (b : Block) : tmrArm n v b = (b.storeWord tmrFields n v).tmrLoad n := by
  have hp : (F.TMR_CFG_PERIODIC.of v == 1) = false := by simp [Field.of, bitsOf, F.TMR_CFG_PERIODIC]; omega
  have ha : (F.TMR_CFG_ARM.of v == 1) = true := by rw [arm_of]; simp; omega
  unfold tmrArm
  rw [hp, ha, tmrTooShort_oneShot]
  exact (if_neg Bool.false_ne_true).trans (Block.ite_true _ _)

/-- Armed for the future, a timer waits. -/
theorem Block.tmrLoad_future {b : Block} {n : Nat} (h : b.time.now ≤ b.tmrStart n) : b.tmrLoad n = b.setNext n (b.tmrStart n) := by
  rw [Block.tmrLoad, if_neg (Nat.not_lt.mpr h)]

/-- Armed for the past, a one-shot fires at once, late. -/
theorem Block.tmrLoad_past {b : Block} {n : Nat} (h : b.tmrStart n < b.time.now) (hp : b.on F.TMR_CFG_PERIODIC n = false) :
    b.tmrLoad n = ((b.setNext n (b.tmrStart n)).tmrPulse n).setBit F.TMR_HIST_LATE 0 n := by
  unfold Block.tmrLoad
  simp only [if_pos h, hp, if_neg Bool.false_ne_true]

theorem Block.setNext_fld (b : Block) (n t : Nat) (f : Field) (m : Nat) : (b.setNext n t).fld f m = b.fld f m := rfl
theorem Block.setNext_on (b : Block) (n t : Nat) (f : Field) (m : Nat) : (b.setNext n t).on f m = b.on f m := rfl

theorem Block.tmrLoad_past_state {b : Block} {n : Nat} (hn : n < 16) (h : b.tmrStart n < b.time.now) (hp : b.on F.TMR_CFG_PERIODIC n = false) :
    (b.tmrLoad n).fld F.TMR_CFG_ARM n = 0 ∧ (b.tmrLoad n).bitAt F.TMR_HIST_FIRED 0 n = true ∧ (b.tmrLoad n).bitAt F.TMR_HIST_LATE 0 n = true ∧
      (b.tmrLoad n).fld F.TMR_COUNT_COUNT n = (b.fld F.TMR_COUNT_COUNT n + 1) % 2 ^ 32 := by
  obtain ⟨hf, hc, -, -⟩ := (b.setNext n (b.tmrStart n)).tmrFired_state hn
  have hs : (b.setNext n (b.tmrStart n)).on F.TMR_CFG_PERIODIC n = false := (b.setNext_on n _ _ _).trans hp
  rw [Block.tmrLoad_past h hp, Block.tmrPulse_oneShot hs]
  refine ⟨?_, ?_, Block.bitAt_setBit_same _ (f := F.TMR_HIST_LATE) 0 (by simpa using hn), ?_⟩
  · rw [Block.fld_setBit_ne _ (by simp; omega), Block.fld_clr_same]
  · rw [Block.bitAt, Block.fld_setBit_ne _ (by simp), Block.fld_clr_ne _ (by simp; omega)]
    exact hf
  · rw [Block.fld_setBit_ne _ (by simp; omega), Block.fld_clr_ne _ (by simp), hc, Block.setNext_fld]

/-! ### CAPTURE_EDGE (R123 to R125) -/

theorem captureEdge_off {b : Block} {n : Nat} (h : b.on F.CAP_CFG_EN n = false) (rising : Bool) (quarters : Nat) : captureEdge n rising quarters b = b :=
  if_neg fun hc => absurd (h.symm.trans hc.1) Bool.false_ne_true

section
variable {b : Block} {n : Nat} {rising : Bool} (he : b.on F.CAP_CFG_EN n = true)
  (hsel : b.fld F.CAP_CFG_EDGE n = 3 ∨ b.fld F.CAP_CFG_EDGE n = (if rising then 1 else 2)) (hsrc : b.fld F.CAP_CFG_SRC n ≤ 11 ∨ 16 ≤ b.fld F.CAP_CFG_SRC n)
include he hsel hsrc

/-- A selected edge of a known source is the unit's to take. -/
theorem captureEdge_selected : b.on F.CAP_CFG_EN n = true ∧
    ((b.fld F.CAP_CFG_EDGE n == 3) || (b.fld F.CAP_CFG_EDGE n == 1 && rising) || (b.fld F.CAP_CFG_EDGE n == 2 && !rising)) = true ∧
    (decide (b.fld F.CAP_CFG_SRC n ≤ 11) || decide (16 ≤ b.fld F.CAP_CFG_SRC n)) = true := by
  refine ⟨he, ?_, by simpa using hsrc⟩
  rcases hsel with h | h
  · simp [h]
  · cases rising <;> simp_all

theorem captureEdge_room (hq : (b.capQueue n).length < 4) (quarters : Nat) : captureEdge n rising quarters b =
    (b.setCapQueue n (b.capQueue n ++ [⟨b.nowSec, b.nowNs, if b.fld F.CAP_CFG_SRC n = 1 ∨ b.fld F.CAP_CFG_SRC n = 2 ∨ b.fld F.CAP_CFG_SRC n = 3 then
      quarters % 4 * 16384 else 0, rising⟩])).setBit F.CAP_HIST_CAPTURED 0 n :=
  (if_pos (captureEdge_selected he hsel hsrc)).trans (if_neg (Nat.not_le.mpr hq))

theorem captureEdge_full (hq : 4 ≤ (b.capQueue n).length) (quarters : Nat) :
    captureEdge n rising quarters b = (b.bump F.CAP_CFG_OVF_COUNT n 1).setBit F.CAP_HIST_OVF 0 n :=
  (if_pos (captureEdge_selected he hsel hsrc)).trans (if_pos hq)

end

@[simp] theorem Block.effect_capQueue (b : Block) (f : Block → Block) (n : Nat) : (b.effect f).capQueue n = (f b.quiet).capQueue n := rfl

end Sys2Proof.Machine
end

section
/-!
O9: the statement, from the rules above.
-/
namespace Sys2Proof.Machine
theorem Block.setNext_bitAt (b : Block) (n t : Nat) (f : Field) (m k : Nat) : (b.setNext n t).bitAt f m k = b.bitAt f m k := rfl
theorem Block.setNext_out (b : Block) (n t : Nat) : (b.setNext n t).out = b.out := rfl

/-- A timer that is due pulses; a one-shot disarms, a periodic one moves on by exactly its period (R117, R118). -/
theorem timerFire_state {b : Block} {n : Nat} (hn : n < 16) (ha : b.on F.TMR_CFG_ARM n = true) (ht : b.time.tmrNext.look n ≤ b.time.now) :
    (timerFire n b).bitAt F.TMR_HIST_FIRED 0 n = true ∧ (timerFire n b).fld F.TMR_COUNT_COUNT n = (b.fld F.TMR_COUNT_COUNT n + 1) % 2 ^ 32 ∧
      (b.pinBad (tmrPin (b.fld F.TMR_CFG_PIN n)) = false →
        Out.pulse n (if b.on F.TMR_CFG_PIN_EN n then some (b.fld F.TMR_CFG_PIN n) else none) (b.fld F.TMR_CFG_WIDTH n * 100)
          (b.tmrActive (b.fld F.TMR_CFG_PIN n)) ∈ (timerFire n b).out) ∧
      (timerFire n b).time.tmrEnd.look n = b.time.raw + b.fld F.TMR_CFG_WIDTH n * 100 ∧
      (b.on F.TMR_CFG_PERIODIC n = true →
        (timerFire n b).time.tmrNext.look n = b.time.tmrNext.look n + b.tmrPeriod n ∧ (timerFire n b).fld F.TMR_CFG_ARM n = 1) ∧
      (b.on F.TMR_CFG_PERIODIC n = false → (timerFire n b).fld F.TMR_CFG_ARM n = 0) := by
  obtain ⟨hfired, hcount, htime, hout⟩ := b.tmrFired_state hn
  have harm : (b.tmrFired n).fld F.TMR_CFG_ARM n = 1 := ((b.tmrFired_keeps n).fld (by simp [pulseKeys]; omega)).trans (beq_iff_eq.mp ha)
  have hend : (b.tmrFired n).time.tmrEnd.look n = b.time.raw + b.fld F.TMR_CFG_WIDTH n * 100 := by rw [htime, Bank.look_put_same]
  cases hp : b.on F.TMR_CFG_PERIODIC n with
  | true =>
    rw [timerFire_periodic ha ht hp]
    refine ⟨?_, ?_, ?_, ?_, fun _ => ⟨?_, ?_⟩, nofun⟩
    · rw [Block.setNext_bitAt, hfired]
    · rw [Block.setNext_fld, hcount]
    · rw [Block.setNext_out]
      exact hout
    · rw [Block.setNext_time, hend]
    · rw [Block.setNext_time, Bank.look_put_same]
    · rw [Block.setNext_fld, harm]
  | false =>
    rw [timerFire_oneShot ha ht hp]
    refine ⟨?_, ?_, hout, hend, nofun, fun _ => Block.fld_clr_same _ _ _⟩
    · rw [Block.bitAt, Block.fld_clr_ne _ (by simp; omega)]
      exact hfired
    · rw [Block.fld_clr_ne _ (by simp), hcount]

/-- Settles O9: an arming is `storeWord` and `tmrLoad`, which waits or fires late; a due timer is `tmrFired`, whatever else wakes with it; an edge is
one entry more or a count. -/
theorem timersAndCaptures : Obligations.TimersAndCaptures := by
  intro s n hs hn
  refine ⟨fun v hr hv => ?_, fun v hr hv ht => ?_, fun v hr hv ht => ?_, fun ha ht => ?_, fun h => ?_, fun rising quarters he hsel hsrc => ⟨fun hq => ?_, fun hq => ?_⟩,
    fun rising quarters he => ?_⟩
  · have he := tmrArm_off hv n s.quiet
    obtain ⟨harm, -, hpin, hwidth⟩ := s.quiet.storeTmr_cfg n v.isLt
    refine ⟨_, run_reaches hs hr _ _, ?_⟩
    simp only [Block.effect_fld, Block.effect_time, he]
    exact ⟨harm.trans hv, hpin, hwidth, Block.storeWord_time _ _ _ _⟩
  · have he := tmrArm_oneShot hv n s.quiet
    have hst := s.quiet.storeTmr_start n v.toNat
    have hload := Block.tmrLoad_future (b := s.quiet.storeWord tmrFields n v.toNat) (n := n) (by rw [hst, Block.storeWord_time]; exact ht)
    obtain ⟨harm, -, -, -⟩ := s.quiet.storeTmr_cfg n v.isLt
    refine ⟨_, run_reaches hs hr _ _, ?_, ?_, ?_⟩
    · rw [Block.effect_fld, he, hload, Block.setNext_fld, harm]
      omega
    · rw [Block.effect_time, he, hload, Block.setNext_time, Bank.look_put_same, hst]
      rfl
    · rw [Block.effect_fld, he, hload, Block.setNext_fld]
      exact Block.fld_storeTmr_ne _ (by simp [tmrFields]; omega) _
  · have he := tmrArm_oneShot hv n s.quiet
    obtain ⟨-, hper, -, -⟩ := s.quiet.storeTmr_cfg n v.isLt
    have hp : (s.quiet.storeWord tmrFields n v.toNat).on F.TMR_CFG_PERIODIC n = false := by
      rw [Block.on, hper, show v.toNat / 2 % 2 = 0 by omega]; rfl
    obtain ⟨harm, hfired, hlate, hcount⟩ := Block.tmrLoad_past_state (b := s.quiet.storeWord tmrFields n v.toNat) hn
      (by rw [Block.storeTmr_start, Block.storeWord_time]; exact ht) hp
    refine ⟨_, run_reaches hs hr _ _, ?_⟩
    simp only [Block.effect_fld, Block.effect_bitAt, he]
    rw [Block.fld_storeTmr_ne _ (by simp [tmrFields])] at hcount
    exact ⟨harm, hfired, hlate, hcount⟩
  · obtain ⟨hfired, hcount, hout, hend, hper, hone⟩ := timerFire_state (b := s.quiet) hn ha ht
    have hw := timerFireWake_spares n s.quiet
    have hf : (timerFireWake n s.quiet).fld F.TMR_HIST_FIRED 0 = (timerFire n s.quiet).fld F.TMR_HIST_FIRED 0 := hw.fld (by simp)
    have hc : (timerFireWake n s.quiet).fld F.TMR_COUNT_COUNT n = (timerFire n s.quiet).fld F.TMR_COUNT_COUNT n := hw.fld (by simp; omega)
    have harm : (timerFireWake n s.quiet).fld F.TMR_CFG_ARM n = (timerFire n s.quiet).fld F.TMR_CFG_ARM n := hw.fld (by simp; omega)
    refine ⟨_, run_live _ hs, ?_⟩
    simp only [Block.bitAt, Block.effect_fld, Block.effect_time, hf, hc, harm, hw.time]
    exact ⟨hfired, hcount, fun hp => mem_effect_out (by rw [hw.out]; exact hout hp), hend, hper, hone⟩
  · exact ⟨_, run_live _ hs, onlyRegs_effect_self (timerFire_idle (b := s.quiet) h)⟩
  · have hc := captureEdge_room (b := s.quiet) he hsel hsrc hq quarters
    refine ⟨_, run_live _ hs, ?_, regsKept_effect ?_, ?_⟩
    · rw [Block.effect_bitAt, hc]
      exact Block.bitAt_setBit_same _ (f := F.CAP_HIST_CAPTURED) 0 (by simpa using hn)
    · rw [hc]
      exact Block.keeps.setFld ((Block.keeps_refl _ _).of_regs rfl) List.mem_cons_self _
    · have hfrac : (1 ≤ s.fld F.CAP_CFG_SRC n ∧ s.fld F.CAP_CFG_SRC n ≤ 3) ↔
          (s.fld F.CAP_CFG_SRC n = 1 ∨ s.fld F.CAP_CFG_SRC n = 2 ∨ s.fld F.CAP_CFG_SRC n = 3) := by omega
      rw [Block.effect_capQueue, hc]
      simp only [hfrac]
      exact Bank.look_put_same _ _ _
  · have hc := captureEdge_full (b := s.quiet) he hsel hsrc hq quarters
    refine ⟨_, run_live _ hs, ?_, ?_, onlyRegs_effect ?_⟩
    · rw [Block.effect_bitAt, hc]
      exact Block.bitAt_setBit_same _ (f := F.CAP_HIST_OVF) 0 (by simpa using hn)
    · rw [Block.effect_fld, hc, Block.fld_setBit_ne _ (by simp; omega), Block.bump, Block.fld_setFld_same, Block.quiet_fld]
      simp only [F.CAP_CFG_OVF_COUNT_width]
      omega
    · rw [hc]
      exact ((Block.writes_refl _ _).setFld (by simp) _).setFld (by simp) _
  · exact ⟨_, run_live _ hs, onlyRegs_effect_self (captureEdge_off (b := s.quiet) he rising quarters)⟩

end Sys2Proof.Machine
end

section
/-!
Dividers and ramps: O11.
-/
namespace Sys2Proof.Machine

/-! ### The synthesizers' state, word by word (R86, R88) -/

@[simp] theorem Block.effect_synth (b : Block) (f : Block → Block) (m : Nat) : (b.effect f).synth m = (f b.quiet).synth m := rfl
@[simp] theorem Block.effect_pllState (b : Block) (f : Block → Block) (m : Nat) : (b.effect f).pllState m = (f b.quiet).pllState m := rfl
@[simp] theorem Block.effect_pllWord (b : Block) (f : Block → Block) (m : Nat) : (b.effect f).pllWord m = (f b.quiet).pllWord m := rfl
@[simp] theorem Block.quiet_synth (b : Block) (m : Nat) : b.quiet.synth m = b.synth m := rfl

@[simp] theorem Block.setFld_synth (b : Block) (f : Field) (n v m : Nat) : (b.setFld f n v).synth m = b.synth m := rfl
@[simp] theorem Block.updSynth_synth_same (b : Block) (m : Nat) (f : Synth → Synth) : (b.updSynth m f).synth m = f (b.synth m) :=
  b.pll.look_upd_same m f
theorem Block.updSynth_pllState (b : Block) (m : Nat) (f : Synth → Synth) (n : Nat) : (b.updSynth m f).pllState n = b.pllState n := rfl

@[simp] theorem Block.setPllState_same (b : Block) (m : Nat) {st : Nat} (h : st < 8) : (b.setPllState m st).pllState m = st :=
  (b.fld_setFld_same _ _ _).trans (Nat.mod_eq_of_lt h)

theorem Block.updSynth_keeps {b c : Block} {ks : List Nat} (h : b.keeps c ks) (m : Nat) (f : Synth → Synth) : b.keeps (c.updSynth m f) ks :=
  h.of_regs rfl
theorem Block.countFrom_keeps {b c : Block} {ks : List Nat} (h : b.keeps c ks) (m : Nat) : b.keeps (c.countFrom m) ks := h.of_regs rfl

/-- The keys of a programmed divider word. -/
def wordKeys (m : Nat) : List Nat := [F.PLL_N_INT_N_INT.key m, F.PLL_N_FRAC_N_FRAC.key m]

theorem Block.setPllWord_keeps (b : Block) (m w : Nat) : b.keeps (b.setPllWord m w) (wordKeys m) :=
  ((b.keeps_refl _).setFld (by simp [wordKeys]) _).setFld (by simp [wordKeys]) _

/-- A word stored reads as its two halves. -/
theorem Block.setPllWord_int (b : Block) (m w : Nat) : (b.setPllWord m w).fld F.PLL_N_INT_N_INT m = w / 2 ^ 32 % 512 := by
  unfold Block.setPllWord
  rw [Block.fld_setFld_ne _ _ (by simp), Block.fld_setFld_same]
  rfl
theorem Block.setPllWord_frac (b : Block) (m w : Nat) : (b.setPllWord m w).fld F.PLL_N_FRAC_N_FRAC m = w % 2 ^ 32 := by
  unfold Block.setPllWord
  rw [Block.fld_setFld_same]
  rfl

/-- A word within `N_INT`'s nine bits is the programmed word once stored. -/
theorem Block.setPllWord_word (b : Block) (m : Nat) {w : Nat} (h : w < 512 * 2 ^ 32) : (b.setPllWord m w).pllWord m = w := by
  rw [Block.pllWord, b.setPllWord_int, b.setPllWord_frac]
  omega

theorem Block.setPllWord_pllState (b : Block) (m w : Nat) : (b.setPllWord m w).pllState m = b.pllState m :=
  (b.setPllWord_keeps m w).fld (by simp [wordKeys])

/-! ### PLL_DIVIDER_WRITE (R96) -/

/-- The word that a write of one of its halves asks for. -/
def Block.dividerWord (b : Block) (m which v : Nat) : Nat :=
  if which = 1 then v % 512 * 2 ^ 32 + b.fld F.PLL_N_FRAC_N_FRAC m else b.fld F.PLL_N_INT_N_INT m * 2 ^ 32 + v % 2 ^ 32

/-- How far a word moves another. -/
theorem move_eq (new old : Nat) : (if old < new then new - old else old - new) = (Int.ofNat new - Int.ofNat old).natAbs := by
  simp only [Int.ofNat_eq_natCast]
  split <;> omega

theorem Block.ramping_of_locked {b : Block} {m : Nat} (h : b.pllState m = 2) : b.ramping m = (b.synth m).paused := by
  simp [Block.ramping, h]

theorem Block.ramping_of_state {b : Block} {m : Nat} (h : b.pllState m = 4) : b.ramping m = true := by
  simp [Block.ramping, h]

theorem pllDividerWrite_ramping {b : Block} {m : Nat} (h : b.ramping m = true) (which v : Nat) :
    pllDividerWrite m which v b = b.set F.PLL_HIST_WRITE_REJECTED m := if_pos (.inl h)

section
variable {b : Block} {m which v w : Nat} (hs : b.pllState m = 2) (hw : b.dividerWord m which v = w)
include hs hw

/-- A locked synthesizer's word moved by more than 1,000 ppm: the write is discarded. -/
theorem pllDividerWrite_far (h : b.pllWord m < (Int.ofNat w - Int.ofNat (b.pllWord m)).natAbs * 1000) :
    pllDividerWrite m which v b = b.set F.PLL_HIST_WRITE_REJECTED m := by
  unfold pllDividerWrite
  dsimp only
  rw [← Block.dividerWord, hw, move_eq]
  exact if_pos (.inr ⟨hs, by omega⟩)

/-- Moved by at most 1,000 ppm, it is stored, and counting starts anew. -/
theorem pllDividerWrite_near (hp : (b.synth m).paused = false) (h : (Int.ofNat w - Int.ofNat (b.pllWord m)).natAbs * 1000 ≤ b.pllWord m) :
    pllDividerWrite m which v b = (b.setPllWord m w).countFrom m := by
  have hr : ¬(b.ramping m = true ∨ (b.pllState m = 2 ∧ b.pllWord m * 1000 < (Int.ofNat w - Int.ofNat (b.pllWord m)).natAbs * 1000000)) := by
    rintro (hr | ⟨-, hm⟩)
    · rw [Block.ramping_of_locked hs, hp] at hr
      exact Bool.false_ne_true hr
    · omega
  unfold pllDividerWrite
  dsimp only
  rw [← Block.dividerWord, hw, move_eq, if_neg hr, hs]
  rfl

end

/-- A locked synthesizer whose word is stored is locked, and has the word's halves in its registers. -/
theorem Block.stored_state (b : Block) (m w : Nat) :
    ((b.setPllWord m w).countFrom m).pllState m = b.pllState m ∧ ((b.setPllWord m w).countFrom m).fld F.PLL_N_INT_N_INT m = w / 2 ^ 32 % 512 ∧
      ((b.setPllWord m w).countFrom m).fld F.PLL_N_FRAC_N_FRAC m = w % 2 ^ 32 ∧ b.keeps ((b.setPllWord m w).countFrom m) (wordKeys m) :=
  ⟨b.setPllWord_pllState m w, b.setPllWord_int m w, b.setPllWord_frac m w, Block.countFrom_keeps (b.setPllWord_keeps m w) m⟩

/-- A refused write is flagged, and does nothing else. -/
theorem Block.setRejected_writes (b : Block) (m : Nat) :
    (b.set F.PLL_HIST_WRITE_REJECTED m).fld F.PLL_HIST_WRITE_REJECTED m = 1 ∧
      b.writes (b.set F.PLL_HIST_WRITE_REJECTED m) [F.PLL_HIST_WRITE_REJECTED.key m] :=
  ⟨Block.fld_set_same _ _ _, (b.writes_refl _).setFld List.mem_cons_self _⟩

/-! ### PLL_SMALL_WRITE (R94, R99) -/

/-- Acquisition starts anew, with the output gated off. -/
theorem Block.acquire_state (b : Block) (m : Nat) :
    (b.acquire m).pllState m = 1 ∧ (b.acquire m).fld F.PLL_STATUS_OUT_ON m = 0 ∧ (b.acquire m).synth m = default ∧
      b.keeps (b.acquire m) [F.PLL_STATUS_STATE.key m, F.PLL_STATUS_OUT_ON.key m, F.PLL_STATUS_RAMP_SEG.key m] := by
  unfold Block.acquire
  extract_lets anew
  have hanew : anew.synth m = default := b.updSynth_synth_same m fun _ => default
  refine ⟨?_, ?_, hanew, ?_⟩
  · rw [Block.pllState, Block.fld_clr_ne _ (by simp), Block.fld_clr_ne _ (by simp)]
    exact Block.setPllState_same _ m (by decide)
  · rw [Block.fld_clr_ne _ (by simp), Block.fld_clr_same]
  · exact (((Block.updSynth_keeps (b.keeps_refl _) m _).setFld (by simp) _).setFld (by simp) _).setFld (by simp) _

theorem pllSmallWrite_on {b : Block} {m : Nat} (h : b.on F.PLL_CTRL_EN m = true) (v : Nat) :
    pllSmallWrite m 1 v b = (b.storeWord [F.PLL_N_INT_N_INT] m v).acquire m := by
  have he : (b.storeWord [F.PLL_N_INT_N_INT] m v).on F.PLL_CTRL_EN m = true :=
    (congrArg (· == 1) (b.fld_storeWord_ne (f := F.PLL_CTRL_EN) (fs := [F.PLL_N_INT_N_INT]) (by simp) v)).trans h
  exact if_pos he

/-! ### RAMP_GO, RAMP_ABORT, RAMP_HOLD_END (R97, R98) -/

/-- The device with media synthesizer `m` ramping from its programmed word. -/
def Block.rampReady (b : Block) (m : Nat) : Block := (b.updSynth m fun y => { y with word := b.pllWord m }).setPllState m 4

theorem Block.rampReady_keeps (b : Block) (m : Nat) : b.keeps (b.rampReady m) [F.PLL_STATUS_STATE.key m] :=
  (Block.updSynth_keeps (b.keeps_refl _) m _).setFld List.mem_cons_self _

theorem Block.rampReady_word (b : Block) (m : Nat) : ((b.rampReady m).synth m).word = b.pllWord m := by
  rw [Block.rampReady, Block.setPllState, Block.setFld_synth, Block.updSynth_synth_same]

theorem Block.rampReady_wordOk (b : Block) (m : Nat) : (b.rampReady m).pllWordOk m ((b.rampReady m).rampTarget m 0) = b.pllWordOk m (b.rampTarget m 0) := by
  have hk := b.rampReady_keeps m
  have ht : (b.rampReady m).rampTarget m 0 = b.rampTarget m 0 := by
    rw [Block.rampTarget, hk.fld (by simp; omega), hk.fld (by simp; omega), Block.rampTarget]
  rw [ht, Block.pllWordOk, hk.fld (by simp), Block.pllWordOk]

theorem rampGo_idle {b : Block} {m v : Nat} (h : v % 2 = 0 ∨ b.pllState m ≠ 2) : rampGo m v b = b := by
  have hg : F.PLL_RAMP_GO_GO.of v = v % 2 := by simp [Field.of, bitsOf, F.PLL_RAMP_GO_GO]
  exact if_neg fun ⟨h1, _, h2⟩ => h.elim (fun h0 => by omega) fun hn => hn h2

theorem rampGo_starts {b : Block} {m v : Nat} (hv : v % 2 = 1) (hm : m < 4) (hs : b.pllState m = 2) : rampGo m v b = (b.rampReady m).rampStart m 0 := by
  have hg : F.PLL_RAMP_GO_GO.of v = v % 2 := by simp [Field.of, bitsOf, F.PLL_RAMP_GO_GO]
  exact if_pos ⟨hg.trans hv, hm, hs⟩

theorem Block.rampStart_ok {b : Block} {m seg : Nat} (h : b.pllWordOk m (b.rampTarget m seg) = true) :
    b.rampStart m seg = (b.setFld F.PLL_STATUS_RAMP_SEG m seg).updSynth m fun y => { y with holding := false } := if_pos h

theorem Block.rampStart_bad {b : Block} {m seg : Nat} (h : b.pllWordOk m (b.rampTarget m seg) = false) :
    b.rampStart m seg = (b.rampStop m).set F.PLL_HIST_WRITE_REJECTED m := if_neg (h ▸ Bool.false_ne_true)

/-- A ramp stopped leaves the synthesizer locked at the word it had reached, and writes nothing else. -/
theorem Block.rampStop_state {b : Block} {m : Nat} (hs : b.pllState m = 4) :
    (b.rampStop m).pllState m = 2 ∧ ((b.synth m).word < 512 * 2 ^ 32 → (b.rampStop m).pllWord m = (b.synth m).word) ∧
      b.keeps (b.rampStop m) (F.PLL_STATUS_STATE.key m :: wordKeys m) := by
  unfold Block.rampStop
  extract_lets w stored state
  have hst : stored.pllState m = 4 := (b.setPllWord_pllState m w).trans hs
  have hq : state = stored.setPllState m 2 := by
    simp only [state, hst]
    rfl
  rw [hq]
  refine ⟨(Block.setPllState_same stored m (show 2 < 8 by decide) :), fun hw => ?_, ?_⟩
  · have hk : stored.keeps (stored.setPllState m 2) [F.PLL_STATUS_STATE.key m] := (stored.keeps_refl _).setFld List.mem_cons_self _
    have hword : (stored.setPllState m 2).pllWord m = stored.pllWord m := by
      rw [Block.pllWord, hk.fld (by simp), hk.fld (by simp), Block.pllWord]
    exact hword.trans (b.setPllWord_word m hw)
  · refine Block.countFrom_keeps (Block.updSynth_keeps ?_ m _) m
    have hk : b.keeps stored (F.PLL_STATUS_STATE.key m :: wordKeys m) :=
      ((b.keeps_refl _).setFld (by simp [wordKeys]) _).setFld (by simp [wordKeys]) _
    exact hk.setFld List.mem_cons_self _

theorem rampHoldEnd_idle {b : Block} {m : Nat} (h : b.pllState m ≠ 4) : rampHoldEnd m b = b := if_neg fun hc => h hc.1

/-- The end of the last segment's hold ends the ramp. -/
theorem rampHoldEnd_last {b : Block} {m : Nat} (hs : b.pllState m = 4) (hh : (b.synth m).holding = true) (h3 : b.fld F.PLL_STATUS_RAMP_SEG m = 3) :
    rampHoldEnd m b = (b.rampStop m).set F.PLL_HIST_RAMP_DONE m := (if_pos ⟨hs, hh⟩).trans (if_pos (.inr h3))

theorem rampAbort_idle {b : Block} {m v : Nat} (h : v / 2 % 2 = 0 ∨ b.ramping m = false) : rampAbort m v b = b := by
  have hg : F.PLL_RAMP_GO_ABORT.of v = v / 2 % 2 := by simp [Field.of, bitsOf, F.PLL_RAMP_GO_ABORT]
  exact if_neg fun ⟨h1, _, h2⟩ => h.elim (fun h0 => by omega) fun hn => Bool.false_ne_true (hn.symm.trans h2)

theorem rampAbort_stops {b : Block} {m v : Nat} (hv : v / 2 % 2 = 1) (hm : m < 4) (hs : b.pllState m = 4) : rampAbort m v b = b.rampStop m := by
  have hg : F.PLL_RAMP_GO_ABORT.of v = v / 2 % 2 := by simp [Field.of, bitsOf, F.PLL_RAMP_GO_ABORT]
  exact if_pos ⟨hg.trans hv, hm, Block.ramping_of_state hs⟩

/-! ### PLL_TRACK_UPDATE (R88, R97) -/

/-- The device with the ramp of `m`, if one moves, moved by one step. -/
def Block.rampStepped (b : Block) (m : Nat) : Block :=
  b.ite (b.pllState m == 4 && !(b.synth m).holding) fun b =>
    let seg := b.fld F.PLL_STATUS_RAMP_SEG m
    let step := max 1 (b.fld F.RAMP_STEP_STEP (4 * m + seg))
    let w := toward (b.synth m).word (b.rampTarget m seg) step
    b.updSynth m fun y => { y with word := w, holding := w == b.rampTarget m seg }

/-- The device with the word in use of `m` scaled by the rate and corrected. -/
def Block.wordTracked (b : Block) (m : Nat) : Block :=
  b.updSynth m fun y => { y with tracked := (Int.ofNat (b.wordNow m) + Int.ofNat (b.wordNow m) * b.rateNow / Int.ofNat (2 ^ 48) + y.corrected).toNat }

theorem pllTrackUpdate_eq (m : Nat) (b : Block) : pllTrackUpdate m b =
    if (b.rampStepped m).on F.PLL_CTRL_EN m ∧ (b.rampStepped m).on F.PLL_CTRL_TRACK m then (b.rampStepped m).wordTracked m else b.rampStepped m := rfl

theorem pllTrackUpdate_keeps (m : Nat) (b : Block) : b.keeps (pllTrackUpdate m b) [] := by
  have hs : b.keeps (b.rampStepped m) [] := Block.ite_cases (P := fun c => b.keeps c []) _ (b.keeps_refl _) (Block.updSynth_keeps (b.keeps_refl _) m _)
  rw [pllTrackUpdate_eq]
  split
  · exact Block.updSynth_keeps hs m _
  · exact hs

/-- The scaled word leaves the word in use. -/
theorem Block.wordTracked_word (b : Block) (m : Nat) : ((b.wordTracked m).synth m).word = (b.synth m).word := by
  rw [Block.wordTracked, Block.updSynth_synth_same]

theorem pllTrackUpdate_word (m : Nat) (b : Block) : ((pllTrackUpdate m b).synth m).word = ((b.rampStepped m).synth m).word := by
  rw [pllTrackUpdate_eq]
  split
  · exact Block.wordTracked_word _ m
  · rfl

theorem Block.rampStepped_word {b : Block} {m : Nat} (hs : b.pllState m = 4) (hh : (b.synth m).holding = false) :
    ((b.rampStepped m).synth m).word = toward (b.synth m).word (b.rampTarget m (b.fld F.PLL_STATUS_RAMP_SEG m))
      (max 1 (b.fld F.RAMP_STEP_STEP (4 * m + b.fld F.PLL_STATUS_RAMP_SEG m))) := by
  rw [Block.rampStepped, hs, hh]
  exact congrArg Synth.word (b.updSynth_synth_same m _)

/-- Settles O11: a divider write is stored or refused by how far it moves the word; a small synthesizer's write is `acquire`; a ramp runs, ends and
stops by `rampStart`, `rampStepped` and `rampStop`. -/
theorem dividersAndRampsAreGuarded : Obligations.DividersAndRampsAreGuarded := by
  intro s m hs
  refine ⟨fun v hm hr h2 hp hmove hfrac => ?_, fun v hm hr h2 hp hmove hint => ?_, fun v hm hr h2 hmove => ?_, fun v which hm hr h4 => ?_,
    fun v hlo hhi hr he => ?_, fun v hv hm hr h2 hok => ?_, fun v hv hm hr h2 hbad => ?_, fun v hr h => ?_, fun hm h4 hh hseg => ?_,
    fun hm h4 hh hseg hw => ?_, fun h4 => ?_, fun v hv hm hr h4 hw => ?_, fun v hr h => ?_⟩
  · have he : pllDividerWrite m 1 v.toNat s.quiet = _ := pllDividerWrite_near (b := s.quiet) h2 rfl hp hmove
    obtain ⟨hst, hint, hfr, hk⟩ := s.quiet.stored_state m (s.quiet.dividerWord m 1 v.toNat)
    rw [← he] at hst hint hfr hk
    refine ⟨_, run_reaches hs hr _ _, hst.trans h2, hint.trans ?_, hfr.trans ?_, regsKept_effect hk⟩
    · rw [Block.dividerWord, if_pos rfl, Block.quiet_fld]
      omega
    · rw [Block.dividerWord, if_pos rfl, Block.quiet_fld]
      omega
  · have hv : v.toNat % 2 ^ 32 = v.toNat := Nat.mod_eq_of_lt v.isLt
    have hword : s.quiet.dividerWord m 2 v.toNat = s.fld F.PLL_N_INT_N_INT m * 2 ^ 32 + v.toNat := by
      rw [Block.dividerWord, if_neg (by decide), hv, Block.quiet_fld]
    have he : pllDividerWrite m 2 v.toNat s.quiet = _ := pllDividerWrite_near (b := s.quiet) h2 hword hp hmove
    obtain ⟨hst, hi, hfr, hk⟩ := s.quiet.stored_state m (s.fld F.PLL_N_INT_N_INT m * 2 ^ 32 + v.toNat)
    rw [← he] at hst hi hfr hk
    have := v.isLt
    refine ⟨_, run_reaches hs hr _ _, hst.trans h2, hfr.trans ?_, hi.trans ?_, regsKept_effect hk⟩
    · omega
    · omega
  · have he : pllDividerWrite m 1 v.toNat s.quiet = _ := pllDividerWrite_far (b := s.quiet) h2 rfl hmove
    obtain ⟨hf, hw⟩ := s.quiet.setRejected_writes m
    rw [← he] at hf hw
    exact ⟨_, run_reaches hs hr _ _, hf, onlyRegs_effect hw⟩
  · have he : pllDividerWrite m which v.toNat s.quiet = _ := pllDividerWrite_ramping (b := s.quiet) (Block.ramping_of_state h4) _ _
    obtain ⟨hf, hw⟩ := s.quiet.setRejected_writes m
    rw [← he] at hf hw
    exact ⟨_, run_reaches hs hr _ _, hf, onlyRegs_effect hw⟩
  · have hx : pllSmallWrite m 1 v.toNat s.quiet = _ := pllSmallWrite_on (b := s.quiet) he v.toNat
    obtain ⟨hst, hout, hsy, hk⟩ := (s.quiet.storeWord [F.PLL_N_INT_N_INT] m v.toNat).acquire_state m
    rw [← hx] at hst hout hsy hk
    have hw := (s.quiet.writes_refl [F.PLL_N_INT_N_INT.key m]).storeWord (fs := [F.PLL_N_INT_N_INT]) (n := m) (by simp) v.toNat
    refine ⟨_, run_reaches hs hr _ _, hst, hout, congrArg Synth.good hsy, regsKept_effect fun k hn => ?_⟩
    rw [hk k (fun h => hn (List.mem_cons_of_mem _ h)), hw.1 k (fun h => hn (List.mem_of_mem_head? (by simp_all)))]
    rfl
  · have he : rampGo m v.toNat s.quiet = _ := (rampGo_starts (b := s.quiet) hv hm h2).trans (Block.rampStart_ok ((s.quiet.rampReady_wordOk m).trans hok))
    have hk : s.quiet.keeps (s.quiet.rampReady m) [F.PLL_STATUS_STATE.key m, F.PLL_STATUS_RAMP_SEG.key m] :=
      (Block.updSynth_keeps (s.quiet.keeps_refl _) m _).setFld List.mem_cons_self _
    refine ⟨_, run_reaches hs hr _ _, ?_, ?_, ?_, regsKept_effect ?_⟩
    · rw [Block.effect_pllState, he, Block.updSynth_pllState, Block.pllState, Block.fld_setFld_ne _ _ (by simp)]
      exact Block.setPllState_same _ m (by decide)
    · rw [Block.effect_fld, he, Block.updSynth_fld, Block.fld_setFld_same]
      rfl
    · rw [Block.effect_synth, he, Block.updSynth_synth_same, Block.setFld_synth]
      exact s.quiet.rampReady_word m
    · rw [he]
      exact Block.updSynth_keeps (hk.setFld (by simp) _) m _
  · have he : rampGo m v.toNat s.quiet = _ := (rampGo_starts (b := s.quiet) hv hm h2).trans (Block.rampStart_bad ((s.quiet.rampReady_wordOk m).trans hbad))
    obtain ⟨hst, -, -⟩ := Block.rampStop_state (b := s.quiet.rampReady m) (m := m) (Block.setPllState_same _ m (by decide))
    refine ⟨_, run_reaches hs hr _ _, ?_, ?_⟩
    · rw [Block.effect_pllState, he, Block.pllState, Block.fld_set_ne _ (by simp)]
      exact hst
    · rw [Block.effect_fld, he]
      exact Block.fld_set_same _ _ _
  · exact ⟨_, run_reaches hs hr _ _, onlyRegs_effect_self (rampGo_idle (b := s.quiet) h)⟩
  · refine ⟨_, run_live _ hs, ?_, regsKept_effect (pllTrackUpdate_keeps m s.quiet)⟩
    rw [Block.effect_synth, pllTrackUpdate_word, Block.rampStepped_word (b := s.quiet) h4 hh]
    rfl
  · have he : rampHoldEnd m s.quiet = _ := rampHoldEnd_last (b := s.quiet) h4 hh hseg
    obtain ⟨hst, hword, -⟩ := Block.rampStop_state (b := s.quiet) (m := m) h4
    have hd : (s.quiet.rampStop m).keeps ((s.quiet.rampStop m).set F.PLL_HIST_RAMP_DONE m) [F.PLL_HIST_RAMP_DONE.key m] :=
      ((s.quiet.rampStop m).keeps_refl _).setFld List.mem_cons_self _
    refine ⟨_, run_live _ hs, ?_, ?_, ?_⟩
    · rw [Block.effect_pllState, he, Block.pllState, hd.fld (by simp)]
      exact hst
    · rw [Block.effect_fld, he]
      exact Block.fld_set_same _ _ _
    · rw [Block.effect_pllWord, he, Block.pllWord, hd.fld (by simp), hd.fld (by simp)]
      exact hword hw
  · exact ⟨_, run_live _ hs, onlyRegs_effect_self (rampHoldEnd_idle (b := s.quiet) h4)⟩
  · have he : rampAbort m v.toNat s.quiet = _ := rampAbort_stops (b := s.quiet) hv hm h4
    obtain ⟨hst, hword, hk⟩ := Block.rampStop_state (b := s.quiet) (m := m) h4
    rw [← he] at hst hword hk
    exact ⟨_, run_reaches hs hr _ _, hst, hword hw, hk.fld (by simp [wordKeys])⟩
  · exact ⟨_, run_reaches hs hr _ _, onlyRegs_effect_self (rampAbort_idle (b := s.quiet) h)⟩

end Sys2Proof.Machine
end

section
/-!
Lock, loss of lock and loss of reference: O10.
-/
namespace Sys2Proof.Machine

/-! ### Faults (R680, R685) -/

/-- The keys of a block's faults. -/
def faultKeys (blk : Nat) : List Nat :=
  [F.BLK_FAULT_FAULT_TRANSIENT.key blk, F.BLK_FAULT_FAULT_LASTING.key blk, F.BLK_FAULT_FAULT_CODE.key blk, F.BLK_FAULT_FAULT_INST.key blk,
    F.BLK_FAULT_CNT_TRANSIENT_CNT.key blk, F.BLK_FAULT_CNT_LASTING_CNT.key blk]

/-- The device with the code and unit of a fault taken, before its bit is set. -/
def Block.faultTaken (b : Block) (blk code inst : Nat) (lasting injected : Bool) : Block :=
  let injected := injected || decide ((blk, inst) ∈ b.flt.marks)
  let b := { b with flt := { b.flt with marks := b.flt.marks.erase (blk, inst) } }
  let t := b.on F.BLK_FAULT_FAULT_TRANSIENT blk
  let l := b.on F.BLK_FAULT_FAULT_LASTING blk
  if (!t && !l) || (lasting && !l) then
    (b.setFld F.BLK_FAULT_FAULT_CODE blk (code % 128 + 128 * bit injected)).setFld F.BLK_FAULT_FAULT_INST blk inst
  else b

theorem Block.fault_lasting (b : Block) (blk code inst : Nat) (injected : Bool) : b.fault blk code inst true injected =
    ((b.faultTaken blk code inst true injected).set F.BLK_FAULT_FAULT_LASTING blk).bump F.BLK_FAULT_CNT_LASTING_CNT blk 1 := rfl
theorem Block.fault_transient (b : Block) (blk code inst : Nat) (injected : Bool) : b.fault blk code inst false injected =
    ((b.faultTaken blk code inst false injected).set F.BLK_FAULT_FAULT_TRANSIENT blk).bump F.BLK_FAULT_CNT_TRANSIENT_CNT blk 1 := rfl

/-- A fault writes its block's fault registers, and nothing of the synthesizers or of device time. -/
theorem Block.fault_kept (b : Block) (blk code inst : Nat) (lasting injected : Bool) :
    b.keeps (b.fault blk code inst lasting injected) (faultKeys blk) ∧ (b.fault blk code inst lasting injected).pll = b.pll ∧
      (b.fault blk code inst lasting injected).time = b.time ∧ (b.fault blk code inst lasting injected).oscLost = b.oscLost := by
  have ht : b.keeps (b.faultTaken blk code inst lasting injected) (faultKeys blk) ∧ (b.faultTaken blk code inst lasting injected).pll = b.pll ∧
      (b.faultTaken blk code inst lasting injected).time = b.time ∧ (b.faultTaken blk code inst lasting injected).oscLost = b.oscLost := by
    unfold Block.faultTaken
    extract_lets marked flt dropped
    have hd : b.keeps dropped (faultKeys blk) := (b.keeps_refl _).of_regs rfl
    split
    · exact ⟨(hd.setFld (by simp [faultKeys]) _).setFld (by simp [faultKeys]) _, rfl, rfl, rfl⟩
    · exact ⟨hd, rfl, rfl, rfl⟩
  obtain ⟨hk, hp, hn, ho⟩ := ht
  cases lasting with
  | true =>
    rw [Block.fault_lasting]
    exact ⟨(hk.setFld (by simp [faultKeys]) _).setFld (by simp [faultKeys]) _, hp, hn, ho⟩
  | false =>
    rw [Block.fault_transient]
    exact ⟨(hk.setFld (by simp [faultKeys]) _).setFld (by simp [faultKeys]) _, hp, hn, ho⟩

theorem Block.fault_synth (b : Block) (blk code inst : Nat) (lasting injected : Bool) (m : Nat) :
    (b.fault blk code inst lasting injected).synth m = b.synth m := congrArg (·.look m) (b.fault_kept blk code inst lasting injected).2.1

/-- A lasting fault shows. -/
theorem Block.fault_shows (b : Block) (blk code inst : Nat) (injected : Bool) :
    (b.fault blk code inst true injected).fld F.BLK_FAULT_FAULT_LASTING blk = 1 := by
  rw [Block.fault_lasting, Block.fld_bump_ne _ (by simp)]
  exact Block.fld_set_same _ _ _

/-! ### REF_OK and the window's device (R89, R132) -/

/-- The keys of `REF_OK`. -/
def refOkKeys : List Nat := (List.range 8).map F.PLL_STATUS_REF_OK.key

theorem refOk_mem {m : Nat} (h : m < 8) : F.PLL_STATUS_REF_OK.key m ∈ refOkKeys := List.mem_map_of_mem (List.mem_range.mpr h)

theorem Block.refOk_writes (b : Block) (p : Bool) : b.writes (b.refOk p) refOkKeys :=
  Block.each_induction (P := fun c => b.writes c refOkKeys) (b.writes_refl _) fun _ _ hn hc => hc.setFld (refOk_mem (List.mem_range.mp hn)) _

theorem Block.writes.pll {b c : Block} {ks : List Nat} (h : b.writes c ks) : c.pll = b.pll := by rw [← h.2]
theorem Block.writes.oscLost {b c : Block} {ks : List Nat} (h : b.writes c ks) : c.oscLost = b.oscLost := by rw [← h.2]

/-- Other fields' keys are none of `REF_OK`. -/
theorem refOkKeys_ne {f : Field} {m : Nat} (h : ∀ n, f.key m ≠ 100680195 + 2048 * n) : f.key m ∉ refOkKeys := by
  simp only [refOkKeys, List.mem_map, List.mem_range, not_exists, not_and, F.PLL_STATUS_REF_OK_key]
  exact fun n _ he => h n he.symm

/-- The keys that every window of a synthesizer that is on may write. -/
def windowKeys (m : Nat) : List Nat := F.PLL_CTRL_VAL_CTRL.key m :: refOkKeys

/-- The device with the reference of every synthesizer present, and the control value of `m` what the loop makes it. -/
def Block.windowReady (b : Block) (m : Nat) : Block := (b.refOk true).setFree F.PLL_CTRL_VAL_CTRL m

section
variable (b : Block) (m : Nat)

theorem Block.windowReady_keeps : b.keeps (b.windowReady m) (windowKeys m) := by
  have hr : b.keeps (b.refOk true) (windowKeys m) := fun k hk => (b.refOk_writes true).1 k fun h => hk (List.mem_cons_of_mem _ h)
  exact Block.keeps.setFld (c := (b.refOk true).fresh.2) (hr.of_regs rfl) List.mem_cons_self _

theorem Block.windowReady_synth : (b.windowReady m).synth m = b.synth m := congrArg (·.look m) (b.refOk_writes true).pll
theorem Block.windowReady_time : (b.windowReady m).time = b.time := (b.refOk_writes true).time

variable {b m}

/-- What a window writes is none of the fields that it reads. -/
theorem Block.windowReady_fld {f : Field} (h : ∀ n, f.key m ≠ 100680195 + 2048 * n) (hv : f.key m ≠ 100680576 + 2048 * m) :
    (b.windowReady m).fld f m = b.fld f m :=
  (b.windowReady_keeps m).fld fun hm => (List.mem_cons.mp hm).elim (fun he => hv (he.trans (F.PLL_CTRL_VAL_CTRL_key m))) (refOkKeys_ne h)

theorem Block.windowReady_pllState : (b.windowReady m).pllState m = b.pllState m :=
  Block.windowReady_fld (by simp; omega) (by simp)

theorem Block.windowReady_within (count k : Nat) : (b.windowReady m).windowWithin m count k = b.windowWithin m count k := by
  have hw : (b.windowReady m).wordNow m = b.wordNow m := by
    rw [Block.wordNow, Block.ramping, Block.windowReady_pllState, Block.windowReady_synth, Block.pllWord,
      Block.windowReady_fld (by simp; omega) (by simp), Block.windowReady_fld (by simp; omega) (by simp), Block.wordNow, Block.ramping, Block.pllWord]
  rw [Block.windowWithin, Block.windowReady_fld (by simp; omega) (by simp), Block.windowReady_fld (by simp; omega) (by simp), hw, Block.windowWithin]

/-! ### PLL_LOCK_WINDOW (R89, R90) -/

theorem pllLockWindow_off (h : b.on F.PLL_CTRL_EN m = false ∨ b.oscLost = true) (count : Nat) : pllLockWindow m count b = b :=
  if_neg fun ⟨_, he, ho⟩ => h.elim (fun hn => Bool.false_ne_true (hn.symm.trans he)) fun hl => Bool.false_ne_true (ho.symm.trans hl)

/-- One more good window of `m`. -/
def Block.goodWindow (b : Block) (m : Nat) : Block := b.updSynth m fun y => { y with good := y.good + 1 }

theorem Block.goodWindow_paused (b : Block) (m : Nat) : ((b.goodWindow m).synth m).paused = (b.synth m).paused := by
  rw [Block.goodWindow, Block.updSynth_synth_same]

variable (hm : m < 8) (he : b.on F.PLL_CTRL_EN m = true) (ho : b.oscLost = false)
include hm he ho

/-- A window of a synthesizer that is on, neither off nor coasting, is judged. -/
theorem pllLockWindow_on (h0 : b.pllState m ≠ 0) (h3 : b.pllState m ≠ 3) (count : Nat) : pllLockWindow m count b =
    if b.pllState m = 2 ∨ b.pllState m = 4 then if b.windowWithin m count 4 then b.windowReady m else (b.windowReady m).coast m
    else if b.windowWithin m count 1 then
      if b.fld F.PLL_LOCK_CFG_LOCK_CNT m ≤ (b.synth m).good + 1 then ((b.windowReady m).goodWindow m).pllLock m else (b.windowReady m).goodWindow m
    else (b.windowReady m).updSynth m fun y => { y with good := 0 } := by
  have hs : (b.refOk true).pllState m = b.pllState m := (b.refOk_writes true).1.fld (refOkKeys_ne (by simp; omega))
  have hcnt : ((b.windowReady m).goodWindow m).fld F.PLL_LOCK_CFG_LOCK_CNT m = b.fld F.PLL_LOCK_CFG_LOCK_CNT m :=
    Block.windowReady_fld (by simp; omega) (by simp)
  have hgood : (((b.windowReady m).goodWindow m).synth m).good = (b.synth m).good + 1 := by
    rw [Block.goodWindow, Block.updSynth_synth_same, Block.windowReady_synth]
  unfold pllLockWindow
  rw [if_pos ⟨hm, he, ho⟩]
  extract_lets ready acquired free back st more
  have ha : acquired = ready := by
    exact if_neg (by simpa [ready, hs] using h0)
  have hf : free = b.windowReady m := by
    simp only [free, ha, ready, hs]
    exact if_pos (by simpa using h3)
  have hb : back = b.windowReady m := by
    simp only [back, hf, Block.windowReady_pllState]
    exact if_neg (by simpa using h3)
  have hg : more = (b.windowReady m).goodWindow m := by
    simp only [more, hb, Block.goodWindow]
  simp only [st, hg, hb, Block.windowReady_pllState, Block.windowReady_within]
  rw [hcnt, hgood]

section
variable {count : Nat} (h1 : b.pllState m = 1)
include h1

theorem pllLockWindow_acquiring : pllLockWindow m count b = if b.windowWithin m count 1 then
      if b.fld F.PLL_LOCK_CFG_LOCK_CNT m ≤ (b.synth m).good + 1 then ((b.windowReady m).goodWindow m).pllLock m else (b.windowReady m).goodWindow m
    else (b.windowReady m).updSynth m fun y => { y with good := 0 } := by
  rw [pllLockWindow_on hm he ho (by omega) (by omega), if_neg (by omega)]

theorem pllLockWindow_locks (hw : b.windowWithin m count 1 = true) (hc : b.fld F.PLL_LOCK_CFG_LOCK_CNT m ≤ (b.synth m).good + 1) :
    pllLockWindow m count b = ((b.windowReady m).goodWindow m).pllLock m := by
  rw [pllLockWindow_acquiring hm he ho h1, if_pos hw, if_pos hc]

theorem pllLockWindow_counts (hw : b.windowWithin m count 1 = true) (hc : (b.synth m).good + 1 < b.fld F.PLL_LOCK_CFG_LOCK_CNT m) :
    pllLockWindow m count b = (b.windowReady m).goodWindow m := by
  rw [pllLockWindow_acquiring hm he ho h1, if_pos hw, if_neg (Nat.not_le.mpr hc)]

theorem pllLockWindow_misses (hw : b.windowWithin m count 1 = false) :
    pllLockWindow m count b = (b.windowReady m).updSynth m fun y => { y with good := 0 } := by
  rw [pllLockWindow_acquiring hm he ho h1, if_neg (hw ▸ Bool.false_ne_true)]

end

section
variable {count : Nat} (h2 : b.pllState m = 2)
include h2

theorem pllLockWindow_stays (hw : b.windowWithin m count 4 = true) : pllLockWindow m count b = b.windowReady m := by
  rw [pllLockWindow_on hm he ho (by omega) (by omega), if_pos (.inl h2), if_pos hw]

theorem pllLockWindow_loses (hw : b.windowWithin m count 4 = false) : pllLockWindow m count b = (b.windowReady m).coast m := by
  rw [pllLockWindow_on hm he ho (by omega) (by omega), if_pos (.inl h2), if_neg (hw ▸ Bool.false_ne_true)]

end

end

/-! ### Loss of lock (R90, R685) -/

/-- The keys that a loss of lock writes. -/
def coastKeys (m : Nat) : List Nat := F.PLL_STATUS_STATE.key m :: F.PLL_HIST_LOCK_LOST.key m :: F.PLL_STATUS_LOSS_COUNT.key m :: faultKeys 0

/-- The device with `m` coasting, before what a loss of the system synthesizer means. -/
def Block.coasting (b : Block) (m : Nat) : Block :=
  let b := b.updSynth m fun y => { y with good := 0, lost := true, paused := y.paused || b.pllState m == 4 }
  ((b.setPllState m 3).set F.PLL_HIST_LOCK_LOST m).bump F.PLL_STATUS_LOSS_COUNT m 1

theorem Block.coast_eq (b : Block) (m : Nat) : b.coast m = (b.coasting m).ite (m == 7) fun b => b.fault 0x00 0x03 7 true false := rfl

theorem Block.coasting_keeps (b : Block) (m : Nat) : b.keeps (b.coasting m) (coastKeys m) := by
  unfold Block.coasting
  extract_lets lost
  have hl : b.keeps lost (coastKeys m) := b.keeps_refl _
  exact ((hl.setFld (by simp [coastKeys]) _).setFld (by simp [coastKeys]) _).setFld (by simp [coastKeys]) _

theorem Block.coast_keeps (b : Block) (m : Nat) : b.keeps (b.coast m) (coastKeys m) := by
  have hc := b.coasting_keeps m
  rw [Block.coast_eq]
  refine Block.ite_cases (P := fun c => b.keeps c (coastKeys m)) _ hc fun k hk => ?_
  rw [((b.coasting m).fault_kept _ _ _ _ _).1 k fun h => hk (by simp only [coastKeys, List.mem_cons]; tauto), hc k hk]

theorem Block.coast_pll (b : Block) (m : Nat) : (b.coast m).pll = (b.coasting m).pll := by
  rw [Block.coast_eq]
  exact Block.ite_cases (P := fun c => c.pll = (b.coasting m).pll) _ rfl ((b.coasting m).fault_kept _ _ _ _ _).2.1

theorem Block.coast_oscLost (b : Block) (m : Nat) : (b.coast m).oscLost = b.oscLost := by
  rw [Block.coast_eq]
  exact Block.ite_cases (P := fun c => c.oscLost = b.oscLost) _ rfl ((b.coasting m).fault_kept _ _ _ _ _).2.2.2

/-- Beside the faults of the system block, a synthesizer that coasts shows what `coasting` wrote. -/
theorem Block.coast_fld (b : Block) (m : Nat) {f : Field} {n : Nat} (h : f.key n ∉ faultKeys 0) : (b.coast m).fld f n = (b.coasting m).fld f n := by
  rw [Block.coast_eq]
  exact Block.ite_cases (P := fun c => c.fld f n = (b.coasting m).fld f n) _ rfl (((b.coasting m).fault_kept _ _ _ _ _).1.fld h)

theorem Block.coast_state (b : Block) (m : Nat) :
    (b.coast m).pllState m = 3 ∧ (b.coast m).fld F.PLL_HIST_LOCK_LOST m = 1 ∧ ((b.coast m).synth m).lost = true ∧
      (b.coast m).fld F.PLL_STATUS_LOSS_COUNT m = min (b.fld F.PLL_STATUS_LOSS_COUNT m + 1) 65535 ∧
      (m = 7 → (b.coast m).fld F.BLK_FAULT_FAULT_LASTING 0 = 1) := by
  have hcoast : (b.coasting m).pllState m = 3 ∧ (b.coasting m).fld F.PLL_HIST_LOCK_LOST m = 1 ∧ ((b.coasting m).synth m).lost = true ∧
      (b.coasting m).fld F.PLL_STATUS_LOSS_COUNT m = min (b.fld F.PLL_STATUS_LOSS_COUNT m + 1) 65535 := by
    unfold Block.coasting
    extract_lets lost
    have hl : (lost.synth m).lost = true := congrArg Synth.lost (b.updSynth_synth_same m _)
    refine ⟨?_, ?_, hl, ?_⟩
    · rw [Block.pllState, Block.fld_bump_ne _ (by simp), Block.fld_set_ne _ (by simp)]
      exact Block.setPllState_same _ m (by decide)
    · rw [Block.fld_bump_ne _ (by simp)]
      exact Block.fld_set_same _ _ _
    · rw [Block.bump, Block.fld_setFld_same, Block.fld_set_ne _ (by simp), Block.setPllState, Block.fld_setFld_ne _ _ (by simp)]
      simp only [F.PLL_STATUS_LOSS_COUNT_width, lost, Block.updSynth_fld]
      omega
  obtain ⟨hst, hll, hlo, hcnt⟩ := hcoast
  refine ⟨(b.coast_fld m (by simp [faultKeys]; omega)).trans hst, (b.coast_fld m (by simp [faultKeys]; omega)).trans hll, ?_,
    (b.coast_fld m (by simp [faultKeys]; omega)).trans hcnt, fun h7 => ?_⟩
  · rw [Block.synth, Block.coast_pll]
    exact hlo
  · rw [Block.coast_eq, beq_iff_eq.mpr h7, Block.ite_true]
    exact (b.coasting m).fault_shows 0x00 0x03 7 false

/-! ### Lock (R89, R95) -/

/-- The device with the loss of `m` that ends recorded. -/
def Block.lossEnded (b : Block) (m : Nat) : Block := b.ite (b.synth m).lost fun b => b.fault 0x03 0x02 m false false

/-- The device with `m`, whose ramp is not paused, locked, before its output is gated on. -/
def Block.locked (b : Block) (m : Nat) : Block :=
  ((((b.setPllState m 2).set F.PLL_HIST_LOCK_GAINED m).updSynth m fun y =>
    { y with good := 0, lost := false, timedOut := false, paused := false })).countFrom m

theorem Block.lossEnded_kept (b : Block) (m : Nat) :
    b.keeps (b.lossEnded m) (faultKeys 3) ∧ (b.lossEnded m).pll = b.pll ∧ (b.lossEnded m).time = b.time := by
  refine Block.ite_cases (P := fun c => b.keeps c (faultKeys 3) ∧ c.pll = b.pll ∧ c.time = b.time) _ ⟨b.keeps_refl _, rfl, rfl⟩ ?_
  obtain ⟨hk, hp, ht, -⟩ := b.fault_kept 0x03 0x02 m false false
  exact ⟨hk, hp, ht⟩

theorem Block.locked_state (b : Block) (m : Nat) :
    (b.locked m).pllState m = 2 ∧ (b.locked m).fld F.PLL_HIST_LOCK_GAINED m = 1 ∧
      (b.locked m).synth m = { b.synth m with good := 0, lost := false, timedOut := false, paused := false, lockAt := some (b.time.now : Int), corrected := 0 } ∧
      b.keeps (b.locked m) [F.PLL_STATUS_STATE.key m, F.PLL_HIST_LOCK_GAINED.key m] := by
  have hk : b.keeps ((b.setPllState m 2).set F.PLL_HIST_LOCK_GAINED m) [F.PLL_STATUS_STATE.key m, F.PLL_HIST_LOCK_GAINED.key m] :=
    ((b.keeps_refl _).setFld (by simp) _).setFld (by simp) _
  have hs : ((b.setPllState m 2).set F.PLL_HIST_LOCK_GAINED m).pllState m = 2 :=
    (Block.fld_set_ne _ (by simp)).trans (Block.setPllState_same b m (show 2 < 8 by decide))
  have hg : ((b.setPllState m 2).set F.PLL_HIST_LOCK_GAINED m).fld F.PLL_HIST_LOCK_GAINED m = 1 := Block.fld_set_same _ _ _
  refine ⟨hs, hg, ?_, hk.of_regs rfl⟩
  rw [Block.locked, Block.countFrom, Block.updSynth_synth_same, Block.updSynth_synth_same]
  rfl

theorem Block.pllLock_eq {b : Block} {m : Nat} (hp : (b.synth m).paused = false) :
    b.pllLock m = ((b.lossEnded m).locked m).ite (((b.lossEnded m).locked m).on F.PLL_CTRL_OUT_EN m) fun b => b.set F.PLL_STATUS_OUT_ON m := by
  unfold Block.pllLock
  dsimp only
  rw [hp]
  rfl

theorem Block.pllLock_state {b : Block} {m : Nat} (hp : (b.synth m).paused = false) :
    (b.pllLock m).pllState m = 2 ∧ (b.pllLock m).fld F.PLL_HIST_LOCK_GAINED m = 1 ∧ ((b.pllLock m).synth m).good = 0 ∧
      ((b.pllLock m).synth m).lost = false ∧ ((b.pllLock m).synth m).lockAt = some (b.time.now : Int) ∧
      (b.fld F.PLL_CTRL_OUT_EN m = 1 → (b.pllLock m).fld F.PLL_STATUS_OUT_ON m = 1) := by
  obtain ⟨hk, -, ht⟩ := b.lossEnded_kept m
  obtain ⟨hst, hgain, hsy, hkl⟩ := (b.lossEnded m).locked_state m
  have hen : ((b.lossEnded m).locked m).fld F.PLL_CTRL_OUT_EN m = b.fld F.PLL_CTRL_OUT_EN m :=
    (hkl.fld (by simp)).trans (hk.fld (by simp [faultKeys]; omega))
  have hf : ∀ f : Field, f.key m ≠ F.PLL_STATUS_OUT_ON.key m → (b.pllLock m).fld f m = ((b.lossEnded m).locked m).fld f m := fun f hf => by
    rw [Block.pllLock_eq hp]
    exact Block.ite_cases (P := fun c => c.fld f m = ((b.lossEnded m).locked m).fld f m) _ rfl (Block.fld_set_ne _ hf)
  have hs : (b.pllLock m).synth m = ((b.lossEnded m).locked m).synth m := by
    rw [Block.pllLock_eq hp]
    exact Block.ite_cases (P := fun c => c.synth m = ((b.lossEnded m).locked m).synth m) _ rfl rfl
  rw [hs, hsy, ht]
  refine ⟨(hf _ (by simp)).trans hst, (hf _ (by simp)).trans hgain, rfl, rfl, rfl, fun he => ?_⟩
  rw [Block.pllLock_eq hp, Block.on, hen, he, beq_self_eq_true, Block.ite_true]
  exact Block.fld_set_same _ _ _

end Sys2Proof.Machine
end

section
/-!
The loss and the return of `OSC_IN`, and O10 itself.
-/
namespace Sys2Proof.Machine

/-! ### One synthesizer among eight (R90, R91) -/

/-- The first key of the registers of synthesizer `m`; those of the next follow 2048 keys later. -/
def pllBase (m : Nat) : Nat := 100679680 + 2048 * m

/-- Field `f` is one of a synthesizer's own registers. -/
def pllOwn (f : Field) (m : Nat) : Prop := pllBase 0 ≤ f.key 0 ∧ f.key 0 < pllBase 1 ∧ f.key m = f.key 0 + 2048 * m

/-- `c` has synthesizer `m`, its registers and the presence of `OSC_IN` as `b` has them. -/
structure Block.sameSynth (m : Nat) (b c : Block) : Prop where
  regs : ∀ k, pllBase m ≤ k → k < pllBase (m + 1) → c.regs.look k = b.regs.look k
  synth : c.synth m = b.synth m
  oscLost : c.oscLost = b.oscLost

theorem Block.sameSynth_refl (m : Nat) (b : Block) : b.sameSynth m b := ⟨fun _ _ _ => rfl, rfl, rfl⟩

section
variable {b c : Block} {m : Nat} (h : b.sameSynth m c)
include h

theorem Block.sameSynth.setFld {g : Field} {n : Nat} (hg : g.key n < pllBase m ∨ pllBase (m + 1) ≤ g.key n) (v : Nat) : b.sameSynth m (c.setFld g n v) :=
  ⟨fun k hl hu => (c.look_setFld_ne v (by omega)).trans (h.regs k hl hu), h.synth, h.oscLost⟩

theorem Block.sameSynth.updSynth {n : Nat} (hn : n ≠ m) (f : Synth → Synth) : b.sameSynth m (c.updSynth n f) :=
  ⟨h.regs, (c.pll.look_upd_ne f hn.symm).trans h.synth, h.oscLost⟩

theorem Block.sameSynth.fld {f : Field} (hf : pllOwn f m) : c.fld f m = b.fld f m := by
  obtain ⟨hl, hu, he⟩ := hf
  unfold Block.fld
  simp only [pllBase] at hl hu
  rw [h.regs _ (by rw [pllBase]; omega) (by rw [pllBase]; omega)]

theorem Block.sameSynth.pllState : c.pllState m = b.pllState m := h.fld (by simp [pllOwn, pllBase])

theorem Block.sameSynth.trans {d : Block} (hd : c.sameSynth m d) : b.sameSynth m d :=
  ⟨fun k hl hu => (hd.regs k hl hu).trans (h.regs k hl hu), hd.synth.trans h.synth, hd.oscLost.trans h.oscLost⟩

theorem Block.sameSynth.coast {n : Nat} (hn : n ≠ m) : b.sameSynth m (c.coast n) := by
  refine ⟨fun k hl hu => ?_, ?_, (c.coast_oscLost n).trans h.oscLost⟩
  · rw [c.coast_keeps n k ?_, h.regs k hl hu]
    simp only [pllBase] at hl hu
    simp [coastKeys, faultKeys]
    omega
  · rw [Block.synth, Block.coast_pll]
    have hc : (c.coasting n).synth m = c.synth m := c.pll.look_upd_ne
      (fun y => { y with good := 0, lost := true, paused := y.paused || c.pllState n == 4 }) hn.symm
    exact hc.trans h.synth

end

/-- Effects on each synthesizer, of which only `m`'s concerns `m`: there is a device on the way that has `m` as before, and `m` ends as `m`'s effect
on that device leaves it. -/
theorem Block.each_passes {m : Nat} {l : List Nat} {f : Block → Nat → Block} (hm : m ∈ l) (hl : l.Nodup)
    (hf : ∀ c n, n ≠ m → Block.sameSynth m c (f c n)) (b : Block) : ∃ c, b.sameSynth m c ∧ (f c m).sameSynth m (b.each l f) := by
  obtain ⟨before, after, rfl⟩ := List.append_of_mem hm
  obtain ⟨-, hafter, hdis⟩ := List.nodup_append.mp hl
  have hpass : ∀ (c : Block) (ns : List Nat), (∀ n ∈ ns, n ≠ m) → c.sameSynth m (c.each ns f) := fun c ns hns =>
    Block.each_induction (P := c.sameSynth m) (c.sameSynth_refl m) fun d n hn hd => hd.trans (hf d n (hns n hn))
  refine ⟨b.each before f, hpass _ _ fun n hn => hdis n hn m List.mem_cons_self, ?_⟩
  have he : b.each (before ++ m :: after) f = (f (b.each before f) m).each after f := List.foldl_append
  rw [he]
  exact hpass _ _ fun n hn hnm => (List.nodup_cons.mp hafter).1 (hnm ▸ hn)

/-! ### `REF_OK` -/

theorem Block.refOk_fld (b : Block) (p : Bool) {m : Nat} (hm : m < 8) : (b.refOk p).fld F.PLL_STATUS_REF_OK m = bit p := by
  obtain ⟨c, -, h⟩ := Block.each_passes (m := m) (f := fun b n => b.setTo F.PLL_STATUS_REF_OK n p) (List.mem_range.mpr hm) List.nodup_range
    (fun c n hn => (c.sameSynth_refl m).setFld (by simp [pllBase]; omega) _) b
  refine (h.fld (by simp [pllOwn, pllBase])).trans ((c.fld_setTo_same _ _ _).trans ?_)
  cases p <;> rfl

/-! ### OSC_IN_LOST and OSC_IN_RETURN -/

/-- A synthesizer that is on loses its reference, and coasts unless it does already. -/
def Block.refLost (b : Block) (m : Nat) : Block :=
  if b.on F.PLL_CTRL_EN m then
    let b := b.set F.PLL_HIST_REF_LOST m
    let b := b.updSynth m fun y => { y with good := 0 }
    if b.pllState m = 0 ∨ b.pllState m = 3 then b else b.coast m
  else b

/-- A synthesizer that coasts acquires again. -/
def Block.refBack (b : Block) (m : Nat) : Block := if b.on F.PLL_CTRL_EN m ∧ b.pllState m = 3 then b.setPllState m 1 else b

theorem oscInLost_eq (b : Block) : oscInLost b = ({ b with oscLost := true }.refOk false).each (List.range 8) Block.refLost := rfl
theorem oscInReturn_eq (b : Block) : oscInReturn b = ({ b with oscLost := false }.refOk true).each (List.range 8) Block.refBack := rfl

/-- The device with the loss of the reference of `m` recorded. -/
def Block.refLostSet (b : Block) (m : Nat) : Block := (b.set F.PLL_HIST_REF_LOST m).updSynth m fun y => { y with good := 0 }

theorem Block.refLostSet_fld (b : Block) {m : Nat} {f : Field} (h : f.key m ≠ F.PLL_HIST_REF_LOST.key m) : (b.refLostSet m).fld f m = b.fld f m :=
  Block.fld_set_ne b h

theorem Block.refLostSet_shows (b : Block) (m : Nat) : (b.refLostSet m).fld F.PLL_HIST_REF_LOST m = 1 := by
  rw [Block.refLostSet, Block.updSynth_fld]
  exact Block.fld_set_same _ _ _

theorem Block.refLost_passes {m : Nat} (c : Block) {n : Nat} (hn : n ≠ m) : c.sameSynth m (c.refLost n) := by
  unfold Block.refLost
  have hs : c.sameSynth m (c.refLostSet n) := ((c.sameSynth_refl m).setFld (by simp [pllBase]; omega) _).updSynth hn _
  split
  · extract_lets lost good
    split
    · exact hs
    · exact hs.coast hn
  · exact c.sameSynth_refl m

theorem Block.refBack_passes {m : Nat} (c : Block) {n : Nat} (hn : n ≠ m) : c.sameSynth m (c.refBack n) := by
  unfold Block.refBack
  split
  · exact (c.sameSynth_refl m).setFld (by simp [pllBase]; omega) _
  · exact c.sameSynth_refl m

theorem Block.refLost_on {b : Block} {m : Nat} (he : b.on F.PLL_CTRL_EN m = true) (h0 : b.pllState m ≠ 0) (h3 : b.pllState m ≠ 3) :
    b.refLost m = (b.refLostSet m).coast m := by
  have hs : (b.refLostSet m).pllState m = b.pllState m := b.refLostSet_fld (by simp)
  exact (if_pos he).trans (if_neg fun h => h.elim (fun h => h0 (hs.symm.trans h)) fun h => h3 (hs.symm.trans h))

/-- A synthesizer that is on and has lock or seeks it coasts, its output and its control value as they were. -/
theorem oscInLost_state {b : Block} {m : Nat} (hm : m < 8) (he : b.on F.PLL_CTRL_EN m = true) (h0 : b.pllState m ≠ 0) (h3 : b.pllState m ≠ 3) :
    (oscInLost b).oscLost = true ∧ (oscInLost b).pllState m = 3 ∧ (oscInLost b).fld F.PLL_HIST_REF_LOST m = 1 ∧
      (oscInLost b).fld F.PLL_HIST_LOCK_LOST m = 1 ∧ (oscInLost b).fld F.PLL_STATUS_REF_OK m = 0 ∧
      (oscInLost b).fld F.PLL_STATUS_OUT_ON m = b.fld F.PLL_STATUS_OUT_ON m ∧ (oscInLost b).fld F.PLL_CTRL_VAL_CTRL m = b.fld F.PLL_CTRL_VAL_CTRL m := by
  have hw := { b with oscLost := true }.refOk_writes false
  have hok := { b with oscLost := true }.refOk_fld false hm
  obtain ⟨c, hc, ht⟩ := Block.each_passes (List.mem_range.mpr hm) List.nodup_range (fun d n hn => d.refLost_passes hn) ({ b with oscLost := true }.refOk false)
  rw [← oscInLost_eq] at ht
  have hb : ∀ f : Field, pllOwn f m → (∀ n, f.key m ≠ 100680195 + 2048 * n) → c.fld f m = b.fld f m :=
    fun f hf hn => (hc.fld hf).trans (hw.1.fld (refOkKeys_ne hn))
  have hst : c.pllState m = b.pllState m := hb _ (by simp [pllOwn, pllBase]) (by simp; omega)
  have hen : c.on F.PLL_CTRL_EN m = true := (congrArg (· == 1) (hb _ (by simp [pllOwn, pllBase]) (by simp; omega))).trans he
  rw [Block.refLost_on hen (hst ▸ h0) (hst ▸ h3)] at ht
  obtain ⟨hs3, hll, -, -, -⟩ := (c.refLostSet m).coast_state m
  have hend : ∀ f : Field, pllOwn f m → f.key m ∉ coastKeys m → (oscInLost b).fld f m = (c.refLostSet m).fld f m :=
    fun f hf hn => (ht.fld hf).trans (((c.refLostSet m).coast_keeps m).fld hn)
  refine ⟨?_, ht.pllState.trans hs3, ?_, (ht.fld (by simp [pllOwn, pllBase])).trans hll, ?_, ?_, ?_⟩
  · rw [ht.oscLost, Block.coast_oscLost]
    exact hc.oscLost.trans hw.oscLost
  · rw [hend _ (by simp [pllOwn, pllBase]) (by simp [coastKeys, faultKeys]; omega), c.refLostSet_shows m]
  · rw [hend _ (by simp [pllOwn, pllBase]) (by simp [coastKeys, faultKeys]; omega), c.refLostSet_fld (by simp), hc.fld (by simp [pllOwn, pllBase]), hok]
    rfl
  · rw [hend _ (by simp [pllOwn, pllBase]) (by simp [coastKeys, faultKeys]; omega), c.refLostSet_fld (by simp),
      hb _ (by simp [pllOwn, pllBase]) (by simp; omega)]
  · rw [hend _ (by simp [pllOwn, pllBase]) (by simp [coastKeys, faultKeys]; omega), c.refLostSet_fld (by simp),
      hb _ (by simp [pllOwn, pllBase]) (by simp; omega)]

/-- A coasting synthesizer acquires again, its output and its control value as they were. -/
theorem oscInReturn_state {b : Block} {m : Nat} (hm : m < 8) (he : b.on F.PLL_CTRL_EN m = true) (h3 : b.pllState m = 3) :
    (oscInReturn b).oscLost = false ∧ (oscInReturn b).pllState m = 1 ∧ (oscInReturn b).fld F.PLL_STATUS_REF_OK m = 1 ∧
      (oscInReturn b).fld F.PLL_STATUS_OUT_ON m = b.fld F.PLL_STATUS_OUT_ON m ∧
      (oscInReturn b).fld F.PLL_CTRL_VAL_CTRL m = b.fld F.PLL_CTRL_VAL_CTRL m := by
  have hw := { b with oscLost := false }.refOk_writes true
  have hok := { b with oscLost := false }.refOk_fld true hm
  obtain ⟨c, hc, ht⟩ := Block.each_passes (List.mem_range.mpr hm) List.nodup_range (fun d n hn => d.refBack_passes hn) ({ b with oscLost := false }.refOk true)
  rw [← oscInReturn_eq] at ht
  have hb : ∀ f : Field, pllOwn f m → (∀ n, f.key m ≠ 100680195 + 2048 * n) → c.fld f m = b.fld f m :=
    fun f hf hn => (hc.fld hf).trans (hw.1.fld (refOkKeys_ne hn))
  have hst : c.pllState m = 3 := (hb _ (by simp [pllOwn, pllBase]) (by simp; omega)).trans h3
  have hen : c.on F.PLL_CTRL_EN m = true := (congrArg (· == 1) (hb _ (by simp [pllOwn, pllBase]) (by simp; omega))).trans he
  rw [show c.refBack m = c.setPllState m 1 from if_pos ⟨hen, hst⟩] at ht
  have hend : ∀ f : Field, pllOwn f m → f.key m ≠ F.PLL_STATUS_STATE.key m → (oscInReturn b).fld f m = c.fld f m :=
    fun f hf hn => (ht.fld hf).trans (c.fld_setFld_ne _ hn)
  refine ⟨ht.oscLost.trans (hc.oscLost.trans hw.oscLost), ht.pllState.trans (Block.setPllState_same c m (show 1 < 8 by decide)), ?_, ?_, ?_⟩
  · rw [hend _ (by simp [pllOwn, pllBase]) (by simp), hc.fld (by simp [pllOwn, pllBase]), hok]
    rfl
  · rw [hend _ (by simp [pllOwn, pllBase]) (by simp), hb _ (by simp [pllOwn, pllBase]) (by simp; omega)]
  · rw [hend _ (by simp [pllOwn, pllBase]) (by simp), hb _ (by simp [pllOwn, pllBase]) (by simp; omega)]

/-! ### PLL_COAST_TIMEOUT and PLL_COUNT_CORRECT (R88, R685) -/

theorem pllCoastTimeout_lost {b : Block} {m : Nat} (h : (b.synth m).lost = true) :
    pllCoastTimeout m b = (b.updSynth m fun y => { y with timedOut := true }).fault 0x03 0x02 m true false := if_pos h

theorem pllCoastTimeout_idle {b : Block} {m : Nat} (h : (b.synth m).lost = false) : pllCoastTimeout m b = b := if_neg (h ▸ Bool.false_ne_true)

theorem pllCountCorrect_locked {b : Block} {m : Nat} {t : Int} (he : b.on F.PLL_CTRL_EN m = true) (ht : b.on F.PLL_CTRL_TRACK m = true)
    (hs : b.pllState m = 2) (ha : (b.synth m).lockAt = some t) (count : Nat) : pllCountCorrect m count b = b.updSynth m fun y =>
      { y with corrected := (b.cyclesAsked m (Int.ofNat b.time.now - t) - Int.ofNat count) * Int.ofNat (b.pllDivs m * 2 ^ 32) / 50000 } := by
  unfold pllCountCorrect
  rw [ha]
  exact if_pos ⟨he, ht, hs⟩

theorem pllCountCorrect_idle {b : Block} {m : Nat} (h : b.pllState m ≠ 2 ∨ (b.synth m).lockAt = none) (count : Nat) : pllCountCorrect m count b = b := by
  unfold pllCountCorrect
  split
  case h_1 t ha => exact if_neg fun ⟨_, _, hs⟩ => h.elim (fun hn => hn hs) fun hn => nomatch hn.symm.trans ha
  case h_2 => rfl

/-- A locked synthesizer has no ramp to move. -/
theorem Block.rampStepped_locked {b : Block} {m : Nat} (h : b.pllState m = 2) : b.rampStepped m = b := by
  rw [Block.rampStepped, h]
  rfl

/-- Settles O10: a window is judged on `windowReady`; lock is `pllLock`, its loss `coast`; the loss and the return of the reference pass over the
synthesizers one by one. -/
theorem synthesizersLockAndCoast : Obligations.SynthesizersLockAndCoast := by
  intro s m hs hm
  have hkeys : F.PLL_CTRL_VAL_CTRL.key m :: (List.range 8).map F.PLL_STATUS_REF_OK.key = windowKeys m := rfl
  refine ⟨fun count he ho h1 hw hc hp => ?_, fun count he ho h1 hw hc => ?_, fun count he ho h1 hw => ?_, fun count he ho h2 hw => ?_,
    fun count he ho h2 hw => ?_, fun count h => ?_, fun he h0 h3 => ?_, fun he h3 => ?_, fun hl => ?_, fun hl => ?_, fun he ht h2 hp => ?_,
    fun count t0 he ht h2 ha => ?_, fun count h => ?_⟩
  · obtain ⟨hst, hgain, hgood, hlost, hat, hout⟩ := Block.pllLock_state (b := (s.quiet.windowReady m).goodWindow m) (m := m)
      (((s.quiet.windowReady m).goodWindow_paused m).trans ((congrArg Synth.paused (s.quiet.windowReady_synth m)).trans hp))
    rw [← pllLockWindow_locks (b := s.quiet) hm he ho h1 hw hc] at hst hgain hgood hlost hat hout
    refine ⟨_, run_live _ hs, hst, hgain, hgood, hlost, hat.trans ?_, fun h => hout ?_⟩
    · rw [Block.goodWindow, Block.updSynth_time, Block.windowReady_time, Block.quiet_time]
    · exact (Block.windowReady_fld (by simp; omega) (by simp)).trans h
  · have hx := pllLockWindow_counts (b := s.quiet) hm he ho h1 hw hc
    refine ⟨_, run_live _ hs, ?_, ?_, regsKept_effect ?_⟩
    · rw [Block.effect_pllState, hx, Block.goodWindow, Block.updSynth_pllState, Block.windowReady_pllState]
      exact h1
    · rw [Block.effect_synth, hx, Block.goodWindow, Block.updSynth_synth_same, Block.windowReady_synth, Block.quiet_synth]
    · rw [hx, hkeys]
      exact Block.updSynth_keeps (s.quiet.windowReady_keeps m) m _
  · have hx := pllLockWindow_misses (b := s.quiet) hm he ho h1 hw
    refine ⟨_, run_live _ hs, ?_, ?_⟩
    · rw [Block.effect_pllState, hx, Block.updSynth_pllState, Block.windowReady_pllState]
      exact h1
    · rw [Block.effect_synth, hx, Block.updSynth_synth_same]
  · obtain ⟨hst, hll, hlost, hcnt, h7⟩ := (s.quiet.windowReady m).coast_state m
    have hout := ((s.quiet.windowReady m).coast_keeps m).fld (f := F.PLL_STATUS_OUT_ON) (n := m) (by simp [coastKeys, faultKeys]; omega)
    rw [← pllLockWindow_loses (b := s.quiet) hm he ho h2 hw] at hst hll hlost hcnt h7 hout
    refine ⟨_, run_live _ hs, hst, hll, hlost, hcnt.trans ?_, hout.trans ?_, h7⟩
    · rw [Block.windowReady_fld (by simp; omega) (by simp), Block.quiet_fld]
    · exact Block.windowReady_fld (by simp; omega) (by simp)
  · have hx := pllLockWindow_stays (b := s.quiet) hm he ho h2 hw
    refine ⟨_, run_live _ hs, ?_, ?_, regsKept_effect ?_⟩
    · rw [Block.effect_pllState, hx, Block.windowReady_pllState]
      exact h2
    · rw [Block.effect_synth, hx, Block.windowReady_synth, Block.quiet_synth]
    · rw [hx]
      exact s.quiet.windowReady_keeps m
  · exact ⟨_, run_live _ hs, onlyRegs_effect_self (pllLockWindow_off (b := s.quiet) h count)⟩
  · refine ⟨_, run_live _ hs, ?_⟩
    simp only [Block.effect_oscLost, Block.effect_pllState, Block.effect_fld]
    exact oscInLost_state (b := s.quiet) hm he h0 h3
  · refine ⟨_, run_live _ hs, ?_⟩
    simp only [Block.effect_oscLost, Block.effect_pllState, Block.effect_fld]
    exact oscInReturn_state (b := s.quiet) hm he h3
  · have hx := pllCoastTimeout_lost (b := s.quiet) hl
    refine ⟨_, run_live _ hs, ?_, ?_⟩
    · rw [Block.effect_fld, hx, Block.fault_shows]
    · rw [Block.effect_synth, hx, Block.fault_synth, Block.updSynth_synth_same]
  · exact ⟨_, run_live _ hs, onlyRegs_effect_self (pllCoastTimeout_idle (b := s.quiet) hl)⟩
  · refine ⟨_, run_live _ hs, regsKept_effect (pllTrackUpdate_keeps m s.quiet), ?_⟩
    have hx : pllTrackUpdate m s.quiet = s.quiet.wordTracked m := by
      rw [pllTrackUpdate_eq, Block.rampStepped_locked (b := s.quiet) h2]
      exact if_pos ⟨he, ht⟩
    have hword : s.quiet.wordNow m = s.pllWord m := by
      rw [Block.wordNow, Block.ramping_of_locked (b := s.quiet) h2, Block.quiet_synth, hp]
      rfl
    rw [Block.effect_synth, hx, Block.wordTracked, Block.updSynth_synth_same, hword]
    rfl
  · have hx := pllCountCorrect_locked (b := s.quiet) he ht h2 ha count
    refine ⟨_, run_live _ hs, regsKept_effect ?_, ?_⟩
    · rw [hx]
      exact Block.updSynth_keeps (s.quiet.keeps_refl _) m _
    · rw [Block.effect_synth, hx, Block.updSynth_synth_same]
      rfl
  · exact ⟨_, run_live _ hs, onlyRegs_effect_self (pllCountCorrect_idle (b := s.quiet) h count)⟩

end Sys2Proof.Machine
end

section
/-!
What the safe state changes of a device that starts: no register below the references' block, nothing of its time, its identity, its start or its
flash (for O47).
-/
namespace Sys2Proof.Machine

/-- What the safe state leaves: device time, the identity, the release, the start's own state and the flash. -/
def Block.core (b : Block) : TimeSt × Dev × Bool × StartSt × FlashSt := (b.time, b.dev, b.released, b.start, b.flash)

/-- The address of the first register of the `REFS` block: those of `SYS` and `TIME` are below. -/
def refsAddr : Nat := 0x0200000

/-- `c` is `b` with its core and the registers of `SYS` and `TIME` as they were. -/
structure Block.sparesCore (b c : Block) : Prop where
  low : ∀ k, k < refsAddr * 32 → c.regs.look k = b.regs.look k
  core : c.core = b.core

theorem Block.sparesCore_refl (b : Block) : b.sparesCore b := ⟨fun _ _ => rfl, rfl⟩

section
variable {b c : Block} (h : b.sparesCore c)
include h

theorem Block.sparesCore.of_regs {d : Block} (hr : d.regs = c.regs) (hc : d.core = c.core) : b.sparesCore d :=
  ⟨fun k hk => (congrArg (·.look k) hr).trans (h.low k hk), hc.trans h.core⟩

/-- A write to a register of `REFS` or of a block above. -/
theorem Block.sparesCore.setFld {g : Field} {n : Nat} (v : Nat) (hg : refsAddr ≤ g.reg.off := by decide) : b.sparesCore (c.setFld g n v) := by
  refine ⟨fun k hk => (c.look_setFld_ne v ?_).trans (h.low k hk), h.core⟩
  rw [Field.key, Reg.addr]
  omega

theorem Block.sparesCore.setFree {g : Field} {n : Nat} (hg : refsAddr ≤ g.reg.off := by decide) : b.sparesCore (c.setFree g n) := by
  refine Block.sparesCore.setFld ?_ _ hg
  exact h.of_regs rfl rfl

theorem Block.sparesCore.each {α : Type} (l : List α) {f : Block → α → Block} (hf : ∀ d x, b.sparesCore d → b.sparesCore (f d x)) :
    b.sparesCore (c.each l f) := Block.each_induction (P := b.sparesCore) h fun d x _ hd => hf d x hd

theorem Block.sparesCore.ite (p : Bool) {f : Block → Block} (hf : b.sparesCore (f c)) : b.sparesCore (c.ite p f) :=
  Block.ite_cases (P := b.sparesCore) p h hf

/-! ### A lane's equaliser, eye, pattern and power (R152, R157, R165, R172) -/

theorem Block.sparesCore.adaptNow (l : Nat) : b.sparesCore (c.adaptNow l) := by
  unfold Block.adaptNow
  split
  · exact h
  · extract_lets ctle vga
    have hc : b.sparesCore ctle := h.ite _ h.setFree
    have hv : b.sparesCore vga := hc.ite _ hc.setFree
    exact hv.ite _ hv.setFree.setFree

theorem Block.sparesCore.setLane (l st : Nat) : b.sparesCore (c.setLane l st) := by
  unfold Block.setLane Block.eqLive
  extract_lets st' live shown
  have hl : b.sparesCore live := h.ite _ (h.ite _ (h.adaptNow l))
  have hs : b.sparesCore shown := hl.setFld _
  exact hs.ite _ (hs.setFld _)

theorem Block.sparesCore.setRateNow (l r : Nat) : b.sparesCore (c.setRateNow l r) := (h.setFld _).setFld _

theorem Block.sparesCore.eyeAbort (l : Nat) : b.sparesCore (c.eyeAbort l) := by
  unfold Block.eyeAbort
  split
  · have he : b.sparesCore (c.updLane l fun s => { s with eye := false }) := h.of_regs rfl rfl
    exact (he.setFld _).setFld _
  · exact h

theorem Block.sparesCore.chkLive (l : Nat) : b.sparesCore (c.chkLive l) := by
  unfold Block.chkLive Block.chkCount
  split
  · split
    · exact h.of_regs rfl rfl
    · exact h.of_regs rfl rfl
  · exact h

theorem Block.sparesCore.lanePower (l p : Nat) : b.sparesCore (c.lanePower l p) := by
  unfold Block.lanePower
  extract_lets p' powered moved rated unlocked unsynced
  have hp : b.sparesCore powered := (h.ite _ (h.eyeAbort l)).setFld _
  have hm : b.sparesCore moved := hp.setLane _ _
  have hr : b.sparesCore rated := hm.ite _ (hm.setRateNow _ _)
  have hu : b.sparesCore unlocked := hr.ite _ (hr.setFld _)
  have hs : b.sparesCore unsynced := hu.ite _ ((hu.chkLive l).setFld _)
  exact (hs.ite _ (hs.setFld _)).of_regs rfl rfl

theorem Block.sparesCore.laneRate (l r : Nat) : b.sparesCore (c.laneRate l r) := by
  unfold Block.laneRate
  extract_lets rated st unlocked
  have hr : b.sparesCore rated := ((h.eyeAbort l).setFld _).setRateNow _ _
  have hu : b.sparesCore unlocked := hr.ite _ (hr.setFld _)
  exact hu.ite _ (hu.setLane _ _)

theorem Block.sparesCore.patStop (l : Nat) (gen chk : Bool) : b.sparesCore (c.patStop l gen chk) := by
  unfold Block.patStop
  extract_lets stopped
  have hg : b.sparesCore ((c.clr F.PAT_CFG_GEN_EN l).emit (.generator l none)) := by
    have hc : b.sparesCore (c.clr F.PAT_CFG_GEN_EN l) := h.setFld _
    exact hc.of_regs rfl rfl
  have hs : b.sparesCore stopped := h.ite _ hg
  exact hs.ite _ (((hs.chkLive l).setFld _).setFld _)

/-! ### A receiver whose lane is lost (R190, R199) -/

theorem Block.sparesCore.candInput (kind idx : Nat) : b.sparesCore (c.candInput kind idx) := by
  refine h.each _ fun d n hd => hd.ite _ ?_
  unfold Block.candInvalid
  split
  · extract_lets invalid
    have hi : b.sparesCore invalid := ((hd.setFld _).setFld _).setFld _
    exact hi.ite _ (hi.of_regs rfl rfl)
  · exact hd

theorem Block.sparesCore.stallShow (j : Nat) : b.sparesCore (c.stallShow j) := by
  unfold Block.stallShow
  extract_lets s act black shown shows
  have hs : b.sparesCore shows := h.of_regs rfl rfl
  clear_value shows shown
  cases shown with
  | none => exact ((hs.setFld _).setFld _).setFld _
  | some w => exact ((hs.setFld _).setFld _).setFld _

theorem Block.sparesCore.stallLoss (j : Nat) : b.sparesCore (c.stallLoss j) := by
  unfold Block.stallLoss
  split
  · have hl : b.sparesCore ((c.setFld F.STALL_STATUS_STATE j 3).set F.STALL_HIST_LOS_ENTERED j) := (h.setFld _).setFld _
    refine Block.sparesCore.stallShow ?_ j
    exact hl.of_regs rfl rfl
  · exact h

theorem Block.sparesCore.rxLanesOn (n : Nat) : b.sparesCore (c.rxLanesOn n) := by
  unfold Block.rxLanesOn
  extract_lets f r
  exact h.each _ fun d l hd => (hd.laneRate _ _).lanePower _ _

theorem Block.sparesCore.rxCut (n : Nat) : b.sparesCore (c.rxCut n) := by
  unfold Block.rxCut
  split
  · exact h.of_regs rfl rfl
  · exact h

theorem Block.sparesCore.rxFresh (n st : Nat) : b.sparesCore (c.rxFresh n st) := by
  unfold Block.rxFresh
  refine Block.sparesCore.candInput (Block.sparesCore.stallLoss (Block.sparesCore.setFld ?_ _) _) _ _
  exact h.of_regs rfl rfl

theorem Block.sparesCore.rxHunt (n : Nat) : b.sparesCore (c.rxHunt n) := (h.rxCut n).rxFresh n 1

theorem Block.sparesCore.rxOff (n : Nat) : b.sparesCore (c.rxOff n) := by
  unfold Block.rxOff
  extract_lets off
  have ho : b.sparesCore off := (h.each _ fun d l hd => hd.lanePower _ _).rxFresh _ _
  split
  · exact (ho.rxLanesOn n).rxFresh _ _
  · exact ho

theorem Block.sparesCore.rxLaneLost (l : Nat) : b.sparesCore (c.rxLaneLost l) := by
  unfold Block.rxLaneLost
  extract_lets n cut
  split
  · have hc : b.sparesCore cut := Block.sparesCore.rxCut (c := c.set F.SDI_RX_HIST_LOCK_LOST n) (h.setFld _) n
    split
    · exact hc.rxOff n
    · exact hc.rxHunt n
  · exact h.rxHunt n
  · exact h.rxHunt n
  · exact h

/-! ### A fabric port and its lanes (R156, R157, R301) -/

theorem Block.sparesCore.retrain (l : Nat) (fault : Bool) : b.sparesCore (c.retrain l fault) := by
  unfold Block.retrain
  extract_lets training
  have ht : b.sparesCore training := by
    have hs := (h.eyeAbort l).setLane l 7
    exact hs.of_regs rfl rfl
  exact ht.ite _ ((((ht.setFld _).setFld _).setFld _).setFld _)

theorem Block.sparesCore.setSsc (q d : Nat) : b.sparesCore (c.setSsc q d) := h.each _ fun _ _ he => he.setFld _

theorem Block.sparesCore.lane0Only (q st : Nat) : b.sparesCore (c.lane0Only q st) := by
  unfold Block.lane0Only
  extract_lets alone l powered rated
  have ha : b.sparesCore alone := (h.setSsc q 0).each _ fun _ _ hd => hd.lanePower _ _
  have hp : b.sparesCore powered := ha.ite _ (ha.lanePower _ _)
  have hr : b.sparesCore rated := hp.ite _ (hp.laneRate _ _)
  exact (hr.setLane l st).of_regs rfl rfl

theorem Block.sparesCore.portAcquire (q : Nat) : b.sparesCore (c.portAcquire q) := by
  unfold Block.portAcquire
  extract_lets acquired
  have hl : b.sparesCore ((c.lane0Only q 3).clr F.LANE_STATUS_CDR_LOCK (256 + 4 * q)) := (h.lane0Only q 3).setFld _
  exact hl.of_regs rfl rfl

theorem Block.sparesCore.portAgain (q : Nat) : b.sparesCore (c.portAgain q) := by
  unfold Block.portAgain
  split
  · exact h
  · split
    · exact h.portAcquire q
    · exact h.of_regs rfl rfl

theorem Block.sparesCore.portDisable (q : Nat) : b.sparesCore (c.portDisable q) := by
  have hl : b.sparesCore ((c.setSsc q 0).each (portLanes q) fun b l => b.lanePower l 3) := (h.setSsc q 0).each _ fun _ _ hd => hd.lanePower _ _
  exact hl.of_regs rfl rfl

theorem Block.sparesCore.laneBack (l : Nat) (served : Bool) : b.sparesCore (c.laneBack l served) := by
  unfold Block.laneBack
  split
  · exact h.setLane _ _
  · exact (h.setRateNow _ _).setLane _ _
  · exact h
  · split
    · exact h.retrain _ _
    · exact h.portAcquire _
  · extract_lets rated
    have hr : b.sparesCore rated := h.ite _ (h.laneRate _ _)
    split
    · exact (hr.setLane _ _).setFld _
    · exact hr.retrain _ _

theorem Block.sparesCore.laneTestState (l : Nat) : b.sparesCore (c.laneTestState l) := by
  unfold Block.laneTestState
  split
  · exact h
  · split
    · exact (h.setLane l 9).of_regs rfl rfl
    · split
      · exact h.laneBack _ _
      · exact h

theorem Block.sparesCore.lanePowerTo (l p : Nat) : b.sparesCore (c.lanePowerTo l p) := by
  unfold Block.lanePowerTo
  extract_lets was stopped st idle powered paired
  have hi : b.sparesCore idle := ((h.eyeAbort l).patStop l true true).of_regs rfl rfl
  split
  · split
    · split
      · exact hi.portAgain _
      · exact (hi.setLane _ _).setFld _
    · exact hi.laneTestState l
  · have hp : b.sparesCore powered := hi.lanePower l p
    have hq : b.sparesCore paired := hp.ite _ (hp.each _ fun _ _ hd => hd.lanePower _ _)
    split
    · exact hq.ite _ (hq.rxLaneLost l)
    · exact hq.portAgain _
    · exact hq

/-! ### What the safe state means for a peer (R302, R304, R316) -/

theorem Block.sparesCore.putPacket (q : Nat) (o : Out) (m : List Byte) : b.sparesCore (c.putPacket q o m) := by
  unfold Block.putPacket
  split
  · exact h.of_regs rfl rfl
  · exact h

theorem Block.sparesCore.putMsg (q : Nat) (m : List Byte) : b.sparesCore (c.putMsg q m) := by
  unfold Block.putMsg
  dsimp only
  split
  · exact h.putPacket _ _ _
  · refine Block.sparesCore.putPacket ?_ _ _ _
    exact h.of_regs rfl rfl

theorem Block.sparesCore.markLost : b.sparesCore c.markLost := by
  refine h.each _ fun d kc hd => ?_
  dsimp only
  split
  · exact hd.of_regs rfl rfl
  · exact hd

theorem Block.sparesCore.upLeft (q : Nat) : b.sparesCore (c.upLeft q) := by
  refine h.ite _ ?_
  have hl : b.sparesCore (((c.setFld F.TWIN_STATUS_STATE 0 4).set F.TWIN_HIST_STEP_LOST 0).setFld F.TWIN_STATUS_RUN 0 0) :=
    ((h.setFld _).setFld _).setFld _
  exact hl.of_regs rfl rfl

theorem Block.sparesCore.randomBytes (n : Nat) : b.sparesCore (c.randomBytes n).2 := by
  induction n with
  | zero => exact h
  | succ n ih => exact ih.of_regs rfl rfl

theorem Block.sparesCore.peerStart (q : Nat) : b.sparesCore (c.peerStart q) := by
  have he : b.sparesCore (c.enterHello q) := by
    have hr := (h.upLeft q).randomBytes 32
    unfold Block.enterHello
    generalize (c.upLeft q).randomBytes 32 = drawn at hr ⊢
    refine Block.sparesCore.setFld ?_ _
    exact hr.of_regs rfl rfl
  unfold Block.peerStart Block.sendHello
  extract_lets at_ m
  refine Block.sparesCore.putMsg ?_ q m
  clear_value m
  generalize c.enterHello q = entered at he ⊢
  exact he.of_regs rfl rfl

theorem Block.sparesCore.peerDown (q : Nat) : b.sparesCore (c.peerDown q) := by
  unfold Block.peerDown
  split
  · exact h
  · extract_lets left
    have hl : b.sparesCore left := (h.upLeft q).ite _ ((h.upLeft q).setFld _)
    have hs : b.sparesCore ((left.setFld F.FAB_PORT_STATUS_PEER_STATE q 0).clr F.FAB_PORT_STATUS_PEER_VALID q) := (hl.setFld _).setFld _
    refine Block.sparesCore.markLost ?_
    exact hs.of_regs rfl rfl

theorem Block.sparesCore.fabSettle (q : Nat) : b.sparesCore (c.fabSettle q) := by
  unfold Block.fabSettle
  split
  · exact h.peerDown q
  · split
    · exact h.peerStart q
    · exact h

theorem Block.sparesCore.hbSettle : b.sparesCore c.hbSettle := by
  unfold Block.hbSettle
  extract_lets causes want was
  have hs : b.sparesCore ((c.setFld F.TWIN_HB_CAUSE_CAUSE 0 causes).setTo F.TWIN_STATUS_HB_ON 0 want) := (h.setFld _).setFld _
  exact hs.ite _ (hs.setFld _)

end

/-- The safe state writes `BIST_STATUS`, and beyond that spares the core and the registers of `SYS` and `TIME`. -/
theorem Block.safeEntry_spares (b : Block) : (b.set F.BIST_STATUS_SAFE 0).sparesCore b.safeEntry := by
  unfold Block.safeEntry onPorts
  extract_lets safe
  have hp : safe.sparesCore (safe.each (List.range 17) fun b q => b.portDisable q) := safe.sparesCore_refl.each _ fun _ q hd => hd.portDisable q
  refine Block.sparesCore.hbSettle (Block.sparesCore.each ?_ _ fun _ q hd => hd.fabSettle q)
  exact hp.each _ fun _ l hd => hd.lanePowerTo l 3

end Sys2Proof.Machine
end

section
/-!
Resets and the start after them: O47.
-/
namespace Sys2Proof.Machine

/-! ### What a reset leaves (R103, R594, R702) -/

/-- A write cut by a reset leaves the log. -/
theorem FlashSt.cut_log (f : FlashSt) (saving : Option (Bool × Settings)) :
    (f.cut saving).logA = f.logA ∧ (f.cut saving).records = f.records := by
  cases saving with
  | none => exact ⟨rfl, rfl⟩
  | some w =>
    obtain ⟨bank, -⟩ := w
    cases bank <;> exact ⟨rfl, rfl⟩

theorem FlashSt.largest_cut (f : FlashSt) (saving : Option (Bool × Settings)) (kind : Nat) : (f.cut saving).largest kind = f.largest kind := by
  rw [FlashSt.largest, (f.cut_log saving).2, FlashSt.largest]

theorem FlashSt.update_cut (f : FlashSt) (saving : Option (Bool × Settings)) : (f.cut saving).update = f.update := by
  rw [FlashSt.update, (f.cut_log saving).2, FlashSt.update]

/-- Outside the battery domain a reset leaves no register but at its reset value. -/
theorem Block.resetAll_look (b : Block) {k : Nat} (h : batteryReg (k / 32) = false) : b.resetAll.regs.look k = none := by
  refine (Bank.look_filter b.regs (fun a => batteryReg (a / 32)) k).trans ?_
  rw [h, if_neg Bool.false_ne_true]
  rfl

/-- The device with device time run on over a reset. -/
def Block.timeKept (b : Block) : Block := { b.resetAll with time := { (default : TimeSt) with raw := b.time.raw, now := b.time.now } }

/-- The device with its synchronised state kept over a reset. -/
def Block.syncKept (b : Block) : Block := (b.timeKept.setTo F.TIME_STATUS_SYNCED 0 b.synced).setTo F.REFS_STATUS_TIME_SYNCED 0 b.synced

theorem Block.warmReset_eq (b : Block) (device : Bool) :
    b.warmReset device = b.syncKept.resetCause false device (!device) (b.on F.PWR_STATUS_THERMAL_SHUTDOWN 0) := rfl

/-- The keys of the causes of a reset. -/
def causeKeys : List Nat :=
  [F.SYS_RESET_CAUSE_POWER_ON.key 0, F.SYS_RESET_CAUSE_DEVICE.key 0, F.SYS_RESET_CAUSE_PIN.key 0, F.SYS_RESET_CAUSE_THERMAL.key 0]

theorem Block.resetCause_keeps (b : Block) (power device pin thermal : Bool) : b.keeps (b.resetCause power device pin thermal) causeKeys :=
  ((((b.keeps_refl _).setFld (by simp [causeKeys]) _).setFld (by simp [causeKeys]) _).setFld (by simp [causeKeys]) _).setFld (by simp [causeKeys]) _

theorem Block.resetCause_state (b : Block) (power device pin thermal : Bool) :
    (b.resetCause power device pin thermal).fld F.SYS_RESET_CAUSE_DEVICE 0 = bit device ∧
      (b.resetCause power device pin thermal).fld F.SYS_RESET_CAUSE_PIN 0 = bit pin := by
  have hb : ∀ p : Bool, bit p % 2 ^ 1 = bit p := by decide
  unfold Block.resetCause
  refine ⟨?_, ?_⟩
  · rw [Block.setTo, Block.fld_setFld_ne _ _ (by simp), Block.setTo, Block.fld_setFld_ne _ _ (by simp), Block.fld_setTo_same]
    exact hb device
  · rw [Block.setTo, Block.fld_setFld_ne _ _ (by simp), Block.fld_setTo_same]
    exact hb pin

section
variable (b : Block) (device : Bool)

theorem Block.warmReset_look {k : Nat} (h : batteryReg (k / 32) = false) (hc : k / 32 ≠ R.SYS_RESET_CAUSE.off) (ht : k / 32 ≠ R.TIME_STATUS.off)
    (hr : k / 32 ≠ R.REFS_STATUS.off) : (b.warmReset device).regs.look k = none := by
  have hs : b.syncKept.regs.look k = b.timeKept.regs.look k := by
    rw [Block.syncKept, Block.setTo, Block.look_setFld_ne _ _ fun e => hr (by rw [e]; rfl), Block.setTo,
      Block.look_setFld_ne _ _ fun e => ht (by rw [e]; rfl)]
  have hk : k ∉ causeKeys := fun hm => hc (by
    simp only [causeKeys, List.mem_cons, List.not_mem_nil, or_false] at hm
    rcases hm with rfl | rfl | rfl | rfl <;> rfl)
  rw [Block.warmReset_eq, Block.resetCause_keeps _ _ _ _ _ k hk, hs]
  exact b.resetAll_look h

theorem Block.warmReset_synced : (b.warmReset device).synced = b.synced := by
  have hk := b.syncKept.resetCause_keeps false device (!device) (b.on F.PWR_STATUS_THERMAL_SHUTDOWN 0)
  have hs : b.syncKept.fld F.TIME_STATUS_SYNCED 0 = bit b.synced % 2 ^ 1 :=
    (Block.fld_setFld_ne _ _ (by simp)).trans (Block.fld_setTo_same _ _ _ _)
  rw [Block.synced, Block.on, Block.warmReset_eq, hk.fld (by simp [causeKeys]), hs]
  cases b.synced <;> rfl

theorem Block.warmReset_cause : (b.warmReset device).fld F.SYS_RESET_CAUSE_DEVICE 0 = bit device ∧
    (b.warmReset device).fld F.SYS_RESET_CAUSE_PIN 0 = bit (!device) := b.syncKept.resetCause_state _ _ _ _

/-- The parts of a device that a reset other than by power-on leaves, and those it starts anew. -/
theorem Block.warmReset_state :
    (b.warmReset device).time.raw = b.time.raw ∧ (b.warmReset device).time.now = b.time.now ∧
      (b.warmReset device).keys.root = b.keys.root ∧
      (b.warmReset device).released = false ∧ (b.warmReset device).flash = b.flash.cut b.start.saving ∧
      (b.warmReset device).start = { (default : StartSt) with pinLow := b.start.pinLow, clamped := b.start.clamped } := ⟨rfl, rfl, rfl, rfl, rfl, rfl⟩

end

/-! ### A start up to its boot (R609, R615, R628) -/

/-- The device with a transition cut short completed and what retention lost erased. -/
def Block.mended (b : Block) : Block :=
  let b := b.lcComplete
  if b.keys.latch ∨ b.keys.patternBad then (b.updKeys fun k => { k with retLost := true }).zeroise else b

/-- The epoch that a start takes from the log. -/
def Block.nextBoot (b : Block) : Nat := (b.flash.largest 1 + 1) % 2 ^ 32

/-- `b` with the epoch that its start takes. -/
def Block.withEpoch (b : Block) : Block := { b with dev := { b.dev with bootEpoch := b.nextBoot } }

/-- The device with epoch `e` shown on every channel. -/
def Block.epochShown (b : Block) (e : Nat) : Block :=
  b.each (List.range 41) fun b c => b.setFld F.CH_EPOCH_DEV_EPOCH c (if e % 65536 = 0 then 1 else e % 65536)

/-- The device with its guard content reset and its self-test begun. -/
def Block.testBegun (b : Block) : Block := (b.guardReset.setFld F.BIST_STATUS_PHASE 0 1).updStart fun s => { s with bootRaw := b.time.raw }

/-- The device with its start under way, before its boot. -/
def Block.begun (b : Block) : Block := (b.mended.withEpoch.epochShown b.mended.nextBoot).testBegun

theorem Block.startUp_eq (b : Block) : b.startUp = b.begun.bootUpdate := rfl

section
variable {b c : Block} (h : b.sparesCore c)
include h

theorem Block.sparesCore.updKeys (f : KeysSt → KeysSt) : b.sparesCore (c.updKeys f) := h.of_regs rfl rfl

theorem Block.sparesCore.zeroise : b.sparesCore c.zeroise := by
  unfold Block.zeroise
  exact (h.updKeys _).setFld _

theorem Block.sparesCore.lcStep (t i : Nat) : b.sparesCore (c.lcStep t i) := by
  unfold Block.lcStep
  split
  · exact h.of_regs rfl rfl
  · have hc : b.sparesCore (c.set F.KEY_TAMP_CAUSE_LC 0) := h.setFld _
    exact hc.zeroise.updKeys _
  · exact h.of_regs rfl rfl
  · exact h.of_regs rfl rfl
  · exact h.of_regs rfl rfl

theorem Block.sparesCore.lcComplete : b.sparesCore c.lcComplete := by
  unfold Block.lcComplete
  split
  · exact h
  · rename_i t _
    extract_lets k blown
    have hb : b.sparesCore blown := by
      unfold blown
      split
      · exact h
      · split
        · exact (h.lcStep t 2).lcStep t 3
        · exact h.lcStep t 3
    split
    · exact h.lcStep t 5
    · exact ((hb.lcStep t 4).lcStep t 5).updKeys _

theorem Block.sparesCore.mended : b.sparesCore c.mended := by
  unfold Block.mended
  extract_lets done
  have hd : b.sparesCore done := h.lcComplete
  split
  · exact (hd.updKeys _).zeroise
  · exact hd

theorem Block.sparesCore.guardReset : b.sparesCore c.guardReset :=
  ⟨fun k hk => (c.guardReset_look (by rw [refsAddr] at hk; omega)).trans (h.low k hk), h.core⟩

end

/-! ### What every start keeps to its end -/

/-- The parts of a device that its start leaves once its epoch is taken. -/
def Block.lasting (b : Block) : TimeSt × Nat × Nat × Bool × Bool × Bool × Bool :=
  (b.time, b.dev.bootEpoch, b.dev.fabId, b.dev.idInvalid, b.released, b.start.pinLow, b.start.clamped)

/-- `c` is `b` with its lasting parts and the registers of `SYS` and `TIME` as they were. -/
structure Block.starts (b c : Block) : Prop where
  low : ∀ k, k < refsAddr * 32 → c.regs.look k = b.regs.look k
  lasting : c.lasting = b.lasting

theorem Block.starts_refl (b : Block) : b.starts b := ⟨fun _ _ => rfl, rfl⟩

theorem Block.sparesCore.lasting {b c : Block} (h : b.sparesCore c) : c.lasting = b.lasting :=
  congrArg (fun x : TimeSt × Dev × Bool × StartSt × FlashSt =>
    (x.1, x.2.1.bootEpoch, x.2.1.fabId, x.2.1.idInvalid, x.2.2.1, x.2.2.2.1.pinLow, x.2.2.2.1.clamped)) h.core

theorem Block.sparesCore.flash {b c : Block} (h : b.sparesCore c) : c.flash = b.flash :=
  congrArg (fun x : TimeSt × Dev × Bool × StartSt × FlashSt => x.2.2.2.2) h.core

section
variable {b c : Block} (h : b.starts c)
include h

theorem Block.starts.of_spares {d : Block} (hd : c.sparesCore d) : b.starts d :=
  ⟨fun k hk => (hd.low k hk).trans (h.low k hk), hd.lasting.trans h.lasting⟩

theorem Block.starts.of_regs {d : Block} (hr : d.regs = c.regs) (hl : d.lasting = c.lasting) : b.starts d :=
  ⟨fun k hk => (congrArg (·.look k) hr).trans (h.low k hk), hl.trans h.lasting⟩

theorem Block.starts.setFld_key {g : Field} {n : Nat} (hg : refsAddr * 32 ≤ g.key n) (v : Nat) : b.starts (c.setFld g n v) :=
  ⟨fun k hk => (c.look_setFld_ne v (by omega)).trans (h.low k hk), h.lasting⟩

theorem Block.starts.setFld {g : Field} {n : Nat} (v : Nat) (hg : refsAddr ≤ g.reg.off := by decide) : b.starts (c.setFld g n v) :=
  h.of_spares (c.sparesCore_refl.setFld v hg)

theorem Block.starts.each {α : Type} (l : List α) {f : Block → α → Block} (hf : ∀ d, ∀ x ∈ l, b.starts d → b.starts (f d x)) :
    b.starts (c.each l f) := Block.each_induction (P := b.starts) h hf

/-! ### The boot slot is booted, or none is (R617, R628, R641, R644, R650) -/

theorem Block.starts.setUpdState (st trial : Nat) : b.starts (c.setUpdState st trial) := h.of_regs rfl rfl

/-- A change of the start's state that leaves what holds the device in reset. -/
theorem Block.starts.updStart {f : StartSt → StartSt} (hp : (f c.start).pinLow = c.start.pinLow := by rfl)
    (hc : (f c.start).clamped = c.start.clamped := by rfl) : b.starts (c.updStart f) := by
  refine h.of_regs rfl ?_
  simp only [Block.lasting, Block.updStart, hp, hc]

theorem Block.starts.readKeep : b.starts c.readKeep := h.of_regs rfl rfl

theorem Block.starts.measure (stage : List Byte) : b.starts (c.measure stage) := by
  unfold Block.measure
  split
  · exact h
  · exact h.of_regs rfl rfl

theorem Block.starts.openChannels (cs : List Nat) : b.starts (c.openChannels cs) := h.each _ fun _ _ _ hd => hd.setFld _

theorem Block.starts.writeDefaults : b.starts c.writeDefaults := by
  unfold Block.writeDefaults
  extract_lets
  exact h.of_regs rfl rfl

theorem Block.starts.queueOn (ds : List Nat) : b.starts (c.queueDoms ds true false) := by
  unfold Block.queueDoms
  extract_lets changed entries queued
  rw [Bool.false_and, Block.ite_false]
  exact h.of_regs rfl rfl

theorem Block.starts.bootImage (prev : Bool) : b.starts (c.bootImage prev) := by
  unfold Block.bootImage
  extract_lets slot measured dev compat booted opened kept banked tested
  have hm : b.starts measured := by
    have he : b.starts (c.each (c.flash.stages slot) fun b s => b.measure s) := h.each _ fun _ _ _ hd => hd.measure _
    exact he.of_regs rfl rfl
  have hc : b.starts compat := hm.of_regs rfl rfl
  have hb : b.starts booted := hc.updStart
  have ho : b.starts opened := Block.starts.openChannels (c := booted.set F.MATRIX_CTRL_REMAP 0) (hb.setFld _) _
  have hk : b.starts kept := ho.readKeep
  have hn : b.starts banked := by
    unfold banked
    split
    · exact hk.updStart
    · exact hk.writeDefaults
  have ht : b.starts tested := hn.each _ fun d v hv hd => hd.setFld_key (by
    simp only [List.mem_cons, List.not_mem_nil, or_false] at hv
    simp [refsAddr]
    omega) _
  exact ht.queueOn _

theorem Block.starts.bootNone : b.starts c.bootNone := by
  have hs : b.starts (c.set F.BIST_STATUS_SAFE 0) := h.setFld _
  exact ((hs.of_spares c.safeEntry_spares).setFld _).openChannels _

theorem Block.starts.bootSlotRun : b.starts c.bootSlotRun := by
  unfold Block.bootSlotRun
  split
  · split
    · exact (h.setUpdState _ _).bootImage _
    · exact (h.setUpdState _ _).updStart
  · split
    · exact h.bootImage _
    · split
      · exact h.bootImage _
      · exact h.bootNone

theorem Block.starts.bootUpdate : b.starts c.bootUpdate := by
  unfold Block.bootUpdate
  split
  · exact (h.setUpdState _ _).bootSlotRun
  · split
    · exact (h.setUpdState _ _).updStart
    · exact (h.setUpdState _ _).updStart
  · exact h.updStart
  · exact h.updStart
  · exact h.updStart
  · exact h.bootSlotRun

end

/-! ### A start -/

theorem Block.sparesCore.withEpoch {b c : Block} (h : b.sparesCore c) : b.withEpoch.sparesCore c.withEpoch := by
  obtain ⟨hlow, hcore⟩ := h
  simp only [Block.core, Prod.mk.injEq] at hcore
  obtain ⟨ht, hd, hr, hs, hf⟩ := hcore
  refine ⟨hlow, ?_⟩
  simp only [Block.core, Block.withEpoch, Block.nextBoot, ht, hd, hr, hs, hf]

theorem Block.epochShown_spares (b : Block) (e : Nat) : b.sparesCore (b.epochShown e) := b.sparesCore_refl.each _ fun _ _ hd => hd.setFld _

theorem Block.testBegun_starts (b : Block) : b.starts b.testBegun := by
  have hp : b.starts (b.guardReset.setFld F.BIST_STATUS_PHASE 0 1) := b.starts_refl.of_spares (b.sparesCore_refl.guardReset.setFld _)
  exact hp.of_regs rfl rfl

theorem Block.testBegun_flash (b : Block) : b.testBegun.flash = b.flash := rfl

theorem Block.testBegun_phase (b : Block) : b.testBegun.fld F.BIST_STATUS_PHASE 0 = 1 := b.guardReset.fld_setFld_same F.BIST_STATUS_PHASE 0 1

theorem Block.begun_starts (b : Block) : b.withEpoch.starts b.begun := by
  have hm : b.withEpoch.starts b.mended.withEpoch := b.withEpoch.starts_refl.of_spares b.sparesCore_refl.mended.withEpoch
  have he : b.withEpoch.starts (b.mended.withEpoch.epochShown b.mended.nextBoot) := hm.of_spares (Block.epochShown_spares _ _)
  have ht := (b.mended.withEpoch.epochShown b.mended.nextBoot).testBegun_starts
  exact ⟨fun k hk => (ht.low k hk).trans (he.low k hk), ht.lasting.trans he.lasting⟩

theorem Block.begun_flash (b : Block) : b.begun.flash = b.flash := by
  rw [Block.begun, Block.testBegun_flash, (Block.epochShown_spares _ _).flash]
  exact b.sparesCore_refl.mended.flash

/-- A start takes its epoch from the log, and leaves what lasts. -/
theorem Block.startUp_starts (b : Block) : b.withEpoch.starts b.startUp := by
  rw [Block.startUp_eq]
  exact b.begun_starts.bootUpdate

theorem Block.bootUpdate_copies {b : Block} (h : b.updState = 3) : b.bootUpdate = b.updStart fun s => { s with copying := 1 } := by
  rw [Block.bootUpdate, h]
  rfl

/-- Where the update log asks for a copy of the boot slot, the start makes it first. -/
theorem Block.startUp_copies {b : Block} (h : b.updState = 3) : b.startUp.start.copying = 1 ∧ b.startUp.fld F.BIST_STATUS_PHASE 0 = 1 := by
  have hu : b.begun.updState = 3 := (congrArg (fun f : FlashSt => f.update.1) b.begun_flash).trans h
  rw [Block.startUp_eq, Block.bootUpdate_copies hu, Block.updStart_fld, Block.begun, Block.testBegun_phase]
  exact ⟨rfl, rfl⟩

/-- What a start shows, part by part. -/
theorem Block.startUp_state (b : Block) :
    b.startUp.time = b.time ∧ b.startUp.dev.bootEpoch = b.nextBoot ∧ b.startUp.dev.fabId = b.dev.fabId ∧ b.startUp.dev.idInvalid = b.dev.idInvalid ∧
      b.startUp.released = b.released ∧ b.startUp.held = b.held ∧ ∀ f : Field, f.key 0 < refsAddr * 32 → b.startUp.fld f 0 = b.fld f 0 := by
  obtain ⟨hlow, hlast⟩ := b.startUp_starts
  simp only [Block.lasting, Prod.mk.injEq] at hlast
  obtain ⟨ht, he, hf, hi, hr, hp, hc⟩ := hlast
  refine ⟨ht, he, hf, hi, hr, ?_, fun f hk => ?_⟩
  · rw [Block.held, hp, hc]
    rfl
  · unfold Block.fld
    rw [hlow _ hk]
    rfl

/-! ### The commands -/

theorem deviceReset_keyed {v : Nat} (hk : v / 65536 = 0xA5A5) (hb : bitOf v 4 = true) (b : Block) : deviceReset v b = (b.warmReset true).startUp := by
  have hr : resetKey v = true := by
    rw [resetKey, hk]
    rfl
  rw [deviceReset, hr, if_neg (not_not.mpr rfl), hb, if_pos rfl, Block.deviceReset]

theorem deviceReset_refused {v : Nat} (hv : v < 2 ^ 32) (hk : v / 65536 ≠ 0xA5A5) (b : Block) : deviceReset v b = b.reject 0 F.SYS_HIST_CFG_REJECTED 0 := by
  have hr : resetKey v = false := by
    rw [resetKey, Nat.mod_eq_of_lt (by omega)]
    exact beq_false_of_ne hk
  rw [deviceReset, hr, if_pos Bool.false_ne_true]

/-- The device with its pin high, and the strap value taken after a power-on. -/
def Block.pinHigh (slot : Nat) (b : Block) : Block :=
  let b := b.updStart fun s => { s with pinLow := false }
  if b.on F.SYS_RESET_CAUSE_POWER_ON 0 then { b with dev := { b.dev with fabId := slot % 32, idInvalid := decide (17 < slot % 32) } } else b

section
variable {b : Block} {slot : Nat}

theorem powerOnRelease_clamped (h : b.start.clamped = true) : powerOnRelease slot b = b.updStart fun s => { s with pinLow := false } := if_pos h

theorem powerOnRelease_running (hc : b.start.clamped = false) (hp : b.start.pinLow = false)
    (h : b.start.booted = true ∨ b.fld F.BIST_STATUS_PHASE 0 ≠ 0) : powerOnRelease slot b = b := by
  rw [powerOnRelease, if_neg (hc ▸ Bool.false_ne_true), if_pos (h.imp_right fun hn => ⟨hp ▸ Bool.false_ne_true, hn⟩)]

theorem powerOnRelease_starts (hc : b.start.clamped = false) (hb : b.start.booted = false)
    (h : b.start.pinLow = true ∨ b.fld F.BIST_STATUS_PHASE 0 = 0) : powerOnRelease slot b = (b.pinHigh slot).startUp := by
  have hn : ¬(b.start.booted = true ∨ (¬b.start.pinLow = true ∧ b.fld F.BIST_STATUS_PHASE 0 ≠ 0)) := by
    rintro (hx | ⟨hp, hz⟩)
    · exact Bool.false_ne_true (hb.symm.trans hx)
    · exact h.elim hp hz
  rw [powerOnRelease, if_neg (hc ▸ Bool.false_ne_true), if_neg hn, Block.pinHigh]

theorem Block.pinHigh_state (slot : Nat) (b : Block) :
    (b.pinHigh slot).time = b.time ∧ (b.pinHigh slot).flash = b.flash ∧ (b.pinHigh slot).held = b.start.clamped ∧
      (b.on F.SYS_RESET_CAUSE_POWER_ON 0 = true → (b.pinHigh slot).dev.fabId = slot % 32 ∧ (b.pinHigh slot).dev.idInvalid = decide (17 < slot % 32)) := by
  have hon : (b.updStart fun s => { s with pinLow := false }).on F.SYS_RESET_CAUSE_POWER_ON 0 = b.on F.SYS_RESET_CAUSE_POWER_ON 0 := rfl
  rw [Block.pinHigh]
  dsimp only
  rw [hon]
  cases b.on F.SYS_RESET_CAUSE_POWER_ON 0 with
  | true => exact ⟨rfl, rfl, Bool.false_or _, fun _ => ⟨rfl, rfl⟩⟩
  | false => exact ⟨rfl, rfl, Bool.false_or _, nofun⟩

theorem extestClampSelect_idle {sel : Bool} (h : b.lifeCycle = 4 ∨ b.start.clamped = sel) : extestClampSelect sel b = b := if_pos h

section
variable (hl : b.lifeCycle ≠ 4)
include hl

theorem extestClampSelect_holds (hc : b.start.clamped = false) :
    extestClampSelect true b = (b.warmReset false).updStart fun s => { s with clamped := true } := by
  have hn : ¬(b.lifeCycle = 4 ∨ b.start.clamped = true) := fun h => h.elim hl fun h => Bool.false_ne_true (hc.symm.trans h)
  exact (if_neg hn).trans (if_pos rfl)

/-- The device with EXTEST and CLAMP not selected. -/
def Block.unclamped (b : Block) : Block := b.updStart fun s => { s with clamped := false }

theorem extestClampSelect_frees (hc : b.start.clamped = true) :
    extestClampSelect false b = if b.unclamped.start.pinLow then b.unclamped else b.unclamped.startUp := by
  have hn : ¬(b.lifeCycle = 4 ∨ b.start.clamped = false) := fun h => h.elim hl fun h => Bool.false_ne_true (h.symm.trans hc)
  exact (if_neg hn).trans (if_neg Bool.false_ne_true)

end
end

/-- A drive's loss of power is of the witness alone. -/
theorem Block.drivesCut_kept (b : Block) :
    b.drivesCut.time = b.time ∧ b.drivesCut.keys = b.keys ∧ b.drivesCut.synced = b.synced := ⟨rfl, rfl, rfl⟩

/-- A command that acts on a device held in reset too. -/
theorem runAlways_eq (f : Block → Block) (s : State) : runAlways f s = .next { s with toBlock := s.toBlock.effect f } := rfl

@[simp] theorem Block.effect_held (b : Block) (f : Block → Block) : (b.effect f).held = (f b.quiet).held := rfl

theorem Block.reject_writes (b : Block) (f : Field) (n blk : Nat) : b.writes (b.reject blk f n) [f.key n, F.BLK_REJECT_CNT_COUNT.key blk] :=
  ((b.writes_refl _).setFld (by simp) _).setFld (by simp) _

theorem Block.not_held {b : Block} (h : b.held = false) : b.start.pinLow = false ∧ b.start.clamped = false := Bool.or_eq_false_iff.mp h

/-- Settles O47: a reset is `warmReset` or, at power-on, `resetAll`; every start is `startUp`, of which `startUp_state` says what it keeps. -/
theorem resetsKeepWhatTheyMust : Obligations.ResetsKeepWhatTheyMust := by
  intro s
  refine ⟨?_, ?_, fun v hs hk hb => ?_, fun v hs hk => ?_, fun slot hc hb hp => ?_, fun slot hc => ?_, fun slot hs h => ?_, fun hl hc => ?_,
    fun sel h hs => ?_, fun hl hc hp => ?_, fun hl hc hp => ?_⟩
  · refine ⟨_, runAlways_eq _ s, rfl, rfl, rfl, ?_, fun k hk => ?_⟩
    · exact (FlashSt.cut_log _ _).1
    · exact Block.resetAll_look _ hk
  · obtain ⟨ht, hkeys, hsync⟩ := s.quiet.drivesCut_kept
    obtain ⟨hraw, hnow, hroot, -⟩ := s.quiet.drivesCut.warmReset_state false
    obtain ⟨-, hpin⟩ := s.quiet.drivesCut.warmReset_cause false
    have hsy := s.quiet.drivesCut.warmReset_synced false
    refine ⟨_, runAlways_eq _ s, rfl, ?_, ?_, ?_, hpin, hsy.trans hsync, rfl, fun k hk h1 h2 h3 => Block.warmReset_look _ _ hk h1 h2 h3⟩
    · exact hraw.trans (congrArg TimeSt.raw ht)
    · exact hnow.trans (congrArg TimeSt.now ht)
    · exact hroot.trans (congrArg KeysSt.root hkeys)
  · have he := deviceReset_keyed hk hb s.quiet
    obtain ⟨hp, hc⟩ := Block.not_held hs
    obtain ⟨hraw, hnow, -, hrel, hflash, hstart⟩ := s.quiet.warmReset_state true
    obtain ⟨ht, hep, -, -, hr, hheld, hf⟩ := (s.quiet.warmReset true).startUp_state
    have hu : (s.quiet.warmReset true).updState = s.updState := by
      rw [Block.updState, hflash, FlashSt.update_cut]
      rfl
    refine ⟨_, run_live _ hs, ?_, ?_, ?_, ?_, ?_, ?_, ?_, fun h => ?_⟩
    · rw [Block.effect_held, he, hheld, Block.held, hstart]
      exact Bool.or_eq_false_iff.mpr ⟨hp, hc⟩
    · rw [Block.effect_time, he, ht, hraw]
      rfl
    · rw [Block.effect_time, he, ht, hnow]
      rfl
    · rw [Block.effect_synced, he, Block.synced, Block.on, hf _ (by simp [refsAddr])]
      exact s.quiet.warmReset_synced true
    · rw [Block.effect_dev, he, hep, Block.nextBoot, hflash, FlashSt.largest_cut]
      rfl
    · rw [Block.effect_fld, he, hf _ (by simp [refsAddr]), (s.quiet.warmReset_cause true).1]
      rfl
    · rw [Block.effect_released, he, hr, hrel]
    · rw [Block.effect_start, Block.effect_fld, he]
      exact Block.startUp_copies (hu.trans h)
  · have he := deviceReset_refused v.isLt hk s.quiet
    refine ⟨_, run_live _ hs, ?_, onlyRegs_effect ?_⟩
    · rw [Block.effect_fld, he, Block.reject, Block.fld_bump_ne _ (by simp)]
      exact Block.fld_set_same _ _ _
    · rw [he]
      exact s.quiet.reject_writes _ _ _
  · have he := powerOnRelease_starts (b := s.quiet) (slot := slot) hc hb hp
    obtain ⟨hpt, hpf, hph, hid⟩ := s.quiet.pinHigh_state slot
    obtain ⟨ht, hep, hfab, hinv, -, hheld, -⟩ := (s.quiet.pinHigh slot).startUp_state
    refine ⟨_, runAlways_eq _ s, ?_, ?_, ?_, fun h => ?_, fun h => ?_⟩
    · rw [Block.effect_held, he, hheld, hph]
      exact hc
    · rw [Block.effect_dev, he, hep, Block.nextBoot, hpf]
      rfl
    · rw [Block.effect_time, he, ht, hpt]
      rfl
    · rw [Block.effect_dev, he, hfab, hinv]
      exact hid h
    · rw [Block.effect_start, Block.effect_fld, he]
      exact Block.startUp_copies ((congrArg (fun f : FlashSt => f.update.1) hpf).trans h)
  · have he := powerOnRelease_clamped (b := s.quiet) (slot := slot) hc
    refine ⟨_, runAlways_eq _ s, ?_, ?_, regsKept_effect ?_⟩
    · rw [Block.effect_held, he]
      exact hc
    · rw [Block.effect_start, he]
      rfl
    · rw [he]
      exact (s.quiet.keeps_refl _).of_regs rfl
  · obtain ⟨hp, hc⟩ := Block.not_held hs
    exact ⟨_, runAlways_eq _ s, onlyRegs_effect_self (powerOnRelease_running (b := s.quiet) hc hp h)⟩
  · have he := extestClampSelect_holds (b := s.quiet) hl hc
    obtain ⟨hraw, -⟩ := s.quiet.warmReset_state false
    refine ⟨_, runAlways_eq _ s, ?_, ?_⟩
    · rw [Block.effect_held, he]
      exact Bool.or_true _
    · rw [Block.effect_time, he]
      exact hraw
  · exact ⟨_, runAlways_eq _ s, onlyRegs_effect_self (extestClampSelect_idle (b := s.quiet) h)⟩
  · have he := extestClampSelect_frees (b := s.quiet) hl hc
    rw [show s.quiet.unclamped.start.pinLow = false from hp, if_neg Bool.false_ne_true] at he
    obtain ⟨-, hep, -, -, -, hheld, -⟩ := s.quiet.unclamped.startUp_state
    refine ⟨_, runAlways_eq _ s, ?_, ?_⟩
    · rw [Block.effect_held, he, hheld]
      exact Bool.or_eq_false_iff.mpr ⟨hp, rfl⟩
    · rw [Block.effect_dev, he, hep]
      rfl
  · have he := extestClampSelect_frees (b := s.quiet) hl hc
    rw [show s.quiet.unclamped.start.pinLow = true from hp, if_pos rfl] at he
    refine ⟨_, runAlways_eq _ s, ?_, ?_, regsKept_effect ?_⟩
    · rw [Block.effect_start, he]
      rfl
    · rw [Block.effect_held, he, Block.held, show s.quiet.unclamped.start.pinLow = true from hp, Bool.true_or]
    · rw [he]
      exact (s.quiet.keeps_refl _).of_regs rfl

end Sys2Proof.Machine
end

section
/-!
A lane's operations: the registers of its own row and its own state that each one changes, and the values it leaves (R136 to R185).
-/
namespace Sys2Proof.Machine
-- One proof at a time here and in the sections below, which keeps the build within its memory.
set_option Elab.async false

/-! ### The rows of the lanes (R185, R712) -/

/-- The field stands in the row of 32 words that each lane has. -/
def Field.ofLane (f : Field) : Bool :=
  f.reg.off / 128 == 0x0401000 / 128 && f.reg.stride == 128 && f.reg.count2 == 1 && decide (f.reg.off % 128 * 32 + f.lo < 4096)

/-- The keys of lane `l`'s row share their quotient by 4,096. -/
def rowOf (l : Nat) : Nat := 0x0401000 / 128 + l

theorem Field.key_row {f : Field} (h : f.ofLane = true) (l : Nat) : f.key l / 4096 = rowOf l := by
  simp only [Field.ofLane, Bool.and_eq_true, beq_iff_eq, decide_eq_true_eq] at h
  obtain ⟨⟨⟨hoff, hs⟩, hc⟩, hlo⟩ := h
  rw [Field.key_plain f l hc, hs, rowOf]
  omega

/-- Fields of different lanes have different keys. -/
theorem Field.key_lane_ne {f g : Field} (hf : f.ofLane = true) (hg : g.ofLane = true) {j l : Nat} (h : j ≠ l) : f.key j ≠ g.key l := by
  intro he
  have hr : rowOf j = rowOf l := by rw [← Field.key_row hf, he, Field.key_row hg]
  exact h (Nat.add_left_cancel hr)

/-! ### A lane's own state -/

section
variable (b : Block) (g : Field) (n v j : Nat)
@[simp] theorem Block.setFld_lane : (b.setFld g n v).lane j = b.lane j := rfl
@[simp] theorem Block.set_lane : (b.set g n).lane j = b.lane j := rfl
@[simp] theorem Block.clr_lane : (b.clr g n).lane j = b.lane j := rfl
@[simp] theorem Block.bump_lane (k : Nat) : (b.bump g n k).lane j = b.lane j := rfl
@[simp] theorem Block.setFree_lane : (b.setFree g n).lane j = b.lane j := rfl
@[simp] theorem Block.emit_lane (o : Out) : (b.emit o).lane j = b.lane j := rfl
@[simp] theorem Block.setRateNow_lane (l r : Nat) : (b.setRateNow l r).lane j = b.lane j := rfl
end

theorem Block.writes.lane {b c : Block} {ks : List Nat} (h : b.writes c ks) (j : Nat) : c.lane j = b.lane j := (congrArg (fun x : Block => x.lane j) h.2 :)
@[simp] theorem Block.storeWord_lane (b : Block) (fs : List Field) (n v j : Nat) : (b.storeWord fs n v).lane j = b.lane j :=
  ((b.writes_refl (fs.map (·.key n))).storeWord (fun _ hg => List.mem_map_of_mem hg) v).lane j

@[simp] theorem Block.lane_updLane_same (b : Block) (l : Nat) (f : LaneSt → LaneSt) : (b.updLane l f).lane l = f (b.lane l) := Bank.look_upd_same _ _ _
theorem Block.lane_updLane_ne (b : Block) {j l : Nat} (f : LaneSt → LaneSt) (h : j ≠ l) : (b.updLane l f).lane j = b.lane j := Bank.look_upd_ne _ _ h

@[simp] theorem Block.fld_setTo_ne (b : Block) {f g : Field} {n m : Nat} (h : f.key n ≠ g.key m) (p : Bool) : (b.setTo g m p).fld f n = b.fld f n :=
  b.fld_setFld_ne _ h

/-! ### What a lane's operation changes -/

/-- `c` is `b` with fields `fs` of lane `l` and its own state changed, and the record of outputs and the free values taken. -/
structure Block.changes (b : Block) (l : Nat) (fs : List Field) (c : Block) : Prop where
  regs : b.keeps c (fs.map (·.key l))
  lanes : ∀ j, j ≠ l → c.lane j = b.lane j
  rest : { c with regs := b.regs, lanes := b.lanes, out := b.out, free := b.free } = b

namespace Block.changes

theorem refl (b : Block) (l : Nat) (fs : List Field) : b.changes l fs b := ⟨b.keeps_refl _, fun _ _ => rfl, rfl⟩

section
variable {b c d : Block} {l : Nat} {fs gs : List Field}

theorem trans (h : b.changes l fs c) (k : c.changes l fs d) : b.changes l fs d :=
  ⟨fun a ha => (k.regs a ha).trans (h.regs a ha), fun j hj => (k.lanes j hj).trans (h.lanes j hj),
    (congrArg (fun x : Block => { x with regs := b.regs, lanes := b.lanes, out := b.out, free := b.free }) k.rest).trans h.rest⟩

theorem mono (h : b.changes l fs c) (hs : fs ⊆ gs) : b.changes l gs c :=
  ⟨fun a ha => h.regs a fun hm => ha (List.map_subset _ hs hm), h.lanes, h.rest⟩

/-- One operation more. -/
theorem andThen (h : b.changes l fs c) (k : c.changes l gs d) (hs : gs ⊆ fs) : b.changes l fs d := h.trans (k.mono hs)

theorem setFld (h : b.changes l fs c) {g : Field} (hg : g ∈ fs) (v : Nat) : b.changes l fs (c.setFld g l v) :=
  ⟨h.regs.setFld (List.mem_map_of_mem hg) v, h.lanes, h.rest⟩

theorem setFree (h : b.changes l fs c) {g : Field} (hg : g ∈ fs) : b.changes l fs (c.setFree g l) :=
  ⟨(h.regs.of_regs (d := c.fresh.2) rfl).setFld (List.mem_map_of_mem hg) _, h.lanes, h.rest⟩

/-- What writes at the lane's keys only changes those. -/
theorem of_writes (h : b.writes c (fs.map (·.key l))) : b.changes l fs c :=
  ⟨h.1, fun j _ => h.lane j, (congrArg (fun x : Block => { x with lanes := b.lanes, free := b.free }) h.2 :)⟩

theorem storeWord (h : b.changes l fs c) (hg : gs ⊆ fs) (v : Nat) : b.changes l fs (c.storeWord gs l v) :=
  h.andThen (of_writes ((c.writes_refl _).storeWord (fun _ hg => List.mem_map_of_mem hg) v)) hg

theorem updLane (h : b.changes l fs c) (f : LaneSt → LaneSt) : b.changes l fs (c.updLane l f) :=
  ⟨h.regs.of_regs rfl, fun j hj => (c.lane_updLane_ne f hj).trans (h.lanes j hj), h.rest⟩

theorem emit (h : b.changes l fs c) (o : Out) : b.changes l fs (c.emit o) := ⟨h.regs.of_regs rfl, h.lanes, h.rest⟩

theorem ite (h : b.changes l fs c) (p : Bool) {f : Block → Block} (hf : b.changes l fs (f c)) : b.changes l fs (c.ite p f) :=
  Block.ite_cases (P := b.changes l fs) p h hf

/-- Another field of the lane, and every field outside its row, is as it was. -/
theorem fld (h : b.changes l fs c) {f : Field} {n : Nat} (hf : ∀ g ∈ fs, f.key n ≠ g.key l) : c.fld f n = b.fld f n := by
  refine h.regs.fld fun hm => ?_
  obtain ⟨g, hg, he⟩ := List.mem_map.mp hm
  exact hf g hg he.symm

theorem laneState (h : b.changes l fs c) (hf : ∀ g ∈ fs, F.LANE_STATUS_STATE.key l ≠ g.key l) : c.laneState l = b.laneState l := h.fld hf

end

end Block.changes

/-! ### Any change within the rows of some lanes -/

/-- `c` is `b` with the rows and the states of lanes `ls` changed, and the record of outputs and the free values taken. -/
structure Block.within (b : Block) (ls : List Nat) (c : Block) : Prop where
  regs : ∀ k, (∀ l ∈ ls, k / 4096 ≠ rowOf l) → c.regs.look k = b.regs.look k
  lanes : ∀ j, j ∉ ls → c.lane j = b.lane j
  rest : { c with regs := b.regs, lanes := b.lanes, out := b.out, free := b.free } = b

theorem Block.changes.within {b c : Block} {l : Nat} {fs : List Field} (h : b.changes l fs c) (hfs : ∀ f ∈ fs, f.ofLane = true) {ls : List Nat}
    (hl : l ∈ ls) : b.within ls c := by
  refine ⟨fun k hk => h.regs k fun hm => ?_, fun j hj => h.lanes j fun he => hj (he ▸ hl), h.rest⟩
  obtain ⟨f, hf, rfl⟩ := List.mem_map.mp hm
  exact hk l hl (Field.key_row (hfs f hf) l)

namespace Block.within

theorem refl (b : Block) (ls : List Nat) : b.within ls b := ⟨fun _ _ => rfl, fun _ _ => rfl, rfl⟩

section
variable {b c d : Block} {ls : List Nat}

theorem trans (h : b.within ls c) (k : c.within ls d) : b.within ls d :=
  ⟨fun a ha => (k.regs a ha).trans (h.regs a ha), fun j hj => (k.lanes j hj).trans (h.lanes j hj),
    (congrArg (fun x : Block => { x with regs := b.regs, lanes := b.lanes, out := b.out, free := b.free }) k.rest).trans h.rest⟩

theorem setFld (h : b.within ls c) {g : Field} (hg : g.ofLane = true) {l : Nat} (hl : l ∈ ls) (v : Nat) : b.within ls (c.setFld g l v) :=
  ⟨fun k hk => (c.look_setFld_ne v fun he => hk l hl (by rw [he, Field.key_row hg])).trans (h.regs k hk), h.lanes, h.rest⟩

theorem each (h : b.within ls c) {ms : List Nat} {f : Block → Nat → Block} (hf : ∀ d : Block, ∀ l ∈ ms, d.within ls (f d l)) : b.within ls (c.each ms f) :=
  Block.each_induction (P := b.within ls) h fun d l hl hd => hd.trans (hf d l hl)

variable (h : b.within ls c)
include h

theorem fld_row {f : Field} {n : Nat} (hf : ∀ l ∈ ls, f.key n / 4096 ≠ rowOf l) : c.fld f n = b.fld f n := by
  unfold Block.fld
  rw [h.regs _ hf]

/-- A field of another lane. -/
theorem fld {f : Field} (hf : f.ofLane = true) {j : Nat} (hj : j ∉ ls) : c.fld f j = b.fld f j :=
  h.fld_row fun l hl he => by
    rw [Field.key_row hf] at he
    exact hj (Nat.add_left_cancel he ▸ hl)

/-- The domains are switched by no lane. -/
theorem laneOn (j : Nat) : c.laneOn j = b.laneOn j := by
  unfold Block.laneOn
  split
  · rename_i d hd
    have hlow : d < 96 := by
      unfold laneDomain at hd
      split_ifs at hd <;> simp at hd <;> omega
    refine congrArg (bitOf · (d % 32)) (h.fld_row fun l _ => ?_)
    simp only [F.PWR_DOM_ON_ON_key, rowOf]
    omega
  · rfl

/-- Self-test results are written by no lane (R634). -/
theorem laneBist (hls : ∀ l ∈ ls, l ≤ 344) (j : Nat) : c.laneBist j = b.laneBist j :=
  congrArg (bitOf · (j % 32)) (h.fld_row fun l hl => by
    have := hls l hl
    simp only [F.BIST_LANE_FAIL_FAIL_key, rowOf]
    omega)

theorem bring : c.bring = b.bring := (congrArg Block.bring h.rest :)
theorem port (q : Nat) : c.port q = b.port q := congrArg (·.look q) h.bring

end

end Block.within

/-- What holds of each lane once it is done, and is spared by the others, holds of every lane of a list. -/
theorem Block.each_all {R : Block → Prop} {Q : Nat → Block → Prop} {ls : List Nat} {f : Block → Nat → Block} {b : Block} (hR : R b)
    (hstep : ∀ c, ∀ l ∈ ls, R c → R (f c l)) (hdone : ∀ c, ∀ l ∈ ls, R c → Q l (f c l))
    (hkeep : ∀ c, ∀ l ∈ ls, ∀ j, j ≠ l → Q j c → Q j (f c l)) : ∀ l ∈ ls, Q l (b.each ls f) := by
  have hlast : ∀ ms : List Nat, (∀ l ∈ ms, l ∈ ls) → ∀ c, R c → ∀ j, (Q j c ∨ j ∈ ms) → Q j (c.each ms f) := by
    intro ms
    induction ms with
    | nil => exact fun _ c _ j hj => hj.resolve_right (List.not_mem_nil)
    | cons x xs ih =>
      intro hms c hc j hj
      have hx := hms x List.mem_cons_self
      refine ih (fun l hl => hms l (List.mem_cons_of_mem _ hl)) (f c x) (hstep c x hx hc) j ?_
      by_cases hjx : j = x
      · exact .inl (hjx ▸ hdone c x hx hc)
      · exact hj.imp (hkeep c x hx j hjx) fun hm => (List.mem_cons.mp hm).resolve_left hjx
  exact fun l hl => hlast ls (fun _ h => h) b hR l (.inr hl)

end Sys2Proof.Machine
end

section
/-!
The operations that lanes share: state, rate, eye monitor, power, patterns, retraining.
-/
namespace Sys2Proof.Machine
set_option Elab.async false

/-- What each way of a branch has under its condition, the branch has. -/
theorem Block.ite_split {P : Block → Prop} {b : Block} {f : Block → Block} {p : Bool} (ht : p = true → P (f b)) (hn : p = false → P b) : P (b.ite p f) := by
  cases p
  · exact hn rfl
  · exact ht rfl

@[simp] theorem Block.fld_ite (b : Block) (p : Bool) (f : Block → Block) (g : Field) (n : Nat) :
    (b.ite p f).fld g n = if p then (f b).fld g n else b.fld g n := by cases p <;> rfl
@[simp] theorem Block.lane_ite (b : Block) (p : Bool) (f : Block → Block) (j : Nat) :
    (b.ite p f).lane j = if p then (f b).lane j else b.lane j := by cases p <;> rfl

/-! ### Classes (R136) -/

section
variable {l : Nat}
theorem laneClass_rx (h : l < 128) : laneClass l = .mediaRx := if_pos h
theorem laneClass_tx (h : 128 ≤ l) (h' : l < 256) : laneClass l = .mediaTx := by simp [laneClass, h', Nat.not_lt.mpr h]
theorem laneClass_fabric (h : 256 ≤ l) (h' : l < 324) : laneClass l = .fabric := by
  simp [laneClass, h', show ¬l < 128 by omega, show ¬l < 256 by omega]
theorem laneClass_ethernet (h : 324 ≤ l) (h' : l < 332) : laneClass l = .ethernet := by
  simp [laneClass, h', show ¬l < 128 by omega, show ¬l < 256 by omega, show ¬l < 324 by omega]
theorem laneClass_pcie (h : 332 ≤ l) (h' : l < 344) : laneClass l = .pcie := by
  simp [laneClass, h', show ¬l < 128 by omega, show ¬l < 256 by omega, show ¬l < 324 by omega, show ¬l < 332 by omega]
theorem laneClass_management : laneClass 344 = .management := rfl
end

/-! ### A lane's own state after an operation -/

/-- The state with other counts of its checker, without a measurement, and without a fault that it answers or retries. -/
@[simp] def LaneSt.counted (s : LaneSt) (e u : Nat) : LaneSt := { s with errs := e, bits := u }
@[simp] def LaneSt.unseen (s : LaneSt) : LaneSt := { s with eye := false }
@[simp] def LaneSt.calm (s : LaneSt) : LaneSt := { s with faulted := false, retrying := false }

/-! ### The fields that each operation writes -/

@[simp] def eqFields : List Field := [F.RX_EQ_CTLE, F.RX_EQ_VGA, F.RX_DFE_A_TAP1_4, F.RX_DFE_B_TAP5_8]
@[simp] def stateFields : List Field := F.LANE_STATUS_STATE :: F.LANE_STATUS_FROZEN :: eqFields
@[simp] def rateNowFields : List Field := [F.LANE_STATUS_RATE_NOW, F.LANE_STATUS_PAM4]
@[simp] def eyeFields : List Field := [F.EYE_RESULT_VALID, F.LANE_HIST_EYE_DONE]
/-- What a move of power writes beside the end of a measurement. -/
@[simp] def powerFields : List Field :=
  [F.LANE_CTRL_POWER, F.LANE_STATUS_CDR_LOCK, F.LANE_STATUS_SIG_DET, F.PAT_CFG_IN_SYNC] ++ rateNowFields ++ stateFields
/-- What a new rate writes beside the end of a measurement. -/
@[simp] def laneRateFields : List Field := [F.LANE_CTRL_RATE, F.LANE_STATUS_CDR_LOCK] ++ rateNowFields ++ stateFields
@[simp] def patStopFields : List Field := [F.PAT_CFG_GEN_EN, F.PAT_CFG_CHK_EN, F.PAT_CFG_IN_SYNC]
@[simp] def tapsFields : List Field := [F.TX_EQ_PRE2, F.TX_EQ_PRE1, F.TX_EQ_MAIN, F.TX_EQ_POST1]
/-- What a return to service writes. -/
@[simp] def serveFields : List Field := [F.LANE_STATUS_CDR_LOCK, F.LANE_STATUS_SIG_DET] ++ stateFields

section
variable (b : Block) (l : Nat)

/-! ### Adaptation and state (R151, R152) -/

theorem Block.adaptNow_changes : b.changes l eqFields (b.adaptNow l) := by
  unfold Block.adaptNow
  split
  · exact .refl _ _ _
  · extract_lets ctle vga
    have hc : b.changes l eqFields ctle := (Block.changes.refl _ _ _).ite _ ((Block.changes.refl _ _ _).setFree (by simp))
    have hv : b.changes l eqFields vga := hc.ite _ (hc.setFree (by simp))
    exact hv.ite _ ((hv.setFree (by simp)).setFree (by simp))

@[simp] theorem Block.adaptNow_lane (j : Nat) : (b.adaptNow l).lane j = b.lane j := by
  unfold Block.adaptNow
  split
  · rfl
  · simp

theorem Block.eqLive_changes : b.changes l eqFields (b.eqLive l) := (Block.changes.refl _ _ _).ite _ (b.adaptNow_changes l)
@[simp] theorem Block.eqLive_lane (j : Nat) : (b.eqLive l).lane j = b.lane j := by simp [Block.eqLive]

variable (st : Nat)

theorem Block.setLane_changes : b.changes l stateFields (b.setLane l st) := by
  unfold Block.setLane
  extract_lets st' live shown
  have hl : b.changes l stateFields live := (Block.changes.refl _ _ _).ite _ ((b.eqLive_changes l).mono (by simp))
  have hs : b.changes l stateFields shown := hl.setFld (by simp) _
  exact hs.ite _ (hs.setFld (by simp) _)

@[simp] theorem Block.setLane_lane (j : Nat) : (b.setLane l st).lane j = b.lane j := by simp [Block.setLane]

/-- A lane that no self-test has failed takes the state given. -/
theorem Block.setLane_laneState (hb : b.laneBist l = false) (hs : st < 16 := by decide) : (b.setLane l st).laneState l = st := by
  unfold Block.setLane Block.laneState
  simp [hb, Block.fld_setFld_ne, Nat.mod_eq_of_lt hs]

/-- FAILED is the state of any lane that fails. -/
theorem Block.setLane_failed : (b.setLane l 8).laneState l = 8 := by
  unfold Block.setLane Block.laneState
  simp [Block.fld_setFld_ne]

/-! ### Rate and eye monitor (R140, R174) -/

theorem Block.setRateNow_changes (r : Nat) : b.changes l rateNowFields (b.setRateNow l r) :=
  ((Block.changes.refl _ _ _).setFld (by simp) _).setFld (by simp) _

theorem Block.setRateNow_rateNow (r : Nat) : (b.setRateNow l r).fld F.LANE_STATUS_RATE_NOW l = r % 16 := by simp [Block.setRateNow]

theorem Block.eyeAbort_idle (h : (b.lane l).eye = false) : b.eyeAbort l = b := by simp [Block.eyeAbort, h]

theorem Block.eyeAbort_changes : b.changes l eyeFields (b.eyeAbort l) := by
  unfold Block.eyeAbort
  split
  · exact (((Block.changes.refl _ _ _).updLane _).setFld (by simp) _).setFld (by simp) _
  · exact .refl _ _ _

@[simp] theorem Block.eyeAbort_lane : (b.eyeAbort l).lane l = (b.lane l).unseen := by
  cases he : (b.lane l).eye with
  | false => rw [Block.eyeAbort_idle b l he, LaneSt.unseen, ← he]
  | true => simp [Block.eyeAbort, he]

/-! ### The checker's counters (R168) -/

theorem Block.chkCount_changes (errs units : Nat) : b.changes l [] (b.chkCount l errs units) := by
  unfold Block.chkCount
  split
  · exact (Block.changes.refl _ _ _).updLane _
  · exact .refl _ _ _

theorem Block.chkLive_changes : b.changes l [] (b.chkLive l) := by
  unfold Block.chkLive
  split
  · have hf : b.changes l [] b.fresh.2.fresh.2 := ⟨b.keeps_refl _, fun _ _ => rfl, rfl⟩
    exact hf.trans (Block.chkCount_changes _ _ _ _)
  · exact .refl _ _ _

/-- The counters of the checker are all that it changes of the lane's own state. -/
theorem Block.chkLive_lane : ∃ e u, (b.chkLive l).lane l = (b.lane l).counted e u := by
  unfold Block.chkLive
  split
  · unfold Block.chkCount
    split
    · exact ⟨_, _, Block.lane_updLane_same _ _ _⟩
    · exact ⟨_, _, rfl⟩
  · exact ⟨_, _, rfl⟩

end

/-! ### Power (R141, R174 to R177) -/

/-- A lane of the device's table, whose self-test result none of its own fields holds. -/
theorem Block.changes.laneBist {b c : Block} {l : Nat} {fs : List Field} (h : b.changes l fs c) (hl : l ≤ 344)
    (hfs : ∀ f ∈ fs, f.ofLane = true := by decide) (j : Nat) : c.laneBist j = b.laneBist j :=
  (h.within hfs (List.mem_singleton_self l)).laneBist (by simpa using hl) j
/-- A field of another lane. -/
theorem Block.changes.fld_other {b c : Block} {l : Nat} {fs : List Field} (h : b.changes l fs c) {f : Field} {j : Nat} (hj : j ≠ l)
    (hfs : ∀ f ∈ fs, f.ofLane = true := by decide) (hf : f.ofLane = true := by rfl) : c.fld f j = b.fld f j :=
  (h.within hfs (List.mem_singleton_self l)).fld hf (by simpa using hj)

/-- The state that a power state puts a lane in: a receiver locks anew, and a transmit lane is in service (R141, R175). -/
def powerState (l p : Nat) : Nat := if p = 0 then (if laneClass l = .mediaTx then 6 else 3) else if p = 1 then 1 else if p = 2 then 2 else 0

theorem powerState_lt (l p : Nat) : powerState l p < 16 := by
  unfold powerState
  split_ifs <;> decide

/-- A move of power, after the end of the measurement under way. -/
def Block.powerMove (b : Block) (l p : Nat) : Block :=
  let b := b.setFld F.LANE_CTRL_POWER l p
  let b := b.setLane l (powerState l p)
  let b := b.ite (p == 0) fun b => b.setRateNow l (if b.fld F.LANE_CTRL_RATE l = 15 then 8 else b.fld F.LANE_CTRL_RATE l)
  let b := b.ite (p != 1) fun b => b.clr F.LANE_STATUS_CDR_LOCK l
  let b := b.ite (p != 0) fun b => (b.chkLive l).clr F.PAT_CFG_IN_SYNC l
  (b.ite (p == 3) fun b => b.clr F.LANE_STATUS_SIG_DET l).updLane l fun s => { s with faulted := false, retrying := false }

section
variable (b : Block) (l p : Nat)

theorem Block.lanePower_eq : b.lanePower l p =
    (b.ite (b.fld F.LANE_CTRL_POWER l != if b.laneOn l then p else 3) fun b => b.eyeAbort l).powerMove l (if b.laneOn l then p else 3) := rfl

theorem Block.powerMove_changes : b.changes l powerFields (b.powerMove l p) := by
  unfold Block.powerMove
  extract_lets powered moved rated unlocked unsynced
  have hp : b.changes l powerFields powered := (Block.changes.refl _ _ _).setFld (by simp) _
  have hm : b.changes l powerFields moved := hp.andThen (powered.setLane_changes _ _) (by simp)
  have hr : b.changes l powerFields rated := hm.ite _ (hm.andThen (moved.setRateNow_changes _ _) (by simp))
  have hu : b.changes l powerFields unlocked := hr.ite _ (hr.setFld (by simp) _)
  have hs : b.changes l powerFields unsynced := hu.ite _ ((hu.andThen (unlocked.chkLive_changes _) (by simp)).setFld (by simp) _)
  exact (hs.ite _ (hs.setFld (by simp) _)).updLane _

@[simp] theorem Block.chkLive_fld (f : Field) (n : Nat) : (b.chkLive l).fld f n = b.fld f n := (b.chkLive_changes l).fld (by simp)

theorem Block.powerMove_fields (hl : l ≤ 344) (hb : b.laneBist l = false) :
    (b.powerMove l p).fld F.LANE_CTRL_POWER l = p % 4 ∧ (b.powerMove l p).laneState l = powerState l p ∧
      (p = 0 → (b.powerMove l p).fld F.LANE_STATUS_RATE_NOW l = if b.fld F.LANE_CTRL_RATE l = 15 then 8 else b.fld F.LANE_CTRL_RATE l % 16) ∧
      (p ≠ 1 → (b.powerMove l p).fld F.LANE_STATUS_CDR_LOCK l = 0) ∧ (p = 3 → (b.powerMove l p).fld F.LANE_STATUS_SIG_DET l = 0) := by
  unfold Block.powerMove
  extract_lets powered moved rated unlocked unsynced
  have hp : b.changes l powerFields powered := (Block.changes.refl _ _ _).setFld (by simp) _
  have hs : moved.laneState l = powerState l p :=
    powered.setLane_laneState l _ ((hp.laneBist hl (by decide) l).trans hb) (powerState_lt l p)
  have hk : powered.changes l stateFields moved := powered.setLane_changes _ _
  have hpw : moved.fld F.LANE_CTRL_POWER l = p % 4 := (hk.fld (by simp)).trans (Block.fld_setFld_same _ _ _ _)
  have hrt : moved.fld F.LANE_CTRL_RATE l = b.fld F.LANE_CTRL_RATE l := (hk.fld (by simp)).trans (Block.fld_setFld_ne _ _ (by simp))
  clear_value moved
  refine ⟨?_, ?_, fun h => ?_, fun h => ?_, fun h => ?_⟩
  · simpa [unsynced, unlocked, rated, Block.setRateNow, Block.fld_setFld_ne] using hpw
  · simpa [unsynced, unlocked, rated, Block.setRateNow, Block.fld_setFld_ne, Block.laneState] using hs
  · simp [unsynced, unlocked, rated, h, Block.setRateNow_rateNow, hrt]
    split <;> rfl
  · simp [unsynced, unlocked, h]
  · simp [h]

theorem Block.powerMove_lane : ∃ e u, (b.powerMove l p).lane l = ((b.lane l).counted e u).calm := by
  unfold Block.powerMove
  extract_lets powered moved rated unlocked unsynced
  have hu : unlocked.lane l = b.lane l := by simp [unlocked, rated, moved, powered]
  have hs : ∃ e u, unsynced.lane l = (b.lane l).counted e u := by
    obtain ⟨e, u, h⟩ := unlocked.chkLive_lane l
    exact Block.ite_cases (P := fun c => ∃ e u, c.lane l = (b.lane l).counted e u) _ ⟨_, _, hu⟩ ⟨e, u, by rw [Block.clr_lane, h, hu]⟩
  obtain ⟨e, u, h⟩ := hs
  exact ⟨e, u, by simp [h]⟩

theorem Block.lanePower_changes_idle (he : (b.lane l).eye = false) : b.changes l powerFields (b.lanePower l p) := by
  have hi : ∀ q, (b.ite q fun b => b.eyeAbort l) = b := fun q => Block.ite_cases (P := (· = b)) q rfl (b.eyeAbort_idle l he)
  rw [Block.lanePower_eq, hi]
  exact b.powerMove_changes l _

theorem Block.lanePower_changes : b.changes l (eyeFields ++ powerFields) (b.lanePower l p) := by
  rw [Block.lanePower_eq]
  exact ((Block.changes.refl _ _ _).ite _ ((b.eyeAbort_changes l).mono (by simp))).andThen (Block.powerMove_changes _ _ _) (by simp)

/-- A lane that is supplied takes the power state given, and any lane is turned off. -/
theorem Block.lanePower_fields {b : Block} {l p : Nat} (hl : l ≤ 344) (hb : b.laneBist l = false) (hon : b.laneOn l = true ∨ p = 3) :
    (b.lanePower l p).fld F.LANE_CTRL_POWER l = p % 4 ∧ (b.lanePower l p).laneState l = powerState l p ∧
      (p = 0 → (b.lanePower l p).fld F.LANE_STATUS_RATE_NOW l = if b.fld F.LANE_CTRL_RATE l = 15 then 8 else b.fld F.LANE_CTRL_RATE l % 16) ∧
      (p ≠ 1 → (b.lanePower l p).fld F.LANE_STATUS_CDR_LOCK l = 0) ∧ (p = 3 → (b.lanePower l p).fld F.LANE_STATUS_SIG_DET l = 0) := by
  have hp : (if b.laneOn l then p else 3) = p := by
    rcases hon with h | h
    · exact if_pos h
    · simp [h]
  rw [Block.lanePower_eq, hp]
  have hc : b.changes l eyeFields (b.ite (b.fld F.LANE_CTRL_POWER l != p) fun b => b.eyeAbort l) :=
    (Block.changes.refl _ _ _).ite _ (b.eyeAbort_changes l)
  have hr : _ = b.fld F.LANE_CTRL_RATE l := hc.fld (by simp)
  have h := Block.powerMove_fields _ l p hl ((hc.laneBist hl (by decide) l).trans hb)
  rwa [hr] at h

/-- A move to any state but P1 loses lock. -/
theorem Block.lanePower_unlocks {b : Block} {l p : Nat} (hp : p ≠ 1) : (b.lanePower l p).fld F.LANE_STATUS_CDR_LOCK l = 0 := by
  have h : (if b.laneOn l then p else 3) ≠ 1 := by
    split
    · exact hp
    · decide
  rw [Block.lanePower_eq]
  simp [Block.powerMove, h]

/-- Of the lane's own state a move of power changes the checker's counts, and ends the measurement and the answer to a fault. -/
theorem Block.lanePower_lane : ∃ e u, (b.lanePower l p).lane l = ((b.lane l).counted e u).calm ∨
    (b.lanePower l p).lane l = ((b.lane l).unseen.counted e u).calm := by
  rw [Block.lanePower_eq]
  obtain ⟨e, u, h⟩ := Block.powerMove_lane (b.ite (b.fld F.LANE_CTRL_POWER l != if b.laneOn l then p else 3) fun b => b.eyeAbort l) l
    (if b.laneOn l then p else 3)
  refine ⟨e, u, ?_⟩
  rw [h]
  cases b.fld F.LANE_CTRL_POWER l != if b.laneOn l then p else 3
  · exact .inl rfl
  · exact .inr (by rw [Block.ite_true, Block.eyeAbort_lane])

end

/-! ### A new rate (R140, R141) -/

/-- A new rate, after the end of the measurement under way. -/
def Block.rateMove (b : Block) (l r : Nat) : Block :=
  let b := (b.setFld F.LANE_CTRL_RATE l r).setRateNow l (if r = 15 then 8 else r)
  let st := b.laneState l
  let b := b.ite (laneClass l != .mediaTx) fun b => b.clr F.LANE_STATUS_CDR_LOCK l
  b.ite (laneClass l != .mediaTx && decide (4 ≤ st) && st != 9) fun b => b.setLane l 3

section
variable (b : Block) (l r : Nat)

theorem Block.laneRate_eq : b.laneRate l r = (b.eyeAbort l).rateMove l r := rfl

theorem Block.rateMove_changes : b.changes l laneRateFields (b.rateMove l r) := by
  unfold Block.rateMove
  extract_lets rated st unlocked
  have hr : b.changes l laneRateFields rated :=
    ((Block.changes.refl _ _ _).setFld (g := F.LANE_CTRL_RATE) (by simp) _).andThen (Block.setRateNow_changes _ _ _) (by simp)
  have hu : b.changes l laneRateFields unlocked := hr.ite _ (hr.setFld (by simp) _)
  exact hu.ite _ (hu.andThen (unlocked.setLane_changes _ _) (by simp))

theorem Block.laneRate_changes : b.changes l (eyeFields ++ laneRateFields) (b.laneRate l r) :=
  ((b.eyeAbort_changes l).mono (by simp)).andThen (Block.rateMove_changes _ _ _) (by simp)

theorem Block.laneRate_changes_idle (he : (b.lane l).eye = false) : b.changes l laneRateFields (b.laneRate l r) := by
  rw [Block.laneRate_eq, Block.eyeAbort_idle b l he]
  exact b.rateMove_changes l r

theorem Block.laneRate_fields : (b.laneRate l r).fld F.LANE_CTRL_RATE l = r % 16 ∧
    (laneClass l ≠ .mediaTx → (b.laneRate l r).fld F.LANE_STATUS_CDR_LOCK l = 0) := by
  rw [Block.laneRate_eq]
  unfold Block.rateMove
  extract_lets rated st unlocked
  have hk : unlocked.changes l stateFields (unlocked.setLane l 3) := unlocked.setLane_changes _ _
  refine ⟨?_, fun h => ?_⟩
  · have hr : unlocked.fld F.LANE_CTRL_RATE l = r % 16 := by simp [unlocked, rated, Block.setRateNow, Block.fld_setFld_ne]
    exact Block.ite_cases (P := fun c => c.fld F.LANE_CTRL_RATE l = r % 16) _ hr ((hk.fld (by simp)).trans hr)
  · have hu : unlocked.fld F.LANE_STATUS_CDR_LOCK l = 0 := by simp [unlocked, h]
    exact Block.ite_cases (P := fun c => c.fld F.LANE_STATUS_CDR_LOCK l = 0) _ hu ((hk.fld (by simp)).trans hu)

@[simp] theorem Block.laneRate_lane : (b.laneRate l r).lane l = (b.lane l).unseen := by
  simp [Block.laneRate_eq, Block.rateMove]

/-! ### Patterns (R165, R167) -/

theorem Block.patStop_changes (gen chk : Bool) : b.changes l patStopFields (b.patStop l gen chk) := by
  unfold Block.patStop
  extract_lets stopped
  have hs : b.changes l patStopFields stopped :=
    (Block.changes.refl _ _ _).ite _ (((Block.changes.refl _ _ _).setFld (g := F.PAT_CFG_GEN_EN) (by simp) _).emit _)
  exact hs.ite _ (((hs.andThen (stopped.chkLive_changes l) (by simp)).setFld (by simp) _).setFld (by simp) _)

theorem Block.patStop_lane (gen chk : Bool) : ∃ e u, (b.patStop l gen chk).lane l = (b.lane l).counted e u := by
  unfold Block.patStop
  extract_lets stopped
  have hs : stopped.lane l = b.lane l := by simp [stopped]
  obtain ⟨e, u, h⟩ := stopped.chkLive_lane l
  exact Block.ite_cases (P := fun c => ∃ e u, c.lane l = (b.lane l).counted e u) _ ⟨_, _, hs⟩ ⟨e, u, by simp only [Block.clr_lane, h, hs]⟩

theorem Block.portPattern_changes (code : Nat) : b.changes l [] (b.portPattern l code) := (Block.changes.refl _ _ _).ite _ ((Block.changes.refl _ _ _).emit _)

/-! ### Training (R145, R150, R156) -/

theorem Block.txPreset_changes : b.changes l tapsFields (b.txPreset l) :=
  ((((Block.changes.refl _ _ _).setFld (by simp) _).setFld (by simp) _).setFld (by simp) _).setFld (by simp) _

theorem Block.rxPreset_changes : b.changes l eqFields (b.rxPreset l) := by
  unfold Block.rxPreset
  split
  · exact .refl _ _ _
  · exact ((((Block.changes.refl _ _ _).setFld (by simp) _).setFld (by simp) _).setFld (by simp) _).setFld (by simp) _

theorem Block.txPreset_main : (b.txPreset l).fld F.TX_EQ_MAIN l = 64 := by simp [Block.txPreset, Block.fld_setFld_ne]

@[simp] theorem Block.txPreset_lane (j : Nat) : (b.txPreset l).lane j = b.lane j := rfl

/-- The lane's own state when a retrain starts, for a fault or on command. -/
@[simp] def LaneSt.retraining (s : LaneSt) (fault : Bool) : LaneSt :=
  { s with eye := false, faulted := fault, retrying := false, trained := false, readyRun := 0, response := 0 }

theorem Block.retrain_from (fault : Bool) : (b.eyeAbort l).changes l (stateFields ++ tapsFields) (b.retrain l fault) := by
  unfold Block.retrain
  extract_lets training
  have ht : (b.eyeAbort l).changes l (stateFields ++ tapsFields) training := ((Block.setLane_changes _ _ _).mono (by simp)).updLane _
  exact ht.ite _ (ht.andThen (training.txPreset_changes l) (by simp))

theorem Block.retrain_changes (fault : Bool) : b.changes l (eyeFields ++ stateFields ++ tapsFields) (b.retrain l fault) :=
  ((b.eyeAbort_changes l).mono (by simp)).andThen (b.retrain_from l fault) (by simp)

theorem Block.retrain_changes_idle (he : (b.lane l).eye = false) (fault : Bool) : b.changes l (stateFields ++ tapsFields) (b.retrain l fault) := by
  have h := b.retrain_from l fault
  rwa [Block.eyeAbort_idle b l he] at h

@[simp] theorem Block.retrain_lane (fault : Bool) : (b.retrain l fault).lane l = (b.lane l).retraining fault := by
  simp [Block.retrain]

theorem Block.retrain_laneState {b : Block} {l : Nat} (hl : l ≤ 344) (hb : b.laneBist l = false) (fault : Bool) : (b.retrain l fault).laneState l = 7 := by
  unfold Block.retrain
  extract_lets training
  have ht : training.laneState l = 7 := Block.setLane_laneState _ _ _ (((b.eyeAbort_changes l).laneBist hl (by decide) l).trans hb)
  exact Block.ite_cases (P := fun c => c.laneState l = 7) _ ht (((training.txPreset_changes l).laneState (by simp)).trans ht)

/-! ### Service (R148, R156) -/

theorem Block.laneServe_changes : b.changes l serveFields (b.laneServe l) :=
  (((b.setLane_changes l _).mono (by simp)).setFld (by simp) _).setFld (by simp) _

@[simp] theorem Block.laneServe_lane (j : Nat) : (b.laneServe l).lane j = b.lane j := by simp [Block.laneServe]

theorem Block.laneServe_fields (hb : b.laneBist l = false) (hs : b.laneSingle l = false) :
    (b.laneServe l).laneState l = 6 ∧ (b.laneServe l).fld F.LANE_STATUS_CDR_LOCK l = 1 := by
  rw [Block.laneServe, hs, if_neg Bool.false_ne_true]
  have h := b.setLane_laneState l 6 hb
  exact ⟨by simpa [Block.laneState] using h, by simp⟩

end

end Sys2Proof.Machine
end

section
/-!
What a lane's change means for its port leaves the lanes as they are (R195, R224, R308, R375): a receiver, an Ethernet port and a fabric peer.
-/
namespace Sys2Proof.Machine
set_option Elab.async false

/-- The first key behind the lanes' block. -/
def lanesEnd : Nat := 0x0500000 * 32

/-- The field stands in a block behind the lanes', or is a single one before it. -/
def Field.offLanes (f : Field) : Bool :=
  decide (0x0500000 ≤ f.reg.off) || (decide (f.reg.off < 0x0400000) && decide (f.lo < 32) && f.reg.stride == 0 && f.reg.count2 == 1)

theorem Field.key_offLanes {f : Field} (h : f.offLanes = true) (n : Nat) : f.key n < lanesKey ∨ lanesEnd ≤ f.key n := by
  simp only [Field.offLanes, Bool.or_eq_true, Bool.and_eq_true, decide_eq_true_eq, beq_iff_eq] at h
  rcases h with h | ⟨⟨⟨h, hlo⟩, hs⟩, hc⟩
  · right
    rw [Field.key_rows]
    unfold lanesEnd
    omega
  · left
    rw [Field.key_one f n hc hs]
    unfold lanesKey
    omega

/-- `c` is `b` with the registers of the lanes' block, the lanes' own state, the bring-up of the ports and the answers as they were. -/
structure Block.besides (b c : Block) : Prop where
  regs : ∀ k, lanesKey ≤ k → k < lanesEnd → c.regs.look k = b.regs.look k
  lanes : c.lanes = b.lanes
  bring : c.bring = b.bring
  replies : c.replies = b.replies

namespace Block.besides

theorem refl (b : Block) : b.besides b := ⟨fun _ _ _ => rfl, rfl, rfl, rfl⟩

section
variable {b c : Block} (h : b.besides c)
include h

/-- What shows the same there is beside the lanes too. -/
theorem of_same {d : Block} (hr : d.regs = c.regs := by rfl) (hl : d.lanes = c.lanes := by rfl) (hb : d.bring = c.bring := by rfl)
    (ha : d.replies = c.replies := by rfl) : b.besides d :=
  ⟨fun k h0 h1 => (congrArg (·.look k) hr).trans (h.regs k h0 h1), hl.trans h.lanes, hb.trans h.bring, ha.trans h.replies⟩

/-- A write to a register of another block. -/
theorem setFld {g : Field} {n : Nat} (v : Nat) (hg : g.offLanes = true := by rfl) : b.besides (c.setFld g n v) :=
  ⟨fun k h0 h1 => (c.look_setFld_ne v (by have := Field.key_offLanes hg n; omega)).trans (h.regs k h0 h1), h.lanes, h.bring, h.replies⟩

theorem each {α : Type} (l : List α) {f : Block → α → Block} (hf : ∀ d x, b.besides d → b.besides (f d x)) : b.besides (c.each l f) :=
  Block.each_induction (P := b.besides) h fun d x _ hd => hf d x hd

theorem ite (p : Bool) {f : Block → Block} (hf : b.besides (f c)) : b.besides (c.ite p f) := Block.ite_cases (P := b.besides) p h hf

theorem fld_block {f : Field} {n : Nat} (h0 : lanesKey ≤ f.key n) (h1 : f.key n < lanesEnd) : c.fld f n = b.fld f n := by
  unfold Block.fld
  rw [h.regs _ h0 h1]

theorem fld {f : Field} (hf : f.ofLane = true) {l : Nat} (hl : l ≤ 344) : c.fld f l = b.fld f l := by
  have hk := Field.key_row hf l
  unfold rowOf at hk
  exact h.fld_block (by unfold lanesKey; omega) (by unfold lanesEnd; omega)

theorem lane (j : Nat) : c.lane j = b.lane j := congrArg (·.look j) h.lanes
theorem port (q : Nat) : c.port q = b.port q := congrArg (·.look q) h.bring
theorem laneState {l : Nat} (hl : l ≤ 344) : c.laneState l = b.laneState l := h.fld rfl hl

/-! ### A receiver (R39, R195, R276) -/

theorem candInput (kind idx : Nat) : b.besides (c.candInput kind idx) := by
  refine h.each _ fun d n hd => hd.ite _ ?_
  unfold Block.candInvalid
  split
  · extract_lets invalid
    have hi : b.besides invalid := ((hd.setFld _).setFld _).setFld _
    exact hi.ite _ hi.of_same
  · exact hd

theorem stallShow (j : Nat) : b.besides (c.stallShow j) := by
  unfold Block.stallShow
  extract_lets s act black shown shows
  have hs : b.besides shows := h.of_same
  clear_value shows shown
  cases shown with
  | none => exact ((hs.setFld _).setFld _).setFld _
  | some w => exact ((hs.setFld _).setFld _).setFld _

theorem stallLoss (j : Nat) : b.besides (c.stallLoss j) := by
  unfold Block.stallLoss
  split
  · have hl : b.besides ((c.setFld F.STALL_STATUS_STATE j 3).set F.STALL_HIST_LOS_ENTERED j) := (h.setFld _).setFld _
    exact stallShow hl.of_same j
  · exact h

theorem rxCut (n : Nat) : b.besides (c.rxCut n) := by
  unfold Block.rxCut
  split
  · exact h.of_same
  · exact h

theorem rxFresh (n st : Nat) : b.besides (c.rxFresh n st) := candInput (stallLoss (setFld h.of_same _) _) _ _

theorem rxHunt (n : Nat) : b.besides (c.rxHunt n) := (h.rxCut n).rxFresh n 1

end

end Block.besides

/-- What a receiver whose lane is lost keeps: what holds beside the lanes, and through each lane that it turns off or starts (R195, R196). -/
theorem Block.rxLaneLost_induction {P : Block → Prop} (hside : ∀ c d, c.besides d → P c → P d) (hpower : ∀ c l p, p ≠ 1 → P c → P (c.lanePower l p))
    (hrate : ∀ c l r, P c → P (c.laneRate l r)) {b : Block} (h : P b) (l : Nat) : P (b.rxLaneLost l) := by
  have hoff : ∀ c n, P c → P (c.rxOff n) := fun c n hc => by
    unfold Block.rxOff
    extract_lets off
    have ho : P off := hside _ _ ((Block.besides.refl _).rxFresh n 0) (Block.each_induction hc fun d j _ hd => hpower d j 3 (by decide) hd)
    split
    · have hn : P (off.rxLanesOn n) := Block.each_induction ho fun d j _ hd => hpower _ j 0 (by decide) (hrate d j _ hd)
      exact hside _ _ ((Block.besides.refl _).rxFresh n 1) hn
    · exact ho
  have hhunt : ∀ c n, P c → P (c.rxHunt n) := fun c n hc => hside _ _ ((Block.besides.refl c).rxHunt n) hc
  unfold Block.rxLaneLost
  extract_lets n cut
  split
  · have hc : P cut := hside _ _ (((Block.besides.refl b).setFld (g := F.SDI_RX_HIST_LOCK_LOST) _).rxCut n) h
    split
    · exact hoff _ _ hc
    · exact hhunt _ _ hc
  · exact hhunt _ _ h
  · exact hhunt _ _ h
  · exact h

namespace Block.besides

section
variable {b c : Block} (h : b.besides c)
include h

/-! ### An Ethernet port (R224) -/

theorem ethSettle (l : Nat) : b.besides (c.ethSettle l) := by
  unfold Block.ethSettle ethLinkChange
  refine h.ite _ ?_
  simp only [Bool.false_eq_true, if_false]
  generalize (if l = 344 then 8 else l - 324) = e
  split
  · exact ((h.setFld _).setFld _).setFld _
  · exact h

/-! ### A fabric peer (R302, R304, R308, R375) -/

theorem putPacket (q : Nat) (o : Out) (m : List Byte) : b.besides (c.putPacket q o m) := by
  unfold Block.putPacket
  split
  · exact h.of_same
  · exact h

theorem putMsg (q : Nat) (m : List Byte) : b.besides (c.putMsg q m) := by
  unfold Block.putMsg
  dsimp only
  split
  · exact h.putPacket _ _ _
  · exact putPacket h.of_same _ _ _

theorem markLost : b.besides c.markLost := by
  refine h.each _ fun d kc hd => ?_
  dsimp only
  split
  · exact hd.of_same
  · exact hd

theorem upLeft (q : Nat) : b.besides (c.upLeft q) := by
  refine h.ite _ ?_
  have hl : b.besides (((c.setFld F.TWIN_STATUS_STATE 0 4).set F.TWIN_HIST_STEP_LOST 0).setFld F.TWIN_STATUS_RUN 0 0) :=
    ((h.setFld _).setFld _).setFld _
  exact hl.of_same

theorem randomBytes (n : Nat) : b.besides (c.randomBytes n).2 := by
  induction n with
  | zero => exact h
  | succ n ih => exact ih.of_same

theorem peerStart (q : Nat) : b.besides (c.peerStart q) := by
  have he : b.besides (c.enterHello q) := by
    have hr := (h.upLeft q).randomBytes 32
    unfold Block.enterHello
    generalize (c.upLeft q).randomBytes 32 = drawn at hr ⊢
    exact setFld hr.of_same _
  unfold Block.peerStart Block.sendHello
  extract_lets at_ m
  refine putMsg ?_ q m
  clear_value m
  generalize c.enterHello q = entered at he ⊢
  exact he.of_same

theorem peerDown (q : Nat) : b.besides (c.peerDown q) := by
  unfold Block.peerDown
  split
  · exact h
  · extract_lets left
    have hl : b.besides left := (h.upLeft q).ite _ ((h.upLeft q).setFld _)
    have hs : b.besides ((left.setFld F.FAB_PORT_STATUS_PEER_STATE q 0).clr F.FAB_PORT_STATUS_PEER_VALID q) := (hl.setFld _).setFld _
    exact markLost hs.of_same

theorem fabSettle (q : Nat) : b.besides (c.fabSettle q) := by
  unfold Block.fabSettle
  split
  · exact h.peerDown q
  · split
    · exact h.peerStart q
    · exact h

end

end Block.besides

/-- A command on a lane has its effect on the lanes, and means something for the lane's port beside them. -/
theorem onLane_besides (l : Nat) (f : Block → Block) (b : Block) : (f b).besides (onLane l f b) := by
  unfold onLane
  split
  · exact (Block.besides.refl _).fabSettle _
  · exact (Block.besides.refl _).ethSettle _
  · exact (Block.besides.refl _).ethSettle _
  · exact .refl _

/-- A media lane and a PCIe lane have no port that follows them here. -/
theorem onLane_plain {l : Nat} (h : l < 256 ∨ (332 ≤ l ∧ l < 344)) (f : Block → Block) (b : Block) : onLane l f b = f b := by
  have hc : laneClass l = .mediaRx ∨ laneClass l = .mediaTx ∨ laneClass l = .pcie := by
    rcases h with h | ⟨h, h'⟩
    · rcases Nat.lt_or_ge l 128 with h' | h'
      · exact .inl (laneClass_rx h')
      · exact .inr (.inl (laneClass_tx h' h))
    · exact .inr (.inr (laneClass_pcie h h'))
  unfold onLane
  rcases hc with hc | hc | hc <;> rw [hc]

theorem onPort_besides (q : Nat) (f : Block → Block) (b : Block) : (f b).besides (onPort q f b) := (Block.besides.refl _).fabSettle q

end Sys2Proof.Machine
end

section
/-!
The lanes of a fabric port, and lane 0 alone (for O14).
-/
namespace Sys2Proof.Machine
set_option Elab.async false

/-! ### The lanes of a port -/

theorem mem_portLanes {q l : Nat} : l ∈ portLanes q ↔ ∃ k, k < 4 ∧ l = 256 + 4 * q + k := by
  simp only [portLanes, List.mem_cons, List.not_mem_nil, or_false]
  constructor
  · rintro (rfl | rfl | rfl | rfl)
    · exact ⟨0, by omega, rfl⟩
    · exact ⟨1, by omega, by omega⟩
    · exact ⟨2, by omega, by omega⟩
    · exact ⟨3, by omega, by omega⟩
  · rintro ⟨k, hk, rfl⟩
    omega

theorem portLanes_le {q l : Nat} (hq : q < 17) (h : l ∈ portLanes q) : l ≤ 344 := by
  obtain ⟨k, hk, rfl⟩ := mem_portLanes.mp h
  omega

theorem lane0_mem (q : Nat) : 256 + 4 * q ∈ portLanes q := List.mem_cons_self

/-- The lanes of port `q` are passed by their self-test, and supplied (R177, R634). -/
def Block.portFit (b : Block) (q : Nat) : Prop := ∀ l ∈ portLanes q, b.laneBist l = false ∧ b.laneOn l = true

theorem Block.within.portFit {b c : Block} {q : Nat} (h : b.within (portLanes q) c) (hq : q < 17) (hf : b.portFit q) : c.portFit q := fun l hl => by
  rw [h.laneBist (fun _ => portLanes_le hq) l, h.laneOn l]
  exact hf l hl

/-! ### Lane 0 alone (R145, R146) -/

theorem Block.setSsc_within (b : Block) (q d : Nat) : b.within (portLanes q) (b.setSsc q d) :=
  (Block.within.refl _ _).each fun c _ hl => (Block.within.refl c _).setFld rfl hl d

/-- The other lanes of a port off. -/
def Block.othersOff (b : Block) (q : Nat) : Block := (b.setSsc q 0).each [257 + 4 * q, 258 + 4 * q, 259 + 4 * q] fun b l => b.lanePower l 3

/-- Lane 0 of a port at P0 and code 0. -/
def Block.lane0On (b : Block) (q : Nat) : Block :=
  let l := 256 + 4 * q
  let b := b.ite (b.fld F.LANE_CTRL_POWER l != 0) fun b => b.lanePower l 0
  b.ite (b.fld F.LANE_CTRL_RATE l != 0 || b.fld F.LANE_STATUS_RATE_NOW l != 0) fun b => b.laneRate l 0

theorem Block.lane0Only_eq (b : Block) (q st : Nat) : b.lane0Only q st = (((b.othersOff q).lane0On q).setLane (256 + 4 * q) st).updLane (256 + 4 * q)
    fun s => { s with trained := false, readyRun := 0, goodRun := 0, badRun := 0, faulted := false, retrying := false } := rfl

theorem Block.lanePower_within (b : Block) {l : Nat} (p : Nat) {ls : List Nat} (hl : l ∈ ls) : b.within ls (b.lanePower l p) :=
  (b.lanePower_changes l p).within (by decide) hl

theorem Block.othersOff_within (b : Block) (q : Nat) : b.within (portLanes q) (b.othersOff q) :=
  (b.setSsc_within q 0).each fun c _ hl => c.lanePower_within 3 (List.mem_cons_of_mem _ hl)

/-- What lane 0 alone changes. -/
@[simp] def lane0Fields : List Field := [F.LANE_CTRL_POWER, F.LANE_CTRL_RATE, F.LANE_STATUS_CDR_LOCK, F.LANE_STATUS_SIG_DET, F.PAT_CFG_IN_SYNC]
  ++ rateNowFields ++ eyeFields ++ stateFields

section
variable (b : Block) (q : Nat)

theorem Block.lane0On_changes : b.changes (256 + 4 * q) lane0Fields (b.lane0On q) := by
  unfold Block.lane0On
  extract_lets l powered
  have hp : b.changes l lane0Fields powered := (Block.changes.refl _ _ _).ite _ ((b.lanePower_changes l 0).mono (by simp))
  exact hp.ite _ (hp.andThen (powered.laneRate_changes l 0) (by simp))

theorem Block.lane0Only_from (st : Nat) : (b.othersOff q).changes (256 + 4 * q) lane0Fields (b.lane0Only q st) := by
  rw [Block.lane0Only_eq]
  exact ((Block.lane0On_changes _ q).andThen (Block.setLane_changes _ _ st) (by simp)).updLane _

theorem Block.lane0Only_within (st : Nat) : b.within (portLanes q) (b.lane0Only q st) :=
  (b.othersOff_within q).trans ((b.lane0Only_from q st).within (by decide) (lane0_mem q))

variable {b q} (hq : q < 17) (hf : b.portFit q)
include hq hf

theorem Block.othersOff_power {k : Nat} (h1 : 1 ≤ k) (h3 : k ≤ 3) : (b.othersOff q).fld F.LANE_CTRL_POWER (256 + 4 * q + k) = 3 := by
  refine Block.each_all (R := fun c => b.within (portLanes q) c) (Q := fun l c => c.fld F.LANE_CTRL_POWER l = 3) (b.setSsc_within q 0)
    (fun c l hl hc => hc.trans (c.lanePower_within 3 (List.mem_cons_of_mem _ hl))) (fun c l hl hc => ?_) (fun c l _ j hj h => ?_) _ ?_
  · have hm : l ∈ portLanes q := List.mem_cons_of_mem _ hl
    exact (Block.lanePower_fields (portLanes_le hq hm) (hc.portFit hq hf l hm).1 (.inr rfl)).1
  · exact ((c.lanePower_changes l 3).fld_other hj).trans h
  · simp only [List.mem_cons, List.not_mem_nil, or_false]
    omega

theorem Block.lane0On_fields : (b.lane0On q).fld F.LANE_CTRL_POWER (256 + 4 * q) = 0 ∧ (b.lane0On q).fld F.LANE_CTRL_RATE (256 + 4 * q) = 0 := by
  obtain ⟨hb, hon⟩ := hf _ (lane0_mem q)
  unfold Block.lane0On
  extract_lets l powered
  have hp : powered.fld F.LANE_CTRL_POWER l = 0 :=
    Block.ite_split (P := fun c => c.fld F.LANE_CTRL_POWER l = 0) (fun _ => (Block.lanePower_fields (by omega) hb (.inl hon)).1) (by simp)
  have hr : powered.changes l (eyeFields ++ laneRateFields) (powered.laneRate l 0) := powered.laneRate_changes l 0
  exact ⟨Block.ite_cases (P := fun c => c.fld F.LANE_CTRL_POWER l = 0) _ hp ((hr.fld (by simp)).trans hp),
    Block.ite_split (P := fun c => c.fld F.LANE_CTRL_RATE l = 0) (fun _ => (powered.laneRate_fields l 0).1) fun h => by simpa using (Bool.or_eq_false_iff.mp h).1⟩

/-- Lane 0 at P0 and code 0 in the state given, and the other lanes at P3. -/
theorem Block.lane0Only_fields {st : Nat} (hs : st < 16) : (b.lane0Only q st).laneState (256 + 4 * q) = st ∧
    (b.lane0Only q st).fld F.LANE_CTRL_POWER (256 + 4 * q) = 0 ∧ (b.lane0Only q st).fld F.LANE_CTRL_RATE (256 + 4 * q) = 0 ∧
    ∀ k, 1 ≤ k → k ≤ 3 → (b.lane0Only q st).fld F.LANE_CTRL_POWER (256 + 4 * q + k) = 3 := by
  have ho : (b.othersOff q).portFit q := (b.othersOff_within q).portFit hq hf
  obtain ⟨hp, hr⟩ := Block.lane0On_fields hq ho
  have hc := (b.othersOff q).lane0On_changes q
  have hb : ((b.othersOff q).lane0On q).laneBist (256 + 4 * q) = false := (hc.laneBist (by omega) (by decide) _).trans (ho _ (lane0_mem q)).1
  have hk := ((b.othersOff q).lane0On q).setLane_changes (256 + 4 * q) st
  refine ⟨?_, ?_, ?_, fun k h1 h3 => ?_⟩
  · exact Block.setLane_laneState _ _ _ hb hs
  · exact (hk.fld (by simp)).trans hp
  · exact (hk.fld (by simp)).trans hr
  · exact ((b.lane0Only_from q st).fld_other (by omega)).trans (Block.othersOff_power hq hf h1 h3)

end

end Sys2Proof.Machine
end

section
/-!
Fabric ports as they come up: O14.
-/
namespace Sys2Proof.Machine
set_option Elab.async false

/-! ### What a command leaves beside the lanes -/

theorem Block.effect_besides {f g : Block → Block} {b : Block} (h : (f b.quiet).besides (g b.quiet)) : (f b.quiet).besides (b.effect g) := h.of_same

theorem effect_onPort (q : Nat) (f : Block → Block) (b : Block) : (f b.quiet).besides (b.effect (onPort q f)) := Block.effect_besides (onPort_besides q f _)

theorem effect_onLane (l : Nat) (f : Block → Block) (b : Block) : (f b.quiet).besides (b.effect (onLane l f)) := Block.effect_besides (onLane_besides l f _)

/-- An event on a lane that the device has. -/
theorem effect_atLane {l : Nat} {b : Block} (h : b.laneHas l = true) (f : Block → Block) : (f b.quiet).besides (b.effect (atLane l f)) := by
  refine Block.effect_besides ?_
  rw [atLane, if_pos (show b.quiet.laneHas l = true from h)]
  exact onLane_besides l f _

/-! ### Acquisition (R145, R301, R303) -/

section
variable {b : Block} {q : Nat} (hq : q < 17) (hf : b.portFit q)

theorem Block.port_updPort_same (b : Block) (q : Nat) (f : Bring → Bring) : (b.updPort q f).port q = f (b.port q) := Bank.look_upd_same _ _ _

theorem Block.portAcquire_port : ((b.portAcquire q).port q).state = 1 :=
  congrArg Bring.state (Block.port_updPort_same ((b.lane0Only q 3).clr F.LANE_STATUS_CDR_LOCK (256 + 4 * q)) q fun _ => { (default : Bring) with state := 1 })

/-- A port that acquires has lane 0 at P0 and code 0 without lock, and its other lanes at P3. -/
theorem Block.portAcquire_fields (hq : q < 17) (hf : b.portFit q) : (b.portAcquire q).laneState (256 + 4 * q) = 3 ∧
    (b.portAcquire q).fld F.LANE_CTRL_POWER (256 + 4 * q) = 0 ∧ (b.portAcquire q).fld F.LANE_CTRL_RATE (256 + 4 * q) = 0 ∧
    (b.portAcquire q).fld F.LANE_STATUS_CDR_LOCK (256 + 4 * q) = 0 ∧
    ∀ k, 1 ≤ k → k ≤ 3 → (b.portAcquire q).fld F.LANE_CTRL_POWER (256 + 4 * q + k) = 3 := by
  obtain ⟨hs, hp, hr, ho⟩ := Block.lane0Only_fields hq hf (st := 3) (by decide)
  have hk : ∀ f n, (b.portAcquire q).fld f n = ((b.lane0Only q 3).clr F.LANE_STATUS_CDR_LOCK (256 + 4 * q)).fld f n := fun _ _ => rfl
  simp only [Block.laneState, hk] at hs ⊢
  refine ⟨?_, ?_, ?_, ?_, fun k h1 h3 => ?_⟩
  · rwa [Block.fld_clr_ne _ (by simp)]
  · rwa [Block.fld_clr_ne _ (by simp)]
  · rwa [Block.fld_clr_ne _ (by simp)]
  · exact Block.fld_clr_same _ _ _
  · rw [Block.fld_clr_ne _ (Field.key_lane_ne rfl rfl (by omega))]
    exact ho k h1 h3

theorem fabPortEnable_acquires (hf : b.portFit q) (h0 : (b.port q).state = 0) (hn : q + 2 ≤ b.fld F.FAB_CFG_N 0) (hi : b.dev.idInvalid = false)
    (hsafe : b.fld F.BIST_STATUS_SAFE 0 = 0) : fabPortEnable q b = b.portAcquire q := by
  have hb : ((portLanes q).any b.laneBist) = false := by
    rw [List.any_eq_false]
    exact fun l hl => by simp [(hf l hl).1]
  rw [fabPortEnable, if_pos ⟨h0, hn, by simp [hi], by simp [Block.on, hsafe], by simp [hb]⟩]

theorem fabPortEnable_barred (h : b.fld F.FAB_CFG_N 0 < q + 2 ∨ b.dev.idInvalid = true ∨ b.fld F.BIST_STATUS_SAFE 0 = 1) : fabPortEnable q b = b := by
  refine if_neg fun ⟨_, hn, hi, hsafe, _⟩ => ?_
  rcases h with h | h | h
  · omega
  · exact hi h
  · exact hsafe (by simp [Block.on, h])

theorem acquireTimeout_restarts (hq : q < 17) (hf : b.portFit q) (h1 : (b.port q).state = 1) (hp : b.fld F.LANE_CTRL_POWER (256 + 4 * q) = 0) :
    ((acquireTimeout q b).port q).state = 1 ∧ (acquireTimeout q b).laneState (256 + 4 * q) = 3 ∧
      (acquireTimeout q b).fld F.LANE_STATUS_CDR_LOCK (256 + 4 * q) = 0 := by
  rw [acquireTimeout, if_pos ⟨h1, hp⟩]
  refine ⟨?_, ?_, Block.fld_clr_same _ _ _⟩
  · exact (congrArg Bring.state ((b.lane0Only_within q 3).port q)).trans h1
  · exact (Block.fld_clr_ne _ (by simp)).trans (Block.lane0Only_fields hq hf (by decide)).1

theorem singleRetry_acquires (h : (b.port q).state = 6) : singleRetry q b = b.portAcquire q := if_pos h

end

/-! ### Training (R145, R146) -/

/-- One lane of port `q` starts to train at rate code `r`. -/
def Block.trainLane (b : Block) (q r l : Nat) : Block :=
  let b := (((b.eyeAbort l).lanePower l 0).setFld F.LANE_CTRL_RATE l r).setRateNow l r
  let b := (((b.setLane l 4).txPreset l).rxPreset l).setFld F.LANE_CTRL_SSC l (b.port q).ssc
  let b := b.portPattern l (if b.on F.LANE_STATUS_PAM4 l then 5 else 4)
  b.updLane l fun s => { s with trained := false, readyRun := 0, response := 0 }

theorem Block.trainLanes_eq (b : Block) (q r : Nat) (ls : List Nat) : b.trainLanes q r ls = b.each (ls.filter b.laneOn) fun b l => b.trainLane q r l := rfl

@[simp] def trainFields : List Field := [F.LANE_CTRL_RATE, F.LANE_CTRL_SSC] ++ eyeFields ++ powerFields ++ tapsFields

theorem Block.trainLane_changes (b : Block) (q r l : Nat) : b.changes l trainFields (b.trainLane q r l) := by
  unfold Block.trainLane
  extract_lets rated preset patterned
  have hp : b.changes l trainFields ((b.eyeAbort l).lanePower l 0) :=
    ((b.eyeAbort_changes l).mono (by simp)).andThen (Block.lanePower_changes _ _ _) (by simp)
  have hr : b.changes l trainFields rated := (hp.setFld (by simp) r).andThen (Block.setRateNow_changes _ _ _) (by simp)
  have hs : b.changes l trainFields (((rated.setLane l 4).txPreset l).rxPreset l) :=
    ((hr.andThen (rated.setLane_changes _ _) (by simp)).andThen (Block.txPreset_changes _ _) (by simp)).andThen (Block.rxPreset_changes _ _) (by simp)
  exact ((hs.setFld (by simp) _).andThen (Block.portPattern_changes _ _ _) (by simp)).updLane _

theorem Block.trainLane_within (b : Block) (q r : Nat) {l : Nat} (hl : l ∈ portLanes q) : b.within (portLanes q) (b.trainLane q r l) :=
  (b.trainLane_changes q r l).within (by decide) hl

/-- A lane that starts to train, at its rate and from its preset taps. -/
def Block.training (b : Block) (r l : Nat) : Prop :=
  b.laneState l = 4 ∧ b.fld F.LANE_STATUS_RATE_NOW l = r % 16 ∧ b.fld F.TX_EQ_MAIN l = 64

theorem Block.trainLane_training {b : Block} {q r l : Nat} (hl : l ≤ 344) (hb : b.laneBist l = false) : (b.trainLane q r l).training r l := by
  unfold Block.trainLane
  extract_lets rated preset patterned
  have hc : b.changes l trainFields rated :=
    ((((b.eyeAbort_changes l).mono (by simp)).andThen (Block.lanePower_changes _ _ _) (by simp)).setFld (by simp) r).andThen (Block.setRateNow_changes _ _ _) (by simp)
  have hs : (rated.setLane l 4).laneState l = 4 := rated.setLane_laneState l 4 ((hc.laneBist hl (by decide) l).trans hb)
  have hr : rated.fld F.LANE_STATUS_RATE_NOW l = r % 16 := Block.setRateNow_rateNow _ _ _
  have ht := (rated.setLane l 4).txPreset_changes l
  have hx := ((rated.setLane l 4).txPreset l).rxPreset_changes l
  have hpat : patterned.changes l [] (patterned.updLane l fun s => { s with trained := false, readyRun := 0, response := 0 }) := (Block.changes.refl _ _ _).updLane _
  have hlast : ∀ f : Field, f.key l ≠ F.LANE_CTRL_SSC.key l →
      (patterned.updLane l fun s => { s with trained := false, readyRun := 0, response := 0 }).fld f l = (((rated.setLane l 4).txPreset l).rxPreset l).fld f l :=
    fun f hk => ((hpat.fld (by simp)).trans ((preset.portPattern_changes l _).fld (by simp))).trans (Block.fld_setFld_ne _ _ hk)
  refine ⟨?_, ?_, ?_⟩
  · rw [Block.laneState, hlast _ (by simp), hx.fld (by simp), ht.fld (by simp)]
    exact hs
  · rw [hlast _ (by simp), hx.fld (by simp), ht.fld (by simp), (rated.setLane_changes l 4).fld (by simp)]
    exact hr
  · rw [hlast _ (by simp), hx.fld (by simp)]
    exact Block.txPreset_main _ _

section
variable {b : Block} {q : Nat} (r : Nat) {ls : List Nat} (hls : ∀ l ∈ ls, l ∈ portLanes q)
include hls

theorem Block.trainLanes_within : b.within (portLanes q) (b.trainLanes q r ls) := by
  rw [Block.trainLanes_eq]
  exact (Block.within.refl _ _).each fun c l hl => c.trainLane_within q r (hls l (List.mem_of_mem_filter hl))

/-- Every lane named starts to train, in a port whose lanes are fit. -/
theorem Block.trainLanes_training (hq : q < 17) (hf : b.portFit q) : ∀ l ∈ ls, (b.trainLanes q r ls).training r l := by
  have hon : ls.filter b.laneOn = ls := List.filter_eq_self.mpr fun l hl => (hf l (hls l hl)).2
  rw [Block.trainLanes_eq, hon]
  refine Block.each_all (R := fun c => b.within (portLanes q) c) (Q := fun l c => c.training r l) (.refl _ _)
    (fun c l hl hc => hc.trans (c.trainLane_within q r (hls l hl))) (fun c l hl hc => ?_) fun c l _ j hj h => ?_
  · exact Block.trainLane_training (portLanes_le hq (hls l hl)) (hc.portFit hq hf l (hls l hl)).1
  · have hk := c.trainLane_changes q r l
    obtain ⟨hs, hr, hm⟩ := h
    exact ⟨(hk.fld_other hj).trans hs, (hk.fld_other hj).trans hr, (hk.fld_other hj).trans hm⟩

end

/-! ### Training goes on, succeeds and fails (R145, R146, R373) -/

section
variable {b : Block} {q : Nat} (hq : q < 17) (hf : b.portFit q)

include hq hf in
/-- Lanes of the port train, after a step of its bring-up. -/
theorem Block.trainLanes_after (g : Bring → Bring) (r : Nat) {ls : List Nat} (hls : ∀ l ∈ ls, l ∈ portLanes q) :
    ((b.updPort q g).trainLanes q r ls).port q = g (b.port q) ∧ ∀ l ∈ ls, ((b.updPort q g).trainLanes q r ls).training r l :=
  ⟨((Block.trainLanes_within r hls).port q).trans (b.port_updPort_same q g), Block.trainLanes_training r hls hq hf⟩

include hq hf in
theorem rateSwitch_trains (h2 : (b.port q).state = 2) (hh : (b.fport q).peerHello ≠ [])
    (hc : (b.lane (256 + 4 * q)).frameCnt = le (b.fport q).peerHello 68 4) :
    ((rateSwitch q b).port q).state = 3 ∧ ((rateSwitch q b).port q).fails = 0 ∧ ∀ l ∈ portLanes q, (rateSwitch q b).training (b.port q).rate l := by
  rw [rateSwitch, if_pos ⟨h2, hh, hc⟩]
  obtain ⟨hp, ht⟩ := Block.trainLanes_after hq hf (fun s => { s with state := 3, fails := 0 }) (b.port q).rate fun _ (hl : _ ∈ portLanes q) => hl
  exact ⟨congrArg Bring.state hp, congrArg Bring.fails hp, ht⟩

/-- A lane of the port that has been trained. -/
theorem lanePort_portLane {q k : Nat} (hk : k < 4) : (256 + 4 * q + k - 256) / 4 = q := by omega

theorem laneClass_portLane {q k : Nat} (hq : q < 17) (hk : k < 4) : laneClass (256 + 4 * q + k) = .fabric := laneClass_fabric (by omega) (by omega)

include hq hf in
theorem laneTrained_last {k : Nat} (hk : k < 4) (h3 : (b.port q).state = 3) (h4 : b.laneState (256 + 4 * q + k) = 4)
    (hr : 4 ≤ (b.lane (256 + 4 * q + k)).readyRun) (ho : ∀ j, j < 4 → j ≠ k → (b.lane (256 + 4 * q + j)).trained = true) :
    ((laneTrained (256 + 4 * q + k) b).port q).state = 4 ∧ ∀ l ∈ portLanes q, (laneTrained (256 + 4 * q + k) b).laneState l = 5 := by
  have hm : 256 + 4 * q + k ∈ portLanes q := mem_portLanes.mpr ⟨k, hk, rfl⟩
  unfold laneTrained
  rw [lanePort_portLane hk, if_pos ⟨laneClass_portLane hq hk, h4, hr⟩]
  extract_lets trained
  have hc : b.changes (256 + 4 * q + k) [] trained := (Block.changes.refl _ _ _).updLane _
  have hw : b.within (portLanes q) trained := hc.within (by simp) hm
  have hall : ((portLanes q).all fun l => (trained.lane l).trained) = true := by
    rw [List.all_eq_true]
    intro l hl
    obtain ⟨j, hj, rfl⟩ := mem_portLanes.mp hl
    by_cases hjk : j = k
    · simp [trained, hjk]
    · rw [hc.lanes _ (by omega)]
      exact ho j hj hjk
  rw [if_pos ⟨(congrArg Bring.state (hw.port q)).trans h3, hall⟩]
  refine ⟨congrArg Bring.state (Block.port_updPort_same _ q _), ?_⟩
  have hstep : ∀ c : Block, ∀ l, c.changes l stateFields ((c.setLane l 5).portPattern l (if c.on F.LANE_STATUS_PAM4 l then 6 else 4)) :=
    fun c l => (c.setLane_changes l 5).andThen (Block.portPattern_changes _ _ _) (by simp)
  refine Block.each_all (R := fun c => b.within (portLanes q) c) (Q := fun l c => c.fld F.LANE_STATUS_STATE l = 5) hw
    (fun c l hl h => h.trans ((hstep c l).within (by decide) hl)) (fun c l hl h => ?_) fun c l _ j hj h => ((hstep c l).fld_other hj).trans h
  exact ((Block.portPattern_changes _ _ _).laneState (by simp)).trans (c.setLane_laneState l 5 (h.portFit hq hf l hl).1)

theorem laneTrained_unready {l : Nat} (h : (b.lane l).readyRun < 4) : laneTrained l b = b := if_neg fun ⟨_, _, hr⟩ => by omega

/-- A lane that is not of a port in SINGLE is not used alone. -/
theorem Block.laneSingle_portLane {k : Nat} (hk : k < 4) (h : (b.port q).state ≠ 6) : b.laneSingle (256 + 4 * q + k) = false := by
  unfold Block.laneSingle
  rw [lanePort_portLane hk]
  simp [show (b.bring.look q).state ≠ 6 from h]

include hq hf in
theorem verifyEnd_clean (h4 : (b.port q).state = 4) : ((verifyEnd q 0 b).port q).state = 5 ∧
    ∀ l ∈ portLanes q, (verifyEnd q 0 b).laneState l = 6 ∧ (verifyEnd q 0 b).fld F.LANE_HIST_TRAIN_DONE l = 1 := by
  rw [verifyEnd, if_pos h4]
  extract_lets ls quiet
  have hq0 : b.within (portLanes q) quiet := (Block.within.refl _ _).each fun c l hl => by
    have he : c.changes l [] (c.ite (!c.on F.PAT_CFG_GEN_EN l) fun b => b.emit (.generator l none)) := (Block.changes.refl _ _ _).ite _ ((Block.changes.refl _ _ _).emit _)
    exact he.within (by simp) hl
  rw [if_pos (show ls = [] from rfl)]
  refine ⟨congrArg Bring.state (Block.port_updPort_same _ q _), ?_⟩
  have hstep : ∀ c : Block, ∀ l, c.changes l (F.LANE_HIST_TRAIN_DONE :: serveFields) ((c.laneServe l).set F.LANE_HIST_TRAIN_DONE l) :=
    fun c l => ((c.laneServe_changes l).mono (by simp)).setFld (by simp) _
  refine Block.each_all (R := fun c => b.within (portLanes q) c) (Q := fun l c => c.laneState l = 6 ∧ c.fld F.LANE_HIST_TRAIN_DONE l = 1) hq0
    (fun c l hl h => h.trans ((hstep c l).within (by decide) hl)) (fun c l hl h => ?_)
    fun c l _ j hj h => ⟨((hstep c l).fld_other hj).trans h.1, ((hstep c l).fld_other hj).trans h.2⟩
  obtain ⟨k, hk, rfl⟩ := mem_portLanes.mp hl
  have h6 : (c.port q).state ≠ 6 := by
    rw [h.port, h4]
    decide
  refine ⟨?_, Block.fld_set_same _ _ _⟩
  exact (Block.fld_set_ne _ (by simp)).trans (c.laneServe_fields _ (h.portFit hq hf _ hl).1 (Block.laneSingle_portLane hk h6)).1

/-! ### Training fails (R145, R146) -/

/-- The lanes of the port that are not trained. -/
def Block.untrained (b : Block) (q : Nat) : List Nat := (portLanes q).filter fun l => !(b.lane l).trained

/-- The failure shown on every lane that is not trained. -/
def Block.failShown (b : Block) (ls : List Nat) : Block := b.each ls fun b l => b.set F.LANE_HIST_RETRAIN_FAIL l

theorem trainTimeout_fails (h3 : (b.port q).state = 3) (h0 : (b.lane (256 + 4 * q)).trained = false) : trainTimeout q b = b.trainFail q (b.untrained q) := by
  refine if_pos ⟨h3, fun h => ?_⟩
  have hm : 256 + 4 * q ∈ b.untrained q := List.mem_filter.mpr ⟨lane0_mem q, by simp [h0]⟩
  rw [Block.untrained, h] at hm
  exact List.not_mem_nil hm

theorem Block.untrained_sub (b : Block) (q : Nat) : ∀ l ∈ b.untrained q, l ∈ portLanes q := fun _ hl => List.mem_of_mem_filter hl

theorem Block.failShown_within (b : Block) {ls : List Nat} (hls : ∀ l ∈ ls, l ∈ portLanes q) : b.within (portLanes q) (b.failShown ls) :=
  (Block.within.refl _ _).each fun c l hl => (Block.within.refl c _).setFld rfl (hls l hl) 1

theorem Block.failShown_fails (b : Block) (ls : List Nat) : ∀ l ∈ ls, (b.failShown ls).fld F.LANE_HIST_RETRAIN_FAIL l = 1 :=
  Block.each_all (R := fun _ => True) (Q := fun l c => c.fld F.LANE_HIST_RETRAIN_FAIL l = 1) trivial (fun _ _ _ _ => trivial)
    (fun _ _ _ _ => Block.fld_set_same _ _ _) fun _ _ _ _ hj h => (Block.fld_set_ne _ (Field.key_lane_ne rfl rfl hj)).trans h

/-- Training leaves what shows a failure. -/
theorem Block.trainLanes_failure (b : Block) (q r : Nat) (ls : List Nat) (j : Nat) :
    (b.trainLanes q r ls).fld F.LANE_HIST_RETRAIN_FAIL j = b.fld F.LANE_HIST_RETRAIN_FAIL j :=
  Block.each_induction (P := fun c => c.fld F.LANE_HIST_RETRAIN_FAIL j = b.fld F.LANE_HIST_RETRAIN_FAIL j) rfl fun c l _ h => by
    by_cases hj : j = l
    · subst hj
      exact ((c.trainLane_changes q r j).fld (by simp)).trans h
    · exact ((c.trainLane_changes q r l).fld_other hj).trans h

section
include hq hf
variable (h3 : (b.port q).state = 3) (h0 : (b.lane (256 + 4 * q)).trained = false)
include h3 h0

/-- The first failure at a rate trains the failing lanes again at that rate. -/
theorem trainTimeout_first (hfails : (b.port q).fails = 0) :
    ((trainTimeout q b).port q).state = 3 ∧ ((trainTimeout q b).port q).fails = 1 ∧ ((trainTimeout q b).port q).rate = (b.port q).rate ∧
      (trainTimeout q b).fld F.LANE_HIST_RETRAIN_FAIL (256 + 4 * q) = 1 ∧ (trainTimeout q b).laneState (256 + 4 * q) = 4 := by
  have hm : 256 + 4 * q ∈ b.untrained q := List.mem_filter.mpr ⟨lane0_mem q, by simp [h0]⟩
  have hsh := b.failShown_within (b.untrained_sub q)
  rw [trainTimeout_fails h3 h0, Block.trainFail, if_pos hfails]
  obtain ⟨hp, ht⟩ := Block.trainLanes_after hq (hsh.portFit hq hf) (fun s => { s with state := 3, fails := 1 }) (b.port q).rate (b.untrained_sub q)
  have hr : (b.failShown (b.untrained q)).port q = b.port q := hsh.port q
  exact ⟨congrArg Bring.state hp, congrArg Bring.fails hp, (congrArg Bring.rate hp).trans (congrArg Bring.rate hr :),
    (Block.trainLanes_failure _ _ _ _ _).trans (b.failShown_fails _ _ hm), (ht _ hm).1⟩

/-- The second failure takes the next lower rate. -/
theorem trainTimeout_second (hfails : (b.port q).fails = 1) (hr : 0 < (b.port q).rate) :
    ((trainTimeout q b).port q).state = 3 ∧ ((trainTimeout q b).port q).fails = 0 ∧ ((trainTimeout q b).port q).rate = (b.port q).rate - 1 := by
  have hsh := b.failShown_within (b.untrained_sub q)
  rw [trainTimeout_fails h3 h0, Block.trainFail, if_neg (by omega), if_neg (by omega)]
  obtain ⟨hp, -⟩ := Block.trainLanes_after hq (hsh.portFit hq hf) (fun s => { s with state := 3, fails := 0, rate := s.rate - 1 }) ((b.port q).rate - 1)
    fun _ (hl : _ ∈ portLanes q) => hl
  have hs : (b.failShown (b.untrained q)).port q = b.port q := hsh.port q
  exact ⟨congrArg Bring.state hp, congrArg Bring.fails hp, (congrArg Bring.rate hp).trans (congrArg (fun s : Bring => s.rate - 1) hs)⟩

/-- At code 0 it leaves lane 0 alone in SINGLE. -/
theorem trainTimeout_last (hfails : (b.port q).fails = 1) (hr : (b.port q).rate = 0) :
    ((trainTimeout q b).port q).state = 6 ∧ (trainTimeout q b).laneState (256 + 4 * q) = 10 ∧
      ∀ k, 1 ≤ k → k ≤ 3 → (trainTimeout q b).fld F.LANE_CTRL_POWER (256 + 4 * q + k) = 3 := by
  have hsh := b.failShown_within (b.untrained_sub q)
  rw [trainTimeout_fails h3 h0, Block.trainFail, if_neg (by omega), if_pos hr]
  obtain ⟨hs, -, -, ho⟩ := Block.lane0Only_fields hq (hsh.portFit hq hf) (st := 10) (by decide)
  exact ⟨congrArg Bring.state (Block.port_updPort_same _ q _), hs, ho⟩

end
end

/-! ### The statement -/

theorem State.portFit_of_laneFit {s : State} {q : Nat} (h : ∀ k, k < 4 → s.laneFit (256 + 4 * q + k)) : s.quiet.portFit q := fun l hl => by
  obtain ⟨k, hk, rfl⟩ := mem_portLanes.mp hl
  exact (h k hk).2

/-- A port's peer that is DOWN stays so while the port is not linked. -/
theorem Block.fabSettle_down {b : Block} {q : Nat} (hp : b.fld F.FAB_PORT_STATUS_PEER_STATE q = 0) (hl : b.portLinked q = false) : b.fabSettle q = b := by
  have hps : b.peerState q = 0 := hp
  simp [Block.fabSettle, hps, hl]

/-- Settles O14: a bring-up step is a step of `portAcquire`, `trainLanes` or `laneServe` on the port's lanes, of each of which a lemma says what it leaves;
the settlement of the peer after it (`fabSettle`) leaves the lanes. -/
theorem fabricPortsComeUp : Obligations.FabricPortsComeUp := by
  unfold Obligations.FabricPortsComeUp
  intro s q hs hq hfit
  have hf : s.quiet.portFit q := State.portFit_of_laneFit hfit
  have hle : ∀ k, k < 4 → 256 + 4 * q + k ≤ 344 := by omega
  have hmem : ∀ k, k < 4 → 256 + 4 * q + k ∈ portLanes q := fun k hk => mem_portLanes.mpr ⟨k, hk, rfl⟩
  refine ⟨fun h0 hn hi hsafe => ?_, fun h => ?_, fun h1 hp => ?_, fun h2 hh hc hr => ?_, fun k hk h3 h4 hr ho => ?_, fun k hk hr hp hl => ?_, fun h4 => ?_,
    fun h3 h0 hfl => ?_, fun h3 h0 hfl hr => ?_, fun h3 h0 hfl hr => ?_, fun h6 => ?_⟩
  · have he := effect_onPort q (fabPortEnable q) s.toBlock
    rw [fabPortEnable_acquires hf h0 hn hi hsafe] at he
    obtain ⟨hst, hpw, hrt, hcdr, hoth⟩ := Block.portAcquire_fields hq hf
    refine ⟨_, run_live _ hs, ?_, ?_, ?_, ?_, ?_, fun k hk1 hk3 => ?_⟩
    · exact (congrArg Bring.state (he.port q)).trans Block.portAcquire_port
    · exact (he.laneState (by omega)).trans hst
    · exact (he.fld rfl (by omega)).trans hpw
    · exact (he.fld rfl (by omega)).trans hrt
    · exact (he.fld rfl (by omega)).trans hcdr
    · exact (he.fld rfl (by omega)).trans (hoth k hk1 hk3)
  · have he := effect_onPort q (fabPortEnable q) s.toBlock
    rw [fabPortEnable_barred (b := s.quiet) h] at he
    exact ⟨_, run_live _ hs, he.port q, fun l hl => he.laneState hl⟩
  · have he := effect_onPort q (acquireTimeout q) s.toBlock
    obtain ⟨hst, hls, hcdr⟩ := acquireTimeout_restarts hq hf h1 hp
    exact ⟨_, run_live _ hs, (congrArg Bring.state (he.port q)).trans hst, (he.laneState (by omega)).trans hls, (he.fld rfl (by omega)).trans hcdr⟩
  · have he := effect_onPort q (rateSwitch q) s.toBlock
    obtain ⟨hst, hfl, ht⟩ := rateSwitch_trains hq hf h2 hh hc
    refine ⟨_, run_live _ hs, (congrArg Bring.state (he.port q)).trans hst, (congrArg Bring.fails (he.port q)).trans hfl, fun k hk => ?_⟩
    obtain ⟨hls, hrn, hmn⟩ := ht _ (hmem k hk)
    have hrate : (s.port q).rate % 16 = (s.port q).rate := Nat.mod_eq_of_lt (by omega)
    exact ⟨(he.laneState (hle k hk)).trans hls, ((he.fld rfl (hle k hk)).trans hrn).trans hrate, (he.fld rfl (hle k hk)).trans hmn⟩
  · have he := effect_atLane (hfit k hk).1 (laneTrained (256 + 4 * q + k))
    obtain ⟨hst, hls⟩ := laneTrained_last hq hf hk h3 h4 hr ho
    exact ⟨_, run_live _ hs, (congrArg Bring.state (he.port q)).trans hst, fun j hj => (he.laneState (hle j hj)).trans (hls _ (hmem j hj))⟩
  · refine ⟨_, run_live _ hs, onlyRegs_effect_self ?_⟩
    rw [atLane, if_pos (show s.quiet.laneHas (256 + 4 * q + k) = true from (hfit k hk).1), onLane, laneClass_portLane hq hk]
    dsimp only
    rw [laneTrained_unready (b := s.quiet) hr, show lanePort (256 + 4 * q + k) = q from lanePort_portLane hk, Block.fabSettle_down (b := s.quiet) hp hl]
  · have he := effect_onPort q (verifyEnd q 0) s.toBlock
    obtain ⟨hst, hls⟩ := verifyEnd_clean hq hf h4
    refine ⟨_, run_live _ hs, (congrArg Bring.state (he.port q)).trans hst, fun k hk => ?_⟩
    obtain ⟨h6, hd⟩ := hls _ (hmem k hk)
    exact ⟨(he.laneState (hle k hk)).trans h6, (he.fld rfl (hle k hk)).trans hd⟩
  · have he := effect_onPort q (trainTimeout q) s.toBlock
    obtain ⟨hst, h1, hr, hfail, hls⟩ := trainTimeout_first hq hf h3 h0 hfl
    exact ⟨_, run_live _ hs, (congrArg Bring.state (he.port q)).trans hst, (congrArg Bring.fails (he.port q)).trans h1,
      (congrArg Bring.rate (he.port q)).trans hr, (he.fld rfl (by omega)).trans hfail, (he.laneState (by omega)).trans hls⟩
  · have he := effect_onPort q (trainTimeout q) s.toBlock
    obtain ⟨hst, h1, h2⟩ := trainTimeout_second hq hf h3 h0 hfl hr
    exact ⟨_, run_live _ hs, (congrArg Bring.state (he.port q)).trans hst, (congrArg Bring.fails (he.port q)).trans h1,
      (congrArg Bring.rate (he.port q)).trans h2⟩
  · have he := effect_onPort q (trainTimeout q) s.toBlock
    obtain ⟨hst, hls, ho⟩ := trainTimeout_last hq hf h3 h0 hfl hr
    exact ⟨_, run_live _ hs, (congrArg Bring.state (he.port q)).trans hst, (he.laneState (by omega)).trans hls,
      fun k hk1 hk3 => (he.fld rfl (by omega)).trans (ho k hk1 hk3)⟩
  · have he := effect_onPort q (singleRetry q) s.toBlock
    rw [singleRetry_acquires (b := s.quiet) h6] at he
    exact ⟨_, run_live _ hs, (congrArg Bring.state (he.port q)).trans Block.portAcquire_port, (he.laneState (by omega)).trans (Block.portAcquire_fields hq hf).1⟩

end Sys2Proof.Machine
end

section
/-!
Faults recorded for a lane, and what a loss on it does (R155 to R159).
-/
namespace Sys2Proof.Machine
set_option Elab.async false

/-! ### Faults recorded for the lanes' block (R680) -/

@[simp] theorem Block.fault_lane (b : Block) (blk code inst : Nat) (lasting injected : Bool) (j : Nat) :
    (b.fault blk code inst lasting injected).lane j = b.lane j := by
  have ht : ∀ i, (b.faultTaken blk code inst i injected).lane j = b.lane j := fun i => by
    unfold Block.faultTaken
    extract_lets marked flt dropped
    split <;> rfl
  cases lasting with
  | true => exact ht true
  | false => exact ht false

/-- A fault of the lanes' block leaves every lane's row. -/
theorem Block.fault_fld_lane (b : Block) (code inst : Nat) (lasting injected : Bool) {f : Field} (hf : f.ofLane = true) (l : Nat) :
    (b.fault 4 code inst lasting injected).fld f l = b.fld f l := by
  have hk := Field.key_row hf l
  unfold rowOf at hk
  refine (b.fault_kept 4 code inst lasting injected).1.fld ?_
  simp [faultKeys]
  omega

/-! ### A loss on a lane (R155, R156, R158) -/

/-- A loss of signal (0) or of lock (1) shown. -/
def Block.lossShown (b : Block) (l kind : Nat) : Block :=
  (if kind = 0 then (b.set F.LANE_HIST_LOS l).clr F.LANE_STATUS_SIG_DET l else b.set F.LANE_HIST_LOL l).clr F.LANE_STATUS_CDR_LOCK l

/-- The record of a loss. -/
def lossField (kind : Nat) : Field := if kind = 0 then F.LANE_HIST_LOS else F.LANE_HIST_LOL

@[simp] def lossFields : List Field := [F.LANE_HIST_LOS, F.LANE_HIST_LOL, F.LANE_STATUS_SIG_DET, F.LANE_STATUS_CDR_LOCK]

section
variable (b : Block) (l kind : Nat)

theorem Block.lossShown_changes : b.changes l lossFields (b.lossShown l kind) := by
  unfold Block.lossShown
  split
  · exact (((Block.changes.refl _ _ _).setFld (by simp) _).setFld (by simp) _).setFld (by simp) _
  · exact ((Block.changes.refl _ _ _).setFld (by simp) _).setFld (by simp) _

@[simp] theorem Block.lossShown_lane (j : Nat) : (b.lossShown l kind).lane j = b.lane j := by
  unfold Block.lossShown
  split <;> rfl

theorem Block.lossShown_fields : (b.lossShown l kind).fld (lossField kind) l = 1 ∧ (b.lossShown l kind).fld F.LANE_STATUS_CDR_LOCK l = 0 ∧
    (kind = 0 → (b.lossShown l kind).fld F.LANE_STATUS_SIG_DET l = 0) := by
  unfold Block.lossShown lossField
  split <;> rename_i h <;> simp [h]

variable {b l kind}

/-- In service an Ethernet or management lane retrains at a loss, or acquires (R156, R308). -/
theorem laneCondition_serving (hc : laneClass l = .ethernet ∨ laneClass l = .management) (hk : kind < 2) (h6 : b.laneState l = 6)
    (hp : b.fld F.LANE_CTRL_POWER l = 0) (hh : b.laneHeld l = false) : laneCondition l kind b =
      if b.on F.LANE_CTRL_AUTO_RETRAIN l then (b.lossShown l kind).retrain l true else (b.lossShown l kind).setLane l 3 := by
  have hl := b.lossShown_changes l kind
  have hs : (b.lossShown l kind).laneState l = 6 := (hl.laneState (by simp)).trans h6
  have hpw : (b.lossShown l kind).fld F.LANE_CTRL_POWER l = 0 := (hl.fld (by simp)).trans hp
  have ha : (b.lossShown l kind).on F.LANE_CTRL_AUTO_RETRAIN l = b.on F.LANE_CTRL_AUTO_RETRAIN l := congrArg (· == 1) (hl.fld (by simp))
  have hhd : (b.lossShown l kind).laneHeld l = false := by
    rw [← hh]
    unfold Block.laneHeld Block.on
    rw [hl.fld (by simp), hl.fld (by simp), hl.fld (by simp)]
  have he : laneCondition l kind b = if (b.lossShown l kind).on F.LANE_CTRL_AUTO_RETRAIN l && !(b.lossShown l kind).laneHeld l then
      (b.lossShown l kind).retrain l true else (b.lossShown l kind).setLane l 3 := by
    have hk2 : kind = 0 ∨ kind = 1 := by omega
    unfold laneCondition
    rcases hk2 with rfl | rfl
    all_goals
      rcases hc with hc | hc
      all_goals
        simp only [hc]
        rw [if_neg (by simp)]
        exact if_pos ⟨.inl hs, hpw⟩
  rw [he, ha, hhd, Bool.not_false, Bool.and_true]

/-- A media receive lane's loss is recorded, and the lane is out of lock. -/
def Block.lossKept (l kind losses : Nat) (c : Block) : Prop :=
  c.fld (lossField kind) l = 1 ∧ c.fld F.LANE_STATUS_CDR_LOCK l = 0 ∧ (c.lane l).losses = losses

theorem lossField_ofLane (kind : Nat) : (lossField kind).ofLane = true := by
  unfold lossField
  split <;> rfl

/-- The record of a loss is no field that power, rate, state or an eye's end writes. -/
theorem lossField_ne (kind l : Nat) : ∀ g ∈ eyeFields ++ powerFields ++ laneRateFields, (lossField kind).key l ≠ g.key l := by
  unfold lossField
  split <;> simp

theorem Block.changes.lossKept {c d : Block} {j n : Nat} {fs : List Field} (hc : c.changes j fs d) (hfs : fs ⊆ eyeFields ++ powerFields ++ laneRateFields)
    (hu : j = l → c.fld F.LANE_STATUS_CDR_LOCK l = 0 → d.fld F.LANE_STATUS_CDR_LOCK l = 0) (hn : j = l → (d.lane l).losses = (c.lane l).losses)
    (h : c.lossKept l kind n) : d.lossKept l kind n := by
  obtain ⟨hr, hcdr, hls⟩ := h
  by_cases hj : l = j
  · subst hj
    exact ⟨(hc.fld fun g hg => lossField_ne kind l g (hfs hg)).trans hr, hu rfl hcdr, (hn rfl).trans hls⟩
  · have hw : c.within [j] d := hc.within (fun f hf => (by decide : ∀ f ∈ eyeFields ++ powerFields ++ laneRateFields, f.ofLane = true) f (hfs hf)) (by simp)
    exact ⟨(hw.fld (lossField_ofLane kind) (by simpa using hj)).trans hr, (hw.fld rfl (by simpa using hj)).trans hcdr,
      (congrArg LaneSt.losses (hc.lanes l hj)).trans hls⟩

theorem Block.lossKept_lanePower {c : Block} {j p n : Nat} (hp : p ≠ 1) (h : c.lossKept l kind n) : (c.lanePower j p).lossKept l kind n := by
  refine (c.lanePower_changes j p).lossKept (by simp) (fun hj _ => ?_) (fun hj => ?_) h
  · rw [← hj]
    exact Block.lanePower_unlocks hp
  · subst hj
    obtain ⟨e, u, hl | hl⟩ := c.lanePower_lane j p <;> rw [hl] <;> rfl

theorem Block.lossKept_laneRate {c : Block} {j r n : Nat} (hl : l < 128) (h : c.lossKept l kind n) : (c.laneRate j r).lossKept l kind n := by
  refine (c.laneRate_changes j r).lossKept (by simp) (fun hj _ => ?_) (fun hj => ?_) h
  · subst hj
    exact (c.laneRate_fields j r).2 (by simp [laneClass_rx hl])
  · subst hj
    rw [Block.laneRate_lane]
    rfl

/-- A media receive lane whose loss is shown counts it, hunts from code 8 and is out of service. -/
def Block.mediaLoss (b : Block) (l : Nat) : Block :=
  let b := b.updLane l fun s => { s with losses := s.losses + 1 }
  let b := b.ite (b.fld F.LANE_CTRL_RATE l == 15) fun b => (b.eyeAbort l).setRateNow l 8
  b.ite (b.laneState l == 6) fun b => b.setLane l 3

theorem laneCondition_media_eq (hl : l < 128) (hk : kind < 2) : laneCondition l kind b = ((b.lossShown l kind).mediaLoss l).rxLaneLost l := by
  have hk2 : kind = 0 ∨ kind = 1 := by omega
  unfold laneCondition
  rcases hk2 with rfl | rfl
  all_goals
    simp only [laneClass_rx hl]
    exact if_neg (by simp)

theorem Block.mediaLoss_lossKept : ((b.lossShown l kind).mediaLoss l).lossKept l kind ((b.lane l).losses + 1) := by
  obtain ⟨hr, hcdr, -⟩ := b.lossShown_fields l kind
  unfold Block.mediaLoss
  extract_lets counted hunting
  have hc : counted.lossKept l kind ((b.lane l).losses + 1) := ⟨hr, hcdr, by simp [counted]⟩
  clear_value counted
  have h8 : counted.changes l (eyeFields ++ rateNowFields) ((counted.eyeAbort l).setRateNow l 8) :=
    ((counted.eyeAbort_changes l).mono (by simp)).andThen (Block.setRateNow_changes _ _ _) (by simp)
  have hh : hunting.lossKept l kind ((b.lane l).losses + 1) := Block.ite_cases (P := fun c => c.lossKept l kind ((b.lane l).losses + 1)) _ hc
    (h8.lossKept (by simp) (fun _ hu => (h8.fld (by simp)).trans hu) (fun _ => by simp) hc)
  exact Block.ite_cases (P := fun c => c.lossKept l kind ((b.lane l).losses + 1)) _ hh
    ((hunting.setLane_changes l 3).lossKept (by simp) (fun _ hu => ((hunting.setLane_changes l 3).fld (by simp)).trans hu) (fun _ => by simp) hh)

/-- A media receive lane counts the loss and tells its receiver (R158, R195). -/
theorem laneCondition_media (hl : l < 128) (hk : kind < 2) : (laneCondition l kind b).lossKept l kind ((b.lane l).losses + 1) := by
  rw [laneCondition_media_eq hl hk]
  refine Block.rxLaneLost_induction (P := fun c => c.lossKept l kind ((b.lane l).losses + 1)) (fun c d hd ⟨hr, hcdr, hls⟩ => ?_)
    (fun c j p hp h => Block.lossKept_lanePower hp h) (fun c j r h => Block.lossKept_laneRate hl h) Block.mediaLoss_lossKept l
  exact ⟨(hd.fld (lossField_ofLane kind) (by omega)).trans hr, (hd.fld rfl (by omega)).trans hcdr, (congrArg LaneSt.losses (hd.lane l)).trans hls⟩

end

end Sys2Proof.Machine
end

section
/-!
Retrains, power and loopback of a lane, and the statement of O12.
-/
namespace Sys2Proof.Machine
set_option Elab.async false

/-! ### The lanes with an Ethernet port -/

section
variable {l : Nat}

theorem laneClass_served (h : (324 ≤ l ∧ l < 332) ∨ l = 344) : laneClass l = .ethernet ∨ laneClass l = .management :=
  h.imp (fun ⟨h, h'⟩ => laneClass_ethernet h h') fun h => (congrArg laneClass h).trans laneClass_management

theorem laneClass_served_ne (hc : laneClass l = .ethernet ∨ laneClass l = .management) : laneClass l ≠ .pcie ∧ laneClass l ≠ .mediaRx := by
  rcases hc with hc | hc <;> simp [hc]

theorem onLane_settles (hc : laneClass l = .ethernet ∨ laneClass l = .management) (f : Block → Block) (b : Block) : onLane l f b = (f b).ethSettle l := by
  unfold onLane
  rcases hc with hc | hc <;> rw [hc]

/-- The link of a lane that is out of service is down (R224). -/
theorem Block.ethSettle_down {b : Block} (h : b.laneState l ≠ 6) : (b.ethSettle l).on F.ETH_STATUS_LINK_UP (if l = 344 then 8 else l - 324) = false := by
  have hn : (b.laneState l != 6) = true := by simp [h]
  unfold Block.ethSettle ethLinkChange
  simp only [hn, Block.ite_true, Bool.false_eq_true, if_false]
  generalize (if l = 344 then 8 else l - 324) = e
  split
  · simp [Block.on]
  · rename_i hw
    exact Bool.eq_false_iff.mpr hw

/-- What an Ethernet or management lane in service shows of a loss (R156, R308). -/
theorem laneCondition_loses {b : Block} {kind : Nat} (hc : laneClass l = .ethernet ∨ laneClass l = .management) (hk : kind < 2) (hl : l ≤ 344)
    (hb : b.laneBist l = false) (h6 : b.laneState l = 6) (hp : b.fld F.LANE_CTRL_POWER l = 0) (hh : b.laneHeld l = false) :
    (laneCondition l kind b).fld (lossField kind) l = 1 ∧ (laneCondition l kind b).fld F.LANE_STATUS_CDR_LOCK l = 0 ∧
      (kind = 0 → (laneCondition l kind b).fld F.LANE_STATUS_SIG_DET l = 0) ∧
      (laneCondition l kind b).laneState l = (if b.on F.LANE_CTRL_AUTO_RETRAIN l then 7 else 3) ∧
      (b.on F.LANE_CTRL_AUTO_RETRAIN l = true → ((laneCondition l kind b).lane l).faulted = true) ∧
      b.changes l (lossFields ++ eyeFields ++ stateFields ++ tapsFields) (laneCondition l kind b) := by
  have hs := b.lossShown_changes l kind
  have hb' : (b.lossShown l kind).laneBist l = false := (hs.laneBist hl (by decide) l).trans hb
  obtain ⟨hr, hcdr, hsig⟩ := b.lossShown_fields l kind
  rw [laneCondition_serving hc hk h6 hp hh]
  split
  · have hc := (b.lossShown l kind).retrain_changes l true
    have hne : ∀ g ∈ eyeFields ++ stateFields ++ tapsFields, (lossField kind).key l ≠ g.key l := by
      unfold lossField
      split <;> simp
    refine ⟨(hc.fld hne).trans hr, (hc.fld (by simp)).trans hcdr, fun h => (hc.fld (by simp)).trans (hsig h), Block.retrain_laneState hl hb' true, fun _ => ?_,
      (hs.mono (by simp)).andThen hc (by simp)⟩
    rw [Block.retrain_lane]
    rfl
  · rename_i ha
    have hc := (b.lossShown l kind).setLane_changes l 3
    have hne : ∀ g ∈ stateFields, (lossField kind).key l ≠ g.key l := by
      unfold lossField
      split <;> simp
    exact ⟨(hc.fld hne).trans hr, (hc.fld (by simp)).trans hcdr, fun h => (hc.fld (by simp)).trans (hsig h), Block.setLane_laneState _ _ _ hb',
      fun h => absurd h ha, (hs.mono (by simp)).andThen hc (by simp)⟩

/-- A condition that the lane's class does not detect is nothing to it (R155). -/
theorem laneCondition_unseen {b : Block} {kind : Nat}
    (h : (l < 128 ∧ kind = 2 ∧ b.on F.LANE_STATUS_PAM4 l = false) ∨ (128 ≤ l ∧ l < 256 ∧ kind ≠ 1)) : laneCondition l kind b = b := by
  unfold laneCondition
  rcases h with ⟨hl, rfl, hp⟩ | ⟨hl, hl', hk⟩
  · simp only [laneClass_rx hl]
    exact if_pos (by simp [hp])
  · simp only [laneClass_tx hl hl']
    exact if_pos (by simp [hk])

/-! ### Retrains (R156, R157, R159) -/

/-- A counter saturates (R198). -/
theorem Block.fld_bump_same (b : Block) (f : Field) (n k : Nat) : (b.bump f n k).fld f n = min (b.fld f n + k) (2 ^ f.width - 1) := by
  have := Nat.two_pow_pos f.width
  rw [Block.bump, Block.fld_setFld_same, Nat.mod_eq_of_lt (by omega)]

theorem laneRetrains_not (h : l < 256 ∨ (332 ≤ l ∧ l < 344)) : laneRetrains l = false := by
  unfold laneRetrains
  rcases h with h | ⟨h, h'⟩
  · rcases Nat.lt_or_ge l 128 with h' | h'
    · rw [laneClass_rx h']
    · rw [laneClass_tx h' h]
  · rw [laneClass_pcie h h']

theorem retrainWrite_starts {b : Block} {v : Nat} (hv : v / 128 % 2 = 1) (hr : laneRetrains l = true) (hp : b.fld F.LANE_CTRL_POWER l = 0)
    (ht : b.laneTesting l = false) (h6 : 6 ≤ b.laneState l) (h9 : b.laneState l ≠ 9) : retrainWrite l v b = b.retrain l false :=
  if_pos ⟨hv, hr, hp, ⟨h6, h9⟩, by simp [ht]⟩

theorem retrainWrite_idle (h : laneRetrains l = false) (v : Nat) (b : Block) : retrainWrite l v b = b :=
  if_neg fun ⟨_, hr, _⟩ => Bool.false_ne_true (h.symm.trans hr)

/-- A lane that a retrain has returned to service, before a fault that it answered is counted. -/
def Block.retrained (b : Block) (l : Nat) : Block :=
  (((b.updLane l fun s => { s with faulted := false }).laneServe l).set F.LANE_HIST_RETRAIN_OK l).updLane l fun s => { s with trained := true }

section
variable (b : Block) (l : Nat)

theorem Block.retrained_changes : b.changes l (F.LANE_HIST_RETRAIN_OK :: serveFields) (b.retrained l) :=
  ((((Block.changes.refl _ _ _).updLane _).andThen (Block.laneServe_changes _ _) (by simp)).setFld (by simp) _).updLane _

theorem Block.retrained_fields {b : Block} (hb : b.laneBist l = false) (hs : b.laneSingle l = false) :
    (b.retrained l).laneState l = 6 ∧ (b.retrained l).fld F.LANE_HIST_RETRAIN_OK l = 1 ∧ (b.retrained l).fld F.LANE_STATUS_CDR_LOCK l = 1 ∧
      ((b.retrained l).lane l).trained = true := by
  obtain ⟨h6, hc⟩ := (b.updLane l fun s => { s with faulted := false }).laneServe_fields l hb hs
  have hk : ∀ f n, (b.retrained l).fld f n = (((b.updLane l fun s => { s with faulted := false }).laneServe l).set F.LANE_HIST_RETRAIN_OK l).fld f n := fun _ _ => rfl
  refine ⟨(hk _ _).trans ?_, (hk _ _).trans (Block.fld_set_same _ _ _), (hk _ _).trans ?_, by simp [Block.retrained]⟩
  · exact (Block.fld_set_ne _ (by simp)).trans h6
  · exact (Block.fld_set_ne _ (by simp)).trans hc

theorem retrainEnd_ok {b : Block} {l : Nat} (h7 : b.laneState l = 7) : retrainEnd l true b =
    (b.retrained l).ite ((b.lane l).faulted && !b.laneHeld l) fun b => (b.bump F.LANE_FAULT_CNT_TRANSIENT l 1).fault 0x04 0x01 l false false := if_pos h7

/-- A fault answered by a retrain is counted as transient (R156). -/
theorem retrainEnd_returns {b : Block} {l : Nat} (h7 : b.laneState l = 7) (hb : b.laneBist l = false) (hs : b.laneSingle l = false) :
    (retrainEnd l true b).laneState l = 6 ∧ (retrainEnd l true b).fld F.LANE_HIST_RETRAIN_OK l = 1 ∧ (retrainEnd l true b).fld F.LANE_STATUS_CDR_LOCK l = 1 ∧
      ((retrainEnd l true b).lane l).trained = true ∧ (retrainEnd l true b).fld F.LANE_FAULT_CNT_TRANSIENT l =
        if (b.lane l).faulted ∧ b.laneHeld l = false then min (b.fld F.LANE_FAULT_CNT_TRANSIENT l + 1) 65535 else b.fld F.LANE_FAULT_CNT_TRANSIENT l := by
  obtain ⟨h6, hok, hc, ht⟩ := Block.retrained_fields l hb hs
  have hn : (b.retrained l).fld F.LANE_FAULT_CNT_TRANSIENT l = b.fld F.LANE_FAULT_CNT_TRANSIENT l := (b.retrained_changes l).fld (by simp)
  rw [retrainEnd_ok h7]
  cases hf : (b.lane l).faulted && !b.laneHeld l with
  | true =>
    have hx : ∀ f : Field, f.ofLane = true → (((b.retrained l).bump F.LANE_FAULT_CNT_TRANSIENT l 1).fault 0x04 0x01 l false false).fld f l =
      ((b.retrained l).bump F.LANE_FAULT_CNT_TRANSIENT l 1).fld f l := fun f hf => Block.fault_fld_lane _ _ _ _ _ hf l
    rw [Bool.and_eq_true, Bool.not_eq_true'] at hf
    rw [Block.ite_true, if_pos hf]
    refine ⟨?_, ?_, ?_, ?_, ?_⟩
    · exact (hx _ rfl).trans ((Block.fld_bump_ne _ (by simp) _).trans h6)
    · exact (hx _ rfl).trans ((Block.fld_bump_ne _ (by simp) _).trans hok)
    · exact (hx _ rfl).trans ((Block.fld_bump_ne _ (by simp) _).trans hc)
    · rw [Block.fault_lane]
      exact ht
    · rw [hx _ rfl, ← hn]
      exact Block.fld_bump_same _ _ _ _
  | false =>
    rw [Block.ite_false, if_neg (by simpa using hf)]
    exact ⟨h6, hok, hc, ht, hn⟩

/-- The device with the failure of a retrain shown on the lane, before its fault is recorded. -/
def Block.laneFailed (b : Block) (l : Nat) : Block :=
  let b := ((b.set F.LANE_HIST_RETRAIN_FAIL l).set F.LANE_HIST_LASTING_SET l).set F.LANE_STATUS_LASTING l
  let b := b.updLane l fun s => { s with retrying := true }
  (b.bump F.LANE_FAULT_CNT_LASTING_CNT l 1).setLane l 8

theorem Block.laneFailed_fields (b : Block) (l : Nat) : (b.laneFailed l).laneState l = 8 ∧ (b.laneFailed l).fld F.LANE_HIST_RETRAIN_FAIL l = 1 ∧
    (b.laneFailed l).fld F.LANE_STATUS_LASTING l = 1 ∧ ((b.laneFailed l).lane l).retrying = true := by
  unfold Block.laneFailed
  extract_lets shown retrying
  have hc : shown.changes l [F.LANE_FAULT_CNT_LASTING_CNT] (retrying.bump F.LANE_FAULT_CNT_LASTING_CNT l 1) :=
    ((Block.changes.refl _ _ _).updLane _).setFld (by simp) _
  have hs := (retrying.bump F.LANE_FAULT_CNT_LASTING_CNT l 1).setLane_changes l 8
  refine ⟨Block.setLane_failed _ _, ?_, ?_, by simp [retrying]⟩
  · rw [hs.fld (by simp), hc.fld (by simp)]
    simp [shown]
  · rw [hs.fld (by simp), hc.fld (by simp)]
    simp [shown]

/-- A retrain that fails is a lasting fault, and leaves the lane FAILED and retrying (R156, R157). -/
theorem retrainEnd_fails {b : Block} {l : Nat} (h7 : b.laneState l = 7) (hh : b.laneHeld l = false) :
    (retrainEnd l false b).laneState l = 8 ∧ (retrainEnd l false b).fld F.LANE_HIST_RETRAIN_FAIL l = 1 ∧ (retrainEnd l false b).fld F.LANE_STATUS_LASTING l = 1 ∧
      (retrainEnd l false b).fld F.BLK_FAULT_FAULT_LASTING 4 = 1 ∧ ((retrainEnd l false b).lane l).retrying = true := by
  have he : retrainEnd l false b = ((b.updLane l fun s => { s with faulted := false }).laneFailed l).fault 0x04 0x01 l true false :=
    (if_pos h7).trans (if_neg (Bool.eq_false_iff.mp hh))
  obtain ⟨hs, hf, hla, hr⟩ := (b.updLane l fun s => { s with faulted := false }).laneFailed_fields l
  rw [he]
  exact ⟨(Block.fault_fld_lane _ _ _ _ _ rfl l).trans hs, (Block.fault_fld_lane _ _ _ _ _ rfl l).trans hf, (Block.fault_fld_lane _ _ _ _ _ rfl l).trans hla,
    Block.fault_shows _ _ _ _ _, (congrArg LaneSt.retrying (Block.fault_lane _ _ _ _ _ _ _)).trans hr⟩

/-- In loopback or test it is no fault (R159). -/
theorem retrainEnd_held {b : Block} {l : Nat} (hl : l ≤ 344) (hb : b.laneBist l = false) (h7 : b.laneState l = 7) (hh : b.laneHeld l = true) :
    (retrainEnd l false b).laneState l = 3 ∧ (retrainEnd l false b).fld F.LANE_HIST_RETRAIN_FAIL l = 1 ∧
      (retrainEnd l false b).fld F.LANE_STATUS_LASTING l = b.fld F.LANE_STATUS_LASTING l ∧
      (retrainEnd l false b).fld F.BLK_FAULT_FAULT_LASTING 4 = b.fld F.BLK_FAULT_FAULT_LASTING 4 := by
  have he : retrainEnd l false b = ((b.updLane l fun s => { s with faulted := false }).set F.LANE_HIST_RETRAIN_FAIL l).setLane l 3 :=
    (if_pos h7).trans (if_pos hh)
  rw [he]
  have hc : b.changes l [F.LANE_HIST_RETRAIN_FAIL] ((b.updLane l fun s => { s with faulted := false }).set F.LANE_HIST_RETRAIN_FAIL l) :=
    ((Block.changes.refl _ _ _).updLane _).setFld (by simp) _
  have hs := ((b.updLane l fun s => { s with faulted := false }).set F.LANE_HIST_RETRAIN_FAIL l).setLane_changes l 3
  refine ⟨Block.setLane_laneState _ _ _ ((hc.laneBist hl (by decide) l).trans hb), (hs.fld (by simp)).trans (Block.fld_set_same _ _ _), (hs.fld (by simp)).trans (hc.fld (by simp)),
    (hs.fld ?_).trans (hc.fld ?_)⟩
  · simp
    omega
  · simp
    omega

/-- A retry that succeeds returns the lane to service with `LASTING` kept (R157). -/
theorem lastingRetry_returns {b : Block} {l : Nat} (hb : b.laneBist l = false) (h8 : b.laneState l = 8) (hr : (b.lane l).retrying = true)
    (hs : b.laneSingle l = false) : (lastingRetry l true b).laneState l = 6 ∧
      (lastingRetry l true b).fld F.LANE_STATUS_LASTING l = b.fld F.LANE_STATUS_LASTING l ∧ ((lastingRetry l true b).lane l).retrying = false := by
  have he : lastingRetry l true b = (b.laneServe l).updLane l fun s => { s with retrying := false } := if_pos ⟨h8, hr, rfl⟩
  rw [he]
  exact ⟨(b.laneServe_fields l hb hs).1, (b.laneServe_changes l).fld (by simp), by simp⟩

theorem lastingRetry_waits (l : Nat) (b : Block) : lastingRetry l false b = b := if_neg fun ⟨_, _, h⟩ => Bool.false_ne_true h

end

/-! ### Hunting and locking (R141) -/

theorem Block.laneHas_lt (b : Block) (h : l < 324) : b.laneHas l = true := by
  simp [Block.laneHas, h, show l ≤ 344 by omega]

/-- A hunting lane steps to the rate below, or back to code 8 (R141). -/
theorem huntDwellEnd_steps {b : Block} (hl : l < 128) (hr : b.fld F.LANE_CTRL_RATE l = 15) (hp : b.fld F.LANE_CTRL_POWER l = 0)
    (hc : b.on F.LANE_STATUS_CDR_LOCK l = false) : b.changes l (rateNowFields ++ eyeFields) (huntDwellEnd l b) ∧
      (huntDwellEnd l b).fld F.LANE_STATUS_RATE_NOW l =
        if b.fld F.LANE_STATUS_RATE_NOW l = 0 ∨ 8 < b.fld F.LANE_STATUS_RATE_NOW l then 8 else b.fld F.LANE_STATUS_RATE_NOW l - 1 := by
  have he : huntDwellEnd l b = (b.eyeAbort l).setRateNow l
      (if b.fld F.LANE_STATUS_RATE_NOW l = 0 ∨ 8 < b.fld F.LANE_STATUS_RATE_NOW l then 8 else b.fld F.LANE_STATUS_RATE_NOW l - 1) :=
    if_pos ⟨laneClass_rx hl, hr, hp, by simp [hc]⟩
  rw [he]
  refine ⟨((b.eyeAbort_changes l).mono (by simp)).andThen (Block.setRateNow_changes _ _ _) (by simp), (Block.setRateNow_rateNow _ _ _).trans (Nat.mod_eq_of_lt ?_)⟩
  split <;> omega

/-- A media receive lane that is locked. -/
def Block.rxLocked (b : Block) (l : Nat) : Block :=
  let b := (b.set F.LANE_STATUS_CDR_LOCK l).set F.LANE_STATUS_SIG_DET l
  b.ite (b.fld F.LANE_CTRL_RATE l != 15) fun b => b.setRateNow l (b.fld F.LANE_CTRL_RATE l)

theorem laneLockGained_media {b : Block} (hl : l < 128) (hp : b.fld F.LANE_CTRL_POWER l = 0) (hc : b.on F.LANE_STATUS_CDR_LOCK l = false) :
    laneLockGained l b = ((b.rxLocked l).ite (!(b.rxLocked l).laneTesting l) fun b => b.setLane l 6).farClock l := by
  unfold laneLockGained
  simp only [laneClass_rx hl]
  exact (if_neg (by simp)).trans (if_pos ⟨.inl hp, by simp [hc]⟩)

/-- The transmit lane's clock is none of the receive lane's row. -/
theorem Block.farClock_fld (b : Block) {f : Field} (hf : f.ofLane = true) : (b.farClock l).fld f l = b.fld f l :=
  Block.ite_cases (P := fun c => c.fld f l = b.fld f l) _ rfl ((b.setRateNow_changes (128 + l) _).fld_other (by omega) (by decide) hf)

theorem laneLockGained_serves {b : Block} (hl : l < 128) (hb : b.laneBist l = false) (hp : b.fld F.LANE_CTRL_POWER l = 0)
    (hc : b.on F.LANE_STATUS_CDR_LOCK l = false) (ht : b.laneTesting l = false) :
    (laneLockGained l b).laneState l = 6 ∧ (laneLockGained l b).fld F.LANE_STATUS_CDR_LOCK l = 1 ∧ (laneLockGained l b).fld F.LANE_STATUS_SIG_DET l = 1 ∧
      (laneLockGained l b).fld F.LANE_STATUS_RATE_NOW l =
        if b.fld F.LANE_CTRL_RATE l = 15 then b.fld F.LANE_STATUS_RATE_NOW l else b.fld F.LANE_CTRL_RATE l % 16 := by
  have hk : b.changes l ([F.LANE_STATUS_CDR_LOCK, F.LANE_STATUS_SIG_DET] ++ rateNowFields) (b.rxLocked l) := by
    unfold Block.rxLocked
    extract_lets locked
    have h : b.changes l ([F.LANE_STATUS_CDR_LOCK, F.LANE_STATUS_SIG_DET] ++ rateNowFields) locked :=
      ((Block.changes.refl _ _ _).setFld (by simp) _).setFld (by simp) _
    exact h.ite _ (h.andThen (locked.setRateNow_changes _ _) (by simp))
  have ht' : (b.rxLocked l).laneTesting l = false := by
    rw [← ht]
    unfold Block.laneTesting Block.on
    rw [hk.fld (by simp), hk.fld (by simp), hk.fld (by simp)]
  have hs := (b.rxLocked l).setLane_changes l 6
  rw [laneLockGained_media hl hp hc, ht', Bool.not_false, Block.ite_true]
  refine ⟨?_, ?_, ?_, ?_⟩
  · exact (Block.farClock_fld _ rfl).trans (Block.setLane_laneState _ _ _ ((hk.laneBist (by omega) (by decide) l).trans hb))
  · rw [Block.farClock_fld _ rfl, hs.fld (by simp)]
    simp [Block.rxLocked, Block.setRateNow, Block.fld_setFld_ne]
  · rw [Block.farClock_fld _ rfl, hs.fld (by simp)]
    simp [Block.rxLocked, Block.setRateNow, Block.fld_setFld_ne]
  · rw [Block.farClock_fld _ rfl, hs.fld (by simp)]
    unfold Block.rxLocked
    rw [Block.fld_ite, Block.setRateNow_rateNow]
    simp

end

end Sys2Proof.Machine
end

section
/-!
Power and loopback written to a lane.
-/
namespace Sys2Proof.Machine
set_option Elab.async false

/-- A field of the lanes' rows that an operation does not write is kept in every lane. -/
theorem Block.changes.fld_lanes {b c : Block} {l : Nat} {fs : List Field} (h : b.changes l fs c) {f : Field} (j : Nat)
    (hne : ∀ g ∈ fs, f.key j ≠ g.key j) (hfs : ∀ g ∈ fs, g.ofLane = true := by decide) (hf : f.ofLane = true := by rfl) : c.fld f j = b.fld f j := by
  by_cases hj : j = l
  · subst hj
    exact h.fld hne
  · exact h.fld_other hj hfs hf

section
variable {l : Nat}

/-! ### Power (R174 to R178) -/

theorem powerOf (v : Nat) : F.LANE_CTRL_POWER.of v = v % 4 := congrArg (· % 4) (Nat.div_one v)

/-- The lane with what runs on it ended, before its power moves (R174, R178). -/
def Block.powerEnds (b : Block) (l : Nat) : Block :=
  ((b.eyeAbort l).patStop l true true).updLane l fun s => { s with faulted := false, trained := false, readyRun := 0 }

theorem Block.powerEnds_changes (b : Block) (l : Nat) : b.changes l (eyeFields ++ patStopFields) (b.powerEnds l) :=
  (((b.eyeAbort_changes l).mono (by simp)).andThen (Block.patStop_changes _ _ _ _) (by simp)).updLane _

theorem Block.powerEnds_lane (b : Block) (l : Nat) : ((b.powerEnds l).lane l).trained = false ∧ ((b.powerEnds l).lane l).eye = false := by
  obtain ⟨e, u, h⟩ := (b.eyeAbort l).patStop_lane l true true
  simp [Block.powerEnds, h]

theorem lanePowerSet_off_eq {b : Block} {v : Nat} (hc : laneClass l = .ethernet ∨ laneClass l = .management) (hv : v % 4 = 3)
    (hp : b.fld F.LANE_CTRL_POWER l ≠ 3) : lanePowerSet l v b = (b.powerEnds l).lanePower l 3 := by
  have he : lanePowerSet l v b = b.lanePowerTo l 3 := by
    unfold lanePowerSet
    rw [powerOf, hv]
    rcases hc with hc | hc <;> simp [hc]
  rw [he]
  unfold Block.lanePowerTo
  rcases hc with hc | hc
  all_goals
    simp only [hc]
    exact if_neg hp

/-- An Ethernet or management lane that is turned off (R175). -/
theorem lanePowerSet_off {b : Block} {v : Nat} (hc : laneClass l = .ethernet ∨ laneClass l = .management) (hl : l ≤ 344) (hb : b.laneBist l = false)
    (hv : v % 4 = 3) (hp : b.fld F.LANE_CTRL_POWER l ≠ 3) :
    (lanePowerSet l v b).fld F.LANE_CTRL_POWER l = 3 ∧ (lanePowerSet l v b).laneState l = 0 ∧ (lanePowerSet l v b).fld F.LANE_STATUS_CDR_LOCK l = 0 ∧
      (lanePowerSet l v b).fld F.LANE_STATUS_SIG_DET l = 0 ∧ ((lanePowerSet l v b).lane l).trained = false ∧ ((lanePowerSet l v b).lane l).eye = false := by
  rw [lanePowerSet_off_eq hc hv hp]
  obtain ⟨hpw, hs, -, hcdr, hsig⟩ := Block.lanePower_fields (b := b.powerEnds l) (p := 3) hl (((b.powerEnds_changes l).laneBist hl (by decide) l).trans hb) (.inr rfl)
  obtain ⟨ht, he⟩ := b.powerEnds_lane l
  obtain ⟨e, u, hla | hla⟩ := (b.powerEnds l).lanePower_lane l 3
  · rw [hla]
    exact ⟨hpw, hs, hcdr (by decide), hsig rfl, ht, he⟩
  · rw [hla]
    exact ⟨hpw, hs, hcdr (by decide), hsig rfl, ht, rfl⟩

/-- The lanes that cannot enter P2 (R176). -/
theorem laneClass_noP2 (h : (324 ≤ l ∧ l < 332) ∨ l = 344 ∨ l < 256 ∨ (l < 324 ∧ l % 4 ≠ 0)) :
    laneClass l ≠ .pcie ∧ ¬(laneClass l = .fabric ∧ l % 4 = 0) := by
  unfold laneClass
  split_ifs <;> simp <;> omega

/-- Only lane 0 of a fabric port enters P2 (R176). -/
theorem lanePowerSet_rejects {v : Nat} (b : Block) (hc : laneClass l ≠ .pcie ∧ ¬(laneClass l = .fabric ∧ l % 4 = 0)) (hv : v % 4 = 2) :
    lanePowerSet l v b = b.reject 4 F.LANE_HIST_CFG_REJECTED l := by
  unfold lanePowerSet
  rw [powerOf, hv]
  exact (if_neg hc.1).trans (if_pos ⟨rfl, hc.2⟩)

/-- A discarded write of a lane's register (R704). -/
theorem Block.reject_lane_fields (b : Block) (l : Nat) : (b.reject 4 F.LANE_HIST_CFG_REJECTED l).fld F.LANE_HIST_CFG_REJECTED l = 1 ∧
    (b.reject 4 F.LANE_HIST_CFG_REJECTED l).fld F.LANE_CTRL_POWER l = b.fld F.LANE_CTRL_POWER l ∧
    (b.reject 4 F.LANE_HIST_CFG_REJECTED l).laneState l = b.laneState l := by
  have hk := fun (f : Field) (hf : f.key l ∉ [F.LANE_HIST_CFG_REJECTED.key l, F.BLK_REJECT_CNT_COUNT.key 4]) =>
    (b.reject_writes F.LANE_HIST_CFG_REJECTED l 4).1.fld hf
  refine ⟨?_, hk _ ?_, hk _ ?_⟩
  · rw [Block.reject, Block.fld_bump_ne]
    · exact Block.fld_set_same _ _ _
    · simp
      omega
  · simp
    omega
  · simp
    omega

theorem lanePowerSet_pcie (h : 332 ≤ l) (h' : l < 344) (v : Nat) (b : Block) : lanePowerSet l v b = b := if_pos (laneClass_pcie h h')

/-! ### Loopback (R161, R162, R164) -/

theorem loopbackOf (v : Nat) : F.LANE_CTRL_LB.of v = v / 256 % 4 := rfl

theorem loopbackSet_pcie (h : 332 ≤ l) (h' : l < 344) (v : Nat) (b : Block) : loopbackSet l v b = b := if_pos (laneClass_pcie h h')

/-- The lane with the second field of the written word stored. -/
def Block.lbTxStored (b : Block) (v l : Nat) : Block := b.storeWord [F.LANE_CTRL_LB_TX_ON] l v

theorem Block.lbTxStored_changes (b : Block) (v l : Nat) : b.changes l [F.LANE_CTRL_LB_TX_ON] (b.lbTxStored v l) := (Block.changes.refl _ _ _).storeWord (by simp) v

theorem Block.lbTxStored_fld (b : Block) (v l : Nat) : (b.lbTxStored v l).fld F.LANE_CTRL_LB_TX_ON l = v / 1024 % 2 := by
  rw [Block.lbTxStored, Block.fld_storeWord _ (by simp) rfl (by simp), Field.stored_of_any rfl]
  rfl

/-- A lane at near-end serial loopback has a test, while it is at P0. -/
def Block.looped (b : Block) (l : Nat) : Block :=
  ((b.eyeAbort l).setFld F.LANE_CTRL_LB l 1).ite (b.fld F.LANE_CTRL_POWER l == 0) fun b => (b.setLane l 9).updLane l LaneSt.calm

theorem Block.lbChanged_one (b : Block) (l : Nat) : b.lbChanged l 1 = (b.looped l).portLoses l := by
  have hlb : ((b.eyeAbort l).setFld F.LANE_CTRL_LB l 1).fld F.LANE_CTRL_LB l = 1 := Block.fld_setFld_same _ _ _ _
  have hpw : ((b.eyeAbort l).setFld F.LANE_CTRL_LB l 1).fld F.LANE_CTRL_POWER l = b.fld F.LANE_CTRL_POWER l :=
    (Block.fld_setFld_ne _ _ (by simp)).trans ((b.eyeAbort_changes l).fld (by simp))
  have hf : ((b.eyeAbort l).setFld F.LANE_CTRL_LB l 1).farClock l = (b.eyeAbort l).setFld F.LANE_CTRL_LB l 1 := by simp [Block.farClock, hlb]
  have ht : ((b.eyeAbort l).setFld F.LANE_CTRL_LB l 1).laneTesting l = true := by simp [Block.laneTesting, hlb]
  have hl : ((b.eyeAbort l).setFld F.LANE_CTRL_LB l 1).laneTestState l = b.looped l := by
    unfold Block.laneTestState Block.looped
    rw [hpw, ht]
    by_cases hp : b.fld F.LANE_CTRL_POWER l = 0
    · rw [hp]
      rfl
    · rw [if_pos hp, beq_eq_false_iff_ne.mpr hp]
      rfl
  unfold Block.lbChanged
  simp only [hf, hl]
  exact if_neg fun h => Nat.one_ne_zero h.1

theorem Block.looped_changes (b : Block) (l : Nat) : b.changes l (F.LANE_CTRL_LB :: (eyeFields ++ stateFields)) (b.looped l) := by
  have h : b.changes l (F.LANE_CTRL_LB :: (eyeFields ++ stateFields)) ((b.eyeAbort l).setFld F.LANE_CTRL_LB l 1) :=
    ((b.eyeAbort_changes l).mono (by simp)).setFld (by simp) _
  exact h.ite _ ((h.andThen (Block.setLane_changes _ _ _) (by simp)).updLane _)

theorem Block.looped_lb (b : Block) (l : Nat) : (b.looped l).fld F.LANE_CTRL_LB l = 1 := by
  have h : ((b.eyeAbort l).setFld F.LANE_CTRL_LB l 1).fld F.LANE_CTRL_LB l = 1 := Block.fld_setFld_same _ _ _ _
  exact Block.ite_cases (P := fun c => c.fld F.LANE_CTRL_LB l = 1) _ h (((Block.setLane_changes _ l 9).fld (by simp)).trans h)

theorem Block.looped_laneState {b : Block} (hl : l ≤ 344) (hb : b.laneBist l = false) (hp : b.fld F.LANE_CTRL_POWER l = 0) : (b.looped l).laneState l = 9 := by
  have h : b.changes l (F.LANE_CTRL_LB :: eyeFields) ((b.eyeAbort l).setFld F.LANE_CTRL_LB l 1) := ((b.eyeAbort_changes l).mono (by simp)).setFld (by simp) _
  unfold Block.looped
  rw [hp]
  exact Block.setLane_laneState _ l 9 ((h.laneBist hl (by decide) l).trans hb)

/-- A receiver that its lane no longer feeds leaves the loopback of every lane. -/
theorem Block.portLoses_lb (b : Block) (l : Nat) {j : Nat} (hj : j ≤ 344) (h : b.fld F.LANE_CTRL_LB j = 1) : (b.portLoses l).fld F.LANE_CTRL_LB j = 1 := by
  unfold Block.portLoses
  split
  · refine Block.rxLaneLost_induction (P := fun c => c.fld F.LANE_CTRL_LB j = 1) (fun c d hd hc => (hd.fld rfl hj).trans hc) (fun c i p _ hc => ?_) (fun c i r hc => ?_) h l
    · exact ((c.lanePower_changes i p).fld_lanes j (by simp)).trans hc
    · exact ((c.laneRate_changes i r).fld_lanes j (by simp)).trans hc
  · exact h

/-- A lane put into loopback is in it, and one that is in it stays. -/
theorem Block.lbChanged_one_lb (b : Block) (l : Nat) {j : Nat} (hj : j ≤ 344) (h : j = l ∨ b.fld F.LANE_CTRL_LB j = 1) :
    (b.lbChanged l 1).fld F.LANE_CTRL_LB j = 1 := by
  rw [Block.lbChanged_one]
  refine Block.portLoses_lb _ l hj ?_
  by_cases hjl : j = l
  · subst hjl
    exact b.looped_lb j
  · exact ((b.looped_changes l).fld_other hjl).trans (h.resolve_left hjl)

/-- A write that puts a lane without loopback into near-end serial loopback. -/
theorem loopbackSet_one {b : Block} {v : Nat} (hc : laneClass l ≠ .pcie) (h0 : b.fld F.LANE_CTRL_LB l = 0) (hv : v / 256 % 4 = 1) :
    loopbackSet l v b = (b.each (loopLanes l) fun b l => b.lbTxStored v l).each (loopLanes l).reverse fun b l => b.lbChanged l 1 := by
  unfold loopbackSet
  rw [if_neg hc, loopbackOf, hv, h0]
  rfl

/-- An Ethernet or management lane in loopback is in TEST (R162). -/
theorem loopbackSet_tests {b : Block} {v : Nat} (hc : laneClass l = .ethernet ∨ laneClass l = .management) (hl : 256 ≤ l) (hl' : l ≤ 344)
    (hb : b.laneBist l = false) (hp : b.fld F.LANE_CTRL_POWER l = 0) (h0 : b.fld F.LANE_CTRL_LB l = 0) (hv : v / 256 % 4 = 1) :
    (loopbackSet l v b).fld F.LANE_CTRL_LB l = 1 ∧ (loopbackSet l v b).laneState l = 9 ∧ (loopbackSet l v b).fld F.LANE_CTRL_LB_TX_ON l = v / 1024 % 2 := by
  have hcl := laneClass_served_ne hc
  have hls : loopLanes l = [l] := by simp [loopLanes, show ¬l < 128 by omega, show ¬l < 256 by omega]
  have hs := b.lbTxStored_changes v l
  have he : loopbackSet l v b = (b.lbTxStored v l).looped l := by
    rw [loopbackSet_one hcl.1 h0 hv, hls]
    exact ((b.lbTxStored v l).lbChanged_one l).trans (if_neg fun h => hcl.2 h.1)
  rw [he]
  refine ⟨Block.looped_lb _ _, Block.looped_laneState hl' ((hs.laneBist hl' (by decide) l).trans hb) ((hs.fld (by simp)).trans hp), ?_⟩
  exact ((Block.looped_changes _ l).fld (by simp)).trans (b.lbTxStored_fld v l)

/-- Both lanes of a media port act as one (R161). -/
theorem loopbackSet_media {b : Block} {v : Nat} (hl : l < 128) (h0 : b.fld F.LANE_CTRL_LB l = 0) (hv : v / 256 % 4 = 1) :
    (loopbackSet l v b).fld F.LANE_CTRL_LB l = 1 ∧ (loopbackSet l v b).fld F.LANE_CTRL_LB (128 + l) = 1 := by
  have he : loopbackSet l v b = (((b.lbTxStored v l).lbTxStored v (128 + l)).lbChanged (128 + l) 1).lbChanged l 1 := by
    rw [loopbackSet_one (by simp [laneClass_rx hl]) h0 hv, loopLanes, if_pos hl]
    rfl
  rw [he]
  exact ⟨Block.lbChanged_one_lb _ _ (by omega) (.inl rfl), Block.lbChanged_one_lb _ _ (by omega) (.inr (Block.lbChanged_one_lb _ _ (by omega) (.inl rfl)))⟩

end

end Sys2Proof.Machine
end

section
/-!
Faults, retrains and settings of a lane: O12.
-/
namespace Sys2Proof.Machine
set_option Elab.async false

/-- What an event on a lane with an Ethernet port shows, the settled port shows. -/
theorem effect_atLane_settled {l : Nat} {b : Block} (hh : b.laneHas l = true) (hc : laneClass l = .ethernet ∨ laneClass l = .management) (f : Block → Block)
    (g : Field) (n : Nat) : (b.effect (atLane l f)).on g n = ((f b.quiet).ethSettle l).on g n := by
  have he : atLane l f b.quiet = (f b.quiet).ethSettle l := (if_pos (show b.quiet.laneHas l = true from hh)).trans (onLane_settles hc f _)
  rw [← he]
  rfl

/-- An event that is nothing to the lane, on a lane that the device has or not. -/
theorem effect_atLane_idle {l : Nat} {b : Block} {f : Block → Block} (h : f b.quiet = b.quiet) : b.quiet.besides (b.effect (atLane l f)) := by
  refine Block.besides.of_same (c := atLane l f b.quiet) ?_
  unfold atLane
  split
  · have he := onLane_besides l f b.quiet
    rwa [h] at he
  · exact .refl _

/-- Settles O12: each command is an operation on its lane, of which a lemma above says what it leaves; the settlement of the lane's port after it
(`onLane_besides`) leaves the lanes. -/
theorem laneFaultsRetrainAndRecover : Obligations.LaneFaultsRetrainAndRecover := by
  unfold Obligations.LaneFaultsRetrainAndRecover
  intro s l hs hl
  refine ⟨fun kind hc hk hfit h6 hp hh => ?_, fun kind hrx hk => ?_, fun kind h => ?_, fun v hv hr hre hb hp ht h6 h9 => ?_, fun v hre hno => ?_,
    fun hfit h7 hsg => ?_, fun hfit h7 hh => ?_, fun hfit h7 hh => ?_, fun hfit h8 hr hsg => ?_, ?_, fun hrx hr hp hcdr => ?_, fun hrx hb hp hcdr ht => ?_,
    fun v hc hre hb hv hp => ?_, fun v hc hre hv => ?_, fun v hc hre hb hp h0 hv => ?_, fun v hrx hre h0 hv => ?_, fun v hre h h' => ?_⟩
  · obtain ⟨hhas, hb, hon⟩ := hfit
    have hcl := laneClass_served hc
    have he := effect_atLane hhas (laneCondition l kind)
    obtain ⟨hr, hcdr, hsig, hst, hf, hch⟩ := laneCondition_loses (b := s.quiet) hcl hk hl hb h6 hp hh
    refine ⟨_, run_live _ hs, (he.fld (lossField_ofLane kind) hl).trans hr, (he.fld rfl hl).trans hcdr, fun h => (he.fld rfl hl).trans (hsig h),
      (he.laneState hl).trans hst, fun h => (congrArg LaneSt.faulted (he.lane l)).trans (hf h), fun _ => ?_, fun j hj => ⟨(he.lane j).trans (hch.lanes j hj),
        fun hj' => (he.laneState hj').trans (hch.fld_other hj)⟩⟩
    refine (effect_atLane_settled hhas hcl _ _ _).trans (Block.ethSettle_down ?_)
    rw [hst]
    split <;> decide
  · have he := effect_atLane (b := s.toBlock) (s.toBlock.laneHas_lt (l := l) (by omega)) (laneCondition l kind)
    obtain ⟨hr, hcdr, hls⟩ := laneCondition_media (b := s.quiet) hrx hk
    exact ⟨_, run_live _ hs, (he.fld (lossField_ofLane kind) hl).trans hr, (he.fld rfl hl).trans hcdr, (congrArg LaneSt.losses (he.lane l)).trans hls⟩
  · refine ⟨_, run_live _ hs, onlyRegs_effect_self ?_⟩
    have hm : l < 256 := by omega
    rw [atLane, if_pos (s.quiet.laneHas_lt (by omega)), onLane_plain (.inl hm), laneCondition_unseen (b := s.quiet) h]
  · have he := effect_onLane l (retrainWrite l v.toNat) s.toBlock
    rw [retrainWrite_starts (b := s.quiet) hv hr hp ht h6 h9] at he
    have hla := he.lane l
    rw [Block.retrain_lane] at hla
    exact ⟨_, run_reaches hs hre false _, (he.laneState hl).trans (Block.retrain_laneState (b := s.quiet) hl hb false), congrArg LaneSt.faulted hla,
      congrArg LaneSt.trained hla⟩
  · refine ⟨_, run_reaches hs hre false _, onlyRegs_effect_self ?_⟩
    rw [onLane_plain hno, retrainWrite_idle (laneRetrains_not hno)]
  · obtain ⟨hhas, hb, hon⟩ := hfit
    have he := effect_atLane hhas (retrainEnd l true)
    obtain ⟨hst, hok, hcdr, ht, hcnt⟩ := retrainEnd_returns (b := s.quiet) h7 hb hsg
    exact ⟨_, run_live _ hs, (he.laneState hl).trans hst, (he.fld rfl hl).trans hok, (he.fld rfl hl).trans hcdr, (congrArg LaneSt.trained (he.lane l)).trans ht,
      (he.fld rfl hl).trans hcnt⟩
  · have he := effect_atLane hfit.1 (retrainEnd l false)
    obtain ⟨hst, hf, hla, hblk, hr⟩ := retrainEnd_fails (b := s.quiet) h7 hh
    exact ⟨_, run_live _ hs, (he.laneState hl).trans hst, (he.fld rfl hl).trans hf, (he.fld rfl hl).trans hla,
      (he.fld_block (by decide) (by decide)).trans hblk, (congrArg LaneSt.retrying (he.lane l)).trans hr⟩
  · obtain ⟨hhas, hb, hon⟩ := hfit
    have he := effect_atLane hhas (retrainEnd l false)
    obtain ⟨hst, hf, hla, hblk⟩ := retrainEnd_held (b := s.quiet) hl hb h7 hh
    exact ⟨_, run_live _ hs, (he.laneState hl).trans hst, (he.fld rfl hl).trans hf, (he.fld rfl hl).trans hla, (he.fld_block (by decide) (by decide)).trans hblk⟩
  · obtain ⟨hhas, hb, hon⟩ := hfit
    have he := effect_atLane hhas (lastingRetry l true)
    obtain ⟨hst, hla, hr⟩ := lastingRetry_returns (b := s.quiet) hb h8 hr hsg
    exact ⟨_, run_live _ hs, (he.laneState hl).trans hst, (he.fld rfl hl).trans hla, (congrArg LaneSt.retrying (he.lane l)).trans hr⟩
  · have he := effect_atLane_idle (l := l) (lastingRetry_waits l s.quiet)
    exact ⟨_, run_live _ hs, he.lane l, he.laneState hl, he.fld rfl hl⟩
  · obtain ⟨hch, hn⟩ := huntDwellEnd_steps (b := s.quiet) hrx hr hp hcdr
    have hp : atLane l (huntDwellEnd l) s.quiet = huntDwellEnd l s.quiet :=
      (if_pos (s.quiet.laneHas_lt (by omega))).trans (onLane_plain (.inl (by omega)) _ _)
    refine ⟨_, run_live _ hs, (congrArg (Block.fld · F.LANE_STATUS_RATE_NOW l) hp :).trans hn, regsKept_effect ?_⟩
    rw [hp]
    exact hch.regs
  · have he := effect_atLane (b := s.toBlock) (s.toBlock.laneHas_lt (l := l) (by omega)) (laneLockGained l)
    obtain ⟨hst, hc, hsig, hr⟩ := laneLockGained_serves (b := s.quiet) hrx hb hp hcdr ht
    exact ⟨_, run_live _ hs, (he.laneState hl).trans hst, (he.fld rfl hl).trans hc, (he.fld rfl hl).trans hsig, (he.fld rfl hl).trans hr⟩
  · have he := effect_onLane l (lanePowerSet l v.toNat) s.toBlock
    obtain ⟨hpw, hst, hcdr, hsig, ht, hey⟩ := lanePowerSet_off (b := s.quiet) (laneClass_served hc) hl hb hv hp
    exact ⟨_, run_reaches hs hre false _, (he.fld rfl hl).trans hpw, (he.laneState hl).trans hst, (he.fld rfl hl).trans hcdr, (he.fld rfl hl).trans hsig,
      (congrArg LaneSt.trained (he.lane l)).trans ht, (congrArg LaneSt.eye (he.lane l)).trans hey⟩
  · have he := effect_onLane l (lanePowerSet l v.toNat) s.toBlock
    have hrej := lanePowerSet_rejects s.quiet (laneClass_noP2 hc) hv
    obtain ⟨hr, hpw, hst⟩ := s.quiet.reject_lane_fields l
    rw [← hrej] at hr hpw hst
    refine ⟨_, run_reaches hs hre false _, (he.fld rfl hl).trans hr, (he.fld rfl hl).trans hpw, (he.laneState hl).trans hst, fun hm => onlyRegs_effect ?_⟩
    rw [onLane_plain (.inl hm), hrej]
    exact s.quiet.reject_writes _ _ _
  · have he := effect_onLane l (loopbackSet l v.toNat) s.toBlock
    obtain ⟨hlb, hst, htx⟩ := loopbackSet_tests (b := s.quiet) (laneClass_served hc) (by omega) hl hb hp h0 hv
    exact ⟨_, run_reaches hs hre false _, (he.fld rfl hl).trans hlb, (he.laneState hl).trans hst, (he.fld rfl hl).trans htx⟩
  · have he := effect_onLane l (loopbackSet l v.toNat) s.toBlock
    obtain ⟨hlb, hlb'⟩ := loopbackSet_media (b := s.quiet) hrx h0 hv
    exact ⟨_, run_reaches hs hre false _, (he.fld rfl hl).trans hlb, (he.fld rfl (by omega)).trans hlb'⟩
  · have hp := fun f => onLane_plain (l := l) (.inr ⟨h, h'⟩) f s.quiet
    refine ⟨⟨_, run_reaches hs hre false _, onlyRegs_effect_self ?_⟩, _, run_reaches hs hre false _, onlyRegs_effect_self ?_⟩
    · rw [hp, loopbackSet_pcie h h']
    · rw [hp, lanePowerSet_pcie h h']

end Sys2Proof.Machine
end

section
/-!
Equalisers and the eye monitor (R149 to R154, R171 to R174).
-/
namespace Sys2Proof.Machine
set_option Elab.async false

/-! ### Receive equalisers (R151 to R153) -/

@[simp] def freezeFields : List Field := [F.RX_EQ_FREEZE, F.LANE_STATUS_FROZEN] ++ eqFields

section
variable (b : Block) (l v : Nat)

/-- The lane's own state with a word written to `RX_EQ`. -/
@[simp] def LaneSt.wrote (s : LaneSt) (v : Nat) : LaneSt := { s with wroteEq := v % 2 ^ 11 }

/-- The written word kept, with `FREEZE` stored. -/
def Block.freezeStored (b : Block) (l v : Nat) : Block := (b.updLane l fun s => s.wrote v).storeWord [F.RX_EQ_FREEZE] l v

theorem Block.freezeStored_changes : b.changes l [F.RX_EQ_FREEZE] (b.freezeStored l v) := ((Block.changes.refl _ _ _).updLane _).storeWord (by simp) v

theorem Block.freezeStored_freeze : (b.freezeStored l v).fld F.RX_EQ_FREEZE l = v / 2 ^ 16 % 2 :=
  (Block.fld_storeWord _ (by simp) rfl (by simp) v).trans (Field.stored_of_any rfl v)

theorem Block.freezeStored_lane : (b.freezeStored l v).lane l = (b.lane l).wrote v := by
  rw [Block.freezeStored, Block.storeWord_lane, Block.lane_updLane_same]

/-- `FREEZE` written outside training is in effect at once, and in training at its end. -/
theorem Block.freezeNow_training {b : Block} {l : Nat} (h : b.laneState l = 4 ∨ b.laneState l = 7) : b.freezeNow l = b :=
  if_pos (by rcases h with h | h <;> rw [h] <;> rfl)

theorem Block.freezeNow_untrained {b : Block} {l : Nat} (h4 : b.laneState l ≠ 4) (h7 : b.laneState l ≠ 7) :
    b.freezeNow l = (b.eqLive l).setFld F.LANE_STATUS_FROZEN l (b.fld F.RX_EQ_FREEZE l) :=
  if_neg (by simp [trainState, h4, h7])

theorem Block.freezeNow_changes : b.changes l (F.LANE_STATUS_FROZEN :: eqFields) (b.freezeNow l) := by
  unfold Block.freezeNow
  split
  · exact .refl _ _ _
  · exact ((b.eqLive_changes l).mono (by simp)).setFld (by simp) _

@[simp] theorem Block.freezeNow_lane (j : Nat) : (b.freezeNow l).lane j = b.lane j := by
  unfold Block.freezeNow
  split
  · rfl
  · simp

theorem Block.rxEqStore_eq : b.rxEqStore l v = (b.freezeStored l v).freezeNow l := rfl

theorem Block.rxEqStore_changes : b.changes l freezeFields (b.rxEqStore l v) :=
  ((b.freezeStored_changes l v).mono (by simp)).andThen (Block.freezeNow_changes _ _) (by simp)

theorem Block.rxEqStore_freeze : (b.rxEqStore l v).fld F.RX_EQ_FREEZE l = v / 2 ^ 16 % 2 :=
  ((Block.freezeNow_changes _ _).fld (by simp)).trans (b.freezeStored_freeze l v)

@[simp] theorem Block.rxEqStore_lane : (b.rxEqStore l v).lane l = (b.lane l).wrote v :=
  (Block.freezeNow_lane _ _ _).trans (b.freezeStored_lane l v)

theorem Block.rxEqStore_frozen {b : Block} {l : Nat} (v : Nat) (h4 : b.laneState l ≠ 4) (h7 : b.laneState l ≠ 7) :
    (b.rxEqStore l v).fld F.LANE_STATUS_FROZEN l = v / 2 ^ 16 % 2 := by
  have hs : (b.freezeStored l v).laneState l = b.laneState l := (b.freezeStored_changes l v).laneState (by simp)
  rw [Block.rxEqStore_eq, Block.freezeNow_untrained (hs ▸ h4) (hs ▸ h7), Block.fld_setFld_same, Block.freezeStored_freeze]
  exact Nat.mod_mod _ 2

theorem Block.rxEqStore_training {b : Block} {l : Nat} (v : Nat) (h : b.laneState l = 4 ∨ b.laneState l = 7) : b.rxEqStore l v = b.freezeStored l v := by
  have hs : (b.freezeStored l v).laneState l = b.laneState l := (b.freezeStored_changes l v).laneState (by simp)
  exact Block.freezeNow_training (hs.symm ▸ h)

/-- A lane that does not adapt keeps the values in use. -/
theorem Block.rxEqStore_still {b : Block} {l : Nat} (v : Nat) (h : adaptState (b.laneState l) = false) :
    b.changes l [F.RX_EQ_FREEZE, F.LANE_STATUS_FROZEN] (b.rxEqStore l v) := by
  have hs : (b.freezeStored l v).laneState l = b.laneState l := (b.freezeStored_changes l v).laneState (by simp)
  have ht : trainState (b.laneState l) = false := by
    unfold adaptState at h
    simp only [Bool.or_eq_false_iff] at h
    exact h.1.1
  have he : b.rxEqStore l v = (b.freezeStored l v).setFld F.LANE_STATUS_FROZEN l ((b.freezeStored l v).fld F.RX_EQ_FREEZE l) := by
    rw [Block.rxEqStore_eq, Block.freezeNow, hs, ht, Block.eqLive, hs, h]
    rfl
  rw [he]
  exact ((b.freezeStored_changes l v).mono (by simp)).setFld (by simp) _

theorem Block.eqLoad_changes : b.changes l eqFields (b.eqLoad l) := by
  unfold Block.eqLoad
  extract_lets s ctle vga
  have hc : b.changes l eqFields ctle := (Block.changes.refl _ _ _).ite _ ((Block.changes.refl _ _ _).setFld (by simp) _)
  have hv : b.changes l eqFields vga := hc.ite _ (hc.setFld (by simp) _)
  exact hv.ite _ ((hv.setFld (by simp) _).setFld (by simp) _)

/-- The parts that the class has take the values last written (R153). -/
theorem Block.eqLoad_fields : (laneHasCtle l = true → (b.eqLoad l).fld F.RX_EQ_CTLE l = (b.lane l).wroteEq % 32) ∧
    (laneHasVga l = true → (b.eqLoad l).fld F.RX_EQ_VGA l = (b.lane l).wroteEq / 32 % 64) ∧
    (laneHasDfe l = true → (b.eqLoad l).fld F.RX_DFE_A_TAP1_4 l = (b.lane l).wroteA % 2 ^ 32 ∧ (b.eqLoad l).fld F.RX_DFE_B_TAP5_8 l = (b.lane l).wroteB % 2 ^ 32) := by
  unfold Block.eqLoad
  refine ⟨fun h => ?_, fun h => ?_, fun h => ⟨?_, ?_⟩⟩
  · simp [h, Block.fld_setFld_ne]
  · simp [h, Block.fld_setFld_ne]
  · simp [h, Block.fld_setFld_ne]
  · simp [h]

theorem rxEqLoad_loads {v : Nat} (hv : v / 2 ^ 16 % 4 = 3) : rxEqLoad l v b = (b.rxEqStore l v).eqLoad l := by
  have hl : F.RX_EQ_LOAD.of v = 1 := by
    show v / 2 ^ 17 % 2 = 1
    omega
  have hf : (b.rxEqStore l v).on F.RX_EQ_FREEZE l = true := by
    rw [Block.on, Block.rxEqStore_freeze]
    exact beq_iff_eq.mpr (by omega)
  exact (if_pos hl).trans (if_pos hf)

theorem rxEqLoad_rejects {v : Nat} (hv : v / 2 ^ 16 % 4 = 2) : rxEqLoad l v b = (b.rxEqStore l v).reject 4 F.LANE_HIST_CFG_REJECTED l := by
  have hl : F.RX_EQ_LOAD.of v = 1 := by
    show v / 2 ^ 17 % 2 = 1
    omega
  have hf : ¬(b.rxEqStore l v).on F.RX_EQ_FREEZE l = true := by
    rw [Block.on, Block.rxEqStore_freeze, beq_iff_eq]
    omega
  exact (if_pos hl).trans (if_neg hf)

end

end Sys2Proof.Machine
end

section
/-!
A measurement of the eye monitor starts, and ends once (R171 to R174).
-/
namespace Sys2Proof.Machine
set_option Elab.async false

/-! ### The start of a measurement (R172) -/

@[simp] def eyeCfgFields : List Field := [F.EYE_CFG_MODE, F.EYE_CFG_EYE, F.EYE_CFG_DWELL, F.EYE_CFG_PHASE, F.EYE_CFG_VOLT]

section
variable (b : Block) (l : Nat)

/-- A measurement under way, as the written word asks for. -/
def Block.eyeStarted (b : Block) (l v : Nat) : Block := ((b.storeWord eyeCfgFields l v).eyeAbort l).updLane l fun s => { s with eye := true }

theorem eyeGo_starts {v : Nat} (he : laneHasEye l = true) (h3 : b.on F.LANE_STATUS_PAM4 l = false ∨ v / 4 % 4 ≠ 3) (hv : v % 2 = 1) :
    eyeGo l v b = b.eyeStarted l v := by
  have ho : (!laneHasEye l || (b.on F.LANE_STATUS_PAM4 l && F.EYE_CFG_EYE.of v == 3)) = false := by
    rw [he, show F.EYE_CFG_EYE.of v = v / 4 % 4 from rfl]
    rcases h3 with h3 | h3
    · simp [h3]
    · simp [h3]
  have hg : F.EYE_CFG_GO.of v = 1 := (congrArg (· % 2) (Nat.div_one v)).trans hv
  exact (if_neg (Bool.eq_false_iff.mp ho)).trans (if_pos hg)

theorem eyeGo_rejects (v : Nat) (he : laneHasEye l = false) : eyeGo l v b = b.reject 4 F.LANE_HIST_CFG_REJECTED l := if_pos (by simp [he])

theorem Block.eyeStarted_eye (v : Nat) : ((b.eyeStarted l v).lane l).eye = true := by simp [Block.eyeStarted]

theorem Block.eyeStarted_fields (v : Nat) : (b.eyeStarted l v).fld F.EYE_CFG_MODE l = v / 2 % 2 ∧ (b.eyeStarted l v).fld F.EYE_CFG_PHASE l = v / 2 ^ 16 % 256 ∧
    (b.eyeStarted l v).fld F.EYE_CFG_VOLT l = v / 2 ^ 24 % 256 := by
  have hk : (b.storeWord eyeCfgFields l v).changes l eyeFields (b.eyeStarted l v) := (Block.eyeAbort_changes _ l).updLane _
  have hs : ∀ f ∈ eyeCfgFields, f.acc = .rw → f.clamp = .any → (b.storeWord eyeCfgFields l v).fld f l = v / 2 ^ f.lo % 2 ^ f.width := fun f hf ha hc =>
    (b.fld_storeWord hf ha (by simp) v).trans (Field.stored_of_any hc v)
  exact ⟨(hk.fld (by simp)).trans (hs _ (by simp) rfl rfl), (hk.fld (by simp)).trans (hs _ (by simp) rfl rfl), (hk.fld (by simp)).trans (hs _ (by simp) rfl rfl)⟩

/-- Where none is under way, only the settings change. -/
theorem Block.eyeStarted_changes {b : Block} {l : Nat} (v : Nat) (he : (b.lane l).eye = false) : b.changes l eyeCfgFields (b.eyeStarted l v) := by
  rw [Block.eyeStarted, Block.eyeAbort_idle _ _ (by rwa [Block.storeWord_lane])]
  exact ((Block.changes.refl _ _ _).storeWord (List.Subset.refl _) v).updLane _

end

/-! ### What shows a measurement that has ended -/

@[simp] def eyeShown : List Field := [F.EYE_RESULT_W, F.EYE_RESULT_H, F.EYE_RESULT_VALID, F.LANE_HIST_EYE_DONE]

/-- `c` has no measurement under way on lane `l`, and the last one's results as in `b`. -/
def Block.eyeStill (b : Block) (l : Nat) (c : Block) : Prop := (c.lane l).eye = false ∧ ∀ f ∈ eyeShown, c.fld f l = b.fld f l

namespace Block.eyeStill

section
variable {b c : Block} {l : Nat} (h : b.eyeStill l c)
include h

/-- An operation of the lane that writes none of the results. -/
theorem step {d : Block} {fs : List Field} (hc : c.changes l fs d) (he : (d.lane l).eye = (c.lane l).eye)
    (hne : ∀ f ∈ eyeShown, ∀ g ∈ fs, f.key l ≠ g.key l) : b.eyeStill l d :=
  ⟨he.trans h.1, fun f hf => (hc.fld (hne f hf)).trans (h.2 f hf)⟩

/-- An operation of another lane. -/
theorem other {d : Block} {j : Nat} {fs : List Field} (hj : l ≠ j) (hc : c.changes j fs d) (hfs : ∀ g ∈ fs, g.ofLane = true := by decide) : b.eyeStill l d :=
  ⟨(congrArg LaneSt.eye (hc.lanes l hj)).trans h.1,
    fun f hf => (hc.fld_other hj hfs ((by decide : ∀ f ∈ eyeShown, f.ofLane = true) f hf)).trans (h.2 f hf)⟩

theorem ite (p : Bool) {f : Block → Block} (hf : b.eyeStill l (f c)) : b.eyeStill l (c.ite p f) := Block.ite_cases (P := b.eyeStill l) p h hf

theorem setLane (j st : Nat) : b.eyeStill l (c.setLane j st) := by
  by_cases hj : l = j
  · subst hj
    exact h.step (c.setLane_changes l st) (by simp) (by simp)
  · exact h.other hj (c.setLane_changes j st)

theorem setRateNow (j r : Nat) : b.eyeStill l (c.setRateNow j r) := by
  by_cases hj : l = j
  · subst hj
    exact h.step (c.setRateNow_changes l r) rfl (by simp)
  · exact h.other hj (c.setRateNow_changes j r)

/-- A field that is not of the results. -/
theorem setFld {g : Field} (j v : Nat) (hne : ∀ f ∈ eyeShown, f.key l ≠ g.key l) (hg : g.ofLane = true := by rfl) : b.eyeStill l (c.setFld g j v) := by
  have hc : c.changes j [g] (c.setFld g j v) := (Block.changes.refl _ _ _).setFld (by simp) v
  by_cases hj : l = j
  · subst hj
    exact h.step hc rfl fun f hf => by simpa using hne f hf
  · exact h.other hj hc (by simpa using hg)

theorem lanePower (j p : Nat) : b.eyeStill l (c.lanePower j p) := by
  by_cases hj : l = j
  · subst hj
    refine h.step (c.lanePower_changes_idle l p h.1) ?_ (by simp)
    obtain ⟨e, u, hl | hl⟩ := c.lanePower_lane l p
    · rw [hl]
      rfl
    · rw [hl]
      exact h.1.symm
  · exact h.other hj (c.lanePower_changes j p)

theorem laneRate (j r : Nat) : b.eyeStill l (c.laneRate j r) := by
  by_cases hj : l = j
  · subst hj
    exact h.step (c.laneRate_changes_idle l r h.1) (by simp [h.1]) (by simp)
  · exact h.other hj (c.laneRate_changes j r)

theorem retrain (j : Nat) (fault : Bool) : b.eyeStill l (c.retrain j fault) := by
  by_cases hj : l = j
  · subst hj
    exact h.step (c.retrain_changes_idle l h.1 fault) (by simp [h.1]) (by simp)
  · exact h.other hj (c.retrain_changes j fault)

theorem updLane (j : Nat) {f : LaneSt → LaneSt} (hf : ∀ s, (f s).eye = s.eye) : b.eyeStill l (c.updLane j f) := by
  by_cases hj : l = j
  · subst hj
    exact ⟨by rw [Block.lane_updLane_same, hf, h.1], h.2⟩
  · exact ⟨by rw [Block.lane_updLane_ne _ _ hj, h.1], h.2⟩

theorem lane0On (q : Nat) : b.eyeStill l (c.lane0On q) := by
  unfold Block.lane0On
  extract_lets j powered
  have hp : b.eyeStill l powered := h.ite _ (h.lanePower j 0)
  exact hp.ite _ (hp.laneRate j 0)

theorem portAcquire (q : Nat) : b.eyeStill l (c.portAcquire q) := by
  have hssc : b.eyeStill l (c.setSsc q 0) := Block.each_induction h fun d j _ hd => hd.setFld j 0 (by simp)
  have hoff : b.eyeStill l (c.othersOff q) := Block.each_induction hssc fun d j _ hd => hd.lanePower j 3
  have honly : b.eyeStill l (c.lane0Only q 3) := ((hoff.lane0On q).setLane _ 3).updLane _ fun _ => rfl
  exact honly.setFld (g := F.LANE_STATUS_CDR_LOCK) _ 0 (by simp)

/-- What a test lets go of returns to its port without a measurement. -/
theorem laneBack (served : Bool) : b.eyeStill l (c.laneBack l served) := by
  have heth : ∀ p : Bool, b.eyeStill l
      (if served then ((c.ite p fun b => b.laneRate l (b.fld F.ETH_CFG_RATE (l - 324))).setLane l 3).clr F.LANE_STATUS_CDR_LOCK l
        else (c.ite p fun b => b.laneRate l (b.fld F.ETH_CFG_RATE (l - 324))).retrain l false) := fun p => by
    have hr := h.ite p (f := fun b => b.laneRate l (b.fld F.ETH_CFG_RATE (l - 324))) (h.laneRate l _)
    split
    · exact (hr.setLane l 3).setFld l 0 (by simp)
    · exact hr.retrain l false
  unfold Block.laneBack
  split
  · exact h.setLane l _
  · exact (h.setRateNow l _).setLane l 6
  · exact h
  · split
    · exact h.retrain l false
    · exact h.portAcquire _
  · exact heth _

theorem laneTestState : b.eyeStill l (c.laneTestState l) := by
  unfold Block.laneTestState
  split
  · exact h
  · split
    · exact (h.setLane l 9).updLane l fun _ => rfl
    · split
      · exact h.laneBack false
      · exact h

end

end Block.eyeStill

/-! ### The end of a measurement (R172, R174) -/

section
variable {b : Block} {l : Nat}

/-- The device with the width and height of a measurement that reached its end. -/
def Block.eyeMeasured (b : Block) (l w h : Nat) : Block :=
  let b := b.updLane l fun s => { s with eye := false }
  let b := (b.setFld F.EYE_RESULT_W l w).setFld F.EYE_RESULT_H l h
  ((b.setFld F.EYE_RESULT_ERR l 0).set F.EYE_RESULT_VALID l).set F.LANE_HIST_EYE_DONE l

theorem eyeMeasurementEnd_full (he : (b.lane l).eye = true) (hm : b.on F.EYE_CFG_MODE l = false) (w h errs : Nat) :
    eyeMeasurementEnd l w h errs true b = (b.eyeMeasured l w h).laneTestState l := by
  unfold eyeMeasurementEnd
  rw [if_pos he, hm]
  rfl

theorem eyeMeasurementEnd_cut (he : (b.lane l).eye = true) (w h errs : Nat) : eyeMeasurementEnd l w h errs false b = (b.eyeAbort l).laneTestState l := if_pos he

theorem eyeMeasurementEnd_none (he : (b.lane l).eye = false) (w h errs : Nat) (full : Bool) : eyeMeasurementEnd l w h errs full b = b :=
  if_neg (Bool.eq_false_iff.mp he)

theorem Block.eyeMeasured_still (b : Block) (l w h : Nat) : (b.eyeMeasured l w h).eyeStill l ((b.eyeMeasured l w h).laneTestState l) :=
  eyeStill.laneTestState ⟨by simp [Block.eyeMeasured], fun _ _ => rfl⟩

theorem Block.eyeMeasured_fields (b : Block) (l w h : Nat) : (b.eyeMeasured l w h).fld F.EYE_RESULT_W l = w % 256 ∧
    (b.eyeMeasured l w h).fld F.EYE_RESULT_H l = h % 256 ∧ (b.eyeMeasured l w h).fld F.EYE_RESULT_VALID l = 1 ∧
    (b.eyeMeasured l w h).fld F.LANE_HIST_EYE_DONE l = 1 := by
  simp [Block.eyeMeasured, Block.fld_setFld_ne]

theorem Block.eyeAbort_still (b : Block) (l : Nat) : (b.eyeAbort l).eyeStill l ((b.eyeAbort l).laneTestState l) :=
  eyeStill.laneTestState ⟨by simp, fun _ _ => rfl⟩

theorem Block.eyeAbort_fields (he : (b.lane l).eye = true) : (b.eyeAbort l).fld F.EYE_RESULT_VALID l = 0 ∧ (b.eyeAbort l).fld F.LANE_HIST_EYE_DONE l = 1 := by
  rw [Block.eyeAbort, if_pos he]
  simp

/-- A lane in no test has none to return from. -/
theorem Block.laneTestState_untested (ht : b.laneTesting l = false) (h9 : b.laneState l ≠ 9) : b.laneTestState l = b := by
  unfold Block.laneTestState
  simp [ht, h9]

theorem Block.changes.laneTesting {b c : Block} {l : Nat} {fs : List Field} (h : b.changes l fs c)
    (hne : ∀ f ∈ [F.LANE_CTRL_LB, F.PAT_CFG_GEN_EN, F.PAT_CFG_CHK_EN], ∀ g ∈ fs, f.key l ≠ g.key l) : c.laneTesting l = b.laneTesting l := by
  unfold Block.laneTesting Block.on
  rw [h.fld (hne _ (by simp)), h.fld (hne _ (by simp)), h.fld (hne _ (by simp))]

end

end Sys2Proof.Machine
end

section
/-!
Pattern generators and checkers (R165 to R170).
-/
namespace Sys2Proof.Machine
set_option Elab.async false

section
variable {b : Block} {l : Nat}

/-! ### The checker (R165, R167, R169) -/

theorem Block.chkCount_synced (h : b.on F.PAT_CFG_IN_SYNC l = true) (errs units : Nat) : b.chkCount l errs units =
    b.updLane l fun s => s.counted (min (s.errs + errs) (2 ^ 48 - 1)) ((s.bits + units) % 2 ^ 64) := if_pos h

theorem Block.chkCount_unsynced (h : b.on F.PAT_CFG_IN_SYNC l = false) (errs units : Nat) : b.chkCount l errs units = b := if_neg (Bool.eq_false_iff.mp h)

theorem Block.synced_writes (b : Block) (l : Nat) : b.writes ((b.set F.PAT_CFG_IN_SYNC l).set F.LANE_HIST_CHK_SYNC l) [F.PAT_CFG_IN_SYNC.key l, F.LANE_HIST_CHK_SYNC.key l] :=
  ((b.writes_refl _).setFld (by simp) _).setFld (by simp) _

theorem Block.synced_fields (b : Block) (l : Nat) : ((b.set F.PAT_CFG_IN_SYNC l).set F.LANE_HIST_CHK_SYNC l).fld F.PAT_CFG_IN_SYNC l = 1 ∧
    ((b.set F.PAT_CFG_IN_SYNC l).set F.LANE_HIST_CHK_SYNC l).fld F.LANE_HIST_CHK_SYNC l = 1 := by simp

theorem checkerSync_gains {bits : List Bool} (he : b.on F.PAT_CFG_CHK_EN l = true) (hs : b.on F.PAT_CFG_IN_SYNC l = false) (hc : laneClass l ≠ .mediaTx)
    (hp : b.fld F.LANE_CTRL_POWER l = 0) (hb : bits.length = 64) (hf : (b.pattern l (b.fld F.PAT_CFG_CHK_PAT l)).follows bits = true) :
    checkerSync l bits b = (b.set F.PAT_CFG_IN_SYNC l).set F.LANE_HIST_CHK_SYNC l := if_pos ⟨he, by simp [hs], hc, hp, hb, hf⟩

theorem checkerSync_waits {bits : List Bool} (h : (b.pattern l (b.fld F.PAT_CFG_CHK_PAT l)).follows bits = false) : checkerSync l bits b = b :=
  if_neg fun ⟨_, _, _, _, _, hf⟩ => Bool.false_ne_true (h.symm.trans hf)

/-- The device with its checker's sync lost, after the window's counts. -/
def Block.chkLost (b : Block) (l errs units : Nat) : Block := ((b.chkCount l errs units).clr F.PAT_CFG_IN_SYNC l).set F.LANE_HIST_CHK_LOST l

theorem checkerLost_loses {window : Nat} (he : b.on F.PAT_CFG_CHK_EN l = true) (hs : b.on F.PAT_CFG_IN_SYNC l = true) (hw : 65536 < 8 * window)
    (errs units : Nat) : checkerLost l errs units window b = b.chkLost l errs units := if_pos ⟨he, hs, hw⟩

theorem Block.chkLost_changes (b : Block) (l errs units : Nat) : b.changes l [F.PAT_CFG_IN_SYNC, F.LANE_HIST_CHK_LOST] (b.chkLost l errs units) :=
  (((b.chkCount_changes l errs units).mono (by simp)).setFld (by simp) _).setFld (by simp) _

theorem Block.chkLost_fields (hs : b.on F.PAT_CFG_IN_SYNC l = true) (errs units : Nat) : (b.chkLost l errs units).fld F.PAT_CFG_IN_SYNC l = 0 ∧
    (b.chkLost l errs units).fld F.LANE_HIST_CHK_LOST l = 1 ∧
    (b.chkLost l errs units).lane l = (b.lane l).counted (min ((b.lane l).errs + errs) (2 ^ 48 - 1)) (((b.lane l).bits + units) % 2 ^ 64) := by
  unfold Block.chkLost
  rw [Block.chkCount_synced hs]
  simp

@[simp] def latchFields : List Field := [F.CHK_ERR_HI_ERR, F.CHK_BITS_LO_BITS, F.CHK_BITS_HI_BITS]

theorem Block.chkLatch_writes (b : Block) (l : Nat) : b.writes (b.chkLatch l) (latchFields.map (·.key l)) :=
  (((b.writes_refl _).setFld (by simp) _).setFld (by simp) _).setFld (by simp) _

theorem Block.chkLatch_fields (b : Block) (l : Nat) : (b.chkLatch l).fld F.CHK_ERR_HI_ERR l = (b.lane l).errs / 2 ^ 32 % 2 ^ 16 ∧
    (b.chkLatch l).fld F.CHK_BITS_LO_BITS l = (b.lane l).bits % 2 ^ 32 ∧ (b.chkLatch l).fld F.CHK_BITS_HI_BITS l = (b.lane l).bits / 2 ^ 32 % 2 ^ 32 := by
  simp [Block.chkLatch, Block.fld_setFld_ne]

theorem chkErrLoRead_eq (b : Block) (l errs units : Nat) : chkErrLoRead l errs units b =
    ((b.chkCount l errs units).chkLatch l).emit (.read (((b.chkCount l errs units).lane l).errs % 2 ^ 32)) := rfl

theorem Block.mem_emit_out (b : Block) (o : Out) : o ∈ (b.emit o).out := List.mem_append_right _ (List.mem_singleton_self o)

/-! ### A write of the pattern register (R165 to R168) -/

@[simp] def patFields : List Field := [F.PAT_CFG_GEN_EN, F.PAT_CFG_GEN_PAT, F.PAT_CFG_CHK_EN, F.PAT_CFG_CHK_PAT]

/-- The device with a word written to `PAT_CFG`, before the lane's state follows its test. -/
def Block.patSet (b : Block) (l v : Nat) : Block :=
  let wasGen := b.on F.PAT_CFG_GEN_EN l
  let was := b.on F.PAT_CFG_CHK_EN l
  let genPat := b.fld F.PAT_CFG_GEN_PAT l
  let chkPat := b.fld F.PAT_CFG_CHK_PAT l
  let en := F.PAT_CFG_CHK_EN.of v == 1
  let b := (b.ite (was && !en) fun b => b.chkLive l).storeWord patFields l v
  let gen := b.on F.PAT_CFG_GEN_EN l && laneClass l != .mediaRx
  let b := b.ite (gen && (!wasGen || genPat != b.fld F.PAT_CFG_GEN_PAT l)) fun b => b.emit (.generator l (some (b.pattern l (b.fld F.PAT_CFG_GEN_PAT l))))
  let b := b.ite (wasGen && !b.on F.PAT_CFG_GEN_EN l && laneClass l != .mediaRx) fun b => b.emit (.generator l none)
  let b := b.ite (!was && en) fun b => b.updLane l fun s => { s with errs := 0, bits := 0 }
  b.ite (was != en || chkPat != b.fld F.PAT_CFG_CHK_PAT l) fun b => b.clr F.PAT_CFG_IN_SYNC l

theorem Block.patWrite_eq (b : Block) (l v : Nat) : b.patWrite l v =
    if patOk (b.on F.LANE_STATUS_PAM4 l) (F.PAT_CFG_GEN_PAT.of v) && patOk (b.on F.LANE_STATUS_PAM4 l) (F.PAT_CFG_CHK_PAT.of v) then
      ((b.patSet l v).laneTestState l).portLoses l
    else b.reject 4 F.LANE_HIST_CFG_REJECTED l := rfl

theorem Block.patSet_changes (b : Block) (l v : Nat) : b.changes l (F.PAT_CFG_IN_SYNC :: patFields) (b.patSet l v) ∧
    ∀ f ∈ patFields, (b.patSet l v).fld f l = v / 2 ^ f.lo % 2 ^ f.width := by
  unfold Block.patSet
  extract_lets wasGen was genPat chkPat en stored gen started stopped cleared
  have hs : b.changes l (F.PAT_CFG_IN_SYNC :: patFields) stored :=
    ((Block.changes.refl _ _ _).ite _ ((b.chkLive_changes l).mono (by simp))).storeWord (by simp) v
  have hf : ∀ f ∈ patFields, stored.fld f l = v / 2 ^ f.lo % 2 ^ f.width := fun f hf => by
    obtain ⟨ha, hcl⟩ := (by decide : ∀ f ∈ patFields, f.acc = .rw ∧ f.clamp = .any) f hf
    exact (Block.fld_storeWord _ hf ha (by simp) v).trans (Field.stored_of_any hcl v)
  have h1 : stored.changes l [F.PAT_CFG_IN_SYNC] started := (Block.changes.refl _ _ _).ite _ ((Block.changes.refl _ _ _).emit _)
  have h2 : stored.changes l [F.PAT_CFG_IN_SYNC] stopped := h1.ite _ (h1.emit _)
  have h3 : stored.changes l [F.PAT_CFG_IN_SYNC] cleared := h2.ite _ (h2.updLane _)
  have h4 : stored.changes l [F.PAT_CFG_IN_SYNC] (cleared.ite (was != en || chkPat != cleared.fld F.PAT_CFG_CHK_PAT l) fun b => b.clr F.PAT_CFG_IN_SYNC l) :=
    h3.ite _ (h3.setFld (by simp) 0)
  have hne : ∀ f ∈ patFields, ∀ g ∈ [F.PAT_CFG_IN_SYNC], f.key l ≠ g.key l := by simp
  exact ⟨hs.andThen h4 (by simp), fun f hm => (h4.fld (hne f hm)).trans (hf f hm)⟩

/-- A lane at P0 that a test holds is in TEST (R166). -/
theorem Block.laneTestState_tests (hp : b.fld F.LANE_CTRL_POWER l = 0) (ht : b.laneTesting l = true) :
    b.laneTestState l = (b.setLane l 9).updLane l LaneSt.calm := by
  unfold Block.laneTestState
  rw [if_neg (not_not.mpr hp), if_pos ht]
  rfl

theorem Block.portLoses_fed (hc : laneClass l ≠ .mediaRx) (b : Block) : b.portLoses l = b := if_neg fun h => hc h.1

/-- An error inverted in the transmitted bits (R170). -/
theorem injErr_inverts {v : Nat} (hr : laneClass l ≠ .mediaRx) (h0 : b.lifeCycle = 0) (hp : b.fld F.LANE_CTRL_POWER l = 0) (hv : v / 1024 % 2 = 1) :
    injErr l v b = (b.patWrite l v).emit (.inverted l) := by
  have hc : (F.PAT_CFG_INJ_ERR.of v == 1 && laneClass l != .mediaRx && b.fld F.LANE_CTRL_POWER l == 0) = true := by
    rw [hp, show F.PAT_CFG_INJ_ERR.of v = v / 1024 % 2 from rfl, hv]
    simp [hr]
  rw [injErr, if_pos h0, hc]
  rfl

theorem injErr_outside (h : b.lifeCycle ≠ 0) (v : Nat) : injErr l v b = b := if_neg h

end

end Sys2Proof.Machine
end

section
/-!
The lane commands of the host (R181 to R184, R598).
-/
namespace Sys2Proof.Machine
set_option Elab.async false

/-! ### The frame of a command (R598, R633) -/

theorem firstFail_append {xs : List (Bool × Nat)} (h : firstFail xs = none) (ys : List (Bool × Nat)) : firstFail (xs ++ ys) = firstFail ys := by
  induction xs with
  | nil => rfl
  | cons x xs ih =>
    obtain ⟨bad, st⟩ := x
    cases bad with
    | true => exact absurd h (Option.some_ne_none st)
    | false => exact ih h

/-- A command whose checks pass has its effect. -/
theorem Block.command_runs {b : Block} {ch code : Nat} {args conds : List (Bool × Nat)} (ha : firstFail args = none) (hs : b.on F.BIST_STATUS_SAFE 0 = false)
    (hc : firstFail conds = none) (eff : Block → Block) : b.command ch code true true args conds eff = eff b := by
  unfold Block.command
  rw [hs, Bool.false_and, List.append_assoc, List.append_assoc, firstFail_append rfl, firstFail_append ha, firstFail_append rfl, hc]

section
variable {b : Block} {l : Nat}

theorem Block.laneChecks_pass (hl : l ≤ 344) (hh : b.laneHas l = true) (ht : b.laneTested l = false) : firstFail (b.laneChecks l false) = none := by
  simp [Block.laneChecks, firstFail, hh, ht, Nat.not_lt.mpr hl]

/-- The lane that a payload names (R181). -/
theorem le_lane (hl : l ≤ 344) (rest : List Byte) : le (leBytes 2 l ++ rest) 0 2 = l := by
  rw [le_append_left (by simp), le_leBytes]
  omega

/-- The host's lanes and the drives' are those of PCIe. -/
theorem decide_pcie {n : Nat} (hc : laneClass l ≠ .pcie) (hn : n < 344) : (decide (332 ≤ l) && decide (l ≤ n)) = false := by
  rw [Bool.and_eq_false_iff, decide_eq_false_iff_not, decide_eq_false_iff_not]
  by_cases h : 332 ≤ l
  · exact .inr fun h' => hc (laneClass_pcie h (by omega))
  · exact .inl h

/-! ### LANE_TEST (R181) -/

/-- The payload of a `LANE_TEST` that starts the generator and the checker with pattern 4. -/
def testPayload (l : Nat) : List Byte := leBytes 2 l ++ [0, 0x0C, 4, 4, 0xFF, 0] ++ leBytes 8 (2 ^ 64 - 1)

/-- The device with the user pattern and no loopback given. -/
def Block.userSet (b : Block) (l : Nat) : Block :=
  loopbackSet l 0 ((b.setFld F.PAT_USER_LO_USER l (le (testPayload l) 8 4)).setFld F.PAT_USER_HI_USER l (le (testPayload l) 12 4))

theorem laneTest_runs (hl : l ≤ 344) (hc : laneClass l ≠ .pcie) (hh : b.laneHas l = true) (ht : b.laneTested l = false)
    (hs : b.on F.BIST_STATUS_SAFE 0 = false) (hv : b.laneServing l = false) (ch : Nat) :
    laneTest ch (testPayload l) b = ((b.userSet l).patWrite l 297).ok ch [] := by
  have hp0 : le (testPayload l) 0 2 = l := by
    unfold testPayload
    rw [List.append_assoc]
    exact le_lane hl _
  have hp2 : le (testPayload l) 2 1 = 0 := rfl
  have hp3 : le (testPayload l) 3 1 = 12 := rfl
  have hp4 : le (testPayload l) 4 1 = 4 := rfl
  have hp5 : le (testPayload l) 5 1 = 4 := rfl
  have hp6 : le (testPayload l) 6 1 = 255 := rfl
  have hz : zeros (testPayload l) 7 1 = true := rfl
  have hlen : (testPayload l).length = 16 := rfl
  have hpcie := decide_pcie (n := 335) hc (by decide)
  have hpat : ∀ p, patOk p 4 = true := by decide
  have hf : b.laneForce l = b := if_pos (by simp [hv])
  unfold laneTest
  simp only [hp0, hp2, hp3, hp4, hp5, hp6, hz, hlen, hpat, hpcie]
  refine (Block.command_runs (Block.laneChecks_pass hl hh ht) hs (by simp [hv, firstFail]) _).trans ?_
  rw [hf]
  rfl

theorem Block.userSet_changes (hl : 256 ≤ l) (hc : laneClass l ≠ .pcie) (h0 : b.fld F.LANE_CTRL_LB l = 0) :
    b.changes l [F.PAT_USER_LO_USER, F.PAT_USER_HI_USER, F.LANE_CTRL_LB_TX_ON] (b.userSet l) := by
  unfold Block.userSet
  generalize le (testPayload l) 8 4 = lo
  generalize le (testPayload l) 12 4 = hi
  have hu : b.changes l [F.PAT_USER_LO_USER, F.PAT_USER_HI_USER, F.LANE_CTRL_LB_TX_ON] ((b.setFld F.PAT_USER_LO_USER l lo).setFld F.PAT_USER_HI_USER l hi) :=
    ((Block.changes.refl _ _ _).setFld (by simp) _).setFld (by simp) _
  have hls : loopLanes l = [l] := by simp [loopLanes, show ¬l < 128 by omega, show ¬l < 256 by omega]
  have hw : ((b.setFld F.PAT_USER_LO_USER l lo).setFld F.PAT_USER_HI_USER l hi).fld F.LANE_CTRL_LB l = 0 := (hu.fld (by simp)).trans h0
  have he : loopbackSet l 0 ((b.setFld F.PAT_USER_LO_USER l lo).setFld F.PAT_USER_HI_USER l hi) =
      ((b.setFld F.PAT_USER_LO_USER l lo).setFld F.PAT_USER_HI_USER l hi).lbTxStored 0 l := by
    unfold loopbackSet
    rw [if_neg hc, hw, hls]
    rfl
  rw [he]
  exact hu.andThen (Block.lbTxStored_changes _ 0 l) (by simp)

/-- Generator and checker started on a lane at P0 without loopback, which is in TEST then (R166). -/
theorem Block.patWrite_tests (hr : laneClass l ≠ .mediaRx) (hb : b.laneBist l = false) (hl : l ≤ 344) (h0 : b.fld F.LANE_CTRL_LB l = 0)
    (hp : b.fld F.LANE_CTRL_POWER l = 0) : (b.patWrite l 297).fld F.PAT_CFG_GEN_EN l = 1 ∧ (b.patWrite l 297).fld F.PAT_CFG_CHK_EN l = 1 ∧
      (b.patWrite l 297).fld F.PAT_CFG_GEN_PAT l = 4 ∧ (b.patWrite l 297).laneState l = 9 := by
  obtain ⟨hch, hf⟩ := b.patSet_changes l 297
  have hpat : ∀ p, patOk p 4 = true := by decide
  have hgen : (b.patSet l 297).fld F.PAT_CFG_GEN_EN l = 1 := hf F.PAT_CFG_GEN_EN (by simp)
  have ht : (b.patSet l 297).laneTesting l = true := by
    unfold Block.laneTesting Block.on
    rw [hch.fld (f := F.LANE_CTRL_LB) (by simp), h0, hgen]
    simp [hr]
  have he : b.patWrite l 297 = ((b.patSet l 297).setLane l 9).updLane l LaneSt.calm := by
    rw [Block.patWrite_eq, if_pos (by rw [show F.PAT_CFG_GEN_PAT.of 297 = 4 from rfl, show F.PAT_CFG_CHK_PAT.of 297 = 4 from rfl, hpat]; rfl),
      Block.laneTestState_tests ((hch.fld (by simp)).trans hp) ht, Block.portLoses_fed hr]
  have hs := (b.patSet l 297).setLane_changes l 9
  rw [he]
  refine ⟨?_, ?_, ?_, Block.setLane_laneState _ _ _ ((hch.laneBist hl (by decide) l).trans hb)⟩
  · exact (hs.fld (by simp)).trans hgen
  · exact (hs.fld (by simp)).trans (hf F.PAT_CFG_CHK_EN (by simp))
  · exact (hs.fld (by simp)).trans (hf F.PAT_CFG_GEN_PAT (by simp))

/-! ### LANE_EYE (R172, R181) -/

/-- The payload of a `LANE_EYE` at a point, with a dwell of 16. -/
def eyePayload (l : Nat) : List Byte := leBytes 2 l ++ [0, 16, 1, 5, 6, 0]

theorem laneEye_runs (hl : l ≤ 344) (he : laneHasEye l = true) (hh : b.laneHas l = true) (ht : b.laneTested l = false)
    (hs : b.on F.BIST_STATUS_SAFE 0 = false) (hv : b.laneServing l = false) (ch : Nat) :
    laneEye ch (eyePayload l) b = (b.eyeStarted l 100991235).answer ch St.ACCEPTED [] := by
  have hp0 : le (eyePayload l) 0 2 = l := le_lane hl _
  have hp2 : le (eyePayload l) 2 1 = 0 := rfl
  have hp3 : le (eyePayload l) 3 1 = 16 := rfl
  have hp4 : le (eyePayload l) 4 1 = 1 := rfl
  have hp5 : le (eyePayload l) 5 1 = 5 := rfl
  have hp6 : le (eyePayload l) 6 1 = 6 := rfl
  have hp7 : le (eyePayload l) 7 1 = 0 := rfl
  have hlen : (eyePayload l).length = 8 := rfl
  have hf : b.laneForce l = b := if_pos (by simp [hv])
  have hg : eyeGo l 100991235 b = b.eyeStarted l 100991235 := eyeGo_starts b l he (.inr (by decide)) (by decide)
  unfold laneEye
  simp only [hp0, hp2, hp3, hp4, hp5, hp6, hp7, hlen, he, beq_self_eq_true, Bool.or_true]
  refine (Block.command_runs (Block.laneChecks_pass hl hh ht) hs (by simp [hv, firstFail]) _).trans ?_
  rw [hf, ← hg]
  rfl

/-! ### LANE_GET_STATS (R182, R183) -/

/-- The device with what a snapshot of the lane brings up to date. -/
def Block.statsLive (b : Block) (l : Nat) : Block := (b.snrLive l).eqLive l

/-- The 40 bytes of a snapshot. -/
def Block.statsOf (b : Block) (l : Nat) : List Byte :=
  b.word4 laneStatusFields l ++ b.word4 laneHistFields l ++ leBytes 8 (b.lane l).errs ++ leBytes 8 (b.lane l).bits
    ++ b.word4 [F.LANE_FAULT_CNT_TRANSIENT, F.LANE_FAULT_CNT_LASTING_CNT] l
    ++ leBytes 2 (b.fld F.LANE_SNR_SNR l) ++ [0, 0] ++ b.word4 txEqFields l ++ b.word4 rxEqFields l

theorem laneGetStats_runs (hl : l ≤ 344) (hh : b.laneHas l = true) (ht : b.laneTested l = false) (hs : b.on F.BIST_STATUS_SAFE 0 = false)
    (hi : b.on F.PAT_CFG_IN_SYNC l = false) (ch errs units : Nat) :
    laneGetStats ch (leBytes 2 l ++ [0, 0]) errs units b = (b.statsLive l).ok ch ((b.statsLive l).statsOf l) := by
  have hp0 : le (leBytes 2 l ++ [0, 0]) 0 2 = l := le_lane hl _
  have hp2 : le (leBytes 2 l ++ [0, 0]) 2 1 = 0 := rfl
  have hz : zeros (leBytes 2 l ++ [0, 0]) 3 1 = true := rfl
  have hlen : (leBytes 2 l ++ [0, 0]).length = 4 := rfl
  unfold laneGetStats
  simp only [hp0, hp2, hz, hlen]
  refine (Block.command_runs (Block.laneChecks_pass hl hh ht) hs rfl _).trans ?_
  rw [Block.chkCount_unsynced hi]
  rfl

@[simp] theorem Block.word4_length (b : Block) (fs : List Field) (n : Nat) : (b.word4 fs n).length = 4 := leBytes_length _ _

theorem Block.statsOf_length (b : Block) (l : Nat) : (b.statsOf l).length = 40 := by simp [Block.statsOf]

theorem Block.statsOf_errs (b : Block) (l : Nat) (h : (b.lane l).errs < 2 ^ 48) : le (b.statsOf l) 8 8 = (b.lane l).errs := by
  unfold Block.statsOf
  rw [le_append_left (by simp), le_append_left (by simp), le_append_left (by simp), le_append_left (by simp), le_append_left (by simp),
    le_append_left (by simp), le_append_right (by simp)]
  simp
  omega

theorem Block.statsLive_changes (b : Block) (l : Nat) : b.changes l (F.LANE_SNR_SNR :: eqFields) (b.statsLive l) := by
  have hs : b.changes l (F.LANE_SNR_SNR :: eqFields) (b.snrLive l) := by
    unfold Block.snrLive
    split
    · exact (Block.changes.refl _ _ _).setFree (by simp)
    · exact (Block.changes.refl _ _ _).setFld (by simp) _
  exact hs.andThen (Block.eqLive_changes _ l) (by simp)

theorem Block.statsLive_lane (b : Block) (l : Nat) : (b.statsLive l).lane l = b.lane l := by
  unfold Block.statsLive Block.snrLive
  split <;> simp

/-- A snapshot of a lane out of the table is refused. -/
theorem laneGetStats_range (b : Block) (ch errs units : Nat) : laneGetStats ch [0x59, 1, 0, 0] errs units b = b.answer ch St.BAD_ARG [] := rfl

/-! ### LANE_SET_EQ (R184) -/

/-- The payload of a `LANE_SET_EQ` that writes, freezes and loads. -/
def eqPayload (l : Nat) : List Byte := leBytes 2 l ++ [11, 0, 0, 0, 64, 0, 31, 63, 0, 0] ++ leBytes 4 0xA1B2C3D4 ++ leBytes 4 (2 ^ 32 - 1)

/-- The lane's own state with the values that the payload gives. -/
@[simp] def LaneSt.given (s : LaneSt) : LaneSt := { s with wroteEq := 2047, wroteA := 0xA1B2C3D4, wroteB := 2 ^ 32 - 1 }

/-- The device with the transmit taps given, and the receive values kept for a load. -/
def Block.eqGiven (b : Block) (l : Nat) : Block := (b.txEqWrite l 4194304).updLane l LaneSt.given

/-- The device with the receive values given frozen and loaded. -/
def Block.eqSet (b : Block) (l : Nat) : Block := ((((b.eqGiven l).set F.RX_EQ_FREEZE l).freezeNow l).eqLoad l).eqLive l

/-- What the answer shows of the equalisers. -/
def Block.eqAnswer (b : Block) (l : Nat) : List Byte :=
  b.word4 txEqFields l ++ b.word4 rxEqFields l ++ leBytes 4 (b.fld F.RX_DFE_A_TAP1_4 l) ++ leBytes 4 (b.fld F.RX_DFE_B_TAP5_8 l)

theorem laneSetEq_runs (hl : l ≤ 344) (hc : laneClass l ≠ .pcie) (hh : b.laneHas l = true) (ht : b.laneTested l = false)
    (hs : b.on F.BIST_STATUS_SAFE 0 = false) (ch : Nat) : laneSetEq ch (eqPayload l) b = (b.eqSet l).ok ch ((b.eqSet l).eqAnswer l) := by
  have hp0 : le (eqPayload l) 0 2 = l := by
    unfold eqPayload
    rw [List.append_assoc, List.append_assoc]
    exact le_lane hl _
  have hp2 : le (eqPayload l) 2 1 = 11 := rfl
  have hp4 : le (eqPayload l) 4 4 = 4194304 := congrArg leNat (show bytesAt (eqPayload l) 4 4 = [0, 0, 64, 0] from rfl)
  have hp8 : le (eqPayload l) 8 1 = 31 := rfl
  have hp9 : le (eqPayload l) 9 1 = 63 := rfl
  have hpa : le (eqPayload l) 12 4 = 0xA1B2C3D4 := by
    rw [eqPayload, le_append_left (by simp), le_append_right (by simp)]
    simp
  have hpb : le (eqPayload l) 16 4 = 2 ^ 32 - 1 := by
    rw [eqPayload, le_append_right (by simp)]
    simp
  have hz : zeros (eqPayload l) 3 1 = true ∧ zeros (eqPayload l) 10 2 = true := ⟨rfl, rfl⟩
  have hlen : (eqPayload l).length = 20 := rfl
  have hw : (if laneHasPre2 l then 4194304 else 4194304 / 256 * 256) = 4194304 := ite_self _
  have hok : txEqOk 4194304 = true := by simp [txEqOk, bitsOf, signedOf]
  have hpcie := decide_pcie (n := 343) hc (by decide)
  unfold laneSetEq
  simp only [hp0, hp2, hp4, hp8, hp9, hpa, hpb, hz, hlen, hw, hok, hpcie]
  exact (Block.command_runs (Block.laneChecks_pass hl hh ht) hs rfl _).trans rfl

theorem Block.eqLive_frozen (h : b.on F.LANE_STATUS_FROZEN l = true) : b.eqLive l = b :=
  Block.ite_cases (P := (· = b)) _ rfl (if_pos h)

theorem Block.eqGiven_changes (b : Block) (l : Nat) : b.changes l tapsFields (b.eqGiven l) ∧ (b.eqGiven l).fld F.TX_EQ_MAIN l = 64 := by
  have hw : (if laneHasPre2 l then 4194304 else 4194304 / 256 * 256) = 4194304 := ite_self _
  have hok : txEqOk 4194304 = true := by simp [txEqOk, bitsOf, signedOf]
  have he : b.txEqWrite l 4194304 =
      b.storeWord ((if laneHasPre2 l then [F.TX_EQ_PRE2] else []) ++ [F.TX_EQ_PRE1, F.TX_EQ_MAIN, F.TX_EQ_POST1]) l 4194304 := by
    unfold Block.txEqWrite
    rw [hw, if_pos hok]
  unfold Block.eqGiven
  rw [he]
  cases laneHasPre2 l with
  | true => exact ⟨((Block.changes.refl _ _ _).storeWord (by simp) _).updLane _, (b.fld_storeWord (by simp) rfl (by simp) _).trans (Field.stored_of_any rfl _)⟩
  | false => exact ⟨((Block.changes.refl _ _ _).storeWord (by simp) _).updLane _, (b.fld_storeWord (by simp) rfl (by simp) _).trans (Field.stored_of_any rfl _)⟩

theorem Block.txEqWrite_lane (b : Block) (l v j : Nat) : (b.txEqWrite l v).lane j = b.lane j := by
  unfold Block.txEqWrite
  extract_lets w
  split
  · exact Block.storeWord_lane _ _ _ _ _
  · rfl

theorem Block.eqGiven_lane (b : Block) (l : Nat) : (b.eqGiven l).lane l = (b.lane l).given := by
  rw [Block.eqGiven, Block.lane_updLane_same, Block.txEqWrite_lane]

/-- Values given, frozen and loaded are in use (R184). -/
theorem Block.eqSet_fields (b : Block) (l : Nat) (h4 : b.laneState l ≠ 4) (h7 : b.laneState l ≠ 7) :
    (laneHasCtle l = true → (b.eqSet l).fld F.RX_EQ_CTLE l = 31) ∧ (laneHasVga l = true → (b.eqSet l).fld F.RX_EQ_VGA l = 63) ∧
      (laneHasDfe l = true → (b.eqSet l).fld F.RX_DFE_A_TAP1_4 l = 0xA1B2C3D4) ∧ (b.eqSet l).fld F.RX_EQ_FREEZE l = 1 ∧
      (b.eqSet l).fld F.LANE_STATUS_FROZEN l = 1 ∧ (b.eqSet l).fld F.TX_EQ_MAIN l = 64 := by
  obtain ⟨hg, hmain⟩ := b.eqGiven_changes l
  have hset : b.changes l (F.RX_EQ_FREEZE :: tapsFields) ((b.eqGiven l).set F.RX_EQ_FREEZE l) := (hg.mono (by simp)).setFld (by simp) 1
  have hst : ((b.eqGiven l).set F.RX_EQ_FREEZE l).laneState l = b.laneState l := hset.laneState (by simp)
  have hnow : ((b.eqGiven l).set F.RX_EQ_FREEZE l).changes l (F.LANE_STATUS_FROZEN :: eqFields) (((b.eqGiven l).set F.RX_EQ_FREEZE l).freezeNow l) :=
    Block.freezeNow_changes _ l
  have hlane : (((b.eqGiven l).set F.RX_EQ_FREEZE l).freezeNow l).lane l = (b.lane l).given := by
    rw [Block.freezeNow_lane, Block.set_lane, Block.eqGiven_lane]
  have hfz : (((b.eqGiven l).set F.RX_EQ_FREEZE l).freezeNow l).fld F.LANE_STATUS_FROZEN l = 1 := by
    rw [Block.freezeNow_untrained (hst ▸ h4) (hst ▸ h7), Block.fld_setFld_same, Block.fld_set_same]
    rfl
  have hload := Block.eqLoad_changes (((b.eqGiven l).set F.RX_EQ_FREEZE l).freezeNow l) l
  have hon : ((((b.eqGiven l).set F.RX_EQ_FREEZE l).freezeNow l).eqLoad l).on F.LANE_STATUS_FROZEN l = true :=
    beq_iff_eq.mpr ((hload.fld (by simp)).trans hfz)
  obtain ⟨hctle, hvga, hdfe⟩ := Block.eqLoad_fields (((b.eqGiven l).set F.RX_EQ_FREEZE l).freezeNow l) l
  simp only [hlane, LaneSt.given, Nat.reduceMod, Nat.reduceDiv, Nat.reducePow] at hctle hvga hdfe
  rw [Block.eqSet, Block.eqLive_frozen hon]
  refine ⟨hctle, hvga, fun h => (hdfe h).1, ?_, ?_, ?_⟩
  · rw [hload.fld (by simp), hnow.fld (by simp)]
    exact Block.fld_set_same _ _ _
  · rw [hload.fld (by simp), hfz]
  · rw [hload.fld (by simp), hnow.fld (by simp), Block.fld_set_ne _ (by simp), hmain]

end

end Sys2Proof.Machine
end

section
/-!
Equalisers, eye monitor, checkers and the lane commands: O13.
-/
namespace Sys2Proof.Machine
set_option Elab.async false

/-- The lanes that transmit and are not of a fabric port. -/
theorem laneClass_sends {l : Nat} (h : (128 ≤ l ∧ l < 256) ∨ (324 ≤ l ∧ l < 332) ∨ l = 344) : laneClass l ≠ .mediaRx := by
  unfold laneClass
  split_ifs <;> simp
  omega

/-- A command that answers has answered. -/
theorem answered_of_replies {t : State} {b : Block} {ch st : Nat} {d : List Byte} (h : t.replies = (b.answer ch st d).replies) : t.answered ch st d := by
  rw [State.answered, h]
  exact Bank.look_put_same b.replies ch (some ⟨st, d⟩)

/-- So has one that answers and means nothing for a port. -/
theorem answered_of_effect {s : State} {f : Block → Block} {b : Block} {ch st : Nat} {d : List Byte} (h : f s.quiet = b.answer ch st d) :
    State.answered { s with toBlock := s.effect f } ch st d := answered_of_replies (b := b) (congrArg Block.replies h :)

/-- A command that is refused does nothing else. -/
theorem onlyAnswer_effect {s : State} {f : Block → Block} {ch st : Nat} {d : List Byte} (h : f s.quiet = s.quiet.answer ch st d) :
    s.onlyAnswer { s with toBlock := s.effect f } ch [] := by
  refine ⟨regsKept_effect ?_, ?_, fun c hc => ?_⟩
  · rw [h]
    exact s.toBlock.keeps_refl _
  · unfold State.restAnswered Block.effect
    rw [h]
    rfl
  · rw [Block.effect_replies, h]
    exact Bank.look_put_ne s.quiet.replies (some ⟨st, d⟩) hc

/-- Settles O13: each command is an operation on its lane, of which a lemma above says what it leaves, whose checks are met (`Block.command_runs`). -/
theorem equalisersEyesAndCheckersAct : Obligations.EqualisersEyesAndCheckersAct := by
  unfold Obligations.EqualisersEyesAndCheckersAct
  intro s l ch hs hl
  have hson : s.fld F.BIST_STATUS_SAFE 0 = 0 → s.quiet.on F.BIST_STATUS_SAFE 0 = false := fun h => by simp [Block.on, h]
  refine ⟨fun v hre h4 h7 => ?_, fun v hre h47 => ?_, fun v hre hv => ?_, fun v hre hv => ?_, fun v hre he h3 hv hi => ?_, fun v hre he => ?_,
    fun w h errs hh he hm => ?_, fun w h errs hh he => ?_, fun w h errs full hm he => ?_, fun bits hh he hsy hc hp hb hf => ?_, fun bits hm hf => ?_,
    fun errs units window hh he hsy hw => ?_, fun errs units hre hsy => ?_, fun errs units hre hsy => ?_, fun v hc hre h0 hp hv => ?_, fun v hre h0 => ?_,
    fun hsafe hh htd => ⟨fun hc hsv hb hlb hp => ?_, fun errs units hsy hn => ?_, fun hc h4 h7 => ?_, fun he hsv => ?_⟩, fun errs units => ?_⟩
  · refine ⟨_, run_reaches hs hre false _, s.quiet.rxEqStore_freeze l v.toNat, Block.rxEqStore_frozen (b := s.quiet) v.toNat h4 h7,
      congrArg LaneSt.wroteEq (s.quiet.rxEqStore_lane l v.toNat), regsKept_effect (s.quiet.rxEqStore_changes l v.toNat).regs⟩
  · have he : freezeWrite l v.toNat s.quiet = s.quiet.freezeStored l v.toNat := Block.rxEqStore_training (b := s.quiet) v.toNat h47
    refine ⟨_, run_reaches hs hre false _, s.quiet.rxEqStore_freeze l v.toNat, regsKept_effect ?_⟩
    rw [he]
    exact (s.quiet.freezeStored_changes l v.toNat).regs
  · obtain ⟨hctle, hvga, hdfe⟩ := (s.quiet.rxEqStore l v.toNat).eqLoad_fields l
    rw [← rxEqLoad_loads s.quiet l hv, Block.rxEqStore_lane] at hctle hvga hdfe
    refine ⟨_, run_reaches hs hre false _, fun h => (hctle h).trans ?_, fun h => (hvga h).trans ?_, hdfe⟩
    · simp only [LaneSt.wrote]
      omega
    · simp only [LaneSt.wrote]
      omega
  · obtain ⟨hr, -, -⟩ := (s.quiet.rxEqStore l v.toNat).reject_lane_fields l
    have hw := (s.quiet.rxEqStore l v.toNat).reject_writes F.LANE_HIST_CFG_REJECTED l 4
    rw [← rxEqLoad_rejects s.quiet l hv] at hr hw
    refine ⟨_, run_reaches hs hre false _, hr, fun hst => ⟨(hw.1.fld ?_).trans ?_, (hw.1.fld ?_).trans ?_⟩⟩
    · simp
      omega
    · exact (Block.rxEqStore_still (b := s.quiet) v.toNat hst).fld (by simp)
    · simp
      omega
    · exact (Block.rxEqStore_still (b := s.quiet) v.toNat hst).fld (by simp)
  · have he : eyeGo l v.toNat s.quiet = s.quiet.eyeStarted l v.toNat := eyeGo_starts s.quiet l he h3 hv
    have hk := Block.eyeStarted_changes (b := s.quiet) v.toNat hi
    have hy := s.quiet.eyeStarted_eye l v.toNat
    obtain ⟨hmode, hphase, -⟩ := s.quiet.eyeStarted_fields l v.toNat
    rw [← he] at hk hy hmode hphase
    exact ⟨_, run_reaches hs hre false _, hy, hmode, hphase, regsKept_effect hk.regs⟩
  · obtain ⟨hr, -, -⟩ := s.quiet.reject_lane_fields l
    have hw := s.quiet.reject_writes F.LANE_HIST_CFG_REJECTED l 4
    rw [← eyeGo_rejects s.quiet l v.toNat he] at hr hw
    exact ⟨_, run_reaches hs hre false _, hr, onlyRegs_effect hw⟩
  · have hb := effect_atLane hh (eyeMeasurementEnd l w h errs true)
    rw [eyeMeasurementEnd_full (b := s.quiet) he hm] at hb
    obtain ⟨hy, hk⟩ := s.quiet.eyeMeasured_still l w h
    obtain ⟨hW, hH, hV, hD⟩ := s.quiet.eyeMeasured_fields l w h
    refine ⟨_, run_live _ hs, (congrArg LaneSt.eye (hb.lane l)).trans hy, ?_, ?_, ?_, ?_⟩
    · exact (hb.fld rfl hl).trans ((hk _ (by simp)).trans hW)
    · exact (hb.fld rfl hl).trans ((hk _ (by simp)).trans hH)
    · exact (hb.fld rfl hl).trans ((hk _ (by simp)).trans hV)
    · exact (hb.fld rfl hl).trans ((hk _ (by simp)).trans hD)
  · have hb := effect_atLane hh (eyeMeasurementEnd l w h errs false)
    have heq := eyeMeasurementEnd_cut (b := s.quiet) he w h errs
    rw [heq] at hb
    obtain ⟨hy, hk⟩ := s.quiet.eyeAbort_still l
    obtain ⟨hV, hD⟩ := Block.eyeAbort_fields (b := s.quiet) he
    refine ⟨_, run_live _ hs, (congrArg LaneSt.eye (hb.lane l)).trans hy, ?_, ?_, fun hm ht h9 => regsKept_effect ?_⟩
    · exact (hb.fld rfl hl).trans ((hk _ (by simp)).trans hV)
    · exact (hb.fld rfl hl).trans ((hk _ (by simp)).trans hD)
    · have hch := s.quiet.eyeAbort_changes l
      rw [atLane, if_pos (show s.quiet.laneHas l = true from hh), onLane_plain (.inl hm), heq,
        Block.laneTestState_untested ((hch.laneTesting (by simp)).trans ht) (by rwa [hch.laneState (by simp)])]
      exact hch.regs
  · refine ⟨_, run_live _ hs, onlyRegs_effect_self ?_⟩
    rw [atLane, if_pos (s.quiet.laneHas_lt (by omega)), onLane_plain (.inl hm), eyeMeasurementEnd_none (b := s.quiet) he]
  · have heq := checkerSync_gains (b := s.quiet) he hsy hc hp hb hf
    have hbs := effect_atLane hh (checkerSync l bits)
    rw [heq] at hbs
    obtain ⟨hin, hhist⟩ := s.quiet.synced_fields l
    refine ⟨_, run_live _ hs, (hbs.fld rfl hl).trans hin, (hbs.fld rfl hl).trans hhist, fun hm => onlyRegs_effect ?_⟩
    rw [atLane, if_pos (show s.quiet.laneHas l = true from hh), onLane_plain (.inl (by omega)), heq]
    exact s.quiet.synced_writes l
  · refine ⟨_, run_live _ hs, onlyRegs_effect_self ?_⟩
    rw [atLane, if_pos (s.quiet.laneHas_lt (by omega)), onLane_plain (.inl hm), checkerSync_waits (b := s.quiet) hf]
  · have heq := checkerLost_loses (b := s.quiet) he hsy hw errs units
    have hbs := effect_atLane hh (checkerLost l errs units window)
    rw [heq] at hbs
    obtain ⟨hin, hhist, hla⟩ := Block.chkLost_fields (b := s.quiet) hsy errs units
    have hla := (hbs.lane l).trans hla
    refine ⟨_, run_live _ hs, (hbs.fld rfl hl).trans hin, (hbs.fld rfl hl).trans hhist, congrArg LaneSt.errs hla, congrArg LaneSt.bits hla,
      fun hm => regsKept_effect ?_⟩
    rw [atLane, if_pos (show s.quiet.laneHas l = true from hh), onLane_plain (.inl hm), heq]
    exact (s.quiet.chkLost_changes l errs units).regs
  · have heq := chkErrLoRead_eq s.quiet l errs units
    rw [Block.chkCount_unsynced (b := s.quiet) hsy] at heq
    obtain ⟨herr, hlo, hhi⟩ := s.quiet.chkLatch_fields l
    have hw := (s.quiet.chkLatch_writes l).emit (.read ((s.quiet.lane l).errs % 2 ^ 32))
    have ho := (s.quiet.chkLatch l).mem_emit_out (.read ((s.quiet.lane l).errs % 2 ^ 32))
    rw [← heq] at hw ho
    refine ⟨_, run_reaches hs hre true _, mem_effect_out ho, ?_, ?_, ?_, onlyRegs_effect hw⟩
    · exact (congrArg (Block.fld · F.CHK_ERR_HI_ERR l) heq :).trans herr
    · exact (congrArg (Block.fld · F.CHK_BITS_LO_BITS l) heq :).trans hlo
    · exact (congrArg (Block.fld · F.CHK_BITS_HI_BITS l) heq :).trans hhi
  · have heq := chkErrLoRead_eq s.quiet l errs units
    have hla := ((s.quiet.chkCount l errs units).chkLatch_writes l).emit (.read (((s.quiet.chkCount l errs units).lane l).errs % 2 ^ 32))
    obtain ⟨-, hlo, -⟩ := (s.quiet.chkCount l errs units).chkLatch_fields l
    have ho := ((s.quiet.chkCount l errs units).chkLatch l).mem_emit_out (.read (((s.quiet.chkCount l errs units).lane l).errs % 2 ^ 32))
    have hcnt : (s.quiet.chkCount l errs units).lane l = (s.lane l).counted (min ((s.lane l).errs + errs) (2 ^ 48 - 1)) (((s.lane l).bits + units) % 2 ^ 64) := by
      rw [Block.chkCount_synced (b := s.quiet) hsy, Block.lane_updLane_same]
      rfl
    rw [← heq] at hla ho
    have ht := hla.lane l
    refine ⟨_, run_reaches hs hre true _, congrArg LaneSt.errs (ht.trans hcnt), congrArg LaneSt.bits (ht.trans hcnt), ?_, ?_⟩
    · rw [← ht] at ho
      exact mem_effect_out ho
    · rw [← ht] at hlo
      exact (congrArg (Block.fld · F.CHK_BITS_LO_BITS l) heq :).trans hlo
  · have heq := injErr_inverts (b := s.quiet) (laneClass_sends hc) h0 hp hv
    have ho := (s.quiet.patWrite l v.toNat).mem_emit_out (.inverted l)
    rw [← heq] at ho
    exact ⟨_, run_reaches hs hre false _, mem_effect_out ho⟩
  · exact ⟨_, run_reaches hs hre false _, onlyRegs_effect_self (injErr_outside (b := s.quiet) h0 v.toNat)⟩
  · have hpc := laneClass_served_ne (laneClass_served hc)
    have hbs := effect_onLane (le (testPayload l) 0 2) (laneTest ch (testPayload l)) s.toBlock
    rw [laneTest_runs (b := s.quiet) hl hpc.1 hh htd (hson hsafe) hsv] at hbs
    have hu := Block.userSet_changes (b := s.quiet) (l := l) (by omega) hpc.1 hlb
    obtain ⟨hgen, hchk, hpat, hst⟩ := Block.patWrite_tests (b := s.quiet.userSet l) hpc.2 ((hu.laneBist hl (by decide) l).trans hb) hl
      ((hu.fld (by simp)).trans hlb) ((hu.fld (by simp)).trans hp)
    exact ⟨_, run_live _ hs, answered_of_replies hbs.replies, (hbs.fld rfl hl).trans hgen, (hbs.fld rfl hl).trans hchk, (hbs.fld rfl hl).trans hpat,
      (hbs.laneState hl).trans hst⟩
  · have heq := laneGetStats_runs (b := s.quiet) hl hh htd (hson hsafe) hsy ch errs units
    have hla := s.quiet.statsLive_lane l
    have herrs := (s.quiet.statsLive l).statsOf_errs l (by rw [hla]; exact hn)
    rw [hla] at herrs
    refine ⟨_, _, run_live _ hs, answered_of_effect heq, Block.statsOf_length _ l, herrs, regsKept_effect ?_⟩
    rw [heq]
    exact (s.quiet.statsLive_changes l).regs
  · have heq := laneSetEq_runs (b := s.quiet) hl hc hh htd (hson hsafe) ch
    obtain ⟨hctle, hvga, hdfe, hfr, hfz, hmain⟩ := s.quiet.eqSet_fields l h4 h7
    have hf : ∀ f : Field, (s.effect (laneSetEq ch (eqPayload l))).fld f l = (s.quiet.eqSet l).fld f l := fun f => by
      rw [Block.effect_fld, heq]
      rfl
    exact ⟨{ s with toBlock := s.effect (laneSetEq ch (eqPayload l)) }, _, run_live _ hs, answered_of_effect heq, fun h => (hf _).trans (hctle h), fun h => (hf _).trans (hvga h),
      fun h => (hf _).trans (hdfe h), (hf _).trans hfr, (hf _).trans hfz, (hf _).trans hmain⟩
  · have hbs := effect_onLane (le (eyePayload l) 0 2) (laneEye ch (eyePayload l)) s.toBlock
    rw [laneEye_runs (b := s.quiet) hl he hh htd (hson hsafe) hsv] at hbs
    obtain ⟨-, hphase, hvolt⟩ := s.quiet.eyeStarted_fields l 100991235
    exact ⟨_, run_live _ hs, answered_of_replies hbs.replies, (congrArg LaneSt.eye (hbs.lane l)).trans (s.quiet.eyeStarted_eye l 100991235),
      (hbs.fld rfl hl).trans hphase, (hbs.fld rfl hl).trans hvolt⟩
  · have heq := laneGetStats_range s.quiet ch errs units
    exact ⟨_, run_live _ hs, answered_of_effect heq, onlyAnswer_effect heq⟩

end Sys2Proof.Machine
end
section
/-!
A serial port's registers, its two lanes and its own state, and what other parts of the device leave of them (R186 to R218).
-/
namespace Sys2Proof.Machine
set_option Elab.async false

/-! ### The rows of the serial ports (R712) -/

/-- The field stands in the row of 16 words that each receiver has, and each transmitter. -/
def Field.inRows (f : Field) (base : Nat) : Bool :=
  f.reg.off / 64 == base / 64 && f.reg.stride == 64 && f.reg.count2 == 1 && decide (f.reg.off % 64 * 32 + f.lo < 2048)
def Field.ofRx (f : Field) : Bool := f.inRows 0x0501000
def Field.ofTx (f : Field) : Bool := f.inRows 0x0601000

/-- The keys of receiver `n`'s row, and of transmitter `n`'s, share their quotient by 2,048. -/
def rxRow (n : Nat) : Nat := 0x0501000 / 64 + n
def txRow (n : Nat) : Nat := 0x0601000 / 64 + n

theorem Field.key_inRows {f : Field} {base : Nat} (h : f.inRows base = true) (n : Nat) : f.key n / 2048 = base / 64 + n := by
  simp only [Field.inRows, Bool.and_eq_true, beq_iff_eq, decide_eq_true_eq] at h
  obtain ⟨⟨⟨hoff, hs⟩, hc⟩, hlo⟩ := h
  rw [Field.key_plain f n hc, hs]
  omega

theorem Field.key_rxRow {f : Field} (h : f.ofRx = true) (n : Nat) : f.key n / 2048 = rxRow n := Field.key_inRows h n
theorem Field.key_txRow {f : Field} (h : f.ofTx = true) (n : Nat) : f.key n / 2048 = txRow n := Field.key_inRows h n

/-- The keys that serial port `n` depends on: power domains, timelines, its two lanes, its receiver, the crews and its transmitter. -/
def portKey (n k : Nat) : Prop :=
  k < 0x0100000 * 32 ∨ (F.REF_CFG_PRIO.key 0 ≤ k ∧ k < lanesKey) ∨ k / 4096 = rowOf n ∨ k / 4096 = rowOf (128 + n) ∨ k / 2048 = rxRow n ∨
    (0x0600000 * 32 ≤ k ∧ k < 0x0601000 * 32) ∨ k / 2048 = txRow n

section
variable {n : Nat} {f : Field}

theorem portKey_rx (h : f.ofRx = true) : portKey n (f.key n) := by simp [portKey, Field.key_rxRow h]
theorem portKey_tx (h : f.ofTx = true) : portKey n (f.key n) := by simp [portKey, Field.key_txRow h]
theorem portKey_rxLane (h : f.ofLane = true) : portKey n (f.key n) := by simp [portKey, Field.key_row h]
theorem portKey_txLane (h : f.ofLane = true) : portKey n (f.key (128 + n)) := by simp [portKey, Field.key_row h]

variable (hn : n < 128)
include hn

theorem portKey_lt {k : Nat} (h : portKey n k) : k < 0x0700000 * 32 := by
  simp only [portKey, F.REF_CFG_PRIO_key, lanesKey, rowOf, rxRow, txRow] at h
  omega

/-- Another lane, another receiver and another transmitter are none of the port's. -/
theorem not_portKey_lane (h : f.ofLane = true) {l : Nat} (hl : l ≤ 344) (h0 : l ≠ n) (h1 : l ≠ 128 + n) : ¬portKey n (f.key l) := by
  have hk := Field.key_row h l
  simp only [portKey, F.REF_CFG_PRIO_key, lanesKey, rowOf, rxRow, txRow] at hk ⊢
  omega

theorem not_portKey_rx (h : f.ofRx = true) {m : Nat} (hm : m ≤ 344) (hne : m ≠ n) : ¬portKey n (f.key m) := by
  have hk := Field.key_rxRow h m
  simp only [portKey, F.REF_CFG_PRIO_key, lanesKey, rowOf, rxRow, txRow] at hk ⊢
  omega

theorem not_portKey_tx (h : f.ofTx = true) {m : Nat} (hm : m ≤ 344) (hne : m ≠ n) : ¬portKey n (f.key m) := by
  have hk := Field.key_txRow h m
  simp only [portKey, F.REF_CFG_PRIO_key, lanesKey, rowOf, rxRow, txRow] at hk ⊢
  omega

end

/-! ### A port that an operation spares -/

/-- `c` is `b` with what serial port `n` depends on as it was; what `b` has shown, `c` has. -/
structure Block.sparesPort (b : Block) (n : Nat) (c : Block) : Prop where
  regs : ∀ k, portKey n k → c.regs.look k = b.regs.look k
  rx : c.rx n = b.rx n
  tx : c.tx n = b.tx n
  out : b.out ⊆ c.out

namespace Block.sparesPort

theorem refl (b : Block) (n : Nat) : b.sparesPort n b := ⟨fun _ _ => rfl, rfl, rfl, List.Subset.refl _⟩

section
variable {b c d : Block} {n : Nat}

theorem trans (h : b.sparesPort n c) (k : c.sparesPort n d) : b.sparesPort n d :=
  ⟨fun a ha => (k.regs a ha).trans (h.regs a ha), k.rx.trans h.rx, k.tx.trans h.tx, fun _ ho => k.out (h.out ho)⟩

theorem fld (h : b.sparesPort n c) {f : Field} {m : Nat} (hf : portKey n (f.key m)) : c.fld f m = b.fld f m := by
  unfold Block.fld
  rw [h.regs _ hf]

/-- What has the same registers, the same ports and has shown no less. -/
theorem of_same (h : b.sparesPort n c) (hr : d.regs = c.regs := by rfl) (hx : d.rx n = c.rx n := by rfl) (ht : d.tx n = c.tx n := by rfl)
    (ho : d.out = c.out := by rfl) : b.sparesPort n d :=
  ⟨fun k hk => (congrArg (·.look k) hr).trans (h.regs k hk), hx.trans h.rx, ht.trans h.tx, ho ▸ h.out⟩

theorem setFld (h : b.sparesPort n c) {g : Field} {m : Nat} (hg : ¬portKey n (g.key m)) (v : Nat) : b.sparesPort n (c.setFld g m v) :=
  ⟨fun k hk => (c.look_setFld_ne v fun he => hg (he ▸ hk)).trans (h.regs k hk), h.rx, h.tx, h.out⟩

theorem emit (h : b.sparesPort n c) (o : Out) : b.sparesPort n (c.emit o) :=
  ⟨h.regs, h.rx, h.tx, fun _ hx => List.mem_append_left _ (h.out hx)⟩

theorem updRx (h : b.sparesPort n c) {m : Nat} (hm : n ≠ m) (f : SdiRxSt → SdiRxSt) : b.sparesPort n (c.updRx m f) :=
  h.of_same (hx := Bank.look_upd_ne _ _ hm)

theorem updTx (h : b.sparesPort n c) {m : Nat} (hm : n ≠ m) (f : SdiTxSt → SdiTxSt) : b.sparesPort n (c.updTx m f) :=
  h.of_same (ht := Bank.look_upd_ne _ _ hm)

theorem ite (h : b.sparesPort n c) (p : Bool) {f : Block → Block} (hf : b.sparesPort n (f c)) : b.sparesPort n (c.ite p f) :=
  Block.ite_cases (P := b.sparesPort n) p h hf

theorem each (h : b.sparesPort n c) {α : Type} (l : List α) {f : Block → α → Block} (hf : ∀ d, ∀ x ∈ l, b.sparesPort n d → b.sparesPort n (f d x)) :
    b.sparesPort n (c.each l f) := Block.each_induction (P := b.sparesPort n) h hf

/-- The port's lanes are supplied as before (R177). -/
theorem laneOn (h : b.sparesPort n c) {l : Nat} (hl : l < 256) : c.laneOn l = b.laneOn l := by
  unfold Block.laneOn
  rw [laneDomain, if_pos hl]
  exact congrArg (bitOf · (l % 128 / 8 % 32)) (h.fld (by simp only [portKey, F.PWR_DOM_ON_ON_key]; omega))

end

/-! ### The lanes of another port (R141, R175) -/

section
variable {b c : Block} {n : Nat} (h : b.sparesPort n c) (hn : n < 128)

include h hn in
/-- A change of one lane that is none of the port's. -/
theorem of_changes {d : Block} {l : Nat} {fs : List Field} (hd : c.changes l fs d) (hl : l ≤ 344) (h0 : l ≠ n) (h1 : l ≠ 128 + n) (ho : d.out = c.out)
    (hfs : ∀ f ∈ fs, f.ofLane = true := by decide) : b.sparesPort n d := by
  refine ⟨fun k hk => (hd.regs k fun hm => ?_).trans (h.regs k hk), ?_, ?_, ho ▸ h.out⟩
  · obtain ⟨f, hf, rfl⟩ := List.mem_map.mp hm
    exact not_portKey_lane hn (hfs f hf) hl h0 h1 hk
  · exact (congrArg (fun x : Block => x.rx n) hd.rest :).trans h.rx
  · exact (congrArg (fun x : Block => x.tx n) hd.rest :).trans h.tx

end

end Block.sparesPort

/-! ### The lanes' operations show nothing -/

section
variable (b : Block) (l : Nat)

@[simp] theorem Block.out_ite (p : Bool) (f : Block → Block) : (b.ite p f).out = if p then (f b).out else b.out := by cases p <;> rfl
@[simp] theorem Block.adaptNow_out : (b.adaptNow l).out = b.out := by
  unfold Block.adaptNow
  split
  · rfl
  · simp [Block.setFree, Block.fresh]
@[simp] theorem Block.eqLive_out : (b.eqLive l).out = b.out := by simp [Block.eqLive]
@[simp] theorem Block.setLane_out (st : Nat) : (b.setLane l st).out = b.out := by simp [Block.setLane]
@[simp] theorem Block.setRateNow_out (r : Nat) : (b.setRateNow l r).out = b.out := rfl
@[simp] theorem Block.eyeAbort_out : (b.eyeAbort l).out = b.out := by
  unfold Block.eyeAbort
  split <;> rfl
@[simp] theorem Block.chkLive_out : (b.chkLive l).out = b.out := by
  unfold Block.chkLive Block.chkCount
  split
  · split <;> rfl
  · rfl
@[simp] theorem Block.lanePower_out (p : Nat) : (b.lanePower l p).out = b.out := by simp [Block.lanePower_eq, Block.powerMove]

end

namespace Block.sparesPort

section
variable {b c : Block} {n : Nat} (h : b.sparesPort n c) (hn : n < 128)
include h hn

theorem lanePower {l : Nat} (hl : l ≤ 344) (h0 : l ≠ n) (h1 : l ≠ 128 + n) (p : Nat) : b.sparesPort n (c.lanePower l p) :=
  h.of_changes hn (c.lanePower_changes l p) hl h0 h1 (c.lanePower_out l p)

/-! ### Candidates and stalls (R39, R268) -/

/-- A write beyond the serial ports' blocks. -/
theorem setFld_beyond {g : Field} {m : Nat} (v : Nat) (hg : 0x0700000 ≤ g.reg.off := by decide) : b.sparesPort n (c.setFld g m v) := by
  refine h.setFld (fun hk => ?_) v
  have hlt := portKey_lt hn hk
  rw [Field.key, Reg.addr] at hlt
  omega

theorem candInput (kind idx : Nat) : b.sparesPort n (c.candInput kind idx) := by
  have hk : ∀ k, 0x0200000 * 32 ≤ k → k < F.REF_CFG_PRIO.key 0 → ¬portKey n k := fun k h0 h1 => by
    simp only [portKey, F.REF_CFG_PRIO_key, lanesKey, rowOf, rxRow, txRow] at h1 ⊢
    omega
  refine h.each _ fun d m _ hd => hd.ite _ ?_
  unfold Block.candInvalid
  split
  · extract_lets invalid
    have hi : b.sparesPort n invalid :=
      ((hd.setFld (hk _ (by simp) (by simp)) _).setFld (hk _ (by simp) (by simp)) _).setFld (hk _ (by simp) (by simp)) _
    exact hi.ite _ hi.of_same
  · exact hd

theorem stallShow (j : Nat) : b.sparesPort n (c.stallShow j) := by
  unfold Block.stallShow
  extract_lets s act black shown shows
  have hs : b.sparesPort n shows := h.of_same
  clear_value shows shown
  cases shown with
  | none => exact ((hs.setFld_beyond hn _).setFld_beyond hn _).setFld_beyond hn _
  | some w => exact ((hs.setFld_beyond hn _).setFld_beyond hn _).setFld_beyond hn _

theorem stallLoss (j : Nat) : b.sparesPort n (c.stallLoss j) := by
  unfold Block.stallLoss
  split
  · have hl : b.sparesPort n ((c.setFld F.STALL_STATUS_STATE j 3).set F.STALL_HIST_LOS_ENTERED j) := (h.setFld_beyond hn _).setFld_beyond hn _
    exact stallShow hl.of_same hn j
  · exact h

end

end Block.sparesPort

end Sys2Proof.Machine
end
section
/-!
A receiver's own operations: what it gives, how it starts over, its lanes on and off (R193 to R196).
-/
namespace Sys2Proof.Machine
set_option Elab.async false

@[simp] theorem Block.rx_updRx_same (b : Block) (n : Nat) (f : SdiRxSt → SdiRxSt) : (b.updRx n f).rx n = f (b.rx n) := Bank.look_upd_same _ _ _
@[simp] theorem Block.setFld_rx (b : Block) (f : Field) (m v n : Nat) : (b.setFld f m v).rx n = b.rx n := rfl

/-! ### The lanes of a receiver -/

theorem Block.self_mem_rxLanes (b : Block) (n : Nat) : n ∈ b.rxLanes n := by
  unfold Block.rxLanes
  split <;> simp

theorem Block.mem_rxLanes {b : Block} {n l : Nat} (h : l ∈ b.rxLanes n) : n ≤ l ∧ l ≤ n + 3 := by
  unfold Block.rxLanes at h
  split at h <;> simp at h <;> omega

section
variable {b c : Block} {ls : List Nat} (h : b.within ls c)
include h

/-- The receivers' and transmitters' registers are in no lane's row. -/
theorem Block.within.fld_port {f : Field} {n : Nat} (hf : f.ofRx = true ∨ f.ofTx = true) (hls : ∀ l ∈ ls, l ≤ 344) : c.fld f n = b.fld f n := by
  refine h.fld_row fun l hl => ?_
  have hle := hls l hl
  rcases hf with hf | hf
  · have hk := Field.key_rxRow hf n
    simp only [rxRow, rowOf] at hk ⊢
    omega
  · have hk := Field.key_txRow hf n
    simp only [txRow, rowOf] at hk ⊢
    omega

end

/-! ### The frame under way is given up, and the receiver starts over (R39, R196) -/

/-- The receiver's registers and its lanes' are not what it gives a frame by. -/
@[simp] theorem Block.rxCut_regs (b : Block) (n : Nat) : (b.rxCut n).regs = b.regs := by
  unfold Block.rxCut
  split <;> rfl
@[simp] theorem Block.rxCut_fld (b : Block) (n : Nat) (f : Field) (m : Nat) : (b.rxCut n).fld f m = b.fld f m := Block.fld_congr (b.rxCut_regs n) f m

@[simp] theorem Block.rxCut_stopping (b : Block) (n : Nat) : ((b.rxCut n).rx n).stopping = (b.rx n).stopping := by
  unfold Block.rxCut
  split
  · exact (congrArg SdiRxSt.stopping (Block.rx_updRx_same (b.emit _) n _) :)
  · rfl

/-- A receiver's registers and its own state as it starts over in a state. -/
def Block.rxReset (b : Block) (n st : Nat) : Block :=
  (b.updRx n fun s => { (default : SdiRxSt) with stopping := decide (st = 1) && s.stopping, given := s.given }).setFld F.SDI_RX_STATUS_STATE n st

theorem Block.rxFresh_from (b : Block) {n m : Nat} (hn : n < 128) (st : Nat) : (b.rxReset m st).sparesPort n (b.rxFresh m st) :=
  ((Block.sparesPort.refl _ n).stallLoss hn m).candInput hn 6 m

section
variable (b : Block) {n : Nat} (hn : n < 128) (st : Nat)
include hn

theorem Block.rxFresh_rxState : (b.rxFresh n st).rxState n = st % 4 :=
  ((b.rxFresh_from hn st).fld (portKey_rx rfl)).trans (Block.fld_setFld_same _ _ _ _)

/-- Beside the receiver's state a fresh start writes none of the port's registers. -/
theorem Block.rxFresh_fld {f : Field} {m : Nat} (hf : portKey n (f.key m)) (hne : f.key m ≠ F.SDI_RX_STATUS_STATE.key n) :
    (b.rxFresh n st).fld f m = b.fld f m := ((b.rxFresh_from hn st).fld hf).trans (Block.fld_setFld_ne _ _ hne)

theorem Block.rxFresh_rx : (b.rxFresh n st).rx n =
    { (default : SdiRxSt) with stopping := decide (st = 1) && (b.rx n).stopping, given := (b.rx n).given } := by
  rw [(b.rxFresh_from hn st).rx, Block.rxReset, Block.setFld_rx, Block.rx_updRx_same]

theorem Block.rxFresh_out : b.out ⊆ (b.rxFresh n st).out := (b.rxFresh_from hn st).out

/-- A receiver that hunts anew. -/
theorem Block.rxHunt_rxState : (b.rxHunt n).rxState n = 1 := Block.rxFresh_rxState _ hn 1

theorem Block.rxHunt_fld {f : Field} {m : Nat} (hf : portKey n (f.key m)) (hne : f.key m ≠ F.SDI_RX_STATUS_STATE.key n) :
    (b.rxHunt n).fld f m = b.fld f m := (Block.rxFresh_fld _ hn 1 hf hne).trans (b.rxCut_fld n f m)

theorem Block.rxHunt_agree : ((b.rxHunt n).rx n).agree = 0 := congrArg SdiRxSt.agree (Block.rxFresh_rx _ hn 1)

end

/-- Another receiver that starts over, or gives up its frame, spares the port. -/
theorem Block.sparesPort.rxFresh {b c : Block} {n m : Nat} (h : b.sparesPort n c) (hn : n < 128) (hm : m ≤ 344) (hne : m ≠ n) (st : Nat) :
    b.sparesPort n (c.rxFresh m st) := by
  have hr : b.sparesPort n (c.rxReset m st) := (h.updRx (Ne.symm hne) _).setFld (not_portKey_rx hn rfl hm hne) st
  exact hr.trans (c.rxFresh_from hn st)

theorem Block.sparesPort.rxCut {b c : Block} {n m : Nat} (h : b.sparesPort n c) (hne : m ≠ n) : b.sparesPort n (c.rxCut m) := by
  unfold Block.rxCut
  split
  · exact (h.emit _).updRx (Ne.symm hne) _
  · exact h

/-! ### Its lanes on and off (R193, R195) -/

/-- A supplied lane that goes to P0 runs at its rate, from code 8 when it hunts (R141). -/
theorem Block.lanePower_on {b : Block} {l : Nat} (hon : b.laneOn l = true) : (b.lanePower l 0).fld F.LANE_CTRL_POWER l = 0 ∧
    (b.lanePower l 0).fld F.LANE_STATUS_RATE_NOW l = if b.fld F.LANE_CTRL_RATE l = 15 then 8 else b.fld F.LANE_CTRL_RATE l % 16 := by
  rw [Block.lanePower_eq, if_pos hon]
  generalize hc : (b.ite (b.fld F.LANE_CTRL_POWER l != 0) fun b => b.eyeAbort l) = c
  have hk : b.changes l eyeFields c := hc ▸ (Block.changes.refl _ _ _).ite _ (b.eyeAbort_changes l)
  rw [← hk.fld (f := F.LANE_CTRL_RATE) (n := l) (by simp)]
  unfold Block.powerMove
  extract_lets powered moved rated unlocked unsynced
  have hm : powered.changes l stateFields moved := powered.setLane_changes _ _
  have hp : moved.fld F.LANE_CTRL_POWER l = 0 := (hm.fld (by simp)).trans (Block.fld_setFld_same _ _ _ _)
  have hr : moved.fld F.LANE_CTRL_RATE l = c.fld F.LANE_CTRL_RATE l := (hm.fld (by simp)).trans (Block.fld_setFld_ne _ _ (by simp))
  clear_value moved
  refine ⟨?_, ?_⟩
  · simpa [unsynced, unlocked, rated, Block.setRateNow, Block.fld_setFld_ne] using hp
  · simp [unsynced, unlocked, rated, Block.setRateNow_rateNow, hr]
    split <;> rfl

/-- Any lane goes to P3. -/
theorem Block.lanePower_off (b : Block) (l : Nat) : (b.lanePower l 3).fld F.LANE_CTRL_POWER l = 3 := by
  rw [Block.lanePower_eq, ite_self]
  generalize (b.ite (b.fld F.LANE_CTRL_POWER l != 3) fun b => b.eyeAbort l) = c
  unfold Block.powerMove
  extract_lets powered moved rated unlocked unsynced
  have hp : moved.fld F.LANE_CTRL_POWER l = 3 := ((powered.setLane_changes _ _).fld (by simp)).trans (Block.fld_setFld_same _ _ _ _)
  clear_value moved
  simpa [unsynced, unlocked, rated, Block.setRateNow, Block.fld_setFld_ne] using hp

theorem Block.laneRate_within (b : Block) {l : Nat} (r : Nat) {ls : List Nat} (hl : l ∈ ls) : b.within ls (b.laneRate l r) :=
  (b.laneRate_changes l r).within (by decide) hl

/-- Lanes off, or on at a rate. -/
def Block.lanesOff (b : Block) (ls : List Nat) : Block := b.each ls fun b l => b.lanePower l 3
def Block.lanesOn (b : Block) (ls : List Nat) (r : Nat) : Block := b.each ls fun b l => (b.laneRate l r).lanePower l 0

section
variable (b : Block) (ls : List Nat) (r : Nat)

theorem Block.lanesOff_within : b.within ls (b.lanesOff ls) := (Block.within.refl _ _).each fun c _ hl => c.lanePower_within 3 hl
theorem Block.lanesOn_within : b.within ls (b.lanesOn ls r) :=
  (Block.within.refl _ _).each fun c _ hl => (c.laneRate_within r hl).trans (Block.lanePower_within _ 0 hl)
theorem Block.lanesOff_out : (b.lanesOff ls).out = b.out :=
  Block.each_induction (P := fun c => c.out = b.out) rfl fun c l _ hc => (c.lanePower_out l 3).trans hc
theorem Block.lanesOff_power : ∀ l ∈ ls, (b.lanesOff ls).fld F.LANE_CTRL_POWER l = 3 :=
  Block.each_all (R := fun _ => True) (Q := fun l c => c.fld F.LANE_CTRL_POWER l = 3) trivial (fun _ _ _ _ => trivial)
    (fun c l _ _ => c.lanePower_off l) fun c l _ _ hj h => ((c.lanePower_changes l 3).fld_other hj).trans h

/-- Every lane that is supplied runs at the rate given. -/
theorem Block.lanesOn_fields : ∀ l ∈ ls, b.laneOn l = true → (b.lanesOn ls r).fld F.LANE_CTRL_POWER l = 0 ∧
    (b.lanesOn ls r).fld F.LANE_CTRL_RATE l = r % 16 ∧ (b.lanesOn ls r).fld F.LANE_STATUS_RATE_NOW l = if r % 16 = 15 then 8 else r % 16 := by
  refine Block.each_all (R := fun c => b.within ls c) (Q := fun l c => b.laneOn l = true → c.fld F.LANE_CTRL_POWER l = 0 ∧
    c.fld F.LANE_CTRL_RATE l = r % 16 ∧ c.fld F.LANE_STATUS_RATE_NOW l = if r % 16 = 15 then 8 else r % 16) (.refl _ _)
    (fun c l hl hc => (hc.trans (c.laneRate_within r hl)).trans (Block.lanePower_within _ 0 hl)) (fun c l hl hc hon => ?_) fun c l _ j hj h hon => ?_
  · have hr : (c.laneRate l r).fld F.LANE_CTRL_RATE l = r % 16 := (c.laneRate_fields l r).1
    have hlon : (c.laneRate l r).laneOn l = true := ((hc.trans (c.laneRate_within r hl)).laneOn l).trans hon
    obtain ⟨hp, hn⟩ := Block.lanePower_on hlon
    exact ⟨hp, ((Block.lanePower_changes _ l 0).fld (by simp)).trans hr, by rw [hn, hr, Nat.mod_mod]⟩
  · have hk : ∀ f : Field, f.ofLane = true → ((c.laneRate l r).lanePower l 0).fld f j = c.fld f j := fun f hf =>
      ((Block.lanePower_changes _ l 0).fld_other hj (hf := hf)).trans ((c.laneRate_changes l r).fld_other hj (hf := hf))
    rw [hk _ rfl, hk _ rfl, hk _ rfl]
    exact h hon

end

theorem Block.rxLanesOn_eq (b : Block) (n : Nat) : ∃ r, b.rxLanesOn n = b.lanesOn (b.rxLanes n) r ∧ (b.fld F.SDI_RX_CFG_FORMAT n = 0 → r = 15) :=
  ⟨_, rfl, fun h => if_pos h⟩

/-- A receiver without `EN` that goes off (R195). -/
theorem Block.rxOff_stopped {b : Block} {n : Nat} (hn : n < 128) (he : b.on F.SDI_RX_CFG_EN n = false) :
    b.rxOff n = (b.lanesOff (b.rxLanes n)).rxFresh n 0 := by
  have hw := b.lanesOff_within (b.rxLanes n)
  have hle : ∀ l ∈ b.rxLanes n, l ≤ 344 := fun l hl => by have := Block.mem_rxLanes hl; omega
  have hfld : ((b.lanesOff (b.rxLanes n)).rxFresh n 0).fld F.SDI_RX_CFG_EN n = b.fld F.SDI_RX_CFG_EN n := by
    rw [Block.rxFresh_fld _ hn 0 (portKey_rx rfl) (by simp), hw.fld_port (.inl rfl) hle]
  have hen : ((b.lanesOff (b.rxLanes n)).rxFresh n 0).on F.SDI_RX_CFG_EN n = false := (congrArg (· == 1) hfld :).trans he
  unfold Block.rxOff
  exact if_neg (Bool.eq_false_iff.mp hen)

theorem Block.rxOff_fields {b : Block} {n : Nat} (hn : n < 128) (he : b.on F.SDI_RX_CFG_EN n = false) :
    (b.rxOff n).rxState n = 0 ∧ (b.rxOff n).fld F.LANE_CTRL_POWER n = 3 ∧ (b.rxOff n).fld F.SDI_RX_CFG_EN n = b.fld F.SDI_RX_CFG_EN n ∧
      b.out ⊆ (b.rxOff n).out := by
  have hle : ∀ l ∈ b.rxLanes n, l ≤ 344 := fun l hl => by have := Block.mem_rxLanes hl; omega
  rw [Block.rxOff_stopped hn he]
  refine ⟨Block.rxFresh_rxState _ hn 0, ?_, ?_, ?_⟩
  · rw [Block.rxFresh_fld _ hn 0 (portKey_rxLane rfl) (by simp; omega)]
    exact b.lanesOff_power _ n (b.self_mem_rxLanes n)
  · rw [Block.rxFresh_fld _ hn 0 (portKey_rx rfl) (by simp)]
    exact (b.lanesOff_within _).fld_port (.inl rfl) hle
  · have ho := Block.rxFresh_out (b.lanesOff (b.rxLanes n)) hn 0
    rwa [Block.lanesOff_out] at ho

end Sys2Proof.Machine
end
section
/-!
A write of a receiver's configuration (R191, R193, R195).
-/
namespace Sys2Proof.Machine
set_option Elab.async false

/-! ### The word stored -/

theorem sdiRxFields_nodup (n : Nat) : (sdiRxFields n).Pairwise (·.key n ≠ ·.key n) := by
  unfold sdiRxFields
  split <;> simp

section
variable (b : Block) {n : Nat} (v : Nat)

theorem Block.rxStored_fld {f : Field} (hf : f ∈ sdiRxFields n) (ha : f.acc = .rw := by rfl) (hc : f.clamp = .any := by rfl) :
    (b.storeWord (sdiRxFields n) n v).fld f n = v / 2 ^ f.lo % 2 ^ f.width := by
  rw [Block.fld_storeWord _ hf ha (sdiRxFields_nodup n), Field.stored_of_any hc]

/-- The word leaves everything beside the receiver's configuration. -/
theorem Block.rxStored_fld_ne {f : Field} {m : Nat} (h : f.key m < F.SDI_RX_CFG_EN.key n ∨ F.SDI_RX_CFG_EN.key n + 32 ≤ f.key m) :
    (b.storeWord (sdiRxFields n) n v).fld f m = b.fld f m := by
  refine b.fld_storeWord_ne (fun g hg => ?_) v
  simp only [F.SDI_RX_CFG_EN_key] at h
  unfold sdiRxFields at hg
  split at hg <;> simp at hg <;> rcases hg with rfl | rfl | rfl | rfl | rfl <;> simp <;> omega

end

theorem Block.storeWord_of_writes (b : Block) (fs : List Field) (n v : Nat) : b.writes (b.storeWord fs n v) (fs.map (·.key n)) :=
  (b.writes_refl _).storeWord (fun _ hg => List.mem_map_of_mem hg) v
/-! ### A port that a quad takes in receives nothing of its own (R191) -/

/-- The members of receiver `n`'s quad off. -/
def Block.rxMembersOff (b : Block) (n : Nat) : Block :=
  b.each ((b.rxLanes n).filter fun l => l != n) fun b l => if b.rxState l = 0 then b else ((b.rxCut l).clr F.SDI_RX_CFG_EN l).rxFresh l 0

theorem Block.rxMembersOff_spares (b : Block) {n : Nat} (hn : n < 128) : b.sparesPort n (b.rxMembersOff n) := by
  refine (Block.sparesPort.refl b n).each _ fun c l hl hc => ?_
  obtain ⟨hm, hne⟩ := List.mem_filter.mp hl
  have hle := Block.mem_rxLanes hm
  have hne : l ≠ n := by simpa using hne
  split
  · exact hc
  · exact Block.sparesPort.rxFresh ((hc.rxCut hne).setFld (not_portKey_rx hn rfl (by omega) hne) 0) hn (by omega) hne 0

/-- The word of `SDI_RX_CFG[n]` stored, and the members of a quad that it makes off. -/
def Block.rxTaken (b : Block) (n v : Nat) : Block := (b.storeWord (sdiRxFields n) n v).rxMembersOff n

/-- The fields of a write that restart a receiver (R195). -/
def rxHeldFields (n : Nat) : List Field := (if n % 4 = 0 then [F.SDI_RX_CFG_QUAD] else []) ++ [F.SDI_RX_CFG_FORMAT]

theorem Block.sdiRxWrite_eq {b : Block} {n : Nat} (hq : b.rxQuadMember n = false) (v : Nat) : b.sdiRxWrite n v =
    (b.rxTaken n v).rxChanged n (b.on F.SDI_RX_CFG_EN n) (!b.unchanged (rxHeldFields n) n v) (b.rxLanes n) := if_neg (by simp [hq])

section
variable (b : Block) {n : Nat} (v : Nat) (hn : n < 128)
include hn

theorem Block.rxTaken_cfg {f : Field} (hf : f ∈ sdiRxFields n) (hr : f.ofRx = true := by rfl) (ha : f.acc = .rw := by rfl) (hc : f.clamp = .any := by rfl) :
    (b.rxTaken n v).fld f n = v / 2 ^ f.lo % 2 ^ f.width :=
  ((Block.rxMembersOff_spares _ hn).fld (portKey_rx hr)).trans (b.rxStored_fld v hf ha hc)

/-- The port's other registers are as they were. -/
theorem Block.rxTaken_fld {f : Field} {m : Nat} (hf : portKey n (f.key m))
    (h : f.key m < F.SDI_RX_CFG_EN.key n ∨ F.SDI_RX_CFG_EN.key n + 32 ≤ f.key m) : (b.rxTaken n v).fld f m = b.fld f m :=
  ((Block.rxMembersOff_spares _ hn).fld hf).trans (b.rxStored_fld_ne v h)

theorem Block.rxTaken_rxState : (b.rxTaken n v).rxState n = b.rxState n := b.rxTaken_fld v hn (portKey_rx rfl) (by simp; omega)

theorem Block.rxTaken_laneOn : (b.rxTaken n v).laneOn n = b.laneOn n := by
  refine ((Block.rxMembersOff_spares _ hn).laneOn (by omega)).trans ?_
  unfold Block.laneOn
  rw [laneDomain, if_pos (by omega)]
  exact congrArg (bitOf · (n % 128 / 8 % 32)) (b.rxStored_fld_ne v (by simp; omega))

theorem Block.rxTaken_en : (b.rxTaken n v).on F.SDI_RX_CFG_EN n = (v % 2 == 1) := by
  have h : (b.rxTaken n v).fld F.SDI_RX_CFG_EN n = v % 2 := (b.rxTaken_cfg v hn (by simp [sdiRxFields])).trans (congrArg (· % 2) (Nat.div_one v))
  rw [Block.on, h]

end

/-! ### What the change does (R193, R195) -/

/-- A receiver that starts to hunt: its lanes on at the rate of its format. -/
theorem Block.rxStart_fields {c : Block} {n : Nat} (hn : n < 128) : ((c.rxLanesOn n).rxHunt n).rxState n = 1 ∧
    (∀ f : Field, f.ofRx = true → f.key n ≠ F.SDI_RX_STATUS_STATE.key n → ((c.rxLanesOn n).rxHunt n).fld f n = c.fld f n) ∧
    (((c.rxLanesOn n).rxHunt n).rx n).agree = 0 ∧
    (c.laneOn n = true → ((c.rxLanesOn n).rxHunt n).fld F.LANE_CTRL_POWER n = 0 ∧ (c.fld F.SDI_RX_CFG_FORMAT n = 0 →
      ((c.rxLanesOn n).rxHunt n).fld F.LANE_CTRL_RATE n = 15 ∧ ((c.rxLanesOn n).rxHunt n).fld F.LANE_STATUS_RATE_NOW n = 8)) := by
  have hle : ∀ l ∈ c.rxLanes n, l ≤ 344 := fun l hl => by have := Block.mem_rxLanes hl; omega
  obtain ⟨r, hr, h15⟩ := c.rxLanesOn_eq n
  refine ⟨Block.rxHunt_rxState _ hn, fun f hf hne => ?_, Block.rxHunt_agree _ hn, fun hon => ?_⟩
  · rw [Block.rxHunt_fld _ hn (portKey_rx hf) hne, hr]
    exact (c.lanesOn_within _ r).fld_port (.inl hf) hle
  · have hne : ∀ f : Field, f.ofLane = true → f.key n ≠ F.SDI_RX_STATUS_STATE.key n := fun f hf he => by
      have hk := Field.key_row hf n
      rw [he, F.SDI_RX_STATUS_STATE_key, rowOf] at hk
      omega
    obtain ⟨hp, hrate, hnow⟩ := c.lanesOn_fields (c.rxLanes n) r n (c.self_mem_rxLanes n) hon
    have hk : ∀ f : Field, f.ofLane = true → ((c.rxLanesOn n).rxHunt n).fld f n = (c.lanesOn (c.rxLanes n) r).fld f n := fun f hf => by
      rw [Block.rxHunt_fld _ hn (portKey_rxLane hf) (hne f hf), hr]
    rw [hk _ rfl, hk _ rfl, hk _ rfl]
    refine ⟨hp, fun h0 => ?_⟩
    rw [hrate, hnow, h15 h0]
    exact ⟨rfl, rfl⟩

section
variable {c : Block} {n : Nat} {was : Bool} (restart : Bool) (old : List Nat)

/-- A receiver that was off and is enabled starts. -/
theorem Block.rxChanged_starts (h0 : c.rxState n = 0) (he : c.on F.SDI_RX_CFG_EN n = true) : c.rxChanged n was restart old =
    ((c.updRx n fun s => { (default : SdiRxSt) with given := s.given }).rxLanesOn n).rxHunt n := by
  unfold Block.rxChanged
  rw [if_pos h0]
  exact if_pos he

/-- The frame under way given up, and the lanes off that are none of the receiver's any more. -/
def Block.rxDropped (c : Block) (n : Nat) (old : List Nat) : Block :=
  (c.rxCut n).lanesOff (old.filter fun l => decide (l ∉ (c.rxCut n).rxLanes n))

theorem Block.rxChanged_restarts (h0 : c.rxState n ≠ 0) (he : c.on F.SDI_RX_CFG_EN n = true) : c.rxChanged n was true old =
    (((c.rxDropped n old).updRx n fun s => { s with stopping := false }).rxLanesOn n).rxHunt n := by
  unfold Block.rxChanged
  rw [if_neg h0, if_pos rfl]
  exact if_pos he

/-- A receiver in lock goes on to the end of its frame. -/
theorem Block.rxChanged_waits (h2 : c.rxState n = 2) (he : c.on F.SDI_RX_CFG_EN n = false) :
    c.rxChanged n true false old = c.updRx n fun s => { s with stopping := true } := by
  unfold Block.rxChanged
  rw [if_neg (by simp [h2]), if_neg Bool.false_ne_true, if_pos (by simp [he]), if_pos h2]

/-- One that is not in lock goes off at once, whatever else the write changes. -/
theorem Block.rxChanged_stops (h0 : c.rxState n ≠ 0) (h2 : c.rxState n ≠ 2) (he : c.on F.SDI_RX_CFG_EN n = false) :
    c.rxChanged n true restart old = (if restart then c.rxDropped n old else c).rxOff n := by
  unfold Block.rxChanged
  rw [if_neg h0]
  cases restart with
  | true => exact if_neg (Bool.eq_false_iff.mp he)
  | false => rw [if_neg Bool.false_ne_true, if_pos (by simp [he]), if_neg h2, if_neg Bool.false_ne_true]

theorem Block.rxDropped_fld {f : Field} (hf : f.ofRx = true) (hold : ∀ l ∈ old, l ≤ 344) : (c.rxDropped n old).fld f n = c.fld f n := by
  have hw := (c.rxCut n).lanesOff_within (old.filter fun l => decide (l ∉ (c.rxCut n).rxLanes n))
  exact (hw.fld_port (.inl hf) fun l hl => hold l (List.mem_of_mem_filter hl)).trans (c.rxCut_fld n f n)

end

/-! ### The commands -/

theorem rxEnOf (v : Nat) : F.SDI_RX_CFG_EN.of v = v % 2 := congrArg (· % 2) (Nat.div_one v)

section
variable {b : Block} {n v : Nat} (hn : n < 128) (hq : b.rxQuadMember n = false)
include hn hq

/-- `EN` written 1 to a receiver that is off. -/
theorem sdiRxEnable_starts (hv : v % 2 = 1) (h0 : b.rxState n = 0) : sdiRxEnable n v b =
    (((b.rxTaken n v).updRx n fun s => { (default : SdiRxSt) with given := s.given }).rxLanesOn n).rxHunt n := by
  rw [sdiRxEnable, rxEnOf, if_pos hv, Block.sdiRxWrite_eq hq,
    Block.rxChanged_starts _ _ ((b.rxTaken_rxState v hn).trans h0) ((b.rxTaken_en v hn).trans (by simp [hv]))]

/-- `EN` written 0 to a receiver that is on and not in lock. -/
theorem sdiRxDisable_stops (hv : v % 2 = 0) (he : b.on F.SDI_RX_CFG_EN n = true) (h0 : b.rxState n ≠ 0) (h2 : b.rxState n ≠ 2) :
    (sdiRxDisable n v b).rxState n = 0 ∧ (sdiRxDisable n v b).fld F.LANE_CTRL_POWER n = 3 ∧ (sdiRxDisable n v b).fld F.SDI_RX_CFG_EN n = 0 := by
  have hst := b.rxTaken_rxState v hn
  have hen : (b.rxTaken n v).on F.SDI_RX_CFG_EN n = false := (b.rxTaken_en v hn).trans (by simp [hv])
  rw [sdiRxDisable, rxEnOf, if_pos hv, Block.sdiRxWrite_eq hq, he, Block.rxChanged_stops _ _ (hst ▸ h0) (hst ▸ h2) hen]
  generalize hc : (if (!b.unchanged (rxHeldFields n) n v) = true then (b.rxTaken n v).rxDropped n (b.rxLanes n) else b.rxTaken n v) = c
  have hcfg : c.fld F.SDI_RX_CFG_EN n = 0 := by
    have h : (b.rxTaken n v).fld F.SDI_RX_CFG_EN n = 0 :=
      (b.rxTaken_cfg v hn (by simp [sdiRxFields])).trans ((congrArg (· % 2) (Nat.div_one v)).trans hv)
    rw [← hc]
    split
    · exact (Block.rxDropped_fld _ rfl fun l hl => by have := Block.mem_rxLanes hl; omega).trans h
    · exact h
  obtain ⟨hs, hp, he', -⟩ := Block.rxOff_fields (b := c) hn (by simp [Block.on, hcfg])
  exact ⟨hs, hp, he'.trans hcfg⟩

/-- `EN` written 0 to a receiver in lock, with nothing else changed. -/
theorem sdiRxDisable_waits (hv : v % 2 = 0) (he : b.on F.SDI_RX_CFG_EN n = true) (h2 : b.rxState n = 2) (hu : b.unchanged (rxHeldFields n) n v = true) :
    sdiRxDisable n v b = (b.rxTaken n v).updRx n fun s => { s with stopping := true } := by
  rw [sdiRxDisable, rxEnOf, if_pos hv, Block.sdiRxWrite_eq hq, he, hu]
  exact Block.rxChanged_waits _ ((b.rxTaken_rxState v hn).trans h2) ((b.rxTaken_en v hn).trans (by simp [hv]))

/-- Another `FORMAT` starts the receiver anew. -/
theorem sdiRxRestart_restarts (hv : v % 2 = 1) (hf : b.fld F.SDI_RX_CFG_FORMAT n ≠ v / 2 % 32) :
    (sdiRxRestart n v b).rxState n = 1 ∧ (sdiRxRestart n v b).fld F.SDI_RX_CFG_FORMAT n = v / 2 % 32 := by
  have hu : b.unchanged (rxHeldFields n) n v = false := by
    rw [Block.unchanged, List.all_eq_false]
    exact ⟨F.SDI_RX_CFG_FORMAT, by simp [rxHeldFields], by simpa [Field.stored, Field.of, bitsOf, F.SDI_RX_CFG_FORMAT] using Ne.symm hf⟩
  have hw : sdiRxRestart n v b = b.sdiRxWrite n v := if_neg (Bool.eq_false_iff.mp hu)
  have hen : (b.rxTaken n v).on F.SDI_RX_CFG_EN n = true := (b.rxTaken_en v hn).trans (by simp [hv])
  have hfmt : (b.rxTaken n v).fld F.SDI_RX_CFG_FORMAT n = v / 2 % 32 := b.rxTaken_cfg v hn (by simp [sdiRxFields])
  rw [hw, Block.sdiRxWrite_eq hq, hu, Bool.not_false]
  by_cases h0 : (b.rxTaken n v).rxState n = 0
  · rw [Block.rxChanged_starts _ _ h0 hen]
    obtain ⟨hs, hk, -, -⟩ := Block.rxStart_fields (c := (b.rxTaken n v).updRx n fun s => { (default : SdiRxSt) with given := s.given }) hn
    exact ⟨hs, (hk _ rfl (by simp)).trans hfmt⟩
  · rw [Block.rxChanged_restarts _ h0 hen]
    obtain ⟨hs, hk, -, -⟩ := Block.rxStart_fields (c := ((b.rxTaken n v).rxDropped n (b.rxLanes n)).updRx n fun s => { s with stopping := false }) hn
    refine ⟨hs, (hk _ rfl (by simp)).trans ?_⟩
    exact (Block.rxDropped_fld _ rfl fun l hl => by have := Block.mem_rxLanes hl; omega).trans hfmt

end

theorem sdiRxEnable_member {b : Block} {n v : Nat} (hq : b.rxQuadMember n = true) (hv : v % 2 = 1) :
    sdiRxEnable n v b = b.reject 5 F.SDI_RX_HIST_CFG_REJECTED n := by
  rw [sdiRxEnable, rxEnOf, if_pos hv]
  exact if_pos hq

/-- The fields that restart a receiver are unchanged when the two of the register are. -/
theorem Block.unchanged_rxHeld {b : Block} {n v : Nat} (h : b.unchanged [F.SDI_RX_CFG_QUAD, F.SDI_RX_CFG_FORMAT] n v = true) :
    b.unchanged (rxHeldFields n) n v = true := by
  simp only [Block.unchanged, List.all_eq_true] at h ⊢
  refine fun f hf => h f ?_
  unfold rxHeldFields at hf
  split at hf <;> simp at hf ⊢
  · exact hf
  · exact .inr hf

end Sys2Proof.Machine
end
section
/-!
The frames of a receiver (R194 to R196).
-/
namespace Sys2Proof.Machine
set_option Elab.async false

section
variable (b : Block) (f : Field) (m n : Nat)
@[simp] theorem Block.set_rx : (b.set f m).rx n = b.rx n := rfl
@[simp] theorem Block.bump_rx (k : Nat) : (b.bump f m k).rx n = b.rx n := rfl
@[simp] theorem Block.emit_rx (o : Out) : (b.emit o).rx n = b.rx n := rfl
@[simp] theorem Block.rx_ite (p : Bool) (g : Block → Block) : (b.ite p g).rx n = if p then (g b).rx n else b.rx n := by cases p <;> rfl
end

/-! ### What a frame shows (R190, R192, R202) -/

/-- The keys of what a received frame shows. -/
def shownKeys (n : Nat) : List Nat :=
  [F.SDI_RX_STATUS_PID_VALID.key n, F.SDI_RX_STATUS_OSTAMP_SEEN.key n, F.SDI_RX_PID_PID.key n, F.SDI_RX_STATUS_LEVEL_B.key n,
    F.SDI_RX_STATUS_LINK.key n, F.SDI_RX_STATUS_ATC_VALID.key n, F.SDI_RX_SKEW_SKEW.key (n + 1), F.SDI_RX_SKEW_SKEW.key (n + 2),
    F.SDI_RX_SKEW_SKEW.key (n + 3)]

/-- What a frame shows of its payload identifier. -/
def Block.rxShowPid (b : Block) (n : Nat) (m : RxFrame) : Block :=
  match m.pid with
  | some q => (((b.setFld F.SDI_RX_PID_PID n q.word).setTo F.SDI_RX_STATUS_LEVEL_B n q.levelB).setFld F.SDI_RX_STATUS_LINK n q.link).updRx n fun s =>
      { s with div2si := q.div2si }
  | none => b.clr F.SDI_RX_STATUS_LEVEL_B n

/-- What a quad's frame shows of its skew. -/
def Block.rxShowSkew (b : Block) (n : Nat) (m : RxFrame) : Block :=
  b.ite (b.on F.SDI_RX_CFG_QUAD n) fun b =>
    b.each ((List.range 3).map (fun i => (i, (m.skews[i]?).getD 0))) fun b q => b.setSfld F.SDI_RX_SKEW_SKEW (n + q.1 + 1) q.2

section
variable (b : Block) (n : Nat) (m : RxFrame)

theorem Block.rxShow_eq : ∃ v, b.rxShow n m =
    (((((b.setTo F.SDI_RX_STATUS_PID_VALID n m.pid.isSome).setTo F.SDI_RX_STATUS_OSTAMP_SEEN n m.stamp).rxShowPid n m).rxShowSkew n m).setTo
      F.SDI_RX_STATUS_ATC_VALID n v).updRx n fun s => { s with atcSeen := 0 } := ⟨_, rfl⟩

theorem Block.rxShowPid_keeps {c : Block} (h : b.keeps c (shownKeys n)) : b.keeps (c.rxShowPid n m) (shownKeys n) := by
  unfold Block.rxShowPid
  split
  · exact Block.keeps.of_regs (((h.setFld (by simp [shownKeys]) _).setFld (by simp [shownKeys]) _).setFld (by simp [shownKeys]) _) rfl
  · exact h.setFld (by simp [shownKeys]) _

theorem Block.rxShowSkew_keeps {c : Block} (h : b.keeps c (shownKeys n)) : b.keeps (c.rxShowSkew n m) (shownKeys n) := by
  refine Block.ite_cases (P := fun d => b.keeps d (shownKeys n)) _ h (Block.each_induction (P := fun d => b.keeps d (shownKeys n)) h ?_)
  rintro d ⟨i, v⟩ hi hd
  obtain ⟨j, hj, he⟩ := List.mem_map.mp hi
  obtain rfl : j = i := congrArg Prod.fst he
  have hj : j < 3 := List.mem_range.mp hj
  exact hd.setFld (by simp [shownKeys]; omega) _

theorem Block.rxShow_keeps : b.keeps (b.rxShow n m) (shownKeys n) := by
  obtain ⟨v, hv⟩ := b.rxShow_eq n m
  have h := ((b.keeps_refl (shownKeys n)).setFld (g := F.SDI_RX_STATUS_PID_VALID) (m := n) (by simp [shownKeys]) (bit m.pid.isSome)).setFld
    (g := F.SDI_RX_STATUS_OSTAMP_SEEN) (m := n) (by simp [shownKeys]) (bit m.stamp)
  rw [hv]
  exact ((b.rxShowSkew_keeps n m (b.rxShowPid_keeps n m h)).setFld (by simp [shownKeys]) _).of_regs rfl

theorem Block.rxShow_fld {f : Field} {k : Nat} (h : f.key k ∉ shownKeys n) : (b.rxShow n m).fld f k = b.fld f k := (b.rxShow_keeps n m).fld h

/-- Of the receiver's own state a frame shows its division, and starts its time code over. -/
theorem Block.rxShow_rx : ∃ d, (b.rxShow n m).rx n = { b.rx n with div2si := d, atcSeen := 0 } := by
  obtain ⟨v, hv⟩ := b.rxShow_eq n m
  have hp : ∀ c : Block, ∃ d, (c.rxShowPid n m).rx n = { c.rx n with div2si := d } := fun c => by
    unfold Block.rxShowPid
    split
    · exact ⟨_, Block.rx_updRx_same _ n _⟩
    · exact ⟨_, rfl⟩
  have hk : ∀ c : Block, (c.rxShowSkew n m).rx n = c.rx n := fun c =>
    Block.ite_cases (P := fun d => d.rx n = c.rx n) _ rfl (Block.each_induction (P := fun d => d.rx n = c.rx n) rfl fun _ _ _ hd => hd)
  obtain ⟨d, hd⟩ := hp ((b.setTo F.SDI_RX_STATUS_PID_VALID n m.pid.isSome).setTo F.SDI_RX_STATUS_OSTAMP_SEEN n m.stamp)
  refine ⟨d, ?_⟩
  rw [hv, Block.rx_updRx_same]
  exact congrArg (fun s : SdiRxSt => { s with atcSeen := 0 }) ((hk _).trans hd)

theorem Block.rxShow_out : (b.rxShow n m).out = b.out := by
  obtain ⟨v, hv⟩ := b.rxShow_eq n m
  have hp : ∀ c : Block, (c.rxShowPid n m).out = c.out := fun c => by
    unfold Block.rxShowPid
    split <;> rfl
  have hk : ∀ c : Block, (c.rxShowSkew n m).out = c.out := fun c =>
    Block.ite_cases (P := fun d => d.out = c.out) _ rfl (Block.each_induction (P := fun d => d.out = c.out) rfl fun _ _ _ hd => hd)
  rw [hv]
  exact (hk _).trans (hp _)

end

/-- The rate of a receiver's lanes is none of what a frame shows. -/
theorem Block.rxRate_keeps {b c : Block} {n : Nat} (h : b.keeps c (shownKeys n)) : c.rxRate n = b.rxRate n := by
  have hq : c.fld F.SDI_RX_CFG_QUAD n = b.fld F.SDI_RX_CFG_QUAD n := h.fld (by simp [shownKeys]; omega)
  have hl : c.rxLanes n = b.rxLanes n := congrArg (fun q : Nat => if (q == 1) = true then [n, n + 1, n + 2, n + 3] else [n]) hq
  have hr : ∀ l, n ≤ l ∧ l ≤ n + 3 → c.fld F.LANE_STATUS_RATE_NOW l = b.fld F.LANE_STATUS_RATE_NOW l := fun l hl => h.fld (by
    simp [shownKeys]
    omega)
  have ha : ((c.rxLanes n).all fun l => c.fld F.LANE_STATUS_RATE_NOW l == c.fld F.LANE_STATUS_RATE_NOW n) =
      (b.rxLanes n).all fun l => b.fld F.LANE_STATUS_RATE_NOW l == b.fld F.LANE_STATUS_RATE_NOW n := by
    rw [hl, hr n (by omega), Bool.eq_iff_iff, List.all_eq_true, List.all_eq_true]
    exact forall₂_congr fun l hm => by rw [hr l (Block.mem_rxLanes hm)]
  unfold Block.rxRate
  rw [ha, hr n (by omega)]

end Sys2Proof.Machine
end
section
/-!
What a receiver does with a frame: it judges, locks, fails and ends (R195, R196).
-/
namespace Sys2Proof.Machine
set_option Elab.async false

/-! ### Out of lock by a frame's structure (R192, R195) -/

section
variable (b : Block) {n : Nat} (m : RxFrame) (hn : n < 128)
include hn

/-- The registers that a format error writes, before the stall and the candidates take note. -/
theorem Block.rxFormatErr_from : (((b.ite (rxQuadBad (b.on F.SDI_RX_CFG_QUAD n) m) fun b => b.set F.SDI_RX_HIST_QUAD_SKEW n).setFld
    F.SDI_RX_STATUS_STATE n 3).updRx n fun s => { s with last := some m, live := false, lines := 0 }).sparesPort n (b.rxFormatErr n m) :=
  ((Block.sparesPort.refl _ n).stallLoss hn n).candInput hn 6 n

theorem Block.rxFormatErr_rxState : (b.rxFormatErr n m).rxState n = 3 :=
  ((b.rxFormatErr_from m hn).fld (portKey_rx rfl)).trans ((Block.updRx_fld _ _ _ _ _).trans (Block.fld_setFld_same _ _ _ _))

theorem Block.rxFormatErr_mismatch : (b.rxFormatErr n m).fld F.SDI_RX_HIST_FMT_MISMATCH n = b.fld F.SDI_RX_HIST_FMT_MISMATCH n := by
  rw [(b.rxFormatErr_from m hn).fld (portKey_rx rfl), Block.updRx_fld, Block.fld_setFld_ne _ _ (by simp)]
  simp

end

/-! ### Two frames that agree (R194, R195) -/

theorem rxFormat_lt (quad : Bool) (lane : Nat) (m : RxFrame) : rxFormat quad lane m < 25 := by
  unfold rxFormat
  extract_lets psf il ok
  cases h : (List.range 25).find? fun c => fmtOk c && ok c with
  | none => exact Nat.zero_lt_succ _
  | some c => exact List.mem_range.mp (List.mem_of_find?_eq_some h)

section
variable {b : Block} {n : Nat} {m : RxFrame}

/-- They form no format. -/
theorem Block.rxJudge_none (hn : n < 128) (h : rxFormat (b.on F.SDI_RX_CFG_QUAD n) (b.rxRate n) m = 0) :
    (b.rxJudge n m).rxState n = 3 ∧ (b.fld F.SDI_RX_CFG_FORMAT n ≠ 0 → (b.rxJudge n m).fld F.SDI_RX_HIST_FMT_MISMATCH n = 1) := by
  have hj : b.rxJudge n m = (b.ite (b.fld F.SDI_RX_CFG_FORMAT n != 0) fun b => b.set F.SDI_RX_HIST_FMT_MISMATCH n).rxFormatErr n m :=
    if_pos (.inl h)
  rw [hj]
  refine ⟨Block.rxFormatErr_rxState _ m hn, fun hw => ?_⟩
  rw [Block.rxFormatErr_mismatch _ m hn]
  simp [hw]

/-- They form a format that the receiver accepts. -/
theorem Block.rxJudge_locks (h0 : rxFormat (b.on F.SDI_RX_CFG_QUAD n) (b.rxRate n) m ≠ 0) (hs : rxSampleBad m = false)
    (hk : rxQuadBad (b.on F.SDI_RX_CFG_QUAD n) m = false)
    (hw : b.fld F.SDI_RX_CFG_FORMAT n = 0 ∨ b.fld F.SDI_RX_CFG_FORMAT n = rxFormat (b.on F.SDI_RX_CFG_QUAD n) (b.rxRate n) m) :
    (b.rxJudge n m).rxState n = 2 ∧
      (b.rxJudge n m).fld F.SDI_RX_STATUS_FMT_NOW n = rxFormat (b.on F.SDI_RX_CFG_QUAD n) (b.rxRate n) m ∧
      (b.rxJudge n m).fld F.SDI_RX_HIST_LOCK_GAINED n = 1 ∧ ((b.rxJudge n m).rx n).live = true := by
  have hlt := rxFormat_lt (b.on F.SDI_RX_CFG_QUAD n) (b.rxRate n) m
  unfold Block.rxJudge
  extract_lets quad c want changed locked
  rw [if_neg]
  · refine ⟨(Block.updRx_fld _ _ _ _ _).trans (Block.fld_setFld_same _ _ _ _), ?_, ?_, ?_⟩
    · rw [Block.updRx_fld, Block.fld_setFld_ne _ _ (by simp), Block.fld_setFld_same]
      exact Nat.mod_eq_of_lt (Nat.lt_trans hlt (by decide))
    · rw [Block.updRx_fld, Block.fld_setFld_ne _ _ (by simp), Block.fld_setFld_ne _ _ (by simp)]
      exact Block.fld_set_same _ _ _
    · rw [Block.rx_updRx_same]
  · rintro (h | h | h | ⟨h, h'⟩)
    · exact h0 h
    · exact Bool.eq_false_iff.mp hs h
    · exact Bool.eq_false_iff.mp hk h
    · exact hw.elim h h'

end

/-! ### A frame of a receiver that hunts -/

/-- What a hunting receiver keeps of a frame. -/
def Block.rxTook (b : Block) (n : Nat) (m : RxFrame) (again : Bool) : Block :=
  (b.rxShow n m).updRx n fun s => { s with last := some m, agree := if again then s.agree + 1 else 1 }

/-- What a judgement reads of a receiver is none of what a frame shows. -/
theorem Block.rxTook_keeps (b : Block) (n : Nat) (m : RxFrame) (again : Bool) : b.keeps (b.rxTook n m again) (shownKeys n) :=
  (b.rxShow_keeps n m).of_regs rfl

theorem Block.rxTook_rx (b : Block) (n : Nat) (m : RxFrame) (again : Bool) : ((b.rxTook n m again).rx n).last = some m ∧
    ((b.rxTook n m again).rx n).agree = if again then (b.rx n).agree + 1 else 1 := by
  obtain ⟨d, hd⟩ := b.rxShow_rx n m
  rw [Block.rxTook, Block.rx_updRx_same, hd]
  exact ⟨rfl, rfl⟩

section
variable {b : Block} {n : Nat} (m : RxFrame) (hq : b.rxQuadMember n = false) (hl : b.rxLive n = true)
include hq hl

theorem sdiRxFrame_first (h1 : b.rxState n = 1) (hlast : (b.rx n).last = none) : sdiRxFrame n m b = b.rxTook n m false := by
  unfold sdiRxFrame
  rw [if_neg (by simp [hq, hl])]
  simp only [h1, hlast]
  rfl

theorem sdiRxFrame_agreeing {a : RxFrame} (h1 : b.rxState n = 1) (hlast : (b.rx n).last = some a) (hag : rxAgree a m = true) :
    sdiRxFrame n m b = (b.rxTook n m true).rxJudge n m := by
  unfold sdiRxFrame
  rw [if_neg (by simp [hq, hl])]
  simp only [h1, hlast, hag]
  rfl

/-! ### A frame of a receiver in lock -/

/-- The frame that a stop waited for ends: it is delivered, and the receiver goes off. -/
theorem sdiRxFrame_ends (h2 : b.rxState n = 2) (hs : (b.rx n).stopping = true) (hv : (b.rx n).live = true) :
    sdiRxFrame n m b = ((((b.updRx n fun s => { s with meta_ := m.pid.map fun q => q.word / 65536 }).rxGive n true).rxShow n m).updRx n fun s =>
      { s with live := true, lines := 0 }).rxOff n := by
  unfold sdiRxFrame
  rw [if_neg (by simp [hq, hl])]
  simp only [h2, hs, hv, if_true, Block.ite]

end

/-- A frame that is given is shown. -/
theorem Block.mem_rxGive_out (b : Block) (n : Nat) (complete : Bool) : Out.frameIn n complete ∈ (b.rxGive n complete).out := b.mem_emit_out _

end Sys2Proof.Machine
end
section
/-!
The lines and the ancillary packets of a receiver in lock (R195 to R200).
-/
namespace Sys2Proof.Machine
set_option Elab.async false

/-! ### What a line changes -/

/-- What far-end loopback sends back changes nothing. -/
theorem Block.returned_writes (b : Block) (ls : List Nat) (data : List Byte) : b.writes (b.returned ls data) [] :=
  Block.each_induction (P := fun c => b.writes c []) (b.writes_refl _) fun _ _ _ hc => hc.emit _

/-- A line of receiver `n` as it is counted and delivered, before its run of bad timing signals is judged. -/
def Block.rxLineIn (b : Block) (n : Nat) (crcBad trsBad numBad : Bool) : Block :=
  let sd := fmtSD (b.fld F.SDI_RX_STATUS_FMT_NOW n)
  let b := b.returned (b.rxLanes n) []
  let b := b.ite (crcBad && !sd) fun b => (b.bump F.SDI_RX_CRC_CNT_COUNT n 1).set F.SDI_RX_HIST_CRC_ERR n
  let b := b.ite (trsBad || (numBad && !sd)) fun b => (b.bump F.SDI_RX_TRS_CNT_COUNT n 1).set F.SDI_RX_HIST_TRS_ERR n
  let b := b.ite (b.rx n).live fun b => (b.emit (.lineIn n)).updRx n fun s => { s with lines := s.lines + 1 }
  b.updRx n fun s => { s with trsRun := if trsBad then s.trsRun + 1 else 0 }

section
variable (b : Block) (n : Nat) (crc trs num : Bool)

/-- The keys of a line's counters. -/
def lineKeys (n : Nat) : List Nat :=
  [F.SDI_RX_CRC_CNT_COUNT.key n, F.SDI_RX_HIST_CRC_ERR.key n, F.SDI_RX_TRS_CNT_COUNT.key n, F.SDI_RX_HIST_TRS_ERR.key n]

/-- A line leaves every register but its counters. -/
theorem Block.rxLineIn_keeps : b.keeps (b.rxLineIn n crc trs num) (lineKeys n) := by
  have hb : b.keeps (b.returned (b.rxLanes n) []) (lineKeys n) := ((b.returned_writes (b.rxLanes n) []).mono (List.nil_subset _)).1
  unfold Block.rxLineIn
  extract_lets sd back counted timed given
  have hc : b.keeps counted (lineKeys n) := Block.ite_cases (P := fun d => b.keeps d (lineKeys n)) _ hb
    ((hb.setFld (by simp [lineKeys]) _).setFld (by simp [lineKeys]) _)
  have ht : b.keeps timed (lineKeys n) := Block.ite_cases (P := fun d => b.keeps d (lineKeys n)) _ hc
    ((hc.setFld (by simp [lineKeys]) _).setFld (by simp [lineKeys]) _)
  have hg : b.keeps given (lineKeys n) := Block.ite_cases (P := fun d => b.keeps d (lineKeys n)) _ ht (ht.of_regs rfl)
  exact hg.of_regs rfl

theorem Block.rxLineIn_crc : (b.rxLineIn n true trs num).fld F.SDI_RX_CRC_CNT_COUNT n =
    (if fmtSD (b.fld F.SDI_RX_STATUS_FMT_NOW n) then b.fld F.SDI_RX_CRC_CNT_COUNT n else min (b.fld F.SDI_RX_CRC_CNT_COUNT n + 1) (2 ^ 32 - 1)) := by
  have hr : (b.returned (b.rxLanes n) []).fld F.SDI_RX_CRC_CNT_COUNT n = b.fld F.SDI_RX_CRC_CNT_COUNT n := (b.returned_writes _ _).1.fld (List.not_mem_nil)
  cases hsd : fmtSD (b.fld F.SDI_RX_STATUS_FMT_NOW n) <;> simp [Block.rxLineIn, hsd, hr, Block.fld_bump_same]

theorem Block.rxLineIn_crcHist (h : fmtSD (b.fld F.SDI_RX_STATUS_FMT_NOW n) = false) : (b.rxLineIn n true trs num).fld F.SDI_RX_HIST_CRC_ERR n = 1 := by
  simp [Block.rxLineIn, h]

theorem Block.rxLineIn_trsHist : (b.rxLineIn n crc true num).fld F.SDI_RX_HIST_TRS_ERR n = 1 := by
  simp [Block.rxLineIn]

theorem Block.rxLineIn_rx : ((b.rxLineIn n crc trs num).rx n).trsRun = (if trs then (b.rx n).trsRun + 1 else 0) ∧
    ((b.rxLineIn n crc trs num).rx n).stopping = (b.rx n).stopping := by
  have hr : (b.returned (b.rxLanes n) []).rx n = b.rx n := (congrArg (fun x : Block => x.rx n) (b.returned_writes (b.rxLanes n) []).2 :)
  have hk : ∀ c : Block, ((c.ite (c.rx n).live fun b => (b.emit (.lineIn n)).updRx n fun s => { s with lines := s.lines + 1 }).rx n).trsRun = (c.rx n).trsRun ∧
      ((c.ite (c.rx n).live fun b => (b.emit (.lineIn n)).updRx n fun s => { s with lines := s.lines + 1 }).rx n).stopping = (c.rx n).stopping := fun c => by
    rw [Block.rx_ite, Block.rx_updRx_same]
    split <;> exact ⟨rfl, rfl⟩
  unfold Block.rxLineIn
  extract_lets sd back counted timed given
  have ht : timed.rx n = b.rx n := by simp [timed, counted, back, hr]
  obtain ⟨htrs, hstop⟩ := hk timed
  rw [Block.rx_updRx_same, ← ht, ← htrs, ← hstop]
  exact ⟨rfl, rfl⟩

theorem Block.mem_rxLineIn_out (h : (b.rx n).live = true) : Out.lineIn n ∈ (b.rxLineIn n crc trs num).out := by
  have hr : (b.returned (b.rxLanes n) []).rx n = b.rx n := (congrArg (fun x : Block => x.rx n) (b.returned_writes (b.rxLanes n) []).2 :)
  simp [Block.rxLineIn, hr, h]

/-! ### What a line does (R195, R197) -/

variable {b n}

section
variable (h2 : b.rxState n = 2) (hq : b.rxQuadMember n = false) (hl : b.rxLive n = true)
include h2 hq hl

theorem sdiRxLine_counted (ht : ((b.rxLineIn n crc trs num).rx n).trsRun < 8) : sdiRxLine n crc trs num b = b.rxLineIn n crc trs num := by
  unfold sdiRxLine
  rw [if_pos ⟨h2, by simp [hq], hl⟩]
  exact if_neg (Nat.not_le.mpr ht)

/-- The eighth line in a row without timing signals ends the lock. -/
theorem sdiRxLine_loses (ht : ((b.rxLineIn n crc trs num).rx n).trsRun = 8) (hs : (b.rx n).stopping = false) :
    sdiRxLine n crc trs num b = (((b.rxLineIn n crc trs num).set F.SDI_RX_HIST_LOCK_LOST n).rxCut n).rxHunt n := by
  have hstop : ((((b.rxLineIn n crc trs num).set F.SDI_RX_HIST_LOCK_LOST n).rxCut n).rx n).stopping = false :=
    (Block.rxCut_stopping _ n).trans ((b.rxLineIn_rx n crc trs num).2.trans hs)
  unfold sdiRxLine
  rw [if_pos ⟨h2, by simp [hq], hl⟩]
  exact (if_pos ht.ge).trans (if_neg (Bool.eq_false_iff.mp hstop))

end

/-! ### Packets (R197, R199, R200) -/

section
variable (h2 : b.rxState n = 2) (hq : b.rxQuadMember n = false) (hl : b.rxLive n = true)
include h2 hq hl

/-- A bad packet is counted, and a bad stamp kept for the stall. -/
theorem ancPacketRx_bad (kind : AncKind) : ∃ f, ancPacketRx n kind true b = ((b.bump F.SDI_RX_ANC_CNT_COUNT n 1).set F.SDI_RX_HIST_ANC_CSUM_ERR n).updRx n f ∨
    ancPacketRx n kind true b = (b.bump F.SDI_RX_ANC_CNT_COUNT n 1).set F.SDI_RX_HIST_ANC_CSUM_ERR n := by
  unfold ancPacketRx
  rw [if_neg (by simp [h2, hq, hl]), if_pos rfl]
  cases kind with
  | stamp d => exact ⟨_, .inl rfl⟩
  | _ => exact ⟨id, .inr rfl⟩

theorem ancPacketRx_other (pkt : AncPkt) : ancPacketRx n (.other pkt) false b = b.ancStore n pkt := by
  unfold ancPacketRx
  rw [if_neg (by simp [h2, hq, hl]), if_neg Bool.false_ne_true]

end

end

end Sys2Proof.Machine
end
section
/-!
The receiver state table (R195).
-/
namespace Sys2Proof.Machine
set_option Elab.async false

/-! ### A receiver that is off takes nothing -/

section
variable {b : Block} {n : Nat} (h0 : b.rxState n = 0)
include h0

theorem sdiRxFrame_off (m : RxFrame) : sdiRxFrame n m b = b := by
  unfold sdiRxFrame
  split
  · rfl
  · simp only [h0]

theorem sdiRxLine_off (crc trs num : Bool) : sdiRxLine n crc trs num b = b := if_neg (by simp [h0])

theorem ancPacketRx_off (kind : AncKind) (bad : Bool) : ancPacketRx n kind bad b = b := if_pos (.inl (by simp [h0]))

end

/-! ### The last frame of a receiver that stops -/

/-- It is delivered and the receiver is off, its lane at P3. -/
theorem sdiRxFrame_stops {b : Block} {n : Nat} (m : RxFrame) (hn : n < 128) (hq : b.rxQuadMember n = false) (hl : b.rxLive n = true) (h2 : b.rxState n = 2)
    (hs : (b.rx n).stopping = true) (hv : (b.rx n).live = true) (he : b.on F.SDI_RX_CFG_EN n = false) : (sdiRxFrame n m b).rxState n = 0 ∧
      Out.frameIn n true ∈ (sdiRxFrame n m b).out ∧ (sdiRxFrame n m b).fld F.LANE_CTRL_POWER n = 3 := by
  rw [sdiRxFrame_ends m hq hl h2 hs hv]
  generalize hg : (b.updRx n fun s => { s with meta_ := m.pid.map fun q => q.word / 65536 }).rxGive n true = g
  have hgr : g.regs = b.regs := by rw [← hg]; rfl
  have hen : ((g.rxShow n m).updRx n fun s => { s with live := true, lines := 0 }).fld F.SDI_RX_CFG_EN n = b.fld F.SDI_RX_CFG_EN n := by
    rw [Block.updRx_fld, g.rxShow_fld n m (by simp [shownKeys]; omega), Block.fld_congr hgr]
  have hout : Out.frameIn n true ∈ ((g.rxShow n m).updRx n fun s => { s with live := true, lines := 0 }).out := by
    rw [Block.updRx_out, Block.rxShow_out, ← hg]
    exact Block.mem_rxGive_out _ _ _
  obtain ⟨hst, hp, -, ho⟩ := Block.rxOff_fields hn ((congrArg (· == 1) hen :).trans he)
  exact ⟨hst, ho hout, hp⟩

/-! ### A frame of a receiver that hunts -/

section
variable {b : Block} {n : Nat} {a m : RxFrame} (hq : b.rxQuadMember n = false) (hl : b.rxLive n = true) (h1 : b.rxState n = 1)
include hq hl h1

theorem sdiRxFrame_kept (hlast : (b.rx n).last = none) : (sdiRxFrame n m b).rxState n = 1 ∧ ((sdiRxFrame n m b).rx n).last = some m ∧
    ((sdiRxFrame n m b).rx n).agree = 1 := by
  rw [sdiRxFrame_first m hq hl h1 hlast]
  exact ⟨((b.rxTook_keeps n m false).fld (by simp [shownKeys]; omega)).trans h1, b.rxTook_rx n m false⟩

variable (hlast : (b.rx n).last = some a) (hag : rxAgree a m = true)
include hlast hag

/-- The format is what the frame forms at the lanes' rate as the frame finds them. -/
theorem sdiRxFrame_judged : sdiRxFrame n m b = (b.rxTook n m true).rxJudge n m ∧
    (b.rxTook n m true).on F.SDI_RX_CFG_QUAD n = b.on F.SDI_RX_CFG_QUAD n ∧ (b.rxTook n m true).rxRate n = b.rxRate n ∧
    (b.rxTook n m true).fld F.SDI_RX_CFG_FORMAT n = b.fld F.SDI_RX_CFG_FORMAT n := by
  have hk := b.rxTook_keeps n m true
  exact ⟨sdiRxFrame_agreeing m hq hl h1 hlast hag, congrArg (· == 1) (hk.fld (by simp [shownKeys]; omega)), Block.rxRate_keeps hk,
    hk.fld (by simp [shownKeys]; omega)⟩

theorem sdiRxFrame_locks (hf : rxFormat (b.on F.SDI_RX_CFG_QUAD n) (b.rxRate n) m ≠ 0) (hs : rxSampleBad m = false)
    (hk : rxQuadBad (b.on F.SDI_RX_CFG_QUAD n) m = false)
    (hw : b.fld F.SDI_RX_CFG_FORMAT n = 0 ∨ b.fld F.SDI_RX_CFG_FORMAT n = rxFormat (b.on F.SDI_RX_CFG_QUAD n) (b.rxRate n) m) :
    (sdiRxFrame n m b).rxState n = 2 ∧ (sdiRxFrame n m b).fld F.SDI_RX_STATUS_FMT_NOW n = rxFormat (b.on F.SDI_RX_CFG_QUAD n) (b.rxRate n) m ∧
      (sdiRxFrame n m b).fld F.SDI_RX_HIST_LOCK_GAINED n = 1 ∧ ((sdiRxFrame n m b).rx n).live = true := by
  obtain ⟨he, hquad, hrate, hfmt⟩ := sdiRxFrame_judged hq hl h1 hlast hag
  rw [← hquad, ← hrate] at hf hw ⊢
  rw [← hquad] at hk
  rw [← hfmt] at hw
  rw [he]
  exact Block.rxJudge_locks hf hs hk hw

theorem sdiRxFrame_fails (hn : n < 128) (hf : rxFormat (b.on F.SDI_RX_CFG_QUAD n) (b.rxRate n) m = 0) : (sdiRxFrame n m b).rxState n = 3 ∧
    (b.fld F.SDI_RX_CFG_FORMAT n ≠ 0 → (sdiRxFrame n m b).fld F.SDI_RX_HIST_FMT_MISMATCH n = 1) := by
  obtain ⟨he, hquad, hrate, hfmt⟩ := sdiRxFrame_judged hq hl h1 hlast hag
  rw [← hquad, ← hrate] at hf
  rw [he, ← hfmt]
  exact Block.rxJudge_none hn hf

end

/-! ### Lines and packets of a receiver in lock -/

section
variable {b : Block} {n : Nat} (hq : b.rxQuadMember n = false) (hl : b.rxLive n = true) (h2 : b.rxState n = 2)
include hq hl h2

theorem sdiRxLine_hunts (crc num : Bool) (hn : n < 128) (h7 : (b.rx n).trsRun = 7) (hs : (b.rx n).stopping = false) :
    (sdiRxLine n crc true num b).rxState n = 1 ∧ (sdiRxLine n crc true num b).fld F.SDI_RX_HIST_LOCK_LOST n = 1 ∧
      (sdiRxLine n crc true num b).fld F.SDI_RX_HIST_TRS_ERR n = 1 := by
  have h8 : ((b.rxLineIn n crc true num).rx n).trsRun = 8 := (b.rxLineIn_rx n crc true num).1.trans (by simp [h7])
  rw [sdiRxLine_loses crc true num h2 hq hl h8 hs]
  refine ⟨Block.rxHunt_rxState _ hn, ?_, ?_⟩
  · rw [Block.rxHunt_fld _ hn (portKey_rx rfl) (by simp), Block.rxCut_fld]
    exact Block.fld_set_same _ _ _
  · rw [Block.rxHunt_fld _ hn (portKey_rx rfl) (by simp), Block.rxCut_fld, Block.fld_set_ne _ (by simp)]
    exact b.rxLineIn_trsHist n crc num

theorem ancPacketRx_counts (kind : AncKind) : (ancPacketRx n kind true b).fld F.SDI_RX_ANC_CNT_COUNT n = min (b.fld F.SDI_RX_ANC_CNT_COUNT n + 1) (2 ^ 32 - 1) ∧
    (ancPacketRx n kind true b).fld F.SDI_RX_HIST_ANC_CSUM_ERR n = 1 ∧
    b.keeps (ancPacketRx n kind true b) [F.SDI_RX_ANC_CNT_COUNT.key n, F.SDI_RX_HIST_ANC_CSUM_ERR.key n] := by
  have hr : (ancPacketRx n kind true b).regs = ((b.bump F.SDI_RX_ANC_CNT_COUNT n 1).set F.SDI_RX_HIST_ANC_CSUM_ERR n).regs := by
    obtain ⟨f, h | h⟩ := ancPacketRx_bad h2 hq hl kind <;> rw [h]
    rfl
  refine ⟨?_, ?_, (((b.keeps_refl _).setFld (by simp) _).setFld (by simp) _).of_regs hr⟩
  · rw [Block.fld_congr hr, Block.fld_set_ne _ (by simp), Block.fld_bump_same]
    rfl
  · rw [Block.fld_congr hr]
    exact Block.fld_set_same _ _ _

/-- Mode 1 passes every packet (R200). -/
theorem ancPacketRx_passes (pkt : AncPkt) (hm : b.fld F.SDI_RX_CFG_ANC_MODE n = 1) : Out.ancIn n pkt ∈ (ancPacketRx n (.other pkt) false b).out ∧
    b.keeps (ancPacketRx n (.other pkt) false b) [] := by
  have hs : b.ancStore n pkt = (b.emit (.ancIn n pkt)).updRx n fun s => { s with anc := if s.live then ancAdd s.anc pkt else s.anc } := if_pos (.inl hm)
  rw [ancPacketRx_other h2 hq hl pkt, hs]
  exact ⟨b.mem_emit_out _, (b.keeps_refl []).of_regs rfl⟩

end

/-! ### A receiver that is enabled -/

/-- With `FORMAT` 0 a supplied lane hunts from rate code 8 (R193). -/
theorem sdiRxEnable_hunts {b : Block} {n v : Nat} (hn : n < 128) (hq : b.rxQuadMember n = false) (hv : v % 64 = 1) (h0 : b.rxState n = 0)
    (hon : b.laneOn n = true) : (sdiRxEnable n v b).rxState n = 1 ∧ (sdiRxEnable n v b).fld F.SDI_RX_CFG_EN n = 1 ∧
      (sdiRxEnable n v b).fld F.SDI_RX_CFG_FORMAT n = 0 ∧ (sdiRxEnable n v b).fld F.SDI_RX_CFG_ANC_MODE n = v / 128 % 4 ∧
      (sdiRxEnable n v b).fld F.LANE_CTRL_POWER n = 0 ∧ (sdiRxEnable n v b).fld F.LANE_CTRL_RATE n = 15 ∧
      (sdiRxEnable n v b).fld F.LANE_STATUS_RATE_NOW n = 8 ∧ ((sdiRxEnable n v b).rx n).agree = 0 := by
  have he : v / 1 % 2 = 1 := by omega
  have hf : v / 2 % 32 = 0 := by omega
  have hfmt : (b.rxTaken n v).fld F.SDI_RX_CFG_FORMAT n = 0 := (b.rxTaken_cfg v hn (by simp [sdiRxFields])).trans hf
  obtain ⟨hst, hk, hag, hlane⟩ := Block.rxStart_fields (c := (b.rxTaken n v).updRx n fun s => { (default : SdiRxSt) with given := s.given }) hn
  obtain ⟨hp, hrate⟩ := hlane ((b.rxTaken_laneOn v hn).trans hon)
  obtain ⟨hrate, hnow⟩ := hrate hfmt
  rw [sdiRxEnable_starts hn hq (by omega) h0]
  refine ⟨hst, (hk _ rfl (by simp)).trans ?_, (hk _ rfl (by simp)).trans hfmt, (hk _ rfl (by simp)).trans ?_, hp, hrate, hnow, hag⟩
  · exact (b.rxTaken_cfg v hn (by simp [sdiRxFields])).trans he
  · exact b.rxTaken_cfg v hn (by simp [sdiRxFields])

/-- Settles O15: a write of the configuration is `sdiRxWrite_eq`, and each row of the state table a lemma of its frame, line or packet. -/
theorem receiversHuntLockAndLose : Obligations.ReceiversHuntLockAndLose := by
  intro s n hs hn
  refine ⟨fun v hr hq hv => ?_, fun hq hr => ⟨fun v hv he h0 hon => ?_, fun v hv he h2 h0 => ?_, fun v hv he h2 hu hquad => ?_, fun v hv he hf => ?_, fun v hu => ?_⟩,
    fun hq hl => ⟨fun m h1 hlast => ?_, fun a m h1 hlast hag hf hsm hk hw => ?_, fun a m h1 hlast hag hf => ?_, fun m h2 hst hv he => ?_, fun num h2 => ?_,
      fun crc num h2 h7 hst => ?_, fun kind h2 => ?_, fun pkt h2 hm => ?_⟩,
    fun m kind bad crc trs num h0 => ⟨?_, ?_, ?_⟩⟩
  · have heq := sdiRxEnable_member (b := s.quiet) hq hv
    refine ⟨_, run_reaches hs hr false _, ?_, onlyRegs_effect ?_⟩
    · rw [Block.effect_fld, heq, Block.reject, Block.fld_bump_ne _ (by simp; omega)]
      exact Block.fld_set_same _ _ _
    · rw [heq]
      exact s.quiet.reject_writes _ _ _
  · exact ⟨_, run_reaches hs hr false _, sdiRxEnable_hunts (b := s.quiet) hn hq hv h0 hon⟩
  · exact ⟨_, run_reaches hs hr false _, sdiRxDisable_stops (b := s.quiet) hn hq hv he h0 h2⟩
  · have heq := sdiRxDisable_waits (b := s.quiet) hn hq hv he h2 (Block.unchanged_rxHeld hu)
    refine ⟨_, run_reaches hs hr false _, ?_, ?_, ?_, ?_⟩
    · exact (congrArg (fun b : Block => b.rxState n) heq :).trans ((s.quiet.rxTaken_rxState _ hn).trans h2)
    · exact (congrArg (fun b : Block => (b.rx n).stopping) heq :).trans (congrArg SdiRxSt.stopping (Block.rx_updRx_same _ _ _))
    · rw [Block.effect_fld, heq, Block.updRx_fld, s.quiet.rxTaken_cfg _ hn (by simp [sdiRxFields])]
      simp [F.SDI_RX_CFG_EN, hv]
    · rw [Block.effect_fld, heq, Block.updRx_fld]
      exact s.quiet.rxTaken_fld _ hn (portKey_rxLane rfl) (by simp; omega)
  · exact ⟨_, run_reaches hs hr false _, sdiRxRestart_restarts (b := s.quiet) hn hq hv hf⟩
  · exact ⟨_, run_reaches hs hr false _, onlyRegs_effect_self (if_pos (Block.unchanged_rxHeld hu))⟩
  · exact ⟨_, run_live _ hs, sdiRxFrame_kept (b := s.quiet) hq hl h1 hlast⟩
  · exact ⟨_, run_live _ hs, sdiRxFrame_locks (b := s.quiet) hq hl h1 hlast hag hf hsm hk hw⟩
  · exact ⟨_, run_live _ hs, sdiRxFrame_fails (b := s.quiet) hq hl h1 hlast hag hn hf⟩
  · obtain ⟨h0, ho, hp⟩ := sdiRxFrame_stops (b := s.quiet) m hn hq hl h2 hst hv he
    exact ⟨_, run_live _ hs, h0, mem_effect_out ho, hp⟩
  · have hrun : ((s.quiet.rxLineIn n true false num).rx n).trsRun = 0 := (s.quiet.rxLineIn_rx n true false num).1
    have heq := sdiRxLine_counted (b := s.quiet) true false num h2 hq hl (by omega)
    refine ⟨_, run_live _ hs, ?_, fun hsd => ?_, fun hlive => mem_effect_out ?_, ?_, ?_⟩
    · exact (congrArg (fun b : Block => b.fld F.SDI_RX_CRC_CNT_COUNT n) heq :).trans (s.quiet.rxLineIn_crc n false num)
    · exact (congrArg (fun b : Block => b.fld F.SDI_RX_HIST_CRC_ERR n) heq :).trans (s.quiet.rxLineIn_crcHist n false num hsd)
    · rw [heq]
      exact s.quiet.mem_rxLineIn_out n true false num hlive
    · exact (congrArg (fun b : Block => b.rxState n) heq :).trans (((s.quiet.rxLineIn_keeps n true false num).fld (by simp [lineKeys])).trans h2)
    · exact (congrArg (fun b : Block => (b.rx n).trsRun) heq :).trans hrun
  · exact ⟨_, run_live _ hs, sdiRxLine_hunts (b := s.quiet) hq hl h2 crc num hn h7 hst⟩
  · obtain ⟨hc, hh, hk⟩ := ancPacketRx_counts (b := s.quiet) hq hl h2 kind
    exact ⟨_, run_live _ hs, hc, hh, regsKept_effect hk⟩
  · obtain ⟨ho, hk⟩ := ancPacketRx_passes (b := s.quiet) hq hl h2 pkt hm
    exact ⟨_, run_live _ hs, mem_effect_out ho, regsKept_effect hk⟩
  · exact ⟨_, run_live _ hs, onlyRegs_effect_self (sdiRxFrame_off (b := s.quiet) h0 m)⟩
  · exact ⟨_, run_live _ hs, onlyRegs_effect_self (sdiRxLine_off (b := s.quiet) h0 crc trs num)⟩
  · exact ⟨_, run_live _ hs, onlyRegs_effect_self (ancPacketRx_off (b := s.quiet) h0 kind bad)⟩

end Sys2Proof.Machine
end
section
/-!
A write of a transmitter's configuration (R191, R193, R206).
-/
namespace Sys2Proof.Machine
set_option Elab.async false

@[simp] theorem Block.tx_updTx_same (b : Block) (n : Nat) (f : SdiTxSt → SdiTxSt) : (b.updTx n f).tx n = f (b.tx n) := Bank.look_upd_same _ _ _

/-! ### The lanes of a transmitter -/

theorem Block.self_mem_txLanes (b : Block) (n : Nat) : 128 + n ∈ b.txLanes n := by
  unfold Block.txLanes
  split <;> simp

theorem Block.mem_txLanes {b : Block} {n l : Nat} (h : l ∈ b.txLanes n) : 128 + n ≤ l ∧ l ≤ 131 + n := by
  unfold Block.txLanes at h
  split at h <;> simp at h <;> omega

/-! ### An output stops (R206; log 179) -/

/-- What a stop does before the lanes go off. -/
def Block.txHalt (b : Block) (n : Nat) : Block := ((b.updTx n fun _ => default).clr F.SDI_TX_STATUS_UNALIGNED n).set F.SDI_TX_HIST_STOPPED n

/-- A stop of an output without `EN` leaves it off, its lanes at P3. -/
theorem Block.txStop_fields {b : Block} {n : Nat} (hn : n < 128) (he : b.on F.SDI_TX_CFG_EN n = false) :
    (b.txStop n).txState n = 0 ∧ (b.txStop n).fld F.SDI_TX_HIST_STOPPED n = 1 ∧ (b.txStop n).fld F.SDI_TX_CFG_EN n = b.fld F.SDI_TX_CFG_EN n ∧
      (b.txStop n).fld F.LANE_CTRL_POWER (128 + n) = 3 := by
  have hen : (b.txHalt n).fld F.SDI_TX_CFG_EN n = b.fld F.SDI_TX_CFG_EN n := by simp [Block.txHalt]
  have hs : b.txStop n = ((b.txHalt n).lanesOff ((b.txHalt n).txLanes n)).setFld F.SDI_TX_STATUS_STATE n 0 :=
    if_neg (Bool.eq_false_iff.mp ((congrArg (· == 1) hen :).trans he))
  have hw := (b.txHalt n).lanesOff_within ((b.txHalt n).txLanes n)
  have hle : ∀ l ∈ (b.txHalt n).txLanes n, l ≤ 344 := fun l hl => by have := Block.mem_txLanes hl; omega
  rw [hs]
  refine ⟨Block.fld_setFld_same _ _ _ _, ?_, ?_, ?_⟩
  · rw [Block.fld_setFld_ne _ _ (by simp), hw.fld_port (.inr rfl) hle]
    exact Block.fld_set_same _ _ _
  · rw [Block.fld_setFld_ne _ _ (by simp), hw.fld_port (.inr rfl) hle, hen]
  · rw [Block.fld_setFld_ne _ _ (by simp; omega)]
    exact Block.lanesOff_power _ _ _ (Block.self_mem_txLanes _ n)

/-- Another output that stops spares the port. -/
theorem Block.sparesPort.txStop {b c : Block} {n m : Nat} (h : b.sparesPort n c) (hn : n < 128) (h0 : n < m) (h3 : m ≤ n + 3) :
    b.sparesPort n (c.txStop m) := by
  have hk : ∀ f : Field, f.ofTx = true → ¬portKey n (f.key m) := fun f hf => not_portKey_tx hn hf (by omega) (by omega)
  have hh : b.sparesPort n (c.txHalt m) := ((h.updTx (by omega) _).setFld (hk _ rfl) _).setFld (hk _ rfl) _
  unfold Block.txStop
  extract_lets halted
  split
  · exact hh.setFld (hk _ rfl) _
  · refine Block.sparesPort.setFld (hh.each _ fun d l hl hd => ?_) (hk _ rfl) _
    have := Block.mem_txLanes hl
    exact hd.lanePower hn (by omega) (by omega) (by omega) 3

/-! ### The word stored -/

/-- The held fields as a write leaves them: an enabled output keeps them. -/
def Block.txHeld (b : Block) (n v : Nat) : Block :=
  if b.on F.SDI_TX_CFG_EN n || b.txState n != 0 then
    if b.unchanged (sdiTxHeldFields n) n v then b else b.reject 6 F.SDI_TX_HIST_CFG_REJECTED n
  else b.storeWord (sdiTxHeldFields n) n v

/-- The members of transmitter `n`'s quad off. -/
def Block.txMembersOff (b : Block) (n : Nat) : Block :=
  b.each ((b.txLanes n).filter fun l => l != 128 + n) fun b l =>
    if b.txState (l - 128) = 0 then b else (b.clr F.SDI_TX_CFG_EN (l - 128)).txStop (l - 128)

theorem Block.txMembersOff_spares (b : Block) {n : Nat} (hn : n < 128) : b.sparesPort n (b.txMembersOff n) := by
  refine (Block.sparesPort.refl b n).each _ fun c l hl hc => ?_
  obtain ⟨hm, hne⟩ := List.mem_filter.mp hl
  have hle := Block.mem_txLanes hm
  have hne : l ≠ 128 + n := by simpa using hne
  split
  · exact hc
  · exact Block.sparesPort.txStop (hc.setFld (not_portKey_tx hn rfl (by omega) (by omega)) 0) hn (by omega) (by omega)

/-- The word of `SDI_TX_CFG[n]` stored but for `EN`, and the members of a quad that it makes off. -/
def Block.txTaken (b : Block) (n v : Nat) : Block := ((b.txHeld n v).txMembersOff n).storeWord sdiTxFreeFields n v

theorem Block.sdiTxWrite_eq {b : Block} {n : Nat} (hq : b.txQuadMember n = false) (v : Nat) : b.sdiTxWrite n v =
    if F.SDI_TX_CFG_EN.of v == 1 && !(b.txTaken n v).on F.SDI_TX_CFG_EN n && !(b.txTaken n v).fmtForCrew (n / 8) ((b.txTaken n v).fld F.SDI_TX_CFG_FORMAT n)
    then (b.txTaken n v).reject 6 F.SDI_TX_HIST_CFG_REJECTED n
    else (b.txTaken n v).txEn n (F.SDI_TX_CFG_EN.of v == 1) := if_neg (by simp [hq])

/-- The word of `SDI_TX_CFG[n]` holds the field's key. -/
def inTxWord (n k : Nat) : Prop := F.SDI_TX_CFG_EN.key n ≤ k ∧ k < F.SDI_TX_CFG_EN.key n + 32

section
variable (b : Block) {n : Nat} (v : Nat)

theorem Block.txHeld_fld {f : Field} {m : Nat} (hw : f.key m = F.SDI_TX_CFG_EN.key n ∨ ¬inTxWord n (f.key m)) (hr : f.key m ≠ F.SDI_TX_HIST_CFG_REJECTED.key n)
    (hc : f.key m ≠ F.BLK_REJECT_CNT_COUNT.key 6) : (b.txHeld n v).fld f m = b.fld f m := by
  unfold Block.txHeld
  split
  · split
    · rfl
    · rw [Block.reject, Block.fld_bump_ne _ hc, Block.fld_set_ne _ hr]
  · refine b.fld_storeWord_ne (fun g hg => ?_) v
    simp only [inTxWord, F.SDI_TX_CFG_EN_key] at hw
    unfold sdiTxHeldFields at hg
    split at hg <;> simp at hg <;> rcases hg with rfl | rfl | rfl | rfl <;> simp <;> omega

/-- A format is one of two timelines'. -/
theorem fmtTl_lt (c : Nat) : fmtTl c < 2 := by
  unfold fmtTl
  split <;> decide

variable (hn : n < 128)
include hn

/-- Beside its free fields a word leaves what its held fields leave. -/
theorem Block.txTaken_from {f : Field} {m : Nat} (hf : portKey n (f.key m)) (hne : ∀ g ∈ sdiTxFreeFields, f.key m ≠ g.key n) :
    (b.txTaken n v).fld f m = (b.txHeld n v).fld f m :=
  (Block.fld_storeWord_ne _ hne v).trans ((Block.txMembersOff_spares _ hn).fld hf)

theorem Block.txTaken_fld {f : Field} {m : Nat} (hf : portKey n (f.key m)) (hw : ¬inTxWord n (f.key m)) (hr : f.key m ≠ F.SDI_TX_HIST_CFG_REJECTED.key n)
    (hc : f.key m ≠ F.BLK_REJECT_CNT_COUNT.key 6) : (b.txTaken n v).fld f m = b.fld f m := by
  rw [b.txTaken_from v hn hf fun g hg => ?_, b.txHeld_fld v (.inr hw) hr hc]
  simp only [inTxWord, F.SDI_TX_CFG_EN_key] at hw
  simp only [sdiTxFreeFields, List.mem_cons, List.not_mem_nil, or_false] at hg
  rcases hg with rfl | rfl | rfl | rfl | rfl | rfl <;> simp <;> omega

theorem Block.txTaken_txState : (b.txTaken n v).txState n = b.txState n := b.txTaken_fld v hn (portKey_tx rfl) (by simp [inTxWord]; omega) (by simp) (by simp; omega)

theorem Block.txTaken_en : (b.txTaken n v).fld F.SDI_TX_CFG_EN n = b.fld F.SDI_TX_CFG_EN n := by
  rw [b.txTaken_from v hn (portKey_tx rfl) (by simp [sdiTxFreeFields]), b.txHeld_fld v (.inl rfl) (by simp) (by simp; omega)]

theorem Block.txTaken_power : (b.txTaken n v).fld F.LANE_CTRL_POWER (128 + n) = b.fld F.LANE_CTRL_POWER (128 + n) :=
  b.txTaken_fld v hn (portKey_txLane rfl) (by simp [inTxWord]; omega) (by simp; omega) (by simp; omega)

theorem Block.txTaken_laneOn : (b.txTaken n v).laneOn (128 + n) = b.laneOn (128 + n) := by
  unfold Block.laneOn
  rw [laneDomain, if_pos (by omega)]
  refine congrArg (bitOf · ((128 + n) % 128 / 8 % 32)) (b.txTaken_fld v hn ?_ ?_ ?_ ?_)
  · simp [portKey]; omega
  · simp [inTxWord]; omega
  · simp; omega
  · simp; omega

/-- The crew and its timeline are not the word's. -/
theorem Block.txTaken_fmtForCrew (fmt : Nat) : (b.txTaken n v).fmtForCrew (n / 8) fmt = b.fmtForCrew (n / 8) fmt := by
  have ht : (b.txTaken n v).fld F.CREW_CFG_TL (n / 8) = b.fld F.CREW_CFG_TL (n / 8) :=
    b.txTaken_fld v hn (by simp [portKey]; omega) (by simp [inTxWord]; omega) (by simp; omega) (by simp; omega)
  have hr : ∀ k, k < 2 → (b.txTaken n v).fld F.TL_CFG_RATE k = b.fld F.TL_CFG_RATE k := fun k hk =>
    b.txTaken_fld v hn (by simp [portKey, lanesKey]; omega) (by simp [inTxWord]; omega) (by simp; omega) (by simp; omega)
  simp only [Block.fmtForCrew, ht]
  by_cases he : fmtTl fmt = b.fld F.CREW_CFG_TL (n / 8)
  · rw [hr _ (he ▸ fmtTl_lt fmt)]
  · simp only [beq_eq_false_iff_ne.mpr he, Bool.false_and]

end

/-! ### A write with `EN` 1 -/

theorem txEnOf (v : Nat) : F.SDI_TX_CFG_EN.of v = v % 2 := congrArg (· % 2) (Nat.div_one v)

theorem sdiTxHeldFields_nodup (n : Nat) : (sdiTxHeldFields n).Pairwise (·.key n ≠ ·.key n) := by
  unfold sdiTxHeldFields
  split <;> simp

/-- An output that starts: its lanes on, then its state. -/
def Block.txStart (b : Block) (n : Nat) : Block :=
  let b := b.setTo F.SDI_TX_CFG_EN n true
  let f := b.fld F.SDI_TX_CFG_FORMAT n
  (((b.lanesOn (b.txLanes n) (if b.on F.SDI_TX_CFG_QUAD n then fmtQuadLane f else fmtLane f)).updTx n fun _ => default).setFld
    F.SDI_TX_STATUS_STATE n 1).clr F.SDI_TX_STATUS_UNALIGNED n

/-- Two steps that do the same where an invariant holds do the same over a list. -/
theorem Block.each_eq_of {α : Type} {P : Block → Prop} {f g : Block → α → Block} {l : List α} (hp : ∀ c, P c → ∀ x ∈ l, P (g c x))
    (he : ∀ c, P c → ∀ x ∈ l, f c x = g c x) {b : Block} (hb : P b) : b.each l f = b.each l g := by
  induction l generalizing b with
  | nil => rfl
  | cons x xs ih =>
    have hx : b.each (x :: xs) f = (g b x).each xs f := congrArg (Block.each · xs f) (he b hb x List.mem_cons_self)
    rw [hx]
    exact ih (fun c hc y hy => hp c hc y (List.mem_cons_of_mem _ hy)) (fun c hc y hy => he c hc y (List.mem_cons_of_mem _ hy))
      (hp b hb x List.mem_cons_self)

/-- The rate of a quad's lanes is that of its first: they change no `QUAD`. -/
theorem Block.txLanesOn_eq (b : Block) {n : Nat} (hn : n < 128) (f : Nat) :
    (b.each (b.txLanes n) fun b l => (b.laneRate l (if b.on F.SDI_TX_CFG_QUAD n then fmtQuadLane f else fmtLane f)).lanePower l 0) =
      b.lanesOn (b.txLanes n) (if b.on F.SDI_TX_CFG_QUAD n then fmtQuadLane f else fmtLane f) := by
  refine Block.each_eq_of (P := fun c => c.fld F.SDI_TX_CFG_QUAD n = b.fld F.SDI_TX_CFG_QUAD n) (fun c hc l hl => ?_) (fun c hc l _ => ?_) rfl
  · have hw : c.within [l] _ := (c.laneRate_within (if b.on F.SDI_TX_CFG_QUAD n then fmtQuadLane f else fmtLane f) (List.mem_singleton_self l)).trans
      (Block.lanePower_within _ 0 (List.mem_singleton_self l))
    refine (hw.fld_port (.inr rfl) fun j hj => ?_).trans hc
    have := Block.mem_txLanes hl
    have := List.mem_singleton.mp hj
    omega
  · rw [show c.on F.SDI_TX_CFG_QUAD n = b.on F.SDI_TX_CFG_QUAD n from congrArg (· == 1) hc]

theorem Block.txEn_starts {b : Block} {n : Nat} (hn : n < 128) (he : b.on F.SDI_TX_CFG_EN n = false) (h0 : b.txState n = 0) :
    b.txEn n true = b.txStart n := by
  have hst : (b.setTo F.SDI_TX_CFG_EN n true).txState n = 0 := (Block.fld_setTo_ne _ (by simp) _).trans h0
  unfold Block.txEn
  extract_lets was c f lanes
  have hl : lanes = c.lanesOn (c.txLanes n) (if c.on F.SDI_TX_CFG_QUAD n then fmtQuadLane f else fmtLane f) := c.txLanesOn_eq hn f
  rw [if_pos (by simp [was, he]), if_pos hst, hl]
  rfl

theorem Block.txStart_fields {b : Block} {n : Nat} (hn : n < 128) (hon : b.laneOn (128 + n) = true) : (b.txStart n).txState n = 1 ∧
    (b.txStart n).fld F.SDI_TX_CFG_EN n = 1 ∧ (b.txStart n).fld F.SDI_TX_CFG_FORMAT n = b.fld F.SDI_TX_CFG_FORMAT n ∧
    (b.txStart n).fld F.LANE_CTRL_POWER (128 + n) = 0 := by
  unfold Block.txStart
  extract_lets c f
  generalize (if c.on F.SDI_TX_CFG_QUAD n then fmtQuadLane f else fmtLane f) = r
  have hw := c.lanesOn_within (c.txLanes n) r
  have hle : ∀ l ∈ c.txLanes n, l ≤ 344 := fun l hl => by have := Block.mem_txLanes hl; omega
  have hc : c.laneOn (128 + n) = true := by
    have hk : c.fld F.PWR_DOM_ON_ON ((128 + n) % 128 / 8 / 32) = b.fld F.PWR_DOM_ON_ON ((128 + n) % 128 / 8 / 32) :=
      Block.fld_setTo_ne _ (by simp; omega) _
    rw [← hon]
    unfold Block.laneOn
    rw [laneDomain, if_pos (by omega)]
    exact congrArg (bitOf · ((128 + n) % 128 / 8 % 32)) hk
  refine ⟨?_, ?_, ?_, ?_⟩
  · rw [Block.txState, Block.fld_clr_ne _ (by simp)]
    exact Block.fld_setFld_same _ _ _ _
  · rw [Block.fld_clr_ne _ (by simp), Block.fld_setFld_ne _ _ (by simp), Block.updTx_fld, hw.fld_port (.inr rfl) hle]
    exact Block.fld_setTo_same _ _ _ _
  · rw [Block.fld_clr_ne _ (by simp), Block.fld_setFld_ne _ _ (by simp), Block.updTx_fld, hw.fld_port (.inr rfl) hle]
    exact Block.fld_setTo_ne _ (by simp) _
  · rw [Block.fld_clr_ne _ (by simp; omega), Block.fld_setFld_ne _ _ (by simp; omega), Block.updTx_fld]
    exact (c.lanesOn_fields _ r _ (c.self_mem_txLanes n) hc).1

section
variable {b : Block} {n v : Nat} (hn : n < 128)
include hn

section
variable (he : b.on F.SDI_TX_CFG_EN n = false) (h0 : b.txState n = 0) (hf : v / 2 % 32 ≠ 0)
include he h0 hf

/-- An output that is off stores the format. -/
theorem Block.txTaken_format : (b.txTaken n v).fld F.SDI_TX_CFG_FORMAT n = v / 2 % 32 := by
  have hs : b.txHeld n v = b.storeWord (sdiTxHeldFields n) n v := if_neg (by simp [he, h0])
  have hst : F.SDI_TX_CFG_FORMAT.stored (v / 2 % 32) = v / 2 % 32 :=
    (if_pos ⟨show 1 ≤ v / 2 % 32 % 32 by omega, show v / 2 % 32 % 32 ≤ 31 by omega⟩).trans (Nat.mod_mod _ 32)
  rw [b.txTaken_from v hn (portKey_tx rfl) (by simp [sdiTxFreeFields]), hs,
    b.fld_storeWord (by simp [sdiTxHeldFields]) rfl (sdiTxHeldFields_nodup n), show F.SDI_TX_CFG_FORMAT.of v = v / 2 % 32 from rfl, hst]
  exact Nat.mod_mod _ 32

variable (hq : b.txQuadMember n = false) (hv : v % 2 = 1)
include hq hv

theorem sdiTxEnable_starts (hc : b.fmtForCrew (n / 8) (v / 2 % 32) = true) : sdiTxEnable n v b = (b.txTaken n v).txStart n := by
  have hen : (b.txTaken n v).on F.SDI_TX_CFG_EN n = false := (congrArg (· == 1) (b.txTaken_en v hn) :).trans he
  rw [sdiTxEnable, txEnOf, if_pos hv, Block.sdiTxWrite_eq hq, Block.txTaken_format hn he h0 hf, b.txTaken_fmtForCrew v hn, hc, txEnOf, hv, hen]
  exact Block.txEn_starts hn hen ((b.txTaken_txState v hn).trans h0)

theorem sdiTxEnable_bars (hc : b.fmtForCrew (n / 8) (v / 2 % 32) = false) :
    sdiTxEnable n v b = (b.txTaken n v).reject 6 F.SDI_TX_HIST_CFG_REJECTED n := by
  have hen : (b.txTaken n v).on F.SDI_TX_CFG_EN n = false := (congrArg (· == 1) (b.txTaken_en v hn) :).trans he
  rw [sdiTxEnable, txEnOf, if_pos hv, Block.sdiTxWrite_eq hq, Block.txTaken_format hn he h0 hf, b.txTaken_fmtForCrew v hn, hc, txEnOf, hv, hen]
  rfl

end

/-- `EN` written 1 to an output that has it is the rest of the word. -/
theorem sdiTxEnable_again (hq : b.txQuadMember n = false) (hv : v % 2 = 1) (he : b.on F.SDI_TX_CFG_EN n = true) : sdiTxEnable n v b = (b.txTaken n v).setTo F.SDI_TX_CFG_EN n true := by
  have hen : (b.txTaken n v).on F.SDI_TX_CFG_EN n = true := (congrArg (· == 1) (b.txTaken_en v hn) :).trans he
  rw [sdiTxEnable, txEnOf, if_pos hv, Block.sdiTxWrite_eq hq, txEnOf, hv, hen]
  unfold Block.txEn
  rw [hen]
  rfl

end

/-! ### A write with `EN` 0 -/

/-- `EN` cleared of an output that has it. -/
theorem sdiTxDisable_eq {b : Block} {n v : Nat} (hn : n < 128) (hq : b.txQuadMember n = false) (hv : v % 2 = 0) (he : b.on F.SDI_TX_CFG_EN n = true) :
    sdiTxDisable n v b = if b.txState n = 1 then ((b.txTaken n v).setTo F.SDI_TX_CFG_EN n false).txStop n
      else ((b.txTaken n v).setTo F.SDI_TX_CFG_EN n false).updTx n fun s => { s with stopping := true } := by
  have hen : (b.txTaken n v).on F.SDI_TX_CFG_EN n = true := (congrArg (· == 1) (b.txTaken_en v hn) :).trans he
  have hst : ((b.txTaken n v).setTo F.SDI_TX_CFG_EN n false).txState n = b.txState n :=
    (Block.fld_setTo_ne _ (by simp) _).trans (b.txTaken_txState v hn)
  rw [sdiTxDisable, txEnOf, if_pos hv, Block.sdiTxWrite_eq hq, txEnOf, hv, ← hst]
  unfold Block.txEn
  rw [hen]
  rfl

end Sys2Proof.Machine
end
section
/-!
The lines of a transmitter (R205, R206, R211, R212).
-/
namespace Sys2Proof.Machine
set_option Elab.async false

/-! ### What a line is sent from -/

/-- A line as output `n` sends it, once its kind is known. -/
def Block.txSend (b : Block) (n frame line c kind : Nat) (ys : List Nat) (got : List (Option (List Byte))) : Block :=
  let look := (b.tx n).look
  let rows := b.lineRows n frame kind look ys got
  let b := b.ite (b.txState n != 1) fun b => b.keepRows n (b.vidAt n frame line) ys rows (kind == 1)
  let b := b.ite ((b.txLanes n).all b.laneSends) fun b => b.emit (.lineOut n frame line (b.lineSent n frame line kind look rows))
  b.ite (b.txState n != 1 && line == stampLine c) fun b => b.noteSent n

/-- The rows of a line that its source has. -/
def Block.txGot (b : Block) (n frame line : Nat) (live : Option (List (List Byte))) : List (Option (List Byte)) :=
  b.lineGot (b.vidAt n frame line) (rowsOnLine (b.fld F.SDI_TX_CFG_FORMAT n) line (b.on F.SDI_TX_CFG_QUAD n && !b.on F.SDI_TX_CFG_DIV_2SI n)) live

theorem sdiTxLine_eq {b : Block} {n frame line off : Nat} {live : Option (List (List Byte))} (h0 : b.txState n ≠ 0) (hq : b.txQuadMember n = false)
    (hn : b.txNext n frame line = true) : ∃ c, c = b.ite (line == 1) (fun b => (b.judgeMismatch n).newRows n) ∧ sdiTxLine n frame line off live b =
      ((c.txLine n frame line off ((c.txGot n frame line live).all Option.isSome)).2.txSend n frame line (c.fld F.SDI_TX_CFG_FORMAT n)
        (c.txLine n frame line off ((c.txGot n frame line live).all Option.isSome)).1
        (rowsOnLine (c.fld F.SDI_TX_CFG_FORMAT n) line (c.on F.SDI_TX_CFG_QUAD n && !c.on F.SDI_TX_CFG_DIV_2SI n)) (c.txGot n frame line live)).txLineEnd n line :=
  ⟨_, rfl, if_neg (by simp [h0, hq, hn])⟩

/-! ### What is sent changes no register -/

theorem Block.noteSent_tx (b : Block) (n : Nat) : ∃ x, (b.noteSent n).tx n = { b.tx n with sent := x } := by
  unfold Block.noteSent
  extract_lets x
  split
  · exact ⟨x, Block.tx_updTx_same _ _ _⟩
  · exact ⟨_, rfl⟩

theorem Block.noteSent_regs (b : Block) (n : Nat) : (b.noteSent n).regs = b.regs := by
  unfold Block.noteSent
  extract_lets x
  split <;> rfl

theorem Block.noteSent_out (b : Block) (n : Nat) : (b.noteSent n).out = b.out := by
  unfold Block.noteSent
  extract_lets x
  split <;> rfl

theorem Block.lineSent_kind (b : Block) (t n line kind : Nat) (look : TxLook) (rows : List (List Byte)) : (b.lineSent t n line kind look rows).kind = kind := by
  unfold Block.lineSent
  extract_lets c
  split
  · exact Eq.symm ‹kind = 4›
  · rfl

section
variable (b : Block) (n frame line c kind : Nat) (ys : List Nat) (got : List (Option (List Byte)))

@[simp] theorem Block.txSend_regs : (b.txSend n frame line c kind ys got).regs = b.regs := by
  unfold Block.txSend
  extract_lets look rows kept sent
  have hk : kept.regs = b.regs := Block.ite_cases (P := fun d => d.regs = b.regs) _ rfl rfl
  have hs : sent.regs = b.regs := Block.ite_cases (P := fun d => d.regs = b.regs) _ hk hk
  exact Block.ite_cases (P := fun d => d.regs = b.regs) _ hs ((sent.noteSent_regs n).trans hs)

theorem Block.txSend_tx : ∃ x, (b.txSend n frame line c kind ys got).tx n = { b.tx n with sent := x } := by
  unfold Block.txSend
  extract_lets look rows kept sent
  have hk : kept.tx n = b.tx n := Block.ite_cases (P := fun d => d.tx n = b.tx n) _ rfl rfl
  have hs : sent.tx n = b.tx n := Block.ite_cases (P := fun d => d.tx n = b.tx n) _ hk hk
  refine Block.ite_cases (P := fun d => ∃ x, d.tx n = { b.tx n with sent := x }) _ ⟨_, hs⟩ ?_
  obtain ⟨x, hx⟩ := sent.noteSent_tx n
  exact ⟨x, hx.trans (by rw [hs])⟩

/-- Lanes that send carry the line, of its kind. -/
theorem Block.mem_txSend_out (hl : (b.txLanes n).all b.laneSends = true) :
    ∃ x : LineSent, Out.lineOut n frame line x ∈ (b.txSend n frame line c kind ys got).out ∧ x.kind = kind := by
  unfold Block.txSend
  extract_lets look rows kept sent
  have hk : (kept.txLanes n).all kept.laneSends = true := Block.ite_cases (P := fun d => (d.txLanes n).all d.laneSends = true) _ hl hl
  have hs : sent = kept.emit (.lineOut n frame line (kept.lineSent n frame line kind look rows)) := if_pos hk
  refine ⟨kept.lineSent n frame line kind look rows, ?_, Block.lineSent_kind _ _ _ _ _ _ _⟩
  have hm : Out.lineOut n frame line (kept.lineSent n frame line kind look rows) ∈ sent.out := hs ▸ kept.mem_emit_out _
  exact Block.ite_cases (P := fun d => _ ∈ d.out) _ hm (sent.noteSent_out n ▸ hm)

end

/-! ### A line after the first (R211, R212) -/

/-- The keys of a line that is sent black for want of its source. -/
def substKeys (n : Nat) : List Nat := [F.SDI_TX_HIST_LINE_SUBST.key n, F.SDI_TX_SUBST_CNT_COUNT.key n]

/-- The line of a frame that an output has come to. -/
def Block.txAt (b : Block) (n frame line : Nat) : Block := b.updTx n fun s => { s with line := line, frame := frame }
/-- A line counted that its source has not. -/
def Block.txSubst (b : Block) (n : Nat) : Block := (b.bump F.SDI_TX_SUBST_CNT_COUNT n 1).set F.SDI_TX_HIST_LINE_SUBST n

/-- The code of a line without a source, by `NOSRC`. -/
def noSourceKind (code : Nat) : Nat := if code = 1 then 3 else if code = 2 then 4 else 2

/-- The kind of a line, and the output as it leaves it, once a frame start is behind. -/
def Block.txLineOf (b : Block) (n frame line : Nat) (present : Bool) : Nat × Block :=
  if b.txState n = 1 then (4, b)
  else if b.txState n = 3 then (noSourceKind (b.tx n).look.nosrc, b.txAt n frame line)
  else if present then (0, b.txAt n frame line)
  else (1, (b.txAt n frame line).txSubst n)

theorem Block.txLine_eq (b : Block) (n frame line off : Nat) (present : Bool) :
    b.txLine n frame line off present = (b.ite (line == 1) fun b => b.txFrameStart n off).txLineOf n frame line present := by
  have hk : ((b.ite (line == 1) fun b => b.txFrameStart n off).txAt n frame line).tx n = { (b.ite (line == 1) fun b => b.txFrameStart n off).tx n with
    line := line, frame := frame } := Block.tx_updTx_same _ _ _
  unfold Block.txLine Block.txLineOf
  extract_lets c d
  change d.tx n = _ at hk
  split
  · rfl
  · change (if c.txState n = 3 then _ else _) = _
    split
    · refine Prod.ext ?_ rfl
      change (match (d.tx n).look.nosrc with | 1 => 3 | 2 => 4 | _ => 2) = noSourceKind (c.tx n).look.nosrc
      rw [hk]
      match (c.tx n).look.nosrc with
      | 0 | 1 | 2 | _ + 3 => rfl
    · rfl

section
variable {b : Block} {n frame line : Nat} {present : Bool}

theorem Block.txLineOf_source (h2 : b.txState n = 2) : b.txLineOf n frame line present =
    if present then (0, b.txAt n frame line) else (1, (b.txAt n frame line).txSubst n) := by
  rw [Block.txLineOf, if_neg (by omega), if_neg (by omega)]

theorem Block.txLineOf_noSource (h3 : b.txState n = 3) : b.txLineOf n frame line present = (noSourceKind (b.tx n).look.nosrc, b.txAt n frame line) := by
  rw [Block.txLineOf, if_neg (by omega), if_pos h3]

/-- A running output comes to its line, and counts it when its source has it not. -/
theorem Block.txLineOf_left (h1 : b.txState n ≠ 1) : b.keeps (b.txLineOf n frame line present).2 (substKeys n) ∧
    (b.txLineOf n frame line present).2.tx n = { b.tx n with line := line, frame := frame } ∧
    (b.txLineOf n frame line present).2.released = b.released := by
  have ha : b.keeps (b.txAt n frame line) (substKeys n) := (b.keeps_refl _).of_regs rfl
  have ht : (b.txAt n frame line).tx n = { b.tx n with line := line, frame := frame } := Block.tx_updTx_same _ _ _
  unfold Block.txLineOf
  rw [if_neg h1]
  split
  · exact ⟨ha, ht, rfl⟩
  · split
    · exact ⟨ha, ht, rfl⟩
    · exact ⟨(ha.setFld (by simp [substKeys]) _).setFld (by simp [substKeys]) _, ht, rfl⟩

end

/-- Which lanes carry a line is none of what a line writes. -/
theorem Block.txLanesSend_keeps {b c : Block} {n : Nat} (hk : b.keeps c (substKeys n)) (hr : c.released = b.released) :
    (c.txLanes n).all c.laneSends = (b.txLanes n).all b.laneSends := by
  have hq : c.fld F.SDI_TX_CFG_QUAD n = b.fld F.SDI_TX_CFG_QUAD n := hk.fld (by simp [substKeys])
  have hl : c.txLanes n = b.txLanes n := congrArg (fun q : Nat => if (q == 1) = true then [128 + n, 129 + n, 130 + n, 131 + n] else [128 + n]) hq
  have hs : ∀ l ∈ b.txLanes n, c.laneSends l = b.laneSends l := fun l hm => by
    have hle := Block.mem_txLanes hm
    have hp : c.fld F.LANE_CTRL_POWER l = b.fld F.LANE_CTRL_POWER l := hk.fld (by simp [substKeys]; omega)
    have hg : c.fld F.PAT_CFG_GEN_EN l = b.fld F.PAT_CFG_GEN_EN l := hk.fld (by simp [substKeys]; omega)
    have hb : c.fld F.LANE_CTRL_LB l = b.fld F.LANE_CTRL_LB l := hk.fld (by simp [substKeys]; omega)
    have ht : c.fld F.LANE_CTRL_LB_TX_ON l = b.fld F.LANE_CTRL_LB_TX_ON l := hk.fld (by simp [substKeys]; omega)
    have hf : c.fld F.BIST_LANE_FAIL_FAIL (l / 32) = b.fld F.BIST_LANE_FAIL_FAIL (l / 32) := hk.fld (by simp [substKeys]; omega)
    simp only [Block.laneSends, Block.laneBist, Block.bitAt, Block.on, hr, hp, hg, hb, ht, hf]
  rw [hl, Bool.eq_iff_iff, List.all_eq_true, List.all_eq_true]
  exact forall₂_congr fun l hm => by rw [hs l hm]

end Sys2Proof.Machine
end
section
/-!
What a transmitter does at each line, and the crews' clocks (R206, R211 to R213).
-/
namespace Sys2Proof.Machine
set_option Elab.async false

/-! ### A line of an output that runs -/

/-- A line after the first as it is sent, before the output may end with it. -/
def Block.txLineSent (b : Block) (n frame line : Nat) (live : Option (List (List Byte))) : Block :=
  (b.txLineOf n frame line ((b.txGot n frame line live).all Option.isSome)).2.txSend n frame line (b.fld F.SDI_TX_CFG_FORMAT n)
    (b.txLineOf n frame line ((b.txGot n frame line live).all Option.isSome)).1
    (rowsOnLine (b.fld F.SDI_TX_CFG_FORMAT n) line (b.on F.SDI_TX_CFG_QUAD n && !b.on F.SDI_TX_CFG_DIV_2SI n)) (b.txGot n frame line live)

theorem sdiTxLine_after {b : Block} {n frame line off : Nat} {live : Option (List (List Byte))} (h0 : b.txState n ≠ 0) (hq : b.txQuadMember n = false)
    (hn : b.txNext n frame line = true) (h1 : line ≠ 1) : sdiTxLine n frame line off live b = (b.txLineSent n frame line live).txLineEnd n line := by
  obtain ⟨c, hc, he⟩ := sdiTxLine_eq (off := off) (live := live) h0 hq hn
  have hcb : c = b := hc.trans (by simp [Block.ite, h1])
  have hb : (b.ite (line == 1) fun b => b.txFrameStart n off) = b := by simp [Block.ite, h1]
  rw [he, hcb, Block.txLine_eq, hb]
  rfl

/-- The line after the one sent last is the next (R205). -/
theorem Block.txNext_after {b : Block} {n frame line : Nat} (h2 : 2 ≤ line) (hw : line ≤ fmtWireLines (b.fld F.SDI_TX_CFG_FORMAT n))
    (hf : (b.tx n).frame = frame) (hl : (b.tx n).line + 1 = line) : b.txNext n frame line = true := by
  unfold Block.txNext
  extract_lets c tl
  rw [if_neg (by omega)]
  simp [c, h2, hw, hf, hl]

section
variable {b : Block} {n frame line : Nat} {live : Option (List (List Byte))}

/-- A line leaves every register but its counters, and of the output's own state comes to its line. -/
theorem Block.txLineSent_left (h1 : b.txState n ≠ 1) : b.keeps (b.txLineSent n frame line live) (substKeys n) ∧
    ∃ x, (b.txLineSent n frame line live).tx n = { b.tx n with line := line, frame := frame, sent := x } := by
  obtain ⟨hk, ht, -⟩ := Block.txLineOf_left (frame := frame) (line := line) (present := (b.txGot n frame line live).all Option.isSome) h1
  obtain ⟨x, hx⟩ := Block.txSend_tx (b.txLineOf n frame line ((b.txGot n frame line live).all Option.isSome)).2 n frame line (b.fld F.SDI_TX_CFG_FORMAT n)
    (b.txLineOf n frame line ((b.txGot n frame line live).all Option.isSome)).1
    (rowsOnLine (b.fld F.SDI_TX_CFG_FORMAT n) line (b.on F.SDI_TX_CFG_QUAD n && !b.on F.SDI_TX_CFG_DIV_2SI n)) (b.txGot n frame line live)
  exact ⟨hk.of_regs (Block.txSend_regs _ _ _ _ _ _ _ _), x, hx.trans (by rw [ht])⟩

/-- Lanes that send carry the line. -/
theorem Block.mem_txLineSent_out (h1 : b.txState n ≠ 1) (hl : (b.txLanes n).all b.laneSends = true) :
    ∃ x : LineSent, Out.lineOut n frame line x ∈ (b.txLineSent n frame line live).out ∧
      x.kind = (b.txLineOf n frame line ((b.txGot n frame line live).all Option.isSome)).1 := by
  obtain ⟨hk, -, hr⟩ := Block.txLineOf_left (frame := frame) (line := line) (present := (b.txGot n frame line live).all Option.isSome) h1
  exact Block.mem_txSend_out _ n frame line _ _ _ _ ((Block.txLanesSend_keeps hk hr).trans hl)

/-- An output with a source counts the line that its source has not. -/
theorem Block.txLineSent_subst (h2 : b.txState n = 2) : (b.txLineSent n frame line live).fld F.SDI_TX_SUBST_CNT_COUNT n =
      (if (b.txGot n frame line live).all Option.isSome then b.fld F.SDI_TX_SUBST_CNT_COUNT n else min (b.fld F.SDI_TX_SUBST_CNT_COUNT n + 1) (2 ^ 32 - 1)) ∧
    ((b.txGot n frame line live).all Option.isSome = false → (b.txLineSent n frame line live).fld F.SDI_TX_HIST_LINE_SUBST n = 1) := by
  have hr : (b.txLineSent n frame line live).regs = (b.txLineOf n frame line ((b.txGot n frame line live).all Option.isSome)).2.regs :=
    Block.txSend_regs _ _ _ _ _ _ _ _
  rw [Block.fld_congr hr, Block.fld_congr hr, Block.txLineOf_source h2]
  cases (b.txGot n frame line live).all Option.isSome with
  | true => exact ⟨rfl, fun h => nomatch h⟩
  | false =>
    refine ⟨?_, fun _ => Block.fld_set_same _ _ _⟩
    exact (Block.fld_set_ne _ (by simp)).trans (Block.fld_bump_same _ _ _ _)

theorem Block.txLineSent_regs (h3 : b.txState n = 3) : (b.txLineSent n frame line live).regs = b.regs := by
  refine (Block.txSend_regs _ _ _ _ _ _ _ _).trans ?_
  rw [Block.txLineOf_noSource h3]
  rfl

end

/-- An output that does not stop goes on after its line. -/
theorem Block.txLineEnd_on {b : Block} {n line : Nat} (h : (b.tx n).stopping = false) : b.txLineEnd n line = b := by
  rw [Block.txLineEnd, h]
  rfl

/-- One that stops ends with the last line of a frame. -/
theorem Block.txLineEnd_last {b : Block} {n line : Nat} (h : (b.tx n).stopping = true) (hl : line = fmtWireLines (b.fld F.SDI_TX_CFG_FORMAT n))
    (h1 : b.txState n ≠ 1) : b.txLineEnd n line = b.txStop n := by
  have hp : ((b.tx n).stopping && line == fmtWireLines (b.fld F.SDI_TX_CFG_FORMAT n) && b.txState n != 1) = true := by simp [h, ← hl, h1]
  rw [Block.txLineEnd, hp]
  rfl

/-! ### The first line of a frame (R206, R211, R214) -/

/-- A raster has more lines than one. -/
theorem fmtWireLines_gt (c : Nat) : 1 < fmtWireLines c := by
  unfold fmtWireLines
  split
  · decide
  · split
    · decide
    · split <;> decide

/-- What a frame start does before the source is judged. -/
def Block.txBegin (b : Block) (n off : Nat) : Block :=
  (b.ite (b.txState n == 1) fun b => b.set F.SDI_TX_HIST_STARTED n).ite (decide (1000 < off)) fun b =>
    (b.set F.SDI_TX_STATUS_UNALIGNED n).set F.SDI_TX_HIST_UNALIGNED n

/-- The keys that it writes. -/
def beginKeys (n : Nat) : List Nat := [F.SDI_TX_HIST_STARTED.key n, F.SDI_TX_STATUS_UNALIGNED.key n, F.SDI_TX_HIST_UNALIGNED.key n]

theorem Block.txBegin_keeps (b : Block) (n off : Nat) : b.keeps (b.txBegin n off) (beginKeys n) := by
  have hb : b.keeps (b.ite (b.txState n == 1) fun b => b.set F.SDI_TX_HIST_STARTED n) (beginKeys n) :=
    Block.ite_cases (P := fun c => b.keeps c (beginKeys n)) _ (b.keeps_refl _) ((b.keeps_refl _).setFld (by simp [beginKeys]) 1)
  exact Block.ite_cases (P := fun c => b.keeps c (beginKeys n)) _ hb ((hb.setFld (by simp [beginKeys]) 1).setFld (by simp [beginKeys]) 1)

/-- An output that waited and is given no source starts without one. -/
theorem Block.txFrameStart_bare {b : Block} {n off : Nat} (h1 : b.txState n = 1) (hs : b.fld F.COX_TGT_VID_VID_SRC n = noStream) :
    (b.txFrameStart n off).txState n = 3 ∧ (b.txFrameStart n off).fld F.SDI_TX_HIST_STARTED n = 1 ∧
      (b.txFrameStart n off).fld F.SDI_TX_HIST_NOSRC_ENTERED n = 1 := by
  have hk := b.txBegin_keeps n off
  have hsrc : (b.txBegin n off).fld F.COX_TGT_VID_VID_SRC n = noStream := (hk.fld (by simp [beginKeys]; omega)).trans hs
  have hhas : (b.txBegin n off).outHasSource n = false := by simp [Block.outHasSource, hsrc]
  have hst : (b.txBegin n off).txState n = 1 := (hk.fld (by simp [beginKeys])).trans h1
  have hstart : (b.txBegin n off).fld F.SDI_TX_HIST_STARTED n = 1 := by
    rw [Block.txBegin, h1]
    exact Block.ite_cases (P := fun c => c.fld F.SDI_TX_HIST_STARTED n = 1) _ (Block.fld_set_same _ _ _) (by simp [Block.ite])
  have he : (b.txFrameStart n off).regs = (((b.txBegin n off).setFld F.SDI_TX_STATUS_STATE n 3).set F.SDI_TX_HIST_NOSRC_ENTERED n).regs := by
    unfold Block.txFrameStart
    extract_lets b1 b2 was has b3 b4
    have hb : b2 = b.txBegin n off := rfl
    have hh : has = false := hhas
    have hw : was = 1 := hst
    have h4 : b4 = (b2.setFld F.SDI_TX_STATUS_STATE n 3).set F.SDI_TX_HIST_NOSRC_ENTERED n := by
      simp only [b4, b3, hh, hw]
      rfl
    rw [Block.updTx_regs, h4, hb]
  refine ⟨?_, ?_, ?_⟩
  · exact (Block.fld_congr he _ _).trans ((Block.fld_set_ne _ (by simp)).trans (Block.fld_setFld_same _ _ _ _))
  · rw [Block.fld_congr he, Block.fld_set_ne _ (by simp), Block.fld_setFld_ne _ _ (by simp), hstart]
  · exact (Block.fld_congr he _ _).trans (Block.fld_set_same _ _ _)

/-- Line 1 of an output that waits and is given no source (R211, R380). -/
theorem sdiTxLine_starts {b : Block} {n frame off : Nat} {live : Option (List (List Byte))} (hq : b.txQuadMember n = false) (h1 : b.txState n = 1)
    (hs : b.fld F.COX_TGT_VID_VID_SRC n = noStream) (hn : b.txNext n frame 1 = true) :
    (sdiTxLine n frame 1 off live b).fld F.SDI_TX_HIST_STARTED n = 1 ∧ (sdiTxLine n frame 1 off live b).txState n = 3 ∧
      (sdiTxLine n frame 1 off live b).fld F.SDI_TX_HIST_NOSRC_ENTERED n = 1 ∧ ((sdiTxLine n frame 1 off live b).tx n).frame = frame ∧
      ((sdiTxLine n frame 1 off live b).tx n).line = 1 := by
  obtain ⟨c, hc, he⟩ := sdiTxLine_eq (off := off) (live := live) (by omega) hq hn
  have hcs : c.fld F.COX_TGT_VID_VID_SRC n = noStream := by
    rw [hc]
    exact (Block.fld_setTo_ne _ (by simp) _).trans hs
  have hc1 : c.txState n = 1 := by
    rw [hc]
    exact (Block.fld_setTo_ne _ (by simp; omega) _).trans h1
  obtain ⟨h3, hstart, hbare⟩ := Block.txFrameStart_bare (off := off) hc1 hcs
  rw [Block.txLine_eq, show (c.ite (1 == 1) fun b => b.txFrameStart n off) = c.txFrameStart n off from rfl, Block.txLineOf_noSource h3] at he
  generalize hd : Block.txSend _ n frame 1 _ _ _ _ = d at he
  have hr : d.regs = (c.txFrameStart n off).regs := hd ▸ Block.txSend_regs _ _ _ _ _ _ _ _
  have ht : (d.tx n).frame = frame ∧ (d.tx n).line = 1 := by
    obtain ⟨x, hx⟩ := Block.txSend_tx ((c.txFrameStart n off).txAt n frame 1) n frame 1 _ _ _ _
    rw [hd, Block.txAt, Block.tx_updTx_same] at hx
    rw [hx]
    exact ⟨rfl, rfl⟩
  have hend : d.txLineEnd n 1 = d := by
    have hw : (1 == fmtWireLines (d.fld F.SDI_TX_CFG_FORMAT n)) = false := beq_eq_false_iff_ne.mpr (fmtWireLines_gt _).ne
    simp [Block.txLineEnd, hw, Block.ite]
  rw [he, hend, Block.txState, Block.fld_congr hr, Block.fld_congr hr, Block.fld_congr hr]
  exact ⟨hstart, h3, hbare, ht⟩

/-! ### Crews (R213) -/

theorem crewCfgWrite_stores {b : Block} {c : Nat} (v : Nat) (h : b.crewBusy c = false) : crewCfgWrite c v b = b.storeWord [F.CREW_CFG_SYNTH, F.CREW_CFG_TL] c v :=
  if_neg (by simp [h])

theorem crewCfgWrite_rejects {b : Block} {c : Nat} (v : Nat) (h : b.crewBusy c = true) : crewCfgWrite c v b = b.reject 6 F.SDI_TX_HIST_CFG_REJECTED (8 * c) :=
  if_pos h

end Sys2Proof.Machine
end
section
/-!
The transmitters (R205 to R213).
-/
namespace Sys2Proof.Machine
set_option Elab.async false

/-! ### Writes of the configuration -/

section
variable {b : Block} {n v : Nat} (hn : n < 128) (hq : b.txQuadMember n = false)
include hn hq

section
variable (hv : v % 2 = 1)
include hv

section
variable (he : b.on F.SDI_TX_CFG_EN n = false) (h0 : b.txState n = 0) (hf : v / 2 % 32 ≠ 0)
include he h0 hf

theorem sdiTxEnable_waits (hc : b.fmtForCrew (n / 8) (v / 2 % 32) = true) (hon : b.laneOn (128 + n) = true) : (sdiTxEnable n v b).txState n = 1 ∧
    (sdiTxEnable n v b).fld F.SDI_TX_CFG_EN n = 1 ∧ (sdiTxEnable n v b).fld F.SDI_TX_CFG_FORMAT n = v / 2 % 32 ∧
    (sdiTxEnable n v b).fld F.LANE_CTRL_POWER (128 + n) = 0 := by
  obtain ⟨hst, hen, hfmt, hp⟩ := Block.txStart_fields hn ((b.txTaken_laneOn v hn).trans hon)
  rw [sdiTxEnable_starts hn he h0 hf hq hv hc]
  exact ⟨hst, hen, hfmt.trans (Block.txTaken_format hn he h0 hf), hp⟩

/-- A format that R189 bars leaves the output off (log 181). -/
theorem sdiTxEnable_barred (hc : b.fmtForCrew (n / 8) (v / 2 % 32) = false) : (sdiTxEnable n v b).txState n = 0 ∧
    (sdiTxEnable n v b).fld F.SDI_TX_CFG_EN n = b.fld F.SDI_TX_CFG_EN n ∧ (sdiTxEnable n v b).fld F.SDI_TX_HIST_CFG_REJECTED n = 1 ∧
    (sdiTxEnable n v b).fld F.LANE_CTRL_POWER (128 + n) = b.fld F.LANE_CTRL_POWER (128 + n) := by
  have hk : ∀ f m, f.key m ≠ F.SDI_TX_HIST_CFG_REJECTED.key n → f.key m ≠ F.BLK_REJECT_CNT_COUNT.key 6 →
      ((b.txTaken n v).reject 6 F.SDI_TX_HIST_CFG_REJECTED n).fld f m = (b.txTaken n v).fld f m := fun f m h h' =>
    ((b.txTaken n v).reject_writes F.SDI_TX_HIST_CFG_REJECTED n 6).1.fld (by simp only [List.mem_cons, List.not_mem_nil, h, h', or_false, not_false_eq_true])
  rw [sdiTxEnable_bars hn he h0 hf hq hv hc]
  refine ⟨?_, ?_, ?_, ?_⟩
  · exact (hk F.SDI_TX_STATUS_STATE n (by simp) (by simp; omega)).trans ((b.txTaken_txState v hn).trans h0)
  · exact (hk F.SDI_TX_CFG_EN n (by simp) (by simp; omega)).trans (b.txTaken_en v hn)
  · rw [Block.reject, Block.fld_bump_ne _ (by simp; omega)]
    exact Block.fld_set_same _ _ _
  · exact (hk F.LANE_CTRL_POWER (128 + n) (by simp; omega) (by simp; omega)).trans (b.txTaken_power v hn)

end

/-- An enabled output keeps its held fields. -/
theorem sdiTxEnable_held (he : b.on F.SDI_TX_CFG_EN n = true) (hu : b.unchanged (sdiTxHeldFields n) n v = false) :
    (sdiTxEnable n v b).fld F.SDI_TX_HIST_CFG_REJECTED n = 1 ∧ (sdiTxEnable n v b).fld F.SDI_TX_CFG_FORMAT n = b.fld F.SDI_TX_CFG_FORMAT n ∧
      (sdiTxEnable n v b).txState n = b.txState n := by
  have hh : b.txHeld n v = b.reject 6 F.SDI_TX_HIST_CFG_REJECTED n := by simp [Block.txHeld, he, hu]
  rw [sdiTxEnable_again hn hq hv he]
  refine ⟨?_, ?_, ?_⟩
  · rw [Block.fld_setTo_ne _ (by simp), b.txTaken_from v hn (portKey_tx rfl) (by simp [sdiTxFreeFields]), hh, Block.reject,
      Block.fld_bump_ne _ (by simp; omega)]
    exact Block.fld_set_same _ _ _
  · rw [Block.fld_setTo_ne _ (by simp), b.txTaken_from v hn (portKey_tx rfl) (by simp [sdiTxFreeFields]), hh, Block.reject,
      Block.fld_bump_ne _ (by simp; omega), Block.fld_set_ne _ (by simp)]
  · exact (Block.fld_setTo_ne _ (by simp) _).trans (b.txTaken_txState v hn)

end

section
variable (hv : v % 2 = 0) (he : b.on F.SDI_TX_CFG_EN n = true)
include hv he

theorem sdiTxDisable_stops (h1 : b.txState n = 1) : (sdiTxDisable n v b).txState n = 0 ∧ (sdiTxDisable n v b).fld F.SDI_TX_HIST_STOPPED n = 1 ∧
    (sdiTxDisable n v b).fld F.SDI_TX_CFG_EN n = 0 ∧ (sdiTxDisable n v b).fld F.LANE_CTRL_POWER (128 + n) = 3 := by
  have hen : ((b.txTaken n v).setTo F.SDI_TX_CFG_EN n false).fld F.SDI_TX_CFG_EN n = 0 := Block.fld_setTo_same _ _ _ _
  obtain ⟨hst, hs, hk, hp⟩ := Block.txStop_fields hn (congrArg (· == 1) hen :)
  rw [sdiTxDisable_eq hn hq hv he, if_pos h1]
  exact ⟨hst, hs, hk.trans hen, hp⟩

theorem sdiTxDisable_finishes (h2 : 2 ≤ b.txState n) : (sdiTxDisable n v b).txState n = b.txState n ∧ ((sdiTxDisable n v b).tx n).stopping = true ∧
    (sdiTxDisable n v b).fld F.SDI_TX_CFG_EN n = 0 := by
  rw [sdiTxDisable_eq hn hq hv he, if_neg (by omega)]
  refine ⟨?_, ?_, ?_⟩
  · exact (Block.updTx_fld _ _ _ _ _).trans ((Block.fld_setTo_ne _ (by simp) _).trans (b.txTaken_txState v hn))
  · rw [Block.tx_updTx_same]
  · exact (Block.updTx_fld _ _ _ _ _).trans (Block.fld_setTo_same _ _ _ _)

end

end

/-! ### Lines -/

section
variable {b : Block} {n frame line off : Nat} {live : Option (List (List Byte))} (hq : b.txQuadMember n = false)
include hq

/-- The last line of an output that stops. -/
theorem sdiTxLine_last (hn : n < 128) (hl : line = fmtWireLines (b.fld F.SDI_TX_CFG_FORMAT n)) (hx : b.txNext n frame line = true) (h2 : 2 ≤ line)
    (hst : 2 ≤ b.txState n) (hs : (b.tx n).stopping = true) (he : b.on F.SDI_TX_CFG_EN n = false) : (sdiTxLine n frame line off live b).txState n = 0 ∧
      (sdiTxLine n frame line off live b).fld F.SDI_TX_HIST_STOPPED n = 1 ∧ (sdiTxLine n frame line off live b).fld F.LANE_CTRL_POWER (128 + n) = 3 := by
  obtain ⟨hk, x, htx⟩ := Block.txLineSent_left (frame := frame) (line := line) (live := live) (show b.txState n ≠ 1 by omega)
  have hen : (b.txLineSent n frame line live).fld F.SDI_TX_CFG_EN n = b.fld F.SDI_TX_CFG_EN n := hk.fld (by simp [substKeys])
  have hfmt : (b.txLineSent n frame line live).fld F.SDI_TX_CFG_FORMAT n = b.fld F.SDI_TX_CFG_FORMAT n := hk.fld (by simp [substKeys])
  have hstate : (b.txLineSent n frame line live).txState n = b.txState n := hk.fld (by simp [substKeys])
  rw [sdiTxLine_after (by omega) hq hx (by omega), Block.txLineEnd_last (by rw [htx]; exact hs) (by rw [hfmt]; exact hl) (by rw [hstate]; omega)]
  obtain ⟨h0, hstop, -, hp⟩ := Block.txStop_fields hn ((congrArg (· == 1) hen :).trans he)
  exact ⟨h0, hstop, hp⟩

/-- The line that follows is the one sent. -/
theorem sdiTxLine_follows (h2 : 2 ≤ line) (hw : line ≤ fmtWireLines (b.fld F.SDI_TX_CFG_FORMAT n)) (hf : (b.tx n).frame = frame)
    (hl : (b.tx n).line + 1 = line) (hst : 2 ≤ b.txState n) (hs : (b.tx n).stopping = false) :
    sdiTxLine n frame line off live b = b.txLineSent n frame line live := by
  obtain ⟨-, x, htx⟩ := Block.txLineSent_left (frame := frame) (line := line) (live := live) (show b.txState n ≠ 1 by omega)
  rw [sdiTxLine_after (by omega) hq (Block.txNext_after h2 hw hf hl) (by omega), Block.txLineEnd_on (by rw [htx]; exact hs)]

/-- The line of a source goes out as it is, or black and counted. -/
theorem sdiTxLine_sends (h2 : 2 ≤ line) (hw : line ≤ fmtWireLines (b.fld F.SDI_TX_CFG_FORMAT n)) (hf : (b.tx n).frame = frame)
    (hl : (b.tx n).line + 1 = line) (hst : b.txState n = 2) (hs : (b.tx n).stopping = false) (hsend : (b.txLanes n).all b.laneSends = true) :
    (∃ x : LineSent, Out.lineOut n frame line x ∈ (sdiTxLine n frame line off live b).out ∧
      x.kind = (if (b.txGot n frame line live).all Option.isSome then 0 else 1) ∧
      (sdiTxLine n frame line off live b).fld F.SDI_TX_SUBST_CNT_COUNT n =
        (if x.kind = 1 then min (b.fld F.SDI_TX_SUBST_CNT_COUNT n + 1) (2 ^ 32 - 1) else b.fld F.SDI_TX_SUBST_CNT_COUNT n) ∧
      (x.kind = 1 → (sdiTxLine n frame line off live b).fld F.SDI_TX_HIST_LINE_SUBST n = 1)) ∧
    ((sdiTxLine n frame line off live b).tx n).line = line ∧ b.keeps (sdiTxLine n frame line off live b) (substKeys n) := by
  rw [sdiTxLine_follows hq h2 hw hf hl (by omega) hs]
  obtain ⟨hk, _, htx⟩ := Block.txLineSent_left (frame := frame) (line := line) (live := live) (show b.txState n ≠ 1 by omega)
  obtain ⟨x, hx, hkind⟩ := Block.mem_txLineSent_out (frame := frame) (line := line) (live := live) (show b.txState n ≠ 1 by omega) hsend
  obtain ⟨hcnt, hhist⟩ := Block.txLineSent_subst (frame := frame) (line := line) (live := live) hst
  rw [Block.txLineOf_source hst] at hkind
  rw [hcnt]
  refine ⟨⟨x, hx, ?_⟩, congrArg SdiTxSt.line htx, hk⟩
  cases hall : (b.txGot n frame line live).all Option.isSome with
  | true =>
    have h0 : x.kind = 0 := by simpa [hall] using hkind
    simp [h0]
  | false =>
    have h1 : x.kind = 1 := by simpa [hall] using hkind
    simpa [h1] using hhist hall

/-- A line without a source is what `NOSRC` chooses. -/
theorem sdiTxLine_bare (h2 : 2 ≤ line) (hw : line ≤ fmtWireLines (b.fld F.SDI_TX_CFG_FORMAT n)) (hf : (b.tx n).frame = frame)
    (hl : (b.tx n).line + 1 = line) (hst : b.txState n = 3) (hs : (b.tx n).stopping = false) (hsend : (b.txLanes n).all b.laneSends = true) :
    (∃ x : LineSent, Out.lineOut n frame line x ∈ (sdiTxLine n frame line off live b).out ∧ x.kind = noSourceKind (b.tx n).look.nosrc) ∧
    b.keeps (sdiTxLine n frame line off live b) [] := by
  rw [sdiTxLine_follows hq h2 hw hf hl (by omega) hs]
  obtain ⟨x, hx, hkind⟩ := Block.mem_txLineSent_out (frame := frame) (line := line) (live := live) (show b.txState n ≠ 1 by omega) hsend
  rw [Block.txLineOf_noSource hst] at hkind
  exact ⟨⟨x, hx, hkind⟩, (Block.keeps_refl _ _).of_regs (Block.txLineSent_regs hst)⟩

end

/-- Settles O16: a write of the configuration is `sdiTxWrite_eq`, a line after the first `txLineSent`, and a stop `txStop_fields`. -/
theorem transmittersSendAndStop : Obligations.TransmittersSendAndStop := by
  intro s n hs hn
  refine ⟨fun hq hr => ⟨fun v hv he h0 hf => ⟨fun hc hon => ?_, fun hc => ?_⟩, fun v hv he hu => ?_, fun v hv he h1 => ?_, fun v hv he h2 => ?_⟩,
    fun hq => ⟨fun frame off live h1 hsrc hx => ?_, fun frame line off live h2 hw hf hl hst hstop hsend => ?_,
      fun frame line off live h2 hw hf hl hst hstop hsend => ?_, fun frame line off live hl hx h2 hst _ hstop he => ?_⟩,
    fun frame line off live h => ?_, fun v hr hb => ?_, fun v hr hb => ?_⟩
  · exact ⟨_, run_reaches hs hr false _, sdiTxEnable_waits (b := s.quiet) hn hq hv he h0 hf hc hon⟩
  · exact ⟨_, run_reaches hs hr false _, sdiTxEnable_barred (b := s.quiet) hn hq hv he h0 hf hc⟩
  · exact ⟨_, run_reaches hs hr false _, sdiTxEnable_held (b := s.quiet) hn hq hv he hu⟩
  · exact ⟨_, run_reaches hs hr false _, sdiTxDisable_stops (b := s.quiet) hn hq hv he h1⟩
  · exact ⟨_, run_reaches hs hr false _, sdiTxDisable_finishes (b := s.quiet) hn hq hv he h2⟩
  · exact ⟨_, run_live _ hs, sdiTxLine_starts (b := s.quiet) hq h1 hsrc hx⟩
  · obtain ⟨⟨x, hx, hkind, hcnt, hhist⟩, hline, hk⟩ := sdiTxLine_sends (b := s.quiet) (off := off) (live := live) hq h2 hw hf hl hst hstop hsend
    exact ⟨_, run_live _ hs, ⟨x, mem_effect_out hx, hkind, hcnt, hhist⟩, hline, regsKept_effect hk⟩
  · obtain ⟨⟨x, hx, hkind⟩, hk⟩ := sdiTxLine_bare (b := s.quiet) (off := off) (live := live) hq h2 hw hf hl hst hstop hsend
    exact ⟨_, run_live _ hs, ⟨x, mem_effect_out hx, hkind⟩, regsKept_effect hk⟩
  · exact ⟨_, run_live _ hs, sdiTxLine_last (b := s.quiet) hq hn hl hx h2 hst hstop he⟩
  · exact ⟨_, run_live _ hs, onlyRegs_effect_self (if_pos (h.imp_right fun hx => .inr (by simp [show s.quiet.txNext n frame line = false from hx])))⟩
  · have heq := crewCfgWrite_stores (b := s.quiet) v.toNat hb
    have hd : [F.CREW_CFG_SYNTH, F.CREW_CFG_TL].Pairwise (·.key (n / 8) ≠ ·.key (n / 8)) := by simp
    refine ⟨_, run_reaches hs hr false _, ?_, ?_, onlyRegs_effect ?_⟩
    · rw [Block.effect_fld, heq, Block.fld_storeWord _ (by simp) rfl hd, Field.stored_of_any rfl]
      exact congrArg (· % 4) (Nat.div_one _)
    · rw [Block.effect_fld, heq, Block.fld_storeWord _ (by simp) rfl hd, Field.stored_of_any rfl]
      rfl
    · rw [heq]
      exact Block.storeWord_of_writes _ _ _ _
  · have heq := crewCfgWrite_rejects (b := s.quiet) v.toNat hb
    refine ⟨_, run_reaches hs hr false _, ?_, onlyRegs_effect ?_⟩
    · rw [Block.effect_fld, heq, Block.reject, Block.fld_bump_ne _ (by simp; omega)]
      exact Block.fld_set_same _ _ _
    · rw [heq]
      exact Block.reject_writes _ _ _ _

end Sys2Proof.Machine
end
section
/-!
Reads of registers: a word does not depend on the record of outputs; counters that a read clears; the diagnostic read (R198, R570, R602).
-/
namespace Sys2Proof.Machine
set_option Elab.async false

/-! ### A word does not depend on the record of outputs -/

theorem atReg_mem {α : Type} {a n : Nat} {x : α} {l : List (Reg × α)} (h : atReg a l = some (x, n)) : ∃ r, (r, x) ∈ l := by
  induction l with
  | nil => nomatch h
  | cons e t ih =>
    obtain ⟨r, y⟩ := e
    unfold atReg at h
    split at h
    · obtain rfl : y = x := congrArg Prod.fst (Option.some.inj h)
      exact ⟨r, List.mem_cons_self⟩
    · obtain ⟨q, hq⟩ := ih h
      exact ⟨q, List.mem_cons_of_mem _ hq⟩

theorem Block.quiet_hoSearch (b : Block) (i t : Nat) : b.quiet.hoSearch i t = b.hoSearch i t := by
  induction i generalizing t with
  | zero => rfl
  | succ i ih => exact ih _

theorem Block.quiet_hoRemain (b : Block) : b.quiet.hoRemain = b.hoRemain := by
  have ht : b.quiet.hoTotal = b.hoTotal := by
    unfold Block.hoTotal
    rw [b.quiet_hoSearch]
    rfl
  unfold Block.hoRemain
  rw [ht]
  rfl

theorem wordViews_quiet : ∀ e ∈ wordViews, ∀ (b : Block) (n : Nat), e.2 b.quiet n = e.2 b n := by
  have hho : ∀ (b : Block) (n : Nat), (fun (b : Block) (_ : Nat) => b.hoRemain) b.quiet n = b.hoRemain := fun b _ => b.quiet_hoRemain
  unfold wordViews
  iterate 11 refine List.forall_mem_cons.mpr ⟨fun _ _ => rfl, ?_⟩
  refine List.forall_mem_cons.mpr ⟨hho, ?_⟩
  repeat refine List.forall_mem_cons.mpr ⟨fun _ _ => rfl, ?_⟩
  exact List.forall_mem_nil _

/-- What is shown of the registers' own reads is shown with an empty record. -/
theorem Block.regPeek_quiet (b : Block) (a : Nat) : b.quiet.regPeek a = b.regPeek a := by
  unfold Block.regPeek Block.regTake
  change (if ¬b.regHas a = true ∨ b.regOff a = true then (0, b.quiet) else _).1 = _
  split
  · rfl
  · split
    · rfl
    · split
      · rfl
      · split
        case h_1 f n hf =>
          obtain ⟨r, hr⟩ := atReg_mem hf
          exact wordViews_quiet _ hr b n
        case h_2 => rfl

theorem Block.quiet_ite {b : Block} {p : Bool} {f : Block → Block} (hf : f b.quiet = (f b).quiet) : b.quiet.ite p f = (b.ite p f).quiet := by
  cases p
  · rfl
  · exact hf

theorem Block.quiet_adaptNow (b : Block) (l : Nat) : b.quiet.adaptNow l = (b.adaptNow l).quiet := by
  unfold Block.adaptNow
  change (if b.on F.LANE_STATUS_FROZEN l = true then b.quiet else _) = _
  split
  · rfl
  · cases laneHasCtle l <;> cases laneHasVga l <;> cases laneHasDfe l <;> rfl

theorem Block.quiet_eqLive (b : Block) (l : Nat) : b.quiet.eqLive l = (b.eqLive l).quiet := Block.quiet_ite (b.quiet_adaptNow l)

theorem Block.quiet_snrLive (b : Block) (l : Nat) : b.quiet.snrLive l = (b.snrLive l).quiet := by
  unfold Block.snrLive
  change (if b.on F.LANE_STATUS_PAM4 l = true ∧ b.on F.LANE_STATUS_SIG_DET l = true then _ else _) = _
  split <;> rfl

theorem Block.quiet_chkLive (b : Block) (l : Nat) : b.quiet.chkLive l = (b.chkLive l).quiet := by
  unfold Block.chkLive Block.chkCount
  change (if b.on F.PAT_CFG_IN_SYNC l = true then if b.on F.PAT_CFG_IN_SYNC l = true then _ else _ else _) = _
  split
  · rename_i h
    rw [if_pos (show b.fresh.2.fresh.2.on F.PAT_CFG_IN_SYNC l = true from h)]
    rfl
  · rfl

theorem liveActs_quiet : ∀ e ∈ liveActs, ∀ (b : Block) (n : Nat), e.2 n b.quiet = (e.2 n b).quiet := by
  unfold liveActs
  exact List.forall_mem_cons.mpr ⟨Block.quiet_eqLive, List.forall_mem_cons.mpr ⟨Block.quiet_eqLive, List.forall_mem_cons.mpr ⟨Block.quiet_eqLive,
    List.forall_mem_cons.mpr ⟨Block.quiet_snrLive, List.forall_mem_cons.mpr ⟨Block.quiet_chkLive, List.forall_mem_nil _⟩⟩⟩⟩⟩

/-- A register that is brought up to date is so with any record. -/
theorem Block.quiet_live (b : Block) (a : Nat) : b.quiet.live a = (b.live a).quiet := by
  unfold Block.live
  split
  case h_1 f n hf =>
    obtain ⟨r, hr⟩ := atReg_mem hf
    exact liveActs_quiet _ hr b n
  case h_2 => rfl

theorem Block.live_regPeek_quiet (b : Block) (a : Nat) : (b.quiet.live a).regPeek a = (b.live a).regPeek a := by
  rw [b.quiet_live, Block.regPeek_quiet]

/-! ### A counter that a read clears (R198, R701) -/

/-- A register of a receiver's row that is not its CRC counter: another word of the row, or the list of packets. -/
def Reg.besideCrc (r : Reg) : Bool :=
  r.stride == 64 && (r.count2 == 1 && r.off / 64 == 0x501000 / 64 && r.off % 64 != 24 || r.count2 == 4 && r.stride2 == 4 && r.off == 0x501030)

theorem Reg.besideCrc_indexOf {r : Reg} (h : r.besideCrc = true) (n : Nat) : r.indexOf (R.SDI_RX_CRC_CNT.addr n) = none := by
  have ha : R.SDI_RX_CRC_CNT.addr n = 0x501018 + 64 * n := by simp [Reg.addr, R.SDI_RX_CRC_CNT, Nat.mod_one]
  simp only [Reg.besideCrc, Bool.and_eq_true, Bool.or_eq_true, beq_iff_eq, bne_iff_ne] at h
  obtain ⟨hs, ⟨⟨hc, hoff⟩, hne⟩ | ⟨⟨hc, hs2⟩, hoff⟩⟩ := h
  · unfold Reg.indexOf
    simp only [ha, hs, hc, if_true]
    split
    · rfl
    · exact if_neg (by simp; omega)
  · unfold Reg.indexOf
    rw [ha, hs, hc, hs2, hoff, if_neg (show ¬(4 = 1) by decide)]
    split
    · rfl
    · exact if_neg (by simp only [Nat.reduceEqDiff, if_false]; omega)

theorem sdiRxCrcCnt_indexOf {n : Nat} (hn : n < 128) : R.SDI_RX_CRC_CNT.indexOf (R.SDI_RX_CRC_CNT.addr n) = some n := by
  have ha : R.SDI_RX_CRC_CNT.addr n = R.SDI_RX_CRC_CNT.off + 64 * n := by simp [Reg.addr, R.SDI_RX_CRC_CNT, Nat.mod_one]
  unfold Reg.indexOf
  rw [ha, if_neg (by omega), Nat.add_sub_cancel_left]
  exact (if_pos rfl).trans ((if_pos ⟨Nat.mul_mod_right _ _, show 64 * n / 64 < 128 by omega⟩).trans (congrArg some (Nat.mul_div_cancel_left n (by decide))))

/-- The CRC counter is the one field at its address. -/
theorem sdiRxCrcCnt_fieldsAt {n : Nat} (hn : n < 128) : fieldsAt (R.SDI_RX_CRC_CNT.addr n) = [(F.SDI_RX_CRC_CNT_COUNT, n)] := by
  have ha : R.SDI_RX_CRC_CNT.addr n = 0x501018 + 64 * n := by simp [Reg.addr, R.SDI_RX_CRC_CNT, Nat.mod_one]
  have hblk : R.SDI_RX_CRC_CNT.addr n / 0x100000 = 5 := by omega
  have hmiss : ∀ l : List Field, l.all (fun f => f.reg.besideCrc) = true →
      l.filterMap (fun f => (f.reg.indexOf (R.SDI_RX_CRC_CNT.addr n)).map fun n => (f, n)) = [] := fun l hl => by
    rw [List.filterMap_eq_nil_iff]
    intro f hf
    rw [Reg.besideCrc_indexOf (List.all_eq_true.mp hl f hf)]
    rfl
  have hsplit : fieldsOfBlock 5 = fieldsSDIRX.take 31 ++ F.SDI_RX_CRC_CNT_COUNT :: fieldsSDIRX.drop 32 := rfl
  unfold fieldsAt
  rw [if_neg (by omega), hblk, hsplit, List.filterMap_append, hmiss _ rfl, List.nil_append, List.filterMap_cons, hmiss _ rfl]
  rw [show F.SDI_RX_CRC_CNT_COUNT.reg = R.SDI_RX_CRC_CNT from rfl, sdiRxCrcCnt_indexOf hn]
  rfl

/-- The counter is answered and cleared, with the events that fall on the read. -/
theorem rclCounterRead_crc {b : Block} {n : Nat} (late : Nat) (hn : n < 128) (hh : b.regHas (R.SDI_RX_CRC_CNT.addr n) = true)
    (ho : b.regOff (R.SDI_RX_CRC_CNT.addr n) = false) : rclCounterRead (R.SDI_RX_CRC_CNT.addr n) late b = b.readClear F.SDI_RX_CRC_CNT_COUNT n late := by
  have ha : R.SDI_RX_CRC_CNT.addr n = 0x501018 + 64 * n := by simp [Reg.addr, R.SDI_RX_CRC_CNT, Nat.mod_one]
  have he : R.ETH_CNT_LO.indexOf (R.SDI_RX_CRC_CNT.addr n) = none := if_pos (by rw [ha]; show _ < 0x701040; omega)
  unfold rclCounterRead
  rw [if_neg (by simp [hh, ho]), he, sdiRxCrcCnt_fieldsAt hn]
  exact if_pos rfl

theorem Block.readClear_writes (b : Block) (f : Field) (n late : Nat) : b.writes (b.readClear f n late) [f.key n] :=
  (((b.writes_refl _).emit _).setFld (by simp) _).setFld (by simp) _

theorem Block.readClear_fld (b : Block) (f : Field) (n late : Nat) : (b.readClear f n late).fld f n = min late (2 ^ f.width - 1) := by
  rw [Block.readClear, Block.fld_bump_same, Block.fld_clr_same, Nat.zero_add]

/-! ### The diagnostic read (R570, R602) -/

/-- A diagnostic command whose checks pass has its effect, in the safe state too (R633). -/
theorem Block.command_diag {b : Block} {ch code : Nat} {args conds : List (Bool × Nat)} (ha : firstFail args = none) (hc : code / 256 = 0x0D)
    (hf : firstFail conds = none) (eff : Block → Block) : b.command ch code true true args conds eff = eff b := by
  unfold Block.command
  rw [hc, Bool.and_comm, show (!((0x0D : Nat) == 0x01 || (0x0D : Nat) == 0x0B || (0x0D : Nat) == 0x0D)) = false from rfl, Bool.false_and, List.append_assoc,
    List.append_assoc, firstFail_append rfl, firstFail_append ha, firstFail_append rfl, hf]

/-- The payload of a `DIAG_READ` of one register, without `TAKE`. -/
def readPayload (a : Nat) : List Byte := leBytes 8 (0x40000000 + a) ++ [1, 0, 0, 0]

theorem diagRead_one {b : Block} {a : Nat} (ch : Nat) (ha : a < 0x1A00000) (h4 : a % 4 = 0) :
    diagRead ch (readPayload a) b = ((b.diagGet (masterOf ch) a false).2).ok ch (leBytes 4 (b.diagGet (masterOf ch) a false).1) := by
  have haddr : le (readPayload a) 0 8 = 0x40000000 + a := by
    rw [readPayload, le_append_left (by simp), le_leBytes]
    omega
  have hn : le (readPayload a) 8 2 = 1 := by
    rw [readPayload, le_append_right (by simp), leBytes_length]
    rfl
  have ht : le (readPayload a) 10 1 = 0 := by
    rw [readPayload, le_append_right (by simp), leBytes_length]
    rfl
  have hz : zeros (readPayload a) 11 1 = true := by
    rw [zeros, readPayload, le_append_right (by simp), leBytes_length]
    rfl
  have hlen : ((readPayload a).length == 12) = true := by simp [readPayload]
  unfold diagRead
  rw [haddr, hn, ht, hz, hlen]
  rw [Block.command_diag ?_ rfl rfl]
  · rw [Nat.add_sub_cancel_left, show bitOf 0 0 = false from rfl, List.range_one]
    simp only [List.foldl_cons, List.foldl_nil, Nat.mul_zero, Nat.add_zero, List.nil_append]
  · simp [firstFail]
    omega

/-- A register in a domain that is off: zero, and the hit is counted (R570). -/
theorem Block.diagGet_off {b : Block} {a : Nat} (m : Nat) (hh : b.regHas a = true) (ho : b.regOff a = true) : b.diagGet m a false = (0, b.pdOffHit m a false) :=
  if_pos ⟨hh, ho⟩

theorem Block.diagGet_on {b : Block} {a : Nat} (m : Nat) (ho : b.regOff a = false) : b.diagGet m a false = ((b.live a).regPeek a, b.live a) := by
  unfold Block.diagGet
  rw [if_neg (by simp [ho]), if_neg Bool.false_ne_true]

/-- The matrix's record of an error leaves its history and its counters (R571). -/
theorem Block.matErrs_fld (b : Block) (l : List MatErr) {f : Field} {n : Nat} (h : f.key n ∉ [F.MATRIX_ERR_ADDR_LO_ADDR.key 0, F.MATRIX_ERR_ADDR_HI_ADDR.key 0,
    F.MATRIX_ERR_INFO_MASTER.key 0, F.MATRIX_ERR_INFO_WRITE.key 0, F.MATRIX_ERR_INFO_KIND.key 0, F.MATRIX_ERR_INFO_REGION.key 0, F.MATRIX_ERR_INFO_TARGET.key 0]) :
    (b.matErrs l).fld f n = b.fld f n := by
  simp only [List.mem_cons, List.not_mem_nil, or_false, not_or] at h
  obtain ⟨h1, h2, h3, h4, h5, h6, h7⟩ := h
  unfold Block.matErrs
  split
  · rfl
  · split
    · rfl
    · change Block.fld (Block.setFld _ _ _ _) f n = _
      rw [Block.fld_setFld_ne _ _ h7, Block.fld_setFld_ne _ _ h6, Block.fld_setFld_ne _ _ h5, Block.fld_setTo_ne _ h4, Block.fld_setFld_ne _ _ h3,
        Block.fld_setFld_ne _ _ h2, Block.fld_setFld_ne _ _ h1]

theorem Block.pdOffHit_fields (b : Block) (m a : Nat) (write : Bool) : (b.pdOffHit m a write).fld F.MATRIX_HIST_PD_OFF_HIT 0 = 1 ∧
    (b.pdOffHit m a write).fld F.MATRIX_HOLE_CNT_COUNT 0 = min (b.fld F.MATRIX_HOLE_CNT_COUNT 0 + 1) (2 ^ 32 - 1) := by
  refine ⟨?_, ?_⟩
  · rw [Block.pdOffHit, Block.matErrs_fld _ _ (by simp), Block.fld_bump_ne _ (by simp)]
    exact Block.fld_set_same _ _ _
  · rw [Block.pdOffHit, Block.matErrs_fld _ _ (by simp), Block.fld_bump_same, Block.fld_set_ne _ (by simp)]
    rfl

end Sys2Proof.Machine
end
section
/-!
One write on an idle matrix (R559 to R574), and what a write does by the access codes (R701).
-/
namespace Sys2Proof.Machine
set_option Elab.async false

/-! ### A core's write of a register below the second bridge's -/

/-- A write of a word by a master, as the matrix sees it. -/
def wordWrite (m region a : Nat) (d : List Byte) : MatReq := ⟨m, 0, region, 0x40000000 + a, 4, some d, 0, true⟩

theorem reqEnter_core {m a : Nat} (hm : m < 4) (region : Nat) (d : List Byte) : reqEnter (wordWrite m region a d) = some (wordWrite m 2 a d) :=
  if_neg fun h => absurd (show m = 5 from h.1) (by omega)

theorem Block.target_bridge (b : Block) {x : Nat} (h : 0x40000000 ≤ x) (h' : x < 0x40D00000) : b.target x = 3 := by
  unfold Block.target inAlias
  rw [if_neg (by simp; omega), if_neg (by omega), if_neg (by omega), if_neg (by omega), if_pos ⟨h, h'⟩]

/-- Every target but the bridge has no part in the write. -/
theorem Block.target_word (b : Block) {a : Nat} (ha : a < 0xD00000) (m region : Nat) (d : List Byte) : b.target (wordWrite m region a d).addr = 3 :=
  b.target_bridge (x := 0x40000000 + a) (by omega) (by omega)

/-- The firewall lets a core write a register of these blocks (R574). -/
theorem Block.fwDenies_core (b : Block) {m a : Nat} (hm : m < 4) (ha : a < 0xD00000) (d : List Byte) : b.fwDenies (wordWrite m 2 a d) = none := by
  have hr : b.fwRegion (0x40000000 + a) 4 = some 4 := by
    unfold Block.fwRegion
    rw [if_pos (by omega), Nat.add_sub_cancel_left]
    extract_lets v
    rw [if_neg (by omega), if_neg (by omega)]
  have hallow : fwAllows 4 m true = true := by interval_cases m <;> rfl
  have h5 : (m == 5) = false := beq_eq_false_iff_ne.mpr (by omega)
  unfold Block.fwDenies
  extract_lets lc wr by04
  have hby : by04 = none := by
    change (match b.fwRegion (0x40000000 + a) 4 with
      | none => none
      | some k => if fwAllows k m true && (!(k == 4 && true && m == 5 && (2 : Nat) != 0) || lc == 0 || lc == 3) then none else some k) = none
    rw [hr]
    exact if_pos (by rw [hallow, h5]; rfl)
  rw [if_neg (show ¬(wordWrite m 2 a d).master = 9 from fun h => absurd (show m = 9 from h) (by omega)), hby]

/-! ### One cycle of an idle matrix -/

/-- A target without timeouts answers as it is (R685). -/
theorem Block.targetAnswered_idle {b : Block} (h : b.flt.timeouts = []) (blk : Nat) : b.targetAnswered blk = b := by
  unfold Block.targetAnswered
  rw [h]
  rfl

/-- A register whose domain is on is written. -/
theorem MatCycle.serveReg_write {c : MatCycle} {m a : Nat} {d : List Byte} (h4 : a % 4 = 0) (hm : m < 4) (ho : c.now.regOff a = false) :
    c.serveReg (wordWrite m 2 a d) =
      { c.run (fun b => ((b.regWrite m a (leNat (padTo 4 d))).reply (wordWrite m 2 a d) false [], [])) with wrote := a :: c.wrote } := by
  have haddr : (wordWrite m 2 a d).addr - 0x40000000 = a := Nat.add_sub_cancel_left _ _
  have hplace : ¬((wordWrite m 2 a d).size ≠ 4 ∨ (wordWrite m 2 a d).addr % 4 ≠ 0) := fun h =>
    h.elim (fun h => h rfl) fun h => absurd (show (0x40000000 + a) % 4 ≠ 0 from h) (by omega)
  have hhost : ¬((wordWrite m 2 a d).master = 5 ∧ hostHidden a = true) := fun h => absurd (show m = 5 from h.1) (by omega)
  have hoff : ¬(c.now.regHas a = true ∧ c.now.regOff a = true) := fun h => Bool.eq_false_iff.mp ho h.2
  unfold MatCycle.serveReg
  rw [haddr]
  extract_lets x b
  rw [if_neg hplace, if_neg hhost, if_neg hoff]
  exact if_neg fun h => absurd (show (2 : Nat) = 0 from h.1) (by decide)

theorem Block.mustHold_idle {b : Block} (ho : b.mat.out = []) {m a : Nat} (d : List Byte) (ha : a < 0xD00000) : b.mustHold (wordWrite m 2 a d) = false := by
  have hout : b.outstanding 3 = 0 := by rw [Block.outstanding, ho]; rfl
  have hal : inAlias (wordWrite m 2 a d).addr = false := decide_eq_false (show ¬0x40000000 + a < 0x200000 by omega)
  unfold Block.mustHold
  rw [b.target_word ha, ho, hal]
  extract_lets k
  rw [show b.outstanding k = 0 from hout, decide_eq_true (Nat.zero_le _)]
  rfl

/-- The turn of a target in a cycle. -/
def MatCycle.turn (all : List (MatReq × Bool)) (c : MatCycle) (k : Nat) : MatCycle :=
  MatCycle.arbitrate k (c.now.outstanding k == 0) (all.filter fun x => c.now.target x.1.addr == k).length c (all.filter fun x => c.now.target x.1.addr == k)

/-- A cycle with one request and nothing that ends. -/
theorem Block.matrixCycle_one (b : Block) (q : MatReq) : b.matrixCycle [q] [] =
    let s := (MatCycle.mk b b.parkSettle [] []).letIn q
    let c := (List.range 7).foldl (MatCycle.turn (s.1.now.mat.held.map (fun r => (r, false)) ++ s.2.toList.map fun r => (r, true)))
      (s.1.run fun b => (b.updMat fun m => { m with held := [] }, []))
    c.now.matErrs c.errs := rfl

section
variable {m a : Nat} {d : List Byte} (ha : a < 0xD00000)
include ha

theorem MatCycle.letIn_core (c : MatCycle) (hm : m < 4) (region : Nat) : c.letIn (wordWrite m region a d) = (c, some (wordWrite m 2 a d)) := by
  unfold MatCycle.letIn
  rw [reqEnter_core hm]
  change (match c.now.fwDenies (wordWrite m 2 a d) with | some k => _ | none => _) = _
  rw [c.now.fwDenies_core hm ha d]

theorem MatCycle.turn_other (c : MatCycle) {k : Nat} (hk : k ≠ 3) : c.turn [(wordWrite m 2 a d, true)] k = c := by
  have hf : ([(wordWrite m 2 a d, true)].filter fun x => c.now.target x.1.addr == k) = [] := by
    simp [c.now.target_word ha, Ne.symm hk]
  unfold MatCycle.turn
  rw [hf]
  rfl

/-- The matrix with the core's turn noted. -/
def Block.matServed (b : Block) (m : Nat) : Block := b.updMat fun s => { s with served := s.served.put 3 (m + 1) }

theorem MatCycle.turn_bridge (c : MatCycle) (ho : c.now.mat.out = []) (ht : c.now.flt.timeouts = []) :
    c.turn [(wordWrite m 2 a d, true)] 3 = (c.run fun b => (b.matServed m, [])).serveReg (wordWrite m 2 a d) := by
  have hf : ([(wordWrite m 2 a d, true)].filter fun x => c.now.target x.1.addr == 3) = [(wordWrite m 2 a d, true)] := by
    simp [c.now.target_word ha]
  unfold MatCycle.turn
  rw [hf]
  change (ite (c.now.mustHold (wordWrite m 2 a d) = true) _ _ : MatCycle) = _
  rw [if_neg (by rw [Block.mustHold_idle ho d ha]; exact Bool.false_ne_true)]
  change MatCycle.serve (c.run fun b => (b.matServed m, [])) (wordWrite m 2 a d) = _
  unfold MatCycle.serve
  extract_lets k c'
  have hk : k = 3 := Block.target_word _ ha m 2 d
  have hc : c' = c.run fun b => (b.matServed m, []) := by
    have hn := Block.targetAnswered_idle (b := (c.run fun b => (b.matServed m, [])).now) ht (targetBlock k (wordWrite m 2 a d).addr)
    simp only [c', hn]
  rw [if_pos (.inl hk), hc]

end

/-- One write of a core on an idle matrix is the write of the register, and its answer. -/
theorem Block.matrixCycle_write {b : Block} (hout : b.mat.out = []) (hheld : b.mat.held = []) (htmo : b.flt.timeouts = []) {m a : Nat} (region : Nat)
    (d : List Byte) (hm : m < 4) (ha : a < 0xD00000) (h4 : a % 4 = 0) (ho : b.regOff a = false) :
    b.matrixCycle [wordWrite m region a d] [] =
      (((b.parkSettle.updMat fun s => { s with held := [] }).matServed m).regWrite m a (leNat (padTo 4 d))).reply (wordWrite m 2 a d) false [] := by
  rw [Block.matrixCycle_one, MatCycle.letIn_core ha _ hm]
  extract_lets t c
  have hall : (t.1.now.mat.held.map (fun r => (r, false)) ++ t.2.toList.map fun r => (r, true)) = [(wordWrite m 2 a d, true)] := by
    have hh : t.1.now.mat.held = [] := hheld
    rw [hh]
    rfl
  have hr : List.range 7 = [0, 1, 2, 3, 4, 5, 6] := rfl
  have hother : ∀ k, k ≠ 3 → ∀ c : MatCycle, c.turn [(wordWrite m 2 a d, true)] k = c := fun _ hk c => c.turn_other ha hk
  have hc : c = MatCycle.mk b ((((b.parkSettle.updMat fun s => { s with held := [] }).matServed m).regWrite m a (leNat (padTo 4 d))).reply
      (wordWrite m 2 a d) false []) [] [a] := by
    simp only [c, hall, hr, List.foldl_cons, List.foldl_nil, hother 0 (by decide), hother 1 (by decide), hother 2 (by decide), hother 4 (by decide),
      hother 5 (by decide), hother 6 (by decide)]
    rw [MatCycle.turn_bridge ha _ hout htmo, MatCycle.serveReg_write h4 hm ho]
    rfl
  rw [hc]
  rfl

/-! ### What a write does by the access codes (R701) -/

/-- A register without an action of its own is written by its fields' codes. -/
theorem Block.regWrite_plain {b : Block} {a : Nat} (m v : Nat) (hh : b.regHas a = true) (ho : b.regOff a = false) (hs : slotAt a = none)
    (hw : (atReg a writeActs).isNone = true) : b.regWrite m a v = b.plainWrite a v := by
  unfold Block.regWrite
  rw [if_neg (by simp [hh, ho]), hs, Option.isNone_iff_eq_none.mp hw]

/-- A write of an RW register of one field stores the word's field. -/
theorem Block.plainWrite_rw {b : Block} {a n : Nat} {f : Field} (v : Nat) (hf : fieldsAt a = [(f, n)]) (ha : f.acc = .rw) : b.plainWrite a v = b.store f n (f.of v) := by
  unfold Block.plainWrite
  rw [hf]
  change (match f.acc with | .rw => _ | .sw => _ | .w1c => _ | _ => _) = _
  rw [ha]

/-- A write of a W1C register of one field clears the bits written 1. -/
theorem Block.plainWrite_w1c {b : Block} {a n : Nat} {f : Field} (v : Nat) (hf : fieldsAt a = [(f, n)]) (ha : f.acc = .w1c) :
    b.plainWrite a v = b.setFld f n (b.fld f n - Nat.land (b.fld f n) (f.of v)) := by
  unfold Block.plainWrite
  rw [hf]
  change (match f.acc with | .rw => _ | .sw => _ | .w1c => _ | _ => _) = _
  rw [ha]

/-- A write of an RO register of one field does nothing. -/
theorem Block.plainWrite_ro {b : Block} {a n : Nat} {f : Field} (v : Nat) (hf : fieldsAt a = [(f, n)]) (ha : f.acc = .ro) : b.plainWrite a v = b := by
  unfold Block.plainWrite
  rw [hf]
  change (match f.acc with | .rw => _ | .sw => _ | .w1c => _ | _ => _) = _
  rw [ha]

end Sys2Proof.Machine
end
section
/-!
The access codes, by a core's write, a counter's read and the diagnostic commands (R198, R570, R602, R603, R701).
-/
namespace Sys2Proof.Machine
set_option Elab.async false

/-! ### A core's write of a plain register -/

/-- A register of one field, in a block that is always there and on, that no write but a plain one reaches. -/
structure PlainReg (a : Nat) (f : Field) : Prop where
  lt : a < 0xD00000
  word : a % 4 = 0
  has : ∀ b : Block, b.regHas a = true
  live : ∀ b : Block, b.regOff a = false
  slot : slotAt a = none
  act : (atReg a writeActs).isNone = true
  field : fieldsAt a = [(f, 0)]

theorem plainReg_gpioEdgeEn : PlainReg R.GPIO_EDGE_EN.off F.GPIO_EDGE_EN_EN := ⟨by decide, rfl, fun _ => rfl, fun _ => rfl, rfl, rfl, rfl⟩
theorem plainReg_gpioEdge : PlainReg R.GPIO_EDGE.off F.GPIO_EDGE_CHANGED := ⟨by decide, rfl, fun _ => rfl, fun _ => rfl, rfl, rfl, rfl⟩
theorem plainReg_sysUnits : PlainReg R.SYS_UNITS.off F.SYS_UNITS_PRESENT := ⟨by decide, rfl, fun _ => rfl, fun _ => rfl, rfl, rfl, rfl⟩

/-- The number of the bytes of a word. -/
theorem leNat_padTo_word (v : Word) : leNat (padTo 4 (leBytes 4 v.toNat)) = v.toNat := (le_leBytes 4 v.toNat).trans (Nat.mod_eq_of_lt v.isLt)

/-- A field of a whole word is the word. -/
theorem word_stored (v : Word) : v.toNat / 2 ^ 0 % 2 ^ 32 = v.toNat := (congrArg (· % 2 ^ 32) (Nat.div_one _)).trans (Nat.mod_eq_of_lt v.isLt)

section
variable {b : Block} {m a : Nat} {f : Field} (hout : b.mat.out = []) (hheld : b.mat.held = []) (htmo : b.flt.timeouts = []) (hm : m < 4) (h : PlainReg a f)
include hout hheld htmo hm h

/-- The registers after the cycle are those of the plain write. -/
theorem Block.coreWrite_regs (region : Nat) (v : Word) :
    ∃ c : Block, c.regs = b.regs ∧ (b.matrixCycle [wordWrite m region a (leBytes 4 v.toNat)] []).regs = (c.plainWrite a v.toNat).regs := by
  refine ⟨(b.parkSettle.updMat fun s => { s with held := [] }).matServed m, rfl, ?_⟩
  rw [Block.matrixCycle_write hout hheld htmo region _ hm h.lt h.word (h.live b), leNat_padTo_word,
    Block.regWrite_plain m _ (h.has _) (h.live _) h.slot h.act]
  rfl

theorem Block.coreWrite_rw (region : Nat) (v : Word) (ha : f.acc = .rw) (hc : f.clamp = .any) :
    (b.matrixCycle [wordWrite m region a (leBytes 4 v.toNat)] []).fld f 0 = v.toNat / 2 ^ f.lo % 2 ^ f.width ∧
      b.keeps (b.matrixCycle [wordWrite m region a (leBytes 4 v.toNat)] []) [f.key 0] := by
  obtain ⟨c, hc', hr⟩ := Block.coreWrite_regs hout hheld htmo hm h region v
  rw [Block.plainWrite_rw _ h.field ha] at hr
  refine ⟨?_, Block.keeps.of_regs (((b.keeps_refl _).of_regs hc').setFld (by simp) _) hr⟩
  rw [Block.fld_congr hr, Block.fld_store_same, Field.stored_of_any hc]

theorem Block.coreWrite_w1c (region : Nat) (v : Word) (ha : f.acc = .w1c) :
    (b.matrixCycle [wordWrite m region a (leBytes 4 v.toNat)] []).fld f 0 = (b.fld f 0 - Nat.land (b.fld f 0) (f.of v.toNat)) % 2 ^ f.width ∧
      b.keeps (b.matrixCycle [wordWrite m region a (leBytes 4 v.toNat)] []) [f.key 0] := by
  obtain ⟨c, hc', hr⟩ := Block.coreWrite_regs hout hheld htmo hm h region v
  rw [Block.plainWrite_w1c _ h.field ha] at hr
  refine ⟨?_, Block.keeps.of_regs (((b.keeps_refl _).of_regs hc').setFld (by simp) _) hr⟩
  rw [Block.fld_congr hr, Block.fld_setFld_same, Block.fld_congr hc']

theorem Block.coreWrite_ro (region : Nat) (v : Word) (ha : f.acc = .ro) : b.keeps (b.matrixCycle [wordWrite m region a (leBytes 4 v.toNat)] []) [] := by
  obtain ⟨c, hc', hr⟩ := Block.coreWrite_regs hout hheld htmo hm h region v
  rw [Block.plainWrite_ro _ h.field ha] at hr
  exact (b.keeps_refl _).of_regs (hr.trans hc')

end

/-! ### The diagnostic write (R603) -/

/-- The payload of a `DIAG_WRITE`. -/
def writePayload (a v : Nat) : List Byte := leBytes 8 (0x40000000 + a) ++ leBytes 4 v

theorem masterOf_lt (ch : Nat) : masterOf ch < 4 := Nat.mod_lt _ (by decide)

/-- A diagnostic command whose arguments pass is refused for its condition. -/
theorem Block.command_refused {b : Block} {ch code st : Nat} {args conds : List (Bool × Nat)} (ha : firstFail args = none) (hc : code / 256 = 0x0D)
    (hf : firstFail conds = some st) (eff : Block → Block) : b.command ch code true true args conds eff = b.no ch st := by
  unfold Block.command
  rw [hc, Bool.and_comm, show (!((0x0D : Nat) == 0x01 || (0x0D : Nat) == 0x0B || (0x0D : Nat) == 0x0D)) = false from rfl, Bool.false_and, List.append_assoc,
    List.append_assoc, firstFail_append rfl, firstFail_append ha, firstFail_append rfl, hf]

section
variable {b : Block} {a : Nat} (ch : Nat) (v : Word) (ha : a < 0xD00000) (h4 : a % 4 = 0)
include ha h4

theorem diagWrite_parts : le (writePayload a v.toNat) 0 8 = 0x40000000 + a ∧ bytesAt (writePayload a v.toNat) 8 4 = leBytes 4 v.toNat ∧
    ((writePayload a v.toNat).length == 12) = true ∧
    firstFail [(!(decide (0x40000000 ≤ 0x40000000 + a) && decide (0x40000000 + a < 0x41A00000) && (0x40000000 + a) % 4 == 0), St.BAD_ARG)] = none := by
  refine ⟨?_, ?_, ?_, ?_⟩
  · rw [writePayload, le_append_left (by simp), le_leBytes]
    omega
  · rw [writePayload, bytesAt_append_right (by simp), leBytes_length]
    exact bytesAt_self (leBytes 4 v.toNat)
  · simp [writePayload]
  · simp [firstFail]
    omega

theorem diagWrite_runs (hl : b.lifeCycle = 0 ∨ b.lifeCycle = 3) : diagWrite ch (writePayload a v.toNat) b =
    (b.matrixCycle [wordWrite (masterOf ch) 2 a (leBytes 4 v.toNat)] []).answer ch St.OK [] := by
  obtain ⟨haddr, hdata, hlen, hargs⟩ := diagWrite_parts v ha h4
  have hlc : (b.lifeCycle == 0 || b.lifeCycle == 3) = true := by simpa using hl
  have hfw := b.fwDenies_core (masterOf_lt ch) ha (leBytes 4 v.toNat)
  unfold diagWrite
  rw [haddr, hdata, hlen]
  extract_lets addr lc r
  rw [Block.command_diag hargs rfl (by rw [hlc]; rfl), show b.fwDenies r = none from hfw]
  rfl

theorem diagWrite_refused (h0 : b.lifeCycle ≠ 0) (h3 : b.lifeCycle ≠ 3) : diagWrite ch (writePayload a v.toNat) b = b.answer ch St.AUTH_FAIL [] := by
  obtain ⟨haddr, hdata, hlen, hargs⟩ := diagWrite_parts v ha h4
  have hlc : (b.lifeCycle == 0 || b.lifeCycle == 3) = false := by simp [h0, h3]
  unfold diagWrite
  rw [haddr, hdata, hlen]
  extract_lets addr lc r
  rw [Block.command_refused hargs rfl (by rw [hlc]; rfl)]
  rfl

end

/-- In the states that let it, the write is a core's. -/
theorem diagWrite_stores {b : Block} {a : Nat} {f : Field} (ch : Nat) (v : Word) (hl : b.lifeCycle = 0 ∨ b.lifeCycle = 3) (hout : b.mat.out = [])
    (hheld : b.mat.held = []) (htmo : b.flt.timeouts = []) (h : PlainReg a f) (ha : f.acc = .rw) (hc : f.clamp = .any) :
    ∃ c, diagWrite ch (writePayload a v.toNat) b = Block.answer c ch St.OK [] ∧ c.fld f 0 = v.toNat / 2 ^ f.lo % 2 ^ f.width ∧ b.keeps c [f.key 0] :=
  ⟨_, diagWrite_runs ch v h.lt h.word hl, Block.coreWrite_rw hout hheld htmo (masterOf_lt ch) h 2 v ha hc⟩

/-- Settles O39: a core's write is `matrixCycle_write` and the plain write of the register, and the diagnostic commands their one access. -/
theorem registerAccessesFollowTheirCodes : Obligations.RegisterAccessesFollowTheirCodes := by
  intro s hs
  refine ⟨fun m v hm hout hheld htmo => ⟨?_, ?_, ?_⟩, fun n late hn hr => ?_, fun ch a ha h4 => ⟨fun ho => ?_, fun hh ho => ?_⟩,
    fun ch v hl hout hheld htmo => ?_, fun ch v h0 h3 => ?_⟩
  · obtain ⟨hf, hk⟩ := Block.coreWrite_rw (b := s.quiet) hout hheld htmo hm plainReg_gpioEdgeEn 0 v rfl rfl
    refine ⟨_, run_live _ hs, ?_, regsKept_effect hk⟩
    exact hf.trans (word_stored v)
  · obtain ⟨hf, hk⟩ := Block.coreWrite_w1c (b := s.quiet) hout hheld htmo hm plainReg_gpioEdge 0 v rfl
    have hv : F.GPIO_EDGE_CHANGED.of v.toNat = v.toNat := word_stored v
    rw [hv] at hf
    exact ⟨_, run_live _ hs, hf, regsKept_effect hk⟩
  · exact ⟨_, run_live _ hs, regsKept_effect (Block.coreWrite_ro (b := s.quiet) hout hheld htmo hm plainReg_sysUnits 0 v rfl)⟩
  · obtain ⟨hh, ho⟩ := hr
    have heq := rclCounterRead_crc (b := s.quiet) late hn hh ho
    refine ⟨_, run_live _ hs, mem_effect_out ?_, ?_, onlyRegs_effect ?_⟩
    · rw [heq]
      exact s.quiet.mem_emit_out (.read (s.quiet.fld F.SDI_RX_CRC_CNT_COUNT n))
    · rw [Block.effect_fld, heq, Block.readClear_fld]
      rfl
    · rw [heq]
      exact Block.readClear_writes _ _ _ _
  · have heq : diagRead ch (readPayload a) s.quiet = (s.quiet.live a).ok ch (leBytes 4 ((s.live a).regPeek a)) := by
      rw [diagRead_one ch ha h4, Block.diagGet_on (b := s.quiet) _ ho, s.live_regPeek_quiet a]
    refine ⟨_, run_live _ hs, answered_of_effect heq, fun hl => onlyAnswer_effect (st := St.OK) (d := leBytes 4 ((s.live a).regPeek a)) (heq.trans ?_)⟩
    rw [show s.quiet.live a = s.quiet by rw [Block.live, Option.isNone_iff_eq_none.mp hl]]
    rfl
  · have heq : diagRead ch (leBytes 8 (0x40000000 + a) ++ [1, 0, 0, 0]) s.quiet = (s.quiet.pdOffHit (masterOf ch) a false).ok ch (zeroBytes 4) := by
      have hz : leBytes 4 0 = zeroBytes 4 := by decide
      rw [← readPayload, diagRead_one ch ha h4, Block.diagGet_off (b := s.quiet) _ hh ho, hz]
    obtain ⟨hhit, hcnt⟩ := s.quiet.pdOffHit_fields (masterOf ch) a false
    refine ⟨_, run_live _ hs, answered_of_effect heq, ?_, ?_⟩
    · rw [Block.effect_fld, heq]
      exact hhit
    · rw [Block.effect_fld, heq]
      exact hcnt
  · obtain ⟨c, heq, hf, hk⟩ := diagWrite_stores (b := s.quiet) ch v hl hout hheld htmo plainReg_gpioEdgeEn rfl rfl
    refine ⟨_, run_live _ hs, answered_of_effect heq, ?_, regsKept_effect ?_⟩
    · rw [Block.effect_fld, ← writePayload, heq]
      exact hf.trans (word_stored v)
    · rw [← writePayload, heq]
      exact hk.of_regs rfl
  · have heq := diagWrite_refused (b := s.quiet) ch v plainReg_gpioEdgeEn.lt plainReg_gpioEdgeEn.word h0 h3
    exact ⟨_, run_live _ hs, answered_of_effect heq, onlyAnswer_effect heq⟩

end Sys2Proof.Machine
end

section
/-!
An Ethernet port's own state: its counters, its capture queue and its stamps after each operation on it, and what these leave alone (R225 to R233).
-/
namespace Sys2Proof.Machine
set_option Elab.async false

/-! ### The port's state after an operation -/

section
variable (b : Block) (e : Nat)

@[simp] theorem Block.port_e_updEth_same (f : EthSt → EthSt) : (b.updEth e f).port_e e = f (b.port_e e) := Bank.look_upd_same _ _ _
@[simp] theorem Block.port_e_emit (o : Out) : (b.emit o).port_e e = b.port_e e := rfl
@[simp] theorem Block.port_e_ite (p : Bool) (g : Block → Block) : (b.ite p g).port_e e = if p then (g b).port_e e else b.port_e e := by
  cases p <;> rfl

/-- Far-end loopback leaves the ports as they are. -/
@[simp] theorem Block.port_e_returned (ls : List Nat) (data : List Byte) : (b.returned ls data).port_e e = b.port_e e :=
  (congrArg (fun c : Block => c.port_e e) (b.returned_writes ls data).2 :)

variable (c k : Nat)

/-- A count grows its own counter and leaves the others (R233). -/
@[simp] theorem Block.ethCount_look (d : Nat) : ((b.ethCount e c k).port_e e).cnt.look d =
    if d = c then ((b.port_e e).cnt.look c + k) % 2 ^ 64 else (b.port_e e).cnt.look d := by
  rw [Block.ethCount, Block.port_e_updEth_same]
  split
  · rename_i h
    rw [h, Bank.look_put_same]
  · rename_i h
    exact Bank.look_put_ne _ _ h

@[simp] theorem Block.ethCount_capq : ((b.ethCount e c k).port_e e).capq = (b.port_e e).capq := by rw [Block.ethCount, Block.port_e_updEth_same]
@[simp] theorem Block.ethCount_stamps : ((b.ethCount e c k).port_e e).stamps = (b.port_e e).stamps := by rw [Block.ethCount, Block.port_e_updEth_same]

end

/-! ### What operations on a port leave alone -/

/-- `c` is `b` but for the Ethernet ports' own state and the record of outputs. -/
def Block.onlyPorts (b c : Block) : Prop := { c with eth := b.eth, out := b.out } = b

theorem Block.onlyPorts_refl (b : Block) : b.onlyPorts b := rfl

section
variable {b c : Block} (h : b.onlyPorts c)
include h

theorem Block.onlyPorts.updEth (e : Nat) (f : EthSt → EthSt) : b.onlyPorts (c.updEth e f) := h
theorem Block.onlyPorts.ethCount (e k n : Nat) : b.onlyPorts (c.ethCount e k n) := h
theorem Block.onlyPorts.emit (o : Out) : b.onlyPorts (c.emit o) := h
theorem Block.onlyPorts.returned (ls : List Nat) (data : List Byte) : b.onlyPorts (c.returned ls data) :=
  Block.each_induction (P := b.onlyPorts) h fun _ _ _ hd => hd

theorem Block.onlyPorts.on (f : Field) (n : Nat) : c.on f n = b.on f n := (congrArg (fun d : Block => d.on f n) h :)
theorem Block.onlyPorts.fld (f : Field) (n : Nat) : c.fld f n = b.fld f n := (congrArg (fun d : Block => d.fld f n) h :)
theorem Block.onlyPorts.now : c.time.now = b.time.now := (congrArg (fun d : Block => d.time.now) h :)
theorem Block.onlyPorts.ethForUs (e : Nat) (dest : List Byte) : c.ethForUs e dest = b.ethForUs e dest :=
  (congrArg (fun d : Block => d.ethForUs e dest) h :)
theorem Block.onlyPorts.flowFor (e : Nat) (dst src : List Byte) (port vid : Nat) : c.flowFor e dst src port vid = b.flowFor e dst src port vid :=
  (congrArg (fun d : Block => d.flowFor e dst src port vid) h :)
theorem Block.onlyPorts.keeps (ks : List Nat) : b.keeps c ks := (b.keeps_refl ks).of_regs (congrArg Block.regs h :)

end

end Sys2Proof.Machine
end

section
/-!
A frame that arrives at an Ethernet port (R225, R229).
-/
namespace Sys2Proof.Machine
set_option Elab.async false

/-! ### How far a frame has come (R225) -/

/-- Port `e` with the codewords of a frame counted, before the frame is sorted. -/
def Block.ethHeard (b : Block) (e : Nat) (f : EthFrame) : Block := ((b.returned [ethLane e] []).ethCount e 12 f.fecCorr).ethCount e 13 f.fecUncorr

/-- Port `e` with a frame counted that is whole. -/
def Block.ethGood (b : Block) (e : Nat) (f : EthFrame) : Block :=
  (((b.ethHeard e f).ethCount e 0 f.len).ethCount e 1 1).ite (isGroup f.dest) fun b => b.ethCount e 2 1

section
variable (b : Block) (e : Nat) (f : EthFrame)

theorem Block.ethHeard_onlyPorts : b.onlyPorts (b.ethHeard e f) := (b.onlyPorts_refl.returned _ _ :).ethCount e 12 f.fecCorr |>.ethCount e 13 f.fecUncorr

theorem Block.ethGood_onlyPorts : b.onlyPorts (b.ethGood e f) :=
  Block.ite_cases _ (((b.ethHeard_onlyPorts e f).ethCount e 0 f.len).ethCount e 1 1) ((((b.ethHeard_onlyPorts e f).ethCount e 0 f.len).ethCount e 1 1).ethCount e 2 1)

@[simp] theorem Block.ethHeard_capq : ((b.ethHeard e f).port_e e).capq = (b.port_e e).capq := by simp [Block.ethHeard]
@[simp] theorem Block.ethGood_capq : ((b.ethGood e f).port_e e).capq = (b.port_e e).capq := by
  cases hg : isGroup f.dest <;> simp [Block.ethGood, hg]

/-- Of a whole frame the first three counters are the octets, the frame and the group's (R233). -/
theorem Block.ethGood_look {d : Nat} (h0 : d ≠ 0) (h12 : d < 12) (h1 : d ≠ 1) (h2 : d ≠ 2) : ((b.ethGood e f).port_e e).cnt.look d = (b.port_e e).cnt.look d := by
  have hh : ((b.ethHeard e f).port_e e).cnt.look d = (b.port_e e).cnt.look d := by
    simp [Block.ethHeard, show d ≠ 12 by omega, show d ≠ 13 by omega]
  cases hg : isGroup f.dest <;> simp [Block.ethGood, hg, h0, h1, h2, hh]

theorem Block.ethGood_octets : ((b.ethGood e f).port_e e).cnt.look 0 = ((b.port_e e).cnt.look 0 + f.len) % 2 ^ 64 := by
  have hh : ((b.ethHeard e f).port_e e).cnt.look 0 = (b.port_e e).cnt.look 0 := by simp [Block.ethHeard]
  cases hg : isGroup f.dest <;> simp [Block.ethGood, hg, hh]

end

/-! ### Where a frame ends up -/

/-- With its link down or its unit absent a port takes no frame. -/
theorem ethFrameRx_none {b : Block} {e : Nat} (f : EthFrame) (h : b.on F.ETH_STATUS_LINK_UP e = false ∨ b.ethHas e = false) : ethFrameRx e f b = b :=
  if_neg (by rcases h with h | h <;> simp [h])

section
variable {b : Block} {e : Nat} {f : EthFrame} (hp : b.ethHas e = true) (hu : b.on F.ETH_STATUS_LINK_UP e = true) (hw : f.waiting + f.len ≤ 32768)
  (hfec : f.fecUncorr = 0)
include hp hu hw hfec

/-- A frame with a bad check sequence is counted, and kept from the firmware with `BAD_TO_FW` 0. -/
theorem ethFrameRx_bad (hbad : f.fcsBad = true) (hb : b.on F.ETH_CFG_BAD_TO_FW e = false) : ethFrameRx e f b = (b.ethHeard e f).ethCount e 3 1 := by
  have hroom : ¬(if e = 8 then 32768 else 262144) < f.waiting + f.len := by split <;> omega
  have hf : ((b.ethHeard e f).ethCount e 3 1).on F.ETH_CFG_BAD_TO_FW e = false := (((b.ethHeard_onlyPorts e f).ethCount e 3 1).on _ _).trans hb
  unfold ethFrameRx
  rw [hp, hu, hfec]
  extract_lets back heard noted flag good
  have hn : noted = b.ethHeard e f := by simp only [noted, heard, Block.ethHeard, hfec]; rfl
  rw [if_pos (by rfl), if_neg hroom, if_pos hbad, hn]
  exact if_neg (Bool.eq_false_iff.mp hf)

variable (hgood : f.fcsBad = false) (h64 : 64 ≤ f.len) (hmax : f.len ≤ b.fld F.ETH_CFG_MAX_FRAME e)
include hgood h64 hmax

/-- A whole frame is for this port, or is counted as another's (R225). -/
theorem ethFrameRx_good : (b.ethForUs e f.dest = false → ethFrameRx e f b = (b.ethGood e f).ethCount e 6 1) ∧
    (b.ethForUs e f.dest = true → f.tags ≤ 1 → ethFrameRx e f b = (b.ethGood e f).ethDeliver e f) := by
  have hroom : ¬(if e = 8 then 32768 else 262144) < f.waiting + f.len := by split <;> omega
  have hlen : ¬(f.len < 64 ∨ (b.ethHeard e f).fld F.ETH_CFG_MAX_FRAME e < f.len) := by rw [(b.ethHeard_onlyPorts e f).fld]; omega
  have hus : (b.ethGood e f).ethForUs e f.dest = b.ethForUs e f.dest := (b.ethGood_onlyPorts e f).ethForUs e f.dest
  unfold ethFrameRx
  rw [hp, hu, hfec]
  extract_lets back heard noted flag good
  have hn : noted = b.ethHeard e f := by simp only [noted, heard, Block.ethHeard, hfec]; rfl
  have hg : good = b.ethGood e f := by simp only [good, hn]; rfl
  rw [if_pos (by rfl), if_neg hroom, if_neg (by simp [hgood]), hn, if_neg hlen, hg, hus]
  refine ⟨fun h => if_pos (Bool.eq_false_iff.mp h), fun h ht => ?_⟩
  rw [if_neg (not_not_intro h)]
  exact if_neg (Nat.not_lt.mpr ht)

end

/-! ### Delivery (R225, R228, R229) -/

section
variable {b : Block} {e : Nat} {f : EthFrame}

/-- A datagram to a group that no flow takes, and no PTP client, is counted. -/
theorem Block.ethDeliver_unasked {dst src : List Byte} {port : Nat} {rtp : RtpPkt} (ht : f.tags = 0) (hy : f.body = .udp dst src port true rtp)
    (h319 : port ≠ 319) (h320 : port ≠ 320) (hflow : b.flowFor e dst src port 0 = none) : b.ethDeliver e f = b.ethCount e 7 1 := by
  have hptp : bodyPtp (.udp dst src port true rtp) = false := by simp [bodyPtp, h319, h320]
  have hvid : (if f.tags = 1 then f.vid else 0) = 0 := if_neg (by omega)
  simp only [Block.ethDeliver, hy, hvid, hflow, hptp]
  rfl

/-- A frame that is no datagram goes to the firmware, its tag removed. -/
theorem Block.ethDeliver_other {ty : Nat} (hy : f.body = .other ty) :
    b.ethDeliver e f = b.capture e ⟨untag f, b.time.now, false, false, false, ty == 0x88F7⟩ := by
  simp only [Block.ethDeliver, hy, bodyPtp]

end

/-- A frame goes to the end of a queue with room. -/
theorem Block.capture_room {b : Block} {e : Nat} (c : CapFrame) (h : (b.port_e e).capq.length < 512) :
    b.capture e c = (b.updEth e fun s => { s with capq := s.capq ++ [c] }).emit (.captured e) := if_neg (Nat.not_le.mpr h)

/-! ### What a frame leaves (R225, R229, R233) -/

section
variable {b : Block} {e : Nat} {f : EthFrame} (hp : b.ethHas e = true) (hu : b.on F.ETH_STATUS_LINK_UP e = true) (hw : f.waiting + f.len ≤ 32768)
  (hfec : f.fecUncorr = 0)
include hp hu hw hfec

theorem ethFrameRx_badCounted (hbad : f.fcsBad = true) (hb : b.on F.ETH_CFG_BAD_TO_FW e = false) :
    ((ethFrameRx e f b).port_e e).cnt.look 3 = ((b.port_e e).cnt.look 3 + 1) % 2 ^ 64 ∧
      ((ethFrameRx e f b).port_e e).cnt.look 12 = ((b.port_e e).cnt.look 12 + f.fecCorr) % 2 ^ 64 ∧
      ((ethFrameRx e f b).port_e e).capq = (b.port_e e).capq ∧ b.keeps (ethFrameRx e f b) [] := by
  rw [ethFrameRx_bad hp hu hw hfec hbad hb]
  exact ⟨by simp [Block.ethHeard], by simp [Block.ethHeard], by simp, ((b.ethHeard_onlyPorts e f).ethCount e 3 1).keeps []⟩

variable (hgood : f.fcsBad = false) (h64 : 64 ≤ f.len) (hmax : f.len ≤ b.fld F.ETH_CFG_MAX_FRAME e)
include hgood h64 hmax

/-- A frame for another address is counted; the octets count every whole frame (log 11). -/
theorem ethFrameRx_notOurs (hus : b.ethForUs e f.dest = false) :
    ((ethFrameRx e f b).port_e e).cnt.look 6 = ((b.port_e e).cnt.look 6 + 1) % 2 ^ 64 ∧
      ((ethFrameRx e f b).port_e e).cnt.look 0 = ((b.port_e e).cnt.look 0 + f.len) % 2 ^ 64 ∧
      ((ethFrameRx e f b).port_e e).capq = (b.port_e e).capq ∧ b.keeps (ethFrameRx e f b) [] := by
  rw [(ethFrameRx_good hp hu hw hfec hgood h64 hmax).1 hus]
  refine ⟨?_, ?_, by simp, ((b.ethGood_onlyPorts e f).ethCount e 6 1).keeps []⟩
  · simp [Block.ethGood_look]
  · simp [Block.ethGood_octets]

variable (hus : b.ethForUs e f.dest = true)
include hus

theorem ethFrameRx_unasked {dst src : List Byte} {port : Nat} {rtp : RtpPkt} (ht : f.tags = 0) (hy : f.body = .udp dst src port true rtp)
    (h319 : port ≠ 319) (h320 : port ≠ 320) (hflow : b.flowFor e dst src port 0 = none) :
    ((ethFrameRx e f b).port_e e).cnt.look 7 = ((b.port_e e).cnt.look 7 + 1) % 2 ^ 64 ∧
      ((ethFrameRx e f b).port_e e).capq = (b.port_e e).capq ∧ b.keeps (ethFrameRx e f b) [] := by
  have hnone : (b.ethGood e f).flowFor e dst src port 0 = none := ((b.ethGood_onlyPorts e f).flowFor e dst src port 0).trans hflow
  rw [(ethFrameRx_good hp hu hw hfec hgood h64 hmax).2 hus (by omega), Block.ethDeliver_unasked ht hy h319 h320 hnone]
  refine ⟨?_, by simp, ((b.ethGood_onlyPorts e f).ethCount e 7 1).keeps []⟩
  simp [Block.ethGood_look]

theorem ethFrameRx_captured {ty : Nat} (ht : f.tags ≤ 1) (hy : f.body = .other ty) (hroom : (b.port_e e).capq.length < 512) :
    ((ethFrameRx e f b).port_e e).capq = (b.port_e e).capq ++ [⟨untag f, b.time.now, false, false, false, ty == 0x88F7⟩] ∧
      Out.captured e ∈ (ethFrameRx e f b).out ∧ b.keeps (ethFrameRx e f b) [] := by
  have hg := b.ethGood_onlyPorts e f
  rw [(ethFrameRx_good hp hu hw hfec hgood h64 hmax).2 hus ht, Block.ethDeliver_other hy, hg.now, Block.capture_room _ (by simpa using hroom)]
  exact ⟨by simp, Block.mem_emit_out _ _, ((hg.updEth e _).emit _).keeps []⟩

end

end Sys2Proof.Machine
end

section
/-!
Ethernet ports: links, the firmware's frames, reads, and O18 itself (R224, R230, R233, R255).
-/
namespace Sys2Proof.Machine
set_option Elab.async false

/-! ### A link's change (R224) -/

/-- The keys that a link's change may write. -/
def linkKeys (e : Nat) (hist : Field) : List Nat := [F.ETH_STATUS_LINK_UP.key e, F.ETH_STATUS_FEC_LOCK.key e, hist.key e]

section
variable {b : Block} {e : Nat}

theorem ethLinkChange_lost (hu : b.on F.ETH_STATUS_LINK_UP e = true) : (ethLinkChange e false b).fld F.ETH_STATUS_LINK_UP e = 0 ∧
    (ethLinkChange e false b).fld F.ETH_HIST_LINK_LOST e = 1 ∧ b.writes (ethLinkChange e false b) (linkKeys e F.ETH_HIST_LINK_LOST) := by
  have heq : ethLinkChange e false b = ((b.clr F.ETH_STATUS_LINK_UP e).clr F.ETH_STATUS_FEC_LOCK e).set F.ETH_HIST_LINK_LOST e := by
    unfold ethLinkChange
    rw [if_neg Bool.false_ne_true]
    exact if_pos hu
  rw [heq]
  refine ⟨?_, Block.fld_set_same _ _ _, ?_⟩
  · rw [Block.fld_set_ne _ (by simp), Block.fld_clr_ne _ (by simp), Block.fld_clr_same]
  · exact (((b.writes_refl _).setFld (by simp [linkKeys]) _).setFld (by simp [linkKeys]) _).setFld (by simp [linkKeys]) _

theorem ethLinkChange_gained (hp : b.ethHas e = true) (hu : b.on F.ETH_STATUS_LINK_UP e = false) (he : b.on F.ETH_CFG_EN e = true)
    (hl : b.laneState (ethLane e) = 6) : (ethLinkChange e true b).fld F.ETH_STATUS_LINK_UP e = 1 ∧
      (ethLinkChange e true b).fld F.ETH_HIST_LINK_GAINED e = 1 ∧
      (ethLinkChange e true b).fld F.ETH_STATUS_FEC_LOCK e = bit (b.fld F.ETH_CFG_FEC e != 0) ∧
      b.writes (ethLinkChange e true b) (linkKeys e F.ETH_HIST_LINK_GAINED) := by
  have heq : ethLinkChange e true b =
      ((b.set F.ETH_STATUS_LINK_UP e).setTo F.ETH_STATUS_FEC_LOCK e (b.fld F.ETH_CFG_FEC e != 0)).set F.ETH_HIST_LINK_GAINED e := by
    unfold ethLinkChange
    rw [if_pos rfl]
    exact if_pos ⟨hp, Bool.eq_false_iff.mp hu, he, hl⟩
  rw [heq]
  refine ⟨?_, Block.fld_set_same _ _ _, ?_, ?_⟩
  · rw [Block.fld_set_ne _ (by simp), Block.fld_setTo_ne _ (by simp)]
    exact Block.fld_set_same _ _ _
  · rw [Block.fld_set_ne _ (by simp), Block.fld_setTo_same]
    cases b.fld F.ETH_CFG_FEC e != 0 <;> rfl
  · exact (((b.writes_refl _).setFld (by simp [linkKeys]) _).setFld (by simp [linkKeys]) _).setFld (by simp [linkKeys]) _

end

/-! ### A frame of the firmware (R230) -/

/-- Port `e` with a frame of `len` octets sent. -/
def Block.ethSent (b : Block) (e len : Nat) (y : EthBody) : Block :=
  ((b.ethCount e 9 len).ethCount e 10 1).ite (b.laneSends (ethLane e)) fun b => b.emit (.fwFrame e len y)

section
variable (b : Block) (e len : Nat) (y : EthBody)

theorem Block.ethSent_onlyPorts : b.onlyPorts (b.ethSent e len y) :=
  Block.ite_cases _ ((b.onlyPorts_refl.ethCount e 9 len).ethCount e 10 1) (((b.onlyPorts_refl.ethCount e 9 len).ethCount e 10 1).emit _)

@[simp] theorem Block.ethSent_stamps : ((b.ethSent e len y).port_e e).stamps = (b.port_e e).stamps := by
  cases hl : b.laneSends (ethLane e) <;> simp [Block.ethSent, hl]

@[simp] theorem Block.ethSent_look (d : Nat) : ((b.ethSent e len y).port_e e).cnt.look d =
    if d = 10 then ((b.port_e e).cnt.look 10 + 1) % 2 ^ 64 else if d = 9 then ((b.port_e e).cnt.look 9 + len) % 2 ^ 64 else (b.port_e e).cnt.look d := by
  cases hl : b.laneSends (ethLane e) <;> simp [Block.ethSent, hl]

theorem Block.mem_ethSent_out (h : b.laneSends (ethLane e) = true) : Out.fwFrame e len y ∈ (b.ethSent e len y).out := by
  rw [Block.ethSent, h]
  exact Block.mem_emit_out _ _

end

section
variable {b : Block} {e : Nat} (hp : b.ethHas e = true) (len : Nat)
include hp

theorem fwFrameTx_down (hu : b.on F.ETH_STATUS_LINK_UP e = false) (y : EthBody) (msg : Option (Nat × Nat)) :
    ((fwFrameTx e len y msg b).port_e e).cnt.look 11 = ((b.port_e e).cnt.look 11 + 1) % 2 ^ 64 ∧
      ((fwFrameTx e len y msg b).port_e e).stamps = (b.port_e e).stamps ∧ b.keeps (fwFrameTx e len y msg b) [] := by
  have heq : fwFrameTx e len y msg b = b.ethCount e 11 1 := (if_neg (not_not_intro hp)).trans (if_neg (Bool.eq_false_iff.mp hu))
  rw [heq]
  exact ⟨by simp, by simp, (b.onlyPorts_refl.ethCount e 11 1).keeps []⟩

variable (hu : b.on F.ETH_STATUS_LINK_UP e = true)
include hu

/-- With its link up a port sends the frame, and a datagram to port 319 that is an event message leaves a stamp (R113). -/
theorem fwFrameTx_event (dst src : List Byte) (mc : Bool) (rtp : RtpPkt) (t q : Nat) :
    fwFrameTx e len (.udp dst src 319 mc rtp) (some (t, q)) b = (b.ethSent e len (.udp dst src 319 mc rtp)).stampTx e t q :=
  (if_neg (not_not_intro hp)).trans (if_pos hu)

theorem fwFrameTx_stamped (dst src : List Byte) (mc : Bool) (rtp : RtpPkt) (t q : Nat) (h : (b.port_e e).stamps.length < 16) :
    ((fwFrameTx e len (.udp dst src 319 mc rtp) (some (t, q)) b).port_e e).stamps = (b.port_e e).stamps ++ [⟨q % 65536, t % 16, b.time.now⟩] ∧
      ((fwFrameTx e len (.udp dst src 319 mc rtp) (some (t, q)) b).port_e e).cnt.look 10 = ((b.port_e e).cnt.look 10 + 1) % 2 ^ 64 ∧
      ((fwFrameTx e len (.udp dst src 319 mc rtp) (some (t, q)) b).port_e e).cnt.look 9 = ((b.port_e e).cnt.look 9 + len) % 2 ^ 64 ∧
      (b.laneSends (ethLane e) = true →
        Out.fwFrame e len (.udp dst src 319 mc rtp) ∈ (fwFrameTx e len (.udp dst src 319 mc rtp) (some (t, q)) b).out) ∧
      b.keeps (fwFrameTx e len (.udp dst src 319 mc rtp) (some (t, q)) b) [] := by
  have hs := b.ethSent_onlyPorts e len (.udp dst src 319 mc rtp)
  rw [fwFrameTx_event hp len hu, Block.stampTx, if_neg (by simpa using h), hs.now]
  exact ⟨by simp, by simp, by simp, fun hl => b.mem_ethSent_out e len _ hl, (hs.updEth e _).keeps []⟩

theorem fwFrameTx_stampsFull (dst src : List Byte) (mc : Bool) (rtp : RtpPkt) (m : Nat × Nat) (h : 16 ≤ (b.port_e e).stamps.length) :
    ((fwFrameTx e len (.udp dst src 319 mc rtp) (some m) b).port_e e).stamps = (b.port_e e).stamps ∧
      ((fwFrameTx e len (.udp dst src 319 mc rtp) (some m) b).port_e e).cnt.look 14 = ((b.port_e e).cnt.look 14 + 1) % 2 ^ 64 ∧
      b.keeps (fwFrameTx e len (.udp dst src 319 mc rtp) (some m) b) [] := by
  rw [fwFrameTx_event hp len hu, Block.stampTx, if_pos (by simpa using h)]
  exact ⟨by simp, by simp, ((b.ethSent_onlyPorts e len _).ethCount e 14 1).keeps []⟩

/-- A frame that is no datagram's start leaves no stamp. -/
theorem fwFrameTx_fragment (msg : Option (Nat × Nat)) : ((fwFrameTx e len .fragment msg b).port_e e).stamps = (b.port_e e).stamps ∧
    ((fwFrameTx e len .fragment msg b).port_e e).cnt.look 10 = ((b.port_e e).cnt.look 10 + 1) % 2 ^ 64 ∧ b.keeps (fwFrameTx e len .fragment msg b) [] := by
  have heq : fwFrameTx e len .fragment msg b = b.ethSent e len .fragment := (if_neg (not_not_intro hp)).trans (if_pos hu)
  rw [heq]
  exact ⟨by simp, by simp, (b.ethSent_onlyPorts e len _).keeps []⟩

end

/-! ### Reads (R229, R233, R255) -/

/-- The device with a stamp's time in the registers that show it. -/
def Block.stampShown (b : Block) (e : Nat) (x : TxStamp) : Block :=
  (((b.setFld F.PTP_TX_NS_NS e (x.stamp / nsUnit % 1000000000)).setFld F.PTP_TX_SEC_LO_SEC e (x.stamp / secUnit)).setFld
    F.PTP_TX_SEC_HI_SEC e (x.stamp / secUnit / 2 ^ 32)).setFld F.PTP_TX_SEC_HI_FRAC e (x.stamp / 2 ^ 32)

theorem Block.stampShown_time (b : Block) (e : Nat) (x : TxStamp) : (b.stampShown e x).fld F.PTP_TX_NS_NS e = x.stamp / nsUnit % 1000000000 ∧
    (b.stampShown e x).fld F.PTP_TX_SEC_LO_SEC e = x.stamp / secUnit % 2 ^ 32 ∧
    (b.stampShown e x).fld F.PTP_TX_SEC_HI_SEC e = x.stamp / secUnit / 2 ^ 32 % 2 ^ 16 := by
  unfold Block.stampShown
  refine ⟨?_, ?_, ?_⟩
  · rw [Block.fld_setFld_ne _ _ (by simp), Block.fld_setFld_ne _ _ (by simp), Block.fld_setFld_ne _ _ (by simp), Block.fld_setFld_same]
    exact Nat.mod_eq_of_lt (lt_trans (Nat.mod_lt _ (by decide)) (by decide))
  · rw [Block.fld_setFld_ne _ _ (by simp), Block.fld_setFld_ne _ _ (by simp), Block.fld_setFld_same]
    rfl
  · rw [Block.fld_setFld_ne _ _ (by simp), Block.fld_setFld_same]
    rfl

section
variable {b : Block} {e : Nat}

theorem ptpTxIdRead_none (h : (b.port_e e).stamps = []) : ptpTxIdRead e b = b.emit (.read 0) := by
  simp only [ptpTxIdRead, h]

theorem ptpTxIdRead_oldest {x : TxStamp} {rest : List TxStamp} (h : (b.port_e e).stamps = x :: rest) :
    Out.read (x.seqId + x.msgType * 65536 + 2 ^ 31) ∈ (ptpTxIdRead e b).out ∧ ((ptpTxIdRead e b).port_e e).stamps = rest ∧
      (ptpTxIdRead e b).fld F.PTP_TX_NS_NS e = x.stamp / nsUnit % 1000000000 ∧
      (ptpTxIdRead e b).fld F.PTP_TX_SEC_LO_SEC e = x.stamp / secUnit % 2 ^ 32 ∧
      (ptpTxIdRead e b).fld F.PTP_TX_SEC_HI_SEC e = x.stamp / secUnit / 2 ^ 32 % 2 ^ 16 := by
  have heq : ptpTxIdRead e b = ((b.stampShown e x).updEth e fun s => { s with stamps := s.stamps.drop 1 }).emit
      (.read (x.seqId + x.msgType * 65536 + 2 ^ 31)) := by
    simp only [ptpTxIdRead, h]
    rfl
  have hst : ((b.stampShown e x).port_e e).stamps.drop 1 = rest := congrArg (List.drop 1) h
  rw [heq]
  refine ⟨Block.mem_emit_out _ _, ?_, b.stampShown_time e x⟩
  rw [Block.port_e_emit, Block.port_e_updEth_same, hst]

theorem captureFrameTake_none (h : (b.port_e e).capq = []) : captureFrameTake e b = b := by
  simp only [captureFrameTake, h]

/-- The firmware takes the oldest frame; one that asks for no membership is answered by nothing (R254). -/
theorem captureFrameTake_oldest {c : CapFrame} {rest : List CapFrame} (h : (b.port_e e).capq = c :: rest) (hq : c.frame.query = false) :
    ((captureFrameTake e b).port_e e).capq = rest ∧ Out.capFrame e c.frame c.stamp ∈ (captureFrameTake e b).out ∧ b.keeps (captureFrameTake e b) [] := by
  have heq : captureFrameTake e b = (b.updEth e fun s => { s with capq := s.capq.drop 1 }).emit (.capFrame e c.frame c.stamp) := by
    simp only [captureFrameTake, h]
    exact if_neg (by simp [hq])
  rw [heq]
  refine ⟨?_, Block.mem_emit_out _ _, ((b.onlyPorts_refl.updEth e _).emit _).keeps []⟩
  rw [Block.port_e_emit, Block.port_e_updEth_same, h]
  rfl

end

/-- A counter's low word read: the high word is latched, and the late increments are left (R233). -/
theorem Block.ethCntLoRead_takes (b : Block) (e c late : Nat) : Out.read ((b.port_e e).cnt.look c % 2 ^ 32) ∈ (ethCntLoRead e c late b).out ∧
    (ethCntLoRead e c late b).fld F.ETH_CNT_HI_CNT (15 * e + c) = (b.port_e e).cnt.look c / 2 ^ 32 % 2 ^ 32 ∧
    ((ethCntLoRead e c late b).port_e e).cnt.look c = late ∧ b.keeps (ethCntLoRead e c late b) [F.ETH_CNT_HI_CNT.key (15 * e + c)] := by
  unfold ethCntLoRead
  refine ⟨Block.mem_emit_out _ _, Block.fld_setFld_same _ _ _ _, ?_, ?_⟩
  · rw [Block.port_e_updEth_same, Bank.look_put_same]
  · exact Block.keeps.setFld (c := b.emit _) ((b.keeps_refl _).of_regs rfl) List.mem_cons_self _

/-- Settles O18: a frame is sorted from `ethGood`, the device with it heard and counted whole; a frame of the firmware is `ethSent` with its stamp; reads and
changes of a link are the writes that their lemmas give. -/
theorem ethernetPortsSortAndCount : Obligations.EthernetPortsSortAndCount := by
  intro s e hs he
  refine ⟨fun f h => ?_, fun hp hu => ⟨fun f hw hbad hfec hb => ?_, fun f hw hgood hfec h64 hmax hus => ?_,
      fun f dst src port rtp hw hgood hfec h64 hmax hus ht hy h319 h320 hflow => ?_, fun f ty hw hgood hfec h64 hmax hus ht hy hroom => ?_, ?_,
      fun len dst src mc rtp q ty hroom => ?_, fun len dst src mc rtp q hfull => ?_, fun len msg => ?_⟩,
    fun hp hu => ⟨fun hen hl => ?_, fun len y msg => ?_⟩, fun h => ?_, fun c rest h hq => ?_, fun c late hc hr => ?_, fun hr => ⟨fun x rest h => ?_, fun h => ?_⟩⟩
  · exact ⟨_, run_live _ hs, onlyRegs_effect_self (ethFrameRx_none (b := s.quiet) f h)⟩
  · obtain ⟨h3, h12, hq, hk⟩ := ethFrameRx_badCounted (b := s.quiet) hp hu hw hfec hbad hb
    exact ⟨_, run_live _ hs, h3, h12, hq, regsKept_effect hk⟩
  · obtain ⟨h6, h0, hq, hk⟩ := ethFrameRx_notOurs (b := s.quiet) hp hu hw hfec hgood h64 hmax hus
    exact ⟨_, run_live _ hs, h6, h0, hq, regsKept_effect hk⟩
  · obtain ⟨h7, hq, hk⟩ := ethFrameRx_unasked (b := s.quiet) hp hu hw hfec hgood h64 hmax hus ht hy h319 h320 hflow
    exact ⟨_, run_live _ hs, h7, hq, regsKept_effect hk⟩
  · obtain ⟨hq, ho, hk⟩ := ethFrameRx_captured (b := s.quiet) hp hu hw hfec hgood h64 hmax hus ht hy hroom
    exact ⟨_, run_live _ hs, hq, mem_effect_out ho, regsKept_effect hk⟩
  · obtain ⟨h0, h1, hk⟩ := ethLinkChange_lost (b := s.quiet) hu
    exact ⟨_, run_live _ hs, h0, h1, onlyRegs_effect hk⟩
  · obtain ⟨hst, h10, h9, ho, hk⟩ := fwFrameTx_stamped (b := s.quiet) hp len hu dst src mc rtp ty q hroom
    exact ⟨_, run_live _ hs, hst, h10, h9, fun hl => mem_effect_out (ho hl), regsKept_effect hk⟩
  · obtain ⟨hst, h14, hk⟩ := fwFrameTx_stampsFull (b := s.quiet) hp len hu dst src mc rtp q hfull
    exact ⟨_, run_live _ hs, hst, h14, regsKept_effect hk⟩
  · obtain ⟨hst, h10, hk⟩ := fwFrameTx_fragment (b := s.quiet) hp len hu msg
    exact ⟨_, run_live _ hs, hst, h10, regsKept_effect hk⟩
  · obtain ⟨h1, hg, hfec, hk⟩ := ethLinkChange_gained (b := s.quiet) hp hu hen hl
    exact ⟨_, run_live _ hs, h1, hg, hfec, onlyRegs_effect hk⟩
  · obtain ⟨h11, hst, hk⟩ := fwFrameTx_down (b := s.quiet) hp len hu y msg
    exact ⟨_, run_live _ hs, h11, hst, regsKept_effect hk⟩
  · exact ⟨_, run_live _ hs, onlyRegs_effect_self (captureFrameTake_none (b := s.quiet) h)⟩
  · obtain ⟨hrest, ho, hk⟩ := captureFrameTake_oldest (b := s.quiet) h hq
    exact ⟨_, run_live _ hs, hrest, mem_effect_out ho, regsKept_effect hk⟩
  · obtain ⟨ho, hhi, hlate, hk⟩ := s.quiet.ethCntLoRead_takes e c late
    exact ⟨_, run_reaches hs hr true _, mem_effect_out ho, hhi, hlate, regsKept_effect hk⟩
  · obtain ⟨ho, hrest, hns, hlo, hhi⟩ := ptpTxIdRead_oldest (b := s.quiet) h
    exact ⟨_, run_reaches hs hr true _, mem_effect_out ho, hrest, hns, hlo, hhi⟩
  · have heq := ptpTxIdRead_none (b := s.quiet) h
    refine ⟨_, run_reaches hs hr true _, mem_effect_out ?_, onlyRegs_effect ?_⟩
    · rw [heq]
      exact Block.mem_emit_out _ _
    · rw [heq]
      exact (s.quiet.writes_refl _).emit _

end Sys2Proof.Machine
end

section
/-!
A receive flow's frame that closes, and the loss of a flow (R239, R241, R243).
-/
namespace Sys2Proof.Machine
set_option Elab.async false

/-! ### The loss of a flow (R239, R268) -/

/-- The keys that a stall's loss of signal may write. -/
def stallKeys (j : Nat) : List Nat := [F.STALL_STATUS_STATE.key j, F.STALL_HIST_LOS_ENTERED.key j, F.STALL_STATUS_LATCHED.key j,
  F.STALL_STATUS_UNTRUSTED.key j, F.STALL_STATUS_ORIGIN_KIND.key j]

theorem Block.stallShow_left {b c : Block} {j : Nat} (hk : b.keeps c (stallKeys j)) (ho : c.out = b.out) :
    b.keeps (c.stallShow j) (stallKeys j) ∧ (c.stallShow j).out = b.out := by
  unfold Block.stallShow
  extract_lets s act black shown shows
  have hs : b.keeps shows (stallKeys j) := hk.of_regs rfl
  have hso : shows.out = b.out := ho
  clear_value shows shown
  cases shown <;>
    exact ⟨((hs.setFld (by simp [stallKeys]) _).setFld (by simp [stallKeys]) _).setFld (by simp [stallKeys]) _, hso⟩

theorem Block.stallLoss_left (b : Block) (j : Nat) : b.keeps (b.stallLoss j) (stallKeys j) ∧ (b.stallLoss j).out = b.out := by
  unfold Block.stallLoss
  split
  · have hl : b.keeps ((b.setFld F.STALL_STATUS_STATE j 3).set F.STALL_HIST_LOS_ENTERED j) (stallKeys j) :=
      ((b.keeps_refl _).setFld (by simp [stallKeys]) _).setFld (by simp [stallKeys]) _
    exact Block.stallShow_left (hl.of_regs rfl) rfl
  · exact ⟨b.keeps_refl _, rfl⟩

/-- A flow's loss is shown, and leaves all registers but those of its stall. -/
theorem Block.flowLoss_left (b : Block) (i : Nat) : b.keeps (b.flowLoss i) (stallKeys (128 + i)) ∧ Out.flowLost i ∈ (b.flowLoss i).out := by
  obtain ⟨hk, ho⟩ := (b.emit (.flowLost i)).stallLoss_left (128 + i)
  exact Block.ite_cases (P := fun c => b.keeps c (stallKeys (128 + i)) ∧ Out.flowLost i ∈ c.out) _ ⟨(b.keeps_refl _).of_regs rfl, b.mem_emit_out _⟩
    ⟨hk, ho ▸ b.mem_emit_out _⟩

/-- The row of receive flow `i` is no part of the stalls' registers. -/
theorem Block.flowLoss_fld {b : Block} {i : Nat} {f : Field} (hf : f.key i < F.STALL_CTRL_EN.key 0) : (b.flowLoss i).fld f i = b.fld f i :=
  (b.flowLoss_left i).1.fld (by simp [stallKeys] at hf ⊢; omega)

/-! ### A frame that closes (R241, R243) -/

section
variable (b : Block) (i : Nat)

@[simp] theorem Block.rxf_updFlowRx_same (f : FlowRx → FlowRx) : (b.updFlowRx i f).rxf i = f (b.rxf i) := Bank.look_upd_same _ _ _
@[simp] theorem Block.rxf_emit (o : Out) : (b.emit o).rxf i = b.rxf i := rfl

end

/-- The timestamp of the frame that closes next. -/
def FlowRx.frameTs (f : FlowRx) : Nat := ((f.frame.find? Placed.first <|> f.frame.head?).map Placed.ts).getD 0

/-- The flow with the legs' skew stored, where both brought the frame's first packet. -/
def Block.skewNoted (b : Block) (i : Nat) (red blue : Option Nat) : Block := match red, blue with
  | some r, some u => b.setSfld F.IPM_RX_SKEW_SKEW i ((Int.ofNat u - Int.ofNat r) / Int.ofNat (nsUnit * 1000))
  | _, _ => b

/-- The flow with what its registers show of a frame that closes. -/
def Block.frameNoted (b : Block) (i lost : Nat) (whole : Bool) : Block :=
  ((b.setFld F.IPM_RX_TS_TS i (b.rxf i).frameTs).skewNoted i (b.rxf i).redAt (b.rxf i).blueAt).ite (!whole) fun b =>
    (b.bump F.IPM_RX_LOST_CNT_COUNT i lost).set F.IPM_RX_HIST_INCOMPLETE i

/-- The frame of flow state `f` that closes next, as its stall and its consumers are given it. -/
def Block.frameGiven (b : Block) (i kind : Nat) (whole : Bool) (f : FlowRx) : Block :=
  (b.emit (.flowFrame i f.frameTs ((f.cur.getD (0, 0)).2 / nsUnit) whole)).updFlowRx i fun g => { g with
    given := some ⟨b.fld F.IPM_RX_CFG_FORMAT i, whole, g.stamp, g.atc, g.anc, none,
      some (f.frameTs, (f.cur.getD (0, 0)).2 / nsUnit, g.picture kind (b.fld F.IPM_RX_CFG_FORMAT i))⟩ }

/-- The flow once the frame that closes next is done with, `t` being the first packet after it. -/
def FlowRx.after (f : FlowRx) (t : Nat) : FlowRx := { f with
  base := some t, seen := f.seen.filter (fun q => !seqBefore q.seq t && some q.key != f.cur.map Prod.fst), cur := f.later.head?
  later := f.later.drop 1, redAt := none, blueAt := none, anc := [], stamp := none, atc := none }

/-- The keys that show a frame that closes. -/
def frameKeys (i : Nat) : List Nat := [F.IPM_RX_TS_TS.key i, F.IPM_RX_SKEW_SKEW.key i, F.IPM_RX_LOST_CNT_COUNT.key i, F.IPM_RX_HIST_INCOMPLETE.key i]

section
variable (b : Block) (i lost : Nat) (whole : Bool)

theorem Block.frameNoted_keeps : b.keeps (b.frameNoted i lost whole) (frameKeys i) := by
  have ht : b.keeps (b.setFld F.IPM_RX_TS_TS i (b.rxf i).frameTs) (frameKeys i) := (b.keeps_refl _).setFld (by simp [frameKeys]) _
  have hs : b.keeps ((b.setFld F.IPM_RX_TS_TS i (b.rxf i).frameTs).skewNoted i (b.rxf i).redAt (b.rxf i).blueAt) (frameKeys i) := by
    unfold Block.skewNoted
    split
    · exact ht.setFld (by simp [frameKeys]) _
    · exact ht
  exact Block.ite_cases (P := fun c => b.keeps c (frameKeys i)) _ hs ((hs.setFld (by simp [frameKeys]) _).setFld (by simp [frameKeys]) _)

theorem Block.closeFrame_eq (t : Nat) : b.closeFrame i t lost whole =
    ((b.frameNoted i lost whole).ite ((b.frameNoted i lost whole).fld F.IPM_RX_STATUS_STATE i == 2) fun c => 
      c.frameGiven i (b.fld F.IPM_RX_CFG_KIND i) whole (b.rxf i)).updFlowRx i
      fun f => f.after t := rfl

/-- A frame that closes changes no register but those that show it. -/
theorem Block.closeFrame_regs (t : Nat) : (b.closeFrame i t lost whole).regs = (b.frameNoted i lost whole).regs := by
  rw [Block.closeFrame_eq]
  exact Block.ite_cases (P := fun c => c.regs = _) _ rfl rfl

theorem Block.closeFrame_keeps (t : Nat) : b.keeps (b.closeFrame i t lost whole) (frameKeys i) :=
  (b.frameNoted_keeps i lost whole).of_regs (b.closeFrame_regs i lost whole t)

theorem Block.closeFrame_ts (t : Nat) : (b.closeFrame i t lost whole).fld F.IPM_RX_TS_TS i = (b.rxf i).frameTs % 2 ^ 32 := by
  have hs : ((b.setFld F.IPM_RX_TS_TS i (b.rxf i).frameTs).skewNoted i (b.rxf i).redAt (b.rxf i).blueAt).fld F.IPM_RX_TS_TS i = (b.rxf i).frameTs % 2 ^ 32 := by
    unfold Block.skewNoted
    split
    · exact (Block.fld_setSfld_ne _ (by simp) _).trans (Block.fld_setFld_same _ _ _ _)
    · exact Block.fld_setFld_same _ _ _ _
  rw [Block.fld_congr (b.closeFrame_regs i lost whole t)]
  refine Block.ite_cases (P := fun c => c.fld F.IPM_RX_TS_TS i = _) _ hs ?_
  rw [Block.fld_set_ne _ (by simp), Block.fld_bump_ne _ (by simp), hs]

/-- A frame that closes incomplete counts the packets lost (R241). -/
theorem Block.closeFrame_lost (t : Nat) :
    (b.closeFrame i t lost false).fld F.IPM_RX_LOST_CNT_COUNT i = min (b.fld F.IPM_RX_LOST_CNT_COUNT i + lost) (2 ^ 32 - 1) ∧
      (b.closeFrame i t lost false).fld F.IPM_RX_HIST_INCOMPLETE i = 1 := by
  have hs : ((b.setFld F.IPM_RX_TS_TS i (b.rxf i).frameTs).skewNoted i (b.rxf i).redAt (b.rxf i).blueAt).fld F.IPM_RX_LOST_CNT_COUNT i =
      b.fld F.IPM_RX_LOST_CNT_COUNT i := by
    unfold Block.skewNoted
    split
    · rw [Block.fld_setSfld_ne _ (by simp), Block.fld_setFld_ne _ _ (by simp)]
    · exact Block.fld_setFld_ne _ _ (by simp)
  rw [Block.fld_congr (b.closeFrame_regs i lost false t), Block.fld_congr (b.closeFrame_regs i lost false t)]
  refine ⟨?_, Block.fld_set_same _ _ _⟩
  refine (Block.fld_set_ne _ (by simp)).trans ((Block.fld_bump_same _ _ _ _).trans ?_)
  rw [hs]
  rfl

/-- The flow goes on with the frames that follow. -/
theorem Block.closeFrame_rxf (t : Nat) : ∃ g, (b.closeFrame i t lost whole).rxf i = ({ b.rxf i with given := g } : FlowRx).after t := by
  have hn : (b.frameNoted i lost whole).rxf i = b.rxf i := by
    refine Block.ite_cases (P := fun c => c.rxf i = b.rxf i) _ ?_ ?_ <;>
    · unfold Block.skewNoted
      split <;> rfl
  rw [Block.closeFrame_eq, Block.rxf_updFlowRx_same]
  refine Block.ite_cases (P := fun c => ∃ g, (c.rxf i).after t = ({ b.rxf i with given := g } : FlowRx).after t) _
    ⟨(b.rxf i).given, congrArg (·.after t) hn⟩ ?_
  rw [Block.frameGiven, Block.rxf_updFlowRx_same, Block.rxf_emit, hn]
  exact ⟨_, rfl⟩

/-- A flow that runs delivers the frame. -/
theorem Block.mem_closeFrame_out (t : Nat) (h : b.fld F.IPM_RX_STATUS_STATE i = 2) :
    Out.flowFrame i (b.rxf i).frameTs (((b.rxf i).cur.getD (0, 0)).2 / nsUnit) whole ∈ (b.closeFrame i t lost whole).out := by
  have hst : (b.frameNoted i lost whole).fld F.IPM_RX_STATUS_STATE i = 2 := ((b.frameNoted_keeps i lost whole).fld (by simp [frameKeys])).trans h
  rw [Block.closeFrame_eq, hst]
  exact Block.mem_emit_out _ _

end

end Sys2Proof.Machine
end

section
/-!
Legs that fall silent and merge windows that end (R239, R241).
-/
namespace Sys2Proof.Machine
set_option Elab.async false

/-! ### A leg that delivers nothing (R239) -/

/-- Flow `i` with its red leg lost. -/
def Block.redLost (b : Block) (i : Nat) : Block := (b.clr F.IPM_RX_STATUS_RED_UP i).set F.IPM_RX_HIST_RED_LOST i

/-- Flow `i` once its last leg is lost: the frame under way closed, and merging to start anew. -/
def Block.flowCut (b : Block) (i : Nat) : Block :=
  (b.ite (b.rxf i).cur.isSome fun b => b.closeShort i ((b.rxf i).last + 1)).updFlowRx i fun f => { f.restarted with given := f.given }

theorem Block.flowCut_keeps (b : Block) (i : Nat) : b.keeps (b.flowCut i) (frameKeys i) := by
  have hc : b.keeps (b.ite (b.rxf i).cur.isSome fun b => b.closeShort i ((b.rxf i).last + 1)) (frameKeys i) :=
    Block.ite_cases (P := fun c => b.keeps c (frameKeys i)) _ (b.keeps_refl _) (b.closeFrame_keeps i _ false _)
  exact hc.of_regs rfl

section
variable {b : Block} {i : Nat}

theorem legTimeout_down (h : b.on F.IPM_RX_STATUS_RED_UP i = false) : legTimeout i false b = b := if_neg (Bool.eq_false_iff.mp h)

/-- The flow goes on with the leg that is left. -/
theorem legTimeout_one (hr : b.on F.IPM_RX_STATUS_RED_UP i = true) (hb : b.on F.IPM_RX_STATUS_BLUE_UP i = true) :
    legTimeout i true b = (b.clr F.IPM_RX_STATUS_BLUE_UP i).set F.IPM_RX_HIST_BLUE_LOST i := by
  have hup : ((b.clr F.IPM_RX_STATUS_BLUE_UP i).set F.IPM_RX_HIST_BLUE_LOST i).on F.IPM_RX_STATUS_RED_UP i = true := by
    rw [Block.on, Block.fld_set_ne _ (by simp), Block.fld_clr_ne _ (by simp)]
    exact hr
  exact (if_pos hb).trans (if_pos (.inl hup))

/-- With its last leg a flow is lost. -/
theorem legTimeout_last (hr : b.on F.IPM_RX_STATUS_RED_UP i = true) (hb : b.on F.IPM_RX_STATUS_BLUE_UP i = false) :
    legTimeout i false b = ((((b.redLost i).flowCut i).set F.IPM_RX_HIST_FLOW_LOST i).setFld F.IPM_RX_STATUS_STATE i 1).flowLoss i := by
  have hred : (b.redLost i).on F.IPM_RX_STATUS_RED_UP i = false := by
    rw [Block.redLost, Block.on, Block.fld_set_ne _ (by simp), Block.fld_clr_same]
    rfl
  have hblue : (b.redLost i).on F.IPM_RX_STATUS_BLUE_UP i = false := by
    rw [Block.redLost, Block.on, Block.fld_set_ne _ (by simp), Block.fld_clr_ne _ (by simp)]
    exact hb
  have hnone : ¬((b.redLost i).on F.IPM_RX_STATUS_RED_UP i = true ∨ (b.redLost i).on F.IPM_RX_STATUS_BLUE_UP i = true) := by simp [hred, hblue]
  exact (if_pos hr).trans (if_neg hnone)

theorem legTimeout_lost (hi : i < 768) (hr : b.on F.IPM_RX_STATUS_RED_UP i = true) (hb : b.on F.IPM_RX_STATUS_BLUE_UP i = false) :
    (legTimeout i false b).fld F.IPM_RX_STATUS_RED_UP i = 0 ∧ (legTimeout i false b).fld F.IPM_RX_HIST_RED_LOST i = 1 ∧
      (legTimeout i false b).fld F.IPM_RX_HIST_FLOW_LOST i = 1 ∧ (legTimeout i false b).fld F.IPM_RX_STATUS_STATE i = 1 ∧
      Out.flowLost i ∈ (legTimeout i false b).out := by
  have hk := (b.redLost i).flowCut_keeps i
  rw [legTimeout_last hr hb]
  refine ⟨?_, ?_, ?_, ?_, (Block.flowLoss_left _ i).2⟩
  · rw [Block.flowLoss_fld (by simp; omega), Block.fld_setFld_ne _ _ (by simp), Block.fld_set_ne _ (by simp), hk.fld (by simp [frameKeys]),
      Block.redLost, Block.fld_set_ne _ (by simp), Block.fld_clr_same]
  · rw [Block.flowLoss_fld (by simp; omega), Block.fld_setFld_ne _ _ (by simp), Block.fld_set_ne _ (by simp), hk.fld (by simp [frameKeys])]
    exact Block.fld_set_same _ _ _
  · rw [Block.flowLoss_fld (by simp; omega), Block.fld_setFld_ne _ _ (by simp)]
    exact Block.fld_set_same _ _ _
  · rw [Block.flowLoss_fld (by simp; omega)]
    exact Block.fld_setFld_same _ _ _ _

end

/-! ### One packet missing between two frames (R240, R241) -/

theorem seqBefore_irrefl (s : Nat) : seqBefore s s = false := by simp [seqBefore]

/-- `f` is in the middle of two frames: the first packet of one, numbered `bs`, and after a packet that is missing one of the next. -/
structure FlowRx.gapped (f : FlowRx) (bs k nk ts nts arrived next : Nat) : Prop where
  wraps : bs + 2 < 2 ^ 32
  keys : k ≠ nk
  base : f.base = some bs
  cur : f.cur = some (k, arrived)
  later : f.later = [(nk, next)]
  seen : f.seen = [⟨bs, k, ts, false, true, false, [], []⟩, ⟨bs + 2, nk, nts, false, false, false, [], []⟩]

section
variable {f : FlowRx} {bs k nk ts nts arrived next : Nat} (h : f.gapped bs k nk ts nts arrived next)
include h

theorem FlowRx.gapped.frame : f.frame = [⟨bs, k, ts, false, true, false, [], []⟩] := by
  simp [FlowRx.frame, h.cur, h.seen, h.keys.symm]

theorem FlowRx.gapped.start : f.start = some bs := by simp [FlowRx.start, h.frame]

theorem FlowRx.gapped.before : seqBefore bs (bs + 2) = true := by
  have := h.wraps
  simp [seqBefore]
  omega

theorem FlowRx.gapped.missing : seqSpan bs (bs + 2) - f.between bs (bs + 2) = 1 := by
  have := h.wraps
  have hspan : seqSpan bs (bs + 2) = 2 := by
    unfold seqSpan
    omega
  simp [FlowRx.between, h.frame, h.before, seqBefore_irrefl, hspan]

/-- The frame that follows becomes the one under way, with its packet. -/
theorem FlowRx.gapped.after (g : Option Given) : (({ f with given := g } : FlowRx).after (bs + 2)).base = some (bs + 2) ∧
    (({ f with given := g } : FlowRx).after (bs + 2)).cur = some (nk, next) ∧ (({ f with given := g } : FlowRx).after (bs + 2)).later = [] ∧
    (({ f with given := g } : FlowRx).after (bs + 2)).seen = [⟨bs + 2, nk, nts, false, false, false, [], []⟩] := by
  refine ⟨rfl, ?_, ?_, ?_⟩
  · simp [FlowRx.after, h.later]
  · simp [FlowRx.after, h.later]
  · simp [FlowRx.after, h.seen, h.cur, h.before, seqBefore_irrefl, h.keys.symm]

end

/-- A frame without its last packet is not whole. -/
theorem FlowRx.complete_none {f : FlowRx} (h : f.frame.find? Placed.marker = none) : f.complete = none := by
  unfold FlowRx.complete
  rw [h]
  cases f.start <;> rfl

theorem Block.closeWhole_none {b : Block} {i : Nat} (h : (b.rxf i).complete = none) : b.closeWhole i = b :=
  Block.each_induction (P := fun c => c = b) rfl fun c _ _ hc => by rw [hc, h]

section
variable {b : Block} {i bs k nk ts nts arrived next : Nat} (h : (b.rxf i).gapped bs k nk ts nts arrived next)
include h

/-- The frame under way closes at the packet of the next, with one packet lost. -/
theorem mergeWinExpiry_gapped : mergeWinExpiry i b = b.closeFrame i (bs + 2) 1 false := by
  have hshort : b.closeShort i (bs + 2) = b.closeFrame i (bs + 2) 1 false := by
    have hs : (b.rxf i).start.getD ((b.rxf i).base.getD (bs + 2)) = bs := by rw [h.start]; rfl
    unfold Block.closeShort
    simp only [hs, h.missing]
  have hafter : (b.closeFrame i (bs + 2) 1 false).closeWhole i = b.closeFrame i (bs + 2) 1 false := by
    obtain ⟨g, hg⟩ := b.closeFrame_rxf i 1 false (bs + 2)
    obtain ⟨-, hcur, -, hseen⟩ := h.after g
    refine Block.closeWhole_none (FlowRx.complete_none ?_)
    rw [hg]
    simp [FlowRx.frame, hcur, hseen]
  have hlow : mergeWinExpiry i b = (b.closeShort i (bs + 2)).closeWhole i := by
    simp [mergeWinExpiry, h.cur, h.later, h.seen, h.frame, h.keys, seqBefore_irrefl]
  rw [hlow, hshort, hafter]

theorem mergeWinExpiry_closes (hst : b.fld F.IPM_RX_STATUS_STATE i = 2) :
    Out.flowFrame i ts (arrived / nsUnit) false ∈ (mergeWinExpiry i b).out ∧ (mergeWinExpiry i b).fld F.IPM_RX_TS_TS i = ts % 2 ^ 32 ∧
      (mergeWinExpiry i b).fld F.IPM_RX_LOST_CNT_COUNT i = min (b.fld F.IPM_RX_LOST_CNT_COUNT i + 1) (2 ^ 32 - 1) ∧
      (mergeWinExpiry i b).fld F.IPM_RX_HIST_INCOMPLETE i = 1 ∧ ((mergeWinExpiry i b).rxf i).base = some (bs + 2) ∧
      ((mergeWinExpiry i b).rxf i).cur = some (nk, next) ∧ ((mergeWinExpiry i b).rxf i).later = [] ∧
      ((mergeWinExpiry i b).rxf i).seen = [⟨bs + 2, nk, nts, false, false, false, [], []⟩] := by
  have hts : (b.rxf i).frameTs = ts := by simp [FlowRx.frameTs, h.frame]
  have hat : ((b.rxf i).cur.getD (0, 0)).2 = arrived := by rw [h.cur]; rfl
  obtain ⟨hlost, hinc⟩ := b.closeFrame_lost i 1 (bs + 2)
  obtain ⟨g, hg⟩ := b.closeFrame_rxf i 1 false (bs + 2)
  have hout := b.mem_closeFrame_out i 1 false (bs + 2) hst
  have hfld := b.closeFrame_ts i 1 false (bs + 2)
  rw [hts, hat] at hout
  rw [hts] at hfld
  rw [mergeWinExpiry_gapped h, hg]
  exact ⟨hout, hfld, hlost, hinc, h.after g⟩

end

/-- Without a frame that follows another nothing closes. -/
theorem mergeWinExpiry_none {b : Block} {i : Nat} (h : (b.rxf i).cur = none ∨ (b.rxf i).later = []) : mergeWinExpiry i b = b := by
  unfold mergeWinExpiry
  rcases h with h | h
  · simp only [h]
  · cases hc : (b.rxf i).cur <;> simp only [hc, h, List.head?_nil]

end Sys2Proof.Machine
end

section
/-!
A transmit flow's own registers, and one leg of a packet (R231, R232, R244).
-/
namespace Sys2Proof.Machine
set_option Elab.async false

/-! ### What a transmit flow's own registers leave -/

/-- The keys that the start of a frame and a packet sent may write. -/
def packetKeys (i : Nat) : List Nat := [F.IPM_TX_STATUS_STATE.key i, F.IPM_TX_STATUS_RED_ON.key i, F.IPM_TX_STATUS_BLUE_ON.key i, F.IPM_TX_PKT_CNT_COUNT.key i,
  F.IPM_TX_HIST_STARTED.key i, F.IPM_TX_SEQ_SEQ.key i, F.IPM_TX_DROP_CNT_COUNT.key i, F.IPM_TX_HIST_PKT_DROP.key i]

section
variable {b c : Block} {i : Nat} (hk : b.keeps c (packetKeys i)) (hr : c.released = b.released) (hi : i < 768)
include hk hr hi

/-- Which legs the device sends is none of it. -/
theorem Block.keeps.legOn (hd : c.dev = b.dev) (blue : Bool) : c.legOn i blue = b.legOn i blue := by
  have hst : c.fld F.TWIN_STATUS_STATE 0 = b.fld F.TWIN_STATUS_STATE 0 := hk.fld (by simp [packetKeys]; omega)
  have hhb : c.fld F.TWIN_HB_CAUSE_CAUSE 0 = b.fld F.TWIN_HB_CAUSE_CAUSE 0 := hk.fld (by simp [packetKeys]; omega)
  have hrole : c.fld F.TWIN_STATUS_ROLE 0 = b.fld F.TWIN_STATUS_ROLE 0 := hk.fld (by simp [packetKeys]; omega)
  have hlegs : c.fld F.IPM_TX_CFG_LEGS i = b.fld F.IPM_TX_CFG_LEGS i := hk.fld (by simp [packetKeys])
  unfold Block.legOn Block.sends Block.isBow Block.on
  rw [hr, hd, hst, hhb, hrole, hlegs]

/-- Nor is what a lane's pins carry. -/
theorem Block.keeps.laneSends (l : Nat) : c.laneSends l = b.laneSends l := by
  have hp : c.fld F.LANE_CTRL_POWER l = b.fld F.LANE_CTRL_POWER l := hk.fld (by simp [packetKeys]; omega)
  have hg : c.fld F.PAT_CFG_GEN_EN l = b.fld F.PAT_CFG_GEN_EN l := hk.fld (by simp [packetKeys]; omega)
  have hb : c.fld F.LANE_CTRL_LB l = b.fld F.LANE_CTRL_LB l := hk.fld (by simp [packetKeys]; omega)
  have ht : c.fld F.LANE_CTRL_LB_TX_ON l = b.fld F.LANE_CTRL_LB_TX_ON l := hk.fld (by simp [packetKeys]; omega)
  have hf : c.fld F.BIST_LANE_FAIL_FAIL (l / 32) = b.fld F.BIST_LANE_FAIL_FAIL (l / 32) := hk.fld (by simp [packetKeys]; omega)
  simp only [Block.laneSends, Block.laneBist, Block.bitAt, Block.on, hr, hp, hg, hb, ht, hf]

end

/-- A device whose `PAIR` holds more than its two bits could put a port's link on a flow's key; a flow that runs reads 2 there, which no link that is up does. -/
theorem linkUp_key_ne {b : Block} {i e : Nat} (h2 : b.fld F.IPM_TX_STATUS_STATE i = 2) (hu : b.on F.ETH_STATUS_LINK_UP e = true) :
    F.ETH_STATUS_LINK_UP.key e ≠ F.IPM_TX_STATUS_STATE.key i := fun hkey => by
  have hrst : F.ETH_STATUS_LINK_UP.rst e = F.IPM_TX_STATUS_STATE.rst i := rfl
  have hsame : b.fld F.ETH_STATUS_LINK_UP e = b.fld F.IPM_TX_STATUS_STATE i := by rw [Block.fld, Block.fld, hkey, hrst]
  rw [Block.on, hsame, h2] at hu
  exact absurd hu (by decide)

theorem Block.keeps.linkUp {b c : Block} {i e : Nat} (hk : b.keeps c (packetKeys i)) (h2 : b.fld F.IPM_TX_STATUS_STATE i = 2)
    (hu : b.on F.ETH_STATUS_LINK_UP e = true) : c.on F.ETH_STATUS_LINK_UP e = true := by
  have hne := linkUp_key_ne h2 hu
  have hl : c.fld F.ETH_STATUS_LINK_UP e = b.fld F.ETH_STATUS_LINK_UP e := hk.fld (by simp [packetKeys] at hne ⊢; omega)
  rw [Block.on, hl]
  exact hu

/-! ### One leg of a packet (R231, R232) -/

section
variable (b : Block) (i : Nat)

@[simp] theorem Block.txf_updFlowTx_same (f : FlowTx → FlowTx) : (b.updFlowTx i f).txf i = f (b.txf i) := Bank.look_upd_same _ _ _
theorem Block.txf_ethCount (e c k : Nat) : (b.ethCount e c k).txf i = b.txf i := rfl
theorem Block.txf_bump (g : Field) (n k : Nat) : (b.bump g n k).txf i = b.txf i := rfl
theorem Block.txf_set (g : Field) (n : Nat) : (b.set g n).txf i = b.txf i := rfl

end

/-- The port of a flow's red leg. -/
def Block.redPort (b : Block) (i : Nat) : Nat := 2 * b.fld F.IPM_TX_CFG_PAIR i

/-- Flow `i` with a packet of `len` octets counted at its port, before its number is shown. -/
def Block.packetCounted (b : Block) (i len : Nat) : Block :=
  (((b.ethCount (b.redPort i) 9 len).ethCount (b.redPort i) 10 1).bump F.IPM_TX_PKT_CNT_COUNT i 1).ite (!(b.txf i).began) fun b =>
    (b.set F.IPM_TX_HIST_STARTED i).updFlowTx i fun f => { f with began := true }

section
variable (b : Block) (i len : Nat)

theorem Block.packetCounted_keeps : b.keeps (b.packetCounted i len) (packetKeys i) := by
  have hp : b.keeps (((b.ethCount (b.redPort i) 9 len).ethCount (b.redPort i) 10 1).bump F.IPM_TX_PKT_CNT_COUNT i 1) (packetKeys i) :=
    (((b.onlyPorts_refl.ethCount _ 9 len).ethCount _ 10 1).keeps _).setFld (by simp [packetKeys]) _
  exact Block.ite_cases (P := fun c => b.keeps c (packetKeys i)) _ hp ((hp.setFld (g := F.IPM_TX_HIST_STARTED) (by simp [packetKeys]) 1).of_regs rfl)

theorem Block.packetCounted_device : (b.packetCounted i len).released = b.released ∧ (b.packetCounted i len).dev = b.dev :=
  Block.ite_cases (P := fun c => c.released = b.released ∧ c.dev = b.dev) _ ⟨rfl, rfl⟩ ⟨rfl, rfl⟩

/-- Beside the counter and the flag of the first packet the flow stands as it did. -/
theorem Block.packetCounted_left : (b.packetCounted i len).fld F.IPM_TX_PKT_CNT_COUNT i = min (b.fld F.IPM_TX_PKT_CNT_COUNT i + 1) (2 ^ 32 - 1) ∧
    (b.packetCounted i len).fld F.IPM_TX_STATUS_RED_ON i = b.fld F.IPM_TX_STATUS_RED_ON i ∧
    (b.packetCounted i len).fld F.IPM_TX_STATUS_BLUE_ON i = b.fld F.IPM_TX_STATUS_BLUE_ON i ∧
    ((b.packetCounted i len).txf i).stopping = (b.txf i).stopping := by
  have hp : (((b.ethCount (b.redPort i) 9 len).ethCount (b.redPort i) 10 1).bump F.IPM_TX_PKT_CNT_COUNT i 1).fld F.IPM_TX_PKT_CNT_COUNT i =
      min (b.fld F.IPM_TX_PKT_CNT_COUNT i + 1) (2 ^ 32 - 1) := Block.fld_bump_same _ _ _ _
  have hf : ∀ g : Field, g.key i ≠ F.IPM_TX_PKT_CNT_COUNT.key i →
      (((b.ethCount (b.redPort i) 9 len).ethCount (b.redPort i) 10 1).bump F.IPM_TX_PKT_CNT_COUNT i 1).fld g i = b.fld g i := fun g hg => Block.fld_bump_ne _ hg _
  have hr := hf F.IPM_TX_STATUS_RED_ON (by simp)
  have hb := hf F.IPM_TX_STATUS_BLUE_ON (by simp)
  unfold Block.packetCounted
  cases (b.txf i).began with
  | true => exact ⟨hp, hr, hb, rfl⟩
  | false => simp [Block.ite, hp, hr, hb, Block.txf_bump, Block.txf_ethCount, Block.txf_set]

end

section
variable {b : Block} {i : Nat} (seq ts late due : Nat) (marker : Bool) (y : PktBody)

theorem Block.sendLeg_late (hu : b.on F.ETH_STATUS_LINK_UP (b.redPort i) = true) (hlate : 2000 < late) : b.sendLeg i false seq ts late due marker y =
    ((b.ethCount (b.redPort i) 11 1).bump F.IPM_TX_DROP_CNT_COUNT i 1).set F.IPM_TX_HIST_PKT_DROP i :=
  (if_neg (not_not_intro hu)).trans (if_pos hlate)

theorem Block.sendLeg_eq (hu : b.on F.ETH_STATUS_LINK_UP (b.redPort i) = true) (hlate : late ≤ 2000) :
    ∃ len, ∃ p : PktSent, (b.sendLeg i false seq ts late due marker y = ((b.packetCounted i len).setFld F.IPM_TX_SEQ_SEQ i seq).ite
        ((b.packetCounted i len).laneSends (ethLane (b.redPort i))) (fun c => c.emit (.mediaPacket (b.redPort i) i p))) ∧
      p.seq = seq ∧ p.ts = ts ∧ p.marker = marker ∧ p.ssrc = b.fld F.IPM_TX_SSRC_SSRC i ∧ p.dst = (b.txf i).redDest := by
  have hssrc : ∀ len, (((b.ethCount (b.redPort i) 9 len).ethCount (b.redPort i) 10 1).bump F.IPM_TX_PKT_CNT_COUNT i 1).fld F.IPM_TX_SSRC_SSRC i =
      b.fld F.IPM_TX_SSRC_SSRC i := fun _ => Block.fld_bump_ne _ (by simp) _
  refine ⟨_, _, (if_neg (not_not_intro hu)).trans (if_neg (Nat.not_lt.mpr hlate)), ?_⟩
  exact ⟨rfl, rfl, rfl, hssrc _, rfl⟩

/-- A leg of a packet, sent or dropped, leaves the device's other registers, and what the flow stops by. -/
theorem Block.sendLeg_left (hu : b.on F.ETH_STATUS_LINK_UP (b.redPort i) = true) : b.keeps (b.sendLeg i false seq ts late due marker y) (packetKeys i) ∧
    (b.sendLeg i false seq ts late due marker y).released = b.released ∧ (b.sendLeg i false seq ts late due marker y).dev = b.dev ∧
    ((b.sendLeg i false seq ts late due marker y).txf i).stopping = (b.txf i).stopping := by
  rcases Nat.lt_or_ge 2000 late with hlate | hlate
  · rw [Block.sendLeg_late seq ts late due marker y hu hlate]
    have hc : b.keeps (b.ethCount (b.redPort i) 11 1) (packetKeys i) := (b.onlyPorts_refl.ethCount _ 11 1).keeps _
    exact ⟨(hc.setFld (by simp [packetKeys]) _).setFld (by simp [packetKeys]) _, rfl, rfl, rfl⟩
  · obtain ⟨len, p, heq, -⟩ := Block.sendLeg_eq seq ts late due marker y hu hlate
    obtain ⟨hrel, hdev⟩ := b.packetCounted_device i len
    obtain ⟨-, -, -, hstop⟩ := b.packetCounted_left i len
    have hk : b.keeps ((b.packetCounted i len).setFld F.IPM_TX_SEQ_SEQ i seq) (packetKeys i) := (b.packetCounted_keeps i len).setFld (by simp [packetKeys]) _
    rw [heq]
    exact Block.ite_cases (P := fun c => b.keeps c (packetKeys i) ∧ c.released = b.released ∧ c.dev = b.dev ∧ (c.txf i).stopping = (b.txf i).stopping) _
      ⟨hk, hrel, hdev, hstop⟩ ⟨hk.of_regs rfl, hrel, hdev, hstop⟩

end

end Sys2Proof.Machine
end

section
/-!
The packets of an audio flow, and O19 itself (R232, R239, R241, R244, R247, R253).
-/
namespace Sys2Proof.Machine
set_option Elab.async false

/-! ### A packet of an audio flow that runs (R244, R247, R253) -/

/-- Flow `i` at a packet that opens a frame, its red leg on. -/
def Block.redOpened (b : Block) (i : Nat) : Block :=
  (((b.updFlowTx i fun f => { f with bare := false }).setFld F.IPM_TX_STATUS_STATE i 2).setTo F.IPM_TX_STATUS_RED_ON i true).setTo F.IPM_TX_STATUS_BLUE_ON i false

theorem Block.redOpened_keeps (b : Block) (i : Nat) : b.keeps (b.redOpened i) (packetKeys i) :=
  Block.keeps.setFld (Block.keeps.setFld (Block.keeps.setFld (c := b.updFlowTx i _) ((b.keeps_refl _).of_regs rfl) (by simp [packetKeys]) _)
    (by simp [packetKeys]) _) (by simp [packetKeys]) _

theorem Block.redOpened_left (b : Block) (i : Nat) : (b.redOpened i).fld F.IPM_TX_STATUS_RED_ON i = 1 ∧ (b.redOpened i).fld F.IPM_TX_STATUS_BLUE_ON i = 0 ∧
    (b.redOpened i).fld F.IPM_TX_PKT_CNT_COUNT i = b.fld F.IPM_TX_PKT_CNT_COUNT i ∧
    (b.redOpened i).fld F.IPM_TX_DROP_CNT_COUNT i = b.fld F.IPM_TX_DROP_CNT_COUNT i ∧
    ((b.redOpened i).txf i).stopping = (b.txf i).stopping ∧ ((b.redOpened i).txf i).redDest = (b.txf i).redDest := by
  have ht : (b.redOpened i).txf i = { b.txf i with bare := false } := b.txf_updFlowTx_same i fun f => { f with bare := false }
  rw [ht]
  refine ⟨?_, Block.fld_setTo_same _ _ _ _, ?_, ?_, rfl, rfl⟩
  · exact (Block.fld_setTo_ne _ (by simp) _).trans (Block.fld_setTo_same _ _ _ _)
  · unfold Block.redOpened
    rw [Block.fld_setTo_ne _ (by simp), Block.fld_setTo_ne _ (by simp), Block.fld_setFld_ne _ _ (by simp), Block.updFlowTx_fld]
  · unfold Block.redOpened
    rw [Block.fld_setTo_ne _ (by simp), Block.fld_setTo_ne _ (by simp), Block.fld_setFld_ne _ _ (by simp), Block.updFlowTx_fld]

theorem Block.redOpened_redPort (b : Block) (i : Nat) : (b.redOpened i).redPort i = b.redPort i :=
  congrArg (2 * ·) ((b.redOpened_keeps i).fld (by simp [packetKeys]))

theorem Block.redOpened_linkUp (b : Block) {i : Nat} (h2 : b.fld F.IPM_TX_STATUS_STATE i = 2) (hu : b.on F.ETH_STATUS_LINK_UP (b.redPort i) = true) :
    (b.redOpened i).on F.ETH_STATUS_LINK_UP ((b.redOpened i).redPort i) = true := b.redOpened_redPort i ▸ (b.redOpened_keeps i).linkUp h2 hu

/-- A flow that does not stop goes on after its packet. -/
theorem Block.flowTxEnd_on {b : Block} {i : Nat} (h : (b.txf i).stopping = false) (last : Bool) : b.flowTxEnd i last = b := if_neg (by simp [h])

section
variable {b : Block} {i : Nat} (hkind : b.fld F.IPM_TX_CFG_KIND i = 3)
include hkind

theorem Block.pktDue_audio (n j : Nat) : b.pktDue i n j = true := by simp [Block.pktDue, hkind]
theorem Block.pktOpens_audio (n j : Nat) : b.pktOpens i n j = true := by simp [Block.pktOpens, hkind]
theorem Block.pktLast_audio (j units : Nat) : b.pktLast i j units = true := by simp [Block.pktLast, hkind]

/-- The numbers of an audio packet (R247). -/
theorem Block.flowNumbers_audio (n j : Nat) :
    b.flowNumbers i n j = (n % 65536, n * (if b.on F.IPM_TX_CFG_PTIME i then 6 else 48) % 2 ^ 32, b) := by simp [Block.flowNumbers, hkind]

/-- An audio flow has no source to be judged. -/
theorem Block.flowFrameStart_audio : b.flowFrameStart i = (b.updFlowTx i fun f => { f with bare := false }).setFld F.IPM_TX_STATUS_STATE i 2 := by
  simp [Block.flowFrameStart, hkind, Block.ite]

variable (hi : i < 768) (hred : b.legOn i false = true) (hblue : b.legOn i true = false)
include hi hred hblue

/-- On the red leg alone an audio packet is that leg's, without a marker. -/
theorem Block.pktOut_audio (hu : b.on F.ETH_STATUS_LINK_UP (b.redPort i) = true) (n j units late : Nat) (last : Bool) (y : PktBody) :
    b.pktOut i n j units late last y = b.sendLeg i false (n % 65536) (n * (if b.on F.IPM_TX_CFG_PTIME i then 6 else 48) % 2 ^ 32) late
      (b.pktTime i n j units) false y := by
  obtain ⟨hk, hrel, hdev, -⟩ := Block.sendLeg_left (n % 65536) (n * (if b.on F.IPM_TX_CFG_PTIME i then 6 else 48) % 2 ^ 32) late
    (b.pktTime i n j units) false y hu
  have hoff := (hk.legOn hrel hi hdev true).trans hblue
  have hm : (last && decide (b.fld F.IPM_TX_CFG_KIND i ≠ 3) && decide (b.fld F.IPM_TX_CFG_KIND i ≠ 4)) = false := by simp [hkind]
  simp only [Block.pktOut, Block.flowNumbers_audio hkind, hm, hred, Block.ite_true, hoff, Block.ite_false]

/-- The legs are noted as they stood before the frame was opened. -/
theorem Block.legsNoted_audio : (((b.flowFrameStart i).setTo F.IPM_TX_STATUS_RED_ON i ((b.flowFrameStart i).legOn i false)).setTo F.IPM_TX_STATUS_BLUE_ON i
    ((b.flowFrameStart i).legOn i true)) = b.redOpened i := by
  have hk : b.keeps ((b.updFlowTx i fun f => { f with bare := false }).setFld F.IPM_TX_STATUS_STATE i 2) (packetKeys i) :=
    Block.keeps.setFld (c := b.updFlowTx i _) ((b.keeps_refl _).of_regs rfl) (by simp [packetKeys]) _
  rw [Block.flowFrameStart_audio hkind, hk.legOn rfl hi rfl, hk.legOn rfl hi rfl, hred, hblue]
  rfl

/-- A packet of a running flow is its red leg's, from the device with the frame opened. -/
theorem mediaPacketTx_audio (h2 : b.fld F.IPM_TX_STATUS_STATE i = 2) (hstop : (b.txf i).stopping = false)
    (hu : b.on F.ETH_STATUS_LINK_UP (b.redPort i) = true) (n j late : Nat) (live : Option (List (List Byte))) :
    ∃ due y, mediaPacketTx i n j late live b = (b.redOpened i).sendLeg i false (n % 65536) (n * (if b.on F.IPM_TX_CFG_PTIME i then 6 else 48) % 2 ^ 32) late
      due false y := by
  have hk := b.redOpened_keeps i
  have hfk : (b.redOpened i).fld F.IPM_TX_CFG_KIND i = 3 := (hk.fld (by simp [packetKeys])).trans hkind
  have hpt : (b.redOpened i).on F.IPM_TX_CFG_PTIME i = b.on F.IPM_TX_CFG_PTIME i := congrArg (· == 1) (hk.fld (by simp [packetKeys]))
  have hup := b.redOpened_linkUp h2 hu
  have hout := Block.pktOut_audio hfk hi ((hk.legOn rfl hi rfl false).trans hred) ((hk.legOn rfl hi rfl true).trans hblue) hup n j 1 late true
    ((b.redOpened i).audioPacket i n)
  obtain ⟨-, -, -, hstops⟩ := Block.sendLeg_left (n % 65536) (n * (if b.on F.IPM_TX_CFG_PTIME i then 6 else 48) % 2 ^ 32) late
    ((b.redOpened i).pktTime i n j 1) false ((b.redOpened i).audioPacket i n) hup
  obtain ⟨-, -, -, -, hopen, -⟩ := b.redOpened_left i
  rw [hpt] at hout
  unfold mediaPacketTx
  extract_lets kind st opens begun shown bare unit whole last row stream anc x sent
  have h3 : kind = 3 := hkind
  have hb : begun = b.flowFrameStart i := by
    simp only [begun, opens, h3, Block.pktOpens_audio hkind, Block.ite_true]
    rfl
  have hs : shown = b.redOpened i := by
    simp only [shown, hb]
    exact Block.legsNoted_audio hkind hi hred hblue
  have hx : x = ((b.redOpened i).audioPacket i n, 1, b.redOpened i) := by simp only [x, h3, hs]
  have hl : last = true := by
    simp only [last, hs]
    exact Block.pktLast_audio hfk _ _
  have hsent : sent = (b.redOpened i).pktOut i n j 1 late true ((b.redOpened i).audioPacket i n) := by simp only [sent, hx, hl]
  refine ⟨(b.redOpened i).pktTime i n j 1, (b.redOpened i).audioPacket i n, ?_⟩
  rw [if_neg (by simp [st, h2, Block.pktDue_audio hkind]), if_neg (by simp [h3]), if_neg (by simp [h3]), hl, h3, hsent, hout]
  exact Block.flowTxEnd_on (hstops.trans (hopen.trans hstop)) true

variable (h2 : b.fld F.IPM_TX_STATUS_STATE i = 2) (hstop : (b.txf i).stopping = false) (hu : b.on F.ETH_STATUS_LINK_UP (b.redPort i) = true)
include h2 hstop hu

theorem mediaPacketTx_sends (hl : b.laneSends (ethLane (b.redPort i)) = true) (n j : Nat) {late : Nat} (live : Option (List (List Byte))) (hlate : late ≤ 2000) :
    (∃ p : PktSent, Out.mediaPacket (b.redPort i) i p ∈ (mediaPacketTx i n j late live b).out ∧ p.seq = n % 65536 ∧
      p.ts = n * (if b.on F.IPM_TX_CFG_PTIME i then 6 else 48) % 2 ^ 32 ∧ p.marker = false ∧ p.ssrc = b.fld F.IPM_TX_SSRC_SSRC i ∧
      p.dst = (b.txf i).redDest) ∧
    (mediaPacketTx i n j late live b).fld F.IPM_TX_SEQ_SEQ i = n % 65536 ∧
    (mediaPacketTx i n j late live b).fld F.IPM_TX_PKT_CNT_COUNT i = min (b.fld F.IPM_TX_PKT_CNT_COUNT i + 1) (2 ^ 32 - 1) ∧
    (mediaPacketTx i n j late live b).fld F.IPM_TX_STATUS_RED_ON i = 1 ∧ (mediaPacketTx i n j late live b).fld F.IPM_TX_STATUS_BLUE_ON i = 0 := by
  obtain ⟨due, y, heq⟩ := mediaPacketTx_audio hkind hi hred hblue h2 hstop hu n j late live
  obtain ⟨len, p, hsent, hseq, hts, hmark, hssrc, hdst⟩ := Block.sendLeg_eq (n % 65536) (n * (if b.on F.IPM_TX_CFG_PTIME i then 6 else 48) % 2 ^ 32) late
    due false y (b.redOpened_linkUp h2 hu) hlate
  have hk := b.redOpened_keeps i
  obtain ⟨hron, hbon, hcnt, -, -, hred'⟩ := b.redOpened_left i
  obtain ⟨hc, hr, hbl, -⟩ := (b.redOpened i).packetCounted_left i len
  have hlane : ((b.redOpened i).packetCounted i len).laneSends (ethLane ((b.redOpened i).redPort i)) = true := by
    rw [((b.redOpened i).packetCounted_keeps i len).laneSends ((b.redOpened i).packetCounted_device i len).1 hi, hk.laneSends rfl hi, b.redOpened_redPort i]
    exact hl
  rw [hlane, Block.ite_true, b.redOpened_redPort i] at hsent
  rw [heq, hsent]
  refine ⟨⟨p, Block.mem_emit_out _ _, hseq, hts, hmark, hssrc.trans (hk.fld (by simp [packetKeys])), hdst.trans hred'⟩, ?_, ?_, ?_, ?_⟩
  · refine (Block.fld_setFld_same _ _ _ _).trans (Nat.mod_eq_of_lt ?_)
    exact lt_trans (Nat.mod_lt _ (by decide)) (by decide)
  · exact (Block.fld_setFld_ne _ _ (by simp)).trans (hc.trans (by rw [hcnt]))
  · exact (Block.fld_setFld_ne _ _ (by simp)).trans (hr.trans hron)
  · exact (Block.fld_setFld_ne _ _ (by simp)).trans (hbl.trans hbon)

/-- A packet more than 2 microseconds late is dropped and counted (R232). -/
theorem mediaPacketTx_drops (n j : Nat) {late : Nat} (live : Option (List (List Byte))) (hlate : 2000 < late) :
    (mediaPacketTx i n j late live b).fld F.IPM_TX_HIST_PKT_DROP i = 1 ∧
      (mediaPacketTx i n j late live b).fld F.IPM_TX_DROP_CNT_COUNT i = min (b.fld F.IPM_TX_DROP_CNT_COUNT i + 1) (2 ^ 32 - 1) ∧
      (mediaPacketTx i n j late live b).fld F.IPM_TX_PKT_CNT_COUNT i = b.fld F.IPM_TX_PKT_CNT_COUNT i := by
  obtain ⟨due, y, heq⟩ := mediaPacketTx_audio hkind hi hred hblue h2 hstop hu n j late live
  obtain ⟨-, -, hcnt, hdrop, -, -⟩ := b.redOpened_left i
  rw [heq, Block.sendLeg_late _ _ _ _ _ _ (b.redOpened_linkUp h2 hu) hlate]
  refine ⟨Block.fld_set_same _ _ _, ?_, ?_⟩
  · rw [Block.fld_set_ne _ (by simp), Block.fld_bump_same, ← hdrop]
    rfl
  · rw [Block.fld_set_ne _ (by simp), Block.fld_bump_ne _ (by simp), ← hcnt]
    rfl

end

/-- A flow that is off, a packet that is not due, and one that opens no frame of a flow that waits send nothing. -/
theorem mediaPacketTx_none {b : Block} {i n j : Nat} (late : Nat) (live : Option (List (List Byte)))
    (h : b.fld F.IPM_TX_STATUS_STATE i = 0 ∨ b.pktDue i n j = false ∨ (b.fld F.IPM_TX_STATUS_STATE i = 1 ∧ b.pktOpens i n j = false)) :
    mediaPacketTx i n j late live b = b := if_pos (by simpa using h)

/-- Settles O19: a leg's loss is `legTimeout_one` or `legTimeout_lost`, a merge window's end closes one frame (`mergeWinExpiry_closes`), and a packet of
an audio flow is its red leg's, sent or dropped. -/
theorem flowsLoseMergeAndSend : Obligations.FlowsLoseMergeAndSend := by
  intro s i hs hi
  refine ⟨fun hr hb => ?_, fun hr hb => ?_, fun hr => ?_, fun bs k nk ts nts arrived next hw hne hst hbase hcur hlater hseen => ?_, fun h => ?_,
    fun h2 hkind hred hblue hstop hu hl => ⟨fun n j late live hlate => ?_, fun n j late live hlate => ?_⟩, fun n j late live h => ?_⟩
  · have heq := legTimeout_one (b := s.quiet) hr hb
    refine ⟨_, run_live _ hs, ?_, ?_, onlyRegs_effect ?_⟩
    · rw [Block.effect_fld, heq, Block.fld_set_ne _ (by simp), Block.fld_clr_same]
    · rw [Block.effect_fld, heq]
      exact Block.fld_set_same _ _ _
    · rw [heq]
      exact ((Block.writes_refl _ _).setFld (by simp) _).setFld (by simp) _
  · obtain ⟨hup, hrl, hfl, hst, ho⟩ := legTimeout_lost (b := s.quiet) hi hr hb
    exact ⟨_, run_live _ hs, hup, hrl, hfl, hst, mem_effect_out ho⟩
  · exact ⟨_, run_live _ hs, onlyRegs_effect_self (legTimeout_down (b := s.quiet) hr)⟩
  · obtain ⟨ho, hleft⟩ := mergeWinExpiry_closes (b := s.quiet) ⟨hw, hne, hbase, hcur, hlater, hseen⟩ hst
    exact ⟨_, run_live _ hs, mem_effect_out ho, hleft⟩
  · exact ⟨_, run_live _ hs, onlyRegs_effect_self (mergeWinExpiry_none (b := s.quiet) h)⟩
  · obtain ⟨⟨p, ho, hp⟩, hleft⟩ := mediaPacketTx_sends (b := s.quiet) hkind hi hred hblue h2 hstop hu hl n j live hlate
    exact ⟨_, run_live _ hs, ⟨p, mem_effect_out ho, hp⟩, hleft⟩
  · exact ⟨_, run_live _ hs, mediaPacketTx_drops (b := s.quiet) hkind hi hred hblue h2 hstop hu n j live hlate⟩
  · exact ⟨_, run_live _ hs, onlyRegs_effect_self (mediaPacketTx_none (b := s.quiet) late live h)⟩

end Sys2Proof.Machine
end
